-- ==== Sys2Proof/Word.lean ====
section
/-! DEFINITION. The words of the GM5: every register is a 32-bit word, every page and word number eight bits (R69, R92). -/
namespace Sys2Proof

/-- A 32-bit register word. -/
abbrev Word := BitVec 32

/-- An eight-bit page number, word number or frame byte. -/
abbrev Byte := BitVec 8

end Sys2Proof
end

