-- ==== Sys2Proof/Syntax.lean ====
section
/-! DEFINITION. The commands of the block: one constructor per row of the opcode table, with the operands the rules give it,
and the measured quantities an event brings with it. A missing entry of a list of quantities reads 0. -/
namespace Sys2Proof

/-- The host links (R108). -/
inductive Link where
  | spi | can0 | can1
deriving DecidableEq, Repr

/-- PAGE, WORD and DATA of a request (R92). -/
structure Req where
  page : Byte
  word : Byte
  data : Word
deriving DecidableEq, Repr

/-- What start-up finds (R38, R58, R59, R61, R86, R129, R228, R294). -/
structure StartUp where
  /-- ADDR3 to ADDR0 read as a number -/
  addr : Nat := 0
  /-- segments that trained, by number; strobe compensation measured per die, ns -/
  segments : List Nat := []
  delays : List Nat := []
  /-- image checks of banks A and B; self-tests of cores A and B -/
  bankA : Bool := true
  bankB : Bool := true
  coreA : Bool := true
  coreB : Bool := true
  /-- store capacitance measured, 0.1 µF -/
  capacitance : Nat := 220
  /-- CRC checks of the two Sage copies -/
  copyA : Bool := true
  copyB : Bool := true
  /-- of each journal entry the last run left open, oldest first, whether its commit record is complete; entries are closed in
  order, so one behind an incomplete one counts as incomplete, and so does a missing one (R86, R297) -/
  records : List Bool := []
  /-- the supply rose from below the start threshold -/
  powerOn : Bool := true
  /-- load-switch zones whose sensor reads open or short -/
  zoneFaults : List Nat := []
  /-- checks of the Bay image and of its parameter copies (at least one valid), and of the newer and the older of Bay's stored
  copies -/
  bayImage : Bool := true
  bayParams : Bool := true
  bayCopy : Bool := true
  bayOlder : Bool := true
  /-- levels at start: auxiliary contacts, SHORE_DET, WAKE_N, HOME and LIM of the axes -/
  aux : Nat := 0
  shoreDet : Bool := false
  wakeN : Bool := false
  home : Nat := 0
  lim : Nat := 0
deriving DecidableEq, Repr

/-- What one M-die delivers at a boundary: the samples of the boundary, and the means of the frame that ends there. -/
structure DieSample where
  /-- filter outputs before gain and correction, µV, 64 cells; switch currents through the same filter, µA -/
  u : List Int := []
  /-- the parts of `u` that come from grid samples taken before the last move of the drift gain and after the one before it,
  then from the samples before that one, and so on (R132) -/
  past : List (List Int) := []
  sw : List Int := []
  /-- the parts of `sw` that come from grid samples taken before the last change of the tap resistances and after the one before it,
  then from the samples before that one, and so on (R132) -/
  swPast : List (List Int) := []
  /-- mean switch currents of the ended frame, 0.1 mA; charge through the switches in it, µC -/
  swMean : List Nat := []
  swCharge : List Nat := []
  /-- tap leakage of the laid-up time, 0.01 µA (R67) -/
  leak : List Nat := []
  /-- the die sampled on its local timer (R120) -/
  strobeMiss : Bool := false
  /-- the results of the ended frame are complete (R129) -/
  delivered : Bool := true
deriving DecidableEq, Repr

/-- The samples and means of one boundary. -/
structure FrameSample where
  dies : List DieSample := []
  /-- U of I_A and I_B, 0.01 µV; their integrals since the last boundary, 0.01 µV × µs -/
  ua : Int := 0
  ub : Int := 0
  intA : Int := 0
  intB : Int := 0
  /-- peak-to-peak variation of I_A over the filter span, mA -/
  spanIa : Nat := 0
  /-- pins VDIV_STR and VDIV_LNK, µV -/
  ustr : Int := 0
  ulnk : Int := 0
  /-- VSHIP, VLS, VM and the hold-up store, mV -/
  vship : Nat := 24000
  vls : Nat := 24000
  vm : Nat := 0
  vhup : Nat := 40000
  /-- coil currents of CD0 to CD3, mA; the mean current that each load on LS0 to LS15 would draw without a limit over the frame, and
  the highest within it, mA; zone temperatures, 0.1 °C; brake currents, mA -/
  coils : List Nat := []
  loads : List Nat := []
  peaks : List Nat := []
  zones : List Int := []
  brakes : List Nat := []
  /-- gate supply VGG, mV; bootstraps of HB0 to HB23, 0.1 V -/
  vgg : Nat := 0
  bst : List Nat := []
deriving DecidableEq, Repr

/-- What the SAR of one die converts in a scan (R146), and the span hold capacitors (R158). -/
structure ScanSample where
  /-- codes of N0 to N15, 65,536 = full ratio -/
  ntc : List Nat := []
  /-- die diode, 0.01 °C, and whether it is open or short; die supply, mV -/
  tdie : Int := 2500
  diodeFault : Bool := false
  supply : Nat := 0
  /-- ρA and ρB, 10⁻⁹ (R140) -/
  rhoA : Nat := 1000000000
  rhoB : Nat := 1000000000
  /-- SAR value of the cross-check cell and of up to two spans, µV -/
  sar : Int := 0
  spans : List Int := []
deriving DecidableEq, Repr

/-- What the motion island reads at a servo boundary, per axis (R334 to R347). -/
structure AxisSample where
  /-- encoder position in counts; load angle in electrical degrees; torque-producing current of a BLDC motor in mA; amplitude of
  the voltage at the sense terminals in µV -/
  enc : Int := 0
  angle : Nat := 0
  torque : Int := 0
  sense : Nat := 0
  /-- levels of HOME and LIM, an encoder fault -/
  home : Bool := false
  lim : Bool := false
  encFault : Bool := false
deriving DecidableEq, Repr

/-- How a gate pulse went (R352): the bootstrap before it and after a precharge, 0.1 V; a trip of the comparator of its gate. -/
structure PulseEnd where
  before : Nat := 120
  charged : Nat := 120
  trip : Bool := false
deriving DecidableEq, Repr

/-- A half-bridge in one PWM period: mean switching time and commanded low-side conduction, ns (R357, R363). -/
structure HalfPeriod where
  ns : Nat := 0
  low : Nat := 0
deriving DecidableEq, Repr

/-- A learned node of an impedance table as an image holds it (R232, R273): node TI × 8 + SI, values in µΩ, update count. -/
structure NodeImage where
  node : Nat
  zf : Nat
  zd : Nat
  count : Nat
deriving DecidableEq, Repr

/-- The learned data of a cell in a mirror image (R228, R273): SOC and zero point in percent, capacity in Ah. -/
structure CellImage where
  key : Nat
  has : Bool := false
  soc : Rat := 0
  zero : Rat := 0
  cap : Rat
  lrn : Nat := 0
  err : Nat := 0
  nodes : List NodeImage := []
deriving DecidableEq, Repr

/-- A mirror image (R273): committed configuration by page × 256 + word, the last completed write-back (charges in µC), tap
resistance and temperature words by page × 256 + word, divider gains, trust anchor, enrolled tag IDs by slot. -/
structure MirrorImage where
  config : List (Nat × Word) := []
  cells : List CellImage := []
  ahDis : Nat := 0
  ahChg : Nat := 0
  efc : Rat := 0
  timer : Nat := 0
  taps : List (Nat × Word) := []
  gainStr : Word := 0
  gainLnk : Word := 0
  anchor : List Word := []
  ids : List (Nat × Nat) := []
deriving DecidableEq, Repr

/-- A status message of the ring (R266 to R272). -/
structure RingMsg where
  addr : Nat
  serial : Nat
  healthy : Bool := true
  inRun : Bool := true
  excluded : Bool := false
  /-- the sender announces its departure -/
  departing : Bool := false
  /-- STATE, path, deadline left in ms and targets of PRT_STAT, PRT_PATH and PRT_TARGET -/
  state : Nat := 0
  path : Nat := 0
  left : Nat := 0xFFFF
  disT : Nat := 0
  chgT : Nat := 0
  /-- CUR_I in mA, V_STR and V_LNK in mV, PRT_BUS.LIVE in V -/
  curI : Int := 0
  vstr : Int := 0
  vlnk : Int := 0
  live : Nat := 0
  /-- SGE_QREM, 0.01 Ah -/
  qDis : Nat := 0
  qChg : Nat := 0
  /-- the sender waits for a grant; its own holds of R270 rows 1 and 2 -/
  waiting : Bool := false
  held : Bool := false
  /-- the head the sender names, the member it grants as head -/
  head : Option Nat := none
  grant : Option Nat := none
  /-- serial and sequence of the valid mirror the sender holds -/
  mirror : Option (Nat × Nat) := none
  /-- the message arrived on K_B, and straight from its sender -/
  portB : Bool := false
  direct : Bool := true
deriving DecidableEq, Repr

/-- An ECDSA signature. -/
structure Signature where
  r : Nat := 0
  s : Nat := 0
deriving DecidableEq, Repr

/-- The certificate of a tag (R278): the ID, the public key (X then Y, in words) and the cell count that the signature of the trust
anchor binds. -/
structure Certificate where
  id : BitVec 64 := 0
  key : List Word := []
  cells : Byte := 0
  sig : Signature := {}
deriving DecidableEq, Repr

/-- What authenticating a slot finds (R278, R280): whether a tag answers, its ID and certificate, the challenge the random generator
gave, and the tag's signature. -/
structure TagResult where
  present : Bool := true
  id : BitVec 64 := 0
  cert : Certificate := {}
  challenge : BitVec 256 := 0
  sig : Signature := {}
deriving DecidableEq, Repr

/-- A sample pair of M0 (R320): grid index, I_M in 0.01 µV, V_M in µV. -/
structure SamplePair where
  index : Nat
  ui : Int
  uv : Int
deriving DecidableEq, Repr

/-- A channel that has been in current limit since a moment, µs (R368). -/
structure InLimit where
  chan : Nat
  since : Nat
deriving DecidableEq, Repr

/-- A raw CAN request frame (R111): identifier, whether it is an extended one, FD format. -/
structure CanFrame where
  id : Nat
  ide : Bool
  fd : Bool
  bytes : List Byte
deriving DecidableEq, Repr

/-- The commands of the block: one constructor per row of the opcode table, in its order. -/
inductive Instr where
  /-- R59: Supply held above 16.5 V for 10 ms; start-up begins at t = 0 with regulators on, outputs off and fault line
  asserted. -/
  | startQualified (x : StartUp)
  /-- R62: An M-die reports its references settled after power transfer. -/
  | mdieSettled (k : Nat)
  /-- R62: An M-die not settled 5 ms after power transfer is powered down and retried once, then marked failed. -/
  | mdieSettleTimeout (k : Nat)
  /-- R58: The hold-up store reaches 38 V and HUP_OK sets. -/
  | holdupStoreCharged
  /-- R58: The store has not reached 38 V within 150 ms; HUP_FAIL sets and a class 2 event is raised. -/
  | holdupTimeout
  /-- R59: At the first 4 ms boundary after step 0x4 with HUP_OK or 150 ms passed, the committed frame period applies, the
  first frame is sampled and the fault line is released if no source is active. -/
  | enterRun (x : FrameSample)
  /-- R54: Supply below 16.8 V for 1 ms sets PWR_STAT.LOW and raises a class 1 event. -/
  | supplyLow
  /-- R54: Supply above 17.1 V for 10 ms clears LOW. -/
  | supplyLowClear
  /-- R55: Supply below 15.5 V for 20 us sets WARN and COMMIT_INH, stops new write-backs, triggers a flush and pauses
  balancing. -/
  | pwrWarn
  /-- R55: Supply above 16.0 V for 10 ms clears PWR_WARN; balancing resumes at the next period and a deferred write-back is
  scheduled 1 s later. -/
  | pwrWarnClear
  /-- R56: Supply below 13.0 V for 20 us asserts the fault line, drops PROP_EN, switches off outputs and gates, stops M-die
  power and runs the hold-up tasks. -/
  | pwrFail
  /-- R56: The hold-up store falls to its minimum and the C-die enters reset. -/
  | cdieReset
  /-- R63: VM enters or leaves 11.0-62.0 V for 10 ms and VM_OK changes. -/
  | vmOkChange (ok : Bool)
  /-- R64: A write of 0x0000C0DE to PWR_RESET runs the PWR_FAIL actions without hold-up, flushes Rosemary and restarts. -/
  | hostReset (l : Link) (key : Word)
  /-- R65: A write of 0x00001A1D to PWR_LAYUP is decided and, if accepted, writes back Sage, flushes, leaves the ring, powers
  down dies and discharges the store. -/
  | layupEnter (l : Link) (key : Word) (wakeN : Bool)
  /-- R66: An enabled wake source held asserted for the deglitch time wakes the module into start-up. -/
  | layupWake (source : Nat)
  /-- R66: VSHIP below 13.0 V for 20 us in laid-up mode discards the held wake cause. -/
  | layupSupplyLost
  /-- R38: ADDR pins change in service; the address is kept and a class 1 event is raised. -/
  | addrChange (addr : Nat)
  /-- R106: A NOP request returns the next word of an open burst, or zero. -/
  | nop (l : Link) (r : Req)
  /-- R103: A READ returns the word of the current publication with STALE and REPEAT, clearing RC words. -/
  | read (l : Link) (r : Req)
  /-- R78: A WRITE to a register without a row of its own is checked, clamped into the shadow or applied, and its page marked
  pending. -/
  | write (l : Link) (r : Req)
  /-- R106: A BURST_READ snapshots up to 256 words of one page on its link and opens a burst. -/
  | burstRead (l : Link) (r : Req)
  /-- R82: A COMMIT op or CFG_COMMIT write is decided by priority and, if accepted, takes a sequence number and copies the
  pending shadows. -/
  | commit (l : Link) (r : Req)
  /-- R97: A STATUS request returns the summary word. -/
  | status (l : Link) (r : Req)
  /-- R96: A request with an unknown OP or non-zero reserved bits is refused with code 0x06. -/
  | unknownOp (l : Link) (op rsv : BitVec 4) (r : Req)
  /-- R100: An SPI frame failing CRC or length is not executed; the next reply carries CRCERR and the error is counted. -/
  | crcErrorFrame (page word : Byte)
  /-- R99: A frame that begins before the previous reply is formed is discarded and answered with code 0x05. -/
  | spiNotReady
  /-- R111: A CAN request frame is taken whole, its records executed in order and one reply frame formed. -/
  | canRequestFrame (port : Bool) (f : CanFrame)
  /-- R110: A CAN port enters error-passive. -/
  | canErrorPassive (port : Bool) (tec recv : Nat)
  /-- R110: A CAN port enters bus-off. -/
  | canBusOff (port : Bool)
  /-- R110: After 128 occurrences of 11 recessive bits a bus-off port recovers. -/
  | canBusoffRecovery (port : Bool)
  /-- R113: ATTN changes from clear to set and the port sends an unsolicited STATUS reply frame. -/
  | attnMessage (port : Bool)
  /-- R113: The 10 ms window closes with ATTN set again and one delayed frame is sent. -/
  | attnMsgWindowEnd (port : Bool)
  /-- R83: At a frame boundary one island's pages of an accepted commit apply and take its CMTSEQ. -/
  | commitStep
  /-- R81: A write to CFG_DISCARD copies active configuration back into the shadow of one or all pending pages. -/
  | cfgDiscard (l : Link) (v : Word)
  /-- R72: A write to PCTL.EN enables or disables a block, refused while the block is active. -/
  | pctlEn (l : Link) (page : Byte) (en : Bool)
  /-- R72: A write of 1 to PCTL.RST resets the block's results, flags and state and clears itself within one frame. -/
  | pctlRst (l : Link) (page : Byte)
  /-- R73: Writing 1 to IFLAG bits clears them and updates ATTN. -/
  | iflagClear (l : Link) (page : Byte) (bits : Word)
  /-- R88: A password written to CFG_UNLOCK unlocks or relocks the link and counts wrong tries. -/
  | cfgUnlock (l : Link) (pw : Word)
  /-- R88: An unlock lapses 300 s after it was granted. -/
  | unlockExpiry (l : Link) (saf : Bool)
  /-- R88: A 600 s unlock lockout ends. -/
  | lockoutEnd (saf : Bool)
  /-- R88: An unlocked link sets a new BCD CFG password by journaled write. -/
  | cfgNewpw (l : Link) (pw : Word)
  /-- R88: Writing 0x00000DEF loads Reset values into the shadows of every RWS page and sets their pending bits. -/
  | cfgDefault (l : Link) (key : Word)
  /-- R89: FWCTL OPEN invalidates the non-running bank and opens an update session. -/
  | fwOpen (l : Link)
  /-- R89: A CFG_FWDATA write stores four image bytes through the MRAM port and advances CFG_FWADDR. -/
  | fwData (l : Link) (v : Word)
  /-- R89: FWCTL VERIFY starts the signature check of the target bank. -/
  | fwVerify (l : Link)
  /-- R89: Verification finishes within 60 ms and its result appears in CFG_FWSTAT. -/
  | fwVerifyDone (pass : Bool) (version : Word)
  /-- R89: FWCTL ACTIVATE makes the verified target the preferred bank by journaled write. -/
  | fwActivate (l : Link)
  /-- R89: FWCTL ABANDON closes the session and leaves the target invalid. -/
  | fwAbandon (l : Link)
  /-- R24: At each boundary all cells and M0 channels are sampled, pages publish their frame and the hub evaluates current and
  voltage. -/
  | frameBoundary (x : FrameSample)
  /-- R137: Fast cells are sampled again at mid-frame. -/
  | midFrameSample (xs : List DieSample)
  /-- R121: LEAD before the quiet boundary every balancing switch opens. -/
  | quietLead
  /-- R118: At each 250 us servo boundary the G-die latches a set-point and firmware computes the next. -/
  | servoTick (xs : List AxisSample)
  /-- R146: The auxiliary scan converts the enabled NTC inputs and fixed channels of every die. -/
  | auxScan (xs : List ScanSample)
  /-- R123: A SYNC_IN rising edge is time-stamped and may trigger the scan; further events set SYNC_EXTRA. -/
  | syncInEdge
  /-- R123: No qualifying event by the latest start; the scan starts there and SYNC_MISS counts. -/
  | syncMiss
  /-- R125: A read of THY_TIME_LO latches the upper time-base bits for the link. -/
  | timeLoRead (l : Link)
  /-- R126: A write to THY_EPOCH_LO is held for the writing link. -/
  | epochLoWrite (l : Link) (v : Word)
  /-- R126: A write to THY_EPOCH_HI applies the held low half and the high half and records the change. -/
  | epochHiWrite (l : Link) (v : Word)
  /-- R18: The crystal stops; islands 0-6 run free on held trim and the frame error is flagged. -/
  | xtalLost
  /-- R18: The crystal returns and the oscillators relock within 2 ms. -/
  | xtalRegained
  /-- R17: Island 3 and island 7 compare clock counts over a 1 s window. -/
  | clockCheckWindow (dev : Int)
  /-- R119: Every 1 s the strobe compensation of each segment is re-measured. -/
  | strobeRecal (delays : List Nat)
  /-- R129: A segment losing symbol lock is declared down and its dies moved to the other path. -/
  | segmentDown (g : Nat)
  /-- R129: Every 100 ms the C-die tries to retrain a down segment; success sets SEG_UP and restores paths. -/
  | segmentRetrain (g : Nat) (trained : Option (List Nat))
  /-- R130: A die without an up path for 2 ms is marked unhealthy and raises the stack-link loss condition. -/
  | dieUnreachable (k : Nat)
  /-- R130: A die reached again rejoins at the first boundary after a valid strobe. -/
  | dieRejoin (k : Nat)
  /-- R131: An M-die without valid traffic for 20 ms opens its switches, stops its converters and sleeps. -/
  | dieSleep (k : Nat)
  /-- R131: A sleeping die reached by valid traffic settles its references and rejoins at a boundary. -/
  | dieWake (k : Nat)
  /-- R140: Every 24 h MD_GAIN, automatic current offsets and motion envelopes are saved to MRAM. -/
  | periodicSave
  /-- R26: Device firmware evaluates frame n data for tap suspicion, group limits and disconnection conditions during frame
  n+1. -/
  | firmwareEval
  /-- R154: A sweep of T0 to T64 starts at RUN and every SWEEP seconds. -/
  | sweepStart
  /-- R154: A write to CMP_OWREQ queues a tap test. -/
  | owRequest (l : Link) (die tap : Nat)
  /-- R153: A tap test begins its pull-up window at a boundary and holds the affected switches open. -/
  | tapTestStart (k : Nat)
  /-- R153: The pull-up window ends after W frames and the pull-down window begins. -/
  | tapWindowEnd (k : Nat)
  /-- R159: At the end of both windows the tap is decided broken, good, input fault, inconclusive or high resistance. -/
  | tapTestDecide (k : Nat)
  /-- R166: Gated comparators evaluate at mid-frame of a quiet frame and count confirmations. -/
  | gatedEval (cells : List (List Int))
  /-- R166: CONF consecutive evaluations in trip state trip the gated comparator onto the fault line. -/
  | gatedTrip
  /-- R166: An absolute or span-mode comparator in trip for its deglitch time drives the fault line. -/
  | absoluteTrip (k cell : Nat) (v : Int)
  /-- R171: At boundary + 3P/4 of a quiet frame one cell's four comparators are tested. -/
  /- `failing`: 4 × die + number of each comparator that did not toggle: 0 gated OV, 1 gated UV, 2 absolute OV, 3 absolute UV -/
  | comparatorSelfTest (failing : List Nat)
  /-- R173: A die's fault channel carrier is missing; 5 us asserts the line and 50 us without a code records source 9. -/
  | faultChannelLost (k : Nat) (coded : Bool)
  /-- R174: A trip code byte from a die updates the active source bits. -/
  | tripCode (k : Nat) (code : Byte)
  /-- R174: A die's carrier returns and its share of the source bits clears. -/
  | carrierReturn (k : Nat)
  /-- R175: Writing 0x0000C1EA to CMP_FLCLR releases the latched fault line if no source is active. -/
  | flclr (l : Link) (key : Word)
  /-- R201: The fast overcurrent comparator on I_A trips after its deglitch and drives the fault line. -/
  | fastOcTrip (u : Int)
  /-- R203: Once per second the overcurrent comparator is tested at mid-frame. -/
  | ocSelfTest (pass : Bool)
  /-- R179: A switch opens at the end of its on-time. -/
  | balanceOnTimeEnd (k cell : Nat)
  /-- R178: A switch commanded open carries above 5 mA for 1 ms and the cell is locked off. -/
  | switchStuck (k cell : Nat)
  /-- R178: A closed switch above 350 mA for 100 us opens for the rest of the period. -/
  | switchOvercurrent (k cell : Nat)
  /-- R178: A closed switch with under 10 mA for 1 ms locks the cell off as open loop. -/
  | balanceOpenLoop (k cell : Nat)
  /-- R178: A write to BL_SWCLR releases one or all locked-off cells. -/
  | blSwclr (l : Link) (die cell : Nat)
  /-- R190: Writing 1 to BL_LEARN starts tap-resistance learning on the die. -/
  | learnStart (l : Link) (die : Nat)
  /-- R190: Writing 2 to BL_LEARN aborts learning and keeps previous values. -/
  | learnAbort (l : Link) (die : Nat)
  /-- R198: CONF frames of disagreement or range failure make the current suspect. -/
  | currentSuspect
  /-- R198: 1,000 agreeing frames end the suspect state. -/
  | currentAgreed
  /-- R199: Writing 1 to CUR_ZERO starts a zeroing while CD1 is open. -/
  | curZero (l : Link)
  /-- R199: A zeroing starts automatically after the condition has held for 10 s. -/
  | zeroAutoStart
  /-- R199: After 1,024 frames each channel's average becomes its offset or names it BAD. -/
  | zeroingDone
  /-- R207: Command 0x1 starts calibration of V_STR gain from V_SUM. -/
  | stvCalStr (l : Link)
  /-- R207: Command 0x2 starts calibration of V_LNK gain from V_STR. -/
  | stvCalLnk (l : Link)
  /-- R207: Command 0x3 sets both gains to 0. -/
  | stvCalClear (l : Link)
  /-- R207: A 256-frame calibration run completes or fails. -/
  | stvCalDone
  /-- R208: Sage computes SOC, reconciliation, capacity, impedance, limits and warnings for a Sage frame and publishes at n +
  2s. -/
  | sageStep
  /-- R227: A write-back falls due PERIOD minutes after the last one started. -/
  | writebackPeriod
  /-- R227: Writing 1 to SGE_CMD makes a write-back due. -/
  | sgeCmdWriteback (l : Link)
  /-- R228: A due write-back starts once PWR_WARN is clear and no other runs, holding the MRAM lease. -/
  | writebackStart
  /-- R228: The copy's header is written by journaled write and WBDONE sets. -/
  | writebackDone
  /-- R211: SGE_TBLCMD 0x1 loads the staging copy from the selected table. -/
  | tableLoad (l : Link)
  /-- R211: SGE_TBLCMD 0x2 checks the staging copy and activates it by journaled write. -/
  | tableActivate (l : Link)
  /-- R211: A read or write of SGE_TBLDATA accesses a staging entry and advances ENTRY. -/
  | tbldataAccess (l : Link) (v : Option Word)
  /-- R231: A write to SGC_BANK selects the die shown to the link, refused for an unfitted die. -/
  | sgcBankWrite (l : Link) (v : Word)
  /-- R230: A write to SGC_RESET resets one or all cells of the bank. -/
  | sgcReset (l : Link) (v : Word)
  /-- R244: A write to LIM_ZSEL selects an impedance node for the link. -/
  | limZselWrite (l : Link) (v : Word)
  /-- R248: PRT_CMD CONNECT is decided and, if accepted, waits for a grant and starts CD1 pull-in. -/
  | connect (l : Link)
  /-- R264: PRT_CMD DISCONNECT raises condition 0x0D. -/
  | disconnect (l : Link)
  /-- R261: PRT_CMD CHARGE_ON closes CD3 when every condition holds. -/
  | chargeOn (l : Link)
  /-- R262: PRT_CMD CHARGE_OFF sets the charge target to 0 ahead of opening CD3. -/
  | chargeOff (l : Link)
  /-- R264: PRT_CMD CLEAR clears FAULT bits of de-energised contactors and ends condition 0x0C. -/
  | prtClear (l : Link)
  /-- R254: Writing 0x0000C01D to PRT_WELDCLR returns STATE from WELDED to OPEN. -/
  | weldclr (l : Link) (key : Word)
  /-- R246: The pull-in time ends and the coil enters economiser hold. -/
  | pullInEnd (m : Nat)
  /-- R249: An auxiliary contact changes state and advances the closing or opening sequence. -/
  | auxChange (m : Nat) (closed : Bool)
  /-- R251: 95 % not reached by TMAX; pre-charge fails and the string returns to OPEN. -/
  | prechargeTimeout
  /-- R249: 20 ms after AUX0 closes, CD2 is turned off. -/
  | prechargeOverlapEnd
  /-- R249: No bus match within TWAIT; CD1 opens and OUT reads 0x4. -/
  | matchTimeout
  /-- R251: The pre-charge cool-down ends. -/
  | prechargeCoolEnd
  /-- R247: A high side above 5.0 A for 10 us switches off in hardware as a contactor fault. -/
  | coilOvercurrent (m : Nat)
  /-- R247: Hold current outside its window for 100 ms switches the high side off. -/
  | coilCurrentFault (m : Nat)
  /-- R247: The auxiliary contact is not closed TCLOSE after pull-in; contactor fault. -/
  | auxCloseTimeout (m : Nat)
  /-- R253: The auxiliary contact is not open TOPEN after turn-off; the contactor is welded. -/
  | auxOpenTimeout (m : Nat)
  /-- R252: The CD1 hold for the weld checks ends and CD1 is turned off. -/
  | cd1HoldEnd
  /-- R258: The hardware deadline expires and island 5 turns off CD0-CD3 together under load. -/
  | deadlineExpiry
  /-- R256: For code 0x07 the sequenced opening starts when the deadline passes. -/
  | badChannelsOpen
  /-- R255: Current suspect for TSUSP raises condition 0x06. -/
  | suspectTimeExpiry
  /-- R255: A cell carrying D for TD raises condition 0x0A. -/
  | degradedCellExpiry (k cell : Nat)
  /-- R255: A cell above TMAX for TCONF raises condition 0x03. -/
  | cellTempExpiry (k cell : Nat)
  /-- R259: The limit frame is sent every PERIOD and at once on a change. -/
  | limitFrame
  /-- R262: 200 ms after the charge target fell to 0 the CD3 high side turns off. -/
  | chargeOffTimeout
  /-- R262: SHORE_DET changes; deassertion opens CD3 within 5 ms. -/
  | shoreDetChange (level : Bool)
  /-- R266: Every 1 ms each member sends its status message and applies head and grant rules. -/
  | ringCycle
  /-- R266: A status message from a member is received and forwarded. -/
  | ringStatusMsg (m : RingMsg)
  /-- R266: No valid message from a member for 5 ms; it is lost. -/
  | memberLost (a : Nat)
  /-- R270: TGRANT passes without a grant; the wait ends and NOGRANT sets. -/
  | grantTimeout
  /-- R272: The head sends the system frame every PERIOD and at once on a change. -/
  | systemFrame
  /-- R273: A complete image is stored in the holder's free half with a journaled header. -/
  | mirrorReceived (source serial seq : Nat) (image : MirrorImage) (ok : Bool)
  /-- R274: The neighbour's header reply decides ordinary start, replacement or restore. -/
  | mirrorHeaderReply (serial : Option Nat)
  /-- R275: KRG_CMD ADOPT fetches the mirror image. -/
  | adopt (l : Link)
  /-- R275: The fetched image passes its CRC and its data applies through shadows, one commit and journaled writes. -/
  | adoptFetchDone (ok : Bool) (m : MirrorImage)
  /-- R275: KRG_CMD DECLINE clears replacement or restore and keeps own data. -/
  | decline (l : Link)
  /-- R270: KRG_CMD CANCEL ends a grant wait. -/
  | cancel (l : Link)
  /-- R282: AUT_CMD 0x1 installs the staged public key as trust anchor. -/
  | installAnchor (l : Link)
  /-- R282: AUT_CMD 0x2 enrols the IDs the chains present. -/
  | enrol (l : Link) (ids : List (Nat × Nat))
  /-- R282: AUT_CMD 0x3 starts a round for every enabled slot. -/
  | authenticateAll (l : Link)
  /-- R279: Every POLL seconds slot IDs are read and a changed ID starts a round. -/
  | autPoll (ids : List (Nat × Nat))
  /-- R280: A slot authentication completes and the slot is decided. -/
  | slotAuthDone (slot : Nat) (x : TagResult)
  /-- R282: A write to AUT_KEYDATA stores a staging key word and advances IDX. -/
  | autKeydataWrite (l : Link) (v : Word)
  /-- R284: A write to AUT_SEL selects a slot for the link, refused for an unfitted die. -/
  | autSelWrite (l : Link) (v : Word)
  /-- R286: A lockstep mismatch freezes both cores, captures state and starts self-tests. -/
  | lockstepMismatch (parA parB : Bool)
  /-- R287: Island 1 decides the survivor from self-test and parity, revokes the pair's leases and begins recovery. -/
  | arbitration (stA stB : Bool)
  /-- R286: The survivor resumes in degraded mode and applies the write queue. -/
  | coreResume (len : Nat)
  /-- R291: In degraded mode a self-test slice runs at the first boundary after each 100 ms mark: it begins, or ends with its
  verdict. -/
  | selfTestSlice (pass : Bool) (ends : Bool)
  /-- R292: No accepted renewal for 2 ms; both cores are held in reset. -/
  | watchdogExpiry
  /-- R293: FLT_DEGR_LEFT reaches 0 and raises condition 0x0B. -/
  | degradedTimeExpiry
  /-- R293: FLT_DEGR_LEFT is saved to MRAM once a minute. -/
  | degradedTimeSave
  /-- R295: A party acquires a lease or queues for it. -/
  | leaseAcquire (slot party : Nat)
  /-- R295: A holder releases a lease and it passes to the longest waiter. -/
  | leaseRelease (slot party : Nat)
  /-- R296: A lease not renewed for 50 us expires and is revoked. -/
  | leaseExpiry (slot : Nat)
  /-- R298: Island 1 finishes rolling forward the revoked holder's journal entries and releases the port. -/
  | mramRecoveryDone (entries : List Bool) (header : Option Bool)
  /-- R302: An event record is rate-checked and accepted into staging with the next SEQ or dropped. -/
  | recordAccept
  /-- R304: Each whole second of the time base triggers a flush. -/
  | flushPeriodic
  /-- R304: A triggered flush starts once the MRAM port is free or passes to island 1. -/
  | flushStart
  /-- R304: The flush has written every staged record; an overflow summary follows if records were dropped. -/
  | flushDone
  /-- R306: A code's rate window closes and a suppression summary is written if any were suppressed. -/
  | rateWindowClose
  /-- R309: Writing the key to RSM_CLEAR erases Rosemary and stores a clear record. -/
  | rsmClear (l : Link) (key : Word)
  /-- R310: A write to RSM_SNAP freezes, renews or releases the link's snapshot. -/
  | rsmSnapWrite (l : Link) (v : Word)
  /-- R310: A snapshot is released 600 s after its last renewal. -/
  | snapshotExpiry (link : Link)
  /-- R311: A write to RSM_RDSEL selects a record for the link's window. -/
  | rsmRdselWrite (l : Link) (seq : Word)
  /-- R312: Within 2 ms of a cycle's end island 1 writes its ledger record or counts it lost. -/
  | ledgerRecordWrite
  /-- R313: A write to CYL_ACK acknowledges records up to a sequence. -/
  | cylAck (l : Link) (seq : Word)
  /-- R316: A write to CYL_RDSEL selects a ledger record for the link. -/
  | cylRdselWrite (l : Link) (seq : Word)
  /-- R321: A sample pair reaches island 7 and its energy is accumulated. -/
  | baySamplePair (p : SamplePair) (crcOk : Bool)
  /-- R320: A pair has not arrived 16 ms after its grid instant. -/
  | bayPairLost
  /-- R322: Every 3,200 pairs Bay closes an interval, decides its state and credits the energy. -/
  | bayInterval
  /-- R324: Bay writes a register copy every 1 s and at PWR_WARN and PWR_FAIL. -/
  | bayCopyWrite
  /-- R325: The AUX3 line opens or closes a charging session. -/
  | bayAux3Change (closed : Bool)
  /-- R328: Mailbox BREAK opens the seal. -/
  | bayBreak (rest : List Word)
  /-- R328: Mailbox SET changes a metrological parameter. -/
  | baySet (param : Byte) (rest : List Word)
  /-- R328: Mailbox SEAL closes the seal with a new code. -/
  | baySeal (rest : List Word)
  /-- R328: Mailbox IMG_OPEN clears image staging. -/
  | bayImgOpen (rest : List Word)
  /-- R328: Mailbox IMG_DATA appends 16 image bytes. -/
  | bayImgData (rest : List Word)
  /-- R328: Mailbox IMG_END verifies and stores a new Bay image. -/
  | bayImgEnd (rest : List Word) (verified : Bool) (version : Word)
  /-- R329: A mailbox message failing lockout, CRC, code, count or operation checks is discarded with a result code. -/
  | bayMailboxReject (m : List Word)
  /-- R329: The 3,600 s mailbox lockout ends. -/
  | bayLockoutEnd
  /-- R339: AX_CMD MOVE is decided and an accepted move is planned. -/
  | move (l : Link) (axis : Nat)
  /-- R341: AX_CMD HOME runs the axis's homing method. -/
  | home (l : Link) (axis : Nat)
  /-- R346: AX_CMD STOP stops the axis along the programmed ramp. -/
  | axisStop (l : Link) (axis : Nat)
  /-- R346: AX_CMD CLEAR returns STATE from 0x5 to 0x0. -/
  | axisClear (l : Link) (axis : Nat)
  /-- R340: MOT_CMD START moves an interpolation group along one normalised profile. -/
  | groupStart (l : Link) (group : Nat)
  /-- R346: MOT_CMD STOP group stops every member. -/
  | groupStop (l : Link) (group : Nat)
  /-- R346: MOT_CMD STOP all stops every axis. -/
  | stopAll (l : Link)
  /-- R339: A waiting start begins its cycle at the third servo boundary or when its wait ends. -/
  | cycleStart (a : Nat)
  /-- R348: A cycle ends when its final set-point settles or a stop brings it to rest. -/
  | cycleEnd (a : Nat)
  /-- R341: The homing reference is found and the position becomes HOMEOFS. -/
  | homePoint (a : Nat)
  /-- R341: No reference within 120 s; homing stops with outcome 0x6. -/
  | homingTimeout (a : Nat)
  /-- R343: A stall in CONF servo periods freezes the set-point at IHOLD. -/
  | stall (a : Nat)
  /-- R345: Torque current above the envelope for CONF periods stops the move. -/
  | obstacle (a : Nat)
  /-- R40: A safety edge becomes idle, pressed or broken and acts on its mapped axis: `ohm` is its loop resistance. -/
  | edgeChange (e ohm : Nat)
  /-- R40: An edge in a resistance gap for 10 ms is treated as broken. -/
  | edgeGapTimeout (e : Nat)
  /-- R346: A limit switch asserted in the direction of travel stops the axis. -/
  | limitSwitch (a : Nat)
  /-- R337: The set-point queue runs empty and the axis holds with outcome 0x6. -/
  | setpointQueueEmpty (a : Nat)
  /-- R342: STBYDLY or BRKT after a cycle ends and the standstill setting applies. -/
  | standstillDelay (a : Nat)
  /-- R350: A command-link frame reaches the G-die and is acknowledged. -/
  | gdieFrame (a sent : Nat) (valid : Bool)
  /-- R350: No valid frame for 2 ms puts every axis into its safe state. -/
  | gdieLinkLost
  /-- R359: GD_CMD SCTEST tests every used short-circuit comparator of the axis. -/
  | sctest (l : Link) (axis : Nat)
  /-- R359: The comparator test finishes and its result is recorded. -/
  | sctestDone (a fails : Nat)
  /-- R362: GD_CMD RECOVER starts qualification of a latched axis. -/
  | recover (l : Link) (axis : Nat)
  /-- R352: A write to GD_GPULSE turns one gate on for WIDTH. -/
  | gatePulse (l : Link) (axis : Nat) (v : Word)
  /-- R352: The gate pulse ends and the switch node and bootstrap are reported. -/
  | gatePulseEnd (a vsw vbst : Nat) (x : PulseEnd)
  /-- R351: A read of GD_LIVE fetches the G-die's own bridge status over the command link. -/
  | gdLiveRead (l : Link) (axis : Nat)
  /-- R361: An axis is qualified by VGG wait, comparator test and bootstrap precharge. -/
  | qualification (a : Nat)
  /-- R361: Qualification passes to RUN or fails to FAULT with cause 0x7. -/
  | qualificationDone (a fails : Nat) (bst : List Nat)
  /-- R357: At each PWM period the drive step of each half-bridge is adapted. -/
  | pwmPeriod (a : Nat) (hs : List HalfPeriod)
  /-- R358: A sense comparator trips after blanking and the axis goes to its safe state. -/
  | shortCircuitTrip (a c : Nat)
  /-- R355: An off-going gate not sensed below 1.5 V in 2 us puts the axis in its safe state. -/
  | handshakeTimeout (a : Nat)
  /-- R360: VM outside 11.0-62.0 V for 5 us puts every axis in its safe state. -/
  | vmOutOfRange (high : Bool)
  /-- R360: VGG below 8.0 V puts every axis in its safe state. -/
  | vggUndervoltage
  /-- R360: A gate or bootstrap supply rises past its release threshold and the cause clears. -/
  | supplyRelease (h : Option Nat)
  /-- R360: A bootstrap below 7.0 V puts its axis in the safe state. -/
  | bootstrapUndervoltage (a b : Nat)
  /-- R363: A bootstrap below WARN starts refresh pulses until low-side conduction returns. -/
  | refreshEpisode (a b bst : Nat)
  /-- R360: VM above VON turns BRKC_G on. -/
  | chopperOn
  /-- R360: VM below VOFF turns the chopper off. -/
  | chopperOff
  /-- R360: The chopper stays on longer than MAXON. -/
  | chopperLong
  /-- R366: A write to LSA_OUT or LSB_OUT turns channels on or off within 50 us. -/
  | lsOutWrite (l : Link) (b : Bool) (v : Word)
  /-- R376: A write to LSA_CLR or LSB_CLR clears a latch, reloads LEFT and clears the ON bit. -/
  | lsClr (l : Link) (b : Bool) (v : Word)
  /-- R367: A channel's inrush window ends. -/
  | inrushEnd (n : Nat)
  /-- R368: A channel in current limit outside inrush for TLIM turns off with cause 0x1. -/
  | limitTime (x : InLimit)
  /-- R370: An off output above 4.0 V or below 2.0 V for 10 ms changes OL. -/
  | openLoadChange (n : Nat) (above : Bool)
  /-- R372: A zone crosses 150 C and its higher-current channel turns off. -/
  | zoneHot (z even odd : Nat)
  /-- R372: 2 ms later a zone still hot turns off its other channel. -/
  | zoneSecondCheck (z : Nat) (still : Bool)
  /-- R371: A zone falls to 130 C and is no longer hot. -/
  | zoneCool (z : Nat)
  /-- R371: A zone sensor open or short turns off and latches both channels. -/
  | zoneSensorFault (z : Nat)
  /-- R373: Total above 16 A for 100 frames turns off the highest-numbered channel. -/
  | shed
  /-- R375: A channel in WAIT restarts at a boundary once TRST has passed and zone and pause allow. -/
  | lsRestart (n : Nat)
  /-- R376: A channel on for TGOOD without a fault reloads LEFT. -/
  | leftReload (n : Nat)
  /-- R379: A guard input is seen open or closed after DEB and the interlocks and SAFESTOP are re-evaluated. -/
  | guardChange (g : Nat) (closed : Bool)
  /-- R381: An axis not at standstill TSTOP after SAFESTOP has its brake release withdrawn. -/
  | safestopTimeout (a : Nat)
  /-- R383: A released brake's current outside its window for 100 ms sets BRKFAIL. -/
  | brakeCurrentFault (b : Nat)
  /-- R383: Once per second each switch of a released brake is opened for 200 us and read back. -/
  | brakeSwitchPulse (b side : Nat) (opened : Bool)
  /-- R384: A due brake test runs once its axes stand still with the brake engaged. -/
  | brakeTestStart (b : Nat)
  /-- R384: A brake test ends as pass, fail, not testable or aborted. -/
  | brakeTestDone (b move1 move2 : Nat)
  /-- R384: SAF_CMD 0x1 requests the test of BRK0. -/
  | testBrk0 (l : Link)
  /-- R384: SAF_CMD 0x2 requests the test of BRK1. -/
  | testBrk1 (l : Link)
  /-- R387: Once per second each PROP_EN switch opens for 300 us and is read back. -/
  | propEnPulse (sw : Nat) (opened : Bool)
  /-- R387: Every 100 us the PROP_EN output is compared with its command. -/
  | propEnReadback (high : Bool)
  /-- R390: PROP_EN below 18 V while on for 10 ms switches off and retries every 1 s. -/
  | propEnLow
  /-- R390: Island 6 tests a slice of its logic; failure latches SFAULT. -/
  | safetySelfTestSlice (pass : Bool)
  /-- R390: SDEGR LEFT reaches 0 and the degraded output is held safe. -/
  | safetyDegradedExpiry
  /-- R393: A safety PDU is checked and accepted or discarded. -/
  | safetyPduReceived (fd : Bool) (bytes : List Byte)
  /-- R395: A safety PDU is sent every TXWDT/4 and on SAF_STAT changes. -/
  | safetyPduSend
  /-- R394: No accepted PDU within RXWDT; the link waits and received data reads 0. -/
  | safetyWatchdogExpiry
  /-- R397: A password written to SAF_UNLOCK grants or revokes the safety unlock. -/
  | safUnlock (l : Link) (pw : Word)
  /-- R397: An unlocked link sets a new safety password. -/
  | safNewpw (l : Link) (pw : Word)
  /-- R403: Island 5 evaluates each die temperature every 100 ms, or 1 ms when hot. -/
  | thermalEval (d : Nat) (t : Int) (missing : Bool)
  /-- R407: After contactors open or the hardware open, the stopped die is powered down. -/
  | thermalPowerDown (d : Nat)
  /-- R406: PAUSE after the last operation ends and the next start may run. -/
  | thermalPauseEnd (motion : Bool)
  /-- R409: COOL after power-down, the GM5 power-cycles a latched die automatically. -/
  | diePowerCycle (d : Nat)
  /-- R409: A write of 0x100 + d to TMP_CMD power-cycles a latched die. -/
  | tmpCmd (l : Link) (v : Word)
  /-- R411: A corrected single-bit ECC error is counted and the hourly rate checked. -/
  | eccCorrected (mram : Bool)
  /-- R423: A double-bit ECC error in a core read from SRAM is handled as row 1 of R287: both cores are held in reset and the
  fault line asserts as source 7. -/
  | sramDoubleBitError
  /-- R383: The read-back of an engaged brake shows coil voltage with both switches commanded open, which finds both switches
  stuck closed and latches SFAULT. -/
  | brakeEngagedReadback (b : Nat)
  /-- R110: A CAN port whose error counters fall back below the passive limit returns from error-passive to error-active in
  HST_CANxST.STATE. -/
  | canErrorActive (port : Bool) (tec recv : Nat)
deriving DecidableEq, Repr

end Sys2Proof
end

