-- ==== Sys2Proof/WellFormed.lean ====
section
/-! DEFINITION. Well-formed commands: every unit an operand names exists in some variant (R5, R11, R35 to R43), and lists have the
lengths the rules give. The table gives a row no more than this. -/
namespace Sys2Proof

/-- The checks of a command, by name. -/
def Instr.wf : Instr → Bool
  | .startQualified x => decide (x.addr < 16)
  | .mdieSettled k => decide (k < 8)
  | .mdieSettleTimeout k => decide (k < 8)
  | .layupWake source => decide (source < 2)
  | .addrChange addr => decide (addr < 16)
  | .unknownOp _ op rsv _ => (decide (6 ≤ op.toNat) || rsv != 0)
  | .canRequestFrame _ f => decide (f.bytes.length ≤ if f.fd then 64 else 8)
  | .segmentDown g => decide (g < 9)
  | .segmentRetrain g _ => decide (g < 9)
  | .dieUnreachable k => decide (k < 8)
  | .dieRejoin k => decide (k < 8)
  | .dieSleep k => decide (k < 8)
  | .dieWake k => decide (k < 8)
  | .owRequest _ die tap => decide (die < 8) && decide (tap < 65)
  | .tapTestStart k => decide (k < 8)
  | .tapWindowEnd k => decide (k < 8)
  | .tapTestDecide k => decide (k < 8)
  | .absoluteTrip k cell _ => decide (k < 8) && decide (cell < 64)
  | .faultChannelLost k _ => decide (k < 8)
  | .tripCode k _ => decide (k < 8)
  | .carrierReturn k => decide (k < 8)
  | .balanceOnTimeEnd k cell => decide (k < 8) && decide (cell < 64)
  | .switchStuck k cell => decide (k < 8) && decide (cell < 64)
  | .switchOvercurrent k cell => decide (k < 8) && decide (cell < 64)
  | .balanceOpenLoop k cell => decide (k < 8) && decide (cell < 64)
  | .blSwclr _ die cell => decide (die < 8) && decide (cell < 65)
  | .learnStart _ die => decide (die < 8)
  | .learnAbort _ die => decide (die < 8)
  | .pullInEnd m => decide (m < 4)
  | .auxChange m _ => decide (m < 4)
  | .coilOvercurrent m => decide (m < 4)
  | .coilCurrentFault m => decide (m < 4)
  | .auxCloseTimeout m => decide (m < 4)
  | .auxOpenTimeout m => decide (m < 4)
  | .degradedCellExpiry k cell => decide (k < 8) && decide (cell < 64)
  | .cellTempExpiry k cell => decide (k < 8) && decide (cell < 64)
  | .ringStatusMsg m => decide (m.addr < 16)
  | .memberLost a => decide (a < 16)
  | .mirrorReceived source _ seq _ _ => decide (source < 16) && decide (seq < 4294967296)
  | .slotAuthDone slot _ => decide (slot < 64)
  | .coreResume len => decide (150 ≤ len ∧ len ≤ 180)
  | .selfTestSlice _ _ => true
  | .leaseAcquire slot party => decide (slot < 16) && decide (party < 16)
  | .leaseRelease slot party => decide (slot < 16) && decide (party < 16)
  | .leaseExpiry slot => decide (slot < 16)
  | .bayBreak rest => (rest.length == 7)
  | .baySet _ rest => (rest.length == 7)
  | .baySeal rest => (rest.length == 7)
  | .bayImgOpen rest => (rest.length == 7)
  | .bayImgData rest => (rest.length == 7)
  | .bayImgEnd rest _ _ => (rest.length == 7)
  | .bayMailboxReject m => (m.length == 8)
  | .move _ axis => decide (axis < 6)
  | .home _ axis => decide (axis < 6)
  | .axisStop _ axis => decide (axis < 6)
  | .axisClear _ axis => decide (axis < 6)
  | .groupStart _ group => decide (group < 4)
  | .groupStop _ group => decide (group < 4)
  | .cycleStart a => decide (a < 6)
  | .cycleEnd a => decide (a < 6)
  | .homePoint a => decide (a < 6)
  | .homingTimeout a => decide (a < 6)
  | .stall a => decide (a < 6)
  | .obstacle a => decide (a < 6)
  | .edgeChange e _ => decide (e < 2)
  | .edgeGapTimeout e => decide (e < 2)
  | .limitSwitch a => decide (a < 6)
  | .setpointQueueEmpty a => decide (a < 6)
  | .standstillDelay a => decide (a < 6)
  | .gdieFrame a sent _ => decide (a < 6) && decide (1 ≤ sent ∧ sent ≤ 3)
  | .sctest _ axis => decide (axis < 6)
  | .sctestDone a fails => decide (a < 6) && decide (fails < 256)
  | .recover _ axis => decide (axis < 6)
  | .gatePulse _ axis _ => decide (axis < 6)
  | .gatePulseEnd a _ _ x => decide (a < 6) && decide (x.before ≤ 255 ∧ x.charged ≤ 255)
  | .gdLiveRead _ axis => decide (axis < 6)
  | .qualification a => decide (a < 6)
  | .qualificationDone a fails _ => decide (a < 6) && decide (fails < 256)
  | .pwmPeriod a _ => decide (a < 6)
  | .shortCircuitTrip a c => decide (a < 6) && decide (c < 8)
  | .handshakeTimeout a => decide (a < 6)
  | .supplyRelease h => (h.all fun x => decide (x < 24))
  | .bootstrapUndervoltage a b => decide (a < 6) && decide (b < 4)
  | .refreshEpisode a b _ => decide (a < 6) && decide (b < 4)
  | .inrushEnd n => decide (n < 16)
  | .limitTime x => decide (x.chan < 16)
  | .openLoadChange n _ => decide (n < 16)
  | .zoneHot z _ _ => decide (z < 8)
  | .zoneSecondCheck z _ => decide (z < 8)
  | .zoneCool z => decide (z < 8)
  | .zoneSensorFault z => decide (z < 8)
  | .lsRestart n => decide (n < 16)
  | .leftReload n => decide (n < 16)
  | .guardChange g _ => decide (g < 8)
  | .safestopTimeout a => decide (a < 6)
  | .brakeCurrentFault b => decide (b < 2)
  | .brakeSwitchPulse b side _ => decide (b < 2) && decide (side < 2)
  | .brakeTestStart b => decide (b < 2)
  | .brakeTestDone b _ _ => decide (b < 2)
  | .propEnPulse sw _ => decide (sw < 2)
  | .safetyPduReceived _ bytes => decide (bytes.length ≤ 64)
  | .thermalEval d _ _ => decide (d < 10)
  | .thermalPowerDown d => decide (d < 9)
  | .diePowerCycle d => decide (d < 9)
  | .brakeEngagedReadback b => decide (b < 2)
  | .holdupStoreCharged => true
  | .holdupTimeout => true
  | .enterRun _ => true
  | .supplyLow => true
  | .supplyLowClear => true
  | .pwrWarn => true
  | .pwrWarnClear => true
  | .pwrFail => true
  | .cdieReset => true
  | .vmOkChange _ => true
  | .hostReset _ _ => true
  | .layupEnter _ _ _ => true
  | .layupSupplyLost => true
  | .nop _ _ => true
  | .read _ _ => true
  | .write _ _ => true
  | .burstRead _ _ => true
  | .commit _ _ => true
  | .status _ _ => true
  | .crcErrorFrame _ _ => true
  | .spiNotReady => true
  | .canErrorPassive _ _ _ => true
  | .canBusOff _ => true
  | .canBusoffRecovery _ => true
  | .attnMessage _ => true
  | .attnMsgWindowEnd _ => true
  | .commitStep => true
  | .cfgDiscard _ _ => true
  | .pctlEn _ _ _ => true
  | .pctlRst _ _ => true
  | .iflagClear _ _ _ => true
  | .cfgUnlock _ _ => true
  | .unlockExpiry _ _ => true
  | .lockoutEnd _ => true
  | .cfgNewpw _ _ => true
  | .cfgDefault _ _ => true
  | .fwOpen _ => true
  | .fwData _ _ => true
  | .fwVerify _ => true
  | .fwVerifyDone _ _ => true
  | .fwActivate _ => true
  | .fwAbandon _ => true
  | .frameBoundary _ => true
  | .midFrameSample _ => true
  | .quietLead => true
  | .servoTick _ => true
  | .auxScan _ => true
  | .syncInEdge => true
  | .syncMiss => true
  | .timeLoRead _ => true
  | .epochLoWrite _ _ => true
  | .epochHiWrite _ _ => true
  | .xtalLost => true
  | .xtalRegained => true
  | .clockCheckWindow _ => true
  | .strobeRecal _ => true
  | .periodicSave => true
  | .firmwareEval => true
  | .sweepStart => true
  | .gatedEval _ => true
  | .gatedTrip => true
  | .comparatorSelfTest _ => true
  | .flclr _ _ => true
  | .fastOcTrip _ => true
  | .ocSelfTest _ => true
  | .currentSuspect => true
  | .currentAgreed => true
  | .curZero _ => true
  | .zeroAutoStart => true
  | .zeroingDone => true
  | .stvCalStr _ => true
  | .stvCalLnk _ => true
  | .stvCalClear _ => true
  | .stvCalDone => true
  | .sageStep => true
  | .writebackPeriod => true
  | .sgeCmdWriteback _ => true
  | .writebackStart => true
  | .writebackDone => true
  | .tableLoad _ => true
  | .tableActivate _ => true
  | .tbldataAccess _ _ => true
  | .sgcBankWrite _ _ => true
  | .sgcReset _ _ => true
  | .limZselWrite _ _ => true
  | .connect _ => true
  | .disconnect _ => true
  | .chargeOn _ => true
  | .chargeOff _ => true
  | .prtClear _ => true
  | .weldclr _ _ => true
  | .prechargeTimeout => true
  | .prechargeOverlapEnd => true
  | .matchTimeout => true
  | .prechargeCoolEnd => true
  | .cd1HoldEnd => true
  | .deadlineExpiry => true
  | .badChannelsOpen => true
  | .suspectTimeExpiry => true
  | .limitFrame => true
  | .chargeOffTimeout => true
  | .shoreDetChange _ => true
  | .ringCycle => true
  | .grantTimeout => true
  | .systemFrame => true
  | .mirrorHeaderReply _ => true
  | .adopt _ => true
  | .adoptFetchDone _ _ => true
  | .decline _ => true
  | .cancel _ => true
  | .installAnchor _ => true
  | .enrol _ _ => true
  | .authenticateAll _ => true
  | .autPoll _ => true
  | .autKeydataWrite _ _ => true
  | .autSelWrite _ _ => true
  | .lockstepMismatch _ _ => true
  | .arbitration _ _ => true
  | .watchdogExpiry => true
  | .degradedTimeExpiry => true
  | .degradedTimeSave => true
  | .mramRecoveryDone _ _ => true
  | .recordAccept => true
  | .flushPeriodic => true
  | .flushStart => true
  | .flushDone => true
  | .rateWindowClose => true
  | .rsmClear _ _ => true
  | .rsmSnapWrite _ _ => true
  | .snapshotExpiry _ => true
  | .rsmRdselWrite _ _ => true
  | .ledgerRecordWrite => true
  | .cylAck _ _ => true
  | .cylRdselWrite _ _ => true
  | .baySamplePair _ _ => true
  | .bayPairLost => true
  | .bayInterval => true
  | .bayCopyWrite => true
  | .bayAux3Change _ => true
  | .bayLockoutEnd => true
  | .stopAll _ => true
  | .gdieLinkLost => true
  | .vmOutOfRange _ => true
  | .vggUndervoltage => true
  | .chopperOn => true
  | .chopperOff => true
  | .chopperLong => true
  | .lsOutWrite _ _ _ => true
  | .lsClr _ _ _ => true
  | .shed => true
  | .testBrk0 _ => true
  | .testBrk1 _ => true
  | .propEnReadback _ => true
  | .propEnLow => true
  | .safetySelfTestSlice _ => true
  | .safetyDegradedExpiry => true
  | .safetyPduSend => true
  | .safetyWatchdogExpiry => true
  | .safUnlock _ _ => true
  | .safNewpw _ _ => true
  | .thermalPauseEnd _ => true
  | .tmpCmd _ _ => true
  | .eccCorrected _ => true
  | .sramDoubleBitError => true
  | .canErrorActive _ _ _ => true

end Sys2Proof
end

