-- ==== Sys2Proof/Decode.lean ====
section
/-! DEFINITION. The opcode table gives the bits of no row (every row's field list is empty): no word spells a command. -/
namespace Sys2Proof

/-- The command that a word of `nbits` bits spells by the table's bits: none, since no row has bits. -/
def decodeTableWord (_nbits _w : Nat) : Option Instr := none

end Sys2Proof
end

