-- ==== Sys2Proof/Config.lean ====
section
/-! DEFINITION. What the manual leaves open and an implementation fixes: free values without a body, so that a claim holds
whatever they are (log entry 6). -/
namespace Sys2Proof.Config

/-- The low byte of an event code that the manual leaves to the release notes of a firmware version, less 0x40 (R301):
the originating page and the model's own name for the event give it. Free value. -/
opaque listedCode : Nat → Nat → BitVec 7

/-- The tap resistance a learning toggle estimates when its switch carried no current (R191): the manual states no quotient.
Free value of the voltage step. -/
opaque stepWithoutCurrent : Int → Int

/-- The resistance of a held step whose current difference is 0 (R235): the manual states no quotient. Free value of the
numerator, in µV. -/
opaque resistanceWithoutStep : Int → Int

/-- A minimum, a maximum or the name of a cell over no cell at all (R222, R240, R242): the manual states no result. Free value
of the register word and field it would go into. -/
opaque overNoCell : Nat → BitVec 16

/-- A result above the greatest value its field can hold where the manual states no bound (R222, R225, R240). Free value of
the register word and of the result. -/
opaque outOfFormat : Nat → Nat → BitVec 32

/-- The mean of an interval of Bay in which no sample pair arrived (R320, R321): the manual states no result. Free value of the
register word it would go into. -/
opaque overNoPair : Nat → BitVec 32

/-- Whether the image staged in Bay, with the words of an IMG_END message, verifies, and the version it carries, where the
message arrives as plain writes to the mailbox (R328, R329): the manual gives no form of the image or its signature. Free
values. -/
opaque bayImageOk : List Word → List Word → Bool
opaque bayImageVersion : List Word → Word

/-- A saved value of the CFG page before step 0x4 of start-up has loaded it (R60): the manual states none. Free value of the
word's address. -/
opaque beforeSaved : Nat → BitVec 32

/-- The length of a self-test slice by its index, in µs: fixed for each index, and never stated (R291). Free value, of which at most
16 µs count. -/
opaque sliceLength : BitVec 6 → BitVec 8

/-- The ID that the position of a slot presents when the chains are read for a plain write of 0x2 to AUT_CMD, 0 where no tag answers:
an input that the write does not carry (R282). Free value of the reading's number and of the slot. -/
opaque chainId : Nat → Nat → BitVec 64

end Sys2Proof.Config
end

