-- ==== Sys2Proof/Machine/RegTypes.lean ====
section
/-! DEFINITION. The types in which the register map is written: access codes, legal sets, field rows, words, field names. -/
namespace Sys2Proof.Machine

/-- The access codes of the manual (scope chapter, "Notation"). -/
inductive Access where
  | ro | rw | rws | w1c | rc | wo
deriving DecidableEq, Repr

/-- The legal set of a writable field, as its Meaning column states it (R78). -/
inductive Legal where
  /-- every value the field can hold -/
  | any
  /-- an unsigned range with a step -/
  | range (lo hi step : Nat)
  /-- a signed range, two's complement in the field's width -/
  | srange (lo hi : Int)
  /-- an enumeration of listed values, ascending -/
  | enum (values : List Nat)
  /-- every value with the bits of a mask set (R396) -/
  | bitsSet (mask : Nat)
deriving DecidableEq, Repr

/-- One row of a field table. -/
inductive FieldRow where
  /-- a reserved bit range, high and low bit (R8) -/
  | rsv (hi lo : Nat)
  /-- a field: name, high bit, low bit, access, reset value, legal set -/
  | fld (name : String) (hi lo : Nat) (acc : Access) (reset : Nat) (legal : Legal)
deriving DecidableEq, Repr

/-- One word, or an array of like words `lo` to `hi`, with its field table in the manual's order (highest bit first). -/
structure RegRow where
  name : String
  lo : Nat
  hi : Nat
  rows : List FieldRow
deriving DecidableEq, Repr

/-- The name of a field: its page, its word, its highest and its lowest bit. -/
structure Fld where
  page : Nat
  word : Nat
  hi : Nat
  lo : Nat
deriving DecidableEq, Repr

end Sys2Proof.Machine
end

