-- ==== Sys2Proof/Machine/RegMap.lean ====
section
/-! DEFINITION. The registers of the GM5 as the field tables of the chapters give them: for every word its address, and for
every field its bits, access code, reset value and legal set (R77, R78); and a name for each field. A field whose Reset
column shows a saved value or a dash stands here at 0: what such a word holds at reset is said in `State.reset`. -/
namespace Sys2Proof.Machine

/-! ### SYS -/
/-- `SYS_VARIANT` (SYS page, 04). -/
def rSYS_VARIANT : RegRow := ⟨"SYS_VARIANT", 0x08, 0x08, [
  .rsv 31 6,
  .fld "BAY" 5 5 .ro 0 .any,
  .fld "GDIE" 4 4 .ro 0 .any,
  .fld "MDIES" 3 0 .ro 0 .any]⟩
def F.SYS_VARIANT_BAY : Fld := ⟨0x00, 0x08, 5, 5⟩
def F.SYS_VARIANT_GDIE : Fld := ⟨0x00, 0x08, 4, 4⟩
def F.SYS_VARIANT_MDIES : Fld := ⟨0x00, 0x08, 3, 0⟩
/-- `SYS_DIEMAP` (SYS page, 04). -/
def rSYS_DIEMAP : RegRow := ⟨"SYS_DIEMAP", 0x09, 0x09, [
  .rsv 31 8,
  .fld "MD" 7 0 .ro 0 .any]⟩
def F.SYS_DIEMAP_MD : Fld := ⟨0x00, 0x09, 7, 0⟩
/-- `SYS_SERIAL_LO` (SYS page, 04). -/
def rSYS_SERIAL_LO : RegRow := ⟨"SYS_SERIAL_LO", 0x0A, 0x0A, [
  .fld "WWWW" 31 16 .ro 0 .any,
  .fld "NNNN" 15 0 .ro 0 .any]⟩
def F.SYS_SERIAL_LO_WWWW : Fld := ⟨0x00, 0x0A, 31, 16⟩
def F.SYS_SERIAL_LO_NNNN : Fld := ⟨0x00, 0x0A, 15, 0⟩
/-- `SYS_SERIAL_HI` (SYS page, 04). -/
def rSYS_SERIAL_HI : RegRow := ⟨"SYS_SERIAL_HI", 0x0B, 0x0B, [
  .rsv 31 8,
  .fld "YY" 7 0 .ro 0 .any]⟩
def F.SYS_SERIAL_HI_YY : Fld := ⟨0x00, 0x0B, 7, 0⟩
/-- `SYS_HWLEVEL` (SYS page, 04). -/
def rSYS_HWLEVEL : RegRow := ⟨"SYS_HWLEVEL", 0x0C, 0x0C, [
  .rsv 31 4,
  .fld "LEVEL" 3 0 .ro 0 .any]⟩
def F.SYS_HWLEVEL_LEVEL : Fld := ⟨0x00, 0x0C, 3, 0⟩
/-- `SYS_FWVER` (SYS page, 04). -/
def rSYS_FWVER : RegRow := ⟨"SYS_FWVER", 0x0D, 0x0D, [
  .fld "MAJOR" 31 24 .ro 0 .any,
  .fld "MINOR" 23 16 .ro 0 .any,
  .fld "BUILD" 15 0 .ro 0 .any]⟩
def F.SYS_FWVER_MAJOR : Fld := ⟨0x00, 0x0D, 31, 24⟩
def F.SYS_FWVER_MINOR : Fld := ⟨0x00, 0x0D, 23, 16⟩
def F.SYS_FWVER_BUILD : Fld := ⟨0x00, 0x0D, 15, 0⟩
/-- `SYS_FWVER_A` (SYS page, 04). -/
def rSYS_FWVER_A : RegRow := ⟨"SYS_FWVER_A", 0x0E, 0x0E, [
  .fld "MAJOR" 31 24 .ro 0 .any,
  .fld "MINOR" 23 16 .ro 0 .any,
  .fld "BUILD" 15 0 .ro 0 .any]⟩
def F.SYS_FWVER_A_MAJOR : Fld := ⟨0x00, 0x0E, 31, 24⟩
def F.SYS_FWVER_A_MINOR : Fld := ⟨0x00, 0x0E, 23, 16⟩
def F.SYS_FWVER_A_BUILD : Fld := ⟨0x00, 0x0E, 15, 0⟩
/-- `SYS_FWVER_B` (SYS page, 04). -/
def rSYS_FWVER_B : RegRow := ⟨"SYS_FWVER_B", 0x0F, 0x0F, [
  .fld "MAJOR" 31 24 .ro 0 .any,
  .fld "MINOR" 23 16 .ro 0 .any,
  .fld "BUILD" 15 0 .ro 0 .any]⟩
def F.SYS_FWVER_B_MAJOR : Fld := ⟨0x00, 0x0F, 31, 24⟩
def F.SYS_FWVER_B_MINOR : Fld := ⟨0x00, 0x0F, 23, 16⟩
def F.SYS_FWVER_B_BUILD : Fld := ⟨0x00, 0x0F, 15, 0⟩
/-- The words of a SYS page. -/
def regsSYS : List RegRow := [
  rSYS_VARIANT, rSYS_DIEMAP, rSYS_SERIAL_LO, rSYS_SERIAL_HI, rSYS_HWLEVEL, rSYS_FWVER,
  rSYS_FWVER_A, rSYS_FWVER_B]

/-! ### HST -/
/-- `HST_IFLAG` (HST page, 05). -/
def rHST_IFLAG : RegRow := ⟨"HST_IFLAG", 0x03, 0x03, [
  .rsv 31 9,
  .fld "WQ_FULL" 8 8 .w1c 0 .any,
  .fld "CAN1_DROP" 7 7 .w1c 0 .any,
  .fld "CAN1_BUSOFF" 6 6 .w1c 0 .any,
  .fld "CAN1_PASSIVE" 5 5 .w1c 0 .any,
  .fld "CAN0_DROP" 4 4 .w1c 0 .any,
  .fld "CAN0_BUSOFF" 3 3 .w1c 0 .any,
  .fld "CAN0_PASSIVE" 2 2 .w1c 0 .any,
  .fld "SPI_NOTREADY" 1 1 .w1c 0 .any,
  .fld "SPI_ERR" 0 0 .w1c 0 .any]⟩
def F.HST_IFLAG_WQ_FULL : Fld := ⟨0x01, 0x03, 8, 8⟩
def F.HST_IFLAG_CAN1_DROP : Fld := ⟨0x01, 0x03, 7, 7⟩
def F.HST_IFLAG_CAN1_BUSOFF : Fld := ⟨0x01, 0x03, 6, 6⟩
def F.HST_IFLAG_CAN1_PASSIVE : Fld := ⟨0x01, 0x03, 5, 5⟩
def F.HST_IFLAG_CAN0_DROP : Fld := ⟨0x01, 0x03, 4, 4⟩
def F.HST_IFLAG_CAN0_BUSOFF : Fld := ⟨0x01, 0x03, 3, 3⟩
def F.HST_IFLAG_CAN0_PASSIVE : Fld := ⟨0x01, 0x03, 2, 2⟩
def F.HST_IFLAG_SPI_NOTREADY : Fld := ⟨0x01, 0x03, 1, 1⟩
def F.HST_IFLAG_SPI_ERR : Fld := ⟨0x01, 0x03, 0, 0⟩
/-- `HST_CTL` (HST page, 05). -/
def rHST_CTL : RegRow := ⟨"HST_CTL", 0x08, 0x08, [
  .rsv 31 3,
  .fld "CAN1_ATTNMSG" 2 2 .rws 0 .any,
  .fld "CAN0_ATTNMSG" 1 1 .rws 0 .any,
  .fld "ATTN_PIN" 0 0 .rws 1 .any]⟩
def F.HST_CTL_CAN1_ATTNMSG : Fld := ⟨0x01, 0x08, 2, 2⟩
def F.HST_CTL_CAN0_ATTNMSG : Fld := ⟨0x01, 0x08, 1, 1⟩
def F.HST_CTL_ATTN_PIN : Fld := ⟨0x01, 0x08, 0, 0⟩
/-- `HST_CAN0CFG` (HST page, 05). -/
def rHST_CAN0CFG : RegRow := ⟨"HST_CAN0CFG", 0x09, 0x09, [
  .rsv 31 11,
  .fld "BRS" 10 10 .rws 1 .any,
  .fld "DBR" 9 8 .rws 1 .any,
  .rsv 7 6,
  .fld "NBR" 5 4 .rws 2 .any,
  .rsv 3 3,
  .fld "IDE" 2 2 .rws 0 .any,
  .fld "TERM" 1 1 .rws 0 .any,
  .fld "EN" 0 0 .rws 1 .any]⟩
def F.HST_CAN0CFG_BRS : Fld := ⟨0x01, 0x09, 10, 10⟩
def F.HST_CAN0CFG_DBR : Fld := ⟨0x01, 0x09, 9, 8⟩
def F.HST_CAN0CFG_NBR : Fld := ⟨0x01, 0x09, 5, 4⟩
def F.HST_CAN0CFG_IDE : Fld := ⟨0x01, 0x09, 2, 2⟩
def F.HST_CAN0CFG_TERM : Fld := ⟨0x01, 0x09, 1, 1⟩
def F.HST_CAN0CFG_EN : Fld := ⟨0x01, 0x09, 0, 0⟩
/-- `HST_CAN1CFG` (HST page, 05). -/
def rHST_CAN1CFG : RegRow := ⟨"HST_CAN1CFG", 0x0A, 0x0A, [
  .rsv 31 11,
  .fld "BRS" 10 10 .rws 1 .any,
  .fld "DBR" 9 8 .rws 1 .any,
  .rsv 7 6,
  .fld "NBR" 5 4 .rws 2 .any,
  .rsv 3 3,
  .fld "IDE" 2 2 .rws 0 .any,
  .fld "TERM" 1 1 .rws 0 .any,
  .fld "EN" 0 0 .rws 1 .any]⟩
def F.HST_CAN1CFG_BRS : Fld := ⟨0x01, 0x0A, 10, 10⟩
def F.HST_CAN1CFG_DBR : Fld := ⟨0x01, 0x0A, 9, 8⟩
def F.HST_CAN1CFG_NBR : Fld := ⟨0x01, 0x0A, 5, 4⟩
def F.HST_CAN1CFG_IDE : Fld := ⟨0x01, 0x0A, 2, 2⟩
def F.HST_CAN1CFG_TERM : Fld := ⟨0x01, 0x0A, 1, 1⟩
def F.HST_CAN1CFG_EN : Fld := ⟨0x01, 0x0A, 0, 0⟩
/-- `HST_CAN0ID` (HST page, 05). -/
def rHST_CAN0ID : RegRow := ⟨"HST_CAN0ID", 0x0B, 0x0B, [
  .rsv 31 29,
  .fld "REQID" 28 0 .rws 1600 (.range 0 536870910 1)]⟩
def F.HST_CAN0ID_REQID : Fld := ⟨0x01, 0x0B, 28, 0⟩
/-- `HST_CAN1ID` (HST page, 05). -/
def rHST_CAN1ID : RegRow := ⟨"HST_CAN1ID", 0x0C, 0x0C, [
  .rsv 31 29,
  .fld "REQID" 28 0 .rws 1600 (.range 0 536870910 1)]⟩
def F.HST_CAN1ID_REQID : Fld := ⟨0x01, 0x0C, 28, 0⟩
/-- `HST_ATTNSRC` (HST page, 05). -/
def rHST_ATTNSRC : RegRow := ⟨"HST_ATTNSRC", 0x60, 0x63, [
  .fld "SRC" 31 0 .ro 0 .any]⟩
def F.HST_ATTNSRC_SRC : Fld := ⟨0x01, 0x60, 31, 0⟩
/-- `HST_SPIERR` (HST page, 05). -/
def rHST_SPIERR : RegRow := ⟨"HST_SPIERR", 0x64, 0x64, [
  .fld "FRAMEERR" 31 16 .rc 0 .any,
  .fld "NOTREADY" 15 0 .rc 0 .any]⟩
def F.HST_SPIERR_FRAMEERR : Fld := ⟨0x01, 0x64, 31, 16⟩
def F.HST_SPIERR_NOTREADY : Fld := ⟨0x01, 0x64, 15, 0⟩
/-- `HST_CAN0ST` (HST page, 05). -/
def rHST_CAN0ST : RegRow := ⟨"HST_CAN0ST", 0x65, 0x65, [
  .fld "TEC" 31 24 .ro 0 .any,
  .fld "REC" 23 16 .ro 0 .any,
  .fld "BUSOFFS" 15 8 .ro 0 .any,
  .rsv 7 2,
  .fld "STATE" 1 0 .ro 3 .any]⟩
def F.HST_CAN0ST_TEC : Fld := ⟨0x01, 0x65, 31, 24⟩
def F.HST_CAN0ST_REC : Fld := ⟨0x01, 0x65, 23, 16⟩
def F.HST_CAN0ST_BUSOFFS : Fld := ⟨0x01, 0x65, 15, 8⟩
def F.HST_CAN0ST_STATE : Fld := ⟨0x01, 0x65, 1, 0⟩
/-- `HST_CAN1ST` (HST page, 05). -/
def rHST_CAN1ST : RegRow := ⟨"HST_CAN1ST", 0x66, 0x66, [
  .fld "TEC" 31 24 .ro 0 .any,
  .fld "REC" 23 16 .ro 0 .any,
  .fld "BUSOFFS" 15 8 .ro 0 .any,
  .rsv 7 2,
  .fld "STATE" 1 0 .ro 3 .any]⟩
def F.HST_CAN1ST_TEC : Fld := ⟨0x01, 0x66, 31, 24⟩
def F.HST_CAN1ST_REC : Fld := ⟨0x01, 0x66, 23, 16⟩
def F.HST_CAN1ST_BUSOFFS : Fld := ⟨0x01, 0x66, 15, 8⟩
def F.HST_CAN1ST_STATE : Fld := ⟨0x01, 0x66, 1, 0⟩
/-- `HST_WQ` (HST page, 05). -/
def rHST_WQ : RegRow := ⟨"HST_WQ", 0x67, 0x67, [
  .rsv 31 16,
  .fld "PEAK" 15 8 .ro 0 .any,
  .fld "LEVEL" 7 0 .ro 0 .any]⟩
def F.HST_WQ_PEAK : Fld := ⟨0x01, 0x67, 15, 8⟩
def F.HST_WQ_LEVEL : Fld := ⟨0x01, 0x67, 7, 0⟩
/-- The words of a HST page. -/
def regsHST : List RegRow := [
  rHST_IFLAG, rHST_CTL, rHST_CAN0CFG, rHST_CAN1CFG, rHST_CAN0ID, rHST_CAN1ID,
  rHST_ATTNSRC, rHST_SPIERR, rHST_CAN0ST, rHST_CAN1ST, rHST_WQ]

/-! ### CFG -/
/-- `CFG_IFLAG` (CFG page, 04). -/
def rCFG_IFLAG : RegRow := ⟨"CFG_IFLAG", 0x03, 0x03, [
  .rsv 31 6,
  .fld "LOCKOUT" 5 5 .w1c 0 .any,
  .fld "FWDONE" 4 4 .w1c 0 .any,
  .fld "CLAMP" 3 3 .w1c 0 .any,
  .fld "REFUSE" 2 2 .w1c 0 .any,
  .fld "ABORT" 1 1 .w1c 0 .any,
  .fld "DONE" 0 0 .w1c 0 .any]⟩
def F.CFG_IFLAG_LOCKOUT : Fld := ⟨0x02, 0x03, 5, 5⟩
def F.CFG_IFLAG_FWDONE : Fld := ⟨0x02, 0x03, 4, 4⟩
def F.CFG_IFLAG_CLAMP : Fld := ⟨0x02, 0x03, 3, 3⟩
def F.CFG_IFLAG_REFUSE : Fld := ⟨0x02, 0x03, 2, 2⟩
def F.CFG_IFLAG_ABORT : Fld := ⟨0x02, 0x03, 1, 1⟩
def F.CFG_IFLAG_DONE : Fld := ⟨0x02, 0x03, 0, 0⟩
/-- `CFG_COMMIT` (CFG page, 04). -/
def rCFG_COMMIT : RegRow := ⟨"CFG_COMMIT", 0x08, 0x08, [
  .fld "PAGE" 31 16 .wo 0 .any,
  .fld "PAGE" 15 0 .wo 0 .any]⟩
def F.CFG_COMMIT_PAGE : Fld := ⟨0x02, 0x08, 15, 0⟩
/-- `CFG_PEND` (CFG page, 04). -/
def rCFG_PEND : RegRow := ⟨"CFG_PEND", 0x09, 0x0C, [
  .fld "PEND" 31 0 .ro 0 .any]⟩
def F.CFG_PEND_PEND : Fld := ⟨0x02, 0x09, 31, 0⟩
/-- `CFG_STAGE` (CFG page, 04). -/
def rCFG_STAGE : RegRow := ⟨"CFG_STAGE", 0x0D, 0x0D, [
  .fld "APPLIED" 31 24 .ro 0 .any,
  .fld "TODO" 23 16 .ro 0 .any,
  .fld "NEXT" 15 12 .ro 15 .any,
  .rsv 11 4,
  .fld "STATE" 3 0 .ro 0 .any]⟩
def F.CFG_STAGE_APPLIED : Fld := ⟨0x02, 0x0D, 31, 24⟩
def F.CFG_STAGE_TODO : Fld := ⟨0x02, 0x0D, 23, 16⟩
def F.CFG_STAGE_NEXT : Fld := ⟨0x02, 0x0D, 15, 12⟩
def F.CFG_STAGE_STATE : Fld := ⟨0x02, 0x0D, 3, 0⟩
/-- `CFG_DISCARD` (CFG page, 04). -/
def rCFG_DISCARD : RegRow := ⟨"CFG_DISCARD", 0x0E, 0x0E, [
  .rsv 31 16,
  .fld "PAGE" 15 0 .wo 0 .any]⟩
def F.CFG_DISCARD_PAGE : Fld := ⟨0x02, 0x0E, 15, 0⟩
/-- `CFG_VIEW` (CFG page, 04). -/
def rCFG_VIEW : RegRow := ⟨"CFG_VIEW", 0x0F, 0x0F, [
  .rsv 31 3,
  .fld "CAN1" 2 2 .rw 0 .any,
  .fld "CAN0" 1 1 .rw 0 .any,
  .fld "SPI" 0 0 .rw 0 .any]⟩
def F.CFG_VIEW_CAN1 : Fld := ⟨0x02, 0x0F, 2, 2⟩
def F.CFG_VIEW_CAN0 : Fld := ⟨0x02, 0x0F, 1, 1⟩
def F.CFG_VIEW_SPI : Fld := ⟨0x02, 0x0F, 0, 0⟩
/-- `CFG_RESULT` (CFG page, 04). -/
def rCFG_RESULT : RegRow := ⟨"CFG_RESULT", 0x60, 0x60, [
  .fld "PAGE" 31 24 .ro 0 .any,
  .fld "WORD" 23 16 .ro 0 .any,
  .rsv 15 8,
  .fld "CODE" 7 0 .ro 0 .any]⟩
def F.CFG_RESULT_PAGE : Fld := ⟨0x02, 0x60, 31, 24⟩
def F.CFG_RESULT_WORD : Fld := ⟨0x02, 0x60, 23, 16⟩
def F.CFG_RESULT_CODE : Fld := ⟨0x02, 0x60, 7, 0⟩
/-- `CFG_CMTSEQ` (CFG page, 04). -/
def rCFG_CMTSEQ : RegRow := ⟨"CFG_CMTSEQ", 0x61, 0x61, [
  .fld "SEQ" 31 0 .ro 0 .any]⟩
def F.CFG_CMTSEQ_SEQ : Fld := ⟨0x02, 0x61, 31, 0⟩
/-- `CFG_LOCKSTAT` (CFG page, 04). -/
def rCFG_LOCKSTAT : RegRow := ⟨"CFG_LOCKSTAT", 0x62, 0x62, [
  .fld "LOCKOUT_S" 31 16 .ro 0 .any,
  .rsv 15 5,
  .fld "DEFAULT_PW" 4 4 .ro 0 .any,
  .rsv 3 3,
  .fld "UNL" 2 0 .ro 0 .any]⟩
def F.CFG_LOCKSTAT_LOCKOUT_S : Fld := ⟨0x02, 0x62, 31, 16⟩
def F.CFG_LOCKSTAT_DEFAULT_PW : Fld := ⟨0x02, 0x62, 4, 4⟩
def F.CFG_LOCKSTAT_UNL : Fld := ⟨0x02, 0x62, 2, 0⟩
/-- `CFG_CLPHEAD` (CFG page, 04). -/
def rCFG_CLPHEAD : RegRow := ⟨"CFG_CLPHEAD", 0x63, 0x63, [
  .fld "TOTAL" 31 16 .ro 0 .any,
  .rsv 15 4,
  .fld "NEWEST" 3 0 .ro 0 .any]⟩
def F.CFG_CLPHEAD_TOTAL : Fld := ⟨0x02, 0x63, 31, 16⟩
def F.CFG_CLPHEAD_NEWEST : Fld := ⟨0x02, 0x63, 3, 0⟩
/-- `CFG_FWSTAT` (CFG page, 04). -/
def rCFG_FWSTAT : RegRow := ⟨"CFG_FWSTAT", 0x64, 0x64, [
  .fld "RECEIVED" 31 8 .ro 0 .any,
  .rsv 7 6,
  .fld "PREF" 5 5 .ro 0 .any,
  .fld "TARGET" 4 4 .ro 0 .any,
  .fld "STATE" 3 0 .ro 0 .any]⟩
def F.CFG_FWSTAT_RECEIVED : Fld := ⟨0x02, 0x64, 31, 8⟩
def F.CFG_FWSTAT_PREF : Fld := ⟨0x02, 0x64, 5, 5⟩
def F.CFG_FWSTAT_TARGET : Fld := ⟨0x02, 0x64, 4, 4⟩
def F.CFG_FWSTAT_STATE : Fld := ⟨0x02, 0x64, 3, 0⟩
/-- `CFG_CLPLOG` (CFG page, 04). -/
def rCFG_CLPLOG : RegRow := ⟨"CFG_CLPLOG", 0x80, 0xAF, [
  .fld "WORD" 31 0 .ro 0 .any]⟩
def F.CFG_CLPLOG_WORD : Fld := ⟨0x02, 0x80, 31, 0⟩
/-- `CFG_FWCTL` (CFG page, 04). -/
def rCFG_FWCTL : RegRow := ⟨"CFG_FWCTL", 0xE0, 0xE0, [
  .rsv 31 4,
  .fld "CMD" 3 0 .wo 0 .any]⟩
def F.CFG_FWCTL_CMD : Fld := ⟨0x02, 0xE0, 3, 0⟩
/-- `CFG_FWADDR` (CFG page, 04). -/
def rCFG_FWADDR : RegRow := ⟨"CFG_FWADDR", 0xE1, 0xE1, [
  .rsv 31 21,
  .fld "OFFSET" 20 0 .rw 0 (.range 0 2097151 4)]⟩
def F.CFG_FWADDR_OFFSET : Fld := ⟨0x02, 0xE1, 20, 0⟩
/-- `CFG_FWDATA` (CFG page, 04). -/
def rCFG_FWDATA : RegRow := ⟨"CFG_FWDATA", 0xE2, 0xE2, [
  .fld "DATA" 31 0 .wo 0 .any]⟩
def F.CFG_FWDATA_DATA : Fld := ⟨0x02, 0xE2, 31, 0⟩
/-- `CFG_UNLOCK` (CFG page, 04). -/
def rCFG_UNLOCK : RegRow := ⟨"CFG_UNLOCK", 0xE3, 0xE3, [
  .fld "PW" 31 0 .wo 0 .any]⟩
def F.CFG_UNLOCK_PW : Fld := ⟨0x02, 0xE3, 31, 0⟩
/-- `CFG_NEWPW` (CFG page, 04). -/
def rCFG_NEWPW : RegRow := ⟨"CFG_NEWPW", 0xE4, 0xE4, [
  .fld "PW" 31 0 .wo 0 .any]⟩
def F.CFG_NEWPW_PW : Fld := ⟨0x02, 0xE4, 31, 0⟩
/-- `CFG_DEFAULT` (CFG page, 04). -/
def rCFG_DEFAULT : RegRow := ⟨"CFG_DEFAULT", 0xE5, 0xE5, [
  .fld "KEY" 31 0 .wo 0 .any]⟩
def F.CFG_DEFAULT_KEY : Fld := ⟨0x02, 0xE5, 31, 0⟩
/-- The words of a CFG page. -/
def regsCFG : List RegRow := [
  rCFG_IFLAG, rCFG_COMMIT, rCFG_PEND, rCFG_STAGE, rCFG_DISCARD, rCFG_VIEW,
  rCFG_RESULT, rCFG_CMTSEQ, rCFG_LOCKSTAT, rCFG_CLPHEAD, rCFG_FWSTAT, rCFG_CLPLOG,
  rCFG_FWCTL, rCFG_FWADDR, rCFG_FWDATA, rCFG_UNLOCK, rCFG_NEWPW, rCFG_DEFAULT]

/-! ### THY -/
/-- `THY_IFLAG` (THY page, 06). -/
def rTHY_IFLAG : RegRow := ⟨"THY_IFLAG", 0x03, 0x03, [
  .rsv 31 4,
  .fld "PERIOD" 3 3 .w1c 0 .any,
  .fld "SYNC_EXTRA" 2 2 .w1c 0 .any,
  .fld "SYNC_MISS" 1 1 .w1c 0 .any,
  .fld "XTAL" 0 0 .w1c 0 .any]⟩
def F.THY_IFLAG_PERIOD : Fld := ⟨0x03, 0x03, 3, 3⟩
def F.THY_IFLAG_SYNC_EXTRA : Fld := ⟨0x03, 0x03, 2, 2⟩
def F.THY_IFLAG_SYNC_MISS : Fld := ⟨0x03, 0x03, 1, 1⟩
def F.THY_IFLAG_XTAL : Fld := ⟨0x03, 0x03, 0, 0⟩
/-- `THY_PERIOD` (THY page, 06). -/
def rTHY_PERIOD : RegRow := ⟨"THY_PERIOD", 0x08, 0x08, [
  .rsv 31 3,
  .fld "SEL" 2 0 .rws 2 (.enum [0, 1, 2, 3, 4])]⟩
def F.THY_PERIOD_SEL : Fld := ⟨0x03, 0x08, 2, 0⟩
/-- `THY_QUIET` (THY page, 06). -/
def rTHY_QUIET : RegRow := ⟨"THY_QUIET", 0x09, 0x09, [
  .rsv 31 12,
  .fld "LEAD" 11 0 .rws 200 (.range 50 2000 50)]⟩
def F.THY_QUIET_LEAD : Fld := ⟨0x03, 0x09, 11, 0⟩
/-- `THY_TRIG` (THY page, 06). -/
def rTHY_TRIG : RegRow := ⟨"THY_TRIG", 0x0A, 0x0A, [
  .fld "DELAY" 31 16 .rws 0 .any,
  .rsv 15 7,
  .fld "AXIS" 6 4 .rws 0 (.range 0 5 1),
  .rsv 3 2,
  .fld "SRC" 1 0 .rws 0 (.enum [0, 1, 2])]⟩
def F.THY_TRIG_DELAY : Fld := ⟨0x03, 0x0A, 31, 16⟩
def F.THY_TRIG_AXIS : Fld := ⟨0x03, 0x0A, 6, 4⟩
def F.THY_TRIG_SRC : Fld := ⟨0x03, 0x0A, 1, 0⟩
/-- `THY_TIME_LO` (THY page, 06). -/
def rTHY_TIME_LO : RegRow := ⟨"THY_TIME_LO", 0x60, 0x60, [
  .fld "TIME" 31 0 .ro 0 .any]⟩
def F.THY_TIME_LO_TIME : Fld := ⟨0x03, 0x60, 31, 0⟩
/-- `THY_TIME_HI` (THY page, 06). -/
def rTHY_TIME_HI : RegRow := ⟨"THY_TIME_HI", 0x61, 0x61, [
  .fld "TIME" 31 0 .ro 0 .any]⟩
def F.THY_TIME_HI_TIME : Fld := ⟨0x03, 0x61, 31, 0⟩
/-- `THY_FSEQ` (THY page, 06). -/
def rTHY_FSEQ : RegRow := ⟨"THY_FSEQ", 0x62, 0x62, [
  .fld "SEQ" 31 0 .ro 0 .any]⟩
def F.THY_FSEQ_SEQ : Fld := ⟨0x03, 0x62, 31, 0⟩
/-- `THY_STAT` (THY page, 06). -/
def rTHY_STAT : RegRow := ⟨"THY_STAT", 0x63, 0x63, [
  .rsv 31 11,
  .fld "PHASE" 10 8 .ro 0 .any,
  .rsv 7 5,
  .fld "ACTIVE" 4 2 .ro 2 .any,
  .fld "QUIET" 1 1 .ro 0 .any,
  .fld "XTAL_LOST" 0 0 .ro 0 .any]⟩
def F.THY_STAT_PHASE : Fld := ⟨0x03, 0x63, 10, 8⟩
def F.THY_STAT_ACTIVE : Fld := ⟨0x03, 0x63, 4, 2⟩
def F.THY_STAT_QUIET : Fld := ⟨0x03, 0x63, 1, 1⟩
def F.THY_STAT_XTAL_LOST : Fld := ⟨0x03, 0x63, 0, 0⟩
/-- `THY_SYNC` (THY page, 06). -/
def rTHY_SYNC : RegRow := ⟨"THY_SYNC", 0x64, 0x64, [
  .fld "MISS" 31 16 .rc 0 .any,
  .fld "PER" 15 0 .ro 0 .any]⟩
def F.THY_SYNC_MISS : Fld := ⟨0x03, 0x64, 31, 16⟩
def F.THY_SYNC_PER : Fld := ⟨0x03, 0x64, 15, 0⟩
/-- `THY_EPOCH_LO` (THY page, 06). -/
def rTHY_EPOCH_LO : RegRow := ⟨"THY_EPOCH_LO", 0xE0, 0xE0, [
  .fld "EPOCH" 31 0 .rw 0 .any]⟩
def F.THY_EPOCH_LO_EPOCH : Fld := ⟨0x03, 0xE0, 31, 0⟩
/-- `THY_EPOCH_HI` (THY page, 06). -/
def rTHY_EPOCH_HI : RegRow := ⟨"THY_EPOCH_HI", 0xE1, 0xE1, [
  .fld "EPOCH" 31 0 .rw 0 .any]⟩
def F.THY_EPOCH_HI_EPOCH : Fld := ⟨0x03, 0xE1, 31, 0⟩
/-- The words of a THY page. -/
def regsTHY : List RegRow := [
  rTHY_IFLAG, rTHY_PERIOD, rTHY_QUIET, rTHY_TRIG, rTHY_TIME_LO, rTHY_TIME_HI,
  rTHY_FSEQ, rTHY_STAT, rTHY_SYNC, rTHY_EPOCH_LO, rTHY_EPOCH_HI]

/-! ### FLT -/
/-- `FLT_PSTAT` (FLT page, 15). -/
def rFLT_PSTAT : RegRow := ⟨"FLT_PSTAT", 0x01, 0x01, [
  .rsv 31 18,
  .fld "FREEZE" 17 17 .ro 0 .any,
  .fld "DEGRADED" 16 16 .ro 0 .any,
  .rsv 15 0]⟩
def F.FLT_PSTAT_FREEZE : Fld := ⟨0x04, 0x01, 17, 17⟩
def F.FLT_PSTAT_DEGRADED : Fld := ⟨0x04, 0x01, 16, 16⟩
/-- `FLT_IFLAG` (FLT page, 15). -/
def rFLT_IFLAG : RegRow := ⟨"FLT_IFLAG", 0x03, 0x03, [
  .rsv 31 5,
  .fld "DISCARD" 4 4 .w1c 0 .any,
  .fld "ROLLFWD" 3 3 .w1c 0 .any,
  .fld "REVOKE" 2 2 .w1c 0 .any,
  .fld "EXPIRED" 1 1 .w1c 0 .any,
  .fld "MISMATCH" 0 0 .w1c 0 .any]⟩
def F.FLT_IFLAG_DISCARD : Fld := ⟨0x04, 0x03, 4, 4⟩
def F.FLT_IFLAG_ROLLFWD : Fld := ⟨0x04, 0x03, 3, 3⟩
def F.FLT_IFLAG_REVOKE : Fld := ⟨0x04, 0x03, 2, 2⟩
def F.FLT_IFLAG_EXPIRED : Fld := ⟨0x04, 0x03, 1, 1⟩
def F.FLT_IFLAG_MISMATCH : Fld := ⟨0x04, 0x03, 0, 0⟩
/-- `FLT_CFG` (FLT page, 15). -/
def rFLT_CFG : RegRow := ⟨"FLT_CFG", 0x08, 0x08, [
  .rsv 31 8,
  .fld "DEGR_TIME" 7 0 .rws 24 (.range 1 168 1)]⟩
def F.FLT_CFG_DEGR_TIME : Fld := ⟨0x04, 0x08, 7, 0⟩
/-- `FLT_MODE` (FLT page, 15). -/
def rFLT_MODE : RegRow := ⟨"FLT_MODE", 0x60, 0x60, [
  .rsv 31 9,
  .fld "STARTUP" 8 8 .ro 0 .any,
  .rsv 7 2,
  .fld "MODE" 1 0 .ro 0 .any]⟩
def F.FLT_MODE_STARTUP : Fld := ⟨0x04, 0x60, 8, 8⟩
def F.FLT_MODE_MODE : Fld := ⟨0x04, 0x60, 1, 0⟩
/-- `FLT_DEGR_LEFT` (FLT page, 15). -/
def rFLT_DEGR_LEFT : RegRow := ⟨"FLT_DEGR_LEFT", 0x61, 0x61, [
  .fld "S" 31 0 .ro 4294967295 .any]⟩
def F.FLT_DEGR_LEFT_S : Fld := ⟨0x04, 0x61, 31, 0⟩
/-- `FLT_LAST` (FLT page, 15). -/
def rFLT_LAST : RegRow := ⟨"FLT_LAST", 0x62, 0x62, [
  .fld "FRAME" 31 16 .ro 0 .any,
  .fld "OUT" 15 12 .ro 0 .any,
  .fld "PAR_B" 11 11 .ro 0 .any,
  .fld "PAR_A" 10 10 .ro 0 .any,
  .fld "ST_B" 9 9 .ro 0 .any,
  .fld "ST_A" 8 8 .ro 0 .any,
  .fld "FREEZE" 7 0 .ro 0 .any]⟩
def F.FLT_LAST_FRAME : Fld := ⟨0x04, 0x62, 31, 16⟩
def F.FLT_LAST_OUT : Fld := ⟨0x04, 0x62, 15, 12⟩
def F.FLT_LAST_PAR_B : Fld := ⟨0x04, 0x62, 11, 11⟩
def F.FLT_LAST_PAR_A : Fld := ⟨0x04, 0x62, 10, 10⟩
def F.FLT_LAST_ST_B : Fld := ⟨0x04, 0x62, 9, 9⟩
def F.FLT_LAST_ST_A : Fld := ⟨0x04, 0x62, 8, 8⟩
def F.FLT_LAST_FREEZE : Fld := ⟨0x04, 0x62, 7, 0⟩
/-- `FLT_COUNT` (FLT page, 15). -/
def rFLT_COUNT : RegRow := ⟨"FLT_COUNT", 0x63, 0x63, [
  .fld "MISMATCH" 31 16 .ro 0 .any,
  .fld "REVOKE" 15 0 .ro 0 .any]⟩
def F.FLT_COUNT_MISMATCH : Fld := ⟨0x04, 0x63, 31, 16⟩
def F.FLT_COUNT_REVOKE : Fld := ⟨0x04, 0x63, 15, 0⟩
/-- `FLT_STEST` (FLT page, 15). -/
def rFLT_STEST : RegRow := ⟨"FLT_STEST", 0x64, 0x64, [
  .fld "SLICES" 31 16 .ro 0 .any,
  .rsv 15 6,
  .fld "NEXT" 5 0 .ro 0 .any]⟩
def F.FLT_STEST_SLICES : Fld := ⟨0x04, 0x64, 31, 16⟩
def F.FLT_STEST_NEXT : Fld := ⟨0x04, 0x64, 5, 0⟩
/-- `FLT_LEASE` (FLT page, 15). -/
def rFLT_LEASE : RegRow := ⟨"FLT_LEASE", 0x70, 0x7F, [
  .fld "RES" 31 28 .ro 0 .any,
  .fld "INST" 27 24 .ro 0 .any,
  .fld "HOLDER" 23 20 .ro 0 .any,
  .fld "STATE" 19 18 .ro 0 .any,
  .rsv 17 16,
  .fld "LEFT" 15 0 .ro 0 .any]⟩
def F.FLT_LEASE_RES : Fld := ⟨0x04, 0x70, 31, 28⟩
def F.FLT_LEASE_INST : Fld := ⟨0x04, 0x70, 27, 24⟩
def F.FLT_LEASE_HOLDER : Fld := ⟨0x04, 0x70, 23, 20⟩
def F.FLT_LEASE_STATE : Fld := ⟨0x04, 0x70, 19, 18⟩
def F.FLT_LEASE_LEFT : Fld := ⟨0x04, 0x70, 15, 0⟩
/-- The words of a FLT page. -/
def regsFLT : List RegRow := [
  rFLT_PSTAT, rFLT_IFLAG, rFLT_CFG, rFLT_MODE, rFLT_DEGR_LEFT, rFLT_LAST,
  rFLT_COUNT, rFLT_STEST, rFLT_LEASE]

/-! ### TMP -/
/-- `TMP_IFLAG` (TMP page, 22). -/
def rTMP_IFLAG : RegRow := ⟨"TMP_IFLAG", 0x03, 0x03, [
  .rsv 31 5,
  .fld "ECC" 4 4 .w1c 0 .any,
  .fld "PCYC" 3 3 .w1c 0 .any,
  .fld "DIODE" 2 2 .w1c 0 .any,
  .fld "STOP" 1 1 .w1c 0 .any,
  .fld "THROTTLE" 0 0 .w1c 0 .any]⟩
def F.TMP_IFLAG_ECC : Fld := ⟨0x05, 0x03, 4, 4⟩
def F.TMP_IFLAG_PCYC : Fld := ⟨0x05, 0x03, 3, 3⟩
def F.TMP_IFLAG_DIODE : Fld := ⟨0x05, 0x03, 2, 2⟩
def F.TMP_IFLAG_STOP : Fld := ⟨0x05, 0x03, 1, 1⟩
def F.TMP_IFLAG_THROTTLE : Fld := ⟨0x05, 0x03, 0, 0⟩
/-- `TMP_CFG` (TMP page, 22). -/
def rTMP_CFG : RegRow := ⟨"TMP_CFG", 0x08, 0x08, [
  .fld "COOL" 31 16 .rws 600 (.range 60 3600 1),
  .fld "PAUSE" 15 8 .rws 5 (.range 1 60 1),
  .rsv 7 1,
  .fld "AUTO" 0 0 .rws 1 .any]⟩
def F.TMP_CFG_COOL : Fld := ⟨0x05, 0x08, 31, 16⟩
def F.TMP_CFG_PAUSE : Fld := ⟨0x05, 0x08, 15, 8⟩
def F.TMP_CFG_AUTO : Fld := ⟨0x05, 0x08, 0, 0⟩
/-- `TMP_THR` (TMP page, 22). -/
def rTMP_THR : RegRow := ⟨"TMP_THR", 0x60, 0x60, [
  .rsv 31 26,
  .fld "FAST" 25 16 .ro 0 .any,
  .rsv 15 10,
  .fld "THROTTLE" 9 0 .ro 0 .any]⟩
def F.TMP_THR_FAST : Fld := ⟨0x05, 0x60, 25, 16⟩
def F.TMP_THR_THROTTLE : Fld := ⟨0x05, 0x60, 9, 0⟩
/-- `TMP_LATCH` (TMP page, 22). -/
def rTMP_LATCH : RegRow := ⟨"TMP_LATCH", 0x61, 0x61, [
  .rsv 31 26,
  .fld "DIODE" 25 16 .ro 0 .any,
  .rsv 15 10,
  .fld "LATCHED" 9 0 .ro 0 .any]⟩
def F.TMP_LATCH_DIODE : Fld := ⟨0x05, 0x61, 25, 16⟩
def F.TMP_LATCH_LATCHED : Fld := ⟨0x05, 0x61, 9, 0⟩
/-- `TMP_TCG` (TMP page, 22). -/
def rTMP_TCG : RegRow := ⟨"TMP_TCG", 0x62, 0x62, [
  .fld "G" 31 16 .ro 0 .any,
  .fld "C" 15 0 .ro 0 .any]⟩
def F.TMP_TCG_G : Fld := ⟨0x05, 0x62, 31, 16⟩
def F.TMP_TCG_C : Fld := ⟨0x05, 0x62, 15, 0⟩
/-- `TMP_TM01` (TMP page, 22). -/
def rTMP_TM01 : RegRow := ⟨"TMP_TM01", 0x63, 0x63, [
  .fld "ODD" 31 16 .ro 0 .any,
  .fld "EVEN" 15 0 .ro 0 .any]⟩
def F.TMP_TM01_ODD : Fld := ⟨0x05, 0x63, 31, 16⟩
def F.TMP_TM01_EVEN : Fld := ⟨0x05, 0x63, 15, 0⟩
/-- `TMP_TM23` (TMP page, 22). -/
def rTMP_TM23 : RegRow := ⟨"TMP_TM23", 0x64, 0x64, [
  .fld "ODD" 31 16 .ro 0 .any,
  .fld "EVEN" 15 0 .ro 0 .any]⟩
def F.TMP_TM23_ODD : Fld := ⟨0x05, 0x64, 31, 16⟩
def F.TMP_TM23_EVEN : Fld := ⟨0x05, 0x64, 15, 0⟩
/-- `TMP_TM45` (TMP page, 22). -/
def rTMP_TM45 : RegRow := ⟨"TMP_TM45", 0x65, 0x65, [
  .fld "ODD" 31 16 .ro 0 .any,
  .fld "EVEN" 15 0 .ro 0 .any]⟩
def F.TMP_TM45_ODD : Fld := ⟨0x05, 0x65, 31, 16⟩
def F.TMP_TM45_EVEN : Fld := ⟨0x05, 0x65, 15, 0⟩
/-- `TMP_TM67` (TMP page, 22). -/
def rTMP_TM67 : RegRow := ⟨"TMP_TM67", 0x66, 0x66, [
  .fld "ODD" 31 16 .ro 0 .any,
  .fld "EVEN" 15 0 .ro 0 .any]⟩
def F.TMP_TM67_ODD : Fld := ⟨0x05, 0x66, 31, 16⟩
def F.TMP_TM67_EVEN : Fld := ⟨0x05, 0x66, 15, 0⟩
/-- `TMP_PAUSE` (TMP page, 22). -/
def rTMP_PAUSE : RegRow := ⟨"TMP_PAUSE", 0x67, 0x67, [
  .fld "MOT" 31 16 .ro 0 .any,
  .fld "LSW" 15 0 .ro 0 .any]⟩
def F.TMP_PAUSE_MOT : Fld := ⟨0x05, 0x67, 31, 16⟩
def F.TMP_PAUSE_LSW : Fld := ⟨0x05, 0x67, 15, 0⟩
/-- `TMP_COUNT` (TMP page, 22). -/
def rTMP_COUNT : RegRow := ⟨"TMP_COUNT", 0x68, 0x68, [
  .fld "PCYC" 31 16 .ro 0 .any,
  .fld "STOPS" 15 0 .ro 0 .any]⟩
def F.TMP_COUNT_PCYC : Fld := ⟨0x05, 0x68, 31, 16⟩
def F.TMP_COUNT_STOPS : Fld := ⟨0x05, 0x68, 15, 0⟩
/-- `TMP_ECC` (TMP page, 22). -/
def rTMP_ECC : RegRow := ⟨"TMP_ECC", 0x69, 0x69, [
  .fld "MRAM" 31 16 .ro 0 .any,
  .fld "SRAM" 15 0 .ro 0 .any]⟩
def F.TMP_ECC_MRAM : Fld := ⟨0x05, 0x69, 31, 16⟩
def F.TMP_ECC_SRAM : Fld := ⟨0x05, 0x69, 15, 0⟩
/-- `TMP_CMD` (TMP page, 22). -/
def rTMP_CMD : RegRow := ⟨"TMP_CMD", 0xE0, 0xE0, [
  .fld "CMD" 31 0 .wo 0 .any]⟩
def F.TMP_CMD_CMD : Fld := ⟨0x05, 0xE0, 31, 0⟩
/-- The words of a TMP page. -/
def regsTMP : List RegRow := [
  rTMP_IFLAG, rTMP_CFG, rTMP_THR, rTMP_LATCH, rTMP_TCG, rTMP_TM01,
  rTMP_TM23, rTMP_TM45, rTMP_TM67, rTMP_PAUSE, rTMP_COUNT, rTMP_ECC,
  rTMP_CMD]

/-! ### PWR -/
/-- `PWR_IFLAG` (PWR page, 03). -/
def rPWR_IFLAG : RegRow := ⟨"PWR_IFLAG", 0x03, 0x03, [
  .rsv 31 5,
  .fld "LOW" 4 4 .w1c 0 .any,
  .fld "VM" 3 3 .w1c 0 .any,
  .fld "HUP_FAIL" 2 2 .w1c 0 .any,
  .fld "WARN_CLR" 1 1 .w1c 0 .any,
  .fld "WARN_SET" 0 0 .w1c 0 .any]⟩
def F.PWR_IFLAG_LOW : Fld := ⟨0x06, 0x03, 4, 4⟩
def F.PWR_IFLAG_VM : Fld := ⟨0x06, 0x03, 3, 3⟩
def F.PWR_IFLAG_HUP_FAIL : Fld := ⟨0x06, 0x03, 2, 2⟩
def F.PWR_IFLAG_WARN_CLR : Fld := ⟨0x06, 0x03, 1, 1⟩
def F.PWR_IFLAG_WARN_SET : Fld := ⟨0x06, 0x03, 0, 0⟩
/-- `PWR_LAYCFG` (PWR page, 03). -/
def rPWR_LAYCFG : RegRow := ⟨"PWR_LAYCFG", 0x08, 0x08, [
  .rsv 31 16,
  .fld "DEGLITCH" 15 8 .rws 10 (.range 1 255 1),
  .rsv 7 2,
  .fld "WAKEN_EN" 1 1 .rws 1 .any,
  .fld "SHORE_EN" 0 0 .rws 1 .any]⟩
def F.PWR_LAYCFG_DEGLITCH : Fld := ⟨0x06, 0x08, 15, 8⟩
def F.PWR_LAYCFG_WAKEN_EN : Fld := ⟨0x06, 0x08, 1, 1⟩
def F.PWR_LAYCFG_SHORE_EN : Fld := ⟨0x06, 0x08, 0, 0⟩
/-- `PWR_STAT` (PWR page, 03). -/
def rPWR_STAT : RegRow := ⟨"PWR_STAT", 0x60, 0x60, [
  .rsv 31 7,
  .fld "VLS_OK" 6 6 .ro 0 .any,
  .fld "COMMIT_INH" 5 5 .ro 0 .any,
  .fld "VM_OK" 4 4 .ro 0 .any,
  .fld "HUP_FAIL" 3 3 .ro 0 .any,
  .fld "HUP_OK" 2 2 .ro 0 .any,
  .fld "LOW" 1 1 .ro 0 .any,
  .fld "WARN" 0 0 .ro 0 .any]⟩
def F.PWR_STAT_VLS_OK : Fld := ⟨0x06, 0x60, 6, 6⟩
def F.PWR_STAT_COMMIT_INH : Fld := ⟨0x06, 0x60, 5, 5⟩
def F.PWR_STAT_VM_OK : Fld := ⟨0x06, 0x60, 4, 4⟩
def F.PWR_STAT_HUP_FAIL : Fld := ⟨0x06, 0x60, 3, 3⟩
def F.PWR_STAT_HUP_OK : Fld := ⟨0x06, 0x60, 2, 2⟩
def F.PWR_STAT_LOW : Fld := ⟨0x06, 0x60, 1, 1⟩
def F.PWR_STAT_WARN : Fld := ⟨0x06, 0x60, 0, 0⟩
/-- `PWR_VSUP` (PWR page, 03). -/
def rPWR_VSUP : RegRow := ⟨"PWR_VSUP", 0x61, 0x61, [
  .fld "VLS" 31 16 .ro 0 .any,
  .fld "VSHIP" 15 0 .ro 0 .any]⟩
def F.PWR_VSUP_VLS : Fld := ⟨0x06, 0x61, 31, 16⟩
def F.PWR_VSUP_VSHIP : Fld := ⟨0x06, 0x61, 15, 0⟩
/-- `PWR_VM` (PWR page, 03). -/
def rPWR_VM : RegRow := ⟨"PWR_VM", 0x62, 0x62, [
  .fld "VHUP" 31 16 .ro 0 .any,
  .fld "VM" 15 0 .ro 0 .any]⟩
def F.PWR_VM_VHUP : Fld := ⟨0x06, 0x62, 31, 16⟩
def F.PWR_VM_VM : Fld := ⟨0x06, 0x62, 15, 0⟩
/-- `PWR_HUPCAP` (PWR page, 03). -/
def rPWR_HUPCAP : RegRow := ⟨"PWR_HUPCAP", 0x63, 0x63, [
  .rsv 31 16,
  .fld "CAP" 15 0 .ro 0 .any]⟩
def F.PWR_HUPCAP_CAP : Fld := ⟨0x06, 0x63, 15, 0⟩
/-- `PWR_BOOT` (PWR page, 03). -/
def rPWR_BOOT : RegRow := ⟨"PWR_BOOT", 0x64, 0x64, [
  .fld "TIME" 31 16 .ro 0 .any,
  .rsv 15 9,
  .fld "B_BAD" 8 8 .ro 0 .any,
  .fld "A_BAD" 7 7 .ro 0 .any,
  .fld "FALLBACK" 6 6 .ro 0 .any,
  .fld "BANK" 5 4 .ro 0 .any,
  .fld "STEP" 3 0 .ro 0 .any]⟩
def F.PWR_BOOT_TIME : Fld := ⟨0x06, 0x64, 31, 16⟩
def F.PWR_BOOT_B_BAD : Fld := ⟨0x06, 0x64, 8, 8⟩
def F.PWR_BOOT_A_BAD : Fld := ⟨0x06, 0x64, 7, 7⟩
def F.PWR_BOOT_FALLBACK : Fld := ⟨0x06, 0x64, 6, 6⟩
def F.PWR_BOOT_BANK : Fld := ⟨0x06, 0x64, 5, 4⟩
def F.PWR_BOOT_STEP : Fld := ⟨0x06, 0x64, 3, 0⟩
/-- `PWR_RSTCAUSE` (PWR page, 03). -/
def rPWR_RSTCAUSE : RegRow := ⟨"PWR_RSTCAUSE", 0x65, 0x65, [
  .rsv 31 5,
  .fld "WAKE_N" 4 4 .rc 0 .any,
  .fld "WAKE_SHORE" 3 3 .rc 0 .any,
  .fld "HOST" 2 2 .rc 0 .any,
  .fld "BROWNOUT" 1 1 .rc 0 .any,
  .fld "POWER_ON" 0 0 .rc 0 .any]⟩
def F.PWR_RSTCAUSE_WAKE_N : Fld := ⟨0x06, 0x65, 4, 4⟩
def F.PWR_RSTCAUSE_WAKE_SHORE : Fld := ⟨0x06, 0x65, 3, 3⟩
def F.PWR_RSTCAUSE_HOST : Fld := ⟨0x06, 0x65, 2, 2⟩
def F.PWR_RSTCAUSE_BROWNOUT : Fld := ⟨0x06, 0x65, 1, 1⟩
def F.PWR_RSTCAUSE_POWER_ON : Fld := ⟨0x06, 0x65, 0, 0⟩
/-- `PWR_EVCNT` (PWR page, 03). -/
def rPWR_EVCNT : RegRow := ⟨"PWR_EVCNT", 0x66, 0x66, [
  .fld "FAILS" 31 16 .ro 0 .any,
  .fld "WARNS" 15 0 .ro 0 .any]⟩
def F.PWR_EVCNT_FAILS : Fld := ⟨0x06, 0x66, 31, 16⟩
def F.PWR_EVCNT_WARNS : Fld := ⟨0x06, 0x66, 15, 0⟩
/-- `PWR_MDPWR` (PWR page, 03). -/
def rPWR_MDPWR : RegRow := ⟨"PWR_MDPWR", 0x67, 0x67, [
  .rsv 31 16,
  .fld "MD_FAIL" 15 8 .ro 0 .any,
  .fld "MD_ON" 7 0 .ro 0 .any]⟩
def F.PWR_MDPWR_MD_FAIL : Fld := ⟨0x06, 0x67, 15, 8⟩
def F.PWR_MDPWR_MD_ON : Fld := ⟨0x06, 0x67, 7, 0⟩
/-- `PWR_RESET` (PWR page, 03). -/
def rPWR_RESET : RegRow := ⟨"PWR_RESET", 0xE0, 0xE0, [
  .fld "KEY" 31 0 .wo 0 .any]⟩
def F.PWR_RESET_KEY : Fld := ⟨0x06, 0xE0, 31, 0⟩
/-- `PWR_LAYUP` (PWR page, 03). -/
def rPWR_LAYUP : RegRow := ⟨"PWR_LAYUP", 0xE1, 0xE1, [
  .fld "KEY" 31 0 .wo 0 .any]⟩
def F.PWR_LAYUP_KEY : Fld := ⟨0x06, 0xE1, 31, 0⟩
/-- The words of a PWR page. -/
def regsPWR : List RegRow := [
  rPWR_IFLAG, rPWR_LAYCFG, rPWR_STAT, rPWR_VSUP, rPWR_VM, rPWR_HUPCAP,
  rPWR_BOOT, rPWR_RSTCAUSE, rPWR_EVCNT, rPWR_MDPWR, rPWR_RESET, rPWR_LAYUP]

/-! ### STK -/
/-- `STK_IFLAG` (STK page, 06). -/
def rSTK_IFLAG : RegRow := ⟨"STK_IFLAG", 0x03, 0x03, [
  .rsv 31 6,
  .fld "STROBE_MISS" 5 5 .w1c 0 .any,
  .fld "ROUTE" 4 4 .w1c 0 .any,
  .fld "DIE_BACK" 3 3 .w1c 0 .any,
  .fld "DIE_LOST" 2 2 .w1c 0 .any,
  .fld "SEG_UP" 1 1 .w1c 0 .any,
  .fld "SEG_DOWN" 0 0 .w1c 0 .any]⟩
def F.STK_IFLAG_STROBE_MISS : Fld := ⟨0x07, 0x03, 5, 5⟩
def F.STK_IFLAG_ROUTE : Fld := ⟨0x07, 0x03, 4, 4⟩
def F.STK_IFLAG_DIE_BACK : Fld := ⟨0x07, 0x03, 3, 3⟩
def F.STK_IFLAG_DIE_LOST : Fld := ⟨0x07, 0x03, 2, 2⟩
def F.STK_IFLAG_SEG_UP : Fld := ⟨0x07, 0x03, 1, 1⟩
def F.STK_IFLAG_SEG_DOWN : Fld := ⟨0x07, 0x03, 0, 0⟩
/-- `STK_CFG` (STK page, 06). -/
def rSTK_CFG : RegRow := ⟨"STK_CFG", 0x08, 0x08, [
  .rsv 31 9,
  .fld "RECAL" 8 8 .rws 1 .any,
  .rsv 7 4,
  .fld "SPLIT" 3 0 .rws 15 (.enum [0, 1, 2, 3, 4, 5, 6, 7, 8, 15])]⟩
def F.STK_CFG_RECAL : Fld := ⟨0x07, 0x08, 8, 8⟩
def F.STK_CFG_SPLIT : Fld := ⟨0x07, 0x08, 3, 0⟩
/-- `STK_SEGST` (STK page, 06). -/
def rSTK_SEGST : RegRow := ⟨"STK_SEGST", 0x60, 0x60, [
  .rsv 31 9,
  .fld "UP" 8 0 .ro 0 .any]⟩
def F.STK_SEGST_UP : Fld := ⟨0x07, 0x60, 8, 0⟩
/-- `STK_ROUTE` (STK page, 06). -/
def rSTK_ROUTE : RegRow := ⟨"STK_ROUTE", 0x61, 0x61, [
  .rsv 31 25,
  .fld "SINGLE" 24 24 .ro 0 .any,
  .fld "ASLEEP" 23 16 .ro 0 .any,
  .fld "REACH" 15 8 .ro 0 .any,
  .fld "TOP" 7 0 .ro 0 .any]⟩
def F.STK_ROUTE_SINGLE : Fld := ⟨0x07, 0x61, 24, 24⟩
def F.STK_ROUTE_ASLEEP : Fld := ⟨0x07, 0x61, 23, 16⟩
def F.STK_ROUTE_REACH : Fld := ⟨0x07, 0x61, 15, 8⟩
def F.STK_ROUTE_TOP : Fld := ⟨0x07, 0x61, 7, 0⟩
/-- `STK_LOAD` (STK page, 06). -/
def rSTK_LOAD : RegRow := ⟨"STK_LOAD", 0x62, 0x62, [
  .fld "CAP" 31 16 .ro 9690 .any,
  .fld "LOAD" 15 0 .ro 0 .any]⟩
def F.STK_LOAD_CAP : Fld := ⟨0x07, 0x62, 31, 16⟩
def F.STK_LOAD_LOAD : Fld := ⟨0x07, 0x62, 15, 0⟩
/-- `STK_DELAY` (STK page, 06). -/
def rSTK_DELAY : RegRow := ⟨"STK_DELAY", 0x68, 0x6F, [
  .rsv 31 16,
  .fld "DELAY" 15 0 .ro 0 .any]⟩
def F.STK_DELAY_DELAY : Fld := ⟨0x07, 0x68, 15, 0⟩
/-- `STK_ERR` (STK page, 06). -/
def rSTK_ERR : RegRow := ⟨"STK_ERR", 0x70, 0x78, [
  .fld "CRC" 31 16 .rc 0 .any,
  .fld "LOSS" 15 0 .rc 0 .any]⟩
def F.STK_ERR_CRC : Fld := ⟨0x07, 0x70, 31, 16⟩
def F.STK_ERR_LOSS : Fld := ⟨0x07, 0x70, 15, 0⟩
/-- The words of a STK page. -/
def regsSTK : List RegRow := [
  rSTK_IFLAG, rSTK_CFG, rSTK_SEGST, rSTK_ROUTE, rSTK_LOAD, rSTK_DELAY,
  rSTK_ERR]

/-! ### CUR -/
/-- `CUR_PSTAT` (CUR page, 10). -/
def rCUR_PSTAT : RegRow := ⟨"CUR_PSTAT", 0x01, 0x01, [
  .rsv 31 19,
  .fld "ZEROING" 18 18 .ro 0 .any,
  .fld "OCTRIP" 17 17 .ro 0 .any,
  .fld "SUSPECT" 16 16 .ro 0 .any,
  .rsv 15 0]⟩
def F.CUR_PSTAT_ZEROING : Fld := ⟨0x08, 0x01, 18, 18⟩
def F.CUR_PSTAT_OCTRIP : Fld := ⟨0x08, 0x01, 17, 17⟩
def F.CUR_PSTAT_SUSPECT : Fld := ⟨0x08, 0x01, 16, 16⟩
/-- `CUR_IFLAG` (CUR page, 10). -/
def rCUR_IFLAG : RegRow := ⟨"CUR_IFLAG", 0x03, 0x03, [
  .rsv 31 7,
  .fld "OCTEST" 6 6 .w1c 0 .any,
  .fld "ZFAIL" 5 5 .w1c 0 .any,
  .fld "ZDONE" 4 4 .w1c 0 .any,
  .fld "OC" 3 3 .w1c 0 .any,
  .fld "OVR" 2 2 .w1c 0 .any,
  .fld "AGREED" 1 1 .w1c 0 .any,
  .fld "SUSPECT" 0 0 .w1c 0 .any]⟩
def F.CUR_IFLAG_OCTEST : Fld := ⟨0x08, 0x03, 6, 6⟩
def F.CUR_IFLAG_ZFAIL : Fld := ⟨0x08, 0x03, 5, 5⟩
def F.CUR_IFLAG_ZDONE : Fld := ⟨0x08, 0x03, 4, 4⟩
def F.CUR_IFLAG_OC : Fld := ⟨0x08, 0x03, 3, 3⟩
def F.CUR_IFLAG_OVR : Fld := ⟨0x08, 0x03, 2, 2⟩
def F.CUR_IFLAG_AGREED : Fld := ⟨0x08, 0x03, 1, 1⟩
def F.CUR_IFLAG_SUSPECT : Fld := ⟨0x08, 0x03, 0, 0⟩
/-- `CUR_SHUNT` (CUR page, 10). -/
def rCUR_SHUNT : RegRow := ⟨"CUR_SHUNT", 0x08, 0x08, [
  .rsv 31 16,
  .fld "R" 15 0 .rws 500 (.range 100 10000 1)]⟩
def F.CUR_SHUNT_R : Fld := ⟨0x08, 0x08, 15, 0⟩
/-- `CUR_AGREE` (CUR page, 10). -/
def rCUR_AGREE : RegRow := ⟨"CUR_AGREE", 0x09, 0x09, [
  .fld "CONF" 31 24 .rws 4 (.range 1 100 1),
  .fld "REL" 23 12 .rws 20 (.range 1 1000 1),
  .fld "ABS" 11 0 .rws 20 (.range 1 4000 1)]⟩
def F.CUR_AGREE_CONF : Fld := ⟨0x08, 0x09, 31, 24⟩
def F.CUR_AGREE_REL : Fld := ⟨0x08, 0x09, 23, 12⟩
def F.CUR_AGREE_ABS : Fld := ⟨0x08, 0x09, 11, 0⟩
/-- `CUR_OCTH` (CUR page, 10). -/
def rCUR_OCTH : RegRow := ⟨"CUR_OCTH", 0x0A, 0x0A, [
  .fld "CHG" 31 16 .rws 1500 (.range 10 20000 1),
  .fld "DIS" 15 0 .rws 3000 (.range 10 20000 1)]⟩
def F.CUR_OCTH_CHG : Fld := ⟨0x08, 0x0A, 31, 16⟩
def F.CUR_OCTH_DIS : Fld := ⟨0x08, 0x0A, 15, 0⟩
/-- `CUR_OCCFG` (CUR page, 10). -/
def rCUR_OCCFG : RegRow := ⟨"CUR_OCCFG", 0x0B, 0x0B, [
  .rsv 31 8,
  .fld "DEGLITCH" 7 0 .rws 50 (.range 10 80 1)]⟩
def F.CUR_OCCFG_DEGLITCH : Fld := ⟨0x08, 0x0B, 7, 0⟩
/-- `CUR_GAINA` (CUR page, 10). -/
def rCUR_GAINA : RegRow := ⟨"CUR_GAINA", 0x0C, 0x0C, [
  .fld "GAIN" 31 0 .rws 0 (.srange (-200000) (200000))]⟩
def F.CUR_GAINA_GAIN : Fld := ⟨0x08, 0x0C, 31, 0⟩
/-- `CUR_GAINB` (CUR page, 10). -/
def rCUR_GAINB : RegRow := ⟨"CUR_GAINB", 0x0D, 0x0D, [
  .fld "GAIN" 31 0 .rws 0 (.srange (-200000) (200000))]⟩
def F.CUR_GAINB_GAIN : Fld := ⟨0x08, 0x0D, 31, 0⟩
/-- `CUR_ZCFG` (CUR page, 10). -/
def rCUR_ZCFG : RegRow := ⟨"CUR_ZCFG", 0x0E, 0x0E, [
  .fld "ZMAX" 31 16 .rws 30 (.range 1 200 1),
  .rsv 15 1,
  .fld "AUTO" 0 0 .rws 1 .any]⟩
def F.CUR_ZCFG_ZMAX : Fld := ⟨0x08, 0x0E, 31, 16⟩
def F.CUR_ZCFG_AUTO : Fld := ⟨0x08, 0x0E, 0, 0⟩
/-- `CUR_I` (CUR page, 10). -/
def rCUR_I : RegRow := ⟨"CUR_I", 0x60, 0x60, [
  .fld "MA" 31 0 .ro 0 .any]⟩
def F.CUR_I_MA : Fld := ⟨0x08, 0x60, 31, 0⟩
/-- `CUR_IA` (CUR page, 10). -/
def rCUR_IA : RegRow := ⟨"CUR_IA", 0x61, 0x61, [
  .fld "MA" 31 0 .ro 0 .any]⟩
def F.CUR_IA_MA : Fld := ⟨0x08, 0x61, 31, 0⟩
/-- `CUR_IB` (CUR page, 10). -/
def rCUR_IB : RegRow := ⟨"CUR_IB", 0x62, 0x62, [
  .fld "MA" 31 0 .ro 0 .any]⟩
def F.CUR_IB_MA : Fld := ⟨0x08, 0x62, 31, 0⟩
/-- `CUR_STAT` (CUR page, 10). -/
def rCUR_STAT : RegRow := ⟨"CUR_STAT", 0x63, 0x63, [
  .fld "SEQ" 31 28 .ro 0 .any,
  .fld "SRC" 27 27 .ro 0 .any,
  .rsv 26 25,
  .fld "S" 24 24 .ro 0 .any,
  .fld "OVR_A" 23 23 .ro 0 .any,
  .fld "OVR_B" 22 22 .ro 0 .any,
  .fld "BAD" 21 20 .ro 0 .any,
  .fld "SUSPECT" 19 19 .ro 0 .any,
  .rsv 18 16,
  .fld "DIFF" 15 0 .ro 0 .any]⟩
def F.CUR_STAT_SEQ : Fld := ⟨0x08, 0x63, 31, 28⟩
def F.CUR_STAT_SRC : Fld := ⟨0x08, 0x63, 27, 27⟩
def F.CUR_STAT_S : Fld := ⟨0x08, 0x63, 24, 24⟩
def F.CUR_STAT_OVR_A : Fld := ⟨0x08, 0x63, 23, 23⟩
def F.CUR_STAT_OVR_B : Fld := ⟨0x08, 0x63, 22, 22⟩
def F.CUR_STAT_BAD : Fld := ⟨0x08, 0x63, 21, 20⟩
def F.CUR_STAT_SUSPECT : Fld := ⟨0x08, 0x63, 19, 19⟩
def F.CUR_STAT_DIFF : Fld := ⟨0x08, 0x63, 15, 0⟩
/-- `CUR_QACC_LO` (CUR page, 10). -/
def rCUR_QACC_LO : RegRow := ⟨"CUR_QACC_LO", 0x64, 0x64, [
  .fld "Q" 31 0 .ro 0 .any]⟩
def F.CUR_QACC_LO_Q : Fld := ⟨0x08, 0x64, 31, 0⟩
/-- `CUR_QACC_HI` (CUR page, 10). -/
def rCUR_QACC_HI : RegRow := ⟨"CUR_QACC_HI", 0x65, 0x65, [
  .fld "Q" 31 0 .ro 0 .any]⟩
def F.CUR_QACC_HI_Q : Fld := ⟨0x08, 0x65, 31, 0⟩
/-- `CUR_OFSA` (CUR page, 10). -/
def rCUR_OFSA : RegRow := ⟨"CUR_OFSA", 0x66, 0x66, [
  .fld "OFS" 31 0 .ro 0 .any]⟩
def F.CUR_OFSA_OFS : Fld := ⟨0x08, 0x66, 31, 0⟩
/-- `CUR_OFSB` (CUR page, 10). -/
def rCUR_OFSB : RegRow := ⟨"CUR_OFSB", 0x67, 0x67, [
  .fld "OFS" 31 0 .ro 0 .any]⟩
def F.CUR_OFSB_OFS : Fld := ⟨0x08, 0x67, 31, 0⟩
/-- `CUR_OCSTAT` (CUR page, 10). -/
def rCUR_OCSTAT : RegRow := ⟨"CUR_OCSTAT", 0x68, 0x68, [
  .fld "TRIPS" 31 16 .ro 0 .any,
  .fld "TFAIL" 15 8 .ro 0 .any,
  .rsv 7 2,
  .fld "CHG" 1 1 .ro 0 .any,
  .fld "DIS" 0 0 .ro 0 .any]⟩
def F.CUR_OCSTAT_TRIPS : Fld := ⟨0x08, 0x68, 31, 16⟩
def F.CUR_OCSTAT_TFAIL : Fld := ⟨0x08, 0x68, 15, 8⟩
def F.CUR_OCSTAT_CHG : Fld := ⟨0x08, 0x68, 1, 1⟩
def F.CUR_OCSTAT_DIS : Fld := ⟨0x08, 0x68, 0, 0⟩
/-- `CUR_ZERO` (CUR page, 10). -/
def rCUR_ZERO : RegRow := ⟨"CUR_ZERO", 0xE0, 0xE0, [
  .fld "CMD" 31 0 .wo 0 .any]⟩
def F.CUR_ZERO_CMD : Fld := ⟨0x08, 0xE0, 31, 0⟩
/-- The words of a CUR page. -/
def regsCUR : List RegRow := [
  rCUR_PSTAT, rCUR_IFLAG, rCUR_SHUNT, rCUR_AGREE, rCUR_OCTH, rCUR_OCCFG,
  rCUR_GAINA, rCUR_GAINB, rCUR_ZCFG, rCUR_I, rCUR_IA, rCUR_IB,
  rCUR_STAT, rCUR_QACC_LO, rCUR_QACC_HI, rCUR_OFSA, rCUR_OFSB, rCUR_OCSTAT,
  rCUR_ZERO]

/-! ### STV -/
/-- `STV_IFLAG` (STV page, 10). -/
def rSTV_IFLAG : RegRow := ⟨"STV_IFLAG", 0x03, 0x03, [
  .rsv 31 5,
  .fld "CALFAIL" 4 4 .w1c 0 .any,
  .fld "CALDONE" 3 3 .w1c 0 .any,
  .fld "OVR" 2 2 .w1c 0 .any,
  .fld "SUMCLR" 1 1 .w1c 0 .any,
  .fld "SUMSET" 0 0 .w1c 0 .any]⟩
def F.STV_IFLAG_CALFAIL : Fld := ⟨0x09, 0x03, 4, 4⟩
def F.STV_IFLAG_CALDONE : Fld := ⟨0x09, 0x03, 3, 3⟩
def F.STV_IFLAG_OVR : Fld := ⟨0x09, 0x03, 2, 2⟩
def F.STV_IFLAG_SUMCLR : Fld := ⟨0x09, 0x03, 1, 1⟩
def F.STV_IFLAG_SUMSET : Fld := ⟨0x09, 0x03, 0, 0⟩
/-- `STV_RSTR` (STV page, 10). -/
def rSTV_RSTR : RegRow := ⟨"STV_RSTR", 0x08, 0x08, [
  .fld "RATIO" 31 0 .rws 1000000 (.range 100000 3000000 1)]⟩
def F.STV_RSTR_RATIO : Fld := ⟨0x09, 0x08, 31, 0⟩
/-- `STV_RLNK` (STV page, 10). -/
def rSTV_RLNK : RegRow := ⟨"STV_RLNK", 0x09, 0x09, [
  .fld "RATIO" 31 0 .rws 1000000 (.range 100000 3000000 1)]⟩
def F.STV_RLNK_RATIO : Fld := ⟨0x09, 0x09, 31, 0⟩
/-- `STV_SUMCHK` (STV page, 10). -/
def rSTV_SUMCHK : RegRow := ⟨"STV_SUMCHK", 0x0A, 0x0A, [
  .rsv 31 17,
  .fld "EN" 16 16 .rws 1 .any,
  .fld "TOL" 15 0 .rws 50 (.range 10 1000 1)]⟩
def F.STV_SUMCHK_EN : Fld := ⟨0x09, 0x0A, 16, 16⟩
def F.STV_SUMCHK_TOL : Fld := ⟨0x09, 0x0A, 15, 0⟩
/-- `STV_VSTR` (STV page, 10). -/
def rSTV_VSTR : RegRow := ⟨"STV_VSTR", 0x60, 0x60, [
  .fld "MV" 31 0 .ro 0 .any]⟩
def F.STV_VSTR_MV : Fld := ⟨0x09, 0x60, 31, 0⟩
/-- `STV_VLNK` (STV page, 10). -/
def rSTV_VLNK : RegRow := ⟨"STV_VLNK", 0x61, 0x61, [
  .fld "MV" 31 0 .ro 0 .any]⟩
def F.STV_VLNK_MV : Fld := ⟨0x09, 0x61, 31, 0⟩
/-- `STV_VSUM` (STV page, 10). -/
def rSTV_VSUM : RegRow := ⟨"STV_VSUM", 0x62, 0x62, [
  .fld "MV" 31 0 .ro 0 .any]⟩
def F.STV_VSUM_MV : Fld := ⟨0x09, 0x62, 31, 0⟩
/-- `STV_STAT` (STV page, 10). -/
def rSTV_STAT : RegRow := ⟨"STV_STAT", 0x63, 0x63, [
  .fld "SEQ" 31 28 .ro 0 .any,
  .rsv 27 25,
  .fld "S" 24 24 .ro 0 .any,
  .fld "OVR_STR" 23 23 .ro 0 .any,
  .fld "OVR_LNK" 22 22 .ro 0 .any,
  .fld "SUMERR" 21 21 .ro 0 .any,
  .fld "SUMVALID" 20 20 .ro 0 .any,
  .fld "SUBST" 19 19 .ro 0 .any,
  .fld "FLOAT" 18 18 .ro 0 .any,
  .rsv 17 0]⟩
def F.STV_STAT_SEQ : Fld := ⟨0x09, 0x63, 31, 28⟩
def F.STV_STAT_S : Fld := ⟨0x09, 0x63, 24, 24⟩
def F.STV_STAT_OVR_STR : Fld := ⟨0x09, 0x63, 23, 23⟩
def F.STV_STAT_OVR_LNK : Fld := ⟨0x09, 0x63, 22, 22⟩
def F.STV_STAT_SUMERR : Fld := ⟨0x09, 0x63, 21, 21⟩
def F.STV_STAT_SUMVALID : Fld := ⟨0x09, 0x63, 20, 20⟩
def F.STV_STAT_SUBST : Fld := ⟨0x09, 0x63, 19, 19⟩
def F.STV_STAT_FLOAT : Fld := ⟨0x09, 0x63, 18, 18⟩
/-- `STV_GSTR` (STV page, 10). -/
def rSTV_GSTR : RegRow := ⟨"STV_GSTR", 0x64, 0x64, [
  .fld "G" 31 0 .ro 0 .any]⟩
def F.STV_GSTR_G : Fld := ⟨0x09, 0x64, 31, 0⟩
/-- `STV_GLNK` (STV page, 10). -/
def rSTV_GLNK : RegRow := ⟨"STV_GLNK", 0x65, 0x65, [
  .fld "G" 31 0 .ro 0 .any]⟩
def F.STV_GLNK_G : Fld := ⟨0x09, 0x65, 31, 0⟩
/-- `STV_CAL` (STV page, 10). -/
def rSTV_CAL : RegRow := ⟨"STV_CAL", 0xE0, 0xE0, [
  .fld "CMD" 31 0 .wo 0 .any]⟩
def F.STV_CAL_CMD : Fld := ⟨0x09, 0xE0, 31, 0⟩
/-- The words of a STV page. -/
def regsSTV : List RegRow := [
  rSTV_IFLAG, rSTV_RSTR, rSTV_RLNK, rSTV_SUMCHK, rSTV_VSTR, rSTV_VLNK,
  rSTV_VSUM, rSTV_STAT, rSTV_GSTR, rSTV_GLNK, rSTV_CAL]

/-! ### BAY -/
/-- `BAY_PSTAT` (BAY page, 17). -/
def rBAY_PSTAT : RegRow := ⟨"BAY_PSTAT", 0x01, 0x01, [
  .rsv 31 19,
  .fld "ERROR" 18 18 .ro 0 .any,
  .fld "SEALED" 17 17 .ro 0 .any,
  .fld "RUN" 16 16 .ro 0 .any,
  .rsv 15 0]⟩
def F.BAY_PSTAT_ERROR : Fld := ⟨0x0A, 0x01, 18, 18⟩
def F.BAY_PSTAT_SEALED : Fld := ⟨0x0A, 0x01, 17, 17⟩
def F.BAY_PSTAT_RUN : Fld := ⟨0x0A, 0x01, 16, 16⟩
/-- `BAY_IFLAG` (BAY page, 17). -/
def rBAY_IFLAG : RegRow := ⟨"BAY_IFLAG", 0x03, 0x03, [
  .rsv 31 7,
  .fld "RESTORE" 6 6 .w1c 0 .any,
  .fld "SESSION" 5 5 .w1c 0 .any,
  .fld "CLK" 4 4 .w1c 0 .any,
  .fld "PARAM" 3 3 .w1c 0 .any,
  .fld "SEAL" 2 2 .w1c 0 .any,
  .fld "RUN_SET" 1 1 .w1c 0 .any,
  .fld "RUN_LOST" 0 0 .w1c 0 .any]⟩
def F.BAY_IFLAG_RESTORE : Fld := ⟨0x0A, 0x03, 6, 6⟩
def F.BAY_IFLAG_SESSION : Fld := ⟨0x0A, 0x03, 5, 5⟩
def F.BAY_IFLAG_CLK : Fld := ⟨0x0A, 0x03, 4, 4⟩
def F.BAY_IFLAG_PARAM : Fld := ⟨0x0A, 0x03, 3, 3⟩
def F.BAY_IFLAG_SEAL : Fld := ⟨0x0A, 0x03, 2, 2⟩
def F.BAY_IFLAG_RUN_SET : Fld := ⟨0x0A, 0x03, 1, 1⟩
def F.BAY_IFLAG_RUN_LOST : Fld := ⟨0x0A, 0x03, 0, 0⟩
/-- `BAY_STAT` (BAY page, 17). -/
def rBAY_STAT : RegRow := ⟨"BAY_STAT", 0x60, 0x60, [
  .rsv 31 17,
  .fld "RUN" 16 16 .ro 0 .any,
  .rsv 15 13,
  .fld "LOCKOUT" 12 12 .ro 0 .any,
  .fld "SESSION" 11 11 .ro 0 .any,
  .fld "LOGFULL" 10 10 .ro 0 .any,
  .fld "CLKWARN" 9 9 .ro 0 .any,
  .fld "SEALED" 8 8 .ro 0 .any,
  .rsv 7 4,
  .fld "STATE" 3 0 .ro 0 .any]⟩
def F.BAY_STAT_RUN : Fld := ⟨0x0A, 0x60, 16, 16⟩
def F.BAY_STAT_LOCKOUT : Fld := ⟨0x0A, 0x60, 12, 12⟩
def F.BAY_STAT_SESSION : Fld := ⟨0x0A, 0x60, 11, 11⟩
def F.BAY_STAT_LOGFULL : Fld := ⟨0x0A, 0x60, 10, 10⟩
def F.BAY_STAT_CLKWARN : Fld := ⟨0x0A, 0x60, 9, 9⟩
def F.BAY_STAT_SEALED : Fld := ⟨0x0A, 0x60, 8, 8⟩
def F.BAY_STAT_STATE : Fld := ⟨0x0A, 0x60, 3, 0⟩
/-- `BAY_IMP_LO` (BAY page, 17). -/
def rBAY_IMP_LO : RegRow := ⟨"BAY_IMP_LO", 0x61, 0x61, [
  .fld "WH" 31 0 .ro 0 .any]⟩
def F.BAY_IMP_LO_WH : Fld := ⟨0x0A, 0x61, 31, 0⟩
/-- `BAY_IMP_HI` (BAY page, 17). -/
def rBAY_IMP_HI : RegRow := ⟨"BAY_IMP_HI", 0x62, 0x62, [
  .fld "WH" 31 0 .ro 0 .any]⟩
def F.BAY_IMP_HI_WH : Fld := ⟨0x0A, 0x62, 31, 0⟩
/-- `BAY_EXP_LO` (BAY page, 17). -/
def rBAY_EXP_LO : RegRow := ⟨"BAY_EXP_LO", 0x63, 0x63, [
  .fld "WH" 31 0 .ro 0 .any]⟩
def F.BAY_EXP_LO_WH : Fld := ⟨0x0A, 0x63, 31, 0⟩
/-- `BAY_EXP_HI` (BAY page, 17). -/
def rBAY_EXP_HI : RegRow := ⟨"BAY_EXP_HI", 0x64, 0x64, [
  .fld "WH" 31 0 .ro 0 .any]⟩
def F.BAY_EXP_HI_WH : Fld := ⟨0x0A, 0x64, 31, 0⟩
/-- `BAY_TIMP` (BAY page, 17). -/
def rBAY_TIMP : RegRow := ⟨"BAY_TIMP", 0x65, 0x65, [
  .fld "WH" 31 0 .ro 0 .any]⟩
def F.BAY_TIMP_WH : Fld := ⟨0x0A, 0x65, 31, 0⟩
/-- `BAY_TEXP` (BAY page, 17). -/
def rBAY_TEXP : RegRow := ⟨"BAY_TEXP", 0x66, 0x66, [
  .fld "WH" 31 0 .ro 0 .any]⟩
def F.BAY_TEXP_WH : Fld := ⟨0x0A, 0x66, 31, 0⟩
/-- `BAY_P` (BAY page, 17). -/
def rBAY_P : RegRow := ⟨"BAY_P", 0x67, 0x67, [
  .fld "VAL" 31 0 .ro 0 .any]⟩
def F.BAY_P_VAL : Fld := ⟨0x0A, 0x67, 31, 0⟩
/-- `BAY_V` (BAY page, 17). -/
def rBAY_V : RegRow := ⟨"BAY_V", 0x68, 0x68, [
  .fld "VAL" 31 0 .ro 0 .any]⟩
def F.BAY_V_VAL : Fld := ⟨0x0A, 0x68, 31, 0⟩
/-- `BAY_I` (BAY page, 17). -/
def rBAY_I : RegRow := ⟨"BAY_I", 0x69, 0x69, [
  .fld "VAL" 31 0 .ro 0 .any]⟩
def F.BAY_I_VAL : Fld := ⟨0x0A, 0x69, 31, 0⟩
/-- `BAY_SWID` (BAY page, 17). -/
def rBAY_SWID : RegRow := ⟨"BAY_SWID", 0x6A, 0x6A, [
  .fld "CRC" 31 0 .ro 0 .any]⟩
def F.BAY_SWID_CRC : Fld := ⟨0x0A, 0x6A, 31, 0⟩
/-- `BAY_SWVER` (BAY page, 17). -/
def rBAY_SWVER : RegRow := ⟨"BAY_SWVER", 0x6B, 0x6B, [
  .fld "MAJOR" 31 24 .ro 0 .any,
  .fld "MINOR" 23 16 .ro 0 .any,
  .fld "BUILD" 15 0 .ro 0 .any]⟩
def F.BAY_SWVER_MAJOR : Fld := ⟨0x0A, 0x6B, 31, 24⟩
def F.BAY_SWVER_MINOR : Fld := ⟨0x0A, 0x6B, 23, 16⟩
def F.BAY_SWVER_BUILD : Fld := ⟨0x0A, 0x6B, 15, 0⟩
/-- `BAY_MCOUNT` (BAY page, 17). -/
def rBAY_MCOUNT : RegRow := ⟨"BAY_MCOUNT", 0x6C, 0x6C, [
  .fld "COUNT" 31 0 .ro 0 .any]⟩
def F.BAY_MCOUNT_COUNT : Fld := ⟨0x0A, 0x6C, 31, 0⟩
/-- `BAY_LOGSTAT` (BAY page, 17). -/
def rBAY_LOGSTAT : RegRow := ⟨"BAY_LOGSTAT", 0x6D, 0x6D, [
  .fld "RLOST" 31 27 .ro 0 .any,
  .fld "USED" 26 16 .ro 0 .any,
  .rsv 15 10,
  .fld "NEWEST" 9 0 .ro 0 .any]⟩
def F.BAY_LOGSTAT_RLOST : Fld := ⟨0x0A, 0x6D, 31, 27⟩
def F.BAY_LOGSTAT_USED : Fld := ⟨0x0A, 0x6D, 26, 16⟩
def F.BAY_LOGSTAT_NEWEST : Fld := ⟨0x0A, 0x6D, 9, 0⟩
/-- `BAY_SESS` (BAY page, 17). -/
def rBAY_SESS : RegRow := ⟨"BAY_SESS", 0x6E, 0x6E, [
  .fld "ACTIVE" 31 31 .ro 0 .any,
  .fld "CUT" 30 30 .ro 0 .any,
  .fld "NUMBER" 29 0 .ro 0 .any]⟩
def F.BAY_SESS_ACTIVE : Fld := ⟨0x0A, 0x6E, 31, 31⟩
def F.BAY_SESS_CUT : Fld := ⟨0x0A, 0x6E, 30, 30⟩
def F.BAY_SESS_NUMBER : Fld := ⟨0x0A, 0x6E, 29, 0⟩
/-- `BAY_SIMP` (BAY page, 17). -/
def rBAY_SIMP : RegRow := ⟨"BAY_SIMP", 0x6F, 0x6F, [
  .fld "WH" 31 0 .ro 0 .any]⟩
def F.BAY_SIMP_WH : Fld := ⟨0x0A, 0x6F, 31, 0⟩
/-- `BAY_SEXP` (BAY page, 17). -/
def rBAY_SEXP : RegRow := ⟨"BAY_SEXP", 0x70, 0x70, [
  .fld "WH" 31 0 .ro 0 .any]⟩
def F.BAY_SEXP_WH : Fld := ⟨0x0A, 0x70, 31, 0⟩
/-- `BAY_SSTART_LO` (BAY page, 17). -/
def rBAY_SSTART_LO : RegRow := ⟨"BAY_SSTART_LO", 0x71, 0x71, [
  .fld "TIME" 31 0 .ro 0 .any]⟩
def F.BAY_SSTART_LO_TIME : Fld := ⟨0x0A, 0x71, 31, 0⟩
/-- `BAY_SSTART_HI` (BAY page, 17). -/
def rBAY_SSTART_HI : RegRow := ⟨"BAY_SSTART_HI", 0x72, 0x72, [
  .fld "TIME" 31 0 .ro 0 .any]⟩
def F.BAY_SSTART_HI_TIME : Fld := ⟨0x0A, 0x72, 31, 0⟩
/-- `BAY_SDUR` (BAY page, 17). -/
def rBAY_SDUR : RegRow := ⟨"BAY_SDUR", 0x73, 0x73, [
  .fld "S" 31 0 .ro 0 .any]⟩
def F.BAY_SDUR_S : Fld := ⟨0x0A, 0x73, 31, 0⟩
/-- `BAY_CLK` (BAY page, 17). -/
def rBAY_CLK : RegRow := ⟨"BAY_CLK", 0x74, 0x74, [
  .fld "DEV" 31 0 .ro 0 .any]⟩
def F.BAY_CLK_DEV : Fld := ⟨0x0A, 0x74, 31, 0⟩
/-- `BAY_UNMET` (BAY page, 17). -/
def rBAY_UNMET : RegRow := ⟨"BAY_UNMET", 0x75, 0x75, [
  .fld "MS" 31 0 .ro 0 .any]⟩
def F.BAY_UNMET_MS : Fld := ⟨0x0A, 0x75, 31, 0⟩
/-- `BAY_MBSTAT` (BAY page, 17). -/
def rBAY_MBSTAT : RegRow := ⟨"BAY_MBSTAT", 0x76, 0x76, [
  .fld "LOCKOUT_S" 31 16 .ro 0 .any,
  .rsv 15 8,
  .fld "RESULT" 7 0 .ro 0 .any]⟩
def F.BAY_MBSTAT_LOCKOUT_S : Fld := ⟨0x0A, 0x76, 31, 16⟩
def F.BAY_MBSTAT_RESULT : Fld := ⟨0x0A, 0x76, 7, 0⟩
/-- `BAY_CAL` (BAY page, 17). -/
def rBAY_CAL : RegRow := ⟨"BAY_CAL", 0x80, 0x84, [
  .fld "VALUE" 31 0 .ro 0 .any]⟩
def F.BAY_CAL_VALUE : Fld := ⟨0x0A, 0x80, 31, 0⟩
/-- `BAY_LOG` (BAY page, 17). -/
def rBAY_LOG : RegRow := ⟨"BAY_LOG", 0xC0, 0xC5, [
  .fld "DATA" 31 0 .ro 0 .any]⟩
def F.BAY_LOG_DATA : Fld := ⟨0x0A, 0xC0, 31, 0⟩
/-- `BAY_LOGSEL` (BAY page, 17). -/
def rBAY_LOGSEL : RegRow := ⟨"BAY_LOGSEL", 0xE0, 0xE0, [
  .rsv 31 10,
  .fld "IDX" 9 0 .rw 0 .any]⟩
def F.BAY_LOGSEL_IDX : Fld := ⟨0x0A, 0xE0, 9, 0⟩
/-- `BAY_MBOX` (BAY page, 17). -/
def rBAY_MBOX : RegRow := ⟨"BAY_MBOX", 0xE8, 0xEF, [
  .fld "DATA" 31 0 .wo 0 .any]⟩
def F.BAY_MBOX_DATA : Fld := ⟨0x0A, 0xE8, 31, 0⟩
/-- The words of a BAY page. -/
def regsBAY : List RegRow := [
  rBAY_PSTAT, rBAY_IFLAG, rBAY_STAT, rBAY_IMP_LO, rBAY_IMP_HI, rBAY_EXP_LO,
  rBAY_EXP_HI, rBAY_TIMP, rBAY_TEXP, rBAY_P, rBAY_V, rBAY_I,
  rBAY_SWID, rBAY_SWVER, rBAY_MCOUNT, rBAY_LOGSTAT, rBAY_SESS, rBAY_SIMP,
  rBAY_SEXP, rBAY_SSTART_LO, rBAY_SSTART_HI, rBAY_SDUR, rBAY_CLK, rBAY_UNMET,
  rBAY_MBSTAT, rBAY_CAL, rBAY_LOG, rBAY_LOGSEL, rBAY_MBOX]

/-! ### SGE -/
/-- `SGE_PSTAT` (SGE page, 11). -/
def rSGE_PSTAT : RegRow := ⟨"SGE_PSTAT", 0x01, 0x01, [
  .rsv 31 18,
  .fld "WBBUSY" 17 17 .ro 0 .any,
  .fld "REST" 16 16 .ro 0 .any,
  .rsv 15 0]⟩
def F.SGE_PSTAT_WBBUSY : Fld := ⟨0x0C, 0x01, 17, 17⟩
def F.SGE_PSTAT_REST : Fld := ⟨0x0C, 0x01, 16, 16⟩
/-- `SGE_IFLAG` (SGE page, 11). -/
def rSGE_IFLAG : RegRow := ⟨"SGE_IFLAG", 0x03, 0x03, [
  .rsv 31 7,
  .fld "LRNREJ" 6 6 .w1c 0 .any,
  .fld "TABLE" 5 5 .w1c 0 .any,
  .fld "WBFAIL" 4 4 .w1c 0 .any,
  .fld "WBDONE" 3 3 .w1c 0 .any,
  .fld "WARN" 2 2 .w1c 0 .any,
  .fld "LEARN" 1 1 .w1c 0 .any,
  .fld "REST" 0 0 .w1c 0 .any]⟩
def F.SGE_IFLAG_LRNREJ : Fld := ⟨0x0C, 0x03, 6, 6⟩
def F.SGE_IFLAG_TABLE : Fld := ⟨0x0C, 0x03, 5, 5⟩
def F.SGE_IFLAG_WBFAIL : Fld := ⟨0x0C, 0x03, 4, 4⟩
def F.SGE_IFLAG_WBDONE : Fld := ⟨0x0C, 0x03, 3, 3⟩
def F.SGE_IFLAG_WARN : Fld := ⟨0x0C, 0x03, 2, 2⟩
def F.SGE_IFLAG_LEARN : Fld := ⟨0x0C, 0x03, 1, 1⟩
def F.SGE_IFLAG_REST : Fld := ⟨0x0C, 0x03, 0, 0⟩
/-- `SGE_REST` (SGE page, 11). -/
def rSGE_REST : RegRow := ⟨"SGE_REST", 0x08, 0x08, [
  .fld "TREST" 31 16 .rws 1800 (.range 60 7200 1),
  .fld "IREST" 15 0 .rws 5 (.range 1 100 1)]⟩
def F.SGE_REST_TREST : Fld := ⟨0x0C, 0x08, 31, 16⟩
def F.SGE_REST_IREST : Fld := ⟨0x0C, 0x08, 15, 0⟩
/-- `SGE_CAPNOM` (SGE page, 11). -/
def rSGE_CAPNOM : RegRow := ⟨"SGE_CAPNOM", 0x09, 0x09, [
  .rsv 31 16,
  .fld "CAP" 15 0 .rws 10000 (.range 100 65535 1)]⟩
def F.SGE_CAPNOM_CAP : Fld := ⟨0x0C, 0x09, 15, 0⟩
/-- `SGE_CHEMMAP` (SGE page, 11). -/
def rSGE_CHEMMAP : RegRow := ⟨"SGE_CHEMMAP", 0x0A, 0x0A, [
  .rsv 31 16,
  .fld "MAP" 15 0 .rws 0 .any]⟩
def F.SGE_CHEMMAP_MAP : Fld := ⟨0x0C, 0x0A, 15, 0⟩
/-- `SGE_VSHUT` (SGE page, 11). -/
def rSGE_VSHUT : RegRow := ⟨"SGE_VSHUT", 0x0B, 0x0B, [
  .rsv 31 16,
  .fld "MV" 15 0 .rws 3000 (.range 1500 4000 1)]⟩
def F.SGE_VSHUT_MV : Fld := ⟨0x0C, 0x0B, 15, 0⟩
/-- `SGE_RECON` (SGE page, 11). -/
def rSGE_RECON : RegRow := ⟨"SGE_RECON", 0x0C, 0x0C, [
  .fld "WARN" 31 24 .rws 80 (.range 10 250 1),
  .fld "ZTOL" 23 16 .rws 30 (.range 0 100 1),
  .fld "VLOAD" 15 8 .rws 30 .any,
  .fld "VTOL" 7 0 .rws 30 (.range 1 255 1)]⟩
def F.SGE_RECON_WARN : Fld := ⟨0x0C, 0x0C, 31, 24⟩
def F.SGE_RECON_ZTOL : Fld := ⟨0x0C, 0x0C, 23, 16⟩
def F.SGE_RECON_VLOAD : Fld := ⟨0x0C, 0x0C, 15, 8⟩
def F.SGE_RECON_VTOL : Fld := ⟨0x0C, 0x0C, 7, 0⟩
/-- `SGE_WB` (SGE page, 11). -/
def rSGE_WB : RegRow := ⟨"SGE_WB", 0x0D, 0x0D, [
  .rsv 31 8,
  .fld "PERIOD" 7 0 .rws 15 (.range 1 60 1)]⟩
def F.SGE_WB_PERIOD : Fld := ⟨0x0C, 0x0D, 7, 0⟩
/-- `SGE_LRN` (SGE page, 11). -/
def rSGE_LRN : RegRow := ⟨"SGE_LRN", 0x12, 0x12, [
  .rsv 31 25,
  .fld "EN" 24 24 .rws 1 .any,
  .fld "WEIGHT" 23 16 .rws 32 (.range 8 128 1),
  .fld "MINDSOC" 15 8 .rws 35 (.range 35 90 1),
  .fld "MAXERR" 7 0 .rws 10 (.range 1 10 1)]⟩
def F.SGE_LRN_EN : Fld := ⟨0x0C, 0x12, 24, 24⟩
def F.SGE_LRN_WEIGHT : Fld := ⟨0x0C, 0x12, 23, 16⟩
def F.SGE_LRN_MINDSOC : Fld := ⟨0x0C, 0x12, 15, 8⟩
def F.SGE_LRN_MAXERR : Fld := ⟨0x0C, 0x12, 7, 0⟩
/-- `SGE_SOC` (SGE page, 11). -/
def rSGE_SOC : RegRow := ⟨"SGE_SOC", 0x60, 0x60, [
  .fld "SEQ" 31 28 .ro 0 .any,
  .fld "W" 27 27 .ro 0 .any,
  .fld "E" 26 26 .ro 0 .any,
  .fld "REST" 25 25 .ro 0 .any,
  .fld "S" 24 24 .ro 1 .any,
  .rsv 23 16,
  .fld "SOC" 15 0 .ro 0 .any]⟩
def F.SGE_SOC_SEQ : Fld := ⟨0x0C, 0x60, 31, 28⟩
def F.SGE_SOC_W : Fld := ⟨0x0C, 0x60, 27, 27⟩
def F.SGE_SOC_E : Fld := ⟨0x0C, 0x60, 26, 26⟩
def F.SGE_SOC_REST : Fld := ⟨0x0C, 0x60, 25, 25⟩
def F.SGE_SOC_S : Fld := ⟨0x0C, 0x60, 24, 24⟩
def F.SGE_SOC_SOC : Fld := ⟨0x0C, 0x60, 15, 0⟩
/-- `SGE_SOCRAW` (SGE page, 11). -/
def rSGE_SOCRAW : RegRow := ⟨"SGE_SOCRAW", 0x61, 0x61, [
  .fld "MAX" 31 16 .ro 0 .any,
  .fld "MIN" 15 0 .ro 0 .any]⟩
def F.SGE_SOCRAW_MAX : Fld := ⟨0x0C, 0x61, 31, 16⟩
def F.SGE_SOCRAW_MIN : Fld := ⟨0x0C, 0x61, 15, 0⟩
/-- `SGE_ZERO` (SGE page, 11). -/
def rSGE_ZERO : RegRow := ⟨"SGE_ZERO", 0x62, 0x62, [
  .fld "TARGET" 31 16 .ro 0 .any,
  .fld "APPLIED" 15 0 .ro 0 .any]⟩
def F.SGE_ZERO_TARGET : Fld := ⟨0x0C, 0x62, 31, 16⟩
def F.SGE_ZERO_APPLIED : Fld := ⟨0x0C, 0x62, 15, 0⟩
/-- `SGE_LIMCELL` (SGE page, 11). -/
def rSGE_LIMCELL : RegRow := ⟨"SGE_LIMCELL", 0x63, 0x63, [
  .rsv 31 25,
  .fld "DIS" 24 16 .ro 0 .any,
  .rsv 15 9,
  .fld "CHG" 8 0 .ro 0 .any]⟩
def F.SGE_LIMCELL_DIS : Fld := ⟨0x0C, 0x63, 24, 16⟩
def F.SGE_LIMCELL_CHG : Fld := ⟨0x0C, 0x63, 8, 0⟩
/-- `SGE_QREM` (SGE page, 11). -/
def rSGE_QREM : RegRow := ⟨"SGE_QREM", 0x64, 0x64, [
  .fld "QCHG" 31 16 .ro 0 .any,
  .fld "QDIS" 15 0 .ro 0 .any]⟩
def F.SGE_QREM_QCHG : Fld := ⟨0x0C, 0x64, 31, 16⟩
def F.SGE_QREM_QDIS : Fld := ⟨0x0C, 0x64, 15, 0⟩
/-- `SGE_CAP` (SGE page, 11). -/
def rSGE_CAP : RegRow := ⟨"SGE_CAP", 0x65, 0x65, [
  .rsv 31 25,
  .fld "UNLRN" 24 16 .ro 0 .any,
  .fld "CAP" 15 0 .ro 0 .any]⟩
def F.SGE_CAP_UNLRN : Fld := ⟨0x0C, 0x65, 24, 16⟩
def F.SGE_CAP_CAP : Fld := ⟨0x0C, 0x65, 15, 0⟩
/-- `SGE_CYCLES` (SGE page, 11). -/
def rSGE_CYCLES : RegRow := ⟨"SGE_CYCLES", 0x66, 0x66, [
  .fld "EFC" 31 0 .ro 0 .any]⟩
def F.SGE_CYCLES_EFC : Fld := ⟨0x0C, 0x66, 31, 0⟩
/-- `SGE_AHDIS` (SGE page, 11). -/
def rSGE_AHDIS : RegRow := ⟨"SGE_AHDIS", 0x67, 0x67, [
  .fld "AH" 31 0 .ro 0 .any]⟩
def F.SGE_AHDIS_AH : Fld := ⟨0x0C, 0x67, 31, 0⟩
/-- `SGE_AHCHG` (SGE page, 11). -/
def rSGE_AHCHG : RegRow := ⟨"SGE_AHCHG", 0x68, 0x68, [
  .fld "AH" 31 0 .ro 0 .any]⟩
def F.SGE_AHCHG_AH : Fld := ⟨0x0C, 0x68, 31, 0⟩
/-- `SGE_RESTT` (SGE page, 11). -/
def rSGE_RESTT : RegRow := ⟨"SGE_RESTT", 0x69, 0x69, [
  .fld "POINTS" 31 16 .ro 0 .any,
  .fld "TIMER" 15 0 .ro 0 .any]⟩
def F.SGE_RESTT_POINTS : Fld := ⟨0x0C, 0x69, 31, 16⟩
def F.SGE_RESTT_TIMER : Fld := ⟨0x0C, 0x69, 15, 0⟩
/-- `SGE_WBSTAT` (SGE page, 11). -/
def rSGE_WBSTAT : RegRow := ⟨"SGE_WBSTAT", 0x6A, 0x6A, [
  .fld "SEQ" 31 16 .ro 0 .any,
  .rsv 15 6,
  .fld "START" 5 4 .ro 0 .any,
  .fld "DEFER" 3 3 .ro 0 .any,
  .rsv 2 2,
  .fld "LAST" 1 1 .ro 0 .any,
  .fld "CHOSEN" 0 0 .ro 0 .any]⟩
def F.SGE_WBSTAT_SEQ : Fld := ⟨0x0C, 0x6A, 31, 16⟩
def F.SGE_WBSTAT_START : Fld := ⟨0x0C, 0x6A, 5, 4⟩
def F.SGE_WBSTAT_DEFER : Fld := ⟨0x0C, 0x6A, 3, 3⟩
def F.SGE_WBSTAT_LAST : Fld := ⟨0x0C, 0x6A, 1, 1⟩
def F.SGE_WBSTAT_CHOSEN : Fld := ⟨0x0C, 0x6A, 0, 0⟩
/-- `SGE_LRNLAST` (SGE page, 11). -/
def rSGE_LRNLAST : RegRow := ⟨"SGE_LRNLAST", 0x6B, 0x6B, [
  .fld "LEARNED" 31 16 .ro 0 .any,
  .fld "NOTLRN" 15 0 .ro 0 .any]⟩
def F.SGE_LRNLAST_LEARNED : Fld := ⟨0x0C, 0x6B, 31, 16⟩
def F.SGE_LRNLAST_NOTLRN : Fld := ⟨0x0C, 0x6B, 15, 0⟩
/-- `SGE_DIS` (SGE page, 11). -/
def rSGE_DIS : RegRow := ⟨"SGE_DIS", 0x6C, 0x6C, [
  .rsv 31 25,
  .fld "CELL" 24 16 .ro 0 .any,
  .fld "DIS" 15 0 .ro 0 .any]⟩
def F.SGE_DIS_CELL : Fld := ⟨0x0C, 0x6C, 24, 16⟩
def F.SGE_DIS_DIS : Fld := ⟨0x0C, 0x6C, 15, 0⟩
/-- `SGE_TBLSEL` (SGE page, 11). -/
def rSGE_TBLSEL : RegRow := ⟨"SGE_TBLSEL", 0xE0, 0xE0, [
  .rsv 31 26,
  .fld "TABLE" 25 24 .rw 0 .any,
  .rsv 23 9,
  .fld "ENTRY" 8 0 .rw 0 .any]⟩
def F.SGE_TBLSEL_TABLE : Fld := ⟨0x0C, 0xE0, 25, 24⟩
def F.SGE_TBLSEL_ENTRY : Fld := ⟨0x0C, 0xE0, 8, 0⟩
/-- `SGE_TBLDATA` (SGE page, 11). -/
def rSGE_TBLDATA : RegRow := ⟨"SGE_TBLDATA", 0xE1, 0xE1, [
  .rsv 31 16,
  .fld "VALUE" 15 0 .rw 0 .any]⟩
def F.SGE_TBLDATA_VALUE : Fld := ⟨0x0C, 0xE1, 15, 0⟩
/-- `SGE_TBLCMD` (SGE page, 11). -/
def rSGE_TBLCMD : RegRow := ⟨"SGE_TBLCMD", 0xE2, 0xE2, [
  .fld "CMD" 31 0 .wo 0 .any]⟩
def F.SGE_TBLCMD_CMD : Fld := ⟨0x0C, 0xE2, 31, 0⟩
/-- `SGE_CMD` (SGE page, 11). -/
def rSGE_CMD : RegRow := ⟨"SGE_CMD", 0xE3, 0xE3, [
  .fld "CMD" 31 0 .wo 0 .any]⟩
def F.SGE_CMD_CMD : Fld := ⟨0x0C, 0xE3, 31, 0⟩
/-- The words of a SGE page. -/
def regsSGE : List RegRow := [
  rSGE_PSTAT, rSGE_IFLAG, rSGE_REST, rSGE_CAPNOM, rSGE_CHEMMAP, rSGE_VSHUT,
  rSGE_RECON, rSGE_WB, rSGE_LRN, rSGE_SOC, rSGE_SOCRAW, rSGE_ZERO,
  rSGE_LIMCELL, rSGE_QREM, rSGE_CAP, rSGE_CYCLES, rSGE_AHDIS, rSGE_AHCHG,
  rSGE_RESTT, rSGE_WBSTAT, rSGE_LRNLAST, rSGE_DIS, rSGE_TBLSEL, rSGE_TBLDATA,
  rSGE_TBLCMD, rSGE_CMD]

/-! ### SGC -/
/-- `SGC_CELL` (SGC page, 11). -/
def rSGC_CELL : RegRow := ⟨"SGC_CELL", 0x60, 0x9F, [
  .fld "SEQ" 31 28 .ro 0 .any,
  .fld "W" 27 27 .ro 0 .any,
  .fld "E" 26 26 .ro 0 .any,
  .fld "L" 25 25 .ro 0 .any,
  .fld "S" 24 24 .ro 1 .any,
  .fld "T" 23 16 .ro 0 .any,
  .fld "SOC" 15 0 .ro 0 .any]⟩
def F.SGC_CELL_SEQ : Fld := ⟨0x0D, 0x60, 31, 28⟩
def F.SGC_CELL_W : Fld := ⟨0x0D, 0x60, 27, 27⟩
def F.SGC_CELL_E : Fld := ⟨0x0D, 0x60, 26, 26⟩
def F.SGC_CELL_L : Fld := ⟨0x0D, 0x60, 25, 25⟩
def F.SGC_CELL_S : Fld := ⟨0x0D, 0x60, 24, 24⟩
def F.SGC_CELL_T : Fld := ⟨0x0D, 0x60, 23, 16⟩
def F.SGC_CELL_SOC : Fld := ⟨0x0D, 0x60, 15, 0⟩
/-- `SGC_CAP` (SGC page, 11). -/
def rSGC_CAP : RegRow := ⟨"SGC_CAP", 0xA0, 0xDF, [
  .fld "CAP" 31 16 .ro 0 .any,
  .fld "LRN" 15 12 .ro 0 .any,
  .fld "ERR" 11 0 .ro 0 .any]⟩
def F.SGC_CAP_CAP : Fld := ⟨0x0D, 0xA0, 31, 16⟩
def F.SGC_CAP_LRN : Fld := ⟨0x0D, 0xA0, 15, 12⟩
def F.SGC_CAP_ERR : Fld := ⟨0x0D, 0xA0, 11, 0⟩
/-- `SGC_BANK` (SGC page, 11). -/
def rSGC_BANK : RegRow := ⟨"SGC_BANK", 0xE0, 0xE0, [
  .rsv 31 3,
  .fld "DIE" 2 0 .rw 0 .any]⟩
def F.SGC_BANK_DIE : Fld := ⟨0x0D, 0xE0, 2, 0⟩
/-- `SGC_RESET` (SGC page, 11). -/
def rSGC_RESET : RegRow := ⟨"SGC_RESET", 0xE1, 0xE1, [
  .rsv 31 9,
  .fld "ALL" 8 8 .wo 0 .any,
  .rsv 7 6,
  .fld "CELL" 5 0 .wo 0 .any]⟩
def F.SGC_RESET_ALL : Fld := ⟨0x0D, 0xE1, 8, 8⟩
def F.SGC_RESET_CELL : Fld := ⟨0x0D, 0xE1, 5, 0⟩
/-- The words of a SGC page. -/
def regsSGC : List RegRow := [
  rSGC_CELL, rSGC_CAP, rSGC_BANK, rSGC_RESET]

/-! ### LIM -/
/-- `LIM_PSTAT` (LIM page, 12). -/
def rLIM_PSTAT : RegRow := ⟨"LIM_PSTAT", 0x01, 0x01, [
  .rsv 31 19,
  .fld "OVER" 18 18 .ro 0 .any,
  .fld "REDUCED" 17 17 .ro 0 .any,
  .fld "ZDEF" 16 16 .ro 0 .any,
  .rsv 15 0]⟩
def F.LIM_PSTAT_OVER : Fld := ⟨0x0E, 0x01, 18, 18⟩
def F.LIM_PSTAT_REDUCED : Fld := ⟨0x0E, 0x01, 17, 17⟩
def F.LIM_PSTAT_ZDEF : Fld := ⟨0x0E, 0x01, 16, 16⟩
/-- `LIM_IFLAG` (LIM page, 12). -/
def rLIM_IFLAG : RegRow := ⟨"LIM_IFLAG", 0x03, 0x03, [
  .rsv 31 9,
  .fld "ZREJ" 8 8 .w1c 0 .any,
  .fld "RED" 7 7 .w1c 0 .any,
  .fld "OVER" 6 6 .w1c 0 .any,
  .fld "EOC" 5 3 .w1c 0 .any,
  .fld "EOD" 2 0 .w1c 0 .any]⟩
def F.LIM_IFLAG_ZREJ : Fld := ⟨0x0E, 0x03, 8, 8⟩
def F.LIM_IFLAG_RED : Fld := ⟨0x0E, 0x03, 7, 7⟩
def F.LIM_IFLAG_OVER : Fld := ⟨0x0E, 0x03, 6, 6⟩
def F.LIM_IFLAG_EOC : Fld := ⟨0x0E, 0x03, 5, 3⟩
def F.LIM_IFLAG_EOD : Fld := ⟨0x0E, 0x03, 2, 0⟩
/-- `LIM_VLIM` (LIM page, 12). -/
def rLIM_VLIM : RegRow := ⟨"LIM_VLIM", 0x08, 0x08, [
  .fld "VCHG" 31 16 .rws 4150 (.range 2500 4800 1),
  .fld "VDIS" 15 0 .rws 3000 (.range 1000 4000 1)]⟩
def F.LIM_VLIM_VCHG : Fld := ⟨0x0E, 0x08, 31, 16⟩
def F.LIM_VLIM_VDIS : Fld := ⟨0x0E, 0x08, 15, 0⟩
/-- `LIM_IMAX` (LIM page, 12). -/
def rLIM_IMAX : RegRow := ⟨"LIM_IMAX", 0x09, 0x09, [
  .fld "CHG" 31 16 .rws 250 (.range 1 20000 1),
  .fld "DIS" 15 0 .rws 500 (.range 1 20000 1)]⟩
def F.LIM_IMAX_CHG : Fld := ⟨0x0E, 0x09, 31, 16⟩
def F.LIM_IMAX_DIS : Fld := ⟨0x0E, 0x09, 15, 0⟩
/-- `LIM_ZWIN` (LIM page, 12). -/
def rLIM_ZWIN : RegRow := ⟨"LIM_ZWIN", 0x0A, 0x0A, [
  .rsv 31 24,
  .fld "G30" 23 16 .rws 160 (.range 64 255 1),
  .fld "G10" 15 8 .rws 112 (.range 64 255 1),
  .fld "G2" 7 0 .rws 80 (.range 64 255 1)]⟩
def F.LIM_ZWIN_G30 : Fld := ⟨0x0E, 0x0A, 23, 16⟩
def F.LIM_ZWIN_G10 : Fld := ⟨0x0E, 0x0A, 15, 8⟩
def F.LIM_ZWIN_G2 : Fld := ⟨0x0E, 0x0A, 7, 0⟩
/-- `LIM_RED` (LIM page, 12). -/
def rLIM_RED : RegRow := ⟨"LIM_RED", 0x0B, 0x0B, [
  .fld "UNQ" 31 24 .rws 50 (.range 0 100 1),
  .fld "SUSP" 23 16 .rws 50 (.range 0 100 1),
  .fld "DEG" 15 8 .rws 50 (.range 0 100 1),
  .fld "ZMUL" 7 0 .rws 96 (.range 64 255 1)]⟩
def F.LIM_RED_UNQ : Fld := ⟨0x0E, 0x0B, 31, 24⟩
def F.LIM_RED_SUSP : Fld := ⟨0x0E, 0x0B, 23, 16⟩
def F.LIM_RED_DEG : Fld := ⟨0x0E, 0x0B, 15, 8⟩
def F.LIM_RED_ZMUL : Fld := ⟨0x0E, 0x0B, 7, 0⟩
/-- `LIM_SLEW` (LIM page, 12). -/
def rLIM_SLEW : RegRow := ⟨"LIM_SLEW", 0x0C, 0x0C, [
  .fld "MARGIN" 31 16 .rws 50 (.range 0 500 1),
  .fld "RISE" 15 0 .rws 100 (.range 1 10000 1)]⟩
def F.LIM_SLEW_MARGIN : Fld := ⟨0x0E, 0x0C, 31, 16⟩
def F.LIM_SLEW_RISE : Fld := ⟨0x0E, 0x0C, 15, 0⟩
/-- `LIM_ZSTEP` (LIM page, 12). -/
def rLIM_ZSTEP : RegRow := ⟨"LIM_ZSTEP", 0x0D, 0x0D, [
  .fld "GAIN" 31 24 .rws 32 (.range 8 128 1),
  .fld "MINDI" 23 12 .rws 100 (.range 10 4000 1),
  .fld "IBAND" 11 0 .rws 50 (.range 10 4000 1)]⟩
def F.LIM_ZSTEP_GAIN : Fld := ⟨0x0E, 0x0D, 31, 24⟩
def F.LIM_ZSTEP_MINDI : Fld := ⟨0x0E, 0x0D, 23, 12⟩
def F.LIM_ZSTEP_IBAND : Fld := ⟨0x0E, 0x0D, 11, 0⟩
/-- `LIM_EOD12` (LIM page, 12). -/
def rLIM_EOD12 : RegRow := ⟨"LIM_EOD12", 0x0E, 0x0E, [
  .fld "EOD2" 31 16 .rws 3150 (.range 1000 4000 1),
  .fld "EOD1" 15 0 .rws 3300 (.range 1000 4000 1)]⟩
def F.LIM_EOD12_EOD2 : Fld := ⟨0x0E, 0x0E, 31, 16⟩
def F.LIM_EOD12_EOD1 : Fld := ⟨0x0E, 0x0E, 15, 0⟩
/-- `LIM_EOD3` (LIM page, 12). -/
def rLIM_EOD3 : RegRow := ⟨"LIM_EOD3", 0x0F, 0x0F, [
  .fld "CONF" 31 24 .rws 2 (.range 1 100 1),
  .fld "HYST" 23 16 .rws 20 (.range 1 200 1),
  .fld "EOD3" 15 0 .rws 3000 (.range 1000 4000 1)]⟩
def F.LIM_EOD3_CONF : Fld := ⟨0x0E, 0x0F, 31, 24⟩
def F.LIM_EOD3_HYST : Fld := ⟨0x0E, 0x0F, 23, 16⟩
def F.LIM_EOD3_EOD3 : Fld := ⟨0x0E, 0x0F, 15, 0⟩
/-- `LIM_EOC12` (LIM page, 12). -/
def rLIM_EOC12 : RegRow := ⟨"LIM_EOC12", 0x10, 0x10, [
  .fld "EOC2" 31 16 .rws 4100 (.range 2500 4800 1),
  .fld "EOC1" 15 0 .rws 4050 (.range 2500 4800 1)]⟩
def F.LIM_EOC12_EOC2 : Fld := ⟨0x0E, 0x10, 31, 16⟩
def F.LIM_EOC12_EOC1 : Fld := ⟨0x0E, 0x10, 15, 0⟩
/-- `LIM_EOC3` (LIM page, 12). -/
def rLIM_EOC3 : RegRow := ⟨"LIM_EOC3", 0x11, 0x11, [
  .rsv 31 16,
  .fld "EOC3" 15 0 .rws 4150 (.range 2500 4800 1)]⟩
def F.LIM_EOC3_EOC3 : Fld := ⟨0x0E, 0x11, 15, 0⟩
/-- `LIM_ZDEF` (LIM page, 12). -/
def rLIM_ZDEF : RegRow := ⟨"LIM_ZDEF", 0x12, 0x17, [
  .fld "ZD" 31 16 .rws 0 (.range 1 65534 1),
  .fld "ZF" 15 0 .rws 0 (.range 1 65534 1)]⟩
def F.LIM_ZDEF_ZD : Fld := ⟨0x0E, 0x12, 31, 16⟩
def F.LIM_ZDEF_ZF : Fld := ⟨0x0E, 0x12, 15, 0⟩
/-- `LIM_DERATE` (LIM page, 12). -/
def rLIM_DERATE : RegRow := ⟨"LIM_DERATE", 0x18, 0x1F, [
  .fld "TEMP" 31 24 .rws 0 (.srange (-50) (100)),
  .rsv 23 16,
  .fld "CHG" 15 8 .rws 0 (.range 0 128 1),
  .fld "DIS" 7 0 .rws 0 (.range 0 128 1)]⟩
def F.LIM_DERATE_TEMP : Fld := ⟨0x0E, 0x18, 31, 24⟩
def F.LIM_DERATE_CHG : Fld := ⟨0x0E, 0x18, 15, 8⟩
def F.LIM_DERATE_DIS : Fld := ⟨0x0E, 0x18, 7, 0⟩
/-- `LIM_STAT` (LIM page, 12). -/
def rLIM_STAT : RegRow := ⟨"LIM_STAT", 0x60, 0x60, [
  .fld "SEQ" 31 28 .ro 0 .any,
  .fld "UNQ" 27 27 .ro 0 .any,
  .fld "ZDEF" 26 26 .ro 0 .any,
  .fld "RED" 25 25 .ro 0 .any,
  .fld "S" 24 24 .ro 1 .any,
  .fld "OVDIS" 23 21 .ro 0 .any,
  .fld "OVCHG" 20 18 .ro 0 .any,
  .rsv 17 12,
  .fld "EOC" 11 10 .ro 0 .any,
  .fld "EOD" 9 8 .ro 0 .any,
  .rsv 7 7,
  .fld "FACTOR" 6 0 .ro 0 .any]⟩
def F.LIM_STAT_SEQ : Fld := ⟨0x0E, 0x60, 31, 28⟩
def F.LIM_STAT_UNQ : Fld := ⟨0x0E, 0x60, 27, 27⟩
def F.LIM_STAT_ZDEF : Fld := ⟨0x0E, 0x60, 26, 26⟩
def F.LIM_STAT_RED : Fld := ⟨0x0E, 0x60, 25, 25⟩
def F.LIM_STAT_S : Fld := ⟨0x0E, 0x60, 24, 24⟩
def F.LIM_STAT_OVDIS : Fld := ⟨0x0E, 0x60, 23, 21⟩
def F.LIM_STAT_OVCHG : Fld := ⟨0x0E, 0x60, 20, 18⟩
def F.LIM_STAT_EOC : Fld := ⟨0x0E, 0x60, 11, 10⟩
def F.LIM_STAT_EOD : Fld := ⟨0x0E, 0x60, 9, 8⟩
def F.LIM_STAT_FACTOR : Fld := ⟨0x0E, 0x60, 6, 0⟩
/-- `LIM_DIS2` (LIM page, 12). -/
def rLIM_DIS2 : RegRow := ⟨"LIM_DIS2", 0x61, 0x61, [
  .rsv 31 25,
  .fld "CELL" 24 16 .ro 0 .any,
  .fld "A" 15 0 .ro 0 .any]⟩
def F.LIM_DIS2_CELL : Fld := ⟨0x0E, 0x61, 24, 16⟩
def F.LIM_DIS2_A : Fld := ⟨0x0E, 0x61, 15, 0⟩
/-- `LIM_DIS10` (LIM page, 12). -/
def rLIM_DIS10 : RegRow := ⟨"LIM_DIS10", 0x62, 0x62, [
  .rsv 31 25,
  .fld "CELL" 24 16 .ro 0 .any,
  .fld "A" 15 0 .ro 0 .any]⟩
def F.LIM_DIS10_CELL : Fld := ⟨0x0E, 0x62, 24, 16⟩
def F.LIM_DIS10_A : Fld := ⟨0x0E, 0x62, 15, 0⟩
/-- `LIM_DIS30` (LIM page, 12). -/
def rLIM_DIS30 : RegRow := ⟨"LIM_DIS30", 0x63, 0x63, [
  .rsv 31 25,
  .fld "CELL" 24 16 .ro 0 .any,
  .fld "A" 15 0 .ro 0 .any]⟩
def F.LIM_DIS30_CELL : Fld := ⟨0x0E, 0x63, 24, 16⟩
def F.LIM_DIS30_A : Fld := ⟨0x0E, 0x63, 15, 0⟩
/-- `LIM_CHG2` (LIM page, 12). -/
def rLIM_CHG2 : RegRow := ⟨"LIM_CHG2", 0x64, 0x64, [
  .rsv 31 25,
  .fld "CELL" 24 16 .ro 0 .any,
  .fld "A" 15 0 .ro 0 .any]⟩
def F.LIM_CHG2_CELL : Fld := ⟨0x0E, 0x64, 24, 16⟩
def F.LIM_CHG2_A : Fld := ⟨0x0E, 0x64, 15, 0⟩
/-- `LIM_CHG10` (LIM page, 12). -/
def rLIM_CHG10 : RegRow := ⟨"LIM_CHG10", 0x65, 0x65, [
  .rsv 31 25,
  .fld "CELL" 24 16 .ro 0 .any,
  .fld "A" 15 0 .ro 0 .any]⟩
def F.LIM_CHG10_CELL : Fld := ⟨0x0E, 0x65, 24, 16⟩
def F.LIM_CHG10_A : Fld := ⟨0x0E, 0x65, 15, 0⟩
/-- `LIM_CHG30` (LIM page, 12). -/
def rLIM_CHG30 : RegRow := ⟨"LIM_CHG30", 0x66, 0x66, [
  .rsv 31 25,
  .fld "CELL" 24 16 .ro 0 .any,
  .fld "A" 15 0 .ro 0 .any]⟩
def F.LIM_CHG30_CELL : Fld := ⟨0x0E, 0x66, 24, 16⟩
def F.LIM_CHG30_A : Fld := ⟨0x0E, 0x66, 15, 0⟩
/-- `LIM_VEXT` (LIM page, 12). -/
def rLIM_VEXT : RegRow := ⟨"LIM_VEXT", 0x67, 0x67, [
  .fld "VMAX" 31 16 .ro 0 .any,
  .fld "VMIN" 15 0 .ro 0 .any]⟩
def F.LIM_VEXT_VMAX : Fld := ⟨0x0E, 0x67, 31, 16⟩
def F.LIM_VEXT_VMIN : Fld := ⟨0x0E, 0x67, 15, 0⟩
/-- `LIM_ZSTAT` (LIM page, 12). -/
def rLIM_ZSTAT : RegRow := ⟨"LIM_ZSTAT", 0x68, 0x68, [
  .fld "ACCEPT" 31 16 .ro 0 .any,
  .fld "REJECT" 15 0 .ro 0 .any]⟩
def F.LIM_ZSTAT_ACCEPT : Fld := ⟨0x0E, 0x68, 31, 16⟩
def F.LIM_ZSTAT_REJECT : Fld := ⟨0x0E, 0x68, 15, 0⟩
/-- `LIM_ZSEL` (LIM page, 12). -/
def rLIM_ZSEL : RegRow := ⟨"LIM_ZSEL", 0xE0, 0xE0, [
  .fld "COUNT" 31 28 .ro 0 .any,
  .rsv 27 25,
  .fld "CELL" 24 16 .rw 0 .any,
  .rsv 15 6,
  .fld "TI" 5 3 .rw 0 .any,
  .fld "SI" 2 0 .rw 0 .any]⟩
def F.LIM_ZSEL_COUNT : Fld := ⟨0x0E, 0xE0, 31, 28⟩
def F.LIM_ZSEL_CELL : Fld := ⟨0x0E, 0xE0, 24, 16⟩
def F.LIM_ZSEL_TI : Fld := ⟨0x0E, 0xE0, 5, 3⟩
def F.LIM_ZSEL_SI : Fld := ⟨0x0E, 0xE0, 2, 0⟩
/-- `LIM_ZDATA` (LIM page, 12). -/
def rLIM_ZDATA : RegRow := ⟨"LIM_ZDATA", 0xE1, 0xE1, [
  .fld "ZD" 31 16 .ro 0 .any,
  .fld "ZF" 15 0 .ro 0 .any]⟩
def F.LIM_ZDATA_ZD : Fld := ⟨0x0E, 0xE1, 31, 16⟩
def F.LIM_ZDATA_ZF : Fld := ⟨0x0E, 0xE1, 15, 0⟩
/-- The words of a LIM page. -/
def regsLIM : List RegRow := [
  rLIM_PSTAT, rLIM_IFLAG, rLIM_VLIM, rLIM_IMAX, rLIM_ZWIN, rLIM_RED,
  rLIM_SLEW, rLIM_ZSTEP, rLIM_EOD12, rLIM_EOD3, rLIM_EOC12, rLIM_EOC3,
  rLIM_ZDEF, rLIM_DERATE, rLIM_STAT, rLIM_DIS2, rLIM_DIS10, rLIM_DIS30,
  rLIM_CHG2, rLIM_CHG10, rLIM_CHG30, rLIM_VEXT, rLIM_ZSTAT, rLIM_ZSEL,
  rLIM_ZDATA]

/-! ### AUT -/
/-- `AUT_IFLAG` (AUT page, 14). -/
def rAUT_IFLAG : RegRow := ⟨"AUT_IFLAG", 0x03, 0x03, [
  .rsv 31 4,
  .fld "ANCHOR" 3 3 .w1c 0 .any,
  .fld "UNQ" 2 2 .w1c 0 .any,
  .fld "SWAP" 1 1 .w1c 0 .any,
  .fld "DONE" 0 0 .w1c 0 .any]⟩
def F.AUT_IFLAG_ANCHOR : Fld := ⟨0x0F, 0x03, 3, 3⟩
def F.AUT_IFLAG_UNQ : Fld := ⟨0x0F, 0x03, 2, 2⟩
def F.AUT_IFLAG_SWAP : Fld := ⟨0x0F, 0x03, 1, 1⟩
def F.AUT_IFLAG_DONE : Fld := ⟨0x0F, 0x03, 0, 0⟩
/-- `AUT_CFG` (AUT page, 14). -/
def rAUT_CFG : RegRow := ⟨"AUT_CFG", 0x08, 0x08, [
  .fld "BLOCK" 31 31 .rws 1 .any,
  .rsv 30 24,
  .fld "POLL" 23 16 .rws 10 (.range 1 255 1),
  .fld "VSTEP" 15 0 .rws 100 (.range 10 2000 1)]⟩
def F.AUT_CFG_BLOCK : Fld := ⟨0x0F, 0x08, 31, 31⟩
def F.AUT_CFG_POLL : Fld := ⟨0x0F, 0x08, 23, 16⟩
def F.AUT_CFG_VSTEP : Fld := ⟨0x0F, 0x08, 15, 0⟩
/-- `AUT_MAP` (AUT page, 14). -/
def rAUT_MAP : RegRow := ⟨"AUT_MAP", 0x10, 0x4F, [
  .fld "EN" 31 31 .rws 0 .any,
  .rsv 30 14,
  .fld "LAST" 13 8 .rws 0 .any,
  .rsv 7 6,
  .fld "FIRST" 5 0 .rws 0 .any]⟩
def F.AUT_MAP_EN : Fld := ⟨0x0F, 0x10, 31, 31⟩
def F.AUT_MAP_LAST : Fld := ⟨0x0F, 0x10, 13, 8⟩
def F.AUT_MAP_FIRST : Fld := ⟨0x0F, 0x10, 5, 0⟩
/-- `AUT_STAT` (AUT page, 14). -/
def rAUT_STAT : RegRow := ⟨"AUT_STAT", 0x60, 0x60, [
  .rsv 31 24,
  .fld "PENDING" 23 16 .ro 0 .any,
  .fld "UNQ" 15 8 .ro 0 .any,
  .fld "AUTH" 7 0 .ro 0 .any]⟩
def F.AUT_STAT_PENDING : Fld := ⟨0x0F, 0x60, 23, 16⟩
def F.AUT_STAT_UNQ : Fld := ⟨0x0F, 0x60, 15, 8⟩
def F.AUT_STAT_AUTH : Fld := ⟨0x0F, 0x60, 7, 0⟩
/-- `AUT_ANCHOR` (AUT page, 14). -/
def rAUT_ANCHOR : RegRow := ⟨"AUT_ANCHOR", 0x61, 0x61, [
  .fld "FP" 31 0 .ro 0 .any]⟩
def F.AUT_ANCHOR_FP : Fld := ⟨0x0F, 0x61, 31, 0⟩
/-- `AUT_SLOTST` (AUT page, 14). -/
def rAUT_SLOTST : RegRow := ⟨"AUT_SLOTST", 0x68, 0x6F, [
  .fld "ST" 31 0 .ro 0 .any]⟩
def F.AUT_SLOTST_ST : Fld := ⟨0x0F, 0x68, 31, 0⟩
/-- `AUT_SEL` (AUT page, 14). -/
def rAUT_SEL : RegRow := ⟨"AUT_SEL", 0xE0, 0xE0, [
  .rsv 31 6,
  .fld "SLOT" 5 0 .rw 0 .any]⟩
def F.AUT_SEL_SLOT : Fld := ⟨0x0F, 0xE0, 5, 0⟩
/-- `AUT_TAGLO` (AUT page, 14). -/
def rAUT_TAGLO : RegRow := ⟨"AUT_TAGLO", 0xE1, 0xE1, [
  .fld "ID" 31 0 .ro 0 .any]⟩
def F.AUT_TAGLO_ID : Fld := ⟨0x0F, 0xE1, 31, 0⟩
/-- `AUT_TAGHI` (AUT page, 14). -/
def rAUT_TAGHI : RegRow := ⟨"AUT_TAGHI", 0xE2, 0xE2, [
  .fld "ID" 31 0 .ro 0 .any]⟩
def F.AUT_TAGHI_ID : Fld := ⟨0x0F, 0xE2, 31, 0⟩
/-- `AUT_KEYIDX` (AUT page, 14). -/
def rAUT_KEYIDX : RegRow := ⟨"AUT_KEYIDX", 0xE3, 0xE3, [
  .rsv 31 4,
  .fld "IDX" 3 0 .rw 0 .any]⟩
def F.AUT_KEYIDX_IDX : Fld := ⟨0x0F, 0xE3, 3, 0⟩
/-- `AUT_KEYDATA` (AUT page, 14). -/
def rAUT_KEYDATA : RegRow := ⟨"AUT_KEYDATA", 0xE4, 0xE4, [
  .fld "DATA" 31 0 .rw 0 .any]⟩
def F.AUT_KEYDATA_DATA : Fld := ⟨0x0F, 0xE4, 31, 0⟩
/-- `AUT_CMD` (AUT page, 14). -/
def rAUT_CMD : RegRow := ⟨"AUT_CMD", 0xE5, 0xE5, [
  .fld "CMD" 31 0 .wo 0 .any]⟩
def F.AUT_CMD_CMD : Fld := ⟨0x0F, 0xE5, 31, 0⟩
/-- The words of a AUT page. -/
def regsAUT : List RegRow := [
  rAUT_IFLAG, rAUT_CFG, rAUT_MAP, rAUT_STAT, rAUT_ANCHOR, rAUT_SLOTST,
  rAUT_SEL, rAUT_TAGLO, rAUT_TAGHI, rAUT_KEYIDX, rAUT_KEYDATA, rAUT_CMD]

/-! ### PRT -/
/-- `PRT_PSTAT` (PRT page, 13). -/
def rPRT_PSTAT : RegRow := ⟨"PRT_PSTAT", 0x01, 0x01, [
  .rsv 31 19,
  .fld "CHARGING" 18 18 .ro 0 .any,
  .fld "LOCKOUT" 17 17 .ro 0 .any,
  .fld "CONNECTED" 16 16 .ro 0 .any,
  .rsv 15 0]⟩
def F.PRT_PSTAT_CHARGING : Fld := ⟨0x10, 0x01, 18, 18⟩
def F.PRT_PSTAT_LOCKOUT : Fld := ⟨0x10, 0x01, 17, 17⟩
def F.PRT_PSTAT_CONNECTED : Fld := ⟨0x10, 0x01, 16, 16⟩
/-- `PRT_IFLAG` (PRT page, 13). -/
def rPRT_IFLAG : RegRow := ⟨"PRT_IFLAG", 0x03, 0x03, [
  .rsv 31 8,
  .fld "CHG" 7 7 .w1c 0 .any,
  .fld "CFAULT" 6 6 .w1c 0 .any,
  .fld "WELD" 5 5 .w1c 0 .any,
  .fld "PREFAIL" 4 4 .w1c 0 .any,
  .fld "DEADLINE" 3 3 .w1c 0 .any,
  .fld "PATH" 2 2 .w1c 0 .any,
  .fld "OPENED" 1 1 .w1c 0 .any,
  .fld "CONNECTED" 0 0 .w1c 0 .any]⟩
def F.PRT_IFLAG_CHG : Fld := ⟨0x10, 0x03, 7, 7⟩
def F.PRT_IFLAG_CFAULT : Fld := ⟨0x10, 0x03, 6, 6⟩
def F.PRT_IFLAG_WELD : Fld := ⟨0x10, 0x03, 5, 5⟩
def F.PRT_IFLAG_PREFAIL : Fld := ⟨0x10, 0x03, 4, 4⟩
def F.PRT_IFLAG_DEADLINE : Fld := ⟨0x10, 0x03, 3, 3⟩
def F.PRT_IFLAG_PATH : Fld := ⟨0x10, 0x03, 2, 2⟩
def F.PRT_IFLAG_OPENED : Fld := ⟨0x10, 0x03, 1, 1⟩
def F.PRT_IFLAG_CONNECTED : Fld := ⟨0x10, 0x03, 0, 0⟩
/-- `PRT_DRV` (PRT page, 13). -/
def rPRT_DRV : RegRow := ⟨"PRT_DRV", 0x08, 0x08, [
  .rsv 31 24,
  .fld "AUXMAP" 23 16 .rws 228 .any,
  .rsv 15 12,
  .fld "AUXEN" 11 8 .rws 15 .any,
  .rsv 7 4,
  .fld "EN" 3 0 .rws 15 .any]⟩
def F.PRT_DRV_AUXMAP : Fld := ⟨0x10, 0x08, 23, 16⟩
def F.PRT_DRV_AUXEN : Fld := ⟨0x10, 0x08, 11, 8⟩
def F.PRT_DRV_EN : Fld := ⟨0x10, 0x08, 3, 0⟩
/-- `PRT_ECON` (PRT page, 13). -/
def rPRT_ECON : RegRow := ⟨"PRT_ECON", 0x09, 0x09, [
  .rsv 31 24,
  .fld "HOLD" 23 16 .rws 77 (.range 26 255 1),
  .fld "PULL" 15 0 .rws 100 (.range 10 500 1)]⟩
def F.PRT_ECON_HOLD : Fld := ⟨0x10, 0x09, 23, 16⟩
def F.PRT_ECON_PULL : Fld := ⟨0x10, 0x09, 15, 0⟩
/-- `PRT_COILLIM` (PRT page, 13). -/
def rPRT_COILLIM : RegRow := ⟨"PRT_COILLIM", 0x0A, 0x0A, [
  .fld "IMAX" 31 16 .rws 1500 (.range 100 4000 1),
  .fld "IMIN" 15 0 .rws 100 (.range 10 2000 1)]⟩
def F.PRT_COILLIM_IMAX : Fld := ⟨0x10, 0x0A, 31, 16⟩
def F.PRT_COILLIM_IMIN : Fld := ⟨0x10, 0x0A, 15, 0⟩
/-- `PRT_AUXT` (PRT page, 13). -/
def rPRT_AUXT : RegRow := ⟨"PRT_AUXT", 0x0B, 0x0B, [
  .fld "TOPEN" 31 16 .rws 50 (.range 10 500 1),
  .fld "TCLOSE" 15 0 .rws 50 (.range 10 500 1)]⟩
def F.PRT_AUXT_TOPEN : Fld := ⟨0x10, 0x0B, 31, 16⟩
def F.PRT_AUXT_TCLOSE : Fld := ⟨0x10, 0x0B, 15, 0⟩
/-- `PRT_PRE` (PRT page, 13). -/
def rPRT_PRE : RegRow := ⟨"PRT_PRE", 0x0C, 0x0C, [
  .fld "C" 31 16 .rws 2000 (.range 10 65535 1),
  .fld "R" 15 0 .rws 500 (.range 10 65535 1)]⟩
def F.PRT_PRE_C : Fld := ⟨0x10, 0x0C, 31, 16⟩
def F.PRT_PRE_R : Fld := ⟨0x10, 0x0C, 15, 0⟩
/-- `PRT_PRECHK` (PRT page, 13). -/
def rPRT_PRECHK : RegRow := ⟨"PRT_PRECHK", 0x0D, 0x0D, [
  .fld "TMAX" 31 16 .rws 1000 (.range 50 20000 1),
  .fld "BAND" 15 8 .rws 5 (.range 1 50 1),
  .fld "COOL" 7 0 .rws 60 .any]⟩
def F.PRT_PRECHK_TMAX : Fld := ⟨0x10, 0x0D, 31, 16⟩
def F.PRT_PRECHK_BAND : Fld := ⟨0x10, 0x0D, 15, 8⟩
def F.PRT_PRECHK_COOL : Fld := ⟨0x10, 0x0D, 7, 0⟩
/-- `PRT_BUS` (PRT page, 13). -/
def rPRT_BUS : RegRow := ⟨"PRT_BUS", 0x0E, 0x0E, [
  .fld "TWAIT" 31 24 .rws 30 .any,
  .fld "DV" 23 12 .rws 20 (.range 1 1000 1),
  .fld "LIVE" 11 0 .rws 50 (.range 10 2000 1)]⟩
def F.PRT_BUS_TWAIT : Fld := ⟨0x10, 0x0E, 31, 24⟩
def F.PRT_BUS_DV : Fld := ⟨0x10, 0x0E, 23, 12⟩
def F.PRT_BUS_LIVE : Fld := ⟨0x10, 0x0E, 11, 0⟩
/-- `PRT_WELD` (PRT page, 13). -/
def rPRT_WELD : RegRow := ⟨"PRT_WELD", 0x0F, 0x0F, [
  .fld "DV" 31 20 .rws 50 (.range 1 1000 1),
  .rsv 19 16,
  .fld "I" 15 8 .rws 5 (.range 1 100 1),
  .fld "T" 7 0 .rws 10 (.range 2 100 1)]⟩
def F.PRT_WELD_DV : Fld := ⟨0x10, 0x0F, 31, 20⟩
def F.PRT_WELD_I : Fld := ⟨0x10, 0x0F, 15, 8⟩
def F.PRT_WELD_T : Fld := ⟨0x10, 0x0F, 7, 0⟩
/-- `PRT_DEAD` (PRT page, 13). -/
def rPRT_DEAD : RegRow := ⟨"PRT_DEAD", 0x10, 0x10, [
  .fld "TORD" 31 16 .rws 5000 (.range 200 60000 1),
  .fld "TREQ" 15 0 .rws 2000 (.range 100 30000 1)]⟩
def F.PRT_DEAD_TORD : Fld := ⟨0x10, 0x10, 31, 16⟩
def F.PRT_DEAD_TREQ : Fld := ⟨0x10, 0x10, 15, 0⟩
/-- `PRT_FAST` (PRT page, 13). -/
def rPRT_FAST : RegRow := ⟨"PRT_FAST", 0x11, 0x11, [
  .fld "IZERO" 31 16 .rws 50 (.range 10 1000 1),
  .fld "TFAST" 15 0 .rws 200 (.range 50 2000 1)]⟩
def F.PRT_FAST_IZERO : Fld := ⟨0x10, 0x11, 31, 16⟩
def F.PRT_FAST_TFAST : Fld := ⟨0x10, 0x11, 15, 0⟩
/-- `PRT_VCELL` (PRT page, 13). -/
def rPRT_VCELL : RegRow := ⟨"PRT_VCELL", 0x12, 0x12, [
  .fld "OV" 31 16 .rws 4180 (.range 2500 4800 1),
  .fld "UV" 15 0 .rws 2850 (.range 1000 4000 1)]⟩
def F.PRT_VCELL_OV : Fld := ⟨0x10, 0x12, 31, 16⟩
def F.PRT_VCELL_UV : Fld := ⟨0x10, 0x12, 15, 0⟩
/-- `PRT_TIMES` (PRT page, 13). -/
def rPRT_TIMES : RegRow := ⟨"PRT_TIMES", 0x13, 0x13, [
  .fld "TSUSP" 31 16 .rws 60 (.range 1 3600 1),
  .fld "TD" 15 8 .rws 24 (.range 1 168 1),
  .fld "VCONF" 7 0 .rws 3 (.range 1 100 1)]⟩
def F.PRT_TIMES_TSUSP : Fld := ⟨0x10, 0x13, 31, 16⟩
def F.PRT_TIMES_TD : Fld := ⟨0x10, 0x13, 15, 8⟩
def F.PRT_TIMES_VCONF : Fld := ⟨0x10, 0x13, 7, 0⟩
/-- `PRT_TCELL` (PRT page, 13). -/
def rPRT_TCELL : RegRow := ⟨"PRT_TCELL", 0x14, 0x14, [
  .rsv 31 16,
  .fld "TCONF" 15 8 .rws 10 (.range 1 255 1),
  .fld "TMAX" 7 0 .rws 65 (.range 30 100 1)]⟩
def F.PRT_TCELL_TCONF : Fld := ⟨0x10, 0x14, 15, 8⟩
def F.PRT_TCELL_TMAX : Fld := ⟨0x10, 0x14, 7, 0⟩
/-- `PRT_CAN` (PRT page, 13). -/
def rPRT_CAN : RegRow := ⟨"PRT_CAN", 0x15, 0x15, [
  .fld "EN" 31 31 .rws 0 .any,
  .fld "PORT" 30 30 .rws 0 .any,
  .rsv 29 29,
  .fld "ID" 28 0 .rws 1616 .any]⟩
def F.PRT_CAN_EN : Fld := ⟨0x10, 0x15, 31, 31⟩
def F.PRT_CAN_PORT : Fld := ⟨0x10, 0x15, 30, 30⟩
def F.PRT_CAN_ID : Fld := ⟨0x10, 0x15, 28, 0⟩
/-- `PRT_CANPER` (PRT page, 13). -/
def rPRT_CANPER : RegRow := ⟨"PRT_CANPER", 0x16, 0x16, [
  .rsv 31 16,
  .fld "PERIOD" 15 0 .rws 100 (.range 10 1000 1)]⟩
def F.PRT_CANPER_PERIOD : Fld := ⟨0x10, 0x16, 15, 0⟩
/-- `PRT_STAT` (PRT page, 13). -/
def rPRT_STAT : RegRow := ⟨"PRT_STAT", 0x60, 0x60, [
  .rsv 31 27,
  .fld "CHGOK" 26 26 .ro 0 .any,
  .fld "COOL" 25 25 .ro 0 .any,
  .fld "LOCKOUT" 24 24 .ro 0 .any,
  .fld "FAULT" 23 20 .ro 0 .any,
  .fld "WELD" 19 16 .ro 0 .any,
  .fld "AUX" 15 12 .ro 0 .any,
  .fld "COIL" 11 8 .ro 0 .any,
  .fld "PATH" 7 6 .ro 0 .any,
  .rsv 5 4,
  .fld "STATE" 3 0 .ro 7 .any]⟩
def F.PRT_STAT_CHGOK : Fld := ⟨0x10, 0x60, 26, 26⟩
def F.PRT_STAT_COOL : Fld := ⟨0x10, 0x60, 25, 25⟩
def F.PRT_STAT_LOCKOUT : Fld := ⟨0x10, 0x60, 24, 24⟩
def F.PRT_STAT_FAULT : Fld := ⟨0x10, 0x60, 23, 20⟩
def F.PRT_STAT_WELD : Fld := ⟨0x10, 0x60, 19, 16⟩
def F.PRT_STAT_AUX : Fld := ⟨0x10, 0x60, 15, 12⟩
def F.PRT_STAT_COIL : Fld := ⟨0x10, 0x60, 11, 8⟩
def F.PRT_STAT_PATH : Fld := ⟨0x10, 0x60, 7, 6⟩
def F.PRT_STAT_STATE : Fld := ⟨0x10, 0x60, 3, 0⟩
/-- `PRT_COND` (PRT page, 13). -/
def rPRT_COND : RegRow := ⟨"PRT_COND", 0x61, 0x61, [
  .rsv 31 13,
  .fld "COND" 12 0 .ro 1 .any]⟩
def F.PRT_COND_COND : Fld := ⟨0x10, 0x61, 12, 0⟩
/-- `PRT_PATH` (PRT page, 13). -/
def rPRT_PATH : RegRow := ⟨"PRT_PATH", 0x62, 0x62, [
  .fld "LEFT" 31 16 .ro 65535 .any,
  .rsv 15 8,
  .fld "COND" 7 0 .ro 0 .any]⟩
def F.PRT_PATH_LEFT : Fld := ⟨0x10, 0x62, 31, 16⟩
def F.PRT_PATH_COND : Fld := ⟨0x10, 0x62, 7, 0⟩
/-- `PRT_TARGET` (PRT page, 13). -/
def rPRT_TARGET : RegRow := ⟨"PRT_TARGET", 0x63, 0x63, [
  .fld "CHG" 31 16 .ro 0 .any,
  .fld "DIS" 15 0 .ro 0 .any]⟩
def F.PRT_TARGET_CHG : Fld := ⟨0x10, 0x63, 31, 16⟩
def F.PRT_TARGET_DIS : Fld := ⟨0x10, 0x63, 15, 0⟩
/-- `PRT_LAST` (PRT page, 13). -/
def rPRT_LAST : RegRow := ⟨"PRT_LAST", 0x64, 0x64, [
  .fld "COND" 31 24 .ro 0 .any,
  .fld "PATH" 23 22 .ro 0 .any,
  .fld "UNDERLOAD" 21 21 .ro 0 .any,
  .fld "UNPROVEN" 20 20 .ro 0 .any,
  .rsv 19 16,
  .fld "FRAME" 15 0 .ro 0 .any]⟩
def F.PRT_LAST_COND : Fld := ⟨0x10, 0x64, 31, 24⟩
def F.PRT_LAST_PATH : Fld := ⟨0x10, 0x64, 23, 22⟩
def F.PRT_LAST_UNDERLOAD : Fld := ⟨0x10, 0x64, 21, 21⟩
def F.PRT_LAST_UNPROVEN : Fld := ⟨0x10, 0x64, 20, 20⟩
def F.PRT_LAST_FRAME : Fld := ⟨0x10, 0x64, 15, 0⟩
/-- `PRT_PRESTAT` (PRT page, 13). -/
def rPRT_PRESTAT : RegRow := ⟨"PRT_PRESTAT", 0x65, 0x65, [
  .fld "T95" 31 16 .ro 0 .any,
  .fld "DEV" 15 8 .ro 0 .any,
  .fld "OUT" 7 0 .ro 0 .any]⟩
def F.PRT_PRESTAT_T95 : Fld := ⟨0x10, 0x65, 31, 16⟩
def F.PRT_PRESTAT_DEV : Fld := ⟨0x10, 0x65, 15, 8⟩
def F.PRT_PRESTAT_OUT : Fld := ⟨0x10, 0x65, 7, 0⟩
/-- `PRT_COIL` (PRT page, 13). -/
def rPRT_COIL : RegRow := ⟨"PRT_COIL", 0x66, 0x69, [
  .rsv 31 19,
  .fld "LS" 18 18 .ro 0 .any,
  .fld "HS" 17 17 .ro 0 .any,
  .fld "AUX" 16 16 .ro 0 .any,
  .fld "MA" 15 0 .ro 0 .any]⟩
def F.PRT_COIL_LS : Fld := ⟨0x10, 0x66, 18, 18⟩
def F.PRT_COIL_HS : Fld := ⟨0x10, 0x66, 17, 17⟩
def F.PRT_COIL_AUX : Fld := ⟨0x10, 0x66, 16, 16⟩
def F.PRT_COIL_MA : Fld := ⟨0x10, 0x66, 15, 0⟩
/-- `PRT_COUNT` (PRT page, 13). -/
def rPRT_COUNT : RegRow := ⟨"PRT_COUNT", 0x6A, 0x6A, [
  .fld "UNDERLOAD" 31 16 .ro 0 .any,
  .fld "CONNECTS" 15 0 .ro 0 .any]⟩
def F.PRT_COUNT_UNDERLOAD : Fld := ⟨0x10, 0x6A, 31, 16⟩
def F.PRT_COUNT_CONNECTS : Fld := ⟨0x10, 0x6A, 15, 0⟩
/-- `PRT_CMD` (PRT page, 13). -/
def rPRT_CMD : RegRow := ⟨"PRT_CMD", 0xE0, 0xE0, [
  .fld "CMD" 31 0 .wo 0 .any]⟩
def F.PRT_CMD_CMD : Fld := ⟨0x10, 0xE0, 31, 0⟩
/-- `PRT_WELDCLR` (PRT page, 13). -/
def rPRT_WELDCLR : RegRow := ⟨"PRT_WELDCLR", 0xE1, 0xE1, [
  .fld "KEY" 31 0 .wo 0 .any]⟩
def F.PRT_WELDCLR_KEY : Fld := ⟨0x10, 0xE1, 31, 0⟩
/-- The words of a PRT page. -/
def regsPRT : List RegRow := [
  rPRT_PSTAT, rPRT_IFLAG, rPRT_DRV, rPRT_ECON, rPRT_COILLIM, rPRT_AUXT,
  rPRT_PRE, rPRT_PRECHK, rPRT_BUS, rPRT_WELD, rPRT_DEAD, rPRT_FAST,
  rPRT_VCELL, rPRT_TIMES, rPRT_TCELL, rPRT_CAN, rPRT_CANPER, rPRT_STAT,
  rPRT_COND, rPRT_PATH, rPRT_TARGET, rPRT_LAST, rPRT_PRESTAT, rPRT_COIL,
  rPRT_COUNT, rPRT_CMD, rPRT_WELDCLR]

/-! ### CMP -/
/-- `CMP_PSTAT` (CMP page, 08). -/
def rCMP_PSTAT : RegRow := ⟨"CMP_PSTAT", 0x01, 0x01, [
  .rsv 31 21,
  .fld "TAPFAULT" 20 20 .ro 0 .any,
  .fld "HARNESS" 19 19 .ro 0 .any,
  .fld "TESTING" 18 18 .ro 0 .any,
  .fld "SWEPT" 17 17 .ro 0 .any,
  .fld "FL" 16 16 .ro 1 .any,
  .rsv 15 0]⟩
def F.CMP_PSTAT_TAPFAULT : Fld := ⟨0x11, 0x01, 20, 20⟩
def F.CMP_PSTAT_HARNESS : Fld := ⟨0x11, 0x01, 19, 19⟩
def F.CMP_PSTAT_TESTING : Fld := ⟨0x11, 0x01, 18, 18⟩
def F.CMP_PSTAT_SWEPT : Fld := ⟨0x11, 0x01, 17, 17⟩
def F.CMP_PSTAT_FL : Fld := ⟨0x11, 0x01, 16, 16⟩
/-- `CMP_IFLAG` (CMP page, 08). -/
def rCMP_IFLAG : RegRow := ⟨"CMP_IFLAG", 0x03, 0x03, [
  .rsv 31 10,
  .fld "INPUT" 9 9 .w1c 0 .any,
  .fld "SPAN" 8 8 .w1c 0 .any,
  .fld "SWEEP" 7 7 .w1c 0 .any,
  .fld "CTEST" 6 6 .w1c 0 .any,
  .fld "HARNESS" 5 5 .w1c 0 .any,
  .fld "CLEARED" 4 4 .w1c 0 .any,
  .fld "BROKEN" 3 3 .w1c 0 .any,
  .fld "SUSPECT" 2 2 .w1c 0 .any,
  .fld "FL_REL" 1 1 .w1c 0 .any,
  .fld "FL_SET" 0 0 .w1c 0 .any]⟩
def F.CMP_IFLAG_INPUT : Fld := ⟨0x11, 0x03, 9, 9⟩
def F.CMP_IFLAG_SPAN : Fld := ⟨0x11, 0x03, 8, 8⟩
def F.CMP_IFLAG_SWEEP : Fld := ⟨0x11, 0x03, 7, 7⟩
def F.CMP_IFLAG_CTEST : Fld := ⟨0x11, 0x03, 6, 6⟩
def F.CMP_IFLAG_HARNESS : Fld := ⟨0x11, 0x03, 5, 5⟩
def F.CMP_IFLAG_CLEARED : Fld := ⟨0x11, 0x03, 4, 4⟩
def F.CMP_IFLAG_BROKEN : Fld := ⟨0x11, 0x03, 3, 3⟩
def F.CMP_IFLAG_SUSPECT : Fld := ⟨0x11, 0x03, 2, 2⟩
def F.CMP_IFLAG_FL_REL : Fld := ⟨0x11, 0x03, 1, 1⟩
def F.CMP_IFLAG_FL_SET : Fld := ⟨0x11, 0x03, 0, 0⟩
/-- `CMP_GOV` (CMP page, 08). -/
def rCMP_GOV : RegRow := ⟨"CMP_GOV", 0x08, 0x08, [
  .rsv 31 16,
  .fld "MV" 15 0 .rws 4200 (.range 2500 4800 1)]⟩
def F.CMP_GOV_MV : Fld := ⟨0x11, 0x08, 15, 0⟩
/-- `CMP_GUV` (CMP page, 08). -/
def rCMP_GUV : RegRow := ⟨"CMP_GUV", 0x09, 0x09, [
  .rsv 31 16,
  .fld "MV" 15 0 .rws 2800 (.range 1000 3800 1)]⟩
def F.CMP_GUV_MV : Fld := ⟨0x11, 0x09, 15, 0⟩
/-- `CMP_AOV` (CMP page, 08). -/
def rCMP_AOV : RegRow := ⟨"CMP_AOV", 0x0A, 0x0A, [
  .rsv 31 16,
  .fld "MV" 15 0 .rws 4400 (.range 2650 5400 1)]⟩
def F.CMP_AOV_MV : Fld := ⟨0x11, 0x0A, 15, 0⟩
/-- `CMP_AUV` (CMP page, 08). -/
def rCMP_AUV : RegRow := ⟨"CMP_AUV", 0x0B, 0x0B, [
  .rsv 31 16,
  .fld "MV" 15 0 .rws 2500 (.range 500 3650 1)]⟩
def F.CMP_AUV_MV : Fld := ⟨0x11, 0x0B, 15, 0⟩
/-- `CMP_GCONF` (CMP page, 08). -/
def rCMP_GCONF : RegRow := ⟨"CMP_GCONF", 0x0C, 0x0C, [
  .rsv 31 3,
  .fld "CONF" 2 0 .rws 2 (.range 1 4 1)]⟩
def F.CMP_GCONF_CONF : Fld := ⟨0x11, 0x0C, 2, 0⟩
/-- `CMP_OWCFG` (CMP page, 08). -/
def rCMP_OWCFG : RegRow := ⟨"CMP_OWCFG", 0x0D, 0x0D, [
  .fld "SWEEP" 31 16 .rws 60 (.range 10 3600 1),
  .fld "PULL" 15 0 .rws 2000 (.range 2000 8000 500)]⟩
def F.CMP_OWCFG_SWEEP : Fld := ⟨0x11, 0x0D, 31, 16⟩
def F.CMP_OWCFG_PULL : Fld := ⟨0x11, 0x0D, 15, 0⟩
/-- `CMP_OWSUSP` (CMP page, 08). -/
def rCMP_OWSUSP : RegRow := ⟨"CMP_OWSUSP", 0x0E, 0x0E, [
  .rsv 31 16,
  .fld "SUSP" 15 0 .rws 50 (.range 10 500 1)]⟩
def F.CMP_OWSUSP_SUSP : Fld := ⟨0x11, 0x0E, 15, 0⟩
/-- `CMP_BGUARD` (CMP page, 08). -/
def rCMP_BGUARD : RegRow := ⟨"CMP_BGUARD", 0x0F, 0x0F, [
  .rsv 31 16,
  .fld "MV" 15 0 .rws 50 (.range 0 500 1)]⟩
def F.CMP_BGUARD_MV : Fld := ⟨0x11, 0x0F, 15, 0⟩
/-- `CMP_GOVT` (CMP page, 08). -/
def rCMP_GOVT : RegRow := ⟨"CMP_GOVT", 0x60, 0x6F, [
  .fld "TRIP" 31 0 .ro 0 .any]⟩
def F.CMP_GOVT_TRIP : Fld := ⟨0x11, 0x60, 31, 0⟩
/-- `CMP_GUVT` (CMP page, 08). -/
def rCMP_GUVT : RegRow := ⟨"CMP_GUVT", 0x70, 0x7F, [
  .fld "TRIP" 31 0 .ro 0 .any]⟩
def F.CMP_GUVT_TRIP : Fld := ⟨0x11, 0x70, 31, 0⟩
/-- `CMP_AOVT` (CMP page, 08). -/
def rCMP_AOVT : RegRow := ⟨"CMP_AOVT", 0x80, 0x8F, [
  .fld "TRIP" 31 0 .ro 0 .any]⟩
def F.CMP_AOVT_TRIP : Fld := ⟨0x11, 0x80, 31, 0⟩
/-- `CMP_AUVT` (CMP page, 08). -/
def rCMP_AUVT : RegRow := ⟨"CMP_AUVT", 0x90, 0x9F, [
  .fld "TRIP" 31 0 .ro 0 .any]⟩
def F.CMP_AUVT_TRIP : Fld := ⟨0x11, 0x90, 31, 0⟩
/-- `CMP_FLSTAT` (CMP page, 08). -/
def rCMP_FLSTAT : RegRow := ⟨"CMP_FLSTAT", 0xA0, 0xA0, [
  .rsv 31 25,
  .fld "ASSERTED" 24 24 .ro 1 .any,
  .fld "CHAN" 23 16 .ro 0 .any,
  .rsv 15 10,
  .fld "ACTIVE" 9 0 .ro 0 .any]⟩
def F.CMP_FLSTAT_ASSERTED : Fld := ⟨0x11, 0xA0, 24, 24⟩
def F.CMP_FLSTAT_CHAN : Fld := ⟨0x11, 0xA0, 23, 16⟩
def F.CMP_FLSTAT_ACTIVE : Fld := ⟨0x11, 0xA0, 9, 0⟩
/-- `CMP_FLSRC` (CMP page, 08). -/
def rCMP_FLSRC : RegRow := ⟨"CMP_FLSRC", 0xA1, 0xA1, [
  .fld "FRAME" 31 16 .ro 0 .any,
  .rsv 15 10,
  .fld "CAUSE" 9 0 .ro 64 .any]⟩
def F.CMP_FLSRC_FRAME : Fld := ⟨0x11, 0xA1, 31, 16⟩
def F.CMP_FLSRC_CAUSE : Fld := ⟨0x11, 0xA1, 9, 0⟩
/-- `CMP_OWST` (CMP page, 08). -/
def rCMP_OWST : RegRow := ⟨"CMP_OWST", 0xA2, 0xA2, [
  .fld "SWEPT" 31 24 .ro 0 .any,
  .fld "HARNESS" 23 16 .ro 0 .any,
  .fld "TESTING" 15 8 .ro 0 .any,
  .fld "QUEUED" 7 0 .ro 0 .any]⟩
def F.CMP_OWST_SWEPT : Fld := ⟨0x11, 0xA2, 31, 24⟩
def F.CMP_OWST_HARNESS : Fld := ⟨0x11, 0xA2, 23, 16⟩
def F.CMP_OWST_TESTING : Fld := ⟨0x11, 0xA2, 15, 8⟩
def F.CMP_OWST_QUEUED : Fld := ⟨0x11, 0xA2, 7, 0⟩
/-- `CMP_CTEST` (CMP page, 08). -/
def rCMP_CTEST : RegRow := ⟨"CMP_CTEST", 0xA3, 0xA3, [
  .fld "FAILS" 31 16 .ro 0 .any,
  .rsv 15 8,
  .fld "DIES" 7 0 .ro 0 .any]⟩
def F.CMP_CTEST_FAILS : Fld := ⟨0x11, 0xA3, 31, 16⟩
def F.CMP_CTEST_DIES : Fld := ⟨0x11, 0xA3, 7, 0⟩
/-- `CMP_TAP` (CMP page, 08). -/
def rCMP_TAP : RegRow := ⟨"CMP_TAP", 0xA8, 0xB7, [
  .fld "STATE" 31 29 .ro 0 .any,
  .fld "DIE" 28 26 .ro 0 .any,
  .fld "TAP" 25 19 .ro 0 .any,
  .rsv 18 17,
  .fld "SPANERR" 16 16 .ro 0 .any,
  .fld "SPAN" 15 0 .ro 0 .any]⟩
def F.CMP_TAP_STATE : Fld := ⟨0x11, 0xA8, 31, 29⟩
def F.CMP_TAP_DIE : Fld := ⟨0x11, 0xA8, 28, 26⟩
def F.CMP_TAP_TAP : Fld := ⟨0x11, 0xA8, 25, 19⟩
def F.CMP_TAP_SPANERR : Fld := ⟨0x11, 0xA8, 16, 16⟩
def F.CMP_TAP_SPAN : Fld := ⟨0x11, 0xA8, 15, 0⟩
/-- `CMP_OWLAST` (CMP page, 08). -/
def rCMP_OWLAST : RegRow := ⟨"CMP_OWLAST", 0xB8, 0xB8, [
  .fld "OUT" 31 30 .ro 0 .any,
  .fld "DIE" 29 27 .ro 0 .any,
  .fld "TAP" 26 20 .ro 0 .any,
  .fld "UP" 19 10 .ro 0 .any,
  .fld "DOWN" 9 0 .ro 0 .any]⟩
def F.CMP_OWLAST_OUT : Fld := ⟨0x11, 0xB8, 31, 30⟩
def F.CMP_OWLAST_DIE : Fld := ⟨0x11, 0xB8, 29, 27⟩
def F.CMP_OWLAST_TAP : Fld := ⟨0x11, 0xB8, 26, 20⟩
def F.CMP_OWLAST_UP : Fld := ⟨0x11, 0xB8, 19, 10⟩
def F.CMP_OWLAST_DOWN : Fld := ⟨0x11, 0xB8, 9, 0⟩
/-- `CMP_FLCLR` (CMP page, 08). -/
def rCMP_FLCLR : RegRow := ⟨"CMP_FLCLR", 0xE0, 0xE0, [
  .fld "KEY" 31 0 .wo 0 .any]⟩
def F.CMP_FLCLR_KEY : Fld := ⟨0x11, 0xE0, 31, 0⟩
/-- `CMP_OWREQ` (CMP page, 08). -/
def rCMP_OWREQ : RegRow := ⟨"CMP_OWREQ", 0xE1, 0xE1, [
  .rsv 31 11,
  .fld "DIE" 10 8 .wo 0 .any,
  .rsv 7 7,
  .fld "TAP" 6 0 .wo 0 .any]⟩
def F.CMP_OWREQ_DIE : Fld := ⟨0x11, 0xE1, 10, 8⟩
def F.CMP_OWREQ_TAP : Fld := ⟨0x11, 0xE1, 6, 0⟩
/-- The words of a CMP page. -/
def regsCMP : List RegRow := [
  rCMP_PSTAT, rCMP_IFLAG, rCMP_GOV, rCMP_GUV, rCMP_AOV, rCMP_AUV,
  rCMP_GCONF, rCMP_OWCFG, rCMP_OWSUSP, rCMP_BGUARD, rCMP_GOVT, rCMP_GUVT,
  rCMP_AOVT, rCMP_AUVT, rCMP_FLSTAT, rCMP_FLSRC, rCMP_OWST, rCMP_CTEST,
  rCMP_TAP, rCMP_OWLAST, rCMP_FLCLR, rCMP_OWREQ]

/-! ### KRG -/
/-- `KRG_IFLAG` (KRG page, 14). -/
def rKRG_IFLAG : RegRow := ⟨"KRG_IFLAG", 0x03, 0x03, [
  .rsv 31 8,
  .fld "ADOPTED" 7 7 .w1c 0 .any,
  .fld "MIRFAIL" 6 6 .w1c 0 .any,
  .fld "NOGRANT" 5 5 .w1c 0 .any,
  .fld "REPL" 4 4 .w1c 0 .any,
  .fld "SPLIT" 3 3 .w1c 0 .any,
  .fld "DUPADDR" 2 2 .w1c 0 .any,
  .fld "MEMBER" 1 1 .w1c 0 .any,
  .fld "HEAD" 0 0 .w1c 0 .any]⟩
def F.KRG_IFLAG_ADOPTED : Fld := ⟨0x12, 0x03, 7, 7⟩
def F.KRG_IFLAG_MIRFAIL : Fld := ⟨0x12, 0x03, 6, 6⟩
def F.KRG_IFLAG_NOGRANT : Fld := ⟨0x12, 0x03, 5, 5⟩
def F.KRG_IFLAG_REPL : Fld := ⟨0x12, 0x03, 4, 4⟩
def F.KRG_IFLAG_SPLIT : Fld := ⟨0x12, 0x03, 3, 3⟩
def F.KRG_IFLAG_DUPADDR : Fld := ⟨0x12, 0x03, 2, 2⟩
def F.KRG_IFLAG_MEMBER : Fld := ⟨0x12, 0x03, 1, 1⟩
def F.KRG_IFLAG_HEAD : Fld := ⟨0x12, 0x03, 0, 0⟩
/-- `KRG_CFG` (KRG page, 14). -/
def rKRG_CFG : RegRow := ⟨"KRG_CFG", 0x08, 0x08, [
  .rsv 31 21,
  .fld "COUNT" 20 16 .rws 1 (.range 1 16 1),
  .fld "TGRANT" 15 8 .rws 60 (.range 1 255 1),
  .rsv 7 6,
  .fld "ORDER" 5 4 .rws 0 (.enum [0, 1, 2]),
  .rsv 3 1,
  .fld "COORD" 0 0 .rws 1 .any]⟩
def F.KRG_CFG_COUNT : Fld := ⟨0x12, 0x08, 20, 16⟩
def F.KRG_CFG_TGRANT : Fld := ⟨0x12, 0x08, 15, 8⟩
def F.KRG_CFG_ORDER : Fld := ⟨0x12, 0x08, 5, 4⟩
def F.KRG_CFG_COORD : Fld := ⟨0x12, 0x08, 0, 0⟩
/-- `KRG_AGG` (KRG page, 14). -/
def rKRG_AGG : RegRow := ⟨"KRG_AGG", 0x09, 0x09, [
  .rsv 31 16,
  .fld "IMIN" 15 0 .rws 20 (.range 1 1000 1)]⟩
def F.KRG_AGG_IMIN : Fld := ⟨0x12, 0x09, 15, 0⟩
/-- `KRG_CAN` (KRG page, 14). -/
def rKRG_CAN : RegRow := ⟨"KRG_CAN", 0x0A, 0x0A, [
  .fld "EN" 31 31 .rws 0 .any,
  .fld "PORT" 30 30 .rws 0 .any,
  .rsv 29 29,
  .fld "ID" 28 0 .rws 1632 .any]⟩
def F.KRG_CAN_EN : Fld := ⟨0x12, 0x0A, 31, 31⟩
def F.KRG_CAN_PORT : Fld := ⟨0x12, 0x0A, 30, 30⟩
def F.KRG_CAN_ID : Fld := ⟨0x12, 0x0A, 28, 0⟩
/-- `KRG_CANPER` (KRG page, 14). -/
def rKRG_CANPER : RegRow := ⟨"KRG_CANPER", 0x0B, 0x0B, [
  .rsv 31 16,
  .fld "PERIOD" 15 0 .rws 100 (.range 10 1000 1)]⟩
def F.KRG_CANPER_PERIOD : Fld := ⟨0x12, 0x0B, 15, 0⟩
/-- `KRG_STAT` (KRG page, 14). -/
def rKRG_STAT : RegRow := ⟨"KRG_STAT", 0x60, 0x60, [
  .fld "ADDR" 31 28 .ro 0 .any,
  .fld "HEAD" 27 24 .ro 0 .any,
  .fld "ISHEAD" 23 23 .ro 0 .any,
  .fld "DUPADDR" 22 22 .ro 0 .any,
  .fld "QUORUM" 21 21 .ro 0 .any,
  .fld "REPL" 20 20 .ro 0 .any,
  .fld "RESTORE" 19 19 .ro 0 .any,
  .fld "WAIT" 18 18 .ro 0 .any,
  .fld "GRANTED" 17 17 .ro 0 .any,
  .fld "MIRROK" 16 16 .ro 0 .any,
  .rsv 15 2,
  .fld "PORTB" 1 1 .ro 0 .any,
  .fld "PORTA" 0 0 .ro 0 .any]⟩
def F.KRG_STAT_ADDR : Fld := ⟨0x12, 0x60, 31, 28⟩
def F.KRG_STAT_HEAD : Fld := ⟨0x12, 0x60, 27, 24⟩
def F.KRG_STAT_ISHEAD : Fld := ⟨0x12, 0x60, 23, 23⟩
def F.KRG_STAT_DUPADDR : Fld := ⟨0x12, 0x60, 22, 22⟩
def F.KRG_STAT_QUORUM : Fld := ⟨0x12, 0x60, 21, 21⟩
def F.KRG_STAT_REPL : Fld := ⟨0x12, 0x60, 20, 20⟩
def F.KRG_STAT_RESTORE : Fld := ⟨0x12, 0x60, 19, 19⟩
def F.KRG_STAT_WAIT : Fld := ⟨0x12, 0x60, 18, 18⟩
def F.KRG_STAT_GRANTED : Fld := ⟨0x12, 0x60, 17, 17⟩
def F.KRG_STAT_MIRROK : Fld := ⟨0x12, 0x60, 16, 16⟩
def F.KRG_STAT_PORTB : Fld := ⟨0x12, 0x60, 1, 1⟩
def F.KRG_STAT_PORTA : Fld := ⟨0x12, 0x60, 0, 0⟩
/-- `KRG_MEMBERS` (KRG page, 14). -/
def rKRG_MEMBERS : RegRow := ⟨"KRG_MEMBERS", 0x61, 0x61, [
  .fld "HEALTHY" 31 16 .ro 0 .any,
  .fld "HEARD" 15 0 .ro 0 .any]⟩
def F.KRG_MEMBERS_HEALTHY : Fld := ⟨0x12, 0x61, 31, 16⟩
def F.KRG_MEMBERS_HEARD : Fld := ⟨0x12, 0x61, 15, 0⟩
/-- `KRG_CONN` (KRG page, 14). -/
def rKRG_CONN : RegRow := ⟨"KRG_CONN", 0x62, 0x62, [
  .fld "WAITING" 31 16 .ro 0 .any,
  .fld "CONN" 15 0 .ro 0 .any]⟩
def F.KRG_CONN_WAITING : Fld := ⟨0x12, 0x62, 31, 16⟩
def F.KRG_CONN_CONN : Fld := ⟨0x12, 0x62, 15, 0⟩
/-- `KRG_SYSSOC` (KRG page, 14). -/
def rKRG_SYSSOC : RegRow := ⟨"KRG_SYSSOC", 0x63, 0x63, [
  .rsv 31 21,
  .fld "NCONN" 20 16 .ro 0 .any,
  .fld "SOC" 15 0 .ro 0 .any]⟩
def F.KRG_SYSSOC_NCONN : Fld := ⟨0x12, 0x63, 20, 16⟩
def F.KRG_SYSSOC_SOC : Fld := ⟨0x12, 0x63, 15, 0⟩
/-- `KRG_SYSDIS` (KRG page, 14). -/
def rKRG_SYSDIS : RegRow := ⟨"KRG_SYSDIS", 0x64, 0x64, [
  .rsv 31 20,
  .fld "MEMBER" 19 16 .ro 0 .any,
  .fld "A" 15 0 .ro 0 .any]⟩
def F.KRG_SYSDIS_MEMBER : Fld := ⟨0x12, 0x64, 19, 16⟩
def F.KRG_SYSDIS_A : Fld := ⟨0x12, 0x64, 15, 0⟩
/-- `KRG_SYSCHG` (KRG page, 14). -/
def rKRG_SYSCHG : RegRow := ⟨"KRG_SYSCHG", 0x65, 0x65, [
  .rsv 31 20,
  .fld "MEMBER" 19 16 .ro 0 .any,
  .fld "A" 15 0 .ro 0 .any]⟩
def F.KRG_SYSCHG_MEMBER : Fld := ⟨0x12, 0x65, 19, 16⟩
def F.KRG_SYSCHG_A : Fld := ⟨0x12, 0x65, 15, 0⟩
/-- `KRG_MIRSTAT` (KRG page, 14). -/
def rKRG_MIRSTAT : RegRow := ⟨"KRG_MIRSTAT", 0x66, 0x66, [
  .fld "SEQ" 31 16 .ro 0 .any,
  .fld "HELD" 15 12 .ro 0 .any,
  .fld "HVALID" 11 11 .ro 0 .any,
  .rsv 10 2,
  .fld "FETCH" 1 0 .ro 0 .any]⟩
def F.KRG_MIRSTAT_SEQ : Fld := ⟨0x12, 0x66, 31, 16⟩
def F.KRG_MIRSTAT_HELD : Fld := ⟨0x12, 0x66, 15, 12⟩
def F.KRG_MIRSTAT_HVALID : Fld := ⟨0x12, 0x66, 11, 11⟩
def F.KRG_MIRSTAT_FETCH : Fld := ⟨0x12, 0x66, 1, 0⟩
/-- `KRG_CMD` (KRG page, 14). -/
def rKRG_CMD : RegRow := ⟨"KRG_CMD", 0xE0, 0xE0, [
  .fld "CMD" 31 0 .wo 0 .any]⟩
def F.KRG_CMD_CMD : Fld := ⟨0x12, 0xE0, 31, 0⟩
/-- The words of a KRG page. -/
def regsKRG : List RegRow := [
  rKRG_IFLAG, rKRG_CFG, rKRG_AGG, rKRG_CAN, rKRG_CANPER, rKRG_STAT,
  rKRG_MEMBERS, rKRG_CONN, rKRG_SYSSOC, rKRG_SYSDIS, rKRG_SYSCHG, rKRG_MIRSTAT,
  rKRG_CMD]

/-! ### RSM -/
/-- `RSM_PSTAT` (RSM page, 16). -/
def rRSM_PSTAT : RegRow := ⟨"RSM_PSTAT", 0x01, 0x01, [
  .rsv 31 19,
  .fld "FLUSHING" 18 18 .ro 0 .any,
  .fld "NEARFULL" 17 17 .ro 0 .any,
  .fld "FULL" 16 16 .ro 0 .any,
  .rsv 15 0]⟩
def F.RSM_PSTAT_FLUSHING : Fld := ⟨0x14, 0x01, 18, 18⟩
def F.RSM_PSTAT_NEARFULL : Fld := ⟨0x14, 0x01, 17, 17⟩
def F.RSM_PSTAT_FULL : Fld := ⟨0x14, 0x01, 16, 16⟩
/-- `RSM_IFLAG` (RSM page, 16). -/
def rRSM_IFLAG : RegRow := ⟨"RSM_IFLAG", 0x03, 0x03, [
  .rsv 31 6,
  .fld "CLEARED" 5 5 .w1c 0 .any,
  .fld "SUPPRESS" 4 4 .w1c 0 .any,
  .fld "DROP" 3 3 .w1c 0 .any,
  .fld "FULL" 2 2 .w1c 0 .any,
  .fld "NEARFULL" 1 1 .w1c 0 .any,
  .fld "CLASS23" 0 0 .w1c 0 .any]⟩
def F.RSM_IFLAG_CLEARED : Fld := ⟨0x14, 0x03, 5, 5⟩
def F.RSM_IFLAG_SUPPRESS : Fld := ⟨0x14, 0x03, 4, 4⟩
def F.RSM_IFLAG_DROP : Fld := ⟨0x14, 0x03, 3, 3⟩
def F.RSM_IFLAG_FULL : Fld := ⟨0x14, 0x03, 2, 2⟩
def F.RSM_IFLAG_NEARFULL : Fld := ⟨0x14, 0x03, 1, 1⟩
def F.RSM_IFLAG_CLASS23 : Fld := ⟨0x14, 0x03, 0, 0⟩
/-- `RSM_RATE` (RSM page, 16). -/
def rRSM_RATE : RegRow := ⟨"RSM_RATE", 0x08, 0x08, [
  .rsv 31 16,
  .fld "N" 15 8 .rws 10 (.range 1 255 1),
  .fld "W" 7 0 .rws 60 (.range 1 255 1)]⟩
def F.RSM_RATE_N : Fld := ⟨0x14, 0x08, 15, 8⟩
def F.RSM_RATE_W : Fld := ⟨0x14, 0x08, 7, 0⟩
/-- `RSM_RLIM` (RSM page, 16). -/
def rRSM_RLIM : RegRow := ⟨"RSM_RLIM", 0x10, 0x1F, [
  .fld "CODE" 31 16 .rws 0 .any,
  .fld "N" 15 8 .rws 10 .any,
  .fld "W" 7 0 .rws 60 (.range 1 255 1)]⟩
def F.RSM_RLIM_CODE : Fld := ⟨0x14, 0x10, 31, 16⟩
def F.RSM_RLIM_N : Fld := ⟨0x14, 0x10, 15, 8⟩
def F.RSM_RLIM_W : Fld := ⟨0x14, 0x10, 7, 0⟩
/-- `RSM_HEAD` (RSM page, 16). -/
def rRSM_HEAD : RegRow := ⟨"RSM_HEAD", 0x60, 0x60, [
  .fld "SEQ" 31 0 .ro 0 .any]⟩
def F.RSM_HEAD_SEQ : Fld := ⟨0x14, 0x60, 31, 0⟩
/-- `RSM_FLUSHED` (RSM page, 16). -/
def rRSM_FLUSHED : RegRow := ⟨"RSM_FLUSHED", 0x61, 0x61, [
  .fld "SEQ" 31 0 .ro 0 .any]⟩
def F.RSM_FLUSHED_SEQ : Fld := ⟨0x14, 0x61, 31, 0⟩
/-- `RSM_FIRST` (RSM page, 16). -/
def rRSM_FIRST : RegRow := ⟨"RSM_FIRST", 0x62, 0x62, [
  .fld "SEQ" 31 0 .ro 0 .any]⟩
def F.RSM_FIRST_SEQ : Fld := ⟨0x14, 0x62, 31, 0⟩
/-- `RSM_FILL` (RSM page, 16). -/
def rRSM_FILL : RegRow := ⟨"RSM_FILL", 0x63, 0x63, [
  .fld "STAGE" 31 24 .ro 0 .any,
  .rsv 23 13,
  .fld "USED" 12 0 .ro 0 .any]⟩
def F.RSM_FILL_STAGE : Fld := ⟨0x14, 0x63, 31, 24⟩
def F.RSM_FILL_USED : Fld := ⟨0x14, 0x63, 12, 0⟩
/-- `RSM_LOST` (RSM page, 16). -/
def rRSM_LOST : RegRow := ⟨"RSM_LOST", 0x64, 0x64, [
  .fld "OTHER" 31 16 .ro 0 .any,
  .fld "TOTAL" 15 0 .ro 0 .any]⟩
def F.RSM_LOST_OTHER : Fld := ⟨0x14, 0x64, 31, 16⟩
def F.RSM_LOST_TOTAL : Fld := ⟨0x14, 0x64, 15, 0⟩
/-- `RSM_SNAPSEQ` (RSM page, 16). -/
def rRSM_SNAPSEQ : RegRow := ⟨"RSM_SNAPSEQ", 0x65, 0x65, [
  .fld "SEQ" 31 0 .ro 0 .any]⟩
def F.RSM_SNAPSEQ_SEQ : Fld := ⟨0x14, 0x65, 31, 0⟩
/-- `RSM_RDSTAT` (RSM page, 16). -/
def rRSM_RDSTAT : RegRow := ⟨"RSM_RDSTAT", 0x66, 0x66, [
  .rsv 31 2,
  .fld "STATE" 1 0 .ro 2 .any]⟩
def F.RSM_RDSTAT_STATE : Fld := ⟨0x14, 0x66, 1, 0⟩
/-- `RSM_DROP` (RSM page, 16). -/
def rRSM_DROP : RegRow := ⟨"RSM_DROP", 0x67, 0x67, [
  .rsv 31 16,
  .fld "COUNT" 15 0 .ro 0 .any]⟩
def F.RSM_DROP_COUNT : Fld := ⟨0x14, 0x67, 15, 0⟩
/-- `RSM_REC` (RSM page, 16). -/
def rRSM_REC : RegRow := ⟨"RSM_REC", 0x80, 0xBF, [
  .fld "DATA" 31 0 .ro 0 .any]⟩
def F.RSM_REC_DATA : Fld := ⟨0x14, 0x80, 31, 0⟩
/-- `RSM_SNAP` (RSM page, 16). -/
def rRSM_SNAP : RegRow := ⟨"RSM_SNAP", 0xE0, 0xE0, [
  .rsv 31 1,
  .fld "HOLD" 0 0 .rw 0 .any]⟩
def F.RSM_SNAP_HOLD : Fld := ⟨0x14, 0xE0, 0, 0⟩
/-- `RSM_RDSEL` (RSM page, 16). -/
def rRSM_RDSEL : RegRow := ⟨"RSM_RDSEL", 0xE1, 0xE1, [
  .fld "SEQ" 31 0 .rw 0 .any]⟩
def F.RSM_RDSEL_SEQ : Fld := ⟨0x14, 0xE1, 31, 0⟩
/-- `RSM_CLEAR` (RSM page, 16). -/
def rRSM_CLEAR : RegRow := ⟨"RSM_CLEAR", 0xE2, 0xE2, [
  .fld "KEY" 31 0 .wo 0 .any]⟩
def F.RSM_CLEAR_KEY : Fld := ⟨0x14, 0xE2, 31, 0⟩
/-- `RSM_LOSTSEL` (RSM page, 16). -/
def rRSM_LOSTSEL : RegRow := ⟨"RSM_LOSTSEL", 0xE3, 0xE3, [
  .rsv 31 14,
  .fld "IDX" 13 0 .rw 0 .any]⟩
def F.RSM_LOSTSEL_IDX : Fld := ⟨0x14, 0xE3, 13, 0⟩
/-- `RSM_LOSTDATA` (RSM page, 16). -/
def rRSM_LOSTDATA : RegRow := ⟨"RSM_LOSTDATA", 0xE4, 0xE4, [
  .fld "CODE" 31 16 .ro 0 .any,
  .fld "COUNT" 15 0 .ro 0 .any]⟩
def F.RSM_LOSTDATA_CODE : Fld := ⟨0x14, 0xE4, 31, 16⟩
def F.RSM_LOSTDATA_COUNT : Fld := ⟨0x14, 0xE4, 15, 0⟩
/-- The words of a RSM page. -/
def regsRSM : List RegRow := [
  rRSM_PSTAT, rRSM_IFLAG, rRSM_RATE, rRSM_RLIM, rRSM_HEAD, rRSM_FLUSHED,
  rRSM_FIRST, rRSM_FILL, rRSM_LOST, rRSM_SNAPSEQ, rRSM_RDSTAT, rRSM_DROP,
  rRSM_REC, rRSM_SNAP, rRSM_RDSEL, rRSM_CLEAR, rRSM_LOSTSEL, rRSM_LOSTDATA]

/-! ### CYL -/
/-- `CYL_IFLAG` (CYL page, 16). -/
def rCYL_IFLAG : RegRow := ⟨"CYL_IFLAG", 0x03, 0x03, [
  .rsv 31 4,
  .fld "NEARFULL" 3 3 .w1c 0 .any,
  .fld "RESUMED" 2 2 .w1c 0 .any,
  .fld "GAP" 1 1 .w1c 0 .any,
  .fld "RECORD" 0 0 .w1c 0 .any]⟩
def F.CYL_IFLAG_NEARFULL : Fld := ⟨0x15, 0x03, 3, 3⟩
def F.CYL_IFLAG_RESUMED : Fld := ⟨0x15, 0x03, 2, 2⟩
def F.CYL_IFLAG_GAP : Fld := ⟨0x15, 0x03, 1, 1⟩
def F.CYL_IFLAG_RECORD : Fld := ⟨0x15, 0x03, 0, 0⟩
/-- `CYL_CFG` (CYL page, 16). -/
def rCYL_CFG : RegRow := ⟨"CYL_CFG", 0x08, 0x08, [
  .rsv 31 16,
  .fld "WARN" 15 0 .rws 57344 (.range 1024 65535 1)]⟩
def F.CYL_CFG_WARN : Fld := ⟨0x15, 0x08, 15, 0⟩
/-- `CYL_NEWEST` (CYL page, 16). -/
def rCYL_NEWEST : RegRow := ⟨"CYL_NEWEST", 0x60, 0x60, [
  .fld "SEQ" 31 0 .ro 0 .any]⟩
def F.CYL_NEWEST_SEQ : Fld := ⟨0x15, 0x60, 31, 0⟩
/-- `CYL_ACKED` (CYL page, 16). -/
def rCYL_ACKED : RegRow := ⟨"CYL_ACKED", 0x61, 0x61, [
  .fld "SEQ" 31 0 .ro 0 .any]⟩
def F.CYL_ACKED_SEQ : Fld := ⟨0x15, 0x61, 31, 0⟩
/-- `CYL_OLDEST` (CYL page, 16). -/
def rCYL_OLDEST : RegRow := ⟨"CYL_OLDEST", 0x62, 0x62, [
  .fld "SEQ" 31 0 .ro 0 .any]⟩
def F.CYL_OLDEST_SEQ : Fld := ⟨0x15, 0x62, 31, 0⟩
/-- `CYL_STAT` (CYL page, 16). -/
def rCYL_STAT : RegRow := ⟨"CYL_STAT", 0x63, 0x63, [
  .fld "GAP" 31 31 .ro 0 .any,
  .rsv 30 17,
  .fld "UNACK" 16 0 .ro 0 .any]⟩
def F.CYL_STAT_GAP : Fld := ⟨0x15, 0x63, 31, 31⟩
def F.CYL_STAT_UNACK : Fld := ⟨0x15, 0x63, 16, 0⟩
/-- `CYL_LOST` (CYL page, 16). -/
def rCYL_LOST : RegRow := ⟨"CYL_LOST", 0x64, 0x64, [
  .fld "LIFE" 31 16 .ro 0 .any,
  .fld "GAP" 15 0 .ro 0 .any]⟩
def F.CYL_LOST_LIFE : Fld := ⟨0x15, 0x64, 31, 16⟩
def F.CYL_LOST_GAP : Fld := ⟨0x15, 0x64, 15, 0⟩
/-- `CYL_RDSTAT` (CYL page, 16). -/
def rCYL_RDSTAT : RegRow := ⟨"CYL_RDSTAT", 0x65, 0x65, [
  .rsv 31 2,
  .fld "STATE" 1 0 .ro 2 .any]⟩
def F.CYL_RDSTAT_STATE : Fld := ⟨0x15, 0x65, 1, 0⟩
/-- `CYL_AXCNT` (CYL page, 16). -/
def rCYL_AXCNT : RegRow := ⟨"CYL_AXCNT", 0x68, 0x6D, [
  .fld "COUNT" 31 0 .ro 0 .any]⟩
def F.CYL_AXCNT_COUNT : Fld := ⟨0x15, 0x68, 31, 0⟩
/-- `CYL_REC` (CYL page, 16). -/
def rCYL_REC : RegRow := ⟨"CYL_REC", 0x80, 0x8F, [
  .fld "DATA" 31 0 .ro 0 .any]⟩
def F.CYL_REC_DATA : Fld := ⟨0x15, 0x80, 31, 0⟩
/-- `CYL_RDSEL` (CYL page, 16). -/
def rCYL_RDSEL : RegRow := ⟨"CYL_RDSEL", 0xE0, 0xE0, [
  .fld "SEQ" 31 0 .rw 0 .any]⟩
def F.CYL_RDSEL_SEQ : Fld := ⟨0x15, 0xE0, 31, 0⟩
/-- `CYL_ACK` (CYL page, 16). -/
def rCYL_ACK : RegRow := ⟨"CYL_ACK", 0xE1, 0xE1, [
  .fld "SEQ" 31 0 .wo 0 .any]⟩
def F.CYL_ACK_SEQ : Fld := ⟨0x15, 0xE1, 31, 0⟩
/-- The words of a CYL page. -/
def regsCYL : List RegRow := [
  rCYL_IFLAG, rCYL_CFG, rCYL_NEWEST, rCYL_ACKED, rCYL_OLDEST, rCYL_STAT,
  rCYL_LOST, rCYL_RDSTAT, rCYL_AXCNT, rCYL_REC, rCYL_RDSEL, rCYL_ACK]

/-! ### SAF -/
/-- `SAF_PSTAT` (SAF page, 21). -/
def rSAF_PSTAT : RegRow := ⟨"SAF_PSTAT", 0x01, 0x01, [
  .rsv 31 19,
  .fld "SAFESTOP" 18 18 .ro 1 .any,
  .fld "SDEGR" 17 17 .ro 0 .any,
  .fld "SFAULT" 16 16 .ro 0 .any,
  .rsv 15 0]⟩
def F.SAF_PSTAT_SAFESTOP : Fld := ⟨0x18, 0x01, 18, 18⟩
def F.SAF_PSTAT_SDEGR : Fld := ⟨0x18, 0x01, 17, 17⟩
def F.SAF_PSTAT_SFAULT : Fld := ⟨0x18, 0x01, 16, 16⟩
/-- `SAF_IFLAG` (SAF page, 21). -/
def rSAF_IFLAG : RegRow := ⟨"SAF_IFLAG", 0x03, 0x03, [
  .rsv 31 8,
  .fld "LOCKOUT" 7 7 .w1c 0 .any,
  .fld "SFAULT" 6 6 .w1c 0 .any,
  .fld "SDEGR" 5 5 .w1c 0 .any,
  .fld "BFAIL" 4 4 .w1c 0 .any,
  .fld "BTEST" 3 3 .w1c 0 .any,
  .fld "STOP" 2 2 .w1c 0 .any,
  .fld "CHGIL" 1 1 .w1c 0 .any,
  .fld "PROP" 0 0 .w1c 0 .any]⟩
def F.SAF_IFLAG_LOCKOUT : Fld := ⟨0x18, 0x03, 7, 7⟩
def F.SAF_IFLAG_SFAULT : Fld := ⟨0x18, 0x03, 6, 6⟩
def F.SAF_IFLAG_SDEGR : Fld := ⟨0x18, 0x03, 5, 5⟩
def F.SAF_IFLAG_BFAIL : Fld := ⟨0x18, 0x03, 4, 4⟩
def F.SAF_IFLAG_BTEST : Fld := ⟨0x18, 0x03, 3, 3⟩
def F.SAF_IFLAG_STOP : Fld := ⟨0x18, 0x03, 2, 2⟩
def F.SAF_IFLAG_CHGIL : Fld := ⟨0x18, 0x03, 1, 1⟩
def F.SAF_IFLAG_PROP : Fld := ⟨0x18, 0x03, 0, 0⟩
/-- `SAF_CFG` (SAF page, 21). -/
def rSAF_CFG : RegRow := ⟨"SAF_CFG", 0x08, 0x08, [
  .rsv 31 24,
  .fld "DTIME" 23 16 .rws 8 (.range 1 72 1),
  .fld "TSTOP" 15 8 .rws 20 (.range 1 100 1),
  .rsv 7 0]⟩
def F.SAF_CFG_DTIME : Fld := ⟨0x18, 0x08, 23, 16⟩
def F.SAF_CFG_TSTOP : Fld := ⟨0x18, 0x08, 15, 8⟩
/-- `SAF_GRD` (SAF page, 21). -/
def rSAF_GRD : RegRow := ⟨"SAF_GRD", 0x09, 0x09, [
  .rsv 31 16,
  .fld "DEB" 15 8 .rws 5 (.range 2 50 1),
  .fld "G1" 7 4 .rws 7 .any,
  .fld "G0" 3 0 .rws 7 .any]⟩
def F.SAF_GRD_DEB : Fld := ⟨0x18, 0x09, 15, 8⟩
def F.SAF_GRD_G1 : Fld := ⟨0x18, 0x09, 7, 4⟩
def F.SAF_GRD_G0 : Fld := ⟨0x18, 0x09, 3, 0⟩
/-- `SAF_BRK0` (SAF page, 21). -/
def rSAF_BRK0 : RegRow := ⟨"SAF_BRK0", 0x0A, 0x0A, [
  .fld "HOLD" 31 24 .rws 128 (.range 26 255 1),
  .fld "IMAX" 23 12 .rws 2000 (.range 50 3000 1),
  .fld "IMIN" 11 0 .rws 100 (.range 10 2000 1)]⟩
def F.SAF_BRK0_HOLD : Fld := ⟨0x18, 0x0A, 31, 24⟩
def F.SAF_BRK0_IMAX : Fld := ⟨0x18, 0x0A, 23, 12⟩
def F.SAF_BRK0_IMIN : Fld := ⟨0x18, 0x0A, 11, 0⟩
/-- `SAF_BRK1` (SAF page, 21). -/
def rSAF_BRK1 : RegRow := ⟨"SAF_BRK1", 0x0B, 0x0B, [
  .fld "HOLD" 31 24 .rws 128 (.range 26 255 1),
  .fld "IMAX" 23 12 .rws 2000 (.range 50 3000 1),
  .fld "IMIN" 11 0 .rws 100 (.range 10 2000 1)]⟩
def F.SAF_BRK1_HOLD : Fld := ⟨0x18, 0x0B, 31, 24⟩
def F.SAF_BRK1_IMAX : Fld := ⟨0x18, 0x0B, 23, 12⟩
def F.SAF_BRK1_IMIN : Fld := ⟨0x18, 0x0B, 11, 0⟩
/-- `SAF_BTEST` (SAF page, 21). -/
def rSAF_BTEST : RegRow := ⟨"SAF_BTEST", 0x0C, 0x0C, [
  .fld "PERIOD" 31 24 .rws 8 (.range 1 168 1),
  .fld "TIME" 23 16 .rws 50 (.range 10 200 1),
  .fld "I" 15 0 .rws 1000 (.range 100 30000 1)]⟩
def F.SAF_BTEST_PERIOD : Fld := ⟨0x18, 0x0C, 31, 24⟩
def F.SAF_BTEST_TIME : Fld := ⟨0x18, 0x0C, 23, 16⟩
def F.SAF_BTEST_I : Fld := ⟨0x18, 0x0C, 15, 0⟩
/-- `SAF_BTWIN` (SAF page, 21). -/
def rSAF_BTWIN : RegRow := ⟨"SAF_BTWIN", 0x0D, 0x0D, [
  .rsv 31 18,
  .fld "EN" 17 16 .rws 3 .any,
  .fld "WIN" 15 0 .rws 16 (.range 1 65535 1)]⟩
def F.SAF_BTWIN_EN : Fld := ⟨0x18, 0x0D, 17, 16⟩
def F.SAF_BTWIN_WIN : Fld := ⟨0x18, 0x0D, 15, 0⟩
/-- `SAF_STAT` (SAF page, 21). -/
def rSAF_STAT : RegRow := ⟨"SAF_STAT", 0x60, 0x60, [
  .rsv 31 26,
  .fld "SFAULT" 25 25 .ro 0 .any,
  .fld "SDEGR" 24 24 .ro 0 .any,
  .rsv 23 20,
  .fld "EDGE1" 19 18 .ro 0 .any,
  .fld "EDGE0" 17 16 .ro 0 .any,
  .rsv 15 14,
  .fld "BRKFAIL" 13 12 .ro 0 .any,
  .fld "BRKREL" 11 10 .ro 0 .any,
  .fld "GRDCL" 9 8 .ro 0 .any,
  .rsv 7 7,
  .fld "CD3OPEN" 6 6 .ro 0 .any,
  .fld "GRDDONE" 5 5 .ro 0 .any,
  .fld "SAFESTOP" 4 4 .ro 1 .any,
  .fld "CHGIL" 3 3 .ro 0 .any,
  .fld "MATED" 2 2 .ro 0 .any,
  .fld "HATCH_CL" 1 1 .ro 0 .any,
  .fld "PROP_EN" 0 0 .ro 0 .any]⟩
def F.SAF_STAT_SFAULT : Fld := ⟨0x18, 0x60, 25, 25⟩
def F.SAF_STAT_SDEGR : Fld := ⟨0x18, 0x60, 24, 24⟩
def F.SAF_STAT_EDGE1 : Fld := ⟨0x18, 0x60, 19, 18⟩
def F.SAF_STAT_EDGE0 : Fld := ⟨0x18, 0x60, 17, 16⟩
def F.SAF_STAT_BRKFAIL : Fld := ⟨0x18, 0x60, 13, 12⟩
def F.SAF_STAT_BRKREL : Fld := ⟨0x18, 0x60, 11, 10⟩
def F.SAF_STAT_GRDCL : Fld := ⟨0x18, 0x60, 9, 8⟩
def F.SAF_STAT_CD3OPEN : Fld := ⟨0x18, 0x60, 6, 6⟩
def F.SAF_STAT_GRDDONE : Fld := ⟨0x18, 0x60, 5, 5⟩
def F.SAF_STAT_SAFESTOP : Fld := ⟨0x18, 0x60, 4, 4⟩
def F.SAF_STAT_CHGIL : Fld := ⟨0x18, 0x60, 3, 3⟩
def F.SAF_STAT_MATED : Fld := ⟨0x18, 0x60, 2, 2⟩
def F.SAF_STAT_HATCH_CL : Fld := ⟨0x18, 0x60, 1, 1⟩
def F.SAF_STAT_PROP_EN : Fld := ⟨0x18, 0x60, 0, 0⟩
/-- `SAF_DEGR` (SAF page, 21). -/
def rSAF_DEGR : RegRow := ⟨"SAF_DEGR", 0x61, 0x61, [
  .fld "LEFT" 31 16 .ro 65535 .any,
  .rsv 15 6,
  .fld "CAUSE" 5 0 .ro 0 .any]⟩
def F.SAF_DEGR_LEFT : Fld := ⟨0x18, 0x61, 31, 16⟩
def F.SAF_DEGR_CAUSE : Fld := ⟨0x18, 0x61, 5, 0⟩
/-- `SAF_FAULT` (SAF page, 21). -/
def rSAF_FAULT : RegRow := ⟨"SAF_FAULT", 0x62, 0x62, [
  .fld "FRAME" 31 16 .ro 0 .any,
  .rsv 15 8,
  .fld "CODE" 7 0 .ro 0 .any]⟩
def F.SAF_FAULT_FRAME : Fld := ⟨0x18, 0x62, 31, 16⟩
def F.SAF_FAULT_CODE : Fld := ⟨0x18, 0x62, 7, 0⟩
/-- `SAF_BTST0` (SAF page, 21). -/
def rSAF_BTST0 : RegRow := ⟨"SAF_BTST0", 0x63, 0x63, [
  .fld "RESULT" 31 28 .ro 0 .any,
  .fld "MOVE" 27 16 .ro 0 .any,
  .fld "DUE" 15 0 .ro 0 .any]⟩
def F.SAF_BTST0_RESULT : Fld := ⟨0x18, 0x63, 31, 28⟩
def F.SAF_BTST0_MOVE : Fld := ⟨0x18, 0x63, 27, 16⟩
def F.SAF_BTST0_DUE : Fld := ⟨0x18, 0x63, 15, 0⟩
/-- `SAF_BTST1` (SAF page, 21). -/
def rSAF_BTST1 : RegRow := ⟨"SAF_BTST1", 0x64, 0x64, [
  .fld "RESULT" 31 28 .ro 0 .any,
  .fld "MOVE" 27 16 .ro 0 .any,
  .fld "DUE" 15 0 .ro 0 .any]⟩
def F.SAF_BTST1_RESULT : Fld := ⟨0x18, 0x64, 31, 28⟩
def F.SAF_BTST1_MOVE : Fld := ⟨0x18, 0x64, 27, 16⟩
def F.SAF_BTST1_DUE : Fld := ⟨0x18, 0x64, 15, 0⟩
/-- `SAF_BCUR` (SAF page, 21). -/
def rSAF_BCUR : RegRow := ⟨"SAF_BCUR", 0x65, 0x65, [
  .fld "BRK1" 31 16 .ro 0 .any,
  .fld "BRK0" 15 0 .ro 0 .any]⟩
def F.SAF_BCUR_BRK1 : Fld := ⟨0x18, 0x65, 31, 16⟩
def F.SAF_BCUR_BRK0 : Fld := ⟨0x18, 0x65, 15, 0⟩
/-- `SAF_LOCKSTAT` (SAF page, 21). -/
def rSAF_LOCKSTAT : RegRow := ⟨"SAF_LOCKSTAT", 0x66, 0x66, [
  .fld "LOCKOUT_S" 31 16 .ro 0 .any,
  .rsv 15 5,
  .fld "DEFAULT_PW" 4 4 .ro 0 .any,
  .rsv 3 3,
  .fld "UNL" 2 0 .ro 0 .any]⟩
def F.SAF_LOCKSTAT_LOCKOUT_S : Fld := ⟨0x18, 0x66, 31, 16⟩
def F.SAF_LOCKSTAT_DEFAULT_PW : Fld := ⟨0x18, 0x66, 4, 4⟩
def F.SAF_LOCKSTAT_UNL : Fld := ⟨0x18, 0x66, 2, 0⟩
/-- `SAF_CFGCRC` (SAF page, 21). -/
def rSAF_CFGCRC : RegRow := ⟨"SAF_CFGCRC", 0x67, 0x67, [
  .fld "CRC" 31 0 .ro 0 .any]⟩
def F.SAF_CFGCRC_CRC : Fld := ⟨0x18, 0x67, 31, 0⟩
/-- `SAF_LOGSTAT` (SAF page, 21). -/
def rSAF_LOGSTAT : RegRow := ⟨"SAF_LOGSTAT", 0x68, 0x68, [
  .fld "TOTAL" 31 16 .ro 0 .any,
  .rsv 15 8,
  .fld "NEWEST" 7 0 .ro 0 .any]⟩
def F.SAF_LOGSTAT_TOTAL : Fld := ⟨0x18, 0x68, 31, 16⟩
def F.SAF_LOGSTAT_NEWEST : Fld := ⟨0x18, 0x68, 7, 0⟩
/-- `SAF_LOG` (SAF page, 21). -/
def rSAF_LOG : RegRow := ⟨"SAF_LOG", 0x70, 0x73, [
  .fld "DATA" 31 0 .ro 0 .any]⟩
def F.SAF_LOG_DATA : Fld := ⟨0x18, 0x70, 31, 0⟩
/-- `SAF_UNLOCK` (SAF page, 21). -/
def rSAF_UNLOCK : RegRow := ⟨"SAF_UNLOCK", 0xE0, 0xE0, [
  .fld "PW" 31 0 .wo 0 .any]⟩
def F.SAF_UNLOCK_PW : Fld := ⟨0x18, 0xE0, 31, 0⟩
/-- `SAF_NEWPW` (SAF page, 21). -/
def rSAF_NEWPW : RegRow := ⟨"SAF_NEWPW", 0xE1, 0xE1, [
  .fld "PW" 31 0 .wo 0 .any]⟩
def F.SAF_NEWPW_PW : Fld := ⟨0x18, 0xE1, 31, 0⟩
/-- `SAF_CMD` (SAF page, 21). -/
def rSAF_CMD : RegRow := ⟨"SAF_CMD", 0xE2, 0xE2, [
  .fld "CMD" 31 0 .wo 0 .any]⟩
def F.SAF_CMD_CMD : Fld := ⟨0x18, 0xE2, 31, 0⟩
/-- `SAF_LOGSEL` (SAF page, 21). -/
def rSAF_LOGSEL : RegRow := ⟨"SAF_LOGSEL", 0xE3, 0xE3, [
  .rsv 31 8,
  .fld "IDX" 7 0 .rw 0 .any]⟩
def F.SAF_LOGSEL_IDX : Fld := ⟨0x18, 0xE3, 7, 0⟩
/-- The words of a SAF page. -/
def regsSAF : List RegRow := [
  rSAF_PSTAT, rSAF_IFLAG, rSAF_CFG, rSAF_GRD, rSAF_BRK0, rSAF_BRK1,
  rSAF_BTEST, rSAF_BTWIN, rSAF_STAT, rSAF_DEGR, rSAF_FAULT, rSAF_BTST0,
  rSAF_BTST1, rSAF_BCUR, rSAF_LOCKSTAT, rSAF_CFGCRC, rSAF_LOGSTAT, rSAF_LOG,
  rSAF_UNLOCK, rSAF_NEWPW, rSAF_CMD, rSAF_LOGSEL]

/-! ### SCH -/
/-- `SCH_IFLAG` (SCH page, 21). -/
def rSCH_IFLAG : RegRow := ⟨"SCH_IFLAG", 0x03, 0x03, [
  .rsv 31 6,
  .fld "FMT" 5 5 .w1c 0 .any,
  .fld "SEQ" 4 4 .w1c 0 .any,
  .fld "ID" 3 3 .w1c 0 .any,
  .fld "CRC" 2 2 .w1c 0 .any,
  .fld "WDT" 1 1 .w1c 0 .any,
  .fld "CONN" 0 0 .w1c 0 .any]⟩
def F.SCH_IFLAG_FMT : Fld := ⟨0x19, 0x03, 5, 5⟩
def F.SCH_IFLAG_SEQ : Fld := ⟨0x19, 0x03, 4, 4⟩
def F.SCH_IFLAG_ID : Fld := ⟨0x19, 0x03, 3, 3⟩
def F.SCH_IFLAG_CRC : Fld := ⟨0x19, 0x03, 2, 2⟩
def F.SCH_IFLAG_WDT : Fld := ⟨0x19, 0x03, 1, 1⟩
def F.SCH_IFLAG_CONN : Fld := ⟨0x19, 0x03, 0, 0⟩
/-- `SCH_CFG` (SCH page, 21). -/
def rSCH_CFG : RegRow := ⟨"SCH_CFG", 0x08, 0x08, [
  .fld "EN" 31 31 .rws 0 .any,
  .fld "PORT" 30 30 .rws 0 .any,
  .rsv 29 5,
  .fld "USE" 4 0 .rws 0 .any]⟩
def F.SCH_CFG_EN : Fld := ⟨0x19, 0x08, 31, 31⟩
def F.SCH_CFG_PORT : Fld := ⟨0x19, 0x08, 30, 30⟩
def F.SCH_CFG_USE : Fld := ⟨0x19, 0x08, 4, 0⟩
/-- `SCH_RXID` (SCH page, 21). -/
def rSCH_RXID : RegRow := ⟨"SCH_RXID", 0x09, 0x09, [
  .rsv 31 29,
  .fld "ID" 28 0 .rws 1648 .any]⟩
def F.SCH_RXID_ID : Fld := ⟨0x19, 0x09, 28, 0⟩
/-- `SCH_TXID` (SCH page, 21). -/
def rSCH_TXID : RegRow := ⟨"SCH_TXID", 0x0A, 0x0A, [
  .rsv 31 29,
  .fld "ID" 28 0 .rws 1649 .any]⟩
def F.SCH_TXID_ID : Fld := ⟨0x19, 0x0A, 28, 0⟩
/-- `SCH_CONNRX` (SCH page, 21). -/
def rSCH_CONNRX : RegRow := ⟨"SCH_CONNRX", 0x0B, 0x0B, [
  .fld "ID" 31 0 .rws 0 .any]⟩
def F.SCH_CONNRX_ID : Fld := ⟨0x19, 0x0B, 31, 0⟩
/-- `SCH_CONNTX` (SCH page, 21). -/
def rSCH_CONNTX : RegRow := ⟨"SCH_CONNTX", 0x0C, 0x0C, [
  .fld "ID" 31 0 .rws 0 .any]⟩
def F.SCH_CONNTX_ID : Fld := ⟨0x19, 0x0C, 31, 0⟩
/-- `SCH_TIME` (SCH page, 21). -/
def rSCH_TIME : RegRow := ⟨"SCH_TIME", 0x0D, 0x0D, [
  .fld "RXWDT" 31 16 .rws 100 (.range 10 1000 1),
  .fld "TXWDT" 15 0 .rws 100 (.range 10 1000 1)]⟩
def F.SCH_TIME_RXWDT : Fld := ⟨0x19, 0x0D, 31, 16⟩
def F.SCH_TIME_TXWDT : Fld := ⟨0x19, 0x0D, 15, 0⟩
/-- `SCH_STAT` (SCH page, 21). -/
def rSCH_STAT : RegRow := ⟨"SCH_STAT", 0x60, 0x60, [
  .fld "LINK" 31 30 .ro 0 .any,
  .rsv 29 21,
  .fld "RXDATA" 20 16 .ro 0 .any,
  .fld "RXSEQ" 15 0 .ro 0 .any]⟩
def F.SCH_STAT_LINK : Fld := ⟨0x19, 0x60, 31, 30⟩
def F.SCH_STAT_RXDATA : Fld := ⟨0x19, 0x60, 20, 16⟩
def F.SCH_STAT_RXSEQ : Fld := ⟨0x19, 0x60, 15, 0⟩
/-- `SCH_TXSEQ` (SCH page, 21). -/
def rSCH_TXSEQ : RegRow := ⟨"SCH_TXSEQ", 0x61, 0x61, [
  .rsv 31 16,
  .fld "SEQ" 15 0 .ro 0 .any]⟩
def F.SCH_TXSEQ_SEQ : Fld := ⟨0x19, 0x61, 15, 0⟩
/-- `SCH_ERR` (SCH page, 21). -/
def rSCH_ERR : RegRow := ⟨"SCH_ERR", 0x62, 0x62, [
  .fld "CRC" 31 24 .rc 0 .any,
  .fld "ID" 23 16 .rc 0 .any,
  .fld "SEQ" 15 8 .rc 0 .any,
  .fld "WDT" 7 0 .rc 0 .any]⟩
def F.SCH_ERR_CRC : Fld := ⟨0x19, 0x62, 31, 24⟩
def F.SCH_ERR_ID : Fld := ⟨0x19, 0x62, 23, 16⟩
def F.SCH_ERR_SEQ : Fld := ⟨0x19, 0x62, 15, 8⟩
def F.SCH_ERR_WDT : Fld := ⟨0x19, 0x62, 7, 0⟩
/-- `SCH_WDLEFT` (SCH page, 21). -/
def rSCH_WDLEFT : RegRow := ⟨"SCH_WDLEFT", 0x63, 0x63, [
  .rsv 31 16,
  .fld "MS" 15 0 .ro 65535 .any]⟩
def F.SCH_WDLEFT_MS : Fld := ⟨0x19, 0x63, 15, 0⟩
/-- The words of a SCH page. -/
def regsSCH : List RegRow := [
  rSCH_IFLAG, rSCH_CFG, rSCH_RXID, rSCH_TXID, rSCH_CONNRX, rSCH_CONNTX,
  rSCH_TIME, rSCH_STAT, rSCH_TXSEQ, rSCH_ERR, rSCH_WDLEFT]

/-! ### MD -/
/-- `MD_PSTAT` (MD page, 07). -/
def rMD_PSTAT : RegRow := ⟨"MD_PSTAT", 0x01, 0x01, [
  .rsv 31 21,
  .fld "SARGAIN" 20 20 .ro 0 .any,
  .fld "REFSTEP" 19 19 .ro 0 .any,
  .fld "REF" 18 18 .ro 0 .any,
  .fld "XDIE" 17 17 .ro 0 .any,
  .fld "FAST" 16 16 .ro 0 .any,
  .rsv 15 0]⟩
def F.MD_PSTAT_SARGAIN : Fld := ⟨0x20, 0x01, 20, 20⟩
def F.MD_PSTAT_REFSTEP : Fld := ⟨0x20, 0x01, 19, 19⟩
def F.MD_PSTAT_REF : Fld := ⟨0x20, 0x01, 18, 18⟩
def F.MD_PSTAT_XDIE : Fld := ⟨0x20, 0x01, 17, 17⟩
def F.MD_PSTAT_FAST : Fld := ⟨0x20, 0x01, 16, 16⟩
/-- `MD_IFLAG` (MD page, 07). -/
def rMD_IFLAG : RegRow := ⟨"MD_IFLAG", 0x03, 0x03, [
  .rsv 31 7,
  .fld "NTC" 6 6 .w1c 0 .any,
  .fld "OVR" 5 5 .w1c 0 .any,
  .fld "SARGAIN" 4 4 .w1c 0 .any,
  .fld "REFSTEP" 3 3 .w1c 0 .any,
  .fld "REF" 2 2 .w1c 0 .any,
  .fld "XDIE" 1 1 .w1c 0 .any,
  .fld "XCHK" 0 0 .w1c 0 .any]⟩
def F.MD_IFLAG_NTC : Fld := ⟨0x20, 0x03, 6, 6⟩
def F.MD_IFLAG_OVR : Fld := ⟨0x20, 0x03, 5, 5⟩
def F.MD_IFLAG_SARGAIN : Fld := ⟨0x20, 0x03, 4, 4⟩
def F.MD_IFLAG_REFSTEP : Fld := ⟨0x20, 0x03, 3, 3⟩
def F.MD_IFLAG_REF : Fld := ⟨0x20, 0x03, 2, 2⟩
def F.MD_IFLAG_XDIE : Fld := ⟨0x20, 0x03, 1, 1⟩
def F.MD_IFLAG_XCHK : Fld := ⟨0x20, 0x03, 0, 0⟩
/-- `MD_FILT` (MD page, 07). -/
def rMD_FILT : RegRow := ⟨"MD_FILT", 0x08, 0x08, [
  .rsv 31 2,
  .fld "CORNER" 1 0 .rws 3 .any]⟩
def F.MD_FILT_CORNER : Fld := ⟨0x20, 0x08, 1, 0⟩
/-- `MD_SCAN` (MD page, 07). -/
def rMD_SCAN : RegRow := ⟨"MD_SCAN", 0x09, 0x09, [
  .rsv 31 21,
  .fld "FIXED" 20 16 .ro 31 .any,
  .fld "NTC" 15 0 .rws 65535 .any]⟩
def F.MD_SCAN_FIXED : Fld := ⟨0x20, 0x09, 20, 16⟩
def F.MD_SCAN_NTC : Fld := ⟨0x20, 0x09, 15, 0⟩
/-- `MD_XCHK` (MD page, 07). -/
def rMD_XCHK : RegRow := ⟨"MD_XCHK", 0x0A, 0x0A, [
  .rsv 31 16,
  .fld "IBAND" 15 0 .rws 20 (.range 1 500 1)]⟩
def F.MD_XCHK_IBAND : Fld := ⟨0x20, 0x0A, 15, 0⟩
/-- `MD_NTCPAR` (MD page, 07). -/
def rMD_NTCPAR : RegRow := ⟨"MD_NTCPAR", 0x0B, 0x0B, [
  .fld "BETA" 31 16 .rws 3435 (.range 2000 6000 1),
  .fld "RNOM" 15 0 .rws 10000 (.range 1000 65000 1)]⟩
def F.MD_NTCPAR_BETA : Fld := ⟨0x20, 0x0B, 31, 16⟩
def F.MD_NTCPAR_RNOM : Fld := ⟨0x20, 0x0B, 15, 0⟩
/-- `MD_FAST_LO` (MD page, 07). -/
def rMD_FAST_LO : RegRow := ⟨"MD_FAST_LO", 0x0C, 0x0C, [
  .fld "FAST" 31 0 .rws 0 .any]⟩
def F.MD_FAST_LO_FAST : Fld := ⟨0x20, 0x0C, 31, 0⟩
/-- `MD_FAST_HI` (MD page, 07). -/
def rMD_FAST_HI : RegRow := ⟨"MD_FAST_HI", 0x0D, 0x0D, [
  .fld "FAST" 31 0 .rws 0 .any]⟩
def F.MD_FAST_HI_FAST : Fld := ⟨0x20, 0x0D, 31, 0⟩
/-- `MD_CELLEN_LO` (MD page, 07). -/
def rMD_CELLEN_LO : RegRow := ⟨"MD_CELLEN_LO", 0x0E, 0x0E, [
  .fld "EN" 31 0 .rws 4294967295 .any]⟩
def F.MD_CELLEN_LO_EN : Fld := ⟨0x20, 0x0E, 31, 0⟩
/-- `MD_CELLEN_HI` (MD page, 07). -/
def rMD_CELLEN_HI : RegRow := ⟨"MD_CELLEN_HI", 0x0F, 0x0F, [
  .fld "EN" 31 0 .rws 4294967295 .any]⟩
def F.MD_CELLEN_HI_EN : Fld := ⟨0x20, 0x0F, 31, 0⟩
/-- `MD_NTCMAP` (MD page, 07). -/
def rMD_NTCMAP : RegRow := ⟨"MD_NTCMAP", 0x10, 0x1F, [
  .rsv 31 14,
  .fld "LAST" 13 8 .rws 0 .any,
  .rsv 7 6,
  .fld "FIRST" 5 0 .rws 0 .any]⟩
def F.MD_NTCMAP_LAST : Fld := ⟨0x20, 0x10, 13, 8⟩
def F.MD_NTCMAP_FIRST : Fld := ⟨0x20, 0x10, 5, 0⟩
/-- `MD_CELL` (MD page, 07). -/
def rMD_CELL : RegRow := ⟨"MD_CELL", 0x60, 0x9F, [
  .fld "CELL" 31 0 .ro 0 .any]⟩
def F.MD_CELL_CELL : Fld := ⟨0x20, 0x60, 31, 0⟩
/-- `MD_NTC` (MD page, 07). -/
def rMD_NTC : RegRow := ⟨"MD_NTC", 0xA0, 0xAF, [
  .fld "SEQ" 31 28 .ro 0 .any,
  .fld "STATE" 27 26 .ro 0 .any,
  .rsv 25 16,
  .fld "T" 15 0 .ro 0 .any]⟩
def F.MD_NTC_SEQ : Fld := ⟨0x20, 0xA0, 31, 28⟩
def F.MD_NTC_STATE : Fld := ⟨0x20, 0xA0, 27, 26⟩
def F.MD_NTC_T : Fld := ⟨0x20, 0xA0, 15, 0⟩
/-- `MD_DIE` (MD page, 07). -/
def rMD_DIE : RegRow := ⟨"MD_DIE", 0xB0, 0xB0, [
  .fld "SUPPLY" 31 16 .ro 0 .any,
  .fld "TDIE" 15 0 .ro 0 .any]⟩
def F.MD_DIE_SUPPLY : Fld := ⟨0x20, 0xB0, 31, 16⟩
def F.MD_DIE_TDIE : Fld := ⟨0x20, 0xB0, 15, 0⟩
/-- `MD_REFA` (MD page, 07). -/
def rMD_REFA : RegRow := ⟨"MD_REFA", 0xB1, 0xB1, [
  .fld "DELTA" 31 0 .ro 0 .any]⟩
def F.MD_REFA_DELTA : Fld := ⟨0x20, 0xB1, 31, 0⟩
/-- `MD_REFB` (MD page, 07). -/
def rMD_REFB : RegRow := ⟨"MD_REFB", 0xB2, 0xB2, [
  .fld "DELTA" 31 0 .ro 0 .any]⟩
def F.MD_REFB_DELTA : Fld := ⟨0x20, 0xB2, 31, 0⟩
/-- `MD_XRES` (MD page, 07). -/
def rMD_XRES : RegRow := ⟨"MD_XRES", 0xB3, 0xB3, [
  .fld "OUT" 31 30 .ro 3 .any,
  .fld "CELL" 29 24 .ro 0 .any,
  .fld "DIFF" 23 0 .ro 0 .any]⟩
def F.MD_XRES_OUT : Fld := ⟨0x20, 0xB3, 31, 30⟩
def F.MD_XRES_CELL : Fld := ⟨0x20, 0xB3, 29, 24⟩
def F.MD_XRES_DIFF : Fld := ⟨0x20, 0xB3, 23, 0⟩
/-- `MD_GAIN` (MD page, 07). -/
def rMD_GAIN : RegRow := ⟨"MD_GAIN", 0xB4, 0xB4, [
  .fld "GAIN" 31 0 .ro 0 .any]⟩
def F.MD_GAIN_GAIN : Fld := ⟨0x20, 0xB4, 31, 0⟩
/-- `MD_XSTAT` (MD page, 07). -/
def rMD_XSTAT : RegRow := ⟨"MD_XSTAT", 0xB5, 0xB5, [
  .rsv 31 22,
  .fld "NEXT" 21 16 .ro 0 .any,
  .fld "FAILS" 15 0 .ro 0 .any]⟩
def F.MD_XSTAT_NEXT : Fld := ⟨0x20, 0xB5, 21, 16⟩
def F.MD_XSTAT_FAILS : Fld := ⟨0x20, 0xB5, 15, 0⟩
/-- `MD_SUSP_LO` (MD page, 07). -/
def rMD_SUSP_LO : RegRow := ⟨"MD_SUSP_LO", 0xB6, 0xB6, [
  .fld "S" 31 0 .ro 0 .any]⟩
def F.MD_SUSP_LO_S : Fld := ⟨0x20, 0xB6, 31, 0⟩
/-- `MD_SUSP_HI` (MD page, 07). -/
def rMD_SUSP_HI : RegRow := ⟨"MD_SUSP_HI", 0xB7, 0xB7, [
  .fld "S" 31 0 .ro 0 .any]⟩
def F.MD_SUSP_HI_S : Fld := ⟨0x20, 0xB7, 31, 0⟩
/-- `MD_DEGR_LO` (MD page, 07). -/
def rMD_DEGR_LO : RegRow := ⟨"MD_DEGR_LO", 0xB8, 0xB8, [
  .fld "D" 31 0 .ro 0 .any]⟩
def F.MD_DEGR_LO_D : Fld := ⟨0x20, 0xB8, 31, 0⟩
/-- `MD_DEGR_HI` (MD page, 07). -/
def rMD_DEGR_HI : RegRow := ⟨"MD_DEGR_HI", 0xB9, 0xB9, [
  .fld "D" 31 0 .ro 0 .any]⟩
def F.MD_DEGR_HI_D : Fld := ⟨0x20, 0xB9, 31, 0⟩
/-- `MD_MID` (MD page, 07). -/
def rMD_MID : RegRow := ⟨"MD_MID", 0xC0, 0xDF, [
  .fld "ODD" 31 16 .ro 32768 .any,
  .fld "EVEN" 15 0 .ro 32768 .any]⟩
def F.MD_MID_ODD : Fld := ⟨0x20, 0xC0, 31, 16⟩
def F.MD_MID_EVEN : Fld := ⟨0x20, 0xC0, 15, 0⟩
/-- The words of a MD page. -/
def regsMD : List RegRow := [
  rMD_PSTAT, rMD_IFLAG, rMD_FILT, rMD_SCAN, rMD_XCHK, rMD_NTCPAR,
  rMD_FAST_LO, rMD_FAST_HI, rMD_CELLEN_LO, rMD_CELLEN_HI, rMD_NTCMAP, rMD_CELL,
  rMD_NTC, rMD_DIE, rMD_REFA, rMD_REFB, rMD_XRES, rMD_GAIN,
  rMD_XSTAT, rMD_SUSP_LO, rMD_SUSP_HI, rMD_DEGR_LO, rMD_DEGR_HI, rMD_MID]

/-! ### BL -/
/-- `BL_PSTAT` (BL page, 09). -/
def rBL_PSTAT : RegRow := ⟨"BL_PSTAT", 0x01, 0x01, [
  .rsv 31 19,
  .fld "LOCKED" 18 18 .ro 0 .any,
  .fld "LEARNED" 17 17 .ro 0 .any,
  .fld "LEARNING" 16 16 .ro 0 .any,
  .rsv 15 0]⟩
def F.BL_PSTAT_LOCKED : Fld := ⟨0x28, 0x01, 18, 18⟩
def F.BL_PSTAT_LEARNED : Fld := ⟨0x28, 0x01, 17, 17⟩
def F.BL_PSTAT_LEARNING : Fld := ⟨0x28, 0x01, 16, 16⟩
/-- `BL_IFLAG` (BL page, 09). -/
def rBL_IFLAG : RegRow := ⟨"BL_IFLAG", 0x03, 0x03, [
  .rsv 31 7,
  .fld "SHIFT" 6 6 .w1c 0 .any,
  .fld "RHIGH" 5 5 .w1c 0 .any,
  .fld "LRN_FAIL" 4 4 .w1c 0 .any,
  .fld "LRN_DONE" 3 3 .w1c 0 .any,
  .fld "OPEN" 2 2 .w1c 0 .any,
  .fld "OVC" 1 1 .w1c 0 .any,
  .fld "STUCK" 0 0 .w1c 0 .any]⟩
def F.BL_IFLAG_SHIFT : Fld := ⟨0x28, 0x03, 6, 6⟩
def F.BL_IFLAG_RHIGH : Fld := ⟨0x28, 0x03, 5, 5⟩
def F.BL_IFLAG_LRN_FAIL : Fld := ⟨0x28, 0x03, 4, 4⟩
def F.BL_IFLAG_LRN_DONE : Fld := ⟨0x28, 0x03, 3, 3⟩
def F.BL_IFLAG_OPEN : Fld := ⟨0x28, 0x03, 2, 2⟩
def F.BL_IFLAG_OVC : Fld := ⟨0x28, 0x03, 1, 1⟩
def F.BL_IFLAG_STUCK : Fld := ⟨0x28, 0x03, 0, 0⟩
/-- `BL_CFG` (BL page, 09). -/
def rBL_CFG : RegRow := ⟨"BL_CFG", 0x08, 0x08, [
  .rsv 31 16,
  .fld "DUTY" 15 8 .rws 224 (.range 0 224 1),
  .rsv 7 5,
  .fld "PATTERN" 4 4 .rws 0 .any,
  .rsv 3 2,
  .fld "MODE" 1 0 .rws 0 (.enum [0, 1, 2])]⟩
def F.BL_CFG_DUTY : Fld := ⟨0x28, 0x08, 15, 8⟩
def F.BL_CFG_PATTERN : Fld := ⟨0x28, 0x08, 4, 4⟩
def F.BL_CFG_MODE : Fld := ⟨0x28, 0x08, 1, 0⟩
/-- `BL_AUTO` (BL page, 09). -/
def rBL_AUTO : RegRow := ⟨"BL_AUTO", 0x09, 0x09, [
  .fld "HYST" 31 16 .rws 5 (.range 1 100 1),
  .fld "THR" 15 0 .rws 10 (.range 2 500 1)]⟩
def F.BL_AUTO_HYST : Fld := ⟨0x28, 0x09, 31, 16⟩
def F.BL_AUTO_THR : Fld := ⟨0x28, 0x09, 15, 0⟩
/-- `BL_VMIN` (BL page, 09). -/
def rBL_VMIN : RegRow := ⟨"BL_VMIN", 0x0A, 0x0A, [
  .rsv 31 16,
  .fld "MV" 15 0 .rws 3300 (.range 2500 4500 1)]⟩
def F.BL_VMIN_MV : Fld := ⟨0x28, 0x0A, 15, 0⟩
/-- `BL_RBAL` (BL page, 09). -/
def rBL_RBAL : RegRow := ⟨"BL_RBAL", 0x0B, 0x0B, [
  .rsv 31 16,
  .fld "R" 15 0 .rws 150 (.range 50 1000 1)]⟩
def F.BL_RBAL_R : Fld := ⟨0x28, 0x0B, 15, 0⟩
/-- `BL_RDEF` (BL page, 09). -/
def rBL_RDEF : RegRow := ⟨"BL_RDEF", 0x0C, 0x0C, [
  .rsv 31 16,
  .fld "R" 15 0 .rws 500 (.range 0 3000 1)]⟩
def F.BL_RDEF_R : Fld := ⟨0x28, 0x0C, 15, 0⟩
/-- `BL_SHIFTMAX` (BL page, 09). -/
def rBL_SHIFTMAX : RegRow := ⟨"BL_SHIFTMAX", 0x0D, 0x0D, [
  .rsv 31 16,
  .fld "MV" 15 0 .rws 75 (.range 10 125 1)]⟩
def F.BL_SHIFTMAX_MV : Fld := ⟨0x28, 0x0D, 15, 0⟩
/-- `BL_STAT` (BL page, 09). -/
def rBL_STAT : RegRow := ⟨"BL_STAT", 0x60, 0x60, [
  .fld "SCALE" 31 24 .ro 0 .any,
  .fld "DLIM" 23 16 .ro 0 .any,
  .fld "NPLAN" 15 8 .ro 0 .any,
  .rsv 7 1,
  .fld "PERIOD" 0 0 .ro 0 .any]⟩
def F.BL_STAT_SCALE : Fld := ⟨0x28, 0x60, 31, 24⟩
def F.BL_STAT_DLIM : Fld := ⟨0x28, 0x60, 23, 16⟩
def F.BL_STAT_NPLAN : Fld := ⟨0x28, 0x60, 15, 8⟩
def F.BL_STAT_PERIOD : Fld := ⟨0x28, 0x60, 0, 0⟩
/-- `BL_ACT_LO` (BL page, 09). -/
def rBL_ACT_LO : RegRow := ⟨"BL_ACT_LO", 0x61, 0x61, [
  .fld "ACT" 31 0 .ro 0 .any]⟩
def F.BL_ACT_LO_ACT : Fld := ⟨0x28, 0x61, 31, 0⟩
/-- `BL_ACT_HI` (BL page, 09). -/
def rBL_ACT_HI : RegRow := ⟨"BL_ACT_HI", 0x62, 0x62, [
  .fld "ACT" 31 0 .ro 0 .any]⟩
def F.BL_ACT_HI_ACT : Fld := ⟨0x28, 0x62, 31, 0⟩
/-- `BL_LOCK_LO` (BL page, 09). -/
def rBL_LOCK_LO : RegRow := ⟨"BL_LOCK_LO", 0x63, 0x63, [
  .fld "LOCK" 31 0 .ro 0 .any]⟩
def F.BL_LOCK_LO_LOCK : Fld := ⟨0x28, 0x63, 31, 0⟩
/-- `BL_LOCK_HI` (BL page, 09). -/
def rBL_LOCK_HI : RegRow := ⟨"BL_LOCK_HI", 0x64, 0x64, [
  .fld "LOCK" 31 0 .ro 0 .any]⟩
def F.BL_LOCK_HI_LOCK : Fld := ⟨0x28, 0x64, 31, 0⟩
/-- `BL_PWR` (BL page, 09). -/
def rBL_PWR : RegRow := ⟨"BL_PWR", 0x65, 0x65, [
  .rsv 31 16,
  .fld "PSW" 15 0 .ro 0 .any]⟩
def F.BL_PWR_PSW : Fld := ⟨0x28, 0x65, 15, 0⟩
/-- `BL_LRN` (BL page, 09). -/
def rBL_LRN : RegRow := ⟨"BL_LRN", 0x66, 0x66, [
  .fld "REPEATS" 31 16 .ro 0 .any,
  .rsv 15 10,
  .fld "PASS" 9 8 .ro 0 .any,
  .fld "CELL" 7 2 .ro 0 .any,
  .fld "STATE" 1 0 .ro 0 .any]⟩
def F.BL_LRN_REPEATS : Fld := ⟨0x28, 0x66, 31, 16⟩
def F.BL_LRN_PASS : Fld := ⟨0x28, 0x66, 9, 8⟩
def F.BL_LRN_CELL : Fld := ⟨0x28, 0x66, 7, 2⟩
def F.BL_LRN_STATE : Fld := ⟨0x28, 0x66, 1, 0⟩
/-- `BL_RTAP` (BL page, 09). -/
def rBL_RTAP : RegRow := ⟨"BL_RTAP", 0x68, 0x88, [
  .fld "ODD" 31 16 .ro 0 .any,
  .fld "EVEN" 15 0 .ro 0 .any]⟩
def F.BL_RTAP_ODD : Fld := ⟨0x28, 0x68, 31, 16⟩
def F.BL_RTAP_EVEN : Fld := ⟨0x28, 0x68, 15, 0⟩
/-- `BL_RTEMP` (BL page, 09). -/
def rBL_RTEMP : RegRow := ⟨"BL_RTEMP", 0x89, 0x89, [
  .rsv 31 16,
  .fld "T" 15 0 .ro 0 .any]⟩
def F.BL_RTEMP_T : Fld := ⟨0x28, 0x89, 15, 0⟩
/-- `BL_IBAL` (BL page, 09). -/
def rBL_IBAL : RegRow := ⟨"BL_IBAL", 0x90, 0xAF, [
  .fld "ODD" 31 16 .ro 0 .any,
  .fld "EVEN" 15 0 .ro 0 .any]⟩
def F.BL_IBAL_ODD : Fld := ⟨0x28, 0x90, 31, 16⟩
def F.BL_IBAL_EVEN : Fld := ⟨0x28, 0x90, 15, 0⟩
/-- `BL_QBAL` (BL page, 09). -/
def rBL_QBAL : RegRow := ⟨"BL_QBAL", 0xB0, 0xCF, [
  .fld "ODD" 31 16 .ro 0 .any,
  .fld "EVEN" 15 0 .ro 0 .any]⟩
def F.BL_QBAL_ODD : Fld := ⟨0x28, 0xB0, 31, 16⟩
def F.BL_QBAL_EVEN : Fld := ⟨0x28, 0xB0, 15, 0⟩
/-- `BL_LEARN` (BL page, 09). -/
def rBL_LEARN : RegRow := ⟨"BL_LEARN", 0xE0, 0xE0, [
  .fld "CMD" 31 0 .wo 0 .any]⟩
def F.BL_LEARN_CMD : Fld := ⟨0x28, 0xE0, 31, 0⟩
/-- `BL_REQ_LO` (BL page, 09). -/
def rBL_REQ_LO : RegRow := ⟨"BL_REQ_LO", 0xE1, 0xE1, [
  .fld "REQ" 31 0 .rw 0 .any]⟩
def F.BL_REQ_LO_REQ : Fld := ⟨0x28, 0xE1, 31, 0⟩
/-- `BL_REQ_HI` (BL page, 09). -/
def rBL_REQ_HI : RegRow := ⟨"BL_REQ_HI", 0xE2, 0xE2, [
  .fld "REQ" 31 0 .rw 0 .any]⟩
def F.BL_REQ_HI_REQ : Fld := ⟨0x28, 0xE2, 31, 0⟩
/-- `BL_SWCLR` (BL page, 09). -/
def rBL_SWCLR : RegRow := ⟨"BL_SWCLR", 0xE3, 0xE3, [
  .rsv 31 7,
  .fld "CELL" 6 0 .wo 0 .any]⟩
def F.BL_SWCLR_CELL : Fld := ⟨0x28, 0xE3, 6, 0⟩
/-- The words of a BL page. -/
def regsBL : List RegRow := [
  rBL_PSTAT, rBL_IFLAG, rBL_CFG, rBL_AUTO, rBL_VMIN, rBL_RBAL,
  rBL_RDEF, rBL_SHIFTMAX, rBL_STAT, rBL_ACT_LO, rBL_ACT_HI, rBL_LOCK_LO,
  rBL_LOCK_HI, rBL_PWR, rBL_LRN, rBL_RTAP, rBL_RTEMP, rBL_IBAL,
  rBL_QBAL, rBL_LEARN, rBL_REQ_LO, rBL_REQ_HI, rBL_SWCLR]

/-! ### MOT -/
/-- `MOT_IFLAG` (MOT page, 18). -/
def rMOT_IFLAG : RegRow := ⟨"MOT_IFLAG", 0x03, 0x03, [
  .rsv 31 18,
  .fld "MATED" 17 17 .w1c 0 .any,
  .fld "HATCH" 16 16 .w1c 0 .any,
  .rsv 15 14,
  .fld "STOPPED" 13 8 .w1c 0 .any,
  .rsv 7 6,
  .fld "DONE" 5 0 .w1c 0 .any]⟩
def F.MOT_IFLAG_MATED : Fld := ⟨0x40, 0x03, 17, 17⟩
def F.MOT_IFLAG_HATCH : Fld := ⟨0x40, 0x03, 16, 16⟩
def F.MOT_IFLAG_STOPPED : Fld := ⟨0x40, 0x03, 13, 8⟩
def F.MOT_IFLAG_DONE : Fld := ⟨0x40, 0x03, 5, 0⟩
/-- `MOT_GROUP` (MOT page, 18). -/
def rMOT_GROUP : RegRow := ⟨"MOT_GROUP", 0x08, 0x08, [
  .rsv 31 12,
  .fld "GRP" 11 0 .rws 0 .any]⟩
def F.MOT_GROUP_GRP : Fld := ⟨0x40, 0x08, 11, 0⟩
/-- `MOT_ROLE` (MOT page, 18). -/
def rMOT_ROLE : RegRow := ⟨"MOT_ROLE", 0x09, 0x09, [
  .rsv 31 16,
  .fld "E1DIR" 15 15 .rws 0 .any,
  .fld "E1AX" 14 12 .rws 7 (.enum [0, 1, 2, 3, 4, 5, 7]),
  .fld "E0DIR" 11 11 .rws 0 .any,
  .fld "E0AX" 10 8 .rws 0 (.enum [0, 1, 2, 3, 4, 5, 7]),
  .rsv 7 7,
  .fld "LOCK" 6 4 .rws 3 (.enum [0, 1, 2, 3, 4, 5, 7]),
  .rsv 3 3,
  .fld "HATCH" 2 0 .rws 0 (.enum [0, 1, 2, 3, 4, 5, 7])]⟩
def F.MOT_ROLE_E1DIR : Fld := ⟨0x40, 0x09, 15, 15⟩
def F.MOT_ROLE_E1AX : Fld := ⟨0x40, 0x09, 14, 12⟩
def F.MOT_ROLE_E0DIR : Fld := ⟨0x40, 0x09, 11, 11⟩
def F.MOT_ROLE_E0AX : Fld := ⟨0x40, 0x09, 10, 8⟩
def F.MOT_ROLE_LOCK : Fld := ⟨0x40, 0x09, 6, 4⟩
def F.MOT_ROLE_HATCH : Fld := ⟨0x40, 0x09, 2, 0⟩
/-- `MOT_STAT` (MOT page, 18). -/
def rMOT_STAT : RegRow := ⟨"MOT_STAT", 0x60, 0x60, [
  .rsv 31 21,
  .fld "SAFESTOP" 20 20 .ro 0 .any,
  .fld "THROTTLE" 19 19 .ro 0 .any,
  .fld "MATED" 18 18 .ro 0 .any,
  .fld "LOCKED" 17 17 .ro 0 .any,
  .fld "HATCH_CL" 16 16 .ro 0 .any,
  .rsv 15 14,
  .fld "HOMED" 13 8 .ro 0 .any,
  .rsv 7 6,
  .fld "MOVING" 5 0 .ro 0 .any]⟩
def F.MOT_STAT_SAFESTOP : Fld := ⟨0x40, 0x60, 20, 20⟩
def F.MOT_STAT_THROTTLE : Fld := ⟨0x40, 0x60, 19, 19⟩
def F.MOT_STAT_MATED : Fld := ⟨0x40, 0x60, 18, 18⟩
def F.MOT_STAT_LOCKED : Fld := ⟨0x40, 0x60, 17, 17⟩
def F.MOT_STAT_HATCH_CL : Fld := ⟨0x40, 0x60, 16, 16⟩
def F.MOT_STAT_HOMED : Fld := ⟨0x40, 0x60, 13, 8⟩
def F.MOT_STAT_MOVING : Fld := ⟨0x40, 0x60, 5, 0⟩
/-- `MOT_CMD` (MOT page, 18). -/
def rMOT_CMD : RegRow := ⟨"MOT_CMD", 0xE0, 0xE0, [
  .fld "OP" 31 28 .wo 0 .any,
  .rsv 27 2,
  .fld "GROUP" 1 0 .wo 0 .any]⟩
def F.MOT_CMD_OP : Fld := ⟨0x40, 0xE0, 31, 28⟩
def F.MOT_CMD_GROUP : Fld := ⟨0x40, 0xE0, 1, 0⟩
/-- The words of a MOT page. -/
def regsMOT : List RegRow := [
  rMOT_IFLAG, rMOT_GROUP, rMOT_ROLE, rMOT_STAT, rMOT_CMD]

/-! ### AX -/
/-- `AX_IFLAG` (AX page, 18). -/
def rAX_IFLAG : RegRow := ⟨"AX_IFLAG", 0x03, 0x03, [
  .rsv 31 7,
  .fld "HOMED" 6 6 .w1c 0 .any,
  .fld "LIMIT" 5 5 .w1c 0 .any,
  .fld "FAULT" 4 4 .w1c 0 .any,
  .fld "EDGE" 3 3 .w1c 0 .any,
  .fld "OBST" 2 2 .w1c 0 .any,
  .fld "STALL" 1 1 .w1c 0 .any,
  .fld "DONE" 0 0 .w1c 0 .any]⟩
def F.AX_IFLAG_HOMED : Fld := ⟨0x41, 0x03, 6, 6⟩
def F.AX_IFLAG_LIMIT : Fld := ⟨0x41, 0x03, 5, 5⟩
def F.AX_IFLAG_FAULT : Fld := ⟨0x41, 0x03, 4, 4⟩
def F.AX_IFLAG_EDGE : Fld := ⟨0x41, 0x03, 3, 3⟩
def F.AX_IFLAG_OBST : Fld := ⟨0x41, 0x03, 2, 2⟩
def F.AX_IFLAG_STALL : Fld := ⟨0x41, 0x03, 1, 1⟩
def F.AX_IFLAG_DONE : Fld := ⟨0x41, 0x03, 0, 0⟩
/-- `AX_CFG` (AX page, 18). -/
def rAX_CFG : RegRow := ⟨"AX_CFG", 0x08, 0x08, [
  .rsv 31 16,
  .fld "TYPE" 15 14 .rws 0 (.enum [0, 1]),
  .fld "BRK" 13 12 .rws 0 (.enum [0, 1, 2]),
  .fld "NSW" 11 10 .rws 0 (.enum [0, 1, 2]),
  .fld "LIMDIR" 9 8 .rws 0 (.enum [0, 1, 2]),
  .fld "STBY" 7 6 .rws 2 (.enum [0, 1, 2]),
  .fld "DIR" 5 5 .rws 0 .any,
  .fld "ENC" 4 4 .rws 0 .any,
  .fld "MSTEP" 3 0 .rws 8 (.range 0 8 1)]⟩
def F.AX_CFG_TYPE : Fld := ⟨0x41, 0x08, 15, 14⟩
def F.AX_CFG_BRK : Fld := ⟨0x41, 0x08, 13, 12⟩
def F.AX_CFG_NSW : Fld := ⟨0x41, 0x08, 11, 10⟩
def F.AX_CFG_LIMDIR : Fld := ⟨0x41, 0x08, 9, 8⟩
def F.AX_CFG_STBY : Fld := ⟨0x41, 0x08, 7, 6⟩
def F.AX_CFG_DIR : Fld := ⟨0x41, 0x08, 5, 5⟩
def F.AX_CFG_ENC : Fld := ⟨0x41, 0x08, 4, 4⟩
def F.AX_CFG_MSTEP : Fld := ⟨0x41, 0x08, 3, 0⟩
/-- `AX_MOTOR` (AX page, 18). -/
def rAX_MOTOR : RegRow := ⟨"AX_MOTOR", 0x09, 0x09, [
  .fld "CPR" 31 16 .rws 4000 (.range 4 65535 1),
  .rsv 15 8,
  .fld "POLES" 7 0 .rws 50 (.range 1 100 1)]⟩
def F.AX_MOTOR_CPR : Fld := ⟨0x41, 0x09, 31, 16⟩
def F.AX_MOTOR_POLES : Fld := ⟨0x41, 0x09, 7, 0⟩
/-- `AX_CURR` (AX page, 18). -/
def rAX_CURR : RegRow := ⟨"AX_CURR", 0x0A, 0x0A, [
  .fld "IHOLD" 31 16 .rws 300 (.range 0 30000 1),
  .fld "IRUN" 15 0 .rws 1000 (.range 10 30000 1)]⟩
def F.AX_CURR_IHOLD : Fld := ⟨0x41, 0x0A, 31, 16⟩
def F.AX_CURR_IRUN : Fld := ⟨0x41, 0x0A, 15, 0⟩
/-- `AX_VMAX` (AX page, 18). -/
def rAX_VMAX : RegRow := ⟨"AX_VMAX", 0x0B, 0x0B, [
  .fld "VAL" 31 0 .rws 10000 (.range 1 2000000000 1)]⟩
def F.AX_VMAX_VAL : Fld := ⟨0x41, 0x0B, 31, 0⟩
/-- `AX_AMAX` (AX page, 18). -/
def rAX_AMAX : RegRow := ⟨"AX_AMAX", 0x0C, 0x0C, [
  .fld "VAL" 31 0 .rws 50000 (.range 1 2000000000 1)]⟩
def F.AX_AMAX_VAL : Fld := ⟨0x41, 0x0C, 31, 0⟩
/-- `AX_DMAX` (AX page, 18). -/
def rAX_DMAX : RegRow := ⟨"AX_DMAX", 0x0D, 0x0D, [
  .fld "VAL" 31 0 .rws 50000 (.range 1 2000000000 1)]⟩
def F.AX_DMAX_VAL : Fld := ⟨0x41, 0x0D, 31, 0⟩
/-- `AX_JMAX` (AX page, 18). -/
def rAX_JMAX : RegRow := ⟨"AX_JMAX", 0x0E, 0x0E, [
  .fld "VAL" 31 0 .rws 1000000 (.range 1 2000000000 1)]⟩
def F.AX_JMAX_VAL : Fld := ⟨0x41, 0x0E, 31, 0⟩
/-- `AX_DSTOP` (AX page, 18). -/
def rAX_DSTOP : RegRow := ⟨"AX_DSTOP", 0x0F, 0x0F, [
  .fld "VAL" 31 0 .rws 200000 (.range 1 2000000000 1)]⟩
def F.AX_DSTOP_VAL : Fld := ⟨0x41, 0x0F, 31, 0⟩
/-- `AX_SOFTLO` (AX page, 18). -/
def rAX_SOFTLO : RegRow := ⟨"AX_SOFTLO", 0x10, 0x10, [
  .fld "POS" 31 0 .rws 2147483648 .any]⟩
def F.AX_SOFTLO_POS : Fld := ⟨0x41, 0x10, 31, 0⟩
/-- `AX_SOFTHI` (AX page, 18). -/
def rAX_SOFTHI : RegRow := ⟨"AX_SOFTHI", 0x11, 0x11, [
  .fld "POS" 31 0 .rws 2147483647 .any]⟩
def F.AX_SOFTHI_POS : Fld := ⟨0x41, 0x11, 31, 0⟩
/-- `AX_HOME` (AX page, 18). -/
def rAX_HOME : RegRow := ⟨"AX_HOME", 0x12, 0x12, [
  .rsv 31 3,
  .fld "METHOD" 2 0 .rws 0 (.range 0 5 1)]⟩
def F.AX_HOME_METHOD : Fld := ⟨0x41, 0x12, 2, 0⟩
/-- `AX_HOMEV` (AX page, 18). -/
def rAX_HOMEV : RegRow := ⟨"AX_HOMEV", 0x13, 0x13, [
  .fld "VAL" 31 0 .rws 2000 (.range 8 2000000000 1)]⟩
def F.AX_HOMEV_VAL : Fld := ⟨0x41, 0x13, 31, 0⟩
/-- `AX_HOMEOFS` (AX page, 18). -/
def rAX_HOMEOFS : RegRow := ⟨"AX_HOMEOFS", 0x14, 0x14, [
  .fld "VAL" 31 0 .rws 0 .any]⟩
def F.AX_HOMEOFS_VAL : Fld := ⟨0x41, 0x14, 31, 0⟩
/-- `AX_STALL` (AX page, 18). -/
def rAX_STALL : RegRow := ⟨"AX_STALL", 0x15, 0x15, [
  .fld "CONF" 31 24 .rws 8 (.range 1 64 1),
  .fld "ANGLE" 23 16 .rws 120 (.range 30 170 1),
  .fld "VMIN" 15 0 .rws 20 (.range 1 10000 1)]⟩
def F.AX_STALL_CONF : Fld := ⟨0x41, 0x15, 31, 24⟩
def F.AX_STALL_ANGLE : Fld := ⟨0x41, 0x15, 23, 16⟩
def F.AX_STALL_VMIN : Fld := ⟨0x41, 0x15, 15, 0⟩
/-- `AX_ENV` (AX page, 18). -/
def rAX_ENV : RegRow := ⟨"AX_ENV", 0x16, 0x16, [
  .fld "EN" 31 31 .rws 0 .any,
  .rsv 30 24,
  .fld "MARGIN" 23 16 .rws 30 (.range 5 200 1),
  .fld "CONF" 15 8 .rws 8 (.range 1 64 1),
  .rsv 7 0]⟩
def F.AX_ENV_EN : Fld := ⟨0x41, 0x16, 31, 31⟩
def F.AX_ENV_MARGIN : Fld := ⟨0x41, 0x16, 23, 16⟩
def F.AX_ENV_CONF : Fld := ⟨0x41, 0x16, 15, 8⟩
/-- `AX_NPOS` (AX page, 18). -/
def rAX_NPOS : RegRow := ⟨"AX_NPOS", 0x17, 0x17, [
  .fld "POS" 31 0 .rws 0 .any]⟩
def F.AX_NPOS_POS : Fld := ⟨0x41, 0x17, 31, 0⟩
/-- `AX_NWIN` (AX page, 18). -/
def rAX_NWIN : RegRow := ⟨"AX_NWIN", 0x18, 0x18, [
  .fld "SETTLE" 31 16 .rws 8 (.range 1 65535 1),
  .fld "NWIN" 15 0 .rws 64 (.range 1 65535 1)]⟩
def F.AX_NWIN_SETTLE : Fld := ⟨0x41, 0x18, 31, 16⟩
def F.AX_NWIN_NWIN : Fld := ⟨0x41, 0x18, 15, 0⟩
/-- `AX_FERR` (AX page, 18). -/
def rAX_FERR : RegRow := ⟨"AX_FERR", 0x19, 0x19, [
  .fld "UNITS" 31 0 .rws 1000 (.range 1 2000000000 1)]⟩
def F.AX_FERR_UNITS : Fld := ⟨0x41, 0x19, 31, 0⟩
/-- `AX_TIMES` (AX page, 18). -/
def rAX_TIMES : RegRow := ⟨"AX_TIMES", 0x1A, 0x1A, [
  .fld "STBYDLY" 31 16 .rws 500 (.range 0 60000 1),
  .fld "BRKT" 15 0 .rws 200 (.range 10 2000 1)]⟩
def F.AX_TIMES_STBYDLY : Fld := ⟨0x41, 0x1A, 31, 16⟩
def F.AX_TIMES_BRKT : Fld := ⟨0x41, 0x1A, 15, 0⟩
/-- `AX_STAT` (AX page, 18). -/
def rAX_STAT : RegRow := ⟨"AX_STAT", 0x60, 0x60, [
  .rsv 31 28,
  .fld "OUT" 27 24 .ro 15 .any,
  .rsv 23 19,
  .fld "EDGE" 18 18 .ro 0 .any,
  .fld "LIM" 17 17 .ro 0 .any,
  .fld "HOME" 16 16 .ro 0 .any,
  .rsv 15 8,
  .fld "ATNPOS" 7 7 .ro 0 .any,
  .fld "HOMED" 6 6 .ro 0 .any,
  .rsv 5 4,
  .fld "STATE" 3 0 .ro 0 .any]⟩
def F.AX_STAT_OUT : Fld := ⟨0x41, 0x60, 27, 24⟩
def F.AX_STAT_EDGE : Fld := ⟨0x41, 0x60, 18, 18⟩
def F.AX_STAT_LIM : Fld := ⟨0x41, 0x60, 17, 17⟩
def F.AX_STAT_HOME : Fld := ⟨0x41, 0x60, 16, 16⟩
def F.AX_STAT_ATNPOS : Fld := ⟨0x41, 0x60, 7, 7⟩
def F.AX_STAT_HOMED : Fld := ⟨0x41, 0x60, 6, 6⟩
def F.AX_STAT_STATE : Fld := ⟨0x41, 0x60, 3, 0⟩
/-- `AX_POS` (AX page, 18). -/
def rAX_POS : RegRow := ⟨"AX_POS", 0x61, 0x61, [
  .fld "VAL" 31 0 .ro 0 .any]⟩
def F.AX_POS_VAL : Fld := ⟨0x41, 0x61, 31, 0⟩
/-- `AX_SETPT` (AX page, 18). -/
def rAX_SETPT : RegRow := ⟨"AX_SETPT", 0x62, 0x62, [
  .fld "VAL" 31 0 .ro 0 .any]⟩
def F.AX_SETPT_VAL : Fld := ⟨0x41, 0x62, 31, 0⟩
/-- `AX_VEL` (AX page, 18). -/
def rAX_VEL : RegRow := ⟨"AX_VEL", 0x63, 0x63, [
  .fld "VAL" 31 0 .ro 0 .any]⟩
def F.AX_VEL_VAL : Fld := ⟨0x41, 0x63, 31, 0⟩
/-- `AX_FERRNOW` (AX page, 18). -/
def rAX_FERRNOW : RegRow := ⟨"AX_FERRNOW", 0x65, 0x65, [
  .fld "VAL" 31 0 .ro 0 .any]⟩
def F.AX_FERRNOW_VAL : Fld := ⟨0x41, 0x65, 31, 0⟩
/-- `AX_LOAD` (AX page, 18). -/
def rAX_LOAD : RegRow := ⟨"AX_LOAD", 0x64, 0x64, [
  .fld "LANGLE" 31 24 .ro 255 .any,
  .fld "ENVPCT" 23 16 .ro 255 .any,
  .fld "IPH" 15 0 .ro 0 .any]⟩
def F.AX_LOAD_LANGLE : Fld := ⟨0x41, 0x64, 31, 24⟩
def F.AX_LOAD_ENVPCT : Fld := ⟨0x41, 0x64, 23, 16⟩
def F.AX_LOAD_IPH : Fld := ⟨0x41, 0x64, 15, 0⟩
/-- `AX_CMD` (AX page, 18). -/
def rAX_CMD : RegRow := ⟨"AX_CMD", 0xE0, 0xE0, [
  .fld "CMD" 31 0 .wo 0 .any]⟩
def F.AX_CMD_CMD : Fld := ⟨0x41, 0xE0, 31, 0⟩
/-- `AX_TARGET` (AX page, 18). -/
def rAX_TARGET : RegRow := ⟨"AX_TARGET", 0xE1, 0xE1, [
  .fld "POS" 31 0 .rw 0 .any]⟩
def F.AX_TARGET_POS : Fld := ⟨0x41, 0xE1, 31, 0⟩
/-- The words of a AX page. -/
def regsAX : List RegRow := [
  rAX_IFLAG, rAX_CFG, rAX_MOTOR, rAX_CURR, rAX_VMAX, rAX_AMAX,
  rAX_DMAX, rAX_JMAX, rAX_DSTOP, rAX_SOFTLO, rAX_SOFTHI, rAX_HOME,
  rAX_HOMEV, rAX_HOMEOFS, rAX_STALL, rAX_ENV, rAX_NPOS, rAX_NWIN,
  rAX_FERR, rAX_TIMES, rAX_STAT, rAX_POS, rAX_SETPT, rAX_VEL,
  rAX_FERRNOW, rAX_LOAD, rAX_CMD, rAX_TARGET]

/-! ### GDR -/
/-- `GDR_IFLAG` (GDR page, 19). -/
def rGDR_IFLAG : RegRow := ⟨"GDR_IFLAG", 0x03, 0x03, [
  .rsv 31 6,
  .fld "LINKLOST" 5 5 .w1c 0 .any,
  .fld "LINKERR" 4 4 .w1c 0 .any,
  .fld "VGGUV" 3 3 .w1c 0 .any,
  .fld "VMHARD" 2 2 .w1c 0 .any,
  .fld "CHOPLONG" 1 1 .w1c 0 .any,
  .fld "CHOPON" 0 0 .w1c 0 .any]⟩
def F.GDR_IFLAG_LINKLOST : Fld := ⟨0x48, 0x03, 5, 5⟩
def F.GDR_IFLAG_LINKERR : Fld := ⟨0x48, 0x03, 4, 4⟩
def F.GDR_IFLAG_VGGUV : Fld := ⟨0x48, 0x03, 3, 3⟩
def F.GDR_IFLAG_VMHARD : Fld := ⟨0x48, 0x03, 2, 2⟩
def F.GDR_IFLAG_CHOPLONG : Fld := ⟨0x48, 0x03, 1, 1⟩
def F.GDR_IFLAG_CHOPON : Fld := ⟨0x48, 0x03, 0, 0⟩
/-- `GDR_PWM` (GDR page, 19). -/
def rGDR_PWM : RegRow := ⟨"GDR_PWM", 0x08, 0x08, [
  .rsv 31 9,
  .fld "STAGGER" 8 8 .rws 1 .any,
  .fld "FREQ" 7 0 .rws 32 (.range 20 48 4)]⟩
def F.GDR_PWM_STAGGER : Fld := ⟨0x48, 0x08, 8, 8⟩
def F.GDR_PWM_FREQ : Fld := ⟨0x48, 0x08, 7, 0⟩
/-- `GDR_VGG` (GDR page, 19). -/
def rGDR_VGG : RegRow := ⟨"GDR_VGG", 0x09, 0x09, [
  .rsv 31 3,
  .fld "SET" 2 0 .rws 2 (.enum [0, 1, 2, 3, 4])]⟩
def F.GDR_VGG_SET : Fld := ⟨0x48, 0x09, 2, 0⟩
/-- `GDR_BST` (GDR page, 19). -/
def rGDR_BST : RegRow := ⟨"GDR_BST", 0x0A, 0x0A, [
  .fld "PRECHG" 31 16 .rws 200 (.range 20 2000 1),
  .rsv 15 8,
  .fld "WARN" 7 0 .rws 85 (.range 80 100 1)]⟩
def F.GDR_BST_PRECHG : Fld := ⟨0x48, 0x0A, 31, 16⟩
def F.GDR_BST_WARN : Fld := ⟨0x48, 0x0A, 7, 0⟩
/-- `GDR_CHOP` (GDR page, 19). -/
def rGDR_CHOP : RegRow := ⟨"GDR_CHOP", 0x0B, 0x0B, [
  .fld "VON" 31 16 .rws 560 (.range 130 600 1),
  .fld "VOFF" 15 0 .rws 540 (.range 120 590 1)]⟩
def F.GDR_CHOP_VON : Fld := ⟨0x48, 0x0B, 31, 16⟩
def F.GDR_CHOP_VOFF : Fld := ⟨0x48, 0x0B, 15, 0⟩
/-- `GDR_CHOPT` (GDR page, 19). -/
def rGDR_CHOPT : RegRow := ⟨"GDR_CHOPT", 0x0C, 0x0C, [
  .rsv 31 16,
  .fld "MAXON" 15 0 .rws 500 (.range 1 10000 1)]⟩
def F.GDR_CHOPT_MAXON : Fld := ⟨0x48, 0x0C, 15, 0⟩
/-- `GDR_STAT` (GDR page, 19). -/
def rGDR_STAT : RegRow := ⟨"GDR_STAT", 0x60, 0x60, [
  .fld "VGG" 31 16 .ro 0 .any,
  .rsv 15 4,
  .fld "LINKLOST" 3 3 .ro 0 .any,
  .fld "VMHARD" 2 2 .ro 0 .any,
  .fld "VGG_OK" 1 1 .ro 0 .any,
  .fld "CHOP" 0 0 .ro 0 .any]⟩
def F.GDR_STAT_VGG : Fld := ⟨0x48, 0x60, 31, 16⟩
def F.GDR_STAT_LINKLOST : Fld := ⟨0x48, 0x60, 3, 3⟩
def F.GDR_STAT_VMHARD : Fld := ⟨0x48, 0x60, 2, 2⟩
def F.GDR_STAT_VGG_OK : Fld := ⟨0x48, 0x60, 1, 1⟩
def F.GDR_STAT_CHOP : Fld := ⟨0x48, 0x60, 0, 0⟩
/-- `GDR_CHOPCNT` (GDR page, 19). -/
def rGDR_CHOPCNT : RegRow := ⟨"GDR_CHOPCNT", 0x61, 0x61, [
  .fld "EVENTS" 31 16 .ro 0 .any,
  .fld "ONMS" 15 0 .ro 0 .any]⟩
def F.GDR_CHOPCNT_EVENTS : Fld := ⟨0x48, 0x61, 31, 16⟩
def F.GDR_CHOPCNT_ONMS : Fld := ⟨0x48, 0x61, 15, 0⟩
/-- `GDR_LINK` (GDR page, 19). -/
def rGDR_LINK : RegRow := ⟨"GDR_LINK", 0x62, 0x62, [
  .fld "RETRY" 31 16 .rc 0 .any,
  .fld "MISS" 15 0 .rc 0 .any]⟩
def F.GDR_LINK_RETRY : Fld := ⟨0x48, 0x62, 31, 16⟩
def F.GDR_LINK_MISS : Fld := ⟨0x48, 0x62, 15, 0⟩
/-- The words of a GDR page. -/
def regsGDR : List RegRow := [
  rGDR_IFLAG, rGDR_PWM, rGDR_VGG, rGDR_BST, rGDR_CHOP, rGDR_CHOPT,
  rGDR_STAT, rGDR_CHOPCNT, rGDR_LINK]

/-! ### GD -/
/-- `GD_IFLAG` (GD page, 19). -/
def rGD_IFLAG : RegRow := ⟨"GD_IFLAG", 0x03, 0x03, [
  .rsv 31 9,
  .fld "QUAL" 8 8 .w1c 0 .any,
  .fld "QUALFAIL" 7 7 .w1c 0 .any,
  .fld "TESTDONE" 6 6 .w1c 0 .any,
  .fld "TESTFAIL" 5 5 .w1c 0 .any,
  .fld "SLOW" 4 4 .w1c 0 .any,
  .fld "BSTREF" 3 3 .w1c 0 .any,
  .fld "BSTUV" 2 2 .w1c 0 .any,
  .fld "HSTO" 1 1 .w1c 0 .any,
  .fld "SC" 0 0 .w1c 0 .any]⟩
def F.GD_IFLAG_QUAL : Fld := ⟨0x49, 0x03, 8, 8⟩
def F.GD_IFLAG_QUALFAIL : Fld := ⟨0x49, 0x03, 7, 7⟩
def F.GD_IFLAG_TESTDONE : Fld := ⟨0x49, 0x03, 6, 6⟩
def F.GD_IFLAG_TESTFAIL : Fld := ⟨0x49, 0x03, 5, 5⟩
def F.GD_IFLAG_SLOW : Fld := ⟨0x49, 0x03, 4, 4⟩
def F.GD_IFLAG_BSTREF : Fld := ⟨0x49, 0x03, 3, 3⟩
def F.GD_IFLAG_BSTUV : Fld := ⟨0x49, 0x03, 2, 2⟩
def F.GD_IFLAG_HSTO : Fld := ⟨0x49, 0x03, 1, 1⟩
def F.GD_IFLAG_SC : Fld := ⟨0x49, 0x03, 0, 0⟩
/-- `GD_DT` (GD page, 19). -/
def rGD_DT : RegRow := ⟨"GD_DT", 0x08, 0x08, [
  .rsv 31 9,
  .fld "SCHEME" 8 8 .rws 0 .any,
  .rsv 7 6,
  .fld "T" 5 0 .rws 6 (.range 1 32 1)]⟩
def F.GD_DT_SCHEME : Fld := ⟨0x49, 0x08, 8, 8⟩
def F.GD_DT_T : Fld := ⟨0x49, 0x08, 5, 0⟩
/-- `GD_SW` (GD page, 19). -/
def rGD_SW : RegRow := ⟨"GD_SW", 0x09, 0x09, [
  .rsv 31 25,
  .fld "ADAPT" 24 24 .rws 1 .any,
  .fld "STRMAX" 23 20 .rws 15 .any,
  .fld "STRMIN" 19 16 .rws 0 .any,
  .rsv 15 9,
  .fld "TSW" 8 0 .rws 100 (.range 20 500 10)]⟩
def F.GD_SW_ADAPT : Fld := ⟨0x49, 0x09, 24, 24⟩
def F.GD_SW_STRMAX : Fld := ⟨0x49, 0x09, 23, 20⟩
def F.GD_SW_STRMIN : Fld := ⟨0x49, 0x09, 19, 16⟩
def F.GD_SW_TSW : Fld := ⟨0x49, 0x09, 8, 0⟩
/-- `GD_SC` (GD page, 19). -/
def rGD_SC : RegRow := ⟨"GD_SC", 0x0A, 0x0A, [
  .rsv 31 24,
  .fld "BLANK" 23 16 .rws 10 (.range 4 40 1),
  .fld "THR" 15 0 .rws 500 (.range 50 2000 1)]⟩
def F.GD_SC_BLANK : Fld := ⟨0x49, 0x0A, 23, 16⟩
def F.GD_SC_THR : Fld := ⟨0x49, 0x0A, 15, 0⟩
/-- `GD_SENSE` (GD page, 19). -/
def rGD_SENSE : RegRow := ⟨"GD_SENSE", 0x0B, 0x0B, [
  .rsv 31 16,
  .fld "GAIN" 15 0 .rws 20 (.range 1 1000 1)]⟩
def F.GD_SENSE_GAIN : Fld := ⟨0x49, 0x0B, 15, 0⟩
/-- `GD_STAT` (GD page, 19). -/
def rGD_STAT : RegRow := ⟨"GD_STAT", 0x60, 0x60, [
  .rsv 31 28,
  .fld "CAUSE" 27 24 .ro 0 .any,
  .rsv 23 20,
  .fld "REFRESH" 19 16 .ro 0 .any,
  .fld "SCHB" 15 8 .ro 0 .any,
  .rsv 7 4,
  .fld "STATE" 3 0 .ro 0 .any]⟩
def F.GD_STAT_CAUSE : Fld := ⟨0x49, 0x60, 27, 24⟩
def F.GD_STAT_REFRESH : Fld := ⟨0x49, 0x60, 19, 16⟩
def F.GD_STAT_SCHB : Fld := ⟨0x49, 0x60, 15, 8⟩
def F.GD_STAT_STATE : Fld := ⟨0x49, 0x60, 3, 0⟩
/-- `GD_STR` (GD page, 19). -/
def rGD_STR : RegRow := ⟨"GD_STR", 0x61, 0x61, [
  .rsv 31 24,
  .fld "LIMIT" 23 16 .ro 0 .any,
  .fld "STEP" 15 0 .ro 0 .any]⟩
def F.GD_STR_LIMIT : Fld := ⟨0x49, 0x61, 23, 16⟩
def F.GD_STR_STEP : Fld := ⟨0x49, 0x61, 15, 0⟩
/-- `GD_TSW` (GD page, 19). -/
def rGD_TSW : RegRow := ⟨"GD_TSW", 0x62, 0x62, [
  .fld "TSW" 31 0 .ro 0 .any]⟩
def F.GD_TSW_TSW : Fld := ⟨0x49, 0x62, 31, 0⟩
/-- `GD_BSTV` (GD page, 19). -/
def rGD_BSTV : RegRow := ⟨"GD_BSTV", 0x63, 0x63, [
  .fld "V" 31 0 .ro 0 .any]⟩
def F.GD_BSTV_V : Fld := ⟨0x49, 0x63, 31, 0⟩
/-- `GD_SCTEST` (GD page, 19). -/
def rGD_SCTEST : RegRow := ⟨"GD_SCTEST", 0x64, 0x64, [
  .fld "TRIPS" 31 16 .ro 0 .any,
  .fld "FAIL" 15 8 .ro 0 .any,
  .fld "PASS" 7 0 .ro 0 .any]⟩
def F.GD_SCTEST_TRIPS : Fld := ⟨0x49, 0x64, 31, 16⟩
def F.GD_SCTEST_FAIL : Fld := ⟨0x49, 0x64, 15, 8⟩
def F.GD_SCTEST_PASS : Fld := ⟨0x49, 0x64, 7, 0⟩
/-- `GD_REFCNT` (GD page, 19). -/
def rGD_REFCNT : RegRow := ⟨"GD_REFCNT", 0x65, 0x65, [
  .fld "EPISODES" 31 16 .ro 0 .any,
  .fld "BSTUV" 15 0 .ro 0 .any]⟩
def F.GD_REFCNT_EPISODES : Fld := ⟨0x49, 0x65, 31, 16⟩
def F.GD_REFCNT_BSTUV : Fld := ⟨0x49, 0x65, 15, 0⟩
/-- `GD_CMD` (GD page, 19). -/
def rGD_CMD : RegRow := ⟨"GD_CMD", 0xE0, 0xE0, [
  .fld "CMD" 31 0 .wo 0 .any]⟩
def F.GD_CMD_CMD : Fld := ⟨0x49, 0xE0, 31, 0⟩
/-- `GD_LIVE` (GD page, 19). -/
def rGD_LIVE : RegRow := ⟨"GD_LIVE", 0xE1, 0xE1, [
  .fld "LIVE" 31 0 .ro 0 .any]⟩
def F.GD_LIVE_LIVE : Fld := ⟨0x49, 0xE1, 31, 0⟩
/-- `GD_GPULSE` (GD page, 19). -/
def rGD_GPULSE : RegRow := ⟨"GD_GPULSE", 0xE2, 0xE2, [
  .rsv 31 16,
  .fld "WIDTH" 15 8 .wo 0 .any,
  .rsv 7 3,
  .fld "HB" 2 1 .wo 0 .any,
  .fld "SIDE" 0 0 .wo 0 .any]⟩
def F.GD_GPULSE_WIDTH : Fld := ⟨0x49, 0xE2, 15, 8⟩
def F.GD_GPULSE_HB : Fld := ⟨0x49, 0xE2, 2, 1⟩
def F.GD_GPULSE_SIDE : Fld := ⟨0x49, 0xE2, 0, 0⟩
/-- `GD_GRES` (GD page, 19). -/
def rGD_GRES : RegRow := ⟨"GD_GRES", 0xE3, 0xE3, [
  .fld "VSW" 31 16 .ro 0 .any,
  .fld "VBST" 15 8 .ro 0 .any,
  .rsv 7 2,
  .fld "OUT" 1 0 .ro 0 .any]⟩
def F.GD_GRES_VSW : Fld := ⟨0x49, 0xE3, 31, 16⟩
def F.GD_GRES_VBST : Fld := ⟨0x49, 0xE3, 15, 8⟩
def F.GD_GRES_OUT : Fld := ⟨0x49, 0xE3, 1, 0⟩
/-- The words of a GD page. -/
def regsGD : List RegRow := [
  rGD_IFLAG, rGD_DT, rGD_SW, rGD_SC, rGD_SENSE, rGD_STAT,
  rGD_STR, rGD_TSW, rGD_BSTV, rGD_SCTEST, rGD_REFCNT, rGD_CMD,
  rGD_LIVE, rGD_GPULSE, rGD_GRES]

/-! ### LSW -/
/-- `LSW_PSTAT` (LSW page, 20). -/
def rLSW_PSTAT : RegRow := ⟨"LSW_PSTAT", 0x01, 0x01, [
  .rsv 31 18,
  .fld "ZONEHOT" 17 17 .ro 0 .any,
  .fld "ANYON" 16 16 .ro 0 .any,
  .rsv 15 0]⟩
def F.LSW_PSTAT_ZONEHOT : Fld := ⟨0x50, 0x01, 17, 17⟩
def F.LSW_PSTAT_ANYON : Fld := ⟨0x50, 0x01, 16, 16⟩
/-- `LSW_IFLAG` (LSW page, 20). -/
def rLSW_IFLAG : RegRow := ⟨"LSW_IFLAG", 0x03, 0x03, [
  .rsv 31 4,
  .fld "SENSOR" 3 3 .w1c 0 .any,
  .fld "SHED" 2 2 .w1c 0 .any,
  .fld "ZONE2" 1 1 .w1c 0 .any,
  .fld "ZONE" 0 0 .w1c 0 .any]⟩
def F.LSW_IFLAG_SENSOR : Fld := ⟨0x50, 0x03, 3, 3⟩
def F.LSW_IFLAG_SHED : Fld := ⟨0x50, 0x03, 2, 2⟩
def F.LSW_IFLAG_ZONE2 : Fld := ⟨0x50, 0x03, 1, 1⟩
def F.LSW_IFLAG_ZONE : Fld := ⟨0x50, 0x03, 0, 0⟩
/-- `LSW_CFG` (LSW page, 20). -/
def rLSW_CFG : RegRow := ⟨"LSW_CFG", 0x08, 0x08, [
  .fld "TRST" 31 16 .rws 1000 (.range 100 60000 1),
  .fld "TGOOD" 15 8 .rws 60 (.range 1 255 1),
  .rsv 7 0]⟩
def F.LSW_CFG_TRST : Fld := ⟨0x50, 0x08, 31, 16⟩
def F.LSW_CFG_TGOOD : Fld := ⟨0x50, 0x08, 15, 8⟩
/-- `LSW_ZT01` (LSW page, 20). -/
def rLSW_ZT01 : RegRow := ⟨"LSW_ZT01", 0x60, 0x60, [
  .fld "ODD" 31 16 .ro 0 .any,
  .fld "EVEN" 15 0 .ro 0 .any]⟩
def F.LSW_ZT01_ODD : Fld := ⟨0x50, 0x60, 31, 16⟩
def F.LSW_ZT01_EVEN : Fld := ⟨0x50, 0x60, 15, 0⟩
/-- `LSW_ZT23` (LSW page, 20). -/
def rLSW_ZT23 : RegRow := ⟨"LSW_ZT23", 0x61, 0x61, [
  .fld "ODD" 31 16 .ro 0 .any,
  .fld "EVEN" 15 0 .ro 0 .any]⟩
def F.LSW_ZT23_ODD : Fld := ⟨0x50, 0x61, 31, 16⟩
def F.LSW_ZT23_EVEN : Fld := ⟨0x50, 0x61, 15, 0⟩
/-- `LSW_ZT45` (LSW page, 20). -/
def rLSW_ZT45 : RegRow := ⟨"LSW_ZT45", 0x62, 0x62, [
  .fld "ODD" 31 16 .ro 0 .any,
  .fld "EVEN" 15 0 .ro 0 .any]⟩
def F.LSW_ZT45_ODD : Fld := ⟨0x50, 0x62, 31, 16⟩
def F.LSW_ZT45_EVEN : Fld := ⟨0x50, 0x62, 15, 0⟩
/-- `LSW_ZT67` (LSW page, 20). -/
def rLSW_ZT67 : RegRow := ⟨"LSW_ZT67", 0x63, 0x63, [
  .fld "ODD" 31 16 .ro 0 .any,
  .fld "EVEN" 15 0 .ro 0 .any]⟩
def F.LSW_ZT67_ODD : Fld := ⟨0x50, 0x63, 31, 16⟩
def F.LSW_ZT67_EVEN : Fld := ⟨0x50, 0x63, 15, 0⟩
/-- `LSW_ZSTAT` (LSW page, 20). -/
def rLSW_ZSTAT : RegRow := ⟨"LSW_ZSTAT", 0x64, 0x64, [
  .rsv 31 16,
  .fld "SENSOR" 15 8 .ro 0 .any,
  .fld "HOT" 7 0 .ro 0 .any]⟩
def F.LSW_ZSTAT_SENSOR : Fld := ⟨0x50, 0x64, 15, 8⟩
def F.LSW_ZSTAT_HOT : Fld := ⟨0x50, 0x64, 7, 0⟩
/-- `LSW_ITOT` (LSW page, 20). -/
def rLSW_ITOT : RegRow := ⟨"LSW_ITOT", 0x65, 0x65, [
  .rsv 31 16,
  .fld "MA" 15 0 .ro 0 .any]⟩
def F.LSW_ITOT_MA : Fld := ⟨0x50, 0x65, 15, 0⟩
/-- The words of a LSW page. -/
def regsLSW : List RegRow := [
  rLSW_PSTAT, rLSW_IFLAG, rLSW_CFG, rLSW_ZT01, rLSW_ZT23, rLSW_ZT45,
  rLSW_ZT67, rLSW_ZSTAT, rLSW_ITOT]

/-! ### LSA -/
/-- `LSA_PSTAT` (LSA page, 20). -/
def rLSA_PSTAT : RegRow := ⟨"LSA_PSTAT", 0x01, 0x01, [
  .fld "ON" 31 24 .ro 0 .any,
  .fld "LATCHED" 23 16 .ro 0 .any,
  .rsv 15 0]⟩
def F.LSA_PSTAT_ON : Fld := ⟨0x51, 0x01, 31, 24⟩
def F.LSA_PSTAT_LATCHED : Fld := ⟨0x51, 0x01, 23, 16⟩
/-- `LSA_IFLAG` (LSA page, 20). -/
def rLSA_IFLAG : RegRow := ⟨"LSA_IFLAG", 0x03, 0x03, [
  .rsv 31 24,
  .fld "OLCHG" 23 16 .w1c 0 .any,
  .fld "LATCH" 15 8 .w1c 0 .any,
  .fld "FAULT" 7 0 .w1c 0 .any]⟩
def F.LSA_IFLAG_OLCHG : Fld := ⟨0x51, 0x03, 23, 16⟩
def F.LSA_IFLAG_LATCH : Fld := ⟨0x51, 0x03, 15, 8⟩
def F.LSA_IFLAG_FAULT : Fld := ⟨0x51, 0x03, 7, 0⟩
/-- `LSA_CH` (LSA page, 20). -/
def rLSA_CH : RegRow := ⟨"LSA_CH", 0x08, 0x0F, [
  .fld "OLEN" 31 31 .rws 0 .any,
  .fld "MODE" 30 30 .rws 0 .any,
  .rsv 29 28,
  .fld "RETRY" 27 24 .rws 3 .any,
  .fld "TINR" 23 16 .rws 20 (.range 1 100 1),
  .fld "TLIM" 15 8 .rws 10 (.range 1 100 1),
  .fld "ILIM" 7 0 .rws 25 (.range 10 80 1)]⟩
def F.LSA_CH_OLEN : Fld := ⟨0x51, 0x08, 31, 31⟩
def F.LSA_CH_MODE : Fld := ⟨0x51, 0x08, 30, 30⟩
def F.LSA_CH_RETRY : Fld := ⟨0x51, 0x08, 27, 24⟩
def F.LSA_CH_TINR : Fld := ⟨0x51, 0x08, 23, 16⟩
def F.LSA_CH_TLIM : Fld := ⟨0x51, 0x08, 15, 8⟩
def F.LSA_CH_ILIM : Fld := ⟨0x51, 0x08, 7, 0⟩
/-- `LSA_ST` (LSA page, 20). -/
def rLSA_ST : RegRow := ⟨"LSA_ST", 0x60, 0x67, [
  .fld "SEQ" 31 28 .ro 0 .any,
  .fld "STATE" 27 24 .ro 0 .any,
  .fld "LEFT" 23 20 .ro 0 .any,
  .fld "CAUSE" 19 16 .ro 0 .any,
  .fld "LIM" 15 15 .ro 0 .any,
  .fld "INR" 14 14 .ro 0 .any,
  .fld "OL" 13 13 .ro 0 .any,
  .rsv 12 12,
  .fld "I" 11 0 .ro 0 .any]⟩
def F.LSA_ST_SEQ : Fld := ⟨0x51, 0x60, 31, 28⟩
def F.LSA_ST_STATE : Fld := ⟨0x51, 0x60, 27, 24⟩
def F.LSA_ST_LEFT : Fld := ⟨0x51, 0x60, 23, 20⟩
def F.LSA_ST_CAUSE : Fld := ⟨0x51, 0x60, 19, 16⟩
def F.LSA_ST_LIM : Fld := ⟨0x51, 0x60, 15, 15⟩
def F.LSA_ST_INR : Fld := ⟨0x51, 0x60, 14, 14⟩
def F.LSA_ST_OL : Fld := ⟨0x51, 0x60, 13, 13⟩
def F.LSA_ST_I : Fld := ⟨0x51, 0x60, 11, 0⟩
/-- `LSA_OUT` (LSA page, 20). -/
def rLSA_OUT : RegRow := ⟨"LSA_OUT", 0xE0, 0xE0, [
  .rsv 31 8,
  .fld "ON" 7 0 .rw 0 .any]⟩
def F.LSA_OUT_ON : Fld := ⟨0x51, 0xE0, 7, 0⟩
/-- `LSA_CLR` (LSA page, 20). -/
def rLSA_CLR : RegRow := ⟨"LSA_CLR", 0xE1, 0xE1, [
  .rsv 31 8,
  .fld "CLR" 7 0 .wo 0 .any]⟩
def F.LSA_CLR_CLR : Fld := ⟨0x51, 0xE1, 7, 0⟩
/-- The words of a LSA page. -/
def regsLSA : List RegRow := [
  rLSA_PSTAT, rLSA_IFLAG, rLSA_CH, rLSA_ST, rLSA_OUT, rLSA_CLR]

end Sys2Proof.Machine
end

