-- ==== Sys2Proof/Machine/State.lean ====
section
/-! DEFINITION. The state of the module as plain data: every register word of the register map (active copy and shadow), and
per chapter what the rules give the module beside its registers. -/
namespace Sys2Proof.Machine

/-- A sparse register file: (page × 256 + word, value) pairs, addresses rising, no entry at the register's reset value. -/
abbrev Regs := List (Nat × Word)

/-- What the module as a whole is doing (R56, R59, R61, R65). -/
inductive Phase where
  /-- unpowered, or in reset after the hold-up store ran out: waits for the start qualification -/
  | off
  /-- start-up steps 0x0 to 0x4 -/
  | startup
  | run
  /-- both firmware banks failed (R61), or both cores failed their self-test at start-up (R294) -/
  | halt
  /-- after PWR_FAIL, on the hold-up store (R57) -/
  | holdup
  | laidUp
deriving DecidableEq, Repr

/-- Supplies and start-up (power chapter). -/
structure PowerSt where
  phase : Phase := .off
  /-- causes collected for PWR_RSTCAUSE of the next start (R59, R64, R66), as the bits of that register -/
  cause : Nat := 1
  /-- dies that wait for their references to settle, and dies already retried once (R62) -/
  settling : List Nat := []
  retried : List Nat := []
  /-- when a write-back that fell due during PWR_WARN starts (R55) -/
  writebackAfter : Option Nat := none
  /-- what start-up finds; the start is a wake, whose tap leakage is not yet checked (R67) -/
  start : StartUp := {}
  woke : Bool := false
deriving DecidableEq, Repr

/-- Levels of pins and outputs that are not registers. `true` means asserted. -/
structure Pins where
  fltN : Bool := true
  propEn : Bool := false
  shoreDet : Bool := false
  wakeN : Bool := false
  /-- levels of ADDR3 to ADDR0 (R38) -/
  addr : Nat := 0
deriving DecidableEq, Repr

/-- A host reply before its TOGGLE and CRC (R93). -/
structure Reply where
  status : Nat
  page : Nat
  word : Nat
  data : Word
deriving DecidableEq, Repr

/-- A request frame on a CAN port not yet answered: its records, those still to run, reply records formed (R111, R112). -/
structure CanPend where
  fd : Bool
  records : List (BitVec 64)
  todo : List (BitVec 64)
  done : List (BitVec 64)
deriving DecidableEq, Repr

/-- A CAN frame handed to a port's controller: identifier, extended or not, FD format, bit rate switch, error state indicator,
data bytes (R110). -/
structure CanTx where
  id : Nat
  ide : Bool
  fd : Bool
  brs : Bool
  esi : Bool
  bytes : List Byte
deriving DecidableEq, Repr

/-- A word of a burst snapshot: its address, its value, and whether it carries REPEAT (R106). -/
structure BurstWord where
  addr : Nat
  data : Word
  rep : Bool
deriving DecidableEq, Repr

/-- Selections each link keeps for itself (R108 and the chapters that name them). -/
structure Selectors where
  /-- SGC_BANK (R231) -/
  bank : Nat := 0
  /-- LIM_ZSEL (R244) -/
  zsel : Word := 0
  /-- AUT_SEL (R284) -/
  slot : Nat := 0
  /-- RSM_RDSEL, RSM_LOSTSEL (R311, R308) -/
  rsm : Nat := 0
  lost : Nat := 0
  /-- RSM_SNAP: frozen SEQ and the time of the last write of 1 (R310) -/
  snap : Option (Nat × Nat) := none
  /-- CYL_RDSEL (R316) -/
  cyl : Nat := 0
  /-- BAY_LOGSEL, SAF_LOGSEL -/
  bay : Nat := 0
  saf : Nat := 0
deriving DecidableEq, Repr

/-- What one host link keeps for itself (R108). -/
structure LinkSt where
  /-- TOGGLE of the last reply (R101) -/
  toggle : Bool := false
  /-- SPI: the reply formed for the next frame (R98), at first a NOP reply with every status bit but TOGGLE clear (DESIGN CHOICE,
  log entry 72); CAN: the last reply record formed -/
  reply : Reply := ⟨0, 0, 0, 0⟩
  /-- SPI: the request whose reply stands in the buffer and has not been shifted out (R298) -/
  formed : Option (BitVec 64) := none
  /-- SPI: PAGE and WORD of the last frame taken, as received (R99) -/
  echo : Nat × Nat := (0, 0)
  /-- the last 64-bit reply shifted out or sent -/
  sent : BitVec 64 := 0
  /-- undelivered words of the open burst, and the burst's STALE (R106) -/
  burst : List BurstWord := []
  burstStale : Bool := false
  /-- addresses of tracked words returned from the current publication of their page (R104); 65,536 × bank is added on SGC -/
  seen : List Nat := []
  /-- upper time-base bits latched by a read of THY_TIME_LO (R125) -/
  timeHi : Option Nat := none
  /-- epoch low half held for the link (R126) -/
  epochLo : Option Word := none
  /-- when the link's CFG and safety unlocks lapse (R88, R397) -/
  cfgUntil : Option Nat := none
  safUntil : Option Nat := none
  /-- the selections of the link (R108) -/
  sel : Selectors := {}
  /-- SPI: the request that waits for the cores (R109) -/
  waiting : Option (BitVec 64) := none
  /-- CAN: request frames not yet answered, oldest first -/
  frames : List CanPend := []
  /-- CAN: whether the port's requests arrive as FD (R113), and the last frame handed to the controller -/
  fd : Bool := false
  tx : Option CanTx := none
  /-- CAN: end of the 10 ms window after an unsolicited frame (R113) -/
  attnWindow : Option Nat := none
  /-- CAN: the present ATTN has been reported, or set while the port sent no attention messages (R113) -/
  attnTold : Bool := false
  /-- CAN: when the port, re-initialised by a commit, is back on the bus (R116) -/
  joinAt : Option Nat := none
deriving DecidableEq, Repr

/-- The three host links. -/
structure Links where
  spi : LinkSt := {}
  can0 : LinkSt := {}
  can1 : LinkSt := {}
deriving DecidableEq, Repr

/-- An accepted commit that has not fully applied (R82, R83). -/
structure Accepted where
  /-- the pages, in ascending order, whose steps have not applied -/
  pages : List Nat
  /-- the shadow words captured at acceptance that differ from the active ones, for all pages of the commit -/
  words : List (Nat × Word)
  /-- the words written while those pages were pending (R87) -/
  written : List Nat
  /-- its sequence number (R74, R82) -/
  seq : Word
  /-- the link that asked (R399) -/
  link : Nat
  /-- time of acceptance -/
  time : Nat
  /-- the boundary at which the last step applied -/
  last : Option Nat
deriving DecidableEq, Repr

/-- Shadow bookkeeping and the commit in progress (register-page chapter). -/
structure CommitSt where
  /-- pages whose shadow holds uncommitted writes, ascending (R80) -/
  pend : List Nat := []
  /-- words written while their page was pending, ascending (R87) -/
  written : List Nat := []
  /-- the accepted commit (R82) -/
  accepted : Option Accepted := none
  /-- the shadows of SAF and SCH hold what ADOPT loaded (R399) -/
  adopted : Bool := false
deriving DecidableEq, Repr

/-- A password with its consecutive wrong tries and lockout (R88, R397). -/
structure PasswordSt where
  pw : Word := 0
  tries : Nat := 0
  lockedUntil : Option Nat := none
deriving DecidableEq, Repr

/-- Firmware banks and the update session (R61, R89, R90). -/
structure FirmwareSt where
  /-- version words of the images in banks A and B; 0 while invalid -/
  verA : Word := 0x01000001
  verB : Word := 0
  /-- bank B preferred -/
  prefB : Bool := false
  /-- the target bank is B -/
  targetB : Bool := false
  /-- what banks A and B hold of the images written into them: (offset, word), newest first (R20, R89) -/
  bankA : List (Nat × Word) := []
  bankB : List (Nat × Word) := []
  /-- words accepted that wait for the MRAM write port, oldest first (R89) -/
  waiting : List (Nat × Word) := []
  /-- an ABANDON has happened in this HALT (R90); the bank preferred when the boot failed was B -/
  abandonedInHalt : Bool := false
  haltPref : Bool := false
deriving DecidableEq, Repr

/-- Thyme (frame chapter). -/
structure ThymeSt where
  /-- the time of the last boundary, and of the one at which the published frame was sampled -/
  boundary : Nat := 0
  sampledAt : Nat := 0
  /-- frames since start-up have begun -/
  started : Bool := false
  /-- an event has fixed the start of the present frame's scan, or the latest start has; when it starts; it has run; the last
  SYNC_IN edge (R123) -/
  scanned : Bool := false
  scanAt : Option Nat := none
  scanRun : Bool := false
  lastSync : Option Nat := none
  /-- the frame now running is quiet (R121) -/
  quiet : Bool := false
deriving DecidableEq, Repr

/-- Stack link (frame chapter). -/
structure StackSt where
  /-- dies reached by an up path are those not listed; die → time since when it is unreachable (R130) -/
  lostSince : List (Nat × Nat) := []
  /-- dies found unhealthy; those of them lost by the stack link (R130) -/
  unhealthy : List Nat := []
  lost : List Nat := []
  /-- dies on an up path that get no valid strobe, and since when (R131) -/
  missSince : List (Nat × Nat) := []
  /-- dies that rejoin at the next boundary (R130, R131) -/
  rejoin : List Nat := []
  /-- route change waits for the next boundary (R129) -/
  restore : Bool := false
  /-- a pending strobe-compensation value per die, applied at boundaries in steps of 5 ns (R119) -/
  delayTarget : List (Nat × Nat) := []
  /-- segments that failed to train during start-up: the event is raised at RUN (R129) -/
  trainFailed : List Nat := []
deriving DecidableEq, Repr

/-- The low byte of an event code (R301): an IFLAG bit number, a number the manual fixes, or one the release notes list. -/
inductive EventLow where
  | flag (bit : Nat)
  | fixed (n : Nat)
  | listed (tag : Nat)
deriving DecidableEq, Repr

/-- An event on its way to island 1 (R300, R302). -/
structure Event where
  page : Nat
  low : EventLow
  cls : Nat
  source : Nat
  time : Nat
  frame : Word
  /-- words 5 onward of the record -/
  words : List Word
  /-- FLAGS.SUMMARY -/
  summary : Bool := false
  /-- a suppression summary: the page and event it counts, and how many, which go to the lost table while Rosemary is full (R308) -/
  tally : Option (Nat × EventLow × Nat) := none
deriving DecidableEq, Repr

/-- A record accepted by island 1 (R300, R302). -/
structure Record where
  seq : Nat
  cls : Nat
  page : Nat
  low : EventLow
  words : List Word
deriving DecidableEq, Repr

/-- A rate window of one code (R306). -/
structure Bucket where
  page : Nat
  low : EventLow
  opened : Nat
  window : Nat
  tokens : Nat
  suppressed : Nat
  lastSeq : Nat
deriving DecidableEq, Repr

/-- One entry of the lost table (R308). -/
structure LostEntry where
  page : Nat
  low : EventLow
  count : Nat
deriving DecidableEq, Repr

/-- Rosemary (recorder chapter). -/
structure RosemarySt where
  /-- events raised and not yet taken by island 1, oldest first -/
  inbox : List Event := []
  /-- records in staging and records in MRAM, oldest first -/
  staged : List Record := []
  stored : List Record := []
  /-- the rate windows (R306) -/
  buckets : List Bucket := []
  /-- the lost table (R308) -/
  lost : List LostEntry := []
  /-- records dropped from staging since the last overflow summary (R305) -/
  dropped : Nat := 0
  /-- a flush is due (R304), or runs -/
  flushDue : Bool := false
  flushing : Bool := false
  /-- the newest SEQ that the running flush takes along (R304) -/
  flushTop : Nat := 0
  /-- a clear waits for the flush in progress (R309) -/
  clearDue : Bool := false
deriving DecidableEq, Repr

/-- A motion cycle that has ended and waits for its ledger record (R312). -/
structure CycleEnd where
  axis : Nat
  outcome : Nat
  start : Nat
  finish : Nat
  startPos : Int
  target : Int
  endPos : Int
  peakCurrent : Nat
  peakError : Nat
  vmHigh : Nat
  vmLow : Nat
  /-- SEQ of the event that recorded the end of the cycle, once accepted (R312, R349) -/
  cause : Nat := 0
  /-- frames in which the cycle began and ended (R312) -/
  startFrame : Word
  endFrame : Word
deriving DecidableEq, Repr

/-- The cycle ledger (recorder chapter). -/
structure LedgerSt where
  /-- cycles that have ended, oldest first -/
  buffer : List CycleEnd := []
  /-- CYL_ACKED as MRAM holds it (R21, R23) -/
  acked : Nat := 0
  /-- records by ledger sequence, oldest first -/
  records : List (Nat × List Word) := []
deriving DecidableEq, Repr

/-- A lease slot beside its FLT_LEASE word (R295): the time of the last renewal and the parties that wait. -/
structure LeaseSt where
  renewed : Nat := 0
  queue : List Nat := []
deriving DecidableEq, Repr

/-- A WRITE taken into the write queue during a freeze (R109). -/
structure QueuedWrite where
  link : Nat
  page : Nat
  word : Nat
  data : Word
deriving DecidableEq, Repr

/-- Redundant execution (its chapter). -/
structure RedundancySt where
  /-- when the freeze in progress began (R286); the boundary at which the self-test slice in progress began (R291) -/
  freezeAt : Option Nat := none
  sliceAt : Option Nat := none
  /-- arbitration has chosen the survivor: FLT_MODE at resumption (R287) -/
  survivor : Option Nat := none
  /-- links with a request or request frame that waits for the cores, in the order in which they completed (R108, R109) -/
  waitOrder : List Nat := []
  /-- the write queue of a freeze, oldest first (R109) -/
  writeQueue : List QueuedWrite := []
  /-- the lease slots beside their FLT_LEASE words (R295) -/
  leases : List LeaseSt := List.replicate 16 {}
  /-- the party whose lease on the MRAM port was revoked, while island 1 recovers it (R298) -/
  recovering : Option Nat := none
  /-- parity errors of the mismatching cycle, bit 0 core A, bit 1 core B; its frame (R286, R287) -/
  parity : Nat := 0
  freezeFrame : Nat := 0
  /-- time of the last accepted watchdog renewal, and the last frame whose protection evaluation has completed (R292) -/
  renewed : Nat := 0
  evaluated : Nat := 0
  /-- degraded mode (R293): since when, seconds spent in it before that, and the time left as saved in MRAM -/
  degradedFrom : Option Nat := none
  spent : Nat := 0
  savedLeft : Nat := 0xFFFFFFFF
  /-- the 100 ms mark served last by a self-test slice (R291) -/
  lastMark : Nat := 0
  /-- partly written records dropped with a revoked lease on the staging buffer, for the next mismatch record (R298) -/
  partialDrops : Nat := 0
deriving DecidableEq, Repr

/-- What a die sampled at the last boundary, worked out with the settings then in force and held until it publishes (R24). -/
structure HeldDie where
  /-- channel values in µV after gain, correction and FIR, limited to the range (R132, R142) -/
  v : List Int
  /-- the same without the balance correction, which the learning of tap resistances needs (R191) -/
  plain : List Int
  /-- cells held at a range end; cells whose word carries C (R142, R143) -/
  held : List Nat
  corrected : List Nat
  /-- cells whose switch carried current at a grid sample of the filter span (R143, R178) -/
  flow : List Nat := []
  /-- the die sampled on its local timer (R120); the channels had run for less than T_F (R145) -/
  localTimer : Bool
  young : Bool
  /-- the cells in use at that boundary (R144), and the drift gain of its grid sample, 0.1 ppm (R140) -/
  used : List Nat
  gain : Int
deriving DecidableEq, Repr

/-- A mid-frame sample of a fast cell: V in µV, limited; whether it was held at a range end; whether it met any condition of R143
that sets S (R137, R138). -/
structure MidSample where
  cell : Nat
  v : Int
  ended : Bool
  bad : Bool
deriving DecidableEq, Repr

/-- What the scan of a frame gave (R146 to R148, R150, R158): STATE and T code of the NTC inputs, die temperature in 0.01 °C and
whether the diode is open or short, die supply in mV, δA and δB in 0.1 ppm, the cross-check cell and the spans in µV. -/
structure ScanHeld where
  ntc : List (Nat × Nat)
  t : Int
  diodeFault : Bool
  supply : Nat
  deltaA : Int
  deltaB : Int
  sar : Int
  spans : List Int
deriving DecidableEq, Repr

/-- One side of a tap test: the cells looked at, as (die, cell, sign expected in the pull-up window). -/
structure TapTest where
  tap : Nat
  prio : Nat
  /-- inconclusive results in a row so far (R159) -/
  incon : Nat
  /-- the frame at whose boundary the pull-up window began, and W (R153) -/
  start : Word
  w : Nat
  /-- the cells looked at, as (die, cell, sign expected in the pull-up window) -/
  cells : List (Nat × Nat × Int)
  /-- channel values of those cells in the frames sampled at b, b + W and b + 2W -/
  base : Option (List Int) := none
  up : Option (List Int) := none
  down : Option (List Int) := none
  /-- the pull-down source is on -/
  pullDown : Bool := false
  /-- ended with no result (R154) -/
  broken : Bool := false
  /-- the reported V of those cells and the mean V of the die in the frame sampled at b (R163) -/
  baseV : List Int := []
  baseMean : Int := 0
deriving DecidableEq, Repr

/-- A tap test that waits: tap, priority of R154, inconclusive results so far. -/
structure PendingTest where
  tap : Nat
  prio : Nat
  incon : Nat
deriving DecidableEq, Repr

/-- Tap-resistance learning on a die (R190 to R192). -/
structure LearnSt where
  pass : Nat := 0
  cell : Nat := 0
  /-- repeats of the present cell -/
  repeats : Nat := 0
  /-- the period started, sums of V over the first and the second three frames for cells i-1, i, i+1, and frames counted -/
  sumA : List Int := [0, 0, 0]
  sumB : List Int := [0, 0, 0]
  nA : Nat := 0
  nB : Nat := 0
  /-- sum of the mean switch current over the second three frames, 0.1 mA -/
  sumI : Nat := 0
  /-- I_A of the frames of the period so far, and a disturbance seen -/
  ia : List Int := []
  disturbed : Bool := false
  /-- the period started -/
  started : Bool := false
  /-- estimates (tap, 0.1 mΩ) of all passes -/
  est : List (Nat × Int) := []
  /-- sum of cell temperatures and their number over the run -/
  tSum : Int := 0
  tNum : Nat := 0
deriving DecidableEq, Repr

/-- What a plan was built from (R179, R183): the cell words of its quiet publication, V_REF, the host's requests, and the cells
wanted in the period before. -/
structure PlanBasis where
  words : List Word := []
  vref : Option Int := none
  reqLo : Word := 0
  reqHi : Word := 0
  was : List Nat := []
deriving DecidableEq, Repr

/-- Results of a BL page that change between its publications and show with the next one (R24, R25): the cells planned for the period,
its number modulo 2, SCALE, DLIM and PSW of its plan; the cells locked off; state, pass, cell and repeats of learning. -/
structure BalanceShown where
  act : List Nat := []
  period : Nat := 0
  scale : Nat := 0
  dlim : Nat := 0
  psw : Nat := 0
  locked : List Nat := []
  lrnState : Nat := 0
  lrnPass : Nat := 0
  lrnCell : Nat := 0
  lrnRepeats : Nat := 0
deriving DecidableEq, Repr

/-- Balancing on a die beside its page (balancing chapter). -/
structure BalanceSt where
  /-- the plan of the present period and the plan built for the next: cell, on-time in µs (R179) -/
  plan : List (Nat × Nat) := []
  next : List (Nat × Nat) := []
  /-- SCALE, DLIM and PSW of the plan built for the next period -/
  nextScale : Nat := 0
  nextDlim : Nat := 0
  nextPower : Nat := 0
  /-- switches commanded closed; switches that carry current while commanded open (R178) -/
  closed : List Nat := []
  stuck : List Nat := []
  /-- cell → time at which its switch last opened (for R143) -/
  openedAt : List (Nat × Nat) := []
  /-- cell → time at which its switch closed; cell → time it has been closed before that, µs (R224) -/
  closedAt : List (Nat × Nat) := []
  onTime : List (Nat × Nat) := []
  /-- cell → consecutive periods with overcurrent, last such period (R178) -/
  ovc : List (Nat × Nat × Nat) := []
  /-- cells wanted in the last plan, and what that plan was built from (R183, R185) -/
  wanted : List Nat := []
  basis : PlanBasis := {}
  /-- what the page shows with its next publication (R24, R25) -/
  shown : BalanceShown := {}
  /-- cell → mean switch current in µA in the last frame it balanced (R181) -/
  lastI : List (Nat × Nat) := []
  /-- cell → charge the die has integrated, µC, and the total known from its published frames (R193) -/
  bled : List (Nat × Nat) := []
  charge : List (Nat × Nat) := []
  /-- the charge of a cell at the last reset of the page, from which BL_QBAL counts (R72) -/
  base : List (Nat × Nat) := []
  /-- the learning run in progress (R190) -/
  learn : Option LearnSt := none
deriving DecidableEq, Repr

/-- An estimated single cell: its V and the die mean at the last publication before the fault (R163). -/
structure Estimate where
  cell : Nat
  v0 : Int
  mean0 : Int
deriving DecidableEq, Repr

/-- What the M0 channels sampled at the last boundary, held until it publishes (R24, R195, R205). -/
structure HeldM0 where
  /-- I_A and I_B in mA, and whether held at a range end; raw U after the drift gain, 0.01 µV -/
  ia : Int
  ib : Int
  ovrA : Bool
  ovrB : Bool
  ua : Int
  ub : Int
  /-- V_STR and V_LNK in mV, whether held, and both at G = 0 in µV -/
  vstr : Int
  vlnk : Int
  ovrStr : Bool
  ovrLnk : Bool
  str0 : Int
  lnk0 : Int
  /-- the charge count at the boundary, µC -/
  qacc : Int
  /-- the offsets and the divider gains used -/
  ofsA : Int
  ofsB : Int
  gStr : Int
  gLnk : Int
deriving DecidableEq, Repr

/-- A frame of a die as its result buffer holds it (R23, R129): what it sampled, measured and scanned in the frame, the span groups
captured, how long each switch was closed in it, µs, the variation of I_A over the filter span before it, and what M0's channels
sampled. -/
structure DieFrame where
  seq : Word
  quiet : Bool
  held : HeldDie
  sample : DieSample
  mid : List MidSample
  scan : Option ScanHeld
  groups : List (Nat × Nat)
  onFor : List (Nat × Nat)
  /-- cell → charge the die had integrated at the end of the frame, µC (R193) -/
  bled : List (Nat × Nat)
  /-- variation of I_A over the filter span (R151); what the M0 channels sampled -/
  spanIa : Nat
  m0 : Option HeldM0
deriving DecidableEq, Repr

/-- What the GM5 keeps for one M-die beside its pages (measurement, diagnostics). -/
structure DieSt where
  held : Option HeldDie := none
  /-- mid-frame samples and scan of the present frame (R137, R146) -/
  mid : List MidSample := []
  scan : Option ScanHeld := none
  /-- the result buffer: the last 384 frames, newest first (R23); the frame that publishes late within the present one (R129) -/
  buffer : List DieFrame := []
  late : Option Word := none
  /-- the drift gain in force and the ones before its last moves, newest first, 0.1 ppm (R132, R140) -/
  gain : Int := 0
  gains : List Int := []
  /-- BL_RDEF, BL_RTEMP and the words of BL_RTAP in force since the last boundary, and the ones before their last changes, newest first
  (R132, R188) -/
  taps : List Word := []
  oldTaps : List (List Word) := []
  /-- the die diode read open or short in the last publication -/
  diodeFault : Bool := false
  /-- channel values before substitution in the last publication and in the one before (R153, R157) -/
  channel : List Int := List.replicate 64 0
  prevChannel : List Int := List.replicate 64 0
  /-- the two publications are of consecutive frames (R157); V as reported in them (R163) -/
  adjacent : Bool := false
  reported : List Int := []
  prevReported : List Int := []
  /-- V without the balance correction (R191) -/
  plain : List Int := []
  /-- mean V of the die's clean cells in the last publication and in the one before; their median (R157, R163) -/
  mean : Int := 0
  prevMean : Int := 0
  median : Int := 0
  prevMedian : Int := 0
  /-- the publication of the last frame with n mod 8 = 7: cell words, and TDIE (R179) -/
  quietCells : List Word := []
  quietTdie : Int := 0
  /-- converter start (R145); the last publication of TDIE (R402) -/
  startedAt : Nat := 0
  tdieAt : Option Nat := none
  /-- twice the d of the last 64 quiet frames, newest first, and the means of d after each of them, 0.1 ppm (R140, R141) -/
  dHist : List Int := []
  means : List Rat := []
  /-- consecutive frames with |ε| above 200 ppm, and at or below 100 ppm; quiet frames of a step hold with a steady mean -/
  sarBad : Nat := 0
  sarGood : Nat := 0
  steadyRef : Rat := 0
  steadyN : Nat := 0
  /-- cross-check: confirmed cells, the cell that failed once, pointer positions passed, positions of confirmed failures -/
  confirmed : List Nat := []
  failedOnce : Option Nat := none
  positions : Nat := 0
  confirmedAt : List Nat := []
  /-- cells with S from an input fault (R159): (tap, cell) -/
  inputFault : List (Nat × Nat) := []
  /-- estimated single cells (R163) -/
  estimates : List Estimate := []
  /-- which fault group measures its span next, and the groups (lowest and highest tap) captured at the last quiet boundary
  (R158) -/
  spanTurn : Nat := 0
  spanGroups : List (Nat × Nat) := []
  /-- cells whose absolute comparator is in span mode, with the OV and UV thresholds in µV (R165) -/
  spanMode : List (Nat × Int × Int) := []
  /-- gated confirmation counts and trip states: (cell, count) for OV and UV (R166, R167) -/
  ovCount : List (Nat × Nat) := []
  uvCount : List (Nat × Nat) := []
  /-- comparators, as 4 × cell + number, that failed their last self-test, those that failed two in a row, the next cell (R171) -/
  ctFailed : List Nat := []
  ctConfirmed : List Nat := []
  ctNext : Nat := 0
  /-- latest valid trip code bits (R174) -/
  code : Nat := 0
  /-- tap tests: running, waiting, sweep position, taps with one good test so far (R154, R160) -/
  test : Option TapTest := none
  waiting : List PendingTest := []
  sweep : Option Nat := none
  goodOnce : List Nat := []
  /-- a tap in fault has found the tap table full since the sweep began (R161) -/
  harnessOverflow : Bool := false
  /-- a test whose windows are over and whose last frame has not been decided -/
  deciding : Option TapTest := none
  /-- balancing on the die -/
  bal : BalanceSt := {}
deriving DecidableEq, Repr

/-- Fault line and sweeps of the whole module (diagnostics chapter). -/
structure FaultLineSt where
  assertedAt : Nat := 0
  /-- start of the last sweep, dies that have completed it (R154) -/
  sweepStart : Nat := 0
  sweepDone : List Nat := []
  /-- dies whose fault channel carries no carrier (R173) -/
  silent : List Nat := []
  /-- trip bitmaps and CMP_FLSTAT as of the last boundary, and as published (R24) -/
  held : List (Nat × Word) := []
  shown : List (Nat × Word) := []
deriving DecidableEq, Repr

/-- A calibration run of the voltage dividers (R207). -/
structure CalRun where
  cmd : Nat
  frames : Nat := 0
  sumRef : Int := 0
  sumRaw : Int := 0
  failed : Bool := false
deriving DecidableEq, Repr

/-- A zeroing run (R199): frames, sums of raw U of A and B, started by the host. -/
structure ZeroRun where
  frames : Nat := 0
  sumA : Int := 0
  sumB : Int := 0
  host : Bool
deriving DecidableEq, Repr

/-- M0 channels and the current and voltage pages (their chapter). -/
structure CurrentSt where
  held : Option HeldM0 := none
  /-- variation of I_A over the filter span before the last boundary, mA (R151) -/
  spanIa : Nat := 0
  /-- I_A of the publication before the last, and whether the two are of consecutive frames (R157) -/
  prevIa : Int := 0
  adjacent : Bool := false
  /-- the charge count in µC, exact, and the moment it stands at (R200) -/
  qacc : Rat := 0
  qaccAt : Nat := 0
  /-- R_SH and the trims of A and B in force since the last boundary (R83, R200) -/
  trims : Option (Nat × Int × Int) := none
  /-- current suspect, channels named in BAD (R198); offsets in 0.01 µV (R199), divider gains in 0.1 ppm (R207). The registers
  show them with the next publication. -/
  suspect : Bool := false
  bad : Nat := 0
  ofsA : Int := 0
  ofsB : Int := 0
  gStr : Int := 0
  gLnk : Int := 0
  /-- consecutive frames: range failures of A and B, disagreement, agreement (R198) -/
  failA : Nat := 0
  failB : Nat := 0
  disagree : Nat := 0
  agree : Nat := 0
  /-- when the zeroing condition began to hold; a zeroing in progress (R199) -/
  openSince : Option Nat := none
  zeroing : Option ZeroRun := none
  /-- the overcurrent comparator: sides in trip, trips, confirmed failures (CUR_OCSTAT shows them with the next publication), and
  self-tests in a row that it failed (R201, R203) -/
  ocDis : Bool := false
  ocChg : Bool := false
  ocTrips : Nat := 0
  ocTfail : Nat := 0
  ocFails : Nat := 0
  /-- consecutive frames for SUMERR: outside and within TOL (R206) -/
  sumBad : Nat := 0
  sumGood : Nat := 0
  /-- the calibration run in progress (R207) -/
  cal : Option CalRun := none
  /-- when the current became suspect (R255) -/
  suspectSince : Option Nat := none
deriving DecidableEq, Repr

/-- A learned node of an impedance table (R232): µΩ, and its update count. -/
structure ZNode where
  zf : Nat
  zd : Nat
  count : Nat
deriving DecidableEq, Repr

/-- The anchor of a cell (R223): time, SOC in percent, CUR_QACC and balancing charge in µC, the sum of |ΔCUR_QACC| so far in µC,
and the time its switch had been closed, µs. -/
structure Anchor where
  time : Nat
  soc : Rat
  qacc : Int
  bal : Nat
  absQ : Nat
  onTime : Nat
deriving DecidableEq, Repr

/-- What Sage keeps for one cell. -/
structure CellSage where
  /-- the cell has an SOC; reported value, pure count and zero point in percent (R213, R221) -/
  has : Bool := false
  r : Rat := 0
  u : Rat := 0
  z : Rat := 0
  /-- flags E, W and L (R218, R219, R225) -/
  e : Bool := false
  w : Bool := false
  l : Bool := true
  /-- capacity in Ah, learnings, error bound of the last in 0.01 % -/
  cap : Rat := 100
  lrn : Nat := 0
  err : Nat := 0
  /-- the anchor of the cell (R223) -/
  anchor : Option Anchor := none
  /-- the rest timer at the last rest point of this rest, µs; 0 before the first (R216) -/
  restDone : Nat := 0
  /-- nodes that differ from their default, by TI * 8 + SI, ascending; consecutive rejections (R236) -/
  nodes : List (Nat × ZNode) := []
  rejects : Nat := 0
deriving DecidableEq, Repr

/-- The inputs of one Sage frame (R208). -/
structure SageInput where
  seq : Nat
  time : Nat
  /-- cell words, cell temperatures in 0.01 °C, balancing currents in 0.1 mA, balancing charges in µC, closed times in µs -/
  words : List (List Word)
  temps : List (List Int)
  iBal : List (List Int)
  bal : List (List Nat)
  onTime : List (List Nat)
  /-- healthy dies as bits; M0 is healthy and reachable -/
  healthy : Nat
  m0 : Bool
  curI : Int
  qacc : Int
  suspect : Bool
  /-- CD1 is commanded open and AUX1 reads open -/
  cd1Open : Bool
  /-- CUR_I lay within IBAND of this frame's in every frame of the 100 ms ending here, none suspect (R234) -/
  steady : Bool
  /-- the limits in force when the frame was sampled, 0.1 A, once there are any (R241) -/
  limits : Option (List Nat)
  /-- times of the last frame with a suspect current, and of the last without a count (R214), up to this one -/
  suspectAt : Option Nat
  gapAt : Option Nat
deriving DecidableEq, Repr

/-- A current step being measured (R234): frame a with the SOC of its cells, the current after the step, and what the 10 ms
point gave per cell. -/
structure ZStep where
  a : SageInput
  rs : List (Nat × Rat)
  iNew : Int
  start : Nat
  ten : Bool := false
  zf : List (Nat × Rat) := []
deriving DecidableEq, Repr

/-- One of the two Sage copies (R227, R228). -/
structure SageCopy where
  seq : Nat
  cells : List (Nat × CellSage)
  ahDis : Nat
  ahChg : Nat
  efc : Rat
  timer : Nat
deriving DecidableEq, Repr

/-- Sage (state-of-charge and impedance chapters). -/
structure SageSt where
  /-- cells by die * 64 + cell, ascending; the capacity of a cell not listed, Ah -/
  capDflt : Rat := 100
  cells : List (Nat × CellSage) := []
  /-- the SGC banks as published: word by die * 256 + word number -/
  banks : Regs := []
  /-- Sage frames whose step is due, oldest first; the last one computed -/
  inputs : List SageInput := []
  prev : Option SageInput := none
  /-- rest timer, µs -/
  timer : Nat := 0
  /-- per frame: time, CUR_I, suspect; newest first, as far back as the 10 s of a step still due reach -/
  iHist : List (Nat × Int × Bool) := []
  /-- per Sage frame: time, CUR_QACC, limits in force then; newest first, 30 s back -/
  qHist : List (Nat × Int × Option (List Nat)) := []
  /-- time of the last frame with a suspect current, and of the last in which M0 was unhealthy or unreachable (R214) -/
  suspectAt : Option Nat := none
  gapAt : Option Nat := none
  /-- impedance nodes of the cells and defaults of the columns (ZF, ZD) as last published (R244) -/
  zCells : List (Nat × List (Nat × ZNode)) := []
  zCols : List (Nat × Nat) := []
  /-- OCV tables 0 to 3 as 260 entries, empty while never activated; the staging copy (R210, R211) -/
  tables : List (List Int) := [[], [], [], []]
  staging : List Int := List.replicate 260 0
  /-- Σ|ΔCUR_QACC|, discharge and charge throughput in µC; equivalent full cycles (R226) -/
  absQ : Nat := 0
  ahDis : Nat := 0
  ahChg : Nat := 0
  efc : Rat := 0
  /-- the current step being measured (R234) -/
  zstep : Option ZStep := none
  /-- exact published limits in A, once published (R240) -/
  limits : Option (List Rat) := none
  /-- warning levels EOD1 to EOD3, EOC1 to EOC3: active, and consecutive frames towards a change (R242) -/
  warn : List (Bool × Nat) := List.replicate 6 (false, 0)
  /-- write-back (R227, R228): due, data of the one that runs, time of the last start, the two copies, which is the newest -/
  wbDue : Bool := false
  wbData : Option SageCopy := none
  wbStart : Nat := 0
  copyA : Option SageCopy := none
  copyB : Option SageCopy := none
  newestB : Bool := false
  /-- a copy that has been written and is not valid (R228, R229) -/
  badA : Bool := false
  badB : Bool := false
deriving DecidableEq, Repr

/-- A member of the ring heard (R266): its last message, when, and since when it has been heard as healthy. -/
structure Member where
  msg : RingMsg
  heard : Nat
  healthySince : Option Nat
deriving DecidableEq, Repr

/-- A serial number heard at an address of the ring, and when (R267). -/
structure Voice where
  addr : Nat
  serial : Nat
  time : Nat
deriving DecidableEq, Repr

/-- A mirror image with its header; half of the ring mirror region holds one (R273). -/
structure MirrorHalf where
  source : Nat
  serial : Nat
  seq : Nat
  image : MirrorImage
deriving DecidableEq, Repr

/-- The Kollin ring (its chapter). -/
structure RingSt where
  members : List Member := []
  voices : List Voice := []
  /-- the last valid message straight from the neighbour on K_A and on K_B -/
  portA : Option Nat := none
  portB : Option Nat := none
  /-- the head named (R268), time of RUN, time of the last ring cycle -/
  head : Option Nat := none
  runAt : Nat := 0
  cycleAt : Nat := 0
  /-- own status message sent last; message forwarded last -/
  sent : Option RingMsg := none
  forwarded : Option RingMsg := none
  /-- the member that holds the grant this head gave -/
  granted : Option Nat := none
  /-- the module announces its departure (R65, R64) -/
  departing : Bool := false
  /-- system frame: sequence the next one carries, time of the last sent, one due at once -/
  sysNext : Nat := 0
  sysAt : Nat := 0
  sysDue : Bool := false
  /-- own image: sequence, the one sent last, serial of the downstream neighbour it was sent to -/
  imageSeq : Nat := 0
  image : Option MirrorHalf := none
  /-- the own image is to be sent (again) from its start when the ring token is had (R273, R298) -/
  imageDue : Bool := false
  /-- serial number of the downstream neighbour the own image is kept for (R273) -/
  holder : Option Nat := none
  /-- halves of the mirror held, and which holds the newest valid image -/
  half0 : Option MirrorHalf := none
  half1 : Option MirrorHalf := none
  newest1 : Bool := false
  /-- a complete image received that waits for the MRAM write port (R23, R273) -/
  stored : Option MirrorHalf := none
  /-- the header reply of R274 is awaited; an ADOPT fetches -/
  asked : Bool := false
  fetching : Bool := false
deriving DecidableEq, Repr

/-- A slot in a round of authentication (R279): 1 of an ID change, 2 of a voltage step, 0 of any other trigger. -/
structure SlotRound where
  slot : Nat
  trigger : Nat
deriving DecidableEq, Repr

/-- Module authentication (ring chapter). -/
structure AuthSt where
  /-- enrolled ID by slot; the last ID a poll read, by slot -/
  ids : List (Nat × Nat) := []
  polled : List (Nat × Nat) := []
  /-- the IDs the chains present while ENROL is carried out, by slot; the readings of the chains for a plain write so far (R282) -/
  presented : Option (List (Nat × Nat)) := none
  reads : Nat := 0
  /-- slots of the rounds in progress; slots left pending whose trigger has not led to a decision; an ADOPT's round waits for its
  AUT page (R275, R279, R281) -/
  round : List SlotRound := []
  owed : List SlotRound := []
  roundDue : Bool := false
  /-- time of the last poll (AUT_POLL) -/
  pollAt : Nat := 0
  /-- slots whose cells are unqualified (R281) -/
  unq : List Nat := []
  /-- mean V of a slot's cells, µV, before its die's harness fault, loss or sleep; slots whose event has ended (R279) -/
  before : List (Nat × Int) := []
  ended : List Nat := []
  /-- trust anchor, empty while none is installed; staging key words (R282) -/
  anchor : List Word := []
  staging : List Word := List.replicate 16 0
deriving DecidableEq, Repr

/-- One of the two copies in the Bay region (R324): its sequence number, its words in the order of `copyWords`, remainders in mJ, and its CRC-32. -/
structure BayCopy where
  seq : Word
  words : List Word
  rems : List Int
  crc : Word
deriving DecidableEq, Repr

/-- A sample pair of M0 (R320): grid index, I_M in 0.01 µV, V_M in µV; or a pair that is lost. -/
structure GridPair where
  index : Nat
  ui : Int := 0
  uv : Int := 0
  lost : Bool := false
deriving DecidableEq, Repr

/-- The Bay partition (metering chapter). -/
structure BaySt where
  /-- the pairs M0 keeps: those of the last 16 ms (R320) -/
  kept : List GridPair := []
  /-- grid index at which the interval begins; indices of it that have arrived or are lost; pairs of later intervals -/
  base : Nat := 0
  seen : List Nat := []
  early : List GridPair := []
  /-- sample pairs of the interval, of which lost; sums of V·I in W, of V in mV, of I and |I| in mA -/
  pairs : Nat := 0
  lostPairs : Nat := 0
  sumP : Rat := 0
  sumV : Rat := 0
  sumI : Rat := 0
  sumAbs : Rat := 0
  /-- when the last lost pair was lost (R322) -/
  lastLoss : Option Nat := none
  /-- remainders in mJ: legal import and export, test import and export, session import and export -/
  rems : List Int := [0, 0, 0, 0, 0, 0]
  /-- the image failed its check, or no parameter copy is valid -/
  failed : Bool := false
  /-- parameters set and not yet taken: PARAM, value (R328) -/
  toSet : List (Nat × Word) := []
  /-- CLKERR; windows in a row above 2,000 ppm, and at or below 500 ppm (R323) -/
  clkErr : Bool := false
  clkBad : Nat := 0
  clkGood : Nat := 0
  /-- seal code and seal ID; wrong codes in a row, and the end of a lockout (R329) -/
  code : Word := 0
  sealId : Word := 0
  tries : Nat := 0
  lockedUntil : Option Nat := none
  /-- mailbox words held by island 2; image staging; the words of the stored Bay image that runs, and the image stored for the next
  start-up with its version (R317, R328) -/
  mbox : List Word := List.replicate 8 0
  staging : Option (List Word) := none
  image : List Word := []
  nextImage : Option (List Word × Word) := none
  /-- the two alternating copies, newest first, and the metrological log by index -/
  copies : List BayCopy := []
  log : List (Nat × List Word) := []
deriving DecidableEq, Repr

/-- A stretch of constant jerk of a motion profile: units/s³, s. -/
structure Segment where
  jerk : Rat
  time : Rat
deriving DecidableEq, Repr

/-- The limits of a profile: velocity, acceleration, deceleration, jerk. -/
structure Limits where
  v : Rat
  a : Rat
  d : Rat
  j : Rat
deriving DecidableEq, Repr

/-- A motion cycle in progress (R348), or a stop of it. -/
structure Cycle where
  /-- 1 move, 2 homing, 3 group move, with the group -/
  kind : Nat
  group : Nat := 0
  /-- distance of a group member, by which the normalised profile is scaled (R340) -/
  dist : Int := 0
  /-- the target, in units -/
  target : Int
  /-- the plan in force: where it began, its segments, velocity and acceleration at its begin, servo periods since -/
  origin : Int
  plan : List Segment
  v0 : Rat := 0
  a0 : Rat := 0
  ticks : Nat := 0
  /-- the profile limits and the stop deceleration as committed at the start of the move (R338) -/
  lim : Limits := ⟨0, 0, 0, 0⟩
  dstop : Rat := 0
  /-- what the ledger record says of the cycle: its start, its peaks, and the range of VM (R312) -/
  startTime : Nat
  startPos : Int
  startFrame : Word
  peakCurrent : Nat := 0
  peakError : Nat := 0
  vmHigh : Nat
  vmLow : Nat
  /-- rank of the stop cause that acted (R346) -/
  stop : Option Nat := none
  /-- the final set-point of the plan in force has been latched; servo periods with the following error inside SETTLE (R348) -/
  landed : Bool := false
  settle : Nat := 0
  /-- homing: 0 fast approach, 1 stop, 2 slow approach, 3 index search, 4 home point passed -/
  phase : Nat := 0
  /-- bin of the envelope → peak torque current of this cycle (R345) -/
  peaks : List (Nat × Nat) := []
deriving DecidableEq, Repr

/-- A bin of the current envelope: value in mA, times learned (R345). -/
structure EnvBin where
  value : Rat := 0
  count : Nat := 0
deriving DecidableEq, Repr

/-- A set-point as computed (R337): position, velocity and acceleration of the profile, and whether its plan ends there. -/
structure Setpoint where
  pos : Int
  vel : Rat := 0
  acc : Rat := 0
  last : Bool := false
deriving DecidableEq, Repr

/-- An accepted start that has not begun (R339): kind as in `Cycle`, the time of acceptance, the target it was decided for. -/
structure PendingStart where
  kind : Nat
  time : Nat
  target : Int := 0
deriving DecidableEq, Repr

/-- What island 4 keeps for one axis beside its page (motion chapter). -/
structure AxisSt where
  pending : Option PendingStart := none
  /-- the accepted start waits for a commit (R85) -/
  staged : Bool := false
  /-- the cycle in progress, or a stop of it (R348) -/
  cycle : Option Cycle := none
  /-- the axis asks for release of its brake, since (R342) -/
  askedAt : Option Nat := none
  /-- end of the last cycle while the standstill setting has not applied (R342) -/
  endedAt : Option Nat := none
  /-- end of the last cycle (R384) -/
  restAt : Nat := 0
  /-- the set-points computed and not yet latched, next first; the one latched last (R337) -/
  queue : List Setpoint := []
  held : Setpoint := { pos := 0 }
  /-- drive: 0 gates low, 1 windings shorted, 2 IHOLD, 3 IRUN, 4 IRUN/2 -/
  drive : Nat := 0
  /-- the commanded current vector: amplitude in mA (R336), electrical angle of the set-point in turns, which counts in the
  direction of the phase sequence (R335), and degrees ahead of the rotor in a brake test (R384) -/
  amp : Nat := 0
  phase : Rat := 0
  lead : Int := 0
  /-- what holds the axis in STATE 5: the rank of the stop cause, or 10 for the limit switch (R346) -/
  cause : Option Nat := none
  /-- torque current of the last servo period, mA -/
  torque : Int := 0
  /-- bins 0 to 15 of positive, 16 to 31 of negative travel -/
  env : List EnvBin := List.replicate 32 {}
  /-- encoder fault seen (R346); encoder offset against the count, set at the home point (R341) -/
  encFault : Bool := false
  encOfs : Int := 0
  /-- consecutive servo periods that look like a stall, and above the envelope (R343, R345) -/
  stallN : Nat := 0
  obstN : Nat := 0
deriving DecidableEq, Repr

/-- The motion island (motion chapter). -/
structure MotionSt where
  axes : List AxisSt := List.replicate 6 {}
  /-- end of the last cycle of any axis (R406) -/
  lastEnd : Option Nat := none
  /-- the servo boundary served last (R118) -/
  tickAt : Nat := 0
deriving DecidableEq, Repr

/-- A gate pulse that runs (R352): axis, half-bridge, side, length in µs, when it was written. -/
structure GatePulse where
  axis : Nat
  half : Nat
  high : Bool
  width : Nat
  since : Nat
deriving DecidableEq, Repr

/-- The G-die (gate chapter). -/
structure GateSt where
  /-- per axis: a qualification, and a comparator test, in progress since; gate pulses that run -/
  qual : List (Nat × Nat) := []
  test : List (Nat × Nat) := []
  pulse : List GatePulse := []
  /-- half-bridge of the module → consecutive PWM periods slow at STRMAX, fast at STRMIN (R357) -/
  slow : List (Nat × Nat) := []
  fast : List (Nat × Nat) := []
  /-- axes that have qualified once; axes whose RECOVER waits for a commit (R85) -/
  qualified : List Nat := []
  deferred : List Nat := []
  /-- consecutive boundaries at which an axis missed its set-point; the last valid frame (R350) -/
  missed : List (Nat × Nat) := []
  lastFrame : Nat := 0
  /-- axes whose set-point for the coming servo boundary the G-die does not hold (R350) -/
  unheld : List Nat := []
  /-- bootstraps below 7.0 V: half-bridge of the module -/
  lowBst : List Nat := []
  /-- half-bridges of the module whose present PWM period begins with a refresh pulse of 400 ns (R363) -/
  refreshed : List Nat := []
  /-- when VGG was released; when the chopper turned on, and whether its on-period has passed MAXON -/
  vggAt : Nat := 0
  chopSince : Nat := 0
  chopLong : Bool := false
deriving DecidableEq, Repr

/-- The safety island (safety chapter). -/
structure SafetySt where
  /-- guard → the level its input has read for DEB (R379); guards seen open, and closed after that, since start-up (R380) -/
  levels : List (Nat × Bool) := []
  seenOpen : List Nat := []
  seenClosed : List Nat := []
  /-- SAFESTOP since; brakes commanded released, since; switches of an output found stuck: bit as SAF_DEGR.CAUSE -/
  stopSince : Nat := 0
  releasedAt : List (Nat × Nat) := []
  /-- brakes whose coil current was below IMIN with both switches open (R383) -/
  engaged : List Nat := [0, 1]
  /-- when each brake was last found engaged; brakes whose last test found them not testable (R384) -/
  engagedAt : List Nat := [0, 0]
  untestable : List Nat := []
  /-- duty of the high side of each brake, in 1/256 (R383) -/
  duty : List Nat := [0, 0]
  /-- brake tests: running, and since when by brake; aborted, and not begun again since; requested by the host -/
  testing : List Nat := []
  aborted : List Nat := []
  testFrom : List Nat := [0, 0]
  requested : List Nat := []
  /-- time the brake last passed, in µs of operating time, and operating time of earlier runs (R384) -/
  passedAt : List Nat := [0, 0]
  operated : Nat := 0
  /-- PROP_EN commanded on; held off until the next retry after a low output; held off from a degraded expiry (R390) -/
  propCmd : Bool := false
  propRetry : Option Nat := none
  propHeld : Bool := false
  /-- brakes, by number, whose switch has expired degraded time (R390) -/
  brkExpired : List Nat := []
  propExpired : Bool := false
  /-- brakes whose release TSTOP withdrew (R381) -/
  withdrawn : List Nat := []
  /-- end of the degraded time of the outputs in SAF_DEGR (R390) -/
  degrUntil : Option Nat := none
  /-- safety link: baseline sequence, watchdog end, data of the link in use, next sequence to send (R393 to R395) -/
  baseline : Nat := 0
  wdtAt : Option Nat := none
  nextSeq : Nat := 0
  lastSent : Option Nat := none
  /-- SAF_STAT as the last PDU carried it (R395) -/
  sentData : Word := 0
  /-- change log: words 0 to 3 of the entries, by index (R399) -/
  log : List (Nat × List Word) := []
  /-- edge → since when its loop resistance lies in a gap (R40) -/
  edgeGap : List (Nat × Nat) := []
  /-- read-backs of PROP_EN at odds with the command, and when they began (R390) -/
  propBadSince : Option Nat := none
deriving DecidableEq, Repr

/-- A closing sequence onto the bus (R249 to R251). -/
structure Closing where
  /-- AUX1 read closed; V0 in mV; AUX2 read closed (t0) -/
  aux1At : Option Nat := none
  v0 : Option Int := none
  t0 : Option Nat := none
  /-- matching began (STATE 0x3); the overlap of R249 began -/
  matchAt : Option Nat := none
  overlapAt : Option Nat := none
  /-- worst deviation, 0.1 % of V_STR rounded up -/
  worst : Nat := 0
deriving DecidableEq, Repr

/-- A sequenced opening (R252), or the opening of all contactors together (R258). -/
structure Opening where
  /-- contactors still to turn off, in order -/
  todo : List Nat
  /-- contactor whose auxiliary contact the next step waits for -/
  waiting : Option Nat := none
  /-- CD1 hold since; current above PRT_WELD.I seen in its last 20 ms; opening of CD0 proven -/
  holdAt : Option Nat := none
  current : Bool := false
  proven : Bool := false
  /-- CD0 was closed, so that the checks of R253 rows 2 to 4 apply -/
  main : Bool := false
  underload : Bool := false
  unproven : Bool := false
  /-- condition and path that PRT_LAST records -/
  cond : Nat := 0
  path : Nat := 0
deriving DecidableEq, Repr

/-- Contactors (protection chapter). -/
structure ProtSt where
  /-- coil → start of its pull-in; coils in hold -/
  pullAt : List (Nat × Nat) := []
  hold : List Nat := []
  /-- contactor → time of turn-off, while its auxiliary contact has not read open (R253 row 1) -/
  offAt : List (Nat × Nat) := []
  /-- contactor → time of turn-off, while its auxiliary contact reads open and TOPEN has not passed (R247 row 5) -/
  watchAt : List (Nat × Nat) := []
  /-- a contactor fault on CD0 to CD2 since the last evaluation (R255 code 0x0C) -/
  newFault : Bool := false
  /-- the closing and the opening in progress (R249, R252) -/
  closing : Option Closing := none
  opening : Option Opening := none
  /-- end of the cooling of the pre-charge resistor -/
  coolUntil : Option Nat := none
  /-- CONNECT waits for a commit (R85), or for a grant since (R270) -/
  waitCommit : Bool := false
  waitSince : Option Nat := none
  /-- condition code → its deadline, while it runs (R257) -/
  deadlines : List (Nat × Nat) := []
  /-- publications in a row at or below IZERO, and within the request target: since when (R256) -/
  zeroSince : Option Nat := none
  metSince : Option Nat := none
  overSince : Option Nat := none
  met : Bool := false
  /-- cells beyond the firmware limits, as die * 64 + cell → publications in a row (R255 code 0x02) -/
  cellBad : List (Nat × Nat) := []
  /-- (die, cell) pairs: hot since, carrying D since, as die * 64 + cell → time -/
  hotSince : List (Nat × Nat) := []
  degrSince : List (Nat × Nat) := []
  /-- CHARGE_OFF or an orderly path asked CD3 to open: the charge target fell to 0 -/
  chargeOffAt : Option Nat := none
  chargeZeroSince : Option Nat := none
  /-- the fault line took the string off the bus, and its contactors are not all open yet (R253, R260) -/
  tripped : Bool := false
  /-- limit frame: sequence, last sent, content sent last -/
  frameSeq : Nat := 0
  frameAt : Nat := 0
  frameDue : Bool := false
deriving DecidableEq, Repr

/-- Thermal management (its chapter). -/
structure ThermalSt where
  /-- die → evaluations in a row outside the diode's range (R404) -/
  bad : List (Nat × Nat) := []
  /-- stopped dies that have been powered down, and when; attempts of automatic power cycles (R409) -/
  downAt : List (Nat × Nat) := []
  tries : List (Nat × Nat) := []
  /-- dies that have been powered up and wait for their first evaluation -/
  cycling : List Nat := []
  /-- stops whose deadline expired: source 8 stays active (R408) -/
  expired : List Nat := []
  /-- last restart of a load-switch channel (R406) -/
  lastRestart : Option Nat := none
  /-- die → its last evaluation (R403) -/
  evalAt : List (Nat × Nat) := []
  /-- times of the last corrected errors of SRAM and of MRAM that count towards the hourly limit, newest first (R411) -/
  sramTimes : List Nat := []
  mramTimes : List Nat := []
deriving DecidableEq, Repr

/-- A load-switch channel (load-switch chapter). -/
structure ChanSt where
  /-- STATE, LEFT and CAUSE as `LSA_ST` codes them -/
  state : Nat := 0
  left : Nat := 3
  cause : Nat := 0
  /-- end of the inrush window; the last turn-on and turn-off -/
  inrushEnd : Nat := 0
  onAt : Nat := 0
  offAt : Nat := 0
  /-- open load seen while off -/
  openLoad : Bool := false
  /-- the current at the last frame boundary, mA; since when it has been in a limit that a commit lowered beneath it (R368) -/
  present : Nat := 0
  limitAt : Option Nat := none
deriving DecidableEq, Repr

/-- The load switches. -/
structure LoadSt where
  chans : List ChanSt := List.replicate 16 {}
  /-- zones hot, zones with a sensor fault, zones whose second check is due: zone, the other channel, when -/
  hot : List Nat := []
  sensor : List Nat := []
  second : List (Nat × Nat × Nat) := []
  /-- frames in a row with the total above 16 A (R373) -/
  overCount : Nat := 0
deriving DecidableEq, Repr
/-- Values saved to the configuration region on the schedule of MD_GAIN (R140, R199, R345): words by page × 256 + word, the
envelopes by axis, the time of the last save. -/
structure SavedSt where
  words : List (Nat × Word) := []
  envs : Vector (List EnvBin) 6 := Vector.replicate 6 (List.replicate 32 {})
  last : Nat := 0
deriving DecidableEq, Repr

/-- What a journaled write replaces in MRAM, and what a discarded one leaves there (R21, R86, R297). -/
inductive Kept where
  /-- a saved register word -/
  | word (a : Nat) (v : Word)
  /-- the values saved on the schedule of MD_GAIN -/
  | saved (x : SavedSt)
  /-- FLT_DEGR_LEFT (R293) -/
  | degrLeft (n : Nat)
  /-- the CFG password, the safety password (R88, R397) -/
  | password (saf : Bool) (pw : Word)
  /-- the preferred firmware bank (R89) -/
  | bank (b : Bool)
  /-- the trust anchor, the enrolled IDs (R280, R282) -/
  | anchor (l : List Word)
  | ids (l : List (Nat × Nat))
  /-- the OCV tables (R211) -/
  | tables (l : List (List Int))
  /-- the safety change log (R399) -/
  | safLog (l : List (Nat × List Word))
  /-- the two Sage copies with their verdicts (R227, R275) -/
  | copies (a b : Option SageCopy) (badA badB : Bool)
deriving DecidableEq, Repr

/-- An entry of the journal region that is open, or waits for the MRAM write port (R297): its party, and what it replaces. -/
structure JournalEntry where
  party : Nat
  old : List Kept
deriving DecidableEq, Repr

/-- The state of the module. -/
structure State where
  /-- time base, µs (R125) -/
  now : Nat := 0
  /-- the active register words (R69), and the shadow words that differ from them (R78); both canonical -/
  regs : Regs := []
  shadow : Regs := []
  /-- pages that have published since start-up (R105) -/
  published : List Nat := []
  /-- the G-die is powered down (R65, R408, R409) -/
  gdieDown : Bool := false
  pwr : PowerSt := {}
  pins : Pins := {}
  links : Links := {}
  commit : CommitSt := {}
  pw : PasswordSt := {}
  spw : PasswordSt := {}
  fw : FirmwareSt := {}
  thy : ThymeSt := {}
  stk : StackSt := {}
  rsm : RosemarySt := {}
  cyl : LedgerSt := {}
  flt : RedundancySt := {}
  dieSt : List DieSt := List.replicate 8 {}
  line : FaultLineSt := {}
  cur : CurrentSt := {}
  bay : BaySt := {}
  mot : MotionSt := {}
  gate : GateSt := {}
  saf : SafetySt := {}
  prot : ProtSt := {}
  tmp : ThermalSt := {}
  ls : LoadSt := {}
  sage : SageSt := {}
  ring : RingSt := {}
  aut : AuthSt := {}
  saved : SavedSt := {}
  /-- journaled writes that have not ended, oldest first (R20, R297) -/
  journal : List JournalEntry := []
  /-- ρA0 and ρB0 of each die, 10⁻⁹, as its test stored them (R140; log entry 90) -/
  ratios : List (Nat × Nat) := List.replicate 8 (1000000000, 1000000000)
  /-- the commands that wait, first in, first out: the model's own field -/
  pending : List Instr := []
deriving DecidableEq, Repr

/-- The module right after delivery or reset, unpowered until the start qualification: every register at the Reset value of its
field table, what MRAM holds as delivered, no command waiting. The values the manual does not give (log entries 2 and 3):
variant GM5-8MB, serial number 0, hardware level 1, firmware 1.0.1 in bank A and none in bank B, and the parameters of Bay. -/
def State.reset : State := {
  regs := [(0x0008, 0x38), (0x000C, 1), (0x000D, 0x01000001), (0x000E, 0x01000001), (0x0A80, 5000), (0x0A83, 1000000)] }

/-- Why the model stops: no command of the table does. -/
inductive Fault where
  /-- raised by nobody; kept so that the type has a name -/
  | none
deriving DecidableEq, Repr

/-- Why the model has no meaning for a command. -/
inductive Refusal where
  /-- raised by an arm of `exec` whose command is not modelled yet; safe -/
  | notModelled (mnemonic : String)
deriving DecidableEq, Repr

end Sys2Proof.Machine
end

