-- ==== Sys2Proof/Machine/Ops.lean ====
section
/-! DEFINITION. The operations every chapter shares: register words and fields, publication of untied pages, events on their
way to Rosemary, time, CRCs. -/
namespace Sys2Proof.Machine

/-! ### Words and fields -/

/-- The bits `hi` to `lo` of a word as a number. -/
def bitsOf (w : Word) (hi lo : Nat) : Nat := w.toNat / 2 ^ lo % 2 ^ (hi + 1 - lo)

/-- `w` with its bits `hi` to `lo` replaced by the low bits of `v`. -/
def withBits (w : Word) (hi lo v : Nat) : Word :=
  BitVec.ofNat 32 (w.toNat - bitsOf w hi lo * 2 ^ lo + v % 2 ^ (hi + 1 - lo) * 2 ^ lo)

/-- A number of `width` bits read as two's complement. -/
def signedOf (width v : Nat) : Int := if v < 2 ^ (width - 1) then v else (v : Int) - 2 ^ width

/-- The two's complement code of `v` in `width` bits. -/
def codeOf (width : Nat) (v : Int) : Nat := (v % (2 ^ width : Int)).toNat

/-- Bit `b` of a number. -/
def bit (v b : Nat) : Bool := v / 2 ^ b % 2 == 1

/-- 1 for true, 0 for false. -/
def ofBool (b : Bool) : Nat := if b then 1 else 0

/-- `v` with bit `b` set to `x`. -/
def withBit (v b : Nat) (x : Bool) : Nat := v - ofBool (bit v b) * 2 ^ b + ofBool x * 2 ^ b

/-- The number whose bit `i` is `f i`, for `i` below `n`. -/
def bitMap (n : Nat) (f : Nat → Bool) : Nat :=
  (List.range n).foldl (fun acc i => acc + ofBool (f i) * 2 ^ i) 0

/-- Addition that stops at `max`. -/
def satAdd (a b max : Nat) : Nat := min (a + b) max

/-- Rounding of a quotient to the nearest integer, halves away from zero. -/
def roundDiv (a : Int) (b : Nat) : Int :=
  if b = 0 then 0 else if 0 ≤ a then (2 * a + b) / (2 * b) else -((2 * (-a) + b) / (2 * b))

/-- Rounding of a rational to the nearest integer, halves away from zero. -/
def roundRat (q : Rat) : Int := roundDiv q.num q.den

/-- The magnitude of an integer. -/
def absInt (v : Int) : Int := v.natAbs

/-- `v` held between `lo` and `hi`. -/
def clampInt (lo hi v : Int) : Int := max lo (min hi v)

/-- The address of a word: its page and its word number. -/
def addrOf (page word : Nat) : Nat := page * 256 + word

/-- The first page of the block a page belongs to (R69). -/
def blockOf (page : Nat) : Nat :=
  if 0x20 ≤ page ∧ page ≤ 0x27 then 0x20 else if 0x28 ≤ page ∧ page ≤ 0x2F then 0x28
  else if 0x41 ≤ page ∧ page ≤ 0x46 then 0x41 else if 0x49 ≤ page ∧ page ≤ 0x4E then 0x49
  else if page = 0x52 then 0x51 else page

/-- The arrays of registers that start at a word: the first page of the block, the word, the number of entries. -/
def arrays : List (Nat × Nat × Nat) := [
  (0x01, 0x09, 2), (0x01, 0x0B, 2), (0x01, 0x65, 2), (0x04, 0x70, 16), (0x05, 0x63, 4), (0x07, 0x68, 8), (0x07, 0x70, 9),
  (0x0A, 0x80, 5), (0x0E, 0x12, 6), (0x0E, 0x18, 8), (0x0E, 0x61, 6), (0x0F, 0x10, 64), (0x0F, 0x68, 8), (0x10, 0x66, 4),
  (0x11, 0x60, 16), (0x11, 0x70, 16), (0x11, 0x80, 16), (0x11, 0x90, 16), (0x11, 0xA8, 16), (0x14, 0x10, 16),
  (0x15, 0x68, 6), (0x20, 0x10, 16), (0x20, 0x60, 64), (0x20, 0xA0, 16), (0x20, 0xC0, 32), (0x28, 0x68, 33),
  (0x28, 0x90, 32), (0x28, 0xB0, 32), (0x50, 0x60, 4), (0x51, 0x08, 8), (0x51, 0x60, 8)]

/-- The number of entries of the array that starts at a word. -/
def arrayLen (page word : Nat) : Nat :=
  match arrays.find? fun e => e.1 == blockOf page && e.2.1 == word with
  | some e => e.2.2
  | none => 1

/-- The same field of entry `k` of the array of registers that starts at the word. -/
def Fld.at (f : Fld) (k : Nat) : Fld := { f with word := f.word + k % arrayLen f.page f.word }

/-- How many instances the block has whose first page this is (R69). -/
def instancesOf (page : Nat) : Nat :=
  if page = 0x20 ∨ page = 0x28 then 8 else if page = 0x41 ∨ page = 0x49 then 6 else if page = 0x51 then 2 else 1

/-- The same field on the page of instance `k` of its block. -/
def Fld.on (f : Fld) (k : Nat) : Fld := { f with page := f.page + k % instancesOf f.page }

/-- The bit `b` of a field of one bit per unit, as a field of its own. -/
def Fld.bit (f : Fld) (b : Nat) : Fld := { f with hi := f.lo + b, lo := f.lo + b }

/-- The address of the word a field lies in. -/
def Fld.addr (f : Fld) : Nat := addrOf f.page (f.word % 256)

/-! ### Sparse register files -/

/-- The entry of an address, if it is listed. -/
def lookupReg (a : Nat) : Regs → Option Word
  | [] => none
  | (b, v) :: l => if a = b then some v else lookupReg a l

/-- The entry `(a, v)` put before the first entry of a higher address. -/
def insertReg (a : Nat) (v : Word) : Regs → Regs
  | [] => [(a, v)]
  | (b, w) :: l => if a < b then (a, v) :: (b, w) :: l else (b, w) :: insertReg a v l

/-- The list without the entries of an address. -/
def dropReg (a : Nat) : Regs → Regs
  | [] => []
  | (b, w) :: l => if a = b then dropReg a l else (b, w) :: dropReg a l

/-- The list with address `a` holding `v`; the entry goes when `v` is what an unlisted address reads as. -/
def storeReg (dflt : Word) (a : Nat) (v : Word) (l : Regs) : Regs :=
  if v = dflt then dropReg a l else insertReg a v (dropReg a l)

/-! ### The page map (R69) -/

/-- The block type of a page as R69 lists it: first page, last page, island, words. -/
structure PageRow where
  first : Nat
  last : Nat
  island : Nat
  regs : List RegRow
deriving DecidableEq, Repr

/-- The page map of R69 with the islands of R16. -/
def pageTable : List PageRow := [
  ⟨0x00, 0x00, 2, regsSYS⟩, ⟨0x01, 0x01, 2, regsHST⟩, ⟨0x02, 0x02, 2, regsCFG⟩, ⟨0x03, 0x03, 3, regsTHY⟩,
  ⟨0x04, 0x04, 1, regsFLT⟩, ⟨0x05, 0x05, 5, regsTMP⟩, ⟨0x06, 0x06, 5, regsPWR⟩, ⟨0x07, 0x07, 3, regsSTK⟩,
  ⟨0x08, 0x08, 3, regsCUR⟩, ⟨0x09, 0x09, 3, regsSTV⟩, ⟨0x0A, 0x0A, 7, regsBAY⟩, ⟨0x0C, 0x0C, 0, regsSGE⟩,
  ⟨0x0D, 0x0D, 0, regsSGC⟩, ⟨0x0E, 0x0E, 0, regsLIM⟩, ⟨0x0F, 0x0F, 0, regsAUT⟩, ⟨0x10, 0x10, 5, regsPRT⟩,
  ⟨0x11, 0x11, 3, regsCMP⟩, ⟨0x12, 0x12, 2, regsKRG⟩, ⟨0x14, 0x14, 1, regsRSM⟩, ⟨0x15, 0x15, 1, regsCYL⟩,
  ⟨0x18, 0x18, 6, regsSAF⟩, ⟨0x19, 0x19, 6, regsSCH⟩, ⟨0x20, 0x27, 3, regsMD⟩, ⟨0x28, 0x2F, 3, regsBL⟩,
  ⟨0x40, 0x40, 4, regsMOT⟩, ⟨0x41, 0x46, 4, regsAX⟩, ⟨0x48, 0x48, 4, regsGDR⟩, ⟨0x49, 0x4E, 4, regsGD⟩,
  ⟨0x50, 0x50, 5, regsLSW⟩, ⟨0x51, 0x52, 5, regsLSA⟩]

/-- The row of a page, if R69 assigns it. -/
def pageRow (page : Nat) : Option PageRow := pageTable.find? fun r => r.first ≤ page && page ≤ r.last

/-- The island that owns a page (R16). -/
def islandOf (page : Nat) : Nat := match pageRow page with
  | some r => r.island
  | none => 0

/-- The field table of a word, if its chapter defines the word. -/
def regRow (page word : Nat) : Option RegRow := match pageRow page with
  | some r => r.regs.find? fun q => q.lo ≤ word && word ≤ q.hi
  | none => none

/-- The value a field row gives its bits at reset. -/
def FieldRow.resetBits : FieldRow → Nat
  | .rsv _ _ => 0
  | .fld _ hi lo _ reset _ => reset % 2 ^ (hi + 1 - lo) * 2 ^ lo

/-- Reset values that depend on the index of an array register: MD_NTCMAP (R149), FLT_LEASE (R295), LIM_ZDEF (R232),
LIM_DERATE (R238); and BL_RTAP, which no learning has written at delivery (R190). -/
def resetSpecial (page word : Nat) : Option Nat :=
  if 0x20 ≤ page ∧ page ≤ 0x27 ∧ 0x10 ≤ word ∧ word ≤ 0x1F then
    some ((4 * (word - 0x10) + 3) * 256 + 4 * (word - 0x10))
  else if page = 0x04 ∧ 0x70 ≤ word ∧ word ≤ 0x7F then
    ([0x10000000, 0x20000000, 0x21000000, 0x22000000, 0x30000000, 0x31000000, 0x40000000, 0x50000000])[word - 0x70]?
  else if page = 0x0E ∧ 0x12 ≤ word ∧ word ≤ 0x17 then
    ([2400 * 65536 + 2000, 1200 * 65536 + 1100, 600 * 65536 + 700, 350 * 65536 + 500, 250 * 65536 + 420,
      200 * 65536 + 380])[word - 0x12]?
  else if page = 0x0E ∧ 0x18 ≤ word ∧ word ≤ 0x1F then
    ([(-30, 0, 32), (-20, 8, 64), (0, 32, 112), (10, 96, 128), (45, 128, 128), (55, 64, 96), (60, 16, 48),
      (65, 0, 0)][word - 0x18]?).map fun (e : Int × Nat × Nat) =>
        (e.1 % 256).toNat * 16777216 + e.2.1 * 256 + e.2.2
  else if 0x28 ≤ page ∧ page ≤ 0x2F ∧ 0x68 ≤ word ∧ word ≤ 0x87 then some 0xFFFFFFFF
  else if 0x28 ≤ page ∧ page ≤ 0x2F ∧ word = 0x88 then some 0xFFFF
  else none

/-- What a word reads as after reset when nothing else is said: the Reset column of its field table, and of the common
words (R71 to R76). It is also what an unlisted address of a register file reads as. -/
def resetWord (page word : Nat) : Word :=
  if word = 2 then 1
  else if word = 7 then 0xFFFFFFFF
  else if word < 8 then 0
  else match resetSpecial page word with
    | some v => BitVec.ofNat 32 v
    | none => match regRow page word with
      | some r => BitVec.ofNat 32 (r.rows.foldl (fun acc f => acc + f.resetBits) 0)
      | none => 0

/-- `resetWord` at an address. -/
def resetAt (a : Nat) : Word := resetWord (a / 256) (a % 256)

/-! ### Register words and fields of a state -/

/-- The active copy of the word at an address. -/
def State.reg (s : State) (a : Nat) : Word := (lookupReg a s.regs).getD (resetAt a)

/-- The shadow copy of the word at an address (R78). -/
def State.shadowReg (s : State) (a : Nat) : Word := (lookupReg a s.shadow).getD (resetAt a)

/-- Store a word in the active copy, and nothing else. -/
def State.setReg (s : State) (a : Nat) (v : Word) : State := { s with regs := storeReg (resetAt a) a v s.regs }

/-- Store a word in the shadow copy, and nothing else. -/
def State.setShadow (s : State) (a : Nat) (v : Word) : State :=
  { s with shadow := storeReg (resetAt a) a v s.shadow }

/-- The field as a number. -/
def State.get (s : State) (f : Fld) : Nat := bitsOf (s.reg f.addr) f.hi f.lo

/-- The field as a signed number. -/
def State.getInt (s : State) (f : Fld) : Int := signedOf (f.hi + 1 - f.lo) (s.get f)

/-- A one-bit field. -/
def State.on (s : State) (f : Fld) : Bool := s.get f == 1

/-- The pages whose results belong to frames (R24); on every other page FRAMESEQ names the frame of the last change (R76). -/
def frameTied (page : Nat) : Bool :=
  page == 0x08 || page == 0x09 || page == 0x11 || page == 0x0C || page == 0x0D || page == 0x0E ||
  (0x20 ≤ page && page ≤ 0x2F) || (0x50 ≤ page && page ≤ 0x52)

/-- The sequence of the frame now running (R24). -/
def State.frame (s : State) : Word := s.reg F.THY_FSEQ_SEQ.addr

/-- Apply `f` to what every link keeps. -/
def Links.mapAll (l : Links) (f : LinkSt → LinkSt) : Links := ⟨f l.spi, f l.can0, f l.can1⟩

/-- The window words of RSM and CYL, in which every selected record is a publication of its own (R311, R316). -/
def windowAddr (a : Nat) : Bool :=
  (decide (addrOf 0x14 0x80 ≤ a) && decide (a ≤ addrOf 0x14 0xBF)) || (decide (addrOf 0x15 0x80 ≤ a) && decide (a ≤ addrOf 0x15 0x8F))

/-- A page publishes with a frame sequence: FRAMESEQ, the record that it has published (R105), and the REPEAT sets of the
page empty when the sequence is new (R104), but for the record windows. -/
def State.publish (s : State) (page : Nat) (seq : Word) : State :=
  if s.reg (addrOf page 7) = seq ∧ page ∈ s.published then s
  else
    { s.setReg (addrOf page 7) seq with
      published := if page ∈ s.published then s.published else page :: s.published
      links := s.links.mapAll fun l => { l with seen := l.seen.filter fun a => a / 256 % 256 != page || windowAddr a } }

/-- Store a word. A changed result of a page that is not tied to frames dates the page by the present frame (R76). -/
def State.put (s : State) (a : Nat) (v : Word) : State :=
  if s.reg a = v then s
  else if 0x60 ≤ a % 256 ∧ a % 256 ≤ 0xDF ∧ frameTied (a / 256) = false then (s.setReg a v).publish (a / 256) s.frame
  else s.setReg a v

/-- Set a field. -/
def State.set (s : State) (f : Fld) (v : Nat) : State := s.put f.addr (withBits (s.reg f.addr) f.hi f.lo v)

/-- Set a field from a signed number. -/
def State.setInt (s : State) (f : Fld) (v : Int) : State := s.set f (codeOf (f.hi + 1 - f.lo) v)

/-- Set or clear a one-bit field. -/
def State.setOn (s : State) (f : Fld) (b : Bool) : State := s.set f (ofBool b)

/-- Count in a field, stopping at the field's greatest value. -/
def State.count (s : State) (f : Fld) : State := s.set f (satAdd (s.get f) 1 (2 ^ (f.hi + 1 - f.lo) - 1))

/-- Set an interrupt flag (R73). -/
def State.flag (s : State) (f : Fld) : State := s.set f 1

/-- `f` applied where `b` holds. -/
def State.applyIf (s : State) (b : Bool) (f : State → State) : State := if b then f s else s

/-! ### The variant and its pages -/

/-- The number of fitted M-dies (R5). -/
def State.dies (s : State) : Nat := s.get F.SYS_VARIANT_MDIES

/-- The G-die and the six axes are fitted. -/
def State.hasM (s : State) : Bool := s.on F.SYS_VARIANT_GDIE

/-- The Bay partition is fitted. -/
def State.hasB (s : State) : Bool := s.on F.SYS_VARIANT_BAY

/-- A configuration word as the variant holds it: without M, USE.MATED and USE.HATCH of SCH_CFG read 1 (R396). -/
def State.heldConfig (s : State) (a : Nat) (v : Word) : Word := if a = F.SCH_CFG_USE.addr ∧ s.hasM = false then v ||| 6 else v

/-- The page belongs to a fitted unit (R6, R70). -/
def State.fitted (s : State) (page : Nat) : Bool :=
  if 0x20 ≤ page ∧ page ≤ 0x27 then page - 0x20 < s.dies
  else if 0x28 ≤ page ∧ page ≤ 0x2F then page - 0x28 < s.dies
  else if 0x40 ≤ page ∧ page ≤ 0x4F then s.hasM && (pageRow page).isSome
  else if page = 0x0A then s.hasB
  else (pageRow page).isSome

/-- The fitted dies. -/
def State.dieList (s : State) : List Nat := List.range s.dies

/-- All pages the variant has, ascending. -/
def State.pages (s : State) : List Nat := (List.range 0x53).filter s.fitted

/-- Die `k` is healthy (R7). -/
def State.healthy (s : State) (k : Nat) : Bool := bit (s.get F.SYS_DIEMAP_MD) k

/-- PCTL.EN of a page. -/
def State.enabled (s : State) (page : Nat) : Bool := bit (s.reg (addrOf page 2)).toNat 0

/-! ### Contactors and axes, as registers show them -/

/-- Contactor `m` closed or commanded closed (R84): its auxiliary contact or its high side. -/
def State.cdLive (s : State) (m : Nat) : Bool := bit (s.get F.PRT_STAT_AUX) m || bit (s.get F.PRT_STAT_COIL) m

/-- Contactor `m` reads closed. -/
def State.cdClosed (s : State) (m : Nat) : Bool := bit (s.get F.PRT_STAT_AUX) m

/-- Axis `a` stands still: STATE standstill, held after a stop, or disabled. -/
def State.axStill (s : State) (a : Nat) : Bool :=
  let st := s.get (F.AX_STAT_STATE.on a)
  st == 0 || st == 5 || st == 6

/-- Some axis moves. -/
def State.anyMoving (s : State) : Bool := s.hasM && (List.range 6).any fun a => !s.axStill a

/-- Contactor `m` is closed: its auxiliary contact says so, or for one without a wired contact its high side (R64, R247). -/
def State.cdShut (s : State) (m : Nat) : Bool :=
  s.cdClosed m || (!bit (s.get F.PRT_DRV_AUXEN) m && bit (s.get F.PRT_STAT_COIL) m)

/-- Some contactor is closed. -/
def State.anyCdClosed (s : State) : Bool := (List.range 4).any s.cdShut

/-- A gate of axis `a` switches: its bridge is in RUN and the axis moves or holds current (R356). -/
def State.switching (s : State) (a : Nat) : Bool :=
  s.get (F.GD_STAT_STATE.on a) == 2 && ((s.mot.axes[a]?).map fun x => x.cycle.isSome || decide (2 ≤ x.drive)).getD false

/-- The group of an axis (R340). -/
def State.groupOf (s : State) (a : Nat) : Nat := s.get F.MOT_GROUP_GRP / 4 ^ a % 4

/-- The axis, or some axis of its group, is off standstill (R84). -/
def State.groupMoving (s : State) (a : Nat) : Bool :=
  (List.range 6).any fun x => (x == a || (s.groupOf a != 0 && s.groupOf x == s.groupOf a)) && !s.axStill x

/-- The page's live-unsafe function is active (R84). -/
def State.live (s : State) (page : Nat) : Bool :=
  if page = 0x11 ∨ page = 0x08 then s.cdLive 0 || s.cdLive 1
  else if page = 0x10 then (List.range 4).any s.cdLive
  else if page = 0x40 then s.anyMoving
  else if 0x41 ≤ page ∧ page ≤ 0x46 then s.hasM && s.groupMoving (page - 0x41)
  else if page = 0x48 then s.hasM && (List.range 6).any s.switching
  else if 0x49 ≤ page ∧ page ≤ 0x4E then s.hasM && s.switching (page - 0x49)
  else false

/-- The module has entered RUN and is in service, on the supply or, after PWR_FAIL, on the hold-up store. -/
def State.running (s : State) : Bool := s.pwr.phase == .run || (s.pwr.phase == .holdup && s.get F.PWR_BOOT_STEP == 5)

/-- The C-die runs on the supply: from start-up to PWR_FAIL. -/
def State.alive (s : State) : Bool := s.pwr.phase == .startup || s.pwr.phase == .run || s.pwr.phase == .halt

/-- The C-die runs, on the supply or on the hold-up store. -/
def State.cdieRuns (s : State) : Bool := s.alive || s.pwr.phase == .holdup

/-- The cores pause: a lockstep freeze or a self-test slice is in progress (R286, R291). -/
def State.frozen (s : State) : Bool := s.flt.freezeAt.isSome || s.flt.sliceAt.isSome

/-- Both cores are held in reset. -/
def State.coresHeld (s : State) : Bool := s.get F.FLT_MODE_MODE == 3

/-- The cores run device firmware. -/
def State.coresRun (s : State) : Bool := s.running && !s.frozen && !s.coresHeld

/-- The unit of a page is fitted but has failed (R7): a die not healthy, or the G-die stopped (R407). -/
def State.unhealthy (s : State) (page : Nat) : Bool :=
  if 0x20 ≤ page ∧ page ≤ 0x27 then s.stk.unhealthy.contains (page - 0x20)
  else if 0x28 ≤ page ∧ page ≤ 0x2F then s.stk.unhealthy.contains (page - 0x28)
  else if 0x40 ≤ page ∧ page ≤ 0x4E then s.gdieDown
  else false

/-- A commit has been accepted and the step of this page has not applied (R85). -/
def State.staged (s : State) (page : Nat) : Bool :=
  match s.commit.accepted with
  | some a => a.pages.contains page
  | none => false

/-- A commit that changes the bridge of axis `a` is staged (R85). -/
def State.bridgeStaged (s : State) (a : Nat) : Bool := s.staged (0x49 + a) || s.staged 0x48

/-- At least one fast cell is set on the page, an MD page (R137). -/
def State.hasFast (s : State) (page : Nat) : Bool :=
  decide (0x20 ≤ page) && decide (page ≤ 0x27) && (s.reg (addrOf page 0x0C) ||| s.reg (addrOf page 0x0D)) != 0

/-- PSTAT of a page: the block bits as stored, FAST and the common bits from what they show (R71, R137). -/
def State.pstat (s : State) (page : Nat) : Word :=
  let run := s.running && bit (s.reg (addrOf page 2)).toNat 0 && !s.unhealthy page
  BitVec.ofNat 32 (bitsOf (s.reg (addrOf page 1)) 31 16 * 65536 + ofBool (s.hasFast page) * 65536 + ofBool (s.live page) * 16 +
    ofBool (s.unhealthy page) * 8 + ofBool (s.staged page) * 4 + ofBool (s.commit.pend.contains page) * 2 + ofBool run)

/-! ### Attention and the CAN ports (R73, R107, R110, R113) -/

/-- IFLAG AND IMASK of a page is not zero. -/
def State.attnPage (s : State) (page : Nat) : Bool := s.reg (addrOf page 3) &&& s.reg (addrOf page 4) != 0

/-- The pages with pending unmasked flags, ascending. -/
def State.attnPages (s : State) : List Nat := s.pages.filter s.attnPage

/-- Status bit 7. -/
def State.attention (s : State) : Bool := s.attnPages != []

/-- RUN has not been entered since t = 0: start-up is not over, or PWR_FAIL or HALT came first (R60). -/
def State.beforeRun (s : State) : Bool :=
  s.pwr.phase == .startup || s.pwr.phase == .halt || (s.pwr.phase == .holdup && s.get F.PWR_BOOT_STEP != 5)

/-- What the two CAN links keep, by port. -/
def State.canPort (s : State) (port : Nat) : LinkSt := if port = 0 then s.links.can0 else s.links.can1

/-- The port is enabled and not off the bus. -/
def State.canOn (s : State) (port : Nat) : Bool :=
  s.on (F.HST_CAN0CFG_EN.at port) && decide (s.get (F.HST_CAN0ST_STATE.at port) < 2)

/-- The port is enabled and on the bus: a port that a commit re-initialises is back after 11 recessive bits (R116). -/
def State.canUp (s : State) (port : Nat) : Bool :=
  s.canOn port && ((s.canPort port).joinAt.map fun t => decide (t ≤ s.now)).getD true

/-- Attention messages are switched on for the port. DESIGN CHOICE (log entry 74): none before RUN, when STATUS is refused. -/
def State.attnOn (s : State) (port : Nat) : Bool :=
  s.canOn port && !s.beforeRun && s.on (if port = 0 then F.HST_CTL_CAN0_ATTNMSG else F.HST_CTL_CAN1_ATTNMSG)

/-- The port sends attention messages. -/
def State.attnMessages (s : State) (port : Nat) : Bool := s.attnOn port && s.canUp port

/-- A frame of a port: identifiers, bit rate switch and error state indicator as the port is configured and stands (R110). -/
def State.canTx (s : State) (port id : Nat) (fd : Bool) (bytes : List Byte) : CanTx :=
  ⟨id, s.on (F.HST_CAN0CFG_IDE.at port), fd, fd && s.on (F.HST_CAN0CFG_BRS.at port),
    fd && s.get (F.HST_CAN0ST_STATE.at port) == 1, bytes⟩

/-! ### Events (R300, R301) -/

/-- CUR_OCSTAT as it is to be published (R201, R203). -/
def State.ocWord (s : State) : Word :=
  BitVec.ofNat 32 (s.cur.ocTrips % 65536 * 65536 + s.cur.ocTfail % 256 * 256 + ofBool s.cur.ocChg * 2 + ofBool s.cur.ocDis)

/-- A word of a record: the address of a register and its value, as words 5 onward hold them; of a result that shows with the next
publication the value it will show. -/
def State.pairOf (s : State) (a : Nat) : List Word :=
  [BitVec.ofNat 32 a, if a % 256 = 1 then s.pstat (a / 256) else if a = F.CUR_OCSTAT_TFAIL.addr then s.ocWord else s.reg a]

/-- Put an event on its way to island 1. -/
def State.send (s : State) (e : Event) : State := { s with rsm := { s.rsm with inbox := s.rsm.inbox ++ [e] } }

/-- Send an event to island 1: IFLAG and PSTAT of the page, then the registers named as effects (R300). -/
def State.raise (s : State) (page : Nat) (low : EventLow) (cls source : Nat) (effects : List Nat := []) : State :=
  s.send ⟨page, low, cls, source, s.now, s.frame, (addrOf page 3 :: addrOf page 1 :: effects).flatMap s.pairOf, false, none⟩

/-- SOURCE of an event of a page: the M-die for MD and BL pages, the G-die for GDR and GD pages, else the island (R300). -/
def sourceOf (page : Nat) : Nat :=
  if 0x20 ≤ page ∧ page ≤ 0x27 then 0x08 + (page - 0x20)
  else if 0x28 ≤ page ∧ page ≤ 0x2F then 0x08 + (page - 0x28)
  else if 0x48 ≤ page ∧ page ≤ 0x4E then 0x10
  else islandOf page

/-- Set an interrupt flag and raise the event that carries its bit number (R301). -/
def State.flagEvent (s : State) (f : Fld) (cls : Nat) (effects : List Nat := []) : State :=
  (s.flag f).raise f.page (.flag f.lo) cls (sourceOf f.page) effects

/-- The bit of AX_IFLAG whose event an outcome of a motion cycle raises (R346). -/
def outcomeFlag : Nat → Option Nat
  | 3 => some 1
  | 4 => some 2
  | 5 => some 3
  | 6 => some 4
  | 7 => some 4
  | 8 => some 4
  | _ => none

/-- Raise an event whose low byte the release notes list (R301). -/
def State.listed (s : State) (page tag cls : Nat) (effects : List Nat := []) : State :=
  s.raise page (.listed tag) cls (sourceOf page) effects

/-! ### Time -/

/-- The moment of an event: the time base stands at it or later. -/
def State.advanceTo (s : State) (t : Nat) : State := { s with now := max s.now t }

/-- The frame period coded by a SEL value, in µs (R117). -/
def periodOf (sel : Nat) : Nat := 250 * 2 ^ min sel 4

/-- The active frame period in µs. -/
def State.period (s : State) : Nat := periodOf (s.get F.THY_STAT_ACTIVE)

/-- The Sage step in frames (R24). -/
def State.sageStep (s : State) : Nat :=
  if s.period = 250 then 4 else if s.period = 500 then 2 else 1

/-- The time of the next frame boundary; before RUN the boundaries lie 1 ms apart (R59). -/
def State.nextBoundary (s : State) : Nat :=
  if s.thy.started then s.thy.boundary + s.period else (s.now / 1000 + 1) * 1000

/-- A sequence lies ahead of another, counted modulo 2³² (R105). -/
def laterSeq (a b : Nat) : Bool :=
  let d := (a + 4294967296 - b) % 4294967296
  decide (0 < d) && decide (d < 2147483648)

/-! ### CRCs -/

/-- One bit of the CRC-8 of R94. -/
def crc8Bit (c : Nat) : Nat := if c < 128 then c * 2 else (c * 2 % 256) ^^^ 0x2F

/-- `n` steps of a function. -/
def iter (f : Nat → Nat) : Nat → Nat → Nat
  | 0, x => x
  | n + 1, x => iter f n (f x)

/-- The CRC-8 of R94 over bytes: polynomial 0x2F, initial value 0xFF, final XOR 0xFF, no reflection. -/
def crc8 (bytes : List Nat) : Nat := (bytes.foldl (fun c b => iter crc8Bit 8 (c ^^^ (b % 256))) 0xFF) ^^^ 0xFF

/-- One bit of a reflected CRC-32 with the given reversed polynomial. -/
def crc32Bit (poly c : Nat) : Nat := if c % 2 = 1 then (c / 2) ^^^ poly else c / 2

/-- A reflected CRC-32 with initial value and final XOR of all ones. -/
def crc32With (poly : Nat) (bytes : List Nat) : Nat :=
  (bytes.foldl (fun c b => iter (crc32Bit poly) 8 (c ^^^ (b % 256))) 0xFFFFFFFF) ^^^ 0xFFFFFFFF

/-- The CRC-32 of ISO/IEC/IEEE 8802-3 (R312). -/
def crc32 (bytes : List Nat) : Nat := crc32With 0xEDB88320 bytes

/-- The four bytes of a word, lowest first (R300). -/
def bytesLE (w : Word) : List Nat :=
  [w.toNat % 256, w.toNat / 256 % 256, w.toNat / 65536 % 256, w.toNat / 16777216]

/-- The `n` bytes of a number, highest first. -/
def bytesBE : Nat → Nat → List Nat
  | 0, _ => []
  | n + 1, v => v / 256 ^ n % 256 :: bytesBE n v

/-- The number whose bytes, highest first, are given. -/
def ofBytesBE (bytes : List Nat) : Nat := bytes.foldl (fun acc b => acc * 256 + b % 256) 0

end Sys2Proof.Machine
end

