-- ==== Sys2Proof/Machine/Leases.lean ====
section
/-! DEFINITION. Link bookkeeping and the lease slots of island 1 (R88, R108, R295 to R298). -/
namespace Sys2Proof.Machine
open Host

/-! ### Links -/

/-- What a link keeps. -/
def State.link (s : State) : Link → LinkSt
  | .spi => s.links.spi
  | .can0 => s.links.can0
  | .can1 => s.links.can1

/-- Change what a link keeps. -/
def State.onLink (s : State) (l : Link) (f : LinkSt → LinkSt) : State :=
  match l with
  | .spi => { s with links := { s.links with spi := f s.links.spi } }
  | .can0 => { s with links := { s.links with can0 := f s.links.can0 } }
  | .can1 => { s with links := { s.links with can1 := f s.links.can1 } }

/-- The number of a link: SPI 0, CAN0 1, CAN1 2. -/
def linkNo : Link → Nat
  | .spi => 0
  | .can0 => 1
  | .can1 => 2

/-- The link of a number. -/
def linkOf : Nat → Link
  | 0 => .spi
  | 1 => .can0
  | _ => .can1

/-- The link of a CAN port. -/
def canLink (port : Nat) : Link := if port = 0 then .can0 else .can1

/-- A port that has begun to send attention messages reports no ATTN that had set before (R113); `could` says that it sent them
already. -/
def State.settleAttn (s : State) (port : Nat) (could : Bool) : State :=
  if s.attnOn port && !could then s.onLink (canLink port) fun k => { k with attnTold := s.attention } else s

/-- The link holds the CFG unlock (R88). -/
def State.unlocked (s : State) (l : Link) : Bool :=
  match (s.link l).cfgUntil with
  | some t => decide (s.now < t)
  | none => false

/-- The link holds the safety unlock (R397). -/
def State.safUnlocked (s : State) (l : Link) : Bool :=
  match (s.link l).safUntil with
  | some t => decide (s.now < t)
  | none => false

/-! ### Leases -/

/-- HOLDER codes of FLT_LEASE. -/
def partyPair : Nat := 1
def partyIsland1 : Nat := 4
def partyIsland2 : Nat := 5
def partyIsland3 : Nat := 6

/-- The party that runs device firmware: the pair, or the core of degraded mode. With both cores held in reset island 1 has the
saves (log entry 61). -/
def State.coreParty (s : State) : Nat := s.get F.FLT_MODE_MODE + 1

/-- The holder of a slot; 0 = none. -/
def State.leaseHolder (s : State) (slot : Nat) : Nat := s.get (F.FLT_LEASE_HOLDER.at slot)

/-- STATE of a slot: 0 free, 1 held, 2 frozen, 3 in recovery. -/
def State.leaseState (s : State) (slot : Nat) : Nat := s.get (F.FLT_LEASE_STATE.at slot)

/-- What is kept beside a slot's word. -/
def State.lease (s : State) (slot : Nat) : LeaseSt := (s.flt.leases[slot]?).getD {}

/-- Change what is kept beside a slot's word. -/
def State.onLease (s : State) (slot : Nat) (f : LeaseSt → LeaseSt) : State :=
  { s with flt := { s.flt with leases := s.flt.leases.modify slot f } }

/-- Time to expiry of a held lease, 0.1 µs: 50 µs after the last renewal (R295). -/
def State.leaseLeft (s : State) (slot : Nat) : Nat := 500 - 10 * (s.now - (s.lease slot).renewed)

/-- STATE of a lease given to a party: the clock of one that the pair gets during a lockstep freeze stands (R296). -/
def State.grantState (s : State) (party : Nat) : Nat := if party = partyPair ∧ s.flt.freezeAt.isSome then 2 else 1

/-- Give a free slot to a party. -/
def State.grantLease (s : State) (slot party : Nat) : State :=
  (((s.set (F.FLT_LEASE_HOLDER.at slot) party).set (F.FLT_LEASE_STATE.at slot) (s.grantState party)).set
    (F.FLT_LEASE_LEFT.at slot) 500).onLease slot fun l => { l with renewed := s.now }

/-- A party may use a slot now: it is free, or the party holds it. -/
def State.slotOpen (s : State) (slot party : Nat) : Bool :=
  s.leaseState slot == 0 || (s.leaseHolder slot == party && s.leaseState slot == 1)

/-- The party holds the slot. -/
def State.holdsSlot (s : State) (slot party : Nat) : Bool := s.leaseHolder slot == party && s.leaseState slot == 1

/-- A party asks for a slot: it gets a free one, renews its own, or queues (R295). Slots 8 to 15 are not assigned. -/
def State.acquireLease (s : State) (slot party : Nat) : State :=
  if 8 ≤ slot then s
  else if s.leaseState slot = 0 then s.grantLease slot party
  else if s.leaseHolder slot = party ∧ s.leaseState slot = 1 then s.onLease slot fun l => { l with renewed := s.now }
  else if (s.lease slot).queue.contains party then s
  else s.onLease slot fun l => { l with queue := l.queue ++ [party] }

/-- A slot falls free and passes to the party that has waited longest (R295). -/
def State.releaseLease (s : State) (slot : Nat) : State :=
  let s := ((s.set (F.FLT_LEASE_HOLDER.at slot) 0).set (F.FLT_LEASE_STATE.at slot) 0).set (F.FLT_LEASE_LEFT.at slot) 0
  match (s.lease slot).queue with
  | [] => s
  | p :: rest => (s.onLease slot fun l => { l with queue := rest }).grantLease slot p

/-- A party has a slot for one transfer: it does it and gives the slot back; while another has the slot it queues for it, and
the transfer waits (R295). Slot and transfer fall into one moment, so that the page shows the lease only where it had waited
(log entry 104). -/
def State.withSlot (s : State) (slot party : Nat) (f : State → State) : State :=
  if s.holdsSlot slot party then (f s).releaseLease slot
  else if s.leaseState slot = 0 then f s
  else s.acquireLease slot party

/-- A slot at the end of its queue: what was under way on it and what waited has ended, and it is free (R57, R64). -/
def State.clearSlot (s : State) (slot : Nat) : State := (s.onLease slot fun l => { l with queue := [] }).releaseLease slot

/-- The reply buffer of a link is cleared, and the request it answered is executed again, unless it is in execution: a CAN frame
from its first record (R298; log entry 105). -/
def State.clearReply (s : State) (l : Link) : State :=
  match l with
  | .spi =>
    let k := s.links.spi
    let s := s.onLink .spi fun k => { k with
      reply := ⟨0, 0, 0, 0⟩, formed := none, waiting := if k.waiting.isSome then k.waiting else k.formed }
    if k.waiting.isNone && k.formed.isSome then
      { s with flt := { s.flt with waitOrder := s.flt.waitOrder ++ [linkNo l] } }
    else s
  | _ => s.onLink l fun k => { k with frames := match k.frames with
      | f :: rest => { f with todo := f.records, done := [] } :: rest
      | [] => [] }

/-- What a revoked lease leaves on its resource (R298): a reply buffer is cleared; a record half written into staging is dropped
and counted; the tokens return to the island that gives them, the stack link's to island 3 and the ring's to island 2, and a mirror
image in transfer is to be sent again. -/
def State.putInOrder (s : State) (slot : Nat) : State :=
  if 1 ≤ slot ∧ slot ≤ 3 then s.clearReply (linkOf (slot - 1))
  else if slot = 6 then { s with ring := { s.ring with
    imageDue := s.ring.imageDue || (s.ring.image.isSome && s.leaseHolder 6 == partyIsland2) } }
  else if slot = 7 then { s with flt := { s.flt with partialDrops := s.flt.partialDrops + 1 } }
  else s

/-- The island to which a revoked token returns; 0 for a resource that is no token (R298). -/
def tokenHome (slot : Nat) : Nat := if slot = 4 ∨ slot = 5 then partyIsland3 else if slot = 6 then partyIsland2 else 0

/-- Revoke a lease (R296): flagged and counted. The MRAM port goes into recovery by island 1, which needs it no more in the queue;
every other resource is put in order at once and passes on, a token for which nobody waits to its island (R298). -/
def State.revokeLease (s : State) (slot : Nat) : State :=
  let s := (s.flag F.FLT_IFLAG_REVOKE).count F.FLT_COUNT_REVOKE
  if slot = 0 then
    let party := s.leaseHolder 0
    let s := ((s.set (F.FLT_LEASE_HOLDER.at 0) partyIsland1).set (F.FLT_LEASE_STATE.at 0) 3).set (F.FLT_LEASE_LEFT.at 0) 500
    let s := s.onLease 0 fun l => { l with queue := l.queue.filter (· != partyIsland1) }
    { s with flt := { s.flt with recovering := some party } }
  else
    let s := (s.putInOrder slot).releaseLease slot
    if tokenHome slot ≠ 0 ∧ s.leaseState slot = 0 then s.grantLease slot (tokenHome slot) else s

/-- The slots. -/
def leaseSlots : List Nat := [0, 1, 2, 3, 4, 5, 6, 7]

/-- Revoke every lease a party holds, held or frozen. -/
def State.revokeAll (s : State) (party : Nat) : State :=
  leaseSlots.foldl (fun s slot =>
    if s.leaseHolder slot = party ∧ s.leaseState slot ≠ 3 then s.revokeLease slot else s) s

/-- A party's leases are revoked, and it waits for none (R296). -/
def State.dropParty (s : State) (party : Nat) : State :=
  let leases := s.flt.leases.map fun l => { l with queue := l.queue.filter (· != party) }
  { s with flt := { s.flt with leases := leases } }.revokeAll party

/-- Stop the expiry clocks of a party's leases, 0.5 µs after a mismatch (R286, R296). -/
def State.freezeLeases (s : State) (party : Nat) : State :=
  leaseSlots.foldl (fun s slot =>
    if s.leaseHolder slot = party ∧ s.leaseState slot = 1 then
      (s.set (F.FLT_LEASE_LEFT.at slot) (s.leaseLeft slot - 5)).set (F.FLT_LEASE_STATE.at slot) 2
    else s) s

/-- LEASE_ACQUIRE: a party acquires a lease, renews it, or queues for it. -/
def execLeaseAcquire (slot party : Nat) (s : State) : Outcome State Fault Refusal := .next (s.acquireLease slot party)

/-! ### The MRAM write port (R21, R23, R297, R298) -/

/-- A party may write through the port now: it is free, or the party holds it. -/
def State.portOpen (s : State) (party : Nat) : Bool := s.slotOpen 0 party

/-- The party holds the port. -/
def State.holdsPort (s : State) (party : Nat) : Bool := s.holdsSlot 0 party

/-- A party saves by a journaled write: the entry stands in the journal until its party has had the port and releases it;
what it replaces is what MRAM holds if the entry is discarded. -/
def State.journalBy (s : State) (party : Nat) (old : List Kept) : State :=
  ({ s with journal := s.journal ++ [⟨party, old⟩] } : State).acquireLease 0 party

/-- Device firmware saves by a journaled write. -/
def State.journalWrite (s : State) (old : List Kept) : State := s.journalBy s.coreParty old

/-- MRAM as it was before a journaled write. -/
def State.restoreKept (s : State) : Kept → State
  | .word a v => s.setReg a v
  | .saved x => { s with saved := x }
  | .degrLeft n => { s with flt := { s.flt with savedLeft := n } }
  | .password saf w => if saf then { s with spw := { s.spw with pw := w } } else { s with pw := { s.pw with pw := w } }
  | .bank b => { s with fw := { s.fw with prefB := b } }
  | .anchor l => { s with aut := { s.aut with anchor := l } }
  | .ids l => { s with aut := { s.aut with ids := l } }
  | .tables l => { s with sage := { s.sage with tables := l } }
  | .safLog l => { s with saf := { s.saf with log := l } }
  | .copies a b x y => { s with sage := { s.sage with copyA := a, copyB := b, badA := x, badB := y } }

/-- The journal without the first `n` entries of a party. -/
def dropOwn (party : Nat) : Nat → List JournalEntry → List JournalEntry
  | _, [] => []
  | 0, l => l
  | n + 1, e :: l => if e.party = party then dropOwn party n l else e :: dropOwn party (n + 1) l

/-- The writes of some entries undone, the newest first. -/
def State.undoEntries (s : State) (l : List JournalEntry) : State :=
  l.foldr (fun e s => e.old.foldr (fun k s => s.restoreKept k) s) s

/-- Save a value of a word beside the configuration (R21, R140). -/
def State.saveValue (s : State) (a : Nat) (v : Int) : State :=
  { s with saved := { s.saved with words := (a, BitVec.ofInt 32 v) :: s.saved.words.filter fun w => w.1 != a } }

/-- A change of saved register words, with its journaled write (R21). -/
def State.saving (s : State) (words : List Nat) (f : State → State) : State :=
  (f s).journalWrite (words.map fun a => .word a (s.reg a))

/-- Count in a life count, which is saved (R21). -/
def State.countLife (s : State) (f : Fld) : State := s.saving [f.addr] fun s => s.count f

/-- Something stands before the firmware image at the port (R89): Rosemary, Sage, the journal, the ledger. -/
def State.beforeImage (s : State) : Bool :=
  s.rsm.flushDue || s.rsm.flushing || s.sage.wbDue || s.sage.wbData.isSome || !s.journal.isEmpty || !s.cyl.buffer.isEmpty

/-- Words of an image written into what a bank holds: (offset, word). -/
def writeBank (words bank : List (Nat × Word)) : List (Nat × Word) :=
  words.foldl (fun l w => w :: l.filter fun e => e.1 != w.1) bank

/-- The waiting words of a firmware image are stored in the target bank. -/
def State.storeImage (s : State) : State :=
  let f := s.fw
  { s with fw := { f with
      bankA := if f.targetB then f.bankA else writeBank f.waiting f.bankA
      bankB := if f.targetB then writeBank f.waiting f.bankB else f.bankB, waiting := [] } }

/-- The valid half of the mirror held. -/
def State.mirrorHeld (s : State) : Option MirrorHalf := if s.ring.newest1 then s.ring.half1 else s.ring.half0

/-- KRG_MIRSTAT shows the mirror held (R273). -/
def State.showHeld (s : State) : State :=
  match s.mirrorHeld with
  | some h => (s.set F.KRG_MIRSTAT_HELD h.source).setOn F.KRG_MIRSTAT_HVALID true
  | none => s

/-- An image of the upstream neighbour goes into the half that does not hold the newest valid one (R273). -/
def State.storeMirror (s : State) : State :=
  match s.ring.stored with
  | none => s
  | some h =>
    let to1 := !s.ring.newest1 && s.ring.half0.isSome
    let same := fun (o : Option MirrorHalf) => o.bind fun x => if x.source = h.source then some x else none
    { s with ring := { s.ring with
      half0 := if to1 then same s.ring.half0 else some h, half1 := if to1 then some h else same s.ring.half1
      newest1 := to1, stored := none } }.showHeld

/-- CYL_ACKED goes into MRAM, which island 1 writes (R21, R23). -/
def State.saveAcked (s : State) : State := { s with cyl := { s.cyl with acked := s.get F.CYL_ACKED_SEQ } }

/-- What a party's turn at the port completes: its journaled writes, for island 1 the acknowledgement of the ledger, for island 2
the mirror image, and for device firmware the words of a firmware image, when nothing stands before them. -/
def State.finishPort (s : State) (party : Nat) : State :=
  let s := { s with journal := s.journal.filter fun e => e.party != party }
  let s := s.applyIf (party == partyIsland1) State.saveAcked
  let s := s.applyIf (party == s.coreParty && !s.beforeImage) State.storeImage
  s.applyIf (party == partyIsland2) State.storeMirror

/-- Words of a firmware image that wait reach the port, behind everything else (R89). -/
def State.offerImage (s : State) : State :=
  if s.fw.waiting.isEmpty || s.beforeImage then s
  else if s.portOpen s.coreParty then s.storeImage
  else s.acquireLease 0 s.coreParty

/-- A party releases the port. -/
def State.releasePort (s : State) (party : Nat) : State := ((s.finishPort party).releaseLease 0).offerImage

end Sys2Proof.Machine
end

