-- ==== Sys2Proof/Machine/Operands.lean ====
section
/-! DEFINITION. Operand forms the chapters share: entries of measured lists, per-die and per-cell views, tables of the filter
corners, cell temperatures (R11, R133, R142, R149). -/
namespace Sys2Proof.Machine

/-- Entry `i` of a list of quantities; a missing entry reads 0. -/
def entry (l : List Int) (i : Nat) : Int := (l[i]?).getD 0

/-- Entry `i` of a list of counts; a missing entry reads 0. -/
def entryNat (l : List Nat) (i : Nat) : Nat := (l[i]?).getD 0

/-- The count kept for a key. -/
def countOf (l : List (Nat × Nat)) (key : Nat) : Nat :=
  match l with
  | [] => 0
  | (k, v) :: r => if k = key then v else countOf r key

/-- The list with the count of a key replaced; a count of 0 is not listed. -/
def putCount (key v : Nat) (l : List (Nat × Nat)) : List (Nat × Nat) :=
  let r := l.filter fun e => e.1 != key
  if v = 0 then r else (key, v) :: r

/-- What is kept for die `k`. -/
def State.die (s : State) (k : Nat) : DieSt := (s.dieSt[k]?).getD {}

/-- Change what is kept for die `k`. -/
def State.onDie (s : State) (k : Nat) (f : DieSt → DieSt) : State := { s with dieSt := s.dieSt.modify k f }

/-- Change what balancing keeps for die `k`. -/
def State.onBal (s : State) (k : Nat) (f : BalanceSt → BalanceSt) : State :=
  s.onDie k fun d => { d with bal := f d.bal }

/-- Bit `i` of a pair of words, `_LO` and `_HI`. -/
def State.bit64 (s : State) (lo hi : Fld) (i : Nat) : Bool :=
  if i < 32 then bit (s.get lo) i else bit (s.get hi) (i - 32)

/-- A pair of words from a set of bit numbers. -/
def State.set64 (s : State) (lo hi : Fld) (f : Nat → Bool) : State :=
  (s.set lo (bitMap 32 f)).set hi (bitMap 32 fun i => f (i + 32))

/-- Local cell `i` of die `k` is in use (R144). -/
def State.inUse (s : State) (k i : Nat) : Bool := s.bit64 (F.MD_CELLEN_LO_EN.on k) (F.MD_CELLEN_HI_EN.on k) i

/-- The local cells of a die. -/
def cellList : List Nat := List.range 64

/-- The span T_F and the group delay of a filter corner, µs (R133). -/
def spanOf (corner : Nat) : Nat := entryNat [16000, 4000, 800, 200] corner
def delayOf (corner : Nat) : Nat := entryNat [8000, 2000, 400, 100] corner

/-- T_F in force, µs. All fitted MD pages hold the same corner (R134). -/
def State.filterSpan (s : State) : Nat := spanOf (s.get F.MD_FILT_CORNER)

/-! ### Fields of a published cell word (R142) -/

def cellV (w : Word) : Int := signedOf 24 (bitsOf w 23 0)
def cellS (w : Word) : Bool := bit w.toNat 24
def cellD (w : Word) : Bool := bit w.toNat 25
def cellC (w : Word) : Bool := bit w.toNat 26
def cellQ (w : Word) : Bool := bit w.toNat 27

/-- The published word of local cell `i` of die `k`. -/
def State.cellWord (s : State) (k i : Nat) : Word := s.reg ((F.MD_CELL_CELL.on k).at i).addr

/-- The cell counts as carrying D, or S, wherever a function uses cell words: a cell of an unhealthy die carries both (R130). -/
def State.carriesD (s : State) (k i : Nat) : Bool := !s.healthy k || cellD (s.cellWord k i)
def State.carriesS (s : State) (k i : Nat) : Bool := !s.healthy k || cellS (s.cellWord k i)

/-- An in-use cell without D or S. -/
def State.clean (s : State) (k i : Nat) : Bool := s.inUse k i && !s.carriesD k i && !s.carriesS k i

/-! ### Temperatures (R148, R149) -/

/-- ln of the ratio `n / d` of two positive numbers in units of 10⁻¹², by halving or doubling into [2/3, 4/3] and the
inverse-hyperbolic-tangent series. -/
def lnSeries (n d : Nat) : Int :=
  let t : Int := ((n : Int) - d) * 1000000000000000 / ((n : Int) + d)
  let t2 := t * t / 1000000000000000
  let go := fun (acc : Int × Int) (j : Nat) => (acc.1 + acc.2 / (2 * j + 1), acc.2 * t2 / 1000000000000000)
  let sum := (List.range 9).foldl go (0, t)
  2 * sum.1 / 1000

def lnScaled : Nat → Nat → Nat → Int
  | 0, n, d => lnSeries n d
  | f + 1, n, d =>
    if 3 * n > 4 * d then 693147180560 + lnScaled f n (2 * d)
    else if 3 * n < 2 * d then lnScaled f (2 * n) d - 693147180560
    else lnSeries n d

/-- STATE and T of an NTC input from its SAR code (R148; code and rounding are log entry 89): T code 0x8000 unless the input is
valid. -/
def ntcResult (code rnom beta : Nat) : Nat × Nat :=
  if code * 1000 > 995 * 65536 then (1, 0x8000)
  else if code * 1000 < 5 * 65536 then (2, 0x8000)
  else
    let ln := lnScaled 24 (10000 * code) ((65536 - code) * rnom)
    let den : Int := 100000000000000 * beta + 29815 * ln
    let t := roundDiv (100000000000000 * 29815 * beta) den.toNat - 27315
    (0, codeOf 16 (clampInt (-5500) 15000 t))

/-- NTC input `q` of die `k` is valid in the publication. -/
def State.ntcValid (s : State) (k q : Nat) : Bool := s.get ((F.MD_NTC_STATE.on k).at q) == 0

/-- The highest of a list of numbers. -/
def maxOf : List Int → Option Int
  | [] => none
  | x :: l => match maxOf l with
    | none => some x
    | some m => some (max x m)

/-- The lowest of a list of numbers. -/
def minOf : List Int → Option Int
  | [] => none
  | x :: l => match minOf l with
    | none => some x
    | some m => some (min x m)

/-- The temperature of a cell, 0.01 °C (R149). -/
def State.cellTemp (s : State) (k i : Nat) : Int :=
  let valid := (List.range 16).filter (s.ntcValid k)
  let t := fun q => s.getInt ((F.MD_NTC_T.on k).at q)
  let covers := fun q =>
    decide (s.get ((F.MD_NTCMAP_FIRST.on k).at q) ≤ i) && decide (i ≤ s.get ((F.MD_NTCMAP_LAST.on k).at q))
  match maxOf ((valid.filter covers).map t) with
  | some m => m
  | none => match maxOf (valid.map t) with
    | some m => m
    | none => s.getInt (F.MD_DIE_TDIE.on k)

/-- The mean of a list, rounded to the nearest integer; 0 for an empty list. -/
def meanOf (l : List Int) : Int := roundDiv l.sum l.length

/-- Insertion into an ascending list. -/
def insertSorted (x : Int) : List Int → List Int
  | [] => [x]
  | y :: l => if x ≤ y then x :: y :: l else y :: insertSorted x l

/-- A list in ascending order. -/
def sortInt (l : List Int) : List Int := l.foldr insertSorted []

/-- The median of R157: for an even count the mean of the two middle values, rounded down. -/
def medianOf (l : List Int) : Int :=
  let m := sortInt l
  let n := m.length
  if n = 0 then 0
  else if n % 2 = 1 then entry m (n / 2)
  else (entry m (n / 2 - 1) + entry m (n / 2)) / 2

end Sys2Proof.Machine
end

