-- ==== Sys2Proof/Machine/Profile.lean ====
section
/-! DEFINITION. Jerk-limited profiles (R338, R340, R346): planning over rationals, and where a profile stands after a time. -/
namespace Sys2Proof.Machine

/-- Position, velocity and acceleration. -/
structure Kin where
  x : Rat
  v : Rat
  a : Rat
deriving DecidableEq, Repr

/-- The motion after a time of constant jerk. -/
def Kin.after (k : Kin) (j t : Rat) : Kin :=
  ⟨k.x + k.v * t + k.a * t * t / 2 + j * t * t * t / 6, k.v + k.a * t + j * t * t / 2, k.a + j * t⟩

/-- The motion a time after the begin of a plan; past its end it rests where the plan ends. -/
def runPlan : List Segment → Kin → Rat → Kin
  | [], k, _ => k
  | g :: l, k, t => if t < g.time then k.after g.jerk t else runPlan l (k.after g.jerk g.time) (t - g.time)

/-- The duration of a plan. -/
def planTime (l : List Segment) : Rat := l.foldl (fun acc g => acc + g.time) 0

/-- One step of Newton's square root. -/
def sqrtStep (n x : Nat) : Nat := if x = 0 then 0 else (x + n / x) / 2

/-- The integer square root of `n`, found from above. -/
def isqrt : Nat → Nat → Nat → Nat
  | 0, _, x => x
  | f + 1, n, x => let y := sqrtStep n x; if y < x then isqrt f n y else x

/-- The square root of a rational, to 10⁻⁹. -/
def sqrtRat (q : Rat) : Rat :=
  if q ≤ 0 then 0
  else
    let n := (q * 1000000000000000000).floor.toNat
    ((isqrt 256 n (n + 1) : Nat) : Rat) / 1000000000

/-- The sign of a rational. -/
def signRat (q : Rat) : Rat := if q < 0 then -1 else if q = 0 then 0 else 1

/-- The velocity reached when the present acceleration is taken away at the jerk limit. -/
def restVelocity (v0 a0 j : Rat) : Rat := v0 + a0 * a0 * signRat a0 / (2 * j)

/-- The segments that bring velocity `v0` with acceleration `a0` to velocity `v1` without acceleration, within acceleration
`lim` and jerk `j`. -/
def velChange (v0 a0 v1 lim j : Rat) : List Segment :=
  let s := signRat (v1 - restVelocity v0 a0 j)
  if s = 0 then [⟨-(signRat a0) * j, a0 * signRat a0 / j⟩]
  else
    let dv := s * (v1 - v0)
    let b := s * a0
    let peak := sqrtRat (j * dv + b * b / 2)
    if peak ≤ lim then [⟨s * j, (peak - b) / j⟩, ⟨-s * j, peak / j⟩]
    else
      let t1 := if b ≤ lim then (lim - b) / j else (b - lim) / j
      let rest := dv - (lim + b) / 2 * t1 - lim * lim / (2 * j)
      [⟨if b ≤ lim then s * j else -s * j, t1⟩, ⟨0, if rest ≤ 0 then 0 else rest / lim⟩, ⟨-s * j, lim / j⟩]

/-- From the present velocity and acceleration to the peak velocity: through zero where the direction turns; with AMAX where the
speed has still to rise once the present acceleration has gone, else with DMAX (R338). -/
def toPeak (v0 a0 vp : Rat) (l : Limits) : List Segment :=
  if v0 * vp < 0 then velChange v0 a0 0 l.d l.j ++ velChange 0 0 vp l.a l.j
  else if vp ≠ 0 ∧ restVelocity v0 a0 l.j * signRat vp ≤ vp * signRat vp then velChange v0 a0 vp l.a l.j
  else velChange v0 a0 vp l.d l.j

/-- The displacement over a plan. -/
def travel (plan : List Segment) (v0 a0 : Rat) : Rat := (runPlan plan ⟨0, v0, a0⟩ (planTime plan)).x

/-- The plan with a given peak velocity and a cruise of a given time. -/
def planWith (v0 a0 vp cruise : Rat) (l : Limits) : List Segment :=
  toPeak v0 a0 vp l ++ [⟨0, cruise⟩] ++ velChange vp 0 0 l.d l.j

/-- Bisection for the highest peak velocity whose plan without cruise does not overshoot the distance. -/
def findPeak (v0 a0 dist : Rat) (l : Limits) : Nat → Rat → Rat → Rat
  | 0, lo, _ => lo
  | f + 1, lo, hi =>
    let mid := (lo + hi) / 2
    if travel (planWith v0 a0 mid 0 l) v0 a0 ≤ dist then findPeak v0 a0 dist l f mid hi else findPeak v0 a0 dist l f lo mid

/-- The profile to a distance from the present velocity and acceleration, ending at rest there (R338): at the velocity limit
where the distance allows, else with the peak velocity lowered. -/
def planMove (v0 a0 dist : Rat) (l : Limits) : List Segment :=
  let up := travel (planWith v0 a0 l.v 0 l) v0 a0
  let down := travel (planWith v0 a0 (-l.v) 0 l) v0 a0
  if dist = 0 ∧ v0 = 0 ∧ a0 = 0 then []
  else if up ≤ dist then planWith v0 a0 l.v ((dist - up) / l.v) l
  else if dist ≤ down then planWith v0 a0 (-l.v) ((down - dist) / l.v) l
  else
    let vp := findPeak v0 a0 dist l 48 (-l.v) l.v
    let rest := dist - travel (planWith v0 a0 vp 0 l) v0 a0
    planWith v0 a0 vp (if 0 < vp then rest / vp else 0) l

/-- The ramp to rest with deceleration `d` and jerk `j` (R346). -/
def planStop (v0 a0 d j : Rat) : List Segment :=
  if v0 = 0 ∧ a0 = 0 then [] else velChange v0 a0 0 d j

/-- A run-up to a velocity that is then kept (homing, R341): the cruise lasts the 120 s a homing may take. -/
def planRun (v0 a0 v : Rat) (l : Limits) : List Segment := toPeak v0 a0 v l ++ [⟨0, 200⟩]

/-- A plan scaled by a distance (R340). -/
def scalePlan (k : Rat) (plan : List Segment) : List Segment := plan.map fun g => { g with jerk := g.jerk * k }

end Sys2Proof.Machine
end

