-- ==== Sys2Proof/Machine/Motion.lean ====
section
/-! DEFINITION. Motion axes: starts, cycles, homing, stops, envelope, named positions (R334 to R349). -/
namespace Sys2Proof.Machine
open Host

/-! ### Axes -/

/-- What is kept for axis `a`. -/
def State.axis (s : State) (a : Nat) : AxisSt := (s.mot.axes[a]?).getD {}

/-- Change what is kept for axis `a`. -/
def State.onAxis (s : State) (a : Nat) (f : AxisSt → AxisSt) : State :=
  { s with mot := { s.mot with axes := s.mot.axes.modify a f } }

/-- Change the cycle of axis `a`. -/
def State.onCycle (s : State) (a : Nat) (f : Cycle → Cycle) : State := s.onAxis a fun x => { x with cycle := x.cycle.map f }

/-- The axes. -/
def axisList : List Nat := [0, 1, 2, 3, 4, 5]

/-- STATE of an axis: 0 standstill, 1 waiting, 2 moving, 3 homing, 4 stopping, 5 held after a stop, 6 disabled. -/
def State.axState (s : State) (a : Nat) : Nat := s.get (F.AX_STAT_STATE.on a)
def State.setAxState (s : State) (a v : Nat) : State := s.set (F.AX_STAT_STATE.on a) v

/-- STATE of the bridges of an axis. -/
def State.gdState (s : State) (a : Nat) : Nat := s.get (F.GD_STAT_STATE.on a)

/-- The axis has an encoder. -/
def State.hasEnc (s : State) (a : Nat) : Bool := s.on (F.AX_CFG_ENC.on a)

/-- The axis is homed, in its status and in MOT_STAT. -/
def State.homed (s : State) (a : Nat) : Bool := s.on (F.AX_STAT_HOMED.on a)
def State.setHomed (s : State) (a : Nat) (v : Bool) : State :=
  (s.setOn (F.AX_STAT_HOMED.on a) v).set F.MOT_STAT_HOMED (withBit (s.get F.MOT_STAT_HOMED) a v)

/-- MOVING of an axis: off standstill. -/
def State.setMoving (s : State) (a : Nat) (v : Bool) : State := s.set F.MOT_STAT_MOVING (withBit (s.get F.MOT_STAT_MOVING) a v)

/-- The brake an axis names, if any (R342). -/
def State.brakeOf (s : State) (a : Nat) : Option Nat :=
  let b := s.get (F.AX_CFG_BRK.on a)
  if b = 1 then some 0 else if b = 2 then some 1 else none

/-- The brake reads engaged (R383). -/
def State.brakeEngaged (s : State) (b : Nat) : Bool := s.saf.engaged.contains b

/-- The members of a group. -/
def State.members (s : State) (g : Nat) : List Nat := axisList.filter fun a => s.groupOf a == g

/-- The limits of the profile of an axis (R338). -/
def State.limits (s : State) (a : Nat) : Limits :=
  ⟨(s.get (F.AX_VMAX_VAL.on a) : Nat), (s.get (F.AX_AMAX_VAL.on a) : Nat), (s.get (F.AX_DMAX_VAL.on a) : Nat),
    (s.get (F.AX_JMAX_VAL.on a) : Nat)⟩

/-- The set-point latched last. -/
def State.setpoint (s : State) (a : Nat) : Int := s.getInt (F.AX_SETPT_VAL.on a)

/-- Where a start finds the axis: at its set-point; an axis with an encoder that held none, at its position (R340; DEDUCED, log
entry 84). -/
def State.standsAt (s : State) (a : Nat) : Int :=
  if s.hasEnc a && decide ((s.axis a).drive < 2) then s.getInt (F.AX_POS_VAL.on a) else s.setpoint a

/-- Where a cycle's profile stands. -/
def Cycle.kin (c : Cycle) : Kin := runPlan c.plan ⟨0, c.v0, c.a0⟩ ((c.ticks : Rat) / 4000)

/-- The profile has come to its end. -/
def Cycle.ended (c : Cycle) : Bool := decide (planTime c.plan ≤ (c.ticks : Rat) / 4000)

/-- The set-point computed last: a move ends exactly at its target (R338). -/
def Cycle.point (c : Cycle) : Setpoint :=
  let k := c.kin
  let rest := c.ended && (c.stop.isSome || c.kind != 2)
  { pos := if c.ended && c.stop.isNone && c.kind != 2 then c.target else c.origin + roundRat k.x
    vel := if rest then 0 else k.v, acc := if rest then 0 else k.a, last := c.ended }

/-- Go on computing: `n` more set-points at the end of a queue. -/
def Cycle.compute : Nat → Cycle → List Setpoint → Cycle × List Setpoint
  | 0, c, q => (c, q)
  | n + 1, c, q => let c := { c with ticks := c.ticks + 1 }; c.compute n (q ++ [c.point])

/-- The direction of a set-point's travel, if it moves. -/
def Setpoint.positive (p : Setpoint) : Option Bool :=
  if 0 < p.vel then some true else if p.vel < 0 then some false else none

/-- A queued set-point no longer ends its plan: another plan follows it. -/
def Setpoint.goesOn (p : Setpoint) : Setpoint := { p with last := false }

/-- Electrical turns per position unit, in the direction of the phase sequence: DIR inverts it (R335). -/
def State.turnsPerUnit (s : State) (a : Nat) : Rat :=
  let t : Rat := if s.hasEnc a then (s.get (F.AX_MOTOR_POLES.on a) : Nat) / ((s.get (F.AX_MOTOR_CPR.on a) : Nat) : Rat)
    else 1 / ((4 * 2 ^ s.get (F.AX_CFG_MSTEP.on a) : Nat) : Rat)
  if s.on (F.AX_CFG_DIR.on a) then -t else t

/-- The set-point latched at the G-die, with the current vector it commands (R335, R337). -/
def State.latch (s : State) (a : Nat) (p : Setpoint) : State :=
  let d := ((p.pos - s.setpoint a : Int) : Rat) * s.turnsPerUnit a
  let s := s.onAxis a fun x => { x with held := p, phase := x.phase + d - ((x.phase + d).floor : Int) }
  (s.setInt (F.AX_SETPT_VAL.on a) p.pos).setInt (F.AX_VEL_VAL.on a) (roundRat p.vel)

/-- Put a new plan behind the set-points that are already queued (R337). -/
def State.planOn (s : State) (a : Nat) (f : Cycle → Setpoint → Cycle) : State :=
  s.onAxis a fun x => { x with
    queue := x.queue.map Setpoint.goesOn
    cycle := x.cycle.map fun c => { f c c.point with origin := c.point.pos, v0 := c.point.vel, a0 := c.point.acc, ticks := 0
                                                     landed := false, settle := 0 } }

/-- Renumber the positions of an axis by a shift (R341): the motion in progress goes on as it was (DEDUCED, log entry 120). -/
def State.renumber (s : State) (a : Nat) (shift : Int) : State :=
  let move := fun (p : Setpoint) => { p with pos := p.pos + shift }
  let s := s.onAxis a fun x => { x with
    encOfs := x.encOfs + shift, held := move x.held, queue := x.queue.map move
    cycle := x.cycle.map fun c => { c with
      origin := c.origin + shift, target := if c.kind = 2 then c.target else c.target + shift } }
  (s.setInt (F.AX_POS_VAL.on a) (s.getInt (F.AX_POS_VAL.on a) + shift)).setInt (F.AX_SETPT_VAL.on a) (s.setpoint a + shift)

/-! ### Conditions for a start (R339) -/

/-- A safety edge that is pressed or broken guards moves of axis `a` in the direction (R344). -/
def State.edgeGuards (s : State) (a : Nat) (positive : Bool) : Bool :=
  (s.get F.MOT_ROLE_E0AX == a && s.on F.MOT_ROLE_E0DIR == positive && s.get F.SAF_STAT_EDGE0 != 0) ||
  (s.get F.MOT_ROLE_E1AX == a && s.on F.MOT_ROLE_E1DIR == positive && s.get F.SAF_STAT_EDGE1 != 0)

/-- The LIM input is asserted and guards the direction. -/
def State.limitGuards (s : State) (a : Nat) (positive : Bool) : Bool :=
  s.on (F.AX_STAT_LIM.on a) && s.get (F.AX_CFG_LIMDIR.on a) == (if positive then 1 else 2)

/-- Row 1 of R339 and R362 refuses the axis. -/
def State.axBlocked (s : State) (a : Nat) : Bool :=
  !s.enabled (0x41 + a) || !s.on F.PWR_STAT_VM_OK || s.axState a == 5 || s.axState a == 6 || s.gdState a != 2

/-- A motion of axis `a` to `target` is refused: by the soft limits of row 3, or by row 4 of R339. -/
def State.targetRefused (s : State) (a : Nat) (target : Int) : Bool :=
  decide (target < s.getInt (F.AX_SOFTLO_POS.on a)) || decide (s.getInt (F.AX_SOFTHI_POS.on a) < target) ||
    (target != s.standsAt a &&
      (s.edgeGuards a (decide (s.standsAt a < target)) || s.limitGuards a (decide (s.standsAt a < target))))

/-- A MOVE of axis `a` to `target` is refused by row 3 or row 4 of R339. -/
def State.moveRefused (s : State) (a : Nat) (target : Int) : Bool := !s.homed a || s.targetRefused a target

/-- A staged commit changes the group of some axis of the old or the new group of `a` (R84, R85). -/
def State.groupDeferred (s : State) (a : Nat) : Bool :=
  match s.commit.accepted with
  | some c =>
    if c.pages.contains 0x40 then
      match c.words.find? fun w => w.1 == F.MOT_GROUP_GRP.addr with
      | some w =>
        let old := fun x => s.groupOf x
        let new := fun x => w.2.toNat / 4 ^ x % 4
        axisList.any fun x => old x != new x && ((old x != 0 && (old x == old a || old x == new a)) ||
          (new x != 0 && (new x == old a || new x == new a)) || x == a)
      | none => false
    else false
  | none => false

/-- A cycle of some axis runs. -/
def State.cycleRuns (s : State) : Bool := s.mot.axes.any fun x => x.cycle.isSome

/-- A thermal pause of motion runs (R406): the G-die or the C-die is throttled, and a cycle runs or PAUSE since the last one has
not passed. -/
def State.motionPause (s : State) : Bool :=
  (bit (s.get F.TMP_THR_THROTTLE) 8 || bit (s.get F.TMP_THR_THROTTLE) 9) && (s.cycleRuns ||
    match s.mot.lastEnd with
    | some t => decide (s.now < t + s.get F.TMP_CFG_PAUSE * 1000000)
    | none => false)

/-- A brake test has been due for more than 1 h and takes precedence over the next start; one that has been found not testable
holds up no start (R384; DEDUCED, log entry 86). -/
def State.brakeTestFirst (s : State) (b : Nat) : Bool :=
  bit (s.get F.SAF_BTWIN_EN) b && !s.saf.untestable.contains b &&
    decide ((s.get F.SAF_BTEST_PERIOD * 3600 + 3600) * 1000000 < s.saf.operated + s.now - entryNat s.saf.passedAt b)

/-- The axis requests release of the brake: it does not while its start waits for a test that takes precedence (R342, R384). -/
def State.asksRelease (s : State) (b a : Nat) : Bool :=
  (s.axis a).askedAt.isSome && ((s.saf.releasedAt.any fun e => e.1 == b) || !s.brakeTestFirst b)

/-- The brake of the axis has not been released for BRKT (R342). -/
def State.brakeWaits (s : State) (a : Nat) : Bool :=
  match s.brakeOf a with
  | none => false
  | some b =>
    s.saf.testing.contains b || (s.saf.releasedAt.all fun e => e.1 != b) ||
      match (s.axis a).askedAt with
      | some t => decide (s.now < t + s.get (F.AX_TIMES_BRKT.on a) * 1000)
      | none => true

/-- A staged commit defers a start of a kind on axis `a`: one that changes its group or its bridge; for a group move, that of any
member (R85). -/
def State.startDeferred (s : State) (a kind : Nat) : Bool :=
  let one := fun x => s.groupDeferred x || s.bridgeStaged x
  if kind = 3 then (s.members (s.groupOf a)).any one else one a

/-- An accepted start waits (R85, R339 row 5). -/
def State.startWaits (s : State) (a : Nat) : Bool := (s.axis a).staged || s.motionPause || s.brakeWaits a

/-- The servo boundary `n` boundaries after a moment. -/
def servoAfter (t n : Nat) : Nat := (t / 250 + n) * 250

/-- A start runs: the axis energises at IRUN and asks for the release of its brake; STATE 1 while it waits (R339, R342). -/
def State.runStart (s : State) (a kind : Nat) (target : Int) : State :=
  let t := s.onAxis a fun x => { x with
    pending := some ⟨kind, s.now, target⟩, staged := false, askedAt := some (x.askedAt.getD s.now), endedAt := none
    drive := if x.cycle.isSome then x.drive else 3 }
  if (s.axis a).cycle.isSome then t
  else (t.setInt (F.AX_SETPT_VAL.on a) (s.standsAt a)).setAxState a (if t.startWaits a then 1 else if kind = 2 then 3 else 2)

/-- Accept a start to a target. One that a staged commit defers waits in STATE 1 and runs when the pages have applied (R85). -/
def State.acceptStart (s : State) (a kind : Nat) (target : Int) : State :=
  if s.startDeferred a kind then
    let t := s.onAxis a fun x => { x with pending := some ⟨kind, s.now, target⟩, staged := true }
    if (s.axis a).cycle.isSome then t else t.setAxState a 1
  else s.runStart a kind target

/-- The starts that waited for pages now applied run (R85). -/
def State.runStaged (s : State) : State :=
  let due := fun (a : Nat) => match (s.axis a).pending with
    | some p => if (s.axis a).staged && !s.startDeferred a p.kind then some (a, p) else none
    | none => none
  ((if s.hasM then axisList else []).filterMap due).foldl
    (fun (s : State) (p : Nat × PendingStart) => s.runStart p.1 p.2.kind p.2.target) s

/-- Replan a moving axis to its new target from the present set-point, velocity and acceleration (R338), behind the set-points
queued already (R337), with the profile fields committed by then (DEDUCED, log entry 85). -/
def State.replan (s : State) (a : Nat) (target : Int) : State :=
  s.planOn a fun c p =>
    { c with target := target, lim := s.limits a, dstop := (s.get (F.AX_DSTOP_VAL.on a) : Nat)
             plan := planMove p.vel p.acc ((target - p.pos : Int) : Rat) (s.limits a) }

/-- The MOVE command (R339). -/
def State.move (s : State) (a : Nat) : State × Option Nat :=
  let target := s.getInt (F.AX_TARGET_POS.on a)
  if s.axBlocked a || s.groupOf a != 0 || s.moveRefused a target then (s, some 0x0A)
  else if s.axState a == 2 && (s.axis a).cycle.isSome then (s.replan a target, none)
  else (s.acceptStart a 1 target, none)

/-- Shift positions so that the present one becomes AX_HOMEOFS; HOMED sets. -/
def State.takeHome (s : State) (a : Nat) : State :=
  ((s.renumber a (s.getInt (F.AX_HOMEOFS_VAL.on a) - s.getInt (F.AX_POS_VAL.on a))).setHomed a true).flag (F.AX_IFLAG_HOMED.on a)

/-- The direction of the first motion of a homing method (R341). -/
def homePositive (method : Nat) : Bool := method == 1

/-- The HOME command: method 5 homes without a motion; method 3 needs an encoder (R341). -/
def State.home (s : State) (a : Nat) : State × Option Nat :=
  let m := s.get (F.AX_HOME_METHOD.on a)
  let positive := homePositive m
  if s.axBlocked a || (m == 3 && !s.hasEnc a) then (s, some 0x0A)
  else if m = 5 then (s.takeHome a, none)
  else if s.edgeGuards a positive || s.limitGuards a positive then (s, some 0x0A)
  else (s.acceptStart a 2 (s.getInt (F.AX_HOMEOFS_VAL.on a)), none)

/-- A group START (R339, R340): refused as a whole when a member is refused; row 3 asks HOMED of a MOVE alone. -/
def State.groupStart (s : State) (g : Nat) : State × Option Nat :=
  let ms := s.members g
  let moving := ms.filter fun a => s.getInt (F.AX_TARGET_POS.on a) != s.standsAt a
  if !s.enabled 0x40 || g == 0 || ms.isEmpty || ms.any (fun a => s.axBlocked a || s.axState a != 0) ||
      moving.any (fun a => s.targetRefused a (s.getInt (F.AX_TARGET_POS.on a))) then (s, some 0x0A)
  else (moving.foldl (fun s a => s.acceptStart a 3 (s.getInt (F.AX_TARGET_POS.on a))) s, none)

/-! ### Cycles (R348) -/

/-- VM in mV. -/
def State.vm (s : State) : Nat := s.get F.PWR_VM_VM

/-- A new cycle of an axis with a plan. -/
def State.newCycle (s : State) (a kind : Nat) (target : Int) (plan : List Segment) : Cycle :=
  { kind := kind, target := target, origin := s.setpoint a, plan := plan, lim := s.limits a
    dstop := (s.get (F.AX_DSTOP_VAL.on a) : Nat), startTime := s.now
    startPos := s.getInt (F.AX_POS_VAL.on a), startFrame := s.frame, vmHigh := s.vm, vmLow := s.vm }

/-- Begin the cycle of an axis with its first two set-points queued (R337); homing method 4 runs at IRUN/2 (R341). -/
def State.startCycle (s : State) (a : Nat) (c : Cycle) : State :=
  let drive := if c.kind = 2 ∧ s.get (F.AX_HOME_METHOD.on a) = 4 then 4 else 3
  let r := c.compute 2 []
  ((s.onAxis a fun x => { x with
    pending := none, cycle := some r.1, stallN := 0, obstN := 0, queue := r.2, drive := drive }).setMoving a true).setAxState a
      (if c.kind = 2 then 3 else 2)

/-- The limits of the normalised profile of a group (R340). -/
def State.groupLimits (s : State) (ms : List (Nat × Int)) (seed : Limits) : Limits :=
  ms.foldl (fun l m =>
    let d : Rat := (absInt m.2 : Int)
    let x := s.limits m.1
    ⟨min l.v (x.v / d), min l.a (x.a / d), min l.d (x.d / d), min l.j (x.j / d)⟩) seed

/-- The target of an accepted group start. -/
def State.groupTarget (s : State) (a : Nat) : Option Int :=
  match (s.axis a).pending with
  | some p => if p.kind = 3 then some p.target else none
  | none => none

/-- The members of a group that take part, with their distances to the targets they were accepted for. -/
def State.groupDistances (s : State) (g : Nat) : List (Nat × Int) :=
  ((s.members g).filterMap fun a => (s.groupTarget a).map fun t => (a, t - s.setpoint a)).filter fun m => m.2 != 0

/-- The profile limits before any member narrows them: wider than any register allows. -/
def widest : Limits := ⟨4000000000, 4000000000, 4000000000, 4000000000⟩

/-- Begin a group move: every member takes the same normalised profile, scaled by its distance (R340). -/
def State.startGroup (s : State) (g : Nat) : State :=
  let ms := s.groupDistances g
  let plan := planMove 0 0 1 (s.groupLimits ms widest)
  ms.foldl (fun s m =>
    s.startCycle m.1 { s.newCycle m.1 3 (s.setpoint m.1 + m.2) (scalePlan (m.2 : Int) plan) with
      group := g, dist := m.2 }) s

/-- The velocity of the fast and of the slow approach of homing, signed (R341). -/
def State.homeSpeed (s : State) (a : Nat) (slow : Bool) : Rat :=
  let v : Rat := (s.get (F.AX_HOMEV_VAL.on a) : Nat)
  let v := if slow then v / 8 else v
  if homePositive (s.get (F.AX_HOME_METHOD.on a)) == slow then -v else v

/-- A start still waits; that of a group, for every member that takes part (R339, R340). -/
def State.cycleWaits (s : State) (a kind : Nat) : Bool :=
  if kind = 3 then (s.groupDistances (s.groupOf a)).any fun m => s.startWaits m.1 else s.startWaits a

/-- CYCLE_START: the first moving set-point at the third servo boundary after acceptance, or when the wait ends (R339). -/
def execCycleStart (a : Nat) (s : State) : Outcome State Fault Refusal :=
  match (s.axis a).pending with
  | none => .next s
  | some p =>
    if !s.running || s.coresHeld || (s.axis a).cycle.isSome then .next s
    else
      let s := s.advanceTo (servoAfter p.time 3)
      if s.cycleWaits a p.kind then .next (s.setAxState a 1)
      else if p.kind = 1 then
        .next (s.startCycle a (s.newCycle a 1 p.target (planMove 0 0 ((p.target - s.setpoint a : Int) : Rat) (s.limits a))))
      else if p.kind = 2 then
        .next (s.startCycle a (s.newCycle a 2 p.target (planRun 0 0 (s.homeSpeed a false) (s.limits a))))
      else .next (s.startGroup (s.groupOf a))

/-! ### Stops (R346) -/

/-- The outcome of a stop by its rank. -/
def rankOutcome : Nat → Nat
  | 1 => 7
  | 2 => 6
  | 3 => 6
  | 4 => 8
  | 5 => 3
  | 6 => 5
  | 7 => 4
  | 8 => 6
  | _ => 2

/-- The flag that a stop cause sets at once: stall, envelope, safety edge. -/
def State.causeFlag (s : State) (a rank : Nat) : State :=
  if rank = 5 then s.flag (F.AX_IFLAG_STALL.on a)
  else if rank = 6 then s.flag (F.AX_IFLAG_EDGE.on a)
  else if rank = 7 then s.flag (F.AX_IFLAG_OBST.on a)
  else s

/-- The plan that replaces a cycle's profile at a stop: a ramp behind the queued set-points, or rest at a set-point. -/
def Cycle.stopPlan (c : Cycle) (rank : Nat) (ramp : Bool) (setpoint : Int) (decel jerk : Rat) : Cycle :=
  let p := c.point
  { c with stop := some rank, origin := if ramp then p.pos else setpoint, ticks := 0, settle := 0, landed := !ramp
           v0 := if ramp then p.vel else 0, a0 := if ramp then p.acc else 0
           plan := if ramp then planStop p.vel p.acc decel jerk else [] }

/-- The deceleration of a stop: AX_DSTOP for an edge or the envelope, else AX_DMAX, as committed at the start of the move. -/
def Cycle.decel (c : Cycle) (rank : Nat) : Rat := if rank = 6 ∨ rank = 7 then c.dstop else c.lim.d

/-- The drive a stop leaves: IHOLD after a stall, all gates low after a bridge fault or PWR_FAIL. -/
def stopDrive (rank drive : Nat) : Nat := if rank = 5 then 2 else if rank ≤ 2 then 0 else drive

/-- Stop one axis whose cycle runs, with a deceleration and a jerk. The axis a cause arises on comes to rest as the cause says;
another member of its group, along a ramp (R340). -/
def State.stopWith (s : State) (a rank : Nat) (own : Bool) (decel jerk : Rat) : State :=
  let lost := own && (rank == 5 || rank == 2)
  let sp := if lost && s.hasEnc a then s.getInt (F.AX_POS_VAL.on a) else s.setpoint a
  let ramp := !own || rank == 4 || decide (6 ≤ rank)
  let s := s.onAxis a fun x => { x with
    cycle := x.cycle.map fun c => c.stopPlan rank ramp sp decel jerk
    queue := if ramp then x.queue.map Setpoint.goesOn else []
    cause := if own then some rank else x.cause
    drive := if own then stopDrive rank x.drive else x.drive }
  let s := if lost && !s.hasEnc a then s.setHomed a false else s
  (if ramp then s else s.latch a { pos := sp, last := true }).setAxState a 4

/-- The cycle of axis `a` belongs to a group move. -/
def Cycle.inGroup (c : Cycle) (g : Nat) : Bool := c.kind == 3 && c.group == g

/-- The smallest normalised deceleration and jerk of the members of a running group move (R340). -/
def State.groupStop (s : State) (g rank : Nat) : Rat × Rat :=
  axisList.foldl (fun (acc : Rat × Rat) a =>
    match (s.axis a).cycle with
    | some c =>
      if c.inGroup g && c.dist != 0 then
        let d : Rat := (absInt c.dist : Int)
        (min acc.1 (c.decel rank / d), min acc.2 (c.lim.j / d))
      else acc
    | none => acc) (4000000000, 4000000000)

/-- Stop every member of a group along the normalised ramp, for a cause on axis `a`; a member that a higher-ranked cause stops
keeps its stop (R340, R346). DESIGN CHOICE (log entry 87): where the cause has no ramp, the other members take the programmed one. -/
def State.stopGroup (s : State) (a g rank : Nat) : State :=
  let r := s.groupStop g rank
  axisList.foldl (fun (s : State) m =>
    match (s.axis m).cycle with
    | some c =>
      let d : Rat := (absInt c.dist : Int)
      if c.inGroup g && decide (rank < c.stop.getD 10) then s.stopWith m rank (m == a) (r.1 * d) (r.2 * d) else s
    | none => s) s

/-- Drop the start of one axis that has not begun: the axis is held, or after a host STOP at standstill. One accepted while a
cycle still runs leaves that cycle as it is. -/
def State.dropStart (s : State) (a rank : Nat) : State :=
  if (s.axis a).cycle.isSome then s.onAxis a fun x => { x with pending := none, staged := false }
  else
    (s.onAxis a fun x => { x with
      pending := none, staged := false, askedAt := none, endedAt := some s.now, cause := some rank }).setAxState a
        (if rank = 9 then 0 else 5)

/-- Drop a waiting start; that of a group member drops the whole group's. -/
def State.dropPending (s : State) (a rank : Nat) : State :=
  if (s.groupTarget a).isSome then
    (s.members (s.groupOf a)).foldl (fun s m => if (s.groupTarget m).isSome then s.dropStart m rank else s) s
  else s.dropStart a rank

/-- A stop cause of a rank acts on an axis (R346): on a cycle unless a higher-ranked cause has acted, on a waiting start, or,
for the causes that hold an axis, on one at standstill. -/
def State.stopAxis (s : State) (a rank : Nat) : State :=
  match (s.axis a).cycle with
  | some c =>
    let s := s.causeFlag a rank
    if (c.stop.getD 10) ≤ rank then s
    else if c.kind = 3 then s.stopGroup a c.group rank
    else s.stopWith a rank true (c.decel rank) c.lim.j
  | none =>
    if (s.axis a).pending.isSome then s.dropPending a rank
    else if rank ≤ 8 ∧ s.axState a = 0 then (s.onAxis a fun x => { x with cause := some rank }).setAxState a 5
    else s

/-- A stop of rank 8 by the limit switch; its flag sets whatever cause acts (R346). -/
def State.stopAtLimit (s : State) (a : Nat) : State :=
  let acts := (s.axis a).cycle.any fun c => decide (8 < c.stop.getD 10)
  let s := (s.stopAxis a 8).flag (F.AX_IFLAG_LIMIT.on a)
  s.applyIf acts fun s => s.onAxis a fun x => { x with cause := some 10 }

/-- Every axis. -/
def State.stopAllAxes (s : State) (rank : Nat) : State :=
  if s.hasM then axisList.foldl (fun s a => s.stopAxis a rank) s else s

/-- Every axis that moves or waits to. -/
def State.stopMoving (s : State) (rank : Nat) : State :=
  if s.hasM then
    axisList.foldl (fun s a => if (s.axis a).cycle.isSome || (s.axis a).pending.isSome then s.stopAxis a rank else s) s
  else s

/-- The following error exceeds AX_FERR (R346). -/
def State.errorLarge (s : State) (a : Nat) : Bool :=
  s.hasEnc a && decide ((s.get (F.AX_FERR_UNITS.on a) : Int) < absInt (s.getInt (F.AX_FERRNOW_VAL.on a)))

/-- A cause holds the axis after its stop: CLEAR is refused (R346, R362, R381, R409). A safety edge or a limit switch holds it while
it is asserted, a following error while it is above AX_FERR. A stall and an obstacle stop a motion, and none persists at rest
(DEDUCED, log entry 88). -/
def State.causePersists (s : State) (a : Nat) : Bool :=
  s.gdState a != 2 || !s.on F.PWR_STAT_VM_OK || s.on F.SAF_STAT_SAFESTOP || s.get F.TMP_LATCH_LATCHED != 0 ||
    (s.axis a).encFault ||
    match (s.axis a).cause with
    | some 6 => s.edgeGuards a true || s.edgeGuards a false
    | some 8 => s.errorLarge a
    | some 10 => s.limitGuards a true || s.limitGuards a false
    | _ => false

/-- The STOP command. -/
def State.hostStop (s : State) (a : Nat) : State × Option Nat :=
  if (s.axis a).cycle.isSome || (s.axis a).pending.isSome then (s.stopAxis a 9, none) else (s, none)

/-- The CLEAR command: STATE 5 returns to 0 unless the cause persists; on any axis it is refused while SAFESTOP lasts (R381). -/
def State.axisClear (s : State) (a : Nat) : State × Option Nat :=
  if s.on F.SAF_STAT_SAFESTOP then (s, some 0x0A)
  else if s.axState a ≠ 5 then (s, none)
  else if s.causePersists a then (s, some 0x0A)
  else ((s.onAxis a fun x => { x with cause := none }).setAxState a 0, none)

/-- A write to AX_CMD. -/
def State.writeAxCmd (s : State) (a : Nat) (v : Word) : State × Option Nat :=
  if v = 1 then s.move a else if v = 2 then s.home a else if v = 3 then s.hostStop a
  else if v = 4 then s.axisClear a else (s, some 0x0A)

/-- A write to MOT_CMD. -/
def State.writeMotCmd (s : State) (v : Word) : State × Option Nat :=
  let g := bitsOf v 1 0
  match bitsOf v 31 28 with
  | 1 => s.groupStart g
  | 2 =>
    if g = 0 then (s, some 0x0A)
    else ((s.members g).foldl (fun s a => (s.hostStop a).1) s, none)
  | 3 => (axisList.foldl (fun s a => (s.hostStop a).1) s, none)
  | _ => (s, some 0x0A)

/-! ### The end of a cycle (R348, R349) -/

/-- The event of an outcome, class 1 for 3 to 5 and class 2 for 6 to 8. -/
def State.outcomeEvent (s : State) (a outcome : Nat) : State :=
  match outcomeFlag outcome with
  | some b => s.flagEvent ((F.AX_IFLAG_DONE.on a).bit b) (if outcome ≤ 5 then 1 else 2) [(F.AX_STAT_OUT.on a).addr]
  | none => s

/-- The envelope learns from a cycle that ended at target (R345): each bin it crossed moves an eighth of the way to its peak. -/
def learnEnv (env : List EnvBin) (peaks : List (Nat × Nat)) : List EnvBin :=
  peaks.foldl (fun env p => env.modify p.1 fun b =>
    { value := b.value + ((p.2 : Rat) - b.value) / 8, count := b.count + 1 }) env

/-- The ledger entry of an ended cycle. -/
def State.cycleEnd (s : State) (a outcome : Nat) (c : Cycle) : CycleEnd :=
  { axis := a, outcome := outcome, start := c.startTime, finish := s.now, startPos := c.startPos, target := c.target
    endPos := s.getInt (F.AX_POS_VAL.on a), peakCurrent := c.peakCurrent
    peakError := if s.hasEnc a then c.peakError else 0, vmHigh := c.vmHigh, vmLow := c.vmLow, startFrame := c.startFrame, endFrame := s.frame }

/-- The outcome of a cycle: of the stop that acted, else 1 for a homing and 0 at target. -/
def Cycle.outcome (c : Cycle) : Nat :=
  match c.stop with
  | some r => rankOutcome r
  | none => if c.kind = 2 then 1 else 0

/-- End the cycle of an axis: status, flags, ledger entry, and the request to engage its brake (R342, R349). -/
def State.endCycle (s : State) (a outcome : Nat) (c : Cycle) : State :=
  let held := outcome != 0 && outcome != 1 && outcome != 2
  let s := { s with
    cyl := { s.cyl with buffer := s.cyl.buffer ++ [s.cycleEnd a outcome c] }
    mot := { s.mot with lastEnd := some s.now } }
  let s := s.onAxis a fun x => { x with
    cycle := none, askedAt := if x.pending.isSome && !held then x.askedAt else none, endedAt := some s.now, restAt := s.now
    drive := if x.drive = 4 then 3 else x.drive
    pending := if held then none else x.pending
    queue := [], env := if outcome = 0 ∧ s.on (F.AX_ENV_EN.on a) = true then learnEnv x.env c.peaks else x.env }
  let s := ((s.set (F.AX_STAT_OUT.on a) outcome).setAxState a (if held then 5 else 0)).setMoving a false
  let s := (s.flag (F.AX_IFLAG_DONE.on a)).flag (F.MOT_IFLAG_DONE.bit a)
  let s := s.applyIf (decide (6 ≤ outcome)) fun s => s.flag (F.AX_IFLAG_FAULT.on a)
  let s := s.setInt (F.AX_VEL_VAL.on a) 0
  (s.applyIf (decide (2 ≤ outcome)) fun s => s.flag (F.MOT_IFLAG_STOPPED.bit a)).outcomeEvent a outcome

/-- The cycle has come to its end: a stop at rest, or the final set-point latched and settled (R348). -/
def State.cycleOver (s : State) (a : Nat) (c : Cycle) : Bool :=
  c.landed && (c.stop.isSome || ((c.kind != 2 || c.phase == 4) && (!s.hasEnc a || decide (4 ≤ c.settle))))

/-- CYCLE_END. -/
def execCycleEnd (a : Nat) (s : State) : Outcome State Fault Refusal :=
  match (s.axis a).cycle with
  | none => .next s
  | some c => if s.cycleOver a c then .next (s.endCycle a c.outcome c) else .next s

/-- PWR_FAIL cuts every cycle at once, with outcome 7 (R346, R348). -/
def State.cutCycles (s : State) : State :=
  axisList.foldl (fun s a =>
    match (s.axis a).cycle with
    | some c => (s.endCycle a 7 c).onAxis a fun x => { x with drive := 0, endedAt := none }
    | none => s.onAxis a fun x => { x with drive := 0, pending := none, staged := false, askedAt := none, endedAt := none }) s

/-- STANDSTILL_DELAY: STBYDLY, or BRKT on an axis with a brake, after a cycle the standstill setting applies (R342). -/
def execStandstillDelay (a : Nat) (s : State) : Outcome State Fault Refusal :=
  match (s.axis a).endedAt with
  | some t =>
    if (s.axis a).cycle.isSome || (s.axis a).pending.isSome then .next s
    else
      let d := if (s.brakeOf a).isSome then s.get (F.AX_TIMES_BRKT.on a) else s.get (F.AX_TIMES_STBYDLY.on a)
      .next ((s.advanceTo (t + d * 1000)).onAxis a fun x => { x with
        endedAt := none, drive := if x.drive < 2 then x.drive else s.get (F.AX_CFG_STBY.on a) })
  | none => .next s

/-! ### Homing (R341) -/

/-- Go on with a homing in a phase, with a plan from the motion computed last. -/
def State.homePhase (s : State) (a phase : Nat) (plan : Setpoint → List Segment) : State :=
  s.planOn a fun c p => { c with phase := phase, plan := plan p }

/-- Come to standstill along the programmed ramp. -/
def Cycle.rampDown (c : Cycle) (p : Setpoint) : List Segment := planStop p.vel p.acc c.lim.d c.lim.j

/-- HOME_POINT: the reference of the homing method is found (R341). In method 3 the release of HOME is followed by the search
for the index, and the home point is the index edge. In the slow approach the reference is the release of the switch. -/
def execHomePoint (a : Nat) (s : State) : Outcome State Fault Refusal :=
  match (s.axis a).cycle with
  | some c =>
    if c.kind = 2 ∧ c.stop = none then
      let s := s.applyIf (c.phase == 2) fun s =>
        s.setOn (if s.get (F.AX_HOME_METHOD.on a) = 2 then F.AX_STAT_LIM.on a else F.AX_STAT_HOME.on a) false
      if c.phase = 2 ∧ s.get (F.AX_HOME_METHOD.on a) = 3 then
        .next (s.onCycle a fun c => { c with phase := 3 })
      else if c.phase = 2 ∨ c.phase = 3 then .next ((s.takeHome a).homePhase a 4 c.rampDown)
      else .next s
    else .next s
  | none => .next s

/-- HOMING_TIMEOUT: no reference within 120 s stops the axis along the programmed ramp with outcome 6 (R341). -/
def execHomingTimeout (a : Nat) (s : State) : Outcome State Fault Refusal :=
  match (s.axis a).cycle with
  | some c =>
    if c.kind = 2 ∧ c.stop = none ∧ c.phase < 4 then .next ((s.advanceTo (c.startTime + 120000000)).stopAxis a 8) else .next s
  | none => .next s

/-! ### Stops by their own events -/

/-- STALL: the stall condition has held for CONF servo periods (R343). In homing method 4 it is the home point. -/
def execStall (a : Nat) (s : State) : Outcome State Fault Refusal :=
  match (s.axis a).cycle with
  | some c =>
    if s.get (F.AX_STALL_CONF.on a) ≤ (s.axis a).stallN then
      if c.kind = 2 ∧ s.get (F.AX_HOME_METHOD.on a) = 4 ∧ c.stop = none then
        let home := s.getInt (F.AX_HOMEOFS_VAL.on a)
        .next (((s.takeHome a).onAxis a fun x => { x with
          drive := 2, queue := []
          cycle := x.cycle.map fun c => { c with phase := 4, plan := [], v0 := 0, a0 := 0, ticks := 0, settle := 4, landed := true
                                                 origin := home } }).latch a { pos := home, last := true })
      else .next (s.stopAxis a 5)
    else .next s
  | none => .next s

/-- OBSTACLE: torque current above the checked envelope for CONF servo periods (R345). -/
def execObstacle (a : Nat) (s : State) : Outcome State Fault Refusal :=
  if s.on (F.AX_ENV_EN.on a) && decide (s.get (F.AX_ENV_CONF.on a) ≤ (s.axis a).obstN) && (s.axis a).cycle.isSome then
    .next (s.stopAxis a 7)
  else .next s

/-- LIMIT_SWITCH: the LIM input asserts; in the guarded direction of travel it stops the axis (R346 rank 8). -/
def execLimitSwitch (a : Nat) (s : State) : Outcome State Fault Refusal :=
  if !s.hasM || decide (6 ≤ a) then .next s
  else
    let s := s.setOn (F.AX_STAT_LIM.on a) true
    match (s.axis a).cycle with
    | some c =>
      match (s.axis a).held.positive with
      | some p =>
        if s.limitGuards a p && !(c.kind == 2 && s.get (F.AX_HOME_METHOD.on a) == 2) then .next (s.stopAtLimit a) else .next s
      | none => .next s
    | none => .next s

/-- SETPOINT_QUEUE_EMPTY: island 4 repeats the last set-point and the axis holds there (R337, R346 rank 3). -/
def execSetpointQueueEmpty (a : Nat) (s : State) : Outcome State Fault Refusal :=
  if s.hasM && (s.axis a).cycle.isSome then .next ((s.onAxis a fun x => { x with queue := [] }).stopAxis a 3) else .next s

/-! ### Named positions (R347) -/

/-- The axis is at its named position. -/
def State.atNamed (s : State) (a : Nat) : Bool :=
  let sw := s.get (F.AX_CFG_NSW.on a)
  (s.axis a).cycle.isNone && s.axStill a && s.homed a &&
    decide (absInt (s.getInt (F.AX_POS_VAL.on a) - s.getInt (F.AX_NPOS_POS.on a)) ≤ s.get (F.AX_NWIN_NWIN.on a)) &&
    (if sw = 1 then s.on (F.AX_STAT_HOME.on a) else if sw = 2 then s.on (F.AX_STAT_LIM.on a) else true) &&
    (match s.brakeOf a with
      | some b => s.brakeEngaged b
      | none => true)

/-- The axis of a role is at its named position; role 7 names none. -/
def State.roleHolds (s : State) (role : Nat) : Bool := s.hasM && decide (role < 6) && s.atNamed role

/-- The conditions of R347, formed in every servo period. -/
def State.showRoles (s : State) : State :=
  let s := axisList.foldl (fun s a => s.setOn (F.AX_STAT_ATNPOS.on a) (s.atNamed a)) s
  let hatch := s.roleHolds (s.get F.MOT_ROLE_HATCH)
  let locked := s.roleHolds (s.get F.MOT_ROLE_LOCK)
  let mated := locked && s.pins.shoreDet
  let s := s.applyIf (hatch != s.on F.MOT_STAT_HATCH_CL) fun s => s.flag F.MOT_IFLAG_HATCH
  let s := s.applyIf (mated != s.on F.MOT_STAT_MATED) fun s => s.flag F.MOT_IFLAG_MATED
  (((s.setOn F.MOT_STAT_HATCH_CL hatch).setOn F.MOT_STAT_LOCKED locked).setOn F.MOT_STAT_MATED mated).setOn
    F.MOT_STAT_THROTTLE s.motionPause

/-! ### One servo boundary of an axis (R336, R337, R343 to R346) -/

/-- The set-point speed in electrical revolutions per 10 s, so that VMIN compares directly (R336). -/
def State.electricalSpeed (s : State) (a : Nat) (v : Rat) : Rat :=
  let w := v * s.turnsPerUnit a * 10
  w * signRat w

/-- The bin of the envelope for a position and a direction (R345). -/
def State.envBin (s : State) (a : Nat) (pos : Int) (positive : Bool) : Nat :=
  let lo := s.getInt (F.AX_SOFTLO_POS.on a)
  let hi := s.getInt (F.AX_SOFTHI_POS.on a)
  let b := (clampInt 0 15 ((pos - lo) * 16 / (hi - lo))).toNat
  if positive then b else 16 + b

/-- Note a peak in a bin. -/
def notePeak (bin v : Nat) (l : List (Nat × Nat)) : List (Nat × Nat) :=
  if l.any (fun p => p.1 == bin) then l.map fun p => if p.1 == bin then (bin, max p.2 v) else p else (bin, v) :: l

/-- A set-point is missing: the queue of a moving axis has run empty (R337). -/
def State.queueEmpty (s : State) (a : Nat) : Bool := (s.axis a).queue.isEmpty && (s.axis a).cycle.any fun c => !c.landed

/-- The G-die latches the next queued set-point of a running cycle; one it does not hold leaves the previous in force for the servo
period (R350). -/
def State.latchNext (s : State) (a : Nat) : State :=
  let kept := s.gate.unheld.contains a
  let s := { s with gate := { s.gate with unheld := s.gate.unheld.filter (· != a) } }
  match (s.axis a).cycle, (s.axis a).queue with
  | some _, p :: rest =>
    let s := s.onAxis a fun x => { x with queue := rest }
    if kept then s else (s.latch a p).onCycle a fun c => { c with landed := p.last }
  | _, _ => s

/-- The cores compute the set-point for the second servo boundary from now: the queue holds two (R337). -/
def State.computeNext (s : State) (a : Nat) : State :=
  if s.coresRun then
    s.onAxis a fun x => match x.cycle with
      | some c => let r := c.compute (2 - x.queue.length) x.queue; { x with cycle := some r.1, queue := r.2 }
      | none => x
  else s

/-- One servo boundary of the set-points of an axis (R118, R337). -/
def State.latchSetpoint (s : State) (a : Nat) : State := (s.latchNext a).computeNext a

/-- π, to 10⁻¹⁵. -/
def piRat : Rat := 3141592653589793 / 1000000000000000

/-- The sine of an angle of up to 90 degrees: the Taylor sum to the thirteenth power. -/
def sinQuarter (deg : Nat) : Rat :=
  let x : Rat := (deg : Rat) * piRat / 180
  let y := x * x
  x * (1 - y / 6 * (1 - y / 20 * (1 - y / 42 * (1 - y / 72 * (1 - y / 110 * (1 - y / 156))))))

/-- The sine of an angle in degrees. -/
def sinDeg (deg : Nat) : Rat :=
  let d := deg % 360
  if d ≤ 90 then sinQuarter d else if d ≤ 180 then sinQuarter (180 - d)
  else if d ≤ 270 then -sinQuarter (d - 180) else -sinQuarter (360 - d)

/-- The axis a brake test drives: the lowest that names the brake. -/
def State.testedAxis (s : State) (b : Nat) : Option Nat :=
  ((if s.hasM then axisList else []).filter fun a => s.brakeOf a == some b).head?

/-- The brake whose test drives an axis. -/
def State.testOn (s : State) (a : Nat) : Option Nat := s.saf.testing.find? fun b => s.testedAxis b == some a

/-- The amplitude of the phase current the G-die regulates to, mA (R336, R342): IHOLD, IRUN or IRUN/2 on a bridge in RUN; in a brake
test SAF_BTEST.I (R384). -/
def State.amplitude (s : State) (a : Nat) : Nat :=
  if s.gdState a ≠ 2 then 0
  else if (s.testOn a).isSome then s.get F.SAF_BTEST_I
  else match (s.axis a).drive with
    | 2 => s.get (F.AX_CURR_IHOLD.on a)
    | 3 => s.get (F.AX_CURR_IRUN.on a)
    | 4 => s.get (F.AX_CURR_IRUN.on a) / 2
    | _ => 0

/-- Electrical degrees of the current vector ahead of the rotor: +90 in the first TIME of a brake test, −90 in the second (R384). -/
def State.vectorLead (s : State) (a : Nat) : Int :=
  match s.testOn a with
  | some b => if s.now < entryNat s.saf.testFrom b + s.get F.SAF_BTEST_TIME * 10000 then 90 else -90
  | none => 0

/-- The current vector an axis is driven with. -/
def State.driveVector (s : State) (a : Nat) : State :=
  s.onAxis a fun x => { x with amp := s.amplitude a, lead := s.vectorLead a }

/-- IPH: the sense voltage times GD_SENSE.GAIN, mA per mV (R358), to the nearest mA (log entry 121). -/
def State.phaseCurrent (s : State) (a : Nat) (x : AxisSample) : Nat :=
  min 65535 ((x.sense * s.get (F.GD_SENSE_GAIN.on a) + 500) / 1000)

/-- The torque current: IPH × sin λ on a stepper; on a BLDC axis the torque-producing current, which the G-die limits to IRUN
(R336). -/
def State.torqueCurrent (s : State) (a : Nat) (x : AxisSample) : Int :=
  let lim : Int := s.get (F.AX_CURR_IRUN.on a)
  if s.get (F.AX_CFG_TYPE.on a) = 1 then clampInt (-lim) lim x.torque
  else roundRat ((s.phaseCurrent a x : Rat) * sinDeg x.angle)

/-- Positions and inputs of an axis as read at the boundary. -/
def State.readAxis (s : State) (a : Nat) (x : AxisSample) : State :=
  let enc := (if s.on (F.AX_CFG_DIR.on a) then -x.enc else x.enc) + (s.axis a).encOfs
  let pos := if s.hasEnc a then enc else s.setpoint a
  let err := if s.hasEnc a then s.setpoint a - pos else 0
  let s := ((s.setInt (F.AX_POS_VAL.on a) pos).setInt (F.AX_FERRNOW_VAL.on a) err).set (F.AX_LOAD_IPH.on a)
    (s.phaseCurrent a x)
  let s := (s.setOn (F.AX_STAT_HOME.on a) x.home).setOn (F.AX_STAT_LIM.on a) x.lim
  s.onAxis a fun y => { y with torque := s.torqueCurrent a x, encFault := x.encFault && s.hasEnc a }

/-- Load angle, envelope and the counts of R343 and R345 for a moving axis; `moved` is the encoder's travel in the period. -/
def State.judgeLoad (s : State) (a : Nat) (x : AxisSample) (moved : Int) : State :=
  match (s.axis a).cycle with
  | none => (s.set (F.AX_LOAD_LANGLE.on a) 0xFF).set (F.AX_LOAD_ENVPCT.on a) 0xFF
  | some _ =>
    let k := (s.axis a).held
    let load := (s.axis a).torque
    let fast := decide ((s.get (F.AX_STALL_VMIN.on a) : Rat) < s.electricalSpeed a k.vel)
    let bldc := s.get (F.AX_CFG_TYPE.on a) == 1
    let bin := s.envBin a (s.getInt (F.AX_POS_VAL.on a)) (decide (0 ≤ k.vel))
    let e := ((s.axis a).env[bin]?).getD {}
    let check := s.on (F.AX_ENV_EN.on a) && decide (4 ≤ e.count) && (bldc || fast) && decide (k.acc = 0) && decide (k.vel ≠ 0)
    let limit := e.value * ((100 + s.get (F.AX_ENV_MARGIN.on a) : Nat) : Rat) / 100
    let stalled := fast && (if bldc then decide (((absInt moved * 16000 : Int) : Rat) < k.vel * signRat k.vel)
      else decide (s.get (F.AX_STALL_ANGLE.on a) < x.angle))
    let pct := if check && decide (0 < e.value) then min 254 (((load : Int) : Rat) / e.value * 100).floor.toNat else 0xFF
    let s := (s.set (F.AX_LOAD_LANGLE.on a) (if fast then min x.angle 254 else 0xFF)).set (F.AX_LOAD_ENVPCT.on a) pct
    s.onAxis a fun y => { y with
      stallN := if stalled then y.stallN + 1 else 0
      obstN := if check && decide (limit < (load : Int)) then y.obstN + 1 else 0
      cycle := y.cycle.map fun c => { c with
        peakCurrent := max c.peakCurrent (s.phaseCurrent a x)
        peakError := max c.peakError (absInt (s.getInt (F.AX_FERRNOW_VAL.on a))).toNat
        vmHigh := max c.vmHigh s.vm, vmLow := min c.vmLow s.vm
        peaks := if k.vel ≠ 0 then notePeak bin load.toNat c.peaks else c.peaks
        settle := if decide (absInt (s.getInt (F.AX_FERRNOW_VAL.on a)) ≤ s.get (F.AX_NWIN_SETTLE.on a))
          then c.settle + 1 else 0 } }

/-- The switch a homing method looks for: LIM in method 2, else HOME. -/
def State.homeSwitch (s : State) (a : Nat) : Bool :=
  if s.get (F.AX_HOME_METHOD.on a) = 2 then s.on (F.AX_STAT_LIM.on a) else s.on (F.AX_STAT_HOME.on a)

/-- The phases of a homing that need no reference: from the fast approach to a stop at the switch, then the slow approach back. -/
def State.homeStep (s : State) (a : Nat) : State :=
  match (s.axis a).cycle with
  | some c =>
    if c.kind ≠ 2 ∨ c.stop.isSome ∨ s.get (F.AX_HOME_METHOD.on a) = 4 then s
    else if c.phase = 0 ∧ s.homeSwitch a = true then s.homePhase a 1 c.rampDown
    else if c.phase = 1 ∧ c.landed = true then
      s.homePhase a 2 fun _ => planRun 0 0 (s.homeSpeed a true) c.lim
    else s
  | none => s

/-- Stops that island 4 finds at a servo boundary: limit switch, following error, encoder fault, safety edge (R344, R346). -/
def State.checkStops (s : State) (a : Nat) : State :=
  match (s.axis a).cycle with
  | some c =>
    let dir := (s.axis a).held.positive
    let p := dir.getD true
    let s := s.applyIf (dir.isSome && s.edgeGuards a p && c.stop != some 6) fun s => s.stopAxis a 6
    let s := s.applyIf (dir.isSome && s.limitGuards a p && !(c.kind == 2 && s.get (F.AX_HOME_METHOD.on a) == 2))
      fun s => s.stopAtLimit a
    s.applyIf ((s.hasEnc a && (s.axis a).encFault) || s.errorLarge a) fun s => s.stopAxis a 8
  | none => s

/-- One servo boundary of an axis. -/
def State.tickAxis (s : State) (a : Nat) (x : AxisSample) : State :=
  let before := s.getInt (F.AX_POS_VAL.on a)
  let s := ((if s.queueEmpty a then s.stopAxis a 3 else s.latchSetpoint a).driveVector a).readAxis a x
  (((s.judgeLoad a x (s.getInt (F.AX_POS_VAL.on a) - before)).homeStep a).checkStops a)

end Sys2Proof.Machine
end

