-- ==== Sys2Proof/Machine/Coils.lean ====
section
/-! DEFINITION. The coil drivers and the auxiliary contacts (R245 to R247). -/
namespace Sys2Proof.Machine

/-- The contactors. -/
def coilList : List Nat := [0, 1, 2, 3]

/-- The auxiliary contact of CD`m` is wired (R247). -/
def State.auxWired (s : State) (m : Nat) : Bool := bit (s.get F.PRT_DRV_AUXEN) m

/-- FAULT of CD`m`. -/
def State.coilFault (s : State) (m : Nat) : Bool := bit (s.get F.PRT_STAT_FAULT) m

/-- The high side of CD`m` is on. -/
def State.coilOnNow (s : State) (m : Nat) : Bool := bit (s.get F.PRT_STAT_COIL) m

/-- Show the high side of CD`m`. -/
def State.showCoil (s : State) (m : Nat) (v : Bool) : State :=
  (s.set F.PRT_STAT_COIL (withBit (s.get F.PRT_STAT_COIL) m v)).setOn (F.PRT_COIL_HS.at m) v

/-- The fault line is asserted (R172). -/
def State.faultAsserted (s : State) : Bool := s.on F.CMP_FLSTAT_ASSERTED

/-- Energise CD`m`: pull-in begins (R246). A contactor with its FAULT bit set, or not fitted, is not energised. -/
def State.coilEnergise (s : State) (m : Nat) : State :=
  if s.coilFault m || s.faultAsserted || !bit (s.get F.PRT_DRV_EN) m then s
  else
    let p := { s.prot with
      pullAt := (m, s.now) :: s.prot.pullAt.filter (fun e => e.1 != m)
      hold := s.prot.hold.filter (· != m)
      offAt := s.prot.offAt.filter fun e => e.1 != m
      watchAt := s.prot.watchAt.filter fun e => e.1 != m }
    { s with prot := p }.showCoil m true

/-- Turn off the high side of CD`m`; its auxiliary contact is then awaited, or watched where it reads open: it may close yet (R247 row
5, R253 row 1). -/
def State.coilRelease (s : State) (m : Nat) : State :=
  if s.coilOnNow m then
    let await := s.cdClosed m || !s.auxWired m
    let p := { s.prot with
      pullAt := s.prot.pullAt.filter fun e => e.1 != m
      hold := s.prot.hold.filter (· != m)
      offAt := if await then (m, s.now) :: s.prot.offAt.filter (fun e => e.1 != m) else s.prot.offAt
      watchAt := if await then s.prot.watchAt else (m, s.now) :: s.prot.watchAt.filter fun e => e.1 != m }
    { s with prot := p }.showCoil m false
  else s

/-- Show the low sides: closed while the fault line is released (R245). -/
def State.showLowSides (s : State) (v : Bool) : State := coilList.foldl (fun s m => s.setOn (F.PRT_COIL_LS.at m) v) s

/-- A contactor fault on CD`m` (R247 rows 1 to 4); rows 1 to 3 turn its high side off. One on CD0 to CD2 is a condition from the next
evaluation on (R255). -/
def State.contactorFault (s : State) (m : Nat) (off : Bool) : State :=
  let s := s.applyIf off fun s => s.coilRelease m
  let s := { s with prot := { s.prot with newFault := s.prot.newFault || decide (m < 3) } }
  (s.set F.PRT_STAT_FAULT (withBit (s.get F.PRT_STAT_FAULT) m true)).flagEvent F.PRT_IFLAG_CFAULT 2 [F.PRT_STAT_FAULT.addr]

end Sys2Proof.Machine
end

