-- ==== Sys2Proof/Machine/Safety.lean ====
section
/-! DEFINITION. Safety functions: guards and safe stop, brakes, propulsion and charge interlocks, faults, safety link
(R379 to R396, R399). -/
namespace Sys2Proof.Machine
open Host

/-! ### Conditions -/

/-- Change what island 6 keeps. -/
def State.onSaf (s : State) (f : SafetySt → SafetySt) : State := { s with saf := f s.saf }

/-- The roles of a guard: bit 0 enabled, 1 stop, 2 charge, 3 propulsion (R379). -/
def State.guardRoles (s : State) (g : Nat) : Nat := if g = 0 then s.get F.SAF_GRD_G0 else s.get F.SAF_GRD_G1

/-- An enabled guard with a role is open. -/
def State.guardOpen (s : State) (role : Nat) : Bool :=
  [0, 1].any fun g => bit (s.guardRoles g) 0 && bit (s.guardRoles g) role && !bit (s.get F.SAF_STAT_GRDCL) g

/-- Every enabled guard has been seen open and then closed since start-up (R380). -/
def State.guardsSeen (s : State) : Bool := [0, 1].all fun g => !bit (s.guardRoles g) 0 || s.saf.seenClosed.contains g

/-- The safety link is connected, and a received data bit in use (R391, R394). -/
def State.linkUp (s : State) : Bool := s.get F.SCH_STAT_LINK == 3
def State.rxBit (s : State) (b : Nat) : Bool := s.linkUp && bit (s.get F.SCH_STAT_RXDATA) b

/-- A USE bit of the safety link; bits 1 and 2 always apply without M (R396). -/
def State.useBit (s : State) (b : Nat) : Bool := bit (s.get F.SCH_CFG_USE) b || (!s.hasM && (b == 1 || b == 2))

/-- SFAULT is latched. -/
def State.sfault (s : State) : Bool := s.on F.SAF_STAT_SFAULT

/-- The condition "mated and locked" of R388, and "hatch closed and locked" of R386, with R29 and R396. -/
def State.matedCond (s : State) : Bool := (!s.hasM || s.on F.MOT_STAT_MATED) && (!s.useBit 1 || s.rxBit 1)
def State.hatchCond (s : State) : Bool := (!s.hasM || s.on F.MOT_STAT_HATCH_CL) && (!s.useBit 2 || s.rxBit 2)

/-- A safe stop is demanded (R381). -/
def State.safestopCond (s : State) : Bool :=
  s.guardOpen 1 || !s.on F.SAF_STAT_GRDDONE || s.sfault || (s.useBit 0 && !s.rxBit 0)

/-- CD3 commanded off and AUX3 reading open. -/
def State.cd3Open (s : State) : Bool := !s.cdLive 3

/-- PROP_EN is to be asserted (R386). -/
def State.propCond (s : State) : Bool :=
  s.pwr.phase == .run && s.hatchCond && s.cd3Open && s.on F.SAF_STAT_GRDDONE && !s.guardOpen 3 && !s.sfault && !s.saf.propHeld &&
    s.saf.propRetry.isNone && (!s.useBit 4 || s.rxBit 4) && s.pwr.phase == .run

/-- The charge interlock (R388). -/
def State.chgilCond (s : State) : Bool :=
  s.matedCond && !s.on F.SAF_STAT_PROP_EN && s.on F.SAF_STAT_GRDDONE && !s.guardOpen 2 && !s.sfault &&
    (!s.useBit 3 || s.rxBit 3)

/-! ### Brakes (R382, R383) -/

/-- The axes that name a brake. -/
def State.naming (s : State) (b : Nat) : List Nat := if s.hasM then axisList.filter fun a => s.brakeOf a == some b else []

/-- The brake is commanded released. -/
def State.brakeReleased (s : State) (b : Nat) : Bool := s.saf.releasedAt.any fun e => e.1 == b

/-- The release of a brake is refused: rows 1 to 4 of R382. -/
def State.releaseRefused (s : State) (b : Nat) : Bool :=
  s.sfault || (s.naming b).isEmpty || !s.on F.SAF_STAT_GRDDONE || s.saf.withdrawn.contains b ||
    bit (s.get F.SAF_STAT_BRKFAIL) b || s.saf.brkExpired.contains b || !(s.pwr.phase == .run)

/-- Whether the brake is to be released: first matching row of R382. Row 4 waits for the end of the present cycle. -/
def State.wantsRelease (s : State) (b : Nat) : Bool :=
  if s.sfault || (s.naming b).isEmpty || !s.on F.SAF_STAT_GRDDONE || s.saf.withdrawn.contains b || !(s.pwr.phase == .run) then false
  else if bit (s.get F.SAF_STAT_BRKFAIL) b || s.saf.brkExpired.contains b then
    s.brakeReleased b && (s.naming b).any fun a => (s.axis a).cycle.isSome
  else if s.saf.testing.contains b then false
  else (s.naming b).all fun a => s.asksRelease b a

/-- The duty of the high side of a brake: fully on for the first 100 ms of a release, then HOLD (R383). -/
def State.brakeDuty (s : State) (b : Nat) : State :=
  let hold := if b = 0 then s.get F.SAF_BRK0_HOLD else s.get F.SAF_BRK1_HOLD
  let d := match s.saf.releasedAt.find? fun e => e.1 == b with
    | some e => if s.now < e.2 + 100000 then 256 else hold
    | none => 0
  s.onSaf fun x => { x with duty := x.duty.set b d }

/-- Drive a brake: releasing closes both switches, engaging opens both. -/
def State.driveBrake (s : State) (b : Nat) : State :=
  let want := s.wantsRelease b
  if want && !s.brakeReleased b then
    s.onSaf fun x => { x with releasedAt := (b, s.now) :: x.releasedAt, engaged := x.engaged.filter (· != b) }
  else if !want && s.brakeReleased b then
    (s.onSaf fun x => { x with releasedAt := x.releasedAt.filter fun e => e.1 != b }).set F.SAF_STAT_BRKREL
      (withBit (s.get F.SAF_STAT_BRKREL) b false)
  else s

/-- A refused release ends the waiting starts of the brake's axes (R382). -/
def State.endWaits (s : State) (b : Nat) : State :=
  if s.releaseRefused b then
    (s.naming b).foldl (fun s a =>
      if (s.axis a).pending.isSome && (s.axis a).cycle.isNone then s.dropPending a 8 else s) s
  else s

/-! ### Evaluation -/

/-- The result word of the test of a brake. -/
def resultField (b : Nat) : Fld := if b = 0 then F.SAF_BTST0_RESULT else F.SAF_BTST1_RESULT

/-- The test of a brake finds it not testable: its axis has no encoder (R384 row 1). -/
def State.notTestable (s : State) (b : Nat) : State :=
  ((s.set (resultField b) 3).onSaf fun x => { x with untestable := b :: x.untestable.filter (· != b) }).listed 0x18 2 1
    [(resultField b).addr]

/-- The current vector of the axis that the test of a brake drives (R384). -/
def State.driveTested (s : State) (b : Nat) : State :=
  match s.testedAxis b with
  | some a => s.driveVector a
  | none => s

/-- A running test of a brake ends at a cause of row 2 of R384: it is aborted, and tried again when the cause clears. -/
def State.abortTest (s : State) (b : Nat) : State :=
  let s := (s.flag F.SAF_IFLAG_BTEST).onSaf fun x => { x with
    testing := x.testing.filter (· != b), aborted := b :: x.aborted.filter (· != b) }
  let s := s.driveTested b
  if (s.testedAxis b).any s.hasEnc then s.set (resultField b) 4 else s.notTestable b

/-- Drop the brake tests that run, among some brakes. -/
def State.abortBrakeTests (s : State) (p : Nat → Bool) : State :=
  (s.saf.testing.filter p).foldl (fun (s : State) b => s.abortTest b) s

/-- SAFESTOP sets or clears; setting it stops the axes (R381). -/
def State.showSafestop (s : State) : State :=
  let v := s.safestopCond
  let was := s.on F.SAF_STAT_SAFESTOP
  let s := ((s.setOn F.SAF_STAT_SAFESTOP v).setOn F.SAF_PSTAT_SAFESTOP v).applyIf s.hasM fun s => s.setOn F.MOT_STAT_SAFESTOP v
  if v && !was then
    (((s.flag F.SAF_IFLAG_STOP).onSaf fun x => { x with stopSince := s.now }).stopAllAxes 8).abortBrakeTests fun _ => true
  else if v then s
  else s.onSaf fun x => { x with withdrawn := [] }

/-- CHGIL changes; its loss opens CD3 (R388, R262 row 2). -/
def State.showChgil (s : State) : State :=
  let v := s.chgilCond
  let s := s.applyIf (v != s.on F.SAF_STAT_CHGIL) fun s => s.flag F.SAF_IFLAG_CHGIL
  let s := s.setOn F.SAF_STAT_CHGIL v
  if v then s else s.coilRelease 3

/-- PROP_EN follows its conditions (R386); once degraded time has expired it stays off from its next deassertion (R390). -/
def State.showProp (s : State) : State :=
  let v := s.propCond
  let s := s.onSaf fun x => { x with
    propCmd := v, propHeld := x.propHeld || (x.propExpired && !v)
    propBadSince := if v then none else x.propBadSince }
  { s with pins := { s.pins with propEn := v } }

/-- The guards' part in the test made once per start-up: each enabled guard seen open and then closed (R380). -/
def State.noteGuard (s : State) (g : Nat) : State :=
  match s.saf.levels.find? fun e => e.1 == g with
  | some e =>
    if bit (s.guardRoles g) 0 then
      s.onSaf fun x => { x with
        seenOpen := if !e.2 && !x.seenOpen.contains g then g :: x.seenOpen else x.seenOpen
        seenClosed := if e.2 && x.seenOpen.contains g && !x.seenClosed.contains g then g :: x.seenClosed else x.seenClosed }
    else s
  | none => s

/-- Island 6 evaluates its conditions and outputs (R379 to R388). -/
def State.safetyEval (s : State) : State :=
  let s := (s.noteGuard 0).noteGuard 1
  let s := s.applyIf (s.pwr.phase == .run && !s.on F.SAF_STAT_GRDDONE && s.guardsSeen) fun s => s.setOn F.SAF_STAT_GRDDONE true
  let s := ((s.setOn F.SAF_STAT_MATED s.matedCond).setOn F.SAF_STAT_HATCH_CL s.hatchCond).setOn F.SAF_STAT_CD3OPEN s.cd3Open
  let s := (s.showSafestop.showProp).showChgil
  let s := s.setOn F.SAF_STAT_CD3OPEN s.cd3Open
  (((((s.driveBrake 0).driveBrake 1).brakeDuty 0).brakeDuty 1).endWaits 0).endWaits 1

/-! ### Guards and stops -/

/-- GUARD_CHANGE: a guard input has been seen open or closed for DEB (R379). The functions of a guard that is not enabled ignore it. -/
def execGuardChange (g : Nat) (closed : Bool) (s : State) : Outcome State Fault Refusal :=
  if !s.cdieRuns ∨ 2 ≤ g then .next s
  else
    let s := s.set F.SAF_STAT_GRDCL (withBit (s.get F.SAF_STAT_GRDCL) g closed)
    .next (s.onSaf fun x => { x with levels := (g, closed) :: x.levels.filter fun e => e.1 != g }).safetyEval

/-- SAFESTOP_TIMEOUT: an axis not at standstill TSTOP after SAFESTOP loses its brake release, with an event (R381). -/
def execSafestopTimeout (a : Nat) (s : State) : Outcome State Fault Refusal :=
  if s.hasM && s.on F.SAF_STAT_SAFESTOP && (s.axis a).cycle.isSome then
    let s := s.advanceTo (s.saf.stopSince + s.get F.SAF_CFG_TSTOP * 100000)
    let lost := (s.brakeOf a).toList
    .next (((s.onSaf fun x => { x with withdrawn := lost ++ x.withdrawn }).listed 0x18 1 2).safetyEval)
  else .next s

/-! ### Faults (R390) -/

/-- SFAULT: the safe state is latched until start-up (R390 priority 1). -/
def State.safetyFault (s : State) (code : Nat) : State :=
  if s.sfault then s
  else
    let s := (s.set F.SAF_FAULT_FRAME (s.frame.toNat % 65536)).set F.SAF_FAULT_CODE code
    (((s.setOn F.SAF_STAT_SFAULT true).setOn F.SAF_PSTAT_SFAULT true).flagEvent F.SAF_IFLAG_SFAULT 3
      [F.SAF_FAULT_CODE.addr]).safetyEval

/-- LEFT has reached 0: the degraded outputs are held safe, PROP_EN from its next deassertion (R390). -/
def State.expireDegraded (s : State) : State :=
  let c := s.get F.SAF_DEGR_CAUSE
  s.onSaf fun x => { x with
    brkExpired := [0, 1].filter fun b => x.brkExpired.contains b || bit c (2 * b) || bit c (2 * b + 1)
    propExpired := x.propExpired || bit c 4 || bit c 5
    propHeld := x.propHeld || ((bit c 4 || bit c 5) && !x.propCmd) }

/-- A stuck switch is found: SDEGR with its cause, and LEFT starts at DTIME; or the safe state when the other switch of the output was
found before. A cause that has expired stays expired (log entry 124). -/
def State.stuckSwitch (s : State) (c code : Nat) : State :=
  let other := if c % 2 = 0 then c + 1 else c - 1
  if bit (s.get F.SAF_DEGR_CAUSE) other then s.safetyFault code
  else if bit (s.get F.SAF_DEGR_CAUSE) c then s
  else
    let s := s.set F.SAF_DEGR_CAUSE (withBit (s.get F.SAF_DEGR_CAUSE) c true)
    let s := s.onSaf fun x => { x with degrUntil := some (s.now + s.get F.SAF_CFG_DTIME * 3600000000) }
    let s := s.set F.SAF_DEGR_LEFT (s.get F.SAF_CFG_DTIME * 60)
    ((s.setOn F.SAF_STAT_SDEGR true).setOn F.SAF_PSTAT_SDEGR true).flagEvent F.SAF_IFLAG_SDEGR 2 [F.SAF_DEGR_CAUSE.addr]

/-- SAFETY_SELF_TEST_SLICE: a slice of island 6 is tested (R390). -/
def execSafetySelfTestSlice (pass : Bool) (s : State) : Outcome State Fault Refusal :=
  if s.cdieRuns && !pass then .next (s.safetyFault 1) else .next s

/-- SAFETY_DEGRADED_EXPIRY: LEFT reaches 0; the degraded outputs are held safe (R390). -/
def execSafetyDegradedExpiry (s : State) : Outcome State Fault Refusal :=
  match s.saf.degrUntil with
  | some t => .next ((s.advanceTo t).expireDegraded.safetyEval)
  | none => .next s

/-! ### Brake supervision and tests (R383, R384) -/

/-- The window of a brake's coil current. -/
def State.brakeMin (s : State) (b : Nat) : Nat := if b = 0 then s.get F.SAF_BRK0_IMIN else s.get F.SAF_BRK1_IMIN
def State.brakeMax (s : State) (b : Nat) : Nat := if b = 0 then s.get F.SAF_BRK0_IMAX else s.get F.SAF_BRK1_IMAX

/-- One frame of a brake's coil current: it reads released after the first 100 ms inside its window, engaged with both
switches open and the current below IMIN (R383). -/
def State.brakeFrame (s : State) (b ma : Nat) : State :=
  let s := s.set (if b = 0 then F.SAF_BCUR_BRK0 else F.SAF_BCUR_BRK1) (min ma 65535)
  match s.saf.releasedAt.find? fun e => e.1 == b with
  | some e =>
    s.set F.SAF_STAT_BRKREL (withBit (s.get F.SAF_STAT_BRKREL) b
      (decide (e.2 + 100000 ≤ s.now) && decide (s.brakeMin b ≤ ma) && decide (ma ≤ s.brakeMax b)))
  | none =>
    if s.brakeMin b ≤ ma then s.onSaf fun x => { x with engaged := x.engaged.filter (· != b) }
    else s.applyIf (!s.brakeEngaged b) fun s => s.onSaf fun x => { x with
      engaged := b :: x.engaged, engagedAt := x.engagedAt.set b s.now }

/-- Set BRKFAIL of a brake. -/
def State.brakeFail (s : State) (b : Nat) : State :=
  (s.set F.SAF_STAT_BRKFAIL (withBit (s.get F.SAF_STAT_BRKFAIL) b true)).flagEvent F.SAF_IFLAG_BFAIL 2
    [F.SAF_STAT_BRKFAIL.addr]

/-- BRAKE_CURRENT_FAULT: the current of a released brake stays outside its window for 100 ms (R383). -/
def execBrakeCurrentFault (b : Nat) (s : State) : Outcome State Fault Refusal :=
  match s.saf.releasedAt.find? fun e => e.1 == b with
  | some e => if b < 2 then .next (((s.advanceTo (e.2 + 100000)).brakeFail b).safetyEval) else .next s
  | none => .next s

/-- BRAKE_SWITCH_PULSE: a switch of a released brake, 0 high or 1 low, is opened for 200 µs and read back (R383, R390). -/
def execBrakeSwitchPulse (b side : Nat) (opened : Bool) (s : State) : Outcome State Fault Refusal :=
  if b < 2 ∧ s.brakeReleased b = true ∧ opened = false then .next (s.stuckSwitch (2 * b + side % 2) 3) else .next s

/-- BRAKE_ENGAGED_READBACK: coil voltage with both switches commanded open finds both stuck closed (R383, R390). -/
def execBrakeEngagedReadback (b : Nat) (s : State) : Outcome State Fault Refusal :=
  if s.cdieRuns ∧ b < 2 ∧ s.brakeReleased b = false then .next (s.safetyFault 3) else .next s

/-- Operating time, µs (R384). -/
def State.operating (s : State) : Nat := s.saf.operated + s.now

/-- A brake test is due: requested by the host, or PERIOD of operating time after the brake last passed (R384). -/
def State.brakeTestDue (s : State) (b : Nat) : Bool :=
  s.saf.requested.contains b ||
    (bit (s.get F.SAF_BTWIN_EN) b &&
      decide (s.get F.SAF_BTEST_PERIOD * 3600000000 ≤ s.operating - entryNat s.saf.passedAt b))

/-- A cause that aborted the test of a brake lasts: PWR_WARN, or its axis's bridge out of RUN (R384 row 2). -/
def State.abortLasts (s : State) (b : Nat) : Bool :=
  s.saf.aborted.contains b && (s.on F.PWR_STAT_WARN || (s.testedAxis b).any fun a => s.hasEnc a && s.gdState a != 2)

/-- Nothing keeps the test of a brake from running: every axis that names it stands still, with no start but one that waits for the
test, the brake is engaged, SAFESTOP is clear, and no commit defers a start (R384). -/
def State.canTest (s : State) (b : Nat) : Bool :=
  s.running && s.brakeTestDue b && !(s.naming b).isEmpty && !s.saf.testing.contains b && s.brakeEngaged b && !s.brakeReleased b &&
    !s.on F.SAF_STAT_SAFESTOP && !s.abortLasts b && (s.naming b).all fun a =>
      (s.axis a).cycle.isNone && ((s.axis a).pending.isNone || s.brakeTestFirst b) && !s.groupDeferred a && !s.bridgeStaged a

/-- Since when the axes of a brake have stood still with it engaged. -/
def State.stillSince (s : State) (b : Nat) : Nat := ((s.naming b).map fun a => (s.axis a).restAt).foldl max (entryNat s.saf.engagedAt b)

/-- BRAKE_TEST_START: a due test runs once its axes have stood still with the brake engaged for 1 s (R384). -/
def execBrakeTestStart (b : Nat) (s : State) : Outcome State Fault Refusal :=
  if b < 2 ∧ s.canTest b = true then
    let s := s.advanceTo (s.stillSince b + 1000000)
    .next ((s.onSaf fun x => { x with
      testing := b :: x.testing, testFrom := x.testFrom.set b s.now, aborted := x.aborted.filter (· != b) }).driveTested b)
  else .next s

/-- Append an entry to the change log, a ring of 256 (R399): link, kind, CRC before and after. -/
def State.logChange (s : State) (link kind : Nat) (before after : Word) : State :=
  let total := s.get F.SAF_LOGSTAT_TOTAL
  let i := if total = 0 then 0 else (s.get F.SAF_LOGSTAT_NEWEST + 1) % 256
  let w1 := BitVec.ofNat 32 (s.now / 2 ^ 32 % 65536 * 65536 + link * 256 + kind)
  let t := s.onSaf fun x => { x with
    log := (i, [BitVec.ofNat 32 s.now, w1, before, after]) :: x.log.filter fun e => e.1 != i }
  ((t.count F.SAF_LOGSTAT_TOTAL).set F.SAF_LOGSTAT_NEWEST i).journalWrite
    [.safLog s.saf.log, .word F.SAF_LOGSTAT_TOTAL.addr (s.reg F.SAF_LOGSTAT_TOTAL.addr)]

/-- The active configuration CRC of SAF and SCH (R399): words 0x08 to 0x5F of each, least significant byte first. -/
def State.safetyCrc (s : State) : Word :=
  let bytes := fun page => (List.range 0x58).flatMap fun i => bytesLE (s.reg (addrOf page (8 + i)))
  BitVec.ofNat 32 (crc32 (bytes 0x18 ++ bytes 0x19))

/-- Row 3 of R384: the brake has failed; its axis is held at IHOLD, in STATE 5. -/
def State.testFailed (s : State) (b a : Nat) : State :=
  let s := ((s.set (resultField b) 2).brakeFail b).onAxis a fun x => { x with drive := 2, endedAt := none }
  s.setAxState a 5

/-- Row 4 of R384: the brake has passed, its due time restarts, and BRKFAIL clears. -/
def State.testPassed (s : State) (b : Nat) : State :=
  let failed := bit (s.get F.SAF_STAT_BRKFAIL) b
  let s := (s.set (resultField b) 1).onSaf fun x => { x with
    passedAt := x.passedAt.set b s.operating, untestable := x.untestable.filter (· != b) }
  let s := s.set F.SAF_STAT_BRKFAIL (withBit (s.get F.SAF_STAT_BRKFAIL) b false)
  s.applyIf failed fun s => s.logChange 0 5 s.safetyCrc s.safetyCrc

/-- BRAKE_TEST_DONE: the test ends after its two phases of TIME, with the encoder movement in each (R384). -/
def execBrakeTestDone (b : Nat) (move1 move2 : Nat) (s : State) : Outcome State Fault Refusal :=
  if s.saf.testing.contains b = false then .next s
  else
    let s := s.advanceTo (entryNat s.saf.testFrom b + s.get F.SAF_BTEST_TIME * 20000)
    match s.testedAxis b with
    | none => .next (s.abortTest b)
    | some a =>
      if s.hasEnc a = true ∧ (s.gdState a ≠ 2 ∨ s.on F.PWR_STAT_WARN = true) then .next (s.abortTest b)
      else
        let t := (s.onSaf fun x => { x with
          testing := x.testing.filter (· != b), requested := x.requested.filter (· != b) }).flag F.SAF_IFLAG_BTEST
        let t := t.driveTested b
        if s.hasEnc a = false then .next (t.notTestable b).safetyEval
        else
          let t := t.set (if b = 0 then F.SAF_BTST0_MOVE else F.SAF_BTST1_MOVE) (min (max move1 move2) 4095)
          .next ((if s.get F.SAF_BTWIN_WIN < max move1 move2 then t.testFailed b a else t.testPassed b).safetyEval)

/-- A write to SAF_CMD: a test of BRK0 or BRK1 at the next opportunity, with the safety unlock (R384, R397). -/
def State.writeSafCmd (s : State) (unlocked : Bool) (v : Word) : State × Option Nat :=
  if !unlocked then (s, some 0x03)
  else if v = 1 ∨ v = 2 then
    let b := v.toNat - 1
    (s.onSaf fun x => { x with requested := b :: x.requested.filter (· != b) }, none)
  else (s, some 0x0A)

/-! ### PROP_EN (R387, R390) -/

/-- PROP_EN_PULSE: a switch of PROP_EN, 0 A or 1 B, opens for 300 µs and the output is read back (R387). -/
def execPropEnPulse (sw : Nat) (opened : Bool) (s : State) : Outcome State Fault Refusal :=
  if s.saf.propCmd && !opened then .next (s.stuckSwitch (4 + sw % 2) 2) else .next s

/-- PROP_EN_READBACK: the output, above 2.0 V or not, is compared with its command every 100 µs; above 2.0 V for 1 ms while
commanded off latches the safe state (R390). A retry due after a low output switches it on again. -/
def execPropEnReadback (high : Bool) (s : State) : Outcome State Fault Refusal :=
  if !s.running then .next s
  else
    let s := s.advanceTo ((s.now / 100 + 1) * 100)
    let s := match s.saf.propRetry with
      | some t => s.applyIf (decide (t ≤ s.now)) fun s => s.onSaf fun x => { x with propRetry := none }
      | none => s
    let s := s.applyIf (high != s.on F.SAF_STAT_PROP_EN) fun s => (s.setOn F.SAF_STAT_PROP_EN high).flag F.SAF_IFLAG_PROP
    let bad := high && !s.saf.propCmd
    let since := s.saf.propBadSince.getD s.now
    let s := s.onSaf fun x => { x with propBadSince := if bad then some since else none }
    if bad && decide (since + 1000 ≤ s.now) then .next (s.safetyFault 2) else .next s.safetyEval

/-- PROP_EN_LOW: below 18 V for 10 ms while on, the output is switched off and retried every 1 s (R390 priority 3). -/
def execPropEnLow (s : State) : Outcome State Fault Refusal :=
  if s.saf.propCmd then
    .next (((s.onSaf fun x => { x with propRetry := some (s.now + 1000000) }).listed 0x18 3 1).safetyEval)
  else .next s

/-! ### Edges (R40, R344) -/

/-- The axis of an edge. -/
def State.edgeAxis (s : State) (e : Nat) : Nat := if e = 0 then s.get F.MOT_ROLE_E0AX else s.get F.MOT_ROLE_E1AX

/-- An edge becomes idle, pressed or broken (0, 1, 2), and acts on its axis. -/
def State.edgeTo (s : State) (e st : Nat) : State :=
  let s := s.set (if e = 0 then F.SAF_STAT_EDGE0 else F.SAF_STAT_EDGE1) st
  let a := s.edgeAxis e
  if s.hasM && decide (a < 6) then
    let active := (s.edgeAxis 0 == a && s.get F.SAF_STAT_EDGE0 != 0) || (s.edgeAxis 1 == a && s.get F.SAF_STAT_EDGE1 != 0)
    let s := s.setOn (F.AX_STAT_EDGE.on a) active
    match (s.axis a).cycle with
    | some _ =>
      match (s.axis a).held.positive with
      | some p => s.applyIf (s.edgeGuards a p) fun s => s.stopAxis a 6
      | none => s
    | none => s
  else s

/-- What a loop resistance in ohms says of an edge: 0 idle, 1 pressed, 2 broken; none in the two gaps (R40). -/
def edgeReading (ohm : Nat) : Option Nat :=
  if ohm < 500 then some 1 else if 4000 ≤ ohm ∧ ohm ≤ 12000 then some 0 else if 20000 < ohm then some 2 else none

/-- EDGE_CHANGE: the loop resistance of a safety edge changes; in a gap the edge keeps its state (R40). -/
def execEdgeChange (e ohm : Nat) (s : State) : Outcome State Fault Refusal :=
  if s.cdieRuns ∧ e < 2 then
    match edgeReading ohm with
    | some st => .next ((s.onSaf fun x => { x with edgeGap := x.edgeGap.filter fun g => g.1 != e }).edgeTo e st)
    | none => .next (s.onSaf fun x => { x with
        edgeGap := if x.edgeGap.any fun g => g.1 == e then x.edgeGap else (e, s.now) :: x.edgeGap })
  else .next s

/-- EDGE_GAP_TIMEOUT: a loop resistance in a gap for 10 ms is treated as broken (R40). -/
def execEdgeGapTimeout (e : Nat) (s : State) : Outcome State Fault Refusal :=
  match s.saf.edgeGap.find? fun g => g.1 == e with
  | some g =>
    .next (((s.advanceTo (g.2 + 10000)).onSaf fun x => { x with edgeGap := x.edgeGap.filter fun g => g.1 != e }).edgeTo e 2)
  | none => .next s

/-! ### The safety link (R391 to R396) -/

/-- The CRC-32 of the safety link (R392): polynomial 0xF4ACFB13, reflected. -/
def crcSafety (bytes : List Nat) : Nat := crc32With 0xC8DF352F bytes

/-- LINK changes: 0 disabled, 1 waiting, 2 confirming, 3 connected. Data counts only while connected. -/
def State.setLink (s : State) (v : Nat) : State :=
  let was := s.get F.SCH_STAT_LINK
  let s := s.set F.SCH_STAT_LINK v
  let s := s.applyIf (v != 3) fun s => s.set F.SCH_STAT_RXDATA 0
  s.applyIf (v == 3 && was != 3) fun s => s.flag F.SCH_IFLAG_CONN

/-- A committed SCH page applies: the link is switched on, waiting, or off (R394, R395). -/
def State.applySch (s : State) : State :=
  if s.on F.SCH_CFG_EN then (if s.get F.SCH_STAT_LINK = 0 then s.setLink 1 else s)
  else (s.setLink 0).onSaf fun x => { x with wdtAt := none }

/-- A frame accepted under rows 4 to 6 restarts the watchdog (R394). -/
def State.restartWdt (s : State) : State := s.onSaf fun x => { x with wdtAt := some (s.now + s.get F.SCH_TIME_RXWDT * 1000) }

/-- Take the data and the sequence of a frame. -/
def State.takePdu (s : State) (seq data : Nat) : State := (s.set F.SCH_STAT_RXSEQ seq).set F.SCH_STAT_RXDATA (data % 32)

/-- Decide a received frame by rows 4 to 7 of R393. -/
def State.acceptPdu (s : State) (seq data : Nat) : State :=
  match s.get F.SCH_STAT_LINK with
  | 1 => (((s.onSaf fun x => { x with baseline := seq }).setLink 2).set F.SCH_STAT_RXSEQ seq).restartWdt
  | 2 =>
    if seq = (s.saf.baseline + 1) % 65536 then ((s.setLink 3).takePdu seq data).restartWdt
    else ((s.onSaf fun x => { x with baseline := seq }).set F.SCH_STAT_RXSEQ seq).restartWdt
  | 3 =>
    let d := (seq + 65536 - s.get F.SCH_STAT_RXSEQ) % 65536
    if 1 ≤ d ∧ d ≤ 16 then (s.takePdu seq data).restartWdt
    else (s.count F.SCH_ERR_SEQ).flag F.SCH_IFLAG_SEQ
  | _ => s

/-- SAFETY_PDU_RECEIVED: a frame with identifier SCH_RXID on the link's port (R393). -/
def execSafetyPduReceived (fd : Bool) (bytes : List Byte) (s : State) : Outcome State Fault Refusal :=
  if !s.running || !s.on F.SCH_CFG_EN || !s.canUp (s.get F.SCH_CFG_PORT) then .next s
  else
    let b := bytes.map (·.toNat)
    let n := fun lo k => ofBytesBE ((b.drop lo).take k)
    if fd = false ∨ b.length ≠ 16 ∨ 32 ≤ n 8 4 ∨ n 6 2 ≠ s.get F.SCH_TIME_RXWDT then .next (s.flag F.SCH_IFLAG_FMT)
    else if n 12 4 ≠ crcSafety (b.take 12) then .next ((s.count F.SCH_ERR_CRC).flag F.SCH_IFLAG_CRC)
    else if n 0 4 ≠ s.get F.SCH_CONNRX_ID then .next ((s.count F.SCH_ERR_ID).flagEvent F.SCH_IFLAG_ID 2)
    else .next ((s.acceptPdu (n 4 2) (n 8 4)).safetyEval)

/-- SAFETY_WATCHDOG_EXPIRY: no accepted frame within RXWDT; the link waits and its data reads 0 (R394). -/
def execSafetyWatchdogExpiry (s : State) : Outcome State Fault Refusal :=
  match s.saf.wdtAt with
  | some t =>
    let s := (s.advanceTo t).onSaf fun x => { x with wdtAt := none }
    .next ((((s.setLink 1).count F.SCH_ERR_WDT).flagEvent F.SCH_IFLAG_WDT 1).safetyEval)
  | none => .next s

/-- The bytes of a safety PDU (R391). -/
def State.safetyPdu (s : State) (seq : Nat) : List Nat :=
  let b := bytesBE 4 (s.get F.SCH_CONNTX_ID) ++ bytesBE 2 seq ++ bytesBE 2 (s.get F.SCH_TIME_TXWDT) ++
    bytesBE 4 ((s.reg F.SAF_STAT_SFAULT.addr).toNat % 2 ^ 26)
  b ++ bytesBE 4 (crcSafety b)

/-- Hand a frame to a CAN port's controller; a port that is disabled or off the bus sends none. -/
def State.sendCan (s : State) (port id : Nat) (fd : Bool) (bytes : List Nat) : State :=
  if s.canUp port then
    s.onLink (if port = 0 then .can0 else .can1) fun l => { l with tx := some (s.canTx port id fd (bytes.map (BitVec.ofNat 8))) }
  else s

/-- When the next PDU is due: at once the first, then every TXWDT/4 in whole ms, and after a change of SAF_STAT as soon as 5 ms have
passed since the last (R395). -/
def State.pduDue (s : State) : Nat :=
  match s.saf.lastSent with
  | some t =>
    let next := t + s.get F.SCH_TIME_TXWDT / 4 * 1000
    if s.reg F.SAF_STAT_SFAULT.addr = s.saf.sentData then next else min next (max s.now (t + 5000))
  | none => s.now

/-- SAFETY_PDU_SEND: the PDU that is due is sent (R395); its sequence rises by 1 from 0 at start-up. -/
def execSafetyPduSend (s : State) : Outcome State Fault Refusal :=
  if s.running && s.on F.SCH_CFG_EN then
    let s := s.advanceTo s.pduDue
    let seq := s.saf.nextSeq
    .next (((s.sendCan (s.get F.SCH_CFG_PORT) (s.get F.SCH_TXID_ID) true (s.safetyPdu seq)).set F.SCH_TXSEQ_SEQ seq).onSaf fun x => { x with
      nextSeq := (seq + 1) % 65536, lastSent := some s.now, sentData := s.reg F.SAF_STAT_SFAULT.addr })
  else .next s

end Sys2Proof.Machine
end

