-- ==== Sys2Proof/Machine/TapTable.lean ====
section
/-! DEFINITION. The tap table and what it makes of the cells of a die (R156, R158, R160 to R163). -/
namespace Sys2Proof.Machine

/-- STATE of table entry `e`. -/
def State.tapEntryState (s : State) (e : Nat) : Nat := s.get (F.CMP_TAP_STATE.at e)

/-- The entry of tap `t` of die `k`. -/
def State.tapSlot (s : State) (k t : Nat) : Option Nat :=
  (List.range 16).find? fun e => s.tapEntryState e != 0 && s.get (F.CMP_TAP_DIE.at e) == k && s.get (F.CMP_TAP_TAP.at e) == t

/-- STATE of tap `t` of die `k`; 0 outside the table. -/
def State.tapState (s : State) (k t : Nat) : Nat :=
  match s.tapSlot k t with
  | some e => s.tapEntryState e
  | none => 0

/-- The tap is suspect, broken or high-resistance (R162). -/
def State.tapFaulty (s : State) (k t : Nat) : Bool :=
  let v := s.tapState k t
  v == 1 || v == 2 || v == 3

/-- The faulty taps of a die, ascending. -/
def State.faultyTaps (s : State) (k : Nat) : List Nat :=
  ((List.range 16).filter fun e =>
    s.get (F.CMP_TAP_DIE.at e) == k && (s.tapEntryState e == 1 || s.tapEntryState e == 2 || s.tapEntryState e == 3)).map
      fun e => s.get (F.CMP_TAP_TAP.at e)

/-- The lowest tap of the run of listed taps that ends at `t`. -/
def runLow (taps : List Nat) : Nat → Nat
  | 0 => 0
  | t + 1 => if taps.contains t then runLow taps t else t + 1

/-- The highest tap of the run of listed taps that begins at `t`, looking at most `fuel` further. -/
def runHigh (taps : List Nat) : Nat → Nat → Nat
  | 0, t => t
  | fuel + 1, t => if taps.contains (t + 1) then runHigh taps fuel (t + 1) else t

/-- What the tap table makes of a cell: as measured, in the group of the taps `lo` to `hi`, or an estimated single cell. -/
inductive CellCase where
  | measured
  | group (lo hi : Nat)
  | estimated
deriving DecidableEq, Repr

/-- The case of local cell `i`, given the faulty taps of its die (R162): a run of at most three inner taps bounded by good taps
makes a group of its cells; any other cell next to a faulty tap is an estimated single cell. -/
def cellCase (taps : List Nat) (i : Nat) : CellCase :=
  if !taps.contains i && !taps.contains (i + 1) then .measured
  else
    let t := if taps.contains i then i else i + 1
    let lo := runLow taps t
    let hi := runHigh taps 64 t
    if 1 ≤ lo ∧ hi ≤ 63 ∧ hi - lo < 3 then .group lo hi else .estimated

/-- The case of local cell `i` of die `k`. -/
def State.cellCase (s : State) (k i : Nat) : CellCase := Machine.cellCase (s.faultyTaps k) i

/-- The cell lies in a group or is estimated: its V is a substitute (R163). -/
def State.substituted (s : State) (k i : Nat) : Bool :=
  match s.cellCase k i with
  | .measured => false
  | _ => true

/-- The die has a harness fault (R161). -/
def State.harness (s : State) (k : Nat) : Bool := bit (s.get F.CMP_OWST_HARNESS) k

/-- Write an entry of the tap table: state, die, tap, span error, span in mV. -/
def State.putTap (s : State) (e state k t spanErr span : Nat) : State :=
  s.put (F.CMP_TAP_STATE.at e).addr
    (BitVec.ofNat 32 (state % 8 * 2 ^ 29 + k % 8 * 2 ^ 26 + t % 128 * 2 ^ 19 + spanErr % 2 * 2 ^ 16 + span % 65536))

/-- The cells of a span whose last measurement disagreed carry S (R159): those of the group or pair around the tap. -/
def State.spanCells (s : State) (k t : Nat) : List Nat :=
  let taps := s.faultyTaps k
  let lo := runLow taps t
  let hi := runHigh taps 64 t
  cellList.filter fun i => decide (lo ≤ i + 1) && decide (i ≤ hi)

/-- Local cell `i` lies in a span that disagreed. -/
def State.spanSuspect (s : State) (k i : Nat) : Bool :=
  (List.range 16).any fun e =>
    (s.tapEntryState e == 1 || s.tapEntryState e == 2 || s.tapEntryState e == 3) && s.get (F.CMP_TAP_DIE.at e) == k &&
      s.on (F.CMP_TAP_SPANERR.at e) && (s.spanCells k (s.get (F.CMP_TAP_TAP.at e))).contains i

/-- The summary bits of the tap table. -/
def State.showTaps (s : State) : State :=
  s.setOn F.CMP_PSTAT_TAPFAULT ((List.range 16).any fun e => s.tapEntryState e != 0)

/-- A tap leaves the table. -/
def State.clearTap (s : State) (k t : Nat) : State :=
  match s.tapSlot k t with
  | some e => ((s.putTap e 0 0 0 0 0).flag F.CMP_IFLAG_CLEARED).showTaps
  | none => s

/-- A tap enters the table, or changes state there; `false` when no entry is free (R161). -/
def State.enterTap (s : State) (k t state : Nat) : State × Bool :=
  match s.tapSlot k t with
  | some e => (s.set (F.CMP_TAP_STATE.at e) state, true)
  | none => match (List.range 16).find? fun e => s.tapEntryState e == 0 with
    | some e => ((s.putTap e state k t 0 0).showTaps, true)
    | none => (s, false)

end Sys2Proof.Machine
end

