-- ==== Sys2Proof/Machine/CellMeasurement.lean ====
section
/-! DEFINITION. Cell measurement: the conversion chain, the cell word and its flags, drift tracking, the auxiliary scan and the
SAR cross-check (R132 to R151), and the balance correction they use (R186 to R188). -/
namespace Sys2Proof.Machine
open Host

/-! ### Balance correction (R186 to R188) -/

/-- The learned resistance of tap `j` in 0.1 mΩ; 0xFFFF = not learned. -/
def State.learnedR (s : State) (k j : Nat) : Nat :=
  if j % 2 = 0 then s.get ((F.BL_RTAP_EVEN.on k).at (j / 2)) else s.get ((F.BL_RTAP_ODD.on k).at (j / 2))

/-- The mean temperature of the cells that have tap `j` as a terminal, 0.01 °C. DESIGN CHOICE (log entry 113): the mean of two is rounded
to 0.01 °C; R188 gives no word length. -/
def State.tapTemp (s : State) (k j : Nat) : Int :=
  meanOf (((if j = 0 then [] else [j - 1]) ++ (if j < 64 then [j] else [])).map (s.cellTemp k))

/-- The words that set the tap resistances of a die: BL_RDEF, BL_RTEMP, BL_RTAP0 to BL_RTAP32 (R188). -/
def State.tapWords (s : State) (k : Nat) : List Word :=
  s.reg (F.BL_RDEF_R.on k).addr :: s.reg (F.BL_RTEMP_T.on k).addr ::
    (List.range 33).map fun w => s.reg ((F.BL_RTAP_EVEN.on k).at w).addr

/-- The resistance of tap `j` under such words, 0.1 mΩ (R188): BL_RDEF for a tap not learned, the learned value scaled with the
temperature of the moment (log entry 91). -/
def State.tapRUnder (s : State) (k : Nat) (words : List Word) (j : Nat) : Rat :=
  let word := fun i => (words[i]?).getD 0
  let half := word (2 + j / 2)
  let r := if j % 2 = 0 then bitsOf half 15 0 else bitsOf half 31 16
  if r = 0xFFFF then (bitsOf (word 0) F.BL_RDEF_R.hi F.BL_RDEF_R.lo : Rat)
  else (r : Rat) * (1 + 39 / 1000000 * ((s.tapTemp k j - signedOf 16 (bitsOf (word 1) 15 0) : Int) : Rat))

/-- The current in tap wire `j` towards the module for switch currents `sw` (R186). -/
def tapCurrent (sw : List Int) (j : Nat) : Int := (if j = 0 then 0 else entry sw (j - 1)) - (if j < 64 then entry sw j else 0)

/-- The correction of cell `i` (R187) for switch currents in µA and resistances in 0.1 mΩ: in 10⁻⁴ µV. -/
def State.correctionUnder (s : State) (k : Nat) (words : List Word) (sw : List Int) (i : Nat) : Rat :=
  let j0 := tapCurrent sw i
  let j1 := tapCurrent sw (i + 1)
  (if j1 = 0 then 0 else (j1 : Rat) * s.tapRUnder k words (i + 1)) - (if j0 = 0 then 0 else (j0 : Rat) * s.tapRUnder k words i)

/-- The correction of a filter output, each grid sample under the tap resistances in force when it was taken (R132 step 4). -/
def State.corrected (s : State) (k : Nat) (x : DieSample) (i : Nat) : Rat :=
  let d := s.die k
  s.correctionUnder k d.taps x.sw i + ((x.swPast.zip d.oldTaps).map fun (e : List Int × List Word) =>
    s.correctionUnder k e.2 e.1 i - s.correctionUnder k d.taps e.1 i).sum

/-- The tap resistances of the grid samples from this boundary on; the ones before a change are kept while the filter reaches back to
them. -/
def State.noteTaps (s : State) (k : Nat) : State :=
  let w := s.tapWords k
  s.onDie k fun d => if d.taps = w then d else { d with
    taps := w, oldTaps := if d.taps = [] then [] else (d.taps :: d.oldTaps).take 64 }

/-! ### Sampling a die (R132, R142, R143) -/

/-- The range of V, µV (R142). -/
def vMin : Int := -250000
def vMax : Int := 5500000

/-- The filter output of a cell with the drift gain each grid sample was taken under (R132 step 3): 0.1 ppm × µV. -/
def State.gained (s : State) (k : Nat) (x : DieSample) (i : Nat) : Int :=
  let d := s.die k
  ((x.past.zip d.gains).map fun (e : List Int × Int) => entry e.1 i * (e.2 - d.gain)).sum + entry x.u i * (10000000 + d.gain)

/-- The channel value of a cell in µV before limiting: drift gain, then balance correction (R132 steps 3 and 4). -/
def State.channelRaw (s : State) (k : Nat) (x : DieSample) (i : Nat) : Int :=
  roundRat ((s.gained k x i : Rat) / 10000000 + s.corrected k x i / 10000)

/-- The same without the balance correction. -/
def State.channelPlain (s : State) (k : Nat) (x : DieSample) (i : Nat) : Int := roundDiv (s.gained k x i) 10000000

/-- The switch of local cell `i` was closed, or carried current, at a grid sample of the filter span; `flow` are the cells whose
filtered switch current is not 0 (R143, R178; log entry 112). -/
def State.switchedWithin (s : State) (k : Nat) (flow : List Nat) (i : Nat) : Bool :=
  let b := (s.die k).bal
  b.closed.contains i || flow.contains i || b.openedAt.any fun e => e.1 == i && decide (s.now < e.2 + s.filterSpan)

/-- C of local cell `i`: its switch, or that of a neighbour on the same die (R143). -/
def State.correctedCell (s : State) (k : Nat) (flow : List Nat) (i : Nat) : Bool :=
  s.switchedWithin k flow i || (decide (0 < i) && s.switchedWithin k flow (i - 1)) ||
    (decide (i < 63) && s.switchedWithin k flow (i + 1))

/-- The channels of a die have run for less than T_F (R145). -/
def State.youngNow (s : State) (k : Nat) : Bool := decide (s.now < (s.die k).startedAt + s.filterSpan)

/-- What die `k` samples at a boundary. -/
def State.sampleDie (s : State) (k : Nat) (x : DieSample) : HeldDie :=
  let raw := cellList.map (s.channelRaw k x)
  { v := raw.map (clampInt vMin vMax)
    plain := cellList.map (s.channelPlain k x)
    held := cellList.filter fun i => decide (entry raw i < vMin) || decide (vMax < entry raw i)
    corrected := []
    flow := cellList.filter fun i => entry x.sw i != 0 || x.swPast.any fun l => entry l i != 0
    localTimer := x.strobeMiss
    young := s.youngNow k
    used := cellList.filter (s.inUse k)
    gain := (s.die k).gain }

/-- C of the cells of a die, once the switches of the boundary stand (R143). -/
def State.markCorrected (s : State) (k : Nat) : State :=
  s.onDie k fun d => { d with held := d.held.map fun h => { h with corrected := cellList.filter (s.correctedCell k h.flow) } }

/-- Fast cells of a die (R137). -/
def State.fastCell (s : State) (k i : Nat) : Bool := s.bit64 (F.MD_FAST_LO_FAST.on k) (F.MD_FAST_HI_FAST.on k) i

/-- Die `k` takes part in sampling: fitted, powered, and not asleep. -/
def State.sampling (s : State) (k : Nat) : Bool :=
  decide (k < s.dies) && bit (s.get F.PWR_MDPWR_MD_ON) k && !bit (s.get F.STK_ROUTE_ASLEEP) k

/-- The mid-frame samples of the fast cells of a die. -/
def State.midSampleDie (s : State) (k : Nat) (x : DieSample) : State :=
  let cells := cellList.filter (s.fastCell k)
  s.onDie k fun d => { d with mid := cells.map fun i =>
    let raw := s.channelRaw k x i
    let ends := decide (raw < vMin) || decide (vMax < raw)
    ⟨i, clampInt vMin vMax raw, ends, ends || x.strobeMiss || s.youngNow k || !s.inUse k i⟩ }

/-- MID_FRAME_SAMPLE: the fast cells of every sampling die, half a period after the boundary (R137). -/
def execMidFrameSample (xs : List DieSample) (s : State) : Outcome State Fault Refusal :=
  if !s.running then .next s
  else
    let s := s.advanceTo (s.thy.boundary + s.period / 2)
    .next (s.dieList.foldl (fun s k => if s.sampling k then s.midSampleDie k ((xs[k]?).getD {}) else s) s)

/-! ### Drift tracking (R140, R141) -/

/-- ρ / ρ0 - 1 in 0.1 ppm (R140). -/
def deltaOf (rho rho0 : Nat) : Int := roundDiv (((rho : Int) - rho0) * 10000000) rho0

/-- Twice the drift of A and twice the SAR gain error of a scan, 0.1 ppm (R140). -/
def ScanHeld.d2 (x : ScanHeld) : Int := x.deltaA - x.deltaB
def ScanHeld.e2 (x : ScanHeld) : Int := x.deltaA + x.deltaB

/-- The mean of d over the last 64 quiet frames, 0.1 ppm; while there have been fewer since the start, of those there have been
(log entry 63). -/
def DieSt.meanD (d : DieSt) : Rat := (d.dHist.sum : Rat) / ((2 * d.dHist.length : Nat) : Rat)

/-- The magnitude of a rational is above a number. -/
def beyond (limit : Nat) (q : Rat) : Bool := decide ((limit : Rat) < q) || decide (q < -(limit : Rat))

/-- SAR gain fault, row 1 of R141, judged in every frame. -/
def State.checkSarGain (s : State) (k : Nat) (e2 : Int) : State :=
  let s := s.onDie k fun d => { d with
    sarBad := if 4000 < absInt e2 then d.sarBad + 1 else 0
    sarGood := if absInt e2 ≤ 2000 then d.sarGood + 1 else 0 }
  if s.on (F.MD_PSTAT_SARGAIN.on k) then
    s.applyIf (decide (64 ≤ (s.die k).sarGood)) fun s => s.setOn (F.MD_PSTAT_SARGAIN.on k) false
  else s.applyIf (decide (8 ≤ (s.die k).sarBad)) fun s =>
    (s.setOn (F.MD_PSTAT_SARGAIN.on k) true).flagEvent (F.MD_IFLAG_SARGAIN.on k) 2

/-- The d of a quiet frame, and the mean it gives. -/
def State.recordDrift (s : State) (k : Nat) (d2 : Int) : State :=
  s.onDie k fun d =>
    let d := { d with dHist := (d2 :: d.dHist).take 64 }
    { d with means := (d.meanD :: d.means).take 65 }

/-- Step hold, row 2 of R141. The 5 ppm are counted from the mean of the first of the 64 frames (log entry 64). -/
def State.checkStep (s : State) (k : Nat) : State :=
  let d := s.die k
  let m := d.meanD
  if s.on (F.MD_PSTAT_REFSTEP.on k) then
    let near := !beyond 50 (m - d.steadyRef)
    let s := s.onDie k fun d => { d with
      steadyRef := if near then d.steadyRef else m
      steadyN := if near then d.steadyN + 1 else 1 }
    s.applyIf (decide (64 ≤ (s.die k).steadyN)) fun s =>
      (s.setOn (F.MD_PSTAT_REFSTEP.on k) false).onDie k fun d => { d with means := [m] }
  else
    s.applyIf (d.means.any fun x => beyond 500 (m - x)) fun s =>
      ((s.setOn (F.MD_PSTAT_REFSTEP.on k) true).onDie k fun d => { d with steadyRef := m, steadyN := 1 }).flagEvent
        (F.MD_IFLAG_REFSTEP.on k) 2

/-- Reference fault, row 3 of R141. -/
def State.checkRef (s : State) (k : Nat) : State :=
  let m := (s.die k).meanD
  if s.on (F.MD_PSTAT_REF.on k) then
    s.applyIf (!beyond 4500 m) fun s => s.setOn (F.MD_PSTAT_REF.on k) false
  else s.applyIf (beyond 5000 m) fun s =>
    (s.setOn (F.MD_PSTAT_REF.on k) true).flagEvent (F.MD_IFLAG_REF.on k) 2

/-- The drift gain after a quiet boundary: frozen, held at ±500 ppm, or one step of at most 1.0 ppm towards the mean, in the
0.1 ppm of its register (R140, R141, log entry 65). -/
def State.nextGain (s : State) (k : Nat) : Int :=
  let d := s.die k
  let m := d.meanD
  if d.dHist.isEmpty || s.on (F.MD_PSTAT_SARGAIN.on k) || s.on (F.MD_PSTAT_REFSTEP.on k) then d.gain
  else if s.on (F.MD_PSTAT_REF.on k) then (if 0 ≤ m then 5000 else -5000)
  else clampInt (-5000) 5000 (d.gain + clampInt (-10) 10 (roundRat m - d.gain))

/-- A quiet boundary moves the drift gain: the grid samples after it take the new one. -/
def State.moveGain (s : State) (k : Nat) : State :=
  let g := s.nextGain k
  s.onDie k fun d => if d.gain = g then d else { d with gain := g, gains := (d.gain :: d.gains).take 64 }

/-- The reference checks of one published frame. -/
def State.checkReferences (s : State) (k : Nat) (quiet : Bool) (x : ScanHeld) : State :=
  (s.checkSarGain k x.e2).applyIf quiet fun s => ((s.recordDrift k x.d2).checkStep k).checkRef k

/-! ### The cross-check (R150, R151) -/

/-- Advance the cross-check pointer; a confirmed failure is remembered by its position. -/
def State.advanceCheck (s : State) (k : Nat) (failed : Bool) : State :=
  let next := (s.get (F.MD_XSTAT_NEXT.on k) + 1) % 64
  let s := s.onDie k fun d =>
    let pos := d.positions + 1
    let keep := d.confirmedAt.filter fun p => decide (pos < p + 64)
    { d with positions := pos, confirmedAt := if failed then pos :: keep else keep, failedOnce := none }
  let s := s.set (F.MD_XSTAT_NEXT.on k) next
  let n := (s.die k).confirmedAt.length
  if s.on (F.MD_PSTAT_XDIE.on k) then s.applyIf (n == 0) fun s => s.setOn (F.MD_PSTAT_XDIE.on k) false
  else s.applyIf (decide (3 ≤ n)) fun s =>
    (s.setOn (F.MD_PSTAT_XDIE.on k) true).flagEvent (F.MD_IFLAG_XDIE.on k) 2

/-- Write MD_XRES: outcome, cell, difference. -/
def State.putXres (s : State) (k out cell : Nat) (diff : Int) : State :=
  s.put (F.MD_XRES_OUT.on k).addr (BitVec.ofNat 32 (out * 2 ^ 30 + cell % 64 * 2 ^ 24 + codeOf 24 diff))

/-- The cross-check of a published frame (R151). DESIGN CHOICE (log entry 114): MD_XRES.CELL of a frame without a comparison, OUT 0x3,
shows the cell at the pointer. A comparison skipped in between leaves the count of consecutive failures of the
cell as it is (log entry 66). -/
def State.crossCheck (s : State) (k : Nat) (f : DieFrame) (x : ScanHeld) : State :=
  let c := s.get (F.MD_XSTAT_NEXT.on k)
  if !f.quiet || s.on (F.MD_PSTAT_SARGAIN.on k) then s.putXres k 3 c 0
  else if !f.held.used.contains c || f.held.held.contains c || s.substituted k c || s.harness k then (s.putXres k 2 c 0).advanceCheck k false
  else if decide (s.get (F.MD_XCHK_IBAND.on k) * 1000 < f.spanIa) || s.cur.suspect then s.putXres k 2 c 0
  else
    let diff := x.sar - entry f.held.v c
    if absInt (diff) ≤ 3000 then
      ((s.putXres k 0 c diff).onDie k fun d => { d with confirmed := d.confirmed.filter (· != c) }).advanceCheck k false
    else
      let s := (s.putXres k 1 c diff).count (F.MD_XSTAT_FAILS.on k)
      if (s.die k).failedOnce = some c then
        ((s.onDie k fun d => { d with confirmed := c :: d.confirmed.filter (· != c) }).flagEvent
          (F.MD_IFLAG_XCHK.on k) 1).advanceCheck k true
      else s.onDie k fun d => { d with failedOnce := some c }

/-! ### Publishing a die's page (R24, R137, R138, R142 to R147, R163) -/

/-- V of a substituted cell (R163): the group's sum shared out, rounded towards zero, or the value before the fault plus the
change of the die's mean since. -/
def State.substituteV (s : State) (k : Nat) (v : List Int) (mean : Int) (i : Nat) : Int :=
  match s.cellCase k i with
  | .measured => entry v i
  | .group lo hi =>
    ((List.range (hi + 2 - lo)).map fun m => entry v (lo - 1 + m)).sum.tdiv ((hi + 2 - lo : Nat) : Int)
  | .estimated => match (s.die k).estimates.find? fun e => e.cell == i with
    | some e => e.v0 + (mean - e.mean0)
    | none => entry v i

/-- D of a cell (R143): substituted, a reference or cross-check fault of the die, or a harness fault (R161). -/
def State.flagD (s : State) (k i : Nat) : Bool :=
  s.substituted k i || s.on (F.MD_PSTAT_SARGAIN.on k) || s.on (F.MD_PSTAT_REFSTEP.on k) || s.on (F.MD_PSTAT_REF.on k) ||
    s.on (F.MD_PSTAT_XDIE.on k) || s.harness k

/-- S of a cell (R143, R159, R161); `ends` are the cells whose V is held at a range end. -/
def State.flagS (s : State) (k : Nat) (f : DieFrame) (ends : List Nat) (i : Nat) : Bool :=
  f.held.localTimer || f.held.young || ends.contains i || !f.held.used.contains i || (s.die k).confirmed.contains i ||
    (f.mid.any fun m => m.cell == i && m.bad) || ((s.die k).inputFault.any fun e => e.2 == i) ||
    s.spanSuspect k i || s.harness k

/-- A cell word (R142). -/
def cellWordOf (seq : Word) (q c d f : Bool) (v : Int) : Word :=
  BitVec.ofNat 32 (seq.toNat % 16 * 2 ^ 28 + ofBool q * 2 ^ 27 + ofBool c * 2 ^ 26 + ofBool d * 2 ^ 25 + ofBool f * 2 ^ 24 +
    codeOf 24 (clampInt vMin vMax v))

/-- The mid-frame half-word of cell `i` (R138), and whether its difference had to be held. -/
def State.midHalf (s : State) (k : Nat) (f : DieFrame) (i : Nat) : Nat × Bool :=
  match f.mid.find? fun m => m.cell == i with
  | none => (0x8000, false)
  | some m =>
    if m.bad || f.held.localTimer || (s.die k).confirmed.contains i then (0x8000, false)
    else
      let diff := m.v - entry f.held.v i
      if 262136 < diff then (0x7FFF, true)
      else if diff < -262136 then (0x8001, true)
      else (codeOf 16 (roundDiv diff 8), false)

/-- The words of the temperature inputs and fixed channels of a frame's scan (R146, R147). -/
def State.publishScan (s : State) (k : Nat) (seq : Word) (x : ScanHeld) : State :=
  let state := fun (s : State) (q : Nat) => s.get ((F.MD_NTC_STATE.on k).at q)
  let t := (List.range 16).foldl (fun (s : State) q =>
    let r := (x.ntc[q]?).getD (3, 0x8000)
    s.put ((F.MD_NTC_STATE.on k).at q).addr (BitVec.ofNat 32 (seq.toNat % 16 * 2 ^ 28 + r.1 * 2 ^ 26 + r.2))) s
  let openShort := fun x => x == 1 || x == 2
  let changed := (List.range 16).any fun q =>
    state s q != state t q && (openShort (state s q) || openShort (state t q))
  (((((t.applyIf changed fun s => s.flag (F.MD_IFLAG_NTC.on k)).setInt (F.MD_DIE_TDIE.on k) x.t).set
    (F.MD_DIE_SUPPLY.on k) x.supply).setInt (F.MD_REFA_DELTA.on k) x.deltaA).setInt (F.MD_REFB_DELTA.on k) x.deltaB).onDie
      k fun d => { d with diodeFault := x.diodeFault, tdieAt := some s.now }

/-- What a frame's scan brings: the reference checks, the cross-check, its words. A frame without a scan brings none. -/
def State.useScan (s : State) (k : Nat) (f : DieFrame) : State :=
  match f.scan with
  | none => s
  | some x => ((s.checkReferences k f.quiet x).crossCheck k f x).publishScan k f.seq x

/-- The cells whose V is held at a range end: a measured one by its channel, a substituted one by its substitute (R142). -/
def State.overRange (s : State) (k : Nat) (f : DieFrame) (v : List Int) : List Nat :=
  cellList.filter fun i =>
    if s.substituted k i then decide (entry v i < vMin) || decide (vMax < entry v i) else f.held.held.contains i

/-- The clean cells of a frame before its substitutes are formed: in use, without D or S (R157, R163). -/
def State.cleanNow (s : State) (k : Nat) (f : DieFrame) : List Nat :=
  cellList.filter fun i => !s.flagD k i && !s.flagS k f f.held.held i && f.held.used.contains i

/-- The cell words and mid-frame words of a frame, with the maps of S and D. -/
def State.putCells (s : State) (k : Nat) (f : DieFrame) (v : List Int) : State :=
  let ends := s.overRange k f v
  let sMap := cellList.map (s.flagS k f ends)
  let dMap := cellList.map (s.flagD k)
  let yes := fun (m : List Bool) i => (m[i]?).getD false
  let halves := cellList.map (s.midHalf k f)
  let half := fun i => (halves[i]?).getD (0x8000, false)
  let excess := f.held.used.any fun i => ends.contains i || (half i).2 || f.mid.any fun m => m.cell == i && m.ended
  let s := cellList.foldl (fun (s : State) i =>
    s.put ((F.MD_CELL_CELL.on k).at i).addr
      (cellWordOf f.seq f.quiet (f.held.corrected.contains i) (yes dMap i) (yes sMap i) (entry v i))) s
  let s := (List.range 32).foldl (fun (s : State) w =>
    s.put ((F.MD_MID_EVEN.on k).at w).addr (BitVec.ofNat 32 ((half (2 * w + 1)).1 * 65536 + (half (2 * w)).1))) s
  let s := s.set64 (F.MD_SUSP_LO_S.on k) (F.MD_SUSP_HI_S.on k) (yes sMap)
  let s := s.set64 (F.MD_DEGR_LO_D.on k) (F.MD_DEGR_HI_D.on k) (yes dMap)
  s.applyIf excess fun s => s.flag (F.MD_IFLAG_OVR.on k)

/-- Publish a frame of die `k` (R24): scan results, cell words, mid-frame words, the S and D maps, the drift gain. The mean of a die
without a clean cell is taken as 0 (log entry 67). -/
def State.publishDie (s : State) (k : Nat) (f : DieFrame) : State :=
  let s := s.useScan k f
  let clean := (s.cleanNow k f).map (entry f.held.v)
  let v := cellList.map (s.substituteV k f.held.v (meanOf clean))
  let s := s.putCells k f v
  let adjacent := s.reg (addrOf (0x20 + k) 7) + 1 == f.seq
  let s := (s.setInt (F.MD_GAIN_GAIN.on k) f.held.gain).onDie k fun d => { d with
    adjacent := adjacent, prevReported := d.reported, reported := v.map (clampInt vMin vMax)
    prevChannel := d.channel, channel := f.held.v, plain := f.held.plain
    prevMean := d.mean, mean := meanOf clean, prevMedian := d.median, median := medianOf clean }
  let s := s.publish (F.MD_CELL_CELL.on k).page f.seq
  if f.seq.toNat % 8 = 7 then
    s.onDie k fun d => { d with quietCells := cellList.map (s.cellWord k), quietTdie := s.getInt (F.MD_DIE_TDIE.on k) }
  else s

/-! ### The auxiliary scan (R146 to R149) -/

/-- The factory ratios of a die. -/
def State.ratio (s : State) (k : Nat) : Nat × Nat := (s.ratios[k]?).getD (1000000000, 1000000000)

/-- One die's scan: enabled NTC inputs and the fixed channels. -/
def State.scanDie (s : State) (k : Nat) (x : ScanSample) : State :=
  let ntc := (List.range 16).map fun q =>
    if bit (s.get (F.MD_SCAN_NTC.on k)) q then
      ntcResult (entryNat x.ntc q) (s.get (F.MD_NTCPAR_RNOM.on k)) (s.get (F.MD_NTCPAR_BETA.on k))
    else (3, 0x8000)
  s.onDie k fun d => { d with scan := some {
    ntc := ntc, t := x.tdie, diodeFault := x.diodeFault, supply := x.supply
    deltaA := deltaOf x.rhoA (s.ratio k).1, deltaB := deltaOf x.rhoB (s.ratio k).2, sar := x.sar, spans := x.spans } }

/-- The length of the longest scan mask in the module, µs: 2 µs for each enabled input and for the five fixed channels. -/
def State.scanLength (s : State) : Nat :=
  2 * (5 + (s.dieList.map fun k => ((List.range 16).filter fun q => bit (s.get (F.MD_SCAN_NTC.on k)) q).length).foldl max 0)

/-- The latest start of the scan in the present frame (R123). -/
def State.latestStart (s : State) : Nat := s.nextBoundary - 20 - s.scanLength

/-- When the scan of the present frame starts: with the strobe as its source DELAY after the boundary, and in time to end before
the next; else once an event, or the latest start, has fixed it (R123). -/
def State.scanStart (s : State) : Option Nat :=
  if s.get F.THY_TRIG_SRC = 0 then some (min (s.thy.boundary + s.get F.THY_TRIG_DELAY / 50) s.latestStart) else s.thy.scanAt

/-- AUX_SCAN: the one scan of the present frame, on every sampling die (R123, R146). -/
def execAuxScan (xs : List ScanSample) (s : State) : Outcome State Fault Refusal :=
  match s.scanStart with
  | none => .next s
  | some t =>
    if !s.running || s.thy.scanRun then .next s
    else
      let s : State := { s.advanceTo t with thy := { s.thy with scanRun := true } }
      .next (s.dieList.foldl (fun (s : State) k => if s.sampling k then s.scanDie k ((xs[k]?).getD {}) else s) s)

end Sys2Proof.Machine
end

