-- ==== Sys2Proof/Machine/Slots.lean ====
section
/-! DEFINITION. Slots of battery modules: enabled slots, rounds of authentication, the voltages before and after an interruption,
and the own mirror image (R273, R277, R279). -/
namespace Sys2Proof.Machine
open Host

/-- Change what the ring, and what authentication keeps. -/
def State.onRing (s : State) (f : RingSt → RingSt) : State := { s with ring := f s.ring }

/-- Change what the keys' page keeps. -/
def State.onAut (s : State) (f : AuthSt → AuthSt) : State := { s with aut := f s.aut }

/-! ### The own mirror image (R273) -/

/-- The serial number of the module. -/
def State.serial (s : State) : Nat := (s.reg F.SYS_SERIAL_HI_YY.addr).toNat * 4294967296 + (s.reg F.SYS_SERIAL_LO_NNNN.addr).toNat

/-- The module takes part in the ring: its KRG page is enabled. -/
def State.ringOn (s : State) : Bool := s.enabled 0x12

/-- The module's own address, and its exclusion (R267). -/
def State.ownAddr (s : State) : Nat := s.get F.KRG_STAT_ADDR
def State.ringExcluded (s : State) : Bool := s.on F.KRG_STAT_DUPADDR

/-- The configuration words of a page (R77). -/
def configWords : List Nat := (List.range 0x58).map (8 + ·)

/-- A word of the configuration range is RWS (R77). -/
def RegRow.isRws (r : RegRow) : Bool := r.rows.any fun f => match f with
  | .fld _ _ _ acc _ _ => acc == .rws
  | .rsv _ _ => false

/-- The RWS words of a page. -/
def rwsWords (page : Nat) : List Nat := configWords.filter fun w => ((regRow page w).map RegRow.isRws).getD false

/-- The newest valid copy of a Sage write-back. -/
def State.newestCopy (s : State) : Option SageCopy := if s.sage.newestB then s.sage.copyB else s.sage.copyA

/-- A cell of a write-back as an image holds it. -/
def CellSage.image (c : CellSage) (key : Nat) : CellImage := {
  key := key, has := c.has, soc := c.r, zero := c.z, cap := c.cap, lrn := c.lrn, err := c.err
  nodes := c.nodes.map fun n => ⟨n.1, n.2.zf, n.2.zd, n.2.count⟩ }

/-- The committed configuration of every page but SYS, CFG and BAY. -/
def State.imageConfig (s : State) : List (Nat × Word) :=
  (s.pages.filter fun p => p != 0x00 && p != 0x02 && p != 0x0A).flatMap fun p =>
    (rwsWords p).map fun w => (addrOf p w, s.reg (addrOf p w))

/-- The tap resistances and BL_RTEMP of every die. -/
def State.imageTaps (s : State) : List (Nat × Word) :=
  s.dieList.flatMap fun k => (List.range 34).map fun w => (addrOf (0x28 + k) (0x68 + w), s.reg (addrOf (0x28 + k) (0x68 + w)))

/-- The module's mirror image, with its last completed write-back. -/
def State.ownImage (s : State) : MirrorImage :=
  let copy := s.newestCopy.getD ⟨0, [], 0, 0, 0, 0⟩
  { config := s.imageConfig, cells := copy.cells.map fun e => e.2.image e.1, ahDis := copy.ahDis, ahChg := copy.ahChg
    efc := copy.efc, timer := copy.timer, taps := s.imageTaps, gainStr := BitVec.ofInt 32 s.cur.gStr
    gainLnk := BitVec.ofInt 32 s.cur.gLnk, anchor := s.aut.anchor, ids := s.aut.ids }

/-- The mirror held for this module is not decided yet: its header is awaited, or REPL or RESTORE stands; no image replaces it (R274,
R275). -/
def State.imageHeld (s : State) : Bool := s.ring.asked || s.on F.KRG_STAT_REPL || s.on F.KRG_STAT_RESTORE

/-- The own image goes to the downstream neighbour under its sequence, with the ring token, for which island 2 waits (R295); a
module excluded from the ring sends none (R267). -/
def State.sendImage (s : State) : State :=
  if s.ringOn && !s.ringExcluded then
    let s := s.onRing fun r => { r with imageDue := true }
    if s.imageHeld then s
    else s.withSlot 6 partyIsland2 fun s => s.onRing fun r => { r with
      image := some ⟨s.ownAddr, s.serial, r.imageSeq, s.ownImage⟩, imageDue := false }
  else s

/-- Data of the mirror image have changed: a new image is sent, and the holder's is no longer current. -/
def State.newImage (s : State) : State :=
  ((s.onRing fun r => { r with imageSeq := (r.imageSeq + 1) % 4294967296 }).setOn F.KRG_STAT_MIRROK false).sendImage

/-! ### Slots of battery modules (R277, R279) -/

/-- Slots by 8 × die + position; the slots of a die; the enabled ones. -/
def slotsOf (k : Nat) : List Nat := (List.range 8).map fun q => 8 * k + q
def State.slotOn (s : State) (slot : Nat) : Bool := decide (slot / 8 < s.dies) && s.on (F.AUT_MAP_EN.at slot)
def State.enabledSlots (s : State) : List Nat := (s.dieList.flatMap slotsOf).filter s.slotOn

/-- The local cells of a slot. -/
def State.slotCells (s : State) (slot : Nat) : List Nat :=
  cellList.filter fun i => decide (s.get (F.AUT_MAP_FIRST.at slot) ≤ i) && decide (i ≤ s.get (F.AUT_MAP_LAST.at slot))

/-- The state `AUT_SLOTST` shows for a slot. -/
def State.slotState (s : State) (slot : Nat) : Nat := s.get (F.AUT_SLOTST_ST.at (slot / 8)) / 16 ^ (slot % 8) % 16

/-- Show the state of a slot and the summary. -/
def State.setSlot (s : State) (slot v : Nat) : State :=
  let w := s.get (F.AUT_SLOTST_ST.at (slot / 8))
  let s := s.set (F.AUT_SLOTST_ST.at (slot / 8)) (w - s.slotState slot * 16 ^ (slot % 8) + v * 16 ^ (slot % 8))
  let n := fun (p : Nat → Bool) => ((s.dieList.flatMap slotsOf).filter fun j => p (s.slotState j)).length
  ((s.set F.AUT_STAT_PENDING (n fun v => v == 1)).set F.AUT_STAT_UNQ (n fun v => decide (4 ≤ v) && decide (v ≤ 6))).set
    F.AUT_STAT_AUTH (n fun v => v == 2 || v == 3)

/-- A slot joins a round; a slot not decided before reads pending (R279, R280). A trigger that a pending slot still owes goes with it
(R281). -/
def State.joinRound (s : State) (trigger slot : Nat) : State :=
  let trigger := if trigger = 0 then ((s.aut.owed.find? fun r => r.slot == slot).map fun r => r.trigger).getD 0 else trigger
  let s := s.onAut fun a => { a with
    round := if a.round.any fun r => r.slot == slot then
        a.round.map fun r => if r.slot = slot ∧ trigger ≠ 0 then ⟨slot, trigger⟩ else r
      else a.round ++ [⟨slot, trigger⟩] }
  if s.slotState slot = 0 then s.setSlot slot 1 else s

/-- A round of every enabled slot. -/
def State.roundOfAll (s : State) : State := s.enabledSlots.foldl (fun s j => s.joinRound 0 j) s

/-- The published mean V of a slot's cells, µV. -/
def State.slotMean (s : State) (slot : Nat) : Int :=
  meanOf ((s.slotCells slot).map fun i => cellV (s.cellWord (slot / 8) i))

/-- A harness fault, a loss or a sleep of die `k` begins: the means before it are kept. -/
def State.slotsBefore (s : State) (k : Nat) : State :=
  ((slotsOf k).filter s.slotOn).foldl (fun s j =>
    if s.aut.before.any fun e => e.1 == j then s.onAut fun a => { a with ended := a.ended.filter (· != j) }
    else s.onAut fun a => { a with before := (j, s.slotMean j) :: a.before }) s

/-- A harness fault, a loss or a sleep of die `k` ends: a round of its slots starts (R279). -/
def State.slotsAfter (s : State) (k : Nat) : State :=
  ((slotsOf k).filter s.slotOn).foldl (fun s j =>
    (s.joinRound 0 j).onAut fun a => { a with ended := if a.ended.contains j then a.ended else j :: a.ended }) s

/-- Publication of die `k`: in the first with clean quiet words after the end, a slot's mean is compared with the one before;
beyond VSTEP it is taken as a voltage step. -/
def State.slotVoltages (s : State) (k : Nat) : State :=
  ((slotsOf k).filter fun j => s.slotOn j && s.aut.ended.contains j).foldl (fun s j =>
    if (s.slotCells j).all fun i =>
        let w := s.cellWord k i
        cellQ w && !cellC w && !cellD w && !cellS w then
      let stepped := s.aut.before.any fun e =>
        e.1 == j && decide ((s.get F.AUT_CFG_VSTEP : Int) * 1000 < absInt (s.slotMean j - e.2))
      let s := s.onAut fun a => { a with ended := a.ended.filter (· != j), before := a.before.filter fun e => e.1 != j }
      if stepped then s.joinRound 2 j else s
    else s) s

/-- The connection of this string is held by an undecided replacement or restore, a pending slot, or an unqualified slot with
BLOCK (R270 rows 1 and 2). -/
def State.ownHold (s : State) : Bool :=
  s.on F.KRG_STAT_REPL || s.on F.KRG_STAT_RESTORE || s.get F.AUT_STAT_PENDING != 0 ||
    (s.on F.AUT_CFG_BLOCK && s.get F.AUT_STAT_UNQ != 0)

end Sys2Proof.Machine
end

