-- ==== Sys2Proof/Machine/Balancing.lean ====
section
/-! DEFINITION. Passive balancing: switches, plans, forced openings, switch faults and the learning of tap resistances
(R177 to R193). -/
namespace Sys2Proof.Machine
open Host

/-! ### Switches -/

/-- Open the switch of local cell `i` of die `k` at a moment; the time counts for C (R143). -/
def State.openSwitchAt (s : State) (k i t : Nat) : State :=
  if (s.die k).bal.closed.contains i then
    s.onBal k fun b => { b with
      closed := b.closed.filter (· != i)
      openedAt := (i, t) :: b.openedAt.filter fun e => e.1 != i
      onTime := putCount i (countOf b.onTime i + (t - countOf b.closedAt i)) b.onTime }
  else s

/-- Open a switch now. -/
def State.openSwitch (s : State) (k i : Nat) : State := s.openSwitchAt k i s.now

/-- Open the switches of a die that a condition concerns. -/
def State.openWhere (s : State) (k : Nat) (p : Nat → Bool) : State :=
  ((s.die k).bal.closed.filter p).foldl (fun s i => s.openSwitch k i) s

/-- Open every switch of the module. -/
def State.openAllSwitches (s : State) : State := s.dieList.foldl (fun s k => s.openWhere k fun _ => true) s

/-- Close a switch. -/
def State.closeSwitch (s : State) (k i : Nat) : State :=
  s.onBal k fun b =>
    if b.closed.contains i then b
    else { b with closed := i :: b.closed, closedAt := (i, s.now) :: b.closedAt.filter fun e => e.1 != i }

/-- Some switch in the module is closed. R121 asks for the commands: a switch that carries current while it is commanded open counts as
closed for R143 and the correction only (R178). -/
def State.anySwitchClosed (s : State) : Bool := s.dieList.any fun k => !(s.die k).bal.closed.isEmpty

/-- No switch has been closed since a moment (R121). -/
def State.openSinceTime (s : State) (t : Nat) : Bool :=
  !s.anySwitchClosed && s.dieList.all fun k => (s.die k).bal.openedAt.all fun e => decide (e.2 ≤ t)

/-- LEAD before the next boundary `n` with n mod 8 = 7 (R121). -/
def State.leadAt (s : State) : Nat :=
  let frames := (6 - s.frame.toNat % 8 + 8) % 8
  s.nextBoundary + frames * s.period - s.get F.THY_QUIET_LEAD

/-- QUIET_LEAD: LEAD before a boundary `n` with n mod 8 = 7 every balancing switch opens (R121, R184 priority 4), in whichever frame
that moment lies. -/
def execQuietLead (s : State) : Outcome State Fault Refusal :=
  if s.running && decide (s.leadAt < s.nextBoundary) then .next (s.advanceTo s.leadAt).openAllSwitches else .next s

/-- When the on-time of a closed switch ends (R179). -/
def State.onTimeEnd (s : State) (k i : Nat) : Option Nat :=
  ((s.die k).bal.plan.find? fun e => e.1 == i).map fun e => countOf (s.die k).bal.closedAt i + e.2

/-- The switches of a die whose on-time has run out by now are open since then. -/
def State.openElapsed (s : State) (k : Nat) : State :=
  (s.die k).bal.closed.foldl (fun (s : State) i => match s.onTimeEnd k i with
    | some t => if t ≤ s.now then s.openSwitchAt k i t else s
    | none => s) s

/-! ### Locked-off cells (R178) -/

/-- Local cell `i` is locked off; BL_LOCK shows it with the next publication (R24). -/
def State.lockedOff (s : State) (k i : Nat) : Bool := (s.die k).bal.shown.locked.contains i

/-- Change what a BL page is to show. -/
def State.onShown (s : State) (k : Nat) (f : BalanceShown → BalanceShown) : State :=
  s.onBal k fun b => { b with shown := f b.shown }

/-- Lock a cell off, or release it. -/
def State.setLocked (s : State) (k i : Nat) (v : Bool) : State :=
  let t := s.onShown k fun b => { b with locked := if v then i :: b.locked.filter (· != i) else b.locked.filter (· != i) }
  t.setOn (F.BL_PSTAT_LOCKED.on k) !(t.die k).bal.shown.locked.isEmpty

/-- SWITCH_STUCK: a switch commanded open carries above 5 mA for 1 ms (R178 priority 1). -/
def execSwitchStuck (k i : Nat) (s : State) : Outcome State Fault Refusal :=
  if k < s.dies ∧ i < 64 ∧ (s.die k).bal.closed.contains i = false then
    .next (((s.setLocked k i true).onBal k fun b => { b with stuck := i :: b.stuck.filter (· != i) }).flagEvent
      (F.BL_IFLAG_STUCK.on k) 2)
  else .next s

/-- The balance period of the frame now running. -/
def State.balancePeriod (s : State) : Nat := s.frame.toNat / 8

/-- SWITCH_OVERCURRENT: a closed switch above 350 mA for 100 µs opens for the rest of the period; in the third consecutive
period the cell is locked off (R178 priority 2). -/
def execSwitchOvercurrent (k i : Nat) (s : State) : Outcome State Fault Refusal :=
  if k < s.dies ∧ (s.die k).bal.closed.contains i = true then
    let p := s.balancePeriod
    let n := match (s.die k).bal.ovc.find? fun e => e.1 == i with
      | some e => if e.2.2 = p then e.2.1 else if e.2.2 + 1 = p then e.2.1 + 1 else 1
      | none => 1
    let t := ((s.openSwitch k i).onBal k fun b => { b with ovc := (i, n, p) :: b.ovc.filter fun e => e.1 != i }).flag
      (F.BL_IFLAG_OVC.on k)
    .next (t.applyIf (decide (3 ≤ n)) fun t =>
      (t.setLocked k i true).raise (0x28 + k) (.flag F.BL_IFLAG_OVC.lo) 2 (sourceOf (0x28 + k)))
  else .next s

/-- BALANCE_OPEN_LOOP: a closed switch with V above 1.5 V and under 10 mA for 1 ms (R178 priority 3). -/
def execBalanceOpenLoop (k i : Nat) (s : State) : Outcome State Fault Refusal :=
  if k < s.dies ∧ (s.die k).bal.closed.contains i = true then
    .next (((s.setLocked k i true).openSwitch k i).flagEvent (F.BL_IFLAG_OPEN.on k) 1)
  else .next s

/-- BALANCE_ON_TIME_END: a switch opens at the end of its on-time (R179). -/
def execBalanceOnTimeEnd (k i : Nat) (s : State) : Outcome State Fault Refusal :=
  match s.onTimeEnd k i with
  | some t =>
    if k < s.dies ∧ (s.die k).bal.closed.contains i = true then .next ((s.advanceTo t).openSwitchAt k i t) else .next s
  | none => .next s

/-- A write to BL_SWCLR of die `k`: release one cell or all; refused while a stuck switch still carries current, or for a
value that names no cell. -/
def State.writeSwclr (s : State) (k : Nat) (v : Word) : State × Option Nat :=
  let c := bitsOf v 6 0
  let cells := if c = 0x40 then cellList else if c < 64 then [c] else []
  if cells.isEmpty || cells.any (fun i => s.lockedOff k i && (s.die k).bal.stuck.contains i) then (s, some 0x0A)
  else (cells.foldl (fun s i => s.setLocked k i false) s, none)

/-! ### Plans (R179 to R184, R189) -/

/-- The word of a cell in the plan's quiet publication. -/
def State.planWord (s : State) (k i : Nat) : Word := ((s.die k).quietCells[i]?).getD 0

/-- A cell of a quiet publication without D or S, in use, on a healthy die. -/
def State.cleanIn (s : State) (k : Nat) (words : List Word) (i : Nat) : Bool :=
  let w := (words[i]?).getD 0
  s.inUse k i && s.healthy k && decide (i < words.length) && !cellD w && !cellS w

/-- V_REF: the lowest V of all clean cells of the module in the plan's publication (R183). -/
def State.planVref (s : State) : Option Int :=
  minOf (s.dieList.flatMap fun k => (cellList.filter (s.cleanIn k (s.die k).quietCells)).map fun i => cellV (s.planWord k i))

/-- What a plan built now is built from. -/
def State.planBasis (s : State) (k : Nat) : PlanBasis :=
  { words := (s.die k).quietCells, vref := s.planVref, was := (s.die k).bal.wanted
    reqLo := s.reg (F.BL_REQ_LO_REQ.on k).addr, reqHi := s.reg (F.BL_REQ_HI_REQ.on k).addr }

/-- Local cell `i` is wanted under BL_CFG.MODE on such a basis (R183). DESIGN CHOICE (log entry 116): the hysteresis keeps no cell that
carries D or S or lies below VMIN. -/
def State.wants (s : State) (k : Nat) (b : PlanBasis) (i : Nat) : Bool :=
  let mode := s.get (F.BL_CFG_MODE.on k)
  if mode = 1 then if i < 32 then bit b.reqLo.toNat i else bit b.reqHi.toNat (i - 32)
  else if mode = 2 then
    match b.vref with
    | none => false
    | some ref =>
      let v := cellV ((b.words[i]?).getD 0)
      let thr : Int := s.get (F.BL_AUTO_THR.on k) * 1000
      let hyst : Int := s.get (F.BL_AUTO_HYST.on k) * 1000
      s.cleanIn k b.words i && decide ((s.get (F.BL_VMIN_MV.on k) * 1000 : Int) ≤ v) &&
        (decide (thr < v - ref) || (b.was.contains i && decide (thr - hyst ≤ v - ref)))
  else false

/-- A UV comparator of the cell is in confirmed trip (R184 priority 8). -/
def State.uvTripped (s : State) (k i : Nat) : Bool :=
  let g := s.get (F.CMP_GUVT_TRIP.at (2 * k + i / 32))
  let a := s.get (F.CMP_AUVT_TRIP.at (2 * k + i / 32))
  bit g (i % 32) || bit a (i % 32)

/-- The cell is a terminal cell of the tap under test on its die (R153). -/
def State.underTest (s : State) (k i : Nat) : Bool :=
  match (s.die k).test with
  | some t => t.tap == i || t.tap == i + 1
  | none => false

/-- Cells kept open and out of plans while a condition lasts: priorities 5, 7 and 8 of R184, and any thermal stop that is latched
(R407). -/
def State.keptOpen (s : State) (k i : Nat) : Bool :=
  s.get F.TMP_LATCH_LATCHED != 0 || s.harness k || !s.inUse k i || s.substituted k i || s.underTest k i || s.uvTripped k i

/-- Openings forced at the next boundary: those, and every switch under PWR_WARN (R184 priority 6). -/
def State.forcedOpen (s : State) (k i : Nat) : Bool := s.on F.PWR_STAT_WARN || s.keptOpen k i

/-- The switch current of a cell for planning, µA (R181). -/
def State.planCurrent (s : State) (k i : Nat) : Int :=
  let l := countOf (s.die k).bal.lastI i
  if l = 0 then roundDiv (cellV (s.planWord k i) * 10) (s.get (F.BL_RBAL_R.on k) + 5) else l

/-- D_T (R180). -/
def tempLimit (t : Int) (fault : Bool) : Rat :=
  if fault || decide (11500 ≤ t) then 0
  else if t < 8500 then 7 / 8
  else 7 / 8 * (((11500 - t : Int) : Rat) / 3000)

/-- Cells the switch pattern and the exclusions of R184 permit. -/
def State.permitted (s : State) (k p i : Nat) : Bool :=
  (s.on (F.BL_CFG_PATTERN.on k) || i % 2 == p % 2) && !s.keptOpen k i && !s.lockedOff k i

/-- Cells left out because a predicted shift, their own or a neighbour's, exceeds BL_SHIFTMAX (R189). -/
def State.shiftedOut (s : State) (k : Nat) (cells : List Nat) : List Nat :=
  let sw := cellList.map fun i => if cells.contains i then s.planCurrent k i else 0
  let limit : Rat := (s.get (F.BL_SHIFTMAX_MV.on k) * 1000 * 10000 : Nat)
  let words := s.tapWords k
  let above := cellList.filter fun i =>
    let c := s.correctionUnder k words sw i
    decide (limit < c) || decide (limit < -c)
  cells.filter fun i => above.contains i || above.contains (i + 1) || (decide (0 < i) && above.contains (i - 1))

/-- Planning of die `k` is paused: the die or the C-die is throttled, or a thermal stop is latched (R405, R407). -/
def State.planPaused (s : State) (k : Nat) : Bool :=
  bit (s.get F.TMP_THR_THROTTLE) k || bit (s.get F.TMP_THR_THROTTLE) 9 || s.get F.TMP_LATCH_LATCHED != 0

/-- Build the plan of period `p` for die `k` (R179 to R183); without device firmware there is none. DESIGN CHOICE (log entry 117): a
plan whose on-time comes to 0 is empty; SCALE is rounded down and PSW to the nearest mW. -/
def State.buildPlan (s : State) (k p : Nat) : State :=
  let basis := s.planBasis k
  let wanted := cellList.filter (s.wants k basis)
  let cells := if !s.enabled (0x28 + k) || (s.die k).bal.learn.isSome || s.planPaused k || s.get F.FLT_MODE_MODE == 3 then [] else wanted.filter (s.permitted k p)
  let out := s.shiftedOut k cells
  let plan := cells.filter fun i => !out.contains i
  let dt := tempLimit (s.die k).quietTdie (bit (s.get F.TMP_LATCH_DIODE) k)
  let duty := min ((s.get (F.BL_CFG_DUTY.on k) : Rat) / 256) dt
  let power : Rat := (plan.map fun i =>
    (s.planCurrent k i : Rat) * (s.planCurrent k i : Rat) / 2 / 1000000000 * duty).sum
  let scale : Rat := if 1400 < power then 1400 / power else 1
  let ton := (duty * scale * ((8 * s.period : Nat) : Rat)).floor.toNat
  (s.applyIf (!out.isEmpty) fun s => s.flag (F.BL_IFLAG_SHIFT.on k)).onBal k fun b => { b with
    next := if ton = 0 then [] else plan.map fun i => (i, ton)
    nextScale := (255 * scale).floor.toNat, nextDlim := (256 * dt).floor.toNat
    nextPower := (roundRat power).toNat, wanted := wanted, basis := basis }

/-- A period starts on die `k`: the plan's switches close (R179), and its page is to show the plan. A die out of reach repeats its last
plan (R184 priority 3); openings that are forced apply to either. -/
def State.startPeriod (s : State) (k p : Nat) : State :=
  let b := (s.die k).bal
  let fresh := s.healthy k && bit (s.get F.STK_ROUTE_REACH) k
  let plan := if fresh then b.next.filter fun _ => b.learn.isNone else b.plan
  let act := plan.filter fun e => !s.forcedOpen k e.1 && !s.lockedOff k e.1
  let s := s.onBal k fun b => { b with plan := if fresh then act else plan, next := [] }
  let s := act.foldl (fun s e => s.closeSwitch k e.1) s
  s.onShown k fun w => { w with
    act := act.map (·.1), period := p % 2, scale := b.nextScale, dlim := b.nextDlim, psw := b.nextPower }

/-- A BL commit has applied: the plan's evaluation made again with the new settings opens the cells that it no longer wants, and they
leave the plan that begins there (R185). -/
def State.reapplyWanted (s : State) (k : Nat) : State :=
  let b := (s.die k).bal
  if b.learn.isSome then s
  else
    let gone := b.wanted.filter fun i => !s.wants k b.basis i
    (s.openWhere k gone.contains).onBal k fun b => { b with
      next := b.next.filter fun e => !gone.contains e.1, wanted := b.wanted.filter fun i => !gone.contains i }

/-! ### What a BL page shows (R24, R25) -/

/-- The words of a BL page that follow what balancing has done since the last publication. -/
def State.showBalance (s : State) (k : Nat) : State :=
  let w := (s.die k).bal.shown
  let s := s.set64 (F.BL_ACT_LO_ACT.on k) (F.BL_ACT_HI_ACT.on k) w.act.contains
  let s := s.put (F.BL_STAT_PERIOD.on k).addr
    (BitVec.ofNat 32 (w.scale % 256 * 16777216 + w.dlim % 256 * 65536 + w.act.length * 256 + w.period))
  let s := (s.set (F.BL_PWR_PSW.on k) w.psw).set64 (F.BL_LOCK_LO_LOCK.on k) (F.BL_LOCK_HI_LOCK.on k) w.locked.contains
  s.put (F.BL_LRN_STATE.on k).addr
    (BitVec.ofNat 32 (w.lrnRepeats % 65536 * 65536 + w.lrnPass * 256 + w.lrnCell * 4 + w.lrnState))

/-! ### Currents of a frame (R178, R193) -/

/-- How long each switch of a die was closed in the frame that began at `t` and ends now, µs. -/
def BalanceSt.onIn (b : BalanceSt) (t now : Nat) : List (Nat × Nat) :=
  cellList.filterMap fun i =>
    let finish := if b.closed.contains i then now else countOf b.openedAt i
    let start := max t (countOf b.closedAt i)
    if start < finish then some (i, finish - start) else none

/-- The current of a closed switch, µA: its mean over the part of the frame in which it was closed (log entry 69). -/
def closedCurrent (mean period onFor : Nat) : Nat := if onFor = 0 then 0 else mean * 100 * period / onFor

/-- The die adds the charge through its switches in a frame to what it has integrated (R193). -/
def State.bleed (s : State) (k : Nat) (x : DieSample) : State :=
  s.onBal k fun b => { b with bled := cellList.foldl (fun l i => putCount i (countOf l i + entryNat x.swCharge i) l) b.bled }

/-- What a die reports of its switches in a frame: the charge bled so far (R193), the current of a cell that balanced (R181), and stuck
switches whose current has gone (R178). DESIGN CHOICE (log entry 112): a switch carries current while the measured one is not 0, and
that of a stuck switch has gone with the first frame whose mean reads 0. -/
def State.noteCurrents (s : State) (k : Nat) (f : DieFrame) : State :=
  let mean := entryNat f.sample.swMean
  s.onBal k fun b => { b with
    charge := f.bled
    lastI := f.onFor.foldl (fun l e => if 0 < mean e.1 then putCount e.1 (closedCurrent (mean e.1) s.period e.2) l else l) b.lastI
    stuck := b.stuck.filter fun i => mean i != 0 }

/-- A BL page publishes: the mean switch currents and the charge of a frame (R178, R193), and what has changed since. -/
def State.balanceCurrents (s : State) (k : Nat) (f : DieFrame) : State :=
  let s := (s.noteCurrents k f).showBalance k
  let q := fun (j : Nat) => countOf (s.die k).bal.charge j - countOf (s.die k).bal.base j
  let s := (List.range 32).foldl (fun (s : State) w =>
    let i := entryNat f.sample.swMean
    let c := fun j => q j / 1000 % 65536
    (s.put ((F.BL_IBAL_EVEN.on k).at w).addr (BitVec.ofNat 32 (i (2 * w + 1) % 65536 * 65536 + i (2 * w) % 65536))).put
      ((F.BL_QBAL_EVEN.on k).at w).addr (BitVec.ofNat 32 (c (2 * w + 1) * 65536 + c (2 * w)))) s
  s.publish (F.BL_IBAL_EVEN.on k).page f.seq

/-! ### Learning (R190 to R192) -/

/-- Learning goes on to a state; the page is to show it (R24). -/
def State.showLearn (s : State) (k state : Nat) : State :=
  let s := (s.onShown k fun w => { w with lrnState := state }).setOn (F.BL_PSTAT_LEARNING.on k) (state == 1)
  match (s.die k).bal.learn with
  | some l => s.onShown k fun w => { w with lrnPass := l.pass, lrnCell := l.cell }
  | none => s

/-- A write to BL_LEARN of die `k` (R190): 1 starts, 2 aborts. -/
def State.learnStart (s : State) (k : Nat) : State × Option Nat :=
  if !s.healthy k || s.harness k || !bit (s.get F.CMP_OWST_SWEPT) k || decide (s.period < s.filterSpan) ||
      decide (s.period < s.get F.THY_QUIET_LEAD) || (s.die k).bal.learn.isSome then (s, some 0x0A)
  else (((s.onBal k fun b => { b with learn := some {}, next := [] }).onShown k fun w => { w with lrnRepeats := 0 }).showLearn k 1, none)

def State.learnAbort (s : State) (k : Nat) : State × Option Nat :=
  if (s.die k).bal.learn.isSome then
    (((s.openWhere k fun _ => true).onBal k fun b => { b with learn := none }).showLearn k 3, none)
  else (s, none)

/-- The estimate step / I in 0.1 mΩ from sums over three frames: µV and 0.1 mA. -/
def stepR (step : Int) (sumI : Nat) : Int := if sumI = 0 then Config.stepWithoutCurrent step else roundDiv (step * 100) sumI

/-- The estimates of the toggle of cell `l.cell` (R191). -/
def LearnSt.estimates (l : LearnSt) : List (Nat × Int) :=
  let step := fun m => entry l.sumB m - entry l.sumA m
  let i := l.cell
  let below := stepR (step 0) l.sumI
  let above := stepR (step 2) l.sumI
  if i = 0 then [(1, above), (0, -(stepR (step 1) l.sumI) - above)]
  else if i = 63 then [(63, below), (64, -(stepR (step 1) l.sumI) - below)]
  else [(i, below), (i + 1, above)]

/-- Decide one tap at the end of learning (R192 priorities 2 to 4). -/
def State.learnTap (s : State) (k : Nat) (l : LearnSt) (j : Nat) : State :=
  let e := (l.est.filter fun x => x.1 == j).map (·.2)
  let mean := meanOf e
  let f := if j % 2 = 0 then (F.BL_RTAP_EVEN.on k).at (j / 2) else (F.BL_RTAP_ODD.on k).at (j / 2)
  match maxOf e, minOf e with
  | some hi, some lo =>
    if hi - lo ≤ 100 ∧ mean ≤ 20000 then
      (s.set f (max mean 0).toNat).applyIf (decide (3000 < mean)) fun s => s.flagEvent (F.BL_IFLAG_RHIGH.on k) 1
    else s.flagEvent (F.BL_IFLAG_LRN_FAIL.on k) 1
  | _, _ => s

/-- The words that hold what learning gives. -/
def learnWords (k : Nat) : List Nat :=
  ((List.range 33).map fun w => ((F.BL_RTAP_EVEN.on k).at w).addr) ++ [(F.BL_RTEMP_T.on k).addr, (F.BL_PSTAT_LEARNED.on k).addr]

/-- Learning is complete: taps decided, values and BL_RTEMP stored by one journaled write (R192). -/
def State.learnComplete (s : State) (k : Nat) (l : LearnSt) : State :=
  let old := (learnWords k).map fun a => Kept.word a (s.reg a)
  let s := (List.range 65).foldl (fun s j => s.learnTap k l j) s
  let s := s.setInt (F.BL_RTEMP_T.on k) (roundDiv l.tSum l.tNum)
  let s := (s.onBal k fun b => { b with learn := none }).flag (F.BL_IFLAG_LRN_DONE.on k)
  (((s.setOn (F.BL_PSTAT_LEARNED.on k) ((List.range 65).all fun j => s.learnedR k j != 0xFFFF)).showLearn k 2).journalWrite
    old).newImage

/-- The variation of I_A over the frames of a period, mA. -/
def LearnSt.variation (l : LearnSt) : Int := ((maxOf l.ia).getD 0) - ((minOf l.ia).getD 0)

/-- Decide a toggle once its period is over (R192). One without all six frames of its step is repeated. -/
def State.learnDecide (s : State) (k : Nat) (l : LearnSt) : State :=
  if l.disturbed || decide ((s.get (F.MD_XCHK_IBAND.on k) * 1000 : Int) < l.variation) || decide (l.nA + l.nB < 6) then
    if 8 ≤ l.repeats then
      ((s.onBal k fun b => { b with learn := none }).flagEvent (F.BL_IFLAG_LRN_FAIL.on k) 1).showLearn k 3
    else (s.onShown k fun w => { w with lrnRepeats := satAdd w.lrnRepeats 1 65535 }).onBal k fun b => { b with learn := some { l with repeats := l.repeats + 1, started := false } }
  else
    let l := { l with est := l.est ++ l.estimates, repeats := 0, started := false }
    if l.cell < 63 then (s.onBal k fun b => { b with learn := some { l with cell := l.cell + 1 } }).showLearn k 1
    else if l.pass < 3 then
      (s.onBal k fun b => { b with learn := some { l with cell := 0, pass := l.pass + 1 } }).showLearn k 1
    else s.learnComplete k l

/-- A frame of the die has published: learning takes its values. -/
def State.learnFrame (s : State) (k : Nat) (f : DieFrame) : State :=
  match (s.die k).bal.learn with
  | none => s
  | some l =>
    if !l.started || f.seq.toNat / 8 != s.frame.toNat / 8 then s
    else
      let i := l.cell
      let near := ([i, i + 1] ++ (if i = 0 then [] else [i - 1])).filter (· < 64)
      let vals := [if i = 0 then 0 else entry (s.die k).plain (i - 1), entry (s.die k).plain i, entry (s.die k).plain (i + 1)]
      let m := f.seq.toNat % 8
      let l := { l with
        disturbed := l.disturbed || near.any (fun j => s.carriesD k j || s.carriesS k j)
        tSum := l.tSum + (cellList.map (s.cellTemp k)).sum, tNum := l.tNum + 64
        sumA := if m ≤ 2 then List.zipWith (· + ·) l.sumA vals else l.sumA
        nA := if m ≤ 2 then l.nA + 1 else l.nA
        sumB := if 4 ≤ m ∧ m ≤ 6 then List.zipWith (· + ·) l.sumB vals else l.sumB
        nB := if 4 ≤ m ∧ m ≤ 6 then l.nB + 1 else l.nB
        sumI := if 4 ≤ m ∧ m ≤ 6 then l.sumI + entryNat f.sample.swMean i else l.sumI }
      s.onBal k fun b => { b with learn := some l }

/-- What learning notes of the frame that has ended, whether or not the die has published it: I_A, a suspect current, and a die that is
not healthy, whose cells carry D and S (R130, R192). -/
def State.learnNote (s : State) (k n : Nat) (l : LearnSt) : LearnSt :=
  { l with
    ia := if ((s.reg (addrOf 0x08 7)).toNat + 1) % 4294967296 = n then s.getInt F.CUR_IA_MA :: l.ia else l.ia
    disturbed := l.disturbed || s.cur.suspect || !s.healthy k }

/-- Learning at the boundary of frame `n` on a die: a period ends with a decision, and the next toggle begins; its switch closes at
8p + 3 (R191), unless it is held open or the cell is locked off (R153, R163, R178, R184): then the toggle is repeated. -/
def State.learnBoundary (s : State) (k n : Nat) : State :=
  match (s.die k).bal.learn.map (s.learnNote k n) with
  | none => s
  | some l =>
    if n % 8 = 0 then
      (if l.started then s.learnDecide k l else s).onBal k fun b => { b with learn := b.learn.map fun l => { l with
        sumA := [0, 0, 0], sumB := [0, 0, 0], nA := 0, nB := 0, sumI := 0, disturbed := false, started := true, ia := [] } }
    else if n % 8 = 3 ∧ l.started then
      if l.disturbed || s.forcedOpen k l.cell || s.lockedOff k l.cell then
        s.onBal k fun b => { b with learn := some { l with disturbed := true } }
      else (s.onBal k fun b => { b with learn := some l }).closeSwitch k l.cell
    else s.onBal k fun b => { b with learn := some l }

/-- The BL page of the die has published at this boundary, with the frame before `n`. -/
def State.balPublished (s : State) (k n : Nat) : Bool :=
  (0x28 + k) ∈ s.published && ((s.reg (addrOf (0x28 + k) 7)).toNat + 1) % 4294967296 == n

/-- The cells of a die that is not healthy are wanted by no plan, and its last quiet publication serves none (R130, R183). -/
def State.forgetWanted (s : State) (k : Nat) : State :=
  s.onDie k fun d => { d with quietCells := [], bal := { d.bal with wanted := [] } }

/-- Balancing at the boundary of frame `n` on a die: forced openings, then a plan or a period, then learning (R179, R184, R191). A page
that has published at this boundary shows what the boundary brings. -/
def State.balanceBoundary (s : State) (k n : Nat) : State :=
  let s := s.openWhere k (s.forcedOpen k)
  let s := if s.healthy k then (if n % 8 = 7 then s.buildPlan k (n / 8 + 1) else s) else s.forgetWanted k
  let s := if n % 8 = 0 ∧ bit (s.get F.STK_ROUTE_ASLEEP) k = false then s.startPeriod k (n / 8) else s
  let s := s.learnBoundary k n
  s.applyIf (s.balPublished k n) fun s => s.showBalance k

end Sys2Proof.Machine
end

