-- ==== Sys2Proof/Machine/Thyme.lean ====
section
/-! DEFINITION. Thyme and the stack link: scan triggers, crystal, strobe compensation, segments, paths, dies lost and regained
(R18, R117 to R131). -/
namespace Sys2Proof.Machine
open Host

/-! ### The auxiliary scan trigger (R123) -/

/-- Change what Thyme keeps. -/
def State.onThy (s : State) (f : ThymeSt → ThymeSt) : State := { s with thy := f s.thy }

/-- A trigger event whose scan would start `lead` µs and DELAY later: the first qualifying one fixes the start of the scan, and one
after it sets SYNC_EXTRA; any other is ignored. -/
def State.triggerEvent (s : State) (lead : Nat) : State :=
  if s.thy.scanned then s.flag F.THY_IFLAG_SYNC_EXTRA
  else
    let ticks := (s.now + lead) * 50 + s.get F.THY_TRIG_DELAY
    if ticks ≤ s.latestStart * 50 && s.thy.scanAt.isNone then
      s.onThy fun t => { t with scanned := true, scanAt := some (ticks / 50) }
    else s

/-- SYNC_IN_EDGE: a rising edge is time-stamped; with SYNC_IN as the source it may start the scan. DESIGN CHOICE (log entry 125): PER
reads 0xFFFF after the first edge, which has none before it. -/
def execSyncInEdge (s : State) : Outcome State Fault Refusal :=
  if s.running then
    let per := match s.thy.lastSync with
      | some t => min ((s.now - t) * 50) 0xFFFF
      | none => 0xFFFF
    let s := (s.set F.THY_SYNC_PER per).onThy fun t => { t with lastSync := some s.now }
    .next (s.applyIf (s.get F.THY_TRIG_SRC == 1) fun s => s.triggerEvent 2)
  else .next s

/-- SYNC_MISS: no qualifying event by the latest start; the scan starts there. -/
def execSyncMiss (s : State) : Outcome State Fault Refusal :=
  if s.running && s.get F.THY_TRIG_SRC != 0 && s.thy.scanAt.isNone then
    let t := s.latestStart
    .next ((((s.advanceTo t).flag F.THY_IFLAG_SYNC_MISS).count F.THY_SYNC_MISS).onThy fun y => { y with scanAt := some t })
  else .next s

/-! ### Clocks (R17, R18) -/

/-- XTAL_LOST: the crystal stops; islands 0 to 6 run free on their held trim (R18). -/
def execXtalLost (s : State) : Outcome State Fault Refusal :=
  if s.on F.THY_STAT_XTAL_LOST then .next s
  else .next ((s.setOn F.THY_STAT_XTAL_LOST true).flagEvent F.THY_IFLAG_XTAL 2 [F.THY_STAT_XTAL_LOST.addr])

/-- XTAL_REGAINED: the crystal returns and the oscillators relock, with no step in the frame count. -/
def execXtalRegained (s : State) : Outcome State Fault Refusal :=
  if s.on F.THY_STAT_XTAL_LOST then .next ((s.setOn F.THY_STAT_XTAL_LOST false).flag F.THY_IFLAG_XTAL) else .next s

/-! ### Strobe compensation (R119) -/

/-- Change what the stack link keeps. -/
def State.onStk (s : State) (f : StackSt → StackSt) : State := { s with stk := f s.stk }

/-- Compensation values have been measured, die by die in ns; a die not listed keeps the one it has. -/
def State.measureDelays (s : State) (delays : List Nat) : State :=
  s.onStk fun k => { k with delayTarget := s.dieList.filterMap fun d =>
    match delays[d]? with
    | some v => some (d, v)
    | none => k.delayTarget.find? fun e => e.1 == d }

/-- STROBE_RECAL: with RECAL at 1 the compensation is measured again; the values take effect at boundaries. -/
def execStrobeRecal (delays : List Nat) (s : State) : Outcome State Fault Refusal :=
  if s.running && s.on F.STK_CFG_RECAL then .next (s.measureDelays delays) else .next s

/-- One boundary's step of at most 5 ns towards each measured value. -/
def State.stepDelays (s : State) : State :=
  s.stk.delayTarget.foldl (fun s e =>
    let f := F.STK_DELAY_DELAY.at e.1
    let d := s.get f
    s.set f (if d < e.2 then min (d + 5) e.2 else max (d - 5) e.2)) s

/-! ### Segments and paths (R127, R129) -/

/-- Segment `g` is up. -/
def State.segUp (s : State) (g : Nat) : Bool := bit (s.get F.STK_SEGST_UP) g

/-- The bottom path of die `k` is up, the top path is up (R127). -/
def State.bottomUp (s : State) (k : Nat) : Bool := (List.range (k + 1)).all s.segUp
def State.topUp (s : State) (k : Nat) : Bool := (List.range (s.dies - k)).all fun j => s.segUp (k + 1 + j)

/-- Die `k` has an up path. -/
def State.pathUp (s : State) (k : Nat) : Bool := s.bottomUp k || s.topUp k

/-- The first die of the top path. -/
def State.split (s : State) : Nat := if s.get F.STK_CFG_SPLIT = 0xF then s.dies / 2 else s.get F.STK_CFG_SPLIT

/-- The path of die `k`, as TOP: the preferred one where it is up, else the other where that is up, else as it is. -/
def State.choosePath (s : State) (k : Nat) (prefer : Bool) : Bool :=
  if (if prefer then s.topUp k else s.bottomUp k) then prefer
  else if (if prefer then s.bottomUp k else s.topUp k) then !prefer
  else prefer

/-- Show reachability; dies that fall off or come back are dated (R130). -/
def State.showReach (s : State) : State :=
  let s := s.set F.STK_ROUTE_REACH (bitMap 8 fun k => decide (k < s.dies) && s.pathUp k)
  let s := s.setOn F.STK_ROUTE_SINGLE ((List.range (s.dies + 1)).any fun g => !s.segUp g)
  s.onStk fun t => { t with lostSince := (s.dieList.filter fun k => !s.pathUp k).map fun k =>
    match (t.lostSince.find? fun e => e.1 == k) with
    | some e => e
    | none => (k, s.now) }

/-- Show paths and reachability. -/
def State.showPaths (s : State) (prefer : Nat → Bool) : State :=
  (s.set F.STK_ROUTE_TOP (bitMap 8 fun k => decide (k < s.dies) && s.choosePath k (prefer k))).showReach

/-- The paths of R127, where they are up. -/
def State.defaultPaths (s : State) : State := s.showPaths fun k => decide (s.split ≤ k)

/-- SEGMENT_DOWN: a segment that lost lock is down; its dies move to the other path (R129). -/
def execSegmentDown (g : Nat) (s : State) : Outcome State Fault Refusal :=
  if g ≤ s.dies ∧ s.segUp g = true then
    let s := (s.set F.STK_SEGST_UP (withBit (s.get F.STK_SEGST_UP) g false)).count (F.STK_ERR_LOSS.at g)
    let top := s.get F.STK_ROUTE_TOP
    let s := (s.flag F.STK_IFLAG_SEG_DOWN).flag F.STK_IFLAG_ROUTE
    .next ((s.showPaths (bit top)).raise 0x07 (.flag F.STK_IFLAG_SEG_DOWN.lo) 2 (sourceOf 0x07)
      [F.STK_SEGST_UP.addr, F.STK_ROUTE_TOP.addr])
  else .next s

/-- SEGMENT_RETRAIN: the attempt of every 100 ms on a down segment; with success its training has measured the compensation again
(R119), and its paths are restored at the next boundary. -/
def execSegmentRetrain (g : Nat) (trained : Option (List Nat)) (s : State) : Outcome State Fault Refusal :=
  if trained.isSome = true ∧ g ≤ s.dies ∧ s.segUp g = false then
    let s := (s.set F.STK_SEGST_UP (withBit (s.get F.STK_SEGST_UP) g true)).flag F.STK_IFLAG_SEG_UP
    .next (((s.showReach).measureDelays (trained.getD [])).onStk fun t => { t with restore := true })
  else .next s

/-! ### Dies lost and regained (R130, R131) -/

/-- Die `k` becomes unhealthy (R7, R130). -/
def State.markUnhealthy (s : State) (k : Nat) : State :=
  ((s.slotsBefore k).set F.SYS_DIEMAP_MD (withBit (s.get F.SYS_DIEMAP_MD) k false)).onStk fun t => { t with
    unhealthy := if t.unhealthy.contains k then t.unhealthy else k :: t.unhealthy }

/-- Die `k` is in service again (R130, R131). -/
def State.markHealthy (s : State) (k : Nat) : State :=
  (s.set F.SYS_DIEMAP_MD (withBit (s.get F.SYS_DIEMAP_MD) k true)).onStk fun t => { t with
    unhealthy := t.unhealthy.filter (· != k), lost := t.lost.filter (· != k) }

/-- DIE_UNREACHABLE: a die without an up path for 2 ms is lost (R130), and its leases are revoked (R296). -/
def execDieUnreachable (k : Nat) (s : State) : Outcome State Fault Refusal :=
  match (s.stk.lostSince.find? fun e => e.1 == k) with
  | some e =>
    if s.stk.lost.contains k then .next s
    else
      .next (((((s.advanceTo (e.2 + 2000)).markUnhealthy k).flag F.STK_IFLAG_DIE_LOST).onStk fun t =>
        { t with lost := k :: t.lost }).dropParty (8 + k))
  | none => .next s

/-- Die `k` stops: switches open, converters stopped, asleep; M0 keeps no pairs (R131, R320). -/
def State.sleepDie (s : State) (k : Nat) : State :=
  let s := ((s.slotsBefore k).openWhere k fun _ => true).set F.STK_ROUTE_ASLEEP (withBit (s.get F.STK_ROUTE_ASLEEP) k true)
  let s : State := if k = 0 then { s with bay := { s.bay with kept := [] } } else s
  s.onDie k fun d => { d with held := none, mid := [], scan := none, late := none, bal := { d.bal with plan := [], next := [] } }

/-- Since when die `k` gets no valid strobe: it is unreachable, or strobes fail on an up path (R131). -/
def State.deafSince (s : State) (k : Nat) : Option Nat :=
  ((s.stk.lostSince ++ s.stk.missSince).find? fun e => e.1 == k).map fun e => e.2

/-- DIE_SLEEP: a die without valid traffic for 20 ms sleeps (R131). -/
def execDieSleep (k : Nat) (s : State) : Outcome State Fault Refusal :=
  match s.deafSince k with
  | some t => if bit (s.get F.STK_ROUTE_ASLEEP) k then .next s else .next ((s.advanceTo (t + 20000)).sleepDie k)
  | none => .next s

/-- The dies whose strobe of this boundary was not valid, and since when each gets none; `last` is the boundary before (R131). -/
def State.noteStrobes (s : State) (missed : Nat → Bool) (last : Nat) : State :=
  s.onStk fun t => { t with missSince := (s.dieList.filter missed).map fun k =>
    match (t.missSince.find? fun e => e.1 == k) with
    | some e => e
    | none => (k, last) }

/-- Die `k` is powered by its transformer. -/
def State.powered (s : State) (k : Nat) : Bool := bit (s.get F.PWR_MDPWR_MD_ON) k

/-- A die rejoins at the next boundary. -/
def State.rejoinNext (s : State) (k : Nat) : State :=
  s.onStk fun t => { t with rejoin := if t.rejoin.contains k then t.rejoin else k :: t.rejoin }

/-- DIE_REJOIN: a lost die reached again before it fell asleep rejoins at the next boundary (R130). -/
def execDieRejoin (k : Nat) (s : State) : Outcome State Fault Refusal :=
  if s.stk.lost.contains k && s.pathUp k && !bit (s.get F.STK_ROUTE_ASLEEP) k then .next (s.rejoinNext k) else .next s

/-- DIE_WAKE: valid traffic wakes a sleeping die that has power; it settles its references as at start-up, with the time limit and
the one retry of R62, and takes part again when it has settled (R131). -/
def execDieWake (k : Nat) (s : State) : Outcome State Fault Refusal :=
  if bit (s.get F.STK_ROUTE_ASLEEP) k && s.pathUp k && s.powered k && !s.pwr.settling.contains k then
    .next { s with pwr := { s.pwr with settling := k :: s.pwr.settling, retried := s.pwr.retried.filter (· != k) } }
  else .next s

/-- The dies that wait rejoin at a boundary: their pages publish again from it. -/
def State.rejoinDies (s : State) : State :=
  let s := (s.stk.rejoin.filter s.pathUp).foldl (fun s k => ((s.markHealthy k).slotsAfter k).flag F.STK_IFLAG_DIE_BACK) s
  s.onStk fun t => { t with rejoin := [] }

/-- Paths of R127 are restored at a boundary where a segment came up or the split was committed (R129). -/
def State.restorePaths (s : State) : State :=
  if s.stk.restore then
    let before := s.get F.STK_ROUTE_TOP
    let s := (s.onStk fun t => { t with restore := false }).defaultPaths
    s.applyIf (s.get F.STK_ROUTE_TOP != before) fun s => s.flag F.STK_IFLAG_ROUTE
  else s

/-! ### Load (R128) -/

/-- Fast cells of a die. -/
def State.fastCount (s : State) (k : Nat) : Nat := (cellList.filter (s.fastCell k)).length

/-- L of R128 in bit/s for a period in µs, a mid-frame factor `q` and the numbers of fast cells of the dies. The 8 kHz mode of
all cells (`q` = 2) stands for a mask of all cells at 250 µs. -/
def loadOf (n period : Nat) (fast : List Nat) : Nat :=
  let all := period == 250 && fast.all (· == 64) && !fast.isEmpty
  let q := if all then 2 else 1
  let subset := if all then 0 else (fast.map fun c => if c = 0 then 0 else 32 * c + 96).sum
  (n * (2144 * q + 768) + 256 + subset) * (1000000 / period)

/-- STK_LOAD in 10 kbit/s, rounded down (log entry 70). -/
def State.showLoad (s : State) : State :=
  s.set F.STK_LOAD_LOAD (loadOf s.dies s.period (s.dieList.map s.fastCount) / 10000)

end Sys2Proof.Machine
end

