-- ==== Sys2Proof/Machine/Gate.lean ====
section
/-! DEFINITION. Gate drive and bridge protection (R350 to R364). -/
namespace Sys2Proof.Machine
open Host

/-! ### Bridges -/

/-- Change what the G-die keeps. -/
def State.onGate (s : State) (f : GateSt → GateSt) : State := { s with gate := f s.gate }

/-- The half-bridges an axis uses: three for a BLDC motor, four for a stepper (R354). -/
def State.bridges (s : State) (a : Nat) : Nat := if s.get (F.AX_CFG_TYPE.on a) = 1 then 3 else 4

/-- The axis is at standstill: no cycle runs and none has been accepted. -/
def State.atRest (s : State) (a : Nat) : Bool := (s.axis a).cycle.isNone && (s.axis a).pending.isNone

/-- Every gate of the axis is low. -/
def State.gatesLow (s : State) (a : Nat) : Bool :=
  (s.gdState a != 2 || (s.axis a).drive == 0) && (s.gate.pulse.all fun p => p.axis != a) && (s.gate.test.all fun p => p.1 != a) &&
    s.gdState a != 1

/-- A cause that stays latched until RECOVER (R362). -/
def latchedCause (c : Nat) : Bool := c == 3 || c == 4 || c == 7

/-- Take an axis out of what the G-die runs on it: qualification, test, pulse, refresh. -/
def State.quietGate (s : State) (a : Nat) : State :=
  (s.onGate fun g => { g with
    qual := g.qual.filter fun e => e.1 != a, test := g.test.filter fun e => e.1 != a
    pulse := g.pulse.filter fun e => e.axis != a }).set (F.GD_STAT_REFRESH.on a) 0

/-- The G-die powers up again (R361): an axis whose last cause was latched returns to FAULT and waits for RECOVER. -/
def State.powerUpGate (s : State) : State :=
  axisList.foldl (fun (s : State) a =>
    s.applyIf (latchedCause (s.get (F.GD_STAT_CAUSE.on a)) && s.enabled (0x49 + a)) fun s => s.set (F.GD_STAT_STATE.on a) 4)
    { s with gdieDown := false }

/-- The words of the fourth half-bridge of a BLDC axis read 0, and its bootstrap is not monitored (R354). -/
def State.clearFourth (s : State) (a : Nat) : State :=
  let keep := fun (s : State) (f : Fld) (n : Nat) => s.set (f.on a) (s.get (f.on a) % n)
  let h := 4 * a + 3
  let s := [(F.GD_STR_STEP, 4096), (F.GD_STR_LIMIT, 64), (F.GD_STAT_SCHB, 64), (F.GD_SCTEST_PASS, 64), (F.GD_SCTEST_FAIL, 64),
    (F.GD_STAT_REFRESH, 8), (F.GD_BSTV_V, 2 ^ 24), (F.GD_TSW_TSW, 2 ^ 24)].foldl (fun s p => keep s p.1 p.2) s
  s.onGate fun g => { g with
    lowBst := g.lowBst.filter (· != h), refreshed := g.refreshed.filter (· != h)
    slow := g.slow.filter fun e => e.1 != h, fast := g.fast.filter fun e => e.1 != h }

/-- The bridge state of an axis beneath a test of its comparators (R359). -/
def State.stateBelow (s : State) (a : Nat) : Nat :=
  match s.gate.test.find? fun e => e.1 == a with
  | some e => e.2
  | none => s.gdState a

/-- Put an axis into its safe state with a cause (R354, R358, R360, R364): it coasts and its motion stops. An axis in FAULT
keeps its latched cause against a cause without a latch; an axis that is off stays off. A test of the axis ends. -/
def State.safeState (s : State) (a cause : Nat) : State :=
  let below := s.stateBelow a
  if (below = 0 ∨ below = 4) ∧ latchedCause cause = false then (s.quietGate a).set (F.GD_STAT_STATE.on a) below
  else
    let s := (s.quietGate a).stopAxis a 2
    let s := s.onAxis a fun x => { x with drive := 0 }
    let s := (s.set (F.GD_STAT_CAUSE.on a) cause).set (F.GD_STAT_STATE.on a) (if latchedCause cause then 4 else 3)
    s.abortBrakeTests fun b => s.testedAxis b == some a

/-- All gates of an axis go low and its bridge is off; a latched FAULT stays (R56, R72). -/
def State.bridgeOff (s : State) (a : Nat) : State :=
  let below := s.stateBelow a
  let s := ((s.quietGate a).onGate fun g => { g with deferred := g.deferred.filter (· != a) }).onAxis a fun x => { x with drive := 0 }
  (s.set (F.GD_STAT_STATE.on a) (if below = 4 then 4 else 0)).abortBrakeTests fun b => s.testedAxis b == some a

/-- Every axis. -/
def State.safeAll (s : State) (cause : Nat) : State := axisList.foldl (fun s a => s.safeState a cause) s

/-- A trip of a short-circuit comparator: bit 2b high side, 2b + 1 low side of half-bridge b (R358). -/
def State.shortCircuit (s : State) (a c : Nat) : State :=
  let s := s.set (F.GD_STAT_SCHB.on a) (withBit (s.get (F.GD_STAT_SCHB.on a)) c true)
  ((s.count (F.GD_SCTEST_TRIPS.on a)).safeState a 3).flagEvent (F.GD_IFLAG_SC.on a) 2 [(F.GD_STAT_CAUSE.on a).addr]

/-! ### Command link (R350) -/

/-- The link is back: LINKLOST clears (its axes requalify). -/
def State.linkBack (s : State) : State :=
  (s.onGate fun g => { g with lastFrame := s.now }).applyIf (s.on F.GDR_STAT_LINKLOST) fun s => s.setOn F.GDR_STAT_LINKLOST false

/-- GDIE_FRAME: the set-point frame of axis `a` in a servo period, sent up to three times (`sent`), and whether one was valid.
None valid is a miss: the previous set-point stays for one servo period; two misses in a row are handled as an empty queue. -/
def execGdieFrame (a sent : Nat) (valid : Bool) (s : State) : Outcome State Fault Refusal :=
  if !s.hasM || s.gdieDown || decide (6 ≤ a) then .next s
  else
    let s := s.set F.GDR_LINK_RETRY (satAdd (s.get F.GDR_LINK_RETRY) (min sent 3 - 1) 65535)
    if valid then
      .next (s.linkBack.onGate fun g => { g with missed := putCount a 0 g.missed, unheld := g.unheld.filter (· != a) })
    else
      let s := (s.count F.GDR_LINK_MISS).flag F.GDR_IFLAG_LINKERR
      let n := countOf s.gate.missed a + 1
      let s := s.onGate fun g => { g with missed := putCount a n g.missed, unheld := a :: g.unheld.filter (· != a) }
      .next (s.applyIf (decide (2 ≤ n) && (s.axis a).cycle.isSome) fun s => s.stopAxis a 3)

/-- GDIE_LINK_LOST: no valid frame for 2 ms; every axis goes to its safe state with cause 6. -/
def execGdieLinkLost (s : State) : Outcome State Fault Refusal :=
  if !s.hasM || s.gdieDown then .next s
  else .next ((((s.advanceTo (s.gate.lastFrame + 2000)).safeAll 6).setOn F.GDR_STAT_LINKLOST true).flag F.GDR_IFLAG_LINKLOST)

/-! ### Tests, qualification, recovery (R359, R361, R362) -/

/-- The comparators of an axis, as bits of SCHB. -/
def State.comparators (s : State) (a : Nat) : Nat := 2 ^ (2 * s.bridges a) - 1

/-- Write the result of a comparator test: failed comparators, the others passed. -/
def State.testResult (s : State) (a fails : Nat) : State :=
  let f := fails &&& s.comparators a
  (s.set (F.GD_SCTEST_FAIL.on a) f).set (F.GD_SCTEST_PASS.on a) (s.comparators a - f)

/-- A comparator failed: TESTFAIL, an event, and FAULT with cause 7. -/
def State.testFail (s : State) (a : Nat) : State :=
  (s.safeState a 7).flagEvent (F.GD_IFLAG_TESTFAIL.on a) 2 [(F.GD_SCTEST_FAIL.on a).addr]

/-- The G-die can qualify the axis: in RUN, page enabled, VM and VGG good, link up, its bootstraps released (R361). -/
def State.canQualify (s : State) (a : Nat) : Bool :=
  s.hasM && s.pwr.phase == .run && !s.gdieDown && s.enabled (0x49 + a) && s.enabled 0x48 && s.on F.PWR_STAT_VM_OK && s.on F.GDR_STAT_VGG_OK &&
    !s.on F.GDR_STAT_LINKLOST && s.gate.lowBst.all fun h => h / 4 != a

/-- A qualification of the axis begins; a RECOVER takes the cause of the fault away (R361, R362). -/
def State.beginQualify (s : State) (a : Nat) (recover : Bool) : State :=
  let s := s.applyIf recover fun s => (s.set (F.GD_STAT_CAUSE.on a) 0).set (F.GD_STAT_SCHB.on a) 0
  (s.set (F.GD_STAT_STATE.on a) 1).onGate fun g => { g with qual := (a, s.now) :: g.qual, deferred := g.deferred.filter (· != a) }

/-- A write to GD_CMD: 1 SCTEST, 2 RECOVER; RECOVER waits while a commit that changes the bridge is staged (R85), and for the
first step of qualification (R361). -/
def State.writeGdCmd (s : State) (a : Nat) (v : Word) : State × Option Nat :=
  if v = 1 then
    if s.gatesLow a && s.atRest a && !s.gdieDown then
      ((s.onGate fun g => { g with test := (a, s.gdState a) :: g.test }).set (F.GD_STAT_STATE.on a) 5, none)
    else (s, some 0x0A)
  else if v = 2 then
    if s.gdState a ≠ 4 ∨ s.atRest a = false ∨ s.gdieDown = true then (s, some 0x0A)
    else if s.bridgeStaged a || !s.canQualify a then
      (s.onGate fun g => { g with deferred := a :: g.deferred.filter (· != a) }, none)
    else (s.beginQualify a true, none)
  else (s, some 0x0A)

/-- The RECOVERs that waited for pages now applied run (R85). -/
def State.runRecovers (s : State) (pages : List Nat) : State :=
  let due := fun (a : Nat) => (pages.contains 0x48 || pages.contains (0x49 + a)) && s.gate.deferred.contains a &&
    !s.bridgeStaged a && s.canQualify a && s.gdState a == 4 && s.atRest a
  ((if s.hasM then axisList else []).filter due).foldl (fun s a => s.beginQualify a true) s

/-- SCTEST_DONE: the test ends with the comparators that failed (R359). -/
def execSctestDone (a fails : Nat) (s : State) : Outcome State Fault Refusal :=
  match s.gate.test.find? fun e => e.1 == a with
  | none => .next s
  | some e =>
    let s := ((s.onGate fun g => { g with test := g.test.filter fun x => x.1 != a }).set (F.GD_STAT_STATE.on a) e.2).testResult a fails
    let s := s.flag (F.GD_IFLAG_TESTDONE.on a)
    .next (if fails &&& s.comparators a = 0 then s else s.testFail a)

/-- QUALIFICATION: an axis that is off, or whose cause without a latch has cleared, or whose RECOVER waited, starts
qualification. -/
def execQualification (a : Nat) (s : State) : Outcome State Fault Refusal :=
  let waits := s.gate.deferred.contains a
  if 6 ≤ a ∨ s.canQualify a = false ∨ s.bridgeStaged a = true ∨ (s.gate.pulse.any fun p => p.axis == a) = true then .next s
  else if (s.gdState a = 0 ∧ latchedCause (s.get (F.GD_STAT_CAUSE.on a)) = false) ∨ s.gdState a = 3 ∨
      (waits = true ∧ s.gdState a = 4) then
    .next (s.beginQualify a waits)
  else if s.gdState a = 0 then .next (s.set (F.GD_STAT_STATE.on a) 4)
  else .next s

/-- Show the bootstraps of an axis, 0.1 V; an unused half-bridge reads 0. -/
def State.showBootstraps (s : State) (a : Nat) (v : List Nat) : State :=
  s.set (F.GD_BSTV_V.on a) ((List.range (s.bridges a)).foldl (fun acc b => acc + min (entryNat v b) 255 * 256 ^ b) 0)

/-- Failed qualification: FAULT with cause 7. -/
def State.qualFail (s : State) (a : Nat) : State := (s.safeState a 7).flag (F.GD_IFLAG_QUALFAIL.on a)

/-- The moment from which the steps of a qualification run: its start, and 1 ms after VGG was released (R361). -/
def State.qualifyFrom (s : State) (a : Nat) : Nat :=
  max (((s.gate.qual.find? fun e => e.1 == a).map fun e => e.2).getD 0) (s.gate.vggAt + 1000)

/-- QUALIFICATION_DONE: comparators that failed and bootstraps after the precharge, 0.1 V (R361). A bridge whose VM_OK has cleared
meanwhile, or that PWR_FAIL has cut off, is not enabled (R56, R63). -/
def execQualificationDone (a fails : Nat) (bst : List Nat) (s : State) : Outcome State Fault Refusal :=
  if s.gdState a ≠ 1 ∨ 6 ≤ a then .next s
  else if s.canQualify a = false then .next (s.bridgeOff a)
  else
    let s := s.advanceTo (s.qualifyFrom a + s.get F.GDR_BST_PRECHG)
    let s := ((s.onGate fun g => { g with qual := g.qual.filter fun e => e.1 != a }).testResult a fails).showBootstraps a bst
    if fails &&& s.comparators a ≠ 0 then .next ((s.testFail a).qualFail a)
    else if (List.range (s.bridges a)).any fun b => decide (entryNat bst b < s.get F.GDR_BST_WARN + 5) then .next (s.qualFail a)
    else
      let s := (s.set (F.GD_STAT_STATE.on a) 2).flag (F.GD_IFLAG_QUAL.on a)
      let s := s.onGate fun g => { g with qualified := if g.qualified.contains a then g.qualified else a :: g.qualified }
      .next (if s.axState a = 6 then s.setAxState a (if s.on F.SAF_STAT_SAFESTOP || s.get F.TMP_LATCH_LATCHED != 0 then 5 else 0)
        else s)

/-! ### Gate pulse (R352) -/

/-- A write to GD_GPULSE; after PWR_FAIL every gate stays low (R56; log entry 122). -/
def State.writeGpulse (s : State) (a : Nat) (v : Word) : State × Option Nat :=
  let w := bitsOf v 15 8
  let h := bitsOf v 2 1
  let free := (s.gate.pulse.all fun p => p.axis != a) && s.gate.test.all fun p => p.1 != a
  if (s.gdState a == 0 || s.gdState a == 4) && s.atRest a && s.on F.PWR_STAT_VM_OK && decide (h < s.bridges a) && free &&
      decide (1 ≤ w) && decide (w ≤ 100) && !s.gdieDown && s.pwr.phase != .holdup then
    (s.onGate fun g => { g with pulse := ⟨a, h, bitsOf v 0 0 == 1, w, s.now⟩ :: g.pulse }, none)
  else (s, some 0x0A)

/-- A high-side pulse whose bootstrap reads below WARN is preceded by low-side conduction for PRECHG. -/
def State.precharges (s : State) (p : GatePulse) (x : PulseEnd) : Bool := p.high && decide (x.before < s.get F.GDR_BST_WARN)

/-- The pulse is given, unless the bootstrap reads below WARN + 0.5 V after a precharge. -/
def State.pulseGiven (s : State) (p : GatePulse) (x : PulseEnd) : Bool :=
  !s.precharges p x || decide (s.get F.GDR_BST_WARN + 5 ≤ x.charged)

/-- GATE_PULSE_END: the switch node in 10 mV and the bootstrap in 0.1 V at the end, and how the pulse went: OUT 1 done after WIDTH,
2 a short-circuit trip, 3 not given. -/
def execGatePulseEnd (a vsw vbst : Nat) (x : PulseEnd) (s : State) : Outcome State Fault Refusal :=
  match s.gate.pulse.find? fun p => p.axis == a with
  | none => .next s
  | some p =>
    let given := s.pulseGiven p x
    let s := s.advanceTo (p.since + (if s.precharges p x then s.get F.GDR_BST_PRECHG else 0) +
      if given && !x.trip then p.width else 0)
    let s := s.onGate fun g => { g with pulse := g.pulse.filter fun y => y.axis != a }
    let s := ((s.set (F.GD_GRES_VSW.on a) (min vsw 65535)).set (F.GD_GRES_VBST.on a) (min vbst 255)).set (F.GD_GRES_OUT.on a)
      (if !given then 3 else if x.trip then 2 else 1)
    .next (if given && x.trip then s.shortCircuit a (if p.high then 2 * p.half else 2 * p.half + 1) else s)

/-- A read of GD_LIVE fetches GD_STAT as the G-die holds it (R351). -/
def State.fetchLive (s : State) (a : Nat) : State := s.put (F.GD_LIVE_LIVE.on a).addr (s.reg (F.GD_STAT_STATE.on a).addr)

/-! ### Drive strength (R357) -/

/-- The drive step of a half-bridge. -/
def State.driveStep (s : State) (a b : Nat) : Nat := s.get (F.GD_STR_STEP.on a) / 16 ^ b % 16

/-- One PWM period of a half-bridge with its mean switching time in ns. -/
def State.adaptBridge (s : State) (a b ns : Nat) : State :=
  let t := s.get (F.GD_SW_TSW.on a)
  let hi := s.get (F.GD_SW_STRMAX.on a)
  let lo := s.get (F.GD_SW_STRMIN.on a)
  let step := s.driveStep a b
  let slow := decide (11 * t < 10 * ns)
  let fast := decide (10 * ns < 9 * t)
  let next := if !s.on (F.GD_SW_ADAPT.on a) then hi
    else max lo (min hi (if slow then step + 1 else if fast then step - 1 else step))
  let h := 4 * a + b
  let nSlow := if slow && step == hi then countOf s.gate.slow h + 1 else 0
  let nFast := if fast && step == lo then countOf s.gate.fast h + 1 else 0
  let s := s.onGate fun g => { g with slow := putCount h (min nSlow 1024) g.slow, fast := putCount h (min nFast 1024) g.fast }
  let lim := s.get (F.GD_STR_LIMIT.on a)
  let marks := withBit (withBit lim (2 * b) (decide (1024 ≤ nSlow))) (2 * b + 1) (decide (1024 ≤ nFast))
  let fresh := (decide (1024 ≤ nSlow) && !bit lim (2 * b)) || (decide (1024 ≤ nFast) && !bit lim (2 * b + 1))
  let s := (s.set (F.GD_STR_STEP.on a) (s.get (F.GD_STR_STEP.on a) - step * 16 ^ b + next * 16 ^ b)).set (F.GD_STR_LIMIT.on a) marks
  s.applyIf fresh fun s => s.flagEvent (F.GD_IFLAG_SLOW.on a) 1 [(F.GD_STR_LIMIT.on a).addr]

/-- One PWM period of a half-bridge in a refresh episode (R363): commanded low-side conduction of 400 ns or longer ends the episode;
shorter, the period begins with a refresh pulse. -/
def State.refreshPeriod (s : State) (a b low : Nat) : State :=
  let r := s.get (F.GD_STAT_REFRESH.on a)
  let pulse := bit r b && decide (low < 400)
  let s := s.onGate fun g => { g with
    refreshed := (if pulse then [4 * a + b] else []) ++ g.refreshed.filter (· != 4 * a + b) }
  if bit r b && decide (400 ≤ low) then s.set (F.GD_STAT_REFRESH.on a) (withBit r b false) else s

/-- PWM_PERIOD: the mean switching times of the half-bridges of axis `a` in the period and their commanded low-side conduction, ns.
Its start may trigger the auxiliary scan (R123). -/
def execPwmPeriod (a : Nat) (hs : List HalfPeriod) (s : State) : Outcome State Fault Refusal :=
  if 6 ≤ a ∨ s.gdState a ≠ 2 then .next s
  else
    let n := s.bridges a
    let half := fun (b : Nat) => (hs[b]?).getD {}
    let s := s.set (F.GD_TSW_TSW.on a) ((List.range n).foldl (fun acc b => acc + min ((half b).ns / 2) 255 * 256 ^ b) 0)
    let s := (List.range n).foldl (fun s b => (s.adaptBridge a b (half b).ns).refreshPeriod a b (half b).low) s
    .next (s.applyIf (s.get F.THY_TRIG_SRC == 2 && s.get F.THY_TRIG_AXIS == a) fun s => s.triggerEvent 0)

/-! ### Trips and supplies (R355, R358, R360, R363) -/

/-- SHORT_CIRCUIT_TRIP: comparator `c` of axis `a`. -/
def execShortCircuitTrip (a c : Nat) (s : State) : Outcome State Fault Refusal :=
  if a < 6 ∧ c < 8 ∧ c / 2 < s.bridges a ∧ s.hasM = true then .next (s.shortCircuit a c) else .next s

/-- HANDSHAKE_TIMEOUT: only the GM3 compatibility scheme waits for the off-going gate. -/
def execHandshakeTimeout (a : Nat) (s : State) : Outcome State Fault Refusal :=
  if a < 6 ∧ s.hasM = true ∧ s.on (F.GD_DT_SCHEME.on a) = true then .next ((s.safeState a 4).flag (F.GD_IFLAG_HSTO.on a)) else .next s

/-- VM_OUT_OF_RANGE: VM outside 11.0 V to 62.0 V for 5 µs; `high` above it. -/
def execVmOutOfRange (high : Bool) (s : State) : Outcome State Fault Refusal :=
  if !s.hasM || s.gdieDown then .next s
  else .next (((s.safeAll 1).setOn F.GDR_STAT_VMHARD true).applyIf high fun s => s.flagEvent F.GDR_IFLAG_VMHARD 2)

/-- VGG_UNDERVOLTAGE: VGG below 8.0 V. -/
def execVggUndervoltage (s : State) : Outcome State Fault Refusal :=
  if !s.hasM || s.gdieDown then .next s
  else .next (((s.safeAll 2).setOn F.GDR_STAT_VGG_OK false).flagEvent F.GDR_IFLAG_VGGUV 2)

/-- SUPPLY_RELEASE: VGG, or the bootstrap of half-bridge `h` of the module, has risen past its release threshold. -/
def execSupplyRelease (h : Option Nat) (s : State) : Outcome State Fault Refusal :=
  if !s.hasM || s.gdieDown then .next s
  else match h with
    | none => .next (if s.on F.GDR_STAT_VGG_OK then s
        else (s.onGate fun g => { g with vggAt := s.now }).setOn F.GDR_STAT_VGG_OK true)
    | some n => .next (s.onGate fun g => { g with lowBst := g.lowBst.filter (· != n) })

/-- BOOTSTRAP_UNDERVOLTAGE: a bootstrap below 7.0 V; BSTUV counts the safe states it brings about, and an axis that is off enters
none. -/
def execBootstrapUndervoltage (a b : Nat) (s : State) : Outcome State Fault Refusal :=
  if a < 6 ∧ b < s.bridges a ∧ s.hasM = true then
    let off := s.stateBelow a == 0 || s.stateBelow a == 4
    let s := s.onGate fun g => { g with lowBst := (4 * a + b) :: g.lowBst.filter (· != 4 * a + b) }
    let s := s.applyIf (!off) fun s => s.count (F.GD_REFCNT_BSTUV.on a)
    .next ((s.safeState a 5).flagEvent (F.GD_IFLAG_BSTUV.on a) 2)
  else .next s

/-- REFRESH_EPISODE: a bootstrap, in 0.1 V, below WARN begins an episode, which PWM_PERIOD ends; each raises one event. -/
def execRefreshEpisode (a b bst : Nat) (s : State) : Outcome State Fault Refusal :=
  if a < 6 ∧ b < s.bridges a ∧ s.gdState a = 2 ∧ bst < s.get F.GDR_BST_WARN then
    let r := s.get (F.GD_STAT_REFRESH.on a)
    if bit r b then .next s
    else .next (((s.set (F.GD_STAT_REFRESH.on a) (withBit r b true)).count (F.GD_REFCNT_EPISODES.on a)).flagEvent
      (F.GD_IFLAG_BSTREF.on a) 1 [(F.GD_STAT_REFRESH.on a).addr])
  else .next s

/-- CHOPPER_ON: VM above VON; after PWR_FAIL the chopper stays off. -/
def execChopperOn (s : State) : Outcome State Fault Refusal :=
  if !s.hasM || s.gdieDown || s.on F.GDR_STAT_CHOP || !(s.pwr.phase == .run) then .next s
  else .next ((((s.onGate fun g => { g with chopSince := s.now, chopLong := false }).setOn F.GDR_STAT_CHOP true).count F.GDR_CHOPCNT_EVENTS).flag
    F.GDR_IFLAG_CHOPON)

/-- The chopper turns off. -/
def State.chopperOff (s : State) : State :=
  if s.on F.GDR_STAT_CHOP then
    (s.setOn F.GDR_STAT_CHOP false).set F.GDR_CHOPCNT_ONMS (min ((s.now - s.gate.chopSince) / 1000) 65535)
  else s

/-- CHOPPER_OFF: VM below VOFF. -/
def execChopperOff (s : State) : Outcome State Fault Refusal := .next s.chopperOff

/-- CHOPPER_LONG: on for longer than MAXON, once in an on-period; it stays on. -/
def execChopperLong (s : State) : Outcome State Fault Refusal :=
  if s.on F.GDR_STAT_CHOP && !s.gate.chopLong then
    .next (((s.advanceTo (s.gate.chopSince + s.get F.GDR_CHOPT_MAXON * 1000)).onGate fun g => { g with chopLong := true }).flagEvent
      F.GDR_IFLAG_CHOPLONG 2)
  else .next s

end Sys2Proof.Machine
end

