-- ==== Sys2Proof/Machine/Bay.lean ====
section
/-! DEFINITION. The Bay metering partition (R317 to R331). -/
namespace Sys2Proof.Machine
open Host

/-- Change what island 7 keeps. -/
def State.onBay (s : State) (f : BaySt → BaySt) : State := { s with bay := f s.bay }

/-- A sealed parameter (R328). -/
def State.bayParam (s : State) (n : Nat) : Int := s.getInt (F.BAY_CAL_VALUE.at n)

/-- Bay runs: the RUN line to island 5; on a variant without Bay the condition does not apply (R29). -/
def State.bayRunning (s : State) : Bool := !s.hasB || s.on F.BAY_STAT_RUN

/-! ### Samples (R320, R321) -/

/-- I of a pair in A, from U in 0.01 µV. -/
def State.bayI (s : State) (u : Int) : Rat :=
  (((u - s.bayParam 2) * (10000000 + s.bayParam 1) : Int) : Rat) / (((s.bayParam 0) * 10000000 : Int) : Rat)

/-- V of a pair in V, from U in µV. -/
def State.bayV (s : State) (u : Int) : Rat :=
  ((u * s.bayParam 3 * (10000000 + s.bayParam 4) : Int) : Rat) / 10000000000000000

/-- The instant of an index of the 32 kHz grid, µs, rounded up. Frame boundaries lie on the grid (R119, R132). -/
def gridInstant (index : Nat) : Nat := (index * 125 + 3) / 4

/-- The moment at which a pair that has not arrived is lost. -/
def lossTime (index : Nat) : Nat := gridInstant index + 16000

/-- A pair of the running interval is accounted for: its energy and sums, or its loss. -/
def State.countPair (s : State) (p : GridPair) : State :=
  if p.lost then
    s.onBay fun b => { b with
      seen := p.index :: b.seen, pairs := b.pairs + 1, lostPairs := b.lostPairs + 1, lastLoss := some (lossTime p.index) }
  else
    let i := s.bayI p.ui
    let v := s.bayV p.uv
    s.onBay fun b => { b with
      seen := p.index :: b.seen, pairs := b.pairs + 1, sumP := b.sumP + v * i, sumV := b.sumV + v * 1000
      sumI := b.sumI + i * 1000, sumAbs := b.sumAbs + i * signRat i * 1000 }

/-- A pair, or a loss, reaches island 7: it counts once, in the interval of its grid index. -/
def State.takePair (s : State) (p : GridPair) : State :=
  if p.index < s.bay.base || s.bay.seen.contains p.index then s
  else if s.bay.base + 3200 ≤ p.index then
    s.onBay fun b => { b with early := if b.early.any fun q => q.index == p.index then b.early else b.early ++ [p] }
  else s.countPair p

/-- M0 keeps a pair for 16 ms from its instant, 512 indices; one that it keeps already stays as it was converted (R320). -/
def State.keepPair (s : State) (p : GridPair) : State :=
  if s.bay.kept.any fun q => q.index == p.index then s
  else
    let newest := s.bay.kept.foldl (fun n q => max n q.index) p.index
    s.onBay fun b => { b with kept := (p :: b.kept).filter fun q => decide (newest < q.index + 512) }

/-- A pair as M0 keeps it: what a repeated fetch brings. -/
def State.keptPair (s : State) (p : GridPair) : GridPair := (s.bay.kept.find? fun q => q.index == p.index).getD p

/-- BAY_SAMPLE_PAIR: a pair converted by M0 reaches island 7, after a reroute or a repeated fetch later than others: the pair, and
whether its CRC holds. One whose CRC fails is not taken, and its next fetch brings what M0 keeps; one that comes 16 ms after its
instant is lost. -/
def execBaySamplePair (p : SamplePair) (crcOk : Bool) (s : State) : Outcome State Fault Refusal :=
  if !s.hasB || !s.running then .next s
  else
    let p : GridPair := { index := p.index, ui := p.ui, uv := p.uv }
    let s := s.keepPair p
    if !crcOk then .next s
    else
      let s := s.advanceTo (gridInstant p.index)
      .next (s.takePair (if lossTime p.index < s.now then { index := p.index, lost := true } else s.keptPair p))

/-- A pair of the running interval, or of a later one, is accounted for. -/
def State.pairTaken (s : State) (n : Nat) : Bool :=
  if n < s.bay.base + 3200 then s.bay.seen.contains n else s.bay.early.any fun q => q.index == n

/-- The first pair from an index on that is not accounted for, within a number of pairs. -/
def State.missingFrom (s : State) : Nat → Nat → Nat
  | 0, n => n
  | k + 1, n => if s.pairTaken n then s.missingFrom k (n + 1) else n

/-- The oldest pair that has not reached island 7: each is lost 16 ms after its own instant, so it is the next that can be
(log entry 103). -/
def State.oldestMissing (s : State) : Nat := s.missingFrom 6400 s.bay.base

/-- BAY_PAIR_LOST: a pair, the oldest that is missing, has not arrived 16 ms after its grid instant. -/
def execBayPairLost (s : State) : Outcome State Fault Refusal :=
  if !s.hasB || !s.running then .next s
  else .next ((s.advanceTo (lossTime s.oldestMissing)).takePair { index := s.oldestMissing, lost := true })

/-- RUN begins: the first interval begins at its boundary. -/
def State.bayAtRun (s : State) : State := s.onBay fun b => { b with base := s.now * 4 / 125, seen := [], early := [] }

/-! ### Energy registers -/

/-- A counter in Wh with its remainder in mJ takes energy. -/
def addEnergy (wh : Nat) (rem mj : Int) : Nat × Int :=
  let total := rem + mj
  (wh + (total / 3600000).toNat, total % 3600000)

/-- Add energy to a 48-bit counter pair. -/
def State.addLegal (s : State) (lo hi : Fld) (k : Nat) (mj : Int) : State :=
  let r := addEnergy (s.get lo + s.get hi * 2 ^ 32) ((s.bay.rems[k]?).getD 0) mj
  ((s.set lo (r.1 % 2 ^ 32)).set hi (r.1 / 2 ^ 32)).onBay fun b => { b with rems := b.rems.set k r.2 }

/-- Add energy to a 32-bit counter. -/
def State.addWord (s : State) (f : Fld) (k : Nat) (mj : Int) : State :=
  let r := addEnergy (s.get f) ((s.bay.rems[k]?).getD 0) mj
  (s.set f r.1).onBay fun b => { b with rems := b.rems.set k r.2 }

/-- Credit the energy of an interval in METER or TEST, in mJ: positive export, negative import (R321, R322, R325). -/
def State.creditEnergy (s : State) (metering : Bool) (mj : Int) : State :=
  if metering then
    let s := if 0 ≤ mj then s.addLegal F.BAY_EXP_LO_WH F.BAY_EXP_HI_WH 1 mj else s.addLegal F.BAY_IMP_LO_WH F.BAY_IMP_HI_WH 0 (-mj)
    if s.on F.BAY_SESS_ACTIVE then
      if 0 ≤ mj then s.addWord F.BAY_SEXP_WH 5 mj else s.addWord F.BAY_SIMP_WH 4 (-mj)
    else s
  else if 0 ≤ mj then s.addWord F.BAY_TEXP_WH 3 mj else s.addWord F.BAY_TIMP_WH 2 (-mj)

/-! ### The interval and the state (R322) -/

/-- The seal is closed. -/
def State.sealed (s : State) : Bool := s.on F.BAY_STAT_SEALED

/-- The state at the end of an interval. -/
def State.bayState (s : State) : Nat :=
  if s.bay.failed then 5
  else if decide (0 < s.bay.lostPairs) || (match s.bay.lastLoss with
      | some t => decide (s.now < t + 1000000)
      | none => false) then 3
  else if s.bay.clkErr then 4
  else if !s.sealed then 2
  else 1

/-- RUN changes: flags, an event when it clears, and CD3 opens (R322, R262 row 2). -/
def State.showRun (s : State) (v : Bool) : State :=
  if s.on F.BAY_STAT_RUN = v then s
  else
    let s := (s.setOn F.BAY_STAT_RUN v).setOn F.BAY_PSTAT_RUN v
    if v then s.flag F.BAY_IFLAG_RUN_SET
    else ((s.flagEvent F.BAY_IFLAG_RUN_LOST 2 [F.BAY_STAT_RUN.addr]).coilRelease 3).safetyEval

/-- Parameters set since the last interval take effect (R328). -/
def State.takeParams (s : State) : State :=
  let t := s.bay.toSet.foldl (fun (s : State) p => s.put (F.BAY_CAL_VALUE.at p.1).addr p.2) s
  t.onBay fun b => { b with toSet := [] }

/-- The threshold I_st in mA (R321). -/
def State.bayStart (s : State) : Rat := 38000000 / ((s.bayParam 0 : Int) : Rat)

/-- Show the mean of an interval over the pairs that arrived; over none the manual states none. -/
def State.showMean (s : State) (f : Fld) (sum : Rat) : State :=
  let n := s.bay.pairs - s.bay.lostPairs
  if n = 0 then s.put f.addr (Config.overNoPair f.addr) else s.setInt f (roundRat (sum / (n : Nat)))

/-- The next interval begins, with the pairs of it that have arrived already. -/
def State.nextInterval (s : State) : State :=
  let due := s.bay.early
  due.foldl State.takePair (s.onBay fun b => { b with
    base := b.base + 3200, seen := [], early := [], pairs := 0, lostPairs := 0, sumP := 0, sumV := 0, sumI := 0, sumAbs := 0 })

/-- Close an interval of `n` pairs. -/
def State.closeInterval (s : State) : State :=
  let n : Rat := (s.bay.pairs : Nat)
  let st := s.bayState
  let was := s.get F.BAY_STAT_STATE
  let mj := roundRat (s.bay.sumP / 32000 * 1000)
  let low := decide (s.bay.sumAbs / n < s.bayStart)
  let s := ((s.showMean F.BAY_P_VAL s.bay.sumP).showMean F.BAY_V_VAL s.bay.sumV).showMean F.BAY_I_VAL s.bay.sumI
  let s := (s.set F.BAY_STAT_STATE st).setOn F.BAY_PSTAT_ERROR (st == 5)
  let s := s.applyIf (st == 5 && was != 5) fun s => s.listed 0x0A 1 3 [F.BAY_STAT_STATE.addr]
  let s := s.applyIf (st == 3 || st == 4) fun s => s.set F.BAY_UNMET_MS (satAdd (s.get F.BAY_UNMET_MS) 100 0xFFFFFFFF)
  let s := s.applyIf ((st == 1 || st == 2) && !low) fun s => s.creditEnergy (st == 1) mj
  let s := s.applyIf (s.on F.BAY_SESS_ACTIVE) fun s =>
    s.set F.BAY_SDUR_S (min ((s.now - (s.get F.BAY_SSTART_LO_TIME + s.get F.BAY_SSTART_HI_TIME * 2 ^ 32)) / 1000000) 0xFFFFFFFF)
  (s.showRun (st == 1 || st == 2)).takeParams.nextInterval

/-- BAY_INTERVAL: the 3,200 pairs of the interval have arrived or are lost. -/
def execBayInterval (s : State) : Outcome State Fault Refusal :=
  if s.hasB && s.running && decide (3200 ≤ s.bay.pairs) then .next s.closeInterval else .next s

/-- One 1 s window of the clock check: the deviation in 0.1 ppm (R323). -/
def State.clockWindow (s : State) (dev : Int) : State :=
  let s := s.setInt F.BAY_CLK_DEV dev
  let warn := decide (5000 < absInt dev)
  let s := s.applyIf (warn && !s.on F.BAY_STAT_CLKWARN) fun s => s.flag F.BAY_IFLAG_CLK
  let s := (s.setOn F.BAY_STAT_CLKWARN warn).onBay fun b => { b with
    clkBad := if 20000 < absInt dev then b.clkBad + 1 else 0
    clkGood := if absInt dev ≤ 5000 then b.clkGood + 1 else 0 }
  if decide (3 ≤ s.bay.clkBad) && !s.bay.clkErr then (s.onBay fun b => { b with clkErr := true }).flag F.BAY_IFLAG_CLK
  else if s.bay.clkErr && decide (10 ≤ s.bay.clkGood) then s.onBay fun b => { b with clkErr := false }
  else s

/-! ### Copies (R324) -/

/-- The words a copy holds: energy registers, session record, unmetered time. -/
def copyWords : List Nat := [0x61, 0x62, 0x63, 0x64, 0x6E, 0x6F, 0x70, 0x71, 0x72, 0x73, 0x75].map (addrOf 0x0A)

/-- Island 7 holds its registers: from step 0x4 of start-up on, as long as the C-die runs. -/
def State.bayUp (s : State) : Bool :=
  s.hasB && s.cdieRuns && (s.get F.PWR_BOOT_STEP == 4 || s.get F.PWR_BOOT_STEP == 5)

/-- The CRC-32 of what a copy holds: sequence number, words, remainders. DESIGN CHOICE (log entry 119): R324 gives no layout. -/
def copyCrc (seq : Word) (words : List Word) (rems : List Int) : Word :=
  BitVec.ofNat 32 (crc32 ((seq :: words ++ rems.map (BitVec.ofInt 32)).flatMap bytesLE))

/-- A copy is valid: it reads well and its CRC-32 holds. -/
def BayCopy.valid (c : BayCopy) (reads : Bool) : Bool := reads && c.crc == copyCrc c.seq c.words c.rems

/-- Write the copy that is not the newest. -/
def State.bayCopy (s : State) : State :=
  if s.bayUp then
    s.onBay fun b =>
      let seq : Word := match b.copies with
        | c :: _ => c.seq + 1
        | [] => 1
      let words := copyWords.map s.reg
      { b with copies := ⟨seq, words, b.rems, copyCrc seq words b.rems⟩ :: b.copies.take 1 }
  else s

/-- BAY_COPY_WRITE: every 1 s, at PWR_WARN and at PWR_FAIL. -/
def execBayCopyWrite (s : State) : Outcome State Fault Refusal := .next s.bayCopy

/-- Append an entry to the metrological log: the words 0 to 5 of R330. -/
def State.bayLog (s : State) (kind param : Nat) (old new : Word) : State :=
  let used := s.get F.BAY_LOGSTAT_USED
  if 1024 ≤ used then
    s.applyIf (kind == 5) fun s => s.set F.BAY_LOGSTAT_RLOST (satAdd (s.get F.BAY_LOGSTAT_RLOST) 1 31)
  else
    let e := [s.reg F.BAY_MCOUNT_COUNT.addr, BitVec.ofNat 32 s.now,
      BitVec.ofNat 32 (kind * 2 ^ 24 + param * 65536 + s.now / 2 ^ 32 % 65536), old, new, s.bay.sealId]
    let s := s.onBay fun b => { b with log := (used, e) :: b.log }
    ((s.set F.BAY_LOGSTAT_USED (used + 1)).set F.BAY_LOGSTAT_NEWEST (used % 1024)).setOn F.BAY_STAT_LOGFULL (decide (1016 ≤ used + 1))

/-! ### Sessions (R325) -/

/-- Close the session that is open. -/
def State.closeSession (s : State) (cut : Bool) : State :=
  let s := (s.setOn F.BAY_SESS_ACTIVE false).setOn F.BAY_STAT_SESSION false
  (s.setOn F.BAY_SESS_CUT cut).flagEvent F.BAY_IFLAG_SESSION 0
    [F.BAY_SESS_NUMBER.addr, F.BAY_SIMP_WH.addr, F.BAY_SEXP_WH.addr, F.BAY_SSTART_LO_TIME.addr, F.BAY_SSTART_HI_TIME.addr,
      F.BAY_SDUR_S.addr]

/-- Open a session. -/
def State.openSession (s : State) : State :=
  let n := (s.get F.BAY_SESS_NUMBER + 1) % 2 ^ 30
  let s := (((s.set F.BAY_SESS_NUMBER n).setOn F.BAY_SESS_CUT false).setOn F.BAY_SESS_ACTIVE true).setOn F.BAY_STAT_SESSION true
  let s := ((s.set F.BAY_SIMP_WH 0).set F.BAY_SEXP_WH 0).set F.BAY_SDUR_S 0
  let s := (s.set F.BAY_SSTART_LO_TIME (s.now % 2 ^ 32)).set F.BAY_SSTART_HI_TIME (s.now / 2 ^ 32 % 65536)
  s.onBay fun b => { b with rems := (b.rems.set 4 0).set 5 0 }

/-- BAY_AUX3_CHANGE: the AUX3 line opens or closes a session. -/
def execBayAux3Change (closed : Bool) (s : State) : Outcome State Fault Refusal :=
  if !s.bayUp || s.on F.BAY_SESS_ACTIVE == closed then .next s
  else if closed then .next s.openSession
  else
    let d := (s.now - (s.get F.BAY_SSTART_LO_TIME + s.get F.BAY_SSTART_HI_TIME * 2 ^ 32)) / 1000000
    .next ((s.set F.BAY_SDUR_S (min d 0xFFFFFFFF)).closeSession false)

/-- The stored copies that are valid at a start-up, newest first; one that is not leaves its place to the next write. -/
def BaySt.validCopies (b : BaySt) (newest older : Bool) : List BayCopy :=
  ((b.copies.zip [newest, older]).filter fun (e : BayCopy × Bool) => e.1.valid e.2).map (·.1)

/-- Bay at start-up: the newest valid copy, or the older one with RESTORE; an open session closes with CUT; image and parameter checks,
and the CRC-32 of the image computed anew (R324, R325, R328, R331). Parameters set before and not yet taken still are (R328). DESIGN
CHOICE (log entry 119): with no valid copy the registers are those of a new meter. -/
def State.bayStartUp (s : State) (newest older image : Bool) : State :=
  if s.hasB then
    let valid := s.bay.validCopies newest older
    let restored := valid.length == 1 && s.bay.copies.length == 2 && valid.head? != s.bay.copies.head?
    let s := match valid with
      | c :: _ => ((copyWords.zip c.words).foldl (fun (s : State) (w : Nat × Word) => s.setReg w.1 w.2) s).onBay fun b => { b with
          copies := valid, rems := (c.rems.set 2 0).set 3 0 }
      | [] => s.onBay fun b => { b with copies := [], rems := [0, 0, 0, 0, 0, 0] }
    let s := s.applyIf restored fun s => (s.bayLog 5 0 0 0).flagEvent F.BAY_IFLAG_RESTORE 2
    let s := s.applyIf (s.on F.BAY_SESS_ACTIVE) fun s => s.closeSession true
    let s := match s.bay.nextImage with
      | some n => (s.onBay fun b => { b with image := n.1 }).setReg F.BAY_SWVER_BUILD.addr n.2
      | none => s
    let s := s.setReg F.BAY_SWID_CRC.addr (BitVec.ofNat 32 (crc32 (s.bay.image.flatMap bytesLE)))
    s.onBay fun b => { b with
      failed := !image, kept := [], seen := [], early := [], pairs := 0, lostPairs := 0, sumP := 0, sumV := 0, sumI := 0, sumAbs := 0
      lastLoss := none, clkErr := false, clkBad := 0, clkGood := 0, tries := 0, lockedUntil := none, staging := none
      nextImage := none, mbox := List.replicate 8 0 }
  else s

/-! ### The sealing mailbox (R327 to R330) -/

/-- A word of a message. -/
def msgWord (m : List Word) (i : Nat) : Word := (m[i]?).getD 0

/-- The CRC-32 a message must carry. -/
def msgCrc (m : List Word) : Nat := crc32 ((m.take 7).flatMap bytesLE)

/-- Show the result of a message. -/
def State.mboxResult (s : State) (r : Nat) : State := s.set F.BAY_MBSTAT_RESULT r

/-- A wrong seal code: the fifth in a row starts a lockout of 3,600 s. -/
def State.wrongCode (s : State) : State :=
  let s := s.onBay fun b => { b with tries := b.tries + 1 }
  (if 5 ≤ s.bay.tries then
    (s.onBay fun b => { b with tries := 0, lockedUntil := some (s.now + 3600000000) }).setOn F.BAY_STAT_LOCKOUT true
  else s).mboxResult 3

/-- The operation is known and allowed in the present seal state. -/
def State.opAllowed (s : State) (op : Nat) : Bool :=
  if op = 1 then s.sealed
  else if op = 2 ∨ op = 3 ∨ op = 4 then !s.sealed
  else if op = 5 ∨ op = 6 then !s.sealed && s.bay.staging.isSome
  else false

/-- A value within the range of its parameter (R328). -/
def paramInRange (p : Nat) (v : Word) : Bool :=
  let i := v.toInt
  let n := v.toNat
  if p = 0 then decide (1000 ≤ n ∧ n ≤ 1000000)
  else if p = 1 ∨ p = 4 then decide (-200000 ≤ i ∧ i ≤ 200000)
  else if p = 2 then decide (-10000 ≤ i ∧ i ≤ 10000)
  else if p = 3 then decide (100000 ≤ n ∧ n ≤ 3000000)
  else false

/-- Zero the test registers. -/
def State.zeroTest (s : State) : State :=
  ((s.set F.BAY_TIMP_WH 0).set F.BAY_TEXP_WH 0).onBay fun b => { b with rems := (b.rems.set 2 0).set 3 0 }

/-- The seal closes or opens. -/
def State.setSeal (s : State) (v : Bool) : State :=
  ((s.setOn F.BAY_STAT_SEALED v).setOn F.BAY_PSTAT_SEALED v).flag F.BAY_IFLAG_SEAL

/-- BAY_MCOUNT counts. -/
def State.mcount (s : State) : State := s.set F.BAY_MCOUNT_COUNT (satAdd (s.get F.BAY_MCOUNT_COUNT) 1 0xFFFFFFFF)

/-- The value a parameter holds or has been set to. -/
def State.paramNow (s : State) (p : Nat) : Word :=
  match s.bay.toSet.find? fun e => e.1 == p with
  | some e => e.2
  | none => s.reg (F.BAY_CAL_VALUE.at p).addr

/-- Carry out an accepted operation (R328). -/
def State.mboxRun (s : State) (m : List Word) (version : Word) : State :=
  let p := bitsOf (msgWord m 0) 7 0
  let v := msgWord m 3
  match bitsOf (msgWord m 0) 31 24 with
  | 1 => ((s.setSeal false).zeroTest.mcount).bayLog 1 0 0 0
  | 2 =>
    let old := s.paramNow p
    let s := s.onBay fun b => { b with toSet := (p, v) :: b.toSet.filter fun e => e.1 != p }
    ((s.zeroTest.mcount).bayLog 2 p old v).flag F.BAY_IFLAG_PARAM
  | 3 => ((s.onBay fun b => { b with code := v, sealId := msgWord m 4 }).setSeal true).bayLog 3 0 0 0
  | 4 => s.onBay fun b => { b with staging := some [] }
  | 5 => s.onBay fun b => { b with staging := b.staging.map fun l => l ++ [v, msgWord m 4, msgWord m 5, msgWord m 6] }
  | 6 =>
    let image := s.bay.staging.getD []
    let crcOf := fun (l : List Word) => BitVec.ofNat 32 (crc32 (l.flatMap bytesLE))
    let old := crcOf ((s.bay.nextImage.map fun n => n.1).getD s.bay.image)
    let s := s.onBay fun b => { b with staging := none, nextImage := some (image, version) }
    ((s.mcount).bayLog 4 0 old (crcOf image)).flag F.BAY_IFLAG_PARAM
  | _ => s

/-- Decide and carry out a message (R329). `verified` is the outcome of the signature check of an IMG_END, `version` the version of
its image. -/
def State.mailbox (s : State) (m : List Word) (verified : Bool) (version : Word) : State :=
  let op := bitsOf (msgWord m 0) 31 24
  let p := bitsOf (msgWord m 0) 7 0
  let used := s.get F.BAY_LOGSTAT_USED
  if !s.hasB then s
  else if s.bay.lockedUntil.isSome then s.mboxResult 8
  else if (msgWord m 7).toNat ≠ msgCrc m then s.mboxResult 2
  else if msgWord m 1 ≠ s.bay.code then s.wrongCode
  else
    let s := s.onBay fun b => { b with tries := 0 }
    if (msgWord m 2).toNat ≠ s.get F.BAY_MCOUNT_COUNT then s.mboxResult 4
    else if !s.opAllowed op then s.mboxResult 5
    else if op = 2 ∧ paramInRange p (msgWord m 3) = false then s.mboxResult 6
    else if (1016 ≤ used ∧ op ≠ 3) ∨ (1024 ≤ used ∧ op = 3) then s.mboxResult 7
    else if op = 6 ∧ verified = false then s.mboxResult 9
    else (s.mboxRun m version).mboxResult 1

/-- The message a row submits: its operation in word 0, words 1 to 7 as given. -/
def message (op param : Nat) (rest : List Word) : List Word := BitVec.ofNat 32 (op * 2 ^ 24 + param) :: rest

/-- A message passes to island 7 while the page answers. -/
def State.submitMailbox (s : State) (m : List Word) (verified : Bool) (version : Word) : State :=
  if s.running then (s.onBay fun b => { b with mbox := m.take 7 ++ [0] }).mailbox m verified version else s

/-- BAY_BREAK, with words 1 to 7. -/
def execBayBreak (rest : List Word) (s : State) : Outcome State Fault Refusal :=
  .next (s.submitMailbox (message 1 0 rest) false 0)

/-- BAY_SET of a parameter, with words 1 to 7. -/
def execBaySet (param : Byte) (rest : List Word) (s : State) : Outcome State Fault Refusal :=
  .next (s.submitMailbox (message 2 param.toNat rest) false 0)

/-- BAY_SEAL, with words 1 to 7. -/
def execBaySeal (rest : List Word) (s : State) : Outcome State Fault Refusal :=
  .next (s.submitMailbox (message 3 0 rest) false 0)

/-- BAY_IMG_OPEN, with words 1 to 7. -/
def execBayImgOpen (rest : List Word) (s : State) : Outcome State Fault Refusal :=
  .next (s.submitMailbox (message 4 0 rest) false 0)

/-- BAY_IMG_DATA, with words 1 to 7. -/
def execBayImgData (rest : List Word) (s : State) : Outcome State Fault Refusal :=
  .next (s.submitMailbox (message 5 0 rest) false 0)

/-- BAY_IMG_END, with words 1 to 7, the outcome of the signature check and the version of the image. -/
def execBayImgEnd (rest : List Word) (verified : Bool) (version : Word) (s : State) : Outcome State Fault Refusal :=
  .next (s.submitMailbox (message 6 0 rest) verified version)

/-- BAY_MAILBOX_REJECT: a message that fails a check of R329; any eight words are decided by the same rules. -/
def execBayMailboxReject (m : List Word) (s : State) : Outcome State Fault Refusal := .next (s.submitMailbox m false 0)

/-- BAY_LOCKOUT_END: the lockout of 3,600 s ends. -/
def execBayLockoutEnd (s : State) : Outcome State Fault Refusal :=
  match s.bay.lockedUntil with
  | some t => .next (((s.advanceTo t).onBay fun b => { b with lockedUntil := none }).setOn F.BAY_STAT_LOCKOUT false)
  | none => .next s

end Sys2Proof.Machine
end

