-- ==== Sys2Proof/Machine/Current.lean ====
section
/-! DEFINITION. String current and string voltage: channels, agreement, zeroing, charge count, sum check and divider calibration
(R194 to R207). The fast overcurrent comparator stands with the fault line. -/
namespace Sys2Proof.Machine
open Host

/-! ### Channels (R195, R205) -/

/-- The input range of a current channel, 0.01 µV, and of a divider pin, µV (R195, R204). -/
def uRange : Int := 20000000
def pinMin : Int := -100000
def pinMax : Int := 2100000

/-- U of an M0 channel after M0's drift gain. -/
def State.driftM0 (s : State) (u : Int) : Int := roundDiv (u * (10000000 + (s.die 0).gain)) 10000000

/-- A current in mA from U and OFS in 0.01 µV, GAIN in 0.1 ppm and R_SH in 0.1 µΩ (R195). -/
def currentOf (u ofs gain : Int) (r : Nat) : Int := roundDiv ((u - ofs) * (10000000 + gain) * 100) (10000000 * r)

/-- A divider voltage in mV from U in µV, the ratio in 0.001 and G in 0.1 ppm (R205). -/
def dividerOf (u : Int) (ratio : Nat) (g : Int) : Int := roundDiv (u * ratio * (10000000 + g)) 10000000000000

/-- The charge in µC from the integral of U in 0.01 µV × µs over `span` µs, with M0's drift gain, the offset and the trim (R200). -/
def chargeOf (int drift ofs gain : Int) (span r : Nat) : Rat :=
  (((int * (10000000 + drift) - ofs * span * 10000000) * (10000000 + gain) : Int) : Rat) / (((1000000000000000 * r : Nat)) : Rat)

/-- The channel reported in CUR_I is B: BAD names A alone (R197). -/
def State.reportsB (s : State) : Bool := s.cur.bad == 1

/-- R_SH and the trims of both channels as committed. -/
def State.trimsNow (s : State) : Nat × Int × Int := (s.get F.CUR_SHUNT_R, s.getInt F.CUR_GAINA_GAIN, s.getInt F.CUR_GAINB_GAIN)

/-- The charge count carried to the boundary: the reported channel of the moment, over the time M0's converters have run since the
count was last carried on, under the trims in force in the frame (R83, R200). -/
def State.carryCharge (s : State) (x : FrameSample) : Rat :=
  let trims := s.cur.trims.getD s.trimsNow
  let r := trims.1
  let span := s.now - max s.cur.qaccAt (s.die 0).startedAt
  let g := (s.die 0).gain
  s.cur.qacc + (if s.reportsB then chargeOf x.intB g s.cur.ofsB trims.2.2 span r
    else chargeOf x.intA g s.cur.ofsA trims.2.1 span r)

/-- What the M0 channels hold from a boundary. -/
def State.heldM0 (s : State) (x : FrameSample) : HeldM0 :=
  let r := s.get F.CUR_SHUNT_R
  let c := s.cur
  let ua := s.driftM0 x.ua
  let ub := s.driftM0 x.ub
  let str := s.driftM0 x.ustr
  let lnk := s.driftM0 x.ulnk
  let cs := clampInt pinMin pinMax str
  let cl := clampInt pinMin pinMax lnk
  let rs := s.get F.STV_RSTR_RATIO
  let rl := s.get F.STV_RLNK_RATIO
  { ia := currentOf (clampInt (-uRange) uRange ua) c.ofsA (s.getInt F.CUR_GAINA_GAIN) r
    ib := currentOf (clampInt (-uRange) uRange ub) c.ofsB (s.getInt F.CUR_GAINB_GAIN) r
    ovrA := decide (uRange < absInt ua), ovrB := decide (uRange < absInt ub), ua := ua, ub := ub
    vstr := dividerOf cs rs c.gStr, vlnk := dividerOf cl rl c.gLnk, ovrStr := cs != str, ovrLnk := cl != lnk
    str0 := roundDiv (cs * rs) 1000, lnk0 := roundDiv (cl * rl) 1000, qacc := roundRat (s.carryCharge x)
    ofsA := c.ofsA, ofsB := c.ofsB, gStr := c.gStr, gLnk := c.gLnk }

/-! ### Agreement (R198) -/

/-- |I_A − I_B| exceeds the window W. -/
def State.disagrees (s : State) (h : HeldM0) : Bool :=
  decide ((s.get F.CUR_AGREE_ABS * 100 * 10000 : Int) + s.get F.CUR_AGREE_REL * absInt h.ia < absInt (h.ia - h.ib) * 10000)

/-- Count the frame for the agreement check; a frame without M0 breaks every run of consecutive frames. -/
def State.countAgreement (s : State) (o : Option HeldM0) : State :=
  let within := fun (u : Int) => decide (absInt u * 10 ≤ uRange * 9)
  match o with
  | none => { s with cur := { s.cur with failA := 0, failB := 0, disagree := 0, agree := 0 } }
  | some h =>
    { s with cur := { s.cur with
        failA := if h.ovrA && within h.ub then s.cur.failA + 1 else 0
        failB := if h.ovrB && within h.ua then s.cur.failB + 1 else 0
        disagree := if s.disagrees h then s.cur.disagree + 1 else 0
        agree := if s.disagrees h then 0 else s.cur.agree + 1 } }

/-- M0 is healthy and reached (R198 row 1). -/
def State.hasM0 (s : State) : Bool := s.healthy 0 && bit (s.get F.STK_ROUTE_REACH) 0

/-- A row of R198 that makes the current suspect holds: M0 lost, a range failure, or disagreement for CONF frames. -/
def State.suspectDue (s : State) : Bool :=
  let n := s.get F.CUR_AGREE_CONF
  !s.hasM0 || decide (n ≤ s.cur.failA) || decide (n ≤ s.cur.failB) || decide (n ≤ s.cur.disagree)

/-- The channels named in BAD once a channel that failed range is named. -/
def State.badRange (s : State) : Nat :=
  let n := s.get F.CUR_AGREE_CONF
  let bad := withBit s.cur.bad 0 (bit s.cur.bad 0 || (s.hasM0 && decide (n ≤ s.cur.failA)))
  withBit bad 1 (bit bad 1 || (s.hasM0 && decide (n ≤ s.cur.failB)))

/-- Enter the suspect state, whose run of agreeing frames begins there; a channel that failed range is named in BAD (R198). CUR_STAT shows both with the next publication. -/
def State.enterSuspect (s : State) : State :=
  let s : State := { s with cur := { s.cur with bad := s.badRange } }
  if s.cur.suspect then s
  else
    ({ s with cur := { s.cur with suspect := true, suspectSince := some s.now, agree := 0 } }.setOn F.CUR_PSTAT_SUSPECT true).flagEvent
      F.CUR_IFLAG_SUSPECT 2 [F.CUR_STAT_SUSPECT.addr]

/-- CURRENT_SUSPECT: CONF frames of disagreement or range failure, or M0 lost. -/
def execCurrentSuspect (s : State) : Outcome State Fault Refusal :=
  if s.running && s.suspectDue then .next s.enterSuspect else .next s

/-- CURRENT_AGREED: 1,000 consecutive agreeing frames with BAD clear end the suspect state. -/
def execCurrentAgreed (s : State) : Outcome State Fault Refusal :=
  if s.running && s.cur.suspect && s.cur.bad == 0 && decide (1000 ≤ s.cur.agree) && s.hasM0 then
    .next (({ s with cur := { s.cur with suspect := false, suspectSince := none } }.setOn F.CUR_PSTAT_SUSPECT false).flagEvent
      F.CUR_IFLAG_AGREED 0 [F.CUR_STAT_SUSPECT.addr])
  else .next s

/-! ### Zeroing (R199) -/

/-- CD1 commanded open and AUX1 reads open. -/
def State.zeroCondition (s : State) : Bool := !s.cdLive 1

/-- U of a channel as held within its range (R195). -/
def heldU (u : Int) : Int := clampInt (-uRange) uRange u

/-- One frame of the zeroing condition and of a zeroing in progress; a frame without M0 begins the 1,024 anew. -/
def State.zeroFrame (s : State) (o : Option HeldM0) : State :=
  if s.zeroCondition then
    { s with cur := { s.cur with
        openSince := match s.cur.openSince with
          | some t => some t
          | none => some s.now
        zeroing := s.cur.zeroing.map fun z => match o with
          | none => { z with frames := 0, sumA := 0, sumB := 0 }
          | some h => if z.frames < 1024 then { z with frames := z.frames + 1, sumA := z.sumA + heldU h.ua, sumB := z.sumB + heldU h.ub } else z } }
  else
    { s with cur := { s.cur with openSince := none, zeroing := none } }.setOn F.CUR_PSTAT_ZEROING false

/-- What the M0 channels sample at a boundary, with the charge count carried to it, and what the hub judges in the frame. -/
def State.sampleM0 (s : State) (x : FrameSample) : State :=
  let h := s.heldM0 x
  let s : State := { s with cur := { s.cur with qacc := s.carryCharge x, qaccAt := s.now, trims := some s.trimsNow, spanIa := x.spanIa, held := some h } }
  (s.countAgreement (some h)).zeroFrame (some h)

/-- A boundary at which M0 does not sample, or is not healthy. -/
def State.missM0 (s : State) : State :=
  let s : State := { s with cur := { s.cur with held := none, qaccAt := s.now, trims := some s.trimsNow } }
  (s.countAgreement none).zeroFrame none

/-- A frame of M0 is lost: it breaks every run of consecutive frames, and `next`, which the frame after it has brought, begins them
anew. -/
def State.loseM0 (s : State) (next : Option HeldM0) : State :=
  let s := (s.countAgreement none).zeroFrame none
  match next with
  | some h => (s.countAgreement (some h)).zeroFrame (some h)
  | none => s

/-- Start a zeroing. -/
def State.startZero (s : State) (host : Bool) : State :=
  { s with cur := { s.cur with zeroing := some { host := host } } }.setOn F.CUR_PSTAT_ZEROING true

/-- A write to CUR_ZERO: refused unless the condition holds. -/
def State.writeZero (s : State) (v : Word) : State × Option Nat :=
  if v ≠ 1 ∨ s.zeroCondition = false then (s, some 0x0A) else (s.startZero true, none)

/-- ZERO_AUTO_START: with AUTO at 1, the condition has held for 10 s and no zeroing runs. -/
def execZeroAutoStart (s : State) : Outcome State Fault Refusal :=
  match s.cur.openSince with
  | some t =>
    if s.running && s.on F.CUR_ZCFG_AUTO && s.zeroCondition && s.cur.zeroing.isNone then
      .next ((s.advanceTo (t + 10000000)).startZero false)
    else .next s
  | none => .next s

/-- The average of a channel lies within ZMAX. -/
def State.zeroOk (s : State) (sum : Int) : Bool := decide (absInt sum ≤ s.get F.CUR_ZCFG_ZMAX * 100 * 1024)

/-- The outcome of a zeroing: a channel whose average lies within ZMAX takes it as its offset and leaves BAD, the other is named
there. -/
def State.zeroOutcome (s : State) (z : ZeroRun) : State :=
  let a := s.zeroOk z.sumA
  let b := s.zeroOk z.sumB
  let c := s.cur
  let s : State := { s with cur := { c with
    ofsA := if a then roundDiv z.sumA 1024 else c.ofsA, ofsB := if b then roundDiv z.sumB 1024 else c.ofsB
    bad := withBit (withBit c.bad 0 !a) 1 !b } }
  (s.applyIf (!a) fun s => s.flagEvent F.CUR_IFLAG_ZFAIL 2).applyIf (!b) fun s => s.flagEvent F.CUR_IFLAG_ZFAIL 2

/-- The present offsets are saved. -/
def State.saveOffsets (s : State) : State :=
  (s.saveValue F.CUR_OFSA_OFS.addr s.cur.ofsA).saveValue F.CUR_OFSB_OFS.addr s.cur.ofsB

/-- ZEROING_DONE: after 1,024 frames each channel's average becomes its offset, or names it BAD. A host-started one is stored by a
journaled write. -/
def execZeroingDone (s : State) : Outcome State Fault Refusal :=
  match s.cur.zeroing with
  | some z =>
    if 1024 ≤ z.frames then
      let t := s.zeroOutcome z
      let t := t.applyIf z.host fun t => t.saveOffsets.journalWrite [.saved s.saved]
      .next (({ t with cur := { t.cur with zeroing := none } }.setOn F.CUR_PSTAT_ZEROING false).flag F.CUR_IFLAG_ZDONE)
    else .next s
  | none => .next s

/-! ### Voltages (R205, R206) -/

/-- V_SUM in µV: every cell word of every fitted die (R206). -/
def State.sumCells (s : State) : Int :=
  (s.dieList.map fun k => (cellList.map fun i => cellV (s.cellWord k i)).sum).sum

/-- V_SUM is valid: every fitted die has published the frame and is healthy, and no in-use cell carries D or S. -/
def State.sumValid (s : State) (seq : Word) : Bool :=
  s.dieList.all fun k => s.healthy k && s.reg (addrOf (0x20 + k) 7) == seq &&
    cellList.all fun i => !s.inUse k i || (!s.carriesD k i && !s.carriesS k i)

/-- The sum check of one frame (R206). With EN at 0 no run of frames goes on. -/
def State.sumCheck (s : State) : State :=
  if !s.on F.STV_SUMCHK_EN then { s with cur := { s.cur with sumBad := 0, sumGood := 0 } }
  else
    let bad := decide ((s.get F.STV_SUMCHK_TOL * 100 : Int) < absInt (s.getInt F.STV_VSTR_MV - s.getInt F.STV_VSUM_MV))
    let valid := s.on F.STV_STAT_SUMVALID
    let s := { s with cur := { s.cur with
      sumBad := if valid && bad then s.cur.sumBad + 1 else 0
      sumGood := if valid && !bad then s.cur.sumGood + 1 else 0 } }
    if s.on F.STV_STAT_SUMERR then
      s.applyIf (decide (64 ≤ s.cur.sumGood)) fun s => (s.setOn F.STV_STAT_SUMERR false).flag F.STV_IFLAG_SUMCLR
    else s.applyIf (decide (8 ≤ s.cur.sumBad)) fun s =>
      (s.setOn F.STV_STAT_SUMERR true).flagEvent F.STV_IFLAG_SUMSET 1 [F.STV_STAT_SUMERR.addr]

/-- The precondition of a calibration command (R207). -/
def State.calReady (s : State) (cmd : Nat) : Bool :=
  if cmd = 1 then s.on F.STV_STAT_SUMVALID
  else (List.range 2).all (fun m => bit (s.get F.PRT_STAT_COIL) m && bit (s.get F.PRT_STAT_AUX) m) &&
    decide (absInt (s.getInt F.CUR_I_MA) ≤ 5000) && !s.on F.STV_STAT_S

/-- One frame of a calibration run. -/
def State.calFrame (s : State) (h : HeldM0) : State :=
  match s.cur.cal with
  | none => s
  | some c =>
    if c.failed || decide (256 ≤ c.frames) then s
    else if !s.calReady c.cmd then { s with cur := { s.cur with cal := some { c with failed := true } } }
    else { s with cur := { s.cur with cal := some { c with
        frames := c.frames + 1
        sumRef := c.sumRef + (if c.cmd = 1 then s.sumCells else s.getInt F.STV_VSTR_MV * 1000)
        sumRaw := c.sumRaw + (if c.cmd = 1 then h.str0 else h.lnk0) } } }

/-- A boundary without a frame of M0 breaks a calibration run whose frames are not complete. -/
def State.calMissed (s : State) : State :=
  { s with cur := { s.cur with cal := s.cur.cal.map fun c => { c with failed := c.failed || decide (c.frames < 256) } } }

/-- New divider gains, stored by a journaled write; they apply to the samples from the next boundary on (R207). -/
def State.storeGains (s : State) (gStr gLnk : Int) : State :=
  let t : State := { s with cur := { s.cur with gStr := gStr, gLnk := gLnk } }
  let t := (t.saveValue F.STV_GSTR_G.addr gStr).saveValue F.STV_GLNK_G.addr gLnk
  (t.journalWrite [.saved s.saved]).newImage.flag F.STV_IFLAG_CALDONE

/-- A write to STV_CAL (R207). -/
def State.writeCal (s : State) (v : Word) : State × Option Nat :=
  if v = 3 then (s.storeGains 0 0, none)
  else if v = 1 ∨ v = 2 then
    if s.calReady v.toNat then ({ s with cur := { s.cur with cal := some { cmd := v.toNat } } }, none) else (s, some 0x0A)
  else (s, some 0x0A)

/-- STV_CAL_DONE: a run of 256 frames ends with a gain within ±2 %, or a run fails (R207). -/
def execStvCalDone (s : State) : Outcome State Fault Refusal :=
  match s.cur.cal with
  | none => .next s
  | some c =>
    let t := { s with cur := { s.cur with cal := none } }
    if c.failed then .next (t.flag F.STV_IFLAG_CALFAIL)
    else if c.frames < 256 then .next s
    else if c.sumRaw = 0 then .next (t.flag F.STV_IFLAG_CALFAIL)
    else
      let g := roundRat (((c.sumRef : Rat) / (c.sumRaw : Rat) - 1) * 10000000)
      if absInt g ≤ 200000 then
        .next (if c.cmd = 1 then t.storeGains g t.cur.gLnk else t.storeGains t.cur.gStr g)
      else .next (t.flag F.STV_IFLAG_CALFAIL)

/-! ### Publication (R24, R197, R198, R206) -/

/-- Publish the CUR page for frame `seq`. -/
def State.publishCur (s : State) (seq : Word) (h : HeldM0) : State :=
  let s : State := { s with cur := { s.cur with prevIa := s.getInt F.CUR_IA_MA, adjacent := s.reg (addrOf 0x08 7) + 1 == seq } }
  let b := s.reportsB
  let s := ((s.setInt F.CUR_IA_MA h.ia).setInt F.CUR_IB_MA h.ib).setInt F.CUR_I_MA (if b then h.ib else h.ia)
  let s := ((s.set F.CUR_STAT_SEQ (seq.toNat % 16)).setOn F.CUR_STAT_SRC b).setOn F.CUR_STAT_OVR_A h.ovrA
  let s := ((s.setOn F.CUR_STAT_OVR_B h.ovrB).set F.CUR_STAT_BAD s.cur.bad).setOn F.CUR_STAT_SUSPECT s.cur.suspect
  let s := s.setOn F.CUR_STAT_S (s.cur.suspect || h.ovrA || h.ovrB)
  let s := (s.put F.CUR_OCSTAT_DIS.addr s.ocWord).setInt F.CUR_STAT_DIFF (clampInt (-32767) 32767 (roundDiv (h.ia - h.ib) 100))
  let q := codeOf 64 h.qacc
  let s := (s.set F.CUR_QACC_LO_Q (q % 2 ^ 32)).set F.CUR_QACC_HI_Q (q / 2 ^ 32)
  let s := (s.setInt F.CUR_OFSA_OFS h.ofsA).setInt F.CUR_OFSB_OFS h.ofsB
  (s.applyIf (h.ovrA || h.ovrB) fun s => s.flag F.CUR_IFLAG_OVR).publish 0x08 seq

/-- Publish the STV page for frame `seq`. -/
def State.publishStv (s : State) (seq : Word) (h : HeldM0) : State :=
  let s := ((s.setInt F.STV_VSTR_MV h.vstr).setInt F.STV_VLNK_MV h.vlnk).setInt F.STV_VSUM_MV (roundDiv s.sumCells 1000)
  let s := (s.setInt F.STV_GSTR_G h.gStr).setInt F.STV_GLNK_G h.gLnk
  let s := ((s.set F.STV_STAT_SEQ (seq.toNat % 16)).setOn F.STV_STAT_OVR_STR h.ovrStr).setOn F.STV_STAT_OVR_LNK h.ovrLnk
  let s := (s.setOn F.STV_STAT_SUMVALID (s.sumValid seq)).setOn F.STV_STAT_FLOAT (!bit (s.get F.PRT_STAT_AUX) 1)
  let s := s.sumCheck
  let err := s.on F.STV_SUMCHK_EN && s.on F.STV_STAT_SUMERR
  let valid := s.on F.STV_STAT_SUMVALID
  let s := (s.setOn F.STV_STAT_SUBST (err && valid)).setOn F.STV_STAT_S (h.ovrStr || (err && !valid))
  let s := s.applyIf (h.ovrStr || h.ovrLnk) fun s => s.flag F.STV_IFLAG_OVR
  (s.calFrame h).publish 0x09 seq

/-- V_STR as protection uses it: V_SUM while SUBST is set (R206), mV. -/
def State.protVstr (s : State) : Int := if s.on F.STV_STAT_SUBST then s.getInt F.STV_VSUM_MV else s.getInt F.STV_VSTR_MV

end Sys2Proof.Machine
end

