-- ==== Sys2Proof/Machine/Contactors.lean ====
section
/-! DEFINITION. Protection, contactors and disconnection (R245 to R264). -/
namespace Sys2Proof.Machine
open Host

/-! ### States -/

/-- Change what the protection chapter keeps. -/
def State.onProt (s : State) (f : ProtSt → ProtSt) : State := { s with prot := f s.prot }

/-- PRT_STAT.STATE (R248). -/
def State.prtState (s : State) : Nat := s.get F.PRT_STAT_STATE

/-- Set STATE with the bits that follow it. A change makes a limit frame due (R259). -/
def State.setPrtState (s : State) (v : Nat) : State :=
  let s := if s.prtState = v then s else s.onProt fun p => { p with frameDue := true }
  (((s.set F.PRT_STAT_STATE v).setOn F.PRT_STAT_LOCKOUT (v == 8)).setOn F.PRT_PSTAT_LOCKOUT (v == 8)).setOn
    F.PRT_PSTAT_CONNECTED (v == 5)

/-- The string is on the bus: CONNECTED, or WELDED by CD3 with CD0 and CD1 still energised (R254; log entry 78). -/
def State.onBus (s : State) : Bool := s.prtState == 5 || (s.prtState == 8 && s.coilOnNow 0 && s.coilOnNow 1)

/-- Device firmware is paused, or held with both cores: a closing sequence keeps its coils and goes on with the next evaluation of a
publication (R299). -/
def State.paused (s : State) : Bool := s.frozen || s.coresHeld

/-- Condition code `c` is active (R255). -/
def State.condOn (s : State) (c : Nat) : Bool := bit (s.get F.PRT_COND_COND) (c - 1)
def State.setCond (s : State) (c : Nat) (v : Bool) : State :=
  s.set F.PRT_COND_COND (withBit (s.get F.PRT_COND_COND) (c - 1) v)

/-- The codes in the priority order of R255. -/
def condOrder : List Nat := [0x01, 0x04, 0x07, 0x02, 0x08, 0x03, 0x09, 0x0C, 0x0A, 0x0B, 0x06, 0x0D, 0x05]

/-- The active codes in that order. -/
def State.activeConds (s : State) : List Nat := condOrder.filter s.condOn

/-- The current that counts as zero, mA (R256). -/
def State.izero (s : State) : Int := s.get F.PRT_FAST_IZERO * 100

/-! ### Targets (R256, R259) -/

/-- The smallest published limit of the exceeded windows of a direction, in A (R256). -/
def State.requestLimit (s : State) (exceeded : Nat) (f : Nat → Fld) : Nat :=
  (List.range 3).foldl (fun acc w => if bit exceeded w then min acc (s.get (f w) / 10) else acc) 65535

/-- The published discharge and charge limits by window. -/
def disField (w : Nat) : Fld := F.LIM_DIS2_A.at w
def chgField (w : Nat) : Fld := F.LIM_DIS2_A.at (3 + w)

/-- The targets: 0 unless CONNECTED; 0 on an orderly path; the request limit of an exceeded direction; else the 30 s limits;
the charge target is 0 while CD3 is asked to open (R262). -/
def State.targets (s : State) : Nat × Nat :=
  if s.prtState ≠ 5 ∨ 2 ≤ s.get F.PRT_STAT_PATH then (0, 0)
  else
    let request := s.get F.PRT_STAT_PATH == 1
    let dis := if request && s.get F.LIM_STAT_OVDIS != 0 then s.requestLimit (s.get F.LIM_STAT_OVDIS) disField
      else s.get (disField 2) / 10
    let chg := if request && s.get F.LIM_STAT_OVCHG != 0 then s.requestLimit (s.get F.LIM_STAT_OVCHG) chgField
      else s.get (chgField 2) / 10
    (dis, if s.prot.chargeOffAt.isSome then 0 else chg)

/-- Show the targets; a change makes a limit frame due. -/
def State.showTargets (s : State) : State :=
  let t := s.targets
  if s.get F.PRT_TARGET_DIS = t.1 ∧ s.get F.PRT_TARGET_CHG = t.2 then s
  else ((s.set F.PRT_TARGET_DIS t.1).set F.PRT_TARGET_CHG t.2).onProt fun p => { p with frameDue := true }

/-- The deadline whose `moment` is the earliest, in the priority order where two fall together. -/
def State.firstDeadline (s : State) (moment : Nat × Nat → Nat) : Option (Nat × Nat) :=
  condOrder.foldl (fun acc c =>
    match s.prot.deadlines.find? fun e => e.1 == c with
    | some e =>
      match acc with
      | some b => if moment e < moment b then some e else acc
      | none => some e
    | none => acc) none

/-- The deadline that runs: the earliest (R257). -/
def State.governing (s : State) : Option (Nat × Nat) := s.firstDeadline fun e => e.2

/-- Show the path and the governing condition. -/
def State.showPath (s : State) (path : Nat) : State :=
  let s := if s.get F.PRT_STAT_PATH = path then s else s.onProt fun p => { p with frameDue := true }
  let s := s.applyIf (decide (s.get F.PRT_STAT_PATH < path)) fun s => s.flag F.PRT_IFLAG_PATH
  (s.set F.PRT_STAT_PATH path).set F.PRT_PATH_COND (match s.governing with
    | some e => e.1
    | none => 0)

/-- ms left of the running deadline; 0xFFFF when none runs. -/
def State.deadlineLeft (s : State) : Nat :=
  match s.governing with
  | some e => min ((e.2 - s.now) / 1000) 0xFFFE
  | none => 0xFFFF

/-! ### Opening (R251 to R254, R258) -/

/-- A welded contact sets its bit, the flag, and raises an event (R254). -/
def State.noteWeld (s : State) (m : Nat) : State :=
  (s.set F.PRT_STAT_WELD (withBit (s.get F.PRT_STAT_WELD) m true)).flagEvent F.PRT_IFLAG_WELD 3 [F.PRT_STAT_WELD.addr]

/-- A DISCONNECT ends when the string is open (R264). -/
def State.endDisconnect (s : State) : State :=
  s.applyIf (s.prot.offAt.isEmpty && !s.onBus && (s.prtState == 0 || s.prtState == 7 || s.prtState == 8)) fun s => s.setCond 0x0D false

/-- Every contactor is open: STATE, PRT_LAST and OPENED (R252; log entries 77 and 79). An opening is unproven only where CD0 was not
found welded (R253). -/
def State.finishOpening (s : State) (o : Opening) : State :=
  let s := s.onProt fun p => { p with
    opening := none, deadlines := [], zeroSince := none, metSince := none, overSince := none, met := false
    chargeOffAt := none, chargeZeroSince := none }
  let s := ((s.setPrtState (if s.get F.PRT_STAT_WELD = 0 then 0 else 8)).endDisconnect).showPath 0
  let s := ((s.set F.PRT_LAST_COND o.cond).set F.PRT_LAST_PATH o.path).setOn F.PRT_LAST_UNDERLOAD o.underload
  let s := s.setOn F.PRT_LAST_UNPROVEN (o.unproven && !bit (s.get F.PRT_STAT_WELD) 0)
  ((s.set F.PRT_LAST_FRAME (s.frame.toNat % 65536)).flag F.PRT_IFLAG_OPENED).showTargets

/-- Whether the auxiliary contact of a contactor that was turned off is still awaited. -/
def State.awaiting (s : State) (m : Nat) : Bool := s.prot.offAt.any fun e => e.1 == m

/-- Take the next steps of an opening in order: a step waits for the previous contactor's auxiliary contact, and CD1 for the
hold of R253 where CD0 was closed. The number bounds the steps. -/
def State.openNext : Nat → State → State
  | 0, s => s
  | n + 1, s =>
    match s.prot.opening with
    | none => s
    | some o =>
      if (match o.waiting with
          | some m => s.awaiting m
          | none => false) then s
      else match o.todo with
        | [] => if s.prot.offAt.isEmpty then s.finishOpening o else s
        | m :: rest =>
          if m = 1 ∧ o.main = true ∧ o.holdAt = none ∧ s.coilOnNow 1 = true then
            s.onProt fun p => { p with opening := some { o with holdAt := some s.now } }
          else if m = 1 ∧ o.main = true ∧ o.holdAt ≠ none ∧ s.coilOnNow 1 = true then s
          else
            -- without a hold nothing has proven the opening of CD0 (R253 row 4)
            let unproven := o.unproven || (m == 1 && o.main && o.holdAt.isNone)
            State.openNext n ((s.coilRelease m).onProt fun p => { p with
              opening := some { o with todo := rest, waiting := some m, unproven := unproven } })

/-- Count and mark an opening under load. -/
def State.countUnderload (s : State) (b : Bool) : State := s.applyIf b fun s => s.countLife F.PRT_COUNT_UNDERLOAD

/-- Begin a sequenced opening (R252): the deadline stops. -/
def State.startOpening (s : State) (cond path : Nat) (underload : Bool) : State :=
  let s := (s.countUnderload underload).onProt fun p => { p with
    closing := none, deadlines := [], opening := some {
      todo := [3, 2, 0, 1], main := s.onBus || s.cdClosed 0, underload := underload, cond := cond, path := path } }
  (((s.setPrtState 6).set F.PRT_PATH_COND 0).showTargets).openNext 8

/-- A contact that does not open in time is welded (R247 row 5, R254): STATE becomes WELDED, by an opening or a trip in progress at its
end; with CD2 welded CD0 and CD1 open. A string that a weld of CD3 finds on the bus stays there (log entry 78). -/
def State.weldContact (s : State) (m : Nat) : State :=
  let s := s.noteWeld m
  if s.prot.opening.isSome || s.prot.closing.isSome || s.prtState == 7 then s
  else if s.onBus && m != 3 then s.startOpening 0 0 false
  else (s.setPrtState 8).showTargets

/-- All four high sides off together (R245, R258). -/
def State.allCoilsOff (s : State) : State := coilList.foldl (fun s m => s.coilRelease m) s

/-- The closing sequence has begun a pre-charge. -/
def State.preBegun (s : State) : Bool := s.prtState == 2 || s.prot.closing.any fun c => c.t0.isSome

/-- The outcome of a closing sequence that fails (R249, R251): PREFAIL; where a pre-charge had begun its deviation and the
cool-down; an event but for a match that did not come. -/
def State.preFailed (s : State) (out : Nat) : State :=
  let pre := s.preBegun
  let worst := (s.prot.closing.map (·.worst)).getD 0
  let s := (s.set F.PRT_PRESTAT_OUT out).applyIf pre fun s => s.set F.PRT_PRESTAT_DEV (min worst 255)
  let s := if out = 4 then s.flag F.PRT_IFLAG_PREFAIL else s.flagEvent F.PRT_IFLAG_PREFAIL 1 [F.PRT_PRESTAT_OUT.addr]
  let cool := s.get F.PRT_PRECHK_COOL
  s.applyIf (pre && cool != 0) fun s =>
    (s.onProt fun p => { p with coolUntil := some (s.now + cool * 1000000) }).setOn F.PRT_STAT_COOL true

/-- A closing sequence fails or is abandoned (R249, R251, R252): what has closed opens in the order of R252, with the hold where
CD0 had closed. PRT_LAST then records the governing condition, if there is one, and no path. -/
def State.failClosing (s : State) (out : Nat) : State :=
  let main := s.cdClosed 0 || s.prot.closing.any fun c => c.overlapAt.isSome
  let s := (s.preFailed out).setOn F.KRG_STAT_GRANTED false
  let s := s.onProt fun p => { p with
    closing := none
    opening := some { todo := [3, 2, 0, 1], main := main, cond := if out = 6 then (s.activeConds.head?).getD 0 else 0 } }
  ((s.setPrtState 6).showTargets).openNext 8

/-- CD1_HOLD_END: the checks of R253 rows 2 to 4, then CD1 is turned off (R252). -/
def execCd1HoldEnd (s : State) : Outcome State Fault Refusal :=
  match s.prot.opening with
  | some o =>
    match o.holdAt with
    | some t =>
      let s := s.advanceTo (t + s.get F.PRT_WELD_T * 10000)
      let s := if o.current then (s.noteWeld 0).applyIf (bit (s.get F.PRT_DRV_EN) 2) fun s => s.noteWeld 2 else s
      let s := (s.coilRelease 1).onProt fun p => { p with opening := some { o with
        todo := [], waiting := some 1, unproven := !o.current && !o.proven } }
      .next (s.openNext 8)
    | none => .next s
  | none => .next s

/-! ### Closing (R248 to R251) -/

/-- e^(-x) for x = n/d, in 10⁻¹². -/
def expNeg (n d : Nat) : Int :=
  let y : Int := ((n * 1000000000000 / (64 * d) : Nat) : Int)
  let go := fun (acc : Int × Int) (j : Nat) => (acc.1 + acc.2, -(acc.2 * y / 1000000000000) / ((j : Int) + 1))
  let e := ((List.range 14).foldl go (0, 1000000000000)).1
  if 64 * d * 4 < n then 0 else iterInt 6 e
where
  /-- Squaring. -/
  iterInt : Nat → Int → Int
    | 0, v => v
    | k + 1, v => iterInt k (v * v / 1000000000000)

/-- V_exp of R250 in mV, a time after t0 in µs; τ = R × C in 0.1 Ω × µF. -/
def preExpected (v0 vstr : Int) (t r c : Nat) : Int := v0 + (vstr - v0) * (1000000000000 - expNeg (10 * t) (r * c)) / 1000000000000

/-- The string joins the bus; CONNECTED, unless a contact of CD3 has been found welded meanwhile (R249, R254). -/
def State.nowConnected (s : State) : State :=
  let s := (s.onProt fun p => { p with closing := none }).setOn F.KRG_STAT_GRANTED false
  (((s.setPrtState (if s.get F.PRT_STAT_WELD = 0 then 5 else 8)).flag F.PRT_IFLAG_CONNECTED).countLife F.PRT_COUNT_CONNECTS).showTargets

/-- CD0 pull-in: STATE 4, with the outcome of the pre-charge or match (R249). -/
def State.closeMain (s : State) (out : Nat) : State := ((s.set F.PRT_PRESTAT_OUT out).setPrtState 4).coilEnergise 0

/-- Begin the closing sequence: CD1 pull-in, STATE 1 (R249). -/
def State.beginClosing (s : State) : State :=
  let s := s.onProt fun p => { p with closing := some {}, waitCommit := false, waitSince := none }
  (((s.setOn F.KRG_STAT_WAIT false).setOn F.KRG_STAT_GRANTED true).setPrtState 1).coilEnergise 1

/-- A wait ends without a grant (R270). -/
def State.endWait (s : State) : State :=
  if s.prot.waitSince.isSome then
    (((s.onProt fun p => { p with waitSince := none }).setOn F.KRG_STAT_WAIT false).setOn F.KRG_STAT_GRANTED false).flag
      F.KRG_IFLAG_NOGRANT
  else s

/-- A commit that concerns the closing of CD0 or CD1 is staged (R84, R85). -/
def State.closingDeferred (s : State) : Bool := s.staged 0x10 || s.staged 0x11 || s.staged 0x08

/-- The first sweep of a fitted die has not completed, or a die has a harness fault: CD0 and CD1 are not closed (R155). -/
def State.unswept (s : State) : Bool :=
  s.dieList.any fun k => !bit (s.get F.CMP_OWST_SWEPT) k || bit (s.get F.CMP_OWST_HARNESS) k

/-- A waiting CONNECT is granted (R270): the closing begins; while a commit defers it the module holds the grant, and the closing
begins where the commit has applied (R85). -/
def State.takeGrant (s : State) : State :=
  if s.prot.waitSince.isSome = false ∨ s.prtState ≠ 0 ∨ s.unswept = true then s
  else if s.closingDeferred then s.setOn F.KRG_STAT_GRANTED true
  else s.beginClosing

/-- The wait for a grant begins; with COORD at 0 the module grants itself at once, unless it holds its own connection (R270). -/
def State.beginWait (s : State) : State :=
  let s := (s.onProt fun p => { p with waitCommit := false, waitSince := some s.now }).setOn F.KRG_STAT_WAIT true
  if s.on F.KRG_CFG_COORD || s.ownHold then s else s.takeGrant

/-- CONNECT is refused by rows 1 to 7 of R248. -/
def State.connectRefused (s : State) : Bool :=
  s.prtState != 0 || !(s.pwr.phase == .run) || s.faultAsserted || s.on F.PWR_STAT_WARN ||
    s.unswept ||
    s.get F.PRT_STAT_FAULT % 8 != 0 || (s.activeConds.any fun c => c != 0x05 && c != 0x0D) ||
    s.get F.TMP_LATCH_LATCHED != 0 || s.on F.STV_STAT_S || s.prot.coolUntil.isSome

/-- The CONNECT command (R248, R270): a further one while one waits changes nothing. -/
def State.connect (s : State) : State × Option Nat :=
  if s.prtState = 0 ∧ (s.prot.waitCommit || s.prot.waitSince.isSome) = true then (s, none)
  else if s.connectRefused then (s, some 0x0A)
  else if s.closingDeferred then (s.onProt fun p => { p with waitCommit := true }, none)
  else (s.beginWait, none)

/-- No commit defers a closing any more (R85): a CONNECT that waited for it is decided again, and dropped where R248 refuses it by
now; one that holds its grant closes. -/
def State.endDeferral (s : State) : State :=
  if s.closingDeferred then s
  else
    let s := if s.prot.waitCommit then
        (if s.connectRefused then s.onProt fun p => { p with waitCommit := false } else s.beginWait)
      else s
    s.applyIf (s.on F.KRG_STAT_GRANTED) State.takeGrant

/-- One publication of a pre-charge (R250). -/
def State.preCheck (s : State) (c : Closing) (v0 : Int) (t0 : Nat) : State :=
  let t := s.thy.sampledAt - t0
  let vstr := s.protVstr
  let vlnk := s.getInt F.STV_VLNK_MV
  let dev := absInt (vlnk - preExpected v0 vstr t (s.get F.PRT_PRE_R) (s.get F.PRT_PRE_C))
  let worst := max c.worst (if 0 < vstr then ((dev * 1000 + vstr - 1) / vstr).toNat else 0)
  if vstr * 95 ≤ vlnk * 100 then
    let s := (s.set F.PRT_PRESTAT_T95 (min (t / 1000) 65535)).set F.PRT_PRESTAT_DEV (min c.worst 255)
    if t ≤ s.get F.PRT_PRECHK_TMAX * 1000 then s.closeMain 1 else s.failClosing 3
  else
    let s := s.onProt fun p => { p with closing := some { c with worst := worst } }
    if s.get F.PRT_PRECHK_BAND * vstr < dev * 100 then s.failClosing 2
    else if s.get F.PRT_PRECHK_TMAX * 1000 < t then s.failClosing 3 else s

/-- The bus matches the string (R249 row 2). -/
def State.busMatches (s : State) : Bool :=
  decide (absInt (s.protVstr - s.getInt F.STV_VLNK_MV) ≤ s.get F.PRT_BUS_DV * 1000)

/-- CD2 is off and its auxiliary contact open: the closing is complete; with CD2 welded CD0 and CD1 open again (R249, R254). -/
def State.endOverlap (s : State) : State :=
  if s.cdClosed 2 then (s.setOn F.KRG_STAT_GRANTED false).startOpening 0 0 false else s.nowConnected

/-- The end of the overlap: CD2 is turned off (R249). -/
def State.dropPre (s : State) : State :=
  let s := s.coilRelease 2
  if s.awaiting 2 then s else s.nowConnected

/-- Contactors of a closing whose auxiliary contact has not closed in time while device firmware was paused (R247 row 3, R299). -/
def State.lateContacts (s : State) : List Nat :=
  (s.prot.pullAt.filter fun e => s.auxWired e.1 && !s.cdClosed e.1 &&
    decide (e.2 + s.get F.PRT_AUXT_TCLOSE * 1000 ≤ s.now)).map (·.1)

/-- A publication during a closing sequence (R249, R250), which also goes on with what a pause of device firmware has held (R299). -/
def State.closingEval (s : State) : State :=
  let late := s.lateContacts
  if s.prot.closing.isSome && !late.isEmpty then (late.foldl (fun (s : State) m => s.contactorFault m true) s).failClosing 6
  else
  match s.prot.closing with
  | none => s
  | some c =>
    match s.prtState with
    | 1 =>
      match c.aux1At with
      | some t =>
        if s.thy.sampledAt ≤ t then s
        else
          let v0 := s.getInt F.STV_VLNK_MV
          let c := { c with v0 := some v0 }
          if v0 < s.get F.PRT_BUS_LIVE * 1000 then
            ((s.onProt fun p => { p with closing := some c }).setPrtState 2).coilEnergise 2
          else if s.busMatches then (s.onProt fun p => { p with closing := some c }).closeMain 5
          else
            let s := (s.onProt fun p => { p with closing := some { c with matchAt := some s.now } }).setPrtState 3
            if s.get F.PRT_BUS_TWAIT = 0 then s.failClosing 4 else s
      | none => s
    | 2 =>
      match c.v0, c.t0 with
      | some v0, some t0 => if s.thy.sampledAt ≤ t0 then s else s.preCheck c v0 t0
      | _, _ => s
    | 3 =>
      if s.busMatches then s.closeMain 5
      else if c.matchAt.any (fun t => decide (t + s.get F.PRT_BUS_TWAIT * 1000000 < s.now)) then s.failClosing 4 else s
    | 4 =>
      match c.overlapAt with
      | some t =>
        if s.coilOnNow 2 then (if t + 20000 ≤ s.now then s.dropPre else s)
        else if s.awaiting 2 then s else s.endOverlap
      | none => s
    | _ => s

/-! ### Paths and deadlines (R255 to R258) -/

/-- The deadline of a condition, µs (R255). -/
def State.condDeadline (s : State) (c : Nat) : Nat :=
  if c = 0x04 then 200000
  else if c = 0x07 ∨ c = 0x02 ∨ c = 0x08 then s.get F.PRT_FAST_TFAST * 1000
  else if c = 0x05 then s.get F.PRT_DEAD_TREQ * 1000
  else s.get F.PRT_DEAD_TORD * 1000

/-- The path the active conditions ask for. -/
def State.pathWanted (s : State) : Nat :=
  let a := s.activeConds
  if a.any fun c => c != 0x05 then 2 else if a.isEmpty then 0 else 1

/-- Deadlines of the active conditions: a new one starts its own, one that has cleared goes (R257). A met request has none. -/
def State.keepDeadlines (s : State) : State :=
  let active := s.activeConds
  s.onProt fun p =>
    let kept := p.deadlines.filter fun e => active.contains e.1
    let fresh := active.filter fun c => !(kept.any fun e => e.1 == c) && !(c == 0x05 && p.met)
    { p with deadlines := kept ++ fresh.map fun c => (c, s.now + s.condDeadline c) }

/-- Begin or go on with a path of a connected string (R256, R257): it never moves down while a condition is left. -/
def State.pathEval (s : State) : State :=
  if s.onBus = false then s
  else
    let s := s.keepDeadlines
    let want := s.pathWanted
    let path := if want = 0 then 0 else max want (s.get F.PRT_STAT_PATH)
    let s := if path < 2 then s.onProt fun p => { p with zeroSince := none } else s
    let s := if path = 0 then s.onProt fun p => { p with
      metSince := none, overSince := none, met := false, chargeOffAt := p.chargeOffAt } else s
    let s := if 2 ≤ path ∧ s.coilOnNow 3 = true ∧ s.prot.chargeOffAt = none then
      s.onProt fun p => { p with chargeOffAt := some s.now } else s
    (s.showPath path).showTargets

/-- Current of an exceeded direction is within its target (R256). -/
def State.requestMet (s : State) : Bool :=
  let i := s.getInt F.CUR_I_MA
  (s.get F.LIM_STAT_OVDIS == 0 || decide (i ≤ s.get F.PRT_TARGET_DIS * 1000)) &&
    (s.get F.LIM_STAT_OVCHG == 0 || decide (-i ≤ s.get F.PRT_TARGET_CHG * 1000))

/-- A moment of a list of publications: kept, or this publication. -/
def since (old : Option Nat) (now : Nat) (holds : Bool) : Option Nat :=
  if holds then some (old.getD now) else none

/-- A condition has held in every publication of 20 ms. -/
def heldFor (t : Option Nat) (now : Nat) : Bool :=
  match t with
  | some t => decide (t + 20000 ≤ now)
  | none => false

/-- A condition has held in the publications of more than 20 ms. -/
def heldPast (t : Option Nat) (now : Nat) : Bool :=
  match t with
  | some t => decide (t + 20000 < now)
  | none => false

/-- The request of code 0x05 is met, or exceeded again for more than 20 ms (R256). -/
def State.requestEval (s : State) : State :=
  if s.get F.PRT_STAT_PATH ≠ 1 then s
  else
    let ok := s.requestMet
    let t := s.thy.boundary
    let s := s.onProt fun p => { p with metSince := since p.metSince t ok, overSince := since p.overSince t (!ok) }
    if heldFor s.prot.metSince t then
      s.onProt fun p => { p with met := true, deadlines := p.deadlines.filter fun e => e.1 != 0x05 }
    else if s.prot.met && heldPast s.prot.overSince t then
      s.onProt fun p => { p with met := false, deadlines := (0x05, s.now + s.condDeadline 0x05) :: p.deadlines }
    else s

/-- The condition an opening records: the governing one, else the first active. -/
def State.openingCond (s : State) : Nat :=
  match s.governing with
  | some e => e.1
  | none => (s.activeConds.head?).getD 0

/-- An orderly path opens once the current is proven zero over 20 ms (R256); not with both channels bad. -/
def State.orderlyEval (s : State) : State :=
  if s.get F.PRT_STAT_PATH ≠ 2 ∨ s.onBus = false then s
  else
    let zero := decide (absInt (s.getInt F.CUR_I_MA) ≤ s.izero) && s.get F.CUR_STAT_BAD != 3
    let t := s.thy.boundary
    let s := s.onProt fun p => { p with zeroSince := since p.zeroSince t zero }
    if heldFor s.prot.zeroSince t then s.startOpening s.openingCond 2 false else s

/-- CD3 opens once the charge current is at or below IZERO for 20 ms (R262 row 4). -/
def State.chargeEval (s : State) : State :=
  if s.prot.chargeOffAt = none then s
  else if !s.coilOnNow 3 then s.onProt fun p => { p with chargeOffAt := none, chargeZeroSince := none }
  else
    let zero := decide (-(s.getInt F.CUR_I_MA) ≤ s.izero)
    let s := s.onProt fun p => { p with chargeZeroSince := since p.chargeZeroSince s.thy.boundary zero }
    if heldFor s.prot.chargeZeroSince s.thy.boundary then
      ((s.coilRelease 3).onProt fun p => { p with chargeOffAt := none, chargeZeroSince := none }).safetyEval
    else s

/-- The checks of R253 rows 2 and 3 in a publication of the CD1 hold. -/
def State.holdEval (s : State) : State :=
  match s.prot.opening with
  | some o =>
    match o.holdAt with
    | some t =>
      let late := decide (t + s.get F.PRT_WELD_T * 10000 ≤ s.thy.boundary + 20000)
      let amps := decide (s.get F.PRT_WELD_I * 1000 < absInt (s.getInt F.CUR_I_MA)) && !s.cdClosed 0 && !s.cdClosed 2
      let apart := decide (s.get F.PRT_WELD_DV * 1000 < absInt (s.getInt F.STV_VLNK_MV - s.protVstr))
      s.onProt fun p => { p with opening := some { o with current := o.current || (late && amps), proven := o.proven || apart } }
    | none => s
  | none => s

/-! ### Conditions of a publication (R255) -/

/-- A clean in-use cell outside the firmware limits; the limits of R164 replace them for a substituted one. -/
def State.cellBeyond (s : State) (k i : Nat) : Bool :=
  s.clean k i && !s.substituted k i && (decide (s.get F.PRT_VCELL_OV * 1000 < cellV (s.cellWord k i)) ||
    decide (cellV (s.cellWord k i) < s.get F.PRT_VCELL_UV * 1000))

/-- Cells by their number die * 64 + cell. -/
def State.allCells (s : State) : List Nat := s.dieList.flatMap fun k => cellList.map fun i => k * 64 + i

/-- Keep for each cell the moment since when something holds. -/
def sinceCells (cells : List Nat) (now : Nat) (old : List (Nat × Nat)) : List (Nat × Nat) :=
  cells.map fun c => match old.find? fun e => e.1 == c with
    | some e => e
    | none => (c, now)

/-- Follow the cells for codes 0x02, 0x03 and 0x0A. -/
def State.followCells (s : State) : State :=
  let beyond := s.allCells.filter fun c => s.cellBeyond (c / 64) (c % 64)
  let hot := s.allCells.filter fun c =>
    s.inUse (c / 64) (c % 64) && decide ((s.get F.PRT_TCELL_TMAX * 100 : Int) < s.cellTemp (c / 64) (c % 64))
  let degr := s.allCells.filter fun c => s.inUse (c / 64) (c % 64) && s.carriesD (c / 64) (c % 64)
  s.onProt fun p => { p with
    cellBad := beyond.map fun c => (c, countOf p.cellBad c + 1)
    hotSince := sinceCells hot s.thy.boundary p.hotSince
    degrSince := sinceCells degr s.thy.boundary p.degrSince }

/-- TCONF and TD in µs. -/
def State.tconf (s : State) : Nat := s.get F.PRT_TCELL_TCONF * 1000000
def State.tdegr (s : State) : Nat := s.get F.PRT_TIMES_TD * 3600000000

/-- A die is lost by the stack link; one powered down by a thermal stop does not count (R407). -/
def State.dieLost (s : State) : Bool := s.stk.lost.any fun k => !(s.tmp.downAt.any fun e => e.1 == k)

/-- Form the conditions. Codes with a time of their own are raised by their own events and end here when their cause has gone;
0x0D and 0x0C end by their own commands, 0x0C also where the fault bit stays (R264). -/
def State.formConds (s : State) (groupBreach : Bool) : State :=
  let n := s.get F.PRT_TIMES_VCONF
  let s := s.setCond 0x01 s.faultAsserted
  let s := s.setCond 0x02 (groupBreach || s.prot.cellBad.any fun e => decide (n ≤ e.2))
  let s := s.setCond 0x03 (s.condOn 0x03 && s.prot.hotSince.any fun e => decide (e.2 + s.tconf ≤ s.now))
  let s := s.setCond 0x04 (s.get F.TMP_LATCH_LATCHED != 0)
  let s := s.setCond 0x05 (s.get F.LIM_STAT_OVDIS != 0 || s.get F.LIM_STAT_OVCHG != 0)
  let s := s.setCond 0x06 (s.condOn 0x06 && s.cur.suspectSince.isSome)
  let s := s.setCond 0x07 (s.get F.CUR_STAT_BAD == 3)
  let s := s.setCond 0x08 s.dieLost
  let s := s.setCond 0x09 (s.get F.CMP_OWST_HARNESS != 0)
  let s := s.setCond 0x0A (s.condOn 0x0A && s.prot.degrSince.any fun e => decide (e.2 + s.tdegr ≤ s.now))
  let s := s.setCond 0x0B (s.condOn 0x0B && s.get F.FLT_MODE_MODE != 0)
  (s.setCond 0x0C (s.condOn 0x0C || s.prot.newFault)).onProt fun p => { p with newFault := false }

/-- A condition arises: a wait for a grant ends and a closing sequence is abandoned (R251, R270); a connected string takes its
path. -/
def State.condArises (s : State) (before : Nat) : State :=
  let now := s.get F.PRT_COND_COND
  let fresh := (List.range 13).any fun b => bit now b && !bit before b
  let s := s.applyIf (fresh && s.prot.waitSince.isSome) State.endWait
  let s := s.applyIf (fresh && s.prot.closing.isSome && !s.faultAsserted) fun s => s.failClosing 6
  s.pathEval

/-- Raise one condition by its event. -/
def State.raiseCond (s : State) (c : Nat) : State :=
  let before := s.get F.PRT_COND_COND
  (s.setCond c true).condArises before

/-- The contactor part of the evaluation of a publication (R255). -/
def State.protEval (s : State) (groupBreach : Bool) : State :=
  let before := s.get F.PRT_COND_COND
  let s := (s.followCells.formConds groupBreach).condArises before
  (((s.closingEval.holdEval).requestEval).pathEval.orderlyEval).chargeEval

/-! ### The fault line's effect (R245, R256, R260) -/

/-- After a trip every contactor reads open: a DISCONNECT ends (R264), and where the string was on the bus it has left it. -/
def State.allOpen (s : State) : State :=
  if s.prtState = 7 ∧ s.prot.offAt.isEmpty = true then
    (s.applyIf s.prot.tripped fun s => (s.onProt fun p => { p with tripped := false }).flag F.PRT_IFLAG_OPENED).endDisconnect
  else s

/-- The fault line asserts: low sides open, high sides off, STATE TRIPPED, PRT_LAST with code 0x01 on path 3. A closing
sequence is abandoned with outcome 6; an opening under load stays marked so (R258, R408). -/
def State.prtTrip (s : State) : State :=
  let under := s.prot.opening.any fun o => o.underload
  let was := s.onBus || s.prot.tripped || s.prot.opening.any fun o => o.main
  let s := s.endWait
  let s := (s.applyIf s.prot.closing.isSome fun s => s.preFailed 6).setCond 0x01 true
  let s := s.allCoilsOff.showLowSides false
  let s := s.onProt fun p => { p with
    closing := none, opening := none, deadlines := [], zeroSince := none, metSince := none, overSince := none, met := false
    chargeOffAt := none, chargeZeroSince := none, waitCommit := false, tripped := was }
  let s := ((s.set F.PRT_LAST_COND 1).set F.PRT_LAST_PATH 3).set F.PRT_LAST_FRAME (s.frame.toNat % 65536)
  let s := (s.setOn F.PRT_LAST_UNDERLOAD under).setOn F.PRT_LAST_UNPROVEN false
  (((s.setOn F.KRG_STAT_GRANTED false).setPrtState 7).showPath 3).showTargets.allOpen

/-- The outstanding checks after a trip are complete: the frame of the disconnection, and once the fault line is released
STATE OPEN or WELDED (R260). -/
def State.tripDone (s : State) : State :=
  if s.prtState = 7 ∧ s.prot.offAt.isEmpty = true then
    if s.faultAsserted then s.allOpen
    else (((s.allOpen).setPrtState (if s.get F.PRT_STAT_WELD = 0 then 0 else 8)).endDisconnect.showPath 0).showTargets
  else s

/-- The fault line is released: low sides close; no coil is energised (R245). -/
def State.prtRelease (s : State) : State := ((s.setCond 0x01 false).showLowSides true).tripDone

/-! ### Contactor events -/

/-- What follows once the auxiliary contact of a contactor that was turned off reads open, or its TOPEN has passed. -/
def State.afterOpen (s : State) (m : Nat) : State :=
  let s := s.onProt fun p => { p with offAt := p.offAt.filter fun e => e.1 != m }
  let s := s.applyIf (s.prtState == 7) fun s => s.set F.PRT_LAST_FRAME (s.frame.toNat % 65536)
  if s.prot.opening.isSome then s.openNext 8
  else if s.prtState = 7 then s.tripDone
  else if s.prtState = 4 ∧ m = 2 ∧ (s.prot.closing.any fun c => c.overlapAt.isSome) = true ∧ s.paused = false then s.endOverlap
  else s

/-- What follows once a contactor reads closed during a closing sequence (R249, R250). Where CD2 reads closed with its coil off when CD0
closes, its contact has TOPEN from there to open (R249 step 3; log entry 118). -/
def State.afterClose (s : State) (m : Nat) : State :=
  match s.prot.closing with
  | none => s
  | some c =>
    if m = 1 ∧ s.prtState = 1 then s.onProt fun p => { p with closing := some { c with aux1At := some s.now } }
    else if m = 2 ∧ s.prtState = 2 then s.onProt fun p => { p with closing := some { c with t0 := some s.now } }
    else if m = 0 ∧ s.prtState = 4 then
      let held := s.onProt fun p => { p with closing := some { c with overlapAt := some s.now } }
      if s.coilOnNow 2 then held
      else if s.cdClosed 2 then held.onProt fun p => { p with offAt := (2, s.now) :: p.offAt.filter fun e => e.1 != 2 }
      else if s.paused then held
      else s.nowConnected
    else s

/-- A contactor that was turned off reads closed within its TOPEN: its contact is awaited again (R247 row 5). -/
def State.closedAgain (s : State) (m : Nat) : State :=
  match s.prot.watchAt.find? fun e => e.1 == m with
  | some e => s.onProt fun p => { p with offAt := e :: p.offAt, watchAt := p.watchAt.filter fun e => e.1 != m }
  | none => s

/-- The contact of a contactor that was turned off reads open; it stays watched until its TOPEN has passed. -/
def State.openedInTime (s : State) (m : Nat) : State :=
  s.onProt fun p => { p with watchAt := (p.offAt.filter fun e => e.1 == m) ++ p.watchAt.filter fun e => e.1 != m }

/-- AUX_CHANGE: the auxiliary contact of CD`m` changes state. -/
def execAuxChange (m : Nat) (closed : Bool) (s : State) : Outcome State Fault Refusal :=
  if 4 ≤ m ∨ s.auxWired m = false ∨ s.cdClosed m = closed then .next s
  else
    let s := (s.set F.PRT_STAT_AUX (withBit (s.get F.PRT_STAT_AUX) m closed)).setOn (F.PRT_COIL_AUX.at m) closed
    let s := s.applyIf (m == 3) fun s => (s.setOn F.PRT_PSTAT_CHARGING closed).flag F.PRT_IFLAG_CHG
    let s :=
      if closed then (s.closedAgain m).afterClose m
      else if s.coilOnNow m then
        let s := s.contactorFault m (m == 3)
        if s.prot.closing.isSome && !s.paused then s.failClosing 6 else s
      else (s.openedInTime m).afterOpen m
    .next s.safetyEval

/-- AUX_CLOSE_TIMEOUT: not closed TCLOSE after pull-in began (R247 row 3). Where the auxiliary contact is not wired the row is
skipped, and the sequence goes on as if it had closed. While device firmware is paused a closing sequence holds (R299). -/
def execAuxCloseTimeout (m : Nat) (s : State) : Outcome State Fault Refusal :=
  match s.prot.pullAt.find? fun e => e.1 == m with
  | none => .next s
  | some e =>
    if s.cdClosed m || (s.paused && s.prot.closing.isSome) then .next s
    else
      let s := s.advanceTo (e.2 + s.get F.PRT_AUXT_TCLOSE * 1000)
      if !s.auxWired m then .next (s.afterClose m)
      else
        let s := s.contactorFault m true
        .next ((s.applyIf s.prot.closing.isSome fun s => s.failClosing 6).safetyEval)

/-- AUX_OPEN_TIMEOUT: not open TOPEN after turn-off: welded (R247 row 5, R253 row 1). A contact that is not wired counts as
open from then on. -/
def execAuxOpenTimeout (m : Nat) (s : State) : Outcome State Fault Refusal :=
  match s.prot.offAt.find? fun e => e.1 == m with
  | some e =>
    let s := s.advanceTo (e.2 + s.get F.PRT_AUXT_TOPEN * 1000)
    .next (((s.applyIf (s.auxWired m && s.cdClosed m) fun s => s.weldContact m).afterOpen m).safetyEval)
  | none => match s.prot.watchAt.find? fun e => e.1 == m with
    | some e => .next ((s.advanceTo (e.2 + s.get F.PRT_AUXT_TOPEN * 1000)).onProt fun p => { p with
        watchAt := p.watchAt.filter fun e => e.1 != m })
    | none => .next s

/-- PULL_IN_END: the economiser takes over (R246). -/
def execPullInEnd (m : Nat) (s : State) : Outcome State Fault Refusal :=
  match s.prot.pullAt.find? fun e => e.1 == m with
  | none => .next s
  | some e =>
    if s.prot.hold.contains m then .next s
    else .next ((s.advanceTo (e.2 + s.get F.PRT_ECON_PULL * 1000)).onProt fun p => { p with hold := m :: p.hold })

/-- A contactor fault that turns its high side off; a closing sequence is abandoned, and CD3 only ends charging (R262 row 3). -/
def State.faultOff (s : State) (m : Nat) : State :=
  let s := s.contactorFault m true
  (s.applyIf (s.prot.closing.isSome && m != 3) fun s => s.failClosing 6).safetyEval

/-- COIL_OVERCURRENT: a high side above 5.0 A for 10 µs (R247 row 1). -/
def execCoilOvercurrent (m : Nat) (s : State) : Outcome State Fault Refusal :=
  if m < 4 ∧ s.coilOnNow m = true then .next (s.faultOff m) else .next s

/-- COIL_CURRENT_FAULT: hold current outside its window for 100 ms (R247 row 2). -/
def execCoilCurrentFault (m : Nat) (s : State) : Outcome State Fault Refusal :=
  if m < 4 ∧ s.prot.hold.contains m = true then .next (s.faultOff m) else .next s

/-- PRECHARGE_TIMEOUT: 95 % not reached by TMAX (R250, R251). -/
def execPrechargeTimeout (s : State) : Outcome State Fault Refusal :=
  match s.prot.closing with
  | some c =>
    match c.t0 with
    | some t0 => if s.prtState = 2 ∧ s.paused = false then .next ((s.advanceTo (t0 + s.get F.PRT_PRECHK_TMAX * 1000)).failClosing 3) else .next s
    | none => .next s
  | none => .next s

/-- PRECHARGE_OVERLAP_END: 20 ms after AUX0 closed, CD2 is turned off (R249). -/
def execPrechargeOverlapEnd (s : State) : Outcome State Fault Refusal :=
  match s.prot.closing with
  | some c =>
    match c.overlapAt with
    | some t =>
      if s.prtState = 4 ∧ s.coilOnNow 2 = true ∧ s.paused = false then .next (s.advanceTo (t + 20000)).dropPre else .next s
    | none => .next s
  | none => .next s

/-- MATCH_TIMEOUT: no match within TWAIT (R249). -/
def execMatchTimeout (s : State) : Outcome State Fault Refusal :=
  match s.prot.closing with
  | some c =>
    match c.matchAt with
    | some t => if s.prtState = 3 ∧ s.paused = false then .next ((s.advanceTo (t + s.get F.PRT_BUS_TWAIT * 1000000)).failClosing 4) else .next s
    | none => .next s
  | none => .next s

/-- PRECHARGE_COOL_END. -/
def execPrechargeCoolEnd (s : State) : Outcome State Fault Refusal :=
  match s.prot.coolUntil with
  | some t => .next (((s.advanceTo t).onProt fun p => { p with coolUntil := none }).setOn F.PRT_STAT_COOL false)
  | none => .next s

/-- BAD_CHANNELS_OPEN: for code 0x07 the sequenced opening starts when the deadline passes (R256). -/
def execBadChannelsOpen (s : State) : Outcome State Fault Refusal :=
  match s.governing with
  | some e =>
    if e.1 = 0x07 ∧ s.onBus = true then .next ((s.advanceTo e.2).startOpening 0x07 2 true) else .next s
  | none => .next s

/-- SUSPECT_TIME_EXPIRY: current suspect for TSUSP (code 0x06). -/
def execSuspectTimeExpiry (s : State) : Outcome State Fault Refusal :=
  match s.cur.suspectSince with
  | some t =>
    if s.running then .next ((s.advanceTo (t + s.get F.PRT_TIMES_TSUSP * 1000000)).raiseCond 0x06) else .next s
  | none => .next s

/-- DEGRADED_CELL_EXPIRY: an in-use cell has carried D for TD (code 0x0A). -/
def execDegradedCellExpiry (k i : Nat) (s : State) : Outcome State Fault Refusal :=
  match s.prot.degrSince.find? fun e => e.1 == k * 64 + i with
  | some e => if i < 64 then .next ((s.advanceTo (e.2 + s.tdegr)).raiseCond 0x0A) else .next s
  | none => .next s

/-- CELL_TEMP_EXPIRY: an in-use cell has been above TMAX for TCONF (code 0x03). -/
def execCellTempExpiry (k i : Nat) (s : State) : Outcome State Fault Refusal :=
  match s.prot.hotSince.find? fun e => e.1 == k * 64 + i with
  | some e => if i < 64 then .next ((s.advanceTo (e.2 + s.tconf)).raiseCond 0x03) else .next s
  | none => .next s

/-- CHARGE_OFF_TIMEOUT: 200 ms after the charge target fell to 0 the high side of CD3 turns off (R262 row 4). -/
def execChargeOffTimeout (s : State) : Outcome State Fault Refusal :=
  match s.prot.chargeOffAt with
  | some t =>
    .next ((((s.advanceTo (t + 200000)).coilRelease 3).onProt fun p => { p with
      chargeOffAt := none, chargeZeroSince := none }).safetyEval)
  | none => .next s

/-- SHORE_DET_CHANGE: the level after its filter; deassertion opens CD3 (R262 row 2). -/
def execShoreDetChange (level : Bool) (s : State) : Outcome State Fault Refusal :=
  let s := { s with pins := { s.pins with shoreDet := level } }
  if s.running then
    let s := s.applyIf s.hasM State.showRoles
    .next ((s.applyIf (!level) fun s => s.coilRelease 3).safetyEval)
  else .next s

/-! ### Charge contactor and commands (R261 to R264) -/

/-- "Receptacle mated and locked": of motion, or of the safety channel without M (R29, R261). -/
def State.receptacleMated (s : State) : Bool := if s.hasM then s.on F.MOT_STAT_MATED else s.rxBit 1

/-- The conditions of R261. -/
def State.chargeOk (s : State) : Bool :=
  s.prtState == 5 && s.get F.PRT_STAT_PATH == 0 && s.receptacleMated && s.on F.SAF_STAT_CHGIL && s.bayRunning && !s.coilFault 3

/-- A write to PRT_CMD (R248, R261, R264). -/
def State.writePrtCmd (s : State) (v : Word) : State × Option Nat :=
  match v.toNat with
  | 1 => s.connect
  | 2 =>
    if s.prtState = 0 then (s, some 0x0A)
    else ((s.raiseCond 0x0D).endDisconnect, none)
  | 3 => if s.chargeOk then ((s.coilEnergise 3).safetyEval, none) else (s, some 0x0A)
  | 4 =>
    if s.coilOnNow 3 then
      ((s.onProt fun p => { p with chargeOffAt := some (p.chargeOffAt.getD s.now) }).showTargets, none)
    else (s, none)
  | 5 =>
    let s := s.set F.PRT_STAT_FAULT (bitMap 4 fun m => s.coilFault m && s.coilOnNow m)
    ((s.setCond 0x0C false).onProt fun p => { p with newFault := false }, none)
  | _ => (s, some 0x0A)

/-- A write to PRT_WELDCLR (R254). With the string still on the bus STATE returns to CONNECTED (log entry 78). -/
def State.writeWeldclr (s : State) (v : Word) : State × Option Nat :=
  if v ≠ 0x0000C01D ∨ (coilList.any fun m => s.cdClosed m && !s.coilOnNow m) = true then (s, some 0x0A)
  else
    let s := s.set F.PRT_STAT_WELD 0
    (if s.prtState = 8 then (if s.onBus then (s.setPrtState 5).showTargets else (s.setPrtState 0).endDisconnect) else s, none)

/-! ### The limit frame (R259) -/

/-- The deadline byte of a limit frame: 10 ms per LSB, 0xFF for none or 2.54 s and more. -/
def deadlineByte (ms : Nat) : Nat := if 2540 ≤ ms then 0xFF else ms / 10

/-- The bytes of the limit frame. -/
def State.limitFrame (s : State) : List Nat :=
  [s.prot.frameSeq % 256, s.get F.PRT_STAT_PATH * 64 + s.prtState, s.get F.PRT_PATH_COND, deadlineByte s.deadlineLeft] ++
    bytesBE 2 (s.get F.PRT_TARGET_DIS) ++ bytesBE 2 (s.get F.PRT_TARGET_CHG)

/-- Whether the requests of a CAN port arrive as FD (R113). -/
def State.portFd (s : State) (port : Nat) : Bool := (s.link (if port = 0 then .can0 else .can1)).fd

/-- LIMIT_FRAME: at once when a change made one due, else PERIOD after the last. -/
def execLimitFrame (s : State) : Outcome State Fault Refusal :=
  if s.coresRun && s.on F.PRT_CAN_EN then
    let s := if s.prot.frameDue then s else s.advanceTo (s.prot.frameAt + s.get F.PRT_CANPER_PERIOD * 1000)
    let port := s.get F.PRT_CAN_PORT
    .next ((s.sendCan port (s.get F.PRT_CAN_ID) (s.portFd port) s.limitFrame).onProt fun p => { p with frameSeq := (p.frameSeq + 1) % 256, frameAt := s.now, frameDue := false })
  else .next s

/-- The frame's view of the contactors: coil currents, CHGOK (R246, R261); losing a condition of CD3 opens it (R262 row 2). -/
def State.prtFrame (s : State) (coils : List Nat) : State :=
  let s := coilList.foldl (fun s m => s.set (F.PRT_COIL_MA.at m) (min (entryNat coils m) 65535)) s
  let s := s.setOn F.PRT_STAT_CHGOK s.chargeOk
  if s.coilOnNow 3 && (!s.receptacleMated || !s.on F.SAF_STAT_CHGIL || !s.bayRunning) then s.coilRelease 3 else s

end Sys2Proof.Machine
end

