-- ==== Sys2Proof/Machine/Sage.lean ====
section
/-! DEFINITION. Sage: open-circuit tables, charge counting, rest points, reconciliation, usable SOC, capacity learning and
throughput (R208 to R226). Charges are in µC, SOC in percent, capacities in Ah, all exact. -/
namespace Sys2Proof.Machine
open Host

/-- Change what Sage keeps. -/
def State.onSage (s : State) (f : SageSt → SageSt) : State := { s with sage := f s.sage }

/-- What Sage keeps for the cell `key` = die × 64 + local cell. -/
def State.cellSage (s : State) (key : Nat) : CellSage :=
  match (s.sage.cells.find? fun e => e.1 == key) with
  | some e => e.2
  | none => { cap := s.sage.capDflt }

/-- The list with the entry of a cell replaced, keys ascending. -/
def putCell (key : Nat) (c : CellSage) : List (Nat × CellSage) → List (Nat × CellSage)
  | [] => [(key, c)]
  | (k, d) :: l => if key < k then (key, c) :: (k, d) :: l else if key = k then (key, c) :: l else (k, d) :: putCell key c l

/-- Replace what Sage keeps for a cell. -/
def State.setCell (s : State) (key : Nat) (c : CellSage) : State := s.onSage fun g => { g with cells := putCell key c g.cells }

/-- Put a number into a field; above the field's greatest value the manual states no result (free value). -/
def State.fit (s : State) (f : Fld) (v : Nat) : State :=
  s.set f (if v < 2 ^ (f.hi + 1 - f.lo) then v else (Config.outOfFormat f.addr v).toNat)

/-- The nominal capacity in µC. -/
def State.capNom (s : State) : Nat := s.get F.SGE_CAPNOM_CAP * 36000000

/-- A write-back falls due; under PWR_WARN, or within 1 s after it, it waits (R227). -/
def State.writebackDue (s : State) : State :=
  let wait := s.on F.PWR_STAT_WARN || s.pwr.writebackAfter.any fun t => decide (s.now < t)
  (s.applyIf wait fun s => s.setOn F.SGE_WBSTAT_DEFER true).onSage fun g => { g with wbDue := true }

/-! ### Open-circuit tables (R210, R212) -/

/-- The table of die `k`: 4 column temperatures and 4 columns of 64 points, or the empty list. -/
def State.ocvTable (s : State) (k : Nat) : List Int := (s.sage.tables[s.get F.SGE_CHEMMAP_MAP / 4 ^ k % 4]?).getD []

/-- The lower of the two neighbouring columns at a temperature in 0.01 °C and the weight of the upper one. -/
def columnOf (tbl : List Int) (t : Int) : Nat × Rat :=
  let c := fun i => entry tbl i * 10
  if t ≤ c 0 then (0, 0)
  else if c 3 ≤ t then (3, 0)
  else
    let i := if t < c 1 then 0 else if t < c 2 then 1 else 2
    (i, ((t - c i : Int) : Rat) / ((c (i + 1) - c i : Int) : Rat))

/-- The 64 points at a temperature, 0.1 mV. -/
def ocvPoints (tbl : List Int) (t : Int) : List Rat :=
  let col := columnOf tbl t
  (List.range 64).map fun p =>
    let a : Rat := entry tbl (4 + 64 * col.1 + p)
    if col.2 = 0 then a else a + ((entry tbl (4 + 64 * (col.1 + 1) + p) : Rat) - a) * col.2

/-- Point `p` of a column. -/
def pointAt (pts : List Rat) (p : Nat) : Rat := (pts[p]?).getD 0

/-- SOC_OCV of a voltage in 0.1 mV, percent: located between the two points that bracket it. -/
def socOf (pts : List Rat) (v : Rat) : Rat :=
  if v < pointAt pts 0 then 0
  else match ((List.range 63).find? fun p => decide (v ≤ pointAt pts (p + 1))) with
    | some p => ((p : Rat) + (v - pointAt pts p) / (pointAt pts (p + 1) - pointAt pts p)) * 100 / 63
    | none => 100

/-- The segment that holds an SOC in percent: its lower point, 0 to 62. -/
def segmentOf (r : Rat) : Nat := min 62 (r * 63 / 100).floor.toNat

/-- The table voltage at an SOC, 0.1 mV. -/
def ocvAt (pts : List Rat) (r : Rat) : Rat :=
  let p := segmentOf r
  pointAt pts p + (pointAt pts (p + 1) - pointAt pts p) * (r * 63 / 100 - p)

/-! ### The impedance table (R232, R233) -/

/-- The lower node and the weight of the upper one on the temperature grid −20, −5, …, 55 °C, T in 0.01 °C. -/
def tempNode (t : Int) : Nat × Rat :=
  if t ≤ -2000 then (0, 0)
  else if 5500 ≤ t then (5, 0)
  else
    let i := ((t + 2000) / 1500).toNat
    (i, ((t + 2000 - 1500 * (i : Int) : Int) : Rat) / 1500)

/-- The SOC grid in percent, and the lower node with the weight of the upper one. -/
def socGrid : List Nat := [0, 10, 25, 40, 55, 70, 85, 100]
def socNode (r : Rat) : Nat × Rat :=
  if r ≤ 0 then (0, 0)
  else if 100 ≤ r then (7, 0)
  else
    let i := ((List.range 7).find? fun j => decide (r < entryNat socGrid (j + 1))).getD 6
    let lo := entryNat socGrid i
    (i, (r - lo) / ((entryNat socGrid (i + 1) - lo : Nat) : Rat))

/-- The nodes around (T, r) with a non-zero weight, by TI × 8 + SI, and their weights, which sum to 1. -/
def nodesAround (t : Int) (r : Rat) : List (Nat × Rat) :=
  let a := tempNode t
  let b := socNode r
  let all : List (Nat × Rat) := [(a.1 * 8 + b.1, (1 - a.2) * (1 - b.2)), (a.1 * 8 + b.1 + 1, (1 - a.2) * b.2),
    (a.1 * 8 + 8 + b.1, a.2 * (1 - b.2)), (a.1 * 8 + 8 + b.1 + 1, a.2 * b.2)]
  all.filter fun e => decide (e.2 ≠ 0)

/-- A node of a cell: as learned, else the default of its column. -/
def State.zNode (s : State) (c : CellSage) (node : Nat) : ZNode :=
  match (c.nodes.find? fun e => e.1 == node) with
  | some e => e.2
  | none => ⟨s.get (F.LIM_ZDEF_ZF.at (node / 8)), s.get (F.LIM_ZDEF_ZD.at (node / 8)), 0⟩

/-- Z_f and Z_d at (T, r), µΩ, and whether the point is default-based. -/
def State.zAt (s : State) (c : CellSage) (t : Int) (r : Rat) : Rat × Rat × Bool :=
  let ns := (nodesAround t r).map fun (e : Nat × Rat) => (s.zNode c e.1, e.2)
  ((ns.map fun e => (e.1.zf : Rat) * e.2).sum, (ns.map fun e => (e.1.zd : Rat) * e.2).sum, ns.all fun e => e.1.count == 0)

/-- The sum of the 10 ms and 1 s resistances, µΩ. -/
def State.zSum (s : State) (c : CellSage) (t : Int) (r : Rat) : Rat := (s.zAt c t r).1 + (s.zAt c t r).2.1

/-! ### Inputs of a Sage frame -/

/-- Word, temperature, balancing current in mA, balancing charge and closed time of a cell in a Sage frame. -/
def SageInput.word (x : SageInput) (key : Nat) : Word := ((x.words[key / 64]?).getD [])[key % 64]?.getD 0
def SageInput.temp (x : SageInput) (key : Nat) : Int := entry ((x.temps[key / 64]?).getD []) (key % 64)
def SageInput.bleed (x : SageInput) (key : Nat) : Rat := (entry ((x.iBal[key / 64]?).getD []) (key % 64) : Rat) / 10
def SageInput.balQ (x : SageInput) (key : Nat) : Nat := entryNat ((x.bal[key / 64]?).getD []) (key % 64)
def SageInput.closedFor (x : SageInput) (key : Nat) : Nat := entryNat ((x.onTime[key / 64]?).getD []) (key % 64)

/-- The die of the cell was healthy. -/
def SageInput.dieOk (x : SageInput) (key : Nat) : Bool := bit x.healthy (key / 64)

/-- The cell carries D or S, or its die was not healthy: its voltage is not to be relied on. -/
def SageInput.unsound (x : SageInput) (key : Nat) : Bool := !x.dieOk key || cellD (x.word key) || cellS (x.word key)

/-- Some frame since the step `m` computed last had no charge count (R214). -/
def SageInput.gapSince (x : SageInput) (m : Option SageInput) : Bool :=
  !x.m0 || x.gapAt.any fun t => match m with
    | some y => decide (y.time < t)
    | none => true

/-- A quiet word with neither C, D nor S. -/
def SageInput.pure (x : SageInput) (key : Nat) : Bool := !x.unsound key && cellQ (x.word key) && !cellC (x.word key)

/-- The cells of the fitted dies, and those in use, by die × 64 + local cell. -/
def State.cellKeys (s : State) : List Nat := List.range (64 * s.dies)
def State.usedKeys (s : State) : List Nat := s.cellKeys.filter fun key => s.inUse (key / 64) (key % 64)

/-! ### Rest (R215) -/

/-- The string is at rest in a Sage frame. -/
def State.stringAtRest (s : State) (x : SageInput) : Bool :=
  (decide (absInt x.curI * 100 < s.get F.SGE_REST_IREST * s.get F.SGE_CAPNOM_CAP) && !x.suspect) || x.cd1Open

/-! ### Capacity learning (R223 to R225) -/

/-- What a rest point does to a cell's learning. -/
inductive Learned where
  | nothing | not | rejected | learned
deriving DecidableEq, Repr

/-- The error bound of an interval, µC (R224): charges and times in µC and µs. -/
def State.chargeError (s : State) (a : Anchor) (b : Anchor) : Rat :=
  ((b.absQ - a.absQ : Nat) : Rat) * 5 / 10000 + (30 : Rat) / s.get F.CUR_SHUNT_R * ((b.time - a.time : Nat) : Rat) +
    ((b.bal - a.bal : Nat) : Rat) / 50 + ((b.onTime - a.onTime : Nat) : Rat) / 1000

/-- The decision of R223 at rest point `b` of a cell, with the disagreement above WARN or not. -/
def State.learnCell (s : State) (c : CellSage) (b : Anchor) (wide : Bool) (suspectAt : Option Nat) : CellSage × Learned :=
  match c.anchor with
  | none => ({ c with anchor := some b }, .nothing)
  | some a =>
    let moved := { c with anchor := some b }
    let dq : Rat := ((b.qacc - a.qacc : Int) : Rat) + ((b.bal : Rat) - a.bal)
    let q := if dq < 0 then -dq else dq
    let soc := if b.soc < a.soc then a.soc - b.soc else b.soc - a.soc
    let err := s.chargeError a b
    if suspectAt.any fun t => decide (a.time < t) then (moved, .not)
    else if wide && !c.l then (moved, .not)
    else if 168 * 3600 * 1000000 < b.time - a.time then (moved, .not)
    else if q * s.get F.SGE_LRN_MAXERR ≤ err * 1000 then (moved, .not)
    else if soc < s.get F.SGE_LRN_MINDSOC then (c, .nothing)
    else
      let meas := q / 36000000 / soc
      let nom : Rat := (s.get F.SGE_CAPNOM_CAP : Rat) / 100
      if meas * 2 < nom ∨ nom * 6 / 5 < meas then (moved, .rejected)
      else
        let w : Rat := if c.l then 1 else (s.get F.SGE_LRN_WEIGHT : Rat) / 128
        ({ moved with cap := c.cap + w * (meas - c.cap), l := false, lrn := min 15 (c.lrn + 1), err := (roundRat (err / q * 10000)).toNat },
          .learned)

/-! ### One cell in one Sage frame (R213, R216 to R219, R221) -/

/-- What a Sage frame makes of a cell. -/
structure CellOut where
  key : Nat
  cell : CellSage
  /-- the cell carries S; a rest point; what it learned -/
  noSoc : Bool
  rest : Bool := false
  learned : Learned := .nothing
  /-- disagreement, percent; target of the zero point -/
  dis : Rat := 0
  target : Rat := 0
deriving DecidableEq, Repr

/-- A number held between 0 and 100 percent. -/
def percent (r : Rat) : Rat := if r < 0 then 0 else if 100 < r then 100 else r

/-- The compensated voltage and the tolerance, µV (R217), with Z taken at SOC `r`. -/
def State.compensated (s : State) (x : SageInput) (key : Nat) (c : CellSage) (r : Rat) : Rat × Rat :=
  let i : Rat := (x.curI : Rat) + x.bleed key
  let z := s.zSum c (x.temp key) r
  let drop := i * z / 1000
  ((cellV (x.word key) : Rat) + drop,
    (s.get F.SGE_RECON_VTOL : Rat) * 100 + (s.get F.SGE_RECON_VLOAD : Rat) * 1000 +
      (s.get F.SGE_RECON_ZTOL : Rat) / 100 * (if drop < 0 then -drop else drop))

/-- The target of the zero point (R221) under load current `il` in mA. -/
def State.zeroTarget (s : State) (c : CellSage) (pts : List Rat) (t : Int) (il : Rat) : Rat :=
  let under := fun (p : Nat) => pointAt pts p * 100 - il * s.zSum c t ((100 * p : Nat) / 63 : Rat) / 1000
  let shut : Rat := (s.get F.SGE_VSHUT_MV : Rat) * 1000
  match ((List.range 64).find? fun p => decide (shut ≤ under p)) with
  | none => 100
  | some 0 => 0
  | some (p + 1) => ((p : Rat) + (shut - under p) / (under (p + 1) - under p)) * 100 / 63

/-- The zero point moves towards its target by at most 0.5 % per minute, for a step of so many µs. -/
def zeroMove (z target : Rat) (span : Nat) : Rat :=
  let d : Rat := (span : Rat) / 120000000
  if target < z - d then z - d else if z + d < target then z + d else target

/-- Bound an SOC to a band. -/
def bounded (lo hi r : Rat) : Rat := if r < lo then lo else if hi < r then hi else r

/-- The distance from an SOC to the nearest edge of a band. -/
def distance (lo hi r : Rat) : Rat := if r < lo then lo - r else if hi < r then r - hi else 0

/-- The cell `key` in the Sage frame `x` after `m` (R218), with the rest timer at `timer`. -/
def State.sageCell (s : State) (m : Option SageInput) (x : SageInput) (timer : Nat) (il : Rat) (key : Nat) : CellOut :=
  let c := s.cellSage key
  let tbl := s.ocvTable (key / 64)
  if s.inUse (key / 64) (key % 64) = false ∨ tbl = [] then
    ⟨key, { c with has := false, r := 0, u := 0, e := false, w := false, anchor := none, restDone := 0 }, true, false, .nothing, 0, 0⟩
  else
    let t := x.temp key
    let pts := ocvPoints tbl t
    let target := s.zeroTarget c pts t il
    let gap := x.gapSince m
    let c := { c with
      z := zeroMove c.z target (s.sageStep * s.period), anchor := if gap then none else c.anchor, e := c.e || (gap && c.has) }
    let ocv := socOf pts ((cellV (x.word key) : Rat) / 100)
    let trest := s.get F.SGE_REST_TREST * 1000000
    let rest := x.m0 && x.pure key && decide (c.restDone / trest < timer / trest)
    let done := if timer = 0 then 0 else if rest then timer else c.restDone
    if c.has = false ∧ rest = false then
      if x.pure key then ⟨key, { c with has := true, r := ocv, u := ocv, e := true, restDone := done }, false, false, .nothing, 0, target⟩
      else ⟨key, { c with restDone := done }, true, false, .nothing, 0, target⟩
    else
      let moved : Rat := match m with
        | some y => if x.m0 then (((x.qacc - y.qacc : Int) : Rat) + ((x.balQ key : Rat) - y.balQ key)) / c.cap / 36000000 else 0
        | none => 0
      let u := c.u - moved
      let r := percent (c.r - moved)
      let warn : Rat := (s.get F.SGE_RECON_WARN : Rat) / 10
      if rest then
        let dis := if c.has then (if u < ocv then ocv - u else u - ocv) else 0
        let wide := decide (warn < dis)
        let b : Anchor := ⟨x.time, ocv, x.qacc, x.balQ key, s.sage.absQ, x.closedFor key⟩
        let l := if s.on F.SGE_LRN_EN then s.learnCell c b wide x.suspectAt else (c, Learned.nothing)
        ⟨key, { l.1 with has := true, r := ocv, u := ocv, e := false, w := wide, restDone := done }, false, true, l.2, dis, target⟩
      else
        let cv := s.compensated x key c r
        let lo := socOf pts ((cv.1 - cv.2) / 100)
        let hi := socOf pts ((cv.1 + cv.2) / 100)
        let dis := distance lo hi u
        ⟨key, { c with
          u := u, r := if x.unsound key then r else bounded lo hi r, e := c.e || x.unsound key, w := c.w || decide (warn < dis)
          restDone := done }, false, false, .nothing, dis, target⟩

/-! ### Publication of SGE and SGC (R222, R226) -/

/-- The entry with the least value, the lowest key where several are equal. -/
def leastBy (f : CellOut → Rat) : List CellOut → Option CellOut
  | [] => none
  | x :: l => match leastBy f l with
    | some y => if f y < f x then some y else some x
    | none => some x

/-- Charges a cell can still give and take, Ah. -/
def CellOut.qDis (o : CellOut) : Rat := (if o.cell.r < o.cell.z then 0 else o.cell.r - o.cell.z) * o.cell.cap / 100
def CellOut.qChg (o : CellOut) : Rat := (100 - o.cell.r) * o.cell.cap / 100

/-- Round to units of 1/100. -/
def hundredths (q : Rat) : Nat := (roundRat (q * 100)).toNat

/-- The two words of a cell on SGC. -/
def sgcWords (seq : Nat) (o : CellOut) (t : Int) (used : Bool) : Word × Word :=
  let c := o.cell
  (BitVec.ofNat 32 (seq % 16 * 268435456 + ofBool (c.w && used) * 134217728 + ofBool (c.e && used) * 67108864 +
      ofBool (c.l && used) * 33554432 + ofBool o.noSoc * 16777216 +
      codeOf 8 (clampInt (-55) 127 (roundDiv t 100)) * 65536 + min 65535 (hundredths c.r)),
    BitVec.ofNat 32 ((if hundredths c.cap < 65536 then hundredths c.cap else (Config.outOfFormat (addrOf 0x0D 0xA0) (hundredths c.cap)).toNat % 65536)
      * 65536 + c.lrn * 4096 + min 4095 c.err))

/-- The banks of SGC from what Sage made of the cells, in the form of a sparse register file by die × 256 + word. -/
def State.sgcBanks (s : State) (seq : Nat) (outs : List CellOut) (temp : Nat → Int) : Regs :=
  let put := fun (acc : Regs) (o : CellOut) =>
    let w := sgcWords seq o (temp o.key) (s.inUse (o.key / 64) (o.key % 64))
    let base := o.key / 64 * 256 + o.key % 64
    storeReg (resetAt (addrOf 0x0D 0xA0)) (base + 0xA0) w.2 (storeReg (resetAt (addrOf 0x0D 0x60)) (base + 0x60) w.1 acc)
  outs.foldl put []

/-- Show throughput and cycles. -/
def State.showThroughput (s : State) : State :=
  let c := fun (q : Nat) => (roundRat ((q : Rat) / 360000000)).toNat
  ((s.fit F.SGE_CYCLES_EFC (hundredths s.sage.efc)).fit F.SGE_AHDIS_AH (c s.sage.ahDis)).fit F.SGE_AHCHG_AH (c s.sage.ahChg)

/-- A field for which no cell qualifies. -/
def State.setNoCell (s : State) (f : Fld) : State := s.set f (Config.overNoCell (f.addr * 32 + f.lo)).toNat

/-- Show the usable SOC and its cells (R222): over the in-use cells that have an SOC. -/
def State.showSoc (s : State) (outs : List CellOut) : State :=
  match leastBy CellOut.qDis outs, leastBy CellOut.qChg outs with
  | some d, some h =>
    let sum := d.qDis + h.qChg
    let s := s.fit F.SGE_SOC_SOC (if sum = 0 then 0 else hundredths (d.qDis / sum * 100))
    let lo := outs.foldl (fun (m : Rat) o => if o.cell.r < m then o.cell.r else m) 100
    let hi := outs.foldl (fun (m : Rat) o => if m < o.cell.r then o.cell.r else m) 0
    let s := (s.set F.SGE_SOCRAW_MAX (hundredths hi)).set F.SGE_SOCRAW_MIN (hundredths lo)
    let s := (s.set F.SGE_ZERO_TARGET (hundredths d.target)).set F.SGE_ZERO_APPLIED (hundredths d.cell.z)
    let s := (s.set F.SGE_LIMCELL_DIS d.key).set F.SGE_LIMCELL_CHG h.key
    (s.fit F.SGE_QREM_QCHG (hundredths h.qChg)).fit F.SGE_QREM_QDIS (hundredths d.qDis)
  | _, _ => [F.SGE_SOC_SOC, F.SGE_SOCRAW_MAX, F.SGE_SOCRAW_MIN, F.SGE_ZERO_TARGET, F.SGE_ZERO_APPLIED, F.SGE_LIMCELL_DIS,
      F.SGE_LIMCELL_CHG, F.SGE_QREM_QCHG, F.SGE_QREM_QDIS].foldl State.setNoCell s

/-- Show the capacity of the string and the largest disagreement. -/
def State.showCapacity (s : State) (used : List CellOut) : State :=
  let s := s.set F.SGE_CAP_UNLRN (used.filter fun o => o.cell.l).length
  let s := match leastBy (fun o => o.cell.cap) used with
    | some o => s.fit F.SGE_CAP_CAP (hundredths o.cell.cap)
    | none => s.setNoCell F.SGE_CAP_CAP
  match leastBy (fun o => -o.dis) (used.filter fun o => !o.noSoc) with
  | some o => (s.set F.SGE_DIS_CELL o.key).fit F.SGE_DIS_DIS (hundredths o.dis)
  | none => (s.setNoCell F.SGE_DIS_CELL).setNoCell F.SGE_DIS_DIS

/-- The charge that passed since the last step computed: throughput, cycles and the sum of R224 (R213, R226). -/
def State.countThroughput (s : State) (m : Option SageInput) (x : SageInput) : State :=
  match m with
  | none => s
  | some y =>
    let d := x.qacc - y.qacc
    s.onSage fun g => { g with
      absQ := g.absQ + d.natAbs, ahDis := g.ahDis + d.toNat, ahChg := g.ahChg + (-d).toNat
      efc := g.efc + (d.toNat : Rat) / s.capNom }

/-- The mean of CUR_I over the 10 s before a sample, mA; a negative mean counts as 0 (R221). -/
def State.loadCurrent (s : State) (time : Nat) : Rat :=
  let l := s.sage.iHist.filter fun e => decide (e.1 ≤ time) && decide (time < e.1 + 10000000)
  let sum : Int := (l.map fun e => e.2.1).sum
  if l = [] ∨ sum < 0 then 0 else (sum : Rat) / l.length

/-- The events of a rest point, one for each cell rejected (R216, R223, R225). -/
def State.restEvents (s : State) (outs : List CellOut) : State :=
  let n := fun (p : Learned → Bool) => (outs.filter fun o => p o.learned).length
  let rejected := n fun l => l == .rejected
  let s := ((s.flag F.SGE_IFLAG_REST).count F.SGE_RESTT_POINTS).set F.SGE_LRNLAST_LEARNED (n fun l => l == .learned)
  let s := s.set F.SGE_LRNLAST_NOTLRN (rejected + n fun l => l == .not)
  let s := s.applyIf (n (fun l => l == .learned) != 0) fun s => s.flag F.SGE_IFLAG_LEARN
  (List.range rejected).foldl (fun (s : State) _ => s.flagEvent F.SGE_IFLAG_LRNREJ 1 [F.SGE_LRNLAST_NOTLRN.addr]) s

/-- SOC and capacity in the Sage frame `x` (R208 to R226): the cells, the pages SGE and SGC. -/
def State.sageSoc (s : State) (x : SageInput) : State :=
  let m := s.sage.prev
  let s := s.countThroughput m x
  let rest := s.stringAtRest x
  let timer := if rest then s.sage.timer + s.sageStep * s.period else 0
  let il := s.loadCurrent x.time
  let outs := s.cellKeys.map (s.sageCell m x timer il)
  let anyW := s.sage.cells.any fun e => e.2.w
  let s := s.onSage fun g => { g with timer := timer, cells := outs.map fun o => (o.key, o.cell) }
  let used := outs.filter fun o => s.inUse (o.key / 64) (o.key % 64)
  let point := outs.any fun o => o.rest
  let s := s.applyIf point fun s => s.restEvents outs
  let s := s.applyIf (!anyW && outs.any fun o => o.cell.w) fun s => s.flag F.SGE_IFLAG_WARN
  let s := (s.showSoc (used.filter fun o => !o.noSoc)).showCapacity used
  let s := (s.set F.SGE_SOC_SEQ (x.seq % 16)).setOn F.SGE_SOC_W (outs.any fun o => o.cell.w)
  let s := (s.setOn F.SGE_SOC_E (used.any fun o => o.cell.e)).setOn F.SGE_SOC_REST point
  let s := s.setOn F.SGE_SOC_S (used.all fun o => o.noSoc)
  let s := (s.showThroughput.set F.SGE_RESTT_TIMER (min 65535 (timer / 1000000))).setOn F.SGE_PSTAT_REST rest
  let s := s.onSage fun g => { g with banks := s.sgcBanks x.seq outs x.temp }
  (s.publish 0x0C (BitVec.ofNat 32 x.seq)).publish 0x0D (BitVec.ofNat 32 x.seq)

end Sys2Proof.Machine
end

