-- ==== Sys2Proof/Machine/SageLimits.lean ====
section
/-! DEFINITION. Sage: learning of impedances from current steps, current limits, exceeded windows, early warnings, and the Sage
step as a whole (R208, R232 to R244). -/
namespace Sys2Proof.Machine
open Host

/-! ### Learning from current steps (R234 to R236) -/

/-- A step occurs between the Sage frames `a` and `x`, which follow each other. -/
def State.stepFound (s : State) (a x : SageInput) : Bool :=
  x.seq == (a.seq + s.sageStep) % 4294967296 && a.steady &&
    decide ((s.get F.LIM_ZSTEP_MINDI : Int) * 1000 ≤ absInt (x.curI - a.curI))

/-- `CUR_I` stayed within IBAND of its value after the step in every frame up to a time, and was never suspect. -/
def State.stepHeld (s : State) (z : ZStep) (time : Nat) : Bool :=
  s.sage.iHist.all fun e => decide (e.1 < z.start) || decide (time < e.1) ||
    (!e.2.2 && decide (absInt (e.2.1 - z.iNew) ≤ (s.get F.LIM_ZSTEP_IBAND : Int) * 100))

/-- The resistance of a cell at a held point `x`, µΩ (R235): (ΔOCV − ΔV) / ΔI. -/
def State.pointZ (s : State) (z : ZStep) (x : SageInput) (key : Nat) (ra rx : Rat) : Rat :=
  let pts := ocvPoints (s.ocvTable (key / 64)) (z.a.temp key)
  let num : Rat := (ocvAt pts rx - ocvAt pts ra) * 100 - (cellV (x.word key) - cellV (z.a.word key))
  let di := x.curI - z.a.curI
  if di = 0 then (Config.resistanceWithoutStep (roundRat num) : Rat) else num * 1000 / di

/-- A cell gives a value at the point (R236 row 1). -/
def State.pointUsable (s : State) (z : ZStep) (x : SageInput) (key : Nat) : Bool :=
  s.inUse (key / 64) (key % 64) && s.ocvTable (key / 64) != [] && (s.cellSage key).has && !z.a.unsound key && !x.unsound key

/-- Nearest µΩ, held between 1 and 65,534 (R232, R236). -/
def nodeValue (q : Rat) : Nat := max 1 (min 65534 (roundRat q).toNat)

/-- Move the nodes around (T, r) by an accepted value: of Z_d where `diff`, else of Z_f. -/
def State.moveNodes (s : State) (c : CellSage) (t : Int) (r : Rat) (diff : Bool) (meas interp : Rat) : CellSage :=
  let gain : Rat := (s.get F.LIM_ZSTEP_GAIN : Rat) / 256
  (nodesAround t r).foldl (fun (c : CellSage) (e : Nat × Rat) =>
    let n := s.zNode c e.1
    let d := gain * e.2 * (meas - interp)
    let n' : ZNode := {
      zf := if diff then n.zf else nodeValue (n.zf + d)
      zd := if diff then nodeValue (n.zd + d) else n.zd
      count := if 1 ≤ e.2 * 4 then min 15 (n.count + 1) else n.count }
    { c with nodes := (e.1, n') :: c.nodes.filter fun m => m.1 != e.1 }) c

/-- Decide a measured value of a cell (R236 rows 2 and 3): the state, and whether it was accepted. -/
def State.decideZ (s : State) (key : Nat) (t : Int) (r : Rat) (diff : Bool) (meas : Rat) : State × Bool :=
  let c := s.cellSage key
  let z := s.zAt c t r
  let interp := if diff then z.2.1 else z.1
  if meas ≤ 0 ∨ meas * 4 < interp ∨ interp * 4 < meas then
    let n := c.rejects + 1
    let s := (s.setCell key { c with rejects := n }).count F.LIM_ZSTAT_REJECT
    (s.applyIf (n == 8) fun s => s.flagEvent F.LIM_IFLAG_ZREJ 1 [F.LIM_ZSTAT_REJECT.addr], false)
  else
    ((s.setCell key { s.moveNodes c t r diff meas interp with rejects := 0 }).count F.LIM_ZSTAT_ACCEPT, true)

/-- Sparse nodes in ascending order, so that equal tables are equal data. -/
def sortNodes (l : List (Nat × ZNode)) : List (Nat × ZNode) :=
  (List.range 48).flatMap fun n => l.filter fun e => e.1 == n

/-- Give the measured resistances of a point to the cells: at the 10 ms point Z_f, at the 1 s point Z_d (R235). -/
def State.takePoint (s : State) (z : ZStep) (x : SageInput) (late : Bool) : State × List (Nat × Rat) :=
  z.rs.foldl (fun (acc : State × List (Nat × Rat)) (e : Nat × Rat) =>
    let s := acc.1
    if s.pointUsable z x e.1 then
      let total := s.pointZ z x e.1 e.2 (s.cellSage e.1).r
      let t := z.a.temp e.1
      let zf := match (z.zf.find? fun f => f.1 == e.1) with
        | some f => f.2
        | none => (s.zAt (s.cellSage e.1) t e.2).1
      let d := s.decideZ e.1 t e.2 late (if late then total - zf else total)
      let c := d.1.cellSage e.1
      (d.1.setCell e.1 { c with nodes := sortNodes c.nodes }, if d.2 && !late then (e.1, total) :: acc.2 else acc.2)
    else acc) (s, [])

/-- Drop the step being measured. -/
def State.endStep (s : State) : State := s.onSage fun g => { g with zstep := none }

/-- `x` is the first Sage frame sampled at least `wait` µs after the step; a later one finds its point missed. -/
def State.pointDue (s : State) (z : ZStep) (x : SageInput) (wait : Nat) : Bool :=
  decide (z.a.time + wait ≤ x.time) && decide (x.time < z.a.time + wait + s.sageStep * s.period)

/-- Impedance learning in the Sage frame `x`, with the SOC of the cells in the frame before (R234). -/
def State.sageStepSearch (s : State) (x : SageInput) (before : List (Nat × Rat)) : State :=
  match s.sage.zstep with
  | some z =>
    if s.pointDue z x 10000 then
      if s.stepHeld z x.time && decide (s.filterSpan ≤ 1000) then
        let p := s.takePoint z x false
        p.1.onSage fun g => { g with zstep := some { z with ten := true, zf := p.2 } }
      else s.onSage fun g => { g with zstep := some { z with ten := true } }
    else if s.pointDue z x 1000000 then
      if z.ten && s.stepHeld z x.time then (s.takePoint z x true).1.endStep else s.endStep
    else if (z.a.time + 10000 ≤ x.time && !z.ten) || z.a.time + 1000000 ≤ x.time then s.endStep
    else s
  | none =>
    match s.sage.prev with
    | some a =>
      if s.stepFound a x then
        s.onSage fun g => { g with zstep := some { a := a, rs := before, iNew := x.curI, start := x.time } }
      else s
    | none => s

/-- A committed change of LIM_ZDEF: the nodes with count 0 take the new defaults (R232). -/
def State.rewriteDefaults (s : State) : State :=
  s.onSage fun g => { g with cells := g.cells.map fun e =>
    (e.1, { e.2 with nodes := e.2.nodes.filter fun n => n.2.count != 0 }) }

/-! ### Current limits (R237 to R240) -/

/-- The two derating factors at a temperature in 0.01 °C, 1/128 (R238): discharge if `dis`, else charge. -/
def State.derate (s : State) (dis : Bool) (t : Int) : Rat :=
  let temp := fun (i : Nat) => s.getInt (F.LIM_DERATE_TEMP.at i) * 100
  let val := fun (i : Nat) => ((s.get ((if dis then F.LIM_DERATE_DIS else F.LIM_DERATE_CHG).at i) : Nat) : Rat)
  if t ≤ temp 0 then val 0
  else match ((List.range 7).find? fun i => decide (t ≤ temp (i + 1))) with
    | some i => val i + (val (i + 1) - val i) * ((t - temp i : Int) : Rat) / ((temp (i + 1) - temp i : Int) : Rat)
    | none => val 7

/-- The authentication slot of a cell marks it unqualified (R281). -/
def State.unqualified (s : State) (key : Nat) : Bool :=
  (List.range 8).any fun q =>
    let slot := key / 64 * 8 + q
    s.aut.unq.contains slot && s.on (F.AUT_MAP_EN.at slot) && decide (s.get (F.AUT_MAP_FIRST.at slot) ≤ key % 64) &&
      decide (key % 64 ≤ s.get (F.AUT_MAP_LAST.at slot))

/-- What a cell allows: its six limits in A, reduced, with its reduction factor in percent. -/
structure CellLimit where
  key : Nat
  limits : List Rat
  factor : Nat
  unq : Bool
  zdef : Bool
  empty : Bool
deriving DecidableEq, Repr

/-- The window lengths, s. -/
def windows : List Nat := [2, 10, 30]

/-- The factor G of a window, 1/64. -/
def State.windowGain (s : State) (i : Nat) : Nat := entryNat [s.get F.LIM_ZWIN_G2, s.get F.LIM_ZWIN_G10, s.get F.LIM_ZWIN_G30] i

/-- The reduction factor of a cell (R239), percent. -/
def State.reduction (s : State) (x : SageInput) (key : Nat) (noSoc unq : Bool) : Nat :=
  let deg := if x.unsound key || noSoc then s.get F.LIM_RED_DEG else 100
  let uq := if unq then s.get F.LIM_RED_UNQ else 100
  let su := if x.suspect || !x.m0 then s.get F.LIM_RED_SUSP else 100
  min 100 (min deg (min uq su))

/-- The limits of a cell in use (R237 to R239). -/
def State.cellLimit (s : State) (x : SageInput) (key : Nat) : CellLimit :=
  let tbl := s.ocvTable (key / 64)
  let unq := s.unqualified key
  if tbl = [] then ⟨key, [0, 0, 0, 0, 0, 0], 0, unq, false, true⟩
  else
    let c := s.cellSage key
    let t := x.temp key
    let pts := ocvPoints tbl t
    let useV := !c.has
    let r0 := if useV then socOf pts ((cellV (x.word key) : Rat) / 100) else c.r
    let vc := (s.compensated x key c r0).1
    let r := if useV then socOf pts (vc / 100) else c.r
    let ocv := if useV then vc else ocvAt pts r * 100
    let p := segmentOf r
    let sigma := (pointAt pts (p + 1) - pointAt pts p) * 6300
    let z := s.zAt c t r
    let mul : Rat := if z.2.2 then (s.get F.LIM_RED_ZMUL : Rat) / 64 else 1
    let factor := s.reduction x key (!c.has) unq
    let limit := fun (i : Nat) (dis : Bool) =>
      let zt := (z.1 + (s.windowGain i : Rat) / 64 * z.2.1) * mul + (entryNat windows i : Rat) * sigma / (c.cap * 3600)
      let num := if dis then ocv - (s.get F.LIM_VLIM_VDIS : Rat) * 1000 else (s.get F.LIM_VLIM_VCHG : Rat) * 1000 - ocv
      let raw := if num ≤ 0 then 0 else num / zt
      let cap := (s.get (if dis then F.LIM_IMAX_DIS else F.LIM_IMAX_CHG) : Rat) * s.derate dis t / 128
      (if cap < raw then cap else raw) * factor / 100
    ⟨key, [limit 0 true, limit 1 true, limit 2 true, limit 0 false, limit 1 false, limit 2 false], factor, unq, z.2.2, false⟩

/-- Limit `i` of a cell. -/
def CellLimit.get (c : CellLimit) (i : Nat) : Rat := (c.limits[i]?).getD 0

/-- The cell that sets limit `i`: the least, the lowest cell number on a tie. -/
def limiting (i : Nat) : List CellLimit → Option CellLimit
  | [] => none
  | x :: l => match limiting i l with
    | some y => if y.get i < x.get i then some y else some x
    | none => some x

/-- The words `LIM_DIS2` to `LIM_CHG30`. -/
def limitWords : List (Fld × Fld) := [(F.LIM_DIS2_CELL, F.LIM_DIS2_A), (F.LIM_DIS10_CELL, F.LIM_DIS10_A),
  (F.LIM_DIS30_CELL, F.LIM_DIS30_A), (F.LIM_CHG2_CELL, F.LIM_CHG2_A), (F.LIM_CHG10_CELL, F.LIM_CHG10_A),
  (F.LIM_CHG30_CELL, F.LIM_CHG30_A)]

/-- The rise of a limit over its previous publication (R240). -/
def State.slewed (s : State) (i : Nat) (v : Rat) : Rat :=
  match s.sage.limits with
  | none => v
  | some l =>
    let top := (l[i]?).getD 0 + (s.get F.LIM_SLEW_RISE : Rat) * ((s.sageStep * s.period : Nat) : Rat) / 1000000
    if top < v then top else v

/-- Publish the limits (R240). -/
def State.showLimits (s : State) (x : SageInput) : State :=
  let cells := s.usedKeys.map (s.cellLimit x)
  let set := (List.range 6).filterMap fun i => limiting i cells
  if cells = [] then
    (limitWords.foldl (fun (s : State) (f : Fld × Fld) => (s.setNoCell f.1).setNoCell f.2) s).setNoCell F.LIM_STAT_FACTOR
  else
    let vals := (List.range 6).map fun i => s.slewed i (((limiting i cells).map fun c => c.get i).getD 0)
    let reduced := set.any fun c => decide (c.factor < 100)
    let was := s.on F.LIM_PSTAT_REDUCED
    let s := (List.range 6).foldl (fun (s : State) i =>
      match limitWords[i]?, limiting i cells with
      | some f, some c => (s.set f.1 c.key).fit f.2 (roundRat ((vals[i]?).getD 0 * 10)).toNat
      | _, _ => s) s
    let s := (s.setOn F.LIM_PSTAT_REDUCED reduced).setOn F.LIM_PSTAT_ZDEF (set.any fun c => c.zdef)
    let s := (s.setOn F.LIM_STAT_RED reduced).setOn F.LIM_STAT_ZDEF (set.any fun c => c.zdef)
    let s := (s.setOn F.LIM_STAT_UNQ (set.any fun c => c.unq)).setOn F.LIM_STAT_S (cells.any fun c => c.empty)
    let s := s.set F.LIM_STAT_FACTOR (((limiting 0 cells).map fun c => c.factor).getD 100)
    let s := s.applyIf (reduced && !was) fun s => s.flag F.LIM_IFLAG_RED
    s.onSage fun g => { g with limits := some vals }

/-! ### Exceeded windows (R241) -/

/-- The window of `i` ending at a step is exceeded in discharge or in charge: it begins with the last Sage frame that lies at least
so far back. -/
def State.windowOver (s : State) (x : SageInput) (i : Nat) (dis : Bool) : Bool :=
  let tau := entryNat windows i * 1000000
  match (s.sage.qHist.find? fun e => decide (e.1 + tau ≤ x.time)) with
  | some e => match e.2.2 with
    | some lims =>
      let d := x.qacc - e.2.1
      let lim := entryNat lims (if dis then i else i + 3)
      decide (((lim * (1000 + s.get F.LIM_SLEW_MARGIN) * (x.time - e.1) : Nat) : Int) < (if dis then d else -d) * 10000)
    | none => false
  | none => false

/-- Show the exceeded windows. -/
def State.showOver (s : State) (x : SageInput) : State :=
  let d := bitMap 3 fun i => s.windowOver x i true
  let c := bitMap 3 fun i => s.windowOver x i false
  let was := s.on F.LIM_PSTAT_OVER
  let now := decide (d + c ≠ 0)
  let s := ((s.set F.LIM_STAT_OVDIS d).set F.LIM_STAT_OVCHG c).setOn F.LIM_PSTAT_OVER now
  s.applyIf (now && !was) fun s => s.flag F.LIM_IFLAG_OVER

/-! ### Early warnings (R242) -/

/-- Threshold of warning level `i`: 0 to 2 EOD1 to EOD3, 3 to 5 EOC1 to EOC3, µV. -/
def State.warnLevel (s : State) (i : Nat) : Int :=
  (entryNat [s.get F.LIM_EOD12_EOD1, s.get F.LIM_EOD12_EOD2, s.get F.LIM_EOD3_EOD3, s.get F.LIM_EOC12_EOC1,
    s.get F.LIM_EOC12_EOC2, s.get F.LIM_EOC3_EOC3] i : Int) * 1000

/-- One warning level after a Sage frame with extreme voltage `v`: active, frames towards a change, entered now. -/
def State.warnNext (s : State) (i : Nat) (v : Int) (w : Bool × Nat) : Bool × Nat × Bool :=
  let th := s.warnLevel i
  let hyst := (s.get F.LIM_EOD3_HYST : Int) * 1000
  let towards := if i < 3 then (if w.1 then decide (th + hyst ≤ v) else decide (v < th))
    else (if w.1 then decide (v ≤ th - hyst) else decide (th < v))
  if towards = false then (w.1, 0, false)
  else if w.2 + 1 < s.get F.LIM_EOD3_CONF then (w.1, w.2 + 1, false)
  else (!w.1, 0, !w.1)

/-- Evaluate the warnings, show the extreme voltages. -/
def State.showWarnings (s : State) (x : SageInput) : State :=
  let vs := (s.usedKeys.filter fun key => x.dieOk key && !cellS (x.word key)).map fun key => cellV (x.word key)
  match minOf vs, maxOf vs with
  | some lo, some hi =>
    let s := (s.setInt F.LIM_VEXT_VMAX (hi / 1000)).setInt F.LIM_VEXT_VMIN (lo / 1000)
    let next := (List.range 6).map fun i =>
      s.warnNext i (if i < 3 then lo else hi) ((s.sage.warn[i]?).getD (false, 0))
    let s := s.onSage fun g => { g with warn := next.map fun n => (n.1, n.2.1) }
    let active := fun (i : Nat) => ((next[i]?).map fun n => n.1).getD false
    let top := fun (base : Nat) => if active (base + 2) then 3 else if active (base + 1) then 2 else if active base then 1 else 0
    let s := (s.set F.LIM_STAT_EOD (top 0)).set F.LIM_STAT_EOC (top 3)
    (List.range 6).foldl (fun (s : State) i =>
      if ((next[i]?).map fun n => n.2.2).getD false then
        s.flagEvent (if i < 3 then F.LIM_IFLAG_EOD.bit i else F.LIM_IFLAG_EOC.bit (i - 3))
          (if i == 2 || i == 5 then 1 else 0) [F.LIM_VEXT_VMIN.addr]
      else s) s
  | _, _ => (s.setNoCell F.LIM_VEXT_VMAX).setNoCell F.LIM_VEXT_VMIN

/-- The impedance nodes publish (R244). -/
def State.showNodes (s : State) : State :=
  s.onSage fun g => { g with
    zCells := g.cells.map fun e => (e.1, e.2.nodes)
    zCols := (List.range 6).map fun i => (s.get (F.LIM_ZDEF_ZF.at i), s.get (F.LIM_ZDEF_ZD.at i)) }

/-! ### The Sage step (R208, R209) -/

/-- SAGE_STEP: the step of the Sage frame due at this boundary. A step falls out while the cores pause or neither of
them runs. -/
def execSageStep (s : State) : Outcome State Fault Refusal :=
  match s.sage.inputs with
  | [] => .next s
  | x :: rest =>
    if s.coresRun = false ∨
        s.frame.toNat ≠ (x.seq + 2 * s.sageStep) % 4294967296 then .next s
    else
      let before := (s.sage.cells.filter fun e => e.2.has).map fun e => (e.1, e.2.r)
      let due := s.sageSoc x
      let point := due.on F.SGE_SOC_REST
      let t := due.sageStepSearch x before
      let t := (t.set F.LIM_STAT_SEQ (x.seq % 16)).showLimits x
      let t := ((t.showOver x).showWarnings x).showNodes.publish 0x0E (BitVec.ofNat 32 x.seq)
      .next ((t.applyIf point State.writebackDue).onSage fun g => { g with inputs := rest, prev := some x })

end Sys2Proof.Machine
end

