-- ==== Sys2Proof/Machine/SageStore.lean ====
section
/-! DEFINITION. Sage: write-back copies, start-up choice, table loading and cell reset (R211, R227 to R231, R244). -/
namespace Sys2Proof.Machine
open Host

/-! ### Write-back (R227, R228) -/

/-- WRITEBACK_PERIOD: PERIOD minutes after the last start (R227). -/
def execWritebackPeriod (s : State) : Outcome State Fault Refusal :=
  if s.running then .next (s.advanceTo (s.sage.wbStart + s.get F.SGE_WB_PERIOD * 60000000)).writebackDue else .next s

/-- A write to SGE_CMD (R227). -/
def State.writeSgeCmd (s : State) (v : Word) : State × Option Nat :=
  if v = 1 then (s.writebackDue, none) else (s, some 0x0A)

/-- The state a write-back stores. -/
def State.sageData (s : State) : SageCopy := {
  seq := ((s.newestCopy.map fun c => c.seq).getD 0 + 1) % 4294967296
  cells := s.sage.cells.map fun e => (e.1, { e.2 with anchor := none, rejects := 0 })
  ahDis := s.sage.ahDis, ahChg := s.sage.ahChg, efc := s.sage.efc, timer := s.sage.timer }

/-- WRITEBACK_START: a due write-back starts once PWR_WARN is clear and no other runs, with the lease of the MRAM port. -/
def execWritebackStart (s : State) : Outcome State Fault Refusal :=
  if s.sage.wbDue && s.sage.wbData.isNone && !s.on F.PWR_STAT_WARN && s.coresRun then
    let s := s.advanceTo (s.pwr.writebackAfter.getD 0)
    let s := s.acquireLease 0 s.coreParty
    if s.holdsPort s.coreParty then
      .next (((s.setOn F.SGE_PSTAT_WBBUSY true).setOn F.SGE_WBSTAT_DEFER false).onSage fun g => { g with
        wbDue := false, wbData := some s.sageData, wbStart := s.now })
    else .next s
  else .next s

/-- The header of a write-back is written: the copy that did not hold the newest data now does. -/
def State.writebackStored (s : State) (c : SageCopy) : State :=
  let b := !s.sage.newestB
  let s := s.onSage fun g => { g with
    wbData := none, newestB := b, copyA := if b then g.copyA else some c, copyB := if b then some c else g.copyB
    badA := g.badA && b, badB := g.badB && !b }
  (((s.set F.SGE_WBSTAT_SEQ (c.seq % 65536)).setOn F.SGE_WBSTAT_LAST b).setOn F.SGE_PSTAT_WBBUSY false).newImage.flag F.SGE_IFLAG_WBDONE

/-- The copy that a write-back was writing is invalid from now on (R228). -/
def SageSt.spoil (g : SageSt) : SageSt :=
  if g.newestB then { g with wbData := none, copyA := none, badA := true }
  else { g with wbData := none, copyB := none, badB := true }

/-- A write-back is broken off: its copy is left invalid, and it is due again (R228). -/
def State.writebackBroken (s : State) : State :=
  if s.sage.wbData.isSome then
    (s.setOn F.SGE_PSTAT_WBBUSY false).onSage fun g => { g.spoil with wbDue := true }
  else s

/-- WRITEBACK_DONE: the journaled write of the header ends, and the lease is released. Device firmware that has lost the port waits
for it; while the cores pause, and with both held, nothing is written. -/
def execWritebackDone (s : State) : Outcome State Fault Refusal :=
  match s.sage.wbData with
  | some c =>
    if s.frozen || s.coresHeld then .next s
    else
      let s := s.acquireLease 0 s.coreParty
      .next (if s.holdsPort s.coreParty then (s.writebackStored c).releasePort s.coreParty else s)
  | none => .next s

/-! ### Start-up (R229) -/

/-- No copy is valid: capacities, throughput and the rest of the learned state go; each cell is as after a cell reset. -/
def State.forgetCells (s : State) : State :=
  s.onSage fun g => { g with cells := [], capDflt := (s.get F.SGE_CAPNOM_CAP : Rat) / 100, ahDis := 0, ahChg := 0, efc := 0 }

/-- Learned state as a copy holds it. A start-up discards every anchor and, as a gap of the count, sets E; `u` starts equal to
`r`. -/
def State.takeCopy (s : State) (c : SageCopy) : State :=
  s.onSage fun g => { g with
    cells := c.cells.map fun e => (e.1, { e.2 with u := e.2.r, e := e.2.has, w := false, anchor := none, restDone := 0 })
    ahDis := c.ahDis, ahChg := c.ahChg, efc := c.efc }

/-- A cell as SGC shows it before the first publication: its saved capacity, and no SOC. -/
def CellSage.unpublished (c : CellSage) : CellSage := { c with r := 0, e := false, w := false, l := false }

/-- The choice of R229 in step 0x4, with the results of the CRC checks; the rest timer starts at TREST after a wake. -/
def State.sageStart (s : State) (okA okB wake : Bool) : State :=
  let s := s.onSage fun g => if g.wbData.isSome then g.spoil else g
  let a := if okA then s.sage.copyA else none
  let b := if okB then s.sage.copyB else none
  let badA := s.sage.badA || (s.sage.copyA.isSome && !okA)
  let badB := s.sage.badB || (s.sage.copyB.isSome && !okB)
  let failed := badA || badB
  let useB := match a, b with
    | some x, some y => decide ((y.seq + 4294967296 - x.seq) % 4294967296 < 2147483648) && decide (y.seq ≠ x.seq)
    | none, some _ => true
    | _, _ => false
  let chosen := if useB then b else a
  let s := s.onSage fun g => { g with
    copyA := a, copyB := b, badA := badA, badB := badB, newestB := useB, wbDue := false, wbStart := s.now, inputs := []
    prev := none, iHist := [], qHist := [], suspectAt := none, gapAt := none, zstep := none, staging := List.replicate 260 0 
    limits := none, warn := List.replicate 6 (false, 0), absQ := 0
    timer := if wake then s.get F.SGE_REST_TREST * 1000000 else 0 }
  let s := match chosen with
    | some c => (s.takeCopy c).set F.SGE_WBSTAT_SEQ (c.seq % 65536)
    | none => s.forgetCells
  let start := if failed then (if chosen.isSome then 1 else 3) else if chosen.isSome then 0 else 2
  let s := (s.set F.SGE_WBSTAT_START start).setOn F.SGE_WBSTAT_CHOSEN useB
  let s := s.showThroughput.showNodes.onSage fun g => { g with
    banks := s.sgcBanks 0 (s.cellKeys.map fun key => ⟨key, (s.cellSage key).unpublished, true, false, .nothing, 0, 0⟩)
      fun _ => 0 }
  if failed then s.flagEvent F.SGE_IFLAG_WBFAIL 2 [F.SGE_WBSTAT_START.addr]
  else if start = 2 then s.listed 0x0C 0 0 [F.SGE_WBSTAT_START.addr]
  else s

/-! ### Tables (R211) -/

/-- A write to SGE_TBLSEL: an ENTRY above 259 is refused. -/
def State.writeTblSel (s : State) (v : Word) : State × Option Nat :=
  if 259 < bitsOf v 8 0 then (s, some 0x0A)
  else ((s.set F.SGE_TBLSEL_TABLE (bitsOf v 25 24)).set F.SGE_TBLSEL_ENTRY (bitsOf v 8 0), none)

/-- ENTRY advances by 1 and stops at 259. -/
def State.advanceEntry (s : State) : State := s.set F.SGE_TBLSEL_ENTRY (min 259 (s.get F.SGE_TBLSEL_ENTRY + 1))

/-- The staging entry that ENTRY names, as SGE_TBLDATA shows it. -/
def State.tblData (s : State) : Word := BitVec.ofNat 32 (codeOf 16 (entry s.sage.staging (s.get F.SGE_TBLSEL_ENTRY)))

/-- A write to SGE_TBLDATA: a column temperature is signed, a point is not. -/
def State.writeTblData (s : State) (v : Word) : State :=
  let e := s.get F.SGE_TBLSEL_ENTRY
  let x := bitsOf v 15 0
  (s.onSage fun g => { g with staging := g.staging.set e (if e < 4 then signedOf 16 x else x) }).advanceEntry

/-- A sequence rises strictly. -/
def rises : List Int → Bool
  | a :: b :: l => decide (a < b) && rises (b :: l)
  | _ => true

/-- The staging copy may be activated. -/
def tableOk (l : List Int) : Bool :=
  let col := fun (t : Nat) => (l.drop (4 + 64 * t)).take 64
  rises (l.take 4) && (List.range 4).all (fun t => rises (col t)) && (l.drop 4).all fun p => decide (0 ≤ p) && decide (p ≤ 55000)

/-- A write to SGE_TBLCMD: 0x1 loads the staging copy, of an empty table as zeros; 0x2 checks and activates. -/
def State.writeTblCmd (s : State) (v : Word) : State × Option Nat :=
  let n := s.get F.SGE_TBLSEL_TABLE
  if v = 1 then
    let tbl := (s.sage.tables[n]?).getD []
    (s.onSage fun g => { g with staging := if tbl = [] then List.replicate 260 0 else tbl }, none)
  else if v = 2 then
    if tableOk s.sage.staging then
      (((s.onSage fun g => { g with tables := g.tables.set n g.staging }).journalWrite [.tables s.sage.tables]).flag
        F.SGE_IFLAG_TABLE, none)
    else (s, some 0x0A)
  else (s, some 0x0A)

/-! ### Cells and selectors (R230, R231, R244) -/

/-- A cell loses its anchor, its SOC, its learned impedance and capacity. -/
def State.resetCell (s : State) (key : Nat) : State := s.setCell key { cap := (s.get F.SGE_CAPNOM_CAP : Rat) / 100 }

/-- A write to SGC_RESET on a link. -/
def State.writeSgcReset (s : State) (l : Link) (v : Word) : State × Option Nat :=
  let bank := (s.link l).sel.bank
  let cells := if bit v.toNat 8 then cellList else [bitsOf v 5 0]
  (cells.foldl (fun s i => s.resetCell (bank * 64 + i)) s, none)

/-- A write to SGC_BANK on a link: a die not fitted is refused. -/
def State.writeSgcBank (s : State) (l : Link) (v : Word) : State × Option Nat :=
  if bitsOf v 2 0 < s.dies then
    (s.onLink l fun k => { k with sel := { k.sel with bank := bitsOf v 2 0 } }, none)
  else (s, some 0x0A)

/-- A write to LIM_ZSEL on a link: a cell of a die not fitted or TI above 5 is refused. -/
def State.writeZsel (s : State) (l : Link) (v : Word) : State × Option Nat :=
  if bitsOf v 24 16 / 64 < s.dies ∧ bitsOf v 5 3 ≤ 5 then
    (s.onLink l fun k => { k with sel := { k.sel with zsel := BitVec.ofNat 32 (bitsOf v 24 16 * 65536 + bitsOf v 5 0) } }, none)
  else (s, some 0x0A)

/-- What a link reads of LIM_ZSEL and LIM_ZDATA: the selected node as last published. -/
def State.zNodeOf (s : State) (l : Link) : ZNode :=
  let z := (s.link l).sel.zsel
  let node := bitsOf z 5 3 * 8 + bitsOf z 2 0
  let nodes := ((s.sage.zCells.find? fun e => e.1 == bitsOf z 24 16).map (·.2)).getD []
  match (nodes.find? fun e => e.1 == node) with
  | some e => e.2
  | none => let c := (s.sage.zCols[bitsOf z 5 3]?).getD (0, 0)
    ⟨c.1, c.2, 0⟩
def State.readZsel (s : State) (l : Link) : Word := withBits (s.link l).sel.zsel 31 28 (s.zNodeOf l).count
def State.readZdata (s : State) (l : Link) : Word := BitVec.ofNat 32 ((s.zNodeOf l).zd * 65536 + (s.zNodeOf l).zf)

/-- What a link reads of words 0x60 to 0xDF of SGC. -/
def State.readSgc (s : State) (l : Link) (word : Nat) : Word :=
  (lookupReg ((s.link l).sel.bank * 256 + word) s.sage.banks).getD (resetAt (addrOf 0x0D word))

end Sys2Proof.Machine
end

