-- ==== Sys2Proof/Machine/Ring.lean ====
section
/-! DEFINITION. The Kollin ring: status messages, members, head, grants, system figures, mirrors (R266 to R275). -/
namespace Sys2Proof.Machine
open Host

/-- The module's own health (R268). -/
def State.ownHealthy (s : State) : Bool :=
  s.pwr.phase == .run && s.get F.FLT_MODE_MODE == 0 && s.ringOn && !s.ringExcluded

/-- The status message the module sends (R266). -/
def State.ownMessage (s : State) : RingMsg := {
  addr := s.ownAddr, serial := s.serial, healthy := s.ownHealthy, inRun := s.pwr.phase == .run, excluded := s.ringExcluded
  departing := s.ring.departing, state := s.prtState, path := s.get F.PRT_STAT_PATH, left := s.deadlineLeft
  disT := s.get F.PRT_TARGET_DIS, chgT := s.get F.PRT_TARGET_CHG, curI := s.getInt F.CUR_I_MA, vstr := s.getInt F.STV_VSTR_MV
  vlnk := s.getInt F.STV_VLNK_MV, live := s.get F.PRT_BUS_LIVE, qDis := s.get F.SGE_QREM_QDIS, qChg := s.get F.SGE_QREM_QCHG
  waiting := s.prot.waitSince.isSome, held := s.ownHold, head := s.ring.head, grant := s.ring.granted
  mirror := s.mirrorHeld.map fun h => (h.serial, h.seq) }

/-- The messages of the partition by rising address, the module's own among them. -/
def State.partition (s : State) : List RingMsg :=
  let others := if s.ringOn && !s.ringExcluded then s.ring.members.map fun m => m.msg else []
  (List.range 16).flatMap fun a => if a = s.ownAddr then [s.ownMessage] else others.filter fun m => m.addr == a

/-! ### Members (R266, R267) -/

/-- A fetch fails: nothing applies, and REPL or RESTORE stays (R275). -/
def State.fetchFailed (s : State) : State :=
  ((s.onRing fun r => { r with fetching := false }).set F.KRG_MIRSTAT_FETCH 3).flag F.KRG_IFLAG_MIRFAIL

/-- Remove a member. With the downstream neighbour a running fetch fails (R275). -/
def State.dropMember (s : State) (a : Nat) : State :=
  match s.ring.members.find? fun m => m.msg.addr == a with
  | some m =>
    let s := (s.onRing fun r => { r with members := r.members.filter fun m => m.msg.addr != a }).flag F.KRG_IFLAG_MEMBER
    s.applyIf (s.ring.fetching && s.ring.holder == some m.msg.serial) State.fetchFailed
  | none => s

/-- The downstream neighbour, heard straight on K_B: one with another serial number than before is sent a full image, the first one
after a start is not, since the mirror it may hold is asked for first (R274); one that shows the own image confirms it (R273). -/
def State.hearHolder (s : State) (m : RingMsg) : State :=
  if s.ring.holder.isSome && s.ring.holder != some m.serial then (s.onRing fun r => { r with holder := some m.serial }).newImage
  else
    let s := s.onRing fun r => { r with holder := some m.serial }
    s.applyIf (m.mirror == some (s.serial, s.ring.imageSeq)) fun s =>
      (s.setOn F.KRG_STAT_MIRROK true).set F.KRG_MIRSTAT_SEQ (s.ring.imageSeq % 65536)

/-- Take a member's message into account. -/
def State.hearMember (s : State) (m : RingMsg) : State :=
  let old := s.ring.members.find? fun x => x.msg.addr == m.addr
  let since := if m.healthy then some (((old.bind fun x => x.healthySince)).getD s.now) else none
  let s := s.applyIf old.isNone fun s => s.flag F.KRG_IFLAG_MEMBER
  let s := s.onRing fun r => { r with
    members := ⟨m, s.now, since⟩ :: r.members.filter fun x => x.msg.addr != m.addr }
  let s := s.applyIf (m.portB && m.direct) fun s => s.hearHolder m
  if s.ring.head == some m.addr && m.grant == some s.ownAddr && s.on F.KRG_CFG_COORD && s.coresRun then s.takeGrant else s

/-- Note whose serial number was heard at an address, and forget what has not been heard for 5 ms, or has departed. -/
def State.noteVoice (s : State) (m : RingMsg) : State :=
  let others := fun (v : Voice) => !(v.addr == m.addr && v.serial == m.serial) && decide (s.now ≤ v.time + 5000)
  s.onRing fun r => { r with
    voices := if m.departing then r.voices.filter others else ⟨m.addr, m.serial, s.now⟩ :: r.voices.filter others }

/-- Another serial number is heard at the sender's address: both holders are ignored (R267). -/
def State.contested (s : State) (m : RingMsg) : Bool :=
  s.ring.voices.any fun v => v.addr == m.addr && v.serial != m.serial

/-- RING_STATUS_MSG: a valid message is received and forwarded; the own address with another serial number excludes the module;
two serial numbers at one address exclude both there, as long as both are heard (log entry 80). -/
def execRingStatusMsg (m : RingMsg) (s : State) : Outcome State Fault Refusal :=
  if s.running = false ∨ s.ringOn = false ∨ 16 ≤ m.addr then .next s
  else
    let s := (s.noteVoice m).onRing fun r => { r with
      forwarded := some m
      portA := if m.direct && !m.portB then some s.now else r.portA
      portB := if m.direct && m.portB then some s.now else r.portB }
    if m.addr = s.ownAddr then
      if m.serial = s.serial ∨ s.ringExcluded = true then .next s
      else
        let s := s.onRing fun r => { r with head := none, granted := none, members := [] }
        let s := ((s.set F.KRG_STAT_HEAD 0).setOn F.KRG_STAT_ISHEAD false).setOn F.KRG_STAT_DUPADDR true
        .next (s.flagEvent F.KRG_IFLAG_DUPADDR 2 [F.KRG_STAT_DUPADDR.addr])
    else if s.ringExcluded then .next s
    else if m.excluded ∨ m.departing = true then .next (s.dropMember m.addr)
    else if s.contested m then .next (s.dropMember m.addr)
    else .next (s.hearMember m)

/-- MEMBER_LOST: no valid message from a member for 5 ms. -/
def execMemberLost (a : Nat) (s : State) : Outcome State Fault Refusal :=
  match (s.ring.members.find? fun m => m.msg.addr == a) with
  | some m => .next ((s.advanceTo (m.heard + 5000)).dropMember a)
  | none => .next s

/-! ### Head (R268) -/

/-- Name a head: a change is flagged and recorded. -/
def State.setHead (s : State) (h : Option Nat) : State :=
  if s.ring.head = h then s
  else
    let s := (s.onRing fun r => { r with head := h }).set F.KRG_STAT_HEAD (h.getD 0)
    let s := s.setOn F.KRG_STAT_ISHEAD (h == some s.ownAddr)
    if h.isSome then s.flagEvent F.KRG_IFLAG_HEAD 1 [F.KRG_STAT_HEAD.addr] else s

/-- The lowest address with a property. -/
def lowest (l : List RingMsg) (p : RingMsg → Bool) : Option Nat := (l.find? p).map fun m => m.addr

/-- A grant is in force in the partition. -/
def grantInForce (l : List RingMsg) : Bool := l.any fun m => (decide (1 ≤ m.state) && decide (m.state ≤ 4)) || m.grant.isSome

/-- A healthy member with a lower address than the head has been heard for 1 s. -/
def State.lowerFor1s (s : State) (h : Nat) : Option Nat :=
  let ok := fun (a : Nat) => decide (a < h) &&
    ((a == s.ownAddr && s.ownHealthy && decide (s.ring.runAt + 1000000 ≤ s.now)) ||
      s.ring.members.any fun m => m.msg.addr == a && m.healthySince.any fun t => decide (t + 1000000 ≤ s.now))
  (List.range 16).find? ok

/-- The head after a ring cycle: the first row of R268 that matches. A member without a head takes the one the others name. -/
def State.elect (s : State) : Option Nat :=
  let l := s.partition
  if s.ringExcluded then none
  else if s.ringOn = false then some s.ownAddr
  else if s.now < s.ring.runAt + 20000 then none
  else
    let present := s.ring.head.orElse fun _ =>
      ((l.find? fun m => m.addr != s.ownAddr && m.head.isSome).bind fun m => m.head)
    let stands := match present with
      | some h => l.any fun m => m.addr == h && m.healthy
      | none => false
    if stands then
      match present with
      | some h => match s.lowerFor1s h with
        | some a => if grantInForce l then some h else some a
        | none => some h
      | none => none
    else match lowest l fun m => m.healthy with
      | some a => some a
      | none => lowest l fun m => m.inRun

/-! ### Grants (R270) -/

/-- The grants the head gives at a ring cycle. -/
def State.decideGrant (s : State) : State :=
  let l := s.partition
  let busy := l.any fun m => decide (1 ≤ m.state) && decide (m.state ≤ 4)
  let live := l.any fun m => m.state == 5 && decide ((m.live : Int) * 1000 ≤ m.vlnk)
  let holder := match s.ring.granted with
    | some a => if l.any fun m => m.addr == a && (m.waiting || (decide (1 ≤ m.state) && decide (m.state ≤ 4))) then some a else none
    | none => none
  let ready := l.filter fun m => m.waiting && !m.held
  if holder.isSome || busy || (!s.on F.KRG_STAT_QUORUM && !live) then s.onRing fun r => { r with granted := holder }
  else
    let order := s.get F.KRG_CFG_ORDER
    let chosen := ready.foldl (fun (acc : Option RingMsg) m =>
      match acc with
      | none => some m
      | some b =>
        if (order = 1 ∧ b.vstr < m.vstr) ∨ (order = 2 ∧ m.vstr < b.vstr) then some m else some b) none
    s.onRing fun r => { r with granted := chosen.map fun m => m.addr }

/-- Grants at a ring cycle: by the module itself with COORD at 0, subject to its own holds, else by the head. -/
def State.grants (s : State) : State :=
  if s.on F.KRG_CFG_COORD = false then (if s.ownHold then s else s.takeGrant)
  else if s.ring.head = some s.ownAddr then
    let s := s.decideGrant
    if s.ring.granted = some s.ownAddr then s.takeGrant else s
  else s.onRing fun r => { r with granted := none }

/-- GRANT_TIMEOUT: TGRANT passes without a grant. -/
def execGrantTimeout (s : State) : Outcome State Fault Refusal :=
  match s.prot.waitSince with
  | some t => .next ((s.advanceTo (t + s.get F.KRG_CFG_TGRANT * 1000000)).endWait)
  | none => .next s

/-! ### System figures (R271, R272) -/

/-- The least of T / s over the connected members and the member that sets it; `dis` for the discharge direction. -/
def systemTarget (l : List RingMsg) (imin : Nat) (dis : Bool) : Option (Nat × Rat) :=
  let i := fun (m : RingMsg) => if dis then m.curI else -m.curI
  let total : Int := (l.map i).sum
  let shared := l.all (fun m => decide (0 < i m)) && decide ((imin : Int) * 1000 ≤ total)
  l.foldl (fun (acc : Option (Nat × Rat)) m =>
    let t : Rat := if dis then m.disT else m.chgT
    let v : Rat := if shared then t * total / i m else t * l.length
    match acc with
    | some b => if v < b.2 then some (m.addr, v) else some b
    | none => some (m.addr, v)) none

/-- Show the members, the connections and the system figures; a change of a
target or of the number connected makes a system frame due. -/
def State.showRing (s : State) : State :=
  let l := s.partition
  let has := fun (p : RingMsg → Bool) => bitMap 16 fun a => l.any fun m => m.addr == a && p m
  let s := (s.set F.KRG_MEMBERS_HEARD (has fun _ => true)).set F.KRG_MEMBERS_HEALTHY (has fun m => m.healthy)
  let s := (s.set F.KRG_CONN_CONN (has fun m => m.state == 5)).set F.KRG_CONN_WAITING (has fun m => m.waiting)
  let q := decide (s.get F.KRG_CFG_COUNT / 2 + 1 ≤ l.length)
  let s := s.applyIf (s.on F.KRG_STAT_QUORUM && !q) fun s => s.flag F.KRG_IFLAG_SPLIT
  let s := s.setOn F.KRG_STAT_QUORUM q
  let up := fun (t : Option Nat) => t.any fun x => decide (s.now ≤ x + 5000)
  let s := (s.setOn F.KRG_STAT_PORTA (up s.ring.portA)).setOn F.KRG_STAT_PORTB (up s.ring.portB)
  let conn := l.filter fun m => m.state == 5
  let soc := if conn = [] then l.filter fun m => m.inRun else conn
  let qd : Nat := (soc.map fun m => m.qDis).sum
  let qc : Nat := (soc.map fun m => m.qChg).sum
  let was := (s.get F.KRG_SYSDIS_A, s.get F.KRG_SYSCHG_A, s.get F.KRG_SYSSOC_NCONN)
  let s := s.set F.KRG_SYSSOC_NCONN conn.length
  let s := if qd + qc = 0 then s.setNoCell F.KRG_SYSSOC_SOC else s.set F.KRG_SYSSOC_SOC (hundredths ((qd : Rat) / ((qd + qc : Nat) : Rat) * 100))
  let target := fun (s : State) (member amps : Fld) (t : Option (Nat × Rat)) => match t with
    | some e => (s.set member e.1).fit amps e.2.floor.toNat
    | none => (s.set member 0).set amps 0
  let s := target s F.KRG_SYSDIS_MEMBER F.KRG_SYSDIS_A (systemTarget conn (s.get F.KRG_AGG_IMIN) true)
  let s := target s F.KRG_SYSCHG_MEMBER F.KRG_SYSCHG_A (systemTarget conn (s.get F.KRG_AGG_IMIN) false)
  if was = (s.get F.KRG_SYSDIS_A, s.get F.KRG_SYSCHG_A, s.get F.KRG_SYSSOC_NCONN) then s
  else s.onRing fun r => { r with sysDue := true }

/-- The bytes of the system frame (R272). -/
def State.systemFrame (s : State) : List Nat :=
  let conn := s.partition.filter fun m => m.state == 5
  let path := conn.foldl (fun acc m => max acc m.path) 0
  let left := conn.foldl (fun acc m => min acc m.left) 0xFFFF
  [s.ring.sysNext % 256, s.ownAddr * 16 + path * 4, conn.length, deadlineByte left] ++
    bytesBE 2 (s.get F.KRG_SYSDIS_A) ++ bytesBE 2 (s.get F.KRG_SYSCHG_A)

/-- A system frame heard on its port: the next one of this module would carry the next sequence (R272). -/
def State.hearSystem (s : State) (port : Nat) (f : CanFrame) : State :=
  match f.bytes with
  | b :: _ =>
    if s.canUp port && s.get F.KRG_CAN_PORT == port && s.get F.KRG_CAN_ID == f.id && f.bytes.length == 8 then
      s.onRing fun r => { r with sysNext := (b.toNat + 1) % 256 }
    else s
  | [] => s

/-- The system frame goes out on its port. -/
def State.sendSystem (s : State) : State :=
  let port := s.get F.KRG_CAN_PORT
  (s.sendCan port (s.get F.KRG_CAN_ID) (s.portFd port) s.systemFrame).onRing fun r => { r with
    sysNext := (r.sysNext + 1) % 256, sysAt := s.now, sysDue := false }

/-- SYSTEM_FRAME: the head sends it at once when a change made one due, else PERIOD after the last; while another party holds the
ring token it stays due (R295). -/
def execSystemFrame (s : State) : Outcome State Fault Refusal :=
  if s.coresRun && s.on F.KRG_CAN_EN && s.on F.KRG_STAT_ISHEAD then
    let s := if s.ring.sysDue then s else s.advanceTo (s.ring.sysAt + s.get F.KRG_CANPER_PERIOD * 1000)
    .next ((s.onRing fun r => { r with sysDue := true }).withSlot 6 s.coreParty State.sendSystem)
  else .next s

/-- RING_CYCLE: every 1 ms the module applies the head and grant rules and sends its status message; without the cores
island 2 sends it alone (R289). An image that waits is sent (R273, R298). -/
def execRingCycle (s : State) : Outcome State Fault Refusal :=
  if s.running then
    let s := s.advanceTo (s.ring.cycleAt + 1000)
    let s := s.onRing fun r => { r with cycleAt := s.now }
    let s := s.applyIf s.coresRun fun s => ((s.setHead s.elect).showRing).grants
    let s := s.applyIf s.ring.imageDue State.sendImage
    .next (s.onRing fun r => { r with sent := some s.ownMessage })
  else .next s

/-- The module leaves the ring: it announces its departure (R64, R65). -/
def State.leaveRing (s : State) : State :=
  let s := s.onRing fun r => { r with departing := true }
  s.onRing fun r => { r with sent := some s.ownMessage }

/-! ### Mirrors (R273, R274) -/

/-- MIRROR_RECEIVED: a complete image from the neighbour on K_A goes into the half that does not hold the newest valid one; one
that fails its CRC changes neither. While another party holds the MRAM write port it waits (R23). -/
def execMirrorReceived (source serial seq : Nat) (image : MirrorImage) (ok : Bool) (s : State) : Outcome State Fault Refusal :=
  if s.running = false ∨ s.ringOn = false ∨ s.ringExcluded = true then .next s
  else if ok then
    let s := s.onRing fun r => { r with stored := some ⟨source, serial, seq, image⟩ }
    .next (if s.portOpen partyIsland2 then (s.acquireLease 0 partyIsland2).releasePort partyIsland2
      else s.acquireLease 0 partyIsland2)
  else .next (s.flag F.KRG_IFLAG_MIRFAIL)

/-- MIRROR_HEADER_REPLY: the downstream neighbour's header for this address, if it holds a valid one (R274). -/
def execMirrorHeaderReply (serial : Option Nat) (s : State) : Outcome State Fault Refusal :=
  if s.ring.asked = false ∨ s.running = false ∨ s.ringExcluded = true then .next s
  else
    let s := s.onRing fun r => { r with asked := false }
    match serial with
    | none => .next s
    | some n =>
      if n ≠ s.serial then
        .next ((s.setOn F.KRG_STAT_REPL true).flagEvent F.KRG_IFLAG_REPL 1 [F.KRG_STAT_REPL.addr])
      else if s.get F.SGE_WBSTAT_START = 2 ∨ s.get F.SGE_WBSTAT_START = 3 then .next (s.setOn F.KRG_STAT_RESTORE true)
      else .next s

/-- A write to KRG_CMD: ADOPT, DECLINE, CANCEL (R270, R275). -/
def State.writeKrgCmd (s : State) (l : Link) (v : Word) : State × Option Nat :=
  match v.toNat with
  | 1 =>
    if (!s.on F.KRG_STAT_REPL && !s.on F.KRG_STAT_RESTORE) || s.prtState != 0 then (s, some 0x0A)
    else if !s.unlocked l then (s, some 0x03)
    else ((s.set F.KRG_MIRSTAT_FETCH 1).onRing fun r => { r with fetching := true }, none)
  | 2 =>
    let s := (s.setOn F.KRG_STAT_REPL false).setOn F.KRG_STAT_RESTORE false
    let s := s.applyIf s.ring.fetching fun s => (s.set F.KRG_MIRSTAT_FETCH 0).onRing fun r => { r with fetching := false }
    (s.newImage, none)
  | 3 => (s.endWait, none)
  | _ => (s, some 0x0A)

end Sys2Proof.Machine
end

