-- ==== Sys2Proof/Machine/Auth.lean ====
section
/-! DEFINITION. Module authentication: trust anchor, rounds, slots (R277 to R284). The hash and the curve are those their names
say, taken from their public standards (log entry 60); the layout of a certificate is the model's (log entry 108), and so is the
byte order of a challenge (log entry 81). -/
namespace Sys2Proof.Machine
open Host

/-! ### SHA-256 (R278, R282) -/

/-- The greatest number of `n` more bits after `acc` whose `e`-th power does not exceed `x`. -/
def rootFrom (e x : Nat) : Nat → Nat → Nat
  | 0, acc => acc
  | n + 1, acc => rootFrom e x n (if (acc + 2 ^ n) ^ e ≤ x then acc + 2 ^ n else acc)

/-- The primes from which the constants are taken: the first 64. -/
def shaPrimes : List Nat := (List.range 312).filter fun n => decide (2 ≤ n) && (List.range n).all fun d => d < 2 || n % d != 0

/-- The first 32 bits of the fractional part of the `e`-th root of a prime. -/
def rootFraction (e p : Nat) : Word := BitVec.ofNat 32 (rootFrom e (p * 2 ^ (32 * e)) 37 0)

/-- The exclusive or of a word turned right by each of some distances. -/
def turns (x : Word) (l : List Nat) : Word := (l.map x.rotateRight).foldl (· ^^^ ·) 0

/-- The message schedule, newest word first: `n` words more. -/
def scheduleWords : Nat → List Word → List Word
  | 0, w => w
  | n + 1, w =>
    let past := fun (t : Nat) => (w[t - 1]?).getD 0
    let small := fun (x : Word) (l : List Nat) (t : Nat) => turns x l ^^^ (x >>> t)
    scheduleWords n ((small (past 2) [17, 19] 10 + past 7 + small (past 15) [7, 18] 3 + past 16) :: w)

/-- The two registers of the compression, each with its last four values, newest first. -/
structure ShaPair where
  up : List Word
  low : List Word
deriving DecidableEq, Repr

/-- One round, with the sum of its constant and its schedule word. -/
def ShaPair.round (v : ShaPair) (kw : Word) : ShaPair :=
  match v.up, v.low with
  | [a, b, c, d], [e, f, g, h] =>
    let t := kw + h + turns e [6, 11, 25] + (g ^^^ (e &&& (f ^^^ g)))
    ⟨[t + turns a [2, 13, 22] + ((a &&& b) ||| (c &&& (a ||| b))), a, b, c], [d + t, e, f, g]⟩
  | _, _ => v

/-- A block of 16 words on the chaining value. -/
def shaBlock (v : ShaPair) (block : List Word) : ShaPair :=
  let w := (scheduleWords 48 block.reverse).reverse
  let x := (List.zipWith (fun p u => rootFraction 3 p + u) shaPrimes w).foldl ShaPair.round v
  ⟨List.zipWith (· + ·) v.up x.up, List.zipWith (· + ·) v.low x.low⟩

/-- The words of some bytes. -/
def wordsOf : List Byte → List Word
  | a :: b :: c :: d :: l => (a ++ b ++ c ++ d) :: wordsOf l
  | _ => []

/-- Whole blocks of words, at most `n`. -/
def blocksOf : Nat → List Word → List (List Word)
  | 0, _ => []
  | n + 1, l => if l = [] then [] else l.take 16 :: blocksOf n (l.drop 16)

/-- The SHA-256 of some bytes, in eight words. -/
def sha256 (m : List Byte) : List Word :=
  let pad := (119 - m.length % 64) % 64
  let whole := m ++ 0x80 :: List.replicate pad 0 ++ (bytesBE 8 (8 * m.length)).map (BitVec.ofNat 8)
  let h0 := (shaPrimes.take 8).map (rootFraction 2)
  let v := (blocksOf (m.length / 64 + 2) (wordsOf whole)).foldl shaBlock ⟨h0.take 4, h0.drop 4⟩
  v.up ++ v.low

/-- The bytes of some words. -/
def bytesOfWords (l : List Word) : List Byte := l.flatMap fun w => (bytesBE 4 w.toNat).map (BitVec.ofNat 8)

/-- The first four bytes of the SHA-256 of a key of 16 words (R282). -/
def fingerprint (key : List Word) : Word := ((sha256 (bytesOfWords key)).head?).getD 0

/-- AUT_ANCHOR shows the anchor that is installed; 0 for none (R282). -/
def State.showAnchor (s : State) : State :=
  s.put F.AUT_ANCHOR_FP.addr (if s.aut.anchor = [] then 0 else fingerprint s.aut.anchor)

/-! ### P-256 and its signatures (R278, R282) -/

/-- The prime of P-256, the order of its group, its constant and its generator. -/
def p256 : Nat := 2 ^ 256 - 2 ^ 224 + 2 ^ 192 + 2 ^ 96 - 1
def n256 : Nat := 0xFFFFFFFF00000000FFFFFFFFFFFFFFFFBCE6FAADA7179E84F3B9CAC2FC632551
def b256 : Nat := 0x5AC635D8AA3A93E7B3EBBD55769886BC651D06B0CC53B0F63BCE3C3E27D2604B
def gx256 : Nat := 0x6B17D1F2E12C4247F8BCE6E563A440F277037D812DEB33A0F4A13945D898C296
def gy256 : Nat := 0x4FE342E2FE1A7F9B8EE7EB4A7C0F9E162BCE33576B315ECECBB6406837BF51F5

/-- The number that words spell, highest first. -/
def ofWords (l : List Word) : Nat := l.foldl (fun acc w => acc * 4294967296 + w.toNat) 0

/-- The 16 words, X then Y, are a point on P-256. -/
def onCurve (key : List Word) : Bool :=
  let x := ofWords (key.take 8)
  let y := ofWords (key.drop 8)
  decide (x < p256) && decide (y < p256) && decide (y * y % p256 = (x * x * x + (p256 - 3) * x + b256) % p256)

/-- A point of the curve, x = X / Z² and y = Y / Z³ modulo the prime; none is the neutral point where Z is 0. -/
structure CurvePoint where
  x : Nat
  y : Nat
  z : Nat
deriving DecidableEq, Repr

/-- The difference of two numbers below the prime. -/
def subP (a b : Nat) : Nat := (a + (p256 - b)) % p256

/-- Twice a point. -/
def CurvePoint.twice (p : CurvePoint) : CurvePoint :=
  let yy := p.y * p.y % p256
  let w := 4 * p.x * yy % p256
  let zz := p.z * p.z % p256
  let m := 3 * subP p.x zz * (p.x + zz) % p256
  let x := subP (m * m % p256) (2 * w % p256)
  ⟨x, subP (m * subP w x % p256) (8 * yy * yy % p256), 2 * p.y * p.z % p256⟩

/-- The sum of two points. -/
def CurvePoint.plus (p q : CurvePoint) : CurvePoint :=
  if p.z = 0 then q
  else if q.z = 0 then p
  else
    let pz := p.z * p.z % p256
    let qz := q.z * q.z % p256
    let u := p.x * qz % p256
    let v := p.y * qz * q.z % p256
    let h := subP (q.x * pz % p256) u
    let r := subP (q.y * pz * p.z % p256) v
    if h = 0 then (if r = 0 then p.twice else ⟨1, 1, 0⟩)
    else
      let hh := h * h % p256
      let hhh := hh * h % p256
      let t := u * hh % p256
      let x := subP (r * r % p256) ((hhh + 2 * t) % p256)
      ⟨x, subP (r * subP t x % p256) (v * hhh % p256), p.z * q.z * h % p256⟩

/-- `a` times one point plus `b` times another, from their highest bits below `n` down. -/
def twoTimes (p q both : CurvePoint) (a b : Nat) : Nat → CurvePoint → CurvePoint
  | 0, acc => acc
  | n + 1, acc =>
    let d := acc.twice
    twoTimes p q both a b n (match bit a n, bit b n with
      | true, true => d.plus both
      | true, false => d.plus p
      | false, true => d.plus q
      | false, false => d)

/-- A power modulo the order of the group, from the highest bit of the exponent below `n` down. -/
def powN (a e : Nat) : Nat → Nat → Nat
  | 0, acc => acc
  | n + 1, acc => powN a e n (acc * acc * (if bit e n then a else 1) % n256)

/-- The ECDSA signature of a digest holds under a key. -/
def verifies (key : List Word) (digest : List Word) (g : Signature) : Bool :=
  if key.length ≠ 16 ∨ onCurve key = false ∨ g.r = 0 ∨ g.s = 0 ∨ n256 ≤ g.r ∨ n256 ≤ g.s then false
  else
    let w := powN g.s (n256 - 2) 256 1
    let base : CurvePoint := ⟨gx256, gy256, 1⟩
    let own : CurvePoint := ⟨ofWords (key.take 8), ofWords (key.drop 8), 1⟩
    let r := twoTimes base own (base.plus own) (ofWords digest * w % n256) (g.r * w % n256) 256 ⟨1, 1, 0⟩
    let zz := r.z * r.z % p256
    r.z != 0 && (g.r * zz % p256 == r.x || (decide (g.r + n256 < p256) && (g.r + n256) * zz % p256 == r.x))

/-- The bytes that the signature of a certificate covers. DESIGN CHOICE (log entry 108): the ID, the public key as X then Y, and the
cell count, each highest byte first. -/
def certBytes (c : Certificate) : List Byte :=
  (bytesBE 8 c.id.toNat ++ c.key.flatMap (fun w => bytesBE 4 w.toNat) ++ [c.cells.toNat]).map (BitVec.ofNat 8)

/-- The certificate is valid against the anchor, and binds the ID read, a key of 16 words and the cell count (R278). -/
def certValid (c : Certificate) (anchor : List Word) (id : Nat) : Bool :=
  c.id.toNat == id && c.key.length == 16 && verifies anchor (sha256 (certBytes c)) c.sig

/-- The tag's signature over SHA-256 of the challenge followed by the ID holds under the key of its certificate (R278). -/
def tagAnswers (x : TagResult) : Bool :=
  verifies x.cert.key (sha256 ((bytesBE 32 x.challenge.toNat ++ bytesBE 8 x.id.toNat).map (BitVec.ofNat 8))) x.sig

/-! ### Commands (R282, R284) -/

/-- Enrol an ID for a slot by a journaled write. -/
def State.enrolId (s : State) (slot id : Nat) : State :=
  ((s.onAut fun a => { a with ids := putCount slot id a.ids }).journalWrite [.ids s.aut.ids]).newImage

/-- The IDs that the chains now present, at positions where a tag answers: those the command row gives, else, for a plain write to
AUT_CMD, what the enabled slots present at that reading, a free value each (log entry 41). -/
def State.presentedIds (s : State) : List (Nat × Nat) :=
  ((s.aut.presented.getD (s.enabledSlots.map fun j => (j, (Config.chainId s.aut.reads j).toNat))).filter fun e => e.2 != 0)

/-- A write to AUT_CMD on a link: install the staged key, enrol the IDs the chains present, or authenticate every slot. -/
def State.writeAutCmd (s : State) (l : Link) (v : Word) : State × Option Nat :=
  match v.toNat with
  | 1 =>
    if !s.unlocked l then (s, some 0x03)
    else if !onCurve s.aut.staging then (s, some 0x0A)
    else
      let t := ((s.onAut fun a => { a with anchor := a.staging }).showAnchor).journalWrite
        [.anchor s.aut.anchor, .word F.AUT_ANCHOR_FP.addr (s.reg F.AUT_ANCHOR_FP.addr)]
      (((t.flag F.AUT_IFLAG_ANCHOR).newImage).roundOfAll, none)
  | 2 =>
    let ids := s.presentedIds
    let s := s.onAut fun a => { a with presented := none, reads := a.reads + ofBool a.presented.isNone }
    if !s.unlocked l then (s, some 0x03) else (ids.foldl (fun s e => s.enrolId e.1 e.2) s, none)
  | 3 => (s.roundOfAll, none)
  | _ => (s, some 0x0A)

/-- A write to AUT_KEYDATA: the staging word that IDX names is stored and IDX advances by 1. -/
def State.writeKeydata (s : State) (v : Word) : State :=
  let i := s.get F.AUT_KEYIDX_IDX
  (s.onAut fun a => { a with staging := a.staging.set i v }).set F.AUT_KEYIDX_IDX ((i + 1) % 16)

/-- A write to AUT_SEL on a link: a slot of a die not fitted is refused. -/
def State.writeAutSel (s : State) (l : Link) (v : Word) : State × Option Nat :=
  if bitsOf v 5 0 / 8 < s.dies then (s.onLink l fun k => { k with sel := { k.sel with slot := bitsOf v 5 0 } }, none)
  else (s, some 0x0A)

/-- What a link reads in AUT_TAGLO (`hi` false) and AUT_TAGHI. -/
def State.readTag (s : State) (l : Link) (hi : Bool) : Word :=
  let id := countOf s.aut.ids (s.link l).sel.slot
  BitVec.ofNat 32 (if hi then id / 4294967296 else id)

/-! ### Rounds (R279 to R281) -/

/-- A poll reads the ID of a slot, 0 where no tag answers. One that differs from the enrolled ID starts a round; it counts as an ID
change when it is read for the first time, so that one change causes at most one reset (R279, R281). -/
def State.pollSlot (s : State) (j id : Nat) : State :=
  let known := countOf s.aut.ids j
  let fresh := !s.aut.polled.contains (j, id)
  let s := s.onAut fun a => { a with polled := (j, id) :: a.polled.filter fun e => e.1 != j }
  s.applyIf (known != 0 && id != known) fun s => s.joinRound (ofBool fresh) j

/-- AUT_POLL: every POLL seconds the slots' IDs are read. -/
def execAutPoll (ids : List (Nat × Nat)) (s : State) : Outcome State Fault Refusal :=
  if s.running then
    let s := s.advanceTo (s.aut.pollAt + s.get F.AUT_CFG_POLL * 1000000)
    let s := s.onAut fun a => { a with pollAt := s.now }
    .next (s.enabledSlots.foldl (fun s j => s.pollSlot j (countOf ids j)) s)
  else .next s

/-- The outcome of R280 for a slot. -/
def State.slotOutcome (s : State) (slot : Nat) (x : TagResult) : Nat :=
  let k := slot / 8
  if !s.slotOn slot then 0
  else if !s.healthy k || bit (s.get F.STK_ROUTE_ASLEEP) k || bit (s.get F.CMP_OWST_HARNESS) k then 1
  else if !x.present then 5
  else if s.aut.anchor = [] ∨ certValid x.cert s.aut.anchor x.id.toNat = false ∨ tagAnswers x = false then 4
  else if x.cert.cells.toNat ≠ s.get (F.AUT_MAP_LAST.at slot) - s.get (F.AUT_MAP_FIRST.at slot) + 1 then 6
  else if countOf s.aut.ids slot = x.id.toNat ∨ countOf s.aut.ids slot = 0 then 2
  else 3

/-- The slot of die `k` that is being authenticated: the first of the die in the rounds in progress (R278). -/
def State.atWork (s : State) (k : Nat) : Option SlotRound := s.aut.round.find? fun r => r.slot / 8 == k

/-- SLOT_AUTH_DONE: the authentication of a slot completes and the slot is decided (R280, R281). The slots of a die are taken in
sequence. -/
def execSlotAuthDone (slot : Nat) (x : TagResult) (s : State) : Outcome State Fault Refusal :=
  match s.atWork (slot / 8) with
  | none => .next s
  | some r =>
    if r.slot ≠ slot then .next s else
    let v := s.slotOutcome slot x
    let bad := decide (4 ≤ v)
    let enters := bad && !s.aut.unq.contains slot
    let s := s.setSlot slot v
    let s := s.onAut fun a => { a with
      round := a.round.filter fun q => q.slot != slot
      owed := (if v = 1 ∧ r.trigger ≠ 0 then [r] else []) ++ a.owed.filter fun q => q.slot != slot
      unq := if bad then (if a.unq.contains slot then a.unq else slot :: a.unq)
        else if v = 2 ∨ v = 3 then a.unq.filter (· != slot) else a.unq }
    let s := if v = 3 ∨ (bad = true ∧ r.trigger ≠ 0) then
        (s.slotCells slot).foldl (fun s i => s.resetCell (slot / 8 * 64 + i)) s
      else s
    let s := if v = 3 ∨ (v = 2 ∧ countOf s.aut.ids slot = 0) then s.enrolId slot x.id.toNat else s
    let stat := [(F.AUT_SLOTST_ST.at (slot / 8)).addr]
    let s := s.applyIf (v == 3) fun s => s.flagEvent F.AUT_IFLAG_SWAP 1 stat
    let s := s.applyIf enters fun s => s.flagEvent F.AUT_IFLAG_UNQ 2 stat
    .next (s.applyIf s.aut.round.isEmpty fun s => s.flag F.AUT_IFLAG_DONE)

end Sys2Proof.Machine
end

