-- ==== Sys2Proof/Machine/Checks.lean ====
section
/-! DEFINITION. What a commit is checked against: cross-field checks on the values it would leave (R82 row 5) and live-unsafe
changes (R82 row 6, R84). A check names the lowest word of the named page that takes part in a breach. -/
namespace Sys2Proof.Machine

/-- The value a field holds after a commit of the named pages. -/
def State.after (s : State) (named : List Nat) (f : Fld) : Nat :=
  bitsOf (if named.contains f.page then s.shadowReg f.addr else s.reg f.addr) f.hi f.lo
def State.afterInt (s : State) (named : List Nat) (f : Fld) : Int := signedOf (f.hi + 1 - f.lo) (s.after named f)
def State.afterOn (s : State) (named : List Nat) (f : Fld) : Bool := s.after named f == 1

/-- The commit changes a field. -/
def State.changes (s : State) (named : List Nat) (f : Fld) : Bool := s.after named f != s.get f

/-- A finding: page and word. -/
abbrev Finding := Nat × Nat

/-- A finding on a named page, if a condition holds. -/
def finding (named : List Nat) (page word : Nat) (bad : Bool) : List Finding :=
  if named.contains page && bad then [(page, word)] else []

/-- The first of some findings: lowest page, then lowest word. -/
def firstFinding : List Finding → Option Finding
  | [] => none
  | x :: l => match firstFinding l with
    | some y => if y.1 < x.1 ∨ (y.1 = x.1 ∧ y.2 < x.2) then some y else some x
    | none => some x

/-- PWR (R68), THY (R122, R124), STK (R127). -/
def State.checkFrame (s : State) (n : List Nat) : List Finding :=
  let period := periodOf (s.after n F.THY_PERIOD_SEL)
  let split := s.after n F.STK_CFG_SPLIT
  finding n 0x06 0x08 (!s.afterOn n F.PWR_LAYCFG_SHORE_EN && !s.afterOn n F.PWR_LAYCFG_WAKEN_EN) ++
  finding n 0x03 0x08 (decide (3 * period < s.after n F.THY_QUIET_LEAD)) ++
  finding n 0x03 0x0A (decide (s.after n F.THY_TRIG_SRC = 2) && !s.hasM) ++
  finding n 0x07 0x08 (decide (split ≠ 15) && decide (s.dies < split))

/-- Fast cells of a die after the commit. -/
def State.fastAfter (s : State) (n : List Nat) (k : Nat) : Nat :=
  let bits := s.after n (F.MD_FAST_LO_FAST.on k) + s.after n (F.MD_FAST_HI_FAST.on k) * 4294967296
  (cellList.filter (bit bits)).length

/-- The word of die `k`'s fast-cell mask that the commit adds cells to. -/
def State.fastAdds (s : State) (n : List Nat) (k : Nat) : Option Nat :=
  let adds := fun (f : Fld) => decide ((s.after n f &&& (s.get f ^^^ 0xFFFFFFFF)) ≠ 0)
  if adds (F.MD_FAST_LO_FAST.on k) then some 0x0C else if adds (F.MD_FAST_HI_FAST.on k) then some 0x0D else none

/-- The lowest word of a page written while it was pending (R87). -/
def lowestWord (written : List Nat) (page : Nat) : Nat := ((written.find? fun a => a / 256 == page).getD (page * 256)) % 256

/-- The single-path load (R128): 96.9 Mbit/s at most, where the commit raises it. -/
def State.checkLoad (s : State) (n : List Nat) : List Finding :=
  let period := periodOf (s.after n F.THY_PERIOD_SEL)
  let pages := n.filter fun p => p == 0x03 || (decide (0x20 ≤ p) && decide (p ≤ 0x27))
  let load := loadOf s.dies period (s.dieList.map (s.fastAfter n))
  let was := loadOf s.dies s.period (s.dieList.map s.fastCount)
  if pages = [] ∨ load ≤ 96900000 ∨ load ≤ was then []
  else if n.contains 0x03 && decide (period < periodOf (s.get F.THY_PERIOD_SEL)) then [(0x03, 0x08)]
  else match (s.dieList.find? fun k => n.contains (0x20 + k) && (s.fastAdds n k).isSome) with
    | some k => [(0x20 + k, (s.fastAdds n k).getD 0)]
    | none => (pages.take 1).map fun p => (p, lowestWord s.commit.written p)

/-- MD (R134, R149) and BL pages. -/
def State.checkDies (s : State) (n : List Nat) : List Finding :=
  let md := n.filter fun p => decide (0x20 ≤ p) && decide (p ≤ 0x27)
  let corner := fun (k : Nat) => s.after n (F.MD_FILT_CORNER.on k)
  let odd := if md = [] then [] else ((s.dieList.filter fun k => corner k != corner 0).take 1).map fun k => (0x20 + k, 0x08)
  odd ++
  (s.dieList.flatMap fun k => (List.range 16).flatMap fun q =>
    finding n (0x20 + k) (0x10 + q)
      (decide (s.after n ((F.MD_NTCMAP_LAST.on k).at q) < s.after n ((F.MD_NTCMAP_FIRST.on k).at q)))) ++
  (s.dieList.flatMap fun k =>
    finding n (0x28 + k) 0x09 (decide (s.after n (F.BL_AUTO_THR.on k) ≤ s.after n (F.BL_AUTO_HYST.on k))))

/-- CUR (R202) and CMP (R169). -/
def State.checkThresholds (s : State) (n : List Nat) : List Finding :=
  let r := s.after n F.CUR_SHUNT_R
  let aboveRange := fun (f : Fld) => decide (1900000 < s.after n f * r)
  let gov := s.after n F.CMP_GOV_MV
  let guv := s.after n F.CMP_GUV_MV
  finding n 0x08 0x08 (aboveRange F.CUR_OCTH_DIS || aboveRange F.CUR_OCTH_CHG) ++
  finding n 0x11 0x08 (decide (s.after n F.CMP_AOV_MV < gov + 150) || decide (gov < guv + 500)) ++
  finding n 0x11 0x09 (decide (guv < s.after n F.CMP_AUV_MV + 150))

/-- The pairs of R170: a firmware value, and whether it must lie above CMP_GUV (else below CMP_GOV). -/
def r170Pairs : List (Fld × Bool) := [(F.PRT_VCELL_UV, true), (F.PRT_VCELL_OV, false), (F.LIM_EOD3_EOD3, true),
  (F.LIM_EOC3_EOC3, false), (F.LIM_VLIM_VDIS, true), (F.LIM_VLIM_VCHG, false), (F.SGE_VSHUT_MV, true)]

/-- R170: reported on the lowest named page of SGE, LIM, PRT and CMP, at its lowest word that holds a value of a broken pair,
else of any pair. -/
def State.checkOrders (s : State) (n : List Nat) : List Finding :=
  let cmp := fun (above : Bool) => if above then F.CMP_GUV_MV else F.CMP_GOV_MV
  let broken := r170Pairs.filter fun p =>
    (n.contains p.1.page || n.contains 0x11) &&
      (if p.2 then decide (s.after n p.1 ≤ s.after n F.CMP_GUV_MV) else decide (s.after n F.CMP_GOV_MV ≤ s.after n p.1))
  let words := fun (l : List (Fld × Bool)) (page : Nat) =>
    (l.flatMap fun p => [(p.1.page, p.1.word), ((cmp p.2).page, (cmp p.2).word)]).filter fun w => w.1 == page
  match ([0x0C, 0x0E, 0x10, 0x11].find? fun p => n.contains p) with
  | some page =>
    if broken = [] then []
    else match firstFinding (words broken page) with
      | some w => [w]
      | none => (firstFinding (words r170Pairs page)).toList
  | none => []

/-- LIM (R243), with the orders against CMP in `checkOrders`. -/
def State.checkLimits (s : State) (n : List Nat) : List Finding :=
  let g := s.after n
  let temps := (List.range 8).map fun i => s.afterInt n (F.LIM_DERATE_TEMP.at i)
  finding n 0x0E 0x0A (decide (g F.LIM_ZWIN_G10 < g F.LIM_ZWIN_G2) || decide (g F.LIM_ZWIN_G30 < g F.LIM_ZWIN_G10)) ++
  finding n 0x0E 0x0E (decide (g F.LIM_EOD12_EOD1 ≤ g F.LIM_EOD12_EOD2) || decide (g F.LIM_EOD12_EOD2 ≤ g F.LIM_EOD3_EOD3)) ++
  finding n 0x0E 0x10 (decide (g F.LIM_EOC12_EOC2 ≤ g F.LIM_EOC12_EOC1) || decide (g F.LIM_EOC3_EOC3 ≤ g F.LIM_EOC12_EOC2)) ++
  ((List.range 7).flatMap fun i => finding n 0x0E (0x18 + i) (decide (entry temps (i + 1) ≤ entry temps i)))

/-- PRT (R263), with VCELL in `checkOrders` and the identifier in `checkIds`. -/
def State.checkPrt (s : State) (n : List Nat) : List Finding :=
  let auxen := s.after n F.PRT_DRV_AUXEN
  let input := fun (m : Nat) => s.after n F.PRT_DRV_AUXMAP / 4 ^ m % 4
  let shared := [(0, 1), (0, 2), (0, 3), (1, 2), (1, 3), (2, 3)].any fun (p : Nat × Nat) =>
    bit auxen p.1 && bit auxen p.2 && input p.1 == input p.2
  finding n 0x10 0x08 (decide (s.after n F.PRT_DRV_EN % 4 ≠ 3) || decide (auxen % 4 ≠ 3) || shared) ++
  finding n 0x10 0x0A (decide (s.after n F.PRT_COILLIM_IMAX ≤ s.after n F.PRT_COILLIM_IMIN)) ++
  finding n 0x10 0x10 (decide (s.after n F.PRT_DEAD_TORD < s.after n F.PRT_FAST_TFAST))

/-- The identifiers of a CAN port after the commit: page, word, value (R115). -/
def State.portIds (s : State) (n : List Nat) (port : Nat) : List (Nat × Nat × Nat) :=
  let req := s.after n (F.HST_CAN0ID_REQID.at port)
  let on := fun (f : Fld) => s.after n f == port
  [(0x01, 0x0B + port, req), (0x01, 0x0B + port, req + 1)] ++
  (if on F.PRT_CAN_PORT then [(0x10, 0x15, s.after n F.PRT_CAN_ID)] else []) ++
  (if on F.KRG_CAN_PORT then [(0x12, 0x0A, s.after n F.KRG_CAN_ID)] else []) ++
  (if on F.SCH_CFG_PORT then [(0x19, 0x09, s.after n F.SCH_RXID_ID), (0x19, 0x0A, s.after n F.SCH_TXID_ID)] else [])

/-- The identifiers of a port that break R115: equal to another, or too long for 11 bits. -/
def State.badIds (s : State) (n : List Nat) (port : Nat) : List Finding :=
  let ids := s.portIds n port
  let wide := s.afterOn n (F.HST_CAN0CFG_IDE.at port)
  (ids.filter fun x => (!wide && decide (0x7FF < x.2.2)) ||
    decide (2 ≤ (ids.filter fun y => y.2.2 == x.2.2).length)).map fun x => (x.1, x.2.1)

/-- R115: an offending identifier on a named page; else the lowest named page among HST, PRT, KRG and SCH whose change takes
part, at its lowest such word. -/
def State.checkIds (s : State) (n : List Nat) : List Finding :=
  let pages := [0x01, 0x10, 0x12, 0x19].filter fun p => n.contains p
  let ports := [0, 1].filter fun p => s.badIds n p != []
  if pages = [] ∨ ports = [] then []
  else
    let held := (ports.flatMap (s.badIds n)).filter fun f => n.contains f.1
    if held ≠ [] then held
    else
      let words : List Finding := (ports.flatMap fun p => [(0x01, 0x09 + p), (0x01, 0x0B + p)]) ++
        [(0x10, 0x15), (0x12, 0x0A), (0x19, 0x08), (0x19, 0x09), (0x19, 0x0A)]
      let changed := words.filter fun w => n.contains w.1 && s.shadowReg (addrOf w.1 w.2) != s.reg (addrOf w.1 w.2)
      if changed ≠ [] then changed else (words.filter fun w => n.contains w.1).take 1

/-- AUT (R284). -/
def State.checkSlots (s : State) (n : List Nat) : List Finding :=
  let on := fun (j : Nat) => s.afterOn n (F.AUT_MAP_EN.at j)
  let first := fun (j : Nat) => s.after n (F.AUT_MAP_FIRST.at j)
  let last := fun (j : Nat) => s.after n (F.AUT_MAP_LAST.at j)
  if n.contains 0x0F = false then []
  else (List.range 64).flatMap fun j => finding n 0x0F (0x10 + j)
    (on j && (decide (last j < first j) || (List.range 64).any fun i =>
      decide (j < i) && decide (i / 8 = j / 8) && on i && decide (first i ≤ last j)))

/-- SAF and SCH (R401), with the identifiers in `checkIds`. -/
def State.checkSafety (s : State) (n : List Nat) : List Finding :=
  let rx := s.after n F.SCH_CONNRX_ID
  let tx := s.after n F.SCH_CONNTX_ID
  finding n 0x18 0x0A (decide (s.after n F.SAF_BRK0_IMAX ≤ s.after n F.SAF_BRK0_IMIN)) ++
  finding n 0x18 0x0B (decide (s.after n F.SAF_BRK1_IMAX ≤ s.after n F.SAF_BRK1_IMIN)) ++
  finding n 0x19 0x08 (s.afterOn n F.SCH_CFG_EN && (decide (rx = 0) || decide (tx = 0))) ++
  finding n 0x19 0x0B (decide (rx = tx)) ++
  finding n 0x19 0x09 (decide (s.after n F.SCH_RXID_ID = s.after n F.SCH_TXID_ID))

/-- The fields of an axis whose change clears HOMED (R335). -/
def motorFields : List Fld := [F.AX_CFG_TYPE, F.AX_CFG_MSTEP, F.AX_CFG_ENC, F.AX_CFG_DIR, F.AX_MOTOR_CPR, F.AX_MOTOR_POLES]

/-- MOT, AX, GDR and GD pages (R334, R335, R346, R347, R356, R357, R360). -/
def State.checkMotion (s : State) (n : List Nat) : List Finding :=
  let g := s.after n
  let hatch := g F.MOT_ROLE_HATCH
  finding n 0x40 0x09 (decide (hatch = g F.MOT_ROLE_LOCK) && decide (hatch ≠ 7)) ++
  finding n 0x48 0x09 (decide (100 + 5 * g F.GDR_VGG_SET < g F.GDR_BST_WARN + 15)) ++
  finding n 0x48 0x0B (decide (g F.GDR_CHOP_VON < g F.GDR_CHOP_VOFF + 10)) ++
  axisList.flatMap fun a =>
    let p := 0x41 + a
    finding n p 0x08 (decide (g (F.AX_CFG_TYPE.on a) = 1) && decide (g (F.AX_CFG_ENC.on a) = 0)) ++
    finding n p 0x0A (decide (g (F.AX_CURR_IRUN.on a) < g (F.AX_CURR_IHOLD.on a))) ++
    finding n p 0x0D (decide (g (F.AX_DSTOP_VAL.on a) < g (F.AX_DMAX_VAL.on a))) ++
    finding n p 0x10 (decide (s.afterInt n (F.AX_SOFTHI_POS.on a) ≤ s.afterInt n (F.AX_SOFTLO_POS.on a))) ++
    (motorFields.flatMap fun f => finding n p f.word (s.changes n (f.on a) && !s.axStill a)) ++
    finding n (0x49 + a) 0x08 (decide (g (F.GD_DT_SCHEME.on a) = 0) &&
      decide (g (F.GD_DT_T.on a) * 50 < g (F.GD_SW_TSW.on a) + 50)) ++
    finding n (0x49 + a) 0x09 (decide (g (F.GD_SW_STRMAX.on a) < g (F.GD_SW_STRMIN.on a)))

/-- The first failing page and word of the cross-field checks (R82 row 5). -/
def State.crossField (s : State) (n : List Nat) : Option Finding :=
  firstFinding (s.checkFrame n ++ s.checkLoad n ++ s.checkDies n ++ s.checkThresholds n ++ s.checkOrders n ++ s.checkLimits n ++
    s.checkPrt n ++ s.checkIds n ++ s.checkSlots n ++ s.checkSafety n ++ s.checkMotion n)

/-- The commit raises, lowers a field. -/
def State.raises (s : State) (n : List Nat) (f : Fld) : Bool := decide (s.get f < s.after n f)
def State.lowers (s : State) (n : List Nat) (f : Fld) : Bool := decide (s.after n f < s.get f)

/-- Membership of an axis changes while an axis of its old or its new group is off standstill (R84). -/
def State.groupUnsafe (s : State) (n : List Nat) : Bool :=
  let new := fun (a : Nat) => s.after n F.MOT_GROUP_GRP / 4 ^ a % 4
  axisList.any fun a => s.groupOf a != new a && axisList.any fun x =>
    !s.axStill x && (x == a || (s.groupOf a != 0 && s.groupOf x == s.groupOf a) || (new a != 0 && new x == new a))

/-- The first live-unsafe change (R82 row 6, R84, R202). -/
def State.liveUnsafe (s : State) (n : List Nat) : Option Finding :=
  let cd := s.live 0x11
  firstFinding (
    finding n 0x08 0x08 (cd && s.raises n F.CUR_SHUNT_R) ++
    finding n 0x08 0x0A (cd && (s.raises n F.CUR_OCTH_DIS || s.raises n F.CUR_OCTH_CHG)) ++
    finding n 0x08 0x0B (cd && s.raises n F.CUR_OCCFG_DEGLITCH) ++
    finding n 0x10 0x08 (s.live 0x10 && [F.PRT_DRV_AUXMAP, F.PRT_DRV_AUXEN, F.PRT_DRV_EN].any (s.changes n)) ++
    finding n 0x10 0x09 (s.live 0x10 && [F.PRT_ECON_HOLD, F.PRT_ECON_PULL].any (s.changes n)) ++
    finding n 0x11 0x08 (cd && s.raises n F.CMP_GOV_MV) ++
    finding n 0x11 0x09 (cd && s.lowers n F.CMP_GUV_MV) ++
    finding n 0x11 0x0A (cd && s.raises n F.CMP_AOV_MV) ++
    finding n 0x11 0x0B (cd && s.lowers n F.CMP_AUV_MV) ++
    finding n 0x11 0x0C (cd && s.raises n F.CMP_GCONF_CONF) ++
    finding n 0x40 0x08 (s.groupUnsafe n) ++
    axisList.flatMap fun a => finding n (0x49 + a) 0x08 (s.switching a &&
      [F.GD_DT_SCHEME.on a, F.GD_DT_T.on a].any (s.changes n)))

end Sys2Proof.Machine
end

