-- ==== Sys2Proof/Machine/LoadSwitch.lean ====
section
/-! DEFINITION. Load switches (R365 to R377). -/
namespace Sys2Proof.Machine
open Host

/-- The channels LS0 to LS15 and the zones. -/
def chanList : List Nat := List.range 16
def zoneList : List Nat := List.range 8

/-- What is kept for channel `n`. -/
def State.chan (s : State) (n : Nat) : ChanSt := (s.ls.chans[n]?).getD {}

/-- Change what the load switches keep. -/
def State.onLs (s : State) (f : LoadSt → LoadSt) : State := { s with ls := f s.ls }

/-- The bit of channel `n` in a field of its page. -/
def chanBit (f : Fld) (n : Nat) : Fld := (f.on (n / 8)).bit (n % 8)

/-- The field of channel `n` in an array of its page. -/
def chanField (f : Fld) (n : Nat) : Fld := (f.on (n / 8)).at (n % 8)

/-- Channel `n` is on. -/
def State.chanOn (s : State) (n : Nat) : Bool := (s.chan n).state == 1 || (s.chan n).state == 2

/-- The page status words follow the channels. -/
def State.showChans (s : State) : State :=
  let s := chanList.foldl (fun s n =>
    (s.setOn (chanBit F.LSA_PSTAT_ON n) (s.chanOn n)).setOn (chanBit F.LSA_PSTAT_LATCHED n) ((s.chan n).state == 4)) s
  (s.setOn F.LSW_PSTAT_ANYON (chanList.any s.chanOn)).setOn F.LSW_PSTAT_ZONEHOT (!s.ls.hot.isEmpty)

/-- Change a channel. -/
def State.onChan (s : State) (n : Nat) (f : ChanSt → ChanSt) : State :=
  (s.onLs fun l => { l with chans := l.chans.modify n f }).showChans

/-- OL of a channel goes back to 0, at a turn-on or with OLEN at 0; each change sets OLCHG (R370). -/
def State.dropOpenLoad (s : State) (n : Nat) : State :=
  if (s.chan n).openLoad then (s.onChan n fun c => { c with openLoad := false }).flag (chanBit F.LSA_IFLAG_OLCHG n) else s

/-- Turn a channel on: its inrush window opens (R367). -/
def State.chanTurnOn (s : State) (n : Nat) : State :=
  (s.dropOpenLoad n).onChan n fun c => { c with
    state := 2, onAt := s.now, inrushEnd := s.now + s.get (chanField F.LSA_CH_TINR n) * 1000, limitAt := none }

/-- The current limit of a channel in mA: ILIM, three times that in its inrush window (R367). -/
def State.chanLimit (s : State) (n : Nat) (inrush : Bool) : Nat :=
  s.get (chanField F.LSA_CH_ILIM n) * (if inrush then 300 else 100)

/-- A committed ILIM applies: a channel whose present current is above a limit that has been lowered enters limiting now (R368). -/
def State.lowerLimit (s before : State) (n : Nat) : State :=
  let c := s.chan n
  if c.state == 1 && decide (s.chanLimit n false < c.present) && decide (c.present ≤ before.chanLimit n false) then
    s.onChan n fun c => { c with limitAt := some s.now }
  else s

/-- Turn a channel off by command: no fault; a channel in WAIT also ends there (R375, R377). -/
def State.chanTurnOff (s : State) (n : Nat) : State :=
  if (s.chan n).state = 4 then s
  else s.onChan n fun c => { c with state := 0, offAt := if s.chanOn n then s.now else c.offAt }

/-- A channel enters LATCHED (R374). -/
def State.chanLatch (s : State) (n : Nat) : State :=
  if (s.chan n).state = 4 then s
  else (s.onChan n fun c => { c with state := 4 }).flagEvent (chanBit F.LSA_IFLAG_LATCH n) 2

/-- A fault turn-off with its cause: the channel waits or latches (R374). -/
def State.chanFault (s : State) (n cause : Nat) : State :=
  let s := (s.onChan n fun c => { c with state := 3, cause := cause, offAt := s.now }).flagEvent (chanBit F.LSA_IFLAG_FAULT n) 1
  if s.on (chanField F.LSA_CH_MODE n) || (s.chan n).left == 0 then s.chanLatch n else s

/-- All outputs off as by the host, with their commands cleared (R366, R407). -/
def State.loadsOff (s : State) : State :=
  let s := chanList.foldl (fun s n => s.chanTurnOff n) s
  (s.set F.LSA_OUT_ON 0).set (F.LSA_OUT_ON.on 1) 0

/-- A write to LSA_OUT or LSB_OUT, `i` = 0 or 1 (R366, R376, R409). After PWR_FAIL the outputs stay off (R56; log entry 122). -/
def State.writeLsOut (s : State) (i : Nat) (v : Word) : State × Option Nat :=
  let bits := bitsOf v 7 0
  let on := (List.range 8).filter (bit bits)
  if !on.isEmpty && (!s.enabled (0x51 + i) || !s.enabled 0x50 || s.pwr.phase == .holdup) then (s, some 0x0A)
  else if on.any fun c => (s.chan (8 * i + c)).state == 4 then (s, some 0x0A)
  else if bit (s.get F.TMP_LATCH_LATCHED) 9 && on.any (fun c => !s.chanOn (8 * i + c)) then (s, some 0x0A)
  else
    let s := s.set (F.LSA_OUT_ON.on i) bits
    ((List.range 8).foldl (fun s c =>
      let n := 8 * i + c
      if bit bits c then (if (s.chan n).state = 0 then s.chanTurnOn n else s)
      else if s.chanOn n then s.chanTurnOff n
      else s) s, none)

/-- A clear of channel `n`: STATE OFF, LEFT reloaded, its command bit cleared (R376). -/
def State.clearChan (s : State) (n : Nat) : State :=
  let left := s.get (chanField F.LSA_CH_RETRY n)
  (s.onChan n fun c => { c with state := 0, left := left, offAt := if s.chanOn n then s.now else c.offAt }).setOn
    (chanBit F.LSA_OUT_ON n) false

/-- A write to LSA_CLR or LSB_CLR (R376). -/
def State.writeLsClr (s : State) (i : Nat) (v : Word) : State × Option Nat :=
  (((List.range 8).filter (bit (bitsOf v 7 0))).foldl (fun (s : State) c => s.clearChan (8 * i + c)) s, none)

/-- INRUSH_END: the inrush window ends at its length (R367). -/
def execInrushEnd (n : Nat) (s : State) : Outcome State Fault Refusal :=
  if n < 16 ∧ (s.chan n).state = 2 then
    .next ((s.advanceTo (s.chan n).inrushEnd).onChan n fun c => { c with state := 1 })
  else .next s

/-- LIMIT_TIME: a channel has been in current limit for TLIM since a moment, or since a commit that lowered ILIM beneath its current;
limiting inside its inrush window does not count (R368). -/
def execLimitTime (x : InLimit) (s : State) : Outcome State Fault Refusal :=
  if x.chan < 16 ∧ (s.chan x.chan).state = 1 then
    let start := max ((s.chan x.chan).limitAt.getD x.since) (s.chan x.chan).inrushEnd
    .next ((s.advanceTo (start + s.get (chanField F.LSA_CH_TLIM x.chan) * 1000)).chanFault x.chan 1)
  else .next s

/-- OPEN_LOAD_CHANGE: an off output above 4.0 V, or below 2.0 V, for 10 ms with the source of a channel on (R370). -/
def execOpenLoadChange (n : Nat) (above : Bool) (s : State) : Outcome State Fault Refusal :=
  if s.running ∧ n < 16 ∧ s.on (chanField F.LSA_CH_OLEN n) = true ∧ s.chanOn n = false ∧ (s.chan n).openLoad ≠ above then
    .next (((s.advanceTo ((s.chan n).offAt + 10000)).onChan n fun c => { c with openLoad := above }).flag
      (chanBit F.LSA_IFLAG_OLCHG n))
  else .next s

/-- The channels of a zone that are on. -/
def State.zoneOn (s : State) (z : Nat) : List Nat := [2 * z, 2 * z + 1].filter s.chanOn

/-- ZONE_HOT: a zone crosses 150 °C with the instantaneous currents of its two channels, mA (R372). -/
def execZoneHot (z even odd : Nat) (s : State) : Outcome State Fault Refusal :=
  if s.running && decide (z < 8) && !s.ls.hot.contains z then
    let on := s.zoneOn z
    let s := (s.onLs fun l => { l with hot := z :: l.hot }).flag F.LSW_IFLAG_ZONE
    match on with
    | [] => .next s.showChans
    | [n] => .next (s.chanFault n 2)
    | _ =>
      let first := if even < odd then 2 * z + 1 else 2 * z
      let s := s.onLs fun l => { l with
        second := (z, 4 * z + 1 - first, s.now + 2000) :: l.second.filter fun e => e.1 != z }
      .next (s.chanFault first 2)
  else .next s

/-- ZONE_SECOND_CHECK: 2 ms later the zone is still at or above 150 °C, or no longer (R372). -/
def execZoneSecondCheck (z : Nat) (still : Bool) (s : State) : Outcome State Fault Refusal :=
  match (s.ls.second.find? fun e => e.1 == z) with
  | none => .next s
  | some e =>
    let s := (s.advanceTo e.2.2).onLs fun l => { l with second := l.second.filter fun x => x.1 != z }
    if still && s.ls.hot.contains z && s.chanOn e.2.1 then .next ((s.chanFault e.2.1 3).flag F.LSW_IFLAG_ZONE2)
    else .next s

/-- ZONE_COOL: a zone falls to 130 °C; one with a sensor fault goes on counting as hot (R371). -/
def execZoneCool (z : Nat) (s : State) : Outcome State Fault Refusal :=
  if s.ls.sensor.contains z then .next s else .next (s.onLs fun l => { l with hot := l.hot.filter (· != z) }).showChans

/-- A zone sensor reads open or short: both channels off and latched (R371). -/
def State.sensorFault (s : State) (z : Nat) : State :=
  let s := (s.onLs fun l => { l with
    sensor := z :: l.sensor.filter (· != z), hot := z :: l.hot.filter (· != z) }).flagEvent F.LSW_IFLAG_SENSOR 2
  [2 * z, 2 * z + 1].foldl (fun (s : State) n =>
    (s.onChan n fun c => { c with cause := 6, offAt := if s.chanOn n then s.now else c.offAt }).chanLatch n) s

/-- ZONE_SENSOR_FAULT. -/
def execZoneSensorFault (z : Nat) (s : State) : Outcome State Fault Refusal :=
  if s.running ∧ z < 8 ∧ s.ls.sensor.contains z = false then .next (s.sensorFault z) else .next s

/-- SHED: the total above 16 A in 100 consecutive frames: the highest-numbered channel that is on latches off (R373). -/
def execShed (s : State) : Outcome State Fault Refusal :=
  if 100 ≤ s.ls.overCount then
    let s := s.onLs fun l => { l with overCount := 0 }
    match (chanList.filter s.chanOn).getLast? with
    | none => .next s
    | some n =>
      let s := (s.onChan n fun c => { c with cause := 4, offAt := s.now }).flagEvent F.LSW_IFLAG_SHED 1
      .next (s.chanLatch n)
  else .next s

/-- The thermal pause of restarts runs: the C-die is throttled and PAUSE since the last restart has not passed (R405, R406). -/
def State.restartPause (s : State) : Bool :=
  bit (s.get F.TMP_THR_THROTTLE) 9 && (match s.tmp.lastRestart with
    | some t => decide (s.now < t + s.get F.TMP_CFG_PAUSE * 1000000)
    | none => false)

/-- Rows 1 and 2 of R375 for a channel in WAIT. -/
def State.endWaiting (s : State) (n : Nat) : State :=
  if (s.chan n).state ≠ 3 then s
  else if !s.on (chanBit F.LSA_OUT_ON n) then s.onChan n fun c => { c with state := 0 }
  else if s.on (chanField F.LSA_CH_MODE n) then s.chanLatch n
  else s

/-- LS_RESTART: a channel in WAIT is checked at a frame boundary, and at no other moment (R375). One whose LEFT a commit has lowered to
0 has no restart left, and waits on (log entry 123). -/
def execLsRestart (n : Nat) (s : State) : Outcome State Fault Refusal :=
  if n < 16 ∧ (s.chan n).state = 3 ∧ s.now = s.thy.boundary then
    let s := s.endWaiting n
    if (s.chan n).state ≠ 3 then .next s
    else if s.now < (s.chan n).offAt + s.get F.LSW_CFG_TRST * 1000 then .next s
    else if s.ls.hot.contains (n / 2) || s.restartPause || (s.chan n).left == 0 then .next s
    else
      let s := { s with tmp := { s.tmp with lastRestart := some s.now } }.onChan n fun c => { c with left := c.left - 1 }
      .next (s.chanTurnOn n)
  else .next s

/-- LEFT_RELOAD: a channel on for TGOOD without a fault (R376). -/
def execLeftReload (n : Nat) (s : State) : Outcome State Fault Refusal :=
  if n < 16 ∧ s.chanOn n = true then
    let s := s.advanceTo ((s.chan n).onAt + s.get F.LSW_CFG_TGOOD * 1000000)
    let left := s.get (chanField F.LSA_CH_RETRY n)
    .next (s.onChan n fun c => { c with left := left })
  else .next s

/-- The load switches at RUN: LEFT from RETRY, sensor faults found by start-up. -/
def State.loadsAtRun (s : State) (zones : List Nat) : State :=
  let s := s.onLs fun l => { l with chans := chanList.map fun n => { left := s.get (chanField F.LSA_CH_RETRY n) } }
  ((zones.filter (· < 8)).foldl (fun s z => s.sensorFault z) s).showChans

/-- The inrush window of a channel was open in the frame that ends now. -/
def State.inrushInFrame (s : State) (n : Nat) : Bool := decide (s.now < (s.chan n).inrushEnd + s.period)

/-- The mean current of a channel that is on over the frame, mA: what its load would draw, up to the limit (R367, R369). -/
def State.chanCurrent (s : State) (n ma : Nat) : Nat := min ma (s.chanLimit n (s.inrushInFrame n))

/-- The channel was in current limit in the frame: its load would have drawn more than the limit (R367). -/
def State.chanLimits (s : State) (n ma peak : Nat) : Bool :=
  s.chanOn n && decide (s.chanLimit n (s.inrushInFrame n) < max ma peak)

/-- The frame of the load switches publishes (R24, R369), with what each load would draw in mA, mean and highest, and the zone
temperatures. -/
def State.publishLoads (s : State) (seq : Word) (ma peaks : List Nat) (zones : List Int) : State :=
  let s := chanList.foldl (fun s n =>
    let retry := s.get (chanField F.LSA_CH_RETRY n)
    let s := if retry < (s.chan n).left then s.onChan n fun c => { c with left := retry } else s
    let s := if s.on (chanField F.LSA_CH_OLEN n) then s else s.dropOpenLoad n
    let lim := s.chanLimits n (entryNat ma n) (entryNat peaks n)
    let s := s.onChan n fun c => { c with
      present := s.chanCurrent n (entryNat ma n), limitAt := if lim then c.limitAt else none }
    s.endWaiting n) s
  let s := chanList.foldl (fun s n =>
    let c := s.chan n
    let on := s.chanOn n
    let ol := c.openLoad && s.on (chanField F.LSA_CH_OLEN n) && !on
    s.put (chanField F.LSA_ST_STATE n).addr (BitVec.ofNat 32 (seq.toNat % 16 * 2 ^ 28 + c.state * 2 ^ 24 + c.left * 2 ^ 20 +
      c.cause * 65536 + ofBool (s.chanLimits n (entryNat ma n) (entryNat peaks n)) * 32768 + ofBool (c.state == 2) * 16384 + ofBool ol * 8192 +
      min (s.chanCurrent n (entryNat ma n) / 2) 0xFFF))) s
  let total := (chanList.map fun n => s.chanCurrent n (entryNat ma n)).sum
  let temp := fun z => if s.ls.sensor.contains z then 0x8000 else codeOf 16 (entry zones z)
  let s := (List.range 4).foldl (fun s w =>
    s.put (F.LSW_ZT01_ODD.at w).addr (BitVec.ofNat 32 (temp (2 * w + 1) * 65536 + temp (2 * w)))) s
  let s := ((s.set F.LSW_ZSTAT_HOT (bitMap 8 s.ls.hot.contains)).set F.LSW_ZSTAT_SENSOR (bitMap 8 s.ls.sensor.contains)).set
    F.LSW_ITOT_MA (min total 65535)
  let s := s.onLs fun l => { l with overCount := if 16000 < total then l.overCount + 1 else 0 }
  ((s.publish 0x50 seq).publish 0x51 seq).publish 0x52 seq

end Sys2Proof.Machine
end

