-- ==== Sys2Proof/Machine/Commit.lean ====
section
/-! DEFINITION. Commits: decision, steps, the end by a mismatch (R81 to R87, R398), and the adoption of a mirror image (R275). -/
namespace Sys2Proof.Machine
open Host

/-- Change what the commit chapter keeps. -/
def State.onCommit (s : State) (f : CommitSt → CommitSt) : State := { s with commit := f s.commit }

/-- Insert into an ascending list without repeats. -/
def insertNat (x : Nat) : List Nat → List Nat
  | [] => [x]
  | y :: l => if x < y then x :: y :: l else if x = y then y :: l else y :: insertNat x l

/-- A shadow word is written: the page is pending, and the word counts as carried (R80, R87). -/
def State.markPending (s : State) (page word : Nat) : State :=
  s.onCommit fun c => { c with pend := insertNat page c.pend, written := insertNat (addrOf page word) c.written }

/-- The words of a page whose shadow differs from the active copy. -/
def State.changedWords (s : State) (page : Nat) : List (Nat × Word) :=
  (configWords.filter fun w => s.shadowReg (addrOf page w) != s.reg (addrOf page w)).map fun w =>
    (addrOf page w, s.shadowReg (addrOf page w))

/-- The island of the next step: the lowest with a page left; 0xF for none (R83). -/
def nextIsland (pages : List Nat) : Nat := ((List.range 7).find? fun i => pages.any fun p => islandOf p == i).getD 15

/-- The islands of some pages, as bits. -/
def islandBits (pages : List Nat) : Nat := bitMap 7 fun i => pages.any fun p => islandOf p == i

/-- CFG_STAGE. -/
def State.showStage (s : State) (applied todo next state : Nat) : State :=
  (((s.set F.CFG_STAGE_APPLIED applied).set F.CFG_STAGE_TODO todo).set F.CFG_STAGE_NEXT next).set F.CFG_STAGE_STATE state

/-- CFG_RESULT. -/
def State.showResult (s : State) (page word code : Nat) : State :=
  ((s.set F.CFG_RESULT_PAGE page).set F.CFG_RESULT_WORD word).set F.CFG_RESULT_CODE code

/-- A refused commit: code 0x04 in the reply. -/
def State.refuseCommit (s : State) (page word code : Nat) : State × Option Nat :=
  ((s.showResult page word code).flag F.CFG_IFLAG_REFUSE, some 0x04)

/-- A commit is accepted and not complete (R97). -/
def State.commitOpen (s : State) : Bool := s.commit.accepted.isSome

/-- SAF and SCH. -/
def safetyPage (page : Nat) : Bool := page == 0x18 || page == 0x19

/-- Rows 4 to 7 of R82 for the pending pages among those named. -/
def State.decideCommit (s : State) (link : Nat) (pages : List Nat) : State × Option Nat :=
  if pages = [] then ((((s.showResult 0 0 6).showStage 0 0 15 3).flag F.CFG_IFLAG_DONE), none)
  else match s.crossField pages with
    | some f => s.refuseCommit f.1 f.2 1
    | none => match s.liveUnsafe pages with
      | some f => s.refuseCommit f.1 f.2 2
      | none =>
        let seq := s.reg F.CFG_CMTSEQ_SEQ.addr + 1
        let mine := fun (a : Nat) => pages.contains (a / 256)
        let t := (s.put F.CFG_CMTSEQ_SEQ.addr seq).onCommit fun c => { c with
          pend := c.pend.filter fun p => !pages.contains p
          written := c.written.filter fun a => !mine a
          accepted := some {
            pages := pages, words := pages.flatMap s.changedWords, written := c.written.filter mine, seq := seq, link := link
            time := s.now, last := none } }
        ((t.showResult 0 0 0).showStage 0 (islandBits pages) (nextIsland pages) 1, none)

/-- A commit request: CFG_COMMIT, or the COMMIT op (R82, R398). -/
def State.requestCommit (s : State) (l : Link) (v : Word) : State × Option Nat :=
  let n := v.toNat
  if s.commitOpen then s.refuseCommit (if n ≤ 0x7F then n else 0) 0 3
  else if n = 0xFFFF then
    s.decideCommit (linkNo l) (s.commit.pend.filter fun p => s.safUnlocked l || !safetyPage p)
  else if 0x7F < n ∨ n = 0 ∨ n = 2 ∨ s.fitted n = false then s.refuseCommit (if n ≤ 0xFF then n else 0) 0 4
  else if safetyPage n && !s.safUnlocked l then s.refuseCommit n 0 7
  else s.decideCommit (linkNo l) (s.commit.pend.filter (· == n))

/-- The round of every enabled slot that follows ADOPT (R275, R279). -/
def State.adoptRound (s : State) : State := (s.onAut fun a => { a with roundDue := false }).roundOfAll

/-! ### Steps (R83 to R86) -/

/-- What the pages of a step change beside their words, from the state before and the pages applied. -/
def State.afterStep (s before : State) (link : Nat) (pages : List Nat) : State :=
  let has := fun p => pages.contains p
  let changed := fun (f : Fld) => s.get f != before.get f
  let dies := fun (base : Nat) => s.dieList.filter fun k => has (base + k)
  -- Sage: a changed default of an impedance column
  let s := s.applyIf (has 0x0E && (List.range 6).any fun i => s.reg (addrOf 0x0E (0x12 + i)) != before.reg (addrOf 0x0E (0x12 + i)))
    State.rewriteDefaults
  -- slots switched off read 0 (R279)
  let s := if has 0x0F then (s.dieList.flatMap slotsOf).foldl (fun s j =>
      if s.on (F.AUT_MAP_EN.at j) then s
      else (s.onAut fun a => { a with round := a.round.filter fun r => r.slot != j, unq := a.unq.filter (· != j) }).setSlot j 0) s
    else s
  -- the round that follows ADOPT (R275)
  let s := s.applyIf (has 0x0F && s.aut.roundDue) State.adoptRound
  -- host links: a changed port re-initialises, and is back after 11 bits of its rate on an idle bus (R116; log entry 109)
  let s := [0, 1].foldl (fun (s : State) p =>
    let words := [0x09 + p, 0x0B + p]
    if has 0x01 && words.any fun w => s.reg (addrOf 0x01 w) != before.reg (addrOf 0x01 w) then
      (s.put (addrOf 0x01 (0x65 + p)) (withBits (withBits (s.reg (addrOf 0x01 (0x65 + p))) 31 16 0) 1 0
        (if s.on (F.HST_CAN0CFG_EN.at p) then 0 else 3))).onLink (canLink p) fun k => { k with
          joinAt := some (s.now + 88 / 2 ^ s.get (F.HST_CAN0CFG_NBR.at p)) }
    else s) s
  let s := if has 0x01 then [0, 1].foldl (fun (s : State) p => s.settleAttn p (before.attnOn p)) s else s
  -- balancing: cells no longer wanted open (R185)
  let s := (dies 0x28).foldl (fun s k => s.reapplyWanted k) s
  -- stack link: a changed split routes anew at the boundary (R127)
  let s := s.applyIf (has 0x07 && changed F.STK_CFG_SPLIT) fun s => s.onStk fun t => { t with restore := true }
  -- motion: HOMED and the envelopes (R335, R345)
  let s := (if s.hasM then axisList.filter fun a => has (0x41 + a) else []).foldl (fun (s : State) a =>
    let s := s.applyIf (motorFields.any fun f => changed (f.on a)) fun s => s.setHomed a false
    let s := s.applyIf (changed (F.AX_CFG_TYPE.on a) && s.bridges a == 3) fun s => s.clearFourth a
    s.applyIf ([F.AX_SOFTLO_POS, F.AX_SOFTHI_POS, F.AX_CFG_TYPE].any fun f => changed (f.on a)) fun s =>
      let s := s.onAxis a fun x => { x with env := List.replicate 32 {} }
      { s with saved := { s.saved with envs := s.saved.envs.setIfInBounds a (List.replicate 32 {}) } }) s
  -- load switches: lowered limits (R368)
  let s := ((List.range 16).filter fun n => has (0x51 + n / 8)).foldl (fun s n => s.lowerLimit before n) s
  -- starts that waited for the pages (R85)
  let s := s.runStaged.runRecovers pages
  -- safety: the change log and the safety link (R394, R399)
  let s := if has 0x18 || has 0x19 then
      let s := s.logChange link (if s.commit.adopted then 3 else 1) before.safetyCrc s.safetyCrc
      let s := s.put (addrOf 0x18 0x67) s.safetyCrc
      ((s.onCommit fun c => { c with adopted := false }).applyIf (has 0x19) State.applySch)
    else s
  -- a closing that waited for the pages (R85)
  let s := s.endDeferral
  (s.applyIf s.running State.safetyEval).newImage

/-- COMMIT_STEP: at the boundary now due, the pages of one island apply; the first step no sooner than 100 µs after acceptance,
one step at a boundary (R83). -/
def execCommitStep (s : State) : Outcome State Fault Refusal :=
  match s.commit.accepted with
  | none => .next s
  | some c =>
    let b := s.nextBoundary
    if b < c.time + 100 ∨ c.last = some b then .next s
    else
      let s := s.advanceTo b
      let isl := nextIsland c.pages
      let mine := c.pages.filter fun p => islandOf p == isl
      let rest := c.pages.filter fun p => islandOf p != isl
      let words := c.words.filter fun w => mine.contains (w.1 / 256)
      let t := words.foldl (fun (t : State) w => t.setReg w.1 w.2) s
      let t := mine.foldl (fun (t : State) p => t.setReg (addrOf p 5) c.seq) t
      let applied := s.get F.CFG_STAGE_APPLIED + 2 ^ isl
      let todo := s.get F.CFG_STAGE_TODO
      let t := t.onCommit fun k => { k with
        accepted := if rest = [] then none else some { c with
          pages := rest, words := c.words.filter (fun w => !mine.contains (w.1 / 256)), last := some b } }
      let t := t.journalWrite ((words.map fun w => .word w.1 (s.reg w.1)) ++
        mine.map (fun p => .word (addrOf p 5) (s.reg (addrOf p 5))) ++ [.saved s.saved])
      let t := t.showStage applied todo (nextIsland rest) (if rest = [] then 3 else 2)
      let t := t.applyIf (rest == []) fun t => t.flag F.CFG_IFLAG_DONE
      .next (t.afterStep s c.link mine)

/-- R87: the pages left regain their pending bits; what was deferred on them is discarded. -/
def State.abortCommit (s : State) : State :=
  match s.commit.accepted with
  | none => s
  | some c =>
    let first := c.pages.find? fun p => islandOf p == nextIsland c.pages
    let page := first.getD 0
    let closing := (s.prot.waitCommit || (s.prot.waitSince.isSome && s.prtState == 0 && s.on F.KRG_STAT_GRANTED)) && s.closingDeferred
    let starts := if s.hasM then axisList.filter fun a => (s.axis a).staged else []
    let bridges := s.gate.deferred.filter fun a => s.staged (0x49 + a) || s.staged 0x48
    let s := s.applyIf closing fun s => ((s.onProt fun p => { p with waitCommit := false, waitSince := none }).setOn
      F.KRG_STAT_WAIT false).setOn F.KRG_STAT_GRANTED false
    let round := s.aut.roundDue && s.staged 0x0F
    let s := starts.foldl (fun (s : State) a => s.dropStart a 9) s
    let s := s.onGate fun g => { g with deferred := g.deferred.filter fun a => !bridges.contains a }
    let s := s.onCommit fun k => { k with
      accepted := none
      pend := c.pages.foldl (fun l p => insertNat p l) k.pend
      written := (c.written.filter fun a => c.pages.contains (a / 256)).foldl (fun l a => insertNat a l) k.written }
    (((s.set F.CFG_STAGE_STATE 4).showResult page (lowestWord c.written page) 5).flag F.CFG_IFLAG_ABORT).applyIf round
      State.adoptRound

/-! ### Shadows (R81, R88) -/

/-- The shadow of a page takes the active configuration, and the page is no longer pending (R81). -/
def State.discardPage (s : State) (page : Nat) : State :=
  let s := configWords.foldl (fun (s : State) w => s.setShadow (addrOf page w) (s.reg (addrOf page w))) s
  s.onCommit fun c => { c with
    pend := c.pend.filter (· != page), written := c.written.filter fun a => a / 256 != page
    adopted := c.adopted && !safetyPage page }

/-- A write to CFG_DISCARD (R81). -/
def State.writeDiscard (s : State) (v : Word) : State × Option Nat :=
  let n := bitsOf v 15 0
  ((if n = 0xFFFF then s.commit.pend else if s.fitted n && n != 0 && n != 2 then [n] else []).foldl State.discardPage s, none)

/-- A write to CFG_DEFAULT: the Reset values into the shadow of every RWS page (R88, R397). -/
def State.writeDefault (s : State) (l : Link) (v : Word) : State × Option Nat :=
  if s.unlocked l = false then (s, some 0x03)
  else if v ≠ 0xDEF then (s, some 0x0A)
  else
    let pages := s.pages.filter fun p => rwsWords p != [] && (!safetyPage p || s.safUnlocked l)
    (pages.foldl (fun (s : State) p => (rwsWords p).foldl (fun (s : State) w =>
      (s.setShadow (addrOf p w) (s.heldConfig (addrOf p w) (resetWord p w))).markPending p w) s) s, none)

/-! ### Adoption (R275) -/

/-- A cell of a mirror image: it starts with no SOC and no anchor, and not learned yet only where the image counts no learning. -/
def cellOfImage (c : CellImage) : CellSage :=
  { cap := c.cap, l := c.lrn == 0, lrn := c.lrn, err := c.err, nodes := c.nodes.map fun n => (n.node, ⟨n.zf, n.zd, n.count⟩) }

/-- Capacities, impedances, throughput and cycles of an image into both copies, and into what Sage runs on. -/
def State.adoptSage (s : State) (m : MirrorImage) : State :=
  let cells := m.cells.map fun c => (c.key, cellOfImage c)
  let seq := ((s.newestCopy.map fun c => c.seq).getD 0 + 1) % 4294967296
  let copy : SageCopy := ⟨seq, cells, m.ahDis, m.ahChg, m.efc, s.sage.timer⟩
  let s := s.onSage fun g => { g with
    cells := cells, ahDis := m.ahDis, ahChg := m.ahChg, efc := m.efc, copyA := some copy, copyB := some copy
    badA := false, badB := false, wbData := none }
  s.showThroughput

/-- ADOPT_FETCH_DONE: the fetch of an image ends; only a complete one that passes its CRC applies (R275). -/
def execAdoptFetchDone (ok : Bool) (m : MirrorImage) (s : State) : Outcome State Fault Refusal :=
  if s.ring.fetching = false then .next s
  else
    if ok = false then .next s.fetchFailed
    else
      let taken := fun (p : Nat) => s.fitted p && rwsWords p != []
      let pages := s.pages.filter fun p => taken p && m.config.any fun w => w.1 / 256 == p
      let t := (m.config.filter fun w => pages.contains (w.1 / 256)).foldl (fun (t : State) w =>
        (t.setShadow w.1 (s.heldConfig w.1 w.2)).markPending (w.1 / 256) (w.1 % 256)) s
      let t := t.applyIf (pages.any safetyPage) fun t => t.onCommit fun c => { c with adopted := true }
      let t := if t.commitOpen then (t.refuseCommit 0 0 3).1
        else (t.decideCommit 0 (pages.filter fun p => !safetyPage p)).1
      let taps := m.taps.filter fun w => decide (0x28 ≤ w.1 / 256) && decide (w.1 / 256 < 0x28 + s.dies)
      let t := taps.foldl (fun (t : State) w => t.put w.1 w.2) t
      let t := t.adoptSage m
      let t : State := { t with cur := { t.cur with gStr := m.gainStr.toInt, gLnk := m.gainLnk.toInt } }
      let t := (t.saveValue F.STV_GSTR_G.addr t.cur.gStr).saveValue F.STV_GLNK_G.addr t.cur.gLnk
      let t := ((t.onAut fun a => { a with anchor := m.anchor, ids := m.ids }).showAnchor).journalWrite
        (taps.map (fun w => .word w.1 (s.reg w.1)) ++
          [.anchor s.aut.anchor, .word F.AUT_ANCHOR_FP.addr (s.reg F.AUT_ANCHOR_FP.addr), .ids s.aut.ids, .saved s.saved,
            .copies s.sage.copyA s.sage.copyB s.sage.badA s.sage.badB])
      let t := if t.staged 0x0F then t.onAut fun a => { a with roundDue := true } else t.roundOfAll
      let t := t.onRing fun r => { r with fetching := false }
      let t := ((t.setOn F.KRG_STAT_REPL false).setOn F.KRG_STAT_RESTORE false).set F.KRG_MIRSTAT_FETCH 2
      .next (t.flag F.KRG_IFLAG_ADOPTED)

/-! ### Passwords (R88, R397) -/

/-- Eight BCD digits. -/
def isBcd (v : Word) : Bool := (List.range 8).all fun i => decide (bitsOf v (4 * i + 3) (4 * i) ≤ 9)

/-- The password state of a kind: the CFG password, or the safety password. -/
def State.password (s : State) (saf : Bool) : PasswordSt := if saf then s.spw else s.pw
def State.onPassword (s : State) (saf : Bool) (f : PasswordSt → PasswordSt) : State :=
  if saf then { s with spw := f s.spw } else { s with pw := f s.pw }

/-- The unlock of a link ends or lapses at a time. -/
def State.setUnlock (s : State) (saf : Bool) (l : Link) (t : Option Nat) : State :=
  s.onLink l fun k => if saf then { k with safUntil := t } else { k with cfgUntil := t }

/-- A lockout is in progress. -/
def State.lockedOut (s : State) (saf : Bool) : Bool :=
  match (s.password saf).lockedUntil with
  | some t => decide (s.now < t)
  | none => false

/-- A wrong value; the fifth in a row starts a lockout, which ends no unlock in force. -/
def State.wrongPassword (s : State) (saf : Bool) (l : Link) : State :=
  if (s.password saf).tries + 1 < 5 then s.onPassword saf fun p => { p with tries := p.tries + 1 }
  else
    let s := s.onPassword saf fun p => { p with tries := 0, lockedUntil := some (s.now + 600000000) }
    if saf then (s.flag F.SAF_IFLAG_LOCKOUT).logChange (linkNo l) 4 s.safetyCrc s.safetyCrc else s.flag F.CFG_IFLAG_LOCKOUT

/-- A write to CFG_UNLOCK or SAF_UNLOCK. -/
def State.writeUnlock (s : State) (saf : Bool) (l : Link) (v : Word) : State × Option Nat :=
  if v = 0xFFFFFFFF then (s.setUnlock saf l none, none)
  else if isBcd v = false then (s, some 0x0A)
  else if s.lockedOut saf then (s, some 0x0A)
  else if v = (s.password saf).pw then
    ((s.onPassword saf fun p => { p with tries := 0, lockedUntil := none }).setUnlock saf l (some (s.now + 300000000)), none)
  else (s.wrongPassword saf l, some 0x0A)

/-- A write to CFG_NEWPW or SAF_NEWPW. -/
def State.writeNewpw (s : State) (saf : Bool) (l : Link) (v : Word) : State × Option Nat :=
  if (if saf then s.safUnlocked l else s.unlocked l) = false then (s, some 0x03)
  else if isBcd v = false then (s, some 0x0A)
  else
    let s := (s.onPassword saf fun p => { p with pw := v }).journalWrite [.password saf (s.password saf).pw]
    (if saf then s.logChange (linkNo l) 2 s.safetyCrc s.safetyCrc else s, none)

/-- UNLOCK_EXPIRY: an unlock lapses 300 s after it was granted. -/
def execUnlockExpiry (l : Link) (saf : Bool) (s : State) : Outcome State Fault Refusal :=
  match (if saf then (s.link l).safUntil else (s.link l).cfgUntil) with
  | none => .next s
  | some t => .next ((s.advanceTo t).setUnlock saf l none)

/-- LOCKOUT_END: a 600 s lockout ends. -/
def execLockoutEnd (saf : Bool) (s : State) : Outcome State Fault Refusal :=
  match (s.password saf).lockedUntil with
  | none => .next s
  | some t => .next ((s.advanceTo t).onPassword saf fun p => { p with lockedUntil := none })

/-! ### Firmware (R89, R90) -/

/-- Change what the update keeps. -/
def State.onFw (s : State) (f : FirmwareSt → FirmwareSt) : State := { s with fw := f s.fw }

/-- The version words SYS shows for the banks. -/
def State.showBanks (s : State) : State :=
  ((s.put F.SYS_FWVER_A_BUILD.addr s.fw.verA).put F.SYS_FWVER_B_BUILD.addr s.fw.verB).setOn F.CFG_FWSTAT_PREF s.fw.prefB

/-- The bank that runs is B. -/
def State.runsB (s : State) : Bool := s.get F.PWR_BOOT_BANK == 1

/-- FWSTAT.STATE. -/
def State.fwState (s : State) : Nat := s.get F.CFG_FWSTAT_STATE

/-- OPEN: the bank that is not running, or in HALT the bank preferred when the boot failed, after an ABANDON the other, becomes the
target, and invalid. DESIGN CHOICE (log entry 62): OFFSET goes back to 0. -/
def State.fwOpen (s : State) : State :=
  let b := if s.pwr.phase == .halt then s.fw.haltPref != s.fw.abandonedInHalt else !s.runsB
  let s := s.onFw fun f => { f with
    targetB := b, waiting := [], verA := if b then f.verA else 0, verB := if b then 0 else f.verB }
  (((s.showBanks.setOn F.CFG_FWSTAT_TARGET b).set F.CFG_FWSTAT_RECEIVED 0).set F.CFG_FWADDR_OFFSET 0).set F.CFG_FWSTAT_STATE 1

/-- ACTIVATE: the target becomes the preferred bank. -/
def State.fwActivate (s : State) : State :=
  let s := (s.onFw fun f => { f with prefB := f.targetB }).journalWrite [.bank s.fw.prefB]
  let s := s.showBanks.set F.CFG_FWSTAT_STATE 5
  s.applyIf (s.pwr.phase == .halt) fun s => s.setOn (if s.fw.targetB then F.PWR_BOOT_B_BAD else F.PWR_BOOT_A_BAD) false

/-- ABANDON: the session closes and the target stays invalid. -/
def State.fwAbandon (s : State) : State :=
  let s := s.onFw fun f => { f with
    waiting := [], verA := if f.targetB then f.verA else 0, verB := if f.targetB then 0 else f.verB
    abandonedInHalt := f.abandonedInHalt || s.pwr.phase == .halt }
  s.showBanks.set F.CFG_FWSTAT_STATE 0

/-- A write to CFG_FWCTL. A command the present state does not allow is refused with code 0x0A. -/
def State.writeFwctl (s : State) (l : Link) (v : Word) : State × Option Nat :=
  let st := s.fwState
  if s.unlocked l = false then (s, some 0x03)
  else match bitsOf v 3 0 with
    | 1 => if st = 2 then (s, some 0x0A) else (s.fwOpen, none)
    | 2 => if st = 1 then (s.set F.CFG_FWSTAT_STATE 2, none) else (s, some 0x0A)
    | 3 => if st = 3 then (s.fwActivate, none) else (s, some 0x0A)
    | 4 => if st = 1 ∨ st = 3 ∨ st = 4 then (s.fwAbandon, none) else (s, some 0x0A)
    | _ => (s, some 0x0A)

/-- A write to CFG_FWDATA: four bytes at OFFSET, which advances by 4 and stops at the end of the bank. They reach the bank through
the MRAM write port, behind everything else that waits for it. -/
def State.writeFwdata (s : State) (v : Word) : State × Option Nat :=
  if s.fwState ≠ 1 then (s, some 0x0A)
  else
    let o := s.get F.CFG_FWADDR_OFFSET
    let s := (s.onFw fun f => { f with waiting := f.waiting ++ [(o, v)] }).offerImage
    ((s.set F.CFG_FWADDR_OFFSET (min (o + 4) 2097148)).count F.CFG_FWSTAT_RECEIVED, none)

/-- FW_VERIFY_DONE: the check of hash and signature ends within 60 ms, with its verdict and the version of the image; it cannot end
before every word has reached the bank. -/
def execFwVerifyDone (pass : Bool) (version : Word) (s : State) : Outcome State Fault Refusal :=
  if s.fwState ≠ 2 ∨ s.fw.waiting ≠ [] then .next s
  else
    let s := s.applyIf pass fun s => (s.onFw fun f => { f with
      verA := if f.targetB then f.verA else version, verB := if f.targetB then version else f.verB }).showBanks
    .next ((s.set F.CFG_FWSTAT_STATE (if pass then 3 else 4)).flag F.CFG_IFLAG_FWDONE)

end Sys2Proof.Machine
end

