-- ==== Sys2Proof/Machine/FaultLine.lean ====
section
/-! DEFINITION. Comparators, fault channels, the fault line and the deadline of protection (R165 to R176, R201, R203, R258,
R408). -/
namespace Sys2Proof.Machine
open Host

/-! ### Sources and the latch (R172, R174, R175) -/

/-- Change what the fault line keeps. -/
def State.onLine (s : State) (f : FaultLineSt → FaultLineSt) : State := { s with line := f s.line }

/-- The OR of the latest codes of all dies: bits 0 to 5 of ACTIVE. -/
def State.codeBits (s : State) : Nat := (s.dieList.foldl (fun acc k => acc ||| (s.die k).code) 0) % 64

/-- ACTIVE: bits 0 to 5 from the codes, bits 6 to 8 as held, bit 9 while a die is recorded in CHAN. -/
def State.showActive (s : State) : State :=
  let own := s.get F.CMP_FLSTAT_ACTIVE / 64 % 8
  let chan := ofBool (s.get F.CMP_FLSTAT_CHAN != 0)
  let s := s.set F.CMP_FLSTAT_ACTIVE (s.codeBits + own * 64 + chan * 512)
  if s.faultAsserted && decide (s.now ≤ s.line.assertedAt + 50) then
    s.set F.CMP_FLSRC_CAUSE (s.get F.CMP_FLSRC_CAUSE ||| s.get F.CMP_FLSTAT_ACTIVE)
  else s

/-- The fault line asserts and latches (R28, R172, R175): the cause, FLT_N, and the contactors (R245). -/
def State.assertLine (s : State) : State :=
  if s.faultAsserted then s
  else
    let s := ((s.setOn F.CMP_FLSTAT_ASSERTED true).setOn F.CMP_PSTAT_FL true).flag F.CMP_IFLAG_FL_SET
    let s := { s with pins := { s.pins with fltN := true } }.onLine fun l => { l with assertedAt := s.now }
    let s := (s.set F.CMP_FLSRC_CAUSE (s.get F.CMP_FLSTAT_ACTIVE)).set F.CMP_FLSRC_FRAME (s.frame.toNat % 65536)
    s.prtTrip

/-- A source of bits 6 to 8 becomes active and asserts the fault line. -/
def State.raiseSource (s : State) (b : Nat) : State :=
  ((s.set F.CMP_FLSTAT_ACTIVE (withBit (s.get F.CMP_FLSTAT_ACTIVE) b true)).assertLine).showActive

/-- A source of bits 6 to 8 ends; the line stays latched. -/
def State.dropSource (s : State) (b : Nat) : State :=
  s.set F.CMP_FLSTAT_ACTIVE (withBit (s.get F.CMP_FLSTAT_ACTIVE) b false)

/-- No source is active: ACTIVE reads 0 and every die sends its carrier. -/
def State.noSource (s : State) : Bool := s.get F.CMP_FLSTAT_ACTIVE == 0 && s.line.silent.isEmpty

/-- The fault line is released (R175). -/
def State.releaseLine (s : State) : State :=
  if s.faultAsserted then
    let s := ((s.setOn F.CMP_FLSTAT_ASSERTED false).setOn F.CMP_PSTAT_FL false).flag F.CMP_IFLAG_FL_REL
    { s with pins := { s.pins with fltN := false } }.prtRelease
  else s

/-- A write to CMP_FLCLR (R175). -/
def State.writeFlclr (s : State) (v : Word) : State × Option Nat :=
  if v = 0x0000C1EA ∧ s.noSource = true then (s.releaseLine, none) else (s, some 0x0A)

/-! ### Fault channels (R173, R174) -/

/-- A die stops its carrier. -/
def State.stopCarrier (s : State) (k : Nat) : State :=
  s.onLine fun l => { l with silent := if l.silent.contains k then l.silent else k :: l.silent }

/-- A source of die `k` drives its fault channel: the bit stands in its code. -/
def State.driveCode (s : State) (k b : Nat) : State :=
  (((s.stopCarrier k).onDie k fun d => { d with code := withBit d.code b true }).assertLine).showActive

/-- FAULT_CHANNEL_LOST: the carrier of die `k` is missing; 5 µs assert the line, and 50 µs without a valid code record the die
(R173). -/
def execFaultChannelLost (k : Nat) (coded : Bool) (s : State) : Outcome State Fault Refusal :=
  if k < s.dies then
    let s := ((s.stopCarrier k).advanceTo (s.now + 5)).assertLine
    .next (if coded then s.showActive
      else ((s.advanceTo (s.now + 45)).set F.CMP_FLSTAT_CHAN (withBit (s.get F.CMP_FLSTAT_CHAN) k true)).showActive)
  else .next s

/-- The number of ones of a byte is odd. -/
def oddParity (b : Nat) : Bool := ((List.range 8).filter (bit b)).length % 2 == 1

/-- TRIP_CODE: a code byte of die `k` (R174). One that fails its parity is ignored. -/
def execTripCode (k : Nat) (code : Byte) (s : State) : Outcome State Fault Refusal :=
  if k < s.dies ∧ oddParity code.toNat = true then
    let s := (s.stopCarrier k).onDie k fun d => { d with code := code.toNat % 64 }
    .next ((s.set F.CMP_FLSTAT_CHAN (withBit (s.get F.CMP_FLSTAT_CHAN) k false)).assertLine.showActive)
  else .next s

/-- CARRIER_RETURN: the die's share of the source bits clears; the line stays latched (R174, R175). -/
def execCarrierReturn (k : Nat) (s : State) : Outcome State Fault Refusal :=
  if k < s.dies then
    let s := (s.onDie k fun d => { d with code := 0 }).onLine fun l => { l with silent := l.silent.filter (· != k) }
    .next (s.set F.CMP_FLSTAT_CHAN (withBit (s.get F.CMP_FLSTAT_CHAN) k false)).showActive
  else .next s

/-! ### Comparators (R165 to R168) -/

/-- CD0 and CD1 are both open. -/
def State.mainOpen (s : State) : Bool := !s.cdClosed 0 && !s.cdClosed 1

/-- The comparators of a cell are excluded from the fault line (R168). -/
def State.excluded (s : State) (k i : Nat) : Bool :=
  !s.inUse k i || s.substituted k i || (s.harness k && s.mainOpen)

/-- A trip bit of a cell in a bitmap of `CMP`. -/
def State.tripBit (s : State) (f : Fld) (k i : Nat) : Bool := bit (s.get (f.at (2 * k + i / 32))) (i % 32)
def State.setTrip (s : State) (f : Fld) (k i : Nat) (v : Bool) : State :=
  let w := f.at (2 * k + i / 32)
  s.set w (withBit (s.get w) (i % 32) v)

/-- The cell whose comparators the next self-test of the die tests: the pointer moved past excluded cells (R171). -/
def State.testCell (s : State) (k : Nat) : Option Nat :=
  ((List.range 64).map fun j => ((s.die k).ctNext + j) % 64).find? fun i => !s.excluded k i

/-- One gated evaluation of a cell at `v` µV (R166, R167): counts, and the end of a trip beyond the hysteresis of 20 mV. -/
def State.gatedCell (s : State) (k : Nat) (v : Int) (i : Nat) : State :=
  let ov : Int := s.get F.CMP_GOV_MV * 1000
  let uv : Int := s.get F.CMP_GUV_MV * 1000
  let s := s.onDie k fun d => { d with
    ovCount := putCount i (if ov < v then countOf d.ovCount i + 1 else 0) d.ovCount
    uvCount := putCount i (if v < uv then countOf d.uvCount i + 1 else 0) d.uvCount }
  let s := s.applyIf (s.tripBit F.CMP_GOVT_TRIP k i && decide (v < ov - 20000)) fun s => s.setTrip F.CMP_GOVT_TRIP k i false
  s.applyIf (s.tripBit F.CMP_GUVT_TRIP k i && decide (uv + 20000 < v)) fun s => s.setTrip F.CMP_GUVT_TRIP k i false

/-- GATED_EVAL: the gated comparators at mid-frame of a quiet frame, with the cell voltages they see, µV, die by die. Excluded
cells and the cell under self-test carry no evaluation (R167). -/
def execGatedEval (cells : List (List Int)) (s : State) : Outcome State Fault Refusal :=
  if s.running && s.thy.quiet then
    let s := s.advanceTo (s.thy.boundary + s.period / 2)
    .next (s.dieList.foldl (fun s k =>
      if s.sampling k then
        let test := s.testCell k
        (cellList.filter fun i => !s.excluded k i && test != some i).foldl (fun s i =>
          s.gatedCell k (entry ((cells[k]?).getD []) i) i) s
      else s) s)
  else .next s

/-- The cells of a die whose count has reached CONF. -/
def State.gatedDue (s : State) (k : Nat) (l : List (Nat × Nat)) : List Nat :=
  cellList.filter fun i => decide (s.get F.CMP_GCONF_CONF ≤ countOf l i) && !s.excluded k i

/-- GATED_TRIP: CONF consecutive evaluations in the trip state trip a cell's gated comparator onto the fault line (R166). -/
def execGatedTrip (s : State) : Outcome State Fault Refusal :=
  if s.running then
    .next (s.dieList.foldl (fun s k =>
      let ov := s.gatedDue k (s.die k).ovCount
      let uv := s.gatedDue k (s.die k).uvCount
      let s := ov.foldl (fun s i => s.setTrip F.CMP_GOVT_TRIP k i true) s
      let s := uv.foldl (fun s i => s.setTrip F.CMP_GUVT_TRIP k i true) s
      (s.applyIf (!ov.isEmpty) fun s => s.driveCode k 0).applyIf (!uv.isEmpty) fun s => s.driveCode k 1) s)
  else .next s

/-- The thresholds of a cell's absolute comparator in µV, and whether it is in span mode (R165, R166). -/
def State.absLimits (s : State) (k i : Nat) : Int × Int × Bool :=
  match (s.die k).spanMode.find? fun e => e.1 == i with
  | some e => (e.2.1, e.2.2, true)
  | none => (s.get F.CMP_AOV_MV * 1000, s.get F.CMP_AUV_MV * 1000, false)

/-- ABSOLUTE_TRIP: the absolute comparator of a cell has seen `v` µV (in span mode, of its span) for its deglitch time: it
trips, or it ends its trip beyond the hysteresis of 50 mV (R165, R166, R168). -/
def execAbsoluteTrip (k i : Nat) (v : Int) (s : State) : Outcome State Fault Refusal :=
  if k < s.dies ∧ i < 64 then
    let l := s.absLimits k i
    let ov := decide (l.1 < v) || (s.tripBit F.CMP_AOVT_TRIP k i && decide (l.1 - 50000 ≤ v))
    let uv := decide (v < l.2.1) || (s.tripBit F.CMP_AUVT_TRIP k i && decide (v ≤ l.2.1 + 50000))
    let s := (s.setTrip F.CMP_AOVT_TRIP k i ov).setTrip F.CMP_AUVT_TRIP k i uv
    if l.2.2 then
      .next (s.applyIf ((ov || uv) && s.inUse k i && !(s.harness k && s.mainOpen)) fun s => s.driveCode k 4)
    else if s.excluded k i then .next s
    else .next ((s.applyIf ov fun s => s.driveCode k 2).applyIf uv fun s => s.driveCode k 3)
  else .next s

/-- The self-test of one comparator of a die, numbered 4 × cell + number: two failures in a row are reported (R171). -/
def State.selfTestOne (s : State) (k c : Nat) (fails : Bool) : State :=
  let d := s.die k
  let again := d.ctFailed.contains c
  let known := d.ctConfirmed.contains c
  let failed := d.ctFailed.filter (· != c)
  let confirmed := d.ctConfirmed.filter (· != c)
  let s := s.onDie k fun d => { d with
    ctFailed := if fails then c :: failed else failed
    ctConfirmed := if fails && (again || known) then c :: confirmed else confirmed }
  s.applyIf (fails && again && !known) fun s =>
    (s.count F.CMP_CTEST_FAILS).flagEvent F.CMP_IFLAG_CTEST 2 [F.CMP_CTEST_FAILS.addr]

/-- The self-test of the four comparators of one cell of a die (R171); `failing` numbers them 4 × die + number. DESIGN CHOICE (log entry
115): the die's bit of CMP_CTEST.DIES clears once every comparator with a confirmed failure has passed a later test. -/
def State.selfTestDie (s : State) (k : Nat) (failing : List Nat) : State :=
  match s.testCell k with
  | none => s
  | some i =>
    let s := (List.range 4).foldl (fun (s : State) c => s.selfTestOne k (4 * i + c) (failing.contains (4 * k + c))) s
    let s := s.onDie k fun d => { d with ctNext := (i + 1) % 64 }
    s.set F.CMP_CTEST_DIES (withBit (s.get F.CMP_CTEST_DIES) k (!(s.die k).ctConfirmed.isEmpty))

/-- COMPARATOR_SELF_TEST: one cell's comparators of every die at boundary + 3P/4 of a quiet frame; `failing` names those that did
not toggle (R171). -/
def execComparatorSelfTest (failing : List Nat) (s : State) : Outcome State Fault Refusal :=
  if s.running && s.thy.quiet then
    let s := s.advanceTo (s.thy.boundary + s.period * 3 / 4)
    .next (s.dieList.foldl (fun s k => if s.sampling k then s.selfTestDie k failing else s) s)
  else .next s

/-! ### The fast overcurrent comparator (R201, R203) -/

/-- FAST_OC_TRIP: U of I_A, in 0.01 µV, has lain at a value for the deglitch time: a side trips, or ends its trip beyond the
hysteresis of 5 %. The comparator stops while M0 sleeps. CUR_OCSTAT shows it with the next publication (R24). -/
def execFastOcTrip (u : Int) (s : State) : Outcome State Fault Refusal :=
  if s.sampling 0 then
    let r := s.get F.CUR_SHUNT_R
    let dis : Int := s.get F.CUR_OCTH_DIS * r * 10
    let chg : Int := s.get F.CUR_OCTH_CHG * r * 10
    let above := fun (th x : Int) (now : Bool) => decide (th < x) || (now && decide (th * 95 ≤ x * 100))
    let d := above dis u s.cur.ocDis
    let c := above chg (-u) s.cur.ocChg
    let fresh := (d && !s.cur.ocDis) || (c && !s.cur.ocChg)
    let s := { s with cur := { s.cur with ocDis := d, ocChg := c } }.setOn F.CUR_PSTAT_OCTRIP (d || c)
    .next (s.applyIf fresh fun s =>
      ({ s with cur := { s.cur with ocTrips := satAdd s.cur.ocTrips 1 65535 } }.flag F.CUR_IFLAG_OC).driveCode 0 5)
  else .next s

/-- OC_SELF_TEST: the test of once a second; two failures in a row are confirmed (R203). -/
def execOcSelfTest (pass : Bool) (s : State) : Outcome State Fault Refusal :=
  if s.running && s.sampling 0 then
    let n := if pass then 0 else s.cur.ocFails + 1
    let s := { s with cur := { s.cur with ocFails := n } }
    .next (s.applyIf (n == 2) fun s =>
      { s with cur := { s.cur with ocTfail := satAdd s.cur.ocTfail 1 255 } }.flagEvent F.CUR_IFLAG_OCTEST 2
        [F.CUR_OCSTAT_TFAIL.addr])
  else .next s

/-! ### The deadline (R256 to R258, R408) -/

/-- The moment island 5 acts on a deadline: for code 0x07 it runs on for 200 ms (R256). -/
def deadlineAct (e : Nat × Nat) : Nat := if e.1 = 0x07 then e.2 + 200000 else e.2

/-- DEADLINE_EXPIRY: CD0 to CD3 are turned off together, under load; for a thermal stop island 5 also acts through the fault
line as source 8 (R258, R408). Without a CD1 hold the opening of CD0 rests on its auxiliary contact (R253 row 4). -/
def execDeadlineExpiry (s : State) : Outcome State Fault Refusal :=
  match s.firstDeadline deadlineAct with
  | none => .next s
  | some e =>
    if s.onBus = false then .next s
    else
      let s := s.advanceTo (deadlineAct e)
      let path := s.get F.PRT_STAT_PATH
      let o : Opening := { todo := [], underload := true, unproven := true, cond := e.1, path := path }
      let s := (s.onProt fun p => { p with closing := none, deadlines := [], opening := some o }).allCoilsOff
      let s := (((s.countUnderload true).setOn F.PRT_LAST_UNDERLOAD true).setPrtState 6).set F.PRT_PATH_COND 0
      let s := (s.flagEvent F.PRT_IFLAG_DEADLINE 2 [F.PRT_LAST_UNDERLOAD.addr, F.PRT_COUNT_UNDERLOAD.addr]).showTargets.openNext 8
      if e.1 = 0x04 then
        let latched := (List.range 10).filter fun d => bit (s.get F.TMP_LATCH_LATCHED) d
        .next ({ s with tmp := { s.tmp with expired := latched } }.raiseSource 8)
      else .next s

/-! ### Publication (R24) -/

/-- The words of the CMP page that publish with frames: trip bitmaps and CMP_FLSTAT. -/
def cmpTied : List Nat := (List.range 64).map (0x60 + ·) ++ [0xA0]

/-- The present words are held for the frame that begins. -/
def State.cmpHold (s : State) : State :=
  s.onLine fun l => { l with held := cmpTied.map fun w => (w, s.reg (addrOf 0x11 w)) }

/-- A boundary: what the last one held publishes with its frame, and the present words are held. -/
def State.cmpBoundary (s : State) (seq : Word) : State :=
  ((s.onLine fun l => { l with shown := l.held }).cmpHold).publish 0x11 seq

/-- What a host reads of such a word: the published copy, and the Reset value before the first publication (R60). -/
def State.cmpShown (s : State) (w : Nat) : Word :=
  match s.line.shown.find? fun e => e.1 == w with
  | some e => e.2
  | none => resetWord 0x11 w

end Sys2Proof.Machine
end

