-- ==== Sys2Proof/Machine/Diagnostics.lean ====
section
/-! DEFINITION. Open-wire tests, suspicion, groups and the firmware evaluation of a publication (R152 to R165, R26, R255). -/
namespace Sys2Proof.Machine
open Host

/-! ### Showing the tests -/

/-- CMP_OWST and the page status follow the tests and queues. -/
def State.showTests (s : State) : State :=
  let testing := bitMap 8 fun k => decide (k < s.dies) && (s.die k).test.isSome
  let queued := (s.dieList.map fun k => ((s.die k).waiting.filter fun w => w.prio == 2).length).sum
  let swept := s.get F.CMP_OWST_SWEPT
  let s := ((s.set F.CMP_OWST_TESTING testing).set F.CMP_OWST_QUEUED (min queued 255)).setOn F.CMP_PSTAT_TESTING (testing != 0)
  (s.setOn F.CMP_PSTAT_SWEPT (s.dieList.all fun k => bit swept k)).setOn F.CMP_PSTAT_HARNESS (s.get F.CMP_OWST_HARNESS != 0)

/-- Put a test that is to be repeated before every waiting test of the same or a lower priority (R159). -/
def insertTest (t : PendingTest) : List PendingTest → List PendingTest
  | [] => [t]
  | w :: l => if t.prio ≤ w.prio then t :: w :: l else w :: insertTest t l

/-- Put a new test behind the waiting tests of its priority (R154). -/
def queueTest (t : PendingTest) : List PendingTest → List PendingTest
  | [] => [t]
  | w :: l => if t.prio < w.prio then t :: w :: l else w :: queueTest t l

/-- A running or decided test goes back to wait at its priority; the sweep resumes at its tap (R154). -/
def State.requeue (s : State) (k : Nat) (t : TapTest) : State :=
  s.onDie k fun d =>
    if t.prio = 3 then { d with waiting := insertTest ⟨t.tap, 3, t.incon⟩ (d.waiting.filter fun w => w.prio != 3), sweep := some (t.tap + 1) }
    else { d with waiting := insertTest ⟨t.tap, t.prio, t.incon⟩ d.waiting }

/-- Abandon the running test of a die; it is repeated later. -/
def State.abandonTest (s : State) (k : Nat) : State :=
  match (s.die k).test with
  | none => s
  | some t => (s.onDie k fun d => { d with test := none }).requeue k t

/-! ### Harness faults (R161) -/

/-- The limits of R161: more than three consecutive inner taps, or more than four taps. -/
def overLimits (taps : List Nat) : Bool :=
  decide (4 < (cellListTaps.filter taps.contains).length) ||
    ((List.range 61).any fun t => decide (1 ≤ t) && [t, t + 1, t + 2, t + 3].all taps.contains)
where
  /-- The taps of a die. -/
  cellListTaps : List Nat := List.range 65

/-- The broken and high-resistance taps of a die. -/
def State.brokenTaps (s : State) (k : Nat) : List Nat :=
  (s.faultyTaps k).filter fun t => s.tapState k t == 2 || s.tapState k t == 3

/-- A harness fault begins or ends. -/
def State.setHarness (s : State) (k : Nat) (v : Bool) : State :=
  if s.harness k = v then s
  else
    let s := s.applyIf v fun s => s.slotsBefore k
    let s := ((s.set F.CMP_OWST_HARNESS (withBit (s.get F.CMP_OWST_HARNESS) k v)).flag F.CMP_IFLAG_HARNESS).showTests
    s.applyIf (!v) fun s => s.slotsAfter k

/-! ### Estimates and span mode (R163, R165) -/

/-- The groups of a die: lowest and highest faulty tap (R162). -/
def State.groups (s : State) (k : Nat) : List (Nat × Nat) :=
  (List.range 63).filterMap fun j =>
    match s.cellCase k (j + 1) with
    | .group lo hi => if lo = j + 1 then some (lo, hi) else none
    | _ => none

/-- Keep for every estimated cell its V and the die's mean before the fault; `base` gives them for cells estimated anew. -/
def State.keepEstimates (s : State) (k : Nat) (base : Nat → Int × Int) : State :=
  let cells := cellList.filter fun i => s.cellCase k i == .estimated
  s.onDie k fun d => { d with estimates := cells.map fun i =>
    match (d.estimates.find? fun e => e.cell == i) with
    | some e => e
    | none => ⟨i, (base i).1, (base i).2⟩ }

/-- The reported V and the mean of the publication before the present one (R163). -/
def DieSt.before (d : DieSt) (i : Nat) : Int × Int := (entry d.prevReported i, d.prevMean)

/-- V_MIN and V_MAX: the lowest and highest V of the clean cells of a die (R164). A cell whose tap has just become faulty counts as
carrying D, which its words do from the next publication on. -/
def State.cleanRange (s : State) (k : Nat) : Option (Int × Int) :=
  let v := (cellList.filter fun i => s.clean k i && !s.substituted k i).map fun i => cellV (s.cellWord k i)
  match minOf v, maxOf v with
  | some lo, some hi => some (lo, hi)
  | _, _ => none

/-- The lowest cell of each group is in span mode, its thresholds rewritten at every publication (R165). -/
def State.keepSpanMode (s : State) (k : Nat) : State :=
  let range := s.cleanRange k
  let ov : Int := s.get F.CMP_AOV_MV * 1000
  let uv : Int := s.get F.CMP_AUV_MV * 1000
  let gs := s.groups k
  s.onDie k fun d => { d with spanMode := gs.map fun g =>
    let m : Int := ((g.2 + 1 - g.1 : Nat) : Int)
    match range with
    | some r => (g.1 - 1, ov + m * r.1, uv + m * r.2)
    | none => match (d.spanMode.find? fun e => e.1 == g.1 - 1) with
      | some e => e
      | none => (g.1 - 1, ov, uv) }

/-! ### Group limits (R164) -/

/-- A group breaks its limits. -/
def State.groupBreach (s : State) (k : Nat) : Bool :=
  match s.cleanRange k with
  | none => false
  | some r => (s.groups k).any fun (g : Nat × Nat) =>
      let m : Int := ((g.2 + 1 - g.1 : Nat) : Int)
      let sum := ((List.range (g.2 + 2 - g.1)).map fun j => entry (s.die k).channel (g.1 - 1 + j)).sum
      decide ((s.get F.CMP_GOV_MV * 1000 : Int) + m * r.1 ≤ sum) || decide (sum ≤ (s.get F.CMP_GUV_MV * 1000 : Int) + m * r.2)

/-- An estimated cell breaks the limits narrowed by BGUARD. -/
def State.estimateBreach (s : State) (k : Nat) : Bool :=
  cellList.any fun i => s.inUse k i && s.cellCase k i == .estimated &&
    (decide (((s.get F.CMP_GOV_MV : Int) - s.get F.CMP_BGUARD_MV) * 1000 ≤ cellV (s.cellWord k i)) ||
      decide (cellV (s.cellWord k i) ≤ ((s.get F.CMP_GUV_MV : Int) + s.get F.CMP_BGUARD_MV) * 1000))

/-! ### Suspicion (R157) -/

/-- The cells a die's suspicion rules judge: in use and as measured; a substituted value does not show a tap (log entry 68). -/
def State.judged (s : State) (k i : Nat) : Bool := s.inUse k i && !s.substituted k i

/-- The pattern rule for inner tap `j`. -/
def State.patternRule (s : State) (k j : Nat) : Bool :=
  let d := s.die k
  let susp : Int := s.get F.CMP_OWSUSP_SUSP * 1000
  let a := entry d.channel (j - 1) - d.median
  let b := entry d.channel j - d.median
  decide (1 ≤ j) && decide (j ≤ 63) && s.judged k (j - 1) && s.judged k j && decide (susp < absInt a) && decide (susp < absInt b) &&
    decide (a * b < 0) && decide (2 * absInt (a + b) < susp)

/-- The step rule for one cell, from one frame to the next: both of the die and of I_A. -/
def State.stepRule (s : State) (k i : Nat) : Bool :=
  let d := s.die k
  let susp : Int := s.get F.CMP_OWSUSP_SUSP * 1000
  s.judged k i && d.adjacent && s.cur.adjacent && s.reg (addrOf 0x08 7) == s.reg (addrOf (0x20 + k) 7) &&
    decide (susp < absInt (entry d.channel i - entry d.prevChannel i)) &&
    decide (5 * absInt (d.median - d.prevMedian) < susp) &&
    decide (absInt (s.getInt F.CUR_IA_MA - s.cur.prevIa) < (s.get (F.MD_XCHK_IBAND.on k) * 1000 : Int))

/-- A tap becomes suspect: it enters the table where an entry is free, its test is queued first, and a sweep test in progress
gives way (R154, R157, R160). DESIGN CHOICE (log entry 45): the event is of class 0; R160 gives a class only for two other changes. -/
def State.suspectTap (s : State) (k t : Nat) : State :=
  let s := ((s.enterTap k t 1).1.flagEvent F.CMP_IFLAG_SUSPECT 0).onDie k fun d =>
    { d with waiting := queueTest ⟨t, 1, 0⟩ d.waiting }
  match (s.die k).test with
  | some x => if x.prio = 3 then s.abandonTest k else s
  | none => s

/-- The taps of a die that become suspect in this publication. -/
def State.newSuspects (s : State) (k : Nat) : List Nat :=
  let steps := cellList.filter (s.stepRule k)
  (List.range 65).filter fun t =>
    (s.tapSlot k t).isNone && !((s.die k).waiting.any fun w => w.tap == t && w.prio == 1) &&
      !(match (s.die k).test with
        | some x => x.tap == t && x.prio == 1
        | none => false) &&
      (s.patternRule k t || steps.contains t || (decide (1 ≤ t) && steps.contains (t - 1)))

/-- Suspicion, estimates and span mode of one die. -/
def State.evalDie (s : State) (k : Nat) : State :=
  if s.healthy k then
    let s := (s.newSuspects k).foldl (fun s t => s.suspectTap k t) s
    (s.keepEstimates k (s.die k).before).keepSpanMode k
  else s

/-- Device firmware evaluates the publication (R26, R157, R164, R255). -/
def State.evalPublication (s : State) : State :=
  let s := { s with flt := { s.flt with evaluated := s.frame.toNat - 1 } }
  let s := (s.dieList.foldl (fun s k => s.evalDie k) s).showTests
  s.protEval (s.dieList.any fun k => s.healthy k && (s.groupBreach k || s.estimateBreach k))

/-! ### Tap tests (R152 to R154) -/

/-- SWEEP_START: a sweep of T0 to T64 begins on every die whose last one is over, SWEEP seconds after the last start; the
first begins at RUN (R154). -/
def execSweepStart (s : State) : Outcome State Fault Refusal :=
  if s.running then
    let first := s.dieList.all fun k => !bit (s.get F.CMP_OWST_SWEPT) k && (s.die k).sweep.isNone
    let s := if first then s else s.advanceTo (s.line.sweepStart + s.get F.CMP_OWCFG_SWEEP * 1000000)
    let s := s.onLine fun l => { l with sweepStart := s.now }
    .next (s.dieList.foldl (fun s k => s.onDie k fun d =>
      let sweeps := fun (t : Option TapTest) => match t with
        | some t => t.prio == 3
        | none => false
      let busy := d.sweep.isSome || (d.waiting.any fun w => w.prio == 3) || sweeps d.test || sweeps d.deciding
      if busy then d else { d with sweep := some 0, harnessOverflow := false }) s)
  else .next s

/-- A write to CMP_OWREQ (R154). -/
def State.writeOwreq (s : State) (v : Word) : State × Option Nat :=
  let k := bitsOf v 10 8
  let t := bitsOf v 6 0
  if 64 < t ∨ s.dies ≤ k ∨ bit (s.get F.STK_ROUTE_REACH) k = false ∨ 4 ≤ ((s.die k).waiting.filter fun w => w.prio == 2).length then (s, some 0x0A)
  else ((s.onDie k fun d => { d with waiting := queueTest ⟨t, 2, 0⟩ d.waiting }).showTests, none)

/-- W of R153 in frames. -/
def State.windowFrames (s : State) : Nat :=
  (s.get F.CMP_OWCFG_PULL + delayOf (s.get F.MD_FILT_CORNER) + s.period - 1) / s.period

/-- The cells a test of tap `t` of die `k` looks at, with the expected sign of their move in the pull-up window; 0 for the
twin wire's cell on the other die (R153, R159). -/
def State.testCells (s : State) (k t : Nat) : List (Nat × Nat × Int) :=
  (if 1 ≤ t then [(k, t - 1, 1)] else []) ++ (if t ≤ 63 then [(k, t, -1)] else []) ++
    (if t = 64 ∧ k + 1 < s.dies then [(k + 1, 0, 0)] else []) ++ (if t = 0 ∧ 1 ≤ k then [(k - 1, 63, 0)] else [])

/-- The die can be tested: it is reached and samples on the strobe (R154). -/
def State.testable (s : State) (k : Nat) : Bool :=
  s.sampling k && bit (s.get F.STK_ROUTE_REACH) k && !(match (s.die k).held with
    | some h => h.localTimer
    | none => false)

/-- Begin a test at the present boundary; the balancing switches of its cells open (R153). -/
def State.beginTest (s : State) (k : Nat) (w : PendingTest) : State :=
  let t : TapTest := { tap := w.tap, prio := w.prio, incon := w.incon, start := s.frame, w := s.windowFrames
                       cells := s.testCells k w.tap }
  let s := s.onDie k fun d => { d with test := some t }
  (s.openWhere k (s.underTest k)).showTests

/-- TAP_TEST_START: the next test of die `k` begins (R154): the first that waits, else the sweep's next tap. -/
def execTapTestStart (k : Nat) (s : State) : Outcome State Fault Refusal :=
  if s.running && decide (k < s.dies) && s.testable k && (s.die k).test.isNone then
    match (s.die k).waiting with
    | w :: rest => .next ((s.onDie k fun d => { d with waiting := rest }).beginTest k w)
    | [] => match (s.die k).sweep with
      | some t =>
        if t ≤ 64 then .next ((s.onDie k fun d => { d with sweep := some (t + 1) }).beginTest k ⟨t, 3, 0⟩) else .next s
      | none => .next s
  else .next s

/-- TAP_WINDOW_END: W frames after it began, the pull-up window ends and the pull-down window begins (R153). -/
def execTapWindowEnd (k : Nat) (s : State) : Outcome State Fault Refusal :=
  match (s.die k).test with
  | some t =>
    if t.pullDown = false ∧ t.start.toNat + t.w ≤ s.frame.toNat then
      .next (s.onDie k fun d => { d with test := some { t with pullDown := true } })
    else .next s
  | none => .next s

/-- A boundary for the tests of a die: a die that cannot be tested spoils its test; at the end of the pull-down window the
sources are off and the test waits for its last publication (R153, R154). -/
def State.testBoundary (s : State) (k : Nat) : State :=
  match (s.die k).test with
  | none => s
  | some t =>
    if !s.testable k then (s.onDie k fun d => { d with test := some { t with broken := true } })
    else if t.start.toNat + 2 * t.w ≤ s.frame.toNat then
      (s.onDie k fun d => { d with test := none, deciding := some { t with pullDown := true } }).showTests
    else s

/-- The channel values of a test's cells in the publication. -/
def State.testValues (s : State) (t : TapTest) : List Int := t.cells.map fun c => entry (s.die c.1).channel c.2.1

/-- A publication of frame `n`: a test takes the frames sampled at b, b + W and b + 2W (R153). -/
def State.captureTest (s : State) (k n : Nat) (t : TapTest) : TapTest :=
  let v := some (s.testValues t)
  let b := t.start.toNat
  if n = b then { t with
    base := v, baseV := t.cells.map (fun c => entry (s.die c.1).reported c.2.1), baseMean := (s.die k).mean }
  else if n = b + t.w then { t with up := v }
  else if n = b + 2 * t.w then { t with down := v }
  else t

/-- Both a running and a finished test take their frames. -/
def State.captureTests (s : State) (k n : Nat) : State :=
  s.onDie k fun d => { d with test := d.test.map (s.captureTest k n), deciding := d.deciding.map (s.captureTest k n) }

/-! ### Decision (R159, R160) -/

/-- The outcome of a test: the table state, or 5 for inconclusive; the cell with an input fault. -/
def decideTest (cells : List (Nat × Nat × Int)) (up down : List Int) (spanBad : Bool) (incon : Nat) : Nat × Option Nat :=
  let rows := (cells.zip (up.zip down)).map fun (e : (Nat × Nat × Int) × Int × Int) => (e.1.2.1, e.1.2.2, e.2.1, e.2.2)
  let own := rows.filter fun (e : Nat × Int × Int × Int) => e.2.1 != 0
  let big := fun (e : Nat × Int × Int × Int) => decide (200000 ≤ e.2.2.1 * e.2.1) && decide (200000 ≤ -(e.2.2.2 * e.2.1))
  let small := fun (e : Nat × Int × Int × Int) => decide (absInt e.2.2.1 < 1000) && decide (absInt e.2.2.2 < 1000)
  let twin := (rows.filter fun (e : Nat × Int × Int × Int) => e.2.1 == 0).all small
  if own.all big && twin then (2, none)
  else if own.all small && !spanBad then (0, none)
  else if own.length == 2 && (own.filter big).length == 1 && (own.filter small).length == 1 then
    (4, ((own.filter big).head?).map (·.1))
  else if incon < 2 then (5, none)
  else (3, none)

/-- The smaller of the moves of a test's own cells, mV. -/
def smallerMove (cells : List (Nat × Nat × Int)) (moves : List Int) : Nat :=
  let own := (cells.zip moves).filter fun (e : (Nat × Nat × Int) × Int) => e.1.2.2 != 0
  match minOf (own.map fun e => absInt e.2) with
  | some m => min (m.toNat / 1000) 1023
  | none => 0

/-- Show the last completed test. -/
def State.showLast (s : State) (k t out up down : Nat) : State :=
  s.put F.CMP_OWLAST_OUT.addr (BitVec.ofNat 32 (out * 2 ^ 30 + k * 2 ^ 27 + t * 2 ^ 20 + up * 1024 + down))

/-- A good test of a tap in the table (R159, R160). -/
def State.goodTest (s : State) (k t : Nat) : State :=
  match s.tapSlot k t with
  | none => s
  | some e =>
    let s := s.onDie k fun d => { d with inputFault := d.inputFault.filter fun f => f.1 != t }
    if s.tapEntryState e = 1 ∨ (s.die k).goodOnce.contains t = true then
      ((s.clearTap k t).onDie k fun d => { d with goodOnce := d.goodOnce.filter (· != t) }).raise
        0x11 (.flag F.CMP_IFLAG_CLEARED.lo) 0 (sourceOf 0x11)
    else s.onDie k fun d => { d with goodOnce := t :: d.goodOnce }

/-- A test that finds a tap broken, of high resistance, or with an input fault (R159 to R161). -/
def State.badTest (s : State) (k t state : Nat) (cell : Option Nat) (base : Nat → Int × Int) : State :=
  let old := s.tapState k t
  let r := s.enterTap k t state
  if r.2 then
    let s := r.1.onDie k fun d => { d with
      goodOnce := d.goodOnce.filter (· != t)
      inputFault := match cell with
        | some i => (t, i) :: d.inputFault.filter (· != (t, i))
        | none => d.inputFault }
    let s := s.applyIf (old != state) fun s =>
      if state = 4 then s.flagEvent F.CMP_IFLAG_INPUT 2 else s.flagEvent F.CMP_IFLAG_BROKEN 2
    (s.applyIf (overLimits (s.brokenTaps k)) fun s => s.setHarness k true).keepEstimates k base
  else (s.onDie k fun d => { d with harnessOverflow := true }).setHarness k true

/-- The sweep of a die is complete with the result of T64 (R154, R155, R161). -/
def State.sweepEnd (s : State) (k : Nat) : State :=
  let s := s.set F.CMP_OWST_SWEPT (withBit (s.get F.CMP_OWST_SWEPT) k true)
  let s := (s.onDie k fun d => { d with sweep := none }).onLine fun l => { l with
    sweepDone := if l.sweepDone.contains k then l.sweepDone else k :: l.sweepDone }
  let s := s.applyIf (s.harness k && !(s.die k).harnessOverflow && !overLimits (s.brokenTaps k)) fun s => s.setHarness k false
  if s.dieList.all s.line.sweepDone.contains then (s.flag F.CMP_IFLAG_SWEEP).onLine fun l => { l with sweepDone := [] } else s

/-- A test ends in a state other than inconclusive. In a freeze the thresholds of span mode keep their values (R165). -/
def State.concludeTest (s : State) (k : Nat) (t : TapTest) (r : Nat × Option Nat) : State :=
  let base := fun i =>
    match ((t.cells.zip t.baseV).find? fun (e : (Nat × Nat × Int) × Int) => e.1.1 == k && e.1.2.1 == i) with
    | some e => (e.2, t.baseMean)
    | none => (s.die k).before i
  let s := if r.1 = 0 then (s.goodTest k t.tap).keepEstimates k base else s.badTest k t.tap r.1 r.2 base
  (s.applyIf (t.prio == 3 && t.tap == 64) fun s => s.sweepEnd k).applyIf s.coresRun fun s => s.keepSpanMode k

/-- An inconclusive test is repeated from the next boundary, ahead of a test of the same or a lower priority begun since
(R159). -/
def State.repeatTest (s : State) (k : Nat) (t : TapTest) : State :=
  let s := match (s.die k).test with
    | some x => if t.prio ≤ x.prio then s.abandonTest k else s
    | none => s
  (s.onDie k fun d => { d with goodOnce := d.goodOnce.filter (· != t.tap) }).requeue k { t with incon := t.incon + 1 }

/-- The span of a tap in the table disagreed when last measured. -/
def State.spanBad (s : State) (k t : Nat) : Bool :=
  match s.tapSlot k t with
  | some e => s.on (F.CMP_TAP_SPANERR.at e)
  | none => false

/-- TAP_TEST_DECIDE: the test of die `k` is decided (R159); one without a result is retried (R154). -/
def execTapTestDecide (k : Nat) (s : State) : Outcome State Fault Refusal :=
  match (s.die k).test with
  | some t =>
    if t.broken then .next ((s.onDie k fun d => { d with test := none }).requeue k t).showTests else decided k s
  | none => decided k s
where
  /-- The decision of a test whose windows are over. -/
  decided (k : Nat) (s : State) : Outcome State Fault Refusal :=
    match (s.die k).deciding with
    | none => .next s
    | some t =>
      match t.base, t.up, t.down with
      | some b, some u, some d =>
        let up := List.zipWith (· - ·) u b
        let down := List.zipWith (· - ·) d u
        let r := decideTest t.cells up down (s.spanBad k t.tap) t.incon
        let out := if r.1 = 0 then 0 else if r.1 = 5 then 2 else if r.1 = 4 then 3 else 1
        let s := (s.onDie k fun x => { x with deciding := none }).showLast k t.tap out
          (smallerMove t.cells up) (smallerMove t.cells down)
        .next (if r.1 = 5 then s.repeatTest k t else s.concludeTest k t r).showTests
      | _, _, _ =>
        if s.frame.toNat ≤ t.start.toNat + 2 * t.w then .next s
        else .next ((s.onDie k fun x => { x with deciding := none }).requeue k t).showTests

/-! ### Spans (R158, R159) -/

/-- The groups whose span a die captures at a quiet boundary: at most two, in turn. -/
def State.captureSpans (s : State) (k : Nat) : State :=
  let gs := s.groups k
  let n := gs.length
  s.onDie k fun d =>
    if n ≤ 2 then { d with spanGroups := gs, spanTurn := 0 }
    else { d with
      spanGroups := [d.spanTurn % n, (d.spanTurn + 1) % n].filterMap fun i => gs[i]?
      spanTurn := (d.spanTurn + 2) % n }

/-- Publish one span of a quiet frame against the channel values of its cells. -/
def State.publishSpan (s : State) (k : Nat) (v : List Int) (g : Nat × Nat) (span : Int) : State :=
  let span := clampInt (-1000000) 23000000 span
  let sum := ((List.range (g.2 + 2 - g.1)).map fun j => entry v (g.1 - 1 + j)).sum
  let bad := decide (4000 < absInt (span - sum))
  let slots := ((List.range (g.2 + 1 - g.1)).map (g.1 + ·)).filterMap (s.tapSlot k)
  let s := s.applyIf (bad && !slots.any fun e => s.on (F.CMP_TAP_SPANERR.at e)) fun s => s.flagEvent F.CMP_IFLAG_SPAN 2
  slots.foldl (fun s e => (s.setOn (F.CMP_TAP_SPANERR.at e) bad).set (F.CMP_TAP_SPAN.at e) (codeOf 16 (span.tdiv 1000))) s

/-- The spans of a quiet frame publish with its results. -/
def State.publishSpans (s : State) (k : Nat) (f : DieFrame) : State :=
  let spans := match f.scan with
    | some x => x.spans
    | none => []
  (f.groups.zip spans).foldl (fun s e => s.publishSpan k f.held.v e.1 e.2) s

end Sys2Proof.Machine
end

