-- ==== Sys2Proof/Machine/Rosemary.lean ====
section
/-! DEFINITION. Rosemary, the event recorder, and the cycle ledger (recorder chapter, R300 to R316). -/
namespace Sys2Proof.Machine
open Host

/-! ### Codes and records -/

/-- The event code of R301. -/
def codeOfEvent (page : Nat) : EventLow → Nat
  | .flag b => page * 256 + b
  | .fixed n => page * 256 + n
  | .listed tag => page * 256 + 0x40 + (Config.listedCode page tag).toNat

/-- Codes 0x1440 to 0x1444, which the manual fixes for Rosemary (R301). -/
def ownCode (page : Nat) : EventLow → Bool
  | .fixed n => page == 0x14 && 0x40 ≤ n && n ≤ 0x44
  | _ => false

/-- The first four words and the frame word of a record (R300). -/
def recordHead (seq time page : Nat) (low : EventLow) (cls source len : Nat) (summary : Bool) (frame : Word) : List Word :=
  let w0 := BitVec.ofNat 32 seq
  let w1 := BitVec.ofNat 32 time
  let w2 := BitVec.ofNat 32 (codeOfEvent page low % 65536 * 65536 + time / 2 ^ 32 % 65536)
  let w3 := (cls * 64 + ofBool summary * 32) * 65536 + source * 256 + len
  let crc := crc8 (bytesLE w0 ++ bytesLE w1 ++ bytesLE w2 ++ [len, source, cls * 64 + ofBool summary * 32])
  [w0, w1, w2, BitVec.ofNat 32 (crc * 16777216 + w3), frame]

/-- The record of an event under a SEQ. -/
def recordOf (seq : Nat) (e : Event) : Record :=
  let body := e.words.take 59
  { seq := seq, cls := e.cls, page := e.page, low := e.low
    words := recordHead seq e.time e.page e.low e.cls e.source (4 + body.length) e.summary e.frame ++ body }

/-- The bytes of records. -/
def bytesOfRecords (l : List Record) : Nat := l.foldl (fun acc r => acc + 4 * r.words.length) 0

/-- The record area in bytes (R307), the part of it kept free for code 0x1442 (R308), and the staging buffer (R305). -/
def recordArea : Nat := 4032 * 1024
def keptFree : Nat := 256
def stagingSize : Nat := 65536

/-- Count a record in the lost table (R308). -/
def addLost (page : Nat) (low : EventLow) (n : Nat) : List LostEntry → List LostEntry
  | [] => [⟨page, low, min n 65535⟩]
  | e :: l => if e.page = page ∧ e.low = low then { e with count := satAdd e.count n 65535 } :: l else e :: addLost page low n l

/-- Count `n` records of a code as lost: in its entry, or in OTHER when the table is full (R308). -/
def State.countLost (s : State) (page : Nat) (low : EventLow) (n : Nat) : State :=
  if s.rsm.lost.length < 16384 ∨ s.rsm.lost.any (fun e => e.page == page && e.low == low) then
    { s with rsm := { s.rsm with lost := addLost page low n s.rsm.lost } }
  else s.set F.RSM_LOST_OTHER (satAdd (s.get F.RSM_LOST_OTHER) n 65535)

/-- The fill words of the recorder (R307). -/
def State.showFill (s : State) : State :=
  (s.set F.RSM_FILL_STAGE (bytesOfRecords s.rsm.staged * 100 / stagingSize)).set F.RSM_FILL_USED
    (bytesOfRecords s.rsm.stored / 1024)

/-- The SEQ after another: one higher modulo 2³², and no record has SEQ 0 (R302). -/
def nextSeq (n : Nat) : Nat := if n + 1 < 4294967296 then n + 1 else 1

/-- The SEQ of an event that recorded the end of a motion cycle goes to the cycle that waits for its ledger record (R349). -/
def State.noteCause (s : State) (e : Event) (seq : Nat) : State :=
  let mine := fun (c : CycleEnd) => e.page == 0x41 + c.axis && e.time == c.finish &&
    (outcomeFlag c.outcome).any fun b => e.low == .flag b
  { s with cyl := { s.cyl with buffer := s.cyl.buffer.map fun c => if mine c then { c with cause := seq } else c } }

/-- Place an accepted record: it takes the next SEQ (R302). While Rosemary is full it is only counted, a suppression summary with
its count under the code it counts (R308); otherwise it is staged, and a record of class 2 or 3, or staging 75 % full, makes a
flush due (R304). -/
def State.stage (s : State) (e : Event) : State :=
  let seq := nextSeq (s.get F.RSM_HEAD_SEQ)
  let s := (s.set F.RSM_HEAD_SEQ seq).noteCause e seq
  if s.on F.RSM_PSTAT_FULL then
    let s := s.count F.RSM_LOST_TOTAL
    match e.tally with
    | some (page, low, n) => s.countLost page low n
    | none => s.countLost e.page e.low 1
  else
    let s := s.applyIf e.tally.isSome fun s => s.flag F.RSM_IFLAG_SUPPRESS
    let s := { s with rsm := { s.rsm with staged := s.rsm.staged ++ [recordOf seq e] } }
    let due := 2 ≤ e.cls ∨ stagingSize * 3 ≤ bytesOfRecords s.rsm.staged * 4
    { s with rsm := { s.rsm with flushDue := s.rsm.flushDue || decide due } }

/-- The event of code 0x1442 (R308). -/
def State.fullEvent (s : State) : Event :=
  ⟨0x14, .fixed 0x42, 2, 1, s.now, s.frame, [addrOf 0x14 3, addrOf 0x14 1].flatMap s.pairOf, false, none⟩

/-- Whether staging has room for a record of the class: the last 4 KB take only class 3 (R305). -/
def State.stagingRoom (s : State) (e : Event) : Bool :=
  e.cls == 3 || decide (bytesOfRecords s.rsm.staged + 4 * (5 + (e.words.take 59).length) ≤ stagingSize - 4096)

/-- A record that finds no room in staging is dropped and counted (R305). -/
def State.dropRecord (s : State) (e : Event) : State :=
  let s := ((s.countLost e.page e.low 1).count F.RSM_DROP_COUNT).flag F.RSM_IFLAG_DROP
  { s with rsm := { s.rsm with dropped := s.rsm.dropped + 1 } }

/-- Accept a record into staging (R302): when it does not fit in the record area behind what is stored and staged, code
0x1442 is written first, where staging takes a record of its class (R305), and recording stops (R308). -/
def State.acceptRecord (s : State) (e : Event) : State :=
  let len := 4 * (5 + (e.words.take 59).length)
  if !s.on F.RSM_PSTAT_FULL &&
      decide (recordArea < bytesOfRecords s.rsm.stored + bytesOfRecords s.rsm.staged + len + keptFree) then
    let s := s.flag F.RSM_IFLAG_FULL
    let s := if s.stagingRoom s.fullEvent then s.stage s.fullEvent else s.dropRecord s.fullEvent
    let s := s.setOn F.RSM_PSTAT_FULL true
    (s.stage e).showFill
  else (s.stage e).showFill

/-- The rate limit of a code: the first matching RSM_RLIM entry, or RSM_RATE (R306): tokens and window in µs; no limit for an
entry with N = 0. -/
def State.rateOf (s : State) (code : Nat) : Option (Nat × Nat) :=
  match (List.range 16).find? fun x => s.get (F.RSM_RLIM_CODE.at x) != 0 && s.get (F.RSM_RLIM_CODE.at x) == code with
  | some x =>
    if s.get (F.RSM_RLIM_N.at x) = 0 then none
    else some (s.get (F.RSM_RLIM_N.at x), s.get (F.RSM_RLIM_W.at x) * 1000000)
  | none => some (s.get F.RSM_RATE_N, s.get F.RSM_RATE_W * 1000000)

/-- Whether an event escapes rate limiting: class 3 and Rosemary's own codes (R306). -/
def unlimited (e : Event) : Bool := e.cls == 3 || ownCode e.page e.low

/-- The window of a code, or a new one whose bucket is full (R306). -/
def State.bucketOf (s : State) (e : Event) (n w : Nat) : Bucket :=
  match s.rsm.buckets.find? fun b => b.page == e.page && b.low == e.low with
  | some b => b
  | none => ⟨e.page, e.low, s.now, w, n, 0, 0⟩

/-- Put a window back into the list. -/
def putBucket (b : Bucket) : List Bucket → List Bucket
  | [] => [b]
  | c :: l => if c.page = b.page ∧ c.low = b.low then b :: l else c :: putBucket b l

/-- Take an event into staging, or drop it (R302, R305). -/
def State.acceptOrDrop (s : State) (e : Event) : State := if s.stagingRoom e then s.acceptRecord e else s.dropRecord e

/-- Rate limiting and acceptance of one event (R302 to R306). -/
def State.takeEvent (s : State) (e : Event) : State :=
  if unlimited e then s.acceptOrDrop e
  else match s.rateOf (codeOfEvent e.page e.low) with
    | none => s.acceptOrDrop e
    | some (n, w) =>
      let b := s.bucketOf e n w
      if !s.stagingRoom e && decide (0 < b.tokens) then s.acceptOrDrop e
      else if b.tokens = 0 then
        { s with rsm := { s.rsm with buckets := putBucket { b with suppressed := b.suppressed + 1 } s.rsm.buckets } }
      else
        let t := s.acceptOrDrop e
        { t with rsm := { t.rsm with
            buckets := putBucket { b with tokens := b.tokens - 1, lastSeq := t.get F.RSM_HEAD_SEQ } t.rsm.buckets } }

/-- The oldest event that waits is taken. -/
def State.takeFirst (s : State) : State :=
  match s.rsm.inbox with
  | [] => s
  | e :: rest => { s with rsm := { s.rsm with inbox := rest } }.takeEvent e

/-- RECORD_ACCEPT: island 1 takes the oldest event that waits; while another party holds the staging buffer it waits for that
lease (R295, R304). -/
def execRecordAccept (s : State) : Outcome State Fault Refusal :=
  .next (if s.rsm.inbox.isEmpty then s else s.withSlot 7 partyIsland1 State.takeFirst)

/-- A record of island 1's own is taken at once, or waits with the events while another party holds the staging buffer. -/
def State.takeOwn (s : State) (e : Event) : State :=
  if s.slotOpen 7 partyIsland1 then s.withSlot 7 partyIsland1 fun s => s.acceptOrDrop e
  else (s.send e).acquireLease 7 partyIsland1

/-- The summary of a closed window (R306), or of dropped records (R305). -/
def State.summaryEvent (s : State) (low : EventLow) (cls code count lastSeq : Nat) (tally : Option (Nat × EventLow × Nat)) : Event :=
  ⟨0x14, low, cls, 1, s.now, s.frame, [BitVec.ofNat 32 code, BitVec.ofNat 32 count, BitVec.ofNat 32 lastSeq], true, tally⟩

/-- Close a window: a suppression summary is written if any record was suppressed (R306). -/
def State.closeBucket (s : State) (b : Bucket) : State :=
  let s := { s with rsm := { s.rsm with
    buckets := s.rsm.buckets.filter fun c => !(c.page == b.page && c.low == b.low) } }
  if b.suppressed = 0 then s
  else s.takeOwn (s.summaryEvent (.fixed 0x40) 0 (codeOfEvent b.page b.low) b.suppressed b.lastSeq
    (some (b.page, b.low, b.suppressed)))

/-- The open window that closes first. -/
def firstToClose : List Bucket → Option Bucket
  | [] => none
  | b :: l => match firstToClose l with
    | none => some b
    | some c => if c.opened + c.window < b.opened + b.window then some c else some b

/-- RATE_WINDOW_CLOSE: the window that ends first closes. -/
def execRateWindowClose (s : State) : Outcome State Fault Refusal :=
  match firstToClose s.rsm.buckets with
  | none => .next s
  | some b => .next ((s.advanceTo (b.opened + b.window)).closeBucket b)

/-! ### Flushing (R304, R305, R307) -/

/-- A trigger of R304. -/
def State.triggerFlush (s : State) : State := { s with rsm := { s.rsm with flushDue := true } }

/-- FLUSH_PERIODIC: each whole second of the time base triggers a flush. -/
def execFlushPeriodic (s : State) : Outcome State Fault Refusal :=
  if s.cdieRuns then .next (s.advanceTo ((s.now / 1000000 + 1) * 1000000)).triggerFlush else .next s

/-- FLUSH_START: a triggered flush starts when the MRAM write port is free or held by island 1; otherwise island 1 waits for
the lease (R304). -/
def execFlushStart (s : State) : Outcome State Fault Refusal :=
  if !s.rsm.flushDue || s.rsm.flushing then .next s
  else
    let s := s.acquireLease 0 partyIsland1
    if s.holdsPort partyIsland1 then
      .next (({ s with rsm := { s.rsm with flushing := true, flushDue := false, flushTop := s.get F.RSM_HEAD_SEQ } }).setOn
        F.RSM_PSTAT_FLUSHING true)
    else .next s

/-- Write staged records to MRAM in SEQ order: those that stand before a SEQ, or, with a trigger that came meanwhile, all (R304). -/
def State.flushUpTo (s : State) (all : Bool) : State :=
  let take := fun (r : Record) => all || !laterSeq r.seq s.rsm.flushTop
  let recs := s.rsm.staged.filter take
  let s := { s with rsm := { s.rsm with
    stored := s.rsm.stored ++ recs, staged := s.rsm.staged.filter fun r => !take r } }
  let s := match recs.getLast? with
    | some r => s.set F.RSM_FLUSHED_SEQ r.seq
    | none => s
  let s := match s.rsm.stored.head? with
    | some r => if s.get F.RSM_FIRST_SEQ = 0 then s.set F.RSM_FIRST_SEQ r.seq else s
    | none => s
  let s := if recs.any (fun r => 2 ≤ r.cls) then s.flag F.RSM_IFLAG_CLASS23 else s
  let near := decide (recordArea * 9 ≤ bytesOfRecords s.rsm.stored * 10)
  let s := if near && !s.on F.RSM_PSTAT_NEARFULL then (s.setOn F.RSM_PSTAT_NEARFULL true).flag F.RSM_IFLAG_NEARFULL else s
  s.showFill

/-- The overflow summary that follows a flush after records were dropped (R305). -/
def State.overflowSummary (s : State) : State :=
  if s.rsm.dropped = 0 then s
  else
    let e := s.summaryEvent (.fixed 0x41) 2 0 s.rsm.dropped (s.get F.RSM_HEAD_SEQ) none
    { s with rsm := { s.rsm with dropped := 0 } }.takeOwn e

/-- Erase Rosemary and store the clear record (R309). -/
def State.clearRosemary (s : State) : State :=
  let last := s.get F.RSM_HEAD_SEQ
  let total := s.get F.RSM_LOST_TOTAL
  let s := { s with rsm := { s.rsm with staged := [], stored := [], lost := [], clearDue := false } }
  let s := ((s.set F.RSM_LOST_TOTAL 0).set F.RSM_LOST_OTHER 0).setOn F.RSM_PSTAT_FULL false
  let s := s.setOn F.RSM_PSTAT_NEARFULL false
  let e : Event := ⟨0x14, .fixed 0x43, 1, 1, s.now, s.frame, [BitVec.ofNat 32 last, BitVec.ofNat 32 total], false, none⟩
  let next := nextSeq last
  let s := { s with rsm := { s.rsm with stored := [recordOf next e] } }
  let s := ((s.set F.RSM_HEAD_SEQ next).set F.RSM_FLUSHED_SEQ next).set F.RSM_FIRST_SEQ next
  (s.flag F.RSM_IFLAG_CLEARED).showFill

/-- A flush ends: its records written, and with a trigger meanwhile every record accepted since, an overflow summary follows if
records were dropped, a clear that waited proceeds, and the port is released (R304, R305, R309). -/
def State.endFlush (s : State) : State :=
  let s := s.flushUpTo s.rsm.flushDue
  let s := { s with rsm := { s.rsm with flushing := false, flushDue := false } }.setOn F.RSM_PSTAT_FLUSHING false
  let s := s.overflowSummary
  (s.applyIf s.rsm.clearDue State.clearRosemary).releasePort partyIsland1

/-- FLUSH_DONE: the last word goes through the port, for which island 1 waits where it has lost it. -/
def execFlushDone (s : State) : Outcome State Fault Refusal :=
  if s.rsm.flushing then
    let s := s.acquireLease 0 partyIsland1
    .next (if s.holdsPort partyIsland1 then s.endFlush else s)
  else .next s

/-- The events taken one by one. -/
def State.drainInbox : List Event → State → State
  | [], s => s
  | e :: l, s => State.drainInbox l (s.takeEvent e)

/-- Island 1 takes every event that waits, unless another party holds the staging buffer. -/
def State.takeInbox (s : State) : State :=
  if s.rsm.inbox.isEmpty then s
  else s.withSlot 7 partyIsland1 fun s => State.drainInbox s.rsm.inbox { s with rsm := { s.rsm with inbox := [] } }

/-- A flush run to its end by the power rules, which wait for it (R57, R64, R65): every event that waits is taken first and,
at PWR_FAIL, the open windows are summarised (R306); the overflow summary that follows the flush is flushed too (R305), and a
clear that waited proceeds (R309). -/
def State.finalFlush (s : State) (closeWindows : Bool) : State :=
  let s := s.takeInbox
  let s := if closeWindows then s.rsm.buckets.foldl State.closeBucket s else s
  let s := ((s.flushUpTo true).overflowSummary).flushUpTo true
  let s := { s with rsm := { s.rsm with flushing := false, flushDue := false } }.setOn F.RSM_PSTAT_FLUSHING false
  s.applyIf s.rsm.clearDue State.clearRosemary

/-! ### Reading by sequence (R310, R311) -/

/-- The state of a record by its SEQ: 0 stored, 1 staged, 2 none (R311). -/
def State.recordState (s : State) (seq : Nat) : Nat :=
  if seq = 0 ∨ laterSeq seq (s.get F.RSM_HEAD_SEQ) = true ∨ laterSeq (s.get F.RSM_FIRST_SEQ) seq = true then 2
  else if s.rsm.staged.any (fun r => r.seq == seq) then 1
  else if s.rsm.stored.any (fun r => r.seq == seq) then 0
  else 2

/-- Word `w` of the window that shows the record `seq` (R311). -/
def State.recordWord (s : State) (seq w : Nat) : Word :=
  if s.recordState seq = 0 then
    match s.rsm.stored.find? fun r => r.seq == seq with
    | some r => (r.words[w]?).getD 0
    | none => 0
  else 0

/-- SNAPSHOT_EXPIRY: 600 s after its last renewal a link's snapshot is released (R310). -/
def execSnapshotExpiry (link : Link) (s : State) : Outcome State Fault Refusal :=
  match (s.link link).sel.snap with
  | none => .next s
  | some (_, t) =>
    .next ((s.advanceTo (t + 600000000)).onLink link fun l => { l with sel := { l.sel with snap := none } })

/-- A write to RSM_SNAP (R310): 1 freezes or renews at the newest SEQ, 0 releases. -/
def State.writeSnap (s : State) (link : Link) (v : Word) : State :=
  if bit v.toNat 0 then
    s.onLink link fun l => { l with sel := { l.sel with snap := some (s.get F.RSM_HEAD_SEQ, s.now) } }
  else s.onLink link fun l => { l with sel := { l.sel with snap := none } }

/-- Some link holds a snapshot. -/
def State.anySnap (s : State) : Bool :=
  s.links.spi.sel.snap.isSome || s.links.can0.sel.snap.isSome || s.links.can1.sel.snap.isSome

/-- A write of the key to RSM_CLEAR (R309); `none` accepted, `some code` refused. -/
def State.writeClear (s : State) (link : Link) (v : Word) : State × Option Nat :=
  if v ≠ 0x00C1EA2D then (s, some 0x0A)
  else if !s.unlocked link then (s, some 0x03)
  else if s.anySnap then (s, some 0x0A)
  else if s.rsm.flushing || !s.portOpen partyIsland1 then
    ({ s with rsm := { s.rsm with clearDue := true, flushDue := true } }, none)
  else (s.clearRosemary, none)

/-! ### The cycle ledger (R312 to R316) -/

/-- The words 0 to 14 of a ledger record, with VM at 10 mV per LSB (R312). -/
def ledgerWords (seq : Nat) (c : CycleEnd) (axisCount lostBefore : Nat) (gap : Bool) : List Word := [
  BitVec.ofNat 32 seq,
  BitVec.ofNat 32 c.start,
  BitVec.ofNat 32 (c.outcome % 16 * 2 ^ 24 + ofBool gap * 2 ^ 19 + c.axis % 8 * 2 ^ 16 + c.start / 2 ^ 32 % 65536),
  BitVec.ofNat 32 (min (c.finish - c.start) 0xFFFFFFFF),
  BitVec.ofNat 32 axisCount,
  BitVec.ofInt 32 c.startPos, BitVec.ofInt 32 c.target, BitVec.ofInt 32 c.endPos,
  BitVec.ofNat 32 (min lostBefore 65535 * 65536 + c.peakCurrent % 65536),
  BitVec.ofNat 32 c.peakError,
  BitVec.ofNat 32 (c.vmHigh / 10 % 65536 * 65536 + c.vmLow / 10 % 65536),
  BitVec.ofNat 32 c.cause, c.startFrame, c.endFrame, 0]

/-- The whole record: with its CRC-32 over bytes 0 to 59. -/
def ledgerRecord (seq : Nat) (c : CycleEnd) (axisCount lostBefore : Nat) (gap : Bool) : List Word :=
  let ws := ledgerWords seq c axisCount lostBefore gap
  ws ++ [BitVec.ofNat 32 (crc32 (ws.flatMap bytesLE))]

/-- Store the ledger record of an ended cycle (R312 to R314): it takes the next sequence and, after a gap, the count of the
cycles lost. -/
def State.ledgerStore (s : State) (c : CycleEnd) : State :=
  let seq := s.get F.CYL_NEWEST_SEQ + 1
  let gap := s.on F.CYL_STAT_GAP
  let unack := s.get F.CYL_STAT_UNACK + 1
  let record := ledgerRecord seq c (s.get (F.CYL_AXCNT_COUNT.at c.axis)) (if gap then s.get F.CYL_LOST_GAP else 0) gap
  let kept := s.cyl.records.filter fun (r : Nat × List Word) => decide (seq < r.1 + 65536)
  let oldest := if seq ≤ 65536 then 1 else seq - 65535
  ((((({ s with cyl := { s.cyl with records := kept ++ [(seq, record)] } }.set F.CYL_NEWEST_SEQ seq).set
    F.CYL_STAT_UNACK unack).set F.CYL_OLDEST_SEQ oldest).flag F.CYL_IFLAG_RECORD).applyIf gap fun s =>
      (s.setOn F.CYL_STAT_GAP false).flag F.CYL_IFLAG_RESUMED).applyIf (unack == s.get F.CYL_CFG_WARN) fun s =>
        s.flag F.CYL_IFLAG_NEARFULL

/-- Count a cycle that finds the ledger full of unacknowledged records; the first one begins a gap (R314). -/
def State.ledgerLose (s : State) (c : CycleEnd) : State :=
  let s := s.count F.CYL_LOST_LIFE
  if s.on F.CYL_STAT_GAP then s.count F.CYL_LOST_GAP
  else
    (((s.set F.CYL_LOST_GAP 1).setOn F.CYL_STAT_GAP true).flag F.CYL_IFLAG_GAP).send
      ⟨0x15, .fixed 0x40, 1, 1, s.now, s.frame, [s.reg F.CYL_NEWEST_SEQ.addr, BitVec.ofNat 32 c.axis], false, none⟩

/-- Write or lose the ledger record of an ended cycle; either way the axis count advances (R312 to R315). -/
def State.ledgerWrite (s : State) (c : CycleEnd) : State :=
  let t := s.count (F.CYL_AXCNT_COUNT.at c.axis)
  if s.get F.CYL_STAT_UNACK < 65536 then t.ledgerStore c else t.ledgerLose c

/-- The record of the cycle that ended first (R349). -/
def State.ledgerNext (s : State) : State :=
  match s.cyl.buffer with
  | [] => s
  | c :: rest => { s with cyl := { s.cyl with buffer := rest } }.ledgerWrite c

/-- Every cycle that has ended is recorded. -/
def State.ledgerAll (s : State) : State := s.cyl.buffer.foldl (fun s _ => s.ledgerNext) s.takeInbox

/-- LEDGER_RECORD_WRITE: island 1 takes the events that wait, so that the cause of a stop has its SEQ, and writes the record of the
cycle that ended first; while another party holds the MRAM write port, or the staging buffer with an event still to be taken, the
record waits in its buffer (R23, R312). -/
def execLedgerRecordWrite (s : State) : Outcome State Fault Refusal :=
  if s.cyl.buffer.isEmpty then .next s
  else
    let s := s.takeInbox.acquireLease 0 partyIsland1
    if s.holdsPort partyIsland1 && s.rsm.inbox.isEmpty then
      let s := s.ledgerNext
      .next (if s.rsm.flushing then s else s.releasePort partyIsland1)
    else .next s

/-- A write to CYL_ACK (R313): refused above the newest or below the last acknowledged sequence. Island 1 saves it through the MRAM
write port, for which it waits (R21, R23). -/
def State.writeAck (s : State) (v : Word) : State × Option Nat :=
  let a := v.toNat
  if a > s.get F.CYL_NEWEST_SEQ ∨ a < s.get F.CYL_ACKED_SEQ then (s, some 0x0A)
  else
    let s := (s.set F.CYL_ACKED_SEQ a).set F.CYL_STAT_UNACK (s.get F.CYL_NEWEST_SEQ - a)
    (if s.portOpen partyIsland1 then s.saveAcked else s.acquireLease 0 partyIsland1, none)

/-- The state of a ledger record by its sequence (R316): 0 stored, 1 ended and not yet written, 2 none; a cycle for which no
acknowledged slot is left will take no sequence (R313, R314). -/
def State.ledgerState (s : State) (seq : Nat) : Nat :=
  if s.cyl.records.any (fun r => r.1 == seq) then 0
  else if s.get F.CYL_NEWEST_SEQ < seq ∧ seq ≤ s.get F.CYL_NEWEST_SEQ + min s.cyl.buffer.length (65536 - s.get F.CYL_STAT_UNACK) then 1
  else 2

/-- Word `w` of the window that shows the ledger record `seq`. -/
def State.ledgerWord (s : State) (seq w : Nat) : Word :=
  match s.cyl.records.find? fun r => r.1 == seq with
  | some r => (r.2[w]?).getD 0
  | none => 0

end Sys2Proof.Machine
end

