-- ==== Sys2Proof/Machine/Power.lean ====
section
/-! DEFINITION. Supplies, start-up and laid-up mode (R38, R53 to R68). ENTER_RUN stands with the frames. -/
namespace Sys2Proof.Machine
open Host

/-- Change what the power chapter keeps. -/
def State.onPwr (s : State) (f : PowerSt → PowerSt) : State := { s with pwr := f s.pwr }

/-- A moment of start-up: Thyme has begun the frame of that millisecond, from 2 ms on (R59), and the stack link is trained from
2 ms and the dies powered from 12 ms on. -/
def State.reach (s : State) (t : Nat) : State :=
  let s := s.advanceTo t
  if (s.pwr.phase == .startup || s.pwr.phase == .halt) && decide (2000 ≤ s.now) then
    let s := (s.set F.THY_FSEQ_SEQ (s.now / 1000)).onThy fun y => { y with boundary := s.now / 1000 * 1000 }
    s.applyIf (decide (s.get F.PWR_BOOT_STEP < 2)) fun s => s.set F.PWR_BOOT_STEP (if s.now < 12000 then 1 else 2)
  else s

/-! ### Saved values (R21, R140) -/

/-- MD_GAIN of every die, the current offsets and the envelopes are saved by a journaled write. -/
def State.saveNow (s : State) : State :=
  let t := s.dieList.foldl (fun (t : State) k => t.saveValue (F.MD_GAIN_GAIN.on k).addr (s.die k).gain) s
  let t := (t.saveValue F.CUR_OFSA_OFS.addr s.cur.ofsA).saveValue F.CUR_OFSB_OFS.addr s.cur.ofsB
  let t : State := { t with saved := { t.saved with envs := Vector.ofFn fun a : Fin 6 => (t.axis a).env, last := t.now } }
  t.journalWrite [.saved s.saved]

/-- PERIODIC_SAVE: every 24 h, by device firmware (R140). -/
def execPeriodicSave (s : State) : Outcome State Fault Refusal :=
  if s.coresRun then .next (s.advanceTo (s.saved.last + 86400000000)).saveNow else .next s

/-- The words that survive a start: identity, committed configuration with CMTSEQ, and the saved values of the field tables. -/
def keptWord (a : Nat) : Bool :=
  let p := a / 256
  let w := a % 256
  let within := fun (lo hi : Nat) => decide (lo ≤ w) && decide (w ≤ hi)
  if p = 0 then within 0x08 0x0F && w != 0x09
  else if p = 2 then w == 0x61 || w == 0x63 || within 0x80 0xAF
  else within 0x08 0x5F || w == 5 ||
    (if 0x28 ≤ p ∧ p ≤ 0x2F then within 0x68 0x89
    else if p = 0x10 then w == 0x6A
    else if p = 0x0F then w == 0x61
    else if p = 0x14 then within 0x60 0x62 || w == 0x64
    else if p = 0x15 then within 0x60 0x64 || within 0x68 0x6D
    else if p = 0x0A then within 0x6A 0x6D || within 0x80 0x84
    else if p = 0x18 then w == 0x68
    else p == 0x05 && w == 0x68)

/-- Fields of other words that survive a start. -/
def keptFields : List Fld := [F.PWR_EVCNT_FAILS, F.FLT_COUNT_MISMATCH, F.BAY_STAT_SEALED, F.BAY_STAT_LOGFULL, F.BAY_PSTAT_SEALED,
  F.RSM_PSTAT_FULL, F.RSM_PSTAT_NEARFULL] ++ (List.range 8).map fun k => F.BL_PSTAT_LEARNED.on k

/-- The words whose values are saved beside the configuration (R140, R199, R207). -/
def savedWords : List Nat :=
  [F.CUR_OFSA_OFS.addr, F.CUR_OFSB_OFS.addr, F.STV_GSTR_G.addr, F.STV_GLNK_G.addr] ++
    (List.range 8).map fun k => (F.MD_GAIN_GAIN.on k).addr

/-- The state at t = 0: what MRAM and the pins hold, and everything else at its reset value. -/
def State.atStart (s : State) (x : StartUp) : State :=
  let regs := s.regs.filter fun w => keptWord w.1
  let t : State := {
    regs := regs
    shadow := regs.filter fun w => decide (8 ≤ w.1 % 256) && decide (w.1 % 256 < 0x60) && decide (3 ≤ w.1 / 256 ∨ w.1 / 256 = 1)
    pins := { addr := x.addr, shoreDet := x.shoreDet, wakeN := x.wakeN }
    pw := { s.pw with tries := 0, lockedUntil := none }
    spw := { s.spw with tries := 0, lockedUntil := none }
    fw := { s.fw with waiting := [], abandonedInHalt := false }
    rsm := { stored := s.rsm.stored, lost := s.rsm.lost }
    cyl := { records := s.cyl.records, acked := s.cyl.acked }
    flt := { savedLeft := s.flt.savedLeft }
    bay := s.bay
    mot := { axes := s.saved.envs.toList.map fun e => { env := e } }
    saf := { passedAt := s.saf.passedAt, operated := s.operating, log := s.saf.log }
    sage := s.sage
    ring := { imageSeq := s.ring.imageSeq, half0 := s.ring.half0, half1 := s.ring.half1, newest1 := s.ring.newest1 }
    aut := { ids := s.aut.ids, anchor := s.aut.anchor }
    saved := s.saved
    ratios := s.ratios
    pending := s.pending }
  let t := keptFields.foldl (fun (t : State) f => t.setReg f.addr (withBits (t.reg f.addr) f.hi f.lo (s.get f))) t
  let t := (s.saved.words.filter fun w => savedWords.contains w.1).foldl (fun (t : State) w => t.setReg w.1 w.2) t
  let t := (t.setReg F.CYL_ACKED_SEQ.addr (BitVec.ofNat 32 s.cyl.acked)).setReg F.CYL_STAT_UNACK.addr
    (withBits (t.reg F.CYL_STAT_UNACK.addr) F.CYL_STAT_UNACK.hi F.CYL_STAT_UNACK.lo (s.get F.CYL_NEWEST_SEQ - s.cyl.acked))
  let use := F.SCH_CFG_USE.addr
  let t := (t.setReg use (t.heldConfig use (t.reg use))).setShadow use (t.heldConfig use (t.shadowReg use))
  let v := fun (f : Fld) => t.getInt f
  { t with
    saved := { t.saved with last := 0 }
    cur := { ofsA := v F.CUR_OFSA_OFS, ofsB := v F.CUR_OFSB_OFS, gStr := v F.STV_GSTR_G, gLnk := v F.STV_GLNK_G }
    dieSt := (List.range 8).map fun k => { gain := v (F.MD_GAIN_GAIN.on k) } }

/-- The entries the last run left in the journal: those of the party that held the port, or whose port was being recovered, are
open; the others had not begun. -/
def State.openEntries (s : State) : List JournalEntry :=
  s.journal.filter fun e => s.flt.recovering == some e.party || (s.flt.recovering.isNone && s.leaseHolder 0 == e.party &&
    s.leaseState 0 != 0)

/-- The journal rule at start-up (R86, R297): MRAM without the writes whose records are incomplete, how many open entries are
complete, and the incomplete ones. `records` says of each entry that had begun whether its commit record is complete; those behind
them had not begun and left nothing. -/
def State.decideJournal (s : State) (records : List Bool) : State × Nat × List JournalEntry :=
  let opens := s.openEntries.take records.length
  let done := opens.take (records.takeWhile id).length
  let party := (s.openEntries.head?.map fun e => e.party).getD 0
  ({ s.undoEntries (dropOwn party done.length s.journal) with journal := [] }, done.length, opens.drop done.length)

/-- The entry holds the pages of a commit step: a page's CMTSEQ is among its words. -/
def JournalEntry.ofCommit (e : JournalEntry) : Bool :=
  e.old.any fun k => match k with
    | .word a _ => a % 256 == 5
    | _ => false

/-- What start-up reports of the journal: flags, and the class 2 event of a discarded configuration (R86, R297). -/
def State.reportJournal (s : State) (done : Nat) (left : List JournalEntry) : State :=
  let s := s.applyIf (decide (0 < done)) fun s => s.flag F.FLT_IFLAG_ROLLFWD
  let s := s.applyIf (left != []) fun s => s.flag F.FLT_IFLAG_DISCARD
  s.applyIf (left.any JournalEntry.ofCommit) fun s => s.listed 0x02 1 2

/-- Stack-link training (R59, R129): segments that did not train start down, and their event waits for RUN. -/
def State.train (s : State) (x : StartUp) : State :=
  let up := fun (g : Nat) => decide (g ≤ s.dies) && x.segments.contains g
  let failed := (List.range (s.dies + 1)).filter fun g => !up g
  let s := s.set F.STK_SEGST_UP (bitMap 9 up)
  let s := s.dieList.foldl (fun (s : State) k => s.set (F.STK_DELAY_DELAY.at k) (entryNat x.delays k)) s
  let s := s.onStk fun t => { t with trainFailed := failed, unhealthy := s.dieList }
  (s.applyIf (failed != []) fun s => s.flag F.STK_IFLAG_SEG_DOWN).defaultPaths

/-- Both cores test themselves during training (R294): dual, degraded on one, or HALT. -/
def State.coreStart (s : State) (a b : Bool) : State :=
  let total := s.get F.FLT_CFG_DEGR_TIME * 3600
  if a && b then
    if s.flt.savedLeft = 0xFFFFFFFF then s
    else ({ s with flt := { s.flt with savedLeft := 0xFFFFFFFF } } : State).journalWrite [.degrLeft s.flt.savedLeft]
  else if !a && !b then
    (((s.set F.FLT_MODE_MODE 3).setOn F.FLT_PSTAT_DEGRADED true).set F.PWR_BOOT_STEP 15).set F.CMP_FLSTAT_ACTIVE 128 |>.onPwr
      fun p => { p with phase := .halt, settling := [] }
  else
    let s := (s.set F.FLT_MODE_MODE (if a then 1 else 2)).setOn F.FLT_MODE_STARTUP true
    let s := s.setOn F.FLT_PSTAT_DEGRADED true
    { s with flt := { s.flt with degradedFrom := some 0, spent := total - min total s.flt.savedLeft } }

/-- A bank holds a valid image: the check of hash and signature, and an image not made invalid since (R61, R89). -/
def State.bankOk (s : State) (b : Bool) : Bool :=
  if b then s.pwr.start.bankB && s.fw.verB != 0 else s.pwr.start.bankA && s.fw.verA != 0

/-- Step 0x3 ends and step 0x4 is done (R59, R61, R229, R302, R324): the firmware bank, Sage, Bay, and the run-start record. -/
def State.bootBanks (s : State) : State :=
  let okA := s.bankOk false
  let okB := s.bankOk true
  let pref := s.fw.prefB
  let s := s.onFw fun f => { f with verA := if okA then f.verA else 0, verB := if okB then f.verB else 0 }
  let s := s.showBanks
  let runB := if pref then okB else !okA && okB
  let s := (s.setOn F.PWR_BOOT_A_BAD ((!pref || !okB) && !okA)).setOn F.PWR_BOOT_B_BAD ((pref || !okA) && !okB)
  if !okA && !okB then
    ((((s.set F.PWR_BOOT_STEP 15).set F.PWR_MDPWR_MD_ON 0).set F.SYS_DIEMAP_MD 0).onPwr fun p => { p with phase := .halt }).onFw
      fun f => { f with haltPref := pref }
  else
    let s := (s.set F.PWR_BOOT_BANK (ofBool runB)).setOn F.PWR_BOOT_FALLBACK (runB != pref)
    let s := s.put F.SYS_FWVER_BUILD.addr (if runB then s.fw.verB else s.fw.verA)
    let s := s.set F.PWR_BOOT_STEP 4
    let x := s.pwr.start
    let s := (s.sageStart x.copyA x.copyB s.pwr.woke).bayStartUp x.bayCopy x.bayOlder (x.bayImage && x.bayParams)
    let s := s.raise 0x14 (.fixed 0x44) 0 1 [addrOf 0x06 0x65, addrOf 0x06 0x64, addrOf 0x04 0x60]
    let s := s.applyIf (s.pw.pw == 0) fun s => s.listed 0x02 0 1
    s.applyIf (s.spw.pw == 0) fun s => s.listed 0x18 4 1

/-- The highest of some SEQs, compared as frame sequences are (R302). -/
def highestSeq : List Nat → Nat
  | [] => 0
  | x :: l => l.foldl (fun a b => if laterSeq b a then b else a) x

/-- START_QUALIFIED: t = 0. MRAM is read under the journal rule, the stack link trains and the cores test themselves; the dies then
report one by one (R59). A wake shows its source; every other start shows POWER_ON where the supply rose (R66). -/
def execStartQualified (x : StartUp) (s : State) : Outcome State Fault Refusal :=
  if s.pwr.phase != .off then .next s
  else
    let cause := if 8 ≤ s.pwr.cause then s.pwr.cause else s.pwr.cause ||| ofBool x.powerOn
    let r := s.decideJournal x.records
    let s := r.1
    let t := s.atStart x
    let t := t.onPwr fun p => { p with
      phase := .startup, cause := 0, settling := t.dieList, start := x, woke := decide (8 ≤ cause) }
    let t := t.setReg (addrOf 0x06 0x65) (BitVec.ofNat 32 cause)
    let t := (t.set F.KRG_STAT_ADDR x.addr).set F.PWR_HUPCAP_CAP x.capacitance
    let top := highestSeq (s.rsm.stored.map fun r => r.seq)
    let t := ((t.set F.RSM_HEAD_SEQ ((top + s.get F.RSM_LOST_TOTAL) % 4294967296)).set F.RSM_FLUSHED_SEQ top).showFill
    let t := (t.set F.PRT_STAT_AUX (x.aux % 16)).reportJournal r.2.1 r.2.2
    let t := t.showBanks
    let t := [0, 1].foldl (fun (t : State) p =>
      t.set (F.HST_CAN0ST_STATE.at p) (if t.on (F.HST_CAN0CFG_EN.at p) then 0 else 3)) t
    let t := if t.hasM then axisList.foldl (fun (t : State) a =>
        (t.setOn (F.AX_STAT_HOME.on a) (bit x.home a)).setOn (F.AX_STAT_LIM.on a) (bit x.lim a)) t
      else t
    .next ((t.showHeld.train x).coreStart x.coreA x.coreB)

/-- A die is done with step 0x2: after the last, step 0x3 begins (R59). -/
def State.dieDone (s : State) (k : Nat) : State :=
  let s := s.onPwr fun p => { p with settling := p.settling.filter (· != k) }
  s.applyIf (s.pwr.settling == []) fun s => s.set F.PWR_BOOT_STEP 3

/-- Step 0x3, which device firmware runs, ends: at the first boundary after it began, with the cores running (log entry 20). -/
def State.finishBoot (s : State) : State :=
  s.applyIf (s.pwr.phase == .startup && s.get F.PWR_BOOT_STEP == 3 && !s.frozen && !s.coresHeld) State.bootBanks

/-- Die `k` waits no longer for its references. -/
def State.endSettling (s : State) (k : Nat) : State := s.onPwr fun p => { p with settling := p.settling.filter (· != k) }

/-- MDIE_SETTLED: die `k` has settled its references; at start-up the dies are powered from 12 ms on, 2 ms apart (R59, R62). A die
that has been power-cycled in service starts its converters and rejoins at a boundary (R131, R409). -/
def execMdieSettled (k : Nat) (s : State) : Outcome State Fault Refusal :=
  if !s.pwr.settling.contains k then .next s
  else if s.pwr.phase == .startup then
    let s := s.reach (12000 + 2000 * k)
    let s := (s.set F.PWR_MDPWR_MD_ON (withBit (s.get F.PWR_MDPWR_MD_ON) k true)).onDie k fun d => { d with startedAt := s.now }
    .next ((s.markHealthy k).dieDone k)
  else if s.pwr.phase == .run then
    let s := s.set F.STK_ROUTE_ASLEEP (withBit (s.get F.STK_ROUTE_ASLEEP) k false)
    .next (((s.onDie k fun d => { d with startedAt := s.now }).endSettling k).rejoinNext k)
  else .next s

/-- Die `k` is given up after its second attempt (R62). -/
def State.dieFailed (s : State) (k : Nat) : State :=
  (s.set F.PWR_MDPWR_MD_FAIL (withBit (s.get F.PWR_MDPWR_MD_FAIL) k true)).set F.PWR_MDPWR_MD_ON
    (withBit (s.get F.PWR_MDPWR_MD_ON) k false)

/-- MDIE_SETTLE_TIMEOUT: die `k` has not settled within 5 ms; it is powered down and retried once, then given up (R62). A die
that fails in a power cycle stays powered down (R409). -/
def execMdieSettleTimeout (k : Nat) (s : State) : Outcome State Fault Refusal :=
  if !s.pwr.settling.contains k then .next s
  else
    let s := s.applyIf (s.pwr.phase == .startup) fun s => s.reach (17000 + 2000 * k)
    if !s.pwr.retried.contains k then .next (s.onPwr fun p => { p with retried := k :: p.retried })
    else if s.pwr.phase == .startup then .next ((s.dieFailed k).dieDone k)
    else
      let s := (s.dieFailed k).endSettling k
      .next { s with tmp := { s.tmp with
        downAt := (k, s.now) :: s.tmp.downAt.filter (fun e => e.1 != k), cycling := s.tmp.cycling.filter (· != k) } }

/-- The store has failed its check (R58). -/
def State.storeFailed (s : State) : State :=
  if s.on F.PWR_STAT_HUP_FAIL then s
  else (s.setOn F.PWR_STAT_HUP_FAIL true).flagEvent F.PWR_IFLAG_HUP_FAIL 2 [F.PWR_STAT_HUP_FAIL.addr, F.PWR_HUPCAP_CAP.addr]

/-- HUP_OK follows the store; one that reaches 38 V but measures below 15 µF fails all the same (R58). -/
def State.showStore (s : State) (ok : Bool) : State :=
  (s.setOn F.PWR_STAT_HUP_OK ok).applyIf (ok && decide (s.get F.PWR_HUPCAP_CAP < 150)) State.storeFailed

/-- HOLDUP_STORE_CHARGED: the store reaches 38 V; one below 15 µF fails all the same (R58). -/
def execHoldupStoreCharged (s : State) : Outcome State Fault Refusal :=
  if s.alive then .next (s.showStore true) else .next s

/-- HOLDUP_TIMEOUT: the store has not reached 38 V within 150 ms (R58). -/
def execHoldupTimeout (s : State) : Outcome State Fault Refusal :=
  if s.alive && !s.on F.PWR_STAT_HUP_OK then .next (s.reach 150000).storeFailed else .next s

/-! ### The supply (R54 to R57, R63) -/

/-- SUPPLY_LOW: below 16.8 V for 1 ms. -/
def execSupplyLow (s : State) : Outcome State Fault Refusal :=
  if s.cdieRuns && !s.on F.PWR_STAT_LOW then
    .next ((s.setOn F.PWR_STAT_LOW true).flagEvent F.PWR_IFLAG_LOW 1 [F.PWR_STAT_LOW.addr])
  else .next s

/-- SUPPLY_LOW_CLEAR: above 17.1 V for 10 ms. -/
def execSupplyLowClear (s : State) : Outcome State Fault Refusal :=
  if s.cdieRuns then .next (s.setOn F.PWR_STAT_LOW false) else .next s

/-- PWR_WARN: below 15.5 V for 20 µs. -/
def execPwrWarn (s : State) : Outcome State Fault Refusal :=
  if s.cdieRuns && !s.on F.PWR_STAT_WARN then
    let s := ((s.setOn F.PWR_STAT_WARN true).setOn F.PWR_STAT_COMMIT_INH true).flag F.PWR_IFLAG_WARN_SET
    let s := s.count F.PWR_EVCNT_WARNS
    let s := s.abortBrakeTests fun _ => true
    .next ((s.applyIf s.sage.wbDue fun s => s.setOn F.SGE_WBSTAT_DEFER true).triggerFlush.bayCopy)
  else .next s

/-- PWR_WARN_CLEAR: above 16.0 V for 10 ms; a write-back that fell due meanwhile starts 1 s later. -/
def execPwrWarnClear (s : State) : Outcome State Fault Refusal :=
  if s.cdieRuns && s.on F.PWR_STAT_WARN then
    let s := ((s.setOn F.PWR_STAT_WARN false).setOn F.PWR_STAT_COMMIT_INH false).flag F.PWR_IFLAG_WARN_CLR
    .next (s.applyIf s.sage.wbDue fun s => s.onPwr fun p => { p with writebackAfter := some (s.now + 1000000) })
  else .next s

/-- The five steps of R56: fault line, PROP_EN, load switches and brakes, gates, power transfer to the M-dies. -/
def State.outputsOff (s : State) (phase : Phase) : State :=
  let s := (s.onPwr fun p => { p with phase := phase }).raiseSource 6
  let s := (s.loadsOff).safetyEval
  let s := s.applyIf s.hasM fun s => axisList.foldl State.bridgeOff s.cutCycles.chopperOff
  s.set F.PWR_MDPWR_MD_ON 0

/-- No write is left in the journal, and the port is not in recovery. -/
def State.journalDone (s : State) : State := { s with journal := [], flt := { s.flt with recovering := none } }

/-- What is under way at the MRAM write port and behind it comes to its end (R57, R64): a Sage write-back that runs, the journaled
writes of device firmware, then, with the port and the staging buffer in the hands of island 1, the ledger record of a cycle that was
cut off and the final flush. -/
def State.portTasks (s : State) (closeWindows : Bool) : State :=
  let s := if s.coresHeld then s
    else (match s.sage.wbData with
      | some c => s.writebackStored c
      | none => s).journalDone
  let s := ((s.clearSlot 0).clearSlot 7).acquireLease 0 partyIsland1
  (((s.ledgerAll).finalFlush closeWindows).saveAcked).clearSlot 0

/-- The tasks of R57. -/
def State.holdupTasks (s : State) : State := s.portTasks true

/-- PWR_FAIL: below 13.0 V for 20 µs. During a freeze the tasks wait for the survivor (R299). -/
def execPwrFail (s : State) : Outcome State Fault Refusal :=
  if s.alive then
    let s := s.outputsOff .holdup
    let s := ((s.countLife F.PWR_EVCNT_FAILS).listed 0x06 0 3 [addrOf 0x06 0x60]).bayCopy
    .next (if s.frozen then s else s.holdupTasks)
  else .next s

/-- CDIE_RESET: the store falls to its minimum and the C-die enters reset (R56). -/
def execCdieReset (s : State) : Outcome State Fault Refusal :=
  if s.pwr.phase == .holdup then .next (s.onPwr fun p => { p with phase := .off, cause := 2 }) else .next s

/-- VM_OK_CHANGE: VM has been inside 11.0 V to 62.0 V for 10 ms, or is outside (R63); its loss puts every axis into its safe state and
stops it (R346 rank 2, R360). -/
def execVmOkChange (ok : Bool) (s : State) : Outcome State Fault Refusal :=
  if s.cdieRuns && s.hasM && s.on F.PWR_STAT_VM_OK != ok then
    let s := (s.setOn F.PWR_STAT_VM_OK ok).flag F.PWR_IFLAG_VM
    .next (if ok then s.setOn F.GDR_STAT_VMHARD false else s.safeAll 1)
  else .next s

/-- ADDR_CHANGE: the pins change in service; the sampled address stays (R38). -/
def execAddrChange (addr : Nat) (s : State) : Outcome State Fault Refusal :=
  let t := { s with pins := { s.pins with addr := addr % 16 } }
  if s.alive && addr % 16 != s.pins.addr then .next (t.listed 0x12 0 1 [F.KRG_STAT_ADDR.addr]) else .next t

/-! ### Host reset and laid-up mode (R64 to R66) -/

/-- A write to PWR_RESET: refused while a contactor is closed or an axis moves. The restart follows the flush, which waits for
what runs at the MRAM write port; the module leaves the ring. -/
def State.writeReset (s : State) (v : Word) : State × Option Nat :=
  if v ≠ 0xC0DE ∨ (s.anyCdClosed || s.anyMoving) = true then (s, some 0x0A)
  else
    let s := ((s.outputsOff .off).leaveRing).portTasks false
    (s.onPwr fun p => { p with cause := 4 }, none)

/-- A write to PWR_LAYUP: the refusals of R65, then its six steps. After PWR_FAIL the supply lies below the threshold of PWR_WARN. -/
def State.writeLayup (s : State) (v : Word) : State × Option Nat :=
  if v ≠ 0x1A1D ∨ (s.anyCdClosed || s.anyMoving || s.pins.shoreDet || s.pins.wakeN || s.on F.PWR_STAT_WARN ||
      s.pwr.phase == .holdup) = true then (s, some 0x0A)
  else
    let s := if s.pwr.phase == .run then
        let s := match s.sage.wbData with
          | some c => s.writebackStored c
          | none => s
        ((s.writebackStored s.sageData).onSage fun g => { g with wbDue := false }).saveNow
      else s
    let s := ((s.listed 0x06 1 0 [addrOf 0x06 0x60]).portTasks false).outputsOff .laidUp
    let s := s.leaveRing
    let s := ((s.setOn F.PWR_STAT_HUP_OK false).set F.PWR_VM_VHUP 0).set F.SYS_DIEMAP_MD 0
    ({ s with gdieDown := s.hasM, pwr := { s.pwr with cause := 0 } }, none)

/-- LAYUP_WAKE: an enabled source has held for the deglitch time: 0 SHORE_DET, 1 WAKE_N (R66). -/
def execLayupWake (source : Nat) (s : State) : Outcome State Fault Refusal :=
  let enabled := if source = 0 then s.on F.PWR_LAYCFG_SHORE_EN else s.on F.PWR_LAYCFG_WAKEN_EN
  if s.pwr.phase == .laidUp && enabled then
    .next (s.onPwr fun p => { p with phase := .off, cause := if source = 0 then 8 else 16 })
  else .next s

/-- LAYUP_SUPPLY_LOST: VSHIP below 13.0 V for 20 µs discards the wake cause; the next start is an ordinary one and shows
POWER_ON. -/
def execLayupSupplyLost (s : State) : Outcome State Fault Refusal :=
  if s.pwr.phase == .laidUp then .next (s.onPwr fun p => { p with phase := .off, cause := 1 }) else .next s

end Sys2Proof.Machine
end

