-- ==== Sys2Proof/Machine/Thermal.lean ====
section
/-! DEFINITION. Thermal management (R402 to R412). -/
namespace Sys2Proof.Machine
open Host

/-- Change what thermal management keeps. -/
def State.onTmp (s : State) (f : ThermalSt → ThermalSt) : State := { s with tmp := f s.tmp }

/-- Die number `d`: 0 to 7 M-dies, 8 the G-die, 9 the C-die. It is fitted. -/
def State.hasDie (s : State) (d : Nat) : Bool := if d < 8 then decide (d < s.dies) else if d = 8 then s.hasM else d == 9

/-- Bits of the die maps of TMP. -/
def State.latched (s : State) (d : Nat) : Bool := bit (s.get F.TMP_LATCH_LATCHED) d
def State.throttled (s : State) (d : Nat) : Bool := bit (s.get F.TMP_THR_THROTTLE) d
def State.diodeFaulty (s : State) (d : Nat) : Bool := bit (s.get F.TMP_LATCH_DIODE) d
def State.setDieBit (s : State) (f : Fld) (d : Nat) (v : Bool) : State := s.set f (withBit (s.get f) d v)

/-- Where the reading of die `d` is shown. -/
def tempField (d : Nat) : Fld :=
  if d = 9 then F.TMP_TCG_C else if d = 8 then F.TMP_TCG_G
  else if d % 2 = 0 then F.TMP_TM01_EVEN.at (d / 2) else F.TMP_TM01_ODD.at (d / 2)

/-! ### Stop, power-down and power cycle (R407 to R409) -/

/-- A die stops (R407): the latch, the moving axes, and for the C-die the load switches. The condition, the balancing switches
and the power-down follow from the latch. -/
def State.stopDie (s : State) (d : Nat) : State :=
  if s.latched d then s
  else
    let s := ((s.setDieBit F.TMP_LATCH_LATCHED d true).countLife F.TMP_COUNT_STOPS).flagEvent F.TMP_IFLAG_STOP 2
      [F.TMP_LATCH_LATCHED.addr]
    let s := s.applyIf s.hasM fun s => s.stopMoving 4
    s.applyIf (d == 9) State.loadsOff

/-- Power down die `d` (R407): an M-die sleeps, the bridges of the G-die go to their safe state. -/
def State.powerDownDie (s : State) (d : Nat) : State :=
  let s := s.onTmp fun t => { t with
    downAt := (d, s.now) :: t.downAt.filter (fun e => e.1 != d), cycling := t.cycling.filter (· != d) }
  if d < 8 then
    ((s.sleepDie d).set F.PWR_MDPWR_MD_ON (withBit (s.get F.PWR_MDPWR_MD_ON) d false)).markUnhealthy d
  else
    let s := axisList.foldl (fun s a =>
      (((s.quietGate a).stopAxis a 2).onAxis a fun x => { x with drive := 0 }).set (F.GD_STAT_STATE.on a) 0) s.chopperOff
    { s with gdieDown := true }

/-- THERMAL_POWER_DOWN: once all contactors read open, or after the hardware open, a stopped die is powered down. -/
def execThermalPowerDown (d : Nat) (s : State) : Outcome State Fault Refusal :=
  if d < 9 ∧ s.latched d = true ∧ (s.tmp.downAt.all fun e => e.1 != d) = true ∧ s.tmp.cycling.contains d = false ∧
      (s.anyCdClosed = false ∨ s.tmp.expired.contains d = true) then .next (s.powerDownDie d)
  else .next s

/-- Power up a latched die (R409); an M-die starts as under R62. -/
def State.powerUpDie (s : State) (d : Nat) : State :=
  let s := (s.onTmp fun t => { t with
    downAt := t.downAt.filter fun e => e.1 != d, cycling := d :: t.cycling.filter (· != d) }).countLife F.TMP_COUNT_PCYC
  if d < 8 then
    { s.set F.PWR_MDPWR_MD_ON (withBit (s.get F.PWR_MDPWR_MD_ON) d true) with
      pwr := { s.pwr with settling := d :: s.pwr.settling, retried := s.pwr.retried.filter (· != d) } }
  else s.powerUpGate

/-- COOL of die `d` has passed since its power-down. -/
def State.cooled (s : State) (d : Nat) : Bool :=
  s.tmp.downAt.any fun e => e.1 == d && decide (e.2 + s.get F.TMP_CFG_COOL * 1000000 ≤ s.now)

/-- DIE_POWER_CYCLE: the automatic power cycle, at most three times per die per start-up (R409). -/
def execDiePowerCycle (d : Nat) (s : State) : Outcome State Fault Refusal :=
  match (s.tmp.downAt.find? fun e => e.1 == d) with
  | none => .next s
  | some e =>
    if s.pwr.phase == .run && s.on F.TMP_CFG_AUTO && s.latched d && decide (countOf s.tmp.tries d < 3) then
      let s := s.advanceTo (e.2 + s.get F.TMP_CFG_COOL * 1000000)
      .next ((s.onTmp fun t => { t with tries := putCount d (countOf t.tries d + 1) t.tries }).powerUpDie d)
    else .next s

/-- A write to TMP_CMD: 0x100 + d (R409); after PWR_FAIL no die powers up (R56; log entry 122). -/
def State.writeTmpCmd (s : State) (v : Word) : State × Option Nat :=
  let d := v.toNat - 0x100
  if 0x100 ≤ v.toNat ∧ d ≤ 8 ∧ s.latched d = true ∧ s.cooled d = true ∧ s.pwr.phase ≠ .holdup then (s.powerUpDie d, none) else (s, some 0x0A)

/-- The latch of a die clears; source 8 ends with the last latch whose deadline expired (R408, R409). -/
def State.clearLatch (s : State) (d : Nat) : State :=
  let expired := s.tmp.expired.filter (· != d)
  let s := (s.setDieBit F.TMP_LATCH_LATCHED d false).onTmp fun t => { t with
    cycling := t.cycling.filter (· != d), expired := expired }
  (s.applyIf expired.isEmpty fun s => s.dropSource 8).flag F.TMP_IFLAG_PCYC

/-! ### Evaluation (R403 to R405) -/

/-- Readings outside the diode's range, counted; three in a row, or no conversion, make it faulty (R404). -/
def State.judgeDiode (s : State) (d : Nat) (t : Int) (missing : Bool) : State :=
  let out := decide (t < -6000) || decide (20000 < t)
  let n := if out then countOf s.tmp.bad d + 1 else 0
  let s := s.onTmp fun x => { x with bad := putCount d n x.bad }
  if missing || decide (3 ≤ n) then
    s.applyIf (!s.diodeFaulty d) fun s =>
      (s.setDieBit F.TMP_LATCH_DIODE d true).flagEvent F.TMP_IFLAG_DIODE 2 [F.TMP_LATCH_DIODE.addr]
  else s.applyIf (!out) fun s => s.setDieBit F.TMP_LATCH_DIODE d false

/-- One evaluation of a die at `t`, 0.01 °C (R403 to R407, R409). -/
def State.evalTemp (s : State) (d : Nat) (t : Int) (missing : Bool) : State :=
  let s := s.judgeDiode d t missing
  let faulty := s.diodeFaulty d
  let s := s.set (tempField d) (if faulty then 0x7FFF else codeOf 16 (clampInt (-32768) 32766 t))
  let atLeast := fun (x : Int) => faulty || decide (x ≤ t)
  let s := if atLeast 10500 then s.setDieBit F.TMP_THR_FAST d true
    else if t < 10000 then s.setDieBit F.TMP_THR_FAST d false else s
  let s := if atLeast 11500 then
      s.applyIf (!s.throttled d) fun s =>
        (s.setDieBit F.TMP_THR_THROTTLE d true).flagEvent F.TMP_IFLAG_THROTTLE 1 [F.TMP_THR_THROTTLE.addr]
    else if t ≤ 11000 then s.setDieBit F.TMP_THR_THROTTLE d false else s
  if s.tmp.cycling.contains d then
    if !faulty && decide (t < 10000) then s.clearLatch d else s.powerDownDie d
  else s.applyIf (atLeast 14000) fun s => s.stopDie d

/-- When the next evaluation of die `d` is due: 100 ms after the last one, or 1 ms on the fast rate, for an M-die once per frame
(R403). -/
def State.evalDue (s : State) (d : Nat) : Nat :=
  match s.tmp.evalAt.find? fun e => e.1 == d with
  | some e =>
    e.2 + (if bit (s.get F.TMP_THR_FAST) d then (if d < 8 then max 1000 s.period else 1000) else 100000)
  | none => s.now

/-- An M-die that is unreachable or asleep has no diode fault, and keeps its last reading (R404). -/
def State.forgetDiode (s : State) (d : Nat) : State :=
  (s.onTmp fun x => { x with bad := putCount d 0 x.bad }).setDieBit F.TMP_LATCH_DIODE d false

/-- TDIE has published since the converters of die `d` started. -/
def State.freshTdie (s : State) (d : Nat) : Bool := (s.die d).tdieAt.any fun t => decide ((s.die d).startedAt < t)

/-- The evaluation of die `d` that is now due. -/
def State.evalThermal (s : State) (d : Nat) (t : Int) (missing : Bool) : State :=
  if d < 8 then
    if !s.running then s
    else if !s.healthy d || bit (s.get F.STK_ROUTE_ASLEEP) d then s.forgetDiode d
    else if missing || s.freshTdie d then s.evalTemp d (s.getInt (F.MD_DIE_TDIE.on d)) missing
    else s
  else if d = 8 ∧ s.gdieDown = true then s
  else s.evalTemp d t false

/-- THERMAL_EVAL: island 5 evaluates die `d`, at its rate. The reading of an M-die is its latest published TDIE, and `missing` says
that scan slot 16 has returned no conversion for 100 ms; `t` is the reading of the G-die or the C-die, 0.01 °C (R403, R404). -/
def execThermalEval (d : Nat) (t : Int) (missing : Bool) (s : State) : Outcome State Fault Refusal :=
  if !s.cdieRuns || !s.hasDie d then .next s
  else
    let s := s.advanceTo (s.evalDue d)
    .next ((s.onTmp fun x => { x with evalAt := (d, s.now) :: x.evalAt.filter fun e => e.1 != d }).evalThermal d t missing)

/-! ### Pauses and memory errors (R406, R411) -/

/-- ms left of the motion pause and of the restart pause, as TMP_PAUSE shows them; all of PAUSE while a cycle still runs. -/
def State.pauseLeft (s : State) : Nat × Nat :=
  let left := fun (t : Option Nat) => match t with
    | some t => (t + s.get F.TMP_CFG_PAUSE * 1000000 - s.now) / 1000
    | none => 0
  (if s.motionPause then (if s.cycleRuns then s.get F.TMP_CFG_PAUSE * 1000 else left s.mot.lastEnd) else 0,
    if s.restartPause then left s.tmp.lastRestart else 0)

/-- THERMAL_PAUSE_END: PAUSE after the last operation the pause ends, and the next start may run. -/
def execThermalPauseEnd (motion : Bool) (s : State) : Outcome State Fault Refusal :=
  let p := s.get F.TMP_CFG_PAUSE * 1000000
  if motion then
    match s.mot.lastEnd with
    | some t =>
      if s.motionPause && !s.cycleRuns then
        let s := s.advanceTo (t + p)
        .next (s.setOn F.MOT_STAT_THROTTLE s.motionPause)
      else .next s
    | none => .next s
  else
    match s.tmp.lastRestart with
    | some t => .next (if s.restartPause then s.advanceTo (t + p) else s)
    | none => .next s

/-- The errors of the last hour with a new one at `t`. -/
def hourly (t : Nat) (l : List Nat) : List Nat := t :: l.filter fun x => decide (t < x + 3600000000)

/-- ECC_CORRECTED: a corrected single-bit error of SRAM or MRAM; more than 64 within an hour raise an event (R411). -/
def execEccCorrected (mram : Bool) (s : State) : Outcome State Fault Refusal :=
  if !s.cdieRuns then .next s
  else
    let s := if mram then (s.count F.TMP_ECC_MRAM).onTmp fun t => { t with mramTimes := hourly s.now t.mramTimes }
      else (s.count F.TMP_ECC_SRAM).onTmp fun t => { t with sramTimes := hourly s.now t.sramTimes }
    if 64 < (if mram then s.tmp.mramTimes else s.tmp.sramTimes).length then
      let s := s.onTmp fun t => if mram then { t with mramTimes := [] } else { t with sramTimes := [] }
      .next (s.flagEvent F.TMP_IFLAG_ECC 1 [F.TMP_ECC_SRAM.addr])
    else .next s

end Sys2Proof.Machine
end

