-- ==== Sys2Proof/Machine/Shown.lean ====
section
/-! DEFINITION. Results that follow the state from moment to moment: what they show, and the frame in which they last changed
(R76, R104). -/
namespace Sys2Proof.Machine

/-- Seconds left in degraded mode; all ones in dual mode (R293). -/
def State.degrLeft (s : State) : Nat :=
  match s.flt.degradedFrom with
  | some t => s.get F.FLT_CFG_DEGR_TIME * 3600 - s.flt.spent - (s.now - t) / 1000000
  | none => 0xFFFFFFFF

/-- Whole units left until a time; 0 when none runs. -/
def State.leftOf (s : State) (t : Option Nat) (unit : Nat) : Nat :=
  match t with
  | some t => (t - s.now) / unit
  | none => 0

/-- CFG_LOCKSTAT and SAF_LOCKSTAT, which are laid out alike (R88, R397). -/
def State.lockStat (s : State) (saf : Bool) : Word :=
  let p := s.password saf
  let unl := fun l => ofBool (if saf then s.safUnlocked l else s.unlocked l)
  BitVec.ofNat 32 (s.leftOf p.lockedUntil 1000000 * 65536 + ofBool (p.pw == 0) * 16 +
    unl .can1 * 4 + unl .can0 * 2 + unl .spi)

/-- Minutes until the test of a brake is due (R384). -/
def State.testDueIn (s : State) (b : Nat) : Nat :=
  min ((s.get F.SAF_BTEST_PERIOD * 3600000000 - (s.operating - entryNat s.saf.passedAt b)) / 60000000) 65535

/-- Minutes left of a degraded output; 0xFFFF while there is none (R390). -/
def State.safLeft (s : State) : Nat :=
  match s.saf.degrUntil with
  | some _ => s.leftOf s.saf.degrUntil 60000000
  | none => 0xFFFF

/-- The words that show the moment: attention sources, locks, the time base, times left. -/
def derivedWords : List Nat := [
  0x0160, 0x0161, 0x0162, 0x0163, 0x0262, 0x0360, 0x0461, 0x0470, 0x0471, 0x0472, 0x0473, 0x0474, 0x0475, 0x0476, 0x0477,
  0x0567, 0x0A76, 0x1062, 0x1861, 0x1863, 0x1864, 0x1866, 0x1963]

/-- What such a word shows now. -/
def State.derived (s : State) (a : Nat) : Word :=
  let v := s.reg a
  if a ≤ 0x0163 then BitVec.ofNat 32 (bitMap 32 fun b => s.attnPages.contains (32 * (a - 0x0160) + b))
  else if a = 0x0262 then s.lockStat false
  else if a = 0x0360 then BitVec.ofNat 32 s.now
  else if a = 0x0461 then BitVec.ofNat 32 s.degrLeft
  else if a ≤ 0x0477 then if s.leaseState (a - 0x0470) = 1 then withBits v 15 0 (s.leaseLeft (a - 0x0470)) else v
  else if a = 0x0567 then BitVec.ofNat 32 (min s.pauseLeft.1 65535 * 65536 + min s.pauseLeft.2 65535)
  else if a = 0x0A76 then withBits v 31 16 (s.leftOf s.bay.lockedUntil 1000000)
  else if a = 0x1062 then withBits v 31 16 s.deadlineLeft
  else if a = 0x1861 then withBits v 31 16 s.safLeft
  else if a ≤ 0x1864 then withBits v 15 0 (s.testDueIn (a - 0x1863))
  else if a = 0x1866 then s.lockStat true
  else BitVec.ofNat 32 (s.leftOf s.saf.wdtAt 1000)

/-- One such word holds what it shows; a change dates its page by the present frame. -/
def State.refreshWord (s : State) (a : Nat) : State := if s.fitted (a / 256) then s.put a (s.derived a) else s

/-- All of them: at every request and at the end of every frame. -/
def State.refreshShown (s : State) : State := derivedWords.foldl State.refreshWord s

end Sys2Proof.Machine
end

