-- ==== Sys2Proof/Machine/Frame.lean ====
section
/-! DEFINITION. Frames: the boundary with its publications and samples, the entry into RUN, servo ticks, the evaluation of a
publication, the clock check (R17, R24 to R26, R59, R117 to R121, R129). -/
namespace Sys2Proof.Machine
open Host

/-! ### Publication of a frame (R24, R25) -/

/-- What M0's channels sampled for frame `seq` publishes on CUR and STV. -/
def State.publishM0 (s : State) (seq : Word) (o : Option HeldM0) : State :=
  match o with
  | some h => (s.publishCur seq h).publishStv seq h
  | none => s

/-- The cells of a die publish. -/
def State.publishCells (s : State) (k : Nat) (f : DieFrame) : State :=
  ((s.publishSpans k f).publishDie k f).slotVoltages k

/-- What follows the published cells and currents of a die: its BL page, learning and tap tests. -/
def State.publishRest (s : State) (k : Nat) (f : DieFrame) : State :=
  ((s.balanceCurrents k f).learnFrame k f).captureTests k f.seq.toNat

/-- The frame of a die that ends now. -/
def State.endedFrame (s : State) (x : FrameSample) (k : Nat) : Option DieFrame :=
  let d := s.die k
  d.held.map fun h => {
    seq := s.frame, quiet := s.thy.quiet, held := h, sample := (x.dies[k]?).getD {}, mid := d.mid, scan := d.scan
    groups := d.spanGroups, onFor := d.bal.onIn s.thy.boundary s.now, bled := d.bal.bled, spanIa := s.cur.spanIa
    m0 := if k = 0 then s.cur.held else none }

/-- A frame of a die has been fetched by its publication boundary: the die is healthy, it had a path during the transfer, and the
transfer is complete (R129, R130). -/
def State.fetched (s : State) (k : Nat) (f : DieFrame) : Bool :=
  s.healthy k && f.sample.delivered && !(s.stk.lostSince.any fun e => e.1 == k && decide (e.2 < s.thy.boundary))

/-- The dies whose frame publishes at this boundary. -/
def State.inTime (s : State) (x : FrameSample) : List (Nat × DieFrame) :=
  s.dieList.filterMap fun k => match s.endedFrame x k with
    | some f => if s.fetched k f then some (k, f) else none
    | none => none

/-- The frame of a die that ends goes into its result buffer (R23); one of a healthy die that has not been fetched is to publish
late within the next frame (R129). -/
def State.bufferFrame (s : State) (x : FrameSample) (k : Nat) : State :=
  match s.endedFrame x k with
  | some f => s.onDie k fun d => { d with
      buffer := (f :: d.buffer).take 384, held := none, mid := [], scan := none, spanGroups := []
      late := if s.healthy k && !s.fetched k f then some f.seq else none }
  | none => s.onDie k fun d => { d with late := none }

/-- The late frame of a die, once the die is reached. -/
def State.lateFrame (s : State) (k : Nat) : Option DieFrame :=
  if s.healthy k && s.pathUp k then
    (s.die k).late.bind fun q => (s.die k).buffer.find? fun f => f.seq == q
  else none

/-- The late frame of die `k` publishes, M0's channels with that of M0. -/
def State.publishLate (s : State) (k : Nat) : State :=
  match s.lateFrame k with
  | none => s
  | some f =>
    let s := (s.publishCells k f).applyIf (k == 0) fun s => s.publishM0 f.seq f.m0
    (s.publishRest k f).onDie k fun d => { d with late := none }

/-- The charge that every die awake in the ended frame has integrated in it (R193). -/
def State.bleedAll (s : State) (x : FrameSample) : State :=
  s.dieList.foldl (fun (s : State) k => if (s.die k).held.isSome then s.bleed k ((x.dies[k]?).getD {}) else s) s

/-- Frame `n` publishes at boundary `n` + 1. M0's channels come with die M0; a frame of M0 that was late and has not been fetched by
now is lost. -/
def State.publishFrame (s : State) (x : FrameSample) : State :=
  let seq := s.frame
  let lost := (s.die 0).late.isSome
  let s := s.bleedAll x
  let now := s.inTime x
  let m0 := (now.find? fun e => e.1 == 0).bind fun e => e.2.m0
  let s := s.applyIf lost fun s => s.calMissed.loseM0 m0
  let s := s.dieList.foldl (fun (s : State) k => s.bufferFrame x k) s
  let s := now.foldl (fun (s : State) (e : Nat × DieFrame) => s.publishCells e.1 e.2) s
  let s := (s.publishM0 seq m0).applyIf (m0.isNone && (s.die 0).late.isNone) State.calMissed
  let s := now.foldl (fun (s : State) (e : Nat × DieFrame) => s.publishRest e.1 e.2) s
  (s.publishLoads seq x.loads x.peaks x.zones).cmpBoundary seq

/-! ### What Sage takes from a frame (R208, R213, R215, R224, R234, R241) -/

/-- The time the switch of a cell has been closed so far, µs. -/
def BalanceSt.closedTime (b : BalanceSt) (now i : Nat) : Nat :=
  countOf b.onTime i + (if b.closed.contains i then now - countOf b.closedAt i else 0)

/-- The mean switch current of a cell, 0.1 mA. -/
def State.iBal (s : State) (k i : Nat) : Nat :=
  if i % 2 = 0 then s.get ((F.BL_IBAL_EVEN.on k).at (i / 2)) else s.get ((F.BL_IBAL_ODD.on k).at (i / 2))

/-- The limits in force, 0.1 A, once LIM has published. -/
def State.limitsNow (s : State) : Option (List Nat) :=
  if s.published.contains 0x0E then some ((List.range 6).map fun i => s.get (F.LIM_DIS2_A.at i)) else none

/-- CUR_I has stayed in a band of IBAND for the 100 ms that end with this frame, none of them suspect. -/
def State.steadyNow (s : State) (time : Nat) (i : Int) : Bool :=
  let band : Int := s.get F.LIM_ZSTEP_IBAND * 100
  (s.sage.iHist.any fun e => decide (e.1 + 100000 ≤ time)) &&
    (s.sage.iHist.filter fun e => decide (time ≤ e.1 + 100000)).all fun e => !e.2.2 && decide (absInt (e.2.1 - i) ≤ band)

/-- The inputs of a Sage frame as published. -/
def State.sageInput (s : State) (seq time : Nat) : SageInput :=
  let i := s.getInt F.CUR_I_MA
  let perCell := fun {α : Type} (f : Nat → Nat → α) => s.dieList.map fun k => cellList.map (f k)
  { seq := seq, time := time
    words := perCell s.cellWord, temps := perCell s.cellTemp
    iBal := perCell fun k i => (s.iBal k i : Int)
    bal := perCell fun k i => countOf (s.die k).bal.charge i
    onTime := perCell fun k i => (s.die k).bal.closedTime s.now i
    healthy := s.get F.SYS_DIEMAP_MD, m0 := s.healthy 0 && s.pathUp 0, curI := i
    qacc := signedOf 64 (s.get F.CUR_QACC_HI_Q * 4294967296 + s.get F.CUR_QACC_LO_Q)
    suspect := s.on F.CUR_STAT_SUSPECT, cd1Open := !s.cdLive 1, steady := s.steadyNow time i
    limits := s.limitsNow, suspectAt := s.sage.suspectAt, gapAt := s.sage.gapAt }

/-- Note the current of a published frame, and the frame itself where it is a Sage frame. -/
def State.sageCapture (s : State) (seq time : Nat) : State :=
  let suspect := s.on F.CUR_STAT_SUSPECT
  let reach := 10000000 + 2 * s.sageStep * s.period
  let s := s.onSage fun g => { g with
    iHist := (time, s.getInt F.CUR_I_MA, suspect) :: g.iHist.filter fun e => e.1 != time && decide (time ≤ e.1 + reach)
    suspectAt := if suspect then some time else g.suspectAt
    gapAt := if s.healthy 0 && s.pathUp 0 then g.gapAt else some time }
  if seq % s.sageStep = 0 then
    let x := s.sageInput seq time
    s.onSage fun g => { g with
      inputs := (g.inputs.filter fun y => y.seq != seq) ++ [x]
      qHist := (time, x.qacc, x.limits) :: g.qHist.filter fun e => e.1 != time && decide (time ≤ e.1 + 31000000) }
  else s

/-- Sage frames whose boundary has passed without their step fall out (R209). -/
def State.dropSageFrames (s : State) : State :=
  let late := fun (x : SageInput) => decide (2 * s.sageStep < (s.frame.toNat + 4294967296 - x.seq) % 4294967296)
  s.onSage fun g => { g with inputs := g.inputs.filter fun x => !late x }

/-! ### The new frame (R117, R119 to R121) -/

/-- What every sampling die and M0 hold from this boundary. M0 counts no charge while it is unhealthy. -/
def State.sampleAll (s : State) (x : FrameSample) : State :=
  let sample := fun (k : Nat) => (x.dies[k]?).getD {}
  let s := s.dieList.foldl (fun (s : State) k =>
    let h := if s.sampling k then some (s.sampleDie k (sample k)) else none
    s.onDie k fun d => { d with held := h }) s
  let missed := fun (k : Nat) => s.sampling k && (sample k).strobeMiss
  let s := (if s.sampling 0 && s.healthy 0 then s.sampleM0 x else s.missM0).noteStrobes missed s.thy.sampledAt
  s.applyIf (s.dieList.any missed) fun s => s.flag F.STK_IFLAG_STROBE_MISS

/-- The supply voltages of a frame (R54, R58); VMHARD shows a VM outside 11.0 V to 62.0 V (R360). -/
def State.readRails (s : State) (x : FrameSample) : State :=
  let mv := fun (n : Nat) => min n 65535
  let s := (s.set F.PWR_VSUP_VLS (mv x.vls)).set F.PWR_VSUP_VSHIP (mv x.vship)
  let s := (s.set F.PWR_VM_VHUP (mv x.vhup)).set F.PWR_VM_VM (if s.hasM then mv x.vm else 0)
  let s := s.applyIf (s.hasM && decide (11000 ≤ x.vm) && decide (x.vm ≤ 62000)) fun s => s.setOn F.GDR_STAT_VMHARD false
  (s.showStore (decide (38000 ≤ x.vhup))).setOn F.PWR_STAT_VLS_OK (decide (16800 ≤ x.vls))

/-- Supplies, brakes, contactors and gate supply as this boundary reads them. -/
def State.readSupplies (s : State) (x : FrameSample) : State :=
  let s := s.readRails x
  let s := ((s.prtFrame x.coils).brakeFrame 0 (entryNat x.brakes 0)).brakeFrame 1 (entryNat x.brakes 1)
  if s.hasM then
    axisList.foldl (fun (s : State) a => s.showBootstraps a ((List.range 4).map fun b => entryNat x.bst (4 * a + b)))
      (s.set F.GDR_STAT_VGG (min x.vgg 65535))
  else s

/-- The draws of the cells of a die in laid-up mode differ by more than 0.05 µA (R67). -/
def leaky (d : DieSample) : Bool :=
  match d.leak with
  | [] => false
  | x :: l => decide (l.foldl min x + 5 < l.foldl max x)

/-- After a wake the first quiet frame checks the tap leakage (R67). -/
def State.checkLeakage (s : State) (x : FrameSample) : State :=
  if s.pwr.woke && s.thy.quiet then
    let s := s.onPwr fun p => { p with woke := false }
    (s.dieList.filter fun k => s.sampling k && leaky ((x.dies[k]?).getD {})).foldl (fun (s : State) k => s.listed (0x20 + k) 0 2) s
  else s

/-- The committed period is the active one; a change is flagged where it applies (R117). -/
def State.takePeriod (s : State) (flagged : Bool) : State :=
  let changed := s.get F.THY_STAT_ACTIVE != s.get F.THY_PERIOD_SEL
  ((s.set F.THY_STAT_ACTIVE (s.get F.THY_PERIOD_SEL)).applyIf (changed && flagged) fun s => s.flag F.THY_IFLAG_PERIOD).showLoad

/-- The switches at the boundary of frame `n`: those whose on-time has run out, or whose quiet window has begun, are open; tests and
balancing take the boundary; C follows (R121, R143, R179). -/
def State.beginSwitches (s : State) (x : FrameSample) (n : Nat) : State :=
  let s := s.dieList.foldl (fun (s : State) k => (s.openElapsed k).noteTaps k) s
  let s := (s.applyIf (n % 8 == 7) State.openAllSwitches).sampleAll x
  s.dieList.foldl (fun (s : State) k => ((s.testBoundary k).balanceBoundary k n).markCorrected k) s

/-- What a quiet frame `n` brings at its boundary: spans are captured, and the drift gain moves (R140, R158). -/
def State.beginQuiet (s : State) : State :=
  s.dieList.foldl (fun (s : State) k => (s.captureSpans k).moveGain k) s

/-- Frame `n` begins: samples, tap tests, balancing, and whether the frame is quiet. -/
def State.beginFrame (s : State) (x : FrameSample) : State :=
  let n := s.frame.toNat
  let s := s.beginSwitches x n
  let quiet := n % 8 == 7 || s.openSinceTime (s.now - s.get F.THY_QUIET_LEAD)
  let s := s.onThy fun t => { t with quiet := quiet, scanned := false, scanAt := none, scanRun := false }
  let s := (s.set F.THY_STAT_PHASE (n % 8)).setOn F.THY_STAT_QUIET quiet
  ((s.applyIf quiet State.beginQuiet).checkLeakage x).readSupplies x

/-- A boundary before RUN: frames of 1 ms run from 2 ms on, boundary `n` at `n` ms, and nothing publishes (R59, R117); paths are
restored (R129), and step 0x3 ends. -/
def State.idleBoundary (s : State) (x : FrameSample) : State :=
  (((s.refreshShown.reach (max 2000 s.nextBoundary)).restorePaths).readRails x).finishBoot

/-- The ended frame publishes and the next one begins. -/
def State.nextFrame (s : State) (x : FrameSample) : State :=
  let old := s.thy.boundary
  let b := s.nextBoundary
  let n := s.frame
  let s := (((s.advanceTo b).refreshShown.rejoinDies).restorePaths).stepDelays
  let s := s.dieList.foldl (fun (s : State) k => s.publishLate k) s
  let s := (s.publishFrame x).sageCapture n.toNat old
  let s := (s.set F.THY_FSEQ_SEQ (n.toNat + 1)).onThy fun t => { t with boundary := b, sampledAt := old }
  (s.takePeriod true).dropSageFrames.beginFrame x

/-- FRAME_BOUNDARY: the ended frame publishes and the next one begins (R24). -/
def execFrameBoundary (x : FrameSample) (s : State) : Outcome State Fault Refusal :=
  if s.running then .next (s.nextFrame x)
  else if s.pwr.phase == .startup || s.pwr.phase == .halt then .next (s.idleBoundary x)
  else .next s

/-! ### FIRMWARE_EVAL (R26, R129) -/

/-- FIRMWARE_EVAL: frames that come late publish, and device firmware evaluates the publication while the cores run. -/
def execFirmwareEval (s : State) : Outcome State Fault Refusal :=
  if s.coresRun then
    let late := s.dieList.filter fun k => (s.lateFrame k).isSome
    let s := late.foldl (fun (s : State) k => s.publishLate k) s
    let s := s.applyIf (late != []) fun s => s.sageCapture (s.frame.toNat - 1) s.thy.sampledAt
    .next s.evalPublication
  else .next s

/-! ### ENTER_RUN (R59) -/

/-- The first multiple of 4 ms at or after a time. -/
def boundaryFrom (t : Nat) : Nat := (t + 3999) / 4000 * 4000

/-- What waits for RUN: events of start-up, condition 0x0B of an expired degraded time, the ring and its slots, axes held. -/
def State.atRun (s : State) : State :=
  let s := s.stk.trainFailed.foldl (fun (s : State) _ =>
    s.raise 0x07 (.flag F.STK_IFLAG_SEG_DOWN.lo) 2 (sourceOf 0x07) [F.STK_SEGST_UP.addr]) s
  let s := s.onStk fun t => { t with trainFailed := [] }
  let s := s.applyIf (s.on F.PWR_BOOT_FALLBACK) fun s => s.listed 0x06 2 2 [addrOf 0x06 0x64]
  let s := (s.roundOfAll).onRing fun r => { r with runAt := s.now, asked := true }
  let s := if s.hasM then axisList.foldl (fun (s : State) a => s.setAxState a 6) s else s
  let s := { s with flt := { s.flt with renewed := s.now, evaluated := s.frame.toNat } }
  let s := [0, 1].foldl (fun (s : State) p => s.settleAttn p false) s
  let total := s.get F.FLT_CFG_DEGR_TIME * 3600
  let s := s.applyIf (s.flt.degradedFrom.isSome && decide (total ≤ s.flt.spent)) fun s => s.raiseCond 0x0B
  s.applySch.safetyEval.showRoles

/-- The earliest moment of RUN: the store charged, or 150 ms passed (R59), and the converters of every powered die running for 60 ms
(R145, log entry 71). -/
def State.runFrom (s : State) : Nat :=
  let started := (s.dieList.filter fun k => bit (s.get F.PWR_MDPWR_MD_ON) k).map fun k => (s.die k).startedAt + 60000
  started.foldl max (max s.now (if s.on F.PWR_STAT_HUP_OK then 0 else 150000))

/-- ENTER_RUN: at the first boundary at a multiple of 4 ms with step 0x4 complete and the store charged, or 150 ms passed, the
committed period applies, the first frame is sampled, and the fault line is released if no source is active. Device firmware
enters RUN, so that a freeze delays it, and without a core it does not come (log entry 82). -/
def execEnterRun (x : FrameSample) (s : State) : Outcome State Fault Refusal :=
  let s := s.finishBoot
  if s.pwr.phase == .startup && s.get F.PWR_BOOT_STEP == 4 && !s.frozen && !s.coresHeld then
    let t := boundaryFrom s.runFrom
    let s := ((s.advanceTo t).onPwr fun p => { p with phase := .run }).onThy fun y => { y with
      boundary := t, sampledAt := t, started := true }
    let s := ((s.set F.THY_FSEQ_SEQ (t / 1000)).set F.PWR_BOOT_STEP 5).set F.PWR_BOOT_TIME (t / 1000)
    let s := ((((s.restorePaths).takePeriod false).loadsAtRun s.pwr.start.zoneFaults).beginFrame x).cmpHold
    .next ((s.applyIf s.noSource State.releaseLine).atRun.bayAtRun)
  else .next s

/-! ### Servo ticks and the clock check (R17, R118, R292) -/

/-- The servo boundary now due: the first multiple of 250 µs from now on that has not been served. -/
def State.servoDue (s : State) : Nat :=
  let t := (s.now + 249) / 250 * 250
  if t ≤ s.mot.tickAt then s.mot.tickAt + 250 else t

/-- SERVO_TICK: at a servo boundary set-points latch, axes are read, the watchdog is renewed. -/
def execServoTick (xs : List AxisSample) (s : State) : Outcome State Fault Refusal :=
  if s.running then
    let t := s.servoDue
    let s := { s with mot := { s.mot with tickAt := t } }.advanceTo t
    let s := if s.hasM then axisList.foldl (fun (s : State) a => s.tickAxis a ((xs[a]?).getD {})) s else s
    let renew := s.coresRun && decide ((s.frame.toNat + 4294967296 - s.flt.evaluated) % 4294967296 ≤ 2)
    .next ((s.showRoles.safetyEval).applyIf renew fun s => { s with flt := { s.flt with renewed := s.now } })
  else .next s

/-- CLOCK_CHECK_WINDOW: a 1 s window of islands 3 and 7 counting each other's clock, in 0.1 ppm; above 500 ppm an event, and the
Bay partition judges it too (R17, R323). -/
def execClockCheckWindow (dev : Int) (s : State) : Outcome State Fault Refusal :=
  if s.alive then
    let s := s.applyIf (decide (5000 < absInt dev)) fun s => s.listed 0x03 0 2
    .next (s.applyIf s.hasB fun s => s.clockWindow dev)
  else .next s

end Sys2Proof.Machine
end

