-- ==== Sys2Proof/Machine/Access.lean ====
section
/-! DEFINITION. What a host reads: words, the effects of a read, STALE and REPEAT (R69 to R76, R81, R101 to R107). -/
namespace Sys2Proof.Machine

/-! ### Access codes of words -/

/-- Some field of the word has the access code. -/
def RegRow.hasAccess (r : RegRow) (acc : Access) : Bool := r.rows.any fun f => match f with
  | .fld _ _ _ a _ _ => a == acc
  | .rsv _ _ => false

/-- A word of the page map has a field with the access code. -/
def wordHas (page word : Nat) (acc : Access) : Bool := ((regRow page word).map fun r => r.hasAccess acc).getD false

/-- PID of a page (R69, R70). -/
def State.pid (s : State) (page : Nat) : Word :=
  match pageRow page with
  | some r => if s.fitted page then BitVec.ofNat 32 ((0x5300 + r.first) * 65536 + (page - r.first) * 256 + 1) else 0xFFFF0000
  | none => 0xFFFF0000

/-- The level of ATTN_N, true = asserted (R107). -/
def State.attnPin (s : State) : Bool := s.attention && s.on F.HST_CTL_ATTN_PIN

/-! ### Words that follow the state -/

/-- A word of a log kept as (index, words). -/
def logWord (log : List (Nat × List Word)) (i w : Nat) : Word :=
  match log.find? fun (e : Nat × List Word) => e.1 == i with
  | some e => (e.2[w]?).getD 0
  | none => 0

/-- The lost table entry a link has selected (R308). -/
def State.lostData (s : State) (i : Nat) : Word :=
  match s.rsm.lost[i]? with
  | some e => BitVec.ofNat 32 (codeOfEvent e.page e.low * 65536 + e.count)
  | none => 0

/-- A word of the CFG, THY, BAY, SGE or SGC page on a link; `v` is what is stored. -/
def State.shownLow (s : State) (l : Link) (page word : Nat) (v : Word) : Word :=
  let k := s.link l
  if page = 0x02 ∧ 0x09 ≤ word ∧ word ≤ 0x0C then
    BitVec.ofNat 32 (bitMap 32 fun b => s.commit.pend.contains (32 * (word - 0x09) + b))
  else if page = 0x03 ∧ word = 0x61 then BitVec.ofNat 32 (k.timeHi.getD (s.now / 4294967296 % 65536))
  else if page = 0x0A ∧ 0xC0 ≤ word ∧ word ≤ 0xC5 then logWord s.bay.log k.sel.bay (word - 0xC0)
  else if page = 0x0A ∧ word = 0xE0 then BitVec.ofNat 32 k.sel.bay
  else if page = 0x0C ∧ word = 0xE1 then s.tblData
  else if page = 0x0D ∧ 0x60 ≤ word ∧ word ≤ 0xDF then s.readSgc l word
  else if page = 0x0D ∧ word = 0xE0 then BitVec.ofNat 32 k.sel.bank
  else v

/-- A word of the LIM, AUT, CMP, RSM, CYL or SAF page on a link. -/
def State.shownHigh (s : State) (l : Link) (page word : Nat) (v : Word) : Word :=
  let k := s.link l
  if page = 0x0E ∧ word = 0xE0 then s.readZsel l
  else if page = 0x0E ∧ word = 0xE1 then s.readZdata l
  else if page = 0x0F ∧ word = 0xE0 then BitVec.ofNat 32 k.sel.slot
  else if page = 0x0F ∧ (word = 0xE1 ∨ word = 0xE2) then s.readTag l (word == 0xE2)
  else if page = 0x0F ∧ word = 0xE4 then (s.aut.staging[s.get F.AUT_KEYIDX_IDX]?).getD 0
  else if page = 0x11 ∧ (0x60 ≤ word ∧ word ≤ 0xA0) then s.cmpShown word
  else if page = 0x14 ∧ word = 0x65 then BitVec.ofNat 32 ((k.sel.snap.map fun x => x.1).getD 0)
  else if page = 0x14 ∧ word = 0x66 then BitVec.ofNat 32 (s.recordState k.sel.rsm)
  else if page = 0x14 ∧ 0x80 ≤ word ∧ word ≤ 0xBF then s.recordWord k.sel.rsm (word - 0x80)
  else if page = 0x14 ∧ word = 0xE0 then BitVec.ofNat 32 (ofBool k.sel.snap.isSome)
  else if page = 0x14 ∧ word = 0xE1 then BitVec.ofNat 32 k.sel.rsm
  else if page = 0x14 ∧ word = 0xE3 then BitVec.ofNat 32 k.sel.lost
  else if page = 0x14 ∧ word = 0xE4 then s.lostData k.sel.lost
  else if page = 0x15 ∧ word = 0x65 then BitVec.ofNat 32 (s.ledgerState k.sel.cyl)
  else if page = 0x15 ∧ 0x80 ≤ word ∧ word ≤ 0x8F then s.ledgerWord k.sel.cyl (word - 0x80)
  else if page = 0x15 ∧ word = 0xE0 then BitVec.ofNat 32 k.sel.cyl
  else if page = 0x18 ∧ word = 0x67 then s.safetyCrc
  else if page = 0x18 ∧ 0x70 ≤ word ∧ word ≤ 0x73 then logWord s.saf.log k.sel.saf (word - 0x70)
  else if page = 0x18 ∧ word = 0xE3 then BitVec.ofNat 32 k.sel.saf
  else v

/-- The link's CFG_VIEW bit: RWS words return the active copy (R81). -/
def State.viewActive (s : State) (l : Link) : Bool := bit (s.reg F.CFG_VIEW_SPI.addr).toNat (linkNo l)

/-- A saved value of the CFG page, read before step 0x4 of start-up has loaded it, is open (R60). -/
def State.beforeSaved (s : State) (a : Nat) (v : Word) : Word :=
  if s.beforeRun && s.get F.PWR_BOOT_STEP != 4 then
    let free := Config.beforeSaved a
    if a = F.CFG_CMTSEQ_SEQ.addr then free
    else if a = F.CFG_CLPHEAD_TOTAL.addr then v &&& 0x0000FFF0 ||| free &&& 0xFFFF000F
    else v
  else v

/-- What a link reads in a word (R6, R60, R70, R77, R81). -/
def State.readWord (s : State) (l : Link) (page word : Nat) : Word :=
  let a := addrOf page word
  if word = 0 then s.pid page
  else if s.fitted page = false then 0
  else if word = 1 then s.pstat page
  else if word < 8 then s.reg a
  else if wordHas page word .wo then 0
  else if wordHas page word .rws && !s.viewActive l then s.shadowReg a
  else if derivedWords.contains a then s.derived a
  else if page ≤ 0x0D then s.shownLow l page word (s.beforeSaved a (s.reg a))
  else s.shownHigh l page word (s.reg a)

/-! ### Effects of a read -/

/-- The word with its RC fields cleared. -/
def RegRow.clearRc (r : RegRow) (v : Word) : Word :=
  r.rows.foldl (fun (v : Word) f => match f with
    | .fld _ hi lo acc _ _ => if acc == .rc then withBits v hi lo 0 else v
    | .rsv _ _ => v) v

/-- A read of GD_LIVE fetches over the command link; an unreachable G-die leaves the last value. -/
def State.beforeRead (s : State) (page word : Nat) : State :=
  if s.hasM && decide (0x49 ≤ page ∧ page ≤ 0x4E ∧ word = 0xE1) && !s.gdieDown && !s.on F.GDR_STAT_LINKLOST then
    s.fetchLive (page - 0x49)
  else s

/-- What the read that returned a word changes: CLAMP and RC fields clear (R75), THY_TIME_LO latches the upper bits for the link
(R125), SGE_TBLDATA advances ENTRY (R211). -/
def State.readEffect (s : State) (l : Link) (page word : Nat) : State :=
  let a := addrOf page word
  if s.fitted page = false then s
  else if word = 6 then s.setReg a 0
  else if page = 0x03 ∧ word = 0x60 then s.onLink l fun k => { k with timeHi := some (s.now / 4294967296 % 65536) }
  else if page = 0x0C ∧ word = 0xE1 then s.advanceEntry
  else if wordHas page word .rc then
    match regRow page word with
    | some r => s.put a (r.clearRc (s.reg a))
    | none => s
  else s

/-- A word is read on a link. -/
def State.takeWord (s : State) (l : Link) (page word : Nat) : State × Word :=
  let s := s.beforeRead page word
  (s.readEffect l page word, s.readWord l page word)

/-! ### STALE and REPEAT (R102 to R105, R311) -/

/-- A tracked word. -/
def State.tracked (s : State) (page word : Nat) : Bool :=
  s.fitted page && decide (0x60 ≤ word ∧ word ≤ 0xDF) && !wordHas page word .rc && !wordHas page word .w1c

/-- Frame `a` is older than frame `b`. -/
def older (a b : Word) : Bool := decide (1 ≤ (b - a).toNat ∧ (b - a).toNat ≤ 0x7FFFFFFF)

/-- The scheduled frame of a page. -/
def State.scheduled (s : State) (page : Nat) : Option Word :=
  let m := s.frame.toNat
  let n := s.sageStep
  if page = 0x0C ∨ page = 0x0D ∨ page = 0x0E then some (BitVec.ofNat 32 ((m + 4294967296 - 2 * n) / n * n))
  else if frameTied page then some (s.frame - 1)
  else none

/-- The publication of a page is older than a frame; a page that has not published is older than every frame. -/
def State.behind (s : State) (page : Nat) (f : Word) : Bool :=
  !s.published.contains page || older (s.reg (addrOf page 7)) f

/-- The window of a selected record that is not yet written. -/
def State.stagedWindow (s : State) (l : Link) (page word : Nat) : Bool :=
  let k := (s.link l).sel
  (page == 0x14 && decide (0x80 ≤ word ∧ word ≤ 0xBF) && s.recordState k.rsm == 1) ||
    (page == 0x15 && decide (0x80 ≤ word ∧ word ≤ 0x8F) && s.ledgerState k.cyl == 1)

/-- STALE of a read, with the requested frame; 0 sets no minimum. -/
def State.staleOf (s : State) (l : Link) (page word : Nat) (requested : Word) : Bool :=
  s.tracked page word &&
    (((s.scheduled page).map fun f => s.behind page f).getD false || (requested != 0 && s.behind page requested) ||
      s.stagedWindow l page word)

/-- A word in the link's set; each bank of SGC counts as a page of its own (R231). -/
def State.seenKey (s : State) (l : Link) (page word : Nat) : Nat :=
  addrOf page word + if page = 0x0D then (s.link l).sel.bank * 65536 else 0

/-- REPEAT of a read. -/
def State.repeatOf (s : State) (l : Link) (page word : Nat) : Bool :=
  s.tracked page word && (s.link l).seen.contains (s.seenKey l page word)

/-- A tracked word has been returned on a link. -/
def State.markSeen (s : State) (l : Link) (page word : Nat) : State :=
  if s.tracked page word && !(s.link l).seen.contains (s.seenKey l page word) then
    s.onLink l fun k => { k with seen := s.seenKey l page word :: k.seen }
  else s

/-- The link's set of a page empties: a new record is selected (R311). -/
def State.forgetSeen (s : State) (l : Link) (page : Nat) : State :=
  s.onLink l fun k => { k with seen := k.seen.filter fun a => a / 256 % 256 != page }

end Sys2Proof.Machine
end

