-- ==== Sys2Proof/Machine/Write.lean ====
section
/-! DEFINITION. What a write to a word does: range checks and the clamp log, PCTL and the reset of a block, flags and masks, the
shadow, and the command words of every page (R72, R73, R77 to R80, R126). -/
namespace Sys2Proof.Machine

/-! ### Range checks (R78) -/

/-- The listed value nearest to `v`, the lower on a tie; the list is ascending. -/
def nearest (v : Nat) : List Nat → Nat
  | [] => v
  | x :: l => l.foldl (fun best y => if (y - v) + (v - y) < (best - v) + (v - best) then y else best) x

/-- The value applied for a value written to a field of some width, and the reason code; 0 = legal. -/
def Legal.check (width v : Nat) : Legal → Nat × Nat
  | .any => (v, 0)
  | .range lo hi step =>
    if v < lo then (lo, 1)
    else if hi < v then (hi, 2)
    else if 1 < step ∧ v % step ≠ 0 then (max lo (v / step * step), 4)
    else (v, 0)
  | .srange lo hi =>
    let x := signedOf width v
    if x < lo then (codeOf width lo, 1) else if hi < x then (codeOf width hi, 2) else (v, 0)
  | .enum values => if values.contains v then (v, 0) else (nearest v values, 3)
  | .bitsSet m => if v &&& m = m then (v, 0) else (v ||| m, 3)

/-- One clamp: lowest bit and width of the field, requested and applied value, reason code. -/
structure Clamp where
  low : Nat
  width : Nat
  requested : Nat
  applied : Nat
  reason : Nat
deriving DecidableEq, Repr

/-- Reserved bits written as 1 (R8). -/
def reservedClamp (hi lo : Nat) (v : Word) : List Clamp :=
  if bitsOf v hi lo = 0 then [] else [⟨lo, hi + 1 - lo, bitsOf v hi lo, 0, 5⟩]

/-- The clamp of one field of a write, if any. -/
def FieldRow.check (v : Word) : FieldRow → List Clamp
  | .rsv hi lo => reservedClamp hi lo v
  | .fld _ hi lo acc _ legal =>
    if acc = .ro ∨ acc = .rc then []
    else
      let x := bitsOf v hi lo
      let r := legal.check (hi + 1 - lo) x
      if r.2 = 0 then [] else [⟨lo, hi + 1 - lo, x, r.1, r.2⟩]

/-- What the field holds after the write; one the host cannot write keeps what it holds. -/
def FieldRow.apply (v : Word) (w : Word) : FieldRow → Word
  | .rsv hi lo => withBits w hi lo 0
  | .fld _ hi lo acc _ legal =>
    if acc = .ro ∨ acc = .rc then w else withBits w hi lo (legal.check (hi + 1 - lo) (bitsOf v hi lo)).1

/-- A write checked field by field: the word it leaves, and its clamps in ascending order of the lowest bit. -/
def checkWrite (rows : List FieldRow) (old v : Word) : Word × List Clamp :=
  (rows.foldl (fun w f => f.apply v w) old, (rows.reverse.map (FieldRow.check v)).flatten)

/-- The field table of a word; without M, SCH_CFG.USE takes only values with bits 1 and 2 set (R396). -/
def State.rowsOf (s : State) (page word : Nat) (row : RegRow) : List FieldRow :=
  if page = 0x19 ∧ word = 0x08 ∧ s.hasM = false then
    row.rows.map fun f => match f with
      | .fld name hi lo acc reset legal => .fld name hi lo acc reset (if lo = 0 then .bitsSet 6 else legal)
      | .rsv hi lo => .rsv hi lo
  else row.rows

/-! ### The clamp log (R75, R79) -/

/-- Enter one clamp: CLAMP of the page, the log, CFG_IFLAG.CLAMP. DESIGN CHOICE (log entry 75): the first entry ever is entry 0, and
each later one follows the newest. The log is saved as one journaled write (R21). -/
def State.logClamp (s : State) (page word : Nat) (c : Clamp) : State :=
  let a := addrOf page 6
  let old := s.reg a
  let n := bitsOf old 31 24
  let first := if n = 0 then BitVec.ofNat 32 (16777216 + word * 65536 + c.reason) else withBits old 31 24 (satAdd n 1 255)
  let s := s.setReg a first
  let e := if s.get F.CFG_CLPHEAD_TOTAL = 0 then 0 else (s.get F.CFG_CLPHEAD_NEWEST + 1) % 16
  let kept := (F.CFG_CLPHEAD_TOTAL.addr :: (List.range 3).map fun i => addrOf 0x02 (0x80 + 3 * e + i)).map fun a =>
    Kept.word a (s.reg a)
  let w := page * 16777216 + word * 65536 + c.low * 2048 + c.width * 32 + c.reason
  let s := s.put (addrOf 0x02 (0x80 + 3 * e)) (BitVec.ofNat 32 w)
  let s := s.put (addrOf 0x02 (0x81 + 3 * e)) (BitVec.ofNat 32 c.requested)
  let s := s.put (addrOf 0x02 (0x82 + 3 * e)) (BitVec.ofNat 32 c.applied)
  (((s.count F.CFG_CLPHEAD_TOTAL).set F.CFG_CLPHEAD_NEWEST e).flag F.CFG_IFLAG_CLAMP).journalWrite kept

/-- Enter the clamps of a write. -/
def State.logClamps (s : State) (page word : Nat) (l : List Clamp) : State :=
  l.foldl (fun (s : State) c => s.logClamp page word c) s

/-! ### PCTL (R72) -/

/-- EN and RST are writable on the page. -/
def blockControl (page : Nat) : Bool :=
  (decide (0x28 ≤ page) && decide (page ≤ 0x2F)) || (decide (0x40 ≤ page) && decide (page ≤ 0x46)) ||
    (decide (0x48 ≤ page) && decide (page ≤ 0x4E)) || (decide (0x50 ≤ page) && decide (page ≤ 0x52)) || page == 0x12

/-- The block is active in the sense of R72. -/
def State.blockActive (s : State) (page : Nat) : Bool :=
  if 0x28 ≤ page ∧ page ≤ 0x2F then !(s.die (page - 0x28)).bal.closed.isEmpty
  else if page = 0x40 ∨ page = 0x48 then s.anyMoving
  else if 0x41 ≤ page ∧ page ≤ 0x46 then !s.axStill (page - 0x41)
  else if 0x49 ≤ page ∧ page ≤ 0x4E then !s.axStill (page - 0x49)
  else if page = 0x50 then chanList.any s.chanOn
  else if page = 0x51 ∨ page = 0x52 then chanList.any fun n => n / 8 == page - 0x51 && s.chanOn n
  else if page = 0x12 then s.anyCdClosed
  else false

/-- The words of a page that show present conditions and stay at a block reset: GDR_STAT, MOT_STAT, LSW_ZSTAT and the zone
temperatures, and KRG_MIRSTAT. -/
def shownWord (a : Nat) : Bool :=
  a == addrOf 0x48 0x60 || a == addrOf 0x40 0x60 || (decide (addrOf 0x50 0x60 ≤ a) && decide (a ≤ addrOf 0x50 0x64)) ||
    a == addrOf 0x12 0x66

/-- Results and flags of a page go back to their reset values, but for saved values and present conditions. -/
def State.resetResults (s : State) (page : Nat) : State :=
  let gone := fun (a : Nat) => a / 256 == page && !keptWord a && !shownWord a &&
    (a % 256 == 3 || (decide (0x60 ≤ a % 256) && decide (a % 256 ≤ 0xDF)))
  let s := { s with regs := s.regs.filter fun w => !gone w.1 }
  s.applyIf (!frameTied page) fun s => s.publish page s.frame

/-- Internal state of a BL block: plan, locked cells, learning; the charge shown counts from 0. -/
def State.resetBalance (s : State) (k : Nat) : State :=
  let s := s.onBal k fun b => {
    bled := b.bled, charge := b.charge, base := b.charge, onTime := b.onTime, closedAt := b.closedAt, openedAt := b.openedAt }
  (s.setOn (F.BL_PSTAT_LOCKED.on k) false).setOn (F.BL_PSTAT_LEARNING.on k) false

/-- Internal state of an axis: no position reference, no fault; input levels and the learned envelope stay. -/
def State.resetAxis (s : State) (a : Nat) (before : State) : State :=
  let copy := fun (s : State) (f : Fld) => s.set (f.on a) (before.get (f.on a))
  let s := [F.AX_STAT_HOME, F.AX_STAT_LIM, F.AX_STAT_EDGE].foldl copy s
  let s := (s.onAxis a fun x => { env := x.env }).setHomed a false
  s.setAxState a (if s.gate.qualified.contains a = false ∨ s.gdState a = 0 then 6
    else if s.on F.SAF_STAT_SAFESTOP || s.get F.TMP_LATCH_LATCHED != 0 then 5 else 0)

/-- Internal state of a bridge: it is off, without a cause, and qualifies anew. -/
def State.resetBridge (s : State) (a : Nat) : State :=
  let s := (s.quietGate a).onGate fun g => { g with
    slow := g.slow.filter fun e => e.1 / 4 != a, fast := g.fast.filter fun e => e.1 / 4 != a
    qualified := g.qualified.filter (· != a), deferred := g.deferred.filter (· != a) }
  (s.onAxis a fun x => { x with drive := 0 }).setAxState a 6

/-- Channels of a load-switch page: off, with a full count of restarts; a latch stays, since it clears only by LSA_CLR or LSB_CLR
(R376). -/
def State.resetChannels (s : State) (i : Nat) : State :=
  let s := (List.range 8).foldl (fun (s : State) c =>
    s.onChan (8 * i + c) fun x => if x.state = 4 then x
      else { left := s.get (chanField F.LSA_CH_RETRY (8 * i + c)), offAt := s.now }) s
  s.set (F.LSA_OUT_ON.on i) 0

/-- The ring as at the entry into RUN; the mirror held and the own image stay, and the address sampled at start (R38). -/
def State.resetRing (s : State) (addr : Nat) (dup : Bool) : State :=
  let s := s.onRing fun r => {
    imageSeq := r.imageSeq, half0 := r.half0, half1 := r.half1, newest1 := r.newest1, voices := r.voices, runAt := s.now
    asked := true }
  let s := s.onProt fun p => { p with waitSince := none }
  ((s.set F.KRG_STAT_ADDR addr).setOn F.KRG_STAT_DUPADDR dup).showHeld

/-- Internal state of the G-die common to its bridges: missed set-points, and the times its link and chopper are judged by. -/
def State.resetGdie (s : State) : State := s.onGate fun g => { g with
  missed := [], lastFrame := s.now, chopSince := s.now, chopLong := false }

/-- A page's EN clears: a bridge is switched off, and a die neither balances nor learns. DESIGN CHOICE (log entry 76): the bridges show
the state off, and EN of an AX or MOT page leaves AX_STAT.STATE as it is (R72). -/
def State.disableBlock (s : State) (page : Nat) : State :=
  if 0x28 ≤ page ∧ page ≤ 0x2F then
    (s.learnAbort (page - 0x28)).1.onBal (page - 0x28) fun b => { b with plan := [], next := [] }
  else if 0x49 ≤ page ∧ page ≤ 0x4E then (s.bridgeOff (page - 0x49)).setAxState (page - 0x49) 6
  else if page = 0x48 then axisList.foldl (fun (s : State) a => (s.bridgeOff a).setAxState a 6) s
  else s

/-- PCTL.RST of a page: results, flags and internal state (R72). -/
def State.resetBlock (s : State) (page : Nat) : State :=
  let t := s.resetResults page
  if 0x28 ≤ page ∧ page ≤ 0x2F then t.resetBalance (page - 0x28)
  else if 0x41 ≤ page ∧ page ≤ 0x46 then t.resetAxis (page - 0x41) s
  else if 0x49 ≤ page ∧ page ≤ 0x4E then t.resetBridge (page - 0x49)
  else if page = 0x40 then { t with mot := { t.mot with lastEnd := none } }
  else if page = 0x48 then t.resetGdie
  else if page = 0x50 then t.onLs fun l => { l with overCount := 0 }
  else if page = 0x51 ∨ page = 0x52 then t.resetChannels (page - 0x51)
  else if page = 0x12 then t.resetRing s.ownAddr s.ringExcluded
  else t

/-! ### What a write answers -/

/-- The outcome of a write: the state after it, its refusal code if it is refused, and its clamps. -/
structure WriteEnd where
  state : State
  code : Option Nat
  clamps : List Clamp

/-- A write refused with nothing changed. -/
def State.refuse (s : State) (code : Nat) : WriteEnd := ⟨s, some code, []⟩

/-- A write that ended: its clamps are logged unless it was refused. -/
def endWrite (page word : Nat) (clamps : List Clamp) (r : State × Option Nat) : WriteEnd :=
  if r.2.isSome then ⟨r.1, r.2, []⟩ else ⟨r.1.logClamps page word clamps, none, clamps⟩

/-- A write to PCTL. -/
def State.writePctl (s : State) (page : Nat) (v : Word) : WriteEnd :=
  let en := bit v.toNat 0
  let rst := bit v.toNat 1
  if (!en || rst) && (!blockControl page || s.blockActive page) then s.refuse 0x09
  else
    let w := BitVec.ofNat 32 (bitsOf v 31 16 * 65536 + ofBool en)
    let t := s.setReg (addrOf page 2) w
    let t := t.applyIf (!en && s.enabled page) fun t => t.disableBlock page
    endWrite page 2 (reservedClamp 15 2 v) (t.applyIf rst fun t => t.resetBlock page, none)

/-- The rows of a page's IFLAG, which are also those of its IMASK (R73). -/
def flagRows (page : Nat) : List FieldRow :=
  match regRow page 3 with
  | some r => r.rows
  | none => [.rsv 31 0]

/-- A write to IFLAG: bits written as 1 clear. -/
def State.writeIflag (s : State) (page : Nat) (v : Word) : WriteEnd :=
  let r := checkWrite (flagRows page) 0 v
  endWrite page 3 r.2 (s.setReg (addrOf page 3) (s.reg (addrOf page 3) &&& ~~~r.1), none)

/-- A write to IMASK. -/
def State.writeImask (s : State) (page : Nat) (v : Word) : WriteEnd :=
  let r := checkWrite (flagRows page) 0 v
  endWrite page 4 r.2 (s.setReg (addrOf page 4) r.1, none)

/-- A write to a shadowed word: it is applied to the shadow in every case, and the page is pending (R78, R80). -/
def State.writeShadow (s : State) (row : RegRow) (page word : Nat) (v : Word) : WriteEnd :=
  let a := addrOf page word
  let r := checkWrite (s.rowsOf page word row) (s.shadowReg a) v
  endWrite page word r.2 ((s.setShadow a r.1).markPending page word, none)

/-! ### Command words -/

/-- Change a link's selections. -/
def State.onSel (s : State) (l : Link) (f : Selectors → Selectors) : State := s.onLink l fun k => { k with sel := f k.sel }

/-- A write to THY_EPOCH_HI: both halves apply at once, with an event that carries the old epoch and the new one (R126). -/
def State.writeEpochHi (s : State) (l : Link) (v : Word) : State :=
  let lo := addrOf 0x03 0xE0
  let hi := addrOf 0x03 0xE1
  let old := s.pairOf lo ++ s.pairOf hi
  let s := (s.setReg lo ((s.link l).epochLo.getD 0)).setReg hi v
  let s := s.onLink l fun k => { k with epochLo := none }
  s.send ⟨0x03, .listed 1, 0, islandOf 0x03, s.now, s.frame,
    [addrOf 0x03 3, addrOf 0x03 1].flatMap s.pairOf ++ old ++ s.pairOf lo ++ s.pairOf hi, false, none⟩

/-- A write to BL_LEARN. -/
def State.writeLearn (s : State) (k : Nat) (v : Word) : State × Option Nat :=
  if v = 1 then s.learnStart k else if v = 2 then s.learnAbort k else (s, some 0x0A)

/-- A write to a mailbox word: island 2 holds it, and word 7 submits the message (R327). -/
def State.writeMbox (s : State) (w : Nat) (v : Word) : State × Option Nat :=
  if w < 7 then (s.onBay fun b => { b with mbox := b.mbox.set w v }, none)
  else
    let m := s.bay.mbox.take 7 ++ [v]
    let image := s.bay.staging.getD []
    (s.submitMailbox m (Config.bayImageOk image m) (Config.bayImageVersion image), none)

/-- Command words of pages 0x02 to 0x0F; `v` is the value after the range check. -/
def State.commandLow (s : State) (l : Link) (page word : Nat) (v : Word) : State × Option Nat :=
  let keep := (s.setReg (addrOf page word) v, none)
  match page, word with
  | 0x02, 0x0E => s.writeDiscard v
  | 0x02, 0xE0 => s.writeFwctl l v
  | 0x02, 0xE2 => s.writeFwdata v
  | 0x02, 0xE3 => s.writeUnlock false l v
  | 0x02, 0xE4 => s.writeNewpw false l v
  | 0x02, 0xE5 => s.writeDefault l v
  | 0x03, 0xE0 => (s.onLink l fun k => { k with epochLo := some v }, none)
  | 0x03, 0xE1 => (s.writeEpochHi l v, none)
  | 0x05, 0xE0 => s.writeTmpCmd v
  | 0x06, 0xE0 => s.writeReset v
  | 0x06, 0xE1 => s.writeLayup v
  | 0x08, 0xE0 => s.writeZero v
  | 0x09, 0xE0 => s.writeCal v
  | 0x0A, 0xE0 => (s.onSel l fun k => { k with bay := v.toNat }, none)
  | 0x0A, w => s.writeMbox (w - 0xE8) v
  | 0x0C, 0xE0 => s.writeTblSel v
  | 0x0C, 0xE1 => (s.writeTblData v, none)
  | 0x0C, 0xE2 => s.writeTblCmd v
  | 0x0C, 0xE3 => s.writeSgeCmd v
  | 0x0D, 0xE0 => s.writeSgcBank l v
  | 0x0D, 0xE1 => s.writeSgcReset l v
  | 0x0E, 0xE0 => s.writeZsel l v
  | 0x0F, 0xE0 => s.writeAutSel l v
  | 0x0F, 0xE4 => (s.writeKeydata v, none)
  | 0x0F, 0xE5 => s.writeAutCmd l v
  | _, _ => keep

/-- Command words of pages 0x10 to 0x27. -/
def State.commandMid (s : State) (l : Link) (page word : Nat) (v : Word) : State × Option Nat :=
  match page, word with
  | 0x10, 0xE0 => s.writePrtCmd v
  | 0x10, 0xE1 => s.writeWeldclr v
  | 0x11, 0xE0 => s.writeFlclr v
  | 0x11, 0xE1 => s.writeOwreq v
  | 0x12, 0xE0 => s.writeKrgCmd l v
  | 0x14, 0xE0 => (s.writeSnap l v, none)
  | 0x14, 0xE1 => ((s.onSel l fun k => { k with rsm := v.toNat }).forgetSeen l 0x14, none)
  | 0x14, 0xE2 => s.writeClear l v
  | 0x14, 0xE3 => (s.onSel l fun k => { k with lost := v.toNat }, none)
  | 0x15, 0xE0 => ((s.onSel l fun k => { k with cyl := v.toNat }).forgetSeen l 0x15, none)
  | 0x15, 0xE1 => s.writeAck v
  | 0x18, 0xE0 => s.writeUnlock true l v
  | 0x18, 0xE1 => s.writeNewpw true l v
  | 0x18, 0xE2 => s.writeSafCmd (s.safUnlocked l) v
  | 0x18, 0xE3 => (s.onSel l fun k => { k with saf := v.toNat }, none)
  | _, _ => (s.setReg (addrOf page word) v, none)

/-- Command words of pages from 0x28 on. -/
def State.commandHigh (s : State) (page word : Nat) (v : Word) : State × Option Nat :=
  if page ≤ 0x2F ∧ word = 0xE0 then s.writeLearn (page - 0x28) v
  else if page ≤ 0x2F ∧ word = 0xE3 then s.writeSwclr (page - 0x28) v
  else if page = 0x40 then s.writeMotCmd v
  else if 0x41 ≤ page ∧ page ≤ 0x46 ∧ word = 0xE0 then s.writeAxCmd (page - 0x41) v
  else if 0x49 ≤ page ∧ page ≤ 0x4E ∧ word = 0xE0 then s.writeGdCmd (page - 0x49) v
  else if 0x49 ≤ page ∧ page ≤ 0x4E ∧ word = 0xE2 then s.writeGpulse (page - 0x49) v
  else if (page = 0x51 ∨ page = 0x52) ∧ word = 0xE0 then s.writeLsOut (page - 0x51) v
  else if (page = 0x51 ∨ page = 0x52) ∧ word = 0xE1 then s.writeLsClr (page - 0x51) v
  else (s.setReg (addrOf page word) v, none)

/-- A command word. -/
def State.command (s : State) (l : Link) (page word : Nat) (v : Word) : State × Option Nat :=
  if page ≤ 0x0F then s.commandLow l page word v
  else if page ≤ 0x27 then s.commandMid l page word v
  else s.commandHigh page word v

/-! ### A write to a fitted page -/

/-- A write to a word of a fitted page (R72, R73, R77, R78, R398). CFG_COMMIT takes all 32 bits as they are (R82). -/
def State.writeFitted (s : State) (l : Link) (page word : Nat) (v : Word) : WriteEnd :=
  if word = 2 then s.writePctl page v
  else if word = 3 then s.writeIflag page v
  else if word = 4 then s.writeImask page v
  else if word < 8 then s.refuse 0x02
  else if page = 0x02 ∧ word = 0x08 then endWrite page word [] (s.requestCommit l v)
  else match regRow page word with
    | none => s.refuse 0x02
    | some row =>
      if row.hasAccess .rws then
        if safetyPage page && !s.safUnlocked l then s.refuse 0x03 else s.writeShadow row page word v
      else if row.hasAccess .wo || row.hasAccess .rw then
        let r := checkWrite row.rows 0 v
        endWrite page word r.2 (s.command l page word r.1)
      else s.refuse 0x02

end Sys2Proof.Machine
end

