-- ==== Sys2Proof/Machine/Host.lean ====
section
/-! DEFINITION. The host links: requests and replies, what is served when, the wait for the cores, SPI frames, CAN frames,
attention messages (R60, R90, R92 to R113). -/
namespace Sys2Proof.Machine
open Host

/-! ### Requests and replies as bits (R92 to R94) -/

/-- A reply or request with its CRC. -/
def withCrc (head : Nat) : BitVec 64 := BitVec.ofNat 64 (head * 256 + crc8 (bytesBE 7 head))

/-- A request of 64 bits. -/
def requestBits (op rsv page word : Nat) (data : Word) : BitVec 64 :=
  withCrc (op % 16 * 2 ^ 52 + page % 256 * 2 ^ 44 + word % 256 * 2 ^ 36 + rsv % 16 * 2 ^ 32 + data.toNat)

/-- A field of a request: bits `hi` to `lo`. -/
def fieldOf (r : BitVec 64) (hi lo : Nat) : Nat := r.toNat / 2 ^ lo % 2 ^ (hi + 1 - lo)

/-- The request passes its CRC. -/
def crcOk (r : BitVec 64) : Bool := crc8 (bytesBE 7 (r.toNat / 256)) == fieldOf r 7 0

/-- A reply of 64 bits with its TOGGLE. -/
def Reply.bits (r : Reply) (toggle : Bool) : BitVec 64 :=
  withCrc ((r.status / 2 * 2 + ofBool toggle) * 2 ^ 48 + r.page % 256 * 2 ^ 40 + r.word % 256 * 2 ^ 32 + r.data.toNat)

/-! ### The status byte (R101) -/

/-- Bits 7 and 1 of the status byte, with the given others. -/
def State.statusByte (s : State) (others : Nat) : Nat :=
  ofBool s.attention * 128 + ofBool (s.get F.FLT_MODE_MODE != 0 || s.frozen) * 2 + others

/-- A reply formed now. -/
def State.reply (s : State) (others page word : Nat) (data : Word) : Reply := ⟨s.statusByte others, page, word, data⟩

/-- A refusal with its code (R96). -/
def State.refusal (s : State) (page word code : Nat) : Reply := s.reply 8 page word (BitVec.ofNat 32 code)

/-! ### What is served (R60, R90, R109, R294) -/

/-- The links are served at all: from 2 ms of start-up on (R59). -/
def State.linksUp (s : State) : Bool :=
  s.pwr.phase != .off && s.pwr.phase != .laidUp && !(s.pwr.phase == .startup && s.get F.PWR_BOOT_STEP == 0)

/-- The page is served before RUN: SYS, CFG and PWR, or SYS, PWR and FLT where the cores failed at start-up. -/
def State.servedPage (s : State) (page : Nat) : Bool :=
  !s.beforeRun || page == 0x00 || page == 0x06 || page == (if s.pwr.phase == .halt && s.coresHeld then 0x04 else 0x02)

/-- In HALT with no bank, what the boot ROM does not execute: commits, a new password, defaults (R90). -/
def State.romRefuses (s : State) (page word : Nat) : Bool :=
  s.pwr.phase == .halt && page == 0x02 && (word == 0x08 || word == 0xE4 || word == 0xE5)

/-- Why a write is refused before it is looked at: cores held, before RUN, page absent. -/
def State.writeGate (s : State) (page word : Nat) (v : Word) : Option Nat :=
  if s.coresHeld && !(page == 0x06 && word == 0xE0 && v == 0xC0DE) then some 0x0B
  else if !s.servedPage page || s.romRefuses page word then some 0x07
  else if !s.fitted page then some 0x01
  else none

/-! ### Operations (R95 to R97) -/

/-- Status bits STALE, REPEAT, CLAMPED. -/
def staleBit (b : Bool) : Nat := ofBool b * 64
def repeatBit (b : Bool) : Nat := ofBool b * 32
def clampBit (b : Bool) : Nat := ofBool b * 16

/-- READ. -/
def State.serveRead (s : State) (l : Link) (page word : Nat) (requested : Word) : State × Reply :=
  if !s.servedPage page then (s, s.refusal page word 0x07)
  else
    let bits := staleBit (s.staleOf l page word requested) + repeatBit (s.repeatOf l page word)
    let r := s.takeWord l page word
    let t := r.1.markSeen l page word
    (t, t.reply bits page word r.2)

/-- What a WRITE returns in DATA: nothing of a WO word, the shadow of an RWS word, else the word (R95). -/
def State.heldAfter (s : State) (l : Link) (page word : Nat) : Word :=
  if wordHas page word .rws then s.shadowReg (addrOf page word) else s.readWord l page word

/-- A write runs to its end; attention reported on a CAN port is forgotten once it has ended. -/
def State.runWrite (s : State) (l : Link) (page word : Nat) (v : Word) : WriteEnd :=
  let r := match s.writeGate page word v with
    | some c => s.refuse c
    | none => s.writeFitted l page word v
  { r with state := r.state.applyIf (!r.state.attention) fun t => { t with
      links := t.links.mapAll fun k => { k with attnTold := false } } }

/-- The reply to a write that has ended, formed in a state. -/
def replyToWrite (t : State) (l : Link) (page word : Nat) (r : WriteEnd) : Reply :=
  match r.code with
  | some c => t.refusal page word c
  | none => t.reply (clampBit (r.clamps != [])) page word (r.state.heldAfter l page word)

/-- Snapshot one word of a burst, with REPEAT as before the burst. -/
def State.snapWord (before : State) (l : Link) (page : Nat) (acc : State × List BurstWord) (word : Nat) : State × List BurstWord :=
  let r := acc.1.takeWord l page word
  (r.1, acc.2 ++ [⟨addrOf page word, r.2, before.repeatOf l page word⟩])

/-- BURST_READ: the words are copied at once; STALE, REPEAT and DATA are those of the moment, whatever the reads clear, and then all
words of the burst have been returned (R106). -/
def State.serveBurst (s : State) (l : Link) (page word : Nat) (v : Word) : State × Reply :=
  if !s.servedPage page then (s, s.refusal page word 0x07)
  else
    let n := min (bitsOf v 7 0 + 1) (256 - word)
    let words := (List.range n).map (word + ·)
    let stale := words.any fun w => s.staleOf l page w 0
    let r := words.foldl (s.snapWord l page) (s, [])
    let t := words.foldl (fun (t : State) w => t.markSeen l page w) r.1
    let t := t.onLink l fun k => { k with burst := r.2, burstStale := stale }
    (t, t.reply (staleBit stale) page word (s.readWord l page 7))

/-- NOP: the next word of the open burst, or 0. -/
def State.serveNop (s : State) (l : Link) (page word : Nat) : State × Reply :=
  let k := s.link l
  if s.beforeRun then (s, s.refusal page word 0x07)
  else match k.burst with
    | [] => (s, s.reply 0 page word 0)
    | b :: rest =>
      let tracked := s.tracked (b.addr / 256) (b.addr % 256)
      let t := s.onLink l fun k => { k with burst := rest }
      (t, t.reply (staleBit (k.burstStale && tracked) + repeatBit b.rep) (b.addr / 256) (b.addr % 256) b.data)

/-- The summary word (R97). -/
def State.summary (s : State) : Word :=
  BitVec.ofNat 32 (s.frame.toNat % 65536 * 65536 + s.get F.PWR_BOOT_STEP * 4096 + s.get F.FLT_MODE_MODE * 1024 +
    ofBool s.commitOpen * 512 + s.attnPages.headD 0xFF)

/-- STATUS. -/
def State.serveStatus (s : State) (page word : Nat) : Reply :=
  if s.beforeRun then s.refusal page word 0x07 else s.reply 0 page word s.summary

/-- COMMIT: as a write to CFG_COMMIT, with CFG_CMTSEQ in the reply. DESIGN CHOICE (log entry 106): before RUN with both cores held,
where R60 and R97 refuse with 0x07 and R109 refuses or serves, COMMIT, NOP and STATUS are refused with 0x07, and a WRITE with 0x0B. -/
def State.serveCommit (s : State) (l : Link) (page word : Nat) (v : Word) : State × Reply :=
  if s.beforeRun then (s, s.refusal page word 0x07)
  else if s.coresHeld then (s, s.refusal page word 0x0B)
  else
    let r := s.requestCommit l v
    match r.2 with
    | some c => (r.1, r.1.refusal page word c)
    | none => (r.1, r.1.reply 0 page word (r.1.reg F.CFG_CMTSEQ_SEQ.addr))

/-! ### The wait for the cores (R109) -/

/-- During a freeze the request waits: COMMIT, and writes to CFG_COMMIT and to words 0xE0 to 0xFF. -/
def State.mustWait (s : State) (op page word : Nat) : Bool :=
  s.frozen && (op == 4 || (op == 2 && (decide (0xE0 ≤ word) || (page == 0x02 && word == 0x08))))

/-- CFG_WQ: entries queued, and the highest fill. -/
def State.showQueue (s : State) : State :=
  let n := s.flt.writeQueue.length
  (s.set F.HST_WQ_LEVEL n).set F.HST_WQ_PEAK (max n (s.get F.HST_WQ_PEAK))

/-- A write during a freeze is checked by island 2, answered, and queued for the cores. DESIGN CHOICE (log entry 107): DATA of the
reply is formed from the state as it stands, without the entries still in the queue. -/
def State.queueWrite (s : State) (l : Link) (page word : Nat) (v : Word) : State × Reply :=
  let r := s.runWrite l page word v
  match r.code with
  | some c => (s, s.refusal page word c)
  | none =>
    if 32 ≤ s.flt.writeQueue.length then
      let t := s.flag F.HST_IFLAG_WQ_FULL
      (t, t.refusal page word 0x08)
    else
      let q : QueuedWrite := ⟨linkNo l, page, word, v⟩
      let t := ({ s with flt := { s.flt with writeQueue := s.flt.writeQueue ++ [q] } }).showQueue
      (t, replyToWrite t l page word r)

/-- WRITE. -/
def State.serveWrite (s : State) (l : Link) (page word : Nat) (v : Word) : State × Reply :=
  if s.frozen then s.queueWrite l page word v
  else
    let r := s.runWrite l page word v
    (r.state, replyToWrite r.state l page word r)

/-- One request of a link: any but a NOP ends the link's burst (R106). `none` while it waits for the cores. -/
def State.perform (s : State) (l : Link) (op rsv page word : Nat) (data : Word) : State × Option Reply :=
  let s := s.refreshShown.applyIf (op != 0) fun s => s.onLink l fun k => { k with burst := [] }
  if 5 < op ∨ rsv ≠ 0 then (s, some (s.refusal page word 0x06))
  else if s.mustWait op page word then (s, none)
  else
    let r := match op with
      | 0 => s.serveNop l page word
      | 1 => s.serveRead l page word data
      | 2 => s.serveWrite l page word data
      | 3 => s.serveBurst l page word data
      | 4 => s.serveCommit l page word data
      | _ => (s, s.serveStatus page word)
    (r.1, some r.2)

/-- The lease slot of a link's reply buffer (R295). -/
def replySlot (l : Link) : Nat := linkNo l + 1

/-- A request given as 64 bits; one that fails its CRC is not executed (R100, R111). While another party has the link's reply buffer
the request waits for it (R295). -/
def State.performBits (s : State) (l : Link) (r : BitVec 64) : State × Option Reply :=
  let page := fieldOf r 59 52
  let word := fieldOf r 51 44
  if !s.slotOpen (replySlot l) partyIsland2 then (s.acquireLease (replySlot l) partyIsland2, none)
  else if crcOk r then s.perform l (fieldOf r 63 60) (fieldOf r 43 40) page word (BitVec.ofNat 32 (fieldOf r 39 8))
  else (s, some (s.reply 4 page word 0))

/-- Island 2 gives a link's reply buffer back where it had waited for it and got it (R295); `held` says so. -/
def State.endReply (s : State) (l : Link) (held : Bool) : State :=
  s.applyIf (held && s.holdsSlot (replySlot l) partyIsland2) fun s => s.releaseLease (replySlot l)

/-! ### SPI (R98 to R100) -/

/-- A reply leaves on a link: TOGGLE inverts. -/
def State.shiftOut (s : State) (l : Link) (r : Reply) : State :=
  s.onLink l fun k => { k with toggle := !k.toggle, sent := r.bits (!k.toggle) }

/-- A frame begins while the reply to frame k is not formed: it is discarded, and code 0x05 echoes frame k (R99). -/
def State.notReady (s : State) : State :=
  let k := s.links.spi.echo
  ((s.shiftOut .spi (s.refusal k.1 k.2 0x05)).count F.HST_SPIERR_NOTREADY).flag F.HST_IFLAG_SPI_NOTREADY

/-- A frame that failed its CRC or length (R100). -/
def State.countFrameErr (s : State) : State := (s.count F.HST_SPIERR_FRAMEERR).flag F.HST_IFLAG_SPI_ERR

/-- The reply for the next frame is formed. -/
def State.formSpi (s : State) (r : Reply) : State := s.onLink .spi fun k => { k with reply := r, waiting := none }

/-- A frame with PAGE and WORD as received arrives: the reply of an earlier request shifts out, unless it is not formed; whether the
frame is taken. -/
def State.beginSpi (s : State) (page word : Nat) : State × Bool :=
  if s.links.spi.waiting.isSome then (s.notReady, false)
  else ((s.shiftOut .spi s.links.spi.reply).onLink .spi fun k => { k with echo := (page, word), formed := none }, true)

/-- A request of a link has completed and waits for the cores (R108). -/
def State.queueWait (s : State) (l : Link) : State :=
  { s with flt := { s.flt with waitOrder := s.flt.waitOrder ++ [linkNo l] } }

/-- The request of an SPI frame is executed, or waits. -/
def State.runSpi (s : State) (r : BitVec 64) : State :=
  let held := s.holdsSlot (replySlot .spi) partyIsland2
  let x := s.performBits .spi r
  match x.2 with
  | some y => ((x.1.formSpi y).onLink .spi fun k => { k with formed := some r }).endReply .spi held
  | none => ((x.1.onLink .spi fun k => { k with waiting := some r }).queueWait .spi).endReply .spi held

/-- An SPI frame carries a request. -/
def State.spiFrame (s : State) (r : BitVec 64) : State :=
  let b := s.beginSpi (fieldOf r 59 52) (fieldOf r 51 44)
  if b.2 then b.1.runSpi r else b.1

/-! ### CAN (R110 to R112) -/

/-- The port of a CAN link. -/
def portOf (l : Link) : Nat := linkNo l - 1

/-- The bytes of 64 bits, highest first. -/
def bytesOf64 (r : BitVec 64) : List Byte := (bytesBE 8 r.toNat).map (BitVec.ofNat 8)

/-- The identifier of a port's requests; replies carry the next one. -/
def State.reqId (s : State) (port : Nat) : Nat := s.get (F.HST_CAN0ID_REQID.at port)

/-- The reply frame of a request frame, which has its format. -/
def State.sendReply (s : State) (l : Link) (f : CanPend) : State :=
  s.sendCan (portOf l) (s.reqId (portOf l) + 1) f.fd (f.done.flatMap fun r => bytesBE 8 r.toNat)

/-- Run the records of a port's oldest frame in order until they are done or one waits; `n` bounds their number. The replies of a
frame whose records are done go to the controller as one frame. -/
def State.serveCan (l : Link) : Nat → State → State
  | 0, s => s
  | n + 1, s => match (s.link l).frames with
    | [] => s
    | f :: rest => match f.todo with
      | [] => (s.onLink l fun k => { k with frames := rest }).sendReply l f
      | r :: more =>
        let x := s.performBits l r
        match x.2 with
        | none => x.1
        | some y =>
          let t := (x.1.shiftOut l y).onLink l fun k => { k with reply := y }
          State.serveCan l n (t.onLink l fun k => { k with
            frames := { f with todo := more, done := f.done ++ [(t.link l).sent] } :: rest })

/-- The oldest frame of a port runs: at most eight records. -/
def State.runCan (s : State) (l : Link) : State :=
  (State.serveCan l 9 s).endReply l (s.holdsSlot (replySlot l) partyIsland2)

/-- A request frame is discarded with its port's DROP flag. -/
def State.dropFrame (s : State) (port : Nat) : State :=
  s.flag (if port = 0 then F.HST_IFLAG_CAN0_DROP else F.HST_IFLAG_CAN1_DROP)

/-- The records of a frame's bytes; `n` bounds their number. -/
def recordsOf : Nat → List Byte → List (BitVec 64)
  | 0, _ => []
  | n + 1, bytes =>
    if bytes = [] then []
    else BitVec.ofNat 64 (ofBytesBE ((bytes.take 8).map (·.toNat))) :: recordsOf n (bytes.drop 8)

/-- A CAN frame arrives at a port (R111, R112). -/
def State.canFrame (s : State) (port : Nat) (f : CanFrame) : State :=
  let l := canLink port
  let n := f.bytes.length
  if !s.canUp port || f.id != s.reqId port || f.ide != s.on (F.HST_CAN0CFG_IDE.at port) ||
      decide ((if f.fd then 64 else 8) < n) then s
  else if n = 0 ∨ n % 8 ≠ 0 ∨ 4 ≤ (s.link l).frames.length then s.dropFrame port
  else
    let waits := !(s.link l).frames.isEmpty
    let rs := recordsOf 8 f.bytes
    let t := s.onLink l fun k => { k with fd := f.fd, frames := k.frames ++ [⟨f.fd, rs, rs, []⟩] }
    let t := if waits then t else t.runCan l
    if (t.link l).frames.isEmpty then t else t.queueWait l

/-! ### A request on a link -/

/-- A request of 64 bits on a link: an SPI frame, or a CAN frame with one record in the port's present format. -/
def State.submitBits (s : State) (l : Link) (r : BitVec 64) : State :=
  if s.linksUp then
    match l with
    | .spi => s.spiFrame r
    | _ => s.canFrame (portOf l)
      ⟨s.reqId (portOf l), s.on (F.HST_CAN0CFG_IDE.at (portOf l)), (s.link l).fd, bytesOf64 r⟩
  else s

/-- A request on a link. -/
def State.submit (s : State) (l : Link) (op page word : Nat) (data : Word) : State :=
  s.submitBits l (requestBits op 0 page word data)

/-- A WRITE on a link to a register. -/
def State.hostWrite (s : State) (l : Link) (page word : Nat) (v : Word) : State := s.submit l 2 page word v

/-- NOP. -/
def execNop (l : Link) (r : Req) (s : State) : Outcome State Fault Refusal := .next (s.submit l 0 r.page.toNat r.word.toNat r.data)

/-- READ. -/
def execRead (l : Link) (r : Req) (s : State) : Outcome State Fault Refusal := .next (s.submit l 1 r.page.toNat r.word.toNat r.data)

/-- WRITE. -/
def execWrite (l : Link) (r : Req) (s : State) : Outcome State Fault Refusal := .next (s.submit l 2 r.page.toNat r.word.toNat r.data)

/-- BURST_READ. -/
def execBurstRead (l : Link) (r : Req) (s : State) : Outcome State Fault Refusal :=
  .next (s.submit l 3 r.page.toNat r.word.toNat r.data)

/-- COMMIT. -/
def execCommit (l : Link) (r : Req) (s : State) : Outcome State Fault Refusal := .next (s.submit l 4 r.page.toNat r.word.toNat r.data)

/-- STATUS. -/
def execStatus (l : Link) (r : Req) (s : State) : Outcome State Fault Refusal := .next (s.submit l 5 r.page.toNat r.word.toNat r.data)

/-- UNKNOWN_OP: an OP from 6 on, or reserved bits not 0; whatever it is given, the row is such a request (R96). -/
def execUnknownOp (l : Link) (op rsv : BitVec 4) (r : Req) (s : State) : Outcome State Fault Refusal :=
  let op := if rsv = 0 ∧ op.toNat < 6 then 6 else op.toNat
  .next (s.submitBits l (requestBits op rsv.toNat r.page.toNat r.word.toNat r.data))

/-- A request to a word that fails its CRC. -/
def badCrc (page word : Nat) : BitVec 64 := requestBits 0 0 page word 0 ^^^ 1

/-- CRC_ERROR_FRAME: an SPI frame that fails its CRC or length, with the PAGE and WORD received (R100). It leaves a burst open. One
that comes while the reply before it is not formed is counted too. -/
def execCrcErrorFrame (page word : Byte) (s : State) : Outcome State Fault Refusal :=
  if s.linksUp then
    let b := s.beginSpi page.toNat word.toNat
    let t := b.1.countFrameErr
    .next (if b.2 then t.runSpi (badCrc page.toNat word.toNat) else t)
  else .next s

/-- SPI_NOT_READY: a frame begins before the reply to the frame before it is formed; that reply leaves one frame later. DESIGN
CHOICE (log entry 73): the request discarded ends no burst, whatever it is. -/
def execSpiNotReady (s : State) : Outcome State Fault Refusal := .next (if s.linksUp then s.notReady else s)

/-- CAN_REQUEST_FRAME: a frame on a port's bus; a system frame of the ring's head is heard too (R272). -/
def execCanRequestFrame (port : Bool) (f : CanFrame) (s : State) : Outcome State Fault Refusal :=
  .next (if s.linksUp then (s.hearSystem (ofBool port) f).canFrame (ofBool port) f else s)

/-! ### CAN fault confinement (R110) -/

/-- The error counters of a port as HST_CANxST shows them. -/
def State.canCounts (s : State) (port tec rec : Nat) : State :=
  (s.set (F.HST_CAN0ST_TEC.at port) (min tec 255)).set (F.HST_CAN0ST_REC.at port) (min rec 255)

/-- CAN_ERROR_PASSIVE: an enabled port enters error-passive with its counters, and an event of class 1 from that link records it, as the
example of the recorder chapter has it (R300, log entry 110). -/
def execCanErrorPassive (port : Bool) (tec recv : Nat) (s : State) : Outcome State Fault Refusal :=
  let p := ofBool port
  if s.linksUp && s.canUp p then
    let f := if port then F.HST_IFLAG_CAN1_PASSIVE else F.HST_IFLAG_CAN0_PASSIVE
    .next ((((s.canCounts p tec recv).set (F.HST_CAN0ST_STATE.at p) 1).flag f).raise 0x01 (.flag f.lo) 1 (0x21 + p)
      [(F.HST_CAN0ST_STATE.at p).addr])
  else .next s

/-- CAN_ERROR_ACTIVE: the counters of an error-passive port have fallen below the passive limit. -/
def execCanErrorActive (port : Bool) (tec recv : Nat) (s : State) : Outcome State Fault Refusal :=
  let p := ofBool port
  if s.linksUp && s.get (F.HST_CAN0ST_STATE.at p) == 1 then .next ((s.canCounts p tec recv).set (F.HST_CAN0ST_STATE.at p) 0)
  else .next s

/-- CAN_BUS_OFF: an enabled port enters bus-off; its counter has passed 255, where the register saturates. -/
def execCanBusOff (port : Bool) (s : State) : Outcome State Fault Refusal :=
  let p := ofBool port
  if s.linksUp && s.canUp p then
    .next ((((s.set (F.HST_CAN0ST_TEC.at p) 255).set (F.HST_CAN0ST_STATE.at p) 2).count (F.HST_CAN0ST_BUSOFFS.at p)).flag
      (if port then F.HST_IFLAG_CAN1_BUSOFF else F.HST_IFLAG_CAN0_BUSOFF))
  else .next s

/-- CAN_BUSOFF_RECOVERY: after 128 × 11 recessive bits the port is error-active with counters 0. -/
def execCanBusoffRecovery (port : Bool) (s : State) : Outcome State Fault Refusal :=
  let p := ofBool port
  if s.linksUp && s.get (F.HST_CAN0ST_STATE.at p) == 2 then .next (((s.canCounts p 0 0).set (F.HST_CAN0ST_STATE.at p) 0).settleAttn p false)
  else .next s

/-! ### Attention messages (R113) -/

/-- Send one unsolicited STATUS reply; the next may follow 10 ms later. -/
def State.sendAttention (s : State) (port : Nat) : State :=
  let l := canLink port
  let t := s.shiftOut l (s.serveStatus 0 0)
  (t.onLink l fun k => { k with attnTold := true, attnWindow := some (s.now + 10000) }).sendCan port (s.reqId port + 1)
    (s.link l).fd (bytesBE 8 (t.link l).sent.toNat)

/-- ATTN_MESSAGE: ATTN has set and was not reported; outside the window the frame goes out at once. -/
def execAttnMessage (port : Bool) (s : State) : Outcome State Fault Refusal :=
  let p := ofBool port
  let k := s.link (canLink p)
  if s.linksUp && s.attnMessages p && s.attention && !k.attnTold && k.attnWindow.isNone then .next (s.sendAttention p) else .next s

/-- ATTN_MSG_WINDOW_END: the window closes; an ATTN that has set again within it is reported now. -/
def execAttnMsgWindowEnd (port : Bool) (s : State) : Outcome State Fault Refusal :=
  let p := ofBool port
  let l := canLink p
  match (s.link l).attnWindow with
  | none => .next s
  | some t =>
    let s := (s.advanceTo t).onLink l fun k => { k with attnWindow := none }
    if s.linksUp && s.attnMessages p && s.attention && !(s.link l).attnTold then .next (s.sendAttention p) else .next s

end Sys2Proof.Machine
end

