-- ==== Sys2Proof/Machine/Redundancy.lean ====
section
/-! DEFINITION. Redundant execution: mismatch, freeze, arbitration, resumption, degraded mode, self-test slices, the watchdog, the
recovery of the MRAM port (R285 to R299, R423). -/
namespace Sys2Proof.Machine
open Host

/-- Change what the redundancy chapter keeps. -/
def State.onFlt (s : State) (f : RedundancySt → RedundancySt) : State := { s with flt := f s.flt }

/-- FLT_LAST: frame, row of R287, parity and self-test bits, length of the freeze in 0.1 µs. -/
def State.writeLast (s : State) (frame out parity tests freeze : Nat) : State :=
  s.put F.FLT_LAST_FRAME.addr
    (BitVec.ofNat 32 (frame % 65536 * 65536 + out % 16 * 4096 + parity % 4 * 1024 + tests % 4 * 256 + min freeze 255))

/-- The cores run in degraded mode. -/
def State.degraded (s : State) : Bool := s.get F.FLT_MODE_MODE == 1 || s.get F.FLT_MODE_MODE == 2

/-- The SPI request that waited is executed. -/
def State.answerSpi (s : State) : State :=
  match s.links.spi.waiting with
  | some r => s.runSpi r
  | none => s

/-- The oldest frame of a port runs; one that still waits keeps its place. -/
def State.answerCan (s : State) (l : Link) : State :=
  let t := s.runCan l
  if (t.link l).frames.length < (s.link l).frames.length ∨ (t.link l).frames.isEmpty = true then t else t.queueWait l

/-- Requests that waited for the cores, or for the reply buffer of their link, are answered in the order in which they completed
(R108, R109, R295). -/
def State.answerWaiting (s : State) : State :=
  let order := s.flt.waitOrder
  order.foldl (fun (s : State) l => if l = 0 then s.answerSpi else s.answerCan (linkOf l))
    (s.onFlt fun f => { f with waitOrder := [] })

/-- Journaled writes that device firmware had not begun when its party lost the port, or whose record was discarded, fall to the
party that now runs it (R87, R296, R298). -/
def State.takeJournal (s : State) : State :=
  let due := fun (e : JournalEntry) => decide (e.party ≤ 3) && s.flt.recovering != some e.party
  if s.journal.any due then
    ({ s with journal := s.journal.map fun e => if due e then { e with party := s.coreParty } else e }).acquireLease 0 s.coreParty
  else s

/-- Both cores are held in reset, as under row 1 of R287: fault line as source 7, a class 3 event, queued writes discarded, waiting
requests refused, an open commit ended (R87, R109). -/
def State.bothFailed (s : State) : State :=
  let s := (((s.set F.FLT_MODE_MODE 3).setOn F.FLT_PSTAT_DEGRADED true).setOn F.FLT_PSTAT_FREEZE false).raiseSource 7
  let s := s.listed 0x04 0 3 [F.FLT_MODE_MODE.addr, F.FLT_LAST_FRAME.addr]
  let s := [1, 2, 3].foldl State.dropParty s
  let s := (s.onFlt fun f => { f with freezeAt := none, sliceAt := none, survivor := none, writeQueue := [] }).showQueue
  ((s.abortCommit.showRoles).answerWaiting).takeJournal

/-! ### Freeze and arbitration (R286, R287) -/

/-- LOCKSTEP_MISMATCH: both cores stop, with the parity errors of cores A and B; the pair's leases freeze and an open commit ends.
Island 1, whose page it is, saves the count. The comparator works in dual mode from start-up on; there is no comparison in single
mode or during a freeze (R285). -/
def execLockstepMismatch (parA parB : Bool) (s : State) : Outcome State Fault Refusal :=
  if s.cdieRuns && s.get F.FLT_MODE_MODE == 0 && !s.frozen then
    let kept := s.reg F.FLT_COUNT_MISMATCH.addr
    let s := ((s.setOn F.FLT_PSTAT_FREEZE true).count F.FLT_COUNT_MISMATCH).abortCommit
    let s := (s.freezeLeases partyPair).onFlt fun f => { f with
      freezeAt := some s.now, survivor := none, parity := ofBool parA + 2 * ofBool parB, freezeFrame := s.frame.toNat % 65536 }
    .next (s.journalBy partyIsland1 [.word F.FLT_COUNT_MISMATCH.addr kept])
  else .next s

/-- The row of R287 from the self-tests and the parity bits. -/
def arbitrate (stA stB : Bool) (parity : Nat) : Nat :=
  if !stA && !stB then 1
  else if !stB then 2
  else if !stA then 3
  else if parity = 2 then 4
  else if parity = 1 then 5
  else 6

/-- FLT_MODE under a row of R287. -/
def modeOfRow (row : Nat) : Nat := if row = 1 then 3 else if row = 3 ∨ row = 5 then 2 else 1

/-- ARBITRATION: 15 µs after detection FLT_LAST is written and the pair's leases are revoked; without a survivor both cores are
held. -/
def execArbitration (stA stB : Bool) (s : State) : Outcome State Fault Refusal :=
  match s.flt.freezeAt with
  | none => .next s
  | some t =>
    if s.flt.survivor.isSome then .next s
    else
      let s := s.advanceTo (t + 15)
      let row := arbitrate stA stB s.flt.parity
      let s := s.writeLast s.flt.freezeFrame row s.flt.parity (ofBool stA + 2 * ofBool stB) (if row = 1 then 150 else 0)
      if row = 1 then .next s.bothFailed
      else .next ((s.dropParty partyPair).onFlt fun f => { f with survivor := some (modeOfRow row) }).answerWaiting

/-- Apply the write queue in order (R109). -/
def State.applyQueue (s : State) : State :=
  let q := s.flt.writeQueue
  let s := s.onFlt fun f => { f with writeQueue := [] }
  (q.foldl (fun (s : State) w => (s.runWrite (linkOf w.link) w.page w.word w.data).state) s).showQueue

/-- The mismatch record (R286), with the number of records dropped from staging with a revoked lease, behind the address of the slot
of the staging buffer (R298; log entry 111). -/
def State.mismatchRecord (s : State) : State :=
  let s := s.flag F.FLT_IFLAG_MISMATCH
  let n := s.flt.partialDrops
  let more := if n = 0 then [] else [BitVec.ofNat 32 (F.FLT_LEASE_HOLDER.at 7).addr, BitVec.ofNat 32 n]
  let words := [addrOf 0x04 3, addrOf 0x04 1, F.FLT_MODE_MODE.addr, F.FLT_LAST_FRAME.addr].flatMap s.pairOf
  (s.send ⟨0x04, .flag F.FLT_IFLAG_MISMATCH.lo, 2, sourceOf 0x04, s.now, s.frame, words ++ more, false, none⟩).onFlt fun f => { f with
    partialDrops := 0 }

/-- The cores go on after a pause: the write queue is applied before they act on a waiting request, and the tasks of a PWR_FAIL that
came in the pause begin (R109, R299). -/
def State.afterPause (s : State) : State :=
  ((s.applyQueue.showRoles).answerWaiting).applyIf (s.pwr.phase == .holdup) State.holdupTasks

/-- CORE_RESUME: the survivor resumes `len` × 0.1 µs after detection, at most 18 µs, in degraded mode (R286, R290). -/
def execCoreResume (len : Nat) (s : State) : Outcome State Fault Refusal :=
  match s.flt.freezeAt, s.flt.survivor with
  | some t, some m =>
    let len := max 150 (min len 180)
    let s := s.advanceTo (t + (len + 9) / 10)
    let s := (((s.set F.FLT_MODE_MODE m).setOn F.FLT_PSTAT_DEGRADED true).setOn F.FLT_PSTAT_FREEZE false).set F.FLT_LAST_FREEZE len
    let s := s.onFlt fun f => { f with
      freezeAt := none, survivor := none, renewed := f.renewed + (s.now - t), degradedFrom := some s.now, spent := 0
      lastMark := s.now / 100000 * 100000 }
    .next ((s.set F.FLT_STEST_SLICES 0).mismatchRecord.takeJournal).afterPause
  | _, _ => .next s

/-! ### Degraded mode (R290 to R293) -/

/-- The mark a self-test slice is due for: the last multiple of 100 ms at or before the present boundary. -/
def State.sliceMark (s : State) : Nat := s.thy.boundary / 100000 * 100000

/-- The length of the slice that is due, in µs: at most 16 (R291). -/
def State.sliceLength (s : State) : Nat := min (Config.sliceLength (BitVec.ofNat 6 (s.get F.FLT_STEST_NEXT))).toNat 16

/-- A slice begins: the survivor pauses, as in a freeze. -/
def State.beginSlice (s : State) : State :=
  (s.onFlt fun f => { f with lastMark := s.sliceMark, sliceAt := some s.now }).setOn F.FLT_PSTAT_FREEZE true

/-- A slice that began at a time ends with its verdict; a failed one is handled as row 1 of R287. -/
def State.endSlice (s : State) (t : Nat) (pass : Bool) : State :=
  let len := s.sliceLength
  let s := ((s.advanceTo (t + len)).onFlt fun f => { f with sliceAt := none, renewed := f.renewed + len }).setOn F.FLT_PSTAT_FREEZE false
  let s := (s.count F.FLT_STEST_SLICES).set F.FLT_STEST_NEXT ((s.get F.FLT_STEST_NEXT + 1) % 64)
  if pass then s.afterPause else (s.writeLast s.frame.toNat 1 0 0 0).bothFailed

/-- SELF_TEST_SLICE: at the first boundary at or after a mark a slice begins, and after its length it ends (R291). -/
def execSelfTestSlice (pass ends : Bool) (s : State) : Outcome State Fault Refusal :=
  match s.flt.sliceAt with
  | some t => .next (if ends then s.endSlice t pass else s)
  | none =>
    .next (if s.running && s.degraded && !s.frozen && !ends && decide (s.flt.lastMark < s.sliceMark) then s.beginSlice else s)

/-- WATCHDOG_EXPIRY: no accepted renewal for 2 ms; both cores are held (R292). -/
def execWatchdogExpiry (s : State) : Outcome State Fault Refusal :=
  if s.running && !s.frozen && !s.coresHeld then
    let s := s.advanceTo (s.flt.renewed + 2000)
    .next (s.writeLast s.frame.toNat 1 0 0 0).bothFailed
  else .next s

/-- SRAM_DOUBLE_BIT_ERROR: a double-bit error in a word the cores read is handled as row 1 of R287 (R423). -/
def execSramDoubleBitError (s : State) : Outcome State Fault Refusal :=
  if s.cdieRuns && !s.coresHeld then .next (s.writeLast s.frame.toNat 1 0 0 0).bothFailed else .next s

/-- DEGRADED_TIME_EXPIRY: FLT_DEGR_LEFT reaches 0: EXPIRED, a class 2 event, condition 0x0B until the next start-up; saved at once
(R293). -/
def execDegradedTimeExpiry (s : State) : Outcome State Fault Refusal :=
  match s.flt.degradedFrom with
  | none => .next s
  | some t =>
    if s.running && s.degraded && s.flt.savedLeft != 0 then
      let s := s.advanceTo (t + (s.get F.FLT_CFG_DEGR_TIME * 3600 - s.flt.spent) * 1000000)
      .next ((((s.onFlt fun f => { f with savedLeft := 0 }).journalWrite [.degrLeft s.flt.savedLeft]).flagEvent F.FLT_IFLAG_EXPIRED 2).raiseCond 0x0B)
    else .next s

/-- DEGRADED_TIME_SAVE: each whole minute in degraded mode the time left is saved (R293). -/
def execDegradedTimeSave (s : State) : Outcome State Fault Refusal :=
  match s.flt.degradedFrom with
  | none => .next s
  | some t =>
    if s.running && s.degraded && s.flt.savedLeft != 0 then
      let s := s.advanceTo (t + ((s.now - t) / 60000000 + 1) * 60000000)
      .next ((s.onFlt fun f => { f with savedLeft := s.degrLeft }).journalWrite [.degrLeft s.flt.savedLeft])
    else .next s

/-! ### Recovery (R297, R298) -/

/-- MRAM_RECOVERY_DONE: the journal rule decides every open entry of the revoked holder, and `header` that of a Sage write-back, if
it was open; what island 1 itself has to save goes with it, and the port is released. `entries` says of each entry that had begun
whether its commit record is complete; one behind an incomplete one is incomplete, and those behind the list had not begun. A complete one is rolled forward, an incomplete one discarded, and device firmware writes it again. A
write-back without a complete header is broken. -/
def execMramRecoveryDone (entries : List Bool) (header : Option Bool) (s : State) : Outcome State Fault Refusal :=
  match s.flt.recovering with
  | none => .next s
  | some party =>
    let opens := (s.journal.filter fun e => e.party == party).take entries.length
    let done := opens.take (entries.takeWhile id).length
    let wb := s.sage.wbData.isSome && decide (party ≤ 3)
    let s := s.applyIf (done != [] || (wb && header == some true)) fun s => s.flag F.FLT_IFLAG_ROLLFWD
    let s := s.applyIf (decide (done.length < opens.length) || (wb && header == some false)) fun s => s.flag F.FLT_IFLAG_DISCARD
    let s := { s with journal := dropOwn party done.length s.journal }
    let s := if wb then match s.sage.wbData with
        | some c => if header = some true then s.writebackStored c else s.writebackBroken
        | none => s
      else s
    let s := ((s.onFlt fun f => { f with recovering := none }).finishPort partyIsland1).releaseLease 0
    .next (if s.frozen then s else s.takeJournal)

/-! ### Leases given back and expired (R295, R296) -/

/-- Requests that waited for a reply buffer are answered once it has passed on. -/
def State.afterSlot (s : State) (slot : Nat) : State := s.applyIf (decide (1 ≤ slot) && decide (slot ≤ 3)) State.answerWaiting

/-- LEASE_RELEASE: the holder releases a lease. -/
def execLeaseRelease (slot party : Nat) (s : State) : Outcome State Fault Refusal :=
  if slot < 8 ∧ s.leaseHolder slot = party ∧ s.leaseState slot = 1 then
    .next (if slot = 0 then s.releasePort party else (s.releaseLease slot).afterSlot slot)
  else .next s

/-- LEASE_EXPIRY: a lease not renewed for 50 µs expires and is revoked; a frozen one does not expire (R296). -/
def execLeaseExpiry (slot : Nat) (s : State) : Outcome State Fault Refusal :=
  if slot < 8 ∧ s.leaseState slot = 1 then
    .next (((s.advanceTo ((s.lease slot).renewed + 50)).revokeLease slot).afterSlot slot)
  else .next s

end Sys2Proof.Machine
end

