-- ==== Sys2Proof/Machine/HostRows.lean ====
section
/-! DEFINITION. The rows of the table that are a host's write to, or read of, one register: each is that request on a link. -/
namespace Sys2Proof.Machine
open Host

/-- HOST_RESET: a write to PWR_RESET (R64). -/
def execHostReset (l : Link) (key : Word) (s : State) : Outcome State Fault Refusal := .next (s.hostWrite l 0x06 0xE0 key)

/-- LAYUP_ENTER: a write to PWR_LAYUP, with the level of WAKE_N (R65). -/
def execLayupEnter (l : Link) (key : Word) (wakeN : Bool) (s : State) : Outcome State Fault Refusal :=
  .next (({ s with pins := { s.pins with wakeN := wakeN } }).hostWrite l 0x06 0xE1 key)

/-- CFG_DISCARD: a write to CFG_DISCARD (R81). -/
def execCfgDiscard (l : Link) (v : Word) (s : State) : Outcome State Fault Refusal := .next (s.hostWrite l 0x02 0x0E v)

/-- PCTL_EN: a write to PCTL of a page with EN set or clear, its block bits as they are (R72). -/
def execPctlEn (l : Link) (page : Byte) (en : Bool) (s : State) : Outcome State Fault Refusal :=
  .next (s.hostWrite l page.toNat 2 (s.reg (addrOf page.toNat 2) &&& 0xFFFF0000 ||| BitVec.ofNat 32 (ofBool en)))

/-- PCTL_RST: a write of 1 to PCTL.RST of a page, its other bits as they are (R72). -/
def execPctlRst (l : Link) (page : Byte) (s : State) : Outcome State Fault Refusal :=
  .next (s.hostWrite l page.toNat 2 (s.reg (addrOf page.toNat 2) ||| 2))

/-- IFLAG_CLEAR: a write of 1 to bits of IFLAG (R73). -/
def execIflagClear (l : Link) (page : Byte) (bits : Word) (s : State) : Outcome State Fault Refusal :=
  .next (s.hostWrite l page.toNat 3 bits)

/-- CFG_UNLOCK (R88). -/
def execCfgUnlock (l : Link) (pw : Word) (s : State) : Outcome State Fault Refusal := .next (s.hostWrite l 0x02 0xE3 pw)

/-- CFG_NEWPW (R88). -/
def execCfgNewpw (l : Link) (pw : Word) (s : State) : Outcome State Fault Refusal := .next (s.hostWrite l 0x02 0xE4 pw)

/-- CFG_DEFAULT (R88). -/
def execCfgDefault (l : Link) (key : Word) (s : State) : Outcome State Fault Refusal := .next (s.hostWrite l 0x02 0xE5 key)

/-- FW_OPEN: OPEN to CFG_FWCTL (R89). -/
def execFwOpen (l : Link) (s : State) : Outcome State Fault Refusal := .next (s.hostWrite l 0x02 0xE0 1)

/-- FW_VERIFY: VERIFY to CFG_FWCTL (R89). -/
def execFwVerify (l : Link) (s : State) : Outcome State Fault Refusal := .next (s.hostWrite l 0x02 0xE0 2)

/-- FW_ACTIVATE: ACTIVATE to CFG_FWCTL (R89). -/
def execFwActivate (l : Link) (s : State) : Outcome State Fault Refusal := .next (s.hostWrite l 0x02 0xE0 3)

/-- FW_ABANDON: ABANDON to CFG_FWCTL (R89). -/
def execFwAbandon (l : Link) (s : State) : Outcome State Fault Refusal := .next (s.hostWrite l 0x02 0xE0 4)

/-- FW_DATA: a write to CFG_FWDATA (R89). -/
def execFwData (l : Link) (v : Word) (s : State) : Outcome State Fault Refusal := .next (s.hostWrite l 0x02 0xE2 v)

/-- TIME_LO_READ: a read of THY_TIME_LO (R125). -/
def execTimeLoRead (l : Link) (s : State) : Outcome State Fault Refusal := .next (s.submit l 1 0x03 0x60 0)

/-- EPOCH_LO_WRITE (R126). -/
def execEpochLoWrite (l : Link) (v : Word) (s : State) : Outcome State Fault Refusal := .next (s.hostWrite l 0x03 0xE0 v)

/-- EPOCH_HI_WRITE (R126). -/
def execEpochHiWrite (l : Link) (v : Word) (s : State) : Outcome State Fault Refusal := .next (s.hostWrite l 0x03 0xE1 v)

/-- OW_REQUEST: a write to CMP_OWREQ (R154). -/
def execOwRequest (l : Link) (die tap : Nat) (s : State) : Outcome State Fault Refusal :=
  .next (s.hostWrite l 0x11 0xE1 (BitVec.ofNat 32 (die % 8 * 256 + tap % 128)))

/-- FLCLR: a write to CMP_FLCLR (R175). -/
def execFlclr (l : Link) (key : Word) (s : State) : Outcome State Fault Refusal := .next (s.hostWrite l 0x11 0xE0 key)

/-- BL_SWCLR: a write to BL_SWCLR of a die (R178). -/
def execBlSwclr (l : Link) (die cell : Nat) (s : State) : Outcome State Fault Refusal :=
  .next (s.hostWrite l (0x28 + die % 8) 0xE3 (BitVec.ofNat 32 (cell % 128)))

/-- LEARN_START: 1 to BL_LEARN of a die (R190). -/
def execLearnStart (l : Link) (die : Nat) (s : State) : Outcome State Fault Refusal :=
  .next (s.hostWrite l (0x28 + die % 8) 0xE0 1)

/-- LEARN_ABORT: 2 to BL_LEARN of a die (R190). -/
def execLearnAbort (l : Link) (die : Nat) (s : State) : Outcome State Fault Refusal :=
  .next (s.hostWrite l (0x28 + die % 8) 0xE0 2)

/-- CUR_ZERO: 1 to CUR_ZERO (R199). -/
def execCurZero (l : Link) (s : State) : Outcome State Fault Refusal := .next (s.hostWrite l 0x08 0xE0 1)

/-- STV_CAL_STR: 0x1 to STV_CAL (R207). -/
def execStvCalStr (l : Link) (s : State) : Outcome State Fault Refusal := .next (s.hostWrite l 0x09 0xE0 1)

/-- STV_CAL_LNK: 0x2 to STV_CAL (R207). -/
def execStvCalLnk (l : Link) (s : State) : Outcome State Fault Refusal := .next (s.hostWrite l 0x09 0xE0 2)

/-- STV_CAL_CLEAR: 0x3 to STV_CAL (R207). -/
def execStvCalClear (l : Link) (s : State) : Outcome State Fault Refusal := .next (s.hostWrite l 0x09 0xE0 3)

/-- SGE_CMD_WRITEBACK: 1 to SGE_CMD (R227). -/
def execSgeCmdWriteback (l : Link) (s : State) : Outcome State Fault Refusal := .next (s.hostWrite l 0x0C 0xE3 1)

/-- TABLE_LOAD: 0x1 to SGE_TBLCMD (R211). -/
def execTableLoad (l : Link) (s : State) : Outcome State Fault Refusal := .next (s.hostWrite l 0x0C 0xE2 1)

/-- TABLE_ACTIVATE: 0x2 to SGE_TBLCMD (R211). -/
def execTableActivate (l : Link) (s : State) : Outcome State Fault Refusal := .next (s.hostWrite l 0x0C 0xE2 2)

/-- TBLDATA_ACCESS: a write of a value to SGE_TBLDATA, or a read of it (R211). -/
def execTbldataAccess (l : Link) (v : Option Word) (s : State) : Outcome State Fault Refusal :=
  .next (
    match v with
    | some x => s.hostWrite l 0x0C 0xE1 x
    | none => s.submit l 1 0x0C 0xE1 0)

/-- SGC_BANK_WRITE (R231). -/
def execSgcBankWrite (l : Link) (v : Word) (s : State) : Outcome State Fault Refusal := .next (s.hostWrite l 0x0D 0xE0 v)

/-- SGC_RESET (R230). -/
def execSgcReset (l : Link) (v : Word) (s : State) : Outcome State Fault Refusal := .next (s.hostWrite l 0x0D 0xE1 v)

/-- LIM_ZSEL_WRITE (R244). -/
def execLimZselWrite (l : Link) (v : Word) (s : State) : Outcome State Fault Refusal := .next (s.hostWrite l 0x0E 0xE0 v)

/-- CONNECT: 0x1 to PRT_CMD (R248). -/
def execConnect (l : Link) (s : State) : Outcome State Fault Refusal := .next (s.hostWrite l 0x10 0xE0 1)

/-- DISCONNECT: 0x2 to PRT_CMD (R264). -/
def execDisconnect (l : Link) (s : State) : Outcome State Fault Refusal := .next (s.hostWrite l 0x10 0xE0 2)

/-- CHARGE_ON: 0x3 to PRT_CMD (R261). -/
def execChargeOn (l : Link) (s : State) : Outcome State Fault Refusal := .next (s.hostWrite l 0x10 0xE0 3)

/-- CHARGE_OFF: 0x4 to PRT_CMD (R262). -/
def execChargeOff (l : Link) (s : State) : Outcome State Fault Refusal := .next (s.hostWrite l 0x10 0xE0 4)

/-- PRT_CLEAR: 0x5 to PRT_CMD (R264). -/
def execPrtClear (l : Link) (s : State) : Outcome State Fault Refusal := .next (s.hostWrite l 0x10 0xE0 5)

/-- WELDCLR: a write to PRT_WELDCLR (R254). -/
def execWeldclr (l : Link) (key : Word) (s : State) : Outcome State Fault Refusal := .next (s.hostWrite l 0x10 0xE1 key)

/-- ADOPT: 0x1 to KRG_CMD (R275). -/
def execAdopt (l : Link) (s : State) : Outcome State Fault Refusal := .next (s.hostWrite l 0x12 0xE0 1)

/-- DECLINE: 0x2 to KRG_CMD (R275). -/
def execDecline (l : Link) (s : State) : Outcome State Fault Refusal := .next (s.hostWrite l 0x12 0xE0 2)

/-- CANCEL: 0x3 to KRG_CMD (R270). -/
def execCancel (l : Link) (s : State) : Outcome State Fault Refusal := .next (s.hostWrite l 0x12 0xE0 3)

/-- INSTALL_ANCHOR: 0x1 to AUT_CMD (R282). -/
def execInstallAnchor (l : Link) (s : State) : Outcome State Fault Refusal := .next (s.hostWrite l 0x0F 0xE5 1)

/-- ENROL: 0x2 to AUT_CMD, with the IDs the chains present by slot (R282). -/
def execEnrol (l : Link) (ids : List (Nat × Nat)) (s : State) : Outcome State Fault Refusal :=
  let t := (s.onAut fun a => { a with presented := some ids }).hostWrite l 0x0F 0xE5 2
  .next (if (t.link l).waiting.isSome || !(t.link l).frames.isEmpty then t else t.onAut fun a => { a with presented := none })

/-- AUTHENTICATE_ALL: 0x3 to AUT_CMD (R282). -/
def execAuthenticateAll (l : Link) (s : State) : Outcome State Fault Refusal := .next (s.hostWrite l 0x0F 0xE5 3)

/-- AUT_KEYDATA_WRITE (R282). -/
def execAutKeydataWrite (l : Link) (v : Word) (s : State) : Outcome State Fault Refusal := .next (s.hostWrite l 0x0F 0xE4 v)

/-- AUT_SEL_WRITE (R284). -/
def execAutSelWrite (l : Link) (v : Word) (s : State) : Outcome State Fault Refusal := .next (s.hostWrite l 0x0F 0xE0 v)

/-- RSM_CLEAR (R309). -/
def execRsmClear (l : Link) (key : Word) (s : State) : Outcome State Fault Refusal := .next (s.hostWrite l 0x14 0xE2 key)

/-- RSM_SNAP_WRITE (R310). -/
def execRsmSnapWrite (l : Link) (v : Word) (s : State) : Outcome State Fault Refusal := .next (s.hostWrite l 0x14 0xE0 v)

/-- RSM_RDSEL_WRITE (R311). -/
def execRsmRdselWrite (l : Link) (seq : Word) (s : State) : Outcome State Fault Refusal := .next (s.hostWrite l 0x14 0xE1 seq)

/-- CYL_ACK (R313). -/
def execCylAck (l : Link) (seq : Word) (s : State) : Outcome State Fault Refusal := .next (s.hostWrite l 0x15 0xE1 seq)

/-- CYL_RDSEL_WRITE (R316). -/
def execCylRdselWrite (l : Link) (seq : Word) (s : State) : Outcome State Fault Refusal := .next (s.hostWrite l 0x15 0xE0 seq)

/-- MOVE: 0x1 to AX_CMD of an axis (R339). -/
def execMove (l : Link) (axis : Nat) (s : State) : Outcome State Fault Refusal := .next (s.hostWrite l (0x41 + axis % 6) 0xE0 1)

/-- HOME: 0x2 to AX_CMD (R341). -/
def execHome (l : Link) (axis : Nat) (s : State) : Outcome State Fault Refusal := .next (s.hostWrite l (0x41 + axis % 6) 0xE0 2)

/-- AXIS_STOP: 0x3 to AX_CMD (R346). -/
def execAxisStop (l : Link) (axis : Nat) (s : State) : Outcome State Fault Refusal :=
  .next (s.hostWrite l (0x41 + axis % 6) 0xE0 3)

/-- AXIS_CLEAR: 0x4 to AX_CMD (R346). -/
def execAxisClear (l : Link) (axis : Nat) (s : State) : Outcome State Fault Refusal :=
  .next (s.hostWrite l (0x41 + axis % 6) 0xE0 4)

/-- GROUP_START: START of a group to MOT_CMD (R340). -/
def execGroupStart (l : Link) (group : Nat) (s : State) : Outcome State Fault Refusal :=
  .next (s.hostWrite l 0x40 0xE0 (BitVec.ofNat 32 (0x10000000 + group % 4)))

/-- GROUP_STOP: STOP of a group to MOT_CMD (R346). -/
def execGroupStop (l : Link) (group : Nat) (s : State) : Outcome State Fault Refusal :=
  .next (s.hostWrite l 0x40 0xE0 (BitVec.ofNat 32 (0x20000000 + group % 4)))

/-- STOP_ALL: STOP of all axes to MOT_CMD (R346). -/
def execStopAll (l : Link) (s : State) : Outcome State Fault Refusal := .next (s.hostWrite l 0x40 0xE0 0x30000000)

/-- SCTEST: 0x1 to GD_CMD (R359). -/
def execSctest (l : Link) (axis : Nat) (s : State) : Outcome State Fault Refusal := .next (s.hostWrite l (0x49 + axis % 6) 0xE0 1)

/-- RECOVER: 0x2 to GD_CMD (R362). -/
def execRecover (l : Link) (axis : Nat) (s : State) : Outcome State Fault Refusal :=
  .next (s.hostWrite l (0x49 + axis % 6) 0xE0 2)

/-- GATE_PULSE: a write to GD_GPULSE (R352). -/
def execGatePulse (l : Link) (axis : Nat) (v : Word) (s : State) : Outcome State Fault Refusal :=
  .next (s.hostWrite l (0x49 + axis % 6) 0xE2 v)

/-- GD_LIVE_READ: a read of GD_LIVE (R351). -/
def execGdLiveRead (l : Link) (axis : Nat) (s : State) : Outcome State Fault Refusal :=
  .next (s.submit l 1 (0x49 + axis % 6) 0xE1 0)

/-- LS_OUT_WRITE: a write to LSA_OUT, or LSB_OUT (R366). -/
def execLsOutWrite (l : Link) (b : Bool) (v : Word) (s : State) : Outcome State Fault Refusal :=
  .next (s.hostWrite l (0x51 + ofBool b) 0xE0 v)

/-- LS_CLR: a write to LSA_CLR, or LSB_CLR (R376). -/
def execLsClr (l : Link) (b : Bool) (v : Word) (s : State) : Outcome State Fault Refusal :=
  .next (s.hostWrite l (0x51 + ofBool b) 0xE1 v)

/-- TEST_BRK0: 0x1 to SAF_CMD (R384). -/
def execTestBrk0 (l : Link) (s : State) : Outcome State Fault Refusal := .next (s.hostWrite l 0x18 0xE2 1)

/-- TEST_BRK1: 0x2 to SAF_CMD (R384). -/
def execTestBrk1 (l : Link) (s : State) : Outcome State Fault Refusal := .next (s.hostWrite l 0x18 0xE2 2)

/-- SAF_UNLOCK (R397). -/
def execSafUnlock (l : Link) (pw : Word) (s : State) : Outcome State Fault Refusal := .next (s.hostWrite l 0x18 0xE0 pw)

/-- SAF_NEWPW (R397). -/
def execSafNewpw (l : Link) (pw : Word) (s : State) : Outcome State Fault Refusal := .next (s.hostWrite l 0x18 0xE1 pw)

/-- TMP_CMD (R409). -/
def execTmpCmd (l : Link) (v : Word) (s : State) : Outcome State Fault Refusal := .next (s.hostWrite l 0x05 0xE0 v)

end Sys2Proof.Machine
end

