-- ==== Sys2Proof/Machine/Dispatch.lean ====
section
/-! DEFINITION. One arm per command: each is one call of that command's meaning. -/
namespace Sys2Proof.Machine

def exec (i : Instr) (s : State) : Host.Outcome State Fault Refusal :=
  match i with
  | .startQualified x => Sys2Proof.Machine.execStartQualified x s
  | .mdieSettled k => Sys2Proof.Machine.execMdieSettled k s
  | .mdieSettleTimeout k => Sys2Proof.Machine.execMdieSettleTimeout k s
  | .holdupStoreCharged => Sys2Proof.Machine.execHoldupStoreCharged s
  | .holdupTimeout => Sys2Proof.Machine.execHoldupTimeout s
  | .enterRun x => Sys2Proof.Machine.execEnterRun x s
  | .supplyLow => Sys2Proof.Machine.execSupplyLow s
  | .supplyLowClear => Sys2Proof.Machine.execSupplyLowClear s
  | .pwrWarn => Sys2Proof.Machine.execPwrWarn s
  | .pwrWarnClear => Sys2Proof.Machine.execPwrWarnClear s
  | .pwrFail => Sys2Proof.Machine.execPwrFail s
  | .cdieReset => Sys2Proof.Machine.execCdieReset s
  | .vmOkChange ok => Sys2Proof.Machine.execVmOkChange ok s
  | .hostReset l key => Sys2Proof.Machine.execHostReset l key s
  | .layupEnter l key wakeN => Sys2Proof.Machine.execLayupEnter l key wakeN s
  | .layupWake source => Sys2Proof.Machine.execLayupWake source s
  | .layupSupplyLost => Sys2Proof.Machine.execLayupSupplyLost s
  | .addrChange addr => Sys2Proof.Machine.execAddrChange addr s
  | .nop l r => Sys2Proof.Machine.execNop l r s
  | .read l r => Sys2Proof.Machine.execRead l r s
  | .write l r => Sys2Proof.Machine.execWrite l r s
  | .burstRead l r => Sys2Proof.Machine.execBurstRead l r s
  | .commit l r => Sys2Proof.Machine.execCommit l r s
  | .status l r => Sys2Proof.Machine.execStatus l r s
  | .unknownOp l op rsv r => Sys2Proof.Machine.execUnknownOp l op rsv r s
  | .crcErrorFrame page word => Sys2Proof.Machine.execCrcErrorFrame page word s
  | .spiNotReady => Sys2Proof.Machine.execSpiNotReady s
  | .canRequestFrame port f => Sys2Proof.Machine.execCanRequestFrame port f s
  | .canErrorPassive port tec recv => Sys2Proof.Machine.execCanErrorPassive port tec recv s
  | .canBusOff port => Sys2Proof.Machine.execCanBusOff port s
  | .canBusoffRecovery port => Sys2Proof.Machine.execCanBusoffRecovery port s
  | .attnMessage port => Sys2Proof.Machine.execAttnMessage port s
  | .attnMsgWindowEnd port => Sys2Proof.Machine.execAttnMsgWindowEnd port s
  | .commitStep => Sys2Proof.Machine.execCommitStep s
  | .cfgDiscard l v => Sys2Proof.Machine.execCfgDiscard l v s
  | .pctlEn l page en => Sys2Proof.Machine.execPctlEn l page en s
  | .pctlRst l page => Sys2Proof.Machine.execPctlRst l page s
  | .iflagClear l page bits => Sys2Proof.Machine.execIflagClear l page bits s
  | .cfgUnlock l pw => Sys2Proof.Machine.execCfgUnlock l pw s
  | .unlockExpiry l saf => Sys2Proof.Machine.execUnlockExpiry l saf s
  | .lockoutEnd saf => Sys2Proof.Machine.execLockoutEnd saf s
  | .cfgNewpw l pw => Sys2Proof.Machine.execCfgNewpw l pw s
  | .cfgDefault l key => Sys2Proof.Machine.execCfgDefault l key s
  | .fwOpen l => Sys2Proof.Machine.execFwOpen l s
  | .fwData l v => Sys2Proof.Machine.execFwData l v s
  | .fwVerify l => Sys2Proof.Machine.execFwVerify l s
  | .fwVerifyDone pass version => Sys2Proof.Machine.execFwVerifyDone pass version s
  | .fwActivate l => Sys2Proof.Machine.execFwActivate l s
  | .fwAbandon l => Sys2Proof.Machine.execFwAbandon l s
  | .frameBoundary x => Sys2Proof.Machine.execFrameBoundary x s
  | .midFrameSample xs => Sys2Proof.Machine.execMidFrameSample xs s
  | .quietLead => Sys2Proof.Machine.execQuietLead s
  | .servoTick xs => Sys2Proof.Machine.execServoTick xs s
  | .auxScan xs => Sys2Proof.Machine.execAuxScan xs s
  | .syncInEdge => Sys2Proof.Machine.execSyncInEdge s
  | .syncMiss => Sys2Proof.Machine.execSyncMiss s
  | .timeLoRead l => Sys2Proof.Machine.execTimeLoRead l s
  | .epochLoWrite l v => Sys2Proof.Machine.execEpochLoWrite l v s
  | .epochHiWrite l v => Sys2Proof.Machine.execEpochHiWrite l v s
  | .xtalLost => Sys2Proof.Machine.execXtalLost s
  | .xtalRegained => Sys2Proof.Machine.execXtalRegained s
  | .clockCheckWindow dev => Sys2Proof.Machine.execClockCheckWindow dev s
  | .strobeRecal delays => Sys2Proof.Machine.execStrobeRecal delays s
  | .segmentDown g => Sys2Proof.Machine.execSegmentDown g s
  | .segmentRetrain g ok => Sys2Proof.Machine.execSegmentRetrain g ok s
  | .dieUnreachable k => Sys2Proof.Machine.execDieUnreachable k s
  | .dieRejoin k => Sys2Proof.Machine.execDieRejoin k s
  | .dieSleep k => Sys2Proof.Machine.execDieSleep k s
  | .dieWake k => Sys2Proof.Machine.execDieWake k s
  | .periodicSave => Sys2Proof.Machine.execPeriodicSave s
  | .firmwareEval => Sys2Proof.Machine.execFirmwareEval s
  | .sweepStart => Sys2Proof.Machine.execSweepStart s
  | .owRequest l die tap => Sys2Proof.Machine.execOwRequest l die tap s
  | .tapTestStart k => Sys2Proof.Machine.execTapTestStart k s
  | .tapWindowEnd k => Sys2Proof.Machine.execTapWindowEnd k s
  | .tapTestDecide k => Sys2Proof.Machine.execTapTestDecide k s
  | .gatedEval cells => Sys2Proof.Machine.execGatedEval cells s
  | .gatedTrip => Sys2Proof.Machine.execGatedTrip s
  | .absoluteTrip k cell v => Sys2Proof.Machine.execAbsoluteTrip k cell v s
  | .comparatorSelfTest failing => Sys2Proof.Machine.execComparatorSelfTest failing s
  | .faultChannelLost k coded => Sys2Proof.Machine.execFaultChannelLost k coded s
  | .tripCode k code => Sys2Proof.Machine.execTripCode k code s
  | .carrierReturn k => Sys2Proof.Machine.execCarrierReturn k s
  | .flclr l key => Sys2Proof.Machine.execFlclr l key s
  | .fastOcTrip u => Sys2Proof.Machine.execFastOcTrip u s
  | .ocSelfTest pass => Sys2Proof.Machine.execOcSelfTest pass s
  | .balanceOnTimeEnd k cell => Sys2Proof.Machine.execBalanceOnTimeEnd k cell s
  | .switchStuck k cell => Sys2Proof.Machine.execSwitchStuck k cell s
  | .switchOvercurrent k cell => Sys2Proof.Machine.execSwitchOvercurrent k cell s
  | .balanceOpenLoop k cell => Sys2Proof.Machine.execBalanceOpenLoop k cell s
  | .blSwclr l die cell => Sys2Proof.Machine.execBlSwclr l die cell s
  | .learnStart l die => Sys2Proof.Machine.execLearnStart l die s
  | .learnAbort l die => Sys2Proof.Machine.execLearnAbort l die s
  | .currentSuspect => Sys2Proof.Machine.execCurrentSuspect s
  | .currentAgreed => Sys2Proof.Machine.execCurrentAgreed s
  | .curZero l => Sys2Proof.Machine.execCurZero l s
  | .zeroAutoStart => Sys2Proof.Machine.execZeroAutoStart s
  | .zeroingDone => Sys2Proof.Machine.execZeroingDone s
  | .stvCalStr l => Sys2Proof.Machine.execStvCalStr l s
  | .stvCalLnk l => Sys2Proof.Machine.execStvCalLnk l s
  | .stvCalClear l => Sys2Proof.Machine.execStvCalClear l s
  | .stvCalDone => Sys2Proof.Machine.execStvCalDone s
  | .sageStep => Sys2Proof.Machine.execSageStep s
  | .writebackPeriod => Sys2Proof.Machine.execWritebackPeriod s
  | .sgeCmdWriteback l => Sys2Proof.Machine.execSgeCmdWriteback l s
  | .writebackStart => Sys2Proof.Machine.execWritebackStart s
  | .writebackDone => Sys2Proof.Machine.execWritebackDone s
  | .tableLoad l => Sys2Proof.Machine.execTableLoad l s
  | .tableActivate l => Sys2Proof.Machine.execTableActivate l s
  | .tbldataAccess l v => Sys2Proof.Machine.execTbldataAccess l v s
  | .sgcBankWrite l v => Sys2Proof.Machine.execSgcBankWrite l v s
  | .sgcReset l v => Sys2Proof.Machine.execSgcReset l v s
  | .limZselWrite l v => Sys2Proof.Machine.execLimZselWrite l v s
  | .connect l => Sys2Proof.Machine.execConnect l s
  | .disconnect l => Sys2Proof.Machine.execDisconnect l s
  | .chargeOn l => Sys2Proof.Machine.execChargeOn l s
  | .chargeOff l => Sys2Proof.Machine.execChargeOff l s
  | .prtClear l => Sys2Proof.Machine.execPrtClear l s
  | .weldclr l key => Sys2Proof.Machine.execWeldclr l key s
  | .pullInEnd m => Sys2Proof.Machine.execPullInEnd m s
  | .auxChange m closed => Sys2Proof.Machine.execAuxChange m closed s
  | .prechargeTimeout => Sys2Proof.Machine.execPrechargeTimeout s
  | .prechargeOverlapEnd => Sys2Proof.Machine.execPrechargeOverlapEnd s
  | .matchTimeout => Sys2Proof.Machine.execMatchTimeout s
  | .prechargeCoolEnd => Sys2Proof.Machine.execPrechargeCoolEnd s
  | .coilOvercurrent m => Sys2Proof.Machine.execCoilOvercurrent m s
  | .coilCurrentFault m => Sys2Proof.Machine.execCoilCurrentFault m s
  | .auxCloseTimeout m => Sys2Proof.Machine.execAuxCloseTimeout m s
  | .auxOpenTimeout m => Sys2Proof.Machine.execAuxOpenTimeout m s
  | .cd1HoldEnd => Sys2Proof.Machine.execCd1HoldEnd s
  | .deadlineExpiry => Sys2Proof.Machine.execDeadlineExpiry s
  | .badChannelsOpen => Sys2Proof.Machine.execBadChannelsOpen s
  | .suspectTimeExpiry => Sys2Proof.Machine.execSuspectTimeExpiry s
  | .degradedCellExpiry k cell => Sys2Proof.Machine.execDegradedCellExpiry k cell s
  | .cellTempExpiry k cell => Sys2Proof.Machine.execCellTempExpiry k cell s
  | .limitFrame => Sys2Proof.Machine.execLimitFrame s
  | .chargeOffTimeout => Sys2Proof.Machine.execChargeOffTimeout s
  | .shoreDetChange level => Sys2Proof.Machine.execShoreDetChange level s
  | .ringCycle => Sys2Proof.Machine.execRingCycle s
  | .ringStatusMsg m => Sys2Proof.Machine.execRingStatusMsg m s
  | .memberLost a => Sys2Proof.Machine.execMemberLost a s
  | .grantTimeout => Sys2Proof.Machine.execGrantTimeout s
  | .systemFrame => Sys2Proof.Machine.execSystemFrame s
  | .mirrorReceived source serial seq image ok => Sys2Proof.Machine.execMirrorReceived source serial seq image ok s
  | .mirrorHeaderReply serial => Sys2Proof.Machine.execMirrorHeaderReply serial s
  | .adopt l => Sys2Proof.Machine.execAdopt l s
  | .adoptFetchDone ok m => Sys2Proof.Machine.execAdoptFetchDone ok m s
  | .decline l => Sys2Proof.Machine.execDecline l s
  | .cancel l => Sys2Proof.Machine.execCancel l s
  | .installAnchor l => Sys2Proof.Machine.execInstallAnchor l s
  | .enrol l ids => Sys2Proof.Machine.execEnrol l ids s
  | .authenticateAll l => Sys2Proof.Machine.execAuthenticateAll l s
  | .autPoll ids => Sys2Proof.Machine.execAutPoll ids s
  | .slotAuthDone slot x => Sys2Proof.Machine.execSlotAuthDone slot x s
  | .autKeydataWrite l v => Sys2Proof.Machine.execAutKeydataWrite l v s
  | .autSelWrite l v => Sys2Proof.Machine.execAutSelWrite l v s
  | .lockstepMismatch parA parB => Sys2Proof.Machine.execLockstepMismatch parA parB s
  | .arbitration stA stB => Sys2Proof.Machine.execArbitration stA stB s
  | .coreResume len => Sys2Proof.Machine.execCoreResume len s
  | .selfTestSlice pass ends => Sys2Proof.Machine.execSelfTestSlice pass ends s
  | .watchdogExpiry => Sys2Proof.Machine.execWatchdogExpiry s
  | .degradedTimeExpiry => Sys2Proof.Machine.execDegradedTimeExpiry s
  | .degradedTimeSave => Sys2Proof.Machine.execDegradedTimeSave s
  | .leaseAcquire slot party => Sys2Proof.Machine.execLeaseAcquire slot party s
  | .leaseRelease slot party => Sys2Proof.Machine.execLeaseRelease slot party s
  | .leaseExpiry slot => Sys2Proof.Machine.execLeaseExpiry slot s
  | .mramRecoveryDone entries header => Sys2Proof.Machine.execMramRecoveryDone entries header s
  | .recordAccept => Sys2Proof.Machine.execRecordAccept s
  | .flushPeriodic => Sys2Proof.Machine.execFlushPeriodic s
  | .flushStart => Sys2Proof.Machine.execFlushStart s
  | .flushDone => Sys2Proof.Machine.execFlushDone s
  | .rateWindowClose => Sys2Proof.Machine.execRateWindowClose s
  | .rsmClear l key => Sys2Proof.Machine.execRsmClear l key s
  | .rsmSnapWrite l v => Sys2Proof.Machine.execRsmSnapWrite l v s
  | .snapshotExpiry link => Sys2Proof.Machine.execSnapshotExpiry link s
  | .rsmRdselWrite l seq => Sys2Proof.Machine.execRsmRdselWrite l seq s
  | .ledgerRecordWrite => Sys2Proof.Machine.execLedgerRecordWrite s
  | .cylAck l seq => Sys2Proof.Machine.execCylAck l seq s
  | .cylRdselWrite l seq => Sys2Proof.Machine.execCylRdselWrite l seq s
  | .baySamplePair p crcOk => Sys2Proof.Machine.execBaySamplePair p crcOk s
  | .bayPairLost => Sys2Proof.Machine.execBayPairLost s
  | .bayInterval => Sys2Proof.Machine.execBayInterval s
  | .bayCopyWrite => Sys2Proof.Machine.execBayCopyWrite s
  | .bayAux3Change closed => Sys2Proof.Machine.execBayAux3Change closed s
  | .bayBreak rest => Sys2Proof.Machine.execBayBreak rest s
  | .baySet param rest => Sys2Proof.Machine.execBaySet param rest s
  | .baySeal rest => Sys2Proof.Machine.execBaySeal rest s
  | .bayImgOpen rest => Sys2Proof.Machine.execBayImgOpen rest s
  | .bayImgData rest => Sys2Proof.Machine.execBayImgData rest s
  | .bayImgEnd rest verified version => Sys2Proof.Machine.execBayImgEnd rest verified version s
  | .bayMailboxReject m => Sys2Proof.Machine.execBayMailboxReject m s
  | .bayLockoutEnd => Sys2Proof.Machine.execBayLockoutEnd s
  | .move l axis => Sys2Proof.Machine.execMove l axis s
  | .home l axis => Sys2Proof.Machine.execHome l axis s
  | .axisStop l axis => Sys2Proof.Machine.execAxisStop l axis s
  | .axisClear l axis => Sys2Proof.Machine.execAxisClear l axis s
  | .groupStart l group => Sys2Proof.Machine.execGroupStart l group s
  | .groupStop l group => Sys2Proof.Machine.execGroupStop l group s
  | .stopAll l => Sys2Proof.Machine.execStopAll l s
  | .cycleStart a => Sys2Proof.Machine.execCycleStart a s
  | .cycleEnd a => Sys2Proof.Machine.execCycleEnd a s
  | .homePoint a => Sys2Proof.Machine.execHomePoint a s
  | .homingTimeout a => Sys2Proof.Machine.execHomingTimeout a s
  | .stall a => Sys2Proof.Machine.execStall a s
  | .obstacle a => Sys2Proof.Machine.execObstacle a s
  | .edgeChange e ohm => Sys2Proof.Machine.execEdgeChange e ohm s
  | .edgeGapTimeout e => Sys2Proof.Machine.execEdgeGapTimeout e s
  | .limitSwitch a => Sys2Proof.Machine.execLimitSwitch a s
  | .setpointQueueEmpty a => Sys2Proof.Machine.execSetpointQueueEmpty a s
  | .standstillDelay a => Sys2Proof.Machine.execStandstillDelay a s
  | .gdieFrame a sent valid => Sys2Proof.Machine.execGdieFrame a sent valid s
  | .gdieLinkLost => Sys2Proof.Machine.execGdieLinkLost s
  | .sctest l axis => Sys2Proof.Machine.execSctest l axis s
  | .sctestDone a fails => Sys2Proof.Machine.execSctestDone a fails s
  | .recover l axis => Sys2Proof.Machine.execRecover l axis s
  | .gatePulse l axis v => Sys2Proof.Machine.execGatePulse l axis v s
  | .gatePulseEnd a vsw vbst x => Sys2Proof.Machine.execGatePulseEnd a vsw vbst x s
  | .gdLiveRead l axis => Sys2Proof.Machine.execGdLiveRead l axis s
  | .qualification a => Sys2Proof.Machine.execQualification a s
  | .qualificationDone a fails bst => Sys2Proof.Machine.execQualificationDone a fails bst s
  | .pwmPeriod a hs => Sys2Proof.Machine.execPwmPeriod a hs s
  | .shortCircuitTrip a c => Sys2Proof.Machine.execShortCircuitTrip a c s
  | .handshakeTimeout a => Sys2Proof.Machine.execHandshakeTimeout a s
  | .vmOutOfRange high => Sys2Proof.Machine.execVmOutOfRange high s
  | .vggUndervoltage => Sys2Proof.Machine.execVggUndervoltage s
  | .supplyRelease h => Sys2Proof.Machine.execSupplyRelease h s
  | .bootstrapUndervoltage a b => Sys2Proof.Machine.execBootstrapUndervoltage a b s
  | .refreshEpisode a b bst => Sys2Proof.Machine.execRefreshEpisode a b bst s
  | .chopperOn => Sys2Proof.Machine.execChopperOn s
  | .chopperOff => Sys2Proof.Machine.execChopperOff s
  | .chopperLong => Sys2Proof.Machine.execChopperLong s
  | .lsOutWrite l b v => Sys2Proof.Machine.execLsOutWrite l b v s
  | .lsClr l b v => Sys2Proof.Machine.execLsClr l b v s
  | .inrushEnd n => Sys2Proof.Machine.execInrushEnd n s
  | .limitTime x => Sys2Proof.Machine.execLimitTime x s
  | .openLoadChange n above => Sys2Proof.Machine.execOpenLoadChange n above s
  | .zoneHot z even odd => Sys2Proof.Machine.execZoneHot z even odd s
  | .zoneSecondCheck z still => Sys2Proof.Machine.execZoneSecondCheck z still s
  | .zoneCool z => Sys2Proof.Machine.execZoneCool z s
  | .zoneSensorFault z => Sys2Proof.Machine.execZoneSensorFault z s
  | .shed => Sys2Proof.Machine.execShed s
  | .lsRestart n => Sys2Proof.Machine.execLsRestart n s
  | .leftReload n => Sys2Proof.Machine.execLeftReload n s
  | .guardChange g closed => Sys2Proof.Machine.execGuardChange g closed s
  | .safestopTimeout a => Sys2Proof.Machine.execSafestopTimeout a s
  | .brakeCurrentFault b => Sys2Proof.Machine.execBrakeCurrentFault b s
  | .brakeSwitchPulse b side opened => Sys2Proof.Machine.execBrakeSwitchPulse b side opened s
  | .brakeTestStart b => Sys2Proof.Machine.execBrakeTestStart b s
  | .brakeTestDone b move1 move2 => Sys2Proof.Machine.execBrakeTestDone b move1 move2 s
  | .testBrk0 l => Sys2Proof.Machine.execTestBrk0 l s
  | .testBrk1 l => Sys2Proof.Machine.execTestBrk1 l s
  | .propEnPulse sw opened => Sys2Proof.Machine.execPropEnPulse sw opened s
  | .propEnReadback high => Sys2Proof.Machine.execPropEnReadback high s
  | .propEnLow => Sys2Proof.Machine.execPropEnLow s
  | .safetySelfTestSlice pass => Sys2Proof.Machine.execSafetySelfTestSlice pass s
  | .safetyDegradedExpiry => Sys2Proof.Machine.execSafetyDegradedExpiry s
  | .safetyPduReceived fd bytes => Sys2Proof.Machine.execSafetyPduReceived fd bytes s
  | .safetyPduSend => Sys2Proof.Machine.execSafetyPduSend s
  | .safetyWatchdogExpiry => Sys2Proof.Machine.execSafetyWatchdogExpiry s
  | .safUnlock l pw => Sys2Proof.Machine.execSafUnlock l pw s
  | .safNewpw l pw => Sys2Proof.Machine.execSafNewpw l pw s
  | .thermalEval d t missing => Sys2Proof.Machine.execThermalEval d t missing s
  | .thermalPowerDown d => Sys2Proof.Machine.execThermalPowerDown d s
  | .thermalPauseEnd motion => Sys2Proof.Machine.execThermalPauseEnd motion s
  | .diePowerCycle d => Sys2Proof.Machine.execDiePowerCycle d s
  | .tmpCmd l v => Sys2Proof.Machine.execTmpCmd l v s
  | .eccCorrected mram => Sys2Proof.Machine.execEccCorrected mram s
  | .sramDoubleBitError => Sys2Proof.Machine.execSramDoubleBitError s
  | .brakeEngagedReadback b => Sys2Proof.Machine.execBrakeEngagedReadback b s
  | .canErrorActive port tec recv => Sys2Proof.Machine.execCanErrorActive port tec recv s

end Sys2Proof.Machine
end

