-- ==== Sys2Proof/Machine/Frames.lean ====
section
/-! DEFINITION. Frames: what each command may alter, as a list of words and of parts of the state. A word stands for the same word on every
page of its block; whatever a frame does not list stays as it is. -/
namespace Sys2Proof.Machine

/-- The parts of the state beside the active copy of the registers and the queue. -/
inductive Part where
  | now | shadow | published | gdieDown | pwr | pins | links | commit | pw | spw | fw | thy | stk | rsm | cyl | flt
  | dieSt | line | cur | bay | mot | gate | saf | prot | tmp | ls | sage | ring | aut | saved | journal | ratios
deriving DecidableEq, Repr

/-- A part is the same in two states. -/
def Part.same (s t : State) : Part → Prop
  | .now => t.now = s.now
  | .shadow => t.shadow = s.shadow
  | .published => t.published = s.published
  | .gdieDown => t.gdieDown = s.gdieDown
  | .pwr => t.pwr = s.pwr
  | .pins => t.pins = s.pins
  | .links => t.links = s.links
  | .commit => t.commit = s.commit
  | .pw => t.pw = s.pw
  | .spw => t.spw = s.spw
  | .fw => t.fw = s.fw
  | .thy => t.thy = s.thy
  | .stk => t.stk = s.stk
  | .rsm => t.rsm = s.rsm
  | .cyl => t.cyl = s.cyl
  | .flt => t.flt = s.flt
  | .dieSt => t.dieSt = s.dieSt
  | .line => t.line = s.line
  | .cur => t.cur = s.cur
  | .bay => t.bay = s.bay
  | .mot => t.mot = s.mot
  | .gate => t.gate = s.gate
  | .saf => t.saf = s.saf
  | .prot => t.prot = s.prot
  | .tmp => t.tmp = s.tmp
  | .ls => t.ls = s.ls
  | .sage => t.sage = s.sage
  | .ring => t.ring = s.ring
  | .aut => t.aut = s.aut
  | .saved => t.saved = s.saved
  | .journal => t.journal = s.journal
  | .ratios => t.ratios = s.ratios

/-- What a command may alter: ranges of words, by the first page of the block and the first and last word, and parts. -/
structure Frame where
  words : List (Nat × Nat × Nat)
  parts : List Part
deriving DecidableEq, Repr

/-- What every request alters: the words that follow the moment, with the FRAMESEQ of their pages, and what a link keeps. -/
def shownWords : List (Nat × Nat × Nat) :=
  [(0x01, 0x07, 0x07), (0x01, 0x60, 0x63), (0x02, 0x07, 0x07), (0x02, 0x62, 0x62), (0x03, 0x07, 0x07), (0x03, 0x60, 0x60),
    (0x04, 0x07, 0x07), (0x04, 0x61, 0x61), (0x04, 0x70, 0x77), (0x05, 0x07, 0x07), (0x05, 0x67, 0x67), (0x0A, 0x07, 0x07),
    (0x0A, 0x76, 0x76), (0x10, 0x07, 0x07), (0x10, 0x62, 0x62), (0x18, 0x07, 0x07), (0x18, 0x61, 0x61), (0x18, 0x63, 0x64),
    (0x18, 0x66, 0x66), (0x19, 0x07, 0x07), (0x19, 0x63, 0x63)]

/-- A request alters these words and parts too. -/
def hostFrame (words : List (Nat × Nat × Nat)) (parts : List Part) : Frame := ⟨words ++ shownWords, parts ++ [.published, .links]⟩

/-- A write that may clamp: the log of clamps, kept by the journal (R21, R79), beside these words and parts. -/
def clampFrame (words : List (Nat × Nat × Nat)) (parts : List Part) : Frame :=
  hostFrame (words ++ [(0x02, 0x03, 0x03), (0x02, 0x63, 0x63), (0x02, 0x80, 0xAF), (0x04, 0x78, 0x7F)]) (parts ++ [.flt, .journal])

/-- The frame lists the word at an address. -/
def Frame.lists (f : Frame) (a : Nat) : Bool :=
  f.words.any fun w => blockOf (a / 256) == w.1 && decide (w.2.1 ≤ a % 256) && decide (a % 256 ≤ w.2.2)

/-- `t` differs from `s` only in what the frame lists; no command touches the queue. -/
def State.sameBut (f : Frame) (s t : State) : Prop :=
  (∀ a, f.lists a = false → t.reg a = s.reg a) ∧ (∀ p : Part, p ∉ f.parts → p.same s t) ∧ t.pending = s.pending

/-- The link a host's command comes on. -/
def commandLink : Sys2Proof.Instr → Option Link
  | .startQualified _ => none
  | .mdieSettled _ => none
  | .mdieSettleTimeout _ => none
  | .holdupStoreCharged => none
  | .holdupTimeout => none
  | .enterRun _ => none
  | .supplyLow => none
  | .supplyLowClear => none
  | .pwrWarn => none
  | .pwrWarnClear => none
  | .pwrFail => none
  | .cdieReset => none
  | .vmOkChange _ => none
  | .hostReset l _ => some l
  | .layupEnter l _ _ => some l
  | .layupWake _ => none
  | .layupSupplyLost => none
  | .addrChange _ => none
  | .nop l _ => some l
  | .read l _ => some l
  | .write l _ => some l
  | .burstRead l _ => some l
  | .commit l _ => some l
  | .status l _ => some l
  | .unknownOp l _ _ _ => some l
  | .crcErrorFrame _ _ => none
  | .spiNotReady => none
  | .canRequestFrame _ _ => none
  | .canErrorPassive _ _ _ => none
  | .canBusOff _ => none
  | .canBusoffRecovery _ => none
  | .attnMessage _ => none
  | .attnMsgWindowEnd _ => none
  | .commitStep => none
  | .cfgDiscard l _ => some l
  | .pctlEn l _ _ => some l
  | .pctlRst l _ => some l
  | .iflagClear l _ _ => some l
  | .cfgUnlock l _ => some l
  | .unlockExpiry _ _ => none
  | .lockoutEnd _ => none
  | .cfgNewpw l _ => some l
  | .cfgDefault l _ => some l
  | .fwOpen l => some l
  | .fwData l _ => some l
  | .fwVerify l => some l
  | .fwVerifyDone _ _ => none
  | .fwActivate l => some l
  | .fwAbandon l => some l
  | .frameBoundary _ => none
  | .midFrameSample _ => none
  | .quietLead => none
  | .servoTick _ => none
  | .auxScan _ => none
  | .syncInEdge => none
  | .syncMiss => none
  | .timeLoRead l => some l
  | .epochLoWrite l _ => some l
  | .epochHiWrite l _ => some l
  | .xtalLost => none
  | .xtalRegained => none
  | .clockCheckWindow _ => none
  | .strobeRecal _ => none
  | .segmentDown _ => none
  | .segmentRetrain _ _ => none
  | .dieUnreachable _ => none
  | .dieRejoin _ => none
  | .dieSleep _ => none
  | .dieWake _ => none
  | .periodicSave => none
  | .firmwareEval => none
  | .sweepStart => none
  | .owRequest l _ _ => some l
  | .tapTestStart _ => none
  | .tapWindowEnd _ => none
  | .tapTestDecide _ => none
  | .gatedEval _ => none
  | .gatedTrip => none
  | .absoluteTrip _ _ _ => none
  | .comparatorSelfTest _ => none
  | .faultChannelLost _ _ => none
  | .tripCode _ _ => none
  | .carrierReturn _ => none
  | .flclr l _ => some l
  | .fastOcTrip _ => none
  | .ocSelfTest _ => none
  | .balanceOnTimeEnd _ _ => none
  | .switchStuck _ _ => none
  | .switchOvercurrent _ _ => none
  | .balanceOpenLoop _ _ => none
  | .blSwclr l _ _ => some l
  | .learnStart l _ => some l
  | .learnAbort l _ => some l
  | .currentSuspect => none
  | .currentAgreed => none
  | .curZero l => some l
  | .zeroAutoStart => none
  | .zeroingDone => none
  | .stvCalStr l => some l
  | .stvCalLnk l => some l
  | .stvCalClear l => some l
  | .stvCalDone => none
  | .sageStep => none
  | .writebackPeriod => none
  | .sgeCmdWriteback l => some l
  | .writebackStart => none
  | .writebackDone => none
  | .tableLoad l => some l
  | .tableActivate l => some l
  | .tbldataAccess l _ => some l
  | .sgcBankWrite l _ => some l
  | .sgcReset l _ => some l
  | .limZselWrite l _ => some l
  | .connect l => some l
  | .disconnect l => some l
  | .chargeOn l => some l
  | .chargeOff l => some l
  | .prtClear l => some l
  | .weldclr l _ => some l
  | .pullInEnd _ => none
  | .auxChange _ _ => none
  | .prechargeTimeout => none
  | .prechargeOverlapEnd => none
  | .matchTimeout => none
  | .prechargeCoolEnd => none
  | .coilOvercurrent _ => none
  | .coilCurrentFault _ => none
  | .auxCloseTimeout _ => none
  | .auxOpenTimeout _ => none
  | .cd1HoldEnd => none
  | .deadlineExpiry => none
  | .badChannelsOpen => none
  | .suspectTimeExpiry => none
  | .degradedCellExpiry _ _ => none
  | .cellTempExpiry _ _ => none
  | .limitFrame => none
  | .chargeOffTimeout => none
  | .shoreDetChange _ => none
  | .ringCycle => none
  | .ringStatusMsg _ => none
  | .memberLost _ => none
  | .grantTimeout => none
  | .systemFrame => none
  | .mirrorReceived _ _ _ _ _ => none
  | .mirrorHeaderReply _ => none
  | .adopt l => some l
  | .adoptFetchDone _ _ => none
  | .decline l => some l
  | .cancel l => some l
  | .installAnchor l => some l
  | .enrol l _ => some l
  | .authenticateAll l => some l
  | .autPoll _ => none
  | .slotAuthDone _ _ => none
  | .autKeydataWrite l _ => some l
  | .autSelWrite l _ => some l
  | .lockstepMismatch _ _ => none
  | .arbitration _ _ => none
  | .coreResume _ => none
  | .selfTestSlice _ _ => none
  | .watchdogExpiry => none
  | .degradedTimeExpiry => none
  | .degradedTimeSave => none
  | .leaseAcquire _ _ => none
  | .leaseRelease _ _ => none
  | .leaseExpiry _ => none
  | .mramRecoveryDone _ _ => none
  | .recordAccept => none
  | .flushPeriodic => none
  | .flushStart => none
  | .flushDone => none
  | .rateWindowClose => none
  | .rsmClear l _ => some l
  | .rsmSnapWrite l _ => some l
  | .snapshotExpiry _ => none
  | .rsmRdselWrite l _ => some l
  | .ledgerRecordWrite => none
  | .cylAck l _ => some l
  | .cylRdselWrite l _ => some l
  | .baySamplePair _ _ => none
  | .bayPairLost => none
  | .bayInterval => none
  | .bayCopyWrite => none
  | .bayAux3Change _ => none
  | .bayBreak _ => none
  | .baySet _ _ => none
  | .baySeal _ => none
  | .bayImgOpen _ => none
  | .bayImgData _ => none
  | .bayImgEnd _ _ _ => none
  | .bayMailboxReject _ => none
  | .bayLockoutEnd => none
  | .move l _ => some l
  | .home l _ => some l
  | .axisStop l _ => some l
  | .axisClear l _ => some l
  | .groupStart l _ => some l
  | .groupStop l _ => some l
  | .stopAll l => some l
  | .cycleStart _ => none
  | .cycleEnd _ => none
  | .homePoint _ => none
  | .homingTimeout _ => none
  | .stall _ => none
  | .obstacle _ => none
  | .edgeChange _ _ => none
  | .edgeGapTimeout _ => none
  | .limitSwitch _ => none
  | .setpointQueueEmpty _ => none
  | .standstillDelay _ => none
  | .gdieFrame _ _ _ => none
  | .gdieLinkLost => none
  | .sctest l _ => some l
  | .sctestDone _ _ => none
  | .recover l _ => some l
  | .gatePulse l _ _ => some l
  | .gatePulseEnd _ _ _ _ => none
  | .gdLiveRead l _ => some l
  | .qualification _ => none
  | .qualificationDone _ _ _ => none
  | .pwmPeriod _ _ => none
  | .shortCircuitTrip _ _ => none
  | .handshakeTimeout _ => none
  | .vmOutOfRange _ => none
  | .vggUndervoltage => none
  | .supplyRelease _ => none
  | .bootstrapUndervoltage _ _ => none
  | .refreshEpisode _ _ _ => none
  | .chopperOn => none
  | .chopperOff => none
  | .chopperLong => none
  | .lsOutWrite l _ _ => some l
  | .lsClr l _ _ => some l
  | .inrushEnd _ => none
  | .limitTime _ => none
  | .openLoadChange _ _ => none
  | .zoneHot _ _ _ => none
  | .zoneSecondCheck _ _ => none
  | .zoneCool _ => none
  | .zoneSensorFault _ => none
  | .shed => none
  | .lsRestart _ => none
  | .leftReload _ => none
  | .guardChange _ _ => none
  | .safestopTimeout _ => none
  | .brakeCurrentFault _ => none
  | .brakeSwitchPulse _ _ _ => none
  | .brakeTestStart _ => none
  | .brakeTestDone _ _ _ => none
  | .testBrk0 l => some l
  | .testBrk1 l => some l
  | .propEnPulse _ _ => none
  | .propEnReadback _ => none
  | .propEnLow => none
  | .safetySelfTestSlice _ => none
  | .safetyDegradedExpiry => none
  | .safetyPduReceived _ _ => none
  | .safetyPduSend => none
  | .safetyWatchdogExpiry => none
  | .safUnlock l _ => some l
  | .safNewpw l _ => some l
  | .thermalEval _ _ _ => none
  | .thermalPowerDown _ => none
  | .thermalPauseEnd _ => none
  | .diePowerCycle _ => none
  | .tmpCmd l _ => some l
  | .eccCorrected _ => none
  | .sramDoubleBitError => none
  | .brakeEngagedReadback _ => none
  | .canErrorActive _ _ _ => none

/-- The frame of a command; of a host's command, on a link that takes it. `none`: what the command alters depends on the words it names, and its own
statement says it. -/
def frameOf : Sys2Proof.Instr → Option Frame
  | .startQualified _ => none
  | .mdieSettled _ => some ⟨[(0x00, 0x09, 0x09), (0x03, 0x07, 0x07), (0x03, 0x62, 0x62), (0x06, 0x07, 0x07), (0x06, 0x64, 0x64),
      (0x06, 0x67, 0x67), (0x07, 0x07, 0x07), (0x07, 0x61, 0x61)], [.now, .published, .pwr, .links, .thy, .stk, .dieSt]⟩
  | .mdieSettleTimeout _ => some ⟨[(0x03, 0x07, 0x07), (0x03, 0x62, 0x62), (0x06, 0x07, 0x07), (0x06, 0x64, 0x64), (0x06, 0x67,
      0x67)], [.now, .published, .pwr, .links, .thy, .tmp]⟩
  | .holdupStoreCharged => some ⟨[(0x06, 0x03, 0x03), (0x06, 0x07, 0x07), (0x06, 0x60, 0x60)], [.published, .links, .rsm]⟩
  | .holdupTimeout => some ⟨[(0x03, 0x07, 0x07), (0x03, 0x62, 0x62), (0x06, 0x03, 0x03), (0x06, 0x07, 0x07), (0x06, 0x60, 0x60),
      (0x06, 0x64, 0x64)], [.now, .published, .links, .thy, .rsm]⟩
  | .enterRun _ => some ⟨[(0x00, 0x09, 0x09), (0x00, 0x0D, 0x0F), (0x02, 0x07, 0x07), (0x02, 0x64, 0x64), (0x03, 0x03, 0x03),
      (0x03, 0x07, 0x07), (0x03, 0x62, 0x63), (0x04, 0x07, 0x07), (0x04, 0x70, 0x7F), (0x06, 0x03, 0x03), (0x06, 0x07, 0x07),
      (0x06, 0x60, 0x62), (0x06, 0x64, 0x64), (0x06, 0x67, 0x67), (0x07, 0x03, 0x03), (0x07, 0x07, 0x07), (0x07, 0x61, 0x62),
      (0x08, 0x01, 0x01), (0x0A, 0x03, 0x03), (0x0A, 0x07, 0x07), (0x0A, 0x60, 0x64), (0x0A, 0x6A, 0x6B), (0x0A, 0x6D, 0x73),
      (0x0A, 0x75, 0x75), (0x0C, 0x03, 0x03), (0x0C, 0x66, 0x68), (0x0C, 0x6A, 0x6A), (0x0F, 0x07, 0x07), (0x0F, 0x60, 0x60),
      (0x0F, 0x68, 0x6F), (0x10, 0x01, 0x01), (0x10, 0x03, 0x03), (0x10, 0x07, 0x07), (0x10, 0x60, 0x69), (0x11, 0x01, 0x01),
      (0x11, 0x03, 0x03), (0x11, 0xA0, 0xA0), (0x11, 0xA2, 0xA2), (0x12, 0x03, 0x03), (0x12, 0x07, 0x07), (0x12, 0x60, 0x60),
      (0x18, 0x01, 0x01), (0x18, 0x03, 0x03), (0x18, 0x07, 0x07), (0x18, 0x60, 0x60), (0x18, 0x63, 0x65), (0x19, 0x03, 0x03),
      (0x19, 0x07, 0x07), (0x19, 0x60, 0x60), (0x28, 0x01, 0x01), (0x28, 0x03, 0x03), (0x28, 0x60, 0x66), (0x28, 0x68, 0x89),
      (0x40, 0x03, 0x03), (0x40, 0x07, 0x07), (0x40, 0x60, 0x60), (0x41, 0x03, 0x03), (0x41, 0x07, 0x07), (0x41, 0x60, 0x60),
      (0x41, 0x62, 0x63), (0x48, 0x07, 0x07), (0x48, 0x60, 0x60), (0x49, 0x07, 0x07), (0x49, 0x63, 0x63), (0x50, 0x01, 0x01),
      (0x50, 0x03, 0x03), (0x51, 0x01, 0x01), (0x51, 0x03, 0x03)], [.now, .published, .pwr, .pins, .links, .fw, .thy, .stk, .rsm,
      .flt, .dieSt, .line, .cur, .bay, .mot, .saf, .prot, .ls, .sage, .ring, .aut, .journal]⟩
  | .supplyLow => some ⟨[(0x06, 0x03, 0x03), (0x06, 0x07, 0x07), (0x06, 0x60, 0x60)], [.published, .links, .rsm]⟩
  | .supplyLowClear => some ⟨[(0x06, 0x07, 0x07), (0x06, 0x60, 0x60)], [.published, .links]⟩
  | .pwrWarn => some ⟨[(0x06, 0x03, 0x03), (0x06, 0x07, 0x07), (0x06, 0x60, 0x60), (0x06, 0x66, 0x66), (0x0C, 0x6A, 0x6A), (0x18,
      0x03, 0x03), (0x18, 0x07, 0x07), (0x18, 0x63, 0x64)], [.published, .links, .rsm, .bay, .mot, .saf]⟩
  | .pwrWarnClear => some ⟨[(0x06, 0x03, 0x03), (0x06, 0x07, 0x07), (0x06, 0x60, 0x60)], [.published, .pwr, .links]⟩
  | .pwrFail => some ⟨[(0x04, 0x07, 0x07), (0x04, 0x70, 0x7F), (0x06, 0x07, 0x07), (0x06, 0x66, 0x67), (0x0C, 0x01, 0x01), (0x0C,
      0x03, 0x03), (0x0C, 0x6A, 0x6A), (0x10, 0x01, 0x01), (0x10, 0x03, 0x03), (0x10, 0x07, 0x07), (0x10, 0x60, 0x69), (0x11,
      0x01, 0x01), (0x11, 0x03, 0x03), (0x11, 0xA0, 0xA1), (0x12, 0x03, 0x03), (0x12, 0x07, 0x07), (0x12, 0x60, 0x60), (0x14,
      0x01, 0x01), (0x14, 0x03, 0x03), (0x14, 0x07, 0x07), (0x14, 0x60, 0x64), (0x14, 0x67, 0x67), (0x15, 0x03, 0x03), (0x15,
      0x07, 0x07), (0x15, 0x60, 0x60), (0x15, 0x62, 0x64), (0x15, 0x68, 0x6D), (0x18, 0x01, 0x01), (0x18, 0x03, 0x03), (0x18,
      0x07, 0x07), (0x18, 0x60, 0x60), (0x18, 0x63, 0x64), (0x40, 0x03, 0x03), (0x40, 0x07, 0x07), (0x40, 0x60, 0x60), (0x41,
      0x03, 0x03), (0x41, 0x07, 0x07), (0x41, 0x60, 0x60), (0x41, 0x62, 0x63), (0x48, 0x07, 0x07), (0x48, 0x60, 0x61), (0x49,
      0x07, 0x07), (0x49, 0x60, 0x60), (0x50, 0x01, 0x01), (0x51, 0x01, 0x01), (0x51, 0xE0, 0xE0)], [.published, .pwr, .pins,
      .links, .rsm, .cyl, .flt, .line, .bay, .mot, .gate, .saf, .prot, .ls, .sage, .ring, .journal]⟩
  | .cdieReset => some ⟨[], [.pwr]⟩
  | .vmOkChange _ => some ⟨[(0x06, 0x03, 0x03), (0x06, 0x07, 0x07), (0x06, 0x60, 0x60), (0x18, 0x03, 0x03), (0x18, 0x07, 0x07),
      (0x18, 0x63, 0x64), (0x40, 0x07, 0x07), (0x40, 0x60, 0x60), (0x41, 0x03, 0x03), (0x41, 0x07, 0x07), (0x41, 0x60, 0x60),
      (0x41, 0x62, 0x63), (0x48, 0x07, 0x07), (0x48, 0x60, 0x60), (0x49, 0x07, 0x07), (0x49, 0x60, 0x60)], [.published, .links,
      .rsm, .mot, .gate, .saf]⟩
  | .hostReset _ _ => some (clampFrame [(0x06, 0x06, 0x07), (0x06, 0x67, 0x67), (0x0C, 0x01, 0x01), (0x0C, 0x03, 0x03), (0x0C,
      0x6A, 0x6A), (0x10, 0x01, 0x01), (0x10, 0x03, 0x03), (0x10, 0x60, 0x61), (0x10, 0x63, 0x69), (0x11, 0x01, 0x01), (0x11,
      0x03, 0x03), (0x11, 0xA0, 0xA1), (0x12, 0x03, 0x03), (0x12, 0x07, 0x07), (0x12, 0x60, 0x60), (0x14, 0x01, 0x01), (0x14,
      0x03, 0x03), (0x14, 0x07, 0x07), (0x14, 0x60, 0x64), (0x14, 0x67, 0x67), (0x15, 0x03, 0x03), (0x15, 0x07, 0x07), (0x15,
      0x60, 0x60), (0x15, 0x62, 0x64), (0x15, 0x68, 0x6D), (0x18, 0x01, 0x01), (0x18, 0x03, 0x03), (0x18, 0x60, 0x60), (0x40,
      0x03, 0x03), (0x40, 0x07, 0x07), (0x40, 0x60, 0x60), (0x41, 0x03, 0x03), (0x41, 0x07, 0x07), (0x41, 0x60, 0x60), (0x41,
      0x62, 0x63), (0x48, 0x07, 0x07), (0x48, 0x60, 0x61), (0x49, 0x07, 0x07), (0x49, 0x60, 0x60), (0x50, 0x01, 0x01), (0x51,
      0x01, 0x01), (0x51, 0xE0, 0xE0)] [.pwr, .pins, .rsm, .cyl, .line, .mot, .gate, .saf, .prot, .ls, .sage, .ring])
  | .layupEnter _ _ _ => none
  | .layupWake _ => some ⟨[], [.pwr]⟩
  | .layupSupplyLost => some ⟨[], [.pwr]⟩
  | .addrChange _ => some ⟨[], [.pins, .rsm]⟩
  | .nop _ _ => some (hostFrame [] [])
  | .read _ r => some (hostFrame [(blockOf r.page.toNat, r.word.toNat, r.word.toNat), (0x0C, 0xE0, 0xE0)] [])
  | .write _ _ => none
  | .burstRead _ _ => none
  | .commit _ _ => none
  | .status _ _ => some (hostFrame [] [])
  | .unknownOp _ _ _ _ => some (hostFrame [] [])
  | .crcErrorFrame _ _ => none
  | .spiNotReady => some ⟨[(0x01, 0x03, 0x03), (0x01, 0x07, 0x07), (0x01, 0x64, 0x64)], [.published, .links]⟩
  | .canRequestFrame _ _ => none
  | .canErrorPassive _ _ _ => some ⟨[(0x01, 0x03, 0x03), (0x01, 0x07, 0x07), (0x01, 0x65, 0x66)], [.published, .links, .rsm]⟩
  | .canBusOff _ => some ⟨[(0x01, 0x03, 0x03), (0x01, 0x07, 0x07), (0x01, 0x65, 0x66)], [.published, .links]⟩
  | .canBusoffRecovery _ => some ⟨[(0x01, 0x07, 0x07), (0x01, 0x65, 0x66)], [.published, .links]⟩
  | .attnMessage _ => some ⟨[], [.links]⟩
  | .attnMsgWindowEnd _ => some ⟨[], [.now, .links]⟩
  | .commitStep => none
  | .cfgDiscard _ _ => some (clampFrame [(0x02, 0x06, 0x06)] [.shadow, .commit])
  | .pctlEn _ _ _ => none
  | .pctlRst _ _ => none
  | .iflagClear _ page _ => some (clampFrame [(blockOf page.toNat, 0x03, 0x03), (blockOf page.toNat, 0x06, 0x06)] [])
  | .cfgUnlock _ _ => some (clampFrame [(0x02, 0x06, 0x06), (0x18, 0x03, 0x03), (0x18, 0x68, 0x68)] [.pw, .spw, .saf])
  | .unlockExpiry _ _ => some ⟨[], [.now, .links]⟩
  | .lockoutEnd _ => some ⟨[], [.now, .pw, .spw]⟩
  | .cfgNewpw _ _ => some (clampFrame [(0x02, 0x06, 0x06), (0x18, 0x68, 0x68)] [.pw, .spw, .saf])
  | .cfgDefault _ _ => some (clampFrame [(0x02, 0x06, 0x06)] [.shadow, .commit])
  | .fwOpen _ => some (hostFrame [(0x00, 0x0E, 0x0F), (0x02, 0x64, 0x64), (0x02, 0xE1, 0xE1)] [.fw])
  | .fwData _ _ => some (clampFrame [(0x02, 0x06, 0x06), (0x02, 0x64, 0x64), (0x02, 0xE1, 0xE1)] [.fw])
  | .fwVerify _ => some (hostFrame [(0x02, 0x64, 0x64)] [])
  | .fwVerifyDone _ _ => some ⟨[(0x00, 0x0E, 0x0F), (0x02, 0x03, 0x03), (0x02, 0x07, 0x07), (0x02, 0x64, 0x64)], [.published,
      .links, .fw]⟩
  | .fwActivate _ => some (hostFrame [(0x00, 0x0E, 0x0F), (0x02, 0x64, 0x64), (0x04, 0x78, 0x7F), (0x06, 0x07, 0x07), (0x06, 0x64,
      0x64)] [.fw, .flt, .journal])
  | .fwAbandon _ => some (hostFrame [(0x00, 0x0E, 0x0F), (0x02, 0x64, 0x64)] [.fw])
  | .frameBoundary _ => some ⟨[(0x00, 0x09, 0x09), (0x00, 0x0D, 0x0F), (0x01, 0x07, 0x07), (0x01, 0x60, 0x63), (0x02, 0x07, 0x07),
      (0x02, 0x62, 0x62), (0x02, 0x64, 0x64), (0x03, 0x03, 0x03), (0x03, 0x07, 0x07), (0x03, 0x60, 0x60), (0x03, 0x62, 0x63),
      (0x04, 0x07, 0x07), (0x04, 0x61, 0x61), (0x04, 0x70, 0x7F), (0x05, 0x07, 0x07), (0x05, 0x67, 0x67), (0x06, 0x03, 0x03),
      (0x06, 0x07, 0x07), (0x06, 0x60, 0x62), (0x06, 0x64, 0x64), (0x06, 0x67, 0x67), (0x07, 0x03, 0x03), (0x07, 0x07, 0x07),
      (0x07, 0x61, 0x62), (0x07, 0x68, 0x6F), (0x08, 0x01, 0x01), (0x08, 0x03, 0x03), (0x08, 0x07, 0x07), (0x08, 0x60, 0x68),
      (0x09, 0x03, 0x03), (0x09, 0x07, 0x07), (0x09, 0x60, 0x65), (0x0A, 0x03, 0x03), (0x0A, 0x07, 0x07), (0x0A, 0x60, 0x64),
      (0x0A, 0x6A, 0x6B), (0x0A, 0x6D, 0x73), (0x0A, 0x75, 0x76), (0x0C, 0x03, 0x03), (0x0C, 0x66, 0x68), (0x0C, 0x6A, 0x6A),
      (0x0F, 0x07, 0x07), (0x0F, 0x60, 0x60), (0x0F, 0x68, 0x6F), (0x10, 0x07, 0x07), (0x10, 0x60, 0x60), (0x10, 0x62, 0x62),
      (0x10, 0x66, 0x69), (0x11, 0x01, 0x01), (0x11, 0x03, 0x03), (0x11, 0x07, 0x07), (0x11, 0xA2, 0xA2), (0x11, 0xA8, 0xB7),
      (0x12, 0x07, 0x07), (0x12, 0x60, 0x60), (0x18, 0x07, 0x07), (0x18, 0x60, 0x61), (0x18, 0x63, 0x66), (0x19, 0x07, 0x07),
      (0x19, 0x63, 0x63), (0x20, 0x01, 0x01), (0x20, 0x03, 0x03), (0x20, 0x07, 0x07), (0x20, 0x60, 0xB9), (0x20, 0xC0, 0xDF),
      (0x28, 0x01, 0x01), (0x28, 0x03, 0x03), (0x28, 0x07, 0x07), (0x28, 0x60, 0x66), (0x28, 0x68, 0x89), (0x28, 0x90, 0xCF),
      (0x48, 0x07, 0x07), (0x48, 0x60, 0x60), (0x49, 0x07, 0x07), (0x49, 0x63, 0x63), (0x50, 0x01, 0x01), (0x50, 0x07, 0x07),
      (0x50, 0x60, 0x65), (0x51, 0x01, 0x01), (0x51, 0x03, 0x03), (0x51, 0x07, 0x07), (0x51, 0x60, 0x67)], [.now, .published,
      .pwr, .links, .fw, .thy, .stk, .rsm, .flt, .dieSt, .line, .cur, .bay, .saf, .prot, .ls, .sage, .ring, .aut, .journal]⟩
  | .midFrameSample _ => some ⟨[], [.now, .dieSt]⟩
  | .quietLead => some ⟨[], [.now, .dieSt]⟩
  | .servoTick _ => some ⟨[(0x10, 0x07, 0x07), (0x10, 0x60, 0x60), (0x10, 0x66, 0x69), (0x18, 0x01, 0x01), (0x18, 0x03, 0x03),
      (0x18, 0x07, 0x07), (0x18, 0x60, 0x60), (0x18, 0x63, 0x64), (0x40, 0x03, 0x03), (0x40, 0x07, 0x07), (0x40, 0x60, 0x60),
      (0x41, 0x03, 0x03), (0x41, 0x07, 0x07), (0x41, 0x60, 0x65)], [.now, .published, .pins, .links, .rsm, .flt, .mot, .gate,
      .saf, .prot]⟩
  | .auxScan _ => some ⟨[], [.now, .thy, .dieSt]⟩
  | .syncInEdge => some ⟨[(0x03, 0x03, 0x03), (0x03, 0x07, 0x07), (0x03, 0x64, 0x64)], [.published, .links, .thy]⟩
  | .syncMiss => some ⟨[(0x03, 0x03, 0x03), (0x03, 0x07, 0x07), (0x03, 0x64, 0x64)], [.now, .published, .links, .thy]⟩
  | .timeLoRead _ => some (hostFrame [] [])
  | .epochLoWrite _ _ => some (clampFrame [(0x03, 0x06, 0x06)] [])
  | .epochHiWrite _ _ => some (clampFrame [(0x03, 0x06, 0x06), (0x03, 0xE0, 0xE1)] [.rsm])
  | .xtalLost => some ⟨[(0x03, 0x03, 0x03), (0x03, 0x07, 0x07), (0x03, 0x63, 0x63)], [.published, .links, .rsm]⟩
  | .xtalRegained => some ⟨[(0x03, 0x03, 0x03), (0x03, 0x07, 0x07), (0x03, 0x63, 0x63)], [.published, .links]⟩
  | .clockCheckWindow _ => some ⟨[(0x0A, 0x03, 0x03), (0x0A, 0x07, 0x07), (0x0A, 0x60, 0x60), (0x0A, 0x74, 0x74)], [.published,
      .links, .rsm, .bay]⟩
  | .strobeRecal _ => some ⟨[], [.stk]⟩
  | .segmentDown _ => some ⟨[(0x07, 0x03, 0x03), (0x07, 0x07, 0x07), (0x07, 0x60, 0x61), (0x07, 0x70, 0x78)], [.published, .links,
      .stk, .rsm]⟩
  | .segmentRetrain _ _ => some ⟨[(0x07, 0x03, 0x03), (0x07, 0x07, 0x07), (0x07, 0x60, 0x61)], [.published, .links, .stk]⟩
  | .dieUnreachable _ => some ⟨[(0x00, 0x09, 0x09), (0x04, 0x03, 0x03), (0x04, 0x07, 0x07), (0x04, 0x63, 0x63), (0x04, 0x70,
      0x7F), (0x07, 0x03, 0x03)], [.now, .published, .links, .stk, .flt, .ring, .aut]⟩
  | .dieRejoin _ => some ⟨[], [.stk]⟩
  | .dieSleep _ => some ⟨[(0x07, 0x07, 0x07), (0x07, 0x61, 0x61)], [.now, .published, .links, .dieSt, .bay, .aut]⟩
  | .dieWake _ => some ⟨[], [.pwr]⟩
  | .periodicSave => some ⟨[(0x04, 0x07, 0x07), (0x04, 0x70, 0x7F)], [.now, .published, .links, .flt, .saved, .journal]⟩
  | .firmwareEval => some ⟨[(0x04, 0x07, 0x07), (0x04, 0x70, 0x7F), (0x08, 0x03, 0x03), (0x08, 0x07, 0x07), (0x08, 0x60, 0x68),
      (0x09, 0x03, 0x03), (0x09, 0x07, 0x07), (0x09, 0x60, 0x65), (0x0F, 0x07, 0x07), (0x0F, 0x60, 0x60), (0x0F, 0x68, 0x6F),
      (0x10, 0x01, 0x01), (0x10, 0x03, 0x03), (0x10, 0x07, 0x07), (0x10, 0x60, 0x6A), (0x11, 0x01, 0x01), (0x11, 0x03, 0x03),
      (0x11, 0xA2, 0xA2), (0x11, 0xA8, 0xB7), (0x12, 0x03, 0x03), (0x12, 0x07, 0x07), (0x12, 0x60, 0x60), (0x18, 0x01, 0x01),
      (0x18, 0x03, 0x03), (0x18, 0x07, 0x07), (0x18, 0x60, 0x60), (0x18, 0x63, 0x64), (0x20, 0x01, 0x01), (0x20, 0x03, 0x03),
      (0x20, 0x07, 0x07), (0x20, 0x60, 0xB9), (0x20, 0xC0, 0xDF), (0x28, 0x07, 0x07), (0x28, 0x60, 0x66), (0x28, 0x90, 0xCF),
      (0x40, 0x07, 0x07), (0x40, 0x60, 0x60), (0x41, 0x03, 0x03), (0x41, 0x07, 0x07), (0x41, 0x60, 0x60), (0x41, 0x62, 0x63)],
      [.published, .pins, .links, .rsm, .flt, .dieSt, .cur, .mot, .saf, .prot, .sage, .aut, .journal]⟩
  | .sweepStart => some ⟨[], [.now, .dieSt, .line]⟩
  | .owRequest _ _ _ => some (clampFrame [(0x11, 0x01, 0x01), (0x11, 0x06, 0x06), (0x11, 0xA2, 0xA2)] [.dieSt])
  | .tapTestStart _ => some ⟨[(0x11, 0x01, 0x01), (0x11, 0xA2, 0xA2)], [.dieSt]⟩
  | .tapWindowEnd _ => some ⟨[], [.dieSt]⟩
  | .tapTestDecide _ => some ⟨[(0x0F, 0x07, 0x07), (0x0F, 0x60, 0x60), (0x0F, 0x68, 0x6F), (0x11, 0x01, 0x01), (0x11, 0x03, 0x03),
      (0x11, 0xA2, 0xA2), (0x11, 0xA8, 0xB8)], [.published, .links, .rsm, .dieSt, .line, .aut]⟩
  | .gatedEval _ => some ⟨[(0x11, 0x60, 0x7F)], [.now, .dieSt]⟩
  | .gatedTrip => some ⟨[(0x10, 0x01, 0x01), (0x10, 0x03, 0x03), (0x10, 0x07, 0x07), (0x10, 0x60, 0x69), (0x11, 0x01, 0x01),
      (0x11, 0x03, 0x03), (0x11, 0x60, 0x7F), (0x11, 0xA0, 0xA1), (0x12, 0x03, 0x03), (0x12, 0x07, 0x07), (0x12, 0x60, 0x60)],
      [.published, .pins, .links, .rsm, .dieSt, .line, .prot]⟩
  | .absoluteTrip _ _ _ => some ⟨[(0x10, 0x01, 0x01), (0x10, 0x03, 0x03), (0x10, 0x07, 0x07), (0x10, 0x60, 0x69), (0x11, 0x01,
      0x01), (0x11, 0x03, 0x03), (0x11, 0x80, 0xA1), (0x12, 0x03, 0x03), (0x12, 0x07, 0x07), (0x12, 0x60, 0x60)], [.published,
      .pins, .links, .rsm, .dieSt, .line, .prot]⟩
  | .comparatorSelfTest _ => some ⟨[(0x11, 0x03, 0x03), (0x11, 0xA3, 0xA3)], [.now, .rsm, .dieSt]⟩
  | .faultChannelLost _ _ => some ⟨[(0x10, 0x01, 0x01), (0x10, 0x03, 0x03), (0x10, 0x07, 0x07), (0x10, 0x60, 0x69), (0x11, 0x01,
      0x01), (0x11, 0x03, 0x03), (0x11, 0xA0, 0xA1), (0x12, 0x03, 0x03), (0x12, 0x07, 0x07), (0x12, 0x60, 0x60)], [.now,
      .published, .pins, .links, .rsm, .line, .prot]⟩
  | .tripCode _ _ => some ⟨[(0x10, 0x01, 0x01), (0x10, 0x03, 0x03), (0x10, 0x07, 0x07), (0x10, 0x60, 0x69), (0x11, 0x01, 0x01),
      (0x11, 0x03, 0x03), (0x11, 0xA0, 0xA1), (0x12, 0x03, 0x03), (0x12, 0x07, 0x07), (0x12, 0x60, 0x60)], [.published, .pins,
      .links, .rsm, .dieSt, .line, .prot]⟩
  | .carrierReturn _ => some ⟨[(0x11, 0xA0, 0xA1)], [.dieSt, .line]⟩
  | .flclr _ _ => some (clampFrame [(0x10, 0x01, 0x01), (0x10, 0x03, 0x03), (0x10, 0x60, 0x61), (0x10, 0x63, 0x63), (0x10, 0x66,
      0x69), (0x11, 0x01, 0x01), (0x11, 0x03, 0x03), (0x11, 0x06, 0x06), (0x11, 0xA0, 0xA0)] [.pins, .prot])
  | .fastOcTrip _ => some ⟨[(0x08, 0x01, 0x01), (0x08, 0x03, 0x03), (0x10, 0x01, 0x01), (0x10, 0x03, 0x03), (0x10, 0x07, 0x07),
      (0x10, 0x60, 0x69), (0x11, 0x01, 0x01), (0x11, 0x03, 0x03), (0x11, 0xA0, 0xA1), (0x12, 0x03, 0x03), (0x12, 0x07, 0x07),
      (0x12, 0x60, 0x60)], [.published, .pins, .links, .rsm, .dieSt, .line, .cur, .prot]⟩
  | .ocSelfTest _ => some ⟨[(0x08, 0x03, 0x03)], [.rsm, .cur]⟩
  | .balanceOnTimeEnd _ _ => some ⟨[], [.now, .dieSt]⟩
  | .switchStuck _ _ => some ⟨[(0x28, 0x01, 0x01), (0x28, 0x03, 0x03)], [.rsm, .dieSt]⟩
  | .switchOvercurrent _ _ => some ⟨[(0x28, 0x01, 0x01), (0x28, 0x03, 0x03)], [.rsm, .dieSt]⟩
  | .balanceOpenLoop _ _ => some ⟨[(0x28, 0x01, 0x01), (0x28, 0x03, 0x03)], [.rsm, .dieSt]⟩
  | .blSwclr _ _ _ => some (clampFrame [(0x28, 0x01, 0x01), (0x28, 0x06, 0x06)] [.dieSt])
  | .learnStart _ _ => some (hostFrame [(0x28, 0x01, 0x01)] [.dieSt])
  | .learnAbort _ _ => some (hostFrame [(0x28, 0x01, 0x01)] [.dieSt])
  | .currentSuspect => some ⟨[(0x08, 0x01, 0x01), (0x08, 0x03, 0x03)], [.rsm, .cur]⟩
  | .currentAgreed => some ⟨[(0x08, 0x01, 0x01), (0x08, 0x03, 0x03)], [.rsm, .cur]⟩
  | .curZero _ => some (hostFrame [(0x08, 0x01, 0x01)] [.cur])
  | .zeroAutoStart => some ⟨[(0x08, 0x01, 0x01)], [.now, .cur]⟩
  | .zeroingDone => some ⟨[(0x04, 0x07, 0x07), (0x04, 0x70, 0x7F), (0x08, 0x01, 0x01), (0x08, 0x03, 0x03)], [.published, .links,
      .rsm, .flt, .cur, .saved, .journal]⟩
  | .stvCalStr _ => some (hostFrame [] [.cur])
  | .stvCalLnk _ => some (hostFrame [] [.cur])
  | .stvCalClear _ => some (hostFrame [(0x04, 0x78, 0x7F), (0x09, 0x03, 0x03), (0x12, 0x07, 0x07), (0x12, 0x60, 0x60)] [.flt,
      .cur, .ring, .saved, .journal])
  | .stvCalDone => some ⟨[(0x04, 0x07, 0x07), (0x04, 0x70, 0x7F), (0x09, 0x03, 0x03), (0x12, 0x07, 0x07), (0x12, 0x60, 0x60)],
      [.published, .links, .flt, .cur, .ring, .saved, .journal]⟩
  | .sageStep => some ⟨[(0x0C, 0x01, 0x01), (0x0C, 0x03, 0x03), (0x0C, 0x07, 0x07), (0x0C, 0x60, 0x6C), (0x0D, 0x07, 0x07), (0x0E,
      0x01, 0x01), (0x0E, 0x03, 0x03), (0x0E, 0x07, 0x07), (0x0E, 0x60, 0x68)], [.published, .links, .rsm, .sage]⟩
  | .writebackPeriod => some ⟨[(0x0C, 0x6A, 0x6A)], [.now, .sage]⟩
  | .sgeCmdWriteback _ => some (hostFrame [(0x0C, 0x6A, 0x6A)] [.sage])
  | .writebackStart => some ⟨[(0x04, 0x07, 0x07), (0x04, 0x70, 0x7F), (0x0C, 0x01, 0x01), (0x0C, 0x6A, 0x6A)], [.now, .published,
      .links, .flt, .sage]⟩
  | .writebackDone => some ⟨[(0x04, 0x07, 0x07), (0x04, 0x70, 0x7F), (0x0C, 0x01, 0x01), (0x0C, 0x03, 0x03), (0x0C, 0x6A, 0x6A),
      (0x12, 0x07, 0x07), (0x12, 0x60, 0x60), (0x12, 0x66, 0x66)], [.published, .links, .fw, .cyl, .flt, .sage, .ring, .journal]⟩
  | .tableLoad _ => some (hostFrame [] [.sage])
  | .tableActivate _ => some (hostFrame [(0x04, 0x78, 0x7F), (0x0C, 0x03, 0x03)] [.flt, .sage, .journal])
  | .tbldataAccess _ _ => none
  | .sgcBankWrite _ _ => some (clampFrame [(0x0D, 0x06, 0x06)] [])
  | .sgcReset _ _ => some (clampFrame [(0x0D, 0x06, 0x06)] [.sage])
  | .limZselWrite _ _ => some (clampFrame [(0x0E, 0x06, 0x06)] [])
  | .connect _ => some (hostFrame [(0x10, 0x01, 0x01), (0x10, 0x60, 0x60), (0x10, 0x66, 0x69), (0x12, 0x07, 0x07), (0x12, 0x60,
      0x60)] [.prot])
  | .disconnect _ => some (hostFrame [(0x10, 0x01, 0x01), (0x10, 0x03, 0x03), (0x10, 0x60, 0x61), (0x10, 0x63, 0x69), (0x12, 0x03,
      0x03), (0x12, 0x07, 0x07), (0x12, 0x60, 0x60)] [.rsm, .prot])
  | .chargeOn _ => some (hostFrame [(0x10, 0x60, 0x60), (0x10, 0x66, 0x69), (0x18, 0x01, 0x01), (0x18, 0x03, 0x03), (0x18, 0x60,
      0x60), (0x40, 0x07, 0x07), (0x40, 0x60, 0x60), (0x41, 0x03, 0x03), (0x41, 0x07, 0x07), (0x41, 0x60, 0x60), (0x41, 0x62,
      0x63)] [.pins, .rsm, .mot, .saf, .prot])
  | .chargeOff _ => some (hostFrame [(0x10, 0x63, 0x63)] [.prot])
  | .prtClear _ => some (hostFrame [(0x10, 0x60, 0x61)] [.prot])
  | .weldclr _ _ => some (clampFrame [(0x10, 0x01, 0x01), (0x10, 0x06, 0x06), (0x10, 0x60, 0x61), (0x10, 0x63, 0x63)] [.prot])
  | .pullInEnd _ => some ⟨[], [.now, .prot]⟩
  | .auxChange _ _ => some ⟨[(0x04, 0x07, 0x07), (0x04, 0x70, 0x7F), (0x10, 0x01, 0x01), (0x10, 0x03, 0x03), (0x10, 0x07, 0x07),
      (0x10, 0x60, 0x6A), (0x12, 0x07, 0x07), (0x12, 0x60, 0x60), (0x18, 0x01, 0x01), (0x18, 0x03, 0x03), (0x18, 0x07, 0x07),
      (0x18, 0x60, 0x60), (0x18, 0x63, 0x64), (0x40, 0x07, 0x07), (0x40, 0x60, 0x60), (0x41, 0x03, 0x03), (0x41, 0x07, 0x07),
      (0x41, 0x60, 0x60), (0x41, 0x62, 0x63)], [.published, .pins, .links, .rsm, .flt, .mot, .saf, .prot, .journal]⟩
  | .prechargeTimeout => some ⟨[(0x10, 0x01, 0x01), (0x10, 0x03, 0x03), (0x10, 0x07, 0x07), (0x10, 0x60, 0x69), (0x12, 0x07,
      0x07), (0x12, 0x60, 0x60)], [.now, .published, .links, .rsm, .prot]⟩
  | .prechargeOverlapEnd => some ⟨[(0x04, 0x07, 0x07), (0x04, 0x70, 0x7F), (0x10, 0x01, 0x01), (0x10, 0x03, 0x03), (0x10, 0x07,
      0x07), (0x10, 0x60, 0x60), (0x10, 0x63, 0x63), (0x10, 0x66, 0x6A), (0x12, 0x07, 0x07), (0x12, 0x60, 0x60)], [.now,
      .published, .links, .flt, .prot, .journal]⟩
  | .matchTimeout => some ⟨[(0x10, 0x01, 0x01), (0x10, 0x03, 0x03), (0x10, 0x07, 0x07), (0x10, 0x60, 0x69), (0x12, 0x07, 0x07),
      (0x12, 0x60, 0x60)], [.now, .published, .links, .rsm, .prot]⟩
  | .prechargeCoolEnd => some ⟨[(0x10, 0x07, 0x07), (0x10, 0x60, 0x60)], [.now, .published, .links, .prot]⟩
  | .coilOvercurrent _ => some ⟨[(0x10, 0x01, 0x01), (0x10, 0x03, 0x03), (0x10, 0x07, 0x07), (0x10, 0x60, 0x69), (0x12, 0x07,
      0x07), (0x12, 0x60, 0x60), (0x18, 0x01, 0x01), (0x18, 0x03, 0x03), (0x18, 0x07, 0x07), (0x18, 0x60, 0x60), (0x18, 0x63,
      0x64), (0x40, 0x07, 0x07), (0x40, 0x60, 0x60), (0x41, 0x03, 0x03), (0x41, 0x07, 0x07), (0x41, 0x60, 0x60), (0x41, 0x62,
      0x63)], [.published, .pins, .links, .rsm, .mot, .saf, .prot]⟩
  | .coilCurrentFault _ => some ⟨[(0x10, 0x01, 0x01), (0x10, 0x03, 0x03), (0x10, 0x07, 0x07), (0x10, 0x60, 0x69), (0x12, 0x07,
      0x07), (0x12, 0x60, 0x60), (0x18, 0x01, 0x01), (0x18, 0x03, 0x03), (0x18, 0x07, 0x07), (0x18, 0x60, 0x60), (0x18, 0x63,
      0x64), (0x40, 0x07, 0x07), (0x40, 0x60, 0x60), (0x41, 0x03, 0x03), (0x41, 0x07, 0x07), (0x41, 0x60, 0x60), (0x41, 0x62,
      0x63)], [.published, .pins, .links, .rsm, .mot, .saf, .prot]⟩
  | .auxCloseTimeout _ => some ⟨[(0x04, 0x07, 0x07), (0x04, 0x70, 0x7F), (0x10, 0x01, 0x01), (0x10, 0x03, 0x03), (0x10, 0x07,
      0x07), (0x10, 0x60, 0x6A), (0x12, 0x07, 0x07), (0x12, 0x60, 0x60), (0x18, 0x01, 0x01), (0x18, 0x03, 0x03), (0x18, 0x07,
      0x07), (0x18, 0x60, 0x60), (0x18, 0x63, 0x64), (0x40, 0x07, 0x07), (0x40, 0x60, 0x60), (0x41, 0x03, 0x03), (0x41, 0x07,
      0x07), (0x41, 0x60, 0x60), (0x41, 0x62, 0x63)], [.now, .published, .pins, .links, .rsm, .flt, .mot, .saf, .prot, .journal]⟩
  | .auxOpenTimeout _ => some ⟨[(0x04, 0x07, 0x07), (0x04, 0x70, 0x7F), (0x10, 0x01, 0x01), (0x10, 0x03, 0x03), (0x10, 0x07,
      0x07), (0x10, 0x60, 0x64), (0x10, 0x66, 0x6A), (0x12, 0x07, 0x07), (0x12, 0x60, 0x60), (0x18, 0x01, 0x01), (0x18, 0x03,
      0x03), (0x18, 0x07, 0x07), (0x18, 0x60, 0x60), (0x18, 0x63, 0x64), (0x40, 0x07, 0x07), (0x40, 0x60, 0x60), (0x41, 0x03,
      0x03), (0x41, 0x07, 0x07), (0x41, 0x60, 0x60), (0x41, 0x62, 0x63)], [.now, .published, .pins, .links, .rsm, .flt, .mot,
      .saf, .prot, .journal]⟩
  | .cd1HoldEnd => some ⟨[(0x10, 0x01, 0x01), (0x10, 0x03, 0x03), (0x10, 0x07, 0x07), (0x10, 0x60, 0x64), (0x10, 0x66, 0x69)],
      [.now, .published, .links, .rsm, .prot]⟩
  | .deadlineExpiry => some ⟨[(0x04, 0x07, 0x07), (0x04, 0x70, 0x7F), (0x10, 0x01, 0x01), (0x10, 0x03, 0x03), (0x10, 0x07, 0x07),
      (0x10, 0x60, 0x6A), (0x11, 0x01, 0x01), (0x11, 0x03, 0x03), (0x11, 0xA0, 0xA1), (0x12, 0x03, 0x03), (0x12, 0x07, 0x07),
      (0x12, 0x60, 0x60)], [.now, .published, .pins, .links, .rsm, .flt, .line, .prot, .tmp, .journal]⟩
  | .badChannelsOpen => some ⟨[(0x04, 0x07, 0x07), (0x04, 0x70, 0x7F), (0x10, 0x01, 0x01), (0x10, 0x03, 0x03), (0x10, 0x07, 0x07),
      (0x10, 0x60, 0x64), (0x10, 0x66, 0x6A)], [.now, .published, .links, .flt, .prot, .journal]⟩
  | .suspectTimeExpiry => some ⟨[(0x10, 0x01, 0x01), (0x10, 0x03, 0x03), (0x10, 0x07, 0x07), (0x10, 0x60, 0x69), (0x12, 0x03,
      0x03), (0x12, 0x07, 0x07), (0x12, 0x60, 0x60)], [.now, .published, .links, .rsm, .prot]⟩
  | .degradedCellExpiry _ _ => some ⟨[(0x10, 0x01, 0x01), (0x10, 0x03, 0x03), (0x10, 0x07, 0x07), (0x10, 0x60, 0x69), (0x12, 0x03,
      0x03), (0x12, 0x07, 0x07), (0x12, 0x60, 0x60)], [.now, .published, .links, .rsm, .prot]⟩
  | .cellTempExpiry _ _ => some ⟨[(0x10, 0x01, 0x01), (0x10, 0x03, 0x03), (0x10, 0x07, 0x07), (0x10, 0x60, 0x69), (0x12, 0x03,
      0x03), (0x12, 0x07, 0x07), (0x12, 0x60, 0x60)], [.now, .published, .links, .rsm, .prot]⟩
  | .limitFrame => some ⟨[], [.now, .links, .prot]⟩
  | .chargeOffTimeout => some ⟨[(0x10, 0x07, 0x07), (0x10, 0x60, 0x60), (0x10, 0x66, 0x69), (0x18, 0x01, 0x01), (0x18, 0x03,
      0x03), (0x18, 0x07, 0x07), (0x18, 0x60, 0x60), (0x18, 0x63, 0x64), (0x40, 0x07, 0x07), (0x40, 0x60, 0x60), (0x41, 0x03,
      0x03), (0x41, 0x07, 0x07), (0x41, 0x60, 0x60), (0x41, 0x62, 0x63)], [.now, .published, .pins, .links, .rsm, .mot, .saf,
      .prot]⟩
  | .shoreDetChange _ => some ⟨[(0x10, 0x07, 0x07), (0x10, 0x60, 0x60), (0x10, 0x66, 0x69), (0x18, 0x01, 0x01), (0x18, 0x03,
      0x03), (0x18, 0x07, 0x07), (0x18, 0x60, 0x60), (0x18, 0x63, 0x64), (0x40, 0x03, 0x03), (0x40, 0x07, 0x07), (0x40, 0x60,
      0x60), (0x41, 0x03, 0x03), (0x41, 0x07, 0x07), (0x41, 0x60, 0x60), (0x41, 0x62, 0x63)], [.published, .pins, .links, .rsm,
      .mot, .saf, .prot]⟩
  | .ringCycle => some ⟨[(0x04, 0x07, 0x07), (0x04, 0x70, 0x7F), (0x10, 0x01, 0x01), (0x10, 0x07, 0x07), (0x10, 0x60, 0x60),
      (0x10, 0x66, 0x69), (0x12, 0x03, 0x03), (0x12, 0x07, 0x07), (0x12, 0x60, 0x65)], [.now, .published, .links, .rsm, .flt,
      .prot, .ring]⟩
  | .ringStatusMsg _ => some ⟨[(0x04, 0x07, 0x07), (0x04, 0x70, 0x7F), (0x10, 0x01, 0x01), (0x10, 0x07, 0x07), (0x10, 0x60, 0x60),
      (0x10, 0x66, 0x69), (0x12, 0x03, 0x03), (0x12, 0x07, 0x07), (0x12, 0x60, 0x60), (0x12, 0x66, 0x66)], [.published, .links,
      .rsm, .flt, .prot, .ring]⟩
  | .memberLost _ => some ⟨[(0x12, 0x03, 0x03), (0x12, 0x07, 0x07), (0x12, 0x66, 0x66)], [.now, .published, .links, .ring]⟩
  | .grantTimeout => some ⟨[(0x12, 0x03, 0x03), (0x12, 0x07, 0x07), (0x12, 0x60, 0x60)], [.now, .published, .links, .prot]⟩
  | .systemFrame => some ⟨[(0x04, 0x07, 0x07), (0x04, 0x70, 0x7F)], [.now, .published, .links, .flt, .ring]⟩
  | .mirrorReceived _ _ _ _ _ => some ⟨[(0x04, 0x07, 0x07), (0x04, 0x70, 0x7F), (0x12, 0x03, 0x03), (0x12, 0x07, 0x07), (0x12,
      0x66, 0x66)], [.published, .links, .fw, .cyl, .flt, .ring, .journal]⟩
  | .mirrorHeaderReply _ => some ⟨[(0x12, 0x03, 0x03), (0x12, 0x07, 0x07), (0x12, 0x60, 0x60)], [.published, .links, .rsm, .ring]⟩
  | .adopt _ => some (hostFrame [(0x12, 0x07, 0x07), (0x12, 0x66, 0x66)] [.ring])
  | .adoptFetchDone _ _ => none
  | .decline _ => some (hostFrame [(0x04, 0x78, 0x7F), (0x12, 0x07, 0x07), (0x12, 0x60, 0x60), (0x12, 0x66, 0x66)] [.flt, .ring])
  | .cancel _ => some (hostFrame [(0x12, 0x03, 0x03), (0x12, 0x07, 0x07), (0x12, 0x60, 0x60)] [.prot])
  | .installAnchor _ => some (hostFrame [(0x04, 0x78, 0x7F), (0x0F, 0x03, 0x03), (0x0F, 0x07, 0x07), (0x0F, 0x60, 0x61), (0x0F,
      0x68, 0x6F), (0x12, 0x07, 0x07), (0x12, 0x60, 0x60)] [.flt, .ring, .aut, .journal])
  | .enrol _ _ => none
  | .authenticateAll _ => some (hostFrame [(0x0F, 0x07, 0x07), (0x0F, 0x60, 0x60), (0x0F, 0x68, 0x6F)] [.aut])
  | .autPoll _ => some ⟨[(0x0F, 0x07, 0x07), (0x0F, 0x60, 0x60), (0x0F, 0x68, 0x6F)], [.now, .published, .links, .aut]⟩
  | .slotAuthDone _ _ => some ⟨[(0x04, 0x07, 0x07), (0x04, 0x70, 0x7F), (0x0F, 0x03, 0x03), (0x0F, 0x07, 0x07), (0x0F, 0x60,
      0x60), (0x0F, 0x68, 0x6F), (0x12, 0x07, 0x07), (0x12, 0x60, 0x60)], [.published, .links, .rsm, .flt, .sage, .ring, .aut,
      .journal]⟩
  | .autKeydataWrite _ _ => some (clampFrame [(0x0F, 0x06, 0x06), (0x0F, 0xE3, 0xE3)] [.aut])
  | .autSelWrite _ _ => some (clampFrame [(0x0F, 0x06, 0x06)] [])
  | .lockstepMismatch _ _ => some ⟨[(0x02, 0x03, 0x03), (0x02, 0x07, 0x07), (0x02, 0x0D, 0x0D), (0x02, 0x60, 0x60), (0x04, 0x01,
      0x01), (0x04, 0x07, 0x07), (0x04, 0x63, 0x63), (0x04, 0x70, 0x7F), (0x0F, 0x07, 0x07), (0x0F, 0x60, 0x60), (0x0F, 0x68,
      0x6F), (0x12, 0x07, 0x07), (0x12, 0x60, 0x60), (0x41, 0x07, 0x07), (0x41, 0x60, 0x60)], [.published, .links, .commit, .flt,
      .mot, .gate, .prot, .aut, .journal]⟩
  | .arbitration _ _ => none
  | .coreResume _ => none
  | .selfTestSlice _ _ => none
  | .watchdogExpiry => none
  | .degradedTimeExpiry => some ⟨[(0x04, 0x03, 0x03), (0x04, 0x07, 0x07), (0x04, 0x70, 0x7F), (0x10, 0x01, 0x01), (0x10, 0x03,
      0x03), (0x10, 0x07, 0x07), (0x10, 0x60, 0x69), (0x12, 0x03, 0x03), (0x12, 0x07, 0x07), (0x12, 0x60, 0x60)], [.now,
      .published, .links, .rsm, .flt, .prot, .journal]⟩
  | .degradedTimeSave => some ⟨[(0x04, 0x07, 0x07), (0x04, 0x70, 0x7F)], [.now, .published, .links, .flt, .journal]⟩
  | .leaseAcquire _ _ => some ⟨[(0x04, 0x07, 0x07), (0x04, 0x70, 0x7F)], [.published, .links, .flt]⟩
  | .leaseRelease _ _ => none
  | .leaseExpiry _ => none
  | .mramRecoveryDone _ _ => some ⟨[(0x04, 0x03, 0x03), (0x04, 0x07, 0x07), (0x04, 0x70, 0x7F), (0x0C, 0x01, 0x01), (0x0C, 0x03,
      0x03), (0x0C, 0x6A, 0x6A), (0x12, 0x07, 0x07), (0x12, 0x60, 0x60), (0x12, 0x66, 0x66)], [.published, .links, .fw, .cyl,
      .flt, .sage, .ring, .journal]⟩
  | .recordAccept => some ⟨[(0x04, 0x07, 0x07), (0x04, 0x70, 0x7F), (0x14, 0x01, 0x01), (0x14, 0x03, 0x03), (0x14, 0x07, 0x07),
      (0x14, 0x60, 0x60), (0x14, 0x63, 0x64), (0x14, 0x67, 0x67)], [.published, .links, .rsm, .cyl, .flt]⟩
  | .flushPeriodic => some ⟨[], [.now, .rsm]⟩
  | .flushStart => some ⟨[(0x04, 0x07, 0x07), (0x04, 0x70, 0x7F), (0x14, 0x01, 0x01)], [.published, .links, .rsm, .flt]⟩
  | .flushDone => some ⟨[(0x04, 0x07, 0x07), (0x04, 0x70, 0x7F), (0x12, 0x07, 0x07), (0x12, 0x66, 0x66), (0x14, 0x01, 0x01),
      (0x14, 0x03, 0x03), (0x14, 0x07, 0x07), (0x14, 0x60, 0x64), (0x14, 0x67, 0x67)], [.published, .links, .fw, .rsm, .cyl, .flt,
      .ring, .journal]⟩
  | .rateWindowClose => some ⟨[(0x04, 0x07, 0x07), (0x04, 0x70, 0x7F), (0x14, 0x01, 0x01), (0x14, 0x03, 0x03), (0x14, 0x07, 0x07),
      (0x14, 0x60, 0x60), (0x14, 0x63, 0x64), (0x14, 0x67, 0x67)], [.now, .published, .links, .rsm, .cyl, .flt]⟩
  | .rsmClear _ _ => some (clampFrame [(0x14, 0x01, 0x01), (0x14, 0x03, 0x03), (0x14, 0x06, 0x07), (0x14, 0x60, 0x64)] [.rsm])
  | .rsmSnapWrite _ _ => some (clampFrame [(0x14, 0x06, 0x06)] [])
  | .snapshotExpiry _ => some ⟨[], [.now, .links]⟩
  | .rsmRdselWrite _ _ => some (clampFrame [(0x14, 0x06, 0x06)] [])
  | .ledgerRecordWrite => some ⟨[(0x04, 0x07, 0x07), (0x04, 0x70, 0x7F), (0x12, 0x07, 0x07), (0x12, 0x66, 0x66), (0x14, 0x01,
      0x01), (0x14, 0x03, 0x03), (0x14, 0x07, 0x07), (0x14, 0x60, 0x60), (0x14, 0x63, 0x64), (0x14, 0x67, 0x67), (0x15, 0x03,
      0x03), (0x15, 0x07, 0x07), (0x15, 0x60, 0x60), (0x15, 0x62, 0x64), (0x15, 0x68, 0x6D)], [.published, .links, .fw, .rsm,
      .cyl, .flt, .ring, .journal]⟩
  | .cylAck _ _ => some (clampFrame [(0x15, 0x06, 0x07), (0x15, 0x61, 0x61), (0x15, 0x63, 0x63)] [.cyl])
  | .cylRdselWrite _ _ => some (clampFrame [(0x15, 0x06, 0x06)] [])
  | .baySamplePair _ _ => some ⟨[], [.now, .bay]⟩
  | .bayPairLost => some ⟨[], [.now, .bay]⟩
  | .bayInterval => some ⟨[(0x0A, 0x01, 0x01), (0x0A, 0x03, 0x03), (0x0A, 0x07, 0x07), (0x0A, 0x60, 0x69), (0x0A, 0x6F, 0x70),
      (0x0A, 0x73, 0x73), (0x0A, 0x75, 0x75), (0x0A, 0x80, 0x84), (0x10, 0x07, 0x07), (0x10, 0x60, 0x60), (0x10, 0x66, 0x69),
      (0x18, 0x01, 0x01), (0x18, 0x03, 0x03), (0x18, 0x07, 0x07), (0x18, 0x60, 0x60), (0x18, 0x63, 0x64), (0x40, 0x07, 0x07),
      (0x40, 0x60, 0x60), (0x41, 0x03, 0x03), (0x41, 0x07, 0x07), (0x41, 0x60, 0x60), (0x41, 0x62, 0x63)], [.published, .pins,
      .links, .rsm, .bay, .mot, .saf, .prot]⟩
  | .bayCopyWrite => some ⟨[], [.bay]⟩
  | .bayAux3Change _ => some ⟨[(0x0A, 0x03, 0x03), (0x0A, 0x07, 0x07), (0x0A, 0x60, 0x60), (0x0A, 0x6E, 0x73)], [.published,
      .links, .rsm, .bay]⟩
  | .bayBreak _ => some ⟨[(0x0A, 0x01, 0x01), (0x0A, 0x03, 0x03), (0x0A, 0x07, 0x07), (0x0A, 0x60, 0x60), (0x0A, 0x65, 0x66),
      (0x0A, 0x6C, 0x6D), (0x0A, 0x76, 0x76)], [.published, .links, .bay]⟩
  | .baySet _ _ => some ⟨[(0x0A, 0x01, 0x01), (0x0A, 0x03, 0x03), (0x0A, 0x07, 0x07), (0x0A, 0x60, 0x60), (0x0A, 0x65, 0x66),
      (0x0A, 0x6C, 0x6D), (0x0A, 0x76, 0x76)], [.published, .links, .bay]⟩
  | .baySeal _ => some ⟨[(0x0A, 0x01, 0x01), (0x0A, 0x03, 0x03), (0x0A, 0x07, 0x07), (0x0A, 0x60, 0x60), (0x0A, 0x65, 0x66),
      (0x0A, 0x6C, 0x6D), (0x0A, 0x76, 0x76)], [.published, .links, .bay]⟩
  | .bayImgOpen _ => some ⟨[(0x0A, 0x01, 0x01), (0x0A, 0x03, 0x03), (0x0A, 0x07, 0x07), (0x0A, 0x60, 0x60), (0x0A, 0x65, 0x66),
      (0x0A, 0x6C, 0x6D), (0x0A, 0x76, 0x76)], [.published, .links, .bay]⟩
  | .bayImgData _ => some ⟨[(0x0A, 0x01, 0x01), (0x0A, 0x03, 0x03), (0x0A, 0x07, 0x07), (0x0A, 0x60, 0x60), (0x0A, 0x65, 0x66),
      (0x0A, 0x6C, 0x6D), (0x0A, 0x76, 0x76)], [.published, .links, .bay]⟩
  | .bayImgEnd _ _ _ => some ⟨[(0x0A, 0x01, 0x01), (0x0A, 0x03, 0x03), (0x0A, 0x07, 0x07), (0x0A, 0x60, 0x60), (0x0A, 0x65, 0x66),
      (0x0A, 0x6C, 0x6D), (0x0A, 0x76, 0x76)], [.published, .links, .bay]⟩
  | .bayMailboxReject _ => some ⟨[(0x0A, 0x01, 0x01), (0x0A, 0x03, 0x03), (0x0A, 0x07, 0x07), (0x0A, 0x60, 0x60), (0x0A, 0x65,
      0x66), (0x0A, 0x6C, 0x6D), (0x0A, 0x76, 0x76)], [.published, .links, .bay]⟩
  | .bayLockoutEnd => some ⟨[(0x0A, 0x07, 0x07), (0x0A, 0x60, 0x60)], [.now, .published, .links, .bay]⟩
  | .move _ _ => some (hostFrame [(0x41, 0x07, 0x07), (0x41, 0x60, 0x60), (0x41, 0x62, 0x62)] [.mot])
  | .home _ _ => some (hostFrame [(0x40, 0x07, 0x07), (0x40, 0x60, 0x60), (0x41, 0x03, 0x03), (0x41, 0x07, 0x07), (0x41, 0x60,
      0x62)] [.mot])
  | .axisStop _ _ => some (hostFrame [(0x40, 0x07, 0x07), (0x40, 0x60, 0x60), (0x41, 0x03, 0x03), (0x41, 0x07, 0x07), (0x41, 0x60,
      0x60), (0x41, 0x62, 0x63)] [.mot])
  | .axisClear _ _ => some (hostFrame [(0x41, 0x07, 0x07), (0x41, 0x60, 0x60)] [.mot])
  | .groupStart _ _ => some (clampFrame [(0x40, 0x06, 0x06), (0x41, 0x07, 0x07), (0x41, 0x60, 0x60), (0x41, 0x62, 0x62)] [.mot])
  | .groupStop _ _ => some (clampFrame [(0x40, 0x06, 0x07), (0x40, 0x60, 0x60), (0x41, 0x03, 0x03), (0x41, 0x07, 0x07), (0x41,
      0x60, 0x60), (0x41, 0x62, 0x63)] [.mot])
  | .stopAll _ => some (hostFrame [(0x40, 0x07, 0x07), (0x40, 0x60, 0x60), (0x41, 0x03, 0x03), (0x41, 0x07, 0x07), (0x41, 0x60,
      0x60), (0x41, 0x62, 0x63)] [.mot])
  | .cycleStart _ => some ⟨[(0x40, 0x07, 0x07), (0x40, 0x60, 0x60), (0x41, 0x07, 0x07), (0x41, 0x60, 0x60)], [.now, .published,
      .links, .mot]⟩
  | .cycleEnd _ => some ⟨[(0x40, 0x03, 0x03), (0x40, 0x07, 0x07), (0x40, 0x60, 0x60), (0x41, 0x03, 0x03), (0x41, 0x07, 0x07),
      (0x41, 0x60, 0x60), (0x41, 0x63, 0x63)], [.published, .links, .rsm, .cyl, .mot]⟩
  | .homePoint _ => some ⟨[(0x40, 0x07, 0x07), (0x40, 0x60, 0x60), (0x41, 0x03, 0x03), (0x41, 0x07, 0x07), (0x41, 0x60, 0x62)],
      [.published, .links, .mot]⟩
  | .homingTimeout _ => some ⟨[(0x40, 0x07, 0x07), (0x40, 0x60, 0x60), (0x41, 0x03, 0x03), (0x41, 0x07, 0x07), (0x41, 0x60, 0x60),
      (0x41, 0x62, 0x63)], [.now, .published, .links, .mot]⟩
  | .stall _ => some ⟨[(0x40, 0x07, 0x07), (0x40, 0x60, 0x60), (0x41, 0x03, 0x03), (0x41, 0x07, 0x07), (0x41, 0x60, 0x63)],
      [.published, .links, .mot]⟩
  | .obstacle _ => some ⟨[(0x40, 0x07, 0x07), (0x40, 0x60, 0x60), (0x41, 0x03, 0x03), (0x41, 0x07, 0x07), (0x41, 0x60, 0x60),
      (0x41, 0x62, 0x63)], [.published, .links, .mot]⟩
  | .edgeChange _ _ => some ⟨[(0x18, 0x07, 0x07), (0x18, 0x60, 0x60), (0x40, 0x07, 0x07), (0x40, 0x60, 0x60), (0x41, 0x03, 0x03),
      (0x41, 0x07, 0x07), (0x41, 0x60, 0x60), (0x41, 0x62, 0x63)], [.published, .links, .mot, .saf]⟩
  | .edgeGapTimeout _ => some ⟨[(0x18, 0x07, 0x07), (0x18, 0x60, 0x60), (0x40, 0x07, 0x07), (0x40, 0x60, 0x60), (0x41, 0x03,
      0x03), (0x41, 0x07, 0x07), (0x41, 0x60, 0x60), (0x41, 0x62, 0x63)], [.now, .published, .links, .mot, .saf]⟩
  | .limitSwitch _ => some ⟨[(0x40, 0x07, 0x07), (0x40, 0x60, 0x60), (0x41, 0x03, 0x03), (0x41, 0x07, 0x07), (0x41, 0x60, 0x60),
      (0x41, 0x62, 0x63)], [.published, .links, .mot]⟩
  | .setpointQueueEmpty _ => some ⟨[(0x40, 0x07, 0x07), (0x40, 0x60, 0x60), (0x41, 0x03, 0x03), (0x41, 0x07, 0x07), (0x41, 0x60,
      0x60), (0x41, 0x62, 0x63)], [.published, .links, .mot]⟩
  | .standstillDelay _ => some ⟨[], [.now, .mot]⟩
  | .gdieFrame _ _ _ => some ⟨[(0x40, 0x07, 0x07), (0x40, 0x60, 0x60), (0x41, 0x03, 0x03), (0x41, 0x07, 0x07), (0x41, 0x60, 0x60),
      (0x41, 0x62, 0x63), (0x48, 0x03, 0x03), (0x48, 0x07, 0x07), (0x48, 0x60, 0x60), (0x48, 0x62, 0x62)], [.published, .links,
      .mot, .gate]⟩
  | .gdieLinkLost => some ⟨[(0x18, 0x03, 0x03), (0x18, 0x07, 0x07), (0x18, 0x63, 0x64), (0x40, 0x07, 0x07), (0x40, 0x60, 0x60),
      (0x41, 0x03, 0x03), (0x41, 0x07, 0x07), (0x41, 0x60, 0x60), (0x41, 0x62, 0x63), (0x48, 0x03, 0x03), (0x48, 0x07, 0x07),
      (0x48, 0x60, 0x60), (0x49, 0x07, 0x07), (0x49, 0x60, 0x60)], [.now, .published, .links, .rsm, .mot, .gate, .saf]⟩
  | .sctest _ _ => some (hostFrame [(0x49, 0x07, 0x07), (0x49, 0x60, 0x60)] [.gate])
  | .sctestDone _ _ => some ⟨[(0x18, 0x03, 0x03), (0x18, 0x07, 0x07), (0x18, 0x63, 0x64), (0x40, 0x07, 0x07), (0x40, 0x60, 0x60),
      (0x41, 0x03, 0x03), (0x41, 0x07, 0x07), (0x41, 0x60, 0x60), (0x41, 0x62, 0x63), (0x49, 0x03, 0x03), (0x49, 0x07, 0x07),
      (0x49, 0x60, 0x60), (0x49, 0x64, 0x64)], [.published, .links, .rsm, .mot, .gate, .saf]⟩
  | .recover _ _ => some (hostFrame [(0x49, 0x07, 0x07), (0x49, 0x60, 0x60)] [.gate])
  | .gatePulse _ _ _ => some (clampFrame [(0x49, 0x06, 0x06)] [.gate])
  | .gatePulseEnd _ _ _ _ => some ⟨[(0x18, 0x03, 0x03), (0x18, 0x07, 0x07), (0x18, 0x63, 0x64), (0x40, 0x07, 0x07), (0x40, 0x60,
      0x60), (0x41, 0x03, 0x03), (0x41, 0x07, 0x07), (0x41, 0x60, 0x60), (0x41, 0x62, 0x63), (0x49, 0x03, 0x03), (0x49, 0x07,
      0x07), (0x49, 0x60, 0x60), (0x49, 0x64, 0x64), (0x49, 0xE3, 0xE3)], [.now, .published, .links, .rsm, .mot, .gate, .saf]⟩
  | .gdLiveRead _ _ => some (hostFrame [(0x49, 0xE1, 0xE1)] [])
  | .qualification _ => some ⟨[(0x49, 0x07, 0x07), (0x49, 0x60, 0x60)], [.published, .links, .gate]⟩
  | .qualificationDone _ _ _ => some ⟨[(0x18, 0x03, 0x03), (0x18, 0x07, 0x07), (0x18, 0x63, 0x64), (0x40, 0x07, 0x07), (0x40,
      0x60, 0x60), (0x41, 0x03, 0x03), (0x41, 0x07, 0x07), (0x41, 0x60, 0x60), (0x41, 0x62, 0x63), (0x49, 0x03, 0x03), (0x49,
      0x07, 0x07), (0x49, 0x60, 0x60), (0x49, 0x63, 0x64)], [.now, .published, .links, .rsm, .mot, .gate, .saf]⟩
  | .pwmPeriod _ _ => some ⟨[(0x03, 0x03, 0x03), (0x49, 0x03, 0x03), (0x49, 0x07, 0x07), (0x49, 0x60, 0x62)], [.published, .links,
      .thy, .rsm, .gate]⟩
  | .shortCircuitTrip _ _ => some ⟨[(0x18, 0x03, 0x03), (0x18, 0x07, 0x07), (0x18, 0x63, 0x64), (0x40, 0x07, 0x07), (0x40, 0x60,
      0x60), (0x41, 0x03, 0x03), (0x41, 0x07, 0x07), (0x41, 0x60, 0x60), (0x41, 0x62, 0x63), (0x49, 0x03, 0x03), (0x49, 0x07,
      0x07), (0x49, 0x60, 0x60), (0x49, 0x64, 0x64)], [.published, .links, .rsm, .mot, .gate, .saf]⟩
  | .handshakeTimeout _ => some ⟨[(0x18, 0x03, 0x03), (0x18, 0x07, 0x07), (0x18, 0x63, 0x64), (0x40, 0x07, 0x07), (0x40, 0x60,
      0x60), (0x41, 0x03, 0x03), (0x41, 0x07, 0x07), (0x41, 0x60, 0x60), (0x41, 0x62, 0x63), (0x49, 0x03, 0x03), (0x49, 0x07,
      0x07), (0x49, 0x60, 0x60)], [.published, .links, .rsm, .mot, .gate, .saf]⟩
  | .vmOutOfRange _ => some ⟨[(0x18, 0x03, 0x03), (0x18, 0x07, 0x07), (0x18, 0x63, 0x64), (0x40, 0x07, 0x07), (0x40, 0x60, 0x60),
      (0x41, 0x03, 0x03), (0x41, 0x07, 0x07), (0x41, 0x60, 0x60), (0x41, 0x62, 0x63), (0x48, 0x03, 0x03), (0x48, 0x07, 0x07),
      (0x48, 0x60, 0x60), (0x49, 0x07, 0x07), (0x49, 0x60, 0x60)], [.published, .links, .rsm, .mot, .gate, .saf]⟩
  | .vggUndervoltage => some ⟨[(0x18, 0x03, 0x03), (0x18, 0x07, 0x07), (0x18, 0x63, 0x64), (0x40, 0x07, 0x07), (0x40, 0x60, 0x60),
      (0x41, 0x03, 0x03), (0x41, 0x07, 0x07), (0x41, 0x60, 0x60), (0x41, 0x62, 0x63), (0x48, 0x03, 0x03), (0x48, 0x07, 0x07),
      (0x48, 0x60, 0x60), (0x49, 0x07, 0x07), (0x49, 0x60, 0x60)], [.published, .links, .rsm, .mot, .gate, .saf]⟩
  | .supplyRelease _ => some ⟨[(0x48, 0x07, 0x07), (0x48, 0x60, 0x60)], [.published, .links, .gate]⟩
  | .bootstrapUndervoltage _ _ => some ⟨[(0x18, 0x03, 0x03), (0x18, 0x07, 0x07), (0x18, 0x63, 0x64), (0x40, 0x07, 0x07), (0x40,
      0x60, 0x60), (0x41, 0x03, 0x03), (0x41, 0x07, 0x07), (0x41, 0x60, 0x60), (0x41, 0x62, 0x63), (0x49, 0x03, 0x03), (0x49,
      0x07, 0x07), (0x49, 0x60, 0x60), (0x49, 0x65, 0x65)], [.published, .links, .rsm, .mot, .gate, .saf]⟩
  | .refreshEpisode _ _ _ => some ⟨[(0x49, 0x03, 0x03), (0x49, 0x07, 0x07), (0x49, 0x60, 0x60), (0x49, 0x65, 0x65)], [.published,
      .links, .rsm]⟩
  | .chopperOn => some ⟨[(0x48, 0x03, 0x03), (0x48, 0x07, 0x07), (0x48, 0x60, 0x61)], [.published, .links, .gate]⟩
  | .chopperOff => some ⟨[(0x48, 0x07, 0x07), (0x48, 0x60, 0x61)], [.published, .links]⟩
  | .chopperLong => some ⟨[(0x48, 0x03, 0x03)], [.now, .rsm, .gate]⟩
  | .lsOutWrite _ _ _ => some (clampFrame [(0x50, 0x01, 0x01), (0x51, 0x01, 0x01), (0x51, 0x03, 0x03), (0x51, 0x06, 0x06), (0x51,
      0xE0, 0xE0)] [.ls])
  | .lsClr _ _ _ => some (clampFrame [(0x50, 0x01, 0x01), (0x51, 0x01, 0x01), (0x51, 0x06, 0x06), (0x51, 0xE0, 0xE0)] [.ls])
  | .inrushEnd _ => some ⟨[(0x50, 0x01, 0x01), (0x51, 0x01, 0x01)], [.now, .ls]⟩
  | .limitTime _ => some ⟨[(0x50, 0x01, 0x01), (0x51, 0x01, 0x01), (0x51, 0x03, 0x03)], [.now, .rsm, .ls]⟩
  | .openLoadChange _ _ => some ⟨[(0x50, 0x01, 0x01), (0x51, 0x01, 0x01), (0x51, 0x03, 0x03)], [.now, .ls]⟩
  | .zoneHot _ _ _ => some ⟨[(0x50, 0x01, 0x01), (0x50, 0x03, 0x03), (0x51, 0x01, 0x01), (0x51, 0x03, 0x03)], [.rsm, .ls]⟩
  | .zoneSecondCheck _ _ => some ⟨[(0x50, 0x01, 0x01), (0x50, 0x03, 0x03), (0x51, 0x01, 0x01), (0x51, 0x03, 0x03)], [.now, .rsm,
      .ls]⟩
  | .zoneCool _ => some ⟨[(0x50, 0x01, 0x01), (0x51, 0x01, 0x01)], [.ls]⟩
  | .zoneSensorFault _ => some ⟨[(0x50, 0x01, 0x01), (0x50, 0x03, 0x03), (0x51, 0x01, 0x01), (0x51, 0x03, 0x03)], [.rsm, .ls]⟩
  | .shed => some ⟨[(0x50, 0x01, 0x01), (0x50, 0x03, 0x03), (0x51, 0x01, 0x01), (0x51, 0x03, 0x03)], [.rsm, .ls]⟩
  | .lsRestart _ => some ⟨[(0x50, 0x01, 0x01), (0x51, 0x01, 0x01), (0x51, 0x03, 0x03)], [.rsm, .tmp, .ls]⟩
  | .leftReload _ => some ⟨[(0x50, 0x01, 0x01), (0x51, 0x01, 0x01)], [.now, .ls]⟩
  | .guardChange _ _ => some ⟨[(0x10, 0x07, 0x07), (0x10, 0x60, 0x60), (0x10, 0x66, 0x69), (0x18, 0x01, 0x01), (0x18, 0x03, 0x03),
      (0x18, 0x07, 0x07), (0x18, 0x60, 0x60), (0x18, 0x63, 0x64), (0x40, 0x07, 0x07), (0x40, 0x60, 0x60), (0x41, 0x03, 0x03),
      (0x41, 0x07, 0x07), (0x41, 0x60, 0x60), (0x41, 0x62, 0x63)], [.published, .pins, .links, .rsm, .mot, .saf, .prot]⟩
  | .safestopTimeout _ => some ⟨[(0x10, 0x07, 0x07), (0x10, 0x60, 0x60), (0x10, 0x66, 0x69), (0x18, 0x01, 0x01), (0x18, 0x03,
      0x03), (0x18, 0x07, 0x07), (0x18, 0x60, 0x60), (0x18, 0x63, 0x64), (0x40, 0x07, 0x07), (0x40, 0x60, 0x60), (0x41, 0x03,
      0x03), (0x41, 0x07, 0x07), (0x41, 0x60, 0x60), (0x41, 0x62, 0x63)], [.now, .published, .pins, .links, .rsm, .mot, .saf,
      .prot]⟩
  | .brakeCurrentFault _ => some ⟨[(0x10, 0x07, 0x07), (0x10, 0x60, 0x60), (0x10, 0x66, 0x69), (0x18, 0x01, 0x01), (0x18, 0x03,
      0x03), (0x18, 0x07, 0x07), (0x18, 0x60, 0x60), (0x18, 0x63, 0x64), (0x40, 0x07, 0x07), (0x40, 0x60, 0x60), (0x41, 0x03,
      0x03), (0x41, 0x07, 0x07), (0x41, 0x60, 0x60), (0x41, 0x62, 0x63)], [.now, .published, .pins, .links, .rsm, .mot, .saf,
      .prot]⟩
  | .brakeSwitchPulse _ _ _ => some ⟨[(0x10, 0x07, 0x07), (0x10, 0x60, 0x60), (0x10, 0x66, 0x69), (0x18, 0x01, 0x01), (0x18, 0x03,
      0x03), (0x18, 0x07, 0x07), (0x18, 0x60, 0x64), (0x40, 0x07, 0x07), (0x40, 0x60, 0x60), (0x41, 0x03, 0x03), (0x41, 0x07,
      0x07), (0x41, 0x60, 0x60), (0x41, 0x62, 0x63)], [.published, .pins, .links, .rsm, .mot, .saf, .prot]⟩
  | .brakeTestStart _ => some ⟨[], [.now, .mot, .saf]⟩
  | .brakeTestDone _ _ _ => some ⟨[(0x04, 0x07, 0x07), (0x04, 0x70, 0x7F), (0x10, 0x07, 0x07), (0x10, 0x60, 0x60), (0x10, 0x66,
      0x69), (0x18, 0x01, 0x01), (0x18, 0x03, 0x03), (0x18, 0x07, 0x07), (0x18, 0x60, 0x60), (0x18, 0x63, 0x64), (0x18, 0x68,
      0x68), (0x40, 0x07, 0x07), (0x40, 0x60, 0x60), (0x41, 0x03, 0x03), (0x41, 0x07, 0x07), (0x41, 0x60, 0x60), (0x41, 0x62,
      0x63)], [.now, .published, .pins, .links, .rsm, .flt, .mot, .saf, .prot, .journal]⟩
  | .testBrk0 _ => some (hostFrame [] [.saf])
  | .testBrk1 _ => some (hostFrame [] [.saf])
  | .propEnPulse _ _ => some ⟨[(0x10, 0x07, 0x07), (0x10, 0x60, 0x60), (0x10, 0x66, 0x69), (0x18, 0x01, 0x01), (0x18, 0x03, 0x03),
      (0x18, 0x07, 0x07), (0x18, 0x60, 0x64), (0x40, 0x07, 0x07), (0x40, 0x60, 0x60), (0x41, 0x03, 0x03), (0x41, 0x07, 0x07),
      (0x41, 0x60, 0x60), (0x41, 0x62, 0x63)], [.published, .pins, .links, .rsm, .mot, .saf, .prot]⟩
  | .propEnReadback _ => some ⟨[(0x10, 0x07, 0x07), (0x10, 0x60, 0x60), (0x10, 0x66, 0x69), (0x18, 0x01, 0x01), (0x18, 0x03,
      0x03), (0x18, 0x07, 0x07), (0x18, 0x60, 0x60), (0x18, 0x62, 0x64), (0x40, 0x07, 0x07), (0x40, 0x60, 0x60), (0x41, 0x03,
      0x03), (0x41, 0x07, 0x07), (0x41, 0x60, 0x60), (0x41, 0x62, 0x63)], [.now, .published, .pins, .links, .rsm, .mot, .saf,
      .prot]⟩
  | .propEnLow => some ⟨[(0x10, 0x07, 0x07), (0x10, 0x60, 0x60), (0x10, 0x66, 0x69), (0x18, 0x01, 0x01), (0x18, 0x03, 0x03),
      (0x18, 0x07, 0x07), (0x18, 0x60, 0x60), (0x18, 0x63, 0x64), (0x40, 0x07, 0x07), (0x40, 0x60, 0x60), (0x41, 0x03, 0x03),
      (0x41, 0x07, 0x07), (0x41, 0x60, 0x60), (0x41, 0x62, 0x63)], [.published, .pins, .links, .rsm, .mot, .saf, .prot]⟩
  | .safetySelfTestSlice _ => some ⟨[(0x10, 0x07, 0x07), (0x10, 0x60, 0x60), (0x10, 0x66, 0x69), (0x18, 0x01, 0x01), (0x18, 0x03,
      0x03), (0x18, 0x07, 0x07), (0x18, 0x60, 0x60), (0x18, 0x62, 0x64), (0x40, 0x07, 0x07), (0x40, 0x60, 0x60), (0x41, 0x03,
      0x03), (0x41, 0x07, 0x07), (0x41, 0x60, 0x60), (0x41, 0x62, 0x63)], [.published, .pins, .links, .rsm, .mot, .saf, .prot]⟩
  | .safetyDegradedExpiry => some ⟨[(0x10, 0x07, 0x07), (0x10, 0x60, 0x60), (0x10, 0x66, 0x69), (0x18, 0x01, 0x01), (0x18, 0x03,
      0x03), (0x18, 0x07, 0x07), (0x18, 0x60, 0x60), (0x18, 0x63, 0x64), (0x40, 0x07, 0x07), (0x40, 0x60, 0x60), (0x41, 0x03,
      0x03), (0x41, 0x07, 0x07), (0x41, 0x60, 0x60), (0x41, 0x62, 0x63)], [.now, .published, .pins, .links, .rsm, .mot, .saf,
      .prot]⟩
  | .safetyPduReceived _ _ => some ⟨[(0x10, 0x07, 0x07), (0x10, 0x60, 0x60), (0x10, 0x66, 0x69), (0x18, 0x01, 0x01), (0x18, 0x03,
      0x03), (0x18, 0x07, 0x07), (0x18, 0x60, 0x60), (0x18, 0x63, 0x64), (0x19, 0x03, 0x03), (0x19, 0x07, 0x07), (0x19, 0x60,
      0x60), (0x19, 0x62, 0x62), (0x40, 0x07, 0x07), (0x40, 0x60, 0x60), (0x41, 0x03, 0x03), (0x41, 0x07, 0x07), (0x41, 0x60,
      0x60), (0x41, 0x62, 0x63)], [.published, .pins, .links, .rsm, .mot, .saf, .prot]⟩
  | .safetyPduSend => some ⟨[(0x19, 0x07, 0x07), (0x19, 0x61, 0x61)], [.now, .published, .links, .saf]⟩
  | .safetyWatchdogExpiry => some ⟨[(0x10, 0x07, 0x07), (0x10, 0x60, 0x60), (0x10, 0x66, 0x69), (0x18, 0x01, 0x01), (0x18, 0x03,
      0x03), (0x18, 0x07, 0x07), (0x18, 0x60, 0x60), (0x18, 0x63, 0x64), (0x19, 0x03, 0x03), (0x19, 0x07, 0x07), (0x19, 0x60,
      0x60), (0x19, 0x62, 0x62), (0x40, 0x07, 0x07), (0x40, 0x60, 0x60), (0x41, 0x03, 0x03), (0x41, 0x07, 0x07), (0x41, 0x60,
      0x60), (0x41, 0x62, 0x63)], [.now, .published, .pins, .links, .rsm, .mot, .saf, .prot]⟩
  | .safUnlock _ _ => some (clampFrame [(0x18, 0x03, 0x03), (0x18, 0x06, 0x06), (0x18, 0x68, 0x68)] [.pw, .spw, .saf])
  | .safNewpw _ _ => some (clampFrame [(0x18, 0x06, 0x06), (0x18, 0x68, 0x68)] [.pw, .spw, .saf])
  | .thermalEval _ _ _ => some ⟨[(0x00, 0x09, 0x09), (0x04, 0x07, 0x07), (0x04, 0x70, 0x7F), (0x05, 0x03, 0x03), (0x05, 0x07,
      0x07), (0x05, 0x60, 0x66), (0x05, 0x68, 0x68), (0x06, 0x07, 0x07), (0x06, 0x67, 0x67), (0x07, 0x07, 0x07), (0x07, 0x61,
      0x61), (0x11, 0xA0, 0xA0), (0x40, 0x07, 0x07), (0x40, 0x60, 0x60), (0x41, 0x03, 0x03), (0x41, 0x07, 0x07), (0x41, 0x60,
      0x60), (0x41, 0x62, 0x63), (0x48, 0x07, 0x07), (0x48, 0x60, 0x61), (0x49, 0x07, 0x07), (0x49, 0x60, 0x60), (0x50, 0x01,
      0x01), (0x51, 0x01, 0x01), (0x51, 0xE0, 0xE0)], [.now, .published, .gdieDown, .links, .stk, .rsm, .flt, .dieSt, .bay, .mot,
      .gate, .tmp, .ls, .aut, .journal]⟩
  | .thermalPowerDown _ => some ⟨[(0x00, 0x09, 0x09), (0x06, 0x07, 0x07), (0x06, 0x67, 0x67), (0x07, 0x07, 0x07), (0x07, 0x61,
      0x61), (0x40, 0x07, 0x07), (0x40, 0x60, 0x60), (0x41, 0x03, 0x03), (0x41, 0x07, 0x07), (0x41, 0x60, 0x60), (0x41, 0x62,
      0x63), (0x48, 0x07, 0x07), (0x48, 0x60, 0x61), (0x49, 0x07, 0x07), (0x49, 0x60, 0x60)], [.published, .gdieDown, .links,
      .stk, .dieSt, .bay, .mot, .gate, .tmp, .aut]⟩
  | .thermalPauseEnd _ => some ⟨[(0x40, 0x07, 0x07), (0x40, 0x60, 0x60)], [.now, .published, .links]⟩
  | .diePowerCycle _ => some ⟨[(0x04, 0x07, 0x07), (0x04, 0x70, 0x7F), (0x05, 0x07, 0x07), (0x05, 0x68, 0x68), (0x06, 0x07, 0x07),
      (0x06, 0x67, 0x67), (0x49, 0x07, 0x07), (0x49, 0x60, 0x60)], [.now, .published, .gdieDown, .pwr, .links, .flt, .tmp,
      .journal]⟩
  | .tmpCmd _ _ => some (clampFrame [(0x05, 0x06, 0x06), (0x05, 0x68, 0x68), (0x06, 0x07, 0x07), (0x06, 0x67, 0x67), (0x49, 0x07,
      0x07), (0x49, 0x60, 0x60)] [.gdieDown, .pwr, .tmp])
  | .eccCorrected _ => some ⟨[(0x05, 0x03, 0x03), (0x05, 0x07, 0x07), (0x05, 0x69, 0x69)], [.published, .links, .rsm, .tmp]⟩
  | .sramDoubleBitError => none
  | .brakeEngagedReadback _ => some ⟨[(0x10, 0x07, 0x07), (0x10, 0x60, 0x60), (0x10, 0x66, 0x69), (0x18, 0x01, 0x01), (0x18, 0x03,
      0x03), (0x18, 0x07, 0x07), (0x18, 0x60, 0x60), (0x18, 0x62, 0x64), (0x40, 0x07, 0x07), (0x40, 0x60, 0x60), (0x41, 0x03,
      0x03), (0x41, 0x07, 0x07), (0x41, 0x60, 0x60), (0x41, 0x62, 0x63)], [.published, .pins, .links, .rsm, .mot, .saf, .prot]⟩
  | .canErrorActive _ _ _ => some ⟨[(0x01, 0x07, 0x07), (0x01, 0x65, 0x66)], [.published, .links]⟩

/-- The instance a command acts on, for the commands that leave the other instances of its block alone: the block's first page, and the
instance. -/
def instanceOf : Sys2Proof.Instr → Option (Nat × Nat)
  | .startQualified _ => none
  | .mdieSettled _ => none
  | .mdieSettleTimeout _ => none
  | .holdupStoreCharged => none
  | .holdupTimeout => none
  | .enterRun _ => none
  | .supplyLow => none
  | .supplyLowClear => none
  | .pwrWarn => none
  | .pwrWarnClear => none
  | .pwrFail => none
  | .cdieReset => none
  | .vmOkChange _ => none
  | .hostReset _ _ => none
  | .layupEnter _ _ _ => none
  | .layupWake _ => none
  | .layupSupplyLost => none
  | .addrChange _ => none
  | .nop _ _ => none
  | .read _ _ => none
  | .write _ _ => none
  | .burstRead _ _ => none
  | .commit _ _ => none
  | .status _ _ => none
  | .unknownOp _ _ _ _ => none
  | .crcErrorFrame _ _ => none
  | .spiNotReady => none
  | .canRequestFrame _ _ => none
  | .canErrorPassive _ _ _ => none
  | .canBusOff _ => none
  | .canBusoffRecovery _ => none
  | .attnMessage _ => none
  | .attnMsgWindowEnd _ => none
  | .commitStep => none
  | .cfgDiscard _ _ => none
  | .pctlEn _ _ _ => none
  | .pctlRst _ _ => none
  | .iflagClear _ _ _ => none
  | .cfgUnlock _ _ => none
  | .unlockExpiry _ _ => none
  | .lockoutEnd _ => none
  | .cfgNewpw _ _ => none
  | .cfgDefault _ _ => none
  | .fwOpen _ => none
  | .fwData _ _ => none
  | .fwVerify _ => none
  | .fwVerifyDone _ _ => none
  | .fwActivate _ => none
  | .fwAbandon _ => none
  | .frameBoundary _ => none
  | .midFrameSample _ => none
  | .quietLead => none
  | .servoTick _ => none
  | .auxScan _ => none
  | .syncInEdge => none
  | .syncMiss => none
  | .timeLoRead _ => none
  | .epochLoWrite _ _ => none
  | .epochHiWrite _ _ => none
  | .xtalLost => none
  | .xtalRegained => none
  | .clockCheckWindow _ => none
  | .strobeRecal _ => none
  | .segmentDown _ => none
  | .segmentRetrain _ _ => none
  | .dieUnreachable _ => none
  | .dieRejoin _ => none
  | .dieSleep _ => none
  | .dieWake _ => none
  | .periodicSave => none
  | .firmwareEval => none
  | .sweepStart => none
  | .owRequest _ _ _ => none
  | .tapTestStart _ => none
  | .tapWindowEnd _ => none
  | .tapTestDecide _ => none
  | .gatedEval _ => none
  | .gatedTrip => none
  | .absoluteTrip _ _ _ => none
  | .comparatorSelfTest _ => none
  | .faultChannelLost _ _ => none
  | .tripCode _ _ => none
  | .carrierReturn _ => none
  | .flclr _ _ => none
  | .fastOcTrip _ => none
  | .ocSelfTest _ => none
  | .balanceOnTimeEnd k _ => some (0x28, k % 8)
  | .switchStuck k _ => some (0x28, k % 8)
  | .switchOvercurrent k _ => some (0x28, k % 8)
  | .balanceOpenLoop k _ => some (0x28, k % 8)
  | .blSwclr _ die _ => some (0x28, die % 8)
  | .learnStart _ die => some (0x28, die % 8)
  | .learnAbort _ die => some (0x28, die % 8)
  | .currentSuspect => none
  | .currentAgreed => none
  | .curZero _ => none
  | .zeroAutoStart => none
  | .zeroingDone => none
  | .stvCalStr _ => none
  | .stvCalLnk _ => none
  | .stvCalClear _ => none
  | .stvCalDone => none
  | .sageStep => none
  | .writebackPeriod => none
  | .sgeCmdWriteback _ => none
  | .writebackStart => none
  | .writebackDone => none
  | .tableLoad _ => none
  | .tableActivate _ => none
  | .tbldataAccess _ _ => none
  | .sgcBankWrite _ _ => none
  | .sgcReset _ _ => none
  | .limZselWrite _ _ => none
  | .connect _ => none
  | .disconnect _ => none
  | .chargeOn _ => none
  | .chargeOff _ => none
  | .prtClear _ => none
  | .weldclr _ _ => none
  | .pullInEnd _ => none
  | .auxChange _ _ => none
  | .prechargeTimeout => none
  | .prechargeOverlapEnd => none
  | .matchTimeout => none
  | .prechargeCoolEnd => none
  | .coilOvercurrent _ => none
  | .coilCurrentFault _ => none
  | .auxCloseTimeout _ => none
  | .auxOpenTimeout _ => none
  | .cd1HoldEnd => none
  | .deadlineExpiry => none
  | .badChannelsOpen => none
  | .suspectTimeExpiry => none
  | .degradedCellExpiry _ _ => none
  | .cellTempExpiry _ _ => none
  | .limitFrame => none
  | .chargeOffTimeout => none
  | .shoreDetChange _ => none
  | .ringCycle => none
  | .ringStatusMsg _ => none
  | .memberLost _ => none
  | .grantTimeout => none
  | .systemFrame => none
  | .mirrorReceived _ _ _ _ _ => none
  | .mirrorHeaderReply _ => none
  | .adopt _ => none
  | .adoptFetchDone _ _ => none
  | .decline _ => none
  | .cancel _ => none
  | .installAnchor _ => none
  | .enrol _ _ => none
  | .authenticateAll _ => none
  | .autPoll _ => none
  | .slotAuthDone _ _ => none
  | .autKeydataWrite _ _ => none
  | .autSelWrite _ _ => none
  | .lockstepMismatch _ _ => none
  | .arbitration _ _ => none
  | .coreResume _ => none
  | .selfTestSlice _ _ => none
  | .watchdogExpiry => none
  | .degradedTimeExpiry => none
  | .degradedTimeSave => none
  | .leaseAcquire _ _ => none
  | .leaseRelease _ _ => none
  | .leaseExpiry _ => none
  | .mramRecoveryDone _ _ => none
  | .recordAccept => none
  | .flushPeriodic => none
  | .flushStart => none
  | .flushDone => none
  | .rateWindowClose => none
  | .rsmClear _ _ => none
  | .rsmSnapWrite _ _ => none
  | .snapshotExpiry _ => none
  | .rsmRdselWrite _ _ => none
  | .ledgerRecordWrite => none
  | .cylAck _ _ => none
  | .cylRdselWrite _ _ => none
  | .baySamplePair _ _ => none
  | .bayPairLost => none
  | .bayInterval => none
  | .bayCopyWrite => none
  | .bayAux3Change _ => none
  | .bayBreak _ => none
  | .baySet _ _ => none
  | .baySeal _ => none
  | .bayImgOpen _ => none
  | .bayImgData _ => none
  | .bayImgEnd _ _ _ => none
  | .bayMailboxReject _ => none
  | .bayLockoutEnd => none
  | .move _ axis => some (0x41, axis % 6)
  | .home _ axis => some (0x41, axis % 6)
  | .axisStop _ _ => none
  | .axisClear _ axis => some (0x41, axis % 6)
  | .groupStart _ _ => none
  | .groupStop _ _ => none
  | .stopAll _ => none
  | .cycleStart _ => none
  | .cycleEnd a => some (0x41, a % 6)
  | .homePoint a => some (0x41, a % 6)
  | .homingTimeout _ => none
  | .stall _ => none
  | .obstacle _ => none
  | .edgeChange _ _ => none
  | .edgeGapTimeout _ => none
  | .limitSwitch _ => none
  | .setpointQueueEmpty _ => none
  | .standstillDelay a => some (0x41, a % 6)
  | .gdieFrame _ _ _ => none
  | .gdieLinkLost => none
  | .sctest _ axis => some (0x49, axis % 6)
  | .sctestDone a _ => some (0x49, a % 6)
  | .recover _ axis => some (0x49, axis % 6)
  | .gatePulse _ axis _ => some (0x49, axis % 6)
  | .gatePulseEnd a _ _ _ => some (0x49, a % 6)
  | .gdLiveRead _ axis => some (0x49, axis % 6)
  | .qualification a => some (0x49, a % 6)
  | .qualificationDone a _ _ => some (0x49, a % 6)
  | .pwmPeriod a _ => some (0x49, a % 6)
  | .shortCircuitTrip a _ => some (0x49, a % 6)
  | .handshakeTimeout a => some (0x49, a % 6)
  | .vmOutOfRange _ => none
  | .vggUndervoltage => none
  | .supplyRelease _ => none
  | .bootstrapUndervoltage a _ => some (0x49, a % 6)
  | .refreshEpisode a _ _ => some (0x49, a % 6)
  | .chopperOn => none
  | .chopperOff => none
  | .chopperLong => none
  | .lsOutWrite _ b _ => some (0x51, ofBool b)
  | .lsClr _ b _ => some (0x51, ofBool b)
  | .inrushEnd n => some (0x51, n % 16 / 8)
  | .limitTime x => some (0x51, x.chan % 16 / 8)
  | .openLoadChange n _ => some (0x51, n % 16 / 8)
  | .zoneHot _ _ _ => none
  | .zoneSecondCheck _ _ => none
  | .zoneCool _ => none
  | .zoneSensorFault _ => none
  | .shed => none
  | .lsRestart n => some (0x51, n % 16 / 8)
  | .leftReload n => some (0x51, n % 16 / 8)
  | .guardChange _ _ => none
  | .safestopTimeout _ => none
  | .brakeCurrentFault _ => none
  | .brakeSwitchPulse _ _ _ => none
  | .brakeTestStart _ => none
  | .brakeTestDone _ _ _ => none
  | .testBrk0 _ => none
  | .testBrk1 _ => none
  | .propEnPulse _ _ => none
  | .propEnReadback _ => none
  | .propEnLow => none
  | .safetySelfTestSlice _ => none
  | .safetyDegradedExpiry => none
  | .safetyPduReceived _ _ => none
  | .safetyPduSend => none
  | .safetyWatchdogExpiry => none
  | .safUnlock _ _ => none
  | .safNewpw _ _ => none
  | .thermalEval _ _ _ => none
  | .thermalPowerDown _ => none
  | .thermalPauseEnd _ => none
  | .diePowerCycle _ => none
  | .tmpCmd _ _ => none
  | .eccCorrected _ => none
  | .sramDoubleBitError => none
  | .brakeEngagedReadback _ => none
  | .canErrorActive _ _ _ => none

end Sys2Proof.Machine
end

