-- ==== Sys2Proof/Safety.lean ====
section
/-! DEFINITION. What counts as a safe run: every register file stays in its canonical form, and no step stops. -/
namespace Sys2Proof

open Machine

/-- A register file is canonical: addresses rise strictly and no entry holds what an unlisted address reads as. -/
def regsWf : Regs → Bool
  | [] => true
  | [(a, v)] => v != resetAt a
  | (a, v) :: (b, w) :: l => v != resetAt a && decide (a < b) && regsWf ((b, w) :: l)

/-- Both register files of a state are canonical. -/
def Machine.State.filesWf (s : State) : Bool := regsWf s.regs && regsWf s.shadow

/-- Every list a state keeps beside its registers by die, axis, load-switch channel or lease slot has an entry for each. -/
abbrev Machine.State.shaped (s : State) : Prop :=
  s.dieSt.length = 8 ∧ s.mot.axes.length = 6 ∧ s.ls.chans.length = 16 ∧ s.flt.leases.length = 16

/-- A request on the link is executed and answered at once: the module runs, the cores are neither held nor frozen, and the link
and its reply buffer are free (R90, R99, R109, R110, R112, R294, R295). -/
abbrev Machine.State.takes (s : State) (l : Link) : Prop :=
  s.pwr.phase = .run ∧ s.coresHeld = false ∧ s.frozen = false ∧ s.leaseState (replySlot l) = 0 ∧
    match l with
    | .spi => s.links.spi.waiting = none
    | .can0 => s.canUp 0 = true ∧ s.links.can0.frames = []
    | .can1 => s.canUp 1 = true ∧ s.links.can1.frames = []

/-- The two states differ at most in what the links keep. -/
def linksAside (a b : State) : Prop := a = { b with links := a.links }

/-- Since `s` an event of a page, with this low byte of its code and this class, has joined what waits for Rosemary. -/
def Machine.raised (s t : State) (page : Nat) (low : EventLow) (cls : Nat) : Prop :=
  ∃ e ∈ t.rsm.inbox.drop s.rsm.inbox.length, e.page = page ∧ e.low = low ∧ e.cls = cls

/-- The step answers a next state. -/
def goesOn (s : State) : Prop := ∃ t, step s = .next t

end Sys2Proof
end

