-- ==== Sys2Proof/Certificates/Slice0/Obligations.lean ====
section
/-! DEFINITION. The statements about the GM5. A claim says for one command where it completes and what the next state holds,
or what becomes of it where a rule turns it away; an obligation gathers the claims of one family of commands. -/
/-- The pages that a commit of every pending page names, for a link (R82, R398). -/
def Sys2Proof.Machine.State.committable (s : Sys2Proof.Machine.State) (l : Sys2Proof.Link) : List Nat :=
  s.commit.pend.filter fun p => s.safUnlocked l || !Sys2Proof.Machine.safetyPage p

/-- What a write leaves in a word, and its clamps (R78). -/
def Sys2Proof.Machine.State.checked (s : Sys2Proof.Machine.State) (page word : Nat) (v : Sys2Proof.Word) :
    Sys2Proof.Word × List Sys2Proof.Machine.Clamp :=
  match Sys2Proof.Machine.regRow page word with
  | some row => Sys2Proof.Machine.checkWrite (s.rowsOf page word row) (s.shadowReg (Sys2Proof.Machine.addrOf page word)) v
  | none => (s.shadowReg (Sys2Proof.Machine.addrOf page word), [])

namespace Sys2Proof.Claims
open Sys2Proof.Machine Host

/-- The last reply formed on a link refuses its request with a code (R96). -/
def refusedWith (t : State) (l : Link) (code : Nat) : Prop :=
  bit (t.link l).reply.status 3 = true ∧ (t.link l).reply.data = BitVec.ofNat 32 code

/-- The last reply formed on a link does not refuse its request. -/
def granted (t : State) (l : Link) : Prop := bit (t.link l).reply.status 3 = false


/-- No link has a request that waits for the cores. -/
abbrev noneWaits (s : State) : Prop :=
  s.links.spi.waiting = none ∧ s.links.can0.frames = [] ∧ s.links.can1.frames = []

/-! ### Supplies, start-up, laid-up mode -/

/-- R38, R59, R294: at t = 0 the fault line is asserted, PROP_EN is off, no die is powered, and the address is what the pins read.
With a core that passed its self-test every fitted die is to settle next, in dual mode, or degraded on the one core that passed;
with neither the module halts, with PWR_BOOT.STEP 15 and FLT_MODE 3. -/
def startQualified (x : StartUp) (s : State) : Prop :=
  s.pwr.phase = .off → x.addr < 16 → ∃ t, exec (.startQualified x) s = .next t ∧ t.now = 0 ∧ t.pins.fltN = true ∧
    t.pins.propEn = false ∧ t.get F.PWR_MDPWR_MD_ON = 0 ∧ t.get F.KRG_STAT_ADDR = x.addr ∧
    if x.coreA || x.coreB then t.pwr.phase = .startup ∧ t.pwr.settling = List.range t.dies ∧
      t.get F.FLT_MODE_MODE = (if x.coreA && x.coreB then 0 else if x.coreA then 1 else 2)
    else t.pwr.phase = .halt ∧ t.get F.PWR_BOOT_STEP = 15 ∧ t.get F.FLT_MODE_MODE = 3

/-- R59, R62: die k settles during start-up at 12 ms + 2 ms × k or later, while another die still settles: it is on and healthy, its
converters have started, and it settles no more. -/
def mdieSettled (k j : Nat) (s : State) : Prop :=
  s.pwr.phase = .startup → k < 8 → s.dieSt.length = 8 → k ∈ s.pwr.settling → j ∈ s.pwr.settling → j ≠ k →
    ∃ t, exec (.mdieSettled k) s = .next t ∧ t.now = max s.now (12000 + 2000 * k) ∧ bit (t.get F.PWR_MDPWR_MD_ON) k = true ∧
      t.healthy k = true ∧ (t.die k).startedAt = t.now ∧ t.pwr.settling = s.pwr.settling.filter (· != k) ∧ t.pwr.phase = .startup

/-- R131: a die that settles in service is awake, has started its converters and rejoins at the next boundary. -/
def mdieSettledInRun (k : Nat) (s : State) : Prop :=
  s.pwr.phase = .run → k < 8 → s.dieSt.length = 8 → k ∈ s.pwr.settling →
    ∃ t, exec (.mdieSettled k) s = .next t ∧ bit (t.get F.STK_ROUTE_ASLEEP) k = false ∧ (t.die k).startedAt = s.now ∧
      k ∈ t.stk.rejoin ∧ t.pwr.settling = s.pwr.settling.filter (· != k)

/-- R59: with the last die settled step 0x3 begins, and PWR_BOOT.STEP reads 3. -/
def lastDieSettled (k : Nat) (s : State) : Prop :=
  s.pwr.phase = .startup → k < 8 → s.pwr.settling = [k] → s.coresHeld = false →
    ∃ t, exec (.mdieSettled k) s = .next t ∧ t.pwr.settling = [] ∧ t.pwr.phase = .startup ∧ t.get F.PWR_BOOT_STEP = 3

/-- R59, R61: in step 0x3, which ends at a boundary with the cores running, the preferred firmware bank is verified, then the other
one; PWR_BOOT.BANK shows the one that runs. With neither bank good the module halts with PWR_BOOT.STEP 15 and every die powered
down. -/
def firmwareVerified (x : FrameSample) (s : State) : Prop :=
  s.pwr.phase = .startup → s.get F.PWR_BOOT_STEP = 3 → s.coresHeld = false → s.frozen = false →
    ∃ t, exec (.frameBoundary x) s = .next t ∧
      if s.bankOk false || s.bankOk true then t.pwr.phase = .startup ∧ t.get F.PWR_BOOT_STEP = 4 ∧
        t.on F.PWR_BOOT_BANK = (if s.fw.prefB then s.bankOk true else !s.bankOk false)
      else t.pwr.phase = .halt ∧ t.get F.PWR_BOOT_STEP = 15 ∧ t.get F.PWR_MDPWR_MD_ON = 0 ∧ t.get F.SYS_DIEMAP_MD = 0

/-- R62: at start-up, while another die settles, a die that has not settled is retried the first time; the second time it is marked
failed, is off, and settles no more. -/
def mdieSettleTimeout (k j : Nat) (s : State) : Prop :=
  s.pwr.phase = .startup → k < 8 → k ∈ s.pwr.settling → j ∈ s.pwr.settling → j ≠ k →
    ∃ t, exec (.mdieSettleTimeout k) s = .next t ∧
      if k ∈ s.pwr.retried then bit (t.get F.PWR_MDPWR_MD_FAIL) k = true ∧ bit (t.get F.PWR_MDPWR_MD_ON) k = false ∧
        t.pwr.settling = s.pwr.settling.filter (· != k)
      else t.pwr.settling = s.pwr.settling ∧ t.pwr.retried = k :: s.pwr.retried

/-- R58: a store that reaches 38 V sets HUP_OK. One measured below 15 µF sets HUP_FAIL all the same, with its flag and an event of
class 2 where HUP_FAIL was clear. -/
def holdupStoreCharged (s : State) : Prop :=
  s.alive = true → ∃ t, exec .holdupStoreCharged s = .next t ∧ t.on F.PWR_STAT_HUP_OK = true ∧
    t.on F.PWR_STAT_HUP_FAIL = (s.on F.PWR_STAT_HUP_FAIL || decide (s.get F.PWR_HUPCAP_CAP < 150)) ∧
    (s.get F.PWR_HUPCAP_CAP < 150 → s.on F.PWR_STAT_HUP_FAIL = false →
      t.on F.PWR_IFLAG_HUP_FAIL = true ∧ raised s t 0x06 (.flag 2) 2)

/-- R58: a store not at 38 V at 150 ms sets HUP_FAIL, with its flag and an event of class 2. -/
def holdupTimeout (s : State) : Prop :=
  s.alive = true → s.on F.PWR_STAT_HUP_OK = false → s.on F.PWR_STAT_HUP_FAIL = false →
    ∃ t, exec .holdupTimeout s = .next t ∧ t.on F.PWR_STAT_HUP_FAIL = true ∧ t.on F.PWR_IFLAG_HUP_FAIL = true ∧
      raised s t 0x06 (.flag 2) 2 ∧ t.now = max s.now 150000

/-- R59, R117: with step 0x4 complete the module enters RUN at a boundary at a multiple of 4 ms, with the store charged or 150 ms
passed, at which the committed period is active; frame n begins at n ms, and with no source active the fault line is released. -/
def enterRun (x : FrameSample) (s : State) : Prop :=
  s.pwr.phase = .startup → s.get F.PWR_BOOT_STEP = 4 → s.frozen = false → s.coresHeld = false →
    ∃ t, exec (.enterRun x) s = .next t ∧ t.pwr.phase = .run ∧ t.get F.PWR_BOOT_STEP = 5 ∧ t.now % 4000 = 0 ∧ s.now ≤ t.now ∧
      (s.on F.PWR_STAT_HUP_OK = true ∨ 150000 ≤ t.now) ∧ t.get F.THY_STAT_ACTIVE = s.get F.THY_PERIOD_SEL ∧
      t.get F.THY_FSEQ_SEQ = t.now / 1000 % 4294967296 ∧
      (t.get F.CMP_FLSTAT_ACTIVE = 0 → t.line.silent = [] → t.on F.CMP_FLSTAT_ASSERTED = false)

/-- R54: a low supply sets LOW, with its flag and an event of class 1, and LOW clears again. -/
def supplyLow (s : State) : Prop :=
  s.cdieRuns = true → s.on F.PWR_STAT_LOW = false → ∃ t, exec .supplyLow s = .next t ∧ t.on F.PWR_STAT_LOW = true ∧
    t.on F.PWR_IFLAG_LOW = true ∧ raised s t 0x06 (.flag 4) 1
def supplyLowClear (s : State) : Prop :=
  s.cdieRuns = true → ∃ t, exec .supplyLowClear s = .next t ∧ t.on F.PWR_STAT_LOW = false

/-- R55: PWR_WARN sets WARN and COMMIT_INH with its flag, counts, and triggers a flush. -/
def pwrWarn (s : State) : Prop :=
  s.cdieRuns = true → s.on F.PWR_STAT_WARN = false → ∃ t, exec .pwrWarn s = .next t ∧ t.on F.PWR_STAT_WARN = true ∧
    t.on F.PWR_STAT_COMMIT_INH = true ∧ t.on F.PWR_IFLAG_WARN_SET = true ∧
    t.get F.PWR_EVCNT_WARNS = min (s.get F.PWR_EVCNT_WARNS + 1) 65535 ∧ t.rsm.flushDue = true

/-- R55: PWR_WARN clears, with its flag; a write-back that fell due meanwhile starts 1 s later. -/
def pwrWarnClear (s : State) : Prop :=
  s.cdieRuns = true → s.on F.PWR_STAT_WARN = true → ∃ t, exec .pwrWarnClear s = .next t ∧ t.on F.PWR_STAT_WARN = false ∧
    t.on F.PWR_STAT_COMMIT_INH = false ∧ t.on F.PWR_IFLAG_WARN_CLR = true ∧
    t.pwr.writebackAfter = if s.sage.wbDue then some (s.now + 1000000) else s.pwr.writebackAfter

/-- R56: PWR_FAIL asserts the fault line with source 6, drops PROP_EN, turns every load-switch channel off, brings every gate low,
stops power to the dies, and counts; the module runs on the hold-up store. -/
def pwrFail (s : State) : Prop :=
  s.alive = true → ∃ t, exec .pwrFail s = .next t ∧ t.pwr.phase = .holdup ∧ bit (t.get F.CMP_FLSTAT_ACTIVE) 6 = true ∧
    t.on F.CMP_FLSTAT_ASSERTED = true ∧ (s.on F.CMP_FLSTAT_ASSERTED = false → t.pins.fltN = true) ∧ t.pins.propEn = false ∧
    t.get F.LSA_OUT_ON = 0 ∧ t.get (F.LSA_OUT_ON.on 1) = 0 ∧
    (s.hasM = true → ∀ a < 6, (t.axis a).drive = 0 ∧ t.gdState a ≠ 1 ∧
      t.gdState a ≠ 2 ∧ t.gate.pulse.all (fun p => p.1 != a) = true) ∧
    t.get F.PWR_MDPWR_MD_ON = 0 ∧ t.get F.PWR_EVCNT_FAILS = min (s.get F.PWR_EVCNT_FAILS + 1) 65535

/-- R56, R59: at the store's minimum the C-die enters reset, and the next start shows BROWNOUT. -/
def cdieReset (s : State) : Prop :=
  s.pwr.phase = .holdup → exec .cdieReset s = .next { s with pwr := { s.pwr with phase := .off, cause := 2 } }

/-- R63: on a module with a G-die VM_OK follows VM, with its flag. -/
def vmOkChange (ok : Bool) (s : State) : Prop :=
  s.cdieRuns = true → s.hasM = true → s.on F.PWR_STAT_VM_OK ≠ ok → ∃ t, exec (.vmOkChange ok) s = .next t ∧
    t.on F.PWR_STAT_VM_OK = ok ∧ t.on F.PWR_IFLAG_VM = true

/-- R64: with every contactor open and every axis at standstill the key resets the module: the fault line asserts, PROP_EN drops, the
dies lose power, every staged record has been written, and the next start shows HOST. -/
def hostReset (l : Link) (s : State) : Prop :=
  s.takes l → s.anyCdClosed = false → s.anyMoving = false → ∃ t, exec (.hostReset l 0xC0DE) s = .next t ∧
    t.pwr.phase = .off ∧ t.pwr.cause = 4 ∧ t.on F.CMP_FLSTAT_ASSERTED = true ∧
    (s.on F.CMP_FLSTAT_ASSERTED = false → t.pins.fltN = true) ∧ t.pins.propEn = false ∧ t.rsm.staged = [] ∧
    t.get F.PWR_MDPWR_MD_ON = 0
/-- R64: another value, a closed contactor or a moving axis refuses the reset. -/
def hostResetRefused (l : Link) (key : Word) (s : State) : Prop :=
  s.takes l → (key ≠ 0xC0DE ∨ s.anyCdClosed = true ∨ s.anyMoving = true) → ∃ t, exec (.hostReset l key) s = .next t ∧
    linksAside t s.refreshShown ∧ refusedWith t l 0x0A

/-- R65: with every contactor open, every axis at standstill, SHORE_DET and WAKE_N clear and no PWR_WARN the key lays the module up:
the fault line asserts, PROP_EN drops, every staged record has been written, the dies and the G-die lose power. -/
def layupEnter (l : Link) (s : State) : Prop :=
  s.takes l → s.anyCdClosed = false → s.anyMoving = false → s.pins.shoreDet = false → s.on F.PWR_STAT_WARN = false →
    ∃ t, exec (.layupEnter l 0x1A1D false) s = .next t ∧ t.pwr.phase = .laidUp ∧
      t.on F.CMP_FLSTAT_ASSERTED = true ∧ (s.on F.CMP_FLSTAT_ASSERTED = false → t.pins.fltN = true) ∧ t.pins.propEn = false ∧
      t.rsm.staged = [] ∧ t.get F.PWR_MDPWR_MD_ON = 0 ∧ t.gdieDown = s.hasM
/-- R65: another value, WAKE_N, a closed contactor, a moving axis, SHORE_DET or PWR_WARN refuses the laying up. -/
def layupRefused (l : Link) (key : Word) (wakeN : Bool) (s : State) : Prop :=
  s.takes l → (key ≠ 0x1A1D ∨ wakeN = true ∨ s.anyCdClosed = true ∨ s.anyMoving = true ∨ s.pins.shoreDet = true ∨
      s.on F.PWR_STAT_WARN = true) →
    ∃ t, exec (.layupEnter l key wakeN) s = .next t ∧ t.pwr = s.pwr ∧ t.gdieDown = s.gdieDown ∧ refusedWith t l 0x0A

/-- R66: an enabled source wakes the module, with its bit for PWR_RSTCAUSE; a lost supply discards the cause, and the next start shows
POWER_ON. -/
def layupWake (source : Nat) (s : State) : Prop :=
  s.pwr.phase = .laidUp → source < 2 →
    (if source = 0 then s.on F.PWR_LAYCFG_SHORE_EN else s.on F.PWR_LAYCFG_WAKEN_EN) = true →
    exec (.layupWake source) s = .next { s with pwr := { s.pwr with phase := .off, cause := if source = 0 then 8 else 16 } }
def layupSupplyLost (s : State) : Prop :=
  s.pwr.phase = .laidUp → exec .layupSupplyLost s = .next { s with pwr := { s.pwr with phase := .off, cause := 1 } }

/-- R38: a change of the ADDR pins in service leaves the sampled address and raises an event of class 1. -/
def addrChange (addr : Nat) (s : State) : Prop :=
  s.alive = true → addr < 16 → addr ≠ s.pins.addr → ∃ t, exec (.addrChange addr) s = .next t ∧ t.pins.addr = addr ∧
    t.get F.KRG_STAT_ADDR = s.get F.KRG_STAT_ADDR ∧ ∃ e ∈ t.rsm.inbox.drop s.rsm.inbox.length, e.page = 0x12 ∧ e.cls = 1

/-! ### Host links -/

/-- The same state to a host but for what the links keep, and TOGGLE of the link inverted (R101). -/
def afterReply (t u s : State) (l : Link) : Prop := linksAside t u ∧ (t.link l).toggle = !(s.link l).toggle

/-- R95, R101 to R104: a READ returns the word with STALE and REPEAT, has the effects of the read and inverts TOGGLE; nothing else
changes but the words that show the moment. -/
def read (l : Link) (r : Req) (s : State) : Prop :=
  s.takes l → ∃ t, exec (.read l r) s = .next t ∧ granted t l ∧
    (t.link l).reply.page = r.page.toNat ∧ (t.link l).reply.word = r.word.toNat ∧
    (t.link l).reply.data = (s.refreshShown.beforeRead r.page.toNat r.word.toNat).readWord l r.page.toNat r.word.toNat ∧
    bit (t.link l).reply.status 6 = s.refreshShown.staleOf l r.page.toNat r.word.toNat r.data ∧
    bit (t.link l).reply.status 5 = s.refreshShown.repeatOf l r.page.toNat r.word.toNat ∧
    afterReply t ((s.refreshShown.beforeRead r.page.toNat r.word.toNat).readEffect l r.page.toNat r.word.toNat) s l

/-- R6, R70: in an absent page PID reads 0xFFFF0000 and every other word 0, and a write is refused with code 0x01 and changes nothing
but the words that show the moment. -/
def absentPage (l : Link) (r : Req) (s : State) : Prop :=
  s.takes l → s.fitted r.page.toNat = false →
    (∃ t, exec (.read l r) s = .next t ∧ granted t l ∧ (t.link l).reply.data = if r.word = 0 then 0xFFFF0000 else 0) ∧
    ∃ t, exec (.write l r) s = .next t ∧ refusedWith t l 0x01 ∧ linksAside t s.refreshShown

/-- R106: a NOP receives the next word of an open burst with its address, and otherwise 0, and changes nothing else but the words
that show the moment. -/
def nop (l : Link) (r : Req) (s : State) : Prop :=
  s.takes l → ∃ t, exec (.nop l r) s = .next t ∧ granted t l ∧ afterReply t s.refreshShown s l ∧
    (t.link l).reply.data = ((s.link l).burst.head?.map fun b => b.data).getD 0 ∧
    (t.link l).burst = (s.link l).burst.tail ∧
    (∀ b ∈ (s.link l).burst.head?, (t.link l).reply.page = b.addr / 256 ∧ (t.link l).reply.word = b.addr % 256)

/-- R106: a BURST_READ takes the addresses of DATA[7:0] + 1 words from WORD on, cut at word 0xFF, and answers FRAMESEQ of its page
without REPEAT. -/
def burstRead (l : Link) (r : Req) (s : State) : Prop :=
  s.takes l → ∃ t, exec (.burstRead l r) s = .next t ∧ granted t l ∧
    (t.link l).burst.map (fun b => b.addr) =
      (List.range (min (r.data.toNat % 256 + 1) (256 - r.word.toNat))).map (fun i => addrOf r.page.toNat (r.word.toNat + i)) ∧
    (t.link l).reply.data = (if s.fitted r.page.toNat then s.refreshShown.reg (addrOf r.page.toNat 7) else 0) ∧
    bit (t.link l).reply.status 5 = false

/-- R106: the words a BURST_READ copies, where reading none of them has an effect, are those a READ would return. -/
def burstWords (l : Link) (r : Req) (s : State) : Prop :=
  s.takes l → r.page ≠ 3 → r.page ≠ 0x0C → ¬ (0x49 ≤ r.page.toNat ∧ r.page.toNat ≤ 0x4E) →
    (∀ w ∈ List.range' r.word.toNat (min (r.data.toNat % 256 + 1) (256 - r.word.toNat)),
      w ≠ 6 ∧ wordHas r.page.toNat w .rc = false) →
    ∃ t, exec (.burstRead l r) s = .next t ∧ (t.link l).burst.map (fun b => b.data) =
      (List.range' r.word.toNat (min (r.data.toNat % 256 + 1) (256 - r.word.toNat))).map fun w =>
        s.refreshShown.readWord l r.page.toNat w

/-- R97: a STATUS request returns the summary word, ends an open burst and changes nothing else but the words that show the
moment. -/
def status (l : Link) (r : Req) (s : State) : Prop :=
  s.takes l → ∃ t, exec (.status l r) s = .next t ∧ granted t l ∧ (t.link l).reply.data = s.refreshShown.summary ∧
    afterReply t s.refreshShown s l ∧ (t.link l).burst = []

/-- R96: an unknown OP, or reserved bits not 0, is refused with code 0x06 and changes nothing but the words that show the moment. -/
def unknownOp (l : Link) (op rsv : BitVec 4) (r : Req) (s : State) : Prop :=
  s.takes l → ∃ t, exec (.unknownOp l op rsv r) s = .next t ∧ refusedWith t l 0x06 ∧ afterReply t s.refreshShown s l

/-- R100: a frame that fails its CRC or length is not executed: the next reply carries CRCERR, the PAGE and WORD received and DATA 0,
the error is counted and flagged, an open burst stays open, and nothing else changes. -/
def crcErrorFrame (page word : Byte) (a : Nat) (s : State) : Prop :=
  s.linksUp = true → s.links.spi.waiting = none → s.leaseState (replySlot .spi) = 0 → ∃ t, exec (.crcErrorFrame page word) s = .next t ∧
    bit t.links.spi.reply.status 2 = true ∧ t.links.spi.reply.page = page.toNat ∧ t.links.spi.reply.word = word.toNat ∧
    t.links.spi.reply.data = 0 ∧ t.get F.HST_SPIERR_FRAMEERR = min (s.get F.HST_SPIERR_FRAMEERR + 1) 65535 ∧
    t.on F.HST_IFLAG_SPI_ERR = true ∧ t.links.spi.burst = s.links.spi.burst ∧
    (a ≠ F.HST_SPIERR_FRAMEERR.addr → a ≠ F.HST_IFLAG_SPI_ERR.addr → a ≠ addrOf 1 7 → t.reg a = s.reg a) ∧
    t = { s with regs := t.regs, links := t.links, published := t.published }

/-- R99: a frame that begins too early is discarded and answered with code 0x05 and PAGE and WORD of the frame before, counted
and flagged; the reply in hand leaves one frame later. -/
def spiNotReady (s : State) : Prop :=
  s.linksUp = true → ∃ t, exec .spiNotReady s = .next t ∧
    t.links.spi.sent = (s.refusal s.links.spi.echo.1 s.links.spi.echo.2 0x05).bits (!s.links.spi.toggle) ∧
    t.get F.HST_SPIERR_NOTREADY = min (s.get F.HST_SPIERR_NOTREADY + 1) 65535 ∧ t.on F.HST_IFLAG_SPI_NOTREADY = true ∧
    t.links.spi.reply = s.links.spi.reply ∧ t.links.spi.waiting = s.links.spi.waiting ∧
    t.links.spi.toggle = !s.links.spi.toggle

/-- R110, R111: the records of a request frame in the format of its port are executed and answered in one reply frame of the same
format and length with the next identifier. -/
def canRequestFrame (port : Bool) (f : CanFrame) (s : State) : Prop :=
  s.takes (canLink (ofBool port)) → f.id = s.reqId (ofBool port) → f.ide = s.on (F.HST_CAN0CFG_IDE.at (ofBool port)) →
    f.bytes.length ≤ (if f.fd then 64 else 8) → f.bytes.length % 8 = 0 → f.bytes ≠ [] →
    ∃ t, exec (.canRequestFrame port f) s = .next t ∧ (t.link (canLink (ofBool port))).frames = [] ∧
      ((t.link (canLink (ofBool port))).tx.map fun x => (x.id, x.ide, x.fd, x.bytes.length)) =
        some (s.reqId (ofBool port) + 1, f.ide, f.fd, f.bytes.length)

/-- R111: a request frame of a length that is no whole number of records is discarded with its port's DROP flag: the port answers
nothing. -/
def canFrameDropped (port : Bool) (f : CanFrame) (s : State) : Prop :=
  s.linksUp = true → s.canUp (ofBool port) = true → f.id = s.reqId (ofBool port) →
    f.ide = s.on (F.HST_CAN0CFG_IDE.at (ofBool port)) → f.bytes.length ≤ (if f.fd then 64 else 8) → f.bytes.length % 8 ≠ 0 →
    ∃ t, exec (.canRequestFrame port f) s = .next t ∧ t.links = s.links ∧
      t.on (if port then F.HST_IFLAG_CAN1_DROP else F.HST_IFLAG_CAN0_DROP) = true

/-- R110: a port's error state and counters follow the bus; a bus-off is counted, and its recovery starts the counters at 0. -/
def canErrorPassive (port : Bool) (tec recv : Nat) (s : State) : Prop :=
  s.linksUp = true → s.canUp (ofBool port) = true → ∃ t, exec (.canErrorPassive port tec recv) s = .next t ∧
    t.get (F.HST_CAN0ST_STATE.at (ofBool port)) = 1 ∧ t.get (F.HST_CAN0ST_TEC.at (ofBool port)) = min tec 255 ∧
    t.get (F.HST_CAN0ST_REC.at (ofBool port)) = min recv 255 ∧
    t.on (if port then F.HST_IFLAG_CAN1_PASSIVE else F.HST_IFLAG_CAN0_PASSIVE) = true
def canErrorActive (port : Bool) (tec recv : Nat) (s : State) : Prop :=
  s.linksUp = true → s.get (F.HST_CAN0ST_STATE.at (ofBool port)) = 1 → ∃ t, exec (.canErrorActive port tec recv) s = .next t ∧
    t.get (F.HST_CAN0ST_STATE.at (ofBool port)) = 0 ∧ t.get (F.HST_CAN0ST_TEC.at (ofBool port)) = min tec 255 ∧
    t.get (F.HST_CAN0ST_REC.at (ofBool port)) = min recv 255
def canBusOff (port : Bool) (s : State) : Prop :=
  s.linksUp = true → s.canUp (ofBool port) = true → ∃ t, exec (.canBusOff port) s = .next t ∧
    t.get (F.HST_CAN0ST_STATE.at (ofBool port)) = 2 ∧ t.get (F.HST_CAN0ST_TEC.at (ofBool port)) = 255 ∧
    t.get (F.HST_CAN0ST_BUSOFFS.at (ofBool port)) = min (s.get (F.HST_CAN0ST_BUSOFFS.at (ofBool port)) + 1) 255 ∧
    t.on (if port then F.HST_IFLAG_CAN1_BUSOFF else F.HST_IFLAG_CAN0_BUSOFF) = true
def canBusoffRecovery (port : Bool) (s : State) : Prop :=
  s.linksUp = true → s.get (F.HST_CAN0ST_STATE.at (ofBool port)) = 2 → ∃ t, exec (.canBusoffRecovery port) s = .next t ∧
    t.get (F.HST_CAN0ST_STATE.at (ofBool port)) = 0 ∧ t.get (F.HST_CAN0ST_TEC.at (ofBool port)) = 0 ∧
    t.get (F.HST_CAN0ST_REC.at (ofBool port)) = 0

/-- R113: an unreported ATTN outside the 10 ms window sends one STATUS reply frame of 8 bytes, and opens the window. -/
def attnMessage (port : Bool) (s : State) : Prop :=
  s.linksUp = true → s.attnMessages (ofBool port) = true → s.attention = true →
    (s.link (canLink (ofBool port))).attnTold = false → (s.link (canLink (ofBool port))).attnWindow = none →
    ∃ t, exec (.attnMessage port) s = .next t ∧ linksAside t s ∧
      (t.link (canLink (ofBool port))).attnWindow = some (s.now + 10000) ∧
      (t.link (canLink (ofBool port))).attnTold = true ∧
      (t.link (canLink (ofBool port))).sent = (s.serveStatus 0 0).bits (!(s.link (canLink (ofBool port))).toggle) ∧
      ((t.link (canLink (ofBool port))).tx.map fun x => (x.id, x.bytes)) =
        some (s.reqId (ofBool port) + 1, bytesOf64 (t.link (canLink (ofBool port))).sent)
/-- R113: at the end of the window an ATTN that has set again is reported by one frame, which opens the next window; else no window
is open. -/
def attnMsgWindowEnd (port : Bool) (e : Nat) (s : State) : Prop :=
  (s.link (canLink (ofBool port))).attnWindow = some e → ∃ t, exec (.attnMsgWindowEnd port) s = .next t ∧ t.now = max s.now e ∧
    if s.linksUp = true ∧ s.attnMessages (ofBool port) = true ∧ s.attention = true ∧
        (s.link (canLink (ofBool port))).attnTold = false then
      (t.link (canLink (ofBool port))).attnWindow = some (t.now + 10000) ∧
      ((t.link (canLink (ofBool port))).tx.map fun x => (x.id, x.bytes.length)) = some (s.reqId (ofBool port) + 1, 8)
    else (t.link (canLink (ofBool port))).attnWindow = none

/-! ### Register pages, commit, password, firmware -/

/-- R78, R80: a WRITE of a legal value to a configuration word stores it in the shadow, marks the page pending, and leaves the
active copy and every other shadow word alone but for the words that show the moment. -/
def write (l : Link) (r : Req) (s : State) : Prop :=
  s.takes l → s.fitted r.page.toNat = true → 8 ≤ r.word.toNat → wordHas r.page.toNat r.word.toNat .rws = true →
    (safetyPage r.page.toNat = true → s.safUnlocked l = true) →
    (s.checked r.page.toNat r.word.toNat r.data).2 = [] →
    ∃ t, exec (.write l r) s = .next t ∧ granted t l ∧ r.page.toNat ∈ t.commit.pend ∧
      t.shadowReg (addrOf r.page.toNat r.word.toNat) =
        (s.checked r.page.toNat r.word.toNat r.data).1 ∧
      t.regs = s.refreshShown.regs ∧ t.shadow = storeReg (resetAt (addrOf r.page.toNat r.word.toNat)) (addrOf r.page.toNat r.word.toNat)
        (t.shadowReg (addrOf r.page.toNat r.word.toNat)) s.shadow

/-- R75, R78, R79: a value outside a field's legal set is clamped, the shadow takes the clamped word, the reply carries CLAMPED,
the clamps are counted in CLAMP of the page, and CFG_IFLAG.CLAMP sets. -/
def writeClamped (l : Link) (r : Req) (s : State) : Prop :=
  s.takes l → s.fitted r.page.toNat = true → 8 ≤ r.word.toNat → wordHas r.page.toNat r.word.toNat .rws = true →
    (safetyPage r.page.toNat = true → s.safUnlocked l = true) →
    (s.checked r.page.toNat r.word.toNat r.data).2 ≠ [] →
    ∃ t, exec (.write l r) s = .next t ∧ granted t l ∧ bit (t.link l).reply.status 4 = true ∧ r.page.toNat ∈ t.commit.pend ∧
      t.shadowReg (addrOf r.page.toNat r.word.toNat) =
        (s.checked r.page.toNat r.word.toNat r.data).1 ∧
      bitsOf (t.reg (addrOf r.page.toNat 6)) 31 24 =
        min (bitsOf (s.reg (addrOf r.page.toNat 6)) 31 24 + (s.checked r.page.toNat r.word.toNat r.data).2.length) 255 ∧ t.on F.CFG_IFLAG_CLAMP = true

/-- R77: a write to a common word other than PCTL, IFLAG and IMASK, or to a word with no writable field, is refused with code 0x02
and changes nothing but the words that show the moment. -/
def writeReadOnly (l : Link) (r : Req) (s : State) : Prop :=
  s.takes l → s.fitted r.page.toNat = true → (r.word.toNat ∈ [0, 1, 5, 6, 7] ∨ (8 ≤ r.word.toNat ∧
    (wordHas r.page.toNat r.word.toNat .rws || wordHas r.page.toNat r.word.toNat .rw ||
      wordHas r.page.toNat r.word.toNat .wo) = false)) →
    ∃ t, exec (.write l r) s = .next t ∧ refusedWith t l 0x02 ∧ linksAside t s.refreshShown

/-- R82: a commit of every pending page that passes its checks is accepted, takes the next sequence number, and clears the
pending bits of its pages. SAF and SCH take part only for a link with the safety unlock (R398). -/
def commit (l : Link) (r : Req) (s : State) : Prop :=
  s.takes l → s.commit.accepted = none → r.data = 0xFFFF → s.crossField (s.committable l) = none →
    s.liveUnsafe (s.committable l) = none → s.committable l ≠ [] →
    ∃ t, exec (.commit l r) s = .next t ∧ granted t l ∧
      t.reg F.CFG_CMTSEQ_SEQ.addr = s.reg F.CFG_CMTSEQ_SEQ.addr + 1 ∧
      (t.link l).reply.data = s.reg F.CFG_CMTSEQ_SEQ.addr + 1 ∧
      (t.commit.accepted.map fun a => (a.pages, a.seq, a.time)) =
        some (s.committable l, s.reg F.CFG_CMTSEQ_SEQ.addr + 1, s.now) ∧
      t.commit.pend = s.commit.pend.filter (fun p => !(s.committable l).contains p) ∧
      t.get F.CFG_STAGE_STATE = 1 ∧ t.get F.CFG_RESULT_CODE = 0

/-- R82: a commit of one pending page that passes its checks is accepted with that page alone. -/
def commitOne (l : Link) (r : Req) (p : Nat) (s : State) : Prop :=
  s.takes l → s.commit.accepted = none → r.data.toNat = p → p ≤ 0x7F → p ≠ 0 → p ≠ 2 → s.fitted p = true →
    (safetyPage p = true → s.safUnlocked l = true) → s.commit.pend.filter (· == p) = [p] → s.crossField [p] = none →
    s.liveUnsafe [p] = none → ∃ t, exec (.commit l r) s = .next t ∧ granted t l ∧
      (t.link l).reply.data = s.reg F.CFG_CMTSEQ_SEQ.addr + 1 ∧
      (t.commit.accepted.map fun a => (a.pages, a.seq)) = some ([p], s.reg F.CFG_CMTSEQ_SEQ.addr + 1) ∧
      t.commit.pend = s.commit.pend.filter (· != p) ∧ t.get F.CFG_STAGE_STATE = 1

/-- R82: a value that names no page is refused with CODE 4. -/
def commitNoPage (l : Link) (r : Req) (s : State) : Prop :=
  s.takes l → s.commit.accepted = none → 0x7F < r.data.toNat → r.data ≠ 0xFFFF → ∃ t, exec (.commit l r) s = .next t ∧
    refusedWith t l 0x04 ∧ t.get F.CFG_RESULT_CODE = 4 ∧ t.commit = s.commit

/-- R82: a commit while another is not complete is refused as BUSY and takes no sequence number; one with nothing pending is
accepted as EMPTY and completes at once. -/
def commitBusy (l : Link) (r : Req) (s : State) : Prop :=
  s.takes l → s.commit.accepted.isSome = true → ∃ t, exec (.commit l r) s = .next t ∧ refusedWith t l 0x04 ∧
    t.get F.CFG_RESULT_CODE = 3 ∧ t.on F.CFG_IFLAG_REFUSE = true ∧
    t.reg F.CFG_CMTSEQ_SEQ.addr = s.reg F.CFG_CMTSEQ_SEQ.addr ∧ t.commit = s.commit
def commitEmpty (l : Link) (r : Req) (s : State) : Prop :=
  s.takes l → s.commit.accepted = none → r.data = 0xFFFF → s.committable l = [] →
    ∃ t, exec (.commit l r) s = .next t ∧ granted t l ∧ t.get F.CFG_RESULT_CODE = 6 ∧ t.get F.CFG_STAGE_STATE = 3 ∧
      t.on F.CFG_IFLAG_DONE = true ∧ t.reg F.CFG_CMTSEQ_SEQ.addr = s.reg F.CFG_CMTSEQ_SEQ.addr ∧ t.commit = s.commit

/-- R83: at the first boundary at least 100 µs after acceptance the pages of one island apply: their CMTSEQ takes the sequence
number, and the pages of later islands wait for later boundaries. -/
def commitStep (a : Accepted) (s : State) : Prop :=
  s.commit.accepted = some a → a.time + 100 ≤ s.nextBoundary → a.last ≠ some s.nextBoundary →
    ∃ t, exec .commitStep s = .next t ∧ t.now = max s.now s.nextBoundary ∧
      (∀ p ∈ a.pages.filter (fun p => islandOf p == nextIsland a.pages), t.reg (addrOf p 5) = a.seq) ∧
      (t.commit.accepted.map fun c => c.pages) =
        (if a.pages.filter (fun p => islandOf p != nextIsland a.pages) = [] then none
          else some (a.pages.filter fun p => islandOf p != nextIsland a.pages)) ∧
      t.get F.CFG_STAGE_STATE = if a.pages.filter (fun p => islandOf p != nextIsland a.pages) = [] then 3 else 2

/-- R81: discarding a page copies its active configuration into its shadow and clears its pending bit. -/
def cfgDiscard (l : Link) (p : Nat) (s : State) : Prop :=
  s.takes l → s.fitted p = true → p ≠ 0 → p ≠ 2 → ∃ t, exec (.cfgDiscard l (BitVec.ofNat 32 p)) s = .next t ∧
    p ∉ t.commit.pend ∧ (∀ w ∈ configWords, t.shadowReg (addrOf p w) = s.reg (addrOf p w)) ∧ t.regs = s.refreshShown.regs

/-- R72: EN is written on any page when set, and on a block that is not active when cleared; RST of a block that is not active
clears its flags and itself and leaves EN. Elsewhere, and while the block is active, clearing EN and setting RST are refused with
code 0x09. -/
def pctlEn (l : Link) (page : Byte) (en : Bool) (s : State) : Prop :=
  s.takes l → s.fitted page.toNat = true → (en = true ∨ (blockControl page.toNat = true ∧ s.blockActive page.toNat = false)) →
    ∃ t, exec (.pctlEn l page en) s = .next t ∧ granted t l ∧ t.enabled page.toNat = en
def pctlRst (l : Link) (page : Byte) (s : State) : Prop :=
  s.takes l → s.fitted page.toNat = true → blockControl page.toNat = true → s.blockActive page.toNat = false →
    ∃ t, exec (.pctlRst l page) s = .next t ∧ granted t l ∧ t.enabled page.toNat = s.enabled page.toNat ∧
      bit (t.reg (addrOf page.toNat 2)).toNat 1 = false ∧ t.reg (addrOf page.toNat 3) = 0
def pctlRefused (l : Link) (page : Byte) (s : State) : Prop :=
  s.takes l → s.fitted page.toNat = true → (blockControl page.toNat = false ∨ s.blockActive page.toNat = true) →
    (∃ t, exec (.pctlEn l page false) s = .next t ∧ refusedWith t l 0x09 ∧ linksAside t s.refreshShown) ∧
    ∃ t, exec (.pctlRst l page) s = .next t ∧ refusedWith t l 0x09 ∧ linksAside t s.refreshShown

/-- R73: writing 1 clears the flags of a page; nothing else changes but the words that show the moment. -/
def iflagClear (l : Link) (page : Byte) (bits : Word) (s : State) : Prop :=
  s.takes l → s.fitted page.toNat = true → checkWrite (flagRows page.toNat) 0 bits = (bits, []) →
    ∃ t, exec (.iflagClear l page bits) s = .next t ∧ granted t l ∧
      linksAside t (s.refreshShown.setReg (addrOf page.toNat 3) (s.reg (addrOf page.toNat 3) &&& ~~~bits))

/-- R88: the CFG password unlocks the link for 300 s; 0xFFFFFFFF relocks it. -/
def cfgUnlock (l : Link) (pw : Word) (s : State) : Prop :=
  s.takes l → (pw = 0xFFFFFFFF ∨ (isBcd pw = true ∧ s.lockedOut false = false ∧ pw = s.pw.pw)) →
    ∃ t, exec (.cfgUnlock l pw) s = .next t ∧ granted t l ∧
      (t.link l).cfgUntil = (if pw = 0xFFFFFFFF then none else some (s.now + 300000000)) ∧
      linksAside t (if pw = 0xFFFFFFFF then s.refreshShown
        else { s.refreshShown with pw := { s.pw with tries := 0, lockedUntil := none } })

/-- R88: a value that is not BCD is refused and is no try; a wrong one is refused and counted, and the fifth in a row starts a
lockout of 600 s with CFG_IFLAG.LOCKOUT, which refuses every unlock. That a lockout refuses the right value too is the model's
reading (log entry 13). -/
def cfgUnlockWrong (l : Link) (pw : Word) (s : State) : Prop :=
  s.takes l → pw ≠ 0xFFFFFFFF → s.lockedOut false = false → pw ≠ s.pw.pw →
    ∃ t, exec (.cfgUnlock l pw) s = .next t ∧ refusedWith t l 0x0A ∧ (t.link l).cfgUntil = (s.link l).cfgUntil ∧
      t.pw = (if isBcd pw = false then s.pw else if s.pw.tries + 1 < 5 then { s.pw with tries := s.pw.tries + 1 }
        else { s.pw with tries := 0, lockedUntil := some (s.now + 600000000) }) ∧
      (isBcd pw = true → 5 ≤ s.pw.tries + 1 → t.on F.CFG_IFLAG_LOCKOUT = true)
def cfgUnlockLockedOut (l : Link) (pw : Word) (s : State) : Prop :=
  s.takes l → pw ≠ 0xFFFFFFFF → s.lockedOut false = true →
    ∃ t, exec (.cfgUnlock l pw) s = .next t ∧ refusedWith t l 0x0A ∧ linksAside t s.refreshShown

/-- R88, R397: an unlock lapses, and a lockout ends, at its time. -/
def unlockExpiry (l : Link) (saf : Bool) (e : Nat) (s : State) : Prop :=
  (if saf then (s.link l).safUntil else (s.link l).cfgUntil) = some e → ∃ t, exec (.unlockExpiry l saf) s = .next t ∧
    (if saf then (t.link l).safUntil else (t.link l).cfgUntil) = none ∧ linksAside t { s with now := max s.now e }
def lockoutEnd (saf : Bool) (e : Nat) (s : State) : Prop :=
  (s.password saf).lockedUntil = some e → ∃ t, exec (.lockoutEnd saf) s = .next t ∧ t.now = max s.now e ∧
    (t.password saf).lockedUntil = none ∧ (t.password saf).pw = (s.password saf).pw

/-- R88: an unlocked link sets a new BCD password by a journaled write; a locked one is refused with code 0x03, as are CFG_DEFAULT
and every command of the firmware update, and changes nothing but the words that show the moment. -/
def cfgNewpw (l : Link) (pw : Word) (s : State) : Prop :=
  s.takes l → s.unlocked l = true → isBcd pw = true → ∃ t, exec (.cfgNewpw l pw) s = .next t ∧ granted t l ∧
    t.pw = { s.pw with pw := pw } ∧ t.journal = s.journal ++ [⟨s.coreParty, [.password false s.pw.pw]⟩]
def lockedLinkRefused (l : Link) (v : Word) (s : State) : Prop :=
  s.takes l → s.unlocked l = false → ∀ c ∈ [Instr.cfgNewpw l v, .cfgDefault l v, .fwOpen l, .fwVerify l, .fwActivate l, .fwAbandon l],
    ∃ t, exec c s = .next t ∧ refusedWith t l 0x03 ∧ linksAside t s.refreshShown

/-- R88: the key loads the Reset values into the shadows of every RWS page but SAF and SCH and marks the pages pending; the active
copy stays but for the words that show the moment. -/
def cfgDefault (l : Link) (p w : Nat) (s : State) : Prop :=
  s.takes l → s.unlocked l = true → p ∈ s.pages → w ∈ rwsWords p → safetyPage p = false →
    ∃ t, exec (.cfgDefault l 0xDEF) s = .next t ∧ granted t l ∧ t.shadowReg (addrOf p w) = resetWord p w ∧
      p ∈ t.commit.pend ∧ t.regs = s.refreshShown.regs

/-- R89: OPEN invalidates the bank that does not run, and opens a session on it; no word of either bank's image
changes yet. -/
def fwOpen (l : Link) (s : State) : Prop :=
  s.takes l → s.unlocked l = true → s.fwState ≠ 2 → ∃ t, exec (.fwOpen l) s = .next t ∧ granted t l ∧ t.fwState = 1 ∧
    t.fw.targetB = !s.runsB ∧ (if s.runsB then t.fw.verA = 0 ∧ t.fw.verB = s.fw.verB ∧ t.reg F.SYS_FWVER_A_BUILD.addr = 0
      else t.fw.verB = 0 ∧ t.fw.verA = s.fw.verA ∧ t.reg F.SYS_FWVER_B_BUILD.addr = 0) ∧
    t.fw.bankA = s.fw.bankA ∧ t.fw.bankB = s.fw.bankB
/-- R89: each write to CFG_FWDATA takes four bytes for the offset, which advances by 4; they are stored in the target bank when the
MRAM write port is open to device firmware and nothing stands before them there, and wait else. -/
def fwData (l : Link) (v : Word) (s : State) : Prop :=
  s.takes l → s.fwState = 1 → s.get F.CFG_FWADDR_OFFSET < 2097148 → ∃ t, exec (.fwData l v) s = .next t ∧ granted t l ∧
    (if s.beforeImage = false ∧ s.portOpen s.coreParty = true then
        (if s.fw.targetB then t.fw.bankB else t.fw.bankA).head? = some (s.get F.CFG_FWADDR_OFFSET, v) ∧ t.fw.waiting = []
      else t.fw.waiting = s.fw.waiting ++ [(s.get F.CFG_FWADDR_OFFSET, v)]) ∧ t.get F.CFG_FWADDR_OFFSET = s.get F.CFG_FWADDR_OFFSET + 4
/-- R89: VERIFY starts the check of an open session; once every word is stored its result appears in CFG_FWSTAT with FWDONE, and the
preferred bank stays. -/
def fwVerify (l : Link) (s : State) : Prop :=
  s.takes l → s.unlocked l = true → s.fwState = 1 → ∃ t, exec (.fwVerify l) s = .next t ∧ granted t l ∧ t.fwState = 2 ∧
    t.fw = s.fw
def fwVerifyDone (pass : Bool) (version : Word) (s : State) : Prop :=
  s.fwState = 2 → s.fw.waiting = [] → ∃ t, exec (.fwVerifyDone pass version) s = .next t ∧ t.fwState = (if pass then 3 else 4) ∧
    t.on F.CFG_IFLAG_FWDONE = true ∧ t.fw.prefB = s.fw.prefB ∧ (pass = false → t.fw = s.fw)
/-- R89: ACTIVATE is accepted only after VERIFY has passed, and makes the target the preferred bank; else it is refused with code
0x0A and changes nothing but the words that show the moment. -/
def fwActivate (l : Link) (s : State) : Prop :=
  s.takes l → s.unlocked l = true → ∃ t, exec (.fwActivate l) s = .next t ∧
    if s.fwState = 3 then granted t l ∧ t.fw.prefB = s.fw.targetB ∧ t.fwState = 5 else refusedWith t l 0x0A ∧ linksAside t s.refreshShown
/-- R89: ABANDON closes the session, and the target stays invalid. -/
def fwAbandon (l : Link) (s : State) : Prop :=
  s.takes l → s.unlocked l = true → (s.fwState = 1 ∨ s.fwState = 3 ∨ s.fwState = 4) →
    ∃ t, exec (.fwAbandon l) s = .next t ∧ granted t l ∧ t.fwState = 0 ∧ (if s.fw.targetB then t.fw.verB = 0 else t.fw.verA = 0) ∧
      t.fw.prefB = s.fw.prefB

/-! ### Frames, time, the stack link -/

/-- R24, R117, R121: in service a boundary raises the frame sequence by one, the frame that ended publishes on the page of a healthy
die that had a path and delivered, its cell words carrying the sequence, and the frame that begins is quiet where its number is 7
modulo 8. -/
def frameBoundary (x : FrameSample) (k i : Nat) (s : State) : Prop :=
  s.running = true → s.shaped → k < s.dies → k < 8 → i < 64 → s.stk.rejoin = [] → (s.die k).late = none → s.healthy k = true →
    (∀ e ∈ s.stk.lostSince, e.1 = k → s.thy.boundary ≤ e.2) → (s.die k).held.isSome = true →
    ((x.dies[k]?).getD {}).delivered = true →
    ∃ t, exec (.frameBoundary x) s = .next t ∧ t.frame = s.frame + 1 ∧ t.now = max s.now s.nextBoundary ∧
      t.thy.boundary = s.nextBoundary ∧ t.reg (addrOf (0x20 + k) 7) = s.frame ∧
      bitsOf (t.reg (addrOf (0x20 + k) (0x60 + i))) 31 28 = s.frame.toNat % 16 ∧
      t.get F.THY_STAT_PHASE = t.frame.toNat % 8 ∧ (t.frame.toNat % 8 = 7 → t.on F.THY_STAT_QUIET = true)

/-- R59, R117: before RUN boundary n lies at n ms, from 2 ms on. -/
def idleBoundary (x : FrameSample) (s : State) : Prop :=
  (s.pwr.phase = .startup ∨ s.pwr.phase = .halt) → ∃ t, exec (.frameBoundary x) s = .next t ∧
    t.now = max s.now (max 2000 s.nextBoundary) ∧ t.frame = BitVec.ofNat 32 (t.now / 1000)

/-- R137: half a period after the boundary a fast cell of a sampling die is sampled again. -/
def midFrameSample (xs : List DieSample) (k i : Nat) (s : State) : Prop :=
  s.running = true → s.shaped → k < s.dies → k < 8 → i < 64 → s.sampling k = true → s.fastCell k i = true →
    ∃ t, exec (.midFrameSample xs) s = .next t ∧ (∃ m ∈ (t.die k).mid, m.cell = i) ∧
      t.now = max s.now (s.thy.boundary + s.period / 2)

/-- R121: LEAD before a quiet boundary every balancing switch opens. -/
def quietLead (k : Nat) (s : State) : Prop :=
  s.running = true → s.leadAt < s.nextBoundary → k < s.dies → k < 8 → ∃ t, exec .quietLead s = .next t ∧
    (t.die k).bal.closed = [] ∧ t.now = max s.now s.leadAt

/-- R118: a servo boundary lies at a multiple of 250 µs, and a tick serves the next one that has not been served. -/
def servoTick (xs : List AxisSample) (s : State) : Prop :=
  s.running = true → s.mot.tickAt % 250 = 0 → ∃ t, exec (.servoTick xs) s = .next t ∧ t.mot.tickAt % 250 = 0 ∧ s.mot.tickAt < t.mot.tickAt ∧
    s.now ≤ t.mot.tickAt ∧ t.mot.tickAt ≤ t.now

/-- R123, R146: once in a frame, at the start that is fixed for it, the scan converts the diode and the supply of every sampling
die. -/
def auxScan (xs : List ScanSample) (k e : Nat) (s : State) : Prop :=
  s.running = true → s.shaped → s.scanStart = some e → s.thy.scanRun = false → k < s.dies → k < 8 → s.sampling k = true →
    ∃ t, exec (.auxScan xs) s = .next t ∧ t.thy.scanRun = true ∧ t.now = max s.now e ∧
      ((t.die k).scan.map fun x => (x.t, x.supply)) = some (((xs[k]?).getD {}).tdie, ((xs[k]?).getD {}).supply)

/-- R123: an edge is time-stamped; as the trigger the first one in time fixes the start of the scan DELAY later, and one after it
sets SYNC_EXTRA. -/
def syncInEdge (s : State) : Prop :=
  s.running = true → ∃ t, exec .syncInEdge s = .next t ∧ t.thy.lastSync = some s.now ∧
    t.get F.THY_SYNC_PER = (match s.thy.lastSync with
      | some e => min ((s.now - e) * 50) 0xFFFF
      | none => 0xFFFF) ∧
    (s.get F.THY_TRIG_SRC = 1 → s.thy.scanned = false → s.thy.scanAt = none →
      (s.now + 2) * 50 + s.get F.THY_TRIG_DELAY ≤ s.latestStart * 50 →
      t.thy.scanned = true ∧ t.thy.scanAt = some (((s.now + 2) * 50 + s.get F.THY_TRIG_DELAY) / 50)) ∧
    (s.get F.THY_TRIG_SRC = 1 → s.thy.scanned = true → t.on F.THY_IFLAG_SYNC_EXTRA = true)
/-- R123: without an event by the latest start the scan starts there, and the miss is flagged and counted. -/
def syncMiss (s : State) : Prop :=
  s.running = true → s.get F.THY_TRIG_SRC ≠ 0 → s.thy.scanAt = none → ∃ t, exec .syncMiss s = .next t ∧
    t.thy.scanAt = some s.latestStart ∧ t.on F.THY_IFLAG_SYNC_MISS = true ∧
    t.get F.THY_SYNC_MISS = min (s.get F.THY_SYNC_MISS + 1) 65535 ∧ t.now = max s.now s.latestStart

/-- R125: a read of THY_TIME_LO returns the low half of the time base and latches the upper bits for the link alone; nothing else
changes but the words that show the moment. -/
def timeLoRead (l : Link) (s : State) : Prop :=
  s.takes l → ∃ t, exec (.timeLoRead l) s = .next t ∧ linksAside t s.refreshShown ∧ (t.link l).reply.data = BitVec.ofNat 32 s.now ∧
    (t.link l).timeHi = some (s.now / 4294967296 % 65536)
/-- R126: the low half of an epoch is held for the writing link. -/
def epochLoWrite (l : Link) (v : Word) (s : State) : Prop :=
  s.takes l → ∃ t, exec (.epochLoWrite l v) s = .next t ∧ granted t l ∧ linksAside t s.refreshShown ∧ (t.link l).epochLo = some v
/-- R126: a write of the high half applies it together with the low half held for the link, with an event of class 0. -/
def epochHiWrite (l : Link) (v : Word) (s : State) : Prop :=
  s.takes l → ∃ t, exec (.epochHiWrite l v) s = .next t ∧ granted t l ∧ t.reg F.THY_EPOCH_HI_EPOCH.addr = v ∧
    t.reg F.THY_EPOCH_LO_EPOCH.addr = ((s.link l).epochLo.getD 0) ∧ (t.link l).epochLo = none ∧
    ∃ e ∈ t.rsm.inbox.drop s.rsm.inbox.length, e.page = 0x03 ∧ e.cls = 0

/-- R18: a lost crystal is shown and flagged with an event of class 2, and its return is flagged, with no step in the frame count. -/
def xtalLost (s : State) : Prop :=
  s.on F.THY_STAT_XTAL_LOST = false → ∃ t, exec .xtalLost s = .next t ∧ t.on F.THY_STAT_XTAL_LOST = true ∧
    t.on F.THY_IFLAG_XTAL = true ∧ raised s t 0x03 (.flag 0) 2
def xtalRegained (s : State) : Prop :=
  s.on F.THY_STAT_XTAL_LOST = true → ∃ t, exec .xtalRegained s = .next t ∧ t.on F.THY_STAT_XTAL_LOST = false ∧
    t.on F.THY_IFLAG_XTAL = true ∧ t.frame = s.frame

/-- R17: a deviation of the two clocks above 500 ppm raises an event of class 2; without a Bay partition one of at most 500 ppm
changes nothing. -/
def clockCheckWindow (dev : Int) (s : State) : Prop :=
  s.alive = true → ∃ t, exec (.clockCheckWindow dev) s = .next t ∧
    (5000 < dev ∨ dev < -5000 → ∃ e ∈ t.rsm.inbox.drop s.rsm.inbox.length, e.page = 0x03 ∧ e.cls = 2) ∧
    (-5000 ≤ dev → dev ≤ 5000 → s.hasB = false → t = s)

/-- R119: with RECAL at 1 the compensation of every die is measured again, to take effect at boundaries. -/
def strobeRecal (delays : List Nat) (k v : Nat) (s : State) : Prop :=
  s.running = true → s.on F.STK_CFG_RECAL = true → k < s.dies → delays[k]? = some v →
    ∃ t, exec (.strobeRecal delays) s = .next t ∧ (k, v) ∈ t.stk.delayTarget ∧ t.regs = s.regs

/-- R129: a segment that loses lock is down, counted and flagged with an event of class 2. -/
def segmentDown (g : Nat) (s : State) : Prop :=
  g ≤ s.dies → g < 9 → s.segUp g = true → ∃ t, exec (.segmentDown g) s = .next t ∧ t.segUp g = false ∧
    t.get (F.STK_ERR_LOSS.at g) = min (s.get (F.STK_ERR_LOSS.at g) + 1) 65535 ∧ t.on F.STK_IFLAG_SEG_DOWN = true ∧
    raised s t 0x07 (.flag 0) 2 ∧ t.on F.STK_ROUTE_SINGLE = true
/-- R119, R129: a segment that trains again is up, with the compensation measured, and the paths are restored at the next boundary. -/
def segmentRetrain (g : Nat) (delays : List Nat) (k v : Nat) (s : State) : Prop :=
  g ≤ s.dies → g < 9 → s.segUp g = false → k < s.dies → delays[k]? = some v →
    ∃ t, exec (.segmentRetrain g (some delays)) s = .next t ∧ t.segUp g = true ∧ t.on F.STK_IFLAG_SEG_UP = true ∧
      (k, v) ∈ t.stk.delayTarget ∧ t.stk.restore = true

/-- R130, R296: a die without a path for 2 ms is lost: no longer healthy, flagged, and no lease slot stays with it. -/
def dieUnreachable (k e j : Nat) (s : State) : Prop :=
  k < 8 → j < 8 → (s.stk.lostSince.find? fun x => x.1 == k) = some (k, e) → k ∉ s.stk.lost →
    ∃ t, exec (.dieUnreachable k) s = .next t ∧ t.healthy k = false ∧ k ∈ t.stk.lost ∧ t.on F.STK_IFLAG_DIE_LOST = true ∧
      (s.leaseState j ≠ 3 → t.leaseHolder j ≠ 8 + k) ∧ t.now = max s.now (e + 2000)
/-- R131: a die without valid traffic for 20 ms sleeps, its switches open and its converters stopped. -/
def dieSleep (k e : Nat) (s : State) : Prop :=
  k < 8 → s.shaped → s.deafSince k = some e → bit (s.get F.STK_ROUTE_ASLEEP) k = false →
    ∃ t, exec (.dieSleep k) s = .next t ∧ bit (t.get F.STK_ROUTE_ASLEEP) k = true ∧ (t.die k).held = none ∧
      (t.die k).bal.closed = [] ∧ t.now = max s.now (e + 20000)
/-- R130: a lost die reached again before it sleeps rejoins at the next boundary. -/
def dieRejoin (k : Nat) (s : State) : Prop :=
  k ∈ s.stk.lost → s.pathUp k = true → bit (s.get F.STK_ROUTE_ASLEEP) k = false → ∃ t, exec (.dieRejoin k) s = .next t ∧
    k ∈ t.stk.rejoin ∧ t.regs = s.regs
/-- R131: a sleeping die reached by valid traffic settles its references first, with a retry as at start-up. -/
def dieWake (k : Nat) (s : State) : Prop :=
  k < 8 → bit (s.get F.STK_ROUTE_ASLEEP) k = true → s.pathUp k = true → s.powered k = true → k ∉ s.pwr.settling →
    ∃ t, exec (.dieWake k) s = .next t ∧ t.pwr.settling = k :: s.pwr.settling ∧
      t.pwr.retried = s.pwr.retried.filter (· != k) ∧ t.regs = s.regs

/-- R140: every 24 h MD_GAIN of every die, the current offsets and the envelopes are saved by a journaled write. -/
def periodicSave (k : Nat) (a : Fin 6) (s : State) : Prop :=
  s.coresRun = true → s.dies ≤ 8 → k < s.dies → ∃ t, exec .periodicSave s = .next t ∧ t.saved.last = t.now ∧
    t.now = max s.now (s.saved.last + 86400000000) ∧
    ((F.MD_GAIN_GAIN.on k).addr, BitVec.ofInt 32 (s.die k).gain) ∈ t.saved.words ∧
    (F.CUR_OFSA_OFS.addr, BitVec.ofInt 32 s.cur.ofsA) ∈ t.saved.words ∧
    (F.CUR_OFSB_OFS.addr, BitVec.ofInt 32 s.cur.ofsB) ∈ t.saved.words ∧
    t.saved.envs[a] = (s.axis a).env ∧ t.journal = s.journal ++ [⟨s.coreParty, [.saved s.saved]⟩]

/-- R26: firmware evaluates the publication of the frame before while the cores run. -/
def firmwareEval (s : State) : Prop :=
  s.running = true → s.frozen = false → s.coresHeld = false → ∃ t, exec .firmwareEval s = .next t ∧
    t.flt.evaluated = s.frame.toNat - 1 ∧ t.frame = s.frame

/-! ### Tap tests, comparators, the fault line -/

/-- R154: the first sweep begins on every die at RUN, the next ones SWEEP seconds after the start of the last; a die whose sweep
is not over keeps it, and one that only tests other taps begins it. -/
def sweepStart (k : Nat) (s : State) : Prop :=
  s.running = true → s.shaped → k < s.dies → k < 8 → ∃ t, exec .sweepStart s = .next t ∧ t.line.sweepStart = t.now ∧
    ((∀ j < s.dies, bit (s.get F.CMP_OWST_SWEPT) j = false ∧ (s.die j).sweep = none) → t.now = s.now ∧
      ((s.die k).waiting = [] → (s.die k).test = none → (s.die k).deciding = none → (t.die k).sweep = some 0)) ∧
    (bit (s.get F.CMP_OWST_SWEPT) k = true →
      t.now = max s.now (s.line.sweepStart + s.get F.CMP_OWCFG_SWEEP * 1000000) ∧
      ((s.die k).sweep = none → (∀ w ∈ (s.die k).waiting, w.prio ≠ 3) → (∀ x, (s.die k).test = some x → x.prio ≠ 3) →
        (∀ x, (s.die k).deciding = some x → x.prio ≠ 3) → (t.die k).sweep = some 0)) ∧
    (((s.die k).sweep.isSome = true ∨ ∃ x, (s.die k).deciding = some x ∧ x.prio = 3) → t.die k = s.die k) ∧ t.regs = s.regs

/-- R154: a request for a tap of a reachable die with fewer than four waiting joins the queue behind the tests of its priority;
otherwise it is refused. -/
def owRequest (l : Link) (k tap : Nat) (s : State) : Prop :=
  s.takes l → s.shaped → k < 8 → tap ≤ 64 → k < s.dies → bit (s.get F.STK_ROUTE_REACH) k = true →
    ((s.die k).waiting.filter fun w => w.prio == 2).length < 4 → ∃ t, exec (.owRequest l k tap) s = .next t ∧ granted t l ∧
      (t.die k).waiting = queueTest ⟨tap, 2, 0⟩ (s.die k).waiting
def owRequestRefused (l : Link) (k tap : Nat) (s : State) : Prop :=
  s.takes l → k < 8 → tap < 128 → (64 < tap ∨ s.dies ≤ k ∨ bit (s.get F.STK_ROUTE_REACH) k = false ∨
      4 ≤ ((s.die k).waiting.filter fun w => w.prio == 2).length) →
    ∃ t, exec (.owRequest l k tap) s = .next t ∧ refusedWith t l 0x0A ∧ linksAside t s.refreshShown

/-- R153, R154: a test begins its pull-up window at the present boundary, and the switches of its cells open: the first that
waits, else the sweep's next tap. -/
def tapTestStart (k : Nat) (w : PendingTest) (rest : List PendingTest) (s : State) : Prop :=
  s.running = true → s.shaped → k < s.dies → k < 8 → s.testable k = true → (s.die k).test = none →
    (s.die k).waiting = w :: rest → ∃ t, exec (.tapTestStart k) s = .next t ∧ (t.die k).waiting = rest ∧
      (t.die k).test = some { tap := w.tap, prio := w.prio, incon := w.incon, start := s.frame, w := s.windowFrames
                              cells := s.testCells k w.tap } ∧
      (∀ i ∈ (t.die k).bal.closed, i ∈ (s.die k).bal.closed ∧ i + 1 ≠ w.tap ∧ i ≠ w.tap) ∧ bit (t.get F.CMP_OWST_TESTING) k = true
def tapTestSweep (k j : Nat) (s : State) : Prop :=
  s.running = true → s.shaped → k < s.dies → k < 8 → s.testable k = true → (s.die k).test = none →
    (s.die k).waiting = [] → (s.die k).sweep = some j → j ≤ 64 → ∃ t, exec (.tapTestStart k) s = .next t ∧
      (t.die k).sweep = some (j + 1) ∧ (t.die k).test = some
        { tap := j, prio := 3, incon := 0, start := s.frame, w := s.windowFrames, cells := s.testCells k j }

/-- R153: W frames after it began, the pull-up window ends and the pull-down source turns on. -/
def tapWindowEnd (k : Nat) (x : TapTest) (s : State) : Prop :=
  s.shaped → k < 8 → (s.die k).test = some x → x.pullDown = false → x.start.toNat + x.w ≤ s.frame.toNat →
    ∃ t, exec (.tapWindowEnd k) s = .next t ∧ (t.die k).test = some { x with pullDown := true } ∧ t.regs = s.regs

/-- R159: what a test decides from the moves of its cells: both by 200 mV the expected way, broken; both by less than 1 mV
without a span error, good; one of each, an input fault; otherwise inconclusive twice, then high resistance. -/
def decides (up1 down1 up2 down2 : Int) (spanBad : Bool) (incon : Nat) : Prop :=
  let big1 := 200000 ≤ up1 ∧ down1 ≤ -200000
  let big2 := up2 ≤ -200000 ∧ 200000 ≤ down2
  let small1 := -1000 < up1 ∧ up1 < 1000 ∧ -1000 < down1 ∧ down1 < 1000
  let small2 := -1000 < up2 ∧ up2 < 1000 ∧ -1000 < down2 ∧ down2 < 1000
  decideTest [(0, 4, 1), (0, 5, -1)] [up1, up2] [down1, down2] spanBad incon =
    if big1 ∧ big2 then (2, none) else if small1 ∧ small2 ∧ spanBad = false then (0, none)
    else if big1 ∧ small2 then (4, some 4) else if small1 ∧ big2 then (4, some 5)
    else if incon < 2 then (5, none) else (3, none)

/-- R159, R160: a test whose three frames have come is decided: CMP_OWLAST shows it, and it leaves the die. A broken or
high-resistance tap and a cell with an input fault stand in the tap table where an entry is free. -/
def tapTestDecide (k : Nat) (x : TapTest) (s : State) : Prop :=
  s.shaped → k < 8 → x.tap ≤ 64 → (s.die k).test = none → (s.die k).deciding = some x → x.base.isSome = true →
    x.up.isSome = true → x.down.isSome = true →
    ∃ t, exec (.tapTestDecide k) s = .next t ∧
      let up := List.zipWith (· - ·) (x.up.getD []) (x.base.getD [])
      let down := List.zipWith (· - ·) (x.down.getD []) (x.up.getD [])
      let r := decideTest x.cells up down (s.spanBad k x.tap) x.incon
      (t.die k).deciding = none ∧ t.get F.CMP_OWLAST_DIE = k ∧ t.get F.CMP_OWLAST_TAP = x.tap ∧
      t.get F.CMP_OWLAST_OUT = (if r.1 = 0 then 0 else if r.1 = 5 then 2 else if r.1 = 4 then 3 else 1) ∧
      (r.1 = 5 → ⟨x.tap, x.prio, x.incon + 1⟩ ∈ (t.die k).waiting) ∧
      (2 ≤ r.1 → r.1 ≤ 4 → (s.tapSlot k x.tap).isSome = true → t.tapState k x.tap = r.1)

/-- R166, R167: a gated evaluation counts the cells beyond GOV and GUV; the others count from zero again. -/
def gatedEval (cells : List (List Int)) (k i : Nat) (s : State) : Prop :=
  s.running = true → s.thy.quiet = true → s.shaped → k < s.dies → k < 8 → i < 64 → s.sampling k = true →
    s.excluded k i = false → s.testCell k ≠ some i → ∃ t, exec (.gatedEval cells) s = .next t ∧
      t.now = max s.now (s.thy.boundary + s.period / 2) ∧
      countOf (t.die k).ovCount i = (if (s.get F.CMP_GOV_MV * 1000 : Int) < entry ((cells[k]?).getD []) i
        then countOf (s.die k).ovCount i + 1 else 0) ∧
      countOf (t.die k).uvCount i = if entry ((cells[k]?).getD []) i < (s.get F.CMP_GUV_MV * 1000 : Int)
        then countOf (s.die k).uvCount i + 1 else 0

/-- R166, R172: CONF evaluations in a row trip the overvoltage, or the undervoltage, comparator of a cell, and the fault line
asserts. -/
def gatedTrip (k i : Nat) (s : State) : Prop :=
  s.running = true → k < s.dies → k < 8 → i < 64 → s.excluded k i = false →
    (s.get F.CMP_GCONF_CONF ≤ countOf (s.die k).ovCount i ∨ s.get F.CMP_GCONF_CONF ≤ countOf (s.die k).uvCount i) →
    ∃ t, exec .gatedTrip s = .next t ∧
      (s.get F.CMP_GCONF_CONF ≤ countOf (s.die k).ovCount i → t.tripBit F.CMP_GOVT_TRIP k i = true) ∧
      (s.get F.CMP_GCONF_CONF ≤ countOf (s.die k).uvCount i → t.tripBit F.CMP_GUVT_TRIP k i = true) ∧
      t.on F.CMP_FLSTAT_ASSERTED = true ∧ (s.on F.CMP_FLSTAT_ASSERTED = false → t.pins.fltN = true)

/-- R165, R166, R168: an absolute comparator trips outside its thresholds and ends its trip 50 mV inside them; the trip of a cell
that is not excluded asserts the fault line. -/
def absoluteTrip (k i : Nat) (v : Int) (s : State) : Prop :=
  k < s.dies → k < 8 → i < 64 → ∃ t, exec (.absoluteTrip k i v) s = .next t ∧
    ((s.absLimits k i).1 < v → t.tripBit F.CMP_AOVT_TRIP k i = true) ∧
    (v < (s.absLimits k i).1 - 50000 → t.tripBit F.CMP_AOVT_TRIP k i = false) ∧
    (v < (s.absLimits k i).2.1 → t.tripBit F.CMP_AUVT_TRIP k i = true) ∧
    ((s.absLimits k i).2.1 + 50000 < v → t.tripBit F.CMP_AUVT_TRIP k i = false) ∧
    (s.excluded k i = false → ((s.absLimits k i).1 < v ∨ v < (s.absLimits k i).2.1) →
      t.on F.CMP_FLSTAT_ASSERTED = true ∧ (s.on F.CMP_FLSTAT_ASSERTED = false → t.pins.fltN = true))

/-- R171: at 3P/4 of a quiet frame the four comparators of the next cell are tested and the pointer moves on; one that fails a
second time in a row is confirmed and shown, one that passes starts again. -/
def comparatorSelfTest (failing : List Nat) (k i c : Nat) (s : State) : Prop :=
  s.running = true → s.thy.quiet = true → s.shaped → k < s.dies → k < 8 → s.sampling k = true → s.testCell k = some i → c < 4 →
    ∃ t, exec (.comparatorSelfTest failing) s = .next t ∧ (t.die k).ctNext = (i + 1) % 64 ∧
      t.now = max s.now (s.thy.boundary + s.period * 3 / 4) ∧
      (4 * k + c ∈ failing → 4 * i + c ∈ (t.die k).ctFailed) ∧
      (4 * k + c ∉ failing → 4 * i + c ∉ (t.die k).ctFailed ∧ 4 * i + c ∉ (t.die k).ctConfirmed) ∧
      (4 * k + c ∈ failing → 4 * i + c ∈ (s.die k).ctFailed →
        4 * i + c ∈ (t.die k).ctConfirmed ∧ bit (t.get F.CMP_CTEST_DIES) k = true)

/-- R173: a missing carrier asserts the fault line after 5 µs; without a valid code the die is recorded after 50 µs. -/
def faultChannelLost (k : Nat) (coded : Bool) (s : State) : Prop :=
  k < s.dies → k < 8 → ∃ t, exec (.faultChannelLost k coded) s = .next t ∧ t.on F.CMP_FLSTAT_ASSERTED = true ∧
    (s.on F.CMP_FLSTAT_ASSERTED = false → t.pins.fltN = true) ∧ k ∈ t.line.silent ∧ (coded = true → t.now = s.now + 5) ∧
    (coded = false → bit (t.get F.CMP_FLSTAT_CHAN) k = true ∧ t.now = s.now + 50)

/-- R174: a code byte of odd parity gives the die's sources and asserts the line; one of even parity is ignored. -/
def tripCode (k : Nat) (code : Byte) (s : State) : Prop :=
  k < s.dies → k < 8 → s.shaped → oddParity code.toNat = true → ∃ t, exec (.tripCode k code) s = .next t ∧
    t.on F.CMP_FLSTAT_ASSERTED = true ∧ (s.on F.CMP_FLSTAT_ASSERTED = false → t.pins.fltN = true) ∧
    (t.die k).code = code.toNat % 64 ∧ bit (t.get F.CMP_FLSTAT_CHAN) k = false ∧ t.get F.CMP_FLSTAT_ACTIVE % 64 = t.codeBits
def tripCodeIgnored (k : Nat) (code : Byte) (s : State) : Prop :=
  oddParity code.toNat = false → exec (.tripCode k code) s = .next s

/-- R174, R175: a returning carrier ends the die's share of the sources; the line stays latched. -/
def carrierReturn (k : Nat) (s : State) : Prop :=
  k < s.dies → k < 8 → s.shaped → ∃ t, exec (.carrierReturn k) s = .next t ∧ (t.die k).code = 0 ∧ k ∉ t.line.silent ∧
    bit (t.get F.CMP_FLSTAT_CHAN) k = false ∧ t.get F.CMP_FLSTAT_ACTIVE % 64 = t.codeBits ∧
    t.on F.CMP_FLSTAT_ASSERTED = s.on F.CMP_FLSTAT_ASSERTED ∧ t.pins = s.pins

/-- R175: the key releases the line while no source is active and every die sends its carrier; otherwise it is refused. -/
def flclr (l : Link) (s : State) : Prop :=
  s.takes l → s.noSource = true → ∃ t, exec (.flclr l 0xC1EA) s = .next t ∧ granted t l ∧
    t.on F.CMP_FLSTAT_ASSERTED = false ∧
    (s.on F.CMP_FLSTAT_ASSERTED = true → t.pins.fltN = false ∧ t.on F.CMP_IFLAG_FL_REL = true)
def flclrRefused (l : Link) (key : Word) (s : State) : Prop :=
  s.takes l → (key ≠ 0xC1EA ∨ s.noSource = false) → ∃ t, exec (.flclr l key) s = .next t ∧ refusedWith t l 0x0A ∧ linksAside t s.refreshShown

/-- R201, R172, R24: a side of the fast comparator trips above its threshold, is counted and asserts the line; it ends its trip below
95 % of it. CUR_OCSTAT stays as it was published. -/
def fastOcTrip (u : Int) (s : State) : Prop :=
  s.sampling 0 = true → ∃ t, exec (.fastOcTrip u) s = .next t ∧
    let dis : Int := s.get F.CUR_OCTH_DIS * s.get F.CUR_SHUNT_R * 10
    let chg : Int := s.get F.CUR_OCTH_CHG * s.get F.CUR_SHUNT_R * 10
    (dis < u → t.cur.ocDis = true) ∧ (u * 100 < dis * 95 → u ≤ dis → t.cur.ocDis = false) ∧
    (chg < -u → t.cur.ocChg = true) ∧ (-u * 100 < chg * 95 → -u ≤ chg → t.cur.ocChg = false) ∧
    ((dis < u ∧ s.cur.ocDis = false ∨ chg < -u ∧ s.cur.ocChg = false) → t.on F.CUR_IFLAG_OC = true ∧
      t.cur.ocTrips = min (s.cur.ocTrips + 1) 65535 ∧ t.on F.CMP_FLSTAT_ASSERTED = true ∧
      (s.on F.CMP_FLSTAT_ASSERTED = false → t.pins.fltN = true)) ∧
    t.reg F.CUR_OCSTAT_DIS.addr = s.reg F.CUR_OCSTAT_DIS.addr

/-- R203: two failed tests in a row are counted, flagged and raise an event of class 2, once; a passed one starts again. -/
def ocSelfTest (pass : Bool) (s : State) : Prop :=
  s.running = true → s.sampling 0 = true → ∃ t, exec (.ocSelfTest pass) s = .next t ∧
    t.cur.ocFails = (if pass then 0 else s.cur.ocFails + 1) ∧
    (pass = false → s.cur.ocFails = 1 → t.cur.ocTfail = min (s.cur.ocTfail + 1) 255 ∧ t.on F.CUR_IFLAG_OCTEST = true ∧
      raised s t 0x08 (.flag F.CUR_IFLAG_OCTEST.lo) 2) ∧
    ((pass = true ∨ s.cur.ocFails ≠ 1) → t.regs = s.regs ∧ t.cur.ocTfail = s.cur.ocTfail)

/-! ### Balancing, current, string voltage -/

/-- R179: a planned switch opens when its on-time since it closed is over; the other switches stay. -/
def balanceOnTimeEnd (k i ton : Nat) (s : State) : Prop :=
  k < s.dies → i ∈ (s.die k).bal.closed → (s.die k).bal.plan.find? (fun e => e.1 == i) = some (i, ton) →
    ∃ t, exec (.balanceOnTimeEnd k i) s = .next t ∧ i ∉ (t.die k).bal.closed ∧
      (∀ j ∈ (s.die k).bal.closed, j ≠ i → j ∈ (t.die k).bal.closed) ∧
      (i, countOf (s.die k).bal.closedAt i + ton) ∈ (t.die k).bal.openedAt ∧
      t.now = max s.now (countOf (s.die k).bal.closedAt i + ton) ∧ t.regs = s.regs

/-- R178: a switch commanded open that carries current is stuck: the cell is locked off, with an event of class 2. -/
def switchStuck (k i : Nat) (s : State) : Prop :=
  k < s.dies → k < 8 → i < 64 → s.shaped → i ∉ (s.die k).bal.closed → ∃ t, exec (.switchStuck k i) s = .next t ∧
    t.lockedOff k i = true ∧ i ∈ (t.die k).bal.stuck ∧ t.on (F.BL_IFLAG_STUCK.on k) = true ∧
    raised s t (0x28 + k) (.flag F.BL_IFLAG_STUCK.lo) 2 ∧ ∀ j < 64, j ≠ i → t.lockedOff k j = s.lockedOff k j

/-- R178: a closed switch above 350 mA opens for the period; in the third period in a row the cell is locked off. -/
def switchOvercurrent (k i n p : Nat) (s : State) : Prop :=
  k < s.dies → k < 8 → i < 64 → i ∈ (s.die k).bal.closed → ∃ t, exec (.switchOvercurrent k i) s = .next t ∧
    i ∉ (t.die k).bal.closed ∧ t.on (F.BL_IFLAG_OVC.on k) = true ∧
    ((s.die k).bal.ovc.find? (fun e => e.1 == i) = none → t.lockedOff k i = s.lockedOff k i) ∧
    ((s.die k).bal.ovc.find? (fun e => e.1 == i) = some (i, n, p) → p + 1 = s.balancePeriod → 2 ≤ n →
      t.lockedOff k i = true ∧ raised s t (0x28 + k) (.flag F.BL_IFLAG_OVC.lo) 2)

/-- R178: a closed switch that carries almost nothing locks its cell off as open loop, with an event of class 1. -/
def balanceOpenLoop (k i : Nat) (s : State) : Prop :=
  k < s.dies → k < 8 → i < 64 → i ∈ (s.die k).bal.closed → ∃ t, exec (.balanceOpenLoop k i) s = .next t ∧
    i ∉ (t.die k).bal.closed ∧ t.lockedOff k i = true ∧ t.on (F.BL_IFLAG_OPEN.on k) = true ∧
    raised s t (0x28 + k) (.flag F.BL_IFLAG_OPEN.lo) 1

/-- R178: a write to BL_SWCLR releases one cell, or with 0x40 all of them; a cell whose stuck switch still carries current is
refused. -/
def blSwclr (l : Link) (k c : Nat) (s : State) : Prop :=
  s.takes l → k < s.dies → k < 8 → c < 64 → (s.lockedOff k c = false ∨ c ∉ (s.die k).bal.stuck) →
    ∃ t, exec (.blSwclr l k c) s = .next t ∧ granted t l ∧ t.lockedOff k c = false ∧
      ∀ j < 64, j ≠ c → t.lockedOff k j = s.lockedOff k j
def blSwclrAll (l : Link) (k : Nat) (s : State) : Prop :=
  s.takes l → k < s.dies → k < 8 → (s.die k).bal.stuck = [] →
    ∃ t, exec (.blSwclr l k 0x40) s = .next t ∧ granted t l ∧ ∀ j < 64, t.lockedOff k j = false
def blSwclrRefused (l : Link) (k c : Nat) (s : State) : Prop :=
  s.takes l → k < s.dies → k < 8 → c < 64 → s.lockedOff k c = true → c ∈ (s.die k).bal.stuck →
    ∃ t, exec (.blSwclr l k c) s = .next t ∧ refusedWith t l 0x0A ∧ linksAside t s.refreshShown

/-- R190: learning starts on a healthy, swept die without a harness fault, its filter span and LEAD within the period; otherwise
it is refused. Aborting it opens the switches of the die. BL_LRN shows both with the next publication (R24). -/
def learnStart (l : Link) (k : Nat) (s : State) : Prop :=
  s.takes l → s.shaped → k < s.dies → k < 8 → s.healthy k = true → s.harness k = false →
    bit (s.get F.CMP_OWST_SWEPT) k = true → s.filterSpan ≤ s.period → s.get F.THY_QUIET_LEAD ≤ s.period →
    (s.die k).bal.learn = none → ∃ t, exec (.learnStart l k) s = .next t ∧ granted t l ∧ (t.die k).bal.learn = some {} ∧
      (t.die k).bal.shown.lrnState = 1 ∧ (t.die k).bal.shown.lrnRepeats = 0 ∧ t.on (F.BL_PSTAT_LEARNING.on k) = true
def learnRefused (l : Link) (k : Nat) (s : State) : Prop :=
  s.takes l → k < s.dies → k < 8 → (s.healthy k = false ∨ s.harness k = true ∨ bit (s.get F.CMP_OWST_SWEPT) k = false ∨
      s.period < s.filterSpan ∨ s.period < s.get F.THY_QUIET_LEAD ∨ (s.die k).bal.learn.isSome = true) →
    ∃ t, exec (.learnStart l k) s = .next t ∧ refusedWith t l 0x0A ∧ linksAside t s.refreshShown
def learnAbort (l : Link) (k : Nat) (s : State) : Prop :=
  s.takes l → k < s.dies → k < 8 → (s.die k).bal.learn.isSome = true → ∃ t, exec (.learnAbort l k) s = .next t ∧ granted t l ∧
    (t.die k).bal.learn = none ∧ (t.die k).bal.closed = [] ∧ (t.die k).bal.shown.lrnState = 3 ∧
    t.on (F.BL_PSTAT_LEARNING.on k) = false

/-- R198: CONF frames of disagreement or of a range failure, or the loss of M0, make the current suspect, with an event of class
2; a channel that failed its range is to be named in BAD. CUR_STAT shows both with the next publication. -/
def currentSuspect (s : State) : Prop :=
  s.running = true → s.suspectDue = true → ∃ t, exec .currentSuspect s = .next t ∧ t.cur.suspect = true ∧
    (s.hasM0 = true → s.get F.CUR_AGREE_CONF ≤ s.cur.failA → bit t.cur.bad 0 = true) ∧
    (s.hasM0 = true → s.get F.CUR_AGREE_CONF ≤ s.cur.failB → bit t.cur.bad 1 = true) ∧
    t.get F.CUR_STAT_SUSPECT = s.get F.CUR_STAT_SUSPECT ∧ t.get F.CUR_STAT_BAD = s.get F.CUR_STAT_BAD ∧
    (s.cur.suspect = false → t.on F.CUR_IFLAG_SUSPECT = true ∧ t.cur.suspectSince = some s.now ∧
      raised s t 0x08 (.flag F.CUR_IFLAG_SUSPECT.lo) 2)
/-- R198: 1,000 agreeing frames in a row with BAD clear end the suspect state. -/
def currentAgreed (s : State) : Prop :=
  s.running = true → s.cur.suspect = true → s.cur.bad = 0 → 1000 ≤ s.cur.agree → s.hasM0 = true →
    ∃ t, exec .currentAgreed s = .next t ∧ t.cur.suspect = false ∧ t.on F.CUR_IFLAG_AGREED = true ∧
      t.cur.suspectSince = none ∧ raised s t 0x08 (.flag F.CUR_IFLAG_AGREED.lo) 0

/-- R199: with CD1 open a zeroing starts by command, or by itself once the condition has held for 10 s. -/
def curZero (l : Link) (s : State) : Prop :=
  s.takes l → s.cdLive 1 = false → ∃ t, exec (.curZero l) s = .next t ∧ granted t l ∧
    t.cur.zeroing = some { host := true } ∧ t.on F.CUR_PSTAT_ZEROING = true
def curZeroRefused (l : Link) (s : State) : Prop :=
  s.takes l → s.cdLive 1 = true → ∃ t, exec (.curZero l) s = .next t ∧ refusedWith t l 0x0A ∧ linksAside t s.refreshShown
def zeroAutoStart (e : Nat) (s : State) : Prop :=
  s.running = true → s.on F.CUR_ZCFG_AUTO = true → s.cdLive 1 = false → s.cur.zeroing = none → s.cur.openSince = some e →
    ∃ t, exec .zeroAutoStart s = .next t ∧ t.cur.zeroing = some { host := false } ∧ t.now = max s.now (e + 10000000) ∧
      t.on F.CUR_PSTAT_ZEROING = true
/-- R199: after 1,024 frames the average of a channel within ZMAX becomes its offset and clears its BAD; beyond it the offset
stays and BAD names the channel, with an event of class 2. A run that the host started is stored by a journaled write. -/
def zeroingDone (z : ZeroRun) (s : State) : Prop :=
  s.cur.zeroing = some z → 1024 ≤ z.frames → ∃ t, exec .zeroingDone s = .next t ∧ t.cur.zeroing = none ∧
    t.on F.CUR_IFLAG_ZDONE = true ∧ t.on F.CUR_PSTAT_ZEROING = false ∧
    (absInt z.sumA ≤ s.get F.CUR_ZCFG_ZMAX * 100 * 1024 → t.cur.ofsA = roundDiv z.sumA 1024 ∧ bit t.cur.bad 0 = false) ∧
    (s.get F.CUR_ZCFG_ZMAX * 100 * 1024 < absInt z.sumA → t.cur.ofsA = s.cur.ofsA ∧
      bit t.cur.bad 0 = true ∧ raised s t 0x08 (.flag F.CUR_IFLAG_ZFAIL.lo) 2) ∧
    (absInt z.sumB ≤ s.get F.CUR_ZCFG_ZMAX * 100 * 1024 → t.cur.ofsB = roundDiv z.sumB 1024 ∧ bit t.cur.bad 1 = false) ∧
    (s.get F.CUR_ZCFG_ZMAX * 100 * 1024 < absInt z.sumB → t.cur.ofsB = s.cur.ofsB ∧
      bit t.cur.bad 1 = true ∧ raised s t 0x08 (.flag F.CUR_IFLAG_ZFAIL.lo) 2) ∧
    (z.host = true → ∃ e ∈ t.journal, e.old = [.saved s.saved]) ∧ (z.host = false → t.journal = s.journal)

/-- R207: a calibration of V_STR starts while V_SUM is valid, one of V_LNK while CD0 and CD1 are closed, CUR_I lies within 5 A and
V_STR carries no S; a command whose precondition is false is refused. -/
def stvCalStr (l : Link) (s : State) : Prop :=
  s.takes l → s.on F.STV_STAT_SUMVALID = true → ∃ t, exec (.stvCalStr l) s = .next t ∧ granted t l ∧
    linksAside t { s.refreshShown with cur := { s.cur with cal := some { cmd := 1 } } }
def stvCalLnk (l : Link) (s : State) : Prop :=
  s.takes l → (∀ m < 2, bit (s.get F.PRT_STAT_COIL) m = true ∧ bit (s.get F.PRT_STAT_AUX) m = true) →
    absInt (s.getInt F.CUR_I_MA) ≤ 5000 → s.on F.STV_STAT_S = false → ∃ t, exec (.stvCalLnk l) s = .next t ∧ granted t l ∧
      linksAside t { s.refreshShown with cur := { s.cur with cal := some { cmd := 2 } } }
def stvCalStrRefused (l : Link) (s : State) : Prop :=
  s.takes l → s.on F.STV_STAT_SUMVALID = false → ∃ t, exec (.stvCalStr l) s = .next t ∧ refusedWith t l 0x0A ∧
    linksAside t s.refreshShown
def stvCalLnkRefused (l : Link) (s : State) : Prop :=
  s.takes l → (([0, 1].any fun m => !bit (s.get F.PRT_STAT_COIL) m || !bit (s.get F.PRT_STAT_AUX) m) = true ∨
      5000 < absInt (s.getInt F.CUR_I_MA) ∨ s.on F.STV_STAT_S = true) →
    ∃ t, exec (.stvCalLnk l) s = .next t ∧ refusedWith t l 0x0A ∧ linksAside t s.refreshShown
/-- R207: the command 3 sets both gains to 0 by a journaled write and sets CALDONE. -/
def stvCalClear (l : Link) (s : State) : Prop :=
  s.takes l → ∃ t, exec (.stvCalClear l) s = .next t ∧ granted t l ∧ t.cur.gStr = 0 ∧ t.cur.gLnk = 0 ∧
    t.on F.STV_IFLAG_CALDONE = true ∧ (∃ e ∈ t.journal, e.old = [.saved s.saved])
/-- R207: after 256 frames the gain within ±2 % that makes the sums equal is stored by a journaled write; beyond it, or if the run
failed, nothing is stored and CALFAIL sets. -/
def stvCalDone (c : CalRun) (s : State) : Prop :=
  s.cur.cal = some c → (c.failed = true ∨ 256 ≤ c.frames) → ∃ t, exec .stvCalDone s = .next t ∧ t.cur.cal = none ∧
    let g := roundRat (((c.sumRef : Rat) / (c.sumRaw : Rat) - 1) * 10000000)
    if c.failed = false ∧ c.sumRaw ≠ 0 ∧ absInt g ≤ 200000 then
      t.on F.STV_IFLAG_CALDONE = true ∧ t.cur.gStr = (if c.cmd = 1 then g else s.cur.gStr) ∧
        t.cur.gLnk = (if c.cmd = 1 then s.cur.gLnk else g) ∧ ∃ e ∈ t.journal, e.old = [.saved s.saved]
    else t.on F.STV_IFLAG_CALFAIL = true ∧ t.cur.gStr = s.cur.gStr ∧ t.cur.gLnk = s.cur.gLnk ∧ t.journal = s.journal

/-! ### Sage -/

/-- R208, R215, R226: the step of the Sage frame due publishes SGE, SGC and LIM with its sequence, carries the rest timer on or
back to 0, and adds the charge that passed since the step before to the throughput. -/
def sageStep (x y : SageInput) (rest : List SageInput) (s : State) : Prop :=
  s.sage.inputs = x :: rest → s.sage.prev = some y → s.coresRun = true →
    s.frame.toNat = (x.seq + 2 * s.sageStep) % 4294967296 → ∃ t, exec .sageStep s = .next t ∧ t.sage.inputs = rest ∧
      t.sage.prev = some x ∧ t.get F.SGE_SOC_SEQ = x.seq % 16 ∧ t.get F.LIM_STAT_SEQ = x.seq % 16 ∧
      t.reg (addrOf 0x0C 7) = BitVec.ofNat 32 x.seq ∧ t.reg (addrOf 0x0D 7) = BitVec.ofNat 32 x.seq ∧
      t.reg (addrOf 0x0E 7) = BitVec.ofNat 32 x.seq ∧
      t.sage.timer = (if s.stringAtRest x then s.sage.timer + s.sageStep * s.period else 0) ∧
      t.sage.ahDis = s.sage.ahDis + (x.qacc - y.qacc).toNat ∧ t.sage.ahChg = s.sage.ahChg + (y.qacc - x.qacc).toNat

/-- R227: a write-back falls due PERIOD minutes after the last one started, or by command; under PWR_WARN it waits. -/
def writebackPeriod (s : State) : Prop :=
  s.running = true → ∃ t, exec .writebackPeriod s = .next t ∧ t.sage.wbDue = true ∧
    t.now = max s.now (s.sage.wbStart + s.get F.SGE_WB_PERIOD * 60000000) ∧
    (s.on F.PWR_STAT_WARN = true → t.on F.SGE_WBSTAT_DEFER = true)
def sgeCmdWriteback (l : Link) (s : State) : Prop :=
  s.takes l → ∃ t, exec (.sgeCmdWriteback l) s = .next t ∧ granted t l ∧ t.sage.wbDue = true ∧
    (s.on F.PWR_STAT_WARN = true → t.on F.SGE_WBSTAT_DEFER = true)

/-- R228: a due write-back starts once PWR_WARN is clear and no other runs, with the lease of the MRAM port. -/
def writebackStart (s : State) : Prop :=
  s.sage.wbDue = true → s.sage.wbData = none → s.on F.PWR_STAT_WARN = false → s.coresRun = true →
    (s.leaseState 0 = 0 ∨ (s.leaseState 0 = 1 ∧ s.leaseHolder 0 = s.coreParty)) →
    ∃ t, exec .writebackStart s = .next t ∧ t.sage.wbDue = false ∧ t.sage.wbData = some s.sageData ∧ t.sage.wbStart = t.now ∧
      t.now = max s.now (s.pwr.writebackAfter.getD 0) ∧ t.on F.SGE_PSTAT_WBBUSY = true ∧ t.on F.SGE_WBSTAT_DEFER = false ∧
      t.leaseState 0 = 1 ∧ t.leaseHolder 0 = s.coreParty
/-- R228: the journaled write of its header makes the copy the newest one, and the lease is released. -/
def writebackDone (c : SageCopy) (s : State) : Prop :=
  s.sage.wbData = some c → s.leaseState 0 = 1 → s.leaseHolder 0 = s.coreParty → s.frozen = false → s.coresHeld = false →
    ∃ t, exec .writebackDone s = .next t ∧
    t.sage.wbData = none ∧ t.newestCopy = some c ∧ t.sage.newestB = !s.sage.newestB ∧
    (if s.sage.newestB then t.sage.copyB = s.sage.copyB else t.sage.copyA = s.sage.copyA) ∧
    t.on F.SGE_IFLAG_WBDONE = true ∧ t.on F.SGE_PSTAT_WBBUSY = false ∧ t.get F.SGE_WBSTAT_SEQ = c.seq % 65536 ∧
    ((s.lease 0).queue = [] → t.leaseState 0 = 0)

/-- R211: loading copies the selected table into the staging copy, zeros where the table is empty. -/
def tableLoad (l : Link) (s : State) : Prop :=
  s.takes l → ∃ t, exec (.tableLoad l) s = .next t ∧ granted t l ∧
    let tbl := (s.sage.tables[s.get F.SGE_TBLSEL_TABLE]?).getD []
    linksAside t { s.refreshShown with sage := { s.sage with staging := if tbl = [] then List.replicate 260 0 else tbl } }
/-- R211: a staging copy in order becomes the selected table by a journaled write; otherwise activation is refused and changes
nothing but the words that show the moment. -/
def tableActivate (l : Link) (s : State) : Prop :=
  s.takes l → tableOk s.sage.staging = true → ∃ t, exec (.tableActivate l) s = .next t ∧ granted t l ∧
    t.sage = { s.sage with tables := s.sage.tables.set (s.get F.SGE_TBLSEL_TABLE) s.sage.staging } ∧
    t.on F.SGE_IFLAG_TABLE = true ∧ ∃ e ∈ t.journal, e.old = [.tables s.sage.tables]
def tableRefused (l : Link) (s : State) : Prop :=
  s.takes l → tableOk s.sage.staging = false →
    ∃ t, exec (.tableActivate l) s = .next t ∧ refusedWith t l 0x0A ∧ linksAside t s.refreshShown
/-- R211: an access to SGE_TBLDATA writes, or returns, the staging entry that ENTRY names, and ENTRY advances, to 259 at most. -/
def tbldataWrite (l : Link) (v : Word) (s : State) : Prop :=
  s.takes l → v.toNat < 65536 → ∃ t, exec (.tbldataAccess l (some v)) s = .next t ∧ granted t l ∧
    t.sage = { s.sage with staging := (s.sage.staging.set (s.get F.SGE_TBLSEL_ENTRY)
      (if s.get F.SGE_TBLSEL_ENTRY < 4 then signedOf 16 v.toNat else v.toNat)) } ∧
    t.get F.SGE_TBLSEL_ENTRY = min 259 (s.get F.SGE_TBLSEL_ENTRY + 1)
def tbldataRead (l : Link) (s : State) : Prop :=
  s.takes l → ∃ t, exec (.tbldataAccess l none) s = .next t ∧ granted t l ∧
    (t.link l).reply.data = BitVec.ofNat 32 (codeOf 16 (entry s.sage.staging (s.get F.SGE_TBLSEL_ENTRY))) ∧
    t.sage = s.sage ∧ t.get F.SGE_TBLSEL_ENTRY = min 259 (s.get F.SGE_TBLSEL_ENTRY + 1)

/-- R231, R244: a bank of a fitted die, and a node of a cell of a fitted die with a temperature index of 0 to 5, are selected for
the link alone; others are refused. -/
def sgcBankWrite (l : Link) (k : Nat) (s : State) : Prop :=
  s.takes l → k < 8 → ∃ t, exec (.sgcBankWrite l (BitVec.ofNat 32 k)) s = .next t ∧ linksAside t s.refreshShown ∧
    if k < s.dies then granted t l ∧ (t.link l).sel = { (s.link l).sel with bank := k }
    else refusedWith t l 0x0A ∧ (t.link l).sel = (s.link l).sel
def limZselWrite (l : Link) (cell ti si : Nat) (s : State) : Prop :=
  s.takes l → cell < 512 → ti < 8 → si < 8 →
    ∃ t, exec (.limZselWrite l (BitVec.ofNat 32 (cell * 65536 + ti * 8 + si))) s = .next t ∧ linksAside t s.refreshShown ∧
      if cell / 64 < s.dies ∧ ti ≤ 5 then
        granted t l ∧ (t.link l).sel = { (s.link l).sel with zsel := BitVec.ofNat 32 (cell * 65536 + ti * 8 + si) }
      else refusedWith t l 0x0A ∧ (t.link l).sel = (s.link l).sel
/-- R230: a reset of a cell of the selected bank forgets its anchor, its SOC, its impedances and its capacity; with bit 8 every
cell of the bank is reset. -/
def sgcReset (l : Link) (i j : Nat) (s : State) : Prop :=
  s.takes l → i < 64 → ∃ t, exec (.sgcReset l (BitVec.ofNat 32 i)) s = .next t ∧ granted t l ∧ t.regs = s.refreshShown.regs ∧
    t.cellSage ((s.link l).sel.bank * 64 + i) = { cap := (s.get F.SGE_CAPNOM_CAP : Rat) / 100 } ∧
    (j ≠ (s.link l).sel.bank * 64 + i → t.cellSage j = s.cellSage j)
def sgcResetAll (l : Link) (i : Nat) (s : State) : Prop :=
  s.takes l → i < 64 → ∃ t, exec (.sgcReset l 0x100) s = .next t ∧ granted t l ∧
    t.cellSage ((s.link l).sel.bank * 64 + i) = { cap := (s.get F.SGE_CAPNOM_CAP : Rat) / 100 }

/-! ### Contactors -/

/-- R248, R270: a CONNECT that no row of R248 refuses waits for the commit while one that concerns it is staged; with COORD, or
while the module holds its own connection, it waits for a grant; otherwise the pull-in of CD1 begins. A further one while it
waits changes nothing but the words that show the moment. The last is the model's reading (log entry 35). -/
def connect (l : Link) (s : State) : Prop :=
  s.takes l → s.connectRefused = false → s.prot.waitCommit = false → s.prot.waitSince = none →
    ∃ t, exec (.connect l) s = .next t ∧ granted t l ∧
      if s.closingDeferred then linksAside t { s.refreshShown with prot := { s.prot with waitCommit := true } }
      else if s.on F.KRG_CFG_COORD = true ∨ s.ownHold = true then
        t.prot = { s.prot with waitCommit := false, waitSince := some s.now } ∧ t.on F.KRG_STAT_WAIT = true
      else t.prtState = 1 ∧ t.prot.closing = some {} ∧ t.prot.waitSince = none ∧ t.on F.KRG_STAT_GRANTED = true ∧
        (bit (s.get F.PRT_DRV_EN) 1 = true → t.coilOnNow 1 = true ∧ (1, s.now) ∈ t.prot.pullAt)
def connectWaiting (l : Link) (s : State) : Prop :=
  s.takes l → s.prtState = 0 → (s.prot.waitCommit = true ∨ s.prot.waitSince.isSome = true) →
    ∃ t, exec (.connect l) s = .next t ∧ granted t l ∧ linksAside t s.refreshShown
def connectRefused (l : Link) (s : State) : Prop :=
  s.takes l → (s.prtState ≠ 0 ∨ (s.prot.waitCommit = false ∧ s.prot.waitSince = none ∧
      (s.faultAsserted = true ∨ s.on F.PWR_STAT_WARN = true ∨ s.get F.PRT_STAT_FAULT % 8 ≠ 0 ∨ s.get F.TMP_LATCH_LATCHED ≠ 0 ∨
        s.on F.STV_STAT_S = true ∨ s.prot.coolUntil.isSome = true ∨ s.condOn 0x02 = true))) →
    ∃ t, exec (.connect l) s = .next t ∧ refusedWith t l 0x0A ∧ linksAside t s.refreshShown

/-- R264, R255, R257: DISCONNECT of a connected string raises condition 0x0D and takes the orderly path; with STATE at OPEN it is
refused. -/
def disconnect (l : Link) (s : State) : Prop :=
  s.takes l → s.prtState = 5 → s.prot.closing = none → ∃ t, exec (.disconnect l) s = .next t ∧ granted t l ∧
    t.condOn 0x0D = true ∧ t.prtState = 5 ∧ 2 ≤ t.get F.PRT_STAT_PATH ∧ t.get F.PRT_TARGET_DIS = 0 ∧ t.get F.PRT_TARGET_CHG = 0 ∧
    ∃ e ∈ t.prot.deadlines, e.1 = 0x0D
def disconnectRefused (l : Link) (s : State) : Prop :=
  s.takes l → s.prtState = 0 → ∃ t, exec (.disconnect l) s = .next t ∧ refusedWith t l 0x0A ∧ linksAside t s.refreshShown

/-- R261, R246, R388: CHARGE_ON closes CD3 where every condition holds and the charge interlock still stands, and is refused
otherwise. -/
def chargeOn (l : Link) (s : State) : Prop :=
  s.takes l → s.chargeOk = true → s.faultAsserted = false → bit (s.get F.PRT_DRV_EN) 3 = true → s.matedCond = true →
    s.on F.SAF_STAT_PROP_EN = false → s.on F.SAF_STAT_GRDDONE = true → s.guardOpen 2 = false → s.sfault = false →
    (s.useBit 3 = true → s.rxBit 3 = true) →
    ∃ t, exec (.chargeOn l) s = .next t ∧ granted t l ∧ t.coilOnNow 3 = true ∧ (3, s.now) ∈ t.prot.pullAt
def chargeOnRefused (l : Link) (s : State) : Prop :=
  s.takes l → s.chargeOk = false → ∃ t, exec (.chargeOn l) s = .next t ∧ refusedWith t l 0x0A ∧ linksAside t s.refreshShown
/-- R262: CHARGE_OFF sets the charge target to 0 ahead of opening CD3; while CD3 is off it changes nothing. -/
def chargeOff (l : Link) (s : State) : Prop :=
  s.takes l → s.coilOnNow 3 = true → ∃ t, exec (.chargeOff l) s = .next t ∧ granted t l ∧
    t.prot.chargeOffAt = some (s.prot.chargeOffAt.getD s.now) ∧ t.get F.PRT_TARGET_CHG = 0 ∧ t.coilOnNow 3 = true
def chargeOffIdle (l : Link) (s : State) : Prop :=
  s.takes l → s.coilOnNow 3 = false → ∃ t, exec (.chargeOff l) s = .next t ∧ granted t l ∧ linksAside t s.refreshShown
/-- R264: CLEAR clears the FAULT bits of contactors that are off, and condition 0x0C. -/
def prtClear (l : Link) (m : Nat) (s : State) : Prop :=
  s.takes l → m < 4 → ∃ t, exec (.prtClear l) s = .next t ∧ granted t l ∧
    t.coilFault m = (s.coilFault m && s.coilOnNow m) ∧ t.condOn 0x0C = false ∧ t.prot = { s.prot with newFault := false }
/-- R254: the key clears WELD and returns STATE from WELDED to OPEN, or for a string still on the bus to CONNECTED (log entry 78),
unless a contactor reads closed while it is off. -/
def weldclr (l : Link) (s : State) : Prop :=
  s.takes l → (∀ m < 4, s.cdClosed m = true → s.coilOnNow m = true) → ∃ t, exec (.weldclr l 0xC01D) s = .next t ∧ granted t l ∧
    t.get F.PRT_STAT_WELD = 0 ∧ t.prtState = if s.prtState = 8 then (if s.onBus then 5 else 0) else s.prtState
def weldclrRefused (l : Link) (key : Word) (m : Nat) (s : State) : Prop :=
  s.takes l → (key ≠ 0xC01D ∨ (m < 4 ∧ s.cdClosed m = true ∧ s.coilOnNow m = false)) →
    ∃ t, exec (.weldclr l key) s = .next t ∧ refusedWith t l 0x0A ∧ linksAside t s.refreshShown

/-- R246: the pull-in of a coil ends after PULL, and the coil goes into hold. -/
def pullInEnd (m e : Nat) (s : State) : Prop :=
  s.prot.pullAt.find? (fun x => x.1 == m) = some (m, e) → m ∉ s.prot.hold → ∃ t, exec (.pullInEnd m) s = .next t ∧
    t.prot = { s.prot with hold := m :: s.prot.hold } ∧ t.now = max s.now (e + s.get F.PRT_ECON_PULL * 1000) ∧ t.regs = s.regs

/-- R247, R249: an auxiliary contact that is wired is shown; in a closing sequence AUX1 and AUX2 are timed, and AUX0 with CD2 off and
AUX2 open completes it, while AUX2 reading closed is awaited; a contact that opens while its coil is on is a contactor fault, and one of CD3 ends its drive. -/
def auxChange (m : Nat) (closed : Bool) (c : Closing) (s : State) : Prop :=
  m < 4 → s.auxWired m = true → s.cdClosed m ≠ closed → ∃ t, exec (.auxChange m closed) s = .next t ∧ t.cdClosed m = closed ∧
    (closed = true → m = 1 → s.prtState = 1 → s.prot.closing = some c → t.prot.closing = some { c with aux1At := some s.now }) ∧
    (closed = true → m = 2 → s.prtState = 2 → s.prot.closing = some c → t.prot.closing = some { c with t0 := some s.now }) ∧
    (closed = true → m = 0 → s.prtState = 4 → s.prot.closing = some c → s.coilOnNow 2 = false →
      (s.cdClosed 2 = false → s.paused = false → t.prtState = 5 ∧ t.prot.closing = none ∧ t.on F.PRT_IFLAG_CONNECTED = true) ∧
      (s.cdClosed 2 = true → t.prtState = 4 ∧ t.awaiting 2 = true)) ∧
    (closed = false → m = 3 → t.coilOnNow 3 = false) ∧
    (closed = false → s.coilOnNow m = true → t.coilFault m = true ∧ raised s t 0x10 (.flag F.PRT_IFLAG_CFAULT.lo) 2)

/-- R249 to R251: a pre-charge that does not reach 95 % in TMAX, and a match that does not come in TWAIT, end the sequence with
their outcome; the string returns to OPEN, through the openings of what has closed. -/
def prechargeTimeout (c : Closing) (t0 : Nat) (s : State) : Prop :=
  s.prot.closing = some { c with t0 := some t0 } → s.prtState = 2 → s.paused = false → ∃ t, exec .prechargeTimeout s = .next t ∧
    t.get F.PRT_PRESTAT_OUT = 3 ∧ t.prot.closing = none ∧ t.now = max s.now (t0 + s.get F.PRT_PRECHK_TMAX * 1000) ∧
    (t.prtState = 6 ∨ t.prtState = 0 ∨ t.prtState = 8) ∧ (s.coilOnNow 3 = false → s.awaiting 3 = false → t.coilOnNow 2 = false) ∧
    raised s t 0x10 (.flag F.PRT_IFLAG_PREFAIL.lo) 1 ∧
    (s.get F.PRT_PRECHK_COOL ≠ 0 → t.prot.coolUntil = some (t.now + s.get F.PRT_PRECHK_COOL * 1000000) ∧ t.on F.PRT_STAT_COOL = true)
def matchTimeout (c : Closing) (e : Nat) (s : State) : Prop :=
  s.prot.closing = some { c with matchAt := some e } → s.prtState = 3 → s.paused = false → ∃ t, exec .matchTimeout s = .next t ∧
    t.get F.PRT_PRESTAT_OUT = 4 ∧ t.prot.closing = none ∧ t.now = max s.now (e + s.get F.PRT_BUS_TWAIT * 1000000) ∧
    (t.prtState = 6 ∨ t.prtState = 0 ∨ t.prtState = 8) ∧ t.on F.PRT_IFLAG_PREFAIL = true
/-- R249: CD2 is turned off 20 ms after AUX0 closed; where its contact is not awaited and none is welded, the string is on the bus. -/
def prechargeOverlapEnd (c : Closing) (e : Nat) (s : State) : Prop :=
  s.prot.closing = some { c with overlapAt := some e } → s.prtState = 4 → s.coilOnNow 2 = true → s.paused = false →
    ∃ t, exec .prechargeOverlapEnd s = .next t ∧ t.coilOnNow 2 = false ∧ t.now = max s.now (e + 20000) ∧
      (s.auxWired 2 = true → s.cdClosed 2 = false → s.awaiting 2 = false → s.get F.PRT_STAT_WELD = 0 → t.prtState = 5 ∧ t.on F.PRT_IFLAG_CONNECTED = true) ∧
      (s.cdClosed 2 = true → t.awaiting 2 = true ∧ t.prtState = 4)
def prechargeCoolEnd (e : Nat) (s : State) : Prop :=
  s.prot.coolUntil = some e → ∃ t, exec .prechargeCoolEnd s = .next t ∧ t.prot.coolUntil = none ∧
    t.on F.PRT_STAT_COOL = false ∧ t.now = max s.now e

/-- R247: an overcurrent of a high side, a hold current outside its window, and a contact that does not close in TCLOSE turn the
high side off as contactor faults, with an event of class 2. -/
def coilOvercurrent (m : Nat) (s : State) : Prop :=
  m < 4 → s.coilOnNow m = true → ∃ t, exec (.coilOvercurrent m) s = .next t ∧ t.coilOnNow m = false ∧ t.coilFault m = true ∧
    t.on F.PRT_IFLAG_CFAULT = true ∧ raised s t 0x10 (.flag F.PRT_IFLAG_CFAULT.lo) 2
def coilCurrentFault (m : Nat) (s : State) : Prop :=
  m < 4 → m ∈ s.prot.hold → ∃ t, exec (.coilCurrentFault m) s = .next t ∧ t.coilOnNow m = false ∧ t.coilFault m = true ∧
    t.on F.PRT_IFLAG_CFAULT = true ∧ raised s t 0x10 (.flag F.PRT_IFLAG_CFAULT.lo) 2
def auxCloseTimeout (m e : Nat) (s : State) : Prop :=
  m < 4 → s.prot.pullAt.find? (fun x => x.1 == m) = some (m, e) → s.cdClosed m = false → s.auxWired m = true →
    (s.paused = false ∨ s.prot.closing = none) → ∃ t, exec (.auxCloseTimeout m) s = .next t ∧ t.coilOnNow m = false ∧ t.coilFault m = true ∧
      t.now = max s.now (e + s.get F.PRT_AUXT_TCLOSE * 1000) ∧ raised s t 0x10 (.flag F.PRT_IFLAG_CFAULT.lo) 2
/-- R253: a contact that still reads closed TOPEN after its coil was turned off is welded, with an event of class 3; while
no opening goes on, it is no longer awaited. -/
def auxOpenTimeout (m e : Nat) (s : State) : Prop :=
  m < 4 → s.prot.offAt.find? (fun x => x.1 == m) = some (m, e) → ∃ t, exec (.auxOpenTimeout m) s = .next t ∧
    t.now = max s.now (e + s.get F.PRT_AUXT_TOPEN * 1000) ∧
    (s.auxWired m = true → s.cdClosed m = true → bit (t.get F.PRT_STAT_WELD) m = true ∧
      raised s t 0x10 (.flag F.PRT_IFLAG_WELD.lo) 3) ∧
    (s.prot.opening = none → (∀ j < 4, s.coilOnNow j = false) → t.awaiting m = false)

/-- R249, R254: at the end of the overlap the contact of CD2 decides: read open, and none welded, the string is on the bus; read closed, CD2 is welded
and what has closed opens again. -/
def overlapContact (c : Closing) (e f : Nat) (s : State) : Prop :=
  s.prot.offAt.find? (fun x => x.1 == 2) = some (2, e) → s.prot.closing = some { c with overlapAt := some f } → s.prtState = 4 →
    s.prot.opening = none → s.paused = false → ∃ t, exec (.auxOpenTimeout 2) s = .next t ∧ t.prot.closing = none ∧
      (s.cdClosed 2 = false → s.get F.PRT_STAT_WELD = 0 → t.prtState = 5 ∧ t.on F.PRT_IFLAG_CONNECTED = true) ∧
      (s.auxWired 2 = true → s.cdClosed 2 = true → bit (t.get F.PRT_STAT_WELD) 2 = true ∧ (t.prtState = 6 ∨ t.prtState = 8))

/-- R252, R253: at the end of the hold CD1 is turned off; a current seen in it marks CD0 welded; where neither current nor voltage
decided, the opening is unproven. -/
def cd1HoldEnd (o : Opening) (e : Nat) (s : State) : Prop :=
  s.prot.opening = some { o with holdAt := some e } → ∃ t, exec .cd1HoldEnd s = .next t ∧ t.coilOnNow 1 = false ∧
    t.now = max s.now (e + s.get F.PRT_WELD_T * 10000) ∧
    (o.current = true → bit (t.get F.PRT_STAT_WELD) 0 = true ∧ raised s t 0x10 (.flag F.PRT_IFLAG_WELD.lo) 3) ∧
    (t.prot.opening = none → t.on F.PRT_LAST_UNPROVEN = (!o.current && !o.proven && !bit (t.get F.PRT_STAT_WELD) 0)) ∧
    (∀ x, t.prot.opening = some x → x.unproven = (!o.current && !o.proven))

/-- R258, R408: at its deadline a connected string opens under load: every high side off at once, counted, its proof left to
the contact of CD0, with an event of class 2; for a thermal stop the fault line asserts. -/
def deadlineExpiry (e : Nat × Nat) (m : Nat) (s : State) : Prop :=
  s.firstDeadline deadlineAct = some e → s.prtState = 5 → m < 4 → ∃ t, exec .deadlineExpiry s = .next t ∧ t.now = max s.now (deadlineAct e) ∧
    t.coilOnNow m = false ∧ t.get F.PRT_COUNT_UNDERLOAD = min (s.get F.PRT_COUNT_UNDERLOAD + 1) 65535 ∧
    raised s t 0x10 (.flag F.PRT_IFLAG_DEADLINE.lo) 2 ∧ t.prtState ≠ 5 ∧
    (s.coilOnNow 0 = true → s.cdClosed 0 = true → t.on F.PRT_LAST_UNDERLOAD = true) ∧
    (e.1 ≠ 4 → ∀ x, t.prot.opening = some x → x.unproven = true ∧ x.cond = e.1) ∧
    (e.1 = 4 → t.on F.CMP_FLSTAT_ASSERTED = true ∧ (s.on F.CMP_FLSTAT_ASSERTED = false → t.pins.fltN = true))
/-- R256: with both current channels bad the sequenced opening starts at the deadline, under load. -/
def badChannelsOpen (e : Nat) (s : State) : Prop :=
  s.governing = some (0x07, e) → s.prtState = 5 → ∃ t, exec .badChannelsOpen s = .next t ∧ t.now = max s.now e ∧ t.coilOnNow 3 = false ∧
    t.prtState ≠ 5 ∧ t.get F.PRT_COUNT_UNDERLOAD = min (s.get F.PRT_COUNT_UNDERLOAD + 1) 65535

/-- R255: a suspect current, a degraded cell and a hot cell raise their conditions once their times have passed; a connected
string takes the orderly path. -/
def suspectTimeExpiry (e : Nat) (s : State) : Prop :=
  s.running = true → s.cur.suspectSince = some e → ∃ t, exec .suspectTimeExpiry s = .next t ∧ t.condOn 0x06 = true ∧
    t.now = max s.now (e + s.get F.PRT_TIMES_TSUSP * 1000000) ∧ (s.prtState = 5 → s.prot.closing = none → 2 ≤ t.get F.PRT_STAT_PATH)
def degradedCellExpiry (k i e : Nat) (s : State) : Prop :=
  i < 64 → s.prot.degrSince.find? (fun x => x.1 == k * 64 + i) = some (k * 64 + i, e) →
    ∃ t, exec (.degradedCellExpiry k i) s = .next t ∧ t.condOn 0x0A = true ∧ t.now = max s.now (e + s.tdegr) ∧
      (s.prtState = 5 → s.prot.closing = none → 2 ≤ t.get F.PRT_STAT_PATH)
def cellTempExpiry (k i e : Nat) (s : State) : Prop :=
  i < 64 → s.prot.hotSince.find? (fun x => x.1 == k * 64 + i) = some (k * 64 + i, e) →
    ∃ t, exec (.cellTempExpiry k i) s = .next t ∧ t.condOn 0x03 = true ∧ t.now = max s.now (e + s.tconf) ∧
      (s.prtState = 5 → s.prot.closing = none → 2 ≤ t.get F.PRT_STAT_PATH)

/-- R259: outside a freeze the limit frame goes to its port, while it is up, with its eight bytes, at once or PERIOD after the last, and its sequence rises. -/
def limitFrame (s : State) : Prop :=
  s.running = true → s.frozen = false → s.on F.PRT_CAN_EN = true → ∃ t, exec .limitFrame s = .next t ∧
    t.prot.frameSeq = (s.prot.frameSeq + 1) % 256 ∧ t.prot.frameAt = t.now ∧ t.prot.frameDue = false ∧ t.regs = s.regs ∧
    (if s.prot.frameDue then t.now = s.now else t.now = max s.now (s.prot.frameAt + s.get F.PRT_CANPER_PERIOD * 1000)) ∧
    (s.canUp (s.get F.PRT_CAN_PORT) = true →
      ((t.link (if s.get F.PRT_CAN_PORT = 0 then .can0 else .can1)).tx.map fun f => (f.id, f.bytes.length, f.bytes.take 3)) =
        some (s.get F.PRT_CAN_ID, 8, [BitVec.ofNat 8 s.prot.frameSeq, BitVec.ofNat 8 (s.get F.PRT_STAT_PATH * 64 + s.prtState),
          BitVec.ofNat 8 (s.get F.PRT_PATH_COND)]))

/-- R262: CD3 turns off 200 ms after the charge target fell to 0, and at once when SHORE_DET goes. -/
def chargeOffTimeout (e : Nat) (s : State) : Prop :=
  s.prot.chargeOffAt = some e → ∃ t, exec .chargeOffTimeout s = .next t ∧ t.coilOnNow 3 = false ∧ t.prot.chargeOffAt = none ∧
    t.now = max s.now (e + 200000)
def shoreDetChange (level : Bool) (s : State) : Prop :=
  ∃ t, exec (.shoreDetChange level) s = .next t ∧ t.pins.shoreDet = level ∧
    (s.running = true → level = false → t.coilOnNow 3 = false)

/-! ### The ring and module authentication -/

/-- R266: a valid message of another member is forwarded and taken into account, unless it announces a departure or another serial
number is heard at its address. -/
def ringStatusMsg (m : RingMsg) (s : State) : Prop :=
  s.running = true → s.ringOn = true → m.addr < 16 → s.ringExcluded = false → m.addr ≠ s.ownAddr → m.excluded = false →
    m.departing = false → (∀ v ∈ s.ring.voices, v.addr = m.addr → v.serial = m.serial ∨ v.time + 5000 < s.now) →
    ∃ t, exec (.ringStatusMsg m) s = .next t ∧ t.ring.forwarded = some m ∧
      (∃ x ∈ t.ring.members, x.msg = m ∧ x.heard = s.now) ∧
      ((∀ x ∈ s.ring.members, x.msg.addr ≠ m.addr) → t.on F.KRG_IFLAG_MEMBER = true)
/-- R266, R267: a member that departs, and one at whose address two serial numbers have been heard within 5 ms, is removed; a message with the own
address and another serial number excludes the module itself, with an event of class 2. -/
def ringMemberLeaves (m : RingMsg) (s : State) : Prop :=
  s.running = true → s.ringOn = true → m.addr < 16 → s.ringExcluded = false → m.addr ≠ s.ownAddr →
    (m.excluded = true ∨ m.departing = true ∨ ∃ v ∈ s.ring.voices, v.addr = m.addr ∧ v.serial ≠ m.serial ∧ s.now ≤ v.time + 5000) →
    ∃ t, exec (.ringStatusMsg m) s = .next t ∧ t.ring.forwarded = some m ∧ ∀ x ∈ t.ring.members, x.msg.addr ≠ m.addr
def ringDuplicate (m : RingMsg) (s : State) : Prop :=
  s.running = true → s.ringOn = true → m.addr < 16 → s.ringExcluded = false → m.addr = s.ownAddr → m.serial ≠ s.serial →
    ∃ t, exec (.ringStatusMsg m) s = .next t ∧ t.on F.KRG_STAT_DUPADDR = true ∧ t.ring.members = [] ∧ t.ring.head = none ∧
      t.on F.KRG_STAT_ISHEAD = false ∧ raised s t 0x12 (.flag F.KRG_IFLAG_DUPADDR.lo) 2
/-- R266: a member not heard for 5 ms is removed. -/
def memberLost (m : Member) (s : State) : Prop :=
  s.ring.members.find? (fun x => x.msg.addr == m.msg.addr) = some m → ∃ t, exec (.memberLost m.msg.addr) s = .next t ∧
    (∀ x ∈ t.ring.members, x.msg.addr ≠ m.msg.addr) ∧ t.now = max s.now (m.heard + 5000) ∧ t.on F.KRG_IFLAG_MEMBER = true

/-- R268, R289: every 1 ms the module sends its status message; where the cores do not run nothing else happens. Otherwise an
excluded module has no head, and one without other members that has been in RUN for 20 ms is its own head. -/
def ringCycle (s : State) : Prop :=
  s.running = true → ∃ t, exec .ringCycle s = .next t ∧ t.now = max s.now (s.ring.cycleAt + 1000) ∧ t.ring.cycleAt = t.now ∧
    (t.ring.sent.map fun m => (m.addr, m.serial)) = some (s.ownAddr, s.serial) ∧ (s.coresRun = false → t.regs = s.regs) ∧
    (s.coresRun = true → bit (t.get F.KRG_MEMBERS_HEARD) s.ownAddr = true ∧ (s.ringExcluded = true → t.ring.head = none) ∧
      (s.ringExcluded = false → s.ringOn = true → s.ring.members = [] → s.ownHealthy = true → s.ring.runAt + 20000 ≤ s.now →
        (s.ring.head = none ∨ s.ring.head = some s.ownAddr) → t.ring.head = some s.ownAddr))
/-- R270: a wait ends without a grant after TGRANT. -/
def grantTimeout (e : Nat) (s : State) : Prop :=
  s.prot.waitSince = some e → ∃ t, exec .grantTimeout s = .next t ∧ t.prot.waitSince = none ∧ t.on F.KRG_STAT_WAIT = false ∧
    t.on F.KRG_IFLAG_NOGRANT = true ∧ t.now = max s.now (e + s.get F.KRG_CFG_TGRANT * 1000000) ∧ t.prtState = s.prtState
/-- R272, R295: the head sends the system frame to its port, while it is up, at once or PERIOD after the last, and the sequence rises;
while another party holds the ring token it stays due, and the head queues for the token. -/
def systemFrame (s : State) : Prop :=
  s.coresRun = true → s.on F.KRG_CAN_EN = true → s.on F.KRG_STAT_ISHEAD = true → s.leaseState 6 = 0 → ∃ t, exec .systemFrame s = .next t ∧
    t.ring.sysNext = (s.ring.sysNext + 1) % 256 ∧ t.ring.sysAt = t.now ∧ t.ring.sysDue = false ∧ t.regs = s.regs ∧
    (if s.ring.sysDue then t.now = s.now else t.now = max s.now (s.ring.sysAt + s.get F.KRG_CANPER_PERIOD * 1000)) ∧
    (s.canUp (s.get F.KRG_CAN_PORT) = true →
      ((t.link (if s.get F.KRG_CAN_PORT = 0 then .can0 else .can1)).tx.map fun f => (f.id, f.bytes.length, f.bytes.take 1)) =
        some (s.get F.KRG_CAN_ID, 8, [BitVec.ofNat 8 (s.ring.sysNext % 256)]))

def systemFrameWaits (s : State) : Prop :=
  s.shaped → s.coresRun = true → s.on F.KRG_CAN_EN = true → s.on F.KRG_STAT_ISHEAD = true → s.leaseState 6 ≠ 0 →
    s.leaseHolder 6 ≠ s.coreParty → ∃ t, exec .systemFrame s = .next t ∧ t.ring = { s.ring with sysDue := true } ∧
      t.links = s.links ∧ s.coreParty ∈ (t.lease 6).queue

/-- R273, R23: a complete image becomes the newest one held, once the MRAM write port is free or the ring's; one that fails its
CRC is flagged and changes neither half. The half it takes is the model's reading (log entry 40). -/
def mirrorReceived (source serial seq : Nat) (image : MirrorImage) (s : State) : Prop :=
  s.running = true → s.ringOn = true → s.ringExcluded = false → source < 16 →
    ∃ t, exec (.mirrorReceived source serial seq image true) s = .next t ∧
      if s.portOpen partyIsland2 then
        t.mirrorHeld = some ⟨source, serial, seq, image⟩ ∧ t.on F.KRG_MIRSTAT_HVALID = true ∧ t.get F.KRG_MIRSTAT_HELD = source
      else t.mirrorHeld = s.mirrorHeld ∧ t.ring.stored = some ⟨source, serial, seq, image⟩ ∧
        (s.leaseHolder 0 ≠ partyIsland2 → partyIsland2 ∈ (t.lease 0).queue)
def mirrorFailed (source serial seq : Nat) (image : MirrorImage) (s : State) : Prop :=
  s.running = true → s.ringOn = true → s.ringExcluded = false →
    ∃ t, exec (.mirrorReceived source serial seq image false) s = .next t ∧ t.ring = s.ring ∧ t.on F.KRG_IFLAG_MIRFAIL = true
/-- R274: a header of another serial number announces a replacement, with an event of class 1; the own one, where the start found
no Sage copy, a restore. -/
def mirrorHeaderReply (serial : Option Nat) (s : State) : Prop :=
  s.ring.asked = true → s.running = true → s.ringExcluded = false → ∃ t, exec (.mirrorHeaderReply serial) s = .next t ∧
    t.ring.asked = false ∧ (serial = none → t.regs = s.regs) ∧
    (serial.isSome = true → serial ≠ some s.serial → t.on F.KRG_STAT_REPL = true ∧ raised s t 0x12 (.flag F.KRG_IFLAG_REPL.lo) 1) ∧
    (serial = some s.serial → 2 ≤ s.get F.SGE_WBSTAT_START → t.on F.KRG_STAT_RESTORE = true)

/-- R275: ADOPT of an undecided replacement or restore starts the fetch while STATE is OPEN, on an unlocked link. -/
def adopt (l : Link) (s : State) : Prop :=
  s.takes l → (s.on F.KRG_STAT_REPL = true ∨ s.on F.KRG_STAT_RESTORE = true) → s.prtState = 0 → s.unlocked l = true →
    ∃ t, exec (.adopt l) s = .next t ∧ granted t l ∧ t.ring.fetching = true ∧ t.get F.KRG_MIRSTAT_FETCH = 1
def adoptRefused (l : Link) (s : State) : Prop :=
  s.takes l → ((s.on F.KRG_STAT_REPL = false ∧ s.on F.KRG_STAT_RESTORE = false) ∨ s.prtState ≠ 0 ∨ s.unlocked l = false) →
    ∃ t, exec (.adopt l) s = .next t ∧ linksAside t s.refreshShown ∧
      ((s.on F.KRG_STAT_REPL = false ∧ s.on F.KRG_STAT_RESTORE = false) ∨ s.prtState ≠ 0 → refusedWith t l 0x0A) ∧
      (¬((s.on F.KRG_STAT_REPL = false ∧ s.on F.KRG_STAT_RESTORE = false) ∨ s.prtState ≠ 0) → refusedWith t l 0x03)
/-- R275: an image fetched whole ends the replacement or restore with what it holds; one that fails changes no configuration. -/
def adoptFetchDone (m : MirrorImage) (s : State) : Prop :=
  s.ring.fetching = true → ∃ t, exec (.adoptFetchDone true m) s = .next t ∧ t.ring.fetching = false ∧
    t.on F.KRG_STAT_REPL = false ∧ t.on F.KRG_STAT_RESTORE = false ∧ t.get F.KRG_MIRSTAT_FETCH = 2 ∧
    t.on F.KRG_IFLAG_ADOPTED = true ∧ t.aut.anchor = m.anchor ∧ t.aut.ids = m.ids ∧ t.sage.ahDis = m.ahDis ∧
    t.sage.ahChg = m.ahChg ∧ t.sage.efc = m.efc ∧ t.sage.copyA = t.sage.copyB ∧ t.cur.gStr = m.gainStr.toInt ∧
    t.cur.gLnk = m.gainLnk.toInt ∧ t.reg F.AUT_ANCHOR_FP.addr = if m.anchor = [] then 0 else fingerprint m.anchor
def adoptFetchFailed (m : MirrorImage) (s : State) : Prop :=
  s.ring.fetching = true → ∃ t, exec (.adoptFetchDone false m) s = .next t ∧ t.ring.fetching = false ∧
    t.get F.KRG_MIRSTAT_FETCH = 3 ∧ t.on F.KRG_IFLAG_MIRFAIL = true ∧ t.shadow = s.shadow ∧ t.sage = s.sage ∧ t.aut = s.aut ∧
    t.commit = s.commit
/-- R275, R270: DECLINE ends the replacement or restore; CANCEL ends the wait for a grant. -/
def decline (l : Link) (s : State) : Prop :=
  s.takes l → ∃ t, exec (.decline l) s = .next t ∧ granted t l ∧ t.on F.KRG_STAT_REPL = false ∧
    t.on F.KRG_STAT_RESTORE = false ∧ t.ring.fetching = false
def cancel (l : Link) (s : State) : Prop :=
  s.takes l → ∃ t, exec (.cancel l) s = .next t ∧ granted t l ∧ t.prot.waitSince = none ∧
    (s.prot.waitSince.isSome = true → t.on F.KRG_STAT_WAIT = false ∧ t.on F.KRG_IFLAG_NOGRANT = true) ∧
    (s.prot.waitSince = none → linksAside t s.refreshShown)

/-- R282: on an unlocked link a staged key that is a point of the curve becomes the trust anchor, with its fingerprint; another is
refused. -/
def installAnchor (l : Link) (s : State) : Prop :=
  s.takes l → s.unlocked l = true → onCurve s.aut.staging = true → ∃ t, exec (.installAnchor l) s = .next t ∧ granted t l ∧
    t.aut.anchor = s.aut.staging ∧ t.reg F.AUT_ANCHOR_FP.addr = fingerprint s.aut.staging ∧ t.on F.AUT_IFLAG_ANCHOR = true
def anchorRefused (l : Link) (s : State) : Prop :=
  s.takes l → (s.unlocked l = false ∨ onCurve s.aut.staging = false) → ∃ t, exec (.installAnchor l) s = .next t ∧
    refusedWith t l (if s.unlocked l then 0x0A else 0x03) ∧ linksAside t s.refreshShown
/-- R282: enrolling takes the IDs the chains present where a tag answers, on an unlocked link. The command row brings them; for a plain
write to AUT_CMD the enabled slots are read then, and what they present is free (log entry 41). -/
def enrol (l : Link) (ids : List (Nat × Nat)) (j id : Nat) (s : State) : Prop :=
  s.takes l → s.unlocked l = true → (ids.map (·.1)).Nodup → (j, id) ∈ ids → ∃ t, exec (.enrol l ids) s = .next t ∧ granted t l ∧
    countOf t.aut.ids j = if id = 0 then countOf s.aut.ids j else id
def enrolPlain (l : Link) (j : Nat) (s : State) : Prop :=
  s.takes l → s.unlocked l = true → s.aut.presented = none → j ∈ s.enabledSlots →
    ∃ t, exec (.write l ⟨0x0F, 0xE5, 2⟩) s = .next t ∧ granted t l ∧ t.aut.reads = s.aut.reads + 1 ∧
      let id := (Config.chainId s.aut.reads j).toNat
      countOf t.aut.ids j = if id = 0 then countOf s.aut.ids j else id
/-- R282, R279: a round of every enabled slot; a poll starts one for a slot with an enrolled ID whose chain presents
another one, as an ID change when it is read for the first time. -/
def authenticateAll (l : Link) (j : Nat) (s : State) : Prop :=
  s.takes l → j < 64 → s.slotOn j = true → ∃ t, exec (.authenticateAll l) s = .next t ∧ granted t l ∧
    (∃ r ∈ t.aut.round, r.slot = j) ∧ t.slotState j = if s.slotState j = 0 then 1 else s.slotState j
def autPoll (ids : List (Nat × Nat)) (j : Nat) (s : State) : Prop :=
  s.running = true → j < 64 → s.slotOn j = true → ∃ t, exec (.autPoll ids) s = .next t ∧ countOf t.aut.polled j = countOf ids j ∧
    t.now = max s.now (s.aut.pollAt + s.get F.AUT_CFG_POLL * 1000000) ∧ t.aut.pollAt = t.now ∧
    (countOf s.aut.ids j ≠ 0 → countOf ids j ≠ countOf s.aut.ids j →
      ∃ r ∈ t.aut.round, r.slot = j ∧ ((j, countOf ids j) ∉ s.aut.polled → r.trigger = 1))
/-- R278, R280, R281: the slot at work on a die is decided: its state is shown, it leaves the round, an unqualified one is kept as such, and a
swapped one is enrolled and its cells reset, with an event of class 1. -/
def slotAuthDone (j i : Nat) (x : TagResult) (q : SlotRound) (s : State) : Prop :=
  j < 64 → j / 8 < s.dies → s.atWork (j / 8) = some q → q.slot = j → ∃ t, exec (.slotAuthDone j x) s = .next t ∧
    t.slotState j = s.slotOutcome j x ∧ (∀ r ∈ t.aut.round, r.slot ≠ j) ∧
    (4 ≤ s.slotOutcome j x → j ∈ t.aut.unq ∧ (j ∉ s.aut.unq → raised s t 0x0F (.flag F.AUT_IFLAG_UNQ.lo) 2)) ∧
    ((s.slotOutcome j x = 2 ∨ s.slotOutcome j x = 3) → j ∉ t.aut.unq) ∧
    (s.slotOutcome j x = 3 → countOf t.aut.ids j = x.id.toNat ∧
      (i ∈ s.slotCells j → t.cellSage (j / 8 * 64 + i) = { cap := (s.get F.SGE_CAPNOM_CAP : Rat) / 100 }) ∧
      raised s t 0x0F (.flag F.AUT_IFLAG_SWAP.lo) 1) ∧
    ((∀ r ∈ s.aut.round, r.slot = j) → t.on F.AUT_IFLAG_DONE = true)
/-- R280: what a healthy, awake die's slot is decided as. -/
def slotDecision (j : Nat) (x : TagResult) (s : State) : Prop :=
  s.slotOn j = true → s.healthy (j / 8) = true → bit (s.get F.STK_ROUTE_ASLEEP) (j / 8) = false →
    bit (s.get F.CMP_OWST_HARNESS) (j / 8) = false →
    s.slotOutcome j x = if x.present = false then 5
      else if s.aut.anchor = [] ∨ certValid x.cert s.aut.anchor x.id.toNat = false ∨ tagAnswers x = false then 4
      else if x.cert.cells ≠ s.get (F.AUT_MAP_LAST.at j) - s.get (F.AUT_MAP_FIRST.at j) + 1 then 6
      else if countOf s.aut.ids j = x.id.toNat ∨ countOf s.aut.ids j = 0 then 2 else 3

/-- R282, R284: a key word goes where IDX points, and IDX advances; a slot of a fitted die is selected for the link. -/
def autKeydataWrite (l : Link) (v : Word) (s : State) : Prop :=
  s.takes l → ∃ t, exec (.autKeydataWrite l v) s = .next t ∧ granted t l ∧
    t.aut = { s.aut with staging := s.aut.staging.set (s.get F.AUT_KEYIDX_IDX) v } ∧
    t.get F.AUT_KEYIDX_IDX = (s.get F.AUT_KEYIDX_IDX + 1) % 16
def autSelWrite (l : Link) (j : Nat) (s : State) : Prop :=
  s.takes l → j < 64 → ∃ t, exec (.autSelWrite l (BitVec.ofNat 32 j)) s = .next t ∧ linksAside t s.refreshShown ∧
    if j / 8 < s.dies then granted t l ∧ (t.link l).sel = { (s.link l).sel with slot := j }
    else refusedWith t l 0x0A ∧ (t.link l).sel = (s.link l).sel

/-! ### Redundant execution and leases -/

/-- R285, R286: while the C-die runs in dual mode, a mismatch freezes both cores and the leases of the pair, and ends an open commit. -/
def lockstepMismatch (a b : Bool) (j : Nat) (s : State) : Prop :=
  s.cdieRuns = true → s.get F.FLT_MODE_MODE = 0 → s.frozen = false → ∃ t, exec (.lockstepMismatch a b) s = .next t ∧
    t.flt.freezeAt = some s.now ∧ t.flt.survivor = none ∧ t.flt.parity = ofBool a + 2 * ofBool b ∧
    t.on F.FLT_PSTAT_FREEZE = true ∧ t.get F.FLT_COUNT_MISMATCH = min (s.get F.FLT_COUNT_MISMATCH + 1) 65535 ∧
    t.commit.accepted = none ∧ (j < 8 → s.leaseHolder j = 1 → s.leaseState j = 1 → t.leaseState j = 2)
/-- R287: who survives, from the self-tests and the parity errors. -/
def arbitrates (stA stB parA parB : Bool) : Prop :=
  arbitrate stA stB (ofBool parA + 2 * ofBool parB) =
    if stA = false ∧ stB = false then 1 else if stB = false then 2 else if stA = false then 3
    else if parB = true ∧ parA = false then 4 else if parA = true ∧ parB = false then 5 else 6
/-- R287, R296: with a survivor FLT_LAST shows the decision and the pair's leases are revoked; without one both cores are held,
the fault line asserts as source 7, queued writes and an open commit end. -/
def arbitration (stA stB : Bool) (e j : Nat) (s : State) : Prop :=
  s.flt.freezeAt = some e → s.flt.survivor = none → (stA = true ∨ stB = true) → ∃ t, exec (.arbitration stA stB) s = .next t ∧
    t.flt.survivor = some (if stA = false ∨ (stB = true ∧ s.flt.parity = 1) then 2 else 1) ∧
    t.get F.FLT_LAST_OUT = arbitrate stA stB s.flt.parity ∧ t.now = max s.now (e + 15) ∧
    (j < 8 → s.leaseHolder j = 1 → s.leaseState j ≠ 3 → t.leaseHolder j ≠ 1)
def arbitrationLost (e : Nat) (s : State) : Prop :=
  s.flt.freezeAt = some e → s.flt.survivor = none → noneWaits s → ∃ t, exec (.arbitration false false) s = .next t ∧
    t.get F.FLT_MODE_MODE = 3 ∧ t.flt.freezeAt = none ∧ t.flt.writeQueue = [] ∧ t.commit.accepted = none ∧ t.now = max s.now (e + 15) ∧
    t.on F.CMP_FLSTAT_ASSERTED = true ∧ (s.on F.CMP_FLSTAT_ASSERTED = false → t.pins.fltN = true) ∧
    raised s t 0x04 (.listed 0) 3
/-- R286, R293: the survivor resumes at most 18 µs after the mismatch, in degraded mode, with an event of class 2. -/
def coreResume (len e m : Nat) (s : State) : Prop :=
  s.flt.freezeAt = some e → s.flt.survivor = some m → m < 4 → s.pwr.phase = .run → s.flt.writeQueue = [] →
    noneWaits s →
    ∃ t, exec (.coreResume len) s = .next t ∧ t.get F.FLT_MODE_MODE = m ∧ t.flt.freezeAt = none ∧
      t.flt.degradedFrom = some t.now ∧ t.now = max s.now (e + (max 150 (min len 180) + 9) / 10) ∧
      t.get F.FLT_LAST_FREEZE = max 150 (min len 180) ∧ t.on F.FLT_PSTAT_DEGRADED = true ∧
      raised s t 0x04 (.flag F.FLT_IFLAG_MISMATCH.lo) 2
/-- R291: in degraded mode a slice begins at the first boundary at or after each 100 ms mark, and device firmware pauses as in a
freeze; after its length, of 16 µs at most, a slice that passed is counted and the next one is due, and one that failed holds both
cores. -/
def selfTestBegins (pass : Bool) (s : State) : Prop :=
  s.running = true → (s.get F.FLT_MODE_MODE = 1 ∨ s.get F.FLT_MODE_MODE = 2) → s.frozen = false →
    s.flt.lastMark < s.thy.boundary / 100000 * 100000 → ∃ t, exec (.selfTestSlice pass false) s = .next t ∧
      t.flt.lastMark = s.thy.boundary / 100000 * 100000 ∧ t.flt.sliceAt = some s.now ∧ t.frozen = true ∧
      t.on F.FLT_PSTAT_FREEZE = true ∧ t.now = s.now
def selfTestSlice (e : Nat) (s : State) : Prop :=
  s.flt.sliceAt = some e → noneWaits s → ∃ t, exec (.selfTestSlice true true) s = .next t ∧
      t.flt.sliceAt = none ∧ t.on F.FLT_PSTAT_FREEZE = false ∧
      t.get F.FLT_STEST_SLICES = min (s.get F.FLT_STEST_SLICES + 1) 65535 ∧
      t.get F.FLT_STEST_NEXT = (s.get F.FLT_STEST_NEXT + 1) % 64 ∧ t.get F.FLT_MODE_MODE = s.get F.FLT_MODE_MODE ∧
      s.sliceLength ≤ 16 ∧ t.now = max s.now (e + s.sliceLength)
def selfTestFailed (e : Nat) (s : State) : Prop :=
  s.flt.sliceAt = some e → noneWaits s → ∃ t, exec (.selfTestSlice false true) s = .next t ∧
      t.get F.FLT_MODE_MODE = 3 ∧ t.flt.sliceAt = none ∧ t.on F.CMP_FLSTAT_ASSERTED = true ∧
      (s.on F.CMP_FLSTAT_ASSERTED = false → t.pins.fltN = true) ∧ raised s t 0x04 (.listed 0) 3
/-- R292, R423: a watchdog not renewed for 2 ms, and a double-bit error in a word the cores read, hold both cores. -/
def watchdogExpiry (s : State) : Prop :=
  s.running = true → s.frozen = false → s.get F.FLT_MODE_MODE ≠ 3 → noneWaits s → ∃ t, exec .watchdogExpiry s = .next t ∧
    t.get F.FLT_MODE_MODE = 3 ∧ t.on F.CMP_FLSTAT_ASSERTED = true ∧ (s.on F.CMP_FLSTAT_ASSERTED = false → t.pins.fltN = true) ∧
    t.commit.accepted = none ∧ t.now = max s.now (s.flt.renewed + 2000) ∧ raised s t 0x04 (.listed 0) 3
def sramDoubleBitError (s : State) : Prop :=
  s.cdieRuns = true → s.get F.FLT_MODE_MODE ≠ 3 → noneWaits s → ∃ t, exec .sramDoubleBitError s = .next t ∧ t.get F.FLT_MODE_MODE = 3 ∧
    t.on F.CMP_FLSTAT_ASSERTED = true ∧ (s.on F.CMP_FLSTAT_ASSERTED = false → t.pins.fltN = true) ∧ t.commit.accepted = none ∧
    t.flt.freezeAt = none ∧ raised s t 0x04 (.listed 0) 3
/-- R293: when the degraded time is over condition 0x0B arises, with an event of class 2, and that is saved; at each whole minute
in degraded mode the time left is saved by a journaled write. -/
def degradedTimeExpiry (e : Nat) (s : State) : Prop :=
  s.flt.degradedFrom = some e → s.running = true → (s.get F.FLT_MODE_MODE = 1 ∨ s.get F.FLT_MODE_MODE = 2) →
    s.flt.savedLeft ≠ 0 → ∃ t, exec .degradedTimeExpiry s = .next t ∧ t.flt.savedLeft = 0 ∧ t.condOn 0x0B = true ∧
      t.now = max s.now (e + (s.get F.FLT_CFG_DEGR_TIME * 3600 - s.flt.spent) * 1000000) ∧
      (∃ x ∈ t.journal, x.old = [.degrLeft s.flt.savedLeft]) ∧ raised s t 0x04 (.flag F.FLT_IFLAG_EXPIRED.lo) 2
def degradedTimeSave (e : Nat) (s : State) : Prop :=
  s.flt.degradedFrom = some e → s.running = true → (s.get F.FLT_MODE_MODE = 1 ∨ s.get F.FLT_MODE_MODE = 2) →
    s.flt.savedLeft ≠ 0 → ∃ t, exec .degradedTimeSave s = .next t ∧
      t.now = max s.now (e + ((s.now - e) / 60000000 + 1) * 60000000) ∧
      t.flt.savedLeft = s.get F.FLT_CFG_DEGR_TIME * 3600 - s.flt.spent - (t.now - e) / 1000000 ∧
      t.journal = s.journal ++ [⟨s.coreParty, [.degrLeft s.flt.savedLeft]⟩]

/-- R295, R296: a party gets a free slot, renews its own, and queues for that of another, once; the clock of one that the pair gets
during a freeze stands. -/
def leaseAcquire (j party : Nat) (s : State) : Prop :=
  s.shaped → j < 8 → party < 8 → ∃ t, exec (.leaseAcquire j party) s = .next t ∧
    (s.leaseState j = 0 → t.leaseHolder j = party ∧ t.leaseState j = (if party = 1 ∧ s.flt.freezeAt ≠ none then 2 else 1) ∧ t.get (F.FLT_LEASE_LEFT.at j) = 500 ∧
      (t.lease j).renewed = s.now) ∧
    (s.leaseState j = 1 → s.leaseHolder j = party → (t.lease j).renewed = s.now ∧ t.regs = s.regs) ∧
    (s.leaseState j ≠ 0 → s.leaseHolder j ≠ party → party ∈ (t.lease j).queue ∧ t.regs = s.regs ∧
      (party ∉ (s.lease j).queue → (t.lease j).queue = (s.lease j).queue ++ [party]))
/-- R295: a released slot is free, or passes to the party that has waited longest; with the MRAM port the party's journaled writes
are done. -/
def leaseRelease (j party : Nat) (s : State) : Prop :=
  s.shaped → j < 8 → s.leaseHolder j = party → s.leaseState j = 1 → (1 ≤ j → j ≤ 3 → s.flt.waitOrder = []) →
    ∃ t, exec (.leaseRelease j party) s = .next t ∧
    (j = 0 → t.journal = s.journal.filter fun x => x.party != party) ∧ (j ≠ 0 → t.journal = s.journal) ∧
    ((s.lease j).queue = [] → t.leaseHolder j = 0 ∧ t.leaseState j = 0) ∧
    ((s.lease j).queue ≠ [] → t.leaseHolder j = (s.lease j).queue.headD 0 % 16 ∧
      t.leaseState j = (if (s.lease j).queue.headD 0 = 1 ∧ s.flt.freezeAt ≠ none then 2 else 1) ∧
      (t.lease j).queue = (s.lease j).queue.tail)
/-- R296, R298: a lease not renewed for 50 µs is revoked, flagged and counted. The MRAM port goes into recovery; with nobody
waiting, the tokens of the stack link return to island 3 (party 0x6) and that of the ring to island 2 (0x5), and every other slot is free; what was
half written into staging is dropped. (A request that waits for the reply buffer that falls free is answered, and may clear a flag.) -/
def leaseExpiry (j : Nat) (s : State) : Prop :=
  j < 8 → s.leaseState j = 1 → (1 ≤ j → j ≤ 3 → s.flt.waitOrder = [] ∧ s.links.spi.formed = none) → ∃ t, exec (.leaseExpiry j) s = .next t ∧ t.on F.FLT_IFLAG_REVOKE = true ∧
    t.get F.FLT_COUNT_REVOKE = min (s.get F.FLT_COUNT_REVOKE + 1) 65535 ∧ t.now = max s.now ((s.lease j).renewed + 50) ∧
    (j = 0 → t.leaseState 0 = 3 ∧ t.leaseHolder 0 = 4 ∧ t.flt.recovering = some (s.leaseHolder 0)) ∧
    ((s.lease j).queue = [] → (1 ≤ j ∧ j ≤ 3 ∨ j = 7 → t.leaseState j = 0 ∧ t.leaseHolder j = 0) ∧
      (j = 4 ∨ j = 5 → t.leaseState j = 1 ∧ t.leaseHolder j = 6) ∧ (j = 6 → t.leaseState j = 1 ∧ t.leaseHolder j = 5)) ∧
    (j = 7 → t.flt.partialDrops = s.flt.partialDrops + 1)
/-- R297, R298: recovery rolls the complete open entries of the party that lost the port forward, up to the first incomplete one,
and discards the others, which are written again; each is flagged, one not begun falls to the party that runs device firmware
without a flag, and the port is released. A Sage write-back of that party
without its header is broken off and due again. -/
def mramRecoveryDone (l : List Bool) (h : Option Bool) (c : SageCopy) (p : Nat) (x : JournalEntry) (s : State) : Prop :=
  s.flt.recovering = some p → s.frozen = false → (s.lease 0).queue = [] → s.journal = [x] → x.party = p → p ≤ 3 →
    ∃ t, exec (.mramRecoveryDone l h) s = .next t ∧ t.flt.recovering = none ∧
      (l.head? = some true → t.on F.FLT_IFLAG_ROLLFWD = true ∧ t.journal = [] ∧ t.leaseState 0 = 0) ∧
      (l.head? = some false → t.on F.FLT_IFLAG_DISCARD = true) ∧ (l.head? ≠ some true → t.journal = [⟨s.coreParty, x.old⟩] ∧
        t.leaseState 0 = 1 ∧ t.leaseHolder 0 = s.coreParty) ∧
      (s.sage.wbData = some c → h = some true → t.newestCopy = some c ∧ t.sage.wbData = none) ∧
      (s.sage.wbData = some c → h ≠ some true → t.sage.wbDue = true ∧ t.sage.wbData = none ∧ t.newestCopy = s.newestCopy)
/-- R297: every open entry complete, every one is rolled forward. -/
def mramRolledForward (header : Option Bool) (party : Nat) (s : State) : Prop :=
  s.flt.recovering = some party → s.flt.freezeAt = none → (s.lease 0).queue = [] →
    ∃ t, exec (.mramRecoveryDone ((s.journal.filter fun x => x.party == party).map fun _ => true) header) s = .next t ∧
      t.flt.recovering = none ∧ (∀ x ∈ t.journal, ∃ y ∈ s.journal, y.party ≠ party ∧ y.old = x.old) ∧
      (∀ y ∈ s.journal, y.party ≠ party → ∃ x ∈ t.journal, x.old = y.old)

/-! ### Rosemary and the cycle ledger -/

/-- Island 1 may use the staging buffer: it is free or its own (R295, R304). -/
abbrev stagingFree (s : State) : Prop := s.leaseState 7 = 0 ∨ (s.leaseHolder 7 = 4 ∧ s.leaseState 7 = 1)

/-- R302, R300: an event that no limit holds back is staged as a record under the next sequence. -/
def recordAccept (e : Event) (rest : List Event) (s : State) : Prop :=
  stagingFree s → s.rsm.inbox = e :: rest → (unlimited e = true ∨ s.rateOf (codeOfEvent e.page e.low) = none) → s.stagingRoom e = true →
    s.on F.RSM_PSTAT_FULL = false →
    bytesOfRecords s.rsm.stored + bytesOfRecords s.rsm.staged + 4 * (5 + (e.words.take 59).length) + keptFree ≤ recordArea →
    s.get F.RSM_HEAD_SEQ + 1 < 4294967296 → ∃ t, exec .recordAccept s = .next t ∧ t.rsm.inbox = rest ∧
      t.rsm.staged = s.rsm.staged ++ [recordOf (s.get F.RSM_HEAD_SEQ + 1) e] ∧ t.get F.RSM_HEAD_SEQ = s.get F.RSM_HEAD_SEQ + 1 ∧
      t.rsm.stored = s.rsm.stored ∧ (2 ≤ e.cls → t.rsm.flushDue = true)
/-- R295, R304: while another party holds the staging buffer the event waits, and island 1 queues for the lease. -/
def recordWaits (e : Event) (rest : List Event) (s : State) : Prop :=
  s.shaped → s.rsm.inbox = e :: rest → s.leaseState 7 ≠ 0 → s.leaseHolder 7 ≠ 4 → ∃ t, exec .recordAccept s = .next t ∧
    t.rsm = s.rsm ∧ t.regs = s.regs ∧ 4 ∈ (t.lease 7).queue
/-- R306: an event whose code has no token left in its window is counted in the window and takes no sequence. -/
def recordSuppressed (e : Event) (rest : List Event) (n w : Nat) (s : State) : Prop :=
  stagingFree s → s.rsm.inbox = e :: rest → unlimited e = false → s.rateOf (codeOfEvent e.page e.low) = some (n, w) →
    (s.bucketOf e n w).tokens = 0 → ∃ t, exec .recordAccept s = .next t ∧ t.rsm.inbox = rest ∧ (s.leaseState 7 = 0 → t.regs = s.regs) ∧
      t.reg F.RSM_HEAD_SEQ.addr = s.reg F.RSM_HEAD_SEQ.addr ∧
      t.rsm.staged = s.rsm.staged ∧
      ∃ b ∈ t.rsm.buckets, b = { s.bucketOf e n w with suppressed := (s.bucketOf e n w).suppressed + 1 }
/-- R305: an event that staging has no room for is dropped, counted and flagged. -/
def recordDropped (e : Event) (rest : List Event) (s : State) : Prop :=
  stagingFree s → s.rsm.inbox = e :: rest → s.rateOf (codeOfEvent e.page e.low) = none → s.stagingRoom e = false →
    ∃ t, exec .recordAccept s = .next t ∧ t.rsm.inbox = rest ∧ t.rsm.staged = s.rsm.staged ∧
      t.get F.RSM_DROP_COUNT = min (s.get F.RSM_DROP_COUNT + 1) 65535 ∧ t.on F.RSM_IFLAG_DROP = true ∧
      t.rsm.dropped = s.rsm.dropped + 1 ∧ t.get F.RSM_HEAD_SEQ = s.get F.RSM_HEAD_SEQ

/-- R304: while the C-die runs, each whole second of the time base makes a flush due; a flush that is due starts with the lease of the MRAM port, which
island 1 otherwise waits for. -/
def flushPeriodic (s : State) : Prop :=
  s.cdieRuns = true →
    exec .flushPeriodic s = .next { s with now := (s.now / 1000000 + 1) * 1000000, rsm := { s.rsm with flushDue := true } }
def flushStart (s : State) : Prop :=
  s.rsm.flushDue = true → s.rsm.flushing = false → s.leaseState 0 = 0 → ∃ t, exec .flushStart s = .next t ∧
    t.rsm.flushing = true ∧ t.rsm.flushDue = false ∧ t.on F.RSM_PSTAT_FLUSHING = true ∧ t.leaseHolder 0 = 4 ∧ t.leaseState 0 = 1
def flushWaits (s : State) : Prop :=
  s.shaped → s.rsm.flushDue = true → s.rsm.flushing = false → s.leaseState 0 ≠ 0 → s.leaseHolder 0 ≠ 4 →
    ∃ t, exec .flushStart s = .next t ∧ t.rsm = s.rsm ∧ t.regs = s.regs ∧ 4 ∈ (t.lease 0).queue
/-- The staged records that the flush in progress writes: those that stood when it started, or, with a trigger since, all (R304). -/
def flushes (s : State) (r : Record) : Bool := s.rsm.flushDue || !laterSeq r.seq s.rsm.flushTop

/-- R304: a flush that ends, with the port free or held by island 1, has written its staged records in order, and releases the
port. -/
def flushDone (s : State) : Prop :=
  s.rsm.flushing = true → s.portOpen 4 = true → s.rsm.dropped = 0 → s.rsm.clearDue = false → ∃ t, exec .flushDone s = .next t ∧
    t.rsm.staged = s.rsm.staged.filter (fun r => !flushes s r) ∧ t.rsm.stored = s.rsm.stored ++ s.rsm.staged.filter (flushes s) ∧
    t.rsm.flushing = false ∧ t.rsm.flushDue = false ∧ t.on F.RSM_PSTAT_FLUSHING = false ∧
    ((s.lease 0).queue = [] → s.fw.waiting = [] → t.leaseState 0 = 0) ∧
    (∀ r ∈ (s.rsm.staged.filter (flushes s)).getLast?, t.get F.RSM_FLUSHED_SEQ = r.seq % 4294967296) ∧
    ((∃ r ∈ s.rsm.staged.filter (flushes s), 2 ≤ r.cls) → t.on F.RSM_IFLAG_CLASS23 = true)
/-- R305, R309: a flush of every staged record after records were dropped is followed by the overflow summary; a clear that waited for
it proceeds. -/
def flushOverflow (s : State) : Prop :=
  s.rsm.flushing = true → s.portOpen 4 = true → s.rsm.dropped ≠ 0 → s.rsm.clearDue = false → stagingFree s →
    s.on F.RSM_PSTAT_FULL = false →
    (∀ r ∈ s.rsm.staged, flushes s r = true) →
    bytesOfRecords s.rsm.stored + bytesOfRecords s.rsm.staged + 400 ≤ recordArea →
    ∃ t, exec .flushDone s = .next t ∧ t.rsm.dropped = 0 ∧
      (t.rsm.staged.map fun r => (r.page, r.low, r.cls)) = [(0x14, .fixed 0x41, 2)]
def flushClears (s : State) : Prop :=
  s.rsm.flushing = true → s.portOpen 4 = true → s.rsm.dropped = 0 → s.rsm.clearDue = true → ∃ t, exec .flushDone s = .next t ∧
    t.rsm.staged = [] ∧ t.rsm.clearDue = false ∧ (t.rsm.stored.map fun r => (r.page, r.low, r.cls)) = [(0x14, .fixed 0x43, 1)]

/-- R306: the window that ends first closes; one with suppressed records leaves a summary under the next sequence. -/
def rateWindowClose (b : Bucket) (s : State) : Prop :=
  firstToClose s.rsm.buckets = some b → ∃ t, exec .rateWindowClose s = .next t ∧ t.now = max s.now (b.opened + b.window) ∧
    (∀ c ∈ t.rsm.buckets, ¬(c.page = b.page ∧ c.low = b.low)) ∧ (b.suppressed = 0 → t.regs = s.regs ∧ t.rsm.staged = s.rsm.staged) ∧
    (b.suppressed ≠ 0 → stagingFree s → s.on F.RSM_PSTAT_FULL = false →
      bytesOfRecords s.rsm.stored + bytesOfRecords s.rsm.staged + 400 ≤ recordArea →
      (t.rsm.staged.map fun r => (r.page, r.low)) = (s.rsm.staged.map fun r => (r.page, r.low)) ++ [(0x14, .fixed 0x40)] ∧
      t.on F.RSM_IFLAG_SUPPRESS = true)

/-- R309: on an unlocked link, while no link holds a snapshot, the key erases every record but the record of the clear; during a
flush, or while another party holds the MRAM port, the clear waits for the end of a flush. That it waits without a refusal is
the model's reading (log entry 44). -/
def rsmClear (l : Link) (s : State) : Prop :=
  s.takes l → s.unlocked l = true → s.anySnap = false → s.rsm.flushing = false → s.portOpen 4 = true →
    s.get F.RSM_HEAD_SEQ + 1 < 4294967296 → ∃ t, exec (.rsmClear l 0xC1EA2D) s = .next t ∧
      granted t l ∧ t.rsm.staged = [] ∧ (t.rsm.stored.map fun r => (r.seq, r.page, r.low)) =
        [(s.get F.RSM_HEAD_SEQ + 1, 0x14, .fixed 0x43)] ∧ t.rsm.lost = [] ∧ t.on F.RSM_PSTAT_FULL = false ∧
      t.get F.RSM_HEAD_SEQ = s.get F.RSM_HEAD_SEQ + 1 ∧ t.get F.RSM_LOST_TOTAL = 0 ∧ t.on F.RSM_IFLAG_CLEARED = true
def rsmClearWaits (l : Link) (s : State) : Prop :=
  s.takes l → s.unlocked l = true → s.anySnap = false → (s.rsm.flushing = true ∨ s.portOpen 4 = false) →
    ∃ t, exec (.rsmClear l 0xC1EA2D) s = .next t ∧ granted t l ∧
      linksAside t { s.refreshShown with rsm := { s.rsm with clearDue := true, flushDue := true } }
def rsmClearRefused (l : Link) (key : Word) (s : State) : Prop :=
  s.takes l → (key ≠ 0xC1EA2D ∨ s.unlocked l = false ∨ s.anySnap = true) → ∃ t, exec (.rsmClear l key) s = .next t ∧
    refusedWith t l (if key = 0xC1EA2D ∧ s.unlocked l = false then 0x03 else 0x0A) ∧ linksAside t s.refreshShown

/-- R310: a write of 1 freezes or renews the link's snapshot at the newest sequence, a write of 0 releases it; so does 600 s
without a renewal. -/
def rsmSnapWrite (l : Link) (hold : Bool) (s : State) : Prop :=
  s.takes l → ∃ t, exec (.rsmSnapWrite l (BitVec.ofNat 32 (ofBool hold))) s = .next t ∧ granted t l ∧ linksAside t s.refreshShown ∧
    (t.link l).sel = { (s.link l).sel with snap := if hold then some (s.get F.RSM_HEAD_SEQ, s.now) else none }
def snapshotExpiry (l : Link) (n e : Nat) (s : State) : Prop :=
  (s.link l).sel.snap = some (n, e) → ∃ t, exec (.snapshotExpiry l) s = .next t ∧ (t.link l).sel.snap = none ∧
    linksAside t { s with now := max s.now (e + 600000000) }
/-- R311, R316: a sequence is selected for the link alone. -/
def rsmRdselWrite (l : Link) (v : Word) (s : State) : Prop :=
  s.takes l → ∃ t, exec (.rsmRdselWrite l v) s = .next t ∧ granted t l ∧ linksAside t s.refreshShown ∧
    (t.link l).sel = { (s.link l).sel with rsm := v.toNat }
def cylRdselWrite (l : Link) (v : Word) (s : State) : Prop :=
  s.takes l → ∃ t, exec (.cylRdselWrite l v) s = .next t ∧ granted t l ∧ linksAside t s.refreshShown ∧
    (t.link l).sel = { (s.link l).sel with cyl := v.toNat }

/-- R312, R315, R23: with the MRAM port free or held by island 1, the cycle that ended first is recorded under the next ledger sequence, and the axis's count goes up. -/
def ledgerRecordWrite (c : CycleEnd) (rest : List CycleEnd) (s : State) : Prop :=
  s.portOpen 4 = true → s.cyl.buffer = c :: rest → c.axis < 6 → s.get F.CYL_STAT_UNACK < 65536 → s.get F.CYL_NEWEST_SEQ + 1 < 4294967296 →
    s.get (F.CYL_AXCNT_COUNT.at c.axis) < 4294967295 → stagingFree s →
    ∃ t, exec .ledgerRecordWrite s = .next t ∧ t.cyl.buffer = rest ∧ t.rsm.inbox = [] ∧
      (t.cyl.records.getLast?.map fun r => (r.1, r.2.length)) = some (s.get F.CYL_NEWEST_SEQ + 1, 16) ∧
      t.get F.CYL_NEWEST_SEQ = s.get F.CYL_NEWEST_SEQ + 1 ∧ t.get F.CYL_STAT_UNACK = s.get F.CYL_STAT_UNACK + 1 ∧
      t.get (F.CYL_AXCNT_COUNT.at c.axis) = s.get (F.CYL_AXCNT_COUNT.at c.axis) + 1 ∧ t.on F.CYL_IFLAG_RECORD = true ∧
      t.on F.CYL_STAT_GAP = false
/-- R23, R312: while another party holds the MRAM port the record waits, and island 1 queues for the lease; it takes the events that
wait all the same. -/
def ledgerWaits (c : CycleEnd) (rest : List CycleEnd) (s : State) : Prop :=
  s.shaped → s.cyl.buffer = c :: rest → s.leaseState 0 ≠ 0 → s.leaseHolder 0 ≠ 4 → ∃ t, exec .ledgerRecordWrite s = .next t ∧
    t.cyl.records = s.cyl.records ∧ t.cyl.buffer.length = s.cyl.buffer.length ∧
    t.get F.CYL_NEWEST_SEQ = s.get F.CYL_NEWEST_SEQ ∧ 4 ∈ (t.lease 0).queue ∧
    (s.rsm.inbox = [] → t.cyl = s.cyl ∧ t.regs = s.regs) ∧ (stagingFree s → t.rsm.inbox = [])
/-- R314: while 65,536 records are unacknowledged a cycle is counted as lost; the first one begins a gap. -/
def ledgerLost (c : CycleEnd) (rest : List CycleEnd) (s : State) : Prop :=
  s.portOpen 4 = true → s.cyl.buffer = c :: rest → c.axis < 6 → 65536 ≤ s.get F.CYL_STAT_UNACK → stagingFree s →
    ∃ t, exec .ledgerRecordWrite s = .next t ∧
    t.cyl.buffer = rest ∧ t.cyl.records = s.cyl.records ∧ t.get F.CYL_LOST_LIFE = min (s.get F.CYL_LOST_LIFE + 1) 65535 ∧
    t.on F.CYL_STAT_GAP = true ∧ t.get F.CYL_NEWEST_SEQ = s.get F.CYL_NEWEST_SEQ ∧
    (s.on F.CYL_STAT_GAP = false → t.get F.CYL_LOST_GAP = 1 ∧ t.on F.CYL_IFLAG_GAP = true ∧
      ∃ e ∈ t.rsm.inbox, e.page = 0x15 ∧ e.low = .fixed 0x40 ∧ e.cls = 1)
/-- R313, R21, R23: an acknowledgement between the last one and the newest record is taken, and saved where the MRAM port is free
or island 1's; else island 1 queues for it. Another is refused. -/
def cylAck (l : Link) (v : Word) (s : State) : Prop :=
  s.takes l → s.get F.CYL_ACKED_SEQ ≤ v.toNat → v.toNat ≤ s.get F.CYL_NEWEST_SEQ → s.get F.CYL_NEWEST_SEQ - v.toNat < 131072 →
    ∃ t, exec (.cylAck l v) s = .next t ∧ granted t l ∧ t.get F.CYL_ACKED_SEQ = v.toNat ∧
      t.get F.CYL_STAT_UNACK = s.get F.CYL_NEWEST_SEQ - v.toNat ∧ (s.portOpen 4 = true → t.cyl.acked = v.toNat) ∧
      (s.portOpen 4 = false → s.shaped → t.cyl.acked = s.cyl.acked ∧ 4 ∈ (t.lease 0).queue)
def cylAckRefused (l : Link) (v : Word) (s : State) : Prop :=
  s.takes l → (v.toNat < s.get F.CYL_ACKED_SEQ ∨ s.get F.CYL_NEWEST_SEQ < v.toNat) →
    ∃ t, exec (.cylAck l v) s = .next t ∧ refusedWith t l 0x0A ∧ linksAside t s.refreshShown

/-! ### Bay metering -/

/-- The grid index lies in the interval and has not been accounted for; a pair of it may still arrive. -/
abbrev pairDue (n : Nat) (s : State) : Prop := s.bay.base ≤ n ∧ n < s.bay.base + 3200 ∧ n ∉ s.bay.seen
/-- M0 keeps no pair of the grid index yet. -/
abbrev notKept (n : Nat) (s : State) : Prop := ∀ q ∈ s.bay.kept, q.index ≠ n
/-- R321: a pair of the interval that arrives within 16 ms of its instant adds V·I, V, I and |I| to the interval, by the parameters in
force, once. -/
def baySamplePair (n : Nat) (ui uv : Int) (s : State) : Prop :=
  s.hasB = true → s.running = true → pairDue n s → notKept n s → s.now ≤ gridInstant n + 16000 →
    ∃ t, exec (.baySamplePair ⟨n, ui, uv⟩ true) s = .next t ∧ t.regs = s.regs ∧ t.now = max s.now (gridInstant n) ∧
    t.bay.seen = n :: s.bay.seen ∧ t.bay.pairs = s.bay.pairs + 1 ∧ t.bay.lostPairs = s.bay.lostPairs ∧
    t.bay.sumI = s.bay.sumI + 1000 * (((ui - s.getInt (F.BAY_CAL_VALUE.at 2) : Int) : Rat) *
      (1 + (s.getInt (F.BAY_CAL_VALUE.at 1) : Rat) / 10000000) / (s.getInt (F.BAY_CAL_VALUE.at 0) : Rat)) ∧
    t.bay.sumV = s.bay.sumV + 1000 * ((uv : Rat) / 1000000 * ((s.getInt (F.BAY_CAL_VALUE.at 3) : Rat) / 1000) *
      (1 + (s.getInt (F.BAY_CAL_VALUE.at 4) : Rat) / 10000000)) ∧
    t.bay.sumP = s.bay.sumP + (t.bay.sumV - s.bay.sumV) / 1000 * ((t.bay.sumI - s.bay.sumI) / 1000) ∧
    (s.bay.sumI ≤ t.bay.sumI → t.bay.sumAbs - s.bay.sumAbs = t.bay.sumI - s.bay.sumI) ∧
    (t.bay.sumI ≤ s.bay.sumI → t.bay.sumAbs - s.bay.sumAbs = s.bay.sumI - t.bay.sumI)
/-- R320: a pair whose CRC fails is not taken, but M0 keeps it, and a repeated fetch of its index brings what M0 keeps; one of a later
interval waits for it. -/
def bayPairCrc (n : Nat) (ui uv : Int) (s : State) : Prop :=
  ∃ t, exec (.baySamplePair ⟨n, ui, uv⟩ false) s = .next t ∧ t = { s with bay := { s.bay with kept := t.bay.kept } } ∧
    (s.hasB = true → s.running = true → (∀ q ∈ s.bay.kept, q.index < n) →
      { index := n, ui := ui, uv := uv } ∈ t.bay.kept ∧ ∀ q ∈ s.bay.kept, n < q.index + 512 → q ∈ t.bay.kept)
def bayPairAgain (n : Nat) (ui uv u0 v0 : Int) (s : State) : Prop :=
  s.hasB = true → s.running = true → s.bay.kept.find? (fun p => p.index == n) = some { index := n, ui := u0, uv := v0 } →
    ∃ t, exec (.baySamplePair ⟨n, ui, uv⟩ true) s = .next t ∧ exec (.baySamplePair ⟨n, u0, v0⟩ true) s = .next t ∧
      t.bay.kept = s.bay.kept
def bayPairEarly (n : Nat) (ui uv : Int) (s : State) : Prop :=
  s.hasB = true → s.running = true → s.bay.base + 3200 ≤ n → (∀ q ∈ s.bay.early, q.index ≠ n) → notKept n s →
    s.now ≤ gridInstant n + 16000 →
    ∃ t, exec (.baySamplePair ⟨n, ui, uv⟩ true) s = .next t ∧
      t.bay = { s.bay with kept := t.bay.kept, early := s.bay.early ++ [{ index := n, ui := ui, uv := uv }] }
/-- R320: a pair that has not arrived 16 ms after its instant is lost, the oldest one that is missing first: it takes its place in the
interval and marks the time of the loss. -/
def bayPairLost (n : Nat) (s : State) : Prop :=
  s.hasB = true → s.running = true → pairDue n s → (∀ m < n, s.bay.base ≤ m → m ∈ s.bay.seen) →
    exec .bayPairLost s = .next { s with now := max s.now (gridInstant n + 16000), bay := { s.bay with
      seen := n :: s.bay.seen, pairs := s.bay.pairs + 1, lostPairs := s.bay.lostPairs + 1, lastLoss := some (gridInstant n + 16000) } }
/-- The pairs of an interval that arrived. -/
def bayArrived (s : State) : Rat := ((s.bay.pairs - s.bay.lostPairs : Nat) : Rat)
/-- R322: the state an interval ends in. -/
def bayStateAt (s : State) : Nat :=
  if s.bay.failed = true then 5
  else if 0 < s.bay.lostPairs ∨ (s.bay.lastLoss.any fun e => decide (s.now < e + 1000000)) = true then 3
  else if s.bay.clkErr = true then 4
  else if s.on F.BAY_STAT_SEALED = true then 1 else 2
/-- R321, R322: an interval of 3,200 pairs decides the state, shows the means over the pairs that arrived, sets or clears RUN,
counts unmetered time and credits its energy, in whole Wh with the remainder kept in mJ, unless the mean current is below I_st.
Means over the pairs that arrived, and the exact remainder, are the model's readings (log entries 48 and 83). -/
def bayInterval (s : State) : Prop :=
  s.hasB = true → s.running = true → 3200 ≤ s.bay.pairs → s.bay.toSet = [] → s.bay.early = [] → ∃ t, exec .bayInterval s = .next t ∧
    t.get F.BAY_STAT_STATE = bayStateAt s ∧ t.on F.BAY_STAT_RUN = decide (bayStateAt s = 1 ∨ bayStateAt s = 2) ∧
    (s.bay.lostPairs < s.bay.pairs →
      t.getInt F.BAY_P_VAL = (BitVec.ofInt 32 (roundRat (s.bay.sumP / bayArrived s))).toInt ∧
      t.getInt F.BAY_V_VAL = (BitVec.ofInt 32 (roundRat (s.bay.sumV / bayArrived s))).toInt ∧
      t.getInt F.BAY_I_VAL = (BitVec.ofInt 32 (roundRat (s.bay.sumI / bayArrived s))).toInt) ∧
    t.get F.BAY_UNMET_MS = (if bayStateAt s = 3 ∨ bayStateAt s = 4 then min (s.get F.BAY_UNMET_MS + 100) 0xFFFFFFFF
      else s.get F.BAY_UNMET_MS) ∧
    t.bay.base = s.bay.base + 3200 ∧ t.bay.seen = [] ∧ t.bay.pairs = 0 ∧ t.bay.lostPairs = 0 ∧ t.bay.sumP = 0 ∧
    (bayStateAt s = 5 → s.get F.BAY_STAT_STATE ≠ 5 → raised s t 0x0A (.listed 1) 3) ∧
    (3 ≤ bayStateAt s → s.on F.BAY_STAT_RUN = true → raised s t 0x0A (.flag F.BAY_IFLAG_RUN_LOST.lo) 2 ∧
      t.coilOnNow 3 = false ∧ t.on F.BAY_IFLAG_RUN_LOST = true) ∧
    ((bayStateAt s = 3 ∨ bayStateAt s = 4 ∨ bayStateAt s = 5 ∨ s.bay.sumAbs / s.bay.pairs < 38000000 / (s.bayParam 0 : Rat)) →
      t.get F.BAY_IMP_LO_WH = s.get F.BAY_IMP_LO_WH ∧ t.get F.BAY_EXP_LO_WH = s.get F.BAY_EXP_LO_WH ∧
      t.get F.BAY_TIMP_WH = s.get F.BAY_TIMP_WH ∧ t.get F.BAY_TEXP_WH = s.get F.BAY_TEXP_WH ∧ t.bay.rems = s.bay.rems) ∧
    (bayStateAt s = 1 → 38000000 / (s.bayParam 0 : Rat) ≤ s.bay.sumAbs / s.bay.pairs → 0 ≤ roundRat (s.bay.sumP / 32) →
      (t.get F.BAY_EXP_LO_WH + t.get F.BAY_EXP_HI_WH * 2 ^ 32) % 2 ^ 48 = (s.get F.BAY_EXP_LO_WH + s.get F.BAY_EXP_HI_WH * 2 ^ 32 +
        ((s.bay.rems.getD 1 0 + roundRat (s.bay.sumP / 32)) / 3600000).toNat) % 2 ^ 48 ∧
      t.get F.BAY_IMP_LO_WH = s.get F.BAY_IMP_LO_WH) ∧
    (bayStateAt s = 1 → 38000000 / (s.bayParam 0 : Rat) ≤ s.bay.sumAbs / s.bay.pairs → roundRat (s.bay.sumP / 32) < 0 →
      (t.get F.BAY_IMP_LO_WH + t.get F.BAY_IMP_HI_WH * 2 ^ 32) % 2 ^ 48 = (s.get F.BAY_IMP_LO_WH + s.get F.BAY_IMP_HI_WH * 2 ^ 32 +
        ((s.bay.rems.getD 0 0 - roundRat (s.bay.sumP / 32)) / 3600000).toNat) % 2 ^ 48 ∧
      t.get F.BAY_EXP_LO_WH = s.get F.BAY_EXP_LO_WH) ∧
    (bayStateAt s = 2 → 38000000 / (s.bayParam 0 : Rat) ≤ s.bay.sumAbs / s.bay.pairs →
      t.get F.BAY_IMP_LO_WH = s.get F.BAY_IMP_LO_WH ∧ t.get F.BAY_EXP_LO_WH = s.get F.BAY_EXP_LO_WH ∧
      (0 ≤ roundRat (s.bay.sumP / 32) → t.get F.BAY_TEXP_WH = (s.get F.BAY_TEXP_WH +
        ((s.bay.rems.getD 3 0 + roundRat (s.bay.sumP / 32)) / 3600000).toNat) % 2 ^ 32))
/-- R328: a parameter that was set takes effect at the next interval. -/
def bayParamTaken (p : Nat) (v : Word) (s : State) : Prop :=
  s.hasB = true → s.running = true → 3200 ≤ s.bay.pairs → p < 5 → s.bay.toSet = [(p, v)] →
    ∃ t, exec .bayInterval s = .next t ∧ t.reg (F.BAY_CAL_VALUE.at p).addr = v ∧ t.bay.toSet = []
/-- R324: while island 7 holds its registers, a valid copy takes the place of the older one, with the next sequence number. -/
def bayCopyWrite (s : State) : Prop :=
  s.bayUp = true → ∃ t, exec .bayCopyWrite s = .next t ∧ t = { s with bay := { s.bay with copies := t.bay.copies } } ∧
    t.bay.copies.head?.map (fun c => (c.seq, c.rems)) = some ((match s.bay.copies with
      | c :: _ => c.seq + 1
      | [] => 1), s.bay.rems) ∧ t.bay.copies.tail = s.bay.copies.take 1 ∧
    (∀ c ∈ t.bay.copies.head?, c.valid true = true) ∧
    ((t.bay.copies.head?.map BayCopy.words).getD []) = (F.BAY_IMP_LO_WH.addr :: F.BAY_IMP_HI_WH.addr ::
      F.BAY_EXP_LO_WH.addr :: F.BAY_EXP_HI_WH.addr :: F.BAY_SESS_NUMBER.addr :: F.BAY_SIMP_WH.addr :: F.BAY_SEXP_WH.addr ::
      F.BAY_SSTART_LO_TIME.addr :: F.BAY_SSTART_HI_TIME.addr :: F.BAY_SDUR_S.addr :: [F.BAY_UNMET_MS.addr]).map s.reg
/-- R325: a session opens with the next number and its energies at zero, and closes with a flag and an event of class 0. -/
def bayAux3Change (closed : Bool) (s : State) : Prop :=
  s.bayUp = true → s.on F.BAY_SESS_ACTIVE = !closed → ∃ t, exec (.bayAux3Change closed) s = .next t ∧
    t.on F.BAY_SESS_ACTIVE = closed ∧ t.on F.BAY_STAT_SESSION = closed ∧ t.on F.BAY_SESS_CUT = false ∧
    (closed = true → t.get F.BAY_SESS_NUMBER = (s.get F.BAY_SESS_NUMBER + 1) % 2 ^ 30 ∧ t.get F.BAY_SIMP_WH = 0 ∧
      t.get F.BAY_SEXP_WH = 0 ∧ t.get F.BAY_SSTART_LO_TIME = s.now % 2 ^ 32) ∧
    (closed = false → t.on F.BAY_IFLAG_SESSION = true ∧ raised s t 0x0A (.flag F.BAY_IFLAG_SESSION.lo) 0 ∧
      t.get F.BAY_SESS_NUMBER = s.get F.BAY_SESS_NUMBER ∧ t.get F.BAY_SIMP_WH = s.get F.BAY_SIMP_WH)

/-- Words 1 to 7 of a message with the seal code, the count and the CRC that Bay expects (R327). -/
def mail (s : State) (op param : Nat) (a b c d : Word) : List Word :=
  [s.bay.code, s.reg F.BAY_MCOUNT_COUNT.addr, a, b, c, d, BitVec.ofNat 32 (crc32 ((BitVec.ofNat 32 (op * 2 ^ 24 + param) ::
    [s.bay.code, s.reg F.BAY_MCOUNT_COUNT.addr, a, b, c, d]).flatMap bytesLE))]
/-- R329: the rows that turn a message away or accept it, in order. -/
def mailboxCode (m : List Word) (s : State) : Nat :=
  if s.bay.lockedUntil ≠ none then 8
  else if (msgWord m 7).toNat ≠ crc32 ((m.take 7).flatMap bytesLE) then 2
  else if msgWord m 1 ≠ s.bay.code then 3
  else if msgWord m 2 ≠ s.reg F.BAY_MCOUNT_COUNT.addr then 4
  else if s.opAllowed (bitsOf (msgWord m 0) 31 24) = false then 5
  else if bitsOf (msgWord m 0) 31 24 = 2 ∧ paramInRange (bitsOf (msgWord m 0) 7 0) (msgWord m 3) = false then 6
  else if (1016 ≤ s.get F.BAY_LOGSTAT_USED ∧ bitsOf (msgWord m 0) 31 24 ≠ 3) ∨
    (1024 ≤ s.get F.BAY_LOGSTAT_USED ∧ bitsOf (msgWord m 0) 31 24 = 3) then 7
  else if bitsOf (msgWord m 0) 31 24 = 6 then 9 else 1
/-- R329: any eight words leave the result of the first row that matches; a message turned away changes neither the count, the
seal, the log nor the code, and the fifth wrong code in a row starts a lockout of 3,600 s. -/
def bayMailboxReject (m : List Word) (s : State) : Prop :=
  s.hasB = true → s.running = true → mailboxCode m s ≠ 1 → ∃ t, exec (.bayMailboxReject m) s = .next t ∧
    t.get F.BAY_MBSTAT_RESULT = mailboxCode m s ∧ t.get F.BAY_MCOUNT_COUNT = s.get F.BAY_MCOUNT_COUNT ∧
    t.on F.BAY_STAT_SEALED = s.on F.BAY_STAT_SEALED ∧ t.bay.log = s.bay.log ∧ t.bay.code = s.bay.code ∧
    t.bay.toSet = s.bay.toSet ∧ t.bay.staging = s.bay.staging ∧ t.bay.nextImage = s.bay.nextImage ∧
    (mailboxCode m s = 3 → 4 ≤ s.bay.tries → t.bay.lockedUntil = some (s.now + 3600000000) ∧ t.on F.BAY_STAT_LOCKOUT = true) ∧
    (mailboxCode m s = 3 → s.bay.tries < 4 → t.bay.tries = s.bay.tries + 1 ∧ t.bay.lockedUntil = none)
/-- R327: every row that submits a message is decided by the same rules as any eight words. -/
def mailboxBreak (rest : List Word) (s : State) : Prop :=
  exec (.bayBreak rest) s = exec (.bayMailboxReject (message 1 0 rest)) s
def mailboxSet (p : Byte) (rest : List Word) (s : State) : Prop :=
  exec (.baySet p rest) s = exec (.bayMailboxReject (message 2 p.toNat rest)) s
def mailboxSeal (rest : List Word) (s : State) : Prop :=
  exec (.baySeal rest) s = exec (.bayMailboxReject (message 3 0 rest)) s
def mailboxImgOpen (rest : List Word) (s : State) : Prop :=
  exec (.bayImgOpen rest) s = exec (.bayMailboxReject (message 4 0 rest)) s
def mailboxImgData (rest : List Word) (s : State) : Prop :=
  exec (.bayImgData rest) s = exec (.bayMailboxReject (message 5 0 rest)) s
def mailboxImgEnd (rest : List Word) (version : Word) (s : State) : Prop :=
  exec (.bayImgEnd rest false version) s = exec (.bayMailboxReject (message 6 0 rest)) s

/-- R328, R330: BREAK opens the seal, zeroes the test registers, counts and logs. -/
def bayBreak (a b c d : Word) (s : State) : Prop :=
  s.hasB = true → s.running = true → s.bay.lockedUntil = none → s.on F.BAY_STAT_SEALED = true →
    s.get F.BAY_LOGSTAT_USED < 1016 → ∃ t, exec (.bayBreak (mail s 1 0 a b c d)) s = .next t ∧
      t.get F.BAY_MBSTAT_RESULT = 1 ∧ t.on F.BAY_STAT_SEALED = false ∧ t.on F.BAY_IFLAG_SEAL = true ∧
      t.get F.BAY_TIMP_WH = 0 ∧ t.get F.BAY_TEXP_WH = 0 ∧
      t.get F.BAY_MCOUNT_COUNT = min (s.get F.BAY_MCOUNT_COUNT + 1) 0xFFFFFFFF ∧
      t.get F.BAY_LOGSTAT_USED = s.get F.BAY_LOGSTAT_USED + 1 ∧ t.get F.BAY_LOGSTAT_NEWEST = s.get F.BAY_LOGSTAT_USED % 1024 ∧
      t.on F.BAY_STAT_LOGFULL = decide (1016 ≤ s.get F.BAY_LOGSTAT_USED + 1) ∧
      t.bay.log = (s.get F.BAY_LOGSTAT_USED, [t.reg F.BAY_MCOUNT_COUNT.addr, BitVec.ofNat 32 s.now,
        BitVec.ofNat 32 (2 ^ 24 + s.now / 2 ^ 32 % 65536), 0, 0, s.bay.sealId]) :: s.bay.log
/-- R328: SET keeps a value in range for the next interval, zeroes the test registers, counts and logs old and new. -/
def baySet (p : Byte) (v b c d : Word) (s : State) : Prop :=
  s.hasB = true → s.running = true → s.bay.lockedUntil = none → s.on F.BAY_STAT_SEALED = false →
    s.get F.BAY_LOGSTAT_USED < 1016 → s.bay.toSet = [] → paramInRange p.toNat v = true →
    ∃ t, exec (.baySet p (mail s 2 p.toNat v b c d)) s = .next t ∧
      t.get F.BAY_MBSTAT_RESULT = 1 ∧ t.bay.toSet = [(p.toNat, v)] ∧ t.on F.BAY_IFLAG_PARAM = true ∧
      t.reg (F.BAY_CAL_VALUE.at p.toNat).addr = s.reg (F.BAY_CAL_VALUE.at p.toNat).addr ∧
      t.get F.BAY_TIMP_WH = 0 ∧ t.get F.BAY_TEXP_WH = 0 ∧
      t.get F.BAY_MCOUNT_COUNT = min (s.get F.BAY_MCOUNT_COUNT + 1) 0xFFFFFFFF ∧
      t.get F.BAY_LOGSTAT_USED = s.get F.BAY_LOGSTAT_USED + 1 ∧
      (t.bay.log.head?.map fun e => (e.1, e.2.drop 3)) = some (s.get F.BAY_LOGSTAT_USED,
        [s.reg (F.BAY_CAL_VALUE.at p.toNat).addr, v, s.bay.sealId])
/-- R328: which values SET takes for which parameter. -/
def paramRanges (v : Word) : Prop :=
  (paramInRange 0 v = true ↔ 1000 ≤ v.toNat ∧ v.toNat ≤ 1000000) ∧ (paramInRange 1 v = true ↔ -200000 ≤ v.toInt ∧ v.toInt ≤ 200000) ∧
    (paramInRange 2 v = true ↔ -10000 ≤ v.toInt ∧ v.toInt ≤ 10000) ∧ (paramInRange 3 v = true ↔ 100000 ≤ v.toNat ∧ v.toNat ≤ 3000000) ∧
    (paramInRange 4 v = true ↔ -200000 ≤ v.toInt ∧ v.toInt ≤ 200000)
/-- R328, R330: SEAL closes the seal with its code and seal ID, logs, and leaves the count; with the log full it still takes one of
the last entries. -/
def baySeal (code sid c d : Word) (s : State) : Prop :=
  s.hasB = true → s.running = true → s.bay.lockedUntil = none → s.on F.BAY_STAT_SEALED = false →
    s.get F.BAY_LOGSTAT_USED < 1024 → ∃ t, exec (.baySeal (mail s 3 0 code sid c d)) s = .next t ∧
      t.get F.BAY_MBSTAT_RESULT = 1 ∧ t.on F.BAY_STAT_SEALED = true ∧ t.bay.code = code ∧ t.bay.sealId = sid ∧
      t.on F.BAY_IFLAG_SEAL = true ∧ t.get F.BAY_MCOUNT_COUNT = s.get F.BAY_MCOUNT_COUNT ∧
      t.get F.BAY_LOGSTAT_USED = s.get F.BAY_LOGSTAT_USED + 1
/-- R328: IMG_OPEN clears the staging, IMG_DATA appends 16 bytes, IMG_END stores a verified image for the next start-up, at which
it runs and its CRC-32 is shown (R331). -/
def bayImgOpen (a b c d : Word) (s : State) : Prop :=
  s.hasB = true → s.running = true → s.bay.lockedUntil = none → s.on F.BAY_STAT_SEALED = false →
    s.get F.BAY_LOGSTAT_USED < 1016 → ∃ t, exec (.bayImgOpen (mail s 4 0 a b c d)) s = .next t ∧
      t.get F.BAY_MBSTAT_RESULT = 1 ∧ t.bay.staging = some [] ∧ t.get F.BAY_MCOUNT_COUNT = s.get F.BAY_MCOUNT_COUNT
def bayImgData (a b c d : Word) (l : List Word) (s : State) : Prop :=
  s.hasB = true → s.running = true → s.bay.lockedUntil = none → s.on F.BAY_STAT_SEALED = false →
    s.get F.BAY_LOGSTAT_USED < 1016 → s.bay.staging = some l → ∃ t, exec (.bayImgData (mail s 5 0 a b c d)) s = .next t ∧
      t.get F.BAY_MBSTAT_RESULT = 1 ∧ t.bay.staging = some (l ++ [a, b, c, d]) ∧
      t.get F.BAY_MCOUNT_COUNT = s.get F.BAY_MCOUNT_COUNT
def bayImgEnd (a b c d version : Word) (l : List Word) (s : State) : Prop :=
  s.hasB = true → s.running = true → s.bay.lockedUntil = none → s.on F.BAY_STAT_SEALED = false →
    s.get F.BAY_LOGSTAT_USED < 1016 → s.bay.staging = some l →
    ∃ t, exec (.bayImgEnd (mail s 6 0 a b c d) true version) s = .next t ∧
      t.get F.BAY_MBSTAT_RESULT = 1 ∧ t.bay.staging = none ∧ t.reg F.BAY_SWID_CRC.addr = s.reg F.BAY_SWID_CRC.addr ∧
      t.bay.nextImage = some (l, version) ∧ t.on F.BAY_IFLAG_PARAM = true ∧
      t.get F.BAY_MCOUNT_COUNT = min (s.get F.BAY_MCOUNT_COUNT + 1) 0xFFFFFFFF
/-- R329: the lockout ends 3,600 s after it began. -/
def bayLockoutEnd (e : Nat) (s : State) : Prop :=
  s.bay.lockedUntil = some e → ∃ t, exec .bayLockoutEnd s = .next t ∧ t.bay.lockedUntil = none ∧
    t.on F.BAY_STAT_LOCKOUT = false ∧ t.now = max s.now e

/-! ### Motion axes -/

/-- R339, R342: an accepted MOVE of an axis at standstill waits for its first servo boundary, at IRUN, and asks for its brake. -/
def move (l : Link) (a : Nat) (s : State) : Prop :=
  s.takes l → s.shaped → s.hasM = true → a < 6 → s.axBlocked a = false → s.groupOf a = 0 →
    s.moveRefused a (s.getInt (F.AX_TARGET_POS.on a)) = false → (s.axis a).cycle = none → s.startDeferred a 1 = false →
    ∃ t, exec (.move l a) s = .next t ∧ granted t l ∧ (t.axis a).pending = some ⟨1, s.now, s.getInt (F.AX_TARGET_POS.on a)⟩ ∧
      (t.axis a).drive = 3 ∧ (t.axis a).askedAt = some ((s.axis a).askedAt.getD s.now) ∧
      (t.axState a = if t.startWaits a then 1 else 2) ∧ (t.axis a).cycle = none ∧ t.setpoint a = s.standsAt a
/-- R85: while a staged commit changes the group of the axis or the page of its bridges, an accepted MOVE waits in STATE 1 for the
pages to apply, and the axis does not yet energise. -/
def moveDeferred (l : Link) (a : Nat) (s : State) : Prop :=
  s.takes l → s.shaped → s.hasM = true → a < 6 → s.axBlocked a = false → s.groupOf a = 0 →
    s.moveRefused a (s.getInt (F.AX_TARGET_POS.on a)) = false → (s.axis a).cycle = none → s.startDeferred a 1 = true →
    ∃ t, exec (.move l a) s = .next t ∧ granted t l ∧ (t.axis a).pending = some ⟨1, s.now, s.getInt (F.AX_TARGET_POS.on a)⟩ ∧
      (t.axis a).staged = true ∧ t.axState a = 1 ∧ (t.axis a).drive = (s.axis a).drive ∧ t.setpoint a = s.setpoint a
/-- R337, R338, R349: a MOVE of a moving axis replans from the motion computed last, behind the set-points that are queued; the cycle
goes on. -/
def moveReplans (l : Link) (a : Nat) (c : Cycle) (s : State) : Prop :=
  s.takes l → s.shaped → s.hasM = true → a < 6 → s.axBlocked a = false → s.groupOf a = 0 →
    s.moveRefused a (s.getInt (F.AX_TARGET_POS.on a)) = false → s.axState a = 2 → (s.axis a).cycle = some c →
    ∃ t, exec (.move l a) s = .next t ∧ granted t l ∧ t.axState a = 2 ∧ t.setpoint a = s.setpoint a ∧
      (t.axis a).queue.map Setpoint.pos = (s.axis a).queue.map Setpoint.pos ∧ (∀ p ∈ (t.axis a).queue, p.last = false) ∧
      (t.axis a).cycle = some { c with
        target := s.getInt (F.AX_TARGET_POS.on a), origin := c.point.pos, v0 := c.point.vel, a0 := c.point.acc, ticks := 0
        landed := false, settle := 0, lim := s.limits a, dstop := (s.get (F.AX_DSTOP_VAL.on a) : Rat)
        plan := (planMove c.point.vel c.point.acc ((s.getInt (F.AX_TARGET_POS.on a) - c.point.pos : Int) : Rat) (s.limits a)) }
/-- R339: under rows 1 to 4 a MOVE is refused with code 0x0A, and nothing changes but the words that show the moment. -/
def moveRefused (l : Link) (a : Nat) (s : State) : Prop :=
  s.takes l → s.hasM = true → a < 6 → (s.enabled (0x41 + a) = false ∨ s.on F.PWR_STAT_VM_OK = false ∨ s.axState a = 5 ∨
      s.axState a = 6 ∨ s.gdState a ≠ 2 ∨ s.groupOf a ≠ 0 ∨ s.homed a = false ∨ s.getInt (F.AX_TARGET_POS.on a) < s.getInt (F.AX_SOFTLO_POS.on a) ∨
      s.getInt (F.AX_SOFTHI_POS.on a) < s.getInt (F.AX_TARGET_POS.on a) ∨
      (s.getInt (F.AX_TARGET_POS.on a) ≠ s.standsAt a ∧ (s.edgeGuards a (decide (s.standsAt a < s.getInt (F.AX_TARGET_POS.on a))) = true ∨
        s.limitGuards a (decide (s.standsAt a < s.getInt (F.AX_TARGET_POS.on a))) = true))) →
    ∃ t, exec (.move l a) s = .next t ∧ refusedWith t l 0x0A ∧ linksAside t s.refreshShown
/-- R341: method 5 takes the present position as the home position at once; the other methods wait for their cycle. -/
def home (l : Link) (a : Nat) (s : State) : Prop :=
  s.takes l → s.shaped → s.hasM = true → a < 6 → s.axBlocked a = false → (s.get (F.AX_HOME_METHOD.on a) = 3 → s.hasEnc a = true) →
    (s.get (F.AX_HOME_METHOD.on a) ≠ 5 → s.edgeGuards a (homePositive (s.get (F.AX_HOME_METHOD.on a))) = false ∧
      s.limitGuards a (homePositive (s.get (F.AX_HOME_METHOD.on a))) = false) → (s.axis a).cycle = none → s.startDeferred a 2 = false →
    ∃ t, exec (.home l a) s = .next t ∧ granted t l ∧
      (s.get (F.AX_HOME_METHOD.on a) = 5 → t.homed a = true ∧ t.getInt (F.AX_POS_VAL.on a) = s.getInt (F.AX_HOMEOFS_VAL.on a) ∧
        t.setpoint a = (BitVec.ofInt 32 (s.setpoint a + (s.getInt (F.AX_HOMEOFS_VAL.on a) - s.getInt (F.AX_POS_VAL.on a)))).toInt ∧
        t.on (F.AX_IFLAG_HOMED.on a) = true ∧ (t.axis a).pending = (s.axis a).pending) ∧
      (s.get (F.AX_HOME_METHOD.on a) ≠ 5 → (t.axis a).pending = some ⟨2, s.now, s.getInt (F.AX_HOMEOFS_VAL.on a)⟩ ∧ (t.axis a).drive = 3 ∧
        t.axState a = if t.startWaits a then 1 else 3)
/-- R341: by method 5 the positions of a running move shift too, so that its motion goes on (the model's reading, log entry 120). -/
def homeInMotion (l : Link) (a : Nat) (c : Cycle) (s : State) : Prop :=
  s.takes l → s.shaped → s.hasM = true → a < 6 → s.axBlocked a = false → s.get (F.AX_HOME_METHOD.on a) = 5 →
    (s.axis a).cycle = some c → c.kind ≠ 2 → ∃ t, exec (.home l a) s = .next t ∧ granted t l ∧ t.homed a = true ∧
      t.getInt (F.AX_POS_VAL.on a) = s.getInt (F.AX_HOMEOFS_VAL.on a) ∧
      (t.axis a).cycle = some { c with
        origin := c.origin + (s.getInt (F.AX_HOMEOFS_VAL.on a) - s.getInt (F.AX_POS_VAL.on a))
        target := c.target + (s.getInt (F.AX_HOMEOFS_VAL.on a) - s.getInt (F.AX_POS_VAL.on a)) } ∧
      (t.axis a).queue.map Setpoint.pos = (s.axis a).queue.map fun p =>
        p.pos + (s.getInt (F.AX_HOMEOFS_VAL.on a) - s.getInt (F.AX_POS_VAL.on a))
/-- R339, R341: under rows 1 and 4, and by method 3 without an encoder, a HOME is refused with code 0x0A. -/
def homeRefused (l : Link) (a : Nat) (s : State) : Prop :=
  s.takes l → s.hasM = true → a < 6 → (s.enabled (0x41 + a) = false ∨ s.on F.PWR_STAT_VM_OK = false ∨ s.axState a = 5 ∨
      s.axState a = 6 ∨ s.gdState a ≠ 2 ∨ (s.get (F.AX_HOME_METHOD.on a) = 3 ∧ s.hasEnc a = false) ∨
      (s.get (F.AX_HOME_METHOD.on a) ≠ 5 ∧ (s.edgeGuards a (homePositive (s.get (F.AX_HOME_METHOD.on a))) = true ∨
        s.limitGuards a (homePositive (s.get (F.AX_HOME_METHOD.on a))) = true))) →
    ∃ t, exec (.home l a) s = .next t ∧ refusedWith t l 0x0A ∧ linksAside t s.refreshShown
/-- R337, R346: a host STOP ramps a cycle down with the DMAX and JMAX of its start to outcome 2, behind the set-points that are queued;
it drops a start that waits, and leaves an axis at rest. -/
def axisStop (l : Link) (a : Nat) (c : Cycle) (s : State) : Prop :=
  s.takes l → s.shaped → s.hasM = true → a < 6 → (s.axis a).cycle = some c → c.kind ≠ 3 → c.stop = none →
    ∃ t, exec (.axisStop l a) s = .next t ∧ granted t l ∧ t.axState a = 4 ∧ t.setpoint a = s.setpoint a ∧
      (t.axis a).queue.map Setpoint.pos = (s.axis a).queue.map Setpoint.pos ∧
      (t.axis a).cycle = some { c with
        stop := some 9, origin := c.point.pos, ticks := 0, settle := 0, landed := false, v0 := c.point.vel, a0 := c.point.acc
        plan := (planStop c.point.vel c.point.acc c.lim.d c.lim.j) }
def axisStopWaiting (l : Link) (a : Nat) (p : PendingStart) (s : State) : Prop :=
  s.takes l → s.shaped → s.hasM = true → a < 6 → (s.axis a).cycle = none → (s.axis a).pending = some p → p.kind ≠ 3 →
    ∃ t, exec (.axisStop l a) s = .next t ∧ granted t l ∧ (t.axis a).pending = none ∧ t.axState a = 0
def axisStopAtRest (l : Link) (a : Nat) (s : State) : Prop :=
  s.takes l → s.hasM = true → a < 6 → (s.axis a).cycle = none → (s.axis a).pending = none →
    ∃ t, exec (.axisStop l a) s = .next t ∧ granted t l ∧ linksAside t s.refreshShown
/-- R346: CLEAR returns an axis held after a stop to standstill. While the cause persists it is refused (a safety edge or a limit
switch still asserted, a following error still above AX_FERR, a fault of the bridge or the encoder, VM_OK, an over-temperature);
while SAFESTOP lasts it is refused for every axis (R381). -/
def axisClear (l : Link) (a : Nat) (s : State) : Prop :=
  s.takes l → s.hasM = true → a < 6 → s.axState a = 5 → s.causePersists a = false →
    ∃ t, exec (.axisClear l a) s = .next t ∧ granted t l ∧
      linksAside t ((s.refreshShown.onAxis a fun x => { x with cause := none }).setAxState a 0)
def axisClearRefused (l : Link) (a : Nat) (s : State) : Prop :=
  s.takes l → s.hasM = true → a < 6 → (s.on F.SAF_STAT_SAFESTOP = true ∨ (s.axState a = 5 ∧ (s.gdState a ≠ 2 ∨
      s.on F.PWR_STAT_VM_OK = false ∨ s.get F.TMP_LATCH_LATCHED ≠ 0 ∨ (s.axis a).encFault = true ∨
      ((s.axis a).cause = some 6 ∧ (s.edgeGuards a true = true ∨ s.edgeGuards a false = true)) ∨
      ((s.axis a).cause = some 8 ∧ s.hasEnc a = true ∧ s.get (F.AX_FERR_UNITS.on a) < (s.getInt (F.AX_FERRNOW_VAL.on a)).natAbs) ∨
      ((s.axis a).cause = some 10 ∧ (s.limitGuards a true = true ∨ s.limitGuards a false = true))))) →
    ∃ t, exec (.axisClear l a) s = .next t ∧ refusedWith t l 0x0A ∧ linksAside t s.refreshShown
/-- R339, R340: START of a group takes every member that has a distance to go, for the target it has then, homed or not, or is refused
as a whole. -/
def groupStart (l : Link) (g a : Nat) (s : State) : Prop :=
  s.takes l → s.shaped → s.hasM = true → 1 ≤ g → g < 4 → s.enabled 0x40 = true → a ∈ s.members g →
    (s.members g).all (fun m => !s.axBlocked m && s.axState m == 0 && (s.axis m).cycle.isNone &&
      (s.getInt (F.AX_TARGET_POS.on m) == s.standsAt m || !s.targetRefused m (s.getInt (F.AX_TARGET_POS.on m)))) = true →
    s.startDeferred a 3 = false →
    ∃ t, exec (.groupStart l g) s = .next t ∧ granted t l ∧ (t.axis a).cycle = none ∧
      if s.getInt (F.AX_TARGET_POS.on a) = s.standsAt a then t.axis a = s.axis a
      else (t.axis a).pending = some ⟨3, s.now, s.getInt (F.AX_TARGET_POS.on a)⟩ ∧ (t.axis a).drive = 3 ∧ (t.axState a = 1 ∨ t.axState a = 2)
/-- R339, R340: a group START is refused with code 0x0A as a whole when one member is refused. -/
def groupStartRefused (l : Link) (g : Nat) (s : State) : Prop :=
  s.takes l → s.hasM = true → g < 4 → (g = 0 ∨ s.members g = [] ∨ s.enabled 0x40 = false ∨ ((s.members g).any fun m =>
      s.axState m != 0 || !s.on F.PWR_STAT_VM_OK || (s.getInt (F.AX_TARGET_POS.on m) != s.standsAt m && s.targetRefused m (s.getInt (F.AX_TARGET_POS.on m)))) = true) →
    ∃ t, exec (.groupStart l g) s = .next t ∧ refusedWith t l 0x0A ∧ linksAside t s.refreshShown
/-- R346: STOP of a group, and of all axes, stops each cycle with rank 9. -/
def groupStop (l : Link) (g a : Nat) (c : Cycle) (s : State) : Prop :=
  s.takes l → s.shaped → s.hasM = true → 1 ≤ g → g < 4 → a < 6 → s.groupOf a = g → (s.axis a).cycle = some c → c.stop = none →
    ∃ t, exec (.groupStop l g) s = .next t ∧ granted t l ∧ t.axState a = 4 ∧ ((t.axis a).cycle.bind Cycle.stop) = some 9
/-- R346: a STOP of group 0, which is no group, is refused. -/
def groupStopRefused (l : Link) (s : State) : Prop :=
  s.takes l → s.hasM = true → ∃ t, exec (.groupStop l 0) s = .next t ∧ refusedWith t l 0x0A ∧ linksAside t s.refreshShown
def stopAll (l : Link) (a : Nat) (c : Cycle) (s : State) : Prop :=
  s.takes l → s.shaped → s.hasM = true → a < 6 → (s.axis a).cycle = some c → c.stop = none →
    ∃ t, exec (.stopAll l) s = .next t ∧ granted t l ∧ t.axState a = 4 ∧ ((t.axis a).cycle.bind Cycle.stop) = some 9

/-- Where a plan begun at rest stands after `k` servo periods; at its end, on the target (R338). -/
def profileAt (plan : List Segment) (origin target : Int) (k : Nat) : Int :=
  if planTime plan ≤ (k : Rat) / 4000 then target else origin + roundRat (runPlan plan ⟨0, 0, 0⟩ ((k : Rat) / 4000)).x
/-- R337, R339: a start that need not wait becomes a cycle at the third servo boundary after its acceptance, to the target it was
accepted for, with its first two set-points queued. -/
def cycleStart (a e : Nat) (target : Int) (s : State) : Prop :=
  s.running = true → s.coresHeld = false → s.shaped → a < 6 → (s.axis a).cycle = none → (s.axis a).pending = some ⟨1, e, target⟩ →
    (s.advanceTo ((e / 250 + 3) * 250)).startWaits a = false → ∃ t, exec (.cycleStart a) s = .next t ∧
      t.now = max s.now ((e / 250 + 3) * 250) ∧ t.axState a = 2 ∧ bit (t.get F.MOT_STAT_MOVING) a = true ∧ (t.axis a).pending = none ∧
      ((t.axis a).cycle.map fun c => (c.kind, c.target, c.origin, c.ticks, c.startTime)) =
        some (1, target, s.setpoint a, 2, t.now) ∧
      (t.axis a).cycle.map Cycle.startPos = some (s.getInt (F.AX_POS_VAL.on a)) ∧
      (t.axis a).cycle.map Cycle.plan = some (planMove 0 0 ((target - s.setpoint a : Int) : Rat) (s.limits a)) ∧
      (t.axis a).queue.map Setpoint.pos = [1, 2].map (profileAt (planMove 0 0 ((target - s.setpoint a : Int) : Rat) (s.limits a))
        (s.setpoint a) target)
def cycleWaits (a : Nat) (p : PendingStart) (s : State) : Prop :=
  s.running = true → a < 6 → (s.axis a).cycle = none → (s.axis a).pending = some p → p.kind ≠ 3 →
    (s.advanceTo ((p.time / 250 + 3) * 250)).startWaits a = true → s.coresHeld = false → ∃ t, exec (.cycleStart a) s = .next t ∧
      t.axState a = 1 ∧ (t.axis a).pending = some p ∧ t.mot = s.mot
/-- R341: a homing begins at the homing speed, in the direction of its method. -/
def homingStart (a e : Nat) (target : Int) (s : State) : Prop :=
  s.running = true → s.coresHeld = false → s.shaped → a < 6 → (s.axis a).cycle = none → (s.axis a).pending = some ⟨2, e, target⟩ →
    (s.advanceTo ((e / 250 + 3) * 250)).startWaits a = false → ∃ t, exec (.cycleStart a) s = .next t ∧ t.axState a = 3 ∧
      (t.axis a).cycle.map Cycle.kind = some 2 ∧ (t.axis a).queue.length = 2 ∧
      (t.axis a).drive = (if s.get (F.AX_HOME_METHOD.on a) = 4 then 4 else 3) ∧ (t.axis a).cycle.map Cycle.plan = some (planRun 0 0
        (if s.get (F.AX_HOME_METHOD.on a) = 1 then (s.get (F.AX_HOMEV_VAL.on a) : Rat) else -(s.get (F.AX_HOMEV_VAL.on a) : Rat)) (s.limits a))
/-- R340: the members of a group that have a distance to go take one normalised profile, each scaled by its own distance, once none of
them waits. -/
def groupCycle (a m e : Nat) (d x : Int) (s : State) : Prop :=
  s.running = true → s.coresHeld = false → s.shaped → a < 6 → (s.axis a).cycle = none → (s.axis a).pending = some ⟨3, e, x⟩ →
    (s.groupDistances (s.groupOf a)).any (fun y => (s.advanceTo ((e / 250 + 3) * 250)).startWaits y.1) = false →
    (m, d) ∈ s.groupDistances (s.groupOf a) → ∃ t, exec (.cycleStart a) s = .next t ∧ t.axState m = 2 ∧
      ((t.axis m).cycle.map fun c => (c.kind, c.group, c.dist, c.target)) =
        some (3, s.groupOf a, d, s.setpoint m + d) ∧
      (t.axis m).cycle.map Cycle.plan = some (scalePlan d (planMove 0 0 1 (s.groupLimits (s.groupDistances (s.groupOf a)) widest))) ∧
      (s.groupLimits (s.groupDistances (s.groupOf a)) widest).v ≤ (s.get (F.AX_VMAX_VAL.on m) : Rat) / (absInt d : Int) ∧
      (s.groupLimits (s.groupDistances (s.groupOf a)) widest).j ≤ (s.get (F.AX_JMAX_VAL.on m) : Rat) / (absInt d : Int)

/-- R346: the outcome of a stop, by the rank of its cause. -/
def outcomes (c : Cycle) : Prop :=
  ((List.range' 1 9).map fun r => ({ c with stop := some r } : Cycle).outcome) = [7, 6, 6, 8, 3, 5, 4, 6, 2] ∧
    ({ c with stop := none } : Cycle).outcome = if c.kind = 2 then 1 else 0
/-- R346, R348, R349: a cycle whose final set-point has been latched, and that has settled, leaves its outcome, its flags and a ledger entry, raises the event of its outcome, and
holds the axis after a stop other than the host's. -/
def cycleEnd (a : Nat) (c : Cycle) (s : State) : Prop :=
  s.shaped → a < 6 → (s.axis a).cycle = some c → c.landed = true →
    (c.stop ≠ none ∨ ((c.kind = 2 → c.phase = 4) ∧ (s.hasEnc a = true → 4 ≤ c.settle))) → ∃ t, exec (.cycleEnd a) s = .next t ∧
      (t.axis a).cycle = none ∧ t.get (F.AX_STAT_OUT.on a) = c.outcome ∧ (t.axState a = if 3 ≤ c.outcome then 5 else 0) ∧
      bit (t.get F.MOT_STAT_MOVING) a = false ∧ t.on (F.AX_IFLAG_DONE.on a) = true ∧ t.on (F.MOT_IFLAG_DONE.bit a) = true ∧
      (2 ≤ c.outcome → t.on (F.MOT_IFLAG_STOPPED.bit a) = true) ∧ (6 ≤ c.outcome → t.on (F.AX_IFLAG_FAULT.on a) = true) ∧
      (3 ≤ c.outcome → c.outcome ≤ 5 → raised s t (0x41 + a) (.flag (c.outcome - 2)) 1) ∧
      (6 ≤ c.outcome → raised s t (0x41 + a) (.flag 4) 2) ∧
      (t.cyl.buffer.drop s.cyl.buffer.length).map (fun e => (e.axis, e.outcome, e.start, e.finish)) = [(a, c.outcome, c.startTime, s.now)] ∧
      (t.cyl.buffer.drop s.cyl.buffer.length).map (fun e => (e.startPos, e.target, e.endPos, e.peakCurrent)) =
        [(c.startPos, c.target, s.getInt (F.AX_POS_VAL.on a), c.peakCurrent)] ∧
      (t.cyl.buffer.drop s.cyl.buffer.length).map CycleEnd.peakError = [if s.hasEnc a then c.peakError else 0] ∧
      ((c.outcome ≠ 0 ∨ s.on (F.AX_ENV_EN.on a) = false) → (t.axis a).env = (s.axis a).env)
/-- R345: with EN at 1, a cycle that ended at target moves each bin it crossed an eighth of the way to its peak, and counts it. -/
def envelopeLearns (a b v : Nat) (c : Cycle) (s : State) : Prop :=
  s.shaped → a < 6 → (s.axis a).cycle = some { c with landed := true, stop := none, peaks := [(b, v)] } → c.kind ≠ 2 →
    (s.hasEnc a = true → 4 ≤ c.settle) → s.on (F.AX_ENV_EN.on a) = true → b < (s.axis a).env.length → ∃ t, exec (.cycleEnd a) s = .next t ∧
      (t.axis a).env.getD b {} = ⟨((s.axis a).env.getD b {}).value * 7 / 8 + (v : Rat) / 8, ((s.axis a).env.getD b {}).count + 1⟩

/-- R341: at the home point the position becomes HOMEOFS and HOMED sets; method 3 first goes on to the index. -/
def homePoint (a : Nat) (c : Cycle) (s : State) : Prop :=
  s.shaped → a < 6 → (s.axis a).cycle = some c → c.kind = 2 → c.stop = none →
    (c.phase = 3 ∨ (c.phase = 2 ∧ s.get (F.AX_HOME_METHOD.on a) ≠ 3)) → ∃ t, exec (.homePoint a) s = .next t ∧
      t.getInt (F.AX_POS_VAL.on a) = s.getInt (F.AX_HOMEOFS_VAL.on a) ∧ t.homed a = true ∧ t.on (F.AX_IFLAG_HOMED.on a) = true ∧
      ((t.axis a).cycle.map fun x => (x.phase, x.ticks, x.v0, x.a0)) = some (4, 0, c.point.vel, c.point.acc) ∧
      (t.axis a).cycle.map Cycle.plan = some (planStop c.point.vel c.point.acc c.lim.d c.lim.j)
def homeIndex (a : Nat) (c : Cycle) (s : State) : Prop :=
  s.shaped → a < 6 → (s.axis a).cycle = some c → c.kind = 2 → c.stop = none → c.phase = 2 → s.get (F.AX_HOME_METHOD.on a) = 3 →
    ∃ t, exec (.homePoint a) s = .next t ∧ (t.axis a).cycle = some { c with phase := 3 } ∧
      t = (s.setOn (F.AX_STAT_HOME.on a) false).onCycle a fun x => { x with phase := 3 }
/-- R341, R346: a homing without a reference stops 120 s after its start with rank 8, outcome 6. -/
def homingTimeout (a : Nat) (c : Cycle) (s : State) : Prop :=
  s.shaped → a < 6 → (s.axis a).cycle = some c → c.kind = 2 → c.stop = none → c.phase < 4 →
    ∃ t, exec (.homingTimeout a) s = .next t ∧ t.now = max s.now (c.startTime + 120000000) ∧ t.axState a = 4 ∧
      ((t.axis a).cycle.bind Cycle.stop) = some 8
/-- R343: a stall freezes the set-point, at the encoder's position where there is one, with IHOLD; without an encoder HOMED
clears. In homing method 4 it is the home point. That the cycle ends there is the model's reading (log entry 52). -/
def stall (a : Nat) (c : Cycle) (s : State) : Prop :=
  s.shaped → a < 6 → (s.axis a).cycle = some c → s.get (F.AX_STALL_CONF.on a) ≤ (s.axis a).stallN → c.kind = 1 → c.stop = none →
    ∃ t, exec (.stall a) s = .next t ∧ t.axState a = 4 ∧ ((t.axis a).cycle.bind Cycle.stop) = some 5 ∧ (t.axis a).drive = 2 ∧
      t.on (F.AX_IFLAG_STALL.on a) = true ∧ (t.axis a).cycle.map Cycle.plan = some [] ∧
      (s.hasEnc a = true → t.setpoint a = s.getInt (F.AX_POS_VAL.on a) ∧ t.homed a = s.homed a) ∧
      (s.hasEnc a = false → t.setpoint a = s.setpoint a ∧ t.homed a = false)
def stallHomes (a : Nat) (c : Cycle) (s : State) : Prop :=
  s.shaped → a < 6 → (s.axis a).cycle = some c → s.get (F.AX_STALL_CONF.on a) ≤ (s.axis a).stallN → c.kind = 2 → c.stop = none →
    s.get (F.AX_HOME_METHOD.on a) = 4 → ∃ t, exec (.stall a) s = .next t ∧ t.homed a = true ∧ (t.axis a).drive = 2 ∧
      t.getInt (F.AX_POS_VAL.on a) = s.getInt (F.AX_HOMEOFS_VAL.on a) ∧
      ((t.axis a).cycle.map fun x => (x.phase, x.plan, x.stop)) = some (4, [], none)
/-- R345, R346: an obstacle stops the move along the stop ramp, with the DSTOP and JMAX of its start. -/
def obstacle (a : Nat) (c : Cycle) (s : State) : Prop :=
  s.shaped → a < 6 → (s.axis a).cycle = some c → s.on (F.AX_ENV_EN.on a) = true →
    s.get (F.AX_ENV_CONF.on a) ≤ (s.axis a).obstN → c.kind ≠ 3 → (c.stop.getD 10) > 7 → ∃ t, exec (.obstacle a) s = .next t ∧
      t.axState a = 4 ∧ t.on (F.AX_IFLAG_OBST.on a) = true ∧ ((t.axis a).cycle.map fun x => (x.stop, x.ticks)) = some (some 7, 0) ∧
      (t.axis a).cycle.map Cycle.plan = some (planStop c.point.vel c.point.acc c.dstop c.lim.j)
/-- R346: a cause below one that has acted only sets its flag. -/
def obstacleOutranked (a : Nat) (c : Cycle) (s : State) : Prop :=
  s.shaped → a < 6 → (s.axis a).cycle = some c → s.on (F.AX_ENV_EN.on a) = true →
    s.get (F.AX_ENV_CONF.on a) ≤ (s.axis a).obstN → (c.stop.getD 10) ≤ 7 → exec (.obstacle a) s = .next (s.flag (F.AX_IFLAG_OBST.on a))
/-- R40, R344: a loop resistance below 500 Ω reads pressed, 4.0 kΩ to 12.0 kΩ idle, above 20.0 kΩ broken. An edge that is pressed
or broken stops a move in the direction it guards, and no other. -/
def edgeChange (e ohm a : Nat) (c : Cycle) (s : State) : Prop :=
  s.cdieRuns = true → s.shaped → s.hasM = true → e < 2 → (ohm < 500 ∨ (4000 ≤ ohm ∧ ohm ≤ 12000) ∨ 20000 < ohm) → a < 6 → s.edgeAxis e = a →
    (s.axis a).cycle = some c → c.kind ≠ 3 → (c.stop.getD 10) > 6 → ∃ t, exec (.edgeChange e ohm) s = .next t ∧
      t.get (if e = 0 then F.SAF_STAT_EDGE0 else F.SAF_STAT_EDGE1) = (if ohm < 500 then 1 else if ohm ≤ 12000 then 0 else 2) ∧
      t.saf.edgeGap = s.saf.edgeGap.filter (fun g => g.1 != e) ∧
      ((ohm < 500 ∨ 20000 < ohm) → t.on (F.AX_STAT_EDGE.on a) = true) ∧
      ((ohm < 500 ∨ 20000 < ohm) → (s.axis a).held.positive = some (s.on (if e = 0 then F.MOT_ROLE_E0DIR else F.MOT_ROLE_E1DIR)) →
        ((t.axis a).cycle.bind Cycle.stop) = some 6 ∧ t.on (F.AX_IFLAG_EDGE.on a) = true ∧ t.axState a = 4) ∧
      (s.edgeAxis (1 - e) ≠ a → (s.axis a).held.positive ≠ some (s.on (if e = 0 then F.MOT_ROLE_E0DIR else F.MOT_ROLE_E1DIR)) →
        (t.axis a).cycle = some c)
/-- R40: in a gap the edge keeps its state, and the time in the gap begins. -/
def edgeInGap (e ohm : Nat) (s : State) : Prop :=
  s.cdieRuns = true → e < 2 → ((500 ≤ ohm ∧ ohm < 4000) ∨ (12000 < ohm ∧ ohm ≤ 20000)) → (s.saf.edgeGap.all fun g => g.1 != e) = true →
    exec (.edgeChange e ohm) s = .next { s with saf := { s.saf with edgeGap := (e, s.now) :: s.saf.edgeGap } }
/-- R40: an edge in a gap for 10 ms is treated as broken. -/
def edgeGapTimeout (e w : Nat) (s : State) : Prop :=
  s.shaped → e < 2 → (s.saf.edgeGap.find? fun g => g.1 == e) = some (e, w) → ∃ t, exec (.edgeGapTimeout e) s = .next t ∧
    t.now = max s.now (w + 10000) ∧ t.get (if e = 0 then F.SAF_STAT_EDGE0 else F.SAF_STAT_EDGE1) = 2 ∧
    (t.saf.edgeGap.all fun g => g.1 != e) = true ∧ (s.hasM = true → s.edgeAxis e < 6 → t.on (F.AX_STAT_EDGE.on (s.edgeAxis e)) = true)
/-- R346: the limit switch stops an axis that moves in its direction, except the homing that looks for it. -/
def limitSwitch (a : Nat) (c : Cycle) (s : State) : Prop :=
  s.shaped → s.hasM = true → a < 6 → (s.axis a).cycle = some c → c.kind = 1 → c.stop = none → ∃ t, exec (.limitSwitch a) s = .next t ∧
    t.on (F.AX_STAT_LIM.on a) = true ∧
    ((s.axis a).held.positive = some (decide (s.get (F.AX_CFG_LIMDIR.on a) = 1)) → 1 ≤ s.get (F.AX_CFG_LIMDIR.on a) → s.get (F.AX_CFG_LIMDIR.on a) ≤ 2 →
      ((t.axis a).cycle.bind Cycle.stop) = some 8 ∧ t.on (F.AX_IFLAG_LIMIT.on a) = true) ∧
    (s.get (F.AX_CFG_LIMDIR.on a) = 0 → (t.axis a).cycle = some c)
/-- R337: with its queue empty an axis holds at its last set-point, rank 3. -/
def setpointQueueEmpty (a : Nat) (c : Cycle) (s : State) : Prop :=
  s.shaped → s.hasM = true → a < 6 → (s.axis a).cycle = some c → c.kind ≠ 3 → c.stop = none →
    ∃ t, exec (.setpointQueueEmpty a) s = .next t ∧ t.axState a = 4 ∧ t.setpoint a = s.setpoint a ∧
      ((t.axis a).cycle.map fun x => (x.stop, x.origin, x.plan, x.v0)) = some (some 3, s.setpoint a, [], 0)
/-- R342: STBYDLY after a cycle, BRKT with a brake, the standstill setting applies. -/
def standstillDelay (a e : Nat) (s : State) : Prop :=
  s.shaped → a < 6 → (s.axis a).endedAt = some e → (s.axis a).cycle = none → (s.axis a).pending = none →
    ∃ t, exec (.standstillDelay a) s = .next t ∧ (t.axis a).endedAt = none ∧
      t.now = max s.now (e + 1000 * (if (s.brakeOf a).isSome then s.get (F.AX_TIMES_BRKT.on a) else s.get (F.AX_TIMES_STBYDLY.on a))) ∧
      (t.axis a).drive = if (s.axis a).drive < 2 then (s.axis a).drive else s.get (F.AX_CFG_STBY.on a)
/-- R335, R337, R338, R358: a servo boundary latches the next queued set-point, reads the position (the encoder's, or the set-point
without one) and the phase current, and the cores compute the set-point for the second boundary from then. -/
def servoAxis (xs : List AxisSample) (a : Nat) (c : Cycle) (p q : Setpoint) (s : State) : Prop :=
  s.running = true → s.hasM = true → s.shaped → a < 6 → (s.axis a).cycle = some c → c.kind = 1 → c.stop = none →
    (s.axis a).queue = [p, q] → a ∉ s.gate.unheld → ∃ t, exec (.servoTick xs) s = .next t ∧
      t.setpoint a = (BitVec.ofInt 32 p.pos).toInt ∧
      (s.hasEnc a = false → t.getInt (F.AX_POS_VAL.on a) = t.setpoint a ∧ t.get (F.AX_FERRNOW_VAL.on a) = 0) ∧
      t.get (F.AX_LOAD_IPH.on a) = min 65535 ((((xs[a]?).getD {}).sense * s.get (F.GD_SENSE_GAIN.on a) + 500) / 1000) ∧
      t.on (F.AX_STAT_HOME.on a) = ((xs[a]?).getD {}).home ∧ t.on (F.AX_STAT_LIM.on a) = ((xs[a]?).getD {}).lim ∧
      (t.axis a).queue.map Setpoint.pos = q.pos :: (if s.coresRun then [({ c with ticks := c.ticks + 1 } : Cycle).point.pos] else [])
/-- R350: where the G-die missed its set-point, the previous one stays in force for the servo period. -/
def servoMissed (xs : List AxisSample) (a : Nat) (c : Cycle) (p q : Setpoint) (s : State) : Prop :=
  s.running = true → s.hasM = true → s.shaped → a < 6 → (s.axis a).cycle = some c → c.kind = 1 → c.stop = none →
    (s.axis a).queue = [p, q] → a ∈ s.gate.unheld → ∃ t, exec (.servoTick xs) s = .next t ∧
      t.setpoint a = s.setpoint a ∧ a ∉ t.gate.unheld ∧ (t.axis a).queue.head?.map Setpoint.pos = some q.pos
/-- R337: at a servo boundary that finds the queue of a cycle empty before its final set-point, the axis holds where it is, rank 3. -/
def servoQueueEmpty (xs : List AxisSample) (a : Nat) (c : Cycle) (s : State) : Prop :=
  s.running = true → s.hasM = true → s.shaped → a < 6 → (s.axis a).cycle = some c → c.kind = 1 → c.stop = none →
    (s.axis a).queue = [] → c.landed = false → ∃ t, exec (.servoTick xs) s = .next t ∧
      t.setpoint a = s.setpoint a ∧ t.axState a = 4 ∧ ((t.axis a).cycle.bind Cycle.stop) = some 3
/-- R347: at every servo boundary the hatch and mated conditions follow the axes' named positions and SHORE_DET. -/
def servoRoles (xs : List AxisSample) (s : State) : Prop :=
  s.running = true → s.hasM = true → ∃ t, exec (.servoTick xs) s = .next t ∧
    (t.on F.MOT_STAT_HATCH_CL = true → s.get F.MOT_ROLE_HATCH < 6 ∧ t.homed (s.get F.MOT_ROLE_HATCH) = true) ∧
    t.on F.MOT_STAT_MATED = (t.on F.MOT_STAT_LOCKED && s.pins.shoreDet) ∧
    (s.get F.MOT_ROLE_LOCK = 7 → t.on F.MOT_STAT_LOCKED = false)

/-! ### Gate drive -/

/-- R354, R362: the axis coasts in its safe state, latched in FAULT for causes 3, 4 and 7, and its motion stops with rank 2. -/
def coasts (s t : State) (a cause : Nat) : Prop :=
  t.gdState a = (if cause = 3 ∨ cause = 4 ∨ cause = 7 then 4 else 3) ∧ t.get (F.GD_STAT_CAUSE.on a) = cause ∧ (t.axis a).drive = 0 ∧
    t.get (F.GD_STAT_REFRESH.on a) = 0 ∧ ((s.axis a).cycle.isSome = true → (t.axis a).cycle.isSome = true ∧
      ∀ r ∈ (t.axis a).cycle.bind Cycle.stop, r ≤ 2)
/-- No test of the comparators of the axis runs. -/
abbrev untested (s : State) (a : Nat) : Prop := (s.gate.test.all fun e => e.1 != a) = true
/-- R350: a valid frame ends the misses of its axis and LINKLOST; repeats count in RETRY. -/
def gdieFrame (a sent : Nat) (s : State) : Prop :=
  s.hasM = true → s.gdieDown = false → a < 6 → 1 ≤ sent → sent ≤ 3 → ∃ t, exec (.gdieFrame a sent true) s = .next t ∧
    t.get F.GDR_LINK_RETRY = min (s.get F.GDR_LINK_RETRY + (sent - 1)) 65535 ∧ t.on F.GDR_STAT_LINKLOST = false ∧
    t.gate.lastFrame = s.now ∧ countOf t.gate.missed a = 0 ∧ t.get F.GDR_LINK_MISS = s.get F.GDR_LINK_MISS ∧ a ∉ t.gate.unheld ∧
    t.mot = s.mot
/-- R350: no valid frame is a miss, and the G-die does not hold the next set-point; the second in a row on an axis is handled as an empty queue. -/
def gdieMiss (a sent : Nat) (c : Cycle) (s : State) : Prop :=
  s.hasM = true → s.gdieDown = false → s.shaped → a < 6 → (s.axis a).cycle = some c → c.kind ≠ 3 → (c.stop.getD 10) > 3 →
    ∃ t, exec (.gdieFrame a sent false) s = .next t ∧ t.get F.GDR_LINK_MISS = min (s.get F.GDR_LINK_MISS + 1) 65535 ∧
      t.on F.GDR_IFLAG_LINKERR = true ∧ countOf t.gate.missed a = countOf s.gate.missed a + 1 ∧ a ∈ t.gate.unheld ∧
      (countOf s.gate.missed a = 0 → (t.axis a).cycle = some c) ∧
      (1 ≤ countOf s.gate.missed a → ((t.axis a).cycle.bind Cycle.stop) = some 3)
/-- R350: 2 ms without a valid frame put every axis that runs into its safe state with cause 6. -/
def gdieLinkLost (a : Nat) (s : State) : Prop :=
  s.hasM = true → s.gdieDown = false → s.shaped → a < 6 → s.gdState a = 2 → untested s a → ∃ t, exec .gdieLinkLost s = .next t ∧
    t.on F.GDR_STAT_LINKLOST = true ∧ t.on F.GDR_IFLAG_LINKLOST = true ∧ t.now = max s.now (s.gate.lastFrame + 2000) ∧ coasts s t a 6

/-- R359: SCTEST starts on an axis at rest with its gates low, and is refused otherwise. -/
def sctest (l : Link) (a : Nat) (s : State) : Prop :=
  s.takes l → s.hasM = true → a < 6 → s.gatesLow a = true → s.atRest a = true → s.gdieDown = false →
    ∃ t, exec (.sctest l a) s = .next t ∧ granted t l ∧ t.gdState a = 5 ∧ (a, s.gdState a) ∈ t.gate.test
def sctestRefused (l : Link) (a : Nat) (s : State) : Prop :=
  s.takes l → s.hasM = true → a < 6 → s.gdieDown = false → ((s.axis a).cycle.isSome = true ∨ (s.axis a).pending.isSome = true ∨
      (s.gdState a = 2 ∧ (s.axis a).drive ≠ 0) ∨ s.gdState a = 1) → ∃ t, exec (.sctest l a) s = .next t ∧
      refusedWith t l 0x0A ∧ linksAside t s.refreshShown
/-- R359: the result shows which used comparators failed and passed; a failure leaves FAULT with cause 7. -/
def sctestDone (a st fails : Nat) (s : State) : Prop :=
  s.shaped → a < 6 → s.gate.test.find? (fun e => e.1 == a) = some (a, st) → st < 16 →
    ∃ t, exec (.sctestDone a fails) s = .next t ∧
      t.get (F.GD_SCTEST_FAIL.on a) = fails &&& (2 ^ (2 * s.bridges a) - 1) ∧
      t.get (F.GD_SCTEST_PASS.on a) = 2 ^ (2 * s.bridges a) - 1 - (fails &&& (2 ^ (2 * s.bridges a) - 1)) ∧
      t.on (F.GD_IFLAG_TESTDONE.on a) = true ∧
      if fails &&& (2 ^ (2 * s.bridges a) - 1) = 0 then t.gdState a = st
      else t.gdState a = 4 ∧ t.get (F.GD_STAT_CAUSE.on a) = 7 ∧ raised s t (0x49 + a) (.flag 5) 2
/-- R362: RECOVER starts qualification of an axis in FAULT at standstill, or waits, for a staged commit of a page of its bridges (R85) and
for the conditions of the first step of R361. -/
def recover (l : Link) (a : Nat) (s : State) : Prop :=
  s.takes l → s.hasM = true → a < 6 → s.gdState a = 4 → s.atRest a = true → s.gdieDown = false →
    ∃ t, exec (.recover l a) s = .next t ∧ granted t l ∧
      if s.bridgeStaged a || !s.canQualify a then t.gdState a = 4 ∧ a ∈ t.gate.deferred
      else t.gdState a = 1 ∧ t.get (F.GD_STAT_CAUSE.on a) = 0 ∧ t.get (F.GD_STAT_SCHB.on a) = 0 ∧ (a, s.now) ∈ t.gate.qual
def recoverRefused (l : Link) (a : Nat) (s : State) : Prop :=
  s.takes l → s.hasM = true → a < 6 → (s.gdState a ≠ 4 ∨ (s.axis a).cycle.isSome = true) → s.gdieDown = false →
    ∃ t, exec (.recover l a) s = .next t ∧ refusedWith t l 0x0A ∧ linksAside t s.refreshShown
/-- R352: a pulse is given to a used half-bridge of an axis that is off or in FAULT, at standstill, with VM good, and refused
otherwise; while the store runs out after PWR_FAIL no gate leaves low (R56), which refuses it with the model's code (log entry 122). -/
def gatePulse (l : Link) (a : Nat) (v : Word) (s : State) : Prop :=
  s.takes l → s.hasM = true → a < 6 → (s.gdState a = 0 ∨ s.gdState a = 4) → s.atRest a = true → s.on F.PWR_STAT_VM_OK = true →
    bitsOf v 2 1 < s.bridges a → (s.gate.pulse.all fun p => p.axis != a) = true →
    (s.gate.test.all fun p => p.1 != a) = true → 1 ≤ bitsOf v 15 8 → bitsOf v 15 8 ≤ 100 → s.gdieDown = false → s.pwr.phase ≠ .holdup →
    ∃ t, exec (.gatePulse l a v) s = .next t ∧ granted t l ∧
      t.gate = { s.gate with pulse := ⟨a, bitsOf v 2 1, bitsOf v 0 0 == 1, bitsOf v 15 8, s.now⟩ :: s.gate.pulse } ∧ t.mot = s.mot ∧ t.cyl = s.cyl ∧ t.gdState a = s.gdState a ∧
      (v &&& 0xFF07 = v → linksAside t { s.refreshShown with gate := t.gate })
def gatePulseRefused (l : Link) (a : Nat) (v : Word) (s : State) : Prop :=
  s.takes l → s.hasM = true → a < 6 → s.gdieDown = false → ((s.gdState a ≠ 0 ∧ s.gdState a ≠ 4) ∨ s.on F.PWR_STAT_VM_OK = false ∨
      (s.axis a).cycle.isSome = true ∨ s.bridges a ≤ bitsOf v 2 1 ∨ (s.gate.pulse.any fun p => p.axis == a) = true ∨
      (s.gate.test.any fun p => p.1 == a) = true ∨ bitsOf v 15 8 = 0 ∨ 100 < bitsOf v 15 8 ∨
      s.pwr.phase = .holdup) →
    ∃ t, exec (.gatePulse l a v) s = .next t ∧ refusedWith t l 0x0A ∧ linksAside t s.refreshShown
/-- R352: at its end the switch node, the bootstrap and the outcome are reported. A high-side pulse whose bootstrap is below WARN is
preceded by a precharge, and is not given (3) when the bootstrap is then below WARN + 0.5 V; one that is given ends after its width
(1), or with a trip (2), which leaves FAULT with cause 3. -/
def gatePulseEnd (a h vsw vbst w e : Nat) (d : Bool) (x : PulseEnd) (s : State) : Prop :=
  s.shaped → a < 6 → h < 4 → s.gate.pulse.find? (fun p => p.axis == a) = some ⟨a, h, d, w, e⟩ →
    ∃ t, exec (.gatePulseEnd a vsw vbst x) s = .next t ∧
    t.get (F.GD_GRES_VSW.on a) = min vsw 65535 ∧ t.get (F.GD_GRES_VBST.on a) = min vbst 255 ∧ (∀ p ∈ t.gate.pulse, p.axis ≠ a) ∧
    (if d = true ∧ x.before < s.get F.GDR_BST_WARN ∧ x.charged < s.get F.GDR_BST_WARN + 5 then
        t.get (F.GD_GRES_OUT.on a) = 3 ∧ t.now = max s.now (e + s.get F.GDR_BST_PRECHG) ∧ t.gdState a = s.gdState a
      else if x.trip = true then t.get (F.GD_GRES_OUT.on a) = 2 ∧ coasts s t a 3 ∧
        bit (t.get (F.GD_STAT_SCHB.on a)) (if d = true then 2 * h else 2 * h + 1) = true
      else t.get (F.GD_GRES_OUT.on a) = 1 ∧ t.gdState a = s.gdState a ∧
        t.now = max s.now (e + (if d = true ∧ x.before < s.get F.GDR_BST_WARN then s.get F.GDR_BST_PRECHG else 0) + w))
/-- R351: a read of GD_LIVE over a link that is up fetches the status that the G-die holds. -/
def gdLiveRead (l : Link) (a : Nat) (s : State) : Prop :=
  s.takes l → s.hasM = true → a < 6 → s.gdieDown = false → s.on F.GDR_STAT_LINKLOST = false → ∃ t, exec (.gdLiveRead l a) s = .next t ∧ granted t l ∧
    t.reg (F.GD_LIVE_LIVE.on a).addr = s.reg (F.GD_STAT_STATE.on a).addr ∧
    (t.link l).reply.data = s.reg (F.GD_STAT_STATE.on a).addr

/-- R361: in RUN an enabled axis that is off or whose cause has cleared qualifies once VM, VGG, link and bootstraps are good. -/
def qualification (a : Nat) (s : State) : Prop :=
  s.hasM = true → a < 6 → s.pwr.phase = .run → s.gdieDown = false → s.enabled (0x49 + a) = true → s.enabled 0x48 = true →
    s.on F.PWR_STAT_VM_OK = true → s.on F.GDR_STAT_VGG_OK = true → s.on F.GDR_STAT_LINKLOST = false →
    (s.gate.lowBst.all fun h => h / 4 != a) = true → s.bridgeStaged a = false → (s.gate.pulse.all fun p => p.axis != a) = true →
    (s.gdState a = 3 ∨ (s.gdState a = 0 ∧ s.get (F.GD_STAT_CAUSE.on a) ∉ [3, 4, 7])) →
    ∃ t, exec (.qualification a) s = .next t ∧ t.gdState a = 1 ∧ (a, s.now) ∈ t.gate.qual ∧ t.mot = s.mot ∧ t.rsm = s.rsm
/-- R361, R362: a RECOVER that waited starts qualification, and the cause clears. -/
def qualificationAwaited (a : Nat) (s : State) : Prop :=
  a < 6 → s.canQualify a = true → s.bridgeStaged a = false → (s.gate.pulse.all fun p => p.axis != a) = true → s.gdState a = 4 →
    a ∈ s.gate.deferred → ∃ t, exec (.qualification a) s = .next t ∧ t.gdState a = 1 ∧ (a, s.now) ∈ t.gate.qual ∧
      a ∉ t.gate.deferred ∧ t.get (F.GD_STAT_CAUSE.on a) = 0 ∧ t.get (F.GD_STAT_SCHB.on a) = 0
/-- R362: an axis that is off with a latched cause does not qualify but shows FAULT, until RECOVER. -/
def qualificationLatched (a : Nat) (s : State) : Prop :=
  a < 6 → s.canQualify a = true → s.bridgeStaged a = false → (s.gate.pulse.all fun p => p.axis != a) = true → s.gdState a = 0 → s.get (F.GD_STAT_CAUSE.on a) ∈ [3, 4, 7] →
    ∃ t, exec (.qualification a) s = .next t ∧ t.gdState a = 4 ∧ t.gate = s.gate
/-- R361: PRECHG after the qualification began, and no earlier than 1 ms after VGG was good, with every comparator passed and every
used bootstrap at WARN + 0.5 V the axis runs; else FAULT with cause 7. -/
def qualificationDone (a fails : Nat) (bst : List Nat) (s : State) : Prop :=
  s.shaped → a < 6 → s.gdState a = 1 → s.canQualify a = true → ∃ t, exec (.qualificationDone a fails bst) s = .next t ∧
    t.now = max s.now (max (((s.gate.qual.find? fun e => e.1 == a).map fun e => e.2).getD 0) (s.gate.vggAt + 1000) +
      s.get F.GDR_BST_PRECHG) ∧
    if fails &&& (2 ^ (2 * s.bridges a) - 1) = 0 ∧ ((List.range (s.bridges a)).all fun b =>
        decide (s.get F.GDR_BST_WARN + 5 ≤ (bst[b]?).getD 0)) = true then
      t.gdState a = 2 ∧ t.on (F.GD_IFLAG_QUAL.on a) = true ∧ a ∈ t.gate.qualified ∧
        (s.axState a = 6 → t.axState a = if s.on F.SAF_STAT_SAFESTOP || s.get F.TMP_LATCH_LATCHED != 0 then 5 else 0)
    else t.gdState a = 4 ∧ t.get (F.GD_STAT_CAUSE.on a) = 7 ∧ t.on (F.GD_IFLAG_QUALFAIL.on a) = true
/-- R56, R63: a bridge whose supply, link or page failed during qualification is not enabled; its gates go low. -/
def qualificationCut (a fails : Nat) (bst : List Nat) (s : State) : Prop :=
  s.shaped → a < 6 → s.gdState a = 1 → s.canQualify a = false → untested s a →
    ∃ t, exec (.qualificationDone a fails bst) s = .next t ∧ t.gdState a = 0 ∧ (t.axis a).drive = 0 ∧
      (t.gate.qual.all fun e => e.1 != a) = true ∧ t.now = s.now
/-- R357: the step of a used half-bridge follows its switching time by one, within STRMIN to STRMAX; without ADAPT it is STRMAX. -/
def pwmPeriod (a b : Nat) (hs : List HalfPeriod) (s : State) : Prop :=
  a < 6 → s.gdState a = 2 → b < s.bridges a → s.get (F.GD_SW_STRMIN.on a) ≤ s.get (F.GD_SW_STRMAX.on a) →
    s.get (F.GD_SW_STRMIN.on a) ≤ s.driveStep a b → s.driveStep a b ≤ s.get (F.GD_SW_STRMAX.on a) →
    ∃ t, exec (.pwmPeriod a hs) s = .next t ∧
      t.driveStep a b = (if s.on (F.GD_SW_ADAPT.on a) = false then s.get (F.GD_SW_STRMAX.on a)
        else if 11 * s.get (F.GD_SW_TSW.on a) < 10 * ((hs[b]?).getD {}).ns then min (s.driveStep a b + 1) (s.get (F.GD_SW_STRMAX.on a))
        else if 10 * ((hs[b]?).getD {}).ns < 9 * s.get (F.GD_SW_TSW.on a) then max (s.driveStep a b - 1) (s.get (F.GD_SW_STRMIN.on a))
        else s.driveStep a b) ∧
      (t.get (F.GD_TSW_TSW.on a) / 256 ^ b % 256 = min (((hs[b]?).getD {}).ns / 2) 255) ∧
      (11 * s.get (F.GD_SW_TSW.on a) < 10 * ((hs[b]?).getD {}).ns → s.driveStep a b = s.get (F.GD_SW_STRMAX.on a) →
        1023 ≤ countOf s.gate.slow (4 * a + b) → bit (t.get (F.GD_STR_LIMIT.on a)) (2 * b) = true)

/-- R358: a trip counts, shows its comparator and leaves FAULT with cause 3 and an event of class 2. -/
def shortCircuitTrip (a c : Nat) (s : State) : Prop :=
  s.shaped → s.hasM = true → a < 6 → c < 8 → c / 2 < s.bridges a → ∃ t, exec (.shortCircuitTrip a c) s = .next t ∧
    coasts s t a 3 ∧ bit (t.get (F.GD_STAT_SCHB.on a)) c = true ∧
    t.get (F.GD_SCTEST_TRIPS.on a) = min (s.get (F.GD_SCTEST_TRIPS.on a) + 1) 65535 ∧ t.on (F.GD_IFLAG_SC.on a) = true ∧
    raised s t (0x49 + a) (.flag 0) 2
/-- R355: only the compatibility scheme has handshake timeouts; one leaves FAULT with cause 4. -/
def handshakeTimeout (a : Nat) (s : State) : Prop :=
  s.shaped → s.hasM = true → a < 6 → s.on (F.GD_DT_SCHEME.on a) = true → ∃ t, exec (.handshakeTimeout a) s = .next t ∧
    coasts s t a 4 ∧ t.on (F.GD_IFLAG_HSTO.on a) = true
/-- R360: VM out of range, VGG below 8.0 V and a bootstrap below 7.0 V put the running axes, or the axis, into the safe state. -/
def vmOutOfRange (high : Bool) (a : Nat) (s : State) : Prop :=
  s.shaped → s.hasM = true → s.gdieDown = false → a < 6 → s.gdState a = 2 → untested s a → ∃ t, exec (.vmOutOfRange high) s = .next t ∧
    coasts s t a 1 ∧ t.on F.GDR_STAT_VMHARD = true ∧
    (high = true → t.on F.GDR_IFLAG_VMHARD = true ∧ raised s t 0x48 (.flag F.GDR_IFLAG_VMHARD.lo) 2)
def vggUndervoltage (a : Nat) (s : State) : Prop :=
  s.shaped → s.hasM = true → s.gdieDown = false → a < 6 → s.gdState a = 2 → untested s a → ∃ t, exec .vggUndervoltage s = .next t ∧
    coasts s t a 2 ∧ t.on F.GDR_STAT_VGG_OK = false ∧ t.on F.GDR_IFLAG_VGGUV = true ∧
    raised s t 0x48 (.flag F.GDR_IFLAG_VGGUV.lo) 2
def bootstrapUndervoltage (a b : Nat) (s : State) : Prop :=
  s.shaped → s.hasM = true → a < 6 → b < s.bridges a → s.gdState a = 2 → untested s a → ∃ t, exec (.bootstrapUndervoltage a b) s = .next t ∧
    coasts s t a 5 ∧ 4 * a + b ∈ t.gate.lowBst ∧ t.on (F.GD_IFLAG_BSTUV.on a) = true ∧ raised s t (0x49 + a) (.flag 2) 2 ∧
    t.get (F.GD_REFCNT_BSTUV.on a) = min (s.get (F.GD_REFCNT_BSTUV.on a) + 1) 65535
/-- R360, R364: an axis that is off, or in FAULT, enters no safe state by a low bootstrap: its state stays and nothing is counted. -/
def bootstrapLowAtRest (a b : Nat) (s : State) : Prop :=
  s.hasM = true → a < 6 → b < s.bridges a → (s.gdState a = 0 ∨ s.gdState a = 4) → untested s a →
    ∃ t, exec (.bootstrapUndervoltage a b) s = .next t ∧ t.gdState a = s.gdState a ∧ 4 * a + b ∈ t.gate.lowBst ∧
      t.get (F.GD_REFCNT_BSTUV.on a) = s.get (F.GD_REFCNT_BSTUV.on a) ∧ t.on (F.GD_IFLAG_BSTUV.on a) = true ∧ t.mot = s.mot
/-- R362, R364: a latched cause stays until RECOVER, whatever unlatched cause follows. -/
def latchedKeeps (a : Nat) (s : State) : Prop :=
  s.hasM = true → s.gdieDown = false → a < 6 → s.gdState a = 4 → untested s a → ∃ t, exec .vggUndervoltage s = .next t ∧
    t.gdState a = 4 ∧ t.get (F.GD_STAT_CAUSE.on a) = s.get (F.GD_STAT_CAUSE.on a)
/-- R360, R361: VGG past its release threshold is good, and the 1 ms of its settling begins. -/
def supplyRelease (s : State) : Prop :=
  s.hasM = true → s.gdieDown = false → s.on F.GDR_STAT_VGG_OK = false →
    exec (.supplyRelease none) s = .next ({ s with gate := { s.gate with vggAt := s.now } }.setOn F.GDR_STAT_VGG_OK true)
/-- R360: a release of VGG that is already good changes nothing. -/
def supplyGood (s : State) : Prop :=
  s.on F.GDR_STAT_VGG_OK = true → exec (.supplyRelease none) s = .next s
/-- R360: a bootstrap past its release threshold no longer holds its axis. -/
def bootstrapRelease (n : Nat) (s : State) : Prop :=
  s.hasM = true → s.gdieDown = false → exec (.supplyRelease (some n)) s =
    .next { s with gate := { s.gate with lowBst := s.gate.lowBst.filter (fun h => h != n) } }
/-- R363: a bootstrap below WARN begins an episode, counted once, with an event of class 1. In it each PWM period whose commanded
low-side conduction is shorter than 400 ns begins with a refresh pulse; one of 400 ns or longer ends the episode. -/
def refreshEpisode (a b bst : Nat) (s : State) : Prop :=
  a < 6 → b < s.bridges a → s.gdState a = 2 → bit (s.get (F.GD_STAT_REFRESH.on a)) b = false → bst < s.get F.GDR_BST_WARN →
    ∃ t, exec (.refreshEpisode a b bst) s = .next t ∧ bit (t.get (F.GD_STAT_REFRESH.on a)) b = true ∧ t.gdState a = 2 ∧
      t.get (F.GD_REFCNT_EPISODES.on a) = min (s.get (F.GD_REFCNT_EPISODES.on a) + 1) 65535 ∧
      t.on (F.GD_IFLAG_BSTREF.on a) = true ∧ raised s t (0x49 + a) (.flag 3) 1
def refreshGoesOn (a b bst : Nat) (s : State) : Prop :=
  bit (s.get (F.GD_STAT_REFRESH.on a)) b = true → exec (.refreshEpisode a b bst) s = .next s
def refreshPulse (a b : Nat) (hs : List HalfPeriod) (s : State) : Prop :=
  a < 6 → b < s.bridges a → s.gdState a = 2 → bit (s.get (F.GD_STAT_REFRESH.on a)) b = true →
    ∃ t, exec (.pwmPeriod a hs) s = .next t ∧ t.get (F.GD_REFCNT_EPISODES.on a) = s.get (F.GD_REFCNT_EPISODES.on a) ∧
      (((hs[b]?).getD {}).low < 400 → bit (t.get (F.GD_STAT_REFRESH.on a)) b = true ∧ 4 * a + b ∈ t.gate.refreshed) ∧
      (400 ≤ ((hs[b]?).getD {}).low → bit (t.get (F.GD_STAT_REFRESH.on a)) b = false ∧ 4 * a + b ∉ t.gate.refreshed)
/-- R360: the chopper turns on and off by itself, counted with its last on-time; on for longer than MAXON it stays on, with an event
of class 2. After PWR_FAIL it stays off (R56). -/
def chopperOn (s : State) : Prop :=
  s.hasM = true → s.gdieDown = false → s.pwr.phase = .run → s.on F.GDR_STAT_CHOP = false → ∃ t, exec .chopperOn s = .next t ∧
    t.on F.GDR_STAT_CHOP = true ∧ t.on F.GDR_IFLAG_CHOPON = true ∧ t.gate.chopSince = s.now ∧ t.mot = s.mot ∧
    t.get F.GDR_CHOPCNT_EVENTS = min (s.get F.GDR_CHOPCNT_EVENTS + 1) 65535
def chopperStaysOff (s : State) : Prop := s.pwr.phase = .holdup → exec .chopperOn s = .next s
def chopperOff (s : State) : Prop :=
  s.on F.GDR_STAT_CHOP = true → ∃ t, exec .chopperOff s = .next t ∧ t.on F.GDR_STAT_CHOP = false ∧
    t.get F.GDR_CHOPCNT_ONMS = min ((s.now - s.gate.chopSince) / 1000) 65535
def chopperLong (s : State) : Prop :=
  s.on F.GDR_STAT_CHOP = true → s.gate.chopLong = false → ∃ t, exec .chopperLong s = .next t ∧ t.on F.GDR_STAT_CHOP = true ∧
    t.on F.GDR_IFLAG_CHOPLONG = true ∧ t.gate.chopLong = true ∧
    t.now = max s.now (s.gate.chopSince + s.get F.GDR_CHOPT_MAXON * 1000) ∧
    raised s t 0x48 (.flag F.GDR_IFLAG_CHOPLONG.lo) 2
/-- R360: that event comes once in an on-period. -/
def chopperLongOnce (s : State) : Prop :=
  s.gate.chopLong = true → exec .chopperLong s = .next s

/-! ### Load switches -/

/-- R366, R367: a write turns each channel that is off and commanded on into its inrush window, and a channel that is on and
commanded off, off; with EN at 0, on a latched channel, or in a thermal stop a command on is refused. -/
def lsOutWrite (l : Link) (b : Bool) (v : Word) (c : Nat) (s : State) : Prop :=
  s.takes l → s.shaped → c < 8 → s.enabled (0x51 + ofBool b) = true → s.enabled 0x50 = true →
    ((List.range 8).all fun k => !bit (bitsOf v 7 0) k || ((s.chan (8 * ofBool b + k)).state != 4 &&
      (!bit (s.get F.TMP_LATCH_LATCHED) 9 || s.chanOn (8 * ofBool b + k)))) = true →
    ∃ t, exec (.lsOutWrite l b v) s = .next t ∧ granted t l ∧ t.get (F.LSA_OUT_ON.on (ofBool b)) = bitsOf v 7 0 ∧
      (bit (bitsOf v 7 0) c = true → (s.chan (8 * ofBool b + c)).state = 0 → (t.chan (8 * ofBool b + c)).state = 2 ∧
        (t.chan (8 * ofBool b + c)).onAt = s.now ∧ (t.chan (8 * ofBool b + c)).inrushEnd =
          s.now + 1000 * s.get (chanField F.LSA_CH_TINR (8 * ofBool b + c))) ∧
      (bit (bitsOf v 7 0) c = true → (s.chan (8 * ofBool b + c)).state ≠ 0 → t.chan (8 * ofBool b + c) = s.chan (8 * ofBool b + c)) ∧
      (bit (bitsOf v 7 0) c = false → s.chanOn (8 * ofBool b + c) = true → (t.chan (8 * ofBool b + c)).state = 0 ∧
        (t.chan (8 * ofBool b + c)).left = (s.chan (8 * ofBool b + c)).left)
def lsOutRefused (l : Link) (b : Bool) (v : Word) (c : Nat) (s : State) : Prop :=
  s.takes l → c < 8 → bit (bitsOf v 7 0) c = true → (s.enabled (0x51 + ofBool b) = false ∨ s.enabled 0x50 = false ∨
      (s.chan (8 * ofBool b + c)).state = 4 ∨ (bit (s.get F.TMP_LATCH_LATCHED) 9 = true ∧ s.chanOn (8 * ofBool b + c) = false)) →
    ∃ t, exec (.lsOutWrite l b v) s = .next t ∧ refusedWith t l 0x0A ∧ linksAside t s.refreshShown
/-- R376: a clear sets a latched channel OFF, reloads LEFT and clears the channel's command. -/
def lsClr (l : Link) (b : Bool) (v : Word) (c : Nat) (s : State) : Prop :=
  s.takes l → s.shaped → c < 8 → ∃ t, exec (.lsClr l b v) s = .next t ∧ granted t l ∧
    (bit (bitsOf v 7 0) c = true → (s.chan (8 * ofBool b + c)).state ≤ 4 → (t.chan (8 * ofBool b + c)).state = 0 ∧
      (t.chan (8 * ofBool b + c)).left = s.get (chanField F.LSA_CH_RETRY (8 * ofBool b + c)) ∧
      t.on (chanBit F.LSA_OUT_ON (8 * ofBool b + c)) = false) ∧
    (bit (bitsOf v 7 0) c = false → t.chan (8 * ofBool b + c) = s.chan (8 * ofBool b + c))

/-- R367: the window ends at its length. -/
def inrushEnd (n : Nat) (s : State) : Prop :=
  s.shaped → n < 16 → (s.chan n).state = 2 → ∃ t, exec (.inrushEnd n) s = .next t ∧ t.chan n = { s.chan n with state := 1 } ∧
    t.now = max s.now (s.chan n).inrushEnd
/-- R374: what a fault leaves: its cause, and WAIT, or LATCHED in latch mode or without a restart left. -/
def faulted (s t : State) (n cause : Nat) : Prop :=
  (t.chan n).state = (if s.on (chanField F.LSA_CH_MODE n) || (s.chan n).left == 0 then 4 else 3) ∧ (t.chan n).cause = cause ∧
    (t.chan n).left = (s.chan n).left ∧ t.on (chanBit F.LSA_IFLAG_FAULT n) = true ∧ raised s t (0x51 + n / 8) (.flag (n % 8)) 1 ∧
    ((t.chan n).state = 4 → t.on (chanBit F.LSA_IFLAG_LATCH n) = true ∧ raised s t (0x51 + n / 8) (.flag (8 + n % 8)) 2)
/-- R368: current limit for TLIM, counted from the end of the inrush window at the earliest, is a fault with cause 1; where a commit
lowered the limit beneath the present current, it counts from that boundary. -/
def limitTime (n since : Nat) (s : State) : Prop :=
  s.shaped → n < 16 → (s.chan n).state = 1 → ∃ t, exec (.limitTime ⟨n, since⟩) s = .next t ∧ faulted s t n 1 ∧
    t.now = max s.now (max ((s.chan n).limitAt.getD since) (s.chan n).inrushEnd + 1000 * s.get (chanField F.LSA_CH_TLIM n))
/-- R368: current limiting inside the window is not counted. -/
def limitInInrush (n since : Nat) (s : State) : Prop :=
  n < 16 → (s.chan n).state = 2 → exec (.limitTime ⟨n, since⟩) s = .next s
/-- R370: a channel with OLEN that has been off for 10 ms shows a change of its output, flagged. -/
def openLoadChange (n : Nat) (above : Bool) (s : State) : Prop :=
  s.running = true → s.shaped → n < 16 → s.on (chanField F.LSA_CH_OLEN n) = true → s.chanOn n = false → (s.chan n).openLoad = !above →
    ∃ t, exec (.openLoadChange n above) s = .next t ∧ t.chan n = { s.chan n with openLoad := above } ∧
      t.now = max s.now ((s.chan n).offAt + 10000) ∧
      t.on (chanBit F.LSA_IFLAG_OLCHG n) = true
/-- R372: the hotter channel of the pair turns off with cause 2, the lower one with equal currents, the one that is on alone. -/
def zoneHot (z even odd : Nat) (s : State) : Prop :=
  s.running = true → s.shaped → z < 8 → z ∉ s.ls.hot → s.chanOn (2 * z) = true → s.chanOn (2 * z + 1) = true →
    ∃ t, exec (.zoneHot z even odd) s = .next t ∧ z ∈ t.ls.hot ∧ t.on F.LSW_IFLAG_ZONE = true ∧ t.on F.LSW_PSTAT_ZONEHOT = true ∧
      faulted s t (if even < odd then 2 * z + 1 else 2 * z) 2 ∧
      (z, if even < odd then 2 * z else 2 * z + 1, s.now + 2000) ∈ t.ls.second ∧
      t.chan (if even < odd then 2 * z else 2 * z + 1) = s.chan (if even < odd then 2 * z else 2 * z + 1)
def zoneHotOne (z n even odd : Nat) (s : State) : Prop :=
  s.running = true → s.shaped → z < 8 → z ∉ s.ls.hot → (n = 2 * z ∨ n = 2 * z + 1) → s.chanOn n = true →
    s.chanOn (4 * z + 1 - n) = false → ∃ t, exec (.zoneHot z even odd) s = .next t ∧ faulted s t n 2 ∧ t.ls.second = s.ls.second ∧
      t.chan (4 * z + 1 - n) = s.chan (4 * z + 1 - n)
/-- R372: 2 ms later the other channel turns off with cause 3 if the zone is still hot, and stays on otherwise. -/
def zoneSecondCheck (z n e : Nat) (s : State) : Prop :=
  s.shaped → z < 8 → n < 16 → s.ls.second.find? (fun x => x.1 == z) = some (z, n, e) → z ∈ s.ls.hot → s.chanOn n = true →
    ∃ t, exec (.zoneSecondCheck z true) s = .next t ∧ faulted s t n 3 ∧ t.on F.LSW_IFLAG_ZONE2 = true ∧ t.now = max s.now e ∧
      (t.ls.second.all fun x => x.1 != z) = true
def zoneSecondCooler (z n e : Nat) (s : State) : Prop :=
  s.ls.second.find? (fun x => x.1 == z) = some (z, n, e) → ∃ t, exec (.zoneSecondCheck z false) s = .next t ∧
    t = { s with now := max s.now e, ls := { s.ls with second := s.ls.second.filter fun x => x.1 != z } }
/-- R371: at 130 °C a zone is no longer hot, unless its sensor failed. -/
def zoneCool (z : Nat) (s : State) : Prop :=
  ∃ t, exec (.zoneCool z) s = .next t ∧ t.ls.chans = s.ls.chans ∧
    (z ∉ s.ls.sensor → z ∉ t.ls.hot ∧ t.on F.LSW_PSTAT_ZONEHOT = !t.ls.hot.isEmpty) ∧ (z ∈ s.ls.sensor → t = s)
/-- R371: a sensor fault latches both channels of the zone with cause 6, and the zone counts as hot. -/
def zoneSensorFault (z n : Nat) (s : State) : Prop :=
  s.running = true → s.shaped → z < 8 → z ∉ s.ls.sensor → (n = 2 * z ∨ n = 2 * z + 1) → ∃ t, exec (.zoneSensorFault z) s = .next t ∧
    (t.chan n).state = 4 ∧ (t.chan n).cause = 6 ∧ z ∈ t.ls.hot ∧ z ∈ t.ls.sensor ∧ t.on F.LSW_IFLAG_SENSOR = true ∧
    raised s t 0x50 (.flag F.LSW_IFLAG_SENSOR.lo) 2 ∧
    ((s.chan n).state ≠ 4 → t.on (chanBit F.LSA_IFLAG_LATCH n) = true)
/-- R373: the highest channel that is on latches with cause 4, whatever its mode. -/
def shed (n : Nat) (s : State) : Prop :=
  s.shaped → 100 ≤ s.ls.overCount → n < 16 → s.chanOn n = true → (∀ m < 16, n < m → s.chanOn m = false) →
    ∃ t, exec .shed s = .next t ∧ (t.chan n).state = 4 ∧ (t.chan n).cause = 4 ∧ t.ls.overCount = 0 ∧
      t.on F.LSW_IFLAG_SHED = true ∧ raised s t 0x50 (.flag F.LSW_IFLAG_SHED.lo) 1 ∧
      (∀ m < 16, m ≠ n → t.chan m = s.chan m)
/-- R375: a channel in WAIT is checked at a frame boundary, by the first row that matches. That one whose LEFT is 0 waits on
is the model's reading (log entry 123). -/
def lsRestart (n : Nat) (s : State) : Prop :=
  s.shaped → n < 16 → (s.chan n).state = 3 → s.now = s.thy.boundary → ∃ t, exec (.lsRestart n) s = .next t ∧
    if s.on (chanBit F.LSA_OUT_ON n) = false then (t.chan n).state = 0 ∧ (t.chan n).left = (s.chan n).left
    else if s.on (chanField F.LSA_CH_MODE n) = true then (t.chan n).state = 4
    else if s.now < (s.chan n).offAt + 1000 * s.get F.LSW_CFG_TRST ∨ n / 2 ∈ s.ls.hot ∨ s.restartPause = true ∨ (s.chan n).left = 0 then t = s
    else (t.chan n).state = 2 ∧ (t.chan n).left = (s.chan n).left - 1 ∧ (t.chan n).onAt = s.now ∧
      (t.chan n).inrushEnd = s.now + 1000 * s.get (chanField F.LSA_CH_TINR n) ∧ t.tmp.lastRestart = some s.now
/-- R375: between frame boundaries a channel in WAIT is not checked. -/
def lsRestartLater (n : Nat) (s : State) : Prop :=
  s.now ≠ s.thy.boundary → exec (.lsRestart n) s = .next s
/-- R376: a channel on for TGOOD reloads LEFT. -/
def leftReload (n : Nat) (s : State) : Prop :=
  s.shaped → n < 16 → s.chanOn n = true → ∃ t, exec (.leftReload n) s = .next t ∧
    t.chan n = { s.chan n with left := s.get (chanField F.LSA_CH_RETRY n) } ∧
    t.now = max s.now ((s.chan n).onAt + 1000000 * s.get F.LSW_CFG_TGOOD)

/-! ### Safety functions -/

/-- R379, R380: an enabled guard is seen open or closed; the conditions are then evaluated again. -/
def guardChange (g : Nat) (closed : Bool) (s : State) : Prop :=
  s.cdieRuns = true → g < 2 → bit (s.guardRoles g) 0 = true → ∃ t, exec (.guardChange g closed) s = .next t ∧ bit (t.get F.SAF_STAT_GRDCL) g = closed ∧
    bit (t.get F.SAF_STAT_GRDCL) (1 - g) = bit (s.get F.SAF_STAT_GRDCL) (1 - g) ∧ (closed = false → g ∈ t.saf.seenOpen) ∧
    (closed = true → g ∈ s.saf.seenOpen → g ∈ t.saf.seenClosed) ∧
    (closed = false → bit (s.guardRoles g) 1 = true → t.on F.SAF_STAT_SAFESTOP = true) ∧
    (closed = false → bit (s.guardRoles g) 3 = true → t.pins.propEn = false) ∧
    (closed = false → bit (s.guardRoles g) 2 = true → t.on F.SAF_STAT_CHGIL = false ∧ t.coilOnNow 3 = false)
/-- R379, R380: of a guard that is not enabled the level is kept, for when it is, and it takes no part in the test of start-up. -/
def guardNoted (g : Nat) (closed : Bool) (s : State) : Prop :=
  s.cdieRuns = true → g < 2 → bit (s.guardRoles g) 0 = false → ∃ t, exec (.guardChange g closed) s = .next t ∧
    bit (t.get F.SAF_STAT_GRDCL) g = closed ∧ (g, closed) ∈ t.saf.levels ∧ (g ∈ t.saf.seenOpen ↔ g ∈ s.saf.seenOpen) ∧
    (g ∈ t.saf.seenClosed ↔ g ∈ s.saf.seenClosed)
/-- R381: SAFESTOP stops a moving axis with rank 8 and holds an axis at standstill. -/
def safestopActs (g a : Nat) (s : State) : Prop :=
  s.cdieRuns = true → s.shaped → g < 2 → bit (s.guardRoles g) 0 = true → bit (s.guardRoles g) 1 = true → s.on F.SAF_STAT_SAFESTOP = false → s.hasM = true →
    a < 6 → ∃ t, exec (.guardChange g false) s = .next t ∧ t.on F.SAF_STAT_SAFESTOP = true ∧ t.on F.MOT_STAT_SAFESTOP = true ∧
      t.on F.SAF_IFLAG_STOP = true ∧ t.saf.stopSince = s.now ∧ t.saf.testing = [] ∧
      ((s.axis a).cycle.isSome = true → ∃ r ∈ (t.axis a).cycle.bind Cycle.stop, r ≤ 8) ∧
      ((s.axis a).cycle = none → (s.axis a).pending = none → s.axState a = 0 → t.axState a = 5)
/-- R381, R382: while a safe stop is demanded, TSTOP after SAFESTOP an axis that still moves loses the release of its brake. -/
def safestopTimeout (a b : Nat) (s : State) : Prop :=
  s.shaped → s.on F.SAF_STAT_SAFESTOP = true → (s.guardOpen 1 = true ∨ s.sfault = true ∨ (s.useBit 0 = true ∧ s.rxBit 0 = false) ∨
      (s.on F.SAF_STAT_GRDDONE = false ∧ ((s.noteGuard 0).noteGuard 1).guardsSeen = false)) → a < 6 → (s.axis a).cycle.isSome = true → s.brakeOf a = some b →
    ∃ t, exec (.safestopTimeout a) s = .next t ∧ b ∈ t.saf.withdrawn ∧ t.brakeReleased b = false ∧
      t.now = max s.now (s.saf.stopSince + s.get F.SAF_CFG_TSTOP * 100000) ∧ raised s t 0x18 (.listed 1) 2
/-- R383: a coil current outside its window for 100 ms sets BRKFAIL, with an event of class 2. -/
def brakeCurrentFault (b e : Nat) (s : State) : Prop :=
  b < 2 → s.saf.releasedAt.find? (fun x => x.1 == b) = some (b, e) → ∃ t, exec (.brakeCurrentFault b) s = .next t ∧
    t.now = max s.now (e + 100000) ∧ bit (t.get F.SAF_STAT_BRKFAIL) b = true ∧
    t.on F.SAF_IFLAG_BFAIL = true ∧ raised s t 0x18 (.flag F.SAF_IFLAG_BFAIL.lo) 2
/-- R390: SFAULT: PROP_EN off, brakes engaged, no charge interlock, SAFESTOP, the cause written and an event of class 3. -/
def safeLatched (s t : State) (code : Nat) : Prop :=
  t.on F.SAF_STAT_SFAULT = true ∧ t.get F.SAF_FAULT_CODE = code ∧ t.get F.SAF_FAULT_FRAME = s.frame.toNat % 65536 ∧
    t.pins.propEn = false ∧ t.brakeReleased 0 = false ∧ t.brakeReleased 1 = false ∧ t.on F.SAF_STAT_CHGIL = false ∧
    t.on F.SAF_STAT_SAFESTOP = true ∧ t.on F.SAF_IFLAG_SFAULT = true ∧ raised s t 0x18 (.flag F.SAF_IFLAG_SFAULT.lo) 3
/-- R390: a switch found stuck is SDEGR with its cause, and the degraded time starts at DTIME; the second one of the same output is SFAULT. -/
def stuckFound (s t : State) (c code : Nat) : Prop :=
  (bit (s.get F.SAF_DEGR_CAUSE) (c + 1 - c % 2 * 2) = false → bit (s.get F.SAF_DEGR_CAUSE) c = false →
    t.on F.SAF_STAT_SDEGR = true ∧ bit (t.get F.SAF_DEGR_CAUSE) c = true ∧ t.on F.SAF_IFLAG_SDEGR = true ∧
      t.saf.degrUntil = some (s.now + s.get F.SAF_CFG_DTIME * 3600000000) ∧
      raised s t 0x18 (.flag F.SAF_IFLAG_SDEGR.lo) 2 ∧ t.pins = s.pins) ∧
  (bit (s.get F.SAF_DEGR_CAUSE) (c + 1 - c % 2 * 2) = true → safeLatched s t code)
/-- R383, R387: the pulses of a released brake's switches and of the PROP_EN switches that do not read back open. -/
def brakeSwitchPulse (b side : Nat) (s : State) : Prop :=
  b < 2 → side < 2 → s.brakeReleased b = true → s.sfault = false → ∃ t, exec (.brakeSwitchPulse b side false) s = .next t ∧
    stuckFound s t (2 * b + side) 3
def propEnPulse (sw : Nat) (s : State) : Prop :=
  sw < 2 → s.saf.propCmd = true → s.sfault = false → ∃ t, exec (.propEnPulse sw false) s = .next t ∧ stuckFound s t (4 + sw) 2
def pulsesPass (b side sw : Nat) (s : State) : Prop :=
  exec (.brakeSwitchPulse b side true) s = .next s ∧ exec (.propEnPulse sw true) s = .next s
/-- R383, R390: coil voltage on an engaged brake is SFAULT with code 3; a failed slice of the self-test is SFAULT with code 1. -/
def brakeEngagedReadback (b : Nat) (s : State) : Prop :=
  s.cdieRuns = true → b < 2 → s.brakeReleased b = false → s.sfault = false → ∃ t, exec (.brakeEngagedReadback b) s = .next t ∧ safeLatched s t 3
def safetySelfTestSlice (s : State) : Prop :=
  s.cdieRuns = true → s.sfault = false → ∃ t, exec (.safetySelfTestSlice false) s = .next t ∧ safeLatched s t 1
def selfTestPasses (s : State) : Prop := exec (.safetySelfTestSlice true) s = .next s
/-- R387, R390: PROP_EN reads back every 100 µs; high for 1 ms while commanded off is SFAULT with code 2. -/
def propEnReadback (high : Bool) (s : State) : Prop :=
  s.running = true → ∃ t, exec (.propEnReadback high) s = .next t ∧ t.on F.SAF_STAT_PROP_EN = high ∧ t.now = (s.now / 100 + 1) * 100 ∧
    (high ≠ s.on F.SAF_STAT_PROP_EN → t.on F.SAF_IFLAG_PROP = true)
def propEnStuckHigh (e : Nat) (s : State) : Prop :=
  s.running = true → s.saf.propCmd = false → s.saf.propBadSince = some e → e + 1000 ≤ s.now → s.sfault = false →
    ∃ t, exec (.propEnReadback true) s = .next t ∧ t.on F.SAF_STAT_SFAULT = true ∧ t.get F.SAF_FAULT_CODE = 2 ∧ t.pins.propEn = false ∧
      raised s t 0x18 (.flag F.SAF_IFLAG_SFAULT.lo) 3
/-- R390: a low PROP_EN is switched off and retried after 1 s, with an event of class 1. -/
def propEnLow (s : State) : Prop :=
  s.saf.propCmd = true → ∃ t, exec .propEnLow s = .next t ∧ t.saf.propRetry = some (s.now + 1000000) ∧ t.pins.propEn = false ∧
    raised s t 0x18 (.listed 3) 1
/-- R390: when LEFT reaches 0 a brake cause holds its brake and a PROP_EN cause holds PROP_EN off from its next deassertion. -/
def safetyDegradedExpiry (e b : Nat) (s : State) : Prop :=
  s.saf.degrUntil = some e → b < 2 → ∃ t, exec .safetyDegradedExpiry s = .next t ∧ t.now = max s.now e ∧
    (bit (s.get F.SAF_DEGR_CAUSE) (2 * b) = true ∨ bit (s.get F.SAF_DEGR_CAUSE) (2 * b + 1) = true → b ∈ t.saf.brkExpired) ∧
    ((bit (s.get F.SAF_DEGR_CAUSE) 4 = true ∨ bit (s.get F.SAF_DEGR_CAUSE) 5 = true) → t.saf.propExpired = true ∧
      (s.saf.propCmd = false → t.saf.propHeld = true ∧ t.pins.propEn = false))

/-- R384: a due test starts once the axes of the brake have stood still with it engaged for 1 s, SAFESTOP is clear and no cause that
aborted it lasts; the axis is driven with the current of SAF_BTEST, at first 90 degrees ahead. -/
def brakeTestStart (b a : Nat) (s : State) : Prop :=
  s.shaped → b < 2 → s.running = true → s.brakeTestDue b = true → s.testedAxis b = some a → b ∉ s.saf.testing → s.brakeEngaged b = true →
    s.brakeReleased b = false → s.on F.SAF_STAT_SAFESTOP = false →
    (b ∈ s.saf.aborted → s.on F.PWR_STAT_WARN = false ∧ (s.hasEnc a = true → s.gdState a = 2)) →
    ((s.naming b).all fun a => (s.axis a).cycle.isNone && ((s.axis a).pending.isNone || s.brakeTestFirst b) && !s.groupDeferred a &&
      !s.bridgeStaged a) = true → ∃ t, exec (.brakeTestStart b) s = .next t ∧ b ∈ t.saf.testing ∧ b ∉ t.saf.aborted ∧
      t.now = max s.now (s.stillSince b + 1000000) ∧
      (t.axis a).amp = (if s.gdState a = 2 then s.get F.SAF_BTEST_I else 0) ∧
      (1 ≤ s.get F.SAF_BTEST_TIME → b < s.saf.testFrom.length → (t.axis a).lead = 90) ∧
      t = { s with now := t.now, mot := t.mot, saf := { s.saf with
        testing := b :: s.saf.testing, testFrom := s.saf.testFrom.set b t.now, aborted := s.saf.aborted.filter (fun x => x != b) } }
def brakeTestWaits (b : Nat) (s : State) : Prop :=
  (s.on F.SAF_STAT_SAFESTOP = true ∨ s.brakeTestDue b = false) → exec (.brakeTestStart b) s = .next s
/-- R384: after two phases of TIME, in units of 10 ms, the result by the first row that matches; a pass clears BRKFAIL, a failure sets it and holds the axis at IHOLD. -/
def brakeTestDone (b a m1 m2 : Nat) (s : State) : Prop :=
  s.shaped → b < 2 → b ∈ s.saf.testing → s.testedAxis b = some a → s.hasEnc a = true → s.gdState a = 2 →
    s.on F.PWR_STAT_WARN = false → ∃ t, exec (.brakeTestDone b m1 m2) s = .next t ∧ b ∉ t.saf.testing ∧
      t.now = max s.now ((s.saf.testFrom[b]?).getD 0 + 20000 * s.get F.SAF_BTEST_TIME) ∧
      t.on F.SAF_IFLAG_BTEST = true ∧ t.get (if b = 0 then F.SAF_BTST0_MOVE else F.SAF_BTST1_MOVE) = min (max m1 m2) 4095 ∧
      (max m1 m2 ≤ s.get F.SAF_BTWIN_WIN → t.get (if b = 0 then F.SAF_BTST0_RESULT else F.SAF_BTST1_RESULT) = 1 ∧
        bit (t.get F.SAF_STAT_BRKFAIL) b = false) ∧
      (s.get F.SAF_BTWIN_WIN < max m1 m2 → t.get (if b = 0 then F.SAF_BTST0_RESULT else F.SAF_BTST1_RESULT) = 2 ∧
        bit (t.get F.SAF_STAT_BRKFAIL) b = true ∧ t.axState a = 5 ∧ (t.axis a).drive = 2 ∧
        raised s t 0x18 (.flag F.SAF_IFLAG_BFAIL.lo) 2)
/-- R384: without an encoder the brake is not testable. -/
def brakeNotTestable (b a m1 m2 : Nat) (s : State) : Prop :=
  b < 2 → b ∈ s.saf.testing → s.testedAxis b = some a → s.hasEnc a = false → ∃ t, exec (.brakeTestDone b m1 m2) s = .next t ∧
    t.get (if b = 0 then F.SAF_BTST0_RESULT else F.SAF_BTST1_RESULT) = 3 ∧ b ∈ t.saf.untestable ∧ raised s t 0x18 (.listed 2) 1
/-- R384: a bridge that does not run, or a supply warning, aborts the test, which is tried again. -/
def brakeTestAborted (b a m1 m2 : Nat) (s : State) : Prop :=
  b < 2 → b ∈ s.saf.testing → s.testedAxis b = some a → s.hasEnc a = true → (s.gdState a ≠ 2 ∨ s.on F.PWR_STAT_WARN = true) →
    ∃ t, exec (.brakeTestDone b m1 m2) s = .next t ∧ b ∉ t.saf.testing ∧
      t.get (if b = 0 then F.SAF_BTST0_RESULT else F.SAF_BTST1_RESULT) = 4 ∧ t.saf.requested = s.saf.requested
/-- R384, R397: SAF_CMD requests a test from a link with the safety unlock, and is refused with code 0x03 from another. -/
def testBrk0 (l : Link) (s : State) : Prop :=
  s.takes l → s.safUnlocked l = true → ∃ t, exec (.testBrk0 l) s = .next t ∧ granted t l ∧
    linksAside t { s.refreshShown with saf := { s.saf with requested := 0 :: s.saf.requested.filter (fun x => x != 0) } }
def testBrk1 (l : Link) (s : State) : Prop :=
  s.takes l → s.safUnlocked l = true → ∃ t, exec (.testBrk1 l) s = .next t ∧ granted t l ∧
    linksAside t { s.refreshShown with saf := { s.saf with requested := 1 :: s.saf.requested.filter (fun x => x != 1) } }
def safLockedRefused (l : Link) (pw : Word) (s : State) : Prop :=
  s.takes l → s.safUnlocked l = false → (∃ t, exec (.testBrk0 l) s = .next t ∧ refusedWith t l 0x03 ∧ linksAside t s.refreshShown) ∧
    (∃ t, exec (.testBrk1 l) s = .next t ∧ refusedWith t l 0x03 ∧ linksAside t s.refreshShown) ∧
    ∃ t, exec (.safNewpw l pw) s = .next t ∧ refusedWith t l 0x03 ∧ linksAside t s.refreshShown
/-- R88, R397: the safety password unlocks for 300 s, 0xFFFFFFFF relocks; a wrong one is counted, the fifth in a row locks out. -/
def safUnlock (l : Link) (pw : Word) (s : State) : Prop :=
  s.takes l → (pw = 0xFFFFFFFF ∨ (isBcd pw = true ∧ s.lockedOut true = false ∧ pw = s.spw.pw)) →
    ∃ t, exec (.safUnlock l pw) s = .next t ∧ granted t l ∧
      (t.link l).safUntil = (if pw = 0xFFFFFFFF then none else some (s.now + 300000000)) ∧
      linksAside t (if pw = 0xFFFFFFFF then s.refreshShown else { s.refreshShown with spw := { s.spw with tries := 0, lockedUntil := none } })
def safUnlockWrong (l : Link) (pw : Word) (s : State) : Prop :=
  s.takes l → pw ≠ 0xFFFFFFFF → s.lockedOut true = false → pw ≠ s.spw.pw → ∃ t, exec (.safUnlock l pw) s = .next t ∧
    refusedWith t l 0x0A ∧ (t.link l).safUntil = (s.link l).safUntil ∧
    t.spw = if isBcd pw = false then s.spw else if s.spw.tries + 1 < 5 then { s.spw with tries := s.spw.tries + 1 }
      else { s.spw with tries := 0, lockedUntil := some (s.now + 600000000) }
/-- R397, R399: a new password of the safety channel is set and logged. -/
def safNewpw (l : Link) (pw : Word) (s : State) : Prop :=
  s.takes l → s.safUnlocked l = true → isBcd pw = true → ∃ t, exec (.safNewpw l pw) s = .next t ∧ granted t l ∧ t.spw.pw = pw ∧
    t.pw = s.pw ∧ t.get F.SAF_LOGSTAT_TOTAL = min (s.get F.SAF_LOGSTAT_TOTAL + 1) 65535

/-- R391: the 16 bytes of a frame with a connection ID, a sequence, a watchdog time and data. -/
def pdu (id seq wdt data : Nat) : List Byte :=
  ((bytesBE 4 id ++ bytesBE 2 seq ++ bytesBE 2 wdt ++ bytesBE 4 data) ++
    bytesBE 4 (crcSafety (bytesBE 4 id ++ bytesBE 2 seq ++ bytesBE 2 wdt ++ bytesBE 4 data))).map (BitVec.ofNat 8)
/-- R392: the check value of the safety CRC. -/
def safetyCrcCheck : Prop := crcSafety [0x31, 0x32, 0x33, 0x34, 0x35, 0x36, 0x37, 0x38, 0x39] = 0x1697D06A
/-- R393, R394: a good frame by the state of the link: waiting takes a baseline, confirming connects on the next sequence, and
connected takes the data within 16 of the last. -/
def safetyPduReceived (seq data : Nat) (s : State) : Prop :=
  s.running = true → s.on F.SCH_CFG_EN = true → s.canUp (s.get F.SCH_CFG_PORT) = true → seq < 65536 → data < 32 →
    ∃ t, exec (.safetyPduReceived true (pdu (s.get F.SCH_CONNRX_ID) seq (s.get F.SCH_TIME_RXWDT) data)) s = .next t ∧
      (s.get F.SCH_STAT_LINK = 1 → t.get F.SCH_STAT_LINK = 2 ∧ t.saf.baseline = seq ∧ t.get F.SCH_STAT_RXDATA = 0) ∧
      (s.get F.SCH_STAT_LINK = 2 → seq = (s.saf.baseline + 1) % 65536 → t.get F.SCH_STAT_LINK = 3 ∧
        t.get F.SCH_STAT_RXDATA = data ∧ t.get F.SCH_STAT_RXSEQ = seq ∧ t.on F.SCH_IFLAG_CONN = true) ∧
      (s.get F.SCH_STAT_LINK = 2 → seq ≠ (s.saf.baseline + 1) % 65536 → t.get F.SCH_STAT_LINK = 2 ∧ t.saf.baseline = seq) ∧
      (s.get F.SCH_STAT_LINK = 3 → 1 ≤ (seq + 65536 - s.get F.SCH_STAT_RXSEQ) % 65536 →
        (seq + 65536 - s.get F.SCH_STAT_RXSEQ) % 65536 ≤ 16 → t.get F.SCH_STAT_LINK = 3 ∧ t.get F.SCH_STAT_RXDATA = data ∧
          t.get F.SCH_STAT_RXSEQ = seq ∧ t.saf.wdtAt = some (s.now + s.get F.SCH_TIME_RXWDT * 1000)) ∧
      (s.get F.SCH_STAT_LINK = 3 → (seq = s.get F.SCH_STAT_RXSEQ ∨ 16 < (seq + 65536 - s.get F.SCH_STAT_RXSEQ) % 65536) →
        t.get F.SCH_STAT_RXDATA = s.get F.SCH_STAT_RXDATA ∧ t.get F.SCH_STAT_RXSEQ = s.get F.SCH_STAT_RXSEQ ∧
          t.on F.SCH_IFLAG_SEQ = true ∧ t.get F.SCH_ERR_SEQ = min (s.get F.SCH_ERR_SEQ + 1) 255 ∧ t.saf.wdtAt = s.saf.wdtAt)
/-- R393: a frame that is not FD, or not of 16 bytes, changes its flag alone; one with another connection ID is counted, with an
event of class 2. -/
def safetyPduFormat (fd : Bool) (bytes : List Byte) (s : State) : Prop :=
  s.running = true → s.on F.SCH_CFG_EN = true → s.canUp (s.get F.SCH_CFG_PORT) = true → (fd = false ∨ bytes.length ≠ 16) →
    exec (.safetyPduReceived fd bytes) s = .next (s.flag F.SCH_IFLAG_FMT)
def safetyPduForeign (id seq data : Nat) (s : State) : Prop :=
  s.running = true → s.on F.SCH_CFG_EN = true → s.canUp (s.get F.SCH_CFG_PORT) = true → id < 4294967296 → id ≠ s.get F.SCH_CONNRX_ID → seq < 65536 → data < 32 →
    ∃ t, exec (.safetyPduReceived true (pdu id seq (s.get F.SCH_TIME_RXWDT) data)) s = .next t ∧ t.saf = s.saf ∧
      t.on F.SCH_IFLAG_ID = true ∧ t.get F.SCH_ERR_ID = min (s.get F.SCH_ERR_ID + 1) 255 ∧ raised s t 0x19 (.flag F.SCH_IFLAG_ID.lo) 2 ∧
      t.get F.SCH_STAT_LINK = s.get F.SCH_STAT_LINK
/-- R391, R395: the PDU that is due is sent, on a port that is up: the connection ID, a sequence that rises by one, TXWDT and
SAF_STAT. -/
def safetyPduSend (s : State) : Prop :=
  s.running = true → s.on F.SCH_CFG_EN = true → ∃ t, exec .safetyPduSend s = .next t ∧ t.saf.nextSeq = (s.saf.nextSeq + 1) % 65536 ∧
    t.now = max s.now s.pduDue ∧ t.saf.lastSent = some t.now ∧ t.get F.SCH_TXSEQ_SEQ = s.saf.nextSeq % 65536 ∧
    (s.canUp (s.get F.SCH_CFG_PORT) = true →
      (t.link (if s.get F.SCH_CFG_PORT = 0 then .can0 else .can1)).tx = some (s.canTx (s.get F.SCH_CFG_PORT) (s.get F.SCH_TXID_ID) true
        (pdu (s.get F.SCH_CONNTX_ID) s.saf.nextSeq (s.get F.SCH_TIME_TXWDT) ((s.reg F.SAF_STAT_SFAULT.addr).toNat % 2 ^ 26))))
/-- R395: the next PDU is due TXWDT/4, in whole ms, after the last; after a change of SAF_STAT within 5 ms, and no sooner than 5 ms
after the last. -/
def safetyPduDue (e : Nat) (s : State) : Prop :=
  s.saf.lastSent = some e → s.pduDue ≤ e + s.get F.SCH_TIME_TXWDT / 4 * 1000 ∧
    (s.reg F.SAF_STAT_SFAULT.addr = s.saf.sentData → s.pduDue = e + s.get F.SCH_TIME_TXWDT / 4 * 1000) ∧
    (s.reg F.SAF_STAT_SFAULT.addr ≠ s.saf.sentData → e ≤ s.now → s.pduDue ≤ s.now + 5000 ∧
      (e + s.get F.SCH_TIME_TXWDT / 4 * 1000 ≥ e + 5000 → e + 5000 ≤ s.pduDue))
/-- R394: without an accepted frame within RXWDT the link waits and its data reads 0. -/
def safetyWatchdogExpiry (e : Nat) (s : State) : Prop :=
  s.saf.wdtAt = some e → ∃ t, exec .safetyWatchdogExpiry s = .next t ∧ t.get F.SCH_STAT_LINK = 1 ∧ t.get F.SCH_STAT_RXDATA = 0 ∧
    t.get F.SCH_ERR_WDT = min (s.get F.SCH_ERR_WDT + 1) 255 ∧ raised s t 0x19 (.flag F.SCH_IFLAG_WDT.lo) 1 ∧ t.now = max s.now e ∧ t.saf.wdtAt = none

/-! ### Thermal management -/

/-- R402 to R405, R407: an evaluation of the G-die or the C-die in range, 100 ms after the last or 1 ms on the fast rate, shows the reading, sets and clears the fast rate and the
throttle with their hysteresis, and stops the die from 140 °C. -/
def thermalEval (d : Nat) (x : Int) (s : State) : Prop :=
  s.cdieRuns = true → (d = 9 ∨ (d = 8 ∧ s.hasM = true ∧ s.gdieDown = false)) → -6000 ≤ x → x ≤ 20000 → d ∉ s.tmp.cycling →
    ∃ t, exec (.thermalEval d x false) s = .next t ∧ t.get (tempField d) = codeOf 16 x ∧ t.diodeFaulty d = false ∧
      ((s.tmp.evalAt.find? fun e => e.1 == d).all fun e =>
        decide (t.now = max s.now (e.2 + if bit (s.get F.TMP_THR_FAST) d then 1000 else 100000))) = true ∧
      bit (t.get F.TMP_THR_FAST) d = (decide (10500 ≤ x) || (bit (s.get F.TMP_THR_FAST) d && decide (10000 ≤ x))) ∧
      t.throttled d = (decide (11500 ≤ x) || (s.throttled d && decide (11000 < x))) ∧
      (11500 ≤ x → s.throttled d = false → t.on F.TMP_IFLAG_THROTTLE = true ∧ raised s t 0x05 (.flag F.TMP_IFLAG_THROTTLE.lo) 1) ∧
      t.latched d = (s.latched d || decide (14000 ≤ x)) ∧
      (14000 ≤ x → s.latched d = false → t.on F.TMP_IFLAG_STOP = true ∧ raised s t 0x05 (.flag F.TMP_IFLAG_STOP.lo) 2 ∧
        t.get F.TMP_COUNT_STOPS = min (s.get F.TMP_COUNT_STOPS + 1) 65535)
/-- R407: the C-die's stop turns the load switches off as a host would, clears their commands and stops every moving axis. -/
def thermalStop (x : Int) (n a : Nat) (c : Cycle) (s : State) : Prop :=
  s.running = true → s.shaped → 14000 ≤ x → x ≤ 20000 → 9 ∉ s.tmp.cycling → s.latched 9 = false → n < 16 → a < 6 → s.hasM = true →
    (s.axis a).cycle = some c → c.kind = 1 → c.stop = none → ∃ t, exec (.thermalEval 9 x false) s = .next t ∧ t.chanOn n = false ∧
      t.get F.LSA_OUT_ON = 0 ∧ t.get (F.LSA_OUT_ON.on 1) = 0 ∧ ((t.axis a).cycle.bind Cycle.stop) = some 4 ∧ t.axState a = 4
/-- R404: readings out of range in three evaluations make the diode faulty: it reads 0x7FFF and the die stops. -/
def diodeFaulty (d : Nat) (x : Int) (s : State) : Prop :=
  s.cdieRuns = true → (d = 9 ∨ (d = 8 ∧ s.hasM = true ∧ s.gdieDown = false)) → (x < -6000 ∨ 20000 < x) → 2 ≤ countOf s.tmp.bad d →
    d ∉ s.tmp.cycling → ∃ t, exec (.thermalEval d x false) s = .next t ∧ t.diodeFaulty d = true ∧ t.get (tempField d) = 0x7FFF ∧
      t.latched d = true ∧ (s.diodeFaulty d = false → raised s t 0x05 (.flag F.TMP_IFLAG_DIODE.lo) 2)
/-- R403, R404: an M-die is read from the TDIE published since its converters started. -/
def mdieEval (d : Nat) (x : Int) (s : State) : Prop :=
  s.running = true → d < 8 → d < s.dies → s.healthy d = true → bit (s.get F.STK_ROUTE_ASLEEP) d = false → s.freshTdie d = true →
    d ∉ s.tmp.cycling → -6000 ≤ s.getInt (F.MD_DIE_TDIE.on d) → s.getInt (F.MD_DIE_TDIE.on d) < 14000 →
    ∃ t, exec (.thermalEval d x false) s = .next t ∧
      t.get (tempField d) = codeOf 16 (s.getInt (F.MD_DIE_TDIE.on d)) ∧ t.latched d = s.latched d ∧
      t.throttled d = (decide (11500 ≤ s.getInt (F.MD_DIE_TDIE.on d)) ||
        (s.throttled d && decide (11000 < s.getInt (F.MD_DIE_TDIE.on d))))
/-- R404: an M-die that is unreachable or asleep keeps its last reading and has no diode fault. -/
def mdieAway (d : Nat) (x : Int) (missing : Bool) (s : State) : Prop :=
  s.running = true → d < 8 → d < s.dies → (s.healthy d = false ∨ bit (s.get F.STK_ROUTE_ASLEEP) d = true) →
    ∃ t, exec (.thermalEval d x missing) s = .next t ∧ t.diodeFaulty d = false ∧ t.get (tempField d) = s.get (tempField d) ∧
      t.latched d = s.latched d ∧ t.rsm = s.rsm
/-- R404: 100 ms without a conversion of its diode make an M-die's diode faulty. -/
def diodeMissing (d : Nat) (x : Int) (s : State) : Prop :=
  s.running = true → d < 8 → d < s.dies → s.healthy d = true → bit (s.get F.STK_ROUTE_ASLEEP) d = false → d ∉ s.tmp.cycling →
    ∃ t, exec (.thermalEval d x true) s = .next t ∧ t.diodeFaulty d = true ∧ t.get (tempField d) = 0x7FFF ∧ t.latched d = true ∧
      (s.diodeFaulty d = false → raised s t 0x05 (.flag F.TMP_IFLAG_DIODE.lo) 2)
/-- R409: after its power cycle a die below 100 °C loses its latch, with PCYC; else it is powered down again. -/
def latchClears (x : Int) (s : State) : Prop :=
  s.cdieRuns = true → s.hasM = true → s.gdieDown = false → 8 ∈ s.tmp.cycling → -6000 ≤ x → x < 10000 →
    ∃ t, exec (.thermalEval 8 x false) s = .next t ∧ t.latched 8 = false ∧ t.on F.TMP_IFLAG_PCYC = true ∧ 8 ∉ t.tmp.cycling ∧
      t.gdieDown = false
def latchStays (x : Int) (s : State) : Prop :=
  s.cdieRuns = true → s.hasM = true → s.gdieDown = false → 8 ∈ s.tmp.cycling → 10000 ≤ x → x ≤ 20000 →
    ∃ t, exec (.thermalEval 8 x false) s = .next t ∧ t.latched 8 = s.latched 8 ∧ t.gdieDown = true ∧ (8, t.now) ∈ t.tmp.downAt
/-- R407: a stopped die is powered down once no contactor reads closed, or its deadline has expired. -/
def thermalPowerDown (d : Nat) (s : State) : Prop :=
  d < 9 → s.latched d = true → (s.tmp.downAt.all fun e => e.1 != d) = true → d ∉ s.tmp.cycling →
    (s.anyCdClosed = false ∨ d ∈ s.tmp.expired) → ∃ t, exec (.thermalPowerDown d) s = .next t ∧ (d, s.now) ∈ t.tmp.downAt ∧
      (d < 8 → bit (t.get F.PWR_MDPWR_MD_ON) d = false ∧ t.healthy d = false) ∧ (d = 8 → t.gdieDown = true ∧ t.gdState 0 = 0)
/-- R409: the automatic power cycle comes COOL after the power-down, at most three times, and counts in PCYC. -/
def diePowerCycle (d e : Nat) (s : State) : Prop :=
  s.pwr.phase = .run → d < 9 → s.tmp.downAt.find? (fun x => x.1 == d) = some (d, e) → s.on F.TMP_CFG_AUTO = true → s.latched d = true →
    countOf s.tmp.tries d < 3 → ∃ t, exec (.diePowerCycle d) s = .next t ∧ t.now = max s.now (e + s.get F.TMP_CFG_COOL * 1000000) ∧
      countOf t.tmp.tries d = countOf s.tmp.tries d + 1 ∧ d ∈ t.tmp.cycling ∧
      t.get F.TMP_COUNT_PCYC = min (s.get F.TMP_COUNT_PCYC + 1) 65535 ∧
      (d = 8 → t.gdieDown = false) ∧ (d < 8 → d ∈ t.pwr.settling ∧ bit (t.get F.PWR_MDPWR_MD_ON) d = true)
def noFourthCycle (d : Nat) (s : State) : Prop :=
  (3 ≤ countOf s.tmp.tries d ∨ s.on F.TMP_CFG_AUTO = false) → exec (.diePowerCycle d) s = .next s
/-- R409: the host starts the power cycle of a latched die that has cooled, and is refused otherwise. -/
def tmpCmd (l : Link) (d : Nat) (s : State) : Prop :=
  s.takes l → d < 9 → s.latched d = true → s.cooled d = true → ∃ t, exec (.tmpCmd l (BitVec.ofNat 32 (0x100 + d))) s = .next t ∧
    granted t l ∧ d ∈ t.tmp.cycling ∧ (∀ e ∈ t.tmp.downAt, e.1 ≠ d) ∧ t.tmp.tries = s.tmp.tries ∧
    t.get F.TMP_COUNT_PCYC = min (s.get F.TMP_COUNT_PCYC + 1) 65535 ∧ (d = 8 → t.gdieDown = false)
def tmpCmdRefused (l : Link) (v : Word) (s : State) : Prop :=
  s.takes l → (v.toNat < 0x100 ∨ 0x108 < v.toNat ∨ s.latched (v.toNat - 0x100) = false ∨ s.cooled (v.toNat - 0x100) = false) →
    ∃ t, exec (.tmpCmd l v) s = .next t ∧ refusedWith t l 0x0A ∧ linksAside t s.refreshShown
/-- R406: a pause ends PAUSE after the last operation of its kind. -/
def thermalPauseEnd (e : Nat) (s : State) : Prop :=
  s.mot.lastEnd = some e → s.motionPause = true → s.cycleRuns = false → ∃ t, exec (.thermalPauseEnd true) s = .next t ∧
    t.now = e + s.get F.TMP_CFG_PAUSE * 1000000 ∧ t.motionPause = false ∧ t.on F.MOT_STAT_THROTTLE = false ∧ t.mot = s.mot
def restartPauseEnd (e : Nat) (s : State) : Prop :=
  s.tmp.lastRestart = some e → s.restartPause = true → exec (.thermalPauseEnd false) s =
    .next { s with now := e + s.get F.TMP_CFG_PAUSE * 1000000 }
/-- R411: corrected errors are counted; more than 64 within an hour set ECC, with an event of class 1. -/
def eccCorrected (mram : Bool) (s : State) : Prop :=
  s.cdieRuns = true → ∃ t, exec (.eccCorrected mram) s = .next t ∧
    t.get (if mram then F.TMP_ECC_MRAM else F.TMP_ECC_SRAM) = min (s.get (if mram then F.TMP_ECC_MRAM else F.TMP_ECC_SRAM) + 1) 65535 ∧
    t.get (if mram then F.TMP_ECC_SRAM else F.TMP_ECC_MRAM) = s.get (if mram then F.TMP_ECC_SRAM else F.TMP_ECC_MRAM) ∧
    (64 ≤ ((if mram then s.tmp.mramTimes else s.tmp.sramTimes).filter fun e => decide (s.now < e + 3600000000)).length →
      t.on F.TMP_IFLAG_ECC = true ∧ raised s t 0x05 (.flag F.TMP_IFLAG_ECC.lo) 1) ∧
    (((if mram then s.tmp.mramTimes else s.tmp.sramTimes).filter fun e => decide (s.now < e + 3600000000)).length < 64 →
      t.rsm = s.rsm)

/-! ### Frames of the commands that `frameOf` leaves to their own statements -/

/-- These parts of the state, the queue, and every word but those at the addresses picked out stay as they are. -/
def keeps (ps : List Part) (out : Nat → Bool) (a : Nat) (s t : State) : Prop :=
  (∀ p ∈ ps, p.same s t) ∧ t.pending = s.pending ∧ (out a = false → t.reg a = s.reg a)
/-- What a hold of the cores, or their resumption, leaves alone. -/
def heldKeeps : List Part :=
  [.shadow, .gdieDown, .pwr, .pw, .spw, .fw, .thy, .stk, .cyl, .dieSt, .cur, .bay, .saf, .tmp, .ls, .sage, .ring, .aut, .saved,
    .ratios]
/-- The words that show the moment, which follow it at every request. -/
def shownAt (a : Nat) : Bool := (hostFrame [] []).lists a
/-- The words a clamp is logged in, and those that show the moment. -/
def clampAt (a : Nat) : Bool := (clampFrame [] []).lists a
/-- Outside the configuration words of every page but SYS and CFG. -/
def notConfig (a : Nat) : Bool := a / 256 == 0 || a / 256 == 2 || !(decide (8 ≤ a % 256) && decide (a % 256 ≤ 0x5F))
/-- R62: a die that settles or fails to settle while another still settles changes SYS, PWR, the frame count and what is kept of
itself. -/
def settledFrame (k j a : Nat) (s : State) : Prop :=
  s.pwr.phase = .startup → k < 8 → k ∈ s.pwr.settling → j ∈ s.pwr.settling → j ≠ k → ∃ t, exec (.mdieSettled k) s = .next t ∧
    keeps [.shadow, .gdieDown, .pins, .commit, .pw, .spw, .fw, .rsm, .cyl, .flt, .line, .cur, .bay, .mot, .gate, .saf,
      .prot, .tmp, .ls, .sage, .ring, .aut, .saved, .journal, .ratios]
      (fun x => x / 256 == 0 || x / 256 == 6 || x == addrOf 3 7 || x == F.THY_FSEQ_SEQ.addr) a s t
def notSettledFrame (k j a : Nat) (s : State) : Prop :=
  s.pwr.phase = .startup → k < 8 → k ∈ s.pwr.settling → j ∈ s.pwr.settling → j ≠ k → ∃ t, exec (.mdieSettleTimeout k) s = .next t ∧
    keeps [.shadow, .gdieDown, .pins, .commit, .pw, .spw, .fw, .rsm, .cyl, .flt, .dieSt, .line, .cur, .bay, .mot, .gate,
      .saf, .prot, .tmp, .ls, .sage, .ring, .aut, .saved, .journal, .ratios] (fun x => x / 256 == 6 || x == addrOf 3 7 || x == F.THY_FSEQ_SEQ.addr) a s t
/-- R38, R88: a start leaves both passwords, the firmware banks and the ledger's records as they were. -/
def startFrame (x : StartUp) (s : State) : Prop :=
  s.pwr.phase = .off → ∃ t, exec (.startQualified x) s = .next t ∧ t.pw.pw = s.pw.pw ∧ t.spw.pw = s.spw.pw ∧ t.fw.verA = s.fw.verA ∧
    t.fw.verB = s.fw.verB ∧ t.cyl.records = s.cyl.records ∧ t.pending = s.pending
/-- R286, R287: with no request waiting or in a reply buffer, a decision with a survivor changes FLT alone; the loss of both cores, and a resumption with nothing queued, change
no configuration word outside the SYS and CFG pages. -/
def arbitrationFrame (stA stB : Bool) (e a : Nat) (s : State) : Prop :=
  s.flt.freezeAt = some e → s.flt.survivor = none → (stA = true ∨ stB = true) → noneWaits s → s.links.spi.formed = none →
    ∃ t, exec (.arbitration stA stB) s = .next t ∧
    keeps (heldKeeps ++ [.pins, .commit, .rsm, .line, .mot, .gate, .prot]) (fun x => x / 256 == 4) a s t
def lostFrame (e a : Nat) (s : State) : Prop :=
  s.flt.freezeAt = some e → s.flt.survivor = none → noneWaits s → ∃ t, exec (.arbitration false false) s = .next t ∧
    keeps heldKeeps notConfig a s t
def resumeFrame (len e m a : Nat) (s : State) : Prop :=
  s.flt.freezeAt = some e → s.flt.survivor = some m → s.pwr.phase = .run → s.flt.writeQueue = [] → noneWaits s →
    ∃ t, exec (.coreResume len) s = .next t ∧ keeps (heldKeeps ++ [.pins, .commit, .line, .mot, .gate, .prot]) notConfig a s t
def sliceBeginFrame (pass : Bool) (a : Nat) (s : State) : Prop :=
  s.running = true → (s.get F.FLT_MODE_MODE = 1 ∨ s.get F.FLT_MODE_MODE = 2) → s.frozen = false →
    s.flt.lastMark < s.thy.boundary / 100000 * 100000 → ∃ t, exec (.selfTestSlice pass false) s = .next t ∧
      keeps (heldKeeps ++ [.now, .pins, .links, .commit, .rsm, .line, .mot, .gate, .prot, .journal]) (fun x => x / 256 == 4) a s t
def sliceFrame (e a : Nat) (s : State) : Prop :=
  s.flt.sliceAt = some e → s.pwr.phase = .run → s.flt.writeQueue = [] → noneWaits s →
    ∃ t, exec (.selfTestSlice true true) s = .next t ∧
      keeps (heldKeeps ++ [.pins, .commit, .rsm, .line, .mot, .gate, .prot]) notConfig a s t
def failedSliceFrame (e a : Nat) (s : State) : Prop :=
  s.flt.sliceAt = some e → noneWaits s → ∃ t, exec (.selfTestSlice false true) s = .next t ∧ keeps heldKeeps notConfig a s t
def watchdogFrame (a : Nat) (s : State) : Prop :=
  s.running = true → s.frozen = false → s.get F.FLT_MODE_MODE ≠ 3 → noneWaits s → ∃ t, exec .watchdogExpiry s = .next t ∧
    keeps heldKeeps notConfig a s t
/-- R295, R296: a lease released or expired changes words of FLT alone, with no request waiting for the reply buffer that falls free;
the MRAM port passed on, and a token come home, the mirror's state and sequence too. -/
def leaseReleaseFrame (j party a : Nat) (s : State) : Prop :=
  j < 8 → s.leaseHolder j = party → s.leaseState j = 1 → (1 ≤ j → j ≤ 3 → s.flt.waitOrder = []) →
    ∃ t, exec (.leaseRelease j party) s = .next t ∧ keeps ((heldKeeps.erase .ring).erase .fw ++ [.now, .pins, .links, .commit, .rsm, .line, .mot, .gate, .prot])
      (fun x => x / 256 == 4 || x / 256 == 0x12) a s t
def leaseExpiryFrame (j a : Nat) (s : State) : Prop :=
  j < 8 → s.leaseState j = 1 → (1 ≤ j → j ≤ 3 → s.flt.waitOrder = [] ∧ s.links.spi.formed = none) →
    ∃ t, exec (.leaseExpiry j) s = .next t ∧
      keeps (heldKeeps.erase .ring ++ [.pins, .commit, .rsm, .line, .mot, .gate, .prot, .journal]) (fun x => x / 256 == 4) a s t
def doubleBitFrame (a : Nat) (s : State) : Prop :=
  s.running = true → s.get F.FLT_MODE_MODE ≠ 3 → noneWaits s → ∃ t, exec .sramDoubleBitError s = .next t ∧
    keeps heldKeeps notConfig a s t
/-- R65: laying up changes no configuration word outside the SYS and CFG pages. -/
def layupFrame (l : Link) (a : Nat) (s : State) : Prop :=
  s.takes l → s.anyCdClosed = false → s.anyMoving = false → s.pins.shoreDet = false → s.on F.PWR_STAT_WARN = false →
    ∃ t, exec (.layupEnter l 0x1A1D false) s = .next t ∧ keeps [.shadow, .commit, .pw, .spw, .fw, .thy, .stk, .dieSt, .cur, .bay, .aut, .ratios] notConfig a s t
/-- R75, R104, R106: a burst, and a write, commit or block command, change the words of their page, those of the CFG page and those
that show the moment, and of the parts what the request is about. -/
def burstFrame (l : Link) (r : Req) (a : Nat) (s : State) : Prop :=
  s.takes l → ¬ (0x49 ≤ r.page.toNat ∧ r.page.toNat ≤ 0x4E) → ∃ t, exec (.burstRead l r) s = .next t ∧
    keeps (heldKeeps ++ [.now, .pins, .commit, .rsm, .flt, .line, .mot, .gate, .prot, .journal])
      (fun x => x / 256 == r.page.toNat || shownAt x) a s t
def writeFrame (l : Link) (r : Req) (a : Nat) (s : State) : Prop :=
  s.takes l → s.fitted r.page.toNat = true → 8 ≤ r.word.toNat → wordHas r.page.toNat r.word.toNat .rws = true →
    (safetyPage r.page.toNat = true → s.safUnlocked l = true) → ∃ t, exec (.write l r) s = .next t ∧
      keeps [.now, .gdieDown, .pwr, .pins, .pw, .spw, .fw, .thy, .stk, .rsm, .cyl, .dieSt, .line, .cur, .bay, .mot, .gate, .saf,
        .prot, .tmp, .ls, .sage, .ring, .aut, .saved, .ratios]
        (fun x => x / 256 == 2 || x == addrOf r.page.toNat 6 || clampAt x) a s t ∧
      (a ≠ addrOf r.page.toNat r.word.toNat → t.shadowReg a = s.shadowReg a)
def commitFrame (l : Link) (r : Req) (a : Nat) (s : State) : Prop :=
  s.takes l → ∃ t, exec (.commit l r) s = .next t ∧ keeps (heldKeeps ++ [.now, .pins, .rsm, .flt, .line, .mot, .gate, .prot, .journal])
    (fun x => x / 256 == 2 || shownAt x) a s t
/-- R83: a step changes the configuration words of the pages it applies, to what was staged, and no other's. -/
def stepFrame (c : Accepted) (a : Nat) (s : State) : Prop :=
  s.commit.accepted = some c → ∃ t, exec .commitStep s = .next t ∧
    keeps [.shadow, .gdieDown, .pwr, .pw, .spw, .fw, .cyl, .bay, .cur, .tmp, .ls, .ratios] (fun x => notConfig x || c.pages.contains (x / 256)) a s t
def stepApplies (p w : Nat) (v : Word) (c : Accepted) (s : State) : Prop :=
  s.commit.accepted = some { c with words := [(addrOf p w, v)] } → p < 256 → 8 ≤ w → w ≤ 0x5F → p ≠ 2 → p ∈ c.pages →
    islandOf p = nextIsland c.pages → c.time + 100 ≤ s.nextBoundary → c.last ≠ some s.nextBoundary →
    ∃ t, exec .commitStep s = .next t ∧ t.reg (addrOf p w) = v
/-- R72: setting EN changes PCTL and what shows the moment; clearing it, no configuration word. -/
def pctlEnFrame (l : Link) (page : Byte) (a : Nat) (s : State) : Prop :=
  s.takes l → s.fitted page.toNat = true →
    (∃ t, exec (.pctlEn l page true) s = .next t ∧ keeps (heldKeeps ++ [.now, .pins, .commit, .rsm, .flt, .line, .mot, .gate, .prot,
      .journal]) (fun x => x == addrOf page.toNat 2 || shownAt x) a s t) ∧
    ∃ t, exec (.pctlEn l page false) s = .next t ∧ keeps [.now, .shadow, .gdieDown, .pwr, .pins, .commit, .pw, .spw, .fw, .thy, .stk,
      .cyl, .flt, .line, .cur, .bay, .prot, .tmp, .ls, .sage, .ring, .aut, .saved, .journal, .ratios] notConfig a s t
def pctlRstFrame (l : Link) (page : Byte) (a : Nat) (s : State) : Prop :=
  s.takes l → s.fitted page.toNat = true → blockControl page.toNat = true → s.blockActive page.toNat = false →
    ∃ t, exec (.pctlRst l page) s = .next t ∧ keeps [.now, .shadow, .gdieDown, .pwr, .pins, .commit, .pw, .spw, .fw, .cyl, .rsm, .bay,
      .cur, .saf, .sage, .prot, .thy, .stk, .flt, .line, .tmp, .aut, .saved, .journal, .ratios] notConfig a s t
def tblFrame (l : Link) (v : Option Word) (a : Nat) (s : State) : Prop :=
  s.takes l → v.all (fun x => decide (x.toNat < 65536)) = true → ∃ t, exec (.tbldataAccess l v) s = .next t ∧
    keeps [.now, .shadow, .gdieDown, .pwr, .pins, .commit, .pw, .spw, .fw, .thy, .stk, .rsm, .cyl, .flt, .dieSt, .line, .cur,
      .bay, .mot, .gate, .saf, .prot, .tmp, .ls, .ring, .aut, .saved, .journal, .ratios] (fun x => x == F.SGE_TBLSEL_ENTRY.addr || shownAt x) a s t
/-- R275: an adoption changes shadows, and of the active words those of the mirror's gains and of CFG, SGE and KRG. -/
def adoptFrame (m : MirrorImage) (a : Nat) (s : State) : Prop :=
  s.ring.fetching = true → ∃ t, exec (.adoptFetchDone true m) s = .next t ∧
    keeps [.gdieDown, .pwr, .pw, .spw, .fw, .cyl, .bay, .mot, .gate, .prot, .tmp, .ls, .ratios] notConfig a s t
def enrolFrame (l : Link) (ids : List (Nat × Nat)) (a : Nat) (s : State) : Prop :=
  s.takes l → ∃ t, exec (.enrol l ids) s = .next t ∧ keeps [.now, .shadow, .gdieDown, .pwr, .pins, .commit, .pw, .spw, .fw, .thy, .stk,
    .rsm, .cyl, .dieSt, .line, .cur, .bay, .mot, .gate, .saf, .prot, .tmp, .ls, .sage, .saved, .ratios]
    (fun x => x / 256 == 4 || x / 256 == 0x0F || x / 256 == 0x12 || shownAt x) a s t

/-! ### Rules of the register pages, stated whole -/

/-- R69: the pages of the register map. -/
def mappedPages : List Nat :=
  List.range' 0x00 11 ++ List.range' 0x0C 7 ++ [0x14, 0x15, 0x18, 0x19] ++ List.range' 0x20 16 ++ List.range' 0x40 7 ++
    List.range' 0x48 7 ++ [0x50, 0x51, 0x52]
/-- R70: a page that R69 does not list behaves as an absent page. -/
def unmappedPage (l : Link) (r : Req) (s : State) : Prop :=
  s.takes l → r.page.toNat ∉ mappedPages →
    (∃ t, exec (.read l r) s = .next t ∧ (t.link l).reply.data = if r.word = 0 then 0xFFFF0000 else 0) ∧
    ∃ t, exec (.write l r) s = .next t ∧ bit (t.link l).reply.status 3 = true ∧ linksAside t s.refreshShown
/-- R6: the pages of a unit that is not fitted. -/
def unfittedPage (l : Link) (r : Req) (s : State) : Prop :=
  s.takes l → ((s.get F.SYS_VARIANT_MDIES = 2 ∧ r.page.toNat ∈ List.range' 0x22 6 ++ List.range' 0x2A 6) ∨
      (s.get F.SYS_VARIANT_MDIES = 4 ∧ r.page.toNat ∈ List.range' 0x24 4 ++ List.range' 0x2C 4) ∨
      (s.hasM = false ∧ r.page.toNat ∈ List.range' 0x40 7 ++ List.range' 0x48 7) ∨ (s.hasB = false ∧ r.page = 0x0A)) →
    (∃ t, exec (.read l r) s = .next t ∧ (t.link l).reply.data = if r.word = 0 then 0xFFFF0000 else 0) ∧
    ∃ t, exec (.write l r) s = .next t ∧ bit (t.link l).reply.status 3 = true ∧ linksAside t s.refreshShown
/-- R81: discarding every pending page, and the view of a link on the words of the configuration. -/
def discardAll (l : Link) (p w : Nat) (s : State) : Prop :=
  s.takes l → p ∈ s.commit.pend → w ∈ configWords → ∃ t, exec (.cfgDiscard l 0xFFFF) s = .next t ∧
    t.commit.pend = [] ∧ t.shadowReg (addrOf p w) = s.reg (addrOf p w) ∧ t.regs = s.refreshShown.regs
def viewSelects (l : Link) (r : Req) (s : State) : Prop :=
  s.takes l → s.fitted r.page.toNat = true → 8 ≤ r.word.toNat → wordHas r.page.toNat r.word.toNat .rws = true →
    wordHas r.page.toNat r.word.toNat .wo = false → s.viewActive l = false →
    ∃ t, exec (.read l r) s = .next t ∧ (t.link l).reply.data = s.shadowReg (addrOf r.page.toNat r.word.toNat)
def viewActiveCopy (l : Link) (r : Req) (s : State) : Prop :=
  s.takes l → s.fitted r.page.toNat = true → 8 ≤ r.word.toNat → wordHas r.page.toNat r.word.toNat .rws = true →
    wordHas r.page.toNat r.word.toNat .wo = false → s.viewActive l = true →
    ∃ t, exec (.read l r) s = .next t ∧ (t.link l).reply.data = s.reg (addrOf r.page.toNat r.word.toNat)
/-- R102: a word that is not tracked returns with STALE and REPEAT clear. -/
def untracked (l : Link) (r : Req) (s : State) : Prop :=
  s.takes l → (s.fitted r.page.toNat = false ∨ r.word.toNat < 0x60 ∨ 0xDF < r.word.toNat ∨
      wordHas r.page.toNat r.word.toNat .rc = true ∨ wordHas r.page.toNat r.word.toNat .w1c = true) →
    ∃ t, exec (.read l r) s = .next t ∧ bit (t.link l).reply.status 6 = false ∧ bit (t.link l).reply.status 5 = false
/-- R122, R124: what a commit that names THY may not hold. -/
def leadTooLong (l : Link) (r : Req) (s : State) : Prop :=
  s.takes l → s.commit.accepted = none → ((r.data = 3 ∧ 3 ∈ s.commit.pend) ∨ (r.data = 0xFFFF ∧ 3 ∈ s.committable l)) →
    3 * periodOf (s.after [3] F.THY_PERIOD_SEL) < s.after [3] F.THY_QUIET_LEAD →
    ∃ t, exec (.commit l r) s = .next t ∧ refusedWith t l 0x04 ∧ t.get F.CFG_RESULT_CODE = 1 ∧ t.commit = s.commit
def pwmWithoutM (l : Link) (r : Req) (s : State) : Prop :=
  s.takes l → s.commit.accepted = none → ((r.data = 3 ∧ 3 ∈ s.commit.pend) ∨ (r.data = 0xFFFF ∧ 3 ∈ s.committable l)) →
    s.after [3] F.THY_TRIG_SRC = 2 → s.hasM = false →
    ∃ t, exec (.commit l r) s = .next t ∧ refusedWith t l 0x04 ∧ t.get F.CFG_RESULT_CODE = 1 ∧ t.commit = s.commit
/-- R373: the frames with more than 16,000 mA in a row are counted. -/
def overCounted (x : FrameSample) (s : State) : Prop :=
  s.running = true → ∃ t, exec (.frameBoundary x) s = .next t ∧
    t.ls.overCount = if 16000 < t.get F.LSW_ITOT_MA then s.ls.overCount + 1 else 0
/-- R94: the check value of the CRC-8. -/
def crc8Check : Prop := crc8 [0x31, 0x32, 0x33, 0x34, 0x35, 0x36, 0x37, 0x38, 0x39] = 0xDF

/-! ### The whole machine -/

/-- The machine's own register files are canonical and every list has an entry for each die, axis, channel and slot. -/
def wellFormed (s : State) : Prop := s.filesWf = true ∧ s.shaped

/-- What reset leaves as the chapters give it: no supply yet, outputs off, no command waiting, the shadows equal to the delivered
configuration, delivery passwords (R88, R397), Bay delivered open with an empty log (R326), and every register the model gives no
value of its own at the Reset value of its field table. -/
def resetState : Prop :=
  State.reset.pending = [] ∧ State.reset.pwr.phase = .off ∧ State.reset.pins.propEn = false ∧ State.reset.pins.fltN = true ∧
    State.reset.shadow = [] ∧ State.reset.commit.accepted = none ∧ State.reset.commit.pend = [] ∧ State.reset.pw.pw = 0 ∧
    State.reset.spw.pw = 0 ∧ State.reset.on F.BAY_STAT_SEALED = false ∧ State.reset.bay.code = 0 ∧
    State.reset.get F.BAY_MCOUNT_COUNT = 0 ∧ State.reset.bay.log = [] ∧ State.reset.aut.anchor = [] ∧ State.reset.cyl.records = [] ∧
    ∀ a, a ∉ [0x0008, 0x000C, 0x000D, 0x000E, 0x0A80, 0x0A83] → State.reset.reg a = resetAt a

end Sys2Proof.Claims

open Sys2Proof Sys2Proof.Machine Host

/-! ### The statements -/

/-- A step takes the command at the front of the queue: the model of a block (log entry 5). -/
def Obligations.StepRunsFrontCommand : Prop :=
  ∀ (c : Instr) (rest : List Instr) (s : State), step { s with pending := c :: rest } = exec c { s with pending := rest }

/-- On an empty queue 1 µs passes, and no word spells a command (choices of the model, log entries 5 and 10). -/
def Obligations.EmptyQueueAndWords : Prop :=
  (∀ s : State, s.pending = [] → step s = .next { s with now := s.now + 1 }) ∧
  ∀ (s : State) (nbits w : Nat), decodeTableWord nbits w = none ∧ s.withFetchWord nbits w = s

/-- What reset leaves; the values of variant, identity and Bay parameters are the model's (log entries 2 and 3). -/
def Obligations.ResetState : Prop :=
  Sys2Proof.Claims.resetState

/-- At reset both register files are canonical and every list has its length. -/
def Obligations.ResetIsWellFormed : Prop :=
  Sys2Proof.Claims.wellFormed State.reset

/-- Every step keeps the register files canonical and every list at its length. -/
def Obligations.StepKeepsWellFormed : Prop :=
  ∀ s : State, Sys2Proof.Claims.wellFormed s → ∃ t, step s = .next t ∧ Sys2Proof.Claims.wellFormed t

/-- Every command answers a next state and leaves the queue; time runs forward except at a start-up. -/
def Obligations.EveryCommandCompletes : Prop :=
  ∀ (i : Instr) (s : State), ∃ t, exec i s = .next t ∧ t.pending = s.pending ∧
    ((∀ x, i ≠ .startQualified x) → s.now ≤ t.now)

/-- Frames: what each command may alter; everything else stays. -/
def Obligations.CommandFrames : Prop :=
  ∀ (i : Instr) (f : Frame) (s t : State), frameOf i = some f → (∀ l, commandLink i = some l → s.takes l) →
    exec i s = .next t → s.sameBut f t

/-- Commands of one die, axis, bridge or load-switch page leave the other instances of the block alone. -/
def Obligations.InstanceFrames : Prop :=
  ∀ (i : Instr) (p k : Nat) (s t : State) (a : Nat), instanceOf i = some (p, k) → (∀ l, commandLink i = some l → s.takes l) →
    exec i s = .next t → blockOf (a / 256) = p → a / 256 ≠ p + k → (p = 0x51 → a % 256 ≠ 1) → t.reg a = s.reg a

/-- Start-up: qualification, references of the dies, the store, the entry into RUN, the sampled address. Completed here, each clause
concluding that `exec` answers a next state: startQualified, mdieSettled, frameBoundary, mdieSettleTimeout, holdupStoreCharged,
holdupTimeout, enterRun, addrChange. -/
def Obligations.StartUp : Prop :=
  (∀ x s, Sys2Proof.Claims.startQualified x s) ∧
  (∀ k j s, Sys2Proof.Claims.mdieSettled k j s) ∧
  (∀ k s, Sys2Proof.Claims.lastDieSettled k s) ∧
  (∀ x s, Sys2Proof.Claims.firmwareVerified x s) ∧
  (∀ k s, Sys2Proof.Claims.mdieSettledInRun k s) ∧
  (∀ k j s, Sys2Proof.Claims.mdieSettleTimeout k j s) ∧
  (∀ s, Sys2Proof.Claims.holdupStoreCharged s) ∧
  (∀ s, Sys2Proof.Claims.holdupTimeout s) ∧
  (∀ x s, Sys2Proof.Claims.enterRun x s) ∧
  (∀ addr s, Sys2Proof.Claims.addrChange addr s)

/-- Supply events: LOW, PWR_WARN, PWR_FAIL, the reset of the C-die, VM_OK. Completed here, each clause concluding that `exec` answers a next
state: supplyLow, supplyLowClear, pwrWarn, pwrWarnClear, pwrFail, cdieReset, vmOkChange. -/
def Obligations.SupplyEvents : Prop :=
  (∀ s, Sys2Proof.Claims.supplyLow s) ∧
  (∀ s, Sys2Proof.Claims.supplyLowClear s) ∧
  (∀ s, Sys2Proof.Claims.pwrWarn s) ∧
  (∀ s, Sys2Proof.Claims.pwrWarnClear s) ∧
  (∀ s, Sys2Proof.Claims.pwrFail s) ∧
  (∀ s, Sys2Proof.Claims.cdieReset s) ∧
  (∀ ok s, Sys2Proof.Claims.vmOkChange ok s)

/-- A host reset, laying up, waking, and their refusals. Completed here, each clause concluding that `exec` answers a next state: hostReset,
layupEnter, layupWake, layupSupplyLost. -/
def Obligations.HostResetAndLaidUp : Prop :=
  (∀ l s, Sys2Proof.Claims.hostReset l s) ∧
  (∀ l key s, Sys2Proof.Claims.hostResetRefused l key s) ∧
  (∀ l s, Sys2Proof.Claims.layupEnter l s) ∧
  (∀ l key wakeN s, Sys2Proof.Claims.layupRefused l key wakeN s) ∧
  (∀ source s, Sys2Proof.Claims.layupWake source s) ∧
  (∀ s, Sys2Proof.Claims.layupSupplyLost s)

/-- Requests of every link: READ, NOP, BURST_READ, STATUS, unknown operations, SPI frame errors. Completed here, each clause concluding that
`exec` answers a next state: read, write, nop, burstRead, status, unknownOp, crcErrorFrame, spiNotReady. -/
def Obligations.LinkRequests : Prop :=
  (∀ l r s, Sys2Proof.Claims.read l r s) ∧
  (∀ l r s, Sys2Proof.Claims.absentPage l r s) ∧
  (∀ l r s, Sys2Proof.Claims.nop l r s) ∧
  (∀ l r s, Sys2Proof.Claims.burstRead l r s) ∧
  (∀ l r s, Sys2Proof.Claims.burstWords l r s) ∧
  (∀ l r s, Sys2Proof.Claims.status l r s) ∧
  (∀ l op rsv r s, Sys2Proof.Claims.unknownOp l op rsv r s) ∧
  (∀ page word a s, Sys2Proof.Claims.crcErrorFrame page word a s) ∧
  (∀ s, Sys2Proof.Claims.spiNotReady s)

/-- CAN FD ports: request frames, error states, bus-off, unsolicited STATUS frames. Completed here, each clause concluding that `exec` answers
a next state: canRequestFrame, canErrorPassive, canErrorActive, canBusOff, canBusoffRecovery, attnMessage, attnMsgWindowEnd. -/
def Obligations.CanPorts : Prop :=
  (∀ port f s, Sys2Proof.Claims.canRequestFrame port f s) ∧
  (∀ port f s, Sys2Proof.Claims.canFrameDropped port f s) ∧
  (∀ port tec recv s, Sys2Proof.Claims.canErrorPassive port tec recv s) ∧
  (∀ port tec recv s, Sys2Proof.Claims.canErrorActive port tec recv s) ∧
  (∀ port s, Sys2Proof.Claims.canBusOff port s) ∧
  (∀ port s, Sys2Proof.Claims.canBusoffRecovery port s) ∧
  (∀ port s, Sys2Proof.Claims.attnMessage port s) ∧
  (∀ port e s, Sys2Proof.Claims.attnMsgWindowEnd port e s)

/-- Writes to shadows, clamps, commits and their steps, discards, PCTL and IFLAG of a page. Completed here, each clause concluding that `exec`
answers a next state: write, commit, commitStep, pctlEn, pctlRst, iflagClear. -/
def Obligations.ShadowsAndCommits : Prop :=
  (∀ l r s, Sys2Proof.Claims.write l r s) ∧
  (∀ l r s, Sys2Proof.Claims.writeClamped l r s) ∧
  (∀ l r s, Sys2Proof.Claims.writeReadOnly l r s) ∧
  (∀ l r s, Sys2Proof.Claims.commit l r s) ∧
  (∀ l r p s, Sys2Proof.Claims.commitOne l r p s) ∧
  (∀ l r s, Sys2Proof.Claims.commitNoPage l r s) ∧
  (∀ l r s, Sys2Proof.Claims.commitBusy l r s) ∧
  (∀ l r s, Sys2Proof.Claims.commitEmpty l r s) ∧
  (∀ a s, Sys2Proof.Claims.commitStep a s) ∧
  (∀ l page en s, Sys2Proof.Claims.pctlEn l page en s) ∧
  (∀ l page s, Sys2Proof.Claims.pctlRst l page s) ∧
  (∀ l page s, Sys2Proof.Claims.pctlRefused l page s) ∧
  (∀ l page bits s, Sys2Proof.Claims.iflagClear l page bits s)

/-- The CFG password, unlocks and lockouts, and the operations an unlock protects. Completed here, each clause concluding that `exec` answers
a next state: cfgUnlock, unlockExpiry, lockoutEnd, cfgNewpw, cfgDefault. -/
def Obligations.PasswordsAndDefaults : Prop :=
  (∀ l pw s, Sys2Proof.Claims.cfgUnlock l pw s) ∧
  (∀ l pw s, Sys2Proof.Claims.cfgUnlockWrong l pw s) ∧
  (∀ l pw s, Sys2Proof.Claims.cfgUnlockLockedOut l pw s) ∧
  (∀ l saf e s, Sys2Proof.Claims.unlockExpiry l saf e s) ∧
  (∀ saf e s, Sys2Proof.Claims.lockoutEnd saf e s) ∧
  (∀ l pw s, Sys2Proof.Claims.cfgNewpw l pw s) ∧
  (∀ l v s, Sys2Proof.Claims.lockedLinkRefused l v s) ∧
  (∀ l p w s, Sys2Proof.Claims.cfgDefault l p w s)

/-- The firmware update: OPEN, data, VERIFY, ACTIVATE, ABANDON. Completed here, each clause concluding that `exec` answers a next state:
fwOpen, fwData, fwVerify, fwVerifyDone, fwActivate, fwAbandon. -/
def Obligations.FirmwareUpdate : Prop :=
  (∀ l s, Sys2Proof.Claims.fwOpen l s) ∧
  (∀ l v s, Sys2Proof.Claims.fwData l v s) ∧
  (∀ l s, Sys2Proof.Claims.fwVerify l s) ∧
  (∀ pass version s, Sys2Proof.Claims.fwVerifyDone pass version s) ∧
  (∀ l s, Sys2Proof.Claims.fwActivate l s) ∧
  (∀ l s, Sys2Proof.Claims.fwAbandon l s)

/-- Frame boundaries, mid-frame samples, the quiet lead, servo ticks, scans, triggers, saves, evaluations. Completed here, each clause
concluding that `exec` answers a next state: frameBoundary, midFrameSample, quietLead, servoTick, auxScan, syncInEdge, syncMiss,
periodicSave, firmwareEval. -/
def Obligations.FrameTiming : Prop :=
  (∀ x k i s, Sys2Proof.Claims.frameBoundary x k i s) ∧
  (∀ x s, Sys2Proof.Claims.idleBoundary x s) ∧
  (∀ xs k i s, Sys2Proof.Claims.midFrameSample xs k i s) ∧
  (∀ k s, Sys2Proof.Claims.quietLead k s) ∧
  (∀ xs s, Sys2Proof.Claims.servoTick xs s) ∧
  (∀ xs k e s, Sys2Proof.Claims.auxScan xs k e s) ∧
  (∀ s, Sys2Proof.Claims.syncInEdge s) ∧
  (∀ s, Sys2Proof.Claims.syncMiss s) ∧
  (∀ k a s, Sys2Proof.Claims.periodicSave k a s) ∧
  (∀ s, Sys2Proof.Claims.firmwareEval s)

/-- The time base, the epoch, the crystal and the clock check. Completed here, each clause concluding that `exec` answers a next state:
timeLoRead, epochLoWrite, epochHiWrite, xtalLost, xtalRegained, clockCheckWindow. -/
def Obligations.TimeBase : Prop :=
  (∀ l s, Sys2Proof.Claims.timeLoRead l s) ∧
  (∀ l v s, Sys2Proof.Claims.epochLoWrite l v s) ∧
  (∀ l v s, Sys2Proof.Claims.epochHiWrite l v s) ∧
  (∀ s, Sys2Proof.Claims.xtalLost s) ∧
  (∀ s, Sys2Proof.Claims.xtalRegained s) ∧
  (∀ dev s, Sys2Proof.Claims.clockCheckWindow dev s)

/-- The stack link: strobe compensation, segments, dies lost, asleep, woken and regained. Completed here, each clause concluding that `exec`
answers a next state: strobeRecal, segmentDown, segmentRetrain, dieUnreachable, dieSleep, dieRejoin, dieWake. -/
def Obligations.StackLink : Prop :=
  (∀ delays k v s, Sys2Proof.Claims.strobeRecal delays k v s) ∧
  (∀ g s, Sys2Proof.Claims.segmentDown g s) ∧
  (∀ g delays k v s, Sys2Proof.Claims.segmentRetrain g delays k v s) ∧
  (∀ k e j s, Sys2Proof.Claims.dieUnreachable k e j s) ∧
  (∀ k e s, Sys2Proof.Claims.dieSleep k e s) ∧
  (∀ k s, Sys2Proof.Claims.dieRejoin k s) ∧
  (∀ k s, Sys2Proof.Claims.dieWake k s)

/-- Tap tests: sweeps, requests, windows, and what a test decides. Completed here, each clause concluding that `exec` answers a next state:
sweepStart, owRequest, tapTestStart, tapWindowEnd, tapTestDecide. -/
def Obligations.TapTests : Prop :=
  (∀ k s, Sys2Proof.Claims.sweepStart k s) ∧
  (∀ l k tap s, Sys2Proof.Claims.owRequest l k tap s) ∧
  (∀ l k tap s, Sys2Proof.Claims.owRequestRefused l k tap s) ∧
  (∀ k w rest s, Sys2Proof.Claims.tapTestStart k w rest s) ∧
  (∀ k j s, Sys2Proof.Claims.tapTestSweep k j s) ∧
  (∀ k x s, Sys2Proof.Claims.tapWindowEnd k x s) ∧
  (∀ up1 down1 up2 down2 spanBad incon, Sys2Proof.Claims.decides up1 down1 up2 down2 spanBad incon) ∧
  (∀ k x s, Sys2Proof.Claims.tapTestDecide k x s)

/-- Gated and absolute comparators, the fast overcurrent comparator, and their self-tests. Completed here, each clause concluding that `exec`
answers a next state: gatedEval, gatedTrip, absoluteTrip, comparatorSelfTest, fastOcTrip, ocSelfTest. -/
def Obligations.Comparators : Prop :=
  (∀ cells k i s, Sys2Proof.Claims.gatedEval cells k i s) ∧
  (∀ k i s, Sys2Proof.Claims.gatedTrip k i s) ∧
  (∀ k i v s, Sys2Proof.Claims.absoluteTrip k i v s) ∧
  (∀ failing k i c s, Sys2Proof.Claims.comparatorSelfTest failing k i c s) ∧
  (∀ u s, Sys2Proof.Claims.fastOcTrip u s) ∧
  (∀ pass s, Sys2Proof.Claims.ocSelfTest pass s)

/-- The fault line: fault channels, trip codes, returning carriers, and its release. Completed here, each clause concluding that `exec`
answers a next state: faultChannelLost, tripCode, carrierReturn, flclr. -/
def Obligations.FaultLine : Prop :=
  (∀ k coded s, Sys2Proof.Claims.faultChannelLost k coded s) ∧
  (∀ k code s, Sys2Proof.Claims.tripCode k code s) ∧
  (∀ k code s, Sys2Proof.Claims.tripCodeIgnored k code s) ∧
  (∀ k s, Sys2Proof.Claims.carrierReturn k s) ∧
  (∀ l s, Sys2Proof.Claims.flclr l s) ∧
  (∀ l key s, Sys2Proof.Claims.flclrRefused l key s)

/-- Balancing switches: on-times, switch faults, releases, learning. Completed here, each clause concluding that `exec` answers a next state:
balanceOnTimeEnd, switchStuck, switchOvercurrent, balanceOpenLoop, blSwclr, learnStart, learnAbort. -/
def Obligations.Balancing : Prop :=
  (∀ k i ton s, Sys2Proof.Claims.balanceOnTimeEnd k i ton s) ∧
  (∀ k i s, Sys2Proof.Claims.switchStuck k i s) ∧
  (∀ k i n p s, Sys2Proof.Claims.switchOvercurrent k i n p s) ∧
  (∀ k i s, Sys2Proof.Claims.balanceOpenLoop k i s) ∧
  (∀ l k c s, Sys2Proof.Claims.blSwclr l k c s) ∧
  (∀ l k s, Sys2Proof.Claims.blSwclrAll l k s) ∧
  (∀ l k c s, Sys2Proof.Claims.blSwclrRefused l k c s) ∧
  (∀ l k s, Sys2Proof.Claims.learnStart l k s) ∧
  (∀ l k s, Sys2Proof.Claims.learnRefused l k s) ∧
  (∀ l k s, Sys2Proof.Claims.learnAbort l k s)

/-- The current channels, zeroing, and the calibration of the string and link voltages. Completed here, each clause concluding that `exec`
answers a next state: currentSuspect, currentAgreed, curZero, zeroAutoStart, zeroingDone, stvCalStr, stvCalLnk, stvCalClear, stvCalDone. -/
def Obligations.CurrentAndVoltage : Prop :=
  (∀ s, Sys2Proof.Claims.currentSuspect s) ∧
  (∀ s, Sys2Proof.Claims.currentAgreed s) ∧
  (∀ l s, Sys2Proof.Claims.curZero l s) ∧
  (∀ l s, Sys2Proof.Claims.curZeroRefused l s) ∧
  (∀ e s, Sys2Proof.Claims.zeroAutoStart e s) ∧
  (∀ z s, Sys2Proof.Claims.zeroingDone z s) ∧
  (∀ l s, Sys2Proof.Claims.stvCalStr l s) ∧
  (∀ l s, Sys2Proof.Claims.stvCalStrRefused l s) ∧
  (∀ l s, Sys2Proof.Claims.stvCalLnk l s) ∧
  (∀ l s, Sys2Proof.Claims.stvCalLnkRefused l s) ∧
  (∀ l s, Sys2Proof.Claims.stvCalClear l s) ∧
  (∀ c s, Sys2Proof.Claims.stvCalDone c s)

/-- Sage steps, write-backs, open-circuit tables, selections and cell resets. Completed here, each clause concluding that `exec` answers a
next state: sageStep, writebackPeriod, sgeCmdWriteback, writebackStart, writebackDone, tableLoad, tableActivate, tbldataAccess,
sgcBankWrite, limZselWrite, sgcReset. -/
def Obligations.SageAndTables : Prop :=
  (∀ x y rest s, Sys2Proof.Claims.sageStep x y rest s) ∧
  (∀ s, Sys2Proof.Claims.writebackPeriod s) ∧
  (∀ l s, Sys2Proof.Claims.sgeCmdWriteback l s) ∧
  (∀ s, Sys2Proof.Claims.writebackStart s) ∧
  (∀ c s, Sys2Proof.Claims.writebackDone c s) ∧
  (∀ l s, Sys2Proof.Claims.tableLoad l s) ∧
  (∀ l s, Sys2Proof.Claims.tableActivate l s) ∧
  (∀ l s, Sys2Proof.Claims.tableRefused l s) ∧
  (∀ l v s, Sys2Proof.Claims.tbldataWrite l v s) ∧
  (∀ l s, Sys2Proof.Claims.tbldataRead l s) ∧
  (∀ l k s, Sys2Proof.Claims.sgcBankWrite l k s) ∧
  (∀ l cell ti si s, Sys2Proof.Claims.limZselWrite l cell ti si s) ∧
  (∀ l i j s, Sys2Proof.Claims.sgcReset l i j s) ∧
  (∀ l i s, Sys2Proof.Claims.sgcResetAll l i s)

/-- Commands to the contactors: CONNECT, DISCONNECT, charging, CLEAR, WELDCLR, and their refusals. Completed here, each clause concluding that
`exec` answers a next state: connect, disconnect, chargeOn, chargeOff, prtClear, weldclr. -/
def Obligations.ContactorCommands : Prop :=
  (∀ l s, Sys2Proof.Claims.connect l s) ∧
  (∀ l s, Sys2Proof.Claims.connectWaiting l s) ∧
  (∀ l s, Sys2Proof.Claims.connectRefused l s) ∧
  (∀ l s, Sys2Proof.Claims.disconnect l s) ∧
  (∀ l s, Sys2Proof.Claims.disconnectRefused l s) ∧
  (∀ l s, Sys2Proof.Claims.chargeOn l s) ∧
  (∀ l s, Sys2Proof.Claims.chargeOnRefused l s) ∧
  (∀ l s, Sys2Proof.Claims.chargeOff l s) ∧
  (∀ l s, Sys2Proof.Claims.chargeOffIdle l s) ∧
  (∀ l m s, Sys2Proof.Claims.prtClear l m s) ∧
  (∀ l s, Sys2Proof.Claims.weldclr l s) ∧
  (∀ l key m s, Sys2Proof.Claims.weldclrRefused l key m s)

/-- The closing sequence, its timeouts, contactor faults and welds. Completed here, each clause concluding that `exec` answers a next state:
pullInEnd, auxChange, prechargeTimeout, matchTimeout, prechargeOverlapEnd, prechargeCoolEnd, coilOvercurrent, coilCurrentFault,
auxCloseTimeout, auxOpenTimeout, cd1HoldEnd. -/
def Obligations.ClosingAndContactorFaults : Prop :=
  (∀ m e s, Sys2Proof.Claims.pullInEnd m e s) ∧
  (∀ m closed c s, Sys2Proof.Claims.auxChange m closed c s) ∧
  (∀ c t0 s, Sys2Proof.Claims.prechargeTimeout c t0 s) ∧
  (∀ c e s, Sys2Proof.Claims.matchTimeout c e s) ∧
  (∀ c e s, Sys2Proof.Claims.prechargeOverlapEnd c e s) ∧
  (∀ e s, Sys2Proof.Claims.prechargeCoolEnd e s) ∧
  (∀ m s, Sys2Proof.Claims.coilOvercurrent m s) ∧
  (∀ m s, Sys2Proof.Claims.coilCurrentFault m s) ∧
  (∀ m e s, Sys2Proof.Claims.auxCloseTimeout m e s) ∧
  (∀ m e s, Sys2Proof.Claims.auxOpenTimeout m e s) ∧
  (∀ c e f s, Sys2Proof.Claims.overlapContact c e f s) ∧
  (∀ o e s, Sys2Proof.Claims.cd1HoldEnd o e s)

/-- Deadlines and conditions of the orderly path, the limit frame, the end of charging. Completed here, each clause concluding that `exec`
answers a next state: deadlineExpiry, badChannelsOpen, suspectTimeExpiry, degradedCellExpiry, cellTempExpiry, limitFrame,
chargeOffTimeout, shoreDetChange. -/
def Obligations.OrderlyPath : Prop :=
  (∀ e m s, Sys2Proof.Claims.deadlineExpiry e m s) ∧
  (∀ e s, Sys2Proof.Claims.badChannelsOpen e s) ∧
  (∀ e s, Sys2Proof.Claims.suspectTimeExpiry e s) ∧
  (∀ k i e s, Sys2Proof.Claims.degradedCellExpiry k i e s) ∧
  (∀ k i e s, Sys2Proof.Claims.cellTempExpiry k i e s) ∧
  (∀ s, Sys2Proof.Claims.limitFrame s) ∧
  (∀ e s, Sys2Proof.Claims.chargeOffTimeout e s) ∧
  (∀ level s, Sys2Proof.Claims.shoreDetChange level s)

/-- The ring: members, duplicates, the head, waits for a grant, the system frame. Completed here, each clause concluding that `exec` answers a
next state: ringStatusMsg, memberLost, ringCycle, grantTimeout, systemFrame, cancel. -/
def Obligations.RingMembers : Prop :=
  (∀ m s, Sys2Proof.Claims.ringStatusMsg m s) ∧
  (∀ m s, Sys2Proof.Claims.ringMemberLeaves m s) ∧
  (∀ m s, Sys2Proof.Claims.ringDuplicate m s) ∧
  (∀ m s, Sys2Proof.Claims.memberLost m s) ∧
  (∀ s, Sys2Proof.Claims.ringCycle s) ∧
  (∀ e s, Sys2Proof.Claims.grantTimeout e s) ∧
  (∀ s, Sys2Proof.Claims.systemFrame s) ∧
  (∀ l s, Sys2Proof.Claims.cancel l s) ∧
  (∀ s, Sys2Proof.Claims.systemFrameWaits s)

/-- Mirror images, replacement and restore, adoption. Completed here, each clause concluding that `exec` answers a next state: mirrorReceived,
mirrorHeaderReply, adopt, adoptFetchDone, decline. -/
def Obligations.MirrorsAndAdoption : Prop :=
  (∀ source serial seq image s, Sys2Proof.Claims.mirrorReceived source serial seq image s) ∧
  (∀ source serial seq image s, Sys2Proof.Claims.mirrorFailed source serial seq image s) ∧
  (∀ serial s, Sys2Proof.Claims.mirrorHeaderReply serial s) ∧
  (∀ l s, Sys2Proof.Claims.adopt l s) ∧
  (∀ l s, Sys2Proof.Claims.adoptRefused l s) ∧
  (∀ m s, Sys2Proof.Claims.adoptFetchDone m s) ∧
  (∀ m s, Sys2Proof.Claims.adoptFetchFailed m s) ∧
  (∀ l s, Sys2Proof.Claims.decline l s)

/-- Module authentication: trust anchor, enrolment, rounds, slots. Completed here, each clause concluding that `exec` answers a next state:
installAnchor, enrol, write, authenticateAll, autPoll, slotAuthDone, autKeydataWrite, autSelWrite. -/
def Obligations.ModuleAuthentication : Prop :=
  (∀ l s, Sys2Proof.Claims.installAnchor l s) ∧
  (∀ l s, Sys2Proof.Claims.anchorRefused l s) ∧
  (∀ l ids j id s, Sys2Proof.Claims.enrol l ids j id s) ∧
  (∀ l j s, Sys2Proof.Claims.enrolPlain l j s) ∧
  (∀ l j s, Sys2Proof.Claims.authenticateAll l j s) ∧
  (∀ ids j s, Sys2Proof.Claims.autPoll ids j s) ∧
  (∀ j i x q s, Sys2Proof.Claims.slotAuthDone j i x q s) ∧
  (∀ j x s, Sys2Proof.Claims.slotDecision j x s) ∧
  (∀ l v s, Sys2Proof.Claims.autKeydataWrite l v s) ∧
  (∀ l j s, Sys2Proof.Claims.autSelWrite l j s)

/-- Lockstep mismatches, arbitration, resumption, self-tests, the watchdog, degraded time. Completed here, each clause concluding that `exec`
answers a next state: lockstepMismatch, arbitration, coreResume, selfTestSlice, watchdogExpiry, sramDoubleBitError, degradedTimeExpiry,
degradedTimeSave. -/
def Obligations.LockstepAndSelfTests : Prop :=
  (∀ a b j s, Sys2Proof.Claims.lockstepMismatch a b j s) ∧
  (∀ stA stB parA parB, Sys2Proof.Claims.arbitrates stA stB parA parB) ∧
  (∀ stA stB e j s, Sys2Proof.Claims.arbitration stA stB e j s) ∧
  (∀ e s, Sys2Proof.Claims.arbitrationLost e s) ∧
  (∀ len e m s, Sys2Proof.Claims.coreResume len e m s) ∧
  (∀ pass s, Sys2Proof.Claims.selfTestBegins pass s) ∧
  (∀ e s, Sys2Proof.Claims.selfTestSlice e s) ∧
  (∀ e s, Sys2Proof.Claims.selfTestFailed e s) ∧
  (∀ s, Sys2Proof.Claims.watchdogExpiry s) ∧
  (∀ s, Sys2Proof.Claims.sramDoubleBitError s) ∧
  (∀ e s, Sys2Proof.Claims.degradedTimeExpiry e s) ∧
  (∀ e s, Sys2Proof.Claims.degradedTimeSave e s)

/-- The leases of island 1 and the recovery of the MRAM port. Completed here, each clause concluding that `exec` answers a next state:
leaseAcquire, leaseRelease, leaseExpiry, mramRecoveryDone. -/
def Obligations.LeasesOfIslandOne : Prop :=
  (∀ j party s, Sys2Proof.Claims.leaseAcquire j party s) ∧
  (∀ j party s, Sys2Proof.Claims.leaseRelease j party s) ∧
  (∀ j s, Sys2Proof.Claims.leaseExpiry j s) ∧
  (∀ l h c p x s, Sys2Proof.Claims.mramRecoveryDone l h c p x s) ∧
  (∀ header party s, Sys2Proof.Claims.mramRolledForward header party s)

/-- Rosemary: records accepted, suppressed and dropped, flushes, rate windows. Completed here, each clause concluding that `exec` answers a
next state: recordAccept, flushPeriodic, flushStart, flushDone, rateWindowClose. -/
def Obligations.RosemaryRecords : Prop :=
  (∀ e rest s, Sys2Proof.Claims.recordAccept e rest s) ∧
  (∀ e rest n w s, Sys2Proof.Claims.recordSuppressed e rest n w s) ∧
  (∀ e rest s, Sys2Proof.Claims.recordDropped e rest s) ∧
  (∀ e rest s, Sys2Proof.Claims.recordWaits e rest s) ∧
  (∀ s, Sys2Proof.Claims.flushPeriodic s) ∧
  (∀ s, Sys2Proof.Claims.flushStart s) ∧
  (∀ s, Sys2Proof.Claims.flushWaits s) ∧
  (∀ s, Sys2Proof.Claims.flushDone s) ∧
  (∀ s, Sys2Proof.Claims.flushOverflow s) ∧
  (∀ s, Sys2Proof.Claims.flushClears s) ∧
  (∀ b s, Sys2Proof.Claims.rateWindowClose b s)

/-- Clearing Rosemary, snapshots, record selection, and the cycle ledger. Completed here, each clause concluding that `exec` answers a next
state: rsmClear, rsmSnapWrite, snapshotExpiry, rsmRdselWrite, cylRdselWrite, ledgerRecordWrite, cylAck. -/
def Obligations.SnapshotsAndLedger : Prop :=
  (∀ l s, Sys2Proof.Claims.rsmClear l s) ∧
  (∀ l s, Sys2Proof.Claims.rsmClearWaits l s) ∧
  (∀ l key s, Sys2Proof.Claims.rsmClearRefused l key s) ∧
  (∀ l hold s, Sys2Proof.Claims.rsmSnapWrite l hold s) ∧
  (∀ l n e s, Sys2Proof.Claims.snapshotExpiry l n e s) ∧
  (∀ l v s, Sys2Proof.Claims.rsmRdselWrite l v s) ∧
  (∀ l v s, Sys2Proof.Claims.cylRdselWrite l v s) ∧
  (∀ c rest s, Sys2Proof.Claims.ledgerRecordWrite c rest s) ∧
  (∀ c rest s, Sys2Proof.Claims.ledgerWaits c rest s) ∧
  (∀ c rest s, Sys2Proof.Claims.ledgerLost c rest s) ∧
  (∀ l v s, Sys2Proof.Claims.cylAck l v s) ∧
  (∀ l v s, Sys2Proof.Claims.cylAckRefused l v s)

/-- Bay: sample pairs, intervals, parameters, copies, sessions. Completed here, each clause concluding that `exec` answers a next state:
baySamplePair, bayPairLost, bayInterval, bayCopyWrite, bayAux3Change. -/
def Obligations.BayMetering : Prop :=
  (∀ n ui uv s, Sys2Proof.Claims.baySamplePair n ui uv s) ∧
  (∀ n ui uv s, Sys2Proof.Claims.bayPairCrc n ui uv s) ∧
  (∀ n ui uv s, Sys2Proof.Claims.bayPairEarly n ui uv s) ∧
  (∀ n s, Sys2Proof.Claims.bayPairLost n s) ∧
  (∀ s, Sys2Proof.Claims.bayInterval s) ∧
  (∀ p v s, Sys2Proof.Claims.bayParamTaken p v s) ∧
  (∀ s, Sys2Proof.Claims.bayCopyWrite s) ∧
  (∀ closed s, Sys2Proof.Claims.bayAux3Change closed s) ∧
  (∀ n ui uv u0 v0 s, Sys2Proof.Claims.bayPairAgain n ui uv u0 v0 s)

/-- Bay: messages turned away, one rule for every operation, the lockout. Completed here, each clause concluding that `exec` answers a next
state: bayMailboxReject, bayLockoutEnd. -/
def Obligations.BayMailboxTurnedAway : Prop :=
  (∀ m s, Sys2Proof.Claims.bayMailboxReject m s) ∧
  (∀ rest s, Sys2Proof.Claims.mailboxBreak rest s) ∧
  (∀ p rest s, Sys2Proof.Claims.mailboxSet p rest s) ∧
  (∀ rest s, Sys2Proof.Claims.mailboxSeal rest s) ∧
  (∀ rest s, Sys2Proof.Claims.mailboxImgOpen rest s) ∧
  (∀ rest s, Sys2Proof.Claims.mailboxImgData rest s) ∧
  (∀ rest version s, Sys2Proof.Claims.mailboxImgEnd rest version s) ∧
  (∀ e s, Sys2Proof.Claims.bayLockoutEnd e s)

/-- Bay: accepted messages: BREAK, SET, SEAL and the image operations. Completed here, each clause concluding that `exec` answers a next
state: bayBreak, baySet, baySeal, bayImgOpen, bayImgData, bayImgEnd. -/
def Obligations.BayMailboxAccepted : Prop :=
  (∀ a b c d s, Sys2Proof.Claims.bayBreak a b c d s) ∧
  (∀ p v b c d s, Sys2Proof.Claims.baySet p v b c d s) ∧
  (∀ v, Sys2Proof.Claims.paramRanges v) ∧
  (∀ code sid c d s, Sys2Proof.Claims.baySeal code sid c d s) ∧
  (∀ a b c d s, Sys2Proof.Claims.bayImgOpen a b c d s) ∧
  (∀ a b c d l s, Sys2Proof.Claims.bayImgData a b c d l s) ∧
  (∀ a b c d version l s, Sys2Proof.Claims.bayImgEnd a b c d version l s)

/-- Commands to an axis: MOVE, HOME, STOP, CLEAR, and their refusals. Completed here, each clause concluding that `exec` answers a next state:
move, home, axisStop, axisClear. -/
def Obligations.AxisCommands : Prop :=
  (∀ l a s, Sys2Proof.Claims.move l a s) ∧
  (∀ l a s, Sys2Proof.Claims.moveDeferred l a s) ∧
  (∀ l a c s, Sys2Proof.Claims.moveReplans l a c s) ∧
  (∀ l a s, Sys2Proof.Claims.moveRefused l a s) ∧
  (∀ l a s, Sys2Proof.Claims.home l a s) ∧
  (∀ l a s, Sys2Proof.Claims.homeRefused l a s) ∧
  (∀ l a c s, Sys2Proof.Claims.axisStop l a c s) ∧
  (∀ l a p s, Sys2Proof.Claims.axisStopWaiting l a p s) ∧
  (∀ l a s, Sys2Proof.Claims.axisStopAtRest l a s) ∧
  (∀ l a s, Sys2Proof.Claims.axisClear l a s) ∧
  (∀ l a s, Sys2Proof.Claims.axisClearRefused l a s) ∧
  (∀ l a c s, Sys2Proof.Claims.homeInMotion l a c s)

/-- Groups of axes and the stop of all axes. Completed here, each clause concluding that `exec` answers a next state: groupStart, groupStop,
stopAll, cycleStart. -/
def Obligations.AxisGroups : Prop :=
  (∀ l g a s, Sys2Proof.Claims.groupStart l g a s) ∧
  (∀ l g s, Sys2Proof.Claims.groupStartRefused l g s) ∧
  (∀ l g a c s, Sys2Proof.Claims.groupStop l g a c s) ∧
  (∀ l s, Sys2Proof.Claims.groupStopRefused l s) ∧
  (∀ l a c s, Sys2Proof.Claims.stopAll l a c s) ∧
  (∀ a m e d x s, Sys2Proof.Claims.groupCycle a m e d x s)

/-- Motion cycles: their starts, servo periods and ends, and the brakes at standstill. Completed here, each clause concluding that `exec`
answers a next state: cycleStart, cycleEnd, servoTick, setpointQueueEmpty, standstillDelay. -/
def Obligations.MotionCycles : Prop :=
  (∀ a e target s, Sys2Proof.Claims.cycleStart a e target s) ∧
  (∀ a p s, Sys2Proof.Claims.cycleWaits a p s) ∧
  (∀ a e target s, Sys2Proof.Claims.homingStart a e target s) ∧
  (∀ c, Sys2Proof.Claims.outcomes c) ∧
  (∀ a c s, Sys2Proof.Claims.cycleEnd a c s) ∧
  (∀ xs a c p q s, Sys2Proof.Claims.servoAxis xs a c p q s) ∧
  (∀ xs s, Sys2Proof.Claims.servoRoles xs s) ∧
  (∀ a c s, Sys2Proof.Claims.setpointQueueEmpty a c s) ∧
  (∀ a e s, Sys2Proof.Claims.standstillDelay a e s) ∧
  (∀ a b v c s, Sys2Proof.Claims.envelopeLearns a b v c s) ∧
  (∀ xs a c p q s, Sys2Proof.Claims.servoMissed xs a c p q s) ∧
  (∀ xs a c s, Sys2Proof.Claims.servoQueueEmpty xs a c s)

/-- Home points, stalls, obstacles, edges and limit switches. Completed here, each clause concluding that `exec` answers a next state:
homePoint, homingTimeout, stall, obstacle, edgeChange, edgeGapTimeout, limitSwitch. -/
def Obligations.HomingAndStops : Prop :=
  (∀ a c s, Sys2Proof.Claims.homePoint a c s) ∧
  (∀ a c s, Sys2Proof.Claims.homeIndex a c s) ∧
  (∀ a c s, Sys2Proof.Claims.homingTimeout a c s) ∧
  (∀ a c s, Sys2Proof.Claims.stall a c s) ∧
  (∀ a c s, Sys2Proof.Claims.stallHomes a c s) ∧
  (∀ a c s, Sys2Proof.Claims.obstacle a c s) ∧
  (∀ a c s, Sys2Proof.Claims.obstacleOutranked a c s) ∧
  (∀ e ohm a c s, Sys2Proof.Claims.edgeChange e ohm a c s) ∧
  (∀ e ohm s, Sys2Proof.Claims.edgeInGap e ohm s) ∧
  (∀ e w s, Sys2Proof.Claims.edgeGapTimeout e w s) ∧
  (∀ a c s, Sys2Proof.Claims.limitSwitch a c s)

/-- The command link to the G-die, and the commands to a bridge: SCTEST, RECOVER, pulses, live reads. Completed here, each clause concluding
that `exec` answers a next state: gdieFrame, gdieLinkLost, sctest, sctestDone, recover, gatePulse, gatePulseEnd, gdLiveRead. -/
def Obligations.GateCommands : Prop :=
  (∀ a sent s, Sys2Proof.Claims.gdieFrame a sent s) ∧
  (∀ a sent c s, Sys2Proof.Claims.gdieMiss a sent c s) ∧
  (∀ a s, Sys2Proof.Claims.gdieLinkLost a s) ∧
  (∀ l a s, Sys2Proof.Claims.sctest l a s) ∧
  (∀ l a s, Sys2Proof.Claims.sctestRefused l a s) ∧
  (∀ a st fails s, Sys2Proof.Claims.sctestDone a st fails s) ∧
  (∀ l a s, Sys2Proof.Claims.recover l a s) ∧
  (∀ l a s, Sys2Proof.Claims.recoverRefused l a s) ∧
  (∀ l a v s, Sys2Proof.Claims.gatePulse l a v s) ∧
  (∀ l a v s, Sys2Proof.Claims.gatePulseRefused l a v s) ∧
  (∀ a h vsw vbst w e d x s, Sys2Proof.Claims.gatePulseEnd a h vsw vbst w e d x s) ∧
  (∀ l a s, Sys2Proof.Claims.gdLiveRead l a s)

/-- Bridge faults: every one puts its axis into the safe state with its cause, and a latched cause stays. Completed here, each clause
concluding that `exec` answers a next state: shortCircuitTrip, handshakeTimeout, vmOutOfRange, vggUndervoltage, bootstrapUndervoltage,
supplyRelease. -/
def Obligations.BridgeFaults : Prop :=
  (∀ a c s, Sys2Proof.Claims.shortCircuitTrip a c s) ∧
  (∀ a s, Sys2Proof.Claims.handshakeTimeout a s) ∧
  (∀ high a s, Sys2Proof.Claims.vmOutOfRange high a s) ∧
  (∀ a s, Sys2Proof.Claims.vggUndervoltage a s) ∧
  (∀ a b s, Sys2Proof.Claims.bootstrapUndervoltage a b s) ∧
  (∀ a s, Sys2Proof.Claims.latchedKeeps a s) ∧
  (∀ s, Sys2Proof.Claims.supplyRelease s) ∧
  (∀ s, Sys2Proof.Claims.supplyGood s) ∧
  (∀ n s, Sys2Proof.Claims.bootstrapRelease n s) ∧
  (∀ a b s, Sys2Proof.Claims.bootstrapLowAtRest a b s)

/-- Qualification, drive steps, refresh episodes and the chopper. Completed here, each clause concluding that `exec` answers a next state:
qualification, qualificationDone, pwmPeriod, refreshEpisode, chopperOn, chopperOff, chopperLong. -/
def Obligations.BridgeService : Prop :=
  (∀ a s, Sys2Proof.Claims.qualification a s) ∧
  (∀ a s, Sys2Proof.Claims.qualificationAwaited a s) ∧
  (∀ a s, Sys2Proof.Claims.qualificationLatched a s) ∧
  (∀ a fails bst s, Sys2Proof.Claims.qualificationDone a fails bst s) ∧
  (∀ a fails bst s, Sys2Proof.Claims.qualificationCut a fails bst s) ∧
  (∀ a b hs s, Sys2Proof.Claims.pwmPeriod a b hs s) ∧
  (∀ a b bst s, Sys2Proof.Claims.refreshEpisode a b bst s) ∧
  (∀ a b bst s, Sys2Proof.Claims.refreshGoesOn a b bst s) ∧
  (∀ a b hs s, Sys2Proof.Claims.refreshPulse a b hs s) ∧
  (∀ s, Sys2Proof.Claims.chopperOn s) ∧
  (∀ s, Sys2Proof.Claims.chopperStaysOff s) ∧
  (∀ s, Sys2Proof.Claims.chopperOff s) ∧
  (∀ s, Sys2Proof.Claims.chopperLong s) ∧
  (∀ s, Sys2Proof.Claims.chopperLongOnce s)

/-- Load switches: commands, faults, zones, restarts. Completed here, each clause concluding that `exec` answers a next state: lsOutWrite,
lsClr, inrushEnd, limitTime, openLoadChange, zoneHot, zoneSecondCheck, zoneCool, zoneSensorFault, lsRestart, leftReload. -/
def Obligations.LoadSwitches : Prop :=
  (∀ l b v c s, Sys2Proof.Claims.lsOutWrite l b v c s) ∧
  (∀ l b v c s, Sys2Proof.Claims.lsOutRefused l b v c s) ∧
  (∀ l b v c s, Sys2Proof.Claims.lsClr l b v c s) ∧
  (∀ n s, Sys2Proof.Claims.inrushEnd n s) ∧
  (∀ n since s, Sys2Proof.Claims.limitTime n since s) ∧
  (∀ n since s, Sys2Proof.Claims.limitInInrush n since s) ∧
  (∀ n above s, Sys2Proof.Claims.openLoadChange n above s) ∧
  (∀ z even odd s, Sys2Proof.Claims.zoneHot z even odd s) ∧
  (∀ z n even odd s, Sys2Proof.Claims.zoneHotOne z n even odd s) ∧
  (∀ z n e s, Sys2Proof.Claims.zoneSecondCheck z n e s) ∧
  (∀ z n e s, Sys2Proof.Claims.zoneSecondCooler z n e s) ∧
  (∀ z s, Sys2Proof.Claims.zoneCool z s) ∧
  (∀ z n s, Sys2Proof.Claims.zoneSensorFault z n s) ∧
  (∀ n s, Sys2Proof.Claims.lsRestart n s) ∧
  (∀ n s, Sys2Proof.Claims.lsRestartLater n s) ∧
  (∀ n s, Sys2Proof.Claims.leftReload n s)

/-- Guards, the safe stop, and the brakes with their tests. Completed here, each clause concluding that `exec` answers a next state:
guardChange, safestopTimeout, brakeCurrentFault, brakeTestStart, brakeTestDone. -/
def Obligations.GuardsAndBrakes : Prop :=
  (∀ g closed s, Sys2Proof.Claims.guardChange g closed s) ∧
  (∀ g closed s, Sys2Proof.Claims.guardNoted g closed s) ∧
  (∀ g a s, Sys2Proof.Claims.safestopActs g a s) ∧
  (∀ a b s, Sys2Proof.Claims.safestopTimeout a b s) ∧
  (∀ b e s, Sys2Proof.Claims.brakeCurrentFault b e s) ∧
  (∀ b a s, Sys2Proof.Claims.brakeTestStart b a s) ∧
  (∀ b s, Sys2Proof.Claims.brakeTestWaits b s) ∧
  (∀ b a m1 m2 s, Sys2Proof.Claims.brakeTestDone b a m1 m2 s) ∧
  (∀ b a m1 m2 s, Sys2Proof.Claims.brakeNotTestable b a m1 m2 s) ∧
  (∀ b a m1 m2 s, Sys2Proof.Claims.brakeTestAborted b a m1 m2 s)

/-- Safety faults: pulses, read-backs, self-tests, degraded service and the latched safe state. Completed here, each clause concluding that
`exec` answers a next state: brakeSwitchPulse, propEnPulse, brakeEngagedReadback, safetySelfTestSlice, propEnReadback, propEnLow,
safetyDegradedExpiry. -/
def Obligations.SafetyFaults : Prop :=
  (∀ b side s, Sys2Proof.Claims.brakeSwitchPulse b side s) ∧
  (∀ sw s, Sys2Proof.Claims.propEnPulse sw s) ∧
  (∀ b side sw s, Sys2Proof.Claims.pulsesPass b side sw s) ∧
  (∀ b s, Sys2Proof.Claims.brakeEngagedReadback b s) ∧
  (∀ s, Sys2Proof.Claims.safetySelfTestSlice s) ∧
  (∀ s, Sys2Proof.Claims.selfTestPasses s) ∧
  (∀ high s, Sys2Proof.Claims.propEnReadback high s) ∧
  (∀ e s, Sys2Proof.Claims.propEnStuckHigh e s) ∧
  (∀ s, Sys2Proof.Claims.propEnLow s) ∧
  (∀ e b s, Sys2Proof.Claims.safetyDegradedExpiry e b s)

/-- The safety password and what it protects. Completed here, each clause concluding that `exec` answers a next state: testBrk0, testBrk1,
safNewpw, safUnlock. -/
def Obligations.SafetyAccess : Prop :=
  (∀ l s, Sys2Proof.Claims.testBrk0 l s) ∧
  (∀ l s, Sys2Proof.Claims.testBrk1 l s) ∧
  (∀ l pw s, Sys2Proof.Claims.safLockedRefused l pw s) ∧
  (∀ l pw s, Sys2Proof.Claims.safUnlock l pw s) ∧
  (∀ l pw s, Sys2Proof.Claims.safUnlockWrong l pw s) ∧
  (∀ l pw s, Sys2Proof.Claims.safNewpw l pw s)

/-- The safety link: received and sent PDUs, its watchdog. Completed here, each clause concluding that `exec` answers a next state:
safetyPduReceived, safetyPduSend, safetyWatchdogExpiry. -/
def Obligations.SafetyLink : Prop :=
  Sys2Proof.Claims.safetyCrcCheck ∧
  Sys2Proof.Claims.crc8Check ∧
  (∀ seq data s, Sys2Proof.Claims.safetyPduReceived seq data s) ∧
  (∀ fd bytes s, Sys2Proof.Claims.safetyPduFormat fd bytes s) ∧
  (∀ id seq data s, Sys2Proof.Claims.safetyPduForeign id seq data s) ∧
  (∀ s, Sys2Proof.Claims.safetyPduSend s) ∧
  (∀ e s, Sys2Proof.Claims.safetyPduDue e s) ∧
  (∀ e s, Sys2Proof.Claims.safetyWatchdogExpiry e s)

/-- Thermal evaluations, throttling, stops, power-downs, power cycles and pauses. Completed here, each clause concluding that `exec` answers a
next state: thermalEval, thermalPowerDown, diePowerCycle, tmpCmd, thermalPauseEnd. -/
def Obligations.ThermalManagement : Prop :=
  (∀ d x s, Sys2Proof.Claims.thermalEval d x s) ∧
  (∀ x n a c s, Sys2Proof.Claims.thermalStop x n a c s) ∧
  (∀ d x s, Sys2Proof.Claims.diodeFaulty d x s) ∧
  (∀ d x s, Sys2Proof.Claims.mdieEval d x s) ∧
  (∀ d x missing s, Sys2Proof.Claims.mdieAway d x missing s) ∧
  (∀ d x s, Sys2Proof.Claims.diodeMissing d x s) ∧
  (∀ x s, Sys2Proof.Claims.latchClears x s) ∧
  (∀ x s, Sys2Proof.Claims.latchStays x s) ∧
  (∀ d s, Sys2Proof.Claims.thermalPowerDown d s) ∧
  (∀ d e s, Sys2Proof.Claims.diePowerCycle d e s) ∧
  (∀ d s, Sys2Proof.Claims.noFourthCycle d s) ∧
  (∀ l d s, Sys2Proof.Claims.tmpCmd l d s) ∧
  (∀ l v s, Sys2Proof.Claims.tmpCmdRefused l v s) ∧
  (∀ e s, Sys2Proof.Claims.thermalPauseEnd e s) ∧
  (∀ e s, Sys2Proof.Claims.restartPauseEnd e s)

/-- What start-up, the settling of a die, and the holds and resumptions of the cores leave alone. Completed here, each clause concluding that
`exec` answers a next state: startQualified, mdieSettled, mdieSettleTimeout, arbitration, coreResume, selfTestSlice, watchdogExpiry,
sramDoubleBitError, leaseRelease, leaseExpiry, layupEnter. -/
def Obligations.FramesOfHolds : Prop :=
  (∀ x s, Sys2Proof.Claims.startFrame x s) ∧
  (∀ k j a s, Sys2Proof.Claims.settledFrame k j a s) ∧
  (∀ k j a s, Sys2Proof.Claims.notSettledFrame k j a s) ∧
  (∀ stA stB e a s, Sys2Proof.Claims.arbitrationFrame stA stB e a s) ∧
  (∀ e a s, Sys2Proof.Claims.lostFrame e a s) ∧
  (∀ len e m a s, Sys2Proof.Claims.resumeFrame len e m a s) ∧
  (∀ pass a s, Sys2Proof.Claims.sliceBeginFrame pass a s) ∧
  (∀ e a s, Sys2Proof.Claims.sliceFrame e a s) ∧
  (∀ e a s, Sys2Proof.Claims.failedSliceFrame e a s) ∧
  (∀ a s, Sys2Proof.Claims.watchdogFrame a s) ∧
  (∀ a s, Sys2Proof.Claims.doubleBitFrame a s) ∧
  (∀ j party a s, Sys2Proof.Claims.leaseReleaseFrame j party a s) ∧
  (∀ j a s, Sys2Proof.Claims.leaseExpiryFrame j a s) ∧
  (∀ l a s, Sys2Proof.Claims.layupFrame l a s)

/-- What requests that name any word, commit steps, adoptions and enrolments leave alone. Completed here, each clause concluding that `exec`
answers a next state: burstRead, write, commit, commitStep, pctlEn, pctlRst, tbldataAccess, adoptFetchDone, enrol. -/
def Obligations.FramesOfRequests : Prop :=
  (∀ l r a s, Sys2Proof.Claims.burstFrame l r a s) ∧
  (∀ l r a s, Sys2Proof.Claims.writeFrame l r a s) ∧
  (∀ l r a s, Sys2Proof.Claims.commitFrame l r a s) ∧
  (∀ c a s, Sys2Proof.Claims.stepFrame c a s) ∧
  (∀ p w v c s, Sys2Proof.Claims.stepApplies p w v c s) ∧
  (∀ l page a s, Sys2Proof.Claims.pctlEnFrame l page a s) ∧
  (∀ l page a s, Sys2Proof.Claims.pctlRstFrame l page a s) ∧
  (∀ l v a s, Sys2Proof.Claims.tblFrame l v a s) ∧
  (∀ m a s, Sys2Proof.Claims.adoptFrame m a s) ∧
  (∀ l ids a s, Sys2Proof.Claims.enrolFrame l ids a s)

/-- R70: a page that R69 does not list behaves as an absent page. Completed here, each clause concluding that `exec` answers a next state:
read, write. -/
def Obligations.UnmappedPages : Prop :=
  (∀ l r s, Sys2Proof.Claims.unmappedPage l r s)

/-- R6: the pages of a unit that is not fitted. Completed here, each clause concluding that `exec` answers a next state: read, write. -/
def Obligations.UnfittedUnits : Prop :=
  (∀ l r s, Sys2Proof.Claims.unfittedPage l r s)

/-- R81: CFG_DISCARD of one page and of every pending page, and CFG_VIEW. Completed here, each clause concluding that `exec` answers a next
state: cfgDiscard, read. -/
def Obligations.DiscardAndView : Prop :=
  (∀ l p s, Sys2Proof.Claims.cfgDiscard l p s) ∧
  (∀ l p w s, Sys2Proof.Claims.discardAll l p w s) ∧
  (∀ l r s, Sys2Proof.Claims.viewSelects l r s) ∧
  (∀ l r s, Sys2Proof.Claims.viewActiveCopy l r s)

/-- R102: words that are not tracked return with STALE and REPEAT clear. Completed here, each clause concluding that `exec` answers a next
state: read. -/
def Obligations.UntrackedWords : Prop :=
  (∀ l r s, Sys2Proof.Claims.untracked l r s)

/-- R122, R124: a commit of THY that fails its cross-field checks. Completed here, each clause concluding that `exec` answers a next state:
commit. -/
def Obligations.ThyCrossFieldChecks : Prop :=
  (∀ l r s, Sys2Proof.Claims.leadTooLong l r s) ∧
  (∀ l r s, Sys2Proof.Claims.pwmWithoutM l r s)

/-- R373: shedding above 16,000 mA in 100 consecutive frames. Completed here, each clause concluding that `exec` answers a next state:
frameBoundary, shed. -/
def Obligations.LoadShedding : Prop :=
  (∀ x s, Sys2Proof.Claims.overCounted x s) ∧
  (∀ n s, Sys2Proof.Claims.shed n s)

/-- R411: corrected ECC errors and their rate. Completed here, each clause concluding that `exec` answers a next state: eccCorrected. -/
def Obligations.CorrectedErrors : Prop :=
  (∀ mram s, Sys2Proof.Claims.eccCorrected mram s)
end

