-- ==== Sys2Proof/Laws/Registers.lean ====
section
/-! SUPPORT. Laws of the register files: what a store reads as, where it leaves the rest alone, and that it keeps the canonical
form. -/
namespace Sys2Proof.Machine

/-! ### Sparse lists -/

@[simp] theorem lookupReg_drop_same (a : Nat) (l : Regs) : lookupReg a (dropReg a l) = none := by
  induction l with
  | nil => rfl
  | cons e l ih =>
    obtain ⟨b, w⟩ := e
    by_cases h : a = b <;> simp [dropReg, lookupReg, h]
    · subst h; exact ih
    · exact ih

@[simp] theorem lookupReg_drop_other {a b : Nat} (h : b ≠ a) (l : Regs) : lookupReg b (dropReg a l) = lookupReg b l := by
  induction l with
  | nil => rfl
  | cons e l ih =>
    obtain ⟨c, w⟩ := e
    by_cases h1 : a = c
    · subst h1; simp [dropReg, lookupReg, h, ih]
    · by_cases h2 : b = c <;> simp [dropReg, lookupReg, h1, h2, ih]

theorem lookupReg_insert_same (a : Nat) (v : Word) (l : Regs) (h : lookupReg a l = none) :
    lookupReg a (insertReg a v l) = some v := by
  induction l with
  | nil => simp [insertReg, lookupReg]
  | cons e l ih =>
    obtain ⟨b, w⟩ := e
    by_cases h1 : a < b
    · simp [insertReg, lookupReg, h1]
    · by_cases h2 : a = b
      · simp [lookupReg, h2] at h
      · simp only [lookupReg, h2, if_false] at h
        simp [insertReg, lookupReg, h1, h2, ih h]

theorem lookupReg_insert_other {a b : Nat} (hb : b ≠ a) (v : Word) (l : Regs) :
    lookupReg b (insertReg a v l) = lookupReg b l := by
  induction l with
  | nil => simp [insertReg, lookupReg, hb]
  | cons e l ih =>
    obtain ⟨c, w⟩ := e
    by_cases h1 : a < c
    · simp [insertReg, lookupReg, h1, hb]
    · by_cases h2 : b = c <;> simp [insertReg, lookupReg, h1, h2, ih]

/-- A store reads back at its own address; a stored default is not listed. -/
theorem lookupReg_store_same (d : Word) (a : Nat) (v : Word) (l : Regs) :
    lookupReg a (storeReg d a v l) = if v = d then none else some v := by
  unfold storeReg
  split
  · simp
  · exact lookupReg_insert_same a v _ (by simp)

/-- A store leaves every other address alone. -/
theorem lookupReg_store_other {a b : Nat} (h : b ≠ a) (d : Word) (v : Word) (l : Regs) :
    lookupReg b (storeReg d a v l) = lookupReg b l := by
  unfold storeReg
  split
  · simp [h]
  · rw [lookupReg_insert_other h]; simp [h]

/-! ### The canonical form -/

theorem regsWf_tail {e : Nat × Word} {l : Regs} (h : regsWf (e :: l) = true) : regsWf l = true := by
  obtain ⟨a, v⟩ := e
  cases l with
  | nil => rfl
  | cons f l => obtain ⟨b, w⟩ := f; simp [regsWf] at h; exact h.2

/-- A canonical list holds no default at its head and rises from it. -/
theorem regsWf_cons {a : Nat} {v : Word} {l : Regs} :
    regsWf ((a, v) :: l) = true ↔ v ≠ resetAt a ∧ (∀ e ∈ l, a < e.1) ∧ regsWf l = true := by
  induction l generalizing a v with
  | nil => simp [regsWf]
  | cons f l ih =>
    obtain ⟨b, w⟩ := f
    constructor
    · intro h
      have h' := h
      simp only [regsWf, Bool.and_eq_true, bne_iff_ne, ne_eq, decide_eq_true_eq] at h'
      refine ⟨h'.1.1, ?_, h'.2⟩
      intro e he
      have := (ih.mp h'.2).2.1
      rcases List.mem_cons.mp he with rfl | he
      · exact h'.1.2
      · exact Nat.lt_trans h'.1.2 (this e he)
    · rintro ⟨h1, h2, h3⟩
      simp only [regsWf, Bool.and_eq_true, bne_iff_ne, ne_eq, decide_eq_true_eq]
      exact ⟨⟨h1, h2 (b, w) (by simp)⟩, h3⟩

theorem mem_dropReg {a : Nat} {e : Nat × Word} {l : Regs} (h : e ∈ dropReg a l) : e ∈ l ∧ e.1 ≠ a := by
  induction l with
  | nil => simp [dropReg] at h
  | cons f l ih =>
    obtain ⟨b, w⟩ := f
    by_cases hb : a = b
    · simp [dropReg, hb] at h
      subst hb
      exact ⟨List.mem_cons_of_mem _ (ih h).1, (ih h).2⟩
    · simp [dropReg, hb] at h
      rcases h with rfl | h
      · exact ⟨by simp, fun h => hb h.symm⟩
      · exact ⟨List.mem_cons_of_mem _ (ih h).1, (ih h).2⟩

theorem mem_insertReg {a : Nat} {v : Word} {e : Nat × Word} {l : Regs} (h : e ∈ insertReg a v l) : e = (a, v) ∨ e ∈ l := by
  induction l with
  | nil => simp [insertReg] at h; exact .inl h
  | cons f l ih =>
    obtain ⟨b, w⟩ := f
    by_cases hb : a < b
    · simp [insertReg, hb] at h; rcases h with h | h | h <;> simp [h]
    · simp [insertReg, hb] at h
      rcases h with h | h
      · simp [h]
      · rcases ih h with h | h <;> simp [h]

theorem regsWf_dropReg (a : Nat) {l : Regs} (h : regsWf l = true) : regsWf (dropReg a l) = true := by
  induction l with
  | nil => rfl
  | cons f l ih =>
    obtain ⟨b, w⟩ := f
    have h' := regsWf_cons.mp h
    by_cases hb : a = b
    · simp [dropReg, hb]; subst hb; exact ih h'.2.2
    · simp [dropReg, hb]
      exact regsWf_cons.mpr ⟨h'.1, fun e he => h'.2.1 e (mem_dropReg he).1, ih h'.2.2⟩

theorem regsWf_insertReg {a : Nat} {v : Word} {l : Regs} (hv : v ≠ resetAt a) (ha : ∀ e ∈ l, e.1 ≠ a)
    (h : regsWf l = true) : regsWf (insertReg a v l) = true := by
  induction l with
  | nil => simp [insertReg, regsWf, hv]
  | cons f l ih =>
    obtain ⟨b, w⟩ := f
    have h' := regsWf_cons.mp h
    by_cases hb : a < b
    · simp only [insertReg, hb, if_true]
      refine regsWf_cons.mpr ⟨hv, ?_, h⟩
      intro e he
      rcases List.mem_cons.mp he with rfl | he
      · exact hb
      · exact Nat.lt_trans hb (h'.2.1 e he)
    · simp only [insertReg, hb, if_false]
      have hne : b ≠ a := ha (b, w) (by simp)
      refine regsWf_cons.mpr ⟨h'.1, ?_, ih (fun e he => ha e (List.mem_cons_of_mem _ he)) h'.2.2⟩
      intro e he
      rcases mem_insertReg he with rfl | he
      · show b < a; omega
      · exact h'.2.1 e he

/-- A store keeps the canonical form. -/
theorem regsWf_store (a : Nat) (v : Word) {l : Regs} (h : regsWf l = true) : regsWf (storeReg (resetAt a) a v l) = true := by
  unfold storeReg
  split
  · exact regsWf_dropReg a h
  · rename_i hv
    exact regsWf_insertReg hv (fun e he => (mem_dropReg he).2) (regsWf_dropReg a h)

/-- Leaving entries out keeps the canonical form. -/
theorem regsWf_filter (p : Nat × Word → Bool) {l : Regs} (h : regsWf l = true) : regsWf (l.filter p) = true := by
  induction l with
  | nil => rfl
  | cons f l ih =>
    obtain ⟨b, w⟩ := f
    have h' := regsWf_cons.mp h
    by_cases hp : p (b, w) = true
    · rw [List.filter_cons_of_pos hp]
      exact regsWf_cons.mpr ⟨h'.1, fun e he => h'.2.1 e (List.mem_filter.mp he).1, ih h'.2.2⟩
    · rw [List.filter_cons_of_neg hp]; exact ih h'.2.2

/-! ### Words of a state -/

@[simp] theorem State.reg_setReg_same (s : State) (a : Nat) (v : Word) : (s.setReg a v).reg a = v := by
  simp only [State.reg, State.setReg, lookupReg_store_same]
  split <;> simp_all

theorem State.reg_setReg_other {a b : Nat} (h : b ≠ a) (s : State) (v : Word) : (s.setReg a v).reg b = s.reg b := by
  simp only [State.reg, State.setReg, lookupReg_store_other h]

theorem State.reg_setReg (s : State) (a b : Nat) (v : Word) : (s.setReg a v).reg b = if b = a then v else s.reg b := by
  split
  · rename_i h; subst h; simp
  · rename_i h; exact State.reg_setReg_other h s v

@[simp] theorem State.shadowReg_setReg (s : State) (a b : Nat) (v : Word) : (s.setReg a v).shadowReg b = s.shadowReg b := rfl

@[simp] theorem State.shadowReg_setShadow_same (s : State) (a : Nat) (v : Word) : (s.setShadow a v).shadowReg a = v := by
  simp only [State.shadowReg, State.setShadow, lookupReg_store_same]
  split <;> simp_all

theorem State.shadowReg_setShadow (s : State) (a b : Nat) (v : Word) :
    (s.setShadow a v).shadowReg b = if b = a then v else s.shadowReg b := by
  split
  · rename_i h; subst h; simp
  · rename_i h; simp only [State.shadowReg, State.setShadow, lookupReg_store_other h]

@[simp] theorem State.reg_setShadow (s : State) (a b : Nat) (v : Word) : (s.setShadow a v).reg b = s.reg b := rfl

/-! ### Bit fields -/

theorem bitsOf_lt (w : Word) (hi lo : Nat) : bitsOf w hi lo < 2 ^ (hi + 1 - lo) := Nat.mod_lt _ (Nat.two_pow_pos _)

/-- A number is its part below bit `lo`, the field of `n` bits at `lo`, and the rest. -/
theorem splitAt_field (x lo n : Nat) : x = x % 2 ^ lo + x / 2 ^ lo % 2 ^ n * 2 ^ lo + x / 2 ^ (lo + n) * 2 ^ (lo + n) := by
  have h1 := Nat.div_add_mod x (2 ^ lo)
  have h2 := Nat.div_add_mod (x / 2 ^ lo) (2 ^ n)
  rw [Nat.div_div_eq_div_mul, ← Nat.pow_add] at h2
  have h3 : 2 ^ lo * (2 ^ n * (x / 2 ^ (lo + n)) + x / 2 ^ lo % 2 ^ n) =
      x / 2 ^ lo % 2 ^ n * 2 ^ lo + x / 2 ^ (lo + n) * 2 ^ (lo + n) := by
    rw [Nat.pow_add]; ring
  rw [h2] at h3
  omega

/-- A word with a field replaced, as a number. -/
theorem withBits_toNat (w : Word) (hi lo v : Nat) (h : lo ≤ hi) (h32 : hi < 32) :
    (withBits w hi lo v).toNat =
      w.toNat % 2 ^ lo + v % 2 ^ (hi + 1 - lo) * 2 ^ lo + w.toNat / 2 ^ (hi + 1) * 2 ^ (hi + 1) := by
  have hsplit := splitAt_field w.toNat lo (hi + 1 - lo)
  have hlo : lo + (hi + 1 - lo) = hi + 1 := by omega
  rw [hlo] at hsplit
  have hv : v % 2 ^ (hi + 1 - lo) < 2 ^ (hi + 1 - lo) := Nat.mod_lt _ (Nat.two_pow_pos _)
  have hb : w.toNat % 2 ^ lo < 2 ^ lo := Nat.mod_lt _ (Nat.two_pow_pos _)
  have hw : w.toNat < 2 ^ 32 := w.isLt
  have e : w.toNat - bitsOf w hi lo * 2 ^ lo + v % 2 ^ (hi + 1 - lo) * 2 ^ lo =
      w.toNat % 2 ^ lo + v % 2 ^ (hi + 1 - lo) * 2 ^ lo + w.toNat / 2 ^ (hi + 1) * 2 ^ (hi + 1) := by
    unfold bitsOf; omega
  have hlow : w.toNat % 2 ^ lo + v % 2 ^ (hi + 1 - lo) * 2 ^ lo < 2 ^ (hi + 1) := by
    have : 2 ^ (hi + 1) = 2 ^ (hi + 1 - lo) * 2 ^ lo := by rw [← Nat.pow_add]; congr 1; omega
    rw [this]
    calc _ < 2 ^ lo + v % 2 ^ (hi + 1 - lo) * 2 ^ lo := by omega
      _ = (v % 2 ^ (hi + 1 - lo) + 1) * 2 ^ lo := by ring
      _ ≤ _ := Nat.mul_le_mul_right _ hv
  have htop : w.toNat / 2 ^ (hi + 1) * 2 ^ (hi + 1) + 2 ^ (hi + 1) ≤ 2 ^ 32 := by
    have h1 : w.toNat / 2 ^ (hi + 1) < 2 ^ (32 - (hi + 1)) := by
      rw [Nat.div_lt_iff_lt_mul (Nat.two_pow_pos _), ← Nat.pow_add]
      have : 32 - (hi + 1) + (hi + 1) = 32 := by omega
      rw [this]; exact hw
    calc _ = (w.toNat / 2 ^ (hi + 1) + 1) * 2 ^ (hi + 1) := by ring
      _ ≤ 2 ^ (32 - (hi + 1)) * 2 ^ (hi + 1) := Nat.mul_le_mul_right _ h1
      _ = 2 ^ 32 := by rw [← Nat.pow_add]; congr 1; omega
  unfold withBits
  rw [e, BitVec.toNat_ofNat, Nat.mod_eq_of_lt (by omega)]

/-- A field written reads back what fits in it. -/
theorem bitsOf_withBits (w : Word) (hi lo v : Nat) (h : lo ≤ hi) (h32 : hi < 32) :
    bitsOf (withBits w hi lo v) hi lo = v % 2 ^ (hi + 1 - lo) := by
  unfold bitsOf
  rw [withBits_toNat w hi lo v h h32]
  have hlo : hi + 1 = (hi + 1 - lo) + lo := by omega
  have e : w.toNat % 2 ^ lo + v % 2 ^ (hi + 1 - lo) * 2 ^ lo + w.toNat / 2 ^ (hi + 1) * 2 ^ (hi + 1) =
      w.toNat % 2 ^ lo + (v % 2 ^ (hi + 1 - lo) + w.toNat / 2 ^ (hi + 1) * 2 ^ (hi + 1 - lo)) * 2 ^ lo := by
    have hp : 2 ^ (hi + 1) = 2 ^ (hi + 1 - lo) * 2 ^ lo := by rw [← Nat.pow_add]; congr 1
    conv_lhs => rw [show w.toNat / 2 ^ (hi + 1) * 2 ^ (hi + 1) = w.toNat / 2 ^ (hi + 1) * 2 ^ (hi + 1 - lo) * 2 ^ lo by
      rw [Nat.mul_assoc, ← hp]]
    ring
  rw [e, Nat.add_mul_div_right _ _ (Nat.two_pow_pos _), Nat.div_eq_of_lt (Nat.mod_lt _ (Nat.two_pow_pos _)), Nat.zero_add,
    Nat.add_mul_mod_self_right, Nat.mod_mod]

/-- Writing a field leaves a field that lies apart from it alone. -/
theorem bitsOf_withBits_apart (w : Word) (hi lo v hi' lo' : Nat) (h : lo ≤ hi) (h32 : hi < 32)
    (hd : hi' < lo ∨ hi < lo') : bitsOf (withBits w hi lo v) hi' lo' = bitsOf w hi' lo' := by
  unfold bitsOf
  rw [withBits_toNat w hi lo v h h32]
  have hp : 2 ^ (hi + 1) = 2 ^ (hi + 1 - lo) * 2 ^ lo := by rw [← Nat.pow_add]; congr 1; omega
  rcases hd with hd | hd
  · by_cases hl : lo' ≤ hi'
    · have key : ∀ x : Nat, x / 2 ^ lo' % 2 ^ (hi' + 1 - lo') = x % 2 ^ lo / 2 ^ lo' % 2 ^ (hi' + 1 - lo') := by
        intro x
        have e1 : 2 ^ lo = 2 ^ lo' * 2 ^ (lo - lo') := by rw [← Nat.pow_add]; congr 1; omega
        rw [e1, Nat.mod_mul_right_div_self]
        have e2 : 2 ^ (lo - lo') = 2 ^ (hi' + 1 - lo') * 2 ^ (lo - hi' - 1) := by rw [← Nat.pow_add]; congr 1; omega
        rw [e2, Nat.mod_mul_right_mod]
      rw [key, key w.toNat]
      have e3 : w.toNat % 2 ^ lo + v % 2 ^ (hi + 1 - lo) * 2 ^ lo + w.toNat / 2 ^ (hi + 1) * 2 ^ (hi + 1) =
          w.toNat % 2 ^ lo + (v % 2 ^ (hi + 1 - lo) + w.toNat / 2 ^ (hi + 1) * 2 ^ (hi + 1 - lo)) * 2 ^ lo := by
        conv_lhs => rw [show w.toNat / 2 ^ (hi + 1) * 2 ^ (hi + 1) = w.toNat / 2 ^ (hi + 1) * 2 ^ (hi + 1 - lo) * 2 ^ lo by
          rw [Nat.mul_assoc, ← hp]]
        ring
      rw [e3, Nat.add_mul_mod_self_right, Nat.mod_mod]
    · have : hi' + 1 - lo' = 0 := by omega
      rw [this]; simp [Nat.mod_one]
  · have e1 : 2 ^ lo' = 2 ^ (hi + 1) * 2 ^ (lo' - (hi + 1)) := by rw [← Nat.pow_add]; congr 1; omega
    have hlow : w.toNat % 2 ^ lo + v % 2 ^ (hi + 1 - lo) * 2 ^ lo < 2 ^ (hi + 1) := by
      have hv : v % 2 ^ (hi + 1 - lo) < 2 ^ (hi + 1 - lo) := Nat.mod_lt _ (Nat.two_pow_pos _)
      have hb : w.toNat % 2 ^ lo < 2 ^ lo := Nat.mod_lt _ (Nat.two_pow_pos _)
      rw [hp]
      calc _ < 2 ^ lo + v % 2 ^ (hi + 1 - lo) * 2 ^ lo := by omega
        _ = (v % 2 ^ (hi + 1 - lo) + 1) * 2 ^ lo := by ring
        _ ≤ _ := Nat.mul_le_mul_right _ hv
    have e2 : (w.toNat % 2 ^ lo + v % 2 ^ (hi + 1 - lo) * 2 ^ lo + w.toNat / 2 ^ (hi + 1) * 2 ^ (hi + 1)) / 2 ^ (hi + 1) =
        w.toNat / 2 ^ (hi + 1) := by
      rw [Nat.add_mul_div_right _ _ (Nat.two_pow_pos _), Nat.div_eq_of_lt hlow, Nat.zero_add]
    rw [e1, ← Nat.div_div_eq_div_mul, ← Nat.div_div_eq_div_mul, e2]

end Sys2Proof.Machine
end

