-- ==== Sys2Proof/Laws/State.lean ====
section
/-! SUPPORT. One lemma per field of the state and update: the fields an update leaves alone. -/
namespace Sys2Proof.Machine


/-! ### setReg -/

@[simp] theorem State.setReg_now (s : State) (a : Nat) (v : Word) : (s.setReg a v).now = s.now := rfl
@[simp] theorem State.setReg_shadow (s : State) (a : Nat) (v : Word) : (s.setReg a v).shadow = s.shadow := rfl
@[simp] theorem State.setReg_published (s : State) (a : Nat) (v : Word) : (s.setReg a v).published = s.published := rfl
@[simp] theorem State.setReg_gdieDown (s : State) (a : Nat) (v : Word) : (s.setReg a v).gdieDown = s.gdieDown := rfl
@[simp] theorem State.setReg_pwr (s : State) (a : Nat) (v : Word) : (s.setReg a v).pwr = s.pwr := rfl
@[simp] theorem State.setReg_pins (s : State) (a : Nat) (v : Word) : (s.setReg a v).pins = s.pins := rfl
@[simp] theorem State.setReg_links (s : State) (a : Nat) (v : Word) : (s.setReg a v).links = s.links := rfl
@[simp] theorem State.setReg_commit (s : State) (a : Nat) (v : Word) : (s.setReg a v).commit = s.commit := rfl
@[simp] theorem State.setReg_pw (s : State) (a : Nat) (v : Word) : (s.setReg a v).pw = s.pw := rfl
@[simp] theorem State.setReg_spw (s : State) (a : Nat) (v : Word) : (s.setReg a v).spw = s.spw := rfl
@[simp] theorem State.setReg_fw (s : State) (a : Nat) (v : Word) : (s.setReg a v).fw = s.fw := rfl
@[simp] theorem State.setReg_thy (s : State) (a : Nat) (v : Word) : (s.setReg a v).thy = s.thy := rfl
@[simp] theorem State.setReg_stk (s : State) (a : Nat) (v : Word) : (s.setReg a v).stk = s.stk := rfl
@[simp] theorem State.setReg_rsm (s : State) (a : Nat) (v : Word) : (s.setReg a v).rsm = s.rsm := rfl
@[simp] theorem State.setReg_cyl (s : State) (a : Nat) (v : Word) : (s.setReg a v).cyl = s.cyl := rfl
@[simp] theorem State.setReg_flt (s : State) (a : Nat) (v : Word) : (s.setReg a v).flt = s.flt := rfl
@[simp] theorem State.setReg_dieSt (s : State) (a : Nat) (v : Word) : (s.setReg a v).dieSt = s.dieSt := rfl
@[simp] theorem State.setReg_line (s : State) (a : Nat) (v : Word) : (s.setReg a v).line = s.line := rfl
@[simp] theorem State.setReg_cur (s : State) (a : Nat) (v : Word) : (s.setReg a v).cur = s.cur := rfl
@[simp] theorem State.setReg_bay (s : State) (a : Nat) (v : Word) : (s.setReg a v).bay = s.bay := rfl
@[simp] theorem State.setReg_mot (s : State) (a : Nat) (v : Word) : (s.setReg a v).mot = s.mot := rfl
@[simp] theorem State.setReg_gate (s : State) (a : Nat) (v : Word) : (s.setReg a v).gate = s.gate := rfl
@[simp] theorem State.setReg_saf (s : State) (a : Nat) (v : Word) : (s.setReg a v).saf = s.saf := rfl
@[simp] theorem State.setReg_prot (s : State) (a : Nat) (v : Word) : (s.setReg a v).prot = s.prot := rfl
@[simp] theorem State.setReg_tmp (s : State) (a : Nat) (v : Word) : (s.setReg a v).tmp = s.tmp := rfl
@[simp] theorem State.setReg_ls (s : State) (a : Nat) (v : Word) : (s.setReg a v).ls = s.ls := rfl
@[simp] theorem State.setReg_sage (s : State) (a : Nat) (v : Word) : (s.setReg a v).sage = s.sage := rfl
@[simp] theorem State.setReg_ring (s : State) (a : Nat) (v : Word) : (s.setReg a v).ring = s.ring := rfl
@[simp] theorem State.setReg_aut (s : State) (a : Nat) (v : Word) : (s.setReg a v).aut = s.aut := rfl
@[simp] theorem State.setReg_saved (s : State) (a : Nat) (v : Word) : (s.setReg a v).saved = s.saved := rfl
@[simp] theorem State.setReg_journal (s : State) (a : Nat) (v : Word) : (s.setReg a v).journal = s.journal := rfl
@[simp] theorem State.setReg_ratios (s : State) (a : Nat) (v : Word) : (s.setReg a v).ratios = s.ratios := rfl
@[simp] theorem State.setReg_pending (s : State) (a : Nat) (v : Word) : (s.setReg a v).pending = s.pending := rfl

/-! ### setShadow -/

@[simp] theorem State.setShadow_now (s : State) (a : Nat) (v : Word) : (s.setShadow a v).now = s.now := rfl
@[simp] theorem State.setShadow_regs (s : State) (a : Nat) (v : Word) : (s.setShadow a v).regs = s.regs := rfl
@[simp] theorem State.setShadow_published (s : State) (a : Nat) (v : Word) : (s.setShadow a v).published = s.published := rfl
@[simp] theorem State.setShadow_gdieDown (s : State) (a : Nat) (v : Word) : (s.setShadow a v).gdieDown = s.gdieDown := rfl
@[simp] theorem State.setShadow_pwr (s : State) (a : Nat) (v : Word) : (s.setShadow a v).pwr = s.pwr := rfl
@[simp] theorem State.setShadow_pins (s : State) (a : Nat) (v : Word) : (s.setShadow a v).pins = s.pins := rfl
@[simp] theorem State.setShadow_links (s : State) (a : Nat) (v : Word) : (s.setShadow a v).links = s.links := rfl
@[simp] theorem State.setShadow_commit (s : State) (a : Nat) (v : Word) : (s.setShadow a v).commit = s.commit := rfl
@[simp] theorem State.setShadow_pw (s : State) (a : Nat) (v : Word) : (s.setShadow a v).pw = s.pw := rfl
@[simp] theorem State.setShadow_spw (s : State) (a : Nat) (v : Word) : (s.setShadow a v).spw = s.spw := rfl
@[simp] theorem State.setShadow_fw (s : State) (a : Nat) (v : Word) : (s.setShadow a v).fw = s.fw := rfl
@[simp] theorem State.setShadow_thy (s : State) (a : Nat) (v : Word) : (s.setShadow a v).thy = s.thy := rfl
@[simp] theorem State.setShadow_stk (s : State) (a : Nat) (v : Word) : (s.setShadow a v).stk = s.stk := rfl
@[simp] theorem State.setShadow_rsm (s : State) (a : Nat) (v : Word) : (s.setShadow a v).rsm = s.rsm := rfl
@[simp] theorem State.setShadow_cyl (s : State) (a : Nat) (v : Word) : (s.setShadow a v).cyl = s.cyl := rfl
@[simp] theorem State.setShadow_flt (s : State) (a : Nat) (v : Word) : (s.setShadow a v).flt = s.flt := rfl
@[simp] theorem State.setShadow_dieSt (s : State) (a : Nat) (v : Word) : (s.setShadow a v).dieSt = s.dieSt := rfl
@[simp] theorem State.setShadow_line (s : State) (a : Nat) (v : Word) : (s.setShadow a v).line = s.line := rfl
@[simp] theorem State.setShadow_cur (s : State) (a : Nat) (v : Word) : (s.setShadow a v).cur = s.cur := rfl
@[simp] theorem State.setShadow_bay (s : State) (a : Nat) (v : Word) : (s.setShadow a v).bay = s.bay := rfl
@[simp] theorem State.setShadow_mot (s : State) (a : Nat) (v : Word) : (s.setShadow a v).mot = s.mot := rfl
@[simp] theorem State.setShadow_gate (s : State) (a : Nat) (v : Word) : (s.setShadow a v).gate = s.gate := rfl
@[simp] theorem State.setShadow_saf (s : State) (a : Nat) (v : Word) : (s.setShadow a v).saf = s.saf := rfl
@[simp] theorem State.setShadow_prot (s : State) (a : Nat) (v : Word) : (s.setShadow a v).prot = s.prot := rfl
@[simp] theorem State.setShadow_tmp (s : State) (a : Nat) (v : Word) : (s.setShadow a v).tmp = s.tmp := rfl
@[simp] theorem State.setShadow_ls (s : State) (a : Nat) (v : Word) : (s.setShadow a v).ls = s.ls := rfl
@[simp] theorem State.setShadow_sage (s : State) (a : Nat) (v : Word) : (s.setShadow a v).sage = s.sage := rfl
@[simp] theorem State.setShadow_ring (s : State) (a : Nat) (v : Word) : (s.setShadow a v).ring = s.ring := rfl
@[simp] theorem State.setShadow_aut (s : State) (a : Nat) (v : Word) : (s.setShadow a v).aut = s.aut := rfl
@[simp] theorem State.setShadow_saved (s : State) (a : Nat) (v : Word) : (s.setShadow a v).saved = s.saved := rfl
@[simp] theorem State.setShadow_journal (s : State) (a : Nat) (v : Word) : (s.setShadow a v).journal = s.journal := rfl
@[simp] theorem State.setShadow_ratios (s : State) (a : Nat) (v : Word) : (s.setShadow a v).ratios = s.ratios := rfl
@[simp] theorem State.setShadow_pending (s : State) (a : Nat) (v : Word) : (s.setShadow a v).pending = s.pending := rfl

/-! ### publish -/

@[simp] theorem State.publish_now (s : State) (p : Nat) (q : Word) : (s.publish p q).now = s.now := by
  unfold State.publish; split <;> rfl
@[simp] theorem State.publish_shadow (s : State) (p : Nat) (q : Word) : (s.publish p q).shadow = s.shadow := by
  unfold State.publish; split <;> rfl
@[simp] theorem State.publish_gdieDown (s : State) (p : Nat) (q : Word) : (s.publish p q).gdieDown = s.gdieDown := by
  unfold State.publish; split <;> rfl
@[simp] theorem State.publish_pwr (s : State) (p : Nat) (q : Word) : (s.publish p q).pwr = s.pwr := by
  unfold State.publish; split <;> rfl
@[simp] theorem State.publish_pins (s : State) (p : Nat) (q : Word) : (s.publish p q).pins = s.pins := by
  unfold State.publish; split <;> rfl
@[simp] theorem State.publish_commit (s : State) (p : Nat) (q : Word) : (s.publish p q).commit = s.commit := by
  unfold State.publish; split <;> rfl
@[simp] theorem State.publish_pw (s : State) (p : Nat) (q : Word) : (s.publish p q).pw = s.pw := by
  unfold State.publish; split <;> rfl
@[simp] theorem State.publish_spw (s : State) (p : Nat) (q : Word) : (s.publish p q).spw = s.spw := by
  unfold State.publish; split <;> rfl
@[simp] theorem State.publish_fw (s : State) (p : Nat) (q : Word) : (s.publish p q).fw = s.fw := by
  unfold State.publish; split <;> rfl
@[simp] theorem State.publish_thy (s : State) (p : Nat) (q : Word) : (s.publish p q).thy = s.thy := by
  unfold State.publish; split <;> rfl
@[simp] theorem State.publish_stk (s : State) (p : Nat) (q : Word) : (s.publish p q).stk = s.stk := by
  unfold State.publish; split <;> rfl
@[simp] theorem State.publish_rsm (s : State) (p : Nat) (q : Word) : (s.publish p q).rsm = s.rsm := by
  unfold State.publish; split <;> rfl
@[simp] theorem State.publish_cyl (s : State) (p : Nat) (q : Word) : (s.publish p q).cyl = s.cyl := by
  unfold State.publish; split <;> rfl
@[simp] theorem State.publish_flt (s : State) (p : Nat) (q : Word) : (s.publish p q).flt = s.flt := by
  unfold State.publish; split <;> rfl
@[simp] theorem State.publish_dieSt (s : State) (p : Nat) (q : Word) : (s.publish p q).dieSt = s.dieSt := by
  unfold State.publish; split <;> rfl
@[simp] theorem State.publish_line (s : State) (p : Nat) (q : Word) : (s.publish p q).line = s.line := by
  unfold State.publish; split <;> rfl
@[simp] theorem State.publish_cur (s : State) (p : Nat) (q : Word) : (s.publish p q).cur = s.cur := by
  unfold State.publish; split <;> rfl
@[simp] theorem State.publish_bay (s : State) (p : Nat) (q : Word) : (s.publish p q).bay = s.bay := by
  unfold State.publish; split <;> rfl
@[simp] theorem State.publish_mot (s : State) (p : Nat) (q : Word) : (s.publish p q).mot = s.mot := by
  unfold State.publish; split <;> rfl
@[simp] theorem State.publish_gate (s : State) (p : Nat) (q : Word) : (s.publish p q).gate = s.gate := by
  unfold State.publish; split <;> rfl
@[simp] theorem State.publish_saf (s : State) (p : Nat) (q : Word) : (s.publish p q).saf = s.saf := by
  unfold State.publish; split <;> rfl
@[simp] theorem State.publish_prot (s : State) (p : Nat) (q : Word) : (s.publish p q).prot = s.prot := by
  unfold State.publish; split <;> rfl
@[simp] theorem State.publish_tmp (s : State) (p : Nat) (q : Word) : (s.publish p q).tmp = s.tmp := by
  unfold State.publish; split <;> rfl
@[simp] theorem State.publish_ls (s : State) (p : Nat) (q : Word) : (s.publish p q).ls = s.ls := by
  unfold State.publish; split <;> rfl
@[simp] theorem State.publish_sage (s : State) (p : Nat) (q : Word) : (s.publish p q).sage = s.sage := by
  unfold State.publish; split <;> rfl
@[simp] theorem State.publish_ring (s : State) (p : Nat) (q : Word) : (s.publish p q).ring = s.ring := by
  unfold State.publish; split <;> rfl
@[simp] theorem State.publish_aut (s : State) (p : Nat) (q : Word) : (s.publish p q).aut = s.aut := by
  unfold State.publish; split <;> rfl
@[simp] theorem State.publish_saved (s : State) (p : Nat) (q : Word) : (s.publish p q).saved = s.saved := by
  unfold State.publish; split <;> rfl
@[simp] theorem State.publish_journal (s : State) (p : Nat) (q : Word) : (s.publish p q).journal = s.journal := by
  unfold State.publish; split <;> rfl
@[simp] theorem State.publish_ratios (s : State) (p : Nat) (q : Word) : (s.publish p q).ratios = s.ratios := by
  unfold State.publish; split <;> rfl
@[simp] theorem State.publish_pending (s : State) (p : Nat) (q : Word) : (s.publish p q).pending = s.pending := by
  unfold State.publish; split <;> rfl

/-! ### put -/

@[simp] theorem State.put_now (s : State) (a : Nat) (v : Word) : (s.put a v).now = s.now := by
  unfold State.put; split
  · rfl
  · split <;> simp
@[simp] theorem State.put_shadow (s : State) (a : Nat) (v : Word) : (s.put a v).shadow = s.shadow := by
  unfold State.put; split
  · rfl
  · split <;> simp
@[simp] theorem State.put_gdieDown (s : State) (a : Nat) (v : Word) : (s.put a v).gdieDown = s.gdieDown := by
  unfold State.put; split
  · rfl
  · split <;> simp
@[simp] theorem State.put_pwr (s : State) (a : Nat) (v : Word) : (s.put a v).pwr = s.pwr := by
  unfold State.put; split
  · rfl
  · split <;> simp
@[simp] theorem State.put_pins (s : State) (a : Nat) (v : Word) : (s.put a v).pins = s.pins := by
  unfold State.put; split
  · rfl
  · split <;> simp
@[simp] theorem State.put_commit (s : State) (a : Nat) (v : Word) : (s.put a v).commit = s.commit := by
  unfold State.put; split
  · rfl
  · split <;> simp
@[simp] theorem State.put_pw (s : State) (a : Nat) (v : Word) : (s.put a v).pw = s.pw := by
  unfold State.put; split
  · rfl
  · split <;> simp
@[simp] theorem State.put_spw (s : State) (a : Nat) (v : Word) : (s.put a v).spw = s.spw := by
  unfold State.put; split
  · rfl
  · split <;> simp
@[simp] theorem State.put_fw (s : State) (a : Nat) (v : Word) : (s.put a v).fw = s.fw := by
  unfold State.put; split
  · rfl
  · split <;> simp
@[simp] theorem State.put_thy (s : State) (a : Nat) (v : Word) : (s.put a v).thy = s.thy := by
  unfold State.put; split
  · rfl
  · split <;> simp
@[simp] theorem State.put_stk (s : State) (a : Nat) (v : Word) : (s.put a v).stk = s.stk := by
  unfold State.put; split
  · rfl
  · split <;> simp
@[simp] theorem State.put_rsm (s : State) (a : Nat) (v : Word) : (s.put a v).rsm = s.rsm := by
  unfold State.put; split
  · rfl
  · split <;> simp
@[simp] theorem State.put_cyl (s : State) (a : Nat) (v : Word) : (s.put a v).cyl = s.cyl := by
  unfold State.put; split
  · rfl
  · split <;> simp
@[simp] theorem State.put_flt (s : State) (a : Nat) (v : Word) : (s.put a v).flt = s.flt := by
  unfold State.put; split
  · rfl
  · split <;> simp
@[simp] theorem State.put_dieSt (s : State) (a : Nat) (v : Word) : (s.put a v).dieSt = s.dieSt := by
  unfold State.put; split
  · rfl
  · split <;> simp
@[simp] theorem State.put_line (s : State) (a : Nat) (v : Word) : (s.put a v).line = s.line := by
  unfold State.put; split
  · rfl
  · split <;> simp
@[simp] theorem State.put_cur (s : State) (a : Nat) (v : Word) : (s.put a v).cur = s.cur := by
  unfold State.put; split
  · rfl
  · split <;> simp
@[simp] theorem State.put_bay (s : State) (a : Nat) (v : Word) : (s.put a v).bay = s.bay := by
  unfold State.put; split
  · rfl
  · split <;> simp
@[simp] theorem State.put_mot (s : State) (a : Nat) (v : Word) : (s.put a v).mot = s.mot := by
  unfold State.put; split
  · rfl
  · split <;> simp
@[simp] theorem State.put_gate (s : State) (a : Nat) (v : Word) : (s.put a v).gate = s.gate := by
  unfold State.put; split
  · rfl
  · split <;> simp
@[simp] theorem State.put_saf (s : State) (a : Nat) (v : Word) : (s.put a v).saf = s.saf := by
  unfold State.put; split
  · rfl
  · split <;> simp
@[simp] theorem State.put_prot (s : State) (a : Nat) (v : Word) : (s.put a v).prot = s.prot := by
  unfold State.put; split
  · rfl
  · split <;> simp
@[simp] theorem State.put_tmp (s : State) (a : Nat) (v : Word) : (s.put a v).tmp = s.tmp := by
  unfold State.put; split
  · rfl
  · split <;> simp
@[simp] theorem State.put_ls (s : State) (a : Nat) (v : Word) : (s.put a v).ls = s.ls := by
  unfold State.put; split
  · rfl
  · split <;> simp
@[simp] theorem State.put_sage (s : State) (a : Nat) (v : Word) : (s.put a v).sage = s.sage := by
  unfold State.put; split
  · rfl
  · split <;> simp
@[simp] theorem State.put_ring (s : State) (a : Nat) (v : Word) : (s.put a v).ring = s.ring := by
  unfold State.put; split
  · rfl
  · split <;> simp
@[simp] theorem State.put_aut (s : State) (a : Nat) (v : Word) : (s.put a v).aut = s.aut := by
  unfold State.put; split
  · rfl
  · split <;> simp
@[simp] theorem State.put_saved (s : State) (a : Nat) (v : Word) : (s.put a v).saved = s.saved := by
  unfold State.put; split
  · rfl
  · split <;> simp
@[simp] theorem State.put_journal (s : State) (a : Nat) (v : Word) : (s.put a v).journal = s.journal := by
  unfold State.put; split
  · rfl
  · split <;> simp
@[simp] theorem State.put_ratios (s : State) (a : Nat) (v : Word) : (s.put a v).ratios = s.ratios := by
  unfold State.put; split
  · rfl
  · split <;> simp
@[simp] theorem State.put_pending (s : State) (a : Nat) (v : Word) : (s.put a v).pending = s.pending := by
  unfold State.put; split
  · rfl
  · split <;> simp

/-! ### set -/

@[simp] theorem State.set_now (s : State) (f : Fld) (v : Nat) : (s.set f v).now = s.now := by simp [State.set]
@[simp] theorem State.set_shadow (s : State) (f : Fld) (v : Nat) : (s.set f v).shadow = s.shadow := by simp [State.set]
@[simp] theorem State.set_gdieDown (s : State) (f : Fld) (v : Nat) : (s.set f v).gdieDown = s.gdieDown := by simp [State.set]
@[simp] theorem State.set_pwr (s : State) (f : Fld) (v : Nat) : (s.set f v).pwr = s.pwr := by simp [State.set]
@[simp] theorem State.set_pins (s : State) (f : Fld) (v : Nat) : (s.set f v).pins = s.pins := by simp [State.set]
@[simp] theorem State.set_commit (s : State) (f : Fld) (v : Nat) : (s.set f v).commit = s.commit := by simp [State.set]
@[simp] theorem State.set_pw (s : State) (f : Fld) (v : Nat) : (s.set f v).pw = s.pw := by simp [State.set]
@[simp] theorem State.set_spw (s : State) (f : Fld) (v : Nat) : (s.set f v).spw = s.spw := by simp [State.set]
@[simp] theorem State.set_fw (s : State) (f : Fld) (v : Nat) : (s.set f v).fw = s.fw := by simp [State.set]
@[simp] theorem State.set_thy (s : State) (f : Fld) (v : Nat) : (s.set f v).thy = s.thy := by simp [State.set]
@[simp] theorem State.set_stk (s : State) (f : Fld) (v : Nat) : (s.set f v).stk = s.stk := by simp [State.set]
@[simp] theorem State.set_rsm (s : State) (f : Fld) (v : Nat) : (s.set f v).rsm = s.rsm := by simp [State.set]
@[simp] theorem State.set_cyl (s : State) (f : Fld) (v : Nat) : (s.set f v).cyl = s.cyl := by simp [State.set]
@[simp] theorem State.set_flt (s : State) (f : Fld) (v : Nat) : (s.set f v).flt = s.flt := by simp [State.set]
@[simp] theorem State.set_dieSt (s : State) (f : Fld) (v : Nat) : (s.set f v).dieSt = s.dieSt := by simp [State.set]
@[simp] theorem State.set_line (s : State) (f : Fld) (v : Nat) : (s.set f v).line = s.line := by simp [State.set]
@[simp] theorem State.set_cur (s : State) (f : Fld) (v : Nat) : (s.set f v).cur = s.cur := by simp [State.set]
@[simp] theorem State.set_bay (s : State) (f : Fld) (v : Nat) : (s.set f v).bay = s.bay := by simp [State.set]
@[simp] theorem State.set_mot (s : State) (f : Fld) (v : Nat) : (s.set f v).mot = s.mot := by simp [State.set]
@[simp] theorem State.set_gate (s : State) (f : Fld) (v : Nat) : (s.set f v).gate = s.gate := by simp [State.set]
@[simp] theorem State.set_saf (s : State) (f : Fld) (v : Nat) : (s.set f v).saf = s.saf := by simp [State.set]
@[simp] theorem State.set_prot (s : State) (f : Fld) (v : Nat) : (s.set f v).prot = s.prot := by simp [State.set]
@[simp] theorem State.set_tmp (s : State) (f : Fld) (v : Nat) : (s.set f v).tmp = s.tmp := by simp [State.set]
@[simp] theorem State.set_ls (s : State) (f : Fld) (v : Nat) : (s.set f v).ls = s.ls := by simp [State.set]
@[simp] theorem State.set_sage (s : State) (f : Fld) (v : Nat) : (s.set f v).sage = s.sage := by simp [State.set]
@[simp] theorem State.set_ring (s : State) (f : Fld) (v : Nat) : (s.set f v).ring = s.ring := by simp [State.set]
@[simp] theorem State.set_aut (s : State) (f : Fld) (v : Nat) : (s.set f v).aut = s.aut := by simp [State.set]
@[simp] theorem State.set_saved (s : State) (f : Fld) (v : Nat) : (s.set f v).saved = s.saved := by simp [State.set]
@[simp] theorem State.set_journal (s : State) (f : Fld) (v : Nat) : (s.set f v).journal = s.journal := by simp [State.set]
@[simp] theorem State.set_ratios (s : State) (f : Fld) (v : Nat) : (s.set f v).ratios = s.ratios := by simp [State.set]
@[simp] theorem State.set_pending (s : State) (f : Fld) (v : Nat) : (s.set f v).pending = s.pending := by simp [State.set]

/-! ### setInt -/

@[simp] theorem State.setInt_now (s : State) (f : Fld) (v : Int) : (s.setInt f v).now = s.now := by simp [State.setInt]
@[simp] theorem State.setInt_shadow (s : State) (f : Fld) (v : Int) : (s.setInt f v).shadow = s.shadow := by simp [State.setInt]
@[simp] theorem State.setInt_gdieDown (s : State) (f : Fld) (v : Int) : (s.setInt f v).gdieDown = s.gdieDown := by simp [State.setInt]
@[simp] theorem State.setInt_pwr (s : State) (f : Fld) (v : Int) : (s.setInt f v).pwr = s.pwr := by simp [State.setInt]
@[simp] theorem State.setInt_pins (s : State) (f : Fld) (v : Int) : (s.setInt f v).pins = s.pins := by simp [State.setInt]
@[simp] theorem State.setInt_commit (s : State) (f : Fld) (v : Int) : (s.setInt f v).commit = s.commit := by simp [State.setInt]
@[simp] theorem State.setInt_pw (s : State) (f : Fld) (v : Int) : (s.setInt f v).pw = s.pw := by simp [State.setInt]
@[simp] theorem State.setInt_spw (s : State) (f : Fld) (v : Int) : (s.setInt f v).spw = s.spw := by simp [State.setInt]
@[simp] theorem State.setInt_fw (s : State) (f : Fld) (v : Int) : (s.setInt f v).fw = s.fw := by simp [State.setInt]
@[simp] theorem State.setInt_thy (s : State) (f : Fld) (v : Int) : (s.setInt f v).thy = s.thy := by simp [State.setInt]
@[simp] theorem State.setInt_stk (s : State) (f : Fld) (v : Int) : (s.setInt f v).stk = s.stk := by simp [State.setInt]
@[simp] theorem State.setInt_rsm (s : State) (f : Fld) (v : Int) : (s.setInt f v).rsm = s.rsm := by simp [State.setInt]
@[simp] theorem State.setInt_cyl (s : State) (f : Fld) (v : Int) : (s.setInt f v).cyl = s.cyl := by simp [State.setInt]
@[simp] theorem State.setInt_flt (s : State) (f : Fld) (v : Int) : (s.setInt f v).flt = s.flt := by simp [State.setInt]
@[simp] theorem State.setInt_dieSt (s : State) (f : Fld) (v : Int) : (s.setInt f v).dieSt = s.dieSt := by simp [State.setInt]
@[simp] theorem State.setInt_line (s : State) (f : Fld) (v : Int) : (s.setInt f v).line = s.line := by simp [State.setInt]
@[simp] theorem State.setInt_cur (s : State) (f : Fld) (v : Int) : (s.setInt f v).cur = s.cur := by simp [State.setInt]
@[simp] theorem State.setInt_bay (s : State) (f : Fld) (v : Int) : (s.setInt f v).bay = s.bay := by simp [State.setInt]
@[simp] theorem State.setInt_mot (s : State) (f : Fld) (v : Int) : (s.setInt f v).mot = s.mot := by simp [State.setInt]
@[simp] theorem State.setInt_gate (s : State) (f : Fld) (v : Int) : (s.setInt f v).gate = s.gate := by simp [State.setInt]
@[simp] theorem State.setInt_saf (s : State) (f : Fld) (v : Int) : (s.setInt f v).saf = s.saf := by simp [State.setInt]
@[simp] theorem State.setInt_prot (s : State) (f : Fld) (v : Int) : (s.setInt f v).prot = s.prot := by simp [State.setInt]
@[simp] theorem State.setInt_tmp (s : State) (f : Fld) (v : Int) : (s.setInt f v).tmp = s.tmp := by simp [State.setInt]
@[simp] theorem State.setInt_ls (s : State) (f : Fld) (v : Int) : (s.setInt f v).ls = s.ls := by simp [State.setInt]
@[simp] theorem State.setInt_sage (s : State) (f : Fld) (v : Int) : (s.setInt f v).sage = s.sage := by simp [State.setInt]
@[simp] theorem State.setInt_ring (s : State) (f : Fld) (v : Int) : (s.setInt f v).ring = s.ring := by simp [State.setInt]
@[simp] theorem State.setInt_aut (s : State) (f : Fld) (v : Int) : (s.setInt f v).aut = s.aut := by simp [State.setInt]
@[simp] theorem State.setInt_saved (s : State) (f : Fld) (v : Int) : (s.setInt f v).saved = s.saved := by simp [State.setInt]
@[simp] theorem State.setInt_journal (s : State) (f : Fld) (v : Int) : (s.setInt f v).journal = s.journal := by simp [State.setInt]
@[simp] theorem State.setInt_ratios (s : State) (f : Fld) (v : Int) : (s.setInt f v).ratios = s.ratios := by simp [State.setInt]
@[simp] theorem State.setInt_pending (s : State) (f : Fld) (v : Int) : (s.setInt f v).pending = s.pending := by simp [State.setInt]

/-! ### setOn -/

@[simp] theorem State.setOn_now (s : State) (f : Fld) (b : Bool) : (s.setOn f b).now = s.now := by simp [State.setOn]
@[simp] theorem State.setOn_shadow (s : State) (f : Fld) (b : Bool) : (s.setOn f b).shadow = s.shadow := by simp [State.setOn]
@[simp] theorem State.setOn_gdieDown (s : State) (f : Fld) (b : Bool) : (s.setOn f b).gdieDown = s.gdieDown := by simp [State.setOn]
@[simp] theorem State.setOn_pwr (s : State) (f : Fld) (b : Bool) : (s.setOn f b).pwr = s.pwr := by simp [State.setOn]
@[simp] theorem State.setOn_pins (s : State) (f : Fld) (b : Bool) : (s.setOn f b).pins = s.pins := by simp [State.setOn]
@[simp] theorem State.setOn_commit (s : State) (f : Fld) (b : Bool) : (s.setOn f b).commit = s.commit := by simp [State.setOn]
@[simp] theorem State.setOn_pw (s : State) (f : Fld) (b : Bool) : (s.setOn f b).pw = s.pw := by simp [State.setOn]
@[simp] theorem State.setOn_spw (s : State) (f : Fld) (b : Bool) : (s.setOn f b).spw = s.spw := by simp [State.setOn]
@[simp] theorem State.setOn_fw (s : State) (f : Fld) (b : Bool) : (s.setOn f b).fw = s.fw := by simp [State.setOn]
@[simp] theorem State.setOn_thy (s : State) (f : Fld) (b : Bool) : (s.setOn f b).thy = s.thy := by simp [State.setOn]
@[simp] theorem State.setOn_stk (s : State) (f : Fld) (b : Bool) : (s.setOn f b).stk = s.stk := by simp [State.setOn]
@[simp] theorem State.setOn_rsm (s : State) (f : Fld) (b : Bool) : (s.setOn f b).rsm = s.rsm := by simp [State.setOn]
@[simp] theorem State.setOn_cyl (s : State) (f : Fld) (b : Bool) : (s.setOn f b).cyl = s.cyl := by simp [State.setOn]
@[simp] theorem State.setOn_flt (s : State) (f : Fld) (b : Bool) : (s.setOn f b).flt = s.flt := by simp [State.setOn]
@[simp] theorem State.setOn_dieSt (s : State) (f : Fld) (b : Bool) : (s.setOn f b).dieSt = s.dieSt := by simp [State.setOn]
@[simp] theorem State.setOn_line (s : State) (f : Fld) (b : Bool) : (s.setOn f b).line = s.line := by simp [State.setOn]
@[simp] theorem State.setOn_cur (s : State) (f : Fld) (b : Bool) : (s.setOn f b).cur = s.cur := by simp [State.setOn]
@[simp] theorem State.setOn_bay (s : State) (f : Fld) (b : Bool) : (s.setOn f b).bay = s.bay := by simp [State.setOn]
@[simp] theorem State.setOn_mot (s : State) (f : Fld) (b : Bool) : (s.setOn f b).mot = s.mot := by simp [State.setOn]
@[simp] theorem State.setOn_gate (s : State) (f : Fld) (b : Bool) : (s.setOn f b).gate = s.gate := by simp [State.setOn]
@[simp] theorem State.setOn_saf (s : State) (f : Fld) (b : Bool) : (s.setOn f b).saf = s.saf := by simp [State.setOn]
@[simp] theorem State.setOn_prot (s : State) (f : Fld) (b : Bool) : (s.setOn f b).prot = s.prot := by simp [State.setOn]
@[simp] theorem State.setOn_tmp (s : State) (f : Fld) (b : Bool) : (s.setOn f b).tmp = s.tmp := by simp [State.setOn]
@[simp] theorem State.setOn_ls (s : State) (f : Fld) (b : Bool) : (s.setOn f b).ls = s.ls := by simp [State.setOn]
@[simp] theorem State.setOn_sage (s : State) (f : Fld) (b : Bool) : (s.setOn f b).sage = s.sage := by simp [State.setOn]
@[simp] theorem State.setOn_ring (s : State) (f : Fld) (b : Bool) : (s.setOn f b).ring = s.ring := by simp [State.setOn]
@[simp] theorem State.setOn_aut (s : State) (f : Fld) (b : Bool) : (s.setOn f b).aut = s.aut := by simp [State.setOn]
@[simp] theorem State.setOn_saved (s : State) (f : Fld) (b : Bool) : (s.setOn f b).saved = s.saved := by simp [State.setOn]
@[simp] theorem State.setOn_journal (s : State) (f : Fld) (b : Bool) : (s.setOn f b).journal = s.journal := by simp [State.setOn]
@[simp] theorem State.setOn_ratios (s : State) (f : Fld) (b : Bool) : (s.setOn f b).ratios = s.ratios := by simp [State.setOn]
@[simp] theorem State.setOn_pending (s : State) (f : Fld) (b : Bool) : (s.setOn f b).pending = s.pending := by simp [State.setOn]

/-! ### count -/

@[simp] theorem State.count_now (s : State) (f : Fld) : (s.count f).now = s.now := by simp [State.count]
@[simp] theorem State.count_shadow (s : State) (f : Fld) : (s.count f).shadow = s.shadow := by simp [State.count]
@[simp] theorem State.count_gdieDown (s : State) (f : Fld) : (s.count f).gdieDown = s.gdieDown := by simp [State.count]
@[simp] theorem State.count_pwr (s : State) (f : Fld) : (s.count f).pwr = s.pwr := by simp [State.count]
@[simp] theorem State.count_pins (s : State) (f : Fld) : (s.count f).pins = s.pins := by simp [State.count]
@[simp] theorem State.count_commit (s : State) (f : Fld) : (s.count f).commit = s.commit := by simp [State.count]
@[simp] theorem State.count_pw (s : State) (f : Fld) : (s.count f).pw = s.pw := by simp [State.count]
@[simp] theorem State.count_spw (s : State) (f : Fld) : (s.count f).spw = s.spw := by simp [State.count]
@[simp] theorem State.count_fw (s : State) (f : Fld) : (s.count f).fw = s.fw := by simp [State.count]
@[simp] theorem State.count_thy (s : State) (f : Fld) : (s.count f).thy = s.thy := by simp [State.count]
@[simp] theorem State.count_stk (s : State) (f : Fld) : (s.count f).stk = s.stk := by simp [State.count]
@[simp] theorem State.count_rsm (s : State) (f : Fld) : (s.count f).rsm = s.rsm := by simp [State.count]
@[simp] theorem State.count_cyl (s : State) (f : Fld) : (s.count f).cyl = s.cyl := by simp [State.count]
@[simp] theorem State.count_flt (s : State) (f : Fld) : (s.count f).flt = s.flt := by simp [State.count]
@[simp] theorem State.count_dieSt (s : State) (f : Fld) : (s.count f).dieSt = s.dieSt := by simp [State.count]
@[simp] theorem State.count_line (s : State) (f : Fld) : (s.count f).line = s.line := by simp [State.count]
@[simp] theorem State.count_cur (s : State) (f : Fld) : (s.count f).cur = s.cur := by simp [State.count]
@[simp] theorem State.count_bay (s : State) (f : Fld) : (s.count f).bay = s.bay := by simp [State.count]
@[simp] theorem State.count_mot (s : State) (f : Fld) : (s.count f).mot = s.mot := by simp [State.count]
@[simp] theorem State.count_gate (s : State) (f : Fld) : (s.count f).gate = s.gate := by simp [State.count]
@[simp] theorem State.count_saf (s : State) (f : Fld) : (s.count f).saf = s.saf := by simp [State.count]
@[simp] theorem State.count_prot (s : State) (f : Fld) : (s.count f).prot = s.prot := by simp [State.count]
@[simp] theorem State.count_tmp (s : State) (f : Fld) : (s.count f).tmp = s.tmp := by simp [State.count]
@[simp] theorem State.count_ls (s : State) (f : Fld) : (s.count f).ls = s.ls := by simp [State.count]
@[simp] theorem State.count_sage (s : State) (f : Fld) : (s.count f).sage = s.sage := by simp [State.count]
@[simp] theorem State.count_ring (s : State) (f : Fld) : (s.count f).ring = s.ring := by simp [State.count]
@[simp] theorem State.count_aut (s : State) (f : Fld) : (s.count f).aut = s.aut := by simp [State.count]
@[simp] theorem State.count_saved (s : State) (f : Fld) : (s.count f).saved = s.saved := by simp [State.count]
@[simp] theorem State.count_journal (s : State) (f : Fld) : (s.count f).journal = s.journal := by simp [State.count]
@[simp] theorem State.count_ratios (s : State) (f : Fld) : (s.count f).ratios = s.ratios := by simp [State.count]
@[simp] theorem State.count_pending (s : State) (f : Fld) : (s.count f).pending = s.pending := by simp [State.count]

/-! ### flag -/

@[simp] theorem State.flag_now (s : State) (f : Fld) : (s.flag f).now = s.now := by simp [State.flag]
@[simp] theorem State.flag_shadow (s : State) (f : Fld) : (s.flag f).shadow = s.shadow := by simp [State.flag]
@[simp] theorem State.flag_gdieDown (s : State) (f : Fld) : (s.flag f).gdieDown = s.gdieDown := by simp [State.flag]
@[simp] theorem State.flag_pwr (s : State) (f : Fld) : (s.flag f).pwr = s.pwr := by simp [State.flag]
@[simp] theorem State.flag_pins (s : State) (f : Fld) : (s.flag f).pins = s.pins := by simp [State.flag]
@[simp] theorem State.flag_commit (s : State) (f : Fld) : (s.flag f).commit = s.commit := by simp [State.flag]
@[simp] theorem State.flag_pw (s : State) (f : Fld) : (s.flag f).pw = s.pw := by simp [State.flag]
@[simp] theorem State.flag_spw (s : State) (f : Fld) : (s.flag f).spw = s.spw := by simp [State.flag]
@[simp] theorem State.flag_fw (s : State) (f : Fld) : (s.flag f).fw = s.fw := by simp [State.flag]
@[simp] theorem State.flag_thy (s : State) (f : Fld) : (s.flag f).thy = s.thy := by simp [State.flag]
@[simp] theorem State.flag_stk (s : State) (f : Fld) : (s.flag f).stk = s.stk := by simp [State.flag]
@[simp] theorem State.flag_rsm (s : State) (f : Fld) : (s.flag f).rsm = s.rsm := by simp [State.flag]
@[simp] theorem State.flag_cyl (s : State) (f : Fld) : (s.flag f).cyl = s.cyl := by simp [State.flag]
@[simp] theorem State.flag_flt (s : State) (f : Fld) : (s.flag f).flt = s.flt := by simp [State.flag]
@[simp] theorem State.flag_dieSt (s : State) (f : Fld) : (s.flag f).dieSt = s.dieSt := by simp [State.flag]
@[simp] theorem State.flag_line (s : State) (f : Fld) : (s.flag f).line = s.line := by simp [State.flag]
@[simp] theorem State.flag_cur (s : State) (f : Fld) : (s.flag f).cur = s.cur := by simp [State.flag]
@[simp] theorem State.flag_bay (s : State) (f : Fld) : (s.flag f).bay = s.bay := by simp [State.flag]
@[simp] theorem State.flag_mot (s : State) (f : Fld) : (s.flag f).mot = s.mot := by simp [State.flag]
@[simp] theorem State.flag_gate (s : State) (f : Fld) : (s.flag f).gate = s.gate := by simp [State.flag]
@[simp] theorem State.flag_saf (s : State) (f : Fld) : (s.flag f).saf = s.saf := by simp [State.flag]
@[simp] theorem State.flag_prot (s : State) (f : Fld) : (s.flag f).prot = s.prot := by simp [State.flag]
@[simp] theorem State.flag_tmp (s : State) (f : Fld) : (s.flag f).tmp = s.tmp := by simp [State.flag]
@[simp] theorem State.flag_ls (s : State) (f : Fld) : (s.flag f).ls = s.ls := by simp [State.flag]
@[simp] theorem State.flag_sage (s : State) (f : Fld) : (s.flag f).sage = s.sage := by simp [State.flag]
@[simp] theorem State.flag_ring (s : State) (f : Fld) : (s.flag f).ring = s.ring := by simp [State.flag]
@[simp] theorem State.flag_aut (s : State) (f : Fld) : (s.flag f).aut = s.aut := by simp [State.flag]
@[simp] theorem State.flag_saved (s : State) (f : Fld) : (s.flag f).saved = s.saved := by simp [State.flag]
@[simp] theorem State.flag_journal (s : State) (f : Fld) : (s.flag f).journal = s.journal := by simp [State.flag]
@[simp] theorem State.flag_ratios (s : State) (f : Fld) : (s.flag f).ratios = s.ratios := by simp [State.flag]
@[simp] theorem State.flag_pending (s : State) (f : Fld) : (s.flag f).pending = s.pending := by simp [State.flag]

/-! ### send -/

@[simp] theorem State.send_now (s : State) (e : Event) : (s.send e).now = s.now := rfl
@[simp] theorem State.send_regs (s : State) (e : Event) : (s.send e).regs = s.regs := rfl
@[simp] theorem State.send_shadow (s : State) (e : Event) : (s.send e).shadow = s.shadow := rfl
@[simp] theorem State.send_published (s : State) (e : Event) : (s.send e).published = s.published := rfl
@[simp] theorem State.send_gdieDown (s : State) (e : Event) : (s.send e).gdieDown = s.gdieDown := rfl
@[simp] theorem State.send_pwr (s : State) (e : Event) : (s.send e).pwr = s.pwr := rfl
@[simp] theorem State.send_pins (s : State) (e : Event) : (s.send e).pins = s.pins := rfl
@[simp] theorem State.send_links (s : State) (e : Event) : (s.send e).links = s.links := rfl
@[simp] theorem State.send_commit (s : State) (e : Event) : (s.send e).commit = s.commit := rfl
@[simp] theorem State.send_pw (s : State) (e : Event) : (s.send e).pw = s.pw := rfl
@[simp] theorem State.send_spw (s : State) (e : Event) : (s.send e).spw = s.spw := rfl
@[simp] theorem State.send_fw (s : State) (e : Event) : (s.send e).fw = s.fw := rfl
@[simp] theorem State.send_thy (s : State) (e : Event) : (s.send e).thy = s.thy := rfl
@[simp] theorem State.send_stk (s : State) (e : Event) : (s.send e).stk = s.stk := rfl
@[simp] theorem State.send_cyl (s : State) (e : Event) : (s.send e).cyl = s.cyl := rfl
@[simp] theorem State.send_flt (s : State) (e : Event) : (s.send e).flt = s.flt := rfl
@[simp] theorem State.send_dieSt (s : State) (e : Event) : (s.send e).dieSt = s.dieSt := rfl
@[simp] theorem State.send_line (s : State) (e : Event) : (s.send e).line = s.line := rfl
@[simp] theorem State.send_cur (s : State) (e : Event) : (s.send e).cur = s.cur := rfl
@[simp] theorem State.send_bay (s : State) (e : Event) : (s.send e).bay = s.bay := rfl
@[simp] theorem State.send_mot (s : State) (e : Event) : (s.send e).mot = s.mot := rfl
@[simp] theorem State.send_gate (s : State) (e : Event) : (s.send e).gate = s.gate := rfl
@[simp] theorem State.send_saf (s : State) (e : Event) : (s.send e).saf = s.saf := rfl
@[simp] theorem State.send_prot (s : State) (e : Event) : (s.send e).prot = s.prot := rfl
@[simp] theorem State.send_tmp (s : State) (e : Event) : (s.send e).tmp = s.tmp := rfl
@[simp] theorem State.send_ls (s : State) (e : Event) : (s.send e).ls = s.ls := rfl
@[simp] theorem State.send_sage (s : State) (e : Event) : (s.send e).sage = s.sage := rfl
@[simp] theorem State.send_ring (s : State) (e : Event) : (s.send e).ring = s.ring := rfl
@[simp] theorem State.send_aut (s : State) (e : Event) : (s.send e).aut = s.aut := rfl
@[simp] theorem State.send_saved (s : State) (e : Event) : (s.send e).saved = s.saved := rfl
@[simp] theorem State.send_journal (s : State) (e : Event) : (s.send e).journal = s.journal := rfl
@[simp] theorem State.send_ratios (s : State) (e : Event) : (s.send e).ratios = s.ratios := rfl
@[simp] theorem State.send_pending (s : State) (e : Event) : (s.send e).pending = s.pending := rfl

/-! ### raise -/

@[simp] theorem State.raise_now (s : State) (p : Nat) (low : EventLow) (c src : Nat) (l : List Nat) : (s.raise p low c src l).now = s.now := rfl
@[simp] theorem State.raise_regs (s : State) (p : Nat) (low : EventLow) (c src : Nat) (l : List Nat) : (s.raise p low c src l).regs = s.regs := rfl
@[simp] theorem State.raise_shadow (s : State) (p : Nat) (low : EventLow) (c src : Nat) (l : List Nat) : (s.raise p low c src l).shadow = s.shadow := rfl
@[simp] theorem State.raise_published (s : State) (p : Nat) (low : EventLow) (c src : Nat) (l : List Nat) : (s.raise p low c src l).published = s.published := rfl
@[simp] theorem State.raise_gdieDown (s : State) (p : Nat) (low : EventLow) (c src : Nat) (l : List Nat) : (s.raise p low c src l).gdieDown = s.gdieDown := rfl
@[simp] theorem State.raise_pwr (s : State) (p : Nat) (low : EventLow) (c src : Nat) (l : List Nat) : (s.raise p low c src l).pwr = s.pwr := rfl
@[simp] theorem State.raise_pins (s : State) (p : Nat) (low : EventLow) (c src : Nat) (l : List Nat) : (s.raise p low c src l).pins = s.pins := rfl
@[simp] theorem State.raise_links (s : State) (p : Nat) (low : EventLow) (c src : Nat) (l : List Nat) : (s.raise p low c src l).links = s.links := rfl
@[simp] theorem State.raise_commit (s : State) (p : Nat) (low : EventLow) (c src : Nat) (l : List Nat) : (s.raise p low c src l).commit = s.commit := rfl
@[simp] theorem State.raise_pw (s : State) (p : Nat) (low : EventLow) (c src : Nat) (l : List Nat) : (s.raise p low c src l).pw = s.pw := rfl
@[simp] theorem State.raise_spw (s : State) (p : Nat) (low : EventLow) (c src : Nat) (l : List Nat) : (s.raise p low c src l).spw = s.spw := rfl
@[simp] theorem State.raise_fw (s : State) (p : Nat) (low : EventLow) (c src : Nat) (l : List Nat) : (s.raise p low c src l).fw = s.fw := rfl
@[simp] theorem State.raise_thy (s : State) (p : Nat) (low : EventLow) (c src : Nat) (l : List Nat) : (s.raise p low c src l).thy = s.thy := rfl
@[simp] theorem State.raise_stk (s : State) (p : Nat) (low : EventLow) (c src : Nat) (l : List Nat) : (s.raise p low c src l).stk = s.stk := rfl
@[simp] theorem State.raise_cyl (s : State) (p : Nat) (low : EventLow) (c src : Nat) (l : List Nat) : (s.raise p low c src l).cyl = s.cyl := rfl
@[simp] theorem State.raise_flt (s : State) (p : Nat) (low : EventLow) (c src : Nat) (l : List Nat) : (s.raise p low c src l).flt = s.flt := rfl
@[simp] theorem State.raise_dieSt (s : State) (p : Nat) (low : EventLow) (c src : Nat) (l : List Nat) : (s.raise p low c src l).dieSt = s.dieSt := rfl
@[simp] theorem State.raise_line (s : State) (p : Nat) (low : EventLow) (c src : Nat) (l : List Nat) : (s.raise p low c src l).line = s.line := rfl
@[simp] theorem State.raise_cur (s : State) (p : Nat) (low : EventLow) (c src : Nat) (l : List Nat) : (s.raise p low c src l).cur = s.cur := rfl
@[simp] theorem State.raise_bay (s : State) (p : Nat) (low : EventLow) (c src : Nat) (l : List Nat) : (s.raise p low c src l).bay = s.bay := rfl
@[simp] theorem State.raise_mot (s : State) (p : Nat) (low : EventLow) (c src : Nat) (l : List Nat) : (s.raise p low c src l).mot = s.mot := rfl
@[simp] theorem State.raise_gate (s : State) (p : Nat) (low : EventLow) (c src : Nat) (l : List Nat) : (s.raise p low c src l).gate = s.gate := rfl
@[simp] theorem State.raise_saf (s : State) (p : Nat) (low : EventLow) (c src : Nat) (l : List Nat) : (s.raise p low c src l).saf = s.saf := rfl
@[simp] theorem State.raise_prot (s : State) (p : Nat) (low : EventLow) (c src : Nat) (l : List Nat) : (s.raise p low c src l).prot = s.prot := rfl
@[simp] theorem State.raise_tmp (s : State) (p : Nat) (low : EventLow) (c src : Nat) (l : List Nat) : (s.raise p low c src l).tmp = s.tmp := rfl
@[simp] theorem State.raise_ls (s : State) (p : Nat) (low : EventLow) (c src : Nat) (l : List Nat) : (s.raise p low c src l).ls = s.ls := rfl
@[simp] theorem State.raise_sage (s : State) (p : Nat) (low : EventLow) (c src : Nat) (l : List Nat) : (s.raise p low c src l).sage = s.sage := rfl
@[simp] theorem State.raise_ring (s : State) (p : Nat) (low : EventLow) (c src : Nat) (l : List Nat) : (s.raise p low c src l).ring = s.ring := rfl
@[simp] theorem State.raise_aut (s : State) (p : Nat) (low : EventLow) (c src : Nat) (l : List Nat) : (s.raise p low c src l).aut = s.aut := rfl
@[simp] theorem State.raise_saved (s : State) (p : Nat) (low : EventLow) (c src : Nat) (l : List Nat) : (s.raise p low c src l).saved = s.saved := rfl
@[simp] theorem State.raise_journal (s : State) (p : Nat) (low : EventLow) (c src : Nat) (l : List Nat) : (s.raise p low c src l).journal = s.journal := rfl
@[simp] theorem State.raise_ratios (s : State) (p : Nat) (low : EventLow) (c src : Nat) (l : List Nat) : (s.raise p low c src l).ratios = s.ratios := rfl
@[simp] theorem State.raise_pending (s : State) (p : Nat) (low : EventLow) (c src : Nat) (l : List Nat) : (s.raise p low c src l).pending = s.pending := rfl

/-! ### flagEvent -/

@[simp] theorem State.flagEvent_now (s : State) (f : Fld) (c : Nat) (l : List Nat) : (s.flagEvent f c l).now = s.now := by
  simp [State.flagEvent]
@[simp] theorem State.flagEvent_shadow (s : State) (f : Fld) (c : Nat) (l : List Nat) : (s.flagEvent f c l).shadow = s.shadow := by
  simp [State.flagEvent]
@[simp] theorem State.flagEvent_gdieDown (s : State) (f : Fld) (c : Nat) (l : List Nat) : (s.flagEvent f c l).gdieDown = s.gdieDown := by
  simp [State.flagEvent]
@[simp] theorem State.flagEvent_pwr (s : State) (f : Fld) (c : Nat) (l : List Nat) : (s.flagEvent f c l).pwr = s.pwr := by
  simp [State.flagEvent]
@[simp] theorem State.flagEvent_pins (s : State) (f : Fld) (c : Nat) (l : List Nat) : (s.flagEvent f c l).pins = s.pins := by
  simp [State.flagEvent]
@[simp] theorem State.flagEvent_commit (s : State) (f : Fld) (c : Nat) (l : List Nat) : (s.flagEvent f c l).commit = s.commit := by
  simp [State.flagEvent]
@[simp] theorem State.flagEvent_pw (s : State) (f : Fld) (c : Nat) (l : List Nat) : (s.flagEvent f c l).pw = s.pw := by
  simp [State.flagEvent]
@[simp] theorem State.flagEvent_spw (s : State) (f : Fld) (c : Nat) (l : List Nat) : (s.flagEvent f c l).spw = s.spw := by
  simp [State.flagEvent]
@[simp] theorem State.flagEvent_fw (s : State) (f : Fld) (c : Nat) (l : List Nat) : (s.flagEvent f c l).fw = s.fw := by
  simp [State.flagEvent]
@[simp] theorem State.flagEvent_thy (s : State) (f : Fld) (c : Nat) (l : List Nat) : (s.flagEvent f c l).thy = s.thy := by
  simp [State.flagEvent]
@[simp] theorem State.flagEvent_stk (s : State) (f : Fld) (c : Nat) (l : List Nat) : (s.flagEvent f c l).stk = s.stk := by
  simp [State.flagEvent]
@[simp] theorem State.flagEvent_cyl (s : State) (f : Fld) (c : Nat) (l : List Nat) : (s.flagEvent f c l).cyl = s.cyl := by
  simp [State.flagEvent]
@[simp] theorem State.flagEvent_flt (s : State) (f : Fld) (c : Nat) (l : List Nat) : (s.flagEvent f c l).flt = s.flt := by
  simp [State.flagEvent]
@[simp] theorem State.flagEvent_dieSt (s : State) (f : Fld) (c : Nat) (l : List Nat) : (s.flagEvent f c l).dieSt = s.dieSt := by
  simp [State.flagEvent]
@[simp] theorem State.flagEvent_line (s : State) (f : Fld) (c : Nat) (l : List Nat) : (s.flagEvent f c l).line = s.line := by
  simp [State.flagEvent]
@[simp] theorem State.flagEvent_cur (s : State) (f : Fld) (c : Nat) (l : List Nat) : (s.flagEvent f c l).cur = s.cur := by
  simp [State.flagEvent]
@[simp] theorem State.flagEvent_bay (s : State) (f : Fld) (c : Nat) (l : List Nat) : (s.flagEvent f c l).bay = s.bay := by
  simp [State.flagEvent]
@[simp] theorem State.flagEvent_mot (s : State) (f : Fld) (c : Nat) (l : List Nat) : (s.flagEvent f c l).mot = s.mot := by
  simp [State.flagEvent]
@[simp] theorem State.flagEvent_gate (s : State) (f : Fld) (c : Nat) (l : List Nat) : (s.flagEvent f c l).gate = s.gate := by
  simp [State.flagEvent]
@[simp] theorem State.flagEvent_saf (s : State) (f : Fld) (c : Nat) (l : List Nat) : (s.flagEvent f c l).saf = s.saf := by
  simp [State.flagEvent]
@[simp] theorem State.flagEvent_prot (s : State) (f : Fld) (c : Nat) (l : List Nat) : (s.flagEvent f c l).prot = s.prot := by
  simp [State.flagEvent]
@[simp] theorem State.flagEvent_tmp (s : State) (f : Fld) (c : Nat) (l : List Nat) : (s.flagEvent f c l).tmp = s.tmp := by
  simp [State.flagEvent]
@[simp] theorem State.flagEvent_ls (s : State) (f : Fld) (c : Nat) (l : List Nat) : (s.flagEvent f c l).ls = s.ls := by
  simp [State.flagEvent]
@[simp] theorem State.flagEvent_sage (s : State) (f : Fld) (c : Nat) (l : List Nat) : (s.flagEvent f c l).sage = s.sage := by
  simp [State.flagEvent]
@[simp] theorem State.flagEvent_ring (s : State) (f : Fld) (c : Nat) (l : List Nat) : (s.flagEvent f c l).ring = s.ring := by
  simp [State.flagEvent]
@[simp] theorem State.flagEvent_aut (s : State) (f : Fld) (c : Nat) (l : List Nat) : (s.flagEvent f c l).aut = s.aut := by
  simp [State.flagEvent]
@[simp] theorem State.flagEvent_saved (s : State) (f : Fld) (c : Nat) (l : List Nat) : (s.flagEvent f c l).saved = s.saved := by
  simp [State.flagEvent]
@[simp] theorem State.flagEvent_journal (s : State) (f : Fld) (c : Nat) (l : List Nat) : (s.flagEvent f c l).journal = s.journal := by
  simp [State.flagEvent]
@[simp] theorem State.flagEvent_ratios (s : State) (f : Fld) (c : Nat) (l : List Nat) : (s.flagEvent f c l).ratios = s.ratios := by
  simp [State.flagEvent]
@[simp] theorem State.flagEvent_pending (s : State) (f : Fld) (c : Nat) (l : List Nat) : (s.flagEvent f c l).pending = s.pending := by
  simp [State.flagEvent]

/-! ### listed -/

@[simp] theorem State.listed_now (s : State) (p tag c : Nat) (l : List Nat) : (s.listed p tag c l).now = s.now := rfl
@[simp] theorem State.listed_regs (s : State) (p tag c : Nat) (l : List Nat) : (s.listed p tag c l).regs = s.regs := rfl
@[simp] theorem State.listed_shadow (s : State) (p tag c : Nat) (l : List Nat) : (s.listed p tag c l).shadow = s.shadow := rfl
@[simp] theorem State.listed_published (s : State) (p tag c : Nat) (l : List Nat) : (s.listed p tag c l).published = s.published := rfl
@[simp] theorem State.listed_gdieDown (s : State) (p tag c : Nat) (l : List Nat) : (s.listed p tag c l).gdieDown = s.gdieDown := rfl
@[simp] theorem State.listed_pwr (s : State) (p tag c : Nat) (l : List Nat) : (s.listed p tag c l).pwr = s.pwr := rfl
@[simp] theorem State.listed_pins (s : State) (p tag c : Nat) (l : List Nat) : (s.listed p tag c l).pins = s.pins := rfl
@[simp] theorem State.listed_links (s : State) (p tag c : Nat) (l : List Nat) : (s.listed p tag c l).links = s.links := rfl
@[simp] theorem State.listed_commit (s : State) (p tag c : Nat) (l : List Nat) : (s.listed p tag c l).commit = s.commit := rfl
@[simp] theorem State.listed_pw (s : State) (p tag c : Nat) (l : List Nat) : (s.listed p tag c l).pw = s.pw := rfl
@[simp] theorem State.listed_spw (s : State) (p tag c : Nat) (l : List Nat) : (s.listed p tag c l).spw = s.spw := rfl
@[simp] theorem State.listed_fw (s : State) (p tag c : Nat) (l : List Nat) : (s.listed p tag c l).fw = s.fw := rfl
@[simp] theorem State.listed_thy (s : State) (p tag c : Nat) (l : List Nat) : (s.listed p tag c l).thy = s.thy := rfl
@[simp] theorem State.listed_stk (s : State) (p tag c : Nat) (l : List Nat) : (s.listed p tag c l).stk = s.stk := rfl
@[simp] theorem State.listed_cyl (s : State) (p tag c : Nat) (l : List Nat) : (s.listed p tag c l).cyl = s.cyl := rfl
@[simp] theorem State.listed_flt (s : State) (p tag c : Nat) (l : List Nat) : (s.listed p tag c l).flt = s.flt := rfl
@[simp] theorem State.listed_dieSt (s : State) (p tag c : Nat) (l : List Nat) : (s.listed p tag c l).dieSt = s.dieSt := rfl
@[simp] theorem State.listed_line (s : State) (p tag c : Nat) (l : List Nat) : (s.listed p tag c l).line = s.line := rfl
@[simp] theorem State.listed_cur (s : State) (p tag c : Nat) (l : List Nat) : (s.listed p tag c l).cur = s.cur := rfl
@[simp] theorem State.listed_bay (s : State) (p tag c : Nat) (l : List Nat) : (s.listed p tag c l).bay = s.bay := rfl
@[simp] theorem State.listed_mot (s : State) (p tag c : Nat) (l : List Nat) : (s.listed p tag c l).mot = s.mot := rfl
@[simp] theorem State.listed_gate (s : State) (p tag c : Nat) (l : List Nat) : (s.listed p tag c l).gate = s.gate := rfl
@[simp] theorem State.listed_saf (s : State) (p tag c : Nat) (l : List Nat) : (s.listed p tag c l).saf = s.saf := rfl
@[simp] theorem State.listed_prot (s : State) (p tag c : Nat) (l : List Nat) : (s.listed p tag c l).prot = s.prot := rfl
@[simp] theorem State.listed_tmp (s : State) (p tag c : Nat) (l : List Nat) : (s.listed p tag c l).tmp = s.tmp := rfl
@[simp] theorem State.listed_ls (s : State) (p tag c : Nat) (l : List Nat) : (s.listed p tag c l).ls = s.ls := rfl
@[simp] theorem State.listed_sage (s : State) (p tag c : Nat) (l : List Nat) : (s.listed p tag c l).sage = s.sage := rfl
@[simp] theorem State.listed_ring (s : State) (p tag c : Nat) (l : List Nat) : (s.listed p tag c l).ring = s.ring := rfl
@[simp] theorem State.listed_aut (s : State) (p tag c : Nat) (l : List Nat) : (s.listed p tag c l).aut = s.aut := rfl
@[simp] theorem State.listed_saved (s : State) (p tag c : Nat) (l : List Nat) : (s.listed p tag c l).saved = s.saved := rfl
@[simp] theorem State.listed_journal (s : State) (p tag c : Nat) (l : List Nat) : (s.listed p tag c l).journal = s.journal := rfl
@[simp] theorem State.listed_ratios (s : State) (p tag c : Nat) (l : List Nat) : (s.listed p tag c l).ratios = s.ratios := rfl
@[simp] theorem State.listed_pending (s : State) (p tag c : Nat) (l : List Nat) : (s.listed p tag c l).pending = s.pending := rfl

/-! ### advanceTo -/

@[simp] theorem State.advanceTo_regs (s : State) (t : Nat) : (s.advanceTo t).regs = s.regs := rfl
@[simp] theorem State.advanceTo_shadow (s : State) (t : Nat) : (s.advanceTo t).shadow = s.shadow := rfl
@[simp] theorem State.advanceTo_published (s : State) (t : Nat) : (s.advanceTo t).published = s.published := rfl
@[simp] theorem State.advanceTo_gdieDown (s : State) (t : Nat) : (s.advanceTo t).gdieDown = s.gdieDown := rfl
@[simp] theorem State.advanceTo_pwr (s : State) (t : Nat) : (s.advanceTo t).pwr = s.pwr := rfl
@[simp] theorem State.advanceTo_pins (s : State) (t : Nat) : (s.advanceTo t).pins = s.pins := rfl
@[simp] theorem State.advanceTo_links (s : State) (t : Nat) : (s.advanceTo t).links = s.links := rfl
@[simp] theorem State.advanceTo_commit (s : State) (t : Nat) : (s.advanceTo t).commit = s.commit := rfl
@[simp] theorem State.advanceTo_pw (s : State) (t : Nat) : (s.advanceTo t).pw = s.pw := rfl
@[simp] theorem State.advanceTo_spw (s : State) (t : Nat) : (s.advanceTo t).spw = s.spw := rfl
@[simp] theorem State.advanceTo_fw (s : State) (t : Nat) : (s.advanceTo t).fw = s.fw := rfl
@[simp] theorem State.advanceTo_thy (s : State) (t : Nat) : (s.advanceTo t).thy = s.thy := rfl
@[simp] theorem State.advanceTo_stk (s : State) (t : Nat) : (s.advanceTo t).stk = s.stk := rfl
@[simp] theorem State.advanceTo_rsm (s : State) (t : Nat) : (s.advanceTo t).rsm = s.rsm := rfl
@[simp] theorem State.advanceTo_cyl (s : State) (t : Nat) : (s.advanceTo t).cyl = s.cyl := rfl
@[simp] theorem State.advanceTo_flt (s : State) (t : Nat) : (s.advanceTo t).flt = s.flt := rfl
@[simp] theorem State.advanceTo_dieSt (s : State) (t : Nat) : (s.advanceTo t).dieSt = s.dieSt := rfl
@[simp] theorem State.advanceTo_line (s : State) (t : Nat) : (s.advanceTo t).line = s.line := rfl
@[simp] theorem State.advanceTo_cur (s : State) (t : Nat) : (s.advanceTo t).cur = s.cur := rfl
@[simp] theorem State.advanceTo_bay (s : State) (t : Nat) : (s.advanceTo t).bay = s.bay := rfl
@[simp] theorem State.advanceTo_mot (s : State) (t : Nat) : (s.advanceTo t).mot = s.mot := rfl
@[simp] theorem State.advanceTo_gate (s : State) (t : Nat) : (s.advanceTo t).gate = s.gate := rfl
@[simp] theorem State.advanceTo_saf (s : State) (t : Nat) : (s.advanceTo t).saf = s.saf := rfl
@[simp] theorem State.advanceTo_prot (s : State) (t : Nat) : (s.advanceTo t).prot = s.prot := rfl
@[simp] theorem State.advanceTo_tmp (s : State) (t : Nat) : (s.advanceTo t).tmp = s.tmp := rfl
@[simp] theorem State.advanceTo_ls (s : State) (t : Nat) : (s.advanceTo t).ls = s.ls := rfl
@[simp] theorem State.advanceTo_sage (s : State) (t : Nat) : (s.advanceTo t).sage = s.sage := rfl
@[simp] theorem State.advanceTo_ring (s : State) (t : Nat) : (s.advanceTo t).ring = s.ring := rfl
@[simp] theorem State.advanceTo_aut (s : State) (t : Nat) : (s.advanceTo t).aut = s.aut := rfl
@[simp] theorem State.advanceTo_saved (s : State) (t : Nat) : (s.advanceTo t).saved = s.saved := rfl
@[simp] theorem State.advanceTo_journal (s : State) (t : Nat) : (s.advanceTo t).journal = s.journal := rfl
@[simp] theorem State.advanceTo_ratios (s : State) (t : Nat) : (s.advanceTo t).ratios = s.ratios := rfl
@[simp] theorem State.advanceTo_pending (s : State) (t : Nat) : (s.advanceTo t).pending = s.pending := rfl

/-! ### onBay -/

@[simp] theorem State.onBay_bay (s : State) (f : BaySt → BaySt) : (s.onBay f).bay = f s.bay := rfl
@[simp] theorem State.onBay_now (s : State) (f : BaySt → BaySt) : (s.onBay f).now = s.now := rfl
@[simp] theorem State.onBay_regs (s : State) (f : BaySt → BaySt) : (s.onBay f).regs = s.regs := rfl
@[simp] theorem State.onBay_shadow (s : State) (f : BaySt → BaySt) : (s.onBay f).shadow = s.shadow := rfl
@[simp] theorem State.onBay_published (s : State) (f : BaySt → BaySt) : (s.onBay f).published = s.published := rfl
@[simp] theorem State.onBay_gdieDown (s : State) (f : BaySt → BaySt) : (s.onBay f).gdieDown = s.gdieDown := rfl
@[simp] theorem State.onBay_pwr (s : State) (f : BaySt → BaySt) : (s.onBay f).pwr = s.pwr := rfl
@[simp] theorem State.onBay_pins (s : State) (f : BaySt → BaySt) : (s.onBay f).pins = s.pins := rfl
@[simp] theorem State.onBay_links (s : State) (f : BaySt → BaySt) : (s.onBay f).links = s.links := rfl
@[simp] theorem State.onBay_commit (s : State) (f : BaySt → BaySt) : (s.onBay f).commit = s.commit := rfl
@[simp] theorem State.onBay_pw (s : State) (f : BaySt → BaySt) : (s.onBay f).pw = s.pw := rfl
@[simp] theorem State.onBay_spw (s : State) (f : BaySt → BaySt) : (s.onBay f).spw = s.spw := rfl
@[simp] theorem State.onBay_fw (s : State) (f : BaySt → BaySt) : (s.onBay f).fw = s.fw := rfl
@[simp] theorem State.onBay_thy (s : State) (f : BaySt → BaySt) : (s.onBay f).thy = s.thy := rfl
@[simp] theorem State.onBay_stk (s : State) (f : BaySt → BaySt) : (s.onBay f).stk = s.stk := rfl
@[simp] theorem State.onBay_rsm (s : State) (f : BaySt → BaySt) : (s.onBay f).rsm = s.rsm := rfl
@[simp] theorem State.onBay_cyl (s : State) (f : BaySt → BaySt) : (s.onBay f).cyl = s.cyl := rfl
@[simp] theorem State.onBay_flt (s : State) (f : BaySt → BaySt) : (s.onBay f).flt = s.flt := rfl
@[simp] theorem State.onBay_dieSt (s : State) (f : BaySt → BaySt) : (s.onBay f).dieSt = s.dieSt := rfl
@[simp] theorem State.onBay_line (s : State) (f : BaySt → BaySt) : (s.onBay f).line = s.line := rfl
@[simp] theorem State.onBay_cur (s : State) (f : BaySt → BaySt) : (s.onBay f).cur = s.cur := rfl
@[simp] theorem State.onBay_mot (s : State) (f : BaySt → BaySt) : (s.onBay f).mot = s.mot := rfl
@[simp] theorem State.onBay_gate (s : State) (f : BaySt → BaySt) : (s.onBay f).gate = s.gate := rfl
@[simp] theorem State.onBay_saf (s : State) (f : BaySt → BaySt) : (s.onBay f).saf = s.saf := rfl
@[simp] theorem State.onBay_prot (s : State) (f : BaySt → BaySt) : (s.onBay f).prot = s.prot := rfl
@[simp] theorem State.onBay_tmp (s : State) (f : BaySt → BaySt) : (s.onBay f).tmp = s.tmp := rfl
@[simp] theorem State.onBay_ls (s : State) (f : BaySt → BaySt) : (s.onBay f).ls = s.ls := rfl
@[simp] theorem State.onBay_sage (s : State) (f : BaySt → BaySt) : (s.onBay f).sage = s.sage := rfl
@[simp] theorem State.onBay_ring (s : State) (f : BaySt → BaySt) : (s.onBay f).ring = s.ring := rfl
@[simp] theorem State.onBay_aut (s : State) (f : BaySt → BaySt) : (s.onBay f).aut = s.aut := rfl
@[simp] theorem State.onBay_saved (s : State) (f : BaySt → BaySt) : (s.onBay f).saved = s.saved := rfl
@[simp] theorem State.onBay_journal (s : State) (f : BaySt → BaySt) : (s.onBay f).journal = s.journal := rfl
@[simp] theorem State.onBay_ratios (s : State) (f : BaySt → BaySt) : (s.onBay f).ratios = s.ratios := rfl
@[simp] theorem State.onBay_pending (s : State) (f : BaySt → BaySt) : (s.onBay f).pending = s.pending := rfl
@[simp] theorem State.onBay_reg (s : State) (f : BaySt → BaySt) (a : Nat) : (s.onBay f).reg a = s.reg a := rfl
@[simp] theorem State.onBay_shadowReg (s : State) (f : BaySt → BaySt) (a : Nat) : (s.onBay f).shadowReg a = s.shadowReg a := rfl
@[simp] theorem State.onBay_get (s : State) (f : BaySt → BaySt) (x : Fld) : (s.onBay f).get x = s.get x := rfl
@[simp] theorem State.onBay_on (s : State) (f : BaySt → BaySt) (x : Fld) : (s.onBay f).on x = s.on x := rfl

/-! ### onCommit -/

@[simp] theorem State.onCommit_commit (s : State) (f : CommitSt → CommitSt) : (s.onCommit f).commit = f s.commit := rfl
@[simp] theorem State.onCommit_now (s : State) (f : CommitSt → CommitSt) : (s.onCommit f).now = s.now := rfl
@[simp] theorem State.onCommit_regs (s : State) (f : CommitSt → CommitSt) : (s.onCommit f).regs = s.regs := rfl
@[simp] theorem State.onCommit_shadow (s : State) (f : CommitSt → CommitSt) : (s.onCommit f).shadow = s.shadow := rfl
@[simp] theorem State.onCommit_published (s : State) (f : CommitSt → CommitSt) : (s.onCommit f).published = s.published := rfl
@[simp] theorem State.onCommit_gdieDown (s : State) (f : CommitSt → CommitSt) : (s.onCommit f).gdieDown = s.gdieDown := rfl
@[simp] theorem State.onCommit_pwr (s : State) (f : CommitSt → CommitSt) : (s.onCommit f).pwr = s.pwr := rfl
@[simp] theorem State.onCommit_pins (s : State) (f : CommitSt → CommitSt) : (s.onCommit f).pins = s.pins := rfl
@[simp] theorem State.onCommit_links (s : State) (f : CommitSt → CommitSt) : (s.onCommit f).links = s.links := rfl
@[simp] theorem State.onCommit_pw (s : State) (f : CommitSt → CommitSt) : (s.onCommit f).pw = s.pw := rfl
@[simp] theorem State.onCommit_spw (s : State) (f : CommitSt → CommitSt) : (s.onCommit f).spw = s.spw := rfl
@[simp] theorem State.onCommit_fw (s : State) (f : CommitSt → CommitSt) : (s.onCommit f).fw = s.fw := rfl
@[simp] theorem State.onCommit_thy (s : State) (f : CommitSt → CommitSt) : (s.onCommit f).thy = s.thy := rfl
@[simp] theorem State.onCommit_stk (s : State) (f : CommitSt → CommitSt) : (s.onCommit f).stk = s.stk := rfl
@[simp] theorem State.onCommit_rsm (s : State) (f : CommitSt → CommitSt) : (s.onCommit f).rsm = s.rsm := rfl
@[simp] theorem State.onCommit_cyl (s : State) (f : CommitSt → CommitSt) : (s.onCommit f).cyl = s.cyl := rfl
@[simp] theorem State.onCommit_flt (s : State) (f : CommitSt → CommitSt) : (s.onCommit f).flt = s.flt := rfl
@[simp] theorem State.onCommit_dieSt (s : State) (f : CommitSt → CommitSt) : (s.onCommit f).dieSt = s.dieSt := rfl
@[simp] theorem State.onCommit_line (s : State) (f : CommitSt → CommitSt) : (s.onCommit f).line = s.line := rfl
@[simp] theorem State.onCommit_cur (s : State) (f : CommitSt → CommitSt) : (s.onCommit f).cur = s.cur := rfl
@[simp] theorem State.onCommit_bay (s : State) (f : CommitSt → CommitSt) : (s.onCommit f).bay = s.bay := rfl
@[simp] theorem State.onCommit_mot (s : State) (f : CommitSt → CommitSt) : (s.onCommit f).mot = s.mot := rfl
@[simp] theorem State.onCommit_gate (s : State) (f : CommitSt → CommitSt) : (s.onCommit f).gate = s.gate := rfl
@[simp] theorem State.onCommit_saf (s : State) (f : CommitSt → CommitSt) : (s.onCommit f).saf = s.saf := rfl
@[simp] theorem State.onCommit_prot (s : State) (f : CommitSt → CommitSt) : (s.onCommit f).prot = s.prot := rfl
@[simp] theorem State.onCommit_tmp (s : State) (f : CommitSt → CommitSt) : (s.onCommit f).tmp = s.tmp := rfl
@[simp] theorem State.onCommit_ls (s : State) (f : CommitSt → CommitSt) : (s.onCommit f).ls = s.ls := rfl
@[simp] theorem State.onCommit_sage (s : State) (f : CommitSt → CommitSt) : (s.onCommit f).sage = s.sage := rfl
@[simp] theorem State.onCommit_ring (s : State) (f : CommitSt → CommitSt) : (s.onCommit f).ring = s.ring := rfl
@[simp] theorem State.onCommit_aut (s : State) (f : CommitSt → CommitSt) : (s.onCommit f).aut = s.aut := rfl
@[simp] theorem State.onCommit_saved (s : State) (f : CommitSt → CommitSt) : (s.onCommit f).saved = s.saved := rfl
@[simp] theorem State.onCommit_journal (s : State) (f : CommitSt → CommitSt) : (s.onCommit f).journal = s.journal := rfl
@[simp] theorem State.onCommit_ratios (s : State) (f : CommitSt → CommitSt) : (s.onCommit f).ratios = s.ratios := rfl
@[simp] theorem State.onCommit_pending (s : State) (f : CommitSt → CommitSt) : (s.onCommit f).pending = s.pending := rfl
@[simp] theorem State.onCommit_reg (s : State) (f : CommitSt → CommitSt) (a : Nat) : (s.onCommit f).reg a = s.reg a := rfl
@[simp] theorem State.onCommit_shadowReg (s : State) (f : CommitSt → CommitSt) (a : Nat) : (s.onCommit f).shadowReg a = s.shadowReg a := rfl
@[simp] theorem State.onCommit_get (s : State) (f : CommitSt → CommitSt) (x : Fld) : (s.onCommit f).get x = s.get x := rfl
@[simp] theorem State.onCommit_on (s : State) (f : CommitSt → CommitSt) (x : Fld) : (s.onCommit f).on x = s.on x := rfl

/-! ### onFw -/

@[simp] theorem State.onFw_fw (s : State) (f : FirmwareSt → FirmwareSt) : (s.onFw f).fw = f s.fw := rfl
@[simp] theorem State.onFw_now (s : State) (f : FirmwareSt → FirmwareSt) : (s.onFw f).now = s.now := rfl
@[simp] theorem State.onFw_regs (s : State) (f : FirmwareSt → FirmwareSt) : (s.onFw f).regs = s.regs := rfl
@[simp] theorem State.onFw_shadow (s : State) (f : FirmwareSt → FirmwareSt) : (s.onFw f).shadow = s.shadow := rfl
@[simp] theorem State.onFw_published (s : State) (f : FirmwareSt → FirmwareSt) : (s.onFw f).published = s.published := rfl
@[simp] theorem State.onFw_gdieDown (s : State) (f : FirmwareSt → FirmwareSt) : (s.onFw f).gdieDown = s.gdieDown := rfl
@[simp] theorem State.onFw_pwr (s : State) (f : FirmwareSt → FirmwareSt) : (s.onFw f).pwr = s.pwr := rfl
@[simp] theorem State.onFw_pins (s : State) (f : FirmwareSt → FirmwareSt) : (s.onFw f).pins = s.pins := rfl
@[simp] theorem State.onFw_links (s : State) (f : FirmwareSt → FirmwareSt) : (s.onFw f).links = s.links := rfl
@[simp] theorem State.onFw_commit (s : State) (f : FirmwareSt → FirmwareSt) : (s.onFw f).commit = s.commit := rfl
@[simp] theorem State.onFw_pw (s : State) (f : FirmwareSt → FirmwareSt) : (s.onFw f).pw = s.pw := rfl
@[simp] theorem State.onFw_spw (s : State) (f : FirmwareSt → FirmwareSt) : (s.onFw f).spw = s.spw := rfl
@[simp] theorem State.onFw_thy (s : State) (f : FirmwareSt → FirmwareSt) : (s.onFw f).thy = s.thy := rfl
@[simp] theorem State.onFw_stk (s : State) (f : FirmwareSt → FirmwareSt) : (s.onFw f).stk = s.stk := rfl
@[simp] theorem State.onFw_rsm (s : State) (f : FirmwareSt → FirmwareSt) : (s.onFw f).rsm = s.rsm := rfl
@[simp] theorem State.onFw_cyl (s : State) (f : FirmwareSt → FirmwareSt) : (s.onFw f).cyl = s.cyl := rfl
@[simp] theorem State.onFw_flt (s : State) (f : FirmwareSt → FirmwareSt) : (s.onFw f).flt = s.flt := rfl
@[simp] theorem State.onFw_dieSt (s : State) (f : FirmwareSt → FirmwareSt) : (s.onFw f).dieSt = s.dieSt := rfl
@[simp] theorem State.onFw_line (s : State) (f : FirmwareSt → FirmwareSt) : (s.onFw f).line = s.line := rfl
@[simp] theorem State.onFw_cur (s : State) (f : FirmwareSt → FirmwareSt) : (s.onFw f).cur = s.cur := rfl
@[simp] theorem State.onFw_bay (s : State) (f : FirmwareSt → FirmwareSt) : (s.onFw f).bay = s.bay := rfl
@[simp] theorem State.onFw_mot (s : State) (f : FirmwareSt → FirmwareSt) : (s.onFw f).mot = s.mot := rfl
@[simp] theorem State.onFw_gate (s : State) (f : FirmwareSt → FirmwareSt) : (s.onFw f).gate = s.gate := rfl
@[simp] theorem State.onFw_saf (s : State) (f : FirmwareSt → FirmwareSt) : (s.onFw f).saf = s.saf := rfl
@[simp] theorem State.onFw_prot (s : State) (f : FirmwareSt → FirmwareSt) : (s.onFw f).prot = s.prot := rfl
@[simp] theorem State.onFw_tmp (s : State) (f : FirmwareSt → FirmwareSt) : (s.onFw f).tmp = s.tmp := rfl
@[simp] theorem State.onFw_ls (s : State) (f : FirmwareSt → FirmwareSt) : (s.onFw f).ls = s.ls := rfl
@[simp] theorem State.onFw_sage (s : State) (f : FirmwareSt → FirmwareSt) : (s.onFw f).sage = s.sage := rfl
@[simp] theorem State.onFw_ring (s : State) (f : FirmwareSt → FirmwareSt) : (s.onFw f).ring = s.ring := rfl
@[simp] theorem State.onFw_aut (s : State) (f : FirmwareSt → FirmwareSt) : (s.onFw f).aut = s.aut := rfl
@[simp] theorem State.onFw_saved (s : State) (f : FirmwareSt → FirmwareSt) : (s.onFw f).saved = s.saved := rfl
@[simp] theorem State.onFw_journal (s : State) (f : FirmwareSt → FirmwareSt) : (s.onFw f).journal = s.journal := rfl
@[simp] theorem State.onFw_ratios (s : State) (f : FirmwareSt → FirmwareSt) : (s.onFw f).ratios = s.ratios := rfl
@[simp] theorem State.onFw_pending (s : State) (f : FirmwareSt → FirmwareSt) : (s.onFw f).pending = s.pending := rfl
@[simp] theorem State.onFw_reg (s : State) (f : FirmwareSt → FirmwareSt) (a : Nat) : (s.onFw f).reg a = s.reg a := rfl
@[simp] theorem State.onFw_shadowReg (s : State) (f : FirmwareSt → FirmwareSt) (a : Nat) : (s.onFw f).shadowReg a = s.shadowReg a := rfl
@[simp] theorem State.onFw_get (s : State) (f : FirmwareSt → FirmwareSt) (x : Fld) : (s.onFw f).get x = s.get x := rfl
@[simp] theorem State.onFw_on (s : State) (f : FirmwareSt → FirmwareSt) (x : Fld) : (s.onFw f).on x = s.on x := rfl

/-! ### onProt -/

@[simp] theorem State.onProt_prot (s : State) (f : ProtSt → ProtSt) : (s.onProt f).prot = f s.prot := rfl
@[simp] theorem State.onProt_now (s : State) (f : ProtSt → ProtSt) : (s.onProt f).now = s.now := rfl
@[simp] theorem State.onProt_regs (s : State) (f : ProtSt → ProtSt) : (s.onProt f).regs = s.regs := rfl
@[simp] theorem State.onProt_shadow (s : State) (f : ProtSt → ProtSt) : (s.onProt f).shadow = s.shadow := rfl
@[simp] theorem State.onProt_published (s : State) (f : ProtSt → ProtSt) : (s.onProt f).published = s.published := rfl
@[simp] theorem State.onProt_gdieDown (s : State) (f : ProtSt → ProtSt) : (s.onProt f).gdieDown = s.gdieDown := rfl
@[simp] theorem State.onProt_pwr (s : State) (f : ProtSt → ProtSt) : (s.onProt f).pwr = s.pwr := rfl
@[simp] theorem State.onProt_pins (s : State) (f : ProtSt → ProtSt) : (s.onProt f).pins = s.pins := rfl
@[simp] theorem State.onProt_links (s : State) (f : ProtSt → ProtSt) : (s.onProt f).links = s.links := rfl
@[simp] theorem State.onProt_commit (s : State) (f : ProtSt → ProtSt) : (s.onProt f).commit = s.commit := rfl
@[simp] theorem State.onProt_pw (s : State) (f : ProtSt → ProtSt) : (s.onProt f).pw = s.pw := rfl
@[simp] theorem State.onProt_spw (s : State) (f : ProtSt → ProtSt) : (s.onProt f).spw = s.spw := rfl
@[simp] theorem State.onProt_fw (s : State) (f : ProtSt → ProtSt) : (s.onProt f).fw = s.fw := rfl
@[simp] theorem State.onProt_thy (s : State) (f : ProtSt → ProtSt) : (s.onProt f).thy = s.thy := rfl
@[simp] theorem State.onProt_stk (s : State) (f : ProtSt → ProtSt) : (s.onProt f).stk = s.stk := rfl
@[simp] theorem State.onProt_rsm (s : State) (f : ProtSt → ProtSt) : (s.onProt f).rsm = s.rsm := rfl
@[simp] theorem State.onProt_cyl (s : State) (f : ProtSt → ProtSt) : (s.onProt f).cyl = s.cyl := rfl
@[simp] theorem State.onProt_flt (s : State) (f : ProtSt → ProtSt) : (s.onProt f).flt = s.flt := rfl
@[simp] theorem State.onProt_dieSt (s : State) (f : ProtSt → ProtSt) : (s.onProt f).dieSt = s.dieSt := rfl
@[simp] theorem State.onProt_line (s : State) (f : ProtSt → ProtSt) : (s.onProt f).line = s.line := rfl
@[simp] theorem State.onProt_cur (s : State) (f : ProtSt → ProtSt) : (s.onProt f).cur = s.cur := rfl
@[simp] theorem State.onProt_bay (s : State) (f : ProtSt → ProtSt) : (s.onProt f).bay = s.bay := rfl
@[simp] theorem State.onProt_mot (s : State) (f : ProtSt → ProtSt) : (s.onProt f).mot = s.mot := rfl
@[simp] theorem State.onProt_gate (s : State) (f : ProtSt → ProtSt) : (s.onProt f).gate = s.gate := rfl
@[simp] theorem State.onProt_saf (s : State) (f : ProtSt → ProtSt) : (s.onProt f).saf = s.saf := rfl
@[simp] theorem State.onProt_tmp (s : State) (f : ProtSt → ProtSt) : (s.onProt f).tmp = s.tmp := rfl
@[simp] theorem State.onProt_ls (s : State) (f : ProtSt → ProtSt) : (s.onProt f).ls = s.ls := rfl
@[simp] theorem State.onProt_sage (s : State) (f : ProtSt → ProtSt) : (s.onProt f).sage = s.sage := rfl
@[simp] theorem State.onProt_ring (s : State) (f : ProtSt → ProtSt) : (s.onProt f).ring = s.ring := rfl
@[simp] theorem State.onProt_aut (s : State) (f : ProtSt → ProtSt) : (s.onProt f).aut = s.aut := rfl
@[simp] theorem State.onProt_saved (s : State) (f : ProtSt → ProtSt) : (s.onProt f).saved = s.saved := rfl
@[simp] theorem State.onProt_journal (s : State) (f : ProtSt → ProtSt) : (s.onProt f).journal = s.journal := rfl
@[simp] theorem State.onProt_ratios (s : State) (f : ProtSt → ProtSt) : (s.onProt f).ratios = s.ratios := rfl
@[simp] theorem State.onProt_pending (s : State) (f : ProtSt → ProtSt) : (s.onProt f).pending = s.pending := rfl
@[simp] theorem State.onProt_reg (s : State) (f : ProtSt → ProtSt) (a : Nat) : (s.onProt f).reg a = s.reg a := rfl
@[simp] theorem State.onProt_shadowReg (s : State) (f : ProtSt → ProtSt) (a : Nat) : (s.onProt f).shadowReg a = s.shadowReg a := rfl
@[simp] theorem State.onProt_get (s : State) (f : ProtSt → ProtSt) (x : Fld) : (s.onProt f).get x = s.get x := rfl
@[simp] theorem State.onProt_on (s : State) (f : ProtSt → ProtSt) (x : Fld) : (s.onProt f).on x = s.on x := rfl

/-! ### onLine -/

@[simp] theorem State.onLine_line (s : State) (f : FaultLineSt → FaultLineSt) : (s.onLine f).line = f s.line := rfl
@[simp] theorem State.onLine_now (s : State) (f : FaultLineSt → FaultLineSt) : (s.onLine f).now = s.now := rfl
@[simp] theorem State.onLine_regs (s : State) (f : FaultLineSt → FaultLineSt) : (s.onLine f).regs = s.regs := rfl
@[simp] theorem State.onLine_shadow (s : State) (f : FaultLineSt → FaultLineSt) : (s.onLine f).shadow = s.shadow := rfl
@[simp] theorem State.onLine_published (s : State) (f : FaultLineSt → FaultLineSt) : (s.onLine f).published = s.published := rfl
@[simp] theorem State.onLine_gdieDown (s : State) (f : FaultLineSt → FaultLineSt) : (s.onLine f).gdieDown = s.gdieDown := rfl
@[simp] theorem State.onLine_pwr (s : State) (f : FaultLineSt → FaultLineSt) : (s.onLine f).pwr = s.pwr := rfl
@[simp] theorem State.onLine_pins (s : State) (f : FaultLineSt → FaultLineSt) : (s.onLine f).pins = s.pins := rfl
@[simp] theorem State.onLine_links (s : State) (f : FaultLineSt → FaultLineSt) : (s.onLine f).links = s.links := rfl
@[simp] theorem State.onLine_commit (s : State) (f : FaultLineSt → FaultLineSt) : (s.onLine f).commit = s.commit := rfl
@[simp] theorem State.onLine_pw (s : State) (f : FaultLineSt → FaultLineSt) : (s.onLine f).pw = s.pw := rfl
@[simp] theorem State.onLine_spw (s : State) (f : FaultLineSt → FaultLineSt) : (s.onLine f).spw = s.spw := rfl
@[simp] theorem State.onLine_fw (s : State) (f : FaultLineSt → FaultLineSt) : (s.onLine f).fw = s.fw := rfl
@[simp] theorem State.onLine_thy (s : State) (f : FaultLineSt → FaultLineSt) : (s.onLine f).thy = s.thy := rfl
@[simp] theorem State.onLine_stk (s : State) (f : FaultLineSt → FaultLineSt) : (s.onLine f).stk = s.stk := rfl
@[simp] theorem State.onLine_rsm (s : State) (f : FaultLineSt → FaultLineSt) : (s.onLine f).rsm = s.rsm := rfl
@[simp] theorem State.onLine_cyl (s : State) (f : FaultLineSt → FaultLineSt) : (s.onLine f).cyl = s.cyl := rfl
@[simp] theorem State.onLine_flt (s : State) (f : FaultLineSt → FaultLineSt) : (s.onLine f).flt = s.flt := rfl
@[simp] theorem State.onLine_dieSt (s : State) (f : FaultLineSt → FaultLineSt) : (s.onLine f).dieSt = s.dieSt := rfl
@[simp] theorem State.onLine_cur (s : State) (f : FaultLineSt → FaultLineSt) : (s.onLine f).cur = s.cur := rfl
@[simp] theorem State.onLine_bay (s : State) (f : FaultLineSt → FaultLineSt) : (s.onLine f).bay = s.bay := rfl
@[simp] theorem State.onLine_mot (s : State) (f : FaultLineSt → FaultLineSt) : (s.onLine f).mot = s.mot := rfl
@[simp] theorem State.onLine_gate (s : State) (f : FaultLineSt → FaultLineSt) : (s.onLine f).gate = s.gate := rfl
@[simp] theorem State.onLine_saf (s : State) (f : FaultLineSt → FaultLineSt) : (s.onLine f).saf = s.saf := rfl
@[simp] theorem State.onLine_prot (s : State) (f : FaultLineSt → FaultLineSt) : (s.onLine f).prot = s.prot := rfl
@[simp] theorem State.onLine_tmp (s : State) (f : FaultLineSt → FaultLineSt) : (s.onLine f).tmp = s.tmp := rfl
@[simp] theorem State.onLine_ls (s : State) (f : FaultLineSt → FaultLineSt) : (s.onLine f).ls = s.ls := rfl
@[simp] theorem State.onLine_sage (s : State) (f : FaultLineSt → FaultLineSt) : (s.onLine f).sage = s.sage := rfl
@[simp] theorem State.onLine_ring (s : State) (f : FaultLineSt → FaultLineSt) : (s.onLine f).ring = s.ring := rfl
@[simp] theorem State.onLine_aut (s : State) (f : FaultLineSt → FaultLineSt) : (s.onLine f).aut = s.aut := rfl
@[simp] theorem State.onLine_saved (s : State) (f : FaultLineSt → FaultLineSt) : (s.onLine f).saved = s.saved := rfl
@[simp] theorem State.onLine_journal (s : State) (f : FaultLineSt → FaultLineSt) : (s.onLine f).journal = s.journal := rfl
@[simp] theorem State.onLine_ratios (s : State) (f : FaultLineSt → FaultLineSt) : (s.onLine f).ratios = s.ratios := rfl
@[simp] theorem State.onLine_pending (s : State) (f : FaultLineSt → FaultLineSt) : (s.onLine f).pending = s.pending := rfl
@[simp] theorem State.onLine_reg (s : State) (f : FaultLineSt → FaultLineSt) (a : Nat) : (s.onLine f).reg a = s.reg a := rfl
@[simp] theorem State.onLine_shadowReg (s : State) (f : FaultLineSt → FaultLineSt) (a : Nat) : (s.onLine f).shadowReg a = s.shadowReg a := rfl
@[simp] theorem State.onLine_get (s : State) (f : FaultLineSt → FaultLineSt) (x : Fld) : (s.onLine f).get x = s.get x := rfl
@[simp] theorem State.onLine_on (s : State) (f : FaultLineSt → FaultLineSt) (x : Fld) : (s.onLine f).on x = s.on x := rfl

/-! ### onGate -/

@[simp] theorem State.onGate_gate (s : State) (f : GateSt → GateSt) : (s.onGate f).gate = f s.gate := rfl
@[simp] theorem State.onGate_now (s : State) (f : GateSt → GateSt) : (s.onGate f).now = s.now := rfl
@[simp] theorem State.onGate_regs (s : State) (f : GateSt → GateSt) : (s.onGate f).regs = s.regs := rfl
@[simp] theorem State.onGate_shadow (s : State) (f : GateSt → GateSt) : (s.onGate f).shadow = s.shadow := rfl
@[simp] theorem State.onGate_published (s : State) (f : GateSt → GateSt) : (s.onGate f).published = s.published := rfl
@[simp] theorem State.onGate_gdieDown (s : State) (f : GateSt → GateSt) : (s.onGate f).gdieDown = s.gdieDown := rfl
@[simp] theorem State.onGate_pwr (s : State) (f : GateSt → GateSt) : (s.onGate f).pwr = s.pwr := rfl
@[simp] theorem State.onGate_pins (s : State) (f : GateSt → GateSt) : (s.onGate f).pins = s.pins := rfl
@[simp] theorem State.onGate_links (s : State) (f : GateSt → GateSt) : (s.onGate f).links = s.links := rfl
@[simp] theorem State.onGate_commit (s : State) (f : GateSt → GateSt) : (s.onGate f).commit = s.commit := rfl
@[simp] theorem State.onGate_pw (s : State) (f : GateSt → GateSt) : (s.onGate f).pw = s.pw := rfl
@[simp] theorem State.onGate_spw (s : State) (f : GateSt → GateSt) : (s.onGate f).spw = s.spw := rfl
@[simp] theorem State.onGate_fw (s : State) (f : GateSt → GateSt) : (s.onGate f).fw = s.fw := rfl
@[simp] theorem State.onGate_thy (s : State) (f : GateSt → GateSt) : (s.onGate f).thy = s.thy := rfl
@[simp] theorem State.onGate_stk (s : State) (f : GateSt → GateSt) : (s.onGate f).stk = s.stk := rfl
@[simp] theorem State.onGate_rsm (s : State) (f : GateSt → GateSt) : (s.onGate f).rsm = s.rsm := rfl
@[simp] theorem State.onGate_cyl (s : State) (f : GateSt → GateSt) : (s.onGate f).cyl = s.cyl := rfl
@[simp] theorem State.onGate_flt (s : State) (f : GateSt → GateSt) : (s.onGate f).flt = s.flt := rfl
@[simp] theorem State.onGate_dieSt (s : State) (f : GateSt → GateSt) : (s.onGate f).dieSt = s.dieSt := rfl
@[simp] theorem State.onGate_line (s : State) (f : GateSt → GateSt) : (s.onGate f).line = s.line := rfl
@[simp] theorem State.onGate_cur (s : State) (f : GateSt → GateSt) : (s.onGate f).cur = s.cur := rfl
@[simp] theorem State.onGate_bay (s : State) (f : GateSt → GateSt) : (s.onGate f).bay = s.bay := rfl
@[simp] theorem State.onGate_mot (s : State) (f : GateSt → GateSt) : (s.onGate f).mot = s.mot := rfl
@[simp] theorem State.onGate_saf (s : State) (f : GateSt → GateSt) : (s.onGate f).saf = s.saf := rfl
@[simp] theorem State.onGate_prot (s : State) (f : GateSt → GateSt) : (s.onGate f).prot = s.prot := rfl
@[simp] theorem State.onGate_tmp (s : State) (f : GateSt → GateSt) : (s.onGate f).tmp = s.tmp := rfl
@[simp] theorem State.onGate_ls (s : State) (f : GateSt → GateSt) : (s.onGate f).ls = s.ls := rfl
@[simp] theorem State.onGate_sage (s : State) (f : GateSt → GateSt) : (s.onGate f).sage = s.sage := rfl
@[simp] theorem State.onGate_ring (s : State) (f : GateSt → GateSt) : (s.onGate f).ring = s.ring := rfl
@[simp] theorem State.onGate_aut (s : State) (f : GateSt → GateSt) : (s.onGate f).aut = s.aut := rfl
@[simp] theorem State.onGate_saved (s : State) (f : GateSt → GateSt) : (s.onGate f).saved = s.saved := rfl
@[simp] theorem State.onGate_journal (s : State) (f : GateSt → GateSt) : (s.onGate f).journal = s.journal := rfl
@[simp] theorem State.onGate_ratios (s : State) (f : GateSt → GateSt) : (s.onGate f).ratios = s.ratios := rfl
@[simp] theorem State.onGate_pending (s : State) (f : GateSt → GateSt) : (s.onGate f).pending = s.pending := rfl
@[simp] theorem State.onGate_reg (s : State) (f : GateSt → GateSt) (a : Nat) : (s.onGate f).reg a = s.reg a := rfl
@[simp] theorem State.onGate_shadowReg (s : State) (f : GateSt → GateSt) (a : Nat) : (s.onGate f).shadowReg a = s.shadowReg a := rfl
@[simp] theorem State.onGate_get (s : State) (f : GateSt → GateSt) (x : Fld) : (s.onGate f).get x = s.get x := rfl
@[simp] theorem State.onGate_on (s : State) (f : GateSt → GateSt) (x : Fld) : (s.onGate f).on x = s.on x := rfl

/-! ### onLs -/

@[simp] theorem State.onLs_ls (s : State) (f : LoadSt → LoadSt) : (s.onLs f).ls = f s.ls := rfl
@[simp] theorem State.onLs_now (s : State) (f : LoadSt → LoadSt) : (s.onLs f).now = s.now := rfl
@[simp] theorem State.onLs_regs (s : State) (f : LoadSt → LoadSt) : (s.onLs f).regs = s.regs := rfl
@[simp] theorem State.onLs_shadow (s : State) (f : LoadSt → LoadSt) : (s.onLs f).shadow = s.shadow := rfl
@[simp] theorem State.onLs_published (s : State) (f : LoadSt → LoadSt) : (s.onLs f).published = s.published := rfl
@[simp] theorem State.onLs_gdieDown (s : State) (f : LoadSt → LoadSt) : (s.onLs f).gdieDown = s.gdieDown := rfl
@[simp] theorem State.onLs_pwr (s : State) (f : LoadSt → LoadSt) : (s.onLs f).pwr = s.pwr := rfl
@[simp] theorem State.onLs_pins (s : State) (f : LoadSt → LoadSt) : (s.onLs f).pins = s.pins := rfl
@[simp] theorem State.onLs_links (s : State) (f : LoadSt → LoadSt) : (s.onLs f).links = s.links := rfl
@[simp] theorem State.onLs_commit (s : State) (f : LoadSt → LoadSt) : (s.onLs f).commit = s.commit := rfl
@[simp] theorem State.onLs_pw (s : State) (f : LoadSt → LoadSt) : (s.onLs f).pw = s.pw := rfl
@[simp] theorem State.onLs_spw (s : State) (f : LoadSt → LoadSt) : (s.onLs f).spw = s.spw := rfl
@[simp] theorem State.onLs_fw (s : State) (f : LoadSt → LoadSt) : (s.onLs f).fw = s.fw := rfl
@[simp] theorem State.onLs_thy (s : State) (f : LoadSt → LoadSt) : (s.onLs f).thy = s.thy := rfl
@[simp] theorem State.onLs_stk (s : State) (f : LoadSt → LoadSt) : (s.onLs f).stk = s.stk := rfl
@[simp] theorem State.onLs_rsm (s : State) (f : LoadSt → LoadSt) : (s.onLs f).rsm = s.rsm := rfl
@[simp] theorem State.onLs_cyl (s : State) (f : LoadSt → LoadSt) : (s.onLs f).cyl = s.cyl := rfl
@[simp] theorem State.onLs_flt (s : State) (f : LoadSt → LoadSt) : (s.onLs f).flt = s.flt := rfl
@[simp] theorem State.onLs_dieSt (s : State) (f : LoadSt → LoadSt) : (s.onLs f).dieSt = s.dieSt := rfl
@[simp] theorem State.onLs_line (s : State) (f : LoadSt → LoadSt) : (s.onLs f).line = s.line := rfl
@[simp] theorem State.onLs_cur (s : State) (f : LoadSt → LoadSt) : (s.onLs f).cur = s.cur := rfl
@[simp] theorem State.onLs_bay (s : State) (f : LoadSt → LoadSt) : (s.onLs f).bay = s.bay := rfl
@[simp] theorem State.onLs_mot (s : State) (f : LoadSt → LoadSt) : (s.onLs f).mot = s.mot := rfl
@[simp] theorem State.onLs_gate (s : State) (f : LoadSt → LoadSt) : (s.onLs f).gate = s.gate := rfl
@[simp] theorem State.onLs_saf (s : State) (f : LoadSt → LoadSt) : (s.onLs f).saf = s.saf := rfl
@[simp] theorem State.onLs_prot (s : State) (f : LoadSt → LoadSt) : (s.onLs f).prot = s.prot := rfl
@[simp] theorem State.onLs_tmp (s : State) (f : LoadSt → LoadSt) : (s.onLs f).tmp = s.tmp := rfl
@[simp] theorem State.onLs_sage (s : State) (f : LoadSt → LoadSt) : (s.onLs f).sage = s.sage := rfl
@[simp] theorem State.onLs_ring (s : State) (f : LoadSt → LoadSt) : (s.onLs f).ring = s.ring := rfl
@[simp] theorem State.onLs_aut (s : State) (f : LoadSt → LoadSt) : (s.onLs f).aut = s.aut := rfl
@[simp] theorem State.onLs_saved (s : State) (f : LoadSt → LoadSt) : (s.onLs f).saved = s.saved := rfl
@[simp] theorem State.onLs_journal (s : State) (f : LoadSt → LoadSt) : (s.onLs f).journal = s.journal := rfl
@[simp] theorem State.onLs_ratios (s : State) (f : LoadSt → LoadSt) : (s.onLs f).ratios = s.ratios := rfl
@[simp] theorem State.onLs_pending (s : State) (f : LoadSt → LoadSt) : (s.onLs f).pending = s.pending := rfl
@[simp] theorem State.onLs_reg (s : State) (f : LoadSt → LoadSt) (a : Nat) : (s.onLs f).reg a = s.reg a := rfl
@[simp] theorem State.onLs_shadowReg (s : State) (f : LoadSt → LoadSt) (a : Nat) : (s.onLs f).shadowReg a = s.shadowReg a := rfl
@[simp] theorem State.onLs_get (s : State) (f : LoadSt → LoadSt) (x : Fld) : (s.onLs f).get x = s.get x := rfl
@[simp] theorem State.onLs_on (s : State) (f : LoadSt → LoadSt) (x : Fld) : (s.onLs f).on x = s.on x := rfl

/-! ### onPwr -/

@[simp] theorem State.onPwr_pwr (s : State) (f : PowerSt → PowerSt) : (s.onPwr f).pwr = f s.pwr := rfl
@[simp] theorem State.onPwr_now (s : State) (f : PowerSt → PowerSt) : (s.onPwr f).now = s.now := rfl
@[simp] theorem State.onPwr_regs (s : State) (f : PowerSt → PowerSt) : (s.onPwr f).regs = s.regs := rfl
@[simp] theorem State.onPwr_shadow (s : State) (f : PowerSt → PowerSt) : (s.onPwr f).shadow = s.shadow := rfl
@[simp] theorem State.onPwr_published (s : State) (f : PowerSt → PowerSt) : (s.onPwr f).published = s.published := rfl
@[simp] theorem State.onPwr_gdieDown (s : State) (f : PowerSt → PowerSt) : (s.onPwr f).gdieDown = s.gdieDown := rfl
@[simp] theorem State.onPwr_pins (s : State) (f : PowerSt → PowerSt) : (s.onPwr f).pins = s.pins := rfl
@[simp] theorem State.onPwr_links (s : State) (f : PowerSt → PowerSt) : (s.onPwr f).links = s.links := rfl
@[simp] theorem State.onPwr_commit (s : State) (f : PowerSt → PowerSt) : (s.onPwr f).commit = s.commit := rfl
@[simp] theorem State.onPwr_pw (s : State) (f : PowerSt → PowerSt) : (s.onPwr f).pw = s.pw := rfl
@[simp] theorem State.onPwr_spw (s : State) (f : PowerSt → PowerSt) : (s.onPwr f).spw = s.spw := rfl
@[simp] theorem State.onPwr_fw (s : State) (f : PowerSt → PowerSt) : (s.onPwr f).fw = s.fw := rfl
@[simp] theorem State.onPwr_thy (s : State) (f : PowerSt → PowerSt) : (s.onPwr f).thy = s.thy := rfl
@[simp] theorem State.onPwr_stk (s : State) (f : PowerSt → PowerSt) : (s.onPwr f).stk = s.stk := rfl
@[simp] theorem State.onPwr_rsm (s : State) (f : PowerSt → PowerSt) : (s.onPwr f).rsm = s.rsm := rfl
@[simp] theorem State.onPwr_cyl (s : State) (f : PowerSt → PowerSt) : (s.onPwr f).cyl = s.cyl := rfl
@[simp] theorem State.onPwr_flt (s : State) (f : PowerSt → PowerSt) : (s.onPwr f).flt = s.flt := rfl
@[simp] theorem State.onPwr_dieSt (s : State) (f : PowerSt → PowerSt) : (s.onPwr f).dieSt = s.dieSt := rfl
@[simp] theorem State.onPwr_line (s : State) (f : PowerSt → PowerSt) : (s.onPwr f).line = s.line := rfl
@[simp] theorem State.onPwr_cur (s : State) (f : PowerSt → PowerSt) : (s.onPwr f).cur = s.cur := rfl
@[simp] theorem State.onPwr_bay (s : State) (f : PowerSt → PowerSt) : (s.onPwr f).bay = s.bay := rfl
@[simp] theorem State.onPwr_mot (s : State) (f : PowerSt → PowerSt) : (s.onPwr f).mot = s.mot := rfl
@[simp] theorem State.onPwr_gate (s : State) (f : PowerSt → PowerSt) : (s.onPwr f).gate = s.gate := rfl
@[simp] theorem State.onPwr_saf (s : State) (f : PowerSt → PowerSt) : (s.onPwr f).saf = s.saf := rfl
@[simp] theorem State.onPwr_prot (s : State) (f : PowerSt → PowerSt) : (s.onPwr f).prot = s.prot := rfl
@[simp] theorem State.onPwr_tmp (s : State) (f : PowerSt → PowerSt) : (s.onPwr f).tmp = s.tmp := rfl
@[simp] theorem State.onPwr_ls (s : State) (f : PowerSt → PowerSt) : (s.onPwr f).ls = s.ls := rfl
@[simp] theorem State.onPwr_sage (s : State) (f : PowerSt → PowerSt) : (s.onPwr f).sage = s.sage := rfl
@[simp] theorem State.onPwr_ring (s : State) (f : PowerSt → PowerSt) : (s.onPwr f).ring = s.ring := rfl
@[simp] theorem State.onPwr_aut (s : State) (f : PowerSt → PowerSt) : (s.onPwr f).aut = s.aut := rfl
@[simp] theorem State.onPwr_saved (s : State) (f : PowerSt → PowerSt) : (s.onPwr f).saved = s.saved := rfl
@[simp] theorem State.onPwr_journal (s : State) (f : PowerSt → PowerSt) : (s.onPwr f).journal = s.journal := rfl
@[simp] theorem State.onPwr_ratios (s : State) (f : PowerSt → PowerSt) : (s.onPwr f).ratios = s.ratios := rfl
@[simp] theorem State.onPwr_pending (s : State) (f : PowerSt → PowerSt) : (s.onPwr f).pending = s.pending := rfl
@[simp] theorem State.onPwr_reg (s : State) (f : PowerSt → PowerSt) (a : Nat) : (s.onPwr f).reg a = s.reg a := rfl
@[simp] theorem State.onPwr_shadowReg (s : State) (f : PowerSt → PowerSt) (a : Nat) : (s.onPwr f).shadowReg a = s.shadowReg a := rfl
@[simp] theorem State.onPwr_get (s : State) (f : PowerSt → PowerSt) (x : Fld) : (s.onPwr f).get x = s.get x := rfl
@[simp] theorem State.onPwr_on (s : State) (f : PowerSt → PowerSt) (x : Fld) : (s.onPwr f).on x = s.on x := rfl

/-! ### onFlt -/

@[simp] theorem State.onFlt_flt (s : State) (f : RedundancySt → RedundancySt) : (s.onFlt f).flt = f s.flt := rfl
@[simp] theorem State.onFlt_now (s : State) (f : RedundancySt → RedundancySt) : (s.onFlt f).now = s.now := rfl
@[simp] theorem State.onFlt_regs (s : State) (f : RedundancySt → RedundancySt) : (s.onFlt f).regs = s.regs := rfl
@[simp] theorem State.onFlt_shadow (s : State) (f : RedundancySt → RedundancySt) : (s.onFlt f).shadow = s.shadow := rfl
@[simp] theorem State.onFlt_published (s : State) (f : RedundancySt → RedundancySt) : (s.onFlt f).published = s.published := rfl
@[simp] theorem State.onFlt_gdieDown (s : State) (f : RedundancySt → RedundancySt) : (s.onFlt f).gdieDown = s.gdieDown := rfl
@[simp] theorem State.onFlt_pwr (s : State) (f : RedundancySt → RedundancySt) : (s.onFlt f).pwr = s.pwr := rfl
@[simp] theorem State.onFlt_pins (s : State) (f : RedundancySt → RedundancySt) : (s.onFlt f).pins = s.pins := rfl
@[simp] theorem State.onFlt_links (s : State) (f : RedundancySt → RedundancySt) : (s.onFlt f).links = s.links := rfl
@[simp] theorem State.onFlt_commit (s : State) (f : RedundancySt → RedundancySt) : (s.onFlt f).commit = s.commit := rfl
@[simp] theorem State.onFlt_pw (s : State) (f : RedundancySt → RedundancySt) : (s.onFlt f).pw = s.pw := rfl
@[simp] theorem State.onFlt_spw (s : State) (f : RedundancySt → RedundancySt) : (s.onFlt f).spw = s.spw := rfl
@[simp] theorem State.onFlt_fw (s : State) (f : RedundancySt → RedundancySt) : (s.onFlt f).fw = s.fw := rfl
@[simp] theorem State.onFlt_thy (s : State) (f : RedundancySt → RedundancySt) : (s.onFlt f).thy = s.thy := rfl
@[simp] theorem State.onFlt_stk (s : State) (f : RedundancySt → RedundancySt) : (s.onFlt f).stk = s.stk := rfl
@[simp] theorem State.onFlt_rsm (s : State) (f : RedundancySt → RedundancySt) : (s.onFlt f).rsm = s.rsm := rfl
@[simp] theorem State.onFlt_cyl (s : State) (f : RedundancySt → RedundancySt) : (s.onFlt f).cyl = s.cyl := rfl
@[simp] theorem State.onFlt_dieSt (s : State) (f : RedundancySt → RedundancySt) : (s.onFlt f).dieSt = s.dieSt := rfl
@[simp] theorem State.onFlt_line (s : State) (f : RedundancySt → RedundancySt) : (s.onFlt f).line = s.line := rfl
@[simp] theorem State.onFlt_cur (s : State) (f : RedundancySt → RedundancySt) : (s.onFlt f).cur = s.cur := rfl
@[simp] theorem State.onFlt_bay (s : State) (f : RedundancySt → RedundancySt) : (s.onFlt f).bay = s.bay := rfl
@[simp] theorem State.onFlt_mot (s : State) (f : RedundancySt → RedundancySt) : (s.onFlt f).mot = s.mot := rfl
@[simp] theorem State.onFlt_gate (s : State) (f : RedundancySt → RedundancySt) : (s.onFlt f).gate = s.gate := rfl
@[simp] theorem State.onFlt_saf (s : State) (f : RedundancySt → RedundancySt) : (s.onFlt f).saf = s.saf := rfl
@[simp] theorem State.onFlt_prot (s : State) (f : RedundancySt → RedundancySt) : (s.onFlt f).prot = s.prot := rfl
@[simp] theorem State.onFlt_tmp (s : State) (f : RedundancySt → RedundancySt) : (s.onFlt f).tmp = s.tmp := rfl
@[simp] theorem State.onFlt_ls (s : State) (f : RedundancySt → RedundancySt) : (s.onFlt f).ls = s.ls := rfl
@[simp] theorem State.onFlt_sage (s : State) (f : RedundancySt → RedundancySt) : (s.onFlt f).sage = s.sage := rfl
@[simp] theorem State.onFlt_ring (s : State) (f : RedundancySt → RedundancySt) : (s.onFlt f).ring = s.ring := rfl
@[simp] theorem State.onFlt_aut (s : State) (f : RedundancySt → RedundancySt) : (s.onFlt f).aut = s.aut := rfl
@[simp] theorem State.onFlt_saved (s : State) (f : RedundancySt → RedundancySt) : (s.onFlt f).saved = s.saved := rfl
@[simp] theorem State.onFlt_journal (s : State) (f : RedundancySt → RedundancySt) : (s.onFlt f).journal = s.journal := rfl
@[simp] theorem State.onFlt_ratios (s : State) (f : RedundancySt → RedundancySt) : (s.onFlt f).ratios = s.ratios := rfl
@[simp] theorem State.onFlt_pending (s : State) (f : RedundancySt → RedundancySt) : (s.onFlt f).pending = s.pending := rfl
@[simp] theorem State.onFlt_reg (s : State) (f : RedundancySt → RedundancySt) (a : Nat) : (s.onFlt f).reg a = s.reg a := rfl
@[simp] theorem State.onFlt_shadowReg (s : State) (f : RedundancySt → RedundancySt) (a : Nat) : (s.onFlt f).shadowReg a = s.shadowReg a := rfl
@[simp] theorem State.onFlt_get (s : State) (f : RedundancySt → RedundancySt) (x : Fld) : (s.onFlt f).get x = s.get x := rfl
@[simp] theorem State.onFlt_on (s : State) (f : RedundancySt → RedundancySt) (x : Fld) : (s.onFlt f).on x = s.on x := rfl

/-! ### onSaf -/

@[simp] theorem State.onSaf_saf (s : State) (f : SafetySt → SafetySt) : (s.onSaf f).saf = f s.saf := rfl
@[simp] theorem State.onSaf_now (s : State) (f : SafetySt → SafetySt) : (s.onSaf f).now = s.now := rfl
@[simp] theorem State.onSaf_regs (s : State) (f : SafetySt → SafetySt) : (s.onSaf f).regs = s.regs := rfl
@[simp] theorem State.onSaf_shadow (s : State) (f : SafetySt → SafetySt) : (s.onSaf f).shadow = s.shadow := rfl
@[simp] theorem State.onSaf_published (s : State) (f : SafetySt → SafetySt) : (s.onSaf f).published = s.published := rfl
@[simp] theorem State.onSaf_gdieDown (s : State) (f : SafetySt → SafetySt) : (s.onSaf f).gdieDown = s.gdieDown := rfl
@[simp] theorem State.onSaf_pwr (s : State) (f : SafetySt → SafetySt) : (s.onSaf f).pwr = s.pwr := rfl
@[simp] theorem State.onSaf_pins (s : State) (f : SafetySt → SafetySt) : (s.onSaf f).pins = s.pins := rfl
@[simp] theorem State.onSaf_links (s : State) (f : SafetySt → SafetySt) : (s.onSaf f).links = s.links := rfl
@[simp] theorem State.onSaf_commit (s : State) (f : SafetySt → SafetySt) : (s.onSaf f).commit = s.commit := rfl
@[simp] theorem State.onSaf_pw (s : State) (f : SafetySt → SafetySt) : (s.onSaf f).pw = s.pw := rfl
@[simp] theorem State.onSaf_spw (s : State) (f : SafetySt → SafetySt) : (s.onSaf f).spw = s.spw := rfl
@[simp] theorem State.onSaf_fw (s : State) (f : SafetySt → SafetySt) : (s.onSaf f).fw = s.fw := rfl
@[simp] theorem State.onSaf_thy (s : State) (f : SafetySt → SafetySt) : (s.onSaf f).thy = s.thy := rfl
@[simp] theorem State.onSaf_stk (s : State) (f : SafetySt → SafetySt) : (s.onSaf f).stk = s.stk := rfl
@[simp] theorem State.onSaf_rsm (s : State) (f : SafetySt → SafetySt) : (s.onSaf f).rsm = s.rsm := rfl
@[simp] theorem State.onSaf_cyl (s : State) (f : SafetySt → SafetySt) : (s.onSaf f).cyl = s.cyl := rfl
@[simp] theorem State.onSaf_flt (s : State) (f : SafetySt → SafetySt) : (s.onSaf f).flt = s.flt := rfl
@[simp] theorem State.onSaf_dieSt (s : State) (f : SafetySt → SafetySt) : (s.onSaf f).dieSt = s.dieSt := rfl
@[simp] theorem State.onSaf_line (s : State) (f : SafetySt → SafetySt) : (s.onSaf f).line = s.line := rfl
@[simp] theorem State.onSaf_cur (s : State) (f : SafetySt → SafetySt) : (s.onSaf f).cur = s.cur := rfl
@[simp] theorem State.onSaf_bay (s : State) (f : SafetySt → SafetySt) : (s.onSaf f).bay = s.bay := rfl
@[simp] theorem State.onSaf_mot (s : State) (f : SafetySt → SafetySt) : (s.onSaf f).mot = s.mot := rfl
@[simp] theorem State.onSaf_gate (s : State) (f : SafetySt → SafetySt) : (s.onSaf f).gate = s.gate := rfl
@[simp] theorem State.onSaf_prot (s : State) (f : SafetySt → SafetySt) : (s.onSaf f).prot = s.prot := rfl
@[simp] theorem State.onSaf_tmp (s : State) (f : SafetySt → SafetySt) : (s.onSaf f).tmp = s.tmp := rfl
@[simp] theorem State.onSaf_ls (s : State) (f : SafetySt → SafetySt) : (s.onSaf f).ls = s.ls := rfl
@[simp] theorem State.onSaf_sage (s : State) (f : SafetySt → SafetySt) : (s.onSaf f).sage = s.sage := rfl
@[simp] theorem State.onSaf_ring (s : State) (f : SafetySt → SafetySt) : (s.onSaf f).ring = s.ring := rfl
@[simp] theorem State.onSaf_aut (s : State) (f : SafetySt → SafetySt) : (s.onSaf f).aut = s.aut := rfl
@[simp] theorem State.onSaf_saved (s : State) (f : SafetySt → SafetySt) : (s.onSaf f).saved = s.saved := rfl
@[simp] theorem State.onSaf_journal (s : State) (f : SafetySt → SafetySt) : (s.onSaf f).journal = s.journal := rfl
@[simp] theorem State.onSaf_ratios (s : State) (f : SafetySt → SafetySt) : (s.onSaf f).ratios = s.ratios := rfl
@[simp] theorem State.onSaf_pending (s : State) (f : SafetySt → SafetySt) : (s.onSaf f).pending = s.pending := rfl
@[simp] theorem State.onSaf_reg (s : State) (f : SafetySt → SafetySt) (a : Nat) : (s.onSaf f).reg a = s.reg a := rfl
@[simp] theorem State.onSaf_shadowReg (s : State) (f : SafetySt → SafetySt) (a : Nat) : (s.onSaf f).shadowReg a = s.shadowReg a := rfl
@[simp] theorem State.onSaf_get (s : State) (f : SafetySt → SafetySt) (x : Fld) : (s.onSaf f).get x = s.get x := rfl
@[simp] theorem State.onSaf_on (s : State) (f : SafetySt → SafetySt) (x : Fld) : (s.onSaf f).on x = s.on x := rfl

/-! ### onSage -/

@[simp] theorem State.onSage_sage (s : State) (f : SageSt → SageSt) : (s.onSage f).sage = f s.sage := rfl
@[simp] theorem State.onSage_now (s : State) (f : SageSt → SageSt) : (s.onSage f).now = s.now := rfl
@[simp] theorem State.onSage_regs (s : State) (f : SageSt → SageSt) : (s.onSage f).regs = s.regs := rfl
@[simp] theorem State.onSage_shadow (s : State) (f : SageSt → SageSt) : (s.onSage f).shadow = s.shadow := rfl
@[simp] theorem State.onSage_published (s : State) (f : SageSt → SageSt) : (s.onSage f).published = s.published := rfl
@[simp] theorem State.onSage_gdieDown (s : State) (f : SageSt → SageSt) : (s.onSage f).gdieDown = s.gdieDown := rfl
@[simp] theorem State.onSage_pwr (s : State) (f : SageSt → SageSt) : (s.onSage f).pwr = s.pwr := rfl
@[simp] theorem State.onSage_pins (s : State) (f : SageSt → SageSt) : (s.onSage f).pins = s.pins := rfl
@[simp] theorem State.onSage_links (s : State) (f : SageSt → SageSt) : (s.onSage f).links = s.links := rfl
@[simp] theorem State.onSage_commit (s : State) (f : SageSt → SageSt) : (s.onSage f).commit = s.commit := rfl
@[simp] theorem State.onSage_pw (s : State) (f : SageSt → SageSt) : (s.onSage f).pw = s.pw := rfl
@[simp] theorem State.onSage_spw (s : State) (f : SageSt → SageSt) : (s.onSage f).spw = s.spw := rfl
@[simp] theorem State.onSage_fw (s : State) (f : SageSt → SageSt) : (s.onSage f).fw = s.fw := rfl
@[simp] theorem State.onSage_thy (s : State) (f : SageSt → SageSt) : (s.onSage f).thy = s.thy := rfl
@[simp] theorem State.onSage_stk (s : State) (f : SageSt → SageSt) : (s.onSage f).stk = s.stk := rfl
@[simp] theorem State.onSage_rsm (s : State) (f : SageSt → SageSt) : (s.onSage f).rsm = s.rsm := rfl
@[simp] theorem State.onSage_cyl (s : State) (f : SageSt → SageSt) : (s.onSage f).cyl = s.cyl := rfl
@[simp] theorem State.onSage_flt (s : State) (f : SageSt → SageSt) : (s.onSage f).flt = s.flt := rfl
@[simp] theorem State.onSage_dieSt (s : State) (f : SageSt → SageSt) : (s.onSage f).dieSt = s.dieSt := rfl
@[simp] theorem State.onSage_line (s : State) (f : SageSt → SageSt) : (s.onSage f).line = s.line := rfl
@[simp] theorem State.onSage_cur (s : State) (f : SageSt → SageSt) : (s.onSage f).cur = s.cur := rfl
@[simp] theorem State.onSage_bay (s : State) (f : SageSt → SageSt) : (s.onSage f).bay = s.bay := rfl
@[simp] theorem State.onSage_mot (s : State) (f : SageSt → SageSt) : (s.onSage f).mot = s.mot := rfl
@[simp] theorem State.onSage_gate (s : State) (f : SageSt → SageSt) : (s.onSage f).gate = s.gate := rfl
@[simp] theorem State.onSage_saf (s : State) (f : SageSt → SageSt) : (s.onSage f).saf = s.saf := rfl
@[simp] theorem State.onSage_prot (s : State) (f : SageSt → SageSt) : (s.onSage f).prot = s.prot := rfl
@[simp] theorem State.onSage_tmp (s : State) (f : SageSt → SageSt) : (s.onSage f).tmp = s.tmp := rfl
@[simp] theorem State.onSage_ls (s : State) (f : SageSt → SageSt) : (s.onSage f).ls = s.ls := rfl
@[simp] theorem State.onSage_ring (s : State) (f : SageSt → SageSt) : (s.onSage f).ring = s.ring := rfl
@[simp] theorem State.onSage_aut (s : State) (f : SageSt → SageSt) : (s.onSage f).aut = s.aut := rfl
@[simp] theorem State.onSage_saved (s : State) (f : SageSt → SageSt) : (s.onSage f).saved = s.saved := rfl
@[simp] theorem State.onSage_journal (s : State) (f : SageSt → SageSt) : (s.onSage f).journal = s.journal := rfl
@[simp] theorem State.onSage_ratios (s : State) (f : SageSt → SageSt) : (s.onSage f).ratios = s.ratios := rfl
@[simp] theorem State.onSage_pending (s : State) (f : SageSt → SageSt) : (s.onSage f).pending = s.pending := rfl
@[simp] theorem State.onSage_reg (s : State) (f : SageSt → SageSt) (a : Nat) : (s.onSage f).reg a = s.reg a := rfl
@[simp] theorem State.onSage_shadowReg (s : State) (f : SageSt → SageSt) (a : Nat) : (s.onSage f).shadowReg a = s.shadowReg a := rfl
@[simp] theorem State.onSage_get (s : State) (f : SageSt → SageSt) (x : Fld) : (s.onSage f).get x = s.get x := rfl
@[simp] theorem State.onSage_on (s : State) (f : SageSt → SageSt) (x : Fld) : (s.onSage f).on x = s.on x := rfl

/-! ### onRing -/

@[simp] theorem State.onRing_ring (s : State) (f : RingSt → RingSt) : (s.onRing f).ring = f s.ring := rfl
@[simp] theorem State.onRing_now (s : State) (f : RingSt → RingSt) : (s.onRing f).now = s.now := rfl
@[simp] theorem State.onRing_regs (s : State) (f : RingSt → RingSt) : (s.onRing f).regs = s.regs := rfl
@[simp] theorem State.onRing_shadow (s : State) (f : RingSt → RingSt) : (s.onRing f).shadow = s.shadow := rfl
@[simp] theorem State.onRing_published (s : State) (f : RingSt → RingSt) : (s.onRing f).published = s.published := rfl
@[simp] theorem State.onRing_gdieDown (s : State) (f : RingSt → RingSt) : (s.onRing f).gdieDown = s.gdieDown := rfl
@[simp] theorem State.onRing_pwr (s : State) (f : RingSt → RingSt) : (s.onRing f).pwr = s.pwr := rfl
@[simp] theorem State.onRing_pins (s : State) (f : RingSt → RingSt) : (s.onRing f).pins = s.pins := rfl
@[simp] theorem State.onRing_links (s : State) (f : RingSt → RingSt) : (s.onRing f).links = s.links := rfl
@[simp] theorem State.onRing_commit (s : State) (f : RingSt → RingSt) : (s.onRing f).commit = s.commit := rfl
@[simp] theorem State.onRing_pw (s : State) (f : RingSt → RingSt) : (s.onRing f).pw = s.pw := rfl
@[simp] theorem State.onRing_spw (s : State) (f : RingSt → RingSt) : (s.onRing f).spw = s.spw := rfl
@[simp] theorem State.onRing_fw (s : State) (f : RingSt → RingSt) : (s.onRing f).fw = s.fw := rfl
@[simp] theorem State.onRing_thy (s : State) (f : RingSt → RingSt) : (s.onRing f).thy = s.thy := rfl
@[simp] theorem State.onRing_stk (s : State) (f : RingSt → RingSt) : (s.onRing f).stk = s.stk := rfl
@[simp] theorem State.onRing_rsm (s : State) (f : RingSt → RingSt) : (s.onRing f).rsm = s.rsm := rfl
@[simp] theorem State.onRing_cyl (s : State) (f : RingSt → RingSt) : (s.onRing f).cyl = s.cyl := rfl
@[simp] theorem State.onRing_flt (s : State) (f : RingSt → RingSt) : (s.onRing f).flt = s.flt := rfl
@[simp] theorem State.onRing_dieSt (s : State) (f : RingSt → RingSt) : (s.onRing f).dieSt = s.dieSt := rfl
@[simp] theorem State.onRing_line (s : State) (f : RingSt → RingSt) : (s.onRing f).line = s.line := rfl
@[simp] theorem State.onRing_cur (s : State) (f : RingSt → RingSt) : (s.onRing f).cur = s.cur := rfl
@[simp] theorem State.onRing_bay (s : State) (f : RingSt → RingSt) : (s.onRing f).bay = s.bay := rfl
@[simp] theorem State.onRing_mot (s : State) (f : RingSt → RingSt) : (s.onRing f).mot = s.mot := rfl
@[simp] theorem State.onRing_gate (s : State) (f : RingSt → RingSt) : (s.onRing f).gate = s.gate := rfl
@[simp] theorem State.onRing_saf (s : State) (f : RingSt → RingSt) : (s.onRing f).saf = s.saf := rfl
@[simp] theorem State.onRing_prot (s : State) (f : RingSt → RingSt) : (s.onRing f).prot = s.prot := rfl
@[simp] theorem State.onRing_tmp (s : State) (f : RingSt → RingSt) : (s.onRing f).tmp = s.tmp := rfl
@[simp] theorem State.onRing_ls (s : State) (f : RingSt → RingSt) : (s.onRing f).ls = s.ls := rfl
@[simp] theorem State.onRing_sage (s : State) (f : RingSt → RingSt) : (s.onRing f).sage = s.sage := rfl
@[simp] theorem State.onRing_aut (s : State) (f : RingSt → RingSt) : (s.onRing f).aut = s.aut := rfl
@[simp] theorem State.onRing_saved (s : State) (f : RingSt → RingSt) : (s.onRing f).saved = s.saved := rfl
@[simp] theorem State.onRing_journal (s : State) (f : RingSt → RingSt) : (s.onRing f).journal = s.journal := rfl
@[simp] theorem State.onRing_ratios (s : State) (f : RingSt → RingSt) : (s.onRing f).ratios = s.ratios := rfl
@[simp] theorem State.onRing_pending (s : State) (f : RingSt → RingSt) : (s.onRing f).pending = s.pending := rfl
@[simp] theorem State.onRing_reg (s : State) (f : RingSt → RingSt) (a : Nat) : (s.onRing f).reg a = s.reg a := rfl
@[simp] theorem State.onRing_shadowReg (s : State) (f : RingSt → RingSt) (a : Nat) : (s.onRing f).shadowReg a = s.shadowReg a := rfl
@[simp] theorem State.onRing_get (s : State) (f : RingSt → RingSt) (x : Fld) : (s.onRing f).get x = s.get x := rfl
@[simp] theorem State.onRing_on (s : State) (f : RingSt → RingSt) (x : Fld) : (s.onRing f).on x = s.on x := rfl

/-! ### onAut -/

@[simp] theorem State.onAut_aut (s : State) (f : AuthSt → AuthSt) : (s.onAut f).aut = f s.aut := rfl
@[simp] theorem State.onAut_now (s : State) (f : AuthSt → AuthSt) : (s.onAut f).now = s.now := rfl
@[simp] theorem State.onAut_regs (s : State) (f : AuthSt → AuthSt) : (s.onAut f).regs = s.regs := rfl
@[simp] theorem State.onAut_shadow (s : State) (f : AuthSt → AuthSt) : (s.onAut f).shadow = s.shadow := rfl
@[simp] theorem State.onAut_published (s : State) (f : AuthSt → AuthSt) : (s.onAut f).published = s.published := rfl
@[simp] theorem State.onAut_gdieDown (s : State) (f : AuthSt → AuthSt) : (s.onAut f).gdieDown = s.gdieDown := rfl
@[simp] theorem State.onAut_pwr (s : State) (f : AuthSt → AuthSt) : (s.onAut f).pwr = s.pwr := rfl
@[simp] theorem State.onAut_pins (s : State) (f : AuthSt → AuthSt) : (s.onAut f).pins = s.pins := rfl
@[simp] theorem State.onAut_links (s : State) (f : AuthSt → AuthSt) : (s.onAut f).links = s.links := rfl
@[simp] theorem State.onAut_commit (s : State) (f : AuthSt → AuthSt) : (s.onAut f).commit = s.commit := rfl
@[simp] theorem State.onAut_pw (s : State) (f : AuthSt → AuthSt) : (s.onAut f).pw = s.pw := rfl
@[simp] theorem State.onAut_spw (s : State) (f : AuthSt → AuthSt) : (s.onAut f).spw = s.spw := rfl
@[simp] theorem State.onAut_fw (s : State) (f : AuthSt → AuthSt) : (s.onAut f).fw = s.fw := rfl
@[simp] theorem State.onAut_thy (s : State) (f : AuthSt → AuthSt) : (s.onAut f).thy = s.thy := rfl
@[simp] theorem State.onAut_stk (s : State) (f : AuthSt → AuthSt) : (s.onAut f).stk = s.stk := rfl
@[simp] theorem State.onAut_rsm (s : State) (f : AuthSt → AuthSt) : (s.onAut f).rsm = s.rsm := rfl
@[simp] theorem State.onAut_cyl (s : State) (f : AuthSt → AuthSt) : (s.onAut f).cyl = s.cyl := rfl
@[simp] theorem State.onAut_flt (s : State) (f : AuthSt → AuthSt) : (s.onAut f).flt = s.flt := rfl
@[simp] theorem State.onAut_dieSt (s : State) (f : AuthSt → AuthSt) : (s.onAut f).dieSt = s.dieSt := rfl
@[simp] theorem State.onAut_line (s : State) (f : AuthSt → AuthSt) : (s.onAut f).line = s.line := rfl
@[simp] theorem State.onAut_cur (s : State) (f : AuthSt → AuthSt) : (s.onAut f).cur = s.cur := rfl
@[simp] theorem State.onAut_bay (s : State) (f : AuthSt → AuthSt) : (s.onAut f).bay = s.bay := rfl
@[simp] theorem State.onAut_mot (s : State) (f : AuthSt → AuthSt) : (s.onAut f).mot = s.mot := rfl
@[simp] theorem State.onAut_gate (s : State) (f : AuthSt → AuthSt) : (s.onAut f).gate = s.gate := rfl
@[simp] theorem State.onAut_saf (s : State) (f : AuthSt → AuthSt) : (s.onAut f).saf = s.saf := rfl
@[simp] theorem State.onAut_prot (s : State) (f : AuthSt → AuthSt) : (s.onAut f).prot = s.prot := rfl
@[simp] theorem State.onAut_tmp (s : State) (f : AuthSt → AuthSt) : (s.onAut f).tmp = s.tmp := rfl
@[simp] theorem State.onAut_ls (s : State) (f : AuthSt → AuthSt) : (s.onAut f).ls = s.ls := rfl
@[simp] theorem State.onAut_sage (s : State) (f : AuthSt → AuthSt) : (s.onAut f).sage = s.sage := rfl
@[simp] theorem State.onAut_ring (s : State) (f : AuthSt → AuthSt) : (s.onAut f).ring = s.ring := rfl
@[simp] theorem State.onAut_saved (s : State) (f : AuthSt → AuthSt) : (s.onAut f).saved = s.saved := rfl
@[simp] theorem State.onAut_journal (s : State) (f : AuthSt → AuthSt) : (s.onAut f).journal = s.journal := rfl
@[simp] theorem State.onAut_ratios (s : State) (f : AuthSt → AuthSt) : (s.onAut f).ratios = s.ratios := rfl
@[simp] theorem State.onAut_pending (s : State) (f : AuthSt → AuthSt) : (s.onAut f).pending = s.pending := rfl
@[simp] theorem State.onAut_reg (s : State) (f : AuthSt → AuthSt) (a : Nat) : (s.onAut f).reg a = s.reg a := rfl
@[simp] theorem State.onAut_shadowReg (s : State) (f : AuthSt → AuthSt) (a : Nat) : (s.onAut f).shadowReg a = s.shadowReg a := rfl
@[simp] theorem State.onAut_get (s : State) (f : AuthSt → AuthSt) (x : Fld) : (s.onAut f).get x = s.get x := rfl
@[simp] theorem State.onAut_on (s : State) (f : AuthSt → AuthSt) (x : Fld) : (s.onAut f).on x = s.on x := rfl

/-! ### onTmp -/

@[simp] theorem State.onTmp_tmp (s : State) (f : ThermalSt → ThermalSt) : (s.onTmp f).tmp = f s.tmp := rfl
@[simp] theorem State.onTmp_now (s : State) (f : ThermalSt → ThermalSt) : (s.onTmp f).now = s.now := rfl
@[simp] theorem State.onTmp_regs (s : State) (f : ThermalSt → ThermalSt) : (s.onTmp f).regs = s.regs := rfl
@[simp] theorem State.onTmp_shadow (s : State) (f : ThermalSt → ThermalSt) : (s.onTmp f).shadow = s.shadow := rfl
@[simp] theorem State.onTmp_published (s : State) (f : ThermalSt → ThermalSt) : (s.onTmp f).published = s.published := rfl
@[simp] theorem State.onTmp_gdieDown (s : State) (f : ThermalSt → ThermalSt) : (s.onTmp f).gdieDown = s.gdieDown := rfl
@[simp] theorem State.onTmp_pwr (s : State) (f : ThermalSt → ThermalSt) : (s.onTmp f).pwr = s.pwr := rfl
@[simp] theorem State.onTmp_pins (s : State) (f : ThermalSt → ThermalSt) : (s.onTmp f).pins = s.pins := rfl
@[simp] theorem State.onTmp_links (s : State) (f : ThermalSt → ThermalSt) : (s.onTmp f).links = s.links := rfl
@[simp] theorem State.onTmp_commit (s : State) (f : ThermalSt → ThermalSt) : (s.onTmp f).commit = s.commit := rfl
@[simp] theorem State.onTmp_pw (s : State) (f : ThermalSt → ThermalSt) : (s.onTmp f).pw = s.pw := rfl
@[simp] theorem State.onTmp_spw (s : State) (f : ThermalSt → ThermalSt) : (s.onTmp f).spw = s.spw := rfl
@[simp] theorem State.onTmp_fw (s : State) (f : ThermalSt → ThermalSt) : (s.onTmp f).fw = s.fw := rfl
@[simp] theorem State.onTmp_thy (s : State) (f : ThermalSt → ThermalSt) : (s.onTmp f).thy = s.thy := rfl
@[simp] theorem State.onTmp_stk (s : State) (f : ThermalSt → ThermalSt) : (s.onTmp f).stk = s.stk := rfl
@[simp] theorem State.onTmp_rsm (s : State) (f : ThermalSt → ThermalSt) : (s.onTmp f).rsm = s.rsm := rfl
@[simp] theorem State.onTmp_cyl (s : State) (f : ThermalSt → ThermalSt) : (s.onTmp f).cyl = s.cyl := rfl
@[simp] theorem State.onTmp_flt (s : State) (f : ThermalSt → ThermalSt) : (s.onTmp f).flt = s.flt := rfl
@[simp] theorem State.onTmp_dieSt (s : State) (f : ThermalSt → ThermalSt) : (s.onTmp f).dieSt = s.dieSt := rfl
@[simp] theorem State.onTmp_line (s : State) (f : ThermalSt → ThermalSt) : (s.onTmp f).line = s.line := rfl
@[simp] theorem State.onTmp_cur (s : State) (f : ThermalSt → ThermalSt) : (s.onTmp f).cur = s.cur := rfl
@[simp] theorem State.onTmp_bay (s : State) (f : ThermalSt → ThermalSt) : (s.onTmp f).bay = s.bay := rfl
@[simp] theorem State.onTmp_mot (s : State) (f : ThermalSt → ThermalSt) : (s.onTmp f).mot = s.mot := rfl
@[simp] theorem State.onTmp_gate (s : State) (f : ThermalSt → ThermalSt) : (s.onTmp f).gate = s.gate := rfl
@[simp] theorem State.onTmp_saf (s : State) (f : ThermalSt → ThermalSt) : (s.onTmp f).saf = s.saf := rfl
@[simp] theorem State.onTmp_prot (s : State) (f : ThermalSt → ThermalSt) : (s.onTmp f).prot = s.prot := rfl
@[simp] theorem State.onTmp_ls (s : State) (f : ThermalSt → ThermalSt) : (s.onTmp f).ls = s.ls := rfl
@[simp] theorem State.onTmp_sage (s : State) (f : ThermalSt → ThermalSt) : (s.onTmp f).sage = s.sage := rfl
@[simp] theorem State.onTmp_ring (s : State) (f : ThermalSt → ThermalSt) : (s.onTmp f).ring = s.ring := rfl
@[simp] theorem State.onTmp_aut (s : State) (f : ThermalSt → ThermalSt) : (s.onTmp f).aut = s.aut := rfl
@[simp] theorem State.onTmp_saved (s : State) (f : ThermalSt → ThermalSt) : (s.onTmp f).saved = s.saved := rfl
@[simp] theorem State.onTmp_journal (s : State) (f : ThermalSt → ThermalSt) : (s.onTmp f).journal = s.journal := rfl
@[simp] theorem State.onTmp_ratios (s : State) (f : ThermalSt → ThermalSt) : (s.onTmp f).ratios = s.ratios := rfl
@[simp] theorem State.onTmp_pending (s : State) (f : ThermalSt → ThermalSt) : (s.onTmp f).pending = s.pending := rfl
@[simp] theorem State.onTmp_reg (s : State) (f : ThermalSt → ThermalSt) (a : Nat) : (s.onTmp f).reg a = s.reg a := rfl
@[simp] theorem State.onTmp_shadowReg (s : State) (f : ThermalSt → ThermalSt) (a : Nat) : (s.onTmp f).shadowReg a = s.shadowReg a := rfl
@[simp] theorem State.onTmp_get (s : State) (f : ThermalSt → ThermalSt) (x : Fld) : (s.onTmp f).get x = s.get x := rfl
@[simp] theorem State.onTmp_on (s : State) (f : ThermalSt → ThermalSt) (x : Fld) : (s.onTmp f).on x = s.on x := rfl

/-! ### onThy -/

@[simp] theorem State.onThy_thy (s : State) (f : ThymeSt → ThymeSt) : (s.onThy f).thy = f s.thy := rfl
@[simp] theorem State.onThy_now (s : State) (f : ThymeSt → ThymeSt) : (s.onThy f).now = s.now := rfl
@[simp] theorem State.onThy_regs (s : State) (f : ThymeSt → ThymeSt) : (s.onThy f).regs = s.regs := rfl
@[simp] theorem State.onThy_shadow (s : State) (f : ThymeSt → ThymeSt) : (s.onThy f).shadow = s.shadow := rfl
@[simp] theorem State.onThy_published (s : State) (f : ThymeSt → ThymeSt) : (s.onThy f).published = s.published := rfl
@[simp] theorem State.onThy_gdieDown (s : State) (f : ThymeSt → ThymeSt) : (s.onThy f).gdieDown = s.gdieDown := rfl
@[simp] theorem State.onThy_pwr (s : State) (f : ThymeSt → ThymeSt) : (s.onThy f).pwr = s.pwr := rfl
@[simp] theorem State.onThy_pins (s : State) (f : ThymeSt → ThymeSt) : (s.onThy f).pins = s.pins := rfl
@[simp] theorem State.onThy_links (s : State) (f : ThymeSt → ThymeSt) : (s.onThy f).links = s.links := rfl
@[simp] theorem State.onThy_commit (s : State) (f : ThymeSt → ThymeSt) : (s.onThy f).commit = s.commit := rfl
@[simp] theorem State.onThy_pw (s : State) (f : ThymeSt → ThymeSt) : (s.onThy f).pw = s.pw := rfl
@[simp] theorem State.onThy_spw (s : State) (f : ThymeSt → ThymeSt) : (s.onThy f).spw = s.spw := rfl
@[simp] theorem State.onThy_fw (s : State) (f : ThymeSt → ThymeSt) : (s.onThy f).fw = s.fw := rfl
@[simp] theorem State.onThy_stk (s : State) (f : ThymeSt → ThymeSt) : (s.onThy f).stk = s.stk := rfl
@[simp] theorem State.onThy_rsm (s : State) (f : ThymeSt → ThymeSt) : (s.onThy f).rsm = s.rsm := rfl
@[simp] theorem State.onThy_cyl (s : State) (f : ThymeSt → ThymeSt) : (s.onThy f).cyl = s.cyl := rfl
@[simp] theorem State.onThy_flt (s : State) (f : ThymeSt → ThymeSt) : (s.onThy f).flt = s.flt := rfl
@[simp] theorem State.onThy_dieSt (s : State) (f : ThymeSt → ThymeSt) : (s.onThy f).dieSt = s.dieSt := rfl
@[simp] theorem State.onThy_line (s : State) (f : ThymeSt → ThymeSt) : (s.onThy f).line = s.line := rfl
@[simp] theorem State.onThy_cur (s : State) (f : ThymeSt → ThymeSt) : (s.onThy f).cur = s.cur := rfl
@[simp] theorem State.onThy_bay (s : State) (f : ThymeSt → ThymeSt) : (s.onThy f).bay = s.bay := rfl
@[simp] theorem State.onThy_mot (s : State) (f : ThymeSt → ThymeSt) : (s.onThy f).mot = s.mot := rfl
@[simp] theorem State.onThy_gate (s : State) (f : ThymeSt → ThymeSt) : (s.onThy f).gate = s.gate := rfl
@[simp] theorem State.onThy_saf (s : State) (f : ThymeSt → ThymeSt) : (s.onThy f).saf = s.saf := rfl
@[simp] theorem State.onThy_prot (s : State) (f : ThymeSt → ThymeSt) : (s.onThy f).prot = s.prot := rfl
@[simp] theorem State.onThy_tmp (s : State) (f : ThymeSt → ThymeSt) : (s.onThy f).tmp = s.tmp := rfl
@[simp] theorem State.onThy_ls (s : State) (f : ThymeSt → ThymeSt) : (s.onThy f).ls = s.ls := rfl
@[simp] theorem State.onThy_sage (s : State) (f : ThymeSt → ThymeSt) : (s.onThy f).sage = s.sage := rfl
@[simp] theorem State.onThy_ring (s : State) (f : ThymeSt → ThymeSt) : (s.onThy f).ring = s.ring := rfl
@[simp] theorem State.onThy_aut (s : State) (f : ThymeSt → ThymeSt) : (s.onThy f).aut = s.aut := rfl
@[simp] theorem State.onThy_saved (s : State) (f : ThymeSt → ThymeSt) : (s.onThy f).saved = s.saved := rfl
@[simp] theorem State.onThy_journal (s : State) (f : ThymeSt → ThymeSt) : (s.onThy f).journal = s.journal := rfl
@[simp] theorem State.onThy_ratios (s : State) (f : ThymeSt → ThymeSt) : (s.onThy f).ratios = s.ratios := rfl
@[simp] theorem State.onThy_pending (s : State) (f : ThymeSt → ThymeSt) : (s.onThy f).pending = s.pending := rfl
@[simp] theorem State.onThy_reg (s : State) (f : ThymeSt → ThymeSt) (a : Nat) : (s.onThy f).reg a = s.reg a := rfl
@[simp] theorem State.onThy_shadowReg (s : State) (f : ThymeSt → ThymeSt) (a : Nat) : (s.onThy f).shadowReg a = s.shadowReg a := rfl
@[simp] theorem State.onThy_get (s : State) (f : ThymeSt → ThymeSt) (x : Fld) : (s.onThy f).get x = s.get x := rfl
@[simp] theorem State.onThy_on (s : State) (f : ThymeSt → ThymeSt) (x : Fld) : (s.onThy f).on x = s.on x := rfl

/-! ### onStk -/

@[simp] theorem State.onStk_stk (s : State) (f : StackSt → StackSt) : (s.onStk f).stk = f s.stk := rfl
@[simp] theorem State.onStk_now (s : State) (f : StackSt → StackSt) : (s.onStk f).now = s.now := rfl
@[simp] theorem State.onStk_regs (s : State) (f : StackSt → StackSt) : (s.onStk f).regs = s.regs := rfl
@[simp] theorem State.onStk_shadow (s : State) (f : StackSt → StackSt) : (s.onStk f).shadow = s.shadow := rfl
@[simp] theorem State.onStk_published (s : State) (f : StackSt → StackSt) : (s.onStk f).published = s.published := rfl
@[simp] theorem State.onStk_gdieDown (s : State) (f : StackSt → StackSt) : (s.onStk f).gdieDown = s.gdieDown := rfl
@[simp] theorem State.onStk_pwr (s : State) (f : StackSt → StackSt) : (s.onStk f).pwr = s.pwr := rfl
@[simp] theorem State.onStk_pins (s : State) (f : StackSt → StackSt) : (s.onStk f).pins = s.pins := rfl
@[simp] theorem State.onStk_links (s : State) (f : StackSt → StackSt) : (s.onStk f).links = s.links := rfl
@[simp] theorem State.onStk_commit (s : State) (f : StackSt → StackSt) : (s.onStk f).commit = s.commit := rfl
@[simp] theorem State.onStk_pw (s : State) (f : StackSt → StackSt) : (s.onStk f).pw = s.pw := rfl
@[simp] theorem State.onStk_spw (s : State) (f : StackSt → StackSt) : (s.onStk f).spw = s.spw := rfl
@[simp] theorem State.onStk_fw (s : State) (f : StackSt → StackSt) : (s.onStk f).fw = s.fw := rfl
@[simp] theorem State.onStk_thy (s : State) (f : StackSt → StackSt) : (s.onStk f).thy = s.thy := rfl
@[simp] theorem State.onStk_rsm (s : State) (f : StackSt → StackSt) : (s.onStk f).rsm = s.rsm := rfl
@[simp] theorem State.onStk_cyl (s : State) (f : StackSt → StackSt) : (s.onStk f).cyl = s.cyl := rfl
@[simp] theorem State.onStk_flt (s : State) (f : StackSt → StackSt) : (s.onStk f).flt = s.flt := rfl
@[simp] theorem State.onStk_dieSt (s : State) (f : StackSt → StackSt) : (s.onStk f).dieSt = s.dieSt := rfl
@[simp] theorem State.onStk_line (s : State) (f : StackSt → StackSt) : (s.onStk f).line = s.line := rfl
@[simp] theorem State.onStk_cur (s : State) (f : StackSt → StackSt) : (s.onStk f).cur = s.cur := rfl
@[simp] theorem State.onStk_bay (s : State) (f : StackSt → StackSt) : (s.onStk f).bay = s.bay := rfl
@[simp] theorem State.onStk_mot (s : State) (f : StackSt → StackSt) : (s.onStk f).mot = s.mot := rfl
@[simp] theorem State.onStk_gate (s : State) (f : StackSt → StackSt) : (s.onStk f).gate = s.gate := rfl
@[simp] theorem State.onStk_saf (s : State) (f : StackSt → StackSt) : (s.onStk f).saf = s.saf := rfl
@[simp] theorem State.onStk_prot (s : State) (f : StackSt → StackSt) : (s.onStk f).prot = s.prot := rfl
@[simp] theorem State.onStk_tmp (s : State) (f : StackSt → StackSt) : (s.onStk f).tmp = s.tmp := rfl
@[simp] theorem State.onStk_ls (s : State) (f : StackSt → StackSt) : (s.onStk f).ls = s.ls := rfl
@[simp] theorem State.onStk_sage (s : State) (f : StackSt → StackSt) : (s.onStk f).sage = s.sage := rfl
@[simp] theorem State.onStk_ring (s : State) (f : StackSt → StackSt) : (s.onStk f).ring = s.ring := rfl
@[simp] theorem State.onStk_aut (s : State) (f : StackSt → StackSt) : (s.onStk f).aut = s.aut := rfl
@[simp] theorem State.onStk_saved (s : State) (f : StackSt → StackSt) : (s.onStk f).saved = s.saved := rfl
@[simp] theorem State.onStk_journal (s : State) (f : StackSt → StackSt) : (s.onStk f).journal = s.journal := rfl
@[simp] theorem State.onStk_ratios (s : State) (f : StackSt → StackSt) : (s.onStk f).ratios = s.ratios := rfl
@[simp] theorem State.onStk_pending (s : State) (f : StackSt → StackSt) : (s.onStk f).pending = s.pending := rfl
@[simp] theorem State.onStk_reg (s : State) (f : StackSt → StackSt) (a : Nat) : (s.onStk f).reg a = s.reg a := rfl
@[simp] theorem State.onStk_shadowReg (s : State) (f : StackSt → StackSt) (a : Nat) : (s.onStk f).shadowReg a = s.shadowReg a := rfl
@[simp] theorem State.onStk_get (s : State) (f : StackSt → StackSt) (x : Fld) : (s.onStk f).get x = s.get x := rfl
@[simp] theorem State.onStk_on (s : State) (f : StackSt → StackSt) (x : Fld) : (s.onStk f).on x = s.on x := rfl
@[simp] theorem State.send_reg (s : State) (e : Event) (x : Nat) : (s.send e).reg x = s.reg x := rfl
@[simp] theorem State.send_shadowReg (s : State) (e : Event) (x : Nat) : (s.send e).shadowReg x = s.shadowReg x := rfl
@[simp] theorem State.send_get (s : State) (e : Event) (x : Fld) : (s.send e).get x = s.get x := rfl
@[simp] theorem State.send_on (s : State) (e : Event) (x : Fld) : (s.send e).on x = s.on x := rfl
@[simp] theorem State.raise_reg (s : State) (p : Nat) (low : EventLow) (c src : Nat) (l : List Nat) (x : Nat) : (s.raise p low c src l).reg x = s.reg x := rfl
@[simp] theorem State.raise_shadowReg (s : State) (p : Nat) (low : EventLow) (c src : Nat) (l : List Nat) (x : Nat) : (s.raise p low c src l).shadowReg x = s.shadowReg x := rfl
@[simp] theorem State.raise_get (s : State) (p : Nat) (low : EventLow) (c src : Nat) (l : List Nat) (x : Fld) : (s.raise p low c src l).get x = s.get x := rfl
@[simp] theorem State.raise_on (s : State) (p : Nat) (low : EventLow) (c src : Nat) (l : List Nat) (x : Fld) : (s.raise p low c src l).on x = s.on x := rfl
@[simp] theorem State.listed_reg (s : State) (p tag c : Nat) (l : List Nat) (x : Nat) : (s.listed p tag c l).reg x = s.reg x := rfl
@[simp] theorem State.listed_shadowReg (s : State) (p tag c : Nat) (l : List Nat) (x : Nat) : (s.listed p tag c l).shadowReg x = s.shadowReg x := rfl
@[simp] theorem State.listed_get (s : State) (p tag c : Nat) (l : List Nat) (x : Fld) : (s.listed p tag c l).get x = s.get x := rfl
@[simp] theorem State.listed_on (s : State) (p tag c : Nat) (l : List Nat) (x : Fld) : (s.listed p tag c l).on x = s.on x := rfl
@[simp] theorem State.advanceTo_reg (s : State) (t : Nat) (x : Nat) : (s.advanceTo t).reg x = s.reg x := rfl
@[simp] theorem State.advanceTo_shadowReg (s : State) (t : Nat) (x : Nat) : (s.advanceTo t).shadowReg x = s.shadowReg x := rfl
@[simp] theorem State.advanceTo_get (s : State) (t : Nat) (x : Fld) : (s.advanceTo t).get x = s.get x := rfl
@[simp] theorem State.advanceTo_on (s : State) (t : Nat) (x : Fld) : (s.advanceTo t).on x = s.on x := rfl

end Sys2Proof.Machine
end

