-- ==== Sys2Proof/Laws/Words.lean ====
section
/-! SUPPORT. What storing a word and setting a field do to every word and field of the active copy, and that they leave the
shadow copy alone. -/
namespace Sys2Proof.Machine

theorem addrOf_div {p w : Nat} (h : w < 256) : addrOf p w / 256 = p := by unfold addrOf; omega
theorem addrOf_mod {p w : Nat} (h : w < 256) : addrOf p w % 256 = w := by unfold addrOf; omega

/-! ### publish and put -/

/-- A publication changes FRAMESEQ of its page and no other word. -/
theorem State.reg_publish_other {p b : Nat} (h : b ≠ addrOf p 7) (s : State) (q : Word) : (s.publish p q).reg b = s.reg b := by
  unfold State.publish
  split
  · rfl
  · exact State.reg_setReg_other h s q

theorem State.reg_publish_same (s : State) (p : Nat) (q : Word) : (s.publish p q).reg (addrOf p 7) = q := by
  unfold State.publish
  split
  · rename_i h; exact h.1
  · exact State.reg_setReg_same s (addrOf p 7) q

/-- A word stored reads back. -/
@[simp] theorem State.reg_put_same (s : State) (a : Nat) (v : Word) : (s.put a v).reg a = v := by
  unfold State.put
  split
  · assumption
  · split
    · rename_i h
      rw [State.reg_publish_other (by unfold addrOf; omega)]; simp
    · simp

/-- A word stored changes at most one other word: FRAMESEQ of its page. -/
theorem State.reg_put_other {a b : Nat} (h : b ≠ a) (h7 : b ≠ addrOf (a / 256) 7) (s : State) (v : Word) :
    (s.put a v).reg b = s.reg b := by
  unfold State.put
  split
  · rfl
  · split
    · rw [State.reg_publish_other h7, State.reg_setReg_other h]
    · exact State.reg_setReg_other h s v

/-- A word stored outside words 0x60 to 0xDF of an untied page changes no other word. -/
theorem State.reg_put_quiet {a b : Nat} (h : b ≠ a) (hq : ¬ (0x60 ≤ a % 256 ∧ a % 256 ≤ 0xDF ∧ frameTied (a / 256) = false))
    (s : State) (v : Word) : (s.put a v).reg b = s.reg b := by
  unfold State.put
  rw [if_neg hq]
  split
  · rfl
  · exact State.reg_setReg_other h s v

theorem State.reg_put (s : State) (a b : Nat) (v : Word) :
    (s.put a v).reg b = if b = a then v else if b = addrOf (a / 256) 7 then (s.put a v).reg b else s.reg b := by
  split
  · rename_i h; subst h; simp
  · split
    · rfl
    · rename_i h h7; exact State.reg_put_other h h7 s v

@[simp] theorem State.shadowReg_publish (s : State) (p : Nat) (q : Word) (b : Nat) :
    (s.publish p q).shadowReg b = s.shadowReg b := by simp [State.shadowReg]

@[simp] theorem State.shadowReg_put (s : State) (a : Nat) (v : Word) (b : Nat) : (s.put a v).shadowReg b = s.shadowReg b := by
  simp [State.shadowReg]

/-! ### Fields -/

/-- The field lies in a word: its bits rise and are bits of a word, and its word is a word of a page. -/
def Fld.ok (f : Fld) : Prop := f.lo ≤ f.hi ∧ f.hi < 32 ∧ f.word < 256

/-- A field set reads what fits in it. -/
theorem State.get_set_same (s : State) (f : Fld) (v : Nat) (h : f.ok) : (s.set f v).get f = v % 2 ^ (f.hi + 1 - f.lo) := by
  unfold State.set State.get
  rw [State.reg_put_same]
  exact bitsOf_withBits _ _ _ _ h.1 h.2.1

/-- A field set leaves the fields of other words alone, FRAMESEQ of its page apart. -/
theorem State.get_set_other {f g : Fld} (h : g.addr ≠ f.addr) (h7 : g.addr ≠ addrOf (f.addr / 256) 7) (s : State) (v : Nat) :
    (s.set f v).get g = s.get g := by
  unfold State.set State.get
  rw [State.reg_put_other h h7]

/-- A field set leaves the other fields of its word alone. -/
theorem State.get_set_apart {f g : Fld} (hf : f.ok) (h : g.addr = f.addr) (hd : g.hi < f.lo ∨ f.hi < g.lo) (s : State) (v : Nat) :
    (s.set f v).get g = s.get g := by
  unfold State.set State.get
  rw [h, State.reg_put_same]
  exact bitsOf_withBits_apart _ _ _ _ _ _ hf.1 hf.2.1 hd

theorem State.reg_set_other {f : Fld} {b : Nat} (h : b ≠ f.addr) (h7 : b ≠ addrOf (f.addr / 256) 7) (s : State) (v : Nat) :
    (s.set f v).reg b = s.reg b := by
  unfold State.set; exact State.reg_put_other h h7 s _

@[simp] theorem State.shadowReg_set (s : State) (f : Fld) (v b : Nat) : (s.set f v).shadowReg b = s.shadowReg b := by
  simp [State.set]

theorem ofBool_mod (b : Bool) (n : Nat) (h : 0 < n) : ofBool b % 2 ^ n = ofBool b := by
  apply Nat.mod_eq_of_lt
  have : 2 ≤ 2 ^ n := by calc 2 = 2 ^ 1 := rfl
    _ ≤ 2 ^ n := Nat.pow_le_pow_right (by omega) h
  have h1 : ofBool b ≤ 1 := by cases b <;> decide
  omega

/-- A one-bit field set reads as it was set. -/
theorem State.on_setOn_same (s : State) (f : Fld) (b : Bool) (h : f.ok) : (s.setOn f b).on f = b := by
  unfold State.setOn State.on
  rw [State.get_set_same s f _ h, ofBool_mod b _ (by have := h.1; omega)]
  cases b <;> rfl

theorem State.on_setOn_other {f g : Fld} (h : g.addr ≠ f.addr) (h7 : g.addr ≠ addrOf (f.addr / 256) 7) (s : State) (b : Bool) :
    (s.setOn f b).on g = s.on g := by
  unfold State.setOn State.on; rw [State.get_set_other h h7]

theorem State.on_setOn_apart {f g : Fld} (hf : f.ok) (h : g.addr = f.addr) (hd : g.hi < f.lo ∨ f.hi < g.lo) (s : State)
    (b : Bool) : (s.setOn f b).on g = s.on g := by
  unfold State.setOn State.on; rw [State.get_set_apart hf h hd]

/-- A flag set reads 1. -/
theorem State.on_flag_same (s : State) (f : Fld) (h : f.ok) : (s.flag f).on f = true := by
  unfold State.flag State.on
  rw [State.get_set_same s f _ h]
  have := ofBool_mod true (f.hi + 1 - f.lo) (by have := h.1; omega)
  simp only [ofBool, if_true] at this
  rw [this]; rfl

/-- A count goes up by one, and stays at the greatest value of its field. -/
theorem State.get_count_same (s : State) (f : Fld) (h : f.ok) :
    (s.count f).get f = min (s.get f + 1) (2 ^ (f.hi + 1 - f.lo) - 1) := by
  unfold State.count
  rw [State.get_set_same s f _ h]
  apply Nat.mod_eq_of_lt
  have := Nat.two_pow_pos (f.hi + 1 - f.lo)
  unfold satAdd; omega

/-- A number in range set in a field reads back. -/
theorem State.get_set_fits (s : State) (f : Fld) (v : Nat) (h : f.ok) (hv : v < 2 ^ (f.hi + 1 - f.lo)) : (s.set f v).get f = v := by
  rw [State.get_set_same s f v h, Nat.mod_eq_of_lt hv]

/-! ### Events -/

/-- An event joins the end of what waits for island 1. -/
theorem State.send_inbox (s : State) (e : Event) : (s.send e).rsm.inbox = s.rsm.inbox ++ [e] := rfl

/-- A flag with its event sets the flag like the flag alone. -/
theorem State.reg_flagEvent (s : State) (f : Fld) (c : Nat) (l : List Nat) (b : Nat) : (s.flagEvent f c l).reg b = (s.flag f).reg b := rfl

theorem State.get_flagEvent (s : State) (f : Fld) (c : Nat) (l : List Nat) (g : Fld) : (s.flagEvent f c l).get g = (s.flag f).get g := rfl

/-! ### The canonical form -/

/-- Storing a word in the active copy keeps both files canonical. -/
theorem State.filesWf_setReg {s : State} (h : s.filesWf = true) (a : Nat) (v : Word) :
    (s.setReg a v).filesWf = true := by
  simp only [State.filesWf, Bool.and_eq_true] at h ⊢
  exact ⟨regsWf_store a v h.1, h.2⟩

/-- Storing a word in the shadow copy keeps both files canonical. -/
theorem State.filesWf_setShadow {s : State} (h : s.filesWf = true) (a : Nat) (v : Word) :
    (s.setShadow a v).filesWf = true := by
  simp only [State.filesWf, Bool.and_eq_true] at h ⊢
  exact ⟨h.1, regsWf_store a v h.2⟩

/-- A publication keeps both files canonical. -/
theorem State.filesWf_publish {s : State} (h : s.filesWf = true) (p : Nat) (q : Word) :
    (s.publish p q).filesWf = true := by
  unfold State.publish
  split
  · exact h
  · exact State.filesWf_setReg h _ _

/-- Storing a word keeps both files canonical. -/
theorem State.filesWf_put {s : State} (h : s.filesWf = true) (a : Nat) (v : Word) :
    (s.put a v).filesWf = true := by
  unfold State.put
  split
  · exact h
  · split
    · exact State.filesWf_publish (State.filesWf_setReg h _ _) _ _
    · exact State.filesWf_setReg h _ _

/-- Setting a field keeps both files canonical. -/
theorem State.filesWf_set {s : State} (h : s.filesWf = true) (f : Fld) (v : Nat) :
    (s.set f v).filesWf = true := State.filesWf_put h _ _

end Sys2Proof.Machine
end

