-- ==== Sys2Proof/Laws/AltersBase.lean ====
section
/-! SUPPORT. What an operation may alter: words of the active copy and parts of the state, as a set of bits. A set is a number: bit
`i` below 64 stands for a part of the state, and a higher bit for a word, the same word on every page of a block. -/
namespace Sys2Proof.Machine
open Host

/-! ### Sets of words and parts -/

/-- The bit of a word: that of the same word on the first page of its block. -/
def wordBit (a : Nat) : Nat := 64 + (blockOf (a / 256) * 256 + a % 256)

def partNow : Nat := 2 ^ 0
def partShadow : Nat := 2 ^ 1
def partPublished : Nat := 2 ^ 2
def partGdieDown : Nat := 2 ^ 3
def partPwr : Nat := 2 ^ 4
def partPins : Nat := 2 ^ 5
def partLinks : Nat := 2 ^ 6
def partCommit : Nat := 2 ^ 7
def partPw : Nat := 2 ^ 8
def partSpw : Nat := 2 ^ 9
def partFw : Nat := 2 ^ 10
def partThy : Nat := 2 ^ 11
def partStk : Nat := 2 ^ 12
def partRsm : Nat := 2 ^ 13
def partCyl : Nat := 2 ^ 14
def partFlt : Nat := 2 ^ 15
def partDieSt : Nat := 2 ^ 16
def partLine : Nat := 2 ^ 17
def partCur : Nat := 2 ^ 18
def partBay : Nat := 2 ^ 19
def partMot : Nat := 2 ^ 20
def partGate : Nat := 2 ^ 21
def partSaf : Nat := 2 ^ 22
def partProt : Nat := 2 ^ 23
def partTmp : Nat := 2 ^ 24
def partLs : Nat := 2 ^ 25
def partSage : Nat := 2 ^ 26
def partRing : Nat := 2 ^ 27
def partAut : Nat := 2 ^ 28
def partSaved : Nat := 2 ^ 29
def partJournal : Nat := 2 ^ 30
def partRatios : Nat := 2 ^ 31
def partPending : Nat := 2 ^ 32

/-- What storing the word at `a` may alter: the word, and on a page not tied to frames its FRAMESEQ and the REPEAT sets. -/
def putMask (a : Nat) : Nat :=
  if 0x60 ≤ a % 256 ∧ a % 256 ≤ 0xDF ∧ frameTied (a / 256) = false then
    2 ^ wordBit a ||| 2 ^ wordBit (addrOf (a / 256) 7) ||| partPublished ||| partLinks
  else 2 ^ wordBit a

/-- What setting a field may alter. -/
def setMask (f : Fld) : Nat := putMask f.addr

/-- What setting the field of an entry of the array that starts at its word may alter. -/
def arrayMask (f : Fld) : Nat :=
  (List.range (arrayLen f.page f.word)).foldl (fun m i => m ||| setMask { f with word := f.word + i }) 0

/-- What a publication of a page may alter. -/
def pubMask (page : Nat) : Nat := 2 ^ wordBit (addrOf page 7) ||| partPublished ||| partLinks

/-- `a` is a part of `b`. -/
def Sub (a b : Nat) : Prop := a &&& b = a

theorem sub_trans {a b c : Nat} (h : a &&& b = a) (h' : Sub b c) : Sub a c := by
  unfold Sub at *; rw [← h, Nat.and_assoc, h']

theorem sub_or {a b c : Nat} (h : Sub a c) (h' : Sub b c) : Sub (a ||| b) c := by
  unfold Sub at *; rw [Nat.and_or_distrib_right, h, h']

theorem sub_refl (a : Nat) : Sub a a := Nat.and_self a

theorem sub_bit {a b i : Nat} (h : Sub a b) (hi : a.testBit i = true) : b.testBit i = true := by
  unfold Sub at h
  have := congrArg (fun x => x.testBit i) h
  simp only [Nat.testBit_and, hi, Bool.true_and] at this
  exact this

theorem sub_no {a b i : Nat} (h : Sub a b) (hi : b.testBit i = false) : a.testBit i = false := by
  cases ha : a.testBit i with
  | false => rfl
  | true => rw [sub_bit h ha] at hi; exact hi

theorem instancesOf_pos (p : Nat) : 0 < instancesOf p := by unfold instancesOf; split_ifs <;> omega

theorem blockOf_on (f : Fld) (k : Nat) : blockOf (f.on k).page = blockOf f.page := by
  have h := Nat.mod_lt k (instancesOf_pos f.page)
  unfold Fld.on
  generalize k % instancesOf f.page = j at *
  simp only
  unfold instancesOf at h
  unfold blockOf
  split_ifs at h <;> split_ifs <;> omega

theorem addr_div (f : Fld) : f.addr / 256 = f.page := by unfold Fld.addr addrOf; omega
theorem addr_mod (f : Fld) : f.addr % 256 = f.word % 256 := by unfold Fld.addr addrOf; omega

theorem frameTied_on (f : Fld) (k : Nat) : frameTied (f.on k).page = frameTied f.page := by
  have h := Nat.mod_lt k (instancesOf_pos f.page)
  unfold Fld.on
  generalize k % instancesOf f.page = j at *
  simp only
  unfold instancesOf at h
  rw [Bool.eq_iff_iff]
  simp only [frameTied, Bool.or_eq_true, beq_iff_eq, Bool.and_eq_true, decide_eq_true_eq]
  split_ifs at h <;> omega

theorem wordBit_seven (p : Nat) : wordBit (addrOf p 7) = 64 + (blockOf p * 256 + 7) := by
  unfold wordBit; rw [addrOf_div (by omega), addrOf_mod (by omega)]

theorem setMask_eq (f : Fld) : setMask f =
    if 0x60 ≤ f.word % 256 ∧ f.word % 256 ≤ 0xDF ∧ frameTied f.page = false then
      2 ^ (64 + (blockOf f.page * 256 + f.word % 256)) ||| 2 ^ (64 + (blockOf f.page * 256 + 7)) ||| partPublished ||| partLinks
    else 2 ^ (64 + (blockOf f.page * 256 + f.word % 256)) := by
  unfold setMask putMask
  rw [addr_div, addr_mod, wordBit_seven]
  unfold wordBit
  rw [addr_div, addr_mod]

theorem setMask_on (f : Fld) (k : Nat) : setMask (f.on k) = setMask f := by
  rw [setMask_eq, setMask_eq, blockOf_on, frameTied_on]; rfl

theorem setMask_bit (f : Fld) (b : Nat) : setMask (f.bit b) = setMask f := rfl

theorem pubMask_on (f : Fld) (k : Nat) : pubMask (f.on k).page = pubMask f.page := by
  unfold pubMask; rw [wordBit_seven, wordBit_seven, blockOf_on]

theorem sub_left {a b c : Nat} (h : Sub a b) : Sub a (b ||| c) := by
  unfold Sub at *; rw [Nat.and_or_distrib_left, h]
  apply Nat.eq_of_testBit_eq; intro i; simp only [Nat.testBit_or, Nat.testBit_and]; cases a.testBit i <;> simp

theorem sub_right {a b c : Nat} (h : Sub a c) : Sub a (b ||| c) := by rw [Nat.or_comm]; exact sub_left h

theorem sub_pow {n m : Nat} (h : m.testBit n = true) : Sub (2 ^ n) m := by
  unfold Sub
  apply Nat.eq_of_testBit_eq; intro i
  rw [Nat.testBit_and, Nat.testBit_two_pow]
  by_cases hi : n = i
  · subst hi; simp [h]
  · simp [hi]

theorem foldl_or_init (g : Nat → Nat) (l : List Nat) (z : Nat) : Sub z (l.foldl (fun m i => m ||| g i) z) := by
  induction l generalizing z with
  | nil => exact sub_refl z
  | cons x l ih => exact sub_trans (sub_left (sub_refl z)) (ih (z ||| g x))

theorem foldl_or_mem (g : Nat → Nat) {l : List Nat} {i : Nat} (h : i ∈ l) (z : Nat) :
    Sub (g i) (l.foldl (fun m i => m ||| g i) z) := by
  induction l generalizing z with
  | nil => cases h
  | cons x l ih =>
    cases List.mem_cons.mp h with
    | inl e => subst e; exact sub_trans (sub_right (sub_refl _)) (foldl_or_init g l (z ||| g i))
    | inr e => exact ih e (z ||| g x)

theorem arrayLen_pos (p w : Nat) : 0 < arrayLen p w := by
  have all : ∀ e ∈ arrays, 0 < e.2.2 := by decide
  unfold arrayLen
  split
  · rename_i e h; exact all e (List.mem_of_find?_eq_some h)
  · omega

/-- A field of an entry of an array stays in the array. -/
theorem setMask_at (f : Fld) (k : Nat) : Sub (setMask (f.at k)) (arrayMask f) :=
  foldl_or_mem (fun i => setMask { f with word := f.word + i }) (List.mem_range.mpr (Nat.mod_lt k (arrayLen_pos f.page f.word))) 0

theorem arrayLen_on (f : Fld) (k : Nat) : arrayLen (f.on k).page (f.on k).word = arrayLen f.page f.word := by
  unfold arrayLen; rw [blockOf_on]; rfl

theorem shift_on (f : Fld) (k i : Nat) : ({ f.on k with word := (f.on k).word + i } : Fld) = ({ f with word := f.word + i } : Fld).on k := by
  unfold Fld.on; rfl

theorem arrayMask_on (f : Fld) (k : Nat) : arrayMask (f.on k) = arrayMask f := by
  unfold arrayMask
  rw [arrayLen_on]
  simp only [shift_on, setMask_on]

theorem sub_chain {a b c : Nat} (h : Sub a b) (h' : Sub b c) : Sub a c := sub_trans h h'

/-- What setting a bit or entry of a channel may alter. -/
theorem setMask_chanBit (f : Fld) (n : Nat) : setMask (chanBit f n) = setMask f := by
  unfold chanBit; rw [setMask_bit, setMask_on]

theorem setMask_chanField (f : Fld) (n : Nat) : Sub (setMask (chanField f n)) (arrayMask f) := by
  unfold chanField; rw [← arrayMask_on f (n / 8)]; exact setMask_at _ _

/-! ### Altering -/

/-- Between `s` and `t`, only words and parts of the set `m` differ. -/
structure Alters (m : Nat) (s t : State) : Prop where
  reg : ∀ a, m.testBit (wordBit a) = false → t.reg a = s.reg a
  now : m.testBit 0 = false → t.now = s.now
  shadow : m.testBit 1 = false → t.shadow = s.shadow
  published : m.testBit 2 = false → t.published = s.published
  gdieDown : m.testBit 3 = false → t.gdieDown = s.gdieDown
  pwr : m.testBit 4 = false → t.pwr = s.pwr
  pins : m.testBit 5 = false → t.pins = s.pins
  links : m.testBit 6 = false → t.links = s.links
  commit : m.testBit 7 = false → t.commit = s.commit
  pw : m.testBit 8 = false → t.pw = s.pw
  spw : m.testBit 9 = false → t.spw = s.spw
  fw : m.testBit 10 = false → t.fw = s.fw
  thy : m.testBit 11 = false → t.thy = s.thy
  stk : m.testBit 12 = false → t.stk = s.stk
  rsm : m.testBit 13 = false → t.rsm = s.rsm
  cyl : m.testBit 14 = false → t.cyl = s.cyl
  flt : m.testBit 15 = false → t.flt = s.flt
  dieSt : m.testBit 16 = false → t.dieSt = s.dieSt
  line : m.testBit 17 = false → t.line = s.line
  cur : m.testBit 18 = false → t.cur = s.cur
  bay : m.testBit 19 = false → t.bay = s.bay
  mot : m.testBit 20 = false → t.mot = s.mot
  gate : m.testBit 21 = false → t.gate = s.gate
  saf : m.testBit 22 = false → t.saf = s.saf
  prot : m.testBit 23 = false → t.prot = s.prot
  tmp : m.testBit 24 = false → t.tmp = s.tmp
  ls : m.testBit 25 = false → t.ls = s.ls
  sage : m.testBit 26 = false → t.sage = s.sage
  ring : m.testBit 27 = false → t.ring = s.ring
  aut : m.testBit 28 = false → t.aut = s.aut
  saved : m.testBit 29 = false → t.saved = s.saved
  journal : m.testBit 30 = false → t.journal = s.journal
  ratios : m.testBit 31 = false → t.ratios = s.ratios
  pending : m.testBit 32 = false → t.pending = s.pending

/-- The outcome is a next state that differs from `s` only in the set `m`. -/
def AltersTo (m : Nat) (s : State) (o : Outcome State Fault Refusal) : Prop := ∃ t, o = .next t ∧ Alters m s t

variable {m : Nat} {s₀ : State}

theorem alters_refl (m : Nat) (s : State) : Alters m s s := by constructor <;> intros <;> rfl

theorem alters_next {t : State} (h : Alters m s₀ t) : AltersTo m s₀ (.next t) := ⟨t, rfl, h⟩

theorem alters_ite {c : Prop} [Decidable c] {a b : State} (ha : Alters m s₀ a) (hb : Alters m s₀ b) :
    Alters m s₀ (if c then a else b) := by
  split <;> assumption

theorem altersTo_ite {c : Prop} [Decidable c] {a b : Outcome State Fault Refusal} (ha : AltersTo m s₀ a) (hb : AltersTo m s₀ b) :
    AltersTo m s₀ (if c then a else b) := by
  split <;> assumption

theorem alters_foldl {α : Type} {f : State → α → State} {l : List α} {s : State}
    (hf : ∀ s x, Alters m s₀ s → Alters m s₀ (f s x)) (h : Alters m s₀ s) : Alters m s₀ (l.foldl f s) := by
  induction l generalizing s with
  | nil => exact h
  | cons x l ih => exact ih (hf s x h)

theorem alters_foldr {α : Type} {f : α → State → State} {l : List α} {s : State}
    (hf : ∀ x s, Alters m s₀ s → Alters m s₀ (f x s)) (h : Alters m s₀ s) : Alters m s₀ (l.foldr f s) := by
  induction l with
  | nil => exact h
  | cons x l ih => exact hf x _ ih

theorem alters_foldl_fst {α β : Type} {f : State × β → α → State × β} {l : List α} {a : State × β}
    (hf : ∀ a x, Alters m s₀ a.1 → Alters m s₀ (f a x).1) (h : Alters m s₀ a.1) : Alters m s₀ (l.foldl f a).1 := by
  induction l generalizing a with
  | nil => exact h
  | cons x l ih => exact ih (hf a x h)

theorem alters_applyIf {s : State} {b : Bool} {f : State → State} (hf : ∀ t, Alters m s₀ t → Alters m s₀ (f t))
    (h : Alters m s₀ s) : Alters m s₀ (s.applyIf b f) := by
  unfold State.applyIf
  split
  · exact hf s h
  · exact h

theorem alters_now (h0 : m.testBit 0 = true) {s : State} {x0 : Nat} :
    Alters m s₀ { s with now := x0 } ↔ Alters m s₀ s :=
  ⟨fun h => ⟨h.reg, fun e => absurd (h0.symm.trans e) (by decide), h.shadow, h.published, h.gdieDown, h.pwr, h.pins, h.links, h.commit, h.pw, h.spw, h.fw, h.thy, h.stk, h.rsm, h.cyl, h.flt, h.dieSt, h.line, h.cur, h.bay, h.mot, h.gate, h.saf, h.prot, h.tmp, h.ls, h.sage, h.ring, h.aut, h.saved, h.journal, h.ratios, h.pending⟩,
   fun h => ⟨h.reg, fun e => absurd (h0.symm.trans e) (by decide), h.shadow, h.published, h.gdieDown, h.pwr, h.pins, h.links, h.commit, h.pw, h.spw, h.fw, h.thy, h.stk, h.rsm, h.cyl, h.flt, h.dieSt, h.line, h.cur, h.bay, h.mot, h.gate, h.saf, h.prot, h.tmp, h.ls, h.sage, h.ring, h.aut, h.saved, h.journal, h.ratios, h.pending⟩⟩

theorem alters_shadow (h0 : m.testBit 1 = true) {s : State} {x0 : Regs} :
    Alters m s₀ { s with shadow := x0 } ↔ Alters m s₀ s :=
  ⟨fun h => ⟨h.reg, h.now, fun e => absurd (h0.symm.trans e) (by decide), h.published, h.gdieDown, h.pwr, h.pins, h.links, h.commit, h.pw, h.spw, h.fw, h.thy, h.stk, h.rsm, h.cyl, h.flt, h.dieSt, h.line, h.cur, h.bay, h.mot, h.gate, h.saf, h.prot, h.tmp, h.ls, h.sage, h.ring, h.aut, h.saved, h.journal, h.ratios, h.pending⟩,
   fun h => ⟨h.reg, h.now, fun e => absurd (h0.symm.trans e) (by decide), h.published, h.gdieDown, h.pwr, h.pins, h.links, h.commit, h.pw, h.spw, h.fw, h.thy, h.stk, h.rsm, h.cyl, h.flt, h.dieSt, h.line, h.cur, h.bay, h.mot, h.gate, h.saf, h.prot, h.tmp, h.ls, h.sage, h.ring, h.aut, h.saved, h.journal, h.ratios, h.pending⟩⟩

theorem alters_published (h0 : m.testBit 2 = true) {s : State} {x0 : List Nat} :
    Alters m s₀ { s with published := x0 } ↔ Alters m s₀ s :=
  ⟨fun h => ⟨h.reg, h.now, h.shadow, fun e => absurd (h0.symm.trans e) (by decide), h.gdieDown, h.pwr, h.pins, h.links, h.commit, h.pw, h.spw, h.fw, h.thy, h.stk, h.rsm, h.cyl, h.flt, h.dieSt, h.line, h.cur, h.bay, h.mot, h.gate, h.saf, h.prot, h.tmp, h.ls, h.sage, h.ring, h.aut, h.saved, h.journal, h.ratios, h.pending⟩,
   fun h => ⟨h.reg, h.now, h.shadow, fun e => absurd (h0.symm.trans e) (by decide), h.gdieDown, h.pwr, h.pins, h.links, h.commit, h.pw, h.spw, h.fw, h.thy, h.stk, h.rsm, h.cyl, h.flt, h.dieSt, h.line, h.cur, h.bay, h.mot, h.gate, h.saf, h.prot, h.tmp, h.ls, h.sage, h.ring, h.aut, h.saved, h.journal, h.ratios, h.pending⟩⟩

theorem alters_gdieDown (h0 : m.testBit 3 = true) {s : State} {x0 : Bool} :
    Alters m s₀ { s with gdieDown := x0 } ↔ Alters m s₀ s :=
  ⟨fun h => ⟨h.reg, h.now, h.shadow, h.published, fun e => absurd (h0.symm.trans e) (by decide), h.pwr, h.pins, h.links, h.commit, h.pw, h.spw, h.fw, h.thy, h.stk, h.rsm, h.cyl, h.flt, h.dieSt, h.line, h.cur, h.bay, h.mot, h.gate, h.saf, h.prot, h.tmp, h.ls, h.sage, h.ring, h.aut, h.saved, h.journal, h.ratios, h.pending⟩,
   fun h => ⟨h.reg, h.now, h.shadow, h.published, fun e => absurd (h0.symm.trans e) (by decide), h.pwr, h.pins, h.links, h.commit, h.pw, h.spw, h.fw, h.thy, h.stk, h.rsm, h.cyl, h.flt, h.dieSt, h.line, h.cur, h.bay, h.mot, h.gate, h.saf, h.prot, h.tmp, h.ls, h.sage, h.ring, h.aut, h.saved, h.journal, h.ratios, h.pending⟩⟩

theorem alters_pwr (h0 : m.testBit 4 = true) {s : State} {x0 : PowerSt} :
    Alters m s₀ { s with pwr := x0 } ↔ Alters m s₀ s :=
  ⟨fun h => ⟨h.reg, h.now, h.shadow, h.published, h.gdieDown, fun e => absurd (h0.symm.trans e) (by decide), h.pins, h.links, h.commit, h.pw, h.spw, h.fw, h.thy, h.stk, h.rsm, h.cyl, h.flt, h.dieSt, h.line, h.cur, h.bay, h.mot, h.gate, h.saf, h.prot, h.tmp, h.ls, h.sage, h.ring, h.aut, h.saved, h.journal, h.ratios, h.pending⟩,
   fun h => ⟨h.reg, h.now, h.shadow, h.published, h.gdieDown, fun e => absurd (h0.symm.trans e) (by decide), h.pins, h.links, h.commit, h.pw, h.spw, h.fw, h.thy, h.stk, h.rsm, h.cyl, h.flt, h.dieSt, h.line, h.cur, h.bay, h.mot, h.gate, h.saf, h.prot, h.tmp, h.ls, h.sage, h.ring, h.aut, h.saved, h.journal, h.ratios, h.pending⟩⟩

theorem alters_pins (h0 : m.testBit 5 = true) {s : State} {x0 : Pins} :
    Alters m s₀ { s with pins := x0 } ↔ Alters m s₀ s :=
  ⟨fun h => ⟨h.reg, h.now, h.shadow, h.published, h.gdieDown, h.pwr, fun e => absurd (h0.symm.trans e) (by decide), h.links, h.commit, h.pw, h.spw, h.fw, h.thy, h.stk, h.rsm, h.cyl, h.flt, h.dieSt, h.line, h.cur, h.bay, h.mot, h.gate, h.saf, h.prot, h.tmp, h.ls, h.sage, h.ring, h.aut, h.saved, h.journal, h.ratios, h.pending⟩,
   fun h => ⟨h.reg, h.now, h.shadow, h.published, h.gdieDown, h.pwr, fun e => absurd (h0.symm.trans e) (by decide), h.links, h.commit, h.pw, h.spw, h.fw, h.thy, h.stk, h.rsm, h.cyl, h.flt, h.dieSt, h.line, h.cur, h.bay, h.mot, h.gate, h.saf, h.prot, h.tmp, h.ls, h.sage, h.ring, h.aut, h.saved, h.journal, h.ratios, h.pending⟩⟩

theorem alters_links (h0 : m.testBit 6 = true) {s : State} {x0 : Links} :
    Alters m s₀ { s with links := x0 } ↔ Alters m s₀ s :=
  ⟨fun h => ⟨h.reg, h.now, h.shadow, h.published, h.gdieDown, h.pwr, h.pins, fun e => absurd (h0.symm.trans e) (by decide), h.commit, h.pw, h.spw, h.fw, h.thy, h.stk, h.rsm, h.cyl, h.flt, h.dieSt, h.line, h.cur, h.bay, h.mot, h.gate, h.saf, h.prot, h.tmp, h.ls, h.sage, h.ring, h.aut, h.saved, h.journal, h.ratios, h.pending⟩,
   fun h => ⟨h.reg, h.now, h.shadow, h.published, h.gdieDown, h.pwr, h.pins, fun e => absurd (h0.symm.trans e) (by decide), h.commit, h.pw, h.spw, h.fw, h.thy, h.stk, h.rsm, h.cyl, h.flt, h.dieSt, h.line, h.cur, h.bay, h.mot, h.gate, h.saf, h.prot, h.tmp, h.ls, h.sage, h.ring, h.aut, h.saved, h.journal, h.ratios, h.pending⟩⟩

theorem alters_commit (h0 : m.testBit 7 = true) {s : State} {x0 : CommitSt} :
    Alters m s₀ { s with commit := x0 } ↔ Alters m s₀ s :=
  ⟨fun h => ⟨h.reg, h.now, h.shadow, h.published, h.gdieDown, h.pwr, h.pins, h.links, fun e => absurd (h0.symm.trans e) (by decide), h.pw, h.spw, h.fw, h.thy, h.stk, h.rsm, h.cyl, h.flt, h.dieSt, h.line, h.cur, h.bay, h.mot, h.gate, h.saf, h.prot, h.tmp, h.ls, h.sage, h.ring, h.aut, h.saved, h.journal, h.ratios, h.pending⟩,
   fun h => ⟨h.reg, h.now, h.shadow, h.published, h.gdieDown, h.pwr, h.pins, h.links, fun e => absurd (h0.symm.trans e) (by decide), h.pw, h.spw, h.fw, h.thy, h.stk, h.rsm, h.cyl, h.flt, h.dieSt, h.line, h.cur, h.bay, h.mot, h.gate, h.saf, h.prot, h.tmp, h.ls, h.sage, h.ring, h.aut, h.saved, h.journal, h.ratios, h.pending⟩⟩

theorem alters_pw (h0 : m.testBit 8 = true) {s : State} {x0 : PasswordSt} :
    Alters m s₀ { s with pw := x0 } ↔ Alters m s₀ s :=
  ⟨fun h => ⟨h.reg, h.now, h.shadow, h.published, h.gdieDown, h.pwr, h.pins, h.links, h.commit, fun e => absurd (h0.symm.trans e) (by decide), h.spw, h.fw, h.thy, h.stk, h.rsm, h.cyl, h.flt, h.dieSt, h.line, h.cur, h.bay, h.mot, h.gate, h.saf, h.prot, h.tmp, h.ls, h.sage, h.ring, h.aut, h.saved, h.journal, h.ratios, h.pending⟩,
   fun h => ⟨h.reg, h.now, h.shadow, h.published, h.gdieDown, h.pwr, h.pins, h.links, h.commit, fun e => absurd (h0.symm.trans e) (by decide), h.spw, h.fw, h.thy, h.stk, h.rsm, h.cyl, h.flt, h.dieSt, h.line, h.cur, h.bay, h.mot, h.gate, h.saf, h.prot, h.tmp, h.ls, h.sage, h.ring, h.aut, h.saved, h.journal, h.ratios, h.pending⟩⟩

theorem alters_spw (h0 : m.testBit 9 = true) {s : State} {x0 : PasswordSt} :
    Alters m s₀ { s with spw := x0 } ↔ Alters m s₀ s :=
  ⟨fun h => ⟨h.reg, h.now, h.shadow, h.published, h.gdieDown, h.pwr, h.pins, h.links, h.commit, h.pw, fun e => absurd (h0.symm.trans e) (by decide), h.fw, h.thy, h.stk, h.rsm, h.cyl, h.flt, h.dieSt, h.line, h.cur, h.bay, h.mot, h.gate, h.saf, h.prot, h.tmp, h.ls, h.sage, h.ring, h.aut, h.saved, h.journal, h.ratios, h.pending⟩,
   fun h => ⟨h.reg, h.now, h.shadow, h.published, h.gdieDown, h.pwr, h.pins, h.links, h.commit, h.pw, fun e => absurd (h0.symm.trans e) (by decide), h.fw, h.thy, h.stk, h.rsm, h.cyl, h.flt, h.dieSt, h.line, h.cur, h.bay, h.mot, h.gate, h.saf, h.prot, h.tmp, h.ls, h.sage, h.ring, h.aut, h.saved, h.journal, h.ratios, h.pending⟩⟩

theorem alters_fw (h0 : m.testBit 10 = true) {s : State} {x0 : FirmwareSt} :
    Alters m s₀ { s with fw := x0 } ↔ Alters m s₀ s :=
  ⟨fun h => ⟨h.reg, h.now, h.shadow, h.published, h.gdieDown, h.pwr, h.pins, h.links, h.commit, h.pw, h.spw, fun e => absurd (h0.symm.trans e) (by decide), h.thy, h.stk, h.rsm, h.cyl, h.flt, h.dieSt, h.line, h.cur, h.bay, h.mot, h.gate, h.saf, h.prot, h.tmp, h.ls, h.sage, h.ring, h.aut, h.saved, h.journal, h.ratios, h.pending⟩,
   fun h => ⟨h.reg, h.now, h.shadow, h.published, h.gdieDown, h.pwr, h.pins, h.links, h.commit, h.pw, h.spw, fun e => absurd (h0.symm.trans e) (by decide), h.thy, h.stk, h.rsm, h.cyl, h.flt, h.dieSt, h.line, h.cur, h.bay, h.mot, h.gate, h.saf, h.prot, h.tmp, h.ls, h.sage, h.ring, h.aut, h.saved, h.journal, h.ratios, h.pending⟩⟩

theorem alters_thy (h0 : m.testBit 11 = true) {s : State} {x0 : ThymeSt} :
    Alters m s₀ { s with thy := x0 } ↔ Alters m s₀ s :=
  ⟨fun h => ⟨h.reg, h.now, h.shadow, h.published, h.gdieDown, h.pwr, h.pins, h.links, h.commit, h.pw, h.spw, h.fw, fun e => absurd (h0.symm.trans e) (by decide), h.stk, h.rsm, h.cyl, h.flt, h.dieSt, h.line, h.cur, h.bay, h.mot, h.gate, h.saf, h.prot, h.tmp, h.ls, h.sage, h.ring, h.aut, h.saved, h.journal, h.ratios, h.pending⟩,
   fun h => ⟨h.reg, h.now, h.shadow, h.published, h.gdieDown, h.pwr, h.pins, h.links, h.commit, h.pw, h.spw, h.fw, fun e => absurd (h0.symm.trans e) (by decide), h.stk, h.rsm, h.cyl, h.flt, h.dieSt, h.line, h.cur, h.bay, h.mot, h.gate, h.saf, h.prot, h.tmp, h.ls, h.sage, h.ring, h.aut, h.saved, h.journal, h.ratios, h.pending⟩⟩

theorem alters_stk (h0 : m.testBit 12 = true) {s : State} {x0 : StackSt} :
    Alters m s₀ { s with stk := x0 } ↔ Alters m s₀ s :=
  ⟨fun h => ⟨h.reg, h.now, h.shadow, h.published, h.gdieDown, h.pwr, h.pins, h.links, h.commit, h.pw, h.spw, h.fw, h.thy, fun e => absurd (h0.symm.trans e) (by decide), h.rsm, h.cyl, h.flt, h.dieSt, h.line, h.cur, h.bay, h.mot, h.gate, h.saf, h.prot, h.tmp, h.ls, h.sage, h.ring, h.aut, h.saved, h.journal, h.ratios, h.pending⟩,
   fun h => ⟨h.reg, h.now, h.shadow, h.published, h.gdieDown, h.pwr, h.pins, h.links, h.commit, h.pw, h.spw, h.fw, h.thy, fun e => absurd (h0.symm.trans e) (by decide), h.rsm, h.cyl, h.flt, h.dieSt, h.line, h.cur, h.bay, h.mot, h.gate, h.saf, h.prot, h.tmp, h.ls, h.sage, h.ring, h.aut, h.saved, h.journal, h.ratios, h.pending⟩⟩

theorem alters_rsm (h0 : m.testBit 13 = true) {s : State} {x0 : RosemarySt} :
    Alters m s₀ { s with rsm := x0 } ↔ Alters m s₀ s :=
  ⟨fun h => ⟨h.reg, h.now, h.shadow, h.published, h.gdieDown, h.pwr, h.pins, h.links, h.commit, h.pw, h.spw, h.fw, h.thy, h.stk, fun e => absurd (h0.symm.trans e) (by decide), h.cyl, h.flt, h.dieSt, h.line, h.cur, h.bay, h.mot, h.gate, h.saf, h.prot, h.tmp, h.ls, h.sage, h.ring, h.aut, h.saved, h.journal, h.ratios, h.pending⟩,
   fun h => ⟨h.reg, h.now, h.shadow, h.published, h.gdieDown, h.pwr, h.pins, h.links, h.commit, h.pw, h.spw, h.fw, h.thy, h.stk, fun e => absurd (h0.symm.trans e) (by decide), h.cyl, h.flt, h.dieSt, h.line, h.cur, h.bay, h.mot, h.gate, h.saf, h.prot, h.tmp, h.ls, h.sage, h.ring, h.aut, h.saved, h.journal, h.ratios, h.pending⟩⟩

theorem alters_cyl (h0 : m.testBit 14 = true) {s : State} {x0 : LedgerSt} :
    Alters m s₀ { s with cyl := x0 } ↔ Alters m s₀ s :=
  ⟨fun h => ⟨h.reg, h.now, h.shadow, h.published, h.gdieDown, h.pwr, h.pins, h.links, h.commit, h.pw, h.spw, h.fw, h.thy, h.stk, h.rsm, fun e => absurd (h0.symm.trans e) (by decide), h.flt, h.dieSt, h.line, h.cur, h.bay, h.mot, h.gate, h.saf, h.prot, h.tmp, h.ls, h.sage, h.ring, h.aut, h.saved, h.journal, h.ratios, h.pending⟩,
   fun h => ⟨h.reg, h.now, h.shadow, h.published, h.gdieDown, h.pwr, h.pins, h.links, h.commit, h.pw, h.spw, h.fw, h.thy, h.stk, h.rsm, fun e => absurd (h0.symm.trans e) (by decide), h.flt, h.dieSt, h.line, h.cur, h.bay, h.mot, h.gate, h.saf, h.prot, h.tmp, h.ls, h.sage, h.ring, h.aut, h.saved, h.journal, h.ratios, h.pending⟩⟩

theorem alters_flt (h0 : m.testBit 15 = true) {s : State} {x0 : RedundancySt} :
    Alters m s₀ { s with flt := x0 } ↔ Alters m s₀ s :=
  ⟨fun h => ⟨h.reg, h.now, h.shadow, h.published, h.gdieDown, h.pwr, h.pins, h.links, h.commit, h.pw, h.spw, h.fw, h.thy, h.stk, h.rsm, h.cyl, fun e => absurd (h0.symm.trans e) (by decide), h.dieSt, h.line, h.cur, h.bay, h.mot, h.gate, h.saf, h.prot, h.tmp, h.ls, h.sage, h.ring, h.aut, h.saved, h.journal, h.ratios, h.pending⟩,
   fun h => ⟨h.reg, h.now, h.shadow, h.published, h.gdieDown, h.pwr, h.pins, h.links, h.commit, h.pw, h.spw, h.fw, h.thy, h.stk, h.rsm, h.cyl, fun e => absurd (h0.symm.trans e) (by decide), h.dieSt, h.line, h.cur, h.bay, h.mot, h.gate, h.saf, h.prot, h.tmp, h.ls, h.sage, h.ring, h.aut, h.saved, h.journal, h.ratios, h.pending⟩⟩

theorem alters_dieSt (h0 : m.testBit 16 = true) {s : State} {x0 : List DieSt} :
    Alters m s₀ { s with dieSt := x0 } ↔ Alters m s₀ s :=
  ⟨fun h => ⟨h.reg, h.now, h.shadow, h.published, h.gdieDown, h.pwr, h.pins, h.links, h.commit, h.pw, h.spw, h.fw, h.thy, h.stk, h.rsm, h.cyl, h.flt, fun e => absurd (h0.symm.trans e) (by decide), h.line, h.cur, h.bay, h.mot, h.gate, h.saf, h.prot, h.tmp, h.ls, h.sage, h.ring, h.aut, h.saved, h.journal, h.ratios, h.pending⟩,
   fun h => ⟨h.reg, h.now, h.shadow, h.published, h.gdieDown, h.pwr, h.pins, h.links, h.commit, h.pw, h.spw, h.fw, h.thy, h.stk, h.rsm, h.cyl, h.flt, fun e => absurd (h0.symm.trans e) (by decide), h.line, h.cur, h.bay, h.mot, h.gate, h.saf, h.prot, h.tmp, h.ls, h.sage, h.ring, h.aut, h.saved, h.journal, h.ratios, h.pending⟩⟩

theorem alters_line (h0 : m.testBit 17 = true) {s : State} {x0 : FaultLineSt} :
    Alters m s₀ { s with line := x0 } ↔ Alters m s₀ s :=
  ⟨fun h => ⟨h.reg, h.now, h.shadow, h.published, h.gdieDown, h.pwr, h.pins, h.links, h.commit, h.pw, h.spw, h.fw, h.thy, h.stk, h.rsm, h.cyl, h.flt, h.dieSt, fun e => absurd (h0.symm.trans e) (by decide), h.cur, h.bay, h.mot, h.gate, h.saf, h.prot, h.tmp, h.ls, h.sage, h.ring, h.aut, h.saved, h.journal, h.ratios, h.pending⟩,
   fun h => ⟨h.reg, h.now, h.shadow, h.published, h.gdieDown, h.pwr, h.pins, h.links, h.commit, h.pw, h.spw, h.fw, h.thy, h.stk, h.rsm, h.cyl, h.flt, h.dieSt, fun e => absurd (h0.symm.trans e) (by decide), h.cur, h.bay, h.mot, h.gate, h.saf, h.prot, h.tmp, h.ls, h.sage, h.ring, h.aut, h.saved, h.journal, h.ratios, h.pending⟩⟩

theorem alters_cur (h0 : m.testBit 18 = true) {s : State} {x0 : CurrentSt} :
    Alters m s₀ { s with cur := x0 } ↔ Alters m s₀ s :=
  ⟨fun h => ⟨h.reg, h.now, h.shadow, h.published, h.gdieDown, h.pwr, h.pins, h.links, h.commit, h.pw, h.spw, h.fw, h.thy, h.stk, h.rsm, h.cyl, h.flt, h.dieSt, h.line, fun e => absurd (h0.symm.trans e) (by decide), h.bay, h.mot, h.gate, h.saf, h.prot, h.tmp, h.ls, h.sage, h.ring, h.aut, h.saved, h.journal, h.ratios, h.pending⟩,
   fun h => ⟨h.reg, h.now, h.shadow, h.published, h.gdieDown, h.pwr, h.pins, h.links, h.commit, h.pw, h.spw, h.fw, h.thy, h.stk, h.rsm, h.cyl, h.flt, h.dieSt, h.line, fun e => absurd (h0.symm.trans e) (by decide), h.bay, h.mot, h.gate, h.saf, h.prot, h.tmp, h.ls, h.sage, h.ring, h.aut, h.saved, h.journal, h.ratios, h.pending⟩⟩

theorem alters_bay (h0 : m.testBit 19 = true) {s : State} {x0 : BaySt} :
    Alters m s₀ { s with bay := x0 } ↔ Alters m s₀ s :=
  ⟨fun h => ⟨h.reg, h.now, h.shadow, h.published, h.gdieDown, h.pwr, h.pins, h.links, h.commit, h.pw, h.spw, h.fw, h.thy, h.stk, h.rsm, h.cyl, h.flt, h.dieSt, h.line, h.cur, fun e => absurd (h0.symm.trans e) (by decide), h.mot, h.gate, h.saf, h.prot, h.tmp, h.ls, h.sage, h.ring, h.aut, h.saved, h.journal, h.ratios, h.pending⟩,
   fun h => ⟨h.reg, h.now, h.shadow, h.published, h.gdieDown, h.pwr, h.pins, h.links, h.commit, h.pw, h.spw, h.fw, h.thy, h.stk, h.rsm, h.cyl, h.flt, h.dieSt, h.line, h.cur, fun e => absurd (h0.symm.trans e) (by decide), h.mot, h.gate, h.saf, h.prot, h.tmp, h.ls, h.sage, h.ring, h.aut, h.saved, h.journal, h.ratios, h.pending⟩⟩

theorem alters_mot (h0 : m.testBit 20 = true) {s : State} {x0 : MotionSt} :
    Alters m s₀ { s with mot := x0 } ↔ Alters m s₀ s :=
  ⟨fun h => ⟨h.reg, h.now, h.shadow, h.published, h.gdieDown, h.pwr, h.pins, h.links, h.commit, h.pw, h.spw, h.fw, h.thy, h.stk, h.rsm, h.cyl, h.flt, h.dieSt, h.line, h.cur, h.bay, fun e => absurd (h0.symm.trans e) (by decide), h.gate, h.saf, h.prot, h.tmp, h.ls, h.sage, h.ring, h.aut, h.saved, h.journal, h.ratios, h.pending⟩,
   fun h => ⟨h.reg, h.now, h.shadow, h.published, h.gdieDown, h.pwr, h.pins, h.links, h.commit, h.pw, h.spw, h.fw, h.thy, h.stk, h.rsm, h.cyl, h.flt, h.dieSt, h.line, h.cur, h.bay, fun e => absurd (h0.symm.trans e) (by decide), h.gate, h.saf, h.prot, h.tmp, h.ls, h.sage, h.ring, h.aut, h.saved, h.journal, h.ratios, h.pending⟩⟩

theorem alters_gate (h0 : m.testBit 21 = true) {s : State} {x0 : GateSt} :
    Alters m s₀ { s with gate := x0 } ↔ Alters m s₀ s :=
  ⟨fun h => ⟨h.reg, h.now, h.shadow, h.published, h.gdieDown, h.pwr, h.pins, h.links, h.commit, h.pw, h.spw, h.fw, h.thy, h.stk, h.rsm, h.cyl, h.flt, h.dieSt, h.line, h.cur, h.bay, h.mot, fun e => absurd (h0.symm.trans e) (by decide), h.saf, h.prot, h.tmp, h.ls, h.sage, h.ring, h.aut, h.saved, h.journal, h.ratios, h.pending⟩,
   fun h => ⟨h.reg, h.now, h.shadow, h.published, h.gdieDown, h.pwr, h.pins, h.links, h.commit, h.pw, h.spw, h.fw, h.thy, h.stk, h.rsm, h.cyl, h.flt, h.dieSt, h.line, h.cur, h.bay, h.mot, fun e => absurd (h0.symm.trans e) (by decide), h.saf, h.prot, h.tmp, h.ls, h.sage, h.ring, h.aut, h.saved, h.journal, h.ratios, h.pending⟩⟩

theorem alters_saf (h0 : m.testBit 22 = true) {s : State} {x0 : SafetySt} :
    Alters m s₀ { s with saf := x0 } ↔ Alters m s₀ s :=
  ⟨fun h => ⟨h.reg, h.now, h.shadow, h.published, h.gdieDown, h.pwr, h.pins, h.links, h.commit, h.pw, h.spw, h.fw, h.thy, h.stk, h.rsm, h.cyl, h.flt, h.dieSt, h.line, h.cur, h.bay, h.mot, h.gate, fun e => absurd (h0.symm.trans e) (by decide), h.prot, h.tmp, h.ls, h.sage, h.ring, h.aut, h.saved, h.journal, h.ratios, h.pending⟩,
   fun h => ⟨h.reg, h.now, h.shadow, h.published, h.gdieDown, h.pwr, h.pins, h.links, h.commit, h.pw, h.spw, h.fw, h.thy, h.stk, h.rsm, h.cyl, h.flt, h.dieSt, h.line, h.cur, h.bay, h.mot, h.gate, fun e => absurd (h0.symm.trans e) (by decide), h.prot, h.tmp, h.ls, h.sage, h.ring, h.aut, h.saved, h.journal, h.ratios, h.pending⟩⟩

theorem alters_prot (h0 : m.testBit 23 = true) {s : State} {x0 : ProtSt} :
    Alters m s₀ { s with prot := x0 } ↔ Alters m s₀ s :=
  ⟨fun h => ⟨h.reg, h.now, h.shadow, h.published, h.gdieDown, h.pwr, h.pins, h.links, h.commit, h.pw, h.spw, h.fw, h.thy, h.stk, h.rsm, h.cyl, h.flt, h.dieSt, h.line, h.cur, h.bay, h.mot, h.gate, h.saf, fun e => absurd (h0.symm.trans e) (by decide), h.tmp, h.ls, h.sage, h.ring, h.aut, h.saved, h.journal, h.ratios, h.pending⟩,
   fun h => ⟨h.reg, h.now, h.shadow, h.published, h.gdieDown, h.pwr, h.pins, h.links, h.commit, h.pw, h.spw, h.fw, h.thy, h.stk, h.rsm, h.cyl, h.flt, h.dieSt, h.line, h.cur, h.bay, h.mot, h.gate, h.saf, fun e => absurd (h0.symm.trans e) (by decide), h.tmp, h.ls, h.sage, h.ring, h.aut, h.saved, h.journal, h.ratios, h.pending⟩⟩

theorem alters_tmp (h0 : m.testBit 24 = true) {s : State} {x0 : ThermalSt} :
    Alters m s₀ { s with tmp := x0 } ↔ Alters m s₀ s :=
  ⟨fun h => ⟨h.reg, h.now, h.shadow, h.published, h.gdieDown, h.pwr, h.pins, h.links, h.commit, h.pw, h.spw, h.fw, h.thy, h.stk, h.rsm, h.cyl, h.flt, h.dieSt, h.line, h.cur, h.bay, h.mot, h.gate, h.saf, h.prot, fun e => absurd (h0.symm.trans e) (by decide), h.ls, h.sage, h.ring, h.aut, h.saved, h.journal, h.ratios, h.pending⟩,
   fun h => ⟨h.reg, h.now, h.shadow, h.published, h.gdieDown, h.pwr, h.pins, h.links, h.commit, h.pw, h.spw, h.fw, h.thy, h.stk, h.rsm, h.cyl, h.flt, h.dieSt, h.line, h.cur, h.bay, h.mot, h.gate, h.saf, h.prot, fun e => absurd (h0.symm.trans e) (by decide), h.ls, h.sage, h.ring, h.aut, h.saved, h.journal, h.ratios, h.pending⟩⟩

theorem alters_ls (h0 : m.testBit 25 = true) {s : State} {x0 : LoadSt} :
    Alters m s₀ { s with ls := x0 } ↔ Alters m s₀ s :=
  ⟨fun h => ⟨h.reg, h.now, h.shadow, h.published, h.gdieDown, h.pwr, h.pins, h.links, h.commit, h.pw, h.spw, h.fw, h.thy, h.stk, h.rsm, h.cyl, h.flt, h.dieSt, h.line, h.cur, h.bay, h.mot, h.gate, h.saf, h.prot, h.tmp, fun e => absurd (h0.symm.trans e) (by decide), h.sage, h.ring, h.aut, h.saved, h.journal, h.ratios, h.pending⟩,
   fun h => ⟨h.reg, h.now, h.shadow, h.published, h.gdieDown, h.pwr, h.pins, h.links, h.commit, h.pw, h.spw, h.fw, h.thy, h.stk, h.rsm, h.cyl, h.flt, h.dieSt, h.line, h.cur, h.bay, h.mot, h.gate, h.saf, h.prot, h.tmp, fun e => absurd (h0.symm.trans e) (by decide), h.sage, h.ring, h.aut, h.saved, h.journal, h.ratios, h.pending⟩⟩

theorem alters_sage (h0 : m.testBit 26 = true) {s : State} {x0 : SageSt} :
    Alters m s₀ { s with sage := x0 } ↔ Alters m s₀ s :=
  ⟨fun h => ⟨h.reg, h.now, h.shadow, h.published, h.gdieDown, h.pwr, h.pins, h.links, h.commit, h.pw, h.spw, h.fw, h.thy, h.stk, h.rsm, h.cyl, h.flt, h.dieSt, h.line, h.cur, h.bay, h.mot, h.gate, h.saf, h.prot, h.tmp, h.ls, fun e => absurd (h0.symm.trans e) (by decide), h.ring, h.aut, h.saved, h.journal, h.ratios, h.pending⟩,
   fun h => ⟨h.reg, h.now, h.shadow, h.published, h.gdieDown, h.pwr, h.pins, h.links, h.commit, h.pw, h.spw, h.fw, h.thy, h.stk, h.rsm, h.cyl, h.flt, h.dieSt, h.line, h.cur, h.bay, h.mot, h.gate, h.saf, h.prot, h.tmp, h.ls, fun e => absurd (h0.symm.trans e) (by decide), h.ring, h.aut, h.saved, h.journal, h.ratios, h.pending⟩⟩

theorem alters_ring (h0 : m.testBit 27 = true) {s : State} {x0 : RingSt} :
    Alters m s₀ { s with ring := x0 } ↔ Alters m s₀ s :=
  ⟨fun h => ⟨h.reg, h.now, h.shadow, h.published, h.gdieDown, h.pwr, h.pins, h.links, h.commit, h.pw, h.spw, h.fw, h.thy, h.stk, h.rsm, h.cyl, h.flt, h.dieSt, h.line, h.cur, h.bay, h.mot, h.gate, h.saf, h.prot, h.tmp, h.ls, h.sage, fun e => absurd (h0.symm.trans e) (by decide), h.aut, h.saved, h.journal, h.ratios, h.pending⟩,
   fun h => ⟨h.reg, h.now, h.shadow, h.published, h.gdieDown, h.pwr, h.pins, h.links, h.commit, h.pw, h.spw, h.fw, h.thy, h.stk, h.rsm, h.cyl, h.flt, h.dieSt, h.line, h.cur, h.bay, h.mot, h.gate, h.saf, h.prot, h.tmp, h.ls, h.sage, fun e => absurd (h0.symm.trans e) (by decide), h.aut, h.saved, h.journal, h.ratios, h.pending⟩⟩

theorem alters_aut (h0 : m.testBit 28 = true) {s : State} {x0 : AuthSt} :
    Alters m s₀ { s with aut := x0 } ↔ Alters m s₀ s :=
  ⟨fun h => ⟨h.reg, h.now, h.shadow, h.published, h.gdieDown, h.pwr, h.pins, h.links, h.commit, h.pw, h.spw, h.fw, h.thy, h.stk, h.rsm, h.cyl, h.flt, h.dieSt, h.line, h.cur, h.bay, h.mot, h.gate, h.saf, h.prot, h.tmp, h.ls, h.sage, h.ring, fun e => absurd (h0.symm.trans e) (by decide), h.saved, h.journal, h.ratios, h.pending⟩,
   fun h => ⟨h.reg, h.now, h.shadow, h.published, h.gdieDown, h.pwr, h.pins, h.links, h.commit, h.pw, h.spw, h.fw, h.thy, h.stk, h.rsm, h.cyl, h.flt, h.dieSt, h.line, h.cur, h.bay, h.mot, h.gate, h.saf, h.prot, h.tmp, h.ls, h.sage, h.ring, fun e => absurd (h0.symm.trans e) (by decide), h.saved, h.journal, h.ratios, h.pending⟩⟩

theorem alters_saved (h0 : m.testBit 29 = true) {s : State} {x0 : SavedSt} :
    Alters m s₀ { s with saved := x0 } ↔ Alters m s₀ s :=
  ⟨fun h => ⟨h.reg, h.now, h.shadow, h.published, h.gdieDown, h.pwr, h.pins, h.links, h.commit, h.pw, h.spw, h.fw, h.thy, h.stk, h.rsm, h.cyl, h.flt, h.dieSt, h.line, h.cur, h.bay, h.mot, h.gate, h.saf, h.prot, h.tmp, h.ls, h.sage, h.ring, h.aut, fun e => absurd (h0.symm.trans e) (by decide), h.journal, h.ratios, h.pending⟩,
   fun h => ⟨h.reg, h.now, h.shadow, h.published, h.gdieDown, h.pwr, h.pins, h.links, h.commit, h.pw, h.spw, h.fw, h.thy, h.stk, h.rsm, h.cyl, h.flt, h.dieSt, h.line, h.cur, h.bay, h.mot, h.gate, h.saf, h.prot, h.tmp, h.ls, h.sage, h.ring, h.aut, fun e => absurd (h0.symm.trans e) (by decide), h.journal, h.ratios, h.pending⟩⟩

theorem alters_journal (h0 : m.testBit 30 = true) {s : State} {x0 : List JournalEntry} :
    Alters m s₀ { s with journal := x0 } ↔ Alters m s₀ s :=
  ⟨fun h => ⟨h.reg, h.now, h.shadow, h.published, h.gdieDown, h.pwr, h.pins, h.links, h.commit, h.pw, h.spw, h.fw, h.thy, h.stk, h.rsm, h.cyl, h.flt, h.dieSt, h.line, h.cur, h.bay, h.mot, h.gate, h.saf, h.prot, h.tmp, h.ls, h.sage, h.ring, h.aut, h.saved, fun e => absurd (h0.symm.trans e) (by decide), h.ratios, h.pending⟩,
   fun h => ⟨h.reg, h.now, h.shadow, h.published, h.gdieDown, h.pwr, h.pins, h.links, h.commit, h.pw, h.spw, h.fw, h.thy, h.stk, h.rsm, h.cyl, h.flt, h.dieSt, h.line, h.cur, h.bay, h.mot, h.gate, h.saf, h.prot, h.tmp, h.ls, h.sage, h.ring, h.aut, h.saved, fun e => absurd (h0.symm.trans e) (by decide), h.ratios, h.pending⟩⟩

theorem alters_ratios (h0 : m.testBit 31 = true) {s : State} {x0 : List (Nat × Nat)} :
    Alters m s₀ { s with ratios := x0 } ↔ Alters m s₀ s :=
  ⟨fun h => ⟨h.reg, h.now, h.shadow, h.published, h.gdieDown, h.pwr, h.pins, h.links, h.commit, h.pw, h.spw, h.fw, h.thy, h.stk, h.rsm, h.cyl, h.flt, h.dieSt, h.line, h.cur, h.bay, h.mot, h.gate, h.saf, h.prot, h.tmp, h.ls, h.sage, h.ring, h.aut, h.saved, h.journal, fun e => absurd (h0.symm.trans e) (by decide), h.pending⟩,
   fun h => ⟨h.reg, h.now, h.shadow, h.published, h.gdieDown, h.pwr, h.pins, h.links, h.commit, h.pw, h.spw, h.fw, h.thy, h.stk, h.rsm, h.cyl, h.flt, h.dieSt, h.line, h.cur, h.bay, h.mot, h.gate, h.saf, h.prot, h.tmp, h.ls, h.sage, h.ring, h.aut, h.saved, h.journal, fun e => absurd (h0.symm.trans e) (by decide), h.pending⟩⟩

theorem alters_pending (h0 : m.testBit 32 = true) {s : State} {x0 : List Instr} :
    Alters m s₀ { s with pending := x0 } ↔ Alters m s₀ s :=
  ⟨fun h => ⟨h.reg, h.now, h.shadow, h.published, h.gdieDown, h.pwr, h.pins, h.links, h.commit, h.pw, h.spw, h.fw, h.thy, h.stk, h.rsm, h.cyl, h.flt, h.dieSt, h.line, h.cur, h.bay, h.mot, h.gate, h.saf, h.prot, h.tmp, h.ls, h.sage, h.ring, h.aut, h.saved, h.journal, h.ratios, fun e => absurd (h0.symm.trans e) (by decide)⟩,
   fun h => ⟨h.reg, h.now, h.shadow, h.published, h.gdieDown, h.pwr, h.pins, h.links, h.commit, h.pw, h.spw, h.fw, h.thy, h.stk, h.rsm, h.cyl, h.flt, h.dieSt, h.line, h.cur, h.bay, h.mot, h.gate, h.saf, h.prot, h.tmp, h.ls, h.sage, h.ring, h.aut, h.saved, h.journal, h.ratios, fun e => absurd (h0.symm.trans e) (by decide)⟩⟩

theorem alters_flt_journal (h0 : m.testBit 15 = true) (h1 : m.testBit 30 = true) {s : State} {x0 : RedundancySt}
    {x1 : List JournalEntry} :
    Alters m s₀ { s with flt := x0, journal := x1 } ↔ Alters m s₀ s :=
  ⟨fun h => ⟨h.reg, h.now, h.shadow, h.published, h.gdieDown, h.pwr, h.pins, h.links, h.commit, h.pw, h.spw, h.fw, h.thy, h.stk, h.rsm, h.cyl, fun e => absurd (h0.symm.trans e) (by decide), h.dieSt, h.line, h.cur, h.bay, h.mot, h.gate, h.saf, h.prot, h.tmp, h.ls, h.sage, h.ring, h.aut, h.saved, fun e => absurd (h1.symm.trans e) (by decide), h.ratios, h.pending⟩,
   fun h => ⟨h.reg, h.now, h.shadow, h.published, h.gdieDown, h.pwr, h.pins, h.links, h.commit, h.pw, h.spw, h.fw, h.thy, h.stk, h.rsm, h.cyl, fun e => absurd (h0.symm.trans e) (by decide), h.dieSt, h.line, h.cur, h.bay, h.mot, h.gate, h.saf, h.prot, h.tmp, h.ls, h.sage, h.ring, h.aut, h.saved, fun e => absurd (h1.symm.trans e) (by decide), h.ratios, h.pending⟩⟩

theorem alters_gdieDown_pwr (h0 : m.testBit 3 = true) (h1 : m.testBit 4 = true) {s : State} {x0 : Bool} {x1 : PowerSt} :
    Alters m s₀ { s with gdieDown := x0, pwr := x1 } ↔ Alters m s₀ s :=
  ⟨fun h => ⟨h.reg, h.now, h.shadow, h.published, fun e => absurd (h0.symm.trans e) (by decide), fun e => absurd (h1.symm.trans e) (by decide), h.pins, h.links, h.commit, h.pw, h.spw, h.fw, h.thy, h.stk, h.rsm, h.cyl, h.flt, h.dieSt, h.line, h.cur, h.bay, h.mot, h.gate, h.saf, h.prot, h.tmp, h.ls, h.sage, h.ring, h.aut, h.saved, h.journal, h.ratios, h.pending⟩,
   fun h => ⟨h.reg, h.now, h.shadow, h.published, fun e => absurd (h0.symm.trans e) (by decide), fun e => absurd (h1.symm.trans e) (by decide), h.pins, h.links, h.commit, h.pw, h.spw, h.fw, h.thy, h.stk, h.rsm, h.cyl, h.flt, h.dieSt, h.line, h.cur, h.bay, h.mot, h.gate, h.saf, h.prot, h.tmp, h.ls, h.sage, h.ring, h.aut, h.saved, h.journal, h.ratios, h.pending⟩⟩

theorem alters_cyl_mot (h0 : m.testBit 14 = true) (h1 : m.testBit 20 = true) {s : State} {x0 : LedgerSt} {x1 : MotionSt} :
    Alters m s₀ { s with cyl := x0, mot := x1 } ↔ Alters m s₀ s :=
  ⟨fun h => ⟨h.reg, h.now, h.shadow, h.published, h.gdieDown, h.pwr, h.pins, h.links, h.commit, h.pw, h.spw, h.fw, h.thy, h.stk, h.rsm, fun e => absurd (h0.symm.trans e) (by decide), h.flt, h.dieSt, h.line, h.cur, h.bay, fun e => absurd (h1.symm.trans e) (by decide), h.gate, h.saf, h.prot, h.tmp, h.ls, h.sage, h.ring, h.aut, h.saved, h.journal, h.ratios, h.pending⟩,
   fun h => ⟨h.reg, h.now, h.shadow, h.published, h.gdieDown, h.pwr, h.pins, h.links, h.commit, h.pw, h.spw, h.fw, h.thy, h.stk, h.rsm, fun e => absurd (h0.symm.trans e) (by decide), h.flt, h.dieSt, h.line, h.cur, h.bay, fun e => absurd (h1.symm.trans e) (by decide), h.gate, h.saf, h.prot, h.tmp, h.ls, h.sage, h.ring, h.aut, h.saved, h.journal, h.ratios, h.pending⟩⟩

theorem alters_setReg {s : State} {a : Nat} {v : Word} (hw : Sub (2 ^ wordBit a) m) (h : Alters m s₀ s) : Alters m s₀ (s.setReg a v) := by
  have hr : ∀ b, m.testBit (wordBit b) = false → (s.setReg a v).reg b = s₀.reg b := by
    intro b hb
    have hn : b ≠ a := by
      intro e; subst e; rw [sub_bit hw (Nat.testBit_two_pow_self ..)] at hb; cases hb
    rw [State.reg_setReg_other hn]; exact h.reg b hb
  exact { h with reg := hr }

theorem alters_setShadow {s : State} {a : Nat} {v : Word} (hw : Sub partShadow m) (h : Alters m s₀ s) :
    Alters m s₀ (s.setShadow a v) :=
  { h with shadow := fun e => by rw [sub_bit hw (by decide)] at e; cases e }

theorem alters_publish {s : State} {p : Nat} {q : Word} (hw : Sub (pubMask p) m) (h : Alters m s₀ s) :
    Alters m s₀ (s.publish p q) := by
  unfold State.publish
  split
  · exact h
  · have h7 : Sub (2 ^ wordBit (addrOf p 7)) m := sub_trans (sub_left (sub_left (sub_refl _))) hw
    have hp := sub_bit (sub_trans (sub_left (sub_right (sub_refl _))) hw) (by decide : partPublished.testBit 2 = true)
    have hl := sub_bit (sub_trans (sub_right (sub_refl _)) hw) (by decide : partLinks.testBit 6 = true)
    have h' := alters_setReg (v := q) h7 h
    exact { h' with
      published := fun e => by rw [hp] at e; cases e
      links := fun e => by rw [hl] at e; cases e }

theorem alters_put {s : State} {a : Nat} {v : Word} (hw : Sub (putMask a) m) (h : Alters m s₀ s) : Alters m s₀ (s.put a v) := by
  unfold State.put
  split
  · exact h
  · unfold putMask at hw
    split
    · rename_i hc
      rw [if_pos hc] at hw
      refine alters_publish (sub_trans ?_ hw) (alters_setReg (sub_trans ?_ hw) h)
      · exact sub_or (sub_or (sub_left (sub_left (sub_right (sub_refl _)))) (sub_left (sub_right (sub_refl _)))) (sub_right (sub_refl _))
      · exact sub_left (sub_left (sub_left (sub_refl _)))
    · rename_i hc
      rw [if_neg hc] at hw
      exact alters_setReg hw h

theorem alters_putF {s : State} {f : Fld} {v : Word} (hw : Sub (setMask f) m) (h : Alters m s₀ s) :
    Alters m s₀ (s.put f.addr v) := alters_put hw h

theorem alters_set {s : State} {f : Fld} {v : Nat} (hw : Sub (setMask f) m) (h : Alters m s₀ s) : Alters m s₀ (s.set f v) :=
  alters_put hw h

theorem alters_setInt {s : State} {f : Fld} {v : Int} (hw : Sub (setMask f) m) (h : Alters m s₀ s) : Alters m s₀ (s.setInt f v) :=
  alters_put hw h

theorem alters_setOn {s : State} {f : Fld} {b : Bool} (hw : Sub (setMask f) m) (h : Alters m s₀ s) : Alters m s₀ (s.setOn f b) :=
  alters_put hw h

theorem alters_count {s : State} {f : Fld} (hw : Sub (setMask f) m) (h : Alters m s₀ s) : Alters m s₀ (s.count f) :=
  alters_put hw h

theorem alters_flag {s : State} {f : Fld} (hw : Sub (setMask f) m) (h : Alters m s₀ s) : Alters m s₀ (s.flag f) :=
  alters_put hw h

theorem alters_putAt {s : State} {p w : Nat} {v : Word} (hw : Sub (putMask (addrOf p w)) m) (h : Alters m s₀ s) :
    Alters m s₀ (s.put (addrOf p w) v) := alters_put hw h

theorem alters_send {s : State} {e : Event} (hr : Sub partRsm m) (h : Alters m s₀ s) : Alters m s₀ (s.send e) :=
  (alters_rsm (sub_bit hr (by decide))).mpr h

theorem alters_raise {s : State} {p : Nat} {l : EventLow} {c q : Nat} {e : List Nat} (hr : Sub partRsm m) (h : Alters m s₀ s) :
    Alters m s₀ (s.raise p l c q e) := alters_send hr h

theorem alters_listed {s : State} {p l c : Nat} {e : List Nat} (hr : Sub partRsm m) (h : Alters m s₀ s) :
    Alters m s₀ (s.listed p l c e) := alters_send hr h

theorem alters_flagEvent {s : State} {f : Fld} {c : Nat} {e : List Nat} (hw : Sub (setMask f) m) (hr : Sub partRsm m)
    (h : Alters m s₀ s) : Alters m s₀ (s.flagEvent f c e) := alters_send hr (alters_flag hw h)

theorem alters_advanceTo {s : State} {t : Nat} (hn : Sub partNow m) (h : Alters m s₀ s) : Alters m s₀ (s.advanceTo t) :=
  (alters_now (sub_bit hn (by decide))).mpr h

end Sys2Proof.Machine
end

