-- ==== Sys2Proof/Laws/Alters1.lean ====
section
/-! SUPPORT. What the operations of Ops.lean, Leases.lean, Operands.lean, Motion.lean, Coils.lean, Safety.lean, TapTable.lean, CellMeasurement.lean, Slots.lean, Balancing.lean, Thyme.lean may alter (see `Alters`). -/
namespace Sys2Proof.Machine
open Host
set_option linter.unreachableTactic false
set_option linter.unusedTactic false
set_option linter.unusedSimpArgs false
set_option linter.unusedVariables false
set_option Elab.async false

/-! ### Ops.lean -/

/-! ### Leases.lean -/

/-- What `State.onLink` may alter. -/
def alt_onLink : Nat := partLinks

theorem alters_onLink {μ : Nat} {s₀ : State} (s : State) (l : Link) (f : LinkSt → LinkSt) (hm : Sub alt_onLink μ)
    (hk : Alters μ s₀ s) : Alters μ s₀ (State.onLink s l f) := by
  unfold State.onLink
  try dsimp only
  repeat' first
    | simp only [alters_links (sub_bit hm (i := 6) (by decide +kernel))]
    | (with_reducible first | assumption)
    | exact sub_trans (by decide +kernel) hm
    | split

/-- What `State.settleAttn` may alter. -/
def alt_settleAttn : Nat := alt_onLink

theorem alters_settleAttn {μ : Nat} {s₀ : State} (s : State) (port : ℕ) (could : Bool) (hm : Sub alt_settleAttn μ)
    (hk : Alters μ s₀ s) : Alters μ s₀ (State.settleAttn s port could) := by
  unfold State.settleAttn
  try dsimp only
  repeat' first
    | (with_reducible first | assumption | apply alters_onLink | apply alters_ite)
    | exact sub_trans (by decide +kernel) hm
    | split

/-- What `State.onLease` may alter. -/
def alt_onLease : Nat := partFlt

theorem alters_onLease {μ : Nat} {s₀ : State} (s : State) (slot : ℕ) (f : LeaseSt → LeaseSt) (hm : Sub alt_onLease μ)
    (hk : Alters μ s₀ s) : Alters μ s₀ (State.onLease s slot f) := by
  unfold State.onLease
  try dsimp only
  repeat' first
    | simp only [alters_flt (sub_bit hm (i := 15) (by decide +kernel))]
    | (with_reducible first | assumption)
    | exact sub_trans (by decide +kernel) hm
    | split

/-- What `State.grantLease` may alter. -/
def alt_grantLease : Nat :=
    arrayMask F.FLT_LEASE_LEFT ||| arrayMask F.FLT_LEASE_STATE ||| arrayMask F.FLT_LEASE_HOLDER ||| alt_onLease

theorem alters_grantLease {μ : Nat} {s₀ : State} (s : State) (slot : ℕ) (party : ℕ) (hm : Sub alt_grantLease μ)
    (hk : Alters μ s₀ s) : Alters μ s₀ (State.grantLease s slot party) := by
  unfold State.grantLease
  try dsimp only
  repeat' first
    | (with_reducible first | assumption | apply alters_onLease | apply alters_set)
    | exact sub_trans (by decide +kernel) hm
    | (with_reducible refine sub_chain (setMask_at _ _) ?_; (try simp only [arrayMask_on]); first | assumption | exact sub_trans (by decide +kernel) hm)
    | split

/-- What `State.acquireLease` may alter. -/
def alt_acquireLease : Nat := alt_grantLease ||| alt_onLease

theorem alters_acquireLease {μ : Nat} {s₀ : State} (s : State) (slot : ℕ) (party : ℕ) (hm : Sub alt_acquireLease μ)
    (hk : Alters μ s₀ s) : Alters μ s₀ (State.acquireLease s slot party) := by
  unfold State.acquireLease
  try dsimp only
  repeat' first
    | (with_reducible first | assumption | apply alters_grantLease | apply alters_onLease | apply alters_ite)
    | exact sub_trans (by decide +kernel) hm
    | split

/-- What `State.releaseLease` may alter. -/
def alt_releaseLease : Nat :=
    arrayMask F.FLT_LEASE_LEFT ||| arrayMask F.FLT_LEASE_STATE ||| arrayMask F.FLT_LEASE_HOLDER ||| alt_grantLease
    ||| alt_onLease

theorem alters_releaseLease {μ : Nat} {s₀ : State} (s : State) (slot : ℕ) (hm : Sub alt_releaseLease μ)
    (hk : Alters μ s₀ s) : Alters μ s₀ (State.releaseLease s slot) := by
  unfold State.releaseLease
  try dsimp only
  repeat' first
    | (with_reducible first | assumption | apply alters_set | apply alters_grantLease | apply alters_onLease)
    | exact sub_trans (by decide +kernel) hm
    | (with_reducible refine sub_chain (setMask_at _ _) ?_; (try simp only [arrayMask_on]); first | assumption | exact sub_trans (by decide +kernel) hm)
    | split

/-- What `State.withSlot` may alter, beside what the transfer does. -/
def alt_withSlot : Nat := alt_releaseLease ||| alt_acquireLease

theorem alters_withSlot {μ : Nat} {s₀ : State} (s : State) (slot party : Nat) (f : State → State) (hm : Sub alt_withSlot μ)
    (hf : ∀ t, Alters μ s₀ t → Alters μ s₀ (f t)) (hk : Alters μ s₀ s) : Alters μ s₀ (State.withSlot s slot party f) := by
  unfold State.withSlot
  exact alters_ite (alters_releaseLease _ _ (sub_trans (by decide +kernel) hm) (hf s hk))
    (alters_ite (hf s hk) (alters_acquireLease _ _ _ (sub_trans (by decide +kernel) hm) hk))

/-- What `State.clearSlot` may alter. -/
def alt_clearSlot : Nat := alt_releaseLease ||| alt_onLease

theorem alters_clearSlot {μ : Nat} {s₀ : State} (s : State) (slot : ℕ) (hm : Sub alt_clearSlot μ)
    (hk : Alters μ s₀ s) : Alters μ s₀ (State.clearSlot s slot) := by
  unfold State.clearSlot
  try dsimp only
  repeat' first
    | (with_reducible first | assumption | apply alters_releaseLease | apply alters_onLease)
    | exact sub_trans (by decide +kernel) hm
    | split

/-- What `State.clearReply` may alter. -/
def alt_clearReply : Nat := partFlt ||| alt_onLink

theorem alters_clearReply {μ : Nat} {s₀ : State} (s : State) (l : Link) (hm : Sub alt_clearReply μ)
    (hk : Alters μ s₀ s) : Alters μ s₀ (State.clearReply s l) := by
  unfold State.clearReply
  try dsimp only
  repeat' first
    | simp only [alters_flt (sub_bit hm (i := 15) (by decide +kernel))]
    | (with_reducible first | assumption | apply alters_onLink | apply alters_ite)
    | exact sub_trans (by decide +kernel) hm
    | split

/-- What `State.putInOrder` may alter. -/
def alt_putInOrder : Nat := partRing ||| partFlt ||| alt_clearReply

theorem alters_putInOrder {μ : Nat} {s₀ : State} (s : State) (slot : ℕ) (hm : Sub alt_putInOrder μ)
    (hk : Alters μ s₀ s) : Alters μ s₀ (State.putInOrder s slot) := by
  unfold State.putInOrder
  try dsimp only
  repeat' first
    | simp only [alters_ring (sub_bit hm (i := 27) (by decide +kernel))]
    | simp only [alters_flt (sub_bit hm (i := 15) (by decide +kernel))]
    | (with_reducible first | assumption | apply alters_clearReply | apply alters_ite)
    | exact sub_trans (by decide +kernel) hm
    | split

/-- What `State.revokeLease` may alter. -/
def alt_revokeLease : Nat :=
    arrayMask F.FLT_LEASE_LEFT ||| arrayMask F.FLT_LEASE_STATE ||| arrayMask F.FLT_LEASE_HOLDER ||| setMask
    F.FLT_COUNT_REVOKE ||| setMask F.FLT_IFLAG_REVOKE ||| partFlt ||| alt_onLease ||| alt_releaseLease |||
    alt_putInOrder ||| alt_grantLease

theorem alters_revokeLease {μ : Nat} {s₀ : State} (s : State) (slot : ℕ) (hm : Sub alt_revokeLease μ)
    (hk : Alters μ s₀ s) : Alters μ s₀ (State.revokeLease s slot) := by
  unfold State.revokeLease
  try dsimp only
  repeat' first
    | simp only [alters_flt (sub_bit hm (i := 15) (by decide +kernel))]
    | (with_reducible first | assumption | apply alters_count | apply alters_flag | apply alters_set | apply alters_onLease)
    | (with_reducible first | apply alters_releaseLease | apply alters_putInOrder | apply alters_grantLease | apply alters_ite)
    | exact sub_trans (by decide +kernel) hm
    | (with_reducible refine sub_chain (setMask_at _ _) ?_; (try simp only [arrayMask_on]); first | assumption | exact sub_trans (by decide +kernel) hm)
    | split

/-- What `State.revokeAll` may alter. -/
def alt_revokeAll : Nat := alt_revokeLease

theorem alters_revokeAll {μ : Nat} {s₀ : State} (s : State) (party : ℕ) (hm : Sub alt_revokeAll μ)
    (hk : Alters μ s₀ s) : Alters μ s₀ (State.revokeAll s party) := by
  unfold State.revokeAll
  try dsimp only
  repeat' first
    | intro _
    | (with_reducible first | assumption | apply alters_revokeLease | apply alters_ite | apply alters_foldl)
    | exact sub_trans (by decide +kernel) hm
    | split

/-- What `State.dropParty` may alter. -/
def alt_dropParty : Nat := partFlt ||| alt_revokeAll

theorem alters_dropParty {μ : Nat} {s₀ : State} (s : State) (party : ℕ) (hm : Sub alt_dropParty μ)
    (hk : Alters μ s₀ s) : Alters μ s₀ (State.dropParty s party) := by
  unfold State.dropParty
  try dsimp only
  repeat' first
    | simp only [alters_flt (sub_bit hm (i := 15) (by decide +kernel))]
    | (with_reducible first | assumption | apply alters_revokeAll)
    | exact sub_trans (by decide +kernel) hm
    | split

/-- What `State.freezeLeases` may alter. -/
def alt_freezeLeases : Nat := arrayMask F.FLT_LEASE_STATE ||| arrayMask F.FLT_LEASE_LEFT

theorem alters_freezeLeases {μ : Nat} {s₀ : State} (s : State) (party : ℕ) (hm : Sub alt_freezeLeases μ)
    (hk : Alters μ s₀ s) : Alters μ s₀ (State.freezeLeases s party) := by
  unfold State.freezeLeases
  try dsimp only
  repeat' first
    | intro _
    | (with_reducible first | assumption | apply alters_set | apply alters_ite | apply alters_foldl)
    | exact sub_trans (by decide +kernel) hm
    | (with_reducible refine sub_chain (setMask_at _ _) ?_; (try simp only [arrayMask_on]); first | assumption | exact sub_trans (by decide +kernel) hm)
    | split

/-- What `execLeaseAcquire` may alter. -/
def alt_execLeaseAcquire : Nat := alt_acquireLease

theorem alters_execLeaseAcquire {μ : Nat} {s₀ : State} (slot : ℕ) (party : ℕ) (s : State) (hm : Sub alt_execLeaseAcquire μ)
    (hk : Alters μ s₀ s) : AltersTo μ s₀ (execLeaseAcquire slot party s) := by
  unfold execLeaseAcquire
  try dsimp only
  repeat' first
    | (with_reducible first | assumption | apply alters_acquireLease | apply alters_next)
    | exact sub_trans (by decide +kernel) hm
    | split

/-- What `State.journalBy` may alter. -/
def alt_journalBy : Nat := partJournal ||| alt_acquireLease

theorem alters_journalBy {μ : Nat} {s₀ : State} (s : State) (party : ℕ) (old : List Kept) (hm : Sub alt_journalBy μ)
    (hk : Alters μ s₀ s) : Alters μ s₀ (State.journalBy s party old) := by
  unfold State.journalBy
  try dsimp only
  repeat' first
    | simp only [alters_journal (sub_bit hm (i := 30) (by decide +kernel))]
    | (with_reducible first | assumption | apply alters_acquireLease)
    | exact sub_trans (by decide +kernel) hm
    | split

/-- What `State.journalWrite` may alter. -/
def alt_journalWrite : Nat := alt_journalBy

theorem alters_journalWrite {μ : Nat} {s₀ : State} (s : State) (old : List Kept) (hm : Sub alt_journalWrite μ)
    (hk : Alters μ s₀ s) : Alters μ s₀ (State.journalWrite s old) := by
  unfold State.journalWrite
  try dsimp only
  repeat' first
    | (with_reducible first | assumption | apply alters_journalBy)
    | exact sub_trans (by decide +kernel) hm
    | split

/-- What `State.saveValue` may alter. -/
def alt_saveValue : Nat := partSaved

theorem alters_saveValue {μ : Nat} {s₀ : State} (s : State) (a : ℕ) (v : ℤ) (hm : Sub alt_saveValue μ)
    (hk : Alters μ s₀ s) : Alters μ s₀ (State.saveValue s a v) := by
  unfold State.saveValue
  try dsimp only
  repeat' first
    | simp only [alters_saved (sub_bit hm (i := 29) (by decide +kernel))]
    | (with_reducible first | assumption)
    | exact sub_trans (by decide +kernel) hm
    | split

/-- What `State.saving` may alter, beside what the change it saves does. -/
def alt_saving : Nat := alt_journalWrite

theorem alters_saving {μ : Nat} {s₀ : State} (s : State) (words : List Nat) (f : State → State) (hm : Sub alt_saving μ)
    (hf : ∀ t, Alters μ s₀ t → Alters μ s₀ (f t)) (hk : Alters μ s₀ s) : Alters μ s₀ (State.saving s words f) := by
  unfold State.saving
  exact alters_journalWrite _ _ hm (hf s hk)

/-- What `State.countLife` may alter. -/
def alt_countLife : Nat := alt_saving

theorem alters_countLife {μ : Nat} {s₀ : State} (s : State) (f : Fld) (hm : Sub alt_countLife μ) (h_f : Sub (setMask f) μ)
    (hk : Alters μ s₀ s) : Alters μ s₀ (State.countLife s f) := by
  unfold State.countLife
  try dsimp only
  repeat' first
    | intro _
    | (with_reducible first | assumption | apply alters_saving | apply alters_count)
    | exact sub_trans (by decide +kernel) hm
    | split

/-- What `State.storeImage` may alter. -/
def alt_storeImage : Nat := partFw

theorem alters_storeImage {μ : Nat} {s₀ : State} (s : State) (hm : Sub alt_storeImage μ)
    (hk : Alters μ s₀ s) : Alters μ s₀ (State.storeImage s) := by
  unfold State.storeImage
  try dsimp only
  repeat' first
    | simp only [alters_fw (sub_bit hm (i := 10) (by decide +kernel))]
    | (with_reducible first | assumption)
    | exact sub_trans (by decide +kernel) hm
    | split

/-- What `State.showHeld` may alter. -/
def alt_showHeld : Nat := setMask F.KRG_MIRSTAT_HVALID ||| setMask F.KRG_MIRSTAT_HELD

theorem alters_showHeld {μ : Nat} {s₀ : State} (s : State) (hm : Sub alt_showHeld μ)
    (hk : Alters μ s₀ s) : Alters μ s₀ (State.showHeld s) := by
  unfold State.showHeld
  try dsimp only
  repeat' first
    | (with_reducible first | assumption | apply alters_setOn | apply alters_set)
    | exact sub_trans (by decide +kernel) hm
    | split

/-- What `State.storeMirror` may alter. -/
def alt_storeMirror : Nat := partRing ||| alt_showHeld

theorem alters_storeMirror {μ : Nat} {s₀ : State} (s : State) (hm : Sub alt_storeMirror μ)
    (hk : Alters μ s₀ s) : Alters μ s₀ (State.storeMirror s) := by
  unfold State.storeMirror
  try dsimp only
  repeat' first
    | simp only [alters_ring (sub_bit hm (i := 27) (by decide +kernel))]
    | (with_reducible first | assumption | apply alters_showHeld)
    | exact sub_trans (by decide +kernel) hm
    | split

/-- What `State.saveAcked` may alter. -/
def alt_saveAcked : Nat := partCyl

theorem alters_saveAcked {μ : Nat} {s₀ : State} (s : State) (hm : Sub alt_saveAcked μ)
    (hk : Alters μ s₀ s) : Alters μ s₀ (State.saveAcked s) := by
  unfold State.saveAcked
  try dsimp only
  repeat' first
    | simp only [alters_cyl (sub_bit hm (i := 14) (by decide +kernel))]
    | (with_reducible first | assumption)
    | exact sub_trans (by decide +kernel) hm
    | split

/-- What `State.finishPort` may alter. -/
def alt_finishPort : Nat := partJournal ||| alt_saveAcked ||| alt_storeImage ||| alt_storeMirror

theorem alters_finishPort {μ : Nat} {s₀ : State} (s : State) (party : ℕ) (hm : Sub alt_finishPort μ)
    (hk : Alters μ s₀ s) : Alters μ s₀ (State.finishPort s party) := by
  unfold State.finishPort
  try dsimp only
  repeat' first
    | intro _
    | simp only [alters_journal (sub_bit hm (i := 30) (by decide +kernel))]
    | (with_reducible first | assumption | apply alters_applyIf | apply alters_saveAcked | apply alters_storeImage)
    | (with_reducible first | apply alters_storeMirror)
    | exact sub_trans (by decide +kernel) hm
    | split

/-- What `State.offerImage` may alter. -/
def alt_offerImage : Nat := alt_storeImage ||| alt_acquireLease

theorem alters_offerImage {μ : Nat} {s₀ : State} (s : State) (hm : Sub alt_offerImage μ)
    (hk : Alters μ s₀ s) : Alters μ s₀ (State.offerImage s) := by
  unfold State.offerImage
  try dsimp only
  repeat' first
    | (with_reducible first | assumption | apply alters_storeImage | apply alters_acquireLease | apply alters_ite)
    | exact sub_trans (by decide +kernel) hm
    | split

/-- What `State.releasePort` may alter. -/
def alt_releasePort : Nat := alt_offerImage ||| alt_releaseLease ||| alt_finishPort

theorem alters_releasePort {μ : Nat} {s₀ : State} (s : State) (party : ℕ) (hm : Sub alt_releasePort μ)
    (hk : Alters μ s₀ s) : Alters μ s₀ (State.releasePort s party) := by
  unfold State.releasePort
  try dsimp only
  repeat' first
    | (with_reducible first | assumption | apply alters_offerImage | apply alters_releaseLease | apply alters_finishPort)
    | exact sub_trans (by decide +kernel) hm
    | split

/-! ### Operands.lean -/

/-- What `State.onDie` may alter. -/
def alt_onDie : Nat := partDieSt

theorem alters_onDie {μ : Nat} {s₀ : State} (s : State) (k : ℕ) (f : DieSt → DieSt) (hm : Sub alt_onDie μ)
    (hk : Alters μ s₀ s) : Alters μ s₀ (State.onDie s k f) := by
  unfold State.onDie
  try dsimp only
  repeat' first
    | simp only [alters_dieSt (sub_bit hm (i := 16) (by decide +kernel))]
    | (with_reducible first | assumption)
    | exact sub_trans (by decide +kernel) hm
    | split

/-- What `State.onBal` may alter. -/
def alt_onBal : Nat := alt_onDie

theorem alters_onBal {μ : Nat} {s₀ : State} (s : State) (k : ℕ) (f : BalanceSt → BalanceSt) (hm : Sub alt_onBal μ)
    (hk : Alters μ s₀ s) : Alters μ s₀ (State.onBal s k f) := by
  unfold State.onBal
  try dsimp only
  repeat' first
    | (with_reducible first | assumption | apply alters_onDie)
    | exact sub_trans (by decide +kernel) hm
    | split

theorem alters_set64 {μ : Nat} {s₀ : State} (s : State) (lo : Fld) (hi : Fld) (f : ℕ → Bool) (h_hi : Sub (setMask hi) μ) (h_lo : Sub (setMask lo) μ)
    (hk : Alters μ s₀ s) : Alters μ s₀ (State.set64 s lo hi f) := by
  unfold State.set64
  try dsimp only
  repeat' first
    | (with_reducible first | assumption | apply alters_set)
    | split

/-! ### Motion.lean -/

/-- What `State.onAxis` may alter. -/
def alt_onAxis : Nat := partMot

theorem alters_onAxis {μ : Nat} {s₀ : State} (s : State) (a : ℕ) (f : AxisSt → AxisSt) (hm : Sub alt_onAxis μ)
    (hk : Alters μ s₀ s) : Alters μ s₀ (State.onAxis s a f) := by
  unfold State.onAxis
  try dsimp only
  repeat' first
    | simp only [alters_mot (sub_bit hm (i := 20) (by decide +kernel))]
    | (with_reducible first | assumption)
    | exact sub_trans (by decide +kernel) hm
    | split

/-- What `State.onCycle` may alter. -/
def alt_onCycle : Nat := alt_onAxis

theorem alters_onCycle {μ : Nat} {s₀ : State} (s : State) (a : ℕ) (f : Cycle → Cycle) (hm : Sub alt_onCycle μ)
    (hk : Alters μ s₀ s) : Alters μ s₀ (State.onCycle s a f) := by
  unfold State.onCycle
  try dsimp only
  repeat' first
    | (with_reducible first | assumption | apply alters_onAxis)
    | exact sub_trans (by decide +kernel) hm
    | split

/-- What `State.setAxState` may alter. -/
def alt_setAxState : Nat := setMask F.AX_STAT_STATE

theorem alters_setAxState {μ : Nat} {s₀ : State} (s : State) (a : ℕ) (v : ℕ) (hm : Sub alt_setAxState μ)
    (hk : Alters μ s₀ s) : Alters μ s₀ (State.setAxState s a v) := by
  unfold State.setAxState
  try dsimp only
  repeat' first
    | (with_reducible first | assumption | apply alters_set)
    | exact sub_trans (by decide +kernel) hm
    | (simp only [setMask_on, setMask_bit, setMask_chanBit, pubMask_on]; exact sub_trans (by decide +kernel) hm)
    | split

/-- What `State.setHomed` may alter. -/
def alt_setHomed : Nat := setMask F.MOT_STAT_HOMED ||| setMask F.AX_STAT_HOMED

theorem alters_setHomed {μ : Nat} {s₀ : State} (s : State) (a : ℕ) (v : Bool) (hm : Sub alt_setHomed μ)
    (hk : Alters μ s₀ s) : Alters μ s₀ (State.setHomed s a v) := by
  unfold State.setHomed
  try dsimp only
  repeat' first
    | (with_reducible first | assumption | apply alters_set | apply alters_setOn)
    | exact sub_trans (by decide +kernel) hm
    | (simp only [setMask_on, setMask_bit, setMask_chanBit, pubMask_on]; exact sub_trans (by decide +kernel) hm)
    | split

/-- What `State.setMoving` may alter. -/
def alt_setMoving : Nat := setMask F.MOT_STAT_MOVING

theorem alters_setMoving {μ : Nat} {s₀ : State} (s : State) (a : ℕ) (v : Bool) (hm : Sub alt_setMoving μ)
    (hk : Alters μ s₀ s) : Alters μ s₀ (State.setMoving s a v) := by
  unfold State.setMoving
  try dsimp only
  repeat' first
    | (with_reducible first | assumption | apply alters_set)
    | exact sub_trans (by decide +kernel) hm
    | split

/-- What `State.latch` may alter. -/
def alt_latch : Nat := setMask F.AX_VEL_VAL ||| setMask F.AX_SETPT_VAL ||| alt_onAxis

theorem alters_latch {μ : Nat} {s₀ : State} (s : State) (a : ℕ) (p : Setpoint) (hm : Sub alt_latch μ)
    (hk : Alters μ s₀ s) : Alters μ s₀ (State.latch s a p) := by
  unfold State.latch
  try dsimp only
  repeat' first
    | (with_reducible first | assumption | apply alters_onAxis | apply alters_setInt)
    | exact sub_trans (by decide +kernel) hm
    | (simp only [setMask_on, setMask_bit, setMask_chanBit, pubMask_on]; exact sub_trans (by decide +kernel) hm)
    | split

/-- What `State.planOn` may alter. -/
def alt_planOn : Nat := alt_onAxis

theorem alters_planOn {μ : Nat} {s₀ : State} (s : State) (a : ℕ) (f : Cycle → Setpoint → Cycle) (hm : Sub alt_planOn μ)
    (hk : Alters μ s₀ s) : Alters μ s₀ (State.planOn s a f) := by
  unfold State.planOn
  try dsimp only
  repeat' first
    | (with_reducible first | assumption | apply alters_onAxis)
    | exact sub_trans (by decide +kernel) hm
    | split

/-- What `State.renumber` may alter. -/
def alt_renumber : Nat := setMask F.AX_SETPT_VAL ||| setMask F.AX_POS_VAL ||| alt_onAxis

theorem alters_renumber {μ : Nat} {s₀ : State} (s : State) (a : ℕ) (shift : ℤ) (hm : Sub alt_renumber μ)
    (hk : Alters μ s₀ s) : Alters μ s₀ (State.renumber s a shift) := by
  unfold State.renumber
  try dsimp only
  repeat' first
    | (with_reducible first | assumption | apply alters_onAxis | apply alters_setInt)
    | exact sub_trans (by decide +kernel) hm
    | (simp only [setMask_on, setMask_bit, setMask_chanBit, pubMask_on]; exact sub_trans (by decide +kernel) hm)
    | split

/-- What `State.runStart` may alter. -/
def alt_runStart : Nat := setMask F.AX_SETPT_VAL ||| alt_onAxis ||| alt_setAxState

theorem alters_runStart {μ : Nat} {s₀ : State} (s : State) (a : ℕ) (kind : ℕ) (target : ℤ) (hm : Sub alt_runStart μ)
    (hk : Alters μ s₀ s) : Alters μ s₀ (State.runStart s a kind target) := by
  unfold State.runStart
  try dsimp only
  repeat' first
    | (with_reducible first | assumption | apply alters_onAxis | apply alters_setAxState | apply alters_setInt | apply alters_ite)
    | exact sub_trans (by decide +kernel) hm
    | (simp only [setMask_on, setMask_bit, setMask_chanBit, pubMask_on]; exact sub_trans (by decide +kernel) hm)
    | split

/-- What `State.acceptStart` may alter. -/
def alt_acceptStart : Nat := alt_onAxis ||| alt_setAxState ||| alt_runStart

theorem alters_acceptStart {μ : Nat} {s₀ : State} (s : State) (a : ℕ) (kind : ℕ) (target : ℤ) (hm : Sub alt_acceptStart μ)
    (hk : Alters μ s₀ s) : Alters μ s₀ (State.acceptStart s a kind target) := by
  unfold State.acceptStart
  try dsimp only
  repeat' first
    | (with_reducible first | assumption | apply alters_onAxis | apply alters_setAxState | apply alters_runStart | apply alters_ite)
    | exact sub_trans (by decide +kernel) hm
    | split

/-- What `State.runStaged` may alter. -/
def alt_runStaged : Nat := alt_runStart

theorem alters_runStaged {μ : Nat} {s₀ : State} (s : State) (hm : Sub alt_runStaged μ)
    (hk : Alters μ s₀ s) : Alters μ s₀ (State.runStaged s) := by
  unfold State.runStaged
  try dsimp only
  repeat' first
    | intro _
    | (with_reducible first | assumption | apply alters_runStart | apply alters_foldl)
    | exact sub_trans (by decide +kernel) hm
    | split

/-- What `State.replan` may alter. -/
def alt_replan : Nat := alt_planOn

theorem alters_replan {μ : Nat} {s₀ : State} (s : State) (a : ℕ) (target : ℤ) (hm : Sub alt_replan μ)
    (hk : Alters μ s₀ s) : Alters μ s₀ (State.replan s a target) := by
  unfold State.replan
  try dsimp only
  repeat' first
    | (with_reducible first | assumption | apply alters_planOn)
    | exact sub_trans (by decide +kernel) hm
    | split

/-- What `State.move` may alter. -/
def alt_move : Nat := alt_replan ||| alt_acceptStart

theorem alters_move {μ : Nat} {s₀ : State} (s : State) (a : ℕ) (hm : Sub alt_move μ)
    (hk : Alters μ s₀ s) : Alters μ s₀ (State.move s a).1 := by
  unfold State.move
  try dsimp only
  repeat' first
    | (with_reducible first | assumption | apply alters_replan | apply alters_acceptStart)
    | exact sub_trans (by decide +kernel) hm
    | split

/-- What `State.takeHome` may alter. -/
def alt_takeHome : Nat := setMask F.AX_IFLAG_HOMED ||| alt_setHomed ||| alt_renumber

theorem alters_takeHome {μ : Nat} {s₀ : State} (s : State) (a : ℕ) (hm : Sub alt_takeHome μ)
    (hk : Alters μ s₀ s) : Alters μ s₀ (State.takeHome s a) := by
  unfold State.takeHome
  try dsimp only
  repeat' first
    | (with_reducible first | assumption | apply alters_flag | apply alters_setHomed | apply alters_renumber)
    | exact sub_trans (by decide +kernel) hm
    | (simp only [setMask_on, setMask_bit, setMask_chanBit, pubMask_on]; exact sub_trans (by decide +kernel) hm)
    | split

/-- What `State.home` may alter. -/
def alt_home : Nat := alt_takeHome ||| alt_acceptStart

theorem alters_home {μ : Nat} {s₀ : State} (s : State) (a : ℕ) (hm : Sub alt_home μ)
    (hk : Alters μ s₀ s) : Alters μ s₀ (State.home s a).1 := by
  unfold State.home
  try dsimp only
  repeat' first
    | (with_reducible first | assumption | apply alters_takeHome | apply alters_acceptStart)
    | exact sub_trans (by decide +kernel) hm
    | split

/-- What `State.groupStart` may alter. -/
def alt_groupStart : Nat := alt_acceptStart

theorem alters_groupStart {μ : Nat} {s₀ : State} (s : State) (g : ℕ) (hm : Sub alt_groupStart μ)
    (hk : Alters μ s₀ s) : Alters μ s₀ (State.groupStart s g).1 := by
  unfold State.groupStart
  try dsimp only
  repeat' first
    | intro _
    | (with_reducible first | assumption | apply alters_acceptStart | apply alters_foldl)
    | exact sub_trans (by decide +kernel) hm
    | split

/-- What `State.startCycle` may alter. -/
def alt_startCycle : Nat := alt_setAxState ||| alt_setMoving ||| alt_onAxis

theorem alters_startCycle {μ : Nat} {s₀ : State} (s : State) (a : ℕ) (c : Cycle) (hm : Sub alt_startCycle μ)
    (hk : Alters μ s₀ s) : Alters μ s₀ (State.startCycle s a c) := by
  unfold State.startCycle
  try dsimp only
  repeat' first
    | (with_reducible first | assumption | apply alters_setAxState | apply alters_setMoving | apply alters_onAxis)
    | exact sub_trans (by decide +kernel) hm
    | split

/-- What `State.startGroup` may alter. -/
def alt_startGroup : Nat := alt_startCycle

theorem alters_startGroup {μ : Nat} {s₀ : State} (s : State) (g : ℕ) (hm : Sub alt_startGroup μ)
    (hk : Alters μ s₀ s) : Alters μ s₀ (State.startGroup s g) := by
  unfold State.startGroup
  try dsimp only
  repeat' first
    | intro _
    | (with_reducible first | assumption | apply alters_startCycle | apply alters_foldl)
    | exact sub_trans (by decide +kernel) hm
    | split

/-- What `execCycleStart` may alter. -/
def alt_execCycleStart : Nat := partNow ||| alt_setAxState ||| alt_startCycle ||| alt_startGroup

theorem alters_execCycleStart {μ : Nat} {s₀ : State} (a : ℕ) (s : State) (hm : Sub alt_execCycleStart μ)
    (hk : Alters μ s₀ s) : AltersTo μ s₀ (execCycleStart a s) := by
  unfold execCycleStart
  try dsimp only
  repeat' first
    | (with_reducible first | assumption | apply alters_advanceTo | apply alters_setAxState | apply alters_startCycle)
    | (with_reducible first | apply alters_startGroup | apply alters_next | apply altersTo_ite)
    | exact sub_trans (by decide +kernel) hm
    | split

/-- What `State.causeFlag` may alter. -/
def alt_causeFlag : Nat := setMask F.AX_IFLAG_STALL ||| setMask F.AX_IFLAG_EDGE ||| setMask F.AX_IFLAG_OBST

theorem alters_causeFlag {μ : Nat} {s₀ : State} (s : State) (a : ℕ) (rank : ℕ) (hm : Sub alt_causeFlag μ)
    (hk : Alters μ s₀ s) : Alters μ s₀ (State.causeFlag s a rank) := by
  unfold State.causeFlag
  try dsimp only
  repeat' first
    | (with_reducible first | assumption | apply alters_flag | apply alters_ite)
    | exact sub_trans (by decide +kernel) hm
    | (simp only [setMask_on, setMask_bit, setMask_chanBit, pubMask_on]; exact sub_trans (by decide +kernel) hm)
    | split

/-- What `State.stopWith` may alter. -/
def alt_stopWith : Nat := alt_onAxis ||| alt_setHomed ||| alt_setAxState ||| alt_latch

theorem alters_stopWith {μ : Nat} {s₀ : State} (s : State) (a : ℕ) (rank : ℕ) (own : Bool) (decel : ℚ) (jerk : ℚ) (hm : Sub alt_stopWith μ)
    (hk : Alters μ s₀ s) : Alters μ s₀ (State.stopWith s a rank own decel jerk) := by
  unfold State.stopWith
  try dsimp only
  repeat' first
    | (with_reducible first | assumption | apply alters_onAxis | apply alters_setHomed | apply alters_setAxState | apply alters_latch)
    | (with_reducible first | apply alters_ite)
    | exact sub_trans (by decide +kernel) hm
    | split

/-- What `State.stopGroup` may alter. -/
def alt_stopGroup : Nat := alt_stopWith

theorem alters_stopGroup {μ : Nat} {s₀ : State} (s : State) (a : ℕ) (g : ℕ) (rank : ℕ) (hm : Sub alt_stopGroup μ)
    (hk : Alters μ s₀ s) : Alters μ s₀ (State.stopGroup s a g rank) := by
  unfold State.stopGroup
  try dsimp only
  repeat' first
    | intro _
    | (with_reducible first | assumption | apply alters_stopWith | apply alters_ite | apply alters_foldl)
    | exact sub_trans (by decide +kernel) hm
    | split

/-- What `State.dropStart` may alter. -/
def alt_dropStart : Nat := alt_onAxis ||| alt_setAxState

theorem alters_dropStart {μ : Nat} {s₀ : State} (s : State) (a : ℕ) (rank : ℕ) (hm : Sub alt_dropStart μ)
    (hk : Alters μ s₀ s) : Alters μ s₀ (State.dropStart s a rank) := by
  unfold State.dropStart
  try dsimp only
  repeat' first
    | (with_reducible first | assumption | apply alters_onAxis | apply alters_setAxState | apply alters_ite)
    | exact sub_trans (by decide +kernel) hm
    | split

/-- What `State.dropPending` may alter. -/
def alt_dropPending : Nat := alt_dropStart

theorem alters_dropPending {μ : Nat} {s₀ : State} (s : State) (a : ℕ) (rank : ℕ) (hm : Sub alt_dropPending μ)
    (hk : Alters μ s₀ s) : Alters μ s₀ (State.dropPending s a rank) := by
  unfold State.dropPending
  try dsimp only
  repeat' first
    | intro _
    | (with_reducible first | assumption | apply alters_dropStart | apply alters_ite | apply alters_foldl)
    | exact sub_trans (by decide +kernel) hm
    | split

/-- What `State.stopAxis` may alter. -/
def alt_stopAxis : Nat :=
    alt_causeFlag ||| alt_stopGroup ||| alt_stopWith ||| alt_dropPending ||| alt_setAxState ||| alt_onAxis

theorem alters_stopAxis {μ : Nat} {s₀ : State} (s : State) (a : ℕ) (rank : ℕ) (hm : Sub alt_stopAxis μ)
    (hk : Alters μ s₀ s) : Alters μ s₀ (State.stopAxis s a rank) := by
  unfold State.stopAxis
  try dsimp only
  repeat' first
    | (with_reducible first | assumption | apply alters_causeFlag | apply alters_stopGroup | apply alters_stopWith)
    | (with_reducible first | apply alters_dropPending | apply alters_setAxState | apply alters_onAxis | apply alters_ite)
    | exact sub_trans (by decide +kernel) hm
    | split

/-- What `State.stopAtLimit` may alter. -/
def alt_stopAtLimit : Nat := setMask F.AX_IFLAG_LIMIT ||| alt_stopAxis ||| alt_onAxis

theorem alters_stopAtLimit {μ : Nat} {s₀ : State} (s : State) (a : ℕ) (hm : Sub alt_stopAtLimit μ)
    (hk : Alters μ s₀ s) : Alters μ s₀ (State.stopAtLimit s a) := by
  unfold State.stopAtLimit
  try dsimp only
  repeat' first
    | intro _
    | (with_reducible first | assumption | apply alters_flag | apply alters_stopAxis | apply alters_applyIf | apply alters_onAxis)
    | exact sub_trans (by decide +kernel) hm
    | (simp only [setMask_on, setMask_bit, setMask_chanBit, pubMask_on]; exact sub_trans (by decide +kernel) hm)
    | split

/-- What `State.stopAllAxes` may alter. -/
def alt_stopAllAxes : Nat := alt_stopAxis

theorem alters_stopAllAxes {μ : Nat} {s₀ : State} (s : State) (rank : ℕ) (hm : Sub alt_stopAllAxes μ)
    (hk : Alters μ s₀ s) : Alters μ s₀ (State.stopAllAxes s rank) := by
  unfold State.stopAllAxes
  try dsimp only
  repeat' first
    | intro _
    | (with_reducible first | assumption | apply alters_stopAxis | apply alters_ite | apply alters_foldl)
    | exact sub_trans (by decide +kernel) hm
    | split

/-- What `State.stopMoving` may alter. -/
def alt_stopMoving : Nat := alt_stopAxis

theorem alters_stopMoving {μ : Nat} {s₀ : State} (s : State) (rank : ℕ) (hm : Sub alt_stopMoving μ)
    (hk : Alters μ s₀ s) : Alters μ s₀ (State.stopMoving s rank) := by
  unfold State.stopMoving
  try dsimp only
  repeat' first
    | intro _
    | (with_reducible first | assumption | apply alters_stopAxis | apply alters_ite | apply alters_foldl)
    | exact sub_trans (by decide +kernel) hm
    | split

/-- What `State.hostStop` may alter. -/
def alt_hostStop : Nat := alt_stopAxis

theorem alters_hostStop {μ : Nat} {s₀ : State} (s : State) (a : ℕ) (hm : Sub alt_hostStop μ)
    (hk : Alters μ s₀ s) : Alters μ s₀ (State.hostStop s a).1 := by
  unfold State.hostStop
  try dsimp only
  repeat' first
    | (with_reducible first | assumption | apply alters_stopAxis)
    | exact sub_trans (by decide +kernel) hm
    | split

/-- What `State.axisClear` may alter. -/
def alt_axisClear : Nat := alt_setAxState ||| alt_onAxis

theorem alters_axisClear {μ : Nat} {s₀ : State} (s : State) (a : ℕ) (hm : Sub alt_axisClear μ)
    (hk : Alters μ s₀ s) : Alters μ s₀ (State.axisClear s a).1 := by
  unfold State.axisClear
  try dsimp only
  repeat' first
    | (with_reducible first | assumption | apply alters_setAxState | apply alters_onAxis)
    | exact sub_trans (by decide +kernel) hm
    | split

/-- What `State.writeAxCmd` may alter. -/
def alt_writeAxCmd : Nat := alt_move ||| alt_home ||| alt_hostStop ||| alt_axisClear

theorem alters_writeAxCmd {μ : Nat} {s₀ : State} (s : State) (a : ℕ) (v : Word) (hm : Sub alt_writeAxCmd μ)
    (hk : Alters μ s₀ s) : Alters μ s₀ (State.writeAxCmd s a v).1 := by
  unfold State.writeAxCmd
  try dsimp only
  repeat' first
    | (with_reducible first | assumption | apply alters_move | apply alters_home | apply alters_hostStop | apply alters_axisClear)
    | exact sub_trans (by decide +kernel) hm
    | split

/-- What `State.writeMotCmd` may alter. -/
def alt_writeMotCmd : Nat := alt_groupStart ||| alt_hostStop

theorem alters_writeMotCmd {μ : Nat} {s₀ : State} (s : State) (v : Word) (hm : Sub alt_writeMotCmd μ)
    (hk : Alters μ s₀ s) : Alters μ s₀ (State.writeMotCmd s v).1 := by
  unfold State.writeMotCmd
  try dsimp only
  repeat' first
    | intro _
    | (with_reducible first | assumption | apply alters_groupStart | apply alters_hostStop | apply alters_foldl)
    | exact sub_trans (by decide +kernel) hm
    | split

/-- What `State.outcomeEvent` may alter. -/
def alt_outcomeEvent : Nat := setMask F.AX_IFLAG_DONE ||| partRsm

theorem alters_outcomeEvent {μ : Nat} {s₀ : State} (s : State) (a : ℕ) (outcome : ℕ) (hm : Sub alt_outcomeEvent μ)
    (hk : Alters μ s₀ s) : Alters μ s₀ (State.outcomeEvent s a outcome) := by
  unfold State.outcomeEvent
  try dsimp only
  repeat' first
    | (with_reducible first | assumption | apply alters_flagEvent)
    | exact sub_trans (by decide +kernel) hm
    | (simp only [setMask_on, setMask_bit, setMask_chanBit, pubMask_on]; exact sub_trans (by decide +kernel) hm)
    | split

/-- What `State.endCycle` may alter. -/
def alt_endCycle : Nat :=
    setMask F.AX_STAT_OUT ||| setMask F.MOT_IFLAG_DONE ||| setMask F.AX_IFLAG_DONE ||| setMask F.AX_IFLAG_FAULT |||
    setMask F.AX_VEL_VAL ||| setMask F.MOT_IFLAG_STOPPED ||| partCyl ||| partMot ||| alt_onAxis ||| alt_setMoving
    ||| alt_setAxState ||| alt_outcomeEvent

theorem alters_endCycle {μ : Nat} {s₀ : State} (s : State) (a : ℕ) (outcome : ℕ) (c : Cycle) (hm : Sub alt_endCycle μ)
    (hk : Alters μ s₀ s) : Alters μ s₀ (State.endCycle s a outcome c) := by
  unfold State.endCycle
  try dsimp only
  repeat' first
    | intro _
    | simp only [alters_cyl_mot (sub_bit hm (i := 14) (by decide +kernel)) (sub_bit hm (i := 20) (by decide +kernel))]
    | (with_reducible first | assumption | apply alters_onAxis | apply alters_setMoving | apply alters_setAxState)
    | (with_reducible first | apply alters_set | apply alters_flag | apply alters_applyIf | apply alters_setInt | apply alters_outcomeEvent)
    | exact sub_trans (by decide +kernel) hm
    | (simp only [setMask_on, setMask_bit, setMask_chanBit, pubMask_on]; exact sub_trans (by decide +kernel) hm)
    | split

/-- What `execCycleEnd` may alter. -/
def alt_execCycleEnd : Nat := alt_endCycle

theorem alters_execCycleEnd {μ : Nat} {s₀ : State} (a : ℕ) (s : State) (hm : Sub alt_execCycleEnd μ)
    (hk : Alters μ s₀ s) : AltersTo μ s₀ (execCycleEnd a s) := by
  unfold execCycleEnd
  try dsimp only
  repeat' first
    | (with_reducible first | assumption | apply alters_endCycle | apply alters_next | apply altersTo_ite)
    | exact sub_trans (by decide +kernel) hm
    | split

/-- What `State.cutCycles` may alter. -/
def alt_cutCycles : Nat := alt_onAxis ||| alt_endCycle

theorem alters_cutCycles {μ : Nat} {s₀ : State} (s : State) (hm : Sub alt_cutCycles μ)
    (hk : Alters μ s₀ s) : Alters μ s₀ (State.cutCycles s) := by
  unfold State.cutCycles
  try dsimp only
  repeat' first
    | intro _
    | (with_reducible first | assumption | apply alters_onAxis | apply alters_endCycle | apply alters_foldl)
    | exact sub_trans (by decide +kernel) hm
    | split

/-- What `execStandstillDelay` may alter. -/
def alt_execStandstillDelay : Nat := partNow ||| alt_onAxis

theorem alters_execStandstillDelay {μ : Nat} {s₀ : State} (a : ℕ) (s : State) (hm : Sub alt_execStandstillDelay μ)
    (hk : Alters μ s₀ s) : AltersTo μ s₀ (execStandstillDelay a s) := by
  unfold execStandstillDelay
  try dsimp only
  repeat' first
    | (with_reducible first | assumption | apply alters_onAxis | apply alters_advanceTo | apply alters_next | apply altersTo_ite)
    | exact sub_trans (by decide +kernel) hm
    | split

/-- What `State.homePhase` may alter. -/
def alt_homePhase : Nat := alt_planOn

theorem alters_homePhase {μ : Nat} {s₀ : State} (s : State) (a : ℕ) (phase : ℕ) (plan : Setpoint → List Segment) (hm : Sub alt_homePhase μ)
    (hk : Alters μ s₀ s) : Alters μ s₀ (State.homePhase s a phase plan) := by
  unfold State.homePhase
  try dsimp only
  repeat' first
    | (with_reducible first | assumption | apply alters_planOn)
    | exact sub_trans (by decide +kernel) hm
    | split

/-- What `execHomePoint` may alter. -/
def alt_execHomePoint : Nat :=
    setMask F.AX_STAT_LIM ||| setMask F.AX_STAT_HOME ||| alt_onCycle ||| alt_homePhase ||| alt_takeHome

theorem alters_execHomePoint {μ : Nat} {s₀ : State} (a : ℕ) (s : State) (hm : Sub alt_execHomePoint μ)
    (hk : Alters μ s₀ s) : AltersTo μ s₀ (execHomePoint a s) := by
  unfold execHomePoint
  try dsimp only
  repeat' first
    | intro _
    | (with_reducible first | assumption | apply alters_applyIf | apply alters_setOn | apply alters_onCycle | apply alters_homePhase)
    | (with_reducible first | apply alters_takeHome | apply alters_next | apply altersTo_ite)
    | exact sub_trans (by decide +kernel) hm
    | (simp only [setMask_on, setMask_bit, setMask_chanBit, pubMask_on]; exact sub_trans (by decide +kernel) hm)
    | split

/-- What `execHomingTimeout` may alter. -/
def alt_execHomingTimeout : Nat := partNow ||| alt_stopAxis

theorem alters_execHomingTimeout {μ : Nat} {s₀ : State} (a : ℕ) (s : State) (hm : Sub alt_execHomingTimeout μ)
    (hk : Alters μ s₀ s) : AltersTo μ s₀ (execHomingTimeout a s) := by
  unfold execHomingTimeout
  try dsimp only
  repeat' first
    | (with_reducible first | assumption | apply alters_stopAxis | apply alters_advanceTo | apply alters_next | apply altersTo_ite)
    | exact sub_trans (by decide +kernel) hm
    | split

/-- What `execStall` may alter. -/
def alt_execStall : Nat := alt_latch ||| alt_onAxis ||| alt_takeHome ||| alt_stopAxis

theorem alters_execStall {μ : Nat} {s₀ : State} (a : ℕ) (s : State) (hm : Sub alt_execStall μ)
    (hk : Alters μ s₀ s) : AltersTo μ s₀ (execStall a s) := by
  unfold execStall
  try dsimp only
  repeat' first
    | (with_reducible first | assumption | apply alters_latch | apply alters_onAxis | apply alters_takeHome | apply alters_stopAxis)
    | (with_reducible first | apply alters_next | apply altersTo_ite)
    | exact sub_trans (by decide +kernel) hm
    | split

/-- What `execObstacle` may alter. -/
def alt_execObstacle : Nat := alt_stopAxis

theorem alters_execObstacle {μ : Nat} {s₀ : State} (a : ℕ) (s : State) (hm : Sub alt_execObstacle μ)
    (hk : Alters μ s₀ s) : AltersTo μ s₀ (execObstacle a s) := by
  unfold execObstacle
  try dsimp only
  repeat' first
    | (with_reducible first | assumption | apply alters_stopAxis | apply alters_next | apply altersTo_ite)
    | exact sub_trans (by decide +kernel) hm
    | split

/-- What `execLimitSwitch` may alter. -/
def alt_execLimitSwitch : Nat := setMask F.AX_STAT_LIM ||| alt_stopAtLimit

theorem alters_execLimitSwitch {μ : Nat} {s₀ : State} (a : ℕ) (s : State) (hm : Sub alt_execLimitSwitch μ)
    (hk : Alters μ s₀ s) : AltersTo μ s₀ (execLimitSwitch a s) := by
  unfold execLimitSwitch
  try dsimp only
  repeat' first
    | (with_reducible first | assumption | apply alters_setOn | apply alters_stopAtLimit | apply alters_next | apply altersTo_ite)
    | exact sub_trans (by decide +kernel) hm
    | (simp only [setMask_on, setMask_bit, setMask_chanBit, pubMask_on]; exact sub_trans (by decide +kernel) hm)
    | split

/-- What `execSetpointQueueEmpty` may alter. -/
def alt_execSetpointQueueEmpty : Nat := alt_stopAxis ||| alt_onAxis

theorem alters_execSetpointQueueEmpty {μ : Nat} {s₀ : State} (a : ℕ) (s : State) (hm : Sub alt_execSetpointQueueEmpty μ)
    (hk : Alters μ s₀ s) : AltersTo μ s₀ (execSetpointQueueEmpty a s) := by
  unfold execSetpointQueueEmpty
  try dsimp only
  repeat' first
    | (with_reducible first | assumption | apply alters_stopAxis | apply alters_onAxis | apply alters_next | apply altersTo_ite)
    | exact sub_trans (by decide +kernel) hm
    | split

/-- What `State.showRoles` may alter. -/
def alt_showRoles : Nat :=
    setMask F.AX_STAT_ATNPOS ||| setMask F.MOT_IFLAG_HATCH ||| setMask F.MOT_IFLAG_MATED ||| setMask
    F.MOT_STAT_THROTTLE ||| setMask F.MOT_STAT_MATED ||| setMask F.MOT_STAT_LOCKED ||| setMask F.MOT_STAT_HATCH_CL

theorem alters_showRoles {μ : Nat} {s₀ : State} (s : State) (hm : Sub alt_showRoles μ)
    (hk : Alters μ s₀ s) : Alters μ s₀ (State.showRoles s) := by
  unfold State.showRoles
  try dsimp only
  repeat' first
    | intro _
    | (with_reducible first | assumption | apply alters_setOn | apply alters_applyIf | apply alters_flag | apply alters_foldl)
    | exact sub_trans (by decide +kernel) hm
    | (simp only [setMask_on, setMask_bit, setMask_chanBit, pubMask_on]; exact sub_trans (by decide +kernel) hm)
    | split

/-- What `State.latchNext` may alter. -/
def alt_latchNext : Nat := partGate ||| alt_onAxis ||| alt_onCycle ||| alt_latch

theorem alters_latchNext {μ : Nat} {s₀ : State} (s : State) (a : ℕ) (hm : Sub alt_latchNext μ)
    (hk : Alters μ s₀ s) : Alters μ s₀ (State.latchNext s a) := by
  unfold State.latchNext
  try dsimp only
  repeat' first
    | simp only [alters_gate (sub_bit hm (i := 21) (by decide +kernel))]
    | (with_reducible first | assumption | apply alters_onAxis | apply alters_onCycle | apply alters_latch | apply alters_ite)
    | exact sub_trans (by decide +kernel) hm
    | split

/-- What `State.computeNext` may alter. -/
def alt_computeNext : Nat := alt_onAxis

theorem alters_computeNext {μ : Nat} {s₀ : State} (s : State) (a : ℕ) (hm : Sub alt_computeNext μ)
    (hk : Alters μ s₀ s) : Alters μ s₀ (State.computeNext s a) := by
  unfold State.computeNext
  try dsimp only
  repeat' first
    | (with_reducible first | assumption | apply alters_onAxis | apply alters_ite)
    | exact sub_trans (by decide +kernel) hm
    | split

/-- What `State.latchSetpoint` may alter. -/
def alt_latchSetpoint : Nat := alt_computeNext ||| alt_latchNext

theorem alters_latchSetpoint {μ : Nat} {s₀ : State} (s : State) (a : ℕ) (hm : Sub alt_latchSetpoint μ)
    (hk : Alters μ s₀ s) : Alters μ s₀ (State.latchSetpoint s a) := by
  unfold State.latchSetpoint
  try dsimp only
  repeat' first
    | (with_reducible first | assumption | apply alters_computeNext | apply alters_latchNext)
    | exact sub_trans (by decide +kernel) hm
    | split

/-- What `State.driveVector` may alter. -/
def alt_driveVector : Nat := alt_onAxis

theorem alters_driveVector {μ : Nat} {s₀ : State} (s : State) (a : ℕ) (hm : Sub alt_driveVector μ)
    (hk : Alters μ s₀ s) : Alters μ s₀ (State.driveVector s a) := by
  unfold State.driveVector
  try dsimp only
  repeat' first
    | (with_reducible first | assumption | apply alters_onAxis)
    | exact sub_trans (by decide +kernel) hm
    | split

/-- What `State.readAxis` may alter. -/
def alt_readAxis : Nat :=
    setMask F.AX_LOAD_IPH ||| setMask F.AX_FERRNOW_VAL ||| setMask F.AX_POS_VAL ||| setMask F.AX_STAT_LIM |||
    setMask F.AX_STAT_HOME ||| alt_onAxis

theorem alters_readAxis {μ : Nat} {s₀ : State} (s : State) (a : ℕ) (x : AxisSample) (hm : Sub alt_readAxis μ)
    (hk : Alters μ s₀ s) : Alters μ s₀ (State.readAxis s a x) := by
  unfold State.readAxis
  try dsimp only
  repeat' first
    | (with_reducible first | assumption | apply alters_set | apply alters_setInt | apply alters_setOn | apply alters_onAxis)
    | exact sub_trans (by decide +kernel) hm
    | (simp only [setMask_on, setMask_bit, setMask_chanBit, pubMask_on]; exact sub_trans (by decide +kernel) hm)
    | split

/-- What `State.judgeLoad` may alter. -/
def alt_judgeLoad : Nat := setMask F.AX_LOAD_ENVPCT ||| setMask F.AX_LOAD_LANGLE ||| alt_onAxis

theorem alters_judgeLoad {μ : Nat} {s₀ : State} (s : State) (a : ℕ) (x : AxisSample) (moved : ℤ) (hm : Sub alt_judgeLoad μ)
    (hk : Alters μ s₀ s) : Alters μ s₀ (State.judgeLoad s a x moved) := by
  unfold State.judgeLoad
  try dsimp only
  repeat' first
    | (with_reducible first | assumption | apply alters_set | apply alters_onAxis)
    | exact sub_trans (by decide +kernel) hm
    | (simp only [setMask_on, setMask_bit, setMask_chanBit, pubMask_on]; exact sub_trans (by decide +kernel) hm)
    | split

/-- What `State.homeStep` may alter. -/
def alt_homeStep : Nat := alt_homePhase

theorem alters_homeStep {μ : Nat} {s₀ : State} (s : State) (a : ℕ) (hm : Sub alt_homeStep μ)
    (hk : Alters μ s₀ s) : Alters μ s₀ (State.homeStep s a) := by
  unfold State.homeStep
  try dsimp only
  repeat' first
    | (with_reducible first | assumption | apply alters_homePhase | apply alters_ite)
    | exact sub_trans (by decide +kernel) hm
    | split

/-- What `State.checkStops` may alter. -/
def alt_checkStops : Nat := alt_stopAxis ||| alt_stopAtLimit

theorem alters_checkStops {μ : Nat} {s₀ : State} (s : State) (a : ℕ) (hm : Sub alt_checkStops μ)
    (hk : Alters μ s₀ s) : Alters μ s₀ (State.checkStops s a) := by
  unfold State.checkStops
  try dsimp only
  repeat' first
    | intro _
    | (with_reducible first | assumption | apply alters_applyIf | apply alters_stopAxis | apply alters_stopAtLimit)
    | exact sub_trans (by decide +kernel) hm
    | split

/-- What `State.tickAxis` may alter. -/
def alt_tickAxis : Nat :=
    alt_readAxis ||| alt_driveVector ||| alt_stopAxis ||| alt_latchSetpoint ||| alt_checkStops ||| alt_homeStep |||
    alt_judgeLoad

theorem alters_tickAxis {μ : Nat} {s₀ : State} (s : State) (a : ℕ) (x : AxisSample) (hm : Sub alt_tickAxis μ)
    (hk : Alters μ s₀ s) : Alters μ s₀ (State.tickAxis s a x) := by
  unfold State.tickAxis
  try dsimp only
  repeat' first
    | (with_reducible first | assumption | apply alters_readAxis | apply alters_driveVector | apply alters_stopAxis)
    | (with_reducible first | apply alters_latchSetpoint | apply alters_checkStops | apply alters_homeStep | apply alters_judgeLoad)
    | (with_reducible first | apply alters_ite)
    | exact sub_trans (by decide +kernel) hm
    | split

/-! ### Coils.lean -/

/-- What `State.showCoil` may alter. -/
def alt_showCoil : Nat := arrayMask F.PRT_COIL_HS ||| setMask F.PRT_STAT_COIL

theorem alters_showCoil {μ : Nat} {s₀ : State} (s : State) (m : ℕ) (v : Bool) (hm : Sub alt_showCoil μ)
    (hk : Alters μ s₀ s) : Alters μ s₀ (State.showCoil s m v) := by
  unfold State.showCoil
  try dsimp only
  repeat' first
    | (with_reducible first | assumption | apply alters_setOn | apply alters_set)
    | exact sub_trans (by decide +kernel) hm
    | (with_reducible refine sub_chain (setMask_at _ _) ?_; (try simp only [arrayMask_on]); first | assumption | exact sub_trans (by decide +kernel) hm)
    | split

/-- What `State.coilEnergise` may alter. -/
def alt_coilEnergise : Nat := partProt ||| alt_showCoil

theorem alters_coilEnergise {μ : Nat} {s₀ : State} (s : State) (m : ℕ) (hm : Sub alt_coilEnergise μ)
    (hk : Alters μ s₀ s) : Alters μ s₀ (State.coilEnergise s m) := by
  unfold State.coilEnergise
  try dsimp only
  repeat' first
    | simp only [alters_prot (sub_bit hm (i := 23) (by decide +kernel))]
    | (with_reducible first | assumption | apply alters_showCoil | apply alters_ite)
    | exact sub_trans (by decide +kernel) hm
    | split

/-- What `State.coilRelease` may alter. -/
def alt_coilRelease : Nat := partProt ||| alt_showCoil

theorem alters_coilRelease {μ : Nat} {s₀ : State} (s : State) (m : ℕ) (hm : Sub alt_coilRelease μ)
    (hk : Alters μ s₀ s) : Alters μ s₀ (State.coilRelease s m) := by
  unfold State.coilRelease
  try dsimp only
  repeat' first
    | simp only [alters_prot (sub_bit hm (i := 23) (by decide +kernel))]
    | (with_reducible first | assumption | apply alters_showCoil | apply alters_ite)
    | exact sub_trans (by decide +kernel) hm
    | split

/-- What `State.showLowSides` may alter. -/
def alt_showLowSides : Nat := arrayMask F.PRT_COIL_LS

theorem alters_showLowSides {μ : Nat} {s₀ : State} (s : State) (v : Bool) (hm : Sub alt_showLowSides μ)
    (hk : Alters μ s₀ s) : Alters μ s₀ (State.showLowSides s v) := by
  unfold State.showLowSides
  try dsimp only
  repeat' first
    | intro _
    | (with_reducible first | assumption | apply alters_setOn | apply alters_foldl)
    | exact sub_trans (by decide +kernel) hm
    | (with_reducible refine sub_chain (setMask_at _ _) ?_; (try simp only [arrayMask_on]); first | assumption | exact sub_trans (by decide +kernel) hm)
    | split

/-- What `State.contactorFault` may alter. -/
def alt_contactorFault : Nat :=
    setMask F.PRT_IFLAG_CFAULT ||| setMask F.PRT_STAT_FAULT ||| partRsm ||| partProt ||| alt_coilRelease

theorem alters_contactorFault {μ : Nat} {s₀ : State} (s : State) (m : ℕ) (off : Bool) (hm : Sub alt_contactorFault μ)
    (hk : Alters μ s₀ s) : Alters μ s₀ (State.contactorFault s m off) := by
  unfold State.contactorFault
  try dsimp only
  repeat' first
    | intro _
    | simp only [alters_prot (sub_bit hm (i := 23) (by decide +kernel))]
    | (with_reducible first | assumption | apply alters_applyIf | apply alters_coilRelease | apply alters_flagEvent)
    | (with_reducible first | apply alters_set)
    | exact sub_trans (by decide +kernel) hm
    | split

/-! ### Safety.lean -/

/-- What `State.onSaf` may alter. -/
def alt_onSaf : Nat := partSaf

theorem alters_onSaf {μ : Nat} {s₀ : State} (s : State) (f : SafetySt → SafetySt) (hm : Sub alt_onSaf μ)
    (hk : Alters μ s₀ s) : Alters μ s₀ (State.onSaf s f) := by
  unfold State.onSaf
  try dsimp only
  repeat' first
    | simp only [alters_saf (sub_bit hm (i := 22) (by decide +kernel))]
    | (with_reducible first | assumption)
    | exact sub_trans (by decide +kernel) hm
    | split

/-- What `State.brakeDuty` may alter. -/
def alt_brakeDuty : Nat := alt_onSaf

theorem alters_brakeDuty {μ : Nat} {s₀ : State} (s : State) (b : ℕ) (hm : Sub alt_brakeDuty μ)
    (hk : Alters μ s₀ s) : Alters μ s₀ (State.brakeDuty s b) := by
  unfold State.brakeDuty
  try dsimp only
  repeat' first
    | (with_reducible first | assumption | apply alters_onSaf)
    | exact sub_trans (by decide +kernel) hm
    | split

/-- What `State.driveBrake` may alter. -/
def alt_driveBrake : Nat := setMask F.SAF_STAT_BRKREL ||| alt_onSaf

theorem alters_driveBrake {μ : Nat} {s₀ : State} (s : State) (b : ℕ) (hm : Sub alt_driveBrake μ)
    (hk : Alters μ s₀ s) : Alters μ s₀ (State.driveBrake s b) := by
  unfold State.driveBrake
  try dsimp only
  repeat' first
    | (with_reducible first | assumption | apply alters_onSaf | apply alters_set | apply alters_ite)
    | exact sub_trans (by decide +kernel) hm
    | split

/-- What `State.endWaits` may alter. -/
def alt_endWaits : Nat := alt_dropPending

theorem alters_endWaits {μ : Nat} {s₀ : State} (s : State) (b : ℕ) (hm : Sub alt_endWaits μ)
    (hk : Alters μ s₀ s) : Alters μ s₀ (State.endWaits s b) := by
  unfold State.endWaits
  try dsimp only
  repeat' first
    | intro _
    | (with_reducible first | assumption | apply alters_dropPending | apply alters_ite | apply alters_foldl)
    | exact sub_trans (by decide +kernel) hm
    | split

/-- What `State.notTestable` may alter. -/
def alt_notTestable : Nat := setMask F.SAF_BTST0_RESULT ||| setMask F.SAF_BTST1_RESULT ||| partRsm ||| alt_onSaf

theorem alters_notTestable {μ : Nat} {s₀ : State} (s : State) (b : ℕ) (hm : Sub alt_notTestable μ)
    (hk : Alters μ s₀ s) : Alters μ s₀ (State.notTestable s b) := by
  unfold State.notTestable
  try dsimp only
  repeat' first
    | (with_reducible first | assumption | apply alters_listed | apply alters_onSaf | apply alters_set)
    | exact sub_trans (by decide +kernel) hm
    | (unfold resultField; split)
    | split

/-- What `State.driveTested` may alter. -/
def alt_driveTested : Nat := alt_driveVector

theorem alters_driveTested {μ : Nat} {s₀ : State} (s : State) (b : ℕ) (hm : Sub alt_driveTested μ)
    (hk : Alters μ s₀ s) : Alters μ s₀ (State.driveTested s b) := by
  unfold State.driveTested
  try dsimp only
  repeat' first
    | (with_reducible first | assumption | apply alters_driveVector)
    | exact sub_trans (by decide +kernel) hm
    | split

/-- What `State.abortTest` may alter. -/
def alt_abortTest : Nat :=
    setMask F.SAF_IFLAG_BTEST ||| setMask F.SAF_BTST0_RESULT ||| setMask F.SAF_BTST1_RESULT ||| alt_onSaf |||
    alt_driveTested ||| alt_notTestable

theorem alters_abortTest {μ : Nat} {s₀ : State} (s : State) (b : ℕ) (hm : Sub alt_abortTest μ)
    (hk : Alters μ s₀ s) : Alters μ s₀ (State.abortTest s b) := by
  unfold State.abortTest
  try dsimp only
  repeat' first
    | (with_reducible first | assumption | apply alters_onSaf | apply alters_flag | apply alters_driveTested | apply alters_set)
    | (with_reducible first | apply alters_notTestable | apply alters_ite)
    | exact sub_trans (by decide +kernel) hm
    | (unfold resultField; split)
    | split

/-- What `State.abortBrakeTests` may alter. -/
def alt_abortBrakeTests : Nat := alt_abortTest

theorem alters_abortBrakeTests {μ : Nat} {s₀ : State} (s : State) (p : ℕ → Bool) (hm : Sub alt_abortBrakeTests μ)
    (hk : Alters μ s₀ s) : Alters μ s₀ (State.abortBrakeTests s p) := by
  unfold State.abortBrakeTests
  try dsimp only
  repeat' first
    | intro _
    | (with_reducible first | assumption | apply alters_abortTest | apply alters_foldl)
    | exact sub_trans (by decide +kernel) hm
    | split

/-- What `State.showSafestop` may alter. -/
def alt_showSafestop : Nat :=
    setMask F.SAF_PSTAT_SAFESTOP ||| setMask F.SAF_STAT_SAFESTOP ||| setMask F.MOT_STAT_SAFESTOP ||| setMask
    F.SAF_IFLAG_STOP ||| alt_abortBrakeTests ||| alt_stopAllAxes ||| alt_onSaf

theorem alters_showSafestop {μ : Nat} {s₀ : State} (s : State) (hm : Sub alt_showSafestop μ)
    (hk : Alters μ s₀ s) : Alters μ s₀ (State.showSafestop s) := by
  unfold State.showSafestop
  try dsimp only
  repeat' first
    | intro _
    | (with_reducible first | assumption | apply alters_applyIf | apply alters_setOn | apply alters_abortBrakeTests)
    | (with_reducible first | apply alters_stopAllAxes | apply alters_onSaf | apply alters_flag | apply alters_ite)
    | exact sub_trans (by decide +kernel) hm
    | split

/-- What `State.showChgil` may alter. -/
def alt_showChgil : Nat := setMask F.SAF_IFLAG_CHGIL ||| setMask F.SAF_STAT_CHGIL ||| alt_coilRelease

theorem alters_showChgil {μ : Nat} {s₀ : State} (s : State) (hm : Sub alt_showChgil μ)
    (hk : Alters μ s₀ s) : Alters μ s₀ (State.showChgil s) := by
  unfold State.showChgil
  try dsimp only
  repeat' first
    | intro _
    | (with_reducible first | assumption | apply alters_applyIf | apply alters_flag | apply alters_setOn | apply alters_coilRelease)
    | (with_reducible first | apply alters_ite)
    | exact sub_trans (by decide +kernel) hm
    | split

/-- What `State.showProp` may alter. -/
def alt_showProp : Nat := partPins ||| alt_onSaf

theorem alters_showProp {μ : Nat} {s₀ : State} (s : State) (hm : Sub alt_showProp μ)
    (hk : Alters μ s₀ s) : Alters μ s₀ (State.showProp s) := by
  unfold State.showProp
  try dsimp only
  repeat' first
    | simp only [alters_pins (sub_bit hm (i := 5) (by decide +kernel))]
    | (with_reducible first | assumption | apply alters_onSaf)
    | exact sub_trans (by decide +kernel) hm
    | split

/-- What `State.noteGuard` may alter. -/
def alt_noteGuard : Nat := alt_onSaf

theorem alters_noteGuard {μ : Nat} {s₀ : State} (s : State) (g : ℕ) (hm : Sub alt_noteGuard μ)
    (hk : Alters μ s₀ s) : Alters μ s₀ (State.noteGuard s g) := by
  unfold State.noteGuard
  try dsimp only
  repeat' first
    | (with_reducible first | assumption | apply alters_onSaf | apply alters_ite)
    | exact sub_trans (by decide +kernel) hm
    | split

/-- What `State.safetyEval` may alter. -/
def alt_safetyEval : Nat :=
    setMask F.SAF_STAT_GRDDONE ||| setMask F.SAF_STAT_CD3OPEN ||| setMask F.SAF_STAT_HATCH_CL ||| setMask
    F.SAF_STAT_MATED ||| alt_noteGuard ||| alt_showChgil ||| alt_showProp ||| alt_showSafestop ||| alt_endWaits |||
    alt_brakeDuty ||| alt_driveBrake

theorem alters_safetyEval {μ : Nat} {s₀ : State} (s : State) (hm : Sub alt_safetyEval μ)
    (hk : Alters μ s₀ s) : Alters μ s₀ (State.safetyEval s) := by
  unfold State.safetyEval
  try dsimp only
  repeat' first
    | intro _
    | (with_reducible first | assumption | apply alters_noteGuard | apply alters_applyIf | apply alters_setOn | apply alters_showChgil)
    | (with_reducible first | apply alters_showProp | apply alters_showSafestop | apply alters_endWaits | apply alters_brakeDuty)
    | (with_reducible first | apply alters_driveBrake)
    | exact sub_trans (by decide +kernel) hm
    | split

/-- What `execGuardChange` may alter. -/
def alt_execGuardChange : Nat := setMask F.SAF_STAT_GRDCL ||| alt_safetyEval ||| alt_onSaf

theorem alters_execGuardChange {μ : Nat} {s₀ : State} (g : ℕ) (closed : Bool) (s : State) (hm : Sub alt_execGuardChange μ)
    (hk : Alters μ s₀ s) : AltersTo μ s₀ (execGuardChange g closed s) := by
  unfold execGuardChange
  try dsimp only
  repeat' first
    | (with_reducible first | assumption | apply alters_set | apply alters_safetyEval | apply alters_onSaf | apply alters_next)
    | (with_reducible first | apply altersTo_ite)
    | exact sub_trans (by decide +kernel) hm
    | split

/-- What `execSafestopTimeout` may alter. -/
def alt_execSafestopTimeout : Nat := partNow ||| partRsm ||| alt_safetyEval ||| alt_onSaf

theorem alters_execSafestopTimeout {μ : Nat} {s₀ : State} (a : ℕ) (s : State) (hm : Sub alt_execSafestopTimeout μ)
    (hk : Alters μ s₀ s) : AltersTo μ s₀ (execSafestopTimeout a s) := by
  unfold execSafestopTimeout
  try dsimp only
  repeat' first
    | (with_reducible first | assumption | apply alters_advanceTo | apply alters_safetyEval | apply alters_listed)
    | (with_reducible first | apply alters_onSaf | apply alters_next | apply altersTo_ite)
    | exact sub_trans (by decide +kernel) hm
    | split

/-- What `State.safetyFault` may alter. -/
def alt_safetyFault : Nat :=
    setMask F.SAF_FAULT_CODE ||| setMask F.SAF_FAULT_FRAME ||| setMask F.SAF_IFLAG_SFAULT ||| setMask
    F.SAF_PSTAT_SFAULT ||| setMask F.SAF_STAT_SFAULT ||| partRsm ||| alt_safetyEval

theorem alters_safetyFault {μ : Nat} {s₀ : State} (s : State) (code : ℕ) (hm : Sub alt_safetyFault μ)
    (hk : Alters μ s₀ s) : Alters μ s₀ (State.safetyFault s code) := by
  unfold State.safetyFault
  try dsimp only
  repeat' first
    | (with_reducible first | assumption | apply alters_set | apply alters_safetyEval | apply alters_flagEvent | apply alters_setOn)
    | (with_reducible first | apply alters_ite)
    | exact sub_trans (by decide +kernel) hm
    | split

/-- What `State.expireDegraded` may alter. -/
def alt_expireDegraded : Nat := alt_onSaf

theorem alters_expireDegraded {μ : Nat} {s₀ : State} (s : State) (hm : Sub alt_expireDegraded μ)
    (hk : Alters μ s₀ s) : Alters μ s₀ (State.expireDegraded s) := by
  unfold State.expireDegraded
  try dsimp only
  repeat' first
    | (with_reducible first | assumption | apply alters_onSaf)
    | exact sub_trans (by decide +kernel) hm
    | split

/-- What `State.stuckSwitch` may alter. -/
def alt_stuckSwitch : Nat :=
    setMask F.SAF_DEGR_CAUSE ||| setMask F.SAF_DEGR_LEFT ||| setMask F.SAF_IFLAG_SDEGR ||| setMask F.SAF_PSTAT_SDEGR
    ||| setMask F.SAF_STAT_SDEGR ||| partRsm ||| alt_safetyFault ||| alt_onSaf

theorem alters_stuckSwitch {μ : Nat} {s₀ : State} (s : State) (c : ℕ) (code : ℕ) (hm : Sub alt_stuckSwitch μ)
    (hk : Alters μ s₀ s) : Alters μ s₀ (State.stuckSwitch s c code) := by
  unfold State.stuckSwitch
  try dsimp only
  repeat' first
    | (with_reducible first | assumption | apply alters_safetyFault | apply alters_set | apply alters_onSaf | apply alters_flagEvent)
    | (with_reducible first | apply alters_setOn | apply alters_ite)
    | exact sub_trans (by decide +kernel) hm
    | split

/-- What `execSafetySelfTestSlice` may alter. -/
def alt_execSafetySelfTestSlice : Nat := alt_safetyFault

theorem alters_execSafetySelfTestSlice {μ : Nat} {s₀ : State} (pass : Bool) (s : State) (hm : Sub alt_execSafetySelfTestSlice μ)
    (hk : Alters μ s₀ s) : AltersTo μ s₀ (execSafetySelfTestSlice pass s) := by
  unfold execSafetySelfTestSlice
  try dsimp only
  repeat' first
    | (with_reducible first | assumption | apply alters_safetyFault | apply alters_next | apply altersTo_ite)
    | exact sub_trans (by decide +kernel) hm
    | split

/-- What `execSafetyDegradedExpiry` may alter. -/
def alt_execSafetyDegradedExpiry : Nat := partNow ||| alt_safetyEval ||| alt_expireDegraded

theorem alters_execSafetyDegradedExpiry {μ : Nat} {s₀ : State} (s : State) (hm : Sub alt_execSafetyDegradedExpiry μ)
    (hk : Alters μ s₀ s) : AltersTo μ s₀ (execSafetyDegradedExpiry s) := by
  unfold execSafetyDegradedExpiry
  try dsimp only
  repeat' first
    | (with_reducible first | assumption | apply alters_safetyEval | apply alters_expireDegraded | apply alters_advanceTo)
    | (with_reducible first | apply alters_next)
    | exact sub_trans (by decide +kernel) hm
    | split

/-- What `State.brakeFrame` may alter. -/
def alt_brakeFrame : Nat :=
    setMask F.SAF_BCUR_BRK0 ||| setMask F.SAF_BCUR_BRK1 ||| setMask F.SAF_STAT_BRKREL ||| alt_onSaf

theorem alters_brakeFrame {μ : Nat} {s₀ : State} (s : State) (b : ℕ) (ma : ℕ) (hm : Sub alt_brakeFrame μ)
    (hk : Alters μ s₀ s) : Alters μ s₀ (State.brakeFrame s b ma) := by
  unfold State.brakeFrame
  try dsimp only
  repeat' first
    | intro _
    | (with_reducible first | assumption | apply alters_set | apply alters_onSaf | apply alters_applyIf | apply alters_ite)
    | exact sub_trans (by decide +kernel) hm
    | split

/-- What `State.brakeFail` may alter. -/
def alt_brakeFail : Nat := setMask F.SAF_IFLAG_BFAIL ||| setMask F.SAF_STAT_BRKFAIL ||| partRsm

theorem alters_brakeFail {μ : Nat} {s₀ : State} (s : State) (b : ℕ) (hm : Sub alt_brakeFail μ)
    (hk : Alters μ s₀ s) : Alters μ s₀ (State.brakeFail s b) := by
  unfold State.brakeFail
  try dsimp only
  repeat' first
    | (with_reducible first | assumption | apply alters_flagEvent | apply alters_set)
    | exact sub_trans (by decide +kernel) hm
    | split

/-- What `execBrakeCurrentFault` may alter. -/
def alt_execBrakeCurrentFault : Nat := partNow ||| alt_safetyEval ||| alt_brakeFail

theorem alters_execBrakeCurrentFault {μ : Nat} {s₀ : State} (b : ℕ) (s : State) (hm : Sub alt_execBrakeCurrentFault μ)
    (hk : Alters μ s₀ s) : AltersTo μ s₀ (execBrakeCurrentFault b s) := by
  unfold execBrakeCurrentFault
  try dsimp only
  repeat' first
    | (with_reducible first | assumption | apply alters_safetyEval | apply alters_brakeFail | apply alters_advanceTo)
    | (with_reducible first | apply alters_next | apply altersTo_ite)
    | exact sub_trans (by decide +kernel) hm
    | split

/-- What `execBrakeSwitchPulse` may alter. -/
def alt_execBrakeSwitchPulse : Nat := alt_stuckSwitch

theorem alters_execBrakeSwitchPulse {μ : Nat} {s₀ : State} (b : ℕ) (side : ℕ) (opened : Bool) (s : State) (hm : Sub alt_execBrakeSwitchPulse μ)
    (hk : Alters μ s₀ s) : AltersTo μ s₀ (execBrakeSwitchPulse b side opened s) := by
  unfold execBrakeSwitchPulse
  try dsimp only
  repeat' first
    | (with_reducible first | assumption | apply alters_stuckSwitch | apply alters_next | apply altersTo_ite)
    | exact sub_trans (by decide +kernel) hm
    | split

/-- What `execBrakeEngagedReadback` may alter. -/
def alt_execBrakeEngagedReadback : Nat := alt_safetyFault

theorem alters_execBrakeEngagedReadback {μ : Nat} {s₀ : State} (b : ℕ) (s : State) (hm : Sub alt_execBrakeEngagedReadback μ)
    (hk : Alters μ s₀ s) : AltersTo μ s₀ (execBrakeEngagedReadback b s) := by
  unfold execBrakeEngagedReadback
  try dsimp only
  repeat' first
    | (with_reducible first | assumption | apply alters_safetyFault | apply alters_next | apply altersTo_ite)
    | exact sub_trans (by decide +kernel) hm
    | split

/-- What `execBrakeTestStart` may alter. -/
def alt_execBrakeTestStart : Nat := partNow ||| alt_driveTested ||| alt_onSaf

theorem alters_execBrakeTestStart {μ : Nat} {s₀ : State} (b : ℕ) (s : State) (hm : Sub alt_execBrakeTestStart μ)
    (hk : Alters μ s₀ s) : AltersTo μ s₀ (execBrakeTestStart b s) := by
  unfold execBrakeTestStart
  try dsimp only
  repeat' first
    | (with_reducible first | assumption | apply alters_advanceTo | apply alters_driveTested | apply alters_onSaf)
    | (with_reducible first | apply alters_next | apply altersTo_ite)
    | exact sub_trans (by decide +kernel) hm
    | split

/-- What `State.logChange` may alter. -/
def alt_logChange : Nat :=
    setMask F.SAF_LOGSTAT_NEWEST ||| setMask F.SAF_LOGSTAT_TOTAL ||| alt_onSaf ||| alt_journalWrite

theorem alters_logChange {μ : Nat} {s₀ : State} (s : State) (link : ℕ) (kind : ℕ) (before : Word) (after : Word) (hm : Sub alt_logChange μ)
    (hk : Alters μ s₀ s) : Alters μ s₀ (State.logChange s link kind before after) := by
  unfold State.logChange
  try dsimp only
  repeat' first
    | (with_reducible first | assumption | apply alters_onSaf | apply alters_journalWrite | apply alters_set | apply alters_count)
    | exact sub_trans (by decide +kernel) hm
    | split

/-- What `State.testFailed` may alter. -/
def alt_testFailed : Nat :=
    setMask F.SAF_BTST0_RESULT ||| setMask F.SAF_BTST1_RESULT ||| alt_onAxis ||| alt_brakeFail ||| alt_setAxState

theorem alters_testFailed {μ : Nat} {s₀ : State} (s : State) (b : ℕ) (a : ℕ) (hm : Sub alt_testFailed μ)
    (hk : Alters μ s₀ s) : Alters μ s₀ (State.testFailed s b a) := by
  unfold State.testFailed
  try dsimp only
  repeat' first
    | (with_reducible first | assumption | apply alters_onAxis | apply alters_brakeFail | apply alters_set | apply alters_setAxState)
    | exact sub_trans (by decide +kernel) hm
    | (unfold resultField; split)
    | split

/-- What `State.testPassed` may alter. -/
def alt_testPassed : Nat :=
    setMask F.SAF_BTST0_RESULT ||| setMask F.SAF_BTST1_RESULT ||| setMask F.SAF_STAT_BRKFAIL ||| alt_onSaf |||
    alt_logChange

theorem alters_testPassed {μ : Nat} {s₀ : State} (s : State) (b : ℕ) (hm : Sub alt_testPassed μ)
    (hk : Alters μ s₀ s) : Alters μ s₀ (State.testPassed s b) := by
  unfold State.testPassed
  try dsimp only
  repeat' first
    | intro _
    | (with_reducible first | assumption | apply alters_onSaf | apply alters_set | apply alters_applyIf | apply alters_logChange)
    | exact sub_trans (by decide +kernel) hm
    | (unfold resultField; split)
    | split

/-- What `execBrakeTestDone` may alter. -/
def alt_execBrakeTestDone : Nat :=
    setMask F.SAF_IFLAG_BTEST ||| setMask F.SAF_BTST0_MOVE ||| setMask F.SAF_BTST1_MOVE ||| partNow |||
    alt_abortTest ||| alt_onSaf ||| alt_driveTested ||| alt_safetyEval ||| alt_notTestable ||| alt_testFailed |||
    alt_testPassed

theorem alters_execBrakeTestDone {μ : Nat} {s₀ : State} (b : ℕ) (move1 : ℕ) (move2 : ℕ) (s : State) (hm : Sub alt_execBrakeTestDone μ)
    (hk : Alters μ s₀ s) : AltersTo μ s₀ (execBrakeTestDone b move1 move2 s) := by
  unfold execBrakeTestDone
  try dsimp only
  repeat' first
    | (with_reducible first | assumption | apply alters_advanceTo | apply alters_abortTest | apply alters_flag | apply alters_onSaf)
    | (with_reducible first | apply alters_driveTested | apply alters_safetyEval | apply alters_notTestable | apply alters_set)
    | (with_reducible first | apply alters_testFailed | apply alters_testPassed | apply alters_next | apply alters_ite)
    | (with_reducible first | apply altersTo_ite)
    | exact sub_trans (by decide +kernel) hm
    | split

/-- What `State.writeSafCmd` may alter. -/
def alt_writeSafCmd : Nat := alt_onSaf

theorem alters_writeSafCmd {μ : Nat} {s₀ : State} (s : State) (unlocked : Bool) (v : Word) (hm : Sub alt_writeSafCmd μ)
    (hk : Alters μ s₀ s) : Alters μ s₀ (State.writeSafCmd s unlocked v).1 := by
  unfold State.writeSafCmd
  try dsimp only
  repeat' first
    | (with_reducible first | assumption | apply alters_onSaf)
    | exact sub_trans (by decide +kernel) hm
    | split

/-- What `execPropEnPulse` may alter. -/
def alt_execPropEnPulse : Nat := alt_stuckSwitch

theorem alters_execPropEnPulse {μ : Nat} {s₀ : State} (sw : ℕ) (opened : Bool) (s : State) (hm : Sub alt_execPropEnPulse μ)
    (hk : Alters μ s₀ s) : AltersTo μ s₀ (execPropEnPulse sw opened s) := by
  unfold execPropEnPulse
  try dsimp only
  repeat' first
    | (with_reducible first | assumption | apply alters_stuckSwitch | apply alters_next | apply altersTo_ite)
    | exact sub_trans (by decide +kernel) hm
    | split

/-- What `execPropEnReadback` may alter. -/
def alt_execPropEnReadback : Nat :=
    setMask F.SAF_IFLAG_PROP ||| setMask F.SAF_STAT_PROP_EN ||| partNow ||| alt_onSaf ||| alt_safetyFault |||
    alt_safetyEval

theorem alters_execPropEnReadback {μ : Nat} {s₀ : State} (high : Bool) (s : State) (hm : Sub alt_execPropEnReadback μ)
    (hk : Alters μ s₀ s) : AltersTo μ s₀ (execPropEnReadback high s) := by
  unfold execPropEnReadback
  try dsimp only
  repeat' first
    | intro _
    | (with_reducible first | assumption | apply alters_advanceTo | apply alters_applyIf | apply alters_onSaf | apply alters_flag)
    | (with_reducible first | apply alters_setOn | apply alters_safetyFault | apply alters_safetyEval | apply alters_next)
    | (with_reducible first | apply altersTo_ite)
    | exact sub_trans (by decide +kernel) hm
    | split

/-- What `execPropEnLow` may alter. -/
def alt_execPropEnLow : Nat := partRsm ||| alt_safetyEval ||| alt_onSaf

theorem alters_execPropEnLow {μ : Nat} {s₀ : State} (s : State) (hm : Sub alt_execPropEnLow μ)
    (hk : Alters μ s₀ s) : AltersTo μ s₀ (execPropEnLow s) := by
  unfold execPropEnLow
  try dsimp only
  repeat' first
    | (with_reducible first | assumption | apply alters_safetyEval | apply alters_listed | apply alters_onSaf | apply alters_next)
    | (with_reducible first | apply altersTo_ite)
    | exact sub_trans (by decide +kernel) hm
    | split

/-- What `State.edgeTo` may alter. -/
def alt_edgeTo : Nat :=
    setMask F.SAF_STAT_EDGE0 ||| setMask F.SAF_STAT_EDGE1 ||| setMask F.AX_STAT_EDGE ||| alt_stopAxis

theorem alters_edgeTo {μ : Nat} {s₀ : State} (s : State) (e : ℕ) (st : ℕ) (hm : Sub alt_edgeTo μ)
    (hk : Alters μ s₀ s) : Alters μ s₀ (State.edgeTo s e st) := by
  unfold State.edgeTo
  try dsimp only
  repeat' first
    | intro _
    | (with_reducible first | assumption | apply alters_set | apply alters_setOn | apply alters_applyIf | apply alters_stopAxis)
    | (with_reducible first | apply alters_ite)
    | exact sub_trans (by decide +kernel) hm
    | (simp only [setMask_on, setMask_bit, setMask_chanBit, pubMask_on]; exact sub_trans (by decide +kernel) hm)
    | split

/-- What `execEdgeChange` may alter. -/
def alt_execEdgeChange : Nat := alt_edgeTo ||| alt_onSaf

theorem alters_execEdgeChange {μ : Nat} {s₀ : State} (e : ℕ) (ohm : ℕ) (s : State) (hm : Sub alt_execEdgeChange μ)
    (hk : Alters μ s₀ s) : AltersTo μ s₀ (execEdgeChange e ohm s) := by
  unfold execEdgeChange
  try dsimp only
  repeat' first
    | (with_reducible first | assumption | apply alters_edgeTo | apply alters_onSaf | apply alters_next | apply altersTo_ite)
    | exact sub_trans (by decide +kernel) hm
    | split

/-- What `execEdgeGapTimeout` may alter. -/
def alt_execEdgeGapTimeout : Nat := partNow ||| alt_edgeTo ||| alt_onSaf

theorem alters_execEdgeGapTimeout {μ : Nat} {s₀ : State} (e : ℕ) (s : State) (hm : Sub alt_execEdgeGapTimeout μ)
    (hk : Alters μ s₀ s) : AltersTo μ s₀ (execEdgeGapTimeout e s) := by
  unfold execEdgeGapTimeout
  try dsimp only
  repeat' first
    | (with_reducible first | assumption | apply alters_edgeTo | apply alters_onSaf | apply alters_advanceTo | apply alters_next)
    | exact sub_trans (by decide +kernel) hm
    | split

/-- What `State.setLink` may alter. -/
def alt_setLink : Nat := setMask F.SCH_STAT_LINK ||| setMask F.SCH_STAT_RXDATA ||| setMask F.SCH_IFLAG_CONN

theorem alters_setLink {μ : Nat} {s₀ : State} (s : State) (v : ℕ) (hm : Sub alt_setLink μ)
    (hk : Alters μ s₀ s) : Alters μ s₀ (State.setLink s v) := by
  unfold State.setLink
  try dsimp only
  repeat' first
    | intro _
    | (with_reducible first | assumption | apply alters_set | apply alters_applyIf | apply alters_flag)
    | exact sub_trans (by decide +kernel) hm
    | split

/-- What `State.applySch` may alter. -/
def alt_applySch : Nat := alt_setLink ||| alt_onSaf

theorem alters_applySch {μ : Nat} {s₀ : State} (s : State) (hm : Sub alt_applySch μ)
    (hk : Alters μ s₀ s) : Alters μ s₀ (State.applySch s) := by
  unfold State.applySch
  try dsimp only
  repeat' first
    | (with_reducible first | assumption | apply alters_setLink | apply alters_onSaf | apply alters_ite)
    | exact sub_trans (by decide +kernel) hm
    | split

/-- What `State.restartWdt` may alter. -/
def alt_restartWdt : Nat := alt_onSaf

theorem alters_restartWdt {μ : Nat} {s₀ : State} (s : State) (hm : Sub alt_restartWdt μ)
    (hk : Alters μ s₀ s) : Alters μ s₀ (State.restartWdt s) := by
  unfold State.restartWdt
  try dsimp only
  repeat' first
    | (with_reducible first | assumption | apply alters_onSaf)
    | exact sub_trans (by decide +kernel) hm
    | split

/-- What `State.takePdu` may alter. -/
def alt_takePdu : Nat := setMask F.SCH_STAT_RXDATA ||| setMask F.SCH_STAT_RXSEQ

theorem alters_takePdu {μ : Nat} {s₀ : State} (s : State) (seq : ℕ) (data : ℕ) (hm : Sub alt_takePdu μ)
    (hk : Alters μ s₀ s) : Alters μ s₀ (State.takePdu s seq data) := by
  unfold State.takePdu
  try dsimp only
  repeat' first
    | (with_reducible first | assumption | apply alters_set)
    | exact sub_trans (by decide +kernel) hm
    | split

/-- What `State.acceptPdu` may alter. -/
def alt_acceptPdu : Nat :=
    setMask F.SCH_STAT_RXSEQ ||| setMask F.SCH_IFLAG_SEQ ||| setMask F.SCH_ERR_SEQ ||| alt_restartWdt |||
    alt_setLink ||| alt_onSaf ||| alt_takePdu

theorem alters_acceptPdu {μ : Nat} {s₀ : State} (s : State) (seq : ℕ) (data : ℕ) (hm : Sub alt_acceptPdu μ)
    (hk : Alters μ s₀ s) : Alters μ s₀ (State.acceptPdu s seq data) := by
  unfold State.acceptPdu
  try dsimp only
  repeat' first
    | (with_reducible first | assumption | apply alters_restartWdt | apply alters_set | apply alters_setLink | apply alters_onSaf)
    | (with_reducible first | apply alters_takePdu | apply alters_flag | apply alters_count | apply alters_ite)
    | exact sub_trans (by decide +kernel) hm
    | split

/-- What `execSafetyPduReceived` may alter. -/
def alt_execSafetyPduReceived : Nat :=
    setMask F.SCH_IFLAG_FMT ||| setMask F.SCH_IFLAG_CRC ||| setMask F.SCH_ERR_CRC ||| setMask F.SCH_IFLAG_ID |||
    setMask F.SCH_ERR_ID ||| partRsm ||| alt_safetyEval ||| alt_acceptPdu

theorem alters_execSafetyPduReceived {μ : Nat} {s₀ : State} (fd : Bool) (bytes : List Byte) (s : State) (hm : Sub alt_execSafetyPduReceived μ)
    (hk : Alters μ s₀ s) : AltersTo μ s₀ (execSafetyPduReceived fd bytes s) := by
  unfold execSafetyPduReceived
  try dsimp only
  repeat' first
    | (with_reducible first | assumption | apply alters_flag | apply alters_count | apply alters_flagEvent | apply alters_safetyEval)
    | (with_reducible first | apply alters_acceptPdu | apply alters_next | apply altersTo_ite)
    | exact sub_trans (by decide +kernel) hm
    | split

/-- What `execSafetyWatchdogExpiry` may alter. -/
def alt_execSafetyWatchdogExpiry : Nat :=
    setMask F.SCH_IFLAG_WDT ||| setMask F.SCH_ERR_WDT ||| partNow ||| partRsm ||| alt_onSaf ||| alt_safetyEval |||
    alt_setLink

theorem alters_execSafetyWatchdogExpiry {μ : Nat} {s₀ : State} (s : State) (hm : Sub alt_execSafetyWatchdogExpiry μ)
    (hk : Alters μ s₀ s) : AltersTo μ s₀ (execSafetyWatchdogExpiry s) := by
  unfold execSafetyWatchdogExpiry
  try dsimp only
  repeat' first
    | (with_reducible first | assumption | apply alters_onSaf | apply alters_advanceTo | apply alters_safetyEval | apply alters_flagEvent)
    | (with_reducible first | apply alters_count | apply alters_setLink | apply alters_next)
    | exact sub_trans (by decide +kernel) hm
    | split

/-- What `State.sendCan` may alter. -/
def alt_sendCan : Nat := alt_onLink

theorem alters_sendCan {μ : Nat} {s₀ : State} (s : State) (port : ℕ) (id : ℕ) (fd : Bool) (bytes : List ℕ) (hm : Sub alt_sendCan μ)
    (hk : Alters μ s₀ s) : Alters μ s₀ (State.sendCan s port id fd bytes) := by
  unfold State.sendCan
  try dsimp only
  repeat' first
    | (with_reducible first | assumption | apply alters_onLink | apply alters_ite)
    | exact sub_trans (by decide +kernel) hm
    | split

/-- What `execSafetyPduSend` may alter. -/
def alt_execSafetyPduSend : Nat := setMask F.SCH_TXSEQ_SEQ ||| partNow ||| alt_onSaf ||| alt_sendCan

theorem alters_execSafetyPduSend {μ : Nat} {s₀ : State} (s : State) (hm : Sub alt_execSafetyPduSend μ)
    (hk : Alters μ s₀ s) : AltersTo μ s₀ (execSafetyPduSend s) := by
  unfold execSafetyPduSend
  try dsimp only
  repeat' first
    | (with_reducible first | assumption | apply alters_advanceTo | apply alters_onSaf | apply alters_set | apply alters_sendCan)
    | (with_reducible first | apply alters_next | apply altersTo_ite)
    | exact sub_trans (by decide +kernel) hm
    | split

/-! ### TapTable.lean -/

/-- What `State.putTap` may alter. -/
def alt_putTap : Nat := arrayMask F.CMP_TAP_STATE

theorem alters_putTap {μ : Nat} {s₀ : State} (s : State) (e : ℕ) (state : ℕ) (k : ℕ) (t : ℕ) (spanErr : ℕ) (span : ℕ) (hm : Sub alt_putTap μ)
    (hk : Alters μ s₀ s) : Alters μ s₀ (State.putTap s e state k t spanErr span) := by
  unfold State.putTap
  try dsimp only
  repeat' first
    | (with_reducible first | assumption | apply alters_putF | apply alters_put)
    | exact sub_trans (by decide +kernel) hm
    | (with_reducible refine sub_chain (setMask_at _ _) ?_; (try simp only [arrayMask_on]); first | assumption | exact sub_trans (by decide +kernel) hm)
    | split

/-- What `State.showTaps` may alter. -/
def alt_showTaps : Nat := setMask F.CMP_PSTAT_TAPFAULT

theorem alters_showTaps {μ : Nat} {s₀ : State} (s : State) (hm : Sub alt_showTaps μ)
    (hk : Alters μ s₀ s) : Alters μ s₀ (State.showTaps s) := by
  unfold State.showTaps
  try dsimp only
  repeat' first
    | (with_reducible first | assumption | apply alters_setOn)
    | exact sub_trans (by decide +kernel) hm
    | split

/-- What `State.clearTap` may alter. -/
def alt_clearTap : Nat := setMask F.CMP_IFLAG_CLEARED ||| alt_showTaps ||| alt_putTap

theorem alters_clearTap {μ : Nat} {s₀ : State} (s : State) (k : ℕ) (t : ℕ) (hm : Sub alt_clearTap μ)
    (hk : Alters μ s₀ s) : Alters μ s₀ (State.clearTap s k t) := by
  unfold State.clearTap
  try dsimp only
  repeat' first
    | (with_reducible first | assumption | apply alters_showTaps | apply alters_flag | apply alters_putTap)
    | exact sub_trans (by decide +kernel) hm
    | split

/-- What `State.enterTap` may alter. -/
def alt_enterTap : Nat := arrayMask F.CMP_TAP_STATE ||| alt_showTaps ||| alt_putTap

theorem alters_enterTap {μ : Nat} {s₀ : State} (s : State) (k : ℕ) (t : ℕ) (state : ℕ) (hm : Sub alt_enterTap μ)
    (hk : Alters μ s₀ s) : Alters μ s₀ (State.enterTap s k t state).1 := by
  unfold State.enterTap
  try dsimp only
  repeat' first
    | (with_reducible first | assumption | apply alters_set | apply alters_showTaps | apply alters_putTap)
    | exact sub_trans (by decide +kernel) hm
    | (with_reducible refine sub_chain (setMask_at _ _) ?_; (try simp only [arrayMask_on]); first | assumption | exact sub_trans (by decide +kernel) hm)
    | split

/-! ### CellMeasurement.lean -/

/-- What `State.noteTaps` may alter. -/
def alt_noteTaps : Nat := alt_onDie

theorem alters_noteTaps {μ : Nat} {s₀ : State} (s : State) (k : ℕ) (hm : Sub alt_noteTaps μ)
    (hk : Alters μ s₀ s) : Alters μ s₀ (State.noteTaps s k) := by
  unfold State.noteTaps
  try dsimp only
  repeat' first
    | (with_reducible first | assumption | apply alters_onDie)
    | exact sub_trans (by decide +kernel) hm
    | split

/-- What `State.markCorrected` may alter. -/
def alt_markCorrected : Nat := alt_onDie

theorem alters_markCorrected {μ : Nat} {s₀ : State} (s : State) (k : ℕ) (hm : Sub alt_markCorrected μ)
    (hk : Alters μ s₀ s) : Alters μ s₀ (State.markCorrected s k) := by
  unfold State.markCorrected
  try dsimp only
  repeat' first
    | (with_reducible first | assumption | apply alters_onDie)
    | exact sub_trans (by decide +kernel) hm
    | split

/-- What `State.midSampleDie` may alter. -/
def alt_midSampleDie : Nat := alt_onDie

theorem alters_midSampleDie {μ : Nat} {s₀ : State} (s : State) (k : ℕ) (x : DieSample) (hm : Sub alt_midSampleDie μ)
    (hk : Alters μ s₀ s) : Alters μ s₀ (State.midSampleDie s k x) := by
  unfold State.midSampleDie
  try dsimp only
  repeat' first
    | (with_reducible first | assumption | apply alters_onDie)
    | exact sub_trans (by decide +kernel) hm
    | split

/-- What `execMidFrameSample` may alter. -/
def alt_execMidFrameSample : Nat := partNow ||| alt_midSampleDie

theorem alters_execMidFrameSample {μ : Nat} {s₀ : State} (xs : List DieSample) (s : State) (hm : Sub alt_execMidFrameSample μ)
    (hk : Alters μ s₀ s) : AltersTo μ s₀ (execMidFrameSample xs s) := by
  unfold execMidFrameSample
  try dsimp only
  repeat' first
    | intro _
    | (with_reducible first | assumption | apply alters_advanceTo | apply alters_midSampleDie | apply alters_next)
    | (with_reducible first | apply alters_ite | apply altersTo_ite | apply alters_foldl)
    | exact sub_trans (by decide +kernel) hm
    | split

/-- What `State.checkSarGain` may alter. -/
def alt_checkSarGain : Nat := setMask F.MD_PSTAT_SARGAIN ||| setMask F.MD_IFLAG_SARGAIN ||| partRsm ||| alt_onDie

theorem alters_checkSarGain {μ : Nat} {s₀ : State} (s : State) (k : ℕ) (e2 : ℤ) (hm : Sub alt_checkSarGain μ)
    (hk : Alters μ s₀ s) : Alters μ s₀ (State.checkSarGain s k e2) := by
  unfold State.checkSarGain
  try dsimp only
  repeat' first
    | intro _
    | (with_reducible first | assumption | apply alters_onDie | apply alters_applyIf | apply alters_setOn | apply alters_flagEvent)
    | (with_reducible first | apply alters_ite)
    | exact sub_trans (by decide +kernel) hm
    | (simp only [setMask_on, setMask_bit, setMask_chanBit, pubMask_on]; exact sub_trans (by decide +kernel) hm)
    | split

/-- What `State.recordDrift` may alter. -/
def alt_recordDrift : Nat := alt_onDie

theorem alters_recordDrift {μ : Nat} {s₀ : State} (s : State) (k : ℕ) (d2 : ℤ) (hm : Sub alt_recordDrift μ)
    (hk : Alters μ s₀ s) : Alters μ s₀ (State.recordDrift s k d2) := by
  unfold State.recordDrift
  try dsimp only
  repeat' first
    | (with_reducible first | assumption | apply alters_onDie)
    | exact sub_trans (by decide +kernel) hm
    | split

/-- What `State.checkStep` may alter. -/
def alt_checkStep : Nat := setMask F.MD_PSTAT_REFSTEP ||| setMask F.MD_IFLAG_REFSTEP ||| partRsm ||| alt_onDie

theorem alters_checkStep {μ : Nat} {s₀ : State} (s : State) (k : ℕ) (hm : Sub alt_checkStep μ)
    (hk : Alters μ s₀ s) : Alters μ s₀ (State.checkStep s k) := by
  unfold State.checkStep
  try dsimp only
  repeat' first
    | intro _
    | (with_reducible first | assumption | apply alters_onDie | apply alters_applyIf | apply alters_setOn | apply alters_flagEvent)
    | (with_reducible first | apply alters_ite)
    | exact sub_trans (by decide +kernel) hm
    | (simp only [setMask_on, setMask_bit, setMask_chanBit, pubMask_on]; exact sub_trans (by decide +kernel) hm)
    | split

/-- What `State.checkRef` may alter. -/
def alt_checkRef : Nat := setMask F.MD_PSTAT_REF ||| setMask F.MD_IFLAG_REF ||| partRsm

theorem alters_checkRef {μ : Nat} {s₀ : State} (s : State) (k : ℕ) (hm : Sub alt_checkRef μ)
    (hk : Alters μ s₀ s) : Alters μ s₀ (State.checkRef s k) := by
  unfold State.checkRef
  try dsimp only
  repeat' first
    | intro _
    | (with_reducible first | assumption | apply alters_applyIf | apply alters_setOn | apply alters_flagEvent | apply alters_ite)
    | exact sub_trans (by decide +kernel) hm
    | (simp only [setMask_on, setMask_bit, setMask_chanBit, pubMask_on]; exact sub_trans (by decide +kernel) hm)
    | split

/-- What `State.moveGain` may alter. -/
def alt_moveGain : Nat := alt_onDie

theorem alters_moveGain {μ : Nat} {s₀ : State} (s : State) (k : ℕ) (hm : Sub alt_moveGain μ)
    (hk : Alters μ s₀ s) : Alters μ s₀ (State.moveGain s k) := by
  unfold State.moveGain
  try dsimp only
  repeat' first
    | (with_reducible first | assumption | apply alters_onDie)
    | exact sub_trans (by decide +kernel) hm
    | split

/-- What `State.checkReferences` may alter. -/
def alt_checkReferences : Nat := alt_checkSarGain ||| alt_checkRef ||| alt_checkStep ||| alt_recordDrift

theorem alters_checkReferences {μ : Nat} {s₀ : State} (s : State) (k : ℕ) (quiet : Bool) (x : ScanHeld) (hm : Sub alt_checkReferences μ)
    (hk : Alters μ s₀ s) : Alters μ s₀ (State.checkReferences s k quiet x) := by
  unfold State.checkReferences
  try dsimp only
  repeat' first
    | intro _
    | (with_reducible first | assumption | apply alters_applyIf | apply alters_checkSarGain | apply alters_checkRef)
    | (with_reducible first | apply alters_checkStep | apply alters_recordDrift)
    | exact sub_trans (by decide +kernel) hm
    | split

/-- What `State.advanceCheck` may alter. -/
def alt_advanceCheck : Nat :=
    setMask F.MD_XSTAT_NEXT ||| setMask F.MD_PSTAT_XDIE ||| setMask F.MD_IFLAG_XDIE ||| partRsm ||| alt_onDie

theorem alters_advanceCheck {μ : Nat} {s₀ : State} (s : State) (k : ℕ) (failed : Bool) (hm : Sub alt_advanceCheck μ)
    (hk : Alters μ s₀ s) : Alters μ s₀ (State.advanceCheck s k failed) := by
  unfold State.advanceCheck
  try dsimp only
  repeat' first
    | intro _
    | (with_reducible first | assumption | apply alters_onDie | apply alters_set | apply alters_applyIf | apply alters_setOn)
    | (with_reducible first | apply alters_flagEvent | apply alters_ite)
    | exact sub_trans (by decide +kernel) hm
    | (simp only [setMask_on, setMask_bit, setMask_chanBit, pubMask_on]; exact sub_trans (by decide +kernel) hm)
    | split

/-- What `State.putXres` may alter. -/
def alt_putXres : Nat := setMask F.MD_XRES_OUT

theorem alters_putXres {μ : Nat} {s₀ : State} (s : State) (k : ℕ) (out : ℕ) (cell : ℕ) (diff : ℤ) (hm : Sub alt_putXres μ)
    (hk : Alters μ s₀ s) : Alters μ s₀ (State.putXres s k out cell diff) := by
  unfold State.putXres
  try dsimp only
  repeat' first
    | (with_reducible first | assumption | apply alters_putF | apply alters_put)
    | exact sub_trans (by decide +kernel) hm
    | (simp only [setMask_on, setMask_bit, setMask_chanBit, pubMask_on]; exact sub_trans (by decide +kernel) hm)
    | split

/-- What `State.crossCheck` may alter. -/
def alt_crossCheck : Nat :=
    setMask F.MD_XSTAT_FAILS ||| setMask F.MD_IFLAG_XCHK ||| partRsm ||| alt_putXres ||| alt_advanceCheck |||
    alt_onDie

theorem alters_crossCheck {μ : Nat} {s₀ : State} (s : State) (k : ℕ) (f : DieFrame) (x : ScanHeld) (hm : Sub alt_crossCheck μ)
    (hk : Alters μ s₀ s) : Alters μ s₀ (State.crossCheck s k f x) := by
  unfold State.crossCheck
  try dsimp only
  repeat' first
    | (with_reducible first | assumption | apply alters_putXres | apply alters_advanceCheck | apply alters_onDie | apply alters_count)
    | (with_reducible first | apply alters_flagEvent | apply alters_ite)
    | exact sub_trans (by decide +kernel) hm
    | (simp only [setMask_on, setMask_bit, setMask_chanBit, pubMask_on]; exact sub_trans (by decide +kernel) hm)
    | split

/-- What `State.publishScan` may alter. -/
def alt_publishScan : Nat :=
    arrayMask F.MD_NTC_STATE ||| setMask F.MD_REFB_DELTA ||| setMask F.MD_REFA_DELTA ||| setMask F.MD_DIE_SUPPLY |||
    setMask F.MD_DIE_TDIE ||| setMask F.MD_IFLAG_NTC ||| alt_onDie

theorem alters_publishScan {μ : Nat} {s₀ : State} (s : State) (k : ℕ) (seq : Word) (x : ScanHeld) (hm : Sub alt_publishScan μ)
    (hk : Alters μ s₀ s) : Alters μ s₀ (State.publishScan s k seq x) := by
  unfold State.publishScan
  try dsimp only
  repeat' first
    | intro _
    | (with_reducible first | assumption | apply alters_putF | apply alters_put | apply alters_onDie | apply alters_setInt)
    | (with_reducible first | apply alters_set | apply alters_applyIf | apply alters_flag | apply alters_foldl)
    | exact sub_trans (by decide +kernel) hm
    | (simp only [setMask_on, setMask_bit, setMask_chanBit, pubMask_on]; exact sub_trans (by decide +kernel) hm)
    | (with_reducible refine sub_chain (setMask_at _ _) ?_; (try simp only [arrayMask_on]); first | assumption | exact sub_trans (by decide +kernel) hm)
    | split

/-- What `State.useScan` may alter. -/
def alt_useScan : Nat := alt_publishScan ||| alt_crossCheck ||| alt_checkReferences

theorem alters_useScan {μ : Nat} {s₀ : State} (s : State) (k : ℕ) (f : DieFrame) (hm : Sub alt_useScan μ)
    (hk : Alters μ s₀ s) : Alters μ s₀ (State.useScan s k f) := by
  unfold State.useScan
  try dsimp only
  repeat' first
    | (with_reducible first | assumption | apply alters_publishScan | apply alters_crossCheck | apply alters_checkReferences)
    | exact sub_trans (by decide +kernel) hm
    | split

/-- What `State.putCells` may alter. -/
def alt_putCells : Nat :=
    arrayMask F.MD_CELL_CELL ||| arrayMask F.MD_MID_EVEN ||| setMask F.MD_SUSP_LO_S ||| setMask F.MD_SUSP_HI_S |||
    setMask F.MD_DEGR_LO_D ||| setMask F.MD_DEGR_HI_D ||| setMask F.MD_IFLAG_OVR

theorem alters_putCells {μ : Nat} {s₀ : State} (s : State) (k : ℕ) (f : DieFrame) (v : List ℤ) (hm : Sub alt_putCells μ)
    (hk : Alters μ s₀ s) : Alters μ s₀ (State.putCells s k f v) := by
  unfold State.putCells
  try dsimp only
  repeat' first
    | intro _
    | (with_reducible first | assumption | apply alters_putF | apply alters_put | apply alters_set64 | apply alters_applyIf)
    | (with_reducible first | apply alters_flag | apply alters_foldl)
    | exact sub_trans (by decide +kernel) hm
    | (simp only [setMask_on, setMask_bit, setMask_chanBit, pubMask_on]; exact sub_trans (by decide +kernel) hm)
    | (with_reducible refine sub_chain (setMask_at _ _) ?_; (try simp only [arrayMask_on]); first | assumption | exact sub_trans (by decide +kernel) hm)
    | split

/-- What `State.publishDie` may alter. -/
def alt_publishDie : Nat :=
    pubMask F.MD_CELL_CELL.page ||| setMask F.MD_GAIN_GAIN ||| alt_useScan ||| alt_putCells ||| alt_onDie

theorem alters_publishDie {μ : Nat} {s₀ : State} (s : State) (k : ℕ) (f : DieFrame) (hm : Sub alt_publishDie μ)
    (hk : Alters μ s₀ s) : Alters μ s₀ (State.publishDie s k f) := by
  unfold State.publishDie
  try dsimp only
  repeat' first
    | (with_reducible first | assumption | apply alters_useScan | apply alters_putCells | apply alters_onDie | apply alters_setInt)
    | (with_reducible first | apply alters_publish | apply alters_ite)
    | exact sub_trans (by decide +kernel) hm
    | (simp only [setMask_on, setMask_bit, setMask_chanBit, pubMask_on]; exact sub_trans (by decide +kernel) hm)
    | split

/-- What `State.scanDie` may alter. -/
def alt_scanDie : Nat := alt_onDie

theorem alters_scanDie {μ : Nat} {s₀ : State} (s : State) (k : ℕ) (x : ScanSample) (hm : Sub alt_scanDie μ)
    (hk : Alters μ s₀ s) : Alters μ s₀ (State.scanDie s k x) := by
  unfold State.scanDie
  try dsimp only
  repeat' first
    | (with_reducible first | assumption | apply alters_onDie)
    | exact sub_trans (by decide +kernel) hm
    | split

/-- What `execAuxScan` may alter. -/
def alt_execAuxScan : Nat := partNow ||| partThy ||| alt_scanDie

theorem alters_execAuxScan {μ : Nat} {s₀ : State} (xs : List ScanSample) (s : State) (hm : Sub alt_execAuxScan μ)
    (hk : Alters μ s₀ s) : AltersTo μ s₀ (execAuxScan xs s) := by
  unfold execAuxScan
  try dsimp only
  repeat' first
    | intro _
    | simp only [alters_thy (sub_bit hm (i := 11) (by decide +kernel))]
    | (with_reducible first | assumption | apply alters_advanceTo | apply alters_scanDie | apply alters_next | apply alters_ite)
    | (with_reducible first | apply altersTo_ite | apply alters_foldl)
    | exact sub_trans (by decide +kernel) hm
    | split

/-! ### Slots.lean -/

/-- What `State.onRing` may alter. -/
def alt_onRing : Nat := partRing

theorem alters_onRing {μ : Nat} {s₀ : State} (s : State) (f : RingSt → RingSt) (hm : Sub alt_onRing μ)
    (hk : Alters μ s₀ s) : Alters μ s₀ (State.onRing s f) := by
  unfold State.onRing
  try dsimp only
  repeat' first
    | simp only [alters_ring (sub_bit hm (i := 27) (by decide +kernel))]
    | (with_reducible first | assumption)
    | exact sub_trans (by decide +kernel) hm
    | split

/-- What `State.onAut` may alter. -/
def alt_onAut : Nat := partAut

theorem alters_onAut {μ : Nat} {s₀ : State} (s : State) (f : AuthSt → AuthSt) (hm : Sub alt_onAut μ)
    (hk : Alters μ s₀ s) : Alters μ s₀ (State.onAut s f) := by
  unfold State.onAut
  try dsimp only
  repeat' first
    | simp only [alters_aut (sub_bit hm (i := 28) (by decide +kernel))]
    | (with_reducible first | assumption)
    | exact sub_trans (by decide +kernel) hm
    | split

/-- What `State.sendImage` may alter. -/
def alt_sendImage : Nat := alt_onRing ||| alt_withSlot

theorem alters_sendImage {μ : Nat} {s₀ : State} (s : State) (hm : Sub alt_sendImage μ)
    (hk : Alters μ s₀ s) : Alters μ s₀ (State.sendImage s) := by
  unfold State.sendImage
  try dsimp only
  repeat' first
    | intro _
    | (with_reducible first | assumption | apply alters_onRing | apply alters_withSlot | apply alters_ite)
    | exact sub_trans (by decide +kernel) hm
    | split

/-- What `State.newImage` may alter. -/
def alt_newImage : Nat := setMask F.KRG_STAT_MIRROK ||| alt_sendImage ||| alt_onRing

theorem alters_newImage {μ : Nat} {s₀ : State} (s : State) (hm : Sub alt_newImage μ)
    (hk : Alters μ s₀ s) : Alters μ s₀ (State.newImage s) := by
  unfold State.newImage
  try dsimp only
  repeat' first
    | (with_reducible first | assumption | apply alters_sendImage | apply alters_setOn | apply alters_onRing)
    | exact sub_trans (by decide +kernel) hm
    | split

/-- What `State.setSlot` may alter. -/
def alt_setSlot : Nat :=
    arrayMask F.AUT_SLOTST_ST ||| setMask F.AUT_STAT_AUTH ||| setMask F.AUT_STAT_UNQ ||| setMask F.AUT_STAT_PENDING

theorem alters_setSlot {μ : Nat} {s₀ : State} (s : State) (slot : ℕ) (v : ℕ) (hm : Sub alt_setSlot μ)
    (hk : Alters μ s₀ s) : Alters μ s₀ (State.setSlot s slot v) := by
  unfold State.setSlot
  try dsimp only
  repeat' first
    | (with_reducible first | assumption | apply alters_set)
    | exact sub_trans (by decide +kernel) hm
    | (with_reducible refine sub_chain (setMask_at _ _) ?_; (try simp only [arrayMask_on]); first | assumption | exact sub_trans (by decide +kernel) hm)
    | split

/-- What `State.joinRound` may alter. -/
def alt_joinRound : Nat := alt_onAut ||| alt_setSlot

theorem alters_joinRound {μ : Nat} {s₀ : State} (s : State) (trigger : ℕ) (slot : ℕ) (hm : Sub alt_joinRound μ)
    (hk : Alters μ s₀ s) : Alters μ s₀ (State.joinRound s trigger slot) := by
  unfold State.joinRound
  try dsimp only
  repeat' first
    | (with_reducible first | assumption | apply alters_onAut | apply alters_setSlot | apply alters_ite)
    | exact sub_trans (by decide +kernel) hm
    | split

/-- What `State.roundOfAll` may alter. -/
def alt_roundOfAll : Nat := alt_joinRound

theorem alters_roundOfAll {μ : Nat} {s₀ : State} (s : State) (hm : Sub alt_roundOfAll μ)
    (hk : Alters μ s₀ s) : Alters μ s₀ (State.roundOfAll s) := by
  unfold State.roundOfAll
  try dsimp only
  repeat' first
    | intro _
    | (with_reducible first | assumption | apply alters_joinRound | apply alters_foldl)
    | exact sub_trans (by decide +kernel) hm
    | split

/-- What `State.slotsBefore` may alter. -/
def alt_slotsBefore : Nat := alt_onAut

theorem alters_slotsBefore {μ : Nat} {s₀ : State} (s : State) (k : ℕ) (hm : Sub alt_slotsBefore μ)
    (hk : Alters μ s₀ s) : Alters μ s₀ (State.slotsBefore s k) := by
  unfold State.slotsBefore
  try dsimp only
  repeat' first
    | intro _
    | (with_reducible first | assumption | apply alters_onAut | apply alters_ite | apply alters_foldl)
    | exact sub_trans (by decide +kernel) hm
    | split

/-- What `State.slotsAfter` may alter. -/
def alt_slotsAfter : Nat := alt_onAut ||| alt_joinRound

theorem alters_slotsAfter {μ : Nat} {s₀ : State} (s : State) (k : ℕ) (hm : Sub alt_slotsAfter μ)
    (hk : Alters μ s₀ s) : Alters μ s₀ (State.slotsAfter s k) := by
  unfold State.slotsAfter
  try dsimp only
  repeat' first
    | intro _
    | (with_reducible first | assumption | apply alters_onAut | apply alters_joinRound | apply alters_foldl)
    | exact sub_trans (by decide +kernel) hm
    | split

/-- What `State.slotVoltages` may alter. -/
def alt_slotVoltages : Nat := alt_onAut ||| alt_joinRound

theorem alters_slotVoltages {μ : Nat} {s₀ : State} (s : State) (k : ℕ) (hm : Sub alt_slotVoltages μ)
    (hk : Alters μ s₀ s) : Alters μ s₀ (State.slotVoltages s k) := by
  unfold State.slotVoltages
  try dsimp only
  repeat' first
    | intro _
    | (with_reducible first | assumption | apply alters_onAut | apply alters_joinRound | apply alters_ite | apply alters_foldl)
    | exact sub_trans (by decide +kernel) hm
    | split

/-! ### Balancing.lean -/

/-- What `State.openSwitchAt` may alter. -/
def alt_openSwitchAt : Nat := alt_onBal

theorem alters_openSwitchAt {μ : Nat} {s₀ : State} (s : State) (k : ℕ) (i : ℕ) (t : ℕ) (hm : Sub alt_openSwitchAt μ)
    (hk : Alters μ s₀ s) : Alters μ s₀ (State.openSwitchAt s k i t) := by
  unfold State.openSwitchAt
  try dsimp only
  repeat' first
    | (with_reducible first | assumption | apply alters_onBal | apply alters_ite)
    | exact sub_trans (by decide +kernel) hm
    | split

/-- What `State.openSwitch` may alter. -/
def alt_openSwitch : Nat := alt_openSwitchAt

theorem alters_openSwitch {μ : Nat} {s₀ : State} (s : State) (k : ℕ) (i : ℕ) (hm : Sub alt_openSwitch μ)
    (hk : Alters μ s₀ s) : Alters μ s₀ (State.openSwitch s k i) := by
  unfold State.openSwitch
  try dsimp only
  repeat' first
    | (with_reducible first | assumption | apply alters_openSwitchAt)
    | exact sub_trans (by decide +kernel) hm
    | split

/-- What `State.openWhere` may alter. -/
def alt_openWhere : Nat := alt_openSwitch

theorem alters_openWhere {μ : Nat} {s₀ : State} (s : State) (k : ℕ) (p : ℕ → Bool) (hm : Sub alt_openWhere μ)
    (hk : Alters μ s₀ s) : Alters μ s₀ (State.openWhere s k p) := by
  unfold State.openWhere
  try dsimp only
  repeat' first
    | intro _
    | (with_reducible first | assumption | apply alters_openSwitch | apply alters_foldl)
    | exact sub_trans (by decide +kernel) hm
    | split

/-- What `State.openAllSwitches` may alter. -/
def alt_openAllSwitches : Nat := alt_openWhere

theorem alters_openAllSwitches {μ : Nat} {s₀ : State} (s : State) (hm : Sub alt_openAllSwitches μ)
    (hk : Alters μ s₀ s) : Alters μ s₀ (State.openAllSwitches s) := by
  unfold State.openAllSwitches
  try dsimp only
  repeat' first
    | intro _
    | (with_reducible first | assumption | apply alters_openWhere | apply alters_foldl)
    | exact sub_trans (by decide +kernel) hm
    | split

/-- What `State.closeSwitch` may alter. -/
def alt_closeSwitch : Nat := alt_onBal

theorem alters_closeSwitch {μ : Nat} {s₀ : State} (s : State) (k : ℕ) (i : ℕ) (hm : Sub alt_closeSwitch μ)
    (hk : Alters μ s₀ s) : Alters μ s₀ (State.closeSwitch s k i) := by
  unfold State.closeSwitch
  try dsimp only
  repeat' first
    | (with_reducible first | assumption | apply alters_onBal)
    | exact sub_trans (by decide +kernel) hm
    | split

/-- What `execQuietLead` may alter. -/
def alt_execQuietLead : Nat := partNow ||| alt_openAllSwitches

theorem alters_execQuietLead {μ : Nat} {s₀ : State} (s : State) (hm : Sub alt_execQuietLead μ)
    (hk : Alters μ s₀ s) : AltersTo μ s₀ (execQuietLead s) := by
  unfold execQuietLead
  try dsimp only
  repeat' first
    | (with_reducible first | assumption | apply alters_openAllSwitches | apply alters_advanceTo | apply alters_next)
    | (with_reducible first | apply altersTo_ite)
    | exact sub_trans (by decide +kernel) hm
    | split

/-- What `State.openElapsed` may alter. -/
def alt_openElapsed : Nat := alt_openSwitchAt

theorem alters_openElapsed {μ : Nat} {s₀ : State} (s : State) (k : ℕ) (hm : Sub alt_openElapsed μ)
    (hk : Alters μ s₀ s) : Alters μ s₀ (State.openElapsed s k) := by
  unfold State.openElapsed
  try dsimp only
  repeat' first
    | intro _
    | (with_reducible first | assumption | apply alters_openSwitchAt | apply alters_ite | apply alters_foldl)
    | exact sub_trans (by decide +kernel) hm
    | split

/-- What `State.onShown` may alter. -/
def alt_onShown : Nat := alt_onBal

theorem alters_onShown {μ : Nat} {s₀ : State} (s : State) (k : ℕ) (f : BalanceShown → BalanceShown) (hm : Sub alt_onShown μ)
    (hk : Alters μ s₀ s) : Alters μ s₀ (State.onShown s k f) := by
  unfold State.onShown
  try dsimp only
  repeat' first
    | (with_reducible first | assumption | apply alters_onBal)
    | exact sub_trans (by decide +kernel) hm
    | split

/-- What `State.setLocked` may alter. -/
def alt_setLocked : Nat := setMask F.BL_PSTAT_LOCKED ||| alt_onShown

theorem alters_setLocked {μ : Nat} {s₀ : State} (s : State) (k : ℕ) (i : ℕ) (v : Bool) (hm : Sub alt_setLocked μ)
    (hk : Alters μ s₀ s) : Alters μ s₀ (State.setLocked s k i v) := by
  unfold State.setLocked
  try dsimp only
  repeat' first
    | (with_reducible first | assumption | apply alters_onShown | apply alters_setOn)
    | exact sub_trans (by decide +kernel) hm
    | (simp only [setMask_on, setMask_bit, setMask_chanBit, pubMask_on]; exact sub_trans (by decide +kernel) hm)
    | split

/-- What `execSwitchStuck` may alter. -/
def alt_execSwitchStuck : Nat := setMask F.BL_IFLAG_STUCK ||| partRsm ||| alt_onBal ||| alt_setLocked

theorem alters_execSwitchStuck {μ : Nat} {s₀ : State} (k : ℕ) (i : ℕ) (s : State) (hm : Sub alt_execSwitchStuck μ)
    (hk : Alters μ s₀ s) : AltersTo μ s₀ (execSwitchStuck k i s) := by
  unfold execSwitchStuck
  try dsimp only
  repeat' first
    | (with_reducible first | assumption | apply alters_flagEvent | apply alters_onBal | apply alters_setLocked | apply alters_next)
    | (with_reducible first | apply altersTo_ite)
    | exact sub_trans (by decide +kernel) hm
    | (simp only [setMask_on, setMask_bit, setMask_chanBit, pubMask_on]; exact sub_trans (by decide +kernel) hm)
    | split

/-- What `execSwitchOvercurrent` may alter. -/
def alt_execSwitchOvercurrent : Nat :=
    setMask F.BL_IFLAG_OVC ||| partRsm ||| alt_onBal ||| alt_openSwitch ||| alt_setLocked

theorem alters_execSwitchOvercurrent {μ : Nat} {s₀ : State} (k : ℕ) (i : ℕ) (s : State) (hm : Sub alt_execSwitchOvercurrent μ)
    (hk : Alters μ s₀ s) : AltersTo μ s₀ (execSwitchOvercurrent k i s) := by
  unfold execSwitchOvercurrent
  try dsimp only
  repeat' first
    | intro _
    | (with_reducible first | assumption | apply alters_flag | apply alters_onBal | apply alters_openSwitch | apply alters_applyIf)
    | (with_reducible first | apply alters_raise | apply alters_setLocked | apply alters_next | apply altersTo_ite)
    | exact sub_trans (by decide +kernel) hm
    | (simp only [setMask_on, setMask_bit, setMask_chanBit, pubMask_on]; exact sub_trans (by decide +kernel) hm)
    | split

/-- What `execBalanceOpenLoop` may alter. -/
def alt_execBalanceOpenLoop : Nat := setMask F.BL_IFLAG_OPEN ||| partRsm ||| alt_openSwitch ||| alt_setLocked

theorem alters_execBalanceOpenLoop {μ : Nat} {s₀ : State} (k : ℕ) (i : ℕ) (s : State) (hm : Sub alt_execBalanceOpenLoop μ)
    (hk : Alters μ s₀ s) : AltersTo μ s₀ (execBalanceOpenLoop k i s) := by
  unfold execBalanceOpenLoop
  try dsimp only
  repeat' first
    | (with_reducible first | assumption | apply alters_flagEvent | apply alters_openSwitch | apply alters_setLocked)
    | (with_reducible first | apply alters_next | apply altersTo_ite)
    | exact sub_trans (by decide +kernel) hm
    | (simp only [setMask_on, setMask_bit, setMask_chanBit, pubMask_on]; exact sub_trans (by decide +kernel) hm)
    | split

/-- What `execBalanceOnTimeEnd` may alter. -/
def alt_execBalanceOnTimeEnd : Nat := partNow ||| alt_openSwitchAt

theorem alters_execBalanceOnTimeEnd {μ : Nat} {s₀ : State} (k : ℕ) (i : ℕ) (s : State) (hm : Sub alt_execBalanceOnTimeEnd μ)
    (hk : Alters μ s₀ s) : AltersTo μ s₀ (execBalanceOnTimeEnd k i s) := by
  unfold execBalanceOnTimeEnd
  try dsimp only
  repeat' first
    | (with_reducible first | assumption | apply alters_openSwitchAt | apply alters_advanceTo | apply alters_next)
    | (with_reducible first | apply altersTo_ite)
    | exact sub_trans (by decide +kernel) hm
    | split

/-- What `State.writeSwclr` may alter. -/
def alt_writeSwclr : Nat := alt_setLocked

theorem alters_writeSwclr {μ : Nat} {s₀ : State} (s : State) (k : ℕ) (v : Word) (hm : Sub alt_writeSwclr μ)
    (hk : Alters μ s₀ s) : Alters μ s₀ (State.writeSwclr s k v).1 := by
  unfold State.writeSwclr
  try dsimp only
  repeat' first
    | intro _
    | (with_reducible first | assumption | apply alters_setLocked | apply alters_foldl)
    | exact sub_trans (by decide +kernel) hm
    | split

/-- What `State.buildPlan` may alter. -/
def alt_buildPlan : Nat := setMask F.BL_IFLAG_SHIFT ||| alt_onBal

theorem alters_buildPlan {μ : Nat} {s₀ : State} (s : State) (k : ℕ) (p : ℕ) (hm : Sub alt_buildPlan μ)
    (hk : Alters μ s₀ s) : Alters μ s₀ (State.buildPlan s k p) := by
  unfold State.buildPlan
  try dsimp only
  repeat' first
    | intro _
    | (with_reducible first | assumption | apply alters_onBal | apply alters_applyIf | apply alters_flag)
    | exact sub_trans (by decide +kernel) hm
    | (simp only [setMask_on, setMask_bit, setMask_chanBit, pubMask_on]; exact sub_trans (by decide +kernel) hm)
    | split

/-- What `State.startPeriod` may alter. -/
def alt_startPeriod : Nat := alt_onBal ||| alt_closeSwitch ||| alt_onShown

theorem alters_startPeriod {μ : Nat} {s₀ : State} (s : State) (k : ℕ) (p : ℕ) (hm : Sub alt_startPeriod μ)
    (hk : Alters μ s₀ s) : Alters μ s₀ (State.startPeriod s k p) := by
  unfold State.startPeriod
  try dsimp only
  repeat' first
    | intro _
    | (with_reducible first | assumption | apply alters_onBal | apply alters_closeSwitch | apply alters_onShown | apply alters_foldl)
    | exact sub_trans (by decide +kernel) hm
    | split

/-- What `State.reapplyWanted` may alter. -/
def alt_reapplyWanted : Nat := alt_onBal ||| alt_openWhere

theorem alters_reapplyWanted {μ : Nat} {s₀ : State} (s : State) (k : ℕ) (hm : Sub alt_reapplyWanted μ)
    (hk : Alters μ s₀ s) : Alters μ s₀ (State.reapplyWanted s k) := by
  unfold State.reapplyWanted
  try dsimp only
  repeat' first
    | (with_reducible first | assumption | apply alters_onBal | apply alters_openWhere | apply alters_ite)
    | exact sub_trans (by decide +kernel) hm
    | split

/-- What `State.showBalance` may alter. -/
def alt_showBalance : Nat :=
    setMask F.BL_ACT_LO_ACT ||| setMask F.BL_ACT_HI_ACT ||| setMask F.BL_LOCK_LO_LOCK ||| setMask F.BL_LOCK_HI_LOCK
    ||| setMask F.BL_PWR_PSW ||| setMask F.BL_STAT_PERIOD ||| setMask F.BL_LRN_STATE

theorem alters_showBalance {μ : Nat} {s₀ : State} (s : State) (k : ℕ) (hm : Sub alt_showBalance μ)
    (hk : Alters μ s₀ s) : Alters μ s₀ (State.showBalance s k) := by
  unfold State.showBalance
  try dsimp only
  repeat' first
    | (with_reducible first | assumption | apply alters_putF | apply alters_set64 | apply alters_put | apply alters_set)
    | exact sub_trans (by decide +kernel) hm
    | (simp only [setMask_on, setMask_bit, setMask_chanBit, pubMask_on]; exact sub_trans (by decide +kernel) hm)
    | split

/-- What `State.bleed` may alter. -/
def alt_bleed : Nat := alt_onBal

theorem alters_bleed {μ : Nat} {s₀ : State} (s : State) (k : ℕ) (x : DieSample) (hm : Sub alt_bleed μ)
    (hk : Alters μ s₀ s) : Alters μ s₀ (State.bleed s k x) := by
  unfold State.bleed
  try dsimp only
  repeat' first
    | (with_reducible first | assumption | apply alters_onBal)
    | exact sub_trans (by decide +kernel) hm
    | split

/-- What `State.noteCurrents` may alter. -/
def alt_noteCurrents : Nat := alt_onBal

theorem alters_noteCurrents {μ : Nat} {s₀ : State} (s : State) (k : ℕ) (f : DieFrame) (hm : Sub alt_noteCurrents μ)
    (hk : Alters μ s₀ s) : Alters μ s₀ (State.noteCurrents s k f) := by
  unfold State.noteCurrents
  try dsimp only
  repeat' first
    | (with_reducible first | assumption | apply alters_onBal)
    | exact sub_trans (by decide +kernel) hm
    | split

/-- What `State.balanceCurrents` may alter. -/
def alt_balanceCurrents : Nat :=
    arrayMask F.BL_QBAL_EVEN ||| arrayMask F.BL_IBAL_EVEN ||| pubMask F.BL_IBAL_EVEN.page ||| alt_showBalance |||
    alt_noteCurrents

theorem alters_balanceCurrents {μ : Nat} {s₀ : State} (s : State) (k : ℕ) (f : DieFrame) (hm : Sub alt_balanceCurrents μ)
    (hk : Alters μ s₀ s) : Alters μ s₀ (State.balanceCurrents s k f) := by
  unfold State.balanceCurrents
  try dsimp only
  repeat' first
    | intro _
    | (with_reducible first | assumption | apply alters_putF | apply alters_showBalance | apply alters_noteCurrents)
    | (with_reducible first | apply alters_put | apply alters_publish | apply alters_foldl)
    | exact sub_trans (by decide +kernel) hm
    | (simp only [setMask_on, setMask_bit, setMask_chanBit, pubMask_on]; exact sub_trans (by decide +kernel) hm)
    | (with_reducible refine sub_chain (setMask_at _ _) ?_; (try simp only [arrayMask_on]); first | assumption | exact sub_trans (by decide +kernel) hm)
    | split

/-- What `State.showLearn` may alter. -/
def alt_showLearn : Nat := setMask F.BL_PSTAT_LEARNING ||| alt_onShown

theorem alters_showLearn {μ : Nat} {s₀ : State} (s : State) (k : ℕ) (state : ℕ) (hm : Sub alt_showLearn μ)
    (hk : Alters μ s₀ s) : Alters μ s₀ (State.showLearn s k state) := by
  unfold State.showLearn
  try dsimp only
  repeat' first
    | (with_reducible first | assumption | apply alters_setOn | apply alters_onShown)
    | exact sub_trans (by decide +kernel) hm
    | (simp only [setMask_on, setMask_bit, setMask_chanBit, pubMask_on]; exact sub_trans (by decide +kernel) hm)
    | split

/-- What `State.learnStart` may alter. -/
def alt_learnStart : Nat := alt_showLearn ||| alt_onShown ||| alt_onBal

theorem alters_learnStart {μ : Nat} {s₀ : State} (s : State) (k : ℕ) (hm : Sub alt_learnStart μ)
    (hk : Alters μ s₀ s) : Alters μ s₀ (State.learnStart s k).1 := by
  unfold State.learnStart
  try dsimp only
  repeat' first
    | (with_reducible first | assumption | apply alters_showLearn | apply alters_onShown | apply alters_onBal)
    | exact sub_trans (by decide +kernel) hm
    | split

/-- What `State.learnAbort` may alter. -/
def alt_learnAbort : Nat := alt_showLearn ||| alt_onBal ||| alt_openWhere

theorem alters_learnAbort {μ : Nat} {s₀ : State} (s : State) (k : ℕ) (hm : Sub alt_learnAbort μ)
    (hk : Alters μ s₀ s) : Alters μ s₀ (State.learnAbort s k).1 := by
  unfold State.learnAbort
  try dsimp only
  repeat' first
    | (with_reducible first | assumption | apply alters_showLearn | apply alters_onBal | apply alters_openWhere)
    | exact sub_trans (by decide +kernel) hm
    | split

/-- What `State.learnTap` may alter. -/
def alt_learnTap : Nat :=
    arrayMask F.BL_RTAP_EVEN ||| arrayMask F.BL_RTAP_ODD ||| setMask F.BL_IFLAG_RHIGH ||| setMask
    F.BL_IFLAG_LRN_FAIL ||| partRsm

theorem alters_learnTap {μ : Nat} {s₀ : State} (s : State) (k : ℕ) (l : LearnSt) (j : ℕ) (hm : Sub alt_learnTap μ)
    (hk : Alters μ s₀ s) : Alters μ s₀ (State.learnTap s k l j) := by
  unfold State.learnTap
  try dsimp only
  repeat' first
    | intro _
    | (with_reducible first | assumption | apply alters_applyIf | apply alters_set | apply alters_flagEvent | apply alters_ite)
    | exact sub_trans (by decide +kernel) hm
    | (simp only [setMask_on, setMask_bit, setMask_chanBit, pubMask_on]; exact sub_trans (by decide +kernel) hm)
    | (with_reducible refine sub_chain (setMask_at _ _) ?_; (try simp only [arrayMask_on]); first | assumption | exact sub_trans (by decide +kernel) hm)
    | split

/-- What `State.learnComplete` may alter. -/
def alt_learnComplete : Nat :=
    setMask F.BL_RTEMP_T ||| setMask F.BL_IFLAG_LRN_DONE ||| setMask F.BL_PSTAT_LEARNED ||| alt_learnTap |||
    alt_onBal ||| alt_newImage ||| alt_journalWrite ||| alt_showLearn

theorem alters_learnComplete {μ : Nat} {s₀ : State} (s : State) (k : ℕ) (l : LearnSt) (hm : Sub alt_learnComplete μ)
    (hk : Alters μ s₀ s) : Alters μ s₀ (State.learnComplete s k l) := by
  unfold State.learnComplete
  try dsimp only
  repeat' first
    | intro _
    | (with_reducible first | assumption | apply alters_learnTap | apply alters_setInt | apply alters_flag | apply alters_onBal)
    | (with_reducible first | apply alters_newImage | apply alters_journalWrite | apply alters_showLearn | apply alters_setOn)
    | (with_reducible first | apply alters_foldl)
    | exact sub_trans (by decide +kernel) hm
    | (simp only [setMask_on, setMask_bit, setMask_chanBit, pubMask_on]; exact sub_trans (by decide +kernel) hm)
    | split

/-- What `State.learnDecide` may alter. -/
def alt_learnDecide : Nat :=
    setMask F.BL_IFLAG_LRN_FAIL ||| partRsm ||| alt_showLearn ||| alt_onBal ||| alt_onShown ||| alt_learnComplete

theorem alters_learnDecide {μ : Nat} {s₀ : State} (s : State) (k : ℕ) (l : LearnSt) (hm : Sub alt_learnDecide μ)
    (hk : Alters μ s₀ s) : Alters μ s₀ (State.learnDecide s k l) := by
  unfold State.learnDecide
  try dsimp only
  repeat' first
    | (with_reducible first | assumption | apply alters_showLearn | apply alters_flagEvent | apply alters_onBal | apply alters_onShown)
    | (with_reducible first | apply alters_learnComplete | apply alters_ite)
    | exact sub_trans (by decide +kernel) hm
    | (simp only [setMask_on, setMask_bit, setMask_chanBit, pubMask_on]; exact sub_trans (by decide +kernel) hm)
    | split

/-- What `State.learnFrame` may alter. -/
def alt_learnFrame : Nat := alt_onBal

theorem alters_learnFrame {μ : Nat} {s₀ : State} (s : State) (k : ℕ) (f : DieFrame) (hm : Sub alt_learnFrame μ)
    (hk : Alters μ s₀ s) : Alters μ s₀ (State.learnFrame s k f) := by
  unfold State.learnFrame
  try dsimp only
  repeat' first
    | (with_reducible first | assumption | apply alters_onBal | apply alters_ite)
    | exact sub_trans (by decide +kernel) hm
    | split

/-- What `State.learnBoundary` may alter. -/
def alt_learnBoundary : Nat := alt_onBal ||| alt_learnDecide ||| alt_closeSwitch

theorem alters_learnBoundary {μ : Nat} {s₀ : State} (s : State) (k : ℕ) (n : ℕ) (hm : Sub alt_learnBoundary μ)
    (hk : Alters μ s₀ s) : Alters μ s₀ (State.learnBoundary s k n) := by
  unfold State.learnBoundary
  try dsimp only
  repeat' first
    | (with_reducible first | assumption | apply alters_onBal | apply alters_learnDecide | apply alters_closeSwitch)
    | (with_reducible first | apply alters_ite)
    | exact sub_trans (by decide +kernel) hm
    | split

/-- What `State.forgetWanted` may alter. -/
def alt_forgetWanted : Nat := alt_onDie

theorem alters_forgetWanted {μ : Nat} {s₀ : State} (s : State) (k : ℕ) (hm : Sub alt_forgetWanted μ)
    (hk : Alters μ s₀ s) : Alters μ s₀ (State.forgetWanted s k) := by
  unfold State.forgetWanted
  try dsimp only
  repeat' first
    | (with_reducible first | assumption | apply alters_onDie)
    | exact sub_trans (by decide +kernel) hm
    | split

/-- What `State.balanceBoundary` may alter. -/
def alt_balanceBoundary : Nat :=
    alt_openWhere ||| alt_buildPlan ||| alt_forgetWanted ||| alt_startPeriod ||| alt_learnBoundary |||
    alt_showBalance

theorem alters_balanceBoundary {μ : Nat} {s₀ : State} (s : State) (k : ℕ) (n : ℕ) (hm : Sub alt_balanceBoundary μ)
    (hk : Alters μ s₀ s) : Alters μ s₀ (State.balanceBoundary s k n) := by
  unfold State.balanceBoundary
  try dsimp only
  repeat' first
    | intro _
    | (with_reducible first | assumption | apply alters_openWhere | apply alters_buildPlan | apply alters_forgetWanted)
    | (with_reducible first | apply alters_startPeriod | apply alters_learnBoundary | apply alters_applyIf | apply alters_showBalance)
    | (with_reducible first | apply alters_ite)
    | exact sub_trans (by decide +kernel) hm
    | split

/-! ### Thyme.lean -/

/-- What `State.onThy` may alter. -/
def alt_onThy : Nat := partThy

theorem alters_onThy {μ : Nat} {s₀ : State} (s : State) (f : ThymeSt → ThymeSt) (hm : Sub alt_onThy μ)
    (hk : Alters μ s₀ s) : Alters μ s₀ (State.onThy s f) := by
  unfold State.onThy
  try dsimp only
  repeat' first
    | simp only [alters_thy (sub_bit hm (i := 11) (by decide +kernel))]
    | (with_reducible first | assumption)
    | exact sub_trans (by decide +kernel) hm
    | split

/-- What `State.triggerEvent` may alter. -/
def alt_triggerEvent : Nat := setMask F.THY_IFLAG_SYNC_EXTRA ||| alt_onThy

theorem alters_triggerEvent {μ : Nat} {s₀ : State} (s : State) (lead : ℕ) (hm : Sub alt_triggerEvent μ)
    (hk : Alters μ s₀ s) : Alters μ s₀ (State.triggerEvent s lead) := by
  unfold State.triggerEvent
  try dsimp only
  repeat' first
    | (with_reducible first | assumption | apply alters_flag | apply alters_onThy | apply alters_ite)
    | exact sub_trans (by decide +kernel) hm
    | split

/-- What `execSyncInEdge` may alter. -/
def alt_execSyncInEdge : Nat := setMask F.THY_SYNC_PER ||| alt_onThy ||| alt_triggerEvent

theorem alters_execSyncInEdge {μ : Nat} {s₀ : State} (s : State) (hm : Sub alt_execSyncInEdge μ)
    (hk : Alters μ s₀ s) : AltersTo μ s₀ (execSyncInEdge s) := by
  unfold execSyncInEdge
  try dsimp only
  repeat' first
    | intro _
    | (with_reducible first | assumption | apply alters_onThy | apply alters_set | apply alters_applyIf | apply alters_triggerEvent)
    | (with_reducible first | apply alters_next | apply altersTo_ite)
    | exact sub_trans (by decide +kernel) hm
    | split

/-- What `execSyncMiss` may alter. -/
def alt_execSyncMiss : Nat := setMask F.THY_SYNC_MISS ||| setMask F.THY_IFLAG_SYNC_MISS ||| partNow ||| alt_onThy

theorem alters_execSyncMiss {μ : Nat} {s₀ : State} (s : State) (hm : Sub alt_execSyncMiss μ)
    (hk : Alters μ s₀ s) : AltersTo μ s₀ (execSyncMiss s) := by
  unfold execSyncMiss
  try dsimp only
  repeat' first
    | (with_reducible first | assumption | apply alters_onThy | apply alters_count | apply alters_flag | apply alters_advanceTo)
    | (with_reducible first | apply alters_next | apply altersTo_ite)
    | exact sub_trans (by decide +kernel) hm
    | split

/-- What `execXtalLost` may alter. -/
def alt_execXtalLost : Nat := setMask F.THY_IFLAG_XTAL ||| setMask F.THY_STAT_XTAL_LOST ||| partRsm

theorem alters_execXtalLost {μ : Nat} {s₀ : State} (s : State) (hm : Sub alt_execXtalLost μ)
    (hk : Alters μ s₀ s) : AltersTo μ s₀ (execXtalLost s) := by
  unfold execXtalLost
  try dsimp only
  repeat' first
    | (with_reducible first | assumption | apply alters_flagEvent | apply alters_setOn | apply alters_next | apply altersTo_ite)
    | exact sub_trans (by decide +kernel) hm
    | split

/-- What `execXtalRegained` may alter. -/
def alt_execXtalRegained : Nat := setMask F.THY_IFLAG_XTAL ||| setMask F.THY_STAT_XTAL_LOST

theorem alters_execXtalRegained {μ : Nat} {s₀ : State} (s : State) (hm : Sub alt_execXtalRegained μ)
    (hk : Alters μ s₀ s) : AltersTo μ s₀ (execXtalRegained s) := by
  unfold execXtalRegained
  try dsimp only
  repeat' first
    | (with_reducible first | assumption | apply alters_flag | apply alters_setOn | apply alters_next | apply altersTo_ite)
    | exact sub_trans (by decide +kernel) hm
    | split

/-- What `State.onStk` may alter. -/
def alt_onStk : Nat := partStk

theorem alters_onStk {μ : Nat} {s₀ : State} (s : State) (f : StackSt → StackSt) (hm : Sub alt_onStk μ)
    (hk : Alters μ s₀ s) : Alters μ s₀ (State.onStk s f) := by
  unfold State.onStk
  try dsimp only
  repeat' first
    | simp only [alters_stk (sub_bit hm (i := 12) (by decide +kernel))]
    | (with_reducible first | assumption)
    | exact sub_trans (by decide +kernel) hm
    | split

/-- What `State.measureDelays` may alter. -/
def alt_measureDelays : Nat := alt_onStk

theorem alters_measureDelays {μ : Nat} {s₀ : State} (s : State) (delays : List ℕ) (hm : Sub alt_measureDelays μ)
    (hk : Alters μ s₀ s) : Alters μ s₀ (State.measureDelays s delays) := by
  unfold State.measureDelays
  try dsimp only
  repeat' first
    | (with_reducible first | assumption | apply alters_onStk)
    | exact sub_trans (by decide +kernel) hm
    | split

/-- What `execStrobeRecal` may alter. -/
def alt_execStrobeRecal : Nat := alt_measureDelays

theorem alters_execStrobeRecal {μ : Nat} {s₀ : State} (delays : List ℕ) (s : State) (hm : Sub alt_execStrobeRecal μ)
    (hk : Alters μ s₀ s) : AltersTo μ s₀ (execStrobeRecal delays s) := by
  unfold execStrobeRecal
  try dsimp only
  repeat' first
    | (with_reducible first | assumption | apply alters_measureDelays | apply alters_next | apply altersTo_ite)
    | exact sub_trans (by decide +kernel) hm
    | split

/-- What `State.stepDelays` may alter. -/
def alt_stepDelays : Nat := arrayMask F.STK_DELAY_DELAY

theorem alters_stepDelays {μ : Nat} {s₀ : State} (s : State) (hm : Sub alt_stepDelays μ)
    (hk : Alters μ s₀ s) : Alters μ s₀ (State.stepDelays s) := by
  unfold State.stepDelays
  try dsimp only
  repeat' first
    | intro _
    | (with_reducible first | assumption | apply alters_set | apply alters_foldl)
    | exact sub_trans (by decide +kernel) hm
    | (with_reducible refine sub_chain (setMask_at _ _) ?_; (try simp only [arrayMask_on]); first | assumption | exact sub_trans (by decide +kernel) hm)
    | split

/-- What `State.showReach` may alter. -/
def alt_showReach : Nat := setMask F.STK_ROUTE_REACH ||| setMask F.STK_ROUTE_SINGLE ||| alt_onStk

theorem alters_showReach {μ : Nat} {s₀ : State} (s : State) (hm : Sub alt_showReach μ)
    (hk : Alters μ s₀ s) : Alters μ s₀ (State.showReach s) := by
  unfold State.showReach
  try dsimp only
  repeat' first
    | (with_reducible first | assumption | apply alters_set | apply alters_setOn | apply alters_onStk)
    | exact sub_trans (by decide +kernel) hm
    | split

/-- What `State.showPaths` may alter. -/
def alt_showPaths : Nat := setMask F.STK_ROUTE_TOP ||| alt_showReach

theorem alters_showPaths {μ : Nat} {s₀ : State} (s : State) (prefer : ℕ → Bool) (hm : Sub alt_showPaths μ)
    (hk : Alters μ s₀ s) : Alters μ s₀ (State.showPaths s prefer) := by
  unfold State.showPaths
  try dsimp only
  repeat' first
    | (with_reducible first | assumption | apply alters_showReach | apply alters_set)
    | exact sub_trans (by decide +kernel) hm
    | split

/-- What `State.defaultPaths` may alter. -/
def alt_defaultPaths : Nat := alt_showPaths

theorem alters_defaultPaths {μ : Nat} {s₀ : State} (s : State) (hm : Sub alt_defaultPaths μ)
    (hk : Alters μ s₀ s) : Alters μ s₀ (State.defaultPaths s) := by
  unfold State.defaultPaths
  try dsimp only
  repeat' first
    | (with_reducible first | assumption | apply alters_showPaths)
    | exact sub_trans (by decide +kernel) hm
    | split

/-- What `execSegmentDown` may alter. -/
def alt_execSegmentDown : Nat :=
    arrayMask F.STK_ERR_LOSS ||| setMask F.STK_SEGST_UP ||| setMask F.STK_IFLAG_ROUTE ||| setMask
    F.STK_IFLAG_SEG_DOWN ||| partRsm ||| alt_showPaths

theorem alters_execSegmentDown {μ : Nat} {s₀ : State} (g : ℕ) (s : State) (hm : Sub alt_execSegmentDown μ)
    (hk : Alters μ s₀ s) : AltersTo μ s₀ (execSegmentDown g s) := by
  unfold execSegmentDown
  try dsimp only
  repeat' first
    | (with_reducible first | assumption | apply alters_count | apply alters_set | apply alters_flag | apply alters_raise)
    | (with_reducible first | apply alters_showPaths | apply alters_next | apply altersTo_ite)
    | exact sub_trans (by decide +kernel) hm
    | (with_reducible refine sub_chain (setMask_at _ _) ?_; (try simp only [arrayMask_on]); first | assumption | exact sub_trans (by decide +kernel) hm)
    | split

/-- What `execSegmentRetrain` may alter. -/
def alt_execSegmentRetrain : Nat :=
    setMask F.STK_IFLAG_SEG_UP ||| setMask F.STK_SEGST_UP ||| alt_onStk ||| alt_measureDelays ||| alt_showReach

theorem alters_execSegmentRetrain {μ : Nat} {s₀ : State} (g : ℕ) (trained : Option (List ℕ)) (s : State) (hm : Sub alt_execSegmentRetrain μ)
    (hk : Alters μ s₀ s) : AltersTo μ s₀ (execSegmentRetrain g trained s) := by
  unfold execSegmentRetrain
  try dsimp only
  repeat' first
    | (with_reducible first | assumption | apply alters_flag | apply alters_set | apply alters_onStk | apply alters_measureDelays)
    | (with_reducible first | apply alters_showReach | apply alters_next | apply altersTo_ite)
    | exact sub_trans (by decide +kernel) hm
    | split

/-- What `State.markUnhealthy` may alter. -/
def alt_markUnhealthy : Nat := setMask F.SYS_DIEMAP_MD ||| alt_onStk ||| alt_slotsBefore

theorem alters_markUnhealthy {μ : Nat} {s₀ : State} (s : State) (k : ℕ) (hm : Sub alt_markUnhealthy μ)
    (hk : Alters μ s₀ s) : Alters μ s₀ (State.markUnhealthy s k) := by
  unfold State.markUnhealthy
  try dsimp only
  repeat' first
    | (with_reducible first | assumption | apply alters_onStk | apply alters_set | apply alters_slotsBefore)
    | exact sub_trans (by decide +kernel) hm
    | split

/-- What `State.markHealthy` may alter. -/
def alt_markHealthy : Nat := setMask F.SYS_DIEMAP_MD ||| alt_onStk

theorem alters_markHealthy {μ : Nat} {s₀ : State} (s : State) (k : ℕ) (hm : Sub alt_markHealthy μ)
    (hk : Alters μ s₀ s) : Alters μ s₀ (State.markHealthy s k) := by
  unfold State.markHealthy
  try dsimp only
  repeat' first
    | (with_reducible first | assumption | apply alters_onStk | apply alters_set)
    | exact sub_trans (by decide +kernel) hm
    | split

/-- What `execDieUnreachable` may alter. -/
def alt_execDieUnreachable : Nat :=
    setMask F.STK_IFLAG_DIE_LOST ||| partNow ||| alt_dropParty ||| alt_onStk ||| alt_markUnhealthy

theorem alters_execDieUnreachable {μ : Nat} {s₀ : State} (k : ℕ) (s : State) (hm : Sub alt_execDieUnreachable μ)
    (hk : Alters μ s₀ s) : AltersTo μ s₀ (execDieUnreachable k s) := by
  unfold execDieUnreachable
  try dsimp only
  repeat' first
    | (with_reducible first | assumption | apply alters_dropParty | apply alters_onStk | apply alters_flag | apply alters_markUnhealthy)
    | (with_reducible first | apply alters_advanceTo | apply alters_next | apply altersTo_ite)
    | exact sub_trans (by decide +kernel) hm
    | split

/-- What `State.sleepDie` may alter. -/
def alt_sleepDie : Nat := setMask F.STK_ROUTE_ASLEEP ||| partBay ||| alt_openWhere ||| alt_slotsBefore ||| alt_onDie

theorem alters_sleepDie {μ : Nat} {s₀ : State} (s : State) (k : ℕ) (hm : Sub alt_sleepDie μ)
    (hk : Alters μ s₀ s) : Alters μ s₀ (State.sleepDie s k) := by
  unfold State.sleepDie
  try dsimp only
  repeat' first
    | simp only [alters_bay (sub_bit hm (i := 19) (by decide +kernel))]
    | (with_reducible first | assumption | apply alters_set | apply alters_openWhere | apply alters_slotsBefore | apply alters_onDie)
    | (with_reducible first | apply alters_ite)
    | exact sub_trans (by decide +kernel) hm
    | split

/-- What `execDieSleep` may alter. -/
def alt_execDieSleep : Nat := partNow ||| alt_sleepDie

theorem alters_execDieSleep {μ : Nat} {s₀ : State} (k : ℕ) (s : State) (hm : Sub alt_execDieSleep μ)
    (hk : Alters μ s₀ s) : AltersTo μ s₀ (execDieSleep k s) := by
  unfold execDieSleep
  try dsimp only
  repeat' first
    | (with_reducible first | assumption | apply alters_sleepDie | apply alters_advanceTo | apply alters_next | apply altersTo_ite)
    | exact sub_trans (by decide +kernel) hm
    | split

/-- What `State.noteStrobes` may alter. -/
def alt_noteStrobes : Nat := alt_onStk

theorem alters_noteStrobes {μ : Nat} {s₀ : State} (s : State) (missed : ℕ → Bool) (last : ℕ) (hm : Sub alt_noteStrobes μ)
    (hk : Alters μ s₀ s) : Alters μ s₀ (State.noteStrobes s missed last) := by
  unfold State.noteStrobes
  try dsimp only
  repeat' first
    | (with_reducible first | assumption | apply alters_onStk)
    | exact sub_trans (by decide +kernel) hm
    | split

/-- What `State.rejoinNext` may alter. -/
def alt_rejoinNext : Nat := alt_onStk

theorem alters_rejoinNext {μ : Nat} {s₀ : State} (s : State) (k : ℕ) (hm : Sub alt_rejoinNext μ)
    (hk : Alters μ s₀ s) : Alters μ s₀ (State.rejoinNext s k) := by
  unfold State.rejoinNext
  try dsimp only
  repeat' first
    | (with_reducible first | assumption | apply alters_onStk)
    | exact sub_trans (by decide +kernel) hm
    | split

/-- What `execDieRejoin` may alter. -/
def alt_execDieRejoin : Nat := alt_rejoinNext

theorem alters_execDieRejoin {μ : Nat} {s₀ : State} (k : ℕ) (s : State) (hm : Sub alt_execDieRejoin μ)
    (hk : Alters μ s₀ s) : AltersTo μ s₀ (execDieRejoin k s) := by
  unfold execDieRejoin
  try dsimp only
  repeat' first
    | (with_reducible first | assumption | apply alters_rejoinNext | apply alters_next | apply altersTo_ite)
    | exact sub_trans (by decide +kernel) hm
    | split

/-- What `execDieWake` may alter. -/
def alt_execDieWake : Nat := partPwr

theorem alters_execDieWake {μ : Nat} {s₀ : State} (k : ℕ) (s : State) (hm : Sub alt_execDieWake μ)
    (hk : Alters μ s₀ s) : AltersTo μ s₀ (execDieWake k s) := by
  unfold execDieWake
  try dsimp only
  repeat' first
    | simp only [alters_pwr (sub_bit hm (i := 4) (by decide +kernel))]
    | (with_reducible first | assumption | apply alters_next | apply altersTo_ite)
    | exact sub_trans (by decide +kernel) hm
    | split

/-- What `State.rejoinDies` may alter. -/
def alt_rejoinDies : Nat := setMask F.STK_IFLAG_DIE_BACK ||| alt_slotsAfter ||| alt_markHealthy ||| alt_onStk

theorem alters_rejoinDies {μ : Nat} {s₀ : State} (s : State) (hm : Sub alt_rejoinDies μ)
    (hk : Alters μ s₀ s) : Alters μ s₀ (State.rejoinDies s) := by
  unfold State.rejoinDies
  try dsimp only
  repeat' first
    | intro _
    | (with_reducible first | assumption | apply alters_flag | apply alters_slotsAfter | apply alters_markHealthy)
    | (with_reducible first | apply alters_onStk | apply alters_foldl)
    | exact sub_trans (by decide +kernel) hm
    | split

/-- What `State.restorePaths` may alter. -/
def alt_restorePaths : Nat := setMask F.STK_IFLAG_ROUTE ||| alt_defaultPaths ||| alt_onStk

theorem alters_restorePaths {μ : Nat} {s₀ : State} (s : State) (hm : Sub alt_restorePaths μ)
    (hk : Alters μ s₀ s) : Alters μ s₀ (State.restorePaths s) := by
  unfold State.restorePaths
  try dsimp only
  repeat' first
    | intro _
    | (with_reducible first | assumption | apply alters_defaultPaths | apply alters_onStk | apply alters_applyIf | apply alters_flag)
    | (with_reducible first | apply alters_ite)
    | exact sub_trans (by decide +kernel) hm
    | split

/-- What `State.showLoad` may alter. -/
def alt_showLoad : Nat := setMask F.STK_LOAD_LOAD

theorem alters_showLoad {μ : Nat} {s₀ : State} (s : State) (hm : Sub alt_showLoad μ)
    (hk : Alters μ s₀ s) : Alters μ s₀ (State.showLoad s) := by
  unfold State.showLoad
  try dsimp only
  repeat' first
    | (with_reducible first | assumption | apply alters_set)
    | exact sub_trans (by decide +kernel) hm
    | split

end Sys2Proof.Machine
end

