-- ==== Sys2Proof/Laws/Alters2.lean ====
section
/-! SUPPORT. What the operations of Gate.lean, Bay.lean, Current.lean, Contactors.lean, Sage.lean, SageLimits.lean, SageStore.lean may alter (see `Alters`). -/
namespace Sys2Proof.Machine
open Host
set_option linter.unreachableTactic false
set_option linter.unusedTactic false
set_option linter.unusedSimpArgs false
set_option linter.unusedVariables false
set_option Elab.async false

/-! ### Gate.lean -/

/-- What `State.onGate` may alter. -/
def alt_onGate : Nat := partGate

theorem alters_onGate {μ : Nat} {s₀ : State} (s : State) (f : GateSt → GateSt) (hm : Sub alt_onGate μ)
    (hk : Alters μ s₀ s) : Alters μ s₀ (State.onGate s f) := by
  unfold State.onGate
  try dsimp only
  repeat' first
    | simp only [alters_gate (sub_bit hm (i := 21) (by decide +kernel))]
    | (with_reducible first | assumption)
    | exact sub_trans (by decide +kernel) hm
    | split

/-- What `State.quietGate` may alter. -/
def alt_quietGate : Nat := setMask F.GD_STAT_REFRESH ||| alt_onGate

theorem alters_quietGate {μ : Nat} {s₀ : State} (s : State) (a : ℕ) (hm : Sub alt_quietGate μ)
    (hk : Alters μ s₀ s) : Alters μ s₀ (State.quietGate s a) := by
  unfold State.quietGate
  try dsimp only
  repeat' first
    | (with_reducible first | assumption | apply alters_set | apply alters_onGate)
    | exact sub_trans (by decide +kernel) hm
    | (simp only [setMask_on, setMask_bit, setMask_chanBit, pubMask_on]; exact sub_trans (by decide +kernel) hm)
    | split

/-- What `State.powerUpGate` may alter. -/
def alt_powerUpGate : Nat := setMask F.GD_STAT_STATE ||| partGdieDown

theorem alters_powerUpGate {μ : Nat} {s₀ : State} (s : State) (hm : Sub alt_powerUpGate μ)
    (hk : Alters μ s₀ s) : Alters μ s₀ (State.powerUpGate s) := by
  unfold State.powerUpGate
  try dsimp only
  repeat' first
    | intro _
    | simp only [alters_gdieDown (sub_bit hm (i := 3) (by decide +kernel))]
    | (with_reducible first | assumption | apply alters_applyIf | apply alters_set | apply alters_foldl)
    | exact sub_trans (by decide +kernel) hm
    | (simp only [setMask_on, setMask_bit, setMask_chanBit, pubMask_on]; exact sub_trans (by decide +kernel) hm)
    | split

/-- What `State.clearFourth` may alter. -/
def alt_clearFourth : Nat :=
    setMask F.GD_STR_STEP ||| setMask F.GD_STR_LIMIT ||| setMask F.GD_STAT_SCHB ||| setMask F.GD_SCTEST_PASS |||
    setMask F.GD_SCTEST_FAIL ||| setMask F.GD_STAT_REFRESH ||| setMask F.GD_BSTV_V ||| setMask F.GD_TSW_TSW ||| alt_onGate

theorem alters_clearFourth {μ : Nat} {s₀ : State} (s : State) (a : ℕ) (hm : Sub alt_clearFourth μ)
    (hk : Alters μ s₀ s) : Alters μ s₀ (State.clearFourth s a) := by
  unfold State.clearFourth
  simp only [List.foldl_cons, List.foldl_nil]
  repeat' first
    | (with_reducible first | assumption | apply alters_set | apply alters_onGate)
    | (simp only [setMask_on]; exact sub_trans (by decide +kernel) hm)
    | exact sub_trans (by decide +kernel) hm

/-- What `State.safeState` may alter. -/
def alt_safeState : Nat :=
    setMask F.GD_STAT_STATE ||| setMask F.GD_STAT_CAUSE ||| alt_quietGate ||| alt_stopAxis ||| alt_onAxis |||
    alt_abortBrakeTests

theorem alters_safeState {μ : Nat} {s₀ : State} (s : State) (a : ℕ) (cause : ℕ) (hm : Sub alt_safeState μ)
    (hk : Alters μ s₀ s) : Alters μ s₀ (State.safeState s a cause) := by
  unfold State.safeState
  try dsimp only
  repeat' first
    | (with_reducible first | assumption | apply alters_set | apply alters_quietGate | apply alters_stopAxis | apply alters_onAxis)
    | (with_reducible first | apply alters_abortBrakeTests | apply alters_ite)
    | exact sub_trans (by decide +kernel) hm
    | (simp only [setMask_on, setMask_bit, setMask_chanBit, pubMask_on]; exact sub_trans (by decide +kernel) hm)
    | split

/-- What `State.bridgeOff` may alter. -/
def alt_bridgeOff : Nat :=
    setMask F.GD_STAT_STATE ||| alt_onAxis ||| alt_onGate ||| alt_quietGate ||| alt_abortBrakeTests

theorem alters_bridgeOff {μ : Nat} {s₀ : State} (s : State) (a : ℕ) (hm : Sub alt_bridgeOff μ)
    (hk : Alters μ s₀ s) : Alters μ s₀ (State.bridgeOff s a) := by
  unfold State.bridgeOff
  try dsimp only
  repeat' first
    | (with_reducible first | assumption | apply alters_onAxis | apply alters_onGate | apply alters_quietGate | apply alters_abortBrakeTests)
    | (with_reducible first | apply alters_set)
    | exact sub_trans (by decide +kernel) hm
    | (simp only [setMask_on, setMask_bit, setMask_chanBit, pubMask_on]; exact sub_trans (by decide +kernel) hm)
    | split

/-- What `State.safeAll` may alter. -/
def alt_safeAll : Nat := alt_safeState

theorem alters_safeAll {μ : Nat} {s₀ : State} (s : State) (cause : ℕ) (hm : Sub alt_safeAll μ)
    (hk : Alters μ s₀ s) : Alters μ s₀ (State.safeAll s cause) := by
  unfold State.safeAll
  try dsimp only
  repeat' first
    | intro _
    | (with_reducible first | assumption | apply alters_safeState | apply alters_foldl)
    | exact sub_trans (by decide +kernel) hm
    | split

/-- What `State.shortCircuit` may alter. -/
def alt_shortCircuit : Nat :=
    setMask F.GD_STAT_SCHB ||| setMask F.GD_IFLAG_SC ||| setMask F.GD_SCTEST_TRIPS ||| partRsm ||| alt_safeState

theorem alters_shortCircuit {μ : Nat} {s₀ : State} (s : State) (a : ℕ) (c : ℕ) (hm : Sub alt_shortCircuit μ)
    (hk : Alters μ s₀ s) : Alters μ s₀ (State.shortCircuit s a c) := by
  unfold State.shortCircuit
  try dsimp only
  repeat' first
    | (with_reducible first | assumption | apply alters_set | apply alters_flagEvent | apply alters_safeState | apply alters_count)
    | exact sub_trans (by decide +kernel) hm
    | (simp only [setMask_on, setMask_bit, setMask_chanBit, pubMask_on]; exact sub_trans (by decide +kernel) hm)
    | split

/-- What `State.linkBack` may alter. -/
def alt_linkBack : Nat := setMask F.GDR_STAT_LINKLOST ||| alt_onGate

theorem alters_linkBack {μ : Nat} {s₀ : State} (s : State) (hm : Sub alt_linkBack μ)
    (hk : Alters μ s₀ s) : Alters μ s₀ (State.linkBack s) := by
  unfold State.linkBack
  try dsimp only
  repeat' first
    | intro _
    | (with_reducible first | assumption | apply alters_applyIf | apply alters_onGate | apply alters_setOn)
    | exact sub_trans (by decide +kernel) hm
    | split

/-- What `execGdieFrame` may alter. -/
def alt_execGdieFrame : Nat :=
    setMask F.GDR_LINK_RETRY ||| setMask F.GDR_IFLAG_LINKERR ||| setMask F.GDR_LINK_MISS ||| alt_onGate |||
    alt_linkBack ||| alt_stopAxis

theorem alters_execGdieFrame {μ : Nat} {s₀ : State} (a : ℕ) (sent : ℕ) (valid : Bool) (s : State) (hm : Sub alt_execGdieFrame μ)
    (hk : Alters μ s₀ s) : AltersTo μ s₀ (execGdieFrame a sent valid s) := by
  unfold execGdieFrame
  try dsimp only
  repeat' first
    | intro _
    | (with_reducible first | assumption | apply alters_set | apply alters_onGate | apply alters_linkBack | apply alters_flag)
    | (with_reducible first | apply alters_count | apply alters_applyIf | apply alters_stopAxis | apply alters_next)
    | (with_reducible first | apply altersTo_ite)
    | exact sub_trans (by decide +kernel) hm
    | split

/-- What `execGdieLinkLost` may alter. -/
def alt_execGdieLinkLost : Nat :=
    setMask F.GDR_IFLAG_LINKLOST ||| setMask F.GDR_STAT_LINKLOST ||| partNow ||| alt_safeAll

theorem alters_execGdieLinkLost {μ : Nat} {s₀ : State} (s : State) (hm : Sub alt_execGdieLinkLost μ)
    (hk : Alters μ s₀ s) : AltersTo μ s₀ (execGdieLinkLost s) := by
  unfold execGdieLinkLost
  try dsimp only
  repeat' first
    | (with_reducible first | assumption | apply alters_flag | apply alters_setOn | apply alters_safeAll | apply alters_advanceTo)
    | (with_reducible first | apply alters_next | apply altersTo_ite)
    | exact sub_trans (by decide +kernel) hm
    | split

/-- What `State.testResult` may alter. -/
def alt_testResult : Nat := setMask F.GD_SCTEST_PASS ||| setMask F.GD_SCTEST_FAIL

theorem alters_testResult {μ : Nat} {s₀ : State} (s : State) (a : ℕ) (fails : ℕ) (hm : Sub alt_testResult μ)
    (hk : Alters μ s₀ s) : Alters μ s₀ (State.testResult s a fails) := by
  unfold State.testResult
  try dsimp only
  repeat' first
    | (with_reducible first | assumption | apply alters_set)
    | exact sub_trans (by decide +kernel) hm
    | (simp only [setMask_on, setMask_bit, setMask_chanBit, pubMask_on]; exact sub_trans (by decide +kernel) hm)
    | split

/-- What `State.testFail` may alter. -/
def alt_testFail : Nat := setMask F.GD_IFLAG_TESTFAIL ||| partRsm ||| alt_safeState

theorem alters_testFail {μ : Nat} {s₀ : State} (s : State) (a : ℕ) (hm : Sub alt_testFail μ)
    (hk : Alters μ s₀ s) : Alters μ s₀ (State.testFail s a) := by
  unfold State.testFail
  try dsimp only
  repeat' first
    | (with_reducible first | assumption | apply alters_flagEvent | apply alters_safeState)
    | exact sub_trans (by decide +kernel) hm
    | (simp only [setMask_on, setMask_bit, setMask_chanBit, pubMask_on]; exact sub_trans (by decide +kernel) hm)
    | split

/-- What `State.beginQualify` may alter. -/
def alt_beginQualify : Nat :=
    setMask F.GD_STAT_SCHB ||| setMask F.GD_STAT_CAUSE ||| setMask F.GD_STAT_STATE ||| alt_onGate

theorem alters_beginQualify {μ : Nat} {s₀ : State} (s : State) (a : ℕ) (recover : Bool) (hm : Sub alt_beginQualify μ)
    (hk : Alters μ s₀ s) : Alters μ s₀ (State.beginQualify s a recover) := by
  unfold State.beginQualify
  try dsimp only
  repeat' first
    | intro _
    | (with_reducible first | assumption | apply alters_applyIf | apply alters_set | apply alters_onGate)
    | exact sub_trans (by decide +kernel) hm
    | (simp only [setMask_on, setMask_bit, setMask_chanBit, pubMask_on]; exact sub_trans (by decide +kernel) hm)
    | split

/-- What `State.writeGdCmd` may alter. -/
def alt_writeGdCmd : Nat := setMask F.GD_STAT_STATE ||| alt_onGate ||| alt_beginQualify

theorem alters_writeGdCmd {μ : Nat} {s₀ : State} (s : State) (a : ℕ) (v : Word) (hm : Sub alt_writeGdCmd μ)
    (hk : Alters μ s₀ s) : Alters μ s₀ (State.writeGdCmd s a v).1 := by
  unfold State.writeGdCmd
  try dsimp only
  repeat' first
    | (with_reducible first | assumption | apply alters_set | apply alters_onGate | apply alters_beginQualify)
    | exact sub_trans (by decide +kernel) hm
    | (simp only [setMask_on, setMask_bit, setMask_chanBit, pubMask_on]; exact sub_trans (by decide +kernel) hm)
    | split

/-- What `State.runRecovers` may alter. -/
def alt_runRecovers : Nat := alt_beginQualify

theorem alters_runRecovers {μ : Nat} {s₀ : State} (s : State) (pages : List ℕ) (hm : Sub alt_runRecovers μ)
    (hk : Alters μ s₀ s) : Alters μ s₀ (State.runRecovers s pages) := by
  unfold State.runRecovers
  try dsimp only
  repeat' first
    | intro _
    | (with_reducible first | assumption | apply alters_beginQualify | apply alters_foldl)
    | exact sub_trans (by decide +kernel) hm
    | split

/-- What `execSctestDone` may alter. -/
def alt_execSctestDone : Nat :=
    setMask F.GD_STAT_STATE ||| setMask F.GD_IFLAG_TESTDONE ||| alt_testResult ||| alt_onGate ||| alt_testFail

theorem alters_execSctestDone {μ : Nat} {s₀ : State} (a : ℕ) (fails : ℕ) (s : State) (hm : Sub alt_execSctestDone μ)
    (hk : Alters μ s₀ s) : AltersTo μ s₀ (execSctestDone a fails s) := by
  unfold execSctestDone
  try dsimp only
  repeat' first
    | (with_reducible first | assumption | apply alters_testResult | apply alters_set | apply alters_onGate | apply alters_flag)
    | (with_reducible first | apply alters_testFail | apply alters_next | apply alters_ite)
    | exact sub_trans (by decide +kernel) hm
    | (simp only [setMask_on, setMask_bit, setMask_chanBit, pubMask_on]; exact sub_trans (by decide +kernel) hm)
    | split

/-- What `execQualification` may alter. -/
def alt_execQualification : Nat := setMask F.GD_STAT_STATE ||| alt_beginQualify

theorem alters_execQualification {μ : Nat} {s₀ : State} (a : ℕ) (s : State) (hm : Sub alt_execQualification μ)
    (hk : Alters μ s₀ s) : AltersTo μ s₀ (execQualification a s) := by
  unfold execQualification
  try dsimp only
  repeat' first
    | (with_reducible first | assumption | apply alters_beginQualify | apply alters_set | apply alters_next | apply altersTo_ite)
    | exact sub_trans (by decide +kernel) hm
    | (simp only [setMask_on, setMask_bit, setMask_chanBit, pubMask_on]; exact sub_trans (by decide +kernel) hm)
    | split

/-- What `State.showBootstraps` may alter. -/
def alt_showBootstraps : Nat := setMask F.GD_BSTV_V

theorem alters_showBootstraps {μ : Nat} {s₀ : State} (s : State) (a : ℕ) (v : List ℕ) (hm : Sub alt_showBootstraps μ)
    (hk : Alters μ s₀ s) : Alters μ s₀ (State.showBootstraps s a v) := by
  unfold State.showBootstraps
  try dsimp only
  repeat' first
    | (with_reducible first | assumption | apply alters_set)
    | exact sub_trans (by decide +kernel) hm
    | (simp only [setMask_on, setMask_bit, setMask_chanBit, pubMask_on]; exact sub_trans (by decide +kernel) hm)
    | split

/-- What `State.qualFail` may alter. -/
def alt_qualFail : Nat := setMask F.GD_IFLAG_QUALFAIL ||| alt_safeState

theorem alters_qualFail {μ : Nat} {s₀ : State} (s : State) (a : ℕ) (hm : Sub alt_qualFail μ)
    (hk : Alters μ s₀ s) : Alters μ s₀ (State.qualFail s a) := by
  unfold State.qualFail
  try dsimp only
  repeat' first
    | (with_reducible first | assumption | apply alters_flag | apply alters_safeState)
    | exact sub_trans (by decide +kernel) hm
    | (simp only [setMask_on, setMask_bit, setMask_chanBit, pubMask_on]; exact sub_trans (by decide +kernel) hm)
    | split

/-- What `execQualificationDone` may alter. -/
def alt_execQualificationDone : Nat :=
    setMask F.GD_IFLAG_QUAL ||| setMask F.GD_STAT_STATE ||| partNow ||| alt_bridgeOff ||| alt_showBootstraps |||
    alt_testResult ||| alt_onGate ||| alt_qualFail ||| alt_testFail ||| alt_setAxState

theorem alters_execQualificationDone {μ : Nat} {s₀ : State} (a : ℕ) (fails : ℕ) (bst : List ℕ) (s : State) (hm : Sub alt_execQualificationDone μ)
    (hk : Alters μ s₀ s) : AltersTo μ s₀ (execQualificationDone a fails bst s) := by
  unfold execQualificationDone
  try dsimp only
  repeat' first
    | (with_reducible first | assumption | apply alters_bridgeOff | apply alters_advanceTo | apply alters_showBootstraps)
    | (with_reducible first | apply alters_testResult | apply alters_onGate | apply alters_qualFail | apply alters_testFail)
    | (with_reducible first | apply alters_flag | apply alters_set | apply alters_setAxState | apply alters_next | apply alters_ite)
    | (with_reducible first | apply altersTo_ite)
    | exact sub_trans (by decide +kernel) hm
    | (simp only [setMask_on, setMask_bit, setMask_chanBit, pubMask_on]; exact sub_trans (by decide +kernel) hm)
    | split

/-- What `State.writeGpulse` may alter. -/
def alt_writeGpulse : Nat := alt_onGate

theorem alters_writeGpulse {μ : Nat} {s₀ : State} (s : State) (a : ℕ) (v : Word) (hm : Sub alt_writeGpulse μ)
    (hk : Alters μ s₀ s) : Alters μ s₀ (State.writeGpulse s a v).1 := by
  unfold State.writeGpulse
  try dsimp only
  repeat' first
    | (with_reducible first | assumption | apply alters_onGate)
    | exact sub_trans (by decide +kernel) hm
    | split

/-- What `execGatePulseEnd` may alter. -/
def alt_execGatePulseEnd : Nat :=
    setMask F.GD_GRES_OUT ||| setMask F.GD_GRES_VBST ||| setMask F.GD_GRES_VSW ||| partNow ||| alt_onGate |||
    alt_shortCircuit

theorem alters_execGatePulseEnd {μ : Nat} {s₀ : State} (a : ℕ) (vsw : ℕ) (vbst : ℕ) (x : PulseEnd) (s : State) (hm : Sub alt_execGatePulseEnd μ)
    (hk : Alters μ s₀ s) : AltersTo μ s₀ (execGatePulseEnd a vsw vbst x s) := by
  unfold execGatePulseEnd
  try dsimp only
  repeat' first
    | (with_reducible first | assumption | apply alters_advanceTo | apply alters_onGate | apply alters_set | apply alters_shortCircuit)
    | (with_reducible first | apply alters_next | apply alters_ite)
    | exact sub_trans (by decide +kernel) hm
    | (simp only [setMask_on, setMask_bit, setMask_chanBit, pubMask_on]; exact sub_trans (by decide +kernel) hm)
    | split

/-- What `State.fetchLive` may alter. -/
def alt_fetchLive : Nat := setMask F.GD_LIVE_LIVE

theorem alters_fetchLive {μ : Nat} {s₀ : State} (s : State) (a : ℕ) (hm : Sub alt_fetchLive μ)
    (hk : Alters μ s₀ s) : Alters μ s₀ (State.fetchLive s a) := by
  unfold State.fetchLive
  try dsimp only
  repeat' first
    | (with_reducible first | assumption | apply alters_putF | apply alters_put)
    | exact sub_trans (by decide +kernel) hm
    | (simp only [setMask_on, setMask_bit, setMask_chanBit, pubMask_on]; exact sub_trans (by decide +kernel) hm)
    | split

/-- What `State.adaptBridge` may alter. -/
def alt_adaptBridge : Nat :=
    setMask F.GD_STR_LIMIT ||| setMask F.GD_STR_STEP ||| setMask F.GD_IFLAG_SLOW ||| partRsm ||| alt_onGate

theorem alters_adaptBridge {μ : Nat} {s₀ : State} (s : State) (a : ℕ) (b : ℕ) (ns : ℕ) (hm : Sub alt_adaptBridge μ)
    (hk : Alters μ s₀ s) : Alters μ s₀ (State.adaptBridge s a b ns) := by
  unfold State.adaptBridge
  try dsimp only
  repeat' first
    | intro _
    | (with_reducible first | assumption | apply alters_onGate | apply alters_set | apply alters_applyIf | apply alters_flagEvent)
    | exact sub_trans (by decide +kernel) hm
    | (simp only [setMask_on, setMask_bit, setMask_chanBit, pubMask_on]; exact sub_trans (by decide +kernel) hm)
    | split

/-- What `State.refreshPeriod` may alter. -/
def alt_refreshPeriod : Nat := setMask F.GD_STAT_REFRESH ||| alt_onGate

theorem alters_refreshPeriod {μ : Nat} {s₀ : State} (s : State) (a : ℕ) (b : ℕ) (low : ℕ) (hm : Sub alt_refreshPeriod μ)
    (hk : Alters μ s₀ s) : Alters μ s₀ (State.refreshPeriod s a b low) := by
  unfold State.refreshPeriod
  try dsimp only
  repeat' first
    | (with_reducible first | assumption | apply alters_onGate | apply alters_set | apply alters_ite)
    | exact sub_trans (by decide +kernel) hm
    | (simp only [setMask_on, setMask_bit, setMask_chanBit, pubMask_on]; exact sub_trans (by decide +kernel) hm)
    | split

/-- What `execPwmPeriod` may alter. -/
def alt_execPwmPeriod : Nat := setMask F.GD_TSW_TSW ||| alt_refreshPeriod ||| alt_adaptBridge ||| alt_triggerEvent

theorem alters_execPwmPeriod {μ : Nat} {s₀ : State} (a : ℕ) (hs : List HalfPeriod) (s : State) (hm : Sub alt_execPwmPeriod μ)
    (hk : Alters μ s₀ s) : AltersTo μ s₀ (execPwmPeriod a hs s) := by
  unfold execPwmPeriod
  try dsimp only
  repeat' first
    | intro _
    | (with_reducible first | assumption | apply alters_set | apply alters_refreshPeriod | apply alters_adaptBridge)
    | (with_reducible first | apply alters_applyIf | apply alters_triggerEvent | apply alters_next | apply altersTo_ite)
    | (with_reducible first | apply alters_foldl)
    | exact sub_trans (by decide +kernel) hm
    | (simp only [setMask_on, setMask_bit, setMask_chanBit, pubMask_on]; exact sub_trans (by decide +kernel) hm)
    | split

/-- What `execShortCircuitTrip` may alter. -/
def alt_execShortCircuitTrip : Nat := alt_shortCircuit

theorem alters_execShortCircuitTrip {μ : Nat} {s₀ : State} (a : ℕ) (c : ℕ) (s : State) (hm : Sub alt_execShortCircuitTrip μ)
    (hk : Alters μ s₀ s) : AltersTo μ s₀ (execShortCircuitTrip a c s) := by
  unfold execShortCircuitTrip
  try dsimp only
  repeat' first
    | (with_reducible first | assumption | apply alters_shortCircuit | apply alters_next | apply altersTo_ite)
    | exact sub_trans (by decide +kernel) hm
    | split

/-- What `execHandshakeTimeout` may alter. -/
def alt_execHandshakeTimeout : Nat := setMask F.GD_IFLAG_HSTO ||| alt_safeState

theorem alters_execHandshakeTimeout {μ : Nat} {s₀ : State} (a : ℕ) (s : State) (hm : Sub alt_execHandshakeTimeout μ)
    (hk : Alters μ s₀ s) : AltersTo μ s₀ (execHandshakeTimeout a s) := by
  unfold execHandshakeTimeout
  try dsimp only
  repeat' first
    | (with_reducible first | assumption | apply alters_flag | apply alters_safeState | apply alters_next | apply altersTo_ite)
    | exact sub_trans (by decide +kernel) hm
    | (simp only [setMask_on, setMask_bit, setMask_chanBit, pubMask_on]; exact sub_trans (by decide +kernel) hm)
    | split

/-- What `execVmOutOfRange` may alter. -/
def alt_execVmOutOfRange : Nat := setMask F.GDR_STAT_VMHARD ||| setMask F.GDR_IFLAG_VMHARD ||| partRsm ||| alt_safeAll

theorem alters_execVmOutOfRange {μ : Nat} {s₀ : State} (high : Bool) (s : State) (hm : Sub alt_execVmOutOfRange μ)
    (hk : Alters μ s₀ s) : AltersTo μ s₀ (execVmOutOfRange high s) := by
  unfold execVmOutOfRange
  try dsimp only
  repeat' first
    | intro _
    | (with_reducible first | assumption | apply alters_applyIf | apply alters_setOn | apply alters_safeAll | apply alters_flagEvent)
    | (with_reducible first | apply alters_next | apply altersTo_ite)
    | exact sub_trans (by decide +kernel) hm
    | split

/-- What `execVggUndervoltage` may alter. -/
def alt_execVggUndervoltage : Nat :=
    setMask F.GDR_IFLAG_VGGUV ||| setMask F.GDR_STAT_VGG_OK ||| partRsm ||| alt_safeAll

theorem alters_execVggUndervoltage {μ : Nat} {s₀ : State} (s : State) (hm : Sub alt_execVggUndervoltage μ)
    (hk : Alters μ s₀ s) : AltersTo μ s₀ (execVggUndervoltage s) := by
  unfold execVggUndervoltage
  try dsimp only
  repeat' first
    | (with_reducible first | assumption | apply alters_flagEvent | apply alters_setOn | apply alters_safeAll | apply alters_next)
    | (with_reducible first | apply altersTo_ite)
    | exact sub_trans (by decide +kernel) hm
    | split

/-- What `execSupplyRelease` may alter. -/
def alt_execSupplyRelease : Nat := setMask F.GDR_STAT_VGG_OK ||| alt_onGate

theorem alters_execSupplyRelease {μ : Nat} {s₀ : State} (h : Option ℕ) (s : State) (hm : Sub alt_execSupplyRelease μ)
    (hk : Alters μ s₀ s) : AltersTo μ s₀ (execSupplyRelease h s) := by
  unfold execSupplyRelease
  try dsimp only
  repeat' first
    | (with_reducible first | assumption | apply alters_setOn | apply alters_onGate | apply alters_next | apply alters_ite)
    | (with_reducible first | apply altersTo_ite)
    | exact sub_trans (by decide +kernel) hm
    | split

/-- What `execBootstrapUndervoltage` may alter. -/
def alt_execBootstrapUndervoltage : Nat :=
    setMask F.GD_REFCNT_BSTUV ||| setMask F.GD_IFLAG_BSTUV ||| partRsm ||| alt_onGate ||| alt_safeState

theorem alters_execBootstrapUndervoltage {μ : Nat} {s₀ : State} (a : ℕ) (b : ℕ) (s : State) (hm : Sub alt_execBootstrapUndervoltage μ)
    (hk : Alters μ s₀ s) : AltersTo μ s₀ (execBootstrapUndervoltage a b s) := by
  unfold execBootstrapUndervoltage
  try dsimp only
  repeat' first
    | intro _
    | (with_reducible first | assumption | apply alters_onGate | apply alters_applyIf | apply alters_count | apply alters_flagEvent)
    | (with_reducible first | apply alters_safeState | apply alters_next | apply altersTo_ite)
    | exact sub_trans (by decide +kernel) hm
    | (simp only [setMask_on, setMask_bit, setMask_chanBit, pubMask_on]; exact sub_trans (by decide +kernel) hm)
    | split

/-- What `execRefreshEpisode` may alter. -/
def alt_execRefreshEpisode : Nat :=
    setMask F.GD_IFLAG_BSTREF ||| setMask F.GD_REFCNT_EPISODES ||| setMask F.GD_STAT_REFRESH ||| partRsm

theorem alters_execRefreshEpisode {μ : Nat} {s₀ : State} (a : ℕ) (b : ℕ) (bst : ℕ) (s : State) (hm : Sub alt_execRefreshEpisode μ)
    (hk : Alters μ s₀ s) : AltersTo μ s₀ (execRefreshEpisode a b bst s) := by
  unfold execRefreshEpisode
  try dsimp only
  repeat' first
    | (with_reducible first | assumption | apply alters_flagEvent | apply alters_count | apply alters_set | apply alters_next)
    | (with_reducible first | apply altersTo_ite)
    | exact sub_trans (by decide +kernel) hm
    | (simp only [setMask_on, setMask_bit, setMask_chanBit, pubMask_on]; exact sub_trans (by decide +kernel) hm)
    | split

/-- What `execChopperOn` may alter. -/
def alt_execChopperOn : Nat :=
    setMask F.GDR_IFLAG_CHOPON ||| setMask F.GDR_CHOPCNT_EVENTS ||| setMask F.GDR_STAT_CHOP ||| alt_onGate

theorem alters_execChopperOn {μ : Nat} {s₀ : State} (s : State) (hm : Sub alt_execChopperOn μ)
    (hk : Alters μ s₀ s) : AltersTo μ s₀ (execChopperOn s) := by
  unfold execChopperOn
  try dsimp only
  repeat' first
    | (with_reducible first | assumption | apply alters_flag | apply alters_count | apply alters_setOn | apply alters_onGate)
    | (with_reducible first | apply alters_next | apply altersTo_ite)
    | exact sub_trans (by decide +kernel) hm
    | split

/-- What `State.chopperOff` may alter. -/
def alt_chopperOff : Nat := setMask F.GDR_CHOPCNT_ONMS ||| setMask F.GDR_STAT_CHOP

theorem alters_chopperOff {μ : Nat} {s₀ : State} (s : State) (hm : Sub alt_chopperOff μ)
    (hk : Alters μ s₀ s) : Alters μ s₀ (State.chopperOff s) := by
  unfold State.chopperOff
  try dsimp only
  repeat' first
    | (with_reducible first | assumption | apply alters_set | apply alters_setOn | apply alters_ite)
    | exact sub_trans (by decide +kernel) hm
    | split

/-- What `execChopperOff` may alter. -/
def alt_execChopperOff : Nat := alt_chopperOff

theorem alters_execChopperOff {μ : Nat} {s₀ : State} (s : State) (hm : Sub alt_execChopperOff μ)
    (hk : Alters μ s₀ s) : AltersTo μ s₀ (execChopperOff s) := by
  unfold execChopperOff
  try dsimp only
  repeat' first
    | (with_reducible first | assumption | apply alters_chopperOff | apply alters_next)
    | exact sub_trans (by decide +kernel) hm
    | split

/-- What `execChopperLong` may alter. -/
def alt_execChopperLong : Nat := setMask F.GDR_IFLAG_CHOPLONG ||| partRsm ||| partNow ||| alt_onGate

theorem alters_execChopperLong {μ : Nat} {s₀ : State} (s : State) (hm : Sub alt_execChopperLong μ)
    (hk : Alters μ s₀ s) : AltersTo μ s₀ (execChopperLong s) := by
  unfold execChopperLong
  try dsimp only
  repeat' first
    | (with_reducible first | assumption | apply alters_flagEvent | apply alters_onGate | apply alters_advanceTo | apply alters_next)
    | (with_reducible first | apply altersTo_ite)
    | exact sub_trans (by decide +kernel) hm
    | split

/-! ### Bay.lean -/

/-- What `State.onBay` may alter. -/
def alt_onBay : Nat := partBay

theorem alters_onBay {μ : Nat} {s₀ : State} (s : State) (f : BaySt → BaySt) (hm : Sub alt_onBay μ)
    (hk : Alters μ s₀ s) : Alters μ s₀ (State.onBay s f) := by
  unfold State.onBay
  try dsimp only
  repeat' first
    | simp only [alters_bay (sub_bit hm (i := 19) (by decide +kernel))]
    | (with_reducible first | assumption)
    | exact sub_trans (by decide +kernel) hm
    | split

/-- What `State.countPair` may alter. -/
def alt_countPair : Nat := alt_onBay

theorem alters_countPair {μ : Nat} {s₀ : State} (s : State) (p : GridPair) (hm : Sub alt_countPair μ)
    (hk : Alters μ s₀ s) : Alters μ s₀ (State.countPair s p) := by
  unfold State.countPair
  try dsimp only
  repeat' first
    | (with_reducible first | assumption | apply alters_onBay | apply alters_ite)
    | exact sub_trans (by decide +kernel) hm
    | split

/-- What `State.takePair` may alter. -/
def alt_takePair : Nat := alt_onBay ||| alt_countPair

theorem alters_takePair {μ : Nat} {s₀ : State} (s : State) (p : GridPair) (hm : Sub alt_takePair μ)
    (hk : Alters μ s₀ s) : Alters μ s₀ (State.takePair s p) := by
  unfold State.takePair
  try dsimp only
  repeat' first
    | (with_reducible first | assumption | apply alters_onBay | apply alters_countPair | apply alters_ite)
    | exact sub_trans (by decide +kernel) hm
    | split

/-- What `State.keepPair` may alter. -/
def alt_keepPair : Nat := alt_onBay

theorem alters_keepPair {μ : Nat} {s₀ : State} (s : State) (p : GridPair) (hm : Sub alt_keepPair μ)
    (hk : Alters μ s₀ s) : Alters μ s₀ (State.keepPair s p) := by
  unfold State.keepPair
  try dsimp only
  repeat' first
    | (with_reducible first | assumption | apply alters_onBay | apply alters_ite)
    | exact sub_trans (by decide +kernel) hm
    | split

/-- What `execBaySamplePair` may alter. -/
def alt_execBaySamplePair : Nat := partNow ||| alt_keepPair ||| alt_takePair

theorem alters_execBaySamplePair {μ : Nat} {s₀ : State} (p : SamplePair) (crcOk : Bool) (s : State) (hm : Sub alt_execBaySamplePair μ)
    (hk : Alters μ s₀ s) : AltersTo μ s₀ (execBaySamplePair p crcOk s) := by
  unfold execBaySamplePair
  try dsimp only
  repeat' first
    | (with_reducible first | assumption | apply alters_keepPair | apply alters_advanceTo | apply alters_takePair)
    | (with_reducible first | apply alters_next | apply altersTo_ite)
    | exact sub_trans (by decide +kernel) hm
    | split

/-- What `execBayPairLost` may alter. -/
def alt_execBayPairLost : Nat := partNow ||| alt_takePair

theorem alters_execBayPairLost {μ : Nat} {s₀ : State} (s : State) (hm : Sub alt_execBayPairLost μ)
    (hk : Alters μ s₀ s) : AltersTo μ s₀ (execBayPairLost s) := by
  unfold execBayPairLost
  try dsimp only
  repeat' first
    | (with_reducible first | assumption | apply alters_takePair | apply alters_advanceTo | apply alters_next | apply altersTo_ite)
    | exact sub_trans (by decide +kernel) hm
    | split

/-- What `State.bayAtRun` may alter. -/
def alt_bayAtRun : Nat := alt_onBay

theorem alters_bayAtRun {μ : Nat} {s₀ : State} (s : State) (hm : Sub alt_bayAtRun μ)
    (hk : Alters μ s₀ s) : Alters μ s₀ (State.bayAtRun s) := by
  unfold State.bayAtRun
  try dsimp only
  repeat' first
    | (with_reducible first | assumption | apply alters_onBay)
    | exact sub_trans (by decide +kernel) hm
    | split

/-- What `State.addLegal` may alter. -/
def alt_addLegal : Nat := alt_onBay

theorem alters_addLegal {μ : Nat} {s₀ : State} (s : State) (lo : Fld) (hi : Fld) (k : ℕ) (mj : ℤ) (hm : Sub alt_addLegal μ) (h_hi : Sub (setMask hi) μ) (h_lo : Sub (setMask lo) μ)
    (hk : Alters μ s₀ s) : Alters μ s₀ (State.addLegal s lo hi k mj) := by
  unfold State.addLegal
  try dsimp only
  repeat' first
    | (with_reducible first | assumption | apply alters_onBay | apply alters_set)
    | exact sub_trans (by decide +kernel) hm
    | split

/-- What `State.addWord` may alter. -/
def alt_addWord : Nat := alt_onBay

theorem alters_addWord {μ : Nat} {s₀ : State} (s : State) (f : Fld) (k : ℕ) (mj : ℤ) (hm : Sub alt_addWord μ) (h_f : Sub (setMask f) μ)
    (hk : Alters μ s₀ s) : Alters μ s₀ (State.addWord s f k mj) := by
  unfold State.addWord
  try dsimp only
  repeat' first
    | (with_reducible first | assumption | apply alters_onBay | apply alters_set)
    | exact sub_trans (by decide +kernel) hm
    | split

/-- What `State.creditEnergy` may alter. -/
def alt_creditEnergy : Nat :=
    setMask F.BAY_EXP_LO_WH ||| setMask F.BAY_EXP_HI_WH ||| setMask F.BAY_IMP_LO_WH ||| setMask F.BAY_IMP_HI_WH |||
    setMask F.BAY_SEXP_WH ||| setMask F.BAY_SIMP_WH ||| setMask F.BAY_TEXP_WH ||| setMask F.BAY_TIMP_WH |||
    alt_addLegal ||| alt_addWord

theorem alters_creditEnergy {μ : Nat} {s₀ : State} (s : State) (metering : Bool) (mj : ℤ) (hm : Sub alt_creditEnergy μ)
    (hk : Alters μ s₀ s) : Alters μ s₀ (State.creditEnergy s metering mj) := by
  unfold State.creditEnergy
  try dsimp only
  repeat' first
    | (with_reducible first | assumption | apply alters_addLegal | apply alters_addWord | apply alters_ite)
    | exact sub_trans (by decide +kernel) hm
    | split

/-- What `State.showRun` may alter. -/
def alt_showRun : Nat :=
    setMask F.BAY_PSTAT_RUN ||| setMask F.BAY_STAT_RUN ||| setMask F.BAY_IFLAG_RUN_SET ||| setMask
    F.BAY_IFLAG_RUN_LOST ||| partRsm ||| alt_safetyEval ||| alt_coilRelease

theorem alters_showRun {μ : Nat} {s₀ : State} (s : State) (v : Bool) (hm : Sub alt_showRun μ)
    (hk : Alters μ s₀ s) : Alters μ s₀ (State.showRun s v) := by
  unfold State.showRun
  try dsimp only
  repeat' first
    | (with_reducible first | assumption | apply alters_setOn | apply alters_flag | apply alters_safetyEval | apply alters_coilRelease)
    | (with_reducible first | apply alters_flagEvent | apply alters_ite)
    | exact sub_trans (by decide +kernel) hm
    | split

/-- What `State.takeParams` may alter. -/
def alt_takeParams : Nat := arrayMask F.BAY_CAL_VALUE ||| alt_onBay

theorem alters_takeParams {μ : Nat} {s₀ : State} (s : State) (hm : Sub alt_takeParams μ)
    (hk : Alters μ s₀ s) : Alters μ s₀ (State.takeParams s) := by
  unfold State.takeParams
  try dsimp only
  repeat' first
    | intro _
    | (with_reducible first | assumption | apply alters_putF | apply alters_put | apply alters_onBay | apply alters_foldl)
    | exact sub_trans (by decide +kernel) hm
    | (with_reducible refine sub_chain (setMask_at _ _) ?_; (try simp only [arrayMask_on]); first | assumption | exact sub_trans (by decide +kernel) hm)
    | split

theorem alters_showMean {μ : Nat} {s₀ : State} (s : State) (f : Fld) (sum : ℚ) (h_f : Sub (setMask f) μ)
    (hk : Alters μ s₀ s) : Alters μ s₀ (State.showMean s f sum) := by
  unfold State.showMean
  try dsimp only
  repeat' first
    | (with_reducible first | assumption | apply alters_putF | apply alters_put | apply alters_setInt | apply alters_ite)
    | split

/-- What `State.nextInterval` may alter. -/
def alt_nextInterval : Nat := alt_takePair ||| alt_onBay

theorem alters_nextInterval {μ : Nat} {s₀ : State} (s : State) (hm : Sub alt_nextInterval μ)
    (hk : Alters μ s₀ s) : Alters μ s₀ (State.nextInterval s) := by
  unfold State.nextInterval
  try dsimp only
  repeat' first
    | intro _
    | (with_reducible first | assumption | apply alters_takePair | apply alters_onBay | apply alters_foldl)
    | exact sub_trans (by decide +kernel) hm
    | split

/-- What `State.closeInterval` may alter. -/
def alt_closeInterval : Nat :=
    setMask F.BAY_I_VAL ||| setMask F.BAY_V_VAL ||| setMask F.BAY_P_VAL ||| setMask F.BAY_PSTAT_ERROR ||| setMask
    F.BAY_STAT_STATE ||| setMask F.BAY_UNMET_MS ||| setMask F.BAY_SDUR_S ||| partRsm ||| alt_creditEnergy |||
    alt_nextInterval ||| alt_takeParams ||| alt_showRun

theorem alters_closeInterval {μ : Nat} {s₀ : State} (s : State) (hm : Sub alt_closeInterval μ)
    (hk : Alters μ s₀ s) : Alters μ s₀ (State.closeInterval s) := by
  unfold State.closeInterval
  try dsimp only
  repeat' first
    | intro _
    | (with_reducible first | assumption | apply alters_showMean | apply alters_setOn | apply alters_set | apply alters_applyIf)
    | (with_reducible first | apply alters_listed | apply alters_creditEnergy | apply alters_nextInterval | apply alters_takeParams)
    | (with_reducible first | apply alters_showRun)
    | exact sub_trans (by decide +kernel) hm
    | split

/-- What `execBayInterval` may alter. -/
def alt_execBayInterval : Nat := alt_closeInterval

theorem alters_execBayInterval {μ : Nat} {s₀ : State} (s : State) (hm : Sub alt_execBayInterval μ)
    (hk : Alters μ s₀ s) : AltersTo μ s₀ (execBayInterval s) := by
  unfold execBayInterval
  try dsimp only
  repeat' first
    | (with_reducible first | assumption | apply alters_closeInterval | apply alters_next | apply altersTo_ite)
    | exact sub_trans (by decide +kernel) hm
    | split

/-- What `State.clockWindow` may alter. -/
def alt_clockWindow : Nat :=
    setMask F.BAY_CLK_DEV ||| setMask F.BAY_IFLAG_CLK ||| setMask F.BAY_STAT_CLKWARN ||| alt_onBay

theorem alters_clockWindow {μ : Nat} {s₀ : State} (s : State) (dev : ℤ) (hm : Sub alt_clockWindow μ)
    (hk : Alters μ s₀ s) : Alters μ s₀ (State.clockWindow s dev) := by
  unfold State.clockWindow
  try dsimp only
  repeat' first
    | intro _
    | (with_reducible first | assumption | apply alters_setInt | apply alters_applyIf | apply alters_flag | apply alters_onBay)
    | (with_reducible first | apply alters_setOn | apply alters_ite)
    | exact sub_trans (by decide +kernel) hm
    | split

/-- What `State.bayCopy` may alter. -/
def alt_bayCopy : Nat := alt_onBay

theorem alters_bayCopy {μ : Nat} {s₀ : State} (s : State) (hm : Sub alt_bayCopy μ)
    (hk : Alters μ s₀ s) : Alters μ s₀ (State.bayCopy s) := by
  unfold State.bayCopy
  try dsimp only
  repeat' first
    | (with_reducible first | assumption | apply alters_onBay | apply alters_ite)
    | exact sub_trans (by decide +kernel) hm
    | split

/-- What `execBayCopyWrite` may alter. -/
def alt_execBayCopyWrite : Nat := alt_bayCopy

theorem alters_execBayCopyWrite {μ : Nat} {s₀ : State} (s : State) (hm : Sub alt_execBayCopyWrite μ)
    (hk : Alters μ s₀ s) : AltersTo μ s₀ (execBayCopyWrite s) := by
  unfold execBayCopyWrite
  try dsimp only
  repeat' first
    | (with_reducible first | assumption | apply alters_bayCopy | apply alters_next)
    | exact sub_trans (by decide +kernel) hm
    | split

/-- What `State.bayLog` may alter. -/
def alt_bayLog : Nat :=
    setMask F.BAY_LOGSTAT_RLOST ||| setMask F.BAY_STAT_LOGFULL ||| setMask F.BAY_LOGSTAT_NEWEST ||| setMask
    F.BAY_LOGSTAT_USED ||| alt_onBay

theorem alters_bayLog {μ : Nat} {s₀ : State} (s : State) (kind : ℕ) (param : ℕ) (old : Word) (new : Word) (hm : Sub alt_bayLog μ)
    (hk : Alters μ s₀ s) : Alters μ s₀ (State.bayLog s kind param old new) := by
  unfold State.bayLog
  try dsimp only
  repeat' first
    | intro _
    | (with_reducible first | assumption | apply alters_applyIf | apply alters_set | apply alters_onBay | apply alters_setOn)
    | (with_reducible first | apply alters_ite)
    | exact sub_trans (by decide +kernel) hm
    | split

/-- What `State.closeSession` may alter. -/
def alt_closeSession : Nat :=
    setMask F.BAY_STAT_SESSION ||| setMask F.BAY_SESS_ACTIVE ||| setMask F.BAY_IFLAG_SESSION ||| setMask
    F.BAY_SESS_CUT ||| partRsm

theorem alters_closeSession {μ : Nat} {s₀ : State} (s : State) (cut : Bool) (hm : Sub alt_closeSession μ)
    (hk : Alters μ s₀ s) : Alters μ s₀ (State.closeSession s cut) := by
  unfold State.closeSession
  try dsimp only
  repeat' first
    | (with_reducible first | assumption | apply alters_setOn | apply alters_flagEvent)
    | exact sub_trans (by decide +kernel) hm
    | split

/-- What `State.openSession` may alter. -/
def alt_openSession : Nat :=
    setMask F.BAY_STAT_SESSION ||| setMask F.BAY_SESS_ACTIVE ||| setMask F.BAY_SESS_CUT ||| setMask
    F.BAY_SESS_NUMBER ||| setMask F.BAY_SDUR_S ||| setMask F.BAY_SEXP_WH ||| setMask F.BAY_SIMP_WH ||| setMask
    F.BAY_SSTART_HI_TIME ||| setMask F.BAY_SSTART_LO_TIME ||| alt_onBay

theorem alters_openSession {μ : Nat} {s₀ : State} (s : State) (hm : Sub alt_openSession μ)
    (hk : Alters μ s₀ s) : Alters μ s₀ (State.openSession s) := by
  unfold State.openSession
  try dsimp only
  repeat' first
    | (with_reducible first | assumption | apply alters_setOn | apply alters_set | apply alters_onBay)
    | exact sub_trans (by decide +kernel) hm
    | split

/-- What `execBayAux3Change` may alter. -/
def alt_execBayAux3Change : Nat := setMask F.BAY_SDUR_S ||| alt_openSession ||| alt_closeSession

theorem alters_execBayAux3Change {μ : Nat} {s₀ : State} (closed : Bool) (s : State) (hm : Sub alt_execBayAux3Change μ)
    (hk : Alters μ s₀ s) : AltersTo μ s₀ (execBayAux3Change closed s) := by
  unfold execBayAux3Change
  try dsimp only
  repeat' first
    | (with_reducible first | assumption | apply alters_openSession | apply alters_closeSession | apply alters_set)
    | (with_reducible first | apply alters_next | apply altersTo_ite)
    | exact sub_trans (by decide +kernel) hm
    | split

/-- The words of a Bay copy. -/
def copyMask : Nat := copyWords.foldl (fun m a => m ||| 2 ^ wordBit a) 0

/-- What `State.bayStartUp` may alter. -/
def alt_bayStartUp : Nat :=
    setMask F.BAY_IFLAG_RESTORE ||| setMask F.BAY_SWVER_BUILD ||| setMask F.BAY_SWID_CRC ||| partRsm ||| alt_onBay
    ||| alt_bayLog ||| alt_closeSession ||| copyMask

theorem alters_restoreCopy {μ : Nat} {s₀ : State} (s : State) (ws : List Word) (hm : Sub copyMask μ) (hk : Alters μ s₀ s) :
    Alters μ s₀ ((copyWords.zip ws).foldl (fun (s : State) (w : Nat × Word) => s.setReg w.1 w.2) s) := by
  have all : ∀ w ∈ copyWords.zip ws, Sub (2 ^ wordBit w.1) μ := fun w hw =>
    sub_trans (foldl_or_mem (fun a => 2 ^ wordBit a) (List.of_mem_zip hw).1 0) hm
  revert all
  generalize copyWords.zip ws = l
  intro all
  induction l generalizing s with
  | nil => exact hk
  | cons w l ih => exact ih _ (alters_setReg (all w List.mem_cons_self) hk) fun b hb => all b (List.mem_cons_of_mem _ hb)

theorem alters_bayStartUp {μ : Nat} {s₀ : State} (s : State) (newest : Bool) (older : Bool) (image : Bool) (hm : Sub alt_bayStartUp μ)
    (hk : Alters μ s₀ s) : Alters μ s₀ (State.bayStartUp s newest older image) := by
  unfold State.bayStartUp
  try dsimp only
  repeat' first
    | intro _
    | with_reducible assumption
    | with_reducible apply alters_restoreCopy
    | (with_reducible first | apply alters_putF | apply alters_onBay | apply alters_setReg | apply alters_applyIf)
    | (with_reducible first | apply alters_flagEvent | apply alters_bayLog | apply alters_closeSession | apply alters_ite)
    | exact sub_trans (by decide +kernel) hm
    | split

/-- What `State.mboxResult` may alter. -/
def alt_mboxResult : Nat := setMask F.BAY_MBSTAT_RESULT

theorem alters_mboxResult {μ : Nat} {s₀ : State} (s : State) (r : ℕ) (hm : Sub alt_mboxResult μ)
    (hk : Alters μ s₀ s) : Alters μ s₀ (State.mboxResult s r) := by
  unfold State.mboxResult
  try dsimp only
  repeat' first
    | (with_reducible first | assumption | apply alters_set)
    | exact sub_trans (by decide +kernel) hm
    | split

/-- What `State.wrongCode` may alter. -/
def alt_wrongCode : Nat := setMask F.BAY_STAT_LOCKOUT ||| alt_onBay ||| alt_mboxResult

theorem alters_wrongCode {μ : Nat} {s₀ : State} (s : State) (hm : Sub alt_wrongCode μ)
    (hk : Alters μ s₀ s) : Alters μ s₀ (State.wrongCode s) := by
  unfold State.wrongCode
  try dsimp only
  repeat' first
    | (with_reducible first | assumption | apply alters_onBay | apply alters_mboxResult | apply alters_setOn | apply alters_ite)
    | exact sub_trans (by decide +kernel) hm
    | split

/-- What `State.zeroTest` may alter. -/
def alt_zeroTest : Nat := setMask F.BAY_TEXP_WH ||| setMask F.BAY_TIMP_WH ||| alt_onBay

theorem alters_zeroTest {μ : Nat} {s₀ : State} (s : State) (hm : Sub alt_zeroTest μ)
    (hk : Alters μ s₀ s) : Alters μ s₀ (State.zeroTest s) := by
  unfold State.zeroTest
  try dsimp only
  repeat' first
    | (with_reducible first | assumption | apply alters_onBay | apply alters_set)
    | exact sub_trans (by decide +kernel) hm
    | split

/-- What `State.setSeal` may alter. -/
def alt_setSeal : Nat := setMask F.BAY_IFLAG_SEAL ||| setMask F.BAY_PSTAT_SEALED ||| setMask F.BAY_STAT_SEALED

theorem alters_setSeal {μ : Nat} {s₀ : State} (s : State) (v : Bool) (hm : Sub alt_setSeal μ)
    (hk : Alters μ s₀ s) : Alters μ s₀ (State.setSeal s v) := by
  unfold State.setSeal
  try dsimp only
  repeat' first
    | (with_reducible first | assumption | apply alters_flag | apply alters_setOn)
    | exact sub_trans (by decide +kernel) hm
    | split

/-- What `State.mcount` may alter. -/
def alt_mcount : Nat := setMask F.BAY_MCOUNT_COUNT

theorem alters_mcount {μ : Nat} {s₀ : State} (s : State) (hm : Sub alt_mcount μ)
    (hk : Alters μ s₀ s) : Alters μ s₀ (State.mcount s) := by
  unfold State.mcount
  try dsimp only
  repeat' first
    | (with_reducible first | assumption | apply alters_set)
    | exact sub_trans (by decide +kernel) hm
    | split

/-- What `State.mboxRun` may alter. -/
def alt_mboxRun : Nat :=
    setMask F.BAY_IFLAG_PARAM ||| alt_bayLog ||| alt_mcount ||| alt_zeroTest ||| alt_setSeal ||| alt_onBay

theorem alters_mboxRun {μ : Nat} {s₀ : State} (s : State) (m : List Word) (version : Word) (hm : Sub alt_mboxRun μ)
    (hk : Alters μ s₀ s) : Alters μ s₀ (State.mboxRun s m version) := by
  unfold State.mboxRun
  try dsimp only
  repeat' first
    | (with_reducible first | assumption | apply alters_bayLog | apply alters_mcount | apply alters_zeroTest | apply alters_setSeal)
    | (with_reducible first | apply alters_onBay | apply alters_flag)
    | exact sub_trans (by decide +kernel) hm
    | split

/-- What `State.mailbox` may alter. -/
def alt_mailbox : Nat := alt_mboxResult ||| alt_wrongCode ||| alt_onBay ||| alt_mboxRun

theorem alters_mailbox {μ : Nat} {s₀ : State} (s : State) (m : List Word) (verified : Bool) (version : Word) (hm : Sub alt_mailbox μ)
    (hk : Alters μ s₀ s) : Alters μ s₀ (State.mailbox s m verified version) := by
  unfold State.mailbox
  try dsimp only
  repeat' first
    | (with_reducible first | assumption | apply alters_mboxResult | apply alters_wrongCode | apply alters_onBay | apply alters_mboxRun)
    | (with_reducible first | apply alters_ite)
    | exact sub_trans (by decide +kernel) hm
    | split

/-- What `State.submitMailbox` may alter. -/
def alt_submitMailbox : Nat := alt_mailbox ||| alt_onBay

theorem alters_submitMailbox {μ : Nat} {s₀ : State} (s : State) (m : List Word) (verified : Bool) (version : Word) (hm : Sub alt_submitMailbox μ)
    (hk : Alters μ s₀ s) : Alters μ s₀ (State.submitMailbox s m verified version) := by
  unfold State.submitMailbox
  try dsimp only
  repeat' first
    | (with_reducible first | assumption | apply alters_mailbox | apply alters_onBay | apply alters_ite)
    | exact sub_trans (by decide +kernel) hm
    | split

/-- What `execBayBreak` may alter. -/
def alt_execBayBreak : Nat := alt_submitMailbox

theorem alters_execBayBreak {μ : Nat} {s₀ : State} (rest : List Word) (s : State) (hm : Sub alt_execBayBreak μ)
    (hk : Alters μ s₀ s) : AltersTo μ s₀ (execBayBreak rest s) := by
  unfold execBayBreak
  try dsimp only
  repeat' first
    | (with_reducible first | assumption | apply alters_submitMailbox | apply alters_next)
    | exact sub_trans (by decide +kernel) hm
    | split

/-- What `execBaySet` may alter. -/
def alt_execBaySet : Nat := alt_submitMailbox

theorem alters_execBaySet {μ : Nat} {s₀ : State} (param : Byte) (rest : List Word) (s : State) (hm : Sub alt_execBaySet μ)
    (hk : Alters μ s₀ s) : AltersTo μ s₀ (execBaySet param rest s) := by
  unfold execBaySet
  try dsimp only
  repeat' first
    | (with_reducible first | assumption | apply alters_submitMailbox | apply alters_next)
    | exact sub_trans (by decide +kernel) hm
    | split

/-- What `execBaySeal` may alter. -/
def alt_execBaySeal : Nat := alt_submitMailbox

theorem alters_execBaySeal {μ : Nat} {s₀ : State} (rest : List Word) (s : State) (hm : Sub alt_execBaySeal μ)
    (hk : Alters μ s₀ s) : AltersTo μ s₀ (execBaySeal rest s) := by
  unfold execBaySeal
  try dsimp only
  repeat' first
    | (with_reducible first | assumption | apply alters_submitMailbox | apply alters_next)
    | exact sub_trans (by decide +kernel) hm
    | split

/-- What `execBayImgOpen` may alter. -/
def alt_execBayImgOpen : Nat := alt_submitMailbox

theorem alters_execBayImgOpen {μ : Nat} {s₀ : State} (rest : List Word) (s : State) (hm : Sub alt_execBayImgOpen μ)
    (hk : Alters μ s₀ s) : AltersTo μ s₀ (execBayImgOpen rest s) := by
  unfold execBayImgOpen
  try dsimp only
  repeat' first
    | (with_reducible first | assumption | apply alters_submitMailbox | apply alters_next)
    | exact sub_trans (by decide +kernel) hm
    | split

/-- What `execBayImgData` may alter. -/
def alt_execBayImgData : Nat := alt_submitMailbox

theorem alters_execBayImgData {μ : Nat} {s₀ : State} (rest : List Word) (s : State) (hm : Sub alt_execBayImgData μ)
    (hk : Alters μ s₀ s) : AltersTo μ s₀ (execBayImgData rest s) := by
  unfold execBayImgData
  try dsimp only
  repeat' first
    | (with_reducible first | assumption | apply alters_submitMailbox | apply alters_next)
    | exact sub_trans (by decide +kernel) hm
    | split

/-- What `execBayImgEnd` may alter. -/
def alt_execBayImgEnd : Nat := alt_submitMailbox

theorem alters_execBayImgEnd {μ : Nat} {s₀ : State} (rest : List Word) (verified : Bool) (version : Word) (s : State) (hm : Sub alt_execBayImgEnd μ)
    (hk : Alters μ s₀ s) : AltersTo μ s₀ (execBayImgEnd rest verified version s) := by
  unfold execBayImgEnd
  try dsimp only
  repeat' first
    | (with_reducible first | assumption | apply alters_submitMailbox | apply alters_next)
    | exact sub_trans (by decide +kernel) hm
    | split

/-- What `execBayMailboxReject` may alter. -/
def alt_execBayMailboxReject : Nat := alt_submitMailbox

theorem alters_execBayMailboxReject {μ : Nat} {s₀ : State} (m : List Word) (s : State) (hm : Sub alt_execBayMailboxReject μ)
    (hk : Alters μ s₀ s) : AltersTo μ s₀ (execBayMailboxReject m s) := by
  unfold execBayMailboxReject
  try dsimp only
  repeat' first
    | (with_reducible first | assumption | apply alters_submitMailbox | apply alters_next)
    | exact sub_trans (by decide +kernel) hm
    | split

/-- What `execBayLockoutEnd` may alter. -/
def alt_execBayLockoutEnd : Nat := setMask F.BAY_STAT_LOCKOUT ||| partNow ||| alt_onBay

theorem alters_execBayLockoutEnd {μ : Nat} {s₀ : State} (s : State) (hm : Sub alt_execBayLockoutEnd μ)
    (hk : Alters μ s₀ s) : AltersTo μ s₀ (execBayLockoutEnd s) := by
  unfold execBayLockoutEnd
  try dsimp only
  repeat' first
    | (with_reducible first | assumption | apply alters_setOn | apply alters_onBay | apply alters_advanceTo | apply alters_next)
    | exact sub_trans (by decide +kernel) hm
    | split

/-! ### Current.lean -/

/-- What `State.countAgreement` may alter. -/
def alt_countAgreement : Nat := partCur

theorem alters_countAgreement {μ : Nat} {s₀ : State} (s : State) (o : Option HeldM0) (hm : Sub alt_countAgreement μ)
    (hk : Alters μ s₀ s) : Alters μ s₀ (State.countAgreement s o) := by
  unfold State.countAgreement
  try dsimp only
  repeat' first
    | simp only [alters_cur (sub_bit hm (i := 18) (by decide +kernel))]
    | (with_reducible first | assumption)
    | exact sub_trans (by decide +kernel) hm
    | split

/-- What `State.enterSuspect` may alter. -/
def alt_enterSuspect : Nat := setMask F.CUR_IFLAG_SUSPECT ||| setMask F.CUR_PSTAT_SUSPECT ||| partRsm ||| partCur

theorem alters_enterSuspect {μ : Nat} {s₀ : State} (s : State) (hm : Sub alt_enterSuspect μ)
    (hk : Alters μ s₀ s) : Alters μ s₀ (State.enterSuspect s) := by
  unfold State.enterSuspect
  try dsimp only
  repeat' first
    | simp only [alters_cur (sub_bit hm (i := 18) (by decide +kernel))]
    | (with_reducible first | assumption | apply alters_flagEvent | apply alters_setOn | apply alters_ite)
    | exact sub_trans (by decide +kernel) hm
    | split

/-- What `execCurrentSuspect` may alter. -/
def alt_execCurrentSuspect : Nat := alt_enterSuspect

theorem alters_execCurrentSuspect {μ : Nat} {s₀ : State} (s : State) (hm : Sub alt_execCurrentSuspect μ)
    (hk : Alters μ s₀ s) : AltersTo μ s₀ (execCurrentSuspect s) := by
  unfold execCurrentSuspect
  try dsimp only
  repeat' first
    | (with_reducible first | assumption | apply alters_enterSuspect | apply alters_next | apply altersTo_ite)
    | exact sub_trans (by decide +kernel) hm
    | split

/-- What `execCurrentAgreed` may alter. -/
def alt_execCurrentAgreed : Nat := setMask F.CUR_IFLAG_AGREED ||| setMask F.CUR_PSTAT_SUSPECT ||| partRsm ||| partCur

theorem alters_execCurrentAgreed {μ : Nat} {s₀ : State} (s : State) (hm : Sub alt_execCurrentAgreed μ)
    (hk : Alters μ s₀ s) : AltersTo μ s₀ (execCurrentAgreed s) := by
  unfold execCurrentAgreed
  try dsimp only
  repeat' first
    | simp only [alters_cur (sub_bit hm (i := 18) (by decide +kernel))]
    | (with_reducible first | assumption | apply alters_flagEvent | apply alters_setOn | apply alters_next | apply altersTo_ite)
    | exact sub_trans (by decide +kernel) hm
    | split

/-- What `State.zeroFrame` may alter. -/
def alt_zeroFrame : Nat := setMask F.CUR_PSTAT_ZEROING ||| partCur

theorem alters_zeroFrame {μ : Nat} {s₀ : State} (s : State) (o : Option HeldM0) (hm : Sub alt_zeroFrame μ)
    (hk : Alters μ s₀ s) : Alters μ s₀ (State.zeroFrame s o) := by
  unfold State.zeroFrame
  try dsimp only
  repeat' first
    | simp only [alters_cur (sub_bit hm (i := 18) (by decide +kernel))]
    | (with_reducible first | assumption | apply alters_setOn | apply alters_ite)
    | exact sub_trans (by decide +kernel) hm
    | split

/-- What `State.sampleM0` may alter. -/
def alt_sampleM0 : Nat := partCur ||| alt_zeroFrame ||| alt_countAgreement

theorem alters_sampleM0 {μ : Nat} {s₀ : State} (s : State) (x : FrameSample) (hm : Sub alt_sampleM0 μ)
    (hk : Alters μ s₀ s) : Alters μ s₀ (State.sampleM0 s x) := by
  unfold State.sampleM0
  try dsimp only
  repeat' first
    | simp only [alters_cur (sub_bit hm (i := 18) (by decide +kernel))]
    | (with_reducible first | assumption | apply alters_zeroFrame | apply alters_countAgreement)
    | exact sub_trans (by decide +kernel) hm
    | split

/-- What `State.missM0` may alter. -/
def alt_missM0 : Nat := partCur ||| alt_zeroFrame ||| alt_countAgreement

theorem alters_missM0 {μ : Nat} {s₀ : State} (s : State) (hm : Sub alt_missM0 μ)
    (hk : Alters μ s₀ s) : Alters μ s₀ (State.missM0 s) := by
  unfold State.missM0
  try dsimp only
  repeat' first
    | simp only [alters_cur (sub_bit hm (i := 18) (by decide +kernel))]
    | (with_reducible first | assumption | apply alters_zeroFrame | apply alters_countAgreement)
    | exact sub_trans (by decide +kernel) hm
    | split

/-- What `State.loseM0` may alter. -/
def alt_loseM0 : Nat := alt_zeroFrame ||| alt_countAgreement

theorem alters_loseM0 {μ : Nat} {s₀ : State} (s : State) (next : Option HeldM0) (hm : Sub alt_loseM0 μ)
    (hk : Alters μ s₀ s) : Alters μ s₀ (State.loseM0 s next) := by
  unfold State.loseM0
  try dsimp only
  repeat' first
    | (with_reducible first | assumption | apply alters_zeroFrame | apply alters_countAgreement)
    | exact sub_trans (by decide +kernel) hm
    | split

/-- What `State.startZero` may alter. -/
def alt_startZero : Nat := setMask F.CUR_PSTAT_ZEROING ||| partCur

theorem alters_startZero {μ : Nat} {s₀ : State} (s : State) (host : Bool) (hm : Sub alt_startZero μ)
    (hk : Alters μ s₀ s) : Alters μ s₀ (State.startZero s host) := by
  unfold State.startZero
  try dsimp only
  repeat' first
    | simp only [alters_cur (sub_bit hm (i := 18) (by decide +kernel))]
    | (with_reducible first | assumption | apply alters_setOn)
    | exact sub_trans (by decide +kernel) hm
    | split

/-- What `State.writeZero` may alter. -/
def alt_writeZero : Nat := alt_startZero

theorem alters_writeZero {μ : Nat} {s₀ : State} (s : State) (v : Word) (hm : Sub alt_writeZero μ)
    (hk : Alters μ s₀ s) : Alters μ s₀ (State.writeZero s v).1 := by
  unfold State.writeZero
  try dsimp only
  repeat' first
    | (with_reducible first | assumption | apply alters_startZero)
    | exact sub_trans (by decide +kernel) hm
    | split

/-- What `execZeroAutoStart` may alter. -/
def alt_execZeroAutoStart : Nat := partNow ||| alt_startZero

theorem alters_execZeroAutoStart {μ : Nat} {s₀ : State} (s : State) (hm : Sub alt_execZeroAutoStart μ)
    (hk : Alters μ s₀ s) : AltersTo μ s₀ (execZeroAutoStart s) := by
  unfold execZeroAutoStart
  try dsimp only
  repeat' first
    | (with_reducible first | assumption | apply alters_startZero | apply alters_advanceTo | apply alters_next | apply altersTo_ite)
    | exact sub_trans (by decide +kernel) hm
    | split

/-- What `State.zeroOutcome` may alter. -/
def alt_zeroOutcome : Nat := setMask F.CUR_IFLAG_ZFAIL ||| partRsm ||| partCur

theorem alters_zeroOutcome {μ : Nat} {s₀ : State} (s : State) (z : ZeroRun) (hm : Sub alt_zeroOutcome μ)
    (hk : Alters μ s₀ s) : Alters μ s₀ (State.zeroOutcome s z) := by
  unfold State.zeroOutcome
  try dsimp only
  repeat' first
    | intro _
    | simp only [alters_cur (sub_bit hm (i := 18) (by decide +kernel))]
    | (with_reducible first | assumption | apply alters_applyIf | apply alters_flagEvent)
    | exact sub_trans (by decide +kernel) hm
    | split

/-- What `State.saveOffsets` may alter. -/
def alt_saveOffsets : Nat := alt_saveValue

theorem alters_saveOffsets {μ : Nat} {s₀ : State} (s : State) (hm : Sub alt_saveOffsets μ)
    (hk : Alters μ s₀ s) : Alters μ s₀ (State.saveOffsets s) := by
  unfold State.saveOffsets
  try dsimp only
  repeat' first
    | (with_reducible first | assumption | apply alters_saveValue)
    | exact sub_trans (by decide +kernel) hm
    | split

/-- What `execZeroingDone` may alter. -/
def alt_execZeroingDone : Nat :=
    setMask F.CUR_IFLAG_ZDONE ||| setMask F.CUR_PSTAT_ZEROING ||| partCur ||| alt_zeroOutcome ||| alt_journalWrite
    ||| alt_saveOffsets

theorem alters_execZeroingDone {μ : Nat} {s₀ : State} (s : State) (hm : Sub alt_execZeroingDone μ)
    (hk : Alters μ s₀ s) : AltersTo μ s₀ (execZeroingDone s) := by
  unfold execZeroingDone
  try dsimp only
  repeat' first
    | intro _
    | simp only [alters_cur (sub_bit hm (i := 18) (by decide +kernel))]
    | (with_reducible first | assumption | apply alters_zeroOutcome | apply alters_applyIf | apply alters_journalWrite)
    | (with_reducible first | apply alters_saveOffsets | apply alters_flag | apply alters_setOn | apply alters_next)
    | (with_reducible first | apply altersTo_ite)
    | exact sub_trans (by decide +kernel) hm
    | split

/-- What `State.sumCheck` may alter. -/
def alt_sumCheck : Nat :=
    setMask F.STV_IFLAG_SUMCLR ||| setMask F.STV_STAT_SUMERR ||| setMask F.STV_IFLAG_SUMSET ||| partRsm ||| partCur

theorem alters_sumCheck {μ : Nat} {s₀ : State} (s : State) (hm : Sub alt_sumCheck μ)
    (hk : Alters μ s₀ s) : Alters μ s₀ (State.sumCheck s) := by
  unfold State.sumCheck
  try dsimp only
  repeat' first
    | intro _
    | simp only [alters_cur (sub_bit hm (i := 18) (by decide +kernel))]
    | (with_reducible first | assumption | apply alters_applyIf | apply alters_flag | apply alters_setOn | apply alters_flagEvent)
    | (with_reducible first | apply alters_ite)
    | exact sub_trans (by decide +kernel) hm
    | split

/-- What `State.calFrame` may alter. -/
def alt_calFrame : Nat := partCur

theorem alters_calFrame {μ : Nat} {s₀ : State} (s : State) (h : HeldM0) (hm : Sub alt_calFrame μ)
    (hk : Alters μ s₀ s) : Alters μ s₀ (State.calFrame s h) := by
  unfold State.calFrame
  try dsimp only
  repeat' first
    | simp only [alters_cur (sub_bit hm (i := 18) (by decide +kernel))]
    | (with_reducible first | assumption | apply alters_ite)
    | exact sub_trans (by decide +kernel) hm
    | split

/-- What `State.calMissed` may alter. -/
def alt_calMissed : Nat := partCur

theorem alters_calMissed {μ : Nat} {s₀ : State} (s : State) (hm : Sub alt_calMissed μ)
    (hk : Alters μ s₀ s) : Alters μ s₀ (State.calMissed s) := by
  unfold State.calMissed
  try dsimp only
  repeat' first
    | simp only [alters_cur (sub_bit hm (i := 18) (by decide +kernel))]
    | (with_reducible first | assumption)
    | exact sub_trans (by decide +kernel) hm
    | split

/-- What `State.storeGains` may alter. -/
def alt_storeGains : Nat :=
    setMask F.STV_IFLAG_CALDONE ||| partCur ||| alt_saveValue ||| alt_newImage ||| alt_journalWrite

theorem alters_storeGains {μ : Nat} {s₀ : State} (s : State) (gStr : ℤ) (gLnk : ℤ) (hm : Sub alt_storeGains μ)
    (hk : Alters μ s₀ s) : Alters μ s₀ (State.storeGains s gStr gLnk) := by
  unfold State.storeGains
  try dsimp only
  repeat' first
    | simp only [alters_cur (sub_bit hm (i := 18) (by decide +kernel))]
    | (with_reducible first | assumption | apply alters_saveValue | apply alters_flag | apply alters_newImage | apply alters_journalWrite)
    | exact sub_trans (by decide +kernel) hm
    | split

/-- What `State.writeCal` may alter. -/
def alt_writeCal : Nat := partCur ||| alt_storeGains

theorem alters_writeCal {μ : Nat} {s₀ : State} (s : State) (v : Word) (hm : Sub alt_writeCal μ)
    (hk : Alters μ s₀ s) : Alters μ s₀ (State.writeCal s v).1 := by
  unfold State.writeCal
  try dsimp only
  repeat' first
    | simp only [alters_cur (sub_bit hm (i := 18) (by decide +kernel))]
    | (with_reducible first | assumption | apply alters_storeGains)
    | exact sub_trans (by decide +kernel) hm
    | split

/-- What `execStvCalDone` may alter. -/
def alt_execStvCalDone : Nat := setMask F.STV_IFLAG_CALFAIL ||| partCur ||| alt_storeGains

theorem alters_execStvCalDone {μ : Nat} {s₀ : State} (s : State) (hm : Sub alt_execStvCalDone μ)
    (hk : Alters μ s₀ s) : AltersTo μ s₀ (execStvCalDone s) := by
  unfold execStvCalDone
  try dsimp only
  repeat' first
    | simp only [alters_cur (sub_bit hm (i := 18) (by decide +kernel))]
    | (with_reducible first | assumption | apply alters_flag | apply alters_storeGains | apply alters_next | apply alters_ite)
    | (with_reducible first | apply altersTo_ite)
    | exact sub_trans (by decide +kernel) hm
    | split

/-- What `State.publishCur` may alter. -/
def alt_publishCur : Nat :=
    pubMask 0x8 ||| setMask F.CUR_I_MA ||| setMask F.CUR_IB_MA ||| setMask F.CUR_IA_MA ||| setMask F.CUR_STAT_OVR_A
    ||| setMask F.CUR_STAT_SRC ||| setMask F.CUR_STAT_SEQ ||| setMask F.CUR_STAT_SUSPECT ||| setMask F.CUR_STAT_BAD
    ||| setMask F.CUR_STAT_OVR_B ||| setMask F.CUR_STAT_S ||| setMask F.CUR_STAT_DIFF ||| setMask F.CUR_QACC_HI_Q
    ||| setMask F.CUR_QACC_LO_Q ||| setMask F.CUR_OFSB_OFS ||| setMask F.CUR_OFSA_OFS ||| setMask F.CUR_IFLAG_OVR
    ||| setMask F.CUR_OCSTAT_DIS ||| partCur

theorem alters_publishCur {μ : Nat} {s₀ : State} (s : State) (seq : Word) (h : HeldM0) (hm : Sub alt_publishCur μ)
    (hk : Alters μ s₀ s) : Alters μ s₀ (State.publishCur s seq h) := by
  unfold State.publishCur
  try dsimp only
  repeat' first
    | intro _
    | simp only [alters_cur (sub_bit hm (i := 18) (by decide +kernel))]
    | (with_reducible first | assumption | apply alters_putF | apply alters_setInt | apply alters_setOn | apply alters_set)
    | (with_reducible first | apply alters_put | apply alters_publish | apply alters_applyIf | apply alters_flag)
    | exact sub_trans (by decide +kernel) hm
    | split

/-- What `State.publishStv` may alter. -/
def alt_publishStv : Nat :=
    pubMask 0x9 ||| setMask F.STV_VSUM_MV ||| setMask F.STV_VLNK_MV ||| setMask F.STV_VSTR_MV ||| setMask
    F.STV_GLNK_G ||| setMask F.STV_GSTR_G ||| setMask F.STV_STAT_OVR_LNK ||| setMask F.STV_STAT_OVR_STR ||| setMask
    F.STV_STAT_SEQ ||| setMask F.STV_STAT_FLOAT ||| setMask F.STV_STAT_SUMVALID ||| setMask F.STV_STAT_S ||| setMask
    F.STV_STAT_SUBST ||| setMask F.STV_IFLAG_OVR ||| alt_sumCheck ||| alt_calFrame

theorem alters_publishStv {μ : Nat} {s₀ : State} (s : State) (seq : Word) (h : HeldM0) (hm : Sub alt_publishStv μ)
    (hk : Alters μ s₀ s) : Alters μ s₀ (State.publishStv s seq h) := by
  unfold State.publishStv
  try dsimp only
  repeat' first
    | intro _
    | (with_reducible first | assumption | apply alters_setInt | apply alters_setOn | apply alters_set | apply alters_sumCheck)
    | (with_reducible first | apply alters_applyIf | apply alters_flag | apply alters_publish | apply alters_calFrame)
    | exact sub_trans (by decide +kernel) hm
    | split

/-! ### Contactors.lean -/

/-- What `State.onProt` may alter. -/
def alt_onProt : Nat := partProt

theorem alters_onProt {μ : Nat} {s₀ : State} (s : State) (f : ProtSt → ProtSt) (hm : Sub alt_onProt μ)
    (hk : Alters μ s₀ s) : Alters μ s₀ (State.onProt s f) := by
  unfold State.onProt
  try dsimp only
  repeat' first
    | simp only [alters_prot (sub_bit hm (i := 23) (by decide +kernel))]
    | (with_reducible first | assumption)
    | exact sub_trans (by decide +kernel) hm
    | split

/-- What `State.setPrtState` may alter. -/
def alt_setPrtState : Nat :=
    setMask F.PRT_PSTAT_CONNECTED ||| setMask F.PRT_PSTAT_LOCKOUT ||| setMask F.PRT_STAT_LOCKOUT ||| setMask
    F.PRT_STAT_STATE ||| alt_onProt

theorem alters_setPrtState {μ : Nat} {s₀ : State} (s : State) (v : ℕ) (hm : Sub alt_setPrtState μ)
    (hk : Alters μ s₀ s) : Alters μ s₀ (State.setPrtState s v) := by
  unfold State.setPrtState
  try dsimp only
  repeat' first
    | (with_reducible first | assumption | apply alters_onProt | apply alters_setOn | apply alters_set | apply alters_ite)
    | exact sub_trans (by decide +kernel) hm
    | split

/-- What `State.setCond` may alter. -/
def alt_setCond : Nat := setMask F.PRT_COND_COND

theorem alters_setCond {μ : Nat} {s₀ : State} (s : State) (c : ℕ) (v : Bool) (hm : Sub alt_setCond μ)
    (hk : Alters μ s₀ s) : Alters μ s₀ (State.setCond s c v) := by
  unfold State.setCond
  try dsimp only
  repeat' first
    | (with_reducible first | assumption | apply alters_set)
    | exact sub_trans (by decide +kernel) hm
    | split

/-- What `State.showTargets` may alter. -/
def alt_showTargets : Nat := setMask F.PRT_TARGET_CHG ||| setMask F.PRT_TARGET_DIS ||| alt_onProt

theorem alters_showTargets {μ : Nat} {s₀ : State} (s : State) (hm : Sub alt_showTargets μ)
    (hk : Alters μ s₀ s) : Alters μ s₀ (State.showTargets s) := by
  unfold State.showTargets
  try dsimp only
  repeat' first
    | (with_reducible first | assumption | apply alters_onProt | apply alters_set | apply alters_ite)
    | exact sub_trans (by decide +kernel) hm
    | split

/-- What `State.showPath` may alter. -/
def alt_showPath : Nat :=
    setMask F.PRT_IFLAG_PATH ||| setMask F.PRT_PATH_COND ||| setMask F.PRT_STAT_PATH ||| alt_onProt

theorem alters_showPath {μ : Nat} {s₀ : State} (s : State) (path : ℕ) (hm : Sub alt_showPath μ)
    (hk : Alters μ s₀ s) : Alters μ s₀ (State.showPath s path) := by
  unfold State.showPath
  try dsimp only
  repeat' first
    | intro _
    | (with_reducible first | assumption | apply alters_onProt | apply alters_applyIf | apply alters_flag | apply alters_set)
    | (with_reducible first | apply alters_ite)
    | exact sub_trans (by decide +kernel) hm
    | split

/-- What `State.noteWeld` may alter. -/
def alt_noteWeld : Nat := setMask F.PRT_IFLAG_WELD ||| setMask F.PRT_STAT_WELD ||| partRsm

theorem alters_noteWeld {μ : Nat} {s₀ : State} (s : State) (m : ℕ) (hm : Sub alt_noteWeld μ)
    (hk : Alters μ s₀ s) : Alters μ s₀ (State.noteWeld s m) := by
  unfold State.noteWeld
  try dsimp only
  repeat' first
    | (with_reducible first | assumption | apply alters_flagEvent | apply alters_set)
    | exact sub_trans (by decide +kernel) hm
    | split

/-- What `State.endDisconnect` may alter. -/
def alt_endDisconnect : Nat := alt_setCond

theorem alters_endDisconnect {μ : Nat} {s₀ : State} (s : State) (hm : Sub alt_endDisconnect μ)
    (hk : Alters μ s₀ s) : Alters μ s₀ (State.endDisconnect s) := by
  unfold State.endDisconnect
  try dsimp only
  repeat' first
    | intro _
    | (with_reducible first | assumption | apply alters_applyIf | apply alters_setCond)
    | exact sub_trans (by decide +kernel) hm
    | split

/-- What `State.finishOpening` may alter. -/
def alt_finishOpening : Nat :=
    setMask F.PRT_LAST_UNDERLOAD ||| setMask F.PRT_LAST_PATH ||| setMask F.PRT_LAST_COND ||| setMask
    F.PRT_LAST_UNPROVEN ||| setMask F.PRT_IFLAG_OPENED ||| setMask F.PRT_LAST_FRAME ||| alt_onProt ||| alt_showPath
    ||| alt_endDisconnect ||| alt_setPrtState ||| alt_showTargets

theorem alters_finishOpening {μ : Nat} {s₀ : State} (s : State) (o : Opening) (hm : Sub alt_finishOpening μ)
    (hk : Alters μ s₀ s) : Alters μ s₀ (State.finishOpening s o) := by
  unfold State.finishOpening
  try dsimp only
  repeat' first
    | (with_reducible first | assumption | apply alters_onProt | apply alters_showPath | apply alters_endDisconnect)
    | (with_reducible first | apply alters_setPrtState | apply alters_setOn | apply alters_set | apply alters_showTargets)
    | (with_reducible first | apply alters_flag)
    | exact sub_trans (by decide +kernel) hm
    | split

/-- What `State.openNext` may alter. -/
def alt_openNext : Nat := alt_finishOpening ||| alt_onProt ||| alt_coilRelease

theorem alters_openNext {μ : Nat} {s₀ : State} (k : Nat) (s : State) (hm : Sub alt_openNext μ) (hk : Alters μ s₀ s) :
    Alters μ s₀ (State.openNext k s) := by
  induction k generalizing s with
  | zero => exact hk
  | succ k ih =>
    unfold State.openNext
    repeat' first
      | intro _
      | with_reducible assumption
      | with_reducible apply alters_finishOpening
      | with_reducible apply alters_onProt
      | with_reducible apply ih
      | with_reducible apply alters_coilRelease
      | with_reducible apply alters_next
      | with_reducible apply alters_ite
      | with_reducible apply altersTo_ite
      | exact sub_trans (by decide +kernel) hm
      | split

/-- What `State.countUnderload` may alter. -/
def alt_countUnderload : Nat := setMask F.PRT_COUNT_UNDERLOAD ||| alt_countLife

theorem alters_countUnderload {μ : Nat} {s₀ : State} (s : State) (b : Bool) (hm : Sub alt_countUnderload μ)
    (hk : Alters μ s₀ s) : Alters μ s₀ (State.countUnderload s b) := by
  unfold State.countUnderload
  try dsimp only
  repeat' first
    | intro _
    | (with_reducible first | assumption | apply alters_applyIf | apply alters_countLife)
    | exact sub_trans (by decide +kernel) hm
    | split

/-- What `State.startOpening` may alter. -/
def alt_startOpening : Nat :=
    setMask F.PRT_PATH_COND ||| alt_onProt ||| alt_countUnderload ||| alt_openNext ||| alt_showTargets |||
    alt_setPrtState

theorem alters_startOpening {μ : Nat} {s₀ : State} (s : State) (cond : ℕ) (path : ℕ) (underload : Bool) (hm : Sub alt_startOpening μ)
    (hk : Alters μ s₀ s) : Alters μ s₀ (State.startOpening s cond path underload) := by
  unfold State.startOpening
  try dsimp only
  repeat' first
    | (with_reducible first | assumption | apply alters_onProt | apply alters_countUnderload | apply alters_openNext)
    | (with_reducible first | apply alters_showTargets | apply alters_set | apply alters_setPrtState)
    | exact sub_trans (by decide +kernel) hm
    | split

/-- What `State.weldContact` may alter. -/
def alt_weldContact : Nat := alt_noteWeld ||| alt_startOpening ||| alt_showTargets ||| alt_setPrtState

theorem alters_weldContact {μ : Nat} {s₀ : State} (s : State) (m : ℕ) (hm : Sub alt_weldContact μ)
    (hk : Alters μ s₀ s) : Alters μ s₀ (State.weldContact s m) := by
  unfold State.weldContact
  try dsimp only
  repeat' first
    | (with_reducible first | assumption | apply alters_noteWeld | apply alters_startOpening | apply alters_showTargets)
    | (with_reducible first | apply alters_setPrtState | apply alters_ite)
    | exact sub_trans (by decide +kernel) hm
    | split

/-- What `State.allCoilsOff` may alter. -/
def alt_allCoilsOff : Nat := alt_coilRelease

theorem alters_allCoilsOff {μ : Nat} {s₀ : State} (s : State) (hm : Sub alt_allCoilsOff μ)
    (hk : Alters μ s₀ s) : Alters μ s₀ (State.allCoilsOff s) := by
  unfold State.allCoilsOff
  try dsimp only
  repeat' first
    | intro _
    | (with_reducible first | assumption | apply alters_coilRelease | apply alters_foldl)
    | exact sub_trans (by decide +kernel) hm
    | split

/-- What `State.preFailed` may alter. -/
def alt_preFailed : Nat :=
    setMask F.PRT_PRESTAT_OUT ||| setMask F.PRT_PRESTAT_DEV ||| setMask F.PRT_IFLAG_PREFAIL ||| setMask
    F.PRT_STAT_COOL ||| partRsm ||| alt_onProt

theorem alters_preFailed {μ : Nat} {s₀ : State} (s : State) (out : ℕ) (hm : Sub alt_preFailed μ)
    (hk : Alters μ s₀ s) : Alters μ s₀ (State.preFailed s out) := by
  unfold State.preFailed
  try dsimp only
  repeat' first
    | intro _
    | (with_reducible first | assumption | apply alters_applyIf | apply alters_set | apply alters_flag | apply alters_flagEvent)
    | (with_reducible first | apply alters_setOn | apply alters_onProt | apply alters_ite)
    | exact sub_trans (by decide +kernel) hm
    | split

/-- What `State.failClosing` may alter. -/
def alt_failClosing : Nat :=
    setMask F.KRG_STAT_GRANTED ||| alt_preFailed ||| alt_onProt ||| alt_openNext ||| alt_showTargets |||
    alt_setPrtState

theorem alters_failClosing {μ : Nat} {s₀ : State} (s : State) (out : ℕ) (hm : Sub alt_failClosing μ)
    (hk : Alters μ s₀ s) : Alters μ s₀ (State.failClosing s out) := by
  unfold State.failClosing
  try dsimp only
  repeat' first
    | (with_reducible first | assumption | apply alters_setOn | apply alters_preFailed | apply alters_onProt | apply alters_openNext)
    | (with_reducible first | apply alters_showTargets | apply alters_setPrtState)
    | exact sub_trans (by decide +kernel) hm
    | split

/-- What `execCd1HoldEnd` may alter. -/
def alt_execCd1HoldEnd : Nat := partNow ||| alt_noteWeld ||| alt_onProt ||| alt_coilRelease ||| alt_openNext

theorem alters_execCd1HoldEnd {μ : Nat} {s₀ : State} (s : State) (hm : Sub alt_execCd1HoldEnd μ)
    (hk : Alters μ s₀ s) : AltersTo μ s₀ (execCd1HoldEnd s) := by
  unfold execCd1HoldEnd
  try dsimp only
  repeat' first
    | intro _
    | (with_reducible first | assumption | apply alters_advanceTo | apply alters_applyIf | apply alters_noteWeld | apply alters_onProt)
    | (with_reducible first | apply alters_coilRelease | apply alters_openNext | apply alters_next | apply alters_ite)
    | exact sub_trans (by decide +kernel) hm
    | split

/-- What `State.nowConnected` may alter. -/
def alt_nowConnected : Nat :=
    setMask F.KRG_STAT_GRANTED ||| setMask F.PRT_COUNT_CONNECTS ||| setMask F.PRT_IFLAG_CONNECTED ||| alt_onProt |||
    alt_showTargets ||| alt_countLife ||| alt_setPrtState

theorem alters_nowConnected {μ : Nat} {s₀ : State} (s : State) (hm : Sub alt_nowConnected μ)
    (hk : Alters μ s₀ s) : Alters μ s₀ (State.nowConnected s) := by
  unfold State.nowConnected
  try dsimp only
  repeat' first
    | (with_reducible first | assumption | apply alters_setOn | apply alters_onProt | apply alters_showTargets | apply alters_countLife)
    | (with_reducible first | apply alters_flag | apply alters_setPrtState)
    | exact sub_trans (by decide +kernel) hm
    | split

/-- What `State.closeMain` may alter. -/
def alt_closeMain : Nat := setMask F.PRT_PRESTAT_OUT ||| alt_coilEnergise ||| alt_setPrtState

theorem alters_closeMain {μ : Nat} {s₀ : State} (s : State) (out : ℕ) (hm : Sub alt_closeMain μ)
    (hk : Alters μ s₀ s) : Alters μ s₀ (State.closeMain s out) := by
  unfold State.closeMain
  try dsimp only
  repeat' first
    | (with_reducible first | assumption | apply alters_coilEnergise | apply alters_setPrtState | apply alters_set)
    | exact sub_trans (by decide +kernel) hm
    | split

/-- What `State.beginClosing` may alter. -/
def alt_beginClosing : Nat :=
    setMask F.KRG_STAT_GRANTED ||| setMask F.KRG_STAT_WAIT ||| alt_onProt ||| alt_coilEnergise ||| alt_setPrtState

theorem alters_beginClosing {μ : Nat} {s₀ : State} (s : State) (hm : Sub alt_beginClosing μ)
    (hk : Alters μ s₀ s) : Alters μ s₀ (State.beginClosing s) := by
  unfold State.beginClosing
  try dsimp only
  repeat' first
    | (with_reducible first | assumption | apply alters_onProt | apply alters_coilEnergise | apply alters_setPrtState)
    | (with_reducible first | apply alters_setOn)
    | exact sub_trans (by decide +kernel) hm
    | split

/-- What `State.endWait` may alter. -/
def alt_endWait : Nat :=
    setMask F.KRG_IFLAG_NOGRANT ||| setMask F.KRG_STAT_GRANTED ||| setMask F.KRG_STAT_WAIT ||| alt_onProt

theorem alters_endWait {μ : Nat} {s₀ : State} (s : State) (hm : Sub alt_endWait μ)
    (hk : Alters μ s₀ s) : Alters μ s₀ (State.endWait s) := by
  unfold State.endWait
  try dsimp only
  repeat' first
    | (with_reducible first | assumption | apply alters_flag | apply alters_setOn | apply alters_onProt | apply alters_ite)
    | exact sub_trans (by decide +kernel) hm
    | split

/-- What `State.takeGrant` may alter. -/
def alt_takeGrant : Nat := setMask F.KRG_STAT_GRANTED ||| alt_beginClosing

theorem alters_takeGrant {μ : Nat} {s₀ : State} (s : State) (hm : Sub alt_takeGrant μ)
    (hk : Alters μ s₀ s) : Alters μ s₀ (State.takeGrant s) := by
  unfold State.takeGrant
  try dsimp only
  repeat' first
    | (with_reducible first | assumption | apply alters_setOn | apply alters_beginClosing | apply alters_ite)
    | exact sub_trans (by decide +kernel) hm
    | split

/-- What `State.beginWait` may alter. -/
def alt_beginWait : Nat := setMask F.KRG_STAT_WAIT ||| alt_onProt ||| alt_takeGrant

theorem alters_beginWait {μ : Nat} {s₀ : State} (s : State) (hm : Sub alt_beginWait μ)
    (hk : Alters μ s₀ s) : Alters μ s₀ (State.beginWait s) := by
  unfold State.beginWait
  try dsimp only
  repeat' first
    | (with_reducible first | assumption | apply alters_setOn | apply alters_onProt | apply alters_takeGrant | apply alters_ite)
    | exact sub_trans (by decide +kernel) hm
    | split

/-- What `State.connect` may alter. -/
def alt_connect : Nat := alt_onProt ||| alt_beginWait

theorem alters_connect {μ : Nat} {s₀ : State} (s : State) (hm : Sub alt_connect μ)
    (hk : Alters μ s₀ s) : Alters μ s₀ (State.connect s).1 := by
  unfold State.connect
  try dsimp only
  repeat' first
    | (with_reducible first | assumption | apply alters_onProt | apply alters_beginWait)
    | exact sub_trans (by decide +kernel) hm
    | split

/-- What `State.endDeferral` may alter. -/
def alt_endDeferral : Nat := alt_onProt ||| alt_beginWait ||| alt_takeGrant

theorem alters_endDeferral {μ : Nat} {s₀ : State} (s : State) (hm : Sub alt_endDeferral μ)
    (hk : Alters μ s₀ s) : Alters μ s₀ (State.endDeferral s) := by
  unfold State.endDeferral
  try dsimp only
  repeat' first
    | intro _
    | (with_reducible first | assumption | apply alters_onProt | apply alters_beginWait | apply alters_applyIf | apply alters_takeGrant)
    | (with_reducible first | apply alters_ite)
    | exact sub_trans (by decide +kernel) hm
    | split

/-- What `State.preCheck` may alter. -/
def alt_preCheck : Nat :=
    setMask F.PRT_PRESTAT_DEV ||| setMask F.PRT_PRESTAT_T95 ||| alt_closeMain ||| alt_failClosing ||| alt_onProt

theorem alters_preCheck {μ : Nat} {s₀ : State} (s : State) (c : Closing) (v0 : ℤ) (t0 : ℕ) (hm : Sub alt_preCheck μ)
    (hk : Alters μ s₀ s) : Alters μ s₀ (State.preCheck s c v0 t0) := by
  unfold State.preCheck
  try dsimp only
  repeat' first
    | (with_reducible first | assumption | apply alters_set | apply alters_closeMain | apply alters_failClosing | apply alters_onProt)
    | (with_reducible first | apply alters_ite)
    | exact sub_trans (by decide +kernel) hm
    | split

/-- What `State.endOverlap` may alter. -/
def alt_endOverlap : Nat := setMask F.KRG_STAT_GRANTED ||| alt_startOpening ||| alt_nowConnected

theorem alters_endOverlap {μ : Nat} {s₀ : State} (s : State) (hm : Sub alt_endOverlap μ)
    (hk : Alters μ s₀ s) : Alters μ s₀ (State.endOverlap s) := by
  unfold State.endOverlap
  try dsimp only
  repeat' first
    | (with_reducible first | assumption | apply alters_startOpening | apply alters_setOn | apply alters_nowConnected)
    | (with_reducible first | apply alters_ite)
    | exact sub_trans (by decide +kernel) hm
    | split

/-- What `State.dropPre` may alter. -/
def alt_dropPre : Nat := alt_coilRelease ||| alt_nowConnected

theorem alters_dropPre {μ : Nat} {s₀ : State} (s : State) (hm : Sub alt_dropPre μ)
    (hk : Alters μ s₀ s) : Alters μ s₀ (State.dropPre s) := by
  unfold State.dropPre
  try dsimp only
  repeat' first
    | (with_reducible first | assumption | apply alters_coilRelease | apply alters_nowConnected | apply alters_ite)
    | exact sub_trans (by decide +kernel) hm
    | split

/-- What `State.closingEval` may alter. -/
def alt_closingEval : Nat :=
    alt_failClosing ||| alt_contactorFault ||| alt_coilEnergise ||| alt_setPrtState ||| alt_onProt ||| alt_closeMain
    ||| alt_preCheck ||| alt_dropPre ||| alt_endOverlap

theorem alters_closingEval {μ : Nat} {s₀ : State} (s : State) (hm : Sub alt_closingEval μ)
    (hk : Alters μ s₀ s) : Alters μ s₀ (State.closingEval s) := by
  unfold State.closingEval
  try dsimp only
  repeat' first
    | intro _
    | (with_reducible first | assumption | apply alters_failClosing | apply alters_contactorFault | apply alters_coilEnergise)
    | (with_reducible first | apply alters_setPrtState | apply alters_onProt | apply alters_closeMain | apply alters_preCheck)
    | (with_reducible first | apply alters_dropPre | apply alters_endOverlap | apply alters_ite | apply alters_foldl)
    | exact sub_trans (by decide +kernel) hm
    | split

/-- What `State.keepDeadlines` may alter. -/
def alt_keepDeadlines : Nat := alt_onProt

theorem alters_keepDeadlines {μ : Nat} {s₀ : State} (s : State) (hm : Sub alt_keepDeadlines μ)
    (hk : Alters μ s₀ s) : Alters μ s₀ (State.keepDeadlines s) := by
  unfold State.keepDeadlines
  try dsimp only
  repeat' first
    | (with_reducible first | assumption | apply alters_onProt)
    | exact sub_trans (by decide +kernel) hm
    | split

/-- What `State.pathEval` may alter. -/
def alt_pathEval : Nat := alt_keepDeadlines ||| alt_onProt ||| alt_showTargets ||| alt_showPath

theorem alters_pathEval {μ : Nat} {s₀ : State} (s : State) (hm : Sub alt_pathEval μ)
    (hk : Alters μ s₀ s) : Alters μ s₀ (State.pathEval s) := by
  unfold State.pathEval
  try dsimp only
  repeat' first
    | (with_reducible first | assumption | apply alters_keepDeadlines | apply alters_onProt | apply alters_showTargets)
    | (with_reducible first | apply alters_showPath | apply alters_ite)
    | exact sub_trans (by decide +kernel) hm
    | split

/-- What `State.requestEval` may alter. -/
def alt_requestEval : Nat := alt_onProt

theorem alters_requestEval {μ : Nat} {s₀ : State} (s : State) (hm : Sub alt_requestEval μ)
    (hk : Alters μ s₀ s) : Alters μ s₀ (State.requestEval s) := by
  unfold State.requestEval
  try dsimp only
  repeat' first
    | (with_reducible first | assumption | apply alters_onProt | apply alters_ite)
    | exact sub_trans (by decide +kernel) hm
    | split

/-- What `State.orderlyEval` may alter. -/
def alt_orderlyEval : Nat := alt_onProt ||| alt_startOpening

theorem alters_orderlyEval {μ : Nat} {s₀ : State} (s : State) (hm : Sub alt_orderlyEval μ)
    (hk : Alters μ s₀ s) : Alters μ s₀ (State.orderlyEval s) := by
  unfold State.orderlyEval
  try dsimp only
  repeat' first
    | (with_reducible first | assumption | apply alters_onProt | apply alters_startOpening | apply alters_ite)
    | exact sub_trans (by decide +kernel) hm
    | split

/-- What `State.chargeEval` may alter. -/
def alt_chargeEval : Nat := alt_onProt ||| alt_safetyEval ||| alt_coilRelease

theorem alters_chargeEval {μ : Nat} {s₀ : State} (s : State) (hm : Sub alt_chargeEval μ)
    (hk : Alters μ s₀ s) : Alters μ s₀ (State.chargeEval s) := by
  unfold State.chargeEval
  try dsimp only
  repeat' first
    | (with_reducible first | assumption | apply alters_onProt | apply alters_safetyEval | apply alters_coilRelease)
    | (with_reducible first | apply alters_ite)
    | exact sub_trans (by decide +kernel) hm
    | split

/-- What `State.holdEval` may alter. -/
def alt_holdEval : Nat := alt_onProt

theorem alters_holdEval {μ : Nat} {s₀ : State} (s : State) (hm : Sub alt_holdEval μ)
    (hk : Alters μ s₀ s) : Alters μ s₀ (State.holdEval s) := by
  unfold State.holdEval
  try dsimp only
  repeat' first
    | (with_reducible first | assumption | apply alters_onProt)
    | exact sub_trans (by decide +kernel) hm
    | split

/-- What `State.followCells` may alter. -/
def alt_followCells : Nat := alt_onProt

theorem alters_followCells {μ : Nat} {s₀ : State} (s : State) (hm : Sub alt_followCells μ)
    (hk : Alters μ s₀ s) : Alters μ s₀ (State.followCells s) := by
  unfold State.followCells
  try dsimp only
  repeat' first
    | (with_reducible first | assumption | apply alters_onProt)
    | exact sub_trans (by decide +kernel) hm
    | split

/-- What `State.formConds` may alter. -/
def alt_formConds : Nat := alt_setCond ||| alt_onProt

theorem alters_formConds {μ : Nat} {s₀ : State} (s : State) (groupBreach : Bool) (hm : Sub alt_formConds μ)
    (hk : Alters μ s₀ s) : Alters μ s₀ (State.formConds s groupBreach) := by
  unfold State.formConds
  try dsimp only
  repeat' first
    | (with_reducible first | assumption | apply alters_setCond | apply alters_onProt)
    | exact sub_trans (by decide +kernel) hm
    | split

/-- What `State.condArises` may alter. -/
def alt_condArises : Nat := alt_endWait ||| alt_failClosing ||| alt_pathEval

theorem alters_condArises {μ : Nat} {s₀ : State} (s : State) (before : ℕ) (hm : Sub alt_condArises μ)
    (hk : Alters μ s₀ s) : Alters μ s₀ (State.condArises s before) := by
  unfold State.condArises
  try dsimp only
  repeat' first
    | intro _
    | (with_reducible first | assumption | apply alters_applyIf | apply alters_endWait | apply alters_failClosing)
    | (with_reducible first | apply alters_pathEval)
    | exact sub_trans (by decide +kernel) hm
    | split

/-- What `State.raiseCond` may alter. -/
def alt_raiseCond : Nat := alt_condArises ||| alt_setCond

theorem alters_raiseCond {μ : Nat} {s₀ : State} (s : State) (c : ℕ) (hm : Sub alt_raiseCond μ)
    (hk : Alters μ s₀ s) : Alters μ s₀ (State.raiseCond s c) := by
  unfold State.raiseCond
  try dsimp only
  repeat' first
    | (with_reducible first | assumption | apply alters_condArises | apply alters_setCond)
    | exact sub_trans (by decide +kernel) hm
    | split

/-- What `State.protEval` may alter. -/
def alt_protEval : Nat :=
    alt_condArises ||| alt_formConds ||| alt_followCells ||| alt_chargeEval ||| alt_orderlyEval ||| alt_pathEval |||
    alt_requestEval ||| alt_holdEval ||| alt_closingEval

theorem alters_protEval {μ : Nat} {s₀ : State} (s : State) (groupBreach : Bool) (hm : Sub alt_protEval μ)
    (hk : Alters μ s₀ s) : Alters μ s₀ (State.protEval s groupBreach) := by
  unfold State.protEval
  try dsimp only
  repeat' first
    | (with_reducible first | assumption | apply alters_condArises | apply alters_formConds | apply alters_followCells)
    | (with_reducible first | apply alters_chargeEval | apply alters_orderlyEval | apply alters_pathEval | apply alters_requestEval)
    | (with_reducible first | apply alters_holdEval | apply alters_closingEval)
    | exact sub_trans (by decide +kernel) hm
    | split

/-- What `State.allOpen` may alter. -/
def alt_allOpen : Nat := setMask F.PRT_IFLAG_OPENED ||| alt_endDisconnect ||| alt_onProt

theorem alters_allOpen {μ : Nat} {s₀ : State} (s : State) (hm : Sub alt_allOpen μ)
    (hk : Alters μ s₀ s) : Alters μ s₀ (State.allOpen s) := by
  unfold State.allOpen
  try dsimp only
  repeat' first
    | intro _
    | (with_reducible first | assumption | apply alters_endDisconnect | apply alters_applyIf | apply alters_flag | apply alters_onProt)
    | (with_reducible first | apply alters_ite)
    | exact sub_trans (by decide +kernel) hm
    | split

/-- What `State.prtTrip` may alter. -/
def alt_prtTrip : Nat :=
    setMask F.PRT_LAST_FRAME ||| setMask F.PRT_LAST_PATH ||| setMask F.PRT_LAST_COND ||| setMask F.PRT_LAST_UNPROVEN
    ||| setMask F.PRT_LAST_UNDERLOAD ||| setMask F.KRG_STAT_GRANTED ||| alt_endWait ||| alt_setCond |||
    alt_preFailed ||| alt_showLowSides ||| alt_allCoilsOff ||| alt_onProt ||| alt_allOpen ||| alt_showTargets |||
    alt_showPath ||| alt_setPrtState

theorem alters_prtTrip {μ : Nat} {s₀ : State} (s : State) (hm : Sub alt_prtTrip μ)
    (hk : Alters μ s₀ s) : Alters μ s₀ (State.prtTrip s) := by
  unfold State.prtTrip
  try dsimp only
  repeat' first
    | intro _
    | (with_reducible first | assumption | apply alters_endWait | apply alters_setCond | apply alters_applyIf | apply alters_preFailed)
    | (with_reducible first | apply alters_showLowSides | apply alters_allCoilsOff | apply alters_onProt | apply alters_set)
    | (with_reducible first | apply alters_setOn | apply alters_allOpen | apply alters_showTargets | apply alters_showPath)
    | (with_reducible first | apply alters_setPrtState)
    | exact sub_trans (by decide +kernel) hm
    | split

/-- What `State.tripDone` may alter. -/
def alt_tripDone : Nat := alt_allOpen ||| alt_showTargets ||| alt_showPath ||| alt_endDisconnect ||| alt_setPrtState

theorem alters_tripDone {μ : Nat} {s₀ : State} (s : State) (hm : Sub alt_tripDone μ)
    (hk : Alters μ s₀ s) : Alters μ s₀ (State.tripDone s) := by
  unfold State.tripDone
  try dsimp only
  repeat' first
    | (with_reducible first | assumption | apply alters_allOpen | apply alters_showTargets | apply alters_showPath)
    | (with_reducible first | apply alters_endDisconnect | apply alters_setPrtState | apply alters_ite)
    | exact sub_trans (by decide +kernel) hm
    | split

/-- What `State.prtRelease` may alter. -/
def alt_prtRelease : Nat := alt_tripDone ||| alt_showLowSides ||| alt_setCond

theorem alters_prtRelease {μ : Nat} {s₀ : State} (s : State) (hm : Sub alt_prtRelease μ)
    (hk : Alters μ s₀ s) : Alters μ s₀ (State.prtRelease s) := by
  unfold State.prtRelease
  try dsimp only
  repeat' first
    | (with_reducible first | assumption | apply alters_tripDone | apply alters_showLowSides | apply alters_setCond)
    | exact sub_trans (by decide +kernel) hm
    | split

/-- What `State.afterOpen` may alter. -/
def alt_afterOpen : Nat :=
    setMask F.PRT_LAST_FRAME ||| alt_onProt ||| alt_openNext ||| alt_tripDone ||| alt_endOverlap

theorem alters_afterOpen {μ : Nat} {s₀ : State} (s : State) (m : ℕ) (hm : Sub alt_afterOpen μ)
    (hk : Alters μ s₀ s) : Alters μ s₀ (State.afterOpen s m) := by
  unfold State.afterOpen
  try dsimp only
  repeat' first
    | intro _
    | (with_reducible first | assumption | apply alters_onProt | apply alters_applyIf | apply alters_set | apply alters_openNext)
    | (with_reducible first | apply alters_tripDone | apply alters_endOverlap | apply alters_ite)
    | exact sub_trans (by decide +kernel) hm
    | split

/-- What `State.afterClose` may alter. -/
def alt_afterClose : Nat := alt_onProt ||| alt_nowConnected

theorem alters_afterClose {μ : Nat} {s₀ : State} (s : State) (m : ℕ) (hm : Sub alt_afterClose μ)
    (hk : Alters μ s₀ s) : Alters μ s₀ (State.afterClose s m) := by
  unfold State.afterClose
  try dsimp only
  repeat' first
    | (with_reducible first | assumption | apply alters_onProt | apply alters_nowConnected | apply alters_ite)
    | exact sub_trans (by decide +kernel) hm
    | split

/-- What `State.closedAgain` may alter. -/
def alt_closedAgain : Nat := alt_onProt

theorem alters_closedAgain {μ : Nat} {s₀ : State} (s : State) (m : ℕ) (hm : Sub alt_closedAgain μ)
    (hk : Alters μ s₀ s) : Alters μ s₀ (State.closedAgain s m) := by
  unfold State.closedAgain
  try dsimp only
  repeat' first
    | (with_reducible first | assumption | apply alters_onProt)
    | exact sub_trans (by decide +kernel) hm
    | split

/-- What `State.openedInTime` may alter. -/
def alt_openedInTime : Nat := alt_onProt

theorem alters_openedInTime {μ : Nat} {s₀ : State} (s : State) (m : ℕ) (hm : Sub alt_openedInTime μ)
    (hk : Alters μ s₀ s) : Alters μ s₀ (State.openedInTime s m) := by
  unfold State.openedInTime
  try dsimp only
  repeat' first
    | (with_reducible first | assumption | apply alters_onProt)
    | exact sub_trans (by decide +kernel) hm
    | split

/-- What `execAuxChange` may alter. -/
def alt_execAuxChange : Nat :=
    arrayMask F.PRT_COIL_AUX ||| setMask F.PRT_STAT_AUX ||| setMask F.PRT_IFLAG_CHG ||| setMask F.PRT_PSTAT_CHARGING
    ||| alt_afterClose ||| alt_closedAgain ||| alt_contactorFault ||| alt_failClosing ||| alt_afterOpen |||
    alt_openedInTime ||| alt_safetyEval

theorem alters_execAuxChange {μ : Nat} {s₀ : State} (m : ℕ) (closed : Bool) (s : State) (hm : Sub alt_execAuxChange μ)
    (hk : Alters μ s₀ s) : AltersTo μ s₀ (execAuxChange m closed s) := by
  unfold execAuxChange
  try dsimp only
  repeat' first
    | intro _
    | (with_reducible first | assumption | apply alters_setOn | apply alters_set | apply alters_applyIf | apply alters_flag)
    | (with_reducible first | apply alters_afterClose | apply alters_closedAgain | apply alters_contactorFault | apply alters_failClosing)
    | (with_reducible first | apply alters_afterOpen | apply alters_openedInTime | apply alters_safetyEval | apply alters_next)
    | (with_reducible first | apply alters_ite | apply altersTo_ite)
    | exact sub_trans (by decide +kernel) hm
    | (with_reducible refine sub_chain (setMask_at _ _) ?_; (try simp only [arrayMask_on]); first | assumption | exact sub_trans (by decide +kernel) hm)
    | split

/-- What `execAuxCloseTimeout` may alter. -/
def alt_execAuxCloseTimeout : Nat :=
    partNow ||| alt_afterClose ||| alt_contactorFault ||| alt_safetyEval ||| alt_failClosing

theorem alters_execAuxCloseTimeout {μ : Nat} {s₀ : State} (m : ℕ) (s : State) (hm : Sub alt_execAuxCloseTimeout μ)
    (hk : Alters μ s₀ s) : AltersTo μ s₀ (execAuxCloseTimeout m s) := by
  unfold execAuxCloseTimeout
  try dsimp only
  repeat' first
    | intro _
    | (with_reducible first | assumption | apply alters_advanceTo | apply alters_afterClose | apply alters_contactorFault)
    | (with_reducible first | apply alters_safetyEval | apply alters_applyIf | apply alters_failClosing | apply alters_next)
    | (with_reducible first | apply altersTo_ite)
    | exact sub_trans (by decide +kernel) hm
    | split

/-- What `execAuxOpenTimeout` may alter. -/
def alt_execAuxOpenTimeout : Nat := partNow ||| alt_safetyEval ||| alt_afterOpen ||| alt_weldContact ||| alt_onProt

theorem alters_execAuxOpenTimeout {μ : Nat} {s₀ : State} (m : ℕ) (s : State) (hm : Sub alt_execAuxOpenTimeout μ)
    (hk : Alters μ s₀ s) : AltersTo μ s₀ (execAuxOpenTimeout m s) := by
  unfold execAuxOpenTimeout
  try dsimp only
  repeat' first
    | intro _
    | (with_reducible first | assumption | apply alters_advanceTo | apply alters_safetyEval | apply alters_afterOpen)
    | (with_reducible first | apply alters_applyIf | apply alters_weldContact | apply alters_onProt | apply alters_next)
    | exact sub_trans (by decide +kernel) hm
    | split

/-- What `execPullInEnd` may alter. -/
def alt_execPullInEnd : Nat := partNow ||| alt_onProt

theorem alters_execPullInEnd {μ : Nat} {s₀ : State} (m : ℕ) (s : State) (hm : Sub alt_execPullInEnd μ)
    (hk : Alters μ s₀ s) : AltersTo μ s₀ (execPullInEnd m s) := by
  unfold execPullInEnd
  try dsimp only
  repeat' first
    | (with_reducible first | assumption | apply alters_onProt | apply alters_advanceTo | apply alters_next | apply altersTo_ite)
    | exact sub_trans (by decide +kernel) hm
    | split

/-- What `State.faultOff` may alter. -/
def alt_faultOff : Nat := alt_contactorFault ||| alt_safetyEval ||| alt_failClosing

theorem alters_faultOff {μ : Nat} {s₀ : State} (s : State) (m : ℕ) (hm : Sub alt_faultOff μ)
    (hk : Alters μ s₀ s) : Alters μ s₀ (State.faultOff s m) := by
  unfold State.faultOff
  try dsimp only
  repeat' first
    | intro _
    | (with_reducible first | assumption | apply alters_contactorFault | apply alters_safetyEval | apply alters_applyIf)
    | (with_reducible first | apply alters_failClosing)
    | exact sub_trans (by decide +kernel) hm
    | split

/-- What `execCoilOvercurrent` may alter. -/
def alt_execCoilOvercurrent : Nat := alt_faultOff

theorem alters_execCoilOvercurrent {μ : Nat} {s₀ : State} (m : ℕ) (s : State) (hm : Sub alt_execCoilOvercurrent μ)
    (hk : Alters μ s₀ s) : AltersTo μ s₀ (execCoilOvercurrent m s) := by
  unfold execCoilOvercurrent
  try dsimp only
  repeat' first
    | (with_reducible first | assumption | apply alters_faultOff | apply alters_next | apply altersTo_ite)
    | exact sub_trans (by decide +kernel) hm
    | split

/-- What `execCoilCurrentFault` may alter. -/
def alt_execCoilCurrentFault : Nat := alt_faultOff

theorem alters_execCoilCurrentFault {μ : Nat} {s₀ : State} (m : ℕ) (s : State) (hm : Sub alt_execCoilCurrentFault μ)
    (hk : Alters μ s₀ s) : AltersTo μ s₀ (execCoilCurrentFault m s) := by
  unfold execCoilCurrentFault
  try dsimp only
  repeat' first
    | (with_reducible first | assumption | apply alters_faultOff | apply alters_next | apply altersTo_ite)
    | exact sub_trans (by decide +kernel) hm
    | split

/-- What `execPrechargeTimeout` may alter. -/
def alt_execPrechargeTimeout : Nat := partNow ||| alt_failClosing

theorem alters_execPrechargeTimeout {μ : Nat} {s₀ : State} (s : State) (hm : Sub alt_execPrechargeTimeout μ)
    (hk : Alters μ s₀ s) : AltersTo μ s₀ (execPrechargeTimeout s) := by
  unfold execPrechargeTimeout
  try dsimp only
  repeat' first
    | (with_reducible first | assumption | apply alters_failClosing | apply alters_advanceTo | apply alters_next | apply altersTo_ite)
    | exact sub_trans (by decide +kernel) hm
    | split

/-- What `execPrechargeOverlapEnd` may alter. -/
def alt_execPrechargeOverlapEnd : Nat := partNow ||| alt_dropPre

theorem alters_execPrechargeOverlapEnd {μ : Nat} {s₀ : State} (s : State) (hm : Sub alt_execPrechargeOverlapEnd μ)
    (hk : Alters μ s₀ s) : AltersTo μ s₀ (execPrechargeOverlapEnd s) := by
  unfold execPrechargeOverlapEnd
  try dsimp only
  repeat' first
    | (with_reducible first | assumption | apply alters_dropPre | apply alters_advanceTo | apply alters_next | apply altersTo_ite)
    | exact sub_trans (by decide +kernel) hm
    | split

/-- What `execMatchTimeout` may alter. -/
def alt_execMatchTimeout : Nat := partNow ||| alt_failClosing

theorem alters_execMatchTimeout {μ : Nat} {s₀ : State} (s : State) (hm : Sub alt_execMatchTimeout μ)
    (hk : Alters μ s₀ s) : AltersTo μ s₀ (execMatchTimeout s) := by
  unfold execMatchTimeout
  try dsimp only
  repeat' first
    | (with_reducible first | assumption | apply alters_failClosing | apply alters_advanceTo | apply alters_next | apply altersTo_ite)
    | exact sub_trans (by decide +kernel) hm
    | split

/-- What `execPrechargeCoolEnd` may alter. -/
def alt_execPrechargeCoolEnd : Nat := setMask F.PRT_STAT_COOL ||| partNow ||| alt_onProt

theorem alters_execPrechargeCoolEnd {μ : Nat} {s₀ : State} (s : State) (hm : Sub alt_execPrechargeCoolEnd μ)
    (hk : Alters μ s₀ s) : AltersTo μ s₀ (execPrechargeCoolEnd s) := by
  unfold execPrechargeCoolEnd
  try dsimp only
  repeat' first
    | (with_reducible first | assumption | apply alters_setOn | apply alters_onProt | apply alters_advanceTo | apply alters_next)
    | exact sub_trans (by decide +kernel) hm
    | split

/-- What `execBadChannelsOpen` may alter. -/
def alt_execBadChannelsOpen : Nat := partNow ||| alt_startOpening

theorem alters_execBadChannelsOpen {μ : Nat} {s₀ : State} (s : State) (hm : Sub alt_execBadChannelsOpen μ)
    (hk : Alters μ s₀ s) : AltersTo μ s₀ (execBadChannelsOpen s) := by
  unfold execBadChannelsOpen
  try dsimp only
  repeat' first
    | (with_reducible first | assumption | apply alters_startOpening | apply alters_advanceTo | apply alters_next)
    | (with_reducible first | apply altersTo_ite)
    | exact sub_trans (by decide +kernel) hm
    | split

/-- What `execSuspectTimeExpiry` may alter. -/
def alt_execSuspectTimeExpiry : Nat := partNow ||| alt_raiseCond

theorem alters_execSuspectTimeExpiry {μ : Nat} {s₀ : State} (s : State) (hm : Sub alt_execSuspectTimeExpiry μ)
    (hk : Alters μ s₀ s) : AltersTo μ s₀ (execSuspectTimeExpiry s) := by
  unfold execSuspectTimeExpiry
  try dsimp only
  repeat' first
    | (with_reducible first | assumption | apply alters_raiseCond | apply alters_advanceTo | apply alters_next | apply altersTo_ite)
    | exact sub_trans (by decide +kernel) hm
    | split

/-- What `execDegradedCellExpiry` may alter. -/
def alt_execDegradedCellExpiry : Nat := partNow ||| alt_raiseCond

theorem alters_execDegradedCellExpiry {μ : Nat} {s₀ : State} (k : ℕ) (i : ℕ) (s : State) (hm : Sub alt_execDegradedCellExpiry μ)
    (hk : Alters μ s₀ s) : AltersTo μ s₀ (execDegradedCellExpiry k i s) := by
  unfold execDegradedCellExpiry
  try dsimp only
  repeat' first
    | (with_reducible first | assumption | apply alters_raiseCond | apply alters_advanceTo | apply alters_next | apply altersTo_ite)
    | exact sub_trans (by decide +kernel) hm
    | split

/-- What `execCellTempExpiry` may alter. -/
def alt_execCellTempExpiry : Nat := partNow ||| alt_raiseCond

theorem alters_execCellTempExpiry {μ : Nat} {s₀ : State} (k : ℕ) (i : ℕ) (s : State) (hm : Sub alt_execCellTempExpiry μ)
    (hk : Alters μ s₀ s) : AltersTo μ s₀ (execCellTempExpiry k i s) := by
  unfold execCellTempExpiry
  try dsimp only
  repeat' first
    | (with_reducible first | assumption | apply alters_raiseCond | apply alters_advanceTo | apply alters_next | apply altersTo_ite)
    | exact sub_trans (by decide +kernel) hm
    | split

/-- What `execChargeOffTimeout` may alter. -/
def alt_execChargeOffTimeout : Nat := partNow ||| alt_safetyEval ||| alt_onProt ||| alt_coilRelease

theorem alters_execChargeOffTimeout {μ : Nat} {s₀ : State} (s : State) (hm : Sub alt_execChargeOffTimeout μ)
    (hk : Alters μ s₀ s) : AltersTo μ s₀ (execChargeOffTimeout s) := by
  unfold execChargeOffTimeout
  try dsimp only
  repeat' first
    | (with_reducible first | assumption | apply alters_safetyEval | apply alters_onProt | apply alters_coilRelease)
    | (with_reducible first | apply alters_advanceTo | apply alters_next)
    | exact sub_trans (by decide +kernel) hm
    | split

/-- What `execShoreDetChange` may alter. -/
def alt_execShoreDetChange : Nat := partPins ||| alt_showRoles ||| alt_safetyEval ||| alt_coilRelease

theorem alters_execShoreDetChange {μ : Nat} {s₀ : State} (level : Bool) (s : State) (hm : Sub alt_execShoreDetChange μ)
    (hk : Alters μ s₀ s) : AltersTo μ s₀ (execShoreDetChange level s) := by
  unfold execShoreDetChange
  try dsimp only
  repeat' first
    | intro _
    | simp only [alters_pins (sub_bit hm (i := 5) (by decide +kernel))]
    | (with_reducible first | assumption | apply alters_applyIf | apply alters_showRoles | apply alters_safetyEval)
    | (with_reducible first | apply alters_coilRelease | apply alters_next | apply altersTo_ite)
    | exact sub_trans (by decide +kernel) hm
    | split

/-- What `State.writePrtCmd` may alter. -/
def alt_writePrtCmd : Nat :=
    setMask F.PRT_STAT_FAULT ||| alt_connect ||| alt_endDisconnect ||| alt_raiseCond ||| alt_safetyEval |||
    alt_coilEnergise ||| alt_showTargets ||| alt_onProt ||| alt_setCond

theorem alters_writePrtCmd {μ : Nat} {s₀ : State} (s : State) (v : Word) (hm : Sub alt_writePrtCmd μ)
    (hk : Alters μ s₀ s) : Alters μ s₀ (State.writePrtCmd s v).1 := by
  unfold State.writePrtCmd
  try dsimp only
  repeat' first
    | (with_reducible first | assumption | apply alters_connect | apply alters_endDisconnect | apply alters_raiseCond)
    | (with_reducible first | apply alters_safetyEval | apply alters_coilEnergise | apply alters_showTargets | apply alters_onProt)
    | (with_reducible first | apply alters_set | apply alters_setCond)
    | exact sub_trans (by decide +kernel) hm
    | split

/-- What `State.writeWeldclr` may alter. -/
def alt_writeWeldclr : Nat := setMask F.PRT_STAT_WELD ||| alt_showTargets ||| alt_setPrtState ||| alt_endDisconnect

theorem alters_writeWeldclr {μ : Nat} {s₀ : State} (s : State) (v : Word) (hm : Sub alt_writeWeldclr μ)
    (hk : Alters μ s₀ s) : Alters μ s₀ (State.writeWeldclr s v).1 := by
  unfold State.writeWeldclr
  try dsimp only
  repeat' first
    | (with_reducible first | assumption | apply alters_set | apply alters_showTargets | apply alters_setPrtState)
    | (with_reducible first | apply alters_endDisconnect | apply alters_ite)
    | exact sub_trans (by decide +kernel) hm
    | split

/-- What `execLimitFrame` may alter. -/
def alt_execLimitFrame : Nat := partNow ||| alt_onProt ||| alt_sendCan

theorem alters_execLimitFrame {μ : Nat} {s₀ : State} (s : State) (hm : Sub alt_execLimitFrame μ)
    (hk : Alters μ s₀ s) : AltersTo μ s₀ (execLimitFrame s) := by
  unfold execLimitFrame
  try dsimp only
  repeat' first
    | (with_reducible first | assumption | apply alters_advanceTo | apply alters_onProt | apply alters_sendCan | apply alters_next)
    | (with_reducible first | apply alters_ite | apply altersTo_ite)
    | exact sub_trans (by decide +kernel) hm
    | split

/-- What `State.prtFrame` may alter. -/
def alt_prtFrame : Nat := arrayMask F.PRT_COIL_MA ||| setMask F.PRT_STAT_CHGOK ||| alt_coilRelease

theorem alters_prtFrame {μ : Nat} {s₀ : State} (s : State) (coils : List ℕ) (hm : Sub alt_prtFrame μ)
    (hk : Alters μ s₀ s) : Alters μ s₀ (State.prtFrame s coils) := by
  unfold State.prtFrame
  try dsimp only
  repeat' first
    | intro _
    | (with_reducible first | assumption | apply alters_set | apply alters_setOn | apply alters_coilRelease | apply alters_ite)
    | (with_reducible first | apply alters_foldl)
    | exact sub_trans (by decide +kernel) hm
    | (with_reducible refine sub_chain (setMask_at _ _) ?_; (try simp only [arrayMask_on]); first | assumption | exact sub_trans (by decide +kernel) hm)
    | split

/-! ### Sage.lean -/

/-- What `State.onSage` may alter. -/
def alt_onSage : Nat := partSage

theorem alters_onSage {μ : Nat} {s₀ : State} (s : State) (f : SageSt → SageSt) (hm : Sub alt_onSage μ)
    (hk : Alters μ s₀ s) : Alters μ s₀ (State.onSage s f) := by
  unfold State.onSage
  try dsimp only
  repeat' first
    | simp only [alters_sage (sub_bit hm (i := 26) (by decide +kernel))]
    | (with_reducible first | assumption)
    | exact sub_trans (by decide +kernel) hm
    | split

/-- What `State.setCell` may alter. -/
def alt_setCell : Nat := alt_onSage

theorem alters_setCell {μ : Nat} {s₀ : State} (s : State) (key : ℕ) (c : CellSage) (hm : Sub alt_setCell μ)
    (hk : Alters μ s₀ s) : Alters μ s₀ (State.setCell s key c) := by
  unfold State.setCell
  try dsimp only
  repeat' first
    | (with_reducible first | assumption | apply alters_onSage)
    | exact sub_trans (by decide +kernel) hm
    | split

theorem alters_fit {μ : Nat} {s₀ : State} (s : State) (f : Fld) (v : ℕ) (h_f : Sub (setMask f) μ)
    (hk : Alters μ s₀ s) : Alters μ s₀ (State.fit s f v) := by
  unfold State.fit
  try dsimp only
  repeat' first
    | (with_reducible first | assumption | apply alters_set)
    | split

/-- What `State.writebackDue` may alter. -/
def alt_writebackDue : Nat := setMask F.SGE_WBSTAT_DEFER ||| alt_onSage

theorem alters_writebackDue {μ : Nat} {s₀ : State} (s : State) (hm : Sub alt_writebackDue μ)
    (hk : Alters μ s₀ s) : Alters μ s₀ (State.writebackDue s) := by
  unfold State.writebackDue
  try dsimp only
  repeat' first
    | intro _
    | (with_reducible first | assumption | apply alters_onSage | apply alters_applyIf | apply alters_setOn)
    | exact sub_trans (by decide +kernel) hm
    | split

/-- What `State.showThroughput` may alter. -/
def alt_showThroughput : Nat := setMask F.SGE_AHCHG_AH ||| setMask F.SGE_AHDIS_AH ||| setMask F.SGE_CYCLES_EFC

theorem alters_showThroughput {μ : Nat} {s₀ : State} (s : State) (hm : Sub alt_showThroughput μ)
    (hk : Alters μ s₀ s) : Alters μ s₀ (State.showThroughput s) := by
  unfold State.showThroughput
  try dsimp only
  repeat' first
    | (with_reducible first | assumption | apply alters_fit)
    | exact sub_trans (by decide +kernel) hm
    | split

theorem alters_setNoCell {μ : Nat} {s₀ : State} (s : State) (f : Fld) (h_f : Sub (setMask f) μ)
    (hk : Alters μ s₀ s) : Alters μ s₀ (State.setNoCell s f) := by
  unfold State.setNoCell
  try dsimp only
  repeat' first
    | (with_reducible first | assumption | apply alters_set)
    | split

/-- What `State.showSoc` may alter. -/
def alt_showSoc : Nat :=
    setMask F.SGE_LIMCELL_CHG ||| setMask F.SGE_LIMCELL_DIS ||| setMask F.SGE_QREM_QCHG ||| setMask F.SGE_QREM_QDIS |||
    setMask F.SGE_SOCRAW_MAX ||| setMask F.SGE_SOCRAW_MIN ||| setMask F.SGE_SOC_SOC ||| setMask F.SGE_ZERO_APPLIED |||
    setMask F.SGE_ZERO_TARGET

theorem alters_showSoc {μ : Nat} {s₀ : State} (s : State) (outs : List CellOut) (hm : Sub alt_showSoc μ)
    (hk : Alters μ s₀ s) : Alters μ s₀ (State.showSoc s outs) := by
  unfold State.showSoc
  try dsimp only
  repeat' first
    | intro _
    | simp only [List.foldl_cons, List.foldl_nil]
    | (with_reducible first | assumption | apply alters_fit | apply alters_set | apply alters_setNoCell | apply alters_ite)
    | with_reducible apply alters_foldl
    | exact sub_trans (by decide +kernel) hm
    | split

/-- What `State.showCapacity` may alter. -/
def alt_showCapacity : Nat :=
    setMask F.SGE_CAP_UNLRN ||| setMask F.SGE_CAP_CAP ||| setMask F.SGE_DIS_DIS ||| setMask F.SGE_DIS_CELL

theorem alters_showCapacity {μ : Nat} {s₀ : State} (s : State) (used : List CellOut) (hm : Sub alt_showCapacity μ)
    (hk : Alters μ s₀ s) : Alters μ s₀ (State.showCapacity s used) := by
  unfold State.showCapacity
  try dsimp only
  repeat' first
    | (with_reducible first | assumption | apply alters_set | apply alters_fit | apply alters_setNoCell)
    | exact sub_trans (by decide +kernel) hm
    | split

/-- What `State.countThroughput` may alter. -/
def alt_countThroughput : Nat := alt_onSage

theorem alters_countThroughput {μ : Nat} {s₀ : State} (s : State) (m : Option SageInput) (x : SageInput) (hm : Sub alt_countThroughput μ)
    (hk : Alters μ s₀ s) : Alters μ s₀ (State.countThroughput s m x) := by
  unfold State.countThroughput
  try dsimp only
  repeat' first
    | (with_reducible first | assumption | apply alters_onSage)
    | exact sub_trans (by decide +kernel) hm
    | split

/-- What `State.restEvents` may alter. -/
def alt_restEvents : Nat :=
    setMask F.SGE_LRNLAST_LEARNED ||| setMask F.SGE_RESTT_POINTS ||| setMask F.SGE_IFLAG_REST ||| setMask
    F.SGE_LRNLAST_NOTLRN ||| setMask F.SGE_IFLAG_LEARN ||| setMask F.SGE_IFLAG_LRNREJ ||| partRsm

theorem alters_restEvents {μ : Nat} {s₀ : State} (s : State) (outs : List CellOut) (hm : Sub alt_restEvents μ)
    (hk : Alters μ s₀ s) : Alters μ s₀ (State.restEvents s outs) := by
  unfold State.restEvents
  try dsimp only
  repeat' first
    | intro _
    | (with_reducible first | assumption | apply alters_set | apply alters_count | apply alters_flag | apply alters_applyIf)
    | (with_reducible first | apply alters_flagEvent | apply alters_foldl)
    | exact sub_trans (by decide +kernel) hm
    | split

/-- What `State.sageSoc` may alter. -/
def alt_sageSoc : Nat :=
    pubMask 0xd ||| pubMask 0xc ||| setMask F.SGE_IFLAG_WARN ||| setMask F.SGE_SOC_W ||| setMask F.SGE_SOC_SEQ |||
    setMask F.SGE_SOC_REST ||| setMask F.SGE_SOC_E ||| setMask F.SGE_SOC_S ||| setMask F.SGE_PSTAT_REST ||| setMask
    F.SGE_RESTT_TIMER ||| alt_countThroughput ||| alt_onSage ||| alt_restEvents ||| alt_showCapacity ||| alt_showSoc
    ||| alt_showThroughput

theorem alters_sageSoc {μ : Nat} {s₀ : State} (s : State) (x : SageInput) (hm : Sub alt_sageSoc μ)
    (hk : Alters μ s₀ s) : Alters μ s₀ (State.sageSoc s x) := by
  unfold State.sageSoc
  try dsimp only
  repeat' first
    | intro _
    | (with_reducible first | assumption | apply alters_countThroughput | apply alters_onSage | apply alters_applyIf)
    | (with_reducible first | apply alters_restEvents | apply alters_flag | apply alters_showCapacity | apply alters_showSoc)
    | (with_reducible first | apply alters_setOn | apply alters_set | apply alters_showThroughput | apply alters_publish)
    | exact sub_trans (by decide +kernel) hm
    | split

/-! ### SageLimits.lean -/

/-- What `State.decideZ` may alter. -/
def alt_decideZ : Nat :=
    setMask F.LIM_ZSTAT_REJECT ||| setMask F.LIM_IFLAG_ZREJ ||| setMask F.LIM_ZSTAT_ACCEPT ||| partRsm |||
    alt_setCell

theorem alters_decideZ {μ : Nat} {s₀ : State} (s : State) (key : ℕ) (t : ℤ) (r : ℚ) (diff : Bool) (meas : ℚ) (hm : Sub alt_decideZ μ)
    (hk : Alters μ s₀ s) : Alters μ s₀ (State.decideZ s key t r diff meas).1 := by
  unfold State.decideZ
  try dsimp only
  repeat' first
    | intro _
    | (with_reducible first | assumption | apply alters_count | apply alters_setCell | apply alters_applyIf | apply alters_flagEvent)
    | exact sub_trans (by decide +kernel) hm
    | split

/-- What `State.takePoint` may alter. -/
def alt_takePoint : Nat := alt_decideZ ||| alt_setCell

theorem alters_takePoint {μ : Nat} {s₀ : State} (s : State) (z : ZStep) (x : SageInput) (late : Bool)
    (hm : Sub alt_takePoint μ) (hk : Alters μ s₀ s) : Alters μ s₀ (State.takePoint s z x late).1 := by
  unfold State.takePoint
  refine alters_foldl_fst (fun a e ha => ?_) hk
  dsimp only
  split
  · exact alters_setCell _ _ _ (sub_trans (by decide +kernel) hm)
      (alters_decideZ _ _ _ _ _ _ (sub_trans (by decide +kernel) hm) ha)
  · exact ha

/-- What `State.endStep` may alter. -/
def alt_endStep : Nat := alt_onSage

theorem alters_endStep {μ : Nat} {s₀ : State} (s : State) (hm : Sub alt_endStep μ)
    (hk : Alters μ s₀ s) : Alters μ s₀ (State.endStep s) := by
  unfold State.endStep
  try dsimp only
  repeat' first
    | (with_reducible first | assumption | apply alters_onSage)
    | exact sub_trans (by decide +kernel) hm
    | split

/-- What `State.sageStepSearch` may alter. -/
def alt_sageStepSearch : Nat := alt_takePoint ||| alt_onSage ||| alt_endStep

theorem alters_sageStepSearch {μ : Nat} {s₀ : State} (s : State) (x : SageInput) (before : List (ℕ × ℚ)) (hm : Sub alt_sageStepSearch μ)
    (hk : Alters μ s₀ s) : Alters μ s₀ (State.sageStepSearch s x before) := by
  unfold State.sageStepSearch
  try dsimp only
  repeat' first
    | (with_reducible first | assumption | apply alters_takePoint | apply alters_onSage | apply alters_endStep | apply alters_ite)
    | exact sub_trans (by decide +kernel) hm
    | split

/-- What `State.rewriteDefaults` may alter. -/
def alt_rewriteDefaults : Nat := alt_onSage

theorem alters_rewriteDefaults {μ : Nat} {s₀ : State} (s : State) (hm : Sub alt_rewriteDefaults μ)
    (hk : Alters μ s₀ s) : Alters μ s₀ (State.rewriteDefaults s) := by
  unfold State.rewriteDefaults
  try dsimp only
  repeat' first
    | (with_reducible first | assumption | apply alters_onSage)
    | exact sub_trans (by decide +kernel) hm
    | split

/-- The words of the published limits. -/
def limitMask : Nat := limitWords.foldl (fun m f => m ||| setMask f.1 ||| setMask f.2) 0

/-- What `State.showLimits` may alter. -/
def alt_showLimits : Nat :=
    limitMask ||| setMask F.LIM_IFLAG_RED ||| setMask F.LIM_PSTAT_REDUCED ||| setMask F.LIM_PSTAT_ZDEF ||| setMask
    F.LIM_STAT_FACTOR ||| setMask F.LIM_STAT_RED ||| setMask F.LIM_STAT_S ||| setMask F.LIM_STAT_UNQ ||| setMask
    F.LIM_STAT_ZDEF ||| alt_onSage

theorem sub_limitWords {f : Fld × Fld} {i : Nat} (h : limitWords[i]? = some f) :
    Sub (setMask f.1) limitMask ∧ Sub (setMask f.2) limitMask := by
  have hf := List.mem_of_getElem? h
  have all : ∀ f ∈ limitWords, setMask f.1 &&& limitMask = setMask f.1 ∧ setMask f.2 &&& limitMask = setMask f.2 := by
    decide +kernel
  exact all f hf

theorem alters_showLimits {μ : Nat} {s₀ : State} (s : State) (x : SageInput) (hm : Sub alt_showLimits μ) (hk : Alters μ s₀ s) :
    Alters μ s₀ (State.showLimits s x) := by
  have hp : Sub limitMask μ := sub_trans (by decide +kernel) hm
  unfold State.showLimits
  dsimp only
  split
  · simp only [limitWords, List.foldl_cons, List.foldl_nil]
    repeat' first
      | with_reducible assumption
      | with_reducible apply alters_setNoCell
      | exact sub_trans (by decide +kernel) hm
  · repeat' first
      | intro _
      | (with_reducible first | assumption | apply alters_onSage | apply alters_applyIf | apply alters_flag | apply alters_set | apply alters_setOn)
      | exact sub_trans (by decide +kernel) hm
      | with_reducible apply alters_foldl
      | split
    · rename_i h _
      exact alters_fit _ _ _ (sub_trans (sub_limitWords h).2 hp) (alters_set (sub_trans (sub_limitWords h).1 hp) ‹_›)

/-- What `State.showOver` may alter. -/
def alt_showOver : Nat :=
    setMask F.LIM_PSTAT_OVER ||| setMask F.LIM_STAT_OVCHG ||| setMask F.LIM_STAT_OVDIS ||| setMask F.LIM_IFLAG_OVER

theorem alters_showOver {μ : Nat} {s₀ : State} (s : State) (x : SageInput) (hm : Sub alt_showOver μ)
    (hk : Alters μ s₀ s) : Alters μ s₀ (State.showOver s x) := by
  unfold State.showOver
  try dsimp only
  repeat' first
    | intro _
    | (with_reducible first | assumption | apply alters_setOn | apply alters_set | apply alters_applyIf | apply alters_flag)
    | exact sub_trans (by decide +kernel) hm
    | split

/-- What `State.showWarnings` may alter. -/
def alt_showWarnings : Nat :=
    setMask F.LIM_VEXT_VMIN ||| setMask F.LIM_VEXT_VMAX ||| setMask F.LIM_STAT_EOC ||| setMask F.LIM_STAT_EOD |||
    setMask F.LIM_IFLAG_EOD ||| setMask F.LIM_IFLAG_EOC ||| partRsm ||| alt_onSage

theorem alters_showWarnings {μ : Nat} {s₀ : State} (s : State) (x : SageInput) (hm : Sub alt_showWarnings μ)
    (hk : Alters μ s₀ s) : Alters μ s₀ (State.showWarnings s x) := by
  unfold State.showWarnings
  try dsimp only
  repeat' first
    | intro _
    | (with_reducible first | assumption | apply alters_setInt | apply alters_onSage | apply alters_set | apply alters_flagEvent)
    | (with_reducible first | apply alters_setNoCell | apply alters_ite | apply alters_foldl)
    | exact sub_trans (by decide +kernel) hm
    | (simp only [setMask_on, setMask_bit, setMask_chanBit, pubMask_on]; exact sub_trans (by decide +kernel) hm)
    | split

/-- What `State.showNodes` may alter. -/
def alt_showNodes : Nat := alt_onSage

theorem alters_showNodes {μ : Nat} {s₀ : State} (s : State) (hm : Sub alt_showNodes μ)
    (hk : Alters μ s₀ s) : Alters μ s₀ (State.showNodes s) := by
  unfold State.showNodes
  try dsimp only
  repeat' first
    | (with_reducible first | assumption | apply alters_onSage)
    | exact sub_trans (by decide +kernel) hm
    | split

/-- What `execSageStep` may alter. -/
def alt_execSageStep : Nat :=
    pubMask 0xe ||| setMask F.LIM_STAT_SEQ ||| alt_sageSoc ||| alt_sageStepSearch ||| alt_showLimits |||
    alt_showNodes ||| alt_showWarnings ||| alt_showOver ||| alt_onSage ||| alt_writebackDue

theorem alters_execSageStep {μ : Nat} {s₀ : State} (s : State) (hm : Sub alt_execSageStep μ)
    (hk : Alters μ s₀ s) : AltersTo μ s₀ (execSageStep s) := by
  unfold execSageStep
  try dsimp only
  repeat' first
    | intro _
    | (with_reducible first | assumption | apply alters_sageSoc | apply alters_sageStepSearch | apply alters_showLimits)
    | (with_reducible first | apply alters_set | apply alters_publish | apply alters_showNodes | apply alters_showWarnings)
    | (with_reducible first | apply alters_showOver | apply alters_onSage | apply alters_applyIf | apply alters_writebackDue)
    | (with_reducible first | apply alters_next | apply altersTo_ite)
    | exact sub_trans (by decide +kernel) hm
    | split

/-! ### SageStore.lean -/

/-- What `execWritebackPeriod` may alter. -/
def alt_execWritebackPeriod : Nat := partNow ||| alt_writebackDue

theorem alters_execWritebackPeriod {μ : Nat} {s₀ : State} (s : State) (hm : Sub alt_execWritebackPeriod μ)
    (hk : Alters μ s₀ s) : AltersTo μ s₀ (execWritebackPeriod s) := by
  unfold execWritebackPeriod
  try dsimp only
  repeat' first
    | (with_reducible first | assumption | apply alters_writebackDue | apply alters_advanceTo | apply alters_next)
    | (with_reducible first | apply altersTo_ite)
    | exact sub_trans (by decide +kernel) hm
    | split

/-- What `State.writeSgeCmd` may alter. -/
def alt_writeSgeCmd : Nat := alt_writebackDue

theorem alters_writeSgeCmd {μ : Nat} {s₀ : State} (s : State) (v : Word) (hm : Sub alt_writeSgeCmd μ)
    (hk : Alters μ s₀ s) : Alters μ s₀ (State.writeSgeCmd s v).1 := by
  unfold State.writeSgeCmd
  try dsimp only
  repeat' first
    | (with_reducible first | assumption | apply alters_writebackDue)
    | exact sub_trans (by decide +kernel) hm
    | split

/-- What `execWritebackStart` may alter. -/
def alt_execWritebackStart : Nat :=
    setMask F.SGE_WBSTAT_DEFER ||| setMask F.SGE_PSTAT_WBBUSY ||| partNow ||| alt_acquireLease ||| alt_onSage

theorem alters_execWritebackStart {μ : Nat} {s₀ : State} (s : State) (hm : Sub alt_execWritebackStart μ)
    (hk : Alters μ s₀ s) : AltersTo μ s₀ (execWritebackStart s) := by
  unfold execWritebackStart
  try dsimp only
  repeat' first
    | (with_reducible first | assumption | apply alters_advanceTo | apply alters_acquireLease | apply alters_onSage)
    | (with_reducible first | apply alters_setOn | apply alters_next | apply altersTo_ite)
    | exact sub_trans (by decide +kernel) hm
    | split

/-- What `State.writebackStored` may alter. -/
def alt_writebackStored : Nat :=
    setMask F.SGE_IFLAG_WBDONE ||| setMask F.SGE_PSTAT_WBBUSY ||| setMask F.SGE_WBSTAT_LAST ||| setMask
    F.SGE_WBSTAT_SEQ ||| alt_onSage ||| alt_newImage

theorem alters_writebackStored {μ : Nat} {s₀ : State} (s : State) (c : SageCopy) (hm : Sub alt_writebackStored μ)
    (hk : Alters μ s₀ s) : Alters μ s₀ (State.writebackStored s c) := by
  unfold State.writebackStored
  try dsimp only
  repeat' first
    | (with_reducible first | assumption | apply alters_onSage | apply alters_flag | apply alters_newImage | apply alters_setOn)
    | (with_reducible first | apply alters_set)
    | exact sub_trans (by decide +kernel) hm
    | split

/-- What `State.writebackBroken` may alter. -/
def alt_writebackBroken : Nat := setMask F.SGE_PSTAT_WBBUSY ||| alt_onSage

theorem alters_writebackBroken {μ : Nat} {s₀ : State} (s : State) (hm : Sub alt_writebackBroken μ)
    (hk : Alters μ s₀ s) : Alters μ s₀ (State.writebackBroken s) := by
  unfold State.writebackBroken
  try dsimp only
  repeat' first
    | (with_reducible first | assumption | apply alters_onSage | apply alters_setOn | apply alters_ite)
    | exact sub_trans (by decide +kernel) hm
    | split

/-- What `execWritebackDone` may alter. -/
def alt_execWritebackDone : Nat := alt_acquireLease ||| alt_releasePort ||| alt_writebackStored

theorem alters_execWritebackDone {μ : Nat} {s₀ : State} (s : State) (hm : Sub alt_execWritebackDone μ)
    (hk : Alters μ s₀ s) : AltersTo μ s₀ (execWritebackDone s) := by
  unfold execWritebackDone
  try dsimp only
  repeat' first
    | (with_reducible first | assumption | apply alters_acquireLease | apply alters_releasePort | apply alters_writebackStored)
    | (with_reducible first | apply alters_next | apply alters_ite | apply altersTo_ite)
    | exact sub_trans (by decide +kernel) hm
    | split

/-- What `State.forgetCells` may alter. -/
def alt_forgetCells : Nat := alt_onSage

theorem alters_forgetCells {μ : Nat} {s₀ : State} (s : State) (hm : Sub alt_forgetCells μ)
    (hk : Alters μ s₀ s) : Alters μ s₀ (State.forgetCells s) := by
  unfold State.forgetCells
  try dsimp only
  repeat' first
    | (with_reducible first | assumption | apply alters_onSage)
    | exact sub_trans (by decide +kernel) hm
    | split

/-- What `State.takeCopy` may alter. -/
def alt_takeCopy : Nat := alt_onSage

theorem alters_takeCopy {μ : Nat} {s₀ : State} (s : State) (c : SageCopy) (hm : Sub alt_takeCopy μ)
    (hk : Alters μ s₀ s) : Alters μ s₀ (State.takeCopy s c) := by
  unfold State.takeCopy
  try dsimp only
  repeat' first
    | (with_reducible first | assumption | apply alters_onSage)
    | exact sub_trans (by decide +kernel) hm
    | split

/-- What `State.sageStart` may alter. -/
def alt_sageStart : Nat :=
    setMask F.SGE_WBSTAT_SEQ ||| setMask F.SGE_WBSTAT_CHOSEN ||| setMask F.SGE_WBSTAT_START ||| setMask
    F.SGE_IFLAG_WBFAIL ||| partRsm ||| alt_onSage ||| alt_takeCopy ||| alt_forgetCells ||| alt_showNodes |||
    alt_showThroughput

theorem alters_sageStart {μ : Nat} {s₀ : State} (s : State) (okA : Bool) (okB : Bool) (wake : Bool) (hm : Sub alt_sageStart μ)
    (hk : Alters μ s₀ s) : Alters μ s₀ (State.sageStart s okA okB wake) := by
  unfold State.sageStart
  try dsimp only
  repeat' first
    | (with_reducible first | assumption | apply alters_onSage | apply alters_set | apply alters_takeCopy | apply alters_forgetCells)
    | (with_reducible first | apply alters_setOn | apply alters_showNodes | apply alters_showThroughput | apply alters_flagEvent)
    | (with_reducible first | apply alters_listed | apply alters_ite)
    | exact sub_trans (by decide +kernel) hm
    | split

/-- What `State.writeTblSel` may alter. -/
def alt_writeTblSel : Nat := setMask F.SGE_TBLSEL_ENTRY ||| setMask F.SGE_TBLSEL_TABLE

theorem alters_writeTblSel {μ : Nat} {s₀ : State} (s : State) (v : Word) (hm : Sub alt_writeTblSel μ)
    (hk : Alters μ s₀ s) : Alters μ s₀ (State.writeTblSel s v).1 := by
  unfold State.writeTblSel
  try dsimp only
  repeat' first
    | (with_reducible first | assumption | apply alters_set)
    | exact sub_trans (by decide +kernel) hm
    | split

/-- What `State.advanceEntry` may alter. -/
def alt_advanceEntry : Nat := setMask F.SGE_TBLSEL_ENTRY

theorem alters_advanceEntry {μ : Nat} {s₀ : State} (s : State) (hm : Sub alt_advanceEntry μ)
    (hk : Alters μ s₀ s) : Alters μ s₀ (State.advanceEntry s) := by
  unfold State.advanceEntry
  try dsimp only
  repeat' first
    | (with_reducible first | assumption | apply alters_set)
    | exact sub_trans (by decide +kernel) hm
    | split

/-- What `State.writeTblData` may alter. -/
def alt_writeTblData : Nat := alt_advanceEntry ||| alt_onSage

theorem alters_writeTblData {μ : Nat} {s₀ : State} (s : State) (v : Word) (hm : Sub alt_writeTblData μ)
    (hk : Alters μ s₀ s) : Alters μ s₀ (State.writeTblData s v) := by
  unfold State.writeTblData
  try dsimp only
  repeat' first
    | (with_reducible first | assumption | apply alters_advanceEntry | apply alters_onSage)
    | exact sub_trans (by decide +kernel) hm
    | split

/-- What `State.writeTblCmd` may alter. -/
def alt_writeTblCmd : Nat := setMask F.SGE_IFLAG_TABLE ||| alt_onSage ||| alt_journalWrite

theorem alters_writeTblCmd {μ : Nat} {s₀ : State} (s : State) (v : Word) (hm : Sub alt_writeTblCmd μ)
    (hk : Alters μ s₀ s) : Alters μ s₀ (State.writeTblCmd s v).1 := by
  unfold State.writeTblCmd
  try dsimp only
  repeat' first
    | (with_reducible first | assumption | apply alters_onSage | apply alters_flag | apply alters_journalWrite)
    | exact sub_trans (by decide +kernel) hm
    | split

/-- What `State.resetCell` may alter. -/
def alt_resetCell : Nat := alt_setCell

theorem alters_resetCell {μ : Nat} {s₀ : State} (s : State) (key : ℕ) (hm : Sub alt_resetCell μ)
    (hk : Alters μ s₀ s) : Alters μ s₀ (State.resetCell s key) := by
  unfold State.resetCell
  try dsimp only
  repeat' first
    | (with_reducible first | assumption | apply alters_setCell)
    | exact sub_trans (by decide +kernel) hm
    | split

/-- What `State.writeSgcReset` may alter. -/
def alt_writeSgcReset : Nat := alt_resetCell

theorem alters_writeSgcReset {μ : Nat} {s₀ : State} (s : State) (l : Link) (v : Word) (hm : Sub alt_writeSgcReset μ)
    (hk : Alters μ s₀ s) : Alters μ s₀ (State.writeSgcReset s l v).1 := by
  unfold State.writeSgcReset
  try dsimp only
  repeat' first
    | intro _
    | (with_reducible first | assumption | apply alters_resetCell | apply alters_foldl)
    | exact sub_trans (by decide +kernel) hm
    | split

/-- What `State.writeSgcBank` may alter. -/
def alt_writeSgcBank : Nat := alt_onLink

theorem alters_writeSgcBank {μ : Nat} {s₀ : State} (s : State) (l : Link) (v : Word) (hm : Sub alt_writeSgcBank μ)
    (hk : Alters μ s₀ s) : Alters μ s₀ (State.writeSgcBank s l v).1 := by
  unfold State.writeSgcBank
  try dsimp only
  repeat' first
    | (with_reducible first | assumption | apply alters_onLink)
    | exact sub_trans (by decide +kernel) hm
    | split

/-- What `State.writeZsel` may alter. -/
def alt_writeZsel : Nat := alt_onLink

theorem alters_writeZsel {μ : Nat} {s₀ : State} (s : State) (l : Link) (v : Word) (hm : Sub alt_writeZsel μ)
    (hk : Alters μ s₀ s) : Alters μ s₀ (State.writeZsel s l v).1 := by
  unfold State.writeZsel
  try dsimp only
  repeat' first
    | (with_reducible first | assumption | apply alters_onLink)
    | exact sub_trans (by decide +kernel) hm
    | split

end Sys2Proof.Machine
end

