-- ==== Sys2Proof/Laws/Alters3.lean ====
section
/-! SUPPORT. What the operations of LoadSwitch.lean, Ring.lean, Auth.lean, Commit.lean, FaultLine.lean, Diagnostics.lean may alter (see `Alters`). -/
namespace Sys2Proof.Machine
open Host
set_option linter.unreachableTactic false
set_option linter.unusedTactic false
set_option linter.unusedSimpArgs false
set_option linter.unusedVariables false
set_option Elab.async false

/-! ### LoadSwitch.lean -/

/-- What `State.onLs` may alter. -/
def alt_onLs : Nat := partLs

theorem alters_onLs {μ : Nat} {s₀ : State} (s : State) (f : LoadSt → LoadSt) (hm : Sub alt_onLs μ)
    (hk : Alters μ s₀ s) : Alters μ s₀ (State.onLs s f) := by
  unfold State.onLs
  try dsimp only
  repeat' first
    | simp only [alters_ls (sub_bit hm (i := 25) (by decide +kernel))]
    | (with_reducible first | assumption)
    | exact sub_trans (by decide +kernel) hm
    | split

/-- What `State.showChans` may alter. -/
def alt_showChans : Nat :=
    setMask F.LSA_PSTAT_LATCHED ||| setMask F.LSA_PSTAT_ON ||| setMask F.LSW_PSTAT_ZONEHOT ||| setMask
    F.LSW_PSTAT_ANYON

theorem alters_showChans {μ : Nat} {s₀ : State} (s : State) (hm : Sub alt_showChans μ)
    (hk : Alters μ s₀ s) : Alters μ s₀ (State.showChans s) := by
  unfold State.showChans
  try dsimp only
  repeat' first
    | intro _
    | (with_reducible first | assumption | apply alters_setOn | apply alters_foldl)
    | exact sub_trans (by decide +kernel) hm
    | (simp only [setMask_on, setMask_bit, setMask_chanBit, pubMask_on]; exact sub_trans (by decide +kernel) hm)
    | split

/-- What `State.onChan` may alter. -/
def alt_onChan : Nat := alt_showChans ||| alt_onLs

theorem alters_onChan {μ : Nat} {s₀ : State} (s : State) (n : ℕ) (f : ChanSt → ChanSt) (hm : Sub alt_onChan μ)
    (hk : Alters μ s₀ s) : Alters μ s₀ (State.onChan s n f) := by
  unfold State.onChan
  try dsimp only
  repeat' first
    | (with_reducible first | assumption | apply alters_showChans | apply alters_onLs)
    | exact sub_trans (by decide +kernel) hm
    | split

/-- What `State.dropOpenLoad` may alter. -/
def alt_dropOpenLoad : Nat := setMask F.LSA_IFLAG_OLCHG ||| alt_onChan

theorem alters_dropOpenLoad {μ : Nat} {s₀ : State} (s : State) (n : ℕ) (hm : Sub alt_dropOpenLoad μ)
    (hk : Alters μ s₀ s) : Alters μ s₀ (State.dropOpenLoad s n) := by
  unfold State.dropOpenLoad
  try dsimp only
  repeat' first
    | (with_reducible first | assumption | apply alters_flag | apply alters_onChan | apply alters_ite)
    | exact sub_trans (by decide +kernel) hm
    | (simp only [setMask_on, setMask_bit, setMask_chanBit, pubMask_on]; exact sub_trans (by decide +kernel) hm)
    | split

/-- What `State.chanTurnOn` may alter. -/
def alt_chanTurnOn : Nat := alt_onChan ||| alt_dropOpenLoad

theorem alters_chanTurnOn {μ : Nat} {s₀ : State} (s : State) (n : ℕ) (hm : Sub alt_chanTurnOn μ)
    (hk : Alters μ s₀ s) : Alters μ s₀ (State.chanTurnOn s n) := by
  unfold State.chanTurnOn
  try dsimp only
  repeat' first
    | (with_reducible first | assumption | apply alters_onChan | apply alters_dropOpenLoad)
    | exact sub_trans (by decide +kernel) hm
    | split

/-- What `State.lowerLimit` may alter. -/
def alt_lowerLimit : Nat := alt_onChan

theorem alters_lowerLimit {μ : Nat} {s₀ : State} (s : State) (before : State) (n : ℕ) (hm : Sub alt_lowerLimit μ)
    (hk : Alters μ s₀ s) : Alters μ s₀ (State.lowerLimit s before n) := by
  unfold State.lowerLimit
  try dsimp only
  repeat' first
    | (with_reducible first | assumption | apply alters_onChan | apply alters_ite)
    | exact sub_trans (by decide +kernel) hm
    | split

/-- What `State.chanTurnOff` may alter. -/
def alt_chanTurnOff : Nat := alt_onChan

theorem alters_chanTurnOff {μ : Nat} {s₀ : State} (s : State) (n : ℕ) (hm : Sub alt_chanTurnOff μ)
    (hk : Alters μ s₀ s) : Alters μ s₀ (State.chanTurnOff s n) := by
  unfold State.chanTurnOff
  try dsimp only
  repeat' first
    | (with_reducible first | assumption | apply alters_onChan | apply alters_ite)
    | exact sub_trans (by decide +kernel) hm
    | split

/-- What `State.chanLatch` may alter. -/
def alt_chanLatch : Nat := setMask F.LSA_IFLAG_LATCH ||| partRsm ||| alt_onChan

theorem alters_chanLatch {μ : Nat} {s₀ : State} (s : State) (n : ℕ) (hm : Sub alt_chanLatch μ)
    (hk : Alters μ s₀ s) : Alters μ s₀ (State.chanLatch s n) := by
  unfold State.chanLatch
  try dsimp only
  repeat' first
    | (with_reducible first | assumption | apply alters_flagEvent | apply alters_onChan | apply alters_ite)
    | exact sub_trans (by decide +kernel) hm
    | (simp only [setMask_on, setMask_bit, setMask_chanBit, pubMask_on]; exact sub_trans (by decide +kernel) hm)
    | split

/-- What `State.chanFault` may alter. -/
def alt_chanFault : Nat := setMask F.LSA_IFLAG_FAULT ||| partRsm ||| alt_onChan ||| alt_chanLatch

theorem alters_chanFault {μ : Nat} {s₀ : State} (s : State) (n : ℕ) (cause : ℕ) (hm : Sub alt_chanFault μ)
    (hk : Alters μ s₀ s) : Alters μ s₀ (State.chanFault s n cause) := by
  unfold State.chanFault
  try dsimp only
  repeat' first
    | (with_reducible first | assumption | apply alters_flagEvent | apply alters_onChan | apply alters_chanLatch | apply alters_ite)
    | exact sub_trans (by decide +kernel) hm
    | (simp only [setMask_on, setMask_bit, setMask_chanBit, pubMask_on]; exact sub_trans (by decide +kernel) hm)
    | split

/-- What `State.loadsOff` may alter. -/
def alt_loadsOff : Nat := setMask F.LSA_OUT_ON ||| alt_chanTurnOff

theorem alters_loadsOff {μ : Nat} {s₀ : State} (s : State) (hm : Sub alt_loadsOff μ)
    (hk : Alters μ s₀ s) : Alters μ s₀ (State.loadsOff s) := by
  unfold State.loadsOff
  try dsimp only
  repeat' first
    | intro _
    | (with_reducible first | assumption | apply alters_chanTurnOff | apply alters_set | apply alters_foldl)
    | exact sub_trans (by decide +kernel) hm
    | (simp only [setMask_on, setMask_bit, setMask_chanBit, pubMask_on]; exact sub_trans (by decide +kernel) hm)
    | split

/-- What `State.writeLsOut` may alter. -/
def alt_writeLsOut : Nat := setMask F.LSA_OUT_ON ||| alt_chanTurnOn ||| alt_chanTurnOff

theorem alters_writeLsOut {μ : Nat} {s₀ : State} (s : State) (i : ℕ) (v : Word) (hm : Sub alt_writeLsOut μ)
    (hk : Alters μ s₀ s) : Alters μ s₀ (State.writeLsOut s i v).1 := by
  unfold State.writeLsOut
  try dsimp only
  repeat' first
    | intro _
    | (with_reducible first | assumption | apply alters_set | apply alters_chanTurnOn | apply alters_chanTurnOff | apply alters_ite)
    | (with_reducible first | apply alters_foldl)
    | exact sub_trans (by decide +kernel) hm
    | (simp only [setMask_on, setMask_bit, setMask_chanBit, pubMask_on]; exact sub_trans (by decide +kernel) hm)
    | split

/-- What `State.clearChan` may alter. -/
def alt_clearChan : Nat := setMask F.LSA_OUT_ON ||| alt_onChan

theorem alters_clearChan {μ : Nat} {s₀ : State} (s : State) (n : ℕ) (hm : Sub alt_clearChan μ)
    (hk : Alters μ s₀ s) : Alters μ s₀ (State.clearChan s n) := by
  unfold State.clearChan
  try dsimp only
  repeat' first
    | (with_reducible first | assumption | apply alters_setOn | apply alters_onChan)
    | exact sub_trans (by decide +kernel) hm
    | (simp only [setMask_on, setMask_bit, setMask_chanBit, pubMask_on]; exact sub_trans (by decide +kernel) hm)
    | split

/-- What `State.writeLsClr` may alter. -/
def alt_writeLsClr : Nat := alt_clearChan

theorem alters_writeLsClr {μ : Nat} {s₀ : State} (s : State) (i : ℕ) (v : Word) (hm : Sub alt_writeLsClr μ)
    (hk : Alters μ s₀ s) : Alters μ s₀ (State.writeLsClr s i v).1 := by
  unfold State.writeLsClr
  try dsimp only
  repeat' first
    | intro _
    | (with_reducible first | assumption | apply alters_clearChan | apply alters_foldl)
    | exact sub_trans (by decide +kernel) hm
    | split

/-- What `execInrushEnd` may alter. -/
def alt_execInrushEnd : Nat := partNow ||| alt_onChan

theorem alters_execInrushEnd {μ : Nat} {s₀ : State} (n : ℕ) (s : State) (hm : Sub alt_execInrushEnd μ)
    (hk : Alters μ s₀ s) : AltersTo μ s₀ (execInrushEnd n s) := by
  unfold execInrushEnd
  try dsimp only
  repeat' first
    | (with_reducible first | assumption | apply alters_onChan | apply alters_advanceTo | apply alters_next | apply altersTo_ite)
    | exact sub_trans (by decide +kernel) hm
    | split

/-- What `execLimitTime` may alter. -/
def alt_execLimitTime : Nat := partNow ||| alt_chanFault

theorem alters_execLimitTime {μ : Nat} {s₀ : State} (x : InLimit) (s : State) (hm : Sub alt_execLimitTime μ)
    (hk : Alters μ s₀ s) : AltersTo μ s₀ (execLimitTime x s) := by
  unfold execLimitTime
  try dsimp only
  repeat' first
    | (with_reducible first | assumption | apply alters_chanFault | apply alters_advanceTo | apply alters_next | apply altersTo_ite)
    | exact sub_trans (by decide +kernel) hm
    | split

/-- What `execOpenLoadChange` may alter. -/
def alt_execOpenLoadChange : Nat := setMask F.LSA_IFLAG_OLCHG ||| partNow ||| alt_onChan

theorem alters_execOpenLoadChange {μ : Nat} {s₀ : State} (n : ℕ) (above : Bool) (s : State) (hm : Sub alt_execOpenLoadChange μ)
    (hk : Alters μ s₀ s) : AltersTo μ s₀ (execOpenLoadChange n above s) := by
  unfold execOpenLoadChange
  try dsimp only
  repeat' first
    | (with_reducible first | assumption | apply alters_flag | apply alters_onChan | apply alters_advanceTo | apply alters_next)
    | (with_reducible first | apply altersTo_ite)
    | exact sub_trans (by decide +kernel) hm
    | (simp only [setMask_on, setMask_bit, setMask_chanBit, pubMask_on]; exact sub_trans (by decide +kernel) hm)
    | split

/-- What `execZoneHot` may alter. -/
def alt_execZoneHot : Nat := setMask F.LSW_IFLAG_ZONE ||| alt_onLs ||| alt_showChans ||| alt_chanFault

theorem alters_execZoneHot {μ : Nat} {s₀ : State} (z : ℕ) (even : ℕ) (odd : ℕ) (s : State) (hm : Sub alt_execZoneHot μ)
    (hk : Alters μ s₀ s) : AltersTo μ s₀ (execZoneHot z even odd s) := by
  unfold execZoneHot
  try dsimp only
  repeat' first
    | (with_reducible first | assumption | apply alters_flag | apply alters_onLs | apply alters_showChans | apply alters_chanFault)
    | (with_reducible first | apply alters_next | apply altersTo_ite)
    | exact sub_trans (by decide +kernel) hm
    | split

/-- What `execZoneSecondCheck` may alter. -/
def alt_execZoneSecondCheck : Nat := setMask F.LSW_IFLAG_ZONE2 ||| partNow ||| alt_onLs ||| alt_chanFault

theorem alters_execZoneSecondCheck {μ : Nat} {s₀ : State} (z : ℕ) (still : Bool) (s : State) (hm : Sub alt_execZoneSecondCheck μ)
    (hk : Alters μ s₀ s) : AltersTo μ s₀ (execZoneSecondCheck z still s) := by
  unfold execZoneSecondCheck
  try dsimp only
  repeat' first
    | (with_reducible first | assumption | apply alters_onLs | apply alters_advanceTo | apply alters_flag | apply alters_chanFault)
    | (with_reducible first | apply alters_next | apply altersTo_ite)
    | exact sub_trans (by decide +kernel) hm
    | split

/-- What `execZoneCool` may alter. -/
def alt_execZoneCool : Nat := alt_showChans ||| alt_onLs

theorem alters_execZoneCool {μ : Nat} {s₀ : State} (z : ℕ) (s : State) (hm : Sub alt_execZoneCool μ)
    (hk : Alters μ s₀ s) : AltersTo μ s₀ (execZoneCool z s) := by
  unfold execZoneCool
  try dsimp only
  repeat' first
    | (with_reducible first | assumption | apply alters_showChans | apply alters_onLs | apply alters_next | apply altersTo_ite)
    | exact sub_trans (by decide +kernel) hm
    | split

/-- What `State.sensorFault` may alter. -/
def alt_sensorFault : Nat := setMask F.LSW_IFLAG_SENSOR ||| partRsm ||| alt_onLs ||| alt_chanLatch ||| alt_onChan

theorem alters_sensorFault {μ : Nat} {s₀ : State} (s : State) (z : ℕ) (hm : Sub alt_sensorFault μ)
    (hk : Alters μ s₀ s) : Alters μ s₀ (State.sensorFault s z) := by
  unfold State.sensorFault
  try dsimp only
  repeat' first
    | intro _
    | (with_reducible first | assumption | apply alters_flagEvent | apply alters_onLs | apply alters_chanLatch | apply alters_onChan)
    | (with_reducible first | apply alters_foldl)
    | exact sub_trans (by decide +kernel) hm
    | split

/-- What `execZoneSensorFault` may alter. -/
def alt_execZoneSensorFault : Nat := alt_sensorFault

theorem alters_execZoneSensorFault {μ : Nat} {s₀ : State} (z : ℕ) (s : State) (hm : Sub alt_execZoneSensorFault μ)
    (hk : Alters μ s₀ s) : AltersTo μ s₀ (execZoneSensorFault z s) := by
  unfold execZoneSensorFault
  try dsimp only
  repeat' first
    | (with_reducible first | assumption | apply alters_sensorFault | apply alters_next | apply altersTo_ite)
    | exact sub_trans (by decide +kernel) hm
    | split

/-- What `execShed` may alter. -/
def alt_execShed : Nat := setMask F.LSW_IFLAG_SHED ||| partRsm ||| alt_onLs ||| alt_onChan ||| alt_chanLatch

theorem alters_execShed {μ : Nat} {s₀ : State} (s : State) (hm : Sub alt_execShed μ)
    (hk : Alters μ s₀ s) : AltersTo μ s₀ (execShed s) := by
  unfold execShed
  try dsimp only
  repeat' first
    | (with_reducible first | assumption | apply alters_onLs | apply alters_flagEvent | apply alters_onChan | apply alters_chanLatch)
    | (with_reducible first | apply alters_next | apply altersTo_ite)
    | exact sub_trans (by decide +kernel) hm
    | split

/-- What `State.endWaiting` may alter. -/
def alt_endWaiting : Nat := alt_onChan ||| alt_chanLatch

theorem alters_endWaiting {μ : Nat} {s₀ : State} (s : State) (n : ℕ) (hm : Sub alt_endWaiting μ)
    (hk : Alters μ s₀ s) : Alters μ s₀ (State.endWaiting s n) := by
  unfold State.endWaiting
  try dsimp only
  repeat' first
    | (with_reducible first | assumption | apply alters_onChan | apply alters_chanLatch | apply alters_ite)
    | exact sub_trans (by decide +kernel) hm
    | split

/-- What `execLsRestart` may alter. -/
def alt_execLsRestart : Nat := partTmp ||| alt_endWaiting ||| alt_onChan ||| alt_chanTurnOn

theorem alters_execLsRestart {μ : Nat} {s₀ : State} (n : ℕ) (s : State) (hm : Sub alt_execLsRestart μ)
    (hk : Alters μ s₀ s) : AltersTo μ s₀ (execLsRestart n s) := by
  unfold execLsRestart
  try dsimp only
  repeat' first
    | simp only [alters_tmp (sub_bit hm (i := 24) (by decide +kernel))]
    | (with_reducible first | assumption | apply alters_endWaiting | apply alters_onChan | apply alters_chanTurnOn)
    | (with_reducible first | apply alters_next | apply altersTo_ite)
    | exact sub_trans (by decide +kernel) hm
    | split

/-- What `execLeftReload` may alter. -/
def alt_execLeftReload : Nat := partNow ||| alt_onChan

theorem alters_execLeftReload {μ : Nat} {s₀ : State} (n : ℕ) (s : State) (hm : Sub alt_execLeftReload μ)
    (hk : Alters μ s₀ s) : AltersTo μ s₀ (execLeftReload n s) := by
  unfold execLeftReload
  try dsimp only
  repeat' first
    | (with_reducible first | assumption | apply alters_advanceTo | apply alters_onChan | apply alters_next | apply altersTo_ite)
    | exact sub_trans (by decide +kernel) hm
    | split

/-- What `State.loadsAtRun` may alter. -/
def alt_loadsAtRun : Nat := alt_onLs ||| alt_showChans ||| alt_sensorFault

theorem alters_loadsAtRun {μ : Nat} {s₀ : State} (s : State) (zones : List ℕ) (hm : Sub alt_loadsAtRun μ)
    (hk : Alters μ s₀ s) : Alters μ s₀ (State.loadsAtRun s zones) := by
  unfold State.loadsAtRun
  try dsimp only
  repeat' first
    | intro _
    | (with_reducible first | assumption | apply alters_onLs | apply alters_showChans | apply alters_sensorFault | apply alters_foldl)
    | exact sub_trans (by decide +kernel) hm
    | split

/-- What `State.publishLoads` may alter. -/
def alt_publishLoads : Nat :=
    arrayMask F.LSA_ST_STATE ||| arrayMask F.LSW_ZT01_ODD ||| pubMask 0x52 ||| pubMask 0x51 ||| pubMask 0x50 |||
    setMask F.LSW_ITOT_MA ||| setMask F.LSW_ZSTAT_SENSOR ||| setMask F.LSW_ZSTAT_HOT ||| alt_onChan |||
    alt_dropOpenLoad ||| alt_endWaiting ||| alt_onLs

theorem alters_publishLoads {μ : Nat} {s₀ : State} (s : State) (seq : Word) (ma : List ℕ) (peaks : List ℕ) (zones : List ℤ) (hm : Sub alt_publishLoads μ)
    (hk : Alters μ s₀ s) : Alters μ s₀ (State.publishLoads s seq ma peaks zones) := by
  unfold State.publishLoads
  try dsimp only
  repeat' first
    | intro _
    | (with_reducible first | assumption | apply alters_putF | apply alters_onChan | apply alters_dropOpenLoad | apply alters_endWaiting)
    | (with_reducible first | apply alters_put | apply alters_set | apply alters_onLs | apply alters_publish | apply alters_ite)
    | (with_reducible first | apply alters_foldl)
    | exact sub_trans (by decide +kernel) hm
    | (with_reducible refine sub_chain (setMask_at _ _) ?_; (try simp only [arrayMask_on]); first | assumption | exact sub_trans (by decide +kernel) hm)
    | exact sub_chain (setMask_chanField _ _) (sub_trans (by decide +kernel) hm)
    | split

/-! ### Ring.lean -/

/-- What `State.fetchFailed` may alter. -/
def alt_fetchFailed : Nat := setMask F.KRG_IFLAG_MIRFAIL ||| setMask F.KRG_MIRSTAT_FETCH ||| alt_onRing

theorem alters_fetchFailed {μ : Nat} {s₀ : State} (s : State) (hm : Sub alt_fetchFailed μ)
    (hk : Alters μ s₀ s) : Alters μ s₀ (State.fetchFailed s) := by
  unfold State.fetchFailed
  try dsimp only
  repeat' first
    | (with_reducible first | assumption | apply alters_flag | apply alters_set | apply alters_onRing)
    | exact sub_trans (by decide +kernel) hm
    | split

/-- What `State.dropMember` may alter. -/
def alt_dropMember : Nat := setMask F.KRG_IFLAG_MEMBER ||| alt_onRing ||| alt_fetchFailed

theorem alters_dropMember {μ : Nat} {s₀ : State} (s : State) (a : ℕ) (hm : Sub alt_dropMember μ)
    (hk : Alters μ s₀ s) : Alters μ s₀ (State.dropMember s a) := by
  unfold State.dropMember
  try dsimp only
  repeat' first
    | intro _
    | (with_reducible first | assumption | apply alters_flag | apply alters_onRing | apply alters_applyIf | apply alters_fetchFailed)
    | exact sub_trans (by decide +kernel) hm
    | split

/-- What `State.hearHolder` may alter. -/
def alt_hearHolder : Nat := setMask F.KRG_MIRSTAT_SEQ ||| setMask F.KRG_STAT_MIRROK ||| alt_newImage ||| alt_onRing

theorem alters_hearHolder {μ : Nat} {s₀ : State} (s : State) (m : RingMsg) (hm : Sub alt_hearHolder μ)
    (hk : Alters μ s₀ s) : Alters μ s₀ (State.hearHolder s m) := by
  unfold State.hearHolder
  try dsimp only
  repeat' first
    | intro _
    | (with_reducible first | assumption | apply alters_newImage | apply alters_onRing | apply alters_applyIf | apply alters_set)
    | (with_reducible first | apply alters_setOn | apply alters_ite)
    | exact sub_trans (by decide +kernel) hm
    | split

/-- What `State.hearMember` may alter. -/
def alt_hearMember : Nat := setMask F.KRG_IFLAG_MEMBER ||| alt_onRing ||| alt_hearHolder ||| alt_takeGrant

theorem alters_hearMember {μ : Nat} {s₀ : State} (s : State) (m : RingMsg) (hm : Sub alt_hearMember μ)
    (hk : Alters μ s₀ s) : Alters μ s₀ (State.hearMember s m) := by
  unfold State.hearMember
  try dsimp only
  repeat' first
    | intro _
    | (with_reducible first | assumption | apply alters_applyIf | apply alters_flag | apply alters_onRing | apply alters_hearHolder)
    | (with_reducible first | apply alters_takeGrant | apply alters_ite)
    | exact sub_trans (by decide +kernel) hm
    | split

/-- What `State.noteVoice` may alter. -/
def alt_noteVoice : Nat := alt_onRing

theorem alters_noteVoice {μ : Nat} {s₀ : State} (s : State) (m : RingMsg) (hm : Sub alt_noteVoice μ)
    (hk : Alters μ s₀ s) : Alters μ s₀ (State.noteVoice s m) := by
  unfold State.noteVoice
  try dsimp only
  repeat' first
    | (with_reducible first | assumption | apply alters_onRing)
    | exact sub_trans (by decide +kernel) hm
    | split

/-- What `execRingStatusMsg` may alter. -/
def alt_execRingStatusMsg : Nat :=
    setMask F.KRG_STAT_DUPADDR ||| setMask F.KRG_STAT_ISHEAD ||| setMask F.KRG_STAT_HEAD ||| setMask
    F.KRG_IFLAG_DUPADDR ||| partRsm ||| alt_onRing ||| alt_noteVoice ||| alt_dropMember ||| alt_hearMember

theorem alters_execRingStatusMsg {μ : Nat} {s₀ : State} (m : RingMsg) (s : State) (hm : Sub alt_execRingStatusMsg μ)
    (hk : Alters μ s₀ s) : AltersTo μ s₀ (execRingStatusMsg m s) := by
  unfold execRingStatusMsg
  try dsimp only
  repeat' first
    | (with_reducible first | assumption | apply alters_onRing | apply alters_noteVoice | apply alters_setOn | apply alters_set)
    | (with_reducible first | apply alters_flagEvent | apply alters_dropMember | apply alters_hearMember | apply alters_next)
    | (with_reducible first | apply altersTo_ite)
    | exact sub_trans (by decide +kernel) hm
    | split

/-- What `execMemberLost` may alter. -/
def alt_execMemberLost : Nat := partNow ||| alt_dropMember

theorem alters_execMemberLost {μ : Nat} {s₀ : State} (a : ℕ) (s : State) (hm : Sub alt_execMemberLost μ)
    (hk : Alters μ s₀ s) : AltersTo μ s₀ (execMemberLost a s) := by
  unfold execMemberLost
  try dsimp only
  repeat' first
    | (with_reducible first | assumption | apply alters_dropMember | apply alters_advanceTo | apply alters_next)
    | exact sub_trans (by decide +kernel) hm
    | split

/-- What `State.setHead` may alter. -/
def alt_setHead : Nat :=
    setMask F.KRG_STAT_HEAD ||| setMask F.KRG_STAT_ISHEAD ||| setMask F.KRG_IFLAG_HEAD ||| partRsm ||| alt_onRing

theorem alters_setHead {μ : Nat} {s₀ : State} (s : State) (h : Option ℕ) (hm : Sub alt_setHead μ)
    (hk : Alters μ s₀ s) : Alters μ s₀ (State.setHead s h) := by
  unfold State.setHead
  try dsimp only
  repeat' first
    | (with_reducible first | assumption | apply alters_set | apply alters_onRing | apply alters_setOn | apply alters_flagEvent)
    | (with_reducible first | apply alters_ite)
    | exact sub_trans (by decide +kernel) hm
    | split

/-- What `State.decideGrant` may alter. -/
def alt_decideGrant : Nat := alt_onRing

theorem alters_decideGrant {μ : Nat} {s₀ : State} (s : State) (hm : Sub alt_decideGrant μ)
    (hk : Alters μ s₀ s) : Alters μ s₀ (State.decideGrant s) := by
  unfold State.decideGrant
  try dsimp only
  repeat' first
    | (with_reducible first | assumption | apply alters_onRing | apply alters_ite)
    | exact sub_trans (by decide +kernel) hm
    | split

/-- What `State.grants` may alter. -/
def alt_grants : Nat := alt_takeGrant ||| alt_decideGrant ||| alt_onRing

theorem alters_grants {μ : Nat} {s₀ : State} (s : State) (hm : Sub alt_grants μ)
    (hk : Alters μ s₀ s) : Alters μ s₀ (State.grants s) := by
  unfold State.grants
  try dsimp only
  repeat' first
    | (with_reducible first | assumption | apply alters_takeGrant | apply alters_decideGrant | apply alters_onRing)
    | (with_reducible first | apply alters_ite)
    | exact sub_trans (by decide +kernel) hm
    | split

/-- What `execGrantTimeout` may alter. -/
def alt_execGrantTimeout : Nat := partNow ||| alt_endWait

theorem alters_execGrantTimeout {μ : Nat} {s₀ : State} (s : State) (hm : Sub alt_execGrantTimeout μ)
    (hk : Alters μ s₀ s) : AltersTo μ s₀ (execGrantTimeout s) := by
  unfold execGrantTimeout
  try dsimp only
  repeat' first
    | (with_reducible first | assumption | apply alters_endWait | apply alters_advanceTo | apply alters_next)
    | exact sub_trans (by decide +kernel) hm
    | split

/-- What `State.showRing` may alter. -/
def alt_showRing : Nat :=
    setMask F.KRG_MEMBERS_HEALTHY ||| setMask F.KRG_MEMBERS_HEARD ||| setMask F.KRG_CONN_WAITING ||| setMask
    F.KRG_CONN_CONN ||| setMask F.KRG_IFLAG_SPLIT ||| setMask F.KRG_STAT_QUORUM ||| setMask F.KRG_STAT_PORTB |||
    setMask F.KRG_STAT_PORTA ||| setMask F.KRG_SYSSOC_NCONN ||| setMask F.KRG_SYSSOC_SOC ||| setMask F.KRG_SYSDIS_A
    ||| setMask F.KRG_SYSDIS_MEMBER ||| setMask F.KRG_SYSCHG_A ||| setMask F.KRG_SYSCHG_MEMBER ||| alt_onRing

theorem alters_showRing {μ : Nat} {s₀ : State} (s : State) (hm : Sub alt_showRing μ)
    (hk : Alters μ s₀ s) : Alters μ s₀ (State.showRing s) := by
  unfold State.showRing
  try dsimp only
  repeat' first
    | intro _
    | (with_reducible first | assumption | apply alters_set | apply alters_applyIf | apply alters_flag | apply alters_setOn)
    | (with_reducible first | apply alters_setNoCell | apply alters_fit | apply alters_onRing | apply alters_ite)
    | exact sub_trans (by decide +kernel) hm
    | split

/-- What `State.hearSystem` may alter. -/
def alt_hearSystem : Nat := alt_onRing

theorem alters_hearSystem {μ : Nat} {s₀ : State} (s : State) (port : ℕ) (f : CanFrame) (hm : Sub alt_hearSystem μ)
    (hk : Alters μ s₀ s) : Alters μ s₀ (State.hearSystem s port f) := by
  unfold State.hearSystem
  try dsimp only
  repeat' first
    | (with_reducible first | assumption | apply alters_onRing | apply alters_ite)
    | exact sub_trans (by decide +kernel) hm
    | split

/-- What `State.sendSystem` may alter. -/
def alt_sendSystem : Nat := alt_onRing ||| alt_sendCan

theorem alters_sendSystem {μ : Nat} {s₀ : State} (s : State) (hm : Sub alt_sendSystem μ)
    (hk : Alters μ s₀ s) : Alters μ s₀ (State.sendSystem s) := by
  unfold State.sendSystem
  try dsimp only
  repeat' first
    | (with_reducible first | assumption | apply alters_onRing | apply alters_sendCan)
    | exact sub_trans (by decide +kernel) hm
    | split

/-- What `execSystemFrame` may alter. -/
def alt_execSystemFrame : Nat := partNow ||| alt_withSlot ||| alt_onRing ||| alt_sendSystem

theorem alters_execSystemFrame {μ : Nat} {s₀ : State} (s : State) (hm : Sub alt_execSystemFrame μ)
    (hk : Alters μ s₀ s) : AltersTo μ s₀ (execSystemFrame s) := by
  unfold execSystemFrame
  try dsimp only
  repeat' first
    | intro _
    | (with_reducible first | assumption | apply alters_advanceTo | apply alters_withSlot | apply alters_onRing | apply alters_sendSystem)
    | (with_reducible first | apply alters_next | apply alters_ite | apply altersTo_ite)
    | exact sub_trans (by decide +kernel) hm
    | split

/-- What `execRingCycle` may alter. -/
def alt_execRingCycle : Nat :=
    partNow ||| alt_onRing ||| alt_grants ||| alt_showRing ||| alt_setHead ||| alt_sendImage

theorem alters_execRingCycle {μ : Nat} {s₀ : State} (s : State) (hm : Sub alt_execRingCycle μ)
    (hk : Alters μ s₀ s) : AltersTo μ s₀ (execRingCycle s) := by
  unfold execRingCycle
  try dsimp only
  repeat' first
    | intro _
    | (with_reducible first | assumption | apply alters_advanceTo | apply alters_onRing | apply alters_applyIf | apply alters_grants)
    | (with_reducible first | apply alters_showRing | apply alters_setHead | apply alters_sendImage | apply alters_next)
    | (with_reducible first | apply altersTo_ite)
    | exact sub_trans (by decide +kernel) hm
    | split

/-- What `State.leaveRing` may alter. -/
def alt_leaveRing : Nat := alt_onRing

theorem alters_leaveRing {μ : Nat} {s₀ : State} (s : State) (hm : Sub alt_leaveRing μ)
    (hk : Alters μ s₀ s) : Alters μ s₀ (State.leaveRing s) := by
  unfold State.leaveRing
  try dsimp only
  repeat' first
    | (with_reducible first | assumption | apply alters_onRing)
    | exact sub_trans (by decide +kernel) hm
    | split

/-- What `execMirrorReceived` may alter. -/
def alt_execMirrorReceived : Nat :=
    setMask F.KRG_IFLAG_MIRFAIL ||| alt_onRing ||| alt_releasePort ||| alt_acquireLease

theorem alters_execMirrorReceived {μ : Nat} {s₀ : State} (source : ℕ) (serial : ℕ) (seq : ℕ) (image : MirrorImage) (ok : Bool) (s : State) (hm : Sub alt_execMirrorReceived μ)
    (hk : Alters μ s₀ s) : AltersTo μ s₀ (execMirrorReceived source serial seq image ok s) := by
  unfold execMirrorReceived
  try dsimp only
  repeat' first
    | (with_reducible first | assumption | apply alters_onRing | apply alters_releasePort | apply alters_acquireLease)
    | (with_reducible first | apply alters_flag | apply alters_next | apply alters_ite | apply altersTo_ite)
    | exact sub_trans (by decide +kernel) hm
    | split

/-- What `execMirrorHeaderReply` may alter. -/
def alt_execMirrorHeaderReply : Nat :=
    setMask F.KRG_IFLAG_REPL ||| setMask F.KRG_STAT_REPL ||| setMask F.KRG_STAT_RESTORE ||| partRsm ||| alt_onRing

theorem alters_execMirrorHeaderReply {μ : Nat} {s₀ : State} (serial : Option ℕ) (s : State) (hm : Sub alt_execMirrorHeaderReply μ)
    (hk : Alters μ s₀ s) : AltersTo μ s₀ (execMirrorHeaderReply serial s) := by
  unfold execMirrorHeaderReply
  try dsimp only
  repeat' first
    | (with_reducible first | assumption | apply alters_onRing | apply alters_flagEvent | apply alters_setOn | apply alters_next)
    | (with_reducible first | apply altersTo_ite)
    | exact sub_trans (by decide +kernel) hm
    | split

/-- What `State.writeKrgCmd` may alter. -/
def alt_writeKrgCmd : Nat :=
    setMask F.KRG_MIRSTAT_FETCH ||| setMask F.KRG_STAT_RESTORE ||| setMask F.KRG_STAT_REPL ||| alt_onRing |||
    alt_newImage ||| alt_endWait

theorem alters_writeKrgCmd {μ : Nat} {s₀ : State} (s : State) (l : Link) (v : Word) (hm : Sub alt_writeKrgCmd μ)
    (hk : Alters μ s₀ s) : Alters μ s₀ (State.writeKrgCmd s l v).1 := by
  unfold State.writeKrgCmd
  try dsimp only
  repeat' first
    | intro _
    | (with_reducible first | assumption | apply alters_onRing | apply alters_set | apply alters_setOn | apply alters_applyIf)
    | (with_reducible first | apply alters_newImage | apply alters_endWait)
    | exact sub_trans (by decide +kernel) hm
    | split

/-! ### Auth.lean -/

/-- What `State.showAnchor` may alter. -/
def alt_showAnchor : Nat := setMask F.AUT_ANCHOR_FP

theorem alters_showAnchor {μ : Nat} {s₀ : State} (s : State) (hm : Sub alt_showAnchor μ)
    (hk : Alters μ s₀ s) : Alters μ s₀ (State.showAnchor s) := by
  unfold State.showAnchor
  try dsimp only
  repeat' first
    | (with_reducible first | assumption | apply alters_putF | apply alters_put)
    | exact sub_trans (by decide +kernel) hm
    | split

/-- What `State.enrolId` may alter. -/
def alt_enrolId : Nat := alt_newImage ||| alt_journalWrite ||| alt_onAut

theorem alters_enrolId {μ : Nat} {s₀ : State} (s : State) (slot : ℕ) (id : ℕ) (hm : Sub alt_enrolId μ)
    (hk : Alters μ s₀ s) : Alters μ s₀ (State.enrolId s slot id) := by
  unfold State.enrolId
  try dsimp only
  repeat' first
    | (with_reducible first | assumption | apply alters_newImage | apply alters_journalWrite | apply alters_onAut)
    | exact sub_trans (by decide +kernel) hm
    | split

/-- What `State.writeAutCmd` may alter. -/
def alt_writeAutCmd : Nat :=
    setMask F.AUT_IFLAG_ANCHOR ||| alt_journalWrite ||| alt_showAnchor ||| alt_onAut ||| alt_roundOfAll |||
    alt_newImage ||| alt_enrolId

theorem alters_writeAutCmd {μ : Nat} {s₀ : State} (s : State) (l : Link) (v : Word) (hm : Sub alt_writeAutCmd μ)
    (hk : Alters μ s₀ s) : Alters μ s₀ (State.writeAutCmd s l v).1 := by
  unfold State.writeAutCmd
  try dsimp only
  repeat' first
    | intro _
    | (with_reducible first | assumption | apply alters_journalWrite | apply alters_showAnchor | apply alters_onAut)
    | (with_reducible first | apply alters_roundOfAll | apply alters_newImage | apply alters_flag | apply alters_enrolId)
    | (with_reducible first | apply alters_foldl)
    | exact sub_trans (by decide +kernel) hm
    | split

/-- What `State.writeKeydata` may alter. -/
def alt_writeKeydata : Nat := setMask F.AUT_KEYIDX_IDX ||| alt_onAut

theorem alters_writeKeydata {μ : Nat} {s₀ : State} (s : State) (v : Word) (hm : Sub alt_writeKeydata μ)
    (hk : Alters μ s₀ s) : Alters μ s₀ (State.writeKeydata s v) := by
  unfold State.writeKeydata
  try dsimp only
  repeat' first
    | (with_reducible first | assumption | apply alters_set | apply alters_onAut)
    | exact sub_trans (by decide +kernel) hm
    | split

/-- What `State.writeAutSel` may alter. -/
def alt_writeAutSel : Nat := alt_onLink

theorem alters_writeAutSel {μ : Nat} {s₀ : State} (s : State) (l : Link) (v : Word) (hm : Sub alt_writeAutSel μ)
    (hk : Alters μ s₀ s) : Alters μ s₀ (State.writeAutSel s l v).1 := by
  unfold State.writeAutSel
  try dsimp only
  repeat' first
    | (with_reducible first | assumption | apply alters_onLink)
    | exact sub_trans (by decide +kernel) hm
    | split

/-- What `State.pollSlot` may alter. -/
def alt_pollSlot : Nat := alt_onAut ||| alt_joinRound

theorem alters_pollSlot {μ : Nat} {s₀ : State} (s : State) (j : ℕ) (id : ℕ) (hm : Sub alt_pollSlot μ)
    (hk : Alters μ s₀ s) : Alters μ s₀ (State.pollSlot s j id) := by
  unfold State.pollSlot
  try dsimp only
  repeat' first
    | intro _
    | (with_reducible first | assumption | apply alters_onAut | apply alters_applyIf | apply alters_joinRound)
    | exact sub_trans (by decide +kernel) hm
    | split

/-- What `execAutPoll` may alter. -/
def alt_execAutPoll : Nat := partNow ||| alt_onAut ||| alt_pollSlot

theorem alters_execAutPoll {μ : Nat} {s₀ : State} (ids : List (ℕ × ℕ)) (s : State) (hm : Sub alt_execAutPoll μ)
    (hk : Alters μ s₀ s) : AltersTo μ s₀ (execAutPoll ids s) := by
  unfold execAutPoll
  try dsimp only
  repeat' first
    | intro _
    | (with_reducible first | assumption | apply alters_advanceTo | apply alters_onAut | apply alters_pollSlot | apply alters_next)
    | (with_reducible first | apply altersTo_ite | apply alters_foldl)
    | exact sub_trans (by decide +kernel) hm
    | split

/-- What `execSlotAuthDone` may alter. -/
def alt_execSlotAuthDone : Nat :=
    setMask F.AUT_IFLAG_SWAP ||| setMask F.AUT_IFLAG_UNQ ||| setMask F.AUT_IFLAG_DONE ||| partRsm ||| alt_setSlot
    ||| alt_onAut ||| alt_resetCell ||| alt_enrolId

theorem alters_execSlotAuthDone {μ : Nat} {s₀ : State} (slot : ℕ) (x : TagResult) (s : State) (hm : Sub alt_execSlotAuthDone μ)
    (hk : Alters μ s₀ s) : AltersTo μ s₀ (execSlotAuthDone slot x s) := by
  unfold execSlotAuthDone
  try dsimp only
  repeat' first
    | intro _
    | (with_reducible first | assumption | apply alters_setSlot | apply alters_onAut | apply alters_resetCell | apply alters_enrolId)
    | (with_reducible first | apply alters_applyIf | apply alters_flagEvent | apply alters_flag | apply alters_next)
    | (with_reducible first | apply alters_ite | apply altersTo_ite | apply alters_foldl)
    | exact sub_trans (by decide +kernel) hm
    | split

/-! ### Commit.lean -/

/-- What `State.onCommit` may alter. -/
def alt_onCommit : Nat := partCommit

theorem alters_onCommit {μ : Nat} {s₀ : State} (s : State) (f : CommitSt → CommitSt) (hm : Sub alt_onCommit μ)
    (hk : Alters μ s₀ s) : Alters μ s₀ (State.onCommit s f) := by
  unfold State.onCommit
  try dsimp only
  repeat' first
    | simp only [alters_commit (sub_bit hm (i := 7) (by decide +kernel))]
    | (with_reducible first | assumption)
    | exact sub_trans (by decide +kernel) hm
    | split

/-- What `State.markPending` may alter. -/
def alt_markPending : Nat := alt_onCommit

theorem alters_markPending {μ : Nat} {s₀ : State} (s : State) (page : ℕ) (word : ℕ) (hm : Sub alt_markPending μ)
    (hk : Alters μ s₀ s) : Alters μ s₀ (State.markPending s page word) := by
  unfold State.markPending
  try dsimp only
  repeat' first
    | (with_reducible first | assumption | apply alters_onCommit)
    | exact sub_trans (by decide +kernel) hm
    | split

/-- What `State.showStage` may alter. -/
def alt_showStage : Nat :=
    setMask F.CFG_STAGE_STATE ||| setMask F.CFG_STAGE_NEXT ||| setMask F.CFG_STAGE_TODO ||| setMask
    F.CFG_STAGE_APPLIED

theorem alters_showStage {μ : Nat} {s₀ : State} (s : State) (applied : ℕ) (todo : ℕ) (next : ℕ) (state : ℕ) (hm : Sub alt_showStage μ)
    (hk : Alters μ s₀ s) : Alters μ s₀ (State.showStage s applied todo next state) := by
  unfold State.showStage
  try dsimp only
  repeat' first
    | (with_reducible first | assumption | apply alters_set)
    | exact sub_trans (by decide +kernel) hm
    | split

/-- What `State.showResult` may alter. -/
def alt_showResult : Nat := setMask F.CFG_RESULT_CODE ||| setMask F.CFG_RESULT_WORD ||| setMask F.CFG_RESULT_PAGE

theorem alters_showResult {μ : Nat} {s₀ : State} (s : State) (page : ℕ) (word : ℕ) (code : ℕ) (hm : Sub alt_showResult μ)
    (hk : Alters μ s₀ s) : Alters μ s₀ (State.showResult s page word code) := by
  unfold State.showResult
  try dsimp only
  repeat' first
    | (with_reducible first | assumption | apply alters_set)
    | exact sub_trans (by decide +kernel) hm
    | split

/-- What `State.refuseCommit` may alter. -/
def alt_refuseCommit : Nat := setMask F.CFG_IFLAG_REFUSE ||| alt_showResult

theorem alters_refuseCommit {μ : Nat} {s₀ : State} (s : State) (page : ℕ) (word : ℕ) (code : ℕ) (hm : Sub alt_refuseCommit μ)
    (hk : Alters μ s₀ s) : Alters μ s₀ (State.refuseCommit s page word code).1 := by
  unfold State.refuseCommit
  try dsimp only
  repeat' first
    | (with_reducible first | assumption | apply alters_flag | apply alters_showResult)
    | exact sub_trans (by decide +kernel) hm
    | split

/-- What `State.decideCommit` may alter. -/
def alt_decideCommit : Nat :=
    setMask F.CFG_IFLAG_DONE ||| setMask F.CFG_CMTSEQ_SEQ ||| alt_showStage ||| alt_showResult ||| alt_refuseCommit
    ||| alt_onCommit

theorem alters_decideCommit {μ : Nat} {s₀ : State} (s : State) (link : ℕ) (pages : List ℕ) (hm : Sub alt_decideCommit μ)
    (hk : Alters μ s₀ s) : Alters μ s₀ (State.decideCommit s link pages).1 := by
  unfold State.decideCommit
  try dsimp only
  repeat' first
    | (with_reducible first | assumption | apply alters_putF | apply alters_flag | apply alters_showStage | apply alters_showResult)
    | (with_reducible first | apply alters_refuseCommit | apply alters_onCommit | apply alters_put)
    | exact sub_trans (by decide +kernel) hm
    | split

/-- What `State.requestCommit` may alter. -/
def alt_requestCommit : Nat := alt_refuseCommit ||| alt_decideCommit

theorem alters_requestCommit {μ : Nat} {s₀ : State} (s : State) (l : Link) (v : Word) (hm : Sub alt_requestCommit μ)
    (hk : Alters μ s₀ s) : Alters μ s₀ (State.requestCommit s l v).1 := by
  unfold State.requestCommit
  try dsimp only
  repeat' first
    | (with_reducible first | assumption | apply alters_refuseCommit | apply alters_decideCommit)
    | exact sub_trans (by decide +kernel) hm
    | split

/-- What `State.adoptRound` may alter. -/
def alt_adoptRound : Nat := alt_roundOfAll ||| alt_onAut

theorem alters_adoptRound {μ : Nat} {s₀ : State} (s : State) (hm : Sub alt_adoptRound μ)
    (hk : Alters μ s₀ s) : Alters μ s₀ (State.adoptRound s) := by
  unfold State.adoptRound
  try dsimp only
  repeat' first
    | (with_reducible first | assumption | apply alters_roundOfAll | apply alters_onAut)
    | exact sub_trans (by decide +kernel) hm
    | split

/-- What `State.abortCommit` may alter. -/
def alt_abortCommit : Nat :=
    setMask F.KRG_STAT_GRANTED ||| setMask F.KRG_STAT_WAIT ||| setMask F.CFG_IFLAG_ABORT ||| setMask
    F.CFG_STAGE_STATE ||| alt_onProt ||| alt_dropStart ||| alt_onGate ||| alt_onCommit ||| alt_showResult |||
    alt_adoptRound

theorem alters_abortCommit {μ : Nat} {s₀ : State} (s : State) (hm : Sub alt_abortCommit μ)
    (hk : Alters μ s₀ s) : Alters μ s₀ (State.abortCommit s) := by
  unfold State.abortCommit
  try dsimp only
  repeat' first
    | intro _
    | (with_reducible first | assumption | apply alters_applyIf | apply alters_setOn | apply alters_onProt | apply alters_dropStart)
    | (with_reducible first | apply alters_onGate | apply alters_onCommit | apply alters_flag | apply alters_showResult)
    | (with_reducible first | apply alters_set | apply alters_adoptRound | apply alters_foldl)
    | exact sub_trans (by decide +kernel) hm
    | split

/-- What `State.discardPage` may alter. -/
def alt_discardPage : Nat := partShadow ||| alt_onCommit

theorem alters_discardPage {μ : Nat} {s₀ : State} (s : State) (page : ℕ) (hm : Sub alt_discardPage μ)
    (hk : Alters μ s₀ s) : Alters μ s₀ (State.discardPage s page) := by
  unfold State.discardPage
  try dsimp only
  repeat' first
    | intro _
    | (with_reducible first | assumption | apply alters_setShadow | apply alters_onCommit | apply alters_foldl)
    | exact sub_trans (by decide +kernel) hm
    | split

/-- What `State.writeDiscard` may alter. -/
def alt_writeDiscard : Nat := alt_discardPage

theorem alters_writeDiscard {μ : Nat} {s₀ : State} (s : State) (v : Word) (hm : Sub alt_writeDiscard μ)
    (hk : Alters μ s₀ s) : Alters μ s₀ (State.writeDiscard s v).1 := by
  unfold State.writeDiscard
  try dsimp only
  repeat' first
    | intro _
    | (with_reducible first | assumption | apply alters_discardPage | apply alters_foldl)
    | exact sub_trans (by decide +kernel) hm
    | split

/-- What `State.writeDefault` may alter. -/
def alt_writeDefault : Nat := partShadow ||| alt_markPending

theorem alters_writeDefault {μ : Nat} {s₀ : State} (s : State) (l : Link) (v : Word) (hm : Sub alt_writeDefault μ)
    (hk : Alters μ s₀ s) : Alters μ s₀ (State.writeDefault s l v).1 := by
  unfold State.writeDefault
  try dsimp only
  repeat' first
    | intro _
    | (with_reducible first | assumption | apply alters_markPending | apply alters_setShadow | apply alters_foldl)
    | exact sub_trans (by decide +kernel) hm
    | split

/-- What `State.adoptSage` may alter. -/
def alt_adoptSage : Nat := alt_onSage ||| alt_showThroughput

theorem alters_adoptSage {μ : Nat} {s₀ : State} (s : State) (m : MirrorImage) (hm : Sub alt_adoptSage μ)
    (hk : Alters μ s₀ s) : Alters μ s₀ (State.adoptSage s m) := by
  unfold State.adoptSage
  try dsimp only
  repeat' first
    | (with_reducible first | assumption | apply alters_onSage | apply alters_showThroughput)
    | exact sub_trans (by decide +kernel) hm
    | split

/-- What `State.onPassword` may alter. -/
def alt_onPassword : Nat := partSpw ||| partPw

theorem alters_onPassword {μ : Nat} {s₀ : State} (s : State) (saf : Bool) (f : PasswordSt → PasswordSt) (hm : Sub alt_onPassword μ)
    (hk : Alters μ s₀ s) : Alters μ s₀ (State.onPassword s saf f) := by
  unfold State.onPassword
  try dsimp only
  repeat' first
    | simp only [alters_spw (sub_bit hm (i := 9) (by decide +kernel))]
    | simp only [alters_pw (sub_bit hm (i := 8) (by decide +kernel))]
    | (with_reducible first | assumption | apply alters_ite)
    | exact sub_trans (by decide +kernel) hm
    | split

/-- What `State.setUnlock` may alter. -/
def alt_setUnlock : Nat := alt_onLink

theorem alters_setUnlock {μ : Nat} {s₀ : State} (s : State) (saf : Bool) (l : Link) (t : Option ℕ) (hm : Sub alt_setUnlock μ)
    (hk : Alters μ s₀ s) : Alters μ s₀ (State.setUnlock s saf l t) := by
  unfold State.setUnlock
  try dsimp only
  repeat' first
    | (with_reducible first | assumption | apply alters_onLink)
    | exact sub_trans (by decide +kernel) hm
    | split

/-- What `State.wrongPassword` may alter. -/
def alt_wrongPassword : Nat :=
    setMask F.SAF_IFLAG_LOCKOUT ||| setMask F.CFG_IFLAG_LOCKOUT ||| alt_onPassword ||| alt_logChange

theorem alters_wrongPassword {μ : Nat} {s₀ : State} (s : State) (saf : Bool) (l : Link) (hm : Sub alt_wrongPassword μ)
    (hk : Alters μ s₀ s) : Alters μ s₀ (State.wrongPassword s saf l) := by
  unfold State.wrongPassword
  try dsimp only
  repeat' first
    | (with_reducible first | assumption | apply alters_onPassword | apply alters_logChange | apply alters_flag | apply alters_ite)
    | exact sub_trans (by decide +kernel) hm
    | split

/-- What `State.writeUnlock` may alter. -/
def alt_writeUnlock : Nat := alt_setUnlock ||| alt_onPassword ||| alt_wrongPassword

theorem alters_writeUnlock {μ : Nat} {s₀ : State} (s : State) (saf : Bool) (l : Link) (v : Word) (hm : Sub alt_writeUnlock μ)
    (hk : Alters μ s₀ s) : Alters μ s₀ (State.writeUnlock s saf l v).1 := by
  unfold State.writeUnlock
  try dsimp only
  repeat' first
    | (with_reducible first | assumption | apply alters_setUnlock | apply alters_onPassword | apply alters_wrongPassword)
    | exact sub_trans (by decide +kernel) hm
    | split

/-- What `State.writeNewpw` may alter. -/
def alt_writeNewpw : Nat := alt_journalWrite ||| alt_onPassword ||| alt_logChange

theorem alters_writeNewpw {μ : Nat} {s₀ : State} (s : State) (saf : Bool) (l : Link) (v : Word) (hm : Sub alt_writeNewpw μ)
    (hk : Alters μ s₀ s) : Alters μ s₀ (State.writeNewpw s saf l v).1 := by
  unfold State.writeNewpw
  try dsimp only
  repeat' first
    | (with_reducible first | assumption | apply alters_journalWrite | apply alters_onPassword | apply alters_logChange)
    | (with_reducible first | apply alters_ite)
    | exact sub_trans (by decide +kernel) hm
    | split

/-- What `execUnlockExpiry` may alter. -/
def alt_execUnlockExpiry : Nat := partNow ||| alt_setUnlock

theorem alters_execUnlockExpiry {μ : Nat} {s₀ : State} (l : Link) (saf : Bool) (s : State) (hm : Sub alt_execUnlockExpiry μ)
    (hk : Alters μ s₀ s) : AltersTo μ s₀ (execUnlockExpiry l saf s) := by
  unfold execUnlockExpiry
  try dsimp only
  repeat' first
    | (with_reducible first | assumption | apply alters_setUnlock | apply alters_advanceTo | apply alters_next)
    | exact sub_trans (by decide +kernel) hm
    | split

/-- What `execLockoutEnd` may alter. -/
def alt_execLockoutEnd : Nat := partNow ||| alt_onPassword

theorem alters_execLockoutEnd {μ : Nat} {s₀ : State} (saf : Bool) (s : State) (hm : Sub alt_execLockoutEnd μ)
    (hk : Alters μ s₀ s) : AltersTo μ s₀ (execLockoutEnd saf s) := by
  unfold execLockoutEnd
  try dsimp only
  repeat' first
    | (with_reducible first | assumption | apply alters_onPassword | apply alters_advanceTo | apply alters_next)
    | exact sub_trans (by decide +kernel) hm
    | split

/-- What `State.onFw` may alter. -/
def alt_onFw : Nat := partFw

theorem alters_onFw {μ : Nat} {s₀ : State} (s : State) (f : FirmwareSt → FirmwareSt) (hm : Sub alt_onFw μ)
    (hk : Alters μ s₀ s) : Alters μ s₀ (State.onFw s f) := by
  unfold State.onFw
  try dsimp only
  repeat' first
    | simp only [alters_fw (sub_bit hm (i := 10) (by decide +kernel))]
    | (with_reducible first | assumption)
    | exact sub_trans (by decide +kernel) hm
    | split

/-- What `State.showBanks` may alter. -/
def alt_showBanks : Nat := setMask F.CFG_FWSTAT_PREF ||| setMask F.SYS_FWVER_B_BUILD ||| setMask F.SYS_FWVER_A_BUILD

theorem alters_showBanks {μ : Nat} {s₀ : State} (s : State) (hm : Sub alt_showBanks μ)
    (hk : Alters μ s₀ s) : Alters μ s₀ (State.showBanks s) := by
  unfold State.showBanks
  try dsimp only
  repeat' first
    | (with_reducible first | assumption | apply alters_putF | apply alters_setOn | apply alters_put)
    | exact sub_trans (by decide +kernel) hm
    | split

/-- What `State.fwOpen` may alter. -/
def alt_fwOpen : Nat :=
    setMask F.CFG_FWSTAT_STATE ||| setMask F.CFG_FWADDR_OFFSET ||| setMask F.CFG_FWSTAT_RECEIVED ||| setMask
    F.CFG_FWSTAT_TARGET ||| alt_onFw ||| alt_showBanks

theorem alters_fwOpen {μ : Nat} {s₀ : State} (s : State) (hm : Sub alt_fwOpen μ)
    (hk : Alters μ s₀ s) : Alters μ s₀ (State.fwOpen s) := by
  unfold State.fwOpen
  try dsimp only
  repeat' first
    | (with_reducible first | assumption | apply alters_onFw | apply alters_set | apply alters_setOn | apply alters_showBanks)
    | exact sub_trans (by decide +kernel) hm
    | split

/-- What `State.fwActivate` may alter. -/
def alt_fwActivate : Nat :=
    setMask F.CFG_FWSTAT_STATE ||| setMask F.PWR_BOOT_B_BAD ||| setMask F.PWR_BOOT_A_BAD ||| alt_journalWrite |||
    alt_onFw ||| alt_showBanks

theorem alters_fwActivate {μ : Nat} {s₀ : State} (s : State) (hm : Sub alt_fwActivate μ)
    (hk : Alters μ s₀ s) : Alters μ s₀ (State.fwActivate s) := by
  unfold State.fwActivate
  try dsimp only
  repeat' first
    | intro _
    | (with_reducible first | assumption | apply alters_journalWrite | apply alters_onFw | apply alters_set | apply alters_showBanks)
    | (with_reducible first | apply alters_applyIf | apply alters_setOn)
    | exact sub_trans (by decide +kernel) hm
    | split

/-- What `State.fwAbandon` may alter. -/
def alt_fwAbandon : Nat := setMask F.CFG_FWSTAT_STATE ||| alt_onFw ||| alt_showBanks

theorem alters_fwAbandon {μ : Nat} {s₀ : State} (s : State) (hm : Sub alt_fwAbandon μ)
    (hk : Alters μ s₀ s) : Alters μ s₀ (State.fwAbandon s) := by
  unfold State.fwAbandon
  try dsimp only
  repeat' first
    | (with_reducible first | assumption | apply alters_onFw | apply alters_set | apply alters_showBanks)
    | exact sub_trans (by decide +kernel) hm
    | split

/-- What `State.writeFwctl` may alter. -/
def alt_writeFwctl : Nat := setMask F.CFG_FWSTAT_STATE ||| alt_fwOpen ||| alt_fwActivate ||| alt_fwAbandon

theorem alters_writeFwctl {μ : Nat} {s₀ : State} (s : State) (l : Link) (v : Word) (hm : Sub alt_writeFwctl μ)
    (hk : Alters μ s₀ s) : Alters μ s₀ (State.writeFwctl s l v).1 := by
  unfold State.writeFwctl
  try dsimp only
  repeat' first
    | (with_reducible first | assumption | apply alters_fwOpen | apply alters_set | apply alters_fwActivate | apply alters_fwAbandon)
    | exact sub_trans (by decide +kernel) hm
    | split

/-- What `State.writeFwdata` may alter. -/
def alt_writeFwdata : Nat :=
    setMask F.CFG_FWSTAT_RECEIVED ||| setMask F.CFG_FWADDR_OFFSET ||| alt_offerImage ||| alt_onFw

theorem alters_writeFwdata {μ : Nat} {s₀ : State} (s : State) (v : Word) (hm : Sub alt_writeFwdata μ)
    (hk : Alters μ s₀ s) : Alters μ s₀ (State.writeFwdata s v).1 := by
  unfold State.writeFwdata
  try dsimp only
  repeat' first
    | (with_reducible first | assumption | apply alters_offerImage | apply alters_onFw | apply alters_count | apply alters_set)
    | exact sub_trans (by decide +kernel) hm
    | split

/-- What `execFwVerifyDone` may alter. -/
def alt_execFwVerifyDone : Nat :=
    setMask F.CFG_IFLAG_FWDONE ||| setMask F.CFG_FWSTAT_STATE ||| alt_showBanks ||| alt_onFw

theorem alters_execFwVerifyDone {μ : Nat} {s₀ : State} (pass : Bool) (version : Word) (s : State) (hm : Sub alt_execFwVerifyDone μ)
    (hk : Alters μ s₀ s) : AltersTo μ s₀ (execFwVerifyDone pass version s) := by
  unfold execFwVerifyDone
  try dsimp only
  repeat' first
    | intro _
    | (with_reducible first | assumption | apply alters_applyIf | apply alters_showBanks | apply alters_onFw | apply alters_flag)
    | (with_reducible first | apply alters_set | apply alters_next | apply altersTo_ite)
    | exact sub_trans (by decide +kernel) hm
    | split

/-! ### FaultLine.lean -/

/-- What `State.onLine` may alter. -/
def alt_onLine : Nat := partLine

theorem alters_onLine {μ : Nat} {s₀ : State} (s : State) (f : FaultLineSt → FaultLineSt) (hm : Sub alt_onLine μ)
    (hk : Alters μ s₀ s) : Alters μ s₀ (State.onLine s f) := by
  unfold State.onLine
  try dsimp only
  repeat' first
    | simp only [alters_line (sub_bit hm (i := 17) (by decide +kernel))]
    | (with_reducible first | assumption)
    | exact sub_trans (by decide +kernel) hm
    | split

/-- What `State.showActive` may alter. -/
def alt_showActive : Nat := setMask F.CMP_FLSTAT_ACTIVE ||| setMask F.CMP_FLSRC_CAUSE

theorem alters_showActive {μ : Nat} {s₀ : State} (s : State) (hm : Sub alt_showActive μ)
    (hk : Alters μ s₀ s) : Alters μ s₀ (State.showActive s) := by
  unfold State.showActive
  try dsimp only
  repeat' first
    | (with_reducible first | assumption | apply alters_set | apply alters_ite)
    | exact sub_trans (by decide +kernel) hm
    | split

/-- What `State.assertLine` may alter. -/
def alt_assertLine : Nat :=
    setMask F.CMP_IFLAG_FL_SET ||| setMask F.CMP_PSTAT_FL ||| setMask F.CMP_FLSTAT_ASSERTED ||| setMask
    F.CMP_FLSRC_FRAME ||| setMask F.CMP_FLSRC_CAUSE ||| partPins ||| alt_onLine ||| alt_prtTrip

theorem alters_assertLine {μ : Nat} {s₀ : State} (s : State) (hm : Sub alt_assertLine μ)
    (hk : Alters μ s₀ s) : Alters μ s₀ (State.assertLine s) := by
  unfold State.assertLine
  try dsimp only
  repeat' first
    | simp only [alters_pins (sub_bit hm (i := 5) (by decide +kernel))]
    | (with_reducible first | assumption | apply alters_flag | apply alters_setOn | apply alters_onLine | apply alters_set)
    | (with_reducible first | apply alters_prtTrip | apply alters_ite)
    | exact sub_trans (by decide +kernel) hm
    | split

/-- What `State.raiseSource` may alter. -/
def alt_raiseSource : Nat := setMask F.CMP_FLSTAT_ACTIVE ||| alt_showActive ||| alt_assertLine

theorem alters_raiseSource {μ : Nat} {s₀ : State} (s : State) (b : ℕ) (hm : Sub alt_raiseSource μ)
    (hk : Alters μ s₀ s) : Alters μ s₀ (State.raiseSource s b) := by
  unfold State.raiseSource
  try dsimp only
  repeat' first
    | (with_reducible first | assumption | apply alters_showActive | apply alters_assertLine | apply alters_set)
    | exact sub_trans (by decide +kernel) hm
    | split

/-- What `State.dropSource` may alter. -/
def alt_dropSource : Nat := setMask F.CMP_FLSTAT_ACTIVE

theorem alters_dropSource {μ : Nat} {s₀ : State} (s : State) (b : ℕ) (hm : Sub alt_dropSource μ)
    (hk : Alters μ s₀ s) : Alters μ s₀ (State.dropSource s b) := by
  unfold State.dropSource
  try dsimp only
  repeat' first
    | (with_reducible first | assumption | apply alters_set)
    | exact sub_trans (by decide +kernel) hm
    | split

/-- What `State.releaseLine` may alter. -/
def alt_releaseLine : Nat :=
    setMask F.CMP_IFLAG_FL_REL ||| setMask F.CMP_PSTAT_FL ||| setMask F.CMP_FLSTAT_ASSERTED ||| partPins |||
    alt_prtRelease

theorem alters_releaseLine {μ : Nat} {s₀ : State} (s : State) (hm : Sub alt_releaseLine μ)
    (hk : Alters μ s₀ s) : Alters μ s₀ (State.releaseLine s) := by
  unfold State.releaseLine
  try dsimp only
  repeat' first
    | simp only [alters_pins (sub_bit hm (i := 5) (by decide +kernel))]
    | (with_reducible first | assumption | apply alters_flag | apply alters_setOn | apply alters_prtRelease | apply alters_ite)
    | exact sub_trans (by decide +kernel) hm
    | split

/-- What `State.writeFlclr` may alter. -/
def alt_writeFlclr : Nat := alt_releaseLine

theorem alters_writeFlclr {μ : Nat} {s₀ : State} (s : State) (v : Word) (hm : Sub alt_writeFlclr μ)
    (hk : Alters μ s₀ s) : Alters μ s₀ (State.writeFlclr s v).1 := by
  unfold State.writeFlclr
  try dsimp only
  repeat' first
    | (with_reducible first | assumption | apply alters_releaseLine)
    | exact sub_trans (by decide +kernel) hm
    | split

/-- What `State.stopCarrier` may alter. -/
def alt_stopCarrier : Nat := alt_onLine

theorem alters_stopCarrier {μ : Nat} {s₀ : State} (s : State) (k : ℕ) (hm : Sub alt_stopCarrier μ)
    (hk : Alters μ s₀ s) : Alters μ s₀ (State.stopCarrier s k) := by
  unfold State.stopCarrier
  try dsimp only
  repeat' first
    | (with_reducible first | assumption | apply alters_onLine)
    | exact sub_trans (by decide +kernel) hm
    | split

/-- What `State.driveCode` may alter. -/
def alt_driveCode : Nat := alt_showActive ||| alt_assertLine ||| alt_onDie ||| alt_stopCarrier

theorem alters_driveCode {μ : Nat} {s₀ : State} (s : State) (k : ℕ) (b : ℕ) (hm : Sub alt_driveCode μ)
    (hk : Alters μ s₀ s) : Alters μ s₀ (State.driveCode s k b) := by
  unfold State.driveCode
  try dsimp only
  repeat' first
    | (with_reducible first | assumption | apply alters_showActive | apply alters_assertLine | apply alters_onDie)
    | (with_reducible first | apply alters_stopCarrier)
    | exact sub_trans (by decide +kernel) hm
    | split

/-- What `execFaultChannelLost` may alter. -/
def alt_execFaultChannelLost : Nat :=
    setMask F.CMP_FLSTAT_CHAN ||| partNow ||| alt_assertLine ||| alt_stopCarrier ||| alt_showActive

theorem alters_execFaultChannelLost {μ : Nat} {s₀ : State} (k : ℕ) (coded : Bool) (s : State) (hm : Sub alt_execFaultChannelLost μ)
    (hk : Alters μ s₀ s) : AltersTo μ s₀ (execFaultChannelLost k coded s) := by
  unfold execFaultChannelLost
  try dsimp only
  repeat' first
    | (with_reducible first | assumption | apply alters_assertLine | apply alters_advanceTo | apply alters_stopCarrier)
    | (with_reducible first | apply alters_showActive | apply alters_set | apply alters_next | apply alters_ite | apply altersTo_ite)
    | exact sub_trans (by decide +kernel) hm
    | split

/-- What `execTripCode` may alter. -/
def alt_execTripCode : Nat :=
    setMask F.CMP_FLSTAT_CHAN ||| alt_onDie ||| alt_stopCarrier ||| alt_showActive ||| alt_assertLine

theorem alters_execTripCode {μ : Nat} {s₀ : State} (k : ℕ) (code : Byte) (s : State) (hm : Sub alt_execTripCode μ)
    (hk : Alters μ s₀ s) : AltersTo μ s₀ (execTripCode k code s) := by
  unfold execTripCode
  try dsimp only
  repeat' first
    | (with_reducible first | assumption | apply alters_onDie | apply alters_stopCarrier | apply alters_showActive)
    | (with_reducible first | apply alters_assertLine | apply alters_set | apply alters_next | apply altersTo_ite)
    | exact sub_trans (by decide +kernel) hm
    | split

/-- What `execCarrierReturn` may alter. -/
def alt_execCarrierReturn : Nat := setMask F.CMP_FLSTAT_CHAN ||| alt_onLine ||| alt_onDie ||| alt_showActive

theorem alters_execCarrierReturn {μ : Nat} {s₀ : State} (k : ℕ) (s : State) (hm : Sub alt_execCarrierReturn μ)
    (hk : Alters μ s₀ s) : AltersTo μ s₀ (execCarrierReturn k s) := by
  unfold execCarrierReturn
  try dsimp only
  repeat' first
    | (with_reducible first | assumption | apply alters_onLine | apply alters_onDie | apply alters_showActive | apply alters_set)
    | (with_reducible first | apply alters_next | apply altersTo_ite)
    | exact sub_trans (by decide +kernel) hm
    | split

theorem alters_setTrip {μ : Nat} {s₀ : State} (s : State) (f : Fld) (k : ℕ) (i : ℕ) (v : Bool) (h_f : Sub (arrayMask f) μ)
    (hk : Alters μ s₀ s) : Alters μ s₀ (State.setTrip s f k i v) := by
  unfold State.setTrip
  try dsimp only
  repeat' first
    | (with_reducible first | assumption | apply alters_set)
    | (with_reducible refine sub_chain (setMask_at _ _) ?_; assumption)
    | split

/-- What `State.gatedCell` may alter. -/
def alt_gatedCell : Nat := arrayMask F.CMP_GOVT_TRIP ||| arrayMask F.CMP_GUVT_TRIP ||| alt_onDie

theorem alters_gatedCell {μ : Nat} {s₀ : State} (s : State) (k : ℕ) (v : ℤ) (i : ℕ) (hm : Sub alt_gatedCell μ)
    (hk : Alters μ s₀ s) : Alters μ s₀ (State.gatedCell s k v i) := by
  unfold State.gatedCell
  try dsimp only
  repeat' first
    | intro _
    | (with_reducible first | assumption | apply alters_onDie | apply alters_applyIf | apply alters_setTrip)
    | exact sub_trans (by decide +kernel) hm
    | (with_reducible refine sub_chain (setMask_at _ _) ?_; (try simp only [arrayMask_on]); first | assumption | exact sub_trans (by decide +kernel) hm)
    | split

/-- What `execGatedEval` may alter. -/
def alt_execGatedEval : Nat := partNow ||| alt_gatedCell

theorem alters_execGatedEval {μ : Nat} {s₀ : State} (cells : List (List ℤ)) (s : State) (hm : Sub alt_execGatedEval μ)
    (hk : Alters μ s₀ s) : AltersTo μ s₀ (execGatedEval cells s) := by
  unfold execGatedEval
  try dsimp only
  repeat' first
    | intro _
    | (with_reducible first | assumption | apply alters_advanceTo | apply alters_gatedCell | apply alters_next | apply alters_ite)
    | (with_reducible first | apply altersTo_ite | apply alters_foldl)
    | exact sub_trans (by decide +kernel) hm
    | split

/-- What `execGatedTrip` may alter. -/
def alt_execGatedTrip : Nat := arrayMask F.CMP_GOVT_TRIP ||| arrayMask F.CMP_GUVT_TRIP ||| alt_driveCode

theorem alters_execGatedTrip {μ : Nat} {s₀ : State} (s : State) (hm : Sub alt_execGatedTrip μ)
    (hk : Alters μ s₀ s) : AltersTo μ s₀ (execGatedTrip s) := by
  unfold execGatedTrip
  try dsimp only
  repeat' first
    | intro _
    | (with_reducible first | assumption | apply alters_setTrip | apply alters_applyIf | apply alters_driveCode | apply alters_next)
    | (with_reducible first | apply altersTo_ite | apply alters_foldl)
    | exact sub_trans (by decide +kernel) hm
    | (with_reducible refine sub_chain (setMask_at _ _) ?_; (try simp only [arrayMask_on]); first | assumption | exact sub_trans (by decide +kernel) hm)
    | split

/-- What `execAbsoluteTrip` may alter. -/
def alt_execAbsoluteTrip : Nat := arrayMask F.CMP_AUVT_TRIP ||| arrayMask F.CMP_AOVT_TRIP ||| alt_driveCode

theorem alters_execAbsoluteTrip {μ : Nat} {s₀ : State} (k : ℕ) (i : ℕ) (v : ℤ) (s : State) (hm : Sub alt_execAbsoluteTrip μ)
    (hk : Alters μ s₀ s) : AltersTo μ s₀ (execAbsoluteTrip k i v s) := by
  unfold execAbsoluteTrip
  try dsimp only
  repeat' first
    | intro _
    | (with_reducible first | assumption | apply alters_setTrip | apply alters_applyIf | apply alters_driveCode | apply alters_next)
    | (with_reducible first | apply altersTo_ite)
    | exact sub_trans (by decide +kernel) hm
    | (with_reducible refine sub_chain (setMask_at _ _) ?_; (try simp only [arrayMask_on]); first | assumption | exact sub_trans (by decide +kernel) hm)
    | split

/-- What `State.selfTestOne` may alter. -/
def alt_selfTestOne : Nat := setMask F.CMP_IFLAG_CTEST ||| setMask F.CMP_CTEST_FAILS ||| partRsm ||| alt_onDie

theorem alters_selfTestOne {μ : Nat} {s₀ : State} (s : State) (k : ℕ) (c : ℕ) (fails : Bool) (hm : Sub alt_selfTestOne μ)
    (hk : Alters μ s₀ s) : Alters μ s₀ (State.selfTestOne s k c fails) := by
  unfold State.selfTestOne
  try dsimp only
  repeat' first
    | intro _
    | (with_reducible first | assumption | apply alters_onDie | apply alters_applyIf | apply alters_flagEvent | apply alters_count)
    | exact sub_trans (by decide +kernel) hm
    | split

/-- What `State.selfTestDie` may alter. -/
def alt_selfTestDie : Nat := setMask F.CMP_CTEST_DIES ||| alt_selfTestOne ||| alt_onDie

theorem alters_selfTestDie {μ : Nat} {s₀ : State} (s : State) (k : ℕ) (failing : List ℕ) (hm : Sub alt_selfTestDie μ)
    (hk : Alters μ s₀ s) : Alters μ s₀ (State.selfTestDie s k failing) := by
  unfold State.selfTestDie
  try dsimp only
  repeat' first
    | intro _
    | (with_reducible first | assumption | apply alters_selfTestOne | apply alters_onDie | apply alters_set | apply alters_foldl)
    | exact sub_trans (by decide +kernel) hm
    | split

/-- What `execComparatorSelfTest` may alter. -/
def alt_execComparatorSelfTest : Nat := partNow ||| alt_selfTestDie

theorem alters_execComparatorSelfTest {μ : Nat} {s₀ : State} (failing : List ℕ) (s : State) (hm : Sub alt_execComparatorSelfTest μ)
    (hk : Alters μ s₀ s) : AltersTo μ s₀ (execComparatorSelfTest failing s) := by
  unfold execComparatorSelfTest
  try dsimp only
  repeat' first
    | intro _
    | (with_reducible first | assumption | apply alters_advanceTo | apply alters_selfTestDie | apply alters_next | apply alters_ite)
    | (with_reducible first | apply altersTo_ite | apply alters_foldl)
    | exact sub_trans (by decide +kernel) hm
    | split

/-- What `execFastOcTrip` may alter. -/
def alt_execFastOcTrip : Nat := setMask F.CUR_PSTAT_OCTRIP ||| setMask F.CUR_IFLAG_OC ||| partCur ||| alt_driveCode

theorem alters_execFastOcTrip {μ : Nat} {s₀ : State} (u : ℤ) (s : State) (hm : Sub alt_execFastOcTrip μ)
    (hk : Alters μ s₀ s) : AltersTo μ s₀ (execFastOcTrip u s) := by
  unfold execFastOcTrip
  try dsimp only
  repeat' first
    | intro _
    | simp only [alters_cur (sub_bit hm (i := 18) (by decide +kernel))]
    | (with_reducible first | assumption | apply alters_setOn | apply alters_applyIf | apply alters_driveCode | apply alters_flag)
    | (with_reducible first | apply alters_next | apply altersTo_ite)
    | exact sub_trans (by decide +kernel) hm
    | split

/-- What `execOcSelfTest` may alter. -/
def alt_execOcSelfTest : Nat := setMask F.CUR_IFLAG_OCTEST ||| partRsm ||| partCur

theorem alters_execOcSelfTest {μ : Nat} {s₀ : State} (pass : Bool) (s : State) (hm : Sub alt_execOcSelfTest μ)
    (hk : Alters μ s₀ s) : AltersTo μ s₀ (execOcSelfTest pass s) := by
  unfold execOcSelfTest
  try dsimp only
  repeat' first
    | intro _
    | simp only [alters_cur (sub_bit hm (i := 18) (by decide +kernel))]
    | (with_reducible first | assumption | apply alters_applyIf | apply alters_flagEvent | apply alters_next | apply altersTo_ite)
    | exact sub_trans (by decide +kernel) hm
    | split

/-- What `execDeadlineExpiry` may alter. -/
def alt_execDeadlineExpiry : Nat :=
    setMask F.PRT_PATH_COND ||| setMask F.PRT_LAST_UNDERLOAD ||| setMask F.PRT_IFLAG_DEADLINE ||| partNow |||
    partRsm ||| partTmp ||| alt_allCoilsOff ||| alt_onProt ||| alt_setPrtState ||| alt_countUnderload |||
    alt_openNext ||| alt_showTargets ||| alt_raiseSource

theorem alters_execDeadlineExpiry {μ : Nat} {s₀ : State} (s : State) (hm : Sub alt_execDeadlineExpiry μ)
    (hk : Alters μ s₀ s) : AltersTo μ s₀ (execDeadlineExpiry s) := by
  unfold execDeadlineExpiry
  try dsimp only
  repeat' first
    | simp only [alters_tmp (sub_bit hm (i := 24) (by decide +kernel))]
    | (with_reducible first | assumption | apply alters_advanceTo | apply alters_allCoilsOff | apply alters_onProt)
    | (with_reducible first | apply alters_set | apply alters_setPrtState | apply alters_setOn | apply alters_countUnderload)
    | (with_reducible first | apply alters_openNext | apply alters_showTargets | apply alters_flagEvent | apply alters_raiseSource)
    | (with_reducible first | apply alters_next | apply altersTo_ite)
    | exact sub_trans (by decide +kernel) hm
    | split

/-- What `State.cmpHold` may alter. -/
def alt_cmpHold : Nat := alt_onLine

theorem alters_cmpHold {μ : Nat} {s₀ : State} (s : State) (hm : Sub alt_cmpHold μ)
    (hk : Alters μ s₀ s) : Alters μ s₀ (State.cmpHold s) := by
  unfold State.cmpHold
  try dsimp only
  repeat' first
    | (with_reducible first | assumption | apply alters_onLine)
    | exact sub_trans (by decide +kernel) hm
    | split

/-- What `State.cmpBoundary` may alter. -/
def alt_cmpBoundary : Nat := pubMask 0x11 ||| alt_cmpHold ||| alt_onLine

theorem alters_cmpBoundary {μ : Nat} {s₀ : State} (s : State) (seq : Word) (hm : Sub alt_cmpBoundary μ)
    (hk : Alters μ s₀ s) : Alters μ s₀ (State.cmpBoundary s seq) := by
  unfold State.cmpBoundary
  try dsimp only
  repeat' first
    | (with_reducible first | assumption | apply alters_publish | apply alters_cmpHold | apply alters_onLine)
    | exact sub_trans (by decide +kernel) hm
    | split

/-! ### Diagnostics.lean -/

/-- What `State.showTests` may alter. -/
def alt_showTests : Nat :=
    setMask F.CMP_PSTAT_TESTING ||| setMask F.CMP_OWST_QUEUED ||| setMask F.CMP_OWST_TESTING ||| setMask
    F.CMP_PSTAT_HARNESS ||| setMask F.CMP_PSTAT_SWEPT

theorem alters_showTests {μ : Nat} {s₀ : State} (s : State) (hm : Sub alt_showTests μ)
    (hk : Alters μ s₀ s) : Alters μ s₀ (State.showTests s) := by
  unfold State.showTests
  try dsimp only
  repeat' first
    | (with_reducible first | assumption | apply alters_setOn | apply alters_set)
    | exact sub_trans (by decide +kernel) hm
    | split

/-- What `State.requeue` may alter. -/
def alt_requeue : Nat := alt_onDie

theorem alters_requeue {μ : Nat} {s₀ : State} (s : State) (k : ℕ) (t : TapTest) (hm : Sub alt_requeue μ)
    (hk : Alters μ s₀ s) : Alters μ s₀ (State.requeue s k t) := by
  unfold State.requeue
  try dsimp only
  repeat' first
    | (with_reducible first | assumption | apply alters_onDie)
    | exact sub_trans (by decide +kernel) hm
    | split

/-- What `State.abandonTest` may alter. -/
def alt_abandonTest : Nat := alt_requeue ||| alt_onDie

theorem alters_abandonTest {μ : Nat} {s₀ : State} (s : State) (k : ℕ) (hm : Sub alt_abandonTest μ)
    (hk : Alters μ s₀ s) : Alters μ s₀ (State.abandonTest s k) := by
  unfold State.abandonTest
  try dsimp only
  repeat' first
    | (with_reducible first | assumption | apply alters_requeue | apply alters_onDie)
    | exact sub_trans (by decide +kernel) hm
    | split

/-- What `State.setHarness` may alter. -/
def alt_setHarness : Nat :=
    setMask F.CMP_IFLAG_HARNESS ||| setMask F.CMP_OWST_HARNESS ||| alt_slotsBefore ||| alt_showTests |||
    alt_slotsAfter

theorem alters_setHarness {μ : Nat} {s₀ : State} (s : State) (k : ℕ) (v : Bool) (hm : Sub alt_setHarness μ)
    (hk : Alters μ s₀ s) : Alters μ s₀ (State.setHarness s k v) := by
  unfold State.setHarness
  try dsimp only
  repeat' first
    | intro _
    | (with_reducible first | assumption | apply alters_applyIf | apply alters_slotsBefore | apply alters_showTests)
    | (with_reducible first | apply alters_flag | apply alters_set | apply alters_slotsAfter | apply alters_ite)
    | exact sub_trans (by decide +kernel) hm
    | split

/-- What `State.keepEstimates` may alter. -/
def alt_keepEstimates : Nat := alt_onDie

theorem alters_keepEstimates {μ : Nat} {s₀ : State} (s : State) (k : ℕ) (base : ℕ → ℤ × ℤ) (hm : Sub alt_keepEstimates μ)
    (hk : Alters μ s₀ s) : Alters μ s₀ (State.keepEstimates s k base) := by
  unfold State.keepEstimates
  try dsimp only
  repeat' first
    | (with_reducible first | assumption | apply alters_onDie)
    | exact sub_trans (by decide +kernel) hm
    | split

/-- What `State.keepSpanMode` may alter. -/
def alt_keepSpanMode : Nat := alt_onDie

theorem alters_keepSpanMode {μ : Nat} {s₀ : State} (s : State) (k : ℕ) (hm : Sub alt_keepSpanMode μ)
    (hk : Alters μ s₀ s) : Alters μ s₀ (State.keepSpanMode s k) := by
  unfold State.keepSpanMode
  try dsimp only
  repeat' first
    | (with_reducible first | assumption | apply alters_onDie)
    | exact sub_trans (by decide +kernel) hm
    | split

/-- What `State.suspectTap` may alter. -/
def alt_suspectTap : Nat := setMask F.CMP_IFLAG_SUSPECT ||| partRsm ||| alt_onDie ||| alt_enterTap ||| alt_abandonTest

theorem alters_suspectTap {μ : Nat} {s₀ : State} (s : State) (k : ℕ) (t : ℕ) (hm : Sub alt_suspectTap μ)
    (hk : Alters μ s₀ s) : Alters μ s₀ (State.suspectTap s k t) := by
  unfold State.suspectTap
  try dsimp only
  repeat' first
    | (with_reducible first | assumption | apply alters_onDie | apply alters_flagEvent | apply alters_enterTap | apply alters_abandonTest)
    | (with_reducible first | apply alters_ite)
    | exact sub_trans (by decide +kernel) hm
    | split

/-- What `State.evalDie` may alter. -/
def alt_evalDie : Nat := alt_suspectTap ||| alt_keepSpanMode ||| alt_keepEstimates

theorem alters_evalDie {μ : Nat} {s₀ : State} (s : State) (k : ℕ) (hm : Sub alt_evalDie μ)
    (hk : Alters μ s₀ s) : Alters μ s₀ (State.evalDie s k) := by
  unfold State.evalDie
  try dsimp only
  repeat' first
    | intro _
    | (with_reducible first | assumption | apply alters_suspectTap | apply alters_keepSpanMode | apply alters_keepEstimates)
    | (with_reducible first | apply alters_ite | apply alters_foldl)
    | exact sub_trans (by decide +kernel) hm
    | split

/-- What `State.evalPublication` may alter. -/
def alt_evalPublication : Nat := partFlt ||| alt_showTests ||| alt_evalDie ||| alt_protEval

theorem alters_evalPublication {μ : Nat} {s₀ : State} (s : State) (hm : Sub alt_evalPublication μ)
    (hk : Alters μ s₀ s) : Alters μ s₀ (State.evalPublication s) := by
  unfold State.evalPublication
  try dsimp only
  repeat' first
    | intro _
    | simp only [alters_flt (sub_bit hm (i := 15) (by decide +kernel))]
    | (with_reducible first | assumption | apply alters_showTests | apply alters_evalDie | apply alters_protEval | apply alters_foldl)
    | exact sub_trans (by decide +kernel) hm
    | split

/-- What `execSweepStart` may alter. -/
def alt_execSweepStart : Nat := partNow ||| alt_onLine ||| alt_onDie

theorem alters_execSweepStart {μ : Nat} {s₀ : State} (s : State) (hm : Sub alt_execSweepStart μ)
    (hk : Alters μ s₀ s) : AltersTo μ s₀ (execSweepStart s) := by
  unfold execSweepStart
  try dsimp only
  repeat' first
    | intro _
    | (with_reducible first | assumption | apply alters_advanceTo | apply alters_onLine | apply alters_onDie | apply alters_next)
    | (with_reducible first | apply alters_ite | apply altersTo_ite | apply alters_foldl)
    | exact sub_trans (by decide +kernel) hm
    | split

/-- What `State.writeOwreq` may alter. -/
def alt_writeOwreq : Nat := alt_showTests ||| alt_onDie

theorem alters_writeOwreq {μ : Nat} {s₀ : State} (s : State) (v : Word) (hm : Sub alt_writeOwreq μ)
    (hk : Alters μ s₀ s) : Alters μ s₀ (State.writeOwreq s v).1 := by
  unfold State.writeOwreq
  try dsimp only
  repeat' first
    | (with_reducible first | assumption | apply alters_showTests | apply alters_onDie)
    | exact sub_trans (by decide +kernel) hm
    | split

/-- What `State.beginTest` may alter. -/
def alt_beginTest : Nat := alt_onDie ||| alt_showTests ||| alt_openWhere

theorem alters_beginTest {μ : Nat} {s₀ : State} (s : State) (k : ℕ) (w : PendingTest) (hm : Sub alt_beginTest μ)
    (hk : Alters μ s₀ s) : Alters μ s₀ (State.beginTest s k w) := by
  unfold State.beginTest
  try dsimp only
  repeat' first
    | (with_reducible first | assumption | apply alters_onDie | apply alters_showTests | apply alters_openWhere)
    | exact sub_trans (by decide +kernel) hm
    | split

/-- What `execTapTestStart` may alter. -/
def alt_execTapTestStart : Nat := alt_beginTest ||| alt_onDie

theorem alters_execTapTestStart {μ : Nat} {s₀ : State} (k : ℕ) (s : State) (hm : Sub alt_execTapTestStart μ)
    (hk : Alters μ s₀ s) : AltersTo μ s₀ (execTapTestStart k s) := by
  unfold execTapTestStart
  try dsimp only
  repeat' first
    | (with_reducible first | assumption | apply alters_beginTest | apply alters_onDie | apply alters_next | apply altersTo_ite)
    | exact sub_trans (by decide +kernel) hm
    | split

/-- What `execTapWindowEnd` may alter. -/
def alt_execTapWindowEnd : Nat := alt_onDie

theorem alters_execTapWindowEnd {μ : Nat} {s₀ : State} (k : ℕ) (s : State) (hm : Sub alt_execTapWindowEnd μ)
    (hk : Alters μ s₀ s) : AltersTo μ s₀ (execTapWindowEnd k s) := by
  unfold execTapWindowEnd
  try dsimp only
  repeat' first
    | (with_reducible first | assumption | apply alters_onDie | apply alters_next | apply altersTo_ite)
    | exact sub_trans (by decide +kernel) hm
    | split

/-- What `State.testBoundary` may alter. -/
def alt_testBoundary : Nat := alt_onDie ||| alt_showTests

theorem alters_testBoundary {μ : Nat} {s₀ : State} (s : State) (k : ℕ) (hm : Sub alt_testBoundary μ)
    (hk : Alters μ s₀ s) : Alters μ s₀ (State.testBoundary s k) := by
  unfold State.testBoundary
  try dsimp only
  repeat' first
    | (with_reducible first | assumption | apply alters_onDie | apply alters_showTests | apply alters_ite)
    | exact sub_trans (by decide +kernel) hm
    | split

/-- What `State.captureTests` may alter. -/
def alt_captureTests : Nat := alt_onDie

theorem alters_captureTests {μ : Nat} {s₀ : State} (s : State) (k : ℕ) (n : ℕ) (hm : Sub alt_captureTests μ)
    (hk : Alters μ s₀ s) : Alters μ s₀ (State.captureTests s k n) := by
  unfold State.captureTests
  try dsimp only
  repeat' first
    | (with_reducible first | assumption | apply alters_onDie)
    | exact sub_trans (by decide +kernel) hm
    | split

/-- What `State.showLast` may alter. -/
def alt_showLast : Nat := setMask F.CMP_OWLAST_OUT

theorem alters_showLast {μ : Nat} {s₀ : State} (s : State) (k : ℕ) (t : ℕ) (out : ℕ) (up : ℕ) (down : ℕ) (hm : Sub alt_showLast μ)
    (hk : Alters μ s₀ s) : Alters μ s₀ (State.showLast s k t out up down) := by
  unfold State.showLast
  try dsimp only
  repeat' first
    | (with_reducible first | assumption | apply alters_putF | apply alters_put)
    | exact sub_trans (by decide +kernel) hm
    | split

/-- What `State.goodTest` may alter. -/
def alt_goodTest : Nat := partRsm ||| alt_onDie ||| alt_clearTap

theorem alters_goodTest {μ : Nat} {s₀ : State} (s : State) (k : ℕ) (t : ℕ) (hm : Sub alt_goodTest μ)
    (hk : Alters μ s₀ s) : Alters μ s₀ (State.goodTest s k t) := by
  unfold State.goodTest
  try dsimp only
  repeat' first
    | (with_reducible first | assumption | apply alters_onDie | apply alters_raise | apply alters_clearTap | apply alters_ite)
    | exact sub_trans (by decide +kernel) hm
    | split

/-- What `State.badTest` may alter. -/
def alt_badTest : Nat :=
    setMask F.CMP_IFLAG_INPUT ||| setMask F.CMP_IFLAG_BROKEN ||| partRsm ||| alt_enterTap ||| alt_onDie |||
    alt_keepEstimates ||| alt_setHarness

theorem alters_badTest {μ : Nat} {s₀ : State} (s : State) (k : ℕ) (t : ℕ) (state : ℕ) (cell : Option ℕ) (base : ℕ → ℤ × ℤ) (hm : Sub alt_badTest μ)
    (hk : Alters μ s₀ s) : Alters μ s₀ (State.badTest s k t state cell base) := by
  unfold State.badTest
  try dsimp only
  repeat' first
    | intro _
    | (with_reducible first | assumption | apply alters_enterTap | apply alters_onDie | apply alters_applyIf | apply alters_flagEvent)
    | (with_reducible first | apply alters_keepEstimates | apply alters_setHarness | apply alters_ite)
    | exact sub_trans (by decide +kernel) hm
    | split

/-- What `State.sweepEnd` may alter. -/
def alt_sweepEnd : Nat :=
    setMask F.CMP_OWST_SWEPT ||| setMask F.CMP_IFLAG_SWEEP ||| alt_onLine ||| alt_onDie ||| alt_setHarness

theorem alters_sweepEnd {μ : Nat} {s₀ : State} (s : State) (k : ℕ) (hm : Sub alt_sweepEnd μ)
    (hk : Alters μ s₀ s) : Alters μ s₀ (State.sweepEnd s k) := by
  unfold State.sweepEnd
  try dsimp only
  repeat' first
    | intro _
    | (with_reducible first | assumption | apply alters_set | apply alters_onLine | apply alters_onDie | apply alters_applyIf)
    | (with_reducible first | apply alters_setHarness | apply alters_flag | apply alters_ite)
    | exact sub_trans (by decide +kernel) hm
    | split

/-- What `State.concludeTest` may alter. -/
def alt_concludeTest : Nat := alt_keepEstimates ||| alt_goodTest ||| alt_badTest ||| alt_sweepEnd ||| alt_keepSpanMode

theorem alters_concludeTest {μ : Nat} {s₀ : State} (s : State) (k : ℕ) (t : TapTest) (r : ℕ × Option ℕ) (hm : Sub alt_concludeTest μ)
    (hk : Alters μ s₀ s) : Alters μ s₀ (State.concludeTest s k t r) := by
  unfold State.concludeTest
  try dsimp only
  repeat' first
    | intro _
    | (with_reducible first | assumption | apply alters_keepEstimates | apply alters_goodTest | apply alters_badTest)
    | (with_reducible first | apply alters_applyIf | apply alters_sweepEnd | apply alters_keepSpanMode | apply alters_ite)
    | exact sub_trans (by decide +kernel) hm
    | split

/-- What `State.repeatTest` may alter. -/
def alt_repeatTest : Nat := alt_abandonTest ||| alt_requeue ||| alt_onDie

theorem alters_repeatTest {μ : Nat} {s₀ : State} (s : State) (k : ℕ) (t : TapTest) (hm : Sub alt_repeatTest μ)
    (hk : Alters μ s₀ s) : Alters μ s₀ (State.repeatTest s k t) := by
  unfold State.repeatTest
  try dsimp only
  repeat' first
    | (with_reducible first | assumption | apply alters_abandonTest | apply alters_requeue | apply alters_onDie | apply alters_ite)
    | exact sub_trans (by decide +kernel) hm
    | split

/-- What `execTapTestDecide.decided` may alter. -/
def alt_execTapTestDecide_decided : Nat :=
    alt_showLast ||| alt_onDie ||| alt_showTests ||| alt_repeatTest ||| alt_concludeTest ||| alt_requeue

theorem alters_execTapTestDecide_decided {μ : Nat} {s₀ : State} (k : ℕ) (s : State) (hm : Sub alt_execTapTestDecide_decided μ)
    (hk : Alters μ s₀ s) : AltersTo μ s₀ (execTapTestDecide.decided k s) := by
  unfold execTapTestDecide.decided
  try dsimp only
  repeat' first
    | (with_reducible first | assumption | apply alters_showLast | apply alters_onDie | apply alters_showTests | apply alters_repeatTest)
    | (with_reducible first | apply alters_concludeTest | apply alters_requeue | apply alters_next | apply alters_ite)
    | (with_reducible first | apply altersTo_ite)
    | exact sub_trans (by decide +kernel) hm
    | split

/-- What `execTapTestDecide` may alter. -/
def alt_execTapTestDecide : Nat := alt_showTests ||| alt_requeue ||| alt_onDie ||| alt_execTapTestDecide_decided

theorem alters_execTapTestDecide {μ : Nat} {s₀ : State} (k : ℕ) (s : State) (hm : Sub alt_execTapTestDecide μ)
    (hk : Alters μ s₀ s) : AltersTo μ s₀ (execTapTestDecide k s) := by
  unfold execTapTestDecide
  try dsimp only
  repeat' first
    | (with_reducible first | assumption | apply alters_showTests | apply alters_requeue | apply alters_onDie | apply alters_execTapTestDecide_decided)
    | (with_reducible first | apply alters_next | apply altersTo_ite)
    | exact sub_trans (by decide +kernel) hm
    | split

/-- What `State.captureSpans` may alter. -/
def alt_captureSpans : Nat := alt_onDie

theorem alters_captureSpans {μ : Nat} {s₀ : State} (s : State) (k : ℕ) (hm : Sub alt_captureSpans μ)
    (hk : Alters μ s₀ s) : Alters μ s₀ (State.captureSpans s k) := by
  unfold State.captureSpans
  try dsimp only
  repeat' first
    | (with_reducible first | assumption | apply alters_onDie)
    | exact sub_trans (by decide +kernel) hm
    | split

/-- What `State.publishSpan` may alter. -/
def alt_publishSpan : Nat :=
    arrayMask F.CMP_TAP_SPAN ||| arrayMask F.CMP_TAP_SPANERR ||| setMask F.CMP_IFLAG_SPAN ||| partRsm

theorem alters_publishSpan {μ : Nat} {s₀ : State} (s : State) (k : ℕ) (v : List ℤ) (g : ℕ × ℕ) (span : ℤ) (hm : Sub alt_publishSpan μ)
    (hk : Alters μ s₀ s) : Alters μ s₀ (State.publishSpan s k v g span) := by
  unfold State.publishSpan
  try dsimp only
  repeat' first
    | intro _
    | (with_reducible first | assumption | apply alters_applyIf | apply alters_flagEvent | apply alters_set | apply alters_setOn)
    | (with_reducible first | apply alters_foldl)
    | exact sub_trans (by decide +kernel) hm
    | (with_reducible refine sub_chain (setMask_at _ _) ?_; (try simp only [arrayMask_on]); first | assumption | exact sub_trans (by decide +kernel) hm)
    | split

/-- What `State.publishSpans` may alter. -/
def alt_publishSpans : Nat := alt_publishSpan

theorem alters_publishSpans {μ : Nat} {s₀ : State} (s : State) (k : ℕ) (f : DieFrame) (hm : Sub alt_publishSpans μ)
    (hk : Alters μ s₀ s) : Alters μ s₀ (State.publishSpans s k f) := by
  unfold State.publishSpans
  try dsimp only
  repeat' first
    | intro _
    | (with_reducible first | assumption | apply alters_publishSpan | apply alters_foldl)
    | exact sub_trans (by decide +kernel) hm
    | split

end Sys2Proof.Machine
end

