-- ==== Sys2Proof/Laws/Alters4.lean ====
section
/-! SUPPORT. What the operations of Rosemary.lean, Power.lean, Thermal.lean, Shown.lean, Frame.lean, Access.lean may alter (see `Alters`). -/
namespace Sys2Proof.Machine
open Host
set_option linter.unreachableTactic false
set_option linter.unusedTactic false
set_option linter.unusedSimpArgs false
set_option linter.unusedVariables false
set_option Elab.async false

/-! ### Rosemary.lean -/

/-- What `State.countLost` may alter. -/
def alt_countLost : Nat := setMask F.RSM_LOST_OTHER ||| partRsm

theorem alters_countLost {μ : Nat} {s₀ : State} (s : State) (page : ℕ) (low : EventLow) (n : ℕ) (hm : Sub alt_countLost μ)
    (hk : Alters μ s₀ s) : Alters μ s₀ (State.countLost s page low n) := by
  unfold State.countLost
  try dsimp only
  repeat' first
    | simp only [alters_rsm (sub_bit hm (i := 13) (by decide +kernel))]
    | (with_reducible first | assumption | apply alters_set | apply alters_ite)
    | exact sub_trans (by decide +kernel) hm
    | split

/-- What `State.showFill` may alter. -/
def alt_showFill : Nat := setMask F.RSM_FILL_USED ||| setMask F.RSM_FILL_STAGE

theorem alters_showFill {μ : Nat} {s₀ : State} (s : State) (hm : Sub alt_showFill μ)
    (hk : Alters μ s₀ s) : Alters μ s₀ (State.showFill s) := by
  unfold State.showFill
  try dsimp only
  repeat' first
    | (with_reducible first | assumption | apply alters_set)
    | exact sub_trans (by decide +kernel) hm
    | split

/-- What `State.noteCause` may alter. -/
def alt_noteCause : Nat := partCyl

theorem alters_noteCause {μ : Nat} {s₀ : State} (s : State) (e : Event) (seq : ℕ) (hm : Sub alt_noteCause μ)
    (hk : Alters μ s₀ s) : Alters μ s₀ (State.noteCause s e seq) := by
  unfold State.noteCause
  try dsimp only
  repeat' first
    | simp only [alters_cyl (sub_bit hm (i := 14) (by decide +kernel))]
    | (with_reducible first | assumption)
    | exact sub_trans (by decide +kernel) hm
    | split

/-- What `State.stage` may alter. -/
def alt_stage : Nat :=
    setMask F.RSM_HEAD_SEQ ||| setMask F.RSM_LOST_TOTAL ||| setMask F.RSM_IFLAG_SUPPRESS ||| partRsm |||
    alt_noteCause ||| alt_countLost

theorem alters_stage {μ : Nat} {s₀ : State} (s : State) (e : Event) (hm : Sub alt_stage μ)
    (hk : Alters μ s₀ s) : Alters μ s₀ (State.stage s e) := by
  unfold State.stage
  try dsimp only
  repeat' first
    | intro _
    | simp only [alters_rsm (sub_bit hm (i := 13) (by decide +kernel))]
    | (with_reducible first | assumption | apply alters_noteCause | apply alters_set | apply alters_count | apply alters_countLost)
    | (with_reducible first | apply alters_applyIf | apply alters_flag | apply alters_ite)
    | exact sub_trans (by decide +kernel) hm
    | split

/-- What `State.dropRecord` may alter. -/
def alt_dropRecord : Nat := setMask F.RSM_IFLAG_DROP ||| setMask F.RSM_DROP_COUNT ||| partRsm ||| alt_countLost

theorem alters_dropRecord {μ : Nat} {s₀ : State} (s : State) (e : Event) (hm : Sub alt_dropRecord μ)
    (hk : Alters μ s₀ s) : Alters μ s₀ (State.dropRecord s e) := by
  unfold State.dropRecord
  try dsimp only
  repeat' first
    | simp only [alters_rsm (sub_bit hm (i := 13) (by decide +kernel))]
    | (with_reducible first | assumption | apply alters_flag | apply alters_count | apply alters_countLost)
    | exact sub_trans (by decide +kernel) hm
    | split

/-- What `State.acceptRecord` may alter. -/
def alt_acceptRecord : Nat :=
    setMask F.RSM_IFLAG_FULL ||| setMask F.RSM_PSTAT_FULL ||| alt_stage ||| alt_dropRecord ||| alt_showFill

theorem alters_acceptRecord {μ : Nat} {s₀ : State} (s : State) (e : Event) (hm : Sub alt_acceptRecord μ)
    (hk : Alters μ s₀ s) : Alters μ s₀ (State.acceptRecord s e) := by
  unfold State.acceptRecord
  try dsimp only
  repeat' first
    | (with_reducible first | assumption | apply alters_flag | apply alters_stage | apply alters_dropRecord | apply alters_setOn)
    | (with_reducible first | apply alters_showFill | apply alters_ite)
    | exact sub_trans (by decide +kernel) hm
    | split

/-- What `State.acceptOrDrop` may alter. -/
def alt_acceptOrDrop : Nat := alt_acceptRecord ||| alt_dropRecord

theorem alters_acceptOrDrop {μ : Nat} {s₀ : State} (s : State) (e : Event) (hm : Sub alt_acceptOrDrop μ)
    (hk : Alters μ s₀ s) : Alters μ s₀ (State.acceptOrDrop s e) := by
  unfold State.acceptOrDrop
  try dsimp only
  repeat' first
    | (with_reducible first | assumption | apply alters_acceptRecord | apply alters_dropRecord | apply alters_ite)
    | exact sub_trans (by decide +kernel) hm
    | split

/-- What `State.takeEvent` may alter. -/
def alt_takeEvent : Nat := partRsm ||| alt_acceptOrDrop

theorem alters_takeEvent {μ : Nat} {s₀ : State} (s : State) (e : Event) (hm : Sub alt_takeEvent μ)
    (hk : Alters μ s₀ s) : Alters μ s₀ (State.takeEvent s e) := by
  unfold State.takeEvent
  try dsimp only
  repeat' first
    | simp only [alters_rsm (sub_bit hm (i := 13) (by decide +kernel))]
    | (with_reducible first | assumption | apply alters_acceptOrDrop | apply alters_ite)
    | exact sub_trans (by decide +kernel) hm
    | split

/-- What `State.takeFirst` may alter. -/
def alt_takeFirst : Nat := partRsm ||| alt_takeEvent

theorem alters_takeFirst {μ : Nat} {s₀ : State} (s : State) (hm : Sub alt_takeFirst μ)
    (hk : Alters μ s₀ s) : Alters μ s₀ (State.takeFirst s) := by
  unfold State.takeFirst
  try dsimp only
  repeat' first
    | simp only [alters_rsm (sub_bit hm (i := 13) (by decide +kernel))]
    | (with_reducible first | assumption | apply alters_takeEvent)
    | exact sub_trans (by decide +kernel) hm
    | split

/-- What `execRecordAccept` may alter. -/
def alt_execRecordAccept : Nat := alt_withSlot ||| alt_takeFirst

theorem alters_execRecordAccept {μ : Nat} {s₀ : State} (s : State) (hm : Sub alt_execRecordAccept μ)
    (hk : Alters μ s₀ s) : AltersTo μ s₀ (execRecordAccept s) := by
  unfold execRecordAccept
  try dsimp only
  repeat' first
    | intro _
    | (with_reducible first | assumption | apply alters_withSlot | apply alters_takeFirst | apply alters_next | apply alters_ite)
    | exact sub_trans (by decide +kernel) hm
    | split

/-- What `State.takeOwn` may alter. -/
def alt_takeOwn : Nat := partRsm ||| alt_withSlot ||| alt_acceptOrDrop ||| alt_acquireLease

theorem alters_takeOwn {μ : Nat} {s₀ : State} (s : State) (e : Event) (hm : Sub alt_takeOwn μ)
    (hk : Alters μ s₀ s) : Alters μ s₀ (State.takeOwn s e) := by
  unfold State.takeOwn
  try dsimp only
  repeat' first
    | intro _
    | (with_reducible first | assumption | apply alters_withSlot | apply alters_acceptOrDrop | apply alters_acquireLease)
    | (with_reducible first | apply alters_send | apply alters_ite)
    | exact sub_trans (by decide +kernel) hm
    | split

/-- What `State.closeBucket` may alter. -/
def alt_closeBucket : Nat := partRsm ||| alt_takeOwn

theorem alters_closeBucket {μ : Nat} {s₀ : State} (s : State) (b : Bucket) (hm : Sub alt_closeBucket μ)
    (hk : Alters μ s₀ s) : Alters μ s₀ (State.closeBucket s b) := by
  unfold State.closeBucket
  try dsimp only
  repeat' first
    | simp only [alters_rsm (sub_bit hm (i := 13) (by decide +kernel))]
    | (with_reducible first | assumption | apply alters_takeOwn | apply alters_ite)
    | exact sub_trans (by decide +kernel) hm
    | split

/-- What `execRateWindowClose` may alter. -/
def alt_execRateWindowClose : Nat := partNow ||| alt_closeBucket

theorem alters_execRateWindowClose {μ : Nat} {s₀ : State} (s : State) (hm : Sub alt_execRateWindowClose μ)
    (hk : Alters μ s₀ s) : AltersTo μ s₀ (execRateWindowClose s) := by
  unfold execRateWindowClose
  try dsimp only
  repeat' first
    | (with_reducible first | assumption | apply alters_closeBucket | apply alters_advanceTo | apply alters_next)
    | exact sub_trans (by decide +kernel) hm
    | split

/-- What `State.triggerFlush` may alter. -/
def alt_triggerFlush : Nat := partRsm

theorem alters_triggerFlush {μ : Nat} {s₀ : State} (s : State) (hm : Sub alt_triggerFlush μ)
    (hk : Alters μ s₀ s) : Alters μ s₀ (State.triggerFlush s) := by
  unfold State.triggerFlush
  try dsimp only
  repeat' first
    | simp only [alters_rsm (sub_bit hm (i := 13) (by decide +kernel))]
    | (with_reducible first | assumption)
    | exact sub_trans (by decide +kernel) hm
    | split

/-- What `execFlushPeriodic` may alter. -/
def alt_execFlushPeriodic : Nat := partNow ||| alt_triggerFlush

theorem alters_execFlushPeriodic {μ : Nat} {s₀ : State} (s : State) (hm : Sub alt_execFlushPeriodic μ)
    (hk : Alters μ s₀ s) : AltersTo μ s₀ (execFlushPeriodic s) := by
  unfold execFlushPeriodic
  try dsimp only
  repeat' first
    | (with_reducible first | assumption | apply alters_triggerFlush | apply alters_advanceTo | apply alters_next)
    | (with_reducible first | apply altersTo_ite)
    | exact sub_trans (by decide +kernel) hm
    | split

/-- What `execFlushStart` may alter. -/
def alt_execFlushStart : Nat := setMask F.RSM_PSTAT_FLUSHING ||| partRsm ||| alt_acquireLease

theorem alters_execFlushStart {μ : Nat} {s₀ : State} (s : State) (hm : Sub alt_execFlushStart μ)
    (hk : Alters μ s₀ s) : AltersTo μ s₀ (execFlushStart s) := by
  unfold execFlushStart
  try dsimp only
  repeat' first
    | simp only [alters_rsm (sub_bit hm (i := 13) (by decide +kernel))]
    | (with_reducible first | assumption | apply alters_acquireLease | apply alters_setOn | apply alters_next | apply altersTo_ite)
    | exact sub_trans (by decide +kernel) hm
    | split

/-- What `State.flushUpTo` may alter. -/
def alt_flushUpTo : Nat :=
    setMask F.RSM_FLUSHED_SEQ ||| setMask F.RSM_FIRST_SEQ ||| setMask F.RSM_IFLAG_CLASS23 ||| setMask
    F.RSM_IFLAG_NEARFULL ||| setMask F.RSM_PSTAT_NEARFULL ||| partRsm ||| alt_showFill

theorem alters_flushUpTo {μ : Nat} {s₀ : State} (s : State) (all : Bool) (hm : Sub alt_flushUpTo μ)
    (hk : Alters μ s₀ s) : Alters μ s₀ (State.flushUpTo s all) := by
  unfold State.flushUpTo
  try dsimp only
  repeat' first
    | simp only [alters_rsm (sub_bit hm (i := 13) (by decide +kernel))]
    | (with_reducible first | assumption | apply alters_set | apply alters_flag | apply alters_setOn | apply alters_showFill)
    | (with_reducible first | apply alters_ite)
    | exact sub_trans (by decide +kernel) hm
    | split

/-- What `State.overflowSummary` may alter. -/
def alt_overflowSummary : Nat := partRsm ||| alt_takeOwn

theorem alters_overflowSummary {μ : Nat} {s₀ : State} (s : State) (hm : Sub alt_overflowSummary μ)
    (hk : Alters μ s₀ s) : Alters μ s₀ (State.overflowSummary s) := by
  unfold State.overflowSummary
  try dsimp only
  repeat' first
    | simp only [alters_rsm (sub_bit hm (i := 13) (by decide +kernel))]
    | (with_reducible first | assumption | apply alters_takeOwn | apply alters_ite)
    | exact sub_trans (by decide +kernel) hm
    | split

/-- What `State.clearRosemary` may alter. -/
def alt_clearRosemary : Nat :=
    setMask F.RSM_PSTAT_FULL ||| setMask F.RSM_LOST_OTHER ||| setMask F.RSM_LOST_TOTAL ||| setMask
    F.RSM_PSTAT_NEARFULL ||| setMask F.RSM_FIRST_SEQ ||| setMask F.RSM_FLUSHED_SEQ ||| setMask F.RSM_HEAD_SEQ |||
    setMask F.RSM_IFLAG_CLEARED ||| partRsm ||| alt_showFill

theorem alters_clearRosemary {μ : Nat} {s₀ : State} (s : State) (hm : Sub alt_clearRosemary μ)
    (hk : Alters μ s₀ s) : Alters μ s₀ (State.clearRosemary s) := by
  unfold State.clearRosemary
  try dsimp only
  repeat' first
    | simp only [alters_rsm (sub_bit hm (i := 13) (by decide +kernel))]
    | (with_reducible first | assumption | apply alters_setOn | apply alters_set | apply alters_showFill | apply alters_flag)
    | exact sub_trans (by decide +kernel) hm
    | split

/-- What `State.endFlush` may alter. -/
def alt_endFlush : Nat :=
    setMask F.RSM_PSTAT_FLUSHING ||| partRsm ||| alt_flushUpTo ||| alt_overflowSummary ||| alt_releasePort |||
    alt_clearRosemary

theorem alters_endFlush {μ : Nat} {s₀ : State} (s : State) (hm : Sub alt_endFlush μ)
    (hk : Alters μ s₀ s) : Alters μ s₀ (State.endFlush s) := by
  unfold State.endFlush
  try dsimp only
  repeat' first
    | intro _
    | simp only [alters_rsm (sub_bit hm (i := 13) (by decide +kernel))]
    | (with_reducible first | assumption | apply alters_flushUpTo | apply alters_setOn | apply alters_overflowSummary)
    | (with_reducible first | apply alters_releasePort | apply alters_applyIf | apply alters_clearRosemary)
    | exact sub_trans (by decide +kernel) hm
    | split

/-- What `execFlushDone` may alter. -/
def alt_execFlushDone : Nat := alt_acquireLease ||| alt_endFlush

theorem alters_execFlushDone {μ : Nat} {s₀ : State} (s : State) (hm : Sub alt_execFlushDone μ)
    (hk : Alters μ s₀ s) : AltersTo μ s₀ (execFlushDone s) := by
  unfold execFlushDone
  try dsimp only
  repeat' first
    | (with_reducible first | assumption | apply alters_acquireLease | apply alters_endFlush | apply alters_next | apply alters_ite)
    | (with_reducible first | apply altersTo_ite)
    | exact sub_trans (by decide +kernel) hm
    | split

/-- What `State.drainInbox` may alter. -/
def alt_drainInbox : Nat := alt_takeEvent

theorem alters_drainInbox {μ : Nat} {s₀ : State} (l : List Event) (s : State) (hm : Sub alt_drainInbox μ) (hk : Alters μ s₀ s) :
    Alters μ s₀ (State.drainInbox l s) := by
  induction l generalizing s with
  | nil => exact hk
  | cons e l ih => exact ih _ (alters_takeEvent s e hm hk)

/-- What `State.takeInbox` may alter. -/
def alt_takeInbox : Nat := partRsm ||| alt_withSlot ||| alt_drainInbox

theorem alters_takeInbox {μ : Nat} {s₀ : State} (s : State) (hm : Sub alt_takeInbox μ)
    (hk : Alters μ s₀ s) : Alters μ s₀ (State.takeInbox s) := by
  unfold State.takeInbox
  try dsimp only
  repeat' first
    | intro _
    | simp only [alters_rsm (sub_bit hm (i := 13) (by decide +kernel))]
    | (with_reducible first | assumption | apply alters_withSlot | apply alters_drainInbox | apply alters_ite)
    | exact sub_trans (by decide +kernel) hm
    | split

/-- What `State.finalFlush` may alter. -/
def alt_finalFlush : Nat :=
    setMask F.RSM_PSTAT_FLUSHING ||| partRsm ||| alt_takeInbox ||| alt_closeBucket ||| alt_flushUpTo |||
    alt_overflowSummary ||| alt_clearRosemary

theorem alters_finalFlush {μ : Nat} {s₀ : State} (s : State) (closeWindows : Bool) (hm : Sub alt_finalFlush μ)
    (hk : Alters μ s₀ s) : Alters μ s₀ (State.finalFlush s closeWindows) := by
  unfold State.finalFlush
  try dsimp only
  repeat' first
    | intro _
    | simp only [alters_rsm (sub_bit hm (i := 13) (by decide +kernel))]
    | (with_reducible first | assumption | apply alters_takeInbox | apply alters_closeBucket | apply alters_flushUpTo)
    | (with_reducible first | apply alters_overflowSummary | apply alters_setOn | apply alters_applyIf | apply alters_clearRosemary)
    | (with_reducible first | apply alters_ite | apply alters_foldl)
    | exact sub_trans (by decide +kernel) hm
    | split

/-- What `execSnapshotExpiry` may alter. -/
def alt_execSnapshotExpiry : Nat := partNow ||| alt_onLink

theorem alters_execSnapshotExpiry {μ : Nat} {s₀ : State} (link : Link) (s : State) (hm : Sub alt_execSnapshotExpiry μ)
    (hk : Alters μ s₀ s) : AltersTo μ s₀ (execSnapshotExpiry link s) := by
  unfold execSnapshotExpiry
  try dsimp only
  repeat' first
    | (with_reducible first | assumption | apply alters_onLink | apply alters_advanceTo | apply alters_next)
    | exact sub_trans (by decide +kernel) hm
    | split

/-- What `State.writeSnap` may alter. -/
def alt_writeSnap : Nat := alt_onLink

theorem alters_writeSnap {μ : Nat} {s₀ : State} (s : State) (link : Link) (v : Word) (hm : Sub alt_writeSnap μ)
    (hk : Alters μ s₀ s) : Alters μ s₀ (State.writeSnap s link v) := by
  unfold State.writeSnap
  try dsimp only
  repeat' first
    | (with_reducible first | assumption | apply alters_onLink | apply alters_ite)
    | exact sub_trans (by decide +kernel) hm
    | split

/-- What `State.writeClear` may alter. -/
def alt_writeClear : Nat := partRsm ||| alt_clearRosemary

theorem alters_writeClear {μ : Nat} {s₀ : State} (s : State) (link : Link) (v : Word) (hm : Sub alt_writeClear μ)
    (hk : Alters μ s₀ s) : Alters μ s₀ (State.writeClear s link v).1 := by
  unfold State.writeClear
  try dsimp only
  repeat' first
    | simp only [alters_rsm (sub_bit hm (i := 13) (by decide +kernel))]
    | (with_reducible first | assumption | apply alters_clearRosemary)
    | exact sub_trans (by decide +kernel) hm
    | split

/-- What `State.ledgerStore` may alter. -/
def alt_ledgerStore : Nat :=
    setMask F.CYL_IFLAG_RECORD ||| setMask F.CYL_OLDEST_SEQ ||| setMask F.CYL_STAT_UNACK ||| setMask
    F.CYL_NEWEST_SEQ ||| setMask F.CYL_IFLAG_RESUMED ||| setMask F.CYL_STAT_GAP ||| setMask F.CYL_IFLAG_NEARFULL |||
    partCyl

theorem alters_ledgerStore {μ : Nat} {s₀ : State} (s : State) (c : CycleEnd) (hm : Sub alt_ledgerStore μ)
    (hk : Alters μ s₀ s) : Alters μ s₀ (State.ledgerStore s c) := by
  unfold State.ledgerStore
  try dsimp only
  repeat' first
    | intro _
    | simp only [alters_cyl (sub_bit hm (i := 14) (by decide +kernel))]
    | (with_reducible first | assumption | apply alters_applyIf | apply alters_flag | apply alters_set | apply alters_setOn)
    | exact sub_trans (by decide +kernel) hm
    | split

/-- What `State.ledgerLose` may alter. -/
def alt_ledgerLose : Nat :=
    setMask F.CYL_LOST_LIFE ||| setMask F.CYL_LOST_GAP ||| setMask F.CYL_IFLAG_GAP ||| setMask F.CYL_STAT_GAP |||
    partRsm

theorem alters_ledgerLose {μ : Nat} {s₀ : State} (s : State) (c : CycleEnd) (hm : Sub alt_ledgerLose μ)
    (hk : Alters μ s₀ s) : Alters μ s₀ (State.ledgerLose s c) := by
  unfold State.ledgerLose
  try dsimp only
  repeat' first
    | (with_reducible first | assumption | apply alters_count | apply alters_send | apply alters_flag | apply alters_setOn)
    | (with_reducible first | apply alters_set | apply alters_ite)
    | exact sub_trans (by decide +kernel) hm
    | split

/-- What `State.ledgerWrite` may alter. -/
def alt_ledgerWrite : Nat := arrayMask F.CYL_AXCNT_COUNT ||| alt_ledgerStore ||| alt_ledgerLose

theorem alters_ledgerWrite {μ : Nat} {s₀ : State} (s : State) (c : CycleEnd) (hm : Sub alt_ledgerWrite μ)
    (hk : Alters μ s₀ s) : Alters μ s₀ (State.ledgerWrite s c) := by
  unfold State.ledgerWrite
  try dsimp only
  repeat' first
    | (with_reducible first | assumption | apply alters_count | apply alters_ledgerStore | apply alters_ledgerLose)
    | (with_reducible first | apply alters_ite)
    | exact sub_trans (by decide +kernel) hm
    | (with_reducible refine sub_chain (setMask_at _ _) ?_; (try simp only [arrayMask_on]); first | assumption | exact sub_trans (by decide +kernel) hm)
    | split

/-- What `State.ledgerNext` may alter. -/
def alt_ledgerNext : Nat := partCyl ||| alt_ledgerWrite

theorem alters_ledgerNext {μ : Nat} {s₀ : State} (s : State) (hm : Sub alt_ledgerNext μ)
    (hk : Alters μ s₀ s) : Alters μ s₀ (State.ledgerNext s) := by
  unfold State.ledgerNext
  try dsimp only
  repeat' first
    | simp only [alters_cyl (sub_bit hm (i := 14) (by decide +kernel))]
    | (with_reducible first | assumption | apply alters_ledgerWrite)
    | exact sub_trans (by decide +kernel) hm
    | split

/-- What `State.ledgerAll` may alter. -/
def alt_ledgerAll : Nat := alt_ledgerNext ||| alt_takeInbox

theorem alters_ledgerAll {μ : Nat} {s₀ : State} (s : State) (hm : Sub alt_ledgerAll μ)
    (hk : Alters μ s₀ s) : Alters μ s₀ (State.ledgerAll s) := by
  unfold State.ledgerAll
  try dsimp only
  repeat' first
    | intro _
    | (with_reducible first | assumption | apply alters_ledgerNext | apply alters_takeInbox | apply alters_foldl)
    | exact sub_trans (by decide +kernel) hm
    | split

/-- What `execLedgerRecordWrite` may alter. -/
def alt_execLedgerRecordWrite : Nat := alt_acquireLease ||| alt_takeInbox ||| alt_ledgerNext ||| alt_releasePort

theorem alters_execLedgerRecordWrite {μ : Nat} {s₀ : State} (s : State) (hm : Sub alt_execLedgerRecordWrite μ)
    (hk : Alters μ s₀ s) : AltersTo μ s₀ (execLedgerRecordWrite s) := by
  unfold execLedgerRecordWrite
  try dsimp only
  repeat' first
    | (with_reducible first | assumption | apply alters_acquireLease | apply alters_takeInbox | apply alters_ledgerNext)
    | (with_reducible first | apply alters_releasePort | apply alters_next | apply alters_ite | apply altersTo_ite)
    | exact sub_trans (by decide +kernel) hm
    | split

/-- What `State.writeAck` may alter. -/
def alt_writeAck : Nat := setMask F.CYL_STAT_UNACK ||| setMask F.CYL_ACKED_SEQ ||| alt_saveAcked ||| alt_acquireLease

theorem alters_writeAck {μ : Nat} {s₀ : State} (s : State) (v : Word) (hm : Sub alt_writeAck μ)
    (hk : Alters μ s₀ s) : Alters μ s₀ (State.writeAck s v).1 := by
  unfold State.writeAck
  try dsimp only
  repeat' first
    | (with_reducible first | assumption | apply alters_set | apply alters_saveAcked | apply alters_acquireLease | apply alters_ite)
    | exact sub_trans (by decide +kernel) hm
    | split

/-! ### Power.lean -/

/-- What `State.onPwr` may alter. -/
def alt_onPwr : Nat := partPwr

theorem alters_onPwr {μ : Nat} {s₀ : State} (s : State) (f : PowerSt → PowerSt) (hm : Sub alt_onPwr μ)
    (hk : Alters μ s₀ s) : Alters μ s₀ (State.onPwr s f) := by
  unfold State.onPwr
  try dsimp only
  repeat' first
    | simp only [alters_pwr (sub_bit hm (i := 4) (by decide +kernel))]
    | (with_reducible first | assumption)
    | exact sub_trans (by decide +kernel) hm
    | split

/-- What `State.reach` may alter. -/
def alt_reach : Nat := setMask F.THY_FSEQ_SEQ ||| setMask F.PWR_BOOT_STEP ||| partNow ||| alt_onThy

theorem alters_reach {μ : Nat} {s₀ : State} (s : State) (t : ℕ) (hm : Sub alt_reach μ)
    (hk : Alters μ s₀ s) : Alters μ s₀ (State.reach s t) := by
  unfold State.reach
  try dsimp only
  repeat' first
    | intro _
    | (with_reducible first | assumption | apply alters_advanceTo | apply alters_onThy | apply alters_set | apply alters_applyIf)
    | (with_reducible first | apply alters_ite)
    | exact sub_trans (by decide +kernel) hm
    | split

/-- What `State.saveNow` may alter. -/
def alt_saveNow : Nat := partSaved ||| alt_saveValue ||| alt_journalWrite

theorem alters_saveNow {μ : Nat} {s₀ : State} (s : State) (hm : Sub alt_saveNow μ)
    (hk : Alters μ s₀ s) : Alters μ s₀ (State.saveNow s) := by
  unfold State.saveNow
  try dsimp only
  repeat' first
    | intro _
    | simp only [alters_saved (sub_bit hm (i := 29) (by decide +kernel))]
    | (with_reducible first | assumption | apply alters_saveValue | apply alters_journalWrite | apply alters_foldl)
    | exact sub_trans (by decide +kernel) hm
    | split

/-- What `execPeriodicSave` may alter. -/
def alt_execPeriodicSave : Nat := partNow ||| alt_saveNow

theorem alters_execPeriodicSave {μ : Nat} {s₀ : State} (s : State) (hm : Sub alt_execPeriodicSave μ)
    (hk : Alters μ s₀ s) : AltersTo μ s₀ (execPeriodicSave s) := by
  unfold execPeriodicSave
  try dsimp only
  repeat' first
    | (with_reducible first | assumption | apply alters_saveNow | apply alters_advanceTo | apply alters_next | apply altersTo_ite)
    | exact sub_trans (by decide +kernel) hm
    | split

/-- What `State.reportJournal` may alter. -/
def alt_reportJournal : Nat := setMask F.FLT_IFLAG_ROLLFWD ||| setMask F.FLT_IFLAG_DISCARD ||| partRsm

theorem alters_reportJournal {μ : Nat} {s₀ : State} (s : State) (done : ℕ) (left : List JournalEntry) (hm : Sub alt_reportJournal μ)
    (hk : Alters μ s₀ s) : Alters μ s₀ (State.reportJournal s done left) := by
  unfold State.reportJournal
  try dsimp only
  repeat' first
    | intro _
    | (with_reducible first | assumption | apply alters_applyIf | apply alters_flag | apply alters_listed)
    | exact sub_trans (by decide +kernel) hm
    | split

/-- What `State.train` may alter. -/
def alt_train : Nat :=
    arrayMask F.STK_DELAY_DELAY ||| setMask F.STK_SEGST_UP ||| setMask F.STK_IFLAG_SEG_DOWN ||| alt_onStk |||
    alt_defaultPaths

theorem alters_train {μ : Nat} {s₀ : State} (s : State) (x : StartUp) (hm : Sub alt_train μ)
    (hk : Alters μ s₀ s) : Alters μ s₀ (State.train s x) := by
  unfold State.train
  try dsimp only
  repeat' first
    | intro _
    | (with_reducible first | assumption | apply alters_set | apply alters_onStk | apply alters_defaultPaths | apply alters_applyIf)
    | (with_reducible first | apply alters_flag | apply alters_foldl)
    | exact sub_trans (by decide +kernel) hm
    | (with_reducible refine sub_chain (setMask_at _ _) ?_; (try simp only [arrayMask_on]); first | assumption | exact sub_trans (by decide +kernel) hm)
    | split

/-- What `State.coreStart` may alter. -/
def alt_coreStart : Nat :=
    setMask F.CMP_FLSTAT_ACTIVE ||| setMask F.PWR_BOOT_STEP ||| setMask F.FLT_PSTAT_DEGRADED ||| setMask
    F.FLT_MODE_MODE ||| setMask F.FLT_MODE_STARTUP ||| partFlt ||| alt_journalWrite ||| alt_onPwr

theorem alters_coreStart {μ : Nat} {s₀ : State} (s : State) (a : Bool) (b : Bool) (hm : Sub alt_coreStart μ)
    (hk : Alters μ s₀ s) : Alters μ s₀ (State.coreStart s a b) := by
  unfold State.coreStart
  try dsimp only
  repeat' first
    | simp only [alters_flt (sub_bit hm (i := 15) (by decide +kernel))]
    | (with_reducible first | assumption | apply alters_journalWrite | apply alters_onPwr | apply alters_set | apply alters_setOn)
    | (with_reducible first | apply alters_ite)
    | exact sub_trans (by decide +kernel) hm
    | split

/-- What `State.bootBanks` may alter. -/
def alt_bootBanks : Nat :=
    setMask F.PWR_BOOT_B_BAD ||| setMask F.PWR_BOOT_A_BAD ||| setMask F.SYS_DIEMAP_MD ||| setMask F.PWR_MDPWR_MD_ON
    ||| setMask F.PWR_BOOT_STEP ||| setMask F.PWR_BOOT_FALLBACK ||| setMask F.PWR_BOOT_BANK ||| setMask
    F.SYS_FWVER_BUILD ||| partRsm ||| alt_onFw ||| alt_showBanks ||| alt_onPwr ||| alt_bayStartUp ||| alt_sageStart

theorem alters_bootBanks {μ : Nat} {s₀ : State} (s : State) (hm : Sub alt_bootBanks μ)
    (hk : Alters μ s₀ s) : Alters μ s₀ (State.bootBanks s) := by
  unfold State.bootBanks
  try dsimp only
  repeat' first
    | intro _
    | (with_reducible first | assumption | apply alters_putF | apply alters_onFw | apply alters_showBanks | apply alters_setOn)
    | (with_reducible first | apply alters_onPwr | apply alters_set | apply alters_put | apply alters_bayStartUp | apply alters_sageStart)
    | (with_reducible first | apply alters_raise | apply alters_applyIf | apply alters_listed | apply alters_ite)
    | exact sub_trans (by decide +kernel) hm
    | split

/-- What `State.dieDone` may alter. -/
def alt_dieDone : Nat := setMask F.PWR_BOOT_STEP ||| alt_onPwr

theorem alters_dieDone {μ : Nat} {s₀ : State} (s : State) (k : ℕ) (hm : Sub alt_dieDone μ)
    (hk : Alters μ s₀ s) : Alters μ s₀ (State.dieDone s k) := by
  unfold State.dieDone
  try dsimp only
  repeat' first
    | intro _
    | (with_reducible first | assumption | apply alters_onPwr | apply alters_applyIf | apply alters_set)
    | exact sub_trans (by decide +kernel) hm
    | split

/-- What `State.finishBoot` may alter. -/
def alt_finishBoot : Nat := alt_bootBanks

theorem alters_finishBoot {μ : Nat} {s₀ : State} (s : State) (hm : Sub alt_finishBoot μ)
    (hk : Alters μ s₀ s) : Alters μ s₀ (State.finishBoot s) := by
  unfold State.finishBoot
  try dsimp only
  repeat' first
    | intro _
    | (with_reducible first | assumption | apply alters_applyIf | apply alters_bootBanks)
    | exact sub_trans (by decide +kernel) hm
    | split

/-- What `State.endSettling` may alter. -/
def alt_endSettling : Nat := alt_onPwr

theorem alters_endSettling {μ : Nat} {s₀ : State} (s : State) (k : ℕ) (hm : Sub alt_endSettling μ)
    (hk : Alters μ s₀ s) : Alters μ s₀ (State.endSettling s k) := by
  unfold State.endSettling
  try dsimp only
  repeat' first
    | (with_reducible first | assumption | apply alters_onPwr)
    | exact sub_trans (by decide +kernel) hm
    | split

/-- What `execMdieSettled` may alter. -/
def alt_execMdieSettled : Nat :=
    setMask F.PWR_MDPWR_MD_ON ||| setMask F.STK_ROUTE_ASLEEP ||| alt_reach ||| alt_onDie ||| alt_dieDone |||
    alt_markHealthy ||| alt_rejoinNext ||| alt_endSettling

theorem alters_execMdieSettled {μ : Nat} {s₀ : State} (k : ℕ) (s : State) (hm : Sub alt_execMdieSettled μ)
    (hk : Alters μ s₀ s) : AltersTo μ s₀ (execMdieSettled k s) := by
  unfold execMdieSettled
  try dsimp only
  repeat' first
    | (with_reducible first | assumption | apply alters_reach | apply alters_onDie | apply alters_set | apply alters_dieDone)
    | (with_reducible first | apply alters_markHealthy | apply alters_rejoinNext | apply alters_endSettling | apply alters_next)
    | (with_reducible first | apply altersTo_ite)
    | exact sub_trans (by decide +kernel) hm
    | split

/-- What `State.dieFailed` may alter. -/
def alt_dieFailed : Nat := setMask F.PWR_MDPWR_MD_ON ||| setMask F.PWR_MDPWR_MD_FAIL

theorem alters_dieFailed {μ : Nat} {s₀ : State} (s : State) (k : ℕ) (hm : Sub alt_dieFailed μ)
    (hk : Alters μ s₀ s) : Alters μ s₀ (State.dieFailed s k) := by
  unfold State.dieFailed
  try dsimp only
  repeat' first
    | (with_reducible first | assumption | apply alters_set)
    | exact sub_trans (by decide +kernel) hm
    | split

/-- What `execMdieSettleTimeout` may alter. -/
def alt_execMdieSettleTimeout : Nat :=
    partTmp ||| alt_reach ||| alt_onPwr ||| alt_dieDone ||| alt_dieFailed ||| alt_endSettling

theorem alters_execMdieSettleTimeout {μ : Nat} {s₀ : State} (k : ℕ) (s : State) (hm : Sub alt_execMdieSettleTimeout μ)
    (hk : Alters μ s₀ s) : AltersTo μ s₀ (execMdieSettleTimeout k s) := by
  unfold execMdieSettleTimeout
  try dsimp only
  repeat' first
    | intro _
    | simp only [alters_tmp (sub_bit hm (i := 24) (by decide +kernel))]
    | (with_reducible first | assumption | apply alters_applyIf | apply alters_reach | apply alters_onPwr | apply alters_dieDone)
    | (with_reducible first | apply alters_dieFailed | apply alters_endSettling | apply alters_next | apply altersTo_ite)
    | exact sub_trans (by decide +kernel) hm
    | split

/-- What `State.storeFailed` may alter. -/
def alt_storeFailed : Nat := setMask F.PWR_IFLAG_HUP_FAIL ||| setMask F.PWR_STAT_HUP_FAIL ||| partRsm

theorem alters_storeFailed {μ : Nat} {s₀ : State} (s : State) (hm : Sub alt_storeFailed μ)
    (hk : Alters μ s₀ s) : Alters μ s₀ (State.storeFailed s) := by
  unfold State.storeFailed
  try dsimp only
  repeat' first
    | (with_reducible first | assumption | apply alters_flagEvent | apply alters_setOn | apply alters_ite)
    | exact sub_trans (by decide +kernel) hm
    | split

/-- What `State.showStore` may alter. -/
def alt_showStore : Nat := setMask F.PWR_STAT_HUP_OK ||| alt_storeFailed

theorem alters_showStore {μ : Nat} {s₀ : State} (s : State) (ok : Bool) (hm : Sub alt_showStore μ)
    (hk : Alters μ s₀ s) : Alters μ s₀ (State.showStore s ok) := by
  unfold State.showStore
  try dsimp only
  repeat' first
    | intro _
    | (with_reducible first | assumption | apply alters_applyIf | apply alters_setOn | apply alters_storeFailed)
    | exact sub_trans (by decide +kernel) hm
    | split

/-- What `execHoldupStoreCharged` may alter. -/
def alt_execHoldupStoreCharged : Nat := alt_showStore

theorem alters_execHoldupStoreCharged {μ : Nat} {s₀ : State} (s : State) (hm : Sub alt_execHoldupStoreCharged μ)
    (hk : Alters μ s₀ s) : AltersTo μ s₀ (execHoldupStoreCharged s) := by
  unfold execHoldupStoreCharged
  try dsimp only
  repeat' first
    | (with_reducible first | assumption | apply alters_showStore | apply alters_next | apply altersTo_ite)
    | exact sub_trans (by decide +kernel) hm
    | split

/-- What `execHoldupTimeout` may alter. -/
def alt_execHoldupTimeout : Nat := alt_storeFailed ||| alt_reach

theorem alters_execHoldupTimeout {μ : Nat} {s₀ : State} (s : State) (hm : Sub alt_execHoldupTimeout μ)
    (hk : Alters μ s₀ s) : AltersTo μ s₀ (execHoldupTimeout s) := by
  unfold execHoldupTimeout
  try dsimp only
  repeat' first
    | (with_reducible first | assumption | apply alters_storeFailed | apply alters_reach | apply alters_next | apply altersTo_ite)
    | exact sub_trans (by decide +kernel) hm
    | split

/-- What `execSupplyLow` may alter. -/
def alt_execSupplyLow : Nat := setMask F.PWR_IFLAG_LOW ||| setMask F.PWR_STAT_LOW ||| partRsm

theorem alters_execSupplyLow {μ : Nat} {s₀ : State} (s : State) (hm : Sub alt_execSupplyLow μ)
    (hk : Alters μ s₀ s) : AltersTo μ s₀ (execSupplyLow s) := by
  unfold execSupplyLow
  try dsimp only
  repeat' first
    | (with_reducible first | assumption | apply alters_flagEvent | apply alters_setOn | apply alters_next | apply altersTo_ite)
    | exact sub_trans (by decide +kernel) hm
    | split

/-- What `execSupplyLowClear` may alter. -/
def alt_execSupplyLowClear : Nat := setMask F.PWR_STAT_LOW

theorem alters_execSupplyLowClear {μ : Nat} {s₀ : State} (s : State) (hm : Sub alt_execSupplyLowClear μ)
    (hk : Alters μ s₀ s) : AltersTo μ s₀ (execSupplyLowClear s) := by
  unfold execSupplyLowClear
  try dsimp only
  repeat' first
    | (with_reducible first | assumption | apply alters_setOn | apply alters_next | apply altersTo_ite)
    | exact sub_trans (by decide +kernel) hm
    | split

/-- What `execPwrWarn` may alter. -/
def alt_execPwrWarn : Nat :=
    setMask F.PWR_IFLAG_WARN_SET ||| setMask F.PWR_STAT_COMMIT_INH ||| setMask F.PWR_STAT_WARN ||| setMask
    F.PWR_EVCNT_WARNS ||| setMask F.SGE_WBSTAT_DEFER ||| alt_abortBrakeTests ||| alt_bayCopy ||| alt_triggerFlush

theorem alters_execPwrWarn {μ : Nat} {s₀ : State} (s : State) (hm : Sub alt_execPwrWarn μ)
    (hk : Alters μ s₀ s) : AltersTo μ s₀ (execPwrWarn s) := by
  unfold execPwrWarn
  try dsimp only
  repeat' first
    | intro _
    | (with_reducible first | assumption | apply alters_flag | apply alters_setOn | apply alters_count | apply alters_abortBrakeTests)
    | (with_reducible first | apply alters_bayCopy | apply alters_triggerFlush | apply alters_applyIf | apply alters_next)
    | (with_reducible first | apply altersTo_ite)
    | exact sub_trans (by decide +kernel) hm
    | split

/-- What `execPwrWarnClear` may alter. -/
def alt_execPwrWarnClear : Nat :=
    setMask F.PWR_IFLAG_WARN_CLR ||| setMask F.PWR_STAT_COMMIT_INH ||| setMask F.PWR_STAT_WARN ||| alt_onPwr

theorem alters_execPwrWarnClear {μ : Nat} {s₀ : State} (s : State) (hm : Sub alt_execPwrWarnClear μ)
    (hk : Alters μ s₀ s) : AltersTo μ s₀ (execPwrWarnClear s) := by
  unfold execPwrWarnClear
  try dsimp only
  repeat' first
    | intro _
    | (with_reducible first | assumption | apply alters_flag | apply alters_setOn | apply alters_applyIf | apply alters_onPwr)
    | (with_reducible first | apply alters_next | apply altersTo_ite)
    | exact sub_trans (by decide +kernel) hm
    | split

/-- What `State.outputsOff` may alter. -/
def alt_outputsOff : Nat :=
    setMask F.PWR_MDPWR_MD_ON ||| alt_raiseSource ||| alt_onPwr ||| alt_safetyEval ||| alt_loadsOff |||
    alt_bridgeOff ||| alt_chopperOff ||| alt_cutCycles

theorem alters_outputsOff {μ : Nat} {s₀ : State} (s : State) (phase : Phase) (hm : Sub alt_outputsOff μ)
    (hk : Alters μ s₀ s) : Alters μ s₀ (State.outputsOff s phase) := by
  unfold State.outputsOff
  try dsimp only
  repeat' first
    | intro _
    | (with_reducible first | assumption | apply alters_raiseSource | apply alters_onPwr | apply alters_safetyEval)
    | (with_reducible first | apply alters_loadsOff | apply alters_applyIf | apply alters_bridgeOff | apply alters_chopperOff)
    | (with_reducible first | apply alters_cutCycles | apply alters_set | apply alters_foldl)
    | exact sub_trans (by decide +kernel) hm
    | split

/-- What `State.journalDone` may alter. -/
def alt_journalDone : Nat := partFlt ||| partJournal

theorem alters_journalDone {μ : Nat} {s₀ : State} (s : State) (hm : Sub alt_journalDone μ)
    (hk : Alters μ s₀ s) : Alters μ s₀ (State.journalDone s) := by
  unfold State.journalDone
  try dsimp only
  repeat' first
    | simp only [alters_flt_journal (sub_bit hm (i := 15) (by decide +kernel)) (sub_bit hm (i := 30) (by decide +kernel))]
    | (with_reducible first | assumption)
    | exact sub_trans (by decide +kernel) hm
    | split

/-- What `State.portTasks` may alter. -/
def alt_portTasks : Nat :=
    alt_journalDone ||| alt_writebackStored ||| alt_acquireLease ||| alt_clearSlot ||| alt_saveAcked |||
    alt_finalFlush ||| alt_ledgerAll

theorem alters_portTasks {μ : Nat} {s₀ : State} (s : State) (closeWindows : Bool) (hm : Sub alt_portTasks μ)
    (hk : Alters μ s₀ s) : Alters μ s₀ (State.portTasks s closeWindows) := by
  unfold State.portTasks
  try dsimp only
  repeat' first
    | (with_reducible first | assumption | apply alters_journalDone | apply alters_writebackStored | apply alters_acquireLease)
    | (with_reducible first | apply alters_clearSlot | apply alters_saveAcked | apply alters_finalFlush | apply alters_ledgerAll)
    | (with_reducible first | apply alters_ite)
    | exact sub_trans (by decide +kernel) hm
    | split

/-- What `State.holdupTasks` may alter. -/
def alt_holdupTasks : Nat := alt_portTasks

theorem alters_holdupTasks {μ : Nat} {s₀ : State} (s : State) (hm : Sub alt_holdupTasks μ)
    (hk : Alters μ s₀ s) : Alters μ s₀ (State.holdupTasks s) := by
  unfold State.holdupTasks
  try dsimp only
  repeat' first
    | (with_reducible first | assumption | apply alters_portTasks)
    | exact sub_trans (by decide +kernel) hm
    | split

/-- What `execPwrFail` may alter. -/
def alt_execPwrFail : Nat :=
    setMask F.PWR_EVCNT_FAILS ||| partRsm ||| alt_outputsOff ||| alt_bayCopy ||| alt_countLife ||| alt_holdupTasks

theorem alters_execPwrFail {μ : Nat} {s₀ : State} (s : State) (hm : Sub alt_execPwrFail μ)
    (hk : Alters μ s₀ s) : AltersTo μ s₀ (execPwrFail s) := by
  unfold execPwrFail
  try dsimp only
  repeat' first
    | (with_reducible first | assumption | apply alters_outputsOff | apply alters_bayCopy | apply alters_listed | apply alters_countLife)
    | (with_reducible first | apply alters_holdupTasks | apply alters_next | apply alters_ite | apply altersTo_ite)
    | exact sub_trans (by decide +kernel) hm
    | split

/-- What `execCdieReset` may alter. -/
def alt_execCdieReset : Nat := alt_onPwr

theorem alters_execCdieReset {μ : Nat} {s₀ : State} (s : State) (hm : Sub alt_execCdieReset μ)
    (hk : Alters μ s₀ s) : AltersTo μ s₀ (execCdieReset s) := by
  unfold execCdieReset
  try dsimp only
  repeat' first
    | (with_reducible first | assumption | apply alters_onPwr | apply alters_next | apply altersTo_ite)
    | exact sub_trans (by decide +kernel) hm
    | split

/-- What `execVmOkChange` may alter. -/
def alt_execVmOkChange : Nat :=
    setMask F.PWR_IFLAG_VM ||| setMask F.PWR_STAT_VM_OK ||| setMask F.GDR_STAT_VMHARD ||| alt_safeAll

theorem alters_execVmOkChange {μ : Nat} {s₀ : State} (ok : Bool) (s : State) (hm : Sub alt_execVmOkChange μ)
    (hk : Alters μ s₀ s) : AltersTo μ s₀ (execVmOkChange ok s) := by
  unfold execVmOkChange
  try dsimp only
  repeat' first
    | (with_reducible first | assumption | apply alters_flag | apply alters_setOn | apply alters_safeAll | apply alters_next)
    | (with_reducible first | apply alters_ite | apply altersTo_ite)
    | exact sub_trans (by decide +kernel) hm
    | split

/-- What `execAddrChange` may alter. -/
def alt_execAddrChange : Nat := partRsm ||| partPins

theorem alters_execAddrChange {μ : Nat} {s₀ : State} (addr : ℕ) (s : State) (hm : Sub alt_execAddrChange μ)
    (hk : Alters μ s₀ s) : AltersTo μ s₀ (execAddrChange addr s) := by
  unfold execAddrChange
  try dsimp only
  repeat' first
    | simp only [alters_pins (sub_bit hm (i := 5) (by decide +kernel))]
    | (with_reducible first | assumption | apply alters_listed | apply alters_next | apply altersTo_ite)
    | exact sub_trans (by decide +kernel) hm
    | split

/-- What `State.writeReset` may alter. -/
def alt_writeReset : Nat := alt_portTasks ||| alt_leaveRing ||| alt_outputsOff ||| alt_onPwr

theorem alters_writeReset {μ : Nat} {s₀ : State} (s : State) (v : Word) (hm : Sub alt_writeReset μ)
    (hk : Alters μ s₀ s) : Alters μ s₀ (State.writeReset s v).1 := by
  unfold State.writeReset
  try dsimp only
  repeat' first
    | (with_reducible first | assumption | apply alters_portTasks | apply alters_leaveRing | apply alters_outputsOff)
    | (with_reducible first | apply alters_onPwr)
    | exact sub_trans (by decide +kernel) hm
    | split

/-- What `State.writeLayup` may alter. -/
def alt_writeLayup : Nat :=
    setMask F.SYS_DIEMAP_MD ||| setMask F.PWR_VM_VHUP ||| setMask F.PWR_STAT_HUP_OK ||| partRsm ||| partGdieDown |||
    partPwr ||| alt_writebackStored ||| alt_saveNow ||| alt_onSage ||| alt_outputsOff ||| alt_portTasks |||
    alt_leaveRing

theorem alters_writeLayup {μ : Nat} {s₀ : State} (s : State) (v : Word) (hm : Sub alt_writeLayup μ)
    (hk : Alters μ s₀ s) : Alters μ s₀ (State.writeLayup s v).1 := by
  unfold State.writeLayup
  try dsimp only
  repeat' first
    | simp only [alters_gdieDown_pwr (sub_bit hm (i := 3) (by decide +kernel)) (sub_bit hm (i := 4) (by decide +kernel))]
    | (with_reducible first | assumption | apply alters_writebackStored | apply alters_saveNow | apply alters_onSage)
    | (with_reducible first | apply alters_outputsOff | apply alters_portTasks | apply alters_listed | apply alters_leaveRing)
    | (with_reducible first | apply alters_set | apply alters_setOn | apply alters_ite)
    | exact sub_trans (by decide +kernel) hm
    | split

/-- What `execLayupWake` may alter. -/
def alt_execLayupWake : Nat := alt_onPwr

theorem alters_execLayupWake {μ : Nat} {s₀ : State} (source : ℕ) (s : State) (hm : Sub alt_execLayupWake μ)
    (hk : Alters μ s₀ s) : AltersTo μ s₀ (execLayupWake source s) := by
  unfold execLayupWake
  try dsimp only
  repeat' first
    | (with_reducible first | assumption | apply alters_onPwr | apply alters_next | apply altersTo_ite)
    | exact sub_trans (by decide +kernel) hm
    | split

/-- What `execLayupSupplyLost` may alter. -/
def alt_execLayupSupplyLost : Nat := alt_onPwr

theorem alters_execLayupSupplyLost {μ : Nat} {s₀ : State} (s : State) (hm : Sub alt_execLayupSupplyLost μ)
    (hk : Alters μ s₀ s) : AltersTo μ s₀ (execLayupSupplyLost s) := by
  unfold execLayupSupplyLost
  try dsimp only
  repeat' first
    | (with_reducible first | assumption | apply alters_onPwr | apply alters_next | apply altersTo_ite)
    | exact sub_trans (by decide +kernel) hm
    | split

/-! ### Thermal.lean -/

/-- What `State.onTmp` may alter. -/
def alt_onTmp : Nat := partTmp

theorem alters_onTmp {μ : Nat} {s₀ : State} (s : State) (f : ThermalSt → ThermalSt) (hm : Sub alt_onTmp μ)
    (hk : Alters μ s₀ s) : Alters μ s₀ (State.onTmp s f) := by
  unfold State.onTmp
  try dsimp only
  repeat' first
    | simp only [alters_tmp (sub_bit hm (i := 24) (by decide +kernel))]
    | (with_reducible first | assumption)
    | exact sub_trans (by decide +kernel) hm
    | split

theorem alters_setDieBit {μ : Nat} {s₀ : State} (s : State) (f : Fld) (d : ℕ) (v : Bool) (h_f : Sub (setMask f) μ)
    (hk : Alters μ s₀ s) : Alters μ s₀ (State.setDieBit s f d v) := by
  unfold State.setDieBit
  try dsimp only
  repeat' first
    | (with_reducible first | assumption | apply alters_set)
    | split

/-- What `State.stopDie` may alter. -/
def alt_stopDie : Nat :=
    setMask F.TMP_IFLAG_STOP ||| setMask F.TMP_COUNT_STOPS ||| setMask F.TMP_LATCH_LATCHED ||| partRsm |||
    alt_countLife ||| alt_stopMoving ||| alt_loadsOff

theorem alters_stopDie {μ : Nat} {s₀ : State} (s : State) (d : ℕ) (hm : Sub alt_stopDie μ)
    (hk : Alters μ s₀ s) : Alters μ s₀ (State.stopDie s d) := by
  unfold State.stopDie
  try dsimp only
  repeat' first
    | intro _
    | (with_reducible first | assumption | apply alters_flagEvent | apply alters_countLife | apply alters_setDieBit)
    | (with_reducible first | apply alters_applyIf | apply alters_stopMoving | apply alters_loadsOff | apply alters_ite)
    | exact sub_trans (by decide +kernel) hm
    | split

/-- What `State.powerDownDie` may alter. -/
def alt_powerDownDie : Nat :=
    setMask F.PWR_MDPWR_MD_ON ||| setMask F.GD_STAT_STATE ||| partGdieDown ||| alt_onTmp ||| alt_markUnhealthy |||
    alt_sleepDie ||| alt_onAxis ||| alt_stopAxis ||| alt_quietGate ||| alt_chopperOff

theorem alters_powerDownDie {μ : Nat} {s₀ : State} (s : State) (d : ℕ) (hm : Sub alt_powerDownDie μ)
    (hk : Alters μ s₀ s) : Alters μ s₀ (State.powerDownDie s d) := by
  unfold State.powerDownDie
  try dsimp only
  repeat' first
    | intro _
    | simp only [alters_gdieDown (sub_bit hm (i := 3) (by decide +kernel))]
    | (with_reducible first | assumption | apply alters_onTmp | apply alters_markUnhealthy | apply alters_set | apply alters_sleepDie)
    | (with_reducible first | apply alters_onAxis | apply alters_stopAxis | apply alters_quietGate | apply alters_chopperOff)
    | (with_reducible first | apply alters_ite | apply alters_foldl)
    | exact sub_trans (by decide +kernel) hm
    | (simp only [setMask_on, setMask_bit, setMask_chanBit, pubMask_on]; exact sub_trans (by decide +kernel) hm)
    | split

/-- What `execThermalPowerDown` may alter. -/
def alt_execThermalPowerDown : Nat := alt_powerDownDie

theorem alters_execThermalPowerDown {μ : Nat} {s₀ : State} (d : ℕ) (s : State) (hm : Sub alt_execThermalPowerDown μ)
    (hk : Alters μ s₀ s) : AltersTo μ s₀ (execThermalPowerDown d s) := by
  unfold execThermalPowerDown
  try dsimp only
  repeat' first
    | (with_reducible first | assumption | apply alters_powerDownDie | apply alters_next | apply altersTo_ite)
    | exact sub_trans (by decide +kernel) hm
    | split

/-- What `State.powerUpDie` may alter. -/
def alt_powerUpDie : Nat :=
    setMask F.TMP_COUNT_PCYC ||| setMask F.PWR_MDPWR_MD_ON ||| partPwr ||| alt_countLife ||| alt_onTmp |||
    alt_powerUpGate

theorem alters_powerUpDie {μ : Nat} {s₀ : State} (s : State) (d : ℕ) (hm : Sub alt_powerUpDie μ)
    (hk : Alters μ s₀ s) : Alters μ s₀ (State.powerUpDie s d) := by
  unfold State.powerUpDie
  try dsimp only
  repeat' first
    | simp only [alters_pwr (sub_bit hm (i := 4) (by decide +kernel))]
    | (with_reducible first | assumption | apply alters_countLife | apply alters_onTmp | apply alters_set | apply alters_powerUpGate)
    | (with_reducible first | apply alters_ite)
    | exact sub_trans (by decide +kernel) hm
    | split

/-- What `execDiePowerCycle` may alter. -/
def alt_execDiePowerCycle : Nat := partNow ||| alt_powerUpDie ||| alt_onTmp

theorem alters_execDiePowerCycle {μ : Nat} {s₀ : State} (d : ℕ) (s : State) (hm : Sub alt_execDiePowerCycle μ)
    (hk : Alters μ s₀ s) : AltersTo μ s₀ (execDiePowerCycle d s) := by
  unfold execDiePowerCycle
  try dsimp only
  repeat' first
    | (with_reducible first | assumption | apply alters_advanceTo | apply alters_powerUpDie | apply alters_onTmp | apply alters_next)
    | (with_reducible first | apply altersTo_ite)
    | exact sub_trans (by decide +kernel) hm
    | split

/-- What `State.writeTmpCmd` may alter. -/
def alt_writeTmpCmd : Nat := alt_powerUpDie

theorem alters_writeTmpCmd {μ : Nat} {s₀ : State} (s : State) (v : Word) (hm : Sub alt_writeTmpCmd μ)
    (hk : Alters μ s₀ s) : Alters μ s₀ (State.writeTmpCmd s v).1 := by
  unfold State.writeTmpCmd
  try dsimp only
  repeat' first
    | (with_reducible first | assumption | apply alters_powerUpDie)
    | exact sub_trans (by decide +kernel) hm
    | split

/-- What `State.clearLatch` may alter. -/
def alt_clearLatch : Nat := setMask F.TMP_LATCH_LATCHED ||| setMask F.TMP_IFLAG_PCYC ||| alt_onTmp ||| alt_dropSource

theorem alters_clearLatch {μ : Nat} {s₀ : State} (s : State) (d : ℕ) (hm : Sub alt_clearLatch μ)
    (hk : Alters μ s₀ s) : Alters μ s₀ (State.clearLatch s d) := by
  unfold State.clearLatch
  try dsimp only
  repeat' first
    | intro _
    | (with_reducible first | assumption | apply alters_onTmp | apply alters_setDieBit | apply alters_flag | apply alters_applyIf)
    | (with_reducible first | apply alters_dropSource)
    | exact sub_trans (by decide +kernel) hm
    | split

/-- What `State.judgeDiode` may alter. -/
def alt_judgeDiode : Nat := setMask F.TMP_IFLAG_DIODE ||| setMask F.TMP_LATCH_DIODE ||| partRsm ||| alt_onTmp

theorem alters_judgeDiode {μ : Nat} {s₀ : State} (s : State) (d : ℕ) (t : ℤ) (missing : Bool) (hm : Sub alt_judgeDiode μ)
    (hk : Alters μ s₀ s) : Alters μ s₀ (State.judgeDiode s d t missing) := by
  unfold State.judgeDiode
  try dsimp only
  repeat' first
    | intro _
    | (with_reducible first | assumption | apply alters_onTmp | apply alters_applyIf | apply alters_flagEvent | apply alters_setDieBit)
    | (with_reducible first | apply alters_ite)
    | exact sub_trans (by decide +kernel) hm
    | split

/-- What `State.evalTemp` may alter. -/
def alt_evalTemp : Nat :=
    arrayMask F.TMP_TM01_EVEN ||| arrayMask F.TMP_TM01_ODD ||| setMask F.TMP_TCG_C ||| setMask F.TMP_TCG_G |||
    setMask F.TMP_THR_FAST ||| setMask F.TMP_IFLAG_THROTTLE ||| setMask F.TMP_THR_THROTTLE ||| partRsm |||
    alt_judgeDiode ||| alt_clearLatch ||| alt_powerDownDie ||| alt_stopDie

theorem alters_evalTemp {μ : Nat} {s₀ : State} (s : State) (d : ℕ) (t : ℤ) (missing : Bool) (hm : Sub alt_evalTemp μ)
    (hk : Alters μ s₀ s) : Alters μ s₀ (State.evalTemp s d t missing) := by
  unfold State.evalTemp
  try dsimp only
  repeat' first
    | intro _
    | (with_reducible first | assumption | apply alters_judgeDiode | apply alters_set | apply alters_setDieBit | apply alters_applyIf)
    | (with_reducible first | apply alters_flagEvent | apply alters_clearLatch | apply alters_powerDownDie | apply alters_stopDie)
    | (with_reducible first | apply alters_ite)
    | exact sub_trans (by decide +kernel) hm
    | (with_reducible refine sub_chain (setMask_at _ _) ?_; (try simp only [arrayMask_on]); first | assumption | exact sub_trans (by decide +kernel) hm)
    | (unfold tempField; split)
    | split

/-- What `State.forgetDiode` may alter. -/
def alt_forgetDiode : Nat := setMask F.TMP_LATCH_DIODE ||| alt_onTmp

theorem alters_forgetDiode {μ : Nat} {s₀ : State} (s : State) (d : ℕ) (hm : Sub alt_forgetDiode μ)
    (hk : Alters μ s₀ s) : Alters μ s₀ (State.forgetDiode s d) := by
  unfold State.forgetDiode
  try dsimp only
  repeat' first
    | (with_reducible first | assumption | apply alters_setDieBit | apply alters_onTmp)
    | exact sub_trans (by decide +kernel) hm
    | split

/-- What `State.evalThermal` may alter. -/
def alt_evalThermal : Nat := alt_forgetDiode ||| alt_evalTemp

theorem alters_evalThermal {μ : Nat} {s₀ : State} (s : State) (d : ℕ) (t : ℤ) (missing : Bool) (hm : Sub alt_evalThermal μ)
    (hk : Alters μ s₀ s) : Alters μ s₀ (State.evalThermal s d t missing) := by
  unfold State.evalThermal
  try dsimp only
  repeat' first
    | (with_reducible first | assumption | apply alters_forgetDiode | apply alters_evalTemp | apply alters_ite)
    | exact sub_trans (by decide +kernel) hm
    | split

/-- What `execThermalEval` may alter. -/
def alt_execThermalEval : Nat := partNow ||| alt_evalThermal ||| alt_onTmp

theorem alters_execThermalEval {μ : Nat} {s₀ : State} (d : ℕ) (t : ℤ) (missing : Bool) (s : State) (hm : Sub alt_execThermalEval μ)
    (hk : Alters μ s₀ s) : AltersTo μ s₀ (execThermalEval d t missing s) := by
  unfold execThermalEval
  try dsimp only
  repeat' first
    | (with_reducible first | assumption | apply alters_advanceTo | apply alters_evalThermal | apply alters_onTmp)
    | (with_reducible first | apply alters_next | apply altersTo_ite)
    | exact sub_trans (by decide +kernel) hm
    | split

/-- What `execThermalPauseEnd` may alter. -/
def alt_execThermalPauseEnd : Nat := setMask F.MOT_STAT_THROTTLE ||| partNow

theorem alters_execThermalPauseEnd {μ : Nat} {s₀ : State} (motion : Bool) (s : State) (hm : Sub alt_execThermalPauseEnd μ)
    (hk : Alters μ s₀ s) : AltersTo μ s₀ (execThermalPauseEnd motion s) := by
  unfold execThermalPauseEnd
  try dsimp only
  repeat' first
    | (with_reducible first | assumption | apply alters_advanceTo | apply alters_setOn | apply alters_next | apply alters_ite)
    | (with_reducible first | apply altersTo_ite)
    | exact sub_trans (by decide +kernel) hm
    | split

/-- What `execEccCorrected` may alter. -/
def alt_execEccCorrected : Nat :=
    setMask F.TMP_ECC_MRAM ||| setMask F.TMP_ECC_SRAM ||| setMask F.TMP_IFLAG_ECC ||| partRsm ||| alt_onTmp

theorem alters_execEccCorrected {μ : Nat} {s₀ : State} (mram : Bool) (s : State) (hm : Sub alt_execEccCorrected μ)
    (hk : Alters μ s₀ s) : AltersTo μ s₀ (execEccCorrected mram s) := by
  unfold execEccCorrected
  try dsimp only
  repeat' first
    | (with_reducible first | assumption | apply alters_onTmp | apply alters_count | apply alters_flagEvent | apply alters_next)
    | (with_reducible first | apply alters_ite | apply altersTo_ite)
    | exact sub_trans (by decide +kernel) hm
    | split

/-! ### Shown.lean -/

theorem alters_refreshWord {μ : Nat} {s₀ : State} (s : State) (a : Nat) (hw : Sub (putMask a) μ)
    (hk : Alters μ s₀ s) : Alters μ s₀ (State.refreshWord s a) := by
  unfold State.refreshWord
  split
  · exact alters_put hw hk
  · exact hk

/-- What `State.refreshShown` may alter. -/
def alt_refreshShown : Nat := derivedWords.foldl (fun m a => m ||| putMask a) 0

theorem alters_refreshShown {μ : Nat} {s₀ : State} (s : State) (hm : Sub alt_refreshShown μ)
    (hk : Alters μ s₀ s) : Alters μ s₀ (State.refreshShown s) := by
  have all : ∀ a ∈ derivedWords, Sub (putMask a) μ := fun a ha => sub_trans (foldl_or_mem putMask ha 0) hm
  unfold State.refreshShown
  revert all
  generalize derivedWords = l
  intro all
  induction l generalizing s with
  | nil => exact hk
  | cons a l ih =>
    exact ih _ (alters_refreshWord _ _ (all a List.mem_cons_self) hk) fun b hb => all b (List.mem_cons_of_mem _ hb)

/-! ### Frame.lean -/

/-- What `State.publishM0` may alter. -/
def alt_publishM0 : Nat := alt_publishStv ||| alt_publishCur

theorem alters_publishM0 {μ : Nat} {s₀ : State} (s : State) (seq : Word) (o : Option HeldM0) (hm : Sub alt_publishM0 μ)
    (hk : Alters μ s₀ s) : Alters μ s₀ (State.publishM0 s seq o) := by
  unfold State.publishM0
  try dsimp only
  repeat' first
    | (with_reducible first | assumption | apply alters_publishStv | apply alters_publishCur)
    | exact sub_trans (by decide +kernel) hm
    | split

/-- What `State.publishCells` may alter. -/
def alt_publishCells : Nat := alt_slotVoltages ||| alt_publishDie ||| alt_publishSpans

theorem alters_publishCells {μ : Nat} {s₀ : State} (s : State) (k : ℕ) (f : DieFrame) (hm : Sub alt_publishCells μ)
    (hk : Alters μ s₀ s) : Alters μ s₀ (State.publishCells s k f) := by
  unfold State.publishCells
  try dsimp only
  repeat' first
    | (with_reducible first | assumption | apply alters_slotVoltages | apply alters_publishDie | apply alters_publishSpans)
    | exact sub_trans (by decide +kernel) hm
    | split

/-- What `State.publishRest` may alter. -/
def alt_publishRest : Nat := alt_captureTests ||| alt_learnFrame ||| alt_balanceCurrents

theorem alters_publishRest {μ : Nat} {s₀ : State} (s : State) (k : ℕ) (f : DieFrame) (hm : Sub alt_publishRest μ)
    (hk : Alters μ s₀ s) : Alters μ s₀ (State.publishRest s k f) := by
  unfold State.publishRest
  try dsimp only
  repeat' first
    | (with_reducible first | assumption | apply alters_captureTests | apply alters_learnFrame | apply alters_balanceCurrents)
    | exact sub_trans (by decide +kernel) hm
    | split

/-- What `State.bufferFrame` may alter. -/
def alt_bufferFrame : Nat := alt_onDie

theorem alters_bufferFrame {μ : Nat} {s₀ : State} (s : State) (x : FrameSample) (k : ℕ) (hm : Sub alt_bufferFrame μ)
    (hk : Alters μ s₀ s) : Alters μ s₀ (State.bufferFrame s x k) := by
  unfold State.bufferFrame
  try dsimp only
  repeat' first
    | (with_reducible first | assumption | apply alters_onDie)
    | exact sub_trans (by decide +kernel) hm
    | split

/-- What `State.publishLate` may alter. -/
def alt_publishLate : Nat := alt_publishCells ||| alt_publishM0 ||| alt_onDie ||| alt_publishRest

theorem alters_publishLate {μ : Nat} {s₀ : State} (s : State) (k : ℕ) (hm : Sub alt_publishLate μ)
    (hk : Alters μ s₀ s) : Alters μ s₀ (State.publishLate s k) := by
  unfold State.publishLate
  try dsimp only
  repeat' first
    | intro _
    | (with_reducible first | assumption | apply alters_applyIf | apply alters_publishCells | apply alters_publishM0)
    | (with_reducible first | apply alters_onDie | apply alters_publishRest)
    | exact sub_trans (by decide +kernel) hm
    | split

/-- What `State.bleedAll` may alter. -/
def alt_bleedAll : Nat := alt_bleed

theorem alters_bleedAll {μ : Nat} {s₀ : State} (s : State) (x : FrameSample) (hm : Sub alt_bleedAll μ)
    (hk : Alters μ s₀ s) : Alters μ s₀ (State.bleedAll s x) := by
  unfold State.bleedAll
  try dsimp only
  repeat' first
    | intro _
    | (with_reducible first | assumption | apply alters_bleed | apply alters_ite | apply alters_foldl)
    | exact sub_trans (by decide +kernel) hm
    | split

/-- What `State.publishFrame` may alter. -/
def alt_publishFrame : Nat :=
    alt_bleedAll ||| alt_loseM0 ||| alt_calMissed ||| alt_bufferFrame ||| alt_publishCells ||| alt_publishM0 |||
    alt_publishRest ||| alt_cmpBoundary ||| alt_publishLoads

theorem alters_publishFrame {μ : Nat} {s₀ : State} (s : State) (x : FrameSample) (hm : Sub alt_publishFrame μ)
    (hk : Alters μ s₀ s) : Alters μ s₀ (State.publishFrame s x) := by
  unfold State.publishFrame
  try dsimp only
  repeat' first
    | intro _
    | (with_reducible first | assumption | apply alters_bleedAll | apply alters_applyIf | apply alters_loseM0 | apply alters_calMissed)
    | (with_reducible first | apply alters_bufferFrame | apply alters_publishCells | apply alters_publishM0 | apply alters_publishRest)
    | (with_reducible first | apply alters_cmpBoundary | apply alters_publishLoads | apply alters_foldl)
    | exact sub_trans (by decide +kernel) hm
    | split

/-- What `State.sageCapture` may alter. -/
def alt_sageCapture : Nat := alt_onSage

theorem alters_sageCapture {μ : Nat} {s₀ : State} (s : State) (seq : ℕ) (time : ℕ) (hm : Sub alt_sageCapture μ)
    (hk : Alters μ s₀ s) : Alters μ s₀ (State.sageCapture s seq time) := by
  unfold State.sageCapture
  try dsimp only
  repeat' first
    | (with_reducible first | assumption | apply alters_onSage | apply alters_ite)
    | exact sub_trans (by decide +kernel) hm
    | split

/-- What `State.dropSageFrames` may alter. -/
def alt_dropSageFrames : Nat := alt_onSage

theorem alters_dropSageFrames {μ : Nat} {s₀ : State} (s : State) (hm : Sub alt_dropSageFrames μ)
    (hk : Alters μ s₀ s) : Alters μ s₀ (State.dropSageFrames s) := by
  unfold State.dropSageFrames
  try dsimp only
  repeat' first
    | (with_reducible first | assumption | apply alters_onSage)
    | exact sub_trans (by decide +kernel) hm
    | split

/-- What `State.sampleAll` may alter. -/
def alt_sampleAll : Nat :=
    setMask F.STK_IFLAG_STROBE_MISS ||| alt_onDie ||| alt_noteStrobes ||| alt_sampleM0 ||| alt_missM0

theorem alters_sampleAll {μ : Nat} {s₀ : State} (s : State) (x : FrameSample) (hm : Sub alt_sampleAll μ)
    (hk : Alters μ s₀ s) : Alters μ s₀ (State.sampleAll s x) := by
  unfold State.sampleAll
  try dsimp only
  repeat' first
    | intro _
    | (with_reducible first | assumption | apply alters_onDie | apply alters_noteStrobes | apply alters_sampleM0 | apply alters_missM0)
    | (with_reducible first | apply alters_applyIf | apply alters_flag | apply alters_ite | apply alters_foldl)
    | exact sub_trans (by decide +kernel) hm
    | split

/-- What `State.readRails` may alter. -/
def alt_readRails : Nat :=
    setMask F.PWR_VSUP_VSHIP ||| setMask F.PWR_VSUP_VLS ||| setMask F.PWR_VM_VM ||| setMask F.PWR_VM_VHUP |||
    setMask F.GDR_STAT_VMHARD ||| setMask F.PWR_STAT_VLS_OK ||| alt_showStore

theorem alters_readRails {μ : Nat} {s₀ : State} (s : State) (x : FrameSample) (hm : Sub alt_readRails μ)
    (hk : Alters μ s₀ s) : Alters μ s₀ (State.readRails s x) := by
  unfold State.readRails
  try dsimp only
  repeat' first
    | intro _
    | (with_reducible first | assumption | apply alters_set | apply alters_applyIf | apply alters_setOn | apply alters_showStore)
    | exact sub_trans (by decide +kernel) hm
    | split

/-- What `State.readSupplies` may alter. -/
def alt_readSupplies : Nat :=
    setMask F.GDR_STAT_VGG ||| alt_readRails ||| alt_brakeFrame ||| alt_prtFrame ||| alt_showBootstraps

theorem alters_readSupplies {μ : Nat} {s₀ : State} (s : State) (x : FrameSample) (hm : Sub alt_readSupplies μ)
    (hk : Alters μ s₀ s) : Alters μ s₀ (State.readSupplies s x) := by
  unfold State.readSupplies
  try dsimp only
  repeat' first
    | intro _
    | (with_reducible first | assumption | apply alters_readRails | apply alters_brakeFrame | apply alters_prtFrame)
    | (with_reducible first | apply alters_showBootstraps | apply alters_set | apply alters_ite | apply alters_foldl)
    | exact sub_trans (by decide +kernel) hm
    | split

/-- What `State.checkLeakage` may alter. -/
def alt_checkLeakage : Nat := partRsm ||| alt_onPwr

theorem alters_checkLeakage {μ : Nat} {s₀ : State} (s : State) (x : FrameSample) (hm : Sub alt_checkLeakage μ)
    (hk : Alters μ s₀ s) : Alters μ s₀ (State.checkLeakage s x) := by
  unfold State.checkLeakage
  try dsimp only
  repeat' first
    | intro _
    | (with_reducible first | assumption | apply alters_onPwr | apply alters_listed | apply alters_ite | apply alters_foldl)
    | exact sub_trans (by decide +kernel) hm
    | split

/-- What `State.takePeriod` may alter. -/
def alt_takePeriod : Nat := setMask F.THY_STAT_ACTIVE ||| setMask F.THY_IFLAG_PERIOD ||| alt_showLoad

theorem alters_takePeriod {μ : Nat} {s₀ : State} (s : State) (flagged : Bool) (hm : Sub alt_takePeriod μ)
    (hk : Alters μ s₀ s) : Alters μ s₀ (State.takePeriod s flagged) := by
  unfold State.takePeriod
  try dsimp only
  repeat' first
    | intro _
    | (with_reducible first | assumption | apply alters_showLoad | apply alters_applyIf | apply alters_set | apply alters_flag)
    | exact sub_trans (by decide +kernel) hm
    | split

/-- What `State.beginSwitches` may alter. -/
def alt_beginSwitches : Nat :=
    alt_noteTaps ||| alt_openElapsed ||| alt_sampleAll ||| alt_openAllSwitches ||| alt_markCorrected |||
    alt_balanceBoundary ||| alt_testBoundary

theorem alters_beginSwitches {μ : Nat} {s₀ : State} (s : State) (x : FrameSample) (n : ℕ) (hm : Sub alt_beginSwitches μ)
    (hk : Alters μ s₀ s) : Alters μ s₀ (State.beginSwitches s x n) := by
  unfold State.beginSwitches
  try dsimp only
  repeat' first
    | intro _
    | (with_reducible first | assumption | apply alters_noteTaps | apply alters_openElapsed | apply alters_sampleAll)
    | (with_reducible first | apply alters_applyIf | apply alters_openAllSwitches | apply alters_markCorrected | apply alters_balanceBoundary)
    | (with_reducible first | apply alters_testBoundary | apply alters_foldl)
    | exact sub_trans (by decide +kernel) hm
    | split

/-- What `State.beginQuiet` may alter. -/
def alt_beginQuiet : Nat := alt_moveGain ||| alt_captureSpans

theorem alters_beginQuiet {μ : Nat} {s₀ : State} (s : State) (hm : Sub alt_beginQuiet μ)
    (hk : Alters μ s₀ s) : Alters μ s₀ (State.beginQuiet s) := by
  unfold State.beginQuiet
  try dsimp only
  repeat' first
    | intro _
    | (with_reducible first | assumption | apply alters_moveGain | apply alters_captureSpans | apply alters_foldl)
    | exact sub_trans (by decide +kernel) hm
    | split

/-- What `State.beginFrame` may alter. -/
def alt_beginFrame : Nat :=
    setMask F.THY_STAT_QUIET ||| setMask F.THY_STAT_PHASE ||| alt_beginSwitches ||| alt_onThy ||| alt_readSupplies
    ||| alt_checkLeakage ||| alt_beginQuiet

theorem alters_beginFrame {μ : Nat} {s₀ : State} (s : State) (x : FrameSample) (hm : Sub alt_beginFrame μ)
    (hk : Alters μ s₀ s) : Alters μ s₀ (State.beginFrame s x) := by
  unfold State.beginFrame
  try dsimp only
  repeat' first
    | intro _
    | (with_reducible first | assumption | apply alters_beginSwitches | apply alters_onThy | apply alters_setOn | apply alters_set)
    | (with_reducible first | apply alters_readSupplies | apply alters_checkLeakage | apply alters_applyIf | apply alters_beginQuiet)
    | exact sub_trans (by decide +kernel) hm
    | split

/-- What `State.idleBoundary` may alter. -/
def alt_idleBoundary : Nat := alt_finishBoot ||| alt_readRails ||| alt_restorePaths ||| alt_reach ||| alt_refreshShown

theorem alters_idleBoundary {μ : Nat} {s₀ : State} (s : State) (x : FrameSample) (hm : Sub alt_idleBoundary μ)
    (hk : Alters μ s₀ s) : Alters μ s₀ (State.idleBoundary s x) := by
  unfold State.idleBoundary
  try dsimp only
  repeat' first
    | (with_reducible first | assumption | apply alters_finishBoot | apply alters_readRails | apply alters_restorePaths)
    | (with_reducible first | apply alters_reach | apply alters_refreshShown)
    | exact sub_trans (by decide +kernel) hm
    | split

/-- What `State.nextFrame` may alter. -/
def alt_nextFrame : Nat :=
    setMask F.THY_FSEQ_SEQ ||| partNow ||| alt_stepDelays ||| alt_restorePaths ||| alt_rejoinDies |||
    alt_refreshShown ||| alt_publishLate ||| alt_sageCapture ||| alt_publishFrame ||| alt_onThy ||| alt_beginFrame
    ||| alt_dropSageFrames ||| alt_takePeriod

theorem alters_nextFrame {μ : Nat} {s₀ : State} (s : State) (x : FrameSample) (hm : Sub alt_nextFrame μ)
    (hk : Alters μ s₀ s) : Alters μ s₀ (State.nextFrame s x) := by
  unfold State.nextFrame
  try dsimp only
  repeat' first
    | intro _
    | (with_reducible first | assumption | apply alters_stepDelays | apply alters_restorePaths | apply alters_rejoinDies)
    | (with_reducible first | apply alters_refreshShown | apply alters_advanceTo | apply alters_publishLate | apply alters_sageCapture)
    | (with_reducible first | apply alters_publishFrame | apply alters_onThy | apply alters_set | apply alters_beginFrame)
    | (with_reducible first | apply alters_dropSageFrames | apply alters_takePeriod | apply alters_foldl)
    | exact sub_trans (by decide +kernel) hm
    | split

/-- What `execFrameBoundary` may alter. -/
def alt_execFrameBoundary : Nat := alt_nextFrame ||| alt_idleBoundary

theorem alters_execFrameBoundary {μ : Nat} {s₀ : State} (x : FrameSample) (s : State) (hm : Sub alt_execFrameBoundary μ)
    (hk : Alters μ s₀ s) : AltersTo μ s₀ (execFrameBoundary x s) := by
  unfold execFrameBoundary
  try dsimp only
  repeat' first
    | (with_reducible first | assumption | apply alters_nextFrame | apply alters_idleBoundary | apply alters_next)
    | (with_reducible first | apply altersTo_ite)
    | exact sub_trans (by decide +kernel) hm
    | split

/-- What `execFirmwareEval` may alter. -/
def alt_execFirmwareEval : Nat := alt_publishLate ||| alt_sageCapture ||| alt_evalPublication

theorem alters_execFirmwareEval {μ : Nat} {s₀ : State} (s : State) (hm : Sub alt_execFirmwareEval μ)
    (hk : Alters μ s₀ s) : AltersTo μ s₀ (execFirmwareEval s) := by
  unfold execFirmwareEval
  try dsimp only
  repeat' first
    | intro _
    | (with_reducible first | assumption | apply alters_publishLate | apply alters_applyIf | apply alters_sageCapture)
    | (with_reducible first | apply alters_evalPublication | apply alters_next | apply altersTo_ite | apply alters_foldl)
    | exact sub_trans (by decide +kernel) hm
    | split

/-- What `State.atRun` may alter. -/
def alt_atRun : Nat :=
    partRsm ||| partFlt ||| alt_onStk ||| alt_onRing ||| alt_roundOfAll ||| alt_setAxState ||| alt_settleAttn |||
    alt_raiseCond ||| alt_showRoles ||| alt_safetyEval ||| alt_applySch

theorem alters_atRun {μ : Nat} {s₀ : State} (s : State) (hm : Sub alt_atRun μ)
    (hk : Alters μ s₀ s) : Alters μ s₀ (State.atRun s) := by
  unfold State.atRun
  try dsimp only
  repeat' first
    | intro _
    | simp only [alters_flt (sub_bit hm (i := 15) (by decide +kernel))]
    | (with_reducible first | assumption | apply alters_raise | apply alters_onStk | apply alters_applyIf | apply alters_listed)
    | (with_reducible first | apply alters_onRing | apply alters_roundOfAll | apply alters_setAxState | apply alters_settleAttn)
    | (with_reducible first | apply alters_raiseCond | apply alters_showRoles | apply alters_safetyEval | apply alters_applySch)
    | (with_reducible first | apply alters_ite | apply alters_foldl)
    | exact sub_trans (by decide +kernel) hm
    | split

/-- What `execEnterRun` may alter. -/
def alt_execEnterRun : Nat :=
    setMask F.PWR_BOOT_TIME ||| setMask F.PWR_BOOT_STEP ||| setMask F.THY_FSEQ_SEQ ||| partNow ||| alt_finishBoot
    ||| alt_onThy ||| alt_onPwr ||| alt_cmpHold ||| alt_beginFrame ||| alt_loadsAtRun ||| alt_takePeriod |||
    alt_restorePaths ||| alt_bayAtRun ||| alt_atRun ||| alt_releaseLine

theorem alters_execEnterRun {μ : Nat} {s₀ : State} (x : FrameSample) (s : State) (hm : Sub alt_execEnterRun μ)
    (hk : Alters μ s₀ s) : AltersTo μ s₀ (execEnterRun x s) := by
  unfold execEnterRun
  try dsimp only
  repeat' first
    | intro _
    | (with_reducible first | assumption | apply alters_finishBoot | apply alters_onThy | apply alters_onPwr | apply alters_advanceTo)
    | (with_reducible first | apply alters_set | apply alters_cmpHold | apply alters_beginFrame | apply alters_loadsAtRun)
    | (with_reducible first | apply alters_takePeriod | apply alters_restorePaths | apply alters_bayAtRun | apply alters_atRun)
    | (with_reducible first | apply alters_applyIf | apply alters_releaseLine | apply alters_next | apply altersTo_ite)
    | exact sub_trans (by decide +kernel) hm
    | split

/-- What `execServoTick` may alter. -/
def alt_execServoTick : Nat := partNow ||| partMot ||| partFlt ||| alt_tickAxis ||| alt_safetyEval ||| alt_showRoles

theorem alters_execServoTick {μ : Nat} {s₀ : State} (xs : List AxisSample) (s : State) (hm : Sub alt_execServoTick μ)
    (hk : Alters μ s₀ s) : AltersTo μ s₀ (execServoTick xs s) := by
  unfold execServoTick
  try dsimp only
  repeat' first
    | intro _
    | simp only [alters_mot (sub_bit hm (i := 20) (by decide +kernel))]
    | simp only [alters_flt (sub_bit hm (i := 15) (by decide +kernel))]
    | (with_reducible first | assumption | apply alters_advanceTo | apply alters_tickAxis | apply alters_applyIf | apply alters_safetyEval)
    | (with_reducible first | apply alters_showRoles | apply alters_next | apply alters_ite | apply altersTo_ite | apply alters_foldl)
    | exact sub_trans (by decide +kernel) hm
    | split

/-- What `execClockCheckWindow` may alter. -/
def alt_execClockCheckWindow : Nat := partRsm ||| alt_clockWindow

theorem alters_execClockCheckWindow {μ : Nat} {s₀ : State} (dev : ℤ) (s : State) (hm : Sub alt_execClockCheckWindow μ)
    (hk : Alters μ s₀ s) : AltersTo μ s₀ (execClockCheckWindow dev s) := by
  unfold execClockCheckWindow
  try dsimp only
  repeat' first
    | intro _
    | (with_reducible first | assumption | apply alters_applyIf | apply alters_listed | apply alters_clockWindow | apply alters_next)
    | (with_reducible first | apply altersTo_ite)
    | exact sub_trans (by decide +kernel) hm
    | split

/-! ### Access.lean -/

/-- What `State.beforeRead` may alter. -/
def alt_beforeRead : Nat := alt_fetchLive

theorem alters_beforeRead {μ : Nat} {s₀ : State} (s : State) (page : ℕ) (word : ℕ) (hm : Sub alt_beforeRead μ)
    (hk : Alters μ s₀ s) : Alters μ s₀ (State.beforeRead s page word) := by
  unfold State.beforeRead
  try dsimp only
  repeat' first
    | (with_reducible first | assumption | apply alters_fetchLive | apply alters_ite)
    | exact sub_trans (by decide +kernel) hm
    | split

/-- What `State.forgetSeen` may alter. -/
def alt_forgetSeen : Nat := alt_onLink

theorem alters_forgetSeen {μ : Nat} {s₀ : State} (s : State) (l : Link) (page : ℕ) (hm : Sub alt_forgetSeen μ)
    (hk : Alters μ s₀ s) : Alters μ s₀ (State.forgetSeen s l page) := by
  unfold State.forgetSeen
  try dsimp only
  repeat' first
    | (with_reducible first | assumption | apply alters_onLink)
    | exact sub_trans (by decide +kernel) hm
    | split

end Sys2Proof.Machine
end

