-- ==== Sys2Proof/Laws/Alters5.lean ====
section
/-! SUPPORT. What the operations of Write.lean, Host.lean, Redundancy.lean, HostRows.lean may alter (see `Alters`). -/
namespace Sys2Proof.Machine
open Host
set_option linter.unreachableTactic false
set_option linter.unusedTactic false
set_option linter.unusedSimpArgs false
set_option linter.unusedVariables false
set_option Elab.async false

/-! ### Write.lean -/

/-- What `State.resetBalance` may alter. -/
def alt_resetBalance : Nat := setMask F.BL_PSTAT_LEARNING ||| setMask F.BL_PSTAT_LOCKED ||| alt_onBal

theorem alters_resetBalance {μ : Nat} {s₀ : State} (s : State) (k : ℕ) (hm : Sub alt_resetBalance μ)
    (hk : Alters μ s₀ s) : Alters μ s₀ (State.resetBalance s k) := by
  unfold State.resetBalance
  try dsimp only
  repeat' first
    | (with_reducible first | assumption | apply alters_onBal | apply alters_setOn)
    | exact sub_trans (by decide +kernel) hm
    | (simp only [setMask_on, setMask_bit, setMask_chanBit, pubMask_on]; exact sub_trans (by decide +kernel) hm)
    | split

/-- What `State.resetBridge` may alter. -/
def alt_resetBridge : Nat := alt_onGate ||| alt_quietGate ||| alt_setAxState ||| alt_onAxis

theorem alters_resetBridge {μ : Nat} {s₀ : State} (s : State) (a : ℕ) (hm : Sub alt_resetBridge μ)
    (hk : Alters μ s₀ s) : Alters μ s₀ (State.resetBridge s a) := by
  unfold State.resetBridge
  try dsimp only
  repeat' first
    | (with_reducible first | assumption | apply alters_onGate | apply alters_quietGate | apply alters_setAxState)
    | (with_reducible first | apply alters_onAxis)
    | exact sub_trans (by decide +kernel) hm
    | split

/-- What `State.resetChannels` may alter. -/
def alt_resetChannels : Nat := setMask F.LSA_OUT_ON ||| alt_onChan

theorem alters_resetChannels {μ : Nat} {s₀ : State} (s : State) (i : ℕ) (hm : Sub alt_resetChannels μ)
    (hk : Alters μ s₀ s) : Alters μ s₀ (State.resetChannels s i) := by
  unfold State.resetChannels
  try dsimp only
  repeat' first
    | intro _
    | (with_reducible first | assumption | apply alters_onChan | apply alters_set | apply alters_foldl)
    | exact sub_trans (by decide +kernel) hm
    | (simp only [setMask_on, setMask_bit, setMask_chanBit, pubMask_on]; exact sub_trans (by decide +kernel) hm)
    | split

/-- What `State.resetRing` may alter. -/
def alt_resetRing : Nat :=
    setMask F.KRG_STAT_DUPADDR ||| setMask F.KRG_STAT_ADDR ||| alt_onRing ||| alt_onProt ||| alt_showHeld

theorem alters_resetRing {μ : Nat} {s₀ : State} (s : State) (addr : ℕ) (dup : Bool) (hm : Sub alt_resetRing μ)
    (hk : Alters μ s₀ s) : Alters μ s₀ (State.resetRing s addr dup) := by
  unfold State.resetRing
  try dsimp only
  repeat' first
    | (with_reducible first | assumption | apply alters_onRing | apply alters_onProt | apply alters_showHeld | apply alters_setOn)
    | (with_reducible first | apply alters_set)
    | exact sub_trans (by decide +kernel) hm
    | split

/-- What `State.resetGdie` may alter. -/
def alt_resetGdie : Nat := alt_onGate

theorem alters_resetGdie {μ : Nat} {s₀ : State} (s : State) (hm : Sub alt_resetGdie μ)
    (hk : Alters μ s₀ s) : Alters μ s₀ (State.resetGdie s) := by
  unfold State.resetGdie
  try dsimp only
  repeat' first
    | (with_reducible first | assumption | apply alters_onGate)
    | exact sub_trans (by decide +kernel) hm
    | split

/-- What `State.disableBlock` may alter. -/
def alt_disableBlock : Nat := alt_onBal ||| alt_learnAbort ||| alt_setAxState ||| alt_bridgeOff

theorem alters_disableBlock {μ : Nat} {s₀ : State} (s : State) (page : ℕ) (hm : Sub alt_disableBlock μ)
    (hk : Alters μ s₀ s) : Alters μ s₀ (State.disableBlock s page) := by
  unfold State.disableBlock
  try dsimp only
  repeat' first
    | intro _
    | (with_reducible first | assumption | apply alters_onBal | apply alters_learnAbort | apply alters_setAxState)
    | (with_reducible first | apply alters_bridgeOff | apply alters_ite | apply alters_foldl)
    | exact sub_trans (by decide +kernel) hm
    | split

theorem alters_refuse {μ : Nat} {s₀ : State} (s : State) (code : ℕ)
    (hk : Alters μ s₀ s) : Alters μ s₀ (State.refuse s code).state := by
  unfold State.refuse
  try dsimp only
  repeat' first
    | (with_reducible first | assumption)
    | split

/-- What `State.onSel` may alter. -/
def alt_onSel : Nat := alt_onLink

theorem alters_onSel {μ : Nat} {s₀ : State} (s : State) (l : Link) (f : Selectors → Selectors) (hm : Sub alt_onSel μ)
    (hk : Alters μ s₀ s) : Alters μ s₀ (State.onSel s l f) := by
  unfold State.onSel
  try dsimp only
  repeat' first
    | (with_reducible first | assumption | apply alters_onLink)
    | exact sub_trans (by decide +kernel) hm
    | split

/-- What `State.writeLearn` may alter. -/
def alt_writeLearn : Nat := alt_learnStart ||| alt_learnAbort

theorem alters_writeLearn {μ : Nat} {s₀ : State} (s : State) (k : ℕ) (v : Word) (hm : Sub alt_writeLearn μ)
    (hk : Alters μ s₀ s) : Alters μ s₀ (State.writeLearn s k v).1 := by
  unfold State.writeLearn
  try dsimp only
  repeat' first
    | (with_reducible first | assumption | apply alters_learnStart | apply alters_learnAbort)
    | exact sub_trans (by decide +kernel) hm
    | split

/-- What `State.writeMbox` may alter. -/
def alt_writeMbox : Nat := alt_onBay ||| alt_submitMailbox

theorem alters_writeMbox {μ : Nat} {s₀ : State} (s : State) (w : ℕ) (v : Word) (hm : Sub alt_writeMbox μ)
    (hk : Alters μ s₀ s) : Alters μ s₀ (State.writeMbox s w v).1 := by
  unfold State.writeMbox
  try dsimp only
  repeat' first
    | (with_reducible first | assumption | apply alters_onBay | apply alters_submitMailbox)
    | exact sub_trans (by decide +kernel) hm
    | split

/-! ### Host.lean -/

/-- What `State.serveNop` may alter. -/
def alt_serveNop : Nat := alt_onLink

theorem alters_serveNop {μ : Nat} {s₀ : State} (s : State) (l : Link) (page : ℕ) (word : ℕ) (hm : Sub alt_serveNop μ)
    (hk : Alters μ s₀ s) : Alters μ s₀ (State.serveNop s l page word).1 := by
  unfold State.serveNop
  try dsimp only
  repeat' first
    | (with_reducible first | assumption | apply alters_onLink)
    | exact sub_trans (by decide +kernel) hm
    | split

/-- What `State.serveCommit` may alter. -/
def alt_serveCommit : Nat := alt_requestCommit

theorem alters_serveCommit {μ : Nat} {s₀ : State} (s : State) (l : Link) (page : ℕ) (word : ℕ) (v : Word) (hm : Sub alt_serveCommit μ)
    (hk : Alters μ s₀ s) : Alters μ s₀ (State.serveCommit s l page word v).1 := by
  unfold State.serveCommit
  try dsimp only
  repeat' first
    | (with_reducible first | assumption | apply alters_requestCommit)
    | exact sub_trans (by decide +kernel) hm
    | split

/-- What `State.showQueue` may alter. -/
def alt_showQueue : Nat := setMask F.HST_WQ_PEAK ||| setMask F.HST_WQ_LEVEL

theorem alters_showQueue {μ : Nat} {s₀ : State} (s : State) (hm : Sub alt_showQueue μ)
    (hk : Alters μ s₀ s) : Alters μ s₀ (State.showQueue s) := by
  unfold State.showQueue
  try dsimp only
  repeat' first
    | (with_reducible first | assumption | apply alters_set)
    | exact sub_trans (by decide +kernel) hm
    | split

/-- What `State.endReply` may alter. -/
def alt_endReply : Nat := alt_releaseLease

theorem alters_endReply {μ : Nat} {s₀ : State} (s : State) (l : Link) (held : Bool) (hm : Sub alt_endReply μ)
    (hk : Alters μ s₀ s) : Alters μ s₀ (State.endReply s l held) := by
  unfold State.endReply
  try dsimp only
  repeat' first
    | intro _
    | (with_reducible first | assumption | apply alters_applyIf | apply alters_releaseLease)
    | exact sub_trans (by decide +kernel) hm
    | split

/-- What `State.shiftOut` may alter. -/
def alt_shiftOut : Nat := alt_onLink

theorem alters_shiftOut {μ : Nat} {s₀ : State} (s : State) (l : Link) (r : Reply) (hm : Sub alt_shiftOut μ)
    (hk : Alters μ s₀ s) : Alters μ s₀ (State.shiftOut s l r) := by
  unfold State.shiftOut
  try dsimp only
  repeat' first
    | (with_reducible first | assumption | apply alters_onLink)
    | exact sub_trans (by decide +kernel) hm
    | split

/-- What `State.notReady` may alter. -/
def alt_notReady : Nat := setMask F.HST_IFLAG_SPI_NOTREADY ||| setMask F.HST_SPIERR_NOTREADY ||| alt_shiftOut

theorem alters_notReady {μ : Nat} {s₀ : State} (s : State) (hm : Sub alt_notReady μ)
    (hk : Alters μ s₀ s) : Alters μ s₀ (State.notReady s) := by
  unfold State.notReady
  try dsimp only
  repeat' first
    | (with_reducible first | assumption | apply alters_flag | apply alters_count | apply alters_shiftOut)
    | exact sub_trans (by decide +kernel) hm
    | split

/-- What `State.countFrameErr` may alter. -/
def alt_countFrameErr : Nat := setMask F.HST_IFLAG_SPI_ERR ||| setMask F.HST_SPIERR_FRAMEERR

theorem alters_countFrameErr {μ : Nat} {s₀ : State} (s : State) (hm : Sub alt_countFrameErr μ)
    (hk : Alters μ s₀ s) : Alters μ s₀ (State.countFrameErr s) := by
  unfold State.countFrameErr
  try dsimp only
  repeat' first
    | (with_reducible first | assumption | apply alters_flag | apply alters_count)
    | exact sub_trans (by decide +kernel) hm
    | split

/-- What `State.formSpi` may alter. -/
def alt_formSpi : Nat := alt_onLink

theorem alters_formSpi {μ : Nat} {s₀ : State} (s : State) (r : Reply) (hm : Sub alt_formSpi μ)
    (hk : Alters μ s₀ s) : Alters μ s₀ (State.formSpi s r) := by
  unfold State.formSpi
  try dsimp only
  repeat' first
    | (with_reducible first | assumption | apply alters_onLink)
    | exact sub_trans (by decide +kernel) hm
    | split

/-- What `State.beginSpi` may alter. -/
def alt_beginSpi : Nat := alt_notReady ||| alt_onLink ||| alt_shiftOut

theorem alters_beginSpi {μ : Nat} {s₀ : State} (s : State) (page : ℕ) (word : ℕ) (hm : Sub alt_beginSpi μ)
    (hk : Alters μ s₀ s) : Alters μ s₀ (State.beginSpi s page word).1 := by
  unfold State.beginSpi
  try dsimp only
  repeat' first
    | (with_reducible first | assumption | apply alters_notReady | apply alters_onLink | apply alters_shiftOut)
    | exact sub_trans (by decide +kernel) hm
    | split

/-- What `State.queueWait` may alter. -/
def alt_queueWait : Nat := partFlt

theorem alters_queueWait {μ : Nat} {s₀ : State} (s : State) (l : Link) (hm : Sub alt_queueWait μ)
    (hk : Alters μ s₀ s) : Alters μ s₀ (State.queueWait s l) := by
  unfold State.queueWait
  try dsimp only
  repeat' first
    | simp only [alters_flt (sub_bit hm (i := 15) (by decide +kernel))]
    | (with_reducible first | assumption)
    | exact sub_trans (by decide +kernel) hm
    | split

/-- What `State.sendReply` may alter. -/
def alt_sendReply : Nat := alt_sendCan

theorem alters_sendReply {μ : Nat} {s₀ : State} (s : State) (l : Link) (f : CanPend) (hm : Sub alt_sendReply μ)
    (hk : Alters μ s₀ s) : Alters μ s₀ (State.sendReply s l f) := by
  unfold State.sendReply
  try dsimp only
  repeat' first
    | (with_reducible first | assumption | apply alters_sendCan)
    | exact sub_trans (by decide +kernel) hm
    | split

/-- What `State.dropFrame` may alter. -/
def alt_dropFrame : Nat := setMask F.HST_IFLAG_CAN0_DROP ||| setMask F.HST_IFLAG_CAN1_DROP

theorem alters_dropFrame {μ : Nat} {s₀ : State} (s : State) (port : ℕ) (hm : Sub alt_dropFrame μ)
    (hk : Alters μ s₀ s) : Alters μ s₀ (State.dropFrame s port) := by
  unfold State.dropFrame
  try dsimp only
  repeat' first
    | (with_reducible first | assumption | apply alters_flag)
    | exact sub_trans (by decide +kernel) hm
    | split

/-- What `execSpiNotReady` may alter. -/
def alt_execSpiNotReady : Nat := alt_notReady

theorem alters_execSpiNotReady {μ : Nat} {s₀ : State} (s : State) (hm : Sub alt_execSpiNotReady μ)
    (hk : Alters μ s₀ s) : AltersTo μ s₀ (execSpiNotReady s) := by
  unfold execSpiNotReady
  try dsimp only
  repeat' first
    | (with_reducible first | assumption | apply alters_notReady | apply alters_next | apply alters_ite)
    | exact sub_trans (by decide +kernel) hm
    | split

/-- What `State.canCounts` may alter. -/
def alt_canCounts : Nat := arrayMask F.HST_CAN0ST_REC ||| arrayMask F.HST_CAN0ST_TEC

theorem alters_canCounts {μ : Nat} {s₀ : State} (s : State) (port : ℕ) (tec : ℕ) (rec : ℕ) (hm : Sub alt_canCounts μ)
    (hk : Alters μ s₀ s) : Alters μ s₀ (State.canCounts s port tec rec) := by
  unfold State.canCounts
  try dsimp only
  repeat' first
    | (with_reducible first | assumption | apply alters_set)
    | exact sub_trans (by decide +kernel) hm
    | (with_reducible refine sub_chain (setMask_at _ _) ?_; (try simp only [arrayMask_on]); first | assumption | exact sub_trans (by decide +kernel) hm)
    | split

/-- What `execCanErrorPassive` may alter. -/
def alt_execCanErrorPassive : Nat :=
    arrayMask F.HST_CAN0ST_STATE ||| setMask F.HST_IFLAG_CAN1_PASSIVE ||| setMask F.HST_IFLAG_CAN0_PASSIVE |||
    partRsm ||| alt_canCounts

theorem alters_execCanErrorPassive {μ : Nat} {s₀ : State} (port : Bool) (tec : ℕ) (recv : ℕ) (s : State) (hm : Sub alt_execCanErrorPassive μ)
    (hk : Alters μ s₀ s) : AltersTo μ s₀ (execCanErrorPassive port tec recv s) := by
  unfold execCanErrorPassive
  try dsimp only
  repeat' first
    | (with_reducible first | assumption | apply alters_raise | apply alters_flag | apply alters_set | apply alters_canCounts)
    | (with_reducible first | apply alters_next | apply altersTo_ite)
    | exact sub_trans (by decide +kernel) hm
    | (with_reducible refine sub_chain (setMask_at _ _) ?_; (try simp only [arrayMask_on]); first | assumption | exact sub_trans (by decide +kernel) hm)
    | split

/-- What `execCanErrorActive` may alter. -/
def alt_execCanErrorActive : Nat := arrayMask F.HST_CAN0ST_STATE ||| alt_canCounts

theorem alters_execCanErrorActive {μ : Nat} {s₀ : State} (port : Bool) (tec : ℕ) (recv : ℕ) (s : State) (hm : Sub alt_execCanErrorActive μ)
    (hk : Alters μ s₀ s) : AltersTo μ s₀ (execCanErrorActive port tec recv s) := by
  unfold execCanErrorActive
  try dsimp only
  repeat' first
    | (with_reducible first | assumption | apply alters_set | apply alters_canCounts | apply alters_next | apply altersTo_ite)
    | exact sub_trans (by decide +kernel) hm
    | (with_reducible refine sub_chain (setMask_at _ _) ?_; (try simp only [arrayMask_on]); first | assumption | exact sub_trans (by decide +kernel) hm)
    | split

/-- What `execCanBusOff` may alter. -/
def alt_execCanBusOff : Nat :=
    arrayMask F.HST_CAN0ST_BUSOFFS ||| arrayMask F.HST_CAN0ST_STATE ||| arrayMask F.HST_CAN0ST_TEC ||| setMask
    F.HST_IFLAG_CAN1_BUSOFF ||| setMask F.HST_IFLAG_CAN0_BUSOFF

theorem alters_execCanBusOff {μ : Nat} {s₀ : State} (port : Bool) (s : State) (hm : Sub alt_execCanBusOff μ)
    (hk : Alters μ s₀ s) : AltersTo μ s₀ (execCanBusOff port s) := by
  unfold execCanBusOff
  try dsimp only
  repeat' first
    | (with_reducible first | assumption | apply alters_flag | apply alters_count | apply alters_set | apply alters_next)
    | (with_reducible first | apply altersTo_ite)
    | exact sub_trans (by decide +kernel) hm
    | (with_reducible refine sub_chain (setMask_at _ _) ?_; (try simp only [arrayMask_on]); first | assumption | exact sub_trans (by decide +kernel) hm)
    | split

/-- What `execCanBusoffRecovery` may alter. -/
def alt_execCanBusoffRecovery : Nat := arrayMask F.HST_CAN0ST_STATE ||| alt_settleAttn ||| alt_canCounts

theorem alters_execCanBusoffRecovery {μ : Nat} {s₀ : State} (port : Bool) (s : State) (hm : Sub alt_execCanBusoffRecovery μ)
    (hk : Alters μ s₀ s) : AltersTo μ s₀ (execCanBusoffRecovery port s) := by
  unfold execCanBusoffRecovery
  try dsimp only
  repeat' first
    | (with_reducible first | assumption | apply alters_settleAttn | apply alters_set | apply alters_canCounts | apply alters_next)
    | (with_reducible first | apply altersTo_ite)
    | exact sub_trans (by decide +kernel) hm
    | (with_reducible refine sub_chain (setMask_at _ _) ?_; (try simp only [arrayMask_on]); first | assumption | exact sub_trans (by decide +kernel) hm)
    | split

/-- What `State.sendAttention` may alter. -/
def alt_sendAttention : Nat := alt_shiftOut ||| alt_sendCan ||| alt_onLink

theorem alters_sendAttention {μ : Nat} {s₀ : State} (s : State) (port : ℕ) (hm : Sub alt_sendAttention μ)
    (hk : Alters μ s₀ s) : Alters μ s₀ (State.sendAttention s port) := by
  unfold State.sendAttention
  try dsimp only
  repeat' first
    | (with_reducible first | assumption | apply alters_shiftOut | apply alters_sendCan | apply alters_onLink)
    | exact sub_trans (by decide +kernel) hm
    | split

/-- What `execAttnMessage` may alter. -/
def alt_execAttnMessage : Nat := alt_sendAttention

theorem alters_execAttnMessage {μ : Nat} {s₀ : State} (port : Bool) (s : State) (hm : Sub alt_execAttnMessage μ)
    (hk : Alters μ s₀ s) : AltersTo μ s₀ (execAttnMessage port s) := by
  unfold execAttnMessage
  try dsimp only
  repeat' first
    | (with_reducible first | assumption | apply alters_sendAttention | apply alters_next | apply altersTo_ite)
    | exact sub_trans (by decide +kernel) hm
    | split

/-- What `execAttnMsgWindowEnd` may alter. -/
def alt_execAttnMsgWindowEnd : Nat := partNow ||| alt_onLink ||| alt_sendAttention

theorem alters_execAttnMsgWindowEnd {μ : Nat} {s₀ : State} (port : Bool) (s : State) (hm : Sub alt_execAttnMsgWindowEnd μ)
    (hk : Alters μ s₀ s) : AltersTo μ s₀ (execAttnMsgWindowEnd port s) := by
  unfold execAttnMsgWindowEnd
  try dsimp only
  repeat' first
    | (with_reducible first | assumption | apply alters_onLink | apply alters_advanceTo | apply alters_sendAttention)
    | (with_reducible first | apply alters_next | apply altersTo_ite)
    | exact sub_trans (by decide +kernel) hm
    | split

/-! ### Redundancy.lean -/

/-- What `State.onFlt` may alter. -/
def alt_onFlt : Nat := partFlt

theorem alters_onFlt {μ : Nat} {s₀ : State} (s : State) (f : RedundancySt → RedundancySt) (hm : Sub alt_onFlt μ)
    (hk : Alters μ s₀ s) : Alters μ s₀ (State.onFlt s f) := by
  unfold State.onFlt
  try dsimp only
  repeat' first
    | simp only [alters_flt (sub_bit hm (i := 15) (by decide +kernel))]
    | (with_reducible first | assumption)
    | exact sub_trans (by decide +kernel) hm
    | split

/-- What `State.writeLast` may alter. -/
def alt_writeLast : Nat := setMask F.FLT_LAST_FRAME

theorem alters_writeLast {μ : Nat} {s₀ : State} (s : State) (frame : ℕ) (out : ℕ) (parity : ℕ) (tests : ℕ) (freeze : ℕ) (hm : Sub alt_writeLast μ)
    (hk : Alters μ s₀ s) : Alters μ s₀ (State.writeLast s frame out parity tests freeze) := by
  unfold State.writeLast
  try dsimp only
  repeat' first
    | (with_reducible first | assumption | apply alters_putF | apply alters_put)
    | exact sub_trans (by decide +kernel) hm
    | split

/-- What `State.takeJournal` may alter. -/
def alt_takeJournal : Nat := partJournal ||| alt_acquireLease

theorem alters_takeJournal {μ : Nat} {s₀ : State} (s : State) (hm : Sub alt_takeJournal μ)
    (hk : Alters μ s₀ s) : Alters μ s₀ (State.takeJournal s) := by
  unfold State.takeJournal
  try dsimp only
  repeat' first
    | simp only [alters_journal (sub_bit hm (i := 30) (by decide +kernel))]
    | (with_reducible first | assumption | apply alters_acquireLease | apply alters_ite)
    | exact sub_trans (by decide +kernel) hm
    | split

/-- What `execLockstepMismatch` may alter. -/
def alt_execLockstepMismatch : Nat :=
    setMask F.FLT_COUNT_MISMATCH ||| setMask F.FLT_PSTAT_FREEZE ||| alt_abortCommit ||| alt_onFlt |||
    alt_freezeLeases ||| alt_journalBy

theorem alters_execLockstepMismatch {μ : Nat} {s₀ : State} (parA : Bool) (parB : Bool) (s : State) (hm : Sub alt_execLockstepMismatch μ)
    (hk : Alters μ s₀ s) : AltersTo μ s₀ (execLockstepMismatch parA parB s) := by
  unfold execLockstepMismatch
  try dsimp only
  repeat' first
    | (with_reducible first | assumption | apply alters_abortCommit | apply alters_count | apply alters_setOn | apply alters_onFlt)
    | (with_reducible first | apply alters_freezeLeases | apply alters_journalBy | apply alters_next | apply altersTo_ite)
    | exact sub_trans (by decide +kernel) hm
    | split

/-- What `State.mismatchRecord` may alter. -/
def alt_mismatchRecord : Nat := setMask F.FLT_IFLAG_MISMATCH ||| partRsm ||| alt_onFlt

theorem alters_mismatchRecord {μ : Nat} {s₀ : State} (s : State) (hm : Sub alt_mismatchRecord μ)
    (hk : Alters μ s₀ s) : Alters μ s₀ (State.mismatchRecord s) := by
  unfold State.mismatchRecord
  try dsimp only
  repeat' first
    | (with_reducible first | assumption | apply alters_flag | apply alters_onFlt | apply alters_send)
    | exact sub_trans (by decide +kernel) hm
    | split

/-- What `State.beginSlice` may alter. -/
def alt_beginSlice : Nat := setMask F.FLT_PSTAT_FREEZE ||| alt_onFlt

theorem alters_beginSlice {μ : Nat} {s₀ : State} (s : State) (hm : Sub alt_beginSlice μ)
    (hk : Alters μ s₀ s) : Alters μ s₀ (State.beginSlice s) := by
  unfold State.beginSlice
  try dsimp only
  repeat' first
    | (with_reducible first | assumption | apply alters_setOn | apply alters_onFlt)
    | exact sub_trans (by decide +kernel) hm
    | split

/-- What `execDegradedTimeExpiry` may alter. -/
def alt_execDegradedTimeExpiry : Nat :=
    setMask F.FLT_IFLAG_EXPIRED ||| partNow ||| partRsm ||| alt_raiseCond ||| alt_journalWrite ||| alt_onFlt

theorem alters_execDegradedTimeExpiry {μ : Nat} {s₀ : State} (s : State) (hm : Sub alt_execDegradedTimeExpiry μ)
    (hk : Alters μ s₀ s) : AltersTo μ s₀ (execDegradedTimeExpiry s) := by
  unfold execDegradedTimeExpiry
  try dsimp only
  repeat' first
    | (with_reducible first | assumption | apply alters_advanceTo | apply alters_raiseCond | apply alters_flagEvent)
    | (with_reducible first | apply alters_journalWrite | apply alters_onFlt | apply alters_next | apply altersTo_ite)
    | exact sub_trans (by decide +kernel) hm
    | split

/-- What `execDegradedTimeSave` may alter. -/
def alt_execDegradedTimeSave : Nat := partNow ||| alt_journalWrite ||| alt_onFlt

theorem alters_execDegradedTimeSave {μ : Nat} {s₀ : State} (s : State) (hm : Sub alt_execDegradedTimeSave μ)
    (hk : Alters μ s₀ s) : AltersTo μ s₀ (execDegradedTimeSave s) := by
  unfold execDegradedTimeSave
  try dsimp only
  repeat' first
    | (with_reducible first | assumption | apply alters_advanceTo | apply alters_journalWrite | apply alters_onFlt)
    | (with_reducible first | apply alters_next | apply altersTo_ite)
    | exact sub_trans (by decide +kernel) hm
    | split

/-- What `execMramRecoveryDone` may alter. -/
def alt_execMramRecoveryDone : Nat :=
    setMask F.FLT_IFLAG_ROLLFWD ||| setMask F.FLT_IFLAG_DISCARD ||| partJournal ||| alt_writebackStored |||
    alt_writebackBroken ||| alt_releaseLease ||| alt_finishPort ||| alt_onFlt ||| alt_takeJournal

theorem alters_execMramRecoveryDone {μ : Nat} {s₀ : State} (entries : List Bool) (header : Option Bool) (s : State) (hm : Sub alt_execMramRecoveryDone μ)
    (hk : Alters μ s₀ s) : AltersTo μ s₀ (execMramRecoveryDone entries header s) := by
  unfold execMramRecoveryDone
  try dsimp only
  repeat' first
    | intro _
    | simp only [alters_journal (sub_bit hm (i := 30) (by decide +kernel))]
    | (with_reducible first | assumption | apply alters_applyIf | apply alters_flag | apply alters_writebackStored)
    | (with_reducible first | apply alters_writebackBroken | apply alters_releaseLease | apply alters_finishPort | apply alters_onFlt)
    | (with_reducible first | apply alters_takeJournal | apply alters_next | apply alters_ite)
    | exact sub_trans (by decide +kernel) hm
    | split

/-! ### HostRows.lean -/

end Sys2Proof.Machine
end

