-- ==== Sys2Proof/Laws/Alters.lean ====
section
/-! SUPPORT. What a command may alter. -/
namespace Sys2Proof.Machine
open Host
set_option Elab.async false

/-- What a command may alter; none where it may alter any word (a request on a link, a commit, a restart). -/
def reach : Instr → Option Nat
  | .startQualified _ => none
  | .mdieSettled _ => some alt_execMdieSettled
  | .mdieSettleTimeout _ => some alt_execMdieSettleTimeout
  | .holdupStoreCharged => some alt_execHoldupStoreCharged
  | .holdupTimeout => some alt_execHoldupTimeout
  | .enterRun _ => some alt_execEnterRun
  | .supplyLow => some alt_execSupplyLow
  | .supplyLowClear => some alt_execSupplyLowClear
  | .pwrWarn => some alt_execPwrWarn
  | .pwrWarnClear => some alt_execPwrWarnClear
  | .pwrFail => some alt_execPwrFail
  | .cdieReset => some alt_execCdieReset
  | .vmOkChange _ => some alt_execVmOkChange
  | .hostReset _ _ => none
  | .layupEnter _ _ _ => none
  | .layupWake _ => some alt_execLayupWake
  | .layupSupplyLost => some alt_execLayupSupplyLost
  | .addrChange _ => some alt_execAddrChange
  | .nop _ _ => none
  | .read _ _ => none
  | .write _ _ => none
  | .burstRead _ _ => none
  | .commit _ _ => none
  | .status _ _ => none
  | .unknownOp _ _ _ _ => none
  | .crcErrorFrame _ _ => none
  | .spiNotReady => some alt_execSpiNotReady
  | .canRequestFrame _ _ => none
  | .canErrorPassive _ _ _ => some alt_execCanErrorPassive
  | .canBusOff _ => some alt_execCanBusOff
  | .canBusoffRecovery _ => some alt_execCanBusoffRecovery
  | .attnMessage _ => some alt_execAttnMessage
  | .attnMsgWindowEnd _ => some alt_execAttnMsgWindowEnd
  | .commitStep => none
  | .cfgDiscard _ _ => none
  | .pctlEn _ _ _ => none
  | .pctlRst _ _ => none
  | .iflagClear _ _ _ => none
  | .cfgUnlock _ _ => none
  | .unlockExpiry _ _ => some alt_execUnlockExpiry
  | .lockoutEnd _ => some alt_execLockoutEnd
  | .cfgNewpw _ _ => none
  | .cfgDefault _ _ => none
  | .fwOpen _ => none
  | .fwData _ _ => none
  | .fwVerify _ => none
  | .fwVerifyDone _ _ => some alt_execFwVerifyDone
  | .fwActivate _ => none
  | .fwAbandon _ => none
  | .frameBoundary _ => some alt_execFrameBoundary
  | .midFrameSample _ => some alt_execMidFrameSample
  | .quietLead => some alt_execQuietLead
  | .servoTick _ => some alt_execServoTick
  | .auxScan _ => some alt_execAuxScan
  | .syncInEdge => some alt_execSyncInEdge
  | .syncMiss => some alt_execSyncMiss
  | .timeLoRead _ => none
  | .epochLoWrite _ _ => none
  | .epochHiWrite _ _ => none
  | .xtalLost => some alt_execXtalLost
  | .xtalRegained => some alt_execXtalRegained
  | .clockCheckWindow _ => some alt_execClockCheckWindow
  | .strobeRecal _ => some alt_execStrobeRecal
  | .segmentDown _ => some alt_execSegmentDown
  | .segmentRetrain _ _ => some alt_execSegmentRetrain
  | .dieUnreachable _ => some alt_execDieUnreachable
  | .dieRejoin _ => some alt_execDieRejoin
  | .dieSleep _ => some alt_execDieSleep
  | .dieWake _ => some alt_execDieWake
  | .periodicSave => some alt_execPeriodicSave
  | .firmwareEval => some alt_execFirmwareEval
  | .sweepStart => some alt_execSweepStart
  | .owRequest _ _ _ => none
  | .tapTestStart _ => some alt_execTapTestStart
  | .tapWindowEnd _ => some alt_execTapWindowEnd
  | .tapTestDecide _ => some alt_execTapTestDecide
  | .gatedEval _ => some alt_execGatedEval
  | .gatedTrip => some alt_execGatedTrip
  | .absoluteTrip _ _ _ => some alt_execAbsoluteTrip
  | .comparatorSelfTest _ => some alt_execComparatorSelfTest
  | .faultChannelLost _ _ => some alt_execFaultChannelLost
  | .tripCode _ _ => some alt_execTripCode
  | .carrierReturn _ => some alt_execCarrierReturn
  | .flclr _ _ => none
  | .fastOcTrip _ => some alt_execFastOcTrip
  | .ocSelfTest _ => some alt_execOcSelfTest
  | .balanceOnTimeEnd _ _ => some alt_execBalanceOnTimeEnd
  | .switchStuck _ _ => some alt_execSwitchStuck
  | .switchOvercurrent _ _ => some alt_execSwitchOvercurrent
  | .balanceOpenLoop _ _ => some alt_execBalanceOpenLoop
  | .blSwclr _ _ _ => none
  | .learnStart _ _ => none
  | .learnAbort _ _ => none
  | .currentSuspect => some alt_execCurrentSuspect
  | .currentAgreed => some alt_execCurrentAgreed
  | .curZero _ => none
  | .zeroAutoStart => some alt_execZeroAutoStart
  | .zeroingDone => some alt_execZeroingDone
  | .stvCalStr _ => none
  | .stvCalLnk _ => none
  | .stvCalClear _ => none
  | .stvCalDone => some alt_execStvCalDone
  | .sageStep => some alt_execSageStep
  | .writebackPeriod => some alt_execWritebackPeriod
  | .sgeCmdWriteback _ => none
  | .writebackStart => some alt_execWritebackStart
  | .writebackDone => some alt_execWritebackDone
  | .tableLoad _ => none
  | .tableActivate _ => none
  | .tbldataAccess _ _ => none
  | .sgcBankWrite _ _ => none
  | .sgcReset _ _ => none
  | .limZselWrite _ _ => none
  | .connect _ => none
  | .disconnect _ => none
  | .chargeOn _ => none
  | .chargeOff _ => none
  | .prtClear _ => none
  | .weldclr _ _ => none
  | .pullInEnd _ => some alt_execPullInEnd
  | .auxChange _ _ => some alt_execAuxChange
  | .prechargeTimeout => some alt_execPrechargeTimeout
  | .prechargeOverlapEnd => some alt_execPrechargeOverlapEnd
  | .matchTimeout => some alt_execMatchTimeout
  | .prechargeCoolEnd => some alt_execPrechargeCoolEnd
  | .coilOvercurrent _ => some alt_execCoilOvercurrent
  | .coilCurrentFault _ => some alt_execCoilCurrentFault
  | .auxCloseTimeout _ => some alt_execAuxCloseTimeout
  | .auxOpenTimeout _ => some alt_execAuxOpenTimeout
  | .cd1HoldEnd => some alt_execCd1HoldEnd
  | .deadlineExpiry => some alt_execDeadlineExpiry
  | .badChannelsOpen => some alt_execBadChannelsOpen
  | .suspectTimeExpiry => some alt_execSuspectTimeExpiry
  | .degradedCellExpiry _ _ => some alt_execDegradedCellExpiry
  | .cellTempExpiry _ _ => some alt_execCellTempExpiry
  | .limitFrame => some alt_execLimitFrame
  | .chargeOffTimeout => some alt_execChargeOffTimeout
  | .shoreDetChange _ => some alt_execShoreDetChange
  | .ringCycle => some alt_execRingCycle
  | .ringStatusMsg _ => some alt_execRingStatusMsg
  | .memberLost _ => some alt_execMemberLost
  | .grantTimeout => some alt_execGrantTimeout
  | .systemFrame => some alt_execSystemFrame
  | .mirrorReceived _ _ _ _ _ => some alt_execMirrorReceived
  | .mirrorHeaderReply _ => some alt_execMirrorHeaderReply
  | .adopt _ => none
  | .adoptFetchDone _ _ => none
  | .decline _ => none
  | .cancel _ => none
  | .installAnchor _ => none
  | .enrol _ _ => none
  | .authenticateAll _ => none
  | .autPoll _ => some alt_execAutPoll
  | .slotAuthDone _ _ => some alt_execSlotAuthDone
  | .autKeydataWrite _ _ => none
  | .autSelWrite _ _ => none
  | .lockstepMismatch _ _ => some alt_execLockstepMismatch
  | .arbitration _ _ => none
  | .coreResume _ => none
  | .selfTestSlice _ _ => none
  | .watchdogExpiry => none
  | .degradedTimeExpiry => some alt_execDegradedTimeExpiry
  | .degradedTimeSave => some alt_execDegradedTimeSave
  | .leaseAcquire _ _ => some alt_execLeaseAcquire
  | .leaseRelease _ _ => none
  | .leaseExpiry _ => none
  | .mramRecoveryDone _ _ => some alt_execMramRecoveryDone
  | .recordAccept => some alt_execRecordAccept
  | .flushPeriodic => some alt_execFlushPeriodic
  | .flushStart => some alt_execFlushStart
  | .flushDone => some alt_execFlushDone
  | .rateWindowClose => some alt_execRateWindowClose
  | .rsmClear _ _ => none
  | .rsmSnapWrite _ _ => none
  | .snapshotExpiry _ => some alt_execSnapshotExpiry
  | .rsmRdselWrite _ _ => none
  | .ledgerRecordWrite => some alt_execLedgerRecordWrite
  | .cylAck _ _ => none
  | .cylRdselWrite _ _ => none
  | .baySamplePair _ _ => some alt_execBaySamplePair
  | .bayPairLost => some alt_execBayPairLost
  | .bayInterval => some alt_execBayInterval
  | .bayCopyWrite => some alt_execBayCopyWrite
  | .bayAux3Change _ => some alt_execBayAux3Change
  | .bayBreak _ => some alt_execBayBreak
  | .baySet _ _ => some alt_execBaySet
  | .baySeal _ => some alt_execBaySeal
  | .bayImgOpen _ => some alt_execBayImgOpen
  | .bayImgData _ => some alt_execBayImgData
  | .bayImgEnd _ _ _ => some alt_execBayImgEnd
  | .bayMailboxReject _ => some alt_execBayMailboxReject
  | .bayLockoutEnd => some alt_execBayLockoutEnd
  | .move _ _ => none
  | .home _ _ => none
  | .axisStop _ _ => none
  | .axisClear _ _ => none
  | .groupStart _ _ => none
  | .groupStop _ _ => none
  | .stopAll _ => none
  | .cycleStart _ => some alt_execCycleStart
  | .cycleEnd _ => some alt_execCycleEnd
  | .homePoint _ => some alt_execHomePoint
  | .homingTimeout _ => some alt_execHomingTimeout
  | .stall _ => some alt_execStall
  | .obstacle _ => some alt_execObstacle
  | .edgeChange _ _ => some alt_execEdgeChange
  | .edgeGapTimeout _ => some alt_execEdgeGapTimeout
  | .limitSwitch _ => some alt_execLimitSwitch
  | .setpointQueueEmpty _ => some alt_execSetpointQueueEmpty
  | .standstillDelay _ => some alt_execStandstillDelay
  | .gdieFrame _ _ _ => some alt_execGdieFrame
  | .gdieLinkLost => some alt_execGdieLinkLost
  | .sctest _ _ => none
  | .sctestDone _ _ => some alt_execSctestDone
  | .recover _ _ => none
  | .gatePulse _ _ _ => none
  | .gatePulseEnd _ _ _ _ => some alt_execGatePulseEnd
  | .gdLiveRead _ _ => none
  | .qualification _ => some alt_execQualification
  | .qualificationDone _ _ _ => some alt_execQualificationDone
  | .pwmPeriod _ _ => some alt_execPwmPeriod
  | .shortCircuitTrip _ _ => some alt_execShortCircuitTrip
  | .handshakeTimeout _ => some alt_execHandshakeTimeout
  | .vmOutOfRange _ => some alt_execVmOutOfRange
  | .vggUndervoltage => some alt_execVggUndervoltage
  | .supplyRelease _ => some alt_execSupplyRelease
  | .bootstrapUndervoltage _ _ => some alt_execBootstrapUndervoltage
  | .refreshEpisode _ _ _ => some alt_execRefreshEpisode
  | .chopperOn => some alt_execChopperOn
  | .chopperOff => some alt_execChopperOff
  | .chopperLong => some alt_execChopperLong
  | .lsOutWrite _ _ _ => none
  | .lsClr _ _ _ => none
  | .inrushEnd _ => some alt_execInrushEnd
  | .limitTime _ => some alt_execLimitTime
  | .openLoadChange _ _ => some alt_execOpenLoadChange
  | .zoneHot _ _ _ => some alt_execZoneHot
  | .zoneSecondCheck _ _ => some alt_execZoneSecondCheck
  | .zoneCool _ => some alt_execZoneCool
  | .zoneSensorFault _ => some alt_execZoneSensorFault
  | .shed => some alt_execShed
  | .lsRestart _ => some alt_execLsRestart
  | .leftReload _ => some alt_execLeftReload
  | .guardChange _ _ => some alt_execGuardChange
  | .safestopTimeout _ => some alt_execSafestopTimeout
  | .brakeCurrentFault _ => some alt_execBrakeCurrentFault
  | .brakeSwitchPulse _ _ _ => some alt_execBrakeSwitchPulse
  | .brakeTestStart _ => some alt_execBrakeTestStart
  | .brakeTestDone _ _ _ => some alt_execBrakeTestDone
  | .testBrk0 _ => none
  | .testBrk1 _ => none
  | .propEnPulse _ _ => some alt_execPropEnPulse
  | .propEnReadback _ => some alt_execPropEnReadback
  | .propEnLow => some alt_execPropEnLow
  | .safetySelfTestSlice _ => some alt_execSafetySelfTestSlice
  | .safetyDegradedExpiry => some alt_execSafetyDegradedExpiry
  | .safetyPduReceived _ _ => some alt_execSafetyPduReceived
  | .safetyPduSend => some alt_execSafetyPduSend
  | .safetyWatchdogExpiry => some alt_execSafetyWatchdogExpiry
  | .safUnlock _ _ => none
  | .safNewpw _ _ => none
  | .thermalEval _ _ _ => some alt_execThermalEval
  | .thermalPowerDown _ => some alt_execThermalPowerDown
  | .thermalPauseEnd _ => some alt_execThermalPauseEnd
  | .diePowerCycle _ => some alt_execDiePowerCycle
  | .tmpCmd _ _ => none
  | .eccCorrected _ => some alt_execEccCorrected
  | .sramDoubleBitError => none
  | .brakeEngagedReadback _ => some alt_execBrakeEngagedReadback
  | .canErrorActive _ _ _ => some alt_execCanErrorActive

/-- A command alters only what it may. -/
theorem alters_exec (i : Instr) (s : State) {μ : Nat} (h : reach i = some μ) : AltersTo μ s (exec i s) := by
  cases i <;> simp only [reach, Option.some.injEq, reduceCtorEq] at h <;> subst h
  · exact alters_execMdieSettled _ _ (sub_refl _) (alters_refl _ _)
  · exact alters_execMdieSettleTimeout _ _ (sub_refl _) (alters_refl _ _)
  · exact alters_execHoldupStoreCharged _ (sub_refl _) (alters_refl _ _)
  · exact alters_execHoldupTimeout _ (sub_refl _) (alters_refl _ _)
  · exact alters_execEnterRun _ _ (sub_refl _) (alters_refl _ _)
  · exact alters_execSupplyLow _ (sub_refl _) (alters_refl _ _)
  · exact alters_execSupplyLowClear _ (sub_refl _) (alters_refl _ _)
  · exact alters_execPwrWarn _ (sub_refl _) (alters_refl _ _)
  · exact alters_execPwrWarnClear _ (sub_refl _) (alters_refl _ _)
  · exact alters_execPwrFail _ (sub_refl _) (alters_refl _ _)
  · exact alters_execCdieReset _ (sub_refl _) (alters_refl _ _)
  · exact alters_execVmOkChange _ _ (sub_refl _) (alters_refl _ _)
  · exact alters_execLayupWake _ _ (sub_refl _) (alters_refl _ _)
  · exact alters_execLayupSupplyLost _ (sub_refl _) (alters_refl _ _)
  · exact alters_execAddrChange _ _ (sub_refl _) (alters_refl _ _)
  · exact alters_execSpiNotReady _ (sub_refl _) (alters_refl _ _)
  · exact alters_execCanErrorPassive _ _ _ _ (sub_refl _) (alters_refl _ _)
  · exact alters_execCanBusOff _ _ (sub_refl _) (alters_refl _ _)
  · exact alters_execCanBusoffRecovery _ _ (sub_refl _) (alters_refl _ _)
  · exact alters_execAttnMessage _ _ (sub_refl _) (alters_refl _ _)
  · exact alters_execAttnMsgWindowEnd _ _ (sub_refl _) (alters_refl _ _)
  · exact alters_execUnlockExpiry _ _ _ (sub_refl _) (alters_refl _ _)
  · exact alters_execLockoutEnd _ _ (sub_refl _) (alters_refl _ _)
  · exact alters_execFwVerifyDone _ _ _ (sub_refl _) (alters_refl _ _)
  · exact alters_execFrameBoundary _ _ (sub_refl _) (alters_refl _ _)
  · exact alters_execMidFrameSample _ _ (sub_refl _) (alters_refl _ _)
  · exact alters_execQuietLead _ (sub_refl _) (alters_refl _ _)
  · exact alters_execServoTick _ _ (sub_refl _) (alters_refl _ _)
  · exact alters_execAuxScan _ _ (sub_refl _) (alters_refl _ _)
  · exact alters_execSyncInEdge _ (sub_refl _) (alters_refl _ _)
  · exact alters_execSyncMiss _ (sub_refl _) (alters_refl _ _)
  · exact alters_execXtalLost _ (sub_refl _) (alters_refl _ _)
  · exact alters_execXtalRegained _ (sub_refl _) (alters_refl _ _)
  · exact alters_execClockCheckWindow _ _ (sub_refl _) (alters_refl _ _)
  · exact alters_execStrobeRecal _ _ (sub_refl _) (alters_refl _ _)
  · exact alters_execSegmentDown _ _ (sub_refl _) (alters_refl _ _)
  · exact alters_execSegmentRetrain _ _ _ (sub_refl _) (alters_refl _ _)
  · exact alters_execDieUnreachable _ _ (sub_refl _) (alters_refl _ _)
  · exact alters_execDieRejoin _ _ (sub_refl _) (alters_refl _ _)
  · exact alters_execDieSleep _ _ (sub_refl _) (alters_refl _ _)
  · exact alters_execDieWake _ _ (sub_refl _) (alters_refl _ _)
  · exact alters_execPeriodicSave _ (sub_refl _) (alters_refl _ _)
  · exact alters_execFirmwareEval _ (sub_refl _) (alters_refl _ _)
  · exact alters_execSweepStart _ (sub_refl _) (alters_refl _ _)
  · exact alters_execTapTestStart _ _ (sub_refl _) (alters_refl _ _)
  · exact alters_execTapWindowEnd _ _ (sub_refl _) (alters_refl _ _)
  · exact alters_execTapTestDecide _ _ (sub_refl _) (alters_refl _ _)
  · exact alters_execGatedEval _ _ (sub_refl _) (alters_refl _ _)
  · exact alters_execGatedTrip _ (sub_refl _) (alters_refl _ _)
  · exact alters_execAbsoluteTrip _ _ _ _ (sub_refl _) (alters_refl _ _)
  · exact alters_execComparatorSelfTest _ _ (sub_refl _) (alters_refl _ _)
  · exact alters_execFaultChannelLost _ _ _ (sub_refl _) (alters_refl _ _)
  · exact alters_execTripCode _ _ _ (sub_refl _) (alters_refl _ _)
  · exact alters_execCarrierReturn _ _ (sub_refl _) (alters_refl _ _)
  · exact alters_execFastOcTrip _ _ (sub_refl _) (alters_refl _ _)
  · exact alters_execOcSelfTest _ _ (sub_refl _) (alters_refl _ _)
  · exact alters_execBalanceOnTimeEnd _ _ _ (sub_refl _) (alters_refl _ _)
  · exact alters_execSwitchStuck _ _ _ (sub_refl _) (alters_refl _ _)
  · exact alters_execSwitchOvercurrent _ _ _ (sub_refl _) (alters_refl _ _)
  · exact alters_execBalanceOpenLoop _ _ _ (sub_refl _) (alters_refl _ _)
  · exact alters_execCurrentSuspect _ (sub_refl _) (alters_refl _ _)
  · exact alters_execCurrentAgreed _ (sub_refl _) (alters_refl _ _)
  · exact alters_execZeroAutoStart _ (sub_refl _) (alters_refl _ _)
  · exact alters_execZeroingDone _ (sub_refl _) (alters_refl _ _)
  · exact alters_execStvCalDone _ (sub_refl _) (alters_refl _ _)
  · exact alters_execSageStep _ (sub_refl _) (alters_refl _ _)
  · exact alters_execWritebackPeriod _ (sub_refl _) (alters_refl _ _)
  · exact alters_execWritebackStart _ (sub_refl _) (alters_refl _ _)
  · exact alters_execWritebackDone _ (sub_refl _) (alters_refl _ _)
  · exact alters_execPullInEnd _ _ (sub_refl _) (alters_refl _ _)
  · exact alters_execAuxChange _ _ _ (sub_refl _) (alters_refl _ _)
  · exact alters_execPrechargeTimeout _ (sub_refl _) (alters_refl _ _)
  · exact alters_execPrechargeOverlapEnd _ (sub_refl _) (alters_refl _ _)
  · exact alters_execMatchTimeout _ (sub_refl _) (alters_refl _ _)
  · exact alters_execPrechargeCoolEnd _ (sub_refl _) (alters_refl _ _)
  · exact alters_execCoilOvercurrent _ _ (sub_refl _) (alters_refl _ _)
  · exact alters_execCoilCurrentFault _ _ (sub_refl _) (alters_refl _ _)
  · exact alters_execAuxCloseTimeout _ _ (sub_refl _) (alters_refl _ _)
  · exact alters_execAuxOpenTimeout _ _ (sub_refl _) (alters_refl _ _)
  · exact alters_execCd1HoldEnd _ (sub_refl _) (alters_refl _ _)
  · exact alters_execDeadlineExpiry _ (sub_refl _) (alters_refl _ _)
  · exact alters_execBadChannelsOpen _ (sub_refl _) (alters_refl _ _)
  · exact alters_execSuspectTimeExpiry _ (sub_refl _) (alters_refl _ _)
  · exact alters_execDegradedCellExpiry _ _ _ (sub_refl _) (alters_refl _ _)
  · exact alters_execCellTempExpiry _ _ _ (sub_refl _) (alters_refl _ _)
  · exact alters_execLimitFrame _ (sub_refl _) (alters_refl _ _)
  · exact alters_execChargeOffTimeout _ (sub_refl _) (alters_refl _ _)
  · exact alters_execShoreDetChange _ _ (sub_refl _) (alters_refl _ _)
  · exact alters_execRingCycle _ (sub_refl _) (alters_refl _ _)
  · exact alters_execRingStatusMsg _ _ (sub_refl _) (alters_refl _ _)
  · exact alters_execMemberLost _ _ (sub_refl _) (alters_refl _ _)
  · exact alters_execGrantTimeout _ (sub_refl _) (alters_refl _ _)
  · exact alters_execSystemFrame _ (sub_refl _) (alters_refl _ _)
  · exact alters_execMirrorReceived _ _ _ _ _ _ (sub_refl _) (alters_refl _ _)
  · exact alters_execMirrorHeaderReply _ _ (sub_refl _) (alters_refl _ _)
  · exact alters_execAutPoll _ _ (sub_refl _) (alters_refl _ _)
  · exact alters_execSlotAuthDone _ _ _ (sub_refl _) (alters_refl _ _)
  · exact alters_execLockstepMismatch _ _ _ (sub_refl _) (alters_refl _ _)
  · exact alters_execDegradedTimeExpiry _ (sub_refl _) (alters_refl _ _)
  · exact alters_execDegradedTimeSave _ (sub_refl _) (alters_refl _ _)
  · exact alters_execLeaseAcquire _ _ _ (sub_refl _) (alters_refl _ _)
  · exact alters_execMramRecoveryDone _ _ _ (sub_refl _) (alters_refl _ _)
  · exact alters_execRecordAccept _ (sub_refl _) (alters_refl _ _)
  · exact alters_execFlushPeriodic _ (sub_refl _) (alters_refl _ _)
  · exact alters_execFlushStart _ (sub_refl _) (alters_refl _ _)
  · exact alters_execFlushDone _ (sub_refl _) (alters_refl _ _)
  · exact alters_execRateWindowClose _ (sub_refl _) (alters_refl _ _)
  · exact alters_execSnapshotExpiry _ _ (sub_refl _) (alters_refl _ _)
  · exact alters_execLedgerRecordWrite _ (sub_refl _) (alters_refl _ _)
  · exact alters_execBaySamplePair _ _ _ (sub_refl _) (alters_refl _ _)
  · exact alters_execBayPairLost _ (sub_refl _) (alters_refl _ _)
  · exact alters_execBayInterval _ (sub_refl _) (alters_refl _ _)
  · exact alters_execBayCopyWrite _ (sub_refl _) (alters_refl _ _)
  · exact alters_execBayAux3Change _ _ (sub_refl _) (alters_refl _ _)
  · exact alters_execBayBreak _ _ (sub_refl _) (alters_refl _ _)
  · exact alters_execBaySet _ _ _ (sub_refl _) (alters_refl _ _)
  · exact alters_execBaySeal _ _ (sub_refl _) (alters_refl _ _)
  · exact alters_execBayImgOpen _ _ (sub_refl _) (alters_refl _ _)
  · exact alters_execBayImgData _ _ (sub_refl _) (alters_refl _ _)
  · exact alters_execBayImgEnd _ _ _ _ (sub_refl _) (alters_refl _ _)
  · exact alters_execBayMailboxReject _ _ (sub_refl _) (alters_refl _ _)
  · exact alters_execBayLockoutEnd _ (sub_refl _) (alters_refl _ _)
  · exact alters_execCycleStart _ _ (sub_refl _) (alters_refl _ _)
  · exact alters_execCycleEnd _ _ (sub_refl _) (alters_refl _ _)
  · exact alters_execHomePoint _ _ (sub_refl _) (alters_refl _ _)
  · exact alters_execHomingTimeout _ _ (sub_refl _) (alters_refl _ _)
  · exact alters_execStall _ _ (sub_refl _) (alters_refl _ _)
  · exact alters_execObstacle _ _ (sub_refl _) (alters_refl _ _)
  · exact alters_execEdgeChange _ _ _ (sub_refl _) (alters_refl _ _)
  · exact alters_execEdgeGapTimeout _ _ (sub_refl _) (alters_refl _ _)
  · exact alters_execLimitSwitch _ _ (sub_refl _) (alters_refl _ _)
  · exact alters_execSetpointQueueEmpty _ _ (sub_refl _) (alters_refl _ _)
  · exact alters_execStandstillDelay _ _ (sub_refl _) (alters_refl _ _)
  · exact alters_execGdieFrame _ _ _ _ (sub_refl _) (alters_refl _ _)
  · exact alters_execGdieLinkLost _ (sub_refl _) (alters_refl _ _)
  · exact alters_execSctestDone _ _ _ (sub_refl _) (alters_refl _ _)
  · exact alters_execGatePulseEnd _ _ _ _ _ (sub_refl _) (alters_refl _ _)
  · exact alters_execQualification _ _ (sub_refl _) (alters_refl _ _)
  · exact alters_execQualificationDone _ _ _ _ (sub_refl _) (alters_refl _ _)
  · exact alters_execPwmPeriod _ _ _ (sub_refl _) (alters_refl _ _)
  · exact alters_execShortCircuitTrip _ _ _ (sub_refl _) (alters_refl _ _)
  · exact alters_execHandshakeTimeout _ _ (sub_refl _) (alters_refl _ _)
  · exact alters_execVmOutOfRange _ _ (sub_refl _) (alters_refl _ _)
  · exact alters_execVggUndervoltage _ (sub_refl _) (alters_refl _ _)
  · exact alters_execSupplyRelease _ _ (sub_refl _) (alters_refl _ _)
  · exact alters_execBootstrapUndervoltage _ _ _ (sub_refl _) (alters_refl _ _)
  · exact alters_execRefreshEpisode _ _ _ _ (sub_refl _) (alters_refl _ _)
  · exact alters_execChopperOn _ (sub_refl _) (alters_refl _ _)
  · exact alters_execChopperOff _ (sub_refl _) (alters_refl _ _)
  · exact alters_execChopperLong _ (sub_refl _) (alters_refl _ _)
  · exact alters_execInrushEnd _ _ (sub_refl _) (alters_refl _ _)
  · exact alters_execLimitTime _ _ (sub_refl _) (alters_refl _ _)
  · exact alters_execOpenLoadChange _ _ _ (sub_refl _) (alters_refl _ _)
  · exact alters_execZoneHot _ _ _ _ (sub_refl _) (alters_refl _ _)
  · exact alters_execZoneSecondCheck _ _ _ (sub_refl _) (alters_refl _ _)
  · exact alters_execZoneCool _ _ (sub_refl _) (alters_refl _ _)
  · exact alters_execZoneSensorFault _ _ (sub_refl _) (alters_refl _ _)
  · exact alters_execShed _ (sub_refl _) (alters_refl _ _)
  · exact alters_execLsRestart _ _ (sub_refl _) (alters_refl _ _)
  · exact alters_execLeftReload _ _ (sub_refl _) (alters_refl _ _)
  · exact alters_execGuardChange _ _ _ (sub_refl _) (alters_refl _ _)
  · exact alters_execSafestopTimeout _ _ (sub_refl _) (alters_refl _ _)
  · exact alters_execBrakeCurrentFault _ _ (sub_refl _) (alters_refl _ _)
  · exact alters_execBrakeSwitchPulse _ _ _ _ (sub_refl _) (alters_refl _ _)
  · exact alters_execBrakeTestStart _ _ (sub_refl _) (alters_refl _ _)
  · exact alters_execBrakeTestDone _ _ _ _ (sub_refl _) (alters_refl _ _)
  · exact alters_execPropEnPulse _ _ _ (sub_refl _) (alters_refl _ _)
  · exact alters_execPropEnReadback _ _ (sub_refl _) (alters_refl _ _)
  · exact alters_execPropEnLow _ (sub_refl _) (alters_refl _ _)
  · exact alters_execSafetySelfTestSlice _ _ (sub_refl _) (alters_refl _ _)
  · exact alters_execSafetyDegradedExpiry _ (sub_refl _) (alters_refl _ _)
  · exact alters_execSafetyPduReceived _ _ _ (sub_refl _) (alters_refl _ _)
  · exact alters_execSafetyPduSend _ (sub_refl _) (alters_refl _ _)
  · exact alters_execSafetyWatchdogExpiry _ (sub_refl _) (alters_refl _ _)
  · exact alters_execThermalEval _ _ _ _ (sub_refl _) (alters_refl _ _)
  · exact alters_execThermalPowerDown _ _ (sub_refl _) (alters_refl _ _)
  · exact alters_execThermalPauseEnd _ _ (sub_refl _) (alters_refl _ _)
  · exact alters_execDiePowerCycle _ _ (sub_refl _) (alters_refl _ _)
  · exact alters_execEccCorrected _ _ (sub_refl _) (alters_refl _ _)
  · exact alters_execBrakeEngagedReadback _ _ (sub_refl _) (alters_refl _ _)
  · exact alters_execCanErrorActive _ _ _ _ (sub_refl _) (alters_refl _ _)

end Sys2Proof.Machine
end

