-- ==== Sys2Proof/Laws/KeepBase.lean ====
section
/-! SUPPORT. What every operation keeps: both register files stay canonical, the queue of waiting commands is not touched, the
time base does not run backwards, and every list kept by die, axis, channel or slot has its length. One lemma per operation and per meaning. -/
namespace Sys2Proof.Machine
open Host

/-- Both register files canonical, the queue `q`, the time base at `n` or later, every list of its length. -/
def Keep (n : Nat) (q : List Instr) (s : State) : Prop :=
  regsWf s.regs = true ∧ regsWf s.shadow = true ∧ s.pending = q ∧ n ≤ s.now ∧ s.shaped

/-- The outcome is a next state, and it keeps. -/
def Goes (n : Nat) (q : List Instr) (o : Outcome State Fault Refusal) : Prop := ∃ t, o = .next t ∧ Keep n q t

variable {n : Nat} {q : List Instr}

theorem keep_of_eq {s t : State} (hr : t.regs = s.regs) (hs : t.shadow = s.shadow) (hp : t.pending = s.pending)
    (hn : t.now = s.now) (h : Keep n q s) (hd : s.shaped → t.shaped := by exact id) : Keep n q t := by
  unfold Keep at *; rw [hr, hs, hp, hn]; exact ⟨h.1, h.2.1, h.2.2.1, h.2.2.2.1, hd h.2.2.2.2⟩

/-- The time base apart. -/
theorem keep_zero {s : State} (h : Keep n q s) : Keep 0 q s := ⟨h.1, h.2.1, h.2.2.1, Nat.zero_le _, h.2.2.2.2⟩

/-- A change of other fields. -/
theorem keep_mk {xnow : Nat} {xregs xshadow : Regs} {xpending : List Instr}
    {xpublished : List Nat} {xgdieDown : Bool} {xpwr : PowerSt} {xpins : Pins} {xlinks : Links} {xcommit : CommitSt} {xpw
    : PasswordSt} {xspw : PasswordSt} {xfw : FirmwareSt} {xthy : ThymeSt} {xstk : StackSt} {xrsm : RosemarySt} {xcyl :
    LedgerSt} {xflt : RedundancySt} {xdieSt : List DieSt} {xline : FaultLineSt} {xcur : CurrentSt} {xbay : BaySt} {xmot :
    MotionSt} {xgate : GateSt} {xsaf : SafetySt} {xprot : ProtSt} {xtmp : ThermalSt} {xls : LoadSt} {xsage : SageSt}
    {xring : RingSt} {xaut : AuthSt} {xsaved : SavedSt} {xjournal : List JournalEntry} {xratios : List (Nat × Nat)} :
    Keep n q (State.mk xnow xregs xshadow xpublished xgdieDown xpwr xpins xlinks xcommit xpw xspw xfw xthy xstk xrsm xcyl xflt
      xdieSt xline xcur xbay xmot xgate xsaf xprot xtmp xls xsage xring xaut xsaved xjournal xratios
      xpending) ↔
      (regsWf xregs = true ∧ regsWf xshadow = true ∧ xpending = q ∧ n ≤ xnow ∧ xdieSt.length = 8 ∧ xmot.axes.length = 6 ∧
        xls.chans.length = 16 ∧ xflt.leases.length = 16) := Iff.rfl

/-- Keeping, written out. -/
theorem keep_fold {s : State} (h : Keep n q s) :
    regsWf s.regs = true ∧ regsWf s.shadow = true ∧ s.pending = q ∧ n ≤ s.now ∧ s.dieSt.length = 8 ∧ s.mot.axes.length = 6 ∧
      s.ls.chans.length = 16 ∧ s.flt.leases.length = 16 := h

theorem goes_next {t : State} (h : Keep n q t) : Goes n q (.next t) := ⟨t, rfl, h⟩

theorem keep_ite {c : Prop} [Decidable c] {a b : State} (ha : Keep n q a) (hb : Keep n q b) : Keep n q (if c then a else b) := by
  split <;> assumption

theorem goes_ite {c : Prop} [Decidable c] {a b : Outcome State Fault Refusal} (ha : Goes n q a) (hb : Goes n q b) :
    Goes n q (if c then a else b) := by
  split <;> assumption

theorem keep_foldl {α : Type} {f : State → α → State} {l : List α} {s : State}
    (hf : ∀ s x, Keep n q s → Keep n q (f s x)) (h : Keep n q s) : Keep n q (l.foldl f s) := by
  induction l generalizing s with
  | nil => exact h
  | cons x l ih => exact ih (hf s x h)

theorem keep_foldr {α : Type} {f : α → State → State} {l : List α} {s : State}
    (hf : ∀ x s, Keep n q s → Keep n q (f x s)) (h : Keep n q s) : Keep n q (l.foldr f s) := by
  induction l with
  | nil => exact h
  | cons x l ih => exact hf x _ ih

theorem keep_foldl_fst {α β : Type} {f : State × β → α → State × β} {l : List α} {a : State × β}
    (hf : ∀ a x, Keep n q a.1 → Keep n q (f a x).1) (h : Keep n q a.1) : Keep n q (l.foldl f a).1 := by
  induction l generalizing a with
  | nil => exact h
  | cons x l ih => exact ih (hf a x h)

theorem keep_setReg {s : State} {a : Nat} {v : Word} (h : Keep n q s) : Keep n q (s.setReg a v) :=
  ⟨regsWf_store a v h.1, h.2⟩

theorem keep_setShadow {s : State} {a : Nat} {v : Word} (h : Keep n q s) : Keep n q (s.setShadow a v) :=
  ⟨h.1, regsWf_store a v h.2.1, h.2.2⟩

theorem keep_publish {s : State} {p : Nat} {w : Word} (h : Keep n q s) : Keep n q (s.publish p w) := by
  unfold State.publish
  split
  · exact h
  · exact keep_of_eq rfl rfl rfl rfl (keep_setReg h)

theorem keep_put {s : State} {a : Nat} {v : Word} (h : Keep n q s) : Keep n q (s.put a v) := by
  unfold State.put
  split
  · exact h
  · split
    · exact keep_publish (keep_setReg h)
    · exact keep_setReg h

theorem keep_applyIf {s : State} {b : Bool} {f : State → State} (hf : ∀ t, Keep n q t → Keep n q (f t)) (h : Keep n q s) :
    Keep n q (s.applyIf b f) := by
  unfold State.applyIf
  split
  · exact hf s h
  · exact h

theorem keep_advanceTo {s : State} {t : Nat} (h : Keep n q s) : Keep n q (s.advanceTo t) :=
  ⟨h.1, h.2.1, h.2.2.1, Nat.le_trans h.2.2.2.1 (Nat.le_max_left _ _), h.2.2.2.2⟩

end Sys2Proof.Machine
end

