-- ==== Sys2Proof/Laws/Keep1.lean ====
section
/-! SUPPORT. What the operations of Ops.lean, Leases.lean, Operands.lean, Motion.lean, Coils.lean, Safety.lean, TapTable.lean, CellMeasurement.lean, Slots.lean, Balancing.lean, Thyme.lean keep (see `Keep`). -/
set_option linter.unreachableTactic false
set_option linter.unusedTactic false
set_option linter.unusedSimpArgs false
set_option linter.unusedVariables false
namespace Sys2Proof.Machine
open Host

/-! ### Ops.lean -/

theorem keep_set {n₀ : Nat} {q₀ : List Instr} (s : State) (f : Fld) (v : ℕ) (hk : Keep n₀ q₀ s) :
    Keep n₀ q₀ (State.set s f v) := by
  unfold State.set
  try dsimp only
  repeat' first
    | (with_reducible first | assumption | apply keep_put)
    | split

theorem keep_setInt {n₀ : Nat} {q₀ : List Instr} (s : State) (f : Fld) (v : ℤ) (hk : Keep n₀ q₀ s) :
    Keep n₀ q₀ (State.setInt s f v) := by
  unfold State.setInt
  try dsimp only
  repeat' first
    | (with_reducible first | assumption | apply keep_set)
    | split

theorem keep_setOn {n₀ : Nat} {q₀ : List Instr} (s : State) (f : Fld) (b : Bool) (hk : Keep n₀ q₀ s) :
    Keep n₀ q₀ (State.setOn s f b) := by
  unfold State.setOn
  try dsimp only
  repeat' first
    | (with_reducible first | assumption | apply keep_set)
    | split

theorem keep_count {n₀ : Nat} {q₀ : List Instr} (s : State) (f : Fld) (hk : Keep n₀ q₀ s) :
    Keep n₀ q₀ (State.count s f) := by
  unfold State.count
  try dsimp only
  repeat' first
    | (with_reducible first | assumption | apply keep_set)
    | split

theorem keep_flag {n₀ : Nat} {q₀ : List Instr} (s : State) (f : Fld) (hk : Keep n₀ q₀ s) :
    Keep n₀ q₀ (State.flag s f) := by
  unfold State.flag
  try dsimp only
  repeat' first
    | (with_reducible first | assumption | apply keep_set)
    | split

theorem keep_send {n₀ : Nat} {q₀ : List Instr} (s : State) (e : Event) (hk : Keep n₀ q₀ s) :
    Keep n₀ q₀ (State.send s e) := by
  unfold State.send
  try dsimp only
  repeat' first
    | (simp only [keep_mk, List.length_set]; with_reducible apply keep_fold)
    | (with_reducible first | assumption)
    | split

theorem keep_raise {n₀ : Nat} {q₀ : List Instr} (s : State) (page : ℕ) (low : EventLow) (cls : ℕ) (source : ℕ) (effects : optParam (List ℕ) []) (hk : Keep n₀ q₀ s) :
    Keep n₀ q₀ (State.raise s page low cls source effects) := by
  unfold State.raise
  try dsimp only
  repeat' first
    | (with_reducible first | assumption | apply keep_send)
    | split

theorem keep_flagEvent {n₀ : Nat} {q₀ : List Instr} (s : State) (f : Fld) (cls : ℕ) (effects : optParam (List ℕ) []) (hk : Keep n₀ q₀ s) :
    Keep n₀ q₀ (State.flagEvent s f cls effects) := by
  unfold State.flagEvent
  try dsimp only
  repeat' first
    | (with_reducible first | assumption | apply keep_raise | apply keep_flag)
    | split

theorem keep_listed {n₀ : Nat} {q₀ : List Instr} (s : State) (page : ℕ) (tag : ℕ) (cls : ℕ) (effects : optParam (List ℕ) []) (hk : Keep n₀ q₀ s) :
    Keep n₀ q₀ (State.listed s page tag cls effects) := by
  unfold State.listed
  try dsimp only
  repeat' first
    | (with_reducible first | assumption | apply keep_raise)
    | split

/-! ### Leases.lean -/

theorem keep_onLink {n₀ : Nat} {q₀ : List Instr} (s : State) (l : Link) (f : LinkSt → LinkSt) (hk : Keep n₀ q₀ s) :
    Keep n₀ q₀ (State.onLink s l f) := by
  unfold State.onLink
  try dsimp only
  repeat' first
    | (simp only [keep_mk, List.length_set]; with_reducible apply keep_fold)
    | (with_reducible first | assumption)
    | split

theorem keep_settleAttn {n₀ : Nat} {q₀ : List Instr} (s : State) (port : ℕ) (could : Bool) (hk : Keep n₀ q₀ s) :
    Keep n₀ q₀ (State.settleAttn s port could) := by
  unfold State.settleAttn
  try dsimp only
  repeat' first
    | (with_reducible first | assumption | apply keep_onLink | apply keep_ite)
    | split

theorem keep_onLease {n₀ : Nat} {q₀ : List Instr} (s : State) (k : Nat) (f : LeaseSt → LeaseSt) (hk : Keep n₀ q₀ s) : Keep n₀ q₀ (State.onLease s k f) :=
  keep_of_eq (s := s) rfl rfl rfl rfl hk fun h => ⟨h.1, h.2.1, h.2.2.1, by simpa [State.onLease] using h.2.2.2⟩

theorem keep_grantLease {n₀ : Nat} {q₀ : List Instr} (s : State) (slot : ℕ) (party : ℕ) (hk : Keep n₀ q₀ s) :
    Keep n₀ q₀ (State.grantLease s slot party) := by
  unfold State.grantLease
  try dsimp only
  repeat' first
    | (with_reducible first | assumption | apply keep_onLease | apply keep_set)
    | split

theorem keep_acquireLease {n₀ : Nat} {q₀ : List Instr} (s : State) (slot : ℕ) (party : ℕ) (hk : Keep n₀ q₀ s) :
    Keep n₀ q₀ (State.acquireLease s slot party) := by
  unfold State.acquireLease
  try dsimp only
  repeat' first
    | (with_reducible first | assumption | apply keep_grantLease | apply keep_onLease | apply keep_ite)
    | split

theorem keep_releaseLease {n₀ : Nat} {q₀ : List Instr} (s : State) (slot : ℕ) (hk : Keep n₀ q₀ s) :
    Keep n₀ q₀ (State.releaseLease s slot) := by
  unfold State.releaseLease
  try dsimp only
  repeat' first
    | (with_reducible first | assumption | apply keep_set | apply keep_grantLease | apply keep_onLease)
    | split

theorem keep_withSlot {n₀ : Nat} {q₀ : List Instr} (s : State) (slot party : Nat) (f : State → State)
    (hf : ∀ t, Keep n₀ q₀ t → Keep n₀ q₀ (f t)) (hk : Keep n₀ q₀ s) : Keep n₀ q₀ (State.withSlot s slot party f) := by
  unfold State.withSlot
  exact keep_ite (keep_releaseLease _ _ (hf s hk)) (keep_ite (hf s hk) (keep_acquireLease _ _ _ hk))

theorem keep_clearSlot {n₀ : Nat} {q₀ : List Instr} (s : State) (slot : ℕ) (hk : Keep n₀ q₀ s) :
    Keep n₀ q₀ (State.clearSlot s slot) := by
  unfold State.clearSlot
  try dsimp only
  repeat' first
    | (with_reducible first | assumption | apply keep_releaseLease | apply keep_onLease)
    | split

theorem keep_clearReply {n₀ : Nat} {q₀ : List Instr} (s : State) (l : Link) (hk : Keep n₀ q₀ s) :
    Keep n₀ q₀ (State.clearReply s l) := by
  unfold State.clearReply
  try dsimp only
  repeat' first
    | (simp only [keep_mk, List.length_set]; with_reducible apply keep_fold)
    | (with_reducible first | assumption | apply keep_onLink | apply keep_ite)
    | split

theorem keep_putInOrder {n₀ : Nat} {q₀ : List Instr} (s : State) (slot : ℕ) (hk : Keep n₀ q₀ s) :
    Keep n₀ q₀ (State.putInOrder s slot) := by
  unfold State.putInOrder
  try dsimp only
  repeat' first
    | (simp only [keep_mk, List.length_set]; with_reducible apply keep_fold)
    | (with_reducible first | assumption | apply keep_clearReply | apply keep_ite)
    | split

theorem keep_revokeLease {n₀ : Nat} {q₀ : List Instr} (s : State) (slot : ℕ) (hk : Keep n₀ q₀ s) :
    Keep n₀ q₀ (State.revokeLease s slot) := by
  unfold State.revokeLease
  try dsimp only
  repeat' first
    | (simp only [keep_mk, List.length_set]; with_reducible apply keep_fold)
    | (with_reducible first | assumption | apply keep_count | apply keep_flag | apply keep_set | apply keep_onLease)
    | (with_reducible first | apply keep_releaseLease | apply keep_putInOrder | apply keep_grantLease | apply keep_ite)
    | split

theorem keep_revokeAll {n₀ : Nat} {q₀ : List Instr} (s : State) (party : ℕ) (hk : Keep n₀ q₀ s) :
    Keep n₀ q₀ (State.revokeAll s party) := by
  unfold State.revokeAll
  try dsimp only
  repeat' first
    | intro _
    | (with_reducible first | assumption | apply keep_revokeLease | apply keep_ite | apply keep_foldl)
    | split

theorem keep_dropParty {n₀ : Nat} {q₀ : List Instr} (s : State) (party : ℕ) (hk : Keep n₀ q₀ s) :
    Keep n₀ q₀ (State.dropParty s party) := by
  unfold State.dropParty
  apply keep_revokeAll
  exact keep_of_eq (s := s) rfl rfl rfl rfl hk fun h => ⟨h.1, h.2.1, h.2.2.1, by simpa using h.2.2.2⟩

theorem keep_freezeLeases {n₀ : Nat} {q₀ : List Instr} (s : State) (party : ℕ) (hk : Keep n₀ q₀ s) :
    Keep n₀ q₀ (State.freezeLeases s party) := by
  unfold State.freezeLeases
  try dsimp only
  repeat' first
    | intro _
    | (with_reducible first | assumption | apply keep_set | apply keep_ite | apply keep_foldl)
    | split

theorem keep_execLeaseAcquire {n₀ : Nat} {q₀ : List Instr} (slot : ℕ) (party : ℕ) (s : State) (hk : Keep n₀ q₀ s) :
    Goes n₀ q₀ (execLeaseAcquire slot party s) := by
  unfold execLeaseAcquire
  try dsimp only
  repeat' first
    | (with_reducible first | assumption | apply keep_acquireLease | apply goes_next)
    | split

theorem keep_journalBy {n₀ : Nat} {q₀ : List Instr} (s : State) (party : ℕ) (old : List Kept) (hk : Keep n₀ q₀ s) :
    Keep n₀ q₀ (State.journalBy s party old) := by
  unfold State.journalBy
  try dsimp only
  repeat' first
    | (simp only [keep_mk, List.length_set]; with_reducible apply keep_fold)
    | (with_reducible first | assumption | apply keep_acquireLease)
    | split

theorem keep_journalWrite {n₀ : Nat} {q₀ : List Instr} (s : State) (old : List Kept) (hk : Keep n₀ q₀ s) :
    Keep n₀ q₀ (State.journalWrite s old) := by
  unfold State.journalWrite
  try dsimp only
  repeat' first
    | (with_reducible first | assumption | apply keep_journalBy)
    | split

theorem keep_restoreKept {n₀ : Nat} {q₀ : List Instr} (s : State) (x1 : Kept) (hk : Keep n₀ q₀ s) :
    Keep n₀ q₀ (State.restoreKept s x1) := by
  unfold State.restoreKept
  try dsimp only
  repeat' first
    | (simp only [keep_mk, List.length_set]; with_reducible apply keep_fold)
    | (with_reducible first | assumption | apply keep_setReg | apply keep_ite)
    | split

theorem keep_undoEntries {n₀ : Nat} {q₀ : List Instr} (s : State) (l : List JournalEntry) (hk : Keep n₀ q₀ s) :
    Keep n₀ q₀ (State.undoEntries s l) := by
  unfold State.undoEntries
  try dsimp only
  repeat' first
    | intro _
    | (with_reducible first | assumption | apply keep_restoreKept | apply keep_foldr)
    | split

theorem keep_saveValue {n₀ : Nat} {q₀ : List Instr} (s : State) (a : ℕ) (v : ℤ) (hk : Keep n₀ q₀ s) :
    Keep n₀ q₀ (State.saveValue s a v) := by
  unfold State.saveValue
  try dsimp only
  repeat' first
    | (simp only [keep_mk, List.length_set]; with_reducible apply keep_fold)
    | (with_reducible first | assumption)
    | split

theorem keep_saving {n₀ : Nat} {q₀ : List Instr} (s : State) (words : List Nat) (f : State → State)
    (hf : ∀ t, Keep n₀ q₀ t → Keep n₀ q₀ (f t)) (hk : Keep n₀ q₀ s) : Keep n₀ q₀ (State.saving s words f) := by
  unfold State.saving
  exact keep_journalWrite _ _ (hf s hk)

theorem keep_countLife {n₀ : Nat} {q₀ : List Instr} (s : State) (f : Fld) (hk : Keep n₀ q₀ s) :
    Keep n₀ q₀ (State.countLife s f) := by
  unfold State.countLife
  try dsimp only
  repeat' first
    | intro _
    | (with_reducible first | assumption | apply keep_saving | apply keep_count)
    | split

theorem keep_storeImage {n₀ : Nat} {q₀ : List Instr} (s : State) (hk : Keep n₀ q₀ s) :
    Keep n₀ q₀ (State.storeImage s) := by
  unfold State.storeImage
  try dsimp only
  repeat' first
    | (simp only [keep_mk, List.length_set]; with_reducible apply keep_fold)
    | (with_reducible first | assumption)
    | split

theorem keep_showHeld {n₀ : Nat} {q₀ : List Instr} (s : State) (hk : Keep n₀ q₀ s) :
    Keep n₀ q₀ (State.showHeld s) := by
  unfold State.showHeld
  try dsimp only
  repeat' first
    | (with_reducible first | assumption | apply keep_setOn | apply keep_set)
    | split

theorem keep_storeMirror {n₀ : Nat} {q₀ : List Instr} (s : State) (hk : Keep n₀ q₀ s) :
    Keep n₀ q₀ (State.storeMirror s) := by
  unfold State.storeMirror
  try dsimp only
  repeat' first
    | (simp only [keep_mk, List.length_set]; with_reducible apply keep_fold)
    | (with_reducible first | assumption | apply keep_showHeld)
    | split

theorem keep_saveAcked {n₀ : Nat} {q₀ : List Instr} (s : State) (hk : Keep n₀ q₀ s) :
    Keep n₀ q₀ (State.saveAcked s) := by
  unfold State.saveAcked
  try dsimp only
  repeat' first
    | (simp only [keep_mk, List.length_set]; with_reducible apply keep_fold)
    | (with_reducible first | assumption)
    | split

theorem keep_finishPort {n₀ : Nat} {q₀ : List Instr} (s : State) (party : ℕ) (hk : Keep n₀ q₀ s) :
    Keep n₀ q₀ (State.finishPort s party) := by
  unfold State.finishPort
  try dsimp only
  repeat' first
    | intro _
    | (simp only [keep_mk, List.length_set]; with_reducible apply keep_fold)
    | (with_reducible first | assumption | apply keep_applyIf | apply keep_saveAcked | apply keep_storeImage | apply keep_storeMirror)
    | split

theorem keep_offerImage {n₀ : Nat} {q₀ : List Instr} (s : State) (hk : Keep n₀ q₀ s) :
    Keep n₀ q₀ (State.offerImage s) := by
  unfold State.offerImage
  try dsimp only
  repeat' first
    | (with_reducible first | assumption | apply keep_storeImage | apply keep_acquireLease | apply keep_ite)
    | split

theorem keep_releasePort {n₀ : Nat} {q₀ : List Instr} (s : State) (party : ℕ) (hk : Keep n₀ q₀ s) :
    Keep n₀ q₀ (State.releasePort s party) := by
  unfold State.releasePort
  try dsimp only
  repeat' first
    | (with_reducible first | assumption | apply keep_offerImage | apply keep_releaseLease | apply keep_finishPort)
    | split

/-! ### Operands.lean -/

theorem keep_onDie {n₀ : Nat} {q₀ : List Instr} (s : State) (k : Nat) (f : DieSt → DieSt) (hk : Keep n₀ q₀ s) : Keep n₀ q₀ (State.onDie s k f) :=
  keep_of_eq (s := s) rfl rfl rfl rfl hk fun h => ⟨by simpa [State.onDie] using h.1, h.2⟩

theorem keep_onBal {n₀ : Nat} {q₀ : List Instr} (s : State) (k : ℕ) (f : BalanceSt → BalanceSt) (hk : Keep n₀ q₀ s) :
    Keep n₀ q₀ (State.onBal s k f) := by
  unfold State.onBal
  try dsimp only
  repeat' first
    | (with_reducible first | assumption | apply keep_onDie)
    | split

theorem keep_set64 {n₀ : Nat} {q₀ : List Instr} (s : State) (lo : Fld) (hi : Fld) (f : ℕ → Bool) (hk : Keep n₀ q₀ s) :
    Keep n₀ q₀ (State.set64 s lo hi f) := by
  unfold State.set64
  try dsimp only
  repeat' first
    | (with_reducible first | assumption | apply keep_set)
    | split

/-! ### Motion.lean -/

theorem keep_onAxis {n₀ : Nat} {q₀ : List Instr} (s : State) (a : Nat) (f : AxisSt → AxisSt) (hk : Keep n₀ q₀ s) : Keep n₀ q₀ (State.onAxis s a f) :=
  keep_of_eq (s := s) rfl rfl rfl rfl hk fun h => ⟨h.1, by simpa [State.onAxis] using h.2.1, h.2.2⟩

theorem keep_onCycle {n₀ : Nat} {q₀ : List Instr} (s : State) (a : ℕ) (f : Cycle → Cycle) (hk : Keep n₀ q₀ s) :
    Keep n₀ q₀ (State.onCycle s a f) := by
  unfold State.onCycle
  try dsimp only
  repeat' first
    | (with_reducible first | assumption | apply keep_onAxis)
    | split

theorem keep_setAxState {n₀ : Nat} {q₀ : List Instr} (s : State) (a : ℕ) (v : ℕ) (hk : Keep n₀ q₀ s) :
    Keep n₀ q₀ (State.setAxState s a v) := by
  unfold State.setAxState
  try dsimp only
  repeat' first
    | (with_reducible first | assumption | apply keep_set)
    | split

theorem keep_setHomed {n₀ : Nat} {q₀ : List Instr} (s : State) (a : ℕ) (v : Bool) (hk : Keep n₀ q₀ s) :
    Keep n₀ q₀ (State.setHomed s a v) := by
  unfold State.setHomed
  try dsimp only
  repeat' first
    | (with_reducible first | assumption | apply keep_set | apply keep_setOn)
    | split

theorem keep_setMoving {n₀ : Nat} {q₀ : List Instr} (s : State) (a : ℕ) (v : Bool) (hk : Keep n₀ q₀ s) :
    Keep n₀ q₀ (State.setMoving s a v) := by
  unfold State.setMoving
  try dsimp only
  repeat' first
    | (with_reducible first | assumption | apply keep_set)
    | split

theorem keep_latch {n₀ : Nat} {q₀ : List Instr} (s : State) (a : ℕ) (p : Setpoint) (hk : Keep n₀ q₀ s) :
    Keep n₀ q₀ (State.latch s a p) := by
  unfold State.latch
  try dsimp only
  repeat' first
    | (with_reducible first | assumption | apply keep_onAxis | apply keep_setInt)
    | split

theorem keep_planOn {n₀ : Nat} {q₀ : List Instr} (s : State) (a : ℕ) (f : Cycle → Setpoint → Cycle) (hk : Keep n₀ q₀ s) :
    Keep n₀ q₀ (State.planOn s a f) := by
  unfold State.planOn
  try dsimp only
  repeat' first
    | (with_reducible first | assumption | apply keep_onAxis)
    | split

theorem keep_renumber {n₀ : Nat} {q₀ : List Instr} (s : State) (a : ℕ) (shift : ℤ) (hk : Keep n₀ q₀ s) :
    Keep n₀ q₀ (State.renumber s a shift) := by
  unfold State.renumber
  try dsimp only
  repeat' first
    | (with_reducible first | assumption | apply keep_onAxis | apply keep_setInt)
    | split

theorem keep_runStart {n₀ : Nat} {q₀ : List Instr} (s : State) (a : ℕ) (kind : ℕ) (target : ℤ) (hk : Keep n₀ q₀ s) :
    Keep n₀ q₀ (State.runStart s a kind target) := by
  unfold State.runStart
  try dsimp only
  repeat' first
    | (with_reducible first | assumption | apply keep_onAxis | apply keep_setAxState | apply keep_setInt | apply keep_ite)
    | split

theorem keep_acceptStart {n₀ : Nat} {q₀ : List Instr} (s : State) (a : ℕ) (kind : ℕ) (target : ℤ) (hk : Keep n₀ q₀ s) :
    Keep n₀ q₀ (State.acceptStart s a kind target) := by
  unfold State.acceptStart
  try dsimp only
  repeat' first
    | (with_reducible first | assumption | apply keep_onAxis | apply keep_setAxState | apply keep_runStart | apply keep_ite)
    | split

theorem keep_runStaged {n₀ : Nat} {q₀ : List Instr} (s : State) (hk : Keep n₀ q₀ s) :
    Keep n₀ q₀ (State.runStaged s) := by
  unfold State.runStaged
  try dsimp only
  repeat' first
    | intro _
    | (with_reducible first | assumption | apply keep_runStart | apply keep_foldl)
    | split

theorem keep_replan {n₀ : Nat} {q₀ : List Instr} (s : State) (a : ℕ) (target : ℤ) (hk : Keep n₀ q₀ s) :
    Keep n₀ q₀ (State.replan s a target) := by
  unfold State.replan
  try dsimp only
  repeat' first
    | (with_reducible first | assumption | apply keep_planOn)
    | split

theorem keep_move {n₀ : Nat} {q₀ : List Instr} (s : State) (a : ℕ) (hk : Keep n₀ q₀ s) :
    Keep n₀ q₀ (State.move s a).1 := by
  unfold State.move
  try dsimp only
  repeat' first
    | (with_reducible first | assumption | apply keep_replan | apply keep_acceptStart)
    | split

theorem keep_takeHome {n₀ : Nat} {q₀ : List Instr} (s : State) (a : ℕ) (hk : Keep n₀ q₀ s) :
    Keep n₀ q₀ (State.takeHome s a) := by
  unfold State.takeHome
  try dsimp only
  repeat' first
    | (with_reducible first | assumption | apply keep_flag | apply keep_setHomed | apply keep_renumber)
    | split

theorem keep_home {n₀ : Nat} {q₀ : List Instr} (s : State) (a : ℕ) (hk : Keep n₀ q₀ s) :
    Keep n₀ q₀ (State.home s a).1 := by
  unfold State.home
  try dsimp only
  repeat' first
    | (with_reducible first | assumption | apply keep_takeHome | apply keep_acceptStart)
    | split

theorem keep_groupStart {n₀ : Nat} {q₀ : List Instr} (s : State) (g : ℕ) (hk : Keep n₀ q₀ s) :
    Keep n₀ q₀ (State.groupStart s g).1 := by
  unfold State.groupStart
  try dsimp only
  repeat' first
    | intro _
    | (with_reducible first | assumption | apply keep_acceptStart | apply keep_foldl)
    | split

theorem keep_startCycle {n₀ : Nat} {q₀ : List Instr} (s : State) (a : ℕ) (c : Cycle) (hk : Keep n₀ q₀ s) :
    Keep n₀ q₀ (State.startCycle s a c) := by
  unfold State.startCycle
  try dsimp only
  repeat' first
    | (with_reducible first | assumption | apply keep_setAxState | apply keep_setMoving | apply keep_onAxis)
    | split

theorem keep_startGroup {n₀ : Nat} {q₀ : List Instr} (s : State) (g : ℕ) (hk : Keep n₀ q₀ s) :
    Keep n₀ q₀ (State.startGroup s g) := by
  unfold State.startGroup
  try dsimp only
  repeat' first
    | intro _
    | (with_reducible first | assumption | apply keep_startCycle | apply keep_foldl)
    | split

theorem keep_execCycleStart {n₀ : Nat} {q₀ : List Instr} (a : ℕ) (s : State) (hk : Keep n₀ q₀ s) :
    Goes n₀ q₀ (execCycleStart a s) := by
  unfold execCycleStart
  try dsimp only
  repeat' first
    | (with_reducible first | assumption | apply keep_advanceTo | apply keep_setAxState | apply keep_startCycle | apply keep_startGroup)
    | (with_reducible first | apply goes_next | apply goes_ite)
    | split

theorem keep_causeFlag {n₀ : Nat} {q₀ : List Instr} (s : State) (a : ℕ) (rank : ℕ) (hk : Keep n₀ q₀ s) :
    Keep n₀ q₀ (State.causeFlag s a rank) := by
  unfold State.causeFlag
  try dsimp only
  repeat' first
    | (with_reducible first | assumption | apply keep_flag | apply keep_ite)
    | split

theorem keep_stopWith {n₀ : Nat} {q₀ : List Instr} (s : State) (a : ℕ) (rank : ℕ) (own : Bool) (decel : ℚ) (jerk : ℚ) (hk : Keep n₀ q₀ s) :
    Keep n₀ q₀ (State.stopWith s a rank own decel jerk) := by
  unfold State.stopWith
  try dsimp only
  repeat' first
    | (with_reducible first | assumption | apply keep_onAxis | apply keep_setHomed | apply keep_setAxState | apply keep_latch)
    | (with_reducible first | apply keep_ite)
    | split

theorem keep_stopGroup {n₀ : Nat} {q₀ : List Instr} (s : State) (a : ℕ) (g : ℕ) (rank : ℕ) (hk : Keep n₀ q₀ s) :
    Keep n₀ q₀ (State.stopGroup s a g rank) := by
  unfold State.stopGroup
  try dsimp only
  repeat' first
    | intro _
    | (with_reducible first | assumption | apply keep_stopWith | apply keep_ite | apply keep_foldl)
    | split

theorem keep_dropStart {n₀ : Nat} {q₀ : List Instr} (s : State) (a : ℕ) (rank : ℕ) (hk : Keep n₀ q₀ s) :
    Keep n₀ q₀ (State.dropStart s a rank) := by
  unfold State.dropStart
  try dsimp only
  repeat' first
    | (with_reducible first | assumption | apply keep_onAxis | apply keep_setAxState | apply keep_ite)
    | split

theorem keep_dropPending {n₀ : Nat} {q₀ : List Instr} (s : State) (a : ℕ) (rank : ℕ) (hk : Keep n₀ q₀ s) :
    Keep n₀ q₀ (State.dropPending s a rank) := by
  unfold State.dropPending
  try dsimp only
  repeat' first
    | intro _
    | (with_reducible first | assumption | apply keep_dropStart | apply keep_ite | apply keep_foldl)
    | split

theorem keep_stopAxis {n₀ : Nat} {q₀ : List Instr} (s : State) (a : ℕ) (rank : ℕ) (hk : Keep n₀ q₀ s) :
    Keep n₀ q₀ (State.stopAxis s a rank) := by
  unfold State.stopAxis
  try dsimp only
  repeat' first
    | (with_reducible first | assumption | apply keep_causeFlag | apply keep_stopGroup | apply keep_stopWith | apply keep_dropPending)
    | (with_reducible first | apply keep_setAxState | apply keep_onAxis | apply keep_ite)
    | split

theorem keep_stopAtLimit {n₀ : Nat} {q₀ : List Instr} (s : State) (a : ℕ) (hk : Keep n₀ q₀ s) :
    Keep n₀ q₀ (State.stopAtLimit s a) := by
  unfold State.stopAtLimit
  try dsimp only
  repeat' first
    | intro _
    | (with_reducible first | assumption | apply keep_flag | apply keep_stopAxis | apply keep_applyIf | apply keep_onAxis)
    | split

theorem keep_stopAllAxes {n₀ : Nat} {q₀ : List Instr} (s : State) (rank : ℕ) (hk : Keep n₀ q₀ s) :
    Keep n₀ q₀ (State.stopAllAxes s rank) := by
  unfold State.stopAllAxes
  try dsimp only
  repeat' first
    | intro _
    | (with_reducible first | assumption | apply keep_stopAxis | apply keep_ite | apply keep_foldl)
    | split

theorem keep_stopMoving {n₀ : Nat} {q₀ : List Instr} (s : State) (rank : ℕ) (hk : Keep n₀ q₀ s) :
    Keep n₀ q₀ (State.stopMoving s rank) := by
  unfold State.stopMoving
  try dsimp only
  repeat' first
    | intro _
    | (with_reducible first | assumption | apply keep_stopAxis | apply keep_ite | apply keep_foldl)
    | split

theorem keep_hostStop {n₀ : Nat} {q₀ : List Instr} (s : State) (a : ℕ) (hk : Keep n₀ q₀ s) :
    Keep n₀ q₀ (State.hostStop s a).1 := by
  unfold State.hostStop
  try dsimp only
  repeat' first
    | (with_reducible first | assumption | apply keep_stopAxis)
    | split

theorem keep_axisClear {n₀ : Nat} {q₀ : List Instr} (s : State) (a : ℕ) (hk : Keep n₀ q₀ s) :
    Keep n₀ q₀ (State.axisClear s a).1 := by
  unfold State.axisClear
  try dsimp only
  repeat' first
    | (with_reducible first | assumption | apply keep_setAxState | apply keep_onAxis)
    | split

theorem keep_writeAxCmd {n₀ : Nat} {q₀ : List Instr} (s : State) (a : ℕ) (v : Word) (hk : Keep n₀ q₀ s) :
    Keep n₀ q₀ (State.writeAxCmd s a v).1 := by
  unfold State.writeAxCmd
  try dsimp only
  repeat' first
    | (with_reducible first | assumption | apply keep_move | apply keep_home | apply keep_hostStop | apply keep_axisClear)
    | split

theorem keep_writeMotCmd {n₀ : Nat} {q₀ : List Instr} (s : State) (v : Word) (hk : Keep n₀ q₀ s) :
    Keep n₀ q₀ (State.writeMotCmd s v).1 := by
  unfold State.writeMotCmd
  try dsimp only
  repeat' first
    | intro _
    | (with_reducible first | assumption | apply keep_groupStart | apply keep_hostStop | apply keep_foldl)
    | split

theorem keep_outcomeEvent {n₀ : Nat} {q₀ : List Instr} (s : State) (a : ℕ) (outcome : ℕ) (hk : Keep n₀ q₀ s) :
    Keep n₀ q₀ (State.outcomeEvent s a outcome) := by
  unfold State.outcomeEvent
  try dsimp only
  repeat' first
    | (with_reducible first | assumption | apply keep_flagEvent)
    | split

theorem keep_endCycle {n₀ : Nat} {q₀ : List Instr} (s : State) (a : ℕ) (outcome : ℕ) (c : Cycle) (hk : Keep n₀ q₀ s) :
    Keep n₀ q₀ (State.endCycle s a outcome c) := by
  unfold State.endCycle
  try dsimp only
  repeat' first
    | intro _
    | (simp only [keep_mk, List.length_set]; with_reducible apply keep_fold)
    | (with_reducible first | assumption | apply keep_onAxis | apply keep_setMoving | apply keep_setAxState | apply keep_set)
    | (with_reducible first | apply keep_flag | apply keep_applyIf | apply keep_setInt | apply keep_outcomeEvent)
    | split

theorem keep_execCycleEnd {n₀ : Nat} {q₀ : List Instr} (a : ℕ) (s : State) (hk : Keep n₀ q₀ s) :
    Goes n₀ q₀ (execCycleEnd a s) := by
  unfold execCycleEnd
  try dsimp only
  repeat' first
    | (with_reducible first | assumption | apply keep_endCycle | apply goes_next | apply goes_ite)
    | split

theorem keep_cutCycles {n₀ : Nat} {q₀ : List Instr} (s : State) (hk : Keep n₀ q₀ s) :
    Keep n₀ q₀ (State.cutCycles s) := by
  unfold State.cutCycles
  try dsimp only
  repeat' first
    | intro _
    | (with_reducible first | assumption | apply keep_onAxis | apply keep_endCycle | apply keep_foldl)
    | split

theorem keep_execStandstillDelay {n₀ : Nat} {q₀ : List Instr} (a : ℕ) (s : State) (hk : Keep n₀ q₀ s) :
    Goes n₀ q₀ (execStandstillDelay a s) := by
  unfold execStandstillDelay
  try dsimp only
  repeat' first
    | (with_reducible first | assumption | apply keep_onAxis | apply keep_advanceTo | apply goes_next | apply goes_ite)
    | split

theorem keep_homePhase {n₀ : Nat} {q₀ : List Instr} (s : State) (a : ℕ) (phase : ℕ) (plan : Setpoint → List Segment) (hk : Keep n₀ q₀ s) :
    Keep n₀ q₀ (State.homePhase s a phase plan) := by
  unfold State.homePhase
  try dsimp only
  repeat' first
    | (with_reducible first | assumption | apply keep_planOn)
    | split

theorem keep_execHomePoint {n₀ : Nat} {q₀ : List Instr} (a : ℕ) (s : State) (hk : Keep n₀ q₀ s) :
    Goes n₀ q₀ (execHomePoint a s) := by
  unfold execHomePoint
  try dsimp only
  repeat' first
    | intro _
    | (with_reducible first | assumption | apply keep_applyIf | apply keep_setOn | apply keep_onCycle | apply keep_homePhase)
    | (with_reducible first | apply keep_takeHome | apply goes_next | apply goes_ite)
    | split

theorem keep_execHomingTimeout {n₀ : Nat} {q₀ : List Instr} (a : ℕ) (s : State) (hk : Keep n₀ q₀ s) :
    Goes n₀ q₀ (execHomingTimeout a s) := by
  unfold execHomingTimeout
  try dsimp only
  repeat' first
    | (with_reducible first | assumption | apply keep_stopAxis | apply keep_advanceTo | apply goes_next | apply goes_ite)
    | split

theorem keep_execStall {n₀ : Nat} {q₀ : List Instr} (a : ℕ) (s : State) (hk : Keep n₀ q₀ s) :
    Goes n₀ q₀ (execStall a s) := by
  unfold execStall
  try dsimp only
  repeat' first
    | (with_reducible first | assumption | apply keep_latch | apply keep_onAxis | apply keep_takeHome | apply keep_stopAxis)
    | (with_reducible first | apply goes_next | apply goes_ite)
    | split

theorem keep_execObstacle {n₀ : Nat} {q₀ : List Instr} (a : ℕ) (s : State) (hk : Keep n₀ q₀ s) :
    Goes n₀ q₀ (execObstacle a s) := by
  unfold execObstacle
  try dsimp only
  repeat' first
    | (with_reducible first | assumption | apply keep_stopAxis | apply goes_next | apply goes_ite)
    | split

theorem keep_execLimitSwitch {n₀ : Nat} {q₀ : List Instr} (a : ℕ) (s : State) (hk : Keep n₀ q₀ s) :
    Goes n₀ q₀ (execLimitSwitch a s) := by
  unfold execLimitSwitch
  try dsimp only
  repeat' first
    | (with_reducible first | assumption | apply keep_setOn | apply keep_stopAtLimit | apply goes_next | apply goes_ite)
    | split

theorem keep_execSetpointQueueEmpty {n₀ : Nat} {q₀ : List Instr} (a : ℕ) (s : State) (hk : Keep n₀ q₀ s) :
    Goes n₀ q₀ (execSetpointQueueEmpty a s) := by
  unfold execSetpointQueueEmpty
  try dsimp only
  repeat' first
    | (with_reducible first | assumption | apply keep_stopAxis | apply keep_onAxis | apply goes_next | apply goes_ite)
    | split

theorem keep_showRoles {n₀ : Nat} {q₀ : List Instr} (s : State) (hk : Keep n₀ q₀ s) :
    Keep n₀ q₀ (State.showRoles s) := by
  unfold State.showRoles
  try dsimp only
  repeat' first
    | intro _
    | (with_reducible first | assumption | apply keep_setOn | apply keep_applyIf | apply keep_flag | apply keep_foldl)
    | split

theorem keep_latchNext {n₀ : Nat} {q₀ : List Instr} (s : State) (a : ℕ) (hk : Keep n₀ q₀ s) :
    Keep n₀ q₀ (State.latchNext s a) := by
  unfold State.latchNext
  try dsimp only
  repeat' first
    | (simp only [keep_mk, List.length_set]; with_reducible apply keep_fold)
    | (with_reducible first | assumption | apply keep_onAxis | apply keep_onCycle | apply keep_latch | apply keep_ite)
    | split

theorem keep_computeNext {n₀ : Nat} {q₀ : List Instr} (s : State) (a : ℕ) (hk : Keep n₀ q₀ s) :
    Keep n₀ q₀ (State.computeNext s a) := by
  unfold State.computeNext
  try dsimp only
  repeat' first
    | (with_reducible first | assumption | apply keep_onAxis | apply keep_ite)
    | split

theorem keep_latchSetpoint {n₀ : Nat} {q₀ : List Instr} (s : State) (a : ℕ) (hk : Keep n₀ q₀ s) :
    Keep n₀ q₀ (State.latchSetpoint s a) := by
  unfold State.latchSetpoint
  try dsimp only
  repeat' first
    | (with_reducible first | assumption | apply keep_computeNext | apply keep_latchNext)
    | split

theorem keep_driveVector {n₀ : Nat} {q₀ : List Instr} (s : State) (a : ℕ) (hk : Keep n₀ q₀ s) :
    Keep n₀ q₀ (State.driveVector s a) := by
  unfold State.driveVector
  try dsimp only
  repeat' first
    | (with_reducible first | assumption | apply keep_onAxis)
    | split

theorem keep_readAxis {n₀ : Nat} {q₀ : List Instr} (s : State) (a : ℕ) (x : AxisSample) (hk : Keep n₀ q₀ s) :
    Keep n₀ q₀ (State.readAxis s a x) := by
  unfold State.readAxis
  try dsimp only
  repeat' first
    | (with_reducible first | assumption | apply keep_set | apply keep_setInt | apply keep_setOn | apply keep_onAxis)
    | split

theorem keep_judgeLoad {n₀ : Nat} {q₀ : List Instr} (s : State) (a : ℕ) (x : AxisSample) (moved : ℤ) (hk : Keep n₀ q₀ s) :
    Keep n₀ q₀ (State.judgeLoad s a x moved) := by
  unfold State.judgeLoad
  try dsimp only
  repeat' first
    | (with_reducible first | assumption | apply keep_set | apply keep_onAxis)
    | split

theorem keep_homeStep {n₀ : Nat} {q₀ : List Instr} (s : State) (a : ℕ) (hk : Keep n₀ q₀ s) :
    Keep n₀ q₀ (State.homeStep s a) := by
  unfold State.homeStep
  try dsimp only
  repeat' first
    | (with_reducible first | assumption | apply keep_homePhase | apply keep_ite)
    | split

theorem keep_checkStops {n₀ : Nat} {q₀ : List Instr} (s : State) (a : ℕ) (hk : Keep n₀ q₀ s) :
    Keep n₀ q₀ (State.checkStops s a) := by
  unfold State.checkStops
  try dsimp only
  repeat' first
    | intro _
    | (with_reducible first | assumption | apply keep_applyIf | apply keep_stopAxis | apply keep_stopAtLimit)
    | split

theorem keep_tickAxis {n₀ : Nat} {q₀ : List Instr} (s : State) (a : ℕ) (x : AxisSample) (hk : Keep n₀ q₀ s) :
    Keep n₀ q₀ (State.tickAxis s a x) := by
  unfold State.tickAxis
  try dsimp only
  repeat' first
    | (with_reducible first | assumption | apply keep_readAxis | apply keep_driveVector | apply keep_stopAxis | apply keep_latchSetpoint)
    | (with_reducible first | apply keep_checkStops | apply keep_homeStep | apply keep_judgeLoad | apply keep_ite)
    | split

/-! ### Coils.lean -/

theorem keep_showCoil {n₀ : Nat} {q₀ : List Instr} (s : State) (m : ℕ) (v : Bool) (hk : Keep n₀ q₀ s) :
    Keep n₀ q₀ (State.showCoil s m v) := by
  unfold State.showCoil
  try dsimp only
  repeat' first
    | (with_reducible first | assumption | apply keep_setOn | apply keep_set)
    | split

theorem keep_coilEnergise {n₀ : Nat} {q₀ : List Instr} (s : State) (m : ℕ) (hk : Keep n₀ q₀ s) :
    Keep n₀ q₀ (State.coilEnergise s m) := by
  unfold State.coilEnergise
  try dsimp only
  repeat' first
    | (simp only [keep_mk, List.length_set]; with_reducible apply keep_fold)
    | (with_reducible first | assumption | apply keep_showCoil | apply keep_ite)
    | split

theorem keep_coilRelease {n₀ : Nat} {q₀ : List Instr} (s : State) (m : ℕ) (hk : Keep n₀ q₀ s) :
    Keep n₀ q₀ (State.coilRelease s m) := by
  unfold State.coilRelease
  try dsimp only
  repeat' first
    | (simp only [keep_mk, List.length_set]; with_reducible apply keep_fold)
    | (with_reducible first | assumption | apply keep_showCoil | apply keep_ite)
    | split

theorem keep_showLowSides {n₀ : Nat} {q₀ : List Instr} (s : State) (v : Bool) (hk : Keep n₀ q₀ s) :
    Keep n₀ q₀ (State.showLowSides s v) := by
  unfold State.showLowSides
  try dsimp only
  repeat' first
    | intro _
    | (with_reducible first | assumption | apply keep_setOn | apply keep_foldl)
    | split

theorem keep_contactorFault {n₀ : Nat} {q₀ : List Instr} (s : State) (m : ℕ) (off : Bool) (hk : Keep n₀ q₀ s) :
    Keep n₀ q₀ (State.contactorFault s m off) := by
  unfold State.contactorFault
  try dsimp only
  repeat' first
    | intro _
    | (simp only [keep_mk, List.length_set]; with_reducible apply keep_fold)
    | (with_reducible first | assumption | apply keep_applyIf | apply keep_coilRelease | apply keep_flagEvent | apply keep_set)
    | split

/-! ### Safety.lean -/

theorem keep_onSaf {n₀ : Nat} {q₀ : List Instr} (s : State) (f : SafetySt → SafetySt) (hk : Keep n₀ q₀ s) :
    Keep n₀ q₀ (State.onSaf s f) := by
  unfold State.onSaf
  try dsimp only
  repeat' first
    | (simp only [keep_mk, List.length_set]; with_reducible apply keep_fold)
    | (with_reducible first | assumption)
    | split

theorem keep_brakeDuty {n₀ : Nat} {q₀ : List Instr} (s : State) (b : ℕ) (hk : Keep n₀ q₀ s) :
    Keep n₀ q₀ (State.brakeDuty s b) := by
  unfold State.brakeDuty
  try dsimp only
  repeat' first
    | (with_reducible first | assumption | apply keep_onSaf)
    | split

theorem keep_driveBrake {n₀ : Nat} {q₀ : List Instr} (s : State) (b : ℕ) (hk : Keep n₀ q₀ s) :
    Keep n₀ q₀ (State.driveBrake s b) := by
  unfold State.driveBrake
  try dsimp only
  repeat' first
    | (with_reducible first | assumption | apply keep_onSaf | apply keep_set | apply keep_ite)
    | split

theorem keep_endWaits {n₀ : Nat} {q₀ : List Instr} (s : State) (b : ℕ) (hk : Keep n₀ q₀ s) :
    Keep n₀ q₀ (State.endWaits s b) := by
  unfold State.endWaits
  try dsimp only
  repeat' first
    | intro _
    | (with_reducible first | assumption | apply keep_dropPending | apply keep_ite | apply keep_foldl)
    | split

theorem keep_notTestable {n₀ : Nat} {q₀ : List Instr} (s : State) (b : ℕ) (hk : Keep n₀ q₀ s) :
    Keep n₀ q₀ (State.notTestable s b) := by
  unfold State.notTestable
  try dsimp only
  repeat' first
    | (with_reducible first | assumption | apply keep_listed | apply keep_onSaf | apply keep_set)
    | split

theorem keep_driveTested {n₀ : Nat} {q₀ : List Instr} (s : State) (b : ℕ) (hk : Keep n₀ q₀ s) :
    Keep n₀ q₀ (State.driveTested s b) := by
  unfold State.driveTested
  try dsimp only
  repeat' first
    | (with_reducible first | assumption | apply keep_driveVector)
    | split

theorem keep_abortTest {n₀ : Nat} {q₀ : List Instr} (s : State) (b : ℕ) (hk : Keep n₀ q₀ s) :
    Keep n₀ q₀ (State.abortTest s b) := by
  unfold State.abortTest
  try dsimp only
  repeat' first
    | (with_reducible first | assumption | apply keep_onSaf | apply keep_flag | apply keep_driveTested | apply keep_set)
    | (with_reducible first | apply keep_notTestable | apply keep_ite)
    | split

theorem keep_abortBrakeTests {n₀ : Nat} {q₀ : List Instr} (s : State) (p : ℕ → Bool) (hk : Keep n₀ q₀ s) :
    Keep n₀ q₀ (State.abortBrakeTests s p) := by
  unfold State.abortBrakeTests
  try dsimp only
  repeat' first
    | intro _
    | (with_reducible first | assumption | apply keep_abortTest | apply keep_foldl)
    | split

theorem keep_showSafestop {n₀ : Nat} {q₀ : List Instr} (s : State) (hk : Keep n₀ q₀ s) :
    Keep n₀ q₀ (State.showSafestop s) := by
  unfold State.showSafestop
  try dsimp only
  repeat' first
    | intro _
    | (with_reducible first | assumption | apply keep_applyIf | apply keep_setOn | apply keep_abortBrakeTests | apply keep_stopAllAxes)
    | (with_reducible first | apply keep_onSaf | apply keep_flag | apply keep_ite)
    | split

theorem keep_showChgil {n₀ : Nat} {q₀ : List Instr} (s : State) (hk : Keep n₀ q₀ s) :
    Keep n₀ q₀ (State.showChgil s) := by
  unfold State.showChgil
  try dsimp only
  repeat' first
    | intro _
    | (with_reducible first | assumption | apply keep_applyIf | apply keep_flag | apply keep_setOn | apply keep_coilRelease)
    | (with_reducible first | apply keep_ite)
    | split

theorem keep_showProp {n₀ : Nat} {q₀ : List Instr} (s : State) (hk : Keep n₀ q₀ s) :
    Keep n₀ q₀ (State.showProp s) := by
  unfold State.showProp
  try dsimp only
  repeat' first
    | (simp only [keep_mk, List.length_set]; with_reducible apply keep_fold)
    | (with_reducible first | assumption | apply keep_onSaf)
    | split

theorem keep_noteGuard {n₀ : Nat} {q₀ : List Instr} (s : State) (g : ℕ) (hk : Keep n₀ q₀ s) :
    Keep n₀ q₀ (State.noteGuard s g) := by
  unfold State.noteGuard
  try dsimp only
  repeat' first
    | (with_reducible first | assumption | apply keep_onSaf | apply keep_ite)
    | split

theorem keep_safetyEval {n₀ : Nat} {q₀ : List Instr} (s : State) (hk : Keep n₀ q₀ s) :
    Keep n₀ q₀ (State.safetyEval s) := by
  unfold State.safetyEval
  try dsimp only
  repeat' first
    | intro _
    | (with_reducible first | assumption | apply keep_noteGuard | apply keep_applyIf | apply keep_setOn | apply keep_showChgil)
    | (with_reducible first | apply keep_showProp | apply keep_showSafestop | apply keep_endWaits | apply keep_brakeDuty)
    | (with_reducible first | apply keep_driveBrake)
    | split

theorem keep_execGuardChange {n₀ : Nat} {q₀ : List Instr} (g : ℕ) (closed : Bool) (s : State) (hk : Keep n₀ q₀ s) :
    Goes n₀ q₀ (execGuardChange g closed s) := by
  unfold execGuardChange
  try dsimp only
  repeat' first
    | (with_reducible first | assumption | apply keep_set | apply keep_safetyEval | apply keep_onSaf | apply goes_next)
    | (with_reducible first | apply goes_ite)
    | split

theorem keep_execSafestopTimeout {n₀ : Nat} {q₀ : List Instr} (a : ℕ) (s : State) (hk : Keep n₀ q₀ s) :
    Goes n₀ q₀ (execSafestopTimeout a s) := by
  unfold execSafestopTimeout
  try dsimp only
  repeat' first
    | (with_reducible first | assumption | apply keep_advanceTo | apply keep_safetyEval | apply keep_listed | apply keep_onSaf)
    | (with_reducible first | apply goes_next | apply goes_ite)
    | split

theorem keep_safetyFault {n₀ : Nat} {q₀ : List Instr} (s : State) (code : ℕ) (hk : Keep n₀ q₀ s) :
    Keep n₀ q₀ (State.safetyFault s code) := by
  unfold State.safetyFault
  try dsimp only
  repeat' first
    | (with_reducible first | assumption | apply keep_set | apply keep_safetyEval | apply keep_flagEvent | apply keep_setOn)
    | (with_reducible first | apply keep_ite)
    | split

theorem keep_expireDegraded {n₀ : Nat} {q₀ : List Instr} (s : State) (hk : Keep n₀ q₀ s) :
    Keep n₀ q₀ (State.expireDegraded s) := by
  unfold State.expireDegraded
  try dsimp only
  repeat' first
    | (with_reducible first | assumption | apply keep_onSaf)
    | split

theorem keep_stuckSwitch {n₀ : Nat} {q₀ : List Instr} (s : State) (c : ℕ) (code : ℕ) (hk : Keep n₀ q₀ s) :
    Keep n₀ q₀ (State.stuckSwitch s c code) := by
  unfold State.stuckSwitch
  try dsimp only
  repeat' first
    | (with_reducible first | assumption | apply keep_safetyFault | apply keep_set | apply keep_onSaf | apply keep_flagEvent)
    | (with_reducible first | apply keep_setOn | apply keep_ite)
    | split

theorem keep_execSafetySelfTestSlice {n₀ : Nat} {q₀ : List Instr} (pass : Bool) (s : State) (hk : Keep n₀ q₀ s) :
    Goes n₀ q₀ (execSafetySelfTestSlice pass s) := by
  unfold execSafetySelfTestSlice
  try dsimp only
  repeat' first
    | (with_reducible first | assumption | apply keep_safetyFault | apply goes_next | apply goes_ite)
    | split

theorem keep_execSafetyDegradedExpiry {n₀ : Nat} {q₀ : List Instr} (s : State) (hk : Keep n₀ q₀ s) :
    Goes n₀ q₀ (execSafetyDegradedExpiry s) := by
  unfold execSafetyDegradedExpiry
  try dsimp only
  repeat' first
    | (with_reducible first | assumption | apply keep_safetyEval | apply keep_expireDegraded | apply keep_advanceTo)
    | (with_reducible first | apply goes_next)
    | split

theorem keep_brakeFrame {n₀ : Nat} {q₀ : List Instr} (s : State) (b : ℕ) (ma : ℕ) (hk : Keep n₀ q₀ s) :
    Keep n₀ q₀ (State.brakeFrame s b ma) := by
  unfold State.brakeFrame
  try dsimp only
  repeat' first
    | intro _
    | (with_reducible first | assumption | apply keep_set | apply keep_onSaf | apply keep_applyIf | apply keep_ite)
    | split

theorem keep_brakeFail {n₀ : Nat} {q₀ : List Instr} (s : State) (b : ℕ) (hk : Keep n₀ q₀ s) :
    Keep n₀ q₀ (State.brakeFail s b) := by
  unfold State.brakeFail
  try dsimp only
  repeat' first
    | (with_reducible first | assumption | apply keep_flagEvent | apply keep_set)
    | split

theorem keep_execBrakeCurrentFault {n₀ : Nat} {q₀ : List Instr} (b : ℕ) (s : State) (hk : Keep n₀ q₀ s) :
    Goes n₀ q₀ (execBrakeCurrentFault b s) := by
  unfold execBrakeCurrentFault
  try dsimp only
  repeat' first
    | (with_reducible first | assumption | apply keep_safetyEval | apply keep_brakeFail | apply keep_advanceTo | apply goes_next)
    | (with_reducible first | apply goes_ite)
    | split

theorem keep_execBrakeSwitchPulse {n₀ : Nat} {q₀ : List Instr} (b : ℕ) (side : ℕ) (opened : Bool) (s : State) (hk : Keep n₀ q₀ s) :
    Goes n₀ q₀ (execBrakeSwitchPulse b side opened s) := by
  unfold execBrakeSwitchPulse
  try dsimp only
  repeat' first
    | (with_reducible first | assumption | apply keep_stuckSwitch | apply goes_next | apply goes_ite)
    | split

theorem keep_execBrakeEngagedReadback {n₀ : Nat} {q₀ : List Instr} (b : ℕ) (s : State) (hk : Keep n₀ q₀ s) :
    Goes n₀ q₀ (execBrakeEngagedReadback b s) := by
  unfold execBrakeEngagedReadback
  try dsimp only
  repeat' first
    | (with_reducible first | assumption | apply keep_safetyFault | apply goes_next | apply goes_ite)
    | split

theorem keep_execBrakeTestStart {n₀ : Nat} {q₀ : List Instr} (b : ℕ) (s : State) (hk : Keep n₀ q₀ s) :
    Goes n₀ q₀ (execBrakeTestStart b s) := by
  unfold execBrakeTestStart
  try dsimp only
  repeat' first
    | (with_reducible first | assumption | apply keep_advanceTo | apply keep_driveTested | apply keep_onSaf | apply goes_next)
    | (with_reducible first | apply goes_ite)
    | split

theorem keep_logChange {n₀ : Nat} {q₀ : List Instr} (s : State) (link : ℕ) (kind : ℕ) (before : Word) (after : Word) (hk : Keep n₀ q₀ s) :
    Keep n₀ q₀ (State.logChange s link kind before after) := by
  unfold State.logChange
  try dsimp only
  repeat' first
    | (with_reducible first | assumption | apply keep_onSaf | apply keep_journalWrite | apply keep_set | apply keep_count)
    | split

theorem keep_testFailed {n₀ : Nat} {q₀ : List Instr} (s : State) (b : ℕ) (a : ℕ) (hk : Keep n₀ q₀ s) :
    Keep n₀ q₀ (State.testFailed s b a) := by
  unfold State.testFailed
  try dsimp only
  repeat' first
    | (with_reducible first | assumption | apply keep_onAxis | apply keep_brakeFail | apply keep_set | apply keep_setAxState)
    | split

theorem keep_testPassed {n₀ : Nat} {q₀ : List Instr} (s : State) (b : ℕ) (hk : Keep n₀ q₀ s) :
    Keep n₀ q₀ (State.testPassed s b) := by
  unfold State.testPassed
  try dsimp only
  repeat' first
    | intro _
    | (with_reducible first | assumption | apply keep_onSaf | apply keep_set | apply keep_applyIf | apply keep_logChange)
    | split

theorem keep_execBrakeTestDone {n₀ : Nat} {q₀ : List Instr} (b : ℕ) (move1 : ℕ) (move2 : ℕ) (s : State) (hk : Keep n₀ q₀ s) :
    Goes n₀ q₀ (execBrakeTestDone b move1 move2 s) := by
  unfold execBrakeTestDone
  try dsimp only
  repeat' first
    | (with_reducible first | assumption | apply keep_advanceTo | apply keep_abortTest | apply keep_flag | apply keep_onSaf)
    | (with_reducible first | apply keep_driveTested | apply keep_safetyEval | apply keep_notTestable | apply keep_set)
    | (with_reducible first | apply keep_testFailed | apply keep_testPassed | apply goes_next | apply keep_ite | apply goes_ite)
    | split

theorem keep_writeSafCmd {n₀ : Nat} {q₀ : List Instr} (s : State) (unlocked : Bool) (v : Word) (hk : Keep n₀ q₀ s) :
    Keep n₀ q₀ (State.writeSafCmd s unlocked v).1 := by
  unfold State.writeSafCmd
  try dsimp only
  repeat' first
    | (with_reducible first | assumption | apply keep_onSaf)
    | split

theorem keep_execPropEnPulse {n₀ : Nat} {q₀ : List Instr} (sw : ℕ) (opened : Bool) (s : State) (hk : Keep n₀ q₀ s) :
    Goes n₀ q₀ (execPropEnPulse sw opened s) := by
  unfold execPropEnPulse
  try dsimp only
  repeat' first
    | (with_reducible first | assumption | apply keep_stuckSwitch | apply goes_next | apply goes_ite)
    | split

theorem keep_execPropEnReadback {n₀ : Nat} {q₀ : List Instr} (high : Bool) (s : State) (hk : Keep n₀ q₀ s) :
    Goes n₀ q₀ (execPropEnReadback high s) := by
  unfold execPropEnReadback
  try dsimp only
  repeat' first
    | intro _
    | (with_reducible first | assumption | apply keep_advanceTo | apply keep_applyIf | apply keep_onSaf | apply keep_flag)
    | (with_reducible first | apply keep_setOn | apply keep_safetyFault | apply keep_safetyEval | apply goes_next)
    | (with_reducible first | apply goes_ite)
    | split

theorem keep_execPropEnLow {n₀ : Nat} {q₀ : List Instr} (s : State) (hk : Keep n₀ q₀ s) :
    Goes n₀ q₀ (execPropEnLow s) := by
  unfold execPropEnLow
  try dsimp only
  repeat' first
    | (with_reducible first | assumption | apply keep_safetyEval | apply keep_listed | apply keep_onSaf | apply goes_next)
    | (with_reducible first | apply goes_ite)
    | split

theorem keep_edgeTo {n₀ : Nat} {q₀ : List Instr} (s : State) (e : ℕ) (st : ℕ) (hk : Keep n₀ q₀ s) :
    Keep n₀ q₀ (State.edgeTo s e st) := by
  unfold State.edgeTo
  try dsimp only
  repeat' first
    | intro _
    | (with_reducible first | assumption | apply keep_set | apply keep_setOn | apply keep_applyIf | apply keep_stopAxis)
    | (with_reducible first | apply keep_ite)
    | split

theorem keep_execEdgeChange {n₀ : Nat} {q₀ : List Instr} (e : ℕ) (ohm : ℕ) (s : State) (hk : Keep n₀ q₀ s) :
    Goes n₀ q₀ (execEdgeChange e ohm s) := by
  unfold execEdgeChange
  try dsimp only
  repeat' first
    | (with_reducible first | assumption | apply keep_edgeTo | apply keep_onSaf | apply goes_next | apply goes_ite)
    | split

theorem keep_execEdgeGapTimeout {n₀ : Nat} {q₀ : List Instr} (e : ℕ) (s : State) (hk : Keep n₀ q₀ s) :
    Goes n₀ q₀ (execEdgeGapTimeout e s) := by
  unfold execEdgeGapTimeout
  try dsimp only
  repeat' first
    | (with_reducible first | assumption | apply keep_edgeTo | apply keep_onSaf | apply keep_advanceTo | apply goes_next)
    | split

theorem keep_setLink {n₀ : Nat} {q₀ : List Instr} (s : State) (v : ℕ) (hk : Keep n₀ q₀ s) :
    Keep n₀ q₀ (State.setLink s v) := by
  unfold State.setLink
  try dsimp only
  repeat' first
    | intro _
    | (with_reducible first | assumption | apply keep_set | apply keep_applyIf | apply keep_flag)
    | split

theorem keep_applySch {n₀ : Nat} {q₀ : List Instr} (s : State) (hk : Keep n₀ q₀ s) :
    Keep n₀ q₀ (State.applySch s) := by
  unfold State.applySch
  try dsimp only
  repeat' first
    | (with_reducible first | assumption | apply keep_setLink | apply keep_onSaf | apply keep_ite)
    | split

theorem keep_restartWdt {n₀ : Nat} {q₀ : List Instr} (s : State) (hk : Keep n₀ q₀ s) :
    Keep n₀ q₀ (State.restartWdt s) := by
  unfold State.restartWdt
  try dsimp only
  repeat' first
    | (with_reducible first | assumption | apply keep_onSaf)
    | split

theorem keep_takePdu {n₀ : Nat} {q₀ : List Instr} (s : State) (seq : ℕ) (data : ℕ) (hk : Keep n₀ q₀ s) :
    Keep n₀ q₀ (State.takePdu s seq data) := by
  unfold State.takePdu
  try dsimp only
  repeat' first
    | (with_reducible first | assumption | apply keep_set)
    | split

theorem keep_acceptPdu {n₀ : Nat} {q₀ : List Instr} (s : State) (seq : ℕ) (data : ℕ) (hk : Keep n₀ q₀ s) :
    Keep n₀ q₀ (State.acceptPdu s seq data) := by
  unfold State.acceptPdu
  try dsimp only
  repeat' first
    | (with_reducible first | assumption | apply keep_restartWdt | apply keep_set | apply keep_setLink | apply keep_onSaf)
    | (with_reducible first | apply keep_takePdu | apply keep_flag | apply keep_count | apply keep_ite)
    | split

theorem keep_execSafetyPduReceived {n₀ : Nat} {q₀ : List Instr} (fd : Bool) (bytes : List Byte) (s : State) (hk : Keep n₀ q₀ s) :
    Goes n₀ q₀ (execSafetyPduReceived fd bytes s) := by
  unfold execSafetyPduReceived
  try dsimp only
  repeat' first
    | (with_reducible first | assumption | apply keep_flag | apply keep_count | apply keep_flagEvent | apply keep_safetyEval)
    | (with_reducible first | apply keep_acceptPdu | apply goes_next | apply goes_ite)
    | split

theorem keep_execSafetyWatchdogExpiry {n₀ : Nat} {q₀ : List Instr} (s : State) (hk : Keep n₀ q₀ s) :
    Goes n₀ q₀ (execSafetyWatchdogExpiry s) := by
  unfold execSafetyWatchdogExpiry
  try dsimp only
  repeat' first
    | (with_reducible first | assumption | apply keep_onSaf | apply keep_advanceTo | apply keep_safetyEval | apply keep_flagEvent)
    | (with_reducible first | apply keep_count | apply keep_setLink | apply goes_next)
    | split

theorem keep_sendCan {n₀ : Nat} {q₀ : List Instr} (s : State) (port : ℕ) (id : ℕ) (fd : Bool) (bytes : List ℕ) (hk : Keep n₀ q₀ s) :
    Keep n₀ q₀ (State.sendCan s port id fd bytes) := by
  unfold State.sendCan
  try dsimp only
  repeat' first
    | (with_reducible first | assumption | apply keep_onLink | apply keep_ite)
    | split

theorem keep_execSafetyPduSend {n₀ : Nat} {q₀ : List Instr} (s : State) (hk : Keep n₀ q₀ s) :
    Goes n₀ q₀ (execSafetyPduSend s) := by
  unfold execSafetyPduSend
  try dsimp only
  repeat' first
    | (with_reducible first | assumption | apply keep_advanceTo | apply keep_onSaf | apply keep_set | apply keep_sendCan)
    | (with_reducible first | apply goes_next | apply goes_ite)
    | split

/-! ### TapTable.lean -/

theorem keep_putTap {n₀ : Nat} {q₀ : List Instr} (s : State) (e : ℕ) (state : ℕ) (k : ℕ) (t : ℕ) (spanErr : ℕ) (span : ℕ) (hk : Keep n₀ q₀ s) :
    Keep n₀ q₀ (State.putTap s e state k t spanErr span) := by
  unfold State.putTap
  try dsimp only
  repeat' first
    | (with_reducible first | assumption | apply keep_put)
    | split

theorem keep_showTaps {n₀ : Nat} {q₀ : List Instr} (s : State) (hk : Keep n₀ q₀ s) :
    Keep n₀ q₀ (State.showTaps s) := by
  unfold State.showTaps
  try dsimp only
  repeat' first
    | (with_reducible first | assumption | apply keep_setOn)
    | split

theorem keep_clearTap {n₀ : Nat} {q₀ : List Instr} (s : State) (k : ℕ) (t : ℕ) (hk : Keep n₀ q₀ s) :
    Keep n₀ q₀ (State.clearTap s k t) := by
  unfold State.clearTap
  try dsimp only
  repeat' first
    | (with_reducible first | assumption | apply keep_showTaps | apply keep_flag | apply keep_putTap)
    | split

theorem keep_enterTap {n₀ : Nat} {q₀ : List Instr} (s : State) (k : ℕ) (t : ℕ) (state : ℕ) (hk : Keep n₀ q₀ s) :
    Keep n₀ q₀ (State.enterTap s k t state).1 := by
  unfold State.enterTap
  try dsimp only
  repeat' first
    | (with_reducible first | assumption | apply keep_set | apply keep_showTaps | apply keep_putTap)
    | split

/-! ### CellMeasurement.lean -/

theorem keep_noteTaps {n₀ : Nat} {q₀ : List Instr} (s : State) (k : ℕ) (hk : Keep n₀ q₀ s) :
    Keep n₀ q₀ (State.noteTaps s k) := by
  unfold State.noteTaps
  try dsimp only
  repeat' first
    | (with_reducible first | assumption | apply keep_onDie)
    | split

theorem keep_markCorrected {n₀ : Nat} {q₀ : List Instr} (s : State) (k : ℕ) (hk : Keep n₀ q₀ s) :
    Keep n₀ q₀ (State.markCorrected s k) := by
  unfold State.markCorrected
  try dsimp only
  repeat' first
    | (with_reducible first | assumption | apply keep_onDie)
    | split

theorem keep_midSampleDie {n₀ : Nat} {q₀ : List Instr} (s : State) (k : ℕ) (x : DieSample) (hk : Keep n₀ q₀ s) :
    Keep n₀ q₀ (State.midSampleDie s k x) := by
  unfold State.midSampleDie
  try dsimp only
  repeat' first
    | (with_reducible first | assumption | apply keep_onDie)
    | split

theorem keep_execMidFrameSample {n₀ : Nat} {q₀ : List Instr} (xs : List DieSample) (s : State) (hk : Keep n₀ q₀ s) :
    Goes n₀ q₀ (execMidFrameSample xs s) := by
  unfold execMidFrameSample
  try dsimp only
  repeat' first
    | intro _
    | (with_reducible first | assumption | apply keep_advanceTo | apply keep_midSampleDie | apply goes_next | apply keep_ite)
    | (with_reducible first | apply goes_ite | apply keep_foldl)
    | split

theorem keep_checkSarGain {n₀ : Nat} {q₀ : List Instr} (s : State) (k : ℕ) (e2 : ℤ) (hk : Keep n₀ q₀ s) :
    Keep n₀ q₀ (State.checkSarGain s k e2) := by
  unfold State.checkSarGain
  try dsimp only
  repeat' first
    | intro _
    | (with_reducible first | assumption | apply keep_onDie | apply keep_applyIf | apply keep_setOn | apply keep_flagEvent)
    | (with_reducible first | apply keep_ite)
    | split

theorem keep_recordDrift {n₀ : Nat} {q₀ : List Instr} (s : State) (k : ℕ) (d2 : ℤ) (hk : Keep n₀ q₀ s) :
    Keep n₀ q₀ (State.recordDrift s k d2) := by
  unfold State.recordDrift
  try dsimp only
  repeat' first
    | (with_reducible first | assumption | apply keep_onDie)
    | split

theorem keep_checkStep {n₀ : Nat} {q₀ : List Instr} (s : State) (k : ℕ) (hk : Keep n₀ q₀ s) :
    Keep n₀ q₀ (State.checkStep s k) := by
  unfold State.checkStep
  try dsimp only
  repeat' first
    | intro _
    | (with_reducible first | assumption | apply keep_onDie | apply keep_applyIf | apply keep_setOn | apply keep_flagEvent)
    | (with_reducible first | apply keep_ite)
    | split

theorem keep_checkRef {n₀ : Nat} {q₀ : List Instr} (s : State) (k : ℕ) (hk : Keep n₀ q₀ s) :
    Keep n₀ q₀ (State.checkRef s k) := by
  unfold State.checkRef
  try dsimp only
  repeat' first
    | intro _
    | (with_reducible first | assumption | apply keep_applyIf | apply keep_setOn | apply keep_flagEvent | apply keep_ite)
    | split

theorem keep_moveGain {n₀ : Nat} {q₀ : List Instr} (s : State) (k : ℕ) (hk : Keep n₀ q₀ s) :
    Keep n₀ q₀ (State.moveGain s k) := by
  unfold State.moveGain
  try dsimp only
  repeat' first
    | (with_reducible first | assumption | apply keep_onDie)
    | split

theorem keep_checkReferences {n₀ : Nat} {q₀ : List Instr} (s : State) (k : ℕ) (quiet : Bool) (x : ScanHeld) (hk : Keep n₀ q₀ s) :
    Keep n₀ q₀ (State.checkReferences s k quiet x) := by
  unfold State.checkReferences
  try dsimp only
  repeat' first
    | intro _
    | (with_reducible first | assumption | apply keep_applyIf | apply keep_checkSarGain | apply keep_checkRef | apply keep_checkStep)
    | (with_reducible first | apply keep_recordDrift)
    | split

theorem keep_advanceCheck {n₀ : Nat} {q₀ : List Instr} (s : State) (k : ℕ) (failed : Bool) (hk : Keep n₀ q₀ s) :
    Keep n₀ q₀ (State.advanceCheck s k failed) := by
  unfold State.advanceCheck
  try dsimp only
  repeat' first
    | intro _
    | (with_reducible first | assumption | apply keep_onDie | apply keep_set | apply keep_applyIf | apply keep_setOn)
    | (with_reducible first | apply keep_flagEvent | apply keep_ite)
    | split

theorem keep_putXres {n₀ : Nat} {q₀ : List Instr} (s : State) (k : ℕ) (out : ℕ) (cell : ℕ) (diff : ℤ) (hk : Keep n₀ q₀ s) :
    Keep n₀ q₀ (State.putXres s k out cell diff) := by
  unfold State.putXres
  try dsimp only
  repeat' first
    | (with_reducible first | assumption | apply keep_put)
    | split

theorem keep_crossCheck {n₀ : Nat} {q₀ : List Instr} (s : State) (k : ℕ) (f : DieFrame) (x : ScanHeld) (hk : Keep n₀ q₀ s) :
    Keep n₀ q₀ (State.crossCheck s k f x) := by
  unfold State.crossCheck
  try dsimp only
  repeat' first
    | (with_reducible first | assumption | apply keep_putXres | apply keep_advanceCheck | apply keep_onDie | apply keep_count)
    | (with_reducible first | apply keep_flagEvent | apply keep_ite)
    | split

theorem keep_publishScan {n₀ : Nat} {q₀ : List Instr} (s : State) (k : ℕ) (seq : Word) (x : ScanHeld) (hk : Keep n₀ q₀ s) :
    Keep n₀ q₀ (State.publishScan s k seq x) := by
  unfold State.publishScan
  try dsimp only
  repeat' first
    | intro _
    | (with_reducible first | assumption | apply keep_put | apply keep_onDie | apply keep_setInt | apply keep_set)
    | (with_reducible first | apply keep_applyIf | apply keep_flag | apply keep_foldl)
    | split

theorem keep_useScan {n₀ : Nat} {q₀ : List Instr} (s : State) (k : ℕ) (f : DieFrame) (hk : Keep n₀ q₀ s) :
    Keep n₀ q₀ (State.useScan s k f) := by
  unfold State.useScan
  try dsimp only
  repeat' first
    | (with_reducible first | assumption | apply keep_publishScan | apply keep_crossCheck | apply keep_checkReferences)
    | split

theorem keep_putCells {n₀ : Nat} {q₀ : List Instr} (s : State) (k : ℕ) (f : DieFrame) (v : List ℤ) (hk : Keep n₀ q₀ s) :
    Keep n₀ q₀ (State.putCells s k f v) := by
  unfold State.putCells
  try dsimp only
  repeat' first
    | intro _
    | (with_reducible first | assumption | apply keep_put | apply keep_set64 | apply keep_applyIf | apply keep_flag)
    | (with_reducible first | apply keep_foldl)
    | split

theorem keep_publishDie {n₀ : Nat} {q₀ : List Instr} (s : State) (k : ℕ) (f : DieFrame) (hk : Keep n₀ q₀ s) :
    Keep n₀ q₀ (State.publishDie s k f) := by
  unfold State.publishDie
  try dsimp only
  repeat' first
    | (with_reducible first | assumption | apply keep_useScan | apply keep_putCells | apply keep_onDie | apply keep_setInt)
    | (with_reducible first | apply keep_publish | apply keep_ite)
    | split

theorem keep_scanDie {n₀ : Nat} {q₀ : List Instr} (s : State) (k : ℕ) (x : ScanSample) (hk : Keep n₀ q₀ s) :
    Keep n₀ q₀ (State.scanDie s k x) := by
  unfold State.scanDie
  try dsimp only
  repeat' first
    | (with_reducible first | assumption | apply keep_onDie)
    | split

theorem keep_execAuxScan {n₀ : Nat} {q₀ : List Instr} (xs : List ScanSample) (s : State) (hk : Keep n₀ q₀ s) :
    Goes n₀ q₀ (execAuxScan xs s) := by
  unfold execAuxScan
  try dsimp only
  repeat' first
    | intro _
    | (simp only [keep_mk, List.length_set]; with_reducible apply keep_fold)
    | (with_reducible first | assumption | apply keep_advanceTo | apply keep_scanDie | apply goes_next | apply keep_ite)
    | (with_reducible first | apply goes_ite | apply keep_foldl)
    | split

/-! ### Slots.lean -/

theorem keep_onRing {n₀ : Nat} {q₀ : List Instr} (s : State) (f : RingSt → RingSt) (hk : Keep n₀ q₀ s) :
    Keep n₀ q₀ (State.onRing s f) := by
  unfold State.onRing
  try dsimp only
  repeat' first
    | (simp only [keep_mk, List.length_set]; with_reducible apply keep_fold)
    | (with_reducible first | assumption)
    | split

theorem keep_onAut {n₀ : Nat} {q₀ : List Instr} (s : State) (f : AuthSt → AuthSt) (hk : Keep n₀ q₀ s) :
    Keep n₀ q₀ (State.onAut s f) := by
  unfold State.onAut
  try dsimp only
  repeat' first
    | (simp only [keep_mk, List.length_set]; with_reducible apply keep_fold)
    | (with_reducible first | assumption)
    | split

theorem keep_sendImage {n₀ : Nat} {q₀ : List Instr} (s : State) (hk : Keep n₀ q₀ s) :
    Keep n₀ q₀ (State.sendImage s) := by
  unfold State.sendImage
  try dsimp only
  repeat' first
    | intro _
    | (with_reducible first | assumption | apply keep_onRing | apply keep_withSlot | apply keep_ite)
    | split

theorem keep_newImage {n₀ : Nat} {q₀ : List Instr} (s : State) (hk : Keep n₀ q₀ s) :
    Keep n₀ q₀ (State.newImage s) := by
  unfold State.newImage
  try dsimp only
  repeat' first
    | (with_reducible first | assumption | apply keep_sendImage | apply keep_setOn | apply keep_onRing)
    | split

theorem keep_setSlot {n₀ : Nat} {q₀ : List Instr} (s : State) (slot : ℕ) (v : ℕ) (hk : Keep n₀ q₀ s) :
    Keep n₀ q₀ (State.setSlot s slot v) := by
  unfold State.setSlot
  try dsimp only
  repeat' first
    | (with_reducible first | assumption | apply keep_set)
    | split

theorem keep_joinRound {n₀ : Nat} {q₀ : List Instr} (s : State) (trigger : ℕ) (slot : ℕ) (hk : Keep n₀ q₀ s) :
    Keep n₀ q₀ (State.joinRound s trigger slot) := by
  unfold State.joinRound
  try dsimp only
  repeat' first
    | (with_reducible first | assumption | apply keep_onAut | apply keep_setSlot | apply keep_ite)
    | split

theorem keep_roundOfAll {n₀ : Nat} {q₀ : List Instr} (s : State) (hk : Keep n₀ q₀ s) :
    Keep n₀ q₀ (State.roundOfAll s) := by
  unfold State.roundOfAll
  try dsimp only
  repeat' first
    | intro _
    | (with_reducible first | assumption | apply keep_joinRound | apply keep_foldl)
    | split

theorem keep_slotsBefore {n₀ : Nat} {q₀ : List Instr} (s : State) (k : ℕ) (hk : Keep n₀ q₀ s) :
    Keep n₀ q₀ (State.slotsBefore s k) := by
  unfold State.slotsBefore
  try dsimp only
  repeat' first
    | intro _
    | (with_reducible first | assumption | apply keep_onAut | apply keep_ite | apply keep_foldl)
    | split

theorem keep_slotsAfter {n₀ : Nat} {q₀ : List Instr} (s : State) (k : ℕ) (hk : Keep n₀ q₀ s) :
    Keep n₀ q₀ (State.slotsAfter s k) := by
  unfold State.slotsAfter
  try dsimp only
  repeat' first
    | intro _
    | (with_reducible first | assumption | apply keep_onAut | apply keep_joinRound | apply keep_foldl)
    | split

theorem keep_slotVoltages {n₀ : Nat} {q₀ : List Instr} (s : State) (k : ℕ) (hk : Keep n₀ q₀ s) :
    Keep n₀ q₀ (State.slotVoltages s k) := by
  unfold State.slotVoltages
  try dsimp only
  repeat' first
    | intro _
    | (with_reducible first | assumption | apply keep_onAut | apply keep_joinRound | apply keep_ite | apply keep_foldl)
    | split

/-! ### Balancing.lean -/

theorem keep_openSwitchAt {n₀ : Nat} {q₀ : List Instr} (s : State) (k : ℕ) (i : ℕ) (t : ℕ) (hk : Keep n₀ q₀ s) :
    Keep n₀ q₀ (State.openSwitchAt s k i t) := by
  unfold State.openSwitchAt
  try dsimp only
  repeat' first
    | (with_reducible first | assumption | apply keep_onBal | apply keep_ite)
    | split

theorem keep_openSwitch {n₀ : Nat} {q₀ : List Instr} (s : State) (k : ℕ) (i : ℕ) (hk : Keep n₀ q₀ s) :
    Keep n₀ q₀ (State.openSwitch s k i) := by
  unfold State.openSwitch
  try dsimp only
  repeat' first
    | (with_reducible first | assumption | apply keep_openSwitchAt)
    | split

theorem keep_openWhere {n₀ : Nat} {q₀ : List Instr} (s : State) (k : ℕ) (p : ℕ → Bool) (hk : Keep n₀ q₀ s) :
    Keep n₀ q₀ (State.openWhere s k p) := by
  unfold State.openWhere
  try dsimp only
  repeat' first
    | intro _
    | (with_reducible first | assumption | apply keep_openSwitch | apply keep_foldl)
    | split

theorem keep_openAllSwitches {n₀ : Nat} {q₀ : List Instr} (s : State) (hk : Keep n₀ q₀ s) :
    Keep n₀ q₀ (State.openAllSwitches s) := by
  unfold State.openAllSwitches
  try dsimp only
  repeat' first
    | intro _
    | (with_reducible first | assumption | apply keep_openWhere | apply keep_foldl)
    | split

theorem keep_closeSwitch {n₀ : Nat} {q₀ : List Instr} (s : State) (k : ℕ) (i : ℕ) (hk : Keep n₀ q₀ s) :
    Keep n₀ q₀ (State.closeSwitch s k i) := by
  unfold State.closeSwitch
  try dsimp only
  repeat' first
    | (with_reducible first | assumption | apply keep_onBal)
    | split

theorem keep_execQuietLead {n₀ : Nat} {q₀ : List Instr} (s : State) (hk : Keep n₀ q₀ s) :
    Goes n₀ q₀ (execQuietLead s) := by
  unfold execQuietLead
  try dsimp only
  repeat' first
    | (with_reducible first | assumption | apply keep_openAllSwitches | apply keep_advanceTo | apply goes_next | apply goes_ite)
    | split

theorem keep_openElapsed {n₀ : Nat} {q₀ : List Instr} (s : State) (k : ℕ) (hk : Keep n₀ q₀ s) :
    Keep n₀ q₀ (State.openElapsed s k) := by
  unfold State.openElapsed
  try dsimp only
  repeat' first
    | intro _
    | (with_reducible first | assumption | apply keep_openSwitchAt | apply keep_ite | apply keep_foldl)
    | split

theorem keep_onShown {n₀ : Nat} {q₀ : List Instr} (s : State) (k : ℕ) (f : BalanceShown → BalanceShown) (hk : Keep n₀ q₀ s) :
    Keep n₀ q₀ (State.onShown s k f) := by
  unfold State.onShown
  try dsimp only
  repeat' first
    | (with_reducible first | assumption | apply keep_onBal)
    | split

theorem keep_setLocked {n₀ : Nat} {q₀ : List Instr} (s : State) (k : ℕ) (i : ℕ) (v : Bool) (hk : Keep n₀ q₀ s) :
    Keep n₀ q₀ (State.setLocked s k i v) := by
  unfold State.setLocked
  try dsimp only
  repeat' first
    | (with_reducible first | assumption | apply keep_onShown | apply keep_setOn)
    | split

theorem keep_execSwitchStuck {n₀ : Nat} {q₀ : List Instr} (k : ℕ) (i : ℕ) (s : State) (hk : Keep n₀ q₀ s) :
    Goes n₀ q₀ (execSwitchStuck k i s) := by
  unfold execSwitchStuck
  try dsimp only
  repeat' first
    | (with_reducible first | assumption | apply keep_flagEvent | apply keep_onBal | apply keep_setLocked | apply goes_next)
    | (with_reducible first | apply goes_ite)
    | split

theorem keep_execSwitchOvercurrent {n₀ : Nat} {q₀ : List Instr} (k : ℕ) (i : ℕ) (s : State) (hk : Keep n₀ q₀ s) :
    Goes n₀ q₀ (execSwitchOvercurrent k i s) := by
  unfold execSwitchOvercurrent
  try dsimp only
  repeat' first
    | intro _
    | (with_reducible first | assumption | apply keep_flag | apply keep_onBal | apply keep_openSwitch | apply keep_applyIf)
    | (with_reducible first | apply keep_raise | apply keep_setLocked | apply goes_next | apply goes_ite)
    | split

theorem keep_execBalanceOpenLoop {n₀ : Nat} {q₀ : List Instr} (k : ℕ) (i : ℕ) (s : State) (hk : Keep n₀ q₀ s) :
    Goes n₀ q₀ (execBalanceOpenLoop k i s) := by
  unfold execBalanceOpenLoop
  try dsimp only
  repeat' first
    | (with_reducible first | assumption | apply keep_flagEvent | apply keep_openSwitch | apply keep_setLocked | apply goes_next)
    | (with_reducible first | apply goes_ite)
    | split

theorem keep_execBalanceOnTimeEnd {n₀ : Nat} {q₀ : List Instr} (k : ℕ) (i : ℕ) (s : State) (hk : Keep n₀ q₀ s) :
    Goes n₀ q₀ (execBalanceOnTimeEnd k i s) := by
  unfold execBalanceOnTimeEnd
  try dsimp only
  repeat' first
    | (with_reducible first | assumption | apply keep_openSwitchAt | apply keep_advanceTo | apply goes_next | apply goes_ite)
    | split

theorem keep_writeSwclr {n₀ : Nat} {q₀ : List Instr} (s : State) (k : ℕ) (v : Word) (hk : Keep n₀ q₀ s) :
    Keep n₀ q₀ (State.writeSwclr s k v).1 := by
  unfold State.writeSwclr
  try dsimp only
  repeat' first
    | intro _
    | (with_reducible first | assumption | apply keep_setLocked | apply keep_foldl)
    | split

theorem keep_buildPlan {n₀ : Nat} {q₀ : List Instr} (s : State) (k : ℕ) (p : ℕ) (hk : Keep n₀ q₀ s) :
    Keep n₀ q₀ (State.buildPlan s k p) := by
  unfold State.buildPlan
  try dsimp only
  repeat' first
    | intro _
    | (with_reducible first | assumption | apply keep_onBal | apply keep_applyIf | apply keep_flag)
    | split

theorem keep_startPeriod {n₀ : Nat} {q₀ : List Instr} (s : State) (k : ℕ) (p : ℕ) (hk : Keep n₀ q₀ s) :
    Keep n₀ q₀ (State.startPeriod s k p) := by
  unfold State.startPeriod
  try dsimp only
  repeat' first
    | intro _
    | (with_reducible first | assumption | apply keep_onBal | apply keep_closeSwitch | apply keep_onShown | apply keep_foldl)
    | split

theorem keep_reapplyWanted {n₀ : Nat} {q₀ : List Instr} (s : State) (k : ℕ) (hk : Keep n₀ q₀ s) :
    Keep n₀ q₀ (State.reapplyWanted s k) := by
  unfold State.reapplyWanted
  try dsimp only
  repeat' first
    | (with_reducible first | assumption | apply keep_onBal | apply keep_openWhere | apply keep_ite)
    | split

theorem keep_showBalance {n₀ : Nat} {q₀ : List Instr} (s : State) (k : ℕ) (hk : Keep n₀ q₀ s) :
    Keep n₀ q₀ (State.showBalance s k) := by
  unfold State.showBalance
  try dsimp only
  repeat' first
    | (with_reducible first | assumption | apply keep_set64 | apply keep_put | apply keep_set)
    | split

theorem keep_bleed {n₀ : Nat} {q₀ : List Instr} (s : State) (k : ℕ) (x : DieSample) (hk : Keep n₀ q₀ s) :
    Keep n₀ q₀ (State.bleed s k x) := by
  unfold State.bleed
  try dsimp only
  repeat' first
    | (with_reducible first | assumption | apply keep_onBal)
    | split

theorem keep_noteCurrents {n₀ : Nat} {q₀ : List Instr} (s : State) (k : ℕ) (f : DieFrame) (hk : Keep n₀ q₀ s) :
    Keep n₀ q₀ (State.noteCurrents s k f) := by
  unfold State.noteCurrents
  try dsimp only
  repeat' first
    | (with_reducible first | assumption | apply keep_onBal)
    | split

theorem keep_balanceCurrents {n₀ : Nat} {q₀ : List Instr} (s : State) (k : ℕ) (f : DieFrame) (hk : Keep n₀ q₀ s) :
    Keep n₀ q₀ (State.balanceCurrents s k f) := by
  unfold State.balanceCurrents
  try dsimp only
  repeat' first
    | intro _
    | (with_reducible first | assumption | apply keep_showBalance | apply keep_noteCurrents | apply keep_put | apply keep_publish)
    | (with_reducible first | apply keep_foldl)
    | split

theorem keep_showLearn {n₀ : Nat} {q₀ : List Instr} (s : State) (k : ℕ) (state : ℕ) (hk : Keep n₀ q₀ s) :
    Keep n₀ q₀ (State.showLearn s k state) := by
  unfold State.showLearn
  try dsimp only
  repeat' first
    | (with_reducible first | assumption | apply keep_setOn | apply keep_onShown)
    | split

theorem keep_learnStart {n₀ : Nat} {q₀ : List Instr} (s : State) (k : ℕ) (hk : Keep n₀ q₀ s) :
    Keep n₀ q₀ (State.learnStart s k).1 := by
  unfold State.learnStart
  try dsimp only
  repeat' first
    | (with_reducible first | assumption | apply keep_showLearn | apply keep_onShown | apply keep_onBal)
    | split

theorem keep_learnAbort {n₀ : Nat} {q₀ : List Instr} (s : State) (k : ℕ) (hk : Keep n₀ q₀ s) :
    Keep n₀ q₀ (State.learnAbort s k).1 := by
  unfold State.learnAbort
  try dsimp only
  repeat' first
    | (with_reducible first | assumption | apply keep_showLearn | apply keep_onBal | apply keep_openWhere)
    | split

theorem keep_learnTap {n₀ : Nat} {q₀ : List Instr} (s : State) (k : ℕ) (l : LearnSt) (j : ℕ) (hk : Keep n₀ q₀ s) :
    Keep n₀ q₀ (State.learnTap s k l j) := by
  unfold State.learnTap
  try dsimp only
  repeat' first
    | intro _
    | (with_reducible first | assumption | apply keep_applyIf | apply keep_set | apply keep_flagEvent | apply keep_ite)
    | split

theorem keep_learnComplete {n₀ : Nat} {q₀ : List Instr} (s : State) (k : ℕ) (l : LearnSt) (hk : Keep n₀ q₀ s) :
    Keep n₀ q₀ (State.learnComplete s k l) := by
  unfold State.learnComplete
  try dsimp only
  repeat' first
    | intro _
    | (with_reducible first | assumption | apply keep_learnTap | apply keep_setInt | apply keep_flag | apply keep_onBal)
    | (with_reducible first | apply keep_newImage | apply keep_journalWrite | apply keep_showLearn | apply keep_setOn)
    | (with_reducible first | apply keep_foldl)
    | split

theorem keep_learnDecide {n₀ : Nat} {q₀ : List Instr} (s : State) (k : ℕ) (l : LearnSt) (hk : Keep n₀ q₀ s) :
    Keep n₀ q₀ (State.learnDecide s k l) := by
  unfold State.learnDecide
  try dsimp only
  repeat' first
    | (with_reducible first | assumption | apply keep_showLearn | apply keep_flagEvent | apply keep_onBal | apply keep_onShown)
    | (with_reducible first | apply keep_learnComplete | apply keep_ite)
    | split

theorem keep_learnFrame {n₀ : Nat} {q₀ : List Instr} (s : State) (k : ℕ) (f : DieFrame) (hk : Keep n₀ q₀ s) :
    Keep n₀ q₀ (State.learnFrame s k f) := by
  unfold State.learnFrame
  try dsimp only
  repeat' first
    | (with_reducible first | assumption | apply keep_onBal | apply keep_ite)
    | split

theorem keep_learnBoundary {n₀ : Nat} {q₀ : List Instr} (s : State) (k : ℕ) (n : ℕ) (hk : Keep n₀ q₀ s) :
    Keep n₀ q₀ (State.learnBoundary s k n) := by
  unfold State.learnBoundary
  try dsimp only
  repeat' first
    | (with_reducible first | assumption | apply keep_onBal | apply keep_learnDecide | apply keep_closeSwitch | apply keep_ite)
    | split

theorem keep_forgetWanted {n₀ : Nat} {q₀ : List Instr} (s : State) (k : ℕ) (hk : Keep n₀ q₀ s) :
    Keep n₀ q₀ (State.forgetWanted s k) := by
  unfold State.forgetWanted
  try dsimp only
  repeat' first
    | (with_reducible first | assumption | apply keep_onDie)
    | split

theorem keep_balanceBoundary {n₀ : Nat} {q₀ : List Instr} (s : State) (k : ℕ) (n : ℕ) (hk : Keep n₀ q₀ s) :
    Keep n₀ q₀ (State.balanceBoundary s k n) := by
  unfold State.balanceBoundary
  try dsimp only
  repeat' first
    | intro _
    | (with_reducible first | assumption | apply keep_openWhere | apply keep_buildPlan | apply keep_forgetWanted | apply keep_startPeriod)
    | (with_reducible first | apply keep_learnBoundary | apply keep_applyIf | apply keep_showBalance | apply keep_ite)
    | split

/-! ### Thyme.lean -/

theorem keep_onThy {n₀ : Nat} {q₀ : List Instr} (s : State) (f : ThymeSt → ThymeSt) (hk : Keep n₀ q₀ s) :
    Keep n₀ q₀ (State.onThy s f) := by
  unfold State.onThy
  try dsimp only
  repeat' first
    | (simp only [keep_mk, List.length_set]; with_reducible apply keep_fold)
    | (with_reducible first | assumption)
    | split

theorem keep_triggerEvent {n₀ : Nat} {q₀ : List Instr} (s : State) (lead : ℕ) (hk : Keep n₀ q₀ s) :
    Keep n₀ q₀ (State.triggerEvent s lead) := by
  unfold State.triggerEvent
  try dsimp only
  repeat' first
    | (with_reducible first | assumption | apply keep_flag | apply keep_onThy | apply keep_ite)
    | split

theorem keep_execSyncInEdge {n₀ : Nat} {q₀ : List Instr} (s : State) (hk : Keep n₀ q₀ s) :
    Goes n₀ q₀ (execSyncInEdge s) := by
  unfold execSyncInEdge
  try dsimp only
  repeat' first
    | intro _
    | (with_reducible first | assumption | apply keep_onThy | apply keep_set | apply keep_applyIf | apply keep_triggerEvent)
    | (with_reducible first | apply goes_next | apply goes_ite)
    | split

theorem keep_execSyncMiss {n₀ : Nat} {q₀ : List Instr} (s : State) (hk : Keep n₀ q₀ s) :
    Goes n₀ q₀ (execSyncMiss s) := by
  unfold execSyncMiss
  try dsimp only
  repeat' first
    | (with_reducible first | assumption | apply keep_onThy | apply keep_count | apply keep_flag | apply keep_advanceTo)
    | (with_reducible first | apply goes_next | apply goes_ite)
    | split

theorem keep_execXtalLost {n₀ : Nat} {q₀ : List Instr} (s : State) (hk : Keep n₀ q₀ s) :
    Goes n₀ q₀ (execXtalLost s) := by
  unfold execXtalLost
  try dsimp only
  repeat' first
    | (with_reducible first | assumption | apply keep_flagEvent | apply keep_setOn | apply goes_next | apply goes_ite)
    | split

theorem keep_execXtalRegained {n₀ : Nat} {q₀ : List Instr} (s : State) (hk : Keep n₀ q₀ s) :
    Goes n₀ q₀ (execXtalRegained s) := by
  unfold execXtalRegained
  try dsimp only
  repeat' first
    | (with_reducible first | assumption | apply keep_flag | apply keep_setOn | apply goes_next | apply goes_ite)
    | split

theorem keep_onStk {n₀ : Nat} {q₀ : List Instr} (s : State) (f : StackSt → StackSt) (hk : Keep n₀ q₀ s) :
    Keep n₀ q₀ (State.onStk s f) := by
  unfold State.onStk
  try dsimp only
  repeat' first
    | (simp only [keep_mk, List.length_set]; with_reducible apply keep_fold)
    | (with_reducible first | assumption)
    | split

theorem keep_measureDelays {n₀ : Nat} {q₀ : List Instr} (s : State) (delays : List ℕ) (hk : Keep n₀ q₀ s) :
    Keep n₀ q₀ (State.measureDelays s delays) := by
  unfold State.measureDelays
  try dsimp only
  repeat' first
    | (with_reducible first | assumption | apply keep_onStk)
    | split

theorem keep_execStrobeRecal {n₀ : Nat} {q₀ : List Instr} (delays : List ℕ) (s : State) (hk : Keep n₀ q₀ s) :
    Goes n₀ q₀ (execStrobeRecal delays s) := by
  unfold execStrobeRecal
  try dsimp only
  repeat' first
    | (with_reducible first | assumption | apply keep_measureDelays | apply goes_next | apply goes_ite)
    | split

theorem keep_stepDelays {n₀ : Nat} {q₀ : List Instr} (s : State) (hk : Keep n₀ q₀ s) :
    Keep n₀ q₀ (State.stepDelays s) := by
  unfold State.stepDelays
  try dsimp only
  repeat' first
    | intro _
    | (with_reducible first | assumption | apply keep_set | apply keep_foldl)
    | split

theorem keep_showReach {n₀ : Nat} {q₀ : List Instr} (s : State) (hk : Keep n₀ q₀ s) :
    Keep n₀ q₀ (State.showReach s) := by
  unfold State.showReach
  try dsimp only
  repeat' first
    | (with_reducible first | assumption | apply keep_set | apply keep_setOn | apply keep_onStk)
    | split

theorem keep_showPaths {n₀ : Nat} {q₀ : List Instr} (s : State) (prefer : ℕ → Bool) (hk : Keep n₀ q₀ s) :
    Keep n₀ q₀ (State.showPaths s prefer) := by
  unfold State.showPaths
  try dsimp only
  repeat' first
    | (with_reducible first | assumption | apply keep_showReach | apply keep_set)
    | split

theorem keep_defaultPaths {n₀ : Nat} {q₀ : List Instr} (s : State) (hk : Keep n₀ q₀ s) :
    Keep n₀ q₀ (State.defaultPaths s) := by
  unfold State.defaultPaths
  try dsimp only
  repeat' first
    | (with_reducible first | assumption | apply keep_showPaths)
    | split

theorem keep_execSegmentDown {n₀ : Nat} {q₀ : List Instr} (g : ℕ) (s : State) (hk : Keep n₀ q₀ s) :
    Goes n₀ q₀ (execSegmentDown g s) := by
  unfold execSegmentDown
  try dsimp only
  repeat' first
    | (with_reducible first | assumption | apply keep_count | apply keep_set | apply keep_flag | apply keep_raise)
    | (with_reducible first | apply keep_showPaths | apply goes_next | apply goes_ite)
    | split

theorem keep_execSegmentRetrain {n₀ : Nat} {q₀ : List Instr} (g : ℕ) (trained : Option (List ℕ)) (s : State) (hk : Keep n₀ q₀ s) :
    Goes n₀ q₀ (execSegmentRetrain g trained s) := by
  unfold execSegmentRetrain
  try dsimp only
  repeat' first
    | (with_reducible first | assumption | apply keep_flag | apply keep_set | apply keep_onStk | apply keep_measureDelays)
    | (with_reducible first | apply keep_showReach | apply goes_next | apply goes_ite)
    | split

theorem keep_markUnhealthy {n₀ : Nat} {q₀ : List Instr} (s : State) (k : ℕ) (hk : Keep n₀ q₀ s) :
    Keep n₀ q₀ (State.markUnhealthy s k) := by
  unfold State.markUnhealthy
  try dsimp only
  repeat' first
    | (with_reducible first | assumption | apply keep_onStk | apply keep_set | apply keep_slotsBefore)
    | split

theorem keep_markHealthy {n₀ : Nat} {q₀ : List Instr} (s : State) (k : ℕ) (hk : Keep n₀ q₀ s) :
    Keep n₀ q₀ (State.markHealthy s k) := by
  unfold State.markHealthy
  try dsimp only
  repeat' first
    | (with_reducible first | assumption | apply keep_onStk | apply keep_set)
    | split

theorem keep_execDieUnreachable {n₀ : Nat} {q₀ : List Instr} (k : ℕ) (s : State) (hk : Keep n₀ q₀ s) :
    Goes n₀ q₀ (execDieUnreachable k s) := by
  unfold execDieUnreachable
  try dsimp only
  repeat' first
    | (with_reducible first | assumption | apply keep_dropParty | apply keep_onStk | apply keep_flag | apply keep_markUnhealthy)
    | (with_reducible first | apply keep_advanceTo | apply goes_next | apply goes_ite)
    | split

theorem keep_sleepDie {n₀ : Nat} {q₀ : List Instr} (s : State) (k : ℕ) (hk : Keep n₀ q₀ s) :
    Keep n₀ q₀ (State.sleepDie s k) := by
  unfold State.sleepDie
  try dsimp only
  repeat' first
    | (simp only [keep_mk, List.length_set]; with_reducible apply keep_fold)
    | (with_reducible first | assumption | apply keep_set | apply keep_openWhere | apply keep_slotsBefore | apply keep_onDie)
    | (with_reducible first | apply keep_ite)
    | split

theorem keep_execDieSleep {n₀ : Nat} {q₀ : List Instr} (k : ℕ) (s : State) (hk : Keep n₀ q₀ s) :
    Goes n₀ q₀ (execDieSleep k s) := by
  unfold execDieSleep
  try dsimp only
  repeat' first
    | (with_reducible first | assumption | apply keep_sleepDie | apply keep_advanceTo | apply goes_next | apply goes_ite)
    | split

theorem keep_noteStrobes {n₀ : Nat} {q₀ : List Instr} (s : State) (missed : ℕ → Bool) (last : ℕ) (hk : Keep n₀ q₀ s) :
    Keep n₀ q₀ (State.noteStrobes s missed last) := by
  unfold State.noteStrobes
  try dsimp only
  repeat' first
    | (with_reducible first | assumption | apply keep_onStk)
    | split

theorem keep_rejoinNext {n₀ : Nat} {q₀ : List Instr} (s : State) (k : ℕ) (hk : Keep n₀ q₀ s) :
    Keep n₀ q₀ (State.rejoinNext s k) := by
  unfold State.rejoinNext
  try dsimp only
  repeat' first
    | (with_reducible first | assumption | apply keep_onStk)
    | split

theorem keep_execDieRejoin {n₀ : Nat} {q₀ : List Instr} (k : ℕ) (s : State) (hk : Keep n₀ q₀ s) :
    Goes n₀ q₀ (execDieRejoin k s) := by
  unfold execDieRejoin
  try dsimp only
  repeat' first
    | (with_reducible first | assumption | apply keep_rejoinNext | apply goes_next | apply goes_ite)
    | split

theorem keep_execDieWake {n₀ : Nat} {q₀ : List Instr} (k : ℕ) (s : State) (hk : Keep n₀ q₀ s) :
    Goes n₀ q₀ (execDieWake k s) := by
  unfold execDieWake
  try dsimp only
  repeat' first
    | (simp only [keep_mk, List.length_set]; with_reducible apply keep_fold)
    | (with_reducible first | assumption | apply goes_next | apply goes_ite)
    | split

theorem keep_rejoinDies {n₀ : Nat} {q₀ : List Instr} (s : State) (hk : Keep n₀ q₀ s) :
    Keep n₀ q₀ (State.rejoinDies s) := by
  unfold State.rejoinDies
  try dsimp only
  repeat' first
    | intro _
    | (with_reducible first | assumption | apply keep_flag | apply keep_slotsAfter | apply keep_markHealthy | apply keep_onStk)
    | (with_reducible first | apply keep_foldl)
    | split

theorem keep_restorePaths {n₀ : Nat} {q₀ : List Instr} (s : State) (hk : Keep n₀ q₀ s) :
    Keep n₀ q₀ (State.restorePaths s) := by
  unfold State.restorePaths
  try dsimp only
  repeat' first
    | intro _
    | (with_reducible first | assumption | apply keep_defaultPaths | apply keep_onStk | apply keep_applyIf | apply keep_flag)
    | (with_reducible first | apply keep_ite)
    | split

theorem keep_showLoad {n₀ : Nat} {q₀ : List Instr} (s : State) (hk : Keep n₀ q₀ s) :
    Keep n₀ q₀ (State.showLoad s) := by
  unfold State.showLoad
  try dsimp only
  repeat' first
    | (with_reducible first | assumption | apply keep_set)
    | split

end Sys2Proof.Machine
end

