-- ==== Sys2Proof/Laws/Keep2.lean ====
section
/-! SUPPORT. What the operations of Gate.lean, Bay.lean, Current.lean, Contactors.lean, Sage.lean, SageLimits.lean, SageStore.lean keep (see `Keep`). -/
set_option linter.unreachableTactic false
set_option linter.unusedTactic false
set_option linter.unusedSimpArgs false
set_option linter.unusedVariables false
namespace Sys2Proof.Machine
open Host

/-! ### Gate.lean -/

theorem keep_onGate {n₀ : Nat} {q₀ : List Instr} (s : State) (f : GateSt → GateSt) (hk : Keep n₀ q₀ s) :
    Keep n₀ q₀ (State.onGate s f) := by
  unfold State.onGate
  try dsimp only
  repeat' first
    | (simp only [keep_mk, List.length_set]; with_reducible apply keep_fold)
    | (with_reducible first | assumption)
    | split

theorem keep_quietGate {n₀ : Nat} {q₀ : List Instr} (s : State) (a : ℕ) (hk : Keep n₀ q₀ s) :
    Keep n₀ q₀ (State.quietGate s a) := by
  unfold State.quietGate
  try dsimp only
  repeat' first
    | (with_reducible first | assumption | apply keep_set | apply keep_onGate)
    | split

theorem keep_powerUpGate {n₀ : Nat} {q₀ : List Instr} (s : State) (hk : Keep n₀ q₀ s) :
    Keep n₀ q₀ (State.powerUpGate s) := by
  unfold State.powerUpGate
  try dsimp only
  repeat' first
    | intro _
    | (simp only [keep_mk, List.length_set]; with_reducible apply keep_fold)
    | (with_reducible first | assumption | apply keep_applyIf | apply keep_set | apply keep_foldl)
    | split

theorem keep_clearFourth {n₀ : Nat} {q₀ : List Instr} (s : State) (a : ℕ) (hk : Keep n₀ q₀ s) :
    Keep n₀ q₀ (State.clearFourth s a) := by
  unfold State.clearFourth
  try dsimp only
  repeat' first
    | intro _
    | (with_reducible first | assumption | apply keep_set | apply keep_onGate | apply keep_foldl)
    | split

theorem keep_safeState {n₀ : Nat} {q₀ : List Instr} (s : State) (a : ℕ) (cause : ℕ) (hk : Keep n₀ q₀ s) :
    Keep n₀ q₀ (State.safeState s a cause) := by
  unfold State.safeState
  try dsimp only
  repeat' first
    | (with_reducible first | assumption | apply keep_set | apply keep_quietGate | apply keep_stopAxis | apply keep_onAxis)
    | (with_reducible first | apply keep_abortBrakeTests | apply keep_ite)
    | split

theorem keep_bridgeOff {n₀ : Nat} {q₀ : List Instr} (s : State) (a : ℕ) (hk : Keep n₀ q₀ s) :
    Keep n₀ q₀ (State.bridgeOff s a) := by
  unfold State.bridgeOff
  try dsimp only
  repeat' first
    | (with_reducible first | assumption | apply keep_onAxis | apply keep_onGate | apply keep_quietGate | apply keep_abortBrakeTests)
    | (with_reducible first | apply keep_set)
    | split

theorem keep_safeAll {n₀ : Nat} {q₀ : List Instr} (s : State) (cause : ℕ) (hk : Keep n₀ q₀ s) :
    Keep n₀ q₀ (State.safeAll s cause) := by
  unfold State.safeAll
  try dsimp only
  repeat' first
    | intro _
    | (with_reducible first | assumption | apply keep_safeState | apply keep_foldl)
    | split

theorem keep_shortCircuit {n₀ : Nat} {q₀ : List Instr} (s : State) (a : ℕ) (c : ℕ) (hk : Keep n₀ q₀ s) :
    Keep n₀ q₀ (State.shortCircuit s a c) := by
  unfold State.shortCircuit
  try dsimp only
  repeat' first
    | (with_reducible first | assumption | apply keep_set | apply keep_flagEvent | apply keep_safeState | apply keep_count)
    | split

theorem keep_linkBack {n₀ : Nat} {q₀ : List Instr} (s : State) (hk : Keep n₀ q₀ s) :
    Keep n₀ q₀ (State.linkBack s) := by
  unfold State.linkBack
  try dsimp only
  repeat' first
    | intro _
    | (with_reducible first | assumption | apply keep_applyIf | apply keep_onGate | apply keep_setOn)
    | split

theorem keep_execGdieFrame {n₀ : Nat} {q₀ : List Instr} (a : ℕ) (sent : ℕ) (valid : Bool) (s : State) (hk : Keep n₀ q₀ s) :
    Goes n₀ q₀ (execGdieFrame a sent valid s) := by
  unfold execGdieFrame
  try dsimp only
  repeat' first
    | intro _
    | (with_reducible first | assumption | apply keep_set | apply keep_onGate | apply keep_linkBack | apply keep_flag)
    | (with_reducible first | apply keep_count | apply keep_applyIf | apply keep_stopAxis | apply goes_next | apply goes_ite)
    | split

theorem keep_execGdieLinkLost {n₀ : Nat} {q₀ : List Instr} (s : State) (hk : Keep n₀ q₀ s) :
    Goes n₀ q₀ (execGdieLinkLost s) := by
  unfold execGdieLinkLost
  try dsimp only
  repeat' first
    | (with_reducible first | assumption | apply keep_flag | apply keep_setOn | apply keep_safeAll | apply keep_advanceTo)
    | (with_reducible first | apply goes_next | apply goes_ite)
    | split

theorem keep_testResult {n₀ : Nat} {q₀ : List Instr} (s : State) (a : ℕ) (fails : ℕ) (hk : Keep n₀ q₀ s) :
    Keep n₀ q₀ (State.testResult s a fails) := by
  unfold State.testResult
  try dsimp only
  repeat' first
    | (with_reducible first | assumption | apply keep_set)
    | split

theorem keep_testFail {n₀ : Nat} {q₀ : List Instr} (s : State) (a : ℕ) (hk : Keep n₀ q₀ s) :
    Keep n₀ q₀ (State.testFail s a) := by
  unfold State.testFail
  try dsimp only
  repeat' first
    | (with_reducible first | assumption | apply keep_flagEvent | apply keep_safeState)
    | split

theorem keep_beginQualify {n₀ : Nat} {q₀ : List Instr} (s : State) (a : ℕ) (recover : Bool) (hk : Keep n₀ q₀ s) :
    Keep n₀ q₀ (State.beginQualify s a recover) := by
  unfold State.beginQualify
  try dsimp only
  repeat' first
    | intro _
    | (with_reducible first | assumption | apply keep_applyIf | apply keep_set | apply keep_onGate)
    | split

theorem keep_writeGdCmd {n₀ : Nat} {q₀ : List Instr} (s : State) (a : ℕ) (v : Word) (hk : Keep n₀ q₀ s) :
    Keep n₀ q₀ (State.writeGdCmd s a v).1 := by
  unfold State.writeGdCmd
  try dsimp only
  repeat' first
    | (with_reducible first | assumption | apply keep_set | apply keep_onGate | apply keep_beginQualify)
    | split

theorem keep_runRecovers {n₀ : Nat} {q₀ : List Instr} (s : State) (pages : List ℕ) (hk : Keep n₀ q₀ s) :
    Keep n₀ q₀ (State.runRecovers s pages) := by
  unfold State.runRecovers
  try dsimp only
  repeat' first
    | intro _
    | (with_reducible first | assumption | apply keep_beginQualify | apply keep_foldl)
    | split

theorem keep_execSctestDone {n₀ : Nat} {q₀ : List Instr} (a : ℕ) (fails : ℕ) (s : State) (hk : Keep n₀ q₀ s) :
    Goes n₀ q₀ (execSctestDone a fails s) := by
  unfold execSctestDone
  try dsimp only
  repeat' first
    | (with_reducible first | assumption | apply keep_testResult | apply keep_set | apply keep_onGate | apply keep_flag)
    | (with_reducible first | apply keep_testFail | apply goes_next | apply keep_ite)
    | split

theorem keep_execQualification {n₀ : Nat} {q₀ : List Instr} (a : ℕ) (s : State) (hk : Keep n₀ q₀ s) :
    Goes n₀ q₀ (execQualification a s) := by
  unfold execQualification
  try dsimp only
  repeat' first
    | (with_reducible first | assumption | apply keep_beginQualify | apply keep_set | apply goes_next | apply goes_ite)
    | split

theorem keep_showBootstraps {n₀ : Nat} {q₀ : List Instr} (s : State) (a : ℕ) (v : List ℕ) (hk : Keep n₀ q₀ s) :
    Keep n₀ q₀ (State.showBootstraps s a v) := by
  unfold State.showBootstraps
  try dsimp only
  repeat' first
    | (with_reducible first | assumption | apply keep_set)
    | split

theorem keep_qualFail {n₀ : Nat} {q₀ : List Instr} (s : State) (a : ℕ) (hk : Keep n₀ q₀ s) :
    Keep n₀ q₀ (State.qualFail s a) := by
  unfold State.qualFail
  try dsimp only
  repeat' first
    | (with_reducible first | assumption | apply keep_flag | apply keep_safeState)
    | split

theorem keep_execQualificationDone {n₀ : Nat} {q₀ : List Instr} (a : ℕ) (fails : ℕ) (bst : List ℕ) (s : State) (hk : Keep n₀ q₀ s) :
    Goes n₀ q₀ (execQualificationDone a fails bst s) := by
  unfold execQualificationDone
  try dsimp only
  repeat' first
    | (with_reducible first | assumption | apply keep_bridgeOff | apply keep_advanceTo | apply keep_showBootstraps)
    | (with_reducible first | apply keep_testResult | apply keep_onGate | apply keep_qualFail | apply keep_testFail)
    | (with_reducible first | apply keep_flag | apply keep_set | apply keep_setAxState | apply goes_next | apply keep_ite)
    | (with_reducible first | apply goes_ite)
    | split

theorem keep_writeGpulse {n₀ : Nat} {q₀ : List Instr} (s : State) (a : ℕ) (v : Word) (hk : Keep n₀ q₀ s) :
    Keep n₀ q₀ (State.writeGpulse s a v).1 := by
  unfold State.writeGpulse
  try dsimp only
  repeat' first
    | (with_reducible first | assumption | apply keep_onGate)
    | split

theorem keep_execGatePulseEnd {n₀ : Nat} {q₀ : List Instr} (a : ℕ) (vsw : ℕ) (vbst : ℕ) (x : PulseEnd) (s : State) (hk : Keep n₀ q₀ s) :
    Goes n₀ q₀ (execGatePulseEnd a vsw vbst x s) := by
  unfold execGatePulseEnd
  try dsimp only
  repeat' first
    | (with_reducible first | assumption | apply keep_advanceTo | apply keep_onGate | apply keep_set | apply keep_shortCircuit)
    | (with_reducible first | apply goes_next | apply keep_ite)
    | split

theorem keep_fetchLive {n₀ : Nat} {q₀ : List Instr} (s : State) (a : ℕ) (hk : Keep n₀ q₀ s) :
    Keep n₀ q₀ (State.fetchLive s a) := by
  unfold State.fetchLive
  try dsimp only
  repeat' first
    | (with_reducible first | assumption | apply keep_put)
    | split

theorem keep_adaptBridge {n₀ : Nat} {q₀ : List Instr} (s : State) (a : ℕ) (b : ℕ) (ns : ℕ) (hk : Keep n₀ q₀ s) :
    Keep n₀ q₀ (State.adaptBridge s a b ns) := by
  unfold State.adaptBridge
  try dsimp only
  repeat' first
    | intro _
    | (with_reducible first | assumption | apply keep_onGate | apply keep_set | apply keep_applyIf | apply keep_flagEvent)
    | split

theorem keep_refreshPeriod {n₀ : Nat} {q₀ : List Instr} (s : State) (a : ℕ) (b : ℕ) (low : ℕ) (hk : Keep n₀ q₀ s) :
    Keep n₀ q₀ (State.refreshPeriod s a b low) := by
  unfold State.refreshPeriod
  try dsimp only
  repeat' first
    | (with_reducible first | assumption | apply keep_onGate | apply keep_set | apply keep_ite)
    | split

theorem keep_execPwmPeriod {n₀ : Nat} {q₀ : List Instr} (a : ℕ) (hs : List HalfPeriod) (s : State) (hk : Keep n₀ q₀ s) :
    Goes n₀ q₀ (execPwmPeriod a hs s) := by
  unfold execPwmPeriod
  try dsimp only
  repeat' first
    | intro _
    | (with_reducible first | assumption | apply keep_set | apply keep_refreshPeriod | apply keep_adaptBridge | apply keep_applyIf)
    | (with_reducible first | apply keep_triggerEvent | apply goes_next | apply goes_ite | apply keep_foldl)
    | split

theorem keep_execShortCircuitTrip {n₀ : Nat} {q₀ : List Instr} (a : ℕ) (c : ℕ) (s : State) (hk : Keep n₀ q₀ s) :
    Goes n₀ q₀ (execShortCircuitTrip a c s) := by
  unfold execShortCircuitTrip
  try dsimp only
  repeat' first
    | (with_reducible first | assumption | apply keep_shortCircuit | apply goes_next | apply goes_ite)
    | split

theorem keep_execHandshakeTimeout {n₀ : Nat} {q₀ : List Instr} (a : ℕ) (s : State) (hk : Keep n₀ q₀ s) :
    Goes n₀ q₀ (execHandshakeTimeout a s) := by
  unfold execHandshakeTimeout
  try dsimp only
  repeat' first
    | (with_reducible first | assumption | apply keep_flag | apply keep_safeState | apply goes_next | apply goes_ite)
    | split

theorem keep_execVmOutOfRange {n₀ : Nat} {q₀ : List Instr} (high : Bool) (s : State) (hk : Keep n₀ q₀ s) :
    Goes n₀ q₀ (execVmOutOfRange high s) := by
  unfold execVmOutOfRange
  try dsimp only
  repeat' first
    | intro _
    | (with_reducible first | assumption | apply keep_applyIf | apply keep_setOn | apply keep_safeAll | apply keep_flagEvent)
    | (with_reducible first | apply goes_next | apply goes_ite)
    | split

theorem keep_execVggUndervoltage {n₀ : Nat} {q₀ : List Instr} (s : State) (hk : Keep n₀ q₀ s) :
    Goes n₀ q₀ (execVggUndervoltage s) := by
  unfold execVggUndervoltage
  try dsimp only
  repeat' first
    | (with_reducible first | assumption | apply keep_flagEvent | apply keep_setOn | apply keep_safeAll | apply goes_next)
    | (with_reducible first | apply goes_ite)
    | split

theorem keep_execSupplyRelease {n₀ : Nat} {q₀ : List Instr} (h : Option ℕ) (s : State) (hk : Keep n₀ q₀ s) :
    Goes n₀ q₀ (execSupplyRelease h s) := by
  unfold execSupplyRelease
  try dsimp only
  repeat' first
    | (with_reducible first | assumption | apply keep_setOn | apply keep_onGate | apply goes_next | apply keep_ite)
    | (with_reducible first | apply goes_ite)
    | split

theorem keep_execBootstrapUndervoltage {n₀ : Nat} {q₀ : List Instr} (a : ℕ) (b : ℕ) (s : State) (hk : Keep n₀ q₀ s) :
    Goes n₀ q₀ (execBootstrapUndervoltage a b s) := by
  unfold execBootstrapUndervoltage
  try dsimp only
  repeat' first
    | intro _
    | (with_reducible first | assumption | apply keep_onGate | apply keep_applyIf | apply keep_count | apply keep_flagEvent)
    | (with_reducible first | apply keep_safeState | apply goes_next | apply goes_ite)
    | split

theorem keep_execRefreshEpisode {n₀ : Nat} {q₀ : List Instr} (a : ℕ) (b : ℕ) (bst : ℕ) (s : State) (hk : Keep n₀ q₀ s) :
    Goes n₀ q₀ (execRefreshEpisode a b bst s) := by
  unfold execRefreshEpisode
  try dsimp only
  repeat' first
    | (with_reducible first | assumption | apply keep_flagEvent | apply keep_count | apply keep_set | apply goes_next)
    | (with_reducible first | apply goes_ite)
    | split

theorem keep_execChopperOn {n₀ : Nat} {q₀ : List Instr} (s : State) (hk : Keep n₀ q₀ s) :
    Goes n₀ q₀ (execChopperOn s) := by
  unfold execChopperOn
  try dsimp only
  repeat' first
    | (with_reducible first | assumption | apply keep_flag | apply keep_count | apply keep_setOn | apply keep_onGate)
    | (with_reducible first | apply goes_next | apply goes_ite)
    | split

theorem keep_chopperOff {n₀ : Nat} {q₀ : List Instr} (s : State) (hk : Keep n₀ q₀ s) :
    Keep n₀ q₀ (State.chopperOff s) := by
  unfold State.chopperOff
  try dsimp only
  repeat' first
    | (with_reducible first | assumption | apply keep_set | apply keep_setOn | apply keep_ite)
    | split

theorem keep_execChopperOff {n₀ : Nat} {q₀ : List Instr} (s : State) (hk : Keep n₀ q₀ s) :
    Goes n₀ q₀ (execChopperOff s) := by
  unfold execChopperOff
  try dsimp only
  repeat' first
    | (with_reducible first | assumption | apply keep_chopperOff | apply goes_next)
    | split

theorem keep_execChopperLong {n₀ : Nat} {q₀ : List Instr} (s : State) (hk : Keep n₀ q₀ s) :
    Goes n₀ q₀ (execChopperLong s) := by
  unfold execChopperLong
  try dsimp only
  repeat' first
    | (with_reducible first | assumption | apply keep_flagEvent | apply keep_onGate | apply keep_advanceTo | apply goes_next)
    | (with_reducible first | apply goes_ite)
    | split

/-! ### Bay.lean -/

theorem keep_onBay {n₀ : Nat} {q₀ : List Instr} (s : State) (f : BaySt → BaySt) (hk : Keep n₀ q₀ s) :
    Keep n₀ q₀ (State.onBay s f) := by
  unfold State.onBay
  try dsimp only
  repeat' first
    | (simp only [keep_mk, List.length_set]; with_reducible apply keep_fold)
    | (with_reducible first | assumption)
    | split

theorem keep_countPair {n₀ : Nat} {q₀ : List Instr} (s : State) (p : GridPair) (hk : Keep n₀ q₀ s) :
    Keep n₀ q₀ (State.countPair s p) := by
  unfold State.countPair
  try dsimp only
  repeat' first
    | (with_reducible first | assumption | apply keep_onBay | apply keep_ite)
    | split

theorem keep_takePair {n₀ : Nat} {q₀ : List Instr} (s : State) (p : GridPair) (hk : Keep n₀ q₀ s) :
    Keep n₀ q₀ (State.takePair s p) := by
  unfold State.takePair
  try dsimp only
  repeat' first
    | (with_reducible first | assumption | apply keep_onBay | apply keep_countPair | apply keep_ite)
    | split

theorem keep_keepPair {n₀ : Nat} {q₀ : List Instr} (s : State) (p : GridPair) (hk : Keep n₀ q₀ s) :
    Keep n₀ q₀ (State.keepPair s p) := by
  unfold State.keepPair
  try dsimp only
  repeat' first
    | (with_reducible first | assumption | apply keep_onBay | apply keep_ite)
    | split

theorem keep_execBaySamplePair {n₀ : Nat} {q₀ : List Instr} (p : SamplePair) (crcOk : Bool) (s : State) (hk : Keep n₀ q₀ s) :
    Goes n₀ q₀ (execBaySamplePair p crcOk s) := by
  unfold execBaySamplePair
  try dsimp only
  repeat' first
    | (with_reducible first | assumption | apply keep_keepPair | apply keep_advanceTo | apply keep_takePair | apply goes_next)
    | (with_reducible first | apply goes_ite)
    | split

theorem keep_execBayPairLost {n₀ : Nat} {q₀ : List Instr} (s : State) (hk : Keep n₀ q₀ s) :
    Goes n₀ q₀ (execBayPairLost s) := by
  unfold execBayPairLost
  try dsimp only
  repeat' first
    | (with_reducible first | assumption | apply keep_takePair | apply keep_advanceTo | apply goes_next | apply goes_ite)
    | split

theorem keep_bayAtRun {n₀ : Nat} {q₀ : List Instr} (s : State) (hk : Keep n₀ q₀ s) :
    Keep n₀ q₀ (State.bayAtRun s) := by
  unfold State.bayAtRun
  try dsimp only
  repeat' first
    | (with_reducible first | assumption | apply keep_onBay)
    | split

theorem keep_addLegal {n₀ : Nat} {q₀ : List Instr} (s : State) (lo : Fld) (hi : Fld) (k : ℕ) (mj : ℤ) (hk : Keep n₀ q₀ s) :
    Keep n₀ q₀ (State.addLegal s lo hi k mj) := by
  unfold State.addLegal
  try dsimp only
  repeat' first
    | (with_reducible first | assumption | apply keep_onBay | apply keep_set)
    | split

theorem keep_addWord {n₀ : Nat} {q₀ : List Instr} (s : State) (f : Fld) (k : ℕ) (mj : ℤ) (hk : Keep n₀ q₀ s) :
    Keep n₀ q₀ (State.addWord s f k mj) := by
  unfold State.addWord
  try dsimp only
  repeat' first
    | (with_reducible first | assumption | apply keep_onBay | apply keep_set)
    | split

theorem keep_creditEnergy {n₀ : Nat} {q₀ : List Instr} (s : State) (metering : Bool) (mj : ℤ) (hk : Keep n₀ q₀ s) :
    Keep n₀ q₀ (State.creditEnergy s metering mj) := by
  unfold State.creditEnergy
  try dsimp only
  repeat' first
    | (with_reducible first | assumption | apply keep_addLegal | apply keep_addWord | apply keep_ite)
    | split

theorem keep_showRun {n₀ : Nat} {q₀ : List Instr} (s : State) (v : Bool) (hk : Keep n₀ q₀ s) :
    Keep n₀ q₀ (State.showRun s v) := by
  unfold State.showRun
  try dsimp only
  repeat' first
    | (with_reducible first | assumption | apply keep_setOn | apply keep_flag | apply keep_safetyEval | apply keep_coilRelease)
    | (with_reducible first | apply keep_flagEvent | apply keep_ite)
    | split

theorem keep_takeParams {n₀ : Nat} {q₀ : List Instr} (s : State) (hk : Keep n₀ q₀ s) :
    Keep n₀ q₀ (State.takeParams s) := by
  unfold State.takeParams
  try dsimp only
  repeat' first
    | intro _
    | (with_reducible first | assumption | apply keep_put | apply keep_onBay | apply keep_foldl)
    | split

theorem keep_showMean {n₀ : Nat} {q₀ : List Instr} (s : State) (f : Fld) (sum : ℚ) (hk : Keep n₀ q₀ s) :
    Keep n₀ q₀ (State.showMean s f sum) := by
  unfold State.showMean
  try dsimp only
  repeat' first
    | (with_reducible first | assumption | apply keep_put | apply keep_setInt | apply keep_ite)
    | split

theorem keep_nextInterval {n₀ : Nat} {q₀ : List Instr} (s : State) (hk : Keep n₀ q₀ s) :
    Keep n₀ q₀ (State.nextInterval s) := by
  unfold State.nextInterval
  try dsimp only
  repeat' first
    | intro _
    | (with_reducible first | assumption | apply keep_takePair | apply keep_onBay | apply keep_foldl)
    | split

theorem keep_closeInterval {n₀ : Nat} {q₀ : List Instr} (s : State) (hk : Keep n₀ q₀ s) :
    Keep n₀ q₀ (State.closeInterval s) := by
  unfold State.closeInterval
  try dsimp only
  repeat' first
    | intro _
    | (with_reducible first | assumption | apply keep_showMean | apply keep_setOn | apply keep_set | apply keep_applyIf)
    | (with_reducible first | apply keep_listed | apply keep_creditEnergy | apply keep_nextInterval | apply keep_takeParams)
    | (with_reducible first | apply keep_showRun)
    | split

theorem keep_execBayInterval {n₀ : Nat} {q₀ : List Instr} (s : State) (hk : Keep n₀ q₀ s) :
    Goes n₀ q₀ (execBayInterval s) := by
  unfold execBayInterval
  try dsimp only
  repeat' first
    | (with_reducible first | assumption | apply keep_closeInterval | apply goes_next | apply goes_ite)
    | split

theorem keep_clockWindow {n₀ : Nat} {q₀ : List Instr} (s : State) (dev : ℤ) (hk : Keep n₀ q₀ s) :
    Keep n₀ q₀ (State.clockWindow s dev) := by
  unfold State.clockWindow
  try dsimp only
  repeat' first
    | intro _
    | (with_reducible first | assumption | apply keep_setInt | apply keep_applyIf | apply keep_flag | apply keep_onBay)
    | (with_reducible first | apply keep_setOn | apply keep_ite)
    | split

theorem keep_bayCopy {n₀ : Nat} {q₀ : List Instr} (s : State) (hk : Keep n₀ q₀ s) :
    Keep n₀ q₀ (State.bayCopy s) := by
  unfold State.bayCopy
  try dsimp only
  repeat' first
    | (with_reducible first | assumption | apply keep_onBay | apply keep_ite)
    | split

theorem keep_execBayCopyWrite {n₀ : Nat} {q₀ : List Instr} (s : State) (hk : Keep n₀ q₀ s) :
    Goes n₀ q₀ (execBayCopyWrite s) := by
  unfold execBayCopyWrite
  try dsimp only
  repeat' first
    | (with_reducible first | assumption | apply keep_bayCopy | apply goes_next)
    | split

theorem keep_bayLog {n₀ : Nat} {q₀ : List Instr} (s : State) (kind : ℕ) (param : ℕ) (old : Word) (new : Word) (hk : Keep n₀ q₀ s) :
    Keep n₀ q₀ (State.bayLog s kind param old new) := by
  unfold State.bayLog
  try dsimp only
  repeat' first
    | intro _
    | (with_reducible first | assumption | apply keep_applyIf | apply keep_set | apply keep_onBay | apply keep_setOn)
    | (with_reducible first | apply keep_ite)
    | split

theorem keep_closeSession {n₀ : Nat} {q₀ : List Instr} (s : State) (cut : Bool) (hk : Keep n₀ q₀ s) :
    Keep n₀ q₀ (State.closeSession s cut) := by
  unfold State.closeSession
  try dsimp only
  repeat' first
    | (with_reducible first | assumption | apply keep_setOn | apply keep_flagEvent)
    | split

theorem keep_openSession {n₀ : Nat} {q₀ : List Instr} (s : State) (hk : Keep n₀ q₀ s) :
    Keep n₀ q₀ (State.openSession s) := by
  unfold State.openSession
  try dsimp only
  repeat' first
    | (with_reducible first | assumption | apply keep_setOn | apply keep_set | apply keep_onBay)
    | split

theorem keep_execBayAux3Change {n₀ : Nat} {q₀ : List Instr} (closed : Bool) (s : State) (hk : Keep n₀ q₀ s) :
    Goes n₀ q₀ (execBayAux3Change closed s) := by
  unfold execBayAux3Change
  try dsimp only
  repeat' first
    | (with_reducible first | assumption | apply keep_openSession | apply keep_closeSession | apply keep_set | apply goes_next)
    | (with_reducible first | apply goes_ite)
    | split

theorem keep_bayStartUp {n₀ : Nat} {q₀ : List Instr} (s : State) (newest : Bool) (older : Bool) (image : Bool) (hk : Keep n₀ q₀ s) :
    Keep n₀ q₀ (State.bayStartUp s newest older image) := by
  unfold State.bayStartUp
  try dsimp only
  repeat' first
    | intro _
    | (with_reducible first | assumption | apply keep_onBay | apply keep_setReg | apply keep_applyIf | apply keep_flagEvent)
    | (with_reducible first | apply keep_bayLog | apply keep_closeSession | apply keep_ite | apply keep_foldl)
    | split

theorem keep_mboxResult {n₀ : Nat} {q₀ : List Instr} (s : State) (r : ℕ) (hk : Keep n₀ q₀ s) :
    Keep n₀ q₀ (State.mboxResult s r) := by
  unfold State.mboxResult
  try dsimp only
  repeat' first
    | (with_reducible first | assumption | apply keep_set)
    | split

theorem keep_wrongCode {n₀ : Nat} {q₀ : List Instr} (s : State) (hk : Keep n₀ q₀ s) :
    Keep n₀ q₀ (State.wrongCode s) := by
  unfold State.wrongCode
  try dsimp only
  repeat' first
    | (with_reducible first | assumption | apply keep_onBay | apply keep_mboxResult | apply keep_setOn | apply keep_ite)
    | split

theorem keep_zeroTest {n₀ : Nat} {q₀ : List Instr} (s : State) (hk : Keep n₀ q₀ s) :
    Keep n₀ q₀ (State.zeroTest s) := by
  unfold State.zeroTest
  try dsimp only
  repeat' first
    | (with_reducible first | assumption | apply keep_onBay | apply keep_set)
    | split

theorem keep_setSeal {n₀ : Nat} {q₀ : List Instr} (s : State) (v : Bool) (hk : Keep n₀ q₀ s) :
    Keep n₀ q₀ (State.setSeal s v) := by
  unfold State.setSeal
  try dsimp only
  repeat' first
    | (with_reducible first | assumption | apply keep_flag | apply keep_setOn)
    | split

theorem keep_mcount {n₀ : Nat} {q₀ : List Instr} (s : State) (hk : Keep n₀ q₀ s) :
    Keep n₀ q₀ (State.mcount s) := by
  unfold State.mcount
  try dsimp only
  repeat' first
    | (with_reducible first | assumption | apply keep_set)
    | split

theorem keep_mboxRun {n₀ : Nat} {q₀ : List Instr} (s : State) (m : List Word) (version : Word) (hk : Keep n₀ q₀ s) :
    Keep n₀ q₀ (State.mboxRun s m version) := by
  unfold State.mboxRun
  try dsimp only
  repeat' first
    | (with_reducible first | assumption | apply keep_bayLog | apply keep_mcount | apply keep_zeroTest | apply keep_setSeal)
    | (with_reducible first | apply keep_onBay | apply keep_flag)
    | split

theorem keep_mailbox {n₀ : Nat} {q₀ : List Instr} (s : State) (m : List Word) (verified : Bool) (version : Word) (hk : Keep n₀ q₀ s) :
    Keep n₀ q₀ (State.mailbox s m verified version) := by
  unfold State.mailbox
  try dsimp only
  repeat' first
    | (with_reducible first | assumption | apply keep_mboxResult | apply keep_wrongCode | apply keep_onBay | apply keep_mboxRun)
    | (with_reducible first | apply keep_ite)
    | split

theorem keep_submitMailbox {n₀ : Nat} {q₀ : List Instr} (s : State) (m : List Word) (verified : Bool) (version : Word) (hk : Keep n₀ q₀ s) :
    Keep n₀ q₀ (State.submitMailbox s m verified version) := by
  unfold State.submitMailbox
  try dsimp only
  repeat' first
    | (with_reducible first | assumption | apply keep_mailbox | apply keep_onBay | apply keep_ite)
    | split

theorem keep_execBayBreak {n₀ : Nat} {q₀ : List Instr} (rest : List Word) (s : State) (hk : Keep n₀ q₀ s) :
    Goes n₀ q₀ (execBayBreak rest s) := by
  unfold execBayBreak
  try dsimp only
  repeat' first
    | (with_reducible first | assumption | apply keep_submitMailbox | apply goes_next)
    | split

theorem keep_execBaySet {n₀ : Nat} {q₀ : List Instr} (param : Byte) (rest : List Word) (s : State) (hk : Keep n₀ q₀ s) :
    Goes n₀ q₀ (execBaySet param rest s) := by
  unfold execBaySet
  try dsimp only
  repeat' first
    | (with_reducible first | assumption | apply keep_submitMailbox | apply goes_next)
    | split

theorem keep_execBaySeal {n₀ : Nat} {q₀ : List Instr} (rest : List Word) (s : State) (hk : Keep n₀ q₀ s) :
    Goes n₀ q₀ (execBaySeal rest s) := by
  unfold execBaySeal
  try dsimp only
  repeat' first
    | (with_reducible first | assumption | apply keep_submitMailbox | apply goes_next)
    | split

theorem keep_execBayImgOpen {n₀ : Nat} {q₀ : List Instr} (rest : List Word) (s : State) (hk : Keep n₀ q₀ s) :
    Goes n₀ q₀ (execBayImgOpen rest s) := by
  unfold execBayImgOpen
  try dsimp only
  repeat' first
    | (with_reducible first | assumption | apply keep_submitMailbox | apply goes_next)
    | split

theorem keep_execBayImgData {n₀ : Nat} {q₀ : List Instr} (rest : List Word) (s : State) (hk : Keep n₀ q₀ s) :
    Goes n₀ q₀ (execBayImgData rest s) := by
  unfold execBayImgData
  try dsimp only
  repeat' first
    | (with_reducible first | assumption | apply keep_submitMailbox | apply goes_next)
    | split

theorem keep_execBayImgEnd {n₀ : Nat} {q₀ : List Instr} (rest : List Word) (verified : Bool) (version : Word) (s : State) (hk : Keep n₀ q₀ s) :
    Goes n₀ q₀ (execBayImgEnd rest verified version s) := by
  unfold execBayImgEnd
  try dsimp only
  repeat' first
    | (with_reducible first | assumption | apply keep_submitMailbox | apply goes_next)
    | split

theorem keep_execBayMailboxReject {n₀ : Nat} {q₀ : List Instr} (m : List Word) (s : State) (hk : Keep n₀ q₀ s) :
    Goes n₀ q₀ (execBayMailboxReject m s) := by
  unfold execBayMailboxReject
  try dsimp only
  repeat' first
    | (with_reducible first | assumption | apply keep_submitMailbox | apply goes_next)
    | split

theorem keep_execBayLockoutEnd {n₀ : Nat} {q₀ : List Instr} (s : State) (hk : Keep n₀ q₀ s) :
    Goes n₀ q₀ (execBayLockoutEnd s) := by
  unfold execBayLockoutEnd
  try dsimp only
  repeat' first
    | (with_reducible first | assumption | apply keep_setOn | apply keep_onBay | apply keep_advanceTo | apply goes_next)
    | split

/-! ### Current.lean -/

theorem keep_countAgreement {n₀ : Nat} {q₀ : List Instr} (s : State) (o : Option HeldM0) (hk : Keep n₀ q₀ s) :
    Keep n₀ q₀ (State.countAgreement s o) := by
  unfold State.countAgreement
  try dsimp only
  repeat' first
    | (simp only [keep_mk, List.length_set]; with_reducible apply keep_fold)
    | (with_reducible first | assumption)
    | split

theorem keep_enterSuspect {n₀ : Nat} {q₀ : List Instr} (s : State) (hk : Keep n₀ q₀ s) :
    Keep n₀ q₀ (State.enterSuspect s) := by
  unfold State.enterSuspect
  try dsimp only
  repeat' first
    | (simp only [keep_mk, List.length_set]; with_reducible apply keep_fold)
    | (with_reducible first | assumption | apply keep_flagEvent | apply keep_setOn | apply keep_ite)
    | split

theorem keep_execCurrentSuspect {n₀ : Nat} {q₀ : List Instr} (s : State) (hk : Keep n₀ q₀ s) :
    Goes n₀ q₀ (execCurrentSuspect s) := by
  unfold execCurrentSuspect
  try dsimp only
  repeat' first
    | (with_reducible first | assumption | apply keep_enterSuspect | apply goes_next | apply goes_ite)
    | split

theorem keep_execCurrentAgreed {n₀ : Nat} {q₀ : List Instr} (s : State) (hk : Keep n₀ q₀ s) :
    Goes n₀ q₀ (execCurrentAgreed s) := by
  unfold execCurrentAgreed
  try dsimp only
  repeat' first
    | (simp only [keep_mk, List.length_set]; with_reducible apply keep_fold)
    | (with_reducible first | assumption | apply keep_flagEvent | apply keep_setOn | apply goes_next | apply goes_ite)
    | split

theorem keep_zeroFrame {n₀ : Nat} {q₀ : List Instr} (s : State) (o : Option HeldM0) (hk : Keep n₀ q₀ s) :
    Keep n₀ q₀ (State.zeroFrame s o) := by
  unfold State.zeroFrame
  try dsimp only
  repeat' first
    | (simp only [keep_mk, List.length_set]; with_reducible apply keep_fold)
    | (with_reducible first | assumption | apply keep_setOn | apply keep_ite)
    | split

theorem keep_sampleM0 {n₀ : Nat} {q₀ : List Instr} (s : State) (x : FrameSample) (hk : Keep n₀ q₀ s) :
    Keep n₀ q₀ (State.sampleM0 s x) := by
  unfold State.sampleM0
  try dsimp only
  repeat' first
    | (simp only [keep_mk, List.length_set]; with_reducible apply keep_fold)
    | (with_reducible first | assumption | apply keep_zeroFrame | apply keep_countAgreement)
    | split

theorem keep_missM0 {n₀ : Nat} {q₀ : List Instr} (s : State) (hk : Keep n₀ q₀ s) :
    Keep n₀ q₀ (State.missM0 s) := by
  unfold State.missM0
  try dsimp only
  repeat' first
    | (simp only [keep_mk, List.length_set]; with_reducible apply keep_fold)
    | (with_reducible first | assumption | apply keep_zeroFrame | apply keep_countAgreement)
    | split

theorem keep_loseM0 {n₀ : Nat} {q₀ : List Instr} (s : State) (next : Option HeldM0) (hk : Keep n₀ q₀ s) :
    Keep n₀ q₀ (State.loseM0 s next) := by
  unfold State.loseM0
  try dsimp only
  repeat' first
    | (with_reducible first | assumption | apply keep_zeroFrame | apply keep_countAgreement)
    | split

theorem keep_startZero {n₀ : Nat} {q₀ : List Instr} (s : State) (host : Bool) (hk : Keep n₀ q₀ s) :
    Keep n₀ q₀ (State.startZero s host) := by
  unfold State.startZero
  try dsimp only
  repeat' first
    | (simp only [keep_mk, List.length_set]; with_reducible apply keep_fold)
    | (with_reducible first | assumption | apply keep_setOn)
    | split

theorem keep_writeZero {n₀ : Nat} {q₀ : List Instr} (s : State) (v : Word) (hk : Keep n₀ q₀ s) :
    Keep n₀ q₀ (State.writeZero s v).1 := by
  unfold State.writeZero
  try dsimp only
  repeat' first
    | (with_reducible first | assumption | apply keep_startZero)
    | split

theorem keep_execZeroAutoStart {n₀ : Nat} {q₀ : List Instr} (s : State) (hk : Keep n₀ q₀ s) :
    Goes n₀ q₀ (execZeroAutoStart s) := by
  unfold execZeroAutoStart
  try dsimp only
  repeat' first
    | (with_reducible first | assumption | apply keep_startZero | apply keep_advanceTo | apply goes_next | apply goes_ite)
    | split

theorem keep_zeroOutcome {n₀ : Nat} {q₀ : List Instr} (s : State) (z : ZeroRun) (hk : Keep n₀ q₀ s) :
    Keep n₀ q₀ (State.zeroOutcome s z) := by
  unfold State.zeroOutcome
  try dsimp only
  repeat' first
    | intro _
    | (simp only [keep_mk, List.length_set]; with_reducible apply keep_fold)
    | (with_reducible first | assumption | apply keep_applyIf | apply keep_flagEvent)
    | split

theorem keep_saveOffsets {n₀ : Nat} {q₀ : List Instr} (s : State) (hk : Keep n₀ q₀ s) :
    Keep n₀ q₀ (State.saveOffsets s) := by
  unfold State.saveOffsets
  try dsimp only
  repeat' first
    | (with_reducible first | assumption | apply keep_saveValue)
    | split

theorem keep_execZeroingDone {n₀ : Nat} {q₀ : List Instr} (s : State) (hk : Keep n₀ q₀ s) :
    Goes n₀ q₀ (execZeroingDone s) := by
  unfold execZeroingDone
  try dsimp only
  repeat' first
    | intro _
    | (simp only [keep_mk, List.length_set]; with_reducible apply keep_fold)
    | (with_reducible first | assumption | apply keep_zeroOutcome | apply keep_applyIf | apply keep_journalWrite | apply keep_saveOffsets)
    | (with_reducible first | apply keep_flag | apply keep_setOn | apply goes_next | apply goes_ite)
    | split

theorem keep_sumCheck {n₀ : Nat} {q₀ : List Instr} (s : State) (hk : Keep n₀ q₀ s) :
    Keep n₀ q₀ (State.sumCheck s) := by
  unfold State.sumCheck
  try dsimp only
  repeat' first
    | intro _
    | (simp only [keep_mk, List.length_set]; with_reducible apply keep_fold)
    | (with_reducible first | assumption | apply keep_applyIf | apply keep_flag | apply keep_setOn | apply keep_flagEvent)
    | (with_reducible first | apply keep_ite)
    | split

theorem keep_calFrame {n₀ : Nat} {q₀ : List Instr} (s : State) (h : HeldM0) (hk : Keep n₀ q₀ s) :
    Keep n₀ q₀ (State.calFrame s h) := by
  unfold State.calFrame
  try dsimp only
  repeat' first
    | (simp only [keep_mk, List.length_set]; with_reducible apply keep_fold)
    | (with_reducible first | assumption | apply keep_ite)
    | split

theorem keep_calMissed {n₀ : Nat} {q₀ : List Instr} (s : State) (hk : Keep n₀ q₀ s) :
    Keep n₀ q₀ (State.calMissed s) := by
  unfold State.calMissed
  try dsimp only
  repeat' first
    | (simp only [keep_mk, List.length_set]; with_reducible apply keep_fold)
    | (with_reducible first | assumption)
    | split

theorem keep_storeGains {n₀ : Nat} {q₀ : List Instr} (s : State) (gStr : ℤ) (gLnk : ℤ) (hk : Keep n₀ q₀ s) :
    Keep n₀ q₀ (State.storeGains s gStr gLnk) := by
  unfold State.storeGains
  try dsimp only
  repeat' first
    | (simp only [keep_mk, List.length_set]; with_reducible apply keep_fold)
    | (with_reducible first | assumption | apply keep_saveValue | apply keep_flag | apply keep_newImage | apply keep_journalWrite)
    | split

theorem keep_writeCal {n₀ : Nat} {q₀ : List Instr} (s : State) (v : Word) (hk : Keep n₀ q₀ s) :
    Keep n₀ q₀ (State.writeCal s v).1 := by
  unfold State.writeCal
  try dsimp only
  repeat' first
    | (simp only [keep_mk, List.length_set]; with_reducible apply keep_fold)
    | (with_reducible first | assumption | apply keep_storeGains)
    | split

theorem keep_execStvCalDone {n₀ : Nat} {q₀ : List Instr} (s : State) (hk : Keep n₀ q₀ s) :
    Goes n₀ q₀ (execStvCalDone s) := by
  unfold execStvCalDone
  try dsimp only
  repeat' first
    | (simp only [keep_mk, List.length_set]; with_reducible apply keep_fold)
    | (with_reducible first | assumption | apply keep_flag | apply keep_storeGains | apply goes_next | apply keep_ite)
    | (with_reducible first | apply goes_ite)
    | split

theorem keep_publishCur {n₀ : Nat} {q₀ : List Instr} (s : State) (seq : Word) (h : HeldM0) (hk : Keep n₀ q₀ s) :
    Keep n₀ q₀ (State.publishCur s seq h) := by
  unfold State.publishCur
  try dsimp only
  repeat' first
    | intro _
    | (simp only [keep_mk, List.length_set]; with_reducible apply keep_fold)
    | (with_reducible first | assumption | apply keep_setInt | apply keep_setOn | apply keep_set | apply keep_put)
    | (with_reducible first | apply keep_publish | apply keep_applyIf | apply keep_flag)
    | split

theorem keep_publishStv {n₀ : Nat} {q₀ : List Instr} (s : State) (seq : Word) (h : HeldM0) (hk : Keep n₀ q₀ s) :
    Keep n₀ q₀ (State.publishStv s seq h) := by
  unfold State.publishStv
  try dsimp only
  repeat' first
    | intro _
    | (with_reducible first | assumption | apply keep_setInt | apply keep_setOn | apply keep_set | apply keep_sumCheck)
    | (with_reducible first | apply keep_applyIf | apply keep_flag | apply keep_publish | apply keep_calFrame)
    | split

/-! ### Contactors.lean -/

theorem keep_onProt {n₀ : Nat} {q₀ : List Instr} (s : State) (f : ProtSt → ProtSt) (hk : Keep n₀ q₀ s) :
    Keep n₀ q₀ (State.onProt s f) := by
  unfold State.onProt
  try dsimp only
  repeat' first
    | (simp only [keep_mk, List.length_set]; with_reducible apply keep_fold)
    | (with_reducible first | assumption)
    | split

theorem keep_setPrtState {n₀ : Nat} {q₀ : List Instr} (s : State) (v : ℕ) (hk : Keep n₀ q₀ s) :
    Keep n₀ q₀ (State.setPrtState s v) := by
  unfold State.setPrtState
  try dsimp only
  repeat' first
    | (with_reducible first | assumption | apply keep_onProt | apply keep_setOn | apply keep_set | apply keep_ite)
    | split

theorem keep_setCond {n₀ : Nat} {q₀ : List Instr} (s : State) (c : ℕ) (v : Bool) (hk : Keep n₀ q₀ s) :
    Keep n₀ q₀ (State.setCond s c v) := by
  unfold State.setCond
  try dsimp only
  repeat' first
    | (with_reducible first | assumption | apply keep_set)
    | split

theorem keep_showTargets {n₀ : Nat} {q₀ : List Instr} (s : State) (hk : Keep n₀ q₀ s) :
    Keep n₀ q₀ (State.showTargets s) := by
  unfold State.showTargets
  try dsimp only
  repeat' first
    | (with_reducible first | assumption | apply keep_onProt | apply keep_set | apply keep_ite)
    | split

theorem keep_showPath {n₀ : Nat} {q₀ : List Instr} (s : State) (path : ℕ) (hk : Keep n₀ q₀ s) :
    Keep n₀ q₀ (State.showPath s path) := by
  unfold State.showPath
  try dsimp only
  repeat' first
    | intro _
    | (with_reducible first | assumption | apply keep_onProt | apply keep_applyIf | apply keep_flag | apply keep_set)
    | (with_reducible first | apply keep_ite)
    | split

theorem keep_noteWeld {n₀ : Nat} {q₀ : List Instr} (s : State) (m : ℕ) (hk : Keep n₀ q₀ s) :
    Keep n₀ q₀ (State.noteWeld s m) := by
  unfold State.noteWeld
  try dsimp only
  repeat' first
    | (with_reducible first | assumption | apply keep_flagEvent | apply keep_set)
    | split

theorem keep_endDisconnect {n₀ : Nat} {q₀ : List Instr} (s : State) (hk : Keep n₀ q₀ s) :
    Keep n₀ q₀ (State.endDisconnect s) := by
  unfold State.endDisconnect
  try dsimp only
  repeat' first
    | intro _
    | (with_reducible first | assumption | apply keep_applyIf | apply keep_setCond)
    | split

theorem keep_finishOpening {n₀ : Nat} {q₀ : List Instr} (s : State) (o : Opening) (hk : Keep n₀ q₀ s) :
    Keep n₀ q₀ (State.finishOpening s o) := by
  unfold State.finishOpening
  try dsimp only
  repeat' first
    | (with_reducible first | assumption | apply keep_onProt | apply keep_showPath | apply keep_endDisconnect | apply keep_setPrtState)
    | (with_reducible first | apply keep_setOn | apply keep_set | apply keep_showTargets | apply keep_flag)
    | split

theorem keep_openNext {n₀ : Nat} {q₀ : List Instr} (k : Nat) (s : State) (hk : Keep n₀ q₀ s) :
    Keep n₀ q₀ (State.openNext k s) := by
  induction k generalizing s with
  | zero => exact hk
  | succ k ih =>
    unfold State.openNext
    repeat' first
      | intro _
      | with_reducible assumption
      | (simp only [keep_mk, List.length_set]; with_reducible apply keep_fold)
      | with_reducible apply keep_finishOpening
      | with_reducible apply keep_onProt
      | with_reducible apply ih
      | with_reducible apply keep_coilRelease
      | with_reducible apply goes_next
      | with_reducible apply keep_ite
      | with_reducible apply goes_ite
      | with_reducible apply keep_foldl
      | split

theorem keep_countUnderload {n₀ : Nat} {q₀ : List Instr} (s : State) (b : Bool) (hk : Keep n₀ q₀ s) :
    Keep n₀ q₀ (State.countUnderload s b) := by
  unfold State.countUnderload
  try dsimp only
  repeat' first
    | intro _
    | (with_reducible first | assumption | apply keep_applyIf | apply keep_countLife)
    | split

theorem keep_startOpening {n₀ : Nat} {q₀ : List Instr} (s : State) (cond : ℕ) (path : ℕ) (underload : Bool) (hk : Keep n₀ q₀ s) :
    Keep n₀ q₀ (State.startOpening s cond path underload) := by
  unfold State.startOpening
  try dsimp only
  repeat' first
    | (with_reducible first | assumption | apply keep_onProt | apply keep_countUnderload | apply keep_openNext | apply keep_showTargets)
    | (with_reducible first | apply keep_set | apply keep_setPrtState)
    | split

theorem keep_weldContact {n₀ : Nat} {q₀ : List Instr} (s : State) (m : ℕ) (hk : Keep n₀ q₀ s) :
    Keep n₀ q₀ (State.weldContact s m) := by
  unfold State.weldContact
  try dsimp only
  repeat' first
    | (with_reducible first | assumption | apply keep_noteWeld | apply keep_startOpening | apply keep_showTargets)
    | (with_reducible first | apply keep_setPrtState | apply keep_ite)
    | split

theorem keep_allCoilsOff {n₀ : Nat} {q₀ : List Instr} (s : State) (hk : Keep n₀ q₀ s) :
    Keep n₀ q₀ (State.allCoilsOff s) := by
  unfold State.allCoilsOff
  try dsimp only
  repeat' first
    | intro _
    | (with_reducible first | assumption | apply keep_coilRelease | apply keep_foldl)
    | split

theorem keep_preFailed {n₀ : Nat} {q₀ : List Instr} (s : State) (out : ℕ) (hk : Keep n₀ q₀ s) :
    Keep n₀ q₀ (State.preFailed s out) := by
  unfold State.preFailed
  try dsimp only
  repeat' first
    | intro _
    | (with_reducible first | assumption | apply keep_applyIf | apply keep_set | apply keep_flag | apply keep_flagEvent)
    | (with_reducible first | apply keep_setOn | apply keep_onProt | apply keep_ite)
    | split

theorem keep_failClosing {n₀ : Nat} {q₀ : List Instr} (s : State) (out : ℕ) (hk : Keep n₀ q₀ s) :
    Keep n₀ q₀ (State.failClosing s out) := by
  unfold State.failClosing
  try dsimp only
  repeat' first
    | (with_reducible first | assumption | apply keep_setOn | apply keep_preFailed | apply keep_onProt | apply keep_openNext)
    | (with_reducible first | apply keep_showTargets | apply keep_setPrtState)
    | split

theorem keep_execCd1HoldEnd {n₀ : Nat} {q₀ : List Instr} (s : State) (hk : Keep n₀ q₀ s) :
    Goes n₀ q₀ (execCd1HoldEnd s) := by
  unfold execCd1HoldEnd
  try dsimp only
  repeat' first
    | intro _
    | (with_reducible first | assumption | apply keep_advanceTo | apply keep_applyIf | apply keep_noteWeld | apply keep_onProt)
    | (with_reducible first | apply keep_coilRelease | apply keep_openNext | apply goes_next | apply keep_ite)
    | split

theorem keep_nowConnected {n₀ : Nat} {q₀ : List Instr} (s : State) (hk : Keep n₀ q₀ s) :
    Keep n₀ q₀ (State.nowConnected s) := by
  unfold State.nowConnected
  try dsimp only
  repeat' first
    | (with_reducible first | assumption | apply keep_setOn | apply keep_onProt | apply keep_showTargets | apply keep_countLife)
    | (with_reducible first | apply keep_flag | apply keep_setPrtState)
    | split

theorem keep_closeMain {n₀ : Nat} {q₀ : List Instr} (s : State) (out : ℕ) (hk : Keep n₀ q₀ s) :
    Keep n₀ q₀ (State.closeMain s out) := by
  unfold State.closeMain
  try dsimp only
  repeat' first
    | (with_reducible first | assumption | apply keep_coilEnergise | apply keep_setPrtState | apply keep_set)
    | split

theorem keep_beginClosing {n₀ : Nat} {q₀ : List Instr} (s : State) (hk : Keep n₀ q₀ s) :
    Keep n₀ q₀ (State.beginClosing s) := by
  unfold State.beginClosing
  try dsimp only
  repeat' first
    | (with_reducible first | assumption | apply keep_onProt | apply keep_coilEnergise | apply keep_setPrtState | apply keep_setOn)
    | split

theorem keep_endWait {n₀ : Nat} {q₀ : List Instr} (s : State) (hk : Keep n₀ q₀ s) :
    Keep n₀ q₀ (State.endWait s) := by
  unfold State.endWait
  try dsimp only
  repeat' first
    | (with_reducible first | assumption | apply keep_flag | apply keep_setOn | apply keep_onProt | apply keep_ite)
    | split

theorem keep_takeGrant {n₀ : Nat} {q₀ : List Instr} (s : State) (hk : Keep n₀ q₀ s) :
    Keep n₀ q₀ (State.takeGrant s) := by
  unfold State.takeGrant
  try dsimp only
  repeat' first
    | (with_reducible first | assumption | apply keep_setOn | apply keep_beginClosing | apply keep_ite)
    | split

theorem keep_beginWait {n₀ : Nat} {q₀ : List Instr} (s : State) (hk : Keep n₀ q₀ s) :
    Keep n₀ q₀ (State.beginWait s) := by
  unfold State.beginWait
  try dsimp only
  repeat' first
    | (with_reducible first | assumption | apply keep_setOn | apply keep_onProt | apply keep_takeGrant | apply keep_ite)
    | split

theorem keep_connect {n₀ : Nat} {q₀ : List Instr} (s : State) (hk : Keep n₀ q₀ s) :
    Keep n₀ q₀ (State.connect s).1 := by
  unfold State.connect
  try dsimp only
  repeat' first
    | (with_reducible first | assumption | apply keep_onProt | apply keep_beginWait)
    | split

theorem keep_endDeferral {n₀ : Nat} {q₀ : List Instr} (s : State) (hk : Keep n₀ q₀ s) :
    Keep n₀ q₀ (State.endDeferral s) := by
  unfold State.endDeferral
  try dsimp only
  repeat' first
    | intro _
    | (with_reducible first | assumption | apply keep_onProt | apply keep_beginWait | apply keep_applyIf | apply keep_takeGrant)
    | (with_reducible first | apply keep_ite)
    | split

theorem keep_preCheck {n₀ : Nat} {q₀ : List Instr} (s : State) (c : Closing) (v0 : ℤ) (t0 : ℕ) (hk : Keep n₀ q₀ s) :
    Keep n₀ q₀ (State.preCheck s c v0 t0) := by
  unfold State.preCheck
  try dsimp only
  repeat' first
    | (with_reducible first | assumption | apply keep_set | apply keep_closeMain | apply keep_failClosing | apply keep_onProt)
    | (with_reducible first | apply keep_ite)
    | split

theorem keep_endOverlap {n₀ : Nat} {q₀ : List Instr} (s : State) (hk : Keep n₀ q₀ s) :
    Keep n₀ q₀ (State.endOverlap s) := by
  unfold State.endOverlap
  try dsimp only
  repeat' first
    | (with_reducible first | assumption | apply keep_startOpening | apply keep_setOn | apply keep_nowConnected | apply keep_ite)
    | split

theorem keep_dropPre {n₀ : Nat} {q₀ : List Instr} (s : State) (hk : Keep n₀ q₀ s) :
    Keep n₀ q₀ (State.dropPre s) := by
  unfold State.dropPre
  try dsimp only
  repeat' first
    | (with_reducible first | assumption | apply keep_coilRelease | apply keep_nowConnected | apply keep_ite)
    | split

theorem keep_closingEval {n₀ : Nat} {q₀ : List Instr} (s : State) (hk : Keep n₀ q₀ s) :
    Keep n₀ q₀ (State.closingEval s) := by
  unfold State.closingEval
  try dsimp only
  repeat' first
    | intro _
    | (with_reducible first | assumption | apply keep_failClosing | apply keep_contactorFault | apply keep_coilEnergise)
    | (with_reducible first | apply keep_setPrtState | apply keep_onProt | apply keep_closeMain | apply keep_preCheck)
    | (with_reducible first | apply keep_dropPre | apply keep_endOverlap | apply keep_ite | apply keep_foldl)
    | split

theorem keep_keepDeadlines {n₀ : Nat} {q₀ : List Instr} (s : State) (hk : Keep n₀ q₀ s) :
    Keep n₀ q₀ (State.keepDeadlines s) := by
  unfold State.keepDeadlines
  try dsimp only
  repeat' first
    | (with_reducible first | assumption | apply keep_onProt)
    | split

theorem keep_pathEval {n₀ : Nat} {q₀ : List Instr} (s : State) (hk : Keep n₀ q₀ s) :
    Keep n₀ q₀ (State.pathEval s) := by
  unfold State.pathEval
  try dsimp only
  repeat' first
    | (with_reducible first | assumption | apply keep_keepDeadlines | apply keep_onProt | apply keep_showTargets | apply keep_showPath)
    | (with_reducible first | apply keep_ite)
    | split

theorem keep_requestEval {n₀ : Nat} {q₀ : List Instr} (s : State) (hk : Keep n₀ q₀ s) :
    Keep n₀ q₀ (State.requestEval s) := by
  unfold State.requestEval
  try dsimp only
  repeat' first
    | (with_reducible first | assumption | apply keep_onProt | apply keep_ite)
    | split

theorem keep_orderlyEval {n₀ : Nat} {q₀ : List Instr} (s : State) (hk : Keep n₀ q₀ s) :
    Keep n₀ q₀ (State.orderlyEval s) := by
  unfold State.orderlyEval
  try dsimp only
  repeat' first
    | (with_reducible first | assumption | apply keep_onProt | apply keep_startOpening | apply keep_ite)
    | split

theorem keep_chargeEval {n₀ : Nat} {q₀ : List Instr} (s : State) (hk : Keep n₀ q₀ s) :
    Keep n₀ q₀ (State.chargeEval s) := by
  unfold State.chargeEval
  try dsimp only
  repeat' first
    | (with_reducible first | assumption | apply keep_onProt | apply keep_safetyEval | apply keep_coilRelease | apply keep_ite)
    | split

theorem keep_holdEval {n₀ : Nat} {q₀ : List Instr} (s : State) (hk : Keep n₀ q₀ s) :
    Keep n₀ q₀ (State.holdEval s) := by
  unfold State.holdEval
  try dsimp only
  repeat' first
    | (with_reducible first | assumption | apply keep_onProt)
    | split

theorem keep_followCells {n₀ : Nat} {q₀ : List Instr} (s : State) (hk : Keep n₀ q₀ s) :
    Keep n₀ q₀ (State.followCells s) := by
  unfold State.followCells
  try dsimp only
  repeat' first
    | (with_reducible first | assumption | apply keep_onProt)
    | split

theorem keep_formConds {n₀ : Nat} {q₀ : List Instr} (s : State) (groupBreach : Bool) (hk : Keep n₀ q₀ s) :
    Keep n₀ q₀ (State.formConds s groupBreach) := by
  unfold State.formConds
  try dsimp only
  repeat' first
    | (with_reducible first | assumption | apply keep_setCond | apply keep_onProt)
    | split

theorem keep_condArises {n₀ : Nat} {q₀ : List Instr} (s : State) (before : ℕ) (hk : Keep n₀ q₀ s) :
    Keep n₀ q₀ (State.condArises s before) := by
  unfold State.condArises
  try dsimp only
  repeat' first
    | intro _
    | (with_reducible first | assumption | apply keep_applyIf | apply keep_endWait | apply keep_failClosing | apply keep_pathEval)
    | split

theorem keep_raiseCond {n₀ : Nat} {q₀ : List Instr} (s : State) (c : ℕ) (hk : Keep n₀ q₀ s) :
    Keep n₀ q₀ (State.raiseCond s c) := by
  unfold State.raiseCond
  try dsimp only
  repeat' first
    | (with_reducible first | assumption | apply keep_condArises | apply keep_setCond)
    | split

theorem keep_protEval {n₀ : Nat} {q₀ : List Instr} (s : State) (groupBreach : Bool) (hk : Keep n₀ q₀ s) :
    Keep n₀ q₀ (State.protEval s groupBreach) := by
  unfold State.protEval
  try dsimp only
  repeat' first
    | (with_reducible first | assumption | apply keep_condArises | apply keep_formConds | apply keep_followCells | apply keep_chargeEval)
    | (with_reducible first | apply keep_orderlyEval | apply keep_pathEval | apply keep_requestEval | apply keep_holdEval)
    | (with_reducible first | apply keep_closingEval)
    | split

theorem keep_allOpen {n₀ : Nat} {q₀ : List Instr} (s : State) (hk : Keep n₀ q₀ s) :
    Keep n₀ q₀ (State.allOpen s) := by
  unfold State.allOpen
  try dsimp only
  repeat' first
    | intro _
    | (with_reducible first | assumption | apply keep_endDisconnect | apply keep_applyIf | apply keep_flag | apply keep_onProt)
    | (with_reducible first | apply keep_ite)
    | split

theorem keep_prtTrip {n₀ : Nat} {q₀ : List Instr} (s : State) (hk : Keep n₀ q₀ s) :
    Keep n₀ q₀ (State.prtTrip s) := by
  unfold State.prtTrip
  try dsimp only
  repeat' first
    | intro _
    | (with_reducible first | assumption | apply keep_endWait | apply keep_setCond | apply keep_applyIf | apply keep_preFailed)
    | (with_reducible first | apply keep_showLowSides | apply keep_allCoilsOff | apply keep_onProt | apply keep_set)
    | (with_reducible first | apply keep_setOn | apply keep_allOpen | apply keep_showTargets | apply keep_showPath)
    | (with_reducible first | apply keep_setPrtState)
    | split

theorem keep_tripDone {n₀ : Nat} {q₀ : List Instr} (s : State) (hk : Keep n₀ q₀ s) :
    Keep n₀ q₀ (State.tripDone s) := by
  unfold State.tripDone
  try dsimp only
  repeat' first
    | (with_reducible first | assumption | apply keep_allOpen | apply keep_showTargets | apply keep_showPath | apply keep_endDisconnect)
    | (with_reducible first | apply keep_setPrtState | apply keep_ite)
    | split

theorem keep_prtRelease {n₀ : Nat} {q₀ : List Instr} (s : State) (hk : Keep n₀ q₀ s) :
    Keep n₀ q₀ (State.prtRelease s) := by
  unfold State.prtRelease
  try dsimp only
  repeat' first
    | (with_reducible first | assumption | apply keep_tripDone | apply keep_showLowSides | apply keep_setCond)
    | split

theorem keep_afterOpen {n₀ : Nat} {q₀ : List Instr} (s : State) (m : ℕ) (hk : Keep n₀ q₀ s) :
    Keep n₀ q₀ (State.afterOpen s m) := by
  unfold State.afterOpen
  try dsimp only
  repeat' first
    | intro _
    | (with_reducible first | assumption | apply keep_onProt | apply keep_applyIf | apply keep_set | apply keep_openNext)
    | (with_reducible first | apply keep_tripDone | apply keep_endOverlap | apply keep_ite)
    | split

theorem keep_afterClose {n₀ : Nat} {q₀ : List Instr} (s : State) (m : ℕ) (hk : Keep n₀ q₀ s) :
    Keep n₀ q₀ (State.afterClose s m) := by
  unfold State.afterClose
  try dsimp only
  repeat' first
    | (with_reducible first | assumption | apply keep_onProt | apply keep_nowConnected | apply keep_ite)
    | split

theorem keep_closedAgain {n₀ : Nat} {q₀ : List Instr} (s : State) (m : ℕ) (hk : Keep n₀ q₀ s) :
    Keep n₀ q₀ (State.closedAgain s m) := by
  unfold State.closedAgain
  try dsimp only
  repeat' first
    | (with_reducible first | assumption | apply keep_onProt)
    | split

theorem keep_openedInTime {n₀ : Nat} {q₀ : List Instr} (s : State) (m : ℕ) (hk : Keep n₀ q₀ s) :
    Keep n₀ q₀ (State.openedInTime s m) := by
  unfold State.openedInTime
  try dsimp only
  repeat' first
    | (with_reducible first | assumption | apply keep_onProt)
    | split

theorem keep_execAuxChange {n₀ : Nat} {q₀ : List Instr} (m : ℕ) (closed : Bool) (s : State) (hk : Keep n₀ q₀ s) :
    Goes n₀ q₀ (execAuxChange m closed s) := by
  unfold execAuxChange
  try dsimp only
  repeat' first
    | intro _
    | (with_reducible first | assumption | apply keep_setOn | apply keep_set | apply keep_applyIf | apply keep_flag)
    | (with_reducible first | apply keep_afterClose | apply keep_closedAgain | apply keep_contactorFault | apply keep_failClosing)
    | (with_reducible first | apply keep_afterOpen | apply keep_openedInTime | apply keep_safetyEval | apply goes_next)
    | (with_reducible first | apply keep_ite | apply goes_ite)
    | split

theorem keep_execAuxCloseTimeout {n₀ : Nat} {q₀ : List Instr} (m : ℕ) (s : State) (hk : Keep n₀ q₀ s) :
    Goes n₀ q₀ (execAuxCloseTimeout m s) := by
  unfold execAuxCloseTimeout
  try dsimp only
  repeat' first
    | intro _
    | (with_reducible first | assumption | apply keep_advanceTo | apply keep_afterClose | apply keep_contactorFault)
    | (with_reducible first | apply keep_safetyEval | apply keep_applyIf | apply keep_failClosing | apply goes_next)
    | (with_reducible first | apply goes_ite)
    | split

theorem keep_execAuxOpenTimeout {n₀ : Nat} {q₀ : List Instr} (m : ℕ) (s : State) (hk : Keep n₀ q₀ s) :
    Goes n₀ q₀ (execAuxOpenTimeout m s) := by
  unfold execAuxOpenTimeout
  try dsimp only
  repeat' first
    | intro _
    | (with_reducible first | assumption | apply keep_advanceTo | apply keep_safetyEval | apply keep_afterOpen | apply keep_applyIf)
    | (with_reducible first | apply keep_weldContact | apply keep_onProt | apply goes_next)
    | split

theorem keep_execPullInEnd {n₀ : Nat} {q₀ : List Instr} (m : ℕ) (s : State) (hk : Keep n₀ q₀ s) :
    Goes n₀ q₀ (execPullInEnd m s) := by
  unfold execPullInEnd
  try dsimp only
  repeat' first
    | (with_reducible first | assumption | apply keep_onProt | apply keep_advanceTo | apply goes_next | apply goes_ite)
    | split

theorem keep_faultOff {n₀ : Nat} {q₀ : List Instr} (s : State) (m : ℕ) (hk : Keep n₀ q₀ s) :
    Keep n₀ q₀ (State.faultOff s m) := by
  unfold State.faultOff
  try dsimp only
  repeat' first
    | intro _
    | (with_reducible first | assumption | apply keep_contactorFault | apply keep_safetyEval | apply keep_applyIf)
    | (with_reducible first | apply keep_failClosing)
    | split

theorem keep_execCoilOvercurrent {n₀ : Nat} {q₀ : List Instr} (m : ℕ) (s : State) (hk : Keep n₀ q₀ s) :
    Goes n₀ q₀ (execCoilOvercurrent m s) := by
  unfold execCoilOvercurrent
  try dsimp only
  repeat' first
    | (with_reducible first | assumption | apply keep_faultOff | apply goes_next | apply goes_ite)
    | split

theorem keep_execCoilCurrentFault {n₀ : Nat} {q₀ : List Instr} (m : ℕ) (s : State) (hk : Keep n₀ q₀ s) :
    Goes n₀ q₀ (execCoilCurrentFault m s) := by
  unfold execCoilCurrentFault
  try dsimp only
  repeat' first
    | (with_reducible first | assumption | apply keep_faultOff | apply goes_next | apply goes_ite)
    | split

theorem keep_execPrechargeTimeout {n₀ : Nat} {q₀ : List Instr} (s : State) (hk : Keep n₀ q₀ s) :
    Goes n₀ q₀ (execPrechargeTimeout s) := by
  unfold execPrechargeTimeout
  try dsimp only
  repeat' first
    | (with_reducible first | assumption | apply keep_failClosing | apply keep_advanceTo | apply goes_next | apply goes_ite)
    | split

theorem keep_execPrechargeOverlapEnd {n₀ : Nat} {q₀ : List Instr} (s : State) (hk : Keep n₀ q₀ s) :
    Goes n₀ q₀ (execPrechargeOverlapEnd s) := by
  unfold execPrechargeOverlapEnd
  try dsimp only
  repeat' first
    | (with_reducible first | assumption | apply keep_dropPre | apply keep_advanceTo | apply goes_next | apply goes_ite)
    | split

theorem keep_execMatchTimeout {n₀ : Nat} {q₀ : List Instr} (s : State) (hk : Keep n₀ q₀ s) :
    Goes n₀ q₀ (execMatchTimeout s) := by
  unfold execMatchTimeout
  try dsimp only
  repeat' first
    | (with_reducible first | assumption | apply keep_failClosing | apply keep_advanceTo | apply goes_next | apply goes_ite)
    | split

theorem keep_execPrechargeCoolEnd {n₀ : Nat} {q₀ : List Instr} (s : State) (hk : Keep n₀ q₀ s) :
    Goes n₀ q₀ (execPrechargeCoolEnd s) := by
  unfold execPrechargeCoolEnd
  try dsimp only
  repeat' first
    | (with_reducible first | assumption | apply keep_setOn | apply keep_onProt | apply keep_advanceTo | apply goes_next)
    | split

theorem keep_execBadChannelsOpen {n₀ : Nat} {q₀ : List Instr} (s : State) (hk : Keep n₀ q₀ s) :
    Goes n₀ q₀ (execBadChannelsOpen s) := by
  unfold execBadChannelsOpen
  try dsimp only
  repeat' first
    | (with_reducible first | assumption | apply keep_startOpening | apply keep_advanceTo | apply goes_next | apply goes_ite)
    | split

theorem keep_execSuspectTimeExpiry {n₀ : Nat} {q₀ : List Instr} (s : State) (hk : Keep n₀ q₀ s) :
    Goes n₀ q₀ (execSuspectTimeExpiry s) := by
  unfold execSuspectTimeExpiry
  try dsimp only
  repeat' first
    | (with_reducible first | assumption | apply keep_raiseCond | apply keep_advanceTo | apply goes_next | apply goes_ite)
    | split

theorem keep_execDegradedCellExpiry {n₀ : Nat} {q₀ : List Instr} (k : ℕ) (i : ℕ) (s : State) (hk : Keep n₀ q₀ s) :
    Goes n₀ q₀ (execDegradedCellExpiry k i s) := by
  unfold execDegradedCellExpiry
  try dsimp only
  repeat' first
    | (with_reducible first | assumption | apply keep_raiseCond | apply keep_advanceTo | apply goes_next | apply goes_ite)
    | split

theorem keep_execCellTempExpiry {n₀ : Nat} {q₀ : List Instr} (k : ℕ) (i : ℕ) (s : State) (hk : Keep n₀ q₀ s) :
    Goes n₀ q₀ (execCellTempExpiry k i s) := by
  unfold execCellTempExpiry
  try dsimp only
  repeat' first
    | (with_reducible first | assumption | apply keep_raiseCond | apply keep_advanceTo | apply goes_next | apply goes_ite)
    | split

theorem keep_execChargeOffTimeout {n₀ : Nat} {q₀ : List Instr} (s : State) (hk : Keep n₀ q₀ s) :
    Goes n₀ q₀ (execChargeOffTimeout s) := by
  unfold execChargeOffTimeout
  try dsimp only
  repeat' first
    | (with_reducible first | assumption | apply keep_safetyEval | apply keep_onProt | apply keep_coilRelease | apply keep_advanceTo)
    | (with_reducible first | apply goes_next)
    | split

theorem keep_execShoreDetChange {n₀ : Nat} {q₀ : List Instr} (level : Bool) (s : State) (hk : Keep n₀ q₀ s) :
    Goes n₀ q₀ (execShoreDetChange level s) := by
  unfold execShoreDetChange
  try dsimp only
  repeat' first
    | intro _
    | (simp only [keep_mk, List.length_set]; with_reducible apply keep_fold)
    | (with_reducible first | assumption | apply keep_applyIf | apply keep_showRoles | apply keep_safetyEval | apply keep_coilRelease)
    | (with_reducible first | apply goes_next | apply goes_ite)
    | split

theorem keep_writePrtCmd {n₀ : Nat} {q₀ : List Instr} (s : State) (v : Word) (hk : Keep n₀ q₀ s) :
    Keep n₀ q₀ (State.writePrtCmd s v).1 := by
  unfold State.writePrtCmd
  try dsimp only
  repeat' first
    | (with_reducible first | assumption | apply keep_connect | apply keep_endDisconnect | apply keep_raiseCond | apply keep_safetyEval)
    | (with_reducible first | apply keep_coilEnergise | apply keep_showTargets | apply keep_onProt | apply keep_set)
    | (with_reducible first | apply keep_setCond)
    | split

theorem keep_writeWeldclr {n₀ : Nat} {q₀ : List Instr} (s : State) (v : Word) (hk : Keep n₀ q₀ s) :
    Keep n₀ q₀ (State.writeWeldclr s v).1 := by
  unfold State.writeWeldclr
  try dsimp only
  repeat' first
    | (with_reducible first | assumption | apply keep_set | apply keep_showTargets | apply keep_setPrtState | apply keep_endDisconnect)
    | (with_reducible first | apply keep_ite)
    | split

theorem keep_execLimitFrame {n₀ : Nat} {q₀ : List Instr} (s : State) (hk : Keep n₀ q₀ s) :
    Goes n₀ q₀ (execLimitFrame s) := by
  unfold execLimitFrame
  try dsimp only
  repeat' first
    | (with_reducible first | assumption | apply keep_advanceTo | apply keep_onProt | apply keep_sendCan | apply goes_next)
    | (with_reducible first | apply keep_ite | apply goes_ite)
    | split

theorem keep_prtFrame {n₀ : Nat} {q₀ : List Instr} (s : State) (coils : List ℕ) (hk : Keep n₀ q₀ s) :
    Keep n₀ q₀ (State.prtFrame s coils) := by
  unfold State.prtFrame
  try dsimp only
  repeat' first
    | intro _
    | (with_reducible first | assumption | apply keep_set | apply keep_setOn | apply keep_coilRelease | apply keep_ite)
    | (with_reducible first | apply keep_foldl)
    | split

/-! ### Sage.lean -/

theorem keep_onSage {n₀ : Nat} {q₀ : List Instr} (s : State) (f : SageSt → SageSt) (hk : Keep n₀ q₀ s) :
    Keep n₀ q₀ (State.onSage s f) := by
  unfold State.onSage
  try dsimp only
  repeat' first
    | (simp only [keep_mk, List.length_set]; with_reducible apply keep_fold)
    | (with_reducible first | assumption)
    | split

theorem keep_setCell {n₀ : Nat} {q₀ : List Instr} (s : State) (key : ℕ) (c : CellSage) (hk : Keep n₀ q₀ s) :
    Keep n₀ q₀ (State.setCell s key c) := by
  unfold State.setCell
  try dsimp only
  repeat' first
    | (with_reducible first | assumption | apply keep_onSage)
    | split

theorem keep_fit {n₀ : Nat} {q₀ : List Instr} (s : State) (f : Fld) (v : ℕ) (hk : Keep n₀ q₀ s) :
    Keep n₀ q₀ (State.fit s f v) := by
  unfold State.fit
  try dsimp only
  repeat' first
    | (with_reducible first | assumption | apply keep_set)
    | split

theorem keep_writebackDue {n₀ : Nat} {q₀ : List Instr} (s : State) (hk : Keep n₀ q₀ s) :
    Keep n₀ q₀ (State.writebackDue s) := by
  unfold State.writebackDue
  try dsimp only
  repeat' first
    | intro _
    | (with_reducible first | assumption | apply keep_onSage | apply keep_applyIf | apply keep_setOn)
    | split

theorem keep_showThroughput {n₀ : Nat} {q₀ : List Instr} (s : State) (hk : Keep n₀ q₀ s) :
    Keep n₀ q₀ (State.showThroughput s) := by
  unfold State.showThroughput
  try dsimp only
  repeat' first
    | (with_reducible first | assumption | apply keep_fit)
    | split

theorem keep_setNoCell {n₀ : Nat} {q₀ : List Instr} (s : State) (f : Fld) (hk : Keep n₀ q₀ s) :
    Keep n₀ q₀ (State.setNoCell s f) := by
  unfold State.setNoCell
  try dsimp only
  repeat' first
    | (with_reducible first | assumption | apply keep_set)
    | split

theorem keep_showSoc {n₀ : Nat} {q₀ : List Instr} (s : State) (outs : List CellOut) (hk : Keep n₀ q₀ s) :
    Keep n₀ q₀ (State.showSoc s outs) := by
  unfold State.showSoc
  try dsimp only
  repeat' first
    | intro _
    | (with_reducible first | assumption | apply keep_fit | apply keep_set | apply keep_setNoCell | apply keep_foldl)
    | split

theorem keep_showCapacity {n₀ : Nat} {q₀ : List Instr} (s : State) (used : List CellOut) (hk : Keep n₀ q₀ s) :
    Keep n₀ q₀ (State.showCapacity s used) := by
  unfold State.showCapacity
  try dsimp only
  repeat' first
    | (with_reducible first | assumption | apply keep_set | apply keep_fit | apply keep_setNoCell)
    | split

theorem keep_countThroughput {n₀ : Nat} {q₀ : List Instr} (s : State) (m : Option SageInput) (x : SageInput) (hk : Keep n₀ q₀ s) :
    Keep n₀ q₀ (State.countThroughput s m x) := by
  unfold State.countThroughput
  try dsimp only
  repeat' first
    | (with_reducible first | assumption | apply keep_onSage)
    | split

theorem keep_restEvents {n₀ : Nat} {q₀ : List Instr} (s : State) (outs : List CellOut) (hk : Keep n₀ q₀ s) :
    Keep n₀ q₀ (State.restEvents s outs) := by
  unfold State.restEvents
  try dsimp only
  repeat' first
    | intro _
    | (with_reducible first | assumption | apply keep_set | apply keep_count | apply keep_flag | apply keep_applyIf)
    | (with_reducible first | apply keep_flagEvent | apply keep_foldl)
    | split

theorem keep_sageSoc {n₀ : Nat} {q₀ : List Instr} (s : State) (x : SageInput) (hk : Keep n₀ q₀ s) :
    Keep n₀ q₀ (State.sageSoc s x) := by
  unfold State.sageSoc
  try dsimp only
  repeat' first
    | intro _
    | (with_reducible first | assumption | apply keep_countThroughput | apply keep_onSage | apply keep_applyIf | apply keep_restEvents)
    | (with_reducible first | apply keep_flag | apply keep_showCapacity | apply keep_showSoc | apply keep_setOn | apply keep_set)
    | (with_reducible first | apply keep_showThroughput | apply keep_publish)
    | split

/-! ### SageLimits.lean -/

theorem keep_decideZ {n₀ : Nat} {q₀ : List Instr} (s : State) (key : ℕ) (t : ℤ) (r : ℚ) (diff : Bool) (meas : ℚ) (hk : Keep n₀ q₀ s) :
    Keep n₀ q₀ (State.decideZ s key t r diff meas).1 := by
  unfold State.decideZ
  try dsimp only
  repeat' first
    | intro _
    | (with_reducible first | assumption | apply keep_count | apply keep_setCell | apply keep_applyIf | apply keep_flagEvent)
    | split

theorem keep_takePoint {n₀ : Nat} {q₀ : List Instr} (s : State) (z : ZStep) (x : SageInput) (late : Bool)
    (hk : Keep n₀ q₀ s) : Keep n₀ q₀ (State.takePoint s z x late).1 := by
  unfold State.takePoint
  refine keep_foldl_fst (fun a e ha => ?_) hk
  dsimp only
  split
  · exact keep_setCell _ _ _ (keep_decideZ _ _ _ _ _ _ ha)
  · exact ha

theorem keep_endStep {n₀ : Nat} {q₀ : List Instr} (s : State) (hk : Keep n₀ q₀ s) :
    Keep n₀ q₀ (State.endStep s) := by
  unfold State.endStep
  try dsimp only
  repeat' first
    | (with_reducible first | assumption | apply keep_onSage)
    | split

theorem keep_sageStepSearch {n₀ : Nat} {q₀ : List Instr} (s : State) (x : SageInput) (before : List (ℕ × ℚ)) (hk : Keep n₀ q₀ s) :
    Keep n₀ q₀ (State.sageStepSearch s x before) := by
  unfold State.sageStepSearch
  try dsimp only
  repeat' first
    | (with_reducible first | assumption | apply keep_takePoint | apply keep_onSage | apply keep_endStep | apply keep_ite)
    | split

theorem keep_rewriteDefaults {n₀ : Nat} {q₀ : List Instr} (s : State) (hk : Keep n₀ q₀ s) :
    Keep n₀ q₀ (State.rewriteDefaults s) := by
  unfold State.rewriteDefaults
  try dsimp only
  repeat' first
    | (with_reducible first | assumption | apply keep_onSage)
    | split

theorem keep_showLimits {n₀ : Nat} {q₀ : List Instr} (s : State) (x : SageInput) (hk : Keep n₀ q₀ s) :
    Keep n₀ q₀ (State.showLimits s x) := by
  unfold State.showLimits
  try dsimp only
  repeat' first
    | intro _
    | (with_reducible first | assumption | apply keep_setNoCell | apply keep_fit | apply keep_set | apply keep_setOn)
    | (with_reducible first | apply keep_applyIf | apply keep_flag | apply keep_onSage | apply keep_ite | apply keep_foldl)
    | split

theorem keep_showOver {n₀ : Nat} {q₀ : List Instr} (s : State) (x : SageInput) (hk : Keep n₀ q₀ s) :
    Keep n₀ q₀ (State.showOver s x) := by
  unfold State.showOver
  try dsimp only
  repeat' first
    | intro _
    | (with_reducible first | assumption | apply keep_setOn | apply keep_set | apply keep_applyIf | apply keep_flag)
    | split

theorem keep_showWarnings {n₀ : Nat} {q₀ : List Instr} (s : State) (x : SageInput) (hk : Keep n₀ q₀ s) :
    Keep n₀ q₀ (State.showWarnings s x) := by
  unfold State.showWarnings
  try dsimp only
  repeat' first
    | intro _
    | (with_reducible first | assumption | apply keep_setInt | apply keep_onSage | apply keep_set | apply keep_flagEvent)
    | (with_reducible first | apply keep_setNoCell | apply keep_ite | apply keep_foldl)
    | split

theorem keep_showNodes {n₀ : Nat} {q₀ : List Instr} (s : State) (hk : Keep n₀ q₀ s) :
    Keep n₀ q₀ (State.showNodes s) := by
  unfold State.showNodes
  try dsimp only
  repeat' first
    | (with_reducible first | assumption | apply keep_onSage)
    | split

theorem keep_execSageStep {n₀ : Nat} {q₀ : List Instr} (s : State) (hk : Keep n₀ q₀ s) :
    Goes n₀ q₀ (execSageStep s) := by
  unfold execSageStep
  try dsimp only
  repeat' first
    | intro _
    | (with_reducible first | assumption | apply keep_sageSoc | apply keep_sageStepSearch | apply keep_showLimits)
    | (with_reducible first | apply keep_set | apply keep_publish | apply keep_showNodes | apply keep_showWarnings)
    | (with_reducible first | apply keep_showOver | apply keep_onSage | apply keep_applyIf | apply keep_writebackDue)
    | (with_reducible first | apply goes_next | apply goes_ite)
    | split

/-! ### SageStore.lean -/

theorem keep_execWritebackPeriod {n₀ : Nat} {q₀ : List Instr} (s : State) (hk : Keep n₀ q₀ s) :
    Goes n₀ q₀ (execWritebackPeriod s) := by
  unfold execWritebackPeriod
  try dsimp only
  repeat' first
    | (with_reducible first | assumption | apply keep_writebackDue | apply keep_advanceTo | apply goes_next | apply goes_ite)
    | split

theorem keep_writeSgeCmd {n₀ : Nat} {q₀ : List Instr} (s : State) (v : Word) (hk : Keep n₀ q₀ s) :
    Keep n₀ q₀ (State.writeSgeCmd s v).1 := by
  unfold State.writeSgeCmd
  try dsimp only
  repeat' first
    | (with_reducible first | assumption | apply keep_writebackDue)
    | split

theorem keep_execWritebackStart {n₀ : Nat} {q₀ : List Instr} (s : State) (hk : Keep n₀ q₀ s) :
    Goes n₀ q₀ (execWritebackStart s) := by
  unfold execWritebackStart
  try dsimp only
  repeat' first
    | (with_reducible first | assumption | apply keep_advanceTo | apply keep_acquireLease | apply keep_onSage | apply keep_setOn)
    | (with_reducible first | apply goes_next | apply goes_ite)
    | split

theorem keep_writebackStored {n₀ : Nat} {q₀ : List Instr} (s : State) (c : SageCopy) (hk : Keep n₀ q₀ s) :
    Keep n₀ q₀ (State.writebackStored s c) := by
  unfold State.writebackStored
  try dsimp only
  repeat' first
    | (with_reducible first | assumption | apply keep_onSage | apply keep_flag | apply keep_newImage | apply keep_setOn)
    | (with_reducible first | apply keep_set)
    | split

theorem keep_writebackBroken {n₀ : Nat} {q₀ : List Instr} (s : State) (hk : Keep n₀ q₀ s) :
    Keep n₀ q₀ (State.writebackBroken s) := by
  unfold State.writebackBroken
  try dsimp only
  repeat' first
    | (with_reducible first | assumption | apply keep_onSage | apply keep_setOn | apply keep_ite)
    | split

theorem keep_execWritebackDone {n₀ : Nat} {q₀ : List Instr} (s : State) (hk : Keep n₀ q₀ s) :
    Goes n₀ q₀ (execWritebackDone s) := by
  unfold execWritebackDone
  try dsimp only
  repeat' first
    | (with_reducible first | assumption | apply keep_acquireLease | apply keep_releasePort | apply keep_writebackStored)
    | (with_reducible first | apply goes_next | apply keep_ite | apply goes_ite)
    | split

theorem keep_forgetCells {n₀ : Nat} {q₀ : List Instr} (s : State) (hk : Keep n₀ q₀ s) :
    Keep n₀ q₀ (State.forgetCells s) := by
  unfold State.forgetCells
  try dsimp only
  repeat' first
    | (with_reducible first | assumption | apply keep_onSage)
    | split

theorem keep_takeCopy {n₀ : Nat} {q₀ : List Instr} (s : State) (c : SageCopy) (hk : Keep n₀ q₀ s) :
    Keep n₀ q₀ (State.takeCopy s c) := by
  unfold State.takeCopy
  try dsimp only
  repeat' first
    | (with_reducible first | assumption | apply keep_onSage)
    | split

theorem keep_sageStart {n₀ : Nat} {q₀ : List Instr} (s : State) (okA : Bool) (okB : Bool) (wake : Bool) (hk : Keep n₀ q₀ s) :
    Keep n₀ q₀ (State.sageStart s okA okB wake) := by
  unfold State.sageStart
  try dsimp only
  repeat' first
    | (with_reducible first | assumption | apply keep_onSage | apply keep_set | apply keep_takeCopy | apply keep_forgetCells)
    | (with_reducible first | apply keep_setOn | apply keep_showNodes | apply keep_showThroughput | apply keep_flagEvent)
    | (with_reducible first | apply keep_listed | apply keep_ite)
    | split

theorem keep_writeTblSel {n₀ : Nat} {q₀ : List Instr} (s : State) (v : Word) (hk : Keep n₀ q₀ s) :
    Keep n₀ q₀ (State.writeTblSel s v).1 := by
  unfold State.writeTblSel
  try dsimp only
  repeat' first
    | (with_reducible first | assumption | apply keep_set)
    | split

theorem keep_advanceEntry {n₀ : Nat} {q₀ : List Instr} (s : State) (hk : Keep n₀ q₀ s) :
    Keep n₀ q₀ (State.advanceEntry s) := by
  unfold State.advanceEntry
  try dsimp only
  repeat' first
    | (with_reducible first | assumption | apply keep_set)
    | split

theorem keep_writeTblData {n₀ : Nat} {q₀ : List Instr} (s : State) (v : Word) (hk : Keep n₀ q₀ s) :
    Keep n₀ q₀ (State.writeTblData s v) := by
  unfold State.writeTblData
  try dsimp only
  repeat' first
    | (with_reducible first | assumption | apply keep_advanceEntry | apply keep_onSage)
    | split

theorem keep_writeTblCmd {n₀ : Nat} {q₀ : List Instr} (s : State) (v : Word) (hk : Keep n₀ q₀ s) :
    Keep n₀ q₀ (State.writeTblCmd s v).1 := by
  unfold State.writeTblCmd
  try dsimp only
  repeat' first
    | (with_reducible first | assumption | apply keep_onSage | apply keep_flag | apply keep_journalWrite)
    | split

theorem keep_resetCell {n₀ : Nat} {q₀ : List Instr} (s : State) (key : ℕ) (hk : Keep n₀ q₀ s) :
    Keep n₀ q₀ (State.resetCell s key) := by
  unfold State.resetCell
  try dsimp only
  repeat' first
    | (with_reducible first | assumption | apply keep_setCell)
    | split

theorem keep_writeSgcReset {n₀ : Nat} {q₀ : List Instr} (s : State) (l : Link) (v : Word) (hk : Keep n₀ q₀ s) :
    Keep n₀ q₀ (State.writeSgcReset s l v).1 := by
  unfold State.writeSgcReset
  try dsimp only
  repeat' first
    | intro _
    | (with_reducible first | assumption | apply keep_resetCell | apply keep_foldl)
    | split

theorem keep_writeSgcBank {n₀ : Nat} {q₀ : List Instr} (s : State) (l : Link) (v : Word) (hk : Keep n₀ q₀ s) :
    Keep n₀ q₀ (State.writeSgcBank s l v).1 := by
  unfold State.writeSgcBank
  try dsimp only
  repeat' first
    | (with_reducible first | assumption | apply keep_onLink)
    | split

theorem keep_writeZsel {n₀ : Nat} {q₀ : List Instr} (s : State) (l : Link) (v : Word) (hk : Keep n₀ q₀ s) :
    Keep n₀ q₀ (State.writeZsel s l v).1 := by
  unfold State.writeZsel
  try dsimp only
  repeat' first
    | (with_reducible first | assumption | apply keep_onLink)
    | split

end Sys2Proof.Machine
end

