-- ==== Sys2Proof/Laws/Keep3.lean ====
section
/-! SUPPORT. What the operations of LoadSwitch.lean, Ring.lean, Auth.lean, Commit.lean, FaultLine.lean, Diagnostics.lean keep (see `Keep`). -/
set_option linter.unreachableTactic false
set_option linter.unusedTactic false
set_option linter.unusedSimpArgs false
set_option linter.unusedVariables false
namespace Sys2Proof.Machine
open Host

/-! ### LoadSwitch.lean -/

theorem keep_onLs {n₀ : Nat} {q₀ : List Instr} (s : State) (f : LoadSt → LoadSt) (hf : ∀ l : LoadSt, l.chans.length = 16 → (f l).chans.length = 16) (hk : Keep n₀ q₀ s) :
    Keep n₀ q₀ (State.onLs s f) :=
  keep_of_eq (s := s) rfl rfl rfl rfl hk fun h => ⟨h.1, h.2.1, hf _ h.2.2.1, h.2.2.2⟩

theorem keep_showChans {n₀ : Nat} {q₀ : List Instr} (s : State) (hk : Keep n₀ q₀ s) :
    Keep n₀ q₀ (State.showChans s) := by
  unfold State.showChans
  try dsimp only
  repeat' first
    | intro _
    | (with_reducible first | assumption | apply keep_setOn | apply keep_foldl)
    | split

theorem keep_onChan {n₀ : Nat} {q₀ : List Instr} (s : State) (n : Nat) (f : ChanSt → ChanSt) (hk : Keep n₀ q₀ s) :
    Keep n₀ q₀ (State.onChan s n f) := by
  unfold State.onChan
  repeat' first
    | (simp only [keep_mk, List.length_set]; with_reducible apply keep_fold)
    | (with_reducible refine keep_onLs _ _ (fun _ h => by simp [h, chanList]) ?_)
    | (with_reducible first | assumption | apply keep_showChans)

theorem keep_dropOpenLoad {n₀ : Nat} {q₀ : List Instr} (s : State) (n : ℕ) (hk : Keep n₀ q₀ s) :
    Keep n₀ q₀ (State.dropOpenLoad s n) := by
  unfold State.dropOpenLoad
  try dsimp only
  repeat' first
    | (with_reducible first | assumption | apply keep_flag | apply keep_onChan | apply keep_ite)
    | split

theorem keep_chanTurnOn {n₀ : Nat} {q₀ : List Instr} (s : State) (n : ℕ) (hk : Keep n₀ q₀ s) :
    Keep n₀ q₀ (State.chanTurnOn s n) := by
  unfold State.chanTurnOn
  try dsimp only
  repeat' first
    | (with_reducible first | assumption | apply keep_onChan | apply keep_dropOpenLoad)
    | split

theorem keep_lowerLimit {n₀ : Nat} {q₀ : List Instr} (s : State) (before : State) (n : ℕ) (hk : Keep n₀ q₀ s) :
    Keep n₀ q₀ (State.lowerLimit s before n) := by
  unfold State.lowerLimit
  try dsimp only
  repeat' first
    | (with_reducible first | assumption | apply keep_onChan | apply keep_ite)
    | split

theorem keep_chanTurnOff {n₀ : Nat} {q₀ : List Instr} (s : State) (n : ℕ) (hk : Keep n₀ q₀ s) :
    Keep n₀ q₀ (State.chanTurnOff s n) := by
  unfold State.chanTurnOff
  try dsimp only
  repeat' first
    | (with_reducible first | assumption | apply keep_onChan | apply keep_ite)
    | split

theorem keep_chanLatch {n₀ : Nat} {q₀ : List Instr} (s : State) (n : ℕ) (hk : Keep n₀ q₀ s) :
    Keep n₀ q₀ (State.chanLatch s n) := by
  unfold State.chanLatch
  try dsimp only
  repeat' first
    | (with_reducible first | assumption | apply keep_flagEvent | apply keep_onChan | apply keep_ite)
    | split

theorem keep_chanFault {n₀ : Nat} {q₀ : List Instr} (s : State) (n : ℕ) (cause : ℕ) (hk : Keep n₀ q₀ s) :
    Keep n₀ q₀ (State.chanFault s n cause) := by
  unfold State.chanFault
  try dsimp only
  repeat' first
    | (with_reducible first | assumption | apply keep_flagEvent | apply keep_onChan | apply keep_chanLatch | apply keep_ite)
    | split

theorem keep_loadsOff {n₀ : Nat} {q₀ : List Instr} (s : State) (hk : Keep n₀ q₀ s) :
    Keep n₀ q₀ (State.loadsOff s) := by
  unfold State.loadsOff
  try dsimp only
  repeat' first
    | intro _
    | (with_reducible first | assumption | apply keep_chanTurnOff | apply keep_set | apply keep_foldl)
    | split

theorem keep_writeLsOut {n₀ : Nat} {q₀ : List Instr} (s : State) (i : ℕ) (v : Word) (hk : Keep n₀ q₀ s) :
    Keep n₀ q₀ (State.writeLsOut s i v).1 := by
  unfold State.writeLsOut
  try dsimp only
  repeat' first
    | intro _
    | (with_reducible first | assumption | apply keep_set | apply keep_chanTurnOn | apply keep_chanTurnOff | apply keep_ite)
    | (with_reducible first | apply keep_foldl)
    | split

theorem keep_clearChan {n₀ : Nat} {q₀ : List Instr} (s : State) (n : ℕ) (hk : Keep n₀ q₀ s) :
    Keep n₀ q₀ (State.clearChan s n) := by
  unfold State.clearChan
  try dsimp only
  repeat' first
    | (with_reducible first | assumption | apply keep_setOn | apply keep_onChan)
    | split

theorem keep_writeLsClr {n₀ : Nat} {q₀ : List Instr} (s : State) (i : ℕ) (v : Word) (hk : Keep n₀ q₀ s) :
    Keep n₀ q₀ (State.writeLsClr s i v).1 := by
  unfold State.writeLsClr
  try dsimp only
  repeat' first
    | intro _
    | (with_reducible first | assumption | apply keep_clearChan | apply keep_foldl)
    | split

theorem keep_execInrushEnd {n₀ : Nat} {q₀ : List Instr} (n : ℕ) (s : State) (hk : Keep n₀ q₀ s) :
    Goes n₀ q₀ (execInrushEnd n s) := by
  unfold execInrushEnd
  try dsimp only
  repeat' first
    | (with_reducible first | assumption | apply keep_onChan | apply keep_advanceTo | apply goes_next | apply goes_ite)
    | split

theorem keep_execLimitTime {n₀ : Nat} {q₀ : List Instr} (x : InLimit) (s : State) (hk : Keep n₀ q₀ s) :
    Goes n₀ q₀ (execLimitTime x s) := by
  unfold execLimitTime
  try dsimp only
  repeat' first
    | (with_reducible first | assumption | apply keep_chanFault | apply keep_advanceTo | apply goes_next | apply goes_ite)
    | split

theorem keep_execOpenLoadChange {n₀ : Nat} {q₀ : List Instr} (n : ℕ) (above : Bool) (s : State) (hk : Keep n₀ q₀ s) :
    Goes n₀ q₀ (execOpenLoadChange n above s) := by
  unfold execOpenLoadChange
  try dsimp only
  repeat' first
    | (with_reducible first | assumption | apply keep_flag | apply keep_onChan | apply keep_advanceTo | apply goes_next)
    | (with_reducible first | apply goes_ite)
    | split

theorem keep_execZoneHot {n₀ : Nat} {q₀ : List Instr} (z : ℕ) (even : ℕ) (odd : ℕ) (s : State) (hk : Keep n₀ q₀ s) :
    Goes n₀ q₀ (execZoneHot z even odd s) := by
  unfold execZoneHot
  try dsimp only
  repeat' first
    | (with_reducible refine keep_onLs _ _ (fun _ h => by simp [h, chanList]) ?_)
    | (with_reducible first | assumption | apply keep_flag | apply keep_showChans | apply keep_chanFault | apply goes_next)
    | (with_reducible first | apply goes_ite)
    | split

theorem keep_execZoneSecondCheck {n₀ : Nat} {q₀ : List Instr} (z : ℕ) (still : Bool) (s : State) (hk : Keep n₀ q₀ s) :
    Goes n₀ q₀ (execZoneSecondCheck z still s) := by
  unfold execZoneSecondCheck
  try dsimp only
  repeat' first
    | (with_reducible refine keep_onLs _ _ (fun _ h => by simp [h, chanList]) ?_)
    | (with_reducible first | assumption | apply keep_advanceTo | apply keep_flag | apply keep_chanFault | apply goes_next)
    | (with_reducible first | apply goes_ite)
    | split

theorem keep_execZoneCool {n₀ : Nat} {q₀ : List Instr} (z : ℕ) (s : State) (hk : Keep n₀ q₀ s) :
    Goes n₀ q₀ (execZoneCool z s) := by
  unfold execZoneCool
  try dsimp only
  repeat' first
    | (with_reducible refine keep_onLs _ _ (fun _ h => by simp [h, chanList]) ?_)
    | (with_reducible first | assumption | apply keep_showChans | apply goes_next | apply goes_ite)
    | split

theorem keep_sensorFault {n₀ : Nat} {q₀ : List Instr} (s : State) (z : ℕ) (hk : Keep n₀ q₀ s) :
    Keep n₀ q₀ (State.sensorFault s z) := by
  unfold State.sensorFault
  try dsimp only
  repeat' first
    | intro _
    | (with_reducible refine keep_onLs _ _ (fun _ h => by simp [h, chanList]) ?_)
    | (with_reducible first | assumption | apply keep_flagEvent | apply keep_chanLatch | apply keep_onChan | apply keep_foldl)
    | split

theorem keep_execZoneSensorFault {n₀ : Nat} {q₀ : List Instr} (z : ℕ) (s : State) (hk : Keep n₀ q₀ s) :
    Goes n₀ q₀ (execZoneSensorFault z s) := by
  unfold execZoneSensorFault
  try dsimp only
  repeat' first
    | (with_reducible first | assumption | apply keep_sensorFault | apply goes_next | apply goes_ite)
    | split

theorem keep_execShed {n₀ : Nat} {q₀ : List Instr} (s : State) (hk : Keep n₀ q₀ s) :
    Goes n₀ q₀ (execShed s) := by
  unfold execShed
  try dsimp only
  repeat' first
    | (with_reducible refine keep_onLs _ _ (fun _ h => by simp [h, chanList]) ?_)
    | (with_reducible first | assumption | apply keep_flagEvent | apply keep_onChan | apply keep_chanLatch | apply goes_next)
    | (with_reducible first | apply goes_ite)
    | split

theorem keep_endWaiting {n₀ : Nat} {q₀ : List Instr} (s : State) (n : ℕ) (hk : Keep n₀ q₀ s) :
    Keep n₀ q₀ (State.endWaiting s n) := by
  unfold State.endWaiting
  try dsimp only
  repeat' first
    | (with_reducible first | assumption | apply keep_onChan | apply keep_chanLatch | apply keep_ite)
    | split

theorem keep_execLsRestart {n₀ : Nat} {q₀ : List Instr} (n : ℕ) (s : State) (hk : Keep n₀ q₀ s) :
    Goes n₀ q₀ (execLsRestart n s) := by
  unfold execLsRestart
  try dsimp only
  repeat' first
    | (simp only [keep_mk, List.length_set]; with_reducible apply keep_fold)
    | (with_reducible first | assumption | apply keep_endWaiting | apply keep_onChan | apply keep_chanTurnOn | apply goes_next)
    | (with_reducible first | apply goes_ite)
    | split

theorem keep_execLeftReload {n₀ : Nat} {q₀ : List Instr} (n : ℕ) (s : State) (hk : Keep n₀ q₀ s) :
    Goes n₀ q₀ (execLeftReload n s) := by
  unfold execLeftReload
  try dsimp only
  repeat' first
    | (with_reducible first | assumption | apply keep_advanceTo | apply keep_onChan | apply goes_next | apply goes_ite)
    | split

theorem keep_loadsAtRun {n₀ : Nat} {q₀ : List Instr} (s : State) (zones : List ℕ) (hk : Keep n₀ q₀ s) :
    Keep n₀ q₀ (State.loadsAtRun s zones) := by
  unfold State.loadsAtRun
  try dsimp only
  repeat' first
    | intro _
    | (with_reducible refine keep_onLs _ _ (fun _ h => by simp [h, chanList]) ?_)
    | (with_reducible first | assumption | apply keep_showChans | apply keep_sensorFault | apply keep_foldl)
    | split

theorem keep_publishLoads {n₀ : Nat} {q₀ : List Instr} (s : State) (seq : Word) (ma : List ℕ) (peaks : List ℕ) (zones : List ℤ) (hk : Keep n₀ q₀ s) :
    Keep n₀ q₀ (State.publishLoads s seq ma peaks zones) := by
  unfold State.publishLoads
  try dsimp only
  repeat' first
    | intro _
    | (with_reducible refine keep_onLs _ _ (fun _ h => by simp [h, chanList]) ?_)
    | (with_reducible first | assumption | apply keep_onChan | apply keep_dropOpenLoad | apply keep_endWaiting | apply keep_put)
    | (with_reducible first | apply keep_set | apply keep_publish | apply keep_ite | apply keep_foldl)
    | split

/-! ### Ring.lean -/

theorem keep_fetchFailed {n₀ : Nat} {q₀ : List Instr} (s : State) (hk : Keep n₀ q₀ s) :
    Keep n₀ q₀ (State.fetchFailed s) := by
  unfold State.fetchFailed
  try dsimp only
  repeat' first
    | (with_reducible first | assumption | apply keep_flag | apply keep_set | apply keep_onRing)
    | split

theorem keep_dropMember {n₀ : Nat} {q₀ : List Instr} (s : State) (a : ℕ) (hk : Keep n₀ q₀ s) :
    Keep n₀ q₀ (State.dropMember s a) := by
  unfold State.dropMember
  try dsimp only
  repeat' first
    | intro _
    | (with_reducible first | assumption | apply keep_flag | apply keep_onRing | apply keep_applyIf | apply keep_fetchFailed)
    | split

theorem keep_hearHolder {n₀ : Nat} {q₀ : List Instr} (s : State) (m : RingMsg) (hk : Keep n₀ q₀ s) :
    Keep n₀ q₀ (State.hearHolder s m) := by
  unfold State.hearHolder
  try dsimp only
  repeat' first
    | intro _
    | (with_reducible first | assumption | apply keep_newImage | apply keep_onRing | apply keep_applyIf | apply keep_set)
    | (with_reducible first | apply keep_setOn | apply keep_ite)
    | split

theorem keep_hearMember {n₀ : Nat} {q₀ : List Instr} (s : State) (m : RingMsg) (hk : Keep n₀ q₀ s) :
    Keep n₀ q₀ (State.hearMember s m) := by
  unfold State.hearMember
  try dsimp only
  repeat' first
    | intro _
    | (with_reducible first | assumption | apply keep_applyIf | apply keep_flag | apply keep_onRing | apply keep_hearHolder)
    | (with_reducible first | apply keep_takeGrant | apply keep_ite)
    | split

theorem keep_noteVoice {n₀ : Nat} {q₀ : List Instr} (s : State) (m : RingMsg) (hk : Keep n₀ q₀ s) :
    Keep n₀ q₀ (State.noteVoice s m) := by
  unfold State.noteVoice
  try dsimp only
  repeat' first
    | (with_reducible first | assumption | apply keep_onRing)
    | split

theorem keep_execRingStatusMsg {n₀ : Nat} {q₀ : List Instr} (m : RingMsg) (s : State) (hk : Keep n₀ q₀ s) :
    Goes n₀ q₀ (execRingStatusMsg m s) := by
  unfold execRingStatusMsg
  try dsimp only
  repeat' first
    | (with_reducible first | assumption | apply keep_onRing | apply keep_noteVoice | apply keep_setOn | apply keep_set)
    | (with_reducible first | apply keep_flagEvent | apply keep_dropMember | apply keep_hearMember | apply goes_next)
    | (with_reducible first | apply goes_ite)
    | split

theorem keep_execMemberLost {n₀ : Nat} {q₀ : List Instr} (a : ℕ) (s : State) (hk : Keep n₀ q₀ s) :
    Goes n₀ q₀ (execMemberLost a s) := by
  unfold execMemberLost
  try dsimp only
  repeat' first
    | (with_reducible first | assumption | apply keep_dropMember | apply keep_advanceTo | apply goes_next)
    | split

theorem keep_setHead {n₀ : Nat} {q₀ : List Instr} (s : State) (h : Option ℕ) (hk : Keep n₀ q₀ s) :
    Keep n₀ q₀ (State.setHead s h) := by
  unfold State.setHead
  try dsimp only
  repeat' first
    | (with_reducible first | assumption | apply keep_set | apply keep_onRing | apply keep_setOn | apply keep_flagEvent)
    | (with_reducible first | apply keep_ite)
    | split

theorem keep_decideGrant {n₀ : Nat} {q₀ : List Instr} (s : State) (hk : Keep n₀ q₀ s) :
    Keep n₀ q₀ (State.decideGrant s) := by
  unfold State.decideGrant
  try dsimp only
  repeat' first
    | (with_reducible first | assumption | apply keep_onRing | apply keep_ite)
    | split

theorem keep_grants {n₀ : Nat} {q₀ : List Instr} (s : State) (hk : Keep n₀ q₀ s) :
    Keep n₀ q₀ (State.grants s) := by
  unfold State.grants
  try dsimp only
  repeat' first
    | (with_reducible first | assumption | apply keep_takeGrant | apply keep_decideGrant | apply keep_onRing | apply keep_ite)
    | split

theorem keep_execGrantTimeout {n₀ : Nat} {q₀ : List Instr} (s : State) (hk : Keep n₀ q₀ s) :
    Goes n₀ q₀ (execGrantTimeout s) := by
  unfold execGrantTimeout
  try dsimp only
  repeat' first
    | (with_reducible first | assumption | apply keep_endWait | apply keep_advanceTo | apply goes_next)
    | split

theorem keep_showRing {n₀ : Nat} {q₀ : List Instr} (s : State) (hk : Keep n₀ q₀ s) :
    Keep n₀ q₀ (State.showRing s) := by
  unfold State.showRing
  try dsimp only
  repeat' first
    | intro _
    | (with_reducible first | assumption | apply keep_set | apply keep_applyIf | apply keep_flag | apply keep_setOn)
    | (with_reducible first | apply keep_setNoCell | apply keep_fit | apply keep_onRing | apply keep_ite)
    | split

theorem keep_hearSystem {n₀ : Nat} {q₀ : List Instr} (s : State) (port : ℕ) (f : CanFrame) (hk : Keep n₀ q₀ s) :
    Keep n₀ q₀ (State.hearSystem s port f) := by
  unfold State.hearSystem
  try dsimp only
  repeat' first
    | (with_reducible first | assumption | apply keep_onRing | apply keep_ite)
    | split

theorem keep_sendSystem {n₀ : Nat} {q₀ : List Instr} (s : State) (hk : Keep n₀ q₀ s) :
    Keep n₀ q₀ (State.sendSystem s) := by
  unfold State.sendSystem
  try dsimp only
  repeat' first
    | (with_reducible first | assumption | apply keep_onRing | apply keep_sendCan)
    | split

theorem keep_execSystemFrame {n₀ : Nat} {q₀ : List Instr} (s : State) (hk : Keep n₀ q₀ s) :
    Goes n₀ q₀ (execSystemFrame s) := by
  unfold execSystemFrame
  try dsimp only
  repeat' first
    | intro _
    | (with_reducible first | assumption | apply keep_advanceTo | apply keep_withSlot | apply keep_onRing | apply keep_sendSystem)
    | (with_reducible first | apply goes_next | apply keep_ite | apply goes_ite)
    | split

theorem keep_execRingCycle {n₀ : Nat} {q₀ : List Instr} (s : State) (hk : Keep n₀ q₀ s) :
    Goes n₀ q₀ (execRingCycle s) := by
  unfold execRingCycle
  try dsimp only
  repeat' first
    | intro _
    | (with_reducible first | assumption | apply keep_advanceTo | apply keep_onRing | apply keep_applyIf | apply keep_grants)
    | (with_reducible first | apply keep_showRing | apply keep_setHead | apply keep_sendImage | apply goes_next | apply goes_ite)
    | split

theorem keep_leaveRing {n₀ : Nat} {q₀ : List Instr} (s : State) (hk : Keep n₀ q₀ s) :
    Keep n₀ q₀ (State.leaveRing s) := by
  unfold State.leaveRing
  try dsimp only
  repeat' first
    | (with_reducible first | assumption | apply keep_onRing)
    | split

theorem keep_execMirrorReceived {n₀ : Nat} {q₀ : List Instr} (source : ℕ) (serial : ℕ) (seq : ℕ) (image : MirrorImage) (ok : Bool) (s : State) (hk : Keep n₀ q₀ s) :
    Goes n₀ q₀ (execMirrorReceived source serial seq image ok s) := by
  unfold execMirrorReceived
  try dsimp only
  repeat' first
    | (with_reducible first | assumption | apply keep_onRing | apply keep_releasePort | apply keep_acquireLease | apply keep_flag)
    | (with_reducible first | apply goes_next | apply keep_ite | apply goes_ite)
    | split

theorem keep_execMirrorHeaderReply {n₀ : Nat} {q₀ : List Instr} (serial : Option ℕ) (s : State) (hk : Keep n₀ q₀ s) :
    Goes n₀ q₀ (execMirrorHeaderReply serial s) := by
  unfold execMirrorHeaderReply
  try dsimp only
  repeat' first
    | (with_reducible first | assumption | apply keep_onRing | apply keep_flagEvent | apply keep_setOn | apply goes_next)
    | (with_reducible first | apply goes_ite)
    | split

theorem keep_writeKrgCmd {n₀ : Nat} {q₀ : List Instr} (s : State) (l : Link) (v : Word) (hk : Keep n₀ q₀ s) :
    Keep n₀ q₀ (State.writeKrgCmd s l v).1 := by
  unfold State.writeKrgCmd
  try dsimp only
  repeat' first
    | intro _
    | (with_reducible first | assumption | apply keep_onRing | apply keep_set | apply keep_setOn | apply keep_applyIf)
    | (with_reducible first | apply keep_newImage | apply keep_endWait)
    | split

/-! ### Auth.lean -/

theorem keep_showAnchor {n₀ : Nat} {q₀ : List Instr} (s : State) (hk : Keep n₀ q₀ s) :
    Keep n₀ q₀ (State.showAnchor s) := by
  unfold State.showAnchor
  try dsimp only
  repeat' first
    | (with_reducible first | assumption | apply keep_put)
    | split

theorem keep_enrolId {n₀ : Nat} {q₀ : List Instr} (s : State) (slot : ℕ) (id : ℕ) (hk : Keep n₀ q₀ s) :
    Keep n₀ q₀ (State.enrolId s slot id) := by
  unfold State.enrolId
  try dsimp only
  repeat' first
    | (with_reducible first | assumption | apply keep_newImage | apply keep_journalWrite | apply keep_onAut)
    | split

theorem keep_writeAutCmd {n₀ : Nat} {q₀ : List Instr} (s : State) (l : Link) (v : Word) (hk : Keep n₀ q₀ s) :
    Keep n₀ q₀ (State.writeAutCmd s l v).1 := by
  unfold State.writeAutCmd
  try dsimp only
  repeat' first
    | intro _
    | (with_reducible first | assumption | apply keep_journalWrite | apply keep_showAnchor | apply keep_onAut | apply keep_roundOfAll)
    | (with_reducible first | apply keep_newImage | apply keep_flag | apply keep_enrolId | apply keep_foldl)
    | split

theorem keep_writeKeydata {n₀ : Nat} {q₀ : List Instr} (s : State) (v : Word) (hk : Keep n₀ q₀ s) :
    Keep n₀ q₀ (State.writeKeydata s v) := by
  unfold State.writeKeydata
  try dsimp only
  repeat' first
    | (with_reducible first | assumption | apply keep_set | apply keep_onAut)
    | split

theorem keep_writeAutSel {n₀ : Nat} {q₀ : List Instr} (s : State) (l : Link) (v : Word) (hk : Keep n₀ q₀ s) :
    Keep n₀ q₀ (State.writeAutSel s l v).1 := by
  unfold State.writeAutSel
  try dsimp only
  repeat' first
    | (with_reducible first | assumption | apply keep_onLink)
    | split

theorem keep_pollSlot {n₀ : Nat} {q₀ : List Instr} (s : State) (j : ℕ) (id : ℕ) (hk : Keep n₀ q₀ s) :
    Keep n₀ q₀ (State.pollSlot s j id) := by
  unfold State.pollSlot
  try dsimp only
  repeat' first
    | intro _
    | (with_reducible first | assumption | apply keep_onAut | apply keep_applyIf | apply keep_joinRound)
    | split

theorem keep_execAutPoll {n₀ : Nat} {q₀ : List Instr} (ids : List (ℕ × ℕ)) (s : State) (hk : Keep n₀ q₀ s) :
    Goes n₀ q₀ (execAutPoll ids s) := by
  unfold execAutPoll
  try dsimp only
  repeat' first
    | intro _
    | (with_reducible first | assumption | apply keep_advanceTo | apply keep_onAut | apply keep_pollSlot | apply goes_next)
    | (with_reducible first | apply goes_ite | apply keep_foldl)
    | split

theorem keep_execSlotAuthDone {n₀ : Nat} {q₀ : List Instr} (slot : ℕ) (x : TagResult) (s : State) (hk : Keep n₀ q₀ s) :
    Goes n₀ q₀ (execSlotAuthDone slot x s) := by
  unfold execSlotAuthDone
  try dsimp only
  repeat' first
    | intro _
    | (with_reducible first | assumption | apply keep_setSlot | apply keep_onAut | apply keep_resetCell | apply keep_enrolId)
    | (with_reducible first | apply keep_applyIf | apply keep_flagEvent | apply keep_flag | apply goes_next | apply keep_ite)
    | (with_reducible first | apply goes_ite | apply keep_foldl)
    | split

/-! ### Commit.lean -/

theorem keep_onCommit {n₀ : Nat} {q₀ : List Instr} (s : State) (f : CommitSt → CommitSt) (hk : Keep n₀ q₀ s) :
    Keep n₀ q₀ (State.onCommit s f) := by
  unfold State.onCommit
  try dsimp only
  repeat' first
    | (simp only [keep_mk, List.length_set]; with_reducible apply keep_fold)
    | (with_reducible first | assumption)
    | split

theorem keep_markPending {n₀ : Nat} {q₀ : List Instr} (s : State) (page : ℕ) (word : ℕ) (hk : Keep n₀ q₀ s) :
    Keep n₀ q₀ (State.markPending s page word) := by
  unfold State.markPending
  try dsimp only
  repeat' first
    | (with_reducible first | assumption | apply keep_onCommit)
    | split

theorem keep_showStage {n₀ : Nat} {q₀ : List Instr} (s : State) (applied : ℕ) (todo : ℕ) (next : ℕ) (state : ℕ) (hk : Keep n₀ q₀ s) :
    Keep n₀ q₀ (State.showStage s applied todo next state) := by
  unfold State.showStage
  try dsimp only
  repeat' first
    | (with_reducible first | assumption | apply keep_set)
    | split

theorem keep_showResult {n₀ : Nat} {q₀ : List Instr} (s : State) (page : ℕ) (word : ℕ) (code : ℕ) (hk : Keep n₀ q₀ s) :
    Keep n₀ q₀ (State.showResult s page word code) := by
  unfold State.showResult
  try dsimp only
  repeat' first
    | (with_reducible first | assumption | apply keep_set)
    | split

theorem keep_refuseCommit {n₀ : Nat} {q₀ : List Instr} (s : State) (page : ℕ) (word : ℕ) (code : ℕ) (hk : Keep n₀ q₀ s) :
    Keep n₀ q₀ (State.refuseCommit s page word code).1 := by
  unfold State.refuseCommit
  try dsimp only
  repeat' first
    | (with_reducible first | assumption | apply keep_flag | apply keep_showResult)
    | split

theorem keep_decideCommit {n₀ : Nat} {q₀ : List Instr} (s : State) (link : ℕ) (pages : List ℕ) (hk : Keep n₀ q₀ s) :
    Keep n₀ q₀ (State.decideCommit s link pages).1 := by
  unfold State.decideCommit
  try dsimp only
  repeat' first
    | (with_reducible first | assumption | apply keep_flag | apply keep_showStage | apply keep_showResult | apply keep_refuseCommit)
    | (with_reducible first | apply keep_onCommit | apply keep_put)
    | split

theorem keep_requestCommit {n₀ : Nat} {q₀ : List Instr} (s : State) (l : Link) (v : Word) (hk : Keep n₀ q₀ s) :
    Keep n₀ q₀ (State.requestCommit s l v).1 := by
  unfold State.requestCommit
  try dsimp only
  repeat' first
    | (with_reducible first | assumption | apply keep_refuseCommit | apply keep_decideCommit)
    | split

theorem keep_adoptRound {n₀ : Nat} {q₀ : List Instr} (s : State) (hk : Keep n₀ q₀ s) :
    Keep n₀ q₀ (State.adoptRound s) := by
  unfold State.adoptRound
  try dsimp only
  repeat' first
    | (with_reducible first | assumption | apply keep_roundOfAll | apply keep_onAut)
    | split

theorem keep_afterStep {n₀ : Nat} {q₀ : List Instr} (s : State) (before : State) (link : ℕ) (pages : List ℕ) (hk : Keep n₀ q₀ s) :
    Keep n₀ q₀ (State.afterStep s before link pages) := by
  unfold State.afterStep
  try dsimp only
  repeat' first
    | intro _
    | (simp only [keep_mk, List.length_set]; with_reducible apply keep_fold)
    | (with_reducible first | assumption | apply keep_applyIf | apply keep_rewriteDefaults | apply keep_setSlot | apply keep_onAut)
    | (with_reducible first | apply keep_adoptRound | apply keep_onLink | apply keep_put | apply keep_settleAttn | apply keep_reapplyWanted)
    | (with_reducible first | apply keep_onStk | apply keep_setHomed | apply keep_clearFourth | apply keep_onAxis)
    | (with_reducible first | apply keep_lowerLimit | apply keep_runRecovers | apply keep_runStaged | apply keep_logChange)
    | (with_reducible first | apply keep_onCommit | apply keep_applySch | apply keep_endDeferral | apply keep_newImage)
    | (with_reducible first | apply keep_safetyEval | apply keep_ite | apply keep_foldl)
    | split

theorem keep_execCommitStep {n₀ : Nat} {q₀ : List Instr} (s : State) (hk : Keep n₀ q₀ s) :
    Goes n₀ q₀ (execCommitStep s) := by
  unfold execCommitStep
  try dsimp only
  repeat' first
    | intro _
    | (with_reducible first | assumption | apply keep_advanceTo | apply keep_setReg | apply keep_onCommit | apply keep_journalWrite)
    | (with_reducible first | apply keep_showStage | apply keep_applyIf | apply keep_flag | apply keep_afterStep | apply goes_next)
    | (with_reducible first | apply goes_ite | apply keep_foldl)
    | split

theorem keep_abortCommit {n₀ : Nat} {q₀ : List Instr} (s : State) (hk : Keep n₀ q₀ s) :
    Keep n₀ q₀ (State.abortCommit s) := by
  unfold State.abortCommit
  try dsimp only
  repeat' first
    | intro _
    | (with_reducible first | assumption | apply keep_applyIf | apply keep_setOn | apply keep_onProt | apply keep_dropStart)
    | (with_reducible first | apply keep_onGate | apply keep_onCommit | apply keep_flag | apply keep_showResult | apply keep_set)
    | (with_reducible first | apply keep_adoptRound | apply keep_foldl)
    | split

theorem keep_discardPage {n₀ : Nat} {q₀ : List Instr} (s : State) (page : ℕ) (hk : Keep n₀ q₀ s) :
    Keep n₀ q₀ (State.discardPage s page) := by
  unfold State.discardPage
  try dsimp only
  repeat' first
    | intro _
    | (with_reducible first | assumption | apply keep_setShadow | apply keep_onCommit | apply keep_foldl)
    | split

theorem keep_writeDiscard {n₀ : Nat} {q₀ : List Instr} (s : State) (v : Word) (hk : Keep n₀ q₀ s) :
    Keep n₀ q₀ (State.writeDiscard s v).1 := by
  unfold State.writeDiscard
  try dsimp only
  repeat' first
    | intro _
    | (with_reducible first | assumption | apply keep_discardPage | apply keep_foldl)
    | split

theorem keep_writeDefault {n₀ : Nat} {q₀ : List Instr} (s : State) (l : Link) (v : Word) (hk : Keep n₀ q₀ s) :
    Keep n₀ q₀ (State.writeDefault s l v).1 := by
  unfold State.writeDefault
  try dsimp only
  repeat' first
    | intro _
    | (with_reducible first | assumption | apply keep_markPending | apply keep_setShadow | apply keep_foldl)
    | split

theorem keep_adoptSage {n₀ : Nat} {q₀ : List Instr} (s : State) (m : MirrorImage) (hk : Keep n₀ q₀ s) :
    Keep n₀ q₀ (State.adoptSage s m) := by
  unfold State.adoptSage
  try dsimp only
  repeat' first
    | (with_reducible first | assumption | apply keep_onSage | apply keep_showThroughput)
    | split

theorem keep_execAdoptFetchDone {n₀ : Nat} {q₀ : List Instr} (ok : Bool) (m : MirrorImage) (s : State) (hk : Keep n₀ q₀ s) :
    Goes n₀ q₀ (execAdoptFetchDone ok m s) := by
  unfold execAdoptFetchDone
  try dsimp only
  repeat' first
    | intro _
    | (simp only [keep_mk, List.length_set]; with_reducible apply keep_fold)
    | (with_reducible first | assumption | apply keep_fetchFailed | apply keep_markPending | apply keep_setShadow)
    | (with_reducible first | apply keep_applyIf | apply keep_onCommit | apply keep_refuseCommit | apply keep_decideCommit)
    | (with_reducible first | apply keep_put | apply keep_adoptSage | apply keep_saveValue | apply keep_journalWrite)
    | (with_reducible first | apply keep_showAnchor | apply keep_onAut | apply keep_roundOfAll | apply keep_onRing)
    | (with_reducible first | apply keep_set | apply keep_setOn | apply keep_flag | apply goes_next | apply keep_ite)
    | (with_reducible first | apply goes_ite | apply keep_foldl)
    | split

theorem keep_onPassword {n₀ : Nat} {q₀ : List Instr} (s : State) (saf : Bool) (f : PasswordSt → PasswordSt) (hk : Keep n₀ q₀ s) :
    Keep n₀ q₀ (State.onPassword s saf f) := by
  unfold State.onPassword
  try dsimp only
  repeat' first
    | (simp only [keep_mk, List.length_set]; with_reducible apply keep_fold)
    | (with_reducible first | assumption | apply keep_ite)
    | split

theorem keep_setUnlock {n₀ : Nat} {q₀ : List Instr} (s : State) (saf : Bool) (l : Link) (t : Option ℕ) (hk : Keep n₀ q₀ s) :
    Keep n₀ q₀ (State.setUnlock s saf l t) := by
  unfold State.setUnlock
  try dsimp only
  repeat' first
    | (with_reducible first | assumption | apply keep_onLink)
    | split

theorem keep_wrongPassword {n₀ : Nat} {q₀ : List Instr} (s : State) (saf : Bool) (l : Link) (hk : Keep n₀ q₀ s) :
    Keep n₀ q₀ (State.wrongPassword s saf l) := by
  unfold State.wrongPassword
  try dsimp only
  repeat' first
    | (with_reducible first | assumption | apply keep_onPassword | apply keep_logChange | apply keep_flag | apply keep_ite)
    | split

theorem keep_writeUnlock {n₀ : Nat} {q₀ : List Instr} (s : State) (saf : Bool) (l : Link) (v : Word) (hk : Keep n₀ q₀ s) :
    Keep n₀ q₀ (State.writeUnlock s saf l v).1 := by
  unfold State.writeUnlock
  try dsimp only
  repeat' first
    | (with_reducible first | assumption | apply keep_setUnlock | apply keep_onPassword | apply keep_wrongPassword)
    | split

theorem keep_writeNewpw {n₀ : Nat} {q₀ : List Instr} (s : State) (saf : Bool) (l : Link) (v : Word) (hk : Keep n₀ q₀ s) :
    Keep n₀ q₀ (State.writeNewpw s saf l v).1 := by
  unfold State.writeNewpw
  try dsimp only
  repeat' first
    | (with_reducible first | assumption | apply keep_journalWrite | apply keep_onPassword | apply keep_logChange)
    | (with_reducible first | apply keep_ite)
    | split

theorem keep_execUnlockExpiry {n₀ : Nat} {q₀ : List Instr} (l : Link) (saf : Bool) (s : State) (hk : Keep n₀ q₀ s) :
    Goes n₀ q₀ (execUnlockExpiry l saf s) := by
  unfold execUnlockExpiry
  try dsimp only
  repeat' first
    | (with_reducible first | assumption | apply keep_setUnlock | apply keep_advanceTo | apply goes_next)
    | split

theorem keep_execLockoutEnd {n₀ : Nat} {q₀ : List Instr} (saf : Bool) (s : State) (hk : Keep n₀ q₀ s) :
    Goes n₀ q₀ (execLockoutEnd saf s) := by
  unfold execLockoutEnd
  try dsimp only
  repeat' first
    | (with_reducible first | assumption | apply keep_onPassword | apply keep_advanceTo | apply goes_next)
    | split

theorem keep_onFw {n₀ : Nat} {q₀ : List Instr} (s : State) (f : FirmwareSt → FirmwareSt) (hk : Keep n₀ q₀ s) :
    Keep n₀ q₀ (State.onFw s f) := by
  unfold State.onFw
  try dsimp only
  repeat' first
    | (simp only [keep_mk, List.length_set]; with_reducible apply keep_fold)
    | (with_reducible first | assumption)
    | split

theorem keep_showBanks {n₀ : Nat} {q₀ : List Instr} (s : State) (hk : Keep n₀ q₀ s) :
    Keep n₀ q₀ (State.showBanks s) := by
  unfold State.showBanks
  try dsimp only
  repeat' first
    | (with_reducible first | assumption | apply keep_setOn | apply keep_put)
    | split

theorem keep_fwOpen {n₀ : Nat} {q₀ : List Instr} (s : State) (hk : Keep n₀ q₀ s) :
    Keep n₀ q₀ (State.fwOpen s) := by
  unfold State.fwOpen
  try dsimp only
  repeat' first
    | (with_reducible first | assumption | apply keep_onFw | apply keep_set | apply keep_setOn | apply keep_showBanks)
    | split

theorem keep_fwActivate {n₀ : Nat} {q₀ : List Instr} (s : State) (hk : Keep n₀ q₀ s) :
    Keep n₀ q₀ (State.fwActivate s) := by
  unfold State.fwActivate
  try dsimp only
  repeat' first
    | intro _
    | (with_reducible first | assumption | apply keep_journalWrite | apply keep_onFw | apply keep_set | apply keep_showBanks)
    | (with_reducible first | apply keep_applyIf | apply keep_setOn)
    | split

theorem keep_fwAbandon {n₀ : Nat} {q₀ : List Instr} (s : State) (hk : Keep n₀ q₀ s) :
    Keep n₀ q₀ (State.fwAbandon s) := by
  unfold State.fwAbandon
  try dsimp only
  repeat' first
    | (with_reducible first | assumption | apply keep_onFw | apply keep_set | apply keep_showBanks)
    | split

theorem keep_writeFwctl {n₀ : Nat} {q₀ : List Instr} (s : State) (l : Link) (v : Word) (hk : Keep n₀ q₀ s) :
    Keep n₀ q₀ (State.writeFwctl s l v).1 := by
  unfold State.writeFwctl
  try dsimp only
  repeat' first
    | (with_reducible first | assumption | apply keep_fwOpen | apply keep_set | apply keep_fwActivate | apply keep_fwAbandon)
    | split

theorem keep_writeFwdata {n₀ : Nat} {q₀ : List Instr} (s : State) (v : Word) (hk : Keep n₀ q₀ s) :
    Keep n₀ q₀ (State.writeFwdata s v).1 := by
  unfold State.writeFwdata
  try dsimp only
  repeat' first
    | (with_reducible first | assumption | apply keep_offerImage | apply keep_onFw | apply keep_count | apply keep_set)
    | split

theorem keep_execFwVerifyDone {n₀ : Nat} {q₀ : List Instr} (pass : Bool) (version : Word) (s : State) (hk : Keep n₀ q₀ s) :
    Goes n₀ q₀ (execFwVerifyDone pass version s) := by
  unfold execFwVerifyDone
  try dsimp only
  repeat' first
    | intro _
    | (with_reducible first | assumption | apply keep_applyIf | apply keep_showBanks | apply keep_onFw | apply keep_flag)
    | (with_reducible first | apply keep_set | apply goes_next | apply goes_ite)
    | split

/-! ### FaultLine.lean -/

theorem keep_onLine {n₀ : Nat} {q₀ : List Instr} (s : State) (f : FaultLineSt → FaultLineSt) (hk : Keep n₀ q₀ s) :
    Keep n₀ q₀ (State.onLine s f) := by
  unfold State.onLine
  try dsimp only
  repeat' first
    | (simp only [keep_mk, List.length_set]; with_reducible apply keep_fold)
    | (with_reducible first | assumption)
    | split

theorem keep_showActive {n₀ : Nat} {q₀ : List Instr} (s : State) (hk : Keep n₀ q₀ s) :
    Keep n₀ q₀ (State.showActive s) := by
  unfold State.showActive
  try dsimp only
  repeat' first
    | (with_reducible first | assumption | apply keep_set | apply keep_ite)
    | split

theorem keep_assertLine {n₀ : Nat} {q₀ : List Instr} (s : State) (hk : Keep n₀ q₀ s) :
    Keep n₀ q₀ (State.assertLine s) := by
  unfold State.assertLine
  try dsimp only
  repeat' first
    | (simp only [keep_mk, List.length_set]; with_reducible apply keep_fold)
    | (with_reducible first | assumption | apply keep_flag | apply keep_setOn | apply keep_onLine | apply keep_set)
    | (with_reducible first | apply keep_prtTrip | apply keep_ite)
    | split

theorem keep_raiseSource {n₀ : Nat} {q₀ : List Instr} (s : State) (b : ℕ) (hk : Keep n₀ q₀ s) :
    Keep n₀ q₀ (State.raiseSource s b) := by
  unfold State.raiseSource
  try dsimp only
  repeat' first
    | (with_reducible first | assumption | apply keep_showActive | apply keep_assertLine | apply keep_set)
    | split

theorem keep_dropSource {n₀ : Nat} {q₀ : List Instr} (s : State) (b : ℕ) (hk : Keep n₀ q₀ s) :
    Keep n₀ q₀ (State.dropSource s b) := by
  unfold State.dropSource
  try dsimp only
  repeat' first
    | (with_reducible first | assumption | apply keep_set)
    | split

theorem keep_releaseLine {n₀ : Nat} {q₀ : List Instr} (s : State) (hk : Keep n₀ q₀ s) :
    Keep n₀ q₀ (State.releaseLine s) := by
  unfold State.releaseLine
  try dsimp only
  repeat' first
    | (simp only [keep_mk, List.length_set]; with_reducible apply keep_fold)
    | (with_reducible first | assumption | apply keep_flag | apply keep_setOn | apply keep_prtRelease | apply keep_ite)
    | split

theorem keep_writeFlclr {n₀ : Nat} {q₀ : List Instr} (s : State) (v : Word) (hk : Keep n₀ q₀ s) :
    Keep n₀ q₀ (State.writeFlclr s v).1 := by
  unfold State.writeFlclr
  try dsimp only
  repeat' first
    | (with_reducible first | assumption | apply keep_releaseLine)
    | split

theorem keep_stopCarrier {n₀ : Nat} {q₀ : List Instr} (s : State) (k : ℕ) (hk : Keep n₀ q₀ s) :
    Keep n₀ q₀ (State.stopCarrier s k) := by
  unfold State.stopCarrier
  try dsimp only
  repeat' first
    | (with_reducible first | assumption | apply keep_onLine)
    | split

theorem keep_driveCode {n₀ : Nat} {q₀ : List Instr} (s : State) (k : ℕ) (b : ℕ) (hk : Keep n₀ q₀ s) :
    Keep n₀ q₀ (State.driveCode s k b) := by
  unfold State.driveCode
  try dsimp only
  repeat' first
    | (with_reducible first | assumption | apply keep_showActive | apply keep_assertLine | apply keep_onDie | apply keep_stopCarrier)
    | split

theorem keep_execFaultChannelLost {n₀ : Nat} {q₀ : List Instr} (k : ℕ) (coded : Bool) (s : State) (hk : Keep n₀ q₀ s) :
    Goes n₀ q₀ (execFaultChannelLost k coded s) := by
  unfold execFaultChannelLost
  try dsimp only
  repeat' first
    | (with_reducible first | assumption | apply keep_assertLine | apply keep_advanceTo | apply keep_stopCarrier | apply keep_showActive)
    | (with_reducible first | apply keep_set | apply goes_next | apply keep_ite | apply goes_ite)
    | split

theorem keep_execTripCode {n₀ : Nat} {q₀ : List Instr} (k : ℕ) (code : Byte) (s : State) (hk : Keep n₀ q₀ s) :
    Goes n₀ q₀ (execTripCode k code s) := by
  unfold execTripCode
  try dsimp only
  repeat' first
    | (with_reducible first | assumption | apply keep_onDie | apply keep_stopCarrier | apply keep_showActive | apply keep_assertLine)
    | (with_reducible first | apply keep_set | apply goes_next | apply goes_ite)
    | split

theorem keep_execCarrierReturn {n₀ : Nat} {q₀ : List Instr} (k : ℕ) (s : State) (hk : Keep n₀ q₀ s) :
    Goes n₀ q₀ (execCarrierReturn k s) := by
  unfold execCarrierReturn
  try dsimp only
  repeat' first
    | (with_reducible first | assumption | apply keep_onLine | apply keep_onDie | apply keep_showActive | apply keep_set)
    | (with_reducible first | apply goes_next | apply goes_ite)
    | split

theorem keep_setTrip {n₀ : Nat} {q₀ : List Instr} (s : State) (f : Fld) (k : ℕ) (i : ℕ) (v : Bool) (hk : Keep n₀ q₀ s) :
    Keep n₀ q₀ (State.setTrip s f k i v) := by
  unfold State.setTrip
  try dsimp only
  repeat' first
    | (with_reducible first | assumption | apply keep_set)
    | split

theorem keep_gatedCell {n₀ : Nat} {q₀ : List Instr} (s : State) (k : ℕ) (v : ℤ) (i : ℕ) (hk : Keep n₀ q₀ s) :
    Keep n₀ q₀ (State.gatedCell s k v i) := by
  unfold State.gatedCell
  try dsimp only
  repeat' first
    | intro _
    | (with_reducible first | assumption | apply keep_onDie | apply keep_applyIf | apply keep_setTrip)
    | split

theorem keep_execGatedEval {n₀ : Nat} {q₀ : List Instr} (cells : List (List ℤ)) (s : State) (hk : Keep n₀ q₀ s) :
    Goes n₀ q₀ (execGatedEval cells s) := by
  unfold execGatedEval
  try dsimp only
  repeat' first
    | intro _
    | (with_reducible first | assumption | apply keep_advanceTo | apply keep_gatedCell | apply goes_next | apply keep_ite)
    | (with_reducible first | apply goes_ite | apply keep_foldl)
    | split

theorem keep_execGatedTrip {n₀ : Nat} {q₀ : List Instr} (s : State) (hk : Keep n₀ q₀ s) :
    Goes n₀ q₀ (execGatedTrip s) := by
  unfold execGatedTrip
  try dsimp only
  repeat' first
    | intro _
    | (with_reducible first | assumption | apply keep_setTrip | apply keep_applyIf | apply keep_driveCode | apply goes_next)
    | (with_reducible first | apply goes_ite | apply keep_foldl)
    | split

theorem keep_execAbsoluteTrip {n₀ : Nat} {q₀ : List Instr} (k : ℕ) (i : ℕ) (v : ℤ) (s : State) (hk : Keep n₀ q₀ s) :
    Goes n₀ q₀ (execAbsoluteTrip k i v s) := by
  unfold execAbsoluteTrip
  try dsimp only
  repeat' first
    | intro _
    | (with_reducible first | assumption | apply keep_setTrip | apply keep_applyIf | apply keep_driveCode | apply goes_next)
    | (with_reducible first | apply goes_ite)
    | split

theorem keep_selfTestOne {n₀ : Nat} {q₀ : List Instr} (s : State) (k : ℕ) (c : ℕ) (fails : Bool) (hk : Keep n₀ q₀ s) :
    Keep n₀ q₀ (State.selfTestOne s k c fails) := by
  unfold State.selfTestOne
  try dsimp only
  repeat' first
    | intro _
    | (with_reducible first | assumption | apply keep_onDie | apply keep_applyIf | apply keep_flagEvent | apply keep_count)
    | split

theorem keep_selfTestDie {n₀ : Nat} {q₀ : List Instr} (s : State) (k : ℕ) (failing : List ℕ) (hk : Keep n₀ q₀ s) :
    Keep n₀ q₀ (State.selfTestDie s k failing) := by
  unfold State.selfTestDie
  try dsimp only
  repeat' first
    | intro _
    | (with_reducible first | assumption | apply keep_selfTestOne | apply keep_onDie | apply keep_set | apply keep_foldl)
    | split

theorem keep_execComparatorSelfTest {n₀ : Nat} {q₀ : List Instr} (failing : List ℕ) (s : State) (hk : Keep n₀ q₀ s) :
    Goes n₀ q₀ (execComparatorSelfTest failing s) := by
  unfold execComparatorSelfTest
  try dsimp only
  repeat' first
    | intro _
    | (with_reducible first | assumption | apply keep_advanceTo | apply keep_selfTestDie | apply goes_next | apply keep_ite)
    | (with_reducible first | apply goes_ite | apply keep_foldl)
    | split

theorem keep_execFastOcTrip {n₀ : Nat} {q₀ : List Instr} (u : ℤ) (s : State) (hk : Keep n₀ q₀ s) :
    Goes n₀ q₀ (execFastOcTrip u s) := by
  unfold execFastOcTrip
  try dsimp only
  repeat' first
    | intro _
    | (simp only [keep_mk, List.length_set]; with_reducible apply keep_fold)
    | (with_reducible first | assumption | apply keep_setOn | apply keep_applyIf | apply keep_driveCode | apply keep_flag)
    | (with_reducible first | apply goes_next | apply goes_ite)
    | split

theorem keep_execOcSelfTest {n₀ : Nat} {q₀ : List Instr} (pass : Bool) (s : State) (hk : Keep n₀ q₀ s) :
    Goes n₀ q₀ (execOcSelfTest pass s) := by
  unfold execOcSelfTest
  try dsimp only
  repeat' first
    | intro _
    | (simp only [keep_mk, List.length_set]; with_reducible apply keep_fold)
    | (with_reducible first | assumption | apply keep_applyIf | apply keep_flagEvent | apply goes_next | apply goes_ite)
    | split

theorem keep_execDeadlineExpiry {n₀ : Nat} {q₀ : List Instr} (s : State) (hk : Keep n₀ q₀ s) :
    Goes n₀ q₀ (execDeadlineExpiry s) := by
  unfold execDeadlineExpiry
  try dsimp only
  repeat' first
    | (simp only [keep_mk, List.length_set]; with_reducible apply keep_fold)
    | (with_reducible first | assumption | apply keep_advanceTo | apply keep_allCoilsOff | apply keep_onProt | apply keep_set)
    | (with_reducible first | apply keep_setPrtState | apply keep_setOn | apply keep_countUnderload | apply keep_openNext)
    | (with_reducible first | apply keep_showTargets | apply keep_flagEvent | apply keep_raiseSource | apply goes_next)
    | (with_reducible first | apply goes_ite)
    | split

theorem keep_cmpHold {n₀ : Nat} {q₀ : List Instr} (s : State) (hk : Keep n₀ q₀ s) :
    Keep n₀ q₀ (State.cmpHold s) := by
  unfold State.cmpHold
  try dsimp only
  repeat' first
    | (with_reducible first | assumption | apply keep_onLine)
    | split

theorem keep_cmpBoundary {n₀ : Nat} {q₀ : List Instr} (s : State) (seq : Word) (hk : Keep n₀ q₀ s) :
    Keep n₀ q₀ (State.cmpBoundary s seq) := by
  unfold State.cmpBoundary
  try dsimp only
  repeat' first
    | (with_reducible first | assumption | apply keep_publish | apply keep_cmpHold | apply keep_onLine)
    | split

/-! ### Diagnostics.lean -/

theorem keep_showTests {n₀ : Nat} {q₀ : List Instr} (s : State) (hk : Keep n₀ q₀ s) :
    Keep n₀ q₀ (State.showTests s) := by
  unfold State.showTests
  try dsimp only
  repeat' first
    | (with_reducible first | assumption | apply keep_setOn | apply keep_set)
    | split

theorem keep_requeue {n₀ : Nat} {q₀ : List Instr} (s : State) (k : ℕ) (t : TapTest) (hk : Keep n₀ q₀ s) :
    Keep n₀ q₀ (State.requeue s k t) := by
  unfold State.requeue
  try dsimp only
  repeat' first
    | (with_reducible first | assumption | apply keep_onDie)
    | split

theorem keep_abandonTest {n₀ : Nat} {q₀ : List Instr} (s : State) (k : ℕ) (hk : Keep n₀ q₀ s) :
    Keep n₀ q₀ (State.abandonTest s k) := by
  unfold State.abandonTest
  try dsimp only
  repeat' first
    | (with_reducible first | assumption | apply keep_requeue | apply keep_onDie)
    | split

theorem keep_setHarness {n₀ : Nat} {q₀ : List Instr} (s : State) (k : ℕ) (v : Bool) (hk : Keep n₀ q₀ s) :
    Keep n₀ q₀ (State.setHarness s k v) := by
  unfold State.setHarness
  try dsimp only
  repeat' first
    | intro _
    | (with_reducible first | assumption | apply keep_applyIf | apply keep_slotsBefore | apply keep_showTests | apply keep_flag)
    | (with_reducible first | apply keep_set | apply keep_slotsAfter | apply keep_ite)
    | split

theorem keep_keepEstimates {n₀ : Nat} {q₀ : List Instr} (s : State) (k : ℕ) (base : ℕ → ℤ × ℤ) (hk : Keep n₀ q₀ s) :
    Keep n₀ q₀ (State.keepEstimates s k base) := by
  unfold State.keepEstimates
  try dsimp only
  repeat' first
    | (with_reducible first | assumption | apply keep_onDie)
    | split

theorem keep_keepSpanMode {n₀ : Nat} {q₀ : List Instr} (s : State) (k : ℕ) (hk : Keep n₀ q₀ s) :
    Keep n₀ q₀ (State.keepSpanMode s k) := by
  unfold State.keepSpanMode
  try dsimp only
  repeat' first
    | (with_reducible first | assumption | apply keep_onDie)
    | split

theorem keep_suspectTap {n₀ : Nat} {q₀ : List Instr} (s : State) (k : ℕ) (t : ℕ) (hk : Keep n₀ q₀ s) :
    Keep n₀ q₀ (State.suspectTap s k t) := by
  unfold State.suspectTap
  try dsimp only
  repeat' first
    | (with_reducible first | assumption | apply keep_onDie | apply keep_flagEvent | apply keep_enterTap | apply keep_abandonTest)
    | (with_reducible first | apply keep_ite)
    | split

theorem keep_evalDie {n₀ : Nat} {q₀ : List Instr} (s : State) (k : ℕ) (hk : Keep n₀ q₀ s) :
    Keep n₀ q₀ (State.evalDie s k) := by
  unfold State.evalDie
  try dsimp only
  repeat' first
    | intro _
    | (with_reducible first | assumption | apply keep_suspectTap | apply keep_keepSpanMode | apply keep_keepEstimates)
    | (with_reducible first | apply keep_ite | apply keep_foldl)
    | split

theorem keep_evalPublication {n₀ : Nat} {q₀ : List Instr} (s : State) (hk : Keep n₀ q₀ s) :
    Keep n₀ q₀ (State.evalPublication s) := by
  unfold State.evalPublication
  try dsimp only
  repeat' first
    | intro _
    | (simp only [keep_mk, List.length_set]; with_reducible apply keep_fold)
    | (with_reducible first | assumption | apply keep_showTests | apply keep_evalDie | apply keep_protEval | apply keep_foldl)
    | split

theorem keep_execSweepStart {n₀ : Nat} {q₀ : List Instr} (s : State) (hk : Keep n₀ q₀ s) :
    Goes n₀ q₀ (execSweepStart s) := by
  unfold execSweepStart
  try dsimp only
  repeat' first
    | intro _
    | (with_reducible first | assumption | apply keep_advanceTo | apply keep_onLine | apply keep_onDie | apply goes_next)
    | (with_reducible first | apply keep_ite | apply goes_ite | apply keep_foldl)
    | split

theorem keep_writeOwreq {n₀ : Nat} {q₀ : List Instr} (s : State) (v : Word) (hk : Keep n₀ q₀ s) :
    Keep n₀ q₀ (State.writeOwreq s v).1 := by
  unfold State.writeOwreq
  try dsimp only
  repeat' first
    | (with_reducible first | assumption | apply keep_showTests | apply keep_onDie)
    | split

theorem keep_beginTest {n₀ : Nat} {q₀ : List Instr} (s : State) (k : ℕ) (w : PendingTest) (hk : Keep n₀ q₀ s) :
    Keep n₀ q₀ (State.beginTest s k w) := by
  unfold State.beginTest
  try dsimp only
  repeat' first
    | (with_reducible first | assumption | apply keep_onDie | apply keep_showTests | apply keep_openWhere)
    | split

theorem keep_execTapTestStart {n₀ : Nat} {q₀ : List Instr} (k : ℕ) (s : State) (hk : Keep n₀ q₀ s) :
    Goes n₀ q₀ (execTapTestStart k s) := by
  unfold execTapTestStart
  try dsimp only
  repeat' first
    | (with_reducible first | assumption | apply keep_beginTest | apply keep_onDie | apply goes_next | apply goes_ite)
    | split

theorem keep_execTapWindowEnd {n₀ : Nat} {q₀ : List Instr} (k : ℕ) (s : State) (hk : Keep n₀ q₀ s) :
    Goes n₀ q₀ (execTapWindowEnd k s) := by
  unfold execTapWindowEnd
  try dsimp only
  repeat' first
    | (with_reducible first | assumption | apply keep_onDie | apply goes_next | apply goes_ite)
    | split

theorem keep_testBoundary {n₀ : Nat} {q₀ : List Instr} (s : State) (k : ℕ) (hk : Keep n₀ q₀ s) :
    Keep n₀ q₀ (State.testBoundary s k) := by
  unfold State.testBoundary
  try dsimp only
  repeat' first
    | (with_reducible first | assumption | apply keep_onDie | apply keep_showTests | apply keep_ite)
    | split

theorem keep_captureTests {n₀ : Nat} {q₀ : List Instr} (s : State) (k : ℕ) (n : ℕ) (hk : Keep n₀ q₀ s) :
    Keep n₀ q₀ (State.captureTests s k n) := by
  unfold State.captureTests
  try dsimp only
  repeat' first
    | (with_reducible first | assumption | apply keep_onDie)
    | split

theorem keep_showLast {n₀ : Nat} {q₀ : List Instr} (s : State) (k : ℕ) (t : ℕ) (out : ℕ) (up : ℕ) (down : ℕ) (hk : Keep n₀ q₀ s) :
    Keep n₀ q₀ (State.showLast s k t out up down) := by
  unfold State.showLast
  try dsimp only
  repeat' first
    | (with_reducible first | assumption | apply keep_put)
    | split

theorem keep_goodTest {n₀ : Nat} {q₀ : List Instr} (s : State) (k : ℕ) (t : ℕ) (hk : Keep n₀ q₀ s) :
    Keep n₀ q₀ (State.goodTest s k t) := by
  unfold State.goodTest
  try dsimp only
  repeat' first
    | (with_reducible first | assumption | apply keep_onDie | apply keep_raise | apply keep_clearTap | apply keep_ite)
    | split

theorem keep_badTest {n₀ : Nat} {q₀ : List Instr} (s : State) (k : ℕ) (t : ℕ) (state : ℕ) (cell : Option ℕ) (base : ℕ → ℤ × ℤ) (hk : Keep n₀ q₀ s) :
    Keep n₀ q₀ (State.badTest s k t state cell base) := by
  unfold State.badTest
  try dsimp only
  repeat' first
    | intro _
    | (with_reducible first | assumption | apply keep_enterTap | apply keep_onDie | apply keep_applyIf | apply keep_flagEvent)
    | (with_reducible first | apply keep_keepEstimates | apply keep_setHarness | apply keep_ite)
    | split

theorem keep_sweepEnd {n₀ : Nat} {q₀ : List Instr} (s : State) (k : ℕ) (hk : Keep n₀ q₀ s) :
    Keep n₀ q₀ (State.sweepEnd s k) := by
  unfold State.sweepEnd
  try dsimp only
  repeat' first
    | intro _
    | (with_reducible first | assumption | apply keep_set | apply keep_onLine | apply keep_onDie | apply keep_applyIf)
    | (with_reducible first | apply keep_setHarness | apply keep_flag | apply keep_ite)
    | split

theorem keep_concludeTest {n₀ : Nat} {q₀ : List Instr} (s : State) (k : ℕ) (t : TapTest) (r : ℕ × Option ℕ) (hk : Keep n₀ q₀ s) :
    Keep n₀ q₀ (State.concludeTest s k t r) := by
  unfold State.concludeTest
  try dsimp only
  repeat' first
    | intro _
    | (with_reducible first | assumption | apply keep_keepEstimates | apply keep_goodTest | apply keep_badTest | apply keep_applyIf)
    | (with_reducible first | apply keep_sweepEnd | apply keep_keepSpanMode | apply keep_ite)
    | split

theorem keep_repeatTest {n₀ : Nat} {q₀ : List Instr} (s : State) (k : ℕ) (t : TapTest) (hk : Keep n₀ q₀ s) :
    Keep n₀ q₀ (State.repeatTest s k t) := by
  unfold State.repeatTest
  try dsimp only
  repeat' first
    | (with_reducible first | assumption | apply keep_abandonTest | apply keep_requeue | apply keep_onDie | apply keep_ite)
    | split

theorem keep_execTapTestDecide_decided {n₀ : Nat} {q₀ : List Instr} (k : ℕ) (s : State) (hk : Keep n₀ q₀ s) :
    Goes n₀ q₀ (execTapTestDecide.decided k s) := by
  unfold execTapTestDecide.decided
  try dsimp only
  repeat' first
    | (with_reducible first | assumption | apply keep_showLast | apply keep_onDie | apply keep_showTests | apply keep_repeatTest)
    | (with_reducible first | apply keep_concludeTest | apply keep_requeue | apply goes_next | apply keep_ite | apply goes_ite)
    | split

theorem keep_execTapTestDecide {n₀ : Nat} {q₀ : List Instr} (k : ℕ) (s : State) (hk : Keep n₀ q₀ s) :
    Goes n₀ q₀ (execTapTestDecide k s) := by
  unfold execTapTestDecide
  try dsimp only
  repeat' first
    | (with_reducible first | assumption | apply keep_showTests | apply keep_requeue | apply keep_onDie | apply keep_execTapTestDecide_decided)
    | (with_reducible first | apply goes_next | apply goes_ite)
    | split

theorem keep_captureSpans {n₀ : Nat} {q₀ : List Instr} (s : State) (k : ℕ) (hk : Keep n₀ q₀ s) :
    Keep n₀ q₀ (State.captureSpans s k) := by
  unfold State.captureSpans
  try dsimp only
  repeat' first
    | (with_reducible first | assumption | apply keep_onDie)
    | split

theorem keep_publishSpan {n₀ : Nat} {q₀ : List Instr} (s : State) (k : ℕ) (v : List ℤ) (g : ℕ × ℕ) (span : ℤ) (hk : Keep n₀ q₀ s) :
    Keep n₀ q₀ (State.publishSpan s k v g span) := by
  unfold State.publishSpan
  try dsimp only
  repeat' first
    | intro _
    | (with_reducible first | assumption | apply keep_applyIf | apply keep_flagEvent | apply keep_set | apply keep_setOn)
    | (with_reducible first | apply keep_foldl)
    | split

theorem keep_publishSpans {n₀ : Nat} {q₀ : List Instr} (s : State) (k : ℕ) (f : DieFrame) (hk : Keep n₀ q₀ s) :
    Keep n₀ q₀ (State.publishSpans s k f) := by
  unfold State.publishSpans
  try dsimp only
  repeat' first
    | intro _
    | (with_reducible first | assumption | apply keep_publishSpan | apply keep_foldl)
    | split

end Sys2Proof.Machine
end

