-- ==== Sys2Proof/Laws/Keep4.lean ====
section
/-! SUPPORT. What the operations of Rosemary.lean, Power.lean, Thermal.lean, Shown.lean, Frame.lean, Access.lean keep (see `Keep`). -/
set_option linter.unreachableTactic false
set_option linter.unusedTactic false
set_option linter.unusedSimpArgs false
set_option linter.unusedVariables false
namespace Sys2Proof.Machine
open Host

/-! ### Rosemary.lean -/

theorem keep_countLost {n₀ : Nat} {q₀ : List Instr} (s : State) (page : ℕ) (low : EventLow) (n : ℕ) (hk : Keep n₀ q₀ s) :
    Keep n₀ q₀ (State.countLost s page low n) := by
  unfold State.countLost
  try dsimp only
  repeat' first
    | (simp only [keep_mk, List.length_set]; with_reducible apply keep_fold)
    | (with_reducible first | assumption | apply keep_set | apply keep_ite)
    | split

theorem keep_showFill {n₀ : Nat} {q₀ : List Instr} (s : State) (hk : Keep n₀ q₀ s) :
    Keep n₀ q₀ (State.showFill s) := by
  unfold State.showFill
  try dsimp only
  repeat' first
    | (with_reducible first | assumption | apply keep_set)
    | split

theorem keep_noteCause {n₀ : Nat} {q₀ : List Instr} (s : State) (e : Event) (seq : ℕ) (hk : Keep n₀ q₀ s) :
    Keep n₀ q₀ (State.noteCause s e seq) := by
  unfold State.noteCause
  try dsimp only
  repeat' first
    | (simp only [keep_mk, List.length_set]; with_reducible apply keep_fold)
    | (with_reducible first | assumption)
    | split

theorem keep_stage {n₀ : Nat} {q₀ : List Instr} (s : State) (e : Event) (hk : Keep n₀ q₀ s) :
    Keep n₀ q₀ (State.stage s e) := by
  unfold State.stage
  try dsimp only
  repeat' first
    | intro _
    | (simp only [keep_mk, List.length_set]; with_reducible apply keep_fold)
    | (with_reducible first | assumption | apply keep_noteCause | apply keep_set | apply keep_count | apply keep_countLost)
    | (with_reducible first | apply keep_applyIf | apply keep_flag | apply keep_ite)
    | split

theorem keep_dropRecord {n₀ : Nat} {q₀ : List Instr} (s : State) (e : Event) (hk : Keep n₀ q₀ s) :
    Keep n₀ q₀ (State.dropRecord s e) := by
  unfold State.dropRecord
  try dsimp only
  repeat' first
    | (simp only [keep_mk, List.length_set]; with_reducible apply keep_fold)
    | (with_reducible first | assumption | apply keep_flag | apply keep_count | apply keep_countLost)
    | split

theorem keep_acceptRecord {n₀ : Nat} {q₀ : List Instr} (s : State) (e : Event) (hk : Keep n₀ q₀ s) :
    Keep n₀ q₀ (State.acceptRecord s e) := by
  unfold State.acceptRecord
  try dsimp only
  repeat' first
    | (with_reducible first | assumption | apply keep_flag | apply keep_stage | apply keep_dropRecord | apply keep_setOn)
    | (with_reducible first | apply keep_showFill | apply keep_ite)
    | split

theorem keep_acceptOrDrop {n₀ : Nat} {q₀ : List Instr} (s : State) (e : Event) (hk : Keep n₀ q₀ s) :
    Keep n₀ q₀ (State.acceptOrDrop s e) := by
  unfold State.acceptOrDrop
  try dsimp only
  repeat' first
    | (with_reducible first | assumption | apply keep_acceptRecord | apply keep_dropRecord | apply keep_ite)
    | split

theorem keep_takeEvent {n₀ : Nat} {q₀ : List Instr} (s : State) (e : Event) (hk : Keep n₀ q₀ s) :
    Keep n₀ q₀ (State.takeEvent s e) := by
  unfold State.takeEvent
  try dsimp only
  repeat' first
    | (simp only [keep_mk, List.length_set]; with_reducible apply keep_fold)
    | (with_reducible first | assumption | apply keep_acceptOrDrop | apply keep_ite)
    | split

theorem keep_takeFirst {n₀ : Nat} {q₀ : List Instr} (s : State) (hk : Keep n₀ q₀ s) :
    Keep n₀ q₀ (State.takeFirst s) := by
  unfold State.takeFirst
  try dsimp only
  repeat' first
    | (simp only [keep_mk, List.length_set]; with_reducible apply keep_fold)
    | (with_reducible first | assumption | apply keep_takeEvent)
    | split

theorem keep_execRecordAccept {n₀ : Nat} {q₀ : List Instr} (s : State) (hk : Keep n₀ q₀ s) :
    Goes n₀ q₀ (execRecordAccept s) := by
  unfold execRecordAccept
  try dsimp only
  repeat' first
    | intro _
    | (with_reducible first | assumption | apply keep_withSlot | apply keep_takeFirst | apply goes_next | apply keep_ite)
    | split

theorem keep_takeOwn {n₀ : Nat} {q₀ : List Instr} (s : State) (e : Event) (hk : Keep n₀ q₀ s) :
    Keep n₀ q₀ (State.takeOwn s e) := by
  unfold State.takeOwn
  try dsimp only
  repeat' first
    | intro _
    | (with_reducible first | assumption | apply keep_withSlot | apply keep_acceptOrDrop | apply keep_acquireLease)
    | (with_reducible first | apply keep_send | apply keep_ite)
    | split

theorem keep_closeBucket {n₀ : Nat} {q₀ : List Instr} (s : State) (b : Bucket) (hk : Keep n₀ q₀ s) :
    Keep n₀ q₀ (State.closeBucket s b) := by
  unfold State.closeBucket
  try dsimp only
  repeat' first
    | (simp only [keep_mk, List.length_set]; with_reducible apply keep_fold)
    | (with_reducible first | assumption | apply keep_takeOwn | apply keep_ite)
    | split

theorem keep_execRateWindowClose {n₀ : Nat} {q₀ : List Instr} (s : State) (hk : Keep n₀ q₀ s) :
    Goes n₀ q₀ (execRateWindowClose s) := by
  unfold execRateWindowClose
  try dsimp only
  repeat' first
    | (with_reducible first | assumption | apply keep_closeBucket | apply keep_advanceTo | apply goes_next)
    | split

theorem keep_triggerFlush {n₀ : Nat} {q₀ : List Instr} (s : State) (hk : Keep n₀ q₀ s) :
    Keep n₀ q₀ (State.triggerFlush s) := by
  unfold State.triggerFlush
  try dsimp only
  repeat' first
    | (simp only [keep_mk, List.length_set]; with_reducible apply keep_fold)
    | (with_reducible first | assumption)
    | split

theorem keep_execFlushPeriodic {n₀ : Nat} {q₀ : List Instr} (s : State) (hk : Keep n₀ q₀ s) :
    Goes n₀ q₀ (execFlushPeriodic s) := by
  unfold execFlushPeriodic
  try dsimp only
  repeat' first
    | (with_reducible first | assumption | apply keep_triggerFlush | apply keep_advanceTo | apply goes_next | apply goes_ite)
    | split

theorem keep_execFlushStart {n₀ : Nat} {q₀ : List Instr} (s : State) (hk : Keep n₀ q₀ s) :
    Goes n₀ q₀ (execFlushStart s) := by
  unfold execFlushStart
  try dsimp only
  repeat' first
    | (simp only [keep_mk, List.length_set]; with_reducible apply keep_fold)
    | (with_reducible first | assumption | apply keep_acquireLease | apply keep_setOn | apply goes_next | apply goes_ite)
    | split

theorem keep_flushUpTo {n₀ : Nat} {q₀ : List Instr} (s : State) (all : Bool) (hk : Keep n₀ q₀ s) :
    Keep n₀ q₀ (State.flushUpTo s all) := by
  unfold State.flushUpTo
  try dsimp only
  repeat' first
    | (simp only [keep_mk, List.length_set]; with_reducible apply keep_fold)
    | (with_reducible first | assumption | apply keep_set | apply keep_flag | apply keep_setOn | apply keep_showFill)
    | (with_reducible first | apply keep_ite)
    | split

theorem keep_overflowSummary {n₀ : Nat} {q₀ : List Instr} (s : State) (hk : Keep n₀ q₀ s) :
    Keep n₀ q₀ (State.overflowSummary s) := by
  unfold State.overflowSummary
  try dsimp only
  repeat' first
    | (simp only [keep_mk, List.length_set]; with_reducible apply keep_fold)
    | (with_reducible first | assumption | apply keep_takeOwn | apply keep_ite)
    | split

theorem keep_clearRosemary {n₀ : Nat} {q₀ : List Instr} (s : State) (hk : Keep n₀ q₀ s) :
    Keep n₀ q₀ (State.clearRosemary s) := by
  unfold State.clearRosemary
  try dsimp only
  repeat' first
    | (simp only [keep_mk, List.length_set]; with_reducible apply keep_fold)
    | (with_reducible first | assumption | apply keep_setOn | apply keep_set | apply keep_showFill | apply keep_flag)
    | split

theorem keep_endFlush {n₀ : Nat} {q₀ : List Instr} (s : State) (hk : Keep n₀ q₀ s) :
    Keep n₀ q₀ (State.endFlush s) := by
  unfold State.endFlush
  try dsimp only
  repeat' first
    | intro _
    | (simp only [keep_mk, List.length_set]; with_reducible apply keep_fold)
    | (with_reducible first | assumption | apply keep_flushUpTo | apply keep_setOn | apply keep_overflowSummary | apply keep_releasePort)
    | (with_reducible first | apply keep_applyIf | apply keep_clearRosemary)
    | split

theorem keep_execFlushDone {n₀ : Nat} {q₀ : List Instr} (s : State) (hk : Keep n₀ q₀ s) :
    Goes n₀ q₀ (execFlushDone s) := by
  unfold execFlushDone
  try dsimp only
  repeat' first
    | (with_reducible first | assumption | apply keep_acquireLease | apply keep_endFlush | apply goes_next | apply keep_ite)
    | (with_reducible first | apply goes_ite)
    | split

theorem keep_drainInbox {n₀ : Nat} {q₀ : List Instr} (l : List Event) (s : State) (hk : Keep n₀ q₀ s) :
    Keep n₀ q₀ (State.drainInbox l s) := by
  induction l generalizing s with
  | nil => exact hk
  | cons e l ih => exact ih _ (keep_takeEvent s e hk)

theorem keep_takeInbox {n₀ : Nat} {q₀ : List Instr} (s : State) (hk : Keep n₀ q₀ s) :
    Keep n₀ q₀ (State.takeInbox s) := by
  unfold State.takeInbox
  try dsimp only
  repeat' first
    | intro _
    | (simp only [keep_mk, List.length_set]; with_reducible apply keep_fold)
    | (with_reducible first | assumption | apply keep_withSlot | apply keep_drainInbox | apply keep_ite)
    | split

theorem keep_finalFlush {n₀ : Nat} {q₀ : List Instr} (s : State) (closeWindows : Bool) (hk : Keep n₀ q₀ s) :
    Keep n₀ q₀ (State.finalFlush s closeWindows) := by
  unfold State.finalFlush
  try dsimp only
  repeat' first
    | intro _
    | (simp only [keep_mk, List.length_set]; with_reducible apply keep_fold)
    | (with_reducible first | assumption | apply keep_takeInbox | apply keep_closeBucket | apply keep_flushUpTo | apply keep_overflowSummary)
    | (with_reducible first | apply keep_setOn | apply keep_applyIf | apply keep_clearRosemary | apply keep_ite | apply keep_foldl)
    | split

theorem keep_execSnapshotExpiry {n₀ : Nat} {q₀ : List Instr} (link : Link) (s : State) (hk : Keep n₀ q₀ s) :
    Goes n₀ q₀ (execSnapshotExpiry link s) := by
  unfold execSnapshotExpiry
  try dsimp only
  repeat' first
    | (with_reducible first | assumption | apply keep_onLink | apply keep_advanceTo | apply goes_next)
    | split

theorem keep_writeSnap {n₀ : Nat} {q₀ : List Instr} (s : State) (link : Link) (v : Word) (hk : Keep n₀ q₀ s) :
    Keep n₀ q₀ (State.writeSnap s link v) := by
  unfold State.writeSnap
  try dsimp only
  repeat' first
    | (with_reducible first | assumption | apply keep_onLink | apply keep_ite)
    | split

theorem keep_writeClear {n₀ : Nat} {q₀ : List Instr} (s : State) (link : Link) (v : Word) (hk : Keep n₀ q₀ s) :
    Keep n₀ q₀ (State.writeClear s link v).1 := by
  unfold State.writeClear
  try dsimp only
  repeat' first
    | (simp only [keep_mk, List.length_set]; with_reducible apply keep_fold)
    | (with_reducible first | assumption | apply keep_clearRosemary)
    | split

theorem keep_ledgerStore {n₀ : Nat} {q₀ : List Instr} (s : State) (c : CycleEnd) (hk : Keep n₀ q₀ s) :
    Keep n₀ q₀ (State.ledgerStore s c) := by
  unfold State.ledgerStore
  try dsimp only
  repeat' first
    | intro _
    | (simp only [keep_mk, List.length_set]; with_reducible apply keep_fold)
    | (with_reducible first | assumption | apply keep_applyIf | apply keep_flag | apply keep_set | apply keep_setOn)
    | split

theorem keep_ledgerLose {n₀ : Nat} {q₀ : List Instr} (s : State) (c : CycleEnd) (hk : Keep n₀ q₀ s) :
    Keep n₀ q₀ (State.ledgerLose s c) := by
  unfold State.ledgerLose
  try dsimp only
  repeat' first
    | (with_reducible first | assumption | apply keep_count | apply keep_send | apply keep_flag | apply keep_setOn)
    | (with_reducible first | apply keep_set | apply keep_ite)
    | split

theorem keep_ledgerWrite {n₀ : Nat} {q₀ : List Instr} (s : State) (c : CycleEnd) (hk : Keep n₀ q₀ s) :
    Keep n₀ q₀ (State.ledgerWrite s c) := by
  unfold State.ledgerWrite
  try dsimp only
  repeat' first
    | (with_reducible first | assumption | apply keep_count | apply keep_ledgerStore | apply keep_ledgerLose | apply keep_ite)
    | split

theorem keep_ledgerNext {n₀ : Nat} {q₀ : List Instr} (s : State) (hk : Keep n₀ q₀ s) :
    Keep n₀ q₀ (State.ledgerNext s) := by
  unfold State.ledgerNext
  try dsimp only
  repeat' first
    | (simp only [keep_mk, List.length_set]; with_reducible apply keep_fold)
    | (with_reducible first | assumption | apply keep_ledgerWrite)
    | split

theorem keep_ledgerAll {n₀ : Nat} {q₀ : List Instr} (s : State) (hk : Keep n₀ q₀ s) :
    Keep n₀ q₀ (State.ledgerAll s) := by
  unfold State.ledgerAll
  try dsimp only
  repeat' first
    | intro _
    | (with_reducible first | assumption | apply keep_ledgerNext | apply keep_takeInbox | apply keep_foldl)
    | split

theorem keep_execLedgerRecordWrite {n₀ : Nat} {q₀ : List Instr} (s : State) (hk : Keep n₀ q₀ s) :
    Goes n₀ q₀ (execLedgerRecordWrite s) := by
  unfold execLedgerRecordWrite
  try dsimp only
  repeat' first
    | (with_reducible first | assumption | apply keep_acquireLease | apply keep_takeInbox | apply keep_ledgerNext)
    | (with_reducible first | apply keep_releasePort | apply goes_next | apply keep_ite | apply goes_ite)
    | split

theorem keep_writeAck {n₀ : Nat} {q₀ : List Instr} (s : State) (v : Word) (hk : Keep n₀ q₀ s) :
    Keep n₀ q₀ (State.writeAck s v).1 := by
  unfold State.writeAck
  try dsimp only
  repeat' first
    | (with_reducible first | assumption | apply keep_set | apply keep_saveAcked | apply keep_acquireLease | apply keep_ite)
    | split

/-! ### Power.lean -/

theorem keep_onPwr {n₀ : Nat} {q₀ : List Instr} (s : State) (f : PowerSt → PowerSt) (hk : Keep n₀ q₀ s) :
    Keep n₀ q₀ (State.onPwr s f) := by
  unfold State.onPwr
  try dsimp only
  repeat' first
    | (simp only [keep_mk, List.length_set]; with_reducible apply keep_fold)
    | (with_reducible first | assumption)
    | split

theorem keep_reach {n₀ : Nat} {q₀ : List Instr} (s : State) (t : ℕ) (hk : Keep n₀ q₀ s) :
    Keep n₀ q₀ (State.reach s t) := by
  unfold State.reach
  try dsimp only
  repeat' first
    | intro _
    | (with_reducible first | assumption | apply keep_advanceTo | apply keep_onThy | apply keep_set | apply keep_applyIf)
    | (with_reducible first | apply keep_ite)
    | split

theorem keep_saveNow {n₀ : Nat} {q₀ : List Instr} (s : State) (hk : Keep n₀ q₀ s) :
    Keep n₀ q₀ (State.saveNow s) := by
  unfold State.saveNow
  try dsimp only
  repeat' first
    | intro _
    | (simp only [keep_mk, List.length_set]; with_reducible apply keep_fold)
    | (with_reducible first | assumption | apply keep_saveValue | apply keep_journalWrite | apply keep_foldl)
    | split

theorem keep_execPeriodicSave {n₀ : Nat} {q₀ : List Instr} (s : State) (hk : Keep n₀ q₀ s) :
    Goes n₀ q₀ (execPeriodicSave s) := by
  unfold execPeriodicSave
  try dsimp only
  repeat' first
    | (with_reducible first | assumption | apply keep_saveNow | apply keep_advanceTo | apply goes_next | apply goes_ite)
    | split

theorem keep_atStart {n₀ : Nat} {q₀ : List Instr} (s : State) (x : StartUp) (hk : Keep n₀ q₀ s) :
    Keep 0 q₀ (State.atStart s x) := by
  unfold State.atStart
  extract_lets regs pw spw fw t t1 t2 t3 use t4 v
  have h : Keep 0 q₀ t := ⟨regsWf_filter _ hk.1, regsWf_filter _ (regsWf_filter _ hk.1), hk.2.2.1, Nat.zero_le _, by simp [t, State.shaped]⟩
  clear_value t
  have h1 : Keep 0 q₀ t1 := keep_foldl (fun _ _ h => keep_setReg h) h
  clear_value t1
  have h2 : Keep 0 q₀ t2 := keep_foldl (fun _ _ h => keep_setReg h) h1
  clear_value t2
  have h3 : Keep 0 q₀ t3 := keep_setReg (keep_setReg h2)
  clear_value t3
  have h4 : Keep 0 q₀ t4 := keep_setShadow (keep_setReg h3)
  clear_value t4
  exact keep_of_eq (s := t4) rfl rfl rfl rfl h4 fun h => ⟨by simp, h.2⟩

theorem keep_decideJournal {n₀ : Nat} {q₀ : List Instr} (s : State) (records : List Bool) (hk : Keep n₀ q₀ s) :
    Keep n₀ q₀ (State.decideJournal s records).1 := by
  unfold State.decideJournal
  extract_lets opens done left
  exact keep_of_eq rfl rfl rfl rfl (keep_undoEntries s _ hk)

theorem keep_reportJournal {n₀ : Nat} {q₀ : List Instr} (s : State) (done : ℕ) (left : List JournalEntry) (hk : Keep n₀ q₀ s) :
    Keep n₀ q₀ (State.reportJournal s done left) := by
  unfold State.reportJournal
  try dsimp only
  repeat' first
    | intro _
    | (with_reducible first | assumption | apply keep_applyIf | apply keep_flag | apply keep_listed)
    | split

theorem keep_train {n₀ : Nat} {q₀ : List Instr} (s : State) (x : StartUp) (hk : Keep n₀ q₀ s) :
    Keep n₀ q₀ (State.train s x) := by
  unfold State.train
  try dsimp only
  repeat' first
    | intro _
    | (with_reducible first | assumption | apply keep_set | apply keep_onStk | apply keep_defaultPaths | apply keep_applyIf)
    | (with_reducible first | apply keep_flag | apply keep_foldl)
    | split

theorem keep_coreStart {n₀ : Nat} {q₀ : List Instr} (s : State) (a : Bool) (b : Bool) (hk : Keep n₀ q₀ s) :
    Keep n₀ q₀ (State.coreStart s a b) := by
  unfold State.coreStart
  try dsimp only
  repeat' first
    | (simp only [keep_mk, List.length_set]; with_reducible apply keep_fold)
    | (with_reducible first | assumption | apply keep_journalWrite | apply keep_onPwr | apply keep_set | apply keep_setOn)
    | (with_reducible first | apply keep_ite)
    | split

theorem keep_bootBanks {n₀ : Nat} {q₀ : List Instr} (s : State) (hk : Keep n₀ q₀ s) :
    Keep n₀ q₀ (State.bootBanks s) := by
  unfold State.bootBanks
  try dsimp only
  repeat' first
    | intro _
    | (with_reducible first | assumption | apply keep_onFw | apply keep_showBanks | apply keep_setOn | apply keep_onPwr)
    | (with_reducible first | apply keep_set | apply keep_put | apply keep_bayStartUp | apply keep_sageStart | apply keep_raise)
    | (with_reducible first | apply keep_applyIf | apply keep_listed | apply keep_ite)
    | split

theorem keep_execStartQualified {n₀ : Nat} {q₀ : List Instr} (x : StartUp) (s : State) (hk : Keep n₀ q₀ s) :
    Goes 0 q₀ (execStartQualified x s) := by
  unfold execStartQualified
  split
  · exact goes_next (keep_zero hk)
  · extract_lets cause r s' t t1 t2 t3 top t4 t5 t6 t7 t8
    have h0 : Keep 0 q₀ t := keep_atStart s' x (keep_decideJournal s _ hk)
    clear_value t
    have h1 : Keep 0 q₀ t1 := keep_onPwr _ _ h0
    clear_value t1
    have h2 : Keep 0 q₀ t2 := keep_setReg h1
    clear_value t2
    have h3 : Keep 0 q₀ t3 := keep_set _ _ _ (keep_set _ _ _ h2)
    clear_value t3
    have h4 : Keep 0 q₀ t4 := keep_showFill _ (keep_set _ _ _ (keep_set _ _ _ h3))
    clear_value t4
    have h5 : Keep 0 q₀ t5 := keep_reportJournal _ _ _ (keep_set _ _ _ h4)
    clear_value t5
    have h6 : Keep 0 q₀ t6 := keep_showBanks _ h5
    clear_value t6
    have h7 : Keep 0 q₀ t7 := keep_foldl (fun _ _ h => keep_set _ _ _ h) h6
    clear_value t7
    have h8 : Keep 0 q₀ t8 := by
      show Keep 0 q₀ (ite _ _ _)
      exact keep_ite (keep_foldl (fun _ _ h => keep_setOn _ _ _ (keep_setOn _ _ _ h)) h7) h7
    clear_value t8
    exact goes_next (keep_coreStart _ _ _ (keep_train _ _ (keep_showHeld _ h8)))

theorem keep_dieDone {n₀ : Nat} {q₀ : List Instr} (s : State) (k : ℕ) (hk : Keep n₀ q₀ s) :
    Keep n₀ q₀ (State.dieDone s k) := by
  unfold State.dieDone
  try dsimp only
  repeat' first
    | intro _
    | (with_reducible first | assumption | apply keep_onPwr | apply keep_applyIf | apply keep_set)
    | split

theorem keep_finishBoot {n₀ : Nat} {q₀ : List Instr} (s : State) (hk : Keep n₀ q₀ s) :
    Keep n₀ q₀ (State.finishBoot s) := by
  unfold State.finishBoot
  try dsimp only
  repeat' first
    | intro _
    | (with_reducible first | assumption | apply keep_applyIf | apply keep_bootBanks)
    | split

theorem keep_endSettling {n₀ : Nat} {q₀ : List Instr} (s : State) (k : ℕ) (hk : Keep n₀ q₀ s) :
    Keep n₀ q₀ (State.endSettling s k) := by
  unfold State.endSettling
  try dsimp only
  repeat' first
    | (with_reducible first | assumption | apply keep_onPwr)
    | split

theorem keep_execMdieSettled {n₀ : Nat} {q₀ : List Instr} (k : ℕ) (s : State) (hk : Keep n₀ q₀ s) :
    Goes n₀ q₀ (execMdieSettled k s) := by
  unfold execMdieSettled
  try dsimp only
  repeat' first
    | (with_reducible first | assumption | apply keep_reach | apply keep_onDie | apply keep_set | apply keep_dieDone)
    | (with_reducible first | apply keep_markHealthy | apply keep_rejoinNext | apply keep_endSettling | apply goes_next)
    | (with_reducible first | apply goes_ite)
    | split

theorem keep_dieFailed {n₀ : Nat} {q₀ : List Instr} (s : State) (k : ℕ) (hk : Keep n₀ q₀ s) :
    Keep n₀ q₀ (State.dieFailed s k) := by
  unfold State.dieFailed
  try dsimp only
  repeat' first
    | (with_reducible first | assumption | apply keep_set)
    | split

theorem keep_execMdieSettleTimeout {n₀ : Nat} {q₀ : List Instr} (k : ℕ) (s : State) (hk : Keep n₀ q₀ s) :
    Goes n₀ q₀ (execMdieSettleTimeout k s) := by
  unfold execMdieSettleTimeout
  try dsimp only
  repeat' first
    | intro _
    | (simp only [keep_mk, List.length_set]; with_reducible apply keep_fold)
    | (with_reducible first | assumption | apply keep_applyIf | apply keep_reach | apply keep_onPwr | apply keep_dieDone)
    | (with_reducible first | apply keep_dieFailed | apply keep_endSettling | apply goes_next | apply goes_ite)
    | split

theorem keep_storeFailed {n₀ : Nat} {q₀ : List Instr} (s : State) (hk : Keep n₀ q₀ s) :
    Keep n₀ q₀ (State.storeFailed s) := by
  unfold State.storeFailed
  try dsimp only
  repeat' first
    | (with_reducible first | assumption | apply keep_flagEvent | apply keep_setOn | apply keep_ite)
    | split

theorem keep_showStore {n₀ : Nat} {q₀ : List Instr} (s : State) (ok : Bool) (hk : Keep n₀ q₀ s) :
    Keep n₀ q₀ (State.showStore s ok) := by
  unfold State.showStore
  try dsimp only
  repeat' first
    | intro _
    | (with_reducible first | assumption | apply keep_applyIf | apply keep_setOn | apply keep_storeFailed)
    | split

theorem keep_execHoldupStoreCharged {n₀ : Nat} {q₀ : List Instr} (s : State) (hk : Keep n₀ q₀ s) :
    Goes n₀ q₀ (execHoldupStoreCharged s) := by
  unfold execHoldupStoreCharged
  try dsimp only
  repeat' first
    | (with_reducible first | assumption | apply keep_showStore | apply goes_next | apply goes_ite)
    | split

theorem keep_execHoldupTimeout {n₀ : Nat} {q₀ : List Instr} (s : State) (hk : Keep n₀ q₀ s) :
    Goes n₀ q₀ (execHoldupTimeout s) := by
  unfold execHoldupTimeout
  try dsimp only
  repeat' first
    | (with_reducible first | assumption | apply keep_storeFailed | apply keep_reach | apply goes_next | apply goes_ite)
    | split

theorem keep_execSupplyLow {n₀ : Nat} {q₀ : List Instr} (s : State) (hk : Keep n₀ q₀ s) :
    Goes n₀ q₀ (execSupplyLow s) := by
  unfold execSupplyLow
  try dsimp only
  repeat' first
    | (with_reducible first | assumption | apply keep_flagEvent | apply keep_setOn | apply goes_next | apply goes_ite)
    | split

theorem keep_execSupplyLowClear {n₀ : Nat} {q₀ : List Instr} (s : State) (hk : Keep n₀ q₀ s) :
    Goes n₀ q₀ (execSupplyLowClear s) := by
  unfold execSupplyLowClear
  try dsimp only
  repeat' first
    | (with_reducible first | assumption | apply keep_setOn | apply goes_next | apply goes_ite)
    | split

theorem keep_execPwrWarn {n₀ : Nat} {q₀ : List Instr} (s : State) (hk : Keep n₀ q₀ s) :
    Goes n₀ q₀ (execPwrWarn s) := by
  unfold execPwrWarn
  try dsimp only
  repeat' first
    | intro _
    | (with_reducible first | assumption | apply keep_flag | apply keep_setOn | apply keep_count | apply keep_abortBrakeTests)
    | (with_reducible first | apply keep_bayCopy | apply keep_triggerFlush | apply keep_applyIf | apply goes_next)
    | (with_reducible first | apply goes_ite)
    | split

theorem keep_execPwrWarnClear {n₀ : Nat} {q₀ : List Instr} (s : State) (hk : Keep n₀ q₀ s) :
    Goes n₀ q₀ (execPwrWarnClear s) := by
  unfold execPwrWarnClear
  try dsimp only
  repeat' first
    | intro _
    | (with_reducible first | assumption | apply keep_flag | apply keep_setOn | apply keep_applyIf | apply keep_onPwr)
    | (with_reducible first | apply goes_next | apply goes_ite)
    | split

theorem keep_outputsOff {n₀ : Nat} {q₀ : List Instr} (s : State) (phase : Phase) (hk : Keep n₀ q₀ s) :
    Keep n₀ q₀ (State.outputsOff s phase) := by
  unfold State.outputsOff
  try dsimp only
  repeat' first
    | intro _
    | (with_reducible first | assumption | apply keep_raiseSource | apply keep_onPwr | apply keep_safetyEval | apply keep_loadsOff)
    | (with_reducible first | apply keep_applyIf | apply keep_bridgeOff | apply keep_chopperOff | apply keep_cutCycles)
    | (with_reducible first | apply keep_set | apply keep_foldl)
    | split

theorem keep_journalDone {n₀ : Nat} {q₀ : List Instr} (s : State) (hk : Keep n₀ q₀ s) :
    Keep n₀ q₀ (State.journalDone s) := by
  unfold State.journalDone
  try dsimp only
  repeat' first
    | (simp only [keep_mk, List.length_set]; with_reducible apply keep_fold)
    | (with_reducible first | assumption)
    | split

theorem keep_portTasks {n₀ : Nat} {q₀ : List Instr} (s : State) (closeWindows : Bool) (hk : Keep n₀ q₀ s) :
    Keep n₀ q₀ (State.portTasks s closeWindows) := by
  unfold State.portTasks
  try dsimp only
  repeat' first
    | (with_reducible first | assumption | apply keep_journalDone | apply keep_writebackStored | apply keep_acquireLease)
    | (with_reducible first | apply keep_clearSlot | apply keep_saveAcked | apply keep_finalFlush | apply keep_ledgerAll)
    | (with_reducible first | apply keep_ite)
    | split

theorem keep_holdupTasks {n₀ : Nat} {q₀ : List Instr} (s : State) (hk : Keep n₀ q₀ s) :
    Keep n₀ q₀ (State.holdupTasks s) := by
  unfold State.holdupTasks
  try dsimp only
  repeat' first
    | (with_reducible first | assumption | apply keep_portTasks)
    | split

theorem keep_execPwrFail {n₀ : Nat} {q₀ : List Instr} (s : State) (hk : Keep n₀ q₀ s) :
    Goes n₀ q₀ (execPwrFail s) := by
  unfold execPwrFail
  try dsimp only
  repeat' first
    | (with_reducible first | assumption | apply keep_outputsOff | apply keep_bayCopy | apply keep_listed | apply keep_countLife)
    | (with_reducible first | apply keep_holdupTasks | apply goes_next | apply keep_ite | apply goes_ite)
    | split

theorem keep_execCdieReset {n₀ : Nat} {q₀ : List Instr} (s : State) (hk : Keep n₀ q₀ s) :
    Goes n₀ q₀ (execCdieReset s) := by
  unfold execCdieReset
  try dsimp only
  repeat' first
    | (with_reducible first | assumption | apply keep_onPwr | apply goes_next | apply goes_ite)
    | split

theorem keep_execVmOkChange {n₀ : Nat} {q₀ : List Instr} (ok : Bool) (s : State) (hk : Keep n₀ q₀ s) :
    Goes n₀ q₀ (execVmOkChange ok s) := by
  unfold execVmOkChange
  try dsimp only
  repeat' first
    | (with_reducible first | assumption | apply keep_flag | apply keep_setOn | apply keep_safeAll | apply goes_next)
    | (with_reducible first | apply keep_ite | apply goes_ite)
    | split

theorem keep_execAddrChange {n₀ : Nat} {q₀ : List Instr} (addr : ℕ) (s : State) (hk : Keep n₀ q₀ s) :
    Goes n₀ q₀ (execAddrChange addr s) := by
  unfold execAddrChange
  try dsimp only
  repeat' first
    | (simp only [keep_mk, List.length_set]; with_reducible apply keep_fold)
    | (with_reducible first | assumption | apply keep_listed | apply goes_next | apply goes_ite)
    | split

theorem keep_writeReset {n₀ : Nat} {q₀ : List Instr} (s : State) (v : Word) (hk : Keep n₀ q₀ s) :
    Keep n₀ q₀ (State.writeReset s v).1 := by
  unfold State.writeReset
  try dsimp only
  repeat' first
    | (with_reducible first | assumption | apply keep_portTasks | apply keep_leaveRing | apply keep_outputsOff | apply keep_onPwr)
    | split

theorem keep_writeLayup {n₀ : Nat} {q₀ : List Instr} (s : State) (v : Word) (hk : Keep n₀ q₀ s) :
    Keep n₀ q₀ (State.writeLayup s v).1 := by
  unfold State.writeLayup
  try dsimp only
  repeat' first
    | (simp only [keep_mk, List.length_set]; with_reducible apply keep_fold)
    | (with_reducible first | assumption | apply keep_writebackStored | apply keep_saveNow | apply keep_onSage | apply keep_outputsOff)
    | (with_reducible first | apply keep_portTasks | apply keep_listed | apply keep_leaveRing | apply keep_set | apply keep_setOn)
    | (with_reducible first | apply keep_ite)
    | split

theorem keep_execLayupWake {n₀ : Nat} {q₀ : List Instr} (source : ℕ) (s : State) (hk : Keep n₀ q₀ s) :
    Goes n₀ q₀ (execLayupWake source s) := by
  unfold execLayupWake
  try dsimp only
  repeat' first
    | (with_reducible first | assumption | apply keep_onPwr | apply goes_next | apply goes_ite)
    | split

theorem keep_execLayupSupplyLost {n₀ : Nat} {q₀ : List Instr} (s : State) (hk : Keep n₀ q₀ s) :
    Goes n₀ q₀ (execLayupSupplyLost s) := by
  unfold execLayupSupplyLost
  try dsimp only
  repeat' first
    | (with_reducible first | assumption | apply keep_onPwr | apply goes_next | apply goes_ite)
    | split

/-! ### Thermal.lean -/

theorem keep_onTmp {n₀ : Nat} {q₀ : List Instr} (s : State) (f : ThermalSt → ThermalSt) (hk : Keep n₀ q₀ s) :
    Keep n₀ q₀ (State.onTmp s f) := by
  unfold State.onTmp
  try dsimp only
  repeat' first
    | (simp only [keep_mk, List.length_set]; with_reducible apply keep_fold)
    | (with_reducible first | assumption)
    | split

theorem keep_setDieBit {n₀ : Nat} {q₀ : List Instr} (s : State) (f : Fld) (d : ℕ) (v : Bool) (hk : Keep n₀ q₀ s) :
    Keep n₀ q₀ (State.setDieBit s f d v) := by
  unfold State.setDieBit
  try dsimp only
  repeat' first
    | (with_reducible first | assumption | apply keep_set)
    | split

theorem keep_stopDie {n₀ : Nat} {q₀ : List Instr} (s : State) (d : ℕ) (hk : Keep n₀ q₀ s) :
    Keep n₀ q₀ (State.stopDie s d) := by
  unfold State.stopDie
  try dsimp only
  repeat' first
    | intro _
    | (with_reducible first | assumption | apply keep_flagEvent | apply keep_countLife | apply keep_setDieBit | apply keep_applyIf)
    | (with_reducible first | apply keep_stopMoving | apply keep_loadsOff | apply keep_ite)
    | split

theorem keep_powerDownDie {n₀ : Nat} {q₀ : List Instr} (s : State) (d : ℕ) (hk : Keep n₀ q₀ s) :
    Keep n₀ q₀ (State.powerDownDie s d) := by
  unfold State.powerDownDie
  try dsimp only
  repeat' first
    | intro _
    | (simp only [keep_mk, List.length_set]; with_reducible apply keep_fold)
    | (with_reducible first | assumption | apply keep_onTmp | apply keep_markUnhealthy | apply keep_set | apply keep_sleepDie)
    | (with_reducible first | apply keep_onAxis | apply keep_stopAxis | apply keep_quietGate | apply keep_chopperOff)
    | (with_reducible first | apply keep_ite | apply keep_foldl)
    | split

theorem keep_execThermalPowerDown {n₀ : Nat} {q₀ : List Instr} (d : ℕ) (s : State) (hk : Keep n₀ q₀ s) :
    Goes n₀ q₀ (execThermalPowerDown d s) := by
  unfold execThermalPowerDown
  try dsimp only
  repeat' first
    | (with_reducible first | assumption | apply keep_powerDownDie | apply goes_next | apply goes_ite)
    | split

theorem keep_powerUpDie {n₀ : Nat} {q₀ : List Instr} (s : State) (d : ℕ) (hk : Keep n₀ q₀ s) :
    Keep n₀ q₀ (State.powerUpDie s d) := by
  unfold State.powerUpDie
  try dsimp only
  repeat' first
    | (simp only [keep_mk, List.length_set]; with_reducible apply keep_fold)
    | (with_reducible first | assumption | apply keep_countLife | apply keep_onTmp | apply keep_set | apply keep_powerUpGate)
    | (with_reducible first | apply keep_ite)
    | split

theorem keep_execDiePowerCycle {n₀ : Nat} {q₀ : List Instr} (d : ℕ) (s : State) (hk : Keep n₀ q₀ s) :
    Goes n₀ q₀ (execDiePowerCycle d s) := by
  unfold execDiePowerCycle
  try dsimp only
  repeat' first
    | (with_reducible first | assumption | apply keep_advanceTo | apply keep_powerUpDie | apply keep_onTmp | apply goes_next)
    | (with_reducible first | apply goes_ite)
    | split

theorem keep_writeTmpCmd {n₀ : Nat} {q₀ : List Instr} (s : State) (v : Word) (hk : Keep n₀ q₀ s) :
    Keep n₀ q₀ (State.writeTmpCmd s v).1 := by
  unfold State.writeTmpCmd
  try dsimp only
  repeat' first
    | (with_reducible first | assumption | apply keep_powerUpDie)
    | split

theorem keep_clearLatch {n₀ : Nat} {q₀ : List Instr} (s : State) (d : ℕ) (hk : Keep n₀ q₀ s) :
    Keep n₀ q₀ (State.clearLatch s d) := by
  unfold State.clearLatch
  try dsimp only
  repeat' first
    | intro _
    | (with_reducible first | assumption | apply keep_onTmp | apply keep_setDieBit | apply keep_flag | apply keep_applyIf)
    | (with_reducible first | apply keep_dropSource)
    | split

theorem keep_judgeDiode {n₀ : Nat} {q₀ : List Instr} (s : State) (d : ℕ) (t : ℤ) (missing : Bool) (hk : Keep n₀ q₀ s) :
    Keep n₀ q₀ (State.judgeDiode s d t missing) := by
  unfold State.judgeDiode
  try dsimp only
  repeat' first
    | intro _
    | (with_reducible first | assumption | apply keep_onTmp | apply keep_applyIf | apply keep_flagEvent | apply keep_setDieBit)
    | (with_reducible first | apply keep_ite)
    | split

theorem keep_evalTemp {n₀ : Nat} {q₀ : List Instr} (s : State) (d : ℕ) (t : ℤ) (missing : Bool) (hk : Keep n₀ q₀ s) :
    Keep n₀ q₀ (State.evalTemp s d t missing) := by
  unfold State.evalTemp
  try dsimp only
  repeat' first
    | intro _
    | (with_reducible first | assumption | apply keep_judgeDiode | apply keep_set | apply keep_setDieBit | apply keep_applyIf)
    | (with_reducible first | apply keep_flagEvent | apply keep_clearLatch | apply keep_powerDownDie | apply keep_stopDie)
    | (with_reducible first | apply keep_ite)
    | split

theorem keep_forgetDiode {n₀ : Nat} {q₀ : List Instr} (s : State) (d : ℕ) (hk : Keep n₀ q₀ s) :
    Keep n₀ q₀ (State.forgetDiode s d) := by
  unfold State.forgetDiode
  try dsimp only
  repeat' first
    | (with_reducible first | assumption | apply keep_setDieBit | apply keep_onTmp)
    | split

theorem keep_evalThermal {n₀ : Nat} {q₀ : List Instr} (s : State) (d : ℕ) (t : ℤ) (missing : Bool) (hk : Keep n₀ q₀ s) :
    Keep n₀ q₀ (State.evalThermal s d t missing) := by
  unfold State.evalThermal
  try dsimp only
  repeat' first
    | (with_reducible first | assumption | apply keep_forgetDiode | apply keep_evalTemp | apply keep_ite)
    | split

theorem keep_execThermalEval {n₀ : Nat} {q₀ : List Instr} (d : ℕ) (t : ℤ) (missing : Bool) (s : State) (hk : Keep n₀ q₀ s) :
    Goes n₀ q₀ (execThermalEval d t missing s) := by
  unfold execThermalEval
  try dsimp only
  repeat' first
    | (with_reducible first | assumption | apply keep_advanceTo | apply keep_evalThermal | apply keep_onTmp | apply goes_next)
    | (with_reducible first | apply goes_ite)
    | split

theorem keep_execThermalPauseEnd {n₀ : Nat} {q₀ : List Instr} (motion : Bool) (s : State) (hk : Keep n₀ q₀ s) :
    Goes n₀ q₀ (execThermalPauseEnd motion s) := by
  unfold execThermalPauseEnd
  try dsimp only
  repeat' first
    | (with_reducible first | assumption | apply keep_advanceTo | apply keep_setOn | apply goes_next | apply keep_ite)
    | (with_reducible first | apply goes_ite)
    | split

theorem keep_execEccCorrected {n₀ : Nat} {q₀ : List Instr} (mram : Bool) (s : State) (hk : Keep n₀ q₀ s) :
    Goes n₀ q₀ (execEccCorrected mram s) := by
  unfold execEccCorrected
  try dsimp only
  repeat' first
    | (with_reducible first | assumption | apply keep_onTmp | apply keep_count | apply keep_flagEvent | apply goes_next)
    | (with_reducible first | apply keep_ite | apply goes_ite)
    | split

/-! ### Shown.lean -/

theorem keep_refreshWord {n₀ : Nat} {q₀ : List Instr} (s : State) (a : ℕ) (hk : Keep n₀ q₀ s) :
    Keep n₀ q₀ (State.refreshWord s a) := by
  unfold State.refreshWord
  try dsimp only
  repeat' first
    | (with_reducible first | assumption | apply keep_put | apply keep_ite)
    | split

theorem keep_refreshShown {n₀ : Nat} {q₀ : List Instr} (s : State) (hk : Keep n₀ q₀ s) :
    Keep n₀ q₀ (State.refreshShown s) := by
  unfold State.refreshShown
  try dsimp only
  repeat' first
    | intro _
    | (with_reducible first | assumption | apply keep_refreshWord | apply keep_foldl)
    | split

/-! ### Frame.lean -/

theorem keep_publishM0 {n₀ : Nat} {q₀ : List Instr} (s : State) (seq : Word) (o : Option HeldM0) (hk : Keep n₀ q₀ s) :
    Keep n₀ q₀ (State.publishM0 s seq o) := by
  unfold State.publishM0
  try dsimp only
  repeat' first
    | (with_reducible first | assumption | apply keep_publishStv | apply keep_publishCur)
    | split

theorem keep_publishCells {n₀ : Nat} {q₀ : List Instr} (s : State) (k : ℕ) (f : DieFrame) (hk : Keep n₀ q₀ s) :
    Keep n₀ q₀ (State.publishCells s k f) := by
  unfold State.publishCells
  try dsimp only
  repeat' first
    | (with_reducible first | assumption | apply keep_slotVoltages | apply keep_publishDie | apply keep_publishSpans)
    | split

theorem keep_publishRest {n₀ : Nat} {q₀ : List Instr} (s : State) (k : ℕ) (f : DieFrame) (hk : Keep n₀ q₀ s) :
    Keep n₀ q₀ (State.publishRest s k f) := by
  unfold State.publishRest
  try dsimp only
  repeat' first
    | (with_reducible first | assumption | apply keep_captureTests | apply keep_learnFrame | apply keep_balanceCurrents)
    | split

theorem keep_bufferFrame {n₀ : Nat} {q₀ : List Instr} (s : State) (x : FrameSample) (k : ℕ) (hk : Keep n₀ q₀ s) :
    Keep n₀ q₀ (State.bufferFrame s x k) := by
  unfold State.bufferFrame
  try dsimp only
  repeat' first
    | (with_reducible first | assumption | apply keep_onDie)
    | split

theorem keep_publishLate {n₀ : Nat} {q₀ : List Instr} (s : State) (k : ℕ) (hk : Keep n₀ q₀ s) :
    Keep n₀ q₀ (State.publishLate s k) := by
  unfold State.publishLate
  try dsimp only
  repeat' first
    | intro _
    | (with_reducible first | assumption | apply keep_applyIf | apply keep_publishCells | apply keep_publishM0 | apply keep_onDie)
    | (with_reducible first | apply keep_publishRest)
    | split

theorem keep_bleedAll {n₀ : Nat} {q₀ : List Instr} (s : State) (x : FrameSample) (hk : Keep n₀ q₀ s) :
    Keep n₀ q₀ (State.bleedAll s x) := by
  unfold State.bleedAll
  try dsimp only
  repeat' first
    | intro _
    | (with_reducible first | assumption | apply keep_bleed | apply keep_ite | apply keep_foldl)
    | split

theorem keep_publishFrame {n₀ : Nat} {q₀ : List Instr} (s : State) (x : FrameSample) (hk : Keep n₀ q₀ s) :
    Keep n₀ q₀ (State.publishFrame s x) := by
  unfold State.publishFrame
  try dsimp only
  repeat' first
    | intro _
    | (with_reducible first | assumption | apply keep_bleedAll | apply keep_applyIf | apply keep_loseM0 | apply keep_calMissed)
    | (with_reducible first | apply keep_bufferFrame | apply keep_publishCells | apply keep_publishM0 | apply keep_publishRest)
    | (with_reducible first | apply keep_cmpBoundary | apply keep_publishLoads | apply keep_foldl)
    | split

theorem keep_sageCapture {n₀ : Nat} {q₀ : List Instr} (s : State) (seq : ℕ) (time : ℕ) (hk : Keep n₀ q₀ s) :
    Keep n₀ q₀ (State.sageCapture s seq time) := by
  unfold State.sageCapture
  try dsimp only
  repeat' first
    | (with_reducible first | assumption | apply keep_onSage | apply keep_ite)
    | split

theorem keep_dropSageFrames {n₀ : Nat} {q₀ : List Instr} (s : State) (hk : Keep n₀ q₀ s) :
    Keep n₀ q₀ (State.dropSageFrames s) := by
  unfold State.dropSageFrames
  try dsimp only
  repeat' first
    | (with_reducible first | assumption | apply keep_onSage)
    | split

theorem keep_sampleAll {n₀ : Nat} {q₀ : List Instr} (s : State) (x : FrameSample) (hk : Keep n₀ q₀ s) :
    Keep n₀ q₀ (State.sampleAll s x) := by
  unfold State.sampleAll
  try dsimp only
  repeat' first
    | intro _
    | (with_reducible first | assumption | apply keep_onDie | apply keep_noteStrobes | apply keep_sampleM0 | apply keep_missM0)
    | (with_reducible first | apply keep_applyIf | apply keep_flag | apply keep_ite | apply keep_foldl)
    | split

theorem keep_readRails {n₀ : Nat} {q₀ : List Instr} (s : State) (x : FrameSample) (hk : Keep n₀ q₀ s) :
    Keep n₀ q₀ (State.readRails s x) := by
  unfold State.readRails
  try dsimp only
  repeat' first
    | intro _
    | (with_reducible first | assumption | apply keep_set | apply keep_applyIf | apply keep_setOn | apply keep_showStore)
    | split

theorem keep_readSupplies {n₀ : Nat} {q₀ : List Instr} (s : State) (x : FrameSample) (hk : Keep n₀ q₀ s) :
    Keep n₀ q₀ (State.readSupplies s x) := by
  unfold State.readSupplies
  try dsimp only
  repeat' first
    | intro _
    | (with_reducible first | assumption | apply keep_readRails | apply keep_brakeFrame | apply keep_prtFrame | apply keep_showBootstraps)
    | (with_reducible first | apply keep_set | apply keep_ite | apply keep_foldl)
    | split

theorem keep_checkLeakage {n₀ : Nat} {q₀ : List Instr} (s : State) (x : FrameSample) (hk : Keep n₀ q₀ s) :
    Keep n₀ q₀ (State.checkLeakage s x) := by
  unfold State.checkLeakage
  try dsimp only
  repeat' first
    | intro _
    | (with_reducible first | assumption | apply keep_onPwr | apply keep_listed | apply keep_ite | apply keep_foldl)
    | split

theorem keep_takePeriod {n₀ : Nat} {q₀ : List Instr} (s : State) (flagged : Bool) (hk : Keep n₀ q₀ s) :
    Keep n₀ q₀ (State.takePeriod s flagged) := by
  unfold State.takePeriod
  try dsimp only
  repeat' first
    | intro _
    | (with_reducible first | assumption | apply keep_showLoad | apply keep_applyIf | apply keep_set | apply keep_flag)
    | split

theorem keep_beginSwitches {n₀ : Nat} {q₀ : List Instr} (s : State) (x : FrameSample) (n : ℕ) (hk : Keep n₀ q₀ s) :
    Keep n₀ q₀ (State.beginSwitches s x n) := by
  unfold State.beginSwitches
  try dsimp only
  repeat' first
    | intro _
    | (with_reducible first | assumption | apply keep_noteTaps | apply keep_openElapsed | apply keep_sampleAll | apply keep_applyIf)
    | (with_reducible first | apply keep_openAllSwitches | apply keep_markCorrected | apply keep_balanceBoundary | apply keep_testBoundary)
    | (with_reducible first | apply keep_foldl)
    | split

theorem keep_beginQuiet {n₀ : Nat} {q₀ : List Instr} (s : State) (hk : Keep n₀ q₀ s) :
    Keep n₀ q₀ (State.beginQuiet s) := by
  unfold State.beginQuiet
  try dsimp only
  repeat' first
    | intro _
    | (with_reducible first | assumption | apply keep_moveGain | apply keep_captureSpans | apply keep_foldl)
    | split

theorem keep_beginFrame {n₀ : Nat} {q₀ : List Instr} (s : State) (x : FrameSample) (hk : Keep n₀ q₀ s) :
    Keep n₀ q₀ (State.beginFrame s x) := by
  unfold State.beginFrame
  try dsimp only
  repeat' first
    | intro _
    | (with_reducible first | assumption | apply keep_beginSwitches | apply keep_onThy | apply keep_setOn | apply keep_set)
    | (with_reducible first | apply keep_readSupplies | apply keep_checkLeakage | apply keep_applyIf | apply keep_beginQuiet)
    | split

theorem keep_idleBoundary {n₀ : Nat} {q₀ : List Instr} (s : State) (x : FrameSample) (hk : Keep n₀ q₀ s) :
    Keep n₀ q₀ (State.idleBoundary s x) := by
  unfold State.idleBoundary
  try dsimp only
  repeat' first
    | (with_reducible first | assumption | apply keep_finishBoot | apply keep_readRails | apply keep_restorePaths)
    | (with_reducible first | apply keep_reach | apply keep_refreshShown)
    | split

theorem keep_nextFrame {n₀ : Nat} {q₀ : List Instr} (s : State) (x : FrameSample) (hk : Keep n₀ q₀ s) :
    Keep n₀ q₀ (State.nextFrame s x) := by
  unfold State.nextFrame
  try dsimp only
  repeat' first
    | intro _
    | (with_reducible first | assumption | apply keep_stepDelays | apply keep_restorePaths | apply keep_rejoinDies)
    | (with_reducible first | apply keep_refreshShown | apply keep_advanceTo | apply keep_publishLate | apply keep_sageCapture)
    | (with_reducible first | apply keep_publishFrame | apply keep_onThy | apply keep_set | apply keep_beginFrame)
    | (with_reducible first | apply keep_dropSageFrames | apply keep_takePeriod | apply keep_foldl)
    | split

theorem keep_execFrameBoundary {n₀ : Nat} {q₀ : List Instr} (x : FrameSample) (s : State) (hk : Keep n₀ q₀ s) :
    Goes n₀ q₀ (execFrameBoundary x s) := by
  unfold execFrameBoundary
  try dsimp only
  repeat' first
    | (with_reducible first | assumption | apply keep_nextFrame | apply keep_idleBoundary | apply goes_next | apply goes_ite)
    | split

theorem keep_execFirmwareEval {n₀ : Nat} {q₀ : List Instr} (s : State) (hk : Keep n₀ q₀ s) :
    Goes n₀ q₀ (execFirmwareEval s) := by
  unfold execFirmwareEval
  try dsimp only
  repeat' first
    | intro _
    | (with_reducible first | assumption | apply keep_publishLate | apply keep_applyIf | apply keep_sageCapture | apply keep_evalPublication)
    | (with_reducible first | apply goes_next | apply goes_ite | apply keep_foldl)
    | split

theorem keep_atRun {n₀ : Nat} {q₀ : List Instr} (s : State) (hk : Keep n₀ q₀ s) :
    Keep n₀ q₀ (State.atRun s) := by
  unfold State.atRun
  try dsimp only
  repeat' first
    | intro _
    | (simp only [keep_mk, List.length_set]; with_reducible apply keep_fold)
    | (with_reducible first | assumption | apply keep_raise | apply keep_onStk | apply keep_applyIf | apply keep_listed)
    | (with_reducible first | apply keep_onRing | apply keep_roundOfAll | apply keep_setAxState | apply keep_settleAttn)
    | (with_reducible first | apply keep_raiseCond | apply keep_showRoles | apply keep_safetyEval | apply keep_applySch)
    | (with_reducible first | apply keep_ite | apply keep_foldl)
    | split

theorem keep_execEnterRun {n₀ : Nat} {q₀ : List Instr} (x : FrameSample) (s : State) (hk : Keep n₀ q₀ s) :
    Goes n₀ q₀ (execEnterRun x s) := by
  unfold execEnterRun
  try dsimp only
  repeat' first
    | intro _
    | (with_reducible first | assumption | apply keep_finishBoot | apply keep_onThy | apply keep_onPwr | apply keep_advanceTo)
    | (with_reducible first | apply keep_set | apply keep_cmpHold | apply keep_beginFrame | apply keep_loadsAtRun)
    | (with_reducible first | apply keep_takePeriod | apply keep_restorePaths | apply keep_bayAtRun | apply keep_atRun)
    | (with_reducible first | apply keep_applyIf | apply keep_releaseLine | apply goes_next | apply goes_ite)
    | split

theorem keep_execServoTick {n₀ : Nat} {q₀ : List Instr} (xs : List AxisSample) (s : State) (hk : Keep n₀ q₀ s) :
    Goes n₀ q₀ (execServoTick xs s) := by
  unfold execServoTick
  try dsimp only
  repeat' first
    | intro _
    | (simp only [keep_mk, List.length_set]; with_reducible apply keep_fold)
    | (with_reducible first | assumption | apply keep_advanceTo | apply keep_tickAxis | apply keep_applyIf | apply keep_safetyEval)
    | (with_reducible first | apply keep_showRoles | apply goes_next | apply keep_ite | apply goes_ite | apply keep_foldl)
    | split

theorem keep_execClockCheckWindow {n₀ : Nat} {q₀ : List Instr} (dev : ℤ) (s : State) (hk : Keep n₀ q₀ s) :
    Goes n₀ q₀ (execClockCheckWindow dev s) := by
  unfold execClockCheckWindow
  try dsimp only
  repeat' first
    | intro _
    | (with_reducible first | assumption | apply keep_applyIf | apply keep_listed | apply keep_clockWindow | apply goes_next)
    | (with_reducible first | apply goes_ite)
    | split

/-! ### Access.lean -/

theorem keep_beforeRead {n₀ : Nat} {q₀ : List Instr} (s : State) (page : ℕ) (word : ℕ) (hk : Keep n₀ q₀ s) :
    Keep n₀ q₀ (State.beforeRead s page word) := by
  unfold State.beforeRead
  try dsimp only
  repeat' first
    | (with_reducible first | assumption | apply keep_fetchLive | apply keep_ite)
    | split

theorem keep_readEffect {n₀ : Nat} {q₀ : List Instr} (s : State) (l : Link) (page : ℕ) (word : ℕ) (hk : Keep n₀ q₀ s) :
    Keep n₀ q₀ (State.readEffect s l page word) := by
  unfold State.readEffect
  try dsimp only
  repeat' first
    | (with_reducible first | assumption | apply keep_setReg | apply keep_onLink | apply keep_advanceEntry | apply keep_put)
    | (with_reducible first | apply keep_ite)
    | split

theorem keep_takeWord {n₀ : Nat} {q₀ : List Instr} (s : State) (l : Link) (page : ℕ) (word : ℕ) (hk : Keep n₀ q₀ s) :
    Keep n₀ q₀ (State.takeWord s l page word).1 := by
  unfold State.takeWord
  try dsimp only
  repeat' first
    | (with_reducible first | assumption | apply keep_beforeRead | apply keep_readEffect)
    | split

theorem keep_markSeen {n₀ : Nat} {q₀ : List Instr} (s : State) (l : Link) (page : ℕ) (word : ℕ) (hk : Keep n₀ q₀ s) :
    Keep n₀ q₀ (State.markSeen s l page word) := by
  unfold State.markSeen
  try dsimp only
  repeat' first
    | (with_reducible first | assumption | apply keep_onLink | apply keep_ite)
    | split

theorem keep_forgetSeen {n₀ : Nat} {q₀ : List Instr} (s : State) (l : Link) (page : ℕ) (hk : Keep n₀ q₀ s) :
    Keep n₀ q₀ (State.forgetSeen s l page) := by
  unfold State.forgetSeen
  try dsimp only
  repeat' first
    | (with_reducible first | assumption | apply keep_onLink)
    | split

end Sys2Proof.Machine
end

