-- ==== Sys2Proof/Laws/Keep5.lean ====
section
/-! SUPPORT. What the operations of Write.lean, Host.lean, Redundancy.lean, HostRows.lean keep (see `Keep`). -/
set_option linter.unreachableTactic false
set_option linter.unusedTactic false
set_option linter.unusedSimpArgs false
set_option linter.unusedVariables false
namespace Sys2Proof.Machine
open Host

/-! ### Write.lean -/

theorem keep_logClamp {n₀ : Nat} {q₀ : List Instr} (s : State) (page : ℕ) (word : ℕ) (c : Clamp) (hk : Keep n₀ q₀ s) :
    Keep n₀ q₀ (State.logClamp s page word c) := by
  unfold State.logClamp
  try dsimp only
  repeat' first
    | (with_reducible first | assumption | apply keep_setReg | apply keep_put | apply keep_journalWrite | apply keep_flag)
    | (with_reducible first | apply keep_set | apply keep_count)
    | split

theorem keep_logClamps {n₀ : Nat} {q₀ : List Instr} (s : State) (page : ℕ) (word : ℕ) (l : List Clamp) (hk : Keep n₀ q₀ s) :
    Keep n₀ q₀ (State.logClamps s page word l) := by
  unfold State.logClamps
  try dsimp only
  repeat' first
    | intro _
    | (with_reducible first | assumption | apply keep_logClamp | apply keep_foldl)
    | split

theorem keep_resetResults {n₀ : Nat} {q₀ : List Instr} (s : State) (page : Nat) (hk : Keep n₀ q₀ s) :
    Keep n₀ q₀ (State.resetResults s page) := by
  unfold State.resetResults
  refine keep_applyIf (fun t ht => keep_publish ht) ?_
  exact ⟨regsWf_filter _ hk.1, hk.2⟩

theorem keep_resetBalance {n₀ : Nat} {q₀ : List Instr} (s : State) (k : ℕ) (hk : Keep n₀ q₀ s) :
    Keep n₀ q₀ (State.resetBalance s k) := by
  unfold State.resetBalance
  try dsimp only
  repeat' first
    | (with_reducible first | assumption | apply keep_onBal | apply keep_setOn)
    | split

theorem keep_resetAxis {n₀ : Nat} {q₀ : List Instr} (s : State) (a : ℕ) (before : State) (hk : Keep n₀ q₀ s) :
    Keep n₀ q₀ (State.resetAxis s a before) := by
  unfold State.resetAxis
  try dsimp only
  repeat' first
    | intro _
    | (with_reducible first | assumption | apply keep_set | apply keep_setHomed | apply keep_onAxis | apply keep_setAxState)
    | (with_reducible first | apply keep_foldl)
    | split

theorem keep_resetBridge {n₀ : Nat} {q₀ : List Instr} (s : State) (a : ℕ) (hk : Keep n₀ q₀ s) :
    Keep n₀ q₀ (State.resetBridge s a) := by
  unfold State.resetBridge
  try dsimp only
  repeat' first
    | (with_reducible first | assumption | apply keep_onGate | apply keep_quietGate | apply keep_setAxState | apply keep_onAxis)
    | split

theorem keep_resetChannels {n₀ : Nat} {q₀ : List Instr} (s : State) (i : ℕ) (hk : Keep n₀ q₀ s) :
    Keep n₀ q₀ (State.resetChannels s i) := by
  unfold State.resetChannels
  try dsimp only
  repeat' first
    | intro _
    | (with_reducible first | assumption | apply keep_onChan | apply keep_set | apply keep_foldl)
    | split

theorem keep_resetRing {n₀ : Nat} {q₀ : List Instr} (s : State) (addr : ℕ) (dup : Bool) (hk : Keep n₀ q₀ s) :
    Keep n₀ q₀ (State.resetRing s addr dup) := by
  unfold State.resetRing
  try dsimp only
  repeat' first
    | (with_reducible first | assumption | apply keep_onRing | apply keep_onProt | apply keep_showHeld | apply keep_setOn)
    | (with_reducible first | apply keep_set)
    | split

theorem keep_resetGdie {n₀ : Nat} {q₀ : List Instr} (s : State) (hk : Keep n₀ q₀ s) :
    Keep n₀ q₀ (State.resetGdie s) := by
  unfold State.resetGdie
  try dsimp only
  repeat' first
    | (with_reducible first | assumption | apply keep_onGate)
    | split

theorem keep_disableBlock {n₀ : Nat} {q₀ : List Instr} (s : State) (page : ℕ) (hk : Keep n₀ q₀ s) :
    Keep n₀ q₀ (State.disableBlock s page) := by
  unfold State.disableBlock
  try dsimp only
  repeat' first
    | intro _
    | (with_reducible first | assumption | apply keep_onBal | apply keep_learnAbort | apply keep_setAxState | apply keep_bridgeOff)
    | (with_reducible first | apply keep_ite | apply keep_foldl)
    | split

theorem keep_resetBlock {n₀ : Nat} {q₀ : List Instr} (s : State) (page : ℕ) (hk : Keep n₀ q₀ s) :
    Keep n₀ q₀ (State.resetBlock s page) := by
  unfold State.resetBlock
  try dsimp only
  repeat' first
    | (simp only [keep_mk, List.length_set]; with_reducible apply keep_fold)
    | (with_reducible refine keep_onLs _ _ (fun _ h => by simp [h, chanList]) ?_)
    | (with_reducible first | assumption | apply keep_resetResults | apply keep_resetBalance | apply keep_resetAxis)
    | (with_reducible first | apply keep_resetBridge | apply keep_resetGdie | apply keep_resetChannels | apply keep_resetRing)
    | (with_reducible first | apply keep_ite)
    | split

theorem keep_refuse {n₀ : Nat} {q₀ : List Instr} (s : State) (code : ℕ) (hk : Keep n₀ q₀ s) :
    Keep n₀ q₀ (State.refuse s code).state := by
  unfold State.refuse
  try dsimp only
  repeat' first
    | (with_reducible first | assumption)
    | split

theorem keep_endWrite {n₀ : Nat} {q₀ : List Instr} (page word : Nat) (clamps : List Clamp) (r : State × Option Nat) (hk : Keep n₀ q₀ r.1) :
    Keep n₀ q₀ (endWrite page word clamps r).state := by
  unfold endWrite
  split
  · exact hk
  · exact keep_logClamps _ _ _ _ hk

theorem keep_writePctl {n₀ : Nat} {q₀ : List Instr} (s : State) (page : ℕ) (v : Word) (hk : Keep n₀ q₀ s) :
    Keep n₀ q₀ (State.writePctl s page v).state := by
  unfold State.writePctl
  try dsimp only
  repeat' first
    | intro _
    | (with_reducible first | assumption | apply keep_refuse | apply keep_setReg | apply keep_applyIf | apply keep_disableBlock)
    | (with_reducible first | apply keep_endWrite | apply keep_resetBlock)
    | split

theorem keep_writeIflag {n₀ : Nat} {q₀ : List Instr} (s : State) (page : ℕ) (v : Word) (hk : Keep n₀ q₀ s) :
    Keep n₀ q₀ (State.writeIflag s page v).state := by
  unfold State.writeIflag
  try dsimp only
  repeat' first
    | (with_reducible first | assumption | apply keep_endWrite | apply keep_setReg)
    | split

theorem keep_writeImask {n₀ : Nat} {q₀ : List Instr} (s : State) (page : ℕ) (v : Word) (hk : Keep n₀ q₀ s) :
    Keep n₀ q₀ (State.writeImask s page v).state := by
  unfold State.writeImask
  try dsimp only
  repeat' first
    | (with_reducible first | assumption | apply keep_endWrite | apply keep_setReg)
    | split

theorem keep_writeShadow {n₀ : Nat} {q₀ : List Instr} (s : State) (row : RegRow) (page : ℕ) (word : ℕ) (v : Word) (hk : Keep n₀ q₀ s) :
    Keep n₀ q₀ (State.writeShadow s row page word v).state := by
  unfold State.writeShadow
  try dsimp only
  repeat' first
    | (with_reducible first | assumption | apply keep_endWrite | apply keep_markPending | apply keep_setShadow)
    | split

theorem keep_onSel {n₀ : Nat} {q₀ : List Instr} (s : State) (l : Link) (f : Selectors → Selectors) (hk : Keep n₀ q₀ s) :
    Keep n₀ q₀ (State.onSel s l f) := by
  unfold State.onSel
  try dsimp only
  repeat' first
    | (with_reducible first | assumption | apply keep_onLink)
    | split

theorem keep_writeEpochHi {n₀ : Nat} {q₀ : List Instr} (s : State) (l : Link) (v : Word) (hk : Keep n₀ q₀ s) :
    Keep n₀ q₀ (State.writeEpochHi s l v) := by
  unfold State.writeEpochHi
  try dsimp only
  repeat' first
    | (with_reducible first | assumption | apply keep_setReg | apply keep_onLink | apply keep_send)
    | split

theorem keep_writeLearn {n₀ : Nat} {q₀ : List Instr} (s : State) (k : ℕ) (v : Word) (hk : Keep n₀ q₀ s) :
    Keep n₀ q₀ (State.writeLearn s k v).1 := by
  unfold State.writeLearn
  try dsimp only
  repeat' first
    | (with_reducible first | assumption | apply keep_learnStart | apply keep_learnAbort)
    | split

theorem keep_writeMbox {n₀ : Nat} {q₀ : List Instr} (s : State) (w : ℕ) (v : Word) (hk : Keep n₀ q₀ s) :
    Keep n₀ q₀ (State.writeMbox s w v).1 := by
  unfold State.writeMbox
  try dsimp only
  repeat' first
    | (with_reducible first | assumption | apply keep_onBay | apply keep_submitMailbox)
    | split

theorem keep_commandLow {n₀ : Nat} {q₀ : List Instr} (s : State) (l : Link) (page : ℕ) (word : ℕ) (v : Word) (hk : Keep n₀ q₀ s) :
    Keep n₀ q₀ (State.commandLow s l page word v).1 := by
  unfold State.commandLow
  try dsimp only
  repeat' first
    | (with_reducible first | assumption | apply keep_setReg | apply keep_writeDiscard | apply keep_writeFwctl | apply keep_writeFwdata)
    | (with_reducible first | apply keep_writeUnlock | apply keep_writeNewpw | apply keep_writeDefault | apply keep_onLink)
    | (with_reducible first | apply keep_writeEpochHi | apply keep_writeTmpCmd | apply keep_writeReset | apply keep_writeLayup)
    | (with_reducible first | apply keep_writeZero | apply keep_writeCal | apply keep_onSel | apply keep_writeMbox)
    | (with_reducible first | apply keep_writeTblSel | apply keep_writeTblData | apply keep_writeTblCmd | apply keep_writeSgeCmd)
    | (with_reducible first | apply keep_writeSgcBank | apply keep_writeSgcReset | apply keep_writeZsel | apply keep_writeAutSel)
    | (with_reducible first | apply keep_writeKeydata | apply keep_writeAutCmd)
    | split

theorem keep_commandMid {n₀ : Nat} {q₀ : List Instr} (s : State) (l : Link) (page : ℕ) (word : ℕ) (v : Word) (hk : Keep n₀ q₀ s) :
    Keep n₀ q₀ (State.commandMid s l page word v).1 := by
  unfold State.commandMid
  try dsimp only
  repeat' first
    | (with_reducible first | assumption | apply keep_writePrtCmd | apply keep_writeWeldclr | apply keep_writeFlclr)
    | (with_reducible first | apply keep_writeOwreq | apply keep_writeKrgCmd | apply keep_writeSnap | apply keep_forgetSeen)
    | (with_reducible first | apply keep_onSel | apply keep_writeClear | apply keep_writeAck | apply keep_writeUnlock)
    | (with_reducible first | apply keep_writeNewpw | apply keep_writeSafCmd | apply keep_setReg)
    | split

theorem keep_commandHigh {n₀ : Nat} {q₀ : List Instr} (s : State) (page : ℕ) (word : ℕ) (v : Word) (hk : Keep n₀ q₀ s) :
    Keep n₀ q₀ (State.commandHigh s page word v).1 := by
  unfold State.commandHigh
  try dsimp only
  repeat' first
    | (with_reducible first | assumption | apply keep_writeLearn | apply keep_writeSwclr | apply keep_writeMotCmd)
    | (with_reducible first | apply keep_writeAxCmd | apply keep_writeGdCmd | apply keep_writeGpulse | apply keep_writeLsOut)
    | (with_reducible first | apply keep_writeLsClr | apply keep_setReg)
    | split

theorem keep_command {n₀ : Nat} {q₀ : List Instr} (s : State) (l : Link) (page : ℕ) (word : ℕ) (v : Word) (hk : Keep n₀ q₀ s) :
    Keep n₀ q₀ (State.command s l page word v).1 := by
  unfold State.command
  try dsimp only
  repeat' first
    | (with_reducible first | assumption | apply keep_commandLow | apply keep_commandMid | apply keep_commandHigh)
    | split

theorem keep_writeFitted {n₀ : Nat} {q₀ : List Instr} (s : State) (l : Link) (page : ℕ) (word : ℕ) (v : Word) (hk : Keep n₀ q₀ s) :
    Keep n₀ q₀ (State.writeFitted s l page word v).state := by
  unfold State.writeFitted
  try dsimp only
  repeat' first
    | (with_reducible first | assumption | apply keep_writePctl | apply keep_writeIflag | apply keep_writeImask | apply keep_refuse)
    | (with_reducible first | apply keep_endWrite | apply keep_requestCommit | apply keep_writeShadow | apply keep_command)
    | split

/-! ### Host.lean -/

theorem keep_serveRead {n₀ : Nat} {q₀ : List Instr} (s : State) (l : Link) (page : ℕ) (word : ℕ) (requested : Word) (hk : Keep n₀ q₀ s) :
    Keep n₀ q₀ (State.serveRead s l page word requested).1 := by
  unfold State.serveRead
  try dsimp only
  repeat' first
    | (with_reducible first | assumption | apply keep_takeWord | apply keep_markSeen)
    | split

theorem keep_runWrite {n₀ : Nat} {q₀ : List Instr} (s : State) (l : Link) (page : ℕ) (word : ℕ) (v : Word) (hk : Keep n₀ q₀ s) :
    Keep n₀ q₀ (State.runWrite s l page word v).state := by
  unfold State.runWrite
  try dsimp only
  repeat' first
    | intro _
    | (simp only [keep_mk, List.length_set]; with_reducible apply keep_fold)
    | (with_reducible first | assumption | apply keep_refuse | apply keep_writeFitted | apply keep_applyIf | apply keep_WriteEnd_state)
    | split

theorem keep_snapWord {n₀ : Nat} {q₀ : List Instr} (s : State) (l : Link) (page : Nat) (acc : State × List BurstWord) (word : Nat)
    (hk : Keep n₀ q₀ acc.1) : Keep n₀ q₀ (State.snapWord s l page acc word).1 := by
  unfold State.snapWord
  try dsimp only
  repeat' (with_reducible first | assumption | apply keep_takeWord)

theorem keep_serveBurst {n₀ : Nat} {q₀ : List Instr} (s : State) (l : Link) (page word : Nat) (v : Word) (hk : Keep n₀ q₀ s) :
    Keep n₀ q₀ (State.serveBurst s l page word v).1 := by
  unfold State.serveBurst
  split
  · exact hk
  · exact keep_onLink _ _ _ (keep_foldl (fun t w h => keep_markSeen t l page w h)
      (keep_foldl_fst (fun a x ha => keep_snapWord s l page a x ha) hk))

theorem keep_serveNop {n₀ : Nat} {q₀ : List Instr} (s : State) (l : Link) (page : ℕ) (word : ℕ) (hk : Keep n₀ q₀ s) :
    Keep n₀ q₀ (State.serveNop s l page word).1 := by
  unfold State.serveNop
  try dsimp only
  repeat' first
    | (with_reducible first | assumption | apply keep_onLink)
    | split

theorem keep_serveCommit {n₀ : Nat} {q₀ : List Instr} (s : State) (l : Link) (page : ℕ) (word : ℕ) (v : Word) (hk : Keep n₀ q₀ s) :
    Keep n₀ q₀ (State.serveCommit s l page word v).1 := by
  unfold State.serveCommit
  try dsimp only
  repeat' first
    | (with_reducible first | assumption | apply keep_requestCommit)
    | split

theorem keep_showQueue {n₀ : Nat} {q₀ : List Instr} (s : State) (hk : Keep n₀ q₀ s) :
    Keep n₀ q₀ (State.showQueue s) := by
  unfold State.showQueue
  try dsimp only
  repeat' first
    | (with_reducible first | assumption | apply keep_set)
    | split

theorem keep_queueWrite {n₀ : Nat} {q₀ : List Instr} (s : State) (l : Link) (page : ℕ) (word : ℕ) (v : Word) (hk : Keep n₀ q₀ s) :
    Keep n₀ q₀ (State.queueWrite s l page word v).1 := by
  unfold State.queueWrite
  try dsimp only
  repeat' first
    | (simp only [keep_mk, List.length_set]; with_reducible apply keep_fold)
    | (with_reducible first | assumption | apply keep_runWrite | apply keep_flag | apply keep_showQueue)
    | split

theorem keep_serveWrite {n₀ : Nat} {q₀ : List Instr} (s : State) (l : Link) (page : ℕ) (word : ℕ) (v : Word) (hk : Keep n₀ q₀ s) :
    Keep n₀ q₀ (State.serveWrite s l page word v).1 := by
  unfold State.serveWrite
  try dsimp only
  repeat' first
    | (with_reducible first | assumption | apply keep_queueWrite | apply keep_runWrite | apply keep_WriteEnd_state)
    | split

theorem keep_perform {n₀ : Nat} {q₀ : List Instr} (s : State) (l : Link) (op : ℕ) (rsv : ℕ) (page : ℕ) (word : ℕ) (data : Word) (hk : Keep n₀ q₀ s) :
    Keep n₀ q₀ (State.perform s l op rsv page word data).1 := by
  unfold State.perform
  try dsimp only
  repeat' first
    | intro _
    | (with_reducible first | assumption | apply keep_applyIf | apply keep_refreshShown | apply keep_onLink | apply keep_serveNop)
    | (with_reducible first | apply keep_serveRead | apply keep_serveWrite | apply keep_serveBurst | apply keep_serveCommit)
    | split

theorem keep_performBits {n₀ : Nat} {q₀ : List Instr} (s : State) (l : Link) (r : BitVec 64) (hk : Keep n₀ q₀ s) :
    Keep n₀ q₀ (State.performBits s l r).1 := by
  unfold State.performBits
  try dsimp only
  repeat' first
    | (with_reducible first | assumption | apply keep_acquireLease | apply keep_perform)
    | split

theorem keep_endReply {n₀ : Nat} {q₀ : List Instr} (s : State) (l : Link) (held : Bool) (hk : Keep n₀ q₀ s) :
    Keep n₀ q₀ (State.endReply s l held) := by
  unfold State.endReply
  try dsimp only
  repeat' first
    | intro _
    | (with_reducible first | assumption | apply keep_applyIf | apply keep_releaseLease)
    | split

theorem keep_shiftOut {n₀ : Nat} {q₀ : List Instr} (s : State) (l : Link) (r : Reply) (hk : Keep n₀ q₀ s) :
    Keep n₀ q₀ (State.shiftOut s l r) := by
  unfold State.shiftOut
  try dsimp only
  repeat' first
    | (with_reducible first | assumption | apply keep_onLink)
    | split

theorem keep_notReady {n₀ : Nat} {q₀ : List Instr} (s : State) (hk : Keep n₀ q₀ s) :
    Keep n₀ q₀ (State.notReady s) := by
  unfold State.notReady
  try dsimp only
  repeat' first
    | (with_reducible first | assumption | apply keep_flag | apply keep_count | apply keep_shiftOut)
    | split

theorem keep_countFrameErr {n₀ : Nat} {q₀ : List Instr} (s : State) (hk : Keep n₀ q₀ s) :
    Keep n₀ q₀ (State.countFrameErr s) := by
  unfold State.countFrameErr
  try dsimp only
  repeat' first
    | (with_reducible first | assumption | apply keep_flag | apply keep_count)
    | split

theorem keep_formSpi {n₀ : Nat} {q₀ : List Instr} (s : State) (r : Reply) (hk : Keep n₀ q₀ s) :
    Keep n₀ q₀ (State.formSpi s r) := by
  unfold State.formSpi
  try dsimp only
  repeat' first
    | (with_reducible first | assumption | apply keep_onLink)
    | split

theorem keep_beginSpi {n₀ : Nat} {q₀ : List Instr} (s : State) (page : ℕ) (word : ℕ) (hk : Keep n₀ q₀ s) :
    Keep n₀ q₀ (State.beginSpi s page word).1 := by
  unfold State.beginSpi
  try dsimp only
  repeat' first
    | (with_reducible first | assumption | apply keep_notReady | apply keep_onLink | apply keep_shiftOut)
    | split

theorem keep_queueWait {n₀ : Nat} {q₀ : List Instr} (s : State) (l : Link) (hk : Keep n₀ q₀ s) :
    Keep n₀ q₀ (State.queueWait s l) := by
  unfold State.queueWait
  try dsimp only
  repeat' first
    | (simp only [keep_mk, List.length_set]; with_reducible apply keep_fold)
    | (with_reducible first | assumption)
    | split

theorem keep_runSpi {n₀ : Nat} {q₀ : List Instr} (s : State) (r : BitVec 64) (hk : Keep n₀ q₀ s) :
    Keep n₀ q₀ (State.runSpi s r) := by
  unfold State.runSpi
  try dsimp only
  repeat' first
    | (with_reducible first | assumption | apply keep_performBits | apply keep_endReply | apply keep_onLink | apply keep_formSpi)
    | (with_reducible first | apply keep_queueWait)
    | split

theorem keep_spiFrame {n₀ : Nat} {q₀ : List Instr} (s : State) (r : BitVec 64) (hk : Keep n₀ q₀ s) :
    Keep n₀ q₀ (State.spiFrame s r) := by
  unfold State.spiFrame
  try dsimp only
  repeat' first
    | (with_reducible first | assumption | apply keep_beginSpi | apply keep_runSpi | apply keep_ite)
    | split

theorem keep_sendReply {n₀ : Nat} {q₀ : List Instr} (s : State) (l : Link) (f : CanPend) (hk : Keep n₀ q₀ s) :
    Keep n₀ q₀ (State.sendReply s l f) := by
  unfold State.sendReply
  try dsimp only
  repeat' first
    | (with_reducible first | assumption | apply keep_sendCan)
    | split

theorem keep_serveCan {n₀ : Nat} {q₀ : List Instr} (l : Link) (k : Nat) (s : State) (hk : Keep n₀ q₀ s) :
    Keep n₀ q₀ (State.serveCan l k s) := by
  induction k generalizing s with
  | zero => exact hk
  | succ k ih =>
    unfold State.serveCan
    try dsimp only
    repeat' first
      | intro _
      | with_reducible assumption
      | (simp only [keep_mk, List.length_set]; with_reducible apply keep_fold)
      | with_reducible apply ih
      | with_reducible apply keep_sendReply
      | with_reducible apply keep_onLink
      | with_reducible apply keep_shiftOut
      | with_reducible apply keep_performBits
      | with_reducible apply goes_next
      | with_reducible apply keep_ite
      | with_reducible apply goes_ite
      | with_reducible apply keep_foldl
      | split

theorem keep_runCan {n₀ : Nat} {q₀ : List Instr} (s : State) (l : Link) (hk : Keep n₀ q₀ s) :
    Keep n₀ q₀ (State.runCan s l) := by
  unfold State.runCan
  try dsimp only
  repeat' first
    | (with_reducible first | assumption | apply keep_endReply | apply keep_serveCan)
    | split

theorem keep_dropFrame {n₀ : Nat} {q₀ : List Instr} (s : State) (port : ℕ) (hk : Keep n₀ q₀ s) :
    Keep n₀ q₀ (State.dropFrame s port) := by
  unfold State.dropFrame
  try dsimp only
  repeat' first
    | (with_reducible first | assumption | apply keep_flag)
    | split

theorem keep_canFrame {n₀ : Nat} {q₀ : List Instr} (s : State) (port : ℕ) (f : CanFrame) (hk : Keep n₀ q₀ s) :
    Keep n₀ q₀ (State.canFrame s port f) := by
  unfold State.canFrame
  try dsimp only
  repeat' first
    | (with_reducible first | assumption | apply keep_dropFrame | apply keep_onLink | apply keep_runCan | apply keep_queueWait)
    | (with_reducible first | apply keep_ite)
    | split

theorem keep_submitBits {n₀ : Nat} {q₀ : List Instr} (s : State) (l : Link) (r : BitVec 64) (hk : Keep n₀ q₀ s) :
    Keep n₀ q₀ (State.submitBits s l r) := by
  unfold State.submitBits
  try dsimp only
  repeat' first
    | (with_reducible first | assumption | apply keep_spiFrame | apply keep_canFrame | apply keep_ite)
    | split

theorem keep_submit {n₀ : Nat} {q₀ : List Instr} (s : State) (l : Link) (op : ℕ) (page : ℕ) (word : ℕ) (data : Word) (hk : Keep n₀ q₀ s) :
    Keep n₀ q₀ (State.submit s l op page word data) := by
  unfold State.submit
  try dsimp only
  repeat' first
    | (with_reducible first | assumption | apply keep_submitBits)
    | split

theorem keep_hostWrite {n₀ : Nat} {q₀ : List Instr} (s : State) (l : Link) (page : ℕ) (word : ℕ) (v : Word) (hk : Keep n₀ q₀ s) :
    Keep n₀ q₀ (State.hostWrite s l page word v) := by
  unfold State.hostWrite
  try dsimp only
  repeat' first
    | (with_reducible first | assumption | apply keep_submit)
    | split

theorem keep_execNop {n₀ : Nat} {q₀ : List Instr} (l : Link) (r : Req) (s : State) (hk : Keep n₀ q₀ s) :
    Goes n₀ q₀ (execNop l r s) := by
  unfold execNop
  try dsimp only
  repeat' first
    | (with_reducible first | assumption | apply keep_submit | apply goes_next)
    | split

theorem keep_execRead {n₀ : Nat} {q₀ : List Instr} (l : Link) (r : Req) (s : State) (hk : Keep n₀ q₀ s) :
    Goes n₀ q₀ (execRead l r s) := by
  unfold execRead
  try dsimp only
  repeat' first
    | (with_reducible first | assumption | apply keep_submit | apply goes_next)
    | split

theorem keep_execWrite {n₀ : Nat} {q₀ : List Instr} (l : Link) (r : Req) (s : State) (hk : Keep n₀ q₀ s) :
    Goes n₀ q₀ (execWrite l r s) := by
  unfold execWrite
  try dsimp only
  repeat' first
    | (with_reducible first | assumption | apply keep_submit | apply goes_next)
    | split

theorem keep_execBurstRead {n₀ : Nat} {q₀ : List Instr} (l : Link) (r : Req) (s : State) (hk : Keep n₀ q₀ s) :
    Goes n₀ q₀ (execBurstRead l r s) := by
  unfold execBurstRead
  try dsimp only
  repeat' first
    | (with_reducible first | assumption | apply keep_submit | apply goes_next)
    | split

theorem keep_execCommit {n₀ : Nat} {q₀ : List Instr} (l : Link) (r : Req) (s : State) (hk : Keep n₀ q₀ s) :
    Goes n₀ q₀ (execCommit l r s) := by
  unfold execCommit
  try dsimp only
  repeat' first
    | (with_reducible first | assumption | apply keep_submit | apply goes_next)
    | split

theorem keep_execStatus {n₀ : Nat} {q₀ : List Instr} (l : Link) (r : Req) (s : State) (hk : Keep n₀ q₀ s) :
    Goes n₀ q₀ (execStatus l r s) := by
  unfold execStatus
  try dsimp only
  repeat' first
    | (with_reducible first | assumption | apply keep_submit | apply goes_next)
    | split

theorem keep_execUnknownOp {n₀ : Nat} {q₀ : List Instr} (l : Link) (op : BitVec 4) (rsv : BitVec 4) (r : Req) (s : State) (hk : Keep n₀ q₀ s) :
    Goes n₀ q₀ (execUnknownOp l op rsv r s) := by
  unfold execUnknownOp
  try dsimp only
  repeat' first
    | (with_reducible first | assumption | apply keep_submitBits | apply goes_next)
    | split

theorem keep_execCrcErrorFrame {n₀ : Nat} {q₀ : List Instr} (page : Byte) (word : Byte) (s : State) (hk : Keep n₀ q₀ s) :
    Goes n₀ q₀ (execCrcErrorFrame page word s) := by
  unfold execCrcErrorFrame
  try dsimp only
  repeat' first
    | (with_reducible first | assumption | apply keep_beginSpi | apply keep_countFrameErr | apply keep_runSpi | apply goes_next)
    | (with_reducible first | apply keep_ite | apply goes_ite)
    | split

theorem keep_execSpiNotReady {n₀ : Nat} {q₀ : List Instr} (s : State) (hk : Keep n₀ q₀ s) :
    Goes n₀ q₀ (execSpiNotReady s) := by
  unfold execSpiNotReady
  try dsimp only
  repeat' first
    | (with_reducible first | assumption | apply keep_notReady | apply goes_next | apply keep_ite)
    | split

theorem keep_execCanRequestFrame {n₀ : Nat} {q₀ : List Instr} (port : Bool) (f : CanFrame) (s : State) (hk : Keep n₀ q₀ s) :
    Goes n₀ q₀ (execCanRequestFrame port f s) := by
  unfold execCanRequestFrame
  try dsimp only
  repeat' first
    | (with_reducible first | assumption | apply keep_canFrame | apply keep_hearSystem | apply goes_next | apply keep_ite)
    | split

theorem keep_canCounts {n₀ : Nat} {q₀ : List Instr} (s : State) (port : ℕ) (tec : ℕ) (rec : ℕ) (hk : Keep n₀ q₀ s) :
    Keep n₀ q₀ (State.canCounts s port tec rec) := by
  unfold State.canCounts
  try dsimp only
  repeat' first
    | (with_reducible first | assumption | apply keep_set)
    | split

theorem keep_execCanErrorPassive {n₀ : Nat} {q₀ : List Instr} (port : Bool) (tec : ℕ) (recv : ℕ) (s : State) (hk : Keep n₀ q₀ s) :
    Goes n₀ q₀ (execCanErrorPassive port tec recv s) := by
  unfold execCanErrorPassive
  try dsimp only
  repeat' first
    | (with_reducible first | assumption | apply keep_raise | apply keep_flag | apply keep_set | apply keep_canCounts)
    | (with_reducible first | apply goes_next | apply goes_ite)
    | split

theorem keep_execCanErrorActive {n₀ : Nat} {q₀ : List Instr} (port : Bool) (tec : ℕ) (recv : ℕ) (s : State) (hk : Keep n₀ q₀ s) :
    Goes n₀ q₀ (execCanErrorActive port tec recv s) := by
  unfold execCanErrorActive
  try dsimp only
  repeat' first
    | (with_reducible first | assumption | apply keep_set | apply keep_canCounts | apply goes_next | apply goes_ite)
    | split

theorem keep_execCanBusOff {n₀ : Nat} {q₀ : List Instr} (port : Bool) (s : State) (hk : Keep n₀ q₀ s) :
    Goes n₀ q₀ (execCanBusOff port s) := by
  unfold execCanBusOff
  try dsimp only
  repeat' first
    | (with_reducible first | assumption | apply keep_flag | apply keep_count | apply keep_set | apply goes_next | apply goes_ite)
    | split

theorem keep_execCanBusoffRecovery {n₀ : Nat} {q₀ : List Instr} (port : Bool) (s : State) (hk : Keep n₀ q₀ s) :
    Goes n₀ q₀ (execCanBusoffRecovery port s) := by
  unfold execCanBusoffRecovery
  try dsimp only
  repeat' first
    | (with_reducible first | assumption | apply keep_settleAttn | apply keep_set | apply keep_canCounts | apply goes_next)
    | (with_reducible first | apply goes_ite)
    | split

theorem keep_sendAttention {n₀ : Nat} {q₀ : List Instr} (s : State) (port : ℕ) (hk : Keep n₀ q₀ s) :
    Keep n₀ q₀ (State.sendAttention s port) := by
  unfold State.sendAttention
  try dsimp only
  repeat' first
    | (with_reducible first | assumption | apply keep_shiftOut | apply keep_sendCan | apply keep_onLink)
    | split

theorem keep_execAttnMessage {n₀ : Nat} {q₀ : List Instr} (port : Bool) (s : State) (hk : Keep n₀ q₀ s) :
    Goes n₀ q₀ (execAttnMessage port s) := by
  unfold execAttnMessage
  try dsimp only
  repeat' first
    | (with_reducible first | assumption | apply keep_sendAttention | apply goes_next | apply goes_ite)
    | split

theorem keep_execAttnMsgWindowEnd {n₀ : Nat} {q₀ : List Instr} (port : Bool) (s : State) (hk : Keep n₀ q₀ s) :
    Goes n₀ q₀ (execAttnMsgWindowEnd port s) := by
  unfold execAttnMsgWindowEnd
  try dsimp only
  repeat' first
    | (with_reducible first | assumption | apply keep_onLink | apply keep_advanceTo | apply keep_sendAttention | apply goes_next)
    | (with_reducible first | apply goes_ite)
    | split

/-! ### Redundancy.lean -/

theorem keep_onFlt {n₀ : Nat} {q₀ : List Instr} (s : State) (f : RedundancySt → RedundancySt) (hf : ∀ r : RedundancySt, r.leases.length = 16 → (f r).leases.length = 16)
    (hk : Keep n₀ q₀ s) : Keep n₀ q₀ (State.onFlt s f) :=
  keep_of_eq (s := s) rfl rfl rfl rfl hk fun h => ⟨h.1, h.2.1, h.2.2.1, hf _ h.2.2.2⟩

theorem keep_writeLast {n₀ : Nat} {q₀ : List Instr} (s : State) (frame : ℕ) (out : ℕ) (parity : ℕ) (tests : ℕ) (freeze : ℕ) (hk : Keep n₀ q₀ s) :
    Keep n₀ q₀ (State.writeLast s frame out parity tests freeze) := by
  unfold State.writeLast
  try dsimp only
  repeat' first
    | (with_reducible first | assumption | apply keep_put)
    | split

theorem keep_answerSpi {n₀ : Nat} {q₀ : List Instr} (s : State) (hk : Keep n₀ q₀ s) :
    Keep n₀ q₀ (State.answerSpi s) := by
  unfold State.answerSpi
  try dsimp only
  repeat' first
    | (with_reducible first | assumption | apply keep_runSpi)
    | split

theorem keep_answerCan {n₀ : Nat} {q₀ : List Instr} (s : State) (l : Link) (hk : Keep n₀ q₀ s) :
    Keep n₀ q₀ (State.answerCan s l) := by
  unfold State.answerCan
  try dsimp only
  repeat' first
    | (with_reducible first | assumption | apply keep_runCan | apply keep_queueWait | apply keep_ite)
    | split

theorem keep_answerWaiting {n₀ : Nat} {q₀ : List Instr} (s : State) (hk : Keep n₀ q₀ s) :
    Keep n₀ q₀ (State.answerWaiting s) := by
  unfold State.answerWaiting
  try dsimp only
  repeat' first
    | intro _
    | (with_reducible refine keep_onFlt _ _ (fun _ h => by simp [h, chanList]) ?_)
    | (with_reducible first | assumption | apply keep_answerSpi | apply keep_answerCan | apply keep_ite | apply keep_foldl)
    | split

theorem keep_takeJournal {n₀ : Nat} {q₀ : List Instr} (s : State) (hk : Keep n₀ q₀ s) :
    Keep n₀ q₀ (State.takeJournal s) := by
  unfold State.takeJournal
  try dsimp only
  repeat' first
    | (simp only [keep_mk, List.length_set]; with_reducible apply keep_fold)
    | (with_reducible first | assumption | apply keep_acquireLease | apply keep_ite)
    | split

theorem keep_bothFailed {n₀ : Nat} {q₀ : List Instr} (s : State) (hk : Keep n₀ q₀ s) :
    Keep n₀ q₀ (State.bothFailed s) := by
  unfold State.bothFailed
  try dsimp only
  repeat' first
    | intro _
    | (with_reducible refine keep_onFlt _ _ (fun _ h => by simp [h, chanList]) ?_)
    | (with_reducible first | assumption | apply keep_raiseSource | apply keep_setOn | apply keep_set | apply keep_listed)
    | (with_reducible first | apply keep_dropParty | apply keep_showQueue | apply keep_takeJournal | apply keep_answerWaiting)
    | (with_reducible first | apply keep_showRoles | apply keep_abortCommit | apply keep_foldl)
    | split

theorem keep_execLockstepMismatch {n₀ : Nat} {q₀ : List Instr} (parA : Bool) (parB : Bool) (s : State) (hk : Keep n₀ q₀ s) :
    Goes n₀ q₀ (execLockstepMismatch parA parB s) := by
  unfold execLockstepMismatch
  try dsimp only
  repeat' first
    | (with_reducible refine keep_onFlt _ _ (fun _ h => by simp [h, chanList]) ?_)
    | (with_reducible first | assumption | apply keep_abortCommit | apply keep_count | apply keep_setOn | apply keep_freezeLeases)
    | (with_reducible first | apply keep_journalBy | apply goes_next | apply goes_ite)
    | split

theorem keep_execArbitration {n₀ : Nat} {q₀ : List Instr} (stA : Bool) (stB : Bool) (s : State) (hk : Keep n₀ q₀ s) :
    Goes n₀ q₀ (execArbitration stA stB s) := by
  unfold execArbitration
  try dsimp only
  repeat' first
    | (with_reducible refine keep_onFlt _ _ (fun _ h => by simp [h, chanList]) ?_)
    | (with_reducible first | assumption | apply keep_advanceTo | apply keep_writeLast | apply keep_bothFailed | apply keep_answerWaiting)
    | (with_reducible first | apply keep_dropParty | apply goes_next | apply goes_ite)
    | split

theorem keep_applyQueue {n₀ : Nat} {q₀ : List Instr} (s : State) (hk : Keep n₀ q₀ s) :
    Keep n₀ q₀ (State.applyQueue s) := by
  unfold State.applyQueue
  try dsimp only
  repeat' first
    | intro _
    | (with_reducible refine keep_onFlt _ _ (fun _ h => by simp [h, chanList]) ?_)
    | (with_reducible first | assumption | apply keep_showQueue | apply keep_WriteEnd_state | apply keep_runWrite)
    | (with_reducible first | apply keep_foldl)
    | split

theorem keep_mismatchRecord {n₀ : Nat} {q₀ : List Instr} (s : State) (hk : Keep n₀ q₀ s) :
    Keep n₀ q₀ (State.mismatchRecord s) := by
  unfold State.mismatchRecord
  try dsimp only
  repeat' first
    | (with_reducible refine keep_onFlt _ _ (fun _ h => by simp [h, chanList]) ?_)
    | (with_reducible first | assumption | apply keep_flag | apply keep_send)
    | split

theorem keep_afterPause {n₀ : Nat} {q₀ : List Instr} (s : State) (hk : Keep n₀ q₀ s) :
    Keep n₀ q₀ (State.afterPause s) := by
  unfold State.afterPause
  try dsimp only
  repeat' first
    | intro _
    | (with_reducible first | assumption | apply keep_applyIf | apply keep_answerWaiting | apply keep_showRoles | apply keep_applyQueue)
    | (with_reducible first | apply keep_holdupTasks)
    | split

theorem keep_execCoreResume {n₀ : Nat} {q₀ : List Instr} (len : ℕ) (s : State) (hk : Keep n₀ q₀ s) :
    Goes n₀ q₀ (execCoreResume len s) := by
  unfold execCoreResume
  try dsimp only
  repeat' first
    | (with_reducible refine keep_onFlt _ _ (fun _ h => by simp [h, chanList]) ?_)
    | (with_reducible first | assumption | apply keep_advanceTo | apply keep_set | apply keep_setOn | apply keep_afterPause)
    | (with_reducible first | apply keep_takeJournal | apply keep_mismatchRecord | apply goes_next)
    | split

theorem keep_beginSlice {n₀ : Nat} {q₀ : List Instr} (s : State) (hk : Keep n₀ q₀ s) :
    Keep n₀ q₀ (State.beginSlice s) := by
  unfold State.beginSlice
  try dsimp only
  repeat' first
    | (with_reducible refine keep_onFlt _ _ (fun _ h => by simp [h, chanList]) ?_)
    | (with_reducible first | assumption | apply keep_setOn)
    | split

theorem keep_endSlice {n₀ : Nat} {q₀ : List Instr} (s : State) (t : ℕ) (pass : Bool) (hk : Keep n₀ q₀ s) :
    Keep n₀ q₀ (State.endSlice s t pass) := by
  unfold State.endSlice
  try dsimp only
  repeat' first
    | (with_reducible refine keep_onFlt _ _ (fun _ h => by simp [h, chanList]) ?_)
    | (with_reducible first | assumption | apply keep_setOn | apply keep_advanceTo | apply keep_set | apply keep_count)
    | (with_reducible first | apply keep_afterPause | apply keep_bothFailed | apply keep_writeLast | apply keep_ite)
    | split

theorem keep_execSelfTestSlice {n₀ : Nat} {q₀ : List Instr} (pass : Bool) (ends : Bool) (s : State) (hk : Keep n₀ q₀ s) :
    Goes n₀ q₀ (execSelfTestSlice pass ends s) := by
  unfold execSelfTestSlice
  try dsimp only
  repeat' first
    | (with_reducible first | assumption | apply keep_endSlice | apply keep_beginSlice | apply goes_next | apply keep_ite)
    | split

theorem keep_execWatchdogExpiry {n₀ : Nat} {q₀ : List Instr} (s : State) (hk : Keep n₀ q₀ s) :
    Goes n₀ q₀ (execWatchdogExpiry s) := by
  unfold execWatchdogExpiry
  try dsimp only
  repeat' first
    | (with_reducible first | assumption | apply keep_advanceTo | apply keep_bothFailed | apply keep_writeLast | apply goes_next)
    | (with_reducible first | apply goes_ite)
    | split

theorem keep_execSramDoubleBitError {n₀ : Nat} {q₀ : List Instr} (s : State) (hk : Keep n₀ q₀ s) :
    Goes n₀ q₀ (execSramDoubleBitError s) := by
  unfold execSramDoubleBitError
  try dsimp only
  repeat' first
    | (with_reducible first | assumption | apply keep_bothFailed | apply keep_writeLast | apply goes_next | apply goes_ite)
    | split

theorem keep_execDegradedTimeExpiry {n₀ : Nat} {q₀ : List Instr} (s : State) (hk : Keep n₀ q₀ s) :
    Goes n₀ q₀ (execDegradedTimeExpiry s) := by
  unfold execDegradedTimeExpiry
  try dsimp only
  repeat' first
    | (with_reducible refine keep_onFlt _ _ (fun _ h => by simp [h, chanList]) ?_)
    | (with_reducible first | assumption | apply keep_advanceTo | apply keep_raiseCond | apply keep_flagEvent | apply keep_journalWrite)
    | (with_reducible first | apply goes_next | apply goes_ite)
    | split

theorem keep_execDegradedTimeSave {n₀ : Nat} {q₀ : List Instr} (s : State) (hk : Keep n₀ q₀ s) :
    Goes n₀ q₀ (execDegradedTimeSave s) := by
  unfold execDegradedTimeSave
  try dsimp only
  repeat' first
    | (with_reducible refine keep_onFlt _ _ (fun _ h => by simp [h, chanList]) ?_)
    | (with_reducible first | assumption | apply keep_advanceTo | apply keep_journalWrite | apply goes_next | apply goes_ite)
    | split

theorem keep_execMramRecoveryDone {n₀ : Nat} {q₀ : List Instr} (entries : List Bool) (header : Option Bool) (s : State) (hk : Keep n₀ q₀ s) :
    Goes n₀ q₀ (execMramRecoveryDone entries header s) := by
  unfold execMramRecoveryDone
  try dsimp only
  repeat' first
    | intro _
    | (simp only [keep_mk, List.length_set]; with_reducible apply keep_fold)
    | (with_reducible refine keep_onFlt _ _ (fun _ h => by simp [h, chanList]) ?_)
    | (with_reducible first | assumption | apply keep_applyIf | apply keep_flag | apply keep_writebackStored | apply keep_writebackBroken)
    | (with_reducible first | apply keep_releaseLease | apply keep_finishPort | apply keep_takeJournal | apply goes_next)
    | (with_reducible first | apply keep_ite)
    | split

theorem keep_afterSlot {n₀ : Nat} {q₀ : List Instr} (s : State) (slot : ℕ) (hk : Keep n₀ q₀ s) :
    Keep n₀ q₀ (State.afterSlot s slot) := by
  unfold State.afterSlot
  try dsimp only
  repeat' first
    | intro _
    | (with_reducible first | assumption | apply keep_applyIf | apply keep_answerWaiting)
    | split

theorem keep_execLeaseRelease {n₀ : Nat} {q₀ : List Instr} (slot : ℕ) (party : ℕ) (s : State) (hk : Keep n₀ q₀ s) :
    Goes n₀ q₀ (execLeaseRelease slot party s) := by
  unfold execLeaseRelease
  try dsimp only
  repeat' first
    | (with_reducible first | assumption | apply keep_releasePort | apply keep_afterSlot | apply keep_releaseLease)
    | (with_reducible first | apply goes_next | apply keep_ite | apply goes_ite)
    | split

theorem keep_execLeaseExpiry {n₀ : Nat} {q₀ : List Instr} (slot : ℕ) (s : State) (hk : Keep n₀ q₀ s) :
    Goes n₀ q₀ (execLeaseExpiry slot s) := by
  unfold execLeaseExpiry
  try dsimp only
  repeat' first
    | (with_reducible first | assumption | apply keep_afterSlot | apply keep_revokeLease | apply keep_advanceTo | apply goes_next)
    | (with_reducible first | apply goes_ite)
    | split

/-! ### HostRows.lean -/

theorem keep_execHostReset {n₀ : Nat} {q₀ : List Instr} (l : Link) (key : Word) (s : State) (hk : Keep n₀ q₀ s) :
    Goes n₀ q₀ (execHostReset l key s) := by
  unfold execHostReset
  try dsimp only
  repeat' first
    | (with_reducible first | assumption | apply keep_hostWrite | apply goes_next)
    | split

theorem keep_execLayupEnter {n₀ : Nat} {q₀ : List Instr} (l : Link) (key : Word) (wakeN : Bool) (s : State) (hk : Keep n₀ q₀ s) :
    Goes n₀ q₀ (execLayupEnter l key wakeN s) := by
  unfold execLayupEnter
  try dsimp only
  repeat' first
    | (simp only [keep_mk, List.length_set]; with_reducible apply keep_fold)
    | (with_reducible first | assumption | apply keep_hostWrite | apply goes_next)
    | split

theorem keep_execCfgDiscard {n₀ : Nat} {q₀ : List Instr} (l : Link) (v : Word) (s : State) (hk : Keep n₀ q₀ s) :
    Goes n₀ q₀ (execCfgDiscard l v s) := by
  unfold execCfgDiscard
  try dsimp only
  repeat' first
    | (with_reducible first | assumption | apply keep_hostWrite | apply goes_next)
    | split

theorem keep_execPctlEn {n₀ : Nat} {q₀ : List Instr} (l : Link) (page : Byte) (en : Bool) (s : State) (hk : Keep n₀ q₀ s) :
    Goes n₀ q₀ (execPctlEn l page en s) := by
  unfold execPctlEn
  try dsimp only
  repeat' first
    | (with_reducible first | assumption | apply keep_hostWrite | apply goes_next)
    | split

theorem keep_execPctlRst {n₀ : Nat} {q₀ : List Instr} (l : Link) (page : Byte) (s : State) (hk : Keep n₀ q₀ s) :
    Goes n₀ q₀ (execPctlRst l page s) := by
  unfold execPctlRst
  try dsimp only
  repeat' first
    | (with_reducible first | assumption | apply keep_hostWrite | apply goes_next)
    | split

theorem keep_execIflagClear {n₀ : Nat} {q₀ : List Instr} (l : Link) (page : Byte) (bits : Word) (s : State) (hk : Keep n₀ q₀ s) :
    Goes n₀ q₀ (execIflagClear l page bits s) := by
  unfold execIflagClear
  try dsimp only
  repeat' first
    | (with_reducible first | assumption | apply keep_hostWrite | apply goes_next)
    | split

theorem keep_execCfgUnlock {n₀ : Nat} {q₀ : List Instr} (l : Link) (pw : Word) (s : State) (hk : Keep n₀ q₀ s) :
    Goes n₀ q₀ (execCfgUnlock l pw s) := by
  unfold execCfgUnlock
  try dsimp only
  repeat' first
    | (with_reducible first | assumption | apply keep_hostWrite | apply goes_next)
    | split

theorem keep_execCfgNewpw {n₀ : Nat} {q₀ : List Instr} (l : Link) (pw : Word) (s : State) (hk : Keep n₀ q₀ s) :
    Goes n₀ q₀ (execCfgNewpw l pw s) := by
  unfold execCfgNewpw
  try dsimp only
  repeat' first
    | (with_reducible first | assumption | apply keep_hostWrite | apply goes_next)
    | split

theorem keep_execCfgDefault {n₀ : Nat} {q₀ : List Instr} (l : Link) (key : Word) (s : State) (hk : Keep n₀ q₀ s) :
    Goes n₀ q₀ (execCfgDefault l key s) := by
  unfold execCfgDefault
  try dsimp only
  repeat' first
    | (with_reducible first | assumption | apply keep_hostWrite | apply goes_next)
    | split

theorem keep_execFwOpen {n₀ : Nat} {q₀ : List Instr} (l : Link) (s : State) (hk : Keep n₀ q₀ s) :
    Goes n₀ q₀ (execFwOpen l s) := by
  unfold execFwOpen
  try dsimp only
  repeat' first
    | (with_reducible first | assumption | apply keep_hostWrite | apply goes_next)
    | split

theorem keep_execFwVerify {n₀ : Nat} {q₀ : List Instr} (l : Link) (s : State) (hk : Keep n₀ q₀ s) :
    Goes n₀ q₀ (execFwVerify l s) := by
  unfold execFwVerify
  try dsimp only
  repeat' first
    | (with_reducible first | assumption | apply keep_hostWrite | apply goes_next)
    | split

theorem keep_execFwActivate {n₀ : Nat} {q₀ : List Instr} (l : Link) (s : State) (hk : Keep n₀ q₀ s) :
    Goes n₀ q₀ (execFwActivate l s) := by
  unfold execFwActivate
  try dsimp only
  repeat' first
    | (with_reducible first | assumption | apply keep_hostWrite | apply goes_next)
    | split

theorem keep_execFwAbandon {n₀ : Nat} {q₀ : List Instr} (l : Link) (s : State) (hk : Keep n₀ q₀ s) :
    Goes n₀ q₀ (execFwAbandon l s) := by
  unfold execFwAbandon
  try dsimp only
  repeat' first
    | (with_reducible first | assumption | apply keep_hostWrite | apply goes_next)
    | split

theorem keep_execFwData {n₀ : Nat} {q₀ : List Instr} (l : Link) (v : Word) (s : State) (hk : Keep n₀ q₀ s) :
    Goes n₀ q₀ (execFwData l v s) := by
  unfold execFwData
  try dsimp only
  repeat' first
    | (with_reducible first | assumption | apply keep_hostWrite | apply goes_next)
    | split

theorem keep_execTimeLoRead {n₀ : Nat} {q₀ : List Instr} (l : Link) (s : State) (hk : Keep n₀ q₀ s) :
    Goes n₀ q₀ (execTimeLoRead l s) := by
  unfold execTimeLoRead
  try dsimp only
  repeat' first
    | (with_reducible first | assumption | apply keep_submit | apply goes_next)
    | split

theorem keep_execEpochLoWrite {n₀ : Nat} {q₀ : List Instr} (l : Link) (v : Word) (s : State) (hk : Keep n₀ q₀ s) :
    Goes n₀ q₀ (execEpochLoWrite l v s) := by
  unfold execEpochLoWrite
  try dsimp only
  repeat' first
    | (with_reducible first | assumption | apply keep_hostWrite | apply goes_next)
    | split

theorem keep_execEpochHiWrite {n₀ : Nat} {q₀ : List Instr} (l : Link) (v : Word) (s : State) (hk : Keep n₀ q₀ s) :
    Goes n₀ q₀ (execEpochHiWrite l v s) := by
  unfold execEpochHiWrite
  try dsimp only
  repeat' first
    | (with_reducible first | assumption | apply keep_hostWrite | apply goes_next)
    | split

theorem keep_execOwRequest {n₀ : Nat} {q₀ : List Instr} (l : Link) (die : ℕ) (tap : ℕ) (s : State) (hk : Keep n₀ q₀ s) :
    Goes n₀ q₀ (execOwRequest l die tap s) := by
  unfold execOwRequest
  try dsimp only
  repeat' first
    | (with_reducible first | assumption | apply keep_hostWrite | apply goes_next)
    | split

theorem keep_execFlclr {n₀ : Nat} {q₀ : List Instr} (l : Link) (key : Word) (s : State) (hk : Keep n₀ q₀ s) :
    Goes n₀ q₀ (execFlclr l key s) := by
  unfold execFlclr
  try dsimp only
  repeat' first
    | (with_reducible first | assumption | apply keep_hostWrite | apply goes_next)
    | split

theorem keep_execBlSwclr {n₀ : Nat} {q₀ : List Instr} (l : Link) (die : ℕ) (cell : ℕ) (s : State) (hk : Keep n₀ q₀ s) :
    Goes n₀ q₀ (execBlSwclr l die cell s) := by
  unfold execBlSwclr
  try dsimp only
  repeat' first
    | (with_reducible first | assumption | apply keep_hostWrite | apply goes_next)
    | split

theorem keep_execLearnStart {n₀ : Nat} {q₀ : List Instr} (l : Link) (die : ℕ) (s : State) (hk : Keep n₀ q₀ s) :
    Goes n₀ q₀ (execLearnStart l die s) := by
  unfold execLearnStart
  try dsimp only
  repeat' first
    | (with_reducible first | assumption | apply keep_hostWrite | apply goes_next)
    | split

theorem keep_execLearnAbort {n₀ : Nat} {q₀ : List Instr} (l : Link) (die : ℕ) (s : State) (hk : Keep n₀ q₀ s) :
    Goes n₀ q₀ (execLearnAbort l die s) := by
  unfold execLearnAbort
  try dsimp only
  repeat' first
    | (with_reducible first | assumption | apply keep_hostWrite | apply goes_next)
    | split

theorem keep_execCurZero {n₀ : Nat} {q₀ : List Instr} (l : Link) (s : State) (hk : Keep n₀ q₀ s) :
    Goes n₀ q₀ (execCurZero l s) := by
  unfold execCurZero
  try dsimp only
  repeat' first
    | (with_reducible first | assumption | apply keep_hostWrite | apply goes_next)
    | split

theorem keep_execStvCalStr {n₀ : Nat} {q₀ : List Instr} (l : Link) (s : State) (hk : Keep n₀ q₀ s) :
    Goes n₀ q₀ (execStvCalStr l s) := by
  unfold execStvCalStr
  try dsimp only
  repeat' first
    | (with_reducible first | assumption | apply keep_hostWrite | apply goes_next)
    | split

theorem keep_execStvCalLnk {n₀ : Nat} {q₀ : List Instr} (l : Link) (s : State) (hk : Keep n₀ q₀ s) :
    Goes n₀ q₀ (execStvCalLnk l s) := by
  unfold execStvCalLnk
  try dsimp only
  repeat' first
    | (with_reducible first | assumption | apply keep_hostWrite | apply goes_next)
    | split

theorem keep_execStvCalClear {n₀ : Nat} {q₀ : List Instr} (l : Link) (s : State) (hk : Keep n₀ q₀ s) :
    Goes n₀ q₀ (execStvCalClear l s) := by
  unfold execStvCalClear
  try dsimp only
  repeat' first
    | (with_reducible first | assumption | apply keep_hostWrite | apply goes_next)
    | split

theorem keep_execSgeCmdWriteback {n₀ : Nat} {q₀ : List Instr} (l : Link) (s : State) (hk : Keep n₀ q₀ s) :
    Goes n₀ q₀ (execSgeCmdWriteback l s) := by
  unfold execSgeCmdWriteback
  try dsimp only
  repeat' first
    | (with_reducible first | assumption | apply keep_hostWrite | apply goes_next)
    | split

theorem keep_execTableLoad {n₀ : Nat} {q₀ : List Instr} (l : Link) (s : State) (hk : Keep n₀ q₀ s) :
    Goes n₀ q₀ (execTableLoad l s) := by
  unfold execTableLoad
  try dsimp only
  repeat' first
    | (with_reducible first | assumption | apply keep_hostWrite | apply goes_next)
    | split

theorem keep_execTableActivate {n₀ : Nat} {q₀ : List Instr} (l : Link) (s : State) (hk : Keep n₀ q₀ s) :
    Goes n₀ q₀ (execTableActivate l s) := by
  unfold execTableActivate
  try dsimp only
  repeat' first
    | (with_reducible first | assumption | apply keep_hostWrite | apply goes_next)
    | split

theorem keep_execTbldataAccess {n₀ : Nat} {q₀ : List Instr} (l : Link) (v : Option Word) (s : State) (hk : Keep n₀ q₀ s) :
    Goes n₀ q₀ (execTbldataAccess l v s) := by
  unfold execTbldataAccess
  try dsimp only
  repeat' first
    | (with_reducible first | assumption | apply keep_hostWrite | apply keep_submit | apply goes_next)
    | split

theorem keep_execSgcBankWrite {n₀ : Nat} {q₀ : List Instr} (l : Link) (v : Word) (s : State) (hk : Keep n₀ q₀ s) :
    Goes n₀ q₀ (execSgcBankWrite l v s) := by
  unfold execSgcBankWrite
  try dsimp only
  repeat' first
    | (with_reducible first | assumption | apply keep_hostWrite | apply goes_next)
    | split

theorem keep_execSgcReset {n₀ : Nat} {q₀ : List Instr} (l : Link) (v : Word) (s : State) (hk : Keep n₀ q₀ s) :
    Goes n₀ q₀ (execSgcReset l v s) := by
  unfold execSgcReset
  try dsimp only
  repeat' first
    | (with_reducible first | assumption | apply keep_hostWrite | apply goes_next)
    | split

theorem keep_execLimZselWrite {n₀ : Nat} {q₀ : List Instr} (l : Link) (v : Word) (s : State) (hk : Keep n₀ q₀ s) :
    Goes n₀ q₀ (execLimZselWrite l v s) := by
  unfold execLimZselWrite
  try dsimp only
  repeat' first
    | (with_reducible first | assumption | apply keep_hostWrite | apply goes_next)
    | split

theorem keep_execConnect {n₀ : Nat} {q₀ : List Instr} (l : Link) (s : State) (hk : Keep n₀ q₀ s) :
    Goes n₀ q₀ (execConnect l s) := by
  unfold execConnect
  try dsimp only
  repeat' first
    | (with_reducible first | assumption | apply keep_hostWrite | apply goes_next)
    | split

theorem keep_execDisconnect {n₀ : Nat} {q₀ : List Instr} (l : Link) (s : State) (hk : Keep n₀ q₀ s) :
    Goes n₀ q₀ (execDisconnect l s) := by
  unfold execDisconnect
  try dsimp only
  repeat' first
    | (with_reducible first | assumption | apply keep_hostWrite | apply goes_next)
    | split

theorem keep_execChargeOn {n₀ : Nat} {q₀ : List Instr} (l : Link) (s : State) (hk : Keep n₀ q₀ s) :
    Goes n₀ q₀ (execChargeOn l s) := by
  unfold execChargeOn
  try dsimp only
  repeat' first
    | (with_reducible first | assumption | apply keep_hostWrite | apply goes_next)
    | split

theorem keep_execChargeOff {n₀ : Nat} {q₀ : List Instr} (l : Link) (s : State) (hk : Keep n₀ q₀ s) :
    Goes n₀ q₀ (execChargeOff l s) := by
  unfold execChargeOff
  try dsimp only
  repeat' first
    | (with_reducible first | assumption | apply keep_hostWrite | apply goes_next)
    | split

theorem keep_execPrtClear {n₀ : Nat} {q₀ : List Instr} (l : Link) (s : State) (hk : Keep n₀ q₀ s) :
    Goes n₀ q₀ (execPrtClear l s) := by
  unfold execPrtClear
  try dsimp only
  repeat' first
    | (with_reducible first | assumption | apply keep_hostWrite | apply goes_next)
    | split

theorem keep_execWeldclr {n₀ : Nat} {q₀ : List Instr} (l : Link) (key : Word) (s : State) (hk : Keep n₀ q₀ s) :
    Goes n₀ q₀ (execWeldclr l key s) := by
  unfold execWeldclr
  try dsimp only
  repeat' first
    | (with_reducible first | assumption | apply keep_hostWrite | apply goes_next)
    | split

theorem keep_execAdopt {n₀ : Nat} {q₀ : List Instr} (l : Link) (s : State) (hk : Keep n₀ q₀ s) :
    Goes n₀ q₀ (execAdopt l s) := by
  unfold execAdopt
  try dsimp only
  repeat' first
    | (with_reducible first | assumption | apply keep_hostWrite | apply goes_next)
    | split

theorem keep_execDecline {n₀ : Nat} {q₀ : List Instr} (l : Link) (s : State) (hk : Keep n₀ q₀ s) :
    Goes n₀ q₀ (execDecline l s) := by
  unfold execDecline
  try dsimp only
  repeat' first
    | (with_reducible first | assumption | apply keep_hostWrite | apply goes_next)
    | split

theorem keep_execCancel {n₀ : Nat} {q₀ : List Instr} (l : Link) (s : State) (hk : Keep n₀ q₀ s) :
    Goes n₀ q₀ (execCancel l s) := by
  unfold execCancel
  try dsimp only
  repeat' first
    | (with_reducible first | assumption | apply keep_hostWrite | apply goes_next)
    | split

theorem keep_execInstallAnchor {n₀ : Nat} {q₀ : List Instr} (l : Link) (s : State) (hk : Keep n₀ q₀ s) :
    Goes n₀ q₀ (execInstallAnchor l s) := by
  unfold execInstallAnchor
  try dsimp only
  repeat' first
    | (with_reducible first | assumption | apply keep_hostWrite | apply goes_next)
    | split

theorem keep_execEnrol {n₀ : Nat} {q₀ : List Instr} (l : Link) (ids : List (ℕ × ℕ)) (s : State) (hk : Keep n₀ q₀ s) :
    Goes n₀ q₀ (execEnrol l ids s) := by
  unfold execEnrol
  try dsimp only
  repeat' first
    | (with_reducible first | assumption | apply keep_hostWrite | apply keep_onAut | apply goes_next | apply keep_ite)
    | split

theorem keep_execAuthenticateAll {n₀ : Nat} {q₀ : List Instr} (l : Link) (s : State) (hk : Keep n₀ q₀ s) :
    Goes n₀ q₀ (execAuthenticateAll l s) := by
  unfold execAuthenticateAll
  try dsimp only
  repeat' first
    | (with_reducible first | assumption | apply keep_hostWrite | apply goes_next)
    | split

theorem keep_execAutKeydataWrite {n₀ : Nat} {q₀ : List Instr} (l : Link) (v : Word) (s : State) (hk : Keep n₀ q₀ s) :
    Goes n₀ q₀ (execAutKeydataWrite l v s) := by
  unfold execAutKeydataWrite
  try dsimp only
  repeat' first
    | (with_reducible first | assumption | apply keep_hostWrite | apply goes_next)
    | split

theorem keep_execAutSelWrite {n₀ : Nat} {q₀ : List Instr} (l : Link) (v : Word) (s : State) (hk : Keep n₀ q₀ s) :
    Goes n₀ q₀ (execAutSelWrite l v s) := by
  unfold execAutSelWrite
  try dsimp only
  repeat' first
    | (with_reducible first | assumption | apply keep_hostWrite | apply goes_next)
    | split

theorem keep_execRsmClear {n₀ : Nat} {q₀ : List Instr} (l : Link) (key : Word) (s : State) (hk : Keep n₀ q₀ s) :
    Goes n₀ q₀ (execRsmClear l key s) := by
  unfold execRsmClear
  try dsimp only
  repeat' first
    | (with_reducible first | assumption | apply keep_hostWrite | apply goes_next)
    | split

theorem keep_execRsmSnapWrite {n₀ : Nat} {q₀ : List Instr} (l : Link) (v : Word) (s : State) (hk : Keep n₀ q₀ s) :
    Goes n₀ q₀ (execRsmSnapWrite l v s) := by
  unfold execRsmSnapWrite
  try dsimp only
  repeat' first
    | (with_reducible first | assumption | apply keep_hostWrite | apply goes_next)
    | split

theorem keep_execRsmRdselWrite {n₀ : Nat} {q₀ : List Instr} (l : Link) (seq : Word) (s : State) (hk : Keep n₀ q₀ s) :
    Goes n₀ q₀ (execRsmRdselWrite l seq s) := by
  unfold execRsmRdselWrite
  try dsimp only
  repeat' first
    | (with_reducible first | assumption | apply keep_hostWrite | apply goes_next)
    | split

theorem keep_execCylAck {n₀ : Nat} {q₀ : List Instr} (l : Link) (seq : Word) (s : State) (hk : Keep n₀ q₀ s) :
    Goes n₀ q₀ (execCylAck l seq s) := by
  unfold execCylAck
  try dsimp only
  repeat' first
    | (with_reducible first | assumption | apply keep_hostWrite | apply goes_next)
    | split

theorem keep_execCylRdselWrite {n₀ : Nat} {q₀ : List Instr} (l : Link) (seq : Word) (s : State) (hk : Keep n₀ q₀ s) :
    Goes n₀ q₀ (execCylRdselWrite l seq s) := by
  unfold execCylRdselWrite
  try dsimp only
  repeat' first
    | (with_reducible first | assumption | apply keep_hostWrite | apply goes_next)
    | split

theorem keep_execMove {n₀ : Nat} {q₀ : List Instr} (l : Link) (axis : ℕ) (s : State) (hk : Keep n₀ q₀ s) :
    Goes n₀ q₀ (execMove l axis s) := by
  unfold execMove
  try dsimp only
  repeat' first
    | (with_reducible first | assumption | apply keep_hostWrite | apply goes_next)
    | split

theorem keep_execHome {n₀ : Nat} {q₀ : List Instr} (l : Link) (axis : ℕ) (s : State) (hk : Keep n₀ q₀ s) :
    Goes n₀ q₀ (execHome l axis s) := by
  unfold execHome
  try dsimp only
  repeat' first
    | (with_reducible first | assumption | apply keep_hostWrite | apply goes_next)
    | split

theorem keep_execAxisStop {n₀ : Nat} {q₀ : List Instr} (l : Link) (axis : ℕ) (s : State) (hk : Keep n₀ q₀ s) :
    Goes n₀ q₀ (execAxisStop l axis s) := by
  unfold execAxisStop
  try dsimp only
  repeat' first
    | (with_reducible first | assumption | apply keep_hostWrite | apply goes_next)
    | split

theorem keep_execAxisClear {n₀ : Nat} {q₀ : List Instr} (l : Link) (axis : ℕ) (s : State) (hk : Keep n₀ q₀ s) :
    Goes n₀ q₀ (execAxisClear l axis s) := by
  unfold execAxisClear
  try dsimp only
  repeat' first
    | (with_reducible first | assumption | apply keep_hostWrite | apply goes_next)
    | split

theorem keep_execGroupStart {n₀ : Nat} {q₀ : List Instr} (l : Link) (group : ℕ) (s : State) (hk : Keep n₀ q₀ s) :
    Goes n₀ q₀ (execGroupStart l group s) := by
  unfold execGroupStart
  try dsimp only
  repeat' first
    | (with_reducible first | assumption | apply keep_hostWrite | apply goes_next)
    | split

theorem keep_execGroupStop {n₀ : Nat} {q₀ : List Instr} (l : Link) (group : ℕ) (s : State) (hk : Keep n₀ q₀ s) :
    Goes n₀ q₀ (execGroupStop l group s) := by
  unfold execGroupStop
  try dsimp only
  repeat' first
    | (with_reducible first | assumption | apply keep_hostWrite | apply goes_next)
    | split

theorem keep_execStopAll {n₀ : Nat} {q₀ : List Instr} (l : Link) (s : State) (hk : Keep n₀ q₀ s) :
    Goes n₀ q₀ (execStopAll l s) := by
  unfold execStopAll
  try dsimp only
  repeat' first
    | (with_reducible first | assumption | apply keep_hostWrite | apply goes_next)
    | split

theorem keep_execSctest {n₀ : Nat} {q₀ : List Instr} (l : Link) (axis : ℕ) (s : State) (hk : Keep n₀ q₀ s) :
    Goes n₀ q₀ (execSctest l axis s) := by
  unfold execSctest
  try dsimp only
  repeat' first
    | (with_reducible first | assumption | apply keep_hostWrite | apply goes_next)
    | split

theorem keep_execRecover {n₀ : Nat} {q₀ : List Instr} (l : Link) (axis : ℕ) (s : State) (hk : Keep n₀ q₀ s) :
    Goes n₀ q₀ (execRecover l axis s) := by
  unfold execRecover
  try dsimp only
  repeat' first
    | (with_reducible first | assumption | apply keep_hostWrite | apply goes_next)
    | split

theorem keep_execGatePulse {n₀ : Nat} {q₀ : List Instr} (l : Link) (axis : ℕ) (v : Word) (s : State) (hk : Keep n₀ q₀ s) :
    Goes n₀ q₀ (execGatePulse l axis v s) := by
  unfold execGatePulse
  try dsimp only
  repeat' first
    | (with_reducible first | assumption | apply keep_hostWrite | apply goes_next)
    | split

theorem keep_execGdLiveRead {n₀ : Nat} {q₀ : List Instr} (l : Link) (axis : ℕ) (s : State) (hk : Keep n₀ q₀ s) :
    Goes n₀ q₀ (execGdLiveRead l axis s) := by
  unfold execGdLiveRead
  try dsimp only
  repeat' first
    | (with_reducible first | assumption | apply keep_submit | apply goes_next)
    | split

theorem keep_execLsOutWrite {n₀ : Nat} {q₀ : List Instr} (l : Link) (b : Bool) (v : Word) (s : State) (hk : Keep n₀ q₀ s) :
    Goes n₀ q₀ (execLsOutWrite l b v s) := by
  unfold execLsOutWrite
  try dsimp only
  repeat' first
    | (with_reducible first | assumption | apply keep_hostWrite | apply goes_next)
    | split

theorem keep_execLsClr {n₀ : Nat} {q₀ : List Instr} (l : Link) (b : Bool) (v : Word) (s : State) (hk : Keep n₀ q₀ s) :
    Goes n₀ q₀ (execLsClr l b v s) := by
  unfold execLsClr
  try dsimp only
  repeat' first
    | (with_reducible first | assumption | apply keep_hostWrite | apply goes_next)
    | split

theorem keep_execTestBrk0 {n₀ : Nat} {q₀ : List Instr} (l : Link) (s : State) (hk : Keep n₀ q₀ s) :
    Goes n₀ q₀ (execTestBrk0 l s) := by
  unfold execTestBrk0
  try dsimp only
  repeat' first
    | (with_reducible first | assumption | apply keep_hostWrite | apply goes_next)
    | split

theorem keep_execTestBrk1 {n₀ : Nat} {q₀ : List Instr} (l : Link) (s : State) (hk : Keep n₀ q₀ s) :
    Goes n₀ q₀ (execTestBrk1 l s) := by
  unfold execTestBrk1
  try dsimp only
  repeat' first
    | (with_reducible first | assumption | apply keep_hostWrite | apply goes_next)
    | split

theorem keep_execSafUnlock {n₀ : Nat} {q₀ : List Instr} (l : Link) (pw : Word) (s : State) (hk : Keep n₀ q₀ s) :
    Goes n₀ q₀ (execSafUnlock l pw s) := by
  unfold execSafUnlock
  try dsimp only
  repeat' first
    | (with_reducible first | assumption | apply keep_hostWrite | apply goes_next)
    | split

theorem keep_execSafNewpw {n₀ : Nat} {q₀ : List Instr} (l : Link) (pw : Word) (s : State) (hk : Keep n₀ q₀ s) :
    Goes n₀ q₀ (execSafNewpw l pw s) := by
  unfold execSafNewpw
  try dsimp only
  repeat' first
    | (with_reducible first | assumption | apply keep_hostWrite | apply goes_next)
    | split

theorem keep_execTmpCmd {n₀ : Nat} {q₀ : List Instr} (l : Link) (v : Word) (s : State) (hk : Keep n₀ q₀ s) :
    Goes n₀ q₀ (execTmpCmd l v s) := by
  unfold execTmpCmd
  try dsimp only
  repeat' first
    | (with_reducible first | assumption | apply keep_hostWrite | apply goes_next)
    | split

end Sys2Proof.Machine
end

