-- ==== Sys2Proof/Laws/Keep.lean ====
section
/-! SUPPORT. What a command and a step keep. -/
namespace Sys2Proof.Machine
open Host

/-- Every command answers a next state, with both register files canonical and the queue untouched; only the start of operation
sets the time base back. -/
theorem goes_exec_zero {n₀ : Nat} {q₀ : List Instr} (i : Instr) (s : State) (hk : Keep n₀ q₀ s) : Goes 0 q₀ (exec i s) := by
  have up : ∀ o, Goes n₀ q₀ o → Goes 0 q₀ o := fun o h => h.imp fun t ht => ⟨ht.1, keep_zero ht.2⟩
  match i with
  | .startQualified _ => exact keep_execStartQualified _ _ hk
  | .mdieSettled _ => exact up _ (keep_execMdieSettled _ _ hk)
  | .mdieSettleTimeout _ => exact up _ (keep_execMdieSettleTimeout _ _ hk)
  | .holdupStoreCharged => exact up _ (keep_execHoldupStoreCharged _ hk)
  | .holdupTimeout => exact up _ (keep_execHoldupTimeout _ hk)
  | .enterRun _ => exact up _ (keep_execEnterRun _ _ hk)
  | .supplyLow => exact up _ (keep_execSupplyLow _ hk)
  | .supplyLowClear => exact up _ (keep_execSupplyLowClear _ hk)
  | .pwrWarn => exact up _ (keep_execPwrWarn _ hk)
  | .pwrWarnClear => exact up _ (keep_execPwrWarnClear _ hk)
  | .pwrFail => exact up _ (keep_execPwrFail _ hk)
  | .cdieReset => exact up _ (keep_execCdieReset _ hk)
  | .vmOkChange _ => exact up _ (keep_execVmOkChange _ _ hk)
  | .hostReset _ _ => exact up _ (keep_execHostReset _ _ _ hk)
  | .layupEnter _ _ _ => exact up _ (keep_execLayupEnter _ _ _ _ hk)
  | .layupWake _ => exact up _ (keep_execLayupWake _ _ hk)
  | .layupSupplyLost => exact up _ (keep_execLayupSupplyLost _ hk)
  | .addrChange _ => exact up _ (keep_execAddrChange _ _ hk)
  | .nop _ _ => exact up _ (keep_execNop _ _ _ hk)
  | .read _ _ => exact up _ (keep_execRead _ _ _ hk)
  | .write _ _ => exact up _ (keep_execWrite _ _ _ hk)
  | .burstRead _ _ => exact up _ (keep_execBurstRead _ _ _ hk)
  | .commit _ _ => exact up _ (keep_execCommit _ _ _ hk)
  | .status _ _ => exact up _ (keep_execStatus _ _ _ hk)
  | .unknownOp _ _ _ _ => exact up _ (keep_execUnknownOp _ _ _ _ _ hk)
  | .crcErrorFrame _ _ => exact up _ (keep_execCrcErrorFrame _ _ _ hk)
  | .spiNotReady => exact up _ (keep_execSpiNotReady _ hk)
  | .canRequestFrame _ _ => exact up _ (keep_execCanRequestFrame _ _ _ hk)
  | .canErrorPassive _ _ _ => exact up _ (keep_execCanErrorPassive _ _ _ _ hk)
  | .canBusOff _ => exact up _ (keep_execCanBusOff _ _ hk)
  | .canBusoffRecovery _ => exact up _ (keep_execCanBusoffRecovery _ _ hk)
  | .attnMessage _ => exact up _ (keep_execAttnMessage _ _ hk)
  | .attnMsgWindowEnd _ => exact up _ (keep_execAttnMsgWindowEnd _ _ hk)
  | .commitStep => exact up _ (keep_execCommitStep _ hk)
  | .cfgDiscard _ _ => exact up _ (keep_execCfgDiscard _ _ _ hk)
  | .pctlEn _ _ _ => exact up _ (keep_execPctlEn _ _ _ _ hk)
  | .pctlRst _ _ => exact up _ (keep_execPctlRst _ _ _ hk)
  | .iflagClear _ _ _ => exact up _ (keep_execIflagClear _ _ _ _ hk)
  | .cfgUnlock _ _ => exact up _ (keep_execCfgUnlock _ _ _ hk)
  | .unlockExpiry _ _ => exact up _ (keep_execUnlockExpiry _ _ _ hk)
  | .lockoutEnd _ => exact up _ (keep_execLockoutEnd _ _ hk)
  | .cfgNewpw _ _ => exact up _ (keep_execCfgNewpw _ _ _ hk)
  | .cfgDefault _ _ => exact up _ (keep_execCfgDefault _ _ _ hk)
  | .fwOpen _ => exact up _ (keep_execFwOpen _ _ hk)
  | .fwData _ _ => exact up _ (keep_execFwData _ _ _ hk)
  | .fwVerify _ => exact up _ (keep_execFwVerify _ _ hk)
  | .fwVerifyDone _ _ => exact up _ (keep_execFwVerifyDone _ _ _ hk)
  | .fwActivate _ => exact up _ (keep_execFwActivate _ _ hk)
  | .fwAbandon _ => exact up _ (keep_execFwAbandon _ _ hk)
  | .frameBoundary _ => exact up _ (keep_execFrameBoundary _ _ hk)
  | .midFrameSample _ => exact up _ (keep_execMidFrameSample _ _ hk)
  | .quietLead => exact up _ (keep_execQuietLead _ hk)
  | .servoTick _ => exact up _ (keep_execServoTick _ _ hk)
  | .auxScan _ => exact up _ (keep_execAuxScan _ _ hk)
  | .syncInEdge => exact up _ (keep_execSyncInEdge _ hk)
  | .syncMiss => exact up _ (keep_execSyncMiss _ hk)
  | .timeLoRead _ => exact up _ (keep_execTimeLoRead _ _ hk)
  | .epochLoWrite _ _ => exact up _ (keep_execEpochLoWrite _ _ _ hk)
  | .epochHiWrite _ _ => exact up _ (keep_execEpochHiWrite _ _ _ hk)
  | .xtalLost => exact up _ (keep_execXtalLost _ hk)
  | .xtalRegained => exact up _ (keep_execXtalRegained _ hk)
  | .clockCheckWindow _ => exact up _ (keep_execClockCheckWindow _ _ hk)
  | .strobeRecal _ => exact up _ (keep_execStrobeRecal _ _ hk)
  | .segmentDown _ => exact up _ (keep_execSegmentDown _ _ hk)
  | .segmentRetrain _ _ => exact up _ (keep_execSegmentRetrain _ _ _ hk)
  | .dieUnreachable _ => exact up _ (keep_execDieUnreachable _ _ hk)
  | .dieRejoin _ => exact up _ (keep_execDieRejoin _ _ hk)
  | .dieSleep _ => exact up _ (keep_execDieSleep _ _ hk)
  | .dieWake _ => exact up _ (keep_execDieWake _ _ hk)
  | .periodicSave => exact up _ (keep_execPeriodicSave _ hk)
  | .firmwareEval => exact up _ (keep_execFirmwareEval _ hk)
  | .sweepStart => exact up _ (keep_execSweepStart _ hk)
  | .owRequest _ _ _ => exact up _ (keep_execOwRequest _ _ _ _ hk)
  | .tapTestStart _ => exact up _ (keep_execTapTestStart _ _ hk)
  | .tapWindowEnd _ => exact up _ (keep_execTapWindowEnd _ _ hk)
  | .tapTestDecide _ => exact up _ (keep_execTapTestDecide _ _ hk)
  | .gatedEval _ => exact up _ (keep_execGatedEval _ _ hk)
  | .gatedTrip => exact up _ (keep_execGatedTrip _ hk)
  | .absoluteTrip _ _ _ => exact up _ (keep_execAbsoluteTrip _ _ _ _ hk)
  | .comparatorSelfTest _ => exact up _ (keep_execComparatorSelfTest _ _ hk)
  | .faultChannelLost _ _ => exact up _ (keep_execFaultChannelLost _ _ _ hk)
  | .tripCode _ _ => exact up _ (keep_execTripCode _ _ _ hk)
  | .carrierReturn _ => exact up _ (keep_execCarrierReturn _ _ hk)
  | .flclr _ _ => exact up _ (keep_execFlclr _ _ _ hk)
  | .fastOcTrip _ => exact up _ (keep_execFastOcTrip _ _ hk)
  | .ocSelfTest _ => exact up _ (keep_execOcSelfTest _ _ hk)
  | .balanceOnTimeEnd _ _ => exact up _ (keep_execBalanceOnTimeEnd _ _ _ hk)
  | .switchStuck _ _ => exact up _ (keep_execSwitchStuck _ _ _ hk)
  | .switchOvercurrent _ _ => exact up _ (keep_execSwitchOvercurrent _ _ _ hk)
  | .balanceOpenLoop _ _ => exact up _ (keep_execBalanceOpenLoop _ _ _ hk)
  | .blSwclr _ _ _ => exact up _ (keep_execBlSwclr _ _ _ _ hk)
  | .learnStart _ _ => exact up _ (keep_execLearnStart _ _ _ hk)
  | .learnAbort _ _ => exact up _ (keep_execLearnAbort _ _ _ hk)
  | .currentSuspect => exact up _ (keep_execCurrentSuspect _ hk)
  | .currentAgreed => exact up _ (keep_execCurrentAgreed _ hk)
  | .curZero _ => exact up _ (keep_execCurZero _ _ hk)
  | .zeroAutoStart => exact up _ (keep_execZeroAutoStart _ hk)
  | .zeroingDone => exact up _ (keep_execZeroingDone _ hk)
  | .stvCalStr _ => exact up _ (keep_execStvCalStr _ _ hk)
  | .stvCalLnk _ => exact up _ (keep_execStvCalLnk _ _ hk)
  | .stvCalClear _ => exact up _ (keep_execStvCalClear _ _ hk)
  | .stvCalDone => exact up _ (keep_execStvCalDone _ hk)
  | .sageStep => exact up _ (keep_execSageStep _ hk)
  | .writebackPeriod => exact up _ (keep_execWritebackPeriod _ hk)
  | .sgeCmdWriteback _ => exact up _ (keep_execSgeCmdWriteback _ _ hk)
  | .writebackStart => exact up _ (keep_execWritebackStart _ hk)
  | .writebackDone => exact up _ (keep_execWritebackDone _ hk)
  | .tableLoad _ => exact up _ (keep_execTableLoad _ _ hk)
  | .tableActivate _ => exact up _ (keep_execTableActivate _ _ hk)
  | .tbldataAccess _ _ => exact up _ (keep_execTbldataAccess _ _ _ hk)
  | .sgcBankWrite _ _ => exact up _ (keep_execSgcBankWrite _ _ _ hk)
  | .sgcReset _ _ => exact up _ (keep_execSgcReset _ _ _ hk)
  | .limZselWrite _ _ => exact up _ (keep_execLimZselWrite _ _ _ hk)
  | .connect _ => exact up _ (keep_execConnect _ _ hk)
  | .disconnect _ => exact up _ (keep_execDisconnect _ _ hk)
  | .chargeOn _ => exact up _ (keep_execChargeOn _ _ hk)
  | .chargeOff _ => exact up _ (keep_execChargeOff _ _ hk)
  | .prtClear _ => exact up _ (keep_execPrtClear _ _ hk)
  | .weldclr _ _ => exact up _ (keep_execWeldclr _ _ _ hk)
  | .pullInEnd _ => exact up _ (keep_execPullInEnd _ _ hk)
  | .auxChange _ _ => exact up _ (keep_execAuxChange _ _ _ hk)
  | .prechargeTimeout => exact up _ (keep_execPrechargeTimeout _ hk)
  | .prechargeOverlapEnd => exact up _ (keep_execPrechargeOverlapEnd _ hk)
  | .matchTimeout => exact up _ (keep_execMatchTimeout _ hk)
  | .prechargeCoolEnd => exact up _ (keep_execPrechargeCoolEnd _ hk)
  | .coilOvercurrent _ => exact up _ (keep_execCoilOvercurrent _ _ hk)
  | .coilCurrentFault _ => exact up _ (keep_execCoilCurrentFault _ _ hk)
  | .auxCloseTimeout _ => exact up _ (keep_execAuxCloseTimeout _ _ hk)
  | .auxOpenTimeout _ => exact up _ (keep_execAuxOpenTimeout _ _ hk)
  | .cd1HoldEnd => exact up _ (keep_execCd1HoldEnd _ hk)
  | .deadlineExpiry => exact up _ (keep_execDeadlineExpiry _ hk)
  | .badChannelsOpen => exact up _ (keep_execBadChannelsOpen _ hk)
  | .suspectTimeExpiry => exact up _ (keep_execSuspectTimeExpiry _ hk)
  | .degradedCellExpiry _ _ => exact up _ (keep_execDegradedCellExpiry _ _ _ hk)
  | .cellTempExpiry _ _ => exact up _ (keep_execCellTempExpiry _ _ _ hk)
  | .limitFrame => exact up _ (keep_execLimitFrame _ hk)
  | .chargeOffTimeout => exact up _ (keep_execChargeOffTimeout _ hk)
  | .shoreDetChange _ => exact up _ (keep_execShoreDetChange _ _ hk)
  | .ringCycle => exact up _ (keep_execRingCycle _ hk)
  | .ringStatusMsg _ => exact up _ (keep_execRingStatusMsg _ _ hk)
  | .memberLost _ => exact up _ (keep_execMemberLost _ _ hk)
  | .grantTimeout => exact up _ (keep_execGrantTimeout _ hk)
  | .systemFrame => exact up _ (keep_execSystemFrame _ hk)
  | .mirrorReceived _ _ _ _ _ => exact up _ (keep_execMirrorReceived _ _ _ _ _ _ hk)
  | .mirrorHeaderReply _ => exact up _ (keep_execMirrorHeaderReply _ _ hk)
  | .adopt _ => exact up _ (keep_execAdopt _ _ hk)
  | .adoptFetchDone _ _ => exact up _ (keep_execAdoptFetchDone _ _ _ hk)
  | .decline _ => exact up _ (keep_execDecline _ _ hk)
  | .cancel _ => exact up _ (keep_execCancel _ _ hk)
  | .installAnchor _ => exact up _ (keep_execInstallAnchor _ _ hk)
  | .enrol _ _ => exact up _ (keep_execEnrol _ _ _ hk)
  | .authenticateAll _ => exact up _ (keep_execAuthenticateAll _ _ hk)
  | .autPoll _ => exact up _ (keep_execAutPoll _ _ hk)
  | .slotAuthDone _ _ => exact up _ (keep_execSlotAuthDone _ _ _ hk)
  | .autKeydataWrite _ _ => exact up _ (keep_execAutKeydataWrite _ _ _ hk)
  | .autSelWrite _ _ => exact up _ (keep_execAutSelWrite _ _ _ hk)
  | .lockstepMismatch _ _ => exact up _ (keep_execLockstepMismatch _ _ _ hk)
  | .arbitration _ _ => exact up _ (keep_execArbitration _ _ _ hk)
  | .coreResume _ => exact up _ (keep_execCoreResume _ _ hk)
  | .selfTestSlice _ _ => exact up _ (keep_execSelfTestSlice _ _ _ hk)
  | .watchdogExpiry => exact up _ (keep_execWatchdogExpiry _ hk)
  | .degradedTimeExpiry => exact up _ (keep_execDegradedTimeExpiry _ hk)
  | .degradedTimeSave => exact up _ (keep_execDegradedTimeSave _ hk)
  | .leaseAcquire _ _ => exact up _ (keep_execLeaseAcquire _ _ _ hk)
  | .leaseRelease _ _ => exact up _ (keep_execLeaseRelease _ _ _ hk)
  | .leaseExpiry _ => exact up _ (keep_execLeaseExpiry _ _ hk)
  | .mramRecoveryDone _ _ => exact up _ (keep_execMramRecoveryDone _ _ _ hk)
  | .recordAccept => exact up _ (keep_execRecordAccept _ hk)
  | .flushPeriodic => exact up _ (keep_execFlushPeriodic _ hk)
  | .flushStart => exact up _ (keep_execFlushStart _ hk)
  | .flushDone => exact up _ (keep_execFlushDone _ hk)
  | .rateWindowClose => exact up _ (keep_execRateWindowClose _ hk)
  | .rsmClear _ _ => exact up _ (keep_execRsmClear _ _ _ hk)
  | .rsmSnapWrite _ _ => exact up _ (keep_execRsmSnapWrite _ _ _ hk)
  | .snapshotExpiry _ => exact up _ (keep_execSnapshotExpiry _ _ hk)
  | .rsmRdselWrite _ _ => exact up _ (keep_execRsmRdselWrite _ _ _ hk)
  | .ledgerRecordWrite => exact up _ (keep_execLedgerRecordWrite _ hk)
  | .cylAck _ _ => exact up _ (keep_execCylAck _ _ _ hk)
  | .cylRdselWrite _ _ => exact up _ (keep_execCylRdselWrite _ _ _ hk)
  | .baySamplePair _ _ => exact up _ (keep_execBaySamplePair _ _ _ hk)
  | .bayPairLost => exact up _ (keep_execBayPairLost _ hk)
  | .bayInterval => exact up _ (keep_execBayInterval _ hk)
  | .bayCopyWrite => exact up _ (keep_execBayCopyWrite _ hk)
  | .bayAux3Change _ => exact up _ (keep_execBayAux3Change _ _ hk)
  | .bayBreak _ => exact up _ (keep_execBayBreak _ _ hk)
  | .baySet _ _ => exact up _ (keep_execBaySet _ _ _ hk)
  | .baySeal _ => exact up _ (keep_execBaySeal _ _ hk)
  | .bayImgOpen _ => exact up _ (keep_execBayImgOpen _ _ hk)
  | .bayImgData _ => exact up _ (keep_execBayImgData _ _ hk)
  | .bayImgEnd _ _ _ => exact up _ (keep_execBayImgEnd _ _ _ _ hk)
  | .bayMailboxReject _ => exact up _ (keep_execBayMailboxReject _ _ hk)
  | .bayLockoutEnd => exact up _ (keep_execBayLockoutEnd _ hk)
  | .move _ _ => exact up _ (keep_execMove _ _ _ hk)
  | .home _ _ => exact up _ (keep_execHome _ _ _ hk)
  | .axisStop _ _ => exact up _ (keep_execAxisStop _ _ _ hk)
  | .axisClear _ _ => exact up _ (keep_execAxisClear _ _ _ hk)
  | .groupStart _ _ => exact up _ (keep_execGroupStart _ _ _ hk)
  | .groupStop _ _ => exact up _ (keep_execGroupStop _ _ _ hk)
  | .stopAll _ => exact up _ (keep_execStopAll _ _ hk)
  | .cycleStart _ => exact up _ (keep_execCycleStart _ _ hk)
  | .cycleEnd _ => exact up _ (keep_execCycleEnd _ _ hk)
  | .homePoint _ => exact up _ (keep_execHomePoint _ _ hk)
  | .homingTimeout _ => exact up _ (keep_execHomingTimeout _ _ hk)
  | .stall _ => exact up _ (keep_execStall _ _ hk)
  | .obstacle _ => exact up _ (keep_execObstacle _ _ hk)
  | .edgeChange _ _ => exact up _ (keep_execEdgeChange _ _ _ hk)
  | .edgeGapTimeout _ => exact up _ (keep_execEdgeGapTimeout _ _ hk)
  | .limitSwitch _ => exact up _ (keep_execLimitSwitch _ _ hk)
  | .setpointQueueEmpty _ => exact up _ (keep_execSetpointQueueEmpty _ _ hk)
  | .standstillDelay _ => exact up _ (keep_execStandstillDelay _ _ hk)
  | .gdieFrame _ _ _ => exact up _ (keep_execGdieFrame _ _ _ _ hk)
  | .gdieLinkLost => exact up _ (keep_execGdieLinkLost _ hk)
  | .sctest _ _ => exact up _ (keep_execSctest _ _ _ hk)
  | .sctestDone _ _ => exact up _ (keep_execSctestDone _ _ _ hk)
  | .recover _ _ => exact up _ (keep_execRecover _ _ _ hk)
  | .gatePulse _ _ _ => exact up _ (keep_execGatePulse _ _ _ _ hk)
  | .gatePulseEnd _ _ _ _ => exact up _ (keep_execGatePulseEnd _ _ _ _ _ hk)
  | .gdLiveRead _ _ => exact up _ (keep_execGdLiveRead _ _ _ hk)
  | .qualification _ => exact up _ (keep_execQualification _ _ hk)
  | .qualificationDone _ _ _ => exact up _ (keep_execQualificationDone _ _ _ _ hk)
  | .pwmPeriod _ _ => exact up _ (keep_execPwmPeriod _ _ _ hk)
  | .shortCircuitTrip _ _ => exact up _ (keep_execShortCircuitTrip _ _ _ hk)
  | .handshakeTimeout _ => exact up _ (keep_execHandshakeTimeout _ _ hk)
  | .vmOutOfRange _ => exact up _ (keep_execVmOutOfRange _ _ hk)
  | .vggUndervoltage => exact up _ (keep_execVggUndervoltage _ hk)
  | .supplyRelease _ => exact up _ (keep_execSupplyRelease _ _ hk)
  | .bootstrapUndervoltage _ _ => exact up _ (keep_execBootstrapUndervoltage _ _ _ hk)
  | .refreshEpisode _ _ _ => exact up _ (keep_execRefreshEpisode _ _ _ _ hk)
  | .chopperOn => exact up _ (keep_execChopperOn _ hk)
  | .chopperOff => exact up _ (keep_execChopperOff _ hk)
  | .chopperLong => exact up _ (keep_execChopperLong _ hk)
  | .lsOutWrite _ _ _ => exact up _ (keep_execLsOutWrite _ _ _ _ hk)
  | .lsClr _ _ _ => exact up _ (keep_execLsClr _ _ _ _ hk)
  | .inrushEnd _ => exact up _ (keep_execInrushEnd _ _ hk)
  | .limitTime _ => exact up _ (keep_execLimitTime _ _ hk)
  | .openLoadChange _ _ => exact up _ (keep_execOpenLoadChange _ _ _ hk)
  | .zoneHot _ _ _ => exact up _ (keep_execZoneHot _ _ _ _ hk)
  | .zoneSecondCheck _ _ => exact up _ (keep_execZoneSecondCheck _ _ _ hk)
  | .zoneCool _ => exact up _ (keep_execZoneCool _ _ hk)
  | .zoneSensorFault _ => exact up _ (keep_execZoneSensorFault _ _ hk)
  | .shed => exact up _ (keep_execShed _ hk)
  | .lsRestart _ => exact up _ (keep_execLsRestart _ _ hk)
  | .leftReload _ => exact up _ (keep_execLeftReload _ _ hk)
  | .guardChange _ _ => exact up _ (keep_execGuardChange _ _ _ hk)
  | .safestopTimeout _ => exact up _ (keep_execSafestopTimeout _ _ hk)
  | .brakeCurrentFault _ => exact up _ (keep_execBrakeCurrentFault _ _ hk)
  | .brakeSwitchPulse _ _ _ => exact up _ (keep_execBrakeSwitchPulse _ _ _ _ hk)
  | .brakeTestStart _ => exact up _ (keep_execBrakeTestStart _ _ hk)
  | .brakeTestDone _ _ _ => exact up _ (keep_execBrakeTestDone _ _ _ _ hk)
  | .testBrk0 _ => exact up _ (keep_execTestBrk0 _ _ hk)
  | .testBrk1 _ => exact up _ (keep_execTestBrk1 _ _ hk)
  | .propEnPulse _ _ => exact up _ (keep_execPropEnPulse _ _ _ hk)
  | .propEnReadback _ => exact up _ (keep_execPropEnReadback _ _ hk)
  | .propEnLow => exact up _ (keep_execPropEnLow _ hk)
  | .safetySelfTestSlice _ => exact up _ (keep_execSafetySelfTestSlice _ _ hk)
  | .safetyDegradedExpiry => exact up _ (keep_execSafetyDegradedExpiry _ hk)
  | .safetyPduReceived _ _ => exact up _ (keep_execSafetyPduReceived _ _ _ hk)
  | .safetyPduSend => exact up _ (keep_execSafetyPduSend _ hk)
  | .safetyWatchdogExpiry => exact up _ (keep_execSafetyWatchdogExpiry _ hk)
  | .safUnlock _ _ => exact up _ (keep_execSafUnlock _ _ _ hk)
  | .safNewpw _ _ => exact up _ (keep_execSafNewpw _ _ _ hk)
  | .thermalEval _ _ _ => exact up _ (keep_execThermalEval _ _ _ _ hk)
  | .thermalPowerDown _ => exact up _ (keep_execThermalPowerDown _ _ hk)
  | .thermalPauseEnd _ => exact up _ (keep_execThermalPauseEnd _ _ hk)
  | .diePowerCycle _ => exact up _ (keep_execDiePowerCycle _ _ hk)
  | .tmpCmd _ _ => exact up _ (keep_execTmpCmd _ _ _ hk)
  | .eccCorrected _ => exact up _ (keep_execEccCorrected _ _ hk)
  | .sramDoubleBitError => exact up _ (keep_execSramDoubleBitError _ hk)
  | .brakeEngagedReadback _ => exact up _ (keep_execBrakeEngagedReadback _ _ hk)
  | .canErrorActive _ _ _ => exact up _ (keep_execCanErrorActive _ _ _ _ hk)

/-- Every command but the start of operation leaves the time base at or after where it was. -/
theorem goes_exec {n₀ : Nat} {q₀ : List Instr} (i : Instr) (s : State) (hi : ∀ x, i ≠ .startQualified x) (hk : Keep n₀ q₀ s) :
    Goes n₀ q₀ (exec i s) :=
  match i, hi with
  | .startQualified x, hi => absurd rfl (hi x)
  | .mdieSettled _, _ => keep_execMdieSettled _ _ hk
  | .mdieSettleTimeout _, _ => keep_execMdieSettleTimeout _ _ hk
  | .holdupStoreCharged, _ => keep_execHoldupStoreCharged _ hk
  | .holdupTimeout, _ => keep_execHoldupTimeout _ hk
  | .enterRun _, _ => keep_execEnterRun _ _ hk
  | .supplyLow, _ => keep_execSupplyLow _ hk
  | .supplyLowClear, _ => keep_execSupplyLowClear _ hk
  | .pwrWarn, _ => keep_execPwrWarn _ hk
  | .pwrWarnClear, _ => keep_execPwrWarnClear _ hk
  | .pwrFail, _ => keep_execPwrFail _ hk
  | .cdieReset, _ => keep_execCdieReset _ hk
  | .vmOkChange _, _ => keep_execVmOkChange _ _ hk
  | .hostReset _ _, _ => keep_execHostReset _ _ _ hk
  | .layupEnter _ _ _, _ => keep_execLayupEnter _ _ _ _ hk
  | .layupWake _, _ => keep_execLayupWake _ _ hk
  | .layupSupplyLost, _ => keep_execLayupSupplyLost _ hk
  | .addrChange _, _ => keep_execAddrChange _ _ hk
  | .nop _ _, _ => keep_execNop _ _ _ hk
  | .read _ _, _ => keep_execRead _ _ _ hk
  | .write _ _, _ => keep_execWrite _ _ _ hk
  | .burstRead _ _, _ => keep_execBurstRead _ _ _ hk
  | .commit _ _, _ => keep_execCommit _ _ _ hk
  | .status _ _, _ => keep_execStatus _ _ _ hk
  | .unknownOp _ _ _ _, _ => keep_execUnknownOp _ _ _ _ _ hk
  | .crcErrorFrame _ _, _ => keep_execCrcErrorFrame _ _ _ hk
  | .spiNotReady, _ => keep_execSpiNotReady _ hk
  | .canRequestFrame _ _, _ => keep_execCanRequestFrame _ _ _ hk
  | .canErrorPassive _ _ _, _ => keep_execCanErrorPassive _ _ _ _ hk
  | .canBusOff _, _ => keep_execCanBusOff _ _ hk
  | .canBusoffRecovery _, _ => keep_execCanBusoffRecovery _ _ hk
  | .attnMessage _, _ => keep_execAttnMessage _ _ hk
  | .attnMsgWindowEnd _, _ => keep_execAttnMsgWindowEnd _ _ hk
  | .commitStep, _ => keep_execCommitStep _ hk
  | .cfgDiscard _ _, _ => keep_execCfgDiscard _ _ _ hk
  | .pctlEn _ _ _, _ => keep_execPctlEn _ _ _ _ hk
  | .pctlRst _ _, _ => keep_execPctlRst _ _ _ hk
  | .iflagClear _ _ _, _ => keep_execIflagClear _ _ _ _ hk
  | .cfgUnlock _ _, _ => keep_execCfgUnlock _ _ _ hk
  | .unlockExpiry _ _, _ => keep_execUnlockExpiry _ _ _ hk
  | .lockoutEnd _, _ => keep_execLockoutEnd _ _ hk
  | .cfgNewpw _ _, _ => keep_execCfgNewpw _ _ _ hk
  | .cfgDefault _ _, _ => keep_execCfgDefault _ _ _ hk
  | .fwOpen _, _ => keep_execFwOpen _ _ hk
  | .fwData _ _, _ => keep_execFwData _ _ _ hk
  | .fwVerify _, _ => keep_execFwVerify _ _ hk
  | .fwVerifyDone _ _, _ => keep_execFwVerifyDone _ _ _ hk
  | .fwActivate _, _ => keep_execFwActivate _ _ hk
  | .fwAbandon _, _ => keep_execFwAbandon _ _ hk
  | .frameBoundary _, _ => keep_execFrameBoundary _ _ hk
  | .midFrameSample _, _ => keep_execMidFrameSample _ _ hk
  | .quietLead, _ => keep_execQuietLead _ hk
  | .servoTick _, _ => keep_execServoTick _ _ hk
  | .auxScan _, _ => keep_execAuxScan _ _ hk
  | .syncInEdge, _ => keep_execSyncInEdge _ hk
  | .syncMiss, _ => keep_execSyncMiss _ hk
  | .timeLoRead _, _ => keep_execTimeLoRead _ _ hk
  | .epochLoWrite _ _, _ => keep_execEpochLoWrite _ _ _ hk
  | .epochHiWrite _ _, _ => keep_execEpochHiWrite _ _ _ hk
  | .xtalLost, _ => keep_execXtalLost _ hk
  | .xtalRegained, _ => keep_execXtalRegained _ hk
  | .clockCheckWindow _, _ => keep_execClockCheckWindow _ _ hk
  | .strobeRecal _, _ => keep_execStrobeRecal _ _ hk
  | .segmentDown _, _ => keep_execSegmentDown _ _ hk
  | .segmentRetrain _ _, _ => keep_execSegmentRetrain _ _ _ hk
  | .dieUnreachable _, _ => keep_execDieUnreachable _ _ hk
  | .dieRejoin _, _ => keep_execDieRejoin _ _ hk
  | .dieSleep _, _ => keep_execDieSleep _ _ hk
  | .dieWake _, _ => keep_execDieWake _ _ hk
  | .periodicSave, _ => keep_execPeriodicSave _ hk
  | .firmwareEval, _ => keep_execFirmwareEval _ hk
  | .sweepStart, _ => keep_execSweepStart _ hk
  | .owRequest _ _ _, _ => keep_execOwRequest _ _ _ _ hk
  | .tapTestStart _, _ => keep_execTapTestStart _ _ hk
  | .tapWindowEnd _, _ => keep_execTapWindowEnd _ _ hk
  | .tapTestDecide _, _ => keep_execTapTestDecide _ _ hk
  | .gatedEval _, _ => keep_execGatedEval _ _ hk
  | .gatedTrip, _ => keep_execGatedTrip _ hk
  | .absoluteTrip _ _ _, _ => keep_execAbsoluteTrip _ _ _ _ hk
  | .comparatorSelfTest _, _ => keep_execComparatorSelfTest _ _ hk
  | .faultChannelLost _ _, _ => keep_execFaultChannelLost _ _ _ hk
  | .tripCode _ _, _ => keep_execTripCode _ _ _ hk
  | .carrierReturn _, _ => keep_execCarrierReturn _ _ hk
  | .flclr _ _, _ => keep_execFlclr _ _ _ hk
  | .fastOcTrip _, _ => keep_execFastOcTrip _ _ hk
  | .ocSelfTest _, _ => keep_execOcSelfTest _ _ hk
  | .balanceOnTimeEnd _ _, _ => keep_execBalanceOnTimeEnd _ _ _ hk
  | .switchStuck _ _, _ => keep_execSwitchStuck _ _ _ hk
  | .switchOvercurrent _ _, _ => keep_execSwitchOvercurrent _ _ _ hk
  | .balanceOpenLoop _ _, _ => keep_execBalanceOpenLoop _ _ _ hk
  | .blSwclr _ _ _, _ => keep_execBlSwclr _ _ _ _ hk
  | .learnStart _ _, _ => keep_execLearnStart _ _ _ hk
  | .learnAbort _ _, _ => keep_execLearnAbort _ _ _ hk
  | .currentSuspect, _ => keep_execCurrentSuspect _ hk
  | .currentAgreed, _ => keep_execCurrentAgreed _ hk
  | .curZero _, _ => keep_execCurZero _ _ hk
  | .zeroAutoStart, _ => keep_execZeroAutoStart _ hk
  | .zeroingDone, _ => keep_execZeroingDone _ hk
  | .stvCalStr _, _ => keep_execStvCalStr _ _ hk
  | .stvCalLnk _, _ => keep_execStvCalLnk _ _ hk
  | .stvCalClear _, _ => keep_execStvCalClear _ _ hk
  | .stvCalDone, _ => keep_execStvCalDone _ hk
  | .sageStep, _ => keep_execSageStep _ hk
  | .writebackPeriod, _ => keep_execWritebackPeriod _ hk
  | .sgeCmdWriteback _, _ => keep_execSgeCmdWriteback _ _ hk
  | .writebackStart, _ => keep_execWritebackStart _ hk
  | .writebackDone, _ => keep_execWritebackDone _ hk
  | .tableLoad _, _ => keep_execTableLoad _ _ hk
  | .tableActivate _, _ => keep_execTableActivate _ _ hk
  | .tbldataAccess _ _, _ => keep_execTbldataAccess _ _ _ hk
  | .sgcBankWrite _ _, _ => keep_execSgcBankWrite _ _ _ hk
  | .sgcReset _ _, _ => keep_execSgcReset _ _ _ hk
  | .limZselWrite _ _, _ => keep_execLimZselWrite _ _ _ hk
  | .connect _, _ => keep_execConnect _ _ hk
  | .disconnect _, _ => keep_execDisconnect _ _ hk
  | .chargeOn _, _ => keep_execChargeOn _ _ hk
  | .chargeOff _, _ => keep_execChargeOff _ _ hk
  | .prtClear _, _ => keep_execPrtClear _ _ hk
  | .weldclr _ _, _ => keep_execWeldclr _ _ _ hk
  | .pullInEnd _, _ => keep_execPullInEnd _ _ hk
  | .auxChange _ _, _ => keep_execAuxChange _ _ _ hk
  | .prechargeTimeout, _ => keep_execPrechargeTimeout _ hk
  | .prechargeOverlapEnd, _ => keep_execPrechargeOverlapEnd _ hk
  | .matchTimeout, _ => keep_execMatchTimeout _ hk
  | .prechargeCoolEnd, _ => keep_execPrechargeCoolEnd _ hk
  | .coilOvercurrent _, _ => keep_execCoilOvercurrent _ _ hk
  | .coilCurrentFault _, _ => keep_execCoilCurrentFault _ _ hk
  | .auxCloseTimeout _, _ => keep_execAuxCloseTimeout _ _ hk
  | .auxOpenTimeout _, _ => keep_execAuxOpenTimeout _ _ hk
  | .cd1HoldEnd, _ => keep_execCd1HoldEnd _ hk
  | .deadlineExpiry, _ => keep_execDeadlineExpiry _ hk
  | .badChannelsOpen, _ => keep_execBadChannelsOpen _ hk
  | .suspectTimeExpiry, _ => keep_execSuspectTimeExpiry _ hk
  | .degradedCellExpiry _ _, _ => keep_execDegradedCellExpiry _ _ _ hk
  | .cellTempExpiry _ _, _ => keep_execCellTempExpiry _ _ _ hk
  | .limitFrame, _ => keep_execLimitFrame _ hk
  | .chargeOffTimeout, _ => keep_execChargeOffTimeout _ hk
  | .shoreDetChange _, _ => keep_execShoreDetChange _ _ hk
  | .ringCycle, _ => keep_execRingCycle _ hk
  | .ringStatusMsg _, _ => keep_execRingStatusMsg _ _ hk
  | .memberLost _, _ => keep_execMemberLost _ _ hk
  | .grantTimeout, _ => keep_execGrantTimeout _ hk
  | .systemFrame, _ => keep_execSystemFrame _ hk
  | .mirrorReceived _ _ _ _ _, _ => keep_execMirrorReceived _ _ _ _ _ _ hk
  | .mirrorHeaderReply _, _ => keep_execMirrorHeaderReply _ _ hk
  | .adopt _, _ => keep_execAdopt _ _ hk
  | .adoptFetchDone _ _, _ => keep_execAdoptFetchDone _ _ _ hk
  | .decline _, _ => keep_execDecline _ _ hk
  | .cancel _, _ => keep_execCancel _ _ hk
  | .installAnchor _, _ => keep_execInstallAnchor _ _ hk
  | .enrol _ _, _ => keep_execEnrol _ _ _ hk
  | .authenticateAll _, _ => keep_execAuthenticateAll _ _ hk
  | .autPoll _, _ => keep_execAutPoll _ _ hk
  | .slotAuthDone _ _, _ => keep_execSlotAuthDone _ _ _ hk
  | .autKeydataWrite _ _, _ => keep_execAutKeydataWrite _ _ _ hk
  | .autSelWrite _ _, _ => keep_execAutSelWrite _ _ _ hk
  | .lockstepMismatch _ _, _ => keep_execLockstepMismatch _ _ _ hk
  | .arbitration _ _, _ => keep_execArbitration _ _ _ hk
  | .coreResume _, _ => keep_execCoreResume _ _ hk
  | .selfTestSlice _ _, _ => keep_execSelfTestSlice _ _ _ hk
  | .watchdogExpiry, _ => keep_execWatchdogExpiry _ hk
  | .degradedTimeExpiry, _ => keep_execDegradedTimeExpiry _ hk
  | .degradedTimeSave, _ => keep_execDegradedTimeSave _ hk
  | .leaseAcquire _ _, _ => keep_execLeaseAcquire _ _ _ hk
  | .leaseRelease _ _, _ => keep_execLeaseRelease _ _ _ hk
  | .leaseExpiry _, _ => keep_execLeaseExpiry _ _ hk
  | .mramRecoveryDone _ _, _ => keep_execMramRecoveryDone _ _ _ hk
  | .recordAccept, _ => keep_execRecordAccept _ hk
  | .flushPeriodic, _ => keep_execFlushPeriodic _ hk
  | .flushStart, _ => keep_execFlushStart _ hk
  | .flushDone, _ => keep_execFlushDone _ hk
  | .rateWindowClose, _ => keep_execRateWindowClose _ hk
  | .rsmClear _ _, _ => keep_execRsmClear _ _ _ hk
  | .rsmSnapWrite _ _, _ => keep_execRsmSnapWrite _ _ _ hk
  | .snapshotExpiry _, _ => keep_execSnapshotExpiry _ _ hk
  | .rsmRdselWrite _ _, _ => keep_execRsmRdselWrite _ _ _ hk
  | .ledgerRecordWrite, _ => keep_execLedgerRecordWrite _ hk
  | .cylAck _ _, _ => keep_execCylAck _ _ _ hk
  | .cylRdselWrite _ _, _ => keep_execCylRdselWrite _ _ _ hk
  | .baySamplePair _ _, _ => keep_execBaySamplePair _ _ _ hk
  | .bayPairLost, _ => keep_execBayPairLost _ hk
  | .bayInterval, _ => keep_execBayInterval _ hk
  | .bayCopyWrite, _ => keep_execBayCopyWrite _ hk
  | .bayAux3Change _, _ => keep_execBayAux3Change _ _ hk
  | .bayBreak _, _ => keep_execBayBreak _ _ hk
  | .baySet _ _, _ => keep_execBaySet _ _ _ hk
  | .baySeal _, _ => keep_execBaySeal _ _ hk
  | .bayImgOpen _, _ => keep_execBayImgOpen _ _ hk
  | .bayImgData _, _ => keep_execBayImgData _ _ hk
  | .bayImgEnd _ _ _, _ => keep_execBayImgEnd _ _ _ _ hk
  | .bayMailboxReject _, _ => keep_execBayMailboxReject _ _ hk
  | .bayLockoutEnd, _ => keep_execBayLockoutEnd _ hk
  | .move _ _, _ => keep_execMove _ _ _ hk
  | .home _ _, _ => keep_execHome _ _ _ hk
  | .axisStop _ _, _ => keep_execAxisStop _ _ _ hk
  | .axisClear _ _, _ => keep_execAxisClear _ _ _ hk
  | .groupStart _ _, _ => keep_execGroupStart _ _ _ hk
  | .groupStop _ _, _ => keep_execGroupStop _ _ _ hk
  | .stopAll _, _ => keep_execStopAll _ _ hk
  | .cycleStart _, _ => keep_execCycleStart _ _ hk
  | .cycleEnd _, _ => keep_execCycleEnd _ _ hk
  | .homePoint _, _ => keep_execHomePoint _ _ hk
  | .homingTimeout _, _ => keep_execHomingTimeout _ _ hk
  | .stall _, _ => keep_execStall _ _ hk
  | .obstacle _, _ => keep_execObstacle _ _ hk
  | .edgeChange _ _, _ => keep_execEdgeChange _ _ _ hk
  | .edgeGapTimeout _, _ => keep_execEdgeGapTimeout _ _ hk
  | .limitSwitch _, _ => keep_execLimitSwitch _ _ hk
  | .setpointQueueEmpty _, _ => keep_execSetpointQueueEmpty _ _ hk
  | .standstillDelay _, _ => keep_execStandstillDelay _ _ hk
  | .gdieFrame _ _ _, _ => keep_execGdieFrame _ _ _ _ hk
  | .gdieLinkLost, _ => keep_execGdieLinkLost _ hk
  | .sctest _ _, _ => keep_execSctest _ _ _ hk
  | .sctestDone _ _, _ => keep_execSctestDone _ _ _ hk
  | .recover _ _, _ => keep_execRecover _ _ _ hk
  | .gatePulse _ _ _, _ => keep_execGatePulse _ _ _ _ hk
  | .gatePulseEnd _ _ _ _, _ => keep_execGatePulseEnd _ _ _ _ _ hk
  | .gdLiveRead _ _, _ => keep_execGdLiveRead _ _ _ hk
  | .qualification _, _ => keep_execQualification _ _ hk
  | .qualificationDone _ _ _, _ => keep_execQualificationDone _ _ _ _ hk
  | .pwmPeriod _ _, _ => keep_execPwmPeriod _ _ _ hk
  | .shortCircuitTrip _ _, _ => keep_execShortCircuitTrip _ _ _ hk
  | .handshakeTimeout _, _ => keep_execHandshakeTimeout _ _ hk
  | .vmOutOfRange _, _ => keep_execVmOutOfRange _ _ hk
  | .vggUndervoltage, _ => keep_execVggUndervoltage _ hk
  | .supplyRelease _, _ => keep_execSupplyRelease _ _ hk
  | .bootstrapUndervoltage _ _, _ => keep_execBootstrapUndervoltage _ _ _ hk
  | .refreshEpisode _ _ _, _ => keep_execRefreshEpisode _ _ _ _ hk
  | .chopperOn, _ => keep_execChopperOn _ hk
  | .chopperOff, _ => keep_execChopperOff _ hk
  | .chopperLong, _ => keep_execChopperLong _ hk
  | .lsOutWrite _ _ _, _ => keep_execLsOutWrite _ _ _ _ hk
  | .lsClr _ _ _, _ => keep_execLsClr _ _ _ _ hk
  | .inrushEnd _, _ => keep_execInrushEnd _ _ hk
  | .limitTime _, _ => keep_execLimitTime _ _ hk
  | .openLoadChange _ _, _ => keep_execOpenLoadChange _ _ _ hk
  | .zoneHot _ _ _, _ => keep_execZoneHot _ _ _ _ hk
  | .zoneSecondCheck _ _, _ => keep_execZoneSecondCheck _ _ _ hk
  | .zoneCool _, _ => keep_execZoneCool _ _ hk
  | .zoneSensorFault _, _ => keep_execZoneSensorFault _ _ hk
  | .shed, _ => keep_execShed _ hk
  | .lsRestart _, _ => keep_execLsRestart _ _ hk
  | .leftReload _, _ => keep_execLeftReload _ _ hk
  | .guardChange _ _, _ => keep_execGuardChange _ _ _ hk
  | .safestopTimeout _, _ => keep_execSafestopTimeout _ _ hk
  | .brakeCurrentFault _, _ => keep_execBrakeCurrentFault _ _ hk
  | .brakeSwitchPulse _ _ _, _ => keep_execBrakeSwitchPulse _ _ _ _ hk
  | .brakeTestStart _, _ => keep_execBrakeTestStart _ _ hk
  | .brakeTestDone _ _ _, _ => keep_execBrakeTestDone _ _ _ _ hk
  | .testBrk0 _, _ => keep_execTestBrk0 _ _ hk
  | .testBrk1 _, _ => keep_execTestBrk1 _ _ hk
  | .propEnPulse _ _, _ => keep_execPropEnPulse _ _ _ hk
  | .propEnReadback _, _ => keep_execPropEnReadback _ _ hk
  | .propEnLow, _ => keep_execPropEnLow _ hk
  | .safetySelfTestSlice _, _ => keep_execSafetySelfTestSlice _ _ hk
  | .safetyDegradedExpiry, _ => keep_execSafetyDegradedExpiry _ hk
  | .safetyPduReceived _ _, _ => keep_execSafetyPduReceived _ _ _ hk
  | .safetyPduSend, _ => keep_execSafetyPduSend _ hk
  | .safetyWatchdogExpiry, _ => keep_execSafetyWatchdogExpiry _ hk
  | .safUnlock _ _, _ => keep_execSafUnlock _ _ _ hk
  | .safNewpw _ _, _ => keep_execSafNewpw _ _ _ hk
  | .thermalEval _ _ _, _ => keep_execThermalEval _ _ _ _ hk
  | .thermalPowerDown _, _ => keep_execThermalPowerDown _ _ hk
  | .thermalPauseEnd _, _ => keep_execThermalPauseEnd _ _ hk
  | .diePowerCycle _, _ => keep_execDiePowerCycle _ _ hk
  | .tmpCmd _ _, _ => keep_execTmpCmd _ _ _ hk
  | .eccCorrected _, _ => keep_execEccCorrected _ _ hk
  | .sramDoubleBitError, _ => keep_execSramDoubleBitError _ hk
  | .brakeEngagedReadback _, _ => keep_execBrakeEngagedReadback _ _ hk
  | .canErrorActive _ _ _, _ => keep_execCanErrorActive _ _ _ _ hk

end Sys2Proof.Machine
end

