-- ==== Sys2Proof/Laws/Requests.lean ====
section
/-! SUPPORT. A request made of its fields passes its CRC and reads back field by field, and a CAN record of its bytes is that
request. -/
namespace Sys2Proof.Machine

theorem crc8Bit_lt {c : Nat} (h : c < 256) : crc8Bit c < 256 := by
  unfold crc8Bit
  split
  · omega
  · exact Nat.xor_lt_two_pow (n := 8) (Nat.mod_lt _ (by omega)) (by omega)

theorem iter_crc8Bit_lt (n : Nat) {c : Nat} (h : c < 256) : iter crc8Bit n c < 256 := by
  induction n generalizing c with
  | zero => exact h
  | succ n ih => exact ih (crc8Bit_lt h)

theorem foldl_lt {f : Nat → Nat → Nat} (hf : ∀ c b, c < 256 → f c b < 256) (l : List Nat) {c : Nat} (h : c < 256) :
    l.foldl f c < 256 := by
  induction l generalizing c with
  | nil => exact h
  | cons b l ih => exact ih (hf c b h)

/-- The CRC-8 is a byte. -/
theorem crc8_lt (l : List Nat) : crc8 l < 256 := by
  unfold crc8
  refine Nat.xor_lt_two_pow (n := 8) (foldl_lt (fun c b h => ?_) l (by omega)) (by omega)
  exact iter_crc8Bit_lt 8 (Nat.xor_lt_two_pow (n := 8) h (Nat.mod_lt _ (by omega)))

/-- The 64 bits of a head with its CRC, as a number. -/
theorem withCrc_toNat {h : Nat} (hh : h < 2 ^ 56) : (withCrc h).toNat = h * 256 + crc8 (bytesBE 7 h) := by
  unfold withCrc
  rw [BitVec.toNat_ofNat]
  have := crc8_lt (bytesBE 7 h)
  exact Nat.mod_eq_of_lt (by omega)

/-- What carries its CRC passes it. -/
theorem crcOk_withCrc {h : Nat} (hh : h < 2 ^ 56) : crcOk (withCrc h) = true := by
  unfold crcOk fieldOf
  rw [withCrc_toNat hh]
  have := crc8_lt (bytesBE 7 h)
  rw [show (h * 256 + crc8 (bytesBE 7 h)) / 256 = h by omega, beq_iff_eq]
  omega

/-- The head of a request. -/
theorem request_head_lt (op rsv page word : Nat) (data : Word) :
    op % 16 * 2 ^ 52 + page % 256 * 2 ^ 44 + word % 256 * 2 ^ 36 + rsv % 16 * 2 ^ 32 + data.toNat < 2 ^ 56 := by
  have := data.isLt
  omega

theorem crcOk_requestBits (op rsv page word : Nat) (data : Word) : crcOk (requestBits op rsv page word data) = true :=
  crcOk_withCrc (request_head_lt op rsv page word data)

theorem requestBits_toNat (op rsv page word : Nat) (data : Word) : ∃ c, c < 256 ∧ (requestBits op rsv page word data).toNat =
    (op % 16 * 2 ^ 52 + page % 256 * 2 ^ 44 + word % 256 * 2 ^ 36 + rsv % 16 * 2 ^ 32 + data.toNat) * 256 + c :=
  ⟨_, crc8_lt _, withCrc_toNat (request_head_lt op rsv page word data)⟩

theorem request_op (op rsv page word : Nat) (data : Word) : fieldOf (requestBits op rsv page word data) 63 60 = op % 16 := by
  obtain ⟨c, hc, h⟩ := requestBits_toNat op rsv page word data
  have := data.isLt
  unfold fieldOf; rw [h]; omega

theorem request_page (op rsv page word : Nat) (data : Word) : fieldOf (requestBits op rsv page word data) 59 52 = page % 256 := by
  obtain ⟨c, hc, h⟩ := requestBits_toNat op rsv page word data
  have := data.isLt
  unfold fieldOf; rw [h]; omega

theorem request_word (op rsv page word : Nat) (data : Word) : fieldOf (requestBits op rsv page word data) 51 44 = word % 256 := by
  obtain ⟨c, hc, h⟩ := requestBits_toNat op rsv page word data
  have := data.isLt
  unfold fieldOf; rw [h]; omega

theorem request_rsv (op rsv page word : Nat) (data : Word) : fieldOf (requestBits op rsv page word data) 43 40 = rsv % 16 := by
  obtain ⟨c, hc, h⟩ := requestBits_toNat op rsv page word data
  have := data.isLt
  unfold fieldOf; rw [h]; omega

theorem request_data (op rsv page word : Nat) (data : Word) :
    BitVec.ofNat 32 (fieldOf (requestBits op rsv page word data) 39 8) = data := by
  obtain ⟨c, hc, h⟩ := requestBits_toNat op rsv page word data
  have hd := data.isLt
  unfold fieldOf; rw [h]
  apply BitVec.eq_of_toNat_eq
  rw [BitVec.toNat_ofNat]
  omega

/-- A request given as bits is the request of its fields, where island 2 has the link's reply buffer. -/
theorem performBits_requestBits (s : State) (l : Link) {op rsv page word : Nat} (data : Word) (ho : op < 16) (hr : rsv < 16)
    (hp : page < 256) (hw : word < 256) (hs : s.slotOpen (replySlot l) partyIsland2 = true) :
    s.performBits l (requestBits op rsv page word data) = s.perform l op rsv page word data := by
  unfold State.performBits
  rw [request_op, request_page, request_word, request_rsv, request_data]
  simp only [hs, Bool.not_true, Bool.false_eq_true, if_false, crcOk_requestBits, if_true]
  rw [Nat.mod_eq_of_lt ho, Nat.mod_eq_of_lt hr, Nat.mod_eq_of_lt hp, Nat.mod_eq_of_lt hw]

theorem foldl_bytesBE (n v acc : Nat) :
    (bytesBE n v).foldl (fun acc b => acc * 256 + b % 256) acc = acc * 256 ^ n + v % 256 ^ n := by
  induction n generalizing acc with
  | zero => simp [bytesBE, Nat.mod_one]
  | succ n ih =>
    rw [bytesBE, List.foldl_cons, ih, Nat.mod_pow_succ, Nat.mod_mod, Nat.add_mul, Nat.pow_succ]
    ring

theorem ofBytesBE_bytesBE (n v : Nat) : ofBytesBE (bytesBE n v) = v % 256 ^ n := by
  unfold ofBytesBE; rw [foldl_bytesBE]; omega

theorem bytesBE_byte (n v : Nat) : ((bytesBE n v).map (BitVec.ofNat 8)).map (·.toNat) = bytesBE n v := by
  induction n with
  | zero => rfl
  | succ n ih => rw [bytesBE, List.map_cons, List.map_cons, ih, BitVec.toNat_ofNat, Nat.mod_mod_of_dvd _ (Nat.dvd_refl _)]

theorem bytesBE_length (n v : Nat) : (bytesBE n v).length = n := by
  induction n with
  | zero => rfl
  | succ n ih => rw [bytesBE, List.length_cons, ih]

theorem bytesOf64_length (r : BitVec 64) : (bytesOf64 r).length = 8 := by
  unfold bytesOf64; rw [List.length_map, bytesBE_length]

/-- The record made of the bytes of 64 bits is those bits. -/
theorem recordsOf_bytesOf64 (r : BitVec 64) : recordsOf 8 (bytesOf64 r) = [r] := by
  have n := bytesOf64_length r
  have e : bytesOf64 r ≠ [] := by intro h; rw [h] at n; cases n
  have d : (bytesOf64 r).drop 8 = [] := List.drop_eq_nil_of_le (by omega)
  have t : (bytesOf64 r).take 8 = bytesOf64 r := List.take_of_length_le (by omega)
  rw [recordsOf, if_neg e, d, t]
  unfold bytesOf64
  rw [bytesBE_byte, ofBytesBE_bytesBE, Nat.mod_eq_of_lt (by have := r.isLt; omega), BitVec.ofNat_toNat]
  simp [recordsOf]

end Sys2Proof.Machine
end

