-- ==== Sys2Proof/Laws/Shown.lean ====
section
/-! SUPPORT. What bringing the words that follow the moment up to date changes: those words, the FRAMESEQ of their pages, and what a
publication touches. -/
namespace Sys2Proof.Machine
open Host

theorem linksAside_refl (a : State) : linksAside a a := rfl

theorem linksAside_trans {a b c : State} (h : linksAside a b) (h' : linksAside b c) : linksAside a c := by
  unfold linksAside at *; rw [h, h']

theorem linksAside_onLink (s : State) (l : Link) (f : LinkSt → LinkSt) : linksAside (s.onLink l f) s := by cases l <;> rfl

/-- What a link keeps for its session: selections, unlocks, and the halves of times. -/
def LinkSt.session (k : LinkSt) : Selectors × Option Nat × Option Nat × Option Word × Option Nat :=
  (k.sel, k.cfgUntil, k.safUntil, k.epochLo, k.timeHi)

/-- What a link keeps of its traffic: the open burst, the reply to come, and the requests that wait. -/
def LinkSt.traffic (k : LinkSt) : List BurstWord × Bool × Reply × Option (BitVec 64) × List CanPend :=
  (k.burst, k.burstStale, k.reply, k.waiting, k.frames)

/-- The same state but for the traffic of the links: their sessions are the same. -/
def twin (a b : State) : Prop := linksAside a b ∧ ∀ k, (a.link k).session = (b.link k).session

theorem twin_refl (a : State) : twin a a := ⟨rfl, fun _ => rfl⟩

theorem twin_trans {a b c : State} (h : twin a b) (h' : twin b c) : twin a c :=
  ⟨linksAside_trans h.1 h'.1, fun k => (h.2 k).trans (h'.2 k)⟩

theorem twin_onLink (s : State) (l : Link) {f : LinkSt → LinkSt} (hf : ∀ k, (f k).session = k.session) : twin (s.onLink l f) s :=
  ⟨linksAside_onLink s l f, fun k => by cases l <;> cases k <;> first | exact hf _ | rfl⟩

/-! ### Publishing and storing -/

theorem publish_session (s : State) (p : Nat) (q : Word) (k : Link) : ((s.publish p q).link k).session = (s.link k).session := by
  unfold State.publish
  split
  · rfl
  · cases k <;> rfl

theorem publish_traffic (s : State) (p : Nat) (q : Word) (k : Link) : ((s.publish p q).link k).traffic = (s.link k).traffic := by
  unfold State.publish
  split
  · rfl
  · cases k <;> rfl

theorem put_session (s : State) (a : Nat) (v : Word) (k : Link) : ((s.put a v).link k).session = (s.link k).session := by
  unfold State.put
  split
  · rfl
  · split
    · exact publish_session ..
    · rfl

theorem put_traffic (s : State) (a : Nat) (v : Word) (k : Link) : ((s.put a v).link k).traffic = (s.link k).traffic := by
  unfold State.put
  split
  · rfl
  · split
    · exact publish_traffic ..
    · rfl

/-- Storing a word keeps states alike. -/
theorem linksAside_put {a b : State} (h : linksAside a b) (x : Nat) (v : Word) : linksAside (a.put x v) (b.put x v) := by
  unfold linksAside at h
  rw [h]
  generalize a.links = L
  have hr : ∀ y, State.reg { b with links := L } y = b.reg y := fun _ => rfl
  have hf : State.frame { b with links := L } = b.frame := rfl
  unfold State.put State.publish linksAside
  simp only [hr, hf]
  have hs : ∀ y w z, State.reg (State.setReg { b with links := L } y w) z = (b.setReg y w).reg z := fun _ _ _ => rfl
  have hq : ∀ y w, (State.setReg { b with links := L } y w).published = (b.setReg y w).published := fun _ _ => rfl
  simp only [hs, hq]
  split_ifs <;> rfl

/-! ### What such a word shows -/

/-- What a word shows at the moment does not depend on the traffic. -/
theorem derived_twin {a b : State} (h : twin a b) (x : Nat) : a.derived x = b.derived x := by
  have hu : ∀ k, (a.link k).cfgUntil = (b.link k).cfgUntil := fun k => congrArg (fun e => e.2.1) (h.2 k)
  have hs : ∀ k, (a.link k).safUntil = (b.link k).safUntil := fun k => congrArg (fun e => e.2.2.1) (h.2 k)
  have hn : a.now = b.now := by rw [h.1]
  have e1 : ∀ k, a.unlocked k = b.unlocked k := fun k => by unfold State.unlocked; rw [hu, hn]
  have e2 : ∀ k, a.safUnlocked k = b.safUnlocked k := fun k => by unfold State.safUnlocked; rw [hs, hn]
  have hl : ∀ f, a.lockStat f = b.lockStat f := fun f => by
    unfold State.lockStat
    have hp : a.password f = b.password f := by rw [h.1]; cases f <;> rfl
    have ho : ∀ t u, a.leftOf t u = b.leftOf t u := fun t u => by unfold State.leftOf; rw [hn]
    simp only [e1, e2, hp, ho]
  unfold State.derived
  rw [hl, hl, h.1]
  rfl

theorem refreshWord_twin {a b : State} (h : twin a b) (x : Nat) : twin (a.refreshWord x) (b.refreshWord x) := by
  unfold State.refreshWord
  have hf : a.fitted (x / 256) = b.fitted (x / 256) := by rw [h.1]; rfl
  rw [derived_twin h, hf]
  split
  · exact ⟨linksAside_put h.1 _ _, fun k => by rw [put_session, put_session]; exact h.2 k⟩
  · exact h

theorem foldl_refresh_twin (l : List Nat) {a b : State} (h : twin a b) :
    twin (l.foldl State.refreshWord a) (l.foldl State.refreshWord b) := by
  induction l generalizing a b with
  | nil => exact h
  | cons x l ih => exact ih (refreshWord_twin h x)

/-- States alike but for traffic stay so. -/
theorem refreshShown_twin {a b : State} (h : twin a b) : twin a.refreshShown b.refreshShown := foldl_refresh_twin _ h

/-! ### What is left alone -/

/-- A fact that storing a word keeps is kept. -/
theorem refreshShown_keeps {P : State → Prop} (hp : ∀ s a v, P s → P (State.put s a v)) {s : State} (h : P s) : P s.refreshShown := by
  unfold State.refreshShown
  generalize derivedWords = l
  induction l generalizing s with
  | nil => exact h
  | cons x l ih =>
    refine ih ?_
    unfold State.refreshWord
    split
    · exact hp _ _ _ h
    · exact h

theorem refreshShown_session (s : State) (k : Link) : (s.refreshShown.link k).session = (s.link k).session :=
  refreshShown_keeps (P := fun t => (t.link k).session = (s.link k).session) (fun _ _ _ h => (put_session ..).trans h) rfl

theorem refreshShown_traffic (s : State) (k : Link) : (s.refreshShown.link k).traffic = (s.link k).traffic :=
  refreshShown_keeps (P := fun t => (t.link k).traffic = (s.link k).traffic) (fun _ _ _ h => (put_traffic ..).trans h) rfl

@[simp] theorem State.refreshShown_now (s : State) : s.refreshShown.now = s.now :=
  refreshShown_keeps (P := fun t => t.now = s.now) (fun _ _ _ h => (State.put_now ..).trans h) rfl
@[simp] theorem State.refreshShown_shadow (s : State) : s.refreshShown.shadow = s.shadow :=
  refreshShown_keeps (P := fun t => t.shadow = s.shadow) (fun _ _ _ h => (State.put_shadow ..).trans h) rfl
@[simp] theorem State.refreshShown_gdieDown (s : State) : s.refreshShown.gdieDown = s.gdieDown :=
  refreshShown_keeps (P := fun t => t.gdieDown = s.gdieDown) (fun _ _ _ h => (State.put_gdieDown ..).trans h) rfl
@[simp] theorem State.refreshShown_pwr (s : State) : s.refreshShown.pwr = s.pwr :=
  refreshShown_keeps (P := fun t => t.pwr = s.pwr) (fun _ _ _ h => (State.put_pwr ..).trans h) rfl
@[simp] theorem State.refreshShown_pins (s : State) : s.refreshShown.pins = s.pins :=
  refreshShown_keeps (P := fun t => t.pins = s.pins) (fun _ _ _ h => (State.put_pins ..).trans h) rfl
@[simp] theorem State.refreshShown_commit (s : State) : s.refreshShown.commit = s.commit :=
  refreshShown_keeps (P := fun t => t.commit = s.commit) (fun _ _ _ h => (State.put_commit ..).trans h) rfl
@[simp] theorem State.refreshShown_pw (s : State) : s.refreshShown.pw = s.pw :=
  refreshShown_keeps (P := fun t => t.pw = s.pw) (fun _ _ _ h => (State.put_pw ..).trans h) rfl
@[simp] theorem State.refreshShown_spw (s : State) : s.refreshShown.spw = s.spw :=
  refreshShown_keeps (P := fun t => t.spw = s.spw) (fun _ _ _ h => (State.put_spw ..).trans h) rfl
@[simp] theorem State.refreshShown_fw (s : State) : s.refreshShown.fw = s.fw :=
  refreshShown_keeps (P := fun t => t.fw = s.fw) (fun _ _ _ h => (State.put_fw ..).trans h) rfl
@[simp] theorem State.refreshShown_thy (s : State) : s.refreshShown.thy = s.thy :=
  refreshShown_keeps (P := fun t => t.thy = s.thy) (fun _ _ _ h => (State.put_thy ..).trans h) rfl
@[simp] theorem State.refreshShown_stk (s : State) : s.refreshShown.stk = s.stk :=
  refreshShown_keeps (P := fun t => t.stk = s.stk) (fun _ _ _ h => (State.put_stk ..).trans h) rfl
@[simp] theorem State.refreshShown_rsm (s : State) : s.refreshShown.rsm = s.rsm :=
  refreshShown_keeps (P := fun t => t.rsm = s.rsm) (fun _ _ _ h => (State.put_rsm ..).trans h) rfl
@[simp] theorem State.refreshShown_cyl (s : State) : s.refreshShown.cyl = s.cyl :=
  refreshShown_keeps (P := fun t => t.cyl = s.cyl) (fun _ _ _ h => (State.put_cyl ..).trans h) rfl
@[simp] theorem State.refreshShown_flt (s : State) : s.refreshShown.flt = s.flt :=
  refreshShown_keeps (P := fun t => t.flt = s.flt) (fun _ _ _ h => (State.put_flt ..).trans h) rfl
@[simp] theorem State.refreshShown_dieSt (s : State) : s.refreshShown.dieSt = s.dieSt :=
  refreshShown_keeps (P := fun t => t.dieSt = s.dieSt) (fun _ _ _ h => (State.put_dieSt ..).trans h) rfl
@[simp] theorem State.refreshShown_line (s : State) : s.refreshShown.line = s.line :=
  refreshShown_keeps (P := fun t => t.line = s.line) (fun _ _ _ h => (State.put_line ..).trans h) rfl
@[simp] theorem State.refreshShown_cur (s : State) : s.refreshShown.cur = s.cur :=
  refreshShown_keeps (P := fun t => t.cur = s.cur) (fun _ _ _ h => (State.put_cur ..).trans h) rfl
@[simp] theorem State.refreshShown_bay (s : State) : s.refreshShown.bay = s.bay :=
  refreshShown_keeps (P := fun t => t.bay = s.bay) (fun _ _ _ h => (State.put_bay ..).trans h) rfl
@[simp] theorem State.refreshShown_mot (s : State) : s.refreshShown.mot = s.mot :=
  refreshShown_keeps (P := fun t => t.mot = s.mot) (fun _ _ _ h => (State.put_mot ..).trans h) rfl
@[simp] theorem State.refreshShown_gate (s : State) : s.refreshShown.gate = s.gate :=
  refreshShown_keeps (P := fun t => t.gate = s.gate) (fun _ _ _ h => (State.put_gate ..).trans h) rfl
@[simp] theorem State.refreshShown_saf (s : State) : s.refreshShown.saf = s.saf :=
  refreshShown_keeps (P := fun t => t.saf = s.saf) (fun _ _ _ h => (State.put_saf ..).trans h) rfl
@[simp] theorem State.refreshShown_prot (s : State) : s.refreshShown.prot = s.prot :=
  refreshShown_keeps (P := fun t => t.prot = s.prot) (fun _ _ _ h => (State.put_prot ..).trans h) rfl
@[simp] theorem State.refreshShown_tmp (s : State) : s.refreshShown.tmp = s.tmp :=
  refreshShown_keeps (P := fun t => t.tmp = s.tmp) (fun _ _ _ h => (State.put_tmp ..).trans h) rfl
@[simp] theorem State.refreshShown_ls (s : State) : s.refreshShown.ls = s.ls :=
  refreshShown_keeps (P := fun t => t.ls = s.ls) (fun _ _ _ h => (State.put_ls ..).trans h) rfl
@[simp] theorem State.refreshShown_sage (s : State) : s.refreshShown.sage = s.sage :=
  refreshShown_keeps (P := fun t => t.sage = s.sage) (fun _ _ _ h => (State.put_sage ..).trans h) rfl
@[simp] theorem State.refreshShown_ring (s : State) : s.refreshShown.ring = s.ring :=
  refreshShown_keeps (P := fun t => t.ring = s.ring) (fun _ _ _ h => (State.put_ring ..).trans h) rfl
@[simp] theorem State.refreshShown_aut (s : State) : s.refreshShown.aut = s.aut :=
  refreshShown_keeps (P := fun t => t.aut = s.aut) (fun _ _ _ h => (State.put_aut ..).trans h) rfl
@[simp] theorem State.refreshShown_saved (s : State) : s.refreshShown.saved = s.saved :=
  refreshShown_keeps (P := fun t => t.saved = s.saved) (fun _ _ _ h => (State.put_saved ..).trans h) rfl
@[simp] theorem State.refreshShown_journal (s : State) : s.refreshShown.journal = s.journal :=
  refreshShown_keeps (P := fun t => t.journal = s.journal) (fun _ _ _ h => (State.put_journal ..).trans h) rfl
@[simp] theorem State.refreshShown_ratios (s : State) : s.refreshShown.ratios = s.ratios :=
  refreshShown_keeps (P := fun t => t.ratios = s.ratios) (fun _ _ _ h => (State.put_ratios ..).trans h) rfl
@[simp] theorem State.refreshShown_pending (s : State) : s.refreshShown.pending = s.pending :=
  refreshShown_keeps (P := fun t => t.pending = s.pending) (fun _ _ _ h => (State.put_pending ..).trans h) rfl

/-- Every other word, but the FRAMESEQ of a page that shows one, stays. -/
theorem State.reg_refreshShown {b : Nat} (hb : b ∉ derivedWords) (h7 : ∀ a ∈ derivedWords, b ≠ addrOf (a / 256) 7) (s : State) :
    s.refreshShown.reg b = s.reg b := by
  unfold State.refreshShown
  revert hb h7
  generalize derivedWords = l
  intro hb h7
  induction l generalizing s with
  | nil => rfl
  | cons x l ih =>
    rw [List.foldl_cons, ih _ (fun h => hb (List.mem_cons_of_mem _ h)) (fun a h => h7 a (List.mem_cons_of_mem _ h))]
    unfold State.refreshWord
    split
    · exact State.reg_put_other (fun e => hb (List.mem_cons.mpr (Or.inl e))) (h7 x List.mem_cons_self) s _
    · rfl

/-- A word outside the results of the pages concerned. -/
theorem State.reg_refreshShown_low {b : Nat} (h : b % 256 < 0x60) (h7 : b % 256 ≠ 7) (s : State) : s.refreshShown.reg b = s.reg b := by
  have all : ∀ a ∈ derivedWords, 0x60 ≤ a % 256 := by decide
  refine State.reg_refreshShown (fun hb => ?_) (fun a _ e => ?_) s
  · have := all b hb; omega
  · rw [e, addrOf_mod (by omega)] at h7; exact h7 rfl

@[simp] theorem State.shadowReg_refreshShown (s : State) (b : Nat) : s.refreshShown.shadowReg b = s.shadowReg b := by
  unfold State.shadowReg; rw [State.refreshShown_shadow]

end Sys2Proof.Machine
end

