-- ==== Sys2Proof/Laws/Links.lean ====
section
/-! SUPPORT. A write on a link that takes it is the write to the register, but for what the links keep. Every request first brings the words that follow the moment
up to date. -/
namespace Sys2Proof.Machine
open Host

theorem linksAside_shiftOut (s : State) (l : Link) (r : Reply) : linksAside (s.shiftOut l r) s := linksAside_onLink s l _

/-- A state that differs from `s` in its links only reads every word like `s`. -/
theorem reg_of_linksAside {a s : State} (h : linksAside a s) (b : Nat) : a.reg b = s.reg b := by rw [h]; rfl
theorem get_of_linksAside {a s : State} (h : linksAside a s) (f : Fld) : a.get f = s.get f := by rw [h]; rfl
theorem on_of_linksAside {a s : State} (h : linksAside a s) (f : Fld) : a.on f = s.on f := by rw [h]; rfl

theorem frozen_of_linksAside {a s : State} (h : linksAside a s) : a.frozen = s.frozen := by rw [h]; rfl

/-- What a link keeps of its reads: the open burst, and the words it has returned. -/
def LinkSt.view (k : LinkSt) : List BurstWord × Bool × List Nat := (k.burst, k.burstStale, k.seen)

/-- The same state to the next request: sessions and views are the same. -/
def ready (a b : State) : Prop := twin a b ∧ ∀ k, (a.link k).view = (b.link k).view

theorem ready_refl (a : State) : ready a a := ⟨twin_refl a, fun _ => rfl⟩

theorem ready_trans {a b c : State} (h : ready a b) (h' : ready b c) : ready a c :=
  ⟨twin_trans h.1 h'.1, fun k => (h.2 k).trans (h'.2 k)⟩

theorem ready_onLink (s : State) (l : Link) {f : LinkSt → LinkSt} (hf : ∀ k, (f k).session = k.session)
    (hv : ∀ k, (f k).view = k.view) : ready (s.onLink l f) s :=
  ⟨twin_onLink s l hf, fun k => by cases l <;> cases k <;> first | exact hv _ | rfl⟩

/-- A request first brings the words that follow the moment up to date, and ends the burst unless it is a NOP. -/
def State.beforeRequest (s : State) (l : Link) (op : Nat) : State :=
  s.refreshShown.applyIf (op != 0) fun s => s.onLink l fun k => { k with burst := [] }

theorem beforeRequest_twin (s : State) (l : Link) (op : Nat) : twin (s.beforeRequest l op) s.refreshShown := by
  unfold State.beforeRequest State.applyIf
  split
  · exact twin_onLink _ l fun k => rfl
  · exact twin_refl _

theorem beforeRequest_frozen {s : State} (l : Link) (op : Nat) (hf : s.frozen = false) : (s.beforeRequest l op).frozen = false := by
  rw [frozen_of_linksAside (beforeRequest_twin s l op).1]
  unfold State.frozen at *
  rw [State.refreshShown_flt]
  exact hf

/-- Where no freeze is in progress, no request waits. -/
theorem perform_answers (s : State) (l : Link) (op rsv page word : Nat) (v : Word) (hf : s.frozen = false) :
    (s.perform l op rsv page word v).2.isSome = true := by
  have ha := beforeRequest_frozen l op hf
  unfold State.beforeRequest at ha
  unfold State.perform
  simp only
  split
  · rfl
  · rw [if_neg (by unfold State.mustWait; rw [ha]; simp)]
    rfl

theorem linksUp_of_run {s : State} (h : s.pwr.phase = .run) : s.linksUp = true := by unfold State.linksUp; rw [h]; rfl

theorem link_onLink_same (s : State) (l : Link) (f : LinkSt → LinkSt) : (s.onLink l f).link l = f (s.link l) := by cases l <;> rfl

theorem canLink_portOf {l : Link} (h : l ≠ .spi) : canLink (portOf l) = l := by
  cases l <;> first | exact absurd rfl h | rfl

theorem linksAside_sendReply (s : State) (l : Link) (f : CanPend) : linksAside (s.sendReply l f) s := by
  unfold State.sendReply State.sendCan
  split
  · exact linksAside_onLink ..
  · exact linksAside_refl s

theorem reply_sendReply (s : State) (l : Link) (f : CanPend) : ((s.sendReply l f).link l).reply = (s.link l).reply := by
  unfold State.sendReply State.sendCan
  split
  · cases l <;> rfl
  · rfl

theorem frames_sendReply (s : State) (l : Link) (f : CanPend) : ((s.sendReply l f).link l).frames = (s.link l).frames := by
  unfold State.sendReply State.sendCan
  split
  · cases l <;> rfl
  · rfl

/-- The steps of a port with one frame of one record. -/
theorem serveCan_one {s : State} {l : Link} {fd : Bool} {r : BitVec 64} {y : Reply} {x : State} (n : Nat)
    {rs : List (BitVec 64)} (hf : (s.link l).frames = [⟨fd, rs, [r], []⟩]) (hx : s.performBits l r = (x, some y)) :
    linksAside (State.serveCan l (n + 3) s) x ∧ ((State.serveCan l (n + 3) s).link l).reply = y ∧
      ((State.serveCan l (n + 3) s).link l).frames = [] := by
  have e : State.serveCan l (n + 3) s = State.serveCan l (n + 2) (((x.shiftOut l y).onLink l fun k => { k with reply := y }).onLink l
      fun k => { k with frames := ⟨fd, rs, [], [((((x.shiftOut l y).onLink l fun k => { k with reply := y }).link l).sent)]⟩ :: [] }) := by
    rw [State.serveCan, hf]
    simp only [hx, List.nil_append]
  rw [e]
  generalize (((x.shiftOut l y).onLink l fun k => { k with reply := y }).link l).sent = z
  rw [State.serveCan, link_onLink_same]
  simp only
  generalize hu : (State.onLink (((x.shiftOut l y).onLink l fun k => { k with reply := y }).onLink l
    fun k => { k with frames := ⟨fd, rs, [], [z]⟩ :: [] }) l fun k => { k with frames := [] }) = u
  have h1 : linksAside u x := by
    rw [← hu]
    exact linksAside_trans (linksAside_onLink _ _ _) (linksAside_trans (linksAside_onLink _ _ _)
      (linksAside_trans (linksAside_onLink _ _ _) (linksAside_shiftOut _ _ _)))
  have h2 : (u.link l).reply = y := by rw [← hu]; simp only [link_onLink_same]
  have h3 : (u.link l).frames = [] := by rw [← hu]; simp only [link_onLink_same]
  have hs : ∀ f, ((u.sendReply l f).link l).frames = [] := fun f => by rw [frames_sendReply, h3]
  exact ⟨linksAside_trans (linksAside_sendReply _ _ _) h1, (reply_sendReply ..).trans h2, hs _⟩

/-- Where nobody had the reply buffer there is nothing to give back. -/
theorem endReply_free (s : State) (l : Link) (t : State) (h : s.leaseState (replySlot l) = 0) :
    t.endReply l (s.holdsSlot (replySlot l) partyIsland2) = t := by
  unfold State.endReply State.holdsSlot
  rw [h, show ((0 : Nat) == 1) = false from rfl, Bool.and_false, Bool.false_and]
  rfl

/-- A free reply buffer is open to island 2. -/
theorem slotOpen_free {s : State} {slot : Nat} (h : s.leaseState slot = 0) : s.slotOpen slot partyIsland2 = true := by
  unfold State.slotOpen
  rw [h]
  rfl

theorem canSubmit {s : State} {l : Link} (h : l ≠ .spi) (hfz : s.frozen = false) (hup : s.canUp (portOf l) = true)
    (hfr : (s.link l).frames = []) (hls : s.leaseState (replySlot l) = 0) {op rsv page word : Nat} {v : Word} {r : BitVec 64}
    (hbits : ∀ t : State, t.leaseState (replySlot l) = 0 → t.performBits l r = t.perform l op rsv page word v) :
    ∃ a b y, ready a s ∧ a.perform l op rsv page word v = (b, some y) ∧
      linksAside (s.canFrame (portOf l) ⟨s.reqId (portOf l), s.on (F.HST_CAN0CFG_IDE.at (portOf l)), (s.link l).fd, bytesOf64 r⟩) b ∧
      ((s.canFrame (portOf l) ⟨s.reqId (portOf l), s.on (F.HST_CAN0CFG_IDE.at (portOf l)), (s.link l).fd, bytesOf64 r⟩).link l).reply = y := by
  unfold State.canFrame
  rw [canLink_portOf h]
  simp only [bytesOf64_length, hup, hfr, recordsOf_bytesOf64, List.length_nil]
  rw [if_neg (by simp; split <;> omega), if_neg (by omega)]
  generalize hb : (s.onLink l fun k => { k with fd := (s.link l).fd, frames := k.frames ++ [⟨(s.link l).fd, [r], [r], []⟩] }) = b
  have tw : ready b s := by rw [← hb]; exact ready_onLink s l (fun k => rfl) (fun k => rfl)
  have hf : (b.link l).frames = [⟨(s.link l).fd, [r], [r], []⟩] := by rw [← hb, link_onLink_same, hfr]; rfl
  have hans := perform_answers b l op rsv page word v ((frozen_of_linksAside tw.1.1).trans hfz)
  cases hx : b.perform l op rsv page word v with
  | mk x o =>
    rw [hx] at hans
    cases o with
    | none => cases hans
    | some y =>
      have hc := serveCan_one 6 hf ((hbits b ((get_of_linksAside tw.1.1 _).trans hls)).trans hx)
      refine ⟨b, x, y, tw, hx, ?_⟩
      simp only [List.isEmpty_nil, Bool.not_true, Bool.false_eq_true, if_false, State.runCan,
        endReply_free b l _ ((get_of_linksAside tw.1.1 _).trans hls)]
      rw [if_pos (by rw [hc.2.2]; rfl)]
      exact ⟨hc.1, hc.2.1⟩

/-- A request on SPI, where no reply is awaited. -/
theorem spiSubmit {s : State} (hfz : s.frozen = false) (hl : s.links.spi.waiting = none)
    (hls : s.leaseState (replySlot .spi) = 0) {op rsv page word : Nat} {v : Word} {r : BitVec 64}
    (hbits : ∀ t : State, t.leaseState (replySlot .spi) = 0 → t.performBits .spi r = t.perform .spi op rsv page word v) :
    ∃ a b y, ready a s ∧ a.perform .spi op rsv page word v = (b, some y) ∧
      linksAside (s.spiFrame r) b ∧ ((s.spiFrame r).link .spi).reply = y := by
  unfold State.spiFrame
  generalize fieldOf r 59 52 = p
  generalize fieldOf r 51 44 = w
  have hb : s.beginSpi p w = ((s.shiftOut .spi s.links.spi.reply).onLink .spi fun k => { k with echo := (p, w), formed := none }, true) := by
    unfold State.beginSpi
    rw [hl]
    rfl
  rw [hb]
  have tw : ready ((s.shiftOut .spi s.links.spi.reply).onLink .spi fun k => { k with echo := (p, w), formed := none }) s :=
    ready_trans (ready_onLink _ .spi (fun k => rfl) (fun k => rfl)) (ready_onLink s .spi (fun k => rfl) (fun k => rfl))
  generalize (s.shiftOut .spi s.links.spi.reply).onLink .spi (fun k => { k with echo := (p, w), formed := none }) = a at *
  have hans := perform_answers a .spi op rsv page word v ((frozen_of_linksAside tw.1.1).trans hfz)
  have hla : a.leaseState (replySlot .spi) = 0 := (get_of_linksAside tw.1.1 _).trans hls
  simp only [if_true, State.runSpi, hbits a hla, endReply_free a .spi _ hla]
  cases hx : a.perform .spi op rsv page word v with
  | mk x o =>
    rw [hx] at hans
    cases o with
    | none => cases hans
    | some y => exact ⟨_, x, y, tw, hx, linksAside_trans (linksAside_onLink _ _ _) (linksAside_onLink _ _ _), rfl⟩

/-- A request on a link that takes it is performed, and its reply formed. -/
theorem submit_takes {s : State} {l : Link} (h : s.takes l) {op rsv page word : Nat} (v : Word) (ho : op < 16) (hr : rsv < 16)
    (hp : page < 256) (hw : word < 256) :
    ∃ a b y, ready a s ∧ a.perform l op rsv page word v = (b, some y) ∧
      linksAside (s.submitBits l (requestBits op rsv page word v)) b ∧
      ((s.submitBits l (requestBits op rsv page word v)).link l).reply = y := by
  obtain ⟨hrun, -, hfz, hls, hl⟩ := h
  have hbits : ∀ t : State, t.leaseState (replySlot l) = 0 →
      t.performBits l (requestBits op rsv page word v) = t.perform l op rsv page word v := fun t ht =>
    performBits_requestBits t l v ho hr hp hw (slotOpen_free ht)
  unfold State.submitBits
  rw [if_pos (linksUp_of_run hrun)]
  cases l with
  | spi => exact spiSubmit hfz hl hls hbits
  | can0 => exact canSubmit (l := .can0) (by simp) hfz hl.1 hl.2 hls hbits
  | can1 => exact canSubmit (l := .can1) (by simp) hfz hl.1 hl.2 hls hbits

/-- A WRITE runs at once where no freeze is in progress, with the words that follow the moment up to date. -/
theorem perform_write (s : State) (l : Link) (page word : Nat) (v : Word) (hf : s.frozen = false) :
    ∃ a, twin a s.refreshShown ∧ (s.perform l 2 0 page word v).1 = (a.runWrite l page word v).state := by
  have ht := beforeRequest_twin s l 2
  have ha := beforeRequest_frozen l 2 hf
  refine ⟨s.beforeRequest l 2, ht, ?_⟩
  unfold State.perform
  show (if _ then _ else if (s.beforeRequest l 2).mustWait 2 page word = true then _ else _ : State × Option Reply).1 = _
  rw [if_neg (by decide), if_neg (by unfold State.mustWait; rw [ha]; simp)]
  show ((s.beforeRequest l 2).serveWrite l page word v).1 = _
  unfold State.serveWrite
  rw [if_neg (by rw [ha]; simp)]

/-- A write on a link that takes it. -/
theorem hostWrite_takes {s : State} {l : Link} (h : s.takes l) {page word : Nat} (v : Word) (hp : page < 256) (hw : word < 256) :
    ∃ a, twin a s.refreshShown ∧ linksAside (s.hostWrite l page word v) (a.runWrite l page word v).state := by
  obtain ⟨a, b, y, ht, hx, hb, -⟩ := submit_takes h (op := 2) (rsv := 0) v (by omega) (by omega) hp hw
  obtain ⟨c, hc, e⟩ := perform_write a l page word v ((frozen_of_linksAside ht.1.1).trans h.2.2.1)
  rw [hx] at e
  exact ⟨c, twin_trans hc (refreshShown_twin ht.1), by rw [← e]; exact hb⟩

/-! ### The word written -/

theorem linksAside_mapAll (s : State) (f : LinkSt → LinkSt) (b : Bool) :
    linksAside (s.applyIf b fun t => { t with links := t.links.mapAll f }) s := by cases b <;> rfl

theorem writeGate_run {a : State} {page word : Nat} (v : Word) (hr : a.pwr.phase = .run) (hc : a.coresHeld = false)
    (hf : a.fitted page = true) : a.writeGate page word v = none := by
  have hb : a.beforeRun = false := by unfold State.beforeRun; rw [hr]; rfl
  unfold State.writeGate State.servedPage State.romRefuses
  rw [hc, hb, hf, hr]
  rfl

/-- A write that is not turned away does what the word does. -/
theorem runWrite_run {a : State} (l : Link) {page word : Nat} (v : Word) (hr : a.pwr.phase = .run) (hc : a.coresHeld = false)
    (hf : a.fitted page = true) : linksAside (a.runWrite l page word v).state (a.writeFitted l page word v).state := by
  unfold State.runWrite
  rw [writeGate_run v hr hc hf]
  exact linksAside_mapAll _ _ _

/-- A write to a command word whose value needs no clamp is the command. -/
theorem writeFitted_command {a : State} (l : Link) {page word : Nat} {v v' : Word} {row : RegRow} (h8 : 8 ≤ word)
    (hcm : ¬ (page = 0x02 ∧ word = 0x08)) (hrow : regRow page word = some row) (hs : row.hasAccess .rws = false)
    (hw : (row.hasAccess .wo || row.hasAccess .rw) = true) (hk : checkWrite row.rows 0 v = (v', [])) :
    (a.writeFitted l page word v).state = (a.command l page word v').1 := by
  unfold State.writeFitted
  rw [if_neg (by omega), if_neg (by omega), if_neg (by omega), if_neg (by omega), if_neg hcm, hrow]
  simp only [hs, hw, hk, Bool.false_eq_true, if_false, if_true]
  unfold endWrite
  split
  · rfl
  · simp [State.logClamps]

/-- The variant decides which pages are fitted. -/
theorem fitted_of_variant {a s : State} (h : a.reg F.SYS_VARIANT_MDIES.addr = s.reg F.SYS_VARIANT_MDIES.addr) (p : Nat) :
    a.fitted p = s.fitted p := by
  have hd : a.dies = s.dies := by unfold State.dies State.get; rw [h]
  have hm : a.hasM = s.hasM := by
    unfold State.hasM State.on State.get
    rw [show F.SYS_VARIANT_GDIE.addr = F.SYS_VARIANT_MDIES.addr by decide, h]
  have hb : a.hasB = s.hasB := by
    unfold State.hasB State.on State.get
    rw [show F.SYS_VARIANT_BAY.addr = F.SYS_VARIANT_MDIES.addr by decide, h]
  unfold State.fitted
  rw [hd, hm, hb]

/-- What holds of `s` on the way to a command holds of the state it runs in. -/
theorem takes_of_twin {a s : State} (h : twin a s.refreshShown) : (s.pwr.phase = .run → a.pwr.phase = .run) ∧
    a.coresHeld = s.coresHeld ∧ ∀ p, a.fitted p = s.fitted p := by
  have hp := State.refreshShown_pwr s
  have hm : s.refreshShown.reg F.FLT_MODE_MODE.addr = s.reg F.FLT_MODE_MODE.addr :=
    State.reg_refreshShown (by decide) (by decide) s
  have hv : s.refreshShown.reg F.SYS_VARIANT_MDIES.addr = s.reg F.SYS_VARIANT_MDIES.addr :=
    State.reg_refreshShown (by decide) (by decide) s
  have h1 := h.1
  generalize s.refreshShown = t at *
  refine ⟨fun e => ?_, ?_, fun p => ?_⟩
  · rw [h1]; exact hp ▸ e
  · rw [h1]
    show t.coresHeld = s.coresHeld
    unfold State.coresHeld State.get
    rw [hm]
  · rw [h1]
    show t.fitted p = s.fitted p
    exact fitted_of_variant hv p

/-- A write to a command word, on a link that takes it: the command runs, in a state like `s` with the words that follow the moment
up to date. -/
theorem hostWrite_command {s : State} {l : Link} (h : s.takes l) {page word : Nat} {v v' : Word} {row : RegRow}
    (hf : s.fitted page = true) (hp : page < 256) (hw : word < 256) (h8 : 8 ≤ word) (hcm : ¬ (page = 0x02 ∧ word = 0x08))
    (hrow : regRow page word = some row) (hs : row.hasAccess .rws = false)
    (ha : (row.hasAccess .wo || row.hasAccess .rw) = true) (hk : checkWrite row.rows 0 v = (v', [])) :
    ∃ a, twin a s.refreshShown ∧ linksAside (s.hostWrite l page word v) (a.command l page word v').1 := by
  obtain ⟨a, ht, hx⟩ := hostWrite_takes h v hp hw
  obtain ⟨h1, h2, h3⟩ := takes_of_twin ht
  refine ⟨a, ht, linksAside_trans hx ?_⟩
  rw [← writeFitted_command l h8 hcm hrow hs ha hk]
  exact runWrite_run l v (h1 h.1) (h2.trans h.2.1) ((h3 page).trans hf)

end Sys2Proof.Machine
end

