-- ==== Sys2Proof/Machine/Flags.lean ====
section
/-! DEFINITION. The conditions that the host sees as flags: attention, the levels of the attention, fault and propulsion pins. -/
namespace Sys2Proof.Machine

/-- The level of FLT_N, true = asserted low (R172). -/
def State.fltPin (s : State) : Bool := s.pins.fltN

/-- The pages CFG_PEND shows, as one number: bit p = page p pending (R80). -/
def State.pendBits (s : State) : Nat := s.commit.pend.foldl (fun acc p => acc + 2 ^ p) 0

/-- IFLAG AND IMASK of a page (R73). -/
def State.unmasked (s : State) (page : Nat) : Word := s.reg (addrOf page 3) &&& s.reg (addrOf page 4)

end Sys2Proof.Machine
end

