-- ==== Sys2Proof/Tests/Slice0.lean ====
section
/-! SUPPORT. Tests: ill-formed commands are refused, for every statement with hypotheses a state and operands that meet them, and
single steps with values from the manual's examples. -/
set_option Elab.async false
set_option linter.unusedVariables false
namespace Sys2Proof.Tests
open Sys2Proof.Machine Sys2Proof.Claims Host

/-! ### States -/

/-- RUN mode right after reset: the state in which most witnesses stand. -/
def run : State := { State.reset with pwr := { phase := .run } }

/-- Fields written one after another. -/
def sets (s : State) (l : List (Fld × Nat)) : State := l.foldl (fun s e => s.set e.1 e.2) s

/-- Registers written one after another. -/
def regs (s : State) (l : List (Nat × Word)) : State := l.foldl (fun s e => s.setReg e.1 e.2) s

/-- Start-up with these dies still settling. -/
def settling (l : List Nat) : State := { State.reset with pwr := { phase := .startup, settling := l } }

/-- RUN mode with both unlocks in force on the SPI link. -/
def unlocked : State := run.onLink .spi fun k => { k with cfgUntil := some 5, safUntil := some 5 }

/-- Healthy, powered dies that publish. -/
def dies : State := sets run [(F.PWR_MDPWR_MD_ON, 255), (F.SYS_DIEMAP_MD, 255)]

/-- Results a die holds for the next boundary: 64 cells at 3 V. -/
def heldDie : HeldDie := ⟨List.replicate 64 3000000, List.replicate 64 3000000, [], [], [], false, false, List.range 64, 0⟩

/-- A tap test of tap 2 with its three windows measured. -/
def tapTest : TapTest :=
  { tap := 2, prio := 1, incon := 0, start := 0, w := 1, cells := [(0, 1, 1), (0, 2, -1)],
    base := some (List.replicate 64 3000000), up := some (List.replicate 64 3005000), down := some (List.replicate 64 2995000) }

/-- Switches of a die that are closed. -/
def closed (k : Nat) (l : List Nat) : State := dies.onBal k fun b => { b with closed := l }

/-- A charge table that rises with the state of charge. -/
def table : List Int :=
  (List.range 4).map (fun (i : Nat) => (i : Int) * 100) ++ (List.range 256).map fun (i : Nat) => ((20000 + i % 64 * 300 : Nat) : Int)

/-- A Sage step's input with one cell voltage on each of two dies. -/
def sageInput (seq : Nat) : SageInput :=
  { seq := seq, time := 1000, words := [[3000000], [3000000]], temps := [[2500], [2500]], iBal := [], bal := [], onTime := [],
    healthy := 255, m0 := true, curI := 1000, qacc := 0, suspect := false, cd1Open := false, steady := true, limits := none,
    suspectAt := none, gapAt := none }

/-- A Sage copy. -/
def copy : SageCopy := { seq := 1, cells := [], ahDis := 0, ahChg := 0, efc := 0, timer := 0 }

/-- STATE of the contactors with coil drives and auxiliary contacts. -/
def contacts (state coil aux : Nat) : State :=
  sets run [(F.PRT_STAT_STATE, state), (F.PRT_STAT_COIL, coil), (F.PRT_STAT_AUX, aux)]

/-- The ring is on. -/
def ring : State := sets (run.setReg (addrOf 0x12 2) 1) [(F.KRG_STAT_DUPADDR, 0)]

/-- A status message of a member of the ring. -/
def status (addr serial : Nat) : RingMsg := { addr := addr, serial := serial }

/-- The base point of P-256, a point on the curve. -/
def basePoint : List Word :=
  [0x6B17D1F2, 0xE12C4247, 0xF8BCE6E5, 0x63A440F2, 0x77037D81, 0x2DEB33A0, 0xF4A13945, 0xD898C296,
   0x4FE342E2, 0xFE1A7F9B, 0x8EE7EB4A, 0x7C0F9E16, 0x2BCE3357, 0x6B315ECE, 0xCBB64068, 0x37BF51F5]

/-- A slot in use, in the round of authentication. -/
def slot (j trigger : Nat) : State :=
  { sets dies [(F.AUT_MAP_EN.at j, 1), (F.AUT_MAP_LAST.at j, 5), (F.AUT_MAP_FIRST.at j, 2)] with
    aut := { round := [⟨j, trigger⟩], anchor := basePoint } }

/-- A core frozen at a time. -/
def frozen (e : Nat) (survivor : Option Nat) : State :=
  { run with flt := { freezeAt := some e, survivor := survivor } }

/-- A self-test slice under way in degraded mode. -/
def slicing (e : Nat) : State := { run.set F.FLT_MODE_MODE 1 with flt := { degradedFrom := some 5, sliceAt := some e } }

/-- Degraded mode, with a self-test slice due. -/
def degraded : State :=
  { run.set F.FLT_MODE_MODE 1 with thy := { boundary := 200000 }, flt := { degradedFrom := some 5 } }

/-- A lease slot held by a party. -/
def leased (j party : Nat) : State := sets run [(F.FLT_LEASE_STATE.at j, 1), (F.FLT_LEASE_HOLDER.at j, party)]

/-- An event of page 0x10. -/
def event (low : EventLow) (cls : Nat) : Event :=
  { page := 0x10, low := low, cls := cls, source := 0, time := 7, frame := 1, words := [1, 2] }

/-- An inbox of Rosemary. -/
def inbox (l : List Event) : State := { run with rsm := { inbox := l } }

/-- A record of the ledger in the making. -/
def cycleDone : CycleEnd :=
  { axis := 5, outcome := 0, start := 1, finish := 2, startPos := 0, target := 100, endPos := 100, peakCurrent := 5, peakError := 1,
    vmHigh := 40000, vmLow := 39000, cause := 0, startFrame := 1, endFrame := 2 }

/-- Bay sealed or not, with this many log entries used. -/
def bay (sealedBit used : Nat) : State := sets run [(F.BAY_STAT_SEALED, sealedBit), (F.BAY_LOGSTAT_USED, used)]

/-- A whole interval of Bay's sample pairs. -/
def interval : State := { run with bay := { pairs := 3200, sumP := 4000000000, sumV := 1234, sumI := -777, sumAbs := 1 } }

/-- An axis homed, driven and enabled. -/
def ready (a : Nat) : State :=
  sets (run.setReg (addrOf (0x41 + a) 2) 1)
    [(F.PWR_STAT_VM_OK, 1), (F.GD_STAT_STATE.on a, 2), (F.AX_STAT_HOMED.on a, 1)]

/-- A cycle of a kind: 1 a move, 2 homing, 3 a stretch of a group. -/
def cyc (kind : Nat) : Cycle :=
  { kind := kind, target := 100, origin := 0, plan := [], startTime := 4, startPos := 5, startFrame := 0, vmHigh := 4, vmLow := 4 }

/-- An axis in a cycle. -/
def moving (a : Nat) (c : Cycle) : State := (ready a).onAxis a fun x => { x with cycle := some c, stallN := 70, obstN := 70 }

/-- An axis in a cycle, with set-points computed. -/
def queued (a : Nat) (c : Cycle) (l : List Setpoint) : State := (moving a c).onAxis a fun x => { x with queue := l }

/-- An axis with a start waiting. -/
def starting (a kind e : Nat) : State := (ready a).onAxis a fun x => { x with pending := some ⟨kind, e, 5⟩ }

/-- Axes 0, 2 and 5 in group 1, ready to start together. -/
def grouped : State :=
  sets (regs run [(addrOf 0x40 2, 1), (addrOf 0x41 2, 1), (addrOf 0x43 2, 1), (addrOf 0x46 2, 1)])
    [(F.MOT_GROUP_GRP, 1 + 16 + 1024), (F.PWR_STAT_VM_OK, 1), (F.GD_STAT_STATE.on 0, 2), (F.GD_STAT_STATE.on 2, 2),
     (F.GD_STAT_STATE.on 5, 2), (F.AX_STAT_HOMED.on 0, 1), (F.AX_STAT_HOMED.on 2, 1), (F.AX_STAT_HOMED.on 5, 1)]

/-- The gate drive of an axis enabled, in a state. -/
def gate (a state : Nat) : State :=
  sets (run.setReg (addrOf (0x49 + a) 2) 1)
    [(F.PWR_STAT_VM_OK, 1), (F.GDR_STAT_VGG_OK, 1), (F.GDR_STAT_LINKLOST, 0), (F.GD_STAT_STATE.on a, state)]

/-- Load-switch blocks enabled, one channel in a state. -/
def load (n state : Nat) : State :=
  (regs run [(addrOf 0x50 2, 1), (addrOf 0x51 2, 1), (addrOf 0x52 2, 1)]).onLs fun x =>
    { x with chans := x.chans.modify n fun c => { c with state := state } }

/-- Guard 0 stops motion and propulsion. -/
def guarded : State := sets run [(F.SAF_GRD_G0, 3), (F.SAF_STAT_GRDCL, 3), (F.SAF_STAT_GRDDONE, 1)]

/-- A brake test asked for on brake `b` of axis 2, all at rest. -/
def braked (b : Nat) : State :=
  (sets run [(F.AX_CFG_BRK.on 2, 1 + b), (F.GD_STAT_STATE.on 2, 2)]).onSaf fun x => { x with requested := [b] }

/-- Dies that thermal management has latched. -/
def latchedAll : State := run.set F.TMP_LATCH_LATCHED 0x3FF

/-! ### Ill-formed commands are refused -/

/-- Every command of the list fails its check. -/
def refused (l : List Instr) : Bool := l.all fun i => !i.wf

theorem test_wf_power_and_links : refused [
    .startQualified { addr := 16 }, .mdieSettled 8, .mdieSettleTimeout 8, .layupWake 2, .addrChange 16,
    .unknownOp .spi 5 0 ⟨0, 0, 0⟩, .canRequestFrame false ⟨0x640, false, false, List.replicate 9 0⟩,
    .canRequestFrame false ⟨0x640, false, true, List.replicate 65 0⟩] = true := by decide
theorem test_wf_stack : refused [
    .segmentDown 9, .segmentRetrain 9 (some []), .dieUnreachable 8, .dieRejoin 8, .dieSleep 8, .dieWake 8] = true := by decide
theorem test_wf_diagnostics : refused [
    .owRequest .spi 8 0, .owRequest .spi 0 65, .tapTestStart 8, .tapWindowEnd 8, .tapTestDecide 8, .absoluteTrip 8 0 0,
    .absoluteTrip 0 64 0, .faultChannelLost 8 true, .tripCode 8 0, .carrierReturn 8] = true := by decide
theorem test_wf_balancing : refused [
    .balanceOnTimeEnd 8 0, .balanceOnTimeEnd 0 64, .switchStuck 8 0, .switchStuck 0 64, .switchOvercurrent 8 0,
    .switchOvercurrent 0 64, .balanceOpenLoop 8 0, .balanceOpenLoop 0 64, .blSwclr .spi 8 0, .blSwclr .spi 0 65,
    .learnStart .spi 8, .learnAbort .spi 8] = true := by decide
theorem test_wf_contactors : refused [
    .pullInEnd 4, .auxChange 4 true, .coilOvercurrent 4, .coilCurrentFault 4, .auxCloseTimeout 4, .auxOpenTimeout 4,
    .degradedCellExpiry 8 0, .degradedCellExpiry 0 64, .cellTempExpiry 8 0, .cellTempExpiry 0 64] = true := by decide
theorem test_wf_ring : refused [
    .ringStatusMsg { addr := 16, serial := 0 }, .memberLost 16, .mirrorReceived 16 0 0 {} true,
    .mirrorReceived 0 0 4294967296 {} true, .slotAuthDone 64 {}] = true := by decide
theorem test_wf_redundancy : refused [
    .coreResume 149, .coreResume 181, .leaseAcquire 16 0, .leaseAcquire 0 16, .leaseRelease 16 0,
    .leaseRelease 0 16, .leaseExpiry 16] = true := by decide
theorem test_wf_bay : refused [
    .bayBreak [], .baySet 0 [], .baySeal [], .bayImgOpen [], .bayImgData [], .bayImgEnd [] true 0, .bayMailboxReject []] = true := by
  decide
theorem test_wf_motion : refused [
    .move .spi 6, .home .spi 6, .axisStop .spi 6, .axisClear .spi 6, .groupStart .spi 4, .groupStop .spi 4, .cycleStart 6,
    .cycleEnd 6, .homePoint 6, .homingTimeout 6, .stall 6, .obstacle 6, .edgeChange 2 0, .edgeGapTimeout 2,
    .limitSwitch 6, .setpointQueueEmpty 6, .standstillDelay 6] = true := by decide
theorem test_wf_gate : refused [
    .gdieFrame 6 1 true, .gdieFrame 0 0 true, .gdieFrame 0 4 true, .sctest .spi 6, .sctestDone 6 0, .sctestDone 0 256,
    .recover .spi 6, .gatePulse .spi 6 0, .gatePulseEnd 6 0 0 {}, .gatePulseEnd 0 0 0 { before := 256 }, .gatePulseEnd 0 0 0 { charged := 256 },
    .gdLiveRead .spi 6,
    .qualification 6, .qualificationDone 6 0 [], .qualificationDone 0 256 [], .pwmPeriod 6 [], .shortCircuitTrip 6 0,
    .shortCircuitTrip 0 8, .handshakeTimeout 6, .supplyRelease (some 24), .bootstrapUndervoltage 6 0, .bootstrapUndervoltage 0 4,
    .refreshEpisode 6 0 0, .refreshEpisode 0 4 0] = true := by decide
theorem test_wf_loads : refused [
    .inrushEnd 16, .limitTime ⟨16, 0⟩, .openLoadChange 16 true, .zoneHot 8 0 0, .zoneSecondCheck 8 true, .zoneCool 8,
    .zoneSensorFault 8, .lsRestart 16, .leftReload 16] = true := by decide
theorem test_wf_safety : refused [
    .guardChange 8 true, .safestopTimeout 6, .brakeCurrentFault 2, .brakeSwitchPulse 2 0 true, .brakeSwitchPulse 0 2 true,
    .brakeTestStart 2, .brakeTestDone 2 0 0, .propEnPulse 2 true, .safetyPduReceived true (List.replicate 65 0),
    .brakeEngagedReadback 2] = true := by decide
theorem test_wf_thermal : refused [.thermalEval 10 0 false, .thermalPowerDown 9, .diePowerCycle 9] = true := by decide

/-! ### Values of the manual's examples -/

/-- What a command leaves of a state, as a property of its next state. -/
def leaves (i : Instr) (s : State) (p : State → Bool) : Bool :=
  match exec i s with
  | .next t => p t
  | .fault _ => false
  | .refused _ => false

/-- A GM5-4B: four M-dies, no G-die, Bay (scope chapter, identifying a GM5-4B). -/
def gm54b : State := run.setReg F.SYS_VARIANT_MDIES.addr 0x24

/-- The settings of the tap resistances in the balancing chapter's example. -/
def learned : State :=
  sets run [((F.BL_RTAP_EVEN.on 3).at 4, 620), ((F.BL_RTAP_ODD.on 3).at 4, 480), ((F.BL_RTAP_EVEN.on 3).at 5, 550)]

/-- R69: PID of page 0x23 at hardware level H1. -/
theorem test_pid : State.reset.pid 0x23 = 0x53200301 := by decide +kernel
/-- R6: pages of units a GM5-4B does not have. -/
theorem test_pid_absent : gm54b.pid 0x24 = 0xFFFF0000 ∧ gm54b.pid 0x41 = 0xFFFF0000 := by decide +kernel
/-- R6: a write to an axis of a GM5-4B is refused. -/
theorem test_write_absent : leaves (.write .spi ⟨0x41, 8, 5⟩) gm54b (fun t => bit (t.link .spi).reply.status 3) = true := by
  decide +kernel
/-- R97: the STATUS word of the host chapter's example. -/
theorem test_status : leaves (.status .spi ⟨0, 0, 0⟩) (sets run [(F.THY_FSEQ_SEQ, 0x0FA9), (F.PWR_BOOT_STEP, 5)])
    (fun t => (t.link .spi).reply.data == 0x0FA950FF) = true := by decide +kernel
/-- R142: the cell words of the measurement chapter's example. -/
theorem test_cell_word : cellWordOf 0x9D17 true false false false 3410435 = 0x78340A03 ∧
    cellWordOf 0x9D17 true false false true (-1200) = 0x79FFFB50 := by decide +kernel
/-- R186, R187: two neighbours balancing together. -/
theorem test_tap_currents :
    tapCurrent (List.replicate 8 0 ++ [268000, 262000]) 8 = -268000 ∧ tapCurrent (List.replicate 8 0 ++ [268000, 262000]) 9 = 6000 ∧
    tapCurrent (List.replicate 8 0 ++ [268000, 262000]) 10 = 262000 := by decide +kernel
theorem test_balance_correction :
    learned.correctionUnder 3 (learned.tapWords 3) (List.replicate 8 0 ++ [268000, 262000]) 8 = 169040000 ∧
    learned.correctionUnder 3 (learned.tapWords 3) (List.replicate 8 0 ++ [268000, 262000]) 9 = 141220000 ∧
    learned.correctionUnder 3 (learned.tapWords 3) (List.replicate 8 0 ++ [268000]) 9 = -128640000 := by decide +kernel
/-- R127, R129: segment 3 of a GM5-8 breaks. -/
theorem test_segment_down : leaves (.segmentDown 3) (sets run [(F.STK_SEGST_UP, 511), (F.STK_CFG_SPLIT, 0xF)])
    (fun t => t.get F.STK_SEGST_UP == 0x1F7 && t.reg F.STK_ROUTE_ASLEEP.addr == 0x0100FFF8) = true := by decide +kernel
/-- R338: the carriage X move of 25,600 units lasts 1,050 ms, and its acceleration covers 4,000 units in 250 ms. -/
theorem test_profile_time : planTime (planMove 0 0 25600 ⟨32000, 160000, 160000, 3200000⟩) = 21 / 20 := by decide +kernel
theorem test_profile_place :
    (runPlan (planMove 0 0 25600 ⟨32000, 160000, 160000, 3200000⟩) ⟨0, 0, 0⟩ (1 / 4)).x = 4000 := by decide +kernel
/-- R328, R329: the first message of commissioning string 4. -/
theorem test_bay_set : leaves (.baySet 0 [0, 0, 5012, 0, 0, 0, BitVec.ofNat 32 (msgCrc [0x02000000, 0, 0, 5012, 0, 0, 0])]) run
    (fun t => t.get F.BAY_MCOUNT_COUNT == 1) = true := by decide +kernel
/-- R405: throttled at 115.00 °C, and not below. -/
theorem test_throttle : leaves (.thermalEval 9 11500 false) run (fun t => t.throttled 9) = true ∧
    leaves (.thermalEval 9 11499 false) run (fun t => !t.throttled 9) = true := by decide +kernel
/-- R88: the fifth wrong password starts a lockout. -/
theorem test_lockout : leaves (.cfgUnlock .spi 1) { run with pw := { tries := 4 } } (fun t => t.lockedOut false) = true ∧
    leaves (.cfgUnlock .spi 1) { run with pw := { tries := 3 } } (fun t => !t.lockedOut false) = true := by decide +kernel
/-- R277: the base point lies on the curve; with another Y it does not. -/
theorem test_on_curve : onCurve basePoint = true ∧ onCurve (basePoint.set 15 0) = false := by decide +kernel
/-- The hash of the three bytes `abc` as its standard gives it (FIPS 180-4). -/
theorem test_sha256 : sha256 [0x61, 0x62, 0x63] = [0xBA7816BF, 0x8F01CFEA, 0x414140DE, 0x5DAE2223, 0xB00361A3, 0x96177A9C,
    0xB410FF61, 0xF20015AD] := by decide +kernel
/-- A public key and its signature of the bytes `sample` (RFC 6979, P-256 with SHA-256). -/
def sampleKey : List Word :=
  [0x60FED4BA, 0x255A9D31, 0xC961EB74, 0xC6356D68, 0xC049B892, 0x3B61FA6C, 0xE669622E, 0x60F29FB6,
   0x7903FE10, 0x08B8BC99, 0xA41AE9E9, 0x5628BC64, 0xF2F1B20C, 0x2D7E9F51, 0x77A3C294, 0xD4462299]
def sampleSignature : Signature :=
  ⟨0xEFD48B2AACB6A8FD1140DD9CD45E81D69D2C877B56AAF991C34D0EA84EAF3716,
   0xF7CB1C942D657C41D436C7A1B6E29F65F3E900DBB9AFF4064DC4AB2F843ACDA8⟩
theorem test_signature :
    verifies sampleKey (sha256 [0x73, 0x61, 0x6D, 0x70, 0x6C, 0x65]) sampleSignature = true ∧
    verifies sampleKey (sha256 [0x73, 0x61, 0x6D, 0x70, 0x6C, 0x66]) sampleSignature = false := by decide +kernel
/-- A step takes the front of the queue, and an idle step lets 1 µs pass. -/
theorem test_step_front : (match step { run with pending := [.supplyLow, .pwrFail] } with
    | .next t => t.pending == [.pwrFail] && t.on F.PWR_STAT_LOW
    | .fault _ => false
    | .refused _ => false) = true := by decide +kernel

/-! ### What meets the hypotheses of the statements -/

theorem test_meets_EmptyQueueAndWords : ∃ s : State, s.pending = [] := ⟨run, by decide +kernel⟩
theorem test_meets_StepKeepsWellFormed : ∃ s : State, wellFormed s := ⟨unlocked, by unfold wellFormed; decide +kernel⟩
theorem test_meets_EveryCommandCompletes : ∃ i : Instr, ∀ x, i ≠ .startQualified x := ⟨.supplyLow, nofun⟩
theorem test_meets_CommandFrames :
    (∃ i f s t, frameOf i = some f ∧ (∀ l, commandLink i = some l → s.takes l) ∧ exec i s = .next t) ∧
    (∃ i f s t, frameOf i = some f ∧ commandLink i = some .spi ∧ s.takes .spi ∧ exec i s = .next t) :=
  ⟨⟨.flushPeriodic, _, run, _, rfl, nofun, rfl⟩, ⟨.timeLoRead .spi, _, run, _, rfl, rfl, by decide +kernel, rfl⟩⟩
theorem test_meets_InstanceFrames :
    ∃ i p k s t a, instanceOf i = some (p, k) ∧ (∀ l, commandLink i = some l → s.takes l) ∧ exec i s = .next t ∧
      blockOf (a / 256) = p ∧ a / 256 ≠ p + k ∧ (p = 0x51 → a % 256 ≠ 1) :=
  ⟨.move .spi 5, 0x41, 5, run, _, 0x4160, rfl, fun _ h => by cases h; decide +kernel, rfl, by decide, by decide, by decide⟩

theorem test_meets_StartUp :
    (∃ (x : StartUp) (s : State), s.pwr.phase = .off ∧ x.addr < 16) ∧
    (∃ (k j : Nat) (s : State), s.pwr.phase = .startup ∧ k < 8 ∧ s.dieSt.length = 8 ∧ k ∈ s.pwr.settling ∧ j ∈ s.pwr.settling ∧
      j ≠ k) ∧
    (∃ (k : Nat) (s : State), s.pwr.phase = .startup ∧ k < 8 ∧ s.pwr.settling = [k] ∧ s.coresHeld = false) ∧
    (∃ (x : FrameSample) (s : State), s.pwr.phase = .startup ∧ s.get F.PWR_BOOT_STEP = 3 ∧ s.coresHeld = false ∧ s.frozen =
      false) ∧
    (∃ (k : Nat) (s : State), s.pwr.phase = .run ∧ k < 8 ∧ s.dieSt.length = 8 ∧ k ∈ s.pwr.settling) ∧
    (∃ (k j : Nat) (s : State), s.pwr.phase = .startup ∧ k < 8 ∧ k ∈ s.pwr.settling ∧ j ∈ s.pwr.settling ∧ j ≠ k) ∧
    (∃ (s : State), s.alive = true) ∧
    (∃ (s : State), s.alive = true ∧ s.on F.PWR_STAT_HUP_OK = false ∧ s.on F.PWR_STAT_HUP_FAIL = false) ∧
    (∃ (x : FrameSample) (s : State), s.pwr.phase = .startup ∧ s.get F.PWR_BOOT_STEP = 4 ∧ s.frozen = false ∧ s.coresHeld =
      false) ∧
    (∃ (addr : Nat) (s : State), s.alive = true ∧ addr < 16 ∧ addr ≠ s.pins.addr) :=
  ⟨⟨{}, State.reset, by decide +kernel⟩,
   ⟨7, 0, settling [7, 0], by decide +kernel⟩,
   ⟨7, settling [7], by decide +kernel⟩,
   ⟨{}, (settling []).set F.PWR_BOOT_STEP 3, by decide +kernel⟩,
   ⟨7, { run with pwr := { phase := .run, settling := [7] } }, by decide +kernel⟩,
   ⟨0, 7, settling [7, 0], by decide +kernel⟩,
   ⟨run, by decide +kernel⟩,
   ⟨run, by decide +kernel⟩,
   ⟨{}, (settling []).set F.PWR_BOOT_STEP 4, by decide +kernel⟩,
   ⟨15, run, by decide +kernel⟩⟩

theorem test_meets_SupplyEvents :
    (∃ (s : State), s.cdieRuns = true ∧ s.on F.PWR_STAT_LOW = false) ∧
    (∃ (s : State), s.cdieRuns = true) ∧
    (∃ (s : State), s.cdieRuns = true ∧ s.on F.PWR_STAT_WARN = false) ∧
    (∃ (s : State), s.cdieRuns = true ∧ s.on F.PWR_STAT_WARN = true) ∧
    (∃ (s : State), s.alive = true) ∧
    (∃ (s : State), s.pwr.phase = .holdup) ∧
    (∃ (ok : Bool) (s : State), s.cdieRuns = true ∧ s.hasM = true ∧ s.on F.PWR_STAT_VM_OK ≠ ok) :=
  ⟨⟨run, by decide +kernel⟩,
   ⟨run, by decide +kernel⟩,
   ⟨run, by decide +kernel⟩,
   ⟨sets run [(F.PWR_STAT_WARN, 1)], by decide +kernel⟩,
   ⟨run, by decide +kernel⟩,
   ⟨{ State.reset with pwr := { phase := .holdup } }, by decide +kernel⟩,
   ⟨true, run, by decide +kernel⟩⟩

theorem test_meets_HostResetAndLaidUp :
    (∃ (l : Link) (s : State), s.takes l ∧ s.anyCdClosed = false ∧ s.anyMoving = false) ∧
    (∃ (l : Link) (key : Word) (s : State), s.takes l ∧ (key ≠ 0xC0DE ∨ s.anyCdClosed = true ∨ s.anyMoving = true)) ∧
    (∃ (l : Link) (key : Word) (s : State), s.takes l ∧ (key ≠ 0xC0DE ∨ s.anyCdClosed = true ∨ s.anyMoving = true)) ∧
    (∃ (l : Link) (s : State), s.takes l ∧ s.anyCdClosed = false ∧ s.anyMoving = false ∧ s.pins.shoreDet = false ∧ s.on
      F.PWR_STAT_WARN = false) ∧
    (∃ (l : Link) (key : Word) (wakeN : Bool) (s : State), s.takes l ∧ (key ≠ 0x1A1D ∨ wakeN = true ∨ s.anyCdClosed = true ∨
      s.anyMoving = true ∨ s.pins.shoreDet = true ∨ s.on F.PWR_STAT_WARN = true)) ∧
    (∃ (l : Link) (key : Word) (wakeN : Bool) (s : State), s.takes l ∧ (key ≠ 0x1A1D ∨ wakeN = true ∨ s.anyCdClosed = true ∨
      s.anyMoving = true ∨ s.pins.shoreDet = true ∨ s.on F.PWR_STAT_WARN = true)) ∧
    (∃ (source : Nat) (s : State), s.pwr.phase = .laidUp ∧ source < 2 ∧ (if source = 0 then s.on F.PWR_LAYCFG_SHORE_EN else s.on
      F.PWR_LAYCFG_WAKEN_EN) = true) ∧
    (∃ (source : Nat) (s : State), s.pwr.phase = .laidUp ∧ source < 2 ∧ (if source = 0 then s.on F.PWR_LAYCFG_SHORE_EN else s.on
      F.PWR_LAYCFG_WAKEN_EN) = true) ∧
    (∃ (s : State), s.pwr.phase = .laidUp) :=
  ⟨⟨.spi, run, by decide +kernel⟩,
   ⟨.spi, 0xC0DF, run, by decide +kernel⟩,
   ⟨.spi, 0xC0DE, sets run [(F.PRT_STAT_AUX, 1)], by decide +kernel⟩,
   ⟨.spi, run, by decide +kernel⟩,
   ⟨.spi, 0x1A1E, false, run, by decide +kernel⟩,
   ⟨.spi, 0x1A1D, true, run, by decide +kernel⟩,
   ⟨0, { State.reset with pwr := { phase := .laidUp } }, by decide +kernel⟩,
   ⟨1, { State.reset with pwr := { phase := .laidUp } }, by decide +kernel⟩,
   ⟨{ State.reset with pwr := { phase := .laidUp } }, by decide +kernel⟩⟩

theorem test_meets_LinkRequests :
    (∃ (l : Link) (r : Req) (s : State), s.takes l) ∧
    (∃ (l : Link) (r : Req) (s : State), s.takes l ∧ s.fitted r.page.toNat = false) ∧
    (∃ (l : Link) (r : Req) (s : State), s.takes l) ∧
    (∃ (l : Link) (r : Req) (s : State), s.takes l) ∧
    (∃ (l : Link) (r : Req) (s : State), s.takes l ∧ r.page ≠ 3 ∧ r.page ≠ 0x0C ∧ ¬ (0x49 ≤ r.page.toNat ∧ r.page.toNat ≤ 0x4E)
      ∧ (∀ w ∈ List.range' r.word.toNat (min (r.data.toNat % 256 + 1) (256 - r.word.toNat)), w ≠ 6 ∧ wordHas r.page.toNat w .rc
      = false)) ∧
    (∃ (l : Link) (r : Req) (s : State), s.takes l ∧ r.page ≠ 3 ∧ r.page ≠ 0x0C ∧ ¬ (0x49 ≤ r.page.toNat ∧ r.page.toNat ≤ 0x4E)
      ∧ (∀ w ∈ List.range' r.word.toNat (min (r.data.toNat % 256 + 1) (256 - r.word.toNat)), w ≠ 6 ∧ wordHas r.page.toNat w .rc
      = false)) ∧
    (∃ (l : Link) (r : Req) (s : State), s.takes l) ∧
    (∃ (l : Link) (op rsv : BitVec 4) (r : Req) (s : State), s.takes l) ∧
    (∃ (l : Link) (op rsv : BitVec 4) (r : Req) (s : State), s.takes l) ∧
    (∃ (page word : Byte) (a : Nat) (s : State), s.linksUp = true ∧ s.links.spi.waiting = none ∧ s.leaseState (replySlot .spi) =
      0) ∧
    (∃ (s : State), s.linksUp = true) :=
  ⟨⟨.spi, ⟨0x28, 0x0B, 0⟩, run, by decide +kernel⟩,
   ⟨.spi, ⟨0x27, 3, 0⟩, sets run [(F.SYS_VARIANT_MDIES, 2)], by decide +kernel⟩,
   ⟨.spi, ⟨0, 0, 0⟩, run, by decide +kernel⟩,
   ⟨.spi, ⟨0x48, 8, 12⟩, run, by decide +kernel⟩,
   ⟨.spi, ⟨0x48, 8, 12⟩, run, by decide +kernel⟩,
   ⟨.spi, ⟨0x2F, 255, 255⟩, run, by decide +kernel⟩,
   ⟨.spi, ⟨0, 0, 0⟩, run, by decide +kernel⟩,
   ⟨.spi, 6, 0, ⟨0, 0, 0⟩, run, by decide +kernel⟩,
   ⟨.spi, 0, 1, ⟨0, 0, 0⟩, run, by decide +kernel⟩,
   ⟨0, 6, 0, run, by decide +kernel⟩,
   ⟨run, by decide +kernel⟩⟩

theorem test_meets_CanPorts :
    (∃ (port : Bool) (f : CanFrame) (s : State), s.takes (canLink (ofBool port)) ∧ f.id = s.reqId (ofBool port) ∧ f.ide = s.on
      (F.HST_CAN0CFG_IDE.at (ofBool port)) ∧ f.bytes.length ≤ (if f.fd then 64 else 8) ∧ f.bytes.length % 8 = 0 ∧ f.bytes ≠ []) ∧
    (∃ (port : Bool) (f : CanFrame) (s : State), s.linksUp = true ∧ s.canUp (ofBool port) = true ∧ f.id = s.reqId (ofBool port)
      ∧ f.ide = s.on (F.HST_CAN0CFG_IDE.at (ofBool port)) ∧ f.bytes.length ≤ (if f.fd then 64 else 8) ∧ f.bytes.length % 8 ≠ 0) ∧
    (∃ (port : Bool) (tec recv : Nat) (s : State), s.linksUp = true ∧ s.canUp (ofBool port) = true) ∧
    (∃ (port : Bool) (tec recv : Nat) (s : State), s.linksUp = true ∧ s.get (F.HST_CAN0ST_STATE.at (ofBool port)) = 1) ∧
    (∃ (port : Bool) (s : State), s.linksUp = true ∧ s.canUp (ofBool port) = true) ∧
    (∃ (port : Bool) (s : State), s.linksUp = true ∧ s.get (F.HST_CAN0ST_STATE.at (ofBool port)) = 2) ∧
    (∃ (port : Bool) (s : State), s.linksUp = true ∧ s.attnMessages (ofBool port) = true ∧ s.attention = true ∧ (s.link (canLink
      (ofBool port))).attnTold = false ∧ (s.link (canLink (ofBool port))).attnWindow = none) ∧
    (∃ (port : Bool) (e : Nat) (s : State), (s.link (canLink (ofBool port))).attnWindow = some e) :=
  ⟨⟨true, ⟨run.reqId 1, false, false, [0, 0, 0, 0, 0, 0, 0, 0]⟩, sets run [(F.HST_CAN0CFG_EN.at 1, 1), (F.HST_CAN0ST_STATE.at 1, 0)], by show State.takes _ .can1 ∧ _; decide +kernel⟩,
   ⟨true, ⟨run.reqId 1, false, false, [0, 0, 0]⟩, sets run [(F.HST_CAN0CFG_EN.at 1, 1), (F.HST_CAN0ST_STATE.at 1, 0)], by
     decide +kernel⟩,
   ⟨true, 128, 0, sets run [(F.HST_CAN0CFG_EN.at 1, 1), (F.HST_CAN0ST_STATE.at 1, 0)], by decide +kernel⟩,
   ⟨true, 127, 0, sets run [(F.HST_CAN0CFG_EN.at 1, 1), (F.HST_CAN0ST_STATE.at 1, 1)], by decide +kernel⟩,
   ⟨true, sets run [(F.HST_CAN0CFG_EN.at 1, 1), (F.HST_CAN0ST_STATE.at 1, 0)], by decide +kernel⟩,
   ⟨true, sets run [(F.HST_CAN0CFG_EN.at 1, 1), (F.HST_CAN0ST_STATE.at 1, 2)], by decide +kernel⟩,
   ⟨true, sets (regs run [(F.HST_CTL_ATTN_PIN.addr, 7), (0x0604, 0xFF), (0x0603, 1)])
     [(F.HST_CAN0CFG_EN.at 1, 1), (F.HST_CAN0ST_STATE.at 1, 0)], by decide +kernel⟩,
   ⟨true, 5, run.onLink .can1 fun k => { k with attnWindow := some 5 }, by decide +kernel⟩⟩

theorem test_meets_ShadowsAndCommits :
    (∃ (l : Link) (r : Req) (s : State), s.takes l ∧ s.fitted r.page.toNat = true ∧ 8 ≤ r.word.toNat ∧ wordHas r.page.toNat
      r.word.toNat .rws = true ∧ (safetyPage r.page.toNat = true → s.safUnlocked l = true) ∧ (s.checked r.page.toNat
      r.word.toNat r.data).2 = []) ∧
    (∃ (l : Link) (r : Req) (s : State), s.takes l ∧ s.fitted r.page.toNat = true ∧ 8 ≤ r.word.toNat ∧ wordHas r.page.toNat
      r.word.toNat .rws = true ∧ (safetyPage r.page.toNat = true → s.safUnlocked l = true) ∧ (s.checked r.page.toNat
      r.word.toNat r.data).2 = []) ∧
    (∃ (l : Link) (r : Req) (s : State), s.takes l ∧ s.fitted r.page.toNat = true ∧ 8 ≤ r.word.toNat ∧ wordHas r.page.toNat
      r.word.toNat .rws = true ∧ (safetyPage r.page.toNat = true → s.safUnlocked l = true) ∧ (s.checked r.page.toNat
      r.word.toNat r.data).2 ≠ []) ∧
    (∃ (l : Link) (r : Req) (s : State), s.takes l ∧ s.fitted r.page.toNat = true ∧ (r.word.toNat ∈ [0, 1, 5, 6, 7] ∨ (8 ≤
      r.word.toNat ∧ (wordHas r.page.toNat r.word.toNat .rws || wordHas r.page.toNat r.word.toNat .rw || wordHas r.page.toNat
      r.word.toNat .wo) = false))) ∧
    (∃ (l : Link) (r : Req) (s : State), s.takes l ∧ s.commit.accepted = none ∧ r.data = 0xFFFF ∧ s.crossField (s.committable l)
      = none ∧ s.liveUnsafe (s.committable l) = none ∧ s.committable l ≠ []) ∧
    (∃ (l : Link) (r : Req) (p : Nat) (s : State), s.takes l ∧ s.commit.accepted = none ∧ r.data.toNat = p ∧ p ≤ 0x7F ∧ p ≠ 0 ∧
      p ≠ 2 ∧ s.fitted p = true ∧ (safetyPage p = true → s.safUnlocked l = true) ∧ s.commit.pend.filter (· == p) = [p] ∧
      s.crossField [p] = none ∧ s.liveUnsafe [p] = none) ∧
    (∃ (l : Link) (r : Req) (s : State), s.takes l ∧ s.commit.accepted = none ∧ 0x7F < r.data.toNat ∧ r.data ≠ 0xFFFF) ∧
    (∃ (l : Link) (r : Req) (s : State), s.takes l ∧ s.commit.accepted.isSome = true) ∧
    (∃ (l : Link) (r : Req) (s : State), s.takes l ∧ s.commit.accepted = none ∧ r.data = 0xFFFF ∧ s.committable l = []) ∧
    (∃ (a : Accepted) (s : State), s.commit.accepted = some a ∧ a.time + 100 ≤ s.nextBoundary ∧ a.last ≠ some s.nextBoundary) ∧
    (∃ (l : Link) (page : Byte) (en : Bool) (s : State), s.takes l ∧ s.fitted page.toNat = true ∧ (en = true ∨ (blockControl
      page.toNat = true ∧ s.blockActive page.toNat = false))) ∧
    (∃ (l : Link) (page : Byte) (en : Bool) (s : State), s.takes l ∧ s.fitted page.toNat = true ∧ (en = true ∨ (blockControl
      page.toNat = true ∧ s.blockActive page.toNat = false))) ∧
    (∃ (l : Link) (page : Byte) (s : State), s.takes l ∧ s.fitted page.toNat = true ∧ blockControl page.toNat = true ∧
      s.blockActive page.toNat = false) ∧
    (∃ (l : Link) (page : Byte) (s : State), s.takes l ∧ s.fitted page.toNat = true ∧ (blockControl page.toNat = false ∨
      s.blockActive page.toNat = true)) ∧
    (∃ (l : Link) (page : Byte) (bits : Word) (s : State), s.takes l ∧ s.fitted page.toNat = true ∧ checkWrite (flagRows
      page.toNat) 0 bits = (bits, [])) :=
  ⟨⟨.spi, ⟨0x2F, 0x0D, 12⟩, run, by decide +kernel⟩,
   ⟨.spi, ⟨0x03, 0x09, 100⟩, run, by decide +kernel⟩,
   ⟨.spi, ⟨0x41, 0x15, 0⟩, run, by decide +kernel⟩,
   ⟨.spi, ⟨0x08, 0x70, 5⟩, run, by decide +kernel⟩,
   ⟨.spi, ⟨0, 0, 0xFFFF⟩, { run with commit := { pend := [0x10, 0x20] } }, by decide +kernel⟩,
   ⟨.spi, ⟨0, 0, 0x10⟩, 0x10, { run with commit := { pend := [0x10] } }, by decide +kernel⟩,
   ⟨.spi, ⟨0, 0, 0x80⟩, run, by decide +kernel⟩,
   ⟨.spi, ⟨0, 0, 3⟩, { run with commit := { accepted := some ⟨[3], [], [], 5, 0, 4, none⟩ } }, by decide +kernel⟩,
   ⟨.spi, ⟨0, 0, 0xFFFF⟩, run, by decide +kernel⟩,
   ⟨⟨[3], [], [], 5, 0, 4, none⟩, { run with commit := { accepted := some ⟨[3], [], [], 5, 0, 4, none⟩ } }, by decide +kernel⟩,
   ⟨.spi, 0, true, run, by decide +kernel⟩,
   ⟨.spi, 0x12, false, run, by decide +kernel⟩,
   ⟨.spi, 0x12, run, by decide +kernel⟩,
   ⟨.spi, 0, run, by decide +kernel⟩,
   ⟨.spi, 0, 0, run, by decide +kernel⟩⟩

theorem test_meets_PasswordsAndDefaults :
    (∃ (l : Link) (pw : Word) (s : State), s.takes l ∧ (pw = 0xFFFFFFFF ∨ (isBcd pw = true ∧ s.lockedOut false = false ∧ pw =
      s.pw.pw))) ∧
    (∃ (l : Link) (pw : Word) (s : State), s.takes l ∧ (pw = 0xFFFFFFFF ∨ (isBcd pw = true ∧ s.lockedOut false = false ∧ pw =
      s.pw.pw))) ∧
    (∃ (l : Link) (pw : Word) (s : State), s.takes l ∧ pw ≠ 0xFFFFFFFF ∧ s.lockedOut false = false ∧ pw ≠ s.pw.pw) ∧
    (∃ (l : Link) (pw : Word) (s : State), s.takes l ∧ pw ≠ 0xFFFFFFFF ∧ s.lockedOut false = true) ∧
    (∃ (l : Link) (saf : Bool) (e : Nat) (s : State), (if saf then (s.link l).safUntil else (s.link l).cfgUntil) = some e) ∧
    (∃ (l : Link) (saf : Bool) (e : Nat) (s : State), (if saf then (s.link l).safUntil else (s.link l).cfgUntil) = some e) ∧
    (∃ (saf : Bool) (e : Nat) (s : State), (s.password saf).lockedUntil = some e) ∧
    (∃ (saf : Bool) (e : Nat) (s : State), (s.password saf).lockedUntil = some e) ∧
    (∃ (l : Link) (pw : Word) (s : State), s.takes l ∧ s.unlocked l = true ∧ isBcd pw = true) ∧
    (∃ (l : Link) (v : Word) (s : State), s.takes l ∧ s.unlocked l = false) ∧
    (∃ (l : Link) (p w : Nat) (s : State), s.takes l ∧ s.unlocked l = true ∧ p ∈ s.pages ∧ w ∈ rwsWords p ∧ safetyPage p =
      false) :=
  ⟨⟨.spi, 0, run, by decide +kernel⟩,
   ⟨.spi, 0xFFFFFFFF, run, by decide +kernel⟩,
   ⟨.spi, 0x12345678, run, by decide +kernel⟩,
   ⟨.spi, 0, { run with pw := { lockedUntil := some 7 } }, by decide +kernel⟩,
   ⟨.spi, true, 5, unlocked, by decide +kernel⟩,
   ⟨.spi, false, 5, unlocked, by decide +kernel⟩,
   ⟨true, 7, { run with spw := { lockedUntil := some 7 } }, by decide +kernel⟩,
   ⟨false, 7, { run with pw := { lockedUntil := some 7 } }, by decide +kernel⟩,
   ⟨.spi, 0x98765432, unlocked, by decide +kernel⟩,
   ⟨.spi, 5, run, by decide +kernel⟩,
   ⟨.spi, 0x10, 0x0B, unlocked, by decide +kernel⟩⟩

theorem test_meets_FirmwareUpdate :
    (∃ (l : Link) (s : State), s.takes l ∧ s.unlocked l = true ∧ s.fwState ≠ 2) ∧
    (∃ (l : Link) (v : Word) (s : State), s.takes l ∧ s.fwState = 1 ∧ s.get F.CFG_FWADDR_OFFSET < 2097148) ∧
    (∃ (l : Link) (s : State), s.takes l ∧ s.unlocked l = true ∧ s.fwState = 1) ∧
    (∃ (pass : Bool) (version : Word) (s : State), s.fwState = 2 ∧ s.fw.waiting = []) ∧
    (∃ (pass : Bool) (version : Word) (s : State), s.fwState = 2 ∧ s.fw.waiting = []) ∧
    (∃ (l : Link) (s : State), s.takes l ∧ s.unlocked l = true) ∧
    (∃ (l : Link) (s : State), s.takes l ∧ s.unlocked l = true) ∧
    (∃ (l : Link) (s : State), s.takes l ∧ s.unlocked l = true ∧ (s.fwState = 1 ∨ s.fwState = 3 ∨ s.fwState = 4)) :=
  ⟨⟨.spi, unlocked, by decide +kernel⟩,
   ⟨.spi, 5, run.set F.CFG_FWSTAT_STATE 1, by decide +kernel⟩,
   ⟨.spi, unlocked.set F.CFG_FWSTAT_STATE 1, by decide +kernel⟩,
   ⟨true, 5, run.set F.CFG_FWSTAT_STATE 2, by decide +kernel⟩,
   ⟨false, 5, run.set F.CFG_FWSTAT_STATE 2, by decide +kernel⟩,
   ⟨.spi, unlocked.set F.CFG_FWSTAT_STATE 3, by decide +kernel⟩,
   ⟨.spi, unlocked, by decide +kernel⟩,
   ⟨.spi, unlocked.set F.CFG_FWSTAT_STATE 4, by decide +kernel⟩⟩

theorem test_meets_FrameTiming :
    (∃ (x : FrameSample) (k i : Nat) (s : State), s.running = true ∧ s.shaped ∧ k < s.dies ∧ k < 8 ∧ i < 64 ∧ s.stk.rejoin = []
      ∧ (s.die k).late = none ∧ s.healthy k = true ∧ (∀ e ∈ s.stk.lostSince, e.1 = k → s.thy.boundary ≤ e.2) ∧ (s.die
      k).held.isSome = true ∧ ((x.dies[k]?).getD {}).delivered = true) ∧
    (∃ (x : FrameSample) (s : State), (s.pwr.phase = .startup ∨ s.pwr.phase = .halt)) ∧
    (∃ (xs : List DieSample) (k i : Nat) (s : State), s.running = true ∧ s.shaped ∧ k < s.dies ∧ k < 8 ∧ i < 64 ∧ s.sampling k =
      true ∧ s.fastCell k i = true) ∧
    (∃ (k : Nat) (s : State), s.running = true ∧ s.leadAt < s.nextBoundary ∧ k < s.dies ∧ k < 8) ∧
    (∃ (xs : List AxisSample) (s : State), s.running = true ∧ s.mot.tickAt % 250 = 0) ∧
    (∃ (xs : List ScanSample) (k e : Nat) (s : State), s.running = true ∧ s.shaped ∧ s.scanStart = some e ∧ s.thy.scanRun =
      false ∧ k < s.dies ∧ k < 8 ∧ s.sampling k = true) ∧
    (∃ (s : State), s.running = true) ∧
    (∃ (s : State), s.running = true ∧ s.get F.THY_TRIG_SRC ≠ 0 ∧ s.thy.scanAt = none) ∧
    (∃ (k : Nat) (a : Fin 6) (s : State), s.coresRun = true ∧ s.dies ≤ 8 ∧ k < s.dies) ∧
    (∃ (s : State), s.running = true ∧ s.frozen = false ∧ s.coresHeld = false) :=
  ⟨⟨{ dies := List.replicate 8 {} }, 7, 63, dies.onDie 7 fun d => { d with held := some heldDie }, by decide +kernel⟩,
   ⟨{}, settling [7], by decide +kernel⟩,
   ⟨[], 7, 63, { regs dies [(addrOf 0x27 0x0C, 0xFFFFFFFF), (addrOf 0x27 0x0D, 0xFFFFFFFF)] with dieSt := State.reset.dieSt },
     by decide +kernel⟩,
   ⟨7, run.set F.THY_FSEQ_SEQ 6, by decide +kernel⟩,
   ⟨[], run, by decide +kernel⟩,
   ⟨[], 7, 750, { sets dies [(F.THY_TRIG_SRC, 1)] with thy := { scanAt := some 750 } }, by decide +kernel⟩,
   ⟨run, by decide +kernel⟩,
   ⟨run.set F.THY_TRIG_SRC 1, by decide +kernel⟩,
   ⟨7, 5, run, by decide +kernel⟩,
   ⟨run, by decide +kernel⟩⟩

theorem test_meets_TimeBase :
    (∃ (l : Link) (s : State), s.takes l) ∧
    (∃ (l : Link) (v : Word) (s : State), s.takes l) ∧
    (∃ (l : Link) (v : Word) (s : State), s.takes l) ∧
    (∃ (s : State), s.on F.THY_STAT_XTAL_LOST = false) ∧
    (∃ (s : State), s.on F.THY_STAT_XTAL_LOST = true) ∧
    (∃ (dev : Int) (s : State), s.alive = true) ∧
    (∃ (dev : Int) (s : State), s.alive = true) :=
  ⟨⟨.spi, run, by decide +kernel⟩,
   ⟨.spi, 1, run, by decide +kernel⟩,
   ⟨.spi, 1, run, by decide +kernel⟩,
   ⟨run, by decide +kernel⟩,
   ⟨sets run [(F.THY_STAT_XTAL_LOST, 1)], by decide +kernel⟩,
   ⟨5001, run, by decide +kernel⟩,
   ⟨(-5001), run, by decide +kernel⟩⟩

theorem test_meets_StackLink :
    (∃ (delays : List Nat) (k v : Nat) (s : State), s.running = true ∧ s.on F.STK_CFG_RECAL = true ∧ k < s.dies ∧ delays[k]? =
      some v) ∧
    (∃ (g : Nat) (s : State), g ≤ s.dies ∧ g < 9 ∧ s.segUp g = true) ∧
    (∃ (g : Nat) (delays : List Nat) (k v : Nat) (s : State), g ≤ s.dies ∧ g < 9 ∧ s.segUp g = false ∧ k < s.dies ∧ delays[k]? =
      some v) ∧
    (∃ (k e j : Nat) (s : State), k < 8 ∧ j < 8 ∧ (s.stk.lostSince.find? fun x => x.1 == k) = some (k, e) ∧ k ∉ s.stk.lost) ∧
    (∃ (k e : Nat) (s : State), k < 8 ∧ s.shaped ∧ s.deafSince k = some e ∧ bit (s.get F.STK_ROUTE_ASLEEP) k = false) ∧
    (∃ (k : Nat) (s : State), k ∈ s.stk.lost ∧ s.pathUp k = true ∧ bit (s.get F.STK_ROUTE_ASLEEP) k = false) ∧
    (∃ (k : Nat) (s : State), k < 8 ∧ bit (s.get F.STK_ROUTE_ASLEEP) k = true ∧ s.pathUp k = true ∧ s.powered k = true ∧ k ∉
      s.pwr.settling) :=
  ⟨⟨[0], 0, 0, sets run [(F.STK_CFG_RECAL, 1)], by decide +kernel⟩,
   ⟨8, sets run [(F.STK_SEGST_UP, 511)], by decide +kernel⟩,
   ⟨8, List.replicate 8 35, 7, 35, run, by decide +kernel⟩,
   ⟨7, 3, 0, { run with stk := { lostSince := [(7, 3)] } }, by decide +kernel⟩,
   ⟨7, 3, { run with stk := { lostSince := [(7, 3)] } }, by decide +kernel⟩,
   ⟨7, { run.set F.STK_SEGST_UP 511 with stk := { lost := [7] } }, by decide +kernel⟩,
   ⟨7, sets dies [(F.STK_SEGST_UP, 511), (F.STK_ROUTE_ASLEEP, 255)], by decide +kernel⟩⟩

theorem test_meets_TapTests :
    (∃ (k : Nat) (s : State), s.running = true ∧ s.shaped ∧ k < s.dies ∧ k < 8) ∧
    (∃ (l : Link) (k tap : Nat) (s : State), s.takes l ∧ s.shaped ∧ k < 8 ∧ tap ≤ 64 ∧ k < s.dies ∧ bit (s.get
      F.STK_ROUTE_REACH) k = true ∧ ((s.die k).waiting.filter fun w => w.prio == 2).length < 4) ∧
    (∃ (l : Link) (k tap : Nat) (s : State), s.takes l ∧ k < 8 ∧ tap < 128 ∧ (64 < tap ∨ s.dies ≤ k ∨ bit (s.get
      F.STK_ROUTE_REACH) k = false ∨ 4 ≤ ((s.die k).waiting.filter fun w => w.prio == 2).length)) ∧
    (∃ (l : Link) (k tap : Nat) (s : State), s.takes l ∧ k < 8 ∧ tap < 128 ∧ (64 < tap ∨ s.dies ≤ k ∨ bit (s.get
      F.STK_ROUTE_REACH) k = false ∨ 4 ≤ ((s.die k).waiting.filter fun w => w.prio == 2).length)) ∧
    (∃ (k : Nat) (w : PendingTest) (rest : List PendingTest) (s : State), s.running = true ∧ s.shaped ∧ k < s.dies ∧ k < 8 ∧
      s.testable k = true ∧ (s.die k).test = none ∧ (s.die k).waiting = w :: rest) ∧
    (∃ (k j : Nat) (s : State), s.running = true ∧ s.shaped ∧ k < s.dies ∧ k < 8 ∧ s.testable k = true ∧ (s.die k).test = none ∧
      (s.die k).waiting = [] ∧ (s.die k).sweep = some j ∧ j ≤ 64) ∧
    (∃ (k : Nat) (x : TapTest) (s : State), s.shaped ∧ k < 8 ∧ (s.die k).test = some x ∧ x.pullDown = false ∧ x.start.toNat +
      x.w ≤ s.frame.toNat) ∧
    (∃ (k : Nat) (x : TapTest) (s : State), s.shaped ∧ k < 8 ∧ x.tap ≤ 64 ∧ (s.die k).test = none ∧ (s.die k).deciding = some x
      ∧ x.base.isSome = true ∧ x.up.isSome = true ∧ x.down.isSome = true) :=
  ⟨⟨7, dies, by decide +kernel⟩,
   ⟨.spi, 7, 64, sets dies [(F.STK_ROUTE_REACH, 255)], by decide +kernel⟩,
   ⟨.spi, 7, 65, dies, by decide +kernel⟩,
   ⟨.spi, 7, 64, run.onDie 7 fun d => { d with waiting := List.replicate 4 ⟨3, 2, 0⟩ }, by decide +kernel⟩,
   ⟨7, ⟨64, 2, 0⟩, [], (sets dies [(F.STK_ROUTE_REACH, 255)]).onDie 7 fun d => { d with waiting := [⟨64, 2, 0⟩] }, by
     decide +kernel⟩,
   ⟨7, 64, (sets dies [(F.STK_ROUTE_REACH, 255)]).onDie 7 fun d => { d with sweep := some 64 }, by decide +kernel⟩,
   ⟨7, { tapTest with up := none, down := none, base := none, w := 0 }, dies.onDie 7 fun d =>
     { d with test := some { tapTest with up := none, down := none, base := none, w := 0 } }, by decide +kernel⟩,
   ⟨7, tapTest, dies.onDie 7 fun d => { d with deciding := some tapTest }, by decide +kernel⟩⟩

theorem test_meets_Comparators :
    (∃ (cells : List (List Int)) (k i : Nat) (s : State), s.running = true ∧ s.thy.quiet = true ∧ s.shaped ∧ k < s.dies ∧ k < 8
      ∧ i < 64 ∧ s.sampling k = true ∧ s.excluded k i = false ∧ s.testCell k ≠ some i) ∧
    (∃ (k i : Nat) (s : State), s.running = true ∧ k < s.dies ∧ k < 8 ∧ i < 64 ∧ s.excluded k i = false ∧ (s.get
      F.CMP_GCONF_CONF ≤ countOf (s.die k).ovCount i ∨ s.get F.CMP_GCONF_CONF ≤ countOf (s.die k).uvCount i)) ∧
    (∃ (k i : Nat) (v : Int) (s : State), k < s.dies ∧ k < 8 ∧ i < 64) ∧
    (∃ (failing : List Nat) (k i c : Nat) (s : State), s.running = true ∧ s.thy.quiet = true ∧ s.shaped ∧ k < s.dies ∧ k < 8 ∧
      s.sampling k = true ∧ s.testCell k = some i ∧ c < 4) ∧
    (∃ (u : Int) (s : State), s.sampling 0 = true) ∧
    (∃ (pass : Bool) (s : State), s.running = true ∧ s.sampling 0 = true) :=
  ⟨⟨[], 7, 63, { dies with thy := { quiet := true } }, by decide +kernel⟩,
   ⟨7, 63, dies.onDie 7 fun d => { d with ovCount := [(63, 50)] }, by decide +kernel⟩,
   ⟨7, 63, 0, dies, by decide +kernel⟩,
   ⟨[], 7, 63, 3, { dies.onDie 7 fun d => { d with ctNext := 63 } with thy := { quiet := true } }, by decide +kernel⟩,
   ⟨0, dies, by decide +kernel⟩,
   ⟨true, dies, by decide +kernel⟩⟩

theorem test_meets_FaultLine :
    (∃ (k : Nat) (coded : Bool) (s : State), k < s.dies ∧ k < 8) ∧
    (∃ (k : Nat) (code : Byte) (s : State), k < s.dies ∧ k < 8 ∧ s.shaped ∧ oddParity code.toNat = true) ∧
    (∃ (k : Nat) (code : Byte) (s : State), oddParity code.toNat = false) ∧
    (∃ (k : Nat) (s : State), k < s.dies ∧ k < 8 ∧ s.shaped) ∧
    (∃ (l : Link) (s : State), s.takes l ∧ s.noSource = true) ∧
    (∃ (l : Link) (key : Word) (s : State), s.takes l ∧ (key ≠ 0xC1EA ∨ s.noSource = false)) :=
  ⟨⟨7, true, dies, by decide +kernel⟩,
   ⟨7, 4, dies, by decide +kernel⟩,
   ⟨7, 0, dies, by decide +kernel⟩,
   ⟨7, dies, by decide +kernel⟩,
   ⟨.spi, run, by decide +kernel⟩,
   ⟨.spi, 1, run, by decide +kernel⟩⟩

theorem test_meets_Balancing :
    (∃ (k i ton : Nat) (s : State), k < s.dies ∧ i ∈ (s.die k).bal.closed ∧ (s.die k).bal.plan.find? (fun e => e.1 == i) = some
      (i, ton)) ∧
    (∃ (k i : Nat) (s : State), k < s.dies ∧ k < 8 ∧ i < 64 ∧ s.shaped ∧ i ∉ (s.die k).bal.closed) ∧
    (∃ (k i n p : Nat) (s : State), k < s.dies ∧ k < 8 ∧ i < 64 ∧ i ∈ (s.die k).bal.closed) ∧
    (∃ (k i : Nat) (s : State), k < s.dies ∧ k < 8 ∧ i < 64 ∧ i ∈ (s.die k).bal.closed) ∧
    (∃ (l : Link) (k c : Nat) (s : State), s.takes l ∧ k < s.dies ∧ k < 8 ∧ c < 64 ∧ (s.lockedOff k c = false ∨ c ∉ (s.die
      k).bal.stuck)) ∧
    (∃ (l : Link) (k : Nat) (s : State), s.takes l ∧ k < s.dies ∧ k < 8 ∧ (s.die k).bal.stuck = []) ∧
    (∃ (l : Link) (k c : Nat) (s : State), s.takes l ∧ k < s.dies ∧ k < 8 ∧ c < 64 ∧ s.lockedOff k c = true ∧ c ∈ (s.die
      k).bal.stuck) ∧
    (∃ (l : Link) (k : Nat) (s : State), s.takes l ∧ s.shaped ∧ k < s.dies ∧ k < 8 ∧ s.healthy k = true ∧ s.harness k = false ∧
      bit (s.get F.CMP_OWST_SWEPT) k = true ∧ s.filterSpan ≤ s.period ∧ s.get F.THY_QUIET_LEAD ≤ s.period ∧ (s.die k).bal.learn
      = none) ∧
    (∃ (l : Link) (k : Nat) (s : State), s.takes l ∧ k < s.dies ∧ k < 8 ∧ (s.healthy k = false ∨ s.harness k = true ∨ bit (s.get
      F.CMP_OWST_SWEPT) k = false ∨ s.period < s.filterSpan ∨ s.period < s.get F.THY_QUIET_LEAD ∨ (s.die k).bal.learn.isSome =
      true)) ∧
    (∃ (l : Link) (k : Nat) (s : State), s.takes l ∧ k < s.dies ∧ k < 8 ∧ (s.die k).bal.learn.isSome = true) :=
  ⟨⟨7, 63, 900, dies.onBal 7 fun b => { b with closed := [63], plan := [(63, 900)] }, by decide +kernel⟩,
   ⟨7, 63, dies, by decide +kernel⟩,
   ⟨7, 63, 3, 1, (closed 7 [63]).onBal 7 fun b => { b with ovc := [(63, 3, 1)] }, by decide +kernel⟩,
   ⟨7, 63, closed 7 [63], by decide +kernel⟩,
   ⟨.spi, 7, 63, dies.setLocked 7 63 true, by decide +kernel⟩,
   ⟨.spi, 7, dies.setLocked 7 63 true, by decide +kernel⟩,
   ⟨.spi, 7, 63, (dies.setLocked 7 63 true).onBal 7 fun b => { b with stuck := [63] }, by decide +kernel⟩,
   ⟨.spi, 7, sets dies [(F.CMP_OWST_SWEPT, 255), (F.CMP_OWST_HARNESS, 0), (F.THY_QUIET_LEAD, 100), (F.THY_STAT_ACTIVE, 4)], by
     decide +kernel⟩,
   ⟨.spi, 7, dies, by decide +kernel⟩,
   ⟨.spi, 7, dies.onBal 7 fun b => { b with learn := some {}, closed := [4, 7] }, by decide +kernel⟩⟩

theorem test_meets_CurrentAndVoltage :
    (∃ (s : State), s.running = true ∧ s.suspectDue = true) ∧
    (∃ (s : State), s.running = true ∧ s.cur.suspect = true ∧ s.cur.bad = 0 ∧ 1000 ≤ s.cur.agree ∧ s.hasM0 = true) ∧
    (∃ (l : Link) (s : State), s.takes l ∧ s.cdLive 1 = false) ∧
    (∃ (l : Link) (s : State), s.takes l ∧ s.cdLive 1 = true) ∧
    (∃ (e : Nat) (s : State), s.running = true ∧ s.on F.CUR_ZCFG_AUTO = true ∧ s.cdLive 1 = false ∧ s.cur.zeroing = none ∧
      s.cur.openSince = some e) ∧
    (∃ (z : ZeroRun) (s : State), s.cur.zeroing = some z ∧ 1024 ≤ z.frames) ∧
    (∃ (l : Link) (s : State), s.takes l ∧ s.on F.STV_STAT_SUMVALID = true) ∧
    (∃ (l : Link) (s : State), s.takes l ∧ s.on F.STV_STAT_SUMVALID = false) ∧
    (∃ (l : Link) (s : State), s.takes l ∧ (∀ m < 2, bit (s.get F.PRT_STAT_COIL) m = true ∧ bit (s.get F.PRT_STAT_AUX) m = true)
      ∧ absInt (s.getInt F.CUR_I_MA) ≤ 5000 ∧ s.on F.STV_STAT_S = false) ∧
    (∃ (l : Link) (s : State), s.takes l ∧ (([0, 1].any fun m => !bit (s.get F.PRT_STAT_COIL) m || !bit (s.get F.PRT_STAT_AUX)
      m) = true ∨ 5000 < absInt (s.getInt F.CUR_I_MA) ∨ s.on F.STV_STAT_S = true)) ∧
    (∃ (l : Link) (s : State), s.takes l) ∧
    (∃ (c : CalRun) (s : State), s.cur.cal = some c ∧ (c.failed = true ∨ 256 ≤ c.frames)) ∧
    (∃ (c : CalRun) (s : State), s.cur.cal = some c ∧ (c.failed = true ∨ 256 ≤ c.frames)) :=
  ⟨⟨{ run with cur := { disagree := 255 } }, by decide +kernel⟩,
   ⟨{ sets dies [(F.STK_ROUTE_REACH, 255)] with cur := { agree := 1000, suspect := true } }, by decide +kernel⟩,
   ⟨.spi, contacts 0 0 1, by decide +kernel⟩,
   ⟨.spi, contacts 0 0 2, by decide +kernel⟩,
   ⟨1, { sets run [(F.CUR_ZCFG_AUTO, 1), (F.PRT_STAT_AUX, 1)] with cur := { openSince := some 1 } }, by decide +kernel⟩,
   ⟨{ frames := 1024, sumA := 12677974, sumB := 60, host := true },
     { run with cur := { zeroing := some { frames := 1024, sumA := 12677974, sumB := 60, host := true } } }, by decide +kernel⟩,
   ⟨.spi, sets run [(F.STV_STAT_SUMVALID, 1)], by decide +kernel⟩,
   ⟨.spi, sets run [(F.STV_STAT_SUMVALID, 0)], by decide +kernel⟩,
   ⟨.spi, sets run [(F.PRT_STAT_AUX, 3), (F.PRT_STAT_COIL, 7), (F.CUR_I_MA, 5000), (F.STV_STAT_S, 0)], by decide +kernel⟩,
   ⟨.spi, sets run [(F.PRT_STAT_AUX, 1)], by decide +kernel⟩,
   ⟨.spi, run, by decide +kernel⟩,
   ⟨{ cmd := 2, frames := 256, sumRef := 6557364, sumRaw := 0 },
     { run with cur := { cal := some { cmd := 2, frames := 256, sumRef := 6557364, sumRaw := 0 } } }, by decide +kernel⟩,
   ⟨{ cmd := 1, failed := true }, { run with cur := { cal := some { cmd := 1, failed := true } } }, by decide +kernel⟩⟩

theorem test_meets_SageAndTables :
    (∃ (x y : SageInput) (rest : List SageInput) (s : State), s.sage.inputs = x :: rest ∧ s.sage.prev = some y ∧ s.coresRun =
      true ∧ s.frame.toNat = (x.seq + 2 * s.sageStep) % 4294967296) ∧
    (∃ (s : State), s.running = true) ∧
    (∃ (l : Link) (s : State), s.takes l) ∧
    (∃ (s : State), s.sage.wbDue = true ∧ s.sage.wbData = none ∧ s.on F.PWR_STAT_WARN = false ∧ s.coresRun = true ∧
      (s.leaseState 0 = 0 ∨ (s.leaseState 0 = 1 ∧ s.leaseHolder 0 = s.coreParty))) ∧
    (∃ (c : SageCopy) (s : State), s.sage.wbData = some c ∧ s.leaseState 0 = 1 ∧ s.leaseHolder 0 = s.coreParty ∧ s.frozen =
      false ∧ s.coresHeld = false) ∧
    (∃ (l : Link) (s : State), s.takes l) ∧
    (∃ (l : Link) (s : State), s.takes l ∧ tableOk s.sage.staging = true) ∧
    (∃ (l : Link) (s : State), s.takes l ∧ tableOk s.sage.staging = false) ∧
    (∃ (l : Link) (v : Word) (s : State), s.takes l ∧ v.toNat < 65536) ∧
    (∃ (l : Link) (s : State), s.takes l) ∧
    (∃ (l : Link) (k : Nat) (s : State), s.takes l ∧ k < 8) ∧
    (∃ (l : Link) (cell ti si : Nat) (s : State), s.takes l ∧ cell < 512 ∧ ti < 8 ∧ si < 8) ∧
    (∃ (l : Link) (i j : Nat) (s : State), s.takes l ∧ i < 64) ∧
    (∃ (l : Link) (i : Nat) (s : State), s.takes l ∧ i < 64) :=
  ⟨⟨sageInput 438, sageInput 436, [],
     { run.set F.THY_FSEQ_SEQ (438 + 2 * run.sageStep) with sage := { inputs := [sageInput 438], prev := some (sageInput 436), tables := [table, [], [], []] } },
     by decide +kernel⟩,
   ⟨run, by decide +kernel⟩,
   ⟨.spi, run, by decide +kernel⟩,
   ⟨{ run with sage := { wbDue := true } }, by decide +kernel⟩,
   ⟨copy, { leased 0 run.coreParty with sage := { wbData := some copy } }, by decide +kernel⟩,
   ⟨.spi, run, by decide +kernel⟩,
   ⟨.spi, { run with sage := { staging := table } }, by decide +kernel⟩,
   ⟨.spi, run, by decide +kernel⟩,
   ⟨.spi, 0xFFFF, run, by decide +kernel⟩,
   ⟨.spi, sets run [(F.SGE_TBLSEL_ENTRY, 259)], by decide +kernel⟩,
   ⟨.spi, 7, run, by decide +kernel⟩,
   ⟨.spi, 511, 7, 7, run, by decide +kernel⟩,
   ⟨.spi, 63, 0, run, by decide +kernel⟩,
   ⟨.spi, 63, run, by decide +kernel⟩⟩

theorem test_meets_ContactorCommands :
    (∃ (l : Link) (s : State), s.takes l ∧ s.connectRefused = false ∧ s.prot.waitCommit = false ∧ s.prot.waitSince = none) ∧
    (∃ (l : Link) (s : State), s.takes l ∧ s.prtState = 0 ∧ (s.prot.waitCommit = true ∨ s.prot.waitSince.isSome = true)) ∧
    (∃ (l : Link) (s : State), s.takes l ∧ (s.prtState ≠ 0 ∨ (s.prot.waitCommit = false ∧ s.prot.waitSince = none ∧
      (s.faultAsserted = true ∨ s.on F.PWR_STAT_WARN = true ∨ s.get F.PRT_STAT_FAULT % 8 ≠ 0 ∨ s.get F.TMP_LATCH_LATCHED ≠ 0 ∨
      s.on F.STV_STAT_S = true ∨ s.prot.coolUntil.isSome = true ∨ s.condOn 0x02 = true)))) ∧
    (∃ (l : Link) (s : State), s.takes l ∧ (s.prtState ≠ 0 ∨ (s.prot.waitCommit = false ∧ s.prot.waitSince = none ∧
      (s.faultAsserted = true ∨ s.on F.PWR_STAT_WARN = true ∨ s.get F.PRT_STAT_FAULT % 8 ≠ 0 ∨ s.get F.TMP_LATCH_LATCHED ≠ 0 ∨
      s.on F.STV_STAT_S = true ∨ s.prot.coolUntil.isSome = true ∨ s.condOn 0x02 = true)))) ∧
    (∃ (l : Link) (s : State), s.takes l ∧ s.prtState = 5 ∧ s.prot.closing = none) ∧
    (∃ (l : Link) (s : State), s.takes l ∧ s.prtState = 0) ∧
    (∃ (l : Link) (s : State), s.takes l ∧ s.chargeOk = true ∧ s.faultAsserted = false ∧ bit (s.get F.PRT_DRV_EN) 3 = true ∧
      s.matedCond = true ∧ s.on F.SAF_STAT_PROP_EN = false ∧ s.on F.SAF_STAT_GRDDONE = true ∧ s.guardOpen 2 = false ∧ s.sfault =
      false ∧ (s.useBit 3 = true → s.rxBit 3 = true)) ∧
    (∃ (l : Link) (s : State), s.takes l ∧ s.chargeOk = false) ∧
    (∃ (l : Link) (s : State), s.takes l ∧ s.coilOnNow 3 = true) ∧
    (∃ (l : Link) (s : State), s.takes l ∧ s.coilOnNow 3 = false) ∧
    (∃ (l : Link) (m : Nat) (s : State), s.takes l ∧ m < 4) ∧
    (∃ (l : Link) (s : State), s.takes l ∧ (∀ m < 4, s.cdClosed m = true → s.coilOnNow m = true)) ∧
    (∃ (l : Link) (key : Word) (m : Nat) (s : State), s.takes l ∧ (key ≠ 0xC01D ∨ (m < 4 ∧ s.cdClosed m = true ∧ s.coilOnNow m =
      false))) ∧
    (∃ (l : Link) (key : Word) (m : Nat) (s : State), s.takes l ∧ (key ≠ 0xC01D ∨ (m < 4 ∧ s.cdClosed m = true ∧ s.coilOnNow m =
      false))) :=
  ⟨⟨.spi, sets run
     [(F.CMP_OWST_SWEPT, 255), (F.CMP_OWST_HARNESS, 0), (F.PRT_STAT_STATE, 0), (F.CMP_FLSTAT_ASSERTED, 0), (F.PRT_COND_COND, 0), (F.STV_STAT_S, 0)],
     by decide +kernel⟩,
   ⟨.spi, { contacts 0 0 0 with prot := { waitSince := some 5 } }, by decide +kernel⟩,
   ⟨.spi, contacts 3 0 0, by decide +kernel⟩,
   ⟨.spi, sets run [(F.PWR_STAT_WARN, 1)], by decide +kernel⟩,
   ⟨.spi, contacts 5 3 3, by decide +kernel⟩,
   ⟨.spi, contacts 0 0 0, by decide +kernel⟩,
   ⟨.spi, sets (contacts 5 3 3)
     [(F.MOT_STAT_MATED, 1), (F.SAF_STAT_CHGIL, 1), (F.PRT_DRV_EN, 15), (F.SAF_STAT_GRDDONE, 1), (F.BAY_STAT_RUN, 1), (F.PRT_STAT_PATH, 0), (F.CMP_FLSTAT_ASSERTED, 0), (F.SAF_STAT_PROP_EN, 0), (F.SAF_STAT_GRDCL, 3), (F.SCH_CFG_USE, 0), (F.SAF_STAT_SFAULT, 0)],
     by decide +kernel⟩,
   ⟨.spi, run, by decide +kernel⟩,
   ⟨.spi, contacts 5 15 3, by decide +kernel⟩,
   ⟨.spi, run, by decide +kernel⟩,
   ⟨.spi, 3, run, by decide +kernel⟩,
   ⟨.spi, contacts 8 7 7, by decide +kernel⟩,
   ⟨.spi, 0xC01E, 0, run, by decide +kernel⟩,
   ⟨.spi, 0xC01D, 3, contacts 8 0 15, by decide +kernel⟩⟩

theorem test_meets_ClosingAndContactorFaults :
    (∃ (m e : Nat) (s : State), s.prot.pullAt.find? (fun x => x.1 == m) = some (m, e) ∧ m ∉ s.prot.hold) ∧
    (∃ (m : Nat) (closed : Bool) (c : Closing) (s : State), m < 4 ∧ s.auxWired m = true ∧ s.cdClosed m ≠ closed) ∧
    (∃ (m : Nat) (closed : Bool) (c : Closing) (s : State), m < 4 ∧ s.auxWired m = true ∧ s.cdClosed m ≠ closed) ∧
    (∃ (c : Closing) (t0 : Nat) (s : State), s.prot.closing = some { c with t0 := some t0 } ∧ s.prtState = 2 ∧ s.paused = false) ∧
    (∃ (c : Closing) (e : Nat) (s : State), s.prot.closing = some { c with matchAt := some e } ∧ s.prtState = 3 ∧ s.paused =
      false) ∧
    (∃ (c : Closing) (e : Nat) (s : State), s.prot.closing = some { c with overlapAt := some e } ∧ s.prtState = 4 ∧ s.coilOnNow
      2 = true ∧ s.paused = false) ∧
    (∃ (e : Nat) (s : State), s.prot.coolUntil = some e) ∧
    (∃ (m : Nat) (s : State), m < 4 ∧ s.coilOnNow m = true) ∧
    (∃ (m : Nat) (s : State), m < 4 ∧ m ∈ s.prot.hold) ∧
    (∃ (m e : Nat) (s : State), m < 4 ∧ s.prot.pullAt.find? (fun x => x.1 == m) = some (m, e) ∧ s.cdClosed m = false ∧
      s.auxWired m = true ∧ (s.paused = false ∨ s.prot.closing = none)) ∧
    (∃ (m e : Nat) (s : State), m < 4 ∧ s.prot.offAt.find? (fun x => x.1 == m) = some (m, e)) ∧
    (∃ (c : Closing) (e f : Nat) (s : State), s.prot.offAt.find? (fun x => x.1 == 2) = some (2, e) ∧ s.prot.closing = some
      { c with overlapAt := some f } ∧ s.prtState = 4 ∧ s.prot.opening = none ∧ s.paused = false) ∧
    (∃ (o : Opening) (e : Nat) (s : State), s.prot.opening = some { o with holdAt := some e }) :=
  ⟨⟨3, 5, { run with prot := { pullAt := [(3, 5)] } }, by decide +kernel⟩,
   ⟨3, true, {}, sets (contacts 5 15 7) [(F.PRT_DRV_AUXEN, 15)], by decide +kernel⟩,
   ⟨0, false, {}, sets (contacts 5 15 7) [(F.PRT_DRV_AUXEN, 15)], by decide +kernel⟩,
   ⟨{}, 5, { contacts 2 6 6 with prot := { closing := some { t0 := some 5 } } }, by decide +kernel⟩,
   ⟨{}, 5, { contacts 3 2 2 with prot := { closing := some { matchAt := some 5 } } }, by decide +kernel⟩,
   ⟨{}, 5, { contacts 4 7 7 with prot := { closing := some { overlapAt := some 5 } } }, by decide +kernel⟩,
   ⟨5, { run with prot := { coolUntil := some 5 } }, by decide +kernel⟩,
   ⟨3, contacts 5 15 15, by decide +kernel⟩,
   ⟨3, { contacts 5 15 15 with prot := { hold := [3] } }, by decide +kernel⟩,
   ⟨3, 5, { sets (contacts 5 15 7) [(F.PRT_DRV_AUXEN, 15)] with prot := { pullAt := [(3, 5)] } }, by decide +kernel⟩,
   ⟨3, 5, { contacts 5 7 15 with prot := { offAt := [(3, 5)] } }, by decide +kernel⟩,
   ⟨{}, 5, 3, { contacts 4 3 7 with prot := { closing := some { overlapAt := some 3 }, offAt := [(2, 5)] } }, by decide +kernel⟩,
   ⟨{ todo := [1] }, 5, { contacts 6 2 2 with prot := { opening := some { todo := [1], holdAt := some 5 } } }, by
     decide +kernel⟩⟩

theorem test_meets_OrderlyPath :
    (∃ (e : Nat × Nat) (m : Nat) (s : State), s.firstDeadline deadlineAct = some e ∧ s.prtState = 5 ∧ m < 4) ∧
    (∃ (e : Nat) (s : State), s.governing = some (0x07, e) ∧ s.prtState = 5) ∧
    (∃ (e : Nat) (s : State), s.running = true ∧ s.cur.suspectSince = some e) ∧
    (∃ (k i e : Nat) (s : State), i < 64 ∧ s.prot.degrSince.find? (fun x => x.1 == k * 64 + i) = some (k * 64 + i, e)) ∧
    (∃ (k i e : Nat) (s : State), i < 64 ∧ s.prot.hotSince.find? (fun x => x.1 == k * 64 + i) = some (k * 64 + i, e)) ∧
    (∃ (s : State), s.running = true ∧ s.frozen = false ∧ s.on F.PRT_CAN_EN = true) ∧
    (∃ (e : Nat) (s : State), s.prot.chargeOffAt = some e) :=
  ⟨⟨(6, 5), 3, { contacts 5 3 3 with prot := { deadlines := [(6, 5)] } }, by decide +kernel⟩,
   ⟨5, { contacts 5 3 3 with prot := { deadlines := [(7, 5)] } }, by decide +kernel⟩,
   ⟨5, { run with cur := { suspectSince := some 5 } }, by decide +kernel⟩,
   ⟨7, 63, 5, { run with prot := { degrSince := [(511, 5)] } }, by decide +kernel⟩,
   ⟨7, 63, 5, { run with prot := { hotSince := [(511, 5)] } }, by decide +kernel⟩,
   ⟨sets run [(F.PRT_CAN_EN, 1)], by decide +kernel⟩,
   ⟨5, { contacts 5 11 11 with prot := { chargeOffAt := some 5 } }, by decide +kernel⟩⟩

theorem test_meets_RingMembers :
    (∃ (m : RingMsg) (s : State), s.running = true ∧ s.ringOn = true ∧ m.addr < 16 ∧ s.ringExcluded = false ∧ m.addr ≠ s.ownAddr
      ∧ m.excluded = false ∧ m.departing = false ∧ (∀ v ∈ s.ring.voices, v.addr = m.addr → v.serial = m.serial ∨ v.time + 5000 <
      s.now)) ∧
    (∃ (m : RingMsg) (s : State), s.running = true ∧ s.ringOn = true ∧ m.addr < 16 ∧ s.ringExcluded = false ∧ m.addr ≠ s.ownAddr
      ∧ (m.excluded = true ∨ m.departing = true ∨ ∃ v ∈ s.ring.voices, v.addr = m.addr ∧ v.serial ≠ m.serial ∧ s.now ≤ v.time +
      5000)) ∧
    (∃ (m : RingMsg) (s : State), s.running = true ∧ s.ringOn = true ∧ m.addr < 16 ∧ s.ringExcluded = false ∧ m.addr ≠ s.ownAddr
      ∧ (m.excluded = true ∨ m.departing = true ∨ ∃ v ∈ s.ring.voices, v.addr = m.addr ∧ v.serial ≠ m.serial ∧ s.now ≤ v.time +
      5000)) ∧
    (∃ (m : RingMsg) (s : State), s.running = true ∧ s.ringOn = true ∧ m.addr < 16 ∧ s.ringExcluded = false ∧ m.addr ≠ s.ownAddr
      ∧ (m.excluded = true ∨ m.departing = true ∨ ∃ v ∈ s.ring.voices, v.addr = m.addr ∧ v.serial ≠ m.serial ∧ s.now ≤ v.time +
      5000)) ∧
    (∃ (m : RingMsg) (s : State), s.running = true ∧ s.ringOn = true ∧ m.addr < 16 ∧ s.ringExcluded = false ∧ m.addr = s.ownAddr
      ∧ m.serial ≠ s.serial) ∧
    (∃ (m : Member) (s : State), s.ring.members.find? (fun x => x.msg.addr == m.msg.addr) = some m) ∧
    (∃ (s : State), s.running = true) ∧
    (∃ (e : Nat) (s : State), s.prot.waitSince = some e) ∧
    (∃ (s : State), s.coresRun = true ∧ s.on F.KRG_CAN_EN = true ∧ s.on F.KRG_STAT_ISHEAD = true ∧ s.leaseState 6 = 0) ∧
    (∃ (l : Link) (s : State), s.takes l) ∧
    (∃ (s : State), s.shaped ∧ s.coresRun = true ∧ s.on F.KRG_CAN_EN = true ∧ s.on F.KRG_STAT_ISHEAD = true ∧ s.leaseState 6 ≠ 0
      ∧ s.leaseHolder 6 ≠ s.coreParty) :=
  ⟨⟨status 15 3, ring, by decide +kernel⟩,
   ⟨{ status 15 3 with departing := true }, ring, by decide +kernel⟩,
   ⟨{ status 15 3 with excluded := true }, ring, by decide +kernel⟩,
   ⟨status 15 3, { ring with ring := { voices := [⟨15, 4, 5⟩] } }, by decide +kernel⟩,
   ⟨status ring.ownAddr 3, ring, by decide +kernel⟩,
   ⟨⟨status 15 3, 5, none⟩, { ring with ring := { members := [⟨status 15 3, 5, none⟩] } }, by decide +kernel⟩,
   ⟨ring, by decide +kernel⟩,
   ⟨5, { run with prot := { waitSince := some 5 } }, by decide +kernel⟩,
   ⟨sets run [(F.KRG_CAN_EN, 1), (F.KRG_STAT_ISHEAD, 1)], by decide +kernel⟩,
   ⟨.spi, run, by decide +kernel⟩,
   ⟨sets run [(F.KRG_CAN_EN, 1), (F.KRG_STAT_ISHEAD, 1), (F.FLT_LEASE_STATE.at 6, 1), (F.FLT_LEASE_HOLDER.at 6, 5)], by
     decide +kernel⟩⟩

theorem test_meets_MirrorsAndAdoption :
    (∃ (source serial seq : Nat) (image : MirrorImage) (s : State), s.running = true ∧ s.ringOn = true ∧ s.ringExcluded = false
      ∧ source < 16) ∧
    (∃ (source serial seq : Nat) (image : MirrorImage) (s : State), s.running = true ∧ s.ringOn = true ∧ s.ringExcluded = false) ∧
    (∃ (serial : Option Nat) (s : State), s.ring.asked = true ∧ s.running = true ∧ s.ringExcluded = false) ∧
    (∃ (serial : Option Nat) (s : State), s.ring.asked = true ∧ s.running = true ∧ s.ringExcluded = false) ∧
    (∃ (l : Link) (s : State), s.takes l ∧ (s.on F.KRG_STAT_REPL = true ∨ s.on F.KRG_STAT_RESTORE = true) ∧ s.prtState = 0 ∧
      s.unlocked l = true) ∧
    (∃ (l : Link) (s : State), s.takes l ∧ ((s.on F.KRG_STAT_REPL = false ∧ s.on F.KRG_STAT_RESTORE = false) ∨ s.prtState ≠ 0 ∨
      s.unlocked l = false)) ∧
    (∃ (l : Link) (s : State), s.takes l ∧ ((s.on F.KRG_STAT_REPL = false ∧ s.on F.KRG_STAT_RESTORE = false) ∨ s.prtState ≠ 0 ∨
      s.unlocked l = false)) ∧
    (∃ (m : MirrorImage) (s : State), s.ring.fetching = true) ∧
    (∃ (m : MirrorImage) (s : State), s.ring.fetching = true) ∧
    (∃ (l : Link) (s : State), s.takes l) :=
  ⟨⟨15, 3, 8, {}, ring, by decide +kernel⟩,
   ⟨15, 3, 8, {}, ring, by decide +kernel⟩,
   ⟨some 0, { ring with ring := { asked := true } }, by decide +kernel⟩,
   ⟨none, { ring with ring := { asked := true } }, by decide +kernel⟩,
   ⟨.spi, sets unlocked [(F.KRG_STAT_REPL, 1), (F.PRT_STAT_STATE, 0)], by decide +kernel⟩,
   ⟨.spi, unlocked, by decide +kernel⟩,
   ⟨.spi, sets run [(F.KRG_STAT_REPL, 1)], by decide +kernel⟩,
   ⟨{}, { run with ring := { fetching := true } }, by decide +kernel⟩,
   ⟨{}, { run with ring := { fetching := true } }, by decide +kernel⟩,
   ⟨.spi, run, by decide +kernel⟩⟩

theorem test_meets_ModuleAuthentication :
    (∃ (l : Link) (s : State), s.takes l ∧ s.unlocked l = true ∧ onCurve s.aut.staging = true) ∧
    (∃ (l : Link) (s : State), s.takes l ∧ (s.unlocked l = false ∨ onCurve s.aut.staging = false)) ∧
    (∃ (l : Link) (s : State), s.takes l ∧ (s.unlocked l = false ∨ onCurve s.aut.staging = false)) ∧
    (∃ (l : Link) (ids : List (Nat × Nat)) (j id : Nat) (s : State), s.takes l ∧ s.unlocked l = true ∧ (ids.map (·.1)).Nodup ∧
      (j, id) ∈ ids) ∧
    (∃ (l : Link) (j : Nat) (s : State), s.takes l ∧ s.unlocked l = true ∧ s.aut.presented = none ∧ j ∈ s.enabledSlots) ∧
    (∃ (l : Link) (j : Nat) (s : State), s.takes l ∧ j < 64 ∧ s.slotOn j = true) ∧
    (∃ (ids : List (Nat × Nat)) (j : Nat) (s : State), s.running = true ∧ j < 64 ∧ s.slotOn j = true) ∧
    (∃ (j i : Nat) (x : TagResult) (q : SlotRound) (s : State), j < 64 ∧ j / 8 < s.dies ∧ s.atWork (j / 8) = some q ∧ q.slot =
      j) ∧
    (∃ (j : Nat) (x : TagResult) (s : State), s.slotOn j = true ∧ s.healthy (j / 8) = true ∧ bit (s.get F.STK_ROUTE_ASLEEP) (j /
      8) = false ∧ bit (s.get F.CMP_OWST_HARNESS) (j / 8) = false) ∧
    (∃ (l : Link) (v : Word) (s : State), s.takes l) ∧
    (∃ (l : Link) (j : Nat) (s : State), s.takes l ∧ j < 64) :=
  ⟨⟨.spi, { unlocked with aut := { staging := basePoint } }, by decide +kernel⟩,
   ⟨.spi, unlocked, by decide +kernel⟩,
   ⟨.spi, { run with aut := { staging := basePoint } }, by decide +kernel⟩,
   ⟨.spi, [(63, 5)], 63, 5, unlocked, by decide +kernel⟩,
   ⟨.spi, 63, sets unlocked [(F.PWR_MDPWR_MD_ON, 255), (F.SYS_DIEMAP_MD, 255), (F.AUT_MAP_EN.at 63, 1)], by decide +kernel⟩,
   ⟨.spi, 63, slot 63 0, by decide +kernel⟩,
   ⟨[], 63, slot 63 0, by decide +kernel⟩,
   ⟨63, 63, {}, ⟨63, 1⟩, slot 63 1, by decide +kernel⟩,
   ⟨63, {}, (slot 63 1).set F.CMP_OWST_HARNESS 0, by decide +kernel⟩,
   ⟨.spi, 5, run, by decide +kernel⟩,
   ⟨.spi, 63, run, by decide +kernel⟩⟩

theorem test_meets_LockstepAndSelfTests :
    (∃ (a b : Bool) (j : Nat) (s : State), s.cdieRuns = true ∧ s.get F.FLT_MODE_MODE = 0 ∧ s.frozen = false) ∧
    (∃ (a b : Bool) (j : Nat) (s : State), s.cdieRuns = true ∧ s.get F.FLT_MODE_MODE = 0 ∧ s.frozen = false) ∧
    (∃ (stA stB : Bool) (e j : Nat) (s : State), s.flt.freezeAt = some e ∧ s.flt.survivor = none ∧ (stA = true ∨ stB = true)) ∧
    (∃ (stA stB : Bool) (e j : Nat) (s : State), s.flt.freezeAt = some e ∧ s.flt.survivor = none ∧ (stA = true ∨ stB = true)) ∧
    (∃ (e : Nat) (s : State), s.flt.freezeAt = some e ∧ s.flt.survivor = none ∧ noneWaits s) ∧
    (∃ (len e m : Nat) (s : State), s.flt.freezeAt = some e ∧ s.flt.survivor = some m ∧ m < 4 ∧ s.pwr.phase = .run ∧
      s.flt.writeQueue = [] ∧ noneWaits s) ∧
    (∃ (len e m : Nat) (s : State), s.flt.freezeAt = some e ∧ s.flt.survivor = some m ∧ m < 4 ∧ s.pwr.phase = .run ∧
      s.flt.writeQueue = [] ∧ noneWaits s) ∧
    (∃ (pass : Bool) (s : State), s.running = true ∧ (s.get F.FLT_MODE_MODE = 1 ∨ s.get F.FLT_MODE_MODE = 2) ∧ s.frozen = false
      ∧ s.flt.lastMark < s.thy.boundary / 100000 * 100000) ∧
    (∃ (e : Nat) (s : State), s.flt.sliceAt = some e ∧ noneWaits s) ∧
    (∃ (e : Nat) (s : State), s.flt.sliceAt = some e ∧ noneWaits s) ∧
    (∃ (s : State), s.running = true ∧ s.frozen = false ∧ s.get F.FLT_MODE_MODE ≠ 3 ∧ noneWaits s) ∧
    (∃ (s : State), s.cdieRuns = true ∧ s.get F.FLT_MODE_MODE ≠ 3 ∧ noneWaits s) ∧
    (∃ (e : Nat) (s : State), s.flt.degradedFrom = some e ∧ s.running = true ∧ (s.get F.FLT_MODE_MODE = 1 ∨ s.get
      F.FLT_MODE_MODE = 2) ∧ s.flt.savedLeft ≠ 0) ∧
    (∃ (e : Nat) (s : State), s.flt.degradedFrom = some e ∧ s.running = true ∧ (s.get F.FLT_MODE_MODE = 1 ∨ s.get
      F.FLT_MODE_MODE = 2) ∧ s.flt.savedLeft ≠ 0) :=
  ⟨⟨true, false, 0, run, by decide +kernel⟩,
   ⟨true, true, 7, run, by decide +kernel⟩,
   ⟨true, false, 5, 7, frozen 5 none, by decide +kernel⟩,
   ⟨true, true, 5, 0, frozen 5 none, by decide +kernel⟩,
   ⟨5, frozen 5 none, by decide +kernel⟩,
   ⟨180, 5, 3, frozen 5 (some 3), by decide +kernel⟩,
   ⟨150, 5, 0, frozen 5 (some 0), by decide +kernel⟩,
   ⟨true, degraded, by decide +kernel⟩,
   ⟨16, slicing 16, by decide +kernel⟩,
   ⟨16, slicing 16, by decide +kernel⟩,
   ⟨run, by decide +kernel⟩,
   ⟨run, by decide +kernel⟩,
   ⟨5, degraded, by decide +kernel⟩,
   ⟨5, degraded, by decide +kernel⟩⟩

theorem test_meets_LeasesOfIslandOne :
    (∃ (j party : Nat) (s : State), s.shaped ∧ j < 8 ∧ party < 8) ∧
    (∃ (j party : Nat) (s : State), s.shaped ∧ j < 8 ∧ party < 8) ∧
    (∃ (j party : Nat) (s : State), s.shaped ∧ j < 8 ∧ s.leaseHolder j = party ∧ s.leaseState j = 1 ∧ (1 ≤ j → j ≤ 3 →
      s.flt.waitOrder = [])) ∧
    (∃ (j : Nat) (s : State), j < 8 ∧ s.leaseState j = 1 ∧ (1 ≤ j → j ≤ 3 → s.flt.waitOrder = [] ∧ s.links.spi.formed = none)) ∧
    (∃ (l : List Bool) (h : Option Bool) (c : SageCopy) (p : Nat) (x : JournalEntry) (s : State), s.flt.recovering = some p ∧
      s.frozen = false ∧ (s.lease 0).queue = [] ∧ s.journal = [x] ∧ x.party = p ∧ p ≤ 3) ∧
    (∃ (header : Option Bool) (party : Nat) (s : State), s.flt.recovering = some party ∧ s.flt.freezeAt = none ∧ (s.lease
      0).queue = []) :=
  ⟨⟨7, 7, run, by decide +kernel⟩,
   ⟨0, 0, leased 0 1, by decide +kernel⟩,
   ⟨7, 3, leased 7 3, by decide +kernel⟩,
   ⟨7, leased 7 3, by decide +kernel⟩,
   ⟨[true], some true, copy, 3, ⟨3, [.word 5 7]⟩, { run with flt := { recovering := some 3 }, journal := [⟨3, [.word 5 7]⟩] },
     by decide +kernel⟩,
   ⟨some true, 3, { run with flt := { recovering := some 3 } }, by decide +kernel⟩⟩

theorem test_meets_RosemaryRecords :
    (∃ (e : Event) (rest : List Event) (s : State), stagingFree s ∧ s.rsm.inbox = e :: rest ∧ (unlimited e = true ∨ s.rateOf
      (codeOfEvent e.page e.low) = none) ∧ s.stagingRoom e = true ∧ s.on F.RSM_PSTAT_FULL = false ∧ bytesOfRecords s.rsm.stored
      + bytesOfRecords s.rsm.staged + 4 * (5 + (e.words.take 59).length) + keptFree ≤ recordArea ∧ s.get F.RSM_HEAD_SEQ + 1 <
      4294967296) ∧
    (∃ (e : Event) (rest : List Event) (n w : Nat) (s : State), stagingFree s ∧ s.rsm.inbox = e :: rest ∧ unlimited e = false ∧
      s.rateOf (codeOfEvent e.page e.low) = some (n, w) ∧ (s.bucketOf e n w).tokens = 0) ∧
    (∃ (e : Event) (rest : List Event) (s : State), stagingFree s ∧ s.rsm.inbox = e :: rest ∧ s.rateOf (codeOfEvent e.page
      e.low) = none ∧ s.stagingRoom e = false) ∧
    (∃ (e : Event) (rest : List Event) (s : State), s.shaped ∧ s.rsm.inbox = e :: rest ∧ s.leaseState 7 ≠ 0 ∧ s.leaseHolder 7 ≠
      4) ∧
    (∃ (s : State), s.cdieRuns = true) ∧
    (∃ (s : State), s.rsm.flushDue = true ∧ s.rsm.flushing = false ∧ s.leaseState 0 = 0) ∧
    (∃ (s : State), s.shaped ∧ s.rsm.flushDue = true ∧ s.rsm.flushing = false ∧ s.leaseState 0 ≠ 0 ∧ s.leaseHolder 0 ≠ 4) ∧
    (∃ (s : State), s.rsm.flushing = true ∧ s.portOpen 4 = true ∧ s.rsm.dropped = 0 ∧ s.rsm.clearDue = false) ∧
    (∃ (s : State), s.rsm.flushing = true ∧ s.portOpen 4 = true ∧ s.rsm.dropped ≠ 0 ∧ s.rsm.clearDue = false ∧ stagingFree s ∧
      s.on F.RSM_PSTAT_FULL = false ∧ (∀ r ∈ s.rsm.staged, flushes s r = true) ∧ bytesOfRecords s.rsm.stored + bytesOfRecords
      s.rsm.staged + 400 ≤ recordArea) ∧
    (∃ (s : State), s.rsm.flushing = true ∧ s.portOpen 4 = true ∧ s.rsm.dropped = 0 ∧ s.rsm.clearDue = true) ∧
    (∃ (b : Bucket) (s : State), firstToClose s.rsm.buckets = some b) :=
  ⟨⟨event (.flag 3) 3, [], inbox [event (.flag 3) 3], by decide +kernel⟩,
   ⟨event (.flag 3) 1, [], 4, 9000000,
     { sets (inbox [event (.flag 3) 1]) [(F.RSM_RATE_N, 4), (F.RSM_RATE_W, 9)] with rsm := { inbox := [event (.flag 3) 1], buckets := [⟨0x10, .flag 3, 5, 6, 0, 0, 8⟩] } },
     by decide +kernel⟩,
   ⟨event (.flag 3) 1, [], sets
     { run with rsm := { inbox := [event (.flag 3) 1], staged := List.replicate 300 ⟨5, 1, 2, .flag 4, List.replicate 60 0⟩ } }
     [(F.RSM_RLIM_CODE, codeOfEvent 0x10 (.flag 3)), (F.RSM_RLIM_N, 0)], by decide +kernel⟩,
   ⟨event (.flag 3) 3, [], { leased 7 1 with rsm := { inbox := [event (.flag 3) 3] } }, by decide +kernel⟩,
   ⟨run, by decide +kernel⟩,
   ⟨{ run with rsm := { flushDue := true } }, by decide +kernel⟩,
   ⟨{ leased 0 1 with rsm := { flushDue := true } }, by decide +kernel⟩,
   ⟨{ run with rsm := { flushing := true, staged := [⟨5, 1, 2, .flag 4, []⟩] } }, by decide +kernel⟩,
   ⟨{ run with rsm := { flushing := true, dropped := 3 } }, by decide +kernel⟩,
   ⟨{ run with rsm := { flushing := true, clearDue := true } }, by decide +kernel⟩,
   ⟨⟨3, .flag 3, 5, 6, 2, 2, 96⟩,
     { run with rsm := { buckets := [⟨3, .flag 4, 50, 6, 2, 2, 96⟩, ⟨3, .flag 3, 5, 6, 2, 2, 96⟩] } }, by decide +kernel⟩⟩

theorem test_meets_SnapshotsAndLedger :
    (∃ (l : Link) (s : State), s.takes l ∧ s.unlocked l = true ∧ s.anySnap = false ∧ s.rsm.flushing = false ∧ s.portOpen 4 =
      true ∧ s.get F.RSM_HEAD_SEQ + 1 < 4294967296) ∧
    (∃ (l : Link) (s : State), s.takes l ∧ s.unlocked l = true ∧ s.anySnap = false ∧ (s.rsm.flushing = true ∨ s.portOpen 4 =
      false)) ∧
    (∃ (l : Link) (key : Word) (s : State), s.takes l ∧ (key ≠ 0xC1EA2D ∨ s.unlocked l = false ∨ s.anySnap = true)) ∧
    (∃ (l : Link) (key : Word) (s : State), s.takes l ∧ (key ≠ 0xC1EA2D ∨ s.unlocked l = false ∨ s.anySnap = true)) ∧
    (∃ (l : Link) (hold : Bool) (s : State), s.takes l) ∧
    (∃ (l : Link) (hold : Bool) (s : State), s.takes l) ∧
    (∃ (l : Link) (n e : Nat) (s : State), (s.link l).sel.snap = some (n, e)) ∧
    (∃ (l : Link) (v : Word) (s : State), s.takes l) ∧
    (∃ (l : Link) (v : Word) (s : State), s.takes l) ∧
    (∃ (c : CycleEnd) (rest : List CycleEnd) (s : State), s.portOpen 4 = true ∧ s.cyl.buffer = c :: rest ∧ c.axis < 6 ∧ s.get
      F.CYL_STAT_UNACK < 65536 ∧ s.get F.CYL_NEWEST_SEQ + 1 < 4294967296 ∧ s.get (F.CYL_AXCNT_COUNT.at c.axis) < 4294967295 ∧
      stagingFree s) ∧
    (∃ (c : CycleEnd) (rest : List CycleEnd) (s : State), s.shaped ∧ s.cyl.buffer = c :: rest ∧ s.leaseState 0 ≠ 0 ∧
      s.leaseHolder 0 ≠ 4) ∧
    (∃ (c : CycleEnd) (rest : List CycleEnd) (s : State), s.portOpen 4 = true ∧ s.cyl.buffer = c :: rest ∧ c.axis < 6 ∧ 65536 ≤
      s.get F.CYL_STAT_UNACK ∧ stagingFree s) ∧
    (∃ (l : Link) (v : Word) (s : State), s.takes l ∧ s.get F.CYL_ACKED_SEQ ≤ v.toNat ∧ v.toNat ≤ s.get F.CYL_NEWEST_SEQ ∧ s.get
      F.CYL_NEWEST_SEQ - v.toNat < 131072) ∧
    (∃ (l : Link) (v : Word) (s : State), s.takes l ∧ (v.toNat < s.get F.CYL_ACKED_SEQ ∨ s.get F.CYL_NEWEST_SEQ < v.toNat)) ∧
    (∃ (l : Link) (v : Word) (s : State), s.takes l ∧ (v.toNat < s.get F.CYL_ACKED_SEQ ∨ s.get F.CYL_NEWEST_SEQ < v.toNat)) :=
  ⟨⟨.spi, unlocked, by decide +kernel⟩,
   ⟨.spi, { unlocked with rsm := { flushing := true } }, by decide +kernel⟩,
   ⟨.spi, 1, unlocked, by decide +kernel⟩,
   ⟨.spi, 0xC1EA2D, run, by decide +kernel⟩,
   ⟨.spi, true, run, by decide +kernel⟩,
   ⟨.spi, false, run, by decide +kernel⟩,
   ⟨.spi, 3, 5, run.onSel .spi fun k => { k with snap := some (3, 5) }, by decide +kernel⟩,
   ⟨.spi, 6, run, by decide +kernel⟩,
   ⟨.spi, 6, run, by decide +kernel⟩,
   ⟨cycleDone, [], { run with cyl := { buffer := [cycleDone] } }, by decide +kernel⟩,
   ⟨cycleDone, [], { leased 0 1 with cyl := { buffer := [cycleDone] } }, by decide +kernel⟩,
   ⟨cycleDone, [], { run.set F.CYL_STAT_UNACK 65536 with cyl := { buffer := [cycleDone] } }, by decide +kernel⟩,
   ⟨.spi, 6, sets run [(F.CYL_NEWEST_SEQ, 6), (F.CYL_ACKED_SEQ, 6)], by decide +kernel⟩,
   ⟨.spi, 7, sets run [(F.CYL_NEWEST_SEQ, 6), (F.CYL_ACKED_SEQ, 6)], by decide +kernel⟩,
   ⟨.spi, 5, sets run [(F.CYL_NEWEST_SEQ, 6), (F.CYL_ACKED_SEQ, 6)], by decide +kernel⟩⟩

theorem test_meets_BayMetering :
    (∃ (n : Nat) (ui uv : Int) (s : State), s.hasB = true ∧ s.running = true ∧ pairDue n s ∧ notKept n s ∧ s.now ≤ gridInstant n
      + 16000) ∧
    (∃ (n : Nat) (ui uv : Int) (s : State), s.hasB = true ∧ s.running = true ∧ s.bay.base + 3200 ≤ n ∧ (∀ q ∈ s.bay.early,
      q.index ≠ n) ∧ notKept n s ∧ s.now ≤ gridInstant n + 16000) ∧
    (∃ (n : Nat) (s : State), s.hasB = true ∧ s.running = true ∧ pairDue n s ∧ (∀ m < n, s.bay.base ≤ m → m ∈ s.bay.seen)) ∧
    (∃ (s : State), s.hasB = true ∧ s.running = true ∧ 3200 ≤ s.bay.pairs ∧ s.bay.toSet = [] ∧ s.bay.early = []) ∧
    (∃ (p : Nat) (v : Word) (s : State), s.hasB = true ∧ s.running = true ∧ 3200 ≤ s.bay.pairs ∧ p < 5 ∧ s.bay.toSet = [(p, v)]) ∧
    (∃ (s : State), s.bayUp = true) ∧
    (∃ (closed : Bool) (s : State), s.bayUp = true ∧ s.on F.BAY_SESS_ACTIVE = !closed) ∧
    (∃ (closed : Bool) (s : State), s.bayUp = true ∧ s.on F.BAY_SESS_ACTIVE = !closed) ∧
    (∃ (n : Nat) (ui uv u0 v0 : Int) (s : State), s.hasB = true ∧ s.running = true ∧ s.bay.kept.find? (fun p => p.index == n) =
      some { index := n, ui := u0, uv := v0 }) :=
  ⟨⟨3199, 5, (-100), run, by decide +kernel⟩,
   ⟨3200, 5, (-100), run, by decide +kernel⟩,
   ⟨0, run, by decide +kernel⟩,
   ⟨interval, by decide +kernel⟩,
   ⟨4, 6, interval.onBay fun b => { b with toSet := [(4, 6)] }, by decide +kernel⟩,
   ⟨sets run [(F.PWR_BOOT_STEP, 5)], by decide +kernel⟩,
   ⟨true, sets run [(F.PWR_BOOT_STEP, 5)], by decide +kernel⟩,
   ⟨false, sets run [(F.PWR_BOOT_STEP, 5), (F.BAY_SESS_ACTIVE, 1)], by decide +kernel⟩,
   ⟨9, 5, (-100), 1, 2, { run with bay := { kept := [⟨9, 1, 2, false⟩] } }, by decide +kernel⟩⟩

theorem test_meets_BayMailboxTurnedAway :
    (∃ (m : List Word) (s : State), s.hasB = true ∧ s.running = true ∧ mailboxCode m s ≠ 1) ∧
    (∃ (e : Nat) (s : State), s.bay.lockedUntil = some e) :=
  ⟨⟨[], run, by decide +kernel⟩,
   ⟨5, { run with bay := { lockedUntil := some 5 } }, by decide +kernel⟩⟩

theorem test_meets_BayMailboxAccepted :
    (∃ (a b c d : Word) (s : State), s.hasB = true ∧ s.running = true ∧ s.bay.lockedUntil = none ∧ s.on F.BAY_STAT_SEALED = true
      ∧ s.get F.BAY_LOGSTAT_USED < 1016) ∧
    (∃ (p : Byte) (v b c d : Word) (s : State), s.hasB = true ∧ s.running = true ∧ s.bay.lockedUntil = none ∧ s.on
      F.BAY_STAT_SEALED = false ∧ s.get F.BAY_LOGSTAT_USED < 1016 ∧ s.bay.toSet = [] ∧ paramInRange p.toNat v = true) ∧
    (∃ (code sid c d : Word) (s : State), s.hasB = true ∧ s.running = true ∧ s.bay.lockedUntil = none ∧ s.on F.BAY_STAT_SEALED =
      false ∧ s.get F.BAY_LOGSTAT_USED < 1024) ∧
    (∃ (a b c d : Word) (s : State), s.hasB = true ∧ s.running = true ∧ s.bay.lockedUntil = none ∧ s.on F.BAY_STAT_SEALED =
      false ∧ s.get F.BAY_LOGSTAT_USED < 1016) ∧
    (∃ (a b c d : Word) (l : List Word) (s : State), s.hasB = true ∧ s.running = true ∧ s.bay.lockedUntil = none ∧ s.on
      F.BAY_STAT_SEALED = false ∧ s.get F.BAY_LOGSTAT_USED < 1016 ∧ s.bay.staging = some l) ∧
    (∃ (a b c d version : Word) (l : List Word) (s : State), s.hasB = true ∧ s.running = true ∧ s.bay.lockedUntil = none ∧ s.on
      F.BAY_STAT_SEALED = false ∧ s.get F.BAY_LOGSTAT_USED < 1016 ∧ s.bay.staging = some l) :=
  ⟨⟨5, 0, 0, 0, bay 1 1015, by decide +kernel⟩,
   ⟨0, 5000, 0, 0, 0, bay 0 1015, by decide +kernel⟩,
   ⟨5, 7, 0, 0, bay 0 1023, by decide +kernel⟩,
   ⟨0, 0, 0, 0, bay 0 1015, by decide +kernel⟩,
   ⟨1, 2, 3, 4, [], (bay 0 1015).onBay fun b => { b with staging := some [] }, by decide +kernel⟩,
   ⟨1, 2, 3, 4, 5, [], (bay 0 1015).onBay fun b => { b with staging := some [] }, by decide +kernel⟩⟩

theorem test_meets_AxisCommands :
    (∃ (l : Link) (a : Nat) (s : State), s.takes l ∧ s.shaped ∧ s.hasM = true ∧ a < 6 ∧ s.axBlocked a = false ∧ s.groupOf a = 0
      ∧ s.moveRefused a (s.getInt (F.AX_TARGET_POS.on a)) = false ∧ (s.axis a).cycle = none ∧ s.startDeferred a 1 = false) ∧
    (∃ (l : Link) (a : Nat) (s : State), s.takes l ∧ s.shaped ∧ s.hasM = true ∧ a < 6 ∧ s.axBlocked a = false ∧ s.groupOf a = 0
      ∧ s.moveRefused a (s.getInt (F.AX_TARGET_POS.on a)) = false ∧ (s.axis a).cycle = none ∧ s.startDeferred a 1 = true) ∧
    (∃ (l : Link) (a : Nat) (c : Cycle) (s : State), s.takes l ∧ s.shaped ∧ s.hasM = true ∧ a < 6 ∧ s.axBlocked a = false ∧
      s.groupOf a = 0 ∧ s.moveRefused a (s.getInt (F.AX_TARGET_POS.on a)) = false ∧ s.axState a = 2 ∧ (s.axis a).cycle = some c) ∧
    (∃ (l : Link) (a : Nat) (s : State), s.takes l ∧ s.hasM = true ∧ a < 6 ∧ (s.enabled (0x41 + a) = false ∨ s.on
      F.PWR_STAT_VM_OK = false ∨ s.axState a = 5 ∨ s.axState a = 6 ∨ s.gdState a ≠ 2 ∨ s.groupOf a ≠ 0 ∨ s.homed a = false ∨
      s.getInt (F.AX_TARGET_POS.on a) < s.getInt (F.AX_SOFTLO_POS.on a) ∨ s.getInt (F.AX_SOFTHI_POS.on a) < s.getInt
      (F.AX_TARGET_POS.on a) ∨ (s.getInt (F.AX_TARGET_POS.on a) ≠ s.standsAt a ∧ (s.edgeGuards a (decide (s.standsAt a <
      s.getInt (F.AX_TARGET_POS.on a))) = true ∨ s.limitGuards a (decide (s.standsAt a < s.getInt (F.AX_TARGET_POS.on a))) =
      true)))) ∧
    (∃ (l : Link) (a : Nat) (s : State), s.takes l ∧ s.shaped ∧ s.hasM = true ∧ a < 6 ∧ s.axBlocked a = false ∧ (s.get
      (F.AX_HOME_METHOD.on a) = 3 → s.hasEnc a = true) ∧ (s.get (F.AX_HOME_METHOD.on a) ≠ 5 → s.edgeGuards a (homePositive
      (s.get (F.AX_HOME_METHOD.on a))) = false ∧ s.limitGuards a (homePositive (s.get (F.AX_HOME_METHOD.on a))) = false) ∧
      (s.axis a).cycle = none ∧ s.startDeferred a 2 = false) ∧
    (∃ (l : Link) (a : Nat) (s : State), s.takes l ∧ s.hasM = true ∧ a < 6 ∧ (s.enabled (0x41 + a) = false ∨ s.on
      F.PWR_STAT_VM_OK = false ∨ s.axState a = 5 ∨ s.axState a = 6 ∨ s.gdState a ≠ 2 ∨ (s.get (F.AX_HOME_METHOD.on a) = 3 ∧
      s.hasEnc a = false) ∨ (s.get (F.AX_HOME_METHOD.on a) ≠ 5 ∧ (s.edgeGuards a (homePositive (s.get (F.AX_HOME_METHOD.on a)))
      = true ∨ s.limitGuards a (homePositive (s.get (F.AX_HOME_METHOD.on a))) = true)))) ∧
    (∃ (l : Link) (a : Nat) (c : Cycle) (s : State), s.takes l ∧ s.shaped ∧ s.hasM = true ∧ a < 6 ∧ (s.axis a).cycle = some c ∧
      c.kind ≠ 3 ∧ c.stop = none) ∧
    (∃ (l : Link) (a : Nat) (c : Cycle) (s : State), s.takes l ∧ s.shaped ∧ s.hasM = true ∧ a < 6 ∧ (s.axis a).cycle = some c ∧
      c.kind ≠ 3 ∧ c.stop = none) ∧
    (∃ (l : Link) (a : Nat) (p : PendingStart) (s : State), s.takes l ∧ s.shaped ∧ s.hasM = true ∧ a < 6 ∧ (s.axis a).cycle =
      none ∧ (s.axis a).pending = some p ∧ p.kind ≠ 3) ∧
    (∃ (l : Link) (a : Nat) (s : State), s.takes l ∧ s.hasM = true ∧ a < 6 ∧ (s.axis a).cycle = none ∧ (s.axis a).pending =
      none) ∧
    (∃ (l : Link) (a : Nat) (s : State), s.takes l ∧ s.hasM = true ∧ a < 6 ∧ s.axState a = 5 ∧ s.causePersists a = false) ∧
    (∃ (l : Link) (a : Nat) (s : State), s.takes l ∧ s.hasM = true ∧ a < 6 ∧ (s.on F.SAF_STAT_SAFESTOP = true ∨ (s.axState a = 5
      ∧ (s.gdState a ≠ 2 ∨ s.on F.PWR_STAT_VM_OK = false ∨ s.get F.TMP_LATCH_LATCHED ≠ 0 ∨ (s.axis a).encFault = true ∨ ((s.axis
      a).cause = some 6 ∧ (s.edgeGuards a true = true ∨ s.edgeGuards a false = true)) ∨ ((s.axis a).cause = some 8 ∧ s.hasEnc a
      = true ∧ s.get (F.AX_FERR_UNITS.on a) < (s.getInt (F.AX_FERRNOW_VAL.on a)).natAbs) ∨ ((s.axis a).cause = some 10 ∧
      (s.limitGuards a true = true ∨ s.limitGuards a false = true)))))) ∧
    (∃ (l : Link) (a : Nat) (c : Cycle) (s : State), s.takes l ∧ s.shaped ∧ s.hasM = true ∧ a < 6 ∧ s.axBlocked a = false ∧
      s.get (F.AX_HOME_METHOD.on a) = 5 ∧ (s.axis a).cycle = some c ∧ c.kind ≠ 2) :=
  ⟨⟨.spi, 5, ready 5, by decide +kernel⟩,
   ⟨.spi, 5, { ready 5 with commit := { accepted := some ⟨[0x4E], [], [], 5, 0, 4, none⟩ } }, by decide +kernel⟩,
   ⟨.spi, 5, cyc 1, (moving 5 (cyc 1)).setAxState 5 2, by decide +kernel⟩,
   ⟨.spi, 5, run, by decide +kernel⟩,
   ⟨.spi, 5, ready 5, by decide +kernel⟩,
   ⟨.spi, 5, run, by decide +kernel⟩,
   ⟨.spi, 5, cyc 1, moving 5 (cyc 1), by decide +kernel⟩,
   ⟨.spi, 5, cyc 2, moving 5 (cyc 2), by decide +kernel⟩,
   ⟨.spi, 5, ⟨2, 1, 5⟩, starting 5 2 1, by decide +kernel⟩,
   ⟨.spi, 5, ready 5, by decide +kernel⟩,
   ⟨.spi, 5, ((ready 5).setAxState 5 5).set F.SAF_STAT_SAFESTOP 0, by decide +kernel⟩,
   ⟨.spi, 5, ((ready 5).setAxState 5 5).set F.SAF_STAT_SAFESTOP 1, by decide +kernel⟩,
   ⟨.spi, 5, cyc 1, (moving 5 (cyc 1)).set (F.AX_HOME_METHOD.on 5) 5, by decide +kernel⟩⟩

theorem test_meets_AxisGroups :
    (∃ (l : Link) (g a : Nat) (s : State), s.takes l ∧ s.shaped ∧ s.hasM = true ∧ 1 ≤ g ∧ g < 4 ∧ s.enabled 0x40 = true ∧ a ∈
      s.members g ∧ (s.members g).all (fun m => !s.axBlocked m && s.axState m == 0 && (s.axis m).cycle.isNone && (s.getInt
      (F.AX_TARGET_POS.on m) == s.standsAt m || !s.targetRefused m (s.getInt (F.AX_TARGET_POS.on m)))) = true ∧ s.startDeferred
      a 3 = false) ∧
    (∃ (l : Link) (g : Nat) (s : State), s.takes l ∧ s.hasM = true ∧ g < 4 ∧ (g = 0 ∨ s.members g = [] ∨ s.enabled 0x40 = false
      ∨ ((s.members g).any fun m => s.axState m != 0 || !s.on F.PWR_STAT_VM_OK || (s.getInt (F.AX_TARGET_POS.on m) != s.standsAt
      m && s.targetRefused m (s.getInt (F.AX_TARGET_POS.on m)))) = true)) ∧
    (∃ (l : Link) (g : Nat) (s : State), s.takes l ∧ s.hasM = true ∧ g < 4 ∧ (g = 0 ∨ s.members g = [] ∨ s.enabled 0x40 = false
      ∨ ((s.members g).any fun m => s.axState m != 0 || !s.on F.PWR_STAT_VM_OK || (s.getInt (F.AX_TARGET_POS.on m) != s.standsAt
      m && s.targetRefused m (s.getInt (F.AX_TARGET_POS.on m)))) = true)) ∧
    (∃ (l : Link) (g a : Nat) (c : Cycle) (s : State), s.takes l ∧ s.shaped ∧ s.hasM = true ∧ 1 ≤ g ∧ g < 4 ∧ a < 6 ∧ s.groupOf
      a = g ∧ (s.axis a).cycle = some c ∧ c.stop = none) ∧
    (∃ (l : Link) (s : State), s.takes l ∧ s.hasM = true) ∧
    (∃ (l : Link) (a : Nat) (c : Cycle) (s : State), s.takes l ∧ s.shaped ∧ s.hasM = true ∧ a < 6 ∧ (s.axis a).cycle = some c ∧
      c.stop = none) ∧
    (∃ (a m e : Nat) (d x : Int) (s : State), s.running = true ∧ s.coresHeld = false ∧ s.shaped ∧ a < 6 ∧ (s.axis a).cycle =
      none ∧ (s.axis a).pending = some ⟨3, e, x⟩ ∧ (s.groupDistances (s.groupOf a)).any (fun y => (s.advanceTo ((e / 250 + 3) *
      250)).startWaits y.1) = false ∧ (m, d) ∈ s.groupDistances (s.groupOf a)) :=
  ⟨⟨.spi, 1, 5, grouped, by decide +kernel⟩,
   ⟨.spi, 0, run, by decide +kernel⟩,
   ⟨.spi, 3, run, by decide +kernel⟩,
   ⟨.spi, 1, 5, cyc 3, grouped.onAxis 5 fun x => { x with cycle := some (cyc 3) }, by decide +kernel⟩,
   ⟨.spi, run, by decide +kernel⟩,
   ⟨.spi, 5, cyc 1, moving 5 (cyc 1), by decide +kernel⟩,
   ⟨5, 0, 4, 7, 5, (([(0, 7), (2, 0), (5, 5)] : List (Nat × Int)).foldl (fun (s : State) e => s.onAxis e.1 fun x =>
     { x with pending := some ⟨3, 4, e.2⟩ }) grouped), by decide +kernel⟩⟩

theorem test_meets_MotionCycles :
    (∃ (a e : Nat) (target : Int) (s : State), s.running = true ∧ s.coresHeld = false ∧ s.shaped ∧ a < 6 ∧ (s.axis a).cycle =
      none ∧ (s.axis a).pending = some ⟨1, e, target⟩ ∧ (s.advanceTo ((e / 250 + 3) * 250)).startWaits a = false) ∧
    (∃ (a : Nat) (p : PendingStart) (s : State), s.running = true ∧ a < 6 ∧ (s.axis a).cycle = none ∧ (s.axis a).pending = some
      p ∧ p.kind ≠ 3 ∧ (s.advanceTo ((p.time / 250 + 3) * 250)).startWaits a = true ∧ s.coresHeld = false) ∧
    (∃ (a e : Nat) (target : Int) (s : State), s.running = true ∧ s.coresHeld = false ∧ s.shaped ∧ a < 6 ∧ (s.axis a).cycle =
      none ∧ (s.axis a).pending = some ⟨2, e, target⟩ ∧ (s.advanceTo ((e / 250 + 3) * 250)).startWaits a = false) ∧
    (∃ (a : Nat) (c : Cycle) (s : State), s.shaped ∧ a < 6 ∧ (s.axis a).cycle = some c ∧ c.landed = true ∧ (c.stop ≠ none ∨
      ((c.kind = 2 → c.phase = 4) ∧ (s.hasEnc a = true → 4 ≤ c.settle)))) ∧
    (∃ (xs : List AxisSample) (a : Nat) (c : Cycle) (p q : Setpoint) (s : State), s.running = true ∧ s.hasM = true ∧ s.shaped ∧
      a < 6 ∧ (s.axis a).cycle = some c ∧ c.kind = 1 ∧ c.stop = none ∧ (s.axis a).queue = [p, q] ∧ a ∉ s.gate.unheld) ∧
    (∃ (xs : List AxisSample) (s : State), s.running = true ∧ s.hasM = true) ∧
    (∃ (a : Nat) (c : Cycle) (s : State), s.shaped ∧ s.hasM = true ∧ a < 6 ∧ (s.axis a).cycle = some c ∧ c.kind ≠ 3 ∧ c.stop =
      none) ∧
    (∃ (a e : Nat) (s : State), s.shaped ∧ a < 6 ∧ (s.axis a).endedAt = some e ∧ (s.axis a).cycle = none ∧ (s.axis a).pending =
      none) ∧
    (∃ (a b v : Nat) (c : Cycle) (s : State), s.shaped ∧ a < 6 ∧ (s.axis a).cycle = some
      { c with landed := true, stop := none, peaks := [(b, v)] } ∧ c.kind ≠ 2 ∧ (s.hasEnc a = true → 4 ≤ c.settle) ∧ s.on
      (F.AX_ENV_EN.on a) = true ∧ b < (s.axis a).env.length) ∧
    (∃ (xs : List AxisSample) (a : Nat) (c : Cycle) (p q : Setpoint) (s : State), s.running = true ∧ s.hasM = true ∧ s.shaped ∧
      a < 6 ∧ (s.axis a).cycle = some c ∧ c.kind = 1 ∧ c.stop = none ∧ (s.axis a).queue = [p, q] ∧ a ∈ s.gate.unheld) ∧
    (∃ (xs : List AxisSample) (a : Nat) (c : Cycle) (s : State), s.running = true ∧ s.hasM = true ∧ s.shaped ∧ a < 6 ∧ (s.axis
      a).cycle = some c ∧ c.kind = 1 ∧ c.stop = none ∧ (s.axis a).queue = [] ∧ c.landed = false) :=
  ⟨⟨5, 0, 5, starting 5 1 0, by decide +kernel⟩,
   ⟨5, ⟨2, 0, 5⟩, (starting 5 2 0).set (F.AX_CFG_BRK.on 5) 1, by decide +kernel⟩,
   ⟨5, 0, 5, starting 5 2 0, by decide +kernel⟩,
   ⟨5, { cyc 1 with stop := some 2, landed := true }, moving 5 { cyc 1 with stop := some 2, landed := true }, by decide +kernel⟩,
   ⟨[], 5, cyc 1, { pos := 6 }, { pos := 7 }, queued 5 (cyc 1) [{ pos := 6 }, { pos := 7 }], by decide +kernel⟩,
   ⟨[], run, by decide +kernel⟩,
   ⟨5, cyc 1, moving 5 (cyc 1), by decide +kernel⟩,
   ⟨5, 1, (ready 5).onAxis 5 fun x => { x with endedAt := some 1 }, by decide +kernel⟩,
   ⟨5, 31, 255, { cyc 1 with landed := true, peaks := [(31, 255)] }, (moving 5
     { cyc 1 with landed := true, peaks := [(31, 255)] }).set (F.AX_ENV_EN.on 5) 1, by decide +kernel⟩,
   ⟨[], 5, cyc 1, { pos := 6 }, { pos := 7 }, (queued 5 (cyc 1) [{ pos := 6 }, { pos := 7 }]).onGate fun g =>
     { g with unheld := [5] }, by decide +kernel⟩,
   ⟨[], 5, cyc 1, queued 5 (cyc 1) [], by decide +kernel⟩⟩

theorem test_meets_HomingAndStops :
    (∃ (a : Nat) (c : Cycle) (s : State), s.shaped ∧ a < 6 ∧ (s.axis a).cycle = some c ∧ c.kind = 2 ∧ c.stop = none ∧ (c.phase =
      3 ∨ (c.phase = 2 ∧ s.get (F.AX_HOME_METHOD.on a) ≠ 3))) ∧
    (∃ (a : Nat) (c : Cycle) (s : State), s.shaped ∧ a < 6 ∧ (s.axis a).cycle = some c ∧ c.kind = 2 ∧ c.stop = none ∧ c.phase =
      2 ∧ s.get (F.AX_HOME_METHOD.on a) = 3) ∧
    (∃ (a : Nat) (c : Cycle) (s : State), s.shaped ∧ a < 6 ∧ (s.axis a).cycle = some c ∧ c.kind = 2 ∧ c.stop = none ∧ c.phase <
      4) ∧
    (∃ (a : Nat) (c : Cycle) (s : State), s.shaped ∧ a < 6 ∧ (s.axis a).cycle = some c ∧ s.get (F.AX_STALL_CONF.on a) ≤ (s.axis
      a).stallN ∧ c.kind = 1 ∧ c.stop = none) ∧
    (∃ (a : Nat) (c : Cycle) (s : State), s.shaped ∧ a < 6 ∧ (s.axis a).cycle = some c ∧ s.get (F.AX_STALL_CONF.on a) ≤ (s.axis
      a).stallN ∧ c.kind = 2 ∧ c.stop = none ∧ s.get (F.AX_HOME_METHOD.on a) = 4) ∧
    (∃ (a : Nat) (c : Cycle) (s : State), s.shaped ∧ a < 6 ∧ (s.axis a).cycle = some c ∧ s.on (F.AX_ENV_EN.on a) = true ∧ s.get
      (F.AX_ENV_CONF.on a) ≤ (s.axis a).obstN ∧ c.kind ≠ 3 ∧ (c.stop.getD 10) > 7) ∧
    (∃ (a : Nat) (c : Cycle) (s : State), s.shaped ∧ a < 6 ∧ (s.axis a).cycle = some c ∧ s.on (F.AX_ENV_EN.on a) = true ∧ s.get
      (F.AX_ENV_CONF.on a) ≤ (s.axis a).obstN ∧ c.kind ≠ 3 ∧ (c.stop.getD 10) > 7) ∧
    (∃ (a : Nat) (c : Cycle) (s : State), s.shaped ∧ a < 6 ∧ (s.axis a).cycle = some c ∧ s.on (F.AX_ENV_EN.on a) = true ∧ s.get
      (F.AX_ENV_CONF.on a) ≤ (s.axis a).obstN ∧ (c.stop.getD 10) ≤ 7) ∧
    (∃ (e ohm a : Nat) (c : Cycle) (s : State), s.cdieRuns = true ∧ s.shaped ∧ s.hasM = true ∧ e < 2 ∧ (ohm < 500 ∨ (4000 ≤ ohm
      ∧ ohm ≤ 12000) ∨ 20000 < ohm) ∧ a < 6 ∧ s.edgeAxis e = a ∧ (s.axis a).cycle = some c ∧ c.kind ≠ 3 ∧ (c.stop.getD 10) > 6) ∧
    (∃ (e ohm a : Nat) (c : Cycle) (s : State), s.cdieRuns = true ∧ s.shaped ∧ s.hasM = true ∧ e < 2 ∧ (ohm < 500 ∨ (4000 ≤ ohm
      ∧ ohm ≤ 12000) ∨ 20000 < ohm) ∧ a < 6 ∧ s.edgeAxis e = a ∧ (s.axis a).cycle = some c ∧ c.kind ≠ 3 ∧ (c.stop.getD 10) > 6) ∧
    (∃ (e ohm a : Nat) (c : Cycle) (s : State), s.cdieRuns = true ∧ s.shaped ∧ s.hasM = true ∧ e < 2 ∧ (ohm < 500 ∨ (4000 ≤ ohm
      ∧ ohm ≤ 12000) ∨ 20000 < ohm) ∧ a < 6 ∧ s.edgeAxis e = a ∧ (s.axis a).cycle = some c ∧ c.kind ≠ 3 ∧ (c.stop.getD 10) > 6) ∧
    (∃ (e ohm a : Nat) (c : Cycle) (s : State), s.cdieRuns = true ∧ s.shaped ∧ s.hasM = true ∧ e < 2 ∧ (ohm < 500 ∨ (4000 ≤ ohm
      ∧ ohm ≤ 12000) ∨ 20000 < ohm) ∧ a < 6 ∧ s.edgeAxis e = a ∧ (s.axis a).cycle = some c ∧ c.kind ≠ 3 ∧ (c.stop.getD 10) > 6) ∧
    (∃ (e ohm a : Nat) (c : Cycle) (s : State), s.cdieRuns = true ∧ s.shaped ∧ s.hasM = true ∧ e < 2 ∧ (ohm < 500 ∨ (4000 ≤ ohm
      ∧ ohm ≤ 12000) ∨ 20000 < ohm) ∧ a < 6 ∧ s.edgeAxis e = a ∧ (s.axis a).cycle = some c ∧ c.kind ≠ 3 ∧ (c.stop.getD 10) > 6) ∧
    (∃ (e ohm a : Nat) (c : Cycle) (s : State), s.cdieRuns = true ∧ s.shaped ∧ s.hasM = true ∧ e < 2 ∧ (ohm < 500 ∨ (4000 ≤ ohm
      ∧ ohm ≤ 12000) ∨ 20000 < ohm) ∧ a < 6 ∧ s.edgeAxis e = a ∧ (s.axis a).cycle = some c ∧ c.kind ≠ 3 ∧ (c.stop.getD 10) > 6) ∧
    (∃ (e ohm : Nat) (s : State), s.cdieRuns = true ∧ e < 2 ∧ ((500 ≤ ohm ∧ ohm < 4000) ∨ (12000 < ohm ∧ ohm ≤ 20000)) ∧
      (s.saf.edgeGap.all fun g => g.1 != e) = true) ∧
    (∃ (e ohm : Nat) (s : State), s.cdieRuns = true ∧ e < 2 ∧ ((500 ≤ ohm ∧ ohm < 4000) ∨ (12000 < ohm ∧ ohm ≤ 20000)) ∧
      (s.saf.edgeGap.all fun g => g.1 != e) = true) ∧
    (∃ (e ohm : Nat) (s : State), s.cdieRuns = true ∧ e < 2 ∧ ((500 ≤ ohm ∧ ohm < 4000) ∨ (12000 < ohm ∧ ohm ≤ 20000)) ∧
      (s.saf.edgeGap.all fun g => g.1 != e) = true) ∧
    (∃ (e ohm : Nat) (s : State), s.cdieRuns = true ∧ e < 2 ∧ ((500 ≤ ohm ∧ ohm < 4000) ∨ (12000 < ohm ∧ ohm ≤ 20000)) ∧
      (s.saf.edgeGap.all fun g => g.1 != e) = true) ∧
    (∃ (e w : Nat) (s : State), s.shaped ∧ e < 2 ∧ (s.saf.edgeGap.find? fun g => g.1 == e) = some (e, w)) ∧
    (∃ (a : Nat) (c : Cycle) (s : State), s.shaped ∧ s.hasM = true ∧ a < 6 ∧ (s.axis a).cycle = some c ∧ c.kind = 1 ∧ c.stop =
      none) :=
  ⟨⟨5, { cyc 2 with phase := 3 }, moving 5 { cyc 2 with phase := 3 }, by decide +kernel⟩,
   ⟨5, { cyc 2 with phase := 2 }, (moving 5 { cyc 2 with phase := 2 }).set (F.AX_HOME_METHOD.on 5) 3, by decide +kernel⟩,
   ⟨5, { cyc 2 with phase := 3 }, moving 5 { cyc 2 with phase := 3 }, by decide +kernel⟩,
   ⟨5, cyc 1, moving 5 (cyc 1), by decide +kernel⟩,
   ⟨5, cyc 2, (moving 5 (cyc 2)).set (F.AX_HOME_METHOD.on 5) 4, by decide +kernel⟩,
   ⟨5, cyc 1, (moving 5 (cyc 1)).set (F.AX_ENV_EN.on 5) 1, by decide +kernel⟩,
   ⟨5, { cyc 2 with stop := some 8 }, (moving 5 { cyc 2 with stop := some 8 }).set (F.AX_ENV_EN.on 5) 1, by decide +kernel⟩,
   ⟨5, { cyc 1 with stop := some 7 }, (moving 5 { cyc 1 with stop := some 7 }).set (F.AX_ENV_EN.on 5) 1, by decide +kernel⟩,
   ⟨1, 0, 5, cyc 1, (moving 5 (cyc 1)).set F.MOT_ROLE_E1AX 5, by decide +kernel⟩,
   ⟨1, 499, 5, cyc 1, (moving 5 (cyc 1)).set F.MOT_ROLE_E1AX 5, by decide +kernel⟩,
   ⟨1, 4000, 5, cyc 1, (moving 5 (cyc 1)).set F.MOT_ROLE_E1AX 5, by decide +kernel⟩,
   ⟨1, 12000, 5, cyc 1, (moving 5 (cyc 1)).set F.MOT_ROLE_E1AX 5, by decide +kernel⟩,
   ⟨1, 20001, 5, cyc 1, (moving 5 (cyc 1)).set F.MOT_ROLE_E1AX 5, by decide +kernel⟩,
   ⟨0, 0, 5, { cyc 1 with stop := some 7 }, (moving 5 { cyc 1 with stop := some 7 }).set F.MOT_ROLE_E0AX 5, by decide +kernel⟩,
   ⟨1, 500, run, by decide +kernel⟩,
   ⟨1, 3999, run, by decide +kernel⟩,
   ⟨0, 12001, run, by decide +kernel⟩,
   ⟨0, 20000, run, by decide +kernel⟩,
   ⟨1, 7, run.onSaf fun x => { x with edgeGap := [(1, 7)] }, by decide +kernel⟩,
   ⟨5, cyc 1, moving 5 (cyc 1), by decide +kernel⟩⟩

theorem test_meets_GateCommands :
    (∃ (a sent : Nat) (s : State), s.hasM = true ∧ s.gdieDown = false ∧ a < 6 ∧ 1 ≤ sent ∧ sent ≤ 3) ∧
    (∃ (a sent : Nat) (s : State), s.hasM = true ∧ s.gdieDown = false ∧ a < 6 ∧ 1 ≤ sent ∧ sent ≤ 3) ∧
    (∃ (a sent : Nat) (c : Cycle) (s : State), s.hasM = true ∧ s.gdieDown = false ∧ s.shaped ∧ a < 6 ∧ (s.axis a).cycle = some c
      ∧ c.kind ≠ 3 ∧ (c.stop.getD 10) > 3) ∧
    (∃ (a : Nat) (s : State), s.hasM = true ∧ s.gdieDown = false ∧ s.shaped ∧ a < 6 ∧ s.gdState a = 2 ∧ untested s a) ∧
    (∃ (l : Link) (a : Nat) (s : State), s.takes l ∧ s.hasM = true ∧ a < 6 ∧ s.gatesLow a = true ∧ s.atRest a = true ∧
      s.gdieDown = false) ∧
    (∃ (l : Link) (a : Nat) (s : State), s.takes l ∧ s.hasM = true ∧ a < 6 ∧ s.gdieDown = false ∧ ((s.axis a).cycle.isSome =
      true ∨ (s.axis a).pending.isSome = true ∨ (s.gdState a = 2 ∧ (s.axis a).drive ≠ 0) ∨ s.gdState a = 1)) ∧
    (∃ (a st fails : Nat) (s : State), s.shaped ∧ a < 6 ∧ s.gate.test.find? (fun e => e.1 == a) = some (a, st) ∧ st < 16) ∧
    (∃ (l : Link) (a : Nat) (s : State), s.takes l ∧ s.hasM = true ∧ a < 6 ∧ s.gdState a = 4 ∧ s.atRest a = true ∧ s.gdieDown =
      false) ∧
    (∃ (l : Link) (a : Nat) (s : State), s.takes l ∧ s.hasM = true ∧ a < 6 ∧ (s.gdState a ≠ 4 ∨ (s.axis a).cycle.isSome = true)
      ∧ s.gdieDown = false) ∧
    (∃ (l : Link) (a : Nat) (v : Word) (s : State), s.takes l ∧ s.hasM = true ∧ a < 6 ∧ (s.gdState a = 0 ∨ s.gdState a = 4) ∧
      s.atRest a = true ∧ s.on F.PWR_STAT_VM_OK = true ∧ bitsOf v 2 1 < s.bridges a ∧ (s.gate.pulse.all fun p => p.axis != a) =
      true ∧ (s.gate.test.all fun p => p.1 != a) = true ∧ 1 ≤ bitsOf v 15 8 ∧ bitsOf v 15 8 ≤ 100 ∧ s.gdieDown = false ∧
      s.pwr.phase ≠ .holdup) ∧
    (∃ (l : Link) (a : Nat) (v : Word) (s : State), s.takes l ∧ s.hasM = true ∧ a < 6 ∧ (s.gdState a = 0 ∨ s.gdState a = 4) ∧
      s.atRest a = true ∧ s.on F.PWR_STAT_VM_OK = true ∧ bitsOf v 2 1 < s.bridges a ∧ (s.gate.pulse.all fun p => p.axis != a) =
      true ∧ (s.gate.test.all fun p => p.1 != a) = true ∧ 1 ≤ bitsOf v 15 8 ∧ bitsOf v 15 8 ≤ 100 ∧ s.gdieDown = false ∧
      s.pwr.phase ≠ .holdup) ∧
    (∃ (l : Link) (a : Nat) (v : Word) (s : State), s.takes l ∧ s.hasM = true ∧ a < 6 ∧ s.gdieDown = false ∧ ((s.gdState a ≠ 0 ∧
      s.gdState a ≠ 4) ∨ s.on F.PWR_STAT_VM_OK = false ∨ (s.axis a).cycle.isSome = true ∨ s.bridges a ≤ bitsOf v 2 1 ∨
      (s.gate.pulse.any fun p => p.axis == a) = true ∨ (s.gate.test.any fun p => p.1 == a) = true ∨ bitsOf v 15 8 = 0 ∨ 100 <
      bitsOf v 15 8 ∨ s.pwr.phase = .holdup)) ∧
    (∃ (a h vsw vbst w e : Nat) (d : Bool) (x : PulseEnd) (s : State), s.shaped ∧ a < 6 ∧ h < 4 ∧ s.gate.pulse.find? (fun p =>
      p.axis == a) = some ⟨a, h, d, w, e⟩) ∧
    (∃ (l : Link) (a : Nat) (s : State), s.takes l ∧ s.hasM = true ∧ a < 6 ∧ s.gdieDown = false ∧ s.on F.GDR_STAT_LINKLOST =
      false) :=
  ⟨⟨5, 3, run, by decide +kernel⟩,
   ⟨5, 1, run, by decide +kernel⟩,
   ⟨5, 3, cyc 1, moving 5 (cyc 1), by decide +kernel⟩,
   ⟨5, gate 5 2, by decide +kernel⟩,
   ⟨.spi, 5, gate 5 0, by decide +kernel⟩,
   ⟨.spi, 5, gate 5 1, by decide +kernel⟩,
   ⟨5, 15, 0, (gate 5 0).onGate fun g => { g with test := [(5, 15)] }, by decide +kernel⟩,
   ⟨.spi, 5, gate 5 4, by decide +kernel⟩,
   ⟨.spi, 5, gate 5 3, by decide +kernel⟩,
   ⟨.spi, 5, 0x0100, gate 5 0, by decide +kernel⟩,
   ⟨.spi, 5, 0x6400, gate 5 4, by decide +kernel⟩,
   ⟨.spi, 5, 0x0100, gate 5 2, by decide +kernel⟩,
   ⟨5, 3, 0, 0, 100, 4, true, {}, (gate 5 4).onGate fun g => { g with pulse := [⟨5, 3, true, 100, 4⟩] }, by decide +kernel⟩,
   ⟨.spi, 5, run, by decide +kernel⟩⟩

theorem test_meets_BridgeFaults :
    (∃ (a c : Nat) (s : State), s.shaped ∧ s.hasM = true ∧ a < 6 ∧ c < 8 ∧ c / 2 < s.bridges a) ∧
    (∃ (a : Nat) (s : State), s.shaped ∧ s.hasM = true ∧ a < 6 ∧ s.on (F.GD_DT_SCHEME.on a) = true) ∧
    (∃ (high : Bool) (a : Nat) (s : State), s.shaped ∧ s.hasM = true ∧ s.gdieDown = false ∧ a < 6 ∧ s.gdState a = 2 ∧ untested s
      a) ∧
    (∃ (high : Bool) (a : Nat) (s : State), s.shaped ∧ s.hasM = true ∧ s.gdieDown = false ∧ a < 6 ∧ s.gdState a = 2 ∧ untested s
      a) ∧
    (∃ (a : Nat) (s : State), s.shaped ∧ s.hasM = true ∧ s.gdieDown = false ∧ a < 6 ∧ s.gdState a = 2 ∧ untested s a) ∧
    (∃ (a b : Nat) (s : State), s.shaped ∧ s.hasM = true ∧ a < 6 ∧ b < s.bridges a ∧ s.gdState a = 2 ∧ untested s a) ∧
    (∃ (a : Nat) (s : State), s.hasM = true ∧ s.gdieDown = false ∧ a < 6 ∧ s.gdState a = 4 ∧ untested s a) ∧
    (∃ (s : State), s.hasM = true ∧ s.gdieDown = false ∧ s.on F.GDR_STAT_VGG_OK = false) ∧
    (∃ (s : State), s.on F.GDR_STAT_VGG_OK = true) ∧
    (∃ (n : Nat) (s : State), s.hasM = true ∧ s.gdieDown = false) ∧
    (∃ (a b : Nat) (s : State), s.hasM = true ∧ a < 6 ∧ b < s.bridges a ∧ (s.gdState a = 0 ∨ s.gdState a = 4) ∧ untested s a) :=
  ⟨⟨5, 1, gate 5 2, by decide +kernel⟩,
   ⟨5, (gate 5 2).set (F.GD_DT_SCHEME.on 5) 1, by decide +kernel⟩,
   ⟨true, 5, gate 5 2, by decide +kernel⟩,
   ⟨false, 5, gate 5 2, by decide +kernel⟩,
   ⟨5, gate 5 2, by decide +kernel⟩,
   ⟨5, 0, gate 5 2, by decide +kernel⟩,
   ⟨5, gate 5 4, by decide +kernel⟩,
   ⟨run, by decide +kernel⟩,
   ⟨gate 5 2, by decide +kernel⟩,
   ⟨23, run, by decide +kernel⟩,
   ⟨5, 0, gate 5 4, by decide +kernel⟩⟩

theorem test_meets_BridgeService :
    (∃ (a : Nat) (s : State), s.hasM = true ∧ a < 6 ∧ s.pwr.phase = .run ∧ s.gdieDown = false ∧ s.enabled (0x49 + a) = true ∧
      s.enabled 0x48 = true ∧ s.on F.PWR_STAT_VM_OK = true ∧ s.on F.GDR_STAT_VGG_OK = true ∧ s.on F.GDR_STAT_LINKLOST = false ∧
      (s.gate.lowBst.all fun h => h / 4 != a) = true ∧ s.bridgeStaged a = false ∧ (s.gate.pulse.all fun p => p.axis != a) = true
      ∧ (s.gdState a = 3 ∨ (s.gdState a = 0 ∧ s.get (F.GD_STAT_CAUSE.on a) ∉ [3, 4, 7]))) ∧
    (∃ (a : Nat) (s : State), s.hasM = true ∧ a < 6 ∧ s.pwr.phase = .run ∧ s.gdieDown = false ∧ s.enabled (0x49 + a) = true ∧
      s.enabled 0x48 = true ∧ s.on F.PWR_STAT_VM_OK = true ∧ s.on F.GDR_STAT_VGG_OK = true ∧ s.on F.GDR_STAT_LINKLOST = false ∧
      (s.gate.lowBst.all fun h => h / 4 != a) = true ∧ s.bridgeStaged a = false ∧ (s.gate.pulse.all fun p => p.axis != a) = true
      ∧ (s.gdState a = 3 ∨ (s.gdState a = 0 ∧ s.get (F.GD_STAT_CAUSE.on a) ∉ [3, 4, 7]))) ∧
    (∃ (a : Nat) (s : State), a < 6 ∧ s.canQualify a = true ∧ s.bridgeStaged a = false ∧ (s.gate.pulse.all fun p => p.axis != a)
      = true ∧ s.gdState a = 4 ∧ a ∈ s.gate.deferred) ∧
    (∃ (a : Nat) (s : State), a < 6 ∧ s.canQualify a = true ∧ s.bridgeStaged a = false ∧ (s.gate.pulse.all fun p => p.axis != a)
      = true ∧ s.gdState a = 0 ∧ s.get (F.GD_STAT_CAUSE.on a) ∈ [3, 4, 7]) ∧
    (∃ (a fails : Nat) (bst : List Nat) (s : State), s.shaped ∧ a < 6 ∧ s.gdState a = 1 ∧ s.canQualify a = true) ∧
    (∃ (a fails : Nat) (bst : List Nat) (s : State), s.shaped ∧ a < 6 ∧ s.gdState a = 1 ∧ s.canQualify a = false ∧ untested s a) ∧
    (∃ (a b : Nat) (hs : List HalfPeriod) (s : State), a < 6 ∧ s.gdState a = 2 ∧ b < s.bridges a ∧ s.get (F.GD_SW_STRMIN.on a) ≤
      s.get (F.GD_SW_STRMAX.on a) ∧ s.get (F.GD_SW_STRMIN.on a) ≤ s.driveStep a b ∧ s.driveStep a b ≤ s.get (F.GD_SW_STRMAX.on
      a)) ∧
    (∃ (a b bst : Nat) (s : State), a < 6 ∧ b < s.bridges a ∧ s.gdState a = 2 ∧ bit (s.get (F.GD_STAT_REFRESH.on a)) b = false ∧
      bst < s.get F.GDR_BST_WARN) ∧
    (∃ (a b bst : Nat) (s : State), bit (s.get (F.GD_STAT_REFRESH.on a)) b = true) ∧
    (∃ (a b : Nat) (hs : List HalfPeriod) (s : State), a < 6 ∧ b < s.bridges a ∧ s.gdState a = 2 ∧ bit (s.get
      (F.GD_STAT_REFRESH.on a)) b = true) ∧
    (∃ (s : State), s.hasM = true ∧ s.gdieDown = false ∧ s.pwr.phase = .run ∧ s.on F.GDR_STAT_CHOP = false) ∧
    (∃ (s : State), s.pwr.phase = .holdup) ∧
    (∃ (s : State), s.on F.GDR_STAT_CHOP = true) ∧
    (∃ (s : State), s.on F.GDR_STAT_CHOP = true ∧ s.gate.chopLong = false) ∧
    (∃ (s : State), s.gate.chopLong = true) :=
  ⟨⟨5, gate 5 3, by decide +kernel⟩,
   ⟨5, gate 5 0, by decide +kernel⟩,
   ⟨5, (gate 5 4).onGate fun g => { g with deferred := [5] }, by decide +kernel⟩,
   ⟨5, (gate 5 0).set (F.GD_STAT_CAUSE.on 5) 7, by decide +kernel⟩,
   ⟨5, 0, [], gate 5 1, by decide +kernel⟩,
   ⟨5, 0, [], (gate 5 1).set F.GDR_STAT_VGG_OK 0, by decide +kernel⟩,
   ⟨5, 0, [], sets (gate 5 2) [(F.GD_SW_STRMAX.on 5, 15)], by decide +kernel⟩,
   ⟨5, 0, 0, (gate 5 2).set F.GDR_BST_WARN 1, by decide +kernel⟩,
   ⟨5, 0, 0, (gate 5 2).set (F.GD_STAT_REFRESH.on 5) 1, by decide +kernel⟩,
   ⟨5, 0, [{ ns := 1, low := 400 }], (gate 5 2).set (F.GD_STAT_REFRESH.on 5) 1, by decide +kernel⟩,
   ⟨run, by decide +kernel⟩,
   ⟨{ run with pwr := { phase := .holdup } }, by decide +kernel⟩,
   ⟨sets run [(F.GDR_STAT_CHOP, 1)], by decide +kernel⟩,
   ⟨sets run [(F.GDR_STAT_CHOP, 1)], by decide +kernel⟩,
   ⟨{ sets run [(F.GDR_STAT_CHOP, 1)] with gate := { chopLong := true } }, by decide +kernel⟩⟩

theorem test_meets_LoadSwitches :
    (∃ (l : Link) (b : Bool) (v : Word) (c : Nat) (s : State), s.takes l ∧ s.shaped ∧ c < 8 ∧ s.enabled (0x51 + ofBool b) = true
      ∧ s.enabled 0x50 = true ∧ ((List.range 8).all fun k => !bit (bitsOf v 7 0) k || ((s.chan (8 * ofBool b + k)).state != 4 &&
      (!bit (s.get F.TMP_LATCH_LATCHED) 9 || s.chanOn (8 * ofBool b + k)))) = true) ∧
    (∃ (l : Link) (b : Bool) (v : Word) (c : Nat) (s : State), s.takes l ∧ s.shaped ∧ c < 8 ∧ s.enabled (0x51 + ofBool b) = true
      ∧ s.enabled 0x50 = true ∧ ((List.range 8).all fun k => !bit (bitsOf v 7 0) k || ((s.chan (8 * ofBool b + k)).state != 4 &&
      (!bit (s.get F.TMP_LATCH_LATCHED) 9 || s.chanOn (8 * ofBool b + k)))) = true) ∧
    (∃ (l : Link) (b : Bool) (v : Word) (c : Nat) (s : State), s.takes l ∧ c < 8 ∧ bit (bitsOf v 7 0) c = true ∧ (s.enabled
      (0x51 + ofBool b) = false ∨ s.enabled 0x50 = false ∨ (s.chan (8 * ofBool b + c)).state = 4 ∨ (bit (s.get
      F.TMP_LATCH_LATCHED) 9 = true ∧ s.chanOn (8 * ofBool b + c) = false))) ∧
    (∃ (l : Link) (b : Bool) (v : Word) (c : Nat) (s : State), s.takes l ∧ c < 8 ∧ bit (bitsOf v 7 0) c = true ∧ (s.enabled
      (0x51 + ofBool b) = false ∨ s.enabled 0x50 = false ∨ (s.chan (8 * ofBool b + c)).state = 4 ∨ (bit (s.get
      F.TMP_LATCH_LATCHED) 9 = true ∧ s.chanOn (8 * ofBool b + c) = false))) ∧
    (∃ (l : Link) (b : Bool) (v : Word) (c : Nat) (s : State), s.takes l ∧ s.shaped ∧ c < 8) ∧
    (∃ (n : Nat) (s : State), s.shaped ∧ n < 16 ∧ (s.chan n).state = 2) ∧
    (∃ (n since : Nat) (s : State), s.shaped ∧ n < 16 ∧ (s.chan n).state = 1) ∧
    (∃ (n since : Nat) (s : State), n < 16 ∧ (s.chan n).state = 2) ∧
    (∃ (n : Nat) (above : Bool) (s : State), s.running = true ∧ s.shaped ∧ n < 16 ∧ s.on (chanField F.LSA_CH_OLEN n) = true ∧
      s.chanOn n = false ∧ (s.chan n).openLoad = !above) ∧
    (∃ (z even odd : Nat) (s : State), s.running = true ∧ s.shaped ∧ z < 8 ∧ z ∉ s.ls.hot ∧ s.chanOn (2 * z) = true ∧ s.chanOn
      (2 * z + 1) = true) ∧
    (∃ (z n even odd : Nat) (s : State), s.running = true ∧ s.shaped ∧ z < 8 ∧ z ∉ s.ls.hot ∧ (n = 2 * z ∨ n = 2 * z + 1) ∧
      s.chanOn n = true ∧ s.chanOn (4 * z + 1 - n) = false) ∧
    (∃ (z n even odd : Nat) (s : State), s.running = true ∧ s.shaped ∧ z < 8 ∧ z ∉ s.ls.hot ∧ (n = 2 * z ∨ n = 2 * z + 1) ∧
      s.chanOn n = true ∧ s.chanOn (4 * z + 1 - n) = false) ∧
    (∃ (z n e : Nat) (s : State), s.shaped ∧ z < 8 ∧ n < 16 ∧ s.ls.second.find? (fun x => x.1 == z) = some (z, n, e) ∧ z ∈
      s.ls.hot ∧ s.chanOn n = true) ∧
    (∃ (z n e : Nat) (s : State), s.ls.second.find? (fun x => x.1 == z) = some (z, n, e)) ∧
    (∃ (z n : Nat) (s : State), s.running = true ∧ s.shaped ∧ z < 8 ∧ z ∉ s.ls.sensor ∧ (n = 2 * z ∨ n = 2 * z + 1)) ∧
    (∃ (z n : Nat) (s : State), s.running = true ∧ s.shaped ∧ z < 8 ∧ z ∉ s.ls.sensor ∧ (n = 2 * z ∨ n = 2 * z + 1)) ∧
    (∃ (n : Nat) (s : State), s.shaped ∧ n < 16 ∧ (s.chan n).state = 3 ∧ s.now = s.thy.boundary) ∧
    (∃ (n : Nat) (s : State), s.now ≠ s.thy.boundary) ∧
    (∃ (n : Nat) (s : State), s.shaped ∧ n < 16 ∧ s.chanOn n = true) :=
  ⟨⟨.spi, true, 0x80, 7, load 0 0, by decide +kernel⟩,
   ⟨.spi, false, 0, 0, load 0 0, by decide +kernel⟩,
   ⟨.spi, true, 0x80, 7, load 15 4, by decide +kernel⟩,
   ⟨.spi, true, 0x80, 7, run.setReg (addrOf 0x50 2) 0, by decide +kernel⟩,
   ⟨.spi, true, 0x80, 7, load 15 4, by decide +kernel⟩,
   ⟨15, load 15 2, by decide +kernel⟩,
   ⟨15, 9, load 15 1, by decide +kernel⟩,
   ⟨15, 9, load 15 2, by decide +kernel⟩,
   ⟨15, true, (load 15 0).set (chanField F.LSA_CH_OLEN 15) 1, by decide +kernel⟩,
   ⟨7, 1, 2, (load 15 1).onLs fun x => { x with chans := x.chans.modify 14 fun c => { c with state := 1 } }, by decide +kernel⟩,
   ⟨7, 15, 0, 0, load 15 1, by decide +kernel⟩,
   ⟨7, 14, 0, 0, load 14 1, by decide +kernel⟩,
   ⟨7, 15, 2, (load 15 1).onLs fun x => { x with second := [(7, 15, 2)], hot := [7] }, by decide +kernel⟩,
   ⟨7, 15, 2, (load 15 1).onLs fun x => { x with second := [(7, 15, 2)] }, by decide +kernel⟩,
   ⟨7, 15, load 15 1, by decide +kernel⟩,
   ⟨7, 14, load 14 1, by decide +kernel⟩,
   ⟨15, load 15 3, by decide +kernel⟩,
   ⟨15, { load 15 3 with now := 7 }, by decide +kernel⟩,
   ⟨15, load 15 1, by decide +kernel⟩⟩

theorem test_meets_GuardsAndBrakes :
    (∃ (g : Nat) (closed : Bool) (s : State), s.cdieRuns = true ∧ g < 2 ∧ bit (s.guardRoles g) 0 = true) ∧
    (∃ (g : Nat) (closed : Bool) (s : State), s.cdieRuns = true ∧ g < 2 ∧ bit (s.guardRoles g) 0 = true) ∧
    (∃ (g : Nat) (closed : Bool) (s : State), s.cdieRuns = true ∧ g < 2 ∧ bit (s.guardRoles g) 0 = false) ∧
    (∃ (g a : Nat) (s : State), s.cdieRuns = true ∧ s.shaped ∧ g < 2 ∧ bit (s.guardRoles g) 0 = true ∧ bit (s.guardRoles g) 1 =
      true ∧ s.on F.SAF_STAT_SAFESTOP = false ∧ s.hasM = true ∧ a < 6) ∧
    (∃ (a b : Nat) (s : State), s.shaped ∧ s.on F.SAF_STAT_SAFESTOP = true ∧ (s.guardOpen 1 = true ∨ s.sfault = true ∨ (s.useBit
      0 = true ∧ s.rxBit 0 = false) ∨ (s.on F.SAF_STAT_GRDDONE = false ∧ ((s.noteGuard 0).noteGuard 1).guardsSeen = false)) ∧ a
      < 6 ∧ (s.axis a).cycle.isSome = true ∧ s.brakeOf a = some b) ∧
    (∃ (b e : Nat) (s : State), b < 2 ∧ s.saf.releasedAt.find? (fun x => x.1 == b) = some (b, e)) ∧
    (∃ (b a : Nat) (s : State), s.shaped ∧ b < 2 ∧ s.running = true ∧ s.brakeTestDue b = true ∧ s.testedAxis b = some a ∧ b ∉
      s.saf.testing ∧ s.brakeEngaged b = true ∧ s.brakeReleased b = false ∧ s.on F.SAF_STAT_SAFESTOP = false ∧ (b ∈
      s.saf.aborted → s.on F.PWR_STAT_WARN = false ∧ (s.hasEnc a = true → s.gdState a = 2)) ∧ ((s.naming b).all fun a => (s.axis
      a).cycle.isNone && ((s.axis a).pending.isNone || s.brakeTestFirst b) && !s.groupDeferred a && !s.bridgeStaged a) = true) ∧
    (∃ (b : Nat) (s : State), (s.on F.SAF_STAT_SAFESTOP = true ∨ s.brakeTestDue b = false)) ∧
    (∃ (b a m1 m2 : Nat) (s : State), s.shaped ∧ b < 2 ∧ b ∈ s.saf.testing ∧ s.testedAxis b = some a ∧ s.hasEnc a = true ∧
      s.gdState a = 2 ∧ s.on F.PWR_STAT_WARN = false) ∧
    (∃ (b a m1 m2 : Nat) (s : State), b < 2 ∧ b ∈ s.saf.testing ∧ s.testedAxis b = some a ∧ s.hasEnc a = false) ∧
    (∃ (b a m1 m2 : Nat) (s : State), b < 2 ∧ b ∈ s.saf.testing ∧ s.testedAxis b = some a ∧ s.hasEnc a = true ∧ (s.gdState a ≠ 2
      ∨ s.on F.PWR_STAT_WARN = true)) :=
  ⟨⟨0, true, guarded, by decide +kernel⟩,
   ⟨0, false, guarded, by decide +kernel⟩,
   ⟨1, true, sets run [(F.SAF_GRD_G1, 0)], by decide +kernel⟩,
   ⟨0, 5, guarded.set F.SAF_STAT_SAFESTOP 0, by decide +kernel⟩,
   ⟨5, 1, (sets (moving 5 (cyc 1)) [(F.SAF_GRD_G0, 3), (F.SAF_STAT_SAFESTOP, 1), (F.AX_CFG_BRK.on 5, 2)]), by decide +kernel⟩,
   ⟨1, 7, run.onSaf fun x => { x with releasedAt := [(1, 7)] }, by decide +kernel⟩,
   ⟨1, 2, (braked 1).set F.SAF_STAT_SAFESTOP 0, by decide +kernel⟩,
   ⟨1, (braked 1).set F.SAF_STAT_SAFESTOP 1, by decide +kernel⟩,
   ⟨1, 2, 0, 5, ((braked 1).onSaf fun x => { x with testing := [1] }).set (F.AX_CFG_ENC.on 2) 1, by decide +kernel⟩,
   ⟨1, 2, 0, 0, (braked 1).onSaf fun x => { x with testing := [1] }, by decide +kernel⟩,
   ⟨1, 2, 0, 0, sets ((braked 1).onSaf fun x => { x with testing := [1] }) [(F.AX_CFG_ENC.on 2, 1), (F.PWR_STAT_WARN, 1)], by
     decide +kernel⟩⟩

theorem test_meets_SafetyFaults :
    (∃ (b side : Nat) (s : State), b < 2 ∧ side < 2 ∧ s.brakeReleased b = true ∧ s.sfault = false) ∧
    (∃ (sw : Nat) (s : State), sw < 2 ∧ s.saf.propCmd = true ∧ s.sfault = false) ∧
    (∃ (b : Nat) (s : State), s.cdieRuns = true ∧ b < 2 ∧ s.brakeReleased b = false ∧ s.sfault = false) ∧
    (∃ (s : State), s.cdieRuns = true ∧ s.sfault = false) ∧
    (∃ (high : Bool) (s : State), s.running = true) ∧
    (∃ (high : Bool) (s : State), s.running = true) ∧
    (∃ (e : Nat) (s : State), s.running = true ∧ s.saf.propCmd = false ∧ s.saf.propBadSince = some e ∧ e + 1000 ≤ s.now ∧
      s.sfault = false) ∧
    (∃ (s : State), s.saf.propCmd = true) ∧
    (∃ (e b : Nat) (s : State), s.saf.degrUntil = some e ∧ b < 2) :=
  ⟨⟨1, 1, run.onSaf fun x => { x with releasedAt := [(1, 7)] }, by decide +kernel⟩,
   ⟨1, run.onSaf fun x => { x with propCmd := true }, by decide +kernel⟩,
   ⟨1, run, by decide +kernel⟩,
   ⟨run, by decide +kernel⟩,
   ⟨true, run, by decide +kernel⟩,
   ⟨false, run, by decide +kernel⟩,
   ⟨0, { run.onSaf fun x => { x with propBadSince := some 0 } with now := 1000 }, by decide +kernel⟩,
   ⟨run.onSaf fun x => { x with propCmd := true }, by decide +kernel⟩,
   ⟨5, 1, run.onSaf fun x => { x with degrUntil := some 5 }, by decide +kernel⟩⟩

theorem test_meets_SafetyAccess :
    (∃ (l : Link) (s : State), s.takes l ∧ s.safUnlocked l = true) ∧
    (∃ (l : Link) (s : State), s.takes l ∧ s.safUnlocked l = true) ∧
    (∃ (l : Link) (pw : Word) (s : State), s.takes l ∧ s.safUnlocked l = false) ∧
    (∃ (l : Link) (pw : Word) (s : State), s.takes l ∧ (pw = 0xFFFFFFFF ∨ (isBcd pw = true ∧ s.lockedOut true = false ∧ pw =
      s.spw.pw))) ∧
    (∃ (l : Link) (pw : Word) (s : State), s.takes l ∧ (pw = 0xFFFFFFFF ∨ (isBcd pw = true ∧ s.lockedOut true = false ∧ pw =
      s.spw.pw))) ∧
    (∃ (l : Link) (pw : Word) (s : State), s.takes l ∧ pw ≠ 0xFFFFFFFF ∧ s.lockedOut true = false ∧ pw ≠ s.spw.pw) ∧
    (∃ (l : Link) (pw : Word) (s : State), s.takes l ∧ s.safUnlocked l = true ∧ isBcd pw = true) :=
  ⟨⟨.spi, unlocked, by decide +kernel⟩,
   ⟨.spi, unlocked, by decide +kernel⟩,
   ⟨.spi, 5, run, by decide +kernel⟩,
   ⟨.spi, 0, run, by decide +kernel⟩,
   ⟨.spi, 0xFFFFFFFF, run, by decide +kernel⟩,
   ⟨.spi, 0x12345678, run, by decide +kernel⟩,
   ⟨.spi, 0x98765432, unlocked, by decide +kernel⟩⟩

theorem test_meets_SafetyLink :
    (∃ (seq data : Nat) (s : State), s.running = true ∧ s.on F.SCH_CFG_EN = true ∧ s.canUp (s.get F.SCH_CFG_PORT) = true ∧ seq <
      65536 ∧ data < 32) ∧
    (∃ (fd : Bool) (bytes : List Byte) (s : State), s.running = true ∧ s.on F.SCH_CFG_EN = true ∧ s.canUp (s.get F.SCH_CFG_PORT)
      = true ∧ (fd = false ∨ bytes.length ≠ 16)) ∧
    (∃ (fd : Bool) (bytes : List Byte) (s : State), s.running = true ∧ s.on F.SCH_CFG_EN = true ∧ s.canUp (s.get F.SCH_CFG_PORT)
      = true ∧ (fd = false ∨ bytes.length ≠ 16)) ∧
    (∃ (id seq data : Nat) (s : State), s.running = true ∧ s.on F.SCH_CFG_EN = true ∧ s.canUp (s.get F.SCH_CFG_PORT) = true ∧ id
      < 4294967296 ∧ id ≠ s.get F.SCH_CONNRX_ID ∧ seq < 65536 ∧ data < 32) ∧
    (∃ (s : State), s.running = true ∧ s.on F.SCH_CFG_EN = true) ∧
    (∃ (e : Nat) (s : State), s.saf.lastSent = some e) ∧
    (∃ (e : Nat) (s : State), s.saf.wdtAt = some e) :=
  ⟨⟨65535, 31, sets run [(F.SCH_CFG_EN, 1), (F.SCH_CFG_PORT, 1), (F.HST_CAN0CFG_EN.at 1, 1), (F.HST_CAN0ST_STATE.at 1, 0)], by
     decide +kernel⟩,
   ⟨true, [], sets run [(F.SCH_CFG_EN, 1), (F.SCH_CFG_PORT, 1), (F.HST_CAN0CFG_EN.at 1, 1), (F.HST_CAN0ST_STATE.at 1, 0)], by
     decide +kernel⟩,
   ⟨false, List.replicate 16 0, sets run
     [(F.SCH_CFG_EN, 1), (F.SCH_CFG_PORT, 1), (F.HST_CAN0CFG_EN.at 1, 1), (F.HST_CAN0ST_STATE.at 1, 0)], by decide +kernel⟩,
   ⟨4294967295, 65535, 31, sets run
     [(F.SCH_CFG_EN, 1), (F.SCH_CFG_PORT, 1), (F.HST_CAN0CFG_EN.at 1, 1), (F.HST_CAN0ST_STATE.at 1, 0)], by decide +kernel⟩,
   ⟨sets run [(F.SCH_CFG_EN, 1)], by decide +kernel⟩,
   ⟨7, run.onSaf fun x => { x with lastSent := some 7 }, by decide +kernel⟩,
   ⟨5, run.onSaf fun x => { x with wdtAt := some 5 }, by decide +kernel⟩⟩

theorem test_meets_ThermalManagement :
    (∃ (d : Nat) (x : Int) (s : State), s.cdieRuns = true ∧ (d = 9 ∨ (d = 8 ∧ s.hasM = true ∧ s.gdieDown = false)) ∧ -6000 ≤ x ∧
      x ≤ 20000 ∧ d ∉ s.tmp.cycling) ∧
    (∃ (d : Nat) (x : Int) (s : State), s.cdieRuns = true ∧ (d = 9 ∨ (d = 8 ∧ s.hasM = true ∧ s.gdieDown = false)) ∧ -6000 ≤ x ∧
      x ≤ 20000 ∧ d ∉ s.tmp.cycling) ∧
    (∃ (d : Nat) (x : Int) (s : State), s.cdieRuns = true ∧ (d = 9 ∨ (d = 8 ∧ s.hasM = true ∧ s.gdieDown = false)) ∧ -6000 ≤ x ∧
      x ≤ 20000 ∧ d ∉ s.tmp.cycling) ∧
    (∃ (d : Nat) (x : Int) (s : State), s.cdieRuns = true ∧ (d = 9 ∨ (d = 8 ∧ s.hasM = true ∧ s.gdieDown = false)) ∧ -6000 ≤ x ∧
      x ≤ 20000 ∧ d ∉ s.tmp.cycling) ∧
    (∃ (d : Nat) (x : Int) (s : State), s.cdieRuns = true ∧ (d = 9 ∨ (d = 8 ∧ s.hasM = true ∧ s.gdieDown = false)) ∧ -6000 ≤ x ∧
      x ≤ 20000 ∧ d ∉ s.tmp.cycling) ∧
    (∃ (d : Nat) (x : Int) (s : State), s.cdieRuns = true ∧ (d = 9 ∨ (d = 8 ∧ s.hasM = true ∧ s.gdieDown = false)) ∧ -6000 ≤ x ∧
      x ≤ 20000 ∧ d ∉ s.tmp.cycling) ∧
    (∃ (d : Nat) (x : Int) (s : State), s.cdieRuns = true ∧ (d = 9 ∨ (d = 8 ∧ s.hasM = true ∧ s.gdieDown = false)) ∧ -6000 ≤ x ∧
      x ≤ 20000 ∧ d ∉ s.tmp.cycling) ∧
    (∃ (d : Nat) (x : Int) (s : State), s.cdieRuns = true ∧ (d = 9 ∨ (d = 8 ∧ s.hasM = true ∧ s.gdieDown = false)) ∧ -6000 ≤ x ∧
      x ≤ 20000 ∧ d ∉ s.tmp.cycling) ∧
    (∃ (d : Nat) (x : Int) (s : State), s.cdieRuns = true ∧ (d = 9 ∨ (d = 8 ∧ s.hasM = true ∧ s.gdieDown = false)) ∧ -6000 ≤ x ∧
      x ≤ 20000 ∧ d ∉ s.tmp.cycling) ∧
    (∃ (d : Nat) (x : Int) (s : State), s.cdieRuns = true ∧ (d = 9 ∨ (d = 8 ∧ s.hasM = true ∧ s.gdieDown = false)) ∧ -6000 ≤ x ∧
      x ≤ 20000 ∧ d ∉ s.tmp.cycling) ∧
    (∃ (d : Nat) (x : Int) (s : State), s.cdieRuns = true ∧ (d = 9 ∨ (d = 8 ∧ s.hasM = true ∧ s.gdieDown = false)) ∧ -6000 ≤ x ∧
      x ≤ 20000 ∧ d ∉ s.tmp.cycling) ∧
    (∃ (d : Nat) (x : Int) (s : State), s.cdieRuns = true ∧ (d = 9 ∨ (d = 8 ∧ s.hasM = true ∧ s.gdieDown = false)) ∧ -6000 ≤ x ∧
      x ≤ 20000 ∧ d ∉ s.tmp.cycling) ∧
    (∃ (x : Int) (n a : Nat) (c : Cycle) (s : State), s.running = true ∧ s.shaped ∧ 14000 ≤ x ∧ x ≤ 20000 ∧ 9 ∉ s.tmp.cycling ∧
      s.latched 9 = false ∧ n < 16 ∧ a < 6 ∧ s.hasM = true ∧ (s.axis a).cycle = some c ∧ c.kind = 1 ∧ c.stop = none) ∧
    (∃ (d : Nat) (x : Int) (s : State), s.cdieRuns = true ∧ (d = 9 ∨ (d = 8 ∧ s.hasM = true ∧ s.gdieDown = false)) ∧ (x < -6000
      ∨ 20000 < x) ∧ 2 ≤ countOf s.tmp.bad d ∧ d ∉ s.tmp.cycling) ∧
    (∃ (d : Nat) (x : Int) (s : State), s.cdieRuns = true ∧ (d = 9 ∨ (d = 8 ∧ s.hasM = true ∧ s.gdieDown = false)) ∧ (x < -6000
      ∨ 20000 < x) ∧ 2 ≤ countOf s.tmp.bad d ∧ d ∉ s.tmp.cycling) ∧
    (∃ (d : Nat) (x : Int) (s : State), s.running = true ∧ d < 8 ∧ d < s.dies ∧ s.healthy d = true ∧ bit (s.get
      F.STK_ROUTE_ASLEEP) d = false ∧ s.freshTdie d = true ∧ d ∉ s.tmp.cycling ∧ -6000 ≤ s.getInt (F.MD_DIE_TDIE.on d) ∧
      s.getInt (F.MD_DIE_TDIE.on d) < 14000) ∧
    (∃ (d : Nat) (x : Int) (missing : Bool) (s : State), s.running = true ∧ d < 8 ∧ d < s.dies ∧ (s.healthy d = false ∨ bit
      (s.get F.STK_ROUTE_ASLEEP) d = true)) ∧
    (∃ (d : Nat) (x : Int) (s : State), s.running = true ∧ d < 8 ∧ d < s.dies ∧ s.healthy d = true ∧ bit (s.get
      F.STK_ROUTE_ASLEEP) d = false ∧ d ∉ s.tmp.cycling) ∧
    (∃ (x : Int) (s : State), s.cdieRuns = true ∧ s.hasM = true ∧ s.gdieDown = false ∧ 8 ∈ s.tmp.cycling ∧ -6000 ≤ x ∧ x <
      10000) ∧
    (∃ (x : Int) (s : State), s.cdieRuns = true ∧ s.hasM = true ∧ s.gdieDown = false ∧ 8 ∈ s.tmp.cycling ∧ 10000 ≤ x ∧ x ≤
      20000) ∧
    (∃ (d : Nat) (s : State), d < 9 ∧ s.latched d = true ∧ (s.tmp.downAt.all fun e => e.1 != d) = true ∧ d ∉ s.tmp.cycling ∧
      (s.anyCdClosed = false ∨ d ∈ s.tmp.expired)) ∧
    (∃ (d : Nat) (s : State), d < 9 ∧ s.latched d = true ∧ (s.tmp.downAt.all fun e => e.1 != d) = true ∧ d ∉ s.tmp.cycling ∧
      (s.anyCdClosed = false ∨ d ∈ s.tmp.expired)) ∧
    (∃ (d e : Nat) (s : State), s.pwr.phase = .run ∧ d < 9 ∧ s.tmp.downAt.find? (fun x => x.1 == d) = some (d, e) ∧ s.on
      F.TMP_CFG_AUTO = true ∧ s.latched d = true ∧ countOf s.tmp.tries d < 3) ∧
    (∃ (d : Nat) (s : State), (3 ≤ countOf s.tmp.tries d ∨ s.on F.TMP_CFG_AUTO = false)) ∧
    (∃ (l : Link) (d : Nat) (s : State), s.takes l ∧ d < 9 ∧ s.latched d = true ∧ s.cooled d = true) ∧
    (∃ (l : Link) (v : Word) (s : State), s.takes l ∧ (v.toNat < 0x100 ∨ 0x108 < v.toNat ∨ s.latched (v.toNat - 0x100) = false ∨
      s.cooled (v.toNat - 0x100) = false)) ∧
    (∃ (l : Link) (v : Word) (s : State), s.takes l ∧ (v.toNat < 0x100 ∨ 0x108 < v.toNat ∨ s.latched (v.toNat - 0x100) = false ∨
      s.cooled (v.toNat - 0x100) = false)) ∧
    (∃ (e : Nat) (s : State), s.mot.lastEnd = some e ∧ s.motionPause = true ∧ s.cycleRuns = false) ∧
    (∃ (e : Nat) (s : State), s.tmp.lastRestart = some e ∧ s.restartPause = true) :=
  ⟨⟨9, 9999, run, by decide +kernel⟩,
   ⟨9, 10000, run, by decide +kernel⟩,
   ⟨9, 10499, run, by decide +kernel⟩,
   ⟨9, 10500, run, by decide +kernel⟩,
   ⟨9, 11000, run, by decide +kernel⟩,
   ⟨9, 11001, run, by decide +kernel⟩,
   ⟨9, 11499, run, by decide +kernel⟩,
   ⟨9, 13999, run, by decide +kernel⟩,
   ⟨9, 11500, run, by decide +kernel⟩,
   ⟨8, 14000, run, by decide +kernel⟩,
   ⟨8, 20000, run, by decide +kernel⟩,
   ⟨9, (-6000), run, by decide +kernel⟩,
   ⟨14000, 15, 5, cyc 1, moving 5 (cyc 1), by decide +kernel⟩,
   ⟨9, 20001, run.onTmp fun t => { t with bad := [(9, 2)] }, by decide +kernel⟩,
   ⟨8, (-6001), run.onTmp fun t => { t with bad := [(8, 2)] }, by decide +kernel⟩,
   ⟨7, 13999, (dies.setInt (F.MD_DIE_TDIE.on 7) 13999).onDie 7 fun d => { d with tdieAt := some 5 }, by decide +kernel⟩,
   ⟨7, 0, true, run, by decide +kernel⟩,
   ⟨7, 20001, dies, by decide +kernel⟩,
   ⟨9999, run.onTmp fun t => { t with cycling := [8] }, by decide +kernel⟩,
   ⟨10000, run.onTmp fun t => { t with cycling := [8] }, by decide +kernel⟩,
   ⟨8, latchedAll, by decide +kernel⟩,
   ⟨0, latchedAll, by decide +kernel⟩,
   ⟨8, 2, (latchedAll.set F.TMP_CFG_AUTO 1).onTmp fun t => { t with downAt := [(8, 2)], tries := [(8, 2)] }, by decide +kernel⟩,
   ⟨8, (run.set F.TMP_CFG_AUTO 1).onTmp fun t => { t with tries := [(8, 3)] }, by decide +kernel⟩,
   ⟨.spi, 8, { latchedAll.onTmp fun t => { t with downAt := [(8, 0)] } with now := 60000000000 }, by decide +kernel⟩,
   ⟨.spi, 0x109, run, by decide +kernel⟩,
   ⟨.spi, 0xFF, run, by decide +kernel⟩,
   ⟨5, { sets run [(F.TMP_THR_THROTTLE, 0x300), (F.TMP_CFG_PAUSE, 20000)] with mot := { lastEnd := some 5 } }, by
     decide +kernel⟩,
   ⟨5, { sets run [(F.TMP_THR_THROTTLE, 0x300), (F.TMP_CFG_PAUSE, 20000)] with tmp := { lastRestart := some 5 } }, by
     decide +kernel⟩⟩

theorem test_meets_FramesOfHolds :
    (∃ (x : StartUp) (s : State), s.pwr.phase = .off) ∧
    (∃ (k j a : Nat) (s : State), s.pwr.phase = .startup ∧ k < 8 ∧ k ∈ s.pwr.settling ∧ j ∈ s.pwr.settling ∧ j ≠ k) ∧
    (∃ (k j a : Nat) (s : State), s.pwr.phase = .startup ∧ k < 8 ∧ k ∈ s.pwr.settling ∧ j ∈ s.pwr.settling ∧ j ≠ k) ∧
    (∃ (stA stB : Bool) (e a : Nat) (s : State), s.flt.freezeAt = some e ∧ s.flt.survivor = none ∧ (stA = true ∨ stB = true) ∧
      noneWaits s ∧ s.links.spi.formed = none) ∧
    (∃ (e a : Nat) (s : State), s.flt.freezeAt = some e ∧ s.flt.survivor = none ∧ noneWaits s) ∧
    (∃ (len e m a : Nat) (s : State), s.flt.freezeAt = some e ∧ s.flt.survivor = some m ∧ s.pwr.phase = .run ∧ s.flt.writeQueue
      = [] ∧ noneWaits s) ∧
    (∃ (pass : Bool) (a : Nat) (s : State), s.running = true ∧ (s.get F.FLT_MODE_MODE = 1 ∨ s.get F.FLT_MODE_MODE = 2) ∧
      s.frozen = false ∧ s.flt.lastMark < s.thy.boundary / 100000 * 100000) ∧
    (∃ (e a : Nat) (s : State), s.flt.sliceAt = some e ∧ s.pwr.phase = .run ∧ s.flt.writeQueue = [] ∧ noneWaits s) ∧
    (∃ (e a : Nat) (s : State), s.flt.sliceAt = some e ∧ noneWaits s) ∧
    (∃ (a : Nat) (s : State), s.running = true ∧ s.frozen = false ∧ s.get F.FLT_MODE_MODE ≠ 3 ∧ noneWaits s) ∧
    (∃ (a : Nat) (s : State), s.running = true ∧ s.get F.FLT_MODE_MODE ≠ 3 ∧ noneWaits s) ∧
    (∃ (j party a : Nat) (s : State), j < 8 ∧ s.leaseHolder j = party ∧ s.leaseState j = 1 ∧ (1 ≤ j → j ≤ 3 → s.flt.waitOrder =
      [])) ∧
    (∃ (j a : Nat) (s : State), j < 8 ∧ s.leaseState j = 1 ∧ (1 ≤ j → j ≤ 3 → s.flt.waitOrder = [] ∧ s.links.spi.formed = none)) ∧
    (∃ (l : Link) (a : Nat) (s : State), s.takes l ∧ s.anyCdClosed = false ∧ s.anyMoving = false ∧ s.pins.shoreDet = false ∧
      s.on F.PWR_STAT_WARN = false) :=
  ⟨⟨{}, State.reset, by decide +kernel⟩,
   ⟨7, 0, 0, settling [7, 0], by decide +kernel⟩,
   ⟨7, 0, 0, settling [7, 0], by decide +kernel⟩,
   ⟨true, true, 5, 0, frozen 5 none, by decide +kernel⟩,
   ⟨5, 0, frozen 5 none, by decide +kernel⟩,
   ⟨150, 5, 0, 0, frozen 5 (some 0), by decide +kernel⟩,
   ⟨true, 0, degraded, by decide +kernel⟩,
   ⟨16, 0, slicing 16, by decide +kernel⟩,
   ⟨16, 0, slicing 16, by decide +kernel⟩,
   ⟨0, run, by decide +kernel⟩,
   ⟨0, run, by decide +kernel⟩,
   ⟨7, 3, 0, leased 7 3, by decide +kernel⟩,
   ⟨7, 0, leased 7 3, by decide +kernel⟩,
   ⟨.spi, 0, run, by decide +kernel⟩⟩

theorem test_meets_FramesOfRequests :
    (∃ (l : Link) (r : Req) (a : Nat) (s : State), s.takes l ∧ ¬ (0x49 ≤ r.page.toNat ∧ r.page.toNat ≤ 0x4E)) ∧
    (∃ (l : Link) (r : Req) (a : Nat) (s : State), s.takes l ∧ s.fitted r.page.toNat = true ∧ 8 ≤ r.word.toNat ∧ wordHas
      r.page.toNat r.word.toNat .rws = true ∧ (safetyPage r.page.toNat = true → s.safUnlocked l = true)) ∧
    (∃ (l : Link) (r : Req) (a : Nat) (s : State), s.takes l) ∧
    (∃ (c : Accepted) (a : Nat) (s : State), s.commit.accepted = some c) ∧
    (∃ (p w : Nat) (v : Word) (c : Accepted) (s : State), s.commit.accepted = some { c with words := [(addrOf p w, v)] } ∧ p <
      256 ∧ 8 ≤ w ∧ w ≤ 0x5F ∧ p ≠ 2 ∧ p ∈ c.pages ∧ islandOf p = nextIsland c.pages ∧ c.time + 100 ≤ s.nextBoundary ∧ c.last ≠
      some s.nextBoundary) ∧
    (∃ (l : Link) (page : Byte) (a : Nat) (s : State), s.takes l ∧ s.fitted page.toNat = true) ∧
    (∃ (l : Link) (page : Byte) (a : Nat) (s : State), s.takes l ∧ s.fitted page.toNat = true ∧ blockControl page.toNat = true ∧
      s.blockActive page.toNat = false) ∧
    (∃ (l : Link) (v : Option Word) (a : Nat) (s : State), s.takes l ∧ v.all (fun x => decide (x.toNat < 65536)) = true) ∧
    (∃ (l : Link) (v : Option Word) (a : Nat) (s : State), s.takes l ∧ v.all (fun x => decide (x.toNat < 65536)) = true) ∧
    (∃ (m : MirrorImage) (a : Nat) (s : State), s.ring.fetching = true) ∧
    (∃ (l : Link) (ids : List (Nat × Nat)) (a : Nat) (s : State), s.takes l) :=
  ⟨⟨.spi, ⟨0x48, 8, 12⟩, 0, run, by decide +kernel⟩,
   ⟨.spi, ⟨0x2F, 0x0D, 12⟩, 0, run, by decide +kernel⟩,
   ⟨.spi, ⟨0, 0, 0xFFFF⟩, 0, run, by decide +kernel⟩,
   ⟨⟨[3], [], [], 5, 0, 4, none⟩, 0, { run with commit := { accepted := some ⟨[3], [], [], 5, 0, 4, none⟩ } }, by
     decide +kernel⟩,
   ⟨3, 0x24, 1, ⟨[3], [], [], 5, 0, 0, none⟩,
     { run with commit := { accepted := some ⟨[3], [(addrOf 3 0x24, 1)], [], 5, 0, 0, none⟩ } }, by decide +kernel⟩,
   ⟨.spi, 0, 5, run, by decide +kernel⟩,
   ⟨.spi, 0x12, 0, run, by decide +kernel⟩,
   ⟨.spi, none, 0, run, by decide +kernel⟩,
   ⟨.spi, some 0xFFFF, 0, run, by decide +kernel⟩,
   ⟨{}, 0, { run with ring := { fetching := true } }, by decide +kernel⟩,
   ⟨.spi, [], 0, unlocked, by decide +kernel⟩⟩

theorem test_meets_UnmappedPages :
    ∃ (l : Link) (r : Req) (s : State), s.takes l ∧ r.page.toNat ∉ mappedPages :=
  ⟨.spi, ⟨0x60, 8, 0⟩, run, by decide +kernel⟩

theorem test_meets_UnfittedUnits :
    (∃ (l : Link) (r : Req) (s : State), s.takes l ∧ ((s.get F.SYS_VARIANT_MDIES = 2 ∧ r.page.toNat ∈ List.range' 0x22 6 ++
      List.range' 0x2A 6) ∨ (s.get F.SYS_VARIANT_MDIES = 4 ∧ r.page.toNat ∈ List.range' 0x24 4 ++ List.range' 0x2C 4) ∨ (s.hasM
      = false ∧ r.page.toNat ∈ List.range' 0x40 7 ++ List.range' 0x48 7) ∨ (s.hasB = false ∧ r.page = 0x0A))) ∧
    (∃ (l : Link) (r : Req) (s : State), s.takes l ∧ ((s.get F.SYS_VARIANT_MDIES = 2 ∧ r.page.toNat ∈ List.range' 0x22 6 ++
      List.range' 0x2A 6) ∨ (s.get F.SYS_VARIANT_MDIES = 4 ∧ r.page.toNat ∈ List.range' 0x24 4 ++ List.range' 0x2C 4) ∨ (s.hasM
      = false ∧ r.page.toNat ∈ List.range' 0x40 7 ++ List.range' 0x48 7) ∨ (s.hasB = false ∧ r.page = 0x0A))) ∧
    (∃ (l : Link) (r : Req) (s : State), s.takes l ∧ ((s.get F.SYS_VARIANT_MDIES = 2 ∧ r.page.toNat ∈ List.range' 0x22 6 ++
      List.range' 0x2A 6) ∨ (s.get F.SYS_VARIANT_MDIES = 4 ∧ r.page.toNat ∈ List.range' 0x24 4 ++ List.range' 0x2C 4) ∨ (s.hasM
      = false ∧ r.page.toNat ∈ List.range' 0x40 7 ++ List.range' 0x48 7) ∨ (s.hasB = false ∧ r.page = 0x0A))) ∧
    (∃ (l : Link) (r : Req) (s : State), s.takes l ∧ ((s.get F.SYS_VARIANT_MDIES = 2 ∧ r.page.toNat ∈ List.range' 0x22 6 ++
      List.range' 0x2A 6) ∨ (s.get F.SYS_VARIANT_MDIES = 4 ∧ r.page.toNat ∈ List.range' 0x24 4 ++ List.range' 0x2C 4) ∨ (s.hasM
      = false ∧ r.page.toNat ∈ List.range' 0x40 7 ++ List.range' 0x48 7) ∨ (s.hasB = false ∧ r.page = 0x0A))) :=
  ⟨⟨.spi, ⟨0x22, 8, 0⟩, sets run [(F.SYS_VARIANT_MDIES, 2)], by decide +kernel⟩,
   ⟨.spi, ⟨0x2F, 8, 0⟩, sets run [(F.SYS_VARIANT_MDIES, 4)], by decide +kernel⟩,
   ⟨.spi, ⟨0x40, 8, 0⟩, run.setReg F.SYS_VARIANT_MDIES.addr 8, by decide +kernel⟩,
   ⟨.spi, ⟨0x0A, 8, 0⟩, run.setReg F.SYS_VARIANT_MDIES.addr 8, by decide +kernel⟩⟩

theorem test_meets_DiscardAndView :
    (∃ (l : Link) (p : Nat) (s : State), s.takes l ∧ s.fitted p = true ∧ p ≠ 0 ∧ p ≠ 2) ∧
    (∃ (l : Link) (p w : Nat) (s : State), s.takes l ∧ p ∈ s.commit.pend ∧ w ∈ configWords) ∧
    (∃ (l : Link) (r : Req) (s : State), s.takes l ∧ s.fitted r.page.toNat = true ∧ 8 ≤ r.word.toNat ∧ wordHas r.page.toNat
      r.word.toNat .rws = true ∧ wordHas r.page.toNat r.word.toNat .wo = false ∧ s.viewActive l = false) ∧
    (∃ (l : Link) (r : Req) (s : State), s.takes l ∧ s.fitted r.page.toNat = true ∧ 8 ≤ r.word.toNat ∧ wordHas r.page.toNat
      r.word.toNat .rws = true ∧ wordHas r.page.toNat r.word.toNat .wo = false ∧ s.viewActive l = true) :=
  ⟨⟨.spi, 1, run, by decide +kernel⟩,
   ⟨.spi, 3, 0x24, { run with commit := { pend := [3] } }, by decide +kernel⟩,
   ⟨.spi, ⟨0x2F, 0x0D, 12⟩, run, by decide +kernel⟩,
   ⟨.spi, ⟨0x2F, 0x0D, 12⟩, run.setReg F.CFG_VIEW_SPI.addr 7, by decide +kernel⟩⟩

theorem test_meets_UntrackedWords :
    (∃ (l : Link) (r : Req) (s : State), s.takes l ∧ (s.fitted r.page.toNat = false ∨ r.word.toNat < 0x60 ∨ 0xDF < r.word.toNat
      ∨ wordHas r.page.toNat r.word.toNat .rc = true ∨ wordHas r.page.toNat r.word.toNat .w1c = true)) ∧
    (∃ (l : Link) (r : Req) (s : State), s.takes l ∧ (s.fitted r.page.toNat = false ∨ r.word.toNat < 0x60 ∨ 0xDF < r.word.toNat
      ∨ wordHas r.page.toNat r.word.toNat .rc = true ∨ wordHas r.page.toNat r.word.toNat .w1c = true)) :=
  ⟨⟨.spi, ⟨2, 2, 0⟩, run, by decide +kernel⟩,
   ⟨.spi, ⟨2, 0xE0, 0⟩, run, by decide +kernel⟩⟩

theorem test_meets_ThyCrossFieldChecks :
    (∃ (l : Link) (r : Req) (s : State), s.takes l ∧ s.commit.accepted = none ∧ ((r.data = 3 ∧ 3 ∈ s.commit.pend) ∨ (r.data =
      0xFFFF ∧ 3 ∈ s.committable l)) ∧ 3 * periodOf (s.after [3] F.THY_PERIOD_SEL) < s.after [3] F.THY_QUIET_LEAD) ∧
    (∃ (l : Link) (r : Req) (s : State), s.takes l ∧ s.commit.accepted = none ∧ ((r.data = 3 ∧ 3 ∈ s.commit.pend) ∨ (r.data =
      0xFFFF ∧ 3 ∈ s.committable l)) ∧ 3 * periodOf (s.after [3] F.THY_PERIOD_SEL) < s.after [3] F.THY_QUIET_LEAD) ∧
    (∃ (l : Link) (r : Req) (s : State), s.takes l ∧ s.commit.accepted = none ∧ ((r.data = 3 ∧ 3 ∈ s.commit.pend) ∨ (r.data =
      0xFFFF ∧ 3 ∈ s.committable l)) ∧ s.after [3] F.THY_TRIG_SRC = 2 ∧ s.hasM = false) :=
  ⟨⟨.spi, ⟨0, 0, 0xFFFF⟩, (({ run with commit := { pend := [3] } }).setShadow F.THY_PERIOD_SEL.addr 0).setShadow
     F.THY_QUIET_LEAD.addr 0xFFFFFFFF, by decide +kernel⟩,
   ⟨.spi, ⟨0, 0, 3⟩, (({ run with commit := { pend := [3] } }).setShadow F.THY_PERIOD_SEL.addr 0).setShadow
     F.THY_QUIET_LEAD.addr 0xFFFFFFFF, by decide +kernel⟩,
   ⟨.spi, ⟨0, 0, 3⟩, (({ run with commit := { pend := [3] } }).setShadow F.THY_TRIG_SRC.addr 2).setReg F.SYS_VARIANT_MDIES.addr
     8, by decide +kernel⟩⟩

theorem test_meets_LoadShedding :
    (∃ (x : FrameSample) (s : State), s.running = true) ∧
    (∃ (n : Nat) (s : State), s.shaped ∧ 100 ≤ s.ls.overCount ∧ n < 16 ∧ s.chanOn n = true ∧ (∀ m < 16, n < m → s.chanOn m =
      false)) :=
  ⟨⟨{}, run, by decide +kernel⟩,
   ⟨15, (load 15 1).onLs fun x => { x with overCount := 100 }, by decide +kernel⟩⟩

theorem test_meets_CorrectedErrors :
    ∃ (mram : Bool) (s : State), s.cdieRuns = true :=
  ⟨true, run, by decide +kernel⟩

end Sys2Proof.Tests
end

section
/-! SUPPORT. A READ and a WRITE on a link that takes them, and the pages of a unit that is not fitted: PID reads 0xFFFF0000, every
other word 0, and every write is refused with code 0x01 (R6, R70). -/
namespace Sys2Proof.Machine

/-! ### Requests answered at once -/

/-- Where no freeze is in progress no request has to wait for the cores. -/
theorem mustWait_beforeRequest {s : State} (l : Link) (op page word : Nat) (hf : s.frozen = false) :
    (s.beforeRequest l op).mustWait op page word = false := by
  unfold State.mustWait; rw [beforeRequest_frozen l op hf, Bool.false_and]

/-- Where no freeze is in progress a WRITE runs to its end, and its reply is formed in the state it leaves. -/
theorem serveWrite_unfrozen {s : State} (l : Link) (page word : Nat) (v : Word) (hf : s.frozen = false) :
    s.serveWrite l page word v =
      ((s.runWrite l page word v).state, replyToWrite (s.runWrite l page word v).state l page word (s.runWrite l page word v)) := by
  unfold State.serveWrite; rw [if_neg (by simp [hf])]

/-- Where no freeze is in progress a READ is served at once. -/
theorem perform_read_eq {s : State} (l : Link) (page word : Nat) (v : Word) (hf : s.frozen = false) :
    s.perform l 1 0 page word v = (((s.beforeRequest l 1).serveRead l page word v).1,
      some ((s.beforeRequest l 1).serveRead l page word v).2) := by
  unfold State.perform
  show (if _ then _ else if (s.beforeRequest l 1).mustWait 1 page word = true then _ else _ : State × Option Reply) = _
  rw [if_neg (by decide), mustWait_beforeRequest l 1 page word hf]
  rfl

/-- Where no freeze is in progress a WRITE is served at once. -/
theorem perform_write_eq {s : State} (l : Link) (page word : Nat) (v : Word) (hf : s.frozen = false) :
    s.perform l 2 0 page word v = (((s.beforeRequest l 2).serveWrite l page word v).1,
      some ((s.beforeRequest l 2).serveWrite l page word v).2) := by
  unfold State.perform
  show (if _ then _ else if (s.beforeRequest l 2).mustWait 2 page word = true then _ else _ : State × Option Reply) = _
  rw [if_neg (by decide), mustWait_beforeRequest l 2 page word hf]
  rfl

/-- A READ on a link that takes it is served, in a state like `s` with the words that follow the moment up to date. -/
theorem execRead_takes {s : State} {l : Link} (h : s.takes l) (r : Req) :
    ∃ b t, ready b s ∧ exec (.read l r) s = .next t ∧
      linksAside t ((b.beforeRequest l 1).serveRead l r.page.toNat r.word.toNat r.data).1 ∧
      (t.link l).reply = ((b.beforeRequest l 1).serveRead l r.page.toNat r.word.toNat r.data).2 := by
  have ⟨_, _, hfz, _⟩ := h
  obtain ⟨b, c, y, hb, hp, ht, hy⟩ := submit_takes h (op := 1) (rsv := 0) r.data (by omega) (by omega) r.page.isLt r.word.isLt
  rw [perform_read_eq l _ _ _ ((frozen_of_linksAside hb.1.1).trans hfz)] at hp
  obtain ⟨rfl, hr⟩ := Prod.mk.inj hp
  exact ⟨b, _, hb, rfl, ht, hy.trans (Option.some.inj hr).symm⟩

/-- A WRITE on a link that takes it runs, in a state like `s` with the words that follow the moment up to date. -/
theorem execWrite_takes {s : State} {l : Link} (h : s.takes l) (r : Req) :
    ∃ b t, ready b s ∧ exec (.write l r) s = .next t ∧
      linksAside t ((b.beforeRequest l 2).runWrite l r.page.toNat r.word.toNat r.data).state ∧
      (t.link l).reply = replyToWrite ((b.beforeRequest l 2).runWrite l r.page.toNat r.word.toNat r.data).state l r.page.toNat
        r.word.toNat ((b.beforeRequest l 2).runWrite l r.page.toNat r.word.toNat r.data) := by
  have ⟨_, _, hfz, _⟩ := h
  obtain ⟨b, c, y, hb, hp, ht, hy⟩ := submit_takes h (op := 2) (rsv := 0) r.data (by omega) (by omega) r.page.isLt r.word.isLt
  have hbf : b.frozen = false := (frozen_of_linksAside hb.1.1).trans hfz
  rw [perform_write_eq l _ _ _ hbf, serveWrite_unfrozen l _ _ _ (beforeRequest_frozen l 2 hbf)] at hp
  obtain ⟨rfl, hr⟩ := Prod.mk.inj hp
  exact ⟨b, _, hb, rfl, ht, hy.trans (Option.some.inj hr).symm⟩

/-- A refusal carries REFUSED, bit 3 of the status byte (R101). -/
@[simp] theorem bit_status_refusal (s : State) (page word code : Nat) : bit (s.refusal page word code).status 3 = true := by
  unfold State.refusal State.reply State.statusByte ofBool
  split <;> split <;> simp [bit]

/-- In service every page is served (R60). -/
theorem servedPage_run {s : State} (hr : s.pwr.phase = .run) (page : Nat) : s.servedPage page = true := by
  unfold State.servedPage State.beforeRun; rw [hr]; rfl

/-! ### Absent pages -/

/-- An MD page is present where its die is one of those fitted. -/
theorem fitted_md {page : Nat} (h : 0x20 ≤ page ∧ page ≤ 0x27) (s : State) : s.fitted page = decide (page - 0x20 < s.dies) := by
  unfold State.fitted; rw [if_pos h]

/-- A BL page is present where its die is one of those fitted. -/
theorem fitted_bl {page : Nat} (h : 0x28 ≤ page ∧ page ≤ 0x2F) (s : State) : s.fitted page = decide (page - 0x28 < s.dies) := by
  unfold State.fitted; rw [if_neg (by omega), if_pos h]

/-- The mapped pages of motion and gate drive are present with M. -/
theorem fitted_motion {page : Nat} (h : 0x40 ≤ page ∧ page ≤ 0x4F) (s : State) :
    s.fitted page = (s.hasM && (pageRow page).isSome) := by
  unfold State.fitted; rw [if_neg (by omega), if_neg (by omega), if_pos h]

/-- The page of Bay is present with B. -/
theorem fitted_bay (s : State) : s.fitted 0x0A = s.hasB := rfl

/-- Each GD page is in the page map. -/
theorem pageRow_gd {page : Nat} (h : 0x49 ≤ page ∧ page ≤ 0x4E) : (pageRow page).isSome = true := by
  obtain ⟨lo, hi⟩ := h
  interval_cases page <;> rfl

/-- A read of an absent page fetches nothing: a GD page is absent only without M. -/
theorem beforeRead_absent {s : State} {page : Nat} (hf : s.fitted page = false) (word : Nat) : s.beforeRead page word = s := by
  unfold State.beforeRead
  by_cases hg : 0x49 ≤ page ∧ page ≤ 0x4E
  · rw [fitted_motion (by omega), pageRow_gd hg, Bool.and_true] at hf
    simp [hf]
  · exact if_neg (by simp only [Bool.and_eq_true, decide_eq_true_eq]; tauto)

theorem pid_absent {s : State} {page : Nat} (hf : s.fitted page = false) : s.pid page = 0xFFFF0000 := by
  unfold State.pid
  split
  · rw [if_neg (by simp [hf])]
  · rfl

theorem readWord_absent {s : State} {page : Nat} (hf : s.fitted page = false) (l : Link) (word : Nat) :
    s.readWord l page word = if word = 0 then 0xFFFF0000 else 0 := by
  unfold State.readWord
  simp only [hf, pid_absent hf, if_true]

/-- In service a READ of an absent page returns what the page shows. -/
theorem serveRead_absent {s : State} {page : Nat} (hr : s.pwr.phase = .run) (hf : s.fitted page = false) (l : Link) (word : Nat)
    (v : Word) : (s.serveRead l page word v).2.data = if word = 0 then 0xFFFF0000 else 0 := by
  unfold State.serveRead
  rw [servedPage_run hr]
  show (s.beforeRead page word).readWord l page word = _
  rw [beforeRead_absent hf, readWord_absent hf]

theorem writeGate_absent {s : State} {page : Nat} (hr : s.pwr.phase = .run) (hc : s.coresHeld = false)
    (hf : s.fitted page = false) (word : Nat) (v : Word) : s.writeGate page word v = some 0x01 := by
  unfold State.writeGate State.romRefuses
  rw [servedPage_run hr, hc, hf, hr]
  rfl

/-- In service a write to an absent page is refused with code 0x01 and changes nothing but what the links keep. -/
theorem runWrite_absent {s : State} {page : Nat} (hr : s.pwr.phase = .run) (hc : s.coresHeld = false)
    (hf : s.fitted page = false) (l : Link) (word : Nat) (v : Word) :
    (s.runWrite l page word v).code = some 0x01 ∧ linksAside (s.runWrite l page word v).state s := by
  unfold State.runWrite
  rw [writeGate_absent hr hc hf]
  exact ⟨rfl, linksAside_mapAll s _ _⟩

/-- R6, R70: a READ of an absent page completes, and answers 0xFFFF0000 for PID and 0 for any other word. -/
theorem read_absentPage {s : State} {l : Link} {r : Req} (h : s.takes l) (hf : s.fitted r.page.toNat = false) :
    ∃ t, exec (.read l r) s = .next t ∧ (t.link l).reply.data = if r.word = 0 then 0xFFFF0000 else 0 := by
  have ⟨hs, _⟩ := h
  obtain ⟨b, t, hb, ht, -, hy⟩ := execRead_takes h r
  obtain ⟨hrun, -, hfit⟩ := takes_of_twin (twin_trans (beforeRequest_twin b l 1) (refreshShown_twin hb.1))
  have h0 : (r.word.toNat = 0) = (r.word = 0) := by simp [← BitVec.toNat_inj]
  exact ⟨t, ht, by simp only [hy, serveRead_absent (hrun hs) ((hfit _).trans hf), h0]⟩

/-- R6, R70: a WRITE to an absent page is refused with code 0x01, and only the words that show the moment change. -/
theorem write_absentPage {s : State} {l : Link} {r : Req} (h : s.takes l) (hf : s.fitted r.page.toNat = false) :
    ∃ t, exec (.write l r) s = .next t ∧ Claims.refusedWith t l 0x01 ∧ linksAside t s.refreshShown := by
  have ⟨hs, hheld, _⟩ := h
  obtain ⟨b, t, hb, ht, hside, hy⟩ := execWrite_takes h r
  have htw := twin_trans (beforeRequest_twin b l 2) (refreshShown_twin hb.1)
  obtain ⟨hrun, hcores, hfit⟩ := takes_of_twin htw
  obtain ⟨hcode, hsame⟩ := runWrite_absent (hrun hs) (hcores.trans hheld) ((hfit _).trans hf) l r.word.toNat r.data
  unfold replyToWrite at hy
  rw [hcode] at hy
  refine ⟨t, ht, ?_, linksAside_trans hside (linksAside_trans hsame htw.1)⟩
  unfold Claims.refusedWith
  rw [hy]
  exact ⟨bit_status_refusal .., rfl⟩

/-! ### The units of R6 -/

/-- The pages of the dies from the number of fitted dies on are absent. -/
theorem not_fitted_beyond_dies {s : State} {page n : Nat} (hn : s.dies = n)
    (hp : (0x20 + n ≤ page ∧ page ≤ 0x27) ∨ (0x28 + n ≤ page ∧ page ≤ 0x2F)) : s.fitted page = false := by
  rcases hp with hmd | hbl
  · rw [fitted_md (by omega), hn]; exact decide_eq_false (by omega)
  · rw [fitted_bl (by omega), hn]; exact decide_eq_false (by omega)

/-- The pages R6 lists for what a variant leaves out are absent. -/
theorem not_fitted_of_unit_absent {s : State} {page : Nat}
    (h : (s.get F.SYS_VARIANT_MDIES = 2 ∧ page ∈ List.range' 0x22 6 ++ List.range' 0x2A 6) ∨
      (s.get F.SYS_VARIANT_MDIES = 4 ∧ page ∈ List.range' 0x24 4 ++ List.range' 0x2C 4) ∨
      (s.hasM = false ∧ page ∈ List.range' 0x40 7 ++ List.range' 0x48 7) ∨ (s.hasB = false ∧ page = 0x0A)) :
    s.fitted page = false := by
  simp only [List.mem_append, List.mem_range'_1] at h
  rcases h with ⟨hn, hp⟩ | ⟨hn, hp⟩ | ⟨hm, hp⟩ | ⟨hb, rfl⟩
  · exact not_fitted_beyond_dies hn (by omega)
  · exact not_fitted_beyond_dies hn (by omega)
  · rw [fitted_motion (by omega), hm, Bool.false_and]
  · rw [fitted_bay, hb]

end Sys2Proof.Machine

/-- Settles O55: each page that R6 lists for a variant is absent, and an absent page reads and refuses as R6 says. -/
theorem unfittedUnits : Obligations.UnfittedUnits := by
  unfold Obligations.UnfittedUnits
  intro l r s htakes hunit
  have hunit' := hunit.imp_right (Or.imp_right (Or.imp_right (And.imp_right (congrArg BitVec.toNat))))
  have hf : s.fitted r.page.toNat = false := Sys2Proof.Machine.not_fitted_of_unit_absent hunit'
  obtain ⟨t, ht, hrefused, hsame⟩ := Sys2Proof.Machine.write_absentPage htakes hf
  exact ⟨Sys2Proof.Machine.read_absentPage htakes hf, t, ht, hrefused.1, hsame⟩
end

section
/-! SUPPORT. The pages R69 lists, which are the pages that can be fitted (R70); what discarding pages does to the shadow, the active
copy and the pending pages; and what a READ of an RWS word answers in each view (R81). -/
namespace Sys2Proof.Machine

/-! ### The pages of R69 -/

/-- The rows of the page map lie within the pages R69 lists. -/
theorem pageTable_within_mappedPages :
    ∀ r ∈ pageTable, ∀ p ∈ List.range' r.first (r.last + 1 - r.first), p ∈ Claims.mappedPages := by decide

/-- A page with a row in the page map is one R69 lists. -/
theorem mem_mappedPages_of_pageRow {page : Nat} (h : (pageRow page).isSome = true) : page ∈ Claims.mappedPages := by
  obtain ⟨r, hr⟩ := Option.isSome_iff_exists.mp h
  have hin := List.find?_some hr
  simp only [Bool.and_eq_true, decide_eq_true_eq] at hin
  exact pageTable_within_mappedPages r (List.mem_of_find?_eq_some hr) page (List.mem_range'_1.mpr ⟨hin.1, by omega⟩)

/-- The pages of the dies are listed. -/
theorem mem_mappedPages_of_die {page : Nat} (h : 0x20 ≤ page ∧ page ≤ 0x2F) : page ∈ Claims.mappedPages := by
  have hr : page ∈ List.range' 0x20 16 := List.mem_range'_1.mpr ⟨h.1, by omega⟩
  simp only [Claims.mappedPages, List.mem_append, hr, true_or, or_true]

/-- R70: only a page that R69 lists can be fitted. -/
theorem mem_mappedPages_of_fitted {s : State} {page : Nat} (h : s.fitted page = true) : page ∈ Claims.mappedPages := by
  by_cases hdie : 0x20 ≤ page ∧ page ≤ 0x2F
  · exact mem_mappedPages_of_die hdie
  · apply mem_mappedPages_of_pageRow
    unfold State.fitted at h
    rw [if_neg (by omega), if_neg (by omega)] at h
    split at h
    · exact (Bool.and_eq_true_iff.mp h).2
    · split at h
      · rename_i hbay; rw [hbay]; rfl
      · exact h

/-- A fitted page is at most 0x52, the last page R69 lists. -/
theorem page_le_of_fitted {s : State} {page : Nat} (h : s.fitted page = true) : page ≤ 0x52 := by
  have all : ∀ p ∈ Claims.mappedPages, p ≤ 0x52 := by decide
  exact all page (mem_mappedPages_of_fitted h)

end Sys2Proof.Machine

/-- Settles O54: a page R69 does not list is never fitted, and an absent page reads and refuses as R6 says. -/
theorem unmappedPages : Obligations.UnmappedPages := by
  unfold Obligations.UnmappedPages
  intro l r s htakes hunmapped
  have hf : s.fitted r.page.toNat = false :=
    Bool.eq_false_iff.mpr fun hfit => hunmapped (Sys2Proof.Machine.mem_mappedPages_of_fitted hfit)
  obtain ⟨t, ht, hrefused, hsame⟩ := Sys2Proof.Machine.write_absentPage htakes hf
  exact ⟨Sys2Proof.Machine.read_absentPage htakes hf, t, ht, hrefused.1, hsame⟩

namespace Sys2Proof.Machine

/-! ### Discarding pages (R81) -/

/-- A state that differs from `s` in its links only has the shadows, the active copy and the commit of `s`. -/
theorem shadowReg_of_linksAside {a s : State} (h : linksAside a s) (b : Nat) : a.shadowReg b = s.shadowReg b := by rw [h]; rfl
theorem regs_of_linksAside {a s : State} (h : linksAside a s) : a.regs = s.regs := by rw [h]
theorem commit_of_linksAside {a s : State} (h : linksAside a s) : a.commit = s.commit := by rw [h]

/-- The active copy of one word of a page goes into its shadow. -/
def State.takeActive (page : Nat) (s : State) (word : Nat) : State := s.setShadow (addrOf page word) (s.reg (addrOf page word))

/-- The words of the configuration of a page. -/
def configAddrs (page : Nat) : List Nat := configWords.map (addrOf page)

theorem mem_configAddrs {page word : Nat} (h : word ∈ configWords) : addrOf page word ∈ configAddrs page := List.mem_map_of_mem h

theorem takeActive_foldl_regs (page : Nat) (l : List Nat) (s : State) : (l.foldl (State.takeActive page) s).regs = s.regs := by
  induction l generalizing s with
  | nil => rfl
  | cons w l ih => exact ih _

theorem takeActive_foldl_commit (page : Nat) (l : List Nat) (s : State) : (l.foldl (State.takeActive page) s).commit = s.commit := by
  induction l generalizing s with
  | nil => rfl
  | cons w l ih => exact ih _

/-- The shadow of the words copied is their active copy, and no other shadow changes. -/
theorem shadowReg_takeActive_foldl (page : Nat) (l : List Nat) (s : State) (b : Nat) :
    (l.foldl (State.takeActive page) s).shadowReg b = if b ∈ l.map (addrOf page) then s.reg b else s.shadowReg b := by
  induction l generalizing s with
  | nil => rfl
  | cons w l ih =>
    rw [List.foldl_cons, ih]
    unfold State.takeActive
    by_cases hw : b = addrOf page w
    · simp [hw]
    · simp [State.shadowReg_setShadow, hw]

/-- Discarding a page copies its configuration, and clears its pending bit and what counts of its writes. -/
theorem discardPage_eq (s : State) (page : Nat) :
    s.discardPage page = (configWords.foldl (State.takeActive page) s).onCommit fun c => { c with
      pend := c.pend.filter (· != page), written := c.written.filter fun a => a / 256 != page
      adopted := c.adopted && !safetyPage page } := rfl

@[simp] theorem discardPage_regs (s : State) (page : Nat) : (s.discardPage page).regs = s.regs := by
  rw [discardPage_eq, State.onCommit_regs, takeActive_foldl_regs]

@[simp] theorem reg_discardPage (s : State) (page b : Nat) : (s.discardPage page).reg b = s.reg b := by
  unfold State.reg; rw [discardPage_regs]

theorem discardPage_pend (s : State) (page : Nat) : (s.discardPage page).commit.pend = s.commit.pend.filter (· != page) := by
  simp only [discardPage_eq, State.onCommit_commit, takeActive_foldl_commit]

theorem shadowReg_discardPage (s : State) (page b : Nat) :
    (s.discardPage page).shadowReg b = if b ∈ configAddrs page then s.reg b else s.shadowReg b := by
  rw [discardPage_eq, State.onCommit_shadowReg, shadowReg_takeActive_foldl]; rfl

theorem discardPages_regs (l : List Nat) (s : State) : (l.foldl State.discardPage s).regs = s.regs := by
  induction l generalizing s with
  | nil => rfl
  | cons p l ih => rw [List.foldl_cons, ih, discardPage_regs]

/-- A page discarded is no longer pending, and no page becomes pending. -/
theorem mem_discardPages_pend {l : List Nat} {s : State} {q : Nat} (h : q ∈ (l.foldl State.discardPage s).commit.pend) :
    q ∈ s.commit.pend ∧ q ∉ l := by
  induction l generalizing s with
  | nil => exact ⟨h, List.not_mem_nil⟩
  | cons p l ih =>
    rw [List.foldl_cons] at h
    obtain ⟨hq, hl⟩ := ih h
    rw [discardPage_pend, List.mem_filter, bne_iff_ne] at hq
    exact ⟨hq.1, by simp [hq.2, hl]⟩

/-- The shadows of the pages discarded are their active copies, and no other shadow changes. -/
theorem shadowReg_discardPages (l : List Nat) (s : State) (b : Nat) :
    (l.foldl State.discardPage s).shadowReg b = if ∃ p ∈ l, b ∈ configAddrs p then s.reg b else s.shadowReg b := by
  induction l generalizing s with
  | nil => simp
  | cons p l ih =>
    rw [List.foldl_cons, ih, reg_discardPage, shadowReg_discardPage]
    by_cases hp : b ∈ configAddrs p
    · simp [hp]
    · simp [hp]

/-- The pages a write to CFG_DISCARD names. -/
def State.discarded (s : State) (v : Word) : List Nat :=
  let n := bitsOf v 15 0
  if n = 0xFFFF then s.commit.pend else if s.fitted n && n != 0 && n != 2 then [n] else []

theorem writeDiscard_state (s : State) (v : Word) : (s.writeDiscard v).1 = (s.discarded v).foldl State.discardPage s := rfl

/-- A fitted page other than SYS and CFG is discarded by its number. -/
theorem discarded_page {s : State} {p : Nat} (hf : s.fitted p = true) (h0 : p ≠ 0) (h2 : p ≠ 2) :
    s.discarded (BitVec.ofNat 32 p) = [p] := by
  have hp := page_le_of_fitted hf
  have hn : bitsOf (BitVec.ofNat 32 p) 15 0 = p := by unfold bitsOf; rw [BitVec.toNat_ofNat]; omega
  unfold State.discarded
  simp only [hn]
  rw [if_neg (by omega), if_pos (by simp [hf, h0, h2])]

/-- 0xFFFF names every pending page. -/
theorem discarded_all (s : State) : s.discarded 0xFFFF = s.commit.pend := rfl

/-- A value of 16 bits passes the range check of CFG_DISCARD as it is. -/
theorem checkWrite_discard {v : Word} (h : v.toNat < 65536) : checkWrite rCFG_DISCARD.rows 0 v = (v, []) := by
  have hrsv : bitsOf v 31 16 = 0 := by unfold bitsOf; omega
  have hword : withBits (withBits 0 31 16 0) 15 0 (bitsOf v 15 0) = v := by
    apply BitVec.eq_of_toNat_eq
    rw [withBits_toNat _ _ _ _ (by omega) (by omega), withBits_toNat _ _ _ _ (by omega) (by omega)]
    unfold bitsOf
    simp; omega
  have hclamps : reservedClamp 31 16 v = [] := if_pos hrsv
  refine Prod.ext hword ?_
  simp [checkWrite, rCFG_DISCARD, FieldRow.check, Legal.check, hclamps]

/-- R81: a write to CFG_DISCARD leaves a state that is, but for the links, the one that discards the pages it names, begun in a state
like `s` with the words that follow the moment up to date. -/
theorem exec_cfgDiscard_takes {s : State} {l : Link} (h : s.takes l) {v : Word} (hv : v.toNat < 65536) :
    ∃ a t, twin a s.refreshShown ∧ exec (.cfgDiscard l v) s = .next t ∧
      linksAside t ((a.discarded v).foldl State.discardPage a) := by
  obtain ⟨a, ha, hx⟩ := hostWrite_command (page := 0x02) (word := 0x0E) (row := rCFG_DISCARD) h rfl (by omega) (by omega) (by omega)
    (by omega) rfl rfl rfl (checkWrite_discard hv)
  exact ⟨a, _, ha, rfl, hx⟩

/-- The words of the configuration of a page lie from word 8 to word 0x5F. -/
theorem configWords_bounds {w : Nat} (h : w ∈ configWords) : 8 ≤ w ∧ w < 0x60 := by
  have all : ∀ w ∈ configWords, 8 ≤ w ∧ w < 0x60 := by decide
  exact all w h

/-- R81: every page discarded is pending no more, and its shadow is the active copy, of which no word changes. -/
theorem discarded_effect {a s t : State} {l : List Nat} (ha : twin a s.refreshShown)
    (ht : linksAside t (l.foldl State.discardPage a)) :
    (∀ q ∈ t.commit.pend, q ∈ s.commit.pend ∧ q ∉ l) ∧
      (∀ p ∈ l, ∀ w ∈ configWords, t.shadowReg (addrOf p w) = s.reg (addrOf p w)) ∧ t.regs = s.refreshShown.regs := by
  refine ⟨fun q hq => ?_, fun p hp w hw => ?_, ?_⟩
  · rw [commit_of_linksAside ht] at hq
    obtain ⟨hin, hout⟩ := mem_discardPages_pend hq
    rw [commit_of_linksAside ha.1, State.refreshShown_commit] at hin
    exact ⟨hin, hout⟩
  · have hb := configWords_bounds hw
    have hmod : addrOf p w % 256 = w := addrOf_mod (by omega)
    rw [shadowReg_of_linksAside ht, shadowReg_discardPages, if_pos ⟨p, hp, mem_configAddrs hw⟩, reg_of_linksAside ha.1,
      State.reg_refreshShown_low (by omega) (by omega)]
  · rw [regs_of_linksAside ht, discardPages_regs, regs_of_linksAside ha.1]

/-- R81: the number of a fitted page other than SYS and CFG discards the page. -/
theorem cfgDiscard_page (l : Link) (p : Nat) (s : State) : Claims.cfgDiscard l p s := by
  intro htakes hf h0 h2
  have hp := page_le_of_fitted hf
  obtain ⟨a, t, ha, ht, hside⟩ := exec_cfgDiscard_takes htakes (v := BitVec.ofNat 32 p) (by rw [BitVec.toNat_ofNat]; omega)
  obtain ⟨-, -, hfit⟩ := takes_of_twin ha
  rw [discarded_page ((hfit p).trans hf) h0 h2] at hside
  obtain ⟨hpend, hshadow, hregs⟩ := discarded_effect ha hside
  have hself : p ∈ [p] := List.mem_singleton_self p
  exact ⟨t, ht, fun hq => (hpend p hq).2 hself, hshadow p hself, hregs⟩

/-- R81: 0xFFFF discards every pending page. -/
theorem cfgDiscard_all (l : Link) (p w : Nat) (s : State) : Claims.discardAll l p w s := by
  intro htakes hp hw
  obtain ⟨a, t, ha, ht, hside⟩ := exec_cfgDiscard_takes htakes (v := 0xFFFF) (by decide)
  rw [discarded_all, commit_of_linksAside ha.1, State.refreshShown_commit] at hside
  obtain ⟨hpend, hshadow, hregs⟩ := discarded_effect ha hside
  have hnone : t.commit.pend = [] := List.eq_nil_iff_forall_not_mem.mpr fun q hq => (hpend q hq).2 (hpend q hq).1
  exact ⟨t, ht, hnone, hshadow p hp w hw, hregs⟩

/-! ### The views of the configuration (R81) -/

/-- The rows of the field tables with RWS fields lie below word 0x60. -/
theorem rws_rows_low : ∀ r ∈ pageTable, ∀ q ∈ r.regs, q.hasAccess .rws = true → q.hi < 0x60 := by decide

/-- A word with RWS fields lies below word 0x60. -/
theorem word_lt_of_rws {page word : Nat} (h : wordHas page word .rws = true) : word < 0x60 := by
  unfold wordHas at h
  cases hq : regRow page word with
  | none => rw [hq] at h; cases h
  | some q =>
    rw [hq] at h
    unfold regRow at hq
    split at hq
    · rename_i r hr
      have hin := List.find?_some hq
      simp only [Bool.and_eq_true, decide_eq_true_eq] at hin
      have := rws_rows_low r (List.mem_of_find?_eq_some hr) q (List.mem_of_find?_eq_some hq) h
      omega
    · cases hq

/-- The words of CFG_PEND have no RWS fields. -/
theorem not_pend_of_rws {page word : Nat} (h : wordHas page word .rws = true) : ¬ (page = 0x02 ∧ 0x09 ≤ word ∧ word ≤ 0x0C) := by
  have none_rws : ∀ w ∈ List.range' 0x09 4, wordHas 0x02 w .rws = false := by decide
  rintro ⟨rfl, hlo, hhi⟩
  have := none_rws word (List.mem_range'_1.mpr ⟨hlo, by omega⟩)
  rw [this] at h
  cases h

/-- Below word 0x60 only CFG_PEND shows something other than what is stored. -/
theorem shownLow_stored (s : State) (l : Link) {page word : Nat} (hw : word < 0x60)
    (hp : ¬ (page = 0x02 ∧ 0x09 ≤ word ∧ word ≤ 0x0C)) (v : Word) : s.shownLow l page word v = v := by
  unfold State.shownLow
  rw [if_neg hp]
  iterate 6 rw [if_neg (by omega)]

theorem shownHigh_stored (s : State) (l : Link) (page : Nat) {word : Nat} (hw : word < 0x60) (v : Word) :
    s.shownHigh l page word v = v := by
  unfold State.shownHigh
  iterate 19 rw [if_neg (by omega)]

/-- In service the saved values of CFG read as they are stored. -/
theorem beforeSaved_run {s : State} (hr : s.pwr.phase = .run) (a : Nat) (v : Word) : s.beforeSaved a v = v := by
  unfold State.beforeSaved State.beforeRun; rw [hr]; rfl

/-- A word below 0x60 is none of the words that show the moment. -/
theorem derivedWords_contains_low {page word : Nat} (hw : word < 0x60) : derivedWords.contains (addrOf page word) = false := by
  have all : ∀ a ∈ derivedWords, 0x60 ≤ a % 256 := by decide
  rw [List.contains_eq_mem, decide_eq_false_iff_not]
  intro hmem
  have := all _ hmem
  rw [addrOf_mod (by omega)] at this
  omega

/-- A readable RWS word returns its shadow, or in the active view its active copy. -/
theorem readWord_rws {s : State} {page word : Nat} (hr : s.pwr.phase = .run) (hf : s.fitted page = true) (h8 : 8 ≤ word)
    (hrws : wordHas page word .rws = true) (hwo : wordHas page word .wo = false) (l : Link) :
    s.readWord l page word = if s.viewActive l then s.reg (addrOf page word) else s.shadowReg (addrOf page word) := by
  have hw := word_lt_of_rws hrws
  unfold State.readWord
  simp only [hf, hwo, hrws, derivedWords_contains_low hw, Bool.true_and, Bool.false_eq_true, if_false,
    shownLow_stored s l hw (not_pend_of_rws hrws), shownHigh_stored s l page hw, beforeSaved_run hr, ite_self]
  rw [if_neg (by omega), if_neg (by simp), if_neg (by omega), if_neg (by omega)]
  cases s.viewActive l <;> rfl

/-- A read of a word other than GD_LIVE fetches nothing. -/
theorem beforeRead_of_ne_live (s : State) (page : Nat) {word : Nat} (h : word ≠ 0xE1) : s.beforeRead page word = s :=
  if_neg (by simp [h])

/-- In service a READ answers what the link reads in the word once a read of GD_LIVE has fetched. -/
theorem serveRead_data {s : State} (hr : s.pwr.phase = .run) (l : Link) (page word : Nat) (v : Word) :
    (s.serveRead l page word v).2.data = (s.beforeRead page word).readWord l page word := by
  unfold State.serveRead; rw [servedPage_run hr]; rfl

/-- On the way to a request the view of a link stays. -/
theorem viewActive_of_twin {a s : State} (h : twin a s.refreshShown) (l : Link) : a.viewActive l = s.viewActive l := by
  unfold State.viewActive
  rw [reg_of_linksAside h.1, State.reg_refreshShown_low (by decide) (by decide)]

/-- On the way to a request the shadows stay. -/
theorem shadowReg_of_twin {a s : State} (h : twin a s.refreshShown) (b : Nat) : a.shadowReg b = s.shadowReg b :=
  (shadowReg_of_linksAside h.1 b).trans (State.shadowReg_refreshShown s b)

/-- R81: a READ of a readable RWS word completes, and answers its shadow, or in the active view its active copy. -/
theorem read_rws {s : State} {l : Link} {r : Req} (h : s.takes l) (hf : s.fitted r.page.toNat = true) (h8 : 8 ≤ r.word.toNat)
    (hrws : wordHas r.page.toNat r.word.toNat .rws = true) (hwo : wordHas r.page.toNat r.word.toNat .wo = false) :
    ∃ t, exec (.read l r) s = .next t ∧ (t.link l).reply.data =
      if s.viewActive l then s.reg (addrOf r.page.toNat r.word.toNat) else s.shadowReg (addrOf r.page.toNat r.word.toNat) := by
  have ⟨hs, _⟩ := h
  have hw := word_lt_of_rws hrws
  have hmod : addrOf r.page.toNat r.word.toNat % 256 = r.word.toNat := addrOf_mod r.word.isLt
  obtain ⟨b, t, hb, ht, -, hy⟩ := execRead_takes h r
  have htw := twin_trans (beforeRequest_twin b l 1) (refreshShown_twin hb.1)
  obtain ⟨hrun, -, hfit⟩ := takes_of_twin htw
  refine ⟨t, ht, ?_⟩
  rw [hy, serveRead_data (hrun hs), beforeRead_of_ne_live _ _ (by omega),
    readWord_rws (hrun hs) ((hfit _).trans hf) h8 hrws hwo, viewActive_of_twin htw, shadowReg_of_twin htw,
    reg_of_linksAside htw.1, State.reg_refreshShown_low (by omega) (by omega)]

end Sys2Proof.Machine

/-- Settles O56: the pages discarded take their active copies and are pending no more, and a READ follows the link's view. -/
theorem discardAndView : Obligations.DiscardAndView := by
  unfold Obligations.DiscardAndView
  refine ⟨Sys2Proof.Machine.cfgDiscard_page, Sys2Proof.Machine.cfgDiscard_all, ?_, ?_⟩
  · intro l r s htakes hf h8 hrws hwo hview
    obtain ⟨t, ht, hdata⟩ := Sys2Proof.Machine.read_rws htakes hf h8 hrws hwo
    exact ⟨t, ht, hdata.trans (if_neg (by simp [hview]))⟩
  · intro l r s htakes hf h8 hrws hwo hview
    obtain ⟨t, ht, hdata⟩ := Sys2Proof.Machine.read_rws htakes hf h8 hrws hwo
    exact ⟨t, ht, hdata.trans (if_pos hview)⟩
end

section
/-! SUPPORT. A READ of a word that is not tracked, which returns with STALE and REPEAT clear (R102). -/
namespace Sys2Proof.Machine

/-! ### The status byte of a READ (R101, R102) -/

/-- Of the status byte with no other bits given, every bit between DEGRADED (bit 1) and ATTN (bit 7) is clear (R101). -/
theorem bit_statusByte_zero (s : State) {b : Nat} (h : 2 ≤ b ∧ b ≤ 6) : bit (s.statusByte 0) b = false := by
  obtain ⟨lo, hi⟩ := h
  unfold State.statusByte ofBool
  interval_cases b <;> split <;> split <;> rfl

/-- R102: the words that are not tracked. -/
theorem tracked_eq_false {s : State} {page word : Nat} (h : s.fitted page = false ∨ word < 0x60 ∨ 0xDF < word ∨
    wordHas page word .rc = true ∨ wordHas page word .w1c = true) : s.tracked page word = false := by
  unfold State.tracked
  rcases h with hfit | hlow | hhigh | hrc | hw1c
  · simp [hfit]
  · simp [show ¬ 0x60 ≤ word by omega]
  · simp [show ¬ word ≤ 0xDF by omega]
  · simp [hrc]
  · simp [hw1c]

theorem staleOf_untracked {s : State} {page word : Nat} (h : s.tracked page word = false) (l : Link) (requested : Word) :
    s.staleOf l page word requested = false := by
  unfold State.staleOf; rw [h, Bool.false_and]

theorem repeatOf_untracked {s : State} {page word : Nat} (h : s.tracked page word = false) (l : Link) :
    s.repeatOf l page word = false := by
  unfold State.repeatOf; rw [h, Bool.false_and]

/-- In service the status byte of a READ is formed in the state the READ leaves, with the STALE and REPEAT of the state before. -/
theorem serveRead_status {s : State} (hr : s.pwr.phase = .run) (l : Link) (page word : Nat) (v : Word) :
    (s.serveRead l page word v).2.status = (s.serveRead l page word v).1.statusByte
      (staleBit (s.staleOf l page word v) + repeatBit (s.repeatOf l page word)) := by
  unfold State.serveRead; rw [servedPage_run hr]; rfl

/-- In service a READ of a word that is not tracked adds no bits to the status byte. -/
theorem serveRead_status_untracked {s : State} (hr : s.pwr.phase = .run) {page word : Nat} (h : s.tracked page word = false)
    (l : Link) (v : Word) : (s.serveRead l page word v).2.status = (s.serveRead l page word v).1.statusByte 0 := by
  rw [serveRead_status hr, staleOf_untracked h, repeatOf_untracked h]; rfl

/-- A word is tracked or not by the pages that are fitted. -/
theorem tracked_of_fitted {a s : State} {page : Nat} (h : a.fitted page = s.fitted page) (word : Nat) :
    a.tracked page word = s.tracked page word := by
  unfold State.tracked; rw [h]

/-- A READ of a word that is not tracked completes, and every bit of its status byte between DEGRADED and ATTN is clear. -/
theorem read_untracked {s : State} {l : Link} {r : Req} (h : s.takes l) (hu : s.tracked r.page.toNat r.word.toNat = false) :
    ∃ t, exec (.read l r) s = .next t ∧ ∀ b, 2 ≤ b ∧ b ≤ 6 → bit (t.link l).reply.status b = false := by
  have ⟨hs, _⟩ := h
  obtain ⟨a, t, ha, ht, -, hy⟩ := execRead_takes h r
  obtain ⟨hrun, -, hfit⟩ := takes_of_twin (twin_trans (beforeRequest_twin a l 1) (refreshShown_twin ha.1))
  have hu' := (tracked_of_fitted (hfit _) r.word.toNat).trans hu
  refine ⟨t, ht, fun b hb => ?_⟩
  rw [hy, serveRead_status_untracked (hrun hs) hu']
  exact bit_statusByte_zero _ hb

end Sys2Proof.Machine

/-- Settles O57: a READ of a word that is not tracked completes, and its reply carries neither STALE nor REPEAT. -/
theorem untrackedWords : Obligations.UntrackedWords := by
  unfold Obligations.UntrackedWords
  intro l r s htakes huntracked
  obtain ⟨t, ht, hclear⟩ := Sys2Proof.Machine.read_untracked htakes (Sys2Proof.Machine.tracked_eq_false huntracked)
  exact ⟨t, ht, hclear 6 (by decide), hclear 5 (by decide)⟩
end

section
/-! SUPPORT. A COMMIT on a link that takes it, a commit that is refused (R82, R97), and the cross-field checks of THY (R122, R124). -/
namespace Sys2Proof.Machine

/-! ### A refused commit -/

/-- Where no freeze is in progress a COMMIT is served at once. -/
theorem perform_commit_eq {s : State} (l : Link) (page word : Nat) (v : Word) (hf : s.frozen = false) :
    s.perform l 4 0 page word v = (((s.beforeRequest l 4).serveCommit l page word v).1,
      some ((s.beforeRequest l 4).serveCommit l page word v).2) := by
  unfold State.perform
  show (if _ then _ else if (s.beforeRequest l 4).mustWait 4 page word = true then _ else _ : State × Option Reply) = _
  rw [if_neg (by decide), mustWait_beforeRequest l 4 page word hf]
  rfl

/-- A COMMIT on a link that takes it is served, in a state like `s` with the words that follow the moment up to date. -/
theorem execCommit_takes {s : State} {l : Link} (h : s.takes l) (r : Req) :
    ∃ a t, twin a s.refreshShown ∧ exec (.commit l r) s = .next t ∧
      linksAside t (a.serveCommit l r.page.toNat r.word.toNat r.data).1 ∧
      (t.link l).reply = (a.serveCommit l r.page.toNat r.word.toNat r.data).2 := by
  have ⟨_, _, hfz, _⟩ := h
  obtain ⟨b, c, y, hb, hp, ht, hy⟩ := submit_takes h (op := 4) (rsv := 0) r.data (by omega) (by omega) r.page.isLt r.word.isLt
  rw [perform_commit_eq l _ _ _ ((frozen_of_linksAside hb.1.1).trans hfz)] at hp
  obtain ⟨rfl, hr⟩ := Prod.mk.inj hp
  exact ⟨_, _, twin_trans (beforeRequest_twin b l 4) (refreshShown_twin hb.1), rfl, ht, hy.trans (Option.some.inj hr).symm⟩

/-- In service with a core, a commit request that is refused answers with its code, in the state it leaves. -/
theorem serveCommit_refused {s : State} {l : Link} {v : Word} {c : Nat} (hr : s.pwr.phase = .run) (hc : s.coresHeld = false)
    (h : (s.requestCommit l v).2 = some c) (page word : Nat) :
    s.serveCommit l page word v = ((s.requestCommit l v).1, (s.requestCommit l v).1.refusal page word c) := by
  have hb : s.beforeRun = false := by unfold State.beforeRun; rw [hr]; rfl
  unfold State.serveCommit
  simp only [hb, hc, h, Bool.false_eq_true, if_false]

/-- A refused commit leaves what the commit chapter keeps, pending pages among it. -/
theorem refuseCommit_commit (s : State) (page word code : Nat) : (s.refuseCommit page word code).1.commit = s.commit := by
  simp [State.refuseCommit, State.showResult]

/-- A refused commit shows why in CFG_RESULT.CODE. -/
theorem refuseCommit_code (s : State) (page word : Nat) {code : Nat} (h : code < 256) :
    (s.refuseCommit page word code).1.get F.CFG_RESULT_CODE = code := by
  unfold State.refuseCommit State.flag State.showResult
  rw [State.get_set_other (by decide) (by decide), State.get_set_fits _ _ _ (by unfold Fld.ok; decide) h]

/-- R82, R97: where the request is refused whatever the traffic of the links, a COMMIT completes with code 0x04, shows why in
CFG_RESULT, and leaves every pending page. -/
theorem commit_refused {s : State} {l : Link} {r : Req} {code : Nat} (h : s.takes l) (hcode : code < 256)
    (href : ∀ a, twin a s.refreshShown → ∃ page word, a.requestCommit l r.data = a.refuseCommit page word code) :
    ∃ t, exec (.commit l r) s = .next t ∧ Claims.refusedWith t l 0x04 ∧ t.get F.CFG_RESULT_CODE = code ∧
      t.commit = s.commit := by
  have ⟨hs, hheld, _⟩ := h
  obtain ⟨a, t, ha, ht, hside, hy⟩ := execCommit_takes h r
  obtain ⟨hrun, hcores, -⟩ := takes_of_twin ha
  obtain ⟨page, word, hreq⟩ := href a ha
  rw [serveCommit_refused (hrun hs) (hcores.trans hheld) (c := 0x04) (by rw [hreq]; rfl), hreq] at hside hy
  dsimp only at hside hy
  refine ⟨t, ht, ?_, (get_of_linksAside hside _).trans (refuseCommit_code a page word hcode), ?_⟩
  · unfold Claims.refusedWith
    rw [hy]
    exact ⟨bit_status_refusal .., rfl⟩
  · rw [commit_of_linksAside hside, refuseCommit_commit, commit_of_linksAside ha.1, State.refreshShown_commit]

/-! ### The pages a commit names -/

/-- With no commit open, a commit of a pending page outside SAF and SCH, alone or among all pending pages, is decided for pages
that hold it (R82, R398). -/
theorem requestCommit_of_pending {s : State} {l : Link} {v : Word} {p : Nat} (hopen : s.commit.accepted = none)
    (hp : p ∈ s.commit.pend) (hf : s.fitted p = true) (h0 : p ≠ 0) (h2 : p ≠ 2) (hsaf : safetyPage p = false)
    (hv : v.toNat = p ∨ v.toNat = 0xFFFF) :
    ∃ pages, p ∈ pages ∧ s.requestCommit l v = s.decideCommit (linkNo l) pages := by
  have hclosed : s.commitOpen = false := by unfold State.commitOpen; rw [hopen]; rfl
  have hle := page_le_of_fitted hf
  unfold State.requestCommit
  simp only [hclosed, Bool.false_eq_true, if_false]
  rcases hv with halone | hall
  · refine ⟨s.commit.pend.filter (· == p), List.mem_filter.mpr ⟨hp, beq_self_eq_true p⟩, ?_⟩
    rw [halone, if_neg (by omega), if_neg (by simp [hf]; omega), hsaf]
    rfl
  · exact ⟨_, List.mem_filter.mpr ⟨hp, by simp [hsaf]⟩, if_pos hall⟩

/-- R82: a commit of pages that fail a cross-field check is refused as CROSS_FIELD. -/
theorem decideCommit_of_finding {s : State} {pages : List Nat} {p : Nat} (hp : p ∈ pages)
    (h : (s.crossField pages).isSome = true) (link : Nat) :
    ∃ page word, s.decideCommit link pages = s.refuseCommit page word 1 := by
  obtain ⟨f, hf⟩ := Option.isSome_iff_exists.mp h
  refine ⟨f.1, f.2, ?_⟩
  unfold State.decideCommit
  rw [if_neg (List.ne_nil_of_mem hp), hf]

/-! ### The checks of THY (R122, R124) -/

/-- A commit that names the page of a field leaves the field's shadow. -/
theorem after_of_named {n : List Nat} {f : Fld} (h : f.page ∈ n) (s : State) : s.after n f = s.after [f.page] f := by
  simp [State.after, h]

/-- Some findings have a first one. -/
theorem firstFinding_isSome {f : Finding} {l : List Finding} (h : f ∈ l) : (firstFinding l).isSome = true := by
  cases l with
  | nil => cases h
  | cons x l =>
    unfold firstFinding
    split
    · split <;> rfl
    · rfl

theorem mem_finding {n : List Nat} {page : Nat} (h : page ∈ n) (word : Nat) : (page, word) ∈ finding n page word true := by
  simp [finding, h]

/-- What THY holds after its commit breaks R122 or R124: LEAD above three frame periods, or the PWM of a G-die that is not fitted. -/
def State.thyBreach (s : State) : Prop :=
  3 * periodOf (s.after [3] F.THY_PERIOD_SEL) < s.after [3] F.THY_QUIET_LEAD ∨ (s.after [3] F.THY_TRIG_SRC = 2 ∧ s.hasM = false)

/-- A breach of THY is found by every commit that names THY. -/
theorem crossField_of_thyBreach {s : State} {n : List Nat} (hn : 3 ∈ n) (h : s.thyBreach) : (s.crossField n).isSome = true := by
  have hfield : ∀ f : Fld, f.page = 3 → s.after n f = s.after [3] f := fun f hf => hf ▸ after_of_named (hf ▸ hn) s
  have hfound : ∃ f, f ∈ s.checkFrame n := by
    unfold State.checkFrame
    simp only [hfield F.THY_PERIOD_SEL rfl, hfield F.THY_QUIET_LEAD rfl, hfield F.THY_TRIG_SRC rfl, List.mem_append]
    rcases h with hlead | ⟨hsrc, hm⟩
    · rw [decide_eq_true hlead]
      exact ⟨_, .inl (.inl (.inr (mem_finding hn 0x08)))⟩
    · rw [decide_eq_true hsrc, hm]
      exact ⟨_, .inl (.inr (mem_finding hn 0x0A))⟩
  obtain ⟨f, hf⟩ := hfound
  refine firstFinding_isSome (f := f) ?_
  simp only [List.mem_append, hf, true_or]

/-- On the way to a request a breach of THY stays. -/
theorem thyBreach_of_twin {a s : State} (ha : twin a s.refreshShown) (h : s.thyBreach) : a.thyBreach := by
  have hafter : ∀ f : Fld, f.page = 3 → a.after [3] f = s.after [3] f := fun f hf => by
    simp [State.after, hf, shadowReg_of_twin ha]
  have hm : a.hasM = s.hasM := by
    unfold State.hasM State.on State.get
    rw [reg_of_linksAside ha.1, State.reg_refreshShown_low (by decide) (by decide)]
  unfold State.thyBreach at *
  rwa [hafter _ rfl, hafter _ rfl, hafter _ rfl, hm]

/-- The page of THY is always fitted. -/
theorem fitted_thy (s : State) : s.fitted 3 = true := rfl

/-- R122, R124: a COMMIT that names a pending THY with a breach is refused as CROSS_FIELD and leaves every pending page. -/
theorem commit_thyBreach {s : State} {l : Link} {r : Req} (h : s.takes l) (hopen : s.commit.accepted = none)
    (hnamed : (r.data = 3 ∧ 3 ∈ s.commit.pend) ∨ (r.data = 0xFFFF ∧ 3 ∈ s.committable l)) (hbad : s.thyBreach) :
    ∃ t, exec (.commit l r) s = .next t ∧ Claims.refusedWith t l 0x04 ∧ t.get F.CFG_RESULT_CODE = 1 ∧
      t.commit = s.commit := by
  have hpend : 3 ∈ s.commit.pend := hnamed.elim And.right fun hall => List.mem_of_mem_filter hall.2
  have hdata : r.data.toNat = 3 ∨ r.data.toNat = 0xFFFF :=
    hnamed.imp (fun halone => by rw [halone.1]; rfl) fun hall => by rw [hall.1]; rfl
  refine commit_refused h (by decide) fun a ha => ?_
  have hsame : a.commit = s.commit := (commit_of_linksAside ha.1).trans (State.refreshShown_commit s)
  obtain ⟨pages, hin, hreq⟩ := requestCommit_of_pending (l := l) (hsame ▸ hopen) (hsame ▸ hpend) (fitted_thy a) (by decide)
    (by decide) rfl hdata
  rw [hreq]
  exact decideCommit_of_finding hin (crossField_of_thyBreach hin (thyBreach_of_twin ha hbad)) _

end Sys2Proof.Machine

/-- Settles O58: each of the two faults is a breach of THY, which every commit that names THY finds. -/
theorem thyCrossFieldChecks : Obligations.ThyCrossFieldChecks := by
  unfold Obligations.ThyCrossFieldChecks
  constructor
  · intro l r s htakes hopen hnamed hlead
    exact Sys2Proof.Machine.commit_thyBreach htakes hopen hnamed (.inl hlead)
  · intro l r s htakes hopen hnamed hsrc hm
    exact Sys2Proof.Machine.commit_thyBreach htakes hopen hnamed (.inr ⟨hsrc, hm⟩)
end

section
/-! SUPPORT. The load switches: what a change of one channel leaves, the count of frames above 16,000 mA, and shedding (R373). -/
namespace Sys2Proof.Machine

/-! ### One channel changes -/

@[simp] theorem showChans_ls (s : State) : s.showChans.ls = s.ls :=
  (alters_showChans s (sub_refl _) (alters_refl _ s)).ls (by decide +kernel)

@[simp] theorem showChans_rsm (s : State) : s.showChans.rsm = s.rsm :=
  (alters_showChans s (sub_refl _) (alters_refl _ s)).rsm (by decide +kernel)

@[simp] theorem onChan_ls (s : State) (n : Nat) (f : ChanSt → ChanSt) :
    (s.onChan n f).ls = { s.ls with chans := s.ls.chans.modify n f } := showChans_ls _

@[simp] theorem onChan_rsm (s : State) (n : Nat) (f : ChanSt → ChanSt) : (s.onChan n f).rsm = s.rsm := showChans_rsm _

/-- A channel that has an entry changes as it is told. -/
theorem chan_onChan_same {s : State} {n : Nat} (h : n < s.ls.chans.length) (f : ChanSt → ChanSt) :
    (s.onChan n f).chan n = f (s.chan n) := by
  simp [State.chan, h]

/-- The other channels stay. -/
theorem chan_onChan_other {n m : Nat} (h : m ≠ n) (s : State) (f : ChanSt → ChanSt) : (s.onChan n f).chan m = s.chan m := by
  simp [State.chan, h.symm]

@[simp] theorem chan_flagEvent (s : State) (f : Fld) (cls n : Nat) : (s.flagEvent f cls).chan n = s.chan n := by
  simp [State.chan]

/-- R374: a channel that has an entry ends LATCHED, all else of it as before. -/
theorem chan_chanLatch_same {s : State} {n : Nat} (h : n < s.ls.chans.length) :
    (s.chanLatch n).chan n = { s.chan n with state := 4 } := by
  unfold State.chanLatch
  split
  case isTrue h4 => rw [← h4]
  case isFalse => rw [chan_flagEvent, chan_onChan_same h]

theorem chan_chanLatch_other {n m : Nat} (h : m ≠ n) (s : State) : (s.chanLatch n).chan m = s.chan m := by
  unfold State.chanLatch
  split
  · rfl
  · rw [chan_flagEvent, chan_onChan_other h]

/-! ### Changes that leave the count of R373 -/

@[simp] theorem dropOpenLoad_overCount (s : State) (n : Nat) : (s.dropOpenLoad n).ls.overCount = s.ls.overCount := by
  unfold State.dropOpenLoad; split <;> simp

@[simp] theorem chanLatch_overCount (s : State) (n : Nat) : (s.chanLatch n).ls.overCount = s.ls.overCount := by
  unfold State.chanLatch; split <;> simp

@[simp] theorem endWaiting_overCount (s : State) (n : Nat) : (s.endWaiting n).ls.overCount = s.ls.overCount := by
  unfold State.endWaiting; split_ifs <;> simp

/-! ### The count of frames above 16,000 mA (R373) -/

/-- From the count `c` of the frame before, the count has gone on by what LSW_ITOT shows. -/
def State.overCountedFrom (c : Nat) (t : State) : Prop :=
  t.ls.overCount = if 16000 < t.get F.LSW_ITOT_MA then c + 1 else 0

/-- All words and parts of the state but what the load switches keep and LSW_ITOT. -/
def loadsAside : Nat := (2 ^ 2 ^ 15 - 1) ^^^ partLs ^^^ 2 ^ wordBit F.LSW_ITOT_MA.addr

/-- A set is a part of `loadsAside`; for what an operation may alter, a closed number, this is computed where it is used. -/
theorem sub_loadsAside {a : Nat} (h : a &&& loadsAside = a := by decide +kernel) : Sub a loadsAside := h

/-- An operation beside the load switches leaves their state. -/
theorem ls_of_loadsAside {s t : State} (h : Alters loadsAside s t) : t.ls = s.ls := h.ls (by decide +kernel)

/-- An operation beside the load switches leaves the count and LSW_ITOT. -/
theorem overCountedFrom_of_loadsAside {c : Nat} {s t : State} (h : Alters loadsAside s t) (hs : s.overCountedFrom c) :
    t.overCountedFrom c := by
  have hitot : t.get F.LSW_ITOT_MA = s.get F.LSW_ITOT_MA := by
    unfold State.get; rw [h.reg _ (by decide +kernel)]
  unfold State.overCountedFrom
  rw [ls_of_loadsAside h, hitot]
  exact hs

/-- The count takes the total itself, LSW_ITOT the total up to 65,535 mA: both lie on the same side of 16,000 mA. -/
theorem overCountedFrom_total (s : State) (total : Nat) :
    ((s.set F.LSW_ITOT_MA (min total 65535)).onLs fun l =>
      { l with overCount := if 16000 < total then l.overCount + 1 else 0 }).overCountedFrom s.ls.overCount := by
  have hitot : (s.set F.LSW_ITOT_MA (min total 65535)).get F.LSW_ITOT_MA = min total 65535 :=
    State.get_set_fits _ _ _ (by unfold Fld.ok; decide) (by simp only [F.LSW_ITOT_MA]; omega)
  have hside : 16000 < min total 65535 ↔ 16000 < total := by omega
  show (if 16000 < total then (s.set F.LSW_ITOT_MA _).ls.overCount + 1 else 0) =
    if 16000 < (s.set F.LSW_ITOT_MA (min total 65535)).get F.LSW_ITOT_MA then s.ls.overCount + 1 else 0
  simp only [hitot, hside, State.set_ls]

/-- Steps that each leave the count leave it together. -/
theorem overCount_foldl {f : State → Nat → State} (hf : ∀ s n, (f s n).ls.overCount = s.ls.overCount) (l : List Nat)
    (s : State) : (l.foldl f s).ls.overCount = s.ls.overCount :=
  List.foldlRecOn l f (motive := fun t => t.ls.overCount = s.ls.overCount) rfl fun t ht n _ => (hf t n).trans ht

/-- The frame of the load switches counts from the count before. -/
theorem publishLoads_overCounted (s : State) (seq : Word) (ma peaks : List Nat) (zones : List Int) :
    (s.publishLoads seq ma peaks zones).overCountedFrom s.ls.overCount := by
  have hpublish : ∀ {c p : Nat} {t : State}, Sub (pubMask p) loadsAside → t.overCountedFrom c →
      (t.publish p seq).overCountedFrom c := fun hp => overCountedFrom_of_loadsAside (alters_publish hp (alters_refl _ _))
  unfold State.publishLoads
  extract_lets checked shown total temp zoned counts
  have hchecked : checked.ls.overCount = s.ls.overCount := by
    unfold checked
    rw [overCount_foldl]
    intro t n
    rw [endWaiting_overCount, onChan_ls]
    split_ifs <;> simp
  have hshown : shown.ls.overCount = checked.ls.overCount := by
    unfold shown
    exact overCount_foldl (fun t n => by rw [State.put_ls]) chanList checked
  have hzoned : zoned.ls.overCount = shown.ls.overCount := by
    unfold zoned
    exact overCount_foldl (fun t n => by rw [State.put_ls]) (List.range 4) shown
  have hcounted := overCountedFrom_total ((zoned.set F.LSW_ZSTAT_HOT (bitMap 8 zoned.ls.hot.contains)).set F.LSW_ZSTAT_SENSOR
    (bitMap 8 zoned.ls.sensor.contains)) total
  rw [State.set_ls, State.set_ls, hzoned, hshown, hchecked] at hcounted
  exact hpublish sub_loadsAside (hpublish sub_loadsAside (hpublish sub_loadsAside hcounted))

/-- A frame publishes its cells and currents, which leave the load switches, then the load switches, then the comparators. -/
theorem publishFrame_overCounted (s : State) (x : FrameSample) : (s.publishFrame x).overCountedFrom s.ls.overCount := by
  unfold State.publishFrame
  extract_lets seq lost bled now m0 lostM0 buffered cells currents rest
  have hlost : Alters loadsAside s lostM0 :=
    alters_applyIf (fun _ h => alters_loseM0 _ _ sub_loadsAside (alters_calMissed _ sub_loadsAside h))
      (alters_bleedAll _ x sub_loadsAside (alters_refl _ s))
  have hcells : Alters loadsAside s cells :=
    alters_foldl (fun _ e h => alters_publishCells _ e.1 e.2 sub_loadsAside h)
      (alters_foldl (fun _ k h => alters_bufferFrame _ x k sub_loadsAside h) hlost)
  have hcurrents : Alters loadsAside s currents :=
    alters_applyIf (fun _ h => alters_calMissed _ sub_loadsAside h) (alters_publishM0 _ seq m0 sub_loadsAside hcells)
  have hrest : Alters loadsAside s rest :=
    alters_foldl (fun _ e h => alters_publishRest _ e.1 e.2 sub_loadsAside h) hcurrents
  refine overCountedFrom_of_loadsAside (alters_cmpBoundary _ seq sub_loadsAside (alters_refl _ _)) ?_
  rw [← ls_of_loadsAside hrest]
  exact publishLoads_overCounted rest seq x.loads x.peaks x.zones

/-- What a frame boundary does before and after its publication leaves the count. -/
theorem nextFrame_overCounted (s : State) (x : FrameSample) : (s.nextFrame x).overCountedFrom s.ls.overCount := by
  unfold State.nextFrame
  extract_lets old b n reached late published begun
  have hlate : Alters loadsAside s late := by
    refine alters_foldl (fun _ k h => alters_publishLate _ k sub_loadsAside h) ?_
    refine alters_stepDelays _ sub_loadsAside ?_
    refine alters_restorePaths _ sub_loadsAside ?_
    refine alters_rejoinDies _ sub_loadsAside ?_
    refine alters_refreshShown _ sub_loadsAside ?_
    exact alters_advanceTo sub_loadsAside (alters_refl _ s)
  have hbegun : Alters loadsAside (late.publishFrame x) begun := by
    refine alters_onThy _ _ sub_loadsAside ?_
    refine alters_set sub_loadsAside ?_
    exact alters_sageCapture _ n.toNat old sub_loadsAside (alters_refl _ _)
  have hend : Alters loadsAside (late.publishFrame x) ((begun.takePeriod true).dropSageFrames.beginFrame x) := by
    refine alters_beginFrame _ x sub_loadsAside ?_
    refine alters_dropSageFrames _ sub_loadsAside ?_
    exact alters_takePeriod _ true sub_loadsAside hbegun
  rw [← ls_of_loadsAside hlate]
  exact overCountedFrom_of_loadsAside hend (publishFrame_overCounted late x)

/-- R373: in service a frame boundary completes and counts from the count before. -/
theorem frameBoundary_overCounted (x : FrameSample) (s : State) : Claims.overCounted x s := fun hrunning =>
  ⟨s.nextFrame x, if_pos hrunning, nextFrame_overCounted s x⟩

/-! ### Shedding (R373) -/

/-- The highest-numbered channel that is on is the last of those that are on. -/
theorem getLast?_chansOn {s : State} {n : Nat} (hn : n < 16) (hon : s.chanOn n = true)
    (habove : ∀ m < 16, n < m → s.chanOn m = false) : (chanList.filter s.chanOn).getLast? = some n := by
  have hsplit : chanList = List.range n ++ [n] ++ (List.range (15 - n)).map (n + 1 + ·) := by
    rw [← List.range_succ, ← List.range_add, chanList, show n + 1 + (15 - n) = 16 by omega]
  have hnone : ((List.range (15 - n)).map (n + 1 + ·)).filter s.chanOn = [] := by
    simp only [List.filter_eq_nil_iff, List.mem_map, List.mem_range]
    rintro _ ⟨i, hi, rfl⟩
    simp [habove (n + 1 + i) (by omega) (by omega)]
  rw [hsplit, List.filter_append, hnone, List.append_nil, List.filter_append, List.filter_singleton, hon]
  simp

/-- With a channel on at the hundredth frame, that channel takes cause 4, SHED sets with its event, and the channel latches. -/
theorem execShed_of_highest {s : State} {n : Nat} (hcount : 100 ≤ s.ls.overCount)
    (hlast : (chanList.filter s.chanOn).getLast? = some n) :
    execShed s = .next ((((s.onLs fun l => { l with overCount := 0 }).onChan n fun c =>
      { c with cause := 4, offAt := s.now }).flagEvent F.LSW_IFLAG_SHED 1).chanLatch n) := by
  have hsame : (chanList.filter (s.onLs fun l => { l with overCount := 0 }).chanOn).getLast? = some n := hlast
  unfold execShed
  simp only [hcount, hsame, if_true]
  rfl

/-- A flag set with its event reads 1. -/
theorem on_flagEvent_same (s : State) {f : Fld} (cls : Nat) (h : f.ok) : (s.flagEvent f cls).on f = true :=
  State.on_flag_same s f h

/-- A flag with its event adds the event to what waits for Rosemary. -/
theorem flagEvent_inbox (s : State) (f : Fld) (cls : Nat) : ∃ e : Event,
    (s.flagEvent f cls).rsm.inbox = s.rsm.inbox ++ [e] ∧ e.page = f.page ∧ e.low = .flag f.lo ∧ e.cls = cls := by
  unfold State.flagEvent State.raise
  rw [State.send_inbox, State.flag_rsm]
  exact ⟨_, rfl, rfl, rfl, rfl⟩

/-- A latch adds at most its own event to what waits for Rosemary. -/
theorem chanLatch_inbox (s : State) (n : Nat) : ∃ l, (s.chanLatch n).rsm.inbox = s.rsm.inbox ++ l := by
  unfold State.chanLatch
  split
  · exact ⟨[], (List.append_nil _).symm⟩
  · obtain ⟨e, he, -⟩ := flagEvent_inbox (s.onChan n fun c => { c with state := 4 }) (chanBit F.LSA_IFLAG_LATCH n) 2
    exact ⟨[e], by rw [he, onChan_rsm]⟩

/-- A latch leaves LSW_IFLAG. -/
theorem chanLatch_shed (s : State) (n : Nat) : (s.chanLatch n).on F.LSW_IFLAG_SHED = s.on F.LSW_IFLAG_SHED := by
  unfold State.on State.get
  rw [(alters_chanLatch s n (sub_refl _) (alters_refl _ s)).reg _ (by decide +kernel)]

/-- The event of a flag is raised, whether or not the latch that follows raises its own. -/
theorem raised_flagEvent_chanLatch {s a : State} (h : a.rsm.inbox = s.rsm.inbox) (f : Fld) (cls n : Nat) :
    raised s ((a.flagEvent f cls).chanLatch n) f.page (.flag f.lo) cls := by
  obtain ⟨e, he, hpage, hlow, hcls⟩ := flagEvent_inbox a f cls
  obtain ⟨l, hl⟩ := chanLatch_inbox (a.flagEvent f cls) n
  unfold raised
  rw [hl, he, h, List.append_assoc, List.drop_left]
  exact ⟨e, List.mem_append_left _ (List.mem_singleton_self e), hpage, hlow, hcls⟩

/-- R373: shedding turns off the highest-numbered channel that is on, and leaves the others. -/
theorem execShed_highest (n : Nat) (s : State) : Claims.shed n s := by
  intro ⟨_, _, hlen, _⟩ hcount hn hon habove
  have hentry : n < s.ls.chans.length := hlen ▸ hn
  refine ⟨_, execShed_of_highest hcount (getLast?_chansOn hn hon habove), ?_, ?_, ?_, ?_, ?_, ?_⟩
  · rw [chan_chanLatch_same (by simpa using hentry)]
  · rw [chan_chanLatch_same (by simpa using hentry), chan_flagEvent, chan_onChan_same (by simpa using hentry)]
  · simp
  · rw [chanLatch_shed]
    exact on_flagEvent_same _ _ (by unfold Fld.ok; decide)
  · refine raised_flagEvent_chanLatch ?_ F.LSW_IFLAG_SHED 1 n
    rw [onChan_rsm]
    rfl
  · intro m _ hne
    rw [chan_chanLatch_other hne, chan_flagEvent, chan_onChan_other hne]
    rfl

end Sys2Proof.Machine

/-- Settles O59: a frame boundary counts by what LSW_ITOT shows, and shedding latches the highest-numbered channel that is on. -/
theorem loadShedding : Obligations.LoadShedding := by
  unfold Obligations.LoadShedding
  exact ⟨Sys2Proof.Machine.frameBoundary_overCounted, Sys2Proof.Machine.execShed_highest⟩
end

section
/-! SUPPORT. A corrected ECC error: the half of TMP_ECC that counts it, the errors of its kind within the last hour, and the event
of the error that takes them above 64 (R411). -/
namespace Sys2Proof.Machine

/-! ### The two kinds of error -/

/-- The half of TMP_ECC that counts the errors of MRAM or of SRAM. -/
def eccHalf (mram : Bool) : Fld := if mram then F.TMP_ECC_MRAM else F.TMP_ECC_SRAM

/-- The kept times of the errors of MRAM or of SRAM. -/
def ThermalSt.eccTimes (t : ThermalSt) (mram : Bool) : List Nat := if mram then t.mramTimes else t.sramTimes

/-- The kept times of one kind of error replaced. -/
def ThermalSt.withEccTimes (t : ThermalSt) (mram : Bool) (l : List Nat) : ThermalSt :=
  if mram then { t with mramTimes := l } else { t with sramTimes := l }

theorem eccHalf_ok (mram : Bool) : (eccHalf mram).ok := by
  cases mram <;> (unfold Fld.ok; decide)

theorem eccHalf_not (mram : Bool) : eccHalf (!mram) = if mram then F.TMP_ECC_SRAM else F.TMP_ECC_MRAM := by
  cases mram <;> rfl

@[simp] theorem ThermalSt.eccTimes_withEccTimes (t : ThermalSt) (mram : Bool) (l : List Nat) :
    (t.withEccTimes mram l).eccTimes mram = l := by
  cases mram <;> rfl

/-! ### The error counted -/

/-- A corrected error counted in its half of TMP_ECC and kept among those of the last hour. -/
def State.eccCounted (s : State) (mram : Bool) : State :=
  (s.count (eccHalf mram)).onTmp fun t => t.withEccTimes mram (hourly s.now (t.eccTimes mram))

/-- Its half counts up to 65535. -/
theorem eccCounted_get_same (s : State) (mram : Bool) :
    (s.eccCounted mram).get (eccHalf mram) = min (s.get (eccHalf mram) + 1) 65535 := by
  have hmax : 2 ^ ((eccHalf mram).hi + 1 - (eccHalf mram).lo) - 1 = 65535 := by cases mram <;> rfl
  unfold State.eccCounted
  rw [State.onTmp_get, State.get_count_same s _ (eccHalf_ok mram), hmax]

/-- The halves lie apart in one word, so the other half stays. -/
theorem eccCounted_get_other (s : State) (mram : Bool) : (s.eccCounted mram).get (eccHalf (!mram)) = s.get (eccHalf (!mram)) := by
  have hword : (eccHalf (!mram)).addr = (eccHalf mram).addr := by cases mram <;> rfl
  have hbits : (eccHalf (!mram)).hi < (eccHalf mram).lo ∨ (eccHalf mram).hi < (eccHalf (!mram)).lo := by cases mram <;> decide
  exact State.get_set_apart (eccHalf_ok mram) hword hbits s _

@[simp] theorem eccCounted_rsm (s : State) (mram : Bool) : (s.eccCounted mram).rsm = s.rsm := State.count_rsm s _

/-- The new error joins those of its kind within the last hour. -/
theorem eccCounted_times (s : State) (mram : Bool) :
    (s.eccCounted mram).tmp.eccTimes mram = hourly s.now (s.tmp.eccTimes mram) := by
  simp [State.eccCounted]

/-! ### The limit exceeded -/

/-- The hour's errors of one kind have exceeded the limit: their times are let go, and ECC sets with an event of class 1. -/
def State.eccExceeded (s : State) (mram : Bool) : State :=
  (s.onTmp fun t => t.withEccTimes mram []).flagEvent F.TMP_IFLAG_ECC 1 [F.TMP_ECC_SRAM.addr]

/-- The flag lies in a word of its own, apart from both counts. -/
theorem eccExceeded_get (s : State) (mram half : Bool) : (s.eccExceeded mram).get (eccHalf half) = s.get (eccHalf half) := by
  have hword : (eccHalf half).addr ≠ F.TMP_IFLAG_ECC.addr := by cases half <;> decide
  have hseq : (eccHalf half).addr ≠ addrOf (F.TMP_IFLAG_ECC.addr / 256) 7 := by cases half <;> decide
  unfold State.eccExceeded
  rw [State.get_flagEvent, State.flag, State.get_set_other hword hseq, State.onTmp_get]

theorem eccExceeded_on (s : State) (mram : Bool) : (s.eccExceeded mram).on F.TMP_IFLAG_ECC = true :=
  State.on_flag_same _ _ (by unfold Fld.ok; decide)

/-- A flag set with its event raises that event, whatever registers it names as effects. -/
theorem raised_flagEvent {s a : State} (h : a.rsm.inbox = s.rsm.inbox) (f : Fld) (cls : Nat) (effects : List Nat) :
    raised s (a.flagEvent f cls effects) f.page (.flag f.lo) cls := by
  unfold raised State.flagEvent State.raise
  rw [State.send_inbox, State.flag_rsm, h, List.drop_left]
  exact ⟨_, List.mem_singleton_self _, rfl, rfl, rfl⟩

/-! ### The command (R411) -/

/-- While the C-die runs the error is counted, and exceeds the limit when 64 of its kind lie within the hour before it. -/
theorem execEccCorrected_of_runs {s : State} (mram : Bool) (hruns : s.cdieRuns = true) :
    execEccCorrected mram s = .next (if 64 < (hourly s.now (s.tmp.eccTimes mram)).length then
      (s.eccCounted mram).eccExceeded mram else s.eccCounted mram) := by
  rw [← eccCounted_times, apply_ite Host.Outcome.next]
  unfold execEccCorrected
  rw [if_neg (by simp [hruns])]
  cases mram <;> rfl

/-- R411: a corrected error counts in its half, and the one that makes more than 64 of its kind within an hour raises the event. -/
theorem execEccCorrected_counts (mram : Bool) (s : State) : Claims.eccCorrected mram s := by
  intro hruns
  have hexec := execEccCorrected_of_runs mram hruns
  rw [← eccHalf_not]
  by_cases hmore : 64 < (hourly s.now (s.tmp.eccTimes mram)).length
  · rw [if_pos hmore] at hexec
    have hsixtyFour := Nat.le_of_lt_succ hmore
    refine ⟨_, hexec, ?_, ?_, fun _ => ⟨eccExceeded_on _ _, ?_⟩, fun hless => absurd hless (Nat.not_lt.mpr hsixtyFour)⟩
    · exact (eccExceeded_get _ mram mram).trans (eccCounted_get_same s mram)
    · exact (eccExceeded_get _ mram !mram).trans (eccCounted_get_other s mram)
    · exact raised_flagEvent (congrArg (·.inbox) (eccCounted_rsm s mram)) F.TMP_IFLAG_ECC 1 _
  · rw [if_neg hmore] at hexec
    exact ⟨_, hexec, eccCounted_get_same s mram, eccCounted_get_other s mram,
      fun hmany => absurd (Nat.lt_succ_of_le hmany) hmore, fun _ => eccCounted_rsm s mram⟩

end Sys2Proof.Machine

/-- Settles O60: a corrected error counts in its half of TMP_ECC; more than 64 of a kind within an hour set ECC with its event. -/
theorem correctedErrors : Obligations.CorrectedErrors := by
  unfold Obligations.CorrectedErrors
  exact Sys2Proof.Machine.execEccCorrected_counts
end

section
/-! SUPPORT. What a step keeps, derived from what every command keeps (`goes_exec_zero`). -/
set_option Elab.async false
namespace Sys2Proof.Machine

/-- A well-formed state keeps itself: its own queue, from time 0 on. -/
theorem keep_of_wellFormed {s : State} (h : Claims.wellFormed s) : Keep 0 s.pending s := by
  obtain ⟨hfiles, hshaped⟩ := h
  obtain ⟨hregs, hshadow⟩ := (Bool.and_eq_true _ _).mp hfiles
  exact ⟨hregs, hshadow, rfl, Nat.zero_le _, hshaped⟩

/-- What keeps is well-formed. -/
theorem wellFormed_of_keep {n : Nat} {q : List Instr} {s : State} (h : Keep n q s) : Claims.wellFormed s := by
  obtain ⟨hregs, hshadow, -, -, hshaped⟩ := h
  exact ⟨(Bool.and_eq_true _ _).mpr ⟨hregs, hshadow⟩, hshaped⟩

/-- A step from a well-formed state, with the queue empty or not, answers a well-formed state. -/
theorem step_wellFormed {s : State} (h : Claims.wellFormed s) : ∃ t, step s = .next t ∧ Claims.wellFormed t := by
  unfold step
  cases hq : s.pending with
  | nil => exact ⟨_, rfl, h⟩
  | cons c rest =>
    obtain ⟨t, hexec, hkeep⟩ := goes_exec_zero c { s with pending := rest } (keep_of_wellFormed (s := { s with pending := rest }) h)
    exact ⟨t, hexec, wellFormed_of_keep hkeep⟩

end Sys2Proof.Machine
end

/-- Settles O5: every command keeps both files canonical and every list at its length, and a step is a command or 1 µs. -/
theorem stepKeepsWellFormed : Obligations.StepKeepsWellFormed := by
  unfold Obligations.StepKeepsWellFormed
  exact fun _ => Sys2Proof.Machine.step_wellFormed

section
/-! SUPPORT. A READ that clears a word of PWR publishes the page: its FRAMESEQ changes, which the frame of a READ does not list. -/
set_option Elab.async false
namespace Sys2Proof.Machine

/-- In RUN, in frame 5, with PWR_RSTCAUSE showing POWER_ON, and the page not published yet. -/
def causeUnread : State :=
  ((({ State.reset with pwr := { State.reset.pwr with phase := .run } }).setReg F.THY_FSEQ_SEQ.addr 5).setReg (addrOf 0x06 0x65) 1)

/-- A read of PWR_RSTCAUSE on SPI. -/
def readCause : Instr := .read .spi ⟨0x06, 0x65, 0⟩

theorem causeUnread_takes : causeUnread.takes .spi := by decide +kernel

/-- R24, R75: the read clears the cause, which dates the page to frame 5. -/
theorem readCause_dates_page : ∃ t, exec readCause causeUnread = .next t ∧ t.reg (addrOf 0x06 7) = 5 := by
  obtain ⟨t, ht⟩ : ∃ t, exec readCause causeUnread = .next t := ⟨_, rfl⟩
  refine ⟨t, ht, ?_⟩
  have hreg : (match exec readCause causeUnread with
    | .next u => u.reg (addrOf 0x06 7)
    | _ => 0) = 5 := by decide +kernel
  rw [ht] at hreg
  exact hreg

theorem causeUnread_undated : causeUnread.reg (addrOf 0x06 7) ≠ 5 := by decide +kernel

end Sys2Proof.Machine
end

open Sys2Proof.Machine in
/-- Refutes O7: on a state in RUN whose PWR_RSTCAUSE is 1, a READ of that word on SPI clears it and so dates the PWR page; FRAMESEQ of
PWR goes from 0xFFFFFFFF to 5, and the frame of the READ lists neither that word nor any other of the page but PWR_RSTCAUSE. -/
theorem not_commandFrames : ¬ Obligations.CommandFrames := by
  unfold Obligations.CommandFrames
  intro h
  obtain ⟨t, hexec, hdated⟩ := readCause_dates_page
  have hsame := h readCause _ causeUnread t rfl (fun l hl => by cases hl; exact causeUnread_takes) hexec
  obtain ⟨hwords, -, -⟩ := hsame
  have hkept : t.reg (addrOf 0x06 7) = causeUnread.reg (addrOf 0x06 7) := hwords _ (by decide +kernel)
  exact causeUnread_undated (hkept.symm.trans hdated)

section
/-! SUPPORT. Reset: a word the model gives no value of its own reads the Reset value of its field table. -/
set_option Elab.async false
namespace Sys2Proof.Machine

/-- A word that no entry lists is not found. -/
theorem lookupReg_none_of_not_mem {a : Nat} {l : Regs} (h : a ∉ l.map (·.1)) : lookupReg a l = none := by
  induction l with
  | nil => rfl
  | cons e l ih =>
    obtain ⟨b, w⟩ := e
    rw [List.map_cons, List.mem_cons, not_or] at h
    obtain ⟨hb, hl⟩ := h
    rw [lookupReg, if_neg hb, ih hl]

/-- The words that reset lists. -/
theorem reset_listed : State.reset.regs.map (·.1) = [0x0008, 0x000C, 0x000D, 0x000E, 0x0A80, 0x0A83] := rfl

theorem reset_reg_unlisted {a : Nat} (h : a ∉ [0x0008, 0x000C, 0x000D, 0x000E, 0x0A80, 0x0A83]) : State.reset.reg a = resetAt a := by
  unfold State.reg
  rw [lookupReg_none_of_not_mem (reset_listed ▸ h)]
  rfl

end Sys2Proof.Machine
end

/-- Settles O1: a step takes the front of a queue that is not empty. -/
theorem stepRunsFrontCommand : Obligations.StepRunsFrontCommand := by
  unfold Obligations.StepRunsFrontCommand
  exact fun _ _ _ => rfl

/-- Settles O2: an empty queue is the other case of a step, and no word decodes. -/
theorem emptyQueueAndWords : Obligations.EmptyQueueAndWords := by
  unfold Obligations.EmptyQueueAndWords
  constructor
  · intro s hempty
    unfold Sys2Proof.Machine.step
    rw [hempty]
  · exact fun _ _ _ => ⟨rfl, rfl⟩

/-- Settles O3: the parts by their defaults, the words by what reset lists. -/
theorem resetState : Obligations.ResetState := by
  unfold Obligations.ResetState Sys2Proof.Claims.resetState
  refine ⟨rfl, rfl, rfl, rfl, rfl, rfl, rfl, rfl, rfl, ?_, rfl, ?_, rfl, rfl, rfl, fun a => Sys2Proof.Machine.reset_reg_unlisted⟩
  · decide +kernel
  · decide +kernel

/-- Settles O4: the six words that reset lists rise and differ from their Reset values. -/
theorem resetIsWellFormed : Obligations.ResetIsWellFormed := by
  unfold Obligations.ResetIsWellFormed Sys2Proof.Claims.wellFormed
  exact ⟨by decide +kernel, by decide +kernel⟩

section
/-! SUPPORT. Fields read after other fields are set: one condition says that a field set leaves another field alone, and what an
operation alters says which fields it leaves alone. -/
set_option Elab.async false
namespace Sys2Proof.Machine

/-! ### Fields apart -/

/-- The field lies in a word (see `Fld.ok`). -/
def Fld.okay (f : Fld) : Bool := decide (f.lo ≤ f.hi) && decide (f.hi < 32) && decide (f.word < 256)

theorem Fld.ok_of_okay {f : Fld} (h : f.okay = true) : f.ok := by
  unfold Fld.okay at h
  simp only [Bool.and_eq_true, decide_eq_true_eq] at h
  exact ⟨h.1.1, h.1.2, h.2⟩

/-- Setting `f` leaves `g` alone: `g` lies in another word, not in FRAMESEQ of `f`'s page, or in other bits of the same word. -/
def Fld.leaves (f g : Fld) : Bool :=
  (g.addr != f.addr && g.addr != addrOf (f.addr / 256) 7) ||
    (f.okay && g.addr == f.addr && (decide (g.hi < f.lo) || decide (f.hi < g.lo)))

@[simp] theorem State.get_set_leaves {f g : Fld} (h : f.leaves g = true) (s : State) (v : Nat) : (s.set f v).get g = s.get g := by
  unfold Fld.leaves at h
  rcases Bool.or_eq_true_iff.mp h with h | h
  · rw [Bool.and_eq_true, bne_iff_ne, bne_iff_ne] at h
    exact State.get_set_other h.1 h.2 s v
  · rw [Bool.and_eq_true, Bool.and_eq_true, beq_iff_eq, Bool.or_eq_true, decide_eq_true_eq, decide_eq_true_eq] at h
    exact State.get_set_apart (Fld.ok_of_okay h.1.1) h.1.2 h.2 s v

@[simp] theorem State.on_set_leaves {f g : Fld} (h : f.leaves g = true) (s : State) (v : Nat) : (s.set f v).on g = s.on g := by
  unfold State.on; rw [State.get_set_leaves h]

@[simp] theorem State.get_setOn_leaves {f g : Fld} (h : f.leaves g = true) (s : State) (b : Bool) : (s.setOn f b).get g = s.get g :=
  State.get_set_leaves h s _

@[simp] theorem State.on_setOn_leaves {f g : Fld} (h : f.leaves g = true) (s : State) (b : Bool) : (s.setOn f b).on g = s.on g :=
  State.on_set_leaves h s _

@[simp] theorem State.get_flag_leaves {f g : Fld} (h : f.leaves g = true) (s : State) : (s.flag f).get g = s.get g :=
  State.get_set_leaves h s _

@[simp] theorem State.on_flag_leaves {f g : Fld} (h : f.leaves g = true) (s : State) : (s.flag f).on g = s.on g :=
  State.on_set_leaves h s _

@[simp] theorem State.get_flagEvent_leaves {f g : Fld} (h : f.leaves g = true) (s : State) (c : Nat) (l : List Nat) :
    (s.flagEvent f c l).get g = s.get g := State.get_set_leaves h s _

@[simp] theorem State.on_flagEvent_leaves {f g : Fld} (h : f.leaves g = true) (s : State) (c : Nat) (l : List Nat) :
    (s.flagEvent f c l).on g = s.on g := State.on_set_leaves h s _

@[simp] theorem State.get_count_leaves {f g : Fld} (h : f.leaves g = true) (s : State) : (s.count f).get g = s.get g :=
  State.get_set_leaves h s _

@[simp] theorem State.on_count_leaves {f g : Fld} (h : f.leaves g = true) (s : State) : (s.count f).on g = s.on g :=
  State.on_set_leaves h s _

/-! ### Fields of one page of a block -/

/-- A field set leaves the fields of other pages alone. -/
theorem Fld.leaves_of_page {f g : Fld} (h : f.page ≠ g.page) : f.leaves g = true := by
  unfold Fld.leaves
  have hf := addr_div f
  have hg := addr_div g
  have hne : g.addr ≠ f.addr := fun e => h (by rw [← hf, ← hg, e])
  have hseq : g.addr ≠ addrOf (f.addr / 256) 7 := fun e => h (by rw [hf] at e; rw [← hg, e, addrOf_div (by omega)])
  rw [bne_iff_ne.mpr hne, bne_iff_ne.mpr hseq]
  rfl

theorem Fld.addr_on {f g : Fld} (h : f.page = g.page) (k : Nat) :
    (f.on k).addr = f.addr + 256 * (k % instancesOf f.page) ∧ (g.on k).addr = g.addr + 256 * (k % instancesOf f.page) := by
  unfold Fld.on Fld.addr addrOf
  rw [h]
  constructor <;> simp only <;> omega

/-- Fields on one page of a block are as far apart as those on the first one. -/
theorem Fld.leaves_on {f g : Fld} (h : f.page = g.page) (hl : f.leaves g = true) (k : Nat) : (f.on k).leaves (g.on k) = true := by
  obtain ⟨hf, hg⟩ := Fld.addr_on h k
  have hword : (f.on k).okay = f.okay := rfl
  have h7 : addrOf ((f.addr + 256 * (k % instancesOf f.page)) / 256) 7 = addrOf (f.addr / 256) 7 + 256 * (k % instancesOf f.page) := by
    unfold addrOf; omega
  unfold Fld.leaves at hl ⊢
  have hshift : ∀ a b c : Nat, (a + c == b + c) = (a == b) := fun a b c => by
    rw [Bool.eq_iff_iff, beq_iff_eq, beq_iff_eq]; omega
  simp only [bne] at hl ⊢
  rw [hf, hg, h7, hword, hshift, hshift]
  exact hl

/-- The pages of two instances differ. -/
theorem Fld.page_on_ne (f : Fld) {i j : Nat} (hi : i < instancesOf f.page) (hj : j < instancesOf f.page) (h : i ≠ j) :
    (f.on i).page ≠ (f.on j).page := by
  unfold Fld.on
  rw [Nat.mod_eq_of_lt hi, Nat.mod_eq_of_lt hj]
  simp only
  omega

/-- The word of a field on a page of a block is the word of the field on the first one, for what operations alter. -/
@[simp] theorem wordBit_on (f : Fld) (k : Nat) : wordBit (f.on k).addr = wordBit f.addr := by
  unfold wordBit
  rw [addr_div, addr_mod, addr_div, addr_mod, blockOf_on]
  rfl

/-! ### Fields as they were set -/

/-- A field of `n` bits set to a number of `n` bits reads it. -/
@[simp] theorem State.get_set_lt {f : Fld} {v : Nat} (h : f.okay = true) (hv : v < 2 ^ (f.hi + 1 - f.lo)) (s : State) : (s.set f v).get f = v :=
  State.get_set_fits s f v (Fld.ok_of_okay h) hv

@[simp] theorem State.on_setOn_okay {f : Fld} (h : f.okay = true) (s : State) (b : Bool) : (s.setOn f b).on f = b :=
  State.on_setOn_same s f b (Fld.ok_of_okay h)

@[simp] theorem State.on_flag_okay {f : Fld} (h : f.okay = true) (s : State) : (s.flag f).on f = true :=
  State.on_flag_same s f (Fld.ok_of_okay h)

@[simp] theorem State.on_flagEvent_okay {f : Fld} (h : f.okay = true) (s : State) (c : Nat) (l : List Nat) : (s.flagEvent f c l).on f = true :=
  State.on_flag_okay h s

@[simp] theorem State.get_count_okay {f : Fld} (h : f.okay = true) (s : State) :
    (s.count f).get f = min (s.get f + 1) (2 ^ (f.hi + 1 - f.lo) - 1) := State.get_count_same s f (Fld.ok_of_okay h)

/-- A field read is a number of its bits. -/
theorem State.get_lt (s : State) (f : Fld) : s.get f < 2 ^ (f.hi + 1 - f.lo) := bitsOf_lt _ _ _

@[simp] theorem State.get_advanceTo (s : State) (t : Nat) (f : Fld) : (s.advanceTo t).get f = s.get f := rfl
@[simp] theorem State.on_advanceTo (s : State) (t : Nat) (f : Fld) : (s.advanceTo t).on f = s.on f := rfl

/-! ### Choices -/

@[simp] theorem State.get_applyIf (s : State) (b : Bool) (f : State → State) (g : Fld) :
    (s.applyIf b f).get g = if b then (f s).get g else s.get g := by unfold State.applyIf; split <;> rfl

@[simp] theorem State.on_applyIf (s : State) (b : Bool) (f : State → State) (g : Fld) :
    (s.applyIf b f).on g = if b then (f s).on g else s.on g := by unfold State.applyIf; split <;> rfl

@[simp] theorem State.get_ite {c : Prop} [Decidable c] (s t : State) (g : Fld) :
    (if c then s else t).get g = if c then s.get g else t.get g := by split <;> rfl

@[simp] theorem State.on_ite {c : Prop} [Decidable c] (s t : State) (g : Fld) :
    (if c then s else t).on g = if c then s.on g else t.on g := by split <;> rfl

/-! ### A part of the state changed in place: the registers are those of the state before it -/

section
variable (u : State) (now : Nat) (shadow : Regs) (published : List Nat) (gdieDown : Bool) (pwr : PowerSt) (pins : Pins) (links : Links)
  (commit : CommitSt) (pw spw : PasswordSt) (fw : FirmwareSt) (thy : ThymeSt) (stk : StackSt) (rsm : RosemarySt) (cyl : LedgerSt)
  (flt : RedundancySt) (dieSt : List DieSt) (line : FaultLineSt) (cur : CurrentSt) (bay : BaySt) (mot : MotionSt) (gate : GateSt)
  (saf : SafetySt) (prot : ProtSt) (tmp : ThermalSt) (ls : LoadSt) (sage : SageSt) (ring : RingSt) (aut : AuthSt) (saved : SavedSt)
  (journal : List JournalEntry) (ratios : List (Nat × Nat)) (pending : List Instr) (g : Fld)

@[simp] theorem State.get_mk : State.get ⟨now, u.regs, shadow, published, gdieDown, pwr, pins, links, commit, pw, spw, fw, thy, stk, rsm, cyl, flt, dieSt, line, cur, bay, mot, gate, saf, prot, tmp, ls, sage, ring, aut, saved, journal, ratios, pending⟩ g = u.get g := rfl

@[simp] theorem State.on_mk : State.on ⟨now, u.regs, shadow, published, gdieDown, pwr, pins, links, commit, pw, spw, fw, thy, stk, rsm, cyl, flt, dieSt, line, cur, bay, mot, gate, saf, prot, tmp, ls, sage, ring, aut, saved, journal, ratios, pending⟩ g = u.on g := rfl

end

/-! ### What an operation leaves alone -/

theorem Alters.get {m : Nat} {s t : State} (h : Alters m s t) (f : Fld)
    (hf : m.testBit (wordBit f.addr) = false) : t.get f = s.get f := by
  unfold State.get; rw [h.reg _ hf]

theorem Alters.getInt {m : Nat} {s t : State} (h : Alters m s t) (f : Fld)
    (hf : m.testBit (wordBit f.addr) = false) : t.getInt f = s.getInt f := by
  unfold State.getInt; rw [h.get f hf]

theorem Alters.on {m : Nat} {s t : State} (h : Alters m s t) (f : Fld)
    (hf : m.testBit (wordBit f.addr) = false) : t.on f = s.on f := by
  unfold State.on; rw [h.get f hf]

/-- What one operation alters, by its lemma. -/
theorem altersOf {m : Nat} {s t : State} (h : Sub m m → Alters m s s → Alters m s t) : Alters m s t :=
  h (sub_refl m) (alters_refl m s)

/-- What alters less alters no more. -/
theorem Alters.mono {m n : Nat} {s t : State} (h : Alters m s t) (hm : Sub m n) : Alters n s t where
  reg := fun a e => h.reg a (sub_no hm e)
  now := fun e => h.now (sub_no hm e)
  shadow := fun e => h.shadow (sub_no hm e)
  published := fun e => h.published (sub_no hm e)
  gdieDown := fun e => h.gdieDown (sub_no hm e)
  pwr := fun e => h.pwr (sub_no hm e)
  pins := fun e => h.pins (sub_no hm e)
  links := fun e => h.links (sub_no hm e)
  commit := fun e => h.commit (sub_no hm e)
  pw := fun e => h.pw (sub_no hm e)
  spw := fun e => h.spw (sub_no hm e)
  fw := fun e => h.fw (sub_no hm e)
  thy := fun e => h.thy (sub_no hm e)
  stk := fun e => h.stk (sub_no hm e)
  rsm := fun e => h.rsm (sub_no hm e)
  cyl := fun e => h.cyl (sub_no hm e)
  flt := fun e => h.flt (sub_no hm e)
  dieSt := fun e => h.dieSt (sub_no hm e)
  line := fun e => h.line (sub_no hm e)
  cur := fun e => h.cur (sub_no hm e)
  bay := fun e => h.bay (sub_no hm e)
  mot := fun e => h.mot (sub_no hm e)
  gate := fun e => h.gate (sub_no hm e)
  saf := fun e => h.saf (sub_no hm e)
  prot := fun e => h.prot (sub_no hm e)
  tmp := fun e => h.tmp (sub_no hm e)
  ls := fun e => h.ls (sub_no hm e)
  sage := fun e => h.sage (sub_no hm e)
  ring := fun e => h.ring (sub_no hm e)
  aut := fun e => h.aut (sub_no hm e)
  saved := fun e => h.saved (sub_no hm e)
  journal := fun e => h.journal (sub_no hm e)
  ratios := fun e => h.ratios (sub_no hm e)
  pending := fun e => h.pending (sub_no hm e)

/-- What two operations alter, one after the other. -/
theorem Alters.trans {m : Nat} {s t u : State} (h : Alters m s t) (h' : Alters m t u) : Alters m s u where
  reg := fun a e => (h'.reg a e).trans (h.reg a e)
  now := fun e => (h'.now e).trans (h.now e)
  shadow := fun e => (h'.shadow e).trans (h.shadow e)
  published := fun e => (h'.published e).trans (h.published e)
  gdieDown := fun e => (h'.gdieDown e).trans (h.gdieDown e)
  pwr := fun e => (h'.pwr e).trans (h.pwr e)
  pins := fun e => (h'.pins e).trans (h.pins e)
  links := fun e => (h'.links e).trans (h.links e)
  commit := fun e => (h'.commit e).trans (h.commit e)
  pw := fun e => (h'.pw e).trans (h.pw e)
  spw := fun e => (h'.spw e).trans (h.spw e)
  fw := fun e => (h'.fw e).trans (h.fw e)
  thy := fun e => (h'.thy e).trans (h.thy e)
  stk := fun e => (h'.stk e).trans (h.stk e)
  rsm := fun e => (h'.rsm e).trans (h.rsm e)
  cyl := fun e => (h'.cyl e).trans (h.cyl e)
  flt := fun e => (h'.flt e).trans (h.flt e)
  dieSt := fun e => (h'.dieSt e).trans (h.dieSt e)
  line := fun e => (h'.line e).trans (h.line e)
  cur := fun e => (h'.cur e).trans (h.cur e)
  bay := fun e => (h'.bay e).trans (h.bay e)
  mot := fun e => (h'.mot e).trans (h.mot e)
  gate := fun e => (h'.gate e).trans (h.gate e)
  saf := fun e => (h'.saf e).trans (h.saf e)
  prot := fun e => (h'.prot e).trans (h.prot e)
  tmp := fun e => (h'.tmp e).trans (h.tmp e)
  ls := fun e => (h'.ls e).trans (h.ls e)
  sage := fun e => (h'.sage e).trans (h.sage e)
  ring := fun e => (h'.ring e).trans (h.ring e)
  aut := fun e => (h'.aut e).trans (h.aut e)
  saved := fun e => (h'.saved e).trans (h.saved e)
  journal := fun e => (h'.journal e).trans (h.journal e)
  ratios := fun e => (h'.ratios e).trans (h.ratios e)
  pending := fun e => (h'.pending e).trans (h.pending e)

/-! ### What is kept for one axis or die -/

theorem State.axis_onAxis (s : State) (a b : Nat) (f : AxisSt → AxisSt) :
    (s.onAxis a f).axis b = if a = b ∧ b < s.mot.axes.length then f (s.axis b) else s.axis b := by
  unfold State.axis State.onAxis
  simp only [List.getElem?_modify]
  by_cases h : a = b
  · subst h
    cases hx : s.mot.axes[a]? with
    | none => simp [List.getElem?_eq_none_iff.mp hx]
    | some x => simp [(List.getElem?_eq_some_iff.mp hx).1]
  · simp [h]

theorem State.die_onDie (s : State) (a b : Nat) (f : DieSt → DieSt) :
    (s.onDie a f).die b = if a = b ∧ b < s.dieSt.length then f (s.die b) else s.die b := by
  unfold State.die State.onDie
  simp only [List.getElem?_modify]
  by_cases h : a = b
  · subst h
    cases hx : s.dieSt[a]? with
    | none => simp [List.getElem?_eq_none_iff.mp hx]
    | some x => simp [(List.getElem?_eq_some_iff.mp hx).1]
  · simp [h]

/-! ### Folds -/

/-- What each step of a fold establishes for its own item, and keeps for the others, holds of every item after the fold. -/
theorem foldl_establishes {α σ : Type} (P : α → σ → Prop) {f : σ → α → σ} (hself : ∀ s a, P a (f s a))
    (hkeep : ∀ s a b, P b s → P b (f s a)) (l : List α) (s : σ) : ∀ a ∈ l, P a (l.foldl f s) := by
  have keep : ∀ (l : List α) (s : σ) (a : α), P a s → P a (l.foldl f s) := by
    intro l
    induction l with
    | nil => exact fun _ _ h => h
    | cons b l ih => exact fun s a h => ih _ _ (hkeep s b a h)
  induction l generalizing s with
  | nil => exact fun _ h => absurd h List.not_mem_nil
  | cons b l ih =>
    intro a ha
    rcases List.mem_cons.mp ha with rfl | ha
    · exact keep l _ _ (hself s a)
    · exact ih _ a ha

/-- What every step of a fold keeps holds after the fold. -/
theorem foldl_keeps {α σ : Type} (P : σ → Prop) {f : σ → α → σ} (hkeep : ∀ s a, P s → P (f s a)) (l : List α) {s : σ} (h : P s) :
    P (l.foldl f s) := by
  induction l generalizing s with
  | nil => exact h
  | cons a l ih => exact ih (hkeep s a h)

end Sys2Proof.Machine
end

section
/-! SUPPORT. Bits of numbers: `withBit` changes one bit, and a field set with one bit changed changes that bit alone. -/
set_option Elab.async false
namespace Sys2Proof.Machine

theorem bit_eq_testBit (v b : Nat) : bit v b = v.testBit b := by
  rw [Nat.testBit_eq_decide_div_mod_eq]
  unfold bit
  rw [Bool.eq_iff_iff, beq_iff_eq, decide_eq_true_eq]

theorem withBit_eq (v b : Nat) (x : Bool) : withBit v b x = 2 ^ b * (2 * (v / 2 ^ (b + 1)) + ofBool x) + v % 2 ^ b := by
  have hlow := Nat.div_add_mod v (2 ^ b)
  have hhigh := Nat.div_add_mod (v / 2 ^ b) 2
  have hdiv : v / 2 ^ (b + 1) = v / 2 ^ b / 2 := by rw [Nat.pow_succ, Nat.div_div_eq_div_mul]
  have hbit : ofBool (bit v b) = v / 2 ^ b % 2 := by
    unfold bit ofBool
    rcases Nat.mod_two_eq_zero_or_one (v / 2 ^ b) with h | h <;> simp [h]
  unfold withBit
  rw [hbit, hdiv]
  generalize v / 2 ^ b = q at *
  generalize q / 2 = r at *
  generalize q % 2 = c at *
  generalize v % 2 ^ b = d at *
  subst hhigh
  rw [← hlow, Nat.mul_add, Nat.mul_add, Nat.mul_comm c, Nat.mul_comm (ofBool x)]
  omega

/-- Exactly the bit that is changed changes. -/
theorem bit_withBit (v b i : Nat) (x : Bool) : bit (withBit v b x) i = if i = b then x else bit v i := by
  rw [bit_eq_testBit, bit_eq_testBit, withBit_eq, Nat.testBit_two_pow_mul_add _ (Nat.mod_lt _ (Nat.two_pow_pos b))]
  rcases Nat.lt_trichotomy i b with h | h | h
  · rw [if_pos h, if_neg (by omega), Nat.testBit_mod_two_pow, decide_eq_true h, Bool.true_and]
  · subst h
    rw [if_neg (by omega), if_pos rfl, Nat.sub_self, Nat.testBit_zero]
    cases x <;> simp [ofBool]
  · obtain ⟨k, rfl⟩ : ∃ k, i = b + 1 + k := ⟨i - (b + 1), by omega⟩
    have hhalf : (2 * (v / 2 ^ (b + 1)) + ofBool x) / 2 = v / 2 ^ (b + 1) := by
      have : ofBool x ≤ 1 := by cases x <;> decide
      omega
    rw [if_neg (by omega), if_neg (by omega), show b + 1 + k - b = k + 1 by omega, Nat.testBit_succ, hhalf,
      Nat.testBit_div_two_pow, Nat.add_comm]

@[simp] theorem bit_withBit_same (v b : Nat) (x : Bool) : bit (withBit v b x) b = x := by rw [bit_withBit, if_pos rfl]

theorem withBit_lt {v b n : Nat} (x : Bool) (hv : v < 2 ^ n) (hb : b < n) : withBit v b x < 2 ^ n := by
  apply Nat.lt_pow_two_of_testBit
  intro i hi
  rw [← bit_eq_testBit, bit_withBit, if_neg (by omega), bit_eq_testBit]
  exact Nat.testBit_lt_two_pow (Nat.lt_of_lt_of_le hv (Nat.pow_le_pow_right (by omega) hi))

/-- A field with one of its bits changed reads that bit changed. -/
theorem State.get_set_withBit {f : Fld} {b : Nat} (hf : f.okay = true) (hb : b < f.hi + 1 - f.lo) (s : State) (x : Bool) :
    (s.set f (withBit (s.get f) b x)).get f = withBit (s.get f) b x :=
  State.get_set_lt hf (withBit_lt x (s.get_lt f) hb) s

end Sys2Proof.Machine
end

section
/-! SUPPORT. The fault line: what asserting it and its sources leave (R172, R175). -/
set_option Elab.async false
namespace Sys2Proof.Machine
open Host

/-! ### Asserting the line -/

theorem State.assertLine_of_asserted {s : State} (h : s.on F.CMP_FLSTAT_ASSERTED = true) : s.assertLine = s := by
  unfold State.assertLine State.faultAsserted
  rw [if_pos h]

/-- The line that was released asserts: what stands before the contactors open. -/
theorem State.assertLine_of_released {s : State} (h : s.on F.CMP_FLSTAT_ASSERTED = false) : ∃ u : State, s.assertLine = u.prtTrip ∧
    u.on F.CMP_FLSTAT_ASSERTED = true ∧ u.get F.CMP_FLSTAT_ACTIVE = s.get F.CMP_FLSTAT_ACTIVE ∧ u.pins = { s.pins with fltN := true } ∧
    u.get F.CMP_FLSTAT_CHAN = s.get F.CMP_FLSTAT_CHAN ∧ u.line = { s.line with assertedAt := s.now } := by
  refine ⟨_, by unfold State.assertLine State.faultAsserted; rw [if_neg (by simp [h])], ?_⟩
  simp (disch := decide +kernel)

@[simp] theorem State.assertLine_asserted (s : State) : s.assertLine.on F.CMP_FLSTAT_ASSERTED = true := by
  cases h : s.on F.CMP_FLSTAT_ASSERTED with
  | true => rw [State.assertLine_of_asserted h, h]
  | false =>
    obtain ⟨u, hu, hon, -⟩ := State.assertLine_of_released h
    rw [hu, (altersOf (alters_prtTrip u)).on _ (by decide +kernel), hon]

@[simp] theorem State.assertLine_active (s : State) : s.assertLine.get F.CMP_FLSTAT_ACTIVE = s.get F.CMP_FLSTAT_ACTIVE := by
  cases h : s.on F.CMP_FLSTAT_ASSERTED with
  | true => rw [State.assertLine_of_asserted h]
  | false =>
    obtain ⟨u, hu, -, hactive, -⟩ := State.assertLine_of_released h
    rw [hu, (altersOf (alters_prtTrip u)).get _ (by decide +kernel), hactive]

@[simp] theorem State.assertLine_chan (s : State) : s.assertLine.get F.CMP_FLSTAT_CHAN = s.get F.CMP_FLSTAT_CHAN := by
  cases h : s.on F.CMP_FLSTAT_ASSERTED with
  | true => rw [State.assertLine_of_asserted h]
  | false =>
    obtain ⟨u, hu, -, -, -, hchan, -⟩ := State.assertLine_of_released h
    rw [hu, (altersOf (alters_prtTrip u)).get _ (by decide +kernel), hchan]

/-- A line that asserts asserts FLT_N; of the other pins none changes. -/
theorem State.assertLine_pins (s : State) :
    s.assertLine.pins = { s.pins with fltN := if s.on F.CMP_FLSTAT_ASSERTED then s.pins.fltN else true } := by
  cases h : s.on F.CMP_FLSTAT_ASSERTED with
  | true => rw [State.assertLine_of_asserted h]; simp
  | false =>
    obtain ⟨u, hu, -, -, hpins, -⟩ := State.assertLine_of_released h
    rw [hu, (altersOf (alters_prtTrip u)).pins (by decide +kernel), hpins]; simp

/-! ### ACTIVE -/

@[simp] theorem State.showActive_pins (s : State) : s.showActive.pins = s.pins := (altersOf (alters_showActive s)).pins (by decide +kernel)

@[simp] theorem State.showActive_asserted (s : State) : s.showActive.on F.CMP_FLSTAT_ASSERTED = s.on F.CMP_FLSTAT_ASSERTED := by
  unfold State.showActive
  simp (disch := decide +kernel)

@[simp] theorem State.showActive_chan (s : State) : s.showActive.get F.CMP_FLSTAT_CHAN = s.get F.CMP_FLSTAT_CHAN := by
  unfold State.showActive
  simp (disch := decide +kernel)

theorem State.codeBits_lt (s : State) : s.codeBits < 64 := Nat.mod_lt _ (by decide)

theorem State.showActive_active (s : State) : s.showActive.get F.CMP_FLSTAT_ACTIVE =
    s.codeBits + s.get F.CMP_FLSTAT_ACTIVE / 64 % 8 * 64 + ofBool (s.get F.CMP_FLSTAT_CHAN != 0) * 512 := by
  have hlt : s.codeBits + s.get F.CMP_FLSTAT_ACTIVE / 64 % 8 * 64 + ofBool (s.get F.CMP_FLSTAT_CHAN != 0) * 512 < 2 ^ 10 := by
    have := s.codeBits_lt
    have : ofBool (s.get F.CMP_FLSTAT_CHAN != 0) ≤ 1 := by cases s.get F.CMP_FLSTAT_CHAN != 0 <;> decide
    omega
  unfold State.showActive
  simp (disch := decide +kernel)
  rw [State.get_set_lt (by decide) hlt]

/-- The sources of bits 6 to 8 stay as they are held. -/
theorem State.showActive_bit (s : State) {b : Nat} (h : 6 ≤ b ∧ b ≤ 8) :
    bit (s.showActive.get F.CMP_FLSTAT_ACTIVE) b = bit (s.get F.CMP_FLSTAT_ACTIVE) b := by
  have := s.codeBits_lt
  rw [State.showActive_active]
  unfold bit
  generalize s.codeBits = c at *
  generalize s.get F.CMP_FLSTAT_ACTIVE = v
  generalize ofBool _ = d
  obtain rfl | rfl | rfl : b = 6 ∨ b = 7 ∨ b = 8 := by omega
  all_goals congr 1; omega

/-! ### A source of the module -/

@[simp] theorem State.raiseSource_asserted (s : State) (b : Nat) : (s.raiseSource b).on F.CMP_FLSTAT_ASSERTED = true := by
  unfold State.raiseSource
  simp

theorem State.raiseSource_bit (s : State) {b : Nat} (h : 6 ≤ b ∧ b ≤ 8) : bit ((s.raiseSource b).get F.CMP_FLSTAT_ACTIVE) b = true := by
  unfold State.raiseSource
  rw [State.showActive_bit _ h, State.assertLine_active, State.get_set_withBit (by decide) (by simp [F.CMP_FLSTAT_ACTIVE]; omega),
    bit_withBit_same]

theorem State.raiseSource_pins (s : State) (b : Nat) :
    (s.raiseSource b).pins = { s.pins with fltN := if s.on F.CMP_FLSTAT_ASSERTED then s.pins.fltN else true } := by
  unfold State.raiseSource
  rw [State.showActive_pins, State.assertLine_pins]
  simp (disch := decide +kernel)

end Sys2Proof.Machine
end

section
/-! SUPPORT. What the steps of a power failure, a reset and laying up leave: outputs off, gates low, no die powered (R56). -/
set_option Elab.async false
namespace Sys2Proof.Machine
open Host

/-! ### PROP_EN -/

theorem State.propCond_of_not_run {s : State} (h : s.pwr.phase ≠ .run) : s.propCond = false := by
  unfold State.propCond
  rw [beq_false_of_ne h]
  simp

theorem State.showProp_pins (s : State) : s.showProp.pins = { s.pins with propEn := s.propCond } := rfl

/-- Outside RUN an evaluation of island 6 drops PROP_EN and leaves the other pins as they are. -/
theorem State.safetyEval_pins {s : State} (h : s.pwr.phase ≠ .run) : s.safetyEval.pins = { s.pins with propEn := false } := by
  have hguard := fun (u : State) g => altersOf (alters_noteGuard u g)
  have hstop := fun u : State => altersOf (alters_showSafestop u)
  have hchgil := fun u : State => altersOf (alters_showChgil u)
  have hbrake := fun (u : State) b => altersOf (alters_driveBrake u b)
  have hduty := fun (u : State) b => altersOf (alters_brakeDuty u b)
  have hwaits := fun (u : State) b => altersOf (alters_endWaits u b)
  unfold State.safetyEval
  simp only
  rw [(hwaits _ 1).pins (by decide +kernel), (hwaits _ 0).pins (by decide +kernel), (hduty _ 1).pins (by decide +kernel),
    (hduty _ 0).pins (by decide +kernel), (hbrake _ 1).pins (by decide +kernel), (hbrake _ 0).pins (by decide +kernel),
    State.setOn_pins, (hchgil _).pins (by decide +kernel), State.showProp_pins, State.propCond_of_not_run,
    (hstop _).pins (by decide +kernel), State.setOn_pins, State.setOn_pins, State.setOn_pins]
  · unfold State.applyIf
    split <;> simp only [State.setOn_pins, (hguard _ 1).pins (by decide +kernel), (hguard _ 0).pins (by decide +kernel)]
  · rw [(hstop _).pwr (by decide +kernel), State.setOn_pwr, State.setOn_pwr, State.setOn_pwr]
    unfold State.applyIf
    split <;> simp only [State.setOn_pwr, (hguard _ 1).pwr (by decide +kernel), (hguard _ 0).pwr (by decide +kernel)] <;> exact h

/-! ### Gates -/

/-- The bridge of an axis is off: its drive, its state, and no pulse runs on it. -/
def State.bridgeQuiet (a : Nat) (s : State) : Prop :=
  (s.axis a).drive = 0 ∧ s.gdState a ≠ 1 ∧ s.gdState a ≠ 2 ∧ s.gate.pulse.all (fun p => p.1 != a) = true

theorem State.driveVector_drive (s : State) (a b : Nat) : ((s.driveVector a).axis b).drive = (s.axis b).drive := by
  unfold State.driveVector
  rw [State.axis_onAxis]
  split <;> rfl

theorem State.driveTested_drive (s : State) (b a : Nat) : ((s.driveTested b).axis a).drive = (s.axis a).drive := by
  unfold State.driveTested
  split
  · exact State.driveVector_drive _ _ _
  · rfl

theorem State.axis_of_mot {s t : State} (h : t.mot = s.mot) (a : Nat) : t.axis a = s.axis a := by
  unfold State.axis; rw [h]

theorem State.abortTest_drive (s : State) (b a : Nat) : ((s.abortTest b).axis a).drive = (s.axis a).drive := by
  unfold State.abortTest
  simp only
  have hend : ∀ u : State, (u.notTestable b).mot = u.mot := fun u => (altersOf (alters_notTestable u b)).mot (by decide +kernel)
  split
  · rw [State.axis_of_mot (State.set_mot _ _ _), State.driveTested_drive]
    exact congrArg _ (State.axis_of_mot (State.flag_mot _ _) a)
  · rw [State.axis_of_mot (hend _), State.driveTested_drive]
    exact congrArg _ (State.axis_of_mot (State.flag_mot _ _) a)

theorem State.abortBrakeTests_drive (s : State) (p : Nat → Bool) (a : Nat) :
    ((s.abortBrakeTests p).axis a).drive = (s.axis a).drive :=
  foldl_keeps (fun t => (t.axis a).drive = (s.axis a).drive) (fun t b h => (State.abortTest_drive t b a).trans h) _ rfl

theorem State.bridgeQuiet_abortBrakeTests {s : State} {a : Nat} (h : s.bridgeQuiet a) (p : Nat → Bool) : (s.abortBrakeTests p).bridgeQuiet a := by
  have ht := altersOf (alters_abortBrakeTests s p)
  have hstate : (s.abortBrakeTests p).gdState a = s.gdState a := ht.get (F.GD_STAT_STATE.on a) (by rw [wordBit_on]; decide +kernel)
  unfold State.bridgeQuiet
  rw [State.abortBrakeTests_drive, hstate, ht.gate (by decide +kernel)]
  exact h

theorem State.onAxis_drive (s : State) (a b v : Nat) : ((s.onAxis a fun x => { x with drive := v }).axis b).drive =
    if a = b ∧ b < s.mot.axes.length then v else (s.axis b).drive := by
  rw [State.axis_onAxis]; split <;> rfl

theorem State.axis_drive_of_not_kept {s : State} {a : Nat} (h : ¬ a < s.mot.axes.length) : (s.axis a).drive = 0 := by
  unfold State.axis
  rw [List.getElem?_eq_none (by omega)]
  rfl

/-- A bridge switched off is off. -/
theorem State.bridgeOff_quiet (s : State) (a : Nat) : (s.bridgeOff a).bridgeQuiet a := by
  unfold State.bridgeOff
  refine State.bridgeQuiet_abortBrakeTests ?_ _
  have hstate : ∀ (u : State) (v : Nat), v = 4 ∨ v = 0 → (u.set (F.GD_STAT_STATE.on a) v).gdState a = v := fun u v h =>
    State.get_set_lt (show (F.GD_STAT_STATE.on a).okay = true from rfl) (show v < 2 ^ 4 by omega) u
  refine ⟨?_, ?_, ?_, ?_⟩
  · rw [State.axis_of_mot (State.set_mot _ _ _), State.onAxis_drive]
    split
    · rfl
    · rename_i h
      exact State.axis_drive_of_not_kept fun hlt => h ⟨rfl, hlt⟩
  · rw [hstate _ _ (by split <;> simp)]; split <;> decide
  · rw [hstate _ _ (by split <;> simp)]; split <;> decide
  · simp only [State.set_gate]
    unfold State.onAxis State.onGate State.quietGate
    simp [State.onGate]

/-- Another bridge stays off. -/
theorem State.bridgeQuiet_bridgeOff {s : State} {b : Nat} (h : s.bridgeQuiet b) (a : Nat) (ha : a < 6) (hb : b < 6) :
    (s.bridgeOff a).bridgeQuiet b := by
  by_cases hab : a = b
  · subst hab; exact State.bridgeOff_quiet s a
  · obtain ⟨hdrive, hone, htwo, hpulse⟩ := h
    have hpage : ∀ f g : Fld, f.page = 0x49 → g.page = 0x49 → (f.on a).leaves (g.on b) = true := fun f g hf hg =>
      Fld.leaves_of_page (by
        unfold Fld.on
        rw [hf, hg]
        rw [show instancesOf 0x49 = 6 from rfl]
        simp only
        omega)
    have hsame : ∀ u : State, ∀ v, (u.set (F.GD_STAT_STATE.on a) v).gdState b = u.gdState b := fun u v =>
      State.get_set_leaves (hpage _ _ rfl rfl) u v
    have hquiet : (s.quietGate a).gdState b = s.gdState b := by
      unfold State.quietGate State.gdState
      rw [State.get_set_leaves (hpage _ _ rfl rfl), State.onGate_get]
    unfold State.bridgeOff
    refine State.bridgeQuiet_abortBrakeTests ⟨?_, ?_, ?_, ?_⟩ _
    · rw [State.axis_of_mot (State.set_mot _ _ _), State.onAxis_drive, if_neg (fun h => hab h.1)]
      exact (congrArg AxisSt.drive (State.axis_of_mot (by unfold State.quietGate; simp) b)).trans hdrive
    · rw [hsame]; exact fun e => hone (hquiet.symm.trans e)
    · rw [hsame]; exact fun e => htwo (hquiet.symm.trans e)
    · simp only [State.set_gate]
      unfold State.onAxis State.onGate State.quietGate
      simp only [State.set_gate, State.onGate, List.all_filter]
      exact List.all_eq_true.mpr fun p hp => by simp [List.all_eq_true.mp hpulse p hp]

/-! ### Load switches -/

/-- With the loads off both commands read 0. -/
theorem State.loadsOff_commands (s : State) : s.loadsOff.get F.LSA_OUT_ON = 0 ∧ s.loadsOff.get (F.LSA_OUT_ON.on 1) = 0 := by
  unfold State.loadsOff
  exact ⟨by rw [State.get_set_leaves (by decide), State.get_set_lt (by decide) (by decide)], State.get_set_lt (by decide) (by decide) _⟩

/-! ### The outputs -/

/-- What the steps of R56 leave. -/
structure State.Dropped (s : State) (phase : Phase) (t : State) : Prop where
  pwr : t.pwr = { s.pwr with phase := phase }
  source : bit (t.get F.CMP_FLSTAT_ACTIVE) 6 = true
  asserted : t.on F.CMP_FLSTAT_ASSERTED = true
  pins : t.pins = { s.pins with fltN := if s.on F.CMP_FLSTAT_ASSERTED then s.pins.fltN else true, propEn := false }
  loads : t.get F.LSA_OUT_ON = 0 ∧ t.get (F.LSA_OUT_ON.on 1) = 0
  gates : s.hasM = true → ∀ a < 6, t.bridgeQuiet a
  dies : t.get F.PWR_MDPWR_MD_ON = 0

theorem mem_axisList {a : Nat} : a ∈ axisList ↔ a < 6 := by
  unfold axisList; simp only [List.mem_cons, List.not_mem_nil, or_false]; omega

theorem foldl_alters {α : Type} {m : Nat} {f : State → α → State} (hf : ∀ s x, Alters m s (f s x)) (l : List α) (s : State) :
    Alters m s (l.foldl f s) := alters_foldl (fun t x h => h.trans (hf t x)) (alters_refl m s)

/-- The gates low: the axes are cut off, the chopper is off, and every bridge is switched off. -/
def State.gatesOff (s : State) : State := s.applyIf s.hasM fun s => axisList.foldl State.bridgeOff s.cutCycles.chopperOff

/-- What `State.gatesOff` may alter. -/
def alt_gatesOff : Nat := alt_cutCycles ||| alt_chopperOff ||| alt_bridgeOff

theorem alters_gatesOff {μ : Nat} {s₀ : State} (s : State) (hm : Sub alt_gatesOff μ) (hk : Alters μ s₀ s) :
    Alters μ s₀ s.gatesOff :=
  alters_applyIf (fun u hu => alters_foldl (fun t a ht => alters_bridgeOff t a (sub_trans (by decide +kernel) hm) ht)
    (alters_chopperOff _ (sub_trans (by decide +kernel) hm) (alters_cutCycles _ (sub_trans (by decide +kernel) hm) hu))) hk

theorem State.gatesOff_quiet {s : State} (h : s.hasM = true) {a : Nat} (ha : a < 6) : s.gatesOff.bridgeQuiet a := by
  have hall : ∀ l : List Nat, (∀ b ∈ l, b < 6) → ∀ u : State, ∀ b ∈ l, (l.foldl State.bridgeOff u).bridgeQuiet b := by
    have keep : ∀ l : List Nat, (∀ b ∈ l, b < 6) → ∀ u : State, ∀ b < 6, u.bridgeQuiet b → (l.foldl State.bridgeOff u).bridgeQuiet b := by
      intro l
      induction l with
      | nil => exact fun _ _ _ _ hq => hq
      | cons c l ih =>
        exact fun hl u b hb hq => ih (fun d hd => hl d (List.mem_cons_of_mem _ hd)) _ b hb
          (State.bridgeQuiet_bridgeOff hq c (hl c List.mem_cons_self) hb)
    intro l
    induction l with
    | nil => exact fun _ _ _ hb => absurd hb List.not_mem_nil
    | cons c l ih =>
      intro hl u b hb
      have hl' := fun d hd => hl d (List.mem_cons_of_mem _ hd)
      rcases List.mem_cons.mp hb with rfl | hb
      · exact keep l hl' _ b (hl b List.mem_cons_self) (State.bridgeOff_quiet u b)
      · exact ih hl' _ b hb
  unfold State.gatesOff State.applyIf
  rw [if_pos h]
  exact hall axisList (fun b hb => mem_axisList.mp hb) _ a (mem_axisList.mpr ha)

theorem State.outputsOff_eq (s : State) (phase : Phase) : s.outputsOff phase =
    ((((s.onPwr fun p => { p with phase := phase }).raiseSource 6).loadsOff.safetyEval).gatesOff).set F.PWR_MDPWR_MD_ON 0 := rfl

theorem State.outputsOff_dropped (s : State) {phase : Phase} (hphase : phase ≠ .run) : s.Dropped phase (s.outputsOff phase) := by
  rw [State.outputsOff_eq]
  generalize hu : s.onPwr (fun p => { p with phase := phase }) = u
  have hraise := altersOf (alters_raiseSource u 6)
  have hloads := altersOf (alters_loadsOff (u.raiseSource 6))
  have hsafe := altersOf (alters_safetyEval (u.raiseSource 6).loadsOff)
  have hgates := altersOf (alters_gatesOff (u.raiseSource 6).loadsOff.safetyEval)
  have hpwr : (u.raiseSource 6).loadsOff.pwr = { s.pwr with phase := phase } := by
    rw [hloads.pwr (by decide +kernel), hraise.pwr (by decide +kernel), ← hu]; rfl
  have hM : (u.raiseSource 6).loadsOff.safetyEval.hasM = s.hasM := by
    unfold State.hasM
    rw [hsafe.on _ (by decide +kernel), hloads.on _ (by decide +kernel), hraise.on _ (by decide +kernel), ← hu]; rfl
  refine ⟨?_, ?_, ?_, ?_, ⟨?_, ?_⟩, ?_, State.get_set_lt (by decide) (by decide) _⟩
  · rw [State.set_pwr, hgates.pwr (by decide +kernel), hsafe.pwr (by decide +kernel), hpwr]
  · rw [State.get_set_leaves (by decide), hgates.get _ (by decide +kernel), hsafe.get _ (by decide +kernel), hloads.get _ (by decide +kernel)]
    exact State.raiseSource_bit u (by decide)
  · rw [State.on_set_leaves (by decide), hgates.on _ (by decide +kernel), hsafe.on _ (by decide +kernel), hloads.on _ (by decide +kernel)]
    exact State.raiseSource_asserted u 6
  · rw [State.set_pins, hgates.pins (by decide +kernel), State.safetyEval_pins (by rw [hpwr]; exact hphase), hloads.pins (by decide +kernel),
      State.raiseSource_pins, ← hu]
    rfl
  · rw [State.get_set_leaves (by decide), hgates.get _ (by decide +kernel), hsafe.get _ (by decide +kernel)]
    exact (State.loadsOff_commands _).1
  · rw [State.get_set_leaves (by decide), hgates.get _ (by decide +kernel), hsafe.get _ (by decide +kernel)]
    exact (State.loadsOff_commands _).2
  · intro hm a ha
    obtain ⟨hdrive, hone, htwo, hpulse⟩ := State.gatesOff_quiet (hM.trans hm) ha
    have hstate : ∀ v : State, (v.set F.PWR_MDPWR_MD_ON 0).gdState a = v.gdState a := fun v =>
      State.get_set_leaves (Fld.leaves_of_page (by unfold Fld.on; simp only [F.PWR_MDPWR_MD_ON, F.GD_STAT_STATE]; omega)) v 0
    refine ⟨?_, ?_, ?_, ?_⟩
    · rw [State.axis_of_mot (State.set_mot _ _ _)]; exact hdrive
    · rw [hstate]; exact hone
    · rw [hstate]; exact htwo
    · rw [State.set_gate]; exact hpulse

/-- What alters none of the words and parts a drop of the outputs is about keeps the drop. -/
theorem State.Dropped.of_alters {s t u : State} {phase : Phase} {m : Nat} (h : s.Dropped phase t) (ha : Alters m t u)
    (hm : m &&& (2 ^ wordBit F.CMP_FLSTAT_ACTIVE.addr ||| 2 ^ wordBit F.LSA_OUT_ON.addr ||| 2 ^ wordBit F.PWR_MDPWR_MD_ON.addr |||
      2 ^ wordBit F.GD_STAT_STATE.addr ||| partPwr ||| partPins ||| partMot ||| partGate) = 0) : s.Dropped phase u := by
  have no : ∀ i, (2 ^ wordBit F.CMP_FLSTAT_ACTIVE.addr ||| 2 ^ wordBit F.LSA_OUT_ON.addr ||| 2 ^ wordBit F.PWR_MDPWR_MD_ON.addr |||
      2 ^ wordBit F.GD_STAT_STATE.addr ||| partPwr ||| partPins ||| partMot ||| partGate).testBit i = true → m.testBit i = false := by
    intro i hi
    have := congrArg (Nat.testBit · i) hm
    rw [Nat.testBit_and, hi, Bool.and_true, Nat.zero_testBit] at this
    exact this
  refine ⟨?_, ?_, ?_, ?_, ⟨?_, ?_⟩, ?_, ?_⟩
  · rw [ha.pwr (no _ (by decide +kernel))]; exact h.pwr
  · rw [ha.get _ (no _ (by decide +kernel))]; exact h.source
  · rw [ha.on _ (no _ (by decide +kernel))]; exact h.asserted
  · rw [ha.pins (no _ (by decide +kernel))]; exact h.pins
  · rw [ha.get _ (no _ (by decide +kernel))]; exact h.loads.1
  · rw [ha.get _ (no _ (by decide +kernel))]; exact h.loads.2
  · intro hM a haxis
    unfold State.bridgeQuiet State.gdState
    rw [State.axis_of_mot (ha.mot (no _ (by decide +kernel))), ha.get _ (no _ (by rw [wordBit_on]; decide +kernel)),
      ha.gate (no _ (by decide +kernel))]
    exact h.gates hM a haxis
  · rw [ha.get _ (no _ (by decide +kernel))]; exact h.dies

end Sys2Proof.Machine
end

section
/-! The supply: LOW, PWR_WARN, PWR_FAIL, the reset of the C-die, VM_OK (R54 to R56, R63). -/
set_option Elab.async false
namespace Sys2Proof.Machine
open Host

/-- R54: a low supply sets LOW with its event. -/
theorem execSupplyLow_claim (s : State) : Claims.supplyLow s := by
  intro hruns hlow
  refine ⟨_, if_pos (by rw [hruns, hlow]; rfl), ?_, State.on_flagEvent_okay (by decide) _ _ _, raised_flagEvent ?_ _ _ _⟩
  · simp (disch := decide +kernel)
  · rw [State.setOn_rsm]

/-- R54: LOW clears again. -/
theorem execSupplyLowClear_claim (s : State) : Claims.supplyLowClear s :=
  fun hruns => ⟨_, if_pos hruns, State.on_setOn_okay (by decide) _ _⟩

/-- R55: PWR_WARN sets WARN and COMMIT_INH, counts, and triggers a flush. -/
theorem execPwrWarn_claim (s : State) : Claims.pwrWarn s := by
  intro hruns hwarn
  have htests := fun u : State => altersOf (alters_abortBrakeTests u fun _ => true)
  have hflush := fun u : State => altersOf (alters_triggerFlush u)
  have hcopy := fun u : State => altersOf (alters_bayCopy u)
  refine ⟨_, if_pos (by rw [hruns, hwarn]; rfl), ?_, ?_, ?_, ?_, ?_⟩
  · simp (disch := decide +kernel) [(hcopy _).on, (hflush _).on, (htests _).on]
  · simp (disch := decide +kernel) [(hcopy _).on, (hflush _).on, (htests _).on]
  · simp (disch := decide +kernel) [(hcopy _).on, (hflush _).on, (htests _).on]
  · simp (disch := decide +kernel) [(hcopy _).get, (hflush _).get, (htests _).get]
    rfl
  · rw [(hcopy _).rsm (by decide +kernel)]; rfl

/-- R55: PWR_WARN clears; a write-back that is due starts 1 s later. -/
theorem execPwrWarnClear_claim (s : State) : Claims.pwrWarnClear s := by
  intro hruns hwarn
  refine ⟨_, if_pos (by rw [hruns, hwarn]; rfl), ?_, ?_, ?_, ?_⟩
  · simp (disch := decide +kernel)
  · simp (disch := decide +kernel)
  · simp (disch := decide +kernel)
  · cases h : s.sage.wbDue <;> simp [State.applyIf, h]

/-- A life counter counts like any other. -/
theorem State.get_countLife (s : State) {f : Fld} (hf : f.okay = true) (h : alt_journalWrite.testBit (wordBit f.addr) = false) :
    (s.countLife f).get f = min (s.get f + 1) (2 ^ (f.hi + 1 - f.lo) - 1) := by
  unfold State.countLife State.saving
  rw [(altersOf (alters_journalWrite _ _)).get f h, State.get_count_okay hf]

/-- R56: what PWR_FAIL does at once. -/
theorem execPwrFail_claim (s : State) : Claims.pwrFail s := by
  intro halive
  have hdrop := s.outputsOff_dropped (phase := .holdup) (by decide)
  have hout := altersOf (alters_outputsOff s .holdup)
  have hlife := fun u : State => altersOf (fun hm hk => alters_countLife (μ := alt_countLife ||| setMask F.PWR_EVCNT_FAILS) u
    F.PWR_EVCNT_FAILS (sub_left (sub_refl _)) (sub_right (sub_refl _)) hk)
  have hcopy := fun u : State => altersOf (alters_bayCopy u)
  have htasks := fun u : State => altersOf (alters_holdupTasks u)
  have hfails : ∀ u : State, (u.countLife F.PWR_EVCNT_FAILS).get F.PWR_EVCNT_FAILS = min (u.get F.PWR_EVCNT_FAILS + 1) 65535 :=
    fun u => State.get_countLife u (by decide) (by decide +kernel)
  have hcopied : s.Dropped .holdup (((s.outputsOff .holdup).countLife F.PWR_EVCNT_FAILS).listed 0x06 0 3 [addrOf 0x06 0x60]).bayCopy :=
    ((hdrop.of_alters (hlife _) (by decide +kernel)).of_alters (altersOf (alters_listed (m := partRsm))) (by decide +kernel)).of_alters
      (hcopy _) (by decide +kernel)
  have hcount : (((s.outputsOff .holdup).countLife F.PWR_EVCNT_FAILS).listed 0x06 0 3 [addrOf 0x06 0x60]).bayCopy.get
      F.PWR_EVCNT_FAILS = min (s.get F.PWR_EVCNT_FAILS + 1) 65535 := by
    rw [(hcopy _).get _ (by decide +kernel), ← hout.get F.PWR_EVCNT_FAILS (by decide +kernel)]
    exact hfails _
  refine ⟨_, if_pos halive, ?_⟩
  generalize (((s.outputsOff .holdup).countLife F.PWR_EVCNT_FAILS).listed 0x06 0 3 [addrOf 0x06 0x60]).bayCopy = u at *
  have hend : s.Dropped .holdup (if u.frozen then u else u.holdupTasks) ∧
      (if u.frozen then u else u.holdupTasks).get F.PWR_EVCNT_FAILS = min (s.get F.PWR_EVCNT_FAILS + 1) 65535 := by
    split
    · exact ⟨hcopied, hcount⟩
    · exact ⟨hcopied.of_alters (htasks u) (by decide +kernel), ((htasks u).get _ (by decide +kernel)).trans hcount⟩
  obtain ⟨hd, hc⟩ := hend
  refine ⟨?_, hd.source, hd.asserted, ?_, ?_, hd.loads.1, hd.loads.2, hd.gates, hd.dies, hc⟩
  · rw [hd.pwr]
  · intro hreleased; rw [hd.pins, hreleased]; rfl
  · rw [hd.pins]

theorem execCdieReset_claim (s : State) : Claims.cdieReset s := fun hphase => if_pos (by rw [hphase]; rfl)

/-- R63: VM_OK follows VM. -/
theorem execVmOkChange_claim (ok : Bool) (s : State) : Claims.vmOkChange ok s := by
  intro hruns hm hok
  have hsafe := fun u : State => altersOf (alters_safeAll u 1)
  refine ⟨_, if_pos (by simp [hruns, hm, hok]), ?_, ?_⟩
  · simp (disch := decide +kernel) [(hsafe _).on]
  · simp (disch := decide +kernel) [(hsafe _).on]

end Sys2Proof.Machine

/-- Settles O10: every clause by the command's branch in which its conditions hold, PWR_FAIL through what its five steps leave. -/
theorem supplyEvents : Obligations.SupplyEvents := by
  unfold Obligations.SupplyEvents
  exact ⟨Sys2Proof.Machine.execSupplyLow_claim, Sys2Proof.Machine.execSupplyLowClear_claim, Sys2Proof.Machine.execPwrWarn_claim,
    Sys2Proof.Machine.execPwrWarnClear_claim, Sys2Proof.Machine.execPwrFail_claim, Sys2Proof.Machine.execCdieReset_claim,
    Sys2Proof.Machine.execVmOkChange_claim⟩
end

section
/-! SUPPORT. Operations that change nothing the recorder keeps but add events to those that wait for island 1: an event raised stays
raised. -/
set_option Elab.async false
namespace Sys2Proof.Machine
open Host

/-- Of what Rosemary keeps only the waiting events differ, and new ones stand behind those that waited. -/
def Sends (s t : State) : Prop := ∃ l, t.rsm = { s.rsm with inbox := s.rsm.inbox ++ l }

theorem sends_refl (s : State) : Sends s s := ⟨[], by rw [List.append_nil]⟩

theorem Sends.trans {s t u : State} (h : Sends s t) (h' : Sends t u) : Sends s u := by
  obtain ⟨l, hl⟩ := h
  obtain ⟨k, hk⟩ := h'
  exact ⟨l ++ k, by rw [hk, hl, List.append_assoc]⟩

theorem Sends.staged {s t : State} (h : Sends s t) : t.rsm.staged = s.rsm.staged := by obtain ⟨l, hl⟩ := h; rw [hl]

theorem Sends.inbox {s t : State} (h : Sends s t) : ∃ l, t.rsm.inbox = s.rsm.inbox ++ l := by obtain ⟨l, hl⟩ := h; exact ⟨l, by rw [hl]⟩

/-- An event raised stays raised while events are only added. -/
theorem raised_of_sends {s t u : State} {page cls : Nat} {low : EventLow} (h : raised s t page low cls)
    (hst : ∃ l, t.rsm.inbox = s.rsm.inbox ++ l) (htu : Sends t u) : raised s u page low cls := by
  obtain ⟨l, hl⟩ := hst
  obtain ⟨k, hk⟩ := htu.inbox
  obtain ⟨e, he, hp⟩ := h
  rw [hl, List.drop_left] at he
  exact ⟨e, by rw [hk, hl, List.append_assoc, List.drop_left]; exact List.mem_append_left _ he, hp⟩

/-- An event raised after others were added has been raised since the state before them. -/
theorem raised_of_earlier {s t u : State} {page cls : Nat} {low : EventLow} (hst : Sends s t) (h : raised t u page low cls)
    (htu : ∃ l, u.rsm.inbox = t.rsm.inbox ++ l) : raised s u page low cls := by
  obtain ⟨l, hl⟩ := hst.inbox
  obtain ⟨k, hk⟩ := htu
  obtain ⟨e, he, hp⟩ := h
  rw [hk, List.drop_left] at he
  exact ⟨e, by rw [hk, hl, List.append_assoc, List.drop_left]; exact List.mem_append_right _ he, hp⟩

theorem sends_of_rsm {s t : State} (h : t.rsm = s.rsm) : Sends s t := ⟨[], by rw [h, List.append_nil]⟩

theorem sends_of_alters {m : Nat} {s₀ s t : State} (h : Alters m s t) (hm : m.testBit 13 = false) (hk : Sends s₀ s) : Sends s₀ t :=
  hk.trans (sends_of_rsm (h.rsm hm))

variable {s₀ s : State}

theorem sends_mk (u : State) (now : Nat) (regs shadow : Regs) (published : List Nat) (gdieDown : Bool) (pwr : PowerSt) (pins : Pins)
    (links : Links) (commit : CommitSt) (pw spw : PasswordSt) (fw : FirmwareSt) (thy : ThymeSt) (stk : StackSt) (cyl : LedgerSt)
    (flt : RedundancySt) (dieSt : List DieSt) (line : FaultLineSt) (cur : CurrentSt) (bay : BaySt) (mot : MotionSt) (gate : GateSt)
    (saf : SafetySt) (prot : ProtSt) (tmp : ThermalSt) (ls : LoadSt) (sage : SageSt) (ring : RingSt) (aut : AuthSt) (saved : SavedSt)
    (journal : List JournalEntry) (ratios : List (Nat × Nat)) (pending : List Instr) (hk : Sends s₀ u) :
    Sends s₀ ⟨now, regs, shadow, published, gdieDown, pwr, pins, links, commit, pw, spw, fw, thy, stk, u.rsm, cyl, flt, dieSt, line, cur,
      bay, mot, gate, saf, prot, tmp, ls, sage, ring, aut, saved, journal, ratios, pending⟩ := hk

theorem sends_set {f : Fld} {v : Nat} (hk : Sends s₀ s) : Sends s₀ (s.set f v) := hk.trans (sends_of_rsm (State.set_rsm ..))
theorem sends_setOn {f : Fld} {b : Bool} (hk : Sends s₀ s) : Sends s₀ (s.setOn f b) := hk.trans (sends_of_rsm (State.setOn_rsm ..))
theorem sends_setInt {f : Fld} {v : Int} (hk : Sends s₀ s) : Sends s₀ (s.setInt f v) := hk.trans (sends_of_rsm (State.setInt_rsm ..))
theorem sends_flag {f : Fld} (hk : Sends s₀ s) : Sends s₀ (s.flag f) := hk.trans (sends_of_rsm (State.flag_rsm ..))
theorem sends_count {f : Fld} (hk : Sends s₀ s) : Sends s₀ (s.count f) := hk.trans (sends_of_rsm (State.count_rsm ..))
theorem sends_put {a : Nat} {v : Word} (hk : Sends s₀ s) : Sends s₀ (s.put a v) := hk.trans (sends_of_rsm (State.put_rsm ..))
theorem sends_setReg {a : Nat} {v : Word} (hk : Sends s₀ s) : Sends s₀ (s.setReg a v) := hk.trans (sends_of_rsm (State.setReg_rsm ..))
theorem sends_publish {p : Nat} {q : Word} (hk : Sends s₀ s) : Sends s₀ (s.publish p q) := hk.trans (sends_of_rsm (State.publish_rsm ..))
theorem sends_advanceTo {t : Nat} (hk : Sends s₀ s) : Sends s₀ (s.advanceTo t) := hk

theorem sends_send {e : Event} (hk : Sends s₀ s) : Sends s₀ (s.send e) := hk.trans ⟨[e], rfl⟩
theorem sends_raise {p c q : Nat} {l : EventLow} {e : List Nat} (hk : Sends s₀ s) : Sends s₀ (s.raise p l c q e) := sends_send hk
theorem sends_listed {p l c : Nat} {e : List Nat} (hk : Sends s₀ s) : Sends s₀ (s.listed p l c e) := sends_send hk
theorem sends_flagEvent {f : Fld} {c : Nat} {e : List Nat} (hk : Sends s₀ s) : Sends s₀ (s.flagEvent f c e) := sends_send (sends_flag hk)

theorem sends_applyIf {b : Bool} {f : State → State} (hf : ∀ t, Sends s₀ t → Sends s₀ (f t)) (hk : Sends s₀ s) :
    Sends s₀ (s.applyIf b f) := by
  unfold State.applyIf
  split
  · exact hf s hk
  · exact hk

theorem sends_foldl {α : Type} {f : State → α → State} {l : List α} (hf : ∀ s x, Sends s₀ s → Sends s₀ (f s x)) (hk : Sends s₀ s) :
    Sends s₀ (l.foldl f s) := foldl_keeps (Sends s₀) hf l hk

theorem sends_showActive {s₀ : State} (s : State) (hk : Sends s₀ s) :
    Sends s₀ (State.showActive s) :=
  sends_of_alters (altersOf (alters_showActive s)) (by decide +kernel) hk

theorem sends_onLine {s₀ : State} (s : State) (f : FaultLineSt → FaultLineSt) (hk : Sends s₀ s) :
    Sends s₀ (State.onLine s f) :=
  sends_of_alters (altersOf (alters_onLine s f)) (by decide +kernel) hk

theorem sends_endWait {s₀ : State} (s : State) (hk : Sends s₀ s) :
    Sends s₀ (State.endWait s) :=
  sends_of_alters (altersOf (alters_endWait s)) (by decide +kernel) hk

theorem sends_setCond {s₀ : State} (s : State) (c : ℕ) (v : Bool) (hk : Sends s₀ s) :
    Sends s₀ (State.setCond s c v) :=
  sends_of_alters (altersOf (alters_setCond s c v)) (by decide +kernel) hk

theorem sends_onProt {s₀ : State} (s : State) (f : ProtSt → ProtSt) (hk : Sends s₀ s) :
    Sends s₀ (State.onProt s f) :=
  sends_of_alters (altersOf (alters_onProt s f)) (by decide +kernel) hk

theorem sends_preFailed {s₀ : State} (s : State) (out : ℕ) (hk : Sends s₀ s) :
    Sends s₀ (State.preFailed s out) := by
  unfold State.preFailed
  try dsimp only
  repeat' first
    | intro _
    | (with_reducible first | assumption | apply sends_applyIf | apply sends_set | apply sends_flag | apply sends_flagEvent | apply sends_setOn)
    | (with_reducible first | apply sends_onProt)
    | split

theorem sends_showLowSides {s₀ : State} (s : State) (v : Bool) (hk : Sends s₀ s) :
    Sends s₀ (State.showLowSides s v) :=
  sends_of_alters (altersOf (alters_showLowSides s v)) (by decide +kernel) hk

theorem sends_allCoilsOff {s₀ : State} (s : State) (hk : Sends s₀ s) :
    Sends s₀ (State.allCoilsOff s) :=
  sends_of_alters (altersOf (alters_allCoilsOff s)) (by decide +kernel) hk

theorem sends_allOpen {s₀ : State} (s : State) (hk : Sends s₀ s) :
    Sends s₀ (State.allOpen s) :=
  sends_of_alters (altersOf (alters_allOpen s)) (by decide +kernel) hk

theorem sends_showTargets {s₀ : State} (s : State) (hk : Sends s₀ s) :
    Sends s₀ (State.showTargets s) :=
  sends_of_alters (altersOf (alters_showTargets s)) (by decide +kernel) hk

theorem sends_showPath {s₀ : State} (s : State) (path : ℕ) (hk : Sends s₀ s) :
    Sends s₀ (State.showPath s path) :=
  sends_of_alters (altersOf (alters_showPath s path)) (by decide +kernel) hk

theorem sends_setPrtState {s₀ : State} (s : State) (v : ℕ) (hk : Sends s₀ s) :
    Sends s₀ (State.setPrtState s v) :=
  sends_of_alters (altersOf (alters_setPrtState s v)) (by decide +kernel) hk

theorem sends_prtTrip {s₀ : State} (s : State) (hk : Sends s₀ s) :
    Sends s₀ (State.prtTrip s) := by
  unfold State.prtTrip
  try dsimp only
  repeat' first
    | intro _
    | (with_reducible first | assumption | apply sends_endWait | apply sends_setCond | apply sends_applyIf | apply sends_preFailed | apply sends_showLowSides)
    | (with_reducible first | apply sends_allCoilsOff | apply sends_onProt | apply sends_set | apply sends_setOn | apply sends_allOpen | apply sends_showTargets)
    | (with_reducible first | apply sends_showPath | apply sends_setPrtState)

theorem sends_assertLine {s₀ : State} (s : State) (hk : Sends s₀ s) :
    Sends s₀ (State.assertLine s) := by
  unfold State.assertLine
  try dsimp only
  repeat' first
    | (with_reducible first | assumption | apply sends_flag | apply sends_setOn | apply sends_onLine | apply sends_set | apply sends_prtTrip)
    | split
    | apply sends_mk

theorem sends_raiseSource {s₀ : State} (s : State) (b : ℕ) (hk : Sends s₀ s) :
    Sends s₀ (State.raiseSource s b) := by
  unfold State.raiseSource
  try dsimp only
  repeat' first
    | (with_reducible first | assumption | apply sends_showActive | apply sends_assertLine | apply sends_set)

theorem sends_onPwr {s₀ : State} (s : State) (f : PowerSt → PowerSt) (hk : Sends s₀ s) :
    Sends s₀ (State.onPwr s f) :=
  sends_of_alters (altersOf (alters_onPwr s f)) (by decide +kernel) hk

theorem sends_noteGuard {s₀ : State} (s : State) (g : ℕ) (hk : Sends s₀ s) :
    Sends s₀ (State.noteGuard s g) :=
  sends_of_alters (altersOf (alters_noteGuard s g)) (by decide +kernel) hk

theorem sends_showChgil {s₀ : State} (s : State) (hk : Sends s₀ s) :
    Sends s₀ (State.showChgil s) :=
  sends_of_alters (altersOf (alters_showChgil s)) (by decide +kernel) hk

theorem sends_showProp {s₀ : State} (s : State) (hk : Sends s₀ s) :
    Sends s₀ (State.showProp s) :=
  sends_of_alters (altersOf (alters_showProp s)) (by decide +kernel) hk

theorem sends_onSaf {s₀ : State} (s : State) (f : SafetySt → SafetySt) (hk : Sends s₀ s) :
    Sends s₀ (State.onSaf s f) :=
  sends_of_alters (altersOf (alters_onSaf s f)) (by decide +kernel) hk

theorem sends_driveTested {s₀ : State} (s : State) (b : ℕ) (hk : Sends s₀ s) :
    Sends s₀ (State.driveTested s b) :=
  sends_of_alters (altersOf (alters_driveTested s b)) (by decide +kernel) hk

theorem sends_notTestable {s₀ : State} (s : State) (b : ℕ) (hk : Sends s₀ s) :
    Sends s₀ (State.notTestable s b) := by
  unfold State.notTestable
  try dsimp only
  repeat' first
    | (with_reducible first | assumption | apply sends_listed | apply sends_onSaf | apply sends_set)

theorem sends_abortTest {s₀ : State} (s : State) (b : ℕ) (hk : Sends s₀ s) :
    Sends s₀ (State.abortTest s b) := by
  unfold State.abortTest
  try dsimp only
  repeat' first
    | (with_reducible first | assumption | apply sends_onSaf | apply sends_flag | apply sends_driveTested | apply sends_set | apply sends_notTestable)
    | split

theorem sends_abortBrakeTests {s₀ : State} (s : State) (p : ℕ → Bool) (hk : Sends s₀ s) :
    Sends s₀ (State.abortBrakeTests s p) := by
  unfold State.abortBrakeTests
  try dsimp only
  repeat' first
    | intro _
    | (with_reducible first | assumption | apply sends_abortTest | apply sends_foldl)

theorem sends_stopAllAxes {s₀ : State} (s : State) (rank : ℕ) (hk : Sends s₀ s) :
    Sends s₀ (State.stopAllAxes s rank) :=
  sends_of_alters (altersOf (alters_stopAllAxes s rank)) (by decide +kernel) hk

theorem sends_showSafestop {s₀ : State} (s : State) (hk : Sends s₀ s) :
    Sends s₀ (State.showSafestop s) := by
  unfold State.showSafestop
  try dsimp only
  repeat' first
    | intro _
    | (with_reducible first | assumption | apply sends_applyIf | apply sends_setOn | apply sends_abortBrakeTests | apply sends_stopAllAxes | apply sends_onSaf)
    | (with_reducible first | apply sends_flag)
    | split

theorem sends_endWaits {s₀ : State} (s : State) (b : ℕ) (hk : Sends s₀ s) :
    Sends s₀ (State.endWaits s b) :=
  sends_of_alters (altersOf (alters_endWaits s b)) (by decide +kernel) hk

theorem sends_brakeDuty {s₀ : State} (s : State) (b : ℕ) (hk : Sends s₀ s) :
    Sends s₀ (State.brakeDuty s b) :=
  sends_of_alters (altersOf (alters_brakeDuty s b)) (by decide +kernel) hk

theorem sends_driveBrake {s₀ : State} (s : State) (b : ℕ) (hk : Sends s₀ s) :
    Sends s₀ (State.driveBrake s b) :=
  sends_of_alters (altersOf (alters_driveBrake s b)) (by decide +kernel) hk

theorem sends_safetyEval {s₀ : State} (s : State) (hk : Sends s₀ s) :
    Sends s₀ (State.safetyEval s) := by
  unfold State.safetyEval
  try dsimp only
  repeat' first
    | intro _
    | (with_reducible first | assumption | apply sends_noteGuard | apply sends_applyIf | apply sends_setOn | apply sends_showChgil | apply sends_showProp)
    | (with_reducible first | apply sends_showSafestop | apply sends_endWaits | apply sends_brakeDuty | apply sends_driveBrake)

theorem sends_loadsOff {s₀ : State} (s : State) (hk : Sends s₀ s) :
    Sends s₀ (State.loadsOff s) :=
  sends_of_alters (altersOf (alters_loadsOff s)) (by decide +kernel) hk

theorem sends_onAxis {s₀ : State} (s : State) (a : ℕ) (f : AxisSt → AxisSt) (hk : Sends s₀ s) :
    Sends s₀ (State.onAxis s a f) :=
  sends_of_alters (altersOf (alters_onAxis s a f)) (by decide +kernel) hk

theorem sends_onGate {s₀ : State} (s : State) (f : GateSt → GateSt) (hk : Sends s₀ s) :
    Sends s₀ (State.onGate s f) :=
  sends_of_alters (altersOf (alters_onGate s f)) (by decide +kernel) hk

theorem sends_quietGate {s₀ : State} (s : State) (a : ℕ) (hk : Sends s₀ s) :
    Sends s₀ (State.quietGate s a) :=
  sends_of_alters (altersOf (alters_quietGate s a)) (by decide +kernel) hk

theorem sends_bridgeOff {s₀ : State} (s : State) (a : ℕ) (hk : Sends s₀ s) :
    Sends s₀ (State.bridgeOff s a) := by
  unfold State.bridgeOff
  try dsimp only
  repeat' first
    | (with_reducible first | assumption | apply sends_onAxis | apply sends_onGate | apply sends_quietGate | apply sends_abortBrakeTests | apply sends_set)

theorem sends_chopperOff {s₀ : State} (s : State) (hk : Sends s₀ s) :
    Sends s₀ (State.chopperOff s) :=
  sends_of_alters (altersOf (alters_chopperOff s)) (by decide +kernel) hk

theorem sends_setMoving {s₀ : State} (s : State) (a : ℕ) (v : Bool) (hk : Sends s₀ s) :
    Sends s₀ (State.setMoving s a v) :=
  sends_of_alters (altersOf (alters_setMoving s a v)) (by decide +kernel) hk

theorem sends_setAxState {s₀ : State} (s : State) (a : ℕ) (v : ℕ) (hk : Sends s₀ s) :
    Sends s₀ (State.setAxState s a v) :=
  sends_of_alters (altersOf (alters_setAxState s a v)) (by decide +kernel) hk

theorem sends_outcomeEvent {s₀ : State} (s : State) (a : ℕ) (outcome : ℕ) (hk : Sends s₀ s) :
    Sends s₀ (State.outcomeEvent s a outcome) := by
  unfold State.outcomeEvent
  try dsimp only
  repeat' first
    | (with_reducible first | assumption | apply sends_flagEvent)
    | split

theorem sends_endCycle {s₀ : State} (s : State) (a : ℕ) (outcome : ℕ) (c : Cycle) (hk : Sends s₀ s) :
    Sends s₀ (State.endCycle s a outcome c) := by
  unfold State.endCycle
  try dsimp only
  repeat' first
    | intro _
    | (with_reducible first | assumption | apply sends_onAxis | apply sends_setMoving | apply sends_setAxState | apply sends_set | apply sends_flag)
    | (with_reducible first | apply sends_applyIf | apply sends_setInt | apply sends_outcomeEvent)
    | split
    | apply sends_mk

theorem sends_cutCycles {s₀ : State} (s : State) (hk : Sends s₀ s) :
    Sends s₀ (State.cutCycles s) := by
  unfold State.cutCycles
  try dsimp only
  repeat' first
    | intro _
    | (with_reducible first | assumption | apply sends_onAxis | apply sends_endCycle | apply sends_foldl)
    | split

theorem sends_outputsOff {s₀ : State} (s : State) (phase : Phase) (hk : Sends s₀ s) :
    Sends s₀ (State.outputsOff s phase) := by
  unfold State.outputsOff
  try dsimp only
  repeat' first
    | intro _
    | (with_reducible first | assumption | apply sends_raiseSource | apply sends_onPwr | apply sends_safetyEval | apply sends_loadsOff | apply sends_applyIf)
    | (with_reducible first | apply sends_bridgeOff | apply sends_chopperOff | apply sends_cutCycles | apply sends_set | apply sends_foldl)


end Sys2Proof.Machine
end

section
/-! SUPPORT. A request on a link that takes it, with what it leaves of the links: their sessions, what they keep of their reads, and
TOGGLE; and a command word written on such a link. -/
set_option Elab.async false
namespace Sys2Proof.Machine
open Host

/-! ### A request served -/

/-- A request is served: performed in a state ready for it, its reply formed, TOGGLE inverted unless the request itself changes it. -/
structure Served (s : State) (l : Link) (op rsv page word : Nat) (v : Word) (a b t : State) (y : Reply) : Prop where
  before : ready a s
  performed : a.perform l op rsv page word v = (b, some y)
  after : ready t b
  reply : (t.link l).reply = y
  toggle : (b.link l).toggle = (a.link l).toggle → (t.link l).toggle = !(s.link l).toggle

theorem ready_shiftOut (s : State) (l : Link) (r : Reply) : ready (s.shiftOut l r) s := ready_onLink s l (fun _ => rfl) (fun _ => rfl)

theorem ready_sendReply (s : State) (l : Link) (f : CanPend) : ready (s.sendReply l f) s := by
  unfold State.sendReply State.sendCan
  split
  · exact ready_onLink s _ (fun _ => rfl) (fun _ => rfl)
  · exact ready_refl s

theorem toggle_sendReply (s : State) (l : Link) (f : CanPend) : ((s.sendReply l f).link l).toggle = (s.link l).toggle := by
  unfold State.sendReply State.sendCan
  split
  · cases l <;> rfl
  · rfl

/-- The steps of a port with one frame of one record, and what they leave of the links. -/
theorem serveCan_record {s : State} {l : Link} {fd : Bool} {r : BitVec 64} {y : Reply} {x : State} (n : Nat)
    {rs : List (BitVec 64)} (hf : (s.link l).frames = [⟨fd, rs, [r], []⟩]) (hx : s.performBits l r = (x, some y)) :
    ready (State.serveCan l (n + 3) s) x ∧ ((State.serveCan l (n + 3) s).link l).toggle = !(x.link l).toggle := by
  have hrun : State.serveCan l (n + 3) s = State.serveCan l (n + 2) (((x.shiftOut l y).onLink l fun k => { k with reply := y }).onLink l
      fun k => { k with frames := ⟨fd, rs, [], [((((x.shiftOut l y).onLink l fun k => { k with reply := y }).link l).sent)]⟩ :: [] }) := by
    rw [State.serveCan, hf]
    simp only [hx, List.nil_append]
  rw [hrun]
  generalize (((x.shiftOut l y).onLink l fun k => { k with reply := y }).link l).sent = z
  rw [State.serveCan, link_onLink_same]
  simp only
  refine ⟨ready_trans (ready_sendReply _ _ _) (ready_trans (ready_onLink _ l (fun _ => rfl) (fun _ => rfl))
    (ready_trans (ready_onLink _ l (fun _ => rfl) (fun _ => rfl)) (ready_trans (ready_onLink _ l (fun _ => rfl) (fun _ => rfl))
      (ready_shiftOut x l y)))), ?_⟩
  rw [toggle_sendReply, link_onLink_same, link_onLink_same, link_onLink_same]
  unfold State.shiftOut
  rw [link_onLink_same]

theorem served_spi {s : State} (hfz : s.frozen = false) (hl : s.links.spi.waiting = none) (hls : s.leaseState (replySlot .spi) = 0)
    {op rsv page word : Nat} {v : Word} {r : BitVec 64}
    (hbits : ∀ t : State, t.leaseState (replySlot .spi) = 0 → t.performBits .spi r = t.perform .spi op rsv page word v) :
    ∃ a b y, Served s .spi op rsv page word v a b (s.spiFrame r) y := by
  unfold State.spiFrame
  generalize fieldOf r 59 52 = p
  generalize fieldOf r 51 44 = w
  have hb : s.beginSpi p w = ((s.shiftOut .spi s.links.spi.reply).onLink .spi fun k => { k with echo := (p, w), formed := none }, true) := by
    unfold State.beginSpi
    rw [hl]
    rfl
  rw [hb]
  have hready : ready ((s.shiftOut .spi s.links.spi.reply).onLink .spi fun k => { k with echo := (p, w), formed := none }) s :=
    ready_trans (ready_onLink _ .spi (fun _ => rfl) (fun _ => rfl)) (ready_shiftOut s .spi _)
  have htoggle : (((s.shiftOut .spi s.links.spi.reply).onLink .spi fun k => { k with echo := (p, w), formed := none }).link .spi).toggle =
      !(s.link .spi).toggle := rfl
  generalize (s.shiftOut .spi s.links.spi.reply).onLink .spi (fun k => { k with echo := (p, w), formed := none }) = a at *
  have hans := perform_answers a .spi op rsv page word v ((frozen_of_linksAside hready.1.1).trans hfz)
  have hla : a.leaseState (replySlot .spi) = 0 := (get_of_linksAside hready.1.1 _).trans hls
  simp only [if_true, State.runSpi, hbits a hla, endReply_free a .spi _ hla]
  cases hx : a.perform .spi op rsv page word v with
  | mk x o =>
    rw [hx] at hans
    cases o with
    | none => cases hans
    | some y =>
      exact ⟨a, x, y, hready, hx, ready_trans (ready_onLink _ .spi (fun _ => rfl) (fun _ => rfl))
        (ready_onLink x .spi (fun _ => rfl) (fun _ => rfl)), rfl, fun h => h.trans htoggle⟩

theorem served_can {s : State} {l : Link} (h : l ≠ .spi) (hfz : s.frozen = false) (hup : s.canUp (portOf l) = true)
    (hfr : (s.link l).frames = []) (hls : s.leaseState (replySlot l) = 0) {op rsv page word : Nat} {v : Word} {r : BitVec 64}
    (hbits : ∀ t : State, t.leaseState (replySlot l) = 0 → t.performBits l r = t.perform l op rsv page word v) :
    ∃ a b y, Served s l op rsv page word v a b
      (s.canFrame (portOf l) ⟨s.reqId (portOf l), s.on (F.HST_CAN0CFG_IDE.at (portOf l)), (s.link l).fd, bytesOf64 r⟩) y := by
  unfold State.canFrame
  rw [canLink_portOf h]
  simp only [bytesOf64_length, hup, hfr, recordsOf_bytesOf64, List.length_nil]
  rw [if_neg (by simp; split <;> omega), if_neg (by omega)]
  generalize hb : (s.onLink l fun k => { k with fd := (s.link l).fd, frames := k.frames ++ [⟨(s.link l).fd, [r], [r], []⟩] }) = b
  have hready : ready b s := by rw [← hb]; exact ready_onLink s l (fun _ => rfl) (fun _ => rfl)
  have htoggle : (b.link l).toggle = (s.link l).toggle := by rw [← hb, link_onLink_same]
  have hf : (b.link l).frames = [⟨(s.link l).fd, [r], [r], []⟩] := by rw [← hb, link_onLink_same, hfr]; rfl
  have hans := perform_answers b l op rsv page word v ((frozen_of_linksAside hready.1.1).trans hfz)
  cases hx : b.perform l op rsv page word v with
  | mk x o =>
    rw [hx] at hans
    cases o with
    | none => cases hans
    | some y =>
      have hperform := (hbits b ((get_of_linksAside hready.1.1 _).trans hls)).trans hx
      obtain ⟨-, hreply, hframes⟩ := serveCan_one 6 hf hperform
      obtain ⟨hafter, hflip⟩ := serveCan_record 6 hf hperform
      refine ⟨b, x, y, ?_⟩
      simp only [List.isEmpty_nil, Bool.not_true, Bool.false_eq_true, if_false, State.runCan,
        endReply_free b l _ ((get_of_linksAside hready.1.1 _).trans hls)]
      rw [if_pos (by rw [hframes]; rfl)]
      exact ⟨hready, hx, hafter, hreply, fun e => by rw [hflip, e, htoggle]⟩

/-- A request on a link that takes it is served. -/
theorem served_of_takes {s : State} {l : Link} (h : s.takes l) {op rsv page word : Nat} (v : Word) (ho : op < 16) (hr : rsv < 16)
    (hp : page < 256) (hw : word < 256) :
    ∃ a b y, Served s l op rsv page word v a b (s.submitBits l (requestBits op rsv page word v)) y := by
  obtain ⟨hrun, -, hfz, hls, hl⟩ := h
  have hbits : ∀ t : State, t.leaseState (replySlot l) = 0 →
      t.performBits l (requestBits op rsv page word v) = t.perform l op rsv page word v := fun t ht =>
    performBits_requestBits t l v ho hr hp hw (slotOpen_free ht)
  unfold State.submitBits
  rw [if_pos (linksUp_of_run hrun)]
  cases l with
  | spi => exact served_spi hfz hl hls hbits
  | can0 => exact served_can (l := .can0) (by simp) hfz hl.1 hl.2 hls hbits
  | can1 => exact served_can (l := .can1) (by simp) hfz hl.1 hl.2 hls hbits

/-- A request that is not turned away is performed at once: what its operation does, with the words that follow the moment up to
date. -/
theorem perform_known {s : State} (l : Link) {op page word : Nat} {v : Word} (ho : op ≤ 5) (hf : s.frozen = false) :
    s.perform l op 0 page word v = match op with
      | 0 => (((s.beforeRequest l op).serveNop l page word).1, some ((s.beforeRequest l op).serveNop l page word).2)
      | 1 => (((s.beforeRequest l op).serveRead l page word v).1, some ((s.beforeRequest l op).serveRead l page word v).2)
      | 2 => (((s.beforeRequest l op).serveWrite l page word v).1, some ((s.beforeRequest l op).serveWrite l page word v).2)
      | 3 => (((s.beforeRequest l op).serveBurst l page word v).1, some ((s.beforeRequest l op).serveBurst l page word v).2)
      | 4 => (((s.beforeRequest l op).serveCommit l page word v).1, some ((s.beforeRequest l op).serveCommit l page word v).2)
      | _ => (s.beforeRequest l op, some ((s.beforeRequest l op).serveStatus page word)) := by
  unfold State.perform
  show (if _ then _ else if (s.beforeRequest l op).mustWait op page word = true then _ else _ : State × Option Reply) = _
  rw [if_neg (by omega), mustWait_beforeRequest l op page word hf]
  rcases (by omega : op = 0 ∨ op = 1 ∨ op = 2 ∨ op = 3 ∨ op = 4 ∨ op = 5) with rfl | rfl | rfl | rfl | rfl | rfl <;> rfl

/-! ### The state a request runs in -/

/-- The field follows the moment, or shows the frame of a page with such a word. -/
def Fld.derived (f : Fld) : Bool := derivedWords.any fun a => f.addr == a || f.addr == addrOf (a / 256) 7

theorem State.get_refreshShown {f : Fld} (h : f.derived = false) (s : State) : s.refreshShown.get f = s.get f := by
  unfold Fld.derived at h
  rw [List.any_eq_false] at h
  unfold State.get
  rw [State.reg_refreshShown (fun hm => h _ hm (by simp)) (fun a ha e => h a ha (by simp [e]))]

theorem State.on_refreshShown {f : Fld} (h : f.derived = false) (s : State) : s.refreshShown.on f = s.on f := by
  unfold State.on; rw [State.get_refreshShown h]

theorem State.get_of_twin {a s : State} (ha : twin a s.refreshShown) {f : Fld} (h : f.derived = false) : a.get f = s.get f := by
  rw [get_of_linksAside ha.1, State.get_refreshShown h]

theorem State.on_of_twin {a s : State} (ha : twin a s.refreshShown) {f : Fld} (h : f.derived = false) : a.on f = s.on f := by
  rw [on_of_linksAside ha.1, State.on_refreshShown h]

/-- The sessions of the links in the state a request runs in are those before it. -/
theorem session_of_twin {a s : State} (ha : twin a s.refreshShown) (k : Link) : (a.link k).session = (s.link k).session :=
  (ha.2 k).trans (refreshShown_session s k)

/-! ### A write -/

theorem session_mapAll (s : State) (f : LinkSt → LinkSt) (hf : ∀ k, (f k).session = k.session) (b : Bool) :
    twin (s.applyIf b fun t => { t with links := t.links.mapAll f }) s := by
  refine ⟨linksAside_mapAll s f b, fun k => ?_⟩
  cases b
  · rfl
  · cases k <;> exact hf _

/-- A write to a fitted page on a link that takes it: the state it runs in, and what it answers. -/
theorem hostWrite_served {s : State} {l : Link} (h : s.takes l) {page word : Nat} (v : Word) (hf : s.fitted page = true)
    (hp : page < 256) (hw : word < 256) : ∃ a, twin a s.refreshShown ∧
      twin (s.hostWrite l page word v) (a.writeFitted l page word v).state ∧
      (∀ c, (a.writeFitted l page word v).code = some c → Claims.refusedWith (s.hostWrite l page word v) l c) ∧
      ((a.writeFitted l page word v).code = none → Claims.granted (s.hostWrite l page word v) l ∧
        bit ((s.hostWrite l page word v).link l).reply.status 4 = ((a.writeFitted l page word v).clamps != [])) := by
  obtain ⟨a, b, y, hready, hx, hafter, hreply, -⟩ := served_of_takes h (op := 2) (rsv := 0) v (by omega) (by omega) hp hw
  have hfz : a.frozen = false := (frozen_of_linksAside hready.1.1).trans h.2.2.1
  rw [perform_known l (by omega) hfz] at hx
  have htwin : twin (a.beforeRequest l 2) s.refreshShown := twin_trans (beforeRequest_twin a l 2) (refreshShown_twin hready.1)
  simp only at hx
  rw [serveWrite_unfrozen _ _ _ _ (beforeRequest_frozen l 2 hfz)] at hx
  obtain ⟨rfl, hy⟩ := Prod.mk.inj hx
  obtain ⟨hrun, hheld, hfit⟩ := takes_of_twin htwin
  refine ⟨a.beforeRequest l 2, htwin, ?_⟩
  generalize a.beforeRequest l 2 = u at *
  have hgate := writeGate_run (page := page) (word := word) v (hrun h.1) (hheld.trans h.2.1) ((hfit page).trans hf)
  have hstate : twin (u.runWrite l page word v).state (u.writeFitted l page word v).state := by
    unfold State.runWrite
    rw [hgate]
    exact session_mapAll _ (fun k => { k with attnTold := false }) (fun _ => rfl) _
  have hcode : (u.runWrite l page word v).code = (u.writeFitted l page word v).code := by unfold State.runWrite; rw [hgate]
  have hclamps : (u.runWrite l page word v).clamps = (u.writeFitted l page word v).clamps := by unfold State.runWrite; rw [hgate]
  have hanswer := hreply.trans (Option.some.inj hy).symm
  refine ⟨twin_trans hafter.1 hstate, fun c hc => ?_, fun hc => ?_⟩
  · unfold replyToWrite at hanswer
    rw [hcode, hc] at hanswer
    unfold Claims.refusedWith
    show bit ((s.submitBits l _).link l).reply.status 3 = true ∧ ((s.submitBits l _).link l).reply.data = _
    rw [hanswer]
    exact ⟨bit_status_refusal .., rfl⟩
  · unfold replyToWrite at hanswer
    rw [hcode, hc] at hanswer
    unfold Claims.granted
    show bit ((s.submitBits l _).link l).reply.status 3 = false ∧ bit ((s.submitBits l _).link l).reply.status 4 = _
    rw [hanswer, hclamps]
    unfold State.reply State.statusByte clampBit ofBool
    constructor <;> simp only <;> split <;> split <;> split <;> simp_all [bit]

/-- A command word written on a link that takes it, with a value that needs no clamp: the command runs, in a state like `s` with the words
that follow the moment up to date, and its answer is the reply. -/
theorem hostWrite_row {s : State} {l : Link} (h : s.takes l) {page word : Nat} {v : Word} (v' : Word) (row : RegRow)
    (hf : s.fitted page = true) (hp : page < 256) (hw : word < 256) (h8 : 8 ≤ word) (hcm : ¬ (page = 0x02 ∧ word = 0x08))
    (hrow : regRow page word = some row) (hs : row.hasAccess .rws = false)
    (ha : (row.hasAccess .wo || row.hasAccess .rw) = true) (hk : checkWrite row.rows 0 v = (v', [])) :
    ∃ a, twin a s.refreshShown ∧ twin (s.hostWrite l page word v) (a.command l page word v').1 ∧
      (∀ c, (a.command l page word v').2 = some c → Claims.refusedWith (s.hostWrite l page word v) l c) ∧
      ((a.command l page word v').2 = none → Claims.granted (s.hostWrite l page word v) l) := by
  obtain ⟨a, htwin, hstate, hrefused, hgranted⟩ := hostWrite_served h v hf hp hw
  have hend : a.writeFitted l page word v = endWrite page word [] (a.command l page word v') := by
    unfold State.writeFitted
    rw [if_neg (by omega), if_neg (by omega), if_neg (by omega), if_neg (by omega), if_neg hcm, hrow]
    simp only [hs, ha, hk, Bool.false_eq_true, if_false, if_true]
  have hcmd : (a.writeFitted l page word v).state = (a.command l page word v').1 ∧
      (a.writeFitted l page word v).code = (a.command l page word v').2 := by
    rw [hend]
    unfold endWrite
    cases hc : (a.command l page word v').2 with
    | none => simp [State.logClamps]
    | some c => simp
  rw [hcmd.1] at hstate
  rw [hcmd.2] at hrefused hgranted
  exact ⟨a, htwin, hstate, hrefused, fun hc => (hgranted hc).1⟩

end Sys2Proof.Machine
end

section
/-! SUPPORT. Command words of one field, and what the state a request runs in shares with the state before it. -/
set_option Elab.async false
namespace Sys2Proof.Machine
open Host

/-! ### Command words that take all 32 bits -/

theorem withBits_full (v : Word) : withBits 0 31 0 (bitsOf v 31 0) = v := by
  apply BitVec.eq_of_toNat_eq
  rw [withBits_toNat _ _ _ _ (by omega) (by omega)]
  have := v.isLt
  unfold bitsOf
  simp; omega

/-- A word of one field of 32 bits that the host can write takes every value. -/
theorem checkWrite_full {name : String} {acc : Access} {reset : Nat} (h : acc = .wo ∨ acc = .rw) (v : Word) :
    checkWrite [.fld name 31 0 acc reset .any] 0 v = (v, []) := by
  refine Prod.ext ?_ ?_
  · rcases h with rfl | rfl <;> exact withBits_full v
  · rcases h with rfl | rfl <;> rfl

/-- A command word that takes all 32 bits, written on a link that takes it. -/
theorem hostWrite_full {s : State} {l : Link} (h : s.takes l) (page word : Nat) (v : Word) {row : RegRow} {name : String}
    {acc : Access} {reset : Nat} (hf : s.fitted page = true) (hrow : regRow page word = some row)
    (hrows : row.rows = [.fld name 31 0 acc reset .any]) (hacc : acc = .wo ∨ acc = .rw)
    (hp : page < 256 := by decide) (hw : word < 256 := by decide) (h8 : 8 ≤ word := by decide)
    (hcm : ¬ (page = 0x02 ∧ word = 0x08) := by decide) :
    ∃ a, twin a s.refreshShown ∧ twin (s.hostWrite l page word v) (a.command l page word v).1 ∧
      (∀ c, (a.command l page word v).2 = some c → Claims.refusedWith (s.hostWrite l page word v) l c) ∧
      ((a.command l page word v).2 = none → Claims.granted (s.hostWrite l page word v) l) := by
  refine hostWrite_row h v row hf hp hw h8 hcm hrow ?_ ?_ (by rw [hrows]; exact checkWrite_full hacc v)
  · unfold RegRow.hasAccess
    rw [hrows]
    rcases hacc with rfl | rfl <;> rfl
  · unfold RegRow.hasAccess
    rw [hrows]
    rcases hacc with rfl | rfl <;> rfl

/-! ### What the state a request runs in shares -/

/-- Outside the pages that show the moment no field is derived. -/
theorem Fld.derived_of_page {f : Fld} (h : 0x1A ≤ f.page) : f.derived = false := by
  have hpages : ∀ a ∈ derivedWords, a / 256 < 0x1A := by decide
  unfold Fld.derived
  rw [List.any_eq_false]
  intro a ha he
  have := hpages a ha
  have hf := addr_div f
  simp only [Bool.or_eq_true, beq_iff_eq] at he
  rcases he with he | he
  · rw [he] at hf; omega
  · rw [he, addrOf_div (by omega)] at hf; omega

theorem Fld.derived_on {f : Fld} (h : 0x1A ≤ f.page) (k : Nat) : (f.on k).derived = false :=
  Fld.derived_of_page (Nat.le_trans h (Nat.le_add_right _ _))

variable {a s : State}

/-! ### Parts of the state -/

theorem pwr_of_aside {a b : State} (h : linksAside a b) : a.pwr = b.pwr := by rw [h]
theorem pins_of_aside {a b : State} (h : linksAside a b) : a.pins = b.pins := by rw [h]
theorem commit_of_aside {a b : State} (h : linksAside a b) : a.commit = b.commit := by rw [h]
theorem pw_of_aside {a b : State} (h : linksAside a b) : a.pw = b.pw := by rw [h]
theorem spw_of_aside {a b : State} (h : linksAside a b) : a.spw = b.spw := by rw [h]
theorem fw_of_aside {a b : State} (h : linksAside a b) : a.fw = b.fw := by rw [h]
theorem thy_of_aside {a b : State} (h : linksAside a b) : a.thy = b.thy := by rw [h]
theorem stk_of_aside {a b : State} (h : linksAside a b) : a.stk = b.stk := by rw [h]
theorem rsm_of_aside {a b : State} (h : linksAside a b) : a.rsm = b.rsm := by rw [h]
theorem cyl_of_aside {a b : State} (h : linksAside a b) : a.cyl = b.cyl := by rw [h]
theorem flt_of_aside {a b : State} (h : linksAside a b) : a.flt = b.flt := by rw [h]
theorem dieSt_of_aside {a b : State} (h : linksAside a b) : a.dieSt = b.dieSt := by rw [h]
theorem line_of_aside {a b : State} (h : linksAside a b) : a.line = b.line := by rw [h]
theorem cur_of_aside {a b : State} (h : linksAside a b) : a.cur = b.cur := by rw [h]
theorem bay_of_aside {a b : State} (h : linksAside a b) : a.bay = b.bay := by rw [h]
theorem mot_of_aside {a b : State} (h : linksAside a b) : a.mot = b.mot := by rw [h]
theorem gate_of_aside {a b : State} (h : linksAside a b) : a.gate = b.gate := by rw [h]
theorem saf_of_aside {a b : State} (h : linksAside a b) : a.saf = b.saf := by rw [h]
theorem prot_of_aside {a b : State} (h : linksAside a b) : a.prot = b.prot := by rw [h]
theorem tmp_of_aside {a b : State} (h : linksAside a b) : a.tmp = b.tmp := by rw [h]
theorem ls_of_aside {a b : State} (h : linksAside a b) : a.ls = b.ls := by rw [h]
theorem sage_of_aside {a b : State} (h : linksAside a b) : a.sage = b.sage := by rw [h]
theorem ring_of_aside {a b : State} (h : linksAside a b) : a.ring = b.ring := by rw [h]
theorem aut_of_aside {a b : State} (h : linksAside a b) : a.aut = b.aut := by rw [h]
theorem saved_of_aside {a b : State} (h : linksAside a b) : a.saved = b.saved := by rw [h]
theorem journal_of_aside {a b : State} (h : linksAside a b) : a.journal = b.journal := by rw [h]
theorem ratios_of_aside {a b : State} (h : linksAside a b) : a.ratios = b.ratios := by rw [h]
theorem now_of_aside {a b : State} (h : linksAside a b) : a.now = b.now := by rw [h]
theorem shadow_of_aside {a b : State} (h : linksAside a b) : a.shadow = b.shadow := by rw [h]
theorem gdieDown_of_aside {a b : State} (h : linksAside a b) : a.gdieDown = b.gdieDown := by rw [h]
theorem pending_of_aside {a b : State} (h : linksAside a b) : a.pending = b.pending := by rw [h]

theorem pwr_of_twin (h : twin a s.refreshShown) : a.pwr = s.pwr := (pwr_of_aside h.1).trans (State.refreshShown_pwr s)
theorem pins_of_twin (h : twin a s.refreshShown) : a.pins = s.pins := (pins_of_aside h.1).trans (State.refreshShown_pins s)
theorem commit_of_twin (h : twin a s.refreshShown) : a.commit = s.commit := (commit_of_aside h.1).trans (State.refreshShown_commit s)
theorem pw_of_twin (h : twin a s.refreshShown) : a.pw = s.pw := (pw_of_aside h.1).trans (State.refreshShown_pw s)
theorem spw_of_twin (h : twin a s.refreshShown) : a.spw = s.spw := (spw_of_aside h.1).trans (State.refreshShown_spw s)
theorem fw_of_twin (h : twin a s.refreshShown) : a.fw = s.fw := (fw_of_aside h.1).trans (State.refreshShown_fw s)
theorem thy_of_twin (h : twin a s.refreshShown) : a.thy = s.thy := (thy_of_aside h.1).trans (State.refreshShown_thy s)
theorem stk_of_twin (h : twin a s.refreshShown) : a.stk = s.stk := (stk_of_aside h.1).trans (State.refreshShown_stk s)
theorem rsm_of_twin (h : twin a s.refreshShown) : a.rsm = s.rsm := (rsm_of_aside h.1).trans (State.refreshShown_rsm s)
theorem cyl_of_twin (h : twin a s.refreshShown) : a.cyl = s.cyl := (cyl_of_aside h.1).trans (State.refreshShown_cyl s)
theorem flt_of_twin (h : twin a s.refreshShown) : a.flt = s.flt := (flt_of_aside h.1).trans (State.refreshShown_flt s)
theorem dieSt_of_twin (h : twin a s.refreshShown) : a.dieSt = s.dieSt := (dieSt_of_aside h.1).trans (State.refreshShown_dieSt s)
theorem line_of_twin (h : twin a s.refreshShown) : a.line = s.line := (line_of_aside h.1).trans (State.refreshShown_line s)
theorem cur_of_twin (h : twin a s.refreshShown) : a.cur = s.cur := (cur_of_aside h.1).trans (State.refreshShown_cur s)
theorem bay_of_twin (h : twin a s.refreshShown) : a.bay = s.bay := (bay_of_aside h.1).trans (State.refreshShown_bay s)
theorem mot_of_twin (h : twin a s.refreshShown) : a.mot = s.mot := (mot_of_aside h.1).trans (State.refreshShown_mot s)
theorem gate_of_twin (h : twin a s.refreshShown) : a.gate = s.gate := (gate_of_aside h.1).trans (State.refreshShown_gate s)
theorem saf_of_twin (h : twin a s.refreshShown) : a.saf = s.saf := (saf_of_aside h.1).trans (State.refreshShown_saf s)
theorem prot_of_twin (h : twin a s.refreshShown) : a.prot = s.prot := (prot_of_aside h.1).trans (State.refreshShown_prot s)
theorem tmp_of_twin (h : twin a s.refreshShown) : a.tmp = s.tmp := (tmp_of_aside h.1).trans (State.refreshShown_tmp s)
theorem ls_of_twin (h : twin a s.refreshShown) : a.ls = s.ls := (ls_of_aside h.1).trans (State.refreshShown_ls s)
theorem sage_of_twin (h : twin a s.refreshShown) : a.sage = s.sage := (sage_of_aside h.1).trans (State.refreshShown_sage s)
theorem ring_of_twin (h : twin a s.refreshShown) : a.ring = s.ring := (ring_of_aside h.1).trans (State.refreshShown_ring s)
theorem aut_of_twin (h : twin a s.refreshShown) : a.aut = s.aut := (aut_of_aside h.1).trans (State.refreshShown_aut s)
theorem saved_of_twin (h : twin a s.refreshShown) : a.saved = s.saved := (saved_of_aside h.1).trans (State.refreshShown_saved s)
theorem journal_of_twin (h : twin a s.refreshShown) : a.journal = s.journal := (journal_of_aside h.1).trans (State.refreshShown_journal s)
theorem ratios_of_twin (h : twin a s.refreshShown) : a.ratios = s.ratios := (ratios_of_aside h.1).trans (State.refreshShown_ratios s)
theorem now_of_twin (h : twin a s.refreshShown) : a.now = s.now := (now_of_aside h.1).trans (State.refreshShown_now s)
theorem shadow_of_twin (h : twin a s.refreshShown) : a.shadow = s.shadow := (shadow_of_aside h.1).trans (State.refreshShown_shadow s)
theorem gdieDown_of_twin (h : twin a s.refreshShown) : a.gdieDown = s.gdieDown := (gdieDown_of_aside h.1).trans (State.refreshShown_gdieDown s)
theorem pending_of_twin (h : twin a s.refreshShown) : a.pending = s.pending := (pending_of_aside h.1).trans (State.refreshShown_pending s)

theorem hasM_of_twin (h : twin a s.refreshShown) : a.hasM = s.hasM := State.on_of_twin h (by decide)

theorem cdShut_of_twin (h : twin a s.refreshShown) (m : Nat) : a.cdShut m = s.cdShut m := by
  unfold State.cdShut State.cdClosed
  rw [State.get_of_twin h (f := F.PRT_STAT_AUX) (by decide), State.get_of_twin h (f := F.PRT_STAT_COIL) (by decide),
    State.get_of_twin h (f := F.PRT_DRV_AUXEN) (by decide)]

theorem anyCdClosed_of_twin (h : twin a s.refreshShown) : a.anyCdClosed = s.anyCdClosed := by
  unfold State.anyCdClosed
  rw [funext (cdShut_of_twin h)]

theorem axStill_of_twin (h : twin a s.refreshShown) (x : Nat) : a.axStill x = s.axStill x := by
  unfold State.axStill
  rw [State.get_of_twin h (Fld.derived_on (by decide) x)]

theorem anyMoving_of_twin (h : twin a s.refreshShown) : a.anyMoving = s.anyMoving := by
  unfold State.anyMoving
  rw [hasM_of_twin h]
  simp only [axStill_of_twin h]

end Sys2Proof.Machine
end

section
/-! Host reset and laid-up mode (R64 to R66). -/
set_option Elab.async false
namespace Sys2Proof.Machine
open Host

/-! ### The final flush -/

theorem State.flushUpTo_all_staged (s : State) : (s.flushUpTo true).rsm.staged = [] := by
  have hfill := fun u : State => altersOf (alters_showFill u)
  unfold State.flushUpTo
  rw [(hfill _).rsm (by decide +kernel)]
  simp only [Bool.true_or, Bool.not_true, List.filter_false]
  split_ifs <;> split <;> split <;> simp

theorem State.clearRosemary_staged (s : State) : s.clearRosemary.rsm.staged = [] := by
  have hfill : ∀ u : State, u.showFill.rsm = u.rsm := fun u => (altersOf (alters_showFill u)).rsm (by decide +kernel)
  unfold State.clearRosemary
  simp [hfill]

/-- A flush run to its end, before a clear that waited for it. -/
def State.flushedOut (s : State) (closeWindows : Bool) : State :=
  let s := s.takeInbox
  let s := if closeWindows then s.rsm.buckets.foldl State.closeBucket s else s
  let s := ((s.flushUpTo true).overflowSummary).flushUpTo true
  { s with rsm := { s.rsm with flushing := false, flushDue := false } }.setOn F.RSM_PSTAT_FLUSHING false

theorem State.finalFlush_eq (s : State) (b : Bool) :
    s.finalFlush b = (s.flushedOut b).applyIf (s.flushedOut b).rsm.clearDue State.clearRosemary := by
  unfold State.finalFlush State.flushedOut
  with_reducible rfl

theorem State.flushedOut_staged (s : State) (b : Bool) : (s.flushedOut b).rsm.staged = [] := by
  unfold State.flushedOut
  simp only [State.setOn_rsm, State.flushUpTo_all_staged]

/-- A flush run to its end leaves nothing staged. -/
theorem State.finalFlush_staged (s : State) (b : Bool) : (s.finalFlush b).rsm.staged = [] := by
  rw [State.finalFlush_eq]
  unfold State.applyIf
  split
  · exact State.clearRosemary_staged _
  · exact State.flushedOut_staged s b

theorem State.portTasks_staged (s : State) (b : Bool) : (s.portTasks b).rsm.staged = [] := by
  unfold State.portTasks
  simp only
  rw [(altersOf (alters_clearSlot _ 0)).rsm (by decide +kernel), (altersOf (alters_saveAcked _)).rsm (by decide +kernel)]
  exact State.finalFlush_staged _ _

/-! ### Host reset (R64) -/

theorem hostReset_served {s : State} {l : Link} (h : s.takes l) (key : Word) : ∃ a t, twin a s.refreshShown ∧
    exec (.hostReset l key) s = .next t ∧ twin t (a.writeReset key).1 ∧
    ∀ c, (a.writeReset key).2 = some c → Claims.refusedWith t l c := by
  obtain ⟨a, ha, ht, hrefused, -⟩ := hostWrite_full h 0x06 0xE0 key rfl rfl rfl (Or.inl rfl)
  exact ⟨a, _, ha, rfl, ht, hrefused⟩

/-- R64: the key resets a module at rest. -/
theorem execHostReset_claim (l : Link) (s : State) : Claims.hostReset l s := by
  intro htakes hcd hmove
  obtain ⟨a, t, ha, ht, htwin, -⟩ := hostReset_served htakes 0xC0DE
  have hreset : (a.writeReset 0xC0DE).1 =
      ((((a.outputsOff .off).leaveRing).portTasks false).onPwr fun p => { p with cause := 4 }) := by
    unfold State.writeReset
    rw [if_neg (by rw [anyCdClosed_of_twin ha, anyMoving_of_twin ha, hcd, hmove]; decide)]
  have hdrop : a.Dropped .off (((a.outputsOff .off).leaveRing).portTasks false) :=
    ((a.outputsOff_dropped (by decide)).of_alters (altersOf (alters_leaveRing _)) (by decide +kernel)).of_alters
      (altersOf (alters_portTasks _ false)) (by decide +kernel)
  have hstaged := ((a.outputsOff .off).leaveRing).portTasks_staged false
  rw [hreset] at htwin
  generalize ((a.outputsOff .off).leaveRing).portTasks false = u at *
  have hside := htwin.1
  refine ⟨t, ht, ?_, ?_, ?_, ?_, ?_, ?_, ?_⟩
  · rw [hside]; exact congrArg PowerSt.phase hdrop.pwr
  · rw [hside]; rfl
  · rw [on_of_linksAside hside]; exact hdrop.asserted
  · intro hreleased
    rw [hside]
    show u.pins.fltN = true
    rw [hdrop.pins, State.on_of_twin ha (by decide), hreleased]
    rfl
  · rw [hside]
    show u.pins.propEn = false
    rw [hdrop.pins]
  · rw [hside]; exact hstaged
  · rw [get_of_linksAside hside]; exact hdrop.dies

/-- R64: another value, a closed contactor or a moving axis refuses the reset. -/
theorem execHostReset_refused (l : Link) (key : Word) (s : State) : Claims.hostResetRefused l key s := by
  intro htakes hcause
  obtain ⟨a, t, ha, ht, htwin, hrefused⟩ := hostReset_served htakes key
  have hreset : a.writeReset key = (a, some 0x0A) := by
    unfold State.writeReset
    rw [if_pos (by rw [anyCdClosed_of_twin ha, anyMoving_of_twin ha, Bool.or_eq_true]; exact hcause)]
  rw [hreset] at htwin hrefused
  exact ⟨t, ht, linksAside_trans htwin.1 ha.1, hrefused _ rfl⟩

/-! ### Laying up (R65) -/

theorem layup_served {s : State} {l : Link} (h : s.takes l) (key : Word) (wakeN : Bool) : ∃ a t,
    twin a ({ s with pins := { s.pins with wakeN := wakeN } } : State).refreshShown ∧
    exec (.layupEnter l key wakeN) s = .next t ∧ twin t (a.writeLayup key).1 ∧
    ∀ c, (a.writeLayup key).2 = some c → Claims.refusedWith t l c := by
  have h' : ({ s with pins := { s.pins with wakeN := wakeN } } : State).takes l := by cases l <;> exact h
  obtain ⟨a, ha, ht, hrefused, -⟩ := hostWrite_full h' 0x06 0xE1 key rfl rfl rfl (Or.inl rfl)
  exact ⟨a, _, ha, rfl, ht, hrefused⟩

/-- What Sage and the saved values have to store before the module is laid up. -/
def State.storeForLayup (s : State) : State :=
  if s.pwr.phase == .run then
    let s := match s.sage.wbData with
      | some c => s.writebackStored c
      | none => s
    ((s.writebackStored s.sageData).onSage fun g => { g with wbDue := false }).saveNow
  else s

/-- What `State.storeForLayup` may alter. -/
def alt_storeForLayup : Nat := alt_writebackStored ||| alt_onSage ||| alt_saveNow

theorem alters_storeForLayup (s : State) : Alters alt_storeForLayup s s.storeForLayup := by
  have hm : ∀ m, m &&& alt_storeForLayup = m → Sub m alt_storeForLayup := fun _ h => h
  unfold State.storeForLayup
  refine alters_ite (alters_saveNow _ (hm _ (by decide +kernel)) (alters_onSage _ _ (hm _ (by decide +kernel))
    (alters_writebackStored _ _ (hm _ (by decide +kernel)) ?_))) (alters_refl _ s)
  cases s.sage.wbData with
  | some c => exact alters_writebackStored _ _ (hm _ (by decide +kernel)) (alters_refl _ s)
  | none => exact alters_refl _ s

/-- The six steps of R65, but for what the power chapter keeps. -/
def State.layupSteps (s : State) : State :=
  ((((((s.storeForLayup.listed 0x06 1 0 [addrOf 0x06 0x60]).portTasks false).outputsOff .laidUp).leaveRing).setOn F.PWR_STAT_HUP_OK
    false).set F.PWR_VM_VHUP 0).set F.SYS_DIEMAP_MD 0

theorem writeLayup_eq {a : State} (h : (a.anyCdClosed || a.anyMoving || a.pins.shoreDet || a.pins.wakeN || a.on F.PWR_STAT_WARN ||
    a.pwr.phase == .holdup) = false) : (a.writeLayup 0x1A1D).1 =
      { a.layupSteps with gdieDown := a.layupSteps.hasM, pwr := { a.layupSteps.pwr with cause := 0 } } := by
  unfold State.writeLayup
  rw [if_neg (by rw [h]; decide)]
  unfold State.layupSteps State.storeForLayup
  cases a.sage.wbData <;> dsimp only

theorem State.layupSteps_dropped (a : State) : ∃ u : State, Alters (alt_storeForLayup ||| partRsm ||| alt_portTasks) a u ∧
    u.Dropped .laidUp a.layupSteps ∧ a.layupSteps.rsm.staged = [] ∧ a.layupSteps.hasM = a.hasM := by
  have hu : Alters (alt_storeForLayup ||| partRsm ||| alt_portTasks) a
      ((a.storeForLayup.listed 0x06 1 0 [addrOf 0x06 0x60]).portTasks false) :=
    alters_portTasks _ false (sub_right (sub_refl _)) (alters_listed (sub_left (sub_right (sub_refl _)))
      ((alters_storeForLayup a).mono (sub_left (sub_left (sub_refl _)))))
  have hstaged := State.portTasks_staged (a.storeForLayup.listed 0x06 1 0 [addrOf 0x06 0x60]) false
  have hlast : ∀ v : State, Alters (alt_leaveRing ||| setMask F.PWR_STAT_HUP_OK ||| setMask F.PWR_VM_VHUP ||| setMask F.SYS_DIEMAP_MD) v
      ((((v.leaveRing).setOn F.PWR_STAT_HUP_OK false).set F.PWR_VM_VHUP 0).set F.SYS_DIEMAP_MD 0) := fun v =>
    alters_set (sub_right (sub_refl _)) (alters_set (sub_left (sub_right (sub_refl _))) (alters_setOn
      (sub_left (sub_left (sub_right (sub_refl _)))) (alters_leaveRing v (sub_left (sub_left (sub_left (sub_refl _)))) (alters_refl _ v))))
  unfold State.layupSteps
  generalize (a.storeForLayup.listed 0x06 1 0 [addrOf 0x06 0x60]).portTasks false = u at *
  refine ⟨u, hu, (u.outputsOff_dropped (by decide)).of_alters (hlast _) (by decide +kernel), ?_, ?_⟩
  · rw [(hlast _).rsm (by decide +kernel), (sends_outputsOff u .laidUp (sends_refl u)).staged, hstaged]
  · exact ((hlast _).on F.SYS_VARIANT_GDIE (by decide +kernel)).trans (((altersOf (alters_outputsOff u .laidUp)).on _
      (by decide +kernel)).trans (hu.on _ (by decide +kernel)))

/-- R65: the key lays a module at rest up. -/
theorem execLayupEnter_claim (l : Link) (s : State) : Claims.layupEnter l s := by
  intro htakes hcd hmove hshore hwarn
  obtain ⟨a, t, ha, ht, htwin, -⟩ := layup_served htakes 0x1A1D false
  have hpins : a.pins = { s.pins with wakeN := false } := (pins_of_twin ha).trans rfl
  have hpwr : a.pwr = s.pwr := (pwr_of_twin ha).trans rfl
  have hM : a.hasM = s.hasM := (hasM_of_twin ha).trans rfl
  rw [writeLayup_eq (by
    rw [anyCdClosed_of_twin ha, anyMoving_of_twin ha, hpins, State.on_of_twin ha (by decide), hpwr, htakes.1]
    show (s.anyCdClosed || s.anyMoving || s.pins.shoreDet || false || s.on F.PWR_STAT_WARN || _) = false
    rw [hcd, hmove, hshore, hwarn]
    rfl)] at htwin
  obtain ⟨u, hu, hdrop, hstaged, hsame⟩ := a.layupSteps_dropped
  generalize a.layupSteps = v at *
  have hside := htwin.1
  refine ⟨t, ht, ?_, ?_, ?_, ?_, ?_, ?_, ?_⟩
  · rw [hside]; exact congrArg PowerSt.phase hdrop.pwr
  · rw [on_of_linksAside hside]; exact hdrop.asserted
  · intro hreleased
    rw [hside]
    show v.pins.fltN = true
    rw [hdrop.pins, hu.on _ (by decide +kernel), State.on_of_twin ha (by decide)]
    show (if s.on F.CMP_FLSTAT_ASSERTED = true then _ else true) = true
    rw [hreleased]
    rfl
  · rw [hside]
    show v.pins.propEn = false
    rw [hdrop.pins]
  · rw [hside]; exact hstaged
  · rw [get_of_linksAside hside]; exact hdrop.dies
  · rw [hside, ← hM]; exact hsame

/-- R65: what refuses the laying up. -/
theorem execLayupEnter_refused (l : Link) (key : Word) (wakeN : Bool) (s : State) : Claims.layupRefused l key wakeN s := by
  intro htakes hcause
  obtain ⟨a, t, ha, ht, htwin, hrefused⟩ := layup_served htakes key wakeN
  have hpins : a.pins = { s.pins with wakeN := wakeN } := (pins_of_twin ha).trans rfl
  have hpwr : a.pwr = s.pwr := (pwr_of_twin ha).trans rfl
  have hlayup : a.writeLayup key = (a, some 0x0A) := by
    unfold State.writeLayup
    have hcd : a.anyCdClosed = s.anyCdClosed := (anyCdClosed_of_twin ha).trans (by
      unfold State.anyCdClosed State.cdShut State.cdClosed; simp only [State.get_mk])
    have hmove : a.anyMoving = s.anyMoving := (anyMoving_of_twin ha).trans (by
      unfold State.anyMoving State.hasM State.axStill; simp only [State.get_mk, State.on_mk])
    have hwarn : a.on F.PWR_STAT_WARN = s.on F.PWR_STAT_WARN := (State.on_of_twin ha (by decide)).trans (State.on_mk s ..)
    rw [if_pos (by
      rw [hcd, hmove, hpins, hwarn]
      simp only [Bool.or_eq_true]
      tauto)]
  rw [hlayup] at htwin hrefused
  refine ⟨t, ht, ?_, ?_, hrefused _ rfl⟩
  · rw [htwin.1]; exact hpwr
  · rw [htwin.1]
    show a.gdieDown = s.gdieDown
    exact (gdieDown_of_twin ha).trans rfl

/-! ### Waking (R66) -/

theorem execLayupWake_claim (source : Nat) (s : State) : Claims.layupWake source s := by
  intro hphase _ henabled
  refine if_pos ?_
  rw [hphase]
  split at henabled <;> simp_all

theorem execLayupSupplyLost_claim (s : State) : Claims.layupSupplyLost s := fun hphase => if_pos (by rw [hphase]; rfl)

end Sys2Proof.Machine

/-- Settles O11: a reset and a laying up drop the outputs as a power failure does and end with nothing staged; their refusals change nothing but
the words that show the moment. -/
theorem hostResetAndLaidUp : Obligations.HostResetAndLaidUp := by
  unfold Obligations.HostResetAndLaidUp
  exact ⟨Sys2Proof.Machine.execHostReset_claim, Sys2Proof.Machine.execHostReset_refused, Sys2Proof.Machine.execLayupEnter_claim,
    Sys2Proof.Machine.execLayupEnter_refused, Sys2Proof.Machine.execLayupWake_claim, Sys2Proof.Machine.execLayupSupplyLost_claim⟩
end

section
set_option Elab.async false
namespace Sys2Proof.Machine

/-- A module without power whose last run lost it in the journaled write of a new password, before the write was complete: MRAM still
holds the old one, 5. -/
def halfWrittenPassword : State :=
  { State.reset with
    journal := [⟨partyIsland1, [.password false 5]⟩]
    flt := { State.reset.flt with recovering := some partyIsland1 } }

/-- The start discards the incomplete write (R86), and the password is the old one again. -/
theorem start_restores_password :
    ∀ t, exec (.startQualified {}) halfWrittenPassword = .next t → t.pw.pw ≠ halfWrittenPassword.pw.pw := by
  have h : (match exec (.startQualified {}) halfWrittenPassword with
    | .next t => decide (t.pw.pw ≠ halfWrittenPassword.pw.pw)
    | _ => true) = true := by decide +kernel
  intro t ht
  rw [ht] at h
  exact of_decide_eq_true h

end Sys2Proof.Machine

open Sys2Proof Sys2Proof.Machine Host in
/-- Refutes O52: a start whose journal holds an incomplete write of a password undoes it, so the password is not as it was. -/
theorem not_framesOfHolds : ¬ Obligations.FramesOfHolds := by
  intro h
  obtain ⟨hstart, -⟩ := h
  obtain ⟨t, ht, hpw, -⟩ := hstart {} halfWrittenPassword rfl
  exact start_restores_password t ht hpw
end

section
set_option Elab.async false
namespace Sys2Proof.Machine

/-- A module in service whose MRAM write port another party holds, and for which no lease slot is kept. -/
def portWithoutSlot : State :=
  (({ State.reset with pwr := { State.reset.pwr with phase := .run }, flt := { State.reset.flt with leases := [] } }).set
    (F.FLT_LEASE_HOLDER.at 0) partyIsland1).set (F.FLT_LEASE_STATE.at 0) 1

/-- The image waits for the port, but there is no slot in whose queue the ring could stand. -/
theorem image_waits_without_queue :
    ∀ t, exec (.mirrorReceived 1 1 1 {} true) portWithoutSlot = .next t → partyIsland2 ∉ (t.lease 0).queue := by
  have h : (match exec (.mirrorReceived 1 1 1 {} true) portWithoutSlot with
    | .next t => decide (partyIsland2 ∉ (t.lease 0).queue)
    | _ => true) = true := by decide +kernel
  intro t ht
  rw [ht] at h
  exact of_decide_eq_true h

end Sys2Proof.Machine

open Sys2Proof Sys2Proof.Machine Host in
/-- Refutes O30: the claim on a complete image does not ask that the state keep an entry for each lease slot (the obligation of O5);
without the entry of the MRAM port the image waits with the ring in no queue. -/
theorem not_mirrorsAndAdoption : ¬ Obligations.MirrorsAndAdoption := by
  intro h
  obtain ⟨hreceived, -⟩ := h
  obtain ⟨t, ht, hport⟩ := hreceived 1 1 1 {} portWithoutSlot (by decide +kernel) (by decide +kernel) (by decide +kernel) (by decide)
  rw [if_neg (by decide +kernel)] at hport
  obtain ⟨-, -, hqueue⟩ := hport
  exact image_waits_without_queue t ht (hqueue (by decide +kernel))
end

section
/-! Start-up (R38, R58 to R62). -/
set_option Elab.async false
namespace Sys2Proof.Machine
open Host

/-! ### The start -/

theorem lookupReg_filter_none {p : Nat × Word → Bool} {a : Nat} (h : ∀ v, p (a, v) = false) (l : Regs) : lookupReg a (l.filter p) = none := by
  induction l with
  | nil => rfl
  | cons e l ih =>
    obtain ⟨b, v⟩ := e
    rw [List.filter_cons]
    split
    · next hp =>
      unfold lookupReg
      rw [if_neg (fun e => by subst e; rw [h v] at hp; exact absurd hp (by decide))]
      exact ih
    · exact ih

/-- No start keeps or restores the word. -/
def startsAfresh (a : Nat) : Bool :=
  !keptWord a && keptFields.all (fun f => f.addr != a) && !savedWords.contains a && a != F.CYL_ACKED_SEQ.addr &&
    a != F.CYL_STAT_UNACK.addr && a != F.SCH_CFG_USE.addr

/-- What start-up begins with: a word that nothing keeps reads its reset value, t = 0, and the pins as they are. -/
structure State.Fresh (u : State) : Prop where
  now : u.now = 0
  fltN : u.pins.fltN = true
  propEn : u.pins.propEn = false
  reg : ∀ a, startsAfresh a = true → u.reg a = resetAt a

theorem State.Fresh.setReg {u : State} (h : u.Fresh) {b : Nat} (hb : startsAfresh b = false) (v : Word) : (u.setReg b v).Fresh :=
  ⟨h.now, h.fltN, h.propEn, fun a ha => by
    rw [State.reg_setReg_other (fun e => by rw [← e, ha] at hb; exact absurd hb (by decide))]
    exact h.reg a ha⟩

theorem State.Fresh.of_parts {u v : State} (h : u.Fresh) (hn : v.now = u.now) (hp : v.pins = u.pins) (hr : v.regs = u.regs) : v.Fresh :=
  ⟨by rw [hn, h.now], by rw [hp, h.fltN], by rw [hp, h.propEn], fun a ha => by unfold State.reg; rw [hr]; exact h.reg a ha⟩

theorem fresh_foldl {α : Type} {f : State → α → State} {l : List α} (hf : ∀ u, State.Fresh u → ∀ a ∈ l, (f u a).Fresh) {u : State}
    (h : u.Fresh) : (l.foldl f u).Fresh := List.foldlRecOn l f h hf

/-- The kept fields of the words that are not kept whole. -/
theorem fresh_keptFields (s : State) {u : State} (h : u.Fresh) :
    (keptFields.foldl (fun (t : State) f => t.setReg f.addr (withBits (t.reg f.addr) f.hi f.lo (s.get f))) u).Fresh := by
  have hkept : ∀ f ∈ keptFields, startsAfresh f.addr = false := by decide +kernel
  exact fresh_foldl (fun _ hu f hf => hu.setReg (hkept f hf) _) h

theorem fresh_savedWords (l : List (Nat × Word)) {u : State} (h : u.Fresh) :
    ((l.filter fun w => savedWords.contains w.1).foldl (fun (t : State) w => t.setReg w.1 w.2) u).Fresh := by
  refine fresh_foldl (fun _ hu w hw => hu.setReg ?_ _) h
  obtain ⟨-, hsaved⟩ := List.mem_filter.mp hw
  unfold startsAfresh
  rw [hsaved]
  simp

theorem State.atStart_fresh (s : State) (x : StartUp) : (s.atStart x).Fresh := by
  unfold State.atStart
  dsimp only
  have hbase : State.Fresh {
    regs := s.regs.filter fun w => keptWord w.1
    shadow := (s.regs.filter fun w => keptWord w.1).filter fun w =>
      decide (8 ≤ w.1 % 256) && decide (w.1 % 256 < 0x60) && decide (3 ≤ w.1 / 256 ∨ w.1 / 256 = 1)
    pins := { addr := x.addr, shoreDet := x.shoreDet, wakeN := x.wakeN }
    pw := { s.pw with tries := 0, lockedUntil := none }
    spw := { s.spw with tries := 0, lockedUntil := none }
    fw := { s.fw with waiting := [], abandonedInHalt := false }
    rsm := { stored := s.rsm.stored, lost := s.rsm.lost }
    cyl := { records := s.cyl.records, acked := s.cyl.acked }
    flt := { savedLeft := s.flt.savedLeft }
    bay := s.bay
    mot := { axes := s.saved.envs.toList.map fun e => { env := e } }
    saf := { passedAt := s.saf.passedAt, operated := s.operating, log := s.saf.log }
    sage := s.sage
    ring := { imageSeq := s.ring.imageSeq, half0 := s.ring.half0, half1 := s.ring.half1, newest1 := s.ring.newest1 }
    aut := { ids := s.aut.ids, anchor := s.aut.anchor }
    saved := s.saved
    ratios := s.ratios
    pending := s.pending } := ⟨rfl, rfl, rfl, fun a ha => by
      unfold State.reg
      rw [lookupReg_filter_none (fun v => ?_)]
      · rfl
      · unfold startsAfresh at ha
        cases hkept : keptWord a
        · rfl
        · rw [hkept] at ha; simp at ha⟩
  have hkept := fresh_savedWords s.saved.words (fresh_keptFields s hbase)
  generalize (List.foldl _ _ (List.filter _ s.saved.words)) = u at *
  have hend := ((hkept.setReg (b := F.CYL_ACKED_SEQ.addr) (by decide +kernel) (BitVec.ofNat 32 s.cyl.acked)).setReg
    (b := F.CYL_STAT_UNACK.addr) (by decide +kernel) (withBits (u.reg F.CYL_STAT_UNACK.addr) F.CYL_STAT_UNACK.hi F.CYL_STAT_UNACK.lo
      (s.get F.CYL_NEWEST_SEQ - s.cyl.acked)))
  generalize (u.setReg _ _).setReg _ _ = w at *
  have huse := hend.setReg (b := F.SCH_CFG_USE.addr) (by decide +kernel) (w.heldConfig F.SCH_CFG_USE.addr (w.reg F.SCH_CFG_USE.addr))
  exact huse.of_parts (by simp only [State.setShadow_now]) (by simp only [State.setShadow_pins])
    (by simp only [State.setShadow_regs])

/-- One mask within another, by the masks. -/
theorem sub_of_and {a b : Nat} (h : (a &&& b == a) = true) : Sub a b := beq_iff_eq.mp h

/-- What start-up shows and trains on the way from its first moment to the self-tests of the cores. -/
def State.startShown (t : State) (x : StartUp) (head top done : Nat) (left : List JournalEntry) : State :=
  let t := t.set F.PWR_HUPCAP_CAP x.capacitance
  let t := ((t.set F.RSM_HEAD_SEQ head).set F.RSM_FLUSHED_SEQ top).showFill
  let t := (t.set F.PRT_STAT_AUX (x.aux % 16)).reportJournal done left
  let t := t.showBanks
  let t := [0, 1].foldl (fun (t : State) p =>
    t.set (F.HST_CAN0ST_STATE.at p) (if t.on (F.HST_CAN0CFG_EN.at p) then 0 else 3)) t
  let t := if t.hasM then axisList.foldl (fun (t : State) a =>
      (t.setOn (F.AX_STAT_HOME.on a) (bit x.home a)).setOn (F.AX_STAT_LIM.on a) (bit x.lim a)) t
    else t
  t.showHeld.train x

def alt_startShown : Nat :=
  setMask F.PWR_HUPCAP_CAP ||| setMask F.RSM_HEAD_SEQ ||| setMask F.RSM_FLUSHED_SEQ ||| alt_showFill ||| setMask F.PRT_STAT_AUX |||
    alt_reportJournal ||| alt_showBanks ||| arrayMask F.HST_CAN0ST_STATE ||| setMask F.AX_STAT_HOME ||| setMask F.AX_STAT_LIM |||
    alt_showHeld ||| alt_train

theorem State.startShown_alters (t : State) (x : StartUp) (head top done : Nat) (left : List JournalEntry) :
    Alters alt_startShown t (t.startShown x head top done left) := by
  unfold State.startShown
  dsimp only
  refine alters_train _ _ (sub_of_and (by decide +kernel)) (alters_showHeld _ (sub_of_and (by decide +kernel)) ?_)
  have hports : Alters alt_startShown t ([0, 1].foldl (fun (t : State) p =>
      t.set (F.HST_CAN0ST_STATE.at p) (if t.on (F.HST_CAN0CFG_EN.at p) then 0 else 3))
      ((((((t.set F.PWR_HUPCAP_CAP x.capacitance).set F.RSM_HEAD_SEQ head).set F.RSM_FLUSHED_SEQ top).showFill.set F.PRT_STAT_AUX
        (x.aux % 16)).reportJournal done left).showBanks)) := by
    refine alters_foldl (fun _ p => alters_set (sub_trans (setMask_at _ p) (sub_of_and (by decide +kernel)))) ?_
    refine alters_showBanks _ (sub_of_and (by decide +kernel)) (alters_reportJournal _ _ _ (sub_of_and (by decide +kernel)) ?_)
    refine alters_set (sub_of_and (by decide +kernel)) (alters_showFill _ (sub_of_and (by decide +kernel)) ?_)
    refine alters_set (sub_of_and (by decide +kernel)) (alters_set (sub_of_and (by decide +kernel)) ?_)
    exact alters_set (sub_of_and (by decide +kernel)) (alters_refl _ _)
  refine alters_ite (alters_foldl (fun _ a h => ?_) hports) hports
  refine alters_setOn (by rw [setMask_on]; exact sub_of_and (by decide +kernel)) (alters_setOn ?_ h)
  rw [setMask_on]
  exact sub_of_and (by decide +kernel)

/-- The first moment of a start: what is to settle, the cause, the address sampled. -/
def State.startPowered (t : State) (x : StartUp) (cause : Nat) : State :=
  ((t.onPwr fun p => { p with
    phase := .startup, cause := 0, settling := t.dieList, start := x, woke := decide (8 ≤ cause) }).setReg (addrOf 0x06 0x65)
      (BitVec.ofNat 32 cause)).set F.KRG_STAT_ADDR x.addr

/-- What holds when the cores test themselves at a start. -/
structure State.Started (x : StartUp) (v : State) : Prop where
  now : v.now = 0
  fltN : v.pins.fltN = true
  propEn : v.pins.propEn = false
  phase : v.pwr.phase = .startup
  settling : v.pwr.settling = List.range v.dies
  addr : v.get F.KRG_STAT_ADDR = x.addr % 16
  dies : v.get F.PWR_MDPWR_MD_ON = 0
  mode : v.get F.FLT_MODE_MODE = 0

theorem State.Fresh.startPowered {u : State} (h : u.Fresh) (x : StartUp) (cause : Nat) : (u.startPowered x cause).Started x := by
  have hdies : (u.startPowered x cause).get F.SYS_VARIANT_MDIES = u.get F.SYS_VARIANT_MDIES := by
    unfold State.startPowered State.get
    rw [State.reg_set_other (by decide +kernel) (by decide +kernel), State.reg_setReg_other (by decide +kernel)]
    rfl
  constructor
  · unfold State.startPowered; simpa using h.now
  · unfold State.startPowered; simpa using h.fltN
  · unfold State.startPowered; simpa using h.propEn
  · unfold State.startPowered; simp
  · unfold State.dies
    rw [hdies]
    unfold State.startPowered; simp [State.dieList, State.dies]
  · exact State.get_set_same _ _ _ (Fld.ok_of_okay (by decide))
  · unfold State.startPowered State.get
    rw [State.reg_set_other (by decide +kernel) (by decide +kernel), State.reg_setReg_other (by decide +kernel)]
    show bitsOf (u.reg F.PWR_MDPWR_MD_ON.addr) _ _ = 0
    rw [h.reg _ (by decide +kernel)]
    decide +kernel
  · unfold State.startPowered State.get
    rw [State.reg_set_other (by decide +kernel) (by decide +kernel), State.reg_setReg_other (by decide +kernel)]
    show bitsOf (u.reg F.FLT_MODE_MODE.addr) _ _ = 0
    rw [h.reg _ (by decide +kernel)]
    decide +kernel

theorem State.Started.startShown {u : State} {x : StartUp} (h : u.Started x) (head top done : Nat) (left : List JournalEntry) :
    (u.startShown x head top done left).Started x := by
  have hshow := u.startShown_alters x head top done left
  generalize u.startShown x head top done left = v at *
  have hpins := hshow.pins (by decide +kernel)
  have hpwr := hshow.pwr (by decide +kernel)
  have hdies : v.dies = u.dies := hshow.get F.SYS_VARIANT_MDIES (by decide +kernel)
  exact ⟨by rw [hshow.now (by decide +kernel), h.now], by rw [hpins, h.fltN], by rw [hpins, h.propEn], by rw [hpwr, h.phase],
    by rw [hpwr, h.settling, hdies], by rw [hshow.get _ (by decide +kernel), h.addr], by rw [hshow.get _ (by decide +kernel), h.dies],
    by rw [hshow.get _ (by decide +kernel), h.mode]⟩

/-- START_QUALIFIED as far as the self-tests of the cores. -/
theorem exec_startQualified_off {s : State} (hphase : s.pwr.phase = .off) (x : StartUp) :
    ∃ v : State, exec (.startQualified x) s = .next (v.coreStart x.coreA x.coreB) ∧ v.Started x :=
  ⟨_, if_neg (by rw [hphase]; decide), ((State.atStart_fresh _ x).startPowered x _).startShown _ _ _ _⟩

theorem State.coreStart_none (v : State) : v.coreStart false false =
    ((((v.set F.FLT_MODE_MODE 3).setOn F.FLT_PSTAT_DEGRADED true).set F.PWR_BOOT_STEP 15).set F.CMP_FLSTAT_ACTIVE 128).onPwr
      fun p => { p with phase := .halt, settling := [] } := by
  unfold State.coreStart
  dsimp only
  rw [if_neg (by decide), if_pos (by decide)]

/-- The survivor of a start on one core, and what stands in FLT of it. -/
theorem State.coreStart_one (v : State) {a b : Bool} (hab : a ≠ b) :
    ∃ f, v.coreStart a b = { (((v.set F.FLT_MODE_MODE (if a then 1 else 2)).setOn F.FLT_MODE_STARTUP true).setOn F.FLT_PSTAT_DEGRADED true) with
      flt := f } := by
  have hboth : ¬(a && b) = true := by revert hab; revert a b; decide
  have hnone : ¬(!a && !b) = true := by revert hab; revert a b; decide
  unfold State.coreStart
  dsimp only
  rw [if_neg hboth, if_neg hnone]
  exact ⟨_, rfl⟩

theorem State.coreStart_both (v : State) : (v.coreStart true true).pwr = v.pwr ∧
    (v.coreStart true true).get F.FLT_MODE_MODE = v.get F.FLT_MODE_MODE := by
  have hjournal := fun (u : State) o => altersOf (alters_journalWrite u o)
  have hboth : v.coreStart true true = if v.flt.savedLeft = 0xFFFFFFFF then v
      else ({ v with flt := { v.flt with savedLeft := 0xFFFFFFFF } } : State).journalWrite [.degrLeft v.flt.savedLeft] := by
    unfold State.coreStart
    dsimp only
    rw [if_pos (by decide)]
  rw [hboth]
  split
  · exact ⟨rfl, rfl⟩
  · exact ⟨(hjournal _ _).pwr (by decide +kernel), (hjournal _ _).get _ (by decide +kernel)⟩

/-- R294: dual mode, degraded on the core that passed, or HALT. -/
theorem State.Started.mode_after {v : State} {x : StartUp} (h : v.Started x) (a b : Bool) :
    if a || b then (v.coreStart a b).pwr.phase = .startup ∧ (v.coreStart a b).pwr.settling = List.range v.dies ∧
      (v.coreStart a b).get F.FLT_MODE_MODE = (if a && b then 0 else if a then 1 else 2)
    else (v.coreStart a b).pwr.phase = .halt ∧ (v.coreStart a b).get F.PWR_BOOT_STEP = 15 ∧ (v.coreStart a b).get F.FLT_MODE_MODE = 3 := by
  have hone : ∀ a b : Bool, a ≠ b → (v.coreStart a b).pwr.phase = .startup ∧ (v.coreStart a b).pwr.settling = List.range v.dies ∧
      (v.coreStart a b).get F.FLT_MODE_MODE = if a then 1 else 2 := by
    intro a b hab
    obtain ⟨f, hf⟩ := v.coreStart_one hab
    rw [hf, State.get_mk]
    refine ⟨by simpa using h.phase, by simpa using h.settling, ?_⟩
    rw [State.get_setOn_leaves (by decide +kernel), State.get_setOn_leaves (by decide +kernel)]
    exact State.get_set_lt (by decide) (by cases a <;> decide) _
  cases a <;> cases b
  case false.false =>
    rw [v.coreStart_none]
    unfold State.onPwr
    rw [State.get_mk, State.get_mk]
    refine ⟨rfl, ?_, ?_⟩ <;> simp (disch := decide +kernel)
  case true.true =>
    obtain ⟨hpwr, hmode⟩ := v.coreStart_both
    exact ⟨by rw [hpwr, h.phase], by rw [hpwr, h.settling], by rw [hmode, h.mode]; rfl⟩
  case false.true => exact hone false true (by decide)
  case true.false => exact hone true false (by decide)

theorem State.Started.coreStart {v : State} {x : StartUp} (h : v.Started x) (a b : Bool) :
    (v.coreStart a b).now = 0 ∧ (v.coreStart a b).pins.fltN = true ∧ (v.coreStart a b).pins.propEn = false ∧
      (v.coreStart a b).get F.PWR_MDPWR_MD_ON = 0 ∧ (v.coreStart a b).get F.KRG_STAT_ADDR = x.addr % 16 ∧ (v.coreStart a b).dies = v.dies := by
  have hcores := altersOf (alters_coreStart v a b)
  have hpins := hcores.pins (by decide +kernel)
  exact ⟨by rw [hcores.now (by decide +kernel), h.now], by rw [hpins, h.fltN], by rw [hpins, h.propEn],
    by rw [hcores.get _ (by decide +kernel), h.dies], by rw [hcores.get _ (by decide +kernel), h.addr],
    hcores.get F.SYS_VARIANT_MDIES (by decide +kernel)⟩

theorem execStartQualified_claim (x : StartUp) (s : State) : Claims.startQualified x s := by
  intro hphase haddr
  obtain ⟨v, hexec, hstarted⟩ := exec_startQualified_off hphase x
  obtain ⟨hnow, hflt, hprop, hoff, haddrs, hdies⟩ := hstarted.coreStart x.coreA x.coreB
  have hmode := hstarted.mode_after x.coreA x.coreB
  rw [← hdies] at hmode
  exact ⟨_, hexec, hnow, hflt, hprop, hoff, haddrs.trans (Nat.mod_eq_of_lt haddr), hmode⟩

/-! ### The settling of the dies -/

/-- A moment of start-up is a moment of the time base. -/
theorem State.reach_now (s : State) (t : Nat) : (s.reach t).now = max s.now t := by
  unfold State.reach State.applyIf State.advanceTo State.onThy
  dsimp only
  split <;> try split
  all_goals simp

theorem State.markHealthy_pwr (s : State) (k : Nat) : (s.markHealthy k).pwr = s.pwr := by
  unfold State.markHealthy State.onStk; simp

theorem settling_goes_on {l : List Nat} {j k : Nat} (hj : j ∈ l) (hne : j ≠ k) : (l.filter (· != k) == []) = false := by
  rw [beq_eq_false_iff_ne]
  exact List.ne_nil_of_mem (List.mem_filter.mpr ⟨hj, by simpa using hne⟩)

/-- While another die settles, a die that is done only settles no more. -/
theorem State.dieDone_of_other {s : State} {j k : Nat} (hj : j ∈ s.pwr.settling) (hne : j ≠ k) : s.dieDone k = s.endSettling k := by
  unfold State.dieDone State.applyIf State.endSettling
  have : ((s.onPwr fun p => { p with settling := p.settling.filter (· != k) }).pwr.settling == []) = false := settling_goes_on hj hne
  dsimp only
  rw [this]
  rfl

/-- The die that settles, as start-up shows it: on, its converters started, healthy. -/
def State.dieReady (s : State) (k : Nat) : State :=
  ((s.set F.PWR_MDPWR_MD_ON (withBit (s.get F.PWR_MDPWR_MD_ON) k true)).onDie k fun d => { d with startedAt := s.now }).markHealthy k

theorem exec_mdieSettled_startup {k : Nat} {s : State} (hphase : s.pwr.phase = .startup) (hmem : k ∈ s.pwr.settling) :
    exec (.mdieSettled k) s = .next (((s.reach (12000 + 2000 * k)).dieReady k).dieDone k) := by
  show execMdieSettled k s = _
  unfold execMdieSettled State.dieReady
  rw [if_neg (by simpa using hmem), if_pos (by rw [hphase]; rfl)]

theorem State.dieReady_pwr (s : State) (k : Nat) : (s.dieReady k).pwr = s.pwr := by
  unfold State.dieReady State.onDie
  rw [State.markHealthy_pwr]
  simp

theorem State.dieReady_on {k : Nat} (hk : k < 8) (s : State) : bit ((s.dieReady k).get F.PWR_MDPWR_MD_ON) k = true := by
  unfold State.dieReady State.markHealthy State.onDie State.onStk
  simp (disch := decide +kernel) only [State.get_mk, State.get_set_leaves]
  rw [State.get_set_withBit (by decide) hk, bit_withBit_same]

theorem State.markHealthy_healthy {k : Nat} (hk : k < 8) (s : State) : (s.markHealthy k).healthy k = true := by
  unfold State.markHealthy State.onStk State.healthy
  rw [State.get_mk, State.get_set_withBit (by decide) hk, bit_withBit_same]

theorem State.dieReady_started {s : State} {k : Nat} (hk : k < s.dieSt.length) : ((s.dieReady k).die k).startedAt = s.now := by
  have hdie : ∀ u : State, (u.markHealthy k).die k = u.die k := fun u => by unfold State.markHealthy State.onStk State.die; simp
  unfold State.dieReady
  rw [hdie, State.die_onDie, if_pos ⟨rfl, by simpa using hk⟩]

theorem State.dieReady_now (s : State) (k : Nat) : (s.dieReady k).now = s.now := by
  unfold State.dieReady State.markHealthy State.onDie State.onStk; simp

theorem execMdieSettled_claim (k j : Nat) (s : State) : Claims.mdieSettled k j s := by
  intro hphase hk hlen hmem hj hne
  have hreach := altersOf (alters_reach s (12000 + 2000 * k))
  have hnow := s.reach_now (12000 + 2000 * k)
  have hpwr : (s.reach (12000 + 2000 * k)).pwr = s.pwr := hreach.pwr (by decide +kernel)
  have hdies : (s.reach (12000 + 2000 * k)).dieSt.length = 8 := by rw [hreach.dieSt (by decide +kernel), hlen]
  refine ⟨_, exec_mdieSettled_startup hphase hmem, ?_⟩
  generalize s.reach (12000 + 2000 * k) = u at *
  rw [State.dieDone_of_other (by rw [State.dieReady_pwr, hpwr]; exact hj) hne]
  have hhealthy : (u.dieReady k).healthy k = true := State.markHealthy_healthy hk _
  have hstarted := State.dieReady_started (s := u) (k := k) (by omega)
  have hon := u.dieReady_on hk
  have hready := u.dieReady_now k
  have hpower := u.dieReady_pwr k
  generalize u.dieReady k = v at *
  unfold State.endSettling State.onPwr
  refine ⟨hready.trans hnow, hon, hhealthy, hstarted.trans hready.symm, ?_, ?_⟩
  · rw [hpower, hpwr]
  · dsimp only
    rw [hpower, hpwr, hphase]

theorem execLastDieSettled_claim (k : Nat) (s : State) : Claims.lastDieSettled k s := by
  intro hphase _ hlast _
  have hpwr : ((s.reach (12000 + 2000 * k)).dieReady k).pwr = s.pwr := by
    rw [State.dieReady_pwr]; exact (altersOf (alters_reach s _)).pwr (by decide +kernel)
  refine ⟨_, exec_mdieSettled_startup hphase (by rw [hlast]; exact List.mem_singleton_self k), ?_⟩
  generalize (s.reach (12000 + 2000 * k)).dieReady k = u at *
  have hnone : s.pwr.settling.filter (· != k) = [] := by rw [hlast]; simp
  have hdone : u.dieDone k = (u.endSettling k).set F.PWR_BOOT_STEP 3 := by
    have hlast : ((u.endSettling k).pwr.settling == []) = true := by
      unfold State.endSettling
      rw [State.onPwr_pwr, hpwr, hnone]
      rfl
    unfold State.dieDone State.applyIf
    exact if_pos hlast
  rw [hdone]
  unfold State.endSettling
  refine ⟨?_, ?_, State.get_set_lt (by decide) (by decide) _⟩
  · simp [hpwr, hnone]
  · simp [hpwr, hphase]

/-- R131: a die that settles in service. -/
theorem execMdieSettledInRun_claim (k : Nat) (s : State) : Claims.mdieSettledInRun k s := by
  intro hphase hk hlen hmem
  have hexec : exec (.mdieSettled k) s = .next ((((s.set F.STK_ROUTE_ASLEEP (withBit (s.get F.STK_ROUTE_ASLEEP) k false)).onDie k
      fun d => { d with startedAt := s.now }).endSettling k).rejoinNext k) := by
    show execMdieSettled k s = _
    unfold execMdieSettled
    rw [if_neg (by simpa using hmem), if_neg (by rw [hphase]; decide), if_pos (by rw [hphase]; rfl)]
    simp only [State.set_now]
  refine ⟨_, hexec, ?_, ?_, ?_, ?_⟩
  · show bit (State.get (s.set F.STK_ROUTE_ASLEEP (withBit (s.get F.STK_ROUTE_ASLEEP) k false)) F.STK_ROUTE_ASLEEP) k = false
    rw [State.get_set_withBit (by decide) hk, bit_withBit_same]
  · show (State.die (State.onDie _ k _) k).startedAt = s.now
    rw [State.die_onDie, if_pos ⟨rfl, by simp [hlen, hk]⟩]
  · unfold State.rejoinNext State.onStk
    dsimp only
    split
    · next h => exact List.contains_iff_mem.mp h
    · exact List.mem_cons_self
  · unfold State.rejoinNext State.onStk State.endSettling State.onDie
    simp

theorem execMdieSettleTimeout_claim (k j : Nat) (s : State) : Claims.mdieSettleTimeout k j s := by
  intro hphase hk hmem hj hne
  have hpwr : (s.reach (17000 + 2000 * k)).pwr = s.pwr := (altersOf (alters_reach s _)).pwr (by decide +kernel)
  have hfailed : ∀ u : State, (u.dieFailed k).pwr = u.pwr := fun u => by unfold State.dieFailed; simp
  by_cases hretried : k ∈ s.pwr.retried
  · have hexec : exec (.mdieSettleTimeout k) s = .next (((s.reach (17000 + 2000 * k)).dieFailed k).dieDone k) := by
      show execMdieSettleTimeout k s = _
      unfold execMdieSettleTimeout State.applyIf
      rw [if_neg (by simpa using hmem), hphase]
      simp only [beq_self_eq_true, if_true, hpwr, List.contains_iff_mem.mpr hretried, hphase, Bool.not_true, Bool.false_eq_true, if_false]
    refine ⟨_, hexec, ?_⟩
    rw [if_pos hretried, State.dieDone_of_other (by rw [hfailed, hpwr]; exact hj) hne]
    generalize s.reach (17000 + 2000 * k) = u at *
    unfold State.endSettling State.onPwr
    refine ⟨?_, ?_, ?_⟩
    · unfold State.dieFailed
      simp (disch := decide +kernel) only [State.get_mk, State.get_set_leaves]
      rw [State.get_set_withBit (by decide) hk, bit_withBit_same]
    · unfold State.dieFailed
      rw [State.get_mk, State.get_set_lt (by decide) (withBit_lt _ (State.get_lt _ _) hk), bit_withBit_same]
    · rw [hfailed, hpwr]
  · have hexec : exec (.mdieSettleTimeout k) s = .next ((s.reach (17000 + 2000 * k)).onPwr fun p => { p with retried := k :: p.retried }) := by
      show execMdieSettleTimeout k s = _
      unfold execMdieSettleTimeout State.applyIf
      rw [if_neg (by simpa using hmem), hphase]
      simp only [beq_self_eq_true, if_true, hpwr]
      rw [if_pos (by simpa using hretried)]
    refine ⟨_, hexec, ?_⟩
    rw [if_neg hretried]
    dsimp only [State.onPwr_pwr]
    rw [hpwr]
    exact ⟨rfl, rfl⟩

/-! ### The store and the address pins -/

theorem raised_listed {s a : State} (h : a.rsm.inbox = s.rsm.inbox) (page tag cls : Nat) (effects : List Nat) :
    raised s (a.listed page tag cls effects) page (.listed tag) cls := by
  unfold raised State.listed State.raise State.send
  dsimp only
  rw [h, List.drop_left]
  exact ⟨_, List.mem_singleton_self _, rfl, rfl, rfl⟩

/-- A store that fails its check for the first time. -/
theorem State.storeFailed_of_good {s : State} (h : s.on F.PWR_STAT_HUP_FAIL = false) :
    s.storeFailed = (s.setOn F.PWR_STAT_HUP_FAIL true).flagEvent F.PWR_IFLAG_HUP_FAIL 2 [F.PWR_STAT_HUP_FAIL.addr, F.PWR_HUPCAP_CAP.addr] :=
  if_neg (by rw [h]; decide)

theorem State.storeFailed_on (s : State) : s.storeFailed.on F.PWR_STAT_HUP_FAIL = true := by
  unfold State.storeFailed
  split
  · assumption
  · simp (disch := decide +kernel)

theorem State.storeFailed_flag {s : State} (h : s.on F.PWR_STAT_HUP_FAIL = false) : s.storeFailed.on F.PWR_IFLAG_HUP_FAIL = true := by
  rw [State.storeFailed_of_good h, State.on_flagEvent_okay (by decide)]

theorem State.storeFailed_raises {s a : State} (hi : a.rsm.inbox = s.rsm.inbox) (h : a.on F.PWR_STAT_HUP_FAIL = false) :
    raised s a.storeFailed 0x06 (.flag 2) 2 := by
  rw [State.storeFailed_of_good h]
  exact raised_flagEvent (by simpa using hi) F.PWR_IFLAG_HUP_FAIL _ _

/-- R58: HUP_OK follows the store; a small store fails its check. -/
theorem State.showStore_eq (s : State) : s.showStore true =
    if s.get F.PWR_HUPCAP_CAP < 150 then (s.setOn F.PWR_STAT_HUP_OK true).storeFailed else s.setOn F.PWR_STAT_HUP_OK true := by
  unfold State.showStore State.applyIf
  simp only [Bool.true_and, decide_eq_true_eq]

theorem execHoldupStoreCharged_claim (s : State) : Claims.holdupStoreCharged s := by
  intro halive
  have hkeep : (s.setOn F.PWR_STAT_HUP_OK true).on F.PWR_STAT_HUP_FAIL = s.on F.PWR_STAT_HUP_FAIL := State.on_setOn_leaves (by decide +kernel) _ _
  refine ⟨_, if_pos halive, ?_⟩
  rw [State.showStore_eq]
  split
  · next hcap =>
    refine ⟨?_, ?_, fun _ hgood => ?_⟩
    · unfold State.storeFailed
      simp (disch := decide +kernel)
    · rw [State.storeFailed_on, decide_eq_true hcap, Bool.or_true]
    · exact ⟨State.storeFailed_flag (hkeep.trans hgood), State.storeFailed_raises (by simp) (hkeep.trans hgood)⟩
  · next hcap =>
    refine ⟨State.on_setOn_okay (by decide) _ _, ?_, fun h => absurd h hcap⟩
    rw [hkeep, decide_eq_false hcap, Bool.or_false]

theorem execHoldupTimeout_claim (s : State) : Claims.holdupTimeout s := by
  intro halive hok hfail
  have hreach := altersOf (alters_reach s 150000)
  have hgood : (s.reach 150000).on F.PWR_STAT_HUP_FAIL = false := (hreach.on _ (by decide +kernel)).trans hfail
  have hinbox : (s.reach 150000).rsm.inbox = s.rsm.inbox := by rw [hreach.rsm (by decide +kernel)]
  refine ⟨_, if_pos (by rw [halive, hok]; rfl), State.storeFailed_on _, State.storeFailed_flag hgood,
    State.storeFailed_raises hinbox hgood, ?_⟩
  rw [State.storeFailed_of_good hgood]
  have hnow := s.reach_now 150000
  generalize s.reach 150000 = u at *
  simpa using hnow

theorem execAddrChange_claim (addr : Nat) (s : State) : Claims.addrChange addr s := by
  intro halive haddr hne
  have hexec : exec (.addrChange addr) s =
      .next (({ s with pins := { s.pins with addr := addr } } : State).listed 0x12 0 1 [F.KRG_STAT_ADDR.addr]) := by
    show execAddrChange addr s = _
    unfold execAddrChange
    rw [Nat.mod_eq_of_lt haddr, if_pos (by rw [halive, bne_iff_ne.mpr hne]; rfl)]
  obtain ⟨e, hmem, hpage, -, hcls⟩ := raised_listed (s := s) (a := { s with pins := { s.pins with addr := addr } }) rfl 0x12 0 1
    [F.KRG_STAT_ADDR.addr]
  exact ⟨_, hexec, rfl, rfl, e, hmem, hpage, hcls⟩

/-! ### Step 0x3 -/

/-- From step 0x2 on, a moment of start-up leaves the step alone. -/
theorem State.reach_step {s : State} (h : 2 ≤ s.get F.PWR_BOOT_STEP) (t : Nat) : (s.reach t).get F.PWR_BOOT_STEP = s.get F.PWR_BOOT_STEP := by
  unfold State.reach State.applyIf State.onThy
  have hkeep : ∀ v, ((s.advanceTo t).set F.THY_FSEQ_SEQ v).get F.PWR_BOOT_STEP = s.get F.PWR_BOOT_STEP := fun v => by
    rw [State.get_set_leaves (by decide +kernel), State.get_advanceTo]
  dsimp only
  split
  · rw [if_neg (by simp only [State.get_mk, hkeep, decide_eq_true_eq]; omega)]
    exact hkeep _
  · rfl

/-- The state in which step 0x3 ends: the boundary has been reached. -/
def State.atIdleBoundary (s : State) (x : FrameSample) : State :=
  ((s.refreshShown.reach (max 2000 s.nextBoundary)).restorePaths).readRails x

theorem State.atIdleBoundary_alters (s : State) (x : FrameSample) :
    Alters (alt_readRails ||| alt_restorePaths ||| alt_reach ||| alt_refreshShown) s (s.atIdleBoundary x) := by
  unfold State.atIdleBoundary
  exact alters_readRails _ _ (sub_of_and (by decide +kernel)) (alters_restorePaths _ (sub_of_and (by decide +kernel))
    (alters_reach _ _ (sub_of_and (by decide +kernel)) (alters_refreshShown _ (sub_of_and (by decide +kernel)) (alters_refl _ _))))

theorem State.atIdleBoundary_step {s : State} (h : 2 ≤ s.get F.PWR_BOOT_STEP) (x : FrameSample) :
    (s.atIdleBoundary x).get F.PWR_BOOT_STEP = s.get F.PWR_BOOT_STEP := by
  have hshown : s.refreshShown.get F.PWR_BOOT_STEP = s.get F.PWR_BOOT_STEP := (altersOf (alters_refreshShown s)).get _ (by decide +kernel)
  have hreach := State.reach_step (s := s.refreshShown) (by rw [hshown]; exact h) (max 2000 s.nextBoundary)
  unfold State.atIdleBoundary
  rw [(altersOf (alters_readRails _ x)).get _ (by decide +kernel), (altersOf (alters_restorePaths _)).get _ (by decide +kernel), hreach,
    hshown]

/-- What step 0x4 starts once the bank is chosen: Sage, Bay, and the records of the start (R229, R302, R324). -/
def State.startServices (s : State) : State :=
  let x := s.pwr.start
  let s := (s.sageStart x.copyA x.copyB s.pwr.woke).bayStartUp x.bayCopy x.bayOlder (x.bayImage && x.bayParams)
  let s := s.raise 0x14 (.fixed 0x44) 0 1 [addrOf 0x06 0x65, addrOf 0x06 0x64, addrOf 0x04 0x60]
  let s := s.applyIf (s.pw.pw == 0) fun s => s.listed 0x02 0 1
  s.applyIf (s.spw.pw == 0) fun s => s.listed 0x18 4 1

theorem State.startServices_alters (s : State) : Alters (alt_sageStart ||| alt_bayStartUp ||| partRsm) s s.startServices := by
  unfold State.startServices
  exact alters_applyIf (fun _ => alters_listed (sub_of_and (by decide +kernel))) (alters_applyIf (fun _ => alters_listed (sub_of_and (by decide +kernel)))
    (alters_raise (sub_of_and (by decide +kernel)) (alters_bayStartUp _ _ _ _ (sub_of_and (by decide +kernel))
      (alters_sageStart _ _ _ _ (sub_of_and (by decide +kernel)) (alters_refl _ _)))))

/-- R61: with a good bank step 0x4 is complete, and the page shows the bank that runs. -/
theorem State.bootBanks_good {s : State} (h : (s.bankOk false || s.bankOk true) = true) :
    s.bootBanks.pwr = s.pwr ∧ s.bootBanks.get F.PWR_BOOT_STEP = 4 ∧
      s.bootBanks.on F.PWR_BOOT_BANK = (if s.fw.prefB then s.bankOk true else !s.bankOk false) := by
  have hnot : ¬(!s.bankOk false && !s.bankOk true) = true := by rw [← Bool.not_or, h]; decide
  have hrun : (if s.fw.prefB then s.bankOk true else !s.bankOk false && s.bankOk true) =
      if s.fw.prefB then s.bankOk true else !s.bankOk false := by
    rw [Bool.or_eq_true] at h
    rcases h with h | h <;> simp [h]
  have hboot : ∃ u : State, u.pwr = s.pwr ∧ u.get F.PWR_BOOT_STEP = 4 ∧
      u.on F.PWR_BOOT_BANK = (if s.fw.prefB then s.bankOk true else !s.bankOk false) ∧ s.bootBanks = u.startServices := by
    have hshow := fun u : State => altersOf (alters_showBanks u)
    have hput : ∀ (u : State) (v : Word), (u.put F.SYS_FWVER_BUILD.addr v).on F.PWR_BOOT_BANK = u.on F.PWR_BOOT_BANK := fun u v => by
      unfold State.on State.get
      rw [State.reg_put_other (by decide) (by decide)]
    refine ⟨_, ?_, ?_, ?_, (if_neg hnot : s.bootBanks = _)⟩
    · simp only [State.set_pwr, State.put_pwr, State.setOn_pwr]
      exact (hshow _).pwr (by decide +kernel)
    · exact State.get_set_lt (by decide) (by decide) _
    · rw [State.on_set_leaves (by decide +kernel), hput, State.on_setOn_leaves (by decide +kernel), hrun]
      exact State.on_setOn_okay (by decide) _ _
  obtain ⟨u, hpwr, hstep, hbank, heq⟩ := hboot
  have hserve := u.startServices_alters
  rw [heq]
  exact ⟨(hserve.pwr (by decide +kernel)).trans hpwr, (hserve.get _ (by decide +kernel)).trans hstep,
    (hserve.on _ (by decide +kernel)).trans hbank⟩

/-- R61: with neither bank good the module halts with every die powered down. -/
theorem State.bootBanks_bad {s : State} (h : (s.bankOk false || s.bankOk true) = false) :
    s.bootBanks.pwr.phase = .halt ∧ s.bootBanks.get F.PWR_BOOT_STEP = 15 ∧ s.bootBanks.get F.PWR_MDPWR_MD_ON = 0 ∧
      s.bootBanks.get F.SYS_DIEMAP_MD = 0 := by
  obtain ⟨hA, hB⟩ := Bool.or_eq_false_iff.mp h
  unfold State.bootBanks State.onFw State.onPwr
  dsimp only
  simp only [hA, hB, Bool.not_false, Bool.and_self, if_true]
  refine ⟨trivial, ?_, ?_, ?_⟩
  all_goals simp (disch := decide +kernel) only [State.get_mk, State.get_set_leaves, State.get_set_lt]

theorem execFirmwareVerified_claim (x : FrameSample) (s : State) : Claims.firmwareVerified x s := by
  intro hphase hstep hheld hfrozen
  have hat := s.atIdleBoundary_alters x
  have hstep' := State.atIdleBoundary_step (s := s) (by omega) x
  have hpwr : (s.atIdleBoundary x).pwr = s.pwr := hat.pwr (by decide +kernel)
  have hfw : (s.atIdleBoundary x).fw = s.fw := hat.fw (by decide +kernel)
  have hflt : (s.atIdleBoundary x).flt = s.flt := hat.flt (by decide +kernel)
  have hmode : (s.atIdleBoundary x).get F.FLT_MODE_MODE = s.get F.FLT_MODE_MODE := hat.get _ (by decide +kernel)
  have hbank : ∀ b, (s.atIdleBoundary x).bankOk b = s.bankOk b := fun b => by unfold State.bankOk; rw [hpwr, hfw]
  have hexec : exec (.frameBoundary x) s = .next (s.atIdleBoundary x).finishBoot := by
    show execFrameBoundary x s = _
    unfold execFrameBoundary State.running State.idleBoundary
    rw [hphase]
    rfl
  have hfinish : (s.atIdleBoundary x).finishBoot = (s.atIdleBoundary x).bootBanks := by
    unfold State.coresHeld at hheld
    unfold State.finishBoot State.applyIf State.frozen State.coresHeld
    unfold State.frozen at hfrozen
    rw [hpwr, hphase, hstep', hstep, hflt, hfrozen, hmode, hheld]
    rfl
  rw [hfinish] at hexec
  refine ⟨_, hexec, ?_⟩
  rw [← hbank false, ← hbank true, ← hfw]
  split
  · next h =>
    obtain ⟨hp, hs, hb⟩ := State.bootBanks_good h
    exact ⟨by rw [hp, hpwr, hphase], hs, hb⟩
  · next h => exact State.bootBanks_bad (Bool.eq_false_iff.mpr h)

/-! ### The entry into RUN -/

/-- A frame that begins shows itself in PHASE and QUIET, not in the period, and may end a wake's wait for its leakage check. -/
theorem State.checkLeakage_phase (s : State) (x : FrameSample) : (s.checkLeakage x).pwr.phase = s.pwr.phase := by
  unfold State.checkLeakage
  split
  · exact foldl_keeps (fun u : State => u.pwr.phase = s.pwr.phase) (fun _ _ h => by rw [State.listed_pwr]; exact h) _ rfl
  · rfl

/-- A frame that begins before its leakage check and the reading of the supplies. -/
def State.frameBegun (s : State) (x : FrameSample) : State :=
  let n := s.frame.toNat
  let s := s.beginSwitches x n
  let quiet := n % 8 == 7 || s.openSinceTime (s.now - s.get F.THY_QUIET_LEAD)
  let s := s.onThy fun t => { t with quiet := quiet, scanned := false, scanAt := none, scanRun := false }
  let s := (s.set F.THY_STAT_PHASE (n % 8)).setOn F.THY_STAT_QUIET quiet
  s.applyIf quiet State.beginQuiet

theorem State.beginFrame_eq (s : State) (x : FrameSample) : s.beginFrame x = ((s.frameBegun x).checkLeakage x).readSupplies x := by
  unfold State.beginFrame State.frameBegun
  with_reducible rfl

theorem State.frameBegun_keeps (s : State) (x : FrameSample) :
    (s.frameBegun x).pwr = s.pwr ∧ (s.frameBegun x).get F.THY_STAT_ACTIVE = s.get F.THY_STAT_ACTIVE := by
  have hsw := altersOf (alters_beginSwitches s x s.frame.toNat)
  have hquiet := fun u : State => altersOf (alters_beginQuiet u)
  unfold State.frameBegun State.applyIf State.onThy
  dsimp only
  generalize s.beginSwitches x s.frame.toNat = u at *
  constructor
  · have : u.pwr = s.pwr := hsw.pwr (by decide +kernel)
    split
    · rw [(hquiet _).pwr (by decide +kernel)]; simpa using this
    · simpa using this
  · have : u.get F.THY_STAT_ACTIVE = s.get F.THY_STAT_ACTIVE := hsw.get _ (by decide +kernel)
    split
    · rw [(hquiet _).get _ (by decide +kernel)]
      simpa (disch := decide +kernel) using this
    · simpa (disch := decide +kernel) using this

theorem State.beginFrame_phase (s : State) (x : FrameSample) : (s.beginFrame x).pwr.phase = s.pwr.phase := by
  rw [State.beginFrame_eq, (altersOf (alters_readSupplies _ x)).pwr (by decide +kernel), State.checkLeakage_phase, (s.frameBegun_keeps x).1]

theorem State.beginFrame_period (s : State) (x : FrameSample) : (s.beginFrame x).get F.THY_STAT_ACTIVE = s.get F.THY_STAT_ACTIVE := by
  rw [State.beginFrame_eq, (altersOf (alters_readSupplies _ x)).get _ (by decide +kernel),
    (altersOf (alters_checkLeakage _ x)).get _ (by decide +kernel), (s.frameBegun_keeps x).2]

/-- R117: the active period is the committed one. -/
theorem State.takePeriod_period (s : State) (flagged : Bool) : (s.takePeriod flagged).get F.THY_STAT_ACTIVE = s.get F.THY_PERIOD_SEL := by
  have hload := fun u : State => altersOf (alters_showLoad u)
  unfold State.takePeriod State.applyIf
  dsimp only
  rw [(hload _).get _ (by decide +kernel)]
  have hset : (s.set F.THY_STAT_ACTIVE (s.get F.THY_PERIOD_SEL)).get F.THY_STAT_ACTIVE = s.get F.THY_PERIOD_SEL :=
    State.get_set_lt (f := F.THY_STAT_ACTIVE) (by decide) (State.get_lt s F.THY_PERIOD_SEL) s
  split
  · rw [State.get_flag_leaves (by decide +kernel), hset]
  · exact hset

theorem boundaryFrom_spec (t : Nat) : boundaryFrom t % 4000 = 0 ∧ t ≤ boundaryFrom t := by
  unfold boundaryFrom; omega

theorem foldl_max_le (l : List Nat) (b : Nat) : b ≤ l.foldl max b := by
  induction l generalizing b with
  | nil => exact Nat.le_refl b
  | cons x l ih => exact Nat.le_trans (Nat.le_max_left b x) (ih _)

/-- RUN comes after now, and with the store charged or 150 ms passed. -/
theorem State.runFrom_spec (s : State) : s.now ≤ s.runFrom ∧ (s.on F.PWR_STAT_HUP_OK = true ∨ 150000 ≤ s.runFrom) := by
  unfold State.runFrom
  dsimp only
  generalize ((s.dieList.filter _).map _) = l
  have h := foldl_max_le l (max s.now (if s.on F.PWR_STAT_HUP_OK then 0 else 150000))
  cases hok : s.on F.PWR_STAT_HUP_OK
  · rw [hok] at h
    simp only [Bool.false_eq_true, if_false, false_or] at h ⊢
    omega
  · rw [hok] at h
    simp only [if_true, true_or, and_true] at h ⊢
    omega

/-- R175: a released line does not stand asserted; the sources shown stay. -/
theorem State.releaseLine_shown (s : State) :
    s.releaseLine.on F.CMP_FLSTAT_ASSERTED = false ∧ s.releaseLine.get F.CMP_FLSTAT_ACTIVE = s.get F.CMP_FLSTAT_ACTIVE := by
  have hprt := fun u : State => altersOf (alters_prtRelease u)
  unfold State.releaseLine
  split
  · dsimp only
    rw [(hprt _).on _ (by decide +kernel), (hprt _).get _ (by decide +kernel), State.on_mk, State.get_mk]
    constructor <;> simp (disch := decide +kernel)
  · next h => exact ⟨Bool.eq_false_iff.mpr h, rfl⟩

/-- The state of RUN before the fault line is judged: the first frame has begun. -/
def State.firstFrame (s : State) (x : FrameSample) : State :=
  let t := boundaryFrom s.runFrom
  let s := ((s.advanceTo t).onPwr fun p => { p with phase := .run }).onThy fun y => { y with
    boundary := t, sampledAt := t, started := true }
  let s := ((s.set F.THY_FSEQ_SEQ (t / 1000)).set F.PWR_BOOT_STEP 5).set F.PWR_BOOT_TIME (t / 1000)
  ((((s.restorePaths).takePeriod false).loadsAtRun s.pwr.start.zoneFaults).beginFrame x).cmpHold

/-- What RUN shows of itself. -/
structure State.AtRun (s t : State) : Prop where
  phase : t.pwr.phase = .run
  step : t.get F.PWR_BOOT_STEP = 5
  now : t.now = max s.now (boundaryFrom s.runFrom)
  period : t.get F.THY_STAT_ACTIVE = s.get F.THY_PERIOD_SEL
  frames : t.get F.THY_FSEQ_SEQ = boundaryFrom s.runFrom / 1000 % 4294967296

theorem State.firstFrame_run (s : State) (x : FrameSample) : s.AtRun (s.firstFrame x) := by
  have hpaths := fun u : State => altersOf (alters_restorePaths u)
  have hperiod := fun u : State => altersOf (alters_takePeriod u false)
  have hloads := fun (u : State) z => altersOf (alters_loadsAtRun u z)
  have hbegin := fun u : State => altersOf (alters_beginFrame u x)
  have hhold := fun u : State => altersOf (alters_cmpHold u)
  unfold State.firstFrame State.onThy State.onPwr State.advanceTo
  dsimp only
  constructor
  · rw [(hhold _).pwr (by decide +kernel), State.beginFrame_phase, (hloads _ _).pwr (by decide +kernel), (hperiod _).pwr (by decide +kernel),
      (hpaths _).pwr (by decide +kernel)]
    simp
  · rw [(hhold _).get _ (by decide +kernel), (hbegin _).get _ (by decide +kernel), (hloads _ _).get _ (by decide +kernel),
      (hperiod _).get _ (by decide +kernel), (hpaths _).get _ (by decide +kernel), State.get_set_leaves (by decide +kernel)]
    exact State.get_set_lt (by decide) (by decide) _
  · rw [(hhold _).now (by decide +kernel), (hbegin _).now (by decide +kernel), (hloads _ _).now (by decide +kernel),
      (hperiod _).now (by decide +kernel), (hpaths _).now (by decide +kernel)]
    simp
  · rw [(hhold _).get _ (by decide +kernel), State.beginFrame_period, (hloads _ _).get _ (by decide +kernel), State.takePeriod_period,
      (hpaths _).get _ (by decide +kernel)]
    simp (disch := decide +kernel)
  · rw [(hhold _).get _ (by decide +kernel), (hbegin _).get _ (by decide +kernel), (hloads _ _).get _ (by decide +kernel),
      (hperiod _).get _ (by decide +kernel), (hpaths _).get _ (by decide +kernel)]
    simp (disch := decide +kernel) only [State.get_set_leaves]
    exact State.get_set_same _ _ _ (Fld.ok_of_okay (by decide))

theorem execEnterRun_claim (x : FrameSample) (s : State) : Claims.enterRun x s := by
  intro hphase hstep hfrozen hheld
  have hexec : exec (.enterRun x) s =
      .next (((s.firstFrame x).applyIf (s.firstFrame x).noSource State.releaseLine).atRun.bayAtRun) := by
    show execEnterRun x s = _
    have hbooted : s.finishBoot = s := by
      unfold State.finishBoot State.applyIf
      rw [hstep, if_neg (by simp)]
    unfold execEnterRun
    rw [hbooted]
    exact if_pos (by rw [hphase, hstep, hfrozen, hheld]; rfl)
  have hrun := s.firstFrame_run x
  have hrel := fun u : State => altersOf (alters_releaseLine u)
  have hat := fun u : State => altersOf (alters_atRun u)
  have hbay := fun u : State => altersOf (alters_bayAtRun u)
  obtain ⟨hmod, hge⟩ := boundaryFrom_spec s.runFrom
  obtain ⟨hnow, hstore⟩ := s.runFrom_spec
  refine ⟨_, hexec, ?_⟩
  generalize s.firstFrame x = u at *
  have hlater : s.AtRun (u.applyIf u.noSource State.releaseLine).atRun.bayAtRun := by
    unfold State.applyIf
    constructor
    · rw [(hbay _).pwr (by decide +kernel), (hat _).pwr (by decide +kernel)]
      split <;> [rw [(hrel _).pwr (by decide +kernel)]; skip] <;> exact hrun.phase
    · rw [(hbay _).get _ (by decide +kernel), (hat _).get _ (by decide +kernel)]
      split <;> [rw [(hrel _).get _ (by decide +kernel)]; skip] <;> exact hrun.step
    · rw [(hbay _).now (by decide +kernel), (hat _).now (by decide +kernel)]
      split <;> [rw [(hrel _).now (by decide +kernel)]; skip] <;> exact hrun.now
    · rw [(hbay _).get _ (by decide +kernel), (hat _).get _ (by decide +kernel)]
      split <;> [rw [(hrel _).get _ (by decide +kernel)]; skip] <;> exact hrun.period
    · rw [(hbay _).get _ (by decide +kernel), (hat _).get _ (by decide +kernel)]
      split <;> [rw [(hrel _).get _ (by decide +kernel)]; skip] <;> exact hrun.frames
  have hmax : max s.now (boundaryFrom s.runFrom) = boundaryFrom s.runFrom := by omega
  have hnow' := hlater.now.trans hmax
  refine ⟨hlater.phase, hlater.step, by rw [hnow', hmod], by rw [hnow']; omega, ?_, hlater.period, by rw [hlater.frames, hnow'], ?_⟩
  · rw [hnow']
    exact hstore.imp_right fun h => by omega
  · intro hactive hsilent
    rw [(hbay _).get _ (by decide +kernel), (hat _).get _ (by decide +kernel)] at hactive
    rw [(hbay _).line (by decide +kernel), (hat _).line (by decide +kernel)] at hsilent
    rw [(hbay _).on _ (by decide +kernel), (hat _).on _ (by decide +kernel)]
    unfold State.applyIf at *
    split
    · exact u.releaseLine_shown.1
    · next h =>
      rw [if_neg h] at hactive hsilent
      refine absurd ?_ h
      unfold State.noSource
      rw [hactive, hsilent]
      rfl

end Sys2Proof.Machine

/-- Settles O9: the start through what its first moment keeps, step 0x3 through the boundary at which it ends, RUN through the first
frame; the other clauses by the command's branch in which their conditions hold. -/
theorem startUp : Obligations.StartUp := by
  unfold Obligations.StartUp
  exact ⟨Sys2Proof.Machine.execStartQualified_claim, Sys2Proof.Machine.execMdieSettled_claim, Sys2Proof.Machine.execLastDieSettled_claim,
    Sys2Proof.Machine.execFirmwareVerified_claim, Sys2Proof.Machine.execMdieSettledInRun_claim,
    Sys2Proof.Machine.execMdieSettleTimeout_claim, Sys2Proof.Machine.execHoldupStoreCharged_claim,
    Sys2Proof.Machine.execHoldupTimeout_claim, Sys2Proof.Machine.execEnterRun_claim, Sys2Proof.Machine.execAddrChange_claim⟩
end

section
set_option Elab.async false
namespace Sys2Proof.Machine

/-- The MRAM write port is in recovery after island 2 lost it, and a journaled write of island 1 waits. -/
def portLostByRing : State :=
  { State.reset with
    pwr := { State.reset.pwr with phase := .run }
    journal := [⟨partyIsland1, []⟩]
    flt := { State.reset.flt with recovering := some partyIsland2 } }

/-- The end of the recovery does island 1's writes along with it, so its entry leaves the journal. -/
theorem recovery_ends_entry_of_island1 :
    ∀ t, exec (.mramRecoveryDone [] none) portLostByRing = .next t → t.journal = [] := by
  have h : (match exec (.mramRecoveryDone [] none) portLostByRing with
    | .next t => decide (t.journal = [])
    | _ => true) = true := by decide +kernel
  intro t ht
  rw [ht] at h
  exact of_decide_eq_true h

end Sys2Proof.Machine

open Sys2Proof Sys2Proof.Machine Host in
/-- Refutes O33: an entry of another party does not always stand on in the journal; that of island 1, which recovers the port, ends with
the recovery. -/
theorem not_leasesOfIslandOne : ¬ Obligations.LeasesOfIslandOne := by
  intro h
  obtain ⟨-, -, -, -, hrolled⟩ := h
  obtain ⟨t, ht, -, -, hothers⟩ := hrolled none partyIsland2 portLostByRing rfl rfl rfl
  obtain ⟨x, hx, -⟩ := hothers ⟨partyIsland1, []⟩ (List.mem_singleton_self _) (by decide)
  rw [recovery_ends_entry_of_island1 t ht] at hx
  exact List.not_mem_nil hx
end

section
set_option Elab.async false
namespace Sys2Proof.Machine

/-- A module with the Bay partition in service, whose present interval, from index 0, has counted a pair of index 3200. -/
def pairSeenAhead : State :=
  { State.reset with
    pwr := { State.reset.pwr with phase := .run }
    bay := { State.reset.bay with seen := [3200] } }

/-- The pair of that index is not put with those that wait for their interval. -/
theorem seen_pair_does_not_wait :
    ∀ t, exec (.baySamplePair ⟨3200, 0, 0⟩ true) pairSeenAhead = .next t → t.bay.early = [] := by
  have h : (match exec (.baySamplePair ⟨3200, 0, 0⟩ true) pairSeenAhead with
    | .next t => decide (t.bay.early = [])
    | _ => true) = true := by decide +kernel
  intro t ht
  rw [ht] at h
  exact of_decide_eq_true h

end Sys2Proof.Machine

open Sys2Proof Sys2Proof.Machine Host in
/-- Refutes O36: the claim on a pair of a later interval does not ask that its index not be among those the interval has counted. -/
theorem not_bayMetering : ¬ Obligations.BayMetering := by
  intro h
  obtain ⟨-, -, hearly, -⟩ := h
  obtain ⟨t, ht, hbay⟩ := hearly 3200 0 0 pairSeenAhead (by decide +kernel) (by decide +kernel) (by decide +kernel)
    (fun _ hq => absurd hq List.not_mem_nil) (fun _ hq => absurd hq List.not_mem_nil) (by decide +kernel)
  have hempty := seen_pair_does_not_wait t ht
  rw [hbay] at hempty
  exact List.append_ne_nil_of_right_ne_nil _ (List.cons_ne_nil _ _) hempty
end

section
set_option Elab.async false
namespace Sys2Proof.Machine

/-- A frozen pair that holds the SPI reply buffer, for which party 17 waits: a number that the four bits of HOLDER do not hold. -/
def pairBeforeWideParty : State :=
  (({ State.reset with flt := { State.reset.flt with
      freezeAt := some 0
      leases := (List.replicate 16 ({} : LeaseSt)).set 1 { queue := [17] } } }).set (F.FLT_LEASE_HOLDER.at 1) 1).set (F.FLT_LEASE_STATE.at 1) 1

/-- The slot passes to that party, and HOLDER reads the pair as before. -/
theorem revoked_slot_reads_pair :
    ∀ t, exec (.arbitration true true) pairBeforeWideParty = .next t → t.leaseHolder 1 = 1 := by
  have h : (match exec (.arbitration true true) pairBeforeWideParty with
    | .next t => decide (t.leaseHolder 1 = 1)
    | _ => true) = true := by decide +kernel
  intro t ht
  rw [ht] at h
  exact of_decide_eq_true h

end Sys2Proof.Machine

open Sys2Proof Sys2Proof.Machine Host in
/-- Refutes O32: the claim on an arbitration does not ask that the parties in a queue be numbers of the four bits of HOLDER; a slot
revoked from the pair may pass to one that HOLDER shows as the pair. -/
theorem not_lockstepAndSelfTests : ¬ Obligations.LockstepAndSelfTests := by
  intro h
  obtain ⟨-, -, harbitration, -⟩ := h
  obtain ⟨t, ht, -, -, -, hrevoked⟩ := harbitration true true 0 1 pairBeforeWideParty rfl rfl (Or.inl rfl)
  exact hrevoked (by decide) (by decide +kernel) (by decide +kernel) (revoked_slot_reads_pair t ht)
end

section
/-! The fault line: fault channels, trip codes, returning carriers, its release (R173 to R175). -/
set_option Elab.async false
namespace Sys2Proof.Machine
open Host

/-- A bit set in a field, taken from any state, reads as set. -/
theorem bit_get_set_withBit {f : Fld} {b : Nat} (hf : f.okay = true) (hb : b < f.hi + 1 - f.lo) (s u : State) (x : Bool) :
    bit ((s.set f (withBit (u.get f) b x)).get f) b = x := by
  rw [State.get_set_lt hf (withBit_lt x (u.get_lt f) hb), bit_withBit_same]

/-! ### Fault channels -/

@[simp] theorem State.stopCarrier_regs (s : State) (k : Nat) : (s.stopCarrier k).regs = s.regs := rfl
@[simp] theorem State.stopCarrier_pins (s : State) (k : Nat) : (s.stopCarrier k).pins = s.pins := rfl
@[simp] theorem State.on_stopCarrier (s : State) (k : Nat) (f : Fld) : (s.stopCarrier k).on f = s.on f := rfl
@[simp] theorem State.get_stopCarrier (s : State) (k : Nat) (f : Fld) : (s.stopCarrier k).get f = s.get f := rfl

theorem State.stopCarrier_silent (s : State) (k : Nat) : k ∈ (s.stopCarrier k).line.silent := by
  unfold State.stopCarrier State.onLine
  dsimp only
  split
  · next h => exact List.contains_iff_mem.mp h
  · exact List.mem_cons_self

theorem State.assertLine_silent (s : State) : s.assertLine.line.silent = s.line.silent := by
  cases h : s.on F.CMP_FLSTAT_ASSERTED with
  | true => rw [State.assertLine_of_asserted h]
  | false =>
    obtain ⟨u, hu, -, -, -, -, hline⟩ := State.assertLine_of_released h
    rw [hu, (altersOf (alters_prtTrip u)).line (by decide +kernel), hline]

theorem State.assertLine_now (s : State) : s.assertLine.now = s.now := (altersOf (alters_assertLine s)).now (by decide +kernel)
theorem State.showActive_now (s : State) : s.showActive.now = s.now := (altersOf (alters_showActive s)).now (by decide +kernel)
theorem State.showActive_line (s : State) : s.showActive.line = s.line := (altersOf (alters_showActive s)).line (by decide +kernel)
theorem State.showActive_dieSt (s : State) : s.showActive.dieSt = s.dieSt := (altersOf (alters_showActive s)).dieSt (by decide +kernel)
theorem State.assertLine_dieSt (s : State) : s.assertLine.dieSt = s.dieSt := (altersOf (alters_assertLine s)).dieSt (by decide +kernel)

/-- ACTIVE shows the sources the dies report in its low six bits. -/
theorem State.showActive_codes (s : State) : s.showActive.get F.CMP_FLSTAT_ACTIVE % 64 = s.showActive.codeBits := by
  have hdies : s.showActive.codeBits = s.codeBits := by
    have hmd : s.showActive.dies = s.dies := (altersOf (alters_showActive s)).get F.SYS_VARIANT_MDIES (by decide +kernel)
    unfold State.codeBits State.dieList State.die
    rw [hmd, s.showActive_dieSt]
  have := s.codeBits_lt
  rw [hdies, State.showActive_active]
  omega

theorem execFaultChannelLost_claim (k : Nat) (coded : Bool) (s : State) : Claims.faultChannelLost k coded s := by
  intro hdies hk
  have hpins : ∀ u : State, u.pins = s.pins → u.on F.CMP_FLSTAT_ASSERTED = s.on F.CMP_FLSTAT_ASSERTED →
      s.on F.CMP_FLSTAT_ASSERTED = false → u.assertLine.pins.fltN = true := fun u _ ha hf => by
    rw [State.assertLine_pins, ha, hf]; rfl
  refine ⟨_, if_pos hdies, ?_⟩
  have hsilent : k ∈ (((s.stopCarrier k).advanceTo (s.now + 5)).assertLine).line.silent := by
    rw [State.assertLine_silent]; exact s.stopCarrier_silent k
  have hflt := hpins ((s.stopCarrier k).advanceTo (s.now + 5)) rfl rfl
  have hon := State.assertLine_asserted ((s.stopCarrier k).advanceTo (s.now + 5))
  have hnow : (((s.stopCarrier k).advanceTo (s.now + 5)).assertLine).now = s.now + 5 := by
    rw [State.assertLine_now]
    show max s.now (s.now + 5) = _
    omega
  generalize ((s.stopCarrier k).advanceTo (s.now + 5)).assertLine = u at *
  cases coded
  · rw [if_neg (by decide), State.showActive_asserted, State.showActive_pins, State.showActive_line, State.showActive_now, State.showActive_chan]
    rw [State.set_line]
    refine ⟨?_, ?_, hsilent, fun h => absurd h (by decide), fun _ => ⟨?_, ?_⟩⟩
    · rw [State.on_set_leaves (by decide +kernel)]; exact hon
    · simpa using hflt
    · exact bit_get_set_withBit (by decide) hk _ _ _
    · have : (u.advanceTo (u.now + 45)).now = u.now + 45 := by show max u.now (u.now + 45) = _; omega
      rw [State.set_now, this, hnow]
  · rw [if_pos rfl, State.showActive_asserted, State.showActive_pins, State.showActive_line, State.showActive_now]
    exact ⟨hon, hflt, hsilent, fun _ => hnow, fun h => absurd h (by decide)⟩

/-- R174: a code of odd parity gives the sources of the die. -/
theorem execTripCode_claim (k : Nat) (code : Byte) (s : State) : Claims.tripCode k code s := by
  intro hdies hk hshaped hodd
  obtain ⟨hlen, -⟩ := hshaped
  have hexec : exec (.tripCode k code) s = .next (((((s.stopCarrier k).onDie k fun d => { d with code := code.toNat % 64 }).set
      F.CMP_FLSTAT_CHAN (withBit (s.get F.CMP_FLSTAT_CHAN) k false)).assertLine).showActive) := if_pos ⟨hdies, hodd⟩
  refine ⟨_, hexec, ?_, ?_, ?_, ?_, State.showActive_codes _⟩
  · rw [State.showActive_asserted, State.assertLine_asserted]
  · intro hoff
    rw [State.showActive_pins, State.assertLine_pins, State.on_set_leaves (by decide +kernel)]
    show (if s.on F.CMP_FLSTAT_ASSERTED then _ else true) = true
    rw [hoff]
    rfl
  · unfold State.die
    rw [State.showActive_dieSt, State.assertLine_dieSt, State.set_dieSt]
    show (State.die (State.onDie (s.stopCarrier k) k _) k).code = _
    rw [State.die_onDie, if_pos ⟨rfl, by show k < s.dieSt.length; omega⟩]
  · rw [State.showActive_chan, State.assertLine_chan]
    exact bit_get_set_withBit (by decide) hk _ _ _

theorem execTripCodeIgnored_claim (k : Nat) (code : Byte) (s : State) : Claims.tripCodeIgnored k code s :=
  fun hodd => if_neg (by rw [hodd]; simp)

/-- R174, R175: a returning carrier. -/
theorem execCarrierReturn_claim (k : Nat) (s : State) : Claims.carrierReturn k s := by
  intro hdies hk hshaped
  obtain ⟨hlen, -⟩ := hshaped
  refine ⟨_, if_pos hdies, ?_, ?_, ?_, State.showActive_codes _, ?_, ?_⟩
  · unfold State.die
    rw [State.showActive_dieSt, State.set_dieSt]
    show (State.die (State.onDie s k _) k).code = _
    rw [State.die_onDie, if_pos ⟨rfl, by omega⟩]
  · rw [State.showActive_line, State.set_line]
    show k ∉ s.line.silent.filter (· != k)
    simp
  · rw [State.showActive_chan]
    exact bit_get_set_withBit (by decide) hk _ _ _
  · rw [State.showActive_asserted, State.on_set_leaves (by decide +kernel)]
    rfl
  · rw [State.showActive_pins, State.set_pins]
    rfl

/-! ### The release -/

theorem flclr_served {s : State} {l : Link} (h : s.takes l) (key : Word) : ∃ a t, twin a s.refreshShown ∧
    exec (.flclr l key) s = .next t ∧ twin t (a.writeFlclr key).1 ∧
    (∀ c, (a.writeFlclr key).2 = some c → Claims.refusedWith t l c) ∧ ((a.writeFlclr key).2 = none → Claims.granted t l) := by
  obtain ⟨a, ha, ht, hrefused, hgranted⟩ := hostWrite_full h 0x11 0xE0 key rfl rfl rfl (Or.inl rfl)
  exact ⟨a, _, ha, rfl, ht, hrefused, hgranted⟩

theorem noSource_of_twin {a s : State} (ha : twin a s.refreshShown) : a.noSource = s.noSource := by
  unfold State.noSource
  rw [State.get_of_twin ha (by decide), line_of_twin ha]

/-- A line that is released leaves FLT_N and sets its flag. -/
theorem State.releaseLine_released {s : State} (h : s.on F.CMP_FLSTAT_ASSERTED = true) :
    s.releaseLine.pins.fltN = false ∧ s.releaseLine.on F.CMP_IFLAG_FL_REL = true := by
  have hprt := fun u : State => altersOf (alters_prtRelease u)
  unfold State.releaseLine State.faultAsserted
  rw [if_pos h]
  dsimp only
  rw [(hprt _).pins (by decide +kernel), (hprt _).on _ (by decide +kernel), State.on_mk]
  exact ⟨rfl, State.on_flag_okay (by decide) _⟩

theorem execFlclr_claim (l : Link) (s : State) : Claims.flclr l s := by
  intro htakes hnone
  obtain ⟨a, t, ha, ht, htwin, -, hgranted⟩ := flclr_served htakes 0xC1EA
  have hwrite : a.writeFlclr 0xC1EA = (a.releaseLine, none) := if_pos ⟨rfl, by rw [noSource_of_twin ha, hnone]⟩
  rw [hwrite] at htwin hgranted
  have hside := htwin.1
  refine ⟨t, ht, hgranted rfl, ?_, fun hon => ?_⟩
  · rw [on_of_linksAside hside]; exact a.releaseLine_shown.1
  · have hasserted : a.on F.CMP_FLSTAT_ASSERTED = true := (State.on_of_twin ha (by decide)).trans hon
    rw [pins_of_aside hside, on_of_linksAside hside]
    exact State.releaseLine_released hasserted

theorem execFlclr_refused (l : Link) (key : Word) (s : State) : Claims.flclrRefused l key s := by
  intro htakes hcause
  obtain ⟨a, t, ha, ht, htwin, hrefused, -⟩ := flclr_served htakes key
  have hwrite : a.writeFlclr key = (a, some 0x0A) := if_neg (by
    rw [noSource_of_twin ha]
    rintro ⟨hkey, hnone⟩
    exact hcause.elim (fun h => h hkey) fun h => by rw [h] at hnone; exact absurd hnone (by decide))
  rw [hwrite] at htwin hrefused
  exact ⟨t, ht, hrefused _ rfl, linksAside_trans htwin.1 ha.1⟩

end Sys2Proof.Machine

/-- Settles O22: what asserting the line, showing its sources and releasing it leave, command by command. -/
theorem faultLine : Obligations.FaultLine := by
  unfold Obligations.FaultLine
  exact ⟨Sys2Proof.Machine.execFaultChannelLost_claim, Sys2Proof.Machine.execTripCode_claim,
    Sys2Proof.Machine.execTripCodeIgnored_claim, Sys2Proof.Machine.execCarrierReturn_claim, Sys2Proof.Machine.execFlclr_claim,
    Sys2Proof.Machine.execFlclr_refused⟩
end

section
/-! SUPPORT. A READ on a link that takes it: the word it returns, its status, and what it changes; states that differ in the traffic of
the links alone read alike. -/
set_option Elab.async false
namespace Sys2Proof.Machine
open Host

/-! ### States that differ in the traffic of the links -/

theorem LinkSt.sel_of_session {k m : LinkSt} (h : k.session = m.session) : k.sel = m.sel := congrArg Prod.fst h

theorem LinkSt.timeHi_of_session {k m : LinkSt} (h : k.session = m.session) : k.timeHi = m.timeHi := congrArg (fun e => e.2.2.2.2) h

theorem LinkSt.seen_of_view {k m : LinkSt} (h : k.view = m.view) : k.seen = m.seen := congrArg (fun e => e.2.2) h

theorem LinkSt.burst_of_view {k m : LinkSt} (h : k.view = m.view) : k.burst = m.burst := congrArg Prod.fst h

theorem LinkSt.burstStale_of_view {k m : LinkSt} (h : k.view = m.view) : k.burstStale = m.burstStale := congrArg (fun e => e.2.1) h

section
variable {a b : State}

theorem shownLow_twin (h : twin a b) (l : Link) (page word : Nat) (v : Word) : a.shownLow l page word v = b.shownLow l page word v := by
  unfold State.shownLow State.readSgc
  dsimp only
  rw [LinkSt.sel_of_session (h.2 l), LinkSt.timeHi_of_session (h.2 l), h.1]
  rfl

theorem shownHigh_twin (h : twin a b) (l : Link) (page word : Nat) (v : Word) : a.shownHigh l page word v = b.shownHigh l page word v := by
  have hnode : a.zNodeOf l = b.zNodeOf l := by
    unfold State.zNodeOf
    rw [LinkSt.sel_of_session (h.2 l), h.1]
  unfold State.shownHigh State.readZsel State.readZdata State.readTag
  dsimp only
  rw [LinkSt.sel_of_session (h.2 l), hnode, h.1]
  rfl

/-- States that differ in the traffic of the links alone show a link the same word. -/
theorem readWord_twin (h : twin a b) (l : Link) (page word : Nat) : a.readWord l page word = b.readWord l page word := by
  have hside := h.1
  have hreg := reg_of_linksAside hside
  have hpid : a.pid page = b.pid page := by rw [hside]; rfl
  have hfit : a.fitted page = b.fitted page := by rw [hside]; rfl
  have hpstat : a.pstat page = b.pstat page := by rw [hside]; rfl
  have hview : a.viewActive l = b.viewActive l := by unfold State.viewActive; rw [hreg]
  have hsaved : ∀ v, a.beforeSaved (addrOf page word) v = b.beforeSaved (addrOf page word) v := fun v => by rw [hside]; rfl
  unfold State.readWord
  simp only [hpid, hfit, hpstat, hreg, hview, shadowReg_of_linksAside hside, derived_twin h, hsaved, shownLow_twin h, shownHigh_twin h]

theorem beforeRead_aside (h : linksAside a b) (page word : Nat) : linksAside (a.beforeRead page word) (b.beforeRead page word) := by
  have hgate : a.hasM = b.hasM ∧ a.gdieDown = b.gdieDown ∧ a.on F.GDR_STAT_LINKLOST = b.on F.GDR_STAT_LINKLOST := by
    rw [h]; exact ⟨rfl, rfl, rfl⟩
  obtain ⟨hm, hdown, hlost⟩ := hgate
  unfold State.beforeRead
  rw [hm, hdown, hlost]
  split
  · unfold State.fetchLive
    rw [reg_of_linksAside h]
    exact linksAside_put h _ _
  · exact h

theorem beforeRead_session (s : State) (page word : Nat) (k : Link) : ((s.beforeRead page word).link k).session = (s.link k).session := by
  unfold State.beforeRead
  split
  · exact put_session ..
  · rfl

theorem beforeRead_twin (h : twin a b) (page word : Nat) : twin (a.beforeRead page word) (b.beforeRead page word) :=
  ⟨beforeRead_aside h.1 page word, fun k => by rw [beforeRead_session, beforeRead_session]; exact h.2 k⟩

theorem linksAside_setReg (h : linksAside a b) (x : Nat) (v : Word) : linksAside (a.setReg x v) (b.setReg x v) := by
  rw [h]; rfl

theorem linksAside_onLink_both (h : linksAside a b) (l : Link) (f g : LinkSt → LinkSt) : linksAside (a.onLink l f) (b.onLink l g) := by
  have hb : linksAside b (b.onLink l g) := by cases l <;> rfl
  exact linksAside_trans (linksAside_onLink a l f) (linksAside_trans h hb)

/-- A read has the same effects in states that differ in their links alone, but for what the links keep. -/
theorem readEffect_aside (h : linksAside a b) (l : Link) (page word : Nat) :
    linksAside (a.readEffect l page word) (b.readEffect l page word) := by
  have hfit : a.fitted page = b.fitted page := by rw [h]; rfl
  unfold State.readEffect
  rw [hfit]
  dsimp only
  split
  · exact h
  · split
    · exact linksAside_setReg h _ _
    · split
      · exact linksAside_onLink_both h l _ _
      · split
        · unfold State.advanceEntry
          unfold State.set
          rw [get_of_linksAside h, reg_of_linksAside h]
          exact linksAside_put h _ _
        · split
          · rw [reg_of_linksAside h]
            split
            · exact linksAside_put h _ _
            · exact h
          · exact h

/-- States ready for the same request answer it with the same STALE and REPEAT. -/
theorem staleOf_twin (h : twin a b) (l : Link) (page word : Nat) (v : Word) : a.staleOf l page word v = b.staleOf l page word v := by
  have hwin : a.stagedWindow l page word = b.stagedWindow l page word := by
    unfold State.stagedWindow
    dsimp only
    rw [LinkSt.sel_of_session (h.2 l), h.1]
    rfl
  unfold State.staleOf
  rw [hwin, h.1]
  rfl

/-- States that differ in the traffic of the links alone, not in what the links have read. -/
def alike (a b : State) : Prop := twin a b ∧ ∀ k, (a.link k).seen = (b.link k).seen

theorem alike_refl (a : State) : alike a a := ⟨twin_refl a, fun _ => rfl⟩

theorem alike_trans {c : State} (h : alike a b) (h' : alike b c) : alike a c :=
  ⟨twin_trans h.1 h'.1, fun k => (h.2 k).trans (h'.2 k)⟩

theorem alike_of_ready (h : ready a b) : alike a b := ⟨h.1, fun k => LinkSt.seen_of_view (h.2 k)⟩

theorem repeatOf_alike (h : alike a b) (l : Link) (page word : Nat) : a.repeatOf l page word = b.repeatOf l page word := by
  have htracked : a.tracked page word = b.tracked page word := by rw [h.1.1]; rfl
  unfold State.repeatOf State.seenKey
  rw [LinkSt.sel_of_session (h.1.2 l), h.2 l, htracked]

theorem publish_seen (s : State) (p : Nat) (q : Word) (k : Link) : ((s.publish p q).link k).seen =
    if s.reg (addrOf p 7) = q ∧ p ∈ s.published then (s.link k).seen
    else (s.link k).seen.filter fun a => a / 256 % 256 != p || windowAddr a := by
  unfold State.publish
  split
  · rfl
  · cases k <;> rfl

theorem put_alike (h : alike a b) (x : Nat) (v : Word) : alike (a.put x v) (b.put x v) := by
  refine ⟨⟨linksAside_put h.1.1 x v, fun k => by rw [put_session, put_session]; exact h.1.2 k⟩, fun k => ?_⟩
  have hframe : a.frame = b.frame := by rw [h.1.1]; rfl
  have hpublished : (a.setReg x v).published = (b.setReg x v).published := by rw [h.1.1]; rfl
  have hreg : ∀ y, (a.setReg x v).reg y = (b.setReg x v).reg y := reg_of_linksAside (linksAside_setReg h.1.1 x v)
  have hseen : ((a.setReg x v).link k).seen = ((b.setReg x v).link k).seen := h.2 k
  unfold State.put
  rw [reg_of_linksAside h.1.1, hframe]
  split
  · exact h.2 k
  · split
    · rw [publish_seen, publish_seen, hreg, hpublished, hseen]
    · exact hseen

theorem refreshWord_alike (h : alike a b) (x : Nat) : alike (a.refreshWord x) (b.refreshWord x) := by
  have hfit : a.fitted (x / 256) = b.fitted (x / 256) := by rw [h.1.1]; rfl
  unfold State.refreshWord
  rw [derived_twin h.1, hfit]
  split
  · exact put_alike h _ _
  · exact h

theorem foldl_refresh_alike (l : List Nat) {a b : State} (h : alike a b) : alike (l.foldl State.refreshWord a) (l.foldl State.refreshWord b) := by
  induction l generalizing a b with
  | nil => exact h
  | cons x l ih => exact ih (refreshWord_alike h x)

theorem onLink_seen (s : State) (l k : Link) (f : LinkSt → LinkSt) (hf : ∀ x, (f x).seen = x.seen) :
    ((s.onLink l f).link k).seen = (s.link k).seen := by
  cases l <;> cases k <;> first | exact hf _ | rfl

/-- The state a request runs in: like the one before it with the words that follow the moment up to date. -/
theorem beforeRequest_alike (h : alike a b) (l : Link) (op : Nat) : alike (a.beforeRequest l op) b.refreshShown := by
  refine alike_trans ⟨beforeRequest_twin a l op, fun k => ?_⟩ (foldl_refresh_alike _ h)
  unfold State.beforeRequest State.applyIf
  split
  · exact onLink_seen _ _ _ _ fun _ => rfl
  · rfl

/-! ### TOGGLE -/

theorem publish_toggle (s : State) (p : Nat) (q : Word) (k : Link) : ((s.publish p q).link k).toggle = (s.link k).toggle := by
  unfold State.publish
  split
  · rfl
  · cases k <;> rfl

theorem put_toggle (s : State) (x : Nat) (v : Word) (k : Link) : ((s.put x v).link k).toggle = (s.link k).toggle := by
  unfold State.put
  split
  · rfl
  · split
    · exact publish_toggle ..
    · rfl

theorem refreshShown_toggle (s : State) (k : Link) : (s.refreshShown.link k).toggle = (s.link k).toggle :=
  refreshShown_keeps (P := fun t => (t.link k).toggle = (s.link k).toggle) (fun _ _ _ h => (put_toggle ..).trans h) rfl

theorem onLink_toggle (s : State) (l k : Link) (f : LinkSt → LinkSt) (hf : ∀ x, (f x).toggle = x.toggle) :
    ((s.onLink l f).link k).toggle = (s.link k).toggle := by
  cases l <;> cases k <;> first | exact hf _ | rfl

theorem beforeRequest_toggle (s : State) (l : Link) (op : Nat) (k : Link) : ((s.beforeRequest l op).link k).toggle = (s.link k).toggle := by
  have h := refreshShown_toggle s k
  unfold State.beforeRequest
  generalize s.refreshShown = u at h ⊢
  unfold State.applyIf
  split
  · exact (onLink_toggle u l k (fun x => { x with burst := [] }) fun _ => rfl).trans h
  · exact h

theorem beforeRead_toggle (s : State) (page word : Nat) (k : Link) : ((s.beforeRead page word).link k).toggle = (s.link k).toggle := by
  unfold State.beforeRead
  split
  · exact put_toggle ..
  · rfl

theorem readEffect_toggle (s : State) (l : Link) (page word : Nat) (k : Link) :
    ((s.readEffect l page word).link k).toggle = (s.link k).toggle := by
  unfold State.readEffect
  dsimp only
  split
  · rfl
  · split
    · rfl
    · split
      · exact onLink_toggle _ _ _ _ fun _ => rfl
      · split
        · exact put_toggle ..
        · split
          · split
            · exact put_toggle ..
            · rfl
          · rfl

theorem markSeen_toggle (s : State) (l : Link) (page word : Nat) (k : Link) :
    ((s.markSeen l page word).link k).toggle = (s.link k).toggle := by
  unfold State.markSeen
  split
  · exact onLink_toggle _ _ _ _ fun _ => rfl
  · rfl

theorem markSeen_twin (s : State) (l : Link) (page word : Nat) : twin (s.markSeen l page word) s := by
  unfold State.markSeen
  split
  · exact twin_onLink _ _ fun _ => rfl
  · exact twin_refl s

end

/-! ### The status byte -/

/-- The bits of the status byte between DEGRADED and ATTN are those it is given. -/
theorem bit_statusByte (s : State) {x b : Nat} (h4 : x % 4 = 0) (h : 2 ≤ b ∧ b ≤ 6) : bit (s.statusByte x) b = bit x b := by
  obtain ⟨lo, hi⟩ := h
  unfold State.statusByte ofBool bit
  interval_cases b <;> split <;> split <;> simp only [Nat.reducePow] <;> congr 1 <;> omega

end Sys2Proof.Machine
end

section
/-! SUPPORT. Requests that are not writes, served on a link that takes them. -/
set_option Elab.async false
namespace Sys2Proof.Machine
open Host

/-! ### Any request -/

/-- A request on a link that takes it: the state `u` it runs in, and that TOGGLE of the link is inverted where the request itself leaves
it alone. -/
theorem request_served {s : State} {l : Link} (h : s.takes l) {op page word : Nat} (v : Word) (ho : op ≤ 5) (hp : page < 256)
    (hw : word < 256) : ∃ a b y, alike (a.beforeRequest l op) s.refreshShown ∧ ready a s ∧
      a.perform l op 0 page word v = (b, some y) ∧ a.frozen = false ∧ ready (s.submit l op page word v) b ∧
      ((s.submit l op page word v).link l).reply = y ∧ ((b.link l).toggle = ((a.beforeRequest l op).link l).toggle →
        ((s.submit l op page word v).link l).toggle = !(s.link l).toggle) := by
  obtain ⟨a, b, y, hready, hx, hafter, hreply, htoggle⟩ := served_of_takes h (op := op) (rsv := 0) (page := page) (word := word) v (by omega) (by omega) hp hw
  have hfz : a.frozen = false := (frozen_of_linksAside hready.1.1).trans h.2.2.1
  exact ⟨a, b, y, beforeRequest_alike (alike_of_ready hready) l op, hready, hx, hfz, hafter, hreply,
    fun e => htoggle (e.trans (beforeRequest_toggle a l op l))⟩

/-! ### READ -/

theorem serveRead_run {u : State} (hr : u.pwr.phase = .run) (l : Link) (page word : Nat) (v : Word) :
    u.serveRead l page word v = ((u.takeWord l page word).1.markSeen l page word, ((u.takeWord l page word).1.markSeen l page word).reply
      (staleBit (u.staleOf l page word v) + repeatBit (u.repeatOf l page word)) page word (u.takeWord l page word).2) := by
  unfold State.serveRead
  rw [servedPage_run hr]
  rfl

/-- STALE and REPEAT in the status byte of a reply. -/
theorem bit_readStatus (s : State) (p q : Bool) : bit (s.statusByte (staleBit p + repeatBit q)) 3 = false ∧
    bit (s.statusByte (staleBit p + repeatBit q)) 6 = p ∧ bit (s.statusByte (staleBit p + repeatBit q)) 5 = q := by
  have h4 : (staleBit p + repeatBit q) % 4 = 0 := by cases p <;> cases q <;> rfl
  rw [bit_statusByte s h4 (by omega), bit_statusByte s h4 (by omega), bit_statusByte s h4 (by omega)]
  cases p <;> cases q <;> exact ⟨rfl, rfl, rfl⟩

/-- A READ on a link that takes it: what it answers, and the state it leaves. -/
theorem read_served {s : State} {l : Link} (h : s.takes l) {page word : Nat} (v : Word) (hp : page < 256) (hw : word < 256) :
    ∃ t u, s.submit l 1 page word v = t ∧ alike u s.refreshShown ∧ twin t ((u.beforeRead page word).readEffect l page word) ∧
      Claims.granted t l ∧ (t.link l).reply.page = page ∧ (t.link l).reply.word = word ∧
      (t.link l).reply.data = (u.beforeRead page word).readWord l page word ∧
      bit (t.link l).reply.status 6 = u.staleOf l page word v ∧ bit (t.link l).reply.status 5 = u.repeatOf l page word ∧
      (t.link l).toggle = !(s.link l).toggle := by
  obtain ⟨a, b, y, hlike, -, hx, hfz, hafter, hreply, htoggle⟩ := request_served h (op := 1) v (by omega) hp hw
  rw [perform_known l (by omega) hfz] at hx
  have hrun := (takes_of_twin hlike.1).1 h.1
  simp only at hx
  generalize a.beforeRequest l 1 = u at *
  rw [serveRead_run hrun] at hx
  obtain ⟨rfl, hy⟩ := Prod.mk.inj hx
  have hy := Option.some.inj hy
  subst hy
  refine ⟨_, u, rfl, hlike, twin_trans hafter.1 (markSeen_twin _ _ _ _), ?_, ?_, ?_, ?_, ?_, ?_, htoggle ?_⟩
  · unfold Claims.granted
    rw [hreply]
    exact (bit_readStatus _ _ _).1
  · rw [hreply]; rfl
  · rw [hreply]; rfl
  · rw [hreply]; rfl
  · rw [hreply]
    exact (bit_readStatus _ _ _).2.1
  · rw [hreply]
    exact (bit_readStatus _ _ _).2.2
  · rw [markSeen_toggle]
    show (((u.beforeRead page word).readEffect l page word).link l).toggle = _
    rw [readEffect_toggle, beforeRead_toggle]

end Sys2Proof.Machine
end

section
/-! ## O12: the requests of the links -/
set_option Elab.async false
namespace Sys2Proof.Machine
open Host

/-! ### READ -/

theorem execRead_claim (l : Link) (r : Req) (s : State) : Claims.read l r s := by
  intro h
  obtain ⟨t, u, ht, hlike, htwin, hgranted, hpage, hword, hdata, hstale, hrepeat, htoggle⟩ := read_served h r.data r.page.isLt r.word.isLt
  refine ⟨t, congrArg Outcome.next ht, hgranted, hpage, hword, hdata.trans ?_, hstale.trans (staleOf_twin hlike.1 _ _ _ _),
    hrepeat.trans (repeatOf_alike hlike _ _ _), linksAside_trans htwin.1 ?_, htoggle⟩
  · exact readWord_twin (beforeRead_twin hlike.1 _ _) _ _ _
  · exact readEffect_aside (beforeRead_aside hlike.1.1 _ _) _ _ _

theorem execAbsentPage_claim (l : Link) (r : Req) (s : State) : Claims.absentPage l r s := by
  intro h hf
  obtain ⟨t, u, ht, hlike, htwin, hgranted, -, -, hdata, -⟩ := read_served h r.data r.page.isLt r.word.isLt
  obtain ⟨w, hw, hwdata⟩ := read_absentPage h hf
  refine ⟨⟨t, congrArg Outcome.next ht, hgranted, ?_⟩, write_absentPage h hf⟩
  have hwt : w = t := (Outcome.next.inj hw).symm.trans ht
  rw [← hwt]
  exact hwdata

/-! ### NOP -/

theorem beforeRun_of_run {u : State} (hr : u.pwr.phase = .run) : u.beforeRun = false := by unfold State.beforeRun; rw [hr]; rfl

/-- In service a NOP takes the next word of the burst, or answers 0. -/
theorem serveNop_run {u : State} (hr : u.pwr.phase = .run) (l : Link) (page word : Nat) :
    (u.serveNop l page word).1 = u.onLink l (fun k => { k with burst := (u.link l).burst.tail }) ∧
    (u.serveNop l page word).2.data = ((u.link l).burst.head?.map fun b => b.data).getD 0 ∧
    bit (u.serveNop l page word).2.status 3 = false ∧
    ∀ b ∈ (u.link l).burst.head?, (u.serveNop l page word).2.page = b.addr / 256 ∧ (u.serveNop l page word).2.word = b.addr % 256 := by
  unfold State.serveNop
  dsimp only
  rw [beforeRun_of_run hr, if_neg Bool.false_ne_true]
  cases hb : (u.link l).burst with
  | nil =>
    refine ⟨?_, rfl, bit_statusByte_zero u (by omega), fun b hmem => by cases hmem⟩
    show u = u.onLink l fun k => { k with burst := [] }
    cases l <;> (unfold State.onLink; rw [← hb]; rfl)
  | cons b rest =>
    refine ⟨rfl, rfl, (bit_readStatus _ _ _).1, fun c hc => ?_⟩
    cases hc
    exact ⟨rfl, rfl⟩

theorem execNop_claim (l : Link) (r : Req) (s : State) : Claims.nop l r s := by
  intro h
  obtain ⟨a, b, y, hlike, hready, hx, hfz, hafter, hreply, htoggle⟩ := request_served h (op := 0) r.data (by omega) r.page.isLt r.word.isLt
  rw [perform_known l (by omega) hfz] at hx
  have hrun := (takes_of_twin hlike.1).1 h.1
  have hburst : ((a.beforeRequest l 0).link l).burst = (s.link l).burst := by
    show (a.refreshShown.link l).burst = _
    have htraffic := congrArg Prod.fst (refreshShown_traffic a l)
    exact htraffic.trans (LinkSt.burst_of_view (hready.2 l))
  simp only at hx
  generalize a.beforeRequest l 0 = u at *
  obtain ⟨hstate, hdata, hstatus, haddr⟩ := serveNop_run hrun l r.page.toNat r.word.toNat
  obtain ⟨rfl, hy⟩ := Prod.mk.inj hx
  have hy := Option.some.inj hy
  rw [hburst] at hstate hdata haddr
  rw [← hy] at hreply
  refine ⟨_, rfl, ?_, ⟨?_, htoggle ?_⟩, ?_, ?_, ?_⟩
  · unfold Claims.granted; rw [hreply]; exact hstatus
  · refine linksAside_trans hafter.1.1 ?_
    rw [hstate]
    exact linksAside_trans (linksAside_onLink _ _ _) hlike.1.1
  · rw [hstate]
    exact onLink_toggle u l l (fun k => { k with burst := (s.link l).burst.tail }) fun _ => rfl
  · rw [hreply]; exact hdata
  · rw [LinkSt.burst_of_view (hafter.2 l), hstate, link_onLink_same]
  · rw [hreply]; exact haddr

/-! ### STATUS and unknown operations -/

theorem summary_aside {a b : State} (h : linksAside a b) : a.summary = b.summary := by rw [h]; rfl

theorem execStatus_claim (l : Link) (r : Req) (s : State) : Claims.status l r s := by
  intro h
  obtain ⟨a, b, y, hlike, hready, hx, hfz, hafter, hreply, htoggle⟩ := request_served h (op := 5) r.data (by omega) r.page.isLt r.word.isLt
  rw [perform_known l (by omega) hfz] at hx
  have hrun := (takes_of_twin hlike.1).1 h.1
  have hburst : ((a.beforeRequest l 5).link l).burst = [] := by
    show (((a.refreshShown).onLink l fun k => { k with burst := [] }).link l).burst = []
    rw [link_onLink_same]
  simp only at hx
  generalize a.beforeRequest l 5 = u at *
  obtain ⟨rfl, hy⟩ := Prod.mk.inj hx
  have hserve : u.serveStatus r.page.toNat r.word.toNat = u.reply 0 r.page.toNat r.word.toNat u.summary := by
    unfold State.serveStatus
    rw [beforeRun_of_run hrun]
    rfl
  rw [← Option.some.inj hy, hserve] at hreply
  refine ⟨_, rfl, ?_, ?_, ⟨linksAside_trans hafter.1.1 hlike.1.1, htoggle rfl⟩, ?_⟩
  · unfold Claims.granted; rw [hreply]; exact bit_statusByte_zero u (by omega)
  · rw [hreply]; exact summary_aside hlike.1.1
  · exact (LinkSt.burst_of_view (hafter.2 l)).trans hburst

/-- A request with an unknown OP or with reserved bits is refused with code 0x06. -/
theorem perform_unknown {a : State} (l : Link) {op rsv : Nat} (page word : Nat) (v : Word) (h : 5 < op ∨ rsv ≠ 0) :
    a.perform l op rsv page word v = (a.beforeRequest l op, some ((a.beforeRequest l op).refusal page word 0x06)) := by
  unfold State.perform
  exact if_pos h

theorem execUnknownOp_claim (l : Link) (op rsv : BitVec 4) (r : Req) (s : State) : Claims.unknownOp l op rsv r s := by
  intro h
  have hlt : (if rsv = 0 ∧ op.toNat < 6 then 6 else op.toNat) < 16 := by
    have := op.isLt
    split <;> omega
  have hunknown : 5 < (if rsv = 0 ∧ op.toNat < 6 then 6 else op.toNat) ∨ rsv.toNat ≠ 0 := by
    by_cases hr : rsv.toNat = 0
    · left
      have : rsv = 0 := BitVec.eq_of_toNat_eq hr
      split
      · omega
      · rename_i hn; simp only [this, true_and] at hn; omega
    · exact Or.inr hr
  generalize hop : (if rsv = 0 ∧ op.toNat < 6 then 6 else op.toNat) = n at hlt hunknown
  obtain ⟨a, b, y, hready, hx, hafter, hreply, htoggle⟩ := served_of_takes h (op := n) (rsv := rsv.toNat) (page := r.page.toNat)
    (word := r.word.toNat) r.data hlt rsv.isLt r.page.isLt r.word.isLt
  have hlike := beforeRequest_alike (alike_of_ready hready) l n
  have hflip := beforeRequest_toggle a l n l
  rw [perform_unknown l _ _ _ hunknown] at hx
  generalize a.beforeRequest l n = u at *
  obtain ⟨rfl, hy⟩ := Prod.mk.inj hx
  have hexec : exec (.unknownOp l op rsv r) s = .next (s.submitBits l (requestBits n rsv.toNat r.page.toNat r.word.toNat r.data)) := by
    rw [← hop]; rfl
  refine ⟨_, hexec, ?_, linksAside_trans hafter.1.1 hlike.1.1, htoggle hflip⟩
  unfold Claims.refusedWith
  rw [hreply, ← Option.some.inj hy]
  exact ⟨bit_status_refusal .., rfl⟩

/-! ### BURST_READ -/

/-- The words a BURST_READ takes. -/
theorem burst_words (v : Word) (word : Nat) : (List.range (min (bitsOf v 7 0 + 1) (256 - word))).map (word + ·) =
    List.range' word (min (v.toNat % 256 + 1) (256 - word)) := by
  rw [List.range'_eq_map_range]
  unfold bitsOf
  simp only [Nat.pow_zero, Nat.div_one, Nat.reduceAdd, Nat.reduceSub, Nat.reducePow]

/-- A BURST_READ copies the words in order. -/
theorem snapWord_addrs (before : State) (l : Link) (page : Nat) (ws : List Nat) (acc : State × List BurstWord) :
    (ws.foldl (before.snapWord l page) acc).2.map (fun b => b.addr) = acc.2.map (fun b => b.addr) ++ ws.map (addrOf page) := by
  induction ws generalizing acc with
  | nil => simp
  | cons w ws ih => rw [List.foldl_cons, ih]; simp [State.snapWord]

/-- Words without an effect of their read are copied as they stand. -/
theorem snapWord_data {before u : State} {l : Link} {page : Nat} {ws : List Nat} (h : ∀ w ∈ ws, u.takeWord l page w = (u, u.readWord l page w))
    (done : List BurstWord) : (ws.foldl (before.snapWord l page) (u, done)).2.map (fun b => b.data) =
      done.map (fun b => b.data) ++ ws.map (u.readWord l page) := by
  induction ws generalizing done with
  | nil => simp
  | cons w ws ih =>
    rw [List.foldl_cons]
    have hw := h w List.mem_cons_self
    unfold State.snapWord at ih ⊢
    simp only [hw]
    rw [ih fun x hx => h x (List.mem_cons_of_mem _ hx)]
    simp

theorem takeWord_silent {u : State} (l : Link) {page word : Nat} (h3 : page ≠ 3) (hc : page ≠ 0x0C) (hg : ¬ (0x49 ≤ page ∧ page ≤ 0x4E))
    (h6 : word ≠ 6) (hrc : wordHas page word .rc = false) : u.takeWord l page word = (u, u.readWord l page word) := by
  have hread : u.beforeRead page word = u := by
    unfold State.beforeRead
    exact if_neg (by simp only [Bool.and_eq_true, decide_eq_true_eq]; tauto)
  have heffect : u.readEffect l page word = u := by
    unfold State.readEffect
    dsimp only
    rw [hrc, if_neg h6, if_neg fun h => h3 (And.left h), if_neg Bool.false_ne_true, ite_eq_left_iff]
    intro _
    exact if_neg fun h => hc (And.left h)
  unfold State.takeWord
  dsimp only
  rw [hread, heffect]

/-- A BURST_READ on a link that takes it. -/
theorem burst_served {s : State} {l : Link} (h : s.takes l) (r : Req) : ∃ u t, exec (.burstRead l r) s = .next t ∧ alike u s.refreshShown ∧
    (t.link l).burst = ((List.range' r.word.toNat (min (r.data.toNat % 256 + 1) (256 - r.word.toNat))).foldl
      (u.snapWord l r.page.toNat) (u, [])).2 ∧
    (t.link l).reply.data = u.readWord l r.page.toNat 7 ∧ bit (t.link l).reply.status 3 = false ∧ bit (t.link l).reply.status 5 = false := by
  obtain ⟨a, b, y, hlike, hready, hx, hfz, hafter, hreply, htoggle⟩ := request_served h (op := 3) r.data (by omega) r.page.isLt r.word.isLt
  rw [perform_known l (by omega) hfz] at hx
  have hrun := (takes_of_twin hlike.1).1 h.1
  simp only at hx
  generalize a.beforeRequest l 3 = u at *
  have hserve : ∃ w stale, u.serveBurst l r.page.toNat r.word.toNat r.data =
      (State.onLink w l fun k => { k with burst := ((List.range' r.word.toNat (min (r.data.toNat % 256 + 1) (256 - r.word.toNat))).foldl
        (u.snapWord l r.page.toNat) (u, [])).2, burstStale := stale },
      (State.onLink w l fun k => { k with burst := ((List.range' r.word.toNat (min (r.data.toNat % 256 + 1) (256 - r.word.toNat))).foldl
        (u.snapWord l r.page.toNat) (u, [])).2, burstStale := stale }).reply (staleBit stale + repeatBit false) r.page.toNat r.word.toNat
        (u.readWord l r.page.toNat 7)) := by
    unfold State.serveBurst
    rw [servedPage_run hrun, if_neg (by simp)]
    dsimp only
    rw [burst_words]
    exact ⟨_, _, rfl⟩
  obtain ⟨w, stale, hserve⟩ := hserve
  rw [hserve] at hx
  obtain ⟨rfl, hy⟩ := Prod.mk.inj hx
  rw [← Option.some.inj hy] at hreply
  refine ⟨u, _, rfl, hlike, ?_, ?_, ?_, ?_⟩
  · exact (LinkSt.burst_of_view (hafter.2 l)).trans (by rw [link_onLink_same])
  · rw [hreply]; rfl
  · rw [hreply]; exact (bit_readStatus _ _ _).1
  · rw [hreply]; exact (bit_readStatus _ _ _).2.2

theorem readWord_frameseq (u : State) (l : Link) (page : Nat) :
    u.readWord l page 7 = if u.fitted page then u.reg (addrOf page 7) else 0 := by
  cases hf : u.fitted page with
  | false => rw [readWord_absent hf, if_neg (by omega), if_neg Bool.false_ne_true]
  | true =>
    unfold State.readWord
    dsimp only
    rw [hf]
    rfl

theorem execBurstRead_claim (l : Link) (r : Req) (s : State) : Claims.burstRead l r s := by
  intro h
  obtain ⟨u, t, ht, hlike, hburst, hdata, hgranted, hrepeat⟩ := burst_served h r
  refine ⟨t, ht, hgranted, ?_, ?_, hrepeat⟩
  · rw [hburst, snapWord_addrs, List.range'_eq_map_range, List.map_map]
    rfl
  · have hfit := (takes_of_twin hlike.1).2.2 r.page.toNat
    rw [hdata, readWord_frameseq, hfit, reg_of_linksAside hlike.1.1]

theorem execBurstWords_claim (l : Link) (r : Req) (s : State) : Claims.burstWords l r s := by
  intro h h3 hc hg hsilent
  obtain ⟨u, t, ht, hlike, hburst, -⟩ := burst_served h r
  have h3' : r.page.toNat ≠ 3 := fun e => h3 (BitVec.eq_of_toNat_eq e)
  have hc' : r.page.toNat ≠ 0x0C := fun e => hc (BitVec.eq_of_toNat_eq e)
  refine ⟨t, ht, ?_⟩
  rw [hburst, snapWord_data fun w hw => takeWord_silent l h3' hc' hg (hsilent w hw).1 (hsilent w hw).2]
  simp only [List.map_nil, List.nil_append]
  exact List.map_congr_left fun w _ => readWord_twin hlike.1 _ _ _

/-! ### Frames that fail, and frames that come too early -/

theorem badCrc_toNat (page word : Nat) : (badCrc page word).toNat = (requestBits 0 0 page word 0).toNat ^^^ 1 := by
  unfold badCrc
  rw [BitVec.toNat_xor]
  rfl

theorem fieldOf_badCrc (page word : Nat) {hi lo : Nat} (h : 1 ≤ lo) :
    fieldOf (badCrc page word) hi lo = fieldOf (requestBits 0 0 page word 0) hi lo := by
  unfold fieldOf
  rw [badCrc_toNat, Nat.xor_div_two_pow, Nat.div_eq_of_lt (Nat.one_lt_two_pow (by omega)), Nat.xor_zero]

theorem crcOk_badCrc (page word : Nat) : crcOk (badCrc page word) = false := by
  have hgood := crcOk_requestBits 0 0 page word 0
  unfold crcOk fieldOf at hgood ⊢
  rw [beq_iff_eq] at hgood
  have hhead : (badCrc page word).toNat / 256 = (requestBits 0 0 page word 0).toNat / 256 := by
    rw [badCrc_toNat]
    exact (Nat.xor_div_two_pow (n := 8)).trans (Nat.xor_zero _)
  have hlow : (badCrc page word).toNat % 256 = (requestBits 0 0 page word 0).toNat % 256 ^^^ 1 := by
    rw [badCrc_toNat]
    exact Nat.xor_mod_two_pow (n := 8)
  rw [hhead, hgood, beq_eq_false_iff_ne]
  simp only [Nat.pow_zero, Nat.div_one, Nat.reduceAdd, Nat.reduceSub, Nat.reducePow, hlow]
  intro h
  have := congrArg (fun z => z ^^^ (requestBits 0 0 page word 0).toNat % 256) h
  simp at this

/-- A frame that fails its CRC is answered with CRCERR, and not executed. -/
theorem performBits_badCrc {t : State} (h : t.leaseState (replySlot .spi) = 0) (page word : Byte) :
    t.performBits .spi (badCrc page.toNat word.toNat) = (t, some (t.reply 4 page.toNat word.toNat 0)) := by
  unfold State.performBits
  rw [slotOpen_free h, crcOk_badCrc, fieldOf_badCrc _ _ (by omega), fieldOf_badCrc _ _ (by omega), request_page, request_word,
    Nat.mod_eq_of_lt page.isLt, Nat.mod_eq_of_lt word.isLt]
  rfl

/-- Storing a word changes registers, what has published and what the links keep alone. -/
theorem put_parts (s : State) (x : Nat) (v : Word) :
    s.put x v = { s with regs := (s.put x v).regs, links := (s.put x v).links, published := (s.put x v).published } := by
  unfold State.put State.publish
  split_ifs <;> rfl

theorem countFrameErr_parts (s : State) : s.countFrameErr =
    { s with regs := s.countFrameErr.regs, links := s.countFrameErr.links, published := s.countFrameErr.published } := by
  unfold State.countFrameErr State.count State.flag State.set
  generalize withBits _ _ _ _ = v
  generalize withBits _ _ _ _ = w
  rw [put_parts (s.put _ v), put_parts s]

theorem reg_countFrameErr {s : State} {a : Nat} (h1 : a ≠ F.HST_SPIERR_FRAMEERR.addr) (h2 : a ≠ F.HST_IFLAG_SPI_ERR.addr)
    (h3 : a ≠ addrOf 1 7) : s.countFrameErr.reg a = s.reg a := by
  unfold State.countFrameErr State.flag State.count
  rw [State.reg_set_other h2 h3, State.reg_set_other h1 h3]

theorem countFrameErr_traffic (s : State) (k : Link) : (s.countFrameErr.link k).traffic = (s.link k).traffic := by
  unfold State.countFrameErr State.flag State.count State.set
  rw [put_traffic, put_traffic]

theorem execCrcErrorFrame_claim (page word : Byte) (a : Nat) (s : State) : Claims.crcErrorFrame page word a s := by
  intro hup hwait hls
  generalize hb : (s.shiftOut .spi s.links.spi.reply).onLink .spi (fun k => { k with echo := (page.toNat, word.toNat), formed := none }) = b
  have hbegin : s.beginSpi page.toNat word.toNat = (b, true) := by
    unfold State.beginSpi
    rw [hwait, ← hb]
    rfl
  have hside : linksAside b s := by
    rw [← hb]
    exact linksAside_trans (linksAside_onLink _ _ _) (linksAside_shiftOut _ _ _)
  have hburst : b.links.spi.burst = s.links.spi.burst := by rw [← hb]; rfl
  have hlease : b.countFrameErr.leaseState (replySlot .spi) = 0 := by
    refine Eq.trans ?_ ((get_of_linksAside hside _).trans hls)
    unfold State.countFrameErr
    exact (State.get_set_leaves (by decide) _ _).trans (State.get_count_leaves (by decide) _)
  obtain ⟨y, hy⟩ : ∃ y, y = b.countFrameErr.reply 4 page.toNat word.toNat 0 := ⟨_, rfl⟩
  have hexec : exec (.crcErrorFrame page word) s = .next ((b.countFrameErr.formSpi y).onLink .spi fun k => { k with
      formed := some (badCrc page.toNat word.toNat) }) := by
    show execCrcErrorFrame page word s = _
    unfold execCrcErrorFrame
    rw [if_pos hup]
    simp only [hbegin, if_true, State.runSpi, performBits_badCrc hlease, endReply_free _ _ _ hlease, ← hy]
  have hget : b.countFrameErr.get F.HST_SPIERR_FRAMEERR = min (s.get F.HST_SPIERR_FRAMEERR + 1) 65535 := by
    unfold State.countFrameErr State.flag
    rw [State.get_set_leaves (by decide), State.get_count_okay (by decide), get_of_linksAside hside]
    rfl
  have hon : b.countFrameErr.on F.HST_IFLAG_SPI_ERR = true := State.on_flag_okay (by decide) _
  have hstays : b.countFrameErr.links.spi.burst = s.links.spi.burst :=
    (congrArg Prod.fst (countFrameErr_traffic b .spi)).trans hburst
  have hregs := fun h1 h2 h3 => (reg_countFrameErr (s := b) (a := a) h1 h2 h3).trans (reg_of_linksAside hside a)
  have hstatus : bit y.status 2 = true ∧ y.page = page.toNat ∧ y.word = word.toNat ∧ y.data = 0 := by
    rw [hy]
    exact ⟨bit_statusByte _ rfl (by omega), rfl, rfl, rfl⟩
  have hparts := countFrameErr_parts b
  obtain ⟨hcrc, hpage, hword, hdata⟩ := hstatus
  generalize b.countFrameErr = c at *
  refine ⟨_, hexec, hcrc, hpage, hword, hdata, hget, hon, hstays, hregs, ?_⟩
  have hall : ∀ L : Links, ({ c with links := L } : State) = { s with regs := c.regs, links := L, published := c.published } := by
    intro L
    rw [hparts, hside]
  exact hall _

/-- Setting a field leaves what a link keeps but for the words it has read. -/
theorem set_link (s : State) (f : Fld) (v : Nat) (k : Link) : ∃ seen, (s.set f v).link k = { s.link k with seen := seen } := by
  refine ⟨((s.set f v).link k).seen, ?_⟩
  unfold State.set State.put State.publish
  split_ifs <;> first | rfl | (cases k <;> rfl)

theorem execSpiNotReady_claim (s : State) : Claims.spiNotReady s := by
  intro hup
  obtain ⟨b, hb⟩ : ∃ b, b = s.shiftOut .spi (s.refusal s.links.spi.echo.1 s.links.spi.echo.2 0x05) := ⟨_, rfl⟩
  have hside : linksAside b s := by rw [hb]; exact linksAside_shiftOut _ _ _
  have hlink : b.links.spi = { s.links.spi with
      toggle := !s.links.spi.toggle
      sent := (s.refusal s.links.spi.echo.1 s.links.spi.echo.2 0x05).bits (!s.links.spi.toggle) } := by rw [hb]; rfl
  have hexec : exec .spiNotReady s = .next ((b.count F.HST_SPIERR_NOTREADY).flag F.HST_IFLAG_SPI_NOTREADY) := by
    rw [hb]
    exact congrArg Outcome.next (if_pos hup)
  have hcount : ((b.count F.HST_SPIERR_NOTREADY).flag F.HST_IFLAG_SPI_NOTREADY).get F.HST_SPIERR_NOTREADY =
      min (s.get F.HST_SPIERR_NOTREADY + 1) 65535 := by
    unfold State.flag
    rw [State.get_set_leaves (by decide), State.get_count_okay (by decide), get_of_linksAside hside]
    rfl
  have hkept : ∃ seen, ((b.count F.HST_SPIERR_NOTREADY).flag F.HST_IFLAG_SPI_NOTREADY).links.spi = { b.links.spi with seen := seen } := by
    obtain ⟨x, hx⟩ := set_link b F.HST_SPIERR_NOTREADY (satAdd (b.get F.HST_SPIERR_NOTREADY) 1 65535) .spi
    obtain ⟨y, hy⟩ := set_link (b.count F.HST_SPIERR_NOTREADY) F.HST_IFLAG_SPI_NOTREADY 1 .spi
    exact ⟨y, hy.trans (congrArg (fun k : LinkSt => { k with seen := y }) hx)⟩
  obtain ⟨seen, hkept⟩ := hkept
  have hon : ((b.count F.HST_SPIERR_NOTREADY).flag F.HST_IFLAG_SPI_NOTREADY).on F.HST_IFLAG_SPI_NOTREADY = true :=
    State.on_flag_okay (by decide) _
  refine ⟨_, hexec, ?_, hcount, hon, ?_, ?_, ?_⟩ <;> rw [hkept, hlink]

end Sys2Proof.Machine

/-- Settles O12: reads, bursts and the requests without effect, each in a state like the one before it with the words that follow the moment
up to date; and the frames that are not executed. -/
theorem linkRequests : Obligations.LinkRequests := by
  unfold Obligations.LinkRequests
  exact ⟨Sys2Proof.Machine.execRead_claim, Sys2Proof.Machine.execAbsentPage_claim, Sys2Proof.Machine.execNop_claim,
    Sys2Proof.Machine.execBurstRead_claim, Sys2Proof.Machine.execBurstWords_claim, Sys2Proof.Machine.execStatus_claim,
    Sys2Proof.Machine.execUnknownOp_claim, Sys2Proof.Machine.execCrcErrorFrame_claim, Sys2Proof.Machine.execSpiNotReady_claim⟩
end

section
/-! The time base, the epoch, the crystal and the clock check (R17, R18, R125, R126). -/
set_option Elab.async false
namespace Sys2Proof.Machine
open Host

/-! ### The time base and the epoch -/

/-- THY_TIME_LO shows the low half of the time base. -/
theorem readWord_timeLo (u : State) (l : Link) : u.readWord l 0x03 0x60 = BitVec.ofNat 32 u.now := by
  have hfit : u.fitted 0x03 = true := rfl
  have hwo : wordHas 0x03 0x60 .wo = false := by decide
  have hrws : wordHas 0x03 0x60 .rws = false := by decide
  unfold State.readWord
  rw [hfit, hwo, hrws]
  rfl

theorem timeLo_beforeRead (u : State) : u.beforeRead 0x03 0x60 = u := beforeRead_of_ne_live u 0x03 (by omega)

theorem timeLo_readEffect (u : State) (l : Link) :
    u.readEffect l 0x03 0x60 = u.onLink l fun k => { k with timeHi := some (u.now / 4294967296 % 65536) } := rfl

theorem execTimeLoRead_claim (l : Link) (s : State) : Claims.timeLoRead l s := by
  intro h
  obtain ⟨t, u, ht, hlike, htwin, -, -, -, hdata, -⟩ := read_served h (page := 0x03) (word := 0x60) 0 (by omega) (by omega)
  rw [timeLo_beforeRead, timeLo_readEffect] at htwin
  rw [timeLo_beforeRead, readWord_timeLo, now_of_twin hlike.1] at hdata
  refine ⟨t, congrArg Outcome.next ht, linksAside_trans htwin.1 (linksAside_trans (linksAside_onLink _ _ _) hlike.1.1), hdata, ?_⟩
  rw [LinkSt.timeHi_of_session (htwin.2 l), link_onLink_same, now_of_twin hlike.1]

theorem LinkSt.epochLo_of_session {k m : LinkSt} (h : k.session = m.session) : k.epochLo = m.epochLo := congrArg (fun e => e.2.2.2.1) h

theorem execEpochLoWrite_claim (l : Link) (v : Word) (s : State) : Claims.epochLoWrite l v s := by
  intro h
  obtain ⟨a, ha, ht, -, hgranted⟩ := hostWrite_full h 0x03 0xE0 v rfl rfl rfl (Or.inr rfl)
  have hcommand : a.command l 0x03 0xE0 v = (a.onLink l fun k => { k with epochLo := some v }, none) := rfl
  have hside : linksAside (a.onLink l fun k => { k with epochLo := some v }) a := linksAside_onLink ..
  rw [hcommand] at ht hgranted
  refine ⟨_, rfl, hgranted rfl, linksAside_trans ht.1 (linksAside_trans hside ha.1), ?_⟩
  exact (LinkSt.epochLo_of_session (ht.2 l)).trans (by rw [link_onLink_same])

/-- A write of the high half sets both halves, spends the one held for the link, and raises an event. -/
theorem writeEpochHi_effect (a : State) (l : Link) (v : Word) :
    (a.writeEpochHi l v).reg F.THY_EPOCH_HI_EPOCH.addr = v ∧
      (a.writeEpochHi l v).reg F.THY_EPOCH_LO_EPOCH.addr = (a.link l).epochLo.getD 0 ∧
      ((a.writeEpochHi l v).link l).epochLo = none ∧
      ∃ e, (a.writeEpochHi l v).rsm.inbox = a.rsm.inbox ++ [e] ∧ e.page = 0x03 ∧ e.cls = 0 := by
  generalize hx : (a.link l).epochLo.getD 0 = x
  have hlo : ∀ u : State, ((u.setReg (addrOf 0x03 0xE0) x).setReg (addrOf 0x03 0xE1) v).reg (addrOf 0x03 0xE0) = x := fun u => by
    rw [State.reg_setReg_other (by decide), State.reg_setReg_same]
  have hhi : ∀ u : State, ((u.setReg (addrOf 0x03 0xE0) x).setReg (addrOf 0x03 0xE1) v).reg (addrOf 0x03 0xE1) = v := fun u =>
    State.reg_setReg_same ..
  unfold State.writeEpochHi
  rw [hx]
  refine ⟨?_, ?_, ?_, ?_⟩
  · cases l <;> exact hhi a
  · cases l <;> exact hlo a
  · cases l <;> rfl
  · cases l <;> exact ⟨_, rfl, rfl, rfl⟩

theorem execEpochHiWrite_claim (l : Link) (v : Word) (s : State) : Claims.epochHiWrite l v s := by
  intro h
  obtain ⟨a, ha, ht, -, hgranted⟩ := hostWrite_full h 0x03 0xE1 v rfl rfl rfl (Or.inr rfl)
  have hcommand : a.command l 0x03 0xE1 v = (a.writeEpochHi l v, none) := rfl
  rw [hcommand] at ht hgranted
  obtain ⟨hhi, hlo, hspent, e, hinbox, hpage, hcls⟩ := writeEpochHi_effect a l v
  have hheld : (a.link l).epochLo = (s.link l).epochLo := LinkSt.epochLo_of_session (session_of_twin ha l)
  refine ⟨_, rfl, hgranted rfl, ?_, ?_, ?_, e, ?_, hpage, hcls⟩
  · exact (reg_of_linksAside ht.1 _).trans hhi
  · exact (reg_of_linksAside ht.1 _).trans (hlo.trans (by rw [hheld]))
  · exact (LinkSt.epochLo_of_session (ht.2 l)).trans hspent
  · have hall : (s.hostWrite l 0x03 0xE1 v).rsm.inbox = s.rsm.inbox ++ [e] := by
      rw [rsm_of_aside ht.1, hinbox, rsm_of_twin ha]
    rw [hall, List.drop_left]
    exact List.mem_singleton_self e

/-! ### The crystal and the clock check -/

theorem execXtalLost_claim (s : State) : Claims.xtalLost s := by
  intro h
  refine ⟨_, if_neg (by rw [h]; exact Bool.false_ne_true), ?_, State.on_flag_okay (by decide) _, ?_⟩
  · exact (State.on_set_leaves (by decide) _ _).trans (State.on_setOn_okay (by decide) _ _)
  · exact raised_flagEvent (by rw [State.setOn_rsm]) _ _ _

theorem execXtalRegained_claim (s : State) : Claims.xtalRegained s := by
  intro h
  refine ⟨_, if_pos h, ?_, State.on_flag_okay (by decide) _, ?_⟩
  · exact (State.on_set_leaves (by decide) _ _).trans (State.on_setOn_okay (by decide) _ _)
  · show (((s.setOn F.THY_STAT_XTAL_LOST false).flag F.THY_IFLAG_XTAL)).reg _ = s.reg _
    unfold State.flag State.setOn
    rw [State.reg_set_other (by decide) (by decide), State.reg_set_other (by decide) (by decide)]

theorem absInt_gt_iff (dev : Int) (n : Nat) : (n : Int) < absInt dev ↔ (n : Int) < dev ∨ dev < -n := by
  unfold absInt
  omega

theorem execClockCheckWindow_claim (dev : Int) (s : State) : Claims.clockCheckWindow dev s := by
  intro h
  have hclock := fun u : State => (altersOf (alters_clockWindow u dev)).rsm (by decide +kernel)
  have hexec : exec (.clockCheckWindow dev) s = .next ((s.applyIf (decide (5000 < absInt dev)) fun s => s.listed 0x03 0 2).applyIf
      (s.applyIf (decide (5000 < absInt dev)) fun s => s.listed 0x03 0 2).hasB fun s => s.clockWindow dev) := if_pos h
  refine ⟨_, hexec, fun hdev => ?_, fun hlo hhi hB => ?_⟩
  · have hgt := (absInt_gt_iff dev 5000).mpr hdev
    rw [show s.applyIf (decide (5000 < absInt dev)) (fun s => s.listed 0x03 0 2) = s.listed 0x03 0 2 from if_pos (decide_eq_true hgt)]
    have hrsm : ((s.listed 0x03 0 2).applyIf (s.listed 0x03 0 2).hasB fun s => s.clockWindow dev).rsm = (s.listed 0x03 0 2).rsm := by
      unfold State.applyIf
      split
      · exact hclock _
      · rfl
    rw [hrsm]
    unfold State.listed State.raise
    rw [State.send_inbox, List.drop_left]
    exact ⟨_, List.mem_singleton_self _, rfl, rfl⟩
  · have hgt : ¬ 5000 < absInt dev := fun hgt => by
      have := (absInt_gt_iff dev 5000).mp hgt
      omega
    rw [show s.applyIf (decide (5000 < absInt dev)) (fun s => s.listed 0x03 0 2) = s from if_neg (by simpa using hgt)]
    exact if_neg (by rw [hB]; exact Bool.false_ne_true)

end Sys2Proof.Machine

/-- Settles O18: the time base read and set by the links, and the crystal and the clock check in the rows' own effects. -/
theorem timeBase : Obligations.TimeBase := by
  unfold Obligations.TimeBase
  exact ⟨Sys2Proof.Machine.execTimeLoRead_claim, Sys2Proof.Machine.execEpochLoWrite_claim, Sys2Proof.Machine.execEpochHiWrite_claim,
    Sys2Proof.Machine.execXtalLost_claim, Sys2Proof.Machine.execXtalRegained_claim, Sys2Proof.Machine.execClockCheckWindow_claim⟩
end

section
set_option Elab.async false
namespace Sys2Proof.Machine

/-- Die 0 has had no path since t = 0, has the SPI reply buffer, and party 24 waits for it: a number that the four bits of HOLDER do not
hold. -/
def dieBeforeWideParty : State :=
  (({ State.reset with
    stk := { State.reset.stk with lostSince := [(0, 0)] }
    flt := { State.reset.flt with leases := (List.replicate 16 ({} : LeaseSt)).set 1 { queue := [24] } } }).set
      (F.FLT_LEASE_HOLDER.at 1) 8).set (F.FLT_LEASE_STATE.at 1) 1

/-- The slot passes to that party, and HOLDER reads the lost die as before. -/
theorem revoked_slot_reads_die : ∀ t, exec (.dieUnreachable 0) dieBeforeWideParty = .next t → t.leaseHolder 1 = 8 + 0 := by
  have h : (match exec (.dieUnreachable 0) dieBeforeWideParty with
    | .next t => decide (t.leaseHolder 1 = 8 + 0)
    | _ => true) = true := by decide +kernel
  intro t ht
  rw [ht] at h
  exact of_decide_eq_true h

end Sys2Proof.Machine

open Sys2Proof Sys2Proof.Machine Host in
/-- Refutes O19: the claim on a lost die does not ask that the parties in a queue be numbers of the four bits of HOLDER; a slot
revoked from the die may pass to one that HOLDER shows as the die. -/
theorem not_stackLink : ¬ Obligations.StackLink := by
  intro h
  obtain ⟨-, -, -, hlost, -⟩ := h
  obtain ⟨t, ht, -, -, -, hrevoked, -⟩ := hlost 0 0 1 dieBeforeWideParty (by decide) (by decide) (by decide +kernel) (by decide)
  exact hrevoked (by decide +kernel) (revoked_slot_reads_die t ht)
end

section
set_option Elab.async false
namespace Sys2Proof.Machine

/-- A window that holds one suppressed record. -/
def closingWindow : Bucket := ⟨0, .flag 0, 0, 0, 0, 1, 0⟩

/-- Staging is full up to its last 4 KB, and the window is about to close. -/
def crowdedStaging : State := { State.reset with rsm := { State.reset.rsm with
  staged := [⟨1, 0, 0, .flag 0, List.replicate 15360 0⟩], buckets := [closingWindow] } }

/-- The summary is dropped: staging holds one record as before. -/
theorem crowdedStaging_drops_summary : ∀ t, exec .rateWindowClose crowdedStaging = .next t → t.rsm.staged.length = 1 := by
  have h : (match exec .rateWindowClose crowdedStaging with
    | .next t => decide (t.rsm.staged.length = 1)
    | _ => true) = true := by decide +kernel
  intro t ht
  rw [ht] at h
  exact of_decide_eq_true h

end Sys2Proof.Machine

open Sys2Proof Sys2Proof.Machine in
/-- Refutes O34: the claim on a window that closes asks for room in the record area, not in staging; its summary, of class 0, is dropped
where only the last 4 KB of staging are free. -/
theorem not_rosemaryRecords : ¬ Obligations.RosemaryRecords := by
  intro h
  obtain ⟨-, -, -, -, -, -, -, -, -, -, hclose⟩ := h
  obtain ⟨t, ht, -, -, -, hsummary⟩ := hclose closingWindow crowdedStaging rfl
  have hstaged := (hsummary (by decide) (Or.inl (by decide +kernel)) (by decide +kernel) (by decide +kernel)).1
  have hlength := congrArg List.length hstaged
  rw [List.length_append, List.length_map, List.length_map, crowdedStaging_drops_summary t ht] at hlength
  exact absurd hlength (by decide +kernel)
end

section
set_option Elab.async false
namespace Sys2Proof.Machine

/-- A motion cycle of axis 0 that ended at t = 0 with outcome 3. -/
def stoppedCycle : CycleEnd := ⟨0, 3, 0, 0, 0, 0, 0, 0, 0, 0, 0, 0, 0, 0⟩

/-- Two cycles wait for their ledger records, and the event that recorded their end waits for Rosemary. -/
def causeStillWaiting : State := { State.reset with
  cyl := { State.reset.cyl with buffer := [stoppedCycle, stoppedCycle] }
  rsm := { State.reset.rsm with inbox := [⟨0x41, .flag 1, 3, 0, 0, 0, [], false, none⟩] } }

/-- The event is taken first, and its SEQ goes to the cycle that still waits. -/
theorem waiting_cycle_gets_cause :
    ∀ t, exec .ledgerRecordWrite causeStillWaiting = .next t → t.cyl.buffer = [{ stoppedCycle with cause := 1 }] := by
  have h : (match exec .ledgerRecordWrite causeStillWaiting with
    | .next t => decide (t.cyl.buffer = [{ stoppedCycle with cause := 1 }])
    | _ => true) = true := by decide +kernel
  intro t ht
  rw [ht] at h
  exact of_decide_eq_true h

end Sys2Proof.Machine

open Sys2Proof Sys2Proof.Machine in
/-- Refutes O35: the claim on a ledger record says that the cycles behind it stay as they are, but an event that waits and recorded the
end of one of them is taken first and gives it its SEQ. -/
theorem not_snapshotsAndLedger : ¬ Obligations.SnapshotsAndLedger := by
  intro h
  obtain ⟨-, -, -, -, -, -, -, hrecord, -⟩ := h
  obtain ⟨t, ht, hbuffer, -⟩ := hrecord stoppedCycle [stoppedCycle] causeStillWaiting (by decide +kernel) rfl (by decide)
    (by decide +kernel) (by decide +kernel) (by decide +kernel) (Or.inl (by decide +kernel))
  rw [waiting_cycle_gets_cause t ht] at hbuffer
  exact absurd hbuffer (by decide)
end

section
set_option Elab.async false
namespace Sys2Proof.Machine

/-- A module without the G-die, in a safe stop because guard 0 is open: the words of axis 0 name brake 0 and a cycle is kept for it all the
same. -/
def cycleWithoutGdie : State :=
  ((((State.reset.setOn F.SYS_VARIANT_GDIE false).setOn F.SAF_STAT_SAFESTOP true).set F.SAF_GRD_G0 3).set (F.AX_CFG_BRK.on 0) 1).onAxis 0
    fun x => { x with cycle := some (State.reset.newCycle 0 1 0 []) }

end Sys2Proof.Machine

open Sys2Proof Sys2Proof.Machine Host in
/-- Refutes O47: the claim on TSTOP does not ask for a G-die; on a module without one the step changes nothing, whatever is kept for the
axis, and no release is withdrawn. -/
theorem not_guardsAndBrakes : ¬ Obligations.GuardsAndBrakes := by
  intro h
  obtain ⟨-, -, -, htimeout, -⟩ := h
  have still : exec (.safestopTimeout 0) cycleWithoutGdie = .next cycleWithoutGdie := rfl
  obtain ⟨t, ht, hwithdrawn, -⟩ := htimeout 0 0 cycleWithoutGdie (by decide) (by decide +kernel) (.inl (by decide +kernel)) (by decide)
    (by decide) (by decide +kernel)
  rw [still] at ht
  obtain rfl := Outcome.next.inj ht
  exact absurd hwithdrawn (by decide)
end

section
set_option Elab.async false
namespace Sys2Proof.Machine

/-- In RUN with the limit frame enabled, and both cores held in reset. -/
def limitFrameOfHeldCores : State :=
  ({ State.reset with pwr := { State.reset.pwr with phase := .run } }.set F.FLT_MODE_MODE 3).setOn F.PRT_CAN_EN true

end Sys2Proof.Machine

open Sys2Proof Sys2Proof.Machine Host in
/-- Refutes O28: the claim on the limit frame excludes a freeze alone; cores that are held in reset send no frame either, and the sequence
stays. -/
theorem not_orderlyPath : ¬ Obligations.OrderlyPath := by
  intro h
  obtain ⟨-, -, -, -, -, hframe, -⟩ := h
  have silent : exec .limitFrame limitFrameOfHeldCores = .next limitFrameOfHeldCores := rfl
  obtain ⟨t, ht, hseq, -⟩ := hframe limitFrameOfHeldCores (by decide +kernel) (by decide) (by decide +kernel)
  rw [silent] at ht
  obtain rfl := Outcome.next.inj ht
  exact absurd hseq (by decide)
end

section
set_option Elab.async false
namespace Sys2Proof.Machine

/-- Channel LS0 is on and carries 0.5 A under a limit of 1 A; a staged commit lowers the limit to 0.1 A. -/
def limitAboutToFall : State :=
  { State.reset.set F.LSA_CH_ILIM 10 with
    ls := { State.reset.ls with chans := [{ state := 1, present := 500 }] }
    commit := { State.reset.commit with accepted := some {
      pages := [0x51], words := [(F.LSA_CH_ILIM.addr, 1)], written := [], seq := 1, link := 0, time := 0, last := none } } }

/-- The step notes since when the channel limits (R368). -/
theorem commitStep_notes_limiting : ∀ t, exec .commitStep limitAboutToFall = .next t → t.ls ≠ limitAboutToFall.ls := by
  have h : (match exec .commitStep limitAboutToFall with
    | .next t => decide ((t.chan 0).limitAt = some 1000)
    | _ => true) = true := by decide +kernel
  intro t ht hsame
  rw [ht] at h
  have hnoted : (t.chan 0).limitAt = some 1000 := of_decide_eq_true h
  rw [State.chan, hsame] at hnoted
  exact absurd hnoted (by decide)

end Sys2Proof.Machine

open Sys2Proof Sys2Proof.Machine Host in
/-- Refutes O53: the frame of a commit step lists what the load switches keep; a step that lowers the limit of a channel beneath its
current notes the moment there. -/
theorem not_framesOfRequests : ¬ Obligations.FramesOfRequests := by
  intro h
  obtain ⟨-, -, -, hstep, -⟩ := h
  obtain ⟨t, ht, hparts, -⟩ := hstep _ 0 limitAboutToFall rfl
  exact commitStep_notes_limiting t ht (hparts .ls (by decide))
end

section
/-! The sealing mailbox: what turns a message away, and what an accepted one leaves (R327 to R330). -/
set_option Elab.async false
namespace Sys2Proof.Machine
open Host

/-! ### The CRC-32 of a message -/

theorem crc32Bit_lt {c : Nat} (h : c < 2 ^ 32) : crc32Bit 0xEDB88320 c < 2 ^ 32 := by
  unfold crc32Bit
  split
  · exact Nat.xor_lt_two_pow (by omega) (by decide)
  · omega

theorem iter_crc32Bit_lt (n : Nat) {c : Nat} (h : c < 2 ^ 32) : iter (crc32Bit 0xEDB88320) n c < 2 ^ 32 := by
  induction n generalizing c with
  | zero => exact h
  | succ n ih => exact ih (crc32Bit_lt h)

theorem crc32_lt (l : List Nat) : crc32 l < 2 ^ 32 := by
  unfold crc32 crc32With
  refine Nat.xor_lt_two_pow (foldl_keeps (· < 2 ^ 32) (fun c b h => iter_crc32Bit_lt 8 ?_) l (by decide)) (by decide)
  exact Nat.xor_lt_two_pow h (Nat.lt_of_lt_of_le (Nat.mod_lt b (by decide)) (by decide))

/-- A field that is a whole word reads it. -/
theorem bitsOf_word (v : Word) : bitsOf v 31 0 = v.toNat := by
  have := v.isLt
  unfold bitsOf
  omega

theorem mcount_word (s : State) : s.get F.BAY_MCOUNT_COUNT = (s.reg F.BAY_MCOUNT_COUNT.addr).toNat := bitsOf_word _

/-! ### Messages turned away -/

/-- A message that is not carried out leaves the count, the seal, the log, the code and what was set or staged. -/
structure MailKept (s t : State) : Prop where
  count : t.get F.BAY_MCOUNT_COUNT = s.get F.BAY_MCOUNT_COUNT
  sealed : t.on F.BAY_STAT_SEALED = s.on F.BAY_STAT_SEALED
  log : t.bay.log = s.bay.log
  code : t.bay.code = s.bay.code
  toSet : t.bay.toSet = s.bay.toSet
  staging : t.bay.staging = s.bay.staging
  nextImage : t.bay.nextImage = s.bay.nextImage

theorem mailKept_mboxResult {s u : State} (h : MailKept s u) (r : Nat) : MailKept s (u.mboxResult r) where
  count := (State.get_set_leaves (by decide) u r).trans h.count
  sealed := (State.on_set_leaves (by decide) u r).trans h.sealed
  log := by unfold State.mboxResult; rw [State.set_bay]; exact h.log
  code := by unfold State.mboxResult; rw [State.set_bay]; exact h.code
  toSet := by unfold State.mboxResult; rw [State.set_bay]; exact h.toSet
  staging := by unfold State.mboxResult; rw [State.set_bay]; exact h.staging
  nextImage := by unfold State.mboxResult; rw [State.set_bay]; exact h.nextImage

theorem mboxResult_result (u : State) {r : Nat} (h : r < 256) : (u.mboxResult r).get F.BAY_MBSTAT_RESULT = r :=
  State.get_set_lt (by decide) h u

/-- A wrong code is counted. -/
def State.codeTried (s : State) : State := s.onBay fun b => { b with tries := b.tries + 1 }

/-- The lockout that the fifth wrong code starts. -/
def State.codeLocked (s : State) : State :=
  (s.codeTried.onBay fun b => { b with tries := 0, lockedUntil := some (s.now + 3600000000) }).setOn F.BAY_STAT_LOCKOUT true

theorem wrongCode_few {s : State} (h : s.bay.tries < 4) : s.wrongCode = s.codeTried.mboxResult 3 :=
  congrArg (State.mboxResult · 3) (if_neg (show ¬ 5 ≤ s.bay.tries + 1 by omega))

theorem wrongCode_fifth {s : State} (h : 4 ≤ s.bay.tries) : s.wrongCode = s.codeLocked.mboxResult 3 :=
  congrArg (State.mboxResult · 3) (if_pos (show 5 ≤ s.bay.tries + 1 by omega))

theorem wrongCode_kept (s : State) : MailKept s s.wrongCode ∧ s.wrongCode.get F.BAY_MBSTAT_RESULT = 3 := by
  by_cases h : s.bay.tries < 4
  · rw [wrongCode_few h]
    have hkept : MailKept s s.codeTried := ⟨rfl, rfl, rfl, rfl, rfl, rfl, rfl⟩
    exact ⟨mailKept_mboxResult hkept 3, mboxResult_result _ (by decide)⟩
  · rw [wrongCode_fifth (by omega)]
    refine ⟨mailKept_mboxResult ?_ 3, mboxResult_result _ (by decide)⟩
    unfold State.codeLocked
    have hget : ∀ (f : BaySt → BaySt) (g : Fld), (s.codeTried.onBay f).get g = s.get g := fun _ _ => rfl
    have hon : ∀ (f : BaySt → BaySt) (g : Fld), (s.codeTried.onBay f).on g = s.on g := fun _ _ => rfl
    refine ⟨?_, ?_, ?_, ?_, ?_, ?_, ?_⟩
    · rw [State.get_setOn_leaves (by decide)]; exact hget _ _
    · rw [State.on_setOn_leaves (by decide)]; exact hon _ _
    all_goals rw [State.setOn_bay]; rfl

/-- R329: the fifth wrong code in a row starts a lockout. -/
theorem wrongCode_locks (s : State) (h : 4 ≤ s.bay.tries) :
    s.wrongCode.bay.lockedUntil = some (s.now + 3600000000) ∧ s.wrongCode.on F.BAY_STAT_LOCKOUT = true := by
  rw [wrongCode_fifth h]
  unfold State.mboxResult State.codeLocked
  rw [State.set_bay, State.setOn_bay, State.on_set_leaves (by decide)]
  exact ⟨rfl, State.on_setOn_okay (by decide) _ _⟩

theorem wrongCode_counts (s : State) (h : s.bay.tries < 4) :
    s.wrongCode.bay.tries = s.bay.tries + 1 ∧ s.wrongCode.bay.lockedUntil = s.bay.lockedUntil := by
  rw [wrongCode_few h]
  unfold State.mboxResult
  rw [State.set_bay]
  exact ⟨rfl, rfl⟩

/-- The tries start again with a right code. -/
def State.codeTaken (s : State) : State := s.onBay fun b => { b with tries := 0 }

/-- The rows of R329 on a message with the right code. -/
def State.mailRow (s : State) (m : List Word) (verified : Bool) : Nat :=
  let op := bitsOf (msgWord m 0) 31 24
  if (msgWord m 2).toNat ≠ s.get F.BAY_MCOUNT_COUNT then 4
  else if !s.opAllowed op then 5
  else if op = 2 ∧ paramInRange (bitsOf (msgWord m 0) 7 0) (msgWord m 3) = false then 6
  else if (1016 ≤ s.get F.BAY_LOGSTAT_USED ∧ op ≠ 3) ∨ (1024 ≤ s.get F.BAY_LOGSTAT_USED ∧ op = 3) then 7
  else if op = 6 ∧ verified = false then 9
  else 1

/-- What becomes of a message with the right code: it is carried out in row 1 alone. -/
theorem mailbox_row {s : State} {m : List Word} {verified : Bool} {version : Word} (hB : s.hasB = true)
    (hopen : s.bay.lockedUntil = none) (hcrc : (msgWord m 7).toNat = msgCrc m) (hcode : msgWord m 1 = s.bay.code) :
    s.mailbox m verified version = if s.mailRow m verified = 1 then (s.codeTaken.mboxRun m version).mboxResult 1
      else s.codeTaken.mboxResult (s.mailRow m verified) := by
  have hgate : s.mailbox m verified version = _ := (if_neg (by rw [hB]; decide)).trans ((if_neg (by rw [hopen]; decide)).trans
    ((if_neg (fun h => h hcrc)).trans (if_neg (fun h => h hcode))))
  rw [hgate]
  unfold State.mailRow
  by_cases h4 : (msgWord m 2).toNat ≠ s.get F.BAY_MCOUNT_COUNT
  · rw [if_pos h4]; exact if_pos h4
  by_cases h5 : (!s.opAllowed (bitsOf (msgWord m 0) 31 24)) = true
  · rw [if_neg h4, if_pos h5]; exact (if_neg h4).trans (if_pos h5)
  by_cases h6 : bitsOf (msgWord m 0) 31 24 = 2 ∧ paramInRange (bitsOf (msgWord m 0) 7 0) (msgWord m 3) = false
  · rw [if_neg h4, if_neg h5, if_pos h6]; exact (if_neg h4).trans ((if_neg h5).trans (if_pos h6))
  by_cases h7 : (1016 ≤ s.get F.BAY_LOGSTAT_USED ∧ bitsOf (msgWord m 0) 31 24 ≠ 3) ∨
      (1024 ≤ s.get F.BAY_LOGSTAT_USED ∧ bitsOf (msgWord m 0) 31 24 = 3)
  · rw [if_neg h4, if_neg h5, if_neg h6, if_pos h7]
    exact (if_neg h4).trans ((if_neg h5).trans ((if_neg h6).trans (if_pos h7)))
  by_cases h9 : bitsOf (msgWord m 0) 31 24 = 6 ∧ verified = false
  · rw [if_neg h4, if_neg h5, if_neg h6, if_neg h7, if_pos h9]
    exact (if_neg h4).trans ((if_neg h5).trans ((if_neg h6).trans ((if_neg h7).trans (if_pos h9))))
  · rw [if_neg h4, if_neg h5, if_neg h6, if_neg h7, if_neg h9]
    exact (if_neg h4).trans ((if_neg h5).trans ((if_neg h6).trans ((if_neg h7).trans (if_neg h9))))

/-- The rows as the claims give them, for a message with the right code whose signature is not checked. -/
theorem mailboxCode_row {s : State} {m : List Word} (hopen : s.bay.lockedUntil = none) (hcrc : (msgWord m 7).toNat = msgCrc m)
    (hcode : msgWord m 1 = s.bay.code) : Claims.mailboxCode m s = s.mailRow m false := by
  have hcount : (msgWord m 2).toNat ≠ s.get F.BAY_MCOUNT_COUNT ↔ msgWord m 2 ≠ s.reg F.BAY_MCOUNT_COUNT.addr := by
    rw [mcount_word, ne_eq, ne_eq, BitVec.toNat_inj]
  unfold Claims.mailboxCode State.mailRow
  rw [if_neg (fun h => h hopen), if_neg (fun h => h hcrc), if_neg (fun h => h hcode)]
  simp only [hcount, Bool.not_eq_true', and_true]

/-- A message that a row of R329 turns away: a wrong code is counted; any other leaves the row's result. -/
theorem mailbox_turnedAway {s : State} {m : List Word} (hB : s.hasB = true) (hcode : Claims.mailboxCode m s ≠ 1) :
    (Claims.mailboxCode m s = 3 ∧ s.bay.lockedUntil = none ∧ ∀ version, s.mailbox m false version = s.wrongCode) ∨
      (Claims.mailboxCode m s ≠ 3 ∧ Claims.mailboxCode m s < 256 ∧
        ∃ u, MailKept s u ∧ ∀ version, s.mailbox m false version = u.mboxResult (Claims.mailboxCode m s)) := by
  have hB' : ¬ (!s.hasB) = true := by rw [hB]; decide
  have hself : MailKept s s := ⟨rfl, rfl, rfl, rfl, rfl, rfl, rfl⟩
  by_cases h8 : s.bay.lockedUntil = none
  · by_cases h2 : (msgWord m 7).toNat = msgCrc m
    · by_cases h3 : msgWord m 1 = s.bay.code
      · have hrow : s.mailRow m false ≠ 3 ∧ s.mailRow m false < 256 := by
          unfold State.mailRow
          dsimp only
          split_ifs <;> decide
        rw [mailboxCode_row h8 h2 h3] at hcode ⊢
        refine .inr ⟨hrow.1, hrow.2, s.codeTaken, ⟨rfl, rfl, rfl, rfl, rfl, rfl, rfl⟩, fun version => ?_⟩
        rw [mailbox_row hB h8 h2 h3, if_neg hcode]
      · have hc : Claims.mailboxCode m s = 3 :=
          (if_neg (fun h => h h8)).trans ((if_neg (fun h => h h2)).trans (if_pos h3))
        exact .inl ⟨hc, h8, fun _ => (if_neg hB').trans ((if_neg (by rw [h8]; decide)).trans ((if_neg (fun h => h h2)).trans (if_pos h3)))⟩
    · have hc : Claims.mailboxCode m s = 2 := (if_neg (fun h => h h8)).trans (if_pos h2)
      rw [hc]
      exact .inr ⟨by decide, by decide, s, hself, fun _ => (if_neg hB').trans ((if_neg (by rw [h8]; decide)).trans (if_pos h2))⟩
  · have hc : Claims.mailboxCode m s = 8 := if_pos h8
    rw [hc]
    exact .inr ⟨by decide, by decide, s, hself, fun _ => (if_neg hB').trans (if_pos (Option.isSome_iff_ne_none.mpr h8))⟩

/-- The state in which island 7 finds a message. -/
def State.mailed (s : State) (m : List Word) : State := s.onBay fun b => { b with mbox := m.take 7 ++ [0] }

theorem submitMailbox_run {s : State} (h : s.running = true) (m : List Word) (verified : Bool) (version : Word) :
    s.submitMailbox m verified version = (s.mailed m).mailbox m verified version := if_pos h

theorem execBayMailboxReject_claim (m : List Word) (s : State) : Claims.bayMailboxReject m s := by
  intro hB hrun hcode
  have hsame : Claims.mailboxCode m (s.mailed m) = Claims.mailboxCode m s := rfl
  refine ⟨_, congrArg Outcome.next (submitMailbox_run hrun m false 0), ?_⟩
  rcases mailbox_turnedAway (s := s.mailed m) hB hcode with ⟨h3, hopen, ht⟩ | ⟨h3, hlt, u, hkept, ht⟩
  · rw [hsame] at h3
    obtain ⟨hkept, hresult⟩ := wrongCode_kept (s.mailed m)
    rw [ht 0, h3]
    exact ⟨hresult, hkept.count, hkept.sealed, hkept.log, hkept.code, hkept.toSet, hkept.staging,
      hkept.nextImage, fun _ h => wrongCode_locks (s.mailed m) h, fun _ h =>
      ⟨(wrongCode_counts (s.mailed m) h).1, (wrongCode_counts (s.mailed m) h).2.trans hopen⟩⟩
  · rw [hsame] at h3 hlt ht
    have hkept' := mailKept_mboxResult hkept (Claims.mailboxCode m s)
    rw [ht 0]
    exact ⟨mboxResult_result u hlt, hkept'.count, hkept'.sealed, hkept'.log, hkept'.code, hkept'.toSet, hkept'.staging,
      hkept'.nextImage, fun h => absurd h h3, fun h => absurd h h3⟩

/-- A message whose check of the signature fails or is not made is decided without its version. -/
theorem mailbox_unverified (s : State) (m : List Word) (v w : Word) (h : bitsOf (msgWord m 0) 31 24 = 6) :
    s.mailbox m false v = s.mailbox m false w := by
  cases hB : s.hasB with
  | false => exact (if_pos (by rw [hB]; rfl)).trans (if_pos (by rw [hB]; rfl)).symm
  | true =>
    have hnot : Claims.mailboxCode m s ≠ 1 := by
      unfold Claims.mailboxCode
      rw [if_pos h]
      split_ifs <;> decide
    rcases mailbox_turnedAway hB hnot with ⟨-, -, ht⟩ | ⟨-, -, u, -, ht⟩ <;> rw [ht, ht]

theorem execBayLockoutEnd_claim (e : Nat) (s : State) : Claims.bayLockoutEnd e s := by
  intro h
  have hexec : exec .bayLockoutEnd s = .next (((s.advanceTo e).onBay fun b => { b with lockedUntil := none }).setOn
      F.BAY_STAT_LOCKOUT false) := by
    show execBayLockoutEnd s = _
    unfold execBayLockoutEnd
    rw [h]
  refine ⟨_, hexec, ?_, State.on_setOn_okay (by decide) _ _, ?_⟩
  · rw [State.setOn_bay]; rfl
  · rw [State.setOn_now]; rfl

end Sys2Proof.Machine

open Sys2Proof Sys2Proof.Machine Host in
/-- Settles O37: one decision serves every row that submits a message, and it turns messages away by the rows of R329. -/
theorem bayMailboxTurnedAway : Obligations.BayMailboxTurnedAway := by
  unfold Obligations.BayMailboxTurnedAway
  refine ⟨execBayMailboxReject_claim, fun _ _ => rfl, fun _ _ _ => rfl, fun _ _ => rfl, fun _ _ => rfl, fun _ _ => rfl,
    fun rest version s => ?_, execBayLockoutEnd_claim⟩
  show Outcome.next (s.submitMailbox _ _ _) = Outcome.next (s.submitMailbox _ _ _)
  unfold State.submitMailbox
  split
  · exact congrArg Outcome.next (mailbox_unverified _ _ _ _ (show bitsOf (BitVec.ofNat 32 (6 * 2 ^ 24 + 0)) 31 24 = 6 by decide))
  · rfl
end

section
/-! Messages that the mailbox carries out (R328, R330). -/
set_option Elab.async false
namespace Sys2Proof.Machine
open Host

/-! ### A message in order -/

section
variable {s : State} {op param : Nat} {a b c d : Word}

theorem msgWord_mail : msgWord (message op param (Claims.mail s op param a b c d)) 0 = BitVec.ofNat 32 (op * 2 ^ 24 + param) ∧
    msgWord (message op param (Claims.mail s op param a b c d)) 1 = s.bay.code ∧
    msgWord (message op param (Claims.mail s op param a b c d)) 2 = s.reg F.BAY_MCOUNT_COUNT.addr ∧
    msgWord (message op param (Claims.mail s op param a b c d)) 3 = a ∧
    msgWord (message op param (Claims.mail s op param a b c d)) 4 = b ∧
    msgWord (message op param (Claims.mail s op param a b c d)) 5 = c ∧
    msgWord (message op param (Claims.mail s op param a b c d)) 6 = d := ⟨rfl, rfl, rfl, rfl, rfl, rfl, rfl⟩

theorem msgCrc_mail : (msgWord (message op param (Claims.mail s op param a b c d)) 7).toNat =
    msgCrc (message op param (Claims.mail s op param a b c d)) := by
  show (BitVec.ofNat 32 (crc32 _)).toNat = crc32 _
  rw [BitVec.toNat_ofNat]
  exact Nat.mod_eq_of_lt (crc32_lt _)

theorem op_mail (hop : op < 256) (hparam : param < 256) :
    bitsOf (msgWord (message op param (Claims.mail s op param a b c d)) 0) 31 24 = op ∧
      bitsOf (msgWord (message op param (Claims.mail s op param a b c d)) 0) 7 0 = param := by
  rw [msgWord_mail.1]
  unfold bitsOf
  rw [BitVec.toNat_ofNat]
  constructor <;> omega

/-- The state in which a message in order is carried out: the words are in the mailbox, and no try with a wrong code counts. -/
def State.mailReady (s : State) (m : List Word) : State := (s.mailed m).codeTaken

/-- A message in order that the seal, the parameter and the log let pass is carried out. -/
theorem submitMailbox_accepted {verified : Bool} {version : Word} (hB : s.hasB = true) (hrun : s.running = true)
    (hopen : s.bay.lockedUntil = none) (hop : op < 256) (hparam : param < 256) (hallowed : s.opAllowed op = true)
    (hrange : op = 2 → paramInRange param a = true) (hused : s.get F.BAY_LOGSTAT_USED < if op = 3 then 1024 else 1016)
    (hverified : op = 6 → verified = true) :
    s.submitMailbox (message op param (Claims.mail s op param a b c d)) verified version =
      ((s.mailReady (message op param (Claims.mail s op param a b c d))).mboxRun (message op param (Claims.mail s op param a b c d))
        version).mboxResult 1 := by
  obtain ⟨h31, h7⟩ := op_mail (s := s) (a := a) (b := b) (c := c) (d := d) hop hparam
  obtain ⟨-, h1, h2, h3, -⟩ := msgWord_mail (s := s) (op := op) (param := param) (a := a) (b := b) (c := c) (d := d)
  have hcrc := msgCrc_mail (s := s) (op := op) (param := param) (a := a) (b := b) (c := c) (d := d)
  generalize message op param (Claims.mail s op param a b c d) = m at *
  have hrow : (s.mailed m).mailRow m verified = 1 := by
    have hcount : ¬ (msgWord m 2).toNat ≠ (s.mailed m).get F.BAY_MCOUNT_COUNT := by
      rw [h2]; exact fun h => h (mcount_word s).symm
    unfold State.mailRow
    rw [if_neg hcount, h31, h7, h3, show (s.mailed m).opAllowed op = true from hallowed,
      show (s.mailed m).get F.BAY_LOGSTAT_USED = s.get F.BAY_LOGSTAT_USED from rfl, if_neg (by decide), if_neg, if_neg, if_neg]
    · rintro ⟨h, h'⟩
      rw [hverified h] at h'
      cases h'
    · split at hused <;> omega
    · rintro ⟨h, h'⟩
      rw [hrange h] at h'
      cases h'
  rw [submitMailbox_run hrun, mailbox_row (s := s.mailed m) hB hopen hcrc h1, if_pos hrow]
  rfl
end

/-! ### What the operations change -/

/-- What Bay keeps once an entry is appended to its log. -/
def State.withEntry (u : State) (kind param : Nat) (old new : Word) : BaySt :=
  { u.bay with log := (u.get F.BAY_LOGSTAT_USED, [u.reg F.BAY_MCOUNT_COUNT.addr, BitVec.ofNat 32 u.now,
      BitVec.ofNat 32 (kind * 2 ^ 24 + param * 65536 + u.now / 2 ^ 32 % 65536), old, new, u.bay.sealId]) :: u.bay.log }

/-- An entry of the metrological log, with room for it. -/
structure Logged (u t : State) (kind param : Nat) (old new : Word) : Prop where
  used : t.get F.BAY_LOGSTAT_USED = u.get F.BAY_LOGSTAT_USED + 1
  newest : t.get F.BAY_LOGSTAT_NEWEST = u.get F.BAY_LOGSTAT_USED % 1024
  full : t.on F.BAY_STAT_LOGFULL = decide (1016 ≤ u.get F.BAY_LOGSTAT_USED + 1)
  bay : t.bay = u.withEntry kind param old new
  kept : ∀ f : Fld, f.addr ≠ F.BAY_LOGSTAT_USED.addr → f.addr ≠ F.BAY_STAT_LOGFULL.addr → f.addr ≠ addrOf 0x0A 7 →
    t.reg f.addr = u.reg f.addr
  sealed : t.on F.BAY_STAT_SEALED = u.on F.BAY_STAT_SEALED

theorem logged_bayLog {u : State} (h : u.get F.BAY_LOGSTAT_USED < 1024) (kind param : Nat) (old new : Word) :
    Logged u (u.bayLog kind param old new) kind param old new := by
  have heq : u.bayLog kind param old new = ((({ u with bay := u.withEntry kind param old new } : State).set F.BAY_LOGSTAT_USED
      (u.get F.BAY_LOGSTAT_USED + 1)).set F.BAY_LOGSTAT_NEWEST (u.get F.BAY_LOGSTAT_USED % 1024)).setOn F.BAY_STAT_LOGFULL
        (decide (1016 ≤ u.get F.BAY_LOGSTAT_USED + 1)) := if_neg (Nat.not_le_of_lt h)
  rw [heq]
  have hreg : ∀ x, ({ u with bay := u.withEntry kind param old new } : State).reg x = u.reg x := fun _ => rfl
  have hon : ∀ f, ({ u with bay := u.withEntry kind param old new } : State).on f = u.on f := fun _ => rfl
  have hbay : ({ u with bay := u.withEntry kind param old new } : State).bay = u.withEntry kind param old new := rfl
  generalize ({ u with bay := u.withEntry kind param old new } : State) = v at *
  refine ⟨?_, ?_, State.on_setOn_okay (by decide) _ _, ?_, fun f h1 h2 h3 => ?_, ?_⟩
  · rw [State.get_setOn_leaves (by decide), State.get_set_leaves (by decide)]
    exact State.get_set_lt (by decide) (show _ < 2 ^ 11 by omega) _
  · rw [State.get_setOn_leaves (by decide)]
    exact State.get_set_lt (by decide) (Nat.mod_lt _ (by decide)) _
  · rw [State.setOn_bay, State.set_bay, State.set_bay]; exact hbay
  · unfold State.setOn
    rw [State.reg_set_other h2 h3, State.reg_set_other (f := F.BAY_LOGSTAT_NEWEST) h1 h3,
      State.reg_set_other (f := F.BAY_LOGSTAT_USED) h1 h3]
    exact hreg _
  · rw [State.on_setOn_leaves (by decide), State.on_set_leaves (by decide), State.on_set_leaves (by decide)]
    exact hon _

/-- What the accepted operations leave where a parameter or the image changes: the test registers at zero and the count higher. -/
def State.counted (u : State) : State := u.zeroTest.mcount

theorem get_counted {u : State} {g : Fld} (h1 : Fld.leaves F.BAY_TIMP_WH g = true) (h2 : Fld.leaves F.BAY_TEXP_WH g = true)
    (h3 : Fld.leaves F.BAY_MCOUNT_COUNT g = true) : u.counted.get g = u.get g :=
  (State.get_set_leaves h3 _ _).trans ((State.get_set_leaves h2 _ _).trans (State.get_set_leaves h1 _ _))

theorem on_counted {u : State} {g : Fld} (h1 : Fld.leaves F.BAY_TIMP_WH g = true) (h2 : Fld.leaves F.BAY_TEXP_WH g = true)
    (h3 : Fld.leaves F.BAY_MCOUNT_COUNT g = true) : u.counted.on g = u.on g :=
  (State.on_set_leaves h3 _ _).trans ((State.on_set_leaves h2 _ _).trans (State.on_set_leaves h1 _ _))

theorem mcount_count (u : State) : u.mcount.get F.BAY_MCOUNT_COUNT = min (u.get F.BAY_MCOUNT_COUNT + 1) 0xFFFFFFFF := by
  have hlt : min (u.get F.BAY_MCOUNT_COUNT + 1) 0xFFFFFFFF < 4294967296 := by omega
  exact State.get_set_lt (by decide) (Nat.lt_of_lt_of_eq hlt (by decide)) u

theorem counted_count (u : State) : u.counted.get F.BAY_MCOUNT_COUNT = min (u.get F.BAY_MCOUNT_COUNT + 1) 0xFFFFFFFF := by
  have hzero : u.zeroTest.get F.BAY_MCOUNT_COUNT = u.get F.BAY_MCOUNT_COUNT :=
    (State.get_set_leaves (by decide) _ _).trans (State.get_set_leaves (by decide) _ _)
  exact (mcount_count _).trans (by rw [hzero])

theorem get_zeroTest (u : State) (g : Fld) : u.zeroTest.get g = ((u.set F.BAY_TIMP_WH 0).set F.BAY_TEXP_WH 0).get g := rfl

theorem counted_test (u : State) : u.counted.get F.BAY_TIMP_WH = 0 ∧ u.counted.get F.BAY_TEXP_WH = 0 := by
  unfold State.counted State.mcount
  rw [State.get_set_leaves (by decide), State.get_set_leaves (by decide), get_zeroTest, get_zeroTest, State.get_set_leaves (by decide)]
  exact ⟨State.get_set_lt (by decide) (by decide) _, State.get_set_lt (by decide) (by decide) _⟩

theorem counted_reg (u : State) {x : Nat} (h1 : x ≠ F.BAY_TIMP_WH.addr) (h2 : x ≠ F.BAY_TEXP_WH.addr)
    (h3 : x ≠ F.BAY_MCOUNT_COUNT.addr) (h7 : x ≠ addrOf 0x0A 7) : u.counted.reg x = u.reg x :=
  (State.reg_set_other h3 h7 _ _).trans ((State.reg_set_other (f := F.BAY_TEXP_WH) h2 h7 _ _).trans
    (State.reg_set_other (f := F.BAY_TIMP_WH) h1 h7 _ _))

theorem counted_now (u : State) : u.counted.now = u.now :=
  (State.set_now _ _ _).trans ((State.set_now _ _ _).trans (State.set_now _ _ _))

/-- Bay's own memory once the test registers are zero. -/
theorem counted_bay (u : State) : u.counted.bay = { u.bay with rems := (u.bay.rems.set 2 0).set 3 0 } := by
  refine (State.set_bay _ _ _).trans ?_
  unfold State.zeroTest State.onBay
  dsimp only
  rw [State.set_bay, State.set_bay]

theorem setSeal_sealed (u : State) (v : Bool) : (u.setSeal v).on F.BAY_STAT_SEALED = v :=
  (State.on_flag_leaves (by decide) _).trans ((State.on_setOn_leaves (by decide) _ _).trans (State.on_setOn_okay (by decide) _ _))

theorem setSeal_flag (u : State) (v : Bool) : (u.setSeal v).on F.BAY_IFLAG_SEAL = true := State.on_flag_okay (by decide) _

theorem get_setSeal {u : State} {v : Bool} {g : Fld} (h1 : Fld.leaves F.BAY_STAT_SEALED g = true)
    (h2 : Fld.leaves F.BAY_PSTAT_SEALED g = true) (h3 : Fld.leaves F.BAY_IFLAG_SEAL g = true) : (u.setSeal v).get g = u.get g :=
  (State.get_flag_leaves h3 _).trans ((State.get_setOn_leaves h2 _ _).trans (State.get_setOn_leaves h1 _ _))

theorem setSeal_bay (u : State) (v : Bool) : (u.setSeal v).bay = u.bay :=
  (State.flag_bay _ _).trans ((State.setOn_bay _ _ _).trans (State.setOn_bay _ _ _))

theorem setSeal_now (u : State) (v : Bool) : (u.setSeal v).now = u.now :=
  (State.flag_now _ _).trans ((State.setOn_now _ _ _).trans (State.setOn_now _ _ _))

namespace Logged
variable {u t : State} {kind param : Nat} {old new : Word} (h : Logged u t kind param old new) {g : Fld}
include h

/-- The fields outside the log's own words stay. -/
theorem get (h1 : g.addr ≠ F.BAY_LOGSTAT_USED.addr) (h2 : g.addr ≠ F.BAY_STAT_LOGFULL.addr) (h3 : g.addr ≠ addrOf 0x0A 7) :
    t.get g = u.get g := congrArg (bitsOf · g.hi g.lo) (h.kept g h1 h2 h3)

theorem on (h1 : g.addr ≠ F.BAY_LOGSTAT_USED.addr) (h2 : g.addr ≠ F.BAY_STAT_LOGFULL.addr) (h3 : g.addr ≠ addrOf 0x0A 7) :
    t.on g = u.on g := congrArg (· == 1) (h.get h1 h2 h3)
end Logged

end Sys2Proof.Machine
end

section
/-! The six messages that the mailbox carries out, and what each leaves (R328, R330). -/
set_option Elab.async false
namespace Sys2Proof.Machine
open Host

theorem get_mboxResult {v : State} {g : Fld} (h : Fld.leaves F.BAY_MBSTAT_RESULT g = true) (r : Nat) : (v.mboxResult r).get g = v.get g :=
  State.get_set_leaves h v r

theorem on_mboxResult {v : State} {g : Fld} (h : Fld.leaves F.BAY_MBSTAT_RESULT g = true) (r : Nat) : (v.mboxResult r).on g = v.on g :=
  State.on_set_leaves h v r

theorem bay_mboxResult (v : State) (r : Nat) : (v.mboxResult r).bay = v.bay := State.set_bay _ _ _

theorem reg_mboxResult {v : State} {x : Nat} (h : x ≠ F.BAY_MBSTAT_RESULT.addr) (h7 : x ≠ addrOf 0x0A 7) (r : Nat) :
    (v.mboxResult r).reg x = v.reg x := State.reg_set_other h h7 v r

section
variable {u : State} {m : List Word} {version : Word}

/-- What Bay is to set with the next interval once a parameter is set. -/
def State.toBeSet (u : State) (p : Nat) (v : Word) : State :=
  u.onBay fun b => { b with toSet := (p, v) :: b.toSet.filter fun e => e.1 != p }

/-- Bay with a new seal code and seal ID. -/
def State.sealedWith (u : State) (code sid : Word) : State := u.onBay fun b => { b with code := code, sealId := sid }

/-- Bay with the image that is staged as that of the next start-up. -/
def State.imageTaken (u : State) (version : Word) : State :=
  u.onBay fun b => { b with staging := none, nextImage := some (u.bay.staging.getD [], version) }

/-- The CRC-32 of an image. -/
def imageCrc (l : List Word) : Word := BitVec.ofNat 32 (crc32 (l.flatMap bytesLE))

theorem mboxRun_break (h : bitsOf (msgWord m 0) 31 24 = 1) : u.mboxRun m version = (u.setSeal false).counted.bayLog 1 0 0 0 := by
  unfold State.mboxRun
  rw [h]
  rfl

theorem mboxRun_set (h : bitsOf (msgWord m 0) 31 24 = 2) {p : Nat} (hp : bitsOf (msgWord m 0) 7 0 = p) : u.mboxRun m version =
    ((u.toBeSet p (msgWord m 3)).counted.bayLog 2 p (u.paramNow p) (msgWord m 3)).flag F.BAY_IFLAG_PARAM := by
  unfold State.mboxRun
  rw [h, hp]
  rfl

theorem mboxRun_seal (h : bitsOf (msgWord m 0) 31 24 = 3) :
    u.mboxRun m version = ((u.sealedWith (msgWord m 3) (msgWord m 4)).setSeal true).bayLog 3 0 0 0 := by
  unfold State.mboxRun
  rw [h]
  rfl

theorem mboxRun_imgOpen (h : bitsOf (msgWord m 0) 31 24 = 4) : u.mboxRun m version = u.onBay fun b => { b with staging := some [] } := by
  unfold State.mboxRun
  rw [h]
  rfl

theorem mboxRun_imgData (h : bitsOf (msgWord m 0) 31 24 = 5) : u.mboxRun m version =
    u.onBay fun b => { b with staging := b.staging.map fun l => l ++ [msgWord m 3, msgWord m 4, msgWord m 5, msgWord m 6] } := by
  unfold State.mboxRun
  rw [h]
  rfl

theorem mboxRun_imgEnd (h : bitsOf (msgWord m 0) 31 24 = 6) : u.mboxRun m version =
    ((u.imageTaken version).mcount.bayLog 4 0 (imageCrc ((u.bay.nextImage.map fun n => n.1).getD u.bay.image))
      (imageCrc (u.bay.staging.getD []))).flag F.BAY_IFLAG_PARAM := by
  unfold State.mboxRun
  rw [h]
  rfl
end

theorem execBayBreak_claim (a b c d : Word) (s : State) : Claims.bayBreak a b c d s := by
  intro hB hrun hopen hsealed hused
  obtain ⟨h31, -⟩ := op_mail (s := s) (op := 1) (param := 0) (a := a) (b := b) (c := c) (d := d) (by decide) (by decide)
  refine ⟨_, congrArg Outcome.next (submitMailbox_accepted hB hrun hopen (by decide) (by decide) hsealed
    (fun h => absurd h (by decide)) hused (by decide)), ?_⟩
  rw [mboxRun_break h31]
  generalize hu : s.mailReady _ = u
  have hget : ∀ g, u.get g = s.get g := fun g => hu ▸ rfl
  have hnow : u.now = s.now := hu ▸ rfl
  have hlog : u.bay.log = s.bay.log ∧ u.bay.sealId = s.bay.sealId := hu ▸ ⟨rfl, rfl⟩
  have hcount : (u.setSeal false).counted.get F.BAY_LOGSTAT_USED = s.get F.BAY_LOGSTAT_USED := by
    rw [get_counted (by decide) (by decide) (by decide), get_setSeal (by decide) (by decide) (by decide), hget]
  have L := logged_bayLog (show (u.setSeal false).counted.get F.BAY_LOGSTAT_USED < 1024 by omega) 1 0 0 0
  generalize (u.setSeal false).counted.bayLog 1 0 0 0 = v at L ⊢
  rw [mboxResult_result _ (by decide), get_mboxResult (by decide), get_mboxResult (by decide), get_mboxResult (by decide),
    get_mboxResult (by decide), get_mboxResult (by decide), on_mboxResult (by decide), on_mboxResult (by decide), on_mboxResult (by decide),
    bay_mboxResult, reg_mboxResult (by decide) (by decide), L.used, L.newest, L.full, L.bay, L.sealed,
    L.on (by decide) (by decide) (by decide), L.get (by decide) (by decide) (by decide), L.get (by decide) (by decide) (by decide),
    L.get (by decide) (by decide) (by decide), counted_count, L.kept F.BAY_MCOUNT_COUNT (by decide) (by decide) (by decide), hcount]
  refine ⟨rfl, ?_, ?_, (counted_test _).1, (counted_test _).2, ?_, rfl, rfl, rfl, ?_⟩
  · rw [on_counted (by decide) (by decide) (by decide), setSeal_sealed]
  · rw [on_counted (by decide) (by decide) (by decide), setSeal_flag]
  · rw [get_setSeal (by decide) (by decide) (by decide), hget]
  · unfold State.withEntry
    rw [counted_bay, setSeal_bay, counted_now, setSeal_now, hcount, hnow, hlog.1, hlog.2]
    rfl

theorem execBaySet_claim (p : Byte) (v b c d : Word) (s : State) : Claims.baySet p v b c d s := by
  intro hB hrun hopen hsealed hused htoSet hrange
  have hp : p.toNat < 5 := by
    by_contra hp
    have hout : paramInRange p.toNat v = false := by
      unfold paramInRange
      dsimp only
      rw [if_neg (by omega), if_neg (by omega), if_neg (by omega), if_neg (by omega)]
    rw [hout] at hrange
    cases hrange
  obtain ⟨h31, h7⟩ := op_mail (s := s) (op := 2) (param := p.toNat) (a := v) (b := b) (c := c) (d := d) (by decide) (by omega)
  have hallowed : s.opAllowed 2 = true := (Bool.not_eq_true' _).mpr hsealed
  refine ⟨_, congrArg Outcome.next (submitMailbox_accepted hB hrun hopen (by decide) (by omega) hallowed (fun _ => hrange) hused
    (by decide)), ?_⟩
  rw [mboxRun_set h31 h7, show msgWord _ 3 = v from rfl]
  generalize hu : s.mailReady _ = u
  have hget : ∀ g, (u.toBeSet p.toNat v).get g = s.get g := fun g => hu ▸ rfl
  have hreg : ∀ x, (u.toBeSet p.toNat v).reg x = s.reg x := fun x => hu ▸ rfl
  have hbay : (u.toBeSet p.toNat v).bay.toSet = [(p.toNat, v)] ∧ (u.toBeSet p.toNat v).bay.sealId = s.bay.sealId := by
    refine hu ▸ ⟨?_, rfl⟩
    show (p.toNat, v) :: s.bay.toSet.filter _ = _
    rw [htoSet]
    rfl
  have hnow : u.paramNow p.toNat = s.reg (F.BAY_CAL_VALUE.at p.toNat).addr := by
    subst hu
    show (match s.bay.toSet.find? _ with | some e => e.2 | none => s.reg _) = _
    rw [htoSet]
    rfl
  generalize u.toBeSet p.toNat v = w at hget hreg hbay ⊢
  have hcount : w.counted.get F.BAY_LOGSTAT_USED = s.get F.BAY_LOGSTAT_USED := by
    rw [get_counted (by decide) (by decide) (by decide), hget]
  have L := logged_bayLog (show w.counted.get F.BAY_LOGSTAT_USED < 1024 by omega) 2 p.toNat (u.paramNow p.toNat) v
  generalize w.counted.bayLog 2 p.toNat (u.paramNow p.toNat) v = t at L ⊢
  rw [mboxResult_result _ (by decide), get_mboxResult (by decide), get_mboxResult (by decide), get_mboxResult (by decide),
    get_mboxResult (by decide), on_mboxResult (by decide), bay_mboxResult, State.on_flag_okay (by decide),
    State.get_flag_leaves (by decide), State.get_flag_leaves (by decide), State.get_flag_leaves (by decide),
    State.get_flag_leaves (by decide), State.flag_bay, L.used, L.bay, L.get (by decide) (by decide) (by decide),
    L.get (by decide) (by decide) (by decide), L.get (by decide) (by decide) (by decide), counted_count, hcount, hget]
  refine ⟨rfl, ?_, rfl, ?_, (counted_test _).1, (counted_test _).2, rfl, rfl, ?_⟩
  · unfold State.withEntry
    rw [counted_bay]
    exact hbay.1
  · have hcal : (F.BAY_CAL_VALUE.at p.toNat).addr ∈ [addrOf 0x0A 0x80, addrOf 0x0A 0x81, addrOf 0x0A 0x82, addrOf 0x0A 0x83,
        addrOf 0x0A 0x84] := by
      generalize p.toNat = k at hp
      interval_cases k <;> decide
    have hplace : ∀ x ∈ [addrOf 0x0A 0x80, addrOf 0x0A 0x81, addrOf 0x0A 0x82, addrOf 0x0A 0x83, addrOf 0x0A 0x84],
        x ≠ F.BAY_MBSTAT_RESULT.addr ∧ x ≠ addrOf 0x0A 7 ∧ x ≠ F.BAY_IFLAG_PARAM.addr ∧ x ≠ F.BAY_LOGSTAT_USED.addr ∧
          x ≠ F.BAY_STAT_LOGFULL.addr ∧ x ≠ F.BAY_TIMP_WH.addr ∧ x ≠ F.BAY_TEXP_WH.addr ∧ x ≠ F.BAY_MCOUNT_COUNT.addr := by decide
    obtain ⟨hresult, h7', hflag, hused', hfull, htimp, htexp, hmcount⟩ := hplace _ hcal
    rw [reg_mboxResult hresult h7', State.flag, State.reg_set_other hflag h7', L.kept _ hused' hfull h7',
      counted_reg _ htimp htexp hmcount h7', hreg]
  · unfold State.withEntry
    rw [hcount, hnow, counted_bay]
    show some (_, [_, v, w.bay.sealId]) = _
    rw [hbay.2]

theorem paramRanges_claim (v : Word) : Claims.paramRanges v :=
  ⟨decide_eq_true_iff, decide_eq_true_iff, decide_eq_true_iff, decide_eq_true_iff, decide_eq_true_iff⟩

theorem execBaySeal_claim (code sid c d : Word) (s : State) : Claims.baySeal code sid c d s := by
  intro hB hrun hopen hsealed hused
  obtain ⟨h31, -⟩ := op_mail (s := s) (op := 3) (param := 0) (a := code) (b := sid) (c := c) (d := d) (by decide) (by decide)
  have hallowed : s.opAllowed 3 = true := (Bool.not_eq_true' _).mpr hsealed
  refine ⟨_, congrArg Outcome.next (submitMailbox_accepted hB hrun hopen (by decide) (by decide) hallowed
    (fun h => absurd h (by decide)) hused (by decide)), ?_⟩
  rw [mboxRun_seal h31, show msgWord _ 3 = code from rfl, show msgWord _ 4 = sid from rfl]
  generalize hu : s.mailReady _ = u
  have hget : ∀ g, (u.sealedWith code sid).get g = s.get g := fun g => hu ▸ rfl
  have hbay : (u.sealedWith code sid).bay.code = code ∧ (u.sealedWith code sid).bay.sealId = sid := ⟨rfl, rfl⟩
  generalize u.sealedWith code sid = w at hget hbay ⊢
  have hcount : (w.setSeal true).get F.BAY_LOGSTAT_USED = s.get F.BAY_LOGSTAT_USED := by
    rw [get_setSeal (by decide) (by decide) (by decide), hget]
  have L := logged_bayLog (show (w.setSeal true).get F.BAY_LOGSTAT_USED < 1024 by omega) 3 0 0 0
  generalize (w.setSeal true).bayLog 3 0 0 0 = t at L ⊢
  rw [mboxResult_result _ (by decide), get_mboxResult (by decide), get_mboxResult (by decide), on_mboxResult (by decide),
    on_mboxResult (by decide), bay_mboxResult, L.used, L.bay, L.sealed, L.on (by decide) (by decide) (by decide),
    L.get (by decide) (by decide) (by decide), hcount, setSeal_sealed, setSeal_flag, get_setSeal (by decide) (by decide) (by decide), hget]
  unfold State.withEntry
  rw [setSeal_bay]
  exact ⟨rfl, rfl, hbay.1, hbay.2, rfl, rfl, rfl⟩

theorem execBayImgOpen_claim (a b c d : Word) (s : State) : Claims.bayImgOpen a b c d s := by
  intro hB hrun hopen hsealed hused
  obtain ⟨h31, -⟩ := op_mail (s := s) (op := 4) (param := 0) (a := a) (b := b) (c := c) (d := d) (by decide) (by decide)
  have hallowed : s.opAllowed 4 = true := (Bool.not_eq_true' _).mpr hsealed
  refine ⟨_, congrArg Outcome.next (submitMailbox_accepted hB hrun hopen (by decide) (by decide) hallowed
    (fun h => absurd h (by decide)) hused (by decide)), ?_⟩
  rw [mboxRun_imgOpen h31, mboxResult_result _ (by decide), get_mboxResult (by decide), bay_mboxResult]
  exact ⟨rfl, rfl, rfl⟩

theorem execBayImgData_claim (a b c d : Word) (l : List Word) (s : State) : Claims.bayImgData a b c d l s := by
  intro hB hrun hopen hsealed hused hstaging
  obtain ⟨h31, -⟩ := op_mail (s := s) (op := 5) (param := 0) (a := a) (b := b) (c := c) (d := d) (by decide) (by decide)
  have hallowed : s.opAllowed 5 = true := by
    show (!s.sealed && s.bay.staging.isSome) = true
    rw [hstaging, show s.sealed = false from hsealed]
    rfl
  refine ⟨_, congrArg Outcome.next (submitMailbox_accepted hB hrun hopen (by decide) (by decide) hallowed
    (fun h => absurd h (by decide)) hused (by decide)), ?_⟩
  rw [mboxRun_imgData h31, mboxResult_result _ (by decide), get_mboxResult (by decide), bay_mboxResult]
  exact ⟨rfl, congrArg (Option.map fun l => l ++ [a, b, c, d]) hstaging, rfl⟩

theorem execBayImgEnd_claim (a b c d version : Word) (l : List Word) (s : State) : Claims.bayImgEnd a b c d version l s := by
  intro hB hrun hopen hsealed hused hstaging
  obtain ⟨h31, -⟩ := op_mail (s := s) (op := 6) (param := 0) (a := a) (b := b) (c := c) (d := d) (by decide) (by decide)
  have hallowed : s.opAllowed 6 = true := by
    show (!s.sealed && s.bay.staging.isSome) = true
    rw [hstaging, show s.sealed = false from hsealed]
    rfl
  refine ⟨_, congrArg Outcome.next (submitMailbox_accepted hB hrun hopen (by decide) (by decide) hallowed (fun h => absurd h (by decide)) hused
    (fun _ => rfl)), ?_⟩
  rw [mboxRun_imgEnd h31]
  generalize hu : s.mailReady _ = u
  have hget : ∀ g, (u.imageTaken version).get g = s.get g := fun g => hu ▸ rfl
  have hreg : ∀ x, (u.imageTaken version).reg x = s.reg x := fun x => hu ▸ rfl
  have hbay : (u.imageTaken version).bay.staging = none ∧ (u.imageTaken version).bay.nextImage = some (l, version) := by
    refine hu ▸ ⟨rfl, ?_⟩
    show some (s.bay.staging.getD [], version) = _
    rw [hstaging]
    rfl
  generalize imageCrc _ = old
  generalize imageCrc _ = new
  generalize u.imageTaken version = w at hget hreg hbay ⊢
  have hcount : w.mcount.get F.BAY_LOGSTAT_USED = s.get F.BAY_LOGSTAT_USED := (State.get_set_leaves (by decide) _ _).trans (hget _)
  have L := logged_bayLog (show w.mcount.get F.BAY_LOGSTAT_USED < 1024 by omega) 4 0 old new
  generalize w.mcount.bayLog 4 0 old new = t at L ⊢
  have hswid : w.mcount.reg F.BAY_SWID_CRC.addr = w.reg F.BAY_SWID_CRC.addr := State.reg_set_other (by decide) (by decide) _ _
  rw [mboxResult_result _ (by decide), get_mboxResult (by decide), on_mboxResult (by decide), bay_mboxResult,
    reg_mboxResult (by decide) (by decide), State.on_flag_okay (by decide), State.get_flag_leaves (by decide), State.flag_bay, L.bay,
    L.get (by decide) (by decide) (by decide), mcount_count, hget, State.flag, State.reg_set_other (by decide) (by decide),
    L.kept _ (by decide) (by decide) (by decide), hswid, hreg]
  unfold State.withEntry State.mcount
  rw [State.set_bay]
  exact ⟨rfl, hbay.1, rfl, hbay.2, rfl, rfl⟩

end Sys2Proof.Machine

/-- Settles O38: a message in order passes every row of R329, so that only what its operation does is left. -/
theorem bayMailboxAccepted : Obligations.BayMailboxAccepted := by
  unfold Obligations.BayMailboxAccepted
  exact ⟨Sys2Proof.Machine.execBayBreak_claim, Sys2Proof.Machine.execBaySet_claim, Sys2Proof.Machine.paramRanges_claim,
    Sys2Proof.Machine.execBaySeal_claim, Sys2Proof.Machine.execBayImgOpen_claim, Sys2Proof.Machine.execBayImgData_claim,
    Sys2Proof.Machine.execBayImgEnd_claim⟩
end

section
/-! The passwords: unlocking, lockouts, new passwords, and what an unlock protects (R88, R397). -/
set_option Elab.async false
namespace Sys2Proof.Machine
open Host

/-! ### What a link keeps for its session -/

theorem session_set (s : State) (f : Fld) (v : Nat) (k : Link) : ((s.set f v).link k).session = (s.link k).session := put_session ..

theorem session_flag (s : State) (f : Fld) (k : Link) : ((s.flag f).link k).session = (s.link k).session := put_session ..

theorem session_grantLease (s : State) (slot party : Nat) (k : Link) : ((s.grantLease slot party).link k).session = (s.link k).session := by
  have hside : ∀ (u : State) f, (u.onLease slot f).link k = u.link k := fun _ _ => by cases k <;> rfl
  unfold State.grantLease
  rw [hside, session_set, session_set, session_set]

theorem session_acquireLease (s : State) (slot party : Nat) (k : Link) :
    ((s.acquireLease slot party).link k).session = (s.link k).session := by
  unfold State.acquireLease
  split_ifs
  · rfl
  · exact session_grantLease ..
  all_goals rfl

theorem session_journalWrite (s : State) (old : List Kept) (k : Link) : ((s.journalWrite old).link k).session = (s.link k).session :=
  session_acquireLease ..

theorem session_logChange (s : State) (link kind : Nat) (before after : Word) (k : Link) :
    ((s.logChange link kind before after).link k).session = (s.link k).session := by
  unfold State.logChange
  dsimp only
  rw [session_journalWrite, session_set]
  exact session_set ..

theorem session_wrongPassword (s : State) (saf : Bool) (l k : Link) : ((s.wrongPassword saf l).link k).session = (s.link k).session := by
  unfold State.wrongPassword
  by_cases h : (s.password saf).tries + 1 < 5
  · rw [if_pos h]; cases saf <;> rfl
  · rw [if_neg h]
    cases saf
    · exact session_flag ..
    · exact (session_logChange ..).trans (session_flag ..)

theorem LinkSt.cfgUntil_of_session {k m : LinkSt} (h : k.session = m.session) : k.cfgUntil = m.cfgUntil := congrArg (fun e => e.2.1) h
theorem LinkSt.safUntil_of_session {k m : LinkSt} (h : k.session = m.session) : k.safUntil = m.safUntil := congrArg (fun e => e.2.2.1) h

/-! ### Passwords -/

theorem password_of_twin {a s : State} (ha : twin a s.refreshShown) (saf : Bool) : a.password saf = s.password saf := by
  cases saf
  · exact pw_of_twin ha
  · exact spw_of_twin ha

theorem lockedOut_of_twin {a s : State} (ha : twin a s.refreshShown) (saf : Bool) : a.lockedOut saf = s.lockedOut saf := by
  unfold State.lockedOut
  rw [password_of_twin ha, now_of_twin ha]

theorem unlocked_of_twin {a s : State} (ha : twin a s.refreshShown) (l : Link) : a.unlocked l = s.unlocked l := by
  unfold State.unlocked
  rw [LinkSt.cfgUntil_of_session (session_of_twin ha l), now_of_twin ha]

theorem safUnlocked_of_twin {a s : State} (ha : twin a s.refreshShown) (l : Link) : a.safUnlocked l = s.safUnlocked l := by
  unfold State.safUnlocked
  rw [LinkSt.safUntil_of_session (session_of_twin ha l), now_of_twin ha]

/-- The password state once a wrong value has been tried. -/
def PasswordSt.tried (p : PasswordSt) (now : Nat) : PasswordSt :=
  if p.tries + 1 < 5 then { p with tries := p.tries + 1 } else { p with tries := 0, lockedUntil := some (now + 600000000) }

theorem wrongPassword_password (s : State) (saf : Bool) (l : Link) : (s.wrongPassword saf l).password saf = (s.password saf).tried s.now := by
  have hlog := fun (u : State) a b => altersOf (alters_logChange u (linkNo l) 4 a b)
  unfold State.wrongPassword PasswordSt.tried
  by_cases h : (s.password saf).tries + 1 < 5
  · rw [if_pos h, if_pos h]; cases saf <;> rfl
  · rw [if_neg h, if_neg h]
    cases saf
    · exact State.flag_pw ..
    · exact ((hlog _ _ _).spw (by decide +kernel)).trans (State.flag_spw ..)

theorem wrongPassword_lockout {s : State} {l : Link} (h : ¬ (s.password false).tries + 1 < 5) :
    (s.wrongPassword false l).on F.CFG_IFLAG_LOCKOUT = true := by
  unfold State.wrongPassword
  rw [if_neg h]
  exact State.on_flag_okay (by decide) _

section
variable (s : State) (saf : Bool) (l : Link)

theorem writeUnlock_relock : s.writeUnlock saf l 0xFFFFFFFF = (s.setUnlock saf l none, none) := if_pos rfl

theorem writeUnlock_right {v : Word} (h : v ≠ 0xFFFFFFFF) (hbcd : isBcd v = true) (hout : s.lockedOut saf = false)
    (hv : v = (s.password saf).pw) : s.writeUnlock saf l v =
      ((s.onPassword saf fun p => { p with tries := 0, lockedUntil := none }).setUnlock saf l (some (s.now + 300000000)), none) :=
  (if_neg h).trans ((if_neg (by rw [hbcd]; decide)).trans ((if_neg (by rw [hout]; decide)).trans (if_pos hv)))

theorem writeUnlock_form {v : Word} (h : v ≠ 0xFFFFFFFF) (hbcd : isBcd v = false) : s.writeUnlock saf l v = (s, some 0x0A) :=
  (if_neg h).trans (if_pos hbcd)

theorem writeUnlock_lockedOut {v : Word} (h : v ≠ 0xFFFFFFFF) (hout : s.lockedOut saf = true) :
    s.writeUnlock saf l v = (s, some 0x0A) := by
  cases hbcd : isBcd v with
  | false => exact writeUnlock_form s saf l h hbcd
  | true => exact (if_neg h).trans ((if_neg (by rw [hbcd]; decide)).trans (if_pos hout))

theorem writeUnlock_wrong {v : Word} (h : v ≠ 0xFFFFFFFF) (hbcd : isBcd v = true) (hout : s.lockedOut saf = false)
    (hv : v ≠ (s.password saf).pw) : s.writeUnlock saf l v = (s.wrongPassword saf l, some 0x0A) :=
  (if_neg h).trans ((if_neg (by rw [hbcd]; decide)).trans ((if_neg (by rw [hout]; decide)).trans (if_neg hv)))
end

/-- The end of an unlock as a link keeps it. -/
def LinkSt.until (k : LinkSt) (saf : Bool) : Option Nat := if saf then k.safUntil else k.cfgUntil

theorem LinkSt.until_of_session {k m : LinkSt} (h : k.session = m.session) (saf : Bool) : k.until saf = m.until saf := by
  unfold LinkSt.until
  rw [LinkSt.cfgUntil_of_session h, LinkSt.safUntil_of_session h]

theorem until_setUnlock (s : State) (saf : Bool) (l : Link) (t : Option Nat) : ((s.setUnlock saf l t).link l).until saf = t := by
  unfold State.setUnlock
  rw [link_onLink_same]
  cases saf <;> rfl

theorem linksAside_setUnlock (s : State) (saf : Bool) (l : Link) (t : Option Nat) : linksAside (s.setUnlock saf l t) s :=
  linksAside_onLink ..

/-- The write to the unlock word of a kind. -/
def State.hostUnlock (s : State) (saf : Bool) (l : Link) (pw : Word) : State :=
  if saf then s.hostWrite l 0x18 0xE0 pw else s.hostWrite l 0x02 0xE3 pw

theorem hostUnlock_served {s : State} {l : Link} (h : s.takes l) (saf : Bool) (pw : Word) : ∃ a, twin a s.refreshShown ∧
    twin (s.hostUnlock saf l pw) (a.writeUnlock saf l pw).1 ∧
    (∀ c, (a.writeUnlock saf l pw).2 = some c → Claims.refusedWith (s.hostUnlock saf l pw) l c) ∧
    ((a.writeUnlock saf l pw).2 = none → Claims.granted (s.hostUnlock saf l pw) l) := by
  cases saf with
  | false => exact hostWrite_full h 0x02 0xE3 pw rfl rfl rfl (Or.inl rfl)
  | true => exact hostWrite_full h 0x18 0xE0 pw rfl rfl rfl (Or.inl rfl)

theorem password_of_aside {t u : State} (h : linksAside t u) (saf : Bool) : t.password saf = u.password saf := by
  cases saf
  · exact pw_of_aside h
  · exact spw_of_aside h

theorem linksAside_onPassword {t u : State} (h : linksAside t u) (saf : Bool) (f : PasswordSt → PasswordSt) :
    linksAside (t.onPassword saf f) (u.onPassword saf f) := by
  rw [show t = _ from h]
  cases saf <;> rfl

/-- R88, R397: the right password unlocks for 300 s, and 0xFFFFFFFF relocks. -/
theorem hostUnlock_granted {s : State} {l : Link} (h : s.takes l) (saf : Bool) {pw : Word}
    (hpw : pw = 0xFFFFFFFF ∨ (isBcd pw = true ∧ s.lockedOut saf = false ∧ pw = (s.password saf).pw)) :
    Claims.granted (s.hostUnlock saf l pw) l ∧
      ((s.hostUnlock saf l pw).link l).until saf = (if pw = 0xFFFFFFFF then none else some (s.now + 300000000)) ∧
      linksAside (s.hostUnlock saf l pw) (if pw = 0xFFFFFFFF then s.refreshShown
        else s.refreshShown.onPassword saf fun p => { p with tries := 0, lockedUntil := none }) := by
  obtain ⟨a, ha, htwin, -, hgranted⟩ := hostUnlock_served h saf pw
  by_cases hkey : pw = 0xFFFFFFFF
  · subst hkey
    rw [writeUnlock_relock] at htwin hgranted
    rw [if_pos rfl, if_pos rfl]
    exact ⟨hgranted rfl, (LinkSt.until_of_session (htwin.2 l) saf).trans (until_setUnlock ..),
      linksAside_trans htwin.1 (linksAside_trans (linksAside_setUnlock ..) ha.1)⟩
  · obtain ⟨hbcd, hout, hv⟩ := hpw.resolve_left hkey
    rw [writeUnlock_right a saf l hkey hbcd ((lockedOut_of_twin ha saf).trans hout) (by rw [password_of_twin ha, hv])] at htwin hgranted
    rw [if_neg hkey, if_neg hkey]
    refine ⟨hgranted rfl, ?_, linksAside_trans htwin.1 (linksAside_trans (linksAside_setUnlock ..) (linksAside_onPassword ha.1 ..))⟩
    rw [LinkSt.until_of_session (htwin.2 l), until_setUnlock, now_of_twin ha]

/-- A value that is no password at all is refused and is no try. -/
theorem hostUnlock_form {s : State} {l : Link} (h : s.takes l) (saf : Bool) {pw : Word}
    (hrefuse : ∀ a, twin a s.refreshShown → a.writeUnlock saf l pw = (a, some 0x0A)) :
    Claims.refusedWith (s.hostUnlock saf l pw) l 0x0A ∧ twin (s.hostUnlock saf l pw) s.refreshShown := by
  obtain ⟨a, ha, htwin, hrefused, -⟩ := hostUnlock_served h saf pw
  rw [hrefuse a ha] at htwin hrefused
  exact ⟨hrefused _ rfl, twin_trans htwin ha⟩

/-- A wrong value is refused and counts as a try. -/
theorem hostUnlock_wrong {s : State} {l : Link} (h : s.takes l) (saf : Bool) {pw : Word} (hkey : pw ≠ 0xFFFFFFFF)
    (hout : s.lockedOut saf = false) (hv : pw ≠ (s.password saf).pw) :
    Claims.refusedWith (s.hostUnlock saf l pw) l 0x0A ∧ ((s.hostUnlock saf l pw).link l).until saf = (s.link l).until saf ∧
      (s.hostUnlock saf l pw).password saf = (if isBcd pw = false then s.password saf else (s.password saf).tried s.now) ∧
      (saf = false → isBcd pw = true → ¬ s.pw.tries + 1 < 5 → (s.hostUnlock saf l pw).on F.CFG_IFLAG_LOCKOUT = true) := by
  cases hbcd : isBcd pw with
  | false =>
    obtain ⟨hrefused, htwin⟩ := hostUnlock_form h saf fun a _ => writeUnlock_form a saf l hkey hbcd
    refine ⟨hrefused, LinkSt.until_of_session (session_of_twin htwin l) saf, ?_, fun _ h => absurd h (by decide)⟩
    rw [if_pos rfl]
    exact password_of_twin htwin saf
  | true =>
    obtain ⟨a, ha, htwin, hrefused, -⟩ := hostUnlock_served h saf pw
    have hpass := password_of_twin ha saf
    rw [writeUnlock_wrong a saf l hkey hbcd ((lockedOut_of_twin ha saf).trans hout) (by rw [hpass]; exact hv)] at htwin hrefused
    refine ⟨hrefused _ rfl, ?_, ?_, fun hsaf _ htries => ?_⟩
    · exact LinkSt.until_of_session ((htwin.2 l).trans ((session_wrongPassword ..).trans (session_of_twin ha l))) saf
    · rw [password_of_aside htwin.1, wrongPassword_password, hpass, now_of_twin ha, if_neg (by decide)]
    · subst hsaf
      rw [on_of_linksAside htwin.1]
      exact wrongPassword_lockout (by rw [hpass]; exact htries)

/-- The journal after a new password, and nothing but the password of its kind changed. -/
theorem writeNewpw_set {s : State} {saf : Bool} {l : Link} {pw : Word} (hopen : (if saf then s.safUnlocked l else s.unlocked l) = true)
    (hbcd : isBcd pw = true) : s.writeNewpw saf l pw =
      (let u := (s.onPassword saf fun p => { p with pw := pw }).journalWrite [.password saf (s.password saf).pw]
       (if saf then u.logChange (linkNo l) 2 u.safetyCrc u.safetyCrc else u, none)) :=
  (if_neg (by rw [hopen]; decide)).trans (if_neg (by rw [hbcd]; decide))

theorem writeNewpw_locked {s : State} {saf : Bool} {l : Link} {pw : Word}
    (hopen : (if saf then s.safUnlocked l else s.unlocked l) = false) : s.writeNewpw saf l pw = (s, some 0x03) := if_pos hopen

end Sys2Proof.Machine
end

section
/-! The safety password and the tests of the brakes that it protects (R384, R397, R399). -/
set_option Elab.async false
namespace Sys2Proof.Machine
open Host

/-- A test of a brake that the host has asked for. -/
def State.testAsked (s : State) (b : Nat) : State :=
  s.onSaf fun x => { x with requested := b :: x.requested.filter (fun e => e != b) }

theorem linksAside_testAsked {t u : State} (h : linksAside t u) (b : Nat) : linksAside (t.testAsked b) (u.testAsked b) := by
  rw [show t = _ from h]
  rfl

theorem command_safCmd (a : State) (l : Link) (v : Word) : a.command l 0x18 0xE2 v = a.writeSafCmd (a.safUnlocked l) v := rfl

theorem writeSafCmd_locked (a : State) (v : Word) : a.writeSafCmd false v = (a, some 0x03) := rfl

theorem hostTest_granted {s : State} {l : Link} (h : s.takes l) (hopen : s.safUnlocked l = true) {b : Nat} (v : Word)
    (hv : ∀ a : State, a.writeSafCmd true v = (a.testAsked b, none)) :
    Claims.granted (s.hostWrite l 0x18 0xE2 v) l ∧ linksAside (s.hostWrite l 0x18 0xE2 v) (s.refreshShown.testAsked b) := by
  obtain ⟨a, ha, ht, -, hgranted⟩ := hostWrite_full h 0x18 0xE2 v rfl rfl rfl (Or.inl rfl)
  rw [command_safCmd, (safUnlocked_of_twin ha l).trans hopen, hv] at ht hgranted
  exact ⟨hgranted rfl, linksAside_trans ht.1 (linksAside_testAsked ha.1 b)⟩

theorem execTestBrk0_claim (l : Link) (s : State) : Claims.testBrk0 l s := by
  intro h hopen
  obtain ⟨hgranted, hside⟩ := hostTest_granted h hopen (b := 0) 1 fun _ => rfl
  refine ⟨_, rfl, hgranted, ?_⟩
  rw [← State.refreshShown_saf s]
  exact hside

theorem execTestBrk1_claim (l : Link) (s : State) : Claims.testBrk1 l s := by
  intro h hopen
  obtain ⟨hgranted, hside⟩ := hostTest_granted h hopen (b := 1) 2 fun _ => rfl
  refine ⟨_, rfl, hgranted, ?_⟩
  rw [← State.refreshShown_saf s]
  exact hside

/-- A write to a command word that is refused changes nothing but the words that show the moment. -/
theorem refused_full {s : State} {l : Link} (h : s.takes l) (page word : Nat) (v : Word) {row : RegRow} {name : String}
    {acc : Access} {reset code : Nat} (hf : s.fitted page = true) (hrow : regRow page word = some row)
    (hrows : row.rows = [.fld name 31 0 acc reset .any]) (hacc : acc = .wo ∨ acc = .rw)
    (hcode : ∀ a, twin a s.refreshShown → a.command l page word v = (a, some code))
    (hp : page < 256 := by decide) (hw : word < 256 := by decide) (h8 : 8 ≤ word := by decide)
    (hcm : ¬ (page = 0x02 ∧ word = 0x08) := by decide) :
    Claims.refusedWith (s.hostWrite l page word v) l code ∧ linksAside (s.hostWrite l page word v) s.refreshShown := by
  obtain ⟨a, ha, ht, hrefused, -⟩ := hostWrite_full h page word v hf hrow hrows hacc hp hw h8 hcm
  rw [hcode a ha] at ht hrefused
  exact ⟨hrefused _ rfl, linksAside_trans ht.1 ha.1⟩

theorem safLockedRefused_claim (l : Link) (pw : Word) (s : State) : Claims.safLockedRefused l pw s := by
  intro h hlocked
  have htest : ∀ v a, twin a s.refreshShown → a.command l 0x18 0xE2 v = (a, some 0x03) := fun v a ha => by
    rw [command_safCmd, safUnlocked_of_twin ha, hlocked, writeSafCmd_locked]
  refine ⟨⟨_, rfl, refused_full h 0x18 0xE2 1 rfl rfl rfl (Or.inl rfl) (htest 1)⟩,
    ⟨_, rfl, refused_full h 0x18 0xE2 2 rfl rfl rfl (Or.inl rfl) (htest 2)⟩,
    ⟨_, rfl, refused_full h 0x18 0xE1 pw rfl rfl rfl (Or.inl rfl) fun a ha => ?_⟩⟩
  exact writeNewpw_locked (saf := true) ((safUnlocked_of_twin ha l).trans hlocked)

theorem execSafUnlock_claim (l : Link) (pw : Word) (s : State) : Claims.safUnlock l pw s := by
  intro h hpw
  obtain ⟨hgranted, huntil, hside⟩ := hostUnlock_granted h true hpw
  have hspw : s.refreshShown.spw = s.spw := State.refreshShown_spw s
  refine ⟨_, rfl, hgranted, huntil, ?_⟩
  rw [← hspw]
  exact hside

theorem execSafUnlock_wrong (l : Link) (pw : Word) (s : State) : Claims.safUnlockWrong l pw s := by
  intro h hkey hout hv
  obtain ⟨hrefused, huntil, hpass, -⟩ := hostUnlock_wrong h true hkey hout hv
  exact ⟨_, rfl, hrefused, huntil, hpass⟩

theorem logChange_total (s : State) (link kind : Nat) (before after : Word) :
    (s.logChange link kind before after).get F.SAF_LOGSTAT_TOTAL = min (s.get F.SAF_LOGSTAT_TOTAL + 1) 65535 := by
  unfold State.logChange
  dsimp only
  rw [(altersOf (alters_journalWrite _ _)).get _ (by decide +kernel), State.get_set_leaves (by decide), State.get_count_okay (by decide)]
  rfl

theorem execSafNewpw_claim (l : Link) (pw : Word) (s : State) : Claims.safNewpw l pw s := by
  intro h hopen hbcd
  obtain ⟨a, ha, ht, -, hgranted⟩ := hostWrite_full h 0x18 0xE1 pw rfl rfl rfl (Or.inl rfl)
  have hcommand : a.command l 0x18 0xE1 pw = a.writeNewpw true l pw := rfl
  rw [hcommand, writeNewpw_set (saf := true) ((safUnlocked_of_twin ha l).trans hopen) hbcd] at ht hgranted
  have hlog := fun (u : State) b c => altersOf (alters_logChange u (linkNo l) 2 b c)
  have hjournal := fun u : State => altersOf (alters_journalWrite u [.password true (a.password true).pw])
  refine ⟨_, rfl, hgranted rfl, ?_, ?_, ?_⟩
  · rw [spw_of_aside ht.1]
    dsimp only
    rw [if_pos rfl, (hlog _ _ _).spw (by decide +kernel), (hjournal _).spw (by decide +kernel)]
    rfl
  · rw [pw_of_aside ht.1, ← pw_of_twin ha]
    dsimp only
    rw [if_pos rfl, (hlog _ _ _).pw (by decide +kernel), (hjournal _).pw (by decide +kernel)]
    rfl
  · rw [get_of_linksAside ht.1, ← State.get_of_twin (f := F.SAF_LOGSTAT_TOTAL) ha (by decide)]
    dsimp only
    rw [if_pos rfl, logChange_total, (hjournal _).get _ (by decide +kernel)]
    rfl

end Sys2Proof.Machine

/-- Settles O49: each write to a safety command word is the command on the state of the moment, locked or unlocked. -/
theorem safetyAccess : Obligations.SafetyAccess := by
  unfold Obligations.SafetyAccess
  exact ⟨Sys2Proof.Machine.execTestBrk0_claim, Sys2Proof.Machine.execTestBrk1_claim, Sys2Proof.Machine.safLockedRefused_claim,
    Sys2Proof.Machine.execSafUnlock_claim, Sys2Proof.Machine.execSafUnlock_wrong, Sys2Proof.Machine.execSafNewpw_claim⟩
end

section
/-! The CFG password, what an unlock protects, and the return to the delivered configuration (R88). -/
set_option Elab.async false
namespace Sys2Proof.Machine
open Host

theorem execCfgUnlock_claim (l : Link) (pw : Word) (s : State) : Claims.cfgUnlock l pw s := by
  intro h hpw
  obtain ⟨hgranted, huntil, hside⟩ := hostUnlock_granted h false hpw
  have hkept : s.refreshShown.pw = s.pw := State.refreshShown_pw s
  refine ⟨_, rfl, hgranted, huntil, ?_⟩
  rw [← hkept]
  exact hside

theorem execCfgUnlock_wrong (l : Link) (pw : Word) (s : State) : Claims.cfgUnlockWrong l pw s := by
  intro h hkey hout hv
  obtain ⟨hrefused, huntil, hpass, hflag⟩ := hostUnlock_wrong h false hkey hout hv
  exact ⟨_, rfl, hrefused, huntil, hpass, fun hbcd htries => hflag rfl hbcd (Nat.not_lt_of_le htries)⟩

theorem execCfgUnlock_lockedOut (l : Link) (pw : Word) (s : State) : Claims.cfgUnlockLockedOut l pw s := by
  intro h hkey hout
  obtain ⟨hrefused, htwin⟩ := hostUnlock_form h false fun a ha =>
    writeUnlock_lockedOut a false l hkey ((lockedOut_of_twin ha false).trans hout)
  exact ⟨_, rfl, hrefused, htwin.1⟩

theorem execUnlockExpiry_claim (l : Link) (saf : Bool) (e : Nat) (s : State) : Claims.unlockExpiry l saf e s := by
  intro h
  have hexec : exec (.unlockExpiry l saf) s = .next ((s.advanceTo e).setUnlock saf l none) := by
    show execUnlockExpiry l saf s = _
    unfold execUnlockExpiry
    rw [h]
  exact ⟨_, hexec, until_setUnlock (s.advanceTo e) saf l none, linksAside_setUnlock ..⟩

theorem execLockoutEnd_claim (saf : Bool) (e : Nat) (s : State) : Claims.lockoutEnd saf e s := by
  intro h
  have hexec : exec (.lockoutEnd saf) s = .next ((s.advanceTo e).onPassword saf fun p => { p with lockedUntil := none }) := by
    show execLockoutEnd saf s = _
    unfold execLockoutEnd
    rw [h]
  refine ⟨_, hexec, ?_⟩
  cases saf <;> exact ⟨rfl, rfl, rfl⟩

theorem execCfgNewpw_claim (l : Link) (pw : Word) (s : State) : Claims.cfgNewpw l pw s := by
  intro h hopen hbcd
  obtain ⟨a, ha, ht, -, hgranted⟩ := hostWrite_full h 0x02 0xE4 pw rfl rfl rfl (Or.inl rfl)
  have hcommand : a.command l 0x02 0xE4 pw = a.writeNewpw false l pw := rfl
  rw [hcommand, writeNewpw_set (saf := false) ((unlocked_of_twin ha l).trans hopen) hbcd] at ht hgranted
  have hlease := fun u : State => altersOf (alters_acquireLease u 0 a.coreParty)
  have hparty : a.coreParty = s.coreParty := congrArg (· + 1) (State.get_of_twin (f := F.FLT_MODE_MODE) ha (by decide))
  refine ⟨_, rfl, hgranted rfl, ?_, ?_⟩
  · rw [pw_of_aside ht.1, ← pw_of_twin ha]
    exact (hlease _).pw (by decide +kernel)
  · rw [journal_of_aside ht.1, ← journal_of_twin ha, ← pw_of_twin ha, ← hparty]
    exact (hlease _).journal (by decide +kernel)

/-! ### Refusals of a link that holds no unlock -/

theorem execFwctl_locked {l : Link} {s : State} (h : s.takes l) (hlocked : s.unlocked l = false) {v : Word}
    (hv : ∀ row, regRow 0x02 0xE0 = some row → checkWrite row.rows 0 v = (v, [])) :
    Claims.refusedWith (s.hostWrite l 0x02 0xE0 v) l 0x03 ∧ linksAside (s.hostWrite l 0x02 0xE0 v) s.refreshShown := by
  obtain ⟨a, ha, ht, hrefused, -⟩ := hostWrite_row (page := 0x02) (word := 0xE0) h v rCFG_FWCTL rfl (by decide) (by decide) (by decide) (by decide) rfl rfl rfl (hv _ rfl)
  have hcommand : a.command l 0x02 0xE0 v = a.writeFwctl l v := rfl
  have hwrite : a.writeFwctl l v = (a, some 0x03) := if_pos ((unlocked_of_twin ha l).trans hlocked)
  rw [hcommand, hwrite] at ht hrefused
  exact ⟨hrefused _ rfl, linksAside_trans ht.1 ha.1⟩

theorem lockedLinkRefused_claim (l : Link) (v : Word) (s : State) : Claims.lockedLinkRefused l v s := by
  intro h hlocked c hc
  have hunl := fun a (ha : twin a s.refreshShown) => (unlocked_of_twin ha l).trans hlocked
  have hfw := fun v => execFwctl_locked (v := v) h hlocked
  simp only [List.mem_cons, List.not_mem_nil, or_false] at hc
  rcases hc with rfl | rfl | rfl | rfl | rfl | rfl
  · exact ⟨_, rfl, refused_full h 0x02 0xE4 v rfl rfl rfl (Or.inl rfl) fun a ha => writeNewpw_locked (saf := false) (hunl a ha)⟩
  · exact ⟨_, rfl, refused_full h 0x02 0xE5 v rfl rfl rfl (Or.inl rfl) fun a ha => if_pos (hunl a ha)⟩
  · exact ⟨_, rfl, hfw 1 fun _ h => by cases h; rfl⟩
  · exact ⟨_, rfl, hfw 2 fun _ h => by cases h; rfl⟩
  · exact ⟨_, rfl, hfw 3 fun _ h => by cases h; rfl⟩
  · exact ⟨_, rfl, hfw 4 fun _ h => by cases h; rfl⟩

/-! ### The delivered configuration -/

/-- One word of the delivered configuration comes into the shadow. -/
def State.loadDefault (s : State) (p w : Nat) : State :=
  (s.setShadow (addrOf p w) (s.heldConfig (addrOf p w) (resetWord p w))).markPending p w

/-- The words of the delivered configuration come into the shadow, page by page. -/
def State.loadDefaults (s : State) (pages : List Nat) : State :=
  pages.foldl (fun (s : State) p => (rwsWords p).foldl (fun (s : State) w => s.loadDefault p w) s) s

/-- The word of a page holds its delivered value in the shadow, and its page is pending. -/
def State.defaulted (s : State) (p w : Nat) : Prop := s.shadowReg (addrOf p w) = resetWord p w ∧ p ∈ s.commit.pend

theorem mem_insertNat {x y : Nat} {l : List Nat} : y ∈ insertNat x l ↔ y = x ∨ y ∈ l := by
  induction l with
  | nil => simp [insertNat]
  | cons a l ih =>
    unfold insertNat
    split
    · simp
    · split
      · rename_i h; simp [h]
      · rw [List.mem_cons, ih, List.mem_cons, or_left_comm]

theorem lt_of_mem_rwsWords {p w : Nat} (h : w ∈ rwsWords p) : w < 256 := by
  obtain ⟨i, hi, rfl⟩ := List.mem_map.mp (List.mem_filter.mp h).1
  have := List.mem_range.mp hi
  omega

/-- The words of the safety pages aside, a page takes the delivered value as it is. -/
theorem heldConfig_plain {s : State} {p w : Nat} (hp : safetyPage p = false) (hw : w < 256) (v : Word) :
    s.heldConfig (addrOf p w) v = v := by
  refine if_neg fun h => ?_
  have haddr : p * 256 + w = 0x19 * 256 + 8 := h.1
  have : p = 0x19 := by omega
  subst this
  exact absurd hp (by decide)

theorem loadDefault_defaulted {s : State} {p w : Nat} (hp : safetyPage p = false) (hw : w < 256) : (s.loadDefault p w).defaulted p w := by
  refine ⟨?_, mem_insertNat.mpr (.inl rfl)⟩
  unfold State.loadDefault
  rw [heldConfig_plain hp hw]
  exact State.shadowReg_setShadow_same ..

theorem loadDefault_keeps {s : State} {p w q v : Nat} (hp : safetyPage p = false) (hw : w < 256) (hv : v < 256) (h : s.defaulted p w) :
    (s.loadDefault q v).defaulted p w := by
  by_cases hsame : addrOf p w = addrOf q v
  · have hpq : p * 256 + w = q * 256 + v := hsame
    obtain ⟨rfl, rfl⟩ : p = q ∧ w = v := by omega
    exact loadDefault_defaulted hp hw
  · refine ⟨?_, mem_insertNat.mpr (.inr h.2)⟩
    exact (State.shadowReg_setShadow ..).trans ((if_neg hsame).trans h.1)

/-- What each element of a list establishes and every element of it keeps holds at the end. -/
theorem foldl_establishes_of_mem {α σ : Type} (P : α → σ → Prop) {f : σ → α → σ} {l : List α} (hself : ∀ s, ∀ a ∈ l, P a (f s a))
    (hkeep : ∀ s, ∀ a ∈ l, ∀ b ∈ l, P b s → P b (f s a)) (s : σ) : ∀ a ∈ l, P a (l.foldl f s) := by
  intro a ha
  rw [← List.foldl_attach]
  exact foldl_establishes (fun (x : { x // x ∈ l }) s => P x.1 s) (fun s x => hself s x.1 x.2)
    (fun s x y => hkeep s x.1 x.2 y.1 y.2) l.attach s ⟨a, ha⟩ (List.mem_attach ..)

theorem loadDefaults_defaulted {s : State} {pages : List Nat} {p w : Nat} (hp : p ∈ pages) (hw : w ∈ rwsWords p)
    (hsafe : safetyPage p = false) : (s.loadDefaults pages).defaulted p w := by
  have hinner : ∀ (s : State) q, s.defaulted p w → ((rwsWords q).foldl (fun (s : State) v => s.loadDefault q v) s).defaulted p w :=
    fun s q h => by
      rw [← List.foldl_attach]
      exact foldl_keeps (fun s : State => s.defaulted p w)
        (fun s (v : { v // v ∈ rwsWords q }) h => loadDefault_keeps hsafe (lt_of_mem_rwsWords hw) (lt_of_mem_rwsWords v.2) h) _ h
  refine foldl_establishes_of_mem (fun q s => q = p → s.defaulted p w) (fun s q _ hq => ?_)
    (fun s q _ r _ h hr => hinner s q (h hr)) s p hp rfl
  subst hq
  exact foldl_establishes_of_mem (fun v s => s.defaulted q v)
    (fun s v hv => loadDefault_defaulted hsafe (lt_of_mem_rwsWords hv))
    (fun s v hv r hr h => loadDefault_keeps hsafe (lt_of_mem_rwsWords hr) (lt_of_mem_rwsWords hv) h) s w hw

theorem loadDefaults_regs (s : State) (pages : List Nat) : (s.loadDefaults pages).regs = s.regs :=
  foldl_keeps (fun t : State => t.regs = s.regs) (f := fun (s : State) p => (rwsWords p).foldl (fun (s : State) w => s.loadDefault p w) s)
    (fun _ p h => foldl_keeps (fun t : State => t.regs = s.regs) (f := fun (s : State) w => s.loadDefault p w) (fun _ _ h => h) _ h) pages rfl

theorem pages_of_twin {a s : State} (ha : twin a s.refreshShown) : a.pages = s.pages := by
  have hreg : a.reg F.SYS_VARIANT_MDIES.addr = s.reg F.SYS_VARIANT_MDIES.addr :=
    (reg_of_linksAside ha.1 _).trans (State.reg_refreshShown_low (by decide) (by decide) s)
  unfold State.pages
  exact congrArg (List.filter · _) (funext fun p => fitted_of_variant hreg p)

theorem execCfgDefault_claim (l : Link) (p w : Nat) (s : State) : Claims.cfgDefault l p w s := by
  intro h hopen hp hw hsafe
  obtain ⟨a, ha, ht, -, hgranted⟩ := hostWrite_full h 0x02 0xE5 0xDEF rfl rfl rfl (Or.inl rfl)
  have hcommand : a.command l 0x02 0xE5 0xDEF = a.writeDefault l 0xDEF := rfl
  have hwrite : a.writeDefault l 0xDEF = (a.loadDefaults (a.pages.filter fun q => rwsWords q != [] && (!safetyPage q || a.safUnlocked l)),
      none) := (if_neg (by rw [(unlocked_of_twin ha l).trans hopen]; decide)).trans (if_neg (fun h => h rfl))
  rw [hcommand, hwrite] at ht hgranted
  have hmem : p ∈ a.pages.filter fun q => rwsWords q != [] && (!safetyPage q || a.safUnlocked l) := by
    refine List.mem_filter.mpr ⟨by rw [pages_of_twin ha]; exact hp, ?_⟩
    have hne : (rwsWords p != []) = true := bne_iff_ne.mpr (List.ne_nil_of_mem hw)
    rw [hne, hsafe]
    rfl
  obtain ⟨hshadow, hpend⟩ := loadDefaults_defaulted (s := a) hmem hw hsafe
  refine ⟨_, rfl, hgranted rfl, ?_, ?_, ?_⟩
  · unfold State.shadowReg; rw [shadow_of_aside ht.1]; exact hshadow
  · rw [commit_of_aside ht.1]; exact hpend
  · rw [regs_of_linksAside ht.1, loadDefaults_regs, regs_of_linksAside ha.1]

end Sys2Proof.Machine

/-- Settles O15: the passwords as the writes to their words leave them, and the delivered configuration word by word. -/
theorem passwordsAndDefaults : Obligations.PasswordsAndDefaults := by
  unfold Obligations.PasswordsAndDefaults
  exact ⟨Sys2Proof.Machine.execCfgUnlock_claim, Sys2Proof.Machine.execCfgUnlock_wrong, Sys2Proof.Machine.execCfgUnlock_lockedOut,
    Sys2Proof.Machine.execUnlockExpiry_claim, Sys2Proof.Machine.execLockoutEnd_claim, Sys2Proof.Machine.execCfgNewpw_claim,
    Sys2Proof.Machine.lockedLinkRefused_claim, Sys2Proof.Machine.execCfgDefault_claim⟩
end

section
/-! What an evaluation of island 6 leaves: the words of SAF_STAT, PROP_EN, the brakes, and what it keeps beside them (R379 to R390). -/
set_option Elab.async false
namespace Sys2Proof.Machine
open Host

/-- The conditions that an evaluation of island 6 shows first. -/
def State.evalSeen (s : State) : State :=
  let s := (s.noteGuard 0).noteGuard 1
  let s := s.applyIf (s.pwr.phase == .run && !s.on F.SAF_STAT_GRDDONE && s.guardsSeen) fun s => s.setOn F.SAF_STAT_GRDDONE true
  ((s.setOn F.SAF_STAT_MATED s.matedCond).setOn F.SAF_STAT_HATCH_CL s.hatchCond).setOn F.SAF_STAT_CD3OPEN s.cd3Open

/-- The stops, PROP_EN and the charge interlock follow the conditions. -/
def State.evalOutputs (s : State) : State :=
  let s := (s.evalSeen.showSafestop.showProp).showChgil
  s.setOn F.SAF_STAT_CD3OPEN s.cd3Open

theorem safetyEval_eq (s : State) : s.safetyEval =
    (((((s.evalOutputs.driveBrake 0).driveBrake 1).brakeDuty 0).brakeDuty 1).endWaits 0).endWaits 1 := rfl

/-! ### Fields that an evaluation leaves -/

/-- A field that setting some fields leaves. -/
def Fld.clearOf (g : Fld) (l : List Fld) : Bool := l.all fun f => f.leaves g

theorem Fld.leaves_of_clear {g f : Fld} {l : List Fld} (h : g.clearOf l = true) (hf : f ∈ l) : f.leaves g = true :=
  List.all_eq_true.mp h f hf

/-- What an evaluation may alter beside the fields of SAF that it sets. -/
def evalRest : Nat := alt_stopAllAxes ||| alt_coilRelease ||| alt_endWaits ||| alt_driveTested ||| alt_noteGuard

/-- SAFESTOP with its copies in the page status and in MOT_STAT. -/
def State.markSafestop (s : State) (v : Bool) : State :=
  ((s.setOn F.SAF_STAT_SAFESTOP v).setOn F.SAF_PSTAT_SAFESTOP v).applyIf s.hasM fun s => s.setOn F.MOT_STAT_SAFESTOP v

theorem showSafestop_eq (s : State) : s.showSafestop =
    if s.safestopCond && !s.on F.SAF_STAT_SAFESTOP then
      ((((s.markSafestop s.safestopCond).flag F.SAF_IFLAG_STOP).onSaf fun x =>
        { x with stopSince := (s.markSafestop s.safestopCond).now }).stopAllAxes 8).abortBrakeTests fun _ => true
    else if s.safestopCond then s.markSafestop s.safestopCond
    else (s.markSafestop s.safestopCond).onSaf fun x => { x with withdrawn := [] } := rfl

/-- The fields that the stages of an evaluation set. -/
def seenFields : List Fld := [F.SAF_STAT_GRDDONE, F.SAF_STAT_MATED, F.SAF_STAT_HATCH_CL, F.SAF_STAT_CD3OPEN]
def stopFields : List Fld := [F.SAF_STAT_SAFESTOP, F.SAF_PSTAT_SAFESTOP, F.MOT_STAT_SAFESTOP, F.SAF_IFLAG_STOP, F.SAF_IFLAG_BTEST,
  F.SAF_BTST0_RESULT, F.SAF_BTST1_RESULT]
def chgilFields : List Fld := [F.SAF_IFLAG_CHGIL, F.SAF_STAT_CHGIL]

/-- A field outside what an evaluation alters. -/
def Fld.outEval (g : Fld) : Bool :=
  g.clearOf seenFields && g.clearOf stopFields && g.clearOf chgilFields && g.clearOf [F.SAF_STAT_BRKREL] && !evalRest.testBit (wordBit g.addr)

theorem Fld.outEval_iff {g : Fld} : g.outEval = true ↔ g.clearOf seenFields = true ∧ g.clearOf stopFields = true ∧
    g.clearOf chgilFields = true ∧ g.clearOf [F.SAF_STAT_BRKREL] = true ∧ evalRest.testBit (wordBit g.addr) = false := by
  unfold Fld.outEval
  simp only [Bool.and_eq_true, Bool.not_eq_true', and_assoc]

section
variable {g : Fld} (hword : evalRest.testBit (wordBit g.addr) = false)
include hword

/-- What alters no more than the rest of an evaluation leaves the field. -/
theorem Alters.get_rest {m : Nat} {s t : State} (h : Alters m s t) (hm : m &&& evalRest = m) : t.get g = s.get g :=
  (h.mono hm).get g hword

theorem get_evalSeen (hg : g.clearOf seenFields = true) (s : State) : s.evalSeen.get g = s.get g := by
  have hguard := fun (u : State) n => (altersOf (alters_noteGuard u n)).get_rest hword (by decide +kernel)
  unfold State.evalSeen
  dsimp only
  rw [State.get_setOn_leaves (Fld.leaves_of_clear hg (by decide)), State.get_setOn_leaves (Fld.leaves_of_clear hg (by decide)),
    State.get_setOn_leaves (Fld.leaves_of_clear hg (by decide))]
  unfold State.applyIf
  split
  · rw [State.get_setOn_leaves (Fld.leaves_of_clear hg (by decide)), hguard, hguard]
  · rw [hguard, hguard]

omit hword in
theorem get_markSafestop (hg : g.clearOf [F.SAF_STAT_SAFESTOP, F.SAF_PSTAT_SAFESTOP, F.MOT_STAT_SAFESTOP] = true) (s : State) (v : Bool) :
    (s.markSafestop v).get g = s.get g := by
  unfold State.markSafestop State.applyIf
  split
  · rw [State.get_setOn_leaves (Fld.leaves_of_clear hg (by decide)), State.get_setOn_leaves (Fld.leaves_of_clear hg (by decide)),
      State.get_setOn_leaves (Fld.leaves_of_clear hg (by decide))]
  · rw [State.get_setOn_leaves (Fld.leaves_of_clear hg (by decide)), State.get_setOn_leaves (Fld.leaves_of_clear hg (by decide))]

theorem get_abortTest (hg : g.clearOf [F.SAF_IFLAG_BTEST, F.SAF_BTST0_RESULT, F.SAF_BTST1_RESULT] = true) (s : State) (b : Nat) :
    (s.abortTest b).get g = s.get g := by
  have hresult : (resultField b).leaves g = true := by
    unfold resultField
    split
    · exact Fld.leaves_of_clear hg (by decide)
    · exact Fld.leaves_of_clear hg (by decide)
  have hdrive := fun (u : State) => (altersOf (alters_driveTested u b)).get_rest hword (by decide +kernel)
  have hflag : ∀ f, ((s.flag F.SAF_IFLAG_BTEST).onSaf f).get g = s.get g := fun _ =>
    State.get_flag_leaves (Fld.leaves_of_clear hg (by decide)) s
  unfold State.abortTest
  dsimp only
  split
  · rw [State.get_set_leaves hresult, hdrive, hflag]
  · have hnot : ∀ u : State, (u.notTestable b).get g = (u.set (resultField b) 3).get g := fun _ => rfl
    rw [hnot, State.get_set_leaves hresult, hdrive, hflag]

/-- Outside SAFESTOP and its copies a stop leaves the field. -/
theorem get_showSafestop (hg : g.clearOf stopFields = true) (s : State) : s.showSafestop.get g = s.get g := by
  have hclear : ∀ l : List Fld, l ⊆ stopFields → g.clearOf l = true := fun l hl =>
    List.all_eq_true.mpr fun f hf => Fld.leaves_of_clear hg (hl hf)
  have hmark := fun v => get_markSafestop (hclear _ (by decide)) s v
  rw [showSafestop_eq]
  split
  · unfold State.abortBrakeTests
    refine (foldl_keeps (fun t : State => t.get g = s.get g) (fun t b h => ?_) _ ?_)
    · exact (get_abortTest hword (hclear _ (by decide)) t b).trans h
    · refine ((altersOf (alters_stopAllAxes _ 8)).get_rest hword (by decide +kernel)).trans ?_
      exact (State.get_flag_leaves (Fld.leaves_of_clear hg (by decide)) _).trans (hmark _)
  · split
    · exact hmark _
    · exact hmark _

theorem get_showChgil (hg : g.clearOf chgilFields = true) (s : State) : s.showChgil.get g = s.get g := by
  unfold State.showChgil
  dsimp only
  have hset : ((s.applyIf (s.chgilCond != s.on F.SAF_STAT_CHGIL) fun s => s.flag F.SAF_IFLAG_CHGIL).setOn F.SAF_STAT_CHGIL
      s.chgilCond).get g = s.get g := by
    rw [State.get_setOn_leaves (Fld.leaves_of_clear hg (by decide))]
    unfold State.applyIf
    split
    · exact State.get_flag_leaves (Fld.leaves_of_clear hg (by decide)) _
    · rfl
  split
  · exact hset
  · exact ((altersOf (alters_coilRelease _ 3)).get_rest hword (by decide +kernel)).trans hset

omit hword in
theorem get_driveBrake (hg : g.clearOf [F.SAF_STAT_BRKREL] = true) (s : State) (b : Nat) : (s.driveBrake b).get g = s.get g := by
  unfold State.driveBrake
  dsimp only
  split
  · rfl
  · split
    · exact State.get_set_leaves (Fld.leaves_of_clear hg (by decide)) _ _
    · rfl

/-- After the outputs have followed the conditions, the brakes leave every field but BRKREL. -/
theorem get_safetyEval_outputs (hg : g.clearOf [F.SAF_STAT_BRKREL] = true) (s : State) : s.safetyEval.get g = s.evalOutputs.get g := by
  have hwaits := fun (u : State) b => (altersOf (alters_endWaits u b)).get_rest hword (by decide +kernel)
  have hduty : ∀ (u : State) b, (u.brakeDuty b).get g = u.get g := fun _ _ => rfl
  rw [safetyEval_eq, hwaits, hwaits, hduty, hduty, get_driveBrake hg, get_driveBrake hg]

end

theorem get_showProp (s : State) (g : Fld) : s.showProp.get g = s.get g := rfl

/-- A field outside what an evaluation alters stays, up to the state in which PROP_EN is decided and to the end. -/
theorem get_beforeProp {g : Fld} (h : g.outEval = true) (s : State) : s.evalSeen.showSafestop.get g = s.get g := by
  obtain ⟨hseen, hstop, -, -, hword⟩ := Fld.outEval_iff.mp h
  exact (get_showSafestop hword hstop _).trans (get_evalSeen hword hseen _)

theorem get_evalOutputs {g : Fld} (h : g.outEval = true) (s : State) : s.evalOutputs.get g = s.get g := by
  obtain ⟨hseen, -, hchgil, -, hword⟩ := Fld.outEval_iff.mp h
  refine (State.get_setOn_leaves (Fld.leaves_of_clear hseen (by decide)) _ _).trans ?_
  rw [get_showChgil hword hchgil, get_showProp, get_beforeProp h]

theorem State.get_safetyEval {g : Fld} (h : g.outEval = true) (s : State) : s.safetyEval.get g = s.get g := by
  obtain ⟨-, -, -, hbrake, hword⟩ := Fld.outEval_iff.mp h
  exact (get_safetyEval_outputs hword hbrake s).trans (get_evalOutputs h s)

theorem State.on_safetyEval {g : Fld} (h : g.outEval = true) (s : State) : s.safetyEval.on g = s.on g :=
  congrArg (· == 1) (State.get_safetyEval h s)

end Sys2Proof.Machine
end

section
/-! What island 6 keeps beside its words over an evaluation, PROP_EN, and the latched safe state (R386 to R390). -/
set_option Elab.async false
namespace Sys2Proof.Machine
open Host

/-- What only faults, the safety link and the end of degraded time change, and whether PROP_EN is held off. -/
def SafetySt.steady (x : SafetySt) : List Nat × Bool × Option Nat × Option Nat × Nat × Option Nat × Bool :=
  (x.brkExpired, x.propExpired, x.degrUntil, x.propRetry, x.baseline, x.wdtAt, x.propHeld)

theorem steady_noteGuard (s : State) (n : Nat) : (s.noteGuard n).saf.steady = s.saf.steady := by
  unfold State.noteGuard
  split
  · split <;> rfl
  · rfl

theorem markSafestop_saf (s : State) (v : Bool) : (s.markSafestop v).saf = s.saf := by
  unfold State.markSafestop State.applyIf
  split
  · rw [State.setOn_saf, State.setOn_saf, State.setOn_saf]
  · rw [State.setOn_saf, State.setOn_saf]

theorem steady_evalSeen (s : State) : s.evalSeen.saf.steady = s.saf.steady := by
  unfold State.evalSeen State.applyIf
  dsimp only
  rw [State.setOn_saf, State.setOn_saf, State.setOn_saf]
  split
  · rw [State.setOn_saf, steady_noteGuard, steady_noteGuard]
  · rw [steady_noteGuard, steady_noteGuard]

theorem steady_abortTest (s : State) (b : Nat) : (s.abortTest b).saf.steady = s.saf.steady := by
  have hdrive := fun (u : State) => (altersOf (alters_driveTested u b)).saf (by decide +kernel)
  have hflag := State.flag_saf s F.SAF_IFLAG_BTEST
  have hnot : ∀ u : State, (u.notTestable b).saf.steady = (u.set (resultField b) 3).saf.steady := fun _ => rfl
  unfold State.abortTest
  dsimp only
  split
  · rw [State.set_saf, hdrive]
    exact Eq.trans (b := (s.flag F.SAF_IFLAG_BTEST).saf.steady) rfl (congrArg SafetySt.steady hflag)
  · rw [hnot, State.set_saf, hdrive]
    exact Eq.trans (b := (s.flag F.SAF_IFLAG_BTEST).saf.steady) rfl (congrArg SafetySt.steady hflag)

theorem steady_showSafestop (s : State) : s.showSafestop.saf.steady = s.saf.steady := by
  have hmark := fun v => congrArg SafetySt.steady (markSafestop_saf s v)
  rw [showSafestop_eq]
  split
  · unfold State.abortBrakeTests
    refine foldl_keeps (fun t : State => t.saf.steady = s.saf.steady) (fun t b h => (steady_abortTest t b).trans h) _ ?_
    rw [(altersOf (alters_stopAllAxes _ 8)).saf (by decide +kernel)]
    exact (congrArg SafetySt.steady (State.flag_saf _ _)).trans (hmark _)
  · split
    · exact hmark _
    · exact hmark _

theorem steady_driveBrake (s : State) (b : Nat) : (s.driveBrake b).saf.steady = s.saf.steady := by
  unfold State.driveBrake
  dsimp only
  split
  · rfl
  · split
    · rw [State.set_saf]; rfl
    · rfl

/-- The state in which an evaluation decides PROP_EN. -/
def State.beforeProp (s : State) : State := s.evalSeen.showSafestop

theorem steady_beforeProp (s : State) : s.beforeProp.saf.steady = s.saf.steady :=
  (steady_showSafestop _).trans (steady_evalSeen s)

theorem steady_afterProp (s : State) : s.safetyEval.saf.steady = s.beforeProp.showProp.saf.steady := by
  have hchgil := fun u : State => (altersOf (alters_showChgil u)).saf (by decide +kernel)
  have hwaits := fun (u : State) b => (altersOf (alters_endWaits u b)).saf (by decide +kernel)
  have hduty : ∀ (u : State) b, (u.brakeDuty b).saf.steady = u.saf.steady := fun _ _ => rfl
  rw [safetyEval_eq, hwaits, hwaits, hduty, hduty, steady_driveBrake, steady_driveBrake]
  unfold State.evalOutputs
  dsimp only
  rw [State.setOn_saf, hchgil]
  rfl

/-- What an evaluation keeps. -/
theorem safetyEval_kept (s : State) : s.safetyEval.saf.brkExpired = s.saf.brkExpired ∧ s.safetyEval.saf.propExpired = s.saf.propExpired ∧
    s.safetyEval.saf.degrUntil = s.saf.degrUntil ∧ s.safetyEval.saf.propRetry = s.saf.propRetry ∧
    s.safetyEval.saf.baseline = s.saf.baseline ∧ s.safetyEval.saf.wdtAt = s.saf.wdtAt := by
  have hafter := steady_afterProp s
  have hbefore := steady_beforeProp s
  unfold SafetySt.steady at hafter hbefore
  simp only [Prod.mk.injEq] at hafter hbefore
  obtain ⟨h1, h2, h3, h4, h5, h6, -⟩ := hafter
  obtain ⟨g1, g2, g3, g4, g5, g6, -⟩ := hbefore
  exact ⟨h1.trans g1, h2.trans g2, h3.trans g3, h4.trans g4, h5.trans g5, h6.trans g6⟩

/-- PROP_EN is held off from then on where it was, or where degraded time has expired and it is off. -/
theorem safetyEval_propHeld (s : State) :
    s.safetyEval.saf.propHeld = (s.saf.propHeld || (s.saf.propExpired && !s.beforeProp.propCond)) := by
  have hafter := steady_afterProp s
  have hbefore := steady_beforeProp s
  unfold SafetySt.steady at hafter hbefore
  simp only [Prod.mk.injEq] at hafter hbefore
  obtain ⟨-, -, -, -, -, -, hheld⟩ := hafter
  obtain ⟨-, hexp, -, -, -, -, hheld'⟩ := hbefore
  rw [hheld, ← hheld', ← hexp]
  rfl

/-! ### PROP_EN -/

/-- An evaluation drives PROP_EN by its conditions and leaves the other pins as they are. -/
theorem safetyEval_propEn (s : State) : s.safetyEval.pins = { s.pins with propEn := s.beforeProp.propCond } := by
  have hguard := fun (u : State) g => (altersOf (alters_noteGuard u g)).pins (by decide +kernel)
  have hstop := fun u : State => (altersOf (alters_showSafestop u)).pins (by decide +kernel)
  have hchgil := fun u : State => (altersOf (alters_showChgil u)).pins (by decide +kernel)
  have hbrake := fun (u : State) b => (altersOf (alters_driveBrake u b)).pins (by decide +kernel)
  have hduty := fun (u : State) b => (altersOf (alters_brakeDuty u b)).pins (by decide +kernel)
  have hwaits := fun (u : State) b => (altersOf (alters_endWaits u b)).pins (by decide +kernel)
  have hseen : s.evalSeen.pins = s.pins := by
    unfold State.evalSeen State.applyIf
    dsimp only
    rw [State.setOn_pins, State.setOn_pins, State.setOn_pins]
    split
    · rw [State.setOn_pins, hguard, hguard]
    · rw [hguard, hguard]
  rw [safetyEval_eq, hwaits, hwaits, hduty, hduty, hbrake, hbrake]
  unfold State.evalOutputs
  dsimp only
  rw [State.setOn_pins, hchgil, State.showProp_pins, hstop, hseen]
  rfl

theorem propCond_of_sfault {s : State} (h : s.on F.SAF_STAT_SFAULT = true) : s.propCond = false := by
  unfold State.propCond State.sfault
  rw [h]
  simp

theorem propCond_of_held {s : State} (h : s.saf.propHeld = true) : s.propCond = false := by
  unfold State.propCond
  rw [h]
  simp

theorem propCond_of_retry {s : State} {t : Nat} (h : s.saf.propRetry = some t) : s.propCond = false := by
  unfold State.propCond
  rw [h]
  simp

theorem propHeld_beforeProp (s : State) : s.beforeProp.saf.propHeld = s.saf.propHeld := by
  have h := steady_beforeProp s
  unfold SafetySt.steady at h
  simp only [Prod.mk.injEq] at h
  exact h.2.2.2.2.2.2

theorem propRetry_beforeProp (s : State) : s.beforeProp.saf.propRetry = s.saf.propRetry := by
  have h := steady_beforeProp s
  unfold SafetySt.steady at h
  simp only [Prod.mk.injEq] at h
  obtain ⟨-, -, -, hretry, -⟩ := h
  exact hretry

/-! ### The latched safe state -/

theorem showSafestop_safestop (s : State) : s.showSafestop.on F.SAF_STAT_SAFESTOP = s.safestopCond := by
  have hmark : ∀ v, (s.markSafestop v).on F.SAF_STAT_SAFESTOP = v := fun v => by
    unfold State.markSafestop State.applyIf
    split
    · rw [State.on_setOn_leaves (by decide), State.on_setOn_leaves (by decide), State.on_setOn_okay (by decide)]
    · rw [State.on_setOn_leaves (by decide), State.on_setOn_okay (by decide)]
  have hword : evalRest.testBit (wordBit F.SAF_STAT_SAFESTOP.addr) = false := by decide +kernel
  rw [showSafestop_eq]
  split
  · unfold State.abortBrakeTests
    refine foldl_keeps (fun t : State => t.on F.SAF_STAT_SAFESTOP = s.safestopCond) (fun t b h => ?_) _ ?_
    · exact (congrArg (· == 1) (get_abortTest hword (by decide) t b)).trans h
    · refine (congrArg (· == 1) ((altersOf (alters_stopAllAxes _ 8)).get_rest hword (by decide +kernel))).trans ?_
      exact (State.on_flag_leaves (by decide) _).trans (hmark _)
  · split
    · exact hmark _
    · exact hmark _

theorem safetyEval_safestop (s : State) : s.safetyEval.on F.SAF_STAT_SAFESTOP = s.evalSeen.safestopCond := by
  have hword : evalRest.testBit (wordBit F.SAF_STAT_SAFESTOP.addr) = false := by decide +kernel
  have hout : s.evalOutputs.get F.SAF_STAT_SAFESTOP = s.evalSeen.showSafestop.get F.SAF_STAT_SAFESTOP := by
    refine (State.get_setOn_leaves (by decide) _ _).trans ?_
    rw [get_showChgil hword (by decide), get_showProp]
  have h := (get_safetyEval_outputs hword (by decide) s).trans hout
  exact (congrArg (· == 1) h).trans (showSafestop_safestop _)

theorem showChgil_chgil (s : State) : s.showChgil.on F.SAF_STAT_CHGIL = s.chgilCond := by
  unfold State.showChgil
  dsimp only
  split
  · exact State.on_setOn_okay (by decide) _ _
  · rw [(altersOf (alters_coilRelease _ 3)).on _ (by decide +kernel)]
    exact State.on_setOn_okay (by decide) _ _

theorem safetyEval_chgil (s : State) : s.safetyEval.on F.SAF_STAT_CHGIL = s.beforeProp.showProp.chgilCond := by
  have hword : evalRest.testBit (wordBit F.SAF_STAT_CHGIL.addr) = false := by decide +kernel
  have h := (get_safetyEval_outputs hword (by decide) s).trans (State.get_setOn_leaves (f := F.SAF_STAT_CD3OPEN) (by decide) _ _)
  exact (congrArg (· == 1) h).trans (showChgil_chgil _)

theorem safestopCond_of_sfault {s : State} (h : s.on F.SAF_STAT_SFAULT = true) : s.safestopCond = true := by
  unfold State.safestopCond State.sfault
  rw [h]
  simp

theorem chgilCond_of_sfault {s : State} (h : s.on F.SAF_STAT_SFAULT = true) : s.chgilCond = false := by
  unfold State.chgilCond State.sfault
  rw [h]
  simp

theorem wantsRelease_of_sfault {s : State} (h : s.on F.SAF_STAT_SFAULT = true) (b : Nat) : s.wantsRelease b = false := by
  unfold State.wantsRelease State.sfault
  rw [h]
  rfl

/-- The brakes released, as an evaluation leaves them. -/
theorem safetyEval_released (s : State) (b : Nat) :
    s.safetyEval.brakeReleased b = ((s.evalOutputs.driveBrake 0).driveBrake 1).brakeReleased b := by
  have hwaits := fun (u : State) b => (altersOf (alters_endWaits u b)).saf (by decide +kernel)
  have hduty : ∀ (u : State) c, (u.brakeDuty c).saf.releasedAt = u.saf.releasedAt := fun _ _ => rfl
  unfold State.brakeReleased
  rw [safetyEval_eq, hwaits, hwaits, hduty, hduty]

/-- A brake that is not to be released is engaged. -/
theorem driveBrake_engages {s : State} {b : Nat} (h : s.wantsRelease b = false) : (s.driveBrake b).brakeReleased b = false := by
  unfold State.driveBrake
  rw [h]
  dsimp only
  cases hrel : s.brakeReleased b with
  | false => exact hrel
  | true =>
    show (((s.onSaf _).set F.SAF_STAT_BRKREL _).saf.releasedAt.any _) = false
    rw [State.set_saf]
    show ((s.saf.releasedAt.filter fun e => e.1 != b).any fun e => e.1 == b) = false
    rw [List.any_eq_false]
    intro e he
    simpa using (List.mem_filter.mp he).2

theorem driveBrake_keeps_engaged {s : State} {b c : Nat} (h : s.wantsRelease c = false) (hb : s.brakeReleased b = false) :
    (s.driveBrake c).brakeReleased b = false := by
  unfold State.driveBrake
  rw [h]
  dsimp only
  cases hrel : s.brakeReleased c with
  | false => exact hb
  | true =>
    show (((s.onSaf _).set F.SAF_STAT_BRKREL _).saf.releasedAt.any _) = false
    rw [State.set_saf]
    show ((s.saf.releasedAt.filter fun e => e.1 != c).any fun e => e.1 == b) = false
    rw [List.any_eq_false]
    exact fun e he => List.any_eq_false.mp hb e (List.mem_filter.mp he).1

/-- What a latched fault leaves of the outputs of island 6. -/
theorem safetyEval_of_sfault {s : State} (h : s.on F.SAF_STAT_SFAULT = true) : s.safetyEval.on F.SAF_STAT_SFAULT = true ∧
    s.safetyEval.pins.propEn = false ∧ s.safetyEval.brakeReleased 0 = false ∧ s.safetyEval.brakeReleased 1 = false ∧
    s.safetyEval.on F.SAF_STAT_CHGIL = false ∧ s.safetyEval.on F.SAF_STAT_SAFESTOP = true := by
  have hout : F.SAF_STAT_SFAULT.outEval = true := by decide +kernel
  have hbefore : s.beforeProp.on F.SAF_STAT_SFAULT = true := (congrArg (· == 1) (get_beforeProp hout s)).trans h
  have houtputs : s.evalOutputs.on F.SAF_STAT_SFAULT = true := (congrArg (· == 1) (get_evalOutputs hout s)).trans h
  have hfirst : (s.evalOutputs.driveBrake 0).on F.SAF_STAT_SFAULT = true :=
    (congrArg (· == 1) (get_driveBrake (by decide) _ _)).trans houtputs
  have hseen : s.evalSeen.on F.SAF_STAT_SFAULT = true :=
    (congrArg (· == 1) (get_evalSeen (by decide +kernel) (by decide) s)).trans h
  have hengaged := driveBrake_engages (wantsRelease_of_sfault houtputs 0)
  refine ⟨(State.on_safetyEval hout s).trans h, ?_, ?_, ?_, ?_, ?_⟩
  · rw [safetyEval_propEn, propCond_of_sfault hbefore]
  · rw [safetyEval_released]
    exact driveBrake_keeps_engaged (wantsRelease_of_sfault hfirst 1) hengaged
  · rw [safetyEval_released]
    exact driveBrake_engages (wantsRelease_of_sfault hfirst 1)
  · rw [safetyEval_chgil]
    exact chgilCond_of_sfault (s := s.beforeProp.showProp) hbefore
  · rw [safetyEval_safestop]
    exact safestopCond_of_sfault hseen

end Sys2Proof.Machine
end

section
/-! Safety faults: switches found stuck, the latched safe state, PROP_EN read back, and the end of degraded time (R383, R387, R390). -/
set_option Elab.async false
namespace Sys2Proof.Machine
open Host

/-- An event with its flag stays raised while only events are added. -/
theorem raised_flagEvent_of_sends {s a t : State} (h : a.rsm.inbox = s.rsm.inbox) (f : Fld) (cls : Nat) (effects : List Nat)
    (ht : Sends (a.flagEvent f cls effects) t) : raised s t f.page (.flag f.lo) cls := by
  refine raised_of_sends (raised_flagEvent h f cls effects) ?_ ht
  rw [← h]
  exact (sends_flagEvent (sends_refl a)).inbox

/-! ### The safe state -/

/-- The words of a fault of island 6, before its outputs follow. -/
def State.faultShown (s : State) (code : Nat) : State :=
  (((((s.set F.SAF_FAULT_FRAME (s.frame.toNat % 65536)).set F.SAF_FAULT_CODE code).setOn F.SAF_STAT_SFAULT true).setOn
    F.SAF_PSTAT_SFAULT true).flagEvent F.SAF_IFLAG_SFAULT 3 [F.SAF_FAULT_CODE.addr])

theorem safetyFault_first {s : State} (h : s.sfault = false) (code : Nat) : s.safetyFault code = (s.faultShown code).safetyEval :=
  if_neg (by rw [h]; decide)

theorem safetyFault_later {s : State} (h : s.sfault = true) (code : Nat) : s.safetyFault code = s := if_pos h

theorem safeLatched_safetyFault {s : State} (h : s.sfault = false) {code : Nat} (hcode : code < 256) :
    Claims.safeLatched s (s.safetyFault code) code := by
  rw [safetyFault_first h]
  have hshown : (s.faultShown code).on F.SAF_STAT_SFAULT = true :=
    (State.on_flagEvent_leaves (by decide) _ _ _).trans ((State.on_setOn_leaves (by decide) _ _).trans (State.on_setOn_okay (by decide) _ _))
  obtain ⟨hfault, hprop, h0, h1, hchgil, hstop⟩ := safetyEval_of_sfault hshown
  refine ⟨hfault, ?_, ?_, hprop, h0, h1, hchgil, hstop, ?_, ?_⟩
  · rw [State.get_safetyEval (by decide +kernel)]
    unfold State.faultShown
    rw [State.get_flagEvent_leaves (by decide), State.get_setOn_leaves (by decide), State.get_setOn_leaves (by decide)]
    exact State.get_set_lt (by decide) hcode _
  · rw [State.get_safetyEval (by decide +kernel)]
    unfold State.faultShown
    rw [State.get_flagEvent_leaves (by decide), State.get_setOn_leaves (by decide), State.get_setOn_leaves (by decide),
      State.get_set_leaves (by decide)]
    exact State.get_set_lt (by decide) (Nat.mod_lt _ (by decide)) _
  · rw [State.on_safetyEval (by decide +kernel)]
    exact State.on_flagEvent_okay (by decide) _ _ _
  · refine raised_flagEvent_of_sends ?_ F.SAF_IFLAG_SFAULT 3 [F.SAF_FAULT_CODE.addr] (sends_safetyEval _ (sends_refl _))
    rw [State.setOn_rsm, State.setOn_rsm, State.set_rsm, State.set_rsm]

/-! ### Switches found stuck -/

/-- The number of the other switch of an output. -/
theorem otherSwitch (c : Nat) : (if c % 2 = 0 then c + 1 else c - 1) = c + 1 - c % 2 * 2 := by split <;> omega

/-- The degraded output with its cause and its time. -/
def State.outputDegraded (s : State) (c : Nat) : State :=
  ((((((s.set F.SAF_DEGR_CAUSE (withBit (s.get F.SAF_DEGR_CAUSE) c true)).onSaf fun x => { x with
    degrUntil := some ((s.set F.SAF_DEGR_CAUSE (withBit (s.get F.SAF_DEGR_CAUSE) c true)).now +
      (s.set F.SAF_DEGR_CAUSE (withBit (s.get F.SAF_DEGR_CAUSE) c true)).get F.SAF_CFG_DTIME * 3600000000) }).set
    F.SAF_DEGR_LEFT ((s.set F.SAF_DEGR_CAUSE (withBit (s.get F.SAF_DEGR_CAUSE) c true)).get F.SAF_CFG_DTIME * 60)).setOn
    F.SAF_STAT_SDEGR true).setOn F.SAF_PSTAT_SDEGR true).flagEvent F.SAF_IFLAG_SDEGR 2 [F.SAF_DEGR_CAUSE.addr])

theorem stuckSwitch_first {s : State} {c : Nat} (hother : bit (s.get F.SAF_DEGR_CAUSE) (c + 1 - c % 2 * 2) = false)
    (hc : bit (s.get F.SAF_DEGR_CAUSE) c = false) (code : Nat) : s.stuckSwitch c code = s.outputDegraded c :=
  (if_neg (by rw [otherSwitch, hother]; decide)).trans (if_neg (by rw [hc]; decide))

theorem stuckSwitch_second {s : State} {c : Nat} (hother : bit (s.get F.SAF_DEGR_CAUSE) (c + 1 - c % 2 * 2) = true) (code : Nat) :
    s.stuckSwitch c code = s.safetyFault code := if_pos (by rw [otherSwitch]; exact hother)

theorem degraded_shown (s : State) {c : Nat} (hc : c < 6) : (s.outputDegraded c).on F.SAF_STAT_SDEGR = true ∧
    bit ((s.outputDegraded c).get F.SAF_DEGR_CAUSE) c = true ∧ (s.outputDegraded c).on F.SAF_IFLAG_SDEGR = true ∧
    (s.outputDegraded c).saf.degrUntil = some (s.now + s.get F.SAF_CFG_DTIME * 3600000000) ∧
    raised s (s.outputDegraded c) 0x18 (.flag F.SAF_IFLAG_SDEGR.lo) 2 ∧ (s.outputDegraded c).pins = s.pins := by
  unfold State.outputDegraded
  generalize hu : s.set F.SAF_DEGR_CAUSE (withBit (s.get F.SAF_DEGR_CAUSE) c true) = u
  have hcause : bit (u.get F.SAF_DEGR_CAUSE) c = true := by
    rw [← hu, State.get_set_withBit (by decide) (by exact hc), bit_withBit_same]
  have hnow : u.now = s.now := hu ▸ State.set_now ..
  have htime : u.get F.SAF_CFG_DTIME = s.get F.SAF_CFG_DTIME := hu ▸ State.get_set_leaves (by decide) _ _
  have hrsm : u.rsm = s.rsm := hu ▸ State.set_rsm ..
  have hpins : u.pins = s.pins := hu ▸ State.set_pins ..
  refine ⟨?_, ?_, State.on_flagEvent_okay (by decide) _ _ _, ?_, ?_, ?_⟩
  · rw [State.on_flagEvent_leaves (by decide), State.on_setOn_leaves (by decide)]
    exact State.on_setOn_okay (by decide) _ _
  · rw [State.get_flagEvent_leaves (by decide), State.get_setOn_leaves (by decide), State.get_setOn_leaves (by decide),
      State.get_set_leaves (by decide)]
    exact hcause
  · rw [State.flagEvent_saf, State.setOn_saf, State.setOn_saf, State.set_saf, hnow, htime]
    rfl
  · refine raised_flagEvent ?_ F.SAF_IFLAG_SDEGR 2 _
    rw [State.setOn_rsm, State.setOn_rsm, State.set_rsm, ← hrsm]
    rfl
  · rw [State.flagEvent_pins, State.setOn_pins, State.setOn_pins, State.set_pins]
    exact hpins

theorem stuckFound_stuckSwitch {s : State} (h : s.sfault = false) {c code : Nat} (hc : c < 6) (hcode : code < 256) :
    Claims.stuckFound s (s.stuckSwitch c code) c code := by
  refine ⟨fun hother hfree => ?_, fun hother => ?_⟩
  · rw [stuckSwitch_first hother hfree]
    exact degraded_shown s hc
  · rw [stuckSwitch_second hother]
    exact safeLatched_safetyFault h hcode

theorem execBrakeSwitchPulse_claim (b side : Nat) (s : State) : Claims.brakeSwitchPulse b side s := by
  intro hb hside hrel hfault
  have hexec : exec (.brakeSwitchPulse b side false) s = .next (s.stuckSwitch (2 * b + side % 2) 3) := if_pos ⟨hb, hrel, rfl⟩
  refine ⟨_, hexec, ?_⟩
  rw [Nat.mod_eq_of_lt hside]
  exact stuckFound_stuckSwitch hfault (by omega) (by decide)

theorem execPropEnPulse_claim (sw : Nat) (s : State) : Claims.propEnPulse sw s := by
  intro hsw hcmd hfault
  have hexec : exec (.propEnPulse sw false) s = .next (s.stuckSwitch (4 + sw % 2) 2) := if_pos (by rw [hcmd]; rfl)
  refine ⟨_, hexec, ?_⟩
  rw [Nat.mod_eq_of_lt hsw]
  exact stuckFound_stuckSwitch hfault (by omega) (by decide)

theorem pulsesPass_claim (b side sw : Nat) (s : State) : Claims.pulsesPass b side sw s :=
  ⟨if_neg (by rintro ⟨-, -, h⟩; cases h), if_neg (by simp)⟩

theorem execBrakeEngagedReadback_claim (b : Nat) (s : State) : Claims.brakeEngagedReadback b s := fun hruns hb hrel hfault =>
  ⟨_, if_pos ⟨hruns, hb, hrel⟩, safeLatched_safetyFault hfault (by decide)⟩

theorem execSafetySelfTestSlice_claim (s : State) : Claims.safetySelfTestSlice s := fun hruns hfault =>
  ⟨_, if_pos (by rw [hruns]; rfl), safeLatched_safetyFault hfault (by decide)⟩

theorem selfTestPasses_claim (s : State) : Claims.selfTestPasses s := if_neg (by simp)

/-! ### PROP_EN -/

/-- A retry of PROP_EN that has come due. -/
def State.propRetried (s : State) : State :=
  match s.saf.propRetry with
  | some t => s.applyIf (decide (t ≤ s.now)) fun s => s.onSaf fun x => { x with propRetry := none }
  | none => s

/-- PROP_EN as it reads back. -/
def State.propShown (s : State) (high : Bool) : State :=
  s.applyIf (high != s.on F.SAF_STAT_PROP_EN) fun s => (s.setOn F.SAF_STAT_PROP_EN high).flag F.SAF_IFLAG_PROP

/-- The output has been read back, at odds with its command or not. -/
def State.propNoted (s : State) (high : Bool) : State :=
  s.onSaf fun x => { x with propBadSince := if high && !s.saf.propCmd then some (s.saf.propBadSince.getD s.now) else none }

/-- The state in which a read-back of PROP_EN is decided. -/
def State.propRead (s : State) (high : Bool) : State := ((s.advanceTo ((s.now / 100 + 1) * 100)).propRetried).propShown high

theorem execPropEnReadback_run {s : State} (h : s.running = true) (high : Bool) : exec (.propEnReadback high) s =
    if (high && !(s.propRead high).saf.propCmd) && decide ((s.propRead high).saf.propBadSince.getD (s.propRead high).now + 1000 ≤
        ((s.propRead high).propNoted high).now) then .next (((s.propRead high).propNoted high).safetyFault 2)
    else .next ((s.propRead high).propNoted high).safetyEval := if_neg (by rw [h]; decide)

theorem propShown_shown (s : State) (high : Bool) : (s.propShown high).on F.SAF_STAT_PROP_EN = high ∧
    (high ≠ s.on F.SAF_STAT_PROP_EN → (s.propShown high).on F.SAF_IFLAG_PROP = true) := by
  unfold State.propShown State.applyIf
  split
  · exact ⟨(State.on_flag_leaves (by decide) _).trans (State.on_setOn_okay (by decide) _ _), fun _ => State.on_flag_okay (by decide) _⟩
  · rename_i h
    have heq : s.on F.SAF_STAT_PROP_EN = high := by simpa using Eq.symm (by simpa using h)
    exact ⟨heq, fun hne => absurd heq.symm hne⟩

theorem propRetried_same (s : State) : s.propRetried.regs = s.regs ∧ s.propRetried.now = s.now ∧
    s.propRetried.saf.propCmd = s.saf.propCmd ∧ s.propRetried.saf.propBadSince = s.saf.propBadSince ∧ s.propRetried.rsm = s.rsm := by
  unfold State.propRetried State.applyIf
  split
  · split <;> exact ⟨rfl, rfl, rfl, rfl, rfl⟩
  · exact ⟨rfl, rfl, rfl, rfl, rfl⟩

theorem propShown_same (s : State) (high : Bool) : (s.propShown high).now = s.now ∧ (s.propShown high).saf = s.saf ∧
    (s.propShown high).rsm = s.rsm ∧ (s.propShown high).on F.SAF_STAT_SFAULT = s.on F.SAF_STAT_SFAULT := by
  unfold State.propShown State.applyIf
  split
  · exact ⟨(State.flag_now _ _).trans (State.setOn_now _ _ _), (State.flag_saf _ _).trans (State.setOn_saf _ _ _),
      (State.flag_rsm _ _).trans (State.setOn_rsm _ _ _),
      (State.on_flag_leaves (by decide) _).trans (State.on_setOn_leaves (by decide) _ _)⟩
  · exact ⟨rfl, rfl, rfl, rfl⟩

theorem now_of_readback (s : State) : (s.advanceTo ((s.now / 100 + 1) * 100)).now = (s.now / 100 + 1) * 100 :=
  Nat.max_eq_right (by omega)

theorem propRead_now (s : State) (high : Bool) : (s.propRead high).now = (s.now / 100 + 1) * 100 := by
  unfold State.propRead
  rw [(propShown_same _ high).1, (propRetried_same _).2.1, now_of_readback]

/-- A fault, or an evaluation without one, leaves the time and the fields that an evaluation leaves. -/
theorem safetyFault_kept {g : Fld} (h : g.outEval = true) (hleaves : g.clearOf [F.SAF_FAULT_FRAME, F.SAF_FAULT_CODE, F.SAF_STAT_SFAULT,
    F.SAF_PSTAT_SFAULT, F.SAF_IFLAG_SFAULT] = true) (s : State) (code : Nat) : (s.safetyFault code).on g = s.on g := by
  cases hs : s.sfault with
  | true => rw [safetyFault_later hs]
  | false =>
    rw [safetyFault_first hs, State.on_safetyEval h]
    unfold State.faultShown
    rw [State.on_flagEvent_leaves (Fld.leaves_of_clear hleaves (by decide)), State.on_setOn_leaves (Fld.leaves_of_clear hleaves (by decide)),
      State.on_setOn_leaves (Fld.leaves_of_clear hleaves (by decide)), State.on_set_leaves (Fld.leaves_of_clear hleaves (by decide)),
      State.on_set_leaves (Fld.leaves_of_clear hleaves (by decide))]

theorem execPropEnReadback_claim (high : Bool) (s : State) : Claims.propEnReadback high s := by
  intro hrun
  have hnow := propRead_now s high
  have hreads : s.on F.SAF_STAT_PROP_EN = ((s.advanceTo ((s.now / 100 + 1) * 100)).propRetried).on F.SAF_STAT_PROP_EN := by
    unfold State.on State.get State.reg
    rw [(propRetried_same _).1]
    rfl
  obtain ⟨hprop, hflag⟩ := propShown_shown ((s.advanceTo ((s.now / 100 + 1) * 100)).propRetried) high
  have hnoted : ∀ g, ((s.propRead high).propNoted high).on g = (s.propRead high).on g := fun _ => rfl
  rw [execPropEnReadback_run hrun]
  split
  · refine ⟨_, rfl, ?_, ?_, fun hne => ?_⟩
    · rw [safetyFault_kept (by decide +kernel) (by decide), hnoted]; exact hprop
    · rw [(altersOf (alters_safetyFault _ 2)).now (by decide +kernel)]; exact hnow
    · rw [safetyFault_kept (by decide +kernel) (by decide), hnoted]; exact hflag (hreads ▸ hne)
  · refine ⟨_, rfl, ?_, ?_, fun hne => ?_⟩
    · rw [State.on_safetyEval (by decide +kernel), hnoted]; exact hprop
    · rw [(altersOf (alters_safetyEval _)).now (by decide +kernel)]; exact hnow
    · rw [State.on_safetyEval (by decide +kernel), hnoted]; exact hflag (hreads ▸ hne)

theorem execPropEnReadback_stuckHigh (e : Nat) (s : State) : Claims.propEnStuckHigh e s := by
  intro hrun hcmd hsince hlong hfault
  obtain ⟨-, -, hcmd', hsince', hrsm⟩ := propRetried_same (s.advanceTo ((s.now / 100 + 1) * 100))
  obtain ⟨-, hsaf, hrsm', hsfault⟩ := propShown_same ((s.advanceTo ((s.now / 100 + 1) * 100)).propRetried) true
  have hreadCmd : (s.propRead true).saf.propCmd = false := (congrArg SafetySt.propCmd hsaf).trans (hcmd'.trans hcmd)
  have hreadSince : (s.propRead true).saf.propBadSince = some e := (congrArg SafetySt.propBadSince hsaf).trans (hsince'.trans hsince)
  have hreadFault : ((s.propRead true).propNoted true).sfault = false := by
    refine Eq.trans (hsfault.trans ?_) hfault
    show (State.propRetried _).on _ = s.on _
    unfold State.on State.get State.reg
    rw [(propRetried_same _).1]
    rfl
  have hlong' : e + 1000 ≤ ((s.propRead true).propNoted true).now := by
    show _ ≤ (s.propRead true).now
    rw [propRead_now]
    omega
  obtain ⟨hshown, hcode, -, hprop, -, -, -, -, -, hraised⟩ := safeLatched_safetyFault hreadFault (code := 2) (by decide)
  rw [execPropEnReadback_run hrun, hreadCmd, hreadSince, if_pos (by simpa using hlong')]
  refine ⟨_, rfl, hshown, hcode, hprop, ?_⟩
  have hrsm'' : ((s.propRead true).propNoted true).rsm = s.rsm := hrsm'.trans hrsm
  unfold raised at hraised ⊢
  rw [hrsm''] at hraised
  exact hraised

theorem execPropEnLow_claim (s : State) : Claims.propEnLow s := by
  intro hcmd
  have hexec : exec .propEnLow s = .next (((s.onSaf fun x => { x with propRetry := some (s.now + 1000000) }).listed 0x18 3 1).safetyEval) :=
    if_pos hcmd
  have hraised := raised_listed (s := s) (a := s.onSaf fun x => { x with propRetry := some (s.now + 1000000) }) rfl 0x18 3 1 []
  have hinbox := (sends_listed (p := 0x18) (l := 3) (c := 1) (e := [])
    (sends_of_rsm (s := s) (t := s.onSaf fun x => { x with propRetry := some (s.now + 1000000) }) rfl)).inbox
  have hretry : ((s.onSaf fun x => { x with propRetry := some (s.now + 1000000) }).listed 0x18 3 1).saf.propRetry =
      some (s.now + 1000000) := rfl
  obtain ⟨-, -, -, hkept, -⟩ := safetyEval_kept ((s.onSaf fun x => { x with propRetry := some (s.now + 1000000) }).listed 0x18 3 1)
  refine ⟨_, hexec, hkept.trans hretry, ?_, raised_of_sends hraised hinbox (sends_safetyEval _ (sends_refl _))⟩
  rw [safetyEval_propEn, propCond_of_retry ((propRetry_beforeProp _).trans hretry)]

/-! ### The end of degraded time -/

theorem execSafetyDegradedExpiry_claim (e b : Nat) (s : State) : Claims.safetyDegradedExpiry e b s := by
  intro he hb
  have hexec : exec .safetyDegradedExpiry s = .next ((s.advanceTo e).expireDegraded.safetyEval) := by
    show execSafetyDegradedExpiry s = _
    unfold execSafetyDegradedExpiry
    rw [he]
  obtain ⟨hbrk, hprop, -⟩ := safetyEval_kept (s.advanceTo e).expireDegraded
  refine ⟨_, hexec, (altersOf (alters_safetyEval _)).now (by decide +kernel), fun hcause => ?_, fun hcause => ?_⟩
  · rw [hbrk]
    refine List.mem_filter.mpr ⟨by interval_cases b <;> decide, ?_⟩
    show ((s.saf.brkExpired.contains b || bit (s.get F.SAF_DEGR_CAUSE) (2 * b)) || bit (s.get F.SAF_DEGR_CAUSE) (2 * b + 1)) = true
    rcases hcause with h | h <;> rw [h] <;> simp
  · have hexpired : (s.advanceTo e).expireDegraded.saf.propExpired = true := by
      show ((s.saf.propExpired || bit (s.get F.SAF_DEGR_CAUSE) 4) || bit (s.get F.SAF_DEGR_CAUSE) 5) = true
      rcases hcause with h | h <;> rw [h] <;> simp
    refine ⟨hprop.trans hexpired, fun hcmd => ?_⟩
    have hheld : (s.advanceTo e).expireDegraded.saf.propHeld = true := by
      show (s.saf.propHeld || ((bit (s.get F.SAF_DEGR_CAUSE) 4 || bit (s.get F.SAF_DEGR_CAUSE) 5) && !s.saf.propCmd)) = true
      rw [hcmd]
      rcases hcause with h | h <;> rw [h] <;> simp
    refine ⟨?_, ?_⟩
    · rw [safetyEval_propHeld, hheld]; rfl
    · rw [safetyEval_propEn, propCond_of_held ((propHeld_beforeProp _).trans hheld)]

end Sys2Proof.Machine

/-- Settles O48: a fault latches the safe state through the evaluation that follows it, and that evaluation keeps what it found. -/
theorem safetyFaults : Obligations.SafetyFaults := by
  unfold Obligations.SafetyFaults
  exact ⟨Sys2Proof.Machine.execBrakeSwitchPulse_claim, Sys2Proof.Machine.execPropEnPulse_claim, Sys2Proof.Machine.pulsesPass_claim,
    Sys2Proof.Machine.execBrakeEngagedReadback_claim, Sys2Proof.Machine.execSafetySelfTestSlice_claim,
    Sys2Proof.Machine.selfTestPasses_claim, Sys2Proof.Machine.execPropEnReadback_claim, Sys2Proof.Machine.execPropEnReadback_stuckHigh,
    Sys2Proof.Machine.execPropEnLow_claim, Sys2Proof.Machine.execSafetyDegradedExpiry_claim⟩
end

section
/-! The safety link: frames received, frames sent, and the watchdog (R391 to R396). -/
set_option Elab.async false
namespace Sys2Proof.Machine
open Host

theorem safetyCrcCheck_claim : Claims.safetyCrcCheck := by
  unfold Claims.safetyCrcCheck
  decide +kernel

theorem crc8Check_claim : Claims.crc8Check := by
  unfold Claims.crc8Check
  decide +kernel

/-! ### Numbers as bytes -/

theorem bytesBE_lt (n v : Nat) : ∀ b ∈ bytesBE n v, b < 256 := by
  induction n with
  | zero => exact fun _ h => absurd h List.not_mem_nil
  | succ n ih =>
    intro b hb
    rcases List.mem_cons.mp hb with rfl | hb
    · exact Nat.mod_lt _ (by decide)
    · exact ih b hb

theorem read_bytesBE {n v : Nat} (h : v < 256 ^ n) : ofBytesBE (bytesBE n v) = v := by rw [ofBytesBE_bytesBE, Nat.mod_eq_of_lt h]

/-- Bytes sent as words of eight bits are read as they were. -/
theorem map_toNat_ofNat {l : List Nat} (h : ∀ b ∈ l, b < 256) : (l.map (BitVec.ofNat 8)).map (·.toNat) = l := by
  rw [List.map_map]
  refine (List.map_congr_left fun b hb => ?_).trans (List.map_id l)
  exact (BitVec.toNat_ofNat b 8).trans (Nat.mod_eq_of_lt (h b hb))

/-! ### A frame in order -/

/-- The first twelve bytes of a safety PDU. -/
def pduBody (id seq wdt data : Nat) : List Nat := bytesBE 4 id ++ bytesBE 2 seq ++ bytesBE 2 wdt ++ bytesBE 4 data

theorem pdu_bytes (id seq wdt data : Nat) : (Claims.pdu id seq wdt data).map (·.toNat) =
    pduBody id seq wdt data ++ bytesBE 4 (crcSafety (pduBody id seq wdt data)) := by
  unfold Claims.pdu
  refine map_toNat_ofNat fun b hb => ?_
  simp only [List.mem_append] at hb
  rcases hb with (((hb | hb) | hb) | hb) | hb <;> exact bytesBE_lt _ _ b hb

theorem pduBody_length (id seq wdt data : Nat) : (pduBody id seq wdt data).length = 12 := rfl

section
variable (id seq wdt data : Nat) (tail : List Nat)

theorem pdu_id : ((pduBody id seq wdt data ++ tail).drop 0).take 4 = bytesBE 4 id := rfl
theorem pdu_seq : ((pduBody id seq wdt data ++ tail).drop 4).take 2 = bytesBE 2 seq := rfl
theorem pdu_wdt : ((pduBody id seq wdt data ++ tail).drop 6).take 2 = bytesBE 2 wdt := rfl
theorem pdu_data : ((pduBody id seq wdt data ++ tail).drop 8).take 4 = bytesBE 4 data := rfl
theorem pdu_body : (pduBody id seq wdt data ++ tail).take 12 = pduBody id seq wdt data := rfl
end

theorem pdu_crc (id seq wdt data c : Nat) : ((pduBody id seq wdt data ++ bytesBE 4 c).drop 12).take 4 = bytesBE 4 c := rfl

theorem crcSafety_lt (l : List Nat) : crcSafety l < 2 ^ 32 := by
  unfold crcSafety crc32With
  have hbit : ∀ c, c < 2 ^ 32 → crc32Bit 0xC8DF352F c < 2 ^ 32 := fun c h => by
    unfold crc32Bit
    split
    · exact Nat.xor_lt_two_pow (by omega) (by decide)
    · omega
  have hiter : ∀ n c, c < 2 ^ 32 → iter (crc32Bit 0xC8DF352F) n c < 2 ^ 32 := fun n => by
    induction n with
    | zero => exact fun _ h => h
    | succ n ih => exact fun c h => ih _ (hbit c h)
  refine Nat.xor_lt_two_pow (foldl_keeps (· < 2 ^ 32) (fun c b h => hiter 8 _ ?_) l (by decide)) (by decide)
  exact Nat.xor_lt_two_pow h (Nat.lt_of_lt_of_le (Nat.mod_lt b (by decide)) (by decide))

/-- A good frame with an identifier is decided by its connection ID. -/
theorem execSafetyPduReceived_good {s : State} (hrun : s.running = true) (hen : s.on F.SCH_CFG_EN = true)
    (hup : s.canUp (s.get F.SCH_CFG_PORT) = true) {id seq data : Nat} (hid : id < 4294967296) (hseq : seq < 65536) (hdata : data < 32) :
    exec (.safetyPduReceived true (Claims.pdu id seq (s.get F.SCH_TIME_RXWDT) data)) s =
      if id ≠ s.get F.SCH_CONNRX_ID then .next ((s.count F.SCH_ERR_ID).flagEvent F.SCH_IFLAG_ID 2)
      else .next ((s.acceptPdu seq data).safetyEval) := by
  have hwdt : s.get F.SCH_TIME_RXWDT < 256 ^ 2 := State.get_lt s F.SCH_TIME_RXWDT
  have hlow : data < 256 ^ 4 := Nat.lt_trans hdata (by decide)
  show execSafetyPduReceived true _ s = _
  unfold execSafetyPduReceived
  rw [if_neg (by rw [hrun, hen, hup]; decide)]
  dsimp only
  simp only [pdu_bytes, pdu_id, pdu_seq, pdu_wdt, pdu_data, pdu_body, pdu_crc, read_bytesBE (n := 4) hid, read_bytesBE (n := 2) hseq,
    read_bytesBE (n := 2) hwdt, read_bytesBE (n := 4) hlow, read_bytesBE (n := 4) (crcSafety_lt _)]
  rw [if_neg, if_neg (fun h => h rfl)]
  rintro (h | h | h | h)
  · cases h
  · exact h rfl
  · exact absurd h (Nat.not_le_of_lt hdata)
  · exact h rfl

/-! ### The link -/

section
variable {s : State} {seq data : Nat}

theorem acceptPdu_waiting (h : s.get F.SCH_STAT_LINK = 1) :
    s.acceptPdu seq data = (((s.onSaf fun x => { x with baseline := seq }).setLink 2).set F.SCH_STAT_RXSEQ seq).restartWdt := by
  unfold State.acceptPdu
  rw [h]
  rfl

theorem acceptPdu_confirmed (h : s.get F.SCH_STAT_LINK = 2) (hseq : seq = (s.saf.baseline + 1) % 65536) :
    s.acceptPdu seq data = ((s.setLink 3).takePdu seq data).restartWdt := by
  unfold State.acceptPdu
  rw [h]
  exact if_pos hseq

theorem acceptPdu_again (h : s.get F.SCH_STAT_LINK = 2) (hseq : seq ≠ (s.saf.baseline + 1) % 65536) :
    s.acceptPdu seq data = ((s.onSaf fun x => { x with baseline := seq }).set F.SCH_STAT_RXSEQ seq).restartWdt := by
  unfold State.acceptPdu
  rw [h]
  exact if_neg hseq

theorem acceptPdu_taken (h : s.get F.SCH_STAT_LINK = 3) (h1 : 1 ≤ (seq + 65536 - s.get F.SCH_STAT_RXSEQ) % 65536)
    (h16 : (seq + 65536 - s.get F.SCH_STAT_RXSEQ) % 65536 ≤ 16) : s.acceptPdu seq data = (s.takePdu seq data).restartWdt := by
  unfold State.acceptPdu
  rw [h]
  exact if_pos ⟨h1, h16⟩

theorem acceptPdu_stray (h : s.get F.SCH_STAT_LINK = 3)
    (hout : seq = s.get F.SCH_STAT_RXSEQ ∨ 16 < (seq + 65536 - s.get F.SCH_STAT_RXSEQ) % 65536) :
    s.acceptPdu seq data = (s.count F.SCH_ERR_SEQ).flag F.SCH_IFLAG_SEQ := by
  unfold State.acceptPdu
  rw [h]
  exact if_neg (by rintro ⟨h1, h16⟩; omega)
end

/-- A link that connects while it was not raises its flag. -/
theorem setLink_connected {s : State} (h : s.get F.SCH_STAT_LINK ≠ 3) :
    s.setLink 3 = (s.set F.SCH_STAT_LINK 3).flag F.SCH_IFLAG_CONN := by
  have hwas : ((3 : Nat) == 3 && s.get F.SCH_STAT_LINK != 3) = true := by simpa using h
  have hsame : ((3 : Nat) != 3) = false := rfl
  unfold State.setLink
  dsimp only
  rw [hwas, hsame]
  exact (if_pos rfl).trans (congrArg (State.flag · F.SCH_IFLAG_CONN) (if_neg (by decide)))

theorem setLink_unconnected (s : State) {v : Nat} (h : (v == 3) = false) :
    s.setLink v = (s.set F.SCH_STAT_LINK v).set F.SCH_STAT_RXDATA 0 := by
  unfold State.setLink
  dsimp only
  rw [h, show (v != 3) = true from by unfold bne; rw [h]; rfl]
  rfl

theorem takePdu_data (s : State) {seq data : Nat} (hdata : data < 32) : (s.takePdu seq data).get F.SCH_STAT_RXDATA = data :=
  (State.get_set_lt (by decide) (Nat.mod_lt _ (by decide)) _).trans (Nat.mod_eq_of_lt hdata)

theorem takePdu_seq (s : State) {seq : Nat} (hseq : seq < 65536) (data : Nat) : (s.takePdu seq data).get F.SCH_STAT_RXSEQ = seq :=
  (State.get_set_leaves (by decide) _ _).trans (State.get_set_lt (by decide) hseq _)

theorem takePdu_link (s : State) (seq data : Nat) : (s.takePdu seq data).get F.SCH_STAT_LINK = s.get F.SCH_STAT_LINK :=
  (State.get_set_leaves (by decide) _ _).trans (State.get_set_leaves (by decide) _ _)

theorem takePdu_conn (s : State) (seq data : Nat) : (s.takePdu seq data).on F.SCH_IFLAG_CONN = s.on F.SCH_IFLAG_CONN :=
  (State.on_set_leaves (by decide) _ _).trans (State.on_set_leaves (by decide) _ _)

theorem execSafetyPduReceived_claim (seq data : Nat) (s : State) : Claims.safetyPduReceived seq data s := by
  intro hrun hen hup hseq hdata
  have hid : s.get F.SCH_CONNRX_ID < 4294967296 := State.get_lt s F.SCH_CONNRX_ID
  have hexec := (execSafetyPduReceived_good hrun hen hup hid hseq hdata).trans (if_neg (fun h => h rfl))
  obtain ⟨-, -, -, -, hbase, hwdt⟩ := safetyEval_kept (s.acceptPdu seq data)
  have hget : ∀ g : Fld, g.outEval = true → (s.acceptPdu seq data).safetyEval.get g = (s.acceptPdu seq data).get g :=
    fun g h => State.get_safetyEval h _
  have hrest : ∀ (u : State) g, u.restartWdt.get g = u.get g := fun _ _ => rfl
  have hon : ∀ (u : State) g, u.restartWdt.on g = u.on g := fun _ _ => rfl
  refine ⟨_, hexec, fun h => ?_, fun h hnext => ?_, fun h hnext => ?_, fun h h1 h16 => ?_, fun h hout => ?_⟩
  · rw [hget _ (by decide +kernel), hget _ (by decide +kernel), hbase, acceptPdu_waiting h, hrest, hrest, setLink_unconnected _ rfl,
      State.get_set_leaves (by decide), State.get_set_leaves (by decide),
      State.get_set_leaves (f := F.SCH_STAT_RXSEQ) (g := F.SCH_STAT_RXDATA) (by decide)]
    refine ⟨State.get_set_lt (by decide) (by decide) _, ?_, State.get_set_lt (by decide) (by decide) _⟩
    unfold State.restartWdt State.onSaf
    dsimp only
    rw [State.set_saf, State.set_saf, State.set_saf]
  · rw [hget _ (by decide +kernel), hget _ (by decide +kernel), hget _ (by decide +kernel), State.on_safetyEval (by decide +kernel),
      acceptPdu_confirmed h hnext, hrest, hrest, hrest, takePdu_data _ hdata, takePdu_seq _ hseq, takePdu_link,
      setLink_connected (by rw [h]; decide)]
    refine ⟨?_, rfl, rfl, ?_⟩
    · exact (State.get_flag_leaves (by decide) _).trans (State.get_set_lt (by decide) (by decide) _)
    · rw [hon, takePdu_conn]
      exact State.on_flag_okay (by decide) _
  · rw [hget _ (by decide +kernel), hbase, acceptPdu_again h hnext, hrest, State.get_set_leaves (by decide)]
    refine ⟨h, ?_⟩
    unfold State.restartWdt State.onSaf
    dsimp only
    rw [State.set_saf]
  · rw [hget _ (by decide +kernel), hget _ (by decide +kernel), hget _ (by decide +kernel), hwdt, acceptPdu_taken h h1 h16, hrest, hrest,
      hrest, takePdu_data _ hdata, takePdu_seq _ hseq, takePdu_link]
    refine ⟨h, rfl, rfl, ?_⟩
    have htime : (s.takePdu seq data).get F.SCH_TIME_RXWDT = s.get F.SCH_TIME_RXWDT :=
      (State.get_set_leaves (by decide) _ _).trans (State.get_set_leaves (by decide) _ _)
    have hnow : (s.takePdu seq data).now = s.now := (State.set_now _ _ _).trans (State.set_now _ _ _)
    show some ((s.takePdu seq data).now + (s.takePdu seq data).get F.SCH_TIME_RXWDT * 1000) = _
    rw [htime, hnow]
  · rw [hget _ (by decide +kernel), hget _ (by decide +kernel), hget _ (by decide +kernel), State.on_safetyEval (by decide +kernel), hwdt,
      acceptPdu_stray h hout, State.get_flag_leaves (by decide), State.get_flag_leaves (by decide), State.get_flag_leaves (by decide),
      State.get_count_leaves (by decide), State.get_count_leaves (by decide), State.get_count_okay (by decide), State.flag_saf,
      State.count_saf]
    exact ⟨rfl, rfl, State.on_flag_okay (by decide) _, rfl, rfl⟩

theorem safetyPduFormat_claim (fd : Bool) (bytes : List Byte) (s : State) : Claims.safetyPduFormat fd bytes s := by
  intro hrun hen hup hform
  have hgate : ¬ (!s.running || !s.on F.SCH_CFG_EN || !s.canUp (s.get F.SCH_CFG_PORT)) = true := by rw [hrun, hen, hup]; decide
  refine (if_neg hgate).trans (if_pos ?_)
  rcases hform with h | h
  · exact .inl h
  · exact .inr (.inl (by rw [List.length_map]; exact h))

theorem safetyPduForeign_claim (id seq data : Nat) (s : State) : Claims.safetyPduForeign id seq data s := by
  intro hrun hen hup hid hother hseq hdata
  have hexec := (execSafetyPduReceived_good hrun hen hup hid hseq hdata).trans (if_pos hother)
  refine ⟨_, hexec, ?_, State.on_flagEvent_okay (by decide) _ _ _, ?_, ?_, ?_⟩
  · rw [State.flagEvent_saf, State.count_saf]
  · rw [State.get_flagEvent_leaves (by decide), State.get_count_okay (by decide)]
    rfl
  · exact raised_flagEvent (congrArg RosemarySt.inbox (State.count_rsm ..)) F.SCH_IFLAG_ID 2 []
  · rw [State.get_flagEvent_leaves (by decide), State.get_count_leaves (by decide)]

/-! ### Frames sent -/

/-- The PDU that is due goes to its port. -/
def State.pduOut (u : State) : State := u.sendCan (u.get F.SCH_CFG_PORT) (u.get F.SCH_TXID_ID) true (u.safetyPdu u.saf.nextSeq)

/-- The number and the time of a PDU that has been sent are kept. -/
def State.pduSent (u : State) : State :=
  (u.pduOut.set F.SCH_TXSEQ_SEQ u.saf.nextSeq).onSaf fun x => { x with
    nextSeq := (u.saf.nextSeq + 1) % 65536, lastSent := some u.now, sentData := u.reg F.SAF_STAT_SFAULT.addr }

theorem execSafetyPduSend_run {s : State} (hrun : s.running = true) (hen : s.on F.SCH_CFG_EN = true) :
    exec .safetyPduSend s = .next (s.advanceTo s.pduDue).pduSent := if_pos (by rw [hrun, hen]; rfl)

theorem pduOut_side (u : State) : linksAside u.pduOut u := by
  unfold State.pduOut State.sendCan
  split
  · exact linksAside_onLink ..
  · rfl

theorem pduOut_tx {u : State} (hup : u.canUp (u.get F.SCH_CFG_PORT) = true) :
    (u.pduOut.link (if u.get F.SCH_CFG_PORT = 0 then .can0 else .can1)).tx = some (u.canTx (u.get F.SCH_CFG_PORT) (u.get F.SCH_TXID_ID) true
      ((u.safetyPdu u.saf.nextSeq).map (BitVec.ofNat 8))) := by
  unfold State.pduOut State.sendCan
  rw [if_pos hup, link_onLink_same]

/-- A port that is up stays up as time goes on. -/
theorem canUp_later {s : State} {port : Nat} (h : s.canUp port = true) (t : Nat) : (s.advanceTo t).canUp port = true := by
  obtain ⟨hon, hjoin⟩ := Bool.and_eq_true_iff.mp h
  refine Bool.and_eq_true_iff.mpr ⟨hon, ?_⟩
  show ((s.canPort port).joinAt.map fun e => decide (e ≤ max s.now t)).getD true = true
  cases hat : (s.canPort port).joinAt with
  | none => rfl
  | some e =>
    rw [hat] at hjoin
    have hle : e ≤ s.now := of_decide_eq_true hjoin
    exact decide_eq_true (Nat.le_trans hle (Nat.le_max_left _ _))

theorem put_tx (s : State) (a : Nat) (v : Word) (k : Link) : ((s.put a v).link k).tx = (s.link k).tx := by
  unfold State.put State.publish
  split
  · rfl
  · split
    · split
      · rfl
      · cases k <;> rfl
    · rfl

theorem set_tx (s : State) (f : Fld) (v : Nat) (k : Link) : ((s.set f v).link k).tx = (s.link k).tx := put_tx s f.addr _ k

theorem link_onSaf (s : State) (f : SafetySt → SafetySt) (k : Link) : (s.onSaf f).link k = s.link k := rfl

/-- What the PDU left on a port is what its sending put there. -/
theorem pduSent_tx (u : State) (k : Link) : (u.pduSent.link k).tx = (u.pduOut.link k).tx := by
  unfold State.pduSent
  rw [link_onSaf, set_tx]

theorem execSafetyPduSend_claim (s : State) : Claims.safetyPduSend s := by
  intro hrun hen
  have hside := pduOut_side (s.advanceTo s.pduDue)
  have hnow : (s.advanceTo s.pduDue).pduSent.now = max s.now s.pduDue :=
    (State.set_now _ _ _).trans ((congrArg State.now hside).trans rfl)
  refine ⟨_, execSafetyPduSend_run hrun hen, rfl, hnow, ?_, ?_, fun hup => ?_⟩
  · rw [hnow]; rfl
  · exact State.get_set_same _ F.SCH_TXSEQ_SEQ _ (Fld.ok_of_okay (by decide))
  · have htx := pduOut_tx (u := s.advanceTo s.pduDue) (canUp_later hup _)
    exact (pduSent_tx (s.advanceTo s.pduDue) _).trans htx

theorem safetyPduDue_claim (e : Nat) (s : State) : Claims.safetyPduDue e s := by
  intro hlast
  have hdue : s.pduDue = if s.reg F.SAF_STAT_SFAULT.addr = s.saf.sentData then e + s.get F.SCH_TIME_TXWDT / 4 * 1000
      else min (e + s.get F.SCH_TIME_TXWDT / 4 * 1000) (max s.now (e + 5000)) := by
    unfold State.pduDue
    rw [hlast]
  rw [hdue]
  refine ⟨?_, fun h => if_pos h, fun h he => ?_⟩
  · split <;> omega
  · rw [if_neg h]
    omega

/-! ### The watchdog -/

/-- The link waits, and the loss of its watchdog is counted. -/
def State.linkLost (s : State) : State := ((s.setLink 1).count F.SCH_ERR_WDT).flagEvent F.SCH_IFLAG_WDT 1

theorem execSafetyWatchdogExpiry_claim (e : Nat) (s : State) : Claims.safetyWatchdogExpiry e s := by
  intro he
  have hexec : exec .safetyWatchdogExpiry s = .next (((s.advanceTo e).onSaf fun x => { x with wdtAt := none }).linkLost.safetyEval) := by
    show execSafetyWatchdogExpiry s = _
    unfold execSafetyWatchdogExpiry
    rw [he]
    rfl
  have herr : ((s.advanceTo e).onSaf fun x => { x with wdtAt := none }).get F.SCH_ERR_WDT = s.get F.SCH_ERR_WDT := rfl
  have hrsm : ((s.advanceTo e).onSaf fun x => { x with wdtAt := none }).rsm = s.rsm := rfl
  have hnow : ((s.advanceTo e).onSaf fun x => { x with wdtAt := none }).now = max s.now e := rfl
  have hwdt : ((s.advanceTo e).onSaf fun x => { x with wdtAt := none }).saf.wdtAt = none := rfl
  refine ⟨_, hexec, ?_⟩
  generalize (s.advanceTo e).onSaf (fun x => { x with wdtAt := none }) = u at herr hrsm hnow hwdt ⊢
  obtain ⟨-, -, -, -, -, hkept⟩ := safetyEval_kept u.linkLost
  rw [State.get_safetyEval (by decide +kernel), State.get_safetyEval (by decide +kernel), State.get_safetyEval (by decide +kernel), hkept,
    (altersOf (alters_safetyEval _)).now (by decide +kernel)]
  have hraised : raised s u.linkLost.safetyEval F.SCH_IFLAG_WDT.page (.flag F.SCH_IFLAG_WDT.lo) 1 := by
    refine raised_flagEvent_of_sends ?_ F.SCH_IFLAG_WDT 1 [] (sends_safetyEval _ (sends_refl _))
    rw [State.count_rsm, setLink_unconnected _ rfl, State.set_rsm, State.set_rsm]
    exact congrArg RosemarySt.inbox hrsm
  refine ⟨?_, ?_, ?_, hraised, ?_, ?_⟩
  all_goals unfold State.linkLost; rw [setLink_unconnected _ rfl]
  · rw [State.get_flagEvent_leaves (by decide), State.get_count_leaves (by decide), State.get_set_leaves (by decide)]
    exact State.get_set_lt (by decide) (by decide) _
  · rw [State.get_flagEvent_leaves (by decide), State.get_count_leaves (by decide)]
    exact State.get_set_lt (by decide) (by decide) _
  · rw [State.get_flagEvent_leaves (by decide), State.get_count_okay (by decide), State.get_set_leaves (by decide),
      State.get_set_leaves (by decide), herr]
    rfl
  · rw [State.flagEvent_now, State.count_now, State.set_now, State.set_now]; exact hnow
  · rw [State.flagEvent_saf, State.count_saf, State.set_saf, State.set_saf]; exact hwdt

end Sys2Proof.Machine

/-- Settles O50: what the CRC, the state of the link and the time decide, before the evaluation that keeps them. -/
theorem safetyLink : Obligations.SafetyLink := by
  unfold Obligations.SafetyLink
  exact ⟨Sys2Proof.Machine.safetyCrcCheck_claim, Sys2Proof.Machine.crc8Check_claim, Sys2Proof.Machine.execSafetyPduReceived_claim,
    Sys2Proof.Machine.safetyPduFormat_claim, Sys2Proof.Machine.safetyPduForeign_claim, Sys2Proof.Machine.execSafetyPduSend_claim,
    Sys2Proof.Machine.safetyPduDue_claim, Sys2Proof.Machine.execSafetyWatchdogExpiry_claim⟩
end

section
/-! The axes: fields of one axis and of another, signed positions, and what a stop leaves on every axis (R337 to R346). -/
set_option Elab.async false
namespace Sys2Proof.Machine
open Host

/-! ### Fields of the axes -/

/-- Fields on the page of one axis are as far apart as those of the first one. -/
theorem leaves_ax {f g : Fld} (hf : f.page = 0x41) (hg : g.page = 0x41) (h : f.leaves g = true) (a : Nat) :
    (f.on a).leaves (g.on a) = true := Fld.leaves_on (hf.trans hg.symm) h a

theorem page_ax {f : Fld} (hf : f.page = 0x41) (a : Nat) : (f.on a).page = 0x41 + a % 6 := by
  unfold Fld.on
  rw [hf]
  rfl

/-- The pages of two axes leave each other alone. -/
theorem leaves_ax_other {f g : Fld} (hf : f.page = 0x41) (hg : g.page = 0x41) {a b : Nat} (ha : a < 6) (hb : b < 6) (h : a ≠ b) :
    (f.on a).leaves (g.on b) = true := Fld.leaves_of_page (by rw [page_ax hf, page_ax hg]; omega)

/-- A field outside the pages of the axes is left alone by theirs. -/
theorem leaves_ax_out {f g : Fld} (hf : f.page = 0x41) (hg : g.page < 0x41 ∨ 0x46 < g.page) (a : Nat) : (f.on a).leaves g = true :=
  Fld.leaves_of_page (by rw [page_ax hf]; omega)

theorem leaves_out_ax {f g : Fld} (hf : f.page < 0x41 ∨ 0x46 < f.page) (hg : g.page = 0x41) (a : Nat) : f.leaves (g.on a) = true :=
  Fld.leaves_of_page (by rw [page_ax hg]; omega)

theorem axState_setAxState (s : State) (a : Nat) {v : Nat} (h : v < 16) : (s.setAxState a v).axState a = v :=
  State.get_set_lt (f := F.AX_STAT_STATE.on a) rfl h s

theorem axis_set (s : State) (f : Fld) (v a : Nat) : (s.set f v).axis a = s.axis a := State.axis_of_mot (State.set_mot ..) a

theorem axis_setInt (s : State) (f : Fld) (v : Int) (a : Nat) : (s.setInt f v).axis a = s.axis a := axis_set ..

theorem axis_setHomed (s : State) (a : Nat) (v : Bool) (b : Nat) : (s.setHomed a v).axis b = s.axis b :=
  (axis_set _ F.MOT_STAT_HOMED _ b).trans (axis_set ..)

theorem get_setHomed {g : Fld} {a : Nat} (h1 : (F.AX_STAT_HOMED.on a).leaves g = true) (h2 : Fld.leaves F.MOT_STAT_HOMED g = true) (s : State)
    (v : Bool) : (s.setHomed a v).get g = s.get g := (State.get_set_leaves h2 _ _).trans (State.get_setOn_leaves h1 _ _)

theorem homed_setHomed (s : State) (a : Nat) (v : Bool) : (s.setHomed a v).homed a = v :=
  (State.on_set_leaves (leaves_out_ax (.inl (by decide)) rfl a) _ _).trans (State.on_setOn_okay (f := F.AX_STAT_HOMED.on a) rfl s v)

/-! ### Signed numbers of 32 bits -/

theorem signedOf_codeOf (v : Int) : signedOf 32 (codeOf 32 v) = (BitVec.ofInt 32 v).toInt := by
  unfold signedOf codeOf
  rw [BitVec.toInt_ofInt, Int.bmod_def]
  norm_num
  omega

theorem signedOf_codeOf_of_range {v : Int} (h : -2147483648 ≤ v) (h' : v < 2147483648) : signedOf 32 (codeOf 32 v) = v := by
  unfold signedOf codeOf
  norm_num
  omega

theorem codeOf_lt (v : Int) : codeOf 32 v < 2 ^ 32 := by
  unfold codeOf
  norm_num
  omega

theorem signedOf_range {v : Nat} (h : v < 2 ^ 32) : -2147483648 ≤ signedOf 32 v ∧ signedOf 32 v < 2147483648 := by
  unfold signedOf
  norm_num at h ⊢
  split <;> omega

section
variable {f : Fld} (hokay : f.okay = true) (hwide : f.hi + 1 - f.lo = 32)
include hokay hwide

/-- A word set from a number reads its code. -/
theorem getInt_setInt (s : State) (v : Int) : (s.setInt f v).getInt f = (BitVec.ofInt 32 v).toInt := by
  unfold State.getInt State.setInt
  rw [State.get_set_lt hokay (by rw [hwide]; exact codeOf_lt v), hwide, signedOf_codeOf]

theorem getInt_setInt_range (s : State) {v : Int} (h : -2147483648 ≤ v) (h' : v < 2147483648) : (s.setInt f v).getInt f = v := by
  unfold State.getInt State.setInt
  rw [State.get_set_lt hokay (by rw [hwide]; exact codeOf_lt v), hwide, signedOf_codeOf_of_range h h']
end

theorem getInt_range (s : State) {f : Fld} (hwide : f.hi + 1 - f.lo = 32) : -2147483648 ≤ s.getInt f ∧ s.getInt f < 2147483648 := by
  unfold State.getInt
  rw [hwide]
  exact signedOf_range (hwide ▸ State.get_lt s f)

theorem getInt_of_get {s t : State} {f : Fld} (h : t.get f = s.get f) : t.getInt f = s.getInt f := congrArg (signedOf _) h

theorem getInt_setInt_leaves {f g : Fld} (h : f.leaves g = true) (s : State) (v : Int) : (s.setInt f v).getInt g = s.getInt g :=
  getInt_of_get (State.get_set_leaves h s _)

/-! ### What leaves an axis alone -/

theorem onAxis_len (s : State) (a : Nat) (f : AxisSt → AxisSt) : (s.onAxis a f).mot.axes.length = s.mot.axes.length := List.length_modify ..

/-- The axis comes to rest along a ramp. -/
def stopRamps (own : Bool) (rank : Nat) : Bool := !own || rank == 4 || decide (6 ≤ rank)

/-- The position an axis loses its motion at: that of the encoder where a stall or a bridge fault stops one that has it. -/
def State.stopPoint (s : State) (a rank : Nat) (own : Bool) : Int :=
  if (own && (rank == 5 || rank == 2)) && s.hasEnc a then s.getInt (F.AX_POS_VAL.on a) else s.setpoint a

/-- What is kept for an axis once a stop has acted on it. -/
def AxisSt.stopped (x : AxisSt) (rank : Nat) (own : Bool) (sp : Int) (decel jerk : Rat) : AxisSt := { x with
  cycle := x.cycle.map fun c => c.stopPlan rank (stopRamps own rank) sp decel jerk
  queue := if stopRamps own rank then x.queue.map Setpoint.goesOn else []
  cause := if own then some rank else x.cause
  drive := if own then stopDrive rank x.drive else x.drive }

/-- The state in which the set-point of a stopped axis is decided. -/
def State.stopKept (s : State) (a rank : Nat) (own : Bool) (decel jerk : Rat) : State :=
  let t := s.onAxis a fun x => x.stopped rank own (s.stopPoint a rank own) decel jerk
  if (own && (rank == 5 || rank == 2)) && !s.hasEnc a then t.setHomed a false else t

theorem stopWith_eq (s : State) (a rank : Nat) (own : Bool) (decel jerk : Rat) : s.stopWith a rank own decel jerk =
    (if stopRamps own rank then s.stopKept a rank own decel jerk
      else (s.stopKept a rank own decel jerk).latch a { pos := s.stopPoint a rank own, last := true }).setAxState a 4 := rfl

/-- Axis `b` goes on as it was, but for a start that waits on it. -/
structure Undisturbed (b : Nat) (s t : State) : Prop where
  axis : ∃ p q, t.axis b = { s.axis b with pending := p, staged := q }
  get : ∀ f : Fld, f.page = 0x41 → t.get (f.on b) = s.get (f.on b)
  len : t.mot.axes.length = s.mot.axes.length

namespace Undisturbed
variable {b : Nat} {s t u : State}

theorem refl (b : Nat) (s : State) : Undisturbed b s s := ⟨⟨(s.axis b).pending, (s.axis b).staged, rfl⟩, fun _ _ => rfl, rfl⟩

theorem trans (h : Undisturbed b s t) (h' : Undisturbed b t u) : Undisturbed b s u := by
  obtain ⟨p, q, hax⟩ := h.axis
  obtain ⟨p', q', hax'⟩ := h'.axis
  exact ⟨⟨p', q', by rw [hax', hax]⟩, fun f hf => (h'.get f hf).trans (h.get f hf), h'.len.trans h.len⟩

theorem cycle (h : Undisturbed b s t) : (t.axis b).cycle = (s.axis b).cycle := by
  obtain ⟨p, q, hax⟩ := h.axis
  rw [hax]

theorem axState (h : Undisturbed b s t) : t.axState b = s.axState b := h.get F.AX_STAT_STATE rfl

theorem setpoint (h : Undisturbed b s t) : t.setpoint b = s.setpoint b := getInt_of_get (h.get F.AX_SETPT_VAL rfl)

theorem of_set {f : Fld} (h : ∀ g : Fld, g.page = 0x41 → f.leaves (g.on b) = true) (s : State) (v : Nat) : Undisturbed b s (s.set f v) :=
  ⟨⟨(s.axis b).pending, (s.axis b).staged, axis_set ..⟩, fun g hg => State.get_set_leaves (h g hg) s v, by rw [State.set_mot]⟩

theorem of_set_ax {f : Fld} (hf : f.page = 0x41) {a : Nat} (ha : a < 6) (hb : b < 6) (hab : a ≠ b) (s : State) (v : Nat) :
    Undisturbed b s (s.set (f.on a) v) := of_set (fun _ hg => leaves_ax_other hf hg ha hb hab) s v

theorem of_set_out {f : Fld} (hf : f.page < 0x41 ∨ 0x46 < f.page) (s : State) (v : Nat) : Undisturbed b s (s.set f v) :=
  of_set (fun _ hg => leaves_out_ax hf hg b) s v

theorem of_onAxis {a : Nat} (hab : a ≠ b) (s : State) (f : AxisSt → AxisSt) : Undisturbed b s (s.onAxis a f) :=
  ⟨⟨(s.axis b).pending, (s.axis b).staged, by rw [State.axis_onAxis, if_neg (fun h => hab h.1)]⟩, fun _ _ => rfl, List.length_modify ..⟩

theorem of_latch {a : Nat} (ha : a < 6) (hb : b < 6) (hab : a ≠ b) (s : State) (p : Setpoint) : Undisturbed b s (s.latch a p) :=
  (of_onAxis hab s _).trans ((of_set_ax rfl ha hb hab _ _).trans (of_set_ax rfl ha hb hab _ _))

theorem of_setHomed {a : Nat} (ha : a < 6) (hb : b < 6) (hab : a ≠ b) (s : State) (v : Bool) : Undisturbed b s (s.setHomed a v) :=
  (of_set_ax rfl ha hb hab s _).trans (of_set_out (.inl (by decide)) _ _)

theorem of_causeFlag {a : Nat} (ha : a < 6) (hb : b < 6) (hab : a ≠ b) (s : State) (rank : Nat) : Undisturbed b s (s.causeFlag a rank) := by
  unfold State.causeFlag
  split_ifs
  · exact of_set_ax rfl ha hb hab s 1
  · exact of_set_ax rfl ha hb hab s 1
  · exact of_set_ax rfl ha hb hab s 1
  · exact refl b s

theorem of_stopKept {a : Nat} (ha : a < 6) (hb : b < 6) (hab : a ≠ b) (s : State) (rank : Nat) (own : Bool) (decel jerk : Rat) :
    Undisturbed b s (s.stopKept a rank own decel jerk) := by
  unfold State.stopKept
  dsimp only
  split
  · exact (of_onAxis hab s _).trans (of_setHomed ha hb hab _ _)
  · exact of_onAxis hab s _

theorem of_stopWith {a : Nat} (ha : a < 6) (hb : b < 6) (hab : a ≠ b) (s : State) (rank : Nat) (own : Bool) (decel jerk : Rat) :
    Undisturbed b s (s.stopWith a rank own decel jerk) := by
  rw [stopWith_eq]
  refine Undisturbed.trans ?_ (of_set_ax rfl ha hb hab _ _)
  split
  · exact of_stopKept ha hb hab ..
  · exact (of_stopKept ha hb hab ..).trans (of_latch ha hb hab _ _)

end Undisturbed

/-! ### A stop on its own axis -/

section
variable {s : State} {a : Nat} (hlen : s.mot.axes.length = 6) (ha : a < 6) (rank : Nat) (own : Bool) (decel jerk : Rat)
include hlen ha

theorem stopKept_axis : (s.stopKept a rank own decel jerk).axis a = (s.axis a).stopped rank own (s.stopPoint a rank own) decel jerk := by
  unfold State.stopKept
  dsimp only
  split
  · rw [axis_setHomed, State.axis_onAxis, if_pos ⟨rfl, by omega⟩]
  · rw [State.axis_onAxis, if_pos ⟨rfl, by omega⟩]

theorem latch_axis (p : Setpoint) : ∃ phase, (s.latch a p).axis a = { s.axis a with held := p, phase := phase } := by
  unfold State.latch
  dsimp only
  rw [axis_setInt, axis_setInt, State.axis_onAxis, if_pos ⟨rfl, by omega⟩]
  exact ⟨_, rfl⟩

/-- What a stop leaves for its axis: the plan that replaces the profile, the set-points that are queued, and its drive. -/
theorem stopWith_axis : ∃ held phase, (s.stopWith a rank own decel jerk).axis a =
    { (s.axis a).stopped rank own (s.stopPoint a rank own) decel jerk with held := held, phase := phase } := by
  rw [stopWith_eq]
  unfold State.setAxState
  rw [axis_set]
  have hkept := stopKept_axis hlen ha rank own decel jerk
  split
  · exact ⟨_, _, hkept⟩
  · have hlen' : (s.stopKept a rank own decel jerk).mot.axes.length = 6 := by
      unfold State.stopKept
      dsimp only
      split
      · unfold State.setHomed State.setOn
        rw [State.set_mot, State.set_mot]
        exact (List.length_modify ..).trans hlen
      · exact (List.length_modify ..).trans hlen
    obtain ⟨phase, hlatch⟩ := latch_axis hlen' ha { pos := s.stopPoint a rank own, last := true }
    exact ⟨_, phase, by rw [hlatch, hkept]⟩

theorem stopWith_cycle : ((s.stopWith a rank own decel jerk).axis a).cycle =
    (s.axis a).cycle.map fun c => c.stopPlan rank (stopRamps own rank) (s.stopPoint a rank own) decel jerk := by
  obtain ⟨held, phase, h⟩ := stopWith_axis hlen ha rank own decel jerk
  rw [h]
  rfl
end

theorem stopWith_axState (s : State) (a rank : Nat) (own : Bool) (decel jerk : Rat) : (s.stopWith a rank own decel jerk).axState a = 4 :=
  axState_setAxState _ a (by decide)

theorem stopWith_len (s : State) (a rank : Nat) (own : Bool) (decel jerk : Rat) :
    (s.stopWith a rank own decel jerk).mot.axes.length = s.mot.axes.length := by
  rw [stopWith_eq]
  unfold State.setAxState State.latch State.stopKept State.setInt State.setHomed State.setOn
  dsimp only
  rw [State.set_mot]
  split_ifs <;> simp only [State.set_mot, onAxis_len]

/-! ### A cause of a rank -/

theorem stopAxis_ranked {s : State} {a rank : Nat} {c : Cycle} (h : (s.axis a).cycle = some c) (hrank : c.stop.getD 10 ≤ rank) :
    s.stopAxis a rank = s.causeFlag a rank := by
  unfold State.stopAxis
  rw [h]
  exact if_pos hrank

theorem stopAxis_alone {s : State} {a rank : Nat} {c : Cycle} (h : (s.axis a).cycle = some c) (hrank : rank < c.stop.getD 10)
    (hkind : c.kind ≠ 3) : s.stopAxis a rank = (s.causeFlag a rank).stopWith a rank true (c.decel rank) c.lim.j := by
  unfold State.stopAxis
  rw [h]
  exact (if_neg (Nat.not_le_of_lt hrank)).trans (if_neg hkind)

theorem stopAxis_group {s : State} {a rank : Nat} {c : Cycle} (h : (s.axis a).cycle = some c) (hrank : rank < c.stop.getD 10)
    (hkind : c.kind = 3) : s.stopAxis a rank = (s.causeFlag a rank).stopGroup a c.group rank := by
  unfold State.stopAxis
  rw [h]
  exact (if_neg (Nat.not_le_of_lt hrank)).trans (if_pos hkind)

theorem stopAxis_waiting {s : State} {a rank : Nat} (h : (s.axis a).cycle = none) (hp : (s.axis a).pending.isSome = true) :
    s.stopAxis a rank = s.dropPending a rank := by
  unfold State.stopAxis
  rw [h]
  exact if_pos hp

theorem axis_causeFlag (s : State) (a rank b : Nat) : (s.causeFlag a rank).axis b = s.axis b := by
  unfold State.causeFlag State.flag
  split_ifs
  · exact axis_set ..
  · exact axis_set ..
  · exact axis_set ..
  · rfl

theorem mot_causeFlag (s : State) (a rank : Nat) : (s.causeFlag a rank).mot = s.mot := by
  unfold State.causeFlag
  split_ifs
  · exact State.flag_mot ..
  · exact State.flag_mot ..
  · exact State.flag_mot ..
  · rfl

end Sys2Proof.Machine
end

section
/-! Stops of groups and of all axes, as one axis that moves sees them (R340, R346). -/
set_option Elab.async false
namespace Sys2Proof.Machine
open Host

/-- A fold over a list without repeats: what its own item establishes from what the others keep, and the others then keep. -/
theorem foldl_once {α σ : Type} {f : σ → α → σ} {I J : σ → Prop} {b : α} (l : List α) (hnd : l.Nodup) (hb : b ∈ l)
    (hpre : ∀ s, ∀ m ∈ l, m ≠ b → I s → I (f s m)) (hself : ∀ s, I s → J (f s b)) (hpost : ∀ s, ∀ m ∈ l, m ≠ b → J s → J (f s m))
    {s : σ} (h : I s) : J (l.foldl f s) := by
  induction l generalizing s with
  | nil => exact absurd hb List.not_mem_nil
  | cons a l ih =>
    obtain ⟨hnot, hnd'⟩ := List.nodup_cons.mp hnd
    by_cases hab : a = b
    · subst hab
      have hrest : ∀ k : List α, (∀ m ∈ k, m ∈ l) → ∀ t, J t → J (k.foldl f t) := fun k => by
        induction k with
        | nil => exact fun _ _ ht => ht
        | cons m k ihk =>
          exact fun hk t ht => ihk (fun x hx => hk x (List.mem_cons_of_mem _ hx)) _ (hpost t m
            (List.mem_cons_of_mem _ (hk m List.mem_cons_self)) (fun e => hnot (e ▸ hk m List.mem_cons_self)) ht)
      exact hrest l (fun _ hm => hm) _ (hself s h)
    · exact ih hnd' ((List.mem_cons.mp hb).resolve_left fun e => hab e.symm) (fun t m hm => hpre t m (List.mem_cons_of_mem _ hm))
        (fun t m hm => hpost t m (List.mem_cons_of_mem _ hm)) (hpre s a List.mem_cons_self hab h)

theorem foldl_keeps_of_mem {α σ : Type} (P : σ → Prop) {f : σ → α → σ} (l : List α) (hkeep : ∀ s, ∀ a ∈ l, P s → P (f s a)) {s : σ}
    (h : P s) : P (l.foldl f s) := by
  induction l generalizing s with
  | nil => exact h
  | cons a l ih => exact ih (fun t b hb => hkeep t b (List.mem_cons_of_mem _ hb)) (hkeep s a List.mem_cons_self h)

theorem axisList_nodup : axisList.Nodup := by decide

theorem mem_members {s : State} {g a : Nat} : a ∈ s.members g ↔ a < 6 ∧ s.groupOf a = g := by
  unfold State.members
  rw [List.mem_filter, mem_axisList, beq_iff_eq]

section
variable {b : Nat} (hb : b < 6)
include hb

/-- Dropping a start leaves an axis with a running cycle going. -/
theorem Undisturbed.of_dropStart {m : Nat} (hm : m < 6) {s : State} (h : (s.axis b).cycle.isSome = true) (hlen : s.mot.axes.length = 6)
    (rank : Nat) : Undisturbed b s (s.dropStart m rank) := by
  unfold State.dropStart
  by_cases hmb : m = b
  · subst hmb
    rw [if_pos h]
    exact ⟨⟨none, false, by rw [State.axis_onAxis, if_pos ⟨rfl, by omega⟩]⟩, fun _ _ => rfl, List.length_modify ..⟩
  · split
    · exact .of_onAxis hmb ..
    · exact (Undisturbed.of_onAxis hmb ..).trans (.of_set_ax rfl hm hb hmb ..)

theorem Undisturbed.of_dropPending {m : Nat} (hm : m < 6) {s : State} (h : (s.axis b).cycle.isSome = true)
    (hlen : s.mot.axes.length = 6) (rank : Nat) : Undisturbed b s (s.dropPending m rank) := by
  unfold State.dropPending
  split
  · refine foldl_keeps_of_mem (Undisturbed b s) _ (fun t a ha ht => ?_) (Undisturbed.refl b s)
    split
    · exact ht.trans (.of_dropStart hb (mem_members.mp ha).1 (by rw [ht.cycle]; exact h) (ht.len.trans hlen) rank)
    · exact ht
  · exact .of_dropStart hb hm h hlen rank

/-- A stop of a rank acts on the axis: it is stopping, and the cause has that rank. -/
def Stopping (b rank : Nat) (t : State) : Prop := t.axState b = 4 ∧ (t.axis b).cycle.bind Cycle.stop = some rank

omit hb in
theorem Stopping.undisturbed {rank : Nat} {s t : State} (h : Stopping b rank s) (ht : Undisturbed b s t) : Stopping b rank t :=
  ⟨ht.axState.trans h.1, by rw [ht.cycle]; exact h.2⟩

theorem stopping_stopWith {s : State} {c : Cycle} (hc : (s.axis b).cycle = some c) (hlen : s.mot.axes.length = 6) (rank : Nat) (own : Bool)
    (decel jerk : Rat) : Stopping b rank (s.stopWith b rank own decel jerk) := by
  refine ⟨stopWith_axState .., ?_⟩
  rw [stopWith_cycle hlen hb, hc]
  rfl

/-- One step of the stop of a group. -/
def State.stopMember (s : State) (r : Rat × Rat) (a g rank m : Nat) : State :=
  match (s.axis m).cycle with
  | some c =>
    if c.inGroup g && decide (rank < c.stop.getD 10) then
      s.stopWith m rank (m == a) (r.1 * ((absInt c.dist : Int) : Rat)) (r.2 * ((absInt c.dist : Int) : Rat)) else s
  | none => s

omit hb in
theorem stopGroup_eq (s : State) (a g rank : Nat) :
    s.stopGroup a g rank = axisList.foldl (fun (t : State) m => t.stopMember (s.groupStop g rank) a g rank m) s := rfl

theorem Undisturbed.of_stopMember {m : Nat} (hm : m < 6) (hmb : m ≠ b) (s : State) (r : Rat × Rat) (a g rank : Nat) :
    Undisturbed b s (s.stopMember r a g rank m) := by
  unfold State.stopMember
  split
  · split
    · exact .of_stopWith hm hb hmb ..
    · exact .refl b s
  · exact .refl b s

/-- The stop of a group leaves an axis that is no member of it, or that a higher-ranked cause stops. -/
theorem Undisturbed.of_stopGroup {s : State} {c : Cycle} (hc : (s.axis b).cycle = some c) {g rank : Nat}
    (hout : (c.inGroup g && decide (rank < c.stop.getD 10)) = false) (a : Nat) : Undisturbed b s (s.stopGroup a g rank) := by
  rw [stopGroup_eq]
  refine foldl_keeps_of_mem (Undisturbed b s) _ (fun t m hm ht => ?_) (.refl b s)
  by_cases hmb : m = b
  · subst hmb
    have hsame : t.stopMember (s.groupStop g rank) a g rank m = t := by
      unfold State.stopMember
      rw [ht.cycle, hc]
      exact if_neg (by rw [hout]; decide)
    rw [hsame]
    exact ht
  · exact ht.trans (.of_stopMember hb (mem_axisList.mp hm) hmb ..)

/-- The stop of a group stops every member that no higher-ranked cause stops. -/
theorem stopping_stopGroup {s : State} {c : Cycle} (hc : (s.axis b).cycle = some c) (hlen : s.mot.axes.length = 6) {g rank : Nat}
    (hin : (c.inGroup g && decide (rank < c.stop.getD 10)) = true) (a : Nat) : Stopping b rank (s.stopGroup a g rank) := by
  rw [stopGroup_eq]
  refine foldl_once (I := Undisturbed b s) (J := Stopping b rank) axisList axisList_nodup (mem_axisList.mpr hb) (fun t m hm hmb ht => ?_)
    (fun t ht => ?_) (fun t m hm hmb ht => ?_) (.refl b s)
  · exact ht.trans (.of_stopMember hb (mem_axisList.mp hm) hmb ..)
  · have hct : (t.axis b).cycle = some c := ht.cycle.trans hc
    have hstep : t.stopMember (s.groupStop g rank) a g rank b = t.stopWith b rank (b == a)
        ((s.groupStop g rank).1 * ((absInt c.dist : Int) : Rat)) ((s.groupStop g rank).2 * ((absInt c.dist : Int) : Rat)) := by
      unfold State.stopMember
      rw [hct]
      exact if_pos hin
    rw [hstep]
    exact stopping_stopWith hb hct (ht.len.trans hlen) ..
  · exact ht.undisturbed (.of_stopMember hb (mem_axisList.mp hm) hmb ..)

/-- A stop of another axis leaves an axis alone that is in no group move. -/
theorem Undisturbed.of_stopAxis {s : State} {c : Cycle} (hc : (s.axis b).cycle = some c) (hlen : s.mot.axes.length = 6) (hkind : c.kind ≠ 3)
    {m : Nat} (hm : m < 6) (hmb : m ≠ b) (rank : Nat) : Undisturbed b s (s.stopAxis m rank) := by
  have hflag := Undisturbed.of_causeFlag hm hb hmb s rank
  cases hcm : (s.axis m).cycle with
  | some d =>
    by_cases hrank : rank < d.stop.getD 10
    · by_cases hk : d.kind = 3
      · rw [stopAxis_group hcm hrank hk]
        refine hflag.trans (.of_stopGroup hb (hflag.cycle.trans hc) ?_ m)
        unfold Cycle.inGroup
        rw [beq_false_of_ne hkind]
        rfl
      · rw [stopAxis_alone hcm hrank hk]
        exact hflag.trans (.of_stopWith hm hb hmb ..)
    · rw [stopAxis_ranked hcm (Nat.le_of_not_lt hrank)]
      exact hflag
  | none =>
    by_cases hp : (s.axis m).pending.isSome = true
    · rw [stopAxis_waiting hcm hp]
      exact .of_dropPending hb hm (by rw [hc]; rfl) hlen rank
    · unfold State.stopAxis
      rw [hcm]
      dsimp only
      rw [if_neg hp]
      split
      · exact (Undisturbed.of_onAxis hmb ..).trans (.of_set_ax rfl hm hb hmb ..)
      · exact .refl b s

/-- A stop of an axis, or of one in its group, leaves an axis as it was or stops it. -/
theorem undisturbed_or_stopping {s : State} {c : Cycle} (hc : (s.axis b).cycle = some c) (hlen : s.mot.axes.length = 6) {m : Nat} (hm : m < 6)
    (hmb : m ≠ b) (rank : Nat) : Undisturbed b s (s.stopAxis m rank) ∨ (rank < c.stop.getD 10 ∧ Stopping b rank (s.stopAxis m rank)) := by
  have hflag := Undisturbed.of_causeFlag hm hb hmb s rank
  by_cases hkind : c.kind = 3
  · cases hcm : (s.axis m).cycle with
    | none =>
      refine .inl ?_
      by_cases hp : (s.axis m).pending.isSome = true
      · rw [stopAxis_waiting hcm hp]
        exact .of_dropPending hb hm (by rw [hc]; rfl) hlen rank
      · unfold State.stopAxis
        rw [hcm]
        dsimp only
        rw [if_neg hp]
        split
        · exact (Undisturbed.of_onAxis hmb ..).trans (.of_set_ax rfl hm hb hmb ..)
        · exact .refl b s
    | some d =>
      by_cases hrank : rank < d.stop.getD 10
      · by_cases hk : d.kind = 3
        · rw [stopAxis_group hcm hrank hk]
          have hct := hflag.cycle.trans hc
          cases hin : (c.inGroup d.group && decide (rank < c.stop.getD 10)) with
          | false => exact .inl (hflag.trans (.of_stopGroup hb hct hin m))
          | true =>
            obtain ⟨-, hlt⟩ := Bool.and_eq_true_iff.mp hin
            exact .inr ⟨of_decide_eq_true hlt, stopping_stopGroup hb hct (hflag.len.trans hlen) hin m⟩
        · rw [stopAxis_alone hcm hrank hk]
          exact .inl (hflag.trans (.of_stopWith hm hb hmb ..))
      · rw [stopAxis_ranked hcm (Nat.le_of_not_lt hrank)]
        exact .inl hflag
  · exact .inl (.of_stopAxis hb hc hlen hkind hm hmb rank)

/-- A cause that outranks the stop in force stops the axis. -/
theorem stopping_stopAxis {s : State} {c : Cycle} (hc : (s.axis b).cycle = some c) (hlen : s.mot.axes.length = 6) {rank : Nat}
    (hrank : rank < c.stop.getD 10) : Stopping b rank (s.stopAxis b rank) := by
  have hcf : ((s.causeFlag b rank).axis b).cycle = some c := (congrArg AxisSt.cycle (axis_causeFlag s b rank b)).trans hc
  have hlf : (s.causeFlag b rank).mot.axes.length = 6 := by rw [mot_causeFlag]; exact hlen
  by_cases hk : c.kind = 3
  · rw [stopAxis_group hc hrank hk]
    refine stopping_stopGroup hb hcf hlf ?_ b
    unfold Cycle.inGroup
    rw [hk]
    simpa using hrank
  · rw [stopAxis_alone hc hrank hk]
    exact stopping_stopWith hb hcf hlf ..

end

end Sys2Proof.Machine
end

section
/-! SUPPORT. The load switches: what a change of one channel leaves of the others, of the register words and of Rosemary (R365 to R377). -/
set_option Elab.async false
namespace Sys2Proof.Machine
open Host

/-! ### A change of one channel -/

theorem chan_of_ls {s t : State} (h : t.ls = s.ls) (n : Nat) : t.chan n = s.chan n := by
  unfold State.chan
  rw [h]

theorem onChan_len (s : State) (n : Nat) (f : ChanSt → ChanSt) : (s.onChan n f).ls.chans.length = s.ls.chans.length := by
  rw [onChan_ls]
  exact List.length_modify ..

theorem chan_onChan {s : State} {n : Nat} (h : n < s.ls.chans.length) (f : ChanSt → ChanSt) (m : Nat) :
    (s.onChan n f).chan m = if n = m then f (s.chan m) else s.chan m := by
  split
  next hnm => exact hnm ▸ chan_onChan_same h f
  next hnm => exact chan_onChan_other (Ne.symm hnm) s f

@[simp] theorem chan_advanceTo (s : State) (t n : Nat) : (s.advanceTo t).chan n = s.chan n := rfl
@[simp] theorem chan_set (s : State) (f : Fld) (v n : Nat) : (s.set f v).chan n = s.chan n := chan_of_ls (State.set_ls ..) n
@[simp] theorem chan_setOn (s : State) (f : Fld) (v : Bool) (n : Nat) : (s.setOn f v).chan n = s.chan n := chan_set ..
@[simp] theorem chan_flag (s : State) (f : Fld) (n : Nat) : (s.flag f).chan n = s.chan n := chan_set ..

/-- Beside the page status words a change of a channel alters no word. -/
theorem get_onChan {g : Fld} (hg : alt_showChans.testBit (wordBit g.addr) = false) (s : State) (n : Nat) (f : ChanSt → ChanSt) :
    (s.onChan n f).get g = s.get g := (altersOf (alters_showChans _)).get g hg

theorem on_onChan {g : Fld} (hg : alt_showChans.testBit (wordBit g.addr) = false) (s : State) (n : Nat) (f : ChanSt → ChanSt) :
    (s.onChan n f).on g = s.on g := (altersOf (alters_showChans _)).on g hg

theorem onChan_now (s : State) (n : Nat) (f : ChanSt → ChanSt) : (s.onChan n f).now = s.now :=
  (altersOf (alters_showChans _)).now (by decide +kernel)

theorem onChan_tmp (s : State) (n : Nat) (f : ChanSt → ChanSt) : (s.onChan n f).tmp = s.tmp :=
  (altersOf (alters_showChans _)).tmp (by decide +kernel)

theorem sends_onChan {s₀ : State} (s : State) (n : Nat) (f : ChanSt → ChanSt) (h : Sends s₀ s) : Sends s₀ (s.onChan n f) :=
  h.trans (sends_of_rsm (onChan_rsm ..))

/-- A field of one word per channel, and a bit per channel of a flag or command word, are no words of the page status. -/
theorem alt_showChans_chanField {f : Fld} (hp : f.page = 0x51) (hw : f.word = 0x08) {n : Nat} (hn : n < 16) :
    alt_showChans.testBit (wordBit (chanField f n).addr) = false := by
  have hall : ∀ m < 16, alt_showChans.testBit (wordBit (chanField ⟨0x51, 0x08, 0, 0⟩ m).addr) = false := by decide +kernel
  have haddr : (chanField f n).addr = (chanField ⟨0x51, 0x08, 0, 0⟩ n).addr := by
    unfold chanField Fld.at Fld.on Fld.addr
    rw [hp, hw]
  rw [haddr]
  exact hall n hn

theorem chanBit_iflag {f : Fld} (hp : f.page = 0x51) (hw : f.word = 3 ∨ f.word = 0xE0) {n : Nat} (hn : n < 16) :
    alt_showChans.testBit (wordBit (chanBit f n).addr) = false := by
  have hall : ∀ m < 16, alt_showChans.testBit (wordBit (chanBit ⟨0x51, 0x03, 0, 0⟩ m).addr) = false ∧
    alt_showChans.testBit (wordBit (chanBit ⟨0x51, 0xE0, 0, 0⟩ m).addr) = false := by decide +kernel
  obtain ⟨hflag, hout⟩ := hall n hn
  rcases hw with hw | hw
  · have haddr : (chanBit f n).addr = (chanBit ⟨0x51, 0x03, 0, 0⟩ n).addr := by
      unfold chanBit Fld.bit Fld.on Fld.addr
      dsimp only
      rw [hp, hw]
    rw [haddr]
    exact hflag
  · have haddr : (chanBit f n).addr = (chanBit ⟨0x51, 0xE0, 0, 0⟩ n).addr := by
      unfold chanBit Fld.bit Fld.on Fld.addr
      dsimp only
      rw [hp, hw]
    rw [haddr]
    exact hout

/-! ### Turning a channel on and off -/

theorem dropOpenLoad_len (s : State) (n : Nat) : (s.dropOpenLoad n).ls.chans.length = s.ls.chans.length := by
  unfold State.dropOpenLoad State.flag
  split
  · rw [State.set_ls, onChan_len]
  · rfl

section
variable {s : State} {n : Nat} (h : n < s.ls.chans.length)
include h

theorem chan_dropOpenLoad (m : Nat) : ∃ b, (s.dropOpenLoad n).chan m = { s.chan m with openLoad := b } := by
  unfold State.dropOpenLoad
  split
  · rw [chan_flag, chan_onChan h]
    split
    · exact ⟨false, rfl⟩
    · exact ⟨_, rfl⟩
  · exact ⟨_, rfl⟩

/-- A channel turned on is in its inrush window (R367). -/
theorem chan_chanTurnOn : ∃ b, (s.chanTurnOn n).chan n = { s.chan n with
    openLoad := b, state := 2, onAt := s.now, inrushEnd := s.now + s.get (chanField F.LSA_CH_TINR n) * 1000, limitAt := none } := by
  obtain ⟨b, hb⟩ := chan_dropOpenLoad h n
  refine ⟨b, ?_⟩
  unfold State.chanTurnOn
  rw [chan_onChan (by rw [dropOpenLoad_len]; exact h), if_pos rfl, hb]

theorem chan_chanTurnOff_same : ((s.chanTurnOff n).chan n).left = (s.chan n).left ∧
    ((s.chan n).state ≠ 4 → ((s.chanTurnOff n).chan n).state = 0) ∧ (s.chanTurnOff n).chanOn n = false := by
  unfold State.chanTurnOff
  by_cases h4 : (s.chan n).state = 4
  · rw [if_pos h4]
    exact ⟨rfl, fun hne => absurd h4 hne, by unfold State.chanOn; rw [h4]; rfl⟩
  · rw [if_neg h4]
    unfold State.chanOn
    rw [chan_onChan h, if_pos rfl]
    exact ⟨rfl, fun _ => rfl, rfl⟩

end

theorem chan_dropOpenLoad_other {n m : Nat} (h : m ≠ n) (s : State) : (s.dropOpenLoad n).chan m = s.chan m := by
  unfold State.dropOpenLoad
  split
  · rw [chan_flag, chan_onChan_other h]
  · rfl

theorem chan_chanTurnOn_other {n m : Nat} (h : m ≠ n) (s : State) : (s.chanTurnOn n).chan m = s.chan m := by
  unfold State.chanTurnOn
  rw [chan_onChan_other h, chan_dropOpenLoad_other h]

theorem chan_chanTurnOff_other {n m : Nat} (h : m ≠ n) (s : State) : (s.chanTurnOff n).chan m = s.chan m := by
  unfold State.chanTurnOff
  split
  · rfl
  · rw [chan_onChan_other h]

theorem chanTurnOn_len (s : State) (n : Nat) : (s.chanTurnOn n).ls.chans.length = s.ls.chans.length := by
  unfold State.chanTurnOn State.dropOpenLoad State.flag
  rw [onChan_len]
  split
  · rw [State.set_ls, onChan_len]
  · rfl

theorem chanTurnOff_len (s : State) (n : Nat) : (s.chanTurnOff n).ls.chans.length = s.ls.chans.length := by
  unfold State.chanTurnOff
  split
  · rfl
  · rw [onChan_len]

/-- With the loads off no channel is on. -/
theorem loadsOff_chanOn {s : State} (hlen : s.ls.chans.length = 16) {n : Nat} (hn : n < 16) : s.loadsOff.chanOn n = false := by
  have hoff : ∀ (l : List Nat), (∀ m ∈ l, m < 16) → ∀ t : State, t.ls.chans.length = 16 → (n ∈ l ∨ t.chanOn n = false) →
      (l.foldl (fun (u : State) m => u.chanTurnOff m) t).chanOn n = false := by
    intro l
    induction l with
    | nil => exact fun _ t _ h => h.resolve_left List.not_mem_nil
    | cons m l ih =>
      intro hl t ht h
      refine ih (fun k hk => hl k (List.mem_cons_of_mem _ hk)) _ ((chanTurnOff_len t m).trans ht) ?_
      have hm := hl m List.mem_cons_self
      by_cases hmn : m = n
      · subst hmn
        exact .inr (chan_chanTurnOff_same (by omega)).2.2
      · rcases h with h | h
        · exact .inl ((List.mem_cons.mp h).resolve_left fun e => hmn e.symm)
        · refine .inr ?_
          unfold State.chanOn
          rw [chan_chanTurnOff_other (Ne.symm hmn)]
          exact h
  unfold State.loadsOff State.chanOn
  rw [chan_set, chan_set]
  exact hoff chanList (fun m hm => List.mem_range.mp hm) s hlen (.inl (List.mem_range.mpr hn))

/-! ### A fault of a channel -/

theorem chanBit_okay : ∀ n < 16, (chanBit F.LSA_IFLAG_FAULT n).okay = true ∧ (chanBit F.LSA_IFLAG_LATCH n).okay = true ∧
    (chanBit F.LSA_IFLAG_OLCHG n).okay = true ∧ (chanBit F.LSA_OUT_ON n).okay = true := by decide

theorem chanBit_event : ∀ n < 16, (chanBit F.LSA_IFLAG_FAULT n).page = 0x51 + n / 8 ∧ (chanBit F.LSA_IFLAG_FAULT n).lo = n % 8 ∧
    (chanBit F.LSA_IFLAG_LATCH n).page = 0x51 + n / 8 ∧ (chanBit F.LSA_IFLAG_LATCH n).lo = 8 + n % 8 ∧
    (chanBit F.LSA_IFLAG_LATCH n).leaves (chanBit F.LSA_IFLAG_FAULT n) = true := by decide

theorem chanField_leaves : ∀ n < 16, ∀ m < 16, (chanBit F.LSA_IFLAG_FAULT m).leaves (chanField F.LSA_CH_MODE n) = true := by decide

/-- A channel that latches raises its flag and its event. -/
theorem chanLatch_latches {s : State} {n : Nat} (h : (s.chan n).state ≠ 4) (hn : n < 16) :
    (s.chanLatch n).on (chanBit F.LSA_IFLAG_LATCH n) = true ∧ raised s (s.chanLatch n) (0x51 + n / 8) (.flag (8 + n % 8)) 2 := by
  obtain ⟨-, hok, -, -⟩ := chanBit_okay n hn
  obtain ⟨-, -, hpage, hlo, -⟩ := chanBit_event n hn
  unfold State.chanLatch
  rw [if_neg h]
  refine ⟨State.on_flagEvent_okay hok _ _ _, ?_⟩
  rw [← hpage, ← hlo]
  exact raised_flagEvent (congrArg RosemarySt.inbox (onChan_rsm ..)) _ _ _

theorem sends_chanLatch {s₀ : State} (s : State) (n : Nat) (h : Sends s₀ s) : Sends s₀ (s.chanLatch n) := by
  unfold State.chanLatch
  split
  · exact h
  · exact sends_flagEvent (sends_onChan _ _ _ h)

theorem on_chanLatch {s : State} {n : Nat} {g : Fld} (hg : alt_showChans.testBit (wordBit g.addr) = false)
    (hl : (chanBit F.LSA_IFLAG_LATCH n).leaves g = true) : (s.chanLatch n).on g = s.on g := by
  unfold State.chanLatch
  split
  · rfl
  · rw [State.on_flagEvent_leaves hl, on_onChan hg]

/-- The state of a channel that has met a fault, before it waits or latches. -/
def State.faultNoted (s : State) (n cause : Nat) : State :=
  (s.onChan n fun c => { c with state := 3, cause := cause, offAt := s.now }).flagEvent (chanBit F.LSA_IFLAG_FAULT n) 1

theorem chanFault_eq (s : State) (n cause : Nat) : s.chanFault n cause =
    if (s.faultNoted n cause).on (chanField F.LSA_CH_MODE n) || ((s.faultNoted n cause).chan n).left == 0
    then (s.faultNoted n cause).chanLatch n else s.faultNoted n cause := rfl

theorem chan_chanFault_other {n m : Nat} (h : m ≠ n) (s : State) (cause : Nat) : (s.chanFault n cause).chan m = s.chan m := by
  have hnoted : (s.faultNoted n cause).chan m = s.chan m := by
    unfold State.faultNoted
    rw [chan_flagEvent, chan_onChan_other h]
  rw [chanFault_eq]
  split
  · rw [chan_chanLatch_other h, hnoted]
  · exact hnoted

theorem sends_chanFault {s₀ : State} (s : State) (n cause : Nat) (h : Sends s₀ s) : Sends s₀ (s.chanFault n cause) := by
  have hnoted : Sends s₀ (s.faultNoted n cause) := sends_flagEvent (sends_onChan _ _ _ h)
  rw [chanFault_eq]
  split
  · exact sends_chanLatch _ _ hnoted
  · exact hnoted

/-- What a fault leaves (R374), seen from an earlier state with the channel and its mode as they are. -/
theorem faulted_chanFault {s₀ s : State} {n : Nat} (hlen : s.ls.chans.length = 16) (hn : n < 16) (hs : Sends s₀ s)
    (hleft : (s.chan n).left = (s₀.chan n).left) (hmode : s.on (chanField F.LSA_CH_MODE n) = s₀.on (chanField F.LSA_CH_MODE n))
    (cause : Nat) : Claims.faulted s₀ (s.chanFault n cause) n cause := by
  obtain ⟨hok, -, -, -⟩ := chanBit_okay n hn
  obtain ⟨hpage, hlo, -, -, hleaves⟩ := chanBit_event n hn
  have hnote : (s.faultNoted n cause).chan n = { s.chan n with state := 3, cause := cause, offAt := s.now } := by
    unfold State.faultNoted
    rw [chan_flagEvent, chan_onChan (by omega), if_pos rfl]
  have hnlen : n < (s.faultNoted n cause).ls.chans.length := by
    unfold State.faultNoted
    rw [State.flagEvent_ls, onChan_len]
    omega
  have hnmode : (s.faultNoted n cause).on (chanField F.LSA_CH_MODE n) = s₀.on (chanField F.LSA_CH_MODE n) := by
    unfold State.faultNoted
    rw [State.on_flagEvent_leaves (chanField_leaves n hn n hn), on_onChan (alt_showChans_chanField rfl rfl hn), hmode]
  have hnsends : Sends s₀ (s.faultNoted n cause) := sends_flagEvent (sends_onChan _ _ _ hs)
  have hnflag : (s.faultNoted n cause).on (chanBit F.LSA_IFLAG_FAULT n) = true := State.on_flagEvent_okay hok _ _ _
  have hnraised : raised s₀ (s.faultNoted n cause) (0x51 + n / 8) (.flag (n % 8)) 1 := by
    rw [← hpage, ← hlo]
    refine raised_of_earlier hs (raised_flagEvent (congrArg RosemarySt.inbox (onChan_rsm ..)) _ _ _) ?_
    exact (sends_flagEvent (sends_onChan _ _ _ (sends_refl s))).inbox
  have hnleft : ((s.faultNoted n cause).chan n).left = (s₀.chan n).left := by rw [hnote]; exact hleft
  unfold Claims.faulted
  rw [chanFault_eq, hnmode, hnleft]
  split
  next hlatch =>
    have h3 : ((s.faultNoted n cause).chan n).state ≠ 4 := by rw [hnote]; exact (by decide : (3 : Nat) ≠ 4)
    obtain ⟨hon, hraised⟩ := chanLatch_latches h3 hn
    rw [chan_chanLatch_same hnlen, hnote]
    refine ⟨rfl, rfl, hleft, ?_, raised_of_sends hnraised hnsends.inbox (sends_chanLatch _ _ (sends_refl _)), fun _ => ⟨hon, ?_⟩⟩
    · rw [on_chanLatch (chanBit_iflag rfl (.inl rfl) hn) hleaves]
      exact hnflag
    · exact raised_of_earlier hnsends hraised (sends_chanLatch _ _ (sends_refl _)).inbox
  next =>
    rw [hnote]
    exact ⟨rfl, rfl, hleft, hnflag, hnraised, fun h => absurd h (by decide : (3 : Nat) ≠ 4)⟩

end Sys2Proof.Machine
end

section
/-! SUPPORT. A command word written with a value that may need a clamp: the command runs with the value clamped, and the clamps are
logged (R78, R79). -/
set_option Elab.async false
namespace Sys2Proof.Machine
open Host

/-- What the entries of the log of clamps may alter. -/
def clampWords : Nat := (List.range 48).foldl (fun m i => m ||| putMask (addrOf 0x02 (0x80 + i))) 0

/-- What logging a clamp may alter, beside CLAMP of its page. -/
def alt_clampLog : Nat :=
  alt_journalWrite ||| clampWords ||| setMask F.CFG_CLPHEAD_TOTAL ||| setMask F.CFG_CLPHEAD_NEWEST ||| setMask F.CFG_IFLAG_CLAMP

theorem sub_clampWords {i : Nat} (h : i < 48) : Sub (putMask (addrOf 0x02 (0x80 + i))) alt_clampLog :=
  sub_trans (foldl_or_mem (fun i => putMask (addrOf 0x02 (0x80 + i))) (List.mem_range.mpr h) 0) (by unfold Sub; decide +kernel)

/-- What logging the clamps of a write to a page may alter. -/
def clampMask (page : Nat) : Nat := 2 ^ wordBit (addrOf page 6) ||| alt_clampLog

/-- The entry of the log that the next clamp takes. -/
def State.nextClamp (s : State) : Nat := if s.get F.CFG_CLPHEAD_TOTAL = 0 then 0 else (s.get F.CFG_CLPHEAD_NEWEST + 1) % 16

theorem nextClamp_lt (s : State) : s.nextClamp < 16 := by
  unfold State.nextClamp
  split
  · omega
  · exact Nat.mod_lt _ (by decide)

/-- CLAMP of a page with one more clamp of a word. -/
def State.clampCounted (s : State) (page word : Nat) (c : Clamp) : Word :=
  if bitsOf (s.reg (addrOf page 6)) 31 24 = 0 then BitVec.ofNat 32 (16777216 + word * 65536 + c.reason)
  else withBits (s.reg (addrOf page 6)) 31 24 (satAdd (bitsOf (s.reg (addrOf page 6)) 31 24) 1 255)

/-- A clamp entered as entry `e` of the log. -/
def State.clampAt (s : State) (page word e : Nat) (c : Clamp) : State :=
  let kept := (F.CFG_CLPHEAD_TOTAL.addr :: (List.range 3).map fun i => addrOf 0x02 (0x80 + 3 * e + i)).map fun a => Kept.word a (s.reg a)
  let s := s.put (addrOf 0x02 (0x80 + 3 * e)) (BitVec.ofNat 32 (page * 16777216 + word * 65536 + c.low * 2048 + c.width * 32 + c.reason))
  let s := s.put (addrOf 0x02 (0x81 + 3 * e)) (BitVec.ofNat 32 c.requested)
  let s := s.put (addrOf 0x02 (0x82 + 3 * e)) (BitVec.ofNat 32 c.applied)
  (((s.count F.CFG_CLPHEAD_TOTAL).set F.CFG_CLPHEAD_NEWEST e).flag F.CFG_IFLAG_CLAMP).journalWrite kept

theorem logClamp_eq (s : State) (page word : Nat) (c : Clamp) : s.logClamp page word c =
    (s.setReg (addrOf page 6) (s.clampCounted page word c)).clampAt page word
      (s.setReg (addrOf page 6) (s.clampCounted page word c)).nextClamp c := rfl

theorem alters_clampAt {m : Nat} {s₀ s : State} (hm : Sub alt_clampLog m) (page word : Nat) {e : Nat} (he : e < 16) (c : Clamp)
    (hk : Alters m s₀ s) : Alters m s₀ (s.clampAt page word e c) := by
  have hput : ∀ (t : State) (i : Nat) (v : Word), i < 48 → Alters m s₀ t → Alters m s₀ (t.put (addrOf 0x02 (0x80 + i)) v) :=
    fun t i v hi ht => alters_put (sub_trans (sub_clampWords hi) hm) ht
  have hfirst := hput _ (3 * e) (BitVec.ofNat 32 (page * 16777216 + word * 65536 + c.low * 2048 + c.width * 32 + c.reason)) (by omega) hk
  have hsecond := hput _ (1 + 3 * e) (BitVec.ofNat 32 c.requested) (by omega) hfirst
  have hthird := hput _ (2 + 3 * e) (BitVec.ofNat 32 c.applied) (by omega) hsecond
  rw [← Nat.add_assoc, ← Nat.add_assoc] at hthird
  unfold State.clampAt
  dsimp only
  exact alters_journalWrite _ _ (sub_trans (by decide +kernel) hm) (alters_flag (sub_trans (by decide +kernel) hm)
    (alters_set (sub_trans (by decide +kernel) hm) (alters_count (sub_trans (by decide +kernel) hm) hthird)))

theorem alters_logClamp {s₀ s : State} (page word : Nat) (c : Clamp) (hk : Alters (clampMask page) s₀ s) :
    Alters (clampMask page) s₀ (s.logClamp page word c) := by
  rw [logClamp_eq]
  refine alters_clampAt (by unfold clampMask; rw [Nat.or_comm]; exact sub_left (sub_refl _)) page word (nextClamp_lt _) c
    (alters_setReg (sub_left (sub_refl _)) hk)

theorem alters_logClamps (s : State) (page word : Nat) (l : List Clamp) : Alters (clampMask page) s (s.logClamps page word l) :=
  alters_foldl (fun _ c h => alters_logClamp page word c h) (alters_refl _ s)

/-! ### A command word -/

/-- A command word written on a link that takes it: the command runs with the value clamped, in a state like `s` with the words that follow
the moment up to date; its answer is the reply, and the clamps of one that is granted are logged. -/
theorem hostWrite_clamped {s : State} {l : Link} (h : s.takes l) {page word : Nat} (v : Word) (row : RegRow)
    (hf : s.fitted page = true) (hp : page < 256) (hw : word < 256) (h8 : 8 ≤ word) (hcm : ¬ (page = 0x02 ∧ word = 0x08))
    (hrow : regRow page word = some row) (hs : row.hasAccess .rws = false) (ha : (row.hasAccess .wo || row.hasAccess .rw) = true) :
    ∃ a, twin a s.refreshShown ∧
      (∀ c, (a.command l page word (checkWrite row.rows 0 v).1).2 = some c → Claims.refusedWith (s.hostWrite l page word v) l c ∧
        twin (s.hostWrite l page word v) (a.command l page word (checkWrite row.rows 0 v).1).1) ∧
      ((a.command l page word (checkWrite row.rows 0 v).1).2 = none → Claims.granted (s.hostWrite l page word v) l ∧
        twin (s.hostWrite l page word v)
          ((a.command l page word (checkWrite row.rows 0 v).1).1.logClamps page word (checkWrite row.rows 0 v).2)) := by
  obtain ⟨a, htwin, hstate, hrefused, hgranted⟩ := hostWrite_served h v hf hp hw
  have hend : a.writeFitted l page word v =
      endWrite page word (checkWrite row.rows 0 v).2 (a.command l page word (checkWrite row.rows 0 v).1) := by
    unfold State.writeFitted
    rw [if_neg (by omega), if_neg (by omega), if_neg (by omega), if_neg (by omega), if_neg hcm, hrow]
    simp only [hs, ha, Bool.false_eq_true, if_false, if_true]
  rw [hend] at hstate hrefused hgranted
  refine ⟨a, htwin, fun c hc => ?_, fun hc => ?_⟩
  · unfold endWrite at hstate hrefused
    rw [hc] at hstate hrefused
    exact ⟨hrefused c rfl, hstate⟩
  · unfold endWrite at hstate hgranted
    rw [hc] at hstate hgranted
    exact ⟨(hgranted rfl).1, hstate⟩

end Sys2Proof.Machine
end

section
/-! The load switches: commands, faults, zones, restarts (O46). -/
set_option Elab.async false
namespace Sys2Proof.Machine
open Host

/-! ### Commands -/

theorem enabled_of_twin {a s : State} (ha : twin a s.refreshShown) (page : Nat) : a.enabled page = s.enabled page := by
  unfold State.enabled
  rw [reg_of_linksAside ha.1, State.reg_refreshShown_low (by rw [addrOf_mod (by decide)]; decide) (by rw [addrOf_mod (by decide)]; decide)]

theorem chan_of_twin {a s : State} (ha : twin a s.refreshShown) (n : Nat) : a.chan n = s.chan n := chan_of_ls (ls_of_twin ha) n

theorem chanOn_of_twin {a s : State} (ha : twin a s.refreshShown) (n : Nat) : a.chanOn n = s.chanOn n := by
  unfold State.chanOn
  rw [chan_of_twin ha]

/-- A command word of eight bits holds what is written to them. -/
theorem checkWrite_eight {name : String} {acc : Access} (h : acc = .wo ∨ acc = .rw) (v : Word) :
    bitsOf (checkWrite [.rsv 31 8, .fld name 7 0 acc 0 .any] 0 v).1 7 0 = bitsOf v 7 0 := by
  have hword : (checkWrite [.rsv 31 8, .fld name 7 0 acc 0 .any] 0 v).1 = withBits (withBits 0 31 8 0) 7 0 (bitsOf v 7 0) := by
    rcases h with rfl | rfl <;> rfl
  rw [hword, bitsOf_withBits _ _ _ _ (by decide) (by decide)]
  exact Nat.mod_eq_of_lt (bitsOf_lt v 7 0)

/-- What a command asks of channel `n` by its bit `c`. -/
def State.outStep (s : State) (i bits c : Nat) : State :=
  if bit bits c then (if (s.chan (8 * i + c)).state = 0 then s.chanTurnOn (8 * i + c) else s)
  else if s.chanOn (8 * i + c) then s.chanTurnOff (8 * i + c) else s

/-- Why a command to channels is refused. -/
def State.outRefused (s : State) (i bits : Nat) : Bool :=
  let on := (List.range 8).filter (bit bits)
  !on.isEmpty && (!s.enabled (0x51 + i) || !s.enabled 0x50 || s.pwr.phase == .holdup) ||
    (on.any fun c => (s.chan (8 * i + c)).state == 4) ||
    bit (s.get F.TMP_LATCH_LATCHED) 9 && on.any (fun c => !s.chanOn (8 * i + c))

theorem ite_or_or {α : Type} (p q r : Bool) (x y : α) :
    (if p then x else if q then x else if r then x else y) = if p || q || r then x else y := by
  cases p <;> cases q <;> cases r <;> rfl

theorem writeLsOut_eq (s : State) (i : Nat) (v : Word) : s.writeLsOut i v =
    if s.outRefused i (bitsOf v 7 0) then (s, some 0x0A)
    else ((List.range 8).foldl (fun (t : State) c => t.outStep i (bitsOf v 7 0) c) (s.set (F.LSA_OUT_ON.on i) (bitsOf v 7 0)), none) := by
  unfold State.writeLsOut State.outRefused
  exact ite_or_or ..

/-- What a command to a channel leaves of it. -/
def outDone (s u : State) (n : Nat) (on : Bool) : Prop :=
  (on = true → (s.chan n).state = 0 → (u.chan n).state = 2 ∧ (u.chan n).onAt = s.now ∧
    (u.chan n).inrushEnd = s.now + 1000 * s.get (chanField F.LSA_CH_TINR n)) ∧
  (on = true → (s.chan n).state ≠ 0 → u.chan n = s.chan n) ∧
  (on = false → s.chanOn n = true → (u.chan n).state = 0 ∧ (u.chan n).left = (s.chan n).left)

theorem outDone_of_chan {s u v : State} {n : Nat} {on : Bool} (h : outDone s u n on) (hv : v.chan n = u.chan n) : outDone s v n on := by
  unfold outDone
  rw [hv]
  exact h

theorem alters_outStep (s : State) (i bits c : Nat) : Alters (alt_chanTurnOn ||| alt_chanTurnOff) s (s.outStep i bits c) := by
  unfold State.outStep
  split_ifs
  · exact (altersOf (alters_chanTurnOn s _)).mono (by unfold Sub; decide +kernel)
  · exact alters_refl _ s
  · exact (altersOf (alters_chanTurnOff s _)).mono (by unfold Sub; decide +kernel)
  · exact alters_refl _ s

theorem outStep_len (s : State) (i bits c : Nat) : (s.outStep i bits c).ls.chans.length = s.ls.chans.length := by
  unfold State.outStep
  split_ifs
  · exact chanTurnOn_len ..
  · rfl
  · exact chanTurnOff_len ..
  · rfl

theorem chan_outStep_other {i c n : Nat} (h : n ≠ 8 * i + c) (s : State) (bits : Nat) : (s.outStep i bits c).chan n = s.chan n := by
  unfold State.outStep
  split_ifs
  · exact chan_chanTurnOn_other h s
  · rfl
  · exact chan_chanTurnOff_other h s
  · rfl

theorem outDone_outStep {s : State} {i c : Nat} (h : 8 * i + c < s.ls.chans.length) (bits : Nat) :
    outDone s (s.outStep i bits c) (8 * i + c) (bit bits c) := by
  unfold State.outStep
  refine ⟨fun hb h0 => ?_, fun hb h0 => ?_, fun hb hon => ?_⟩
  · rw [if_pos hb, if_pos h0]
    obtain ⟨b, hchan⟩ := chan_chanTurnOn h
    rw [hchan]
    exact ⟨rfl, rfl, by rw [Nat.mul_comm 1000]⟩
  · rw [if_pos hb, if_neg h0]
  · rw [if_neg (by rw [hb]; decide), if_pos hon]
    obtain ⟨hleft, hstate, -⟩ := chan_chanTurnOff_same h
    refine ⟨hstate fun h4 => ?_, hleft⟩
    unfold State.chanOn at hon
    rw [h4] at hon
    exact absurd hon (by decide)

/-- The eight channels of a page follow the command. -/
theorem outDone_fold {s : State} {i c : Nat} (hi : i < 2) (hc : c < 8) (hlen : s.ls.chans.length = 16) (bits : Nat) :
    outDone s ((List.range 8).foldl (fun (t : State) c => t.outStep i bits c) s) (8 * i + c) (bit bits c) := by
  have hfield : alt_showChans.testBit (wordBit (chanField F.LSA_CH_TINR (8 * i + c)).addr) = false := alt_showChans_chanField rfl rfl (by omega)
  have hkeep : ∀ t m, (State.outStep t i bits m).get (chanField F.LSA_CH_TINR (8 * i + c)) = t.get (chanField F.LSA_CH_TINR (8 * i + c)) :=
    fun t m => (alters_outStep t i bits m).get _ (by
      have hall : ∀ n < 16, (alt_chanTurnOn ||| alt_chanTurnOff).testBit (wordBit (chanField F.LSA_CH_TINR n).addr) = false := by decide +kernel
      exact hall _ (by omega))
  refine foldl_once (b := c) (I := fun u => u.chan (8 * i + c) = s.chan (8 * i + c) ∧ u.now = s.now ∧ u.ls.chans.length = 16 ∧
      u.get (chanField F.LSA_CH_TINR (8 * i + c)) = s.get (chanField F.LSA_CH_TINR (8 * i + c)))
    (J := fun u => outDone s u (8 * i + c) (bit bits c)) (List.range 8) (by decide) (List.mem_range.mpr hc) ?_ ?_ ?_ ⟨rfl, rfl, hlen, rfl⟩
  · rintro t m - hm ⟨hchan, hnow, htlen, htinr⟩
    exact ⟨(chan_outStep_other (by omega) t bits).trans hchan, ((alters_outStep t i bits m).now (by decide +kernel)).trans hnow,
      (outStep_len ..).trans htlen, (hkeep t m).trans htinr⟩
  · rintro t ⟨hchan, hnow, htlen, htinr⟩
    have hdone := outDone_outStep (s := t) (i := i) (c := c) (by omega) bits
    unfold outDone State.chanOn at hdone ⊢
    rw [hchan, hnow, htinr] at hdone
    exact hdone
  · rintro t m - hm hdone
    exact outDone_of_chan hdone (chan_outStep_other (by omega) t bits)

theorem outRefused_eq_false {s : State} {i bits : Nat} (hen : s.enabled (0x51 + i) = true) (hen0 : s.enabled 0x50 = true)
    (hrun : s.pwr.phase = .run) (hall : ((List.range 8).all fun k => !bit bits k || ((s.chan (8 * i + k)).state != 4 &&
      (!bit (s.get F.TMP_LATCH_LATCHED) 9 || s.chanOn (8 * i + k)))) = true) : s.outRefused i bits = false := by
  rw [List.all_eq_true] at hall
  unfold State.outRefused
  dsimp only
  rw [hen, hen0, hrun]
  have hlatched : (((List.range 8).filter (bit bits)).any fun c => (s.chan (8 * i + c)).state == 4) = false := by
    rw [List.any_eq_false]
    intro c hc
    obtain ⟨hmem, hb⟩ := List.mem_filter.mp hc
    have := hall c hmem
    rw [hb] at this
    simp only [Bool.not_true, Bool.false_or, Bool.and_eq_true, bne_iff_ne] at this
    simpa using this.1
  have hstop : (bit (s.get F.TMP_LATCH_LATCHED) 9 && ((List.range 8).filter (bit bits)).any (fun c => !s.chanOn (8 * i + c))) = false := by
    cases hl : bit (s.get F.TMP_LATCH_LATCHED) 9 with
    | false => rfl
    | true =>
      rw [Bool.true_and, List.any_eq_false]
      intro c hc
      obtain ⟨hmem, hb⟩ := List.mem_filter.mp hc
      have := hall c hmem
      rw [hb, hl] at this
      simp only [Bool.not_true, Bool.false_or, Bool.and_eq_true] at this
      rw [this.2]
      decide
  rw [hlatched, hstop]
  simp

theorem outRefused_eq_true {s : State} {i bits c : Nat} (hc : c < 8) (hb : bit bits c = true)
    (h : s.enabled (0x51 + i) = false ∨ s.enabled 0x50 = false ∨ (s.chan (8 * i + c)).state = 4 ∨
      (bit (s.get F.TMP_LATCH_LATCHED) 9 = true ∧ s.chanOn (8 * i + c) = false)) : s.outRefused i bits = true := by
  have hmem : c ∈ (List.range 8).filter (bit bits) := List.mem_filter.mpr ⟨List.mem_range.mpr hc, hb⟩
  have hne : ((List.range 8).filter (bit bits)).isEmpty = false := List.isEmpty_eq_false_iff.mpr (List.ne_nil_of_mem hmem)
  unfold State.outRefused
  dsimp only
  rw [hne]
  rcases h with h | h | h | ⟨hl, hoff⟩
  · rw [h]; simp
  · rw [h]; simp
  · have : (((List.range 8).filter (bit bits)).any fun c => (s.chan (8 * i + c)).state == 4) = true :=
      List.any_eq_true.mpr ⟨c, hmem, by rw [h]; rfl⟩
    rw [this]; simp
  · have : (((List.range 8).filter (bit bits)).any fun c => !s.chanOn (8 * i + c)) = true :=
      List.any_eq_true.mpr ⟨c, hmem, by rw [hoff]; rfl⟩
    rw [hl, this]; simp

theorem command_lsOut (a : State) (l : Link) (b : Bool) (v : Word) :
    a.command l (0x51 + ofBool b) 0xE0 v = a.writeLsOut (ofBool b) v := by cases b <;> rfl

theorem command_lsClr (a : State) (l : Link) (b : Bool) (v : Word) :
    a.command l (0x51 + ofBool b) 0xE1 v = a.writeLsClr (ofBool b) v := by cases b <;> rfl

theorem execLsOutWrite_served {s : State} {l : Link} (h : s.takes l) (b : Bool) (v : Word) : ∃ a v', twin a s.refreshShown ∧
    bitsOf v' 7 0 = bitsOf v 7 0 ∧
    (∀ c, (a.writeLsOut (ofBool b) v').2 = some c → Claims.refusedWith (s.hostWrite l (0x51 + ofBool b) 0xE0 v) l c ∧
      twin (s.hostWrite l (0x51 + ofBool b) 0xE0 v) (a.writeLsOut (ofBool b) v').1) ∧
    ((a.writeLsOut (ofBool b) v').2 = none → Claims.granted (s.hostWrite l (0x51 + ofBool b) 0xE0 v) l ∧
      twin (s.hostWrite l (0x51 + ofBool b) 0xE0 v) ((a.writeLsOut (ofBool b) v').1.logClamps (0x51 + ofBool b) 0xE0
        (checkWrite rLSA_OUT.rows 0 v).2)) := by
  obtain ⟨a, ha, hrefused, hgranted⟩ := hostWrite_clamped (page := 0x51 + ofBool b) (word := 0xE0) h v rLSA_OUT (by cases b <;> rfl)
    (by cases b <;> decide) (by decide) (by decide) (by cases b <;> decide) (by cases b <;> rfl) rfl rfl
  simp only [command_lsOut] at hrefused hgranted
  exact ⟨a, _, ha, checkWrite_eight (.inr rfl) v, hrefused, hgranted⟩

theorem clamped_ls (s : State) (b : Bool) (word : Nat) (l : List Clamp) : (s.logClamps (0x51 + ofBool b) word l).ls = s.ls :=
  (alters_logClamps s _ word l).ls (by cases b <;> decide +kernel)

theorem execLsOutWrite_claim (l : Link) (b : Bool) (v : Word) (c : Nat) (s : State) : Claims.lsOutWrite l b v c s := by
  intro h hshape hc hen hen0 hall
  obtain ⟨-, -, hlen, -⟩ := hshape
  obtain ⟨a, v', ha, hv, -, hgranted⟩ := execLsOutWrite_served h b v
  have hi : ofBool b < 2 := by cases b <;> decide
  have hfree : a.outRefused (ofBool b) (bitsOf v 7 0) = false := by
    refine outRefused_eq_false ((enabled_of_twin ha _).trans hen) ((enabled_of_twin ha _).trans hen0) ((congrArg _ (pwr_of_twin ha)).trans h.1) ?_
    simp only [chan_of_twin ha, chanOn_of_twin ha, State.get_of_twin ha (f := F.TMP_LATCH_LATCHED) (by decide)]
    exact hall
  rw [writeLsOut_eq, hv, if_neg (by rw [hfree]; decide)] at hgranted
  obtain ⟨hgrant, htwin⟩ := hgranted rfl
  have hlen' : (a.set (F.LSA_OUT_ON.on (ofBool b)) (bitsOf v 7 0)).ls.chans.length = 16 := by rw [State.set_ls, ls_of_twin ha]; exact hlen
  have hdone := outDone_fold hi hc hlen' (bitsOf v 7 0)
  refine ⟨_, rfl, hgrant, ?_, ?_⟩
  · have hfold : ∀ t : State, ((List.range 8).foldl (fun (t : State) c => t.outStep (ofBool b) (bitsOf v 7 0) c) t).get (F.LSA_OUT_ON.on (ofBool b)) =
        t.get (F.LSA_OUT_ON.on (ofBool b)) := fun t =>
      (foldl_alters (fun t c => alters_outStep t (ofBool b) (bitsOf v 7 0) c) _ t).get _ (by cases b <;> decide +kernel)
    rw [get_of_linksAside htwin.1, (alters_logClamps _ _ _ _).get _ (by cases b <;> decide +kernel), hfold]
    exact State.get_set_lt (by cases b <;> decide) (bitsOf_lt v 7 0) a
  · refine outDone_of_chan (u := (List.range 8).foldl (fun (t : State) c => t.outStep (ofBool b) (bitsOf v 7 0) c)
      (a.set (F.LSA_OUT_ON.on (ofBool b)) (bitsOf v 7 0))) ?_ (chan_of_ls ((ls_of_aside htwin.1).trans (clamped_ls ..)) _)
    have htinr : (a.set (F.LSA_OUT_ON.on (ofBool b)) (bitsOf v 7 0)).get (chanField F.LSA_CH_TINR (8 * ofBool b + c)) =
        s.get (chanField F.LSA_CH_TINR (8 * ofBool b + c)) := by
      rw [State.get_set_leaves (by
        have hall : ∀ k < 2, ∀ n < 16, (F.LSA_OUT_ON.on k).leaves (chanField F.LSA_CH_TINR n) = true := by decide
        exact hall _ hi _ (by omega)), State.get_of_twin ha (Fld.derived_of_page (by
        have hall : ∀ n < 16, 0x1A ≤ (chanField F.LSA_CH_TINR n).page := by decide
        exact hall _ (by omega)))]
    unfold outDone State.chanOn at hdone ⊢
    rw [chan_set, State.set_now, htinr, chan_of_twin ha, now_of_twin ha] at hdone
    exact hdone

theorem execLsOutWrite_refused_claim (l : Link) (b : Bool) (v : Word) (c : Nat) (s : State) : Claims.lsOutRefused l b v c s := by
  intro h hc hb hwhy
  obtain ⟨a, v', ha, hv, hrefused, -⟩ := execLsOutWrite_served h b v
  have hturned : a.outRefused (ofBool b) (bitsOf v 7 0) = true := by
    refine outRefused_eq_true hc hb ?_
    rw [enabled_of_twin ha, enabled_of_twin ha, chan_of_twin ha, chanOn_of_twin ha, State.get_of_twin ha (f := F.TMP_LATCH_LATCHED) (by decide)]
    exact hwhy
  rw [writeLsOut_eq, hv, if_pos hturned] at hrefused
  obtain ⟨hanswer, htwin⟩ := hrefused 0x0A rfl
  exact ⟨_, rfl, hanswer, linksAside_trans htwin.1 ha.1⟩

/-! ### Clears -/

theorem chan_clearChan {s : State} {n : Nat} (h : n < s.ls.chans.length) : ((s.clearChan n).chan n).state = 0 ∧
    ((s.clearChan n).chan n).left = s.get (chanField F.LSA_CH_RETRY n) := by
  unfold State.clearChan
  rw [chan_setOn, chan_onChan_same h]
  exact ⟨rfl, rfl⟩

theorem chan_clearChan_other {n m : Nat} (h : m ≠ n) (s : State) : (s.clearChan n).chan m = s.chan m := by
  unfold State.clearChan
  rw [chan_setOn, chan_onChan_other h]

theorem chanOut_leaves : ∀ n < 16, ∀ m < 16, (chanBit F.LSA_OUT_ON n).leaves (chanField F.LSA_CH_RETRY m) = true ∧
    (n ≠ m → (chanBit F.LSA_OUT_ON n).leaves (chanBit F.LSA_OUT_ON m) = true) := by decide

theorem get_clearChan {n m : Nat} (hn : n < 16) (hm : m < 16) (s : State) :
    (s.clearChan n).get (chanField F.LSA_CH_RETRY m) = s.get (chanField F.LSA_CH_RETRY m) := by
  unfold State.clearChan
  rw [State.get_setOn_leaves (chanOut_leaves n hn m hm).1, get_onChan (alt_showChans_chanField rfl rfl hm)]

/-- What a clear leaves of a channel. -/
def chanCleared (s u : State) (n : Nat) : Prop :=
  (u.chan n).state = 0 ∧ (u.chan n).left = s.get (chanField F.LSA_CH_RETRY n) ∧ u.on (chanBit F.LSA_OUT_ON n) = false

theorem chanCleared_clearChan {s : State} {n : Nat} (hn : n < 16) (hlen : s.ls.chans.length = 16) : chanCleared s (s.clearChan n) n := by
  obtain ⟨hstate, hleft⟩ := chan_clearChan (s := s) (n := n) (by omega)
  exact ⟨hstate, hleft, State.on_setOn_okay (chanBit_okay n hn).2.2.2 _ _⟩

theorem clearChan_len (s : State) (n : Nat) : (s.clearChan n).ls.chans.length = s.ls.chans.length := by
  unfold State.clearChan State.setOn
  rw [State.set_ls, onChan_len]

/-- A clear of the channels of a list clears each of them. -/
theorem chanCleared_fold {s : State} {i c : Nat} (hi : i < 2) {l : List Nat} (hl : ∀ m ∈ l, m < 8) (hnd : l.Nodup) (hc : c ∈ l)
    (hlen : s.ls.chans.length = 16) : chanCleared s (l.foldl (fun (t : State) m => t.clearChan (8 * i + m)) s) (8 * i + c) := by
  have hc8 := hl c hc
  refine foldl_once (b := c) (I := fun u => u.ls.chans.length = 16 ∧
      u.get (chanField F.LSA_CH_RETRY (8 * i + c)) = s.get (chanField F.LSA_CH_RETRY (8 * i + c)))
    (J := fun u => chanCleared s u (8 * i + c)) l hnd hc ?_ ?_ ?_ ⟨hlen, rfl⟩
  · rintro t m hm - ⟨htlen, hretry⟩
    have hm8 := hl m hm
    exact ⟨(clearChan_len ..).trans htlen, (get_clearChan (by omega) (by omega) t).trans hretry⟩
  · rintro t ⟨htlen, hretry⟩
    have hdone := chanCleared_clearChan (s := t) (n := 8 * i + c) (by omega) htlen
    unfold chanCleared at hdone ⊢
    rw [hretry] at hdone
    exact hdone
  · rintro t m hm hne ⟨hstate, hleft, hout⟩
    have hm8 := hl m hm
    have hother := chan_clearChan_other (n := 8 * i + m) (m := 8 * i + c) (by omega) t
    refine ⟨by rw [hother]; exact hstate, by rw [hother]; exact hleft, ?_⟩
    unfold State.clearChan
    rw [State.on_setOn_leaves ((chanOut_leaves _ (by omega) _ (by omega)).2 (by omega)), on_onChan (chanBit_iflag rfl (.inr rfl) (by omega))]
    exact hout

theorem execLsClr_claim (l : Link) (b : Bool) (v : Word) (c : Nat) (s : State) : Claims.lsClr l b v c s := by
  intro h hshape hc
  obtain ⟨-, -, hlen, -⟩ := hshape
  have hi : ofBool b < 2 := by cases b <;> decide
  obtain ⟨a, ha, -, hgranted⟩ := hostWrite_clamped (page := 0x51 + ofBool b) (word := 0xE1) h v rLSA_CLR (by cases b <;> rfl)
    (by cases b <;> decide) (by decide) (by decide) (by cases b <;> decide) (by cases b <;> rfl) rfl rfl
  simp only [command_lsClr] at hgranted
  obtain ⟨hgrant, htwin⟩ := hgranted rfl
  have hbits : bitsOf (checkWrite rLSA_CLR.rows 0 v).1 7 0 = bitsOf v 7 0 := checkWrite_eight (.inl rfl) v
  unfold State.writeLsClr at htwin
  rw [hbits] at htwin
  dsimp only at htwin
  have halen : a.ls.chans.length = 16 := by rw [ls_of_twin ha]; exact hlen
  have hls := (ls_of_aside htwin.1).trans (clamped_ls ..)
  have hmem : ∀ m ∈ (List.range 8).filter (bit (bitsOf v 7 0)), m < 8 := fun m hm => List.mem_range.mp (List.mem_filter.mp hm).1
  refine ⟨_, rfl, hgrant, fun hb _ => ?_, fun hb => ?_⟩
  · obtain ⟨hstate, hleft, hout⟩ := chanCleared_fold hi hmem (List.Nodup.filter _ (by decide))
      (List.mem_filter.mpr ⟨List.mem_range.mpr hc, hb⟩) halen
    refine ⟨by rw [chan_of_ls hls]; exact hstate, ?_, ?_⟩
    · rw [chan_of_ls hls, hleft, State.get_of_twin ha (Fld.derived_of_page (by
        have hall : ∀ n < 16, 0x1A ≤ (chanField F.LSA_CH_RETRY n).page := by decide
        exact hall _ (by omega)))]
    · rw [on_of_linksAside htwin.1, (alters_logClamps _ _ _ _).on _ (by
        have hall : ∀ n < 16, (clampMask (0x51 + ofBool b)).testBit (wordBit (chanBit F.LSA_OUT_ON n).addr) = false := by
          cases b <;> decide +kernel
        exact hall _ (by omega))]
      exact hout
  · rw [chan_of_ls hls, ← chan_of_twin ha]
    refine foldl_keeps_of_mem (fun t : State => t.chan (8 * ofBool b + c) = a.chan (8 * ofBool b + c)) _ (fun t m hm ht => ?_) rfl
    have hne : m ≠ c := by
      intro e
      have := (List.mem_filter.mp hm).2
      rw [e, hb] at this
      exact absurd this (by decide)
    exact (chan_clearChan_other (by omega) t).trans ht

end Sys2Proof.Machine
end

section
/-! Inrush windows, faults, zones and restarts of the load switches, and O46. -/
set_option Elab.async false
namespace Sys2Proof.Machine
open Host

/-! ### Inrush windows, limits, open loads -/

theorem execInrushEnd_claim (n : Nat) (s : State) : Claims.inrushEnd n s := by
  intro hshape hn h2
  obtain ⟨-, -, hlen, -⟩ := hshape
  refine ⟨_, if_pos ⟨hn, h2⟩, ?_, onChan_now ..⟩
  exact chan_onChan_same (s := s.advanceTo (s.chan n).inrushEnd) (n := n) (hlen.symm ▸ hn) _

theorem execLimitTime_claim (n since : Nat) (s : State) : Claims.limitTime n since s := by
  intro hshape hn h1
  obtain ⟨-, -, hlen, -⟩ := hshape
  have hdone := faulted_chanFault (s₀ := s) (s := s.advanceTo (max ((s.chan n).limitAt.getD since) (s.chan n).inrushEnd +
    s.get (chanField F.LSA_CH_TLIM n) * 1000)) hlen hn (sends_refl s) rfl rfl 1
  refine ⟨_, if_pos ⟨hn, h1⟩, hdone, ?_⟩
  rw [Nat.mul_comm 1000]
  exact (altersOf (alters_chanFault _ n 1)).now (by decide +kernel)

theorem execLimitTime_inInrush_claim (n since : Nat) (s : State) : Claims.limitInInrush n since s := by
  intro _ h2
  exact if_neg fun h => by rw [h2] at h; exact absurd h.2 (by decide)

theorem execOpenLoadChange_claim (n : Nat) (above : Bool) (s : State) : Claims.openLoadChange n above s := by
  intro hrun hshape hn hol hoff hopen
  obtain ⟨-, -, hlen, -⟩ := hshape
  have hne : (s.chan n).openLoad ≠ above := by rw [hopen]; cases above <;> decide
  refine ⟨_, if_pos ⟨hrun, hn, hol, hoff, hne⟩, ?_, ?_, State.on_flag_okay (chanBit_okay n hn).2.2.1 _⟩
  · rw [chan_flag, chan_onChan_same (s := s.advanceTo ((s.chan n).offAt + 10000)) (n := n) (hlen.symm ▸ hn)]
    rfl
  · rw [State.flag_now, onChan_now]
    rfl

/-! ### Zones -/

theorem chanLatch_ls (s : State) (n : Nat) : (s.chanLatch n).ls.hot = s.ls.hot ∧ (s.chanLatch n).ls.second = s.ls.second ∧
    (s.chanLatch n).ls.sensor = s.ls.sensor ∧ (s.chanLatch n).ls.chans.length = s.ls.chans.length := by
  unfold State.chanLatch
  split
  · exact ⟨rfl, rfl, rfl, rfl⟩
  · rw [State.flagEvent_ls, onChan_ls]
    exact ⟨rfl, rfl, rfl, List.length_modify ..⟩

theorem chanFault_ls (s : State) (n cause : Nat) : (s.chanFault n cause).ls.hot = s.ls.hot ∧
    (s.chanFault n cause).ls.second = s.ls.second ∧ (s.chanFault n cause).ls.sensor = s.ls.sensor := by
  have hnoted : (s.faultNoted n cause).ls.hot = s.ls.hot ∧ (s.faultNoted n cause).ls.second = s.ls.second ∧
      (s.faultNoted n cause).ls.sensor = s.ls.sensor := by
    unfold State.faultNoted
    rw [State.flagEvent_ls, onChan_ls]
    exact ⟨rfl, rfl, rfl⟩
  obtain ⟨hhot, hsecond, hsensor⟩ := hnoted
  rw [chanFault_eq]
  split
  · obtain ⟨h1, h2, h3, -⟩ := chanLatch_ls (s.faultNoted n cause) n
    exact ⟨h1.trans hhot, h2.trans hsecond, h3.trans hsensor⟩
  · exact ⟨hhot, hsecond, hsensor⟩

theorem showChans_zoneHot (s : State) : s.showChans.on F.LSW_PSTAT_ZONEHOT = !s.ls.hot.isEmpty := by
  have hls : s.showChans.ls = s.ls := showChans_ls s
  unfold State.showChans at hls ⊢
  dsimp only at hls ⊢
  rw [State.on_setOn_okay (by decide)]
  unfold State.setOn at hls ⊢
  rw [State.set_ls, State.set_ls] at hls
  rw [hls]

theorem onChan_zoneHot (s : State) (n : Nat) (f : ChanSt → ChanSt) : (s.onChan n f).on F.LSW_PSTAT_ZONEHOT = !s.ls.hot.isEmpty :=
  showChans_zoneHot _

theorem chanFlag_leaves : ∀ n < 16, ∀ g ∈ [F.LSW_PSTAT_ZONEHOT, F.LSW_IFLAG_ZONE, F.LSW_IFLAG_ZONE2, F.LSW_IFLAG_SENSOR],
    (chanBit F.LSA_IFLAG_FAULT n).leaves g = true ∧ (chanBit F.LSA_IFLAG_LATCH n).leaves g = true := by decide

theorem chanFault_zoneHot {n : Nat} (hn : n < 16) (s : State) (cause : Nat) :
    (s.chanFault n cause).on F.LSW_PSTAT_ZONEHOT = !s.ls.hot.isEmpty := by
  obtain ⟨hfault, hlatch⟩ := chanFlag_leaves n hn F.LSW_PSTAT_ZONEHOT (by simp)
  have hnoted : (s.faultNoted n cause).on F.LSW_PSTAT_ZONEHOT = !s.ls.hot.isEmpty := by
    unfold State.faultNoted
    rw [State.on_flagEvent_leaves hfault, onChan_zoneHot]
  rw [chanFault_eq]
  split
  · unfold State.chanLatch
    split
    · exact hnoted
    · rw [State.on_flagEvent_leaves hlatch, onChan_zoneHot]
      unfold State.faultNoted
      rw [State.flagEvent_ls, onChan_ls]
  · exact hnoted

/-- A zone counts as hot and is flagged. -/
def State.zoneNoted (s : State) (z : Nat) : State := (s.onLs fun l => { l with hot := z :: l.hot }).flag F.LSW_IFLAG_ZONE

/-- The channel that waits for the second check of a zone. -/
def State.secondNoted (s : State) (z first : Nat) : State := s.onLs fun l => { l with
  second := (z, 4 * z + 1 - first, s.now + 2000) :: l.second.filter fun e => e.1 != z }

theorem execZoneHot_run {z : Nat} {s : State} (hrun : s.running = true) (hz : z < 8) (hhot : z ∉ s.ls.hot) (even odd : Nat) :
    execZoneHot z even odd s = match s.zoneOn z with
      | [] => .next (s.zoneNoted z).showChans
      | [n] => .next ((s.zoneNoted z).chanFault n 2)
      | _ => .next (((s.zoneNoted z).secondNoted z (if even < odd then 2 * z + 1 else 2 * z)).chanFault
          (if even < odd then 2 * z + 1 else 2 * z) 2) := by
  have hcond : (s.running && decide (z < 8) && !s.ls.hot.contains z) = true := by
    rw [hrun, decide_eq_true hz, List.contains_iff_mem.not.mpr hhot |> Bool.eq_false_iff.mpr]
    rfl
  unfold execZoneHot
  rw [if_pos hcond]
  rfl

theorem zoneNoted_mode (s : State) (z : Nat) {n : Nat} (hn : n < 16) :
    (s.zoneNoted z).on (chanField F.LSA_CH_MODE n) = s.on (chanField F.LSA_CH_MODE n) := by
  have hall : ∀ m < 16, F.LSW_IFLAG_ZONE.leaves (chanField F.LSA_CH_MODE m) = true := by decide
  exact State.on_flag_leaves (hall n hn) _

theorem zoneNoted_ls (s : State) (z : Nat) : (s.zoneNoted z).ls = { s.ls with hot := z :: s.ls.hot } := State.flag_ls ..

theorem zoneNoted_chan (s : State) (z n : Nat) : (s.zoneNoted z).chan n = s.chan n := by
  unfold State.chan
  rw [zoneNoted_ls]

theorem sends_zoneNoted (s : State) (z : Nat) : Sends s (s.zoneNoted z) := sends_flag (sends_refl s)

theorem zoneFlag_chanFault {n : Nat} (hn : n < 16) (s : State) (cause : Nat) (g : Fld) (hg : g ∈ [F.LSW_IFLAG_ZONE, F.LSW_IFLAG_ZONE2, F.LSW_IFLAG_SENSOR]) :
    (s.chanFault n cause).on g = s.on g := by
  obtain ⟨hfault, hlatch⟩ := chanFlag_leaves n hn g (List.mem_cons_of_mem _ hg)
  have hshow : alt_showChans.testBit (wordBit g.addr) = false := by
    have hall : ∀ g ∈ [F.LSW_IFLAG_ZONE, F.LSW_IFLAG_ZONE2, F.LSW_IFLAG_SENSOR], alt_showChans.testBit (wordBit g.addr) = false := by
      decide +kernel
    exact hall g hg
  have hnoted : (s.faultNoted n cause).on g = s.on g := by
    unfold State.faultNoted
    rw [State.on_flagEvent_leaves hfault, on_onChan hshow]
  rw [chanFault_eq]
  split
  · exact (on_chanLatch hshow hlatch).trans hnoted
  · exact hnoted

theorem execZoneHot_claim (z even odd : Nat) (s : State) : Claims.zoneHot z even odd s := by
  intro hrun hshape hz hhot heven hodd
  obtain ⟨-, -, hlen, -⟩ := hshape
  have hon : s.zoneOn z = [2 * z, 2 * z + 1] := by
    unfold State.zoneOn
    simp [List.filter, heven, hodd]
  have hexec := execZoneHot_run hrun hz hhot even odd
  rw [hon] at hexec
  refine ⟨_, hexec, ?_⟩
  have hother : (if even < odd then 2 * z else 2 * z + 1) = 4 * z + 1 - (if even < odd then 2 * z + 1 else 2 * z) := by split <;> omega
  have hfirst : (if even < odd then 2 * z + 1 else 2 * z) < 16 := by split <;> omega
  have hne : 4 * z + 1 - (if even < odd then 2 * z + 1 else 2 * z) ≠ (if even < odd then 2 * z + 1 else 2 * z) := by split <;> omega
  rw [hother]
  generalize (if even < odd then 2 * z + 1 else 2 * z) = first at hfirst hne
  have hls : ((s.zoneNoted z).secondNoted z first).ls = { s.ls with
      hot := z :: s.ls.hot, second := (z, 4 * z + 1 - first, s.now + 2000) :: s.ls.second.filter fun e => e.1 != z } := by
    have hnow : (s.zoneNoted z).now = s.now := State.flag_now ..
    unfold State.secondNoted State.onLs
    rw [zoneNoted_ls, hnow]
  have hchan : ∀ n, ((s.zoneNoted z).secondNoted z first).chan n = s.chan n := fun n => by
    unfold State.chan
    rw [hls]
  obtain ⟨hhot', hsecond, -⟩ := chanFault_ls ((s.zoneNoted z).secondNoted z first) first 2
  refine ⟨?_, ?_, ?_, ?_, ?_, ?_⟩
  · rw [hhot', hls]
    exact List.mem_cons_self
  · rw [zoneFlag_chanFault hfirst _ _ _ (by simp)]
    exact State.on_flag_okay (by decide) _
  · rw [chanFault_zoneHot hfirst, hls]
    rfl
  · have hsends : Sends s ((s.zoneNoted z).secondNoted z first) := sends_zoneNoted s z
    have hmode : ((s.zoneNoted z).secondNoted z first).on (chanField F.LSA_CH_MODE first) = s.on (chanField F.LSA_CH_MODE first) :=
      zoneNoted_mode s z hfirst
    have hlen' : ((s.zoneNoted z).secondNoted z first).ls.chans.length = 16 := by rw [hls]; exact hlen
    exact faulted_chanFault hlen' hfirst hsends (by rw [hchan]) hmode 2
  · rw [hsecond, hls]
    exact List.mem_cons_self
  · rw [chan_chanFault_other hne, hchan]

theorem execZoneHot_one_claim (z n even odd : Nat) (s : State) : Claims.zoneHotOne z n even odd s := by
  intro hrun hshape hz hhot hn hon hoff
  obtain ⟨-, -, hlen, -⟩ := hshape
  have hzone : s.zoneOn z = [n] := by
    unfold State.zoneOn
    rcases hn with rfl | rfl
    · rw [show 4 * z + 1 - 2 * z = 2 * z + 1 by omega] at hoff
      simp [List.filter, hon, hoff]
    · rw [show 4 * z + 1 - (2 * z + 1) = 2 * z by omega] at hoff
      simp [List.filter, hon, hoff]
  have hn16 : n < 16 := by omega
  have hexec := execZoneHot_run hrun hz hhot even odd
  rw [hzone] at hexec
  refine ⟨_, hexec, faulted_chanFault (by rw [zoneNoted_ls]; exact hlen) hn16 (sends_zoneNoted s z) (by rw [zoneNoted_chan])
    (zoneNoted_mode s z hn16) 2, ?_, ?_⟩
  · rw [(chanFault_ls ..).2.1, zoneNoted_ls]
  · rw [chan_chanFault_other (by omega), zoneNoted_chan]

/-- The second check of a zone is done. -/
def State.checkDone (s : State) (z : Nat) : State := s.onLs fun l => { l with second := l.second.filter fun x => x.1 != z }

theorem execZoneSecondCheck_claim (z n e : Nat) (s : State) : Claims.zoneSecondCheck z n e s := by
  intro hshape hz hn hfind hhot hon
  obtain ⟨-, -, hlen, -⟩ := hshape
  have hexec : execZoneSecondCheck z true s = .next ((((s.advanceTo e).checkDone z).chanFault n 3).flag F.LSW_IFLAG_ZONE2) := by
    unfold execZoneSecondCheck
    rw [hfind]
    refine if_pos ?_
    have hmem : s.ls.hot.contains z = true := List.contains_iff_mem.mpr hhot
    show (true && s.ls.hot.contains z && s.chanOn n) = true
    rw [hmem, hon]
    rfl
  have hall : ∀ m < 16, F.LSW_IFLAG_ZONE2.leaves (chanBit F.LSA_IFLAG_FAULT m) = true ∧ F.LSW_IFLAG_ZONE2.leaves (chanBit F.LSA_IFLAG_LATCH m) = true := by
    decide
  obtain ⟨hfault, hlatch⟩ := hall n hn
  obtain ⟨hstate, hcause, hleft, hflag, hraised, hlatched⟩ := faulted_chanFault (s₀ := s) (s := (s.advanceTo e).checkDone z) hlen hn (sends_refl s)
    rfl rfl 3
  refine ⟨_, hexec, ⟨?_, ?_, ?_, ?_, ?_, fun h4 => ?_⟩, State.on_flag_okay (by decide) _, ?_, ?_⟩
  · rw [chan_flag]; exact hstate
  · rw [chan_flag]; exact hcause
  · rw [chan_flag]; exact hleft
  · rw [State.on_flag_leaves hfault]; exact hflag
  · refine raised_of_sends hraised (sends_chanFault ((s.advanceTo e).checkDone z) n 3 (sends_refl s)).inbox (sends_flag (sends_refl _))
  · rw [chan_flag] at h4
    obtain ⟨hon4, hraised4⟩ := hlatched h4
    exact ⟨by rw [State.on_flag_leaves hlatch]; exact hon4, raised_of_sends hraised4
      (sends_chanFault ((s.advanceTo e).checkDone z) n 3 (sends_refl s)).inbox (sends_flag (sends_refl _))⟩
  · rw [State.flag_now, (altersOf (alters_chanFault _ _ _)).now (by decide +kernel)]
    rfl
  · rw [State.flag_ls, (chanFault_ls ..).2.1]
    exact List.all_eq_true.mpr fun x hx => (List.mem_filter.mp hx).2

theorem execZoneSecondCheck_cooler_claim (z n e : Nat) (s : State) : Claims.zoneSecondCooler z n e s := by
  intro hfind
  refine ⟨_, ?_, rfl⟩
  show execZoneSecondCheck z false s = _
  unfold execZoneSecondCheck
  rw [hfind]
  rfl

theorem execZoneCool_claim (z : Nat) (s : State) : Claims.zoneCool z s := by
  by_cases h : z ∈ s.ls.sensor
  · exact ⟨s, if_pos (List.contains_iff_mem.mpr h), rfl, fun hn => absurd h hn, fun _ => rfl⟩
  · have hls := showChans_ls (s.onLs fun l => { l with hot := l.hot.filter (· != z) })
    refine ⟨_, if_neg fun hc => h (List.contains_iff_mem.mp hc), ?_, fun _ => ⟨?_, ?_⟩, fun hs => absurd hs h⟩
    · rw [hls]
      rfl
    · rw [hls]
      exact fun hm => absurd (List.mem_filter.mp hm).2 (by simp)
    · rw [showChans_zoneHot, hls]

/-! ### Sensor faults -/

/-- The zone of a failed sensor counts as hot. -/
def State.sensorNoted (s : State) (z : Nat) : State := (s.onLs fun l => { l with
  sensor := z :: l.sensor.filter (· != z), hot := z :: l.hot.filter (· != z) }).flagEvent F.LSW_IFLAG_SENSOR 2

/-- A channel of a zone whose sensor has failed. -/
def State.sensorOff (s : State) (n : Nat) : State :=
  (s.onChan n fun c => { c with cause := 6, offAt := if s.chanOn n then s.now else c.offAt }).chanLatch n

theorem sensorFault_eq (s : State) (z : Nat) : s.sensorFault z = ((s.sensorNoted z).sensorOff (2 * z)).sensorOff (2 * z + 1) := by
  unfold State.sensorFault
  simp only [List.foldl_cons, List.foldl_nil]
  rfl

theorem sensorOff_ls (s : State) (n : Nat) : (s.sensorOff n).ls.hot = s.ls.hot ∧ (s.sensorOff n).ls.sensor = s.ls.sensor ∧
    (s.sensorOff n).ls.chans.length = s.ls.chans.length := by
  unfold State.sensorOff
  obtain ⟨h1, -, h2, h3⟩ := chanLatch_ls (s.onChan n fun c => { c with cause := 6, offAt := if s.chanOn n then s.now else c.offAt }) n
  rw [onChan_len] at h3
  rw [onChan_ls] at h1 h2
  exact ⟨h1, h2, h3⟩

theorem chan_sensorOff {s : State} {n : Nat} (h : n < s.ls.chans.length) : ((s.sensorOff n).chan n).state = 4 ∧ ((s.sensorOff n).chan n).cause = 6 := by
  unfold State.sensorOff
  rw [chan_chanLatch_same (by rw [onChan_len]; exact h), chan_onChan_same h]
  exact ⟨rfl, rfl⟩

theorem chan_sensorOff_other {n m : Nat} (h : m ≠ n) (s : State) : (s.sensorOff n).chan m = s.chan m := by
  unfold State.sensorOff
  rw [chan_chanLatch_other h, chan_onChan_other h]

theorem sends_sensorOff {s₀ : State} (s : State) (n : Nat) (h : Sends s₀ s) : Sends s₀ (s.sensorOff n) := sends_chanLatch _ _ (sends_onChan _ _ _ h)

theorem on_sensorOff {g : Fld} (s : State) (n : Nat) (hg : alt_showChans.testBit (wordBit g.addr) = false)
    (hl : (chanBit F.LSA_IFLAG_LATCH n).leaves g = true) : (s.sensorOff n).on g = s.on g := (on_chanLatch hg hl).trans (on_onChan hg _ _ _)

theorem sensorOff_latches {s : State} {n : Nat} (hn : n < 16) (hlen : s.ls.chans.length = 16) (h : (s.chan n).state ≠ 4) :
    (s.sensorOff n).on (chanBit F.LSA_IFLAG_LATCH n) = true := by
  refine (chanLatch_latches ?_ hn).1
  rw [chan_onChan_same (by omega)]
  exact h

theorem execZoneSensorFault_claim (z n : Nat) (s : State) : Claims.zoneSensorFault z n s := by
  intro hrun hshape hz hsensor hn
  obtain ⟨-, -, hlen, -⟩ := hshape
  have hcontains : s.ls.sensor.contains z = false := Bool.eq_false_iff.mpr fun h => hsensor (List.contains_iff_mem.mp h)
  refine ⟨s.sensorFault z, if_pos ⟨hrun, hz, hcontains⟩, ?_⟩
  have hls : (s.sensorNoted z).ls = { s.ls with sensor := z :: s.ls.sensor.filter (· != z), hot := z :: s.ls.hot.filter (· != z) } :=
    State.flagEvent_ls ..
  have hlen0 : (s.sensorNoted z).ls.chans.length = 16 := by rw [hls]; exact hlen
  have hchan0 : ∀ m, (s.sensorNoted z).chan m = s.chan m := fun m => by
    unfold State.chan
    rw [hls]
  obtain ⟨hhot1, hsens1, hlen1⟩ := sensorOff_ls (s.sensorNoted z) (2 * z)
  obtain ⟨hhot2, hsens2, -⟩ := sensorOff_ls ((s.sensorNoted z).sensorOff (2 * z)) (2 * z + 1)
  have hlen1' := hlen1.trans hlen0
  have hshow : ∀ m < 16, alt_showChans.testBit (wordBit (chanBit F.LSA_IFLAG_LATCH m).addr) = false := fun m hm => chanBit_iflag rfl (.inl rfl) hm
  have hleaf : ∀ k < 8, (chanBit F.LSA_IFLAG_LATCH (2 * k + 1)).leaves (chanBit F.LSA_IFLAG_LATCH (2 * k)) = true := by decide
  rw [sensorFault_eq]
  have hchans : (((s.sensorNoted z).sensorOff (2 * z)).sensorOff (2 * z + 1) |>.chan n).state = 4 ∧
      (((s.sensorNoted z).sensorOff (2 * z)).sensorOff (2 * z + 1) |>.chan n).cause = 6 := by
    rcases hn with rfl | rfl
    · rw [chan_sensorOff_other (by omega)]
      exact chan_sensorOff (by omega)
    · exact chan_sensorOff (by omega)
  refine ⟨hchans.1, hchans.2, ?_, ?_, ?_, ?_, fun h4 => ?_⟩
  · rw [hhot2, hhot1, hls]
    exact List.mem_cons_self
  · rw [hsens2, hsens1, hls]
    exact List.mem_cons_self
  · rw [on_sensorOff _ _ (by decide +kernel) (chanFlag_leaves _ (by omega) _ (by simp)).2,
      on_sensorOff _ _ (by decide +kernel) (chanFlag_leaves _ (by omega) _ (by simp)).2]
    exact State.on_flagEvent_okay (by decide) _ _ _
  · exact raised_flagEvent_of_sends (a := s.onLs fun l => { l with sensor := z :: l.sensor.filter (· != z), hot := z :: l.hot.filter (· != z) })
      rfl F.LSW_IFLAG_SENSOR 2 [] (sends_sensorOff _ _ (sends_sensorOff _ _ (sends_refl _)))
  · rcases hn with rfl | rfl
    · rw [on_sensorOff _ _ (hshow _ (by omega)) (hleaf z hz)]
      exact sensorOff_latches (by omega) hlen0 (by rw [hchan0]; exact h4)
    · exact sensorOff_latches (by omega) hlen1' (by rw [chan_sensorOff_other (by omega), hchan0]; exact h4)

/-! ### Restarts -/

theorem execLsRestart_later_claim (n : Nat) (s : State) : Claims.lsRestartLater n s := by
  intro h
  exact if_neg fun hc => h hc.2.2

theorem execLeftReload_claim (n : Nat) (s : State) : Claims.leftReload n s := by
  intro hshape hn hon
  obtain ⟨-, -, hlen, -⟩ := hshape
  refine ⟨_, if_pos ⟨hn, hon⟩, ?_, ?_⟩
  · exact chan_onChan_same (s := s.advanceTo ((s.chan n).onAt + s.get F.LSW_CFG_TGOOD * 1000000)) (n := n) (hlen.symm ▸ hn) _
  · rw [onChan_now, Nat.mul_comm 1000000]
    rfl

/-- A channel restarts: one restart less is left. -/
def State.restarting (s : State) (n : Nat) : State :=
  { s with tmp := { s.tmp with lastRestart := some s.now } }.onChan n fun c => { c with left := c.left - 1 }

/-- A channel that still waits restarts, where nothing holds it off. -/
def State.restarted (s : State) (n : Nat) : State :=
  if (s.chan n).state ≠ 3 then s
  else if s.now < (s.chan n).offAt + s.get F.LSW_CFG_TRST * 1000 then s
  else if s.ls.hot.contains (n / 2) || s.restartPause || (s.chan n).left == 0 then s
  else (s.restarting n).chanTurnOn n

theorem execLsRestart_run {n : Nat} {s : State} (hn : n < 16) (h3 : (s.chan n).state = 3) (hnow : s.now = s.thy.boundary) :
    execLsRestart n s = .next ((s.endWaiting n).restarted n) := by
  unfold execLsRestart State.restarted
  rw [if_pos ⟨hn, h3, hnow⟩]
  dsimp only
  split_ifs <;> rfl

theorem restarted_of_not_waiting {s : State} {n : Nat} (h : (s.chan n).state ≠ 3) : s.restarted n = s := if_pos h

theorem endWaiting_off {s : State} {n : Nat} (h3 : (s.chan n).state = 3) (hout : s.on (chanBit F.LSA_OUT_ON n) = false) :
    s.endWaiting n = s.onChan n fun c => { c with state := 0 } := by
  unfold State.endWaiting
  rw [if_neg (fun h => h h3), hout]
  exact if_pos (by decide)

theorem endWaiting_latch {s : State} {n : Nat} (h3 : (s.chan n).state = 3) (hout : s.on (chanBit F.LSA_OUT_ON n) = true)
    (hmode : s.on (chanField F.LSA_CH_MODE n) = true) : s.endWaiting n = s.chanLatch n := by
  unfold State.endWaiting
  rw [if_neg (fun h => h h3), hout, if_pos hmode]
  exact if_neg (by decide)

theorem endWaiting_waits {s : State} {n : Nat} (h3 : (s.chan n).state = 3) (hout : s.on (chanBit F.LSA_OUT_ON n) = true)
    (hmode : ¬ s.on (chanField F.LSA_CH_MODE n) = true) : s.endWaiting n = s := by
  unfold State.endWaiting
  rw [if_neg (fun h => h h3), hout, if_neg hmode]
  exact if_neg (by decide)

/-- What a restart leaves of its channel. -/
theorem restarting_turned {s : State} {n : Nat} (hn : n < 16) (h : n < s.ls.chans.length) :
    (((s.restarting n).chanTurnOn n).chan n).state = 2 ∧ (((s.restarting n).chanTurnOn n).chan n).left = (s.chan n).left - 1 ∧
    (((s.restarting n).chanTurnOn n).chan n).onAt = s.now ∧ (((s.restarting n).chanTurnOn n).chan n).inrushEnd =
      s.now + s.get (chanField F.LSA_CH_TINR n) * 1000 ∧ ((s.restarting n).chanTurnOn n).tmp.lastRestart = some s.now := by
  have hchan : (s.restarting n).chan n = { s.chan n with left := (s.chan n).left - 1 } :=
    chan_onChan_same (s := { s with tmp := { s.tmp with lastRestart := some s.now } }) h _
  obtain ⟨b, hturned⟩ := chan_chanTurnOn (s := s.restarting n) (n := n) (by unfold State.restarting; rw [onChan_len]; exact h)
  have htime : (s.restarting n).now = s.now := onChan_now ..
  have htinr : (s.restarting n).get (chanField F.LSA_CH_TINR n) = s.get (chanField F.LSA_CH_TINR n) :=
    get_onChan (alt_showChans_chanField rfl rfl hn) _ _ _
  rw [hturned, hchan, htime, htinr]
  refine ⟨rfl, rfl, rfl, rfl, ?_⟩
  have htmp : (s.restarting n).tmp = { s.tmp with lastRestart := some s.now } :=
    onChan_tmp { s with tmp := { s.tmp with lastRestart := some s.now } } n _
  rw [(altersOf (alters_chanTurnOn _ _)).tmp (by decide +kernel), htmp]

theorem restarted_held {s : State} {n : Nat} (h : s.now < (s.chan n).offAt + s.get F.LSW_CFG_TRST * 1000 ∨
    (s.ls.hot.contains (n / 2) || s.restartPause || (s.chan n).left == 0) = true) : s.restarted n = s := by
  unfold State.restarted
  split_ifs with h3 hwait hheld
  · rfl
  · rfl
  · rfl
  · exact absurd h (not_or.mpr ⟨hwait, hheld⟩)

theorem restarted_free {s : State} {n : Nat} (h3 : (s.chan n).state = 3) (hwait : ¬ s.now < (s.chan n).offAt + s.get F.LSW_CFG_TRST * 1000)
    (hheld : ¬ (s.ls.hot.contains (n / 2) || s.restartPause || (s.chan n).left == 0) = true) :
    s.restarted n = (s.restarting n).chanTurnOn n := by
  unfold State.restarted
  rw [if_neg (fun h => h h3), if_neg hwait, if_neg hheld]

theorem execLsRestart_claim (n : Nat) (s : State) : Claims.lsRestart n s := by
  intro hshape hn h3 hnow
  obtain ⟨-, -, hlen, -⟩ := hshape
  have hlt : n < s.ls.chans.length := by omega
  refine ⟨_, execLsRestart_run hn h3 hnow, ?_⟩
  cases hout : s.on (chanBit F.LSA_OUT_ON n) with
  | false =>
    have hchan : (s.onChan n fun c => { c with state := 0 }).chan n = { s.chan n with state := 0 } := chan_onChan_same hlt _
    rw [endWaiting_off h3 hout, restarted_of_not_waiting (by rw [hchan]; exact (by decide : (0 : Nat) ≠ 3)), if_pos rfl, hchan]
    exact ⟨rfl, rfl⟩
  | true =>
    rw [if_neg (by decide)]
    by_cases hmode : s.on (chanField F.LSA_CH_MODE n) = true
    · have hchan := chan_chanLatch_same hlt
      rw [if_pos hmode, endWaiting_latch h3 hout hmode, restarted_of_not_waiting (by rw [hchan]; exact (by decide : (4 : Nat) ≠ 3)), hchan]
    · rw [if_neg hmode, endWaiting_waits h3 hout hmode]
      have hheld : (s.ls.hot.contains (n / 2) || s.restartPause || (s.chan n).left == 0) = true ↔
          n / 2 ∈ s.ls.hot ∨ s.restartPause = true ∨ (s.chan n).left = 0 := by
        rw [Bool.or_eq_true, Bool.or_eq_true, List.contains_iff_mem, beq_iff_eq, or_assoc]
      rw [Nat.mul_comm 1000]
      split
      next hstop => exact restarted_held (hstop.imp_right hheld.mpr)
      next hfree =>
        obtain ⟨hwait, hgo⟩ := not_or.mp hfree
        rw [restarted_free h3 hwait fun h => hgo (hheld.mp h), Nat.mul_comm 1000]
        exact restarting_turned hn hlt

end Sys2Proof.Machine

/-- Settles O46: what one channel keeps under a change of another, and what a fault leaves of its own. -/
theorem loadSwitches : Obligations.LoadSwitches := by
  unfold Obligations.LoadSwitches
  exact ⟨Sys2Proof.Machine.execLsOutWrite_claim, Sys2Proof.Machine.execLsOutWrite_refused_claim, Sys2Proof.Machine.execLsClr_claim,
    Sys2Proof.Machine.execInrushEnd_claim, Sys2Proof.Machine.execLimitTime_claim, Sys2Proof.Machine.execLimitTime_inInrush_claim,
    Sys2Proof.Machine.execOpenLoadChange_claim, Sys2Proof.Machine.execZoneHot_claim, Sys2Proof.Machine.execZoneHot_one_claim,
    Sys2Proof.Machine.execZoneSecondCheck_claim, Sys2Proof.Machine.execZoneSecondCheck_cooler_claim, Sys2Proof.Machine.execZoneCool_claim,
    Sys2Proof.Machine.execZoneSensorFault_claim, Sys2Proof.Machine.execLsRestart_claim, Sys2Proof.Machine.execLsRestart_later_claim,
    Sys2Proof.Machine.execLeftReload_claim⟩
end

section
/-! SUPPORT. Stops of a rank that reach several axes: one axis on its own, in a fold over all of them (R346). -/
set_option Elab.async false
namespace Sys2Proof.Machine
open Host

theorem axState_causeFlag (s : State) (b rank : Nat) : (s.causeFlag b rank).axState b = s.axState b := by
  unfold State.causeFlag State.axState
  split_ifs
  · exact State.get_set_leaves (leaves_ax (by decide) rfl (by decide) b) ..
  · exact State.get_set_leaves (leaves_ax (by decide) rfl (by decide) b) ..
  · exact State.get_set_leaves (leaves_ax (by decide) rfl (by decide) b) ..
  · rfl

theorem stopGroup_len (s : State) (a g rank : Nat) : (s.stopGroup a g rank).mot.axes.length = s.mot.axes.length := by
  rw [stopGroup_eq]
  refine foldl_keeps (fun t : State => t.mot.axes.length = s.mot.axes.length) (fun t m ht => ?_) _ rfl
  unfold State.stopMember
  split
  · split
    · exact (stopWith_len ..).trans ht
    · exact ht
  · exact ht

theorem dropStart_len (s : State) (a rank : Nat) : (s.dropStart a rank).mot.axes.length = s.mot.axes.length := by
  unfold State.dropStart State.setAxState
  split
  · exact onAxis_len ..
  · rw [State.set_mot, onAxis_len]

theorem dropPending_len (s : State) (a rank : Nat) : (s.dropPending a rank).mot.axes.length = s.mot.axes.length := by
  unfold State.dropPending
  split
  · refine foldl_keeps (fun t : State => t.mot.axes.length = s.mot.axes.length) (fun t m ht => ?_) _ rfl
    split
    · exact (dropStart_len ..).trans ht
    · exact ht
  · exact dropStart_len ..

/-- A stop keeps what is kept for each axis in its place. -/
theorem stopAxis_len (s : State) (a rank : Nat) : (s.stopAxis a rank).mot.axes.length = s.mot.axes.length := by
  unfold State.stopAxis
  split
  · dsimp only
    split_ifs
    · rw [mot_causeFlag]
    · exact (stopGroup_len ..).trans (by rw [mot_causeFlag])
    · exact (stopWith_len ..).trans (by rw [mot_causeFlag])
  · split_ifs
    · exact dropPending_len ..
    · unfold State.setAxState
      rw [State.set_mot, onAxis_len]
    · rfl

/-- An axis that a cause of a rank has stopped stays stopped by it when causes of that rank act on other axes. -/
theorem Stopping.stopAxis {b : Nat} (hb : b < 6) {rank : Nat} {s : State} (hlen : s.mot.axes.length = 6) (h : Stopping b rank s) {m : Nat} (hm : m < 6) :
    Stopping b rank (s.stopAxis m rank) := by
  obtain ⟨hstate, hstop⟩ := h
  obtain ⟨c, hc, hcstop⟩ := Option.bind_eq_some_iff.mp hstop
  by_cases hmb : m = b
  · subst hmb
    rw [stopAxis_ranked hc (by rw [hcstop]; exact Nat.le_refl rank)]
    exact ⟨(axState_causeFlag s m rank).trans hstate, by rw [axis_causeFlag]; exact hstop⟩
  · rcases undisturbed_or_stopping hb hc hlen hm hmb rank with hu | ⟨-, hs⟩
    · exact Stopping.undisturbed ⟨hstate, hstop⟩ hu
    · exact hs

/-- Causes of one rank that act on several axes, one of them with a cycle that no cause of the rank or above stops, stop that one. -/
theorem stopping_foldl {f : State → Nat → State} {b rank : Nat} (hb : b < 6) {s : State} {c : Cycle} (hc : (s.axis b).cycle = some c)
    (hlen : s.mot.axes.length = 6) (hrank : rank < c.stop.getD 10)
    (hf : ∀ t m, f t m = t.stopAxis m rank ∨ (f t m = t ∧ (t.axis m).cycle = none))
    (l : List Nat) (hl : ∀ m ∈ l, m < 6) (hnd : l.Nodup) (hbl : b ∈ l) : Stopping b rank (l.foldl f s) := by
  have hstep : ∀ t : State, t.mot.axes.length = 6 → Stopping b rank t → ∀ m < 6, Stopping b rank (f t m) := fun t ht hs m hm => by
    rcases hf t m with h | ⟨h, -⟩
    · rw [h]
      exact hs.stopAxis hb ht hm
    · rw [h]
      exact hs
  have hflen : ∀ t m, (f t m).mot.axes.length = t.mot.axes.length := fun t m => by
    rcases hf t m with h | ⟨h, -⟩
    · rw [h]
      exact stopAxis_len ..
    · rw [h]
  refine (foldl_once (b := b) (I := fun t => t.mot.axes.length = 6 ∧ (Undisturbed b s t ∨ Stopping b rank t))
    (J := fun t => t.mot.axes.length = 6 ∧ Stopping b rank t) l hnd hbl ?_ ?_ ?_ ⟨hlen, .inl (.refl b s)⟩).2
  · rintro t m hm hmb ⟨ht, h⟩
    refine ⟨(hflen t m).trans ht, ?_⟩
    rcases h with h | h
    · rcases hf t m with he | ⟨he, -⟩
      · rw [he]
        rcases undisturbed_or_stopping hb (h.cycle.trans hc) ht (hl m hm) hmb rank with hu | ⟨-, hs⟩
        · exact .inl (h.trans hu)
        · exact .inr hs
      · rw [he]
        exact .inl h
    · exact .inr (hstep t ht h m (hl m hm))
  · rintro t ⟨ht, h⟩
    refine ⟨(hflen t b).trans ht, ?_⟩
    rcases h with h | h
    · have hct := h.cycle.trans hc
      rcases hf t b with he | ⟨-, hnone⟩
      · rw [he]
        exact stopping_stopAxis hb hct ht hrank
      · rw [hct] at hnone
        exact absurd hnone (by simp)
    · exact hstep t ht h b hb
  · rintro t m hm - ⟨ht, h⟩
    exact ⟨(hflen t m).trans ht, hstep t ht h m (hl m hm)⟩

/-- Every axis whose cycle no cause of the rank or above stops is stopped by it. -/
theorem stopping_stopMoving {b rank : Nat} (hb : b < 6) {s : State} {c : Cycle} (hM : s.hasM = true) (hc : (s.axis b).cycle = some c)
    (hlen : s.mot.axes.length = 6) (hrank : rank < c.stop.getD 10) : Stopping b rank (s.stopMoving rank) := by
  unfold State.stopMoving
  rw [if_pos hM]
  refine stopping_foldl hb hc hlen hrank (fun t m => ?_) axisList (fun m hm => mem_axisList.mp hm) axisList_nodup (mem_axisList.mpr hb)
  split
  next => exact .inl rfl
  next h =>
    refine .inr ⟨rfl, ?_⟩
    cases hcm : (t.axis m).cycle with
    | none => rfl
    | some c => rw [hcm] at h; exact absurd rfl h

theorem stopping_stopAllAxes {b rank : Nat} (hb : b < 6) {s : State} {c : Cycle} (hM : s.hasM = true) (hc : (s.axis b).cycle = some c)
    (hlen : s.mot.axes.length = 6) (hrank : rank < c.stop.getD 10) : Stopping b rank (s.stopAllAxes rank) := by
  unfold State.stopAllAxes
  rw [if_pos hM]
  exact stopping_foldl hb hc hlen hrank (fun t m => .inl rfl) axisList (fun m hm => mem_axisList.mp hm) axisList_nodup (mem_axisList.mpr hb)

end Sys2Proof.Machine
end

section
/-! Evaluations of the dies' temperatures: readings, throttling, stops (O51). -/
set_option Elab.async false
namespace Sys2Proof.Machine
open Host

/-! ### A bit per die -/

theorem bit_setDieBit {f : Fld} (hf : f.okay = true) {d : Nat} (hd : d < f.hi + 1 - f.lo) (s : State) (v : Bool) (i : Nat) :
    bit ((s.setDieBit f d v).get f) i = if i = d then v else bit (s.get f) i := by
  unfold State.setDieBit
  rw [State.get_set_withBit hf hd, bit_withBit]

theorem latched_setDieBit {d : Nat} (hd : d < 10) (s : State) (v : Bool) : (s.setDieBit F.TMP_LATCH_LATCHED d v).latched d = v :=
  (bit_setDieBit (by decide) hd s v d).trans (if_pos rfl)

theorem diodeFaulty_setDieBit {d : Nat} (hd : d < 10) (s : State) (v : Bool) : (s.setDieBit F.TMP_LATCH_DIODE d v).diodeFaulty d = v :=
  (bit_setDieBit (by decide) hd s v d).trans (if_pos rfl)

theorem tempField_okay : ∀ d < 10, (tempField d).okay = true ∧ (tempField d).hi + 1 - (tempField d).lo = 16 := by decide

theorem tempField_leaves : ∀ d < 10, ∀ g ∈ [F.TMP_LATCH_LATCHED, F.TMP_LATCH_DIODE, F.TMP_THR_FAST, F.TMP_THR_THROTTLE, F.TMP_COUNT_STOPS,
    F.TMP_COUNT_PCYC, F.TMP_IFLAG_STOP, F.TMP_IFLAG_THROTTLE, F.TMP_IFLAG_DIODE, F.TMP_IFLAG_PCYC],
    (tempField d).leaves g = true ∧ g.leaves (tempField d) = true := by decide

/-! ### The stages of an evaluation -/

/-- A reading outside the range of the diode. -/
def outOfRange (t : Int) : Bool := decide (t < -6000) || decide (20000 < t)

/-- How many readings in a row have been out of range. -/
def State.badRun (s : State) (d : Nat) (t : Int) : Nat := if outOfRange t then countOf s.tmp.bad d + 1 else 0

def State.badKept (s : State) (d n : Nat) : State := s.onTmp fun x => { x with bad := putCount d n x.bad }

/-- The diode of a die has failed: its bit and its event. -/
def State.diodeFailed (s : State) (d : Nat) : State :=
  (s.setDieBit F.TMP_LATCH_DIODE d true).flagEvent F.TMP_IFLAG_DIODE 2 [F.TMP_LATCH_DIODE.addr]

theorem judgeDiode_eq (s : State) (d : Nat) (t : Int) (missing : Bool) : s.judgeDiode d t missing =
    if missing || decide (3 ≤ s.badRun d t) then (s.badKept d (s.badRun d t)).applyIf (!s.diodeFaulty d) fun s => s.diodeFailed d
    else (s.badKept d (s.badRun d t)).applyIf (!outOfRange t) fun s => s.setDieBit F.TMP_LATCH_DIODE d false := rfl

theorem judgeDiode_good {s : State} {d : Nat} (hd : d < 10) {t : Int} (hlo : -6000 ≤ t) (hhi : t ≤ 20000) :
    (s.judgeDiode d t false).diodeFaulty d = false := by
  have hout : outOfRange t = false := by
    unfold outOfRange
    rw [decide_eq_false (by omega), decide_eq_false (by omega)]
    rfl
  have hrun : s.badRun d t = 0 := by
    unfold State.badRun
    rw [hout]
    rfl
  rw [judgeDiode_eq, hrun, hout, if_neg (by decide)]
  exact diodeFaulty_setDieBit hd _ _

/-- A diode found faulty reads faulty; where it was good its event is raised. -/
theorem judgeDiode_bad {s : State} {d : Nat} (hd : d < 10) {t : Int} {missing : Bool}
    (hbad : missing = true ∨ ((t < -6000 ∨ 20000 < t) ∧ 2 ≤ countOf s.tmp.bad d)) :
    (s.judgeDiode d t missing).diodeFaulty d = true ∧
      (s.diodeFaulty d = false → raised s (s.judgeDiode d t missing) 0x05 (.flag F.TMP_IFLAG_DIODE.lo) 2) := by
  have hcond : (missing || decide (3 ≤ s.badRun d t)) = true := by
    rcases hbad with h | ⟨hrange, hcount⟩
    · rw [h]; rfl
    · have hout : outOfRange t = true := by unfold outOfRange; simpa using hrange
      unfold State.badRun
      rw [hout, if_pos rfl, decide_eq_true (by omega), Bool.or_true]
  rw [judgeDiode_eq, if_pos hcond]
  cases hwas : s.diodeFaulty d with
  | true => exact ⟨hwas, fun h => absurd h (by decide)⟩
  | false =>
    refine ⟨?_, fun _ => ?_⟩
    · show bit (((s.badKept d _).diodeFailed d).get F.TMP_LATCH_DIODE) d = true
      unfold State.diodeFailed
      rw [State.get_flagEvent_leaves (by decide)]
      exact diodeFaulty_setDieBit hd _ true
    · refine raised_flagEvent (s := s) (a := (s.badKept d _).setDieBit F.TMP_LATCH_DIODE d true) ?_ F.TMP_IFLAG_DIODE 2 _
      unfold State.setDieBit
      rw [State.set_rsm]
      rfl

theorem get_judgeDiode {g : Fld} (hdiode : F.TMP_LATCH_DIODE.leaves g = true) (hflag : F.TMP_IFLAG_DIODE.leaves g = true) (s : State) (d : Nat)
    (t : Int) (missing : Bool) : (s.judgeDiode d t missing).get g = s.get g := by
  rw [judgeDiode_eq]
  unfold State.setDieBit State.diodeFailed State.applyIf State.setDieBit
  split_ifs
  · rw [State.get_flagEvent_leaves hflag, State.get_set_leaves hdiode]; rfl
  · rfl
  · rw [State.get_set_leaves hdiode]; rfl
  · rfl

theorem judgeDiode_parts (s : State) (d : Nat) (t : Int) (missing : Bool) : (s.judgeDiode d t missing).tmp.cycling = s.tmp.cycling ∧
    (s.judgeDiode d t missing).now = s.now ∧ (s.judgeDiode d t missing).mot = s.mot ∧ (s.judgeDiode d t missing).ls = s.ls ∧
    (s.judgeDiode d t missing).tmp.evalAt = s.tmp.evalAt ∧ (s.judgeDiode d t missing).gdieDown = s.gdieDown := by
  rw [judgeDiode_eq]
  unfold State.diodeFailed State.applyIf State.setDieBit
  split_ifs
  · simp only [State.flagEvent_tmp, State.set_tmp, State.flagEvent_now, State.set_now, State.flagEvent_mot, State.set_mot, State.flagEvent_ls,
      State.set_ls, State.flagEvent_gdieDown, State.set_gdieDown]
    exact ⟨rfl, rfl, rfl, rfl, rfl, rfl⟩
  · exact ⟨rfl, rfl, rfl, rfl, rfl, rfl⟩
  · simp only [State.set_tmp, State.set_now, State.set_mot, State.set_ls, State.set_gdieDown]
    exact ⟨rfl, rfl, rfl, rfl, rfl, rfl⟩
  · exact ⟨rfl, rfl, rfl, rfl, rfl, rfl⟩

theorem sends_judgeDiode (s : State) (d : Nat) (t : Int) (missing : Bool) : Sends s (s.judgeDiode d t missing) := by
  rw [judgeDiode_eq]
  unfold State.diodeFailed State.applyIf State.setDieBit
  split_ifs
  · exact sends_flagEvent (sends_set (sends_refl s))
  · exact sends_refl s
  · exact sends_set (sends_refl s)
  · exact sends_refl s

/-- What island 5 holds of a reading: the highest value of a faulty diode. -/
def reached (faulty : Bool) (t x : Int) : Bool := faulty || decide (x ≤ t)

/-- The reading shown. -/
def State.showTemp (s : State) (d : Nat) (t : Int) (faulty : Bool) : State :=
  s.set (tempField d) (if faulty then 0x7FFF else codeOf 16 (clampInt (-32768) 32766 t))

/-- The fast rate, with its hysteresis (R403). -/
def State.showFast (s : State) (d : Nat) (t : Int) (faulty : Bool) : State :=
  if reached faulty t 10500 then s.setDieBit F.TMP_THR_FAST d true
  else if t < 10000 then s.setDieBit F.TMP_THR_FAST d false else s

/-- The throttle, with its hysteresis (R405). -/
def State.showThrottle (s : State) (d : Nat) (t : Int) (faulty : Bool) : State :=
  if reached faulty t 11500 then
    s.applyIf (!s.throttled d) fun s =>
      (s.setDieBit F.TMP_THR_THROTTLE d true).flagEvent F.TMP_IFLAG_THROTTLE 1 [F.TMP_THR_THROTTLE.addr]
  else if t ≤ 11000 then s.setDieBit F.TMP_THR_THROTTLE d false else s

/-- The reading of a die shown, with its rate and its throttle. -/
def State.evalShown (s : State) (d : Nat) (t : Int) (faulty : Bool) : State := ((s.showTemp d t faulty).showFast d t faulty).showThrottle d t faulty

theorem evalTemp_eq (s : State) (d : Nat) (t : Int) (missing : Bool) : s.evalTemp d t missing =
    (if ((s.judgeDiode d t missing).evalShown d t ((s.judgeDiode d t missing).diodeFaulty d)).tmp.cycling.contains d then
      if !(s.judgeDiode d t missing).diodeFaulty d && decide (t < 10000)
      then ((s.judgeDiode d t missing).evalShown d t ((s.judgeDiode d t missing).diodeFaulty d)).clearLatch d
      else ((s.judgeDiode d t missing).evalShown d t ((s.judgeDiode d t missing).diodeFaulty d)).powerDownDie d
    else ((s.judgeDiode d t missing).evalShown d t ((s.judgeDiode d t missing).diodeFaulty d)).applyIf
      (reached ((s.judgeDiode d t missing).diodeFaulty d) t 14000) fun s => s.stopDie d) := rfl

section
variable {d : Nat} (hd : d < 10) (s : State) (t : Int) (faulty : Bool)

theorem get_showFast {g : Fld} (h : F.TMP_THR_FAST.leaves g = true) : (s.showFast d t faulty).get g = s.get g := by
  unfold State.showFast State.setDieBit
  split_ifs
  · exact State.get_set_leaves h ..
  · exact State.get_set_leaves h ..
  · rfl

theorem get_showThrottle {g : Fld} (h : F.TMP_THR_THROTTLE.leaves g = true) (h' : F.TMP_IFLAG_THROTTLE.leaves g = true) :
    (s.showThrottle d t faulty).get g = s.get g := by
  unfold State.showThrottle State.setDieBit State.applyIf
  split_ifs
  · rw [State.get_flagEvent_leaves h', State.get_set_leaves h]
  · rfl
  · exact State.get_set_leaves h ..
  · rfl

/-- Fields that an evaluation leaves alone. -/
theorem get_evalShown {g : Fld} (htemp : (tempField d).leaves g = true) (hfast : F.TMP_THR_FAST.leaves g = true)
    (hthr : F.TMP_THR_THROTTLE.leaves g = true) (hflag : F.TMP_IFLAG_THROTTLE.leaves g = true) : (s.evalShown d t faulty).get g = s.get g := by
  unfold State.evalShown State.showTemp
  rw [get_showThrottle _ _ _ hthr hflag, get_showFast _ _ _ hfast, State.get_set_leaves htemp]

include hd

theorem evalShown_temp : (s.evalShown d t faulty).get (tempField d) = if faulty then 0x7FFF else codeOf 16 (clampInt (-32768) 32766 t) := by
  obtain ⟨hok, hwidth⟩ := tempField_okay d hd
  have hleaves := fun g hg => (tempField_leaves d hd g hg).2
  unfold State.evalShown
  rw [get_showThrottle _ _ _ (hleaves _ (by simp)) (hleaves _ (by simp)), get_showFast _ _ _ (hleaves _ (by simp))]
  refine State.get_set_lt hok ?_ s
  rw [hwidth]
  split
  · decide
  · unfold codeOf
    have := Int.emod_nonneg (clampInt (-32768) 32766 t) (show (2 ^ 16 : Int) ≠ 0 by decide)
    have := Int.emod_lt_of_pos (clampInt (-32768) 32766 t) (show (0 : Int) < 2 ^ 16 by decide)
    omega

theorem showFast_fast : bit ((s.showFast d t faulty).get F.TMP_THR_FAST) d =
    (reached faulty t 10500 || (bit (s.get F.TMP_THR_FAST) d && decide (10000 ≤ t))) := by
  have hbit := fun v => (bit_setDieBit (f := F.TMP_THR_FAST) (by decide) hd s v d).trans (if_pos rfl)
  unfold State.showFast
  split_ifs with h h'
  · rw [hbit, h]; rfl
  · rw [hbit, Bool.eq_false_iff.mpr h, decide_eq_false (by omega), Bool.and_false]; rfl
  · rw [Bool.eq_false_iff.mpr h, decide_eq_true (by omega), Bool.and_true]; rfl

theorem showThrottle_throttled : (s.showThrottle d t faulty).throttled d =
    (reached faulty t 11500 || (s.throttled d && decide (11000 < t))) := by
  have hbit : ∀ v, (s.setDieBit F.TMP_THR_THROTTLE d v).throttled d = v := fun v =>
    (bit_setDieBit (f := F.TMP_THR_THROTTLE) (by decide) hd s v d).trans (if_pos rfl)
  unfold State.showThrottle
  split_ifs with h h'
  · rw [h, Bool.true_or]
    cases hold : s.throttled d with
    | true => exact hold
    | false =>
      show bit (((s.setDieBit F.TMP_THR_THROTTLE d true).flagEvent F.TMP_IFLAG_THROTTLE 1 _).get F.TMP_THR_THROTTLE) d = true
      rw [State.get_flagEvent_leaves (by decide)]
      exact hbit true
  · rw [hbit, Bool.eq_false_iff.mpr h, decide_eq_false (by omega), Bool.and_false]; rfl
  · rw [Bool.eq_false_iff.mpr h, decide_eq_true (by omega), Bool.and_true]; rfl

end

theorem showThrottle_raises {s : State} {d : Nat} {t : Int} {faulty : Bool} (h : reached faulty t 11500 = true) (hold : s.throttled d = false) :
    (s.showThrottle d t faulty).on F.TMP_IFLAG_THROTTLE = true ∧
      raised s (s.showThrottle d t faulty) 0x05 (.flag F.TMP_IFLAG_THROTTLE.lo) 1 := by
  unfold State.showThrottle
  rw [if_pos h, hold]
  refine ⟨State.on_flagEvent_okay (by decide) _ _ _, ?_⟩
  refine raised_flagEvent (s := s) (a := s.setDieBit F.TMP_THR_THROTTLE d true) ?_ F.TMP_IFLAG_THROTTLE 1 _
  unfold State.setDieBit
  rw [State.set_rsm]

theorem evalShown_tmp (s : State) (d : Nat) (t : Int) (faulty : Bool) : (s.evalShown d t faulty).tmp = s.tmp := by
  unfold State.evalShown State.showThrottle State.showFast State.showTemp State.setDieBit State.applyIf
  split_ifs <;> simp only [State.flagEvent_tmp, State.set_tmp]

theorem evalShown_now (s : State) (d : Nat) (t : Int) (faulty : Bool) : (s.evalShown d t faulty).now = s.now := by
  unfold State.evalShown State.showThrottle State.showFast State.showTemp State.setDieBit State.applyIf
  split_ifs <;> simp only [State.flagEvent_now, State.set_now]

theorem evalShown_mot (s : State) (d : Nat) (t : Int) (faulty : Bool) : (s.evalShown d t faulty).mot = s.mot := by
  unfold State.evalShown State.showThrottle State.showFast State.showTemp State.setDieBit State.applyIf
  split_ifs <;> simp only [State.flagEvent_mot, State.set_mot]

theorem evalShown_ls (s : State) (d : Nat) (t : Int) (faulty : Bool) : (s.evalShown d t faulty).ls = s.ls := by
  unfold State.evalShown State.showThrottle State.showFast State.showTemp State.setDieBit State.applyIf
  split_ifs <;> simp only [State.flagEvent_ls, State.set_ls]

theorem sends_evalShown {s₀ : State} (s : State) (d : Nat) (t : Int) (faulty : Bool) (h : Sends s₀ s) : Sends s₀ (s.evalShown d t faulty) := by
  have hfast : ∀ u, Sends s₀ u → Sends s₀ (u.showFast d t faulty) := fun u hu => by
    unfold State.showFast
    split_ifs
    · exact sends_set hu
    · exact sends_set hu
    · exact hu
  have hthr : ∀ u, Sends s₀ u → Sends s₀ (u.showThrottle d t faulty) := fun u hu => by
    unfold State.showThrottle State.applyIf
    split_ifs
    · exact sends_flagEvent (sends_set hu)
    · exact hu
    · exact sends_set hu
    · exact hu
  exact hthr _ (hfast _ (sends_set h))

end Sys2Proof.Machine
end

section
/-! The stop of a die, and what its evaluation leaves (R403 to R407). -/
set_option Elab.async false
namespace Sys2Proof.Machine
open Host

/-! ### The stop of a die -/

theorem State.get_countLife_leaves {f g : Fld} (h : f.leaves g = true) (hj : alt_journalWrite.testBit (wordBit g.addr) = false) (s : State) :
    (s.countLife f).get g = s.get g := by
  unfold State.countLife State.saving
  rw [(altersOf (alters_journalWrite _ _)).get g hj, State.get_count_leaves h]

theorem sends_countLife {s₀ s : State} (f : Fld) (h : Sends s₀ s) : Sends s₀ (s.countLife f) :=
  sends_of_alters (altersOf (alters_journalWrite _ _)) (by decide +kernel) (sends_count h)

/-- The latch, the count and the event of a stop. -/
def State.stopNoted (s : State) (d : Nat) : State :=
  ((s.setDieBit F.TMP_LATCH_LATCHED d true).countLife F.TMP_COUNT_STOPS).flagEvent F.TMP_IFLAG_STOP 2 [F.TMP_LATCH_LATCHED.addr]

/-- What follows from the latch at once. -/
def State.stopActs (s : State) (d : Nat) : State := (s.applyIf s.hasM fun s => s.stopMoving 4).applyIf (d == 9) State.loadsOff

theorem stopDie_fresh {s : State} {d : Nat} (h : s.latched d = false) : s.stopDie d = (s.stopNoted d).stopActs d := by
  unfold State.stopDie
  rw [if_neg (by rw [h]; decide)]
  rfl

theorem stopDie_latched {s : State} {d : Nat} (h : s.latched d = true) : s.stopDie d = s := if_pos h

def alt_stopActs : Nat := alt_stopMoving ||| alt_loadsOff

theorem alters_stopActs (s : State) (d : Nat) : Alters alt_stopActs s (s.stopActs d) := by
  unfold State.stopActs
  exact alters_applyIf (fun t h => alters_loadsOff t (by unfold Sub; decide +kernel) h)
    (alters_applyIf (fun t h => alters_stopMoving t 4 (by unfold Sub; decide +kernel) h) (alters_refl _ s))

theorem sends_stopActs {s₀ s : State} (d : Nat) (h : Sends s₀ s) : Sends s₀ (s.stopActs d) :=
  sends_of_alters (alters_stopActs s d) (by decide +kernel) h

theorem get_stopDie {g : Fld} (hl : F.TMP_LATCH_LATCHED.leaves g = true) (hc : F.TMP_COUNT_STOPS.leaves g = true)
    (hf : F.TMP_IFLAG_STOP.leaves g = true) (hm : (alt_journalWrite ||| alt_stopActs).testBit (wordBit g.addr) = false) (s : State) (d : Nat) :
    (s.stopDie d).get g = s.get g := by
  rw [Nat.testBit_or, Bool.or_eq_false_iff] at hm
  cases h : s.latched d with
  | true => rw [stopDie_latched h]
  | false =>
    rw [stopDie_fresh h, (alters_stopActs _ d).get g hm.2]
    unfold State.stopNoted State.setDieBit
    rw [State.get_flagEvent_leaves hf, State.get_countLife_leaves hc hm.1, State.get_set_leaves hl]

theorem stopDie_latches {d : Nat} (hd : d < 10) (s : State) : (s.stopDie d).latched d = true := by
  cases h : s.latched d with
  | true => rw [stopDie_latched h, h]
  | false =>
    rw [stopDie_fresh h]
    show bit (((s.stopNoted d).stopActs d).get F.TMP_LATCH_LATCHED) d = true
    rw [(alters_stopActs _ d).get _ (by decide +kernel)]
    unfold State.stopNoted
    rw [State.get_flagEvent_leaves (by decide), State.get_countLife_leaves (by decide) (by decide +kernel)]
    exact latched_setDieBit hd s true

theorem stopDie_now (s : State) (d : Nat) : (s.stopDie d).now = s.now := by
  cases h : s.latched d with
  | true => rw [stopDie_latched h]
  | false =>
    rw [stopDie_fresh h, (alters_stopActs _ d).now (by decide +kernel)]
    unfold State.stopNoted State.countLife State.saving State.setDieBit
    rw [State.flagEvent_now, (altersOf (alters_journalWrite _ _)).now (by decide +kernel), State.count_now, State.set_now]

theorem sends_stopNoted {s₀ s : State} (d : Nat) (h : Sends s₀ s) : Sends s₀ (s.stopNoted d) := sends_flagEvent (sends_countLife _ (sends_set h))

/-- A die that stops is flagged, counted, and raises its event. -/
theorem stopDie_notes {s₀ s : State} {d : Nat} (h : s.latched d = false) (hs : Sends s₀ s) : (s.stopDie d).on F.TMP_IFLAG_STOP = true ∧
    raised s₀ (s.stopDie d) 0x05 (.flag F.TMP_IFLAG_STOP.lo) 2 ∧
    (s.stopDie d).get F.TMP_COUNT_STOPS = min (s.get F.TMP_COUNT_STOPS + 1) 65535 := by
  rw [stopDie_fresh h]
  refine ⟨?_, ?_, ?_⟩
  · rw [(alters_stopActs _ d).on _ (by decide +kernel)]
    exact State.on_flagEvent_okay (by decide) _ _ _
  · have hlife : Sends s ((s.setDieBit F.TMP_LATCH_LATCHED d true).countLife F.TMP_COUNT_STOPS) := sends_countLife _ (sends_set (sends_refl s))
    have hraise := raised_flagEvent (s := (s.setDieBit F.TMP_LATCH_LATCHED d true).countLife F.TMP_COUNT_STOPS) rfl F.TMP_IFLAG_STOP 2
      [F.TMP_LATCH_LATCHED.addr]
    exact raised_of_sends (raised_of_earlier (hs.trans hlife) hraise (sends_flagEvent (sends_refl _)).inbox) (sends_stopNoted d hs).inbox
      (sends_stopActs d (sends_refl _))
  · rw [(alters_stopActs _ d).get _ (by decide +kernel)]
    unfold State.stopNoted State.setDieBit
    rw [State.get_flagEvent_leaves (by decide), State.get_countLife _ (by decide) (by decide +kernel), State.get_set_leaves (by decide)]
    rfl

/-! ### An evaluation of a die that is not in its power cycle -/

/-- What an evaluation leaves: the reading, its fault, the rate, the throttle and the latch, with their events. -/
structure Evaluated (s : State) (d : Nat) (t : Int) (faulty : Bool) (u : State) : Prop where
  diode : u.diodeFaulty d = faulty
  temp : u.get (tempField d) = if faulty then 0x7FFF else codeOf 16 (clampInt (-32768) 32766 t)
  now : u.now = s.now
  fast : bit (u.get F.TMP_THR_FAST) d = (reached faulty t 10500 || (bit (s.get F.TMP_THR_FAST) d && decide (10000 ≤ t)))
  throttled : u.throttled d = (reached faulty t 11500 || (s.throttled d && decide (11000 < t)))
  throttles : reached faulty t 11500 = true → s.throttled d = false →
    u.on F.TMP_IFLAG_THROTTLE = true ∧ raised s u 0x05 (.flag F.TMP_IFLAG_THROTTLE.lo) 1
  latched : u.latched d = (s.latched d || reached faulty t 14000)
  stops : reached faulty t 14000 = true → s.latched d = false → u.on F.TMP_IFLAG_STOP = true ∧
    raised s u 0x05 (.flag F.TMP_IFLAG_STOP.lo) 2 ∧ u.get F.TMP_COUNT_STOPS = min (s.get F.TMP_COUNT_STOPS + 1) 65535

theorem sends_stopDie {s₀ s : State} (d : Nat) (h : Sends s₀ s) : Sends s₀ (s.stopDie d) := by
  cases hl : s.latched d with
  | true => rw [stopDie_latched hl]; exact h
  | false => rw [stopDie_fresh hl]; exact sends_stopActs d (sends_stopNoted d h)

/-- The reading, the rate and the throttle shown; a die not in its power cycle then stops from 140 °C on. -/
theorem evalTemp_run {s : State} {d : Nat} (hcyc : d ∉ s.tmp.cycling) (t : Int) (missing : Bool) {faulty : Bool}
    (hf : (s.judgeDiode d t missing).diodeFaulty d = faulty) : s.evalTemp d t missing =
      if reached faulty t 14000 then ((s.judgeDiode d t missing).evalShown d t faulty).stopDie d
      else (s.judgeDiode d t missing).evalShown d t faulty := by
  obtain ⟨hcycling, -⟩ := judgeDiode_parts s d t missing
  rw [evalTemp_eq, hf, evalShown_tmp, hcycling, if_neg fun h => hcyc (List.contains_iff_mem.mp h)]
  rfl

section
variable {s : State} {d : Nat} (hd : d < 10) (hcyc : d ∉ s.tmp.cycling) (t : Int) (missing : Bool) {faulty : Bool}
  (hf : (s.judgeDiode d t missing).diodeFaulty d = faulty)
include hcyc hf

theorem sends_evalTemp_of_judged : Sends (s.judgeDiode d t missing) (s.evalTemp d t missing) := by
  have hshown : Sends (s.judgeDiode d t missing) ((s.judgeDiode d t missing).evalShown d t faulty) := sends_evalShown _ d t faulty (sends_refl _)
  rw [evalTemp_run hcyc t missing hf]
  split
  · exact sends_stopDie d hshown
  · exact hshown

theorem get_evalTemp {g : Fld} (hl : F.TMP_LATCH_LATCHED.leaves g = true) (hc : F.TMP_COUNT_STOPS.leaves g = true)
    (hflag : F.TMP_IFLAG_STOP.leaves g = true) (hm : (alt_journalWrite ||| alt_stopActs).testBit (wordBit g.addr) = false) :
    (s.evalTemp d t missing).get g = ((s.judgeDiode d t missing).evalShown d t faulty).get g := by
  rw [evalTemp_run hcyc t missing hf]
  split
  · exact get_stopDie hl hc hflag hm _ d
  · rfl

include hd

theorem evaluated_evalTemp : Evaluated s d t faulty (s.evalTemp d t missing) := by
  have hget := fun {g : Fld} => get_evalTemp (g := g) hcyc t missing hf
  have hleaves := tempField_leaves d hd
  have hold : ∀ g : Fld, F.TMP_LATCH_DIODE.leaves g = true → F.TMP_IFLAG_DIODE.leaves g = true → (s.judgeDiode d t missing).get g = s.get g :=
    fun g h1 h2 => get_judgeDiode h1 h2 s d t missing
  obtain ⟨-, hnow, -⟩ := judgeDiode_parts s d t missing
  have hjsends := sends_judgeDiode s d t missing
  have htail := sends_evalTemp_of_judged hcyc t missing hf
  have hrun := evalTemp_run hcyc t missing hf
  generalize s.judgeDiode d t missing = j at hf hget hold hnow hjsends htail hrun
  have hthr : ((j.showTemp d t faulty).showFast d t faulty).throttled d = s.throttled d := by
    show bit (((j.showTemp d t faulty).showFast d t faulty).get F.TMP_THR_THROTTLE) d = _
    rw [get_showFast _ _ _ (by decide)]
    unfold State.showTemp
    rw [State.get_set_leaves (hleaves _ (by simp)).1, hold _ (by decide) (by decide)]
    rfl
  have hlatched : (j.evalShown d t faulty).latched d = s.latched d := by
    show bit ((j.evalShown d t faulty).get F.TMP_LATCH_LATCHED) d = _
    rw [get_evalShown _ _ _ (hleaves _ (by simp)).1 (by decide) (by decide) (by decide), hold _ (by decide) (by decide)]
    rfl
  have hfsends : Sends s ((j.showTemp d t faulty).showFast d t faulty) := by
    refine hjsends.trans ?_
    unfold State.showFast
    split_ifs
    · exact sends_set (sends_set (sends_refl j))
    · exact sends_set (sends_set (sends_refl j))
    · exact sends_set (sends_refl j)
  have hssends : Sends s (j.evalShown d t faulty) := sends_evalShown _ d t faulty hjsends
  constructor
  case diode =>
    show bit ((s.evalTemp d t missing).get F.TMP_LATCH_DIODE) d = faulty
    rw [hget (by decide) (by decide) (by decide) (by decide +kernel),
      get_evalShown _ _ _ (hleaves _ (by simp)).1 (by decide) (by decide) (by decide)]
    exact hf
  case temp =>
    have hmask : ∀ k < 10, (alt_journalWrite ||| alt_stopActs).testBit (wordBit (tempField k).addr) = false := by decide +kernel
    rw [hget (hleaves _ (by simp)).2 (hleaves _ (by simp)).2 (hleaves _ (by simp)).2 (hmask d hd)]
    exact evalShown_temp hd j t faulty
  case now =>
    rw [hrun]
    split
    · rw [stopDie_now, evalShown_now, hnow]
    · rw [evalShown_now, hnow]
  case fast =>
    rw [hget (by decide) (by decide) (by decide) (by decide +kernel)]
    unfold State.evalShown
    rw [get_showThrottle _ _ _ (by decide) (by decide), showFast_fast hd]
    unfold State.showTemp
    rw [State.get_set_leaves (hleaves _ (by simp)).1, hold _ (by decide) (by decide)]
  case throttled =>
    show bit ((s.evalTemp d t missing).get F.TMP_THR_THROTTLE) d = _
    rw [hget (by decide) (by decide) (by decide) (by decide +kernel), ← hthr]
    exact showThrottle_throttled hd _ t faulty
  case throttles =>
    intro hreach hwas
    obtain ⟨hon, hraised⟩ := showThrottle_raises (s := (j.showTemp d t faulty).showFast d t faulty) hreach (hthr.trans hwas)
    have hsh : Sends ((j.showTemp d t faulty).showFast d t faulty) (j.evalShown d t faulty) := by
      unfold State.evalShown State.showThrottle State.applyIf
      split_ifs
      · exact sends_flagEvent (sends_set (sends_refl _))
      · exact sends_refl _
    refine ⟨?_, raised_of_sends (raised_of_earlier hfsends hraised hsh.inbox) hssends.inbox ?_⟩
    · unfold State.on
      rw [hget (by decide) (by decide) (by decide) (by decide +kernel)]
      exact hon
    · rw [hrun]
      split
      · exact sends_stopDie d (sends_refl _)
      · exact sends_refl _
  case latched =>
    rw [hrun]
    split
    next h => rw [stopDie_latches hd, h, Bool.or_true]
    next h => rw [hlatched, Bool.eq_false_iff.mpr h, Bool.or_false]
  case stops =>
    intro hreach hwas
    rw [hrun, if_pos hreach]
    obtain ⟨hon, hraised, hcount⟩ := stopDie_notes (hlatched.trans hwas) hssends
    refine ⟨hon, hraised, hcount.trans ?_⟩
    rw [get_evalShown _ _ _ (hleaves _ (by simp)).1 (by decide) (by decide) (by decide), hold _ (by decide) (by decide)]

end

end Sys2Proof.Machine
end

section
/-! Thermal evaluations, power-downs, power cycles and pauses, and O51. -/
set_option Elab.async false
namespace Sys2Proof.Machine
open Host

/-! ### Evaluations -/

theorem raised_of_rsm {a s t : State} (h : a.rsm = s.rsm) {page cls : Nat} {low : EventLow} (hr : raised a t page low cls) :
    raised s t page low cls := by
  unfold raised at hr ⊢
  rw [h] at hr
  exact hr

/-- The state in which the evaluation of a die that is due runs. -/
def State.evalAsked (s : State) (d : Nat) : State :=
  (s.advanceTo (s.evalDue d)).onTmp fun x => { x with evalAt := (d, max s.now (s.evalDue d)) :: x.evalAt.filter fun e => e.1 != d }

theorem execThermalEval_run {d : Nat} {s : State} (hrun : s.cdieRuns = true) (hd : s.hasDie d = true) (x : Int) (missing : Bool) :
    exec (.thermalEval d x missing) s = .next ((s.evalAsked d).evalThermal d x missing) := by
  refine if_neg ?_
  rw [hrun, hd]
  decide

theorem evalThermal_chip {d : Nat} {s : State} (hd : d = 9 ∨ (d = 8 ∧ s.hasM = true ∧ s.gdieDown = false)) (x : Int) (missing : Bool) :
    s.evalThermal d x missing = s.evalTemp d x false := by
  unfold State.evalThermal
  rcases hd with rfl | ⟨rfl, -, hup⟩
  · rw [if_neg (by decide), if_neg fun h => absurd h.1 (by decide)]
  · rw [if_neg (by decide), if_neg fun h => by rw [hup] at h; exact absurd h.2 (by decide)]

theorem hasDie_chip {d : Nat} {s : State} (hd : d = 9 ∨ (d = 8 ∧ s.hasM = true ∧ s.gdieDown = false)) : s.hasDie d = true := by
  unfold State.hasDie
  rcases hd with rfl | ⟨rfl, hM, -⟩
  · rfl
  · rw [if_neg (by decide), if_pos rfl, hM]

theorem execThermalEval_chip {d : Nat} {s : State} (hrun : s.cdieRuns = true) (hd : d = 9 ∨ (d = 8 ∧ s.hasM = true ∧ s.gdieDown = false))
    (x : Int) : exec (.thermalEval d x false) s = .next ((s.evalAsked d).evalTemp d x false) := by
  rw [execThermalEval_run hrun (hasDie_chip hd), evalThermal_chip (s := s.evalAsked d) hd]

theorem chip_lt {d : Nat} {s : State} (hd : d = 9 ∨ (d = 8 ∧ s.hasM = true ∧ s.gdieDown = false)) : d < 10 ∧ ¬ d < 8 := by
  rcases hd with rfl | ⟨rfl, -⟩ <;> decide

theorem clampInt_of_range {x : Int} (hlo : -6000 ≤ x) (hhi : x ≤ 20000) : clampInt (-32768) 32766 x = x := by
  unfold clampInt
  omega

theorem execThermalEval_claim (d : Nat) (x : Int) (s : State) : Claims.thermalEval d x s := by
  intro hrun hd hlo hhi hcyc
  obtain ⟨hd10, hd8⟩ := chip_lt hd
  have hev := evaluated_evalTemp (s := s.evalAsked d) hd10 hcyc x false (judgeDiode_good hd10 hlo hhi)
  have hreach : ∀ y, reached false x y = decide (y ≤ x) := fun y => Bool.false_or _
  refine ⟨_, execThermalEval_chip hrun hd x, ?_, hev.diode, ?_, ?_, ?_, ?_, ?_, ?_⟩
  · rw [hev.temp, clampInt_of_range hlo hhi]
    rfl
  · rw [hev.now]
    show (s.tmp.evalAt.find? fun e => e.1 == d).all (fun e => decide (max s.now (s.evalDue d) = _)) = true
    unfold State.evalDue
    cases s.tmp.evalAt.find? fun e => e.1 == d with
    | none => rfl
    | some e => simp [if_neg hd8]
  · rw [hev.fast, hreach]
    rfl
  · rw [hev.throttled, hreach]
    rfl
  · intro h hwas
    exact hev.throttles (by rw [hreach]; exact decide_eq_true h) hwas
  · rw [hev.latched, hreach]
    rfl
  · intro h hwas
    exact hev.stops (by rw [hreach]; exact decide_eq_true h) hwas

theorem execThermalEval_faulty_claim (d : Nat) (x : Int) (s : State) : Claims.diodeFaulty d x s := by
  intro hrun hd hrange hbad hcyc
  obtain ⟨hd10, -⟩ := chip_lt hd
  obtain ⟨hfaulty, hraised⟩ := judgeDiode_bad (s := s.evalAsked d) (t := x) (missing := false) hd10 (.inr ⟨hrange, hbad⟩)
  have hev := evaluated_evalTemp (s := s.evalAsked d) hd10 hcyc x false hfaulty
  refine ⟨_, execThermalEval_chip hrun hd x, hev.diode, hev.temp, ?_, fun hwas => ?_⟩
  · rw [hev.latched]
    exact Bool.or_true _
  · exact raised_of_rsm (a := s.evalAsked d) rfl <| raised_of_sends (hraised hwas) (sends_judgeDiode (s.evalAsked d) d x false).inbox
      (sends_evalTemp_of_judged (s := s.evalAsked d) hcyc x false hfaulty)

theorem cdieRuns_of_running {s : State} (h : s.running = true) : s.cdieRuns = true := by
  unfold State.running at h
  unfold State.cdieRuns State.alive
  rcases Bool.or_eq_true_iff.mp h with h | h
  · rw [eq_of_beq h]; rfl
  · rw [eq_of_beq (Bool.and_eq_true_iff.mp h).1]; rfl

theorem execThermalEval_mdie {d : Nat} {s : State} (hrun : s.running = true) (hd : d < 8) (hdies : d < s.dies) (x : Int) (missing : Bool) :
    exec (.thermalEval d x missing) s = .next (if !s.healthy d || bit (s.get F.STK_ROUTE_ASLEEP) d then (s.evalAsked d).forgetDiode d
      else if missing || s.freshTdie d then (s.evalAsked d).evalTemp d (s.getInt (F.MD_DIE_TDIE.on d)) missing else s.evalAsked d) := by
  have hfit : s.hasDie d = true := by
    unfold State.hasDie
    rw [if_pos hd]
    exact decide_eq_true hdies
  rw [execThermalEval_run (cdieRuns_of_running hrun) hfit]
  have hrun' : (s.evalAsked d).running = true := hrun
  unfold State.evalThermal
  rw [if_pos hd, hrun']
  rfl

theorem execThermalEval_mdie_claim (d : Nat) (x : Int) (s : State) : Claims.mdieEval d x s := by
  intro hrun hd hdies hhealthy hawake hfresh hcyc hlo hhi
  have hexec := execThermalEval_mdie hrun hd hdies x false
  rw [hhealthy, hawake, hfresh] at hexec
  have hev := evaluated_evalTemp (s := s.evalAsked d) (d := d) (by omega) hcyc (s.getInt (F.MD_DIE_TDIE.on d)) false
    (judgeDiode_good (by omega) hlo (by omega))
  refine ⟨_, hexec, ?_, ?_, ?_⟩
  · refine hev.temp.trans ?_
    rw [clampInt_of_range hlo (by omega)]
    rfl
  · refine hev.latched.trans ?_
    unfold reached
    rw [decide_eq_false (by omega)]
    exact Bool.or_false _
  · exact hev.throttled

theorem execThermalEval_away_claim (d : Nat) (x : Int) (missing : Bool) (s : State) : Claims.mdieAway d x missing s := by
  intro hrun hd hdies haway
  have hexec := execThermalEval_mdie hrun hd hdies x missing
  rw [if_pos (by rcases haway with h | h <;> rw [h] <;> simp)] at hexec
  refine ⟨_, hexec, diodeFaulty_setDieBit (by omega) _ _, ?_, ?_, ?_⟩
  · exact State.get_set_leaves (tempField_leaves d (by omega) _ (by simp)).2 ..
  · show bit (((s.evalAsked d).forgetDiode d).get F.TMP_LATCH_LATCHED) d = _
    unfold State.forgetDiode State.setDieBit
    rw [State.get_set_leaves (by decide)]
    rfl
  · exact State.set_rsm ..

theorem execThermalEval_missing_claim (d : Nat) (x : Int) (s : State) : Claims.diodeMissing d x s := by
  intro hrun hd hdies hhealthy hawake hcyc
  have hexec := execThermalEval_mdie hrun hd hdies x true
  rw [hhealthy, hawake] at hexec
  obtain ⟨hfaulty, hraised⟩ := judgeDiode_bad (s := s.evalAsked d) (d := d) (t := s.getInt (F.MD_DIE_TDIE.on d)) (missing := true) (by omega) (.inl rfl)
  have hev := evaluated_evalTemp (s := s.evalAsked d) (d := d) (by omega) hcyc (s.getInt (F.MD_DIE_TDIE.on d)) true hfaulty
  refine ⟨_, hexec, hev.diode, hev.temp, ?_, fun hwas => ?_⟩
  · exact hev.latched.trans (Bool.or_true _)
  · exact raised_of_rsm (a := s.evalAsked d) rfl <| raised_of_sends (hraised hwas) (sends_judgeDiode (s.evalAsked d) d _ true).inbox
      (sends_evalTemp_of_judged (s := s.evalAsked d) hcyc _ true hfaulty)

/-! ### The stop of the C-die -/

theorem stopNoted_parts (s : State) (d : Nat) : (s.stopNoted d).mot = s.mot ∧ (s.stopNoted d).ls = s.ls ∧ (s.stopNoted d).hasM = s.hasM := by
  refine ⟨?_, ?_, ?_⟩
  · unfold State.stopNoted State.countLife State.saving State.setDieBit
    rw [State.flagEvent_mot, (altersOf (alters_journalWrite _ _)).mot (by decide +kernel), State.count_mot, State.set_mot]
  · unfold State.stopNoted State.countLife State.saving State.setDieBit
    rw [State.flagEvent_ls, (altersOf (alters_journalWrite _ _)).ls (by decide +kernel), State.count_ls, State.set_ls]
  · unfold State.hasM State.on State.stopNoted State.setDieBit
    rw [State.get_flagEvent_leaves (by decide), State.get_countLife_leaves (by decide) (by decide +kernel), State.get_set_leaves (by decide)]

theorem execThermalEval_stop_claim (x : Int) (n a : Nat) (c : Cycle) (s : State) : Claims.thermalStop x n a c s := by
  intro hrun hshape hlo hhi hcyc hlatch hn ha hM hc hkind hstop
  obtain ⟨-, hlen, hchans, -⟩ := hshape
  have hgood := judgeDiode_good (s := s.evalAsked 9) (d := 9) (by omega) (show -6000 ≤ x by omega) hhi
  have hexec := execThermalEval_chip (cdieRuns_of_running hrun) (.inl rfl) x
  have hreach : reached false x 14000 = true := decide_eq_true hlo
  rw [evalTemp_run (s := s.evalAsked 9) hcyc x false hgood, if_pos hreach] at hexec
  obtain ⟨-, -, hjmot, hjls, -⟩ := judgeDiode_parts (s.evalAsked 9) 9 x false
  have hget : ∀ {g : Fld}, (tempField 9).leaves g = true → F.TMP_THR_FAST.leaves g = true → F.TMP_THR_THROTTLE.leaves g = true →
      F.TMP_IFLAG_THROTTLE.leaves g = true → F.TMP_LATCH_DIODE.leaves g = true → F.TMP_IFLAG_DIODE.leaves g = true →
      (((s.evalAsked 9).judgeDiode 9 x false).evalShown 9 x false).get g = s.get g := fun h1 h2 h3 h4 h5 h6 =>
    (get_evalShown _ x false h1 h2 h3 h4).trans (get_judgeDiode h5 h6 _ 9 x false)
  have hlatched : (((s.evalAsked 9).judgeDiode 9 x false).evalShown 9 x false).latched 9 = false := by
    unfold State.latched
    rw [hget (by decide) (by decide) (by decide) (by decide) (by decide) (by decide)]
    exact hlatch
  have hvM : (((s.evalAsked 9).judgeDiode 9 x false).evalShown 9 x false).hasM = true := by
    refine Eq.trans ?_ hM
    unfold State.hasM State.on
    rw [hget (by decide) (by decide) (by decide) (by decide) (by decide) (by decide)]
  have hmot := (evalShown_mot ((s.evalAsked 9).judgeDiode 9 x false) 9 x false).trans hjmot
  have hls := (evalShown_ls ((s.evalAsked 9).judgeDiode 9 x false) 9 x false).trans hjls
  rw [stopDie_fresh hlatched] at hexec
  refine ⟨_, hexec, ?_⟩
  generalize ((s.evalAsked 9).judgeDiode 9 x false).evalShown 9 x false = v at hvM hmot hls
  obtain ⟨hnmot, hnls, hnM⟩ := stopNoted_parts v 9
  rw [hmot] at hnmot
  rw [hls] at hnls
  rw [hvM] at hnM
  have hacts : (v.stopNoted 9).stopActs 9 = ((v.stopNoted 9).stopMoving 4).loadsOff := by
    unfold State.stopActs State.applyIf
    rw [hnM]
    exact (if_pos rfl).trans (congrArg State.loadsOff (if_pos rfl))
  have hstopping : Stopping a 4 ((v.stopNoted 9).stopMoving 4) :=
    stopping_stopMoving ha hnM ((congrArg AxisSt.cycle (State.axis_of_mot hnmot a)).trans hc) (by rw [hnmot]; exact hlen) (by rw [hstop]; decide)
  have hoff := altersOf (alters_loadsOff ((v.stopNoted 9).stopMoving 4))
  rw [hacts]
  obtain ⟨h1, h2⟩ := State.loadsOff_commands ((v.stopNoted 9).stopMoving 4)
  refine ⟨loadsOff_chanOn ?_ hn, h1, h2, ?_, ?_⟩
  · rw [(altersOf (alters_stopMoving (v.stopNoted 9) 4)).ls (by decide +kernel), hnls]
    exact hchans
  · rw [State.axis_of_mot (hoff.mot (by decide +kernel))]
    exact hstopping.2
  · unfold State.axState
    rw [hoff.get _ (by rw [wordBit_on]; decide +kernel)]
    exact hstopping.1

end Sys2Proof.Machine
end

section
/-! Power-downs, power cycles and pauses of the dies, and O51. -/
set_option Elab.async false
namespace Sys2Proof.Machine
open Host

/-! ### Power-down -/

/-- What thermal management keeps of a power-down. -/
def State.downNoted (s : State) (d : Nat) : State := s.onTmp fun t => { t with
  downAt := (d, s.now) :: t.downAt.filter (fun e => e.1 != d), cycling := t.cycling.filter (· != d) }

/-- The bridges of an axis go to their safe state. -/
def State.axisDown (s : State) (a : Nat) : State :=
  (((s.quietGate a).stopAxis a 2).onAxis a fun x => { x with drive := 0 }).set (F.GD_STAT_STATE.on a) 0

/-- The G-die counts as powered down. -/
def State.gateMarked (s : State) : State := { s with gdieDown := true }

theorem gateMarked_parts (s : State) : (∀ f, s.gateMarked.get f = s.get f) ∧ s.gateMarked.tmp = s.tmp ∧ s.gateMarked.gdieDown = true :=
  ⟨fun _ => rfl, rfl, rfl⟩

/-- The G-die is powered down. -/
def State.gateDown (s : State) : State := (axisList.foldl State.axisDown s.chopperOff).gateMarked

/-- An M-die is powered down. -/
def State.mdieDown (s : State) (d : Nat) : State :=
  ((s.sleepDie d).set F.PWR_MDPWR_MD_ON (withBit (s.get F.PWR_MDPWR_MD_ON) d false)).markUnhealthy d

theorem powerDownDie_eq (s : State) (d : Nat) : s.powerDownDie d =
    if d < 8 then (s.downNoted d).mdieDown d else (s.downNoted d).gateDown := rfl

theorem alters_axisDown (s : State) (a : Nat) : Alters (alt_quietGate ||| alt_stopAxis ||| alt_onAxis ||| setMask F.GD_STAT_STATE) s (s.axisDown a) := by
  unfold State.axisDown
  refine alters_set (by rw [setMask_on]; unfold Sub; decide +kernel) (alters_onAxis _ _ _ (by unfold Sub; decide +kernel)
    (alters_stopAxis _ _ _ (by unfold Sub; decide +kernel) (alters_quietGate _ _ (by unfold Sub; decide +kernel) (alters_refl _ s))))

theorem page_gd (f : Fld) (hf : f.page = 0x49) (a : Nat) : (f.on a).page = 0x49 + a % 6 := by
  unfold Fld.on
  rw [hf]
  rfl

theorem axisDown_gdState (s : State) (a b : Nat) (ha : a < 6) (hb : b < 6) : (s.axisDown a).gdState b = if a = b then 0 else s.gdState b := by
  unfold State.axisDown State.gdState
  split
  next h =>
    subst h
    exact State.get_set_lt (show (F.GD_STAT_STATE.on a).okay = true from rfl) (by show 0 < 2 ^ _; exact Nat.two_pow_pos _) _
  next h =>
    rw [State.get_set_leaves (Fld.leaves_of_page (by rw [page_gd _ rfl, page_gd _ rfl]; omega))]
    show ((s.quietGate a).stopAxis a 2).get _ = _
    rw [(altersOf (alters_stopAxis _ _ _)).get _ (by rw [wordBit_on]; decide +kernel)]
    unfold State.quietGate
    rw [State.get_set_leaves (Fld.leaves_of_page (by rw [page_gd _ rfl, page_gd _ rfl]; omega))]
    rfl

theorem gateDown_gdState {s : State} {b : Nat} (hb : b < 6) : s.gateDown.gdState b = 0 := by
  unfold State.gateDown
  refine ((gateMarked_parts _).1 _).trans ?_
  have hmem : b ∈ axisList := mem_axisList.mpr hb
  have hlist : ∀ (l : List Nat), (∀ a ∈ l, a < 6) → ∀ t : State, (b ∈ l ∨ t.gdState b = 0) → (l.foldl State.axisDown t).gdState b = 0 := by
    intro l
    induction l with
    | nil => exact fun _ t h => h.resolve_left List.not_mem_nil
    | cons a l ih =>
      intro hl t h
      refine ih (fun k hk => hl k (List.mem_cons_of_mem _ hk)) _ ?_
      have hstep := axisDown_gdState t a b (hl a List.mem_cons_self) hb
      by_cases hab : a = b
      · exact .inr (hstep.trans (if_pos hab))
      · rcases h with h | h
        · exact .inl ((List.mem_cons.mp h).resolve_left fun e => hab e.symm)
        · exact .inr (hstep.trans ((if_neg hab).trans h))
  exact hlist axisList (fun a ha => mem_axisList.mp ha) _ (.inl hmem)

theorem powerDownDie_tmp (s : State) (d : Nat) : (s.powerDownDie d).tmp = (s.downNoted d).tmp := by
  rw [powerDownDie_eq]
  split
  · unfold State.mdieDown
    rw [(altersOf (alters_markUnhealthy _ _)).tmp (by decide +kernel), State.set_tmp, (altersOf (alters_sleepDie _ _)).tmp (by decide +kernel)]
  · unfold State.gateDown
    rw [(gateMarked_parts _).2.1, (foldl_alters alters_axisDown _ _).tmp (by decide +kernel), (altersOf (alters_chopperOff _)).tmp (by decide +kernel)]

theorem healthy_markUnhealthy {d : Nat} (hd : d < 8) (s : State) : (s.markUnhealthy d).healthy d = false := by
  have hbefore : (s.slotsBefore d).get F.SYS_DIEMAP_MD = s.get F.SYS_DIEMAP_MD := (altersOf (alters_slotsBefore s d)).get _ (by decide +kernel)
  show bit (((s.slotsBefore d).set F.SYS_DIEMAP_MD (withBit (s.get F.SYS_DIEMAP_MD) d false)).get F.SYS_DIEMAP_MD) d = false
  rw [← hbefore, State.get_set_withBit (by decide) (by exact hd)]
  exact bit_withBit_same ..

theorem execThermalPowerDown_claim (d : Nat) (s : State) : Claims.thermalPowerDown d s := by
  intro hd hlatched hup hcyc hopen
  have hcond : d < 9 ∧ s.latched d = true ∧ (s.tmp.downAt.all fun e => e.1 != d) = true ∧ s.tmp.cycling.contains d = false ∧
      (s.anyCdClosed = false ∨ s.tmp.expired.contains d = true) :=
    ⟨hd, hlatched, hup, Bool.eq_false_iff.mpr fun h => hcyc (List.contains_iff_mem.mp h), hopen.imp_right List.contains_iff_mem.mpr⟩
  refine ⟨_, if_pos hcond, ?_, fun h8 => ⟨?_, ?_⟩, fun h8 => ⟨?_, ?_⟩⟩
  · rw [powerDownDie_tmp]
    exact List.mem_cons_self
  · rw [powerDownDie_eq, if_pos h8]
    unfold State.mdieDown
    rw [(altersOf (alters_markUnhealthy _ _)).get _ (by decide +kernel),
      State.get_set_lt (by decide) (withBit_lt _ (State.get_lt (s.downNoted d) _) (by exact h8))]
    exact bit_withBit_same ..
  · rw [powerDownDie_eq, if_pos h8]
    exact healthy_markUnhealthy h8 _
  · rw [powerDownDie_eq, if_neg (by omega)]
    exact (gateMarked_parts _).2.2
  · rw [powerDownDie_eq, if_neg (by omega)]
    exact gateDown_gdState (by decide)

/-! ### Evaluations in the power cycle -/

theorem evalTemp_cycling {s : State} {d : Nat} (hcyc : d ∈ s.tmp.cycling) (t : Int) (missing : Bool) {faulty : Bool}
    (hf : (s.judgeDiode d t missing).diodeFaulty d = faulty) : s.evalTemp d t missing =
      if !faulty && decide (t < 10000) then ((s.judgeDiode d t missing).evalShown d t faulty).clearLatch d
      else ((s.judgeDiode d t missing).evalShown d t faulty).powerDownDie d := by
  obtain ⟨hcycling, -⟩ := judgeDiode_parts s d t missing
  rw [evalTemp_eq, hf, evalShown_tmp, hcycling, if_pos (List.contains_iff_mem.mpr hcyc)]

theorem evalShown_gdieDown (s : State) (d : Nat) (t : Int) (faulty : Bool) : (s.evalShown d t faulty).gdieDown = s.gdieDown := by
  unfold State.evalShown State.showThrottle State.showFast State.showTemp State.setDieBit State.applyIf
  split_ifs <;> simp only [State.flagEvent_gdieDown, State.set_gdieDown]

theorem clearLatch_parts {d : Nat} (hd : d < 10) (s : State) : (s.clearLatch d).latched d = false ∧ (s.clearLatch d).on F.TMP_IFLAG_PCYC = true ∧
    d ∉ (s.clearLatch d).tmp.cycling ∧ (s.clearLatch d).gdieDown = s.gdieDown := by
  have hdrop := fun u : State => altersOf (alters_dropSource u 8)
  unfold State.clearLatch
  dsimp only
  refine ⟨?_, State.on_flag_okay (by decide) _, ?_, ?_⟩
  · unfold State.latched
    rw [State.get_flag_leaves (by decide), State.get_applyIf, (hdrop _).get _ (by decide +kernel), ite_self]
    exact latched_setDieBit hd s false
  · rw [State.flag_tmp]
    unfold State.applyIf
    split
    · rw [(hdrop _).tmp (by decide +kernel)]
      exact fun h => absurd (List.mem_filter.mp h).2 (by simp)
    · exact fun h => absurd (List.mem_filter.mp h).2 (by simp)
  · rw [State.flag_gdieDown]
    unfold State.applyIf
    split
    · rw [(hdrop _).gdieDown (by decide +kernel)]
      exact State.set_gdieDown ..
    · exact State.set_gdieDown ..

theorem execThermalEval_clears_claim (x : Int) (s : State) : Claims.latchClears x s := by
  intro hrun hM hup hcyc hlo hhi
  have hgood := judgeDiode_good (s := s.evalAsked 8) (d := 8) (by omega) hlo (show x ≤ 20000 by omega)
  have hexec := execThermalEval_chip hrun (.inr ⟨rfl, hM, hup⟩) x
  rw [evalTemp_cycling (s := s.evalAsked 8) hcyc x false hgood, decide_eq_true hhi] at hexec
  obtain ⟨hlatched, hpcyc, hcycling, hdown⟩ := clearLatch_parts (d := 8) (by decide) (((s.evalAsked 8).judgeDiode 8 x false).evalShown 8 x false)
  obtain ⟨-, -, -, -, -, hjdown⟩ := judgeDiode_parts (s.evalAsked 8) 8 x false
  exact ⟨_, hexec, hlatched, hpcyc, hcycling, hdown.trans ((evalShown_gdieDown ..).trans (hjdown.trans hup))⟩

theorem execThermalEval_stays_claim (x : Int) (s : State) : Claims.latchStays x s := by
  intro hrun hM hup hcyc hlo hhi
  have hgood := judgeDiode_good (s := s.evalAsked 8) (d := 8) (by omega) (show -6000 ≤ x by omega) hhi
  have hexec := execThermalEval_chip hrun (.inr ⟨rfl, hM, hup⟩) x
  rw [evalTemp_cycling (s := s.evalAsked 8) hcyc x false hgood, decide_eq_false (by omega), if_neg (by decide)] at hexec
  refine ⟨_, hexec, ?_, ?_, ?_⟩
  · show bit ((State.powerDownDie _ 8).get F.TMP_LATCH_LATCHED) 8 = _
    rw [(altersOf (alters_powerDownDie _ 8)).get _ (by decide +kernel), get_evalShown _ _ _ (by decide) (by decide) (by decide) (by decide),
      get_judgeDiode (by decide) (by decide)]
    rfl
  · rw [powerDownDie_eq, if_neg (by decide)]
    exact (gateMarked_parts _).2.2
  · rw [powerDownDie_tmp, (altersOf (alters_powerDownDie _ 8)).now (by decide +kernel)]
    exact List.mem_cons_self

/-! ### Power cycles -/

theorem countOf_putCount (l : List (Nat × Nat)) (d : Nat) {v : Nat} (hv : v ≠ 0) : countOf (putCount d v l) d = v := by
  unfold putCount
  rw [if_neg hv]
  unfold countOf
  exact if_pos rfl

/-- What thermal management keeps and counts of a power-up. -/
def State.upNoted (s : State) (d : Nat) : State := (s.onTmp fun t => { t with
  downAt := t.downAt.filter fun e => e.1 != d, cycling := d :: t.cycling.filter (· != d) }).countLife F.TMP_COUNT_PCYC

theorem powerUpDie_eq (s : State) (d : Nat) : s.powerUpDie d =
    if d < 8 then { (s.upNoted d).set F.PWR_MDPWR_MD_ON (withBit ((s.upNoted d).get F.PWR_MDPWR_MD_ON) d true) with
      pwr := { (s.upNoted d).pwr with settling := d :: (s.upNoted d).pwr.settling, retried := (s.upNoted d).pwr.retried.filter (· != d) } }
    else (s.upNoted d).powerUpGate := rfl

theorem upNoted_tmp (s : State) (d : Nat) : (s.upNoted d).tmp = { s.tmp with
    downAt := s.tmp.downAt.filter fun e => e.1 != d, cycling := d :: s.tmp.cycling.filter (· != d) } := by
  unfold State.upNoted State.countLife State.saving
  rw [(altersOf (alters_journalWrite _ _)).tmp (by decide +kernel), State.count_tmp]
  rfl

theorem powerUpDie_tmp (s : State) (d : Nat) : (s.powerUpDie d).tmp = (s.upNoted d).tmp := by
  rw [powerUpDie_eq]
  split
  · exact State.set_tmp ..
  · exact (altersOf (alters_powerUpGate _)).tmp (by decide +kernel)

theorem powerUpDie_count (s : State) (d : Nat) : (s.powerUpDie d).get F.TMP_COUNT_PCYC = min (s.get F.TMP_COUNT_PCYC + 1) 65535 := by
  have hup : (s.upNoted d).get F.TMP_COUNT_PCYC = min (s.get F.TMP_COUNT_PCYC + 1) 65535 := State.get_countLife _ (by decide) (by decide +kernel)
  rw [powerUpDie_eq, ← hup]
  split
  · exact State.get_set_leaves (by decide) ..
  · exact (altersOf (alters_powerUpGate _)).get _ (by decide +kernel)

theorem powerUpGate_gdieDown (s : State) : s.powerUpGate.gdieDown = false := by
  unfold State.powerUpGate
  refine foldl_keeps (fun t : State => t.gdieDown = false) (fun t a ht => ?_) _ rfl
  unfold State.applyIf
  split
  · rw [State.set_gdieDown]
    exact ht
  · exact ht

theorem powerUpDie_gate (s : State) : (s.powerUpDie 8).gdieDown = false := by
  rw [powerUpDie_eq, if_neg (by decide)]
  exact powerUpGate_gdieDown _

theorem powerUpDie_mdie {d : Nat} (hd : d < 8) (s : State) : d ∈ (s.powerUpDie d).pwr.settling ∧ bit ((s.powerUpDie d).get F.PWR_MDPWR_MD_ON) d = true := by
  rw [powerUpDie_eq, if_pos hd]
  refine ⟨List.mem_cons_self, ?_⟩
  show bit (((s.upNoted d).set F.PWR_MDPWR_MD_ON (withBit ((s.upNoted d).get F.PWR_MDPWR_MD_ON) d true)).get F.PWR_MDPWR_MD_ON) d = true
  rw [State.get_set_withBit (by decide) (by exact hd)]
  exact bit_withBit_same ..

/-- One more try of the automatic power cycle of a die. -/
def State.cycleTried (s : State) (d : Nat) : State := s.onTmp fun t => { t with tries := putCount d (countOf t.tries d + 1) t.tries }

theorem execDiePowerCycle_claim (d e : Nat) (s : State) : Claims.diePowerCycle d e s := by
  intro hrun hd hdown hauto hlatched htries
  have hcond : (s.pwr.phase == .run && s.on F.TMP_CFG_AUTO && s.latched d && decide (countOf s.tmp.tries d < 3)) = true := by
    rw [hrun, hauto, hlatched, decide_eq_true htries]
    rfl
  have hexec : exec (.diePowerCycle d) s =
      .next (((s.advanceTo (e + s.get F.TMP_CFG_COOL * 1000000)).cycleTried d).powerUpDie d) := by
    show execDiePowerCycle d s = _
    unfold execDiePowerCycle
    rw [hdown]
    exact if_pos hcond
  refine ⟨_, hexec, ?_, ?_, ?_, powerUpDie_count _ d, fun h8 => ?_, fun h8 => powerUpDie_mdie h8 _⟩
  · rw [(altersOf (alters_powerUpDie _ d)).now (by decide +kernel)]
    rfl
  · rw [powerUpDie_tmp, upNoted_tmp]
    exact countOf_putCount _ _ (Nat.succ_ne_zero _)
  · rw [powerUpDie_tmp, upNoted_tmp]
    exact List.mem_cons_self
  · subst h8
    exact powerUpDie_gate _

theorem execDiePowerCycle_fourth_claim (d : Nat) (s : State) : Claims.noFourthCycle d s := by
  intro hno
  show execDiePowerCycle d s = _
  unfold execDiePowerCycle
  split
  · rfl
  · refine if_neg fun h => ?_
    simp only [Bool.and_eq_true, decide_eq_true_eq] at h
    obtain ⟨⟨⟨-, hauto⟩, -⟩, htries⟩ := h
    rcases hno with h | h
    · omega
    · rw [h] at hauto
      exact absurd hauto (by decide)

/-! ### The host's power cycle -/

theorem command_tmp (a : State) (l : Link) (v : Word) : a.command l 0x05 0xE0 v = a.writeTmpCmd v := rfl

theorem latched_of_twin {a s : State} (ha : twin a s.refreshShown) (d : Nat) : a.latched d = s.latched d := by
  unfold State.latched
  rw [State.get_of_twin ha (by decide)]

theorem cooled_of_twin {a s : State} (ha : twin a s.refreshShown) (d : Nat) : a.cooled d = s.cooled d := by
  unfold State.cooled
  rw [State.get_of_twin ha (f := F.TMP_CFG_COOL) (by decide), tmp_of_twin ha, now_of_twin ha]

theorem execTmpCmd_claim (l : Link) (d : Nat) (s : State) : Claims.tmpCmd l d s := by
  intro h hd hlatched hcooled
  have hv : (BitVec.ofNat 32 (0x100 + d)).toNat = 0x100 + d := Nat.mod_eq_of_lt (by omega)
  generalize (BitVec.ofNat 32 (0x100 + d) : Word) = v at hv
  obtain ⟨a, ha, ht, -, hgranted⟩ := hostWrite_full h 0x05 0xE0 v rfl rfl rfl (Or.inl rfl)
  have hphase : a.pwr.phase ≠ .holdup := by rw [pwr_of_twin ha, h.1]; decide
  have hcmd : a.command l 0x05 0xE0 v = (a.powerUpDie d, none) := by
    rw [command_tmp]
    unfold State.writeTmpCmd
    have hd' : v.toNat - 0x100 = d := by omega
    simp only [hd']
    exact if_pos ⟨by omega, by omega, (latched_of_twin ha d).trans hlatched, (cooled_of_twin ha d).trans hcooled, hphase⟩
  rw [hcmd] at ht hgranted
  refine ⟨_, rfl, hgranted rfl, ?_, ?_, ?_, ?_, fun h8 => ?_⟩
  · rw [tmp_of_aside ht.1, powerUpDie_tmp, upNoted_tmp]
    exact List.mem_cons_self
  · rw [tmp_of_aside ht.1, powerUpDie_tmp, upNoted_tmp]
    exact fun e he => by simpa using (List.mem_filter.mp he).2
  · rw [tmp_of_aside ht.1, powerUpDie_tmp, upNoted_tmp, tmp_of_twin ha]
  · rw [get_of_linksAside ht.1, powerUpDie_count, State.get_of_twin ha (by decide)]
  · subst h8
    rw [gdieDown_of_aside ht.1]
    exact powerUpDie_gate _

theorem execTmpCmd_refused_claim (l : Link) (v : Word) (s : State) : Claims.tmpCmdRefused l v s := by
  intro h hwhy
  obtain ⟨a, ha, ht, hrefused, -⟩ := hostWrite_full h 0x05 0xE0 v rfl rfl rfl (Or.inl rfl)
  have hcmd : a.command l 0x05 0xE0 v = (a, some 0x0A) := by
    rw [command_tmp]
    unfold State.writeTmpCmd
    refine if_neg fun hc => ?_
    obtain ⟨hlo, hhi, hl, hcool, -⟩ := hc
    rw [latched_of_twin ha] at hl
    rw [cooled_of_twin ha] at hcool
    rcases hwhy with hw | hw | hw | hw
    · omega
    · omega
    · rw [hw] at hl; exact absurd hl (by decide)
    · rw [hw] at hcool; exact absurd hcool (by decide)
  rw [hcmd] at ht hrefused
  exact ⟨_, rfl, hrefused _ rfl, linksAside_trans ht.1 ha.1⟩

/-! ### Pauses -/

theorem motionPause_after {s : State} {e : Nat} (hend : s.mot.lastEnd = some e) (hruns : s.cycleRuns = false)
    (hnow : e + s.get F.TMP_CFG_PAUSE * 1000000 ≤ s.now) : s.motionPause = false := by
  unfold State.motionPause
  rw [hruns, hend]
  show ((_ || _) && (false || decide (s.now < e + s.get F.TMP_CFG_PAUSE * 1000000))) = false
  rw [decide_eq_false (by omega)]
  exact Bool.and_false _

theorem execThermalPauseEnd_claim (e : Nat) (s : State) : Claims.thermalPauseEnd e s := by
  intro hend hpause hruns
  have hlt : s.now < e + s.get F.TMP_CFG_PAUSE * 1000000 := by
    by_contra hn
    rw [motionPause_after hend hruns (by omega)] at hpause
    exact absurd hpause (by decide)
  have hexec : exec (.thermalPauseEnd true) s = .next ((s.advanceTo (e + s.get F.TMP_CFG_PAUSE * 1000000)).setOn F.MOT_STAT_THROTTLE
      (s.advanceTo (e + s.get F.TMP_CFG_PAUSE * 1000000)).motionPause) := by
    show execThermalPauseEnd true s = _
    unfold execThermalPauseEnd
    dsimp only
    rw [if_pos rfl, hend]
    exact if_pos (by rw [hpause, hruns]; rfl)
  have hnow : (s.advanceTo (e + s.get F.TMP_CFG_PAUSE * 1000000)).now = e + s.get F.TMP_CFG_PAUSE * 1000000 := Nat.max_eq_right (by omega)
  have hover : (s.advanceTo (e + s.get F.TMP_CFG_PAUSE * 1000000)).motionPause = false :=
    motionPause_after (s := s.advanceTo (e + s.get F.TMP_CFG_PAUSE * 1000000)) hend hruns (Nat.le_of_eq hnow.symm)
  rw [hover] at hexec
  refine ⟨_, hexec, (State.setOn_now ..).trans hnow, ?_, State.on_setOn_okay (by decide) _ _, State.setOn_mot ..⟩
  refine motionPause_after (e := e) ?_ ?_ ?_
  · rw [State.setOn_mot]; exact hend
  · unfold State.cycleRuns
    rw [State.setOn_mot]; exact hruns
  · rw [State.setOn_now, State.get_setOn_leaves (by decide)]
    exact Nat.le_of_eq hnow.symm

theorem execThermalPauseEnd_restart_claim (e : Nat) (s : State) : Claims.restartPauseEnd e s := by
  intro hlast hpause
  have hlt : s.now < e + s.get F.TMP_CFG_PAUSE * 1000000 := by
    unfold State.restartPause at hpause
    rw [hlast] at hpause
    exact of_decide_eq_true (Bool.and_eq_true_iff.mp hpause).2
  show execThermalPauseEnd false s = _
  unfold execThermalPauseEnd
  dsimp only
  rw [if_neg (by decide), hlast]
  show Outcome.next (if s.restartPause then s.advanceTo _ else s) = _
  rw [if_pos hpause]
  unfold State.advanceTo
  rw [Nat.max_eq_right (by omega)]

end Sys2Proof.Machine

/-- Settles O51: an evaluation in stages, each with its own bits of the thermal page, and the stop that follows from the latch. -/
theorem thermalManagement : Obligations.ThermalManagement := by
  unfold Obligations.ThermalManagement
  exact ⟨Sys2Proof.Machine.execThermalEval_claim, Sys2Proof.Machine.execThermalEval_stop_claim, Sys2Proof.Machine.execThermalEval_faulty_claim,
    Sys2Proof.Machine.execThermalEval_mdie_claim, Sys2Proof.Machine.execThermalEval_away_claim, Sys2Proof.Machine.execThermalEval_missing_claim,
    Sys2Proof.Machine.execThermalEval_clears_claim, Sys2Proof.Machine.execThermalEval_stays_claim, Sys2Proof.Machine.execThermalPowerDown_claim,
    Sys2Proof.Machine.execDiePowerCycle_claim, Sys2Proof.Machine.execDiePowerCycle_fourth_claim, Sys2Proof.Machine.execTmpCmd_claim,
    Sys2Proof.Machine.execTmpCmd_refused_claim, Sys2Proof.Machine.execThermalPauseEnd_claim, Sys2Proof.Machine.execThermalPauseEnd_restart_claim⟩
end

section
/-! SUPPORT. Commands to the axes, written on a link that takes them; and the conditions of a start in states alike (R339 to R346). -/
set_option Elab.async false
namespace Sys2Proof.Machine
open Host

/-! ### States alike to the axes -/

/-- Two states agree in what the rules of the axes look at: the parts of motion, safety and commits, and the words that do not follow the
moment. -/
structure Alike (u s : State) : Prop where
  mot : u.mot = s.mot
  now : u.now = s.now
  saf : u.saf = s.saf
  commit : u.commit = s.commit
  enabled : ∀ p, u.enabled p = s.enabled p
  get : ∀ f : Fld, f.derived = false → u.get f = s.get f

namespace Alike
variable {u s : State}

theorem of_twin (h : twin u s.refreshShown) : Alike u s where
  mot := mot_of_twin h
  now := now_of_twin h
  saf := saf_of_twin h
  commit := commit_of_twin h
  enabled p := by
    unfold State.enabled
    rw [reg_of_linksAside h.1, State.reg_refreshShown_low (by rw [addrOf_mod (by decide)]; decide) (by rw [addrOf_mod (by decide)]; decide)]
  get _ hf := State.get_of_twin h hf

theorem of_aside (h : linksAside u s) : Alike u s where
  mot := mot_of_aside h
  now := now_of_aside h
  saf := saf_of_aside h
  commit := commit_of_aside h
  enabled p := by
    unfold State.enabled
    rw [reg_of_linksAside h]
  get f _ := get_of_linksAside h f

variable (h : Alike u s)
include h

theorem axis (a : Nat) : u.axis a = s.axis a := State.axis_of_mot h.mot a

theorem on {f : Fld} (hf : f.derived = false) : u.on f = s.on f := by
  unfold State.on
  rw [h.get f hf]

theorem getOn {f : Fld} (hf : 0x1A ≤ f.page) (a : Nat) : u.get (f.on a) = s.get (f.on a) := h.get _ (Fld.derived_on hf a)
theorem onOn {f : Fld} (hf : 0x1A ≤ f.page) (a : Nat) : u.on (f.on a) = s.on (f.on a) := h.on (Fld.derived_on hf a)
theorem getIntOn {f : Fld} (hf : 0x1A ≤ f.page) (a : Nat) : u.getInt (f.on a) = s.getInt (f.on a) := getInt_of_get (h.getOn hf a)

theorem axState (a : Nat) : u.axState a = s.axState a := h.getOn (by decide) a
theorem gdState (a : Nat) : u.gdState a = s.gdState a := h.getOn (by decide) a
theorem hasEnc (a : Nat) : u.hasEnc a = s.hasEnc a := h.onOn (by decide) a
theorem homed (a : Nat) : u.homed a = s.homed a := h.onOn (by decide) a
theorem setpoint (a : Nat) : u.setpoint a = s.setpoint a := h.getIntOn (by decide) a
theorem hasM : u.hasM = s.hasM := h.on (by decide)

theorem standsAt (a : Nat) : u.standsAt a = s.standsAt a := by
  unfold State.standsAt
  rw [h.hasEnc, h.axis, h.getIntOn (by decide), h.setpoint]

theorem groupOf (a : Nat) : u.groupOf a = s.groupOf a := by
  unfold State.groupOf
  rw [h.get _ (by decide)]

theorem members (g : Nat) : u.members g = s.members g := by
  unfold State.members
  simp only [h.groupOf]

theorem limits (a : Nat) : u.limits a = s.limits a := by
  unfold State.limits
  simp (disch := decide) only [h.getOn]

theorem edgeGuards (a : Nat) (positive : Bool) : u.edgeGuards a positive = s.edgeGuards a positive := by
  unfold State.edgeGuards
  simp (disch := decide) only [h.get, h.on]

theorem limitGuards (a : Nat) (positive : Bool) : u.limitGuards a positive = s.limitGuards a positive := by
  unfold State.limitGuards
  simp (disch := decide) only [h.getOn, h.onOn]

theorem axBlocked (a : Nat) : u.axBlocked a = s.axBlocked a := by
  unfold State.axBlocked
  rw [h.enabled, h.on (by decide), h.axState, h.gdState]

theorem targetRefused (a : Nat) (target : Int) : u.targetRefused a target = s.targetRefused a target := by
  unfold State.targetRefused
  simp (disch := decide) only [h.getIntOn, h.standsAt, h.edgeGuards, h.limitGuards]

theorem moveRefused (a : Nat) (target : Int) : u.moveRefused a target = s.moveRefused a target := by
  unfold State.moveRefused
  rw [h.homed, h.targetRefused]

theorem groupDeferred (a : Nat) : u.groupDeferred a = s.groupDeferred a := by
  unfold State.groupDeferred
  simp only [h.commit, h.groupOf]

theorem bridgeStaged (a : Nat) : u.bridgeStaged a = s.bridgeStaged a := by
  unfold State.bridgeStaged State.staged
  rw [h.commit]

theorem startDeferred (a kind : Nat) : u.startDeferred a kind = s.startDeferred a kind := by
  unfold State.startDeferred
  simp only [h.groupDeferred, h.bridgeStaged, h.members, h.groupOf]

theorem brakeOf (a : Nat) : u.brakeOf a = s.brakeOf a := by
  unfold State.brakeOf
  rw [h.getOn (by decide)]

theorem brakeWaits (a : Nat) : u.brakeWaits a = s.brakeWaits a := by
  unfold State.brakeWaits
  simp (disch := decide) only [h.brakeOf, h.saf, h.axis, h.now, h.getOn]

theorem motionPause : u.motionPause = s.motionPause := by
  unfold State.motionPause State.cycleRuns
  simp (disch := decide) only [h.get, h.mot, h.now]

theorem startWaits (a : Nat) : u.startWaits a = s.startWaits a := by
  unfold State.startWaits
  rw [h.axis, h.motionPause, h.brakeWaits]

theorem errorLarge (a : Nat) : u.errorLarge a = s.errorLarge a := by
  unfold State.errorLarge
  simp (disch := decide) only [h.hasEnc, h.getOn, h.getIntOn]

theorem causePersists (a : Nat) : u.causePersists a = s.causePersists a := by
  unfold State.causePersists
  simp (disch := decide) only [h.gdState, h.on, h.get, h.axis, h.edgeGuards, h.limitGuards, h.errorLarge]

end Alike

/-! ### Command words of the axes -/

theorem fitted_axis {s : State} (hM : s.hasM = true) {a : Nat} (ha : a < 6) : s.fitted (0x41 + a % 6) = true := by
  rw [fitted_motion (by omega), hM]
  interval_cases a <;> rfl

theorem regRow_axCmd {a : Nat} (ha : a < 6) : regRow (0x41 + a % 6) 0xE0 = some rAX_CMD := by
  interval_cases a <;> rfl

theorem command_axCmd (u : State) (l : Link) {a : Nat} (ha : a < 6) (v : Word) : u.command l (0x41 + a % 6) 0xE0 v = u.writeAxCmd a v := by
  interval_cases a <;> rfl

/-- A command to an axis on a link that takes it runs in a state like the one before, and its answer is the reply. -/
theorem axCmd_served {s : State} {l : Link} (h : s.takes l) (hM : s.hasM = true) {a : Nat} (ha : a < 6) (v : Word) :
    ∃ u, twin u s.refreshShown ∧ twin (s.hostWrite l (0x41 + a % 6) 0xE0 v) (u.writeAxCmd a v).1 ∧
      (∀ c, (u.writeAxCmd a v).2 = some c → Claims.refusedWith (s.hostWrite l (0x41 + a % 6) 0xE0 v) l c) ∧
      ((u.writeAxCmd a v).2 = none → Claims.granted (s.hostWrite l (0x41 + a % 6) 0xE0 v) l) := by
  obtain ⟨u, hu, ht, hrefused, hgranted⟩ := hostWrite_full h (0x41 + a % 6) 0xE0 v (fitted_axis hM ha) (regRow_axCmd ha) rfl (.inl rfl)
    (by omega) (by decide) (by decide) (by omega)
  rw [command_axCmd u l ha v] at ht hrefused hgranted
  exact ⟨u, hu, ht, hrefused, hgranted⟩

/-- A command to an axis that takes its effect. -/
theorem axCmd_granted {s : State} {l : Link} (h : s.takes l) (hM : s.hasM = true) {a : Nat} (ha : a < 6) (v : Word)
    {f : State → State} (hf : ∀ u, Alike u s → u.writeAxCmd a v = (f u, none)) :
    ∃ u, Alike u s ∧ Alike (s.hostWrite l (0x41 + a % 6) 0xE0 v) (f u) ∧ linksAside u s.refreshShown ∧
      linksAside (s.hostWrite l (0x41 + a % 6) 0xE0 v) (f u) ∧ Claims.granted (s.hostWrite l (0x41 + a % 6) 0xE0 v) l := by
  obtain ⟨u, hu, ht, -, hgranted⟩ := axCmd_served h hM ha v
  have halike := Alike.of_twin hu
  rw [hf u halike] at ht hgranted
  exact ⟨u, halike, .of_aside ht.1, hu.1, ht.1, hgranted rfl⟩

/-- A command to an axis that is turned away. -/
theorem axCmd_refused {s : State} {l : Link} (h : s.takes l) (hM : s.hasM = true) {a : Nat} (ha : a < 6) (v : Word)
    (hf : ∀ u, Alike u s → u.writeAxCmd a v = (u, some 0x0A)) :
    Claims.refusedWith (s.hostWrite l (0x41 + a % 6) 0xE0 v) l 0x0A ∧ linksAside (s.hostWrite l (0x41 + a % 6) 0xE0 v) s.refreshShown := by
  obtain ⟨u, hu, ht, hrefused, -⟩ := axCmd_served h hM ha v
  rw [hf u (.of_twin hu)] at ht hrefused
  exact ⟨hrefused 0x0A rfl, linksAside_trans ht.1 hu.1⟩

theorem writeAxCmd_move (u : State) (a : Nat) : u.writeAxCmd a 1 = u.move a := rfl
theorem writeAxCmd_home (u : State) (a : Nat) : u.writeAxCmd a 2 = u.home a := rfl
theorem writeAxCmd_stop (u : State) (a : Nat) : u.writeAxCmd a 3 = u.hostStop a := rfl
theorem writeAxCmd_clear (u : State) (a : Nat) : u.writeAxCmd a 4 = u.axisClear a := rfl

end Sys2Proof.Machine
end

section
/-! Commands to an axis: MOVE, HOME, STOP, CLEAR, and their refusals (O39). -/
set_option Elab.async false
namespace Sys2Proof.Machine
open Host

/-! ### Starts -/

/-- What a start that runs keeps for its axis. -/
def AxisSt.run (x : AxisSt) (kind now : Nat) (target : Int) : AxisSt := { x with
  pending := some ⟨kind, now, target⟩, staged := false, askedAt := some (x.askedAt.getD now), endedAt := none
  drive := if x.cycle.isSome then x.drive else 3 }

/-- Whether a start waits does not depend on a field that none of its conditions reads. -/
theorem startWaits_set {f : Fld} {a : Nat} (hthr : f.leaves F.TMP_THR_THROTTLE = true) (hpause : f.leaves F.TMP_CFG_PAUSE = true)
    (hbrk : f.leaves (F.AX_CFG_BRK.on a) = true) (htime : f.leaves (F.AX_TIMES_BRKT.on a) = true) (s : State) (v : Nat) :
    (s.set f v).startWaits a = s.startWaits a := by
  unfold State.startWaits State.motionPause State.cycleRuns State.brakeWaits State.brakeOf
  rw [State.get_set_leaves hthr, State.get_set_leaves hpause, State.get_set_leaves hbrk, State.get_set_leaves htime, axis_set, State.set_mot,
    State.set_now, State.set_saf]

theorem startWaits_set_ax {f : Fld} (hf : f.page = 0x41) (hbrk : f.leaves F.AX_CFG_BRK = true) (htime : f.leaves F.AX_TIMES_BRKT = true)
    (s : State) (a v : Nat) : (s.set (f.on a) v).startWaits a = s.startWaits a :=
  startWaits_set (leaves_ax_out hf (.inl (by decide)) a) (leaves_ax_out hf (.inl (by decide)) a) (leaves_ax hf rfl hbrk a)
    (leaves_ax hf rfl htime a) s v

section
variable {s : State} {a : Nat} (ha : a < 6) (hlen : s.mot.axes.length = 6) (hcycle : (s.axis a).cycle = none)
include ha hlen

theorem runStart_axis (kind : Nat) (target : Int) : (s.runStart a kind target).axis a = (s.axis a).run kind s.now target := by
  unfold State.runStart
  dsimp only
  split
  · rw [State.axis_onAxis, if_pos ⟨rfl, by omega⟩]
    rfl
  · unfold State.setAxState
    rw [axis_set, axis_setInt, State.axis_onAxis, if_pos ⟨rfl, by omega⟩]
    rfl

omit ha hlen in
include hcycle in
theorem runStart_state (kind : Nat) (target : Int) : (s.runStart a kind target).setpoint a = s.standsAt a ∧
    (s.runStart a kind target).axState a = if (s.runStart a kind target).startWaits a then 1 else if kind = 2 then 3 else 2 := by
  have heq : s.runStart a kind target = ((s.onAxis a fun x => x.run kind s.now target).setInt (F.AX_SETPT_VAL.on a) (s.standsAt a)).setAxState a
      (if (s.onAxis a fun x => x.run kind s.now target).startWaits a then 1 else if kind = 2 then 3 else 2) := by
    unfold State.runStart
    rw [hcycle]
    rfl
  have hwaits : (s.runStart a kind target).startWaits a = (s.onAxis a fun x => x.run kind s.now target).startWaits a := by
    rw [heq]
    exact (startWaits_set_ax rfl (by decide) (by decide) ..).trans (startWaits_set_ax rfl (by decide) (by decide) ..)
  refine ⟨?_, ?_⟩
  · rw [heq]
    refine (getInt_of_get (State.get_set_leaves (leaves_ax rfl rfl (by decide) a) _ _)).trans ?_
    have hr : -2147483648 ≤ s.standsAt a ∧ s.standsAt a < 2147483648 := by
      unfold State.standsAt
      split
      · exact getInt_range s rfl
      · exact getInt_range s rfl
    exact getInt_setInt_range rfl rfl _ hr.1 hr.2
  · rw [hwaits, heq]
    refine axState_setAxState _ a ?_
    split
    · decide
    · split <;> decide

end

/-! ### MOVE -/

theorem execMove_claim (l : Link) (a : Nat) (s : State) : Claims.move l a s := by
  intro h hshape hM ha hblocked hgroup hrefused hcycle hdeferred
  obtain ⟨-, hlen, -, -⟩ := hshape
  obtain ⟨u, hu, ht, -, -, hgranted⟩ := axCmd_granted (f := fun u => u.runStart a 1 (u.getInt (F.AX_TARGET_POS.on a))) h hM ha 1 fun u hu => by
    rw [writeAxCmd_move]
    unfold State.move State.acceptStart
    dsimp only
    rw [hu.axBlocked, hu.groupOf, hu.moveRefused, hu.getIntOn (by decide), hu.axis, hu.startDeferred, hblocked, hgroup, hrefused, hcycle,
      hdeferred]
    simp
  have htarget : u.getInt (F.AX_TARGET_POS.on a) = s.getInt (F.AX_TARGET_POS.on a) := hu.getIntOn (by decide) a
  have haxis := runStart_axis ha ((congrArg (fun m => m.axes.length) hu.mot).trans hlen) 1 (u.getInt (F.AX_TARGET_POS.on a))
  obtain ⟨hset, hstate⟩ := runStart_state ((congrArg AxisSt.cycle (hu.axis a)).trans hcycle) 1 (u.getInt (F.AX_TARGET_POS.on a))
  rw [hu.axis, hu.now, htarget, ← htarget] at haxis
  refine ⟨_, rfl, hgranted, ?_, ?_, ?_, ?_, ?_, ?_⟩
  · rw [ht.axis, haxis, htarget]; rfl
  · rw [ht.axis, haxis]; unfold AxisSt.run; rw [hcycle]; rfl
  · rw [ht.axis, haxis]; rfl
  · rw [ht.axState, ht.startWaits, hstate]; rfl
  · rw [ht.axis, haxis]; exact hcycle
  · rw [ht.setpoint, hset, hu.standsAt]

theorem acceptStart_staged {s : State} {a : Nat} (ha : a < 6) (hlen : s.mot.axes.length = 6) {kind : Nat} (hdeferred : s.startDeferred a kind = true)
    (hcycle : (s.axis a).cycle = none) (target : Int) :
    (s.acceptStart a kind target).axis a = { s.axis a with pending := some ⟨kind, s.now, target⟩, staged := true } ∧
      (s.acceptStart a kind target).axState a = 1 ∧ (s.acceptStart a kind target).setpoint a = s.setpoint a := by
  unfold State.acceptStart
  rw [if_pos hdeferred, hcycle]
  dsimp only [Option.isSome_none]
  refine ⟨?_, axState_setAxState _ a (by decide), getInt_of_get (State.get_set_leaves (leaves_ax rfl rfl (by decide) a) _ _)⟩
  show ((s.onAxis a _).set _ _).axis a = _
  rw [axis_set, State.axis_onAxis, if_pos ⟨rfl, by omega⟩]

theorem execMove_deferred_claim (l : Link) (a : Nat) (s : State) : Claims.moveDeferred l a s := by
  intro h hshape hM ha hblocked hgroup hrefused hcycle hdeferred
  obtain ⟨-, hlen, -, -⟩ := hshape
  obtain ⟨u, hu, ht, -, -, hgranted⟩ := axCmd_granted (f := fun u => u.acceptStart a 1 (u.getInt (F.AX_TARGET_POS.on a))) h hM ha 1 fun u hu => by
    rw [writeAxCmd_move]
    unfold State.move
    dsimp only
    rw [hu.axBlocked, hu.groupOf, hu.moveRefused, hu.getIntOn (by decide), hu.axis, hblocked, hgroup, hrefused, hcycle]
    simp
  obtain ⟨haxis, hstate, hset⟩ := acceptStart_staged ha ((congrArg (fun m => m.axes.length) hu.mot).trans hlen)
    ((hu.startDeferred a 1).trans hdeferred) ((congrArg AxisSt.cycle (hu.axis a)).trans hcycle) (u.getInt (F.AX_TARGET_POS.on a))
  refine ⟨_, rfl, hgranted, ?_, ?_, ?_, ?_, ?_⟩
  · rw [ht.axis, haxis, hu.now, hu.getIntOn (by decide)]
  · rw [ht.axis, haxis]
  · rw [ht.axState, hstate]
  · rw [ht.axis, haxis, hu.axis]
  · rw [ht.setpoint, hset, hu.setpoint]

theorem map_pos_goesOn (q : List Setpoint) : (q.map Setpoint.goesOn).map Setpoint.pos = q.map Setpoint.pos := by
  rw [List.map_map]; rfl

theorem last_goesOn {q : List Setpoint} : ∀ p ∈ q.map Setpoint.goesOn, p.last = false := by
  intro p hp
  obtain ⟨q, -, rfl⟩ := List.mem_map.mp hp
  rfl

theorem execMove_replans_claim (l : Link) (a : Nat) (c : Cycle) (s : State) : Claims.moveReplans l a c s := by
  intro h hshape hM ha hblocked hgroup hrefused hmoves hcycle
  obtain ⟨-, hlen, -, -⟩ := hshape
  obtain ⟨u, hu, ht, -, -, hgranted⟩ := axCmd_granted (f := fun u => u.replan a (u.getInt (F.AX_TARGET_POS.on a))) h hM ha 1 fun u hu => by
    rw [writeAxCmd_move]
    unfold State.move
    dsimp only
    rw [hu.axBlocked, hu.groupOf, hu.moveRefused, hu.getIntOn (by decide), hu.axis, hu.axState, hblocked, hgroup, hrefused, hcycle, hmoves]
    simp
  have hulen : u.mot.axes.length = 6 := (congrArg (fun m => m.axes.length) hu.mot).trans hlen
  have haxis : (s.hostWrite l (0x41 + a % 6) 0xE0 1).axis a = { s.axis a with
      queue := (s.axis a).queue.map Setpoint.goesOn
      cycle := some { c with
        target := s.getInt (F.AX_TARGET_POS.on a), origin := c.point.pos, v0 := c.point.vel, a0 := c.point.acc, ticks := 0
        landed := false, settle := 0, lim := s.limits a, dstop := (s.get (F.AX_DSTOP_VAL.on a) : Rat)
        plan := (planMove c.point.vel c.point.acc ((s.getInt (F.AX_TARGET_POS.on a) - c.point.pos : Int) : Rat) (s.limits a)) } } := by
    rw [ht.axis]
    unfold State.replan State.planOn
    rw [State.axis_onAxis, if_pos ⟨rfl, by omega⟩, hu.axis, hcycle, hu.limits, hu.getOn (by decide), hu.getIntOn (by decide)]
    rfl
  refine ⟨_, rfl, hgranted, ?_, ?_, ?_, ?_, ?_⟩
  · rw [ht.axState]; exact (hu.axState a).trans hmoves
  · rw [ht.setpoint]; exact hu.setpoint a
  · rw [haxis]; exact map_pos_goesOn _
  · rw [haxis]; exact last_goesOn
  · rw [haxis]

theorem execMove_refused_claim (l : Link) (a : Nat) (s : State) : Claims.moveRefused l a s := by
  intro h hM ha hwhy
  obtain ⟨hanswer, hlinks⟩ := axCmd_refused h hM ha 1 fun u hu => by
    rw [writeAxCmd_move]
    unfold State.move
    dsimp only
    rw [hu.axBlocked, hu.groupOf, hu.moveRefused, hu.getIntOn (by decide), if_pos]
    unfold State.moveRefused State.targetRefused State.axBlocked
    simp only [Bool.or_eq_true, Bool.and_eq_true, bne_iff_ne, beq_iff_eq, decide_eq_true_eq, Bool.not_eq_true']
    rcases hwhy with h | h | h | h | h | h | h | h | h | ⟨h, hg⟩
    · simp only [h, true_or]
    · simp only [h, true_or, or_true]
    · simp only [h, true_or, or_true]
    · simp only [h, true_or, or_true]
    · simp only [ne_eq, h, not_false_eq_true, true_or, or_true]
    · simp only [ne_eq, h, not_false_eq_true, true_or, or_true]
    · simp only [h, true_or, or_true]
    · simp only [h, true_or, or_true]
    · simp only [h, true_or, or_true]
    · exact .inr (.inr (.inr ⟨h, hg⟩))
  exact ⟨_, rfl, hanswer, hlinks⟩

/-! ### HOME -/

/-- A set-point whose position is counted from another home position. -/
def Setpoint.shifted (p : Setpoint) (shift : Int) : Setpoint := { p with pos := p.pos + shift }

/-- What is kept for an axis whose positions are renumbered. -/
def AxisSt.renumbered (x : AxisSt) (shift : Int) : AxisSt := { x with
  encOfs := x.encOfs + shift, held := x.held.shifted shift, queue := x.queue.map fun p => p.shifted shift
  cycle := x.cycle.map fun c => { c with
    origin := c.origin + shift, target := if c.kind = 2 then c.target else c.target + shift } }

/-- By how much the positions of an axis shift when the present one becomes AX_HOMEOFS (R341). -/
def State.homeShift (s : State) (a : Nat) : Int := s.getInt (F.AX_HOMEOFS_VAL.on a) - s.getInt (F.AX_POS_VAL.on a)

theorem takeHome_eq (s : State) (a : Nat) : s.takeHome a =
    (((((s.onAxis a fun x => x.renumbered (s.homeShift a)).setInt (F.AX_POS_VAL.on a) (s.getInt (F.AX_POS_VAL.on a) + s.homeShift a)).setInt
      (F.AX_SETPT_VAL.on a) (s.setpoint a + s.homeShift a)).setHomed a true).flag (F.AX_IFLAG_HOMED.on a)) := rfl

theorem axis_flag (s : State) (f : Fld) (b : Nat) : (s.flag f).axis b = s.axis b := axis_set s f 1 b

theorem takeHome_axis {s : State} {a : Nat} (h : a < s.mot.axes.length) : (s.takeHome a).axis a = (s.axis a).renumbered (s.homeShift a) := by
  rw [takeHome_eq, axis_flag, axis_setHomed, axis_setInt, axis_setInt, State.axis_onAxis, if_pos ⟨rfl, h⟩]

theorem takeHome_len (s : State) (a : Nat) : (s.takeHome a).mot.axes.length = s.mot.axes.length := by
  rw [takeHome_eq]
  unfold State.setHomed State.setOn State.setInt
  rw [State.flag_mot, State.set_mot, State.set_mot, State.set_mot, State.set_mot]
  exact onAxis_len ..

/-- A home position leaves the other fields of the axis. -/
theorem get_takeHome {f : Fld} (hf : f.page = 0x41) (hpos : Fld.leaves F.AX_POS_VAL f = true) (hset : Fld.leaves F.AX_SETPT_VAL f = true)
    (hhomed : Fld.leaves F.AX_STAT_HOMED f = true) (hflag : Fld.leaves F.AX_IFLAG_HOMED f = true) (s : State) (a : Nat) :
    (s.takeHome a).get (f.on a) = s.get (f.on a) := by
  rw [takeHome_eq, State.get_flag_leaves (leaves_ax rfl hf hflag a),
    get_setHomed (leaves_ax rfl hf hhomed a) (leaves_out_ax (.inl (by decide)) hf a)]
  exact (State.get_set_leaves (leaves_ax rfl hf hset a) _ _).trans (State.get_set_leaves (leaves_ax rfl hf hpos a) _ _)

theorem takeHome_words (s : State) (a : Nat) : (s.takeHome a).homed a = true ∧
    (s.takeHome a).getInt (F.AX_POS_VAL.on a) = s.getInt (F.AX_HOMEOFS_VAL.on a) ∧
    (s.takeHome a).setpoint a = (BitVec.ofInt 32 (s.setpoint a + s.homeShift a)).toInt ∧
    (s.takeHome a).on (F.AX_IFLAG_HOMED.on a) = true := by
  have hflag : ∀ f : Fld, f.page = 0x41 → Fld.leaves F.AX_IFLAG_HOMED f = true → Fld.leaves F.AX_STAT_HOMED f = true →
      (s.takeHome a).getInt (f.on a) = (((s.onAxis a fun x => x.renumbered (s.homeShift a)).setInt (F.AX_POS_VAL.on a)
        (s.getInt (F.AX_POS_VAL.on a) + s.homeShift a)).setInt (F.AX_SETPT_VAL.on a) (s.setpoint a + s.homeShift a)).getInt (f.on a) :=
    fun f hf h h' => by
      rw [takeHome_eq]
      exact getInt_of_get ((State.get_flag_leaves (leaves_ax rfl hf h a) _).trans
        (get_setHomed (leaves_ax rfl hf h' a) (leaves_out_ax (.inl (by decide)) hf a) _ _))
  refine ⟨?_, ?_, ?_, ?_⟩
  · rw [takeHome_eq]
    exact (State.on_flag_leaves (leaves_ax rfl rfl (by decide) a) _).trans (homed_setHomed ..)
  · rw [hflag F.AX_POS_VAL rfl (by decide) (by decide), getInt_setInt_leaves (leaves_ax rfl rfl (by decide) a)]
    have hr := getInt_range s (f := F.AX_HOMEOFS_VAL.on a) rfl
    have hsum : s.getInt (F.AX_POS_VAL.on a) + s.homeShift a = s.getInt (F.AX_HOMEOFS_VAL.on a) := by
      unfold State.homeShift
      omega
    rw [hsum]
    exact getInt_setInt_range rfl rfl _ hr.1 hr.2
  · unfold State.setpoint
    rw [hflag F.AX_SETPT_VAL rfl (by decide) (by decide)]
    exact getInt_setInt rfl rfl _ _
  · rw [takeHome_eq]
    exact State.on_flag_okay (f := F.AX_IFLAG_HOMED.on a) rfl _

/-- HOME by method 5. -/
theorem axCmd_home {s : State} {l : Link} (h : s.takes l) (hM : s.hasM = true) {a : Nat} (ha : a < 6) (hblocked : s.axBlocked a = false)
    (hmethod : s.get (F.AX_HOME_METHOD.on a) = 5) :
    ∃ u, Alike u s ∧ Alike (s.hostWrite l (0x41 + a % 6) 0xE0 2) (u.takeHome a) ∧
      Claims.granted (s.hostWrite l (0x41 + a % 6) 0xE0 2) l := by
  obtain ⟨u, hu, ht, -, -, hgranted⟩ := axCmd_granted (f := fun u => u.takeHome a) h hM ha 2 fun u hu => by
    rw [writeAxCmd_home]
    unfold State.home
    dsimp only
    rw [hu.getOn (by decide), hmethod, hu.axBlocked, hblocked]
    rfl
  exact ⟨u, hu, ht, hgranted⟩

theorem homeShift_of_alike {u s : State} (h : Alike u s) (a : Nat) : u.homeShift a = s.homeShift a := by
  unfold State.homeShift
  rw [h.getIntOn (by decide), h.getIntOn (by decide)]

theorem execHome_claim (l : Link) (a : Nat) (s : State) : Claims.home l a s := by
  intro h hshape hM ha hblocked henc hguards hcycle hdeferred
  obtain ⟨-, hlen, -, -⟩ := hshape
  by_cases hmethod : s.get (F.AX_HOME_METHOD.on a) = 5
  · obtain ⟨u, hu, ht, hgranted⟩ := axCmd_home h hM ha hblocked hmethod
    obtain ⟨hhomed, hpos, hset, hflag⟩ := takeHome_words u a
    refine ⟨_, rfl, hgranted, fun _ => ⟨?_, ?_, ?_, ?_, ?_⟩, fun hne => absurd hmethod hne⟩
    · rw [ht.homed, hhomed]
    · rw [ht.getIntOn (by decide), hpos, hu.getIntOn (by decide)]
    · rw [ht.setpoint, hset, hu.setpoint, homeShift_of_alike hu]; rfl
    · rw [ht.onOn (by decide), hflag]
    · rw [ht.axis, takeHome_axis (by rw [hu.mot]; omega), hu.axis]; rfl
  · obtain ⟨hedge, hlimit⟩ := hguards hmethod
    obtain ⟨u, hu, ht, -, -, hgranted⟩ := axCmd_granted (f := fun u => u.runStart a 2 (u.getInt (F.AX_HOMEOFS_VAL.on a))) h hM ha 2 fun u hu => by
      rw [writeAxCmd_home]
      unfold State.home State.acceptStart
      dsimp only
      rw [hu.getOn (f := F.AX_HOME_METHOD) (by decide), hu.axBlocked, hblocked, if_neg hmethod, hu.edgeGuards, hu.limitGuards, hedge, hlimit,
        hu.hasEnc, hu.startDeferred, hdeferred]
      have hthird : (s.get (F.AX_HOME_METHOD.on a) == 3 && !s.hasEnc a) = false := by
        by_cases h3 : s.get (F.AX_HOME_METHOD.on a) = 3
        · rw [henc h3, Bool.not_true, Bool.and_false]
        · rw [beq_false_of_ne h3, Bool.false_and]
      rw [hthird]
      rfl
    have haxis := runStart_axis ha ((congrArg (fun m => m.axes.length) hu.mot).trans hlen) 2 (u.getInt (F.AX_HOMEOFS_VAL.on a))
    obtain ⟨-, hstate⟩ := runStart_state ((congrArg AxisSt.cycle (hu.axis a)).trans hcycle) 2 (u.getInt (F.AX_HOMEOFS_VAL.on a))
    rw [hu.axis, hu.now] at haxis
    refine ⟨_, rfl, hgranted, fun he => absurd he hmethod, fun _ => ⟨?_, ?_, ?_⟩⟩
    · rw [ht.axis, haxis, hu.getIntOn (by decide)]; rfl
    · rw [ht.axis, haxis]; unfold AxisSt.run; rw [hcycle]; rfl
    · rw [ht.axState, ht.startWaits, hstate]; rfl

theorem execHome_inMotion_claim (l : Link) (a : Nat) (c : Cycle) (s : State) : Claims.homeInMotion l a c s := by
  intro h hshape hM ha hblocked hmethod hcycle hkind
  obtain ⟨-, hlen, -, -⟩ := hshape
  obtain ⟨u, hu, ht, hgranted⟩ := axCmd_home h hM ha hblocked hmethod
  obtain ⟨hhomed, hpos, -, -⟩ := takeHome_words u a
  have haxis : (s.hostWrite l (0x41 + a % 6) 0xE0 2).axis a = (s.axis a).renumbered (s.homeShift a) := by
    rw [ht.axis, takeHome_axis (by rw [hu.mot]; omega), hu.axis, homeShift_of_alike hu]
  refine ⟨_, rfl, hgranted, ?_, ?_, ?_, ?_⟩
  · rw [ht.homed, hhomed]
  · rw [ht.getIntOn (by decide), hpos, hu.getIntOn (by decide)]
  · rw [haxis]
    unfold AxisSt.renumbered
    rw [hcycle]
    simp only [Option.map_some, if_neg hkind]
    rfl
  · rw [haxis]
    unfold AxisSt.renumbered
    rw [List.map_map]
    rfl

theorem execHome_refused_claim (l : Link) (a : Nat) (s : State) : Claims.homeRefused l a s := by
  intro h hM ha hwhy
  obtain ⟨hanswer, hlinks⟩ := axCmd_refused h hM ha 2 fun u hu => by
    rw [writeAxCmd_home]
    unfold State.home
    dsimp only
    rw [hu.getOn (f := F.AX_HOME_METHOD) (by decide), hu.axBlocked, hu.edgeGuards, hu.limitGuards, hu.hasEnc]
    have hblocked : (s.axBlocked a || (s.get (F.AX_HOME_METHOD.on a) == 3 && !s.hasEnc a)) = true ∨
        (s.get (F.AX_HOME_METHOD.on a) ≠ 5 ∧ (s.edgeGuards a (homePositive (s.get (F.AX_HOME_METHOD.on a))) ||
          s.limitGuards a (homePositive (s.get (F.AX_HOME_METHOD.on a)))) = true) := by
      unfold State.axBlocked
      simp only [Bool.or_eq_true, Bool.and_eq_true, bne_iff_ne, beq_iff_eq, Bool.not_eq_true']
      rcases hwhy with h | h | h | h | h | h | h
      · simp only [h, true_or]
      · simp only [h, true_or, or_true]
      · simp only [h, true_or, or_true]
      · simp only [h, true_or, or_true]
      · simp only [ne_eq, h, not_false_eq_true, true_or, or_true]
      · exact .inl (.inr h)
      · exact .inr h
    by_cases hrow : (s.axBlocked a || (s.get (F.AX_HOME_METHOD.on a) == 3 && !s.hasEnc a)) = true
    · rw [if_pos hrow]
    · obtain ⟨hmethod, hguard⟩ := hblocked.resolve_left hrow
      rw [if_neg hrow, if_neg hmethod, if_pos hguard]
  exact ⟨_, rfl, hanswer, hlinks⟩

/-! ### STOP -/

theorem execAxisStop_claim (l : Link) (a : Nat) (c : Cycle) (s : State) : Claims.axisStop l a c s := by
  intro h hshape hM ha hcycle hkind hstop
  obtain ⟨-, hlen, -, -⟩ := hshape
  obtain ⟨u, hu, ht, -, -, hgranted⟩ := axCmd_granted (f := fun u => u.stopWith a 9 true c.lim.d c.lim.j) h hM ha 3 fun u hu => by
    have hcu : (u.axis a).cycle = some c := (congrArg AxisSt.cycle (hu.axis a)).trans hcycle
    rw [writeAxCmd_stop]
    unfold State.hostStop
    rw [hcu, stopAxis_alone hcu (by rw [hstop]; decide) hkind]
    rfl
  have hulen : u.mot.axes.length = 6 := (congrArg (fun m => m.axes.length) hu.mot).trans hlen
  have hset : (u.stopWith a 9 true c.lim.d c.lim.j).setpoint a = u.setpoint a := by
    rw [stopWith_eq, if_pos (by decide)]
    exact getInt_of_get (State.get_set_leaves (leaves_ax rfl rfl (by decide) a) _ _)
  have haxis := stopWith_axis hulen ha 9 true c.lim.d c.lim.j
  refine ⟨_, rfl, hgranted, ?_, ?_, ?_, ?_⟩
  · rw [ht.axState, stopWith_axState]
  · rw [ht.setpoint, hset, hu.setpoint]
  · obtain ⟨held, phase, hax⟩ := haxis
    rw [ht.axis, hax, ← hu.axis]
    exact map_pos_goesOn _
  · rw [ht.axis, stopWith_cycle hulen ha, hu.axis, hcycle]
    rfl

theorem dropPending_own {s : State} {a : Nat} (ha : a < 6) (hlen : s.mot.axes.length = 6) {p : PendingStart} (hp : (s.axis a).pending = some p)
    (hkind : p.kind ≠ 3) (hcycle : (s.axis a).cycle = none) (rank : Nat) :
    ((s.dropPending a rank).axis a).pending = none ∧ ((s.dropPending a rank).axis a).cycle = none ∧
      (s.dropPending a rank).axState a = if rank = 9 then 0 else 5 := by
  have htarget : s.groupTarget a = none := by
    unfold State.groupTarget
    rw [hp]
    exact if_neg hkind
  unfold State.dropPending State.dropStart
  rw [htarget, hcycle]
  simp only [Option.isSome_none, Bool.false_eq_true, if_false]
  refine ⟨?_, ?_, axState_setAxState _ a (by split <;> decide)⟩
  · unfold State.setAxState
    rw [axis_set, State.axis_onAxis, if_pos ⟨rfl, by omega⟩]
  · unfold State.setAxState
    rw [axis_set, State.axis_onAxis, if_pos ⟨rfl, by omega⟩]
    exact hcycle

theorem execAxisStop_waiting_claim (l : Link) (a : Nat) (p : PendingStart) (s : State) : Claims.axisStopWaiting l a p s := by
  intro h hshape hM ha hcycle hpending hkind
  obtain ⟨-, hlen, -, -⟩ := hshape
  obtain ⟨u, hu, ht, -, -, hgranted⟩ := axCmd_granted (f := fun u => u.dropPending a 9) h hM ha 3 fun u hu => by
    have hpu : (u.axis a).pending.isSome = true := by rw [hu.axis, hpending]; rfl
    rw [writeAxCmd_stop]
    unfold State.hostStop
    rw [hpu, Bool.or_true, if_pos rfl, stopAxis_waiting ((congrArg AxisSt.cycle (hu.axis a)).trans hcycle) hpu]
  obtain ⟨hdropped, -, hstate⟩ := dropPending_own ha ((congrArg (fun m => m.axes.length) hu.mot).trans hlen)
    ((congrArg AxisSt.pending (hu.axis a)).trans hpending) hkind ((congrArg AxisSt.cycle (hu.axis a)).trans hcycle) 9
  exact ⟨_, rfl, hgranted, by rw [ht.axis, hdropped], by rw [ht.axState, hstate]; rfl⟩

theorem execAxisStop_atRest_claim (l : Link) (a : Nat) (s : State) : Claims.axisStopAtRest l a s := by
  intro h hM ha hcycle hpending
  obtain ⟨u, -, -, hu, ht, hgranted⟩ := axCmd_granted (f := id) h hM ha 3 fun u hu => by
    rw [writeAxCmd_stop]
    unfold State.hostStop
    rw [hu.axis, hcycle, hpending]
    rfl
  exact ⟨_, rfl, hgranted, linksAside_trans ht hu⟩

/-! ### CLEAR -/

theorem linksAside_onAxis {u s : State} (h : linksAside u s) (a : Nat) (f : AxisSt → AxisSt) : linksAside (u.onAxis a f) (s.onAxis a f) := by
  unfold linksAside at h
  generalize u.links = k at h
  subst h
  rfl

theorem linksAside_set {u s : State} (h : linksAside u s) (f : Fld) (v : Nat) : linksAside (u.set f v) (s.set f v) := by
  unfold State.set
  rw [reg_of_linksAside h]
  exact linksAside_put h _ _

theorem execAxisClear_claim (l : Link) (a : Nat) (s : State) : Claims.axisClear l a s := by
  intro h hM ha hstate hpersists
  have hsafe : s.on F.SAF_STAT_SAFESTOP = false := by
    unfold State.causePersists at hpersists
    simp only [Bool.or_eq_false_iff] at hpersists
    exact hpersists.1.1.1.2
  obtain ⟨u, -, -, hu, ht, hgranted⟩ := axCmd_granted (f := fun u => (u.onAxis a fun x => { x with cause := none }).setAxState a 0) h hM ha 4
    fun u hu => by
      rw [writeAxCmd_clear]
      unfold State.axisClear
      rw [hu.on (f := F.SAF_STAT_SAFESTOP) (by decide), hu.axState, hu.causePersists, hsafe, hpersists, if_neg (by decide),
        if_neg (fun hne => hne hstate), if_neg (by decide)]
  exact ⟨_, rfl, hgranted, linksAside_trans ht (linksAside_set (linksAside_onAxis hu a _) _ _)⟩

theorem errorLarge_iff {s : State} {a : Nat} (h : s.hasEnc a = true) (he : s.get (F.AX_FERR_UNITS.on a) < (s.getInt (F.AX_FERRNOW_VAL.on a)).natAbs) :
    s.errorLarge a = true := by
  unfold State.errorLarge
  rw [h, Bool.true_and]
  unfold absInt
  exact decide_eq_true (by omega)

theorem execAxisClear_refused_claim (l : Link) (a : Nat) (s : State) : Claims.axisClearRefused l a s := by
  intro h hM ha hwhy
  have hcause : s.on F.SAF_STAT_SAFESTOP = true ∨ (s.axState a = 5 ∧ s.causePersists a = true) := by
    refine hwhy.imp_right fun hw => ⟨hw.1, ?_⟩
    unfold State.causePersists
    simp only [Bool.or_eq_true, bne_iff_ne, Bool.not_eq_true']
    rcases hw.2 with h | h | h | h | ⟨h, hg⟩ | ⟨h, hg⟩ | ⟨h, hg⟩
    · simp only [ne_eq, h, not_false_eq_true, true_or]
    · simp only [h, true_or, or_true]
    · simp only [ne_eq, h, not_false_eq_true, true_or, or_true]
    · simp only [h, true_or, or_true]
    · rw [h]
      exact .inr (Bool.or_eq_true_iff.mpr hg)
    · rw [h]
      exact .inr (errorLarge_iff hg.1 hg.2)
    · rw [h]
      exact .inr (Bool.or_eq_true_iff.mpr hg)
  obtain ⟨hanswer, hlinks⟩ := axCmd_refused h hM ha 4 fun u hu => by
    rw [writeAxCmd_clear]
    unfold State.axisClear
    rw [hu.on (f := F.SAF_STAT_SAFESTOP) (by decide), hu.axState, hu.causePersists]
    by_cases hsafe : s.on F.SAF_STAT_SAFESTOP = true
    · rw [if_pos hsafe]
    · obtain ⟨hstate, hpersists⟩ := hcause.resolve_left hsafe
      rw [if_neg hsafe, if_neg (fun hne => hne hstate), if_pos hpersists]
  exact ⟨_, rfl, hanswer, hlinks⟩

end Sys2Proof.Machine

/-- Settles O39: every command runs in a state like the one before the request, where the rules of the axes decide it; what follows of the
axis is read off its kept part and its words. -/
theorem axisCommands : Obligations.AxisCommands :=
  ⟨Sys2Proof.Machine.execMove_claim, Sys2Proof.Machine.execMove_deferred_claim, Sys2Proof.Machine.execMove_replans_claim,
    Sys2Proof.Machine.execMove_refused_claim, Sys2Proof.Machine.execHome_claim, Sys2Proof.Machine.execHome_refused_claim,
    Sys2Proof.Machine.execAxisStop_claim, Sys2Proof.Machine.execAxisStop_waiting_claim, Sys2Proof.Machine.execAxisStop_atRest_claim,
    Sys2Proof.Machine.execAxisClear_claim, Sys2Proof.Machine.execAxisClear_refused_claim, Sys2Proof.Machine.execHome_inMotion_claim⟩
end

section
/-! Groups of axes and the stop of all axes (O40). -/
set_option Elab.async false
namespace Sys2Proof.Machine
open Host

/-! ### The command word of the groups -/

theorem checkWrite_motCmd {op g : Nat} (hop : op = 0x10000000 ∨ op = 0x20000000 ∨ op = 0x30000000) (hg : g < 4) :
    checkWrite rMOT_CMD.rows 0 (BitVec.ofNat 32 (op + g)) = (BitVec.ofNat 32 (op + g), []) := by
  rcases hop with rfl | rfl | rfl
  · interval_cases g <;> rfl
  · interval_cases g <;> rfl
  · interval_cases g <;> rfl

theorem fitted_mot {s : State} (hM : s.hasM = true) : s.fitted 0x40 = true := by
  rw [fitted_motion (by omega), hM]
  rfl

theorem command_motCmd (u : State) (l : Link) (v : Word) : u.command l 0x40 0xE0 v = u.writeMotCmd v := rfl

section
variable {s : State} {l : Link} (h : s.takes l) (hM : s.hasM = true) {op g : Nat}
  (hop : op = 0x10000000 ∨ op = 0x20000000 ∨ op = 0x30000000) (hg : g < 4)
include h hM hop hg

/-- A command to the groups runs in a state like the one before, and its answer is the reply. -/
theorem motCmd_served : ∃ u, twin u s.refreshShown ∧
      twin (s.hostWrite l 0x40 0xE0 (BitVec.ofNat 32 (op + g))) (u.writeMotCmd (BitVec.ofNat 32 (op + g))).1 ∧
      (∀ c, (u.writeMotCmd (BitVec.ofNat 32 (op + g))).2 = some c → Claims.refusedWith (s.hostWrite l 0x40 0xE0 (BitVec.ofNat 32 (op + g))) l c) ∧
      ((u.writeMotCmd (BitVec.ofNat 32 (op + g))).2 = none → Claims.granted (s.hostWrite l 0x40 0xE0 (BitVec.ofNat 32 (op + g))) l) := by
  have hcheck := checkWrite_motCmd hop hg
  generalize BitVec.ofNat 32 (op + g) = v at *
  exact hostWrite_row h v rMOT_CMD (fitted_mot hM) (by decide) (by decide) (by decide) (by decide) rfl rfl rfl hcheck

theorem motCmd_granted {f : State → State} (hf : ∀ u, Alike u s → u.writeMotCmd (BitVec.ofNat 32 (op + g)) = (f u, none)) :
    ∃ u, Alike u s ∧ Alike (s.hostWrite l 0x40 0xE0 (BitVec.ofNat 32 (op + g))) (f u) ∧
      Claims.granted (s.hostWrite l 0x40 0xE0 (BitVec.ofNat 32 (op + g))) l := by
  obtain ⟨u, hu, ht, -, hgranted⟩ := motCmd_served h hM hop hg
  have halike := Alike.of_twin hu
  rw [hf u halike] at ht hgranted
  exact ⟨u, halike, .of_aside ht.1, hgranted rfl⟩

theorem motCmd_refused (hf : ∀ u, Alike u s → u.writeMotCmd (BitVec.ofNat 32 (op + g)) = (u, some 0x0A)) :
    Claims.refusedWith (s.hostWrite l 0x40 0xE0 (BitVec.ofNat 32 (op + g))) l 0x0A ∧
      linksAside (s.hostWrite l 0x40 0xE0 (BitVec.ofNat 32 (op + g))) s.refreshShown := by
  obtain ⟨u, hu, ht, hrefused, -⟩ := motCmd_served h hM hop hg
  rw [hf u (.of_twin hu)] at ht hrefused
  exact ⟨hrefused 0x0A rfl, linksAside_trans ht.1 hu.1⟩
end

theorem writeMotCmd_start {g : Nat} (hg : g < 4) (u : State) : u.writeMotCmd (BitVec.ofNat 32 (0x10000000 + g)) = u.groupStart g := by
  interval_cases g <;> rfl

/-- What a STOP of a group or of all axes does to each axis. -/
def State.stopEach (s : State) (l : List Nat) : State := l.foldl (fun s a => (s.hostStop a).1) s

theorem writeMotCmd_stop {g : Nat} (hg : g < 4) (u : State) : u.writeMotCmd (BitVec.ofNat 32 (0x20000000 + g)) =
    if g = 0 then (u, some 0x0A) else (u.stopEach (u.members g), none) := by
  interval_cases g <;> rfl

theorem writeMotCmd_stopAll (u : State) : u.writeMotCmd (BitVec.ofNat 32 (0x30000000 + 0)) = (u.stopEach axisList, none) := rfl

/-! ### START of a group -/

/-- Axis `b` is left as it was, with what decides whether a start is deferred. -/
structure Untouched (b : Nat) (s t : State) : Prop where
  axis : t.axis b = s.axis b
  get : ∀ f : Fld, f.page = 0x41 → t.get (f.on b) = s.get (f.on b)
  len : t.mot.axes.length = s.mot.axes.length
  now : t.now = s.now
  commit : t.commit = s.commit
  group : t.get F.MOT_GROUP_GRP = s.get F.MOT_GROUP_GRP

namespace Untouched
variable {a b : Nat} {s t u : State}

theorem refl (b : Nat) (s : State) : Untouched b s s := ⟨rfl, fun _ _ => rfl, rfl, rfl, rfl, rfl⟩

theorem trans (h : Untouched b s t) (h' : Untouched b t u) : Untouched b s u :=
  ⟨h'.axis.trans h.axis, fun f hf => (h'.get f hf).trans (h.get f hf), h'.len.trans h.len, h'.now.trans h.now, h'.commit.trans h.commit,
    h'.group.trans h.group⟩

theorem setpoint (h : Untouched b s t) : t.setpoint b = s.setpoint b := getInt_of_get (h.get F.AX_SETPT_VAL rfl)
theorem axState (h : Untouched b s t) : t.axState b = s.axState b := h.get F.AX_STAT_STATE rfl

theorem standsAt (h : Untouched b s t) : t.standsAt b = s.standsAt b := by
  unfold State.standsAt State.hasEnc State.on
  rw [h.get F.AX_CFG_ENC rfl, h.axis, h.setpoint, getInt_of_get (h.get F.AX_POS_VAL rfl)]

theorem startDeferred (h : Untouched b s t) (kind : Nat) : t.startDeferred a kind = s.startDeferred a kind := by
  have hgroup : t.groupOf = s.groupOf := by
    funext x
    unfold State.groupOf
    rw [h.group]
  unfold State.startDeferred State.groupDeferred State.bridgeStaged State.staged State.members
  simp only [h.commit, hgroup]

theorem of_onAxis (hab : a ≠ b) (s : State) (f : AxisSt → AxisSt) : Untouched b s (s.onAxis a f) :=
  ⟨by rw [State.axis_onAxis, if_neg fun h => hab h.1], fun _ _ => rfl, onAxis_len .., rfl, rfl, rfl⟩

theorem of_set {f : Fld} (h : ∀ g : Fld, g.page = 0x41 → f.leaves (g.on b) = true) (hgroup : f.leaves F.MOT_GROUP_GRP = true) (s : State)
    (v : Nat) : Untouched b s (s.set f v) :=
  ⟨axis_set .., fun g hg => State.get_set_leaves (h g hg) s v, by rw [State.set_mot], State.set_now .., State.set_commit ..,
    State.get_set_leaves hgroup s v⟩

theorem of_set_ax {f : Fld} (hf : f.page = 0x41) (ha : a < 6) (hb : b < 6) (hab : a ≠ b) (s : State) (v : Nat) :
    Untouched b s (s.set (f.on a) v) :=
  of_set (fun _ hg => leaves_ax_other hf hg ha hb hab) (leaves_ax_out hf (.inl (by decide)) a) s v

theorem of_setMoving (s : State) (v : Bool) : Untouched b s (s.setMoving a v) :=
  of_set (fun _ hg => leaves_out_ax (.inl (by decide)) hg b) (by decide) s _

theorem of_acceptStart (ha : a < 6) (hb : b < 6) (hab : a ≠ b) (s : State) (kind : Nat) (target : Int) :
    Untouched b s (s.acceptStart a kind target) := by
  unfold State.acceptStart State.runStart
  dsimp only
  by_cases hcycle : (s.axis a).cycle.isSome = true
  · simp only [hcycle, if_true]
    split
    · exact of_onAxis hab ..
    · exact of_onAxis hab ..
  · simp only [hcycle, Bool.false_eq_true, if_false]
    split
    · exact (of_onAxis hab ..).trans (of_set_ax rfl ha hb hab ..)
    · exact (of_onAxis hab ..).trans ((of_set_ax rfl ha hb hab ..).trans (of_set_ax rfl ha hb hab ..))

theorem of_startCycle (ha : a < 6) (hb : b < 6) (hab : a ≠ b) (s : State) (c : Cycle) : Untouched b s (s.startCycle a c) :=
  (of_onAxis hab ..).trans ((of_setMoving ..).trans (of_set_ax rfl ha hb hab ..))

end Untouched

/-- What START does: every member of a list starts for the target it has. -/
def State.startEach (s : State) (l : List Nat) : State :=
  l.foldl (fun s a => s.acceptStart a 3 (s.getInt (F.AX_TARGET_POS.on a))) s

theorem untouched_startEach {b : Nat} (hb : b < 6) (s : State) {l : List Nat} (hl : ∀ m ∈ l, m < 6) (h : b ∉ l) :
    Untouched b s (s.startEach l) :=
  foldl_keeps_of_mem (Untouched b s) l (fun _ m hm ht => ht.trans (.of_acceptStart (hl m hm) hb (fun e => h (e ▸ hm)) ..)) (.refl b s)

/-- A member that starts waits or moves from its own accepted start. -/
theorem startEach_member {b : Nat} (hb : b < 6) {s : State} (hlen : s.mot.axes.length = 6) {l : List Nat} (hl : ∀ m ∈ l, m < 6)
    (hnd : l.Nodup) (hbl : b ∈ l) (hcycle : (s.axis b).cycle = none) (hdeferred : s.startDeferred b 3 = false) :
    (s.startEach l).axis b = (s.axis b).run 3 s.now (s.getInt (F.AX_TARGET_POS.on b)) ∧
      ((s.startEach l).axState b = 1 ∨ (s.startEach l).axState b = 2) := by
  refine foldl_once (b := b) (I := Untouched b s)
    (J := fun t => t.axis b = (s.axis b).run 3 s.now (s.getInt (F.AX_TARGET_POS.on b)) ∧ (t.axState b = 1 ∨ t.axState b = 2))
    l hnd hbl (fun t m hm hmb ht => ht.trans (.of_acceptStart (hl m hm) hb hmb ..)) (fun t ht => ?_) (fun t m hm hmb ht => ?_) (.refl b s)
  · have hstart : t.acceptStart b 3 (t.getInt (F.AX_TARGET_POS.on b)) = t.runStart b 3 (t.getInt (F.AX_TARGET_POS.on b)) :=
      if_neg (by rw [ht.startDeferred, hdeferred]; decide)
    obtain ⟨-, hstate⟩ := runStart_state ((congrArg AxisSt.cycle ht.axis).trans hcycle) 3 (t.getInt (F.AX_TARGET_POS.on b))
    rw [hstart]
    refine ⟨?_, ?_⟩
    · rw [runStart_axis hb (ht.len.trans hlen), ht.axis, ht.now, getInt_of_get (ht.get F.AX_TARGET_POS rfl)]
    · rw [hstate]
      split
      · exact .inl rfl
      · exact .inr rfl
  · obtain ⟨haxis, hstate⟩ := ht
    have hu : Untouched b t (t.acceptStart m 3 (t.getInt (F.AX_TARGET_POS.on m))) := .of_acceptStart (hl m hm) hb hmb ..
    exact ⟨hu.axis.trans haxis, by rw [hu.axState]; exact hstate⟩

/-- The members of a group that have a distance to go. -/
def State.goers (s : State) (g : Nat) : List Nat := (s.members g).filter fun a => s.getInt (F.AX_TARGET_POS.on a) != s.standsAt a

/-- Why START of a group is refused. -/
def State.groupTurned (s : State) (g : Nat) : Bool :=
  !s.enabled 0x40 || g == 0 || (s.members g).isEmpty || (s.members g).any (fun a => s.axBlocked a || s.axState a != 0) ||
    (s.goers g).any (fun a => s.targetRefused a (s.getInt (F.AX_TARGET_POS.on a)))

theorem groupStart_eq (s : State) (g : Nat) : s.groupStart g =
    if s.groupTurned g then (s, some 0x0A) else (s.startEach (s.goers g), none) := rfl

theorem Alike.goers {u s : State} (h : Alike u s) (g : Nat) : u.goers g = s.goers g := by
  unfold State.goers
  simp (disch := decide) only [h.members, h.getIntOn, h.standsAt]

theorem Alike.groupTurned {u s : State} (h : Alike u s) (g : Nat) : u.groupTurned g = s.groupTurned g := by
  unfold State.groupTurned
  simp (disch := decide) only [h.enabled, h.members, h.goers, h.axBlocked, h.axState, h.targetRefused, h.getIntOn]

theorem execGroupStart_claim (l : Link) (g a : Nat) (s : State) : Claims.groupStart l g a s := by
  intro h hshape hM hg1 hg hen ha hall hdeferred
  obtain ⟨-, hlen, -, -⟩ := hshape
  have hmember : ∀ m ∈ s.members g, (s.axBlocked m = false ∧ s.axState m = 0) ∧ (s.axis m).cycle = none ∧
      (s.getInt (F.AX_TARGET_POS.on m) = s.standsAt m ∨ s.targetRefused m (s.getInt (F.AX_TARGET_POS.on m)) = false) := fun m hm => by
    have hm' := List.all_eq_true.mp hall m hm
    simp only [Bool.and_eq_true, Bool.or_eq_true, Bool.not_eq_true', beq_iff_eq, Option.isNone_iff_eq_none] at hm'
    exact ⟨hm'.1.1, hm'.1.2, hm'.2⟩
  have hopen : s.groupTurned g = false := by
    unfold State.groupTurned
    have hnil : (s.members g).isEmpty = false := List.isEmpty_eq_false_iff.mpr (List.ne_nil_of_mem ha)
    have hblocked : ((s.members g).any fun a => s.axBlocked a || s.axState a != 0) = false := by
      rw [List.any_eq_false]
      intro m hm
      obtain ⟨⟨hb, hz⟩, -⟩ := hmember m hm
      rw [hb, hz]
      decide
    have htarget : ((s.goers g).any fun a => s.targetRefused a (s.getInt (F.AX_TARGET_POS.on a))) = false := by
      rw [List.any_eq_false]
      intro m hm
      obtain ⟨hm, hgoes⟩ := List.mem_filter.mp hm
      rw [((hmember m hm).2.2).resolve_left (bne_iff_ne.mp hgoes)]
      decide
    rw [hen, hnil, hblocked, htarget, beq_false_of_ne (by omega)]
    rfl
  obtain ⟨u, hu, ht, hgranted⟩ := motCmd_granted (f := fun u => u.startEach (u.goers g)) h hM (.inl rfl) hg fun u hu => by
    rw [writeMotCmd_start hg, groupStart_eq]
    exact if_neg (by rw [hu.groupTurned, hopen]; decide)
  have hulen : u.mot.axes.length = 6 := (congrArg (fun m => m.axes.length) hu.mot).trans hlen
  have hexec : exec (.groupStart l g) s = .next (s.hostWrite l 0x40 0xE0 (BitVec.ofNat 32 (0x10000000 + g))) := by
    show Outcome.next (s.hostWrite l 0x40 0xE0 (BitVec.ofNat 32 (0x10000000 + g % 4))) = _
    rw [Nat.mod_eq_of_lt hg]
  have hl : ∀ m ∈ u.goers g, m < 6 := fun m hm => (mem_members.mp (List.mem_filter.mp hm).1).1
  have hcycle := (hmember a ha).2.1
  refine ⟨_, hexec, hgranted, ?_⟩
  rw [hu.goers] at ht hl
  by_cases hgoes : s.getInt (F.AX_TARGET_POS.on a) = s.standsAt a
  · have hkeep := (untouched_startEach (mem_members.mp ha).1 u hl fun hm =>
      (bne_iff_ne.mp (List.mem_filter.mp hm).2) hgoes)
    have haxis := (ht.axis a).trans (hkeep.axis.trans (hu.axis a))
    rw [if_pos hgoes]
    exact ⟨(congrArg AxisSt.cycle haxis).trans hcycle, haxis⟩
  · have hin : a ∈ s.goers g := List.mem_filter.mpr ⟨ha, bne_iff_ne.mpr hgoes⟩
    obtain ⟨haxis, hstate⟩ := startEach_member (mem_members.mp ha).1 hulen hl (List.Nodup.filter _ (List.Nodup.filter _ axisList_nodup)) hin
      ((congrArg AxisSt.cycle (hu.axis a)).trans hcycle) ((hu.startDeferred a 3).trans hdeferred)
    rw [← ht.axis, hu.axis, hu.now, hu.getIntOn (by decide)] at haxis
    rw [if_neg hgoes, haxis, ht.axState]
    refine ⟨hcycle, rfl, ?_, hstate⟩
    unfold AxisSt.run
    rw [hcycle]
    rfl

theorem execGroupStart_refused_claim (l : Link) (g : Nat) (s : State) : Claims.groupStartRefused l g s := by
  intro h hM hg hwhy
  have hturned : s.groupTurned g = true := by
    unfold State.groupTurned
    simp only [Bool.or_eq_true, beq_iff_eq, Bool.not_eq_true', List.isEmpty_iff, List.any_eq_true, bne_iff_ne]
    rcases hwhy with h | h | h | h
    · exact .inl (.inl (.inl (.inr h)))
    · exact .inl (.inl (.inr h))
    · exact .inl (.inl (.inl (.inl h)))
    · obtain ⟨m, hm, hp⟩ := List.any_eq_true.mp h
      simp only [Bool.or_eq_true, Bool.and_eq_true, Bool.not_eq_true', bne_iff_ne] at hp
      rcases hp with (hp | hp) | ⟨hp, hq⟩
      · exact .inl (.inr ⟨m, hm, .inr hp⟩)
      · refine .inl (.inr ⟨m, hm, .inl ?_⟩)
        unfold State.axBlocked
        rw [hp]
        simp
      · exact .inr ⟨m, List.mem_filter.mpr ⟨hm, bne_iff_ne.mpr hp⟩, hq⟩
  have hexec : exec (.groupStart l g) s = .next (s.hostWrite l 0x40 0xE0 (BitVec.ofNat 32 (0x10000000 + g))) := by
    show Outcome.next (s.hostWrite l 0x40 0xE0 (BitVec.ofNat 32 (0x10000000 + g % 4))) = _
    rw [Nat.mod_eq_of_lt hg]
  obtain ⟨hanswer, hlinks⟩ := motCmd_refused h hM (.inl rfl) hg fun u hu => by
    rw [writeMotCmd_start hg, groupStart_eq]
    exact if_pos ((hu.groupTurned g).trans hturned)
  exact ⟨_, hexec, hanswer, hlinks⟩

/-! ### STOP -/

/-- A STOP of several axes, one of them with a cycle that nothing stops yet, stops that one. -/
theorem stopping_stopEach {b : Nat} (hb : b < 6) {s : State} {c : Cycle} (hc : (s.axis b).cycle = some c) (hlen : s.mot.axes.length = 6)
    (hstop : c.stop = none) {l : List Nat} (hl : ∀ m ∈ l, m < 6) (hnd : l.Nodup) (hbl : b ∈ l) : Stopping b 9 (s.stopEach l) := by
  refine stopping_foldl hb hc hlen (by rw [hstop]; decide) (fun t m => ?_) l hl hnd hbl
  unfold State.hostStop
  split
  next => exact .inl rfl
  next h =>
    refine .inr ⟨rfl, ?_⟩
    cases hcm : (t.axis m).cycle with
    | none => rfl
    | some c => rw [hcm] at h; exact absurd rfl h

theorem execGroupStop_claim (l : Link) (g a : Nat) (c : Cycle) (s : State) : Claims.groupStop l g a c s := by
  intro h hshape hM hg1 hg ha hgroup hcycle hstop
  obtain ⟨-, hlen, -, -⟩ := hshape
  obtain ⟨u, hu, ht, hgranted⟩ := motCmd_granted (f := fun u => u.stopEach (u.members g)) h hM (.inr (.inl rfl)) hg fun u hu => by
    rw [writeMotCmd_stop hg, if_neg (by omega)]
  have hexec : exec (.groupStop l g) s = .next (s.hostWrite l 0x40 0xE0 (BitVec.ofNat 32 (0x20000000 + g))) := by
    show Outcome.next (s.hostWrite l 0x40 0xE0 (BitVec.ofNat 32 (0x20000000 + g % 4))) = _
    rw [Nat.mod_eq_of_lt hg]
  obtain ⟨hstate, hcause⟩ := stopping_stopEach ha ((congrArg AxisSt.cycle (hu.axis a)).trans hcycle)
    ((congrArg (fun m => m.axes.length) hu.mot).trans hlen) hstop (l := u.members g) (fun m hm => (mem_members.mp hm).1)
    (List.Nodup.filter _ axisList_nodup) (mem_members.mpr ⟨ha, (hu.groupOf a).trans hgroup⟩)
  exact ⟨_, hexec, hgranted, by rw [ht.axState, hstate], by rw [ht.axis, hcause]⟩

theorem execGroupStop_refused_claim (l : Link) (s : State) : Claims.groupStopRefused l s := by
  intro h hM
  obtain ⟨hanswer, hlinks⟩ := motCmd_refused h hM (.inr (.inl rfl)) (g := 0) (by decide) fun u hu => by
    rw [writeMotCmd_stop (by decide), if_pos rfl]
  exact ⟨_, rfl, hanswer, hlinks⟩

theorem execStopAll_claim (l : Link) (a : Nat) (c : Cycle) (s : State) : Claims.stopAll l a c s := by
  intro h hshape hM ha hcycle hstop
  obtain ⟨-, hlen, -, -⟩ := hshape
  obtain ⟨u, hu, ht, hgranted⟩ := motCmd_granted (f := fun u => u.stopEach axisList) h hM (.inr (.inr rfl)) (g := 0) (by decide) fun u hu =>
    writeMotCmd_stopAll u
  obtain ⟨hstate, hcause⟩ := stopping_stopEach ha ((congrArg AxisSt.cycle (hu.axis a)).trans hcycle)
    ((congrArg (fun m => m.axes.length) hu.mot).trans hlen) hstop (l := axisList) (fun m hm => mem_axisList.mp hm) axisList_nodup
    (mem_axisList.mpr ha)
  exact ⟨_, rfl, hgranted, (ht.axState a).trans hstate, by rw [← hcause, ← ht.axis]; rfl⟩

/-! ### The cycles of a group -/

theorem mem_groupDistances {s : State} {g m : Nat} {d : Int} : (m, d) ∈ s.groupDistances g ↔
    m ∈ s.members g ∧ (∃ x, s.groupTarget m = some x ∧ d = x - s.setpoint m) ∧ d ≠ 0 := by
  unfold State.groupDistances
  rw [List.mem_filter, List.mem_filterMap, bne_iff_ne, and_congr_left_iff.mpr fun _ => ?_, and_assoc]
  constructor
  · rintro ⟨a, ha, hmap⟩
    obtain ⟨x, hx, heq⟩ := Option.map_eq_some_iff.mp hmap
    obtain ⟨rfl, rfl⟩ := Prod.mk.inj heq
    exact ⟨ha, x, hx, rfl⟩
  · rintro ⟨ha, x, hx, rfl⟩
    exact ⟨m, ha, Option.map_eq_some_iff.mpr ⟨x, hx, rfl⟩⟩

theorem groupDistances_nodup (s : State) (g : Nat) : (s.groupDistances g).Nodup := by
  refine List.Nodup.filter _ (List.Nodup.filterMap (fun a a' p hp hp' => ?_) (List.Nodup.filter _ axisList_nodup))
  obtain ⟨x, -, rfl⟩ := Option.map_eq_some_iff.mp hp
  obtain ⟨x', -, heq⟩ := Option.map_eq_some_iff.mp hp'
  exact (Prod.mk.inj heq).1.symm

/-- A member takes part once. -/
theorem groupDistances_fst {s : State} {g : Nat} {p q : Nat × Int} (hp : p ∈ s.groupDistances g) (hq : q ∈ s.groupDistances g) (h : p ≠ q) :
    p.1 ≠ q.1 := by
  obtain ⟨m, d⟩ := p
  obtain ⟨m', d'⟩ := q
  rintro (rfl : m = m')
  obtain ⟨-, ⟨x, hx, rfl⟩, -⟩ := mem_groupDistances.mp hp
  obtain ⟨-, ⟨x', hx', rfl⟩, -⟩ := mem_groupDistances.mp hq
  rw [hx] at hx'
  exact h (by rw [Option.some.inj hx'])

/-- The set-points computed advance the time of a cycle and nothing else of it. -/
theorem compute_cycle (n : Nat) (c : Cycle) (q : List Setpoint) : (c.compute n q).1 = { c with ticks := c.ticks + n } := by
  induction n generalizing c q with
  | zero => rfl
  | succ n ih =>
    unfold Cycle.compute
    dsimp only
    rw [ih]
    simp only [Nat.add_assoc, Nat.add_comm 1 n]

/-- A cycle that begins has its first two set-points queued. -/
theorem startCycle_axis {s : State} {a : Nat} (ha : a < 6) (hlen : s.mot.axes.length = 6) (c : Cycle) : (s.startCycle a c).axis a =
    { s.axis a with
      pending := none, cycle := some { c with ticks := c.ticks + 2 }, stallN := 0, obstN := 0, queue := (c.compute 2 []).2
      drive := if c.kind = 2 ∧ s.get (F.AX_HOME_METHOD.on a) = 4 then 4 else 3 } := by
  unfold State.startCycle State.setMoving State.setAxState
  dsimp only
  rw [axis_set, axis_set, State.axis_onAxis, if_pos ⟨rfl, by omega⟩, compute_cycle]

theorem startCycle_axState (s : State) (a : Nat) (c : Cycle) : (s.startCycle a c).axState a = if c.kind = 2 then 3 else 2 :=
  axState_setAxState _ a (by split <;> decide)

/-- Begin the cycle of one member of a group. -/
def State.startMember (s : State) (g : Nat) (plan : List Segment) (m : Nat × Int) : State :=
  s.startCycle m.1 { s.newCycle m.1 3 (s.setpoint m.1 + m.2) (scalePlan (m.2 : Int) plan) with group := g, dist := m.2 }

theorem startGroup_eq (s : State) (g : Nat) : s.startGroup g = (s.groupDistances g).foldl (fun (t : State) m =>
    t.startMember g (planMove 0 0 1 (s.groupLimits (s.groupDistances g) widest)) m) s := rfl

/-- What a member's cycle holds that takes part by a distance. -/
def memberStarted (s : State) (g : Nat) (plan : List Segment) (m : Nat) (d : Int) (t : State) : Prop :=
  t.axState m = 2 ∧ ((t.axis m).cycle.map fun c => (c.kind, c.group, c.dist, c.target)) = some (3, g, d, s.setpoint m + d) ∧
    (t.axis m).cycle.map Cycle.plan = some (scalePlan d plan)

theorem startGroup_member {s : State} (hlen : s.mot.axes.length = 6) {g m : Nat} {d : Int} (h : (m, d) ∈ s.groupDistances g) :
    memberStarted s g (planMove 0 0 1 (s.groupLimits (s.groupDistances g) widest)) m d (s.startGroup g) := by
  rw [startGroup_eq]
  generalize planMove 0 0 1 (s.groupLimits (s.groupDistances g) widest) = plan
  have hsix : ∀ q ∈ s.groupDistances g, q.1 < 6 := fun q hq => (mem_members.mp (mem_groupDistances.mp hq).1).1
  have hm := hsix _ h
  refine foldl_once (b := (m, d)) (I := Untouched m s) (J := memberStarted s g plan m d) _ (groupDistances_nodup s g) h
    (fun t q hq hne ht => ht.trans (.of_startCycle (hsix q hq) hm (groupDistances_fst hq h hne) ..)) (fun t ht => ?_)
    (fun t q hq hne ht => ?_) (.refl m s)
  · have haxis := startCycle_axis hm (ht.len.trans hlen)
      { t.newCycle m 3 (t.setpoint m + d) (scalePlan d plan) with group := g, dist := d }
    have hcycle := congrArg AxisSt.cycle haxis
    refine ⟨startCycle_axState .., (congrArg (Option.map _) hcycle).trans ?_, congrArg (Option.map _) hcycle⟩
    rw [← ht.setpoint]
    rfl
  · have hu : Untouched m t (t.startMember g plan q) := .of_startCycle (hsix q hq) hm (groupDistances_fst hq h hne) ..
    have hcycle := congrArg AxisSt.cycle hu.axis
    obtain ⟨hstate, hkept, hplan⟩ := ht
    exact ⟨hu.axState.trans hstate, (congrArg (Option.map _) hcycle).trans hkept, (congrArg (Option.map _) hcycle).trans hplan⟩

/-- The limits of the normalised profile are within those of every member that takes part. -/
theorem groupLimits_le (s : State) (ms : List (Nat × Int)) (seed : Limits) : (s.groupLimits ms seed).v ≤ seed.v ∧
    (s.groupLimits ms seed).j ≤ seed.j ∧ ∀ p ∈ ms, (s.groupLimits ms seed).v ≤ (s.limits p.1).v / (absInt p.2 : Int) ∧
      (s.groupLimits ms seed).j ≤ (s.limits p.1).j / (absInt p.2 : Int) := by
  induction ms generalizing seed with
  | nil => exact ⟨le_refl _, le_refl _, fun _ hp => absurd hp List.not_mem_nil⟩
  | cons q ms ih =>
    obtain ⟨hv, hj, hall⟩ := ih ⟨min seed.v ((s.limits q.1).v / (absInt q.2 : Int)), min seed.a ((s.limits q.1).a / (absInt q.2 : Int)),
      min seed.d ((s.limits q.1).d / (absInt q.2 : Int)), min seed.j ((s.limits q.1).j / (absInt q.2 : Int))⟩
    refine ⟨hv.trans (min_le_left _ _), hj.trans (min_le_left _ _), fun p hp => ?_⟩
    rcases List.mem_cons.mp hp with rfl | hp
    · exact ⟨hv.trans (min_le_right _ _), hj.trans (min_le_right _ _)⟩
    · exact hall p hp

theorem execCycleStart_group_claim (a m e : Nat) (d x : Int) (s : State) : Claims.groupCycle a m e d x s := by
  intro hrun hheld hshape ha hcycle hpending hwaits hm
  obtain ⟨-, hlen, -, -⟩ := hshape
  have hexec : exec (.cycleStart a) s = .next ((s.advanceTo (servoAfter e 3)).startGroup (s.groupOf a)) := by
    show execCycleStart a s = _
    unfold execCycleStart
    rw [hpending, hrun, hheld, hcycle]
    dsimp only
    rw [if_neg (by decide), if_neg, if_neg (by decide), if_neg (by decide)]
    · rfl
    · unfold State.cycleWaits
      rw [if_pos rfl]
      exact fun h => absurd (hwaits.symm.trans h) (by decide)
  obtain ⟨hstate, hkept, hplan⟩ := startGroup_member (s := s.advanceTo (servoAfter e 3)) (g := s.groupOf a) hlen hm
  obtain ⟨-, -, hlimits⟩ := groupLimits_le s (s.groupDistances (s.groupOf a)) widest
  obtain ⟨hv, hj⟩ := hlimits _ hm
  exact ⟨_, hexec, hstate, hkept, hplan, hv, hj⟩

end Sys2Proof.Machine

/-- Settles O40: the starts and stops of several axes, followed for one of them through the fold over all. -/
theorem axisGroups : Obligations.AxisGroups :=
  ⟨Sys2Proof.Machine.execGroupStart_claim, Sys2Proof.Machine.execGroupStart_refused_claim, Sys2Proof.Machine.execGroupStop_claim,
    Sys2Proof.Machine.execGroupStop_refused_claim, Sys2Proof.Machine.execStopAll_claim, Sys2Proof.Machine.execCycleStart_group_claim⟩
end

section
/-! Home points, stalls, obstacles, edges and limit switches (O42). -/
set_option Elab.async false
namespace Sys2Proof.Machine
open Host

/-! ### Fields that no stop changes -/

/-- Fields on the pages of any two axes are as far apart as those of the first one. -/
theorem leaves_ax_any {f g : Fld} (hf : f.page = 0x41) (hg : g.page = 0x41) (h : f.leaves g = true) (m b : Nat) :
    (f.on m).leaves (g.on b) = true := by
  by_cases hmb : m % 6 = b % 6
  · have hon : f.on m = f.on b := by
      unfold Fld.on
      rw [hf, show instancesOf 0x41 = 6 from rfl, hmb]
    rw [hon]
    exact leaves_ax hf hg h b
  · exact Fld.leaves_of_page (by rw [page_ax hf, page_ax hg]; omega)

/-- The field is none of those that a stop of some axis changes. -/
structure StopLeaves (f : Fld) : Prop where
  state : ∀ m, (F.AX_STAT_STATE.on m).leaves f = true
  homed : ∀ m, (F.AX_STAT_HOMED.on m).leaves f = true
  setpt : ∀ m, (F.AX_SETPT_VAL.on m).leaves f = true
  vel : ∀ m, (F.AX_VEL_VAL.on m).leaves f = true
  stall : ∀ m, (F.AX_IFLAG_STALL.on m).leaves f = true
  edge : ∀ m, (F.AX_IFLAG_EDGE.on m).leaves f = true
  obst : ∀ m, (F.AX_IFLAG_OBST.on m).leaves f = true
  motHomed : Fld.leaves F.MOT_STAT_HOMED f = true

/-- A field of an axis that no stop changes. -/
theorem StopLeaves.of_ax {f : Fld} (hf : f.page = 0x41) (h : (Fld.leaves F.AX_STAT_STATE f && Fld.leaves F.AX_STAT_HOMED f &&
    Fld.leaves F.AX_SETPT_VAL f && Fld.leaves F.AX_VEL_VAL f && Fld.leaves F.AX_IFLAG_STALL f && Fld.leaves F.AX_IFLAG_EDGE f &&
    Fld.leaves F.AX_IFLAG_OBST f) = true) (b : Nat) : StopLeaves (f.on b) := by
  simp only [Bool.and_eq_true] at h
  obtain ⟨⟨⟨⟨⟨⟨hstate, hhomed⟩, hsetpt⟩, hvel⟩, hstall⟩, hedge⟩, hobst⟩ := h
  exact ⟨fun m => leaves_ax_any rfl hf hstate m b, fun m => leaves_ax_any rfl hf hhomed m b, fun m => leaves_ax_any rfl hf hsetpt m b,
    fun m => leaves_ax_any rfl hf hvel m b, fun m => leaves_ax_any rfl hf hstall m b, fun m => leaves_ax_any rfl hf hedge m b,
    fun m => leaves_ax_any rfl hf hobst m b, leaves_out_ax (.inl (by decide)) hf b⟩

/-- A field outside the pages of motion. -/
theorem StopLeaves.of_page {f : Fld} (hf : f.page < 0x40 ∨ 0x46 < f.page) : StopLeaves f := by
  have hax : ∀ {g : Fld}, g.page = 0x41 → ∀ m, (g.on m).leaves f = true := fun hg m => Fld.leaves_of_page (by rw [page_ax hg]; omega)
  exact ⟨hax rfl, hax rfl, hax rfl, hax rfl, hax rfl, hax rfl, hax rfl, Fld.leaves_of_page (by show 0x40 ≠ f.page; omega)⟩

section
variable {f : Fld} (h : StopLeaves f)
include h

theorem get_latch_leaves (s : State) (a : Nat) (p : Setpoint) : (s.latch a p).get f = s.get f :=
  (State.get_set_leaves (h.vel a) _ _).trans (State.get_set_leaves (h.setpt a) _ _)

theorem get_causeFlag_leaves (s : State) (a rank : Nat) : (s.causeFlag a rank).get f = s.get f := by
  unfold State.causeFlag
  split_ifs
  · exact State.get_flag_leaves (h.stall a) s
  · exact State.get_flag_leaves (h.edge a) s
  · exact State.get_flag_leaves (h.obst a) s
  · rfl

theorem get_stopWith_leaves (s : State) (a rank : Nat) (own : Bool) (decel jerk : Rat) : (s.stopWith a rank own decel jerk).get f = s.get f := by
  have hkept : (s.stopKept a rank own decel jerk).get f = s.get f := by
    unfold State.stopKept
    dsimp only
    split
    · exact get_setHomed (h.homed a) h.motHomed ..
    · rfl
  rw [stopWith_eq]
  refine (State.get_set_leaves (h.state a) _ _).trans ?_
  split
  · exact hkept
  · exact (get_latch_leaves h ..).trans hkept

theorem get_stopGroup_leaves (s : State) (a g rank : Nat) : (s.stopGroup a g rank).get f = s.get f := by
  rw [stopGroup_eq]
  refine foldl_keeps (fun t : State => t.get f = s.get f) (fun t m ht => ?_) _ rfl
  unfold State.stopMember
  split
  · split
    · exact (get_stopWith_leaves h ..).trans ht
    · exact ht
  · exact ht

theorem get_dropStart_leaves (s : State) (a rank : Nat) : (s.dropStart a rank).get f = s.get f := by
  unfold State.dropStart
  split
  · rfl
  · exact State.get_set_leaves (h.state a) _ _

theorem get_dropPending_leaves (s : State) (a rank : Nat) : (s.dropPending a rank).get f = s.get f := by
  unfold State.dropPending
  split
  · refine foldl_keeps (fun t : State => t.get f = s.get f) (fun t m ht => ?_) _ rfl
    split
    · exact (get_dropStart_leaves h ..).trans ht
    · exact ht
  · exact get_dropStart_leaves h ..

/-- A stop of any rank, on an axis that moves, waits or stands, leaves such a field. -/
theorem get_stopAxis_leaves (s : State) (a rank : Nat) : (s.stopAxis a rank).get f = s.get f := by
  unfold State.stopAxis
  split
  · have hflag := get_causeFlag_leaves h s a rank
    dsimp only
    split_ifs
    · exact hflag
    · exact (get_stopGroup_leaves h ..).trans hflag
    · exact (get_stopWith_leaves h ..).trans hflag
  · split_ifs
    · exact get_dropPending_leaves h ..
    · exact State.get_set_leaves (h.state a) _ _
    · rfl

theorem on_stopAxis_leaves (s : State) (a rank : Nat) : (s.stopAxis a rank).on f = s.on f :=
  by unfold State.on; rw [get_stopAxis_leaves h]

end

/-! ### Home points -/

theorem axis_setOn (s : State) (f : Fld) (v : Bool) (b : Nat) : (s.setOn f v).axis b = s.axis b := axis_set ..

/-- The state in which the home position is taken: with the edge of the switch the method looks for, in the slow approach. -/
def State.released (s : State) (a phase : Nat) : State := s.applyIf (phase == 2) fun s =>
  s.setOn (if s.get (F.AX_HOME_METHOD.on a) = 2 then F.AX_STAT_LIM.on a else F.AX_STAT_HOME.on a) false

theorem get_released {f : Fld} (hf : f.page = 0x41) (hl : Fld.leaves F.AX_STAT_LIM f = true) (hh : Fld.leaves F.AX_STAT_HOME f = true) (s : State)
    (a phase : Nat) : (s.released a phase).get (f.on a) = s.get (f.on a) := by
  unfold State.released State.applyIf
  dsimp only
  split
  · split
    · exact State.get_setOn_leaves (leaves_ax rfl hf hl a) _ _
    · exact State.get_setOn_leaves (leaves_ax rfl hf hh a) _ _
  · rfl

theorem released_mot (s : State) (a phase : Nat) : (s.released a phase).mot = s.mot := by
  unfold State.released State.applyIf State.setOn
  split
  · exact State.set_mot ..
  · rfl

theorem execHomePoint_index_claim (a : Nat) (c : Cycle) (s : State) : Claims.homeIndex a c s := by
  intro hshape ha hcycle hkind hstop hphase hmethod
  obtain ⟨-, hlen, -, -⟩ := hshape
  have hm : (s.released a c.phase).get (F.AX_HOME_METHOD.on a) = s.get (F.AX_HOME_METHOD.on a) := get_released rfl (by decide) (by decide) ..
  have hexec : exec (.homePoint a) s = .next ((s.released a c.phase).onCycle a fun x => { x with phase := 3 }) := by
    show execHomePoint a s = _
    unfold execHomePoint
    rw [hcycle]
    exact (if_pos ⟨hkind, hstop⟩).trans (if_pos ⟨hphase, hm.trans hmethod⟩)
  have hreleased : s.released a c.phase = s.setOn (F.AX_STAT_HOME.on a) false := by
    unfold State.released State.applyIf
    dsimp only
    rw [hphase, hmethod]
    rfl
  refine ⟨_, hexec, ?_, by rw [hreleased]⟩
  unfold State.onCycle
  rw [State.axis_onAxis, if_pos ⟨rfl, by rw [released_mot]; omega⟩, State.axis_of_mot (released_mot ..), hcycle]
  rfl

/-- The motion of a cycle does not depend on where its positions are counted from. -/
theorem point_vel (c : Cycle) (origin target : Int) : ({ c with origin := origin, target := target } : Cycle).point.vel = c.point.vel ∧
    ({ c with origin := origin, target := target } : Cycle).point.acc = c.point.acc := ⟨rfl, rfl⟩

theorem get_homePhase (s : State) (a phase : Nat) (plan : Setpoint → List Segment) (f : Fld) : (s.homePhase a phase plan).get f = s.get f := rfl

theorem on_homePhase (s : State) (a phase : Nat) (plan : Setpoint → List Segment) (f : Fld) : (s.homePhase a phase plan).on f = s.on f := rfl

theorem execHomePoint_claim (a : Nat) (c : Cycle) (s : State) : Claims.homePoint a c s := by
  intro hshape ha hcycle hkind hstop hphase
  obtain ⟨-, hlen, -, -⟩ := hshape
  have hm : (s.released a c.phase).get (F.AX_HOME_METHOD.on a) = s.get (F.AX_HOME_METHOD.on a) := get_released rfl (by decide) (by decide) ..
  have hexec : exec (.homePoint a) s = .next (((s.released a c.phase).takeHome a).homePhase a 4 c.rampDown) := by
    show execHomePoint a s = _
    unfold execHomePoint
    rw [hcycle]
    refine (if_pos ⟨hkind, hstop⟩).trans ((if_neg ?_).trans (if_pos ?_))
    · show ¬ (c.phase = 2 ∧ (s.released a c.phase).get (F.AX_HOME_METHOD.on a) = 3)
      rw [hm]
      rcases hphase with h | ⟨-, h⟩
      · exact fun hp => absurd (h.symm.trans hp.1) (by decide)
      · exact fun hp => h hp.2
    · rcases hphase with h | ⟨h, -⟩
      · exact .inr h
      · exact .inl h
  obtain ⟨hhomed, hpos, -, hflag⟩ := takeHome_words (s.released a c.phase) a
  have hulen : (s.released a c.phase).mot.axes.length = 6 := by rw [released_mot]; exact hlen
  have haxis : (((s.released a c.phase).takeHome a).axis a).cycle =
      some { c with origin := c.origin + (s.released a c.phase).homeShift a, target := c.target } := by
    rw [takeHome_axis (by omega), State.axis_of_mot (released_mot ..)]
    unfold AxisSt.renumbered
    rw [hcycle]
    simp only [Option.map_some, if_pos hkind]
  have hafter : ((((s.released a c.phase).takeHome a).homePhase a 4 c.rampDown).axis a).cycle.map
      (fun x => (x.phase, x.ticks, x.v0, x.a0, x.plan)) = some (4, 0, c.point.vel, c.point.acc,
        planStop c.point.vel c.point.acc c.lim.d c.lim.j) := by
    unfold State.homePhase State.planOn
    rw [State.axis_onAxis, if_pos ⟨rfl, by rw [takeHome_len]; omega⟩, haxis]
    simp only [Option.map_some, (point_vel c _ _).1, (point_vel c _ _).2]
    rfl
  cases hx : ((((s.released a c.phase).takeHome a).homePhase a 4 c.rampDown).axis a).cycle with
  | none => rw [hx] at hafter; exact absurd hafter (by simp)
  | some x =>
    rw [hx] at hafter
    simp only [Option.map_some, Option.some.injEq, Prod.mk.injEq] at hafter
    obtain ⟨h1, h2, h3, h4, h5⟩ := hafter
    refine ⟨_, hexec, (getInt_of_get (get_homePhase ..)).trans (hpos.trans (getInt_of_get (get_released rfl (by decide) (by decide) ..))),
      (on_homePhase ..).trans hhomed, (on_homePhase ..).trans hflag, ?_, ?_⟩
    · rw [hx, Option.map_some, h1, h2, h3, h4]
    · rw [hx, Option.map_some, h5]

theorem execHomingTimeout_claim (a : Nat) (c : Cycle) (s : State) : Claims.homingTimeout a c s := by
  intro hshape ha hcycle hkind hstop hphase
  obtain ⟨-, hlen, -, -⟩ := hshape
  have hexec : exec (.homingTimeout a) s = .next ((s.advanceTo (c.startTime + 120000000)).stopAxis a 8) := by
    show execHomingTimeout a s = _
    unfold execHomingTimeout
    rw [hcycle]
    exact if_pos ⟨hkind, hstop, hphase⟩
  obtain ⟨hstate, hcause⟩ := stopping_stopAxis (s := s.advanceTo (c.startTime + 120000000)) (rank := 8) ha hcycle hlen (by rw [hstop]; decide)
  exact ⟨_, hexec, (altersOf (alters_stopAxis _ a 8)).now (by decide +kernel), hstate, hcause⟩

/-! ### Stalls and obstacles -/

theorem stopPoint_range (s : State) (a rank : Nat) (own : Bool) : -2147483648 ≤ s.stopPoint a rank own ∧ s.stopPoint a rank own < 2147483648 := by
  unfold State.stopPoint
  split
  · exact getInt_range s rfl
  · exact getInt_range s rfl

theorem homed_latch (s : State) (a : Nat) (p : Setpoint) : (s.latch a p).homed a = s.homed a :=
  (State.on_set_leaves (leaves_ax rfl rfl (by decide) a) _ _).trans (State.on_set_leaves (leaves_ax rfl rfl (by decide) a) _ _)

theorem setpoint_latch (s : State) (a : Nat) {p : Setpoint} (h : -2147483648 ≤ p.pos) (h' : p.pos < 2147483648) :
    (s.latch a p).setpoint a = p.pos :=
  (getInt_of_get (State.get_set_leaves (leaves_ax rfl rfl (by decide) a) _ _)).trans (getInt_setInt_range rfl rfl _ h h')

/-- A stop without a ramp leaves the axis at the position it loses its motion at. -/
theorem stopWith_setpoint {s : State} {a rank : Nat} {own : Bool} (h : stopRamps own rank = false) (decel jerk : Rat) :
    (s.stopWith a rank own decel jerk).setpoint a = s.stopPoint a rank own := by
  rw [stopWith_eq, if_neg (by rw [h]; decide)]
  have hr := stopPoint_range s a rank own
  exact (getInt_of_get (State.get_set_leaves (leaves_ax rfl rfl (by decide) a) _ _)).trans (setpoint_latch _ a hr.1 hr.2)

theorem stopWith_homed (s : State) (a rank : Nat) (own : Bool) (decel jerk : Rat) : (s.stopWith a rank own decel jerk).homed a =
    if (own && (rank == 5 || rank == 2)) && !s.hasEnc a then false else s.homed a := by
  have hkept : (s.stopKept a rank own decel jerk).homed a =
      if (own && (rank == 5 || rank == 2)) && !s.hasEnc a then false else s.homed a := by
    unfold State.stopKept
    dsimp only
    split
    · exact homed_setHomed ..
    · rfl
  rw [stopWith_eq]
  refine (State.on_set_leaves (leaves_ax rfl rfl (by decide) a) _ _).trans ?_
  split
  · exact hkept
  · exact (homed_latch ..).trans hkept

/-- A flag of an axis that no stop clears. -/
theorem on_stopWith_iflag {f : Fld} (hf : f.page = 0x41) (h : (Fld.leaves F.AX_STAT_STATE f && Fld.leaves F.AX_STAT_HOMED f &&
    Fld.leaves F.AX_SETPT_VAL f && Fld.leaves F.AX_VEL_VAL f) = true) (s : State) (a rank : Nat) (own : Bool) (decel jerk : Rat) :
    (s.stopWith a rank own decel jerk).on (f.on a) = s.on (f.on a) := by
  simp only [Bool.and_eq_true] at h
  obtain ⟨⟨⟨hstate, hhomed⟩, hsetpt⟩, hvel⟩ := h
  have hkept : (s.stopKept a rank own decel jerk).on (f.on a) = s.on (f.on a) := by
    unfold State.stopKept
    dsimp only
    split
    · unfold State.on
      rw [get_setHomed (leaves_ax rfl hf hhomed a) (leaves_out_ax (.inl (by decide)) hf a)]
      rfl
    · rfl
  rw [stopWith_eq]
  refine (State.on_set_leaves (leaves_ax rfl hf hstate a) _ _).trans ?_
  split
  · exact hkept
  · exact (State.on_set_leaves (leaves_ax rfl hf hvel a) _ _).trans ((State.on_set_leaves (leaves_ax rfl hf hsetpt a) _ _).trans hkept)

theorem execStall_claim (a : Nat) (c : Cycle) (s : State) : Claims.stall a c s := by
  intro hshape ha hcycle hcount hkind hstop
  obtain ⟨-, hlen, -, -⟩ := hshape
  have hexec : exec (.stall a) s = .next ((s.flag (F.AX_IFLAG_STALL.on a)).stopWith a 5 true (c.decel 5) c.lim.j) := by
    show execStall a s = _
    unfold execStall
    rw [hcycle]
    refine (if_pos hcount).trans ((if_neg fun h => absurd (hkind.symm.trans h.1) (by decide)).trans ?_)
    rw [stopAxis_alone hcycle (by rw [hstop]; decide) (by rw [hkind]; decide)]
    rfl
  have hleaves : ∀ {f : Fld}, f.page = 0x41 → Fld.leaves F.AX_IFLAG_STALL f = true → ∀ u : State,
      (u.flag (F.AX_IFLAG_STALL.on a)).get (f.on a) = u.get (f.on a) := fun hf hl u => State.get_flag_leaves (leaves_ax rfl hf hl a) u
  have henc : (s.flag (F.AX_IFLAG_STALL.on a)).hasEnc a = s.hasEnc a := State.on_flag_leaves (leaves_ax rfl rfl (by decide) a) s
  have hhomed : (s.flag (F.AX_IFLAG_STALL.on a)).homed a = s.homed a := State.on_flag_leaves (leaves_ax rfl rfl (by decide) a) s
  have hflag : (s.flag (F.AX_IFLAG_STALL.on a)).on (F.AX_IFLAG_STALL.on a) = true := State.on_flag_okay (f := F.AX_IFLAG_STALL.on a) rfl s
  have hpos : (s.flag (F.AX_IFLAG_STALL.on a)).getInt (F.AX_POS_VAL.on a) = s.getInt (F.AX_POS_VAL.on a) :=
    getInt_of_get (hleaves rfl (by decide) s)
  have hset : (s.flag (F.AX_IFLAG_STALL.on a)).setpoint a = s.setpoint a := getInt_of_get (hleaves rfl (by decide) s)
  have hax : (s.flag (F.AX_IFLAG_STALL.on a)).axis a = s.axis a := axis_flag ..
  have hulen : (s.flag (F.AX_IFLAG_STALL.on a)).mot.axes.length = 6 := by rw [State.flag_mot]; exact hlen
  generalize s.flag (F.AX_IFLAG_STALL.on a) = u at *
  obtain ⟨held, phase, haxis⟩ := stopWith_axis hulen ha 5 true (c.decel 5) c.lim.j
  have hc : ((u.stopWith a 5 true (c.decel 5) c.lim.j).axis a).cycle = some (c.stopPlan 5 false (u.stopPoint a 5 true) (c.decel 5) c.lim.j) := by
    rw [stopWith_cycle hulen ha, hax, hcycle]
    rfl
  refine ⟨_, hexec, stopWith_axState .., by rw [hc]; rfl, by rw [haxis]; rfl, ?_, by rw [hc]; rfl, fun he => ⟨?_, ?_⟩, fun he => ⟨?_, ?_⟩⟩
  · rw [on_stopWith_iflag rfl (by decide), hflag]
  · rw [stopWith_setpoint rfl]
    unfold State.stopPoint
    rw [henc, he]
    exact hpos
  · rw [stopWith_homed, henc, he]
    exact hhomed
  · rw [stopWith_setpoint rfl]
    unfold State.stopPoint
    rw [henc, he]
    exact hset
  · rw [stopWith_homed, henc, he]
    rfl

/-- A homing cycle that its home point has ended. -/
def Cycle.homedAt (c : Cycle) (home : Int) : Cycle :=
  { c with phase := 4, plan := [], v0 := 0, a0 := 0, ticks := 0, settle := 4, landed := true, origin := home }

/-- What is kept for an axis whose homing a stall has ended. -/
def AxisSt.homedAt (x : AxisSt) (home : Int) : AxisSt := { x with drive := 2, queue := [], cycle := x.cycle.map fun c => c.homedAt home }

theorem execStall_homes_claim (a : Nat) (c : Cycle) (s : State) : Claims.stallHomes a c s := by
  intro hshape ha hcycle hcount hkind hstop hmethod
  obtain ⟨-, hlen, -, -⟩ := hshape
  have hexec : exec (.stall a) s = .next (((s.takeHome a).onAxis a fun x => x.homedAt (s.getInt (F.AX_HOMEOFS_VAL.on a))).latch a
      { pos := s.getInt (F.AX_HOMEOFS_VAL.on a), last := true }) := by
    show execStall a s = _
    unfold execStall
    rw [hcycle]
    exact (if_pos hcount).trans (if_pos ⟨hkind, hmethod, hstop⟩)
  obtain ⟨hhomed, hpos, -, -⟩ := takeHome_words s a
  have htaken := takeHome_axis (s := s) (a := a) (by omega)
  have htlen := takeHome_len s a
  generalize s.takeHome a = u at *
  obtain ⟨phase, haxis⟩ := latch_axis (s := u.onAxis a fun x => x.homedAt (s.getInt (F.AX_HOMEOFS_VAL.on a)))
    ((onAxis_len ..).trans (htlen.trans hlen)) ha { pos := s.getInt (F.AX_HOMEOFS_VAL.on a), last := true }
  rw [State.axis_onAxis, if_pos ⟨rfl, by omega⟩, htaken] at haxis
  refine ⟨_, hexec, (homed_latch ..).trans hhomed, by rw [haxis]; rfl, ?_, ?_⟩
  · exact (getInt_of_get ((State.get_set_leaves (leaves_ax rfl rfl (by decide) a) _ _).trans
      (State.get_set_leaves (leaves_ax rfl rfl (by decide) a) _ _))).trans hpos
  · rw [haxis]
    unfold AxisSt.homedAt AxisSt.renumbered
    rw [hcycle]
    simp only [Option.map_some]
    unfold Cycle.homedAt
    rw [hstop]

theorem causeFlag_obst (s : State) (a : Nat) : s.causeFlag a 7 = s.flag (F.AX_IFLAG_OBST.on a) := rfl

theorem execObstacle_outranked_claim (a : Nat) (c : Cycle) (s : State) : Claims.obstacleOutranked a c s := by
  intro hshape ha hcycle hen hcount hrank
  show execObstacle a s = _
  unfold execObstacle
  rw [hen, decide_eq_true hcount, hcycle, stopAxis_ranked hcycle hrank]
  rfl

theorem execObstacle_claim (a : Nat) (c : Cycle) (s : State) : Claims.obstacle a c s := by
  intro hshape ha hcycle hen hcount hkind hrank
  obtain ⟨-, hlen, -, -⟩ := hshape
  have hexec : exec (.obstacle a) s = .next ((s.flag (F.AX_IFLAG_OBST.on a)).stopWith a 7 true c.dstop c.lim.j) := by
    show execObstacle a s = _
    unfold execObstacle
    rw [hen, decide_eq_true hcount, hcycle, stopAxis_alone hcycle hrank hkind]
    rfl
  have hflag : (s.flag (F.AX_IFLAG_OBST.on a)).on (F.AX_IFLAG_OBST.on a) = true := State.on_flag_okay (f := F.AX_IFLAG_OBST.on a) rfl s
  have hax : (s.flag (F.AX_IFLAG_OBST.on a)).axis a = s.axis a := axis_flag ..
  have hulen : (s.flag (F.AX_IFLAG_OBST.on a)).mot.axes.length = 6 := by rw [State.flag_mot]; exact hlen
  generalize s.flag (F.AX_IFLAG_OBST.on a) = u at *
  have hc : ((u.stopWith a 7 true c.dstop c.lim.j).axis a).cycle = some (c.stopPlan 7 true (u.stopPoint a 7 true) c.dstop c.lim.j) := by
    rw [stopWith_cycle hulen ha, hax, hcycle]
    rfl
  exact ⟨_, hexec, stopWith_axState .., by rw [on_stopWith_iflag rfl (by decide), hflag], by rw [hc]; rfl, by rw [hc]; rfl⟩

/-! ### Edges -/

/-- The field an edge is shown in. -/
def edgeField (e : Nat) : Fld := if e = 0 then F.SAF_STAT_EDGE0 else F.SAF_STAT_EDGE1

theorem edgeField_facts (e : Nat) : (edgeField e).okay = true ∧ (edgeField e).hi + 1 - (edgeField e).lo = 2 ∧ (edgeField e).page = 0x18 ∧
    (edgeField e).leaves F.MOT_ROLE_E0AX = true ∧ (edgeField e).leaves F.MOT_ROLE_E1AX = true ∧
    (edgeField e).leaves F.MOT_ROLE_E0DIR = true ∧ (edgeField e).leaves F.MOT_ROLE_E1DIR = true := by
  unfold edgeField
  split <;> decide

/-- Some edge of the axis is pressed or broken. -/
def State.edgeActive (s : State) (a : Nat) : Bool :=
  (s.edgeAxis 0 == a && s.get F.SAF_STAT_EDGE0 != 0) || (s.edgeAxis 1 == a && s.get F.SAF_STAT_EDGE1 != 0)

/-- The words with an edge's new state: its own, and whether the axis has an active edge. -/
def State.edgeShown (s : State) (e st : Nat) : State :=
  (s.set (edgeField e) st).setOn (F.AX_STAT_EDGE.on (s.edgeAxis e)) ((s.set (edgeField e) st).edgeActive (s.edgeAxis e))

/-- Whether an edge's new state stops its axis. -/
def State.edgeStops (s : State) (e st : Nat) : Bool := ((s.axis (s.edgeAxis e)).cycle.isSome &&
  (s.axis (s.edgeAxis e)).held.positive.any fun p => (s.edgeShown e st).edgeGuards (s.edgeAxis e) p)

theorem edgeAxis_set (s : State) (e st k : Nat) : (s.set (edgeField e) st).edgeAxis k = s.edgeAxis k := by
  obtain ⟨-, -, -, h0, h1, -, -⟩ := edgeField_facts e
  unfold State.edgeAxis
  rw [State.get_set_leaves h0, State.get_set_leaves h1]

theorem edgeShown_axis (s : State) (e st b : Nat) : (s.edgeShown e st).axis b = s.axis b := (axis_setOn ..).trans (axis_set ..)

theorem edgeShown_mot (s : State) (e st : Nat) : (s.edgeShown e st).mot = s.mot := (State.set_mot ..).trans (State.set_mot ..)

theorem hasM_set_edge (s : State) (e st : Nat) : (s.set (edgeField e) st).hasM = s.hasM :=
  State.on_set_leaves (Fld.leaves_of_page (by rw [(edgeField_facts e).2.2.1]; decide)) s st

theorem edgeTo_eq {s : State} (hM : s.hasM = true) {e : Nat} (ha : s.edgeAxis e < 6) (st : Nat) :
    s.edgeTo e st = (s.edgeShown e st).applyIf (s.edgeStops e st) fun t => t.stopAxis (s.edgeAxis e) 6 := by
  have hshown := edgeShown_axis s e st (s.edgeAxis e)
  have hbegin : s.edgeTo e st = match ((s.edgeShown e st).axis (s.edgeAxis e)).cycle with
      | some _ => match ((s.edgeShown e st).axis (s.edgeAxis e)).held.positive with
        | some p => (s.edgeShown e st).applyIf ((s.edgeShown e st).edgeGuards (s.edgeAxis e) p) fun t => t.stopAxis (s.edgeAxis e) 6
        | none => s.edgeShown e st
      | none => s.edgeShown e st := by
    have haxis := edgeAxis_set s e st e
    unfold State.edgeShown State.edgeActive
    rw [← haxis] at ha ⊢
    unfold State.edgeTo
    exact if_pos (by rw [show (s.set (if e = 0 then F.SAF_STAT_EDGE0 else F.SAF_STAT_EDGE1) st) = s.set (edgeField e) st from rfl,
      hasM_set_edge, hM, decide_eq_true ha]; rfl)
  rw [hbegin, hshown]
  unfold State.edgeStops State.applyIf
  cases (s.axis (s.edgeAxis e)).cycle with
  | none => rfl
  | some c =>
    cases (s.axis (s.edgeAxis e)).held.positive with
    | none => rfl
    | some p => rfl

/-- What an edge shows in its own word, and on its axis. -/
theorem edgeShown_words {s : State} {e st : Nat} (he : e < 2) (hst : st < 4) : (s.edgeShown e st).get (edgeField e) = st ∧
    (st ≠ 0 → (s.edgeShown e st).on (F.AX_STAT_EDGE.on (s.edgeAxis e)) = true) := by
  obtain ⟨hokay, hwide, hpage, -, -, -, -⟩ := edgeField_facts e
  have hset : (s.set (edgeField e) st).get (edgeField e) = st := State.get_set_lt hokay (by rw [hwide]; omega) s
  refine ⟨(State.get_setOn_leaves (Fld.leaves_of_page (by rw [page_ax rfl, hpage]; omega)) _ _).trans hset, fun hne => ?_⟩
  unfold State.edgeShown
  rw [State.on_setOn_okay rfl]
  unfold State.edgeActive
  rw [edgeAxis_set, edgeAxis_set]
  rcases (by omega : e = 0 ∨ e = 1) with rfl | rfl
  · rw [show (s.set (edgeField 0) st).get F.SAF_STAT_EDGE0 = st from hset, beq_self_eq_true, bne_iff_ne.mpr hne]
    rfl
  · rw [show (s.set (edgeField 1) st).get F.SAF_STAT_EDGE1 = st from hset, beq_self_eq_true, bne_iff_ne.mpr hne]
    exact Bool.or_true _

/-- The direction an edge guards. -/
def edgeDir (e : Nat) : Fld := if e = 0 then F.MOT_ROLE_E0DIR else F.MOT_ROLE_E1DIR

theorem edgeShown_guards {s : State} {e st : Nat} (he : e < 2) (hst : st < 4) (ha : s.edgeAxis e < 6) (p : Bool) :
    (st ≠ 0 → p = s.on (edgeDir e) → (s.edgeShown e st).edgeGuards (s.edgeAxis e) p = true) ∧
      (s.edgeAxis (1 - e) ≠ s.edgeAxis e → p ≠ s.on (edgeDir e) → (s.edgeShown e st).edgeGuards (s.edgeAxis e) p = false) := by
  obtain ⟨-, -, hpage, h0, h1, h2, h3⟩ := edgeField_facts e
  have hget : ∀ {f : Fld}, f.page = 0x40 → (edgeField e).leaves f = true → (s.edgeShown e st).get f = s.get f := fun hf hl =>
    (State.get_setOn_leaves (leaves_ax_out rfl (.inl (by omega)) _) _ _).trans (State.get_set_leaves hl _ _)
  have hon : ∀ {f : Fld}, f.page = 0x40 → (edgeField e).leaves f = true → (s.edgeShown e st).on f = s.on f := fun hf hl => by
    unfold State.on
    rw [hget hf hl]
  have hshow := (edgeShown_words (s := s) he hst).1
  unfold State.edgeGuards
  rw [hget rfl h0, hget rfl h1, hon rfl h2, hon rfl h3]
  rcases (by omega : e = 0 ∨ e = 1) with rfl | rfl
  · refine ⟨fun hne hp => ?_, fun hother hp => ?_⟩
    · rw [show (s.edgeShown 0 st).get F.SAF_STAT_EDGE0 = st from hshow, hp, show s.edgeAxis 0 = s.get F.MOT_ROLE_E0AX from rfl,
        beq_self_eq_true, show s.on F.MOT_ROLE_E0DIR = s.on (edgeDir 0) from rfl, beq_self_eq_true, bne_iff_ne.mpr hne]
      rfl
    · rw [beq_false_of_ne (show s.get F.MOT_ROLE_E1AX ≠ s.edgeAxis 0 from hother), beq_false_of_ne (show s.on F.MOT_ROLE_E0DIR ≠ p from Ne.symm hp)]
      simp
  · refine ⟨fun hne hp => ?_, fun hother hp => ?_⟩
    · rw [show (s.edgeShown 1 st).get F.SAF_STAT_EDGE1 = st from hshow, hp, show s.edgeAxis 1 = s.get F.MOT_ROLE_E1AX from rfl,
        beq_self_eq_true, show s.on F.MOT_ROLE_E1DIR = s.on (edgeDir 1) from rfl, beq_self_eq_true, bne_iff_ne.mpr hne]
      exact Bool.or_true _
    · rw [beq_false_of_ne (show s.get F.MOT_ROLE_E0AX ≠ s.edgeAxis 1 from hother), beq_false_of_ne (show s.on F.MOT_ROLE_E1DIR ≠ p from Ne.symm hp)]
      simp

theorem stopLeaves_edge (b : Nat) : StopLeaves (F.AX_STAT_EDGE.on b) := .of_ax rfl (by decide) b

theorem stopLeaves_edgeField (e : Nat) : StopLeaves (edgeField e) := .of_page (.inl (by rw [(edgeField_facts e).2.2.1]; decide))

/-- An edge's state as it acts is the one shown. -/
theorem edgeTo_words {s : State} {e st : Nat} (he : e < 2) (hst : st < 4) : (s.edgeTo e st).get (edgeField e) = st ∧
    (s.hasM = true → s.edgeAxis e < 6 → st ≠ 0 → (s.edgeTo e st).on (F.AX_STAT_EDGE.on (s.edgeAxis e)) = true) := by
  obtain ⟨hokay, hwide, hpage, -, -, -, -⟩ := edgeField_facts e
  obtain ⟨hshow, hactive⟩ := edgeShown_words (s := s) he hst
  refine ⟨?_, fun hM ha hne => ?_⟩
  · by_cases h : s.hasM = true ∧ s.edgeAxis e < 6
    · rw [edgeTo_eq h.1 h.2]
      unfold State.applyIf
      split
      · exact (get_stopAxis_leaves (stopLeaves_edgeField e) ..).trans hshow
      · exact hshow
    · have hnot : s.edgeTo e st = s.set (edgeField e) st := by
        unfold State.edgeTo
        refine if_neg ?_
        rw [show (s.set (if e = 0 then F.SAF_STAT_EDGE0 else F.SAF_STAT_EDGE1) st) = s.set (edgeField e) st from rfl, hasM_set_edge, edgeAxis_set,
          Bool.and_eq_true, decide_eq_true_eq]
        exact h
      rw [hnot]
      exact State.get_set_lt hokay (by rw [hwide]; omega) s
  · rw [edgeTo_eq hM ha]
    unfold State.applyIf
    split
    · exact (on_stopAxis_leaves (stopLeaves_edge _) ..).trans (hactive hne)
    · exact hactive hne

theorem edgeTo_saf (s : State) (e st : Nat) : (s.edgeTo e st).saf = s.saf := (altersOf (alters_edgeTo s e st)).saf (by decide +kernel)

theorem edgeTo_now (s : State) (e st : Nat) : (s.edgeTo e st).now = s.now := (altersOf (alters_edgeTo s e st)).now (by decide +kernel)

/-- An edge's new state that guards the travel of its axis stops it. -/
theorem edgeTo_stops {s : State} (hM : s.hasM = true) (hlen : s.mot.axes.length = 6) {e st : Nat} (he : e < 2) (hst : st < 4) (hne : st ≠ 0)
    (ha : s.edgeAxis e < 6) {c : Cycle} (hcycle : (s.axis (s.edgeAxis e)).cycle = some c) (hkind : c.kind ≠ 3) (hrank : 6 < c.stop.getD 10)
    (hdir : (s.axis (s.edgeAxis e)).held.positive = some (s.on (edgeDir e))) :
    Stopping (s.edgeAxis e) 6 (s.edgeTo e st) ∧ (s.edgeTo e st).on (F.AX_IFLAG_EDGE.on (s.edgeAxis e)) = true := by
  have hstops : s.edgeStops e st = true := by
    unfold State.edgeStops
    rw [hcycle, hdir, Option.any_some, (edgeShown_guards he hst ha _).1 hne rfl]
    rfl
  have hc : ((s.edgeShown e st).axis (s.edgeAxis e)).cycle = some c := (congrArg AxisSt.cycle (edgeShown_axis ..)).trans hcycle
  have hl : (s.edgeShown e st).mot.axes.length = 6 := by rw [edgeShown_mot]; exact hlen
  rw [edgeTo_eq hM ha]
  unfold State.applyIf
  rw [if_pos hstops]
  refine ⟨stopping_stopAxis ha hc hl hrank, ?_⟩
  show ((s.edgeShown e st).stopAxis (s.edgeAxis e) 6).on _ = true
  rw [stopAxis_alone hc hrank hkind, on_stopWith_iflag rfl (by decide)]
  exact State.on_flag_okay (f := F.AX_IFLAG_EDGE.on (s.edgeAxis e)) rfl _

/-- An edge that guards the other direction leaves the cycle of its axis. -/
theorem edgeTo_keeps {s : State} (hM : s.hasM = true) {e st : Nat} (he : e < 2) (hst : st < 4) (ha : s.edgeAxis e < 6)
    (hother : s.edgeAxis (1 - e) ≠ s.edgeAxis e) (hdir : (s.axis (s.edgeAxis e)).held.positive ≠ some (s.on (edgeDir e))) :
    (s.edgeTo e st).axis (s.edgeAxis e) = s.axis (s.edgeAxis e) := by
  have hstops : s.edgeStops e st = false := by
    unfold State.edgeStops
    cases hp : (s.axis (s.edgeAxis e)).held.positive with
    | none => exact Bool.and_false _
    | some p =>
      rw [hp] at hdir
      rw [Option.any_some, (edgeShown_guards he hst ha p).2 hother fun h => hdir (congrArg some h)]
      exact Bool.and_false _
  rw [edgeTo_eq hM ha]
  unfold State.applyIf
  rw [hstops]
  exact edgeShown_axis ..

/-- What a loop resistance outside the gaps reads. -/
theorem edgeReading_of {ohm : Nat} (h : ohm < 500 ∨ (4000 ≤ ohm ∧ ohm ≤ 12000) ∨ 20000 < ohm) :
    edgeReading ohm = some (if ohm < 500 then 1 else if ohm ≤ 12000 then 0 else 2) := by
  unfold edgeReading
  by_cases h1 : ohm < 500
  · rw [if_pos h1, if_pos h1]
  · by_cases h2 : ohm ≤ 12000
    · rw [if_neg h1, if_pos (by omega), if_neg h1, if_pos h2]
    · rw [if_neg h1, if_neg (by omega), if_pos (by omega), if_neg h1, if_neg h2]

/-- The state in which a loop resistance in a gap is no longer waited on. -/
def State.gapEnded (s : State) (e : Nat) : State := s.onSaf fun x => { x with edgeGap := x.edgeGap.filter fun g => g.1 != e }

theorem execEdgeChange_claim (e ohm a : Nat) (c : Cycle) (s : State) : Claims.edgeChange e ohm a c s := by
  intro hruns hshape hM he hohm ha haxis hcycle hkind hrank
  obtain ⟨-, hlen, -, -⟩ := hshape
  subst haxis
  have hexec : exec (.edgeChange e ohm) s =
      .next ((s.gapEnded e).edgeTo e (if ohm < 500 then 1 else if ohm ≤ 12000 then 0 else 2)) := by
    show execEdgeChange e ohm s = _
    unfold execEdgeChange
    rw [if_pos ⟨hruns, he⟩, edgeReading_of hohm]
    rfl
  have hst : (if ohm < 500 then 1 else if ohm ≤ 12000 then 0 else 2) < 4 := by split_ifs <;> decide
  have hne : (ohm < 500 ∨ 20000 < ohm) → (if ohm < 500 then 1 else if ohm ≤ 12000 then 0 else 2) ≠ 0 := fun h => by
    split_ifs
    · decide
    · omega
    · decide
  generalize (if ohm < 500 then 1 else if ohm ≤ 12000 then 0 else 2) = st at *
  obtain ⟨hshow, hactive⟩ := edgeTo_words (s := s.gapEnded e) he hst
  refine ⟨_, hexec, hshow, by rw [edgeTo_saf]; rfl, fun h => hactive hM ha (hne h), fun h hdir => ?_, fun hother hdir => ?_⟩
  · obtain ⟨⟨hstate, hstop⟩, hflag⟩ := edgeTo_stops (s := s.gapEnded e) hM hlen he hst (hne h) ha hcycle hkind hrank hdir
    exact ⟨hstop, hflag, hstate⟩
  · exact (congrArg AxisSt.cycle (edgeTo_keeps (s := s.gapEnded e) hM he hst ha hother hdir)).trans hcycle

theorem execEdgeChange_gap_claim (e ohm : Nat) (s : State) : Claims.edgeInGap e ohm s := by
  intro hruns he hohm hnone
  have hreading : edgeReading ohm = none := by
    unfold edgeReading
    rw [if_neg (by omega), if_neg (by omega), if_neg (by omega)]
  have hany : (s.saf.edgeGap.any fun g => g.1 == e) = false := by
    rw [List.any_eq_false]
    intro g hg hge
    exact absurd (eq_of_beq hge) (bne_iff_ne.mp (List.all_eq_true.mp hnone g hg))
  show execEdgeChange e ohm s = _
  unfold execEdgeChange State.onSaf
  rw [if_pos ⟨hruns, he⟩, hreading]
  simp only [hany, Bool.false_eq_true, if_false]

theorem execEdgeGapTimeout_claim (e w : Nat) (s : State) : Claims.edgeGapTimeout e w s := by
  intro hshape he hfind
  have hexec : exec (.edgeGapTimeout e) s = .next (((s.advanceTo (w + 10000)).gapEnded e).edgeTo e 2) := by
    show execEdgeGapTimeout e s = _
    unfold execEdgeGapTimeout
    rw [hfind]
    rfl
  obtain ⟨hshow, hactive⟩ := edgeTo_words (s := (s.advanceTo (w + 10000)).gapEnded e) he (st := 2) (by decide)
  refine ⟨_, hexec, edgeTo_now .., hshow, ?_, fun hM ha => hactive hM ha (by decide)⟩
  rw [edgeTo_saf]
  exact List.all_eq_true.mpr fun g hg => (List.mem_filter.mp hg).2

/-! ### Limit switches -/

/-- The limit switch stops a cycle that no higher-ranked cause stops. -/
theorem stopAtLimit_acts {s : State} {a : Nat} {c : Cycle} (hc : (s.axis a).cycle = some c) (hrank : 8 < c.stop.getD 10) : s.stopAtLimit a =
    ((s.stopAxis a 8).flag (F.AX_IFLAG_LIMIT.on a)).onAxis a fun x => { x with cause := some 10 } := by
  unfold State.stopAtLimit
  rw [hc]
  exact if_pos (decide_eq_true hrank)

theorem execLimitSwitch_claim (a : Nat) (c : Cycle) (s : State) : Claims.limitSwitch a c s := by
  intro hshape hM ha hcycle hkind hstop
  obtain ⟨-, hlen, -, -⟩ := hshape
  have hlim : (s.setOn (F.AX_STAT_LIM.on a) true).on (F.AX_STAT_LIM.on a) = true := State.on_setOn_okay (f := F.AX_STAT_LIM.on a) rfl s true
  have hdir : (s.setOn (F.AX_STAT_LIM.on a) true).get (F.AX_CFG_LIMDIR.on a) = s.get (F.AX_CFG_LIMDIR.on a) :=
    State.get_setOn_leaves (leaves_ax rfl rfl (by decide) a) _ _
  have hax : (s.setOn (F.AX_STAT_LIM.on a) true).axis a = s.axis a := axis_setOn ..
  have hulen : (s.setOn (F.AX_STAT_LIM.on a) true).mot.axes.length = 6 := by unfold State.setOn; rw [State.set_mot]; exact hlen
  have hexec : exec (.limitSwitch a) s = .next ((s.setOn (F.AX_STAT_LIM.on a) true).applyIf
      ((s.axis a).held.positive.any fun p => (s.setOn (F.AX_STAT_LIM.on a) true).limitGuards a p) fun t => t.stopAtLimit a) := by
    show execLimitSwitch a s = _
    unfold execLimitSwitch
    rw [hM, decide_eq_false (by omega : ¬ 6 ≤ a)]
    refine (if_neg (by decide)).trans ?_
    dsimp only
    rw [hax, hcycle]
    dsimp only
    cases (s.axis a).held.positive with
    | none => rfl
    | some p =>
      dsimp only
      rw [hkind, Option.any_some]
      have hother : (!((1 : Nat) == 2 && (s.setOn (F.AX_STAT_LIM.on a) true).get (F.AX_HOME_METHOD.on a) == 2)) = true := rfl
      rw [hother, Bool.and_true]
      unfold State.applyIf
      split
      · rfl
      · rfl
  generalize s.setOn (F.AX_STAT_LIM.on a) true = u at *
  have hstopped : (u.stopAtLimit a).on (F.AX_STAT_LIM.on a) = true ∧ ((u.stopAtLimit a).axis a).cycle.bind Cycle.stop = some 8 ∧
      (u.stopAtLimit a).on (F.AX_IFLAG_LIMIT.on a) = true := by
    have hc : (u.axis a).cycle = some c := (congrArg AxisSt.cycle hax).trans hcycle
    obtain ⟨-, hcause⟩ := stopping_stopAxis (rank := 8) ha hc hulen (by rw [hstop]; decide)
    have hstay : (u.stopAxis a 8).on (F.AX_STAT_LIM.on a) = true := (on_stopAxis_leaves (.of_ax rfl (by decide) a) ..).trans hlim
    rw [stopAtLimit_acts hc (by rw [hstop]; decide)]
    refine ⟨(State.on_flag_leaves (leaves_ax rfl rfl (by decide) a) _).trans hstay, ?_, State.on_flag_okay (f := F.AX_IFLAG_LIMIT.on a) rfl _⟩
    rw [State.axis_onAxis, if_pos ⟨rfl, by rw [State.flag_mot, stopAxis_len]; omega⟩, axis_flag]
    exact hcause
  refine ⟨_, hexec, ?_, fun hheld h1 h2 => ?_, fun h0 => ?_⟩
  · unfold State.applyIf
    split
    · exact hstopped.1
    · exact hlim
  · have hguards : ((s.axis a).held.positive.any fun p => u.limitGuards a p) = true := by
      rw [hheld, Option.any_some]
      unfold State.limitGuards
      rw [hlim, hdir]
      rcases (by omega : s.get (F.AX_CFG_LIMDIR.on a) = 1 ∨ s.get (F.AX_CFG_LIMDIR.on a) = 2) with h | h
      · rw [h]; rfl
      · rw [h]; rfl
    unfold State.applyIf
    rw [if_pos hguards]
    exact hstopped.2
  · have hguards : ((s.axis a).held.positive.any fun p => u.limitGuards a p) = false := by
      cases (s.axis a).held.positive with
      | none => rfl
      | some p =>
        rw [Option.any_some]
        unfold State.limitGuards
        rw [hdir, h0]
        cases p with
        | true => exact Bool.and_false _
        | false => exact Bool.and_false _
    unfold State.applyIf
    rw [hguards]
    exact (congrArg AxisSt.cycle hax).trans hcycle

end Sys2Proof.Machine

/-- Settles O42: a stop of the axis is read off its plan; what no stop changes is shown for every field apart from those it sets. -/
theorem homingAndStops : Obligations.HomingAndStops :=
  ⟨Sys2Proof.Machine.execHomePoint_claim, Sys2Proof.Machine.execHomePoint_index_claim, Sys2Proof.Machine.execHomingTimeout_claim,
    Sys2Proof.Machine.execStall_claim, Sys2Proof.Machine.execStall_homes_claim, Sys2Proof.Machine.execObstacle_claim,
    Sys2Proof.Machine.execObstacle_outranked_claim, Sys2Proof.Machine.execEdgeChange_claim, Sys2Proof.Machine.execEdgeChange_gap_claim,
    Sys2Proof.Machine.execEdgeGapTimeout_claim, Sys2Proof.Machine.execLimitSwitch_claim⟩
end

section
/-! Motion cycles: their starts and ends, and the standstill after them (first part of O41). -/
set_option Elab.async false
namespace Sys2Proof.Machine
open Host

/-! ### Starts -/

section
variable {a : Nat} {s : State} {p : PendingStart} (hrun : s.running = true) (hheld : s.coresHeld = false) (hcycle : (s.axis a).cycle = none)
  (hpending : (s.axis a).pending = some p) (hkind : p.kind ≠ 3)
include hrun hheld hcycle hpending hkind

/-- A start of one axis that need not wait begins its cycle. -/
theorem execCycleStart_eq (hwaits : (s.advanceTo ((p.time / 250 + 3) * 250)).startWaits a = false) (hone : p.kind = 1 ∨ p.kind = 2) :
    exec (.cycleStart a) s = .next ((s.advanceTo ((p.time / 250 + 3) * 250)).startCycle a (if p.kind = 1 then
      (s.advanceTo ((p.time / 250 + 3) * 250)).newCycle a 1 p.target (planMove 0 0 ((p.target - s.setpoint a : Int) : Rat) (s.limits a))
      else (s.advanceTo ((p.time / 250 + 3) * 250)).newCycle a 2 p.target (planRun 0 0 (s.homeSpeed a false) (s.limits a)))) := by
  show execCycleStart a s = _
  unfold execCycleStart
  rw [hpending, hrun, hheld, hcycle]
  refine (if_neg (by decide)).trans ((if_neg ?_).trans ?_)
  · unfold State.cycleWaits
    rw [if_neg hkind]
    exact fun h => absurd (hwaits.symm.trans h) (by decide)
  · rcases hone with h | h
    · exact (if_pos h).trans (by rw [if_pos h]; rfl)
    · exact (if_neg (by omega)).trans ((if_pos h).trans (by rw [if_neg (by omega)]; rfl))

theorem execCycleStart_waits (hwaits : (s.advanceTo ((p.time / 250 + 3) * 250)).startWaits a = true) :
    exec (.cycleStart a) s = .next ((s.advanceTo ((p.time / 250 + 3) * 250)).setAxState a 1) := by
  show execCycleStart a s = _
  unfold execCycleStart
  rw [hpending, hrun, hheld, hcycle]
  refine (if_neg (by decide)).trans (if_pos ?_)
  unfold State.cycleWaits
  rw [if_neg hkind]
  exact hwaits
end

theorem bit_moving_startCycle {s : State} {a : Nat} (ha : a < 6) (c : Cycle) : bit ((s.startCycle a c).get F.MOT_STAT_MOVING) a = true := by
  unfold State.startCycle State.setMoving
  dsimp only
  rw [show ∀ (u : State) v, (u.setAxState a v).get F.MOT_STAT_MOVING = u.get F.MOT_STAT_MOVING from fun u v =>
    State.get_set_leaves (leaves_ax_out rfl (.inl (by decide)) a) u v]
  rw [State.get_set_lt rfl (withBit_lt true (State.get_lt _ _) ha), bit_withBit_same]

/-- The set-point of a move that nothing stops stands where its plan has come to, and at its end on the target. -/
theorem point_pos {c : Cycle} (hkind : (c.kind != 2) = true) (hstop : c.stop = none) (hv : c.v0 = 0) (ha : c.a0 = 0) :
    c.point.pos = Claims.profileAt c.plan c.origin c.target c.ticks := by
  unfold Cycle.point Cycle.ended Cycle.kin Claims.profileAt
  rw [hkind, hstop, hv, ha]
  simp only [Option.isNone_none, Bool.and_true, decide_eq_true_eq]

theorem execCycleStart_claim (a e : Nat) (target : Int) (s : State) : Claims.cycleStart a e target s := by
  intro hrun hheld hshape ha hcycle hpending hwaits
  obtain ⟨-, hlen, -, -⟩ := hshape
  have hexec := execCycleStart_eq hrun hheld hcycle hpending (by decide : (1 : Nat) ≠ 3) hwaits (.inl rfl)
  dsimp only at hexec
  rw [if_pos rfl] at hexec
  have haxis := startCycle_axis (s := s.advanceTo ((e / 250 + 3) * 250)) ha hlen
    ((s.advanceTo ((e / 250 + 3) * 250)).newCycle a 1 target (planMove 0 0 ((target - s.setpoint a : Int) : Rat) (s.limits a)))
  refine ⟨_, hexec, ?_, startCycle_axState .., bit_moving_startCycle ha _, ?_, ?_, ?_, ?_, ?_⟩
  · exact (altersOf (alters_startCycle (s.advanceTo ((e / 250 + 3) * 250)) a _)).now (by decide +kernel)
  · rw [haxis]
  · rw [haxis, (altersOf (alters_startCycle (s.advanceTo ((e / 250 + 3) * 250)) a _)).now (by decide +kernel)]
    rfl
  · rw [haxis]
    rfl
  · rw [haxis]
    rfl
  · rw [haxis]
    exact congrArg₂ (fun x y => [x, y]) (point_pos rfl rfl rfl rfl) (point_pos rfl rfl rfl rfl)

theorem execCycleStart_waits_claim (a : Nat) (p : PendingStart) (s : State) : Claims.cycleWaits a p s := by
  intro hrun ha hcycle hpending hkind hwaits hheld
  refine ⟨_, execCycleStart_waits hrun hheld hcycle hpending hkind hwaits, axState_setAxState _ a (by decide), ?_, State.set_mot ..⟩
  unfold State.setAxState
  rw [axis_set]
  exact hpending

theorem execCycleStart_homing_claim (a e : Nat) (target : Int) (s : State) : Claims.homingStart a e target s := by
  intro hrun hheld hshape ha hcycle hpending hwaits
  obtain ⟨-, hlen, -, -⟩ := hshape
  have hexec := execCycleStart_eq hrun hheld hcycle hpending (by decide : (2 : Nat) ≠ 3) hwaits (.inr rfl)
  dsimp only at hexec
  rw [if_neg (by decide)] at hexec
  have haxis := startCycle_axis (s := s.advanceTo ((e / 250 + 3) * 250)) ha hlen
    ((s.advanceTo ((e / 250 + 3) * 250)).newCycle a 2 target (planRun 0 0 (s.homeSpeed a false) (s.limits a)))
  have hspeed : s.homeSpeed a false =
      if s.get (F.AX_HOME_METHOD.on a) = 1 then (s.get (F.AX_HOMEV_VAL.on a) : Rat) else -(s.get (F.AX_HOMEV_VAL.on a) : Rat) := by
    unfold State.homeSpeed homePositive
    by_cases h : s.get (F.AX_HOME_METHOD.on a) = 1
    · rw [h]
      rfl
    · rw [beq_false_of_ne h, if_neg h]
      rfl
  refine ⟨_, hexec, startCycle_axState .., ?_, ?_, ?_, ?_⟩
  · rw [haxis]
    rfl
  · rw [haxis]
    rfl
  · rw [haxis]
    by_cases h : s.get (F.AX_HOME_METHOD.on a) = 4
    · exact (if_pos ⟨rfl, h⟩).trans (if_pos h).symm
    · exact (if_neg fun hp => h hp.2).trans (if_neg h).symm
  · rw [haxis, ← hspeed]
    rfl

/-! ### Ends -/

theorem outcomes_claim (c : Cycle) : Claims.outcomes c := ⟨rfl, rfl⟩

theorem rankOutcome_le (r : Nat) : rankOutcome r ≤ 8 := by
  unfold rankOutcome
  split <;> decide

theorem outcome_le (c : Cycle) : c.outcome ≤ 8 := by
  unfold Cycle.outcome
  split
  · exact rankOutcome_le _
  · split <;> decide

/-- A flag that is set stays set when another is. -/
theorem on_flag_keeps {f g : Fld} (h : f.leaves g = true ∨ (f = g ∧ g.okay = true)) {s : State} (hg : s.on g = true) : (s.flag f).on g = true := by
  rcases h with h | ⟨rfl, h⟩
  · exact (State.on_flag_leaves h s).trans hg
  · exact State.on_flag_okay h s

/-- The flags and the event that the end of a cycle sets. -/
def State.endFlags (s : State) (a outcome : Nat) : State :=
  let s := (s.flag (F.AX_IFLAG_DONE.on a)).flag (F.MOT_IFLAG_DONE.bit a)
  let s := s.applyIf (decide (6 ≤ outcome)) fun s => s.flag (F.AX_IFLAG_FAULT.on a)
  let s := s.setInt (F.AX_VEL_VAL.on a) 0
  (s.applyIf (decide (2 ≤ outcome)) fun s => s.flag (F.MOT_IFLAG_STOPPED.bit a)).outcomeEvent a outcome

/-- The outcome leaves a hold on the axis. -/
def outcomeHeld (outcome : Nat) : Bool := outcome != 0 && outcome != 1 && outcome != 2

/-- What the end of a cycle keeps for its axis. -/
def AxisSt.ended (x : AxisSt) (now : Nat) (outcome : Nat) (learns : Bool) (peaks : List (Nat × Nat)) : AxisSt := { x with
  cycle := none, askedAt := if x.pending.isSome && !outcomeHeld outcome then x.askedAt else none, endedAt := some now, restAt := now
  drive := if x.drive = 4 then 3 else x.drive
  pending := if outcomeHeld outcome then none else x.pending
  queue := [], env := if outcome = 0 ∧ learns = true then learnEnv x.env peaks else x.env }

/-- The parts of the state with a cycle ended: its ledger entry, and what is kept for its axis. -/
def State.endParts (s : State) (a outcome : Nat) (c : Cycle) : State :=
  ({ s with
    cyl := { s.cyl with buffer := s.cyl.buffer ++ [s.cycleEnd a outcome c] }
    mot := { s.mot with lastEnd := some s.now } } : State).onAxis a fun x => x.ended s.now outcome (s.on (F.AX_ENV_EN.on a)) c.peaks

/-- The words of an axis whose cycle has ended. -/
def State.endWords (s : State) (a outcome : Nat) : State :=
  ((s.set (F.AX_STAT_OUT.on a) outcome).setAxState a (if outcomeHeld outcome then 5 else 0)).setMoving a false

theorem endCycle_eq (s : State) (a outcome : Nat) (c : Cycle) : s.endCycle a outcome c =
    ((s.endParts a outcome c).endWords a outcome).endFlags a outcome := rfl

theorem endParts_get (s : State) (a outcome : Nat) (c : Cycle) (f : Fld) : (s.endParts a outcome c).get f = s.get f := rfl

theorem endParts_rsm (s : State) (a outcome : Nat) (c : Cycle) : (s.endParts a outcome c).rsm = s.rsm := rfl

theorem endParts_buffer (s : State) (a outcome : Nat) (c : Cycle) :
    (s.endParts a outcome c).cyl.buffer = s.cyl.buffer ++ [s.cycleEnd a outcome c] := rfl

theorem endParts_axis {s : State} {a : Nat} (h : a < s.mot.axes.length) (outcome : Nat) (c : Cycle) :
    (s.endParts a outcome c).axis a = (s.axis a).ended s.now outcome (s.on (F.AX_ENV_EN.on a)) c.peaks := by
  unfold State.endParts
  rw [State.axis_onAxis, if_pos ⟨rfl, h⟩]
  rfl

/-- The bit of AX_IFLAG whose event an outcome above 2 raises. -/
def outcomeBit (outcome : Nat) : Nat := min (outcome - 2) 4

theorem outcomeEvent_eq {outcome : Nat} (h : outcome ≤ 8) (s : State) (a : Nat) : s.outcomeEvent a outcome =
    if outcome < 3 then s else
      s.flagEvent ((F.AX_IFLAG_DONE.on a).bit (outcomeBit outcome)) (if outcome ≤ 5 then 1 else 2) [(F.AX_STAT_OUT.on a).addr] := by
  unfold State.outcomeEvent
  interval_cases outcome <;> rfl

/-- The flags that the end of a cycle may set. -/
def endFields (a : Nat) : List Fld := [F.AX_IFLAG_DONE.on a, F.MOT_IFLAG_DONE.bit a, F.AX_IFLAG_FAULT.on a, F.MOT_IFLAG_STOPPED.bit a]

section
variable (P : State → Prop) {a outcome : Nat} (h : outcome ≤ 8) (hflag : ∀ f ∈ endFields a, ∀ u, P u → P (u.flag f))
  (hvel : ∀ u, P u → P (u.setInt (F.AX_VEL_VAL.on a) 0))
  (hevent : ∀ u, P u → 3 ≤ outcome →
    P (u.flagEvent ((F.AX_IFLAG_DONE.on a).bit (outcomeBit outcome)) (if outcome ≤ 5 then 1 else 2) [(F.AX_STAT_OUT.on a).addr]))
include hflag in
theorem applyIf_flag_keeps {f : Fld} (hf : f ∈ endFields a) (b : Bool) {u : State} (hu : P u) : P (u.applyIf b fun u => u.flag f) := by
  unfold State.applyIf
  split
  · exact hflag f hf u hu
  · exact hu

include h hevent in
theorem outcomeEvent_keeps {u : State} (hu : P u) : P (u.outcomeEvent a outcome) := by
  rw [outcomeEvent_eq h]
  split
  · exact hu
  · exact hevent u hu (by omega)

include h hflag hvel hevent
/-- What every flag keeps that the end of a cycle sets, and VEL as it becomes 0, is kept. -/
theorem endFlags_keeps {s : State} (hs : P s) : P (s.endFlags a outcome) :=
  outcomeEvent_keeps P h hevent (applyIf_flag_keeps P hflag (by simp [endFields]) _ (hvel _
    (applyIf_flag_keeps P hflag (by simp [endFields]) _ (hflag _ (by simp [endFields]) _ (hflag _ (by simp [endFields]) _ hs)))))

/-- What one of the flags establishes, and the others keep, holds once all are set. -/
theorem endFlags_establishes (hone : (∀ u : State, P (u.flag (F.AX_IFLAG_DONE.on a))) ∨ (∀ u : State, P (u.flag (F.MOT_IFLAG_DONE.bit a))) ∨
    (6 ≤ outcome ∧ ∀ u : State, P (u.flag (F.AX_IFLAG_FAULT.on a))) ∨ (2 ≤ outcome ∧ ∀ u : State, P (u.flag (F.MOT_IFLAG_STOPPED.bit a))))
    (s : State) : P (s.endFlags a outcome) := by
  have hlast : ∀ {u : State}, P u → P (u.outcomeEvent a outcome) := outcomeEvent_keeps P h hevent
  have hstop : ∀ {u : State}, P u → P (u.applyIf (decide (2 ≤ outcome)) fun u => u.flag (F.MOT_IFLAG_STOPPED.bit a)) :=
    applyIf_flag_keeps P hflag (by simp [endFields]) _
  have hfault : ∀ {u : State}, P u → P (u.applyIf (decide (6 ≤ outcome)) fun u => u.flag (F.AX_IFLAG_FAULT.on a)) :=
    applyIf_flag_keeps P hflag (by simp [endFields]) _
  rcases hone with hd | hd | ⟨ho, hd⟩ | ⟨ho, hd⟩
  · exact hlast (hstop (hvel _ (hfault (hflag _ (by simp [endFields]) _ (hd _)))))
  · exact hlast (hstop (hvel _ (hfault (hd _))))
  · refine hlast (hstop (hvel _ ?_))
    unfold State.applyIf
    rw [decide_eq_true ho]
    exact hd _
  · refine hlast ?_
    unfold State.applyIf
    rw [decide_eq_true ho]
    exact hd _
end

/-- The words of an ended axis that none of the flags changes. -/
theorem get_endFlags {a outcome : Nat} (ho : outcome ≤ 8) {g : Fld} (hdone : ∀ b ≤ 6, ((F.AX_IFLAG_DONE.on a).bit b).leaves g = true)
    (hmot : (F.MOT_IFLAG_DONE.bit a).leaves g = true) (hstop : (F.MOT_IFLAG_STOPPED.bit a).leaves g = true)
    (hvel : (F.AX_VEL_VAL.on a).leaves g = true) (s : State) : (s.endFlags a outcome).get g = s.get g := by
  refine endFlags_keeps (fun t => t.get g = s.get g) ho (fun f hf u hu => ?_) (fun u hu => (State.get_set_leaves hvel u _).trans hu)
    (fun u hu h3 => (State.get_flagEvent_leaves (hdone _ (Nat.le_trans (Nat.min_le_right _ _) (by decide))) u _ _).trans hu) rfl
  simp only [endFields, List.mem_cons, List.not_mem_nil, or_false] at hf
  rcases hf with rfl | rfl | rfl | rfl
  · exact (State.get_flag_leaves (hdone 0 (by decide)) u).trans hu
  · exact (State.get_flag_leaves hmot u).trans hu
  · exact (State.get_flag_leaves (hdone 4 (by decide)) u).trans hu
  · exact (State.get_flag_leaves hstop u).trans hu

/-- The words of an ended cycle: its outcome, the state of its axis, and the axis at standstill. -/
theorem endCycle_words {a : Nat} (ha : a < 6) {outcome : Nat} (ho : outcome ≤ 8) (s : State) (c : Cycle) :
    (s.endCycle a outcome c).get (F.AX_STAT_OUT.on a) = outcome ∧
      (s.endCycle a outcome c).axState a = (if outcomeHeld outcome then 5 else 0) ∧
      bit ((s.endCycle a outcome c).get F.MOT_STAT_MOVING) a = false := by
  have hstat : ∀ {f : Fld}, f.page = 0x41 → (∀ b ≤ 6, (F.AX_IFLAG_DONE.bit b).leaves f = true) → Fld.leaves F.AX_VEL_VAL f = true → ∀ u : State,
      (u.endFlags a outcome).get (f.on a) = u.get (f.on a) := fun {f} hf h hv u =>
    get_endFlags ho (fun b hb => leaves_ax (f := F.AX_IFLAG_DONE.bit b) rfl hf (h b hb) a)
      (Fld.leaves_of_page (by rw [page_ax hf]; exact fun he => absurd he (by show ¬ 0x40 = _; omega)))
      (Fld.leaves_of_page (by rw [page_ax hf]; exact fun he => absurd he (by show ¬ 0x40 = _; omega))) (leaves_ax rfl hf hv a) u
  rw [endCycle_eq]
  generalize s.endParts a outcome c = u
  refine ⟨?_, ?_, ?_⟩
  · rw [hstat rfl (by decide) (by decide)]
    unfold State.endWords State.setMoving State.setAxState
    rw [State.get_set_leaves (leaves_out_ax (.inl (by decide)) rfl a), State.get_set_leaves (leaves_ax rfl rfl (by decide) a)]
    exact State.get_set_lt (f := F.AX_STAT_OUT.on a) rfl (by show outcome < 2 ^ 4; omega) u
  · refine (hstat (f := F.AX_STAT_STATE) rfl (by decide) (by decide) _).trans ?_
    unfold State.endWords State.setMoving
    rw [State.get_set_leaves (leaves_out_ax (.inl (by decide)) rfl a)]
    exact axState_setAxState _ a (by split <;> decide)
  · rw [get_endFlags ho (fun b hb => Fld.leaves_of_page (by
        show (F.AX_IFLAG_DONE.on a).page ≠ 0x40
        rw [page_ax rfl]
        omega))
      (by interval_cases a <;> decide) (by interval_cases a <;> decide) (leaves_ax_out rfl (.inl (by decide)) a)]
    unfold State.endWords State.setMoving
    rw [State.get_set_lt rfl (withBit_lt false (State.get_lt _ _) ha), bit_withBit_same]

/-- Fields of one page whose bits lie apart, or that are one, in what a flag keeps. -/
theorem on_keeps_endFields {a outcome : Nat} (ho : outcome ≤ 8) {g : Fld} (hokay : g.okay = true)
    (hf : ∀ f ∈ endFields a, f.leaves g = true ∨ f = g) (hvel : (F.AX_VEL_VAL.on a).leaves g = true)
    (hbit : ∀ b ≤ 4, ((F.AX_IFLAG_DONE.on a).bit b).leaves g = true ∨ (F.AX_IFLAG_DONE.on a).bit b = g)
    (hone : g = F.AX_IFLAG_DONE.on a ∨ g = F.MOT_IFLAG_DONE.bit a ∨ (6 ≤ outcome ∧ g = F.AX_IFLAG_FAULT.on a) ∨
      (2 ≤ outcome ∧ g = F.MOT_IFLAG_STOPPED.bit a)) (s : State) : (s.endFlags a outcome).on g = true := by
  refine endFlags_establishes (fun t => t.on g = true) ho (fun f hmem u hu => on_flag_keeps ((hf f hmem).imp_right fun h => ⟨h, hokay⟩) hu)
    (fun u hu => (State.on_set_leaves hvel u _).trans hu) (fun u hu h3 => ?_) ?_ s
  · exact on_flag_keeps ((hbit _ (Nat.min_le_right _ _)).imp_right fun h => ⟨h, hokay⟩) hu
  · rcases hone with rfl | rfl | ⟨h, rfl⟩ | ⟨h, rfl⟩
    · exact .inl fun u => State.on_flag_okay hokay u
    · exact .inr (.inl fun u => State.on_flag_okay hokay u)
    · exact .inr (.inr (.inl ⟨h, fun u => State.on_flag_okay hokay u⟩))
    · exact .inr (.inr (.inr ⟨h, fun u => State.on_flag_okay hokay u⟩))

theorem endFlags_flags {a outcome : Nat} (ha : a < 6) (ho : outcome ≤ 8) (s : State) :
    (s.endFlags a outcome).on (F.AX_IFLAG_DONE.on a) = true ∧ (s.endFlags a outcome).on (F.MOT_IFLAG_DONE.bit a) = true ∧
      (2 ≤ outcome → (s.endFlags a outcome).on (F.MOT_IFLAG_STOPPED.bit a) = true) ∧
      (6 ≤ outcome → (s.endFlags a outcome).on (F.AX_IFLAG_FAULT.on a) = true) := by
  refine ⟨?_, ?_, fun h => ?_, fun h => ?_⟩
  · exact on_keeps_endFields ho rfl (by interval_cases a <;> decide) (leaves_ax rfl rfl (by decide) a) (by interval_cases a <;> decide) (.inl rfl) s
  · exact on_keeps_endFields ho (by interval_cases a <;> rfl) (by interval_cases a <;> decide) (leaves_ax_out rfl (.inl (by show 0x40 < 0x41; decide)) a)
      (by interval_cases a <;> decide) (.inr (.inl rfl)) s
  · exact on_keeps_endFields ho (by interval_cases a <;> rfl) (by interval_cases a <;> decide) (leaves_ax_out rfl (.inl (by show 0x40 < 0x41; decide)) a)
      (by interval_cases a <;> decide) (.inr (.inr (.inr ⟨h, rfl⟩))) s
  · exact on_keeps_endFields ho rfl (by interval_cases a <;> decide) (leaves_ax rfl rfl (by decide) a) (by interval_cases a <;> decide)
      (.inr (.inr (.inl ⟨h, rfl⟩))) s

/-- What leaves the parts for motion, cycles and Rosemary alone. -/
def sameParts (s t : State) : Prop := t.mot = s.mot ∧ t.cyl = s.cyl ∧ t.now = s.now

theorem sameParts_set {s t : State} (h : sameParts s t) (f : Fld) (v : Nat) : sameParts s (t.set f v) := by
  obtain ⟨hm, hc, hn⟩ := h
  exact ⟨(State.set_mot ..).trans hm, (State.set_cyl ..).trans hc, (State.set_now ..).trans hn⟩

theorem sameParts_flagEvent {s t : State} (h : sameParts s t) (f : Fld) (cls : Nat) (l : List Nat) : sameParts s (t.flagEvent f cls l) := by
  obtain ⟨hm, hc, hn⟩ := h
  exact ⟨(State.flagEvent_mot ..).trans hm, (State.flagEvent_cyl ..).trans hc, (State.flagEvent_now ..).trans hn⟩

theorem endCycle_parts {a outcome : Nat} (ho : outcome ≤ 8) (s : State) (c : Cycle) :
    sameParts (s.endParts a outcome c) (s.endCycle a outcome c) := by
  rw [endCycle_eq]
  refine endFlags_keeps (sameParts _) ho (fun f _ u hu => sameParts_set hu f 1) (fun u hu => sameParts_set hu _ _)
    (fun u hu _ => sameParts_flagEvent hu ..) ?_
  exact sameParts_set (sameParts_set (sameParts_set ⟨rfl, rfl, rfl⟩ _ _) _ _) _ _

/-- An outcome above 2 raises its event. -/
theorem raised_endCycle {a outcome : Nat} (ho : outcome ≤ 8) (h : 3 ≤ outcome) (s : State) (c : Cycle) :
    raised s (s.endCycle a outcome c) ((F.AX_IFLAG_DONE.on a).page) (.flag (outcomeBit outcome)) (if outcome ≤ 5 then 1 else 2) := by
  have hbefore : ∀ u : State, u.rsm = s.rsm →
      raised s (u.outcomeEvent a outcome) ((F.AX_IFLAG_DONE.on a).page) (.flag (outcomeBit outcome)) (if outcome ≤ 5 then 1 else 2) := fun u hu => by
    rw [outcomeEvent_eq ho, if_neg (by omega)]
    have hr := raised_flagEvent (s := s) (a := u) (by rw [hu]) ((F.AX_IFLAG_DONE.on a).bit (outcomeBit outcome)) (if outcome ≤ 5 then 1 else 2)
      [(F.AX_STAT_OUT.on a).addr]
    have hlo : ((F.AX_IFLAG_DONE.on a).bit (outcomeBit outcome)).lo = outcomeBit outcome := Nat.zero_add _
    rw [hlo] at hr
    exact hr
  have hflag : ∀ f ∈ endFields a, ∀ u : State, u.rsm = s.rsm → (u.flag f).rsm = s.rsm := fun f _ u hu => (State.flag_rsm u f).trans hu
  rw [endCycle_eq]
  refine hbefore _ (applyIf_flag_keeps (fun u => u.rsm = s.rsm) hflag (by simp [endFields]) _ ((State.set_rsm ..).trans
    (applyIf_flag_keeps (fun u => u.rsm = s.rsm) hflag (by simp [endFields]) _ ((State.flag_rsm ..).trans ((State.flag_rsm ..).trans ?_)))))
  unfold State.endWords State.setMoving State.setAxState
  rw [State.set_rsm, State.set_rsm, State.set_rsm, endParts_rsm]

theorem execCycleEnd_eq {a : Nat} {c : Cycle} {s : State} (hcycle : (s.axis a).cycle = some c) (hlanded : c.landed = true)
    (hover : c.stop ≠ none ∨ ((c.kind = 2 → c.phase = 4) ∧ (s.hasEnc a = true → 4 ≤ c.settle))) :
    exec (.cycleEnd a) s = .next (s.endCycle a c.outcome c) := by
  show execCycleEnd a s = _
  unfold execCycleEnd
  rw [hcycle]
  refine if_pos ?_
  unfold State.cycleOver
  rw [hlanded, Bool.true_and]
  rcases hover with h | ⟨hkind, hsettle⟩
  · rw [Option.isSome_iff_ne_none.mpr h]
    rfl
  · simp only [Bool.or_eq_true, Bool.and_eq_true, bne_iff_ne, beq_iff_eq, Bool.not_eq_true', decide_eq_true_eq]
    refine .inr ⟨?_, ?_⟩
    · by_cases h : c.kind = 2
      · exact .inr (hkind h)
      · exact .inl h
    · cases h : s.hasEnc a with
      | true => exact .inr (hsettle h)
      | false => exact .inl rfl

theorem execCycleEnd_claim (a : Nat) (c : Cycle) (s : State) : Claims.cycleEnd a c s := by
  intro hshape ha hcycle hlanded hover
  obtain ⟨-, hlen, -, -⟩ := hshape
  have ho := outcome_le c
  obtain ⟨hout, hstate, hmoving⟩ := endCycle_words ha ho s c
  obtain ⟨hdone, hmdone, hstopped, hfault⟩ := endFlags_flags ha ho ((s.endParts a c.outcome c).endWords a c.outcome)
  obtain ⟨hmot, hcyl, -⟩ := endCycle_parts (a := a) ho s c
  have haxis : (s.endCycle a c.outcome c).axis a = (s.axis a).ended s.now c.outcome (s.on (F.AX_ENV_EN.on a)) c.peaks :=
    (State.axis_of_mot hmot a).trans (endParts_axis (by omega) ..)
  have hbuffer : (s.endCycle a c.outcome c).cyl.buffer.drop s.cyl.buffer.length = [s.cycleEnd a c.outcome c] := by
    rw [hcyl, endParts_buffer, List.drop_left]
  have hpage : (F.AX_IFLAG_DONE.on a).page = 0x41 + a := by
    rw [page_ax rfl, Nat.mod_eq_of_lt ha]
  have hraised := fun h3 => raised_endCycle (a := a) ho h3 s c
  rw [hpage] at hraised
  refine ⟨_, execCycleEnd_eq hcycle hlanded hover, by rw [haxis]; rfl, hout, ?_, hmoving, hdone, hmdone, hstopped, hfault, fun h3 h5 => ?_,
    fun h6 => ?_, by rw [hbuffer]; rfl, by rw [hbuffer]; rfl, by rw [hbuffer]; rfl, fun hkeep => ?_⟩
  · rw [hstate]
    unfold outcomeHeld
    by_cases h : 3 ≤ c.outcome
    · rw [if_pos h, bne_iff_ne.mpr (by omega), bne_iff_ne.mpr (by omega), bne_iff_ne.mpr (by omega)]
      rfl
    · rw [if_neg h]
      rcases (by omega : c.outcome = 0 ∨ c.outcome = 1 ∨ c.outcome = 2) with h | h | h
      · rw [h]; rfl
      · rw [h]; rfl
      · rw [h]; rfl
  · have hr := hraised h3
    rw [if_pos h5, show outcomeBit c.outcome = c.outcome - 2 from Nat.min_eq_left (by omega)] at hr
    exact hr
  · have hr := hraised (by omega)
    rw [if_neg (by omega), show outcomeBit c.outcome = 4 from Nat.min_eq_right (by omega)] at hr
    exact hr
  · rw [haxis]
    refine if_neg fun h => ?_
    rcases hkeep with hk | hk
    · exact hk h.1
    · rw [hk] at h
      exact absurd h.2 (by decide)

theorem execCycleEnd_envelope_claim (a b v : Nat) (c : Cycle) (s : State) : Claims.envelopeLearns a b v c s := by
  intro hshape ha hcycle hkind hsettle hen hb
  obtain ⟨-, hlen, -, -⟩ := hshape
  have hout : ({ c with landed := true, stop := none, peaks := [(b, v)] } : Cycle).outcome = 0 := if_neg hkind
  have hexec := execCycleEnd_eq hcycle rfl (.inr ⟨fun h => absurd h hkind, hsettle⟩)
  rw [hout] at hexec
  obtain ⟨hmot, -, -⟩ := endCycle_parts (a := a) (outcome := 0) (by decide) s { c with landed := true, stop := none, peaks := [(b, v)] }
  have haxis := (State.axis_of_mot hmot a).trans (endParts_axis (by omega) ..)
  refine ⟨_, hexec, ?_⟩
  rw [haxis]
  unfold AxisSt.ended learnEnv
  rw [hen]
  simp only [and_self, if_true, List.foldl_cons, List.foldl_nil]
  generalize (s.axis a).env = env at hb ⊢
  rw [List.getD_eq_getElem _ _ (by rw [List.length_modify]; exact hb), List.getD_eq_getElem _ _ hb, List.getElem_modify_eq]
  refine congrArg (fun x => (⟨x, env[b].count + 1⟩ : EnvBin)) ?_
  ring

/-! ### Holds and standstill -/

/-- An axis with its queue run empty. -/
def State.queueCut (s : State) (a : Nat) : State := s.onAxis a fun x => { x with queue := [] }

theorem execSetpointQueueEmpty_claim (a : Nat) (c : Cycle) (s : State) : Claims.setpointQueueEmpty a c s := by
  intro hshape hM ha hcycle hkind hstop
  obtain ⟨-, hlen, -, -⟩ := hshape
  have hexec : exec (.setpointQueueEmpty a) s = .next ((s.queueCut a).stopAxis a 3) := by
    show execSetpointQueueEmpty a s = _
    unfold execSetpointQueueEmpty
    rw [hM, hcycle]
    rfl
  have hax : ((s.queueCut a).axis a).cycle = some c := by
    unfold State.queueCut
    rw [State.axis_onAxis, if_pos ⟨rfl, by omega⟩]
    exact hcycle
  have hulen : (s.queueCut a).mot.axes.length = 6 := (onAxis_len ..).trans hlen
  have hset : (s.queueCut a).setpoint a = s.setpoint a := rfl
  rw [stopAxis_alone hax (by rw [hstop]; decide) hkind] at hexec
  have hpoint : ((s.queueCut a).causeFlag a 3).stopPoint a 3 true = s.setpoint a := hset
  have hc : (((s.queueCut a).causeFlag a 3).axis a).cycle = some c := (congrArg AxisSt.cycle (axis_causeFlag ..)).trans hax
  refine ⟨_, hexec, stopWith_axState .., (stopWith_setpoint rfl ..).trans hpoint, ?_⟩
  rw [stopWith_cycle (s := (s.queueCut a).causeFlag a 3) (by rw [mot_causeFlag]; exact hulen) ha, hc, hpoint]
  rfl

theorem execStandstillDelay_claim (a e : Nat) (s : State) : Claims.standstillDelay a e s := by
  intro hshape ha hended hcycle hpending
  obtain ⟨-, hlen, -, -⟩ := hshape
  have hexec : exec (.standstillDelay a) s = .next ((s.advanceTo (e +
      (if (s.brakeOf a).isSome then s.get (F.AX_TIMES_BRKT.on a) else s.get (F.AX_TIMES_STBYDLY.on a)) * 1000)).onAxis a fun x =>
        { x with endedAt := none, drive := if x.drive < 2 then x.drive else s.get (F.AX_CFG_STBY.on a) }) := by
    show execStandstillDelay a s = _
    unfold execStandstillDelay
    rw [hended, hcycle, hpending]
    rfl
  generalize (if (s.brakeOf a).isSome = true then s.get (F.AX_TIMES_BRKT.on a) else s.get (F.AX_TIMES_STBYDLY.on a)) = d at hexec ⊢
  have haxis := State.axis_onAxis (s.advanceTo (e + d * 1000)) a a fun x =>
    { x with endedAt := none, drive := if x.drive < 2 then x.drive else s.get (F.AX_CFG_STBY.on a) }
  rw [if_pos ⟨rfl, show a < s.mot.axes.length by omega⟩] at haxis
  refine ⟨_, hexec, by rw [haxis], ?_, by rw [haxis]; rfl⟩
  show max s.now (e + d * 1000) = _
  rw [Nat.mul_comm 1000]

end Sys2Proof.Machine
end

section
/-! A servo boundary, followed for one axis through the boundaries of the others and the evaluation of island 6 (R336, R337, R346, R350). -/
set_option Elab.async false
namespace Sys2Proof.Machine
open Host

/-! ### What is carried -/

/-- What a boundary shows of an axis. -/
def boundaryFields : List Fld := [F.AX_SETPT_VAL, F.AX_POS_VAL, F.AX_FERRNOW_VAL, F.AX_LOAD_IPH, F.AX_STAT_HOME, F.AX_STAT_LIM]

theorem boundaryFields_page {f : Fld} (h : f ∈ boundaryFields) : f.page = 0x41 := by
  have hall : ∀ f ∈ boundaryFields, f.page = 0x41 := by decide
  exact hall f h

/-- From one state to the next an axis keeps what a boundary shows of it, the positions it has queued, a cycle of its kind, and a stop of
rank 3. -/
structure Carried (b : Nat) (s t : State) : Prop where
  get : ∀ f ∈ boundaryFields, t.get (f.on b) = s.get (f.on b)
  len : t.mot.axes.length = s.mot.axes.length
  kind : (t.axis b).cycle.map Cycle.kind = (s.axis b).cycle.map Cycle.kind
  queue : (t.axis b).queue.map Setpoint.pos = (s.axis b).queue.map Setpoint.pos
  holds : Stopping b 3 s → Stopping b 3 t

namespace Carried
variable {b : Nat} {s t u : State}

theorem refl (b : Nat) (s : State) : Carried b s s := ⟨fun _ _ => rfl, rfl, rfl, rfl, id⟩

theorem trans (h : Carried b s t) (h' : Carried b t u) : Carried b s u :=
  ⟨fun f hf => (h'.get f hf).trans (h.get f hf), h'.len.trans h.len, h'.kind.trans h.kind, h'.queue.trans h.queue,
    fun hs => h'.holds (h.holds hs)⟩

theorem of_undisturbed (h : Undisturbed b s t) : Carried b s t := by
  obtain ⟨p, q, hax⟩ := h.axis
  exact ⟨fun f hf => h.get f (boundaryFields_page hf), h.len, by rw [hax], by rw [hax], fun hs => hs.undisturbed h⟩

/-- Words alone change, and none of those that a boundary shows or that says how the axis moves. -/
theorem of_words (hmot : t.mot = s.mot) (hget : ∀ f ∈ boundaryFields, t.get (f.on b) = s.get (f.on b))
    (hstate : t.axState b = s.axState b) : Carried b s t := by
  have hax := State.axis_of_mot hmot b
  exact ⟨hget, by rw [hmot], by rw [hax], by rw [hax], fun hs => ⟨hstate.trans hs.1, by rw [hax]; exact hs.2⟩⟩

/-- What an axis keeps beside its plan changes. -/
theorem of_onAxis (s : State) (a : Nat) {f : AxisSt → AxisSt} (hlen : s.mot.axes.length = 6) (hb : b < 6)
    (hcycle : (f (s.axis b)).cycle.map (fun c => (c.kind, c.stop)) = (s.axis b).cycle.map fun c => (c.kind, c.stop))
    (hqueue : (f (s.axis b)).queue.map Setpoint.pos = (s.axis b).queue.map Setpoint.pos) : Carried b s (s.onAxis a f) := by
  by_cases hab : a = b
  · subst hab
    have hax : (s.onAxis a f).axis a = f (s.axis a) := by rw [State.axis_onAxis, if_pos ⟨rfl, by omega⟩]
    have hkind := congrArg (Option.map Prod.fst) hcycle
    have hstop := congrArg (fun o => Option.bind o Prod.snd) hcycle
    simp only [Option.map_map, Option.bind_map] at hkind hstop
    exact ⟨fun _ _ => rfl, onAxis_len .., by rw [hax]; exact hkind, by rw [hax]; exact hqueue,
      fun hs => ⟨hs.1, by rw [hax]; exact hstop.trans hs.2⟩⟩
  · exact of_undisturbed (.of_onAxis hab ..)

theorem of_alters {m : Nat} (h : Alters m s t) (hmot : m.testBit (Nat.log2 partMot) = false)
    (hword : (boundaryFields ++ [F.AX_STAT_STATE]).all (fun f => !m.testBit (wordBit f.addr)) = true) : Carried b s t := by
  have hget : ∀ f ∈ boundaryFields ++ [F.AX_STAT_STATE], t.get (f.on b) = s.get (f.on b) := fun f hf => by
    refine h.get _ ?_
    rw [wordBit_on]
    exact (Bool.not_eq_true' _).mp (List.all_eq_true.mp hword f hf)
  exact of_words (h.mot hmot) (fun f hf => hget f (List.mem_append_left _ hf)) (hget _ (by simp))

theorem of_set {f : Fld} (hf : f.page < 0x41 ∨ 0x46 < f.page) (s : State) (v : Nat) : Carried b s (s.set f v) :=
  of_words (State.set_mot ..) (fun _ hg => State.get_set_leaves (leaves_out_ax hf (boundaryFields_page hg) b) s v)
    (State.get_set_leaves (leaves_out_ax hf rfl b) s v)

/-- A field of an axis that a boundary does not show. -/
theorem of_set_ax {f : Fld} (hf : f.page = 0x41) (h : ((boundaryFields ++ [F.AX_STAT_STATE]).all f.leaves) = true) (s : State)
    (a v : Nat) : Carried b s (s.set (f.on a) v) := by
  have hl : ∀ g ∈ boundaryFields ++ [F.AX_STAT_STATE], f.leaves g = true := fun g hg => List.all_eq_true.mp h g hg
  exact of_words (State.set_mot ..)
    (fun g hg => State.get_set_leaves (leaves_ax_any hf (boundaryFields_page hg) (hl g (List.mem_append_left _ hg)) a b) s v)
    (State.get_set_leaves (leaves_ax_any hf rfl (hl _ (by simp)) a b) s v)

theorem of_applyIf (c : Bool) {f : State → State} (h : Carried b s (f s)) : Carried b s (s.applyIf c f) := by
  unfold State.applyIf
  split
  · exact h
  · exact refl b s

theorem of_causeFlag (s : State) (a rank : Nat) : Carried b s (s.causeFlag a rank) := by
  unfold State.causeFlag
  split_ifs
  · exact of_set_ax rfl (by decide) s a 1
  · exact of_set_ax rfl (by decide) s a 1
  · exact of_set_ax rfl (by decide) s a 1
  · exact refl b s

/-- A stop along a ramp leaves the set-points that are queued, and the set-point that is latched. -/
theorem of_stopWith {a : Nat} (ha : a < 6) (hb : b < 6) (hlen : s.mot.axes.length = 6) {rank : Nat} {own : Bool} (hramp : stopRamps own rank = true)
    (hrank : (rank == 5 || rank == 2) = false) (hnot : ¬ Stopping b 3 s) (decel jerk : Rat) : Carried b s (s.stopWith a rank own decel jerk) := by
  by_cases hab : a = b
  · subst hab
    obtain ⟨held, phase, hax⟩ := stopWith_axis hlen ha rank own decel jerk
    refine ⟨fun f hf => ?_, stopWith_len .., ?_, ?_, fun h => absurd h hnot⟩
    · have hall : ∀ f ∈ boundaryFields, Fld.leaves F.AX_STAT_STATE f = true := by decide
      rw [stopWith_eq, if_pos hramp]
      refine (State.get_set_leaves (leaves_ax rfl (boundaryFields_page hf) (hall f hf) a) _ _).trans ?_
      unfold State.stopKept
      rw [hrank, Bool.and_false, Bool.false_and]
      rfl
    · rw [stopWith_cycle hlen ha, Option.map_map]
      rfl
    · rw [hax]
      unfold AxisSt.stopped
      rw [hramp]
      exact map_pos_goesOn _
  · exact of_undisturbed (.of_stopWith ha hb hab ..)

/-- A stop of rank 6 or 8 on an axis whose move is no group's. -/
theorem of_stopAxis {m : Nat} (hm : m < 6) (hb : b < 6) {c : Cycle} (hc : (s.axis b).cycle = some c) (hkind : c.kind ≠ 3)
    (hlen : s.mot.axes.length = 6) {rank : Nat} (hrank : rank = 6 ∨ rank = 8) : Carried b s (s.stopAxis m rank) := by
  by_cases hmb : m = b
  · subst hmb
    by_cases hstop : rank < c.stop.getD 10
    · rw [stopAxis_alone hc hstop hkind]
      refine (of_causeFlag s m rank).trans (of_stopWith hm hb (by rw [mot_causeFlag]; exact hlen) ?_ ?_ ?_ _ _)
      · rcases hrank with rfl | rfl <;> rfl
      · rcases hrank with rfl | rfl <;> rfl
      · rintro ⟨-, h⟩
        rw [axis_causeFlag, hc] at h
        have h3 : c.stop = some 3 := h
        rw [h3] at hstop
        exact absurd hstop (by show ¬ rank < 3; omega)
    · rw [stopAxis_ranked hc (Nat.le_of_not_lt hstop)]
      exact of_causeFlag s m rank
  · exact of_undisturbed (.of_stopAxis hb hc hlen hkind hm hmb rank)

end Carried

/-! ### The boundary of another axis -/

/-- The parts of the boundary of an axis: its set-point, what is read of it, and what follows from that. -/
def State.tickBegin (s : State) (a : Nat) : State := if s.queueEmpty a then s.stopAxis a 3 else s.latchSetpoint a
def State.tickRead (s : State) (a : Nat) (x : AxisSample) : State := ((s.tickBegin a).driveVector a).readAxis a x
def State.tickJudge (s : State) (a : Nat) (x : AxisSample) (moved : Int) : State := ((s.judgeLoad a x moved).homeStep a).checkStops a

theorem tickAxis_eq (s : State) (a : Nat) (x : AxisSample) : s.tickAxis a x =
    (s.tickRead a x).tickJudge a x ((s.tickRead a x).getInt (F.AX_POS_VAL.on a) - s.getInt (F.AX_POS_VAL.on a)) := rfl

/-- An axis moves, in no group. -/
def Roams (b : Nat) (s : State) : Prop := ∃ c, (s.axis b).cycle = some c ∧ c.kind ≠ 3

theorem Roams.undisturbed {b : Nat} {s t : State} (h : Roams b s) (ht : Undisturbed b s t) : Roams b t := by
  obtain ⟨c, hc, hk⟩ := h
  exact ⟨c, ht.cycle.trans hc, hk⟩

theorem Roams.carried {b : Nat} {s t : State} (h : Roams b s) (ht : Carried b s t) : Roams b t := by
  obtain ⟨c, hc, hk⟩ := h
  have hkind := ht.kind
  rw [hc] at hkind
  obtain ⟨d, hd, hdk⟩ := Option.map_eq_some_iff.mp hkind
  exact ⟨d, hd, by rw [hdk]; exact hk⟩

/-- The position that an axis reads, and its following error. -/
def State.readPos (s : State) (a : Nat) (x : AxisSample) : Int :=
  if s.hasEnc a then (if s.on (F.AX_CFG_DIR.on a) then -x.enc else x.enc) + (s.axis a).encOfs else s.setpoint a
def State.readErr (s : State) (a : Nat) (x : AxisSample) : Int := if s.hasEnc a then s.setpoint a - s.readPos a x else 0

/-- The words of what an axis reads at a boundary. -/
def State.readWords (s : State) (a : Nat) (x : AxisSample) : State :=
  ((((s.setInt (F.AX_POS_VAL.on a) (s.readPos a x)).setInt (F.AX_FERRNOW_VAL.on a) (s.readErr a x)).set (F.AX_LOAD_IPH.on a)
    (s.phaseCurrent a x)).setOn (F.AX_STAT_HOME.on a) x.home).setOn (F.AX_STAT_LIM.on a) x.lim

theorem readAxis_eq (s : State) (a : Nat) (x : AxisSample) : s.readAxis a x = (s.readWords a x).onAxis a fun y =>
    { y with torque := (s.readWords a x).torqueCurrent a x, encFault := x.encFault && (s.readWords a x).hasEnc a } := rfl

namespace Undisturbed
variable {m b : Nat} (hm : m < 6) (hb : b < 6) (hmb : m ≠ b)
include hm hb hmb

omit hm hb hmb in
theorem of_gate (s : State) (g : GateSt) : Undisturbed b s { s with gate := g } := ⟨⟨(s.axis b).pending, (s.axis b).staged, rfl⟩, fun _ _ => rfl, rfl⟩

theorem of_latchNext (s : State) : Undisturbed b s (s.latchNext m) := by
  have hgate := of_gate (b := b) s { s.gate with unheld := s.gate.unheld.filter (· != m) }
  unfold State.latchNext
  dsimp only
  split
  · split
    · exact hgate.trans (of_onAxis hmb _ _)
    · exact hgate.trans ((of_onAxis hmb _ _).trans ((of_latch hm hb hmb _ _).trans (of_onAxis hmb _ _)))
  · exact hgate

omit hm hb in
theorem of_computeNext (s : State) : Undisturbed b s (s.computeNext m) := by
  unfold State.computeNext
  split
  · exact of_onAxis hmb _ _
  · exact refl b s

theorem of_tickBegin {s : State} (h : Roams b s) (hlen : s.mot.axes.length = 6) : Undisturbed b s (s.tickBegin m) := by
  obtain ⟨c, hc, hk⟩ := h
  unfold State.tickBegin
  split
  · exact of_stopAxis hb hc hlen hk hm hmb 3
  · exact (of_latchNext hm hb hmb s).trans (of_computeNext hmb _)

theorem of_readAxis (s : State) (x : AxisSample) : Undisturbed b s (s.readAxis m x) := by
  have hwords : Undisturbed b s (s.readWords m x) := by
    unfold State.readWords State.setInt State.setOn
    exact (of_set_ax rfl hm hb hmb s _).trans ((of_set_ax rfl hm hb hmb _ _).trans ((of_set_ax rfl hm hb hmb _ _).trans
      ((of_set_ax rfl hm hb hmb _ _).trans (of_set_ax rfl hm hb hmb _ _))))
  rw [readAxis_eq]
  exact hwords.trans (of_onAxis hmb _ _)

theorem of_judgeLoad (s : State) (x : AxisSample) (moved : Int) : Undisturbed b s (s.judgeLoad m x moved) := by
  unfold State.judgeLoad
  split
  · exact (of_set_ax rfl hm hb hmb _ _).trans (of_set_ax rfl hm hb hmb _ _)
  · exact (of_set_ax rfl hm hb hmb _ _).trans ((of_set_ax rfl hm hb hmb _ _).trans (of_onAxis hmb _ _))

omit hm hb in
theorem of_homeStep (s : State) : Undisturbed b s (s.homeStep m) := by
  unfold State.homeStep
  split
  · split_ifs
    · exact refl b s
    · exact of_onAxis hmb _ _
    · exact of_onAxis hmb _ _
    · exact refl b s
  · exact refl b s

theorem of_stopAtLimit {s : State} (h : Roams b s) (hlen : s.mot.axes.length = 6) : Undisturbed b s (s.stopAtLimit m) := by
  obtain ⟨c, hc, hk⟩ := h
  unfold State.stopAtLimit State.applyIf
  dsimp only
  refine (of_stopAxis hb hc hlen hk hm hmb 8).trans ((of_set_ax (f := F.AX_IFLAG_LIMIT) rfl hm hb hmb _ 1).trans ?_)
  split
  · exact of_onAxis hmb _ _
  · exact refl b _

omit hm hb hmb in
theorem of_applyIf {s : State} (c : Bool) {f : State → State} (h : Undisturbed b s (f s)) : Undisturbed b s (s.applyIf c f) := by
  unfold State.applyIf
  split
  · exact h
  · exact refl b s

theorem of_stopAxis_roams {s : State} (h : Roams b s) (hlen : s.mot.axes.length = 6) (rank : Nat) : Undisturbed b s (s.stopAxis m rank) := by
  obtain ⟨c, hc, hk⟩ := h
  exact of_stopAxis hb hc hlen hk hm hmb rank

theorem of_checkStops {s : State} (h : Roams b s) (hlen : s.mot.axes.length = 6) : Undisturbed b s (s.checkStops m) := by
  unfold State.checkStops
  split
  · dsimp only
    have h1 := fun p => of_applyIf (s := s) p (f := fun s => s.stopAxis m 6) (of_stopAxis_roams hm hb hmb h hlen 6)
    have h2 := fun p q => of_applyIf (s := s.applyIf p fun s => s.stopAxis m 6) q (f := fun s => s.stopAtLimit m)
      (of_stopAtLimit hm hb hmb (h.undisturbed (h1 p)) ((h1 p).len.trans hlen))
    refine (h1 _).trans ((h2 _ _).trans (of_applyIf _ (of_stopAxis_roams hm hb hmb ?_ ?_ 8)))
    · exact (h.undisturbed (h1 _)).undisturbed (h2 _ _)
    · exact (h2 _ _).len.trans ((h1 _).len.trans hlen)
  · exact refl b s

/-- The boundary of another axis leaves an axis in no group alone. -/
theorem of_tickAxis {s : State} (h : Roams b s) (hlen : s.mot.axes.length = 6) (x : AxisSample) : Undisturbed b s (s.tickAxis m x) := by
  have hread : Undisturbed b s (s.tickRead m x) :=
    (of_tickBegin hm hb hmb h hlen).trans ((of_onAxis hmb _ _).trans (of_readAxis hm hb hmb _ x))
  rw [tickAxis_eq]
  generalize (s.tickRead m x).getInt (F.AX_POS_VAL.on m) - s.getInt (F.AX_POS_VAL.on m) = moved
  have hjudge := (of_judgeLoad hm hb hmb (s.tickRead m x) x moved).trans (of_homeStep hmb _)
  exact hread.trans (hjudge.trans (of_checkStops hm hb hmb (h.undisturbed (hread.trans hjudge)) ((hread.trans hjudge).len.trans hlen)))

end Undisturbed

/-! ### What follows from what an axis reads -/

namespace Carried
variable {b : Nat} (hb : b < 6) {s : State}
include hb

theorem of_stopAxis_roams {m : Nat} (hm : m < 6) (h : Roams b s) (hlen : s.mot.axes.length = 6) {rank : Nat} (hrank : rank = 6 ∨ rank = 8) :
    Carried b s (s.stopAxis m rank) := by
  obtain ⟨c, hc, hk⟩ := h
  exact of_stopAxis hm hb hc hk hlen hrank

theorem of_stopAtLimit (h : Roams b s) (hlen : s.mot.axes.length = 6) : Carried b s (s.stopAtLimit b) := by
  have hstop := of_stopAxis_roams hb hb h hlen (rank := 8) (.inr rfl)
  have hflag : Carried b s ((s.stopAxis b 8).flag (F.AX_IFLAG_LIMIT.on b)) := hstop.trans (of_set_ax rfl (by decide) _ b 1)
  unfold State.stopAtLimit
  exact hflag.trans (of_applyIf _ (of_onAxis _ b (hflag.len.trans hlen) hb rfl rfl))

theorem of_checkStops (h : Roams b s) (hlen : s.mot.axes.length = 6) : Carried b s (s.checkStops b) := by
  unfold State.checkStops
  split
  · dsimp only
    have h1 := fun p => of_applyIf (s := s) p (f := fun s => s.stopAxis b 6) (of_stopAxis_roams hb hb h hlen (.inl rfl))
    have h2 := fun p q => of_applyIf (s := s.applyIf p fun s => s.stopAxis b 6) q (f := fun s => s.stopAtLimit b)
      (of_stopAtLimit hb (h.carried (h1 p)) ((h1 p).len.trans hlen))
    refine (h1 _).trans ((h2 _ _).trans (of_applyIf _ (of_stopAxis_roams hb hb ?_ ?_ (.inr rfl))))
    · exact (h.carried (h1 _)).carried (h2 _ _)
    · exact (h2 _ _).len.trans ((h1 _).len.trans hlen)
  · exact refl b s

theorem of_judgeLoad (hlen : s.mot.axes.length = 6) (x : AxisSample) (moved : Int) : Carried b s (s.judgeLoad b x moved) := by
  unfold State.judgeLoad
  split
  · exact (of_set_ax rfl (by decide) s b _).trans (of_set_ax rfl (by decide) _ b _)
  · dsimp only
    refine (of_set_ax rfl (by decide) s b _).trans ((of_set_ax rfl (by decide) _ b _).trans (of_onAxis _ b ?_ hb ?_ rfl))
    · rw [State.set_mot, State.set_mot]
      exact hlen
    · rw [Option.map_map]
      rfl

/-- What follows from what a move that is no homing reads at a boundary. -/
theorem of_tickJudge {c : Cycle} (hc : (s.axis b).cycle = some c) (hkind : c.kind = 1) (hlen : s.mot.axes.length = 6) (x : AxisSample) (moved : Int) :
    Carried b s (s.tickJudge b x moved) := by
  have hjudge := of_judgeLoad hb hlen x moved
  have hkind' : ((s.judgeLoad b x moved).axis b).cycle.map Cycle.kind = some 1 := by rw [hjudge.kind, hc, Option.map_some, hkind]
  have hstep : (s.judgeLoad b x moved).homeStep b = s.judgeLoad b x moved := by
    unfold State.homeStep
    cases hd : ((s.judgeLoad b x moved).axis b).cycle with
    | none => rfl
    | some d =>
      rw [hd, Option.map_some] at hkind'
      exact if_pos (.inl (by rw [Option.some.inj hkind']; decide))
  unfold State.tickJudge
  rw [hstep]
  obtain ⟨d, hd, hdk⟩ := Option.map_eq_some_iff.mp hkind'
  exact hjudge.trans (of_checkStops hb ⟨d, hd, by rw [hdk]; decide⟩ (hjudge.len.trans hlen))

end Carried

/-! ### The evaluation after a boundary -/

namespace Carried
variable {b : Nat} (hb : b < 6) {s : State}

theorem of_showRoles (s : State) : Carried b s s.showRoles := by
  have hroles : ∀ l : List Nat, Carried b s (l.foldl (fun (t : State) a => t.setOn (F.AX_STAT_ATNPOS.on a) (t.atNamed a)) s) := fun l =>
    foldl_keeps (Carried b s) (fun t a ht => ht.trans (of_set_ax rfl (by decide) t a _)) l (refl b s)
  unfold State.showRoles
  dsimp only
  have h0 := hroles axisList
  refine Carried.trans ?_ (of_set (.inl (by decide)) _ _)
  refine Carried.trans ?_ (of_set (.inl (by decide)) _ _)
  refine Carried.trans ?_ (of_set (.inl (by decide)) _ _)
  refine Carried.trans ?_ (of_set (.inl (by decide)) _ _)
  refine Carried.trans ?_ (of_applyIf _ (of_set (.inl (by decide)) _ 1))
  exact h0.trans (of_applyIf _ (of_set (.inl (by decide)) _ 1))

theorem of_onSaf (s : State) (f : SafetySt → SafetySt) : Carried b s (s.onSaf f) := of_words rfl (fun _ _ => rfl) rfl

theorem of_markSafestop (s : State) (v : Bool) : Carried b s (s.markSafestop v) :=
  (of_set (.inl (by decide)) s _).trans ((of_set (.inl (by decide)) _ _).trans (of_applyIf _ (of_set (.inl (by decide)) _ _)))

include hb

theorem of_driveTested (hlen : s.mot.axes.length = 6) (k : Nat) : Carried b s (s.driveTested k) := by
  unfold State.driveTested
  split
  · exact of_onAxis s _ hlen hb rfl rfl
  · exact refl b s

theorem of_abortTest (hlen : s.mot.axes.length = 6) (k : Nat) : Carried b s (s.abortTest k) := by
  have hflag : Carried b s ((s.flag F.SAF_IFLAG_BTEST).onSaf fun x => { x with
      testing := x.testing.filter (· != k), aborted := k :: x.aborted.filter (· != k) }) :=
    (of_set (.inl (by decide)) s 1).trans (of_onSaf _ _)
  have hdrive := hflag.trans (of_driveTested hb (hflag.len.trans hlen) k)
  unfold State.abortTest
  dsimp only
  split
  · exact hdrive.trans (of_set (.inl (by unfold resultField; split <;> decide)) _ _)
  · exact hdrive.trans (of_alters (altersOf (alters_notTestable _ k)) (by decide +kernel) (by decide +kernel))

theorem of_abortBrakeTests (hlen : s.mot.axes.length = 6) (p : Nat → Bool) : Carried b s (s.abortBrakeTests p) :=
  foldl_keeps (Carried b s) (fun _ k ht => ht.trans (of_abortTest hb (ht.len.trans hlen) k)) _ (refl b s)

theorem of_stopAllAxes (h : Roams b s) (hlen : s.mot.axes.length = 6) : Carried b s (s.stopAllAxes 8) := by
  unfold State.stopAllAxes
  split
  · exact foldl_keeps_of_mem (Carried b s) _ (fun t m hm ht => ht.trans
      (of_stopAxis_roams hb (mem_axisList.mp hm) (h.carried ht) (ht.len.trans hlen) (.inr rfl))) (refl b s)
  · exact refl b s

theorem of_showSafestop (h : Roams b s) (hlen : s.mot.axes.length = 6) : Carried b s s.showSafestop := by
  have hmark := of_markSafestop (b := b) s s.safestopCond
  rw [showSafestop_eq]
  split
  · have hflag := hmark.trans ((of_set (f := F.SAF_IFLAG_STOP) (.inl (by decide)) _ 1).trans
      (of_onSaf _ fun x => { x with stopSince := (s.markSafestop s.safestopCond).now }))
    have hstop := hflag.trans (of_stopAllAxes hb (h.carried hflag) (hflag.len.trans hlen))
    exact hstop.trans (of_abortBrakeTests hb (hstop.len.trans hlen) _)
  · split
    · exact hmark
    · exact hmark.trans (of_onSaf _ _)

theorem of_endWaits (h : Roams b s) (hlen : s.mot.axes.length = 6) (k : Nat) : Carried b s (s.endWaits k) := by
  have hnaming : ∀ a ∈ s.naming k, a < 6 := fun a ha => by
    unfold State.naming at ha
    split at ha
    · exact mem_axisList.mp (List.mem_filter.mp ha).1
    · exact absurd ha List.not_mem_nil
  unfold State.endWaits
  split
  · refine of_undisturbed (foldl_keeps_of_mem (Undisturbed b s) _ (fun t m hm ht => ?_) (.refl b s))
    split
    · obtain ⟨c, hc, -⟩ := h.undisturbed ht
      exact ht.trans (.of_dropPending hb (hnaming m hm) (by rw [hc]; rfl) (ht.len.trans hlen) 8)
    · exact ht
  · exact refl b s

/-- The evaluation of island 6 may stop an axis along its ramp. -/
theorem of_safetyEval (h : Roams b s) (hlen : s.mot.axes.length = 6) : Carried b s s.safetyEval := by
  have hguard : ∀ (u : State) n, Carried b u (u.noteGuard n) := fun u n =>
    of_alters (altersOf (alters_noteGuard u n)) (by decide +kernel) (by decide +kernel)
  have hseen : Carried b s s.evalSeen := by
    unfold State.evalSeen
    dsimp only
    refine Carried.trans ?_ (of_set (.inl (by decide)) _ _)
    refine Carried.trans ?_ (of_set (.inl (by decide)) _ _)
    refine Carried.trans ?_ (of_set (.inl (by decide)) _ _)
    exact ((hguard s 0).trans (hguard _ 1)).trans (of_applyIf _ (of_set (.inl (by decide)) _ _))
  have hstop := hseen.trans (of_showSafestop hb (h.carried hseen) (hseen.len.trans hlen))
  have hprop : Carried b s s.evalSeen.showSafestop.showProp := hstop.trans
    (of_alters (altersOf (alters_showProp _)) (by decide +kernel) (by decide +kernel))
  have hchgil : Carried b s s.evalSeen.showSafestop.showProp.showChgil := hprop.trans
    (of_alters (altersOf (alters_showChgil _)) (by decide +kernel) (by decide +kernel))
  have hout : Carried b s s.evalOutputs := hchgil.trans (of_set (.inl (by decide)) _ _)
  have hdrive : ∀ (u : State) n, Carried b u (u.driveBrake n) := fun u n =>
    of_alters (altersOf (alters_driveBrake u n)) (by decide +kernel) (by decide +kernel)
  have hduty : ∀ (u : State) n, Carried b u (u.brakeDuty n) := fun u n =>
    of_alters (altersOf (alters_brakeDuty u n)) (by decide +kernel) (by decide +kernel)
  have hbrakes := hout.trans ((hdrive _ 0).trans ((hdrive _ 1).trans ((hduty _ 0).trans (hduty _ 1))))
  rw [safetyEval_eq]
  have hfirst := hbrakes.trans (of_endWaits hb (h.carried hbrakes) (hbrakes.len.trans hlen) 0)
  exact hfirst.trans (of_endWaits hb (h.carried hfirst) (hfirst.len.trans hlen) 1)

end Carried

end Sys2Proof.Machine
end

section
/-! The servo periods of a motion cycle (second part of O41). -/
set_option Elab.async false
namespace Sys2Proof.Machine
open Host

/-! ### The set-point that is latched -/

/-- The G-die has been asked for the set-point of an axis. -/
def State.heldNow (s : State) (a : Nat) : State := { s with gate := { s.gate with unheld := s.gate.unheld.filter (· != a) } }

section
variable {s : State} {a : Nat} {c : Cycle} {p : Setpoint} {rest : List Setpoint} (ha : a < 6) (hlen : s.mot.axes.length = 6)
  (hcycle : (s.axis a).cycle = some c) (hqueue : (s.axis a).queue = p :: rest)
include hcycle hqueue

theorem latchNext_eq : s.latchNext a =
    if s.gate.unheld.contains a then (s.heldNow a).onAxis a fun x => { x with queue := rest }
    else (((s.heldNow a).onAxis a fun x => { x with queue := rest }).latch a p).onCycle a fun c => { c with landed := p.last } := by
  have hax : (s.heldNow a).axis a = s.axis a := rfl
  rw [← hax] at hcycle hqueue
  show (match ((s.heldNow a).axis a).cycle, ((s.heldNow a).axis a).queue with
    | some _, p :: rest =>
      if s.gate.unheld.contains a then (s.heldNow a).onAxis a fun x => { x with queue := rest }
      else (((s.heldNow a).onAxis a fun x => { x with queue := rest }).latch a p).onCycle a fun c => { c with landed := p.last }
    | _, _ => s.heldNow a) = _
  rw [hcycle, hqueue]

include ha hlen

theorem latchNext_latched (hheld : s.gate.unheld.contains a = false) :
    ((s.latchNext a).axis a).cycle = some { c with landed := p.last } ∧ ((s.latchNext a).axis a).queue = rest ∧
      (s.latchNext a).setpoint a = (BitVec.ofInt 32 p.pos).toInt := by
  rw [latchNext_eq hcycle hqueue, if_neg (by rw [hheld]; decide)]
  have hl : ((s.heldNow a).onAxis a fun x => { x with queue := rest }).mot.axes.length = 6 := (onAxis_len ..).trans hlen
  obtain ⟨phase, hax⟩ := latch_axis hl ha p
  rw [State.axis_onAxis, if_pos ⟨rfl, show a < s.mot.axes.length by omega⟩] at hax
  have hll : (((s.heldNow a).onAxis a fun x => { x with queue := rest }).latch a p).mot.axes.length = 6 := by
    unfold State.latch State.setInt
    dsimp only
    rw [State.set_mot, State.set_mot, onAxis_len, hl]
  have hset : ((((s.heldNow a).onAxis a fun x => { x with queue := rest }).latch a p).setpoint a) = (BitVec.ofInt 32 p.pos).toInt :=
    (getInt_of_get (State.get_set_leaves (leaves_ax rfl rfl (by decide) a) _ _)).trans (getInt_setInt rfl rfl _ _)
  generalize ((s.heldNow a).onAxis a fun x => { x with queue := rest }).latch a p = u at *
  unfold State.onCycle
  rw [State.axis_onAxis, if_pos ⟨rfl, by omega⟩, hax]
  exact ⟨congrArg (Option.map _) hcycle, rfl, hset⟩

theorem latchNext_missed (hheld : s.gate.unheld.contains a = true) :
    ((s.latchNext a).axis a).cycle = some c ∧ ((s.latchNext a).axis a).queue = rest ∧ (s.latchNext a).setpoint a = s.setpoint a := by
  rw [latchNext_eq hcycle hqueue, if_pos hheld, State.axis_onAxis, if_pos ⟨rfl, show a < s.mot.axes.length by omega⟩]
  exact ⟨hcycle, rfl, rfl⟩
end

theorem latchNext_unheld (s : State) (a : Nat) : (s.latchNext a).gate.unheld = s.gate.unheld.filter (· != a) := by
  unfold State.latchNext
  dsimp only
  split
  · split
    · rfl
    · unfold State.onCycle State.latch State.setInt
      dsimp only
      show (((State.onAxis _ a _).set _ _).set _ _).gate.unheld = _
      rw [State.set_gate, State.set_gate]
      rfl
  · rfl

theorem computeNext_axis {s : State} {a : Nat} {c : Cycle} {q : List Setpoint} (h : a < s.mot.axes.length) (hcycle : (s.axis a).cycle = some c)
    (hqueue : (s.axis a).queue = q) : ((s.computeNext a).axis a).cycle.map Cycle.kind = some c.kind ∧
      ((s.computeNext a).axis a).queue = if s.coresRun then (c.compute (2 - q.length) q).2 else q := by
  unfold State.computeNext
  split
  · rw [State.axis_onAxis, if_pos ⟨rfl, h⟩, hcycle, hqueue]
    refine ⟨?_, rfl⟩
    dsimp only
    rw [compute_cycle]
    rfl
  · rw [hcycle]
    exact ⟨rfl, hqueue⟩

theorem computeNext_words (s : State) (a : Nat) : (s.computeNext a).gate = s.gate ∧ ∀ f, (s.computeNext a).get f = s.get f := by
  unfold State.computeNext
  split
  · exact ⟨rfl, fun _ => rfl⟩
  · exact ⟨rfl, fun _ => rfl⟩

/-! ### What an axis reads -/

theorem phaseCurrent_lt (s : State) (a : Nat) (x : AxisSample) : s.phaseCurrent a x < 2 ^ 16 := by
  unfold State.phaseCurrent
  omega

theorem readPos_range {s : State} {a : Nat} {x : AxisSample} (h : s.hasEnc a = false) : s.readPos a x = s.setpoint a ∧ s.readErr a x = 0 := by
  unfold State.readErr State.readPos
  rw [h]
  exact ⟨rfl, rfl⟩

theorem readAxis_get (s : State) (a : Nat) (x : AxisSample) (f : Fld) : (s.readAxis a x).get f = (s.readWords a x).get f := by
  rw [readAxis_eq]
  generalize s.readWords a x = u
  rfl

/-- The words of what an axis reads. -/
theorem readAxis_words (s : State) (a : Nat) (x : AxisSample) :
    (s.readAxis a x).setpoint a = s.setpoint a ∧
      (s.hasEnc a = false → (s.readAxis a x).getInt (F.AX_POS_VAL.on a) = s.setpoint a ∧ (s.readAxis a x).get (F.AX_FERRNOW_VAL.on a) = 0) ∧
      (s.readAxis a x).get (F.AX_LOAD_IPH.on a) = s.phaseCurrent a x ∧
      (s.readAxis a x).on (F.AX_STAT_HOME.on a) = x.home ∧ (s.readAxis a x).on (F.AX_STAT_LIM.on a) = x.lim := by
  have hword : ∀ f : Fld, (s.readAxis a x).get f = (s.readWords a x).get f := readAxis_get s a x
  have hkeep : ∀ {f : Fld}, f.page = 0x41 → Fld.leaves F.AX_STAT_HOME f = true → Fld.leaves F.AX_STAT_LIM f = true →
      ∀ u : State, ((u.setOn (F.AX_STAT_HOME.on a) x.home).setOn (F.AX_STAT_LIM.on a) x.lim).get (f.on a) = u.get (f.on a) := fun hf hh hl u =>
    (State.get_setOn_leaves (leaves_ax rfl hf hl a) _ _).trans (State.get_setOn_leaves (leaves_ax rfl hf hh a) _ _)
  have hset : (s.readAxis a x).get (F.AX_SETPT_VAL.on a) = s.get (F.AX_SETPT_VAL.on a) := by
    rw [hword]
    unfold State.readWords State.setInt
    rw [hkeep rfl (by decide) (by decide), State.get_set_leaves (leaves_ax rfl rfl (by decide) a),
      State.get_set_leaves (leaves_ax rfl rfl (by decide) a), State.get_set_leaves (leaves_ax rfl rfl (by decide) a)]
  have hpt : (s.readAxis a x).setpoint a = s.setpoint a := by
    unfold State.setpoint
    exact getInt_of_get hset
  refine ⟨hpt, fun henc => ?_, ?_, ?_, ?_⟩
  · obtain ⟨hpos, herr⟩ := readPos_range (x := x) henc
    have hr := getInt_range s (f := F.AX_SETPT_VAL.on a) rfl
    constructor
    · rw [getInt_of_get (hword _)]
      unfold State.readWords
      rw [hpos, getInt_of_get (hkeep rfl (by decide) (by decide) _), getInt_of_get (State.get_set_leaves (leaves_ax rfl rfl (by decide) a) _ _),
        getInt_setInt_leaves (leaves_ax rfl rfl (by decide) a)]
      exact getInt_setInt_range rfl rfl s hr.1 hr.2
    · rw [hword]
      unfold State.readWords
      rw [herr, hkeep rfl (by decide) (by decide), State.get_set_leaves (leaves_ax rfl rfl (by decide) a)]
      exact State.get_set_lt (f := F.AX_FERRNOW_VAL.on a) rfl (codeOf_lt 0) _
  · rw [hword]
    unfold State.readWords
    rw [hkeep rfl (by decide) (by decide)]
    exact State.get_set_lt (f := F.AX_LOAD_IPH.on a) rfl (phaseCurrent_lt ..) _
  · unfold State.on
    rw [hword]
    unfold State.readWords
    rw [State.get_setOn_leaves (leaves_ax rfl rfl (by decide) a)]
    exact State.on_setOn_okay (f := F.AX_STAT_HOME.on a) rfl _ _
  · unfold State.on
    rw [hword]
    exact State.on_setOn_okay (f := F.AX_STAT_LIM.on a) rfl _ _

theorem readAxis_axis {s : State} {a : Nat} (h : a < s.mot.axes.length) (x : AxisSample) : ((s.readAxis a x).axis a).cycle = (s.axis a).cycle ∧
    ((s.readAxis a x).axis a).queue = (s.axis a).queue := by
  have hmot : (s.readWords a x).mot = s.mot := by
    unfold State.readWords State.setOn State.setInt
    rw [State.set_mot, State.set_mot, State.set_mot, State.set_mot, State.set_mot]
  rw [readAxis_eq, State.axis_onAxis, if_pos ⟨rfl, by rw [hmot]; exact h⟩, State.axis_of_mot hmot]
  exact ⟨rfl, rfl⟩

/-! ### The boundary of an axis on its own -/

theorem tickRead_gate (s : State) (a : Nat) (x : AxisSample) : (s.tickRead a x).gate = (s.tickBegin a).gate := by
  unfold State.tickRead
  rw [(altersOf (alters_readAxis _ a x)).gate (by decide +kernel)]
  rfl

theorem tickJudge_gate (s : State) (a : Nat) (x : AxisSample) (moved : Int) : (s.tickJudge a x moved).gate = s.gate := by
  unfold State.tickJudge
  rw [(altersOf (alters_checkStops _ a)).gate (by decide +kernel), (altersOf (alters_homeStep _ a)).gate (by decide +kernel),
    (altersOf (alters_judgeLoad _ a x moved)).gate (by decide +kernel)]

theorem tickAxis_unheld (s : State) (a : Nat) (x : AxisSample) :
    (s.tickAxis a x).gate.unheld = if s.queueEmpty a then s.gate.unheld else s.gate.unheld.filter (· != a) := by
  rw [tickAxis_eq, tickJudge_gate, tickRead_gate]
  unfold State.tickBegin
  split
  · rw [(altersOf (alters_stopAxis s a 3)).gate (by decide +kernel)]
  · unfold State.latchSetpoint
    rw [(computeNext_words _ a).1, latchNext_unheld]

theorem mem_unheld_tickAxis {s : State} {a b : Nat} {x : AxisSample} (h : b ∈ (s.tickAxis a x).gate.unheld) : b ∈ s.gate.unheld := by
  rw [tickAxis_unheld] at h
  split at h
  · exact h
  · exact (List.mem_filter.mp h).1

theorem unheld_tickAxis_other {s : State} {a b : Nat} (hab : a ≠ b) (x : AxisSample) :
    (s.tickAxis a x).gate.unheld.contains b = s.gate.unheld.contains b := by
  rw [tickAxis_unheld]
  split
  · rfl
  · rw [Bool.eq_iff_iff, List.contains_iff_mem, List.contains_iff_mem, List.mem_filter]
    exact ⟨fun h => h.1, fun h => ⟨h, bne_iff_ne.mpr fun e => hab e.symm⟩⟩

/-- What the boundaries of other axes leave for one that comes after them. -/
structure Before (b : Nat) (s t : State) : Prop where
  axis : Undisturbed b s t
  runs : t.coresRun = s.coresRun
  gain : t.get (F.GD_SENSE_GAIN.on b) = s.get (F.GD_SENSE_GAIN.on b)
  unheld : t.gate.unheld.contains b = s.gate.unheld.contains b

theorem coresRun_tickAxis (s : State) (a : Nat) (x : AxisSample) : (s.tickAxis a x).coresRun = s.coresRun := by
  have h := altersOf (alters_tickAxis s a x)
  unfold State.coresRun State.running State.frozen State.coresHeld
  rw [h.pwr (by decide +kernel), h.flt (by decide +kernel), h.get F.PWR_BOOT_STEP (by decide +kernel), h.get F.FLT_MODE_MODE (by decide +kernel)]

theorem gain_tickAxis (s : State) (a b : Nat) (x : AxisSample) :
    (s.tickAxis a x).get (F.GD_SENSE_GAIN.on b) = s.get (F.GD_SENSE_GAIN.on b) :=
  (altersOf (alters_tickAxis s a x)).get _ (by rw [wordBit_on]; decide +kernel)

theorem Before.tickAxis {b m : Nat} {s t : State} (h : Before b s t) (hm : m < 6) (hb : b < 6) (hmb : m ≠ b) (hr : Roams b s)
    (hlen : s.mot.axes.length = 6) (x : AxisSample) : Before b s (t.tickAxis m x) :=
  ⟨h.axis.trans (.of_tickAxis hm hb hmb (hr.undisturbed h.axis) (h.axis.len.trans hlen) x), (coresRun_tickAxis ..).trans h.runs,
    (gain_tickAxis ..).trans h.gain, (unheld_tickAxis_other hmb x).trans h.unheld⟩

/-- The state in which the axes meet a servo boundary. -/
def State.atTick (s : State) : State := { s with mot := { s.mot with tickAt := s.servoDue } }.advanceTo s.servoDue

/-- The axes at a boundary, each with what is read of it. -/
def State.tickAxes (s : State) (xs : List AxisSample) : State := axisList.foldl (fun (t : State) a => t.tickAxis a ((xs[a]?).getD {})) s

/-- The watchdog is renewed. -/
def State.renewWatchdog (s : State) : State := { s with flt := { s.flt with renewed := s.now } }

/-- The cores keep up with the frames. -/
def State.keepsUp (s : State) : Bool := s.coresRun && decide ((s.frame.toNat + 4294967296 - s.flt.evaluated) % 4294967296 ≤ 2)

/-- A boundary ends with the roles shown, the evaluation of island 6 and the watchdog. -/
def State.tickEnd (s : State) : State := (s.showRoles.safetyEval).applyIf s.keepsUp State.renewWatchdog

theorem execServoTick_eq {s : State} (hrun : s.running = true) (hM : s.hasM = true) (xs : List AxisSample) :
    exec (.servoTick xs) s = .next (s.atTick.tickAxes xs).tickEnd := by
  have hform : execServoTick xs s =
      if s.running then .next (if s.atTick.hasM then s.atTick.tickAxes xs else s.atTick).tickEnd else .next s := rfl
  show execServoTick xs s = _
  rw [hform, if_pos hrun, if_pos (show s.atTick.hasM = true from hM)]

theorem Carried.of_tickEnd {b : Nat} (hb : b < 6) {s : State} (h : Roams b s) (hlen : s.mot.axes.length = 6) : Carried b s s.tickEnd := by
  have hroles := Carried.of_showRoles (b := b) s
  have heval := hroles.trans (Carried.of_safetyEval hb (h.carried hroles) (hroles.len.trans hlen))
  unfold State.tickEnd State.applyIf State.renewWatchdog
  refine heval.trans ?_
  split
  · exact .of_words rfl (fun _ _ => rfl) rfl
  · exact .refl b _

theorem tickEnd_gate (s : State) : s.tickEnd.gate = s.gate := by
  have hgate : s.showRoles.safetyEval.gate = s.gate := by
    rw [(altersOf (alters_safetyEval _)).gate (by decide +kernel), (altersOf (alters_showRoles s)).gate (by decide +kernel)]
  unfold State.tickEnd State.applyIf State.renewWatchdog
  split
  · exact hgate
  · exact hgate

/-- A boundary, followed for an axis that moves alone: what it reads is formed after the boundaries of the axes before it, and is carried
through all that follows. -/
theorem servoTick_carried {a : Nat} (ha : a < 6) {s : State} (hrun : s.running = true) (hM : s.hasM = true) (hlen : s.mot.axes.length = 6)
    {c : Cycle} (hcycle : (s.axis a).cycle = some c) (hkind : c.kind = 1) (xs : List AxisSample)
    (hread : ∀ t, Before a s t → ∃ d, ((t.tickRead a ((xs[a]?).getD {})).axis a).cycle = some d ∧ d.kind = 1 ∧
      (t.tickRead a ((xs[a]?).getD {})).mot.axes.length = 6) :
    ∃ t u, exec (.servoTick xs) s = .next u ∧ Before a s t ∧ Carried a (t.tickRead a ((xs[a]?).getD {})) u ∧
      (a ∈ u.gate.unheld → a ∈ (t.tickRead a ((xs[a]?).getD {})).gate.unheld) := by
  have hroams : Roams a s := ⟨c, hcycle, by rw [hkind]; decide⟩
  have hfold : ∃ t, Before a s t ∧ Carried a (t.tickRead a ((xs[a]?).getD {})) (s.atTick.tickAxes xs) ∧
      Roams a (s.atTick.tickAxes xs) ∧ (s.atTick.tickAxes xs).mot.axes.length = 6 ∧
      (a ∈ (s.atTick.tickAxes xs).gate.unheld → a ∈ (t.tickRead a ((xs[a]?).getD {})).gate.unheld) := by
    unfold State.tickAxes
    refine foldl_once (b := a) (I := Before a s) (J := fun u => ∃ t, Before a s t ∧ Carried a (t.tickRead a ((xs[a]?).getD {})) u ∧
      Roams a u ∧ u.mot.axes.length = 6 ∧ (a ∈ u.gate.unheld → a ∈ (t.tickRead a ((xs[a]?).getD {})).gate.unheld))
      axisList axisList_nodup (mem_axisList.mpr ha) (fun t m hm hne ht => ht.tickAxis (mem_axisList.mp hm) ha hne hroams hlen _)
      (fun t ht => ?_) (fun u m hm hne hu => ?_) ⟨⟨⟨(s.axis a).pending, (s.axis a).staged, rfl⟩, fun _ _ => rfl, rfl⟩, rfl, rfl, rfl⟩
    · obtain ⟨d, hd, hdk, hdlen⟩ := hread t ht
      have hjudge := Carried.of_tickJudge ha hd hdk hdlen ((xs[a]?).getD {})
        ((t.tickRead a ((xs[a]?).getD {})).getInt (F.AX_POS_VAL.on a) - t.getInt (F.AX_POS_VAL.on a))
      refine ⟨t, ht, hjudge, Roams.carried ⟨d, hd, by rw [hdk]; decide⟩ hjudge, hjudge.len.trans hdlen, fun h => ?_⟩
      rw [tickAxis_eq, tickJudge_gate] at h
      exact h
    · obtain ⟨t, ht, hcar, hr, hl, hun⟩ := hu
      have hund := Undisturbed.of_tickAxis (mem_axisList.mp hm) ha hne hr hl ((xs[m]?).getD {})
      exact ⟨t, ht, hcar.trans (.of_undisturbed hund), hr.undisturbed hund, hund.len.trans hl, fun h => hun (mem_unheld_tickAxis h)⟩
  obtain ⟨t, ht, hcar, hr, hl, hun⟩ := hfold
  refine ⟨t, _, execServoTick_eq hrun hM xs, ht, hcar.trans (.of_tickEnd ha hr hl), fun h => hun ?_⟩
  rw [tickEnd_gate] at h
  exact h

/-! ### The boundary of a move -/

theorem tickRead_words (t : State) (a : Nat) (x : AxisSample) :
    (t.tickRead a x).setpoint a = (t.tickBegin a).setpoint a ∧
      ((t.tickBegin a).hasEnc a = false → (t.tickRead a x).getInt (F.AX_POS_VAL.on a) = (t.tickBegin a).setpoint a ∧
        (t.tickRead a x).get (F.AX_FERRNOW_VAL.on a) = 0) ∧
      (t.tickRead a x).get (F.AX_LOAD_IPH.on a) = (t.tickBegin a).phaseCurrent a x ∧
      (t.tickRead a x).on (F.AX_STAT_HOME.on a) = x.home ∧ (t.tickRead a x).on (F.AX_STAT_LIM.on a) = x.lim :=
  readAxis_words ((t.tickBegin a).driveVector a) a x

theorem tickRead_axis {t : State} {a : Nat} (h : a < (t.tickBegin a).mot.axes.length) (x : AxisSample) :
    ((t.tickRead a x).axis a).cycle = ((t.tickBegin a).axis a).cycle ∧ ((t.tickRead a x).axis a).queue = ((t.tickBegin a).axis a).queue := by
  have hdrive : ((t.tickBegin a).driveVector a).axis a =
      { (t.tickBegin a).axis a with amp := (t.tickBegin a).amplitude a, lead := (t.tickBegin a).vectorLead a } := by
    unfold State.driveVector
    rw [State.axis_onAxis, if_pos ⟨rfl, h⟩]
  obtain ⟨hc, hq⟩ := readAxis_axis (s := (t.tickBegin a).driveVector a) (a := a) (by unfold State.driveVector; rw [onAxis_len]; exact h) x
  unfold State.tickRead
  rw [hc, hq, hdrive]
  exact ⟨rfl, rfl⟩

theorem tickRead_len (t : State) (a : Nat) (x : AxisSample) : (t.tickRead a x).mot.axes.length = (t.tickBegin a).mot.axes.length := by
  unfold State.tickRead
  rw [readAxis_eq, onAxis_len]
  unfold State.readWords State.setOn State.setInt State.driveVector
  rw [State.set_mot, State.set_mot, State.set_mot, State.set_mot, State.set_mot, onAxis_len]

theorem latchNext_len (s : State) (a : Nat) : (s.latchNext a).mot.axes.length = s.mot.axes.length := by
  unfold State.latchNext
  dsimp only
  split
  · split
    · exact onAxis_len ..
    · unfold State.onCycle State.latch State.setInt
      dsimp only
      rw [onAxis_len, State.set_mot, State.set_mot, onAxis_len, onAxis_len]
  · rfl

theorem computeNext_len (s : State) (a : Nat) : (s.computeNext a).mot.axes.length = s.mot.axes.length := by
  unfold State.computeNext
  split
  · exact onAxis_len ..
  · rfl

section
variable {a : Nat} (ha : a < 6) {s t : State} (hlen : s.mot.axes.length = 6) (h : Before a s t) {c : Cycle} {p q : Setpoint}
  (hcycle : (s.axis a).cycle = some c) (hqueue : (s.axis a).queue = [p, q])
include ha hlen h hcycle hqueue

omit ha hlen hcycle in
theorem tickBegin_latches : t.tickBegin a = (t.latchNext a).computeNext a := by
  obtain ⟨⟨_, _, hax⟩, -, -⟩ := h.axis
  have hq : (t.axis a).queue = [p, q] := by rw [hax]; exact hqueue
  unfold State.tickBegin
  refine if_neg ?_
  unfold State.queueEmpty
  rw [hq]
  exact Bool.false_ne_true

/-- The set-point in force after the boundary, and what the axis still has queued. -/
theorem tickBegin_move : ((t.tickBegin a).axis a).cycle.map Cycle.kind = some c.kind ∧ (t.tickBegin a).mot.axes.length = 6 ∧
    ((t.tickBegin a).axis a).queue.head?.map Setpoint.pos = some q.pos ∧ a ∉ (t.tickBegin a).gate.unheld ∧
    (s.gate.unheld.contains a = true → (t.tickBegin a).setpoint a = s.setpoint a) ∧
    (s.gate.unheld.contains a = false → (t.tickBegin a).setpoint a = (BitVec.ofInt 32 p.pos).toInt ∧
      ((t.tickBegin a).axis a).queue.map Setpoint.pos =
        q.pos :: (if s.coresRun then [({ c with ticks := c.ticks + 1 } : Cycle).point.pos] else [])) := by
  obtain ⟨⟨_, _, hax⟩, -, hl⟩ := h.axis
  have hc : (t.axis a).cycle = some c := by rw [hax]; exact hcycle
  have hq : (t.axis a).queue = [p, q] := by rw [hax]; exact hqueue
  have htlen : t.mot.axes.length = 6 := hl.trans hlen
  have hnlen : (t.latchNext a).mot.axes.length = 6 := (latchNext_len t a).trans htlen
  have hruns : (t.latchNext a).coresRun = s.coresRun := by
    have hal := altersOf (alters_latchNext t a)
    rw [← h.runs]
    unfold State.coresRun State.running State.frozen State.coresHeld
    rw [hal.pwr (by decide +kernel), hal.flt (by decide +kernel), hal.get F.PWR_BOOT_STEP (by decide +kernel),
      hal.get F.FLT_MODE_MODE (by decide +kernel)]
  obtain ⟨hgate, hwords⟩ := computeNext_words (t.latchNext a) a
  have hset : ((t.latchNext a).computeNext a).setpoint a = (t.latchNext a).setpoint a := getInt_of_get (hwords _)
  have hun : a ∉ ((t.latchNext a).computeNext a).gate.unheld := by
    rw [hgate, latchNext_unheld]
    exact fun hm => absurd rfl (bne_iff_ne.mp (List.mem_filter.mp hm).2)
  have hhead : ∀ {d : Cycle}, ((t.latchNext a).axis a).cycle = some d → ((t.latchNext a).axis a).queue = [q] →
      (((t.latchNext a).computeNext a).axis a).cycle.map Cycle.kind = some d.kind ∧
        (((t.latchNext a).computeNext a).axis a).queue = if s.coresRun then [q, ({ d with ticks := d.ticks + 1 } : Cycle).point] else [q] :=
    fun hd hdq => by
      have hcompute := computeNext_axis (by omega) hd hdq
      rw [hruns] at hcompute
      exact hcompute
  rw [tickBegin_latches h hqueue]
  cases hheld : s.gate.unheld.contains a with
  | true =>
    obtain ⟨hd, hdq, hdset⟩ := latchNext_missed ha htlen hc hq (h.unheld.trans hheld)
    obtain ⟨hkind, hafter⟩ := hhead hd hdq
    refine ⟨hkind, (computeNext_len ..).trans hnlen, ?_, hun, fun _ => (hset.trans hdset).trans (getInt_of_get (h.axis.get F.AX_SETPT_VAL rfl)),
      fun hf => absurd hf (by decide)⟩
    rw [hafter]
    split
    · rfl
    · rfl
  | false =>
    obtain ⟨hd, hdq, hdset⟩ := latchNext_latched ha htlen hc hq (h.unheld.trans hheld)
    obtain ⟨hkind, hafter⟩ := hhead hd hdq
    refine ⟨hkind, (computeNext_len ..).trans hnlen, ?_, hun, fun hf => absurd hf (by decide), fun _ => ⟨hset.trans hdset, ?_⟩⟩
    · rw [hafter]
      split
      · rfl
      · rfl
    · rw [hafter]
      split
      · rfl
      · rfl

omit ha hlen hcycle in
theorem tickBegin_words : (t.tickBegin a).hasEnc a = s.hasEnc a ∧
    (t.tickBegin a).get (F.GD_SENSE_GAIN.on a) = s.get (F.GD_SENSE_GAIN.on a) := by
  have hal := altersOf (alters_latchSetpoint t a)
  have hbegin : t.tickBegin a = t.latchSetpoint a := tickBegin_latches h hqueue
  rw [hbegin]
  refine ⟨?_, (hal.get _ (by rw [wordBit_on]; decide +kernel)).trans h.gain⟩
  unfold State.hasEnc State.on
  rw [hal.get _ (by rw [wordBit_on]; decide +kernel), h.axis.get F.AX_CFG_ENC rfl]

/-- What is read of an axis whose next set-point is queued goes on from its cycle. -/
theorem tickRead_move (x : AxisSample) : ∃ d, ((t.tickRead a x).axis a).cycle = some d ∧ d.kind = c.kind ∧
    (t.tickRead a x).mot.axes.length = 6 := by
  obtain ⟨hkind, hl, -⟩ := tickBegin_move ha hlen h hcycle hqueue
  obtain ⟨d, hd, hdk⟩ := Option.map_eq_some_iff.mp hkind
  exact ⟨d, (tickRead_axis (by omega) x).1.trans hd, hdk, (tickRead_len t a x).trans hl⟩
end

theorem execServoTick_axis_claim (xs : List AxisSample) (a : Nat) (c : Cycle) (p q : Setpoint) (s : State) :
    Claims.servoAxis xs a c p q s := by
  intro hrun hM hshape ha hcycle hkind hstop hqueue hheld
  obtain ⟨-, hlen, -, -⟩ := hshape
  have hnot : s.gate.unheld.contains a = false := by
    rw [← Bool.not_eq_true, List.contains_iff_mem]
    exact hheld
  obtain ⟨t, u, hexec, ht, hcar, -⟩ := servoTick_carried ha hrun hM hlen hcycle hkind xs fun t ht => by
    obtain ⟨d, hd, hdk, hdl⟩ := tickRead_move ha hlen ht hcycle hqueue ((xs[a]?).getD {})
    exact ⟨d, hd, hdk.trans hkind, hdl⟩
  obtain ⟨-, hl, -, -, -, hlatched⟩ := tickBegin_move ha hlen ht hcycle hqueue
  obtain ⟨hset, hq⟩ := hlatched hnot
  obtain ⟨henc, hgain⟩ := tickBegin_words ht hqueue
  obtain ⟨hpt, hpos, hiph, hhome, hlim⟩ := tickRead_words t a ((xs[a]?).getD {})
  obtain ⟨-, hrq⟩ := tickRead_axis (t := t) (a := a) (by omega) ((xs[a]?).getD {})
  generalize (xs[a]?).getD {} = x at *
  have hget : ∀ f ∈ boundaryFields, u.get (f.on a) = (t.tickRead a x).get (f.on a) := hcar.get
  have husp : u.setpoint a = (t.tickRead a x).setpoint a := getInt_of_get (hget F.AX_SETPT_VAL (by decide))
  refine ⟨u, hexec, husp.trans (hpt.trans hset), fun he => ?_, ?_, ?_, ?_, ?_⟩
  · obtain ⟨hp, hf⟩ := hpos (henc.trans he)
    exact ⟨(getInt_of_get (hget F.AX_POS_VAL (by decide))).trans (hp.trans (hpt.symm.trans husp.symm)),
      (hget F.AX_FERRNOW_VAL (by decide)).trans hf⟩
  · rw [hget F.AX_LOAD_IPH (by decide), hiph]
    unfold State.phaseCurrent
    rw [hgain]
  · unfold State.on at hhome ⊢
    rw [hget F.AX_STAT_HOME (by decide), hhome]
  · unfold State.on at hlim ⊢
    rw [hget F.AX_STAT_LIM (by decide), hlim]
  · rw [hcar.queue, hrq, hq]

theorem execServoTick_missed_claim (xs : List AxisSample) (a : Nat) (c : Cycle) (p q : Setpoint) (s : State) :
    Claims.servoMissed xs a c p q s := by
  intro hrun hM hshape ha hcycle hkind hstop hqueue hheld
  obtain ⟨-, hlen, -, -⟩ := hshape
  obtain ⟨t, u, hexec, ht, hcar, hun⟩ := servoTick_carried ha hrun hM hlen hcycle hkind xs fun t ht => by
    obtain ⟨d, hd, hdk, hdl⟩ := tickRead_move ha hlen ht hcycle hqueue ((xs[a]?).getD {})
    exact ⟨d, hd, hdk.trans hkind, hdl⟩
  obtain ⟨-, hl, hhead, hgone, hset, -⟩ := tickBegin_move ha hlen ht hcycle hqueue
  obtain ⟨hpt, -⟩ := tickRead_words t a ((xs[a]?).getD {})
  obtain ⟨-, hrq⟩ := tickRead_axis (t := t) (a := a) (by omega) ((xs[a]?).getD {})
  generalize (xs[a]?).getD {} = x at *
  refine ⟨u, hexec, ?_, fun hm => hgone ?_, ?_⟩
  · exact (getInt_of_get (hcar.get F.AX_SETPT_VAL (by decide))).trans (hpt.trans (hset (List.contains_iff_mem.mpr hheld)))
  · have h := hun hm
    rw [tickRead_gate] at h
    exact h
  · rw [← List.head?_map, hcar.queue, hrq, List.head?_map, hhead]

theorem execServoTick_queueEmpty_claim (xs : List AxisSample) (a : Nat) (c : Cycle) (s : State) : Claims.servoQueueEmpty xs a c s := by
  intro hrun hM hshape ha hcycle hkind hstop hqueue hlanded
  obtain ⟨-, hlen, -, -⟩ := hshape
  have hbegin : ∀ t, Before a s t → t.tickBegin a = t.stopWith a 3 true (c.decel 3) c.lim.j := fun t ht => by
    obtain ⟨⟨_, _, hax⟩, -, -⟩ := ht.axis
    have hc : (t.axis a).cycle = some c := by rw [hax]; exact hcycle
    have hq : (t.axis a).queue = [] := by rw [hax]; exact hqueue
    unfold State.tickBegin State.queueEmpty
    rw [hq, hc, Option.any_some, hlanded]
    refine (if_pos rfl).trans ?_
    rw [stopAxis_alone hc (by rw [hstop]; decide) (by rw [hkind]; decide)]
    rfl
  have hread : ∀ t, Before a s t → ∀ x, ∃ d, ((t.tickRead a x).axis a).cycle = some d ∧ d.kind = 1 ∧ d.stop = some 3 ∧
      (t.tickRead a x).mot.axes.length = 6 := fun t ht x => by
    obtain ⟨⟨_, _, hax⟩, -, hl⟩ := ht.axis
    have htlen := hl.trans hlen
    have hblen : (t.tickBegin a).mot.axes.length = 6 := by rw [hbegin t ht, stopWith_len, htlen]
    have hc := (tickRead_axis (t := t) (a := a) (by omega) x).1
    rw [hbegin t ht, stopWith_cycle htlen ha, show (t.axis a).cycle = some c by rw [hax]; exact hcycle] at hc
    exact ⟨_, hc, hkind, rfl, (tickRead_len t a x).trans hblen⟩
  obtain ⟨t, u, hexec, ht, hcar, -⟩ := servoTick_carried ha hrun hM hlen hcycle hkind xs fun t ht => by
    obtain ⟨d, hd, hdk, -, hdl⟩ := hread t ht ((xs[a]?).getD {})
    exact ⟨d, hd, hdk, hdl⟩
  obtain ⟨hpt, -⟩ := tickRead_words t a ((xs[a]?).getD {})
  obtain ⟨d, hd, -, hdstop, -⟩ := hread t ht ((xs[a]?).getD {})
  generalize (xs[a]?).getD {} = x at *
  have hset : (t.tickBegin a).setpoint a = s.setpoint a := by
    rw [hbegin t ht, stopWith_setpoint rfl]
    exact getInt_of_get (ht.axis.get F.AX_SETPT_VAL rfl)
  have hstate : (t.tickRead a x).axState a = 4 := by
    have hkeep : (t.tickRead a x).axState a = (t.tickBegin a).axState a := by
      unfold State.tickRead State.axState
      rw [readAxis_get]
      unfold State.readWords State.setInt
      rw [State.get_setOn_leaves (leaves_ax rfl rfl (by decide) a), State.get_setOn_leaves (leaves_ax rfl rfl (by decide) a),
        State.get_set_leaves (leaves_ax rfl rfl (by decide) a), State.get_set_leaves (leaves_ax rfl rfl (by decide) a),
        State.get_set_leaves (leaves_ax rfl rfl (by decide) a)]
      rfl
    rw [hkeep, hbegin t ht]
    exact stopWith_axState ..
  obtain ⟨hst, hcause⟩ := hcar.holds ⟨hstate, by rw [hd]; exact hdstop⟩
  exact ⟨u, hexec, (getInt_of_get (hcar.get F.AX_SETPT_VAL (by decide))).trans (hpt.trans hset), hst, hcause⟩

/-! ### The roles of the axes -/

section
variable {g : Fld} (hstate : ∀ m, (F.AX_STAT_STATE.on m).leaves g = true)
include hstate

/-- A stop of rank 8 changes the state of axes alone, among the words. -/
theorem get_stopWith_eight (s : State) (a : Nat) (own : Bool) (decel jerk : Rat) : (s.stopWith a 8 own decel jerk).get g = s.get g := by
  rw [stopWith_eq, if_pos (by cases own <;> rfl), show (s.stopKept a 8 own decel jerk).setAxState a 4 =
    (s.stopKept a 8 own decel jerk).set (F.AX_STAT_STATE.on a) 4 from rfl, State.get_set_leaves (hstate a)]
  unfold State.stopKept
  rw [show (own && ((8 : Nat) == 5 || (8 : Nat) == 2)) = false by cases own <;> rfl]
  rfl

theorem get_dropPending_state (s : State) (a rank : Nat) : (s.dropPending a rank).get g = s.get g := by
  have hdrop : ∀ (t : State) m, (t.dropStart m rank).get g = t.get g := fun t m => by
    unfold State.dropStart
    split
    · rfl
    · exact State.get_set_leaves (hstate m) _ _
  unfold State.dropPending
  split
  · refine foldl_keeps (fun t : State => t.get g = s.get g) (fun t m ht => ?_) _ rfl
    split
    · exact (hdrop t m).trans ht
    · exact ht
  · exact hdrop s a

theorem get_stopAxis_eight (s : State) (a : Nat) : (s.stopAxis a 8).get g = s.get g := by
  have hgroup : ∀ (t : State) k, (t.stopGroup a k 8).get g = t.get g := fun t k => by
    rw [stopGroup_eq]
    refine foldl_keeps (fun u : State => u.get g = t.get g) (fun u m hu => ?_) _ rfl
    unfold State.stopMember
    split
    · split
      · exact (get_stopWith_eight hstate ..).trans hu
      · exact hu
    · exact hu
  unfold State.stopAxis
  split
  · dsimp only
    split_ifs
    · rfl
    · exact hgroup _ _
    · exact get_stopWith_eight hstate ..
  · split_ifs
    · exact get_dropPending_state hstate ..
    · exact State.get_set_leaves (hstate a) _ _
    · rfl

/-- A field of motion that no stop of rank 8 changes, and that is no copy of SAFESTOP, is left by an evaluation of island 6. -/
theorem get_safetyEval_motion (hpage : g.page ≠ 0x18) (hcopy : Fld.leaves F.MOT_STAT_SAFESTOP g = true)
    (hword : (alt_noteGuard ||| alt_coilRelease).testBit (wordBit g.addr) = false) (s : State) : s.safetyEval.get g = s.get g := by
  have hsaf : ∀ {f : Fld}, f.page = 0x18 → f.leaves g = true := fun hf => Fld.leaves_of_page (by rw [hf]; exact Ne.symm hpage)
  have hguard : ∀ (u : State) n, (u.noteGuard n).get g = u.get g := fun u n =>
    ((altersOf (alters_noteGuard u n)).mono
      (show alt_noteGuard &&& (alt_noteGuard ||| alt_coilRelease) = alt_noteGuard by decide +kernel)).get g hword
  have hcoil : ∀ (u : State) n, (u.coilRelease n).get g = u.get g := fun u n =>
    ((altersOf (alters_coilRelease u n)).mono
      (show alt_coilRelease &&& (alt_noteGuard ||| alt_coilRelease) = alt_coilRelease by decide +kernel)).get g hword
  have hseen : s.evalSeen.get g = s.get g := by
    unfold State.evalSeen
    dsimp only
    rw [State.get_setOn_leaves (hsaf rfl), State.get_setOn_leaves (hsaf rfl), State.get_setOn_leaves (hsaf rfl), State.get_applyIf,
      State.get_setOn_leaves (hsaf rfl), ite_self, hguard, hguard]
  have hmark : ∀ (u : State) v, (u.markSafestop v).get g = u.get g := fun u v => get_markSafestop (by
    unfold Fld.clearOf
    simp only [List.all_cons, List.all_nil, hcopy, hsaf (f := F.SAF_STAT_SAFESTOP) rfl, hsaf (f := F.SAF_PSTAT_SAFESTOP) rfl, Bool.and_self]) u v
  have habort : ∀ (u : State) k, (u.abortTest k).get g = u.get g := fun u k => by
    have hresult : (resultField k).leaves g = true := hsaf (by unfold resultField; split <;> rfl)
    have hdrive : ∀ v : State, (v.driveTested k).get g = v.get g := fun v => by
      unfold State.driveTested
      split
      · rfl
      · rfl
    have hflag : ∀ f, ((u.flag F.SAF_IFLAG_BTEST).onSaf f).get g = u.get g := fun _ => State.get_flag_leaves (hsaf rfl) u
    have hnot : ∀ v : State, (v.notTestable k).get g = (v.set (resultField k) 3).get g := fun _ => rfl
    unfold State.abortTest
    dsimp only
    split
    · rw [State.get_set_leaves hresult, hdrive, hflag]
    · rw [hnot, State.get_set_leaves hresult, hdrive, hflag]
  have hstops : ∀ u : State, (u.stopAllAxes 8).get g = u.get g := fun u => by
    unfold State.stopAllAxes
    split
    · exact foldl_keeps (fun t : State => t.get g = u.get g) (fun t m ht => (get_stopAxis_eight hstate t m).trans ht) _ rfl
    · rfl
  have hstop : ∀ u : State, u.showSafestop.get g = u.get g := fun u => by
    rw [showSafestop_eq]
    split
    · unfold State.abortBrakeTests
      refine foldl_keeps (fun t : State => t.get g = u.get g) (fun t k ht => (habort t k).trans ht) _ ?_
      exact (hstops _).trans ((State.get_flag_leaves (hsaf rfl) _).trans (hmark _ _))
    · split
      · exact hmark _ _
      · exact hmark _ _
  have hchgil : ∀ u : State, u.showChgil.get g = u.get g := fun u => by
    unfold State.showChgil
    dsimp only
    have hset : ∀ b v, ((u.applyIf b fun s => s.flag F.SAF_IFLAG_CHGIL).setOn F.SAF_STAT_CHGIL v).get g = u.get g := fun b v => by
      rw [State.get_setOn_leaves (hsaf rfl), State.get_applyIf, State.get_flag_leaves (hsaf rfl), ite_self]
    split
    · exact hset _ _
    · exact (hcoil _ 3).trans (hset _ _)
  have hwaits : ∀ (u : State) k, (u.endWaits k).get g = u.get g := fun u k => by
    unfold State.endWaits
    split
    · refine foldl_keeps (fun t : State => t.get g = u.get g) (fun t m ht => ?_) _ rfl
      split
      · exact (get_dropPending_state hstate t m 8).trans ht
      · exact ht
    · rfl
  have hbrake : ∀ (u : State) k, (u.driveBrake k).get g = u.get g := fun u k => by
    unfold State.driveBrake
    dsimp only
    split
    · rfl
    · split
      · exact State.get_set_leaves (hsaf rfl) _ _
      · rfl
  have hduty : ∀ (u : State) k, (u.brakeDuty k).get g = u.get g := fun _ _ => rfl
  rw [safetyEval_eq, hwaits, hwaits, hduty, hduty, hbrake, hbrake]
  unfold State.evalOutputs
  dsimp only
  rw [State.get_setOn_leaves (hsaf rfl), hchgil, get_showProp, hstop, hseen]
end

/-- Each axis shows whether it is at its named position. -/
def State.namedShown (s : State) : State := axisList.foldl (fun s a => s.setOn (F.AX_STAT_ATNPOS.on a) (s.atNamed a)) s

/-- The conditions that the roles form. -/
def State.hatchShut (s : State) : Bool := s.namedShown.roleHolds (s.namedShown.get F.MOT_ROLE_HATCH)
def State.lockShut (s : State) : Bool := s.namedShown.roleHolds (s.namedShown.get F.MOT_ROLE_LOCK)

/-- The flags of the roles whose conditions change. -/
def State.rolesFlagged (s : State) (hatch mated : Bool) : State :=
  let s := s.applyIf (hatch != s.on F.MOT_STAT_HATCH_CL) fun s => s.flag F.MOT_IFLAG_HATCH
  s.applyIf (mated != s.on F.MOT_STAT_MATED) fun s => s.flag F.MOT_IFLAG_MATED

/-- The conditions of the roles are shown. -/
def State.rolesMarked (s : State) (hatch locked mated : Bool) : State :=
  ((((s.rolesFlagged hatch mated).setOn F.MOT_STAT_HATCH_CL hatch).setOn F.MOT_STAT_LOCKED locked).setOn F.MOT_STAT_MATED mated).setOn
    F.MOT_STAT_THROTTLE (s.rolesFlagged hatch mated).motionPause

theorem showRoles_eq (s : State) :
    s.showRoles = s.namedShown.rolesMarked s.hatchShut s.lockShut (s.lockShut && s.namedShown.pins.shoreDet) := by
  unfold State.showRoles State.rolesMarked State.rolesFlagged State.hatchShut State.lockShut State.namedShown
  rfl

theorem get_namedShown {g : Fld} (h : ∀ m, (F.AX_STAT_ATNPOS.on m).leaves g = true) (s : State) : s.namedShown.get g = s.get g :=
  foldl_keeps (fun t : State => t.get g = s.get g) (fun t a ht => (State.get_setOn_leaves (h a) t _).trans ht) _ rfl

theorem namedShown_pins (s : State) : s.namedShown.pins = s.pins :=
  foldl_keeps (fun t : State => t.pins = s.pins) (fun t _ ht => (State.setOn_pins t _ _).trans ht) _ rfl

theorem get_rolesFlagged {g : Fld} (hh : Fld.leaves F.MOT_IFLAG_HATCH g = true) (hm : Fld.leaves F.MOT_IFLAG_MATED g = true) (s : State)
    (hatch mated : Bool) : (s.rolesFlagged hatch mated).get g = s.get g := by
  unfold State.rolesFlagged
  dsimp only
  rw [State.get_applyIf, State.get_flag_leaves hm, ite_self, State.get_applyIf, State.get_flag_leaves hh, ite_self]

theorem rolesMarked_words (s : State) (hatch locked mated : Bool) : (s.rolesMarked hatch locked mated).on F.MOT_STAT_HATCH_CL = hatch ∧
    (s.rolesMarked hatch locked mated).on F.MOT_STAT_LOCKED = locked ∧ (s.rolesMarked hatch locked mated).on F.MOT_STAT_MATED = mated ∧
    (∀ a, (s.rolesMarked hatch locked mated).homed a = s.homed a) := by
  unfold State.rolesMarked
  refine ⟨?_, ?_, ?_, fun a => ?_⟩
  · rw [State.on_setOn_leaves (by decide), State.on_setOn_leaves (by decide), State.on_setOn_leaves (by decide), State.on_setOn_okay (by decide)]
  · rw [State.on_setOn_leaves (by decide), State.on_setOn_leaves (by decide), State.on_setOn_okay (by decide)]
  · rw [State.on_setOn_leaves (by decide), State.on_setOn_okay (by decide)]
  · have hout : ∀ {f : Fld}, f.page = 0x40 → f.leaves (F.AX_STAT_HOMED.on a) = true := fun hf => leaves_out_ax (.inl (by omega)) rfl a
    unfold State.homed State.on
    rw [State.get_setOn_leaves (hout rfl), State.get_setOn_leaves (hout rfl), State.get_setOn_leaves (hout rfl), State.get_setOn_leaves (hout rfl),
      get_rolesFlagged (hout rfl) (hout rfl)]

/-- What the words show of the roles. -/
theorem showRoles_words (s : State) : s.showRoles.on F.MOT_STAT_HATCH_CL = s.hatchShut ∧ s.showRoles.on F.MOT_STAT_LOCKED = s.lockShut ∧
    s.showRoles.on F.MOT_STAT_MATED = (s.lockShut && s.pins.shoreDet) ∧ (∀ a, s.showRoles.homed a = s.namedShown.homed a) := by
  rw [showRoles_eq, namedShown_pins]
  exact rolesMarked_words ..

theorem roleHolds_homed {s : State} {role : Nat} (h : s.roleHolds role = true) : role < 6 ∧ s.homed role = true := by
  unfold State.roleHolds State.atNamed at h
  simp only [Bool.and_eq_true, decide_eq_true_eq] at h
  obtain ⟨⟨-, hrole⟩, ⟨⟨⟨⟨-, -⟩, hhomed⟩, -⟩, -⟩, -⟩ := h
  exact ⟨hrole, hhomed⟩

theorem tickAxes_role {g : Fld} (h : alt_tickAxis.testBit (wordBit g.addr) = false) (s : State) (xs : List AxisSample) :
    (s.tickAxes xs).get g = s.get g :=
  foldl_keeps (fun t : State => t.get g = s.get g) (fun t a ht => ((altersOf (alters_tickAxis t a _)).get g h).trans ht) _ rfl

theorem tickAxes_pins (s : State) (xs : List AxisSample) : (s.tickAxes xs).pins = s.pins :=
  foldl_keeps (fun t : State => t.pins = s.pins) (fun t a ht => ((altersOf (alters_tickAxis t a _)).pins (by decide +kernel)).trans ht) _ rfl

theorem tickEnd_get {g : Fld} (hstate : ∀ m, (F.AX_STAT_STATE.on m).leaves g = true) (hpage : g.page ≠ 0x18)
    (hcopy : Fld.leaves F.MOT_STAT_SAFESTOP g = true) (hword : (alt_noteGuard ||| alt_coilRelease).testBit (wordBit g.addr) = false) (s : State) :
    s.tickEnd.get g = s.showRoles.get g := by
  have hrenew : ∀ u : State, u.renewWatchdog.get g = u.get g := fun _ => rfl
  unfold State.tickEnd
  rw [State.get_applyIf, hrenew, ite_self, get_safetyEval_motion hstate hpage hcopy hword]

theorem execServoTick_roles_claim (xs : List AxisSample) (s : State) : Claims.servoRoles xs s := by
  intro hrun hM
  have hset : ∀ {g : Fld}, g.page = 0x40 → Fld.leaves F.MOT_STAT_SAFESTOP g = true →
      (alt_noteGuard ||| alt_coilRelease).testBit (wordBit g.addr) = false → ∀ u : State, u.tickEnd.on g = u.showRoles.on g :=
    fun {g} hp hc hw u => by
      unfold State.on
      rw [tickEnd_get (fun m => leaves_ax_out rfl (.inl (by omega)) m) (by omega) hc hw]
  have hrole : ∀ {g : Fld}, g.page = 0x40 → alt_tickAxis.testBit (wordBit g.addr) = false →
      (s.atTick.tickAxes xs).namedShown.get g = s.get g := fun hp hw =>
    (get_namedShown (fun m => leaves_ax_out rfl (.inl (by omega)) m) _).trans (tickAxes_role hw _ _)
  have hpins : (s.atTick.tickAxes xs).pins = s.pins := tickAxes_pins _ _
  have hexec := execServoTick_eq hrun hM xs
  have hhatch : (s.atTick.tickAxes xs).hatchShut = (s.atTick.tickAxes xs).namedShown.roleHolds (s.get F.MOT_ROLE_HATCH) := by
    unfold State.hatchShut
    rw [hrole rfl (by decide +kernel)]
  have hlock : (s.atTick.tickAxes xs).lockShut = (s.atTick.tickAxes xs).namedShown.roleHolds (s.get F.MOT_ROLE_LOCK) := by
    unfold State.lockShut
    rw [hrole rfl (by decide +kernel)]
  generalize s.atTick.tickAxes xs = u at *
  obtain ⟨hcl, hlocked, hmated, hhomed⟩ := showRoles_words u
  refine ⟨_, hexec, fun h => ?_, ?_, fun h7 => ?_⟩
  · rw [hset rfl (by decide) (by decide +kernel), hcl, hhatch] at h
    obtain ⟨hlt, hh⟩ := roleHolds_homed h
    refine ⟨hlt, ?_⟩
    rw [← hhomed] at hh
    rw [← hh]
    unfold State.homed State.on
    rw [tickEnd_get (fun m => leaves_ax_any rfl rfl (by decide) m _) (by rw [page_ax rfl]; omega) (leaves_out_ax (.inl (by decide)) rfl _)
      (by rw [wordBit_on]; decide +kernel)]
  · rw [hset rfl (by decide) (by decide +kernel), hset rfl (by decide) (by decide +kernel), hmated, hlocked, hpins]
  · rw [hset rfl (by decide) (by decide +kernel), hlocked, hlock, h7]
    unfold State.roleHolds
    rw [decide_eq_false (by decide), Bool.and_false, Bool.false_and]

end Sys2Proof.Machine

/-- Settles O41: one axis is followed through a boundary, where the boundaries of the others leave it alone and what comes after may only
stop it along its ramp; a cycle's end is read off the flags it sets in turn. -/
theorem motionCycles : Obligations.MotionCycles :=
  ⟨Sys2Proof.Machine.execCycleStart_claim, Sys2Proof.Machine.execCycleStart_waits_claim, Sys2Proof.Machine.execCycleStart_homing_claim,
    Sys2Proof.Machine.outcomes_claim, Sys2Proof.Machine.execCycleEnd_claim, Sys2Proof.Machine.execServoTick_axis_claim,
    Sys2Proof.Machine.execServoTick_roles_claim, Sys2Proof.Machine.execSetpointQueueEmpty_claim, Sys2Proof.Machine.execStandstillDelay_claim,
    Sys2Proof.Machine.execCycleEnd_envelope_claim, Sys2Proof.Machine.execServoTick_missed_claim,
    Sys2Proof.Machine.execServoTick_queueEmpty_claim⟩
end

section
/-! SUPPORT. The bridges: fields of one bridge and of another, and what a safe state leaves on its own axis and on the others (R354 to
R364). -/
set_option Elab.async false
namespace Sys2Proof.Machine
open Host

/-! ### Fields of the bridges -/

theorem leaves_gd_other {f g : Fld} (hf : f.page = 0x49) (hg : g.page = 0x49) {a b : Nat} (ha : a < 6) (hb : b < 6) (h : a ≠ b) :
    (f.on a).leaves (g.on b) = true := Fld.leaves_of_page (by rw [page_gd _ hf, page_gd _ hg]; omega)

/-- Fields on the pages of two bridges are as far apart as those of the first one. -/
theorem leaves_gd {f g : Fld} (hf : f.page = 0x49) (hg : g.page = 0x49) (h : f.leaves g = true) (a b : Nat) :
    (f.on a).leaves (g.on b) = true := by
  by_cases hab : a % 6 = b % 6
  · have hon : f.on a = f.on b := by
      unfold Fld.on
      rw [hf, show instancesOf 0x49 = 6 from rfl, hab]
    rw [hon]
    exact Fld.leaves_on (hf.trans hg.symm) h b
  · exact Fld.leaves_of_page (by rw [page_gd _ hf, page_gd _ hg]; omega)

theorem leaves_gd_out {f g : Fld} (hf : f.page = 0x49) (hg : g.page < 0x49 ∨ 0x4E < g.page) (a : Nat) : (f.on a).leaves g = true :=
  Fld.leaves_of_page (by rw [page_gd _ hf]; omega)

theorem leaves_out_gd {f g : Fld} (hf : f.page < 0x49 ∨ 0x4E < f.page) (hg : g.page = 0x49) (a : Nat) : f.leaves (g.on a) = true :=
  Fld.leaves_of_page (by rw [page_gd _ hg]; omega)

theorem gdState_set_out {f : Fld} (hf : f.page < 0x49 ∨ 0x4E < f.page) (s : State) (v a : Nat) : (s.set f v).gdState a = s.gdState a :=
  State.get_set_leaves (leaves_out_gd hf rfl a) s v

theorem gdState_set_own {v : Nat} (hv : v < 16) (s : State) (a : Nat) : (s.set (F.GD_STAT_STATE.on a) v).gdState a = v :=
  State.get_set_lt (f := F.GD_STAT_STATE.on a) rfl hv s

/-! ### What beside the bridges a safe state leaves -/

theorem driveVector_cycle (s : State) (a b : Nat) : ((s.driveVector a).axis b).cycle = (s.axis b).cycle := by
  unfold State.driveVector
  rw [State.axis_onAxis]
  split <;> rfl

theorem abortTest_cycle (s : State) (k b : Nat) : ((s.abortTest k).axis b).cycle = (s.axis b).cycle := by
  have hdrive : ∀ u : State, ((u.driveTested k).axis b).cycle = (u.axis b).cycle := fun u => by
    unfold State.driveTested
    split
    · exact driveVector_cycle ..
    · rfl
  have hbegin : ∀ f : SafetySt → SafetySt, ((((s.flag F.SAF_IFLAG_BTEST).onSaf f).driveTested k).axis b).cycle = (s.axis b).cycle := fun f =>
    (hdrive _).trans (congrArg AxisSt.cycle (State.axis_of_mot (State.flag_mot ..) b))
  unfold State.abortTest
  dsimp only
  split
  · exact (congrArg AxisSt.cycle (axis_set ..)).trans (hbegin _)
  · exact (congrArg AxisSt.cycle (State.axis_of_mot ((altersOf (alters_notTestable _ k)).mot (by decide +kernel)) b)).trans (hbegin _)

theorem abortBrakeTests_cycle (s : State) (p : Nat → Bool) (b : Nat) : ((s.abortBrakeTests p).axis b).cycle = (s.axis b).cycle :=
  foldl_keeps (fun t : State => (t.axis b).cycle = (s.axis b).cycle) (fun t k ht => (abortTest_cycle t k b).trans ht) _ rfl

theorem abortBrakeTests_len (s : State) (p : Nat → Bool) : (s.abortBrakeTests p).mot.axes.length = s.mot.axes.length := by
  refine foldl_keeps (fun t : State => t.mot.axes.length = s.mot.axes.length) (fun t k ht => Eq.trans ?_ ht) _ rfl
  have hdrive : ∀ u : State, (u.driveTested k).mot.axes.length = u.mot.axes.length := fun u => by
    unfold State.driveTested
    split
    · exact onAxis_len ..
    · rfl
  have hbegin : ∀ f : SafetySt → SafetySt, (((t.flag F.SAF_IFLAG_BTEST).onSaf f).driveTested k).mot.axes.length = t.mot.axes.length := fun f =>
    (hdrive _).trans (congrArg (fun m : MotionSt => m.axes.length) (State.flag_mot t F.SAF_IFLAG_BTEST))
  unfold State.abortTest
  dsimp only
  split
  · rw [State.set_mot]
    exact hbegin _
  · rw [(altersOf (alters_notTestable _ k)).mot (by decide +kernel)]
    exact hbegin _

/-! ### Stops and the drive -/

/-- A change of an axis that leaves an undriven one undriven. -/
theorem undriven_onAxis {s : State} {b : Nat} (h : (s.axis b).drive = 0) (a : Nat) {f : AxisSt → AxisSt}
    (hf : ∀ x, x.drive = 0 → (f x).drive = 0) : ((s.onAxis a f).axis b).drive = 0 := by
  rw [State.axis_onAxis]
  split
  · exact hf _ h
  · exact h

theorem undriven_set {s : State} {b : Nat} (h : (s.axis b).drive = 0) (f : Fld) (v : Nat) : ((s.set f v).axis b).drive = 0 := by
  rw [axis_set]
  exact h

theorem undriven_latch {s : State} {b : Nat} (h : (s.axis b).drive = 0) (a : Nat) (p : Setpoint) : ((s.latch a p).axis b).drive = 0 := by
  unfold State.latch
  dsimp only
  rw [axis_setInt, axis_setInt, State.axis_onAxis]
  split
  · exact h
  · exact h

theorem undriven_stopWith {s : State} {b : Nat} (h : (s.axis b).drive = 0) (a : Nat) {rank : Nat} (hrank : rank ≠ 5) (own : Bool)
    (decel jerk : Rat) : ((s.stopWith a rank own decel jerk).axis b).drive = 0 := by
  have hkept : ((s.stopKept a rank own decel jerk).axis b).drive = 0 := by
    have hstopped := undriven_onAxis (f := fun x => x.stopped rank own (s.stopPoint a rank own) decel jerk) h a fun x hx => by
      show (if own then stopDrive rank x.drive else x.drive) = 0
      unfold stopDrive
      rw [if_neg hrank, hx]
      split_ifs <;> rfl
    unfold State.stopKept
    split
    · rw [axis_setHomed]
      exact hstopped
    · exact hstopped
  rw [stopWith_eq]
  unfold State.setAxState
  refine undriven_set ?_ _ _
  split
  · exact hkept
  · generalize s.stopKept a rank own decel jerk = u at hkept ⊢
    exact undriven_latch hkept a _

theorem undriven_dropStart {s : State} {b : Nat} (h : (s.axis b).drive = 0) (a rank : Nat) : ((s.dropStart a rank).axis b).drive = 0 := by
  unfold State.dropStart State.setAxState
  split
  · exact undriven_onAxis (f := fun x => { x with pending := none, staged := false }) h a fun _ hx => hx
  · refine undriven_set ?_ _ _
    exact undriven_onAxis (f := fun x => { x with
      pending := none, staged := false, askedAt := none, endedAt := some s.now, cause := some rank }) h a fun _ hx => hx

/-- A stop, but by a stall, leaves an undriven axis undriven. -/
theorem undriven_stopAxis {s : State} {b : Nat} (h : (s.axis b).drive = 0) (a : Nat) {rank : Nat} (hrank : rank ≠ 5) :
    ((s.stopAxis a rank).axis b).drive = 0 := by
  have hflag : ((s.causeFlag a rank).axis b).drive = 0 := by
    rw [axis_causeFlag]
    exact h
  unfold State.stopAxis
  split
  · dsimp only
    split_ifs
    · exact hflag
    · rw [stopGroup_eq]
      refine foldl_keeps (fun t : State => (t.axis b).drive = 0) (fun t m ht => ?_) _ hflag
      unfold State.stopMember
      split
      · split
        · exact undriven_stopWith ht m hrank ..
        · exact ht
      · exact ht
    · exact undriven_stopWith hflag a hrank ..
  · split_ifs
    · unfold State.dropPending
      split
      · refine foldl_keeps (fun t : State => (t.axis b).drive = 0) (fun t m ht => ?_) _ h
        split
        · exact undriven_dropStart ht m rank
        · exact ht
      · exact undriven_dropStart h a rank
    · unfold State.setAxState
      refine undriven_set ?_ _ _
      exact undriven_onAxis (f := fun x => { x with cause := some rank }) h a fun _ hx => hx
    · exact h

/-- From one state to the next the cycle of an axis goes on, under a cause of no lower rank. -/
def Slower (b : Nat) (s t : State) : Prop :=
  ∀ c, (s.axis b).cycle = some c → ∃ d, (t.axis b).cycle = some d ∧ d.stop.getD 10 ≤ c.stop.getD 10

/-- The cycle of an axis, where there is one, stops by a cause of a rank or above. -/
def StopsBy (b rank : Nat) (t : State) : Prop := ∀ d, (t.axis b).cycle = some d → d.stop.getD 10 ≤ rank

theorem Slower.of_cycle {b : Nat} {s t : State} (h : (t.axis b).cycle = (s.axis b).cycle) : Slower b s t :=
  fun c hc => ⟨c, h.trans hc, Nat.le_refl _⟩

theorem Slower.trans {b : Nat} {s t u : State} (h : Slower b s t) (h' : Slower b t u) : Slower b s u := fun c hc => by
  obtain ⟨d, hd, hdc⟩ := h c hc
  obtain ⟨e, he, hed⟩ := h' d hd
  exact ⟨e, he, hed.trans hdc⟩

theorem slower_of_stopping {b rank : Nat} {t : State} {c : Cycle} (h : Stopping b rank t) (hrank : rank ≤ c.stop.getD 10) :
    ∃ d, (t.axis b).cycle = some d ∧ d.stop.getD 10 ≤ c.stop.getD 10 := by
  obtain ⟨d, hd, hstop⟩ := Option.bind_eq_some_iff.mp h.2
  exact ⟨d, hd, by rw [hstop]; exact hrank⟩

theorem slower_stopAxis {s : State} {b m : Nat} (hb : b < 6) (hm : m < 6) (hlen : s.mot.axes.length = 6) (rank : Nat) :
    Slower b s (s.stopAxis m rank) := fun c hc => by
  by_cases hmb : m = b
  · subst hmb
    by_cases hrank : rank < c.stop.getD 10
    · exact slower_of_stopping (stopping_stopAxis hb hc hlen hrank) hrank.le
    · rw [stopAxis_ranked hc (Nat.le_of_not_lt hrank), axis_causeFlag]
      exact ⟨c, hc, Nat.le_refl _⟩
  · rcases undisturbed_or_stopping hb hc hlen hm hmb rank with hu | ⟨hrank, hs⟩
    · exact ⟨c, hu.cycle.trans hc, Nat.le_refl _⟩
    · exact slower_of_stopping hs hrank.le

theorem stopsBy_stopAxis {s : State} {b : Nat} {c : Cycle} (hb : b < 6) (hlen : s.mot.axes.length = 6) (hc : (s.axis b).cycle = some c)
    (rank : Nat) : StopsBy b rank (s.stopAxis b rank) := fun d hd => by
  by_cases hrank : rank < c.stop.getD 10
  · have hstop := (stopping_stopAxis hb hc hlen hrank).2
    rw [hd] at hstop
    have hd' : d.stop = some rank := hstop
    rw [hd']
    exact Nat.le_refl rank
  · rw [stopAxis_ranked hc (Nat.le_of_not_lt hrank), axis_causeFlag, hc] at hd
    rw [← Option.some.inj hd]
    exact Nat.le_of_not_lt hrank

end Sys2Proof.Machine
end

section
/-! SUPPORT. The safe state of a bridge, and of all of them (R354, R358, R360, R364). -/
set_option Elab.async false
namespace Sys2Proof.Machine
open Host

/-! ### Quiet gates -/

theorem quietGate_mot (s : State) (a : Nat) : (s.quietGate a).mot = s.mot := by
  unfold State.quietGate
  rw [State.set_mot]
  rfl

theorem quietGate_cycle (s : State) (a b : Nat) : ((s.quietGate a).axis b).cycle = (s.axis b).cycle :=
  congrArg AxisSt.cycle (State.axis_of_mot (quietGate_mot s a) b)

theorem quietGate_get {g : Fld} {a : Nat} (h : (F.GD_STAT_REFRESH.on a).leaves g = true) (s : State) : (s.quietGate a).get g = s.get g := by
  unfold State.quietGate
  rw [State.get_set_leaves h]
  rfl

theorem quietGate_refresh (s : State) (a : Nat) : (s.quietGate a).get (F.GD_STAT_REFRESH.on a) = 0 :=
  State.get_set_lt (f := F.GD_STAT_REFRESH.on a) rfl (Nat.two_pow_pos _) _

/-- Quieting an axis leaves another one without a test of its comparators. -/
theorem untested_quietGate {s : State} {b : Nat} (h : Claims.untested s b) (a : Nat) : Claims.untested (s.quietGate a) b := by
  unfold Claims.untested State.quietGate at *
  rw [State.set_gate]
  rw [List.all_eq_true] at h ⊢
  exact fun e he => h e (List.mem_filter.mp he).1

theorem stateBelow_untested {s : State} {a : Nat} (h : Claims.untested s a) : s.stateBelow a = s.gdState a := by
  unfold State.stateBelow
  rw [List.find?_eq_none.mpr fun e he => by
    have hne := List.all_eq_true.mp h e he
    simpa using hne]

/-! ### A safe state, once -/

/-- The axis comes to rest without drive, and shows the cause. -/
def State.coasting (s : State) (a cause : Nat) : State :=
  ((((s.quietGate a).stopAxis a 2).onAxis a fun x => { x with drive := 0 }).set (F.GD_STAT_CAUSE.on a) cause).set (F.GD_STAT_STATE.on a)
    (if latchedCause cause then 4 else 3)

theorem safeState_acts {s : State} {a cause : Nat} (h : ¬ ((s.stateBelow a = 0 ∨ s.stateBelow a = 4) ∧ latchedCause cause = false)) :
    s.safeState a cause = (s.coasting a cause).abortBrakeTests fun b => (s.coasting a cause).testedAxis b == some a := if_neg h

theorem safeState_rests {s : State} {a cause : Nat} (h : (s.stateBelow a = 0 ∨ s.stateBelow a = 4) ∧ latchedCause cause = false) :
    s.safeState a cause = (s.quietGate a).set (F.GD_STAT_STATE.on a) (s.stateBelow a) := if_pos h

theorem coasting_gate (s : State) (a cause : Nat) : (s.coasting a cause).gate = (s.quietGate a).gate := by
  unfold State.coasting
  rw [State.set_gate, State.set_gate]
  exact (altersOf (alters_stopAxis (s.quietGate a) a 2)).gate (by decide +kernel)

theorem safeState_gate (s : State) (a cause : Nat) : (s.safeState a cause).gate = (s.quietGate a).gate := by
  by_cases h : (s.stateBelow a = 0 ∨ s.stateBelow a = 4) ∧ latchedCause cause = false
  · rw [safeState_rests h, State.set_gate]
  · rw [safeState_acts h, (altersOf (alters_abortBrakeTests _ _)).gate (by decide +kernel), coasting_gate]

theorem untested_safeState {s : State} {b : Nat} (h : Claims.untested s b) (a cause : Nat) : Claims.untested (s.safeState a cause) b := by
  have hq := untested_quietGate h a
  unfold Claims.untested at *
  rw [safeState_gate]
  exact hq

theorem safeState_len (s : State) (a cause : Nat) : (s.safeState a cause).mot.axes.length = s.mot.axes.length := by
  by_cases h : (s.stateBelow a = 0 ∨ s.stateBelow a = 4) ∧ latchedCause cause = false
  · rw [safeState_rests h, State.set_mot, quietGate_mot]
  · rw [safeState_acts h, abortBrakeTests_len]
    unfold State.coasting
    rw [State.set_mot, State.set_mot, onAxis_len, stopAxis_len, quietGate_mot]

/-- The words of a bridge that a safe state of some axis leaves alone. -/
theorem safeState_get {g : Fld} {a b : Nat} (cause : Nat)
    (h : ∀ f ∈ [F.GD_STAT_REFRESH, F.GD_STAT_CAUSE, F.GD_STAT_STATE], (f.on a).leaves (g.on b) = true)
    (hstop : (alt_stopAxis ||| alt_abortBrakeTests).testBit (wordBit (g.on b).addr) = false) (s : State) :
    (s.safeState a cause).get (g.on b) = s.get (g.on b) := by
  rw [Nat.testBit_or, Bool.or_eq_false_iff] at hstop
  have hquiet := quietGate_get (h F.GD_STAT_REFRESH (by simp)) s
  by_cases hc : (s.stateBelow a = 0 ∨ s.stateBelow a = 4) ∧ latchedCause cause = false
  · rw [safeState_rests hc, State.get_set_leaves (h F.GD_STAT_STATE (by simp)), hquiet]
  · rw [safeState_acts hc, (altersOf (alters_abortBrakeTests _ _)).get _ hstop.2]
    unfold State.coasting
    rw [State.get_set_leaves (h F.GD_STAT_STATE (by simp)), State.get_set_leaves (h F.GD_STAT_CAUSE (by simp))]
    exact ((altersOf (alters_stopAxis (s.quietGate a) a 2)).get _ hstop.1).trans hquiet

/-- The words of its bridge by which an axis shows that it coasts. -/
def coastFields : List Fld := [F.GD_STAT_REFRESH, F.GD_STAT_CAUSE, F.GD_STAT_STATE]

theorem coastFields_page {f : Fld} (h : f ∈ coastFields) : f.page = 0x49 := by
  have hall : ∀ f ∈ coastFields, f.page = 0x49 := by decide
  exact hall f h

theorem safeState_get_other {a b : Nat} (ha : a < 6) (hb : b < 6) (hab : a ≠ b) (s : State) (cause : Nat) {g : Fld} (hg : g ∈ coastFields) :
    (s.safeState a cause).get (g.on b) = s.get (g.on b) := by
  have hword : ∀ f ∈ coastFields, (alt_stopAxis ||| alt_abortBrakeTests).testBit (wordBit f.addr) = false := by decide +kernel
  exact safeState_get cause (fun f hf => leaves_gd_other (coastFields_page hf) (coastFields_page hg) ha hb hab)
    (by rw [wordBit_on]; exact hword g hg) s

/-- A safe state of one axis slows the cycle of another at most. -/
theorem slower_safeState {s : State} {a b : Nat} (ha : a < 6) (hb : b < 6) (hlen : s.mot.axes.length = 6) (cause : Nat) :
    Slower b s (s.safeState a cause) := by
  have hquiet : Slower b s (s.quietGate a) := .of_cycle (quietGate_cycle s a b)
  by_cases h : (s.stateBelow a = 0 ∨ s.stateBelow a = 4) ∧ latchedCause cause = false
  · rw [safeState_rests h]
    exact hquiet.trans (.of_cycle (congrArg AxisSt.cycle (axis_set ..)))
  · rw [safeState_acts h]
    refine (hquiet.trans (slower_stopAxis hb ha (by rw [quietGate_mot]; exact hlen) 2)).trans (.of_cycle ?_)
    rw [abortBrakeTests_cycle]
    unfold State.coasting
    rw [axis_set, axis_set, State.axis_onAxis]
    split <;> rfl

theorem undriven_safeState {s : State} {b : Nat} (h : (s.axis b).drive = 0) (a cause : Nat) : ((s.safeState a cause).axis b).drive = 0 := by
  have hquiet : ((s.quietGate a).axis b).drive = 0 := by rw [State.axis_of_mot (quietGate_mot s a)]; exact h
  by_cases hc : (s.stateBelow a = 0 ∨ s.stateBelow a = 4) ∧ latchedCause cause = false
  · rw [safeState_rests hc]
    exact undriven_set hquiet _ _
  · rw [safeState_acts hc, State.abortBrakeTests_drive]
    unfold State.coasting
    refine undriven_set (undriven_set ?_ _ _) _ _
    exact undriven_onAxis (f := fun x => { x with drive := 0 }) (undriven_stopAxis hquiet a (by decide)) a fun _ _ => rfl

/-! ### Coasting -/

/-- An axis coasts: its bridge shows a safe state with a cause, refreshes nothing, and drives nothing. -/
structure Coasts (a cause : Nat) (t : State) : Prop where
  state : t.gdState a = if latchedCause cause then 4 else 3
  cause : t.get (F.GD_STAT_CAUSE.on a) = cause
  drive : (t.axis a).drive = 0
  refresh : t.get (F.GD_STAT_REFRESH.on a) = 0

theorem Coasts.of_same {a cause : Nat} {s t : State} (h : Coasts a cause s) (hget : ∀ g ∈ coastFields, t.get (g.on a) = s.get (g.on a))
    (hdrive : (t.axis a).drive = 0) : Coasts a cause t :=
  ⟨(hget F.GD_STAT_STATE (by decide)).trans h.state, (hget F.GD_STAT_CAUSE (by decide)).trans h.cause, hdrive,
    (hget F.GD_STAT_REFRESH (by decide)).trans h.refresh⟩

theorem coasts_safeState {s : State} {a cause : Nat} (ha : a < 6) (hlen : s.mot.axes.length = 6) (hcause : cause < 16)
    (h : ¬ ((s.stateBelow a = 0 ∨ s.stateBelow a = 4) ∧ latchedCause cause = false)) :
    Coasts a cause (s.safeState a cause) ∧ ((s.axis a).cycle.isSome = true → StopsBy a 2 (s.safeState a cause)) := by
  have habort := fun u : State => altersOf (alters_abortBrakeTests u fun b => u.testedAxis b == some a)
  have hlq : (s.quietGate a).mot.axes.length = 6 := by rw [quietGate_mot]; exact hlen
  have hcoasting : Coasts a cause (s.coasting a cause) := by
    refine ⟨gdState_set_own (by split <;> decide) _ a, ?_, ?_, ?_⟩
    · unfold State.coasting
      rw [State.get_set_leaves (leaves_gd rfl rfl (by decide) a a)]
      exact State.get_set_lt (f := F.GD_STAT_CAUSE.on a) rfl (by exact hcause) _
    · unfold State.coasting
      rw [axis_set, axis_set, State.axis_onAxis, if_pos ⟨rfl, by rw [stopAxis_len, hlq]; exact ha⟩]
    · unfold State.coasting
      rw [State.get_set_leaves (leaves_gd rfl rfl (by decide) a a), State.get_set_leaves (leaves_gd rfl rfl (by decide) a a)]
      exact ((altersOf (alters_stopAxis (s.quietGate a) a 2)).get (F.GD_STAT_REFRESH.on a) (by rw [wordBit_on]; decide +kernel)).trans
        (quietGate_refresh s a)
  rw [safeState_acts h]
  refine ⟨hcoasting.of_same (fun g hg => ?_) ?_, fun hcycle d hd => ?_⟩
  · have hword : ∀ f ∈ coastFields, alt_abortBrakeTests.testBit (wordBit f.addr) = false := by decide +kernel
    exact (habort _).get _ (by rw [wordBit_on]; exact hword g hg)
  · rw [State.abortBrakeTests_drive]
    exact hcoasting.drive
  · obtain ⟨c, hc⟩ := Option.isSome_iff_exists.mp hcycle
    rw [abortBrakeTests_cycle] at hd
    unfold State.coasting at hd
    rw [axis_set, axis_set, State.axis_onAxis] at hd
    refine stopsBy_stopAxis ha hlq ((quietGate_cycle s a a).trans hc) 2 d ?_
    split at hd <;> exact hd

/-- What a claim says of an axis that coasts. -/
theorem coasts_of {s t : State} {a cause : Nat} (h : Coasts a cause t) (hslow : Slower a s t)
    (hstop : (s.axis a).cycle.isSome = true → StopsBy a 2 t) : Claims.coasts s t a cause := by
  obtain ⟨hstate, hcause, hdrive, hrefresh⟩ := h
  refine ⟨?_, hcause, hdrive, hrefresh, fun hcycle => ?_⟩
  · rw [hstate]
    unfold latchedCause
    simp only [Bool.or_eq_true, beq_iff_eq, or_assoc]
  · obtain ⟨c, hc⟩ := Option.isSome_iff_exists.mp hcycle
    obtain ⟨d, hd, -⟩ := hslow c hc
    refine ⟨by rw [hd]; rfl, fun r hr => ?_⟩
    rw [hd] at hr
    have hle := hstop hcycle d hd
    have hr' : d.stop = some r := hr
    rw [hr'] at hle
    exact hle

/-! ### Events -/

theorem sends_safeState {s₀ : State} (s : State) (a cause : Nat) (hk : Sends s₀ s) : Sends s₀ (s.safeState a cause) := by
  have hquiet := sends_quietGate s a hk
  by_cases h : (s.stateBelow a = 0 ∨ s.stateBelow a = 4) ∧ latchedCause cause = false
  · rw [safeState_rests h]
    exact sends_set hquiet
  · rw [safeState_acts h]
    refine sends_abortBrakeTests _ _ (sends_set (sends_set ?_))
    exact sends_onAxis _ a _ (sends_of_alters (altersOf (alters_stopAxis (s.quietGate a) a 2)) (by decide +kernel) hquiet)

theorem sends_safeAll {s₀ : State} (s : State) (cause : Nat) (hk : Sends s₀ s) : Sends s₀ (s.safeAll cause) :=
  sends_foldl (fun t a ht => sends_safeState t a cause ht) hk

/-! ### Every axis -/

/-- A safe state of every axis puts one that runs into its safe state. -/
theorem coasts_safeAll {s : State} {a cause : Nat} (ha : a < 6) (hlen : s.mot.axes.length = 6) (hcause : cause < 16)
    (hrun : s.gdState a ≠ 0 ∧ s.gdState a ≠ 4) (htest : Claims.untested s a) :
    Coasts a cause (s.safeAll cause) ∧ Slower a s (s.safeAll cause) ∧
      ((s.axis a).cycle.isSome = true → StopsBy a 2 (s.safeAll cause)) := by
  unfold State.safeAll
  refine (foldl_once (b := a) (f := fun (t : State) m => t.safeState m cause)
    (I := fun t : State => t.mot.axes.length = 6 ∧ t.gdState a = s.gdState a ∧ Claims.untested t a ∧ Slower a s t)
    (J := fun t : State => t.mot.axes.length = 6 ∧ Coasts a cause t ∧ Slower a s t ∧ ((s.axis a).cycle.isSome = true → StopsBy a 2 t))
    axisList axisList_nodup (mem_axisList.mpr ha) ?_ ?_ ?_ ⟨hlen, rfl, htest, .of_cycle rfl⟩).2
  · rintro t m hm hma ⟨htl, hts, htt, htc⟩
    have hm6 := mem_axisList.mp hm
    exact ⟨(safeState_len ..).trans htl,
      (safeState_get_other hm6 ha hma t cause (g := F.GD_STAT_STATE) (by decide)).trans hts, untested_safeState htt m cause,
      htc.trans (slower_safeState hm6 ha htl cause)⟩
  · rintro t ⟨htl, hts, htt, htc⟩
    have hbelow : ¬ ((t.stateBelow a = 0 ∨ t.stateBelow a = 4) ∧ latchedCause cause = false) := by
      rw [stateBelow_untested htt, hts]
      exact fun h => h.1.elim hrun.1 hrun.2
    obtain ⟨hcoasts, hstops⟩ := coasts_safeState ha htl hcause hbelow
    refine ⟨(safeState_len ..).trans htl, hcoasts, htc.trans (slower_safeState ha ha htl cause), fun hcycle => hstops ?_⟩
    obtain ⟨c, hc⟩ := Option.isSome_iff_exists.mp hcycle
    obtain ⟨d, hd, -⟩ := htc c hc
    rw [hd]
    rfl
  · rintro t m hm hma ⟨htl, htc, hts, hstop⟩
    have hm6 := mem_axisList.mp hm
    have hslow := slower_safeState hm6 ha htl cause
    refine ⟨(safeState_len ..).trans htl,
      htc.of_same (fun g hg => safeState_get_other hm6 ha hma t cause hg) (undriven_safeState htc.drive m cause), hts.trans hslow,
      fun hcycle d hd => ?_⟩
    obtain ⟨c, hc⟩ := Option.isSome_iff_exists.mp hcycle
    obtain ⟨e, he, -⟩ := hts c hc
    obtain ⟨d', hd', hle⟩ := hslow e he
    rw [hd] at hd'
    rw [Option.some.inj hd']
    exact hle.trans (hstop hcycle e he)

end Sys2Proof.Machine
end

section
/-! Bridge faults: every one puts its axis into the safe state with its cause, and a latched cause stays (R354, R358, R360 to R364). -/
set_option Elab.async false
namespace Sys2Proof.Machine
open Host

/-- An axis coasts on while words beside those of its bridge's state are set. -/
theorem Coasts.of_alters {a cause : Nat} {s t : State} (h : Coasts a cause s) (hget : ∀ g ∈ coastFields, t.get (g.on a) = s.get (g.on a))
    (hmot : t.mot = s.mot) : Coasts a cause t :=
  h.of_same hget (by rw [State.axis_of_mot hmot]; exact h.drive)

theorem coasts_of_same {s t u : State} {a cause : Nat} (h : Coasts a cause t ∧ Slower a s t ∧ ((s.axis a).cycle.isSome = true → StopsBy a 2 t))
    (hget : ∀ g ∈ coastFields, u.get (g.on a) = t.get (g.on a)) (hmot : u.mot = t.mot) : Claims.coasts s u a cause := by
  obtain ⟨hcoasts, hslow, hstop⟩ := h
  have hax := State.axis_of_mot hmot a
  refine coasts_of (hcoasts.of_alters hget hmot) (fun c hc => ?_) fun hcycle d hd => ?_
  · rw [hax]
    exact hslow c hc
  · rw [hax] at hd
    exact hstop hcycle d hd

/-! ### One bridge -/

/-- A safe state of one axis that a claim can read off. -/
theorem safeState_coasts {s : State} {a cause : Nat} (ha : a < 6) (hlen : s.mot.axes.length = 6) (hcause : cause < 16)
    (h : ¬ ((s.stateBelow a = 0 ∨ s.stateBelow a = 4) ∧ latchedCause cause = false)) :
    Coasts a cause (s.safeState a cause) ∧ Slower a s (s.safeState a cause) ∧
      ((s.axis a).cycle.isSome = true → StopsBy a 2 (s.safeState a cause)) :=
  ⟨(coasts_safeState ha hlen hcause h).1, slower_safeState ha ha hlen cause, (coasts_safeState ha hlen hcause h).2⟩

/-- A word of a bridge beside those of its state. -/
theorem safeState_get_same {g : Fld} (hg : g.page = 0x49) (h : (coastFields.all fun f => f.leaves g) = true)
    (hstop : (alt_stopAxis ||| alt_abortBrakeTests).testBit (wordBit g.addr) = false) (a cause b : Nat) (s : State) :
    (s.safeState a cause).get (g.on b) = s.get (g.on b) :=
  safeState_get cause (fun f hf => leaves_gd (coastFields_page hf) hg (List.all_eq_true.mp h f hf) a b) (by rw [wordBit_on]; exact hstop) s

/-- A trip of a comparator: its axis coasts, the comparator is shown, and the trip counts. -/
theorem shortCircuit_shown {s : State} {a c : Nat} (ha : a < 6) (hlen : s.mot.axes.length = 6) (hc : c < 8) :
    Claims.coasts s (s.shortCircuit a c) a 3 ∧ bit ((s.shortCircuit a c).get (F.GD_STAT_SCHB.on a)) c = true ∧
      (s.shortCircuit a c).get (F.GD_SCTEST_TRIPS.on a) = min (s.get (F.GD_SCTEST_TRIPS.on a) + 1) 65535 ∧
      (s.shortCircuit a c).on (F.GD_IFLAG_SC.on a) = true ∧ raised s (s.shortCircuit a c) (0x49 + a) (.flag 0) 2 := by
  unfold State.shortCircuit
  dsimp only
  generalize hu : s.set (F.GD_STAT_SCHB.on a) (withBit (s.get (F.GD_STAT_SCHB.on a)) c true) = u
  generalize hv : u.count (F.GD_SCTEST_TRIPS.on a) = v
  have humot : u.mot = s.mot := by rw [← hu, State.set_mot]
  have hvmot : v.mot = u.mot := by rw [← hv]; exact State.set_mot ..
  have hsafe := safeState_coasts (s := v) (cause := 3) ha (by rw [hvmot, humot]; exact hlen) (by decide) (fun h => absurd h.2 (by decide))
  have hflag : ∀ g ∈ coastFields, F.GD_IFLAG_SC.leaves g = true := by decide
  have hcoasts := coasts_of_same (u := (v.safeState a 3).flagEvent (F.GD_IFLAG_SC.on a) 2 [(F.GD_STAT_CAUSE.on a).addr]) hsafe
    (fun g hg => State.get_flagEvent_leaves (leaves_gd rfl (coastFields_page hg) (hflag g hg) a a) ..) (State.flagEvent_mot ..)
  have hax : v.axis a = s.axis a := State.axis_of_mot (hvmot.trans humot) a
  refine ⟨?_, ?_, ?_, State.on_flagEvent_okay (f := F.GD_IFLAG_SC.on a) rfl .., ?_⟩
  · obtain ⟨h1, h2, h3, h4, h5⟩ := hcoasts
    exact ⟨h1, h2, h3, h4, fun h => h5 (by rw [hax]; exact h)⟩
  · rw [State.get_flagEvent_leaves (leaves_gd rfl rfl (by decide) a a), safeState_get_same rfl (by decide) (by decide +kernel), ← hv,
      State.get_count_leaves (leaves_gd rfl rfl (by decide) a a), ← hu]
    rw [State.get_set_withBit (f := F.GD_STAT_SCHB.on a) rfl (by exact hc), bit_withBit_same]
  · rw [State.get_flagEvent_leaves (leaves_gd rfl rfl (by decide) a a), safeState_get_same rfl (by decide) (by decide +kernel), ← hv,
      State.get_count_okay (f := F.GD_SCTEST_TRIPS.on a) rfl, ← hu, State.get_set_leaves (leaves_gd rfl rfl (by decide) a a)]
    rfl
  · have hsends : Sends s (v.safeState a 3) := by
      rw [← hv, ← hu]
      exact sends_safeState _ _ _ (sends_count (sends_set (sends_refl s)))
    have hraise := raised_of_earlier hsends (raised_flagEvent (s := v.safeState a 3) rfl (F.GD_IFLAG_SC.on a) 2 [(F.GD_STAT_CAUSE.on a).addr])
      (sends_flagEvent (sends_refl _)).inbox
    rw [page_gd _ rfl, Nat.mod_eq_of_lt ha] at hraise
    exact hraise

theorem execShortCircuitTrip_claim (a c : Nat) (s : State) : Claims.shortCircuitTrip a c s := by
  intro hsh hM ha hc hb
  obtain ⟨-, hlen, -⟩ := hsh
  refine ⟨s.shortCircuit a c, ?_, shortCircuit_shown ha hlen hc⟩
  show execShortCircuitTrip a c s = _
  unfold execShortCircuitTrip
  exact if_pos ⟨ha, hc, hb, hM⟩

theorem execHandshakeTimeout_claim (a : Nat) (s : State) : Claims.handshakeTimeout a s := by
  intro hsh hM ha hscheme
  obtain ⟨-, hlen, -⟩ := hsh
  have hexec : exec (.handshakeTimeout a) s = .next ((s.safeState a 4).flag (F.GD_IFLAG_HSTO.on a)) := by
    show execHandshakeTimeout a s = _
    unfold execHandshakeTimeout
    exact if_pos ⟨ha, hM, hscheme⟩
  have hflag : ∀ g ∈ coastFields, F.GD_IFLAG_HSTO.leaves g = true := by decide
  exact ⟨_, hexec, coasts_of_same (safeState_coasts ha hlen (by decide) fun h => absurd h.2 (by decide))
    (fun g hg => State.get_flag_leaves (leaves_gd rfl (coastFields_page hg) (hflag g hg) a a) ..) (State.flag_mot ..),
    State.on_flag_okay (f := F.GD_IFLAG_HSTO.on a) rfl ..⟩

/-! ### Every bridge -/

theorem execVmOutOfRange_claim (high : Bool) (a : Nat) (s : State) : Claims.vmOutOfRange high a s := by
  intro hsh hM hdown ha hrun htest
  obtain ⟨-, hlen, -⟩ := hsh
  have hexec : exec (.vmOutOfRange high) s = .next (((s.safeAll 1).setOn F.GDR_STAT_VMHARD true).applyIf high fun s =>
      s.flagEvent F.GDR_IFLAG_VMHARD 2) := by
    show execVmOutOfRange high s = _
    unfold execVmOutOfRange
    exact if_neg (by rw [hM, hdown]; decide)
  have hsafe := coasts_safeAll (cause := 1) ha hlen (by decide) (by rw [hrun]; decide) htest
  generalize hu : (s.safeAll 1).setOn F.GDR_STAT_VMHARD true = u at hexec
  have hget : ∀ g ∈ coastFields, u.get (g.on a) = (s.safeAll 1).get (g.on a) := fun g hg => by
    rw [← hu]
    exact State.get_setOn_leaves (leaves_out_gd (.inl (by decide)) (coastFields_page hg) a) ..
  have humot : u.mot = (s.safeAll 1).mot := by rw [← hu, State.setOn_mot]
  have hon : u.on F.GDR_STAT_VMHARD = true := by rw [← hu]; exact State.on_setOn_okay (by decide) _ _
  cases high with
  | false => exact ⟨_, hexec, coasts_of_same hsafe hget humot, hon, fun h => absurd h (by decide)⟩
  | true =>
    refine ⟨_, hexec, coasts_of_same hsafe (fun g hg => (State.get_flagEvent_leaves
      (leaves_out_gd (.inl (by decide)) (coastFields_page hg) a) ..).trans (hget g hg)) ((State.flagEvent_mot ..).trans humot),
      (State.on_flagEvent_leaves (by decide) ..).trans hon, fun _ => ⟨State.on_flagEvent_okay (by decide) .., ?_⟩⟩
    have hsends : Sends s u := by
      rw [← hu]
      exact sends_setOn (sends_safeAll _ _ (sends_refl s))
    exact raised_of_earlier hsends (raised_flagEvent (s := u) rfl F.GDR_IFLAG_VMHARD 2 []) (sends_flagEvent (sends_refl u)).inbox

theorem execVggUndervoltage_eq {s : State} (hM : s.hasM = true) (hdown : s.gdieDown = false) :
    exec .vggUndervoltage s = .next (((s.safeAll 2).setOn F.GDR_STAT_VGG_OK false).flagEvent F.GDR_IFLAG_VGGUV 2) := by
  show execVggUndervoltage s = _
  unfold execVggUndervoltage
  exact if_neg (by rw [hM, hdown]; decide)

/-- The words of the supply leave those of a bridge alone. -/
theorem vggLost_get (s : State) (a : Nat) {g : Fld} (hg : g.page = 0x49) :
    ((s.setOn F.GDR_STAT_VGG_OK false).flagEvent F.GDR_IFLAG_VGGUV 2).get (g.on a) = s.get (g.on a) := by
  rw [State.get_flagEvent_leaves (leaves_out_gd (.inl (by decide)) hg a)]
  exact State.get_setOn_leaves (leaves_out_gd (.inl (by decide)) hg a) ..

theorem execVggUndervoltage_claim (a : Nat) (s : State) : Claims.vggUndervoltage a s := by
  intro hsh hM hdown ha hrun htest
  obtain ⟨-, hlen, -⟩ := hsh
  have hsafe := coasts_safeAll (cause := 2) ha hlen (by decide) (by rw [hrun]; decide) htest
  have hexec := execVggUndervoltage_eq hM hdown
  have hsends : Sends s (s.safeAll 2) := sends_safeAll _ _ (sends_refl s)
  generalize s.safeAll 2 = u at hsafe hexec hsends
  refine ⟨_, hexec, coasts_of_same hsafe (fun g hg => vggLost_get u a (coastFields_page hg)) ?_, ?_,
    State.on_flagEvent_okay (by decide) .., ?_⟩
  · rw [State.flagEvent_mot, State.setOn_mot]
  · rw [State.on_flagEvent_leaves (by decide)]
    exact State.on_setOn_okay (by decide) _ _
  · exact raised_of_earlier (sends_setOn hsends) (raised_flagEvent (s := u.setOn F.GDR_STAT_VGG_OK false) rfl F.GDR_IFLAG_VGGUV 2 [])
      (sends_flagEvent (sends_refl _)).inbox

/-! ### Causes that change nothing -/

/-- An axis that is off, or in FAULT, enters no safe state by a cause without a latch. -/
theorem safeState_rests_state {s : State} {a cause : Nat} (hstate : s.gdState a = 0 ∨ s.gdState a = 4) (htest : Claims.untested s a)
    (hcause : latchedCause cause = false) : s.safeState a cause = (s.quietGate a).set (F.GD_STAT_STATE.on a) (s.gdState a) := by
  rw [safeState_rests (by rw [stateBelow_untested htest]; exact ⟨hstate, hcause⟩), stateBelow_untested htest]

theorem execVggUndervoltage_latched_claim (a : Nat) (s : State) : Claims.latchedKeeps a s := by
  intro hM hdown ha hstate htest
  have hall : (s.safeAll 2).gdState a = 4 ∧ (s.safeAll 2).get (F.GD_STAT_CAUSE.on a) = s.get (F.GD_STAT_CAUSE.on a) ∧
      Claims.untested (s.safeAll 2) a := by
    unfold State.safeAll
    refine foldl_keeps_of_mem (fun t : State => t.gdState a = 4 ∧ t.get (F.GD_STAT_CAUSE.on a) = s.get (F.GD_STAT_CAUSE.on a) ∧
      Claims.untested t a) axisList (fun t m hm ht => ?_) ⟨hstate, rfl, htest⟩
    obtain ⟨ht4, htc, htt⟩ := ht
    have hm6 := mem_axisList.mp hm
    refine ⟨?_, ?_, untested_safeState htt m 2⟩
    · by_cases hma : m = a
      · subst hma
        rw [safeState_rests_state (.inr ht4) htt (by decide), ht4]
        exact gdState_set_own (by decide) _ m
      · exact (safeState_get_other hm6 ha hma t 2 (g := F.GD_STAT_STATE) (by decide)).trans ht4
    · refine Eq.trans ?_ htc
      by_cases hma : m = a
      · subst hma
        rw [safeState_rests_state (.inr ht4) htt (by decide), State.get_set_leaves (leaves_gd rfl rfl (by decide) m m)]
        exact quietGate_get (leaves_gd rfl rfl (by decide) m m) t
      · exact safeState_get_other hm6 ha hma t 2 (by decide)
  refine ⟨_, execVggUndervoltage_eq hM hdown, ?_, ?_⟩
  · exact (vggLost_get (s.safeAll 2) a (g := F.GD_STAT_STATE) rfl).trans hall.1
  · exact (vggLost_get (s.safeAll 2) a (g := F.GD_STAT_CAUSE) rfl).trans hall.2.1

/-! ### Bootstraps -/

/-- The half-bridge joins those whose bootstrap is low, and one that brings about a safe state is counted. -/
def State.bootLow (s : State) (a b : Nat) (counted : Bool) : State :=
  (s.onGate fun g => { g with lowBst := (4 * a + b) :: g.lowBst.filter (· != 4 * a + b) }).applyIf counted fun s =>
    s.count (F.GD_REFCNT_BSTUV.on a)

theorem bootLow_get {g : Fld} {a : Nat} (h : (F.GD_REFCNT_BSTUV.on a).leaves g = true) (s : State) (b : Nat) (counted : Bool) :
    (s.bootLow a b counted).get g = s.get g := by
  unfold State.bootLow State.applyIf
  split
  · rw [State.get_count_leaves h]
    rfl
  · rfl

theorem bootLow_gate (s : State) (a b : Nat) (counted : Bool) :
    (s.bootLow a b counted).gate = { s.gate with lowBst := (4 * a + b) :: s.gate.lowBst.filter (· != 4 * a + b) } := by
  unfold State.bootLow State.applyIf
  split
  · unfold State.count
    rw [State.set_gate]
    rfl
  · rfl

theorem bootLow_mot (s : State) (a b : Nat) (counted : Bool) : (s.bootLow a b counted).mot = s.mot := by
  unfold State.bootLow State.applyIf
  split
  · unfold State.count
    rw [State.set_mot]
    rfl
  · rfl

theorem bootLow_gdState (s : State) (a b : Nat) (counted : Bool) : (s.bootLow a b counted).gdState a = s.gdState a :=
  bootLow_get (leaves_gd rfl rfl (by decide) a a) s b counted

theorem untested_bootLow {s : State} {a : Nat} (h : Claims.untested s a) (b : Nat) (counted : Bool) :
    Claims.untested (s.bootLow a b counted) a := by
  unfold Claims.untested
  rw [bootLow_gate]
  exact h

theorem execBootstrapUndervoltage_eq {s : State} {a b : Nat} (hM : s.hasM = true) (ha : a < 6) (hb : b < s.bridges a)
    (htest : Claims.untested s a) : exec (.bootstrapUndervoltage a b) s =
      .next (((s.bootLow a b (!(s.gdState a == 0 || s.gdState a == 4))).safeState a 5).flagEvent (F.GD_IFLAG_BSTUV.on a) 2) := by
  show execBootstrapUndervoltage a b s = _
  unfold execBootstrapUndervoltage
  rw [if_pos ⟨ha, hb, hM⟩, stateBelow_untested htest]
  rfl

/-- The half-bridge is still among those whose bootstrap is low after the safe state. -/
theorem bootLow_safeState (s : State) (a b : Nat) (counted : Bool) :
    4 * a + b ∈ (((s.bootLow a b counted).safeState a 5).flagEvent (F.GD_IFLAG_BSTUV.on a) 2).gate.lowBst := by
  rw [State.flagEvent_gate, safeState_gate]
  unfold State.quietGate
  rw [State.set_gate]
  show 4 * a + b ∈ (s.bootLow a b counted).gate.lowBst
  rw [bootLow_gate]
  exact List.mem_cons_self

theorem execBootstrapUndervoltage_claim (a b : Nat) (s : State) : Claims.bootstrapUndervoltage a b s := by
  intro hsh hM ha hb hrun htest
  obtain ⟨-, hlen, -⟩ := hsh
  have hexec := execBootstrapUndervoltage_eq hM ha hb htest
  rw [hrun] at hexec
  have hmot := bootLow_mot s a b true
  have hsends : Sends s (s.bootLow a b true) := by
    unfold State.bootLow
    exact sends_count (sends_onGate _ _ (sends_refl s))
  have hbelow : ¬ (((s.bootLow a b true).stateBelow a = 0 ∨ (s.bootLow a b true).stateBelow a = 4) ∧ latchedCause 5 = false) := by
    rw [stateBelow_untested (untested_bootLow htest b true), bootLow_gdState, hrun]
    decide
  have hsafe := safeState_coasts (cause := 5) ha (by rw [hmot]; exact hlen) (by decide) hbelow
  have hflag : ∀ g ∈ coastFields, F.GD_IFLAG_BSTUV.leaves g = true := by decide
  refine ⟨_, hexec, ?_, bootLow_safeState s a b true, State.on_flagEvent_okay (f := F.GD_IFLAG_BSTUV.on a) rfl .., ?_, ?_⟩
  · obtain ⟨h1, h2, h3, h4, h5⟩ := coasts_of_same (u := ((s.bootLow a b true).safeState a 5).flagEvent (F.GD_IFLAG_BSTUV.on a) 2) hsafe
      (fun g hg => State.get_flagEvent_leaves (leaves_gd rfl (coastFields_page hg) (hflag g hg) a a) ..) (State.flagEvent_mot ..)
    exact ⟨h1, h2, h3, h4, fun h => h5 (by rw [State.axis_of_mot hmot]; exact h)⟩
  · have hraise := raised_of_earlier (sends_safeState _ a 5 hsends)
      (raised_flagEvent (s := (s.bootLow a b true).safeState a 5) rfl (F.GD_IFLAG_BSTUV.on a) 2 []) (sends_flagEvent (sends_refl _)).inbox
    rw [page_gd _ rfl, Nat.mod_eq_of_lt ha] at hraise
    exact hraise
  · rw [State.get_flagEvent_leaves (leaves_gd rfl rfl (by decide) a a), safeState_get_same rfl (by decide) (by decide +kernel)]
    exact State.get_count_okay (f := F.GD_REFCNT_BSTUV.on a) rfl _

theorem execBootstrapUndervoltage_rest_claim (a b : Nat) (s : State) : Claims.bootstrapLowAtRest a b s := by
  intro hM ha hb hstate htest
  have hexec := execBootstrapUndervoltage_eq hM ha hb htest
  have hcounted : (!(s.gdState a == 0 || s.gdState a == 4)) = false := by
    rcases hstate with h | h <;> rw [h] <;> decide
  rw [hcounted] at hexec
  have hlow := bootLow_safeState s a b false
  have hlowState := bootLow_gdState s a b false
  have hsafe := safeState_rests_state (s := s.bootLow a b false) (a := a) (cause := 5) (by rw [hlowState]; exact hstate)
    (untested_bootLow htest b false) (by decide)
  rw [hlowState] at hsafe
  refine ⟨_, hexec, ?_, hlow, ?_, State.on_flagEvent_okay (f := F.GD_IFLAG_BSTUV.on a) rfl .., ?_⟩
  · refine (State.get_flagEvent_leaves (leaves_gd rfl rfl (by decide) a a) ..).trans ?_
    rw [hsafe]
    exact gdState_set_own (by rcases hstate with h | h <;> rw [h] <;> decide) _ a
  · rw [State.get_flagEvent_leaves (leaves_gd rfl rfl (by decide) a a), safeState_get_same rfl (by decide) (by decide +kernel)]
    rfl
  · rw [State.flagEvent_mot, hsafe, State.set_mot, quietGate_mot, bootLow_mot]

/-! ### Supplies that are good again -/

theorem execSupplyRelease_claim (s : State) : Claims.supplyRelease s := by
  intro hM hdown hvgg
  show execSupplyRelease none s = _
  unfold execSupplyRelease
  rw [if_neg (by rw [hM, hdown]; decide)]
  dsimp only
  rw [if_neg (by rw [hvgg]; decide)]
  rfl

theorem execSupplyRelease_good_claim (s : State) : Claims.supplyGood s := by
  intro hvgg
  show execSupplyRelease none s = _
  unfold execSupplyRelease
  dsimp only
  rw [if_pos hvgg, ite_self]

theorem execSupplyRelease_bootstrap_claim (n : Nat) (s : State) : Claims.bootstrapRelease n s := by
  intro hM hdown
  show execSupplyRelease (some n) s = _
  unfold execSupplyRelease
  rw [if_neg (by rw [hM, hdown]; decide)]
  rfl

end Sys2Proof.Machine

/-- Settles O44: a safe state of its own axis, and of every axis one after the other, where those of the others slow a cycle at most. -/
theorem bridgeFaults : Obligations.BridgeFaults :=
  ⟨Sys2Proof.Machine.execShortCircuitTrip_claim, Sys2Proof.Machine.execHandshakeTimeout_claim, Sys2Proof.Machine.execVmOutOfRange_claim,
    Sys2Proof.Machine.execVggUndervoltage_claim, Sys2Proof.Machine.execBootstrapUndervoltage_claim,
    Sys2Proof.Machine.execVggUndervoltage_latched_claim, Sys2Proof.Machine.execSupplyRelease_claim,
    Sys2Proof.Machine.execSupplyRelease_good_claim, Sys2Proof.Machine.execSupplyRelease_bootstrap_claim,
    Sys2Proof.Machine.execBootstrapUndervoltage_rest_claim⟩
end

section
/-! Qualification of a bridge, drive steps, refresh episodes and the chopper (R357, R361, R363, R364). -/
set_option Elab.async false
namespace Sys2Proof.Machine
open Host

/-! ### Qualification -/

theorem canQualify_iff {s : State} {a : Nat} : s.canQualify a = true ↔ s.hasM = true ∧ s.pwr.phase = .run ∧ s.gdieDown = false ∧
    s.enabled (0x49 + a) = true ∧ s.enabled 0x48 = true ∧ s.on F.PWR_STAT_VM_OK = true ∧ s.on F.GDR_STAT_VGG_OK = true ∧
    s.on F.GDR_STAT_LINKLOST = false ∧ (s.gate.lowBst.all fun h => h / 4 != a) = true := by
  unfold State.canQualify
  simp only [Bool.and_eq_true, Bool.not_eq_true', beq_iff_eq, and_assoc]

theorem any_pulse {s : State} {a : Nat} (h : (s.gate.pulse.all fun p => p.axis != a) = true) : ¬ (s.gate.pulse.any fun p => p.axis == a) = true := by
  intro hany
  obtain ⟨p, hp, hpa⟩ := List.any_eq_true.mp hany
  have hne := List.all_eq_true.mp h p hp
  rw [bne, hpa] at hne
  exact absurd hne (by decide)

/-- Whether the QUALIFICATION of an axis begins one, and else what it shows. -/
theorem execQualification_eq {s : State} {a : Nat} (ha : a < 6) (hcan : s.canQualify a = true) (hstaged : s.bridgeStaged a = false)
    (hpulse : (s.gate.pulse.all fun p => p.axis != a) = true) : exec (.qualification a) s =
    if (s.gdState a = 0 ∧ latchedCause (s.get (F.GD_STAT_CAUSE.on a)) = false) ∨ s.gdState a = 3 ∨
        (s.gate.deferred.contains a = true ∧ s.gdState a = 4) then .next (s.beginQualify a (s.gate.deferred.contains a))
    else if s.gdState a = 0 then .next (s.set (F.GD_STAT_STATE.on a) 4) else .next s := by
  show execQualification a s = _
  unfold execQualification
  dsimp only
  rw [if_neg (by rw [hcan, hstaged]; simpa [Nat.not_le.mpr ha] using any_pulse hpulse)]

/-- The cause that a RECOVER takes away. -/
def State.recovered (s : State) (a : Nat) (recover : Bool) : State :=
  s.applyIf recover fun s => (s.set (F.GD_STAT_CAUSE.on a) 0).set (F.GD_STAT_SCHB.on a) 0

theorem beginQualify_eq (s : State) (a : Nat) (recover : Bool) : s.beginQualify a recover =
    ((s.recovered a recover).set (F.GD_STAT_STATE.on a) 1).onGate fun g => { g with
      qual := (a, (s.recovered a recover).now) :: g.qual, deferred := g.deferred.filter (· != a) } := by
  unfold State.beginQualify State.recovered
  dsimp only

theorem recovered_now (s : State) (a : Nat) (recover : Bool) : (s.recovered a recover).now = s.now := by
  unfold State.recovered State.applyIf
  split
  · rw [State.set_now, State.set_now]
  · rfl

theorem recovered_parts (s : State) (a : Nat) (recover : Bool) : (s.recovered a recover).mot = s.mot ∧ (s.recovered a recover).rsm = s.rsm := by
  unfold State.recovered State.applyIf
  split
  · rw [State.set_mot, State.set_mot, State.set_rsm, State.set_rsm]
    exact ⟨rfl, rfl⟩
  · exact ⟨rfl, rfl⟩

/-- A qualification that begins. -/
theorem beginQualify_begun (s : State) (a : Nat) (recover : Bool) : (s.beginQualify a recover).gdState a = 1 ∧
    (a, s.now) ∈ (s.beginQualify a recover).gate.qual ∧ a ∉ (s.beginQualify a recover).gate.deferred ∧
    (s.beginQualify a recover).mot = s.mot ∧ (s.beginQualify a recover).rsm = s.rsm := by
  obtain ⟨hmot, hrsm⟩ := recovered_parts s a recover
  rw [beginQualify_eq]
  refine ⟨gdState_set_own (by decide) _ a, ?_, ?_, ?_, ?_⟩
  · rw [State.onGate_gate, recovered_now]
    exact List.mem_cons_self
  · rw [State.onGate_gate]
    exact fun h => absurd (List.mem_filter.mp h).2 (by simp)
  · exact (State.set_mot ..).trans hmot
  · exact (State.set_rsm ..).trans hrsm

/-- A RECOVER that begins a qualification takes the cause away. -/
theorem beginQualify_cleared (s : State) (a : Nat) :
    (s.beginQualify a true).get (F.GD_STAT_CAUSE.on a) = 0 ∧ (s.beginQualify a true).get (F.GD_STAT_SCHB.on a) = 0 := by
  rw [beginQualify_eq]
  refine ⟨?_, ?_⟩
  · rw [State.onGate_get, State.get_set_leaves (leaves_gd rfl rfl (by decide) a a)]
    exact (State.get_set_leaves (leaves_gd rfl rfl (by decide) a a) _ _).trans
      (State.get_set_lt (f := F.GD_STAT_CAUSE.on a) rfl (Nat.two_pow_pos _) s)
  · rw [State.onGate_get, State.get_set_leaves (leaves_gd rfl rfl (by decide) a a)]
    exact State.get_set_lt (f := F.GD_STAT_SCHB.on a) rfl (Nat.two_pow_pos _) _

theorem execQualification_claim (a : Nat) (s : State) : Claims.qualification a s := by
  intro hM ha hphase hdown hen hen48 hvm hvgg hlink hlow hstaged hpulse hstate
  have hexec := execQualification_eq ha (canQualify_iff.mpr ⟨hM, hphase, hdown, hen, hen48, hvm, hvgg, hlink, hlow⟩) hstaged hpulse
  rw [if_pos (by
    rcases hstate with h | ⟨h, hc⟩
    · exact .inr (.inl h)
    · refine .inl ⟨h, ?_⟩
      unfold latchedCause
      simpa [and_assoc] using hc)] at hexec
  obtain ⟨h1, h2, -, h4, h5⟩ := beginQualify_begun s a (s.gate.deferred.contains a)
  exact ⟨_, hexec, h1, h2, h4, h5⟩

theorem execQualification_awaited_claim (a : Nat) (s : State) : Claims.qualificationAwaited a s := by
  intro ha hcan hstaged hpulse hstate hdef
  have hexec := execQualification_eq ha hcan hstaged hpulse
  have hwaits : s.gate.deferred.contains a = true := List.contains_iff_mem.mpr hdef
  rw [hwaits, if_pos (.inr (.inr ⟨rfl, hstate⟩))] at hexec
  obtain ⟨h1, h2, h3, -, -⟩ := beginQualify_begun s a true
  exact ⟨_, hexec, h1, h2, h3, beginQualify_cleared s a⟩

theorem execQualification_latched_claim (a : Nat) (s : State) : Claims.qualificationLatched a s := by
  intro ha hcan hstaged hpulse hstate hcause
  have hexec := execQualification_eq ha hcan hstaged hpulse
  have hlatched : latchedCause (s.get (F.GD_STAT_CAUSE.on a)) = true := by
    unfold latchedCause
    simpa [or_assoc] using hcause
  rw [if_neg (by rw [hstate, hlatched]; simp), if_pos hstate] at hexec
  exact ⟨_, hexec, gdState_set_own (by decide) _ a, State.set_gate ..⟩

/-! ### The end of a qualification -/

/-- The result of a qualification is written when its steps have run. -/
def State.qualTested (s : State) (a fails : Nat) (bst : List Nat) : State :=
  (((s.advanceTo (s.qualifyFrom a + s.get F.GDR_BST_PRECHG)).onGate fun g => { g with qual := g.qual.filter fun e => e.1 != a }).testResult a
    fails).showBootstraps a bst

/-- The bridge is enabled. -/
def State.qualEnabled (s : State) (a : Nat) : State :=
  ((s.set (F.GD_STAT_STATE.on a) 2).flag (F.GD_IFLAG_QUAL.on a)).onGate fun g => { g with
    qualified := if g.qualified.contains a then g.qualified else a :: g.qualified }

theorem execQualificationDone_eq {s : State} {a : Nat} (ha : a < 6) (hstate : s.gdState a = 1) (hcan : s.canQualify a = true) (fails : Nat)
    (bst : List Nat) : exec (.qualificationDone a fails bst) s =
    if fails &&& (s.qualTested a fails bst).comparators a ≠ 0 then .next (((s.qualTested a fails bst).testFail a).qualFail a)
    else if (List.range ((s.qualTested a fails bst).bridges a)).any fun b =>
        decide (entryNat bst b < (s.qualTested a fails bst).get F.GDR_BST_WARN + 5) then .next ((s.qualTested a fails bst).qualFail a)
    else .next (if ((s.qualTested a fails bst).qualEnabled a).axState a = 6 then ((s.qualTested a fails bst).qualEnabled a).setAxState a
        (if ((s.qualTested a fails bst).qualEnabled a).on F.SAF_STAT_SAFESTOP ||
          ((s.qualTested a fails bst).qualEnabled a).get F.TMP_LATCH_LATCHED != 0 then 5 else 0)
      else (s.qualTested a fails bst).qualEnabled a) := by
  show execQualificationDone a fails bst s = _
  unfold execQualificationDone
  rw [if_neg (by rw [hstate]; omega), if_neg (by rw [hcan]; decide)]
  rfl

theorem alters_qualTested (s : State) (a fails : Nat) (bst : List Nat) :
    Alters (partNow ||| partGate ||| alt_testResult ||| alt_showBootstraps) s (s.qualTested a fails bst) :=
  alters_showBootstraps _ _ _ (by unfold Sub; decide +kernel) (alters_testResult _ _ _ (by unfold Sub; decide +kernel)
    (alters_onGate _ _ (by unfold Sub; decide +kernel) (alters_advanceTo (by unfold Sub; decide +kernel) (alters_refl _ s))))

theorem qualTested_now (s : State) (a fails : Nat) (bst : List Nat) :
    (s.qualTested a fails bst).now = max s.now (s.qualifyFrom a + s.get F.GDR_BST_PRECHG) := by
  unfold State.qualTested State.showBootstraps State.testResult
  dsimp only
  rw [State.set_now, State.set_now, State.set_now]
  rfl

theorem mem_insertOnce (l : List Nat) (a : Nat) : a ∈ (if l.contains a then l else a :: l) := by
  split
  next h => exact List.contains_iff_mem.mp h
  next => exact List.mem_cons_self

/-- What an enabled bridge shows. -/
theorem qualEnabled_shown (u : State) (a : Nat) : (u.qualEnabled a).gdState a = 2 ∧ (u.qualEnabled a).on (F.GD_IFLAG_QUAL.on a) = true ∧
    a ∈ (u.qualEnabled a).gate.qualified ∧ (u.qualEnabled a).now = u.now := by
  unfold State.qualEnabled
  refine ⟨?_, State.on_flag_okay (f := F.GD_IFLAG_QUAL.on a) rfl _, ?_, ?_⟩
  · unfold State.gdState
    rw [State.onGate_get, State.get_flag_leaves (leaves_gd rfl rfl (by decide) a a)]
    exact gdState_set_own (by decide) u a
  · exact mem_insertOnce _ a
  · rw [State.onGate_now, State.flag_now, State.set_now]

theorem qualEnabled_get {g : Fld} {a : Nat} (h : ∀ f : Fld, f.page = 0x49 → (f.on a).leaves g = true) (u : State) :
    (u.qualEnabled a).get g = u.get g := by
  unfold State.qualEnabled
  rw [State.onGate_get, State.get_flag_leaves (h F.GD_IFLAG_QUAL rfl), State.get_set_leaves (h F.GD_STAT_STATE rfl)]

/-- The fault of a failed qualification. -/
theorem qualFail_shown {u : State} {a : Nat} (ha : a < 6) (hlen : u.mot.axes.length = 6) :
    (u.qualFail a).gdState a = 4 ∧ (u.qualFail a).get (F.GD_STAT_CAUSE.on a) = 7 ∧ (u.qualFail a).on (F.GD_IFLAG_QUALFAIL.on a) = true ∧
      (u.qualFail a).now = u.now := by
  obtain ⟨⟨hs, hc, -, -⟩, -⟩ := coasts_safeState (s := u) (cause := 7) ha hlen (by decide) (fun h => absurd h.2 (by decide))
  unfold State.qualFail
  refine ⟨(State.get_flag_leaves (leaves_gd rfl rfl (by decide) a a) _).trans hs,
    (State.get_flag_leaves (leaves_gd rfl rfl (by decide) a a) _).trans hc, State.on_flag_okay (f := F.GD_IFLAG_QUALFAIL.on a) rfl _, ?_⟩
  rw [State.flag_now]
  exact (altersOf (alters_safeState u a 7)).now (by decide +kernel)

theorem execQualificationDone_claim (a fails : Nat) (bst : List Nat) (s : State) : Claims.qualificationDone a fails bst s := by
  intro hsh ha hstate hcan
  obtain ⟨-, hlen, -⟩ := hsh
  have hexec := execQualificationDone_eq ha hstate hcan fails bst
  have htested := alters_qualTested s a fails bst
  have hnow := qualTested_now s a fails bst
  generalize s.qualTested a fails bst = u at hexec htested hnow
  have hbridges : u.bridges a = s.bridges a := by
    unfold State.bridges
    rw [htested.get _ (by rw [wordBit_on]; decide +kernel)]
  have hcomp : u.comparators a = 2 ^ (2 * s.bridges a) - 1 := by
    unfold State.comparators
    rw [hbridges]
  have hulen : u.mot.axes.length = 6 := by rw [htested.mot (by decide +kernel)]; exact hlen
  have hwarn : u.get F.GDR_BST_WARN = s.get F.GDR_BST_WARN := htested.get _ (by decide +kernel)
  rw [hcomp, hbridges, hwarn] at hexec
  by_cases hfails : fails &&& (2 ^ (2 * s.bridges a) - 1) = 0
  · rw [if_neg (not_not.mpr hfails)] at hexec
    have hany : ((List.range (s.bridges a)).any fun b => decide (entryNat bst b < s.get F.GDR_BST_WARN + 5)) =
        !((List.range (s.bridges a)).all fun b => decide (s.get F.GDR_BST_WARN + 5 ≤ (bst[b]?).getD 0)) := by
      rw [List.all_eq_not_any_not, Bool.not_not]
      refine List.any_congr rfl fun b => ?_
      unfold entryNat
      rw [← decide_not]
      exact decide_eq_decide.mpr Nat.not_le.symm
    by_cases hall : ((List.range (s.bridges a)).all fun b => decide (s.get F.GDR_BST_WARN + 5 ≤ (bst[b]?).getD 0)) = true
    · rw [if_neg (by rw [hany, hall]; decide)] at hexec
      obtain ⟨hstat, hflag, hmem, hunow⟩ := qualEnabled_shown u a
      have hax : (u.qualEnabled a).axState a = s.axState a :=
        (qualEnabled_get (fun f hf => Fld.leaves_of_page (by rw [page_gd f hf, page_ax (f := F.AX_STAT_STATE) rfl]; omega)) u).trans
          (htested.get (F.AX_STAT_STATE.on a) (by rw [wordBit_on]; decide +kernel))
      have hsafe : (u.qualEnabled a).on F.SAF_STAT_SAFESTOP = s.on F.SAF_STAT_SAFESTOP := by
        unfold State.on
        rw [qualEnabled_get (fun f hf => leaves_gd_out hf (.inl (by decide)) a) u, htested.get _ (by decide +kernel)]
      have hlatch : (u.qualEnabled a).get F.TMP_LATCH_LATCHED = s.get F.TMP_LATCH_LATCHED :=
        (qualEnabled_get (fun f hf => leaves_gd_out hf (.inl (by decide)) a) u).trans (htested.get _ (by decide +kernel))
      rw [hax, hsafe, hlatch] at hexec
      generalize u.qualEnabled a = v at hexec hax hstat hflag hmem hunow
      have hgd : ∀ n, (v.setAxState a n).gdState a = v.gdState a := fun n =>
        State.get_set_leaves (leaves_out_gd (.inl (by rw [page_ax rfl]; omega)) rfl a) _ _
      have hon : ∀ n, (v.setAxState a n).on (F.GD_IFLAG_QUAL.on a) = v.on (F.GD_IFLAG_QUAL.on a) := fun n =>
        State.on_set_leaves (leaves_out_gd (.inl (by rw [page_ax rfl]; omega)) rfl a) _ _
      by_cases h6 : s.axState a = 6
      · rw [if_pos h6] at hexec
        refine ⟨_, hexec, ?_, ?_⟩
        · exact (State.set_now ..).trans (hunow.trans hnow)
        · rw [if_pos ⟨hfails, hall⟩]
          refine ⟨(hgd _).trans hstat, (hon _).trans hflag, ?_, fun _ => axState_setAxState v a (by split <;> decide)⟩
          unfold State.setAxState
          rw [State.set_gate]
          exact hmem
      · rw [if_neg h6] at hexec
        refine ⟨_, hexec, hunow.trans hnow, ?_⟩
        rw [if_pos ⟨hfails, hall⟩]
        exact ⟨hstat, hflag, hmem, fun h => absurd h h6⟩
    · rw [if_pos (by rw [hany, Bool.eq_false_of_not_eq_true hall]; decide)] at hexec
      obtain ⟨h1, h2, h3, h4⟩ := qualFail_shown ha hulen
      refine ⟨_, hexec, h4.trans hnow, ?_⟩
      rw [if_neg (fun h => hall h.2)]
      exact ⟨h1, h2, h3⟩
  · rw [if_pos hfails] at hexec
    have hfaillen : (u.testFail a).mot.axes.length = 6 := by
      unfold State.testFail
      rw [State.flagEvent_mot, safeState_len]
      exact hulen
    have hfailnow : (u.testFail a).now = u.now := by
      unfold State.testFail
      rw [State.flagEvent_now]
      exact (altersOf (alters_safeState u a 7)).now (by decide +kernel)
    obtain ⟨h1, h2, h3, h4⟩ := qualFail_shown ha hfaillen
    refine ⟨_, hexec, h4.trans (hfailnow.trans hnow), ?_⟩
    rw [if_neg (fun h => hfails h.1)]
    exact ⟨h1, h2, h3⟩

/-- A bridge that is switched off outside FAULT is off, and nothing runs on it. -/
theorem bridgeOff_off {s : State} {a : Nat} (hbelow : s.stateBelow a ≠ 4) :
    (s.bridgeOff a).gdState a = 0 ∧ ((s.bridgeOff a).axis a).drive = 0 ∧ ((s.bridgeOff a).gate.qual.all fun e => e.1 != a) = true ∧
      (s.bridgeOff a).now = s.now := by
  refine ⟨?_, (State.bridgeOff_quiet s a).1, ?_, (altersOf (alters_bridgeOff s a)).now (by decide +kernel)⟩
  · unfold State.bridgeOff
    dsimp only
    rw [if_neg hbelow]
    exact ((altersOf (alters_abortBrakeTests _ _)).get (F.GD_STAT_STATE.on a) (by rw [wordBit_on]; decide +kernel)).trans
      (gdState_set_own (by decide) _ a)
  · unfold State.bridgeOff
    dsimp only
    rw [(altersOf (alters_abortBrakeTests _ _)).gate (by decide +kernel), State.set_gate]
    have hqual : ((s.quietGate a).gate.qual.all fun e => e.1 != a) = true := by
      unfold State.quietGate
      rw [State.set_gate, List.all_eq_true]
      exact fun e he => (List.mem_filter.mp (show e ∈ s.gate.qual.filter fun e => e.1 != a from he)).2
    exact hqual

theorem execQualificationDone_cut_claim (a fails : Nat) (bst : List Nat) (s : State) : Claims.qualificationCut a fails bst s := by
  intro hsh ha hstate hcan htest
  obtain ⟨-, hlen, -⟩ := hsh
  have hexec : exec (.qualificationDone a fails bst) s = .next (s.bridgeOff a) := by
    show execQualificationDone a fails bst s = _
    unfold execQualificationDone
    rw [if_neg (by rw [hstate]; omega), if_pos hcan]
  exact ⟨_, hexec, bridgeOff_off (by rw [stateBelow_untested htest, hstate]; decide)⟩

/-! ### Digits of a word -/

/-- One digit to base 16 of a number of four digits is replaced. -/
theorem nibble_replaced {v n : Nat} (hv : v < 65536) (hn : n < 16) {b c : Nat} (hb : b < 4) (hc : c < 4) :
    (v - v / 16 ^ c % 16 * 16 ^ c + n * 16 ^ c) / 16 ^ b % 16 = (if c = b then n else v / 16 ^ b % 16) ∧
      v - v / 16 ^ c % 16 * 16 ^ c + n * 16 ^ c < 65536 := by
  interval_cases b <;> interval_cases c <;> norm_num <;> omega

/-- The sum of bytes holds each of them as its digit to base 256. -/
theorem bytes_sum (x : Nat → Nat) (n : Nat) :
    (List.range n).foldl (fun acc b => acc + min (x b) 255 * 256 ^ b) 0 < 256 ^ n ∧ ∀ b < n,
      (List.range n).foldl (fun acc b => acc + min (x b) 255 * 256 ^ b) 0 / 256 ^ b % 256 = min (x b) 255 := by
  induction n with
  | zero => exact ⟨Nat.one_pos, fun b hb => absurd hb (Nat.not_lt_zero b)⟩
  | succ n ih =>
    obtain ⟨hlt, hdigit⟩ := ih
    rw [List.range_succ, List.foldl_append]
    show List.foldl _ 0 (List.range n) + min (x n) 255 * 256 ^ n < _ ∧ ∀ b < n + 1,
      (List.foldl _ 0 (List.range n) + min (x n) 255 * 256 ^ n) / 256 ^ b % 256 = _
    generalize (List.range n).foldl (fun acc b => acc + min (x b) 255 * 256 ^ b) 0 = v at hlt hdigit ⊢
    have hbyte : min (x n) 255 < 256 := by omega
    refine ⟨?_, fun b hb => ?_⟩
    · rw [pow_succ]
      nlinarith [Nat.two_pow_pos n]
    · rcases Nat.lt_succ_iff_lt_or_eq.mp hb with h | rfl
      · obtain ⟨k, rfl⟩ := Nat.exists_eq_add_of_lt h
        rw [← hdigit b h, show b + k + 1 = b + 1 + k by omega, pow_add, pow_succ, show min (x (b + 1 + k)) 255 * (256 ^ b * 256 * 256 ^ k) =
          256 ^ b * (256 * (min (x (b + 1 + k)) 255 * 256 ^ k)) by ring, Nat.add_mul_div_left _ _ (Nat.pow_pos (by decide)),
          Nat.add_mul_mod_self_left]
      · rw [Nat.add_mul_div_right _ _ (Nat.pow_pos (by decide)), Nat.div_eq_of_lt hlt, Nat.zero_add, Nat.mod_eq_of_lt hbyte]

/-! ### Drive steps -/

theorem bridges_le (s : State) (a : Nat) : s.bridges a ≤ 4 := by
  unfold State.bridges
  split <;> decide

/-- The next drive step of a half-bridge, from its mean switching time. -/
def State.nextStep (s : State) (a b ns : Nat) : Nat :=
  if !s.on (F.GD_SW_ADAPT.on a) then s.get (F.GD_SW_STRMAX.on a)
  else max (s.get (F.GD_SW_STRMIN.on a)) (min (s.get (F.GD_SW_STRMAX.on a))
    (if decide (11 * s.get (F.GD_SW_TSW.on a) < 10 * ns) then s.driveStep a b + 1
      else if decide (10 * ns < 9 * s.get (F.GD_SW_TSW.on a)) then s.driveStep a b - 1 else s.driveStep a b))

/-- The periods in a row in which a half-bridge was too slow at the highest step, and too fast at the lowest. -/
def State.slowPeriods (s : State) (a b ns : Nat) : Nat :=
  if decide (11 * s.get (F.GD_SW_TSW.on a) < 10 * ns) && s.driveStep a b == s.get (F.GD_SW_STRMAX.on a) then
    countOf s.gate.slow (4 * a + b) + 1 else 0
def State.fastPeriods (s : State) (a b ns : Nat) : Nat :=
  if decide (10 * ns < 9 * s.get (F.GD_SW_TSW.on a)) && s.driveStep a b == s.get (F.GD_SW_STRMIN.on a) then
    countOf s.gate.fast (4 * a + b) + 1 else 0

/-- The step and its marks of one half-bridge, without the flag. -/
def State.stepped (s : State) (a b ns : Nat) : State :=
  ((s.onGate fun g => { g with
      slow := putCount (4 * a + b) (min (s.slowPeriods a b ns) 1024) g.slow
      fast := putCount (4 * a + b) (min (s.fastPeriods a b ns) 1024) g.fast }).set (F.GD_STR_STEP.on a)
    (s.get (F.GD_STR_STEP.on a) - s.driveStep a b * 16 ^ b + s.nextStep a b ns * 16 ^ b)).set (F.GD_STR_LIMIT.on a)
    (withBit (withBit (s.get (F.GD_STR_LIMIT.on a)) (2 * b) (decide (1024 ≤ s.slowPeriods a b ns))) (2 * b + 1)
      (decide (1024 ≤ s.fastPeriods a b ns)))

theorem adaptBridge_eq (s : State) (a b ns : Nat) : ∃ fresh, s.adaptBridge a b ns =
    (s.stepped a b ns).applyIf fresh fun s => s.flagEvent (F.GD_IFLAG_SLOW.on a) 1 [(F.GD_STR_LIMIT.on a).addr] := ⟨_, rfl⟩

theorem adaptBridge_get {g : Fld} {a : Nat} (h : (F.GD_IFLAG_SLOW.on a).leaves g = true) (s : State) (b ns : Nat) :
    (s.adaptBridge a b ns).get g = (s.stepped a b ns).get g := by
  obtain ⟨fresh, h'⟩ := adaptBridge_eq s a b ns
  rw [h']
  unfold State.applyIf
  split
  · exact State.get_flagEvent_leaves h _ _ _
  · rfl

theorem adaptBridge_gate (s : State) (a b ns : Nat) : (s.adaptBridge a b ns).gate = { s.gate with
    slow := putCount (4 * a + b) (min (s.slowPeriods a b ns) 1024) s.gate.slow
    fast := putCount (4 * a + b) (min (s.fastPeriods a b ns) 1024) s.gate.fast } := by
  obtain ⟨fresh, h'⟩ := adaptBridge_eq s a b ns
  have hstepped : (s.stepped a b ns).gate = { s.gate with
      slow := putCount (4 * a + b) (min (s.slowPeriods a b ns) 1024) s.gate.slow
      fast := putCount (4 * a + b) (min (s.fastPeriods a b ns) 1024) s.gate.fast } := by
    unfold State.stepped
    rw [State.set_gate, State.set_gate]
    rfl
  rw [h']
  unfold State.applyIf
  split
  · rw [State.flagEvent_gate, hstepped]
  · exact hstepped

theorem nextStep_lt (s : State) (a b ns : Nat) : s.nextStep a b ns < 16 := by
  have hmax : s.get (F.GD_SW_STRMAX.on a) < 16 := s.get_lt (F.GD_SW_STRMAX.on a)
  have hmin : s.get (F.GD_SW_STRMIN.on a) < 16 := s.get_lt (F.GD_SW_STRMIN.on a)
  unfold State.nextStep
  split
  · exact hmax
  · exact max_lt hmin (lt_of_le_of_lt (min_le_left _ _) hmax)

theorem adaptBridge_step {b c : Nat} (hb : b < 4) (hc : c < 4) (s : State) (a ns : Nat) :
    (s.adaptBridge a c ns).driveStep a b = if c = b then s.nextStep a c ns else s.driveStep a b := by
  have hstep : s.get (F.GD_STR_STEP.on a) < 65536 := s.get_lt (F.GD_STR_STEP.on a)
  obtain ⟨hdigit, hlt⟩ := nibble_replaced hstep (nextStep_lt s a c ns) hb hc
  have hfits : s.get (F.GD_STR_STEP.on a) - s.driveStep a c * 16 ^ c + s.nextStep a c ns * 16 ^ c < 65536 := hlt
  unfold State.driveStep
  rw [adaptBridge_get (leaves_gd rfl rfl (by decide) a a)]
  unfold State.stepped
  rw [State.get_set_leaves (leaves_gd rfl rfl (by decide) a a), State.get_set_lt (f := F.GD_STR_STEP.on a) rfl hfits]
  exact hdigit

theorem adaptBridge_limit {b c : Nat} (hc : c < 4) (s : State) (a ns : Nat) :
    bit ((s.adaptBridge a c ns).get (F.GD_STR_LIMIT.on a)) (2 * b) =
      if c = b then decide (1024 ≤ s.slowPeriods a c ns) else bit (s.get (F.GD_STR_LIMIT.on a)) (2 * b) := by
  have hlimit : s.get (F.GD_STR_LIMIT.on a) < 2 ^ 8 := s.get_lt (F.GD_STR_LIMIT.on a)
  rw [adaptBridge_get (leaves_gd rfl rfl (by decide) a a)]
  unfold State.stepped
  rw [State.get_set_lt (f := F.GD_STR_LIMIT.on a) rfl
    (withBit_lt (n := 8) _ (withBit_lt _ hlimit (by omega)) (by omega)), bit_withBit, bit_withBit,
    if_neg (by omega)]
  split_ifs <;> first | rfl | omega

/-- The count of another key. -/
theorem countOf_putCount_other {k n : Nat} (h : k ≠ n) (v : Nat) (l : List (Nat × Nat)) : countOf (putCount k v l) n = countOf l n := by
  have hfilter : countOf (l.filter fun e => e.1 != k) n = countOf l n := by
    induction l with
    | nil => rfl
    | cons e l ih =>
      obtain ⟨i, w⟩ := e
      by_cases hi : i = k
      · subst hi
        rw [List.filter_cons_of_neg (by simp), ih]
        exact (if_neg h).symm
      · rw [List.filter_cons_of_pos (by simpa using hi)]
        unfold countOf
        rw [ih]
  unfold putCount
  dsimp only
  split
  · exact hfilter
  · exact (if_neg h).trans hfilter

/-! ### A PWM period -/

theorem refreshPeriod_get {g : Fld} {a : Nat} (h : (F.GD_STAT_REFRESH.on a).leaves g = true) (s : State) (b low : Nat) :
    (s.refreshPeriod a b low).get g = s.get g := by
  unfold State.refreshPeriod
  dsimp only
  split
  · exact State.get_set_leaves h _ _
  · rfl

theorem refreshPeriod_gate (s : State) (a b low : Nat) : (s.refreshPeriod a b low).gate = { s.gate with
    refreshed := (if bit (s.get (F.GD_STAT_REFRESH.on a)) b && decide (low < 400) then [4 * a + b] else []) ++
      s.gate.refreshed.filter (· != 4 * a + b) } := by
  unfold State.refreshPeriod
  dsimp only
  split
  · rw [State.set_gate]
    rfl
  · rfl

theorem refreshPeriod_refresh {b c : Nat} (hc : c < 4) (s : State) (a low : Nat) :
    bit ((s.refreshPeriod a c low).get (F.GD_STAT_REFRESH.on a)) b =
      if c = b ∧ 400 ≤ low then false else bit (s.get (F.GD_STAT_REFRESH.on a)) b := by
  unfold State.refreshPeriod
  dsimp only
  generalize hu : s.onGate _ = u
  have hur : u.get (F.GD_STAT_REFRESH.on a) = s.get (F.GD_STAT_REFRESH.on a) := by rw [← hu]; rfl
  rw [← hur]
  by_cases hlow : 400 ≤ low
  · rw [decide_eq_true hlow, Bool.and_true]
    by_cases hbit : bit (u.get (F.GD_STAT_REFRESH.on a)) c = true
    · rw [if_pos hbit, State.get_set_withBit (f := F.GD_STAT_REFRESH.on a) rfl (by exact hc) u false, bit_withBit]
      simp only [hlow, and_true, eq_comm (a := b)]
    · rw [if_neg hbit]
      split
      next h => exact h.1 ▸ Bool.eq_false_of_not_eq_true hbit
      next => rfl
  · rw [decide_eq_false hlow, Bool.and_false, if_neg (by decide), if_neg (fun h => hlow h.2)]

/-- What one half-bridge does in a PWM period. -/
def State.halfPeriod (s : State) (a b : Nat) (h : HalfPeriod) : State := (s.adaptBridge a b h.ns).refreshPeriod a b h.low

/-- The words of an axis that its half-bridges follow in a PWM period, and what is kept for half-bridge `b` of it. -/
structure SameHalf (a b : Nat) (s t : State) : Prop where
  adapt : t.on (F.GD_SW_ADAPT.on a) = s.on (F.GD_SW_ADAPT.on a)
  hi : t.get (F.GD_SW_STRMAX.on a) = s.get (F.GD_SW_STRMAX.on a)
  lo : t.get (F.GD_SW_STRMIN.on a) = s.get (F.GD_SW_STRMIN.on a)
  time : t.get (F.GD_SW_TSW.on a) = s.get (F.GD_SW_TSW.on a)
  step : t.driveStep a b = s.driveStep a b
  limit : bit (t.get (F.GD_STR_LIMIT.on a)) (2 * b) = bit (s.get (F.GD_STR_LIMIT.on a)) (2 * b)
  slow : countOf t.gate.slow (4 * a + b) = countOf s.gate.slow (4 * a + b)
  refresh : bit (t.get (F.GD_STAT_REFRESH.on a)) b = bit (s.get (F.GD_STAT_REFRESH.on a)) b
  refreshed : 4 * a + b ∈ t.gate.refreshed ↔ 4 * a + b ∈ s.gate.refreshed

theorem SameHalf.trans {a b : Nat} {s t u : State} (h : SameHalf a b s t) (h' : SameHalf a b t u) : SameHalf a b s u :=
  ⟨h'.adapt.trans h.adapt, h'.hi.trans h.hi, h'.lo.trans h.lo, h'.time.trans h.time, h'.step.trans h.step, h'.limit.trans h.limit,
    h'.slow.trans h.slow, h'.refresh.trans h.refresh, h'.refreshed.trans h.refreshed⟩

theorem alters_halfPeriod (s : State) (a b : Nat) (h : HalfPeriod) : Alters (alt_adaptBridge ||| alt_refreshPeriod) s (s.halfPeriod a b h) :=
  alters_refreshPeriod _ _ _ _ (by unfold Sub; decide +kernel) (alters_adaptBridge _ _ _ _ (by unfold Sub; decide +kernel) (alters_refl _ s))

theorem halfPeriod_step {b c : Nat} (hb : b < 4) (hc : c < 4) (s : State) (a : Nat) (h : HalfPeriod) :
    (s.halfPeriod a c h).driveStep a b = if c = b then s.nextStep a c h.ns else s.driveStep a b := by
  rw [← adaptBridge_step hb hc s a h.ns]
  unfold State.halfPeriod State.driveStep
  rw [refreshPeriod_get (leaves_gd rfl rfl (by decide) a a)]

theorem halfPeriod_limit {b c : Nat} (hc : c < 4) (s : State) (a : Nat) (h : HalfPeriod) :
    bit ((s.halfPeriod a c h).get (F.GD_STR_LIMIT.on a)) (2 * b) =
      if c = b then decide (1024 ≤ s.slowPeriods a c h.ns) else bit (s.get (F.GD_STR_LIMIT.on a)) (2 * b) := by
  unfold State.halfPeriod
  rw [refreshPeriod_get (leaves_gd rfl rfl (by decide) a a), adaptBridge_limit hc]

theorem adaptBridge_refresh (s : State) (a c ns : Nat) :
    (s.adaptBridge a c ns).get (F.GD_STAT_REFRESH.on a) = s.get (F.GD_STAT_REFRESH.on a) :=
  (altersOf (alters_adaptBridge s a c ns)).get _ (by rw [wordBit_on]; decide +kernel)

theorem halfPeriod_refresh {b c : Nat} (hc : c < 4) (s : State) (a : Nat) (h : HalfPeriod) :
    bit ((s.halfPeriod a c h).get (F.GD_STAT_REFRESH.on a)) b =
      if c = b ∧ 400 ≤ h.low then false else bit (s.get (F.GD_STAT_REFRESH.on a)) b := by
  unfold State.halfPeriod
  rw [refreshPeriod_refresh hc, adaptBridge_refresh]

theorem halfPeriod_refreshed (s : State) (a b c : Nat) (h : HalfPeriod) : 4 * a + b ∈ (s.halfPeriod a c h).gate.refreshed ↔
    (if c = b then bit (s.get (F.GD_STAT_REFRESH.on a)) b = true ∧ h.low < 400 else 4 * a + b ∈ s.gate.refreshed) := by
  unfold State.halfPeriod
  rw [refreshPeriod_gate, adaptBridge_refresh, adaptBridge_gate]
  dsimp only
  rw [List.mem_append, List.mem_filter]
  by_cases hcb : c = b
  · subst hcb
    rw [if_pos rfl]
    split
    next hp => simpa using hp
    next hp => simpa using hp
  · rw [if_neg hcb]
    have hne : ¬ b = c := fun h => hcb h.symm
    split <;> simp [hne]

/-- The period of another half-bridge. -/
theorem sameHalf_halfPeriod {b c : Nat} (hb : b < 4) (hc : c < 4) (hcb : c ≠ b) (s : State) (a : Nat) (h : HalfPeriod) :
    SameHalf a b s (s.halfPeriod a c h) := by
  have hword := alters_halfPeriod s a c h
  refine ⟨hword.on _ (by rw [wordBit_on]; decide +kernel), hword.get _ (by rw [wordBit_on]; decide +kernel),
    hword.get _ (by rw [wordBit_on]; decide +kernel), hword.get _ (by rw [wordBit_on]; decide +kernel), ?_, ?_, ?_, ?_, ?_⟩
  · rw [halfPeriod_step hb hc, if_neg hcb]
  · rw [halfPeriod_limit hc, if_neg hcb]
  · unfold State.halfPeriod
    rw [refreshPeriod_gate, adaptBridge_gate]
    exact countOf_putCount_other (by omega) _ _
  · rw [halfPeriod_refresh hc, if_neg (fun hp => hcb hp.1)]
  · rw [halfPeriod_refreshed, if_neg hcb]

/-- The switching times of a period, as the axis shows them. -/
def State.timesShown (s : State) (a : Nat) (hs : List HalfPeriod) : State :=
  s.set (F.GD_TSW_TSW.on a) ((List.range (s.bridges a)).foldl (fun acc b => acc + min (((hs[b]?).getD {}).ns / 2) 255 * 256 ^ b) 0)

/-- The half-bridges of an axis in a period. -/
def State.halves (s : State) (a : Nat) (hs : List HalfPeriod) : State :=
  (List.range (s.bridges a)).foldl (fun t b => t.halfPeriod a b ((hs[b]?).getD {})) (s.timesShown a hs)

/-- What is decided of a half-bridge in its period, from the state in which its own turn comes. -/
structure HalfDone (a b : Nat) (h : HalfPeriod) (s t : State) : Prop where
  step : t.driveStep a b = s.nextStep a b h.ns
  limit : bit (t.get (F.GD_STR_LIMIT.on a)) (2 * b) = decide (1024 ≤ s.slowPeriods a b h.ns)
  refresh : bit (t.get (F.GD_STAT_REFRESH.on a)) b = if 400 ≤ h.low then false else bit (s.get (F.GD_STAT_REFRESH.on a)) b
  refreshed : 4 * a + b ∈ t.gate.refreshed ↔ bit (s.get (F.GD_STAT_REFRESH.on a)) b = true ∧ h.low < 400

theorem SameHalf.nextStep {a b : Nat} {s t : State} (h : SameHalf a b s t) (ns : Nat) : t.nextStep a b ns = s.nextStep a b ns := by
  unfold State.nextStep
  rw [h.adapt, h.hi, h.lo, h.time, h.step]

theorem SameHalf.slowPeriods {a b : Nat} {s t : State} (h : SameHalf a b s t) (ns : Nat) : t.slowPeriods a b ns = s.slowPeriods a b ns := by
  unfold State.slowPeriods
  rw [h.time, h.step, h.hi, h.slow]

/-- After the half-bridges of a period, each has done what its own turn decides from the state before the period. -/
theorem halves_done {s : State} {a b : Nat} (hb : b < s.bridges a) (hs : List HalfPeriod) :
    HalfDone a b ((hs[b]?).getD {}) s (s.halves a hs) := by
  have hb4 : b < 4 := Nat.lt_of_lt_of_le hb (bridges_le s a)
  have hc4 : ∀ c ∈ List.range (s.bridges a), c < 4 := fun c hc => Nat.lt_of_lt_of_le (List.mem_range.mp hc) (bridges_le s a)
  have hbegin : SameHalf a b s (s.timesShown a hs) := by
    have hl : ∀ {f : Fld}, f.page = 0x49 → F.GD_TSW_TSW.leaves f = true → (s.timesShown a hs).get (f.on a) = s.get (f.on a) :=
      fun hf hl => State.get_set_leaves (leaves_gd rfl hf hl a a) _ _
    have hgate : (s.timesShown a hs).gate = s.gate := State.set_gate ..
    refine ⟨?_, hl rfl (by decide), hl rfl (by decide), hl rfl (by decide), ?_, ?_, ?_, ?_, ?_⟩
    · unfold State.on
      rw [hl rfl (by decide)]
    · unfold State.driveStep
      rw [hl rfl (by decide)]
    · rw [hl rfl (by decide)]
    · rw [hgate]
    · rw [hl rfl (by decide)]
    · rw [hgate]
  unfold State.halves
  refine foldl_once (b := b) (f := fun (t : State) c => t.halfPeriod a c ((hs[c]?).getD {})) (I := SameHalf a b s)
    (J := HalfDone a b ((hs[b]?).getD {}) s) _ List.nodup_range (List.mem_range.mpr hb) ?_ ?_ ?_ hbegin
  · exact fun t c hc hcb ht => ht.trans (sameHalf_halfPeriod hb4 (hc4 c hc) hcb t a _)
  · intro t ht
    refine ⟨?_, ?_, ?_, ?_⟩
    · rw [halfPeriod_step hb4 hb4, if_pos rfl, ht.nextStep]
    · rw [halfPeriod_limit hb4, if_pos rfl, ht.slowPeriods]
    · rw [halfPeriod_refresh hb4, ht.refresh]
      simp only [true_and]
    · rw [halfPeriod_refreshed, if_pos rfl, ht.refresh]
  · intro t c hc hcb ht
    have hsame := sameHalf_halfPeriod hb4 (hc4 c hc) hcb t a ((hs[c]?).getD {})
    exact ⟨hsame.step.trans ht.step, hsame.limit.trans ht.limit, hsame.refresh.trans ht.refresh, hsame.refreshed.trans ht.refreshed⟩

/-- The words that a period of the half-bridges leaves alone. -/
theorem halves_get {g : Fld} (s : State) (a : Nat) (hs : List HalfPeriod)
    (hword : (alt_adaptBridge ||| alt_refreshPeriod).testBit (wordBit (g.on a).addr) = false) :
    (s.halves a hs).get (g.on a) = (s.timesShown a hs).get (g.on a) :=
  foldl_keeps (fun t : State => t.get (g.on a) = (s.timesShown a hs).get (g.on a))
    (fun t c ht => ((alters_halfPeriod t a c _).get _ hword).trans ht) _ rfl

theorem execPwmPeriod_eq {s : State} {a : Nat} (ha : a < 6) (hstate : s.gdState a = 2) (hs : List HalfPeriod) : ∃ scan,
    exec (.pwmPeriod a hs) s = .next ((s.halves a hs).applyIf scan fun s => s.triggerEvent 0) := by
  refine ⟨(s.halves a hs).get F.THY_TRIG_SRC == 2 && (s.halves a hs).get F.THY_TRIG_AXIS == a, ?_⟩
  show execPwmPeriod a hs s = _
  unfold execPwmPeriod
  rw [if_neg (by rw [hstate]; omega)]
  rfl

/-- A trigger of the scan leaves the bridges alone. -/
theorem alters_scanned (s : State) (scan : Bool) : Alters alt_triggerEvent s (s.applyIf scan fun s => s.triggerEvent 0) :=
  alters_applyIf (fun _ hu => alters_triggerEvent _ _ (by unfold Sub; decide +kernel) hu) (alters_refl _ s)

theorem execPwmPeriod_claim (a b : Nat) (hs : List HalfPeriod) (s : State) : Claims.pwmPeriod a b hs s := by
  intro ha hstate hb hlohi hlo hhi
  obtain ⟨scan, hexec⟩ := execPwmPeriod_eq ha hstate hs
  obtain ⟨hstep, hlimit, -, -⟩ := halves_done hb hs
  have hscan := alters_scanned (s.halves a hs) scan
  have htsw : (s.halves a hs).get (F.GD_TSW_TSW.on a) =
      (List.range (s.bridges a)).foldl (fun acc b => acc + min (((hs[b]?).getD {}).ns / 2) 255 * 256 ^ b) 0 := by
    rw [halves_get s a hs (by rw [wordBit_on]; decide +kernel)]
    refine State.get_set_lt (f := F.GD_TSW_TSW.on a) rfl ?_ _
    refine Nat.lt_of_lt_of_le (bytes_sum (fun b => ((hs[b]?).getD {}).ns / 2) (s.bridges a)).1 ?_
    exact Nat.pow_le_pow_right (by decide) (bridges_le s a) |>.trans (show 256 ^ 4 ≤ 2 ^ 32 by decide)
  refine ⟨_, hexec, ?_, ?_, ?_⟩
  · unfold State.driveStep at hstep ⊢
    rw [hscan.get _ (by rw [wordBit_on]; decide +kernel), hstep]
    unfold State.nextStep State.driveStep
    unfold State.driveStep at hlo hhi
    simp only [Bool.not_eq_true', decide_eq_true_eq]
    split_ifs <;> omega
  · rw [hscan.get _ (by rw [wordBit_on]; decide +kernel), htsw]
    exact (bytes_sum (fun b => ((hs[b]?).getD {}).ns / 2) (s.bridges a)).2 b hb
  · intro hslow htop hcount
    rw [hscan.get _ (by rw [wordBit_on]; decide +kernel), hlimit]
    unfold State.slowPeriods
    rw [decide_eq_true hslow, htop, beq_self_eq_true, if_pos (by rfl)]
    exact decide_eq_true (by omega)

theorem execPwmPeriod_refresh_claim (a b : Nat) (hs : List HalfPeriod) (s : State) : Claims.refreshPulse a b hs s := by
  intro ha hb hstate hbit
  obtain ⟨scan, hexec⟩ := execPwmPeriod_eq ha hstate hs
  obtain ⟨-, -, hrefresh, hrefreshed⟩ := halves_done hb hs
  have hscan := alters_scanned (s.halves a hs) scan
  rw [hbit] at hrefresh hrefreshed
  rw [← hscan.get (F.GD_STAT_REFRESH.on a) (by rw [wordBit_on]; decide +kernel)] at hrefresh
  rw [← hscan.gate (by decide +kernel)] at hrefreshed
  refine ⟨_, hexec, ?_, fun hlow => ?_, fun hlow => ?_⟩
  · rw [hscan.get _ (by rw [wordBit_on]; decide +kernel), halves_get s a hs (by rw [wordBit_on]; decide +kernel)]
    exact State.get_set_leaves (leaves_gd rfl rfl (by decide) a a) _ _
  · exact ⟨by rw [hrefresh, if_neg (Nat.not_le.mpr hlow)], hrefreshed.mpr ⟨rfl, hlow⟩⟩
  · exact ⟨by rw [hrefresh, if_pos hlow], fun h => absurd (hrefreshed.mp h).2 (Nat.not_lt.mpr hlow)⟩

/-! ### Refresh episodes -/

theorem execRefreshEpisode_claim (a b bst : Nat) (s : State) : Claims.refreshEpisode a b bst s := by
  intro ha hb hstate hbit hlow
  have hb4 : b < 4 := Nat.lt_of_lt_of_le hb (bridges_le s a)
  have hexec : exec (.refreshEpisode a b bst) s = .next (((s.set (F.GD_STAT_REFRESH.on a)
      (withBit (s.get (F.GD_STAT_REFRESH.on a)) b true)).count (F.GD_REFCNT_EPISODES.on a)).flagEvent (F.GD_IFLAG_BSTREF.on a) 1
      [(F.GD_STAT_REFRESH.on a).addr]) := by
    show execRefreshEpisode a b bst s = _
    unfold execRefreshEpisode
    rw [if_pos ⟨ha, hb, hstate, hlow⟩]
    dsimp only
    rw [if_neg (by rw [hbit]; decide)]
  have hmarked : (s.set (F.GD_STAT_REFRESH.on a) (withBit (s.get (F.GD_STAT_REFRESH.on a)) b true)).get (F.GD_STAT_REFRESH.on a) =
      withBit (s.get (F.GD_STAT_REFRESH.on a)) b true := State.get_set_withBit (f := F.GD_STAT_REFRESH.on a) rfl (by exact hb4) s true
  generalize hu : s.set (F.GD_STAT_REFRESH.on a) (withBit (s.get (F.GD_STAT_REFRESH.on a)) b true) = u at hexec hmarked
  have hother : ∀ {f : Fld}, f.page = 0x49 → F.GD_STAT_REFRESH.leaves f = true → u.get (f.on a) = s.get (f.on a) := fun hf hl => by
    rw [← hu]
    exact State.get_set_leaves (leaves_gd rfl hf hl a a) _ _
  have hursm : u.rsm = s.rsm := by rw [← hu, State.set_rsm]
  refine ⟨_, hexec, ?_, ?_, ?_, State.on_flagEvent_okay (f := F.GD_IFLAG_BSTREF.on a) rfl .., ?_⟩
  · rw [State.get_flagEvent_leaves (leaves_gd rfl rfl (by decide) a a), State.get_count_leaves (leaves_gd rfl rfl (by decide) a a), hmarked,
      bit_withBit_same]
  · refine (State.get_flagEvent_leaves (leaves_gd rfl rfl (by decide) a a) _ _ _).trans ?_
    rw [State.get_count_leaves (leaves_gd rfl rfl (by decide) a a), hother rfl (by decide)]
    exact hstate
  · rw [State.get_flagEvent_leaves (leaves_gd rfl rfl (by decide) a a), State.get_count_okay (f := F.GD_REFCNT_EPISODES.on a) rfl,
      hother rfl (by decide)]
    rfl
  · have hraise := raised_flagEvent (s := s) (a := u.count (F.GD_REFCNT_EPISODES.on a)) (by rw [State.count_rsm, hursm])
      (F.GD_IFLAG_BSTREF.on a) 1 [(F.GD_STAT_REFRESH.on a).addr]
    rw [page_gd _ rfl, Nat.mod_eq_of_lt ha] at hraise
    exact hraise

theorem execRefreshEpisode_goesOn_claim (a b bst : Nat) (s : State) : Claims.refreshGoesOn a b bst s := by
  intro hbit
  show execRefreshEpisode a b bst s = _
  unfold execRefreshEpisode
  dsimp only
  rw [if_pos hbit, ite_self]

/-! ### The chopper -/

theorem execChopperOn_claim (s : State) : Claims.chopperOn s := by
  intro hM hdown hphase hoff
  have hexec : exec .chopperOn s = .next ((((s.onGate fun g => { g with chopSince := s.now, chopLong := false }).setOn F.GDR_STAT_CHOP
      true).count F.GDR_CHOPCNT_EVENTS).flag F.GDR_IFLAG_CHOPON) := by
    show execChopperOn s = _
    unfold execChopperOn
    exact if_neg (by rw [hM, hdown, hphase, hoff]; decide)
  refine ⟨_, hexec, ?_, State.on_flag_okay (by decide) _, ?_, ?_, ?_⟩
  · rw [State.on_flag_leaves (by decide)]
    unfold State.on
    rw [State.get_count_leaves (by decide)]
    exact State.on_setOn_okay (f := F.GDR_STAT_CHOP) (by decide) _ true
  · rw [State.flag_gate, State.count_gate, State.setOn_gate]
    rfl
  · rw [State.flag_mot, State.count_mot, State.setOn_mot]
    rfl
  · rw [State.get_flag_leaves (by decide), State.get_count_okay (by decide), State.get_setOn_leaves (by decide)]
    rfl

theorem execChopperOn_holdup_claim (s : State) : Claims.chopperStaysOff s := by
  intro hphase
  show execChopperOn s = _
  unfold execChopperOn
  exact if_pos (by rw [hphase]; simp)

theorem execChopperOff_claim (s : State) : Claims.chopperOff s := by
  intro hon
  refine ⟨_, rfl, ?_, ?_⟩
  · unfold State.chopperOff
    rw [if_pos hon, State.on_set_leaves (by decide)]
    exact State.on_setOn_okay (by decide) _ _
  · unfold State.chopperOff
    rw [if_pos hon]
    exact State.get_set_lt (by decide) (Nat.lt_of_le_of_lt (Nat.min_le_right _ _) (by decide)) _

theorem execChopperLong_claim (s : State) : Claims.chopperLong s := by
  intro hon hlong
  generalize hu : (s.advanceTo (s.gate.chopSince + s.get F.GDR_CHOPT_MAXON * 1000)).onGate (fun g => { g with chopLong := true }) = u
  have hexec : exec .chopperLong s = .next (u.flagEvent F.GDR_IFLAG_CHOPLONG 2) := by
    show execChopperLong s = _
    unfold execChopperLong
    rw [if_pos (by rw [hon, hlong]; decide), hu]
  refine ⟨_, hexec, ?_, State.on_flagEvent_okay (by decide) .., ?_, ?_, raised_flagEvent (s := s) (a := u) (by rw [← hu]; rfl) F.GDR_IFLAG_CHOPLONG 2 []⟩
  · rw [State.on_flagEvent_leaves (by decide), ← hu]
    exact hon
  · rw [State.flagEvent_gate, ← hu]
    rfl
  · rw [State.flagEvent_now, ← hu]
    rfl

theorem execChopperLong_once_claim (s : State) : Claims.chopperLongOnce s := by
  intro hlong
  show execChopperLong s = _
  unfold execChopperLong
  exact if_neg (by rw [hlong]; simp)

end Sys2Proof.Machine

/-- Settles O45: a period of a half-bridge leaves what the others follow, so that each follows the state before the period. -/
theorem bridgeService : Obligations.BridgeService :=
  ⟨Sys2Proof.Machine.execQualification_claim, Sys2Proof.Machine.execQualification_awaited_claim,
    Sys2Proof.Machine.execQualification_latched_claim, Sys2Proof.Machine.execQualificationDone_claim,
    Sys2Proof.Machine.execQualificationDone_cut_claim, Sys2Proof.Machine.execPwmPeriod_claim, Sys2Proof.Machine.execRefreshEpisode_claim,
    Sys2Proof.Machine.execRefreshEpisode_goesOn_claim, Sys2Proof.Machine.execPwmPeriod_refresh_claim, Sys2Proof.Machine.execChopperOn_claim,
    Sys2Proof.Machine.execChopperOn_holdup_claim, Sys2Proof.Machine.execChopperOff_claim, Sys2Proof.Machine.execChopperLong_claim,
    Sys2Proof.Machine.execChopperLong_once_claim⟩
end

section
/-! The command link to the G-die, and the commands to a bridge: SCTEST, RECOVER, pulses, live reads (R350 to R352, R359, R362). -/
set_option Elab.async false
namespace Sys2Proof.Machine
open Host

/-! ### The command link -/

theorem countOf_putCount_zero (l : List (Nat × Nat)) (k : Nat) : countOf (putCount k 0 l) k = 0 := by
  show countOf (l.filter fun e => e.1 != k) k = 0
  induction l with
  | nil => rfl
  | cons e l ih =>
    obtain ⟨i, w⟩ := e
    by_cases hi : i = k
    · subst hi
      rw [List.filter_cons_of_neg (by simp)]
      exact ih
    · rw [List.filter_cons_of_pos (by simpa using hi)]
      exact (if_neg hi).trans ih

/-- The repeats of a frame are counted. -/
def State.frameCounted (s : State) (sent : Nat) : State :=
  s.set F.GDR_LINK_RETRY (satAdd (s.get F.GDR_LINK_RETRY) (min sent 3 - 1) 65535)

theorem execGdieFrame_eq {s : State} {a : Nat} (hM : s.hasM = true) (hdown : s.gdieDown = false) (ha : a < 6) (sent : Nat) (valid : Bool) :
    exec (.gdieFrame a sent valid) s = if valid then
      .next ((s.frameCounted sent).linkBack.onGate fun g => { g with missed := putCount a 0 g.missed, unheld := g.unheld.filter (· != a) })
    else
      let u := ((s.frameCounted sent).count F.GDR_LINK_MISS).flag F.GDR_IFLAG_LINKERR
      let n := countOf u.gate.missed a + 1
      let u := u.onGate fun g => { g with missed := putCount a n g.missed, unheld := a :: g.unheld.filter (· != a) }
      .next (u.applyIf (decide (2 ≤ n) && (u.axis a).cycle.isSome) fun s => s.stopAxis a 3) := by
  show execGdieFrame a sent valid s = _
  unfold execGdieFrame
  rw [if_neg (by rw [hM, hdown]; simpa using ha)]
  rfl

theorem linkBack_get {g : Fld} (h : F.GDR_STAT_LINKLOST.leaves g = true) (s : State) : s.linkBack.get g = s.get g := by
  unfold State.linkBack State.applyIf
  split
  · rw [State.get_setOn_leaves h]
    rfl
  · rfl

theorem linkBack_up (s : State) : s.linkBack.on F.GDR_STAT_LINKLOST = false := by
  unfold State.linkBack State.applyIf
  split
  · exact State.on_setOn_okay (by decide) _ _
  next h => exact Bool.eq_false_of_not_eq_true h

theorem linkBack_gate (s : State) : s.linkBack.gate = { s.gate with lastFrame := s.now } := by
  unfold State.linkBack State.applyIf
  split
  · rw [State.setOn_gate]
    rfl
  · rfl

theorem linkBack_mot (s : State) : s.linkBack.mot = s.mot := by
  unfold State.linkBack State.applyIf
  split
  · rw [State.setOn_mot]
    rfl
  · rfl

theorem execGdieFrame_claim (a sent : Nat) (s : State) : Claims.gdieFrame a sent s := by
  intro hM hdown ha h1 h3
  have hexec := execGdieFrame_eq hM hdown ha sent true
  rw [if_pos rfl] at hexec
  have hretry : (s.frameCounted sent).get F.GDR_LINK_RETRY = min (s.get F.GDR_LINK_RETRY + (sent - 1)) 65535 := by
    unfold State.frameCounted satAdd
    rw [State.get_set_lt (by decide) (Nat.lt_of_le_of_lt (Nat.min_le_right _ _) (by decide)), Nat.min_eq_left h3]
  have hmiss : (s.frameCounted sent).get F.GDR_LINK_MISS = s.get F.GDR_LINK_MISS := State.get_set_leaves (by decide) _ _
  have hparts : (s.frameCounted sent).now = s.now ∧ (s.frameCounted sent).mot = s.mot :=
    ⟨State.set_now .., State.set_mot ..⟩
  generalize s.frameCounted sent = u at hexec hretry hmiss hparts
  refine ⟨_, hexec, ?_, linkBack_up u, ?_, ?_, ?_, ?_, ?_⟩
  · rw [State.onGate_get, linkBack_get (by decide), hretry]
  · rw [State.onGate_gate, linkBack_gate, hparts.1]
  · rw [State.onGate_gate]
    exact countOf_putCount_zero _ a
  · rw [State.onGate_get, linkBack_get (by decide), hmiss]
  · rw [State.onGate_gate]
    exact fun h => absurd (List.mem_filter.mp h).2 (by simp)
  · exact (linkBack_mot u).trans hparts.2

theorem execGdieFrame_miss_claim (a sent : Nat) (c : Cycle) (s : State) : Claims.gdieMiss a sent c s := by
  intro hM hdown hsh ha hc hkind hstop
  obtain ⟨-, hlen, -⟩ := hsh
  have hexec := execGdieFrame_eq hM hdown ha sent false
  rw [if_neg (by decide)] at hexec
  dsimp only at hexec
  have hmiss : (((s.frameCounted sent).count F.GDR_LINK_MISS).flag F.GDR_IFLAG_LINKERR).get F.GDR_LINK_MISS =
      min (s.get F.GDR_LINK_MISS + 1) 65535 := by
    rw [State.get_flag_leaves (by decide), State.get_count_okay (by decide)]
    unfold State.frameCounted
    rw [State.get_set_leaves (by decide)]
    rfl
  have hflag : (((s.frameCounted sent).count F.GDR_LINK_MISS).flag F.GDR_IFLAG_LINKERR).on F.GDR_IFLAG_LINKERR = true :=
    State.on_flag_okay (by decide) _
  have hgate : (((s.frameCounted sent).count F.GDR_LINK_MISS).flag F.GDR_IFLAG_LINKERR).gate = s.gate := by
    rw [State.flag_gate, State.count_gate]
    exact State.set_gate ..
  have hmot : (((s.frameCounted sent).count F.GDR_LINK_MISS).flag F.GDR_IFLAG_LINKERR).mot = s.mot := by
    rw [State.flag_mot, State.count_mot]
    exact State.set_mot ..
  generalize ((s.frameCounted sent).count F.GDR_LINK_MISS).flag F.GDR_IFLAG_LINKERR = u at hexec hmiss hflag hgate hmot
  rw [hgate] at hexec
  generalize hv : u.onGate (fun g => { g with
    missed := putCount a (countOf s.gate.missed a + 1) g.missed, unheld := a :: g.unheld.filter (· != a) }) = v at hexec
  have hvmot : v.mot = s.mot := by rw [← hv]; exact hmot
  have hvc : (v.axis a).cycle = some c := (congrArg AxisSt.cycle (State.axis_of_mot hvmot a)).trans hc
  rw [hvc, Option.isSome_some, Bool.and_true] at hexec
  have hvgate : countOf v.gate.missed a = countOf s.gate.missed a + 1 ∧ a ∈ v.gate.unheld := by
    rw [← hv]
    exact ⟨countOf_putCount _ a (Nat.succ_ne_zero _), List.mem_cons_self⟩
  have hvmiss : v.get F.GDR_LINK_MISS = min (s.get F.GDR_LINK_MISS + 1) 65535 := by rw [← hv]; exact hmiss
  have hvflag : v.on F.GDR_IFLAG_LINKERR = true := by rw [← hv]; exact hflag
  have hstopped := altersOf (alters_stopAxis v a 3)
  by_cases hn : 2 ≤ countOf s.gate.missed a + 1
  · rw [decide_eq_true hn] at hexec
    refine ⟨_, hexec, (hstopped.get F.GDR_LINK_MISS (by decide +kernel)).trans hvmiss,
      (hstopped.on F.GDR_IFLAG_LINKERR (by decide +kernel)).trans hvflag, ?_, ?_, fun h0 => by omega, fun _ => ?_⟩
    · show countOf (v.stopAxis a 3).gate.missed a = _
      rw [hstopped.gate (by decide +kernel)]
      exact hvgate.1
    · show a ∈ (v.stopAxis a 3).gate.unheld
      rw [hstopped.gate (by decide +kernel)]
      exact hvgate.2
    · exact (stopping_stopAxis ha hvc (by rw [hvmot]; exact hlen) (rank := 3) hstop).2
  · rw [decide_eq_false hn] at hexec
    exact ⟨_, hexec, hvmiss, hvflag, hvgate.1, hvgate.2, fun _ => hvc, fun h1 => by omega⟩

theorem execGdieLinkLost_claim (a : Nat) (s : State) : Claims.gdieLinkLost a s := by
  intro hM hdown hsh ha hrun htest
  obtain ⟨-, hlen, -⟩ := hsh
  have hexec : exec .gdieLinkLost s = .next ((((s.advanceTo (s.gate.lastFrame + 2000)).safeAll 6).setOn F.GDR_STAT_LINKLOST true).flag
      F.GDR_IFLAG_LINKLOST) := by
    show execGdieLinkLost s = _
    unfold execGdieLinkLost
    exact if_neg (by rw [hM, hdown]; decide)
  obtain ⟨hcoasts, hslow, hstop⟩ := coasts_safeAll (s := s.advanceTo (s.gate.lastFrame + 2000)) (cause := 6) ha hlen (by decide)
    (by rw [show (s.advanceTo (s.gate.lastFrame + 2000)).gdState a = s.gdState a from rfl, hrun]; decide) htest
  have hnow : ((s.advanceTo (s.gate.lastFrame + 2000)).safeAll 6).now = max s.now (s.gate.lastFrame + 2000) :=
    (altersOf (alters_safeAll (s.advanceTo (s.gate.lastFrame + 2000)) 6)).now (by decide +kernel)
  generalize (s.advanceTo (s.gate.lastFrame + 2000)).safeAll 6 = u at hexec hcoasts hslow hstop hnow
  refine ⟨_, hexec, ?_, State.on_flag_okay (by decide) _, ?_, coasts_of_same (t := u) ⟨hcoasts, hslow, hstop⟩ (fun g hg => ?_) ?_⟩
  · rw [State.on_flag_leaves (by decide)]
    exact State.on_setOn_okay (by decide) _ _
  · rw [State.flag_now, State.setOn_now, hnow]
  · rw [State.get_flag_leaves (leaves_out_gd (.inl (by decide)) (coastFields_page hg) a)]
    exact State.get_setOn_leaves (leaves_out_gd (.inl (by decide)) (coastFields_page hg) a) ..
  · rw [State.flag_mot, State.setOn_mot]

/-! ### The command words of a bridge -/

theorem fitted_bridge {s : State} (hM : s.hasM = true) {a : Nat} (ha : a < 6) : s.fitted (0x49 + a % 6) = true := by
  rw [fitted_motion (by omega), hM]
  interval_cases a <;> rfl

theorem regRow_gdCmd {a : Nat} (ha : a < 6) : regRow (0x49 + a % 6) 0xE0 = some rGD_CMD := by
  interval_cases a <;> rfl

theorem command_gdCmd (u : State) (l : Link) {a : Nat} (ha : a < 6) (v : Word) : u.command l (0x49 + a % 6) 0xE0 v = u.writeGdCmd a v := by
  interval_cases a <;> rfl

/-- A command to a bridge on a link that takes it runs in a state like the one before, and its answer is the reply. -/
theorem gdCmd_served {s : State} {l : Link} (h : s.takes l) (hM : s.hasM = true) {a : Nat} (ha : a < 6) (v : Word) :
    ∃ u, twin u s.refreshShown ∧ twin (s.hostWrite l (0x49 + a % 6) 0xE0 v) (u.writeGdCmd a v).1 ∧
      (∀ c, (u.writeGdCmd a v).2 = some c → Claims.refusedWith (s.hostWrite l (0x49 + a % 6) 0xE0 v) l c) ∧
      ((u.writeGdCmd a v).2 = none → Claims.granted (s.hostWrite l (0x49 + a % 6) 0xE0 v) l) := by
  obtain ⟨u, hu, ht, hrefused, hgranted⟩ := hostWrite_full h (0x49 + a % 6) 0xE0 v (fitted_bridge hM ha) (regRow_gdCmd ha) rfl (.inl rfl)
    (by omega) (by decide) (by decide) (by omega)
  rw [command_gdCmd u l ha v] at ht hrefused hgranted
  exact ⟨u, hu, ht, hrefused, hgranted⟩

/-- A command to a bridge that is turned away. -/
theorem gdCmd_refused {s : State} {l : Link} (h : s.takes l) (hM : s.hasM = true) {a : Nat} (ha : a < 6) (v : Word)
    (hf : ∀ u, twin u s.refreshShown → u.writeGdCmd a v = (u, some 0x0A)) :
    Claims.refusedWith (s.hostWrite l (0x49 + a % 6) 0xE0 v) l 0x0A ∧ linksAside (s.hostWrite l (0x49 + a % 6) 0xE0 v) s.refreshShown := by
  obtain ⟨u, hu, ht, hrefused, -⟩ := gdCmd_served h hM ha v
  rw [hf u hu] at ht hrefused
  exact ⟨hrefused 0x0A rfl, linksAside_trans ht.1 hu.1⟩

section
variable {u s : State} (hu : twin u s.refreshShown)
include hu

theorem gdState_of_twin (a : Nat) : u.gdState a = s.gdState a := (Alike.of_twin hu).gdState a

theorem atRest_of_twin (a : Nat) : u.atRest a = s.atRest a := by
  unfold State.atRest
  rw [(Alike.of_twin hu).axis]

theorem gatesLow_of_twin (a : Nat) : u.gatesLow a = s.gatesLow a := by
  unfold State.gatesLow
  rw [gdState_of_twin hu, (Alike.of_twin hu).axis, gate_of_twin hu]

theorem bridges_of_twin (a : Nat) : u.bridges a = s.bridges a := by
  unfold State.bridges
  rw [(Alike.of_twin hu).getOn (by decide)]

theorem canQualify_of_twin (a : Nat) : u.canQualify a = s.canQualify a := by
  unfold State.canQualify
  rw [(Alike.of_twin hu).hasM, pwr_of_twin hu, gdieDown_of_twin hu, (Alike.of_twin hu).enabled, (Alike.of_twin hu).enabled,
    (Alike.of_twin hu).on (by decide), (Alike.of_twin hu).on (by decide), (Alike.of_twin hu).on (by decide), gate_of_twin hu]

end

/-! ### SCTEST -/

theorem writeGdCmd_test (u : State) (a : Nat) : u.writeGdCmd a 1 = if u.gatesLow a && u.atRest a && !u.gdieDown then
    ((u.onGate fun g => { g with test := (a, u.gdState a) :: g.test }).set (F.GD_STAT_STATE.on a) 5, none) else (u, some 0x0A) := rfl

theorem execSctest_claim (l : Link) (a : Nat) (s : State) : Claims.sctest l a s := by
  intro h hM ha hlow hrest hdown
  obtain ⟨u, hu, ht, -, hgranted⟩ := gdCmd_served h hM ha 1
  rw [writeGdCmd_test, gatesLow_of_twin hu, atRest_of_twin hu, gdieDown_of_twin hu, if_pos (by rw [hlow, hrest, hdown]; decide)] at ht hgranted
  refine ⟨_, rfl, hgranted rfl, ?_, ?_⟩
  · refine (get_of_linksAside ht.1 _).trans ?_
    exact gdState_set_own (by decide) _ a
  · rw [gate_of_aside ht.1, State.set_gate, gdState_of_twin hu]
    exact List.mem_cons_self

theorem atRest_false {s : State} {a : Nat} (h : (s.axis a).cycle.isSome = true ∨ (s.axis a).pending.isSome = true) : s.atRest a = false := by
  unfold State.atRest
  rcases h with h | h
  · obtain ⟨c, hc⟩ := Option.isSome_iff_exists.mp h
    rw [hc]
    rfl
  · obtain ⟨c, hc⟩ := Option.isSome_iff_exists.mp h
    rw [hc]
    exact Bool.and_false _

theorem execSctest_refused_claim (l : Link) (a : Nat) (s : State) : Claims.sctestRefused l a s := by
  intro h hM ha hdown hcase
  obtain ⟨hrefused, haside⟩ := gdCmd_refused h hM ha 1 fun u hu => by
    rw [writeGdCmd_test, gatesLow_of_twin hu, atRest_of_twin hu]
    refine if_neg ?_
    rcases hcase with hc | hc | ⟨hs, hd⟩ | hs
    · rw [atRest_false (.inl hc)]
      simp
    · rw [atRest_false (.inr hc)]
      simp
    · have hlow : s.gatesLow a = false := by
        unfold State.gatesLow
        rw [hs, beq_false_of_ne hd]
        rfl
      rw [hlow]
      simp
    · have hlow : s.gatesLow a = false := by
        unfold State.gatesLow
        rw [hs]
        exact Bool.and_false _
      rw [hlow]
      simp
  exact ⟨_, rfl, hrefused, haside⟩

/-- The result of a test of the comparators, and the state of the bridge beneath it. -/
def State.testEnded (s : State) (a st fails : Nat) : State :=
  ((((s.onGate fun g => { g with test := g.test.filter fun x => x.1 != a }).set (F.GD_STAT_STATE.on a) st).testResult a fails).flag
    (F.GD_IFLAG_TESTDONE.on a))

theorem comparators_lt (s : State) (a : Nat) : s.comparators a < 2 ^ 8 := by
  have hle : 2 * s.bridges a ≤ 8 := by
    have := bridges_le s a
    omega
  have hpow := Nat.pow_le_pow_right (show 0 < 2 by decide) hle
  have hpos := Nat.two_pow_pos (2 * s.bridges a)
  unfold State.comparators
  omega

/-- The comparators that a test finds at fault, and those it finds in order. -/
theorem testResult_shown (s : State) (a fails : Nat) :
    (s.testResult a fails).get (F.GD_SCTEST_FAIL.on a) = fails &&& s.comparators a ∧
      (s.testResult a fails).get (F.GD_SCTEST_PASS.on a) = s.comparators a - (fails &&& s.comparators a) := by
  have hcomp := comparators_lt s a
  have hfail : fails &&& s.comparators a < 2 ^ 8 := Nat.lt_of_le_of_lt Nat.and_le_right hcomp
  unfold State.testResult
  dsimp only
  refine ⟨?_, ?_⟩
  · rw [State.get_set_leaves (leaves_gd rfl rfl (by decide) a a)]
    exact State.get_set_lt (f := F.GD_SCTEST_FAIL.on a) rfl hfail s
  · exact State.get_set_lt (f := F.GD_SCTEST_PASS.on a) rfl (Nat.lt_of_le_of_lt (Nat.sub_le _ _) hcomp) _

theorem execSctestDone_eq {s : State} {a st : Nat} (h : s.gate.test.find? (fun e => e.1 == a) = some (a, st)) (fails : Nat) :
    exec (.sctestDone a fails) s = .next (if fails &&& (s.testEnded a st fails).comparators a = 0 then s.testEnded a st fails
      else (s.testEnded a st fails).testFail a) := by
  show execSctestDone a fails s = _
  unfold execSctestDone
  rw [h]
  rfl

theorem execSctestDone_claim (a st fails : Nat) (s : State) : Claims.sctestDone a st fails s := by
  intro hsh ha hfind hst
  obtain ⟨-, hlen, -⟩ := hsh
  have hexec := execSctestDone_eq hfind fails
  have hcfg : ∀ {f : Fld}, f.page = 0x49 → (f.on a).leaves (F.AX_CFG_TYPE.on a) = true := fun hf =>
    leaves_gd_out hf (.inl (by rw [page_ax rfl]; omega)) a
  have hcomp : ((s.onGate fun g => { g with test := g.test.filter fun x => x.1 != a }).set (F.GD_STAT_STATE.on a) st).comparators a =
      2 ^ (2 * s.bridges a) - 1 := by
    unfold State.comparators State.bridges
    rw [State.get_set_leaves (hcfg rfl)]
    rfl
  obtain ⟨hfail, hpass⟩ := testResult_shown ((s.onGate fun g => { g with test := g.test.filter fun x => x.1 != a }).set
    (F.GD_STAT_STATE.on a) st) a fails
  rw [hcomp] at hfail hpass
  have hget : ∀ {f : Fld}, f.page = 0x49 → F.GD_IFLAG_TESTDONE.leaves f = true → (s.testEnded a st fails).get (f.on a) =
      (((s.onGate fun g => { g with test := g.test.filter fun x => x.1 != a }).set (F.GD_STAT_STATE.on a) st).testResult a fails).get (f.on a) :=
    fun hf hl => State.get_flag_leaves (leaves_gd rfl hf hl a a) _
  have hstate : (s.testEnded a st fails).gdState a = st := by
    refine (hget (f := F.GD_STAT_STATE) rfl (by decide)).trans ?_
    unfold State.testResult
    dsimp only
    rw [State.get_set_leaves (leaves_gd rfl rfl (by decide) a a), State.get_set_leaves (leaves_gd rfl rfl (by decide) a a)]
    exact gdState_set_own hst _ a
  have hucomp : (s.testEnded a st fails).comparators a = 2 ^ (2 * s.bridges a) - 1 := by
    rw [← hcomp]
    unfold State.comparators State.bridges State.testEnded State.testResult
    dsimp only
    rw [State.get_flag_leaves (hcfg rfl), State.get_set_leaves (hcfg (f := F.GD_SCTEST_PASS) rfl),
      State.get_set_leaves (hcfg (f := F.GD_SCTEST_FAIL) rfl)]
  have hufail := (hget (f := F.GD_SCTEST_FAIL) rfl (by decide)).trans hfail
  have hupass := (hget (f := F.GD_SCTEST_PASS) rfl (by decide)).trans hpass
  have hudone : (s.testEnded a st fails).on (F.GD_IFLAG_TESTDONE.on a) = true := State.on_flag_okay (f := F.GD_IFLAG_TESTDONE.on a) rfl _
  have hurm : (s.testEnded a st fails).rsm = s.rsm := by
    unfold State.testEnded State.testResult
    dsimp only
    rw [State.flag_rsm, State.set_rsm, State.set_rsm, State.set_rsm]
    rfl
  have hulen : (s.testEnded a st fails).mot.axes.length = 6 := by
    unfold State.testEnded State.testResult
    dsimp only
    rw [State.flag_mot, State.set_mot, State.set_mot, State.set_mot]
    exact hlen
  rw [hucomp] at hexec
  generalize s.testEnded a st fails = u at hexec hstate hufail hupass hudone hurm hulen
  by_cases hzero : fails &&& (2 ^ (2 * s.bridges a) - 1) = 0
  · rw [if_pos hzero] at hexec
    refine ⟨_, hexec, hufail, hupass, hudone, ?_⟩
    rw [if_pos hzero]
    exact hstate
  · rw [if_neg hzero] at hexec
    obtain ⟨⟨hs, hc, -, -⟩, -⟩ := coasts_safeState (s := u) (cause := 7) ha hulen (by decide) (fun h => absurd h.2 (by decide))
    have htest : ∀ {f : Fld}, f.page = 0x49 → F.GD_IFLAG_TESTFAIL.leaves f = true → (u.testFail a).get (f.on a) = (u.safeState a 7).get (f.on a) :=
      fun hf hl => State.get_flagEvent_leaves (leaves_gd rfl hf hl a a) _ _ _
    refine ⟨_, hexec, ?_, ?_, ?_, ?_⟩
    · rw [htest rfl (by decide), safeState_get_same rfl (by decide) (by decide +kernel)]
      exact hufail
    · rw [htest rfl (by decide), safeState_get_same rfl (by decide) (by decide +kernel)]
      exact hupass
    · rw [← hudone]
      unfold State.on
      rw [htest rfl (by decide), safeState_get_same rfl (by decide) (by decide +kernel)]
    · rw [if_neg hzero]
      refine ⟨(htest (f := F.GD_STAT_STATE) rfl (by decide)).trans hs, (htest rfl (by decide)).trans hc, ?_⟩
      have hraise := raised_of_earlier (s := s) (sends_safeState u a 7 (sends_of_rsm hurm))
        (raised_flagEvent (s := u.safeState a 7) rfl (F.GD_IFLAG_TESTFAIL.on a) 2 [(F.GD_SCTEST_FAIL.on a).addr])
        (sends_flagEvent (sends_refl _)).inbox
      rw [page_gd _ rfl, Nat.mod_eq_of_lt ha] at hraise
      exact hraise

/-! ### RECOVER -/

theorem writeGdCmd_recover (u : State) (a : Nat) : u.writeGdCmd a 2 =
    if u.gdState a ≠ 4 ∨ u.atRest a = false ∨ u.gdieDown = true then (u, some 0x0A)
    else if u.bridgeStaged a || !u.canQualify a then
      (u.onGate fun g => { g with deferred := a :: g.deferred.filter (· != a) }, none)
    else (u.beginQualify a true, none) := rfl

theorem execRecover_claim (l : Link) (a : Nat) (s : State) : Claims.recover l a s := by
  intro h hM ha hstate hrest hdown
  obtain ⟨u, hu, ht, -, hgranted⟩ := gdCmd_served h hM ha 2
  rw [writeGdCmd_recover, gdState_of_twin hu, atRest_of_twin hu, gdieDown_of_twin hu, (Alike.of_twin hu).bridgeStaged,
    canQualify_of_twin hu, if_neg (by rw [hstate, hrest, hdown]; decide)] at ht hgranted
  by_cases hwait : (s.bridgeStaged a || !s.canQualify a) = true
  · rw [if_pos hwait] at ht hgranted
    refine ⟨_, rfl, hgranted rfl, ?_⟩
    rw [if_pos hwait]
    refine ⟨(get_of_linksAside ht.1 _).trans ((gdState_of_twin hu a).trans hstate), ?_⟩
    rw [gate_of_aside ht.1]
    exact List.mem_cons_self
  · rw [if_neg hwait] at ht hgranted
    obtain ⟨h1, h2, -, -, -⟩ := beginQualify_begun u a true
    obtain ⟨hcause, hschb⟩ := beginQualify_cleared u a
    refine ⟨_, rfl, hgranted rfl, ?_⟩
    rw [if_neg hwait]
    refine ⟨(get_of_linksAside ht.1 _).trans h1, (get_of_linksAside ht.1 _).trans hcause, (get_of_linksAside ht.1 _).trans hschb, ?_⟩
    rw [gate_of_aside ht.1, ← now_of_twin hu]
    exact h2

theorem execRecover_refused_claim (l : Link) (a : Nat) (s : State) : Claims.recoverRefused l a s := by
  intro h hM ha hcase hdown
  obtain ⟨hrefused, haside⟩ := gdCmd_refused h hM ha 2 fun u hu => by
    rw [writeGdCmd_recover, gdState_of_twin hu, atRest_of_twin hu]
    refine if_pos ?_
    rcases hcase with hs | hc
    · exact .inl hs
    · exact .inr (.inl (atRest_false (.inl hc)))
  exact ⟨_, rfl, hrefused, haside⟩

/-! ### Gate pulses -/

theorem regRow_gpulse {a : Nat} (ha : a < 6) : regRow (0x49 + a % 6) 0xE2 = some rGD_GPULSE := by
  interval_cases a <;> rfl

theorem command_gpulse (u : State) (l : Link) {a : Nat} (ha : a < 6) (v : Word) :
    u.command l (0x49 + a % 6) 0xE2 v = u.writeGpulse a v := by
  interval_cases a <;> rfl

/-- The word that a write to GD_GPULSE leaves has the fields of the write. -/
theorem checkWrite_gpulse (v : Word) : bitsOf (checkWrite rGD_GPULSE.rows 0 v).1 15 8 = bitsOf v 15 8 ∧
    bitsOf (checkWrite rGD_GPULSE.rows 0 v).1 2 1 = bitsOf v 2 1 ∧ bitsOf (checkWrite rGD_GPULSE.rows 0 v).1 0 0 = bitsOf v 0 0 := by
  have hword : (checkWrite rGD_GPULSE.rows 0 v).1 = withBits (withBits (withBits (withBits (withBits 0 31 16 0) 15 8 (bitsOf v 15 8)) 7 3 0) 2 1
    (bitsOf v 2 1)) 0 0 (bitsOf v 0 0) := rfl
  rw [hword]
  refine ⟨?_, ?_, ?_⟩
  · rw [bitsOf_withBits_apart _ _ _ _ _ _ (by decide) (by decide) (by decide), bitsOf_withBits_apart _ _ _ _ _ _ (by decide) (by decide) (by decide),
      bitsOf_withBits_apart _ _ _ _ _ _ (by decide) (by decide) (by decide), bitsOf_withBits _ _ _ _ (by decide) (by decide)]
    exact Nat.mod_eq_of_lt (bitsOf_lt v 15 8)
  · rw [bitsOf_withBits_apart _ _ _ _ _ _ (by decide) (by decide) (by decide), bitsOf_withBits _ _ _ _ (by decide) (by decide)]
    exact Nat.mod_eq_of_lt (bitsOf_lt v 2 1)
  · rw [bitsOf_withBits _ _ _ _ (by decide) (by decide)]
    exact Nat.mod_eq_of_lt (bitsOf_lt v 0 0)

/-- A write whose reserved bits are 0 is not clamped. -/
theorem checkWrite_gpulse_exact {v : Word} (h : v &&& 0xFF07 = v) : (checkWrite rGD_GPULSE.rows 0 v).2 = [] := by
  have hnat : v.toNat &&& 0xFF07 = v.toNat := by
    have := congrArg BitVec.toNat h
    rwa [BitVec.toNat_and] at this
  have hbits : ∀ n m, 0xFF07 / 2 ^ n % 2 ^ m = 0 → v.toNat / 2 ^ n % 2 ^ m = 0 := fun n m hz => by
    rw [← hnat, Nat.and_div_two_pow, Nat.and_mod_two_pow, hz, Nat.and_zero]
  have hhigh : bitsOf v 31 16 = 0 := hbits 16 16 (by decide)
  have hmid : bitsOf v 7 3 = 0 := hbits 3 5 (by decide)
  show ([_, _, _, _, _] : List (List Clamp)).flatten = []
  simp [FieldRow.check, reservedClamp, hhigh, hmid, Legal.check]

/-- Whether a gate pulse is given to a bridge. -/
def State.pulseTaken (s : State) (a w h : Nat) : Bool :=
  (s.gdState a == 0 || s.gdState a == 4) && s.atRest a && s.on F.PWR_STAT_VM_OK && decide (h < s.bridges a) &&
    ((s.gate.pulse.all fun p => p.axis != a) && s.gate.test.all fun p => p.1 != a) && decide (1 ≤ w) && decide (w ≤ 100) && !s.gdieDown &&
    s.pwr.phase != .holdup

theorem writeGpulse_eq (u : State) (a : Nat) (v : Word) : u.writeGpulse a v = if u.pulseTaken a (bitsOf v 15 8) (bitsOf v 2 1) then
    (u.onGate fun g => { g with pulse := ⟨a, bitsOf v 2 1, bitsOf v 0 0 == 1, bitsOf v 15 8, u.now⟩ :: g.pulse }, none)
    else (u, some 0x0A) := rfl

theorem pulseTaken_of_twin {u s : State} (hu : twin u s.refreshShown) (a w h : Nat) : u.pulseTaken a w h = s.pulseTaken a w h := by
  unfold State.pulseTaken
  rw [gdState_of_twin hu, atRest_of_twin hu, bridges_of_twin hu, gate_of_twin hu, gdieDown_of_twin hu, pwr_of_twin hu,
    (Alike.of_twin hu).on (by decide)]

/-- A write to GD_GPULSE on a link that takes it. -/
theorem gpulse_served {s : State} {l : Link} (h : s.takes l) (hM : s.hasM = true) {a : Nat} (ha : a < 6) (v : Word) :
    ∃ u, twin u s.refreshShown ∧
      (s.pulseTaken a (bitsOf v 15 8) (bitsOf v 2 1) = true → Claims.granted (s.hostWrite l (0x49 + a % 6) 0xE2 v) l ∧
        twin (s.hostWrite l (0x49 + a % 6) 0xE2 v)
          ((u.onGate fun g => { g with pulse := ⟨a, bitsOf v 2 1, bitsOf v 0 0 == 1, bitsOf v 15 8, s.now⟩ :: g.pulse }).logClamps
            (0x49 + a % 6) 0xE2 (checkWrite rGD_GPULSE.rows 0 v).2)) ∧
      (s.pulseTaken a (bitsOf v 15 8) (bitsOf v 2 1) = false → Claims.refusedWith (s.hostWrite l (0x49 + a % 6) 0xE2 v) l 0x0A ∧
        twin (s.hostWrite l (0x49 + a % 6) 0xE2 v) u) := by
  obtain ⟨u, hu, hrefused, hgranted⟩ := hostWrite_clamped (page := 0x49 + a % 6) (word := 0xE2) h v rGD_GPULSE (fitted_bridge hM ha)
    (by omega) (by decide) (by decide) (by omega) (regRow_gpulse ha) rfl rfl
  obtain ⟨hw, hh, hside⟩ := checkWrite_gpulse v
  rw [command_gpulse u l ha, writeGpulse_eq, hw, hh, hside, pulseTaken_of_twin hu, now_of_twin hu] at hrefused hgranted
  refine ⟨u, hu, fun htaken => ?_, fun htaken => ?_⟩
  · rw [if_pos htaken] at hgranted
    exact hgranted rfl
  · rw [if_neg (by rw [htaken]; decide)] at hrefused
    exact hrefused 0x0A rfl

theorem linksAside_onGate {u s : State} (h : linksAside u s) (f : GateSt → GateSt) : linksAside (u.onGate f) (s.onGate f) := by
  unfold linksAside at *
  rw [h]
  rfl

theorem execGatePulse_claim (l : Link) (a : Nat) (v : Word) (s : State) : Claims.gatePulse l a v s := by
  intro h hM ha hstate hrest hvm hh hpulse htest h1 h100 hdown hphase
  obtain ⟨u, hu, htaken, -⟩ := gpulse_served h hM ha v
  have hok : s.pulseTaken a (bitsOf v 15 8) (bitsOf v 2 1) = true := by
    unfold State.pulseTaken
    rw [hrest, hvm, hpulse, htest, hdown, decide_eq_true hh, decide_eq_true h1, decide_eq_true h100]
    rcases hstate with hs | hs <;> rw [hs] <;> simpa using hphase
  obtain ⟨hgranted, ht⟩ := htaken hok
  have hlog := fun (x : State) cs => alters_logClamps x (0x49 + a % 6) 0xE2 cs
  have hlt : a % 6 < 6 := Nat.mod_lt a (by decide)
  have hstep : (F.GD_STAT_STATE.on (a % 6)) = F.GD_STAT_STATE.on a := by rw [Nat.mod_eq_of_lt ha]
  refine ⟨_, rfl, hgranted, ?_, ?_, ?_, ?_, fun hexact => ?_⟩
  · rw [gate_of_aside ht.1, (hlog _ _).gate ((show ∀ i < 6, (clampMask (0x49 + i)).testBit 21 = false by decide +kernel) _ hlt), State.onGate_gate, gate_of_twin hu]
  · rw [mot_of_aside ht.1, (hlog _ _).mot ((show ∀ i < 6, (clampMask (0x49 + i)).testBit 20 = false by decide +kernel) _ hlt), State.onGate_mot, mot_of_twin hu]
  · rw [cyl_of_aside ht.1, (hlog _ _).cyl ((show ∀ i < 6, (clampMask (0x49 + i)).testBit 14 = false by decide +kernel) _ hlt), State.onGate_cyl, cyl_of_twin hu]
  · refine (get_of_linksAside ht.1 _).trans (((hlog _ _).get _ ?_).trans (gdState_of_twin hu a))
    rw [← hstep]
    exact (show ∀ i < 6, (clampMask (0x49 + i)).testBit (wordBit (F.GD_STAT_STATE.on i).addr) = false by decide +kernel) _ hlt
  · rw [checkWrite_gpulse_exact hexact] at ht
    have haside := linksAside_trans ht.1 (linksAside_onGate hu.1 fun g => { g with
      pulse := ⟨a, bitsOf v 2 1, bitsOf v 0 0 == 1, bitsOf v 15 8, s.now⟩ :: g.pulse })
    rw [gate_of_aside haside]
    exact haside

theorem all_of_any {α : Type} {l : List α} {p q : α → Bool} (hpq : ∀ x, q x = !p x) (h : l.any p = true) : l.all q = false := by
  obtain ⟨x, hx, hp⟩ := List.any_eq_true.mp h
  exact List.all_eq_false.mpr ⟨x, hx, by rw [hpq, hp]; decide⟩

theorem execGatePulse_refused_claim (l : Link) (a : Nat) (v : Word) (s : State) : Claims.gatePulseRefused l a v s := by
  intro h hM ha hdown hcase
  obtain ⟨u, hu, -, hturned⟩ := gpulse_served h hM ha v
  have hno : s.pulseTaken a (bitsOf v 15 8) (bitsOf v 2 1) = false := by
    unfold State.pulseTaken
    rcases hcase with ⟨h0, h4⟩ | hvm | hc | hh | hp | ht | hw | hw | hph
    · rw [beq_false_of_ne h0, beq_false_of_ne h4]
      rfl
    · rw [hvm]
      simp
    · rw [atRest_false (.inl hc)]
      simp
    · rw [decide_eq_false (Nat.not_lt.mpr hh)]
      simp
    · rw [all_of_any (q := fun p : GatePulse => p.axis != a) (fun _ => rfl) hp]
      simp
    · rw [all_of_any (q := fun p : Nat × Nat => p.1 != a) (fun _ => rfl) ht]
      simp
    · rw [hw]
      simp
    · rw [decide_eq_false (Nat.not_le.mpr hw)]
      simp
    · rw [hph]
      simp
  obtain ⟨hrefused, ht⟩ := hturned hno
  exact ⟨_, rfl, hrefused, linksAside_trans ht.1 hu.1⟩

/-- What the end of a pulse shows, before a trip. -/
def State.pulseShown (s : State) (a vsw vbst : Nat) (p : GatePulse) (x : PulseEnd) : State :=
  (((((s.advanceTo (p.since + (if s.precharges p x then s.get F.GDR_BST_PRECHG else 0) +
      if s.pulseGiven p x && !x.trip then p.width else 0)).onGate fun g => { g with pulse := g.pulse.filter fun y => y.axis != a }).set
    (F.GD_GRES_VSW.on a) (min vsw 65535)).set (F.GD_GRES_VBST.on a) (min vbst 255)).set (F.GD_GRES_OUT.on a)
    (if !s.pulseGiven p x then 3 else if x.trip then 2 else 1))

theorem execGatePulseEnd_eq {s : State} {a : Nat} {p : GatePulse} (h : s.gate.pulse.find? (fun p => p.axis == a) = some p) (vsw vbst : Nat)
    (x : PulseEnd) : exec (.gatePulseEnd a vsw vbst x) s = .next (if s.pulseGiven p x && x.trip then
      (s.pulseShown a vsw vbst p x).shortCircuit a (if p.high then 2 * p.half else 2 * p.half + 1) else s.pulseShown a vsw vbst p x) := by
  show execGatePulseEnd a vsw vbst x s = _
  unfold execGatePulseEnd
  rw [h]
  rfl

/-- The words of the result of a pulse. -/
def resultFields : List Fld := [F.GD_GRES_VSW, F.GD_GRES_VBST, F.GD_GRES_OUT]

theorem pulseShown_get {g : Fld} {a : Nat} (hg : g.page = 0x49) (h : (resultFields.all fun f => f.leaves g) = true) (s : State) (vsw vbst : Nat)
    (p : GatePulse) (x : PulseEnd) : (s.pulseShown a vsw vbst p x).get (g.on a) = s.get (g.on a) := by
  have hl : ∀ f ∈ resultFields, f.leaves g = true := List.all_eq_true.mp h
  unfold State.pulseShown
  rw [State.get_set_leaves (leaves_gd rfl hg (hl F.GD_GRES_OUT (by decide)) a a),
    State.get_set_leaves (leaves_gd rfl hg (hl F.GD_GRES_VBST (by decide)) a a),
    State.get_set_leaves (leaves_gd rfl hg (hl F.GD_GRES_VSW (by decide)) a a)]
  rfl

theorem pulseShown_result (s : State) (a vsw vbst : Nat) (p : GatePulse) (x : PulseEnd) :
    (s.pulseShown a vsw vbst p x).get (F.GD_GRES_VSW.on a) = min vsw 65535 ∧
    (s.pulseShown a vsw vbst p x).get (F.GD_GRES_VBST.on a) = min vbst 255 ∧
    (s.pulseShown a vsw vbst p x).get (F.GD_GRES_OUT.on a) = (if !s.pulseGiven p x then 3 else if x.trip then 2 else 1) := by
  unfold State.pulseShown
  refine ⟨?_, ?_, State.get_set_lt (f := F.GD_GRES_OUT.on a) rfl (show _ < 4 by split_ifs <;> decide) _⟩
  · rw [State.get_set_leaves (leaves_gd rfl rfl (by decide) a a), State.get_set_leaves (leaves_gd rfl rfl (by decide) a a)]
    exact State.get_set_lt (f := F.GD_GRES_VSW.on a) rfl (show _ < 65536 by omega) _
  · rw [State.get_set_leaves (leaves_gd rfl rfl (by decide) a a)]
    exact State.get_set_lt (f := F.GD_GRES_VBST.on a) rfl (show _ < 256 by omega) _

theorem pulseShown_parts (s : State) (a vsw vbst : Nat) (p : GatePulse) (x : PulseEnd) :
    (s.pulseShown a vsw vbst p x).mot = s.mot ∧ (s.pulseShown a vsw vbst p x).gate.pulse = s.gate.pulse.filter (fun y => y.axis != a) ∧
    (s.pulseShown a vsw vbst p x).now = max s.now (p.since + (if s.precharges p x then s.get F.GDR_BST_PRECHG else 0) +
      if s.pulseGiven p x && !x.trip then p.width else 0) := by
  unfold State.pulseShown
  refine ⟨?_, ?_, ?_⟩
  · rw [State.set_mot, State.set_mot, State.set_mot]
    rfl
  · rw [State.set_gate, State.set_gate, State.set_gate]
    rfl
  · rw [State.set_now, State.set_now, State.set_now]
    rfl

theorem shortCircuit_get {g : Fld} {a : Nat} (hg : g.page = 0x49)
    (h : ((F.GD_IFLAG_SC :: F.GD_SCTEST_TRIPS :: F.GD_STAT_SCHB :: coastFields).all fun f => f.leaves g) = true)
    (hstop : (alt_stopAxis ||| alt_abortBrakeTests).testBit (wordBit g.addr) = false) (s : State) (c : Nat) :
    (s.shortCircuit a c).get (g.on a) = s.get (g.on a) := by
  simp only [List.all_cons, Bool.and_eq_true] at h
  obtain ⟨hsc, htrips, hschb, hcoast⟩ := h
  unfold State.shortCircuit
  dsimp only
  rw [State.get_flagEvent_leaves (leaves_gd rfl hg hsc a a), safeState_get_same hg (by simpa using hcoast) hstop,
    State.get_count_leaves (leaves_gd rfl hg htrips a a), State.get_set_leaves (leaves_gd rfl hg hschb a a)]

/-- A trip leaves the words of the result of a pulse alone. -/
theorem shortCircuit_result {g : Fld} (hg : g ∈ resultFields) (s : State) (a c : Nat) :
    (s.shortCircuit a c).get (g.on a) = s.get (g.on a) := by
  have hpage : ∀ g ∈ resultFields, g.page = 0x49 := by decide
  have hleaves : ∀ g ∈ resultFields,
      ((F.GD_IFLAG_SC :: F.GD_SCTEST_TRIPS :: F.GD_STAT_SCHB :: coastFields).all fun f => f.leaves g) = true := by decide
  have hword : ∀ g ∈ resultFields, (alt_stopAxis ||| alt_abortBrakeTests).testBit (wordBit g.addr) = false := by decide +kernel
  exact shortCircuit_get (hpage g hg) (hleaves g hg) (hword g hg) s c

theorem shortCircuit_pulse (s : State) (a c : Nat) : (s.shortCircuit a c).gate.pulse = s.gate.pulse.filter fun p => p.axis != a := by
  unfold State.shortCircuit
  dsimp only
  rw [State.flagEvent_gate, safeState_gate]
  unfold State.quietGate
  rw [State.set_gate]
  show List.filter _ ((State.count _ _).gate.pulse) = _
  rw [State.count_gate, State.set_gate]

theorem execGatePulseEnd_claim (a h vsw vbst w e : Nat) (d : Bool) (x : PulseEnd) (s : State) :
    Claims.gatePulseEnd a h vsw vbst w e d x s := by
  intro hsh ha hh hfind
  obtain ⟨-, hlen, -⟩ := hsh
  have hexec := execGatePulseEnd_eq hfind vsw vbst x
  obtain ⟨hvsw, hvbst, hout⟩ := pulseShown_result s a vsw vbst ⟨a, h, d, w, e⟩ x
  obtain ⟨hmot, hpulse, hnow⟩ := pulseShown_parts s a vsw vbst ⟨a, h, d, w, e⟩ x
  have hstate : (s.pulseShown a vsw vbst ⟨a, h, d, w, e⟩ x).gdState a = s.gdState a :=
    pulseShown_get (g := F.GD_STAT_STATE) rfl (by decide) s vsw vbst _ x
  have hpre : s.precharges ⟨a, h, d, w, e⟩ x = true ↔ d = true ∧ x.before < s.get F.GDR_BST_WARN := by
    unfold State.precharges
    rw [Bool.and_eq_true, decide_eq_true_eq]
  have hgiven : s.pulseGiven ⟨a, h, d, w, e⟩ x = true ↔
      ¬ (d = true ∧ x.before < s.get F.GDR_BST_WARN ∧ x.charged < s.get F.GDR_BST_WARN + 5) := by
    unfold State.pulseGiven
    rw [Bool.or_eq_true, Bool.not_eq_true', decide_eq_true_eq, ← Bool.not_eq_true, hpre]
    constructor
    · rintro (hn | hn) ⟨h1, h2, h3⟩
      · exact hn ⟨h1, h2⟩
      · omega
    · intro hn
      by_cases hx : x.charged < s.get F.GDR_BST_WARN + 5
      · exact .inl fun ⟨h1, h2⟩ => hn ⟨h1, h2, hx⟩
      · exact .inr (Nat.not_lt.mp hx)
  generalize s.pulseShown a vsw vbst ⟨a, h, d, w, e⟩ x = u at hexec hvsw hvbst hout hmot hpulse hnow hstate
  have hgone : ∀ p ∈ u.gate.pulse, p.axis ≠ a := fun p hp => by
    rw [hpulse] at hp
    simpa using (List.mem_filter.mp hp).2
  have hax := State.axis_of_mot hmot a
  by_cases hg : d = true ∧ x.before < s.get F.GDR_BST_WARN ∧ x.charged < s.get F.GDR_BST_WARN + 5
  · have hnot : s.pulseGiven ⟨a, h, d, w, e⟩ x = false := Bool.eq_false_of_not_eq_true fun hy => hgiven.mp hy hg
    rw [hnot] at hexec hout hnow
    rw [hpre.mpr ⟨hg.1, hg.2.1⟩] at hnow
    refine ⟨_, hexec, hvsw, hvbst, hgone, ?_⟩
    rw [if_pos hg]
    exact ⟨hout, hnow, hstate⟩
  · have hyes := hgiven.mpr hg
    rw [hyes] at hexec hout hnow
    by_cases htrip : x.trip = true
    · rw [htrip] at hexec hout
      rw [Bool.and_self, if_pos rfl] at hexec
      dsimp only at hexec
      simp only [if_neg hg, if_pos htrip]
      have hc : (if d = true then 2 * h else 2 * h + 1) < 8 := by split <;> omega
      generalize (if d = true then 2 * h else 2 * h + 1) = c at hexec hc ⊢
      obtain ⟨hcoasts, hbit, -, -, -⟩ := shortCircuit_shown (s := u) ha (by rw [hmot]; exact hlen) hc
      have hres := fun {g : Fld} (hg : g ∈ resultFields) => shortCircuit_result hg u a c
      refine ⟨_, hexec, (hres (by decide)).trans hvsw, (hres (by decide)).trans hvbst, fun p hp => ?_, ?_⟩
      · rw [shortCircuit_pulse] at hp
        exact hgone p (List.mem_filter.mp hp).1
      · obtain ⟨h1, h2, h3, h4, h5⟩ := hcoasts
        exact ⟨(hres (by decide)).trans hout, ⟨h1, h2, h3, h4, fun hc => h5 (by rw [hax]; exact hc)⟩, hbit⟩
    · have hno : x.trip = false := Bool.eq_false_of_not_eq_true htrip
      rw [hno] at hexec hout hnow
      refine ⟨_, hexec, hvsw, hvbst, hgone, ?_⟩
      rw [if_neg hg, if_neg htrip]
      refine ⟨hout, hstate, hnow.trans ?_⟩
      simp only [hpre]
      rfl

/-! ### Live reads -/

/-- A read of GD_LIVE over a link that is up. -/
theorem beforeRead_live {u : State} {a : Nat} (ha : a < 6) (hM : u.hasM = true) (hdown : u.gdieDown = false)
    (hlink : u.on F.GDR_STAT_LINKLOST = false) : u.beforeRead (0x49 + a % 6) 0xE1 = u.fetchLive a := by
  unfold State.beforeRead
  rw [if_pos (by rw [hM, hdown, hlink, decide_eq_true (by omega)]; rfl), Nat.add_sub_cancel_left, Nat.mod_eq_of_lt ha]

theorem readWord_live {u : State} {a : Nat} (ha : a < 6) (hM : u.hasM = true) (l : Link) :
    u.readWord l (0x49 + a % 6) 0xE1 = u.reg (F.GD_LIVE_LIVE.on a).addr := by
  have hfit := fitted_bridge hM ha
  unfold State.readWord
  rw [hfit]
  interval_cases a <;> rfl

theorem readEffect_live {u : State} {a : Nat} (ha : a < 6) (l : Link) : u.readEffect l (0x49 + a % 6) 0xE1 = u := by
  unfold State.readEffect
  dsimp only
  split
  · rfl
  · interval_cases a <;> rfl

theorem execGdLiveRead_claim (l : Link) (a : Nat) (s : State) : Claims.gdLiveRead l a s := by
  intro h hM ha hdown hlink
  obtain ⟨t, u, ht, hlike, htwin, hgranted, -, -, hdata, -⟩ := read_served h (page := 0x49 + a % 6) (word := 0xE1) 0 (by omega) (by omega)
  have hu := Alike.of_twin hlike.1
  have huM : u.hasM = true := hu.hasM.trans hM
  have hfM : (u.fetchLive a).hasM = true := (altersOf (alters_fetchLive u a)).on F.SYS_VARIANT_GDIE (by decide +kernel) |>.trans huM
  rw [beforeRead_live ha huM ((gdieDown_of_twin hlike.1).trans hdown) ((hu.on (by decide)).trans hlink)] at htwin hdata
  rw [readWord_live ha hfM] at hdata
  rw [readEffect_live ha] at htwin
  have hlive : (u.fetchLive a).reg (F.GD_LIVE_LIVE.on a).addr = s.reg (F.GD_STAT_STATE.on a).addr := by
    unfold State.fetchLive
    rw [State.reg_put_same]
    rw [reg_of_linksAside hlike.1.1]
    refine State.reg_refreshShown ?_ ?_ s
    · interval_cases a <;> decide
    · interval_cases a <;> decide
  exact ⟨t, congrArg Outcome.next ht, hgranted, (reg_of_linksAside htwin.1 _).trans hlive, hdata.trans hlive⟩

end Sys2Proof.Machine

/-- Settles O43: commands to a bridge are decided on a state like the one before; a pulse that trips ends as a trip does. -/
theorem gateCommands : Obligations.GateCommands :=
  ⟨Sys2Proof.Machine.execGdieFrame_claim, Sys2Proof.Machine.execGdieFrame_miss_claim, Sys2Proof.Machine.execGdieLinkLost_claim,
    Sys2Proof.Machine.execSctest_claim, Sys2Proof.Machine.execSctest_refused_claim, Sys2Proof.Machine.execSctestDone_claim,
    Sys2Proof.Machine.execRecover_claim, Sys2Proof.Machine.execRecover_refused_claim, Sys2Proof.Machine.execGatePulse_claim,
    Sys2Proof.Machine.execGatePulse_refused_claim, Sys2Proof.Machine.execGatePulseEnd_claim, Sys2Proof.Machine.execGdLiveRead_claim⟩
end

section
set_option Elab.async false
namespace Sys2Proof.Machine

/-- In RUN with a session of the firmware update open, three bytes before the last word of the bank. -/
def lastBytes : State :=
  (({ State.reset with pwr := { State.reset.pwr with phase := .run } }.set F.CFG_FWSTAT_STATE 1).set F.CFG_FWADDR_OFFSET 2097145)

end Sys2Proof.Machine

open Sys2Proof Sys2Proof.Machine Host in
/-- Refutes O16: the claim on the data asks for no offset at a multiple of 4; three bytes before the last word of the bank the offset
advances by 3, to the last word, and not by 4. -/
theorem not_firmwareUpdate : ¬ Obligations.FirmwareUpdate := by
  intro h
  obtain ⟨-, hdata, -⟩ := h
  have stops : (lastBytes.hostWrite .spi 0x02 0xE2 0).get F.CFG_FWADDR_OFFSET = 2097148 := by decide +kernel
  obtain ⟨t, ht, -, -, hofs⟩ := hdata .spi 0 lastBytes (by decide +kernel) (by decide +kernel) (by decide +kernel)
  obtain rfl : lastBytes.hostWrite .spi 0x02 0xE2 0 = t := Outcome.next.inj ht
  rw [stops] at hofs
  have hbegin : lastBytes.get F.CFG_FWADDR_OFFSET = 2097145 := by decide +kernel
  rw [hbegin] at hofs
  exact absurd hofs (by decide)
end

section
/-! SUPPORT. Which cells the comparators are excluded for, their trip bits, and what a trip of the fault line leaves (R165 to R168, R174,
R245). -/
set_option Elab.async false
namespace Sys2Proof.Machine
open Host

/-! ### The auxiliary contacts under a trip -/

theorem aux_applyIf {s : State} {c : Bool} {f : State → State} (h : (f s).get F.PRT_STAT_AUX = s.get F.PRT_STAT_AUX) :
    (s.applyIf c f).get F.PRT_STAT_AUX = s.get F.PRT_STAT_AUX := by
  unfold State.applyIf
  split
  · exact h
  · rfl

theorem aux_preFailed (s : State) (out : Nat) : (s.preFailed out).get F.PRT_STAT_AUX = s.get F.PRT_STAT_AUX := by
  have hcool : ∀ (u : State) (c : Bool) (n : Nat), (u.applyIf c fun s => (s.onProt fun p => { p with
      coolUntil := some (s.now + n * 1000000) }).setOn F.PRT_STAT_COOL true).get F.PRT_STAT_AUX = u.get F.PRT_STAT_AUX := fun u c n => by
    refine aux_applyIf ?_
    rw [State.get_setOn_leaves (by decide)]
    rfl
  have hout : ∀ (b : Bool) (w : Nat), ((s.set F.PRT_PRESTAT_OUT out).applyIf b fun s => s.set F.PRT_PRESTAT_DEV w).get F.PRT_STAT_AUX =
      s.get F.PRT_STAT_AUX := fun b w =>
    (aux_applyIf (State.get_set_leaves (by decide) _ _)).trans (State.get_set_leaves (by decide) _ _)
  unfold State.preFailed
  dsimp only
  refine (hcool _ _ _).trans ?_
  split
  · rw [State.get_flag_leaves (by decide)]
    exact hout _ _
  · rw [State.get_flagEvent_leaves (by decide)]
    exact hout _ _

theorem aux_showCoil (s : State) (m : Nat) (v : Bool) : (s.showCoil m v).get F.PRT_STAT_AUX = s.get F.PRT_STAT_AUX := by
  have hword : Alters (arrayMask F.PRT_COIL_HS) (s.set F.PRT_STAT_COIL (withBit (s.get F.PRT_STAT_COIL) m v)) (s.showCoil m v) :=
    alters_setOn (setMask_at _ _) (alters_refl _ _)
  rw [hword.get _ (by decide +kernel)]
  exact State.get_set_leaves (by decide) _ _

theorem aux_allCoilsOff (s : State) : s.allCoilsOff.get F.PRT_STAT_AUX = s.get F.PRT_STAT_AUX := by
  refine foldl_keeps (fun t : State => t.get F.PRT_STAT_AUX = s.get F.PRT_STAT_AUX) (fun t m ht => Eq.trans ?_ ht) _ rfl
  unfold State.coilRelease
  split
  · exact aux_showCoil _ m false
  · rfl

theorem aux_setPrtState (s : State) (v : Nat) : (s.setPrtState v).get F.PRT_STAT_AUX = s.get F.PRT_STAT_AUX := by
  unfold State.setPrtState
  dsimp only
  rw [State.get_setOn_leaves (by decide), State.get_setOn_leaves (by decide), State.get_setOn_leaves (by decide),
    State.get_set_leaves (by decide)]
  split <;> rfl

theorem aux_showPath (s : State) (path : Nat) : (s.showPath path).get F.PRT_STAT_AUX = s.get F.PRT_STAT_AUX := by
  unfold State.showPath
  dsimp only
  rw [State.get_set_leaves (by decide), State.get_set_leaves (by decide)]
  refine (aux_applyIf (State.get_flag_leaves (by decide) _)).trans ?_
  split <;> rfl

/-- A trip turns the contactors off; what their auxiliary contacts read stays. -/
theorem aux_prtTrip (s : State) : s.prtTrip.get F.PRT_STAT_AUX = s.get F.PRT_STAT_AUX := by
  have hopen := fun u : State => (altersOf (alters_allOpen u)).get F.PRT_STAT_AUX (by decide +kernel)
  have htargets := fun u : State => (altersOf (alters_showTargets u)).get F.PRT_STAT_AUX (by decide +kernel)
  have hlow := fun u : State => (altersOf (alters_showLowSides u false)).get F.PRT_STAT_AUX (by decide +kernel)
  have hwait := fun u : State => (altersOf (alters_endWait u)).get F.PRT_STAT_AUX (by decide +kernel)
  have hfail : ∀ (u : State) (c : Bool), (u.applyIf c fun s => s.preFailed 6).get F.PRT_STAT_AUX = u.get F.PRT_STAT_AUX :=
    fun u _ => aux_applyIf (aux_preFailed u 6)
  have hprot : ∀ (u : State) (f : ProtSt → ProtSt), (u.onProt f).get F.PRT_STAT_AUX = u.get F.PRT_STAT_AUX := fun _ _ => rfl
  unfold State.prtTrip State.setCond
  dsimp only
  rw [hopen, htargets, aux_showPath, aux_setPrtState, State.get_setOn_leaves (by decide), State.get_setOn_leaves (by decide),
    State.get_setOn_leaves (by decide), State.get_set_leaves (by decide), State.get_set_leaves (by decide), State.get_set_leaves (by decide),
    hprot, hlow, aux_allCoilsOff, State.get_set_leaves (by decide), hfail, hwait]

theorem aux_assertLine (s : State) : s.assertLine.get F.PRT_STAT_AUX = s.get F.PRT_STAT_AUX := by
  have hline : ∀ (u : State) (p : Pins) (f : FaultLineSt → FaultLineSt),
      (({ u with pins := p } : State).onLine f).get F.PRT_STAT_AUX = u.get F.PRT_STAT_AUX := fun _ _ _ => rfl
  unfold State.assertLine
  split
  · rfl
  · dsimp only
    rw [aux_prtTrip, State.get_set_leaves (by decide), State.get_set_leaves (by decide), hline, State.get_flag_leaves (by decide),
      State.get_setOn_leaves (by decide), State.get_setOn_leaves (by decide)]

theorem aux_driveCode (s : State) (k b : Nat) : (s.driveCode k b).get F.PRT_STAT_AUX = s.get F.PRT_STAT_AUX := by
  unfold State.driveCode
  rw [(altersOf (alters_showActive _)).get F.PRT_STAT_AUX (by decide +kernel), aux_assertLine]
  exact (altersOf (alters_stopCarrier s k)).get F.PRT_STAT_AUX (by decide +kernel)

/-! ### A source that drives its channel -/

theorem driveCode_asserted (s : State) (k b : Nat) : (s.driveCode k b).on F.CMP_FLSTAT_ASSERTED = true := by
  unfold State.driveCode
  rw [State.showActive_asserted]
  exact State.assertLine_asserted _

theorem driveCode_pins (s : State) (k b : Nat) :
    (s.driveCode k b).pins = { s.pins with fltN := if s.on F.CMP_FLSTAT_ASSERTED then s.pins.fltN else true } := by
  unfold State.driveCode
  rw [State.showActive_pins, State.assertLine_pins]
  rfl

/-- Beside the code of its own die a source that drives its channel leaves what the dies keep. -/
theorem driveCode_die (s : State) (k b j : Nat) : (s.driveCode k b).die j =
    if k = j ∧ j < s.dieSt.length then { s.die j with code := withBit (s.die j).code b true } else s.die j := by
  have hdie : (s.driveCode k b).die j = ((s.stopCarrier k).onDie k fun d => { d with code := withBit d.code b true }).die j := by
    unfold State.driveCode State.die
    rw [State.showActive_dieSt, State.assertLine_dieSt]
  rw [hdie, State.die_onDie]
  rfl

/-! ### Excluded cells -/

/-- The words that say which cells are excluded, but for the contacts. -/
def exclusionWords : List Nat :=
  [wordBit F.MD_CELLEN_LO_EN.addr, wordBit F.MD_CELLEN_HI_EN.addr, wordBit F.CMP_OWST_HARNESS.addr] ++
    (List.range 16).map fun e => wordBit (F.CMP_TAP_STATE.at e).addr

theorem excluded_of_alters {m : Nat} {s t : State} (h : Alters m s t) (haux : t.get F.PRT_STAT_AUX = s.get F.PRT_STAT_AUX)
    (hm : (exclusionWords.all fun b => !m.testBit b) = true) (k i : Nat) : t.excluded k i = s.excluded k i := by
  have hfree : ∀ b ∈ exclusionWords, m.testBit b = false := fun b hb => (Bool.not_eq_true' _).mp (List.all_eq_true.mp hm b hb)
  have htap : ∀ e, e < 16 → ∀ f : Fld, f.page = F.CMP_TAP_STATE.page → f.word = F.CMP_TAP_STATE.word →
      t.get (f.at e) = s.get (f.at e) := fun e he f hp hw => by
    refine h.get _ (hfree _ ?_)
    have haddr : (f.at e).addr = (F.CMP_TAP_STATE.at e).addr := by
      unfold Fld.at Fld.addr
      rw [hp, hw]
    rw [haddr]
    exact List.mem_append_right _ (List.mem_map.mpr ⟨e, List.mem_range.mpr he, rfl⟩)
  have huse : t.inUse k i = s.inUse k i := by
    unfold State.inUse State.bit64
    rw [h.get (F.MD_CELLEN_LO_EN.on k) (by rw [wordBit_on]; exact hfree _ (by decide)),
      h.get (F.MD_CELLEN_HI_EN.on k) (by rw [wordBit_on]; exact hfree _ (by decide))]
  have hfaulty : t.faultyTaps k = s.faultyTaps k := by
    unfold State.faultyTaps State.tapEntryState
    have hfilter : (List.range 16).filter (fun e => t.get (F.CMP_TAP_DIE.at e) == k && (t.get (F.CMP_TAP_STATE.at e) == 1 ||
        t.get (F.CMP_TAP_STATE.at e) == 2 || t.get (F.CMP_TAP_STATE.at e) == 3)) = (List.range 16).filter (fun e =>
        s.get (F.CMP_TAP_DIE.at e) == k && (s.get (F.CMP_TAP_STATE.at e) == 1 || s.get (F.CMP_TAP_STATE.at e) == 2 ||
        s.get (F.CMP_TAP_STATE.at e) == 3)) := List.filter_congr fun e he => by
      rw [htap e (List.mem_range.mp he) F.CMP_TAP_DIE rfl rfl, htap e (List.mem_range.mp he) F.CMP_TAP_STATE rfl rfl]
    rw [hfilter]
    exact List.map_congr_left fun e he => htap e (List.mem_range.mp (List.mem_filter.mp he).1) F.CMP_TAP_TAP rfl rfl
  unfold State.excluded State.substituted State.cellCase State.harness State.mainOpen State.cdClosed
  rw [huse, hfaulty, h.get F.CMP_OWST_HARNESS (hfree _ (by decide)), haux]

theorem excluded_driveCode (s : State) (k b j i : Nat) : (s.driveCode k b).excluded j i = s.excluded j i :=
  excluded_of_alters (altersOf (alters_driveCode s k b)) (aux_driveCode s k b) (by decide +kernel) j i

/-! ### Trip bits -/

/-- The maps of trip bits. -/
def tripMaps : List Fld := [F.CMP_GOVT_TRIP, F.CMP_GUVT_TRIP, F.CMP_AOVT_TRIP, F.CMP_AUVT_TRIP]

/-- A word of a map takes a bit. -/
theorem tripMap_okay {f : Fld} (h : f ∈ tripMaps) (n : Nat) : (f.at n).okay = true ∧ (f.at n).hi = 31 ∧ (f.at n).lo = 0 := by
  have hall : ∀ f ∈ tripMaps, ∀ n < 16, (f.at n).okay = true ∧ (f.at n).hi = 31 ∧ (f.at n).lo = 0 := by decide
  have hlen : ∀ f ∈ tripMaps, arrayLen f.page f.word = 16 := by decide
  have hmod : f.at n = f.at (n % 16) := by
    unfold Fld.at
    rw [hlen f h, Nat.mod_mod]
  rw [hmod]
  exact hall f h _ (Nat.mod_lt _ (by decide))

/-- Two words of the maps are the same word or leave each other alone. -/
theorem tripMap_leaves {f g : Fld} (hf : f ∈ tripMaps) (hg : g ∈ tripMaps) {m n : Nat} (hm : m < 16) (hn : n < 16) :
    (f = g ∧ m = n) ∨ (f.at m).leaves (g.at n) = true := by
  have hall : ∀ f ∈ tripMaps, ∀ g ∈ tripMaps, ∀ m < 16, ∀ n < 16, (f = g ∧ m = n) ∨ (f.at m).leaves (g.at n) = true := by decide +kernel
  exact hall f hf g hg m hm n hn

theorem tripBit_setTrip {f g : Fld} (hf : f ∈ tripMaps) (hg : g ∈ tripMaps) {j n k i : Nat} (hj : j < 8) (hn : n < 64) (hk : k < 8) (hi : i < 64)
    (s : State) (v : Bool) : (s.setTrip f j n v).tripBit g k i = if f = g ∧ j = k ∧ n = i then v else s.tripBit g k i := by
  obtain ⟨hok, hhi, hlo⟩ := tripMap_okay hf (2 * j + n / 32)
  unfold State.setTrip State.tripBit
  dsimp only
  rcases tripMap_leaves hf hg (show 2 * j + n / 32 < 16 by omega) (show 2 * k + i / 32 < 16 by omega) with ⟨rfl, hw⟩ | hl
  · rw [← hw, State.get_set_withBit hok (by rw [hhi, hlo]; omega), bit_withBit]
    by_cases hbit : i % 32 = n % 32
    · rw [if_pos hbit, if_pos ⟨rfl, by omega, by omega⟩]
    · rw [if_neg hbit, if_neg (fun h => hbit (by rw [h.2.2]))]
  · rw [State.get_set_leaves hl]
    split
    next h =>
      obtain ⟨rfl, rfl, rfl⟩ := h
      exfalso
      unfold Fld.leaves at hl
      simp [hhi, hlo] at hl
    next => rfl

/-- A trip bit that is set stays set while others are set. -/
theorem tripBit_setTrip_true {f g : Fld} (hf : f ∈ tripMaps) (hg : g ∈ tripMaps) (j n : Nat) {k i : Nat} {s : State}
    (h : s.tripBit g k i = true) : (s.setTrip f j n true).tripBit g k i = true := by
  have hlen : ∀ f ∈ tripMaps, arrayLen f.page f.word = 16 := by decide
  have hmod : ∀ f ∈ tripMaps, ∀ n, f.at n = f.at (n % 16) := fun f hf n => by
    unfold Fld.at
    rw [hlen f hf, Nat.mod_mod]
  obtain ⟨hok, hhi, hlo⟩ := tripMap_okay hf (2 * j + n / 32)
  unfold State.setTrip State.tripBit at *
  dsimp only
  rw [hmod g hg, hmod f hf] at *
  rcases tripMap_leaves hf hg (Nat.mod_lt (2 * j + n / 32) (by decide)) (Nat.mod_lt (2 * k + i / 32) (show 0 < 16 by decide)) with ⟨rfl, hw⟩ | hl
  · rw [hw] at hok hhi hlo ⊢
    rw [State.get_set_withBit hok (by rw [hhi, hlo]; omega), bit_withBit]
    split
    · rfl
    · exact h
  · rw [State.get_set_leaves hl]
    exact h

theorem tripBit_of_alters {m : Nat} {s t : State} (h : Alters m s t) {f : Fld} (hf : f ∈ tripMaps)
    (hm : (tripMaps.all fun f => (List.range 16).all fun n => !m.testBit (wordBit (f.at n).addr)) = true) (k i : Nat) :
    t.tripBit f k i = s.tripBit f k i := by
  have hlen : ∀ f ∈ tripMaps, arrayLen f.page f.word = 16 := by decide
  have hmod : ∀ n, f.at n = f.at (n % 16) := fun n => by
    unfold Fld.at
    rw [hlen f hf, Nat.mod_mod]
  have hfree := List.all_eq_true.mp (List.all_eq_true.mp hm f hf) ((2 * k + i / 32) % 16) (List.mem_range.mpr (Nat.mod_lt _ (by decide)))
  unfold State.tripBit
  rw [hmod, h.get _ ((Bool.not_eq_true' _).mp hfree)]

theorem tripBit_driveCode {f : Fld} (hf : f ∈ tripMaps) (s : State) (k b j i : Nat) : (s.driveCode k b).tripBit f j i = s.tripBit f j i :=
  tripBit_of_alters (altersOf (alters_driveCode s k b)) hf (by decide +kernel) j i

end Sys2Proof.Machine
end

section
/-! Gated and absolute comparators, the fast overcurrent comparator, and their self-tests (R165 to R168, R171, R201, R203). -/
set_option Elab.async false
namespace Sys2Proof.Machine
open Host

/-! ### Counts -/

theorem countOf_putCount_same (l : List (Nat × Nat)) (k v : Nat) : countOf (putCount k v l) k = v := by
  by_cases h : v = 0
  · subst h
    exact countOf_putCount_zero l k
  · exact countOf_putCount l k h

theorem die_of_dieSt {s t : State} (h : t.dieSt = s.dieSt) (k : Nat) : t.die k = s.die k := by
  unfold State.die
  rw [h]

theorem testCell_of_die {s t : State} {k : Nat} (hdie : t.die k = s.die k) (hex : ∀ i, t.excluded k i = s.excluded k i) :
    t.testCell k = s.testCell k := by
  unfold State.testCell
  rw [hdie]
  simp only [hex]

/-! ### The gated comparators -/

theorem gatedCell_die (s : State) (j : Nat) (v : Int) (i k : Nat) : (s.gatedCell j v i).die k =
    if j = k ∧ k < s.dieSt.length then { s.die k with
      ovCount := putCount i (if (s.get F.CMP_GOV_MV * 1000 : Int) < v then countOf (s.die k).ovCount i + 1 else 0) (s.die k).ovCount
      uvCount := putCount i (if v < (s.get F.CMP_GUV_MV * 1000 : Int) then countOf (s.die k).uvCount i + 1 else 0) (s.die k).uvCount }
    else s.die k := by
  have htrip : ∀ (u : State) (c : Bool) (f : Fld), (u.applyIf c fun s => s.setTrip f j i false).dieSt = u.dieSt := fun u c f => by
    unfold State.applyIf
    split
    · exact State.set_dieSt ..
    · rfl
  unfold State.gatedCell
  dsimp only
  rw [die_of_dieSt (htrip _ _ _), die_of_dieSt (htrip _ _ _), State.die_onDie]

/-- What an evaluation of the gated comparators looks at for a die. -/
structure SameGated (k : Nat) (s t : State) : Prop where
  len : t.dieSt.length = s.dieSt.length
  gov : t.get F.CMP_GOV_MV = s.get F.CMP_GOV_MV
  guv : t.get F.CMP_GUV_MV = s.get F.CMP_GUV_MV
  excluded : ∀ i, t.excluded k i = s.excluded k i
  sampling : t.sampling k = s.sampling k
  now : t.now = s.now

theorem SameGated.refl (k : Nat) (s : State) : SameGated k s s := ⟨rfl, rfl, rfl, fun _ => rfl, rfl, rfl⟩

theorem SameGated.trans {k : Nat} {s t u : State} (h : SameGated k s t) (h' : SameGated k t u) : SameGated k s u :=
  ⟨h'.len.trans h.len, h'.gov.trans h.gov, h'.guv.trans h.guv, fun i => (h'.excluded i).trans (h.excluded i),
    h'.sampling.trans h.sampling, h'.now.trans h.now⟩

theorem sampling_of_alters {m : Nat} {s t : State} (h : Alters m s t) (k : Nat) (hdies : m.testBit (wordBit F.SYS_VARIANT_MDIES.addr) = false)
    (hon : m.testBit (wordBit F.PWR_MDPWR_MD_ON.addr) = false) (hasleep : m.testBit (wordBit F.STK_ROUTE_ASLEEP.addr) = false) :
    t.sampling k = s.sampling k := by
  unfold State.sampling State.dies
  rw [h.get _ hdies, h.get _ hon, h.get _ hasleep]

theorem onDie_len (s : State) (k : Nat) (f : DieSt → DieSt) : (s.onDie k f).dieSt.length = s.dieSt.length := List.length_modify ..

theorem sameGated_gatedCell (s : State) (j : Nat) (v : Int) (i k : Nat) : SameGated k s (s.gatedCell j v i) := by
  have h := altersOf (alters_gatedCell s j v i)
  have htrip : ∀ (u : State) (c : Bool) (f : Fld), (u.applyIf c fun s => s.setTrip f j i false).dieSt = u.dieSt := fun u c f => by
    unfold State.applyIf
    split
    · exact State.set_dieSt ..
    · rfl
  refine ⟨?_, h.get _ (by decide +kernel), h.get _ (by decide +kernel),
    excluded_of_alters h (h.get _ (by decide +kernel)) (by decide +kernel) k,
    sampling_of_alters h k (by decide +kernel) (by decide +kernel) (by decide +kernel), h.now (by decide +kernel)⟩
  unfold State.gatedCell
  dsimp only
  rw [htrip, htrip, onDie_len]

/-- The cells of a die that an evaluation looks at. -/
def State.gatedCells (s : State) (k : Nat) : List Nat := cellList.filter fun i => !s.excluded k i && s.testCell k != some i

/-- The evaluation of the gated comparators of one die. -/
def State.gatedDie (s : State) (cells : List (List Int)) (k : Nat) : State :=
  if s.sampling k then (s.gatedCells k).foldl (fun s i => s.gatedCell k (entry ((cells[k]?).getD []) i) i) s else s

theorem sameGated_gatedDie (s : State) (cells : List (List Int)) (j k : Nat) : SameGated k s (s.gatedDie cells j) := by
  unfold State.gatedDie
  split
  · exact foldl_keeps (SameGated k s) (fun t i ht => ht.trans (sameGated_gatedCell t j _ i k)) _ (.refl k s)
  · exact .refl k s

theorem gatedDie_other {j k : Nat} (h : j ≠ k) (s : State) (cells : List (List Int)) : (s.gatedDie cells j).die k = s.die k := by
  unfold State.gatedDie
  split
  · exact foldl_keeps (fun t : State => t.die k = s.die k) (fun t i ht => by rw [gatedCell_die, if_neg (fun hc => h hc.1)]; exact ht) _ rfl
  · rfl

/-- What an evaluation makes of the counts of a cell. -/
structure GatedCount (k i : Nat) (v : Int) (s t : State) : Prop where
  ov : countOf (t.die k).ovCount i = if (s.get F.CMP_GOV_MV * 1000 : Int) < v then countOf (s.die k).ovCount i + 1 else 0
  uv : countOf (t.die k).uvCount i = if v < (s.get F.CMP_GUV_MV * 1000 : Int) then countOf (s.die k).uvCount i + 1 else 0

theorem gatedDie_counts {s : State} {k i : Nat} (hk : k < s.dieSt.length) (hi : i < 64) (hs : s.sampling k = true)
    (hex : s.excluded k i = false) (htest : s.testCell k ≠ some i) (cells : List (List Int)) :
    GatedCount k i (entry ((cells[k]?).getD []) i) s (s.gatedDie cells k) := by
  have hmem : i ∈ s.gatedCells k := by
    refine List.mem_filter.mpr ⟨List.mem_range.mpr hi, ?_⟩
    rw [hex]
    simpa using htest
  unfold State.gatedDie
  rw [if_pos hs]
  refine (foldl_once (b := i) (f := fun (t : State) i => t.gatedCell k (entry ((cells[k]?).getD []) i) i)
    (I := fun t => SameGated k s t ∧ countOf (t.die k).ovCount i = countOf (s.die k).ovCount i ∧
      countOf (t.die k).uvCount i = countOf (s.die k).uvCount i)
    (J := fun t => SameGated k s t ∧ GatedCount k i (entry ((cells[k]?).getD []) i) s t)
    (s.gatedCells k) (List.Nodup.filter _ List.nodup_range) hmem ?_ ?_ ?_ ⟨.refl k s, rfl, rfl⟩).2
  · rintro t j - hj ⟨ht, hov, huv⟩
    refine ⟨ht.trans (sameGated_gatedCell ..), ?_⟩
    rw [gatedCell_die, if_pos ⟨rfl, by rw [ht.len]; exact hk⟩]
    exact ⟨(countOf_putCount_other hj _ _).trans hov, (countOf_putCount_other hj _ _).trans huv⟩
  · rintro t ⟨ht, hov, huv⟩
    refine ⟨ht.trans (sameGated_gatedCell ..), ?_⟩
    constructor
    · rw [gatedCell_die, if_pos ⟨rfl, by rw [ht.len]; exact hk⟩, ← hov, ← ht.gov]
      exact countOf_putCount_same ..
    · rw [gatedCell_die, if_pos ⟨rfl, by rw [ht.len]; exact hk⟩, ← huv, ← ht.guv]
      exact countOf_putCount_same ..
  · rintro t j - hj ⟨ht, hov, huv⟩
    refine ⟨ht.trans (sameGated_gatedCell ..), ?_⟩
    constructor
    · rw [gatedCell_die, if_pos ⟨rfl, by rw [ht.len]; exact hk⟩]
      exact (countOf_putCount_other hj _ _).trans hov
    · rw [gatedCell_die, if_pos ⟨rfl, by rw [ht.len]; exact hk⟩]
      exact (countOf_putCount_other hj _ _).trans huv

theorem mem_dieList {s : State} {k : Nat} : k ∈ s.dieList ↔ k < s.dies := List.mem_range

theorem execGatedEval_claim (cells : List (List Int)) (k i : Nat) (s : State) : Claims.gatedEval cells k i s := by
  intro hrun hquiet hsh hk hk8 hi hs hex htest
  obtain ⟨hlen, -⟩ := hsh
  generalize hu : s.advanceTo (s.thy.boundary + s.period / 2) = u
  have hsame : SameGated k s { u with now := s.now } ∧ u.dieSt = s.dieSt ∧ u.dieList = s.dieList := by
    rw [← hu]
    exact ⟨.refl k s, rfl, rfl⟩
  have hexec : exec (.gatedEval cells) s = .next (u.dieList.foldl (fun t k => t.gatedDie cells k) u) := by
    show execGatedEval cells s = _
    unfold execGatedEval
    rw [if_pos (by rw [hrun, hquiet]; rfl), hu]
    rfl
  have hus : u.sampling k = true := by rw [← hu]; exact hs
  have huex : u.excluded k i = false := by rw [← hu]; exact hex
  have hutest : u.testCell k ≠ some i := by rw [← hu]; exact htest
  obtain ⟨hnow, hcount⟩ := foldl_once (b := k) (f := fun (t : State) k => t.gatedDie cells k)
    (I := fun t => SameGated k u t ∧ t.die k = u.die k)
    (J := fun t => t.now = u.now ∧ GatedCount k i (entry ((cells[k]?).getD []) i) u t)
    u.dieList List.nodup_range (by rw [hsame.2.2]; exact mem_dieList.mpr hk)
    (fun t j _ hj ht => ⟨ht.1.trans (sameGated_gatedDie t cells j k), (gatedDie_other hj t cells).trans ht.2⟩)
    (fun t ht => by
      obtain ⟨hsg, hdie⟩ := ht
      have hc := gatedDie_counts (s := t) (k := k) (i := i) (by rw [hsg.len, hsame.2.1, hlen]; exact hk8) hi (hsg.sampling.trans hus)
        ((hsg.excluded i).trans huex) (by rw [testCell_of_die hdie hsg.excluded]; exact hutest) cells
      refine ⟨(sameGated_gatedDie t cells k k).now.trans hsg.now, ?_, ?_⟩
      · rw [hc.ov, hsg.gov, hdie]
      · rw [hc.uv, hsg.guv, hdie])
    (fun t j _ hj ht => ⟨(sameGated_gatedDie t cells j k).now.trans ht.1, by rw [gatedDie_other hj]; exact ht.2.ov,
      by rw [gatedDie_other hj]; exact ht.2.uv⟩) ⟨.refl k u, rfl⟩
  refine ⟨_, hexec, by rw [hnow, ← hu]; rfl, ?_, ?_⟩
  · rw [hcount.ov, ← hu]
    rfl
  · rw [hcount.uv, ← hu]
    rfl

/-! ### Gated trips -/

/-- The trip of the comparators of one die. -/
def State.gatedTripDie (s : State) (k : Nat) : State :=
  let ov := s.gatedDue k (s.die k).ovCount
  let uv := s.gatedDue k (s.die k).uvCount
  (((uv.foldl (fun s i => s.setTrip F.CMP_GUVT_TRIP k i true) (ov.foldl (fun s i => s.setTrip F.CMP_GOVT_TRIP k i true) s)).applyIf
    (!ov.isEmpty) fun s => s.driveCode k 0).applyIf (!uv.isEmpty) fun s => s.driveCode k 1)

theorem execGatedTrip_eq {s : State} (h : s.running = true) : exec .gatedTrip s = .next (s.dieList.foldl State.gatedTripDie s) := by
  show execGatedTrip s = _
  unfold execGatedTrip
  rw [if_pos h]
  rfl

theorem tripBits_set {f : Fld} (hf : f ∈ tripMaps) {k i : Nat} (hk : k < 8) (hi : i < 64) (l : List Nat) (hl : i ∈ l) (hl64 : ∀ j ∈ l, j < 64)
    (s : State) : (l.foldl (fun s i => s.setTrip f k i true) s).tripBit f k i = true := by
  induction l generalizing s with
  | nil => exact absurd hl List.not_mem_nil
  | cons a l ih =>
    by_cases hil : i ∈ l
    · exact ih hil (fun j hj => hl64 j (List.mem_cons_of_mem _ hj)) _
    · obtain rfl : i = a := (List.mem_cons.mp hl).resolve_right hil
      refine foldl_keeps (fun t : State => t.tripBit f k i = true) (fun t j ht => tripBit_setTrip_true hf hf k j ht) l ?_
      rw [tripBit_setTrip hf hf hk hi hk hi, if_pos ⟨rfl, rfl, rfl⟩]

theorem tripBits_keep {f g : Fld} (hf : f ∈ tripMaps) (hg : g ∈ tripMaps) {k i : Nat} (j : Nat) (l : List Nat) {s : State}
    (h : s.tripBit g k i = true) : (l.foldl (fun s n => s.setTrip f j n true) s).tripBit g k i = true :=
  foldl_keeps (fun t : State => t.tripBit g k i = true) (fun _ n ht => tripBit_setTrip_true hf hg j n ht) l h

theorem tripBit_applyIf_driveCode {f : Fld} (hf : f ∈ tripMaps) (s : State) (c : Bool) (j b k i : Nat) :
    (s.applyIf c fun s => s.driveCode j b).tripBit f k i = s.tripBit f k i := by
  unfold State.applyIf
  split
  · exact tripBit_driveCode hf s j b k i
  · rfl

/-- A trip bit of the gated comparators stays set while other dies trip. -/
theorem gatedTripDie_keeps {f : Fld} (hf : f ∈ tripMaps) (j : Nat) {k i : Nat} {s : State} (h : s.tripBit f k i = true) :
    (s.gatedTripDie j).tripBit f k i = true := by
  unfold State.gatedTripDie
  rw [tripBit_applyIf_driveCode hf, tripBit_applyIf_driveCode hf]
  exact tripBits_keep (by decide) hf j _ (tripBits_keep (by decide) hf j _ h)

/-- The line of a state: asserted, and at its pin where the line was released before. -/
structure LineHeld (s t : State) : Prop where
  asserted : s.on F.CMP_FLSTAT_ASSERTED = true → t.on F.CMP_FLSTAT_ASSERTED = true
  pin : s.pins.fltN = true → t.pins.fltN = true
  fresh : s.on F.CMP_FLSTAT_ASSERTED = false → t.on F.CMP_FLSTAT_ASSERTED = true → t.pins.fltN = true

theorem LineHeld.refl (s : State) : LineHeld s s := ⟨id, id, fun h h' => by rw [h] at h'; exact absurd h' (by decide)⟩

theorem LineHeld.trans {s t u : State} (h : LineHeld s t) (h' : LineHeld t u) : LineHeld s u := by
  refine ⟨fun ha => h'.asserted (h.asserted ha), fun hp => h'.pin (h.pin hp), fun hs hu => ?_⟩
  cases ht : t.on F.CMP_FLSTAT_ASSERTED with
  | true => exact h'.pin (h.fresh hs ht)
  | false => exact h'.fresh ht hu

theorem LineHeld.of_same {s t : State} (hon : t.on F.CMP_FLSTAT_ASSERTED = s.on F.CMP_FLSTAT_ASSERTED) (hpins : t.pins = s.pins) :
    LineHeld s t := ⟨fun h => hon.trans h, fun h => by rw [hpins]; exact h, fun h h' => by rw [hon, h] at h'; exact absurd h' (by decide)⟩

theorem lineHeld_driveCode (s : State) (k b : Nat) : LineHeld s (s.driveCode k b) := by
  refine ⟨fun _ => driveCode_asserted s k b, fun h => ?_, fun h _ => ?_⟩
  · rw [driveCode_pins]
    show (if _ then s.pins.fltN else true) = true
    rw [h, ite_self]
  · rw [driveCode_pins, h]
    rfl

theorem lineHeld_applyIf {s : State} (c : Bool) {f : State → State} (h : LineHeld s (f s)) : LineHeld s (s.applyIf c f) := by
  unfold State.applyIf
  split
  · exact h
  · exact .refl s

theorem lineHeld_setTrips {f : Fld} (hf : f ∈ tripMaps) (k : Nat) (v : Bool) (l : List Nat) (s : State) :
    LineHeld s (l.foldl (fun s i => s.setTrip f k i v) s) := by
  have hmask : ∀ f ∈ tripMaps, (arrayMask f).testBit (wordBit F.CMP_FLSTAT_ASSERTED.addr) = false ∧ (arrayMask f).testBit 5 = false := by
    decide +kernel
  refine foldl_keeps (LineHeld s) (fun t i ht => ht.trans ?_) l (.refl s)
  have h := alters_setTrip t f k i v (sub_refl _) (alters_refl _ t)
  exact .of_same (h.on _ (hmask f hf).1) (h.pins (hmask f hf).2)

theorem lineHeld_gatedTripDie (s : State) (k : Nat) : LineHeld s (s.gatedTripDie k) := by
  unfold State.gatedTripDie
  exact ((lineHeld_setTrips (by decide) k true _ s).trans (lineHeld_setTrips (by decide) k true _ _)).trans
    ((lineHeld_applyIf _ (lineHeld_driveCode _ k 0)).trans (lineHeld_applyIf _ (lineHeld_driveCode _ k 1)))

/-- What a trip of another die leaves of what decides about a die. -/
structure SameDue (k : Nat) (s t : State) : Prop where
  conf : t.get F.CMP_GCONF_CONF = s.get F.CMP_GCONF_CONF
  excluded : ∀ i, t.excluded k i = s.excluded k i
  ov : (t.die k).ovCount = (s.die k).ovCount
  uv : (t.die k).uvCount = (s.die k).uvCount

theorem SameDue.trans {k : Nat} {s t u : State} (h : SameDue k s t) (h' : SameDue k t u) : SameDue k s u :=
  ⟨h'.conf.trans h.conf, fun i => (h'.excluded i).trans (h.excluded i), h'.ov.trans h.ov, h'.uv.trans h.uv⟩

theorem SameDue.refl (k : Nat) (s : State) : SameDue k s s := ⟨rfl, fun _ => rfl, rfl, rfl⟩

theorem SameDue.due {k : Nat} {s t : State} (h : SameDue k s t) :
    t.gatedDue k (t.die k).ovCount = s.gatedDue k (s.die k).ovCount ∧ t.gatedDue k (t.die k).uvCount = s.gatedDue k (s.die k).uvCount := by
  unfold State.gatedDue
  rw [h.conf, h.ov, h.uv]
  simp only [h.excluded, and_self]

theorem sameDue_driveCode (s : State) (j b k : Nat) : SameDue k s (s.driveCode j b) := by
  refine ⟨(altersOf (alters_driveCode s j b)).get _ (by decide +kernel), excluded_driveCode s j b k, ?_, ?_⟩
  · rw [driveCode_die]
    split <;> rfl
  · rw [driveCode_die]
    split <;> rfl

theorem sameDue_applyIf {k : Nat} {s : State} (c : Bool) {f : State → State} (h : SameDue k s (f s)) : SameDue k s (s.applyIf c f) := by
  unfold State.applyIf
  split
  · exact h
  · exact .refl k s

theorem sameDue_setTrips {f : Fld} (hf : f ∈ tripMaps) (j k : Nat) (v : Bool) (l : List Nat) (s : State) :
    SameDue k s (l.foldl (fun s i => s.setTrip f j i v) s) := by
  have hmask : ∀ f ∈ tripMaps, (arrayMask f).testBit (wordBit F.CMP_GCONF_CONF.addr) = false ∧
      (arrayMask f).testBit (wordBit F.PRT_STAT_AUX.addr) = false ∧ (exclusionWords.all fun b => !(arrayMask f).testBit b) = true := by
    decide +kernel
  refine foldl_keeps (SameDue k s) (fun t i ht => ht.trans ?_) l (.refl k s)
  have h := alters_setTrip t f j i v (sub_refl _) (alters_refl _ t)
  obtain ⟨hconf, haux, hex⟩ := hmask f hf
  have hdie := die_of_dieSt (show (t.setTrip f j i v).dieSt = t.dieSt from State.set_dieSt ..) k
  exact ⟨h.get _ hconf, excluded_of_alters h (h.get _ haux) hex k, by rw [hdie], by rw [hdie]⟩

theorem sameDue_gatedTripDie (s : State) (j k : Nat) : SameDue k s (s.gatedTripDie j) := by
  unfold State.gatedTripDie
  exact ((sameDue_setTrips (by decide) j k true _ s).trans (sameDue_setTrips (by decide) j k true _ _)).trans
    ((sameDue_applyIf _ (sameDue_driveCode _ j 0 k)).trans (sameDue_applyIf _ (sameDue_driveCode _ j 1 k)))

theorem asserted_applyIf {s : State} {c : Bool} {f : State → State} (hf : (f s).on F.CMP_FLSTAT_ASSERTED = true)
    (h : c = true ∨ s.on F.CMP_FLSTAT_ASSERTED = true) : (s.applyIf c f).on F.CMP_FLSTAT_ASSERTED = true := by
  unfold State.applyIf
  split
  · exact hf
  next hc => exact h.resolve_left hc

/-- The die of a cell whose count has reached CONF trips the line. -/
theorem gatedTripDie_trips {s : State} {k i : Nat} (hk : k < 8) (hi : i < 64) (hex : s.excluded k i = false) :
    (s.get F.CMP_GCONF_CONF ≤ countOf (s.die k).ovCount i → (s.gatedTripDie k).tripBit F.CMP_GOVT_TRIP k i = true) ∧
    (s.get F.CMP_GCONF_CONF ≤ countOf (s.die k).uvCount i → (s.gatedTripDie k).tripBit F.CMP_GUVT_TRIP k i = true) ∧
    ((s.get F.CMP_GCONF_CONF ≤ countOf (s.die k).ovCount i ∨ s.get F.CMP_GCONF_CONF ≤ countOf (s.die k).uvCount i) →
      (s.gatedTripDie k).on F.CMP_FLSTAT_ASSERTED = true) := by
  have hdue : ∀ l, s.get F.CMP_GCONF_CONF ≤ countOf l i → i ∈ s.gatedDue k l := fun l h => by
    refine List.mem_filter.mpr ⟨List.mem_range.mpr hi, ?_⟩
    rw [decide_eq_true h, hex]
    rfl
  have hlt : ∀ l, ∀ j ∈ s.gatedDue k l, j < 64 := fun l j hj => List.mem_range.mp (List.mem_filter.mp hj).1
  have hsome : ∀ l, s.get F.CMP_GCONF_CONF ≤ countOf l i → (!(s.gatedDue k l).isEmpty) = true := fun l h => by
    rw [List.isEmpty_eq_false_iff.mpr (List.ne_nil_of_mem (hdue l h))]
    rfl
  unfold State.gatedTripDie
  refine ⟨fun h => ?_, fun h => ?_, fun h => ?_⟩
  · rw [tripBit_applyIf_driveCode (by decide), tripBit_applyIf_driveCode (by decide)]
    exact tripBits_keep (by decide) (by decide) k _ (tripBits_set (by decide) hk hi _ (hdue _ h) (hlt _) s)
  · rw [tripBit_applyIf_driveCode (by decide), tripBit_applyIf_driveCode (by decide)]
    exact tripBits_set (by decide) hk hi _ (hdue _ h) (hlt _) _
  · refine asserted_applyIf (driveCode_asserted _ k 1) ?_
    rcases h with h | h
    · exact .inr (asserted_applyIf (driveCode_asserted _ k 0) (.inl (hsome _ h)))
    · exact .inl (hsome _ h)

theorem execGatedTrip_claim (k i : Nat) (s : State) : Claims.gatedTrip k i s := by
  intro hrun hk hk8 hi hex hcount
  have hline : LineHeld s (s.dieList.foldl State.gatedTripDie s) :=
    foldl_keeps (LineHeld s) (fun t j ht => ht.trans (lineHeld_gatedTripDie t j)) _ (.refl s)
  obtain ⟨hov, huv, hasserted⟩ := foldl_once (b := k) (f := State.gatedTripDie) (I := SameDue k s)
    (J := fun t => (s.get F.CMP_GCONF_CONF ≤ countOf (s.die k).ovCount i → t.tripBit F.CMP_GOVT_TRIP k i = true) ∧
      (s.get F.CMP_GCONF_CONF ≤ countOf (s.die k).uvCount i → t.tripBit F.CMP_GUVT_TRIP k i = true) ∧
      t.on F.CMP_FLSTAT_ASSERTED = true)
    s.dieList List.nodup_range (mem_dieList.mpr hk) (fun t j _ _ ht => ht.trans (sameDue_gatedTripDie t j k))
    (fun t ht => by
      obtain ⟨h1, h2, h3⟩ := gatedTripDie_trips (s := t) hk8 hi ((ht.excluded i).trans hex)
      rw [ht.conf, ht.ov] at h1
      rw [ht.conf, ht.uv] at h2
      rw [ht.conf, ht.ov, ht.uv] at h3
      exact ⟨h1, h2, h3 hcount⟩)
    (fun t j _ _ ht => ⟨fun h => gatedTripDie_keeps (by decide) j (ht.1 h), fun h => gatedTripDie_keeps (by decide) j (ht.2.1 h),
      (lineHeld_gatedTripDie t j).asserted ht.2.2⟩) (.refl k s)
  exact ⟨_, execGatedTrip_eq hrun, hov, huv, hasserted, fun h => hline.fresh h hasserted⟩

/-! ### The absolute comparators -/

/-- The trips of an absolute comparator, as it sees a voltage. -/
def State.absOv (s : State) (k i : Nat) (v : Int) : Bool :=
  decide ((s.absLimits k i).1 < v) || (s.tripBit F.CMP_AOVT_TRIP k i && decide ((s.absLimits k i).1 - 50000 ≤ v))
def State.absUv (s : State) (k i : Nat) (v : Int) : Bool :=
  decide (v < (s.absLimits k i).2.1) || (s.tripBit F.CMP_AUVT_TRIP k i && decide (v ≤ (s.absLimits k i).2.1 + 50000))

/-- The trip bits of an absolute comparator are shown. -/
def State.absShown (s : State) (k i : Nat) (v : Int) : State :=
  (s.setTrip F.CMP_AOVT_TRIP k i (s.absOv k i v)).setTrip F.CMP_AUVT_TRIP k i (s.absUv k i v)

theorem execAbsoluteTrip_eq {s : State} {k i : Nat} (hk : k < s.dies) (hi : i < 64) (v : Int) : exec (.absoluteTrip k i v) s =
    if (s.absLimits k i).2.2 then .next ((s.absShown k i v).applyIf ((s.absOv k i v || s.absUv k i v) && (s.absShown k i v).inUse k i &&
      !((s.absShown k i v).harness k && (s.absShown k i v).mainOpen)) fun s => s.driveCode k 4)
    else if (s.absShown k i v).excluded k i then .next (s.absShown k i v)
    else .next (((s.absShown k i v).applyIf (s.absOv k i v) fun s => s.driveCode k 2).applyIf (s.absUv k i v) fun s => s.driveCode k 3) := by
  show execAbsoluteTrip k i v s = _
  unfold execAbsoluteTrip
  rw [if_pos ⟨hk, hi⟩]
  rfl

theorem absShown_bits {s : State} {k i : Nat} (hk : k < 8) (hi : i < 64) (v : Int) :
    (s.absShown k i v).tripBit F.CMP_AOVT_TRIP k i = s.absOv k i v ∧ (s.absShown k i v).tripBit F.CMP_AUVT_TRIP k i = s.absUv k i v := by
  have hne : F.CMP_AUVT_TRIP ≠ F.CMP_AOVT_TRIP := by decide
  unfold State.absShown
  refine ⟨?_, ?_⟩
  · rw [tripBit_setTrip (by decide) (by decide) hk hi hk hi, if_neg (fun h => hne h.1), tripBit_setTrip (by decide) (by decide) hk hi hk hi,
      if_pos ⟨rfl, rfl, rfl⟩]
  · rw [tripBit_setTrip (by decide) (by decide) hk hi hk hi, if_pos ⟨rfl, rfl, rfl⟩]

theorem absShown_held (s : State) (k i : Nat) (v : Int) : LineHeld s (s.absShown k i v) ∧ (s.absShown k i v).excluded k i = s.excluded k i := by
  have hmask : ∀ f ∈ tripMaps, (arrayMask f).testBit (wordBit F.PRT_STAT_AUX.addr) = false ∧
      (exclusionWords.all fun b => !(arrayMask f).testBit b) = true := by decide +kernel
  have hex : ∀ (u : State) (f : Fld), f ∈ tripMaps → ∀ x, (u.setTrip f k i x).excluded k i = u.excluded k i := fun u f hf x => by
    have h := alters_setTrip u f k i x (sub_refl _) (alters_refl _ u)
    exact excluded_of_alters h (h.get _ (hmask f hf).1) (hmask f hf).2 k i
  unfold State.absShown
  exact ⟨(lineHeld_setTrips (by decide) k _ [i] s).trans (lineHeld_setTrips (by decide) k _ [i] _),
    (hex _ _ (by decide) _).trans (hex _ _ (by decide) _)⟩

theorem execAbsoluteTrip_claim (k i : Nat) (v : Int) (s : State) : Claims.absoluteTrip k i v s := by
  intro hk hk8 hi
  have hexec := execAbsoluteTrip_eq hk hi v
  obtain ⟨hovBit, huvBit⟩ := absShown_bits (s := s) hk8 hi v
  obtain ⟨hheld, hexcl⟩ := absShown_held s k i v
  have hover : (s.absLimits k i).1 < v → s.absOv k i v = true := fun h => by
    unfold State.absOv
    rw [decide_eq_true h, Bool.true_or]
  have hunder : v < (s.absLimits k i).2.1 → s.absUv k i v = true := fun h => by
    unfold State.absUv
    rw [decide_eq_true h, Bool.true_or]
  have hnotOver : v < (s.absLimits k i).1 - 50000 → s.absOv k i v = false := fun h => by
    unfold State.absOv
    rw [decide_eq_false (by omega), decide_eq_false (by omega), Bool.and_false, Bool.or_false]
  have hnotUnder : (s.absLimits k i).2.1 + 50000 < v → s.absUv k i v = false := fun h => by
    unfold State.absUv
    rw [decide_eq_false (by omega), decide_eq_false (by omega), Bool.and_false, Bool.or_false]
  have hgoal : ∀ t : State, exec (.absoluteTrip k i v) s = .next t → (∀ f ∈ tripMaps, t.tripBit f k i = (s.absShown k i v).tripBit f k i) →
      LineHeld (s.absShown k i v) t →
      (s.excluded k i = false → (s.absOv k i v || s.absUv k i v) = true → t.on F.CMP_FLSTAT_ASSERTED = true) →
      Claims.absoluteTrip k i v s := fun t ht hbits hline hasserts _ _ _ => by
    have hov := (hbits F.CMP_AOVT_TRIP (by decide)).trans hovBit
    have huv := (hbits F.CMP_AUVT_TRIP (by decide)).trans huvBit
    refine ⟨t, ht, fun h => hov.trans (hover h), fun h => hov.trans (hnotOver h), fun h => huv.trans (hunder h),
      fun h => huv.trans (hnotUnder h), fun hex hlim => ?_⟩
    have hany : (s.absOv k i v || s.absUv k i v) = true := by
      rcases hlim with h | h
      · rw [hover h, Bool.true_or]
      · rw [hunder h, Bool.or_true]
    exact ⟨hasserts hex hany, fun hoff => (hheld.trans hline).fresh hoff (hasserts hex hany)⟩
  refine hgoal (if (s.absLimits k i).2.2 then (s.absShown k i v).applyIf ((s.absOv k i v || s.absUv k i v) && (s.absShown k i v).inUse k i &&
      !((s.absShown k i v).harness k && (s.absShown k i v).mainOpen)) fun s => s.driveCode k 4
    else if (s.absShown k i v).excluded k i then s.absShown k i v
    else ((s.absShown k i v).applyIf (s.absOv k i v) fun s => s.driveCode k 2).applyIf (s.absUv k i v) fun s => s.driveCode k 3) ?_ ?_ ?_ ?_ hk hk8 hi
  · rw [hexec]
    split
    · rfl
    · split <;> rfl
  · intro f hf
    split
    · exact tripBit_applyIf_driveCode hf ..
    · split
      · rfl
      · rw [tripBit_applyIf_driveCode hf, tripBit_applyIf_driveCode hf]
  · split
    · exact lineHeld_applyIf _ (lineHeld_driveCode _ k 4)
    · split
      · exact .refl _
      · exact (lineHeld_applyIf _ (lineHeld_driveCode _ k 2)).trans (lineHeld_applyIf _ (lineHeld_driveCode _ k 3))
  · intro hex hany
    rw [← hexcl] at hex
    split
    · refine asserted_applyIf (driveCode_asserted _ k 4) (.inl ?_)
      unfold State.excluded at hex
      simp only [Bool.or_eq_false_iff, Bool.not_eq_false'] at hex
      rw [hany, hex.1.1, hex.2]
      rfl
    · rw [if_neg (by rw [hex]; decide)]
      refine asserted_applyIf (driveCode_asserted _ k 3) ?_
      cases huv : s.absUv k i v with
      | true => exact .inl rfl
      | false =>
        rw [huv, Bool.or_false] at hany
        exact .inr (asserted_applyIf (driveCode_asserted _ k 2) (.inl hany))

/-! ### The self-test of the gated and absolute comparators -/

/-- The die after the self-test of one of its comparators. -/
def DieSt.tested (d : DieSt) (c : Nat) (fails : Bool) : DieSt :=
  { d with
    ctFailed := if fails then c :: d.ctFailed.filter (· != c) else d.ctFailed.filter (· != c)
    ctConfirmed := if fails && (d.ctFailed.contains c || d.ctConfirmed.contains c) then c :: d.ctConfirmed.filter (· != c)
      else d.ctConfirmed.filter (· != c) }

theorem dieSt_ctestCount (u : State) (b : Bool) : (u.applyIf b fun s =>
    (s.count F.CMP_CTEST_FAILS).flagEvent F.CMP_IFLAG_CTEST 2 [F.CMP_CTEST_FAILS.addr]).dieSt = u.dieSt := by
  unfold State.applyIf
  split
  · rw [State.flagEvent_dieSt, State.count_dieSt]
  · rfl

theorem selfTestOne_die (s : State) (k c j : Nat) (fails : Bool) : (s.selfTestOne k c fails).die j =
    if k = j ∧ j < s.dieSt.length then (s.die j).tested c fails else s.die j := by
  unfold State.selfTestOne
  dsimp only
  rw [die_of_dieSt (dieSt_ctestCount _ _), State.die_onDie]
  split
  next h =>
    obtain ⟨rfl, -⟩ := h
    rfl
  next => rfl

theorem selfTestOne_len (s : State) (k c : Nat) (fails : Bool) : (s.selfTestOne k c fails).dieSt.length = s.dieSt.length := by
  unfold State.selfTestOne
  dsimp only
  rw [dieSt_ctestCount, onDie_len]

/-- What the test of comparator `c` leaves, with `was` the failures known before it. -/
structure DieSt.Judged (d : DieSt) (c : Nat) (fails was : Bool) : Prop where
  failed : fails = true → c ∈ d.ctFailed
  passed : fails = false → c ∉ d.ctFailed ∧ c ∉ d.ctConfirmed
  confirmed : fails = true → was = true → c ∈ d.ctConfirmed

theorem judged_tested (d : DieSt) (c : Nat) (fails : Bool) : (d.tested c fails).Judged c fails (d.ctFailed.contains c) := by
  unfold DieSt.tested
  cases fails with
  | true => exact ⟨fun _ => List.mem_cons_self, nofun, fun _ h => by rw [h]; exact List.mem_cons_self⟩
  | false => exact ⟨nofun, fun _ => ⟨by simp, by simp⟩, nofun⟩

/-- The test of another comparator leaves whether a comparator is known as failed, and as confirmed. -/
theorem mem_tested_other {b c : Nat} (h : b ≠ c) (d : DieSt) (fails : Bool) :
    (b ∈ (d.tested c fails).ctFailed ↔ b ∈ d.ctFailed) ∧ (b ∈ (d.tested c fails).ctConfirmed ↔ b ∈ d.ctConfirmed) := by
  unfold DieSt.tested
  dsimp only
  refine ⟨?_, ?_⟩
  · split <;> simp [h]
  · split <;> simp [h]

theorem Judged.tested_other {b c : Nat} (h : b ≠ c) {d : DieSt} {fails was : Bool} (hd : d.Judged b fails was) (x : Bool) :
    (d.tested c x).Judged b fails was := by
  obtain ⟨hf, hc⟩ := mem_tested_other h d x
  exact ⟨fun e => hf.mpr (hd.failed e), fun e => ⟨fun m => (hd.passed e).1 (hf.mp m), fun m => (hd.passed e).2 (hc.mp m)⟩,
    fun e w => hc.mpr (hd.confirmed e w)⟩

/-- The self-test of the four comparators of cell `i` of a die. -/
def State.selfTestCell (s : State) (k i : Nat) (failing : List Nat) : State :=
  (List.range 4).foldl (fun (s : State) c => s.selfTestOne k (4 * i + c) (failing.contains (4 * k + c))) s

theorem selfTestCell_len (s : State) (k i : Nat) (failing : List Nat) : (s.selfTestCell k i failing).dieSt.length = s.dieSt.length :=
  foldl_keeps (fun t : State => t.dieSt.length = s.dieSt.length) (fun t c ht => (selfTestOne_len t k (4 * i + c) _).trans ht) _ rfl

theorem selfTestCell_other {j k : Nat} (h : j ≠ k) (s : State) (i : Nat) (failing : List Nat) :
    (s.selfTestCell j i failing).die k = s.die k :=
  foldl_keeps (fun t : State => t.die k = s.die k)
    (fun t c ht => by rw [selfTestOne_die, if_neg (fun hc => h hc.1)]; exact ht) _ rfl

theorem selfTestCell_judged {s : State} {k c : Nat} (hk : k < s.dieSt.length) (hc : c < 4) (i : Nat) (failing : List Nat) :
    ((s.selfTestCell k i failing).die k).Judged (4 * i + c) (failing.contains (4 * k + c)) ((s.die k).ctFailed.contains (4 * i + c)) := by
  refine (foldl_once (b := c) (f := fun (s : State) c => s.selfTestOne k (4 * i + c) (failing.contains (4 * k + c)))
    (I := fun t => t.dieSt.length = s.dieSt.length ∧ (4 * i + c ∈ (t.die k).ctFailed ↔ 4 * i + c ∈ (s.die k).ctFailed))
    (J := fun t => t.dieSt.length = s.dieSt.length ∧
      (t.die k).Judged (4 * i + c) (failing.contains (4 * k + c)) ((s.die k).ctFailed.contains (4 * i + c)))
    (List.range 4) List.nodup_range (List.mem_range.mpr hc) ?_ ?_ ?_ ⟨rfl, Iff.rfl⟩).2
  · rintro t e - he ⟨hlen, hmem⟩
    refine ⟨(selfTestOne_len ..).trans hlen, ?_⟩
    rw [selfTestOne_die, if_pos ⟨rfl, by rw [hlen]; exact hk⟩]
    exact ((mem_tested_other (by omega) _ _).1).trans hmem
  · rintro t ⟨hlen, hmem⟩
    refine ⟨(selfTestOne_len ..).trans hlen, ?_⟩
    rw [selfTestOne_die, if_pos ⟨rfl, by rw [hlen]; exact hk⟩]
    have hwas : (s.die k).ctFailed.contains (4 * i + c) = (t.die k).ctFailed.contains (4 * i + c) := by
      rw [Bool.eq_iff_iff, List.contains_iff_mem, List.contains_iff_mem]
      exact hmem.symm
    rw [hwas]
    exact judged_tested _ _ _
  · rintro t e - he ⟨hlen, hj⟩
    refine ⟨(selfTestOne_len ..).trans hlen, ?_⟩
    rw [selfTestOne_die, if_pos ⟨rfl, by rw [hlen]; exact hk⟩]
    exact Judged.tested_other (by omega) hj _

/-- The die goes on to the cell behind `i`. -/
def State.testedUpTo (s : State) (k i : Nat) (failing : List Nat) : State :=
  (s.selfTestCell k i failing).onDie k fun d => { d with ctNext := (i + 1) % 64 }

theorem testedUpTo_len (s : State) (k i : Nat) (failing : List Nat) : (s.testedUpTo k i failing).dieSt.length = s.dieSt.length :=
  (onDie_len ..).trans (selfTestCell_len ..)

theorem testedUpTo_other {j k : Nat} (h : j ≠ k) (s : State) (i : Nat) (failing : List Nat) : (s.testedUpTo j i failing).die k = s.die k := by
  unfold State.testedUpTo
  rw [State.die_onDie, if_neg (fun hc => h hc.1), selfTestCell_other h]

theorem testedUpTo_die {s : State} {k : Nat} (hk : k < s.dieSt.length) (i : Nat) (failing : List Nat) :
    (s.testedUpTo k i failing).die k = { (s.selfTestCell k i failing).die k with ctNext := (i + 1) % 64 } := by
  unfold State.testedUpTo
  rw [State.die_onDie, if_pos ⟨rfl, by rw [selfTestCell_len]; exact hk⟩]

theorem selfTestDie_eq {s : State} {k i : Nat} (h : s.testCell k = some i) (failing : List Nat) : s.selfTestDie k failing =
    (s.testedUpTo k i failing).set F.CMP_CTEST_DIES (withBit ((s.testedUpTo k i failing).get F.CMP_CTEST_DIES) k
      (!((s.testedUpTo k i failing).die k).ctConfirmed.isEmpty)) := by
  unfold State.selfTestDie
  rw [h]
  rfl

theorem selfTestDie_len (s : State) (k : Nat) (failing : List Nat) : (s.selfTestDie k failing).dieSt.length = s.dieSt.length := by
  cases h : s.testCell k with
  | none =>
    unfold State.selfTestDie
    rw [h]
  | some i => rw [selfTestDie_eq h, State.set_dieSt, testedUpTo_len]

theorem selfTestDie_other {j k : Nat} (hne : j ≠ k) (s : State) (failing : List Nat) : (s.selfTestDie j failing).die k = s.die k := by
  cases h : s.testCell j with
  | none =>
    unfold State.selfTestDie
    rw [h]
  | some i => rw [selfTestDie_eq h, die_of_dieSt (State.set_dieSt ..), testedUpTo_other hne]

/-- The bit of another die in CMP_CTEST.DIES stays. -/
theorem selfTestDie_bit_other {j k : Nat} (hne : j ≠ k) (hk : k < 8) (s : State) (failing : List Nat) :
    bit ((s.selfTestDie j failing).get F.CMP_CTEST_DIES) k = bit (s.get F.CMP_CTEST_DIES) k := by
  have hcell : ∀ i, (s.selfTestCell j i failing).get F.CMP_CTEST_DIES = s.get F.CMP_CTEST_DIES := fun i =>
    foldl_keeps (fun t : State => t.get F.CMP_CTEST_DIES = s.get F.CMP_CTEST_DIES) (fun t c ht => by
      refine Eq.trans ?_ ht
      have honDie : ∀ f : DieSt → DieSt, (t.onDie j f).get F.CMP_CTEST_DIES = t.get F.CMP_CTEST_DIES := fun _ => rfl
      unfold State.selfTestOne State.applyIf
      dsimp only
      split
      · rw [State.get_flagEvent_leaves (by decide), State.get_count_leaves (by decide), honDie]
      · exact honDie _) _ rfl
  cases h : s.testCell j with
  | none =>
    unfold State.selfTestDie
    rw [h]
  | some i =>
    rw [selfTestDie_eq h, State.get_set_same _ _ _ (Fld.ok_of_okay (by decide)), bit_eq_testBit, Nat.testBit_mod_two_pow,
      decide_eq_true (show k < F.CMP_CTEST_DIES.hi + 1 - F.CMP_CTEST_DIES.lo from hk), Bool.true_and, ← bit_eq_testBit, bit_withBit, if_neg (Ne.symm hne)]
    exact congrArg (fun v => bit v k) (hcell i)

/-- What the self-test of comparator `c` of cell `i` of die `k` leaves. -/
structure TestShown (k i c : Nat) (fails was : Bool) (t : State) : Prop where
  next : (t.die k).ctNext = (i + 1) % 64
  judged : (t.die k).Judged (4 * i + c) fails was
  shown : fails = true → was = true → bit (t.get F.CMP_CTEST_DIES) k = true

theorem selfTestDie_shown {s : State} {k i c : Nat} (hk : k < s.dieSt.length) (hk8 : k < 8) (hi : s.testCell k = some i) (hc : c < 4)
    (failing : List Nat) :
    TestShown k i c (failing.contains (4 * k + c)) ((s.die k).ctFailed.contains (4 * i + c)) (s.selfTestDie k failing) := by
  have hj := selfTestCell_judged hk hc i failing
  have hdie : (s.selfTestDie k failing).die k = { (s.selfTestCell k i failing).die k with ctNext := (i + 1) % 64 } := by
    rw [selfTestDie_eq hi, die_of_dieSt (State.set_dieSt ..), testedUpTo_die hk]
  refine ⟨by rw [hdie], by rw [hdie]; exact ⟨hj.failed, hj.passed, hj.confirmed⟩, fun hf hw => ?_⟩
  rw [selfTestDie_eq hi, bit_get_set_withBit (by decide) (by exact hk8), testedUpTo_die hk]
  have hmem := hj.confirmed hf hw
  rw [Bool.not_eq_true', List.isEmpty_eq_false_iff_exists_mem]
  exact ⟨_, hmem⟩

/-- What the self-test of other dies leaves of what the test of a die looks at. -/
structure SameTested (k : Nat) (s t : State) : Prop where
  len : t.dieSt.length = s.dieSt.length
  excluded : ∀ i, t.excluded k i = s.excluded k i
  sampling : ∀ j, t.sampling j = s.sampling j
  now : t.now = s.now

theorem sameTested_selfTestDie (s : State) (j k : Nat) (failing : List Nat) : SameTested k s (s.selfTestDie j failing) := by
  have h := altersOf (alters_selfTestDie s j failing)
  exact ⟨selfTestDie_len .., excluded_of_alters h (h.get _ (by decide +kernel)) (by decide +kernel) k,
    fun n => sampling_of_alters h n (by decide +kernel) (by decide +kernel) (by decide +kernel), h.now (by decide +kernel)⟩

theorem execComparatorSelfTest_claim (failing : List Nat) (k i c : Nat) (s : State) : Claims.comparatorSelfTest failing k i c s := by
  intro hrun hquiet hsh hk hk8 hs hi hc
  obtain ⟨hlen, -⟩ := hsh
  generalize hu : s.advanceTo (s.thy.boundary + s.period * 3 / 4) = u
  have hexec : exec (.comparatorSelfTest failing) s =
      .next (u.dieList.foldl (fun (t : State) k => if t.sampling k then t.selfTestDie k failing else t) u) := by
    show execComparatorSelfTest failing s = _
    unfold execComparatorSelfTest
    rw [if_pos (by rw [hrun, hquiet]; rfl), hu]
  have hlist : k ∈ u.dieList := by
    rw [← hu]
    exact mem_dieList.mpr hk
  have hulen : k < u.dieSt.length := by
    rw [← hu]
    exact Nat.lt_of_lt_of_eq hk8 hlen.symm
  have hus : u.sampling k = true := by rw [← hu]; exact hs
  have hui : u.testCell k = some i := by rw [← hu]; exact hi
  have hdies : ∀ j, u.die j = s.die j := fun j => by rw [← hu]; rfl
  have hnow : u.now = max s.now (s.thy.boundary + s.period * 3 / 4) := by rw [← hu]; rfl
  obtain ⟨htnow, htest⟩ := foldl_once (b := k) (f := fun (t : State) k => if t.sampling k then t.selfTestDie k failing else t)
    (I := fun t => t.now = u.now ∧ t.dieSt.length = u.dieSt.length ∧ (∀ n, t.excluded k n = u.excluded k n) ∧
      t.sampling k = u.sampling k ∧ t.die k = u.die k)
    (J := fun t => t.now = u.now ∧
      TestShown k i c (failing.contains (4 * k + c)) ((u.die k).ctFailed.contains (4 * i + c)) t)
    u.dieList List.nodup_range hlist
    (fun t j _ hj ht => by
      obtain ⟨h1, h2, h3, h4, h5⟩ := ht
      split
      · have hsame := sameTested_selfTestDie t j k failing
        exact ⟨hsame.now.trans h1, hsame.len.trans h2, fun n => (hsame.excluded n).trans (h3 n), (hsame.sampling k).trans h4,
          (selfTestDie_other hj t failing).trans h5⟩
      · exact ⟨h1, h2, h3, h4, h5⟩)
    (fun t ht => by
      obtain ⟨h1, h2, h3, h4, h5⟩ := ht
      rw [if_pos (h4.trans hus), ← h5]
      exact ⟨(sameTested_selfTestDie t k k failing).now.trans h1,
        selfTestDie_shown (by rw [h2]; exact hulen) hk8 ((testCell_of_die h5 h3).trans hui) hc failing⟩)
    (fun t j _ hj ht => by
      split
      · refine ⟨(sameTested_selfTestDie t j k failing).now.trans ht.1, ?_⟩
        obtain ⟨h1, h2, h3⟩ := ht.2
        exact ⟨by rw [selfTestDie_other hj]; exact h1, by rw [selfTestDie_other hj]; exact h2,
          fun hf hw => (selfTestDie_bit_other hj hk8 t failing).trans (h3 hf hw)⟩
      · exact ht) ⟨rfl, rfl, fun _ => rfl, rfl, rfl⟩
  obtain ⟨hnext, hjudged, hshown⟩ := htest
  rw [hdies] at hjudged hshown
  refine ⟨_, hexec, hnext, htnow.trans hnow, fun h => hjudged.failed (List.contains_iff_mem.mpr h), fun h => hjudged.passed ?_, fun h hw =>
    ⟨hjudged.confirmed (List.contains_iff_mem.mpr h) (List.contains_iff_mem.mpr hw), hshown (List.contains_iff_mem.mpr h)
      (List.contains_iff_mem.mpr hw)⟩⟩
  rw [← Bool.not_eq_true, List.contains_iff_mem]
  exact h

/-! ### The fast overcurrent comparator -/

/-- A side of the fast comparator, as it sees a value beside its threshold. -/
def fastAbove (th x : Int) (now : Bool) : Bool := decide (th < x) || (now && decide (th * 95 ≤ x * 100))

/-- The fast comparator as its two sides show. -/
def State.fastShown (s : State) (d c : Bool) : State :=
  ({ s with cur := { s.cur with ocDis := d, ocChg := c } } : State).setOn F.CUR_PSTAT_OCTRIP (d || c)

/-- A fresh trip of the fast comparator. -/
def State.fastTripped (s : State) : State :=
  (({ s with cur := { s.cur with ocTrips := satAdd s.cur.ocTrips 1 65535 } } : State).flag F.CUR_IFLAG_OC).driveCode 0 5

theorem execFastOcTrip_eq {s : State} (h : s.sampling 0 = true) (u : Int) {d c : Bool}
    (hd : d = fastAbove (s.get F.CUR_OCTH_DIS * s.get F.CUR_SHUNT_R * 10) u s.cur.ocDis)
    (hc : c = fastAbove (s.get F.CUR_OCTH_CHG * s.get F.CUR_SHUNT_R * 10) (-u) s.cur.ocChg) :
    exec (.fastOcTrip u) s = .next ((s.fastShown d c).applyIf ((d && !s.cur.ocDis) || (c && !s.cur.ocChg)) State.fastTripped) := by
  subst hd hc
  show execFastOcTrip u s = _
  unfold execFastOcTrip
  rw [if_pos h]
  rfl

theorem fastTripped_cur (s : State) : s.fastTripped.cur = { s.cur with ocTrips := satAdd s.cur.ocTrips 1 65535 } := by
  unfold State.fastTripped
  rw [(altersOf (alters_driveCode _ 0 5)).cur (by decide +kernel), State.flag_cur]

theorem fastTripped_held (s : State) : LineHeld s s.fastTripped ∧ s.fastTripped.on F.CMP_FLSTAT_ASSERTED = true := by
  refine ⟨?_, driveCode_asserted _ 0 5⟩
  unfold State.fastTripped
  refine LineHeld.trans (.of_same ?_ ?_) (lineHeld_driveCode _ 0 5)
  · rw [State.on_flag_leaves (by decide)]
    rfl
  · rw [State.flag_pins]

theorem fastTripped_flag (s : State) : s.fastTripped.on F.CUR_IFLAG_OC = true := by
  unfold State.fastTripped
  rw [(altersOf (alters_driveCode _ 0 5)).on F.CUR_IFLAG_OC (by decide +kernel)]
  exact State.on_flag_okay (by decide) _

theorem fastTripped_ocstat (s : State) : s.fastTripped.reg F.CUR_OCSTAT_DIS.addr = s.reg F.CUR_OCSTAT_DIS.addr := by
  unfold State.fastTripped
  rw [(altersOf (alters_driveCode _ 0 5)).reg _ (by decide +kernel)]
  exact (alters_flag (m := setMask F.CUR_IFLAG_OC) (sub_refl _) (alters_refl _ _)).reg _ (by decide +kernel)

theorem execFastOcTrip_claim (u : Int) (s : State) : Claims.fastOcTrip u s := by
  intro hs
  obtain ⟨d, hd⟩ : ∃ d, d = fastAbove (s.get F.CUR_OCTH_DIS * s.get F.CUR_SHUNT_R * 10) u s.cur.ocDis := ⟨_, rfl⟩
  obtain ⟨c, hc⟩ : ∃ c, c = fastAbove (s.get F.CUR_OCTH_CHG * s.get F.CUR_SHUNT_R * 10) (-u) s.cur.ocChg := ⟨_, rfl⟩
  have hexec := execFastOcTrip_eq hs u hd hc
  generalize ht : (s.fastShown d c).applyIf ((d && !s.cur.ocDis) || (c && !s.cur.ocChg)) State.fastTripped = t at hexec
  have habove : ∀ {th x : Int} {b : Bool}, th < x → fastAbove th x b = true := fun h => by
    unfold fastAbove
    rw [decide_eq_true h, Bool.true_or]
  have hbelow : ∀ {th x : Int} {b : Bool}, x * 100 < th * 95 → x ≤ th → fastAbove th x b = false := fun h h' => by
    unfold fastAbove
    rw [decide_eq_false (by omega), decide_eq_false (by omega), Bool.and_false, Bool.or_false]
  have hsides : t.cur.ocDis = d ∧ t.cur.ocChg = c := by
    rw [← ht]
    unfold State.applyIf
    split
    · rw [fastTripped_cur]
      unfold State.fastShown
      rw [State.setOn_cur]
      exact ⟨rfl, rfl⟩
    · unfold State.fastShown
      rw [State.setOn_cur]
      exact ⟨rfl, rfl⟩
  refine ⟨t, hexec, ?_⟩
  dsimp only
  refine ⟨fun h => ?_, fun h h' => ?_, fun h => ?_, fun h h' => ?_, fun h => ?_, ?_⟩
  · rw [hsides.1, hd]
    exact habove h
  · rw [hsides.1, hd]
    exact hbelow h h'
  · rw [hsides.2, hc]
    exact habove h
  · rw [hsides.2, hc]
    exact hbelow h h'
  · have hfresh : ((d && !s.cur.ocDis) || (c && !s.cur.ocChg)) = true := by
      rcases h with ⟨h, hb⟩ | ⟨h, hb⟩
      · rw [hd, habove h, hb]
        rfl
      · rw [hc, habove h, hb]
        exact Bool.or_true _
    have htrip : t = (s.fastShown d c).fastTripped := by
      rw [← ht]
      unfold State.applyIf
      rw [if_pos hfresh]
    obtain ⟨hheld, hasserted⟩ := fastTripped_held (s.fastShown d c)
    rw [htrip]
    refine ⟨fastTripped_flag _, ?_, hasserted, fun hoff => hheld.fresh (Eq.trans ?_ hoff) hasserted⟩
    · rw [fastTripped_cur]
      unfold State.fastShown
      rw [State.setOn_cur]
      rfl
    · unfold State.fastShown
      rw [State.on_setOn_leaves (by decide)]
      rfl
  · have hshown : (s.fastShown d c).reg F.CUR_OCSTAT_DIS.addr = s.reg F.CUR_OCSTAT_DIS.addr :=
      (alters_setOn (m := setMask F.CUR_PSTAT_OCTRIP) (sub_refl _) (alters_refl _ _)).reg _ (by decide +kernel)
    rw [← ht]
    unfold State.applyIf
    split
    · exact (fastTripped_ocstat _).trans hshown
    · exact hshown

/-- The fast comparator counts its failures in a row. -/
def State.ocCounted (s : State) (n : Nat) : State := { s with cur := { s.cur with ocFails := n } }

/-- A confirmed failure of the fast comparator. -/
def State.ocConfirmed (s : State) : State :=
  ({ s with cur := { s.cur with ocTfail := satAdd s.cur.ocTfail 1 255 } } : State).flagEvent F.CUR_IFLAG_OCTEST 2 [F.CUR_OCSTAT_TFAIL.addr]

theorem execOcSelfTest_eq {s : State} (hrun : s.running = true) (hs : s.sampling 0 = true) (pass : Bool) : exec (.ocSelfTest pass) s =
    .next (if (if pass then 0 else s.cur.ocFails + 1) = 2 then (s.ocCounted (if pass then 0 else s.cur.ocFails + 1)).ocConfirmed
      else s.ocCounted (if pass then 0 else s.cur.ocFails + 1)) := by
  show execOcSelfTest pass s = _
  unfold execOcSelfTest
  rw [if_pos (by rw [hrun, hs]; rfl)]
  unfold State.applyIf
  simp only [beq_iff_eq]
  rfl

theorem ocConfirmed_cur (s : State) : s.ocConfirmed.cur = { s.cur with ocTfail := satAdd s.cur.ocTfail 1 255 } := by
  unfold State.ocConfirmed
  rw [State.flagEvent_cur]

theorem execOcSelfTest_claim (pass : Bool) (s : State) : Claims.ocSelfTest pass s := by
  intro hrun hs
  have hexec := execOcSelfTest_eq hrun hs pass
  generalize hn : (if pass then 0 else s.cur.ocFails + 1) = n at hexec
  by_cases hconf : n = 2
  · rw [if_pos hconf] at hexec
    refine ⟨_, hexec, ?_, fun _ _ => ⟨?_, State.on_flagEvent_okay (f := F.CUR_IFLAG_OCTEST) (by decide) _ _ _, ?_⟩, fun h => ?_⟩
    · rw [ocConfirmed_cur]
      rfl
    · rw [ocConfirmed_cur]
      rfl
    · unfold State.ocConfirmed
      exact raised_flagEvent (by rfl) F.CUR_IFLAG_OCTEST 2 _
    · exfalso
      rcases h with h | h
      · rw [h, if_pos rfl] at hn
        omega
      · split at hn <;> omega
  · rw [if_neg hconf] at hexec
    refine ⟨_, hexec, rfl, fun hp hf => absurd ?_ hconf, fun _ => ⟨rfl, rfl⟩⟩
    rw [← hn, hp, hf]
    rfl

end Sys2Proof.Machine

/-- Settles O21: a gated evaluation and a trip touch a die once, which the passes over the other dies leave alone. -/
theorem comparators : Obligations.Comparators := by
  unfold Obligations.Comparators
  exact ⟨Sys2Proof.Machine.execGatedEval_claim, Sys2Proof.Machine.execGatedTrip_claim, Sys2Proof.Machine.execAbsoluteTrip_claim,
    Sys2Proof.Machine.execComparatorSelfTest_claim, Sys2Proof.Machine.execFastOcTrip_claim, Sys2Proof.Machine.execOcSelfTest_claim⟩

end

section
/-! SUPPORT. What opening the balancing switches of a die leaves (R179, R184). -/
set_option Elab.async false
namespace Sys2Proof.Machine
open Host

theorem State.die_onBal (s : State) (k j : Nat) (f : BalanceSt → BalanceSt) :
    (s.onBal k f).die j = if k = j ∧ j < s.dieSt.length then { s.die j with bal := f (s.die j).bal } else s.die j :=
  s.die_onDie k j fun d => { d with bal := f d.bal }

/-- A die that is not kept has nothing. -/
theorem State.die_absent {s : State} {k : Nat} (h : s.dieSt.length ≤ k) : s.die k = {} := by
  unfold State.die
  rw [List.getElem?_eq_none h]
  rfl

/-- A die with a closed switch is kept. -/
theorem State.kept_of_closed {s : State} {k i : Nat} (h : i ∈ (s.die k).bal.closed) : k < s.dieSt.length := by
  by_contra hk
  rw [State.die_absent (Nat.le_of_not_lt hk)] at h
  exact absurd h List.not_mem_nil

/-- `e` differs from `d` in the switches commanded closed and their times alone. -/
def DieSt.OpenedFrom (d e : DieSt) : Prop :=
  ∃ c o n, e = { d with bal := { d.bal with closed := c, openedAt := o, onTime := n } }

theorem DieSt.OpenedFrom.refl (d : DieSt) : d.OpenedFrom d := ⟨_, _, _, rfl⟩

theorem DieSt.OpenedFrom.trans {d e f : DieSt} (h : d.OpenedFrom e) (h' : e.OpenedFrom f) : d.OpenedFrom f := by
  obtain ⟨c, o, n, rfl⟩ := h
  obtain ⟨c', o', n', rfl⟩ := h'
  exact ⟨c', o', n', rfl⟩

/-! ### One switch -/

theorem openSwitchAt_closed (s : State) (k i t : Nat) :
    ((s.openSwitchAt k i t).die k).bal.closed = (s.die k).bal.closed.filter (· != i) := by
  unfold State.openSwitchAt
  split
  next h =>
    rw [State.die_onBal, if_pos ⟨rfl, State.kept_of_closed (List.contains_iff_mem.mp h)⟩]
  next h =>
    refine (List.filter_eq_self.mpr fun j hj => ?_).symm
    rw [bne_iff_ne]
    rintro rfl
    exact h (List.contains_iff_mem.mpr hj)

theorem openSwitchAt_from (s : State) (k i t j : Nat) : (s.die j).OpenedFrom ((s.openSwitchAt k i t).die j) := by
  unfold State.openSwitchAt
  split
  · rw [State.die_onBal]
    split
    · exact ⟨_, _, _, rfl⟩
    · exact .refl _
  · exact .refl _

theorem openSwitchAt_regs (s : State) (k i t : Nat) : (s.openSwitchAt k i t).regs = s.regs := by
  unfold State.openSwitchAt
  split <;> rfl

theorem openSwitchAt_now (s : State) (k i t : Nat) : (s.openSwitchAt k i t).now = s.now := by
  unfold State.openSwitchAt
  split <;> rfl

theorem openSwitchAt_len (s : State) (k i t : Nat) : (s.openSwitchAt k i t).dieSt.length = s.dieSt.length := by
  unfold State.openSwitchAt
  split
  · exact List.length_modify ..
  · rfl

theorem openSwitchAt_rsm (s : State) (k i t : Nat) : (s.openSwitchAt k i t).rsm = s.rsm := by
  unfold State.openSwitchAt
  split <;> rfl

/-- A switch that was closed and opens at a moment is open since then. -/
theorem openSwitchAt_openedAt {s : State} {k i : Nat} (h : i ∈ (s.die k).bal.closed) (t : Nat) :
    (i, t) ∈ ((s.openSwitchAt k i t).die k).bal.openedAt := by
  unfold State.openSwitchAt
  rw [if_pos (List.contains_iff_mem.mpr h), State.die_onBal, if_pos ⟨rfl, State.kept_of_closed h⟩]
  exact List.mem_cons_self

/-! ### The switches of a condition -/

/-- Opening a list of switches leaves the others closed. -/
theorem openSwitches_closed (l : List Nat) (s : State) (k j : Nat) :
    j ∈ ((l.foldl (fun s i => s.openSwitch k i) s).die k).bal.closed ↔ j ∈ (s.die k).bal.closed ∧ j ∉ l := by
  induction l generalizing s with
  | nil => simp
  | cons a l ih =>
    rw [List.foldl_cons, ih]
    unfold State.openSwitch
    rw [openSwitchAt_closed, List.mem_filter, bne_iff_ne, List.mem_cons, not_or, and_assoc]

theorem openWhere_closed (s : State) (k j : Nat) (p : Nat → Bool) :
    j ∈ ((s.openWhere k p).die k).bal.closed ↔ j ∈ (s.die k).bal.closed ∧ p j = false := by
  unfold State.openWhere
  rw [openSwitches_closed, List.mem_filter, not_and, Bool.not_eq_true]
  exact ⟨fun ⟨h, hp⟩ => ⟨h, hp h⟩, fun ⟨h, hp⟩ => ⟨h, fun _ => hp⟩⟩

theorem openWhere_all (s : State) (k : Nat) : ((s.openWhere k fun _ => true).die k).bal.closed = [] :=
  List.eq_nil_iff_forall_not_mem.mpr fun j hj => absurd ((openWhere_closed s k j _).mp hj).2 (by decide)

theorem openWhere_from (s : State) (k j : Nat) (p : Nat → Bool) : (s.die j).OpenedFrom ((s.openWhere k p).die j) :=
  foldl_keeps (fun t : State => (s.die j).OpenedFrom (t.die j)) (fun t i ht => ht.trans (openSwitchAt_from t k i t.now j)) _ (.refl _)

theorem openWhere_regs (s : State) (k : Nat) (p : Nat → Bool) : (s.openWhere k p).regs = s.regs :=
  foldl_keeps (fun t : State => t.regs = s.regs) (fun t i ht => (openSwitchAt_regs t k i t.now).trans ht) _ rfl

theorem openWhere_len (s : State) (k : Nat) (p : Nat → Bool) : (s.openWhere k p).dieSt.length = s.dieSt.length :=
  foldl_keeps (fun t : State => t.dieSt.length = s.dieSt.length) (fun t i ht => (openSwitchAt_len t k i t.now).trans ht) _ rfl

end Sys2Proof.Machine
end

section
/-! Balancing switches, their faults and releases, and learning (R178, R179, R190). -/
set_option Elab.async false
namespace Sys2Proof.Machine
open Host

/-- The pages of balancing lie behind each other. -/
theorem page_bl {k : Nat} (hk : k < 8) (f : Fld) (h : f.page = 0x28) : (f.on k).page = 0x28 + k := by
  unfold Fld.on
  rw [h]
  exact congrArg _ (Nat.mod_eq_of_lt hk)

theorem raised_raise {s a : State} (h : a.rsm.inbox = s.rsm.inbox) (page cls sequence : Nat) (low : EventLow) (effects : List Nat) :
    raised s (a.raise page low cls sequence effects) page low cls := by
  unfold raised State.raise State.send
  dsimp only
  rw [h, List.drop_left]
  exact ⟨_, List.mem_singleton_self _, rfl, rfl, rfl⟩

/-! ### Locked-off cells -/

theorem lockedOff_of_die {s t : State} {k : Nat} (h : (t.die k).bal.shown = (s.die k).bal.shown) (j : Nat) :
    t.lockedOff k j = s.lockedOff k j := by
  unfold State.lockedOff
  rw [h]

/-- A cell locked off, or released. -/
def BalanceShown.withLock (b : BalanceShown) (i : Nat) (v : Bool) : BalanceShown :=
  { b with locked := if v then i :: b.locked.filter (· != i) else b.locked.filter (· != i) }

theorem setLocked_die (s : State) (k i j : Nat) (v : Bool) : (s.setLocked k i v).die j =
    if k = j ∧ j < s.dieSt.length then { s.die j with bal := { (s.die j).bal with shown := (s.die j).bal.shown.withLock i v } }
    else s.die j := by
  unfold State.setLocked
  dsimp only
  rw [die_of_dieSt (State.setOn_dieSt ..)]
  exact State.die_onBal s k j _

theorem setLocked_now (s : State) (k i : Nat) (v : Bool) : (s.setLocked k i v).now = s.now := by
  unfold State.setLocked
  rw [State.setOn_now]
  rfl

theorem setLocked_rsm (s : State) (k i : Nat) (v : Bool) : (s.setLocked k i v).rsm = s.rsm := by
  unfold State.setLocked
  rw [State.setOn_rsm]
  rfl

theorem setLocked_len (s : State) (k i : Nat) (v : Bool) : (s.setLocked k i v).dieSt.length = s.dieSt.length := by
  unfold State.setLocked
  rw [State.setOn_dieSt]
  exact List.length_modify ..

theorem setLocked_self {s : State} {k : Nat} (hk : k < s.dieSt.length) (i : Nat) (v : Bool) : (s.setLocked k i v).lockedOff k i = v := by
  unfold State.lockedOff
  rw [setLocked_die, if_pos ⟨rfl, hk⟩]
  unfold BalanceShown.withLock
  cases v <;> simp

theorem setLocked_other {i j : Nat} (h : j ≠ i) (s : State) (k : Nat) (v : Bool) : (s.setLocked k i v).lockedOff k j = s.lockedOff k j := by
  unfold State.lockedOff
  rw [setLocked_die]
  unfold BalanceShown.withLock
  split
  · cases v <;> simp [h]
  · rfl

/-- A released cell is not locked off. -/
theorem setLocked_released (s : State) (k i : Nat) : (s.setLocked k i false).lockedOff k i = false := by
  by_cases hk : k < s.dieSt.length
  · exact setLocked_self hk i false
  · unfold State.lockedOff
    rw [setLocked_die, if_neg (fun h => hk h.2), State.die_absent (Nat.le_of_not_lt hk)]
    rfl

theorem setLocked_closed (s : State) (k i j : Nat) (v : Bool) : ((s.setLocked k i v).die j).bal.closed = (s.die j).bal.closed := by
  rw [setLocked_die]
  split <;> rfl

/-! ### On-times and switch faults -/

theorem execBalanceOnTimeEnd_claim (k i ton : Nat) (s : State) : Claims.balanceOnTimeEnd k i ton s := by
  intro hk hi hplan
  have hend : s.onTimeEnd k i = some (countOf (s.die k).bal.closedAt i + ton) := by
    unfold State.onTimeEnd
    rw [hplan]
    rfl
  have hexec : exec (.balanceOnTimeEnd k i) s = .next ((s.advanceTo (countOf (s.die k).bal.closedAt i + ton)).openSwitchAt k i
      (countOf (s.die k).bal.closedAt i + ton)) := by
    show execBalanceOnTimeEnd k i s = _
    unfold execBalanceOnTimeEnd
    rw [hend]
    dsimp only
    rw [if_pos ⟨hk, List.contains_iff_mem.mpr hi⟩]
  refine ⟨_, hexec, ?_, fun j hj hne => ?_, openSwitchAt_openedAt (s := s.advanceTo _) hi _, openSwitchAt_now .., openSwitchAt_regs ..⟩
  · rw [openSwitchAt_closed]
    simp
  · rw [openSwitchAt_closed, List.mem_filter, bne_iff_ne]
    exact ⟨hj, hne⟩

/-- A switch found to carry current while it is commanded open. -/
def State.stuckLocked (s : State) (k i : Nat) : State :=
  (s.setLocked k i true).onBal k fun b => { b with stuck := i :: b.stuck.filter (· != i) }

theorem execSwitchStuck_claim (k i : Nat) (s : State) : Claims.switchStuck k i s := by
  intro hk hk8 hi hsh hopen
  obtain ⟨hlen, -⟩ := hsh
  have hkl : k < s.dieSt.length := by rw [hlen]; exact hk8
  have hexec : exec (.switchStuck k i) s = .next ((s.stuckLocked k i).flagEvent (F.BL_IFLAG_STUCK.on k) 2) := by
    show execSwitchStuck k i s = _
    unfold execSwitchStuck
    rw [if_pos ⟨hk, hi, by rw [← Bool.not_eq_true, List.contains_iff_mem]; exact hopen⟩]
    rfl
  have hdie : ((s.stuckLocked k i).flagEvent (F.BL_IFLAG_STUCK.on k) 2).die k =
      { (s.setLocked k i true).die k with bal := { ((s.setLocked k i true).die k).bal with
        stuck := i :: ((s.setLocked k i true).die k).bal.stuck.filter (· != i) } } := by
    rw [die_of_dieSt (State.flagEvent_dieSt ..)]
    unfold State.stuckLocked
    rw [State.die_onBal, if_pos ⟨rfl, by rw [setLocked_len]; exact hkl⟩]
  have hlocked : ∀ j, ((s.stuckLocked k i).flagEvent (F.BL_IFLAG_STUCK.on k) 2).lockedOff k j = (s.setLocked k i true).lockedOff k j :=
    lockedOff_of_die (by rw [hdie])
  refine ⟨_, hexec, (hlocked i).trans (setLocked_self hkl i true), ?_, State.on_flagEvent_okay (f := F.BL_IFLAG_STUCK.on k) rfl _ _ _, ?_,
    fun j _ hne => (hlocked j).trans (setLocked_other hne s k true)⟩
  · rw [hdie]
    exact List.mem_cons_self
  · rw [← page_bl hk8 F.BL_IFLAG_STUCK rfl]
    refine raised_flagEvent (s := s) (a := s.stuckLocked k i) ?_ (F.BL_IFLAG_STUCK.on k) 2 []
    exact congrArg _ (setLocked_rsm s k i true)

/-- The number of periods in a row with an overcurrent, this one with them. -/
def State.overcurrents (s : State) (k i : Nat) : Nat :=
  match (s.die k).bal.ovc.find? fun e => e.1 == i with
  | some e => if e.2.2 = s.balancePeriod then e.2.1 else if e.2.2 + 1 = s.balancePeriod then e.2.1 + 1 else 1
  | none => 1

/-- A switch opens for an overcurrent, `n` periods in a row. -/
def State.overOpened (s : State) (k i n : Nat) : State :=
  ((s.openSwitch k i).onBal k fun b => { b with ovc := (i, n, s.balancePeriod) :: b.ovc.filter fun e => e.1 != i }).flag (F.BL_IFLAG_OVC.on k)

theorem execSwitchOvercurrent_eq {s : State} {k i : Nat} (hk : k < s.dies) (hi : i ∈ (s.die k).bal.closed) :
    exec (.switchOvercurrent k i) s = .next (if 3 ≤ s.overcurrents k i then
      ((s.overOpened k i (s.overcurrents k i)).setLocked k i true).raise (0x28 + k) (.flag F.BL_IFLAG_OVC.lo) 2 (sourceOf (0x28 + k))
      else s.overOpened k i (s.overcurrents k i)) := by
  show execSwitchOvercurrent k i s = _
  unfold execSwitchOvercurrent
  rw [if_pos ⟨hk, List.contains_iff_mem.mpr hi⟩]
  unfold State.applyIf
  simp only [decide_eq_true_eq]
  rfl

theorem overOpened_die {s : State} {k i : Nat} (hi : i ∈ (s.die k).bal.closed) (n : Nat) :
    ((s.overOpened k i n).die k).bal.closed = (s.die k).bal.closed.filter (· != i) ∧
    ((s.overOpened k i n).die k).bal.shown = (s.die k).bal.shown := by
  obtain ⟨c, o, m, hfrom⟩ := openSwitchAt_from s k i s.now k
  have hclosed := openSwitchAt_closed s k i s.now
  unfold State.overOpened
  rw [die_of_dieSt (State.flag_dieSt ..), State.die_onBal,
    if_pos ⟨rfl, by unfold State.openSwitch; rw [openSwitchAt_len]; exact State.kept_of_closed hi⟩]
  unfold State.openSwitch
  exact ⟨hclosed, by rw [hfrom]⟩

theorem overOpened_len (s : State) (k i n : Nat) : (s.overOpened k i n).dieSt.length = s.dieSt.length := by
  unfold State.overOpened
  rw [State.flag_dieSt]
  exact (List.length_modify ..).trans (openSwitchAt_len s k i s.now)

theorem overOpened_rsm (s : State) (k i n : Nat) : (s.overOpened k i n).rsm = s.rsm := by
  unfold State.overOpened
  rw [State.flag_rsm]
  exact openSwitchAt_rsm s k i s.now

theorem execSwitchOvercurrent_claim (k i n p : Nat) (s : State) : Claims.switchOvercurrent k i n p s := by
  intro hk hk8 hi hclosed
  obtain ⟨hc, hshown⟩ := overOpened_die hclosed (s.overcurrents k i)
  have hflag : (s.overOpened k i (s.overcurrents k i)).on (F.BL_IFLAG_OVC.on k) = true := State.on_flag_okay (f := F.BL_IFLAG_OVC.on k) rfl _
  have hgone : i ∉ (s.die k).bal.closed.filter (· != i) := by simp
  refine ⟨_, execSwitchOvercurrent_eq hk hclosed, ?_⟩
  by_cases hn : 3 ≤ s.overcurrents k i
  · rw [if_pos hn]
    generalize hu : s.overOpened k i (s.overcurrents k i) = u at hc hshown hflag
    have hlen : k < u.dieSt.length := by
      rw [← hu, overOpened_len]
      exact State.kept_of_closed hclosed
    have hlock := setLocked_self hlen i true
    refine ⟨?_, ?_, fun hnone => ?_, fun _ _ _ => ⟨hlock, ?_⟩⟩
    · show i ∉ ((u.setLocked k i true).die k).bal.closed
      rw [setLocked_closed, hc]
      exact hgone
    · have hkept : (u.setLocked k i true).on (F.BL_IFLAG_OVC.on k) = u.on (F.BL_IFLAG_OVC.on k) :=
        State.on_setOn_leaves (f := F.BL_PSTAT_LOCKED.on k) (g := F.BL_IFLAG_OVC.on k) (by interval_cases k <;> decide) _ _
      exact hkept.trans hflag
    · unfold State.overcurrents at hn
      rw [hnone] at hn
      dsimp only at hn
      omega
    · refine raised_raise ?_ (0x28 + k) 2 _ _ []
      rw [setLocked_rsm, ← hu, overOpened_rsm]
  · rw [if_neg hn]
    refine ⟨by rw [hc]; exact hgone, hflag, fun _ => lockedOff_of_die hshown i, fun hfind hp h2 => absurd ?_ hn⟩
    unfold State.overcurrents
    rw [hfind]
    dsimp only
    rw [if_neg (by omega), if_pos hp]
    omega

theorem execBalanceOpenLoop_claim (k i : Nat) (s : State) : Claims.balanceOpenLoop k i s := by
  intro hk hk8 hi hclosed
  have hexec : exec (.balanceOpenLoop k i) s = .next (((s.setLocked k i true).openSwitch k i).flagEvent (F.BL_IFLAG_OPEN.on k) 1) :=
    if_pos ⟨hk, List.contains_iff_mem.mpr hclosed⟩
  have hdie := die_of_dieSt (State.flagEvent_dieSt ((s.setLocked k i true).openSwitch k i) (F.BL_IFLAG_OPEN.on k) 1 []) k
  obtain ⟨c, o, n, hfrom⟩ := openSwitchAt_from (s.setLocked k i true) k i (s.setLocked k i true).now k
  refine ⟨_, hexec, ?_, ?_, State.on_flagEvent_okay (f := F.BL_IFLAG_OPEN.on k) rfl _ _ _, ?_⟩
  · rw [hdie]
    unfold State.openSwitch
    rw [openSwitchAt_closed]
    simp
  · refine (lockedOff_of_die (s := s.setLocked k i true) ?_ i).trans (setLocked_self (State.kept_of_closed hclosed) i true)
    rw [hdie]
    unfold State.openSwitch
    rw [hfrom]
  · rw [← page_bl hk8 F.BL_IFLAG_OPEN rfl]
    refine raised_flagEvent (s := s) (a := (s.setLocked k i true).openSwitch k i) ?_ (F.BL_IFLAG_OPEN.on k) 1 []
    exact congrArg _ ((openSwitchAt_rsm ..).trans (setLocked_rsm ..))

/-! ### Requests to a BL page -/

theorem fitted_bl_die {s : State} {k : Nat} (hk : k < s.dies) (hk8 : k < 8) : s.fitted (0x28 + k % 8) = true := by
  rw [fitted_bl (by omega)]
  simp only [decide_eq_true_eq]
  omega

theorem regRow_bl {k : Nat} (hk : k < 8) : regRow (0x28 + k % 8) 0xE3 = some rBL_SWCLR ∧ regRow (0x28 + k % 8) 0xE0 = some rBL_LEARN := by
  interval_cases k <;> exact ⟨rfl, rfl⟩

theorem command_bl (u : State) (l : Link) {k : Nat} (hk : k < 8) (v : Word) : u.command l (0x28 + k % 8) 0xE3 v = u.writeSwclr k v ∧
    u.command l (0x28 + k % 8) 0xE0 v = u.writeLearn k v := by
  interval_cases k <;> exact ⟨rfl, rfl⟩

theorem checkWrite_swclr {c : Nat} (hc : c < 128) :
    checkWrite rBL_SWCLR.rows 0 (BitVec.ofNat 32 (c % 128)) = (BitVec.ofNat 32 (c % 128), []) ∧ bitsOf (BitVec.ofNat 32 (c % 128)) 6 0 = c := by
  have hall : ∀ c < 128, checkWrite rBL_SWCLR.rows 0 (BitVec.ofNat 32 (c % 128)) = (BitVec.ofNat 32 (c % 128), []) ∧
      bitsOf (BitVec.ofNat 32 (c % 128)) 6 0 = c := by decide +kernel
  exact hall c hc

theorem blSwclr_served {s : State} {l : Link} (h : s.takes l) {k c : Nat} (hk : k < s.dies) (hk8 : k < 8) (hc : c < 128) :
    ∃ u, twin u s.refreshShown ∧ ∃ t, exec (.blSwclr l k c) s = .next t ∧ twin t (u.writeSwclr k (BitVec.ofNat 32 (c % 128))).1 ∧
      (∀ e, (u.writeSwclr k (BitVec.ofNat 32 (c % 128))).2 = some e → Claims.refusedWith t l e) ∧
      ((u.writeSwclr k (BitVec.ofNat 32 (c % 128))).2 = none → Claims.granted t l) := by
  obtain ⟨u, hu, ht, hrefused, hgranted⟩ := hostWrite_row h (BitVec.ofNat 32 (c % 128)) rBL_SWCLR (fitted_bl_die hk hk8) (by omega) (by decide)
    (by decide) (by omega) (regRow_bl hk8).1 (by decide) (by decide) (checkWrite_swclr hc).1
  rw [(command_bl u l hk8 _).1] at ht hrefused hgranted
  exact ⟨u, hu, _, rfl, ht, hrefused, hgranted⟩

theorem learn_served {s : State} {l : Link} (h : s.takes l) {k : Nat} (hk : k < s.dies) (hk8 : k < 8) (v : Word) :
    ∃ u, twin u s.refreshShown ∧ twin (s.hostWrite l (0x28 + k % 8) 0xE0 v) (u.writeLearn k v).1 ∧
      (∀ e, (u.writeLearn k v).2 = some e → Claims.refusedWith (s.hostWrite l (0x28 + k % 8) 0xE0 v) l e) ∧
      ((u.writeLearn k v).2 = none → Claims.granted (s.hostWrite l (0x28 + k % 8) 0xE0 v) l) := by
  obtain ⟨u, hu, ht, hrefused, hgranted⟩ := hostWrite_full h (0x28 + k % 8) 0xE0 v (fitted_bl_die hk hk8) (regRow_bl hk8).2 rfl (.inl rfl)
    (by omega) (by decide) (by decide) (by omega)
  rw [(command_bl u l hk8 _).2] at ht hrefused hgranted
  exact ⟨u, hu, ht, hrefused, hgranted⟩

theorem die_of_twin {u s : State} (h : twin u s.refreshShown) (k : Nat) : u.die k = s.die k := die_of_dieSt (dieSt_of_twin h) k

theorem lockedOff_of_twin {u s : State} (h : twin u s.refreshShown) (k j : Nat) : u.lockedOff k j = s.lockedOff k j :=
  lockedOff_of_die (by rw [die_of_twin h]) j

/-- A released list of cells. -/
theorem setLocked_all (l : List Nat) (s : State) (k j : Nat) :
    (l.foldl (fun s i => s.setLocked k i false) s).lockedOff k j = if j ∈ l then false else s.lockedOff k j := by
  induction l generalizing s with
  | nil => rfl
  | cons a l ih =>
    rw [List.foldl_cons, ih]
    by_cases hl : j ∈ l
    · rw [if_pos hl, if_pos (List.mem_cons_of_mem _ hl)]
    · rw [if_neg hl]
      by_cases hja : j = a
      · subst hja
        rw [if_pos List.mem_cons_self]
        exact setLocked_released s k j
      · rw [if_neg (by rw [List.mem_cons, not_or]; exact ⟨hja, hl⟩)]
        exact setLocked_other hja s k false

/-- What BL_SWCLR names. -/
def releasedCells (c : Nat) : List Nat := if c = 0x40 then cellList else if c < 64 then [c] else []

theorem writeSwclr_eq (u : State) (k : Nat) {c : Nat} (hc : c < 128) : u.writeSwclr k (BitVec.ofNat 32 (c % 128)) =
    if (releasedCells c).isEmpty || (releasedCells c).any (fun i => u.lockedOff k i && (u.die k).bal.stuck.contains i) then (u, some 0x0A)
    else ((releasedCells c).foldl (fun s i => s.setLocked k i false) u, none) := by
  unfold State.writeSwclr
  rw [(checkWrite_swclr hc).2]
  rfl

/-- A release none of whose cells is stuck. -/
theorem blSwclr_released {s : State} {l : Link} (h : s.takes l) {k c : Nat} (hk : k < s.dies) (hk8 : k < 8) (hc : c < 128)
    (hsome : releasedCells c ≠ []) (hfree : ∀ i ∈ releasedCells c, s.lockedOff k i = false ∨ i ∉ (s.die k).bal.stuck) :
    ∃ t, exec (.blSwclr l k c) s = .next t ∧ Claims.granted t l ∧
      ∀ j, t.lockedOff k j = if j ∈ releasedCells c then false else s.lockedOff k j := by
  obtain ⟨u, hu, t, ht, htwin, -, hgranted⟩ := blSwclr_served h hk hk8 hc
  have hany : (releasedCells c).any (fun i => u.lockedOff k i && (u.die k).bal.stuck.contains i) = false := by
    rw [List.any_eq_false]
    intro i hi hboth
    rw [lockedOff_of_twin hu, die_of_twin hu, Bool.and_eq_true, List.contains_iff_mem] at hboth
    rcases hfree i hi with hl | hs
    · rw [hl] at hboth
      exact absurd hboth.1 (by decide)
    · exact hs hboth.2
  have hempty : (releasedCells c).isEmpty = false := by rw [List.isEmpty_eq_false_iff]; exact hsome
  rw [writeSwclr_eq u k hc, hany, hempty] at htwin hgranted
  refine ⟨t, ht, hgranted rfl, fun j => ?_⟩
  have hlocked : t.lockedOff k j = ((releasedCells c).foldl (fun s i => s.setLocked k i false) u).lockedOff k j :=
    lockedOff_of_die (by rw [die_of_dieSt (dieSt_of_aside htwin.1)]; rfl) j
  rw [hlocked, setLocked_all, lockedOff_of_twin hu]

theorem execBlSwclr_claim (l : Link) (k c : Nat) (s : State) : Claims.blSwclr l k c s := by
  intro h hk hk8 hc hfree
  have hcells : releasedCells c = [c] := by
    unfold releasedCells
    rw [if_neg (by omega), if_pos hc]
  obtain ⟨t, ht, hg, hlocked⟩ := blSwclr_released h hk hk8 (c := c) (by omega) (by rw [hcells]; exact List.cons_ne_nil _ _)
    (fun i hi => by
      rw [hcells, List.mem_singleton] at hi
      subst hi
      exact hfree)
  rw [hcells] at hlocked
  exact ⟨t, ht, hg, by rw [hlocked, if_pos (List.mem_singleton_self _)],
    fun j _ hne => by rw [hlocked, if_neg (by rw [List.mem_singleton]; exact hne)]⟩

theorem execBlSwclr_all_claim (l : Link) (k : Nat) (s : State) : Claims.blSwclrAll l k s := by
  intro h hk hk8 hstuck
  obtain ⟨t, ht, hg, hlocked⟩ := blSwclr_released h hk hk8 (c := 0x40) (by decide) (by decide)
    (fun i _ => .inr (by rw [hstuck]; exact List.not_mem_nil))
  exact ⟨t, ht, hg, fun j hj => by rw [hlocked, if_pos (show j ∈ releasedCells 0x40 from List.mem_range.mpr hj)]⟩

theorem execBlSwclr_refused_claim (l : Link) (k c : Nat) (s : State) : Claims.blSwclrRefused l k c s := by
  intro h hk hk8 hc hlocked hstuck
  obtain ⟨u, hu, t, ht, htwin, hrefused, -⟩ := blSwclr_served h hk hk8 (c := c) (by omega)
  have hcells : releasedCells c = [c] := by
    unfold releasedCells
    rw [if_neg (by omega), if_pos hc]
  rw [writeSwclr_eq u k (by omega), hcells, if_pos (by
    rw [List.any_cons, lockedOff_of_twin hu, die_of_twin hu, hlocked, List.contains_iff_mem.mpr hstuck]
    rfl)] at htwin hrefused
  exact ⟨t, ht, hrefused _ rfl, linksAside_trans htwin.1 hu.1⟩

/-! ### Learning -/

/-- A learning run cannot start. -/
def State.learnBarred (s : State) (k : Nat) : Bool :=
  !s.healthy k || s.harness k || !bit (s.get F.CMP_OWST_SWEPT) k || decide (s.period < s.filterSpan) ||
    decide (s.period < s.get F.THY_QUIET_LEAD) || (s.die k).bal.learn.isSome

theorem learnBarred_of_twin {u s : State} (hu : twin u s.refreshShown) (k : Nat) : u.learnBarred k = s.learnBarred k := by
  unfold State.learnBarred State.healthy State.harness State.period State.filterSpan
  rw [die_of_twin hu]
  simp (disch := decide) only [State.get_of_twin hu]

theorem execLearnStart_refused_claim (l : Link) (k : Nat) (s : State) : Claims.learnRefused l k s := by
  intro h hk hk8 hcause
  obtain ⟨u, hu, htwin, hrefused, -⟩ := learn_served h hk hk8 1
  have hbarred : u.learnBarred k = true := by
    rw [learnBarred_of_twin hu]
    unfold State.learnBarred
    rcases hcause with h | h | h | h | h | h <;> simp [h]
  have hwrite : u.writeLearn k 1 = (u, some 0x0A) := if_pos hbarred
  rw [hwrite] at htwin hrefused
  exact ⟨_, rfl, hrefused _ rfl, linksAside_trans htwin.1 hu.1⟩

/-- What the page of a die is to show of a learning run. -/
theorem showLearn_die {s : State} {k : Nat} (hk : k < s.dieSt.length) (n : Nat) : ∃ shown, ((s.showLearn k n).die k) =
    { s.die k with bal := { (s.die k).bal with shown := shown } } ∧ shown.lrnState = n ∧
      shown.lrnRepeats = (s.die k).bal.shown.lrnRepeats := by
  have hfirst : ((s.onShown k fun w => { w with lrnState := n }).setOn (F.BL_PSTAT_LEARNING.on k) (n == 1)).die k =
      { s.die k with bal := { (s.die k).bal with shown := { (s.die k).bal.shown with lrnState := n } } } := by
    rw [die_of_dieSt (State.setOn_dieSt ..)]
    unfold State.onShown
    rw [State.die_onBal, if_pos ⟨rfl, hk⟩]
  unfold State.showLearn
  generalize (s.onShown k fun w => { w with lrnState := n }).setOn (F.BL_PSTAT_LEARNING.on k) (n == 1) = u at hfirst
  dsimp only
  split
  next l hl =>
    have hku : k < u.dieSt.length := by
      by_contra hlen
      rw [State.die_absent (Nat.le_of_not_lt hlen)] at hl
      cases hl
    unfold State.onShown
    rw [State.die_onBal, if_pos ⟨rfl, hku⟩, hfirst]
    exact ⟨_, rfl, rfl, rfl⟩
  next => exact ⟨_, hfirst, rfl, rfl⟩

theorem showLearn_learning (s : State) (k n : Nat) : (s.showLearn k n).on (F.BL_PSTAT_LEARNING.on k) = (n == 1) := by
  have hset := State.on_setOn_okay (f := F.BL_PSTAT_LEARNING.on k) rfl (s.onShown k fun w => { w with lrnState := n }) (n == 1)
  unfold State.showLearn
  dsimp only
  split
  · exact hset
  · exact hset

/-- A learning run of a die as it begins. -/
def State.learnBegun (s : State) (k : Nat) : State :=
  (s.onBal k fun b => { b with learn := some {}, next := [] }).onShown k fun w => { w with lrnRepeats := 0 }

theorem learnBegun_die {s : State} {k : Nat} (hk : k < s.dieSt.length) : (s.learnBegun k).die k = { s.die k with
    bal := { (s.die k).bal with learn := some {}, next := [], shown := { (s.die k).bal.shown with lrnRepeats := 0 } } } := by
  have hlen : k < (s.onBal k fun b => { b with learn := some {}, next := [] }).dieSt.length := Nat.lt_of_lt_of_eq hk (onDie_len ..).symm
  unfold State.learnBegun State.onShown
  rw [State.die_onBal, if_pos ⟨rfl, hlen⟩, State.die_onBal, if_pos ⟨rfl, hk⟩]

theorem execLearnStart_claim (l : Link) (k : Nat) (s : State) : Claims.learnStart l k s := by
  intro h hsh hk hk8 hhealthy hharness hswept hspan hlead hnone
  obtain ⟨hlen, -⟩ := hsh
  obtain ⟨u, hu, htwin, -, hgranted⟩ := learn_served h hk hk8 1
  have hfree : u.learnBarred k = false := by
    rw [learnBarred_of_twin hu]
    unfold State.learnBarred
    rw [hhealthy, hharness, hswept, hnone, decide_eq_false (by omega), decide_eq_false (by omega)]
    rfl
  have hwrite : u.writeLearn k 1 = ((u.learnBegun k).showLearn k 1, none) := by
    show (if u.learnBarred k then (u, some 0x0A) else ((u.learnBegun k).showLearn k 1, none)) = _
    rw [hfree]
    rfl
  rw [hwrite] at htwin hgranted
  have hku : k < u.dieSt.length := by rw [dieSt_of_twin hu, hlen]; exact hk8
  obtain ⟨shown, hdie, hstate, hrepeats⟩ := showLearn_die (s := u.learnBegun k) (k := k) (Nat.lt_of_lt_of_eq hku
    ((onDie_len ..).trans (onDie_len ..)).symm) 1
  rw [learnBegun_die hku] at hdie hrepeats
  have hdie' : (s.hostWrite l (0x28 + k % 8) 0xE0 1).die k = _ := (die_of_dieSt (dieSt_of_aside htwin.1) k).trans hdie
  refine ⟨_, rfl, hgranted rfl, ?_, ?_, ?_, ?_⟩
  · rw [hdie']
  · rw [hdie']
    exact hstate
  · rw [hdie']
    exact hrepeats
  · rw [on_of_linksAside htwin.1]
    exact showLearn_learning _ k 1

/-- A learning run of a die as it is broken off. -/
def State.learnEnded (s : State) (k : Nat) : State := (s.openWhere k fun _ => true).onBal k fun b => { b with learn := none }

theorem learnEnded_die {s : State} {k : Nat} (hk : k < s.dieSt.length) :
    ((s.learnEnded k).die k).bal.learn = none ∧ ((s.learnEnded k).die k).bal.closed = [] := by
  unfold State.learnEnded
  rw [State.die_onBal, if_pos ⟨rfl, by rw [openWhere_len]; exact hk⟩]
  exact ⟨rfl, openWhere_all s k⟩

theorem execLearnAbort_claim (l : Link) (k : Nat) (s : State) : Claims.learnAbort l k s := by
  intro h hk hk8 hsome
  obtain ⟨u, hu, htwin, -, hgranted⟩ := learn_served h hk hk8 2
  have hku : k < u.dieSt.length := by
    by_contra hlen
    rw [dieSt_of_twin hu] at hlen
    rw [State.die_absent (Nat.le_of_not_lt hlen)] at hsome
    exact absurd hsome (by decide)
  have hwrite : u.writeLearn k 2 = ((u.learnEnded k).showLearn k 3, none) := by
    unfold State.writeLearn State.learnAbort
    rw [if_neg (by decide), if_pos rfl, if_pos (by rw [die_of_twin hu]; exact hsome)]
    rfl
  rw [hwrite] at htwin hgranted
  obtain ⟨hlearn, hclosed⟩ := learnEnded_die hku
  obtain ⟨shown, hdie, hstate, -⟩ := showLearn_die (s := u.learnEnded k) (k := k) (Nat.lt_of_lt_of_eq hku
    ((onDie_len ..).trans (openWhere_len ..)).symm) 3
  have hdie' : (s.hostWrite l (0x28 + k % 8) 0xE0 2).die k = _ := (die_of_dieSt (dieSt_of_aside htwin.1) k).trans hdie
  refine ⟨_, rfl, hgranted rfl, ?_, ?_, ?_, ?_⟩
  · rw [hdie']
    exact hlearn
  · rw [hdie']
    exact hclosed
  · rw [hdie']
    exact hstate
  · rw [on_of_linksAside htwin.1]
    exact showLearn_learning _ k 3

end Sys2Proof.Machine

/-- Settles O23: every command opens, locks or releases the cells it names, and what BL_LRN is to show follows the learning run. -/
theorem balancing : Obligations.Balancing := by
  unfold Obligations.Balancing
  exact ⟨Sys2Proof.Machine.execBalanceOnTimeEnd_claim, Sys2Proof.Machine.execSwitchStuck_claim, Sys2Proof.Machine.execSwitchOvercurrent_claim,
    Sys2Proof.Machine.execBalanceOpenLoop_claim, Sys2Proof.Machine.execBlSwclr_claim, Sys2Proof.Machine.execBlSwclr_all_claim,
    Sys2Proof.Machine.execBlSwclr_refused_claim, Sys2Proof.Machine.execLearnStart_claim, Sys2Proof.Machine.execLearnStart_refused_claim,
    Sys2Proof.Machine.execLearnAbort_claim⟩

end

section
/-! Tap tests: sweeps, requests, windows, and what a test decides (R152 to R154, R159, R160). -/
set_option Elab.async false
namespace Sys2Proof.Machine
open Host

/-! ### The tests as the registers show them -/

theorem bit_bitMap {n k : Nat} (hk : k < n) (f : Nat → Bool) : bit (bitMap n f) k = f k := by
  have hstep : ∀ m, bitMap m f < 2 ^ m ∧ ∀ j < m, bit (bitMap m f) j = f j := fun m => by
    induction m with
    | zero => exact ⟨Nat.one_pos, fun j hj => absurd hj (Nat.not_lt_zero j)⟩
    | succ m ih =>
      obtain ⟨hlt, hbits⟩ := ih
      have hsucc : bitMap (m + 1) f = 2 ^ m * ofBool (f m) + bitMap m f := by
        unfold bitMap
        rw [List.range_succ, List.foldl_append, List.foldl_cons, List.foldl_nil]
        ring
      have hone : ofBool (f m) ≤ 1 := by cases f m <;> decide
      refine ⟨?_, fun j hj => ?_⟩
      · rw [hsucc, Nat.pow_succ]
        nlinarith
      · rw [hsucc, bit_eq_testBit, Nat.testBit_two_pow_mul_add _ hlt]
        split
        next hjm => rw [← bit_eq_testBit, hbits j hjm]
        next hjm =>
          obtain rfl : j = m := by omega
          rw [Nat.sub_self]
          cases f j <;> rfl
  exact (hstep n).2 k hk

theorem showTests_dieSt (s : State) : s.showTests.dieSt = s.dieSt := by
  unfold State.showTests
  dsimp only
  rw [State.setOn_dieSt, State.setOn_dieSt, State.setOn_dieSt, State.set_dieSt, State.set_dieSt]

theorem showTests_die (s : State) (k : Nat) : s.showTests.die k = s.die k := die_of_dieSt (showTests_dieSt s) k

theorem showTests_testing {s : State} {k : Nat} (hk : k < s.dies) (hk8 : k < 8) :
    bit (s.showTests.get F.CMP_OWST_TESTING) k = (s.die k).test.isSome := by
  have hlt : bitMap 8 (fun k => decide (k < s.dies) && (s.die k).test.isSome) < 2 ^ 8 := by
    unfold bitMap
    simp only [List.range_succ, List.range_zero, List.nil_append, List.cons_append, List.foldl_cons, List.foldl_nil]
    have hone : ∀ b, ofBool b ≤ 1 := by decide
    have := fun j => hone (decide (j < s.dies) && (s.die j).test.isSome)
    have h0 := this 0; have h1 := this 1; have h2 := this 2; have h3 := this 3
    have h4 := this 4; have h5 := this 5; have h6 := this 6; have h7 := this 7
    omega
  unfold State.showTests
  dsimp only
  rw [State.get_setOn_leaves (by decide), State.get_setOn_leaves (by decide), State.get_setOn_leaves (by decide),
    State.get_set_leaves (by decide), State.get_set_lt (by decide) hlt, bit_bitMap hk8, decide_eq_true hk]
  rfl

/-! ### Sweeps -/

/-- The test belongs to a sweep. -/
def sweeps (t : Option TapTest) : Bool :=
  match t with
  | some t => t.prio == 3
  | none => false

/-- A sweep of the die goes on. -/
def DieSt.sweepGoesOn (d : DieSt) : Bool :=
  d.sweep.isSome || (d.waiting.any fun w => w.prio == 3) || sweeps d.test || sweeps d.deciding

/-- A sweep begins on a die whose last one is over. -/
def State.sweepDie (s : State) (k : Nat) : State :=
  s.onDie k fun d => if d.sweepGoesOn then d else { d with sweep := some 0, harnessOverflow := false }

/-- No sweep of any die has begun. -/
def State.firstSweep (s : State) : Bool := s.dieList.all fun k => !bit (s.get F.CMP_OWST_SWEPT) k && (s.die k).sweep.isNone

/-- The moment of the next sweep. -/
def State.sweepTime (s : State) : State :=
  if s.firstSweep then s else s.advanceTo (s.line.sweepStart + s.get F.CMP_OWCFG_SWEEP * 1000000)

theorem execSweepStart_eq {s : State} (h : s.running = true) : exec .sweepStart s =
    .next (s.dieList.foldl State.sweepDie (s.sweepTime.onLine fun l => { l with sweepStart := s.sweepTime.now })) := by
  show execSweepStart s = _
  unfold execSweepStart
  rw [if_pos h]
  have hdies : (s.sweepTime.onLine fun l => { l with sweepStart := s.sweepTime.now }).dieList = s.dieList := by
    unfold State.sweepTime
    split <;> rfl
  refine Eq.trans (b := .next ((s.sweepTime.onLine fun l => { l with sweepStart := s.sweepTime.now }).dieList.foldl State.sweepDie
    (s.sweepTime.onLine fun l => { l with sweepStart := s.sweepTime.now }))) rfl ?_
  rw [hdies]

theorem sweepDie_die (s : State) (k j : Nat) : (s.sweepDie k).die j =
    if k = j ∧ j < s.dieSt.length then (if (s.die j).sweepGoesOn then s.die j else { s.die j with sweep := some 0, harnessOverflow := false })
    else s.die j := s.die_onDie k j _

/-- What the sweep's begin leaves of the state beside the dies. -/
structure SweptFrom (s t : State) : Prop where
  now : t.now = s.now
  line : t.line = s.line
  regs : t.regs = s.regs
  len : t.dieSt.length = s.dieSt.length

theorem sweptFrom_sweepDie (s : State) (k : Nat) : SweptFrom s (s.sweepDie k) := ⟨rfl, rfl, rfl, onDie_len ..⟩

theorem SweptFrom.trans {s t u : State} (h : SweptFrom s t) (h' : SweptFrom t u) : SweptFrom s u :=
  ⟨h'.now.trans h.now, h'.line.trans h.line, h'.regs.trans h.regs, h'.len.trans h.len⟩

theorem execSweepStart_claim (k : Nat) (s : State) : Claims.sweepStart k s := by
  intro hrun hsh hk hk8
  obtain ⟨hlen, -⟩ := hsh
  have hexec := execSweepStart_eq hrun
  generalize hu : (s.sweepTime.onLine fun l => { l with sweepStart := s.sweepTime.now }) = u at hexec
  have hstart : u.dieSt = s.dieSt ∧ u.now = s.sweepTime.now ∧ u.line.sweepStart = s.sweepTime.now ∧ u.regs = s.regs := by
    rw [← hu]
    unfold State.sweepTime
    split <;> exact ⟨rfl, rfl, rfl, rfl⟩
  obtain ⟨hdies, hnow, hline, hregs⟩ := hstart
  have hku : k < u.dieSt.length := by rw [hdies, hlen]; exact hk8
  obtain ⟨hfrom, hdie⟩ := foldl_once (b := k) (f := State.sweepDie) (I := fun t => SweptFrom u t ∧ t.die k = u.die k)
    (J := fun t => SweptFrom u t ∧ t.die k =
      if (u.die k).sweepGoesOn then u.die k else { u.die k with sweep := some 0, harnessOverflow := false })
    s.dieList List.nodup_range (mem_dieList.mpr hk)
    (fun t j _ hj ht => ⟨ht.1.trans (sweptFrom_sweepDie t j), by rw [sweepDie_die, if_neg (fun hc => hj hc.1)]; exact ht.2⟩)
    (fun t ht => ⟨ht.1.trans (sweptFrom_sweepDie t k), by rw [sweepDie_die, if_pos ⟨rfl, by rw [ht.1.len]; exact hku⟩, ht.2]⟩)
    (fun t j _ hj ht => ⟨ht.1.trans (sweptFrom_sweepDie t j), by rw [sweepDie_die, if_neg (fun hc => hj hc.1)]; exact ht.2⟩)
    ⟨⟨rfl, rfl, rfl, rfl⟩, rfl⟩
  rw [die_of_dieSt hdies] at hdie
  have hbegins : (s.die k).sweepGoesOn = false → ((s.dieList.foldl State.sweepDie u).die k).sweep = some 0 := fun h => by
    rw [hdie, h]
    rfl
  refine ⟨_, hexec, ?_, fun hfirst => ⟨?_, fun hw ht hd => ?_⟩, fun hswept => ⟨?_, fun hs hw ht hd => ?_⟩, fun hgoes => ?_, hfrom.regs.trans hregs⟩
  · rw [hfrom.line, hfrom.now, hline, hnow]
  · have hall : s.firstSweep = true := List.all_eq_true.mpr fun j hj => by
      obtain ⟨h1, h2⟩ := hfirst j (mem_dieList.mp hj)
      rw [h1, h2]
      rfl
    rw [hfrom.now, hnow]
    unfold State.sweepTime
    rw [if_pos hall]
  · refine hbegins ?_
    unfold DieSt.sweepGoesOn
    rw [(hfirst k hk).2, hw, ht, hd]
    rfl
  · have hnot : ¬s.firstSweep = true := fun hall => by
      have hone := List.all_eq_true.mp hall k (mem_dieList.mpr hk)
      rw [hswept] at hone
      exact absurd hone (by simp)
    rw [hfrom.now, hnow]
    unfold State.sweepTime
    rw [if_neg hnot]
    rfl
  · refine hbegins ?_
    have hnone : ∀ o : Option TapTest, (∀ x, o = some x → x.prio ≠ 3) → sweeps o = false := fun o ho => by
      cases o with
      | none => rfl
      | some x => exact beq_eq_false_iff_ne.mpr (ho x rfl)
    have hwait : ((s.die k).waiting.any fun w => w.prio == 3) = false := by
      rw [List.any_eq_false]
      intro w hmem
      rw [beq_iff_eq]
      exact hw w hmem
    unfold DieSt.sweepGoesOn
    rw [hs, hwait, hnone _ ht, hnone _ hd]
    rfl
  · have hon : (s.die k).sweepGoesOn = true := by
      unfold DieSt.sweepGoesOn
      rcases hgoes with h | ⟨x, h, hp⟩
      · rw [h]
        rfl
      · rw [h]
        show (_ || x.prio == 3) = true
        rw [hp]
        exact Bool.or_true _
    rw [hdie, hon]
    rfl

/-! ### Requests -/

theorem checkWrite_owreq {k tap : Nat} (hk : k < 8) (ht : tap < 128) :
    checkWrite rCMP_OWREQ.rows 0 (BitVec.ofNat 32 (k % 8 * 256 + tap % 128)) = (BitVec.ofNat 32 (k % 8 * 256 + tap % 128), []) ∧
    bitsOf (BitVec.ofNat 32 (k % 8 * 256 + tap % 128)) 10 8 = k ∧ bitsOf (BitVec.ofNat 32 (k % 8 * 256 + tap % 128)) 6 0 = tap := by
  have hall : ∀ k < 8, ∀ tap < 128, checkWrite rCMP_OWREQ.rows 0 (BitVec.ofNat 32 (k % 8 * 256 + tap % 128)) =
      (BitVec.ofNat 32 (k % 8 * 256 + tap % 128), []) ∧ bitsOf (BitVec.ofNat 32 (k % 8 * 256 + tap % 128)) 10 8 = k ∧
      bitsOf (BitVec.ofNat 32 (k % 8 * 256 + tap % 128)) 6 0 = tap := by decide +kernel
  exact hall k hk tap ht

/-- A request for a tap is turned away. -/
def State.owBarred (s : State) (k tap : Nat) : Prop :=
  64 < tap ∨ s.dies ≤ k ∨ bit (s.get F.STK_ROUTE_REACH) k = false ∨ 4 ≤ ((s.die k).waiting.filter fun w => w.prio == 2).length

theorem owBarred_of_twin {u s : State} (hu : twin u s.refreshShown) (k tap : Nat) : u.owBarred k tap ↔ s.owBarred k tap := by
  unfold State.owBarred State.dies
  rw [die_of_twin hu, State.get_of_twin hu (by decide), State.get_of_twin hu (by decide)]

/-- A requested test joins the queue. -/
def State.testQueued (s : State) (k tap : Nat) : State :=
  (s.onDie k fun d => { d with waiting := queueTest ⟨tap, 2, 0⟩ d.waiting }).showTests

theorem owRequest_served {s : State} {l : Link} (h : s.takes l) {k tap : Nat} (hk : k < 8) (ht : tap < 128) :
    ∃ u, twin u s.refreshShown ∧ ∃ t, exec (.owRequest l k tap) s = .next t ∧
      (s.owBarred k tap → twin t u ∧ Claims.refusedWith t l 0x0A) ∧ (¬s.owBarred k tap →
        twin t (u.testQueued k tap) ∧ Claims.granted t l) := by
  obtain ⟨hcheck, hdie, htap⟩ := checkWrite_owreq hk ht
  obtain ⟨u, hu, htwin, hrefused, hgranted⟩ := hostWrite_row h (BitVec.ofNat 32 (k % 8 * 256 + tap % 128)) rCMP_OWREQ
    (page := 0x11) (word := 0xE1) rfl (by decide) (by decide) (by decide) (by decide) rfl (by decide) (by decide) hcheck
  have hwrite : u.command l 0x11 0xE1 (BitVec.ofNat 32 (k % 8 * 256 + tap % 128)) =
      if 64 < tap ∨ u.dies ≤ k ∨ bit (u.get F.STK_ROUTE_REACH) k = false ∨ 4 ≤ ((u.die k).waiting.filter fun w => w.prio == 2).length
      then (u, some 0x0A) else (u.testQueued k tap, none) := by
    show u.writeOwreq _ = _
    unfold State.writeOwreq
    rw [hdie, htap]
    rfl
  have hsame := owBarred_of_twin hu k tap
  unfold State.owBarred at hsame
  generalize u.command l 0x11 0xE1 (BitVec.ofNat 32 (k % 8 * 256 + tap % 128)) = r at hwrite htwin hrefused hgranted
  refine ⟨u, hu, _, rfl, fun hbar => ?_, fun hfree => ?_⟩
  · rw [if_pos (hsame.mpr hbar)] at hwrite
    subst hwrite
    exact ⟨htwin, hrefused _ rfl⟩
  · rw [if_neg (fun hc => hfree (hsame.mp hc))] at hwrite
    subst hwrite
    dsimp only at htwin hgranted
    exact ⟨htwin, hgranted rfl⟩

theorem execOwRequest_claim (l : Link) (k tap : Nat) (s : State) : Claims.owRequest l k tap s := by
  intro h hsh hk8 htap hk hreach hfew
  obtain ⟨hlen, -⟩ := hsh
  obtain ⟨u, hu, t, ht, -, hserved⟩ := owRequest_served h hk8 (tap := tap) (by omega)
  obtain ⟨htwin, hgranted⟩ := hserved (by
    rintro (h | h | h | h)
    · omega
    · omega
    · rw [hreach] at h
      cases h
    · omega)
  refine ⟨t, ht, hgranted, ?_⟩
  rw [die_of_dieSt (dieSt_of_aside htwin.1)]
  unfold State.testQueued
  rw [showTests_die, State.die_onDie,
    if_pos ⟨rfl, by rw [dieSt_of_twin hu, hlen]; exact hk8⟩, die_of_twin hu]

theorem execOwRequest_refused_claim (l : Link) (k tap : Nat) (s : State) : Claims.owRequestRefused l k tap s := by
  intro h hk htap hbar
  obtain ⟨u, hu, t, ht, hserved, -⟩ := owRequest_served h hk htap
  obtain ⟨htwin, hrefused⟩ := hserved hbar
  exact ⟨t, ht, hrefused, linksAside_trans htwin.1 hu.1⟩

/-! ### The windows of a test -/

/-- A test as it begins. -/
def State.newTest (s : State) (k : Nat) (w : PendingTest) : TapTest :=
  { tap := w.tap, prio := w.prio, incon := w.incon, start := s.frame, w := s.windowFrames, cells := s.testCells k w.tap }

/-- What the begin of a test leaves of its die. -/
theorem beginTest_die {s : State} {k : Nat} (hk : k < s.dieSt.length) (w : PendingTest) :
    ((s.beginTest k w).die k).test = some (s.newTest k w) ∧ ((s.beginTest k w).die k).waiting = (s.die k).waiting ∧
    ((s.beginTest k w).die k).sweep = (s.die k).sweep ∧
    ∀ i, i ∈ ((s.beginTest k w).die k).bal.closed → i ∈ (s.die k).bal.closed ∧ i + 1 ≠ w.tap ∧ i ≠ w.tap := by
  have hbegun : (s.onDie k fun d => { d with test := some (s.newTest k w) }).die k = { s.die k with test := some (s.newTest k w) } := by
    rw [State.die_onDie, if_pos ⟨rfl, hk⟩]
  have hdie : (s.beginTest k w).die k = ((s.onDie k fun d => { d with test := some (s.newTest k w) }).openWhere k
      ((s.onDie k fun d => { d with test := some (s.newTest k w) }).underTest k)).die k := showTests_die _ k
  generalize s.onDie k (fun d => { d with test := some (s.newTest k w) }) = u at hbegun hdie
  obtain ⟨c, o, n, hfrom⟩ := openWhere_from u k k (u.underTest k)
  rw [hdie]
  refine ⟨by rw [hfrom, hbegun], by rw [hfrom, hbegun], by rw [hfrom, hbegun], fun i hi => ?_⟩
  obtain ⟨hc, hnot⟩ := (openWhere_closed u k i _).mp hi
  unfold State.underTest at hnot
  rw [hbegun] at hc hnot
  have hboth : (w.tap == i || w.tap == i + 1) = false := hnot
  rw [Bool.or_eq_false_iff, beq_eq_false_iff_ne, beq_eq_false_iff_ne] at hboth
  exact ⟨hc, fun h => hboth.2 h.symm, fun h => hboth.1 h.symm⟩

theorem beginTest_testing {s : State} {k : Nat} (hk : k < s.dieSt.length) (hkd : k < s.dies) (hk8 : k < 8) (w : PendingTest) :
    bit ((s.beginTest k w).get F.CMP_OWST_TESTING) k = true := by
  have htest := (beginTest_die hk w).1
  unfold State.beginTest at htest ⊢
  rw [showTests_die] at htest
  have hdies : ((s.onDie k fun d => { d with test := some (s.newTest k w) }).openWhere k
      ((s.onDie k fun d => { d with test := some (s.newTest k w) }).underTest k)).dies = s.dies :=
    (altersOf (alters_openWhere (s.onDie k fun d => { d with test := some (s.newTest k w) }) k _)).get F.SYS_VARIANT_MDIES (by decide +kernel)
  refine (showTests_testing (Nat.lt_of_lt_of_eq hkd hdies.symm) hk8).trans ?_
  exact congrArg Option.isSome htest

theorem startable {s : State} {k : Nat} (hrun : s.running = true) (hk : k < s.dies) (ht : s.testable k = true) (hnone : (s.die k).test = none) :
    (s.running && decide (k < s.dies) && s.testable k && (s.die k).test.isNone) = true := by
  rw [hrun, decide_eq_true hk, ht, hnone]
  rfl

theorem execTapTestStart_claim (k : Nat) (w : PendingTest) (rest : List PendingTest) (s : State) : Claims.tapTestStart k w rest s := by
  intro hrun hsh hk hk8 htestable hnone hwait
  obtain ⟨hlen, -⟩ := hsh
  have hexec : exec (.tapTestStart k) s = .next ((s.onDie k fun d => { d with waiting := rest }).beginTest k w) := by
    show execTapTestStart k s = _
    unfold execTapTestStart
    rw [if_pos (startable hrun hk htestable hnone), hwait]
  have hku : k < (s.onDie k fun d => { d with waiting := rest }).dieSt.length := by rw [onDie_len, hlen]; exact hk8
  have hdie : (s.onDie k fun d => { d with waiting := rest }).die k = { s.die k with waiting := rest } := by
    rw [State.die_onDie, if_pos ⟨rfl, by rw [hlen]; exact hk8⟩]
  obtain ⟨htest, hwaits, -, hclosed⟩ := beginTest_die hku w
  rw [hdie] at hwaits hclosed
  exact ⟨_, hexec, hwaits, htest, hclosed, beginTest_testing hku hk hk8 w⟩

theorem execTapTestStart_sweep_claim (k j : Nat) (s : State) : Claims.tapTestSweep k j s := by
  intro hrun hsh hk hk8 htestable hnone hwait hsweep hj
  obtain ⟨hlen, -⟩ := hsh
  have hexec : exec (.tapTestStart k) s = .next ((s.onDie k fun d => { d with sweep := some (j + 1) }).beginTest k ⟨j, 3, 0⟩) := by
    show execTapTestStart k s = _
    unfold execTapTestStart
    rw [if_pos (startable hrun hk htestable hnone), hwait, hsweep]
    dsimp only
    rw [if_pos hj]
  have hku : k < (s.onDie k fun d => { d with sweep := some (j + 1) }).dieSt.length := by rw [onDie_len, hlen]; exact hk8
  obtain ⟨htest, -, hsweeps, -⟩ := beginTest_die hku ⟨j, 3, 0⟩
  rw [State.die_onDie, if_pos ⟨rfl, by rw [hlen]; exact hk8⟩] at hsweeps
  exact ⟨_, hexec, hsweeps, htest⟩

theorem execTapWindowEnd_claim (k : Nat) (x : TapTest) (s : State) : Claims.tapWindowEnd k x s := by
  intro hsh hk8 htest hup hend
  obtain ⟨hlen, -⟩ := hsh
  have hexec : exec (.tapWindowEnd k) s = .next (s.onDie k fun d => { d with test := some { x with pullDown := true } }) := by
    show execTapWindowEnd k s = _
    unfold execTapWindowEnd
    rw [htest]
    dsimp only
    rw [if_pos ⟨hup, hend⟩]
  refine ⟨_, hexec, ?_, rfl⟩
  rw [State.die_onDie, if_pos ⟨rfl, by rw [hlen]; exact hk8⟩]

/-! ### What a test decides -/

/-- A cell moved by 200 mV the expected way, there and back; a cell hardly moved. -/
def movedBy (sign up down : Int) : Bool := decide (200000 ≤ up * sign) && decide (200000 ≤ -(down * sign))
def hardlyMoved (up down : Int) : Bool := decide (absInt up < 1000) && decide (absInt down < 1000)

theorem movedBy_up {up down : Int} : movedBy 1 up down = true ↔ 200000 ≤ up ∧ down ≤ -200000 := by
  unfold movedBy
  rw [Bool.and_eq_true, decide_eq_true_eq, decide_eq_true_eq]
  omega

theorem movedBy_down {up down : Int} : movedBy (-1) up down = true ↔ up ≤ -200000 ∧ 200000 ≤ down := by
  unfold movedBy
  rw [Bool.and_eq_true, decide_eq_true_eq, decide_eq_true_eq]
  omega

theorem hardlyMoved_iff {up down : Int} : hardlyMoved up down = true ↔ -1000 < up ∧ up < 1000 ∧ -1000 < down ∧ down < 1000 := by
  unfold hardlyMoved absInt
  rw [Bool.and_eq_true, decide_eq_true_eq, decide_eq_true_eq]
  omega

/-- A decision between two cells, the lower one of which rises: from what moved, what hardly moved, and the tests before it. -/
def decideTwo (b1 b2 s1 s2 spanBad again : Bool) : Nat × Option Nat :=
  if b1 && b2 then (2, none) else if s1 && s2 && !spanBad then (0, none)
  else if (b1 != b2) && (s1 != s2) then (4, some (if b1 then 4 else 5)) else if again then (5, none) else (3, none)

theorem decideTest_two (up1 down1 up2 down2 : Int) (spanBad : Bool) (incon : Nat) :
    decideTest [(0, 4, 1), (0, 5, -1)] [up1, up2] [down1, down2] spanBad incon =
      decideTwo (movedBy 1 up1 down1) (movedBy (-1) up2 down2) (hardlyMoved up1 down1) (hardlyMoved up2 down2) spanBad (decide (incon < 2)) := by
  have hlists : ∀ (big small : Nat × Int × Int × Int → Bool) (x y : Nat × Int × Int × Int), x.1 = 4 → y.1 = 5 →
      (if ([x, y].all big && [].all small) = true then (2, none)
        else if ([x, y].all small && !spanBad) = true then (0, none)
        else if ([x, y].length == 2 && ([x, y].filter big).length == 1 && ([x, y].filter small).length == 1) = true
          then (4, (([x, y].filter big).head?).map (·.1))
        else if incon < 2 then (5, none) else (3, none)) =
      decideTwo (big x) (big y) (small x) (small y) spanBad (decide (incon < 2)) := fun big small x y hx hy => by
    unfold decideTwo
    simp only [List.filter_cons, List.filter_nil, List.all_cons, List.all_nil, Bool.and_true, decide_eq_true_eq]
    cases big x <;> cases big y <;> cases small x <;> cases small y <;> simp [hx, hy]
  exact hlists (fun e => movedBy e.2.1 e.2.2.1 e.2.2.2) (fun e => hardlyMoved e.2.2.1 e.2.2.2) (4, 1, up1, down1) (5, -1, up2, down2) rfl rfl

theorem decideTest_claim (up1 down1 up2 down2 : Int) (spanBad : Bool) (incon : Nat) :
    Claims.decides up1 down1 up2 down2 spanBad incon := by
  unfold Claims.decides
  dsimp only
  rw [decideTest_two]
  simp only [← movedBy_up, ← movedBy_down, ← hardlyMoved_iff]
  have hone : ¬(movedBy 1 up1 down1 = true ∧ hardlyMoved up1 down1 = true) := by
    rw [movedBy_up, hardlyMoved_iff]
    omega
  have htwo : ¬(movedBy (-1) up2 down2 = true ∧ hardlyMoved up2 down2 = true) := by
    rw [movedBy_down, hardlyMoved_iff]
    omega
  have hcases : ∀ b1 b2 s1 s2 spanBad again : Bool, ¬(b1 = true ∧ s1 = true) → ¬(b2 = true ∧ s2 = true) →
      decideTwo b1 b2 s1 s2 spanBad again = if b1 = true ∧ b2 = true then (2, none)
        else if s1 = true ∧ s2 = true ∧ spanBad = false then (0, none) else if b1 = true ∧ s2 = true then (4, some 4)
        else if s1 = true ∧ b2 = true then (4, some 5) else if again = true then (5, none) else (3, none) := by decide
  rw [hcases _ _ _ _ _ _ hone htwo]
  simp only [decide_eq_true_eq]

/-! ### The die after a decision -/

theorem deciding_onDie {f : DieSt → DieSt} (hf : ∀ d, (f d).deciding = d.deciding) (s : State) (k j : Nat) :
    ((s.onDie k f).die j).deciding = (s.die j).deciding := by
  rw [State.die_onDie]
  split
  · exact hf _
  · rfl

theorem deciding_applyIf {s : State} {j : Nat} {f : State → State} (c : Bool) (hf : ((f s).die j).deciding = (s.die j).deciding) :
    ((s.applyIf c f).die j).deciding = (s.die j).deciding := by
  unfold State.applyIf
  split
  · exact hf
  · rfl

theorem deciding_of_dieSt {s t : State} (h : t.dieSt = s.dieSt) (j : Nat) : (t.die j).deciding = (s.die j).deciding := by
  rw [die_of_dieSt h]

theorem keepEstimates_deciding (s : State) (k j : Nat) (base : Nat → Int × Int) :
    ((s.keepEstimates k base).die j).deciding = (s.die j).deciding := by
  unfold State.keepEstimates
  dsimp only
  rw [deciding_onDie]
  exact fun _ => rfl

theorem keepSpanMode_deciding (s : State) (k j : Nat) : ((s.keepSpanMode k).die j).deciding = (s.die j).deciding := by
  unfold State.keepSpanMode
  dsimp only
  rw [deciding_onDie]
  exact fun _ => rfl

theorem setHarness_deciding (s : State) (k j : Nat) (v : Bool) : ((s.setHarness k v).die j).deciding = (s.die j).deciding :=
  deciding_of_dieSt ((altersOf (alters_setHarness s k v)).dieSt (by decide +kernel)) j

theorem clearTap_deciding (s : State) (k t j : Nat) : ((s.clearTap k t).die j).deciding = (s.die j).deciding :=
  deciding_of_dieSt ((altersOf (alters_clearTap s k t)).dieSt (by decide +kernel)) j

theorem enterTap_deciding (s : State) (k t v j : Nat) : ((s.enterTap k t v).1.die j).deciding = (s.die j).deciding :=
  deciding_of_dieSt ((altersOf (alters_enterTap s k t v)).dieSt (by decide +kernel)) j

theorem goodTest_deciding (s : State) (k t j : Nat) : ((s.goodTest k t).die j).deciding = (s.die j).deciding := by
  have hraise : ∀ (u : State) (p c q : Nat) (l : EventLow) (e : List Nat), ((u.raise p l c q e).die j).deciding = (u.die j).deciding :=
    fun _ _ _ _ _ _ => rfl
  unfold State.goodTest
  split
  · rfl
  · dsimp only
    split
    · rw [hraise, deciding_onDie, clearTap_deciding, deciding_onDie] <;> exact fun _ => rfl
    · rw [deciding_onDie, deciding_onDie] <;> exact fun _ => rfl

theorem badTest_deciding (s : State) (k t v j : Nat) (cell : Option Nat) (base : Nat → Int × Int) :
    ((s.badTest k t v cell base).die j).deciding = (s.die j).deciding := by
  have hflag : ∀ (u : State) (f : Fld) (c : Nat) (l : List Nat), ((u.flagEvent f c l).die j).deciding = (u.die j).deciding :=
    fun u f c l => deciding_of_dieSt (State.flagEvent_dieSt u f c l) j
  unfold State.badTest
  dsimp only
  split
  · rw [keepEstimates_deciding, deciding_applyIf _ (setHarness_deciding ..), deciding_applyIf, deciding_onDie, enterTap_deciding]
    · exact fun _ => rfl
    · split
      · exact hflag ..
      · exact hflag ..
  · rw [setHarness_deciding, deciding_onDie]
    exact fun _ => rfl

theorem sweepEnd_deciding (s : State) (k j : Nat) : ((s.sweepEnd k).die j).deciding = (s.die j).deciding := by
  have hline : ∀ (u : State) (f : FaultLineSt → FaultLineSt), ((u.onLine f).die j).deciding = (u.die j).deciding := fun _ _ => rfl
  have hset : ∀ v, ((s.set F.CMP_OWST_SWEPT v).die j).deciding = (s.die j).deciding := fun v => deciding_of_dieSt (State.set_dieSt ..) j
  have hflag : ∀ u : State, ((u.flag F.CMP_IFLAG_SWEEP).die j).deciding = (u.die j).deciding :=
    fun u => deciding_of_dieSt (State.flag_dieSt ..) j
  unfold State.sweepEnd
  dsimp only
  split
  · rw [hline, hflag, deciding_applyIf _ (setHarness_deciding ..), hline, deciding_onDie, hset]
    exact fun _ => rfl
  · rw [deciding_applyIf _ (setHarness_deciding ..), hline, deciding_onDie, hset]
    exact fun _ => rfl

theorem concludeTest_deciding (s : State) (k j : Nat) (t : TapTest) (r : Nat × Option Nat) :
    ((s.concludeTest k t r).die j).deciding = (s.die j).deciding := by
  unfold State.concludeTest
  dsimp only
  rw [deciding_applyIf _ (keepSpanMode_deciding ..), deciding_applyIf _ (sweepEnd_deciding ..)]
  split
  · rw [keepEstimates_deciding, goodTest_deciding]
  · rw [badTest_deciding]

/-! ### An inconclusive test -/

theorem mem_insertTest (t : PendingTest) (l : List PendingTest) : t ∈ insertTest t l := by
  induction l with
  | nil => exact List.mem_singleton_self t
  | cons w l ih =>
    unfold insertTest
    split
    · exact List.mem_cons_self
    · exact List.mem_cons_of_mem _ ih

theorem requeue_die {s : State} {k : Nat} (hk : k < s.dieSt.length) (t : TapTest) :
    ⟨t.tap, t.prio, t.incon⟩ ∈ ((s.requeue k t).die k).waiting ∧ ((s.requeue k t).die k).deciding = (s.die k).deciding := by
  unfold State.requeue
  rw [State.die_onDie, if_pos ⟨rfl, hk⟩]
  split
  next h =>
    rw [h]
    exact ⟨mem_insertTest _ _, rfl⟩
  next => exact ⟨mem_insertTest _ _, rfl⟩

theorem repeatTest_die {s : State} {k : Nat} (hk : k < s.dieSt.length) (hnone : (s.die k).test = none) (t : TapTest) :
    ⟨t.tap, t.prio, t.incon + 1⟩ ∈ ((s.repeatTest k t).die k).waiting ∧ ((s.repeatTest k t).die k).deciding = (s.die k).deciding := by
  unfold State.repeatTest
  rw [hnone]
  dsimp only
  obtain ⟨hmem, hdec⟩ := requeue_die (s := s.onDie k fun d => { d with goodOnce := d.goodOnce.filter (· != t.tap) }) (k := k)
    (by rw [onDie_len]; exact hk) { t with incon := t.incon + 1 }
  exact ⟨hmem, hdec.trans (deciding_onDie (f := fun d => { d with goodOnce := d.goodOnce.filter (· != t.tap) }) (fun _ => rfl) s k k)⟩

/-! ### The table after a decision -/

/-- The words of the tap table. -/
def tapWords : List Nat := (List.range 16).map fun e => wordBit (F.CMP_TAP_STATE.at e).addr

theorem tapEntry_of_alters {m : Nat} {s t : State} (h : Alters m s t) (hm : (tapWords.all fun b => !m.testBit b) = true) {e : Nat}
    (he : e < 16) : t.tapEntryState e = s.tapEntryState e ∧ t.get (F.CMP_TAP_DIE.at e) = s.get (F.CMP_TAP_DIE.at e) ∧
      t.get (F.CMP_TAP_TAP.at e) = s.get (F.CMP_TAP_TAP.at e) := by
  have hfree : m.testBit (wordBit (F.CMP_TAP_STATE.at e).addr) = false :=
    (Bool.not_eq_true' _).mp (List.all_eq_true.mp hm _ (List.mem_map.mpr ⟨e, List.mem_range.mpr he, rfl⟩))
  exact ⟨h.get _ hfree, h.get _ hfree, h.get _ hfree⟩

theorem find?_congr_mem {α : Type} {p q : α → Bool} {l : List α} (h : ∀ a ∈ l, p a = q a) : l.find? p = l.find? q := by
  induction l with
  | nil => rfl
  | cons a l ih =>
    rw [List.find?_cons, List.find?_cons, h a List.mem_cons_self, ih fun b hb => h b (List.mem_cons_of_mem _ hb)]

theorem tapSlot_of_alters {m : Nat} {s t : State} (h : Alters m s t) (hm : (tapWords.all fun b => !m.testBit b) = true) (k n : Nat) :
    t.tapSlot k n = s.tapSlot k n :=
  find?_congr_mem fun e he => by
    obtain ⟨h1, h2, h3⟩ := tapEntry_of_alters h hm (List.mem_range.mp he)
    rw [h1, h2, h3]

theorem tapSlot_lt {s : State} {k n e : Nat} (h : s.tapSlot k n = some e) : e < 16 := List.mem_range.mp (List.mem_of_find?_eq_some h)

theorem tapState_of_alters {m : Nat} {s t : State} (h : Alters m s t) (hm : (tapWords.all fun b => !m.testBit b) = true) (k n : Nat) :
    t.tapState k n = s.tapState k n := by
  unfold State.tapState
  rw [tapSlot_of_alters h hm]
  cases hslot : s.tapSlot k n with
  | none => rfl
  | some e => exact (tapEntry_of_alters h hm (tapSlot_lt hslot)).1

/-- A tap in the table takes a state other than 0 there. -/
theorem tapState_entered {s : State} {k n e v : Nat} (h : s.tapSlot k n = some e) (hv : v ≠ 0) (hv8 : v < 8) :
    (s.set (F.CMP_TAP_STATE.at e) v).tapState k n = v := by
  have hstate : ∀ e < 16, (F.CMP_TAP_STATE.at e).okay = true ∧ v < 2 ^ ((F.CMP_TAP_STATE.at e).hi + 1 - (F.CMP_TAP_STATE.at e).lo) :=
    fun e he => ⟨by interval_cases e <;> rfl, by interval_cases e <;> exact hv8⟩
  have hwords : ∀ e < 16, ∀ d < 16, e ≠ d → (F.CMP_TAP_STATE.at e).leaves (F.CMP_TAP_STATE.at d) = true := by decide +kernel
  have hsame : ∀ e < 16, ∀ d < 16, (F.CMP_TAP_STATE.at e).leaves (F.CMP_TAP_DIE.at d) = true ∧
      (F.CMP_TAP_STATE.at e).leaves (F.CMP_TAP_TAP.at d) = true := by decide +kernel
  have he := tapSlot_lt h
  have hself : (s.set (F.CMP_TAP_STATE.at e) v).tapEntryState e = v := State.get_set_lt (hstate e he).1 (hstate e he).2 s
  have hslot : (s.set (F.CMP_TAP_STATE.at e) v).tapSlot k n = s.tapSlot k n := find?_congr_mem fun d hd => by
    have hd := List.mem_range.mp hd
    rw [State.get_set_leaves (hsame e he d hd).1, State.get_set_leaves (hsame e he d hd).2]
    by_cases hed : e = d
    · subst hed
      have hwas := List.find?_some h
      rw [Bool.and_eq_true, Bool.and_eq_true, bne_iff_ne] at hwas
      rw [hself, bne_iff_ne.mpr hv, bne_iff_ne.mpr hwas.1.1]
    · have hother : (s.set (F.CMP_TAP_STATE.at e) v).tapEntryState d = s.tapEntryState d := State.get_set_leaves (hwords e he d hd hed) s v
      rw [hother]
  unfold State.tapState
  rw [hslot, h]
  exact hself

/-- What the rest of a decision may alter once the tap has its state. -/
def concludeMask : Nat :=
  setMask F.CMP_IFLAG_INPUT ||| setMask F.CMP_IFLAG_BROKEN ||| partRsm ||| alt_onDie ||| alt_keepEstimates ||| alt_setHarness ||| alt_sweepEnd |||
    alt_keepSpanMode ||| alt_showTests

theorem badTest_rest {s : State} {k n e : Nat} (h : s.tapSlot k n = some e) (v : Nat) (cell : Option Nat) (base : Nat → Int × Int) :
    Alters concludeMask (s.set (F.CMP_TAP_STATE.at e) v) (s.badTest k n v cell base) := by
  have henter : s.enterTap k n v = (s.set (F.CMP_TAP_STATE.at e) v, true) := by
    unfold State.enterTap
    rw [h]
  unfold State.badTest
  rw [henter]
  dsimp only
  rw [if_pos rfl]
  refine alters_keepEstimates _ _ _ (sub_of_and (by decide +kernel)) (alters_applyIf (fun t ht => alters_setHarness _ _ _ (sub_of_and (by decide +kernel)) ht)
    (alters_applyIf (fun t ht => ?_) (alters_onDie _ _ _ (sub_of_and (by decide +kernel)) (alters_refl _ _))))
  split
  · exact alters_flagEvent (sub_of_and (by decide +kernel)) (sub_of_and (by decide +kernel)) ht
  · exact alters_flagEvent (sub_of_and (by decide +kernel)) (sub_of_and (by decide +kernel)) ht

theorem concludeTest_rest {s : State} {k e : Nat} {t : TapTest} (h : s.tapSlot k t.tap = some e) {r : Nat × Option Nat} (hr : r.1 ≠ 0) :
    Alters concludeMask (s.set (F.CMP_TAP_STATE.at e) r.1) (s.concludeTest k t r) := by
  unfold State.concludeTest
  dsimp only
  rw [if_neg hr]
  exact alters_applyIf (fun u hu => alters_keepSpanMode _ _ (sub_of_and (by decide +kernel)) hu)
    (alters_applyIf (fun u hu => alters_sweepEnd _ _ (sub_of_and (by decide +kernel)) hu) (badTest_rest h _ _ _))

/-! ### The last completed test -/

theorem smallerMove_lt (cells : List (Nat × Nat × Int)) (moves : List Int) : smallerMove cells moves < 1024 := by
  unfold smallerMove
  dsimp only
  split <;> omega

theorem showLast_shown {out k t up down : Nat} (ho : out < 4) (hk : k < 8) (ht : t < 128) (hu : up < 1024) (hd : down < 1024) (s : State) :
    (s.showLast k t out up down).get F.CMP_OWLAST_OUT = out ∧ (s.showLast k t out up down).get F.CMP_OWLAST_DIE = k ∧
    (s.showLast k t out up down).get F.CMP_OWLAST_TAP = t := by
  have hword : (s.showLast k t out up down).reg F.CMP_OWLAST_OUT.addr =
      BitVec.ofNat 32 (out * 2 ^ 30 + k * 2 ^ 27 + t * 2 ^ 20 + up * 1024 + down) := State.reg_put_same ..
  have hget : ∀ f : Fld, f.addr = F.CMP_OWLAST_OUT.addr → (s.showLast k t out up down).get f =
      (out * 2 ^ 30 + k * 2 ^ 27 + t * 2 ^ 20 + up * 1024 + down) / 2 ^ f.lo % 2 ^ (f.hi + 1 - f.lo) := fun f hf => by
    unfold State.get bitsOf
    have hlt : out * 2 ^ 30 + k * 2 ^ 27 + t * 2 ^ 20 + up * 1024 + down < 2 ^ 32 := by omega
    rw [hf, hword, BitVec.toNat_ofNat, Nat.mod_eq_of_lt hlt]
  refine ⟨(hget F.CMP_OWLAST_OUT rfl).trans ?_, (hget F.CMP_OWLAST_DIE rfl).trans ?_, (hget F.CMP_OWLAST_TAP rfl).trans ?_⟩
  · show _ / 2 ^ 30 % 2 ^ 2 = _
    omega
  · show _ / 2 ^ 27 % 2 ^ 3 = _
    omega
  · show _ / 2 ^ 20 % 2 ^ 7 = _
    omega

/-! ### The decision -/

/-- A test leaves its die, and CMP_OWLAST shows it. -/
def State.testShown (s : State) (k : Nat) (x : TapTest) (up down : List Int) (r : Nat) : State :=
  (s.onDie k fun d => { d with deciding := none }).showLast k x.tap (if r = 0 then 0 else if r = 5 then 2 else if r = 4 then 3 else 1)
    (smallerMove x.cells up) (smallerMove x.cells down)

/-- A decided test. -/
def State.testDecided (s : State) (k : Nat) (x : TapTest) (r : Nat × Option Nat) : State :=
  (if r.1 = 5 then s.repeatTest k x else s.concludeTest k x r).showTests

theorem execTapTestDecide_eq {s : State} {k : Nat} {x : TapTest} {b u d : List Int} (hnone : (s.die k).test = none)
    (hdec : (s.die k).deciding = some x) (hb : x.base = some b) (hu : x.up = some u) (hd : x.down = some d) :
    exec (.tapTestDecide k) s = .next ((s.testShown k x (List.zipWith (· - ·) u b) (List.zipWith (· - ·) d u)
      (decideTest x.cells (List.zipWith (· - ·) u b) (List.zipWith (· - ·) d u) (s.spanBad k x.tap) x.incon).1).testDecided k x
      (decideTest x.cells (List.zipWith (· - ·) u b) (List.zipWith (· - ·) d u) (s.spanBad k x.tap) x.incon)) := by
  show execTapTestDecide k s = _
  unfold execTapTestDecide
  rw [hnone]
  dsimp only
  unfold execTapTestDecide.decided
  rw [hdec]
  dsimp only
  rw [hb, hu, hd]
  rfl

theorem testShown_die {s : State} {k : Nat} (hk : k < s.dieSt.length) (x : TapTest) (up down : List Int) (r : Nat) :
    (s.testShown k x up down r).die k = { s.die k with deciding := none } := by
  have hput : (s.testShown k x up down r).dieSt = (s.onDie k fun d => { d with deciding := none }).dieSt := State.put_dieSt ..
  rw [die_of_dieSt hput, State.die_onDie, if_pos ⟨rfl, hk⟩]

theorem testShown_len (s : State) (k : Nat) (x : TapTest) (up down : List Int) (r : Nat) :
    (s.testShown k x up down r).dieSt.length = s.dieSt.length := by
  have hput : (s.testShown k x up down r).dieSt = (s.onDie k fun d => { d with deciding := none }).dieSt := State.put_dieSt ..
  rw [hput, onDie_len]

theorem testShown_alters (s : State) (k : Nat) (x : TapTest) (up down : List Int) (r : Nat) :
    Alters (alt_onDie ||| setMask F.CMP_OWLAST_OUT) s (s.testShown k x up down r) :=
  alters_putF (sub_of_and (by decide +kernel)) (alters_onDie _ _ _ (sub_of_and (by decide +kernel)) (alters_refl _ s))

/-- What a decision may alter beside the die. -/
def decideMask : Nat := alt_repeatTest ||| alt_concludeTest ||| alt_showTests

theorem testDecided_alters (s : State) (k : Nat) (x : TapTest) (r : Nat × Option Nat) : Alters decideMask s (s.testDecided k x r) := by
  unfold State.testDecided
  refine alters_showTests _ (sub_of_and (by decide +kernel)) ?_
  split
  · exact alters_repeatTest _ _ _ (sub_of_and (by decide +kernel)) (alters_refl _ s)
  · exact alters_concludeTest _ _ _ _ (sub_of_and (by decide +kernel)) (alters_refl _ s)

theorem execTapTestDecide_claim (k : Nat) (x : TapTest) (s : State) : Claims.tapTestDecide k x s := by
  intro hsh hk8 htap hnone hdec hb hu hd
  obtain ⟨hlen, -⟩ := hsh
  have hkl : k < s.dieSt.length := by rw [hlen]; exact hk8
  obtain ⟨b, hb⟩ := Option.isSome_iff_exists.mp hb
  obtain ⟨u, hu⟩ := Option.isSome_iff_exists.mp hu
  obtain ⟨d, hd⟩ := Option.isSome_iff_exists.mp hd
  have hexec := execTapTestDecide_eq hnone hdec hb hu hd
  rw [hb, hu, hd]
  dsimp only [Option.getD_some]
  generalize List.zipWith (fun x y : Int => x - y) u b = up at hexec ⊢
  generalize List.zipWith (fun x y : Int => x - y) d u = down at hexec ⊢
  generalize decideTest x.cells up down (s.spanBad k x.tap) x.incon = r at hexec ⊢
  obtain ⟨hout, hdie, hlast⟩ := showLast_shown (out := if r.1 = 0 then 0 else if r.1 = 5 then 2 else if r.1 = 4 then 3 else 1)
    (by split <;> [omega; (split <;> [omega; (split <;> omega)])]) hk8 (show x.tap < 128 by omega) (smallerMove_lt x.cells up)
    (smallerMove_lt x.cells down) (s.onDie k fun d => { d with deciding := none })
  have hshownDie := testShown_die hkl x up down r.1
  have hslot : (s.testShown k x up down r.1).tapSlot k x.tap = s.tapSlot k x.tap :=
    tapSlot_of_alters (testShown_alters s k x up down r.1) (by decide +kernel) k x.tap
  have hshownLen : k < (s.testShown k x up down r.1).dieSt.length := by rw [testShown_len]; exact hkl
  have hafter := testDecided_alters (s.testShown k x up down r.1) k x r
  refine ⟨_, hexec, ?_, (hafter.get _ (by decide +kernel)).trans hdie, (hafter.get _ (by decide +kernel)).trans hlast,
    (hafter.get _ (by decide +kernel)).trans hout, fun hr => ?_, fun h2 h4 hsome => ?_⟩
  · unfold State.testDecided
    rw [showTests_die]
    split
    · rw [(repeatTest_die hshownLen (by rw [hshownDie]; exact hnone) x).2, hshownDie]
    · rw [concludeTest_deciding, hshownDie]
  · unfold State.testDecided
    rw [showTests_die, if_pos hr]
    exact (repeatTest_die hshownLen (by rw [hshownDie]; exact hnone) x).1
  · obtain ⟨e, he⟩ := Option.isSome_iff_exists.mp hsome
    rw [← hslot] at he
    have hrest : Alters concludeMask ((s.testShown k x up down r.1).set (F.CMP_TAP_STATE.at e) r.1)
        ((s.testShown k x up down r.1).testDecided k x r) := by
      unfold State.testDecided
      rw [if_neg (by omega)]
      exact alters_showTests _ (sub_of_and (by decide +kernel)) (concludeTest_rest he (by omega))
    rw [tapState_of_alters hrest (by decide +kernel), tapState_entered he (by omega) (by omega)]

end Sys2Proof.Machine

/-- Settles O20: the table entry of a decided tap is named before the other effects of the decision, which leave the table alone. -/
theorem tapTests : Obligations.TapTests := by
  unfold Obligations.TapTests
  exact ⟨Sys2Proof.Machine.execSweepStart_claim, Sys2Proof.Machine.execOwRequest_claim, Sys2Proof.Machine.execOwRequest_refused_claim,
    Sys2Proof.Machine.execTapTestStart_claim, Sys2Proof.Machine.execTapTestStart_sweep_claim, Sys2Proof.Machine.execTapWindowEnd_claim,
    Sys2Proof.Machine.decideTest_claim, Sys2Proof.Machine.execTapTestDecide_claim⟩

end

section
/-! The current channels, zeroing, and the calibration of the string and link voltages (R198, R199, R207). -/
set_option Elab.async false
namespace Sys2Proof.Machine
open Host

/-- A journaled write stands in the journal. -/
theorem mem_journalWrite (s : State) (old : List Kept) : ∃ e ∈ (s.journalWrite old).journal, e.old = old := by
  have hkept : (s.journalWrite old).journal = s.journal ++ [⟨s.coreParty, old⟩] :=
    (altersOf (alters_acquireLease ({ s with journal := s.journal ++ [⟨s.coreParty, old⟩] } : State) 0 s.coreParty)).journal (by decide +kernel)
  rw [hkept]
  exact ⟨_, List.mem_append_right _ (List.mem_singleton_self _), rfl⟩

/-! ### The agreement check -/

theorem execCurrentSuspect_claim (s : State) : Claims.currentSuspect s := by
  intro hrun hdue
  have hexec : exec .currentSuspect s = .next s.enterSuspect := if_pos (by rw [hrun, hdue]; rfl)
  have hcur : s.enterSuspect.cur.suspect = true ∧ s.enterSuspect.cur.bad = s.badRange ∧
      (s.cur.suspect = false → s.enterSuspect.cur.suspectSince = some s.now) := by
    unfold State.enterSuspect
    dsimp only
    split
    next h => exact ⟨h, rfl, fun hf => absurd (h.symm.trans hf) (by decide)⟩
    next =>
      rw [State.flagEvent_cur, State.setOn_cur]
      exact ⟨rfl, rfl, fun _ => rfl⟩
  obtain ⟨hsuspect, hbad, hsince⟩ := hcur
  have hstat : s.enterSuspect.get F.CUR_STAT_SUSPECT = s.get F.CUR_STAT_SUSPECT ∧ s.enterSuspect.get F.CUR_STAT_BAD = s.get F.CUR_STAT_BAD :=
    ⟨(altersOf (alters_enterSuspect s)).get _ (by decide +kernel), (altersOf (alters_enterSuspect s)).get _ (by decide +kernel)⟩
  refine ⟨_, hexec, hsuspect, fun h0 ha => ?_, fun h0 hb => ?_, hstat.1, hstat.2, fun hf => ⟨?_, hsince hf, ?_⟩⟩
  · rw [hbad]
    unfold State.badRange
    rw [bit_withBit, if_neg (by decide), bit_withBit_same, h0, decide_eq_true ha]
    exact Bool.or_true _
  · rw [hbad]
    unfold State.badRange
    rw [bit_withBit_same, h0, decide_eq_true hb]
    exact Bool.or_true _
  · unfold State.enterSuspect
    dsimp only
    rw [if_neg (by rw [hf]; decide)]
    exact State.on_flagEvent_okay (f := F.CUR_IFLAG_SUSPECT) (by decide) _ _ _
  · unfold State.enterSuspect
    dsimp only
    rw [if_neg (by rw [hf]; decide)]
    exact raised_flagEvent (by rw [State.setOn_rsm]) F.CUR_IFLAG_SUSPECT 2 _

theorem execCurrentAgreed_claim (s : State) : Claims.currentAgreed s := by
  intro hrun hsuspect hbad hagree h0
  have hexec : exec .currentAgreed s = .next ((({ s with cur := { s.cur with suspect := false, suspectSince := none } } : State).setOn
      F.CUR_PSTAT_SUSPECT false).flagEvent F.CUR_IFLAG_AGREED 0 [F.CUR_STAT_SUSPECT.addr]) :=
    if_pos (by rw [hrun, hsuspect, hbad, decide_eq_true hagree, h0]; rfl)
  refine ⟨_, hexec, ?_, State.on_flagEvent_okay (by decide) _ _ _, ?_, raised_flagEvent (by rw [State.setOn_rsm]) F.CUR_IFLAG_AGREED 0 _⟩
  · rw [State.flagEvent_cur, State.setOn_cur]
  · rw [State.flagEvent_cur, State.setOn_cur]

/-! ### Zeroing -/

theorem zeroCondition_of_twin {u s : State} (hu : twin u s.refreshShown) : u.zeroCondition = s.zeroCondition := by
  unfold State.zeroCondition State.cdLive
  simp (disch := decide) only [State.get_of_twin hu]

theorem curZero_served {s : State} {l : Link} (h : s.takes l) : ∃ u, twin u s.refreshShown ∧ ∃ t, exec (.curZero l) s = .next t ∧
    (s.cdLive 1 = false → twin t (u.startZero true) ∧ Claims.granted t l) ∧ (s.cdLive 1 = true → twin t u ∧ Claims.refusedWith t l 0x0A) := by
  obtain ⟨u, hu, htwin, hrefused, hgranted⟩ := hostWrite_full h 0x08 0xE0 1 rfl rfl rfl (.inl rfl)
  have hwrite : u.command l 0x08 0xE0 1 = if (1 : Word) ≠ 1 ∨ u.zeroCondition = false then (u, some 0x0A) else (u.startZero true, none) := rfl
  have hcond : u.zeroCondition = !s.cdLive 1 := zeroCondition_of_twin hu
  generalize u.command l 0x08 0xE0 1 = r at hwrite htwin hrefused hgranted
  refine ⟨u, hu, _, rfl, fun hopen => ?_, fun hclosed => ?_⟩
  · rw [if_neg (by rw [hcond, hopen]; decide)] at hwrite
    subst hwrite
    dsimp only at htwin hgranted
    exact ⟨htwin, hgranted rfl⟩
  · rw [if_pos (.inr (by rw [hcond, hclosed]; rfl))] at hwrite
    subst hwrite
    exact ⟨htwin, hrefused _ rfl⟩

theorem startZero_started (s : State) (host : Bool) : (s.startZero host).cur.zeroing = some { host := host } ∧
    (s.startZero host).on F.CUR_PSTAT_ZEROING = true := by
  unfold State.startZero
  rw [State.setOn_cur]
  exact ⟨rfl, State.on_setOn_okay (by decide) _ _⟩

theorem execCurZero_claim (l : Link) (s : State) : Claims.curZero l s := by
  intro h hopen
  obtain ⟨u, hu, t, ht, hserved, -⟩ := curZero_served h
  obtain ⟨htwin, hgranted⟩ := hserved hopen
  exact ⟨t, ht, hgranted, by rw [cur_of_aside htwin.1]; exact (startZero_started u true).1,
    by rw [on_of_linksAside htwin.1]; exact (startZero_started u true).2⟩

theorem execCurZero_refused_claim (l : Link) (s : State) : Claims.curZeroRefused l s := by
  intro h hclosed
  obtain ⟨u, hu, t, ht, -, hserved⟩ := curZero_served h
  obtain ⟨htwin, hrefused⟩ := hserved hclosed
  exact ⟨t, ht, hrefused, linksAside_trans htwin.1 hu.1⟩

theorem execZeroAutoStart_claim (e : Nat) (s : State) : Claims.zeroAutoStart e s := by
  intro hrun hauto hopen hnone hsince
  have hexec : exec .zeroAutoStart s = .next ((s.advanceTo (e + 10000000)).startZero false) := by
    show execZeroAutoStart s = _
    unfold execZeroAutoStart
    rw [hsince]
    dsimp only
    rw [if_pos (by unfold State.zeroCondition; rw [hrun, hauto, hopen, hnone]; rfl)]
  obtain ⟨hzero, hshown⟩ := startZero_started (s.advanceTo (e + 10000000)) false
  refine ⟨_, hexec, hzero, ?_, hshown⟩
  unfold State.startZero
  rw [State.setOn_now]
  rfl

/-- The offsets and BAD as a zeroing ends. -/
def State.zeroTaken (s : State) (z : ZeroRun) : CurrentSt :=
  { s.cur with
    ofsA := if s.zeroOk z.sumA then roundDiv z.sumA 1024 else s.cur.ofsA
    ofsB := if s.zeroOk z.sumB then roundDiv z.sumB 1024 else s.cur.ofsB
    bad := withBit (withBit s.cur.bad 0 !s.zeroOk z.sumA) 1 !s.zeroOk z.sumB }

theorem zeroOutcome_parts (s : State) (z : ZeroRun) : (s.zeroOutcome z).cur = s.zeroTaken z ∧ (s.zeroOutcome z).journal = s.journal := by
  have hflag : ∀ (u : State) (b : Bool), (u.applyIf b fun s => s.flagEvent F.CUR_IFLAG_ZFAIL 2).cur = u.cur ∧
      (u.applyIf b fun s => s.flagEvent F.CUR_IFLAG_ZFAIL 2).journal = u.journal := fun u b => by
    unfold State.applyIf
    split
    · exact ⟨State.flagEvent_cur .., State.flagEvent_journal ..⟩
    · exact ⟨rfl, rfl⟩
  unfold State.zeroOutcome
  dsimp only
  rw [(hflag _ _).1, (hflag _ _).1, (hflag _ _).2, (hflag _ _).2]
  exact ⟨rfl, rfl⟩

theorem zeroOutcome_raised {s : State} {z : ZeroRun} (h : s.zeroOk z.sumA = false ∨ s.zeroOk z.sumB = false) :
    raised s (s.zeroOutcome z) 0x08 (.flag F.CUR_IFLAG_ZFAIL.lo) 2 := by
  have hfirst : ∀ (u : State), u.rsm.inbox = s.rsm.inbox →
      raised s (u.flagEvent F.CUR_IFLAG_ZFAIL 2) 0x08 (.flag F.CUR_IFLAG_ZFAIL.lo) 2 :=
    fun u hu => raised_flagEvent hu F.CUR_IFLAG_ZFAIL 2 []
  unfold State.zeroOutcome State.applyIf
  dsimp only
  rcases Bool.eq_false_or_eq_true (s.zeroOk z.sumA) with ha | ha
  · rw [h.resolve_left (by rw [ha]; decide), ha, if_neg (show ¬(!true) = true by decide), if_pos (show (!false) = true from rfl)]
    exact hfirst _ rfl
  · rw [ha, if_pos (show (!false) = true from rfl)]
    split
    · exact raised_flagEvent_of_sends (by rfl) F.CUR_IFLAG_ZFAIL 2 [] (sends_flagEvent (sends_refl _))
    · exact hfirst _ rfl

/-- The end of a zeroing. -/
def State.zeroEnded (s : State) (z : ZeroRun) (saved : SavedSt) : State :=
  (s.zeroOutcome z).applyIf z.host fun t => t.saveOffsets.journalWrite [.saved saved]

/-- The run is over, and the page shows it. -/
def State.zeroShown (s : State) : State :=
  (({ s with cur := { s.cur with zeroing := none } } : State).setOn F.CUR_PSTAT_ZEROING false).flag F.CUR_IFLAG_ZDONE

theorem execZeroingDone_eq {s : State} {z : ZeroRun} (h : s.cur.zeroing = some z) (h1024 : 1024 ≤ z.frames) :
    exec .zeroingDone s = .next (s.zeroEnded z s.saved).zeroShown := by
  show execZeroingDone s = _
  unfold execZeroingDone
  rw [h]
  dsimp only
  rw [if_pos h1024]
  rfl

theorem zeroEnded_cur (s : State) (z : ZeroRun) (saved : SavedSt) : (s.zeroEnded z saved).cur = s.zeroTaken z := by
  unfold State.zeroEnded State.applyIf
  split
  · rw [(altersOf (alters_journalWrite _ _)).cur (by decide +kernel)]
    exact (zeroOutcome_parts s z).1
  · exact (zeroOutcome_parts s z).1

theorem zeroEnded_rsm (s : State) (z : ZeroRun) (saved : SavedSt) : (s.zeroEnded z saved).rsm = (s.zeroOutcome z).rsm := by
  unfold State.zeroEnded State.applyIf
  split
  · rw [(altersOf (alters_journalWrite _ _)).rsm (by decide +kernel)]
    rfl
  · rfl

theorem zeroShown_parts (u : State) : u.zeroShown.cur = { u.cur with zeroing := none } ∧ u.zeroShown.rsm = u.rsm ∧
    u.zeroShown.journal = u.journal ∧ u.zeroShown.on F.CUR_PSTAT_ZEROING = false ∧ u.zeroShown.on F.CUR_IFLAG_ZDONE = true := by
  unfold State.zeroShown
  rw [State.flag_cur, State.setOn_cur, State.flag_rsm, State.setOn_rsm, State.flag_journal, State.setOn_journal,
    State.on_flag_leaves (by decide)]
  exact ⟨rfl, rfl, rfl, State.on_setOn_okay (by decide) _ _, State.on_flag_okay (by decide) _⟩

theorem execZeroingDone_claim (z : ZeroRun) (s : State) : Claims.zeroingDone z s := by
  intro hz h1024
  have hexec := execZeroingDone_eq hz h1024
  have hcur := zeroEnded_cur s z s.saved
  have hrsm := zeroEnded_rsm s z s.saved
  have hhost : z.host = true → ∃ e ∈ (s.zeroEnded z s.saved).journal, e.old = [.saved s.saved] := fun h => by
    unfold State.zeroEnded State.applyIf
    rw [if_pos h]
    exact mem_journalWrite _ _
  have hself : z.host = false → (s.zeroEnded z s.saved).journal = s.journal := fun h => by
    unfold State.zeroEnded State.applyIf
    rw [if_neg (by rw [h]; decide)]
    exact (zeroOutcome_parts s z).2
  generalize s.zeroEnded z s.saved = u at hexec hcur hrsm hhost hself
  obtain ⟨htcur, htrsm, htjournal, hzeroing, hflag⟩ := zeroShown_parts u
  generalize u.zeroShown = t at hexec htcur htrsm htjournal hzeroing hflag
  rw [hcur] at htcur
  have hraised : s.zeroOk z.sumA = false ∨ s.zeroOk z.sumB = false → raised s t 0x08 (.flag F.CUR_IFLAG_ZFAIL.lo) 2 := fun h => by
    obtain ⟨e, he, hp⟩ := zeroOutcome_raised h
    rw [← hrsm, ← htrsm] at he
    exact ⟨e, he, hp⟩
  have hin : ∀ {x : Int}, absInt x ≤ s.get F.CUR_ZCFG_ZMAX * 100 * 1024 → s.zeroOk x = true := fun h => decide_eq_true h
  have hout : ∀ {x : Int}, s.get F.CUR_ZCFG_ZMAX * 100 * 1024 < absInt x → s.zeroOk x = false := fun h => decide_eq_false (by omega)
  refine ⟨t, hexec, by rw [htcur], hflag, hzeroing, fun h => ?_, fun h => ?_, fun h => ?_, fun h => ?_, fun h => ?_, fun h => ?_⟩
  · rw [htcur]
    unfold State.zeroTaken
    rw [hin h]
    exact ⟨rfl, by rw [bit_withBit, if_neg (by decide), bit_withBit_same]; rfl⟩
  · refine ⟨?_, ?_, hraised (.inl (hout h))⟩
    · rw [htcur]
      unfold State.zeroTaken
      rw [hout h]
      rfl
    · rw [htcur]
      unfold State.zeroTaken
      rw [hout h]
      dsimp only
      rw [bit_withBit, if_neg (by decide), bit_withBit_same]
      rfl
  · rw [htcur]
    unfold State.zeroTaken
    rw [hin h]
    exact ⟨rfl, by rw [bit_withBit_same]; rfl⟩
  · refine ⟨?_, ?_, hraised (.inr (hout h))⟩
    · rw [htcur]
      unfold State.zeroTaken
      rw [hout h]
      rfl
    · rw [htcur]
      unfold State.zeroTaken
      rw [hout h]
      dsimp only
      rw [bit_withBit_same]
      rfl
  · rw [htjournal]
    exact hhost h
  · rw [htjournal]
    exact hself h

/-! ### Calibration -/

theorem calReady_of_twin {u s : State} (hu : twin u s.refreshShown) (n : Nat) : u.calReady n = s.calReady n := by
  unfold State.calReady State.getInt State.on
  simp (disch := decide) only [State.get_of_twin hu]

/-- A calibration run begins. -/
def State.calBegun (s : State) (n : Nat) : State := { s with cur := { s.cur with cal := some { cmd := n } } }

theorem linksAside_calBegun {u s : State} (hu : twin u s.refreshShown) (n : Nat) :
    linksAside (u.calBegun n) { s.refreshShown with cur := { s.cur with cal := some { cmd := n } } } := by
  have hcur := cur_of_twin hu
  have hside := hu.1
  unfold State.calBegun linksAside at *
  rw [hcur, hside]

theorem stvCal_served {s : State} {l : Link} (h : s.takes l) {v : Word} (hv : v = 1 ∨ v = 2) : ∃ u, twin u s.refreshShown ∧
    (s.calReady v.toNat = true → twin (s.hostWrite l 0x09 0xE0 v) (u.calBegun v.toNat) ∧ Claims.granted (s.hostWrite l 0x09 0xE0 v) l) ∧
    (s.calReady v.toNat = false → twin (s.hostWrite l 0x09 0xE0 v) u ∧ Claims.refusedWith (s.hostWrite l 0x09 0xE0 v) l 0x0A) := by
  obtain ⟨u, hu, htwin, hrefused, hgranted⟩ := hostWrite_full h 0x09 0xE0 v rfl rfl rfl (.inl rfl)
  have hwrite : u.command l 0x09 0xE0 v = if u.calReady v.toNat then (u.calBegun v.toNat, none) else (u, some 0x0A) := by
    show u.writeCal v = _
    unfold State.writeCal
    rw [if_neg (by rcases hv with rfl | rfl <;> decide), if_pos hv]
    rfl
  rw [calReady_of_twin hu] at hwrite
  generalize u.command l 0x09 0xE0 v = r at hwrite htwin hrefused hgranted
  refine ⟨u, hu, fun hready => ?_, fun hnot => ?_⟩
  · rw [if_pos hready] at hwrite
    subst hwrite
    dsimp only at htwin hgranted
    exact ⟨htwin, hgranted rfl⟩
  · rw [if_neg (by rw [hnot]; decide)] at hwrite
    subst hwrite
    exact ⟨htwin, hrefused _ rfl⟩

theorem execStvCalStr_claim (l : Link) (s : State) : Claims.stvCalStr l s := by
  intro h hvalid
  obtain ⟨u, hu, hserved, -⟩ := stvCal_served h (v := 1) (.inl rfl)
  obtain ⟨htwin, hgranted⟩ := hserved hvalid
  exact ⟨_, rfl, hgranted, linksAside_trans htwin.1 (linksAside_calBegun hu 1)⟩

theorem execStvCalStr_refused_claim (l : Link) (s : State) : Claims.stvCalStrRefused l s := by
  intro h hvalid
  obtain ⟨u, hu, -, hserved⟩ := stvCal_served h (v := 1) (.inl rfl)
  obtain ⟨htwin, hrefused⟩ := hserved hvalid
  exact ⟨_, rfl, hrefused, linksAside_trans htwin.1 hu.1⟩

theorem execStvCalLnk_claim (l : Link) (s : State) : Claims.stvCalLnk l s := by
  intro h hclosed hcurrent hs
  obtain ⟨u, hu, hserved, -⟩ := stvCal_served h (v := 2) (.inr rfl)
  have hready : s.calReady (2 : Word).toNat = true := by
    have hall : (List.range 2).all (fun m => bit (s.get F.PRT_STAT_COIL) m && bit (s.get F.PRT_STAT_AUX) m) = true :=
      List.all_eq_true.mpr fun m hm => by
        obtain ⟨h1, h2⟩ := hclosed m (List.mem_range.mp hm)
        rw [h1, h2]
        rfl
    unfold State.calReady
    rw [if_neg (by decide), hall, decide_eq_true hcurrent, hs]
    rfl
  obtain ⟨htwin, hgranted⟩ := hserved hready
  exact ⟨_, rfl, hgranted, linksAside_trans htwin.1 (linksAside_calBegun hu 2)⟩

theorem execStvCalLnk_refused_claim (l : Link) (s : State) : Claims.stvCalLnkRefused l s := by
  intro h hcause
  obtain ⟨u, hu, -, hserved⟩ := stvCal_served h (v := 2) (.inr rfl)
  have hnot : s.calReady (2 : Word).toNat = false := by
    unfold State.calReady
    rw [if_neg (by decide)]
    rcases hcause with h | h | h
    · have hall : (List.range 2).all (fun m => bit (s.get F.PRT_STAT_COIL) m && bit (s.get F.PRT_STAT_AUX) m) = false := by
        rw [← Bool.not_eq_true, List.all_eq_true]
        intro hall
        obtain ⟨m, hm, hopen⟩ := List.any_eq_true.mp h
        have hboth := hall m hm
        rw [Bool.and_eq_true] at hboth
        rw [hboth.1, hboth.2] at hopen
        exact absurd hopen (by decide)
      rw [hall]
      rfl
    · rw [decide_eq_false (by omega)]
      simp
    · rw [h]
      exact Bool.and_false _
  obtain ⟨htwin, hrefused⟩ := hserved hnot
  exact ⟨_, rfl, hrefused, linksAside_trans htwin.1 hu.1⟩

theorem storeGains_stored (s : State) (gStr gLnk : Int) : (s.storeGains gStr gLnk).cur = { s.cur with gStr := gStr, gLnk := gLnk } ∧
    (s.storeGains gStr gLnk).on F.STV_IFLAG_CALDONE = true ∧ ∃ e ∈ (s.storeGains gStr gLnk).journal, e.old = [.saved s.saved] := by
  have himage := fun u : State => altersOf (alters_newImage u)
  unfold State.storeGains
  dsimp only
  rw [State.flag_cur, State.flag_journal, (himage _).cur (by decide +kernel), (himage _).journal (by decide +kernel),
    (altersOf (alters_journalWrite _ _)).cur (by decide +kernel)]
  exact ⟨rfl, State.on_flag_okay (by decide) _, mem_journalWrite _ _⟩

theorem execStvCalClear_claim (l : Link) (s : State) : Claims.stvCalClear l s := by
  intro h
  obtain ⟨u, hu, htwin, -, hgranted⟩ := hostWrite_full h 0x09 0xE0 3 rfl rfl rfl (.inl rfl)
  have hwrite : u.command l 0x09 0xE0 3 = (u.storeGains 0 0, none) := rfl
  obtain ⟨hcur, hdone, hjournal⟩ := storeGains_stored u 0 0
  rw [hwrite] at htwin hgranted
  dsimp only at htwin hgranted
  rw [saved_of_twin hu] at hjournal
  refine ⟨_, rfl, hgranted rfl, ?_, ?_, ?_, ?_⟩
  · rw [cur_of_aside htwin.1, hcur]
  · rw [cur_of_aside htwin.1, hcur]
  · rw [on_of_linksAside htwin.1]
    exact hdone
  · rw [journal_of_aside htwin.1]
    exact hjournal

/-- The run is over. -/
def State.calOver (s : State) : State := { s with cur := { s.cur with cal := none } }

theorem execStvCalDone_eq {s : State} {c : CalRun} (h : s.cur.cal = some c) (hover : c.failed = true ∨ 256 ≤ c.frames) :
    exec .stvCalDone s = .next (if c.failed = false ∧ c.sumRaw ≠ 0 ∧
        absInt (roundRat (((c.sumRef : Rat) / (c.sumRaw : Rat) - 1) * 10000000)) ≤ 200000 then
      (if c.cmd = 1 then s.calOver.storeGains (roundRat (((c.sumRef : Rat) / (c.sumRaw : Rat) - 1) * 10000000)) s.cur.gLnk
        else s.calOver.storeGains s.cur.gStr (roundRat (((c.sumRef : Rat) / (c.sumRaw : Rat) - 1) * 10000000)))
      else s.calOver.flag F.STV_IFLAG_CALFAIL) := by
  show execStvCalDone s = _
  unfold execStvCalDone
  rw [h]
  dsimp only
  by_cases hf : c.failed = true
  · rw [if_pos hf, if_neg (fun hc => absurd (hf.symm.trans hc.1) (by decide))]
    rfl
  · rw [if_neg hf, if_neg (by have := hover.resolve_left hf; omega)]
    by_cases hraw : c.sumRaw = 0
    · rw [if_pos hraw, if_neg (fun hc => hc.2.1 hraw)]
      rfl
    · rw [if_neg hraw]
      by_cases hg : absInt (roundRat (((c.sumRef : Rat) / (c.sumRaw : Rat) - 1) * 10000000)) ≤ 200000
      · have hgood : c.failed = false ∧ c.sumRaw ≠ 0 ∧ absInt (roundRat (((c.sumRef : Rat) / (c.sumRaw : Rat) - 1) * 10000000)) ≤ 200000 :=
          ⟨(Bool.not_eq_true _).mp hf, hraw, hg⟩
        rw [if_pos hg, if_pos hgood]
        rfl
      · rw [if_neg hg, if_neg (fun hc => hg hc.2.2)]
        rfl

theorem execStvCalDone_claim (c : CalRun) (s : State) : Claims.stvCalDone c s := by
  intro hc hover
  have hexec := execStvCalDone_eq hc hover
  generalize roundRat (((c.sumRef : Rat) / (c.sumRaw : Rat) - 1) * 10000000) = g at hexec ⊢
  dsimp only
  by_cases hgood : c.failed = false ∧ c.sumRaw ≠ 0 ∧ absInt g ≤ 200000
  · rw [if_pos hgood] at hexec
    simp only [if_pos hgood]
    by_cases hcmd : c.cmd = 1
    · rw [if_pos hcmd] at hexec
      obtain ⟨hcur, hdone, hjournal⟩ := storeGains_stored s.calOver g s.cur.gLnk
      exact ⟨_, hexec, by rw [hcur]; rfl, hdone, by rw [hcur, if_pos hcmd], by rw [hcur, if_pos hcmd], hjournal⟩
    · rw [if_neg hcmd] at hexec
      obtain ⟨hcur, hdone, hjournal⟩ := storeGains_stored s.calOver s.cur.gStr g
      exact ⟨_, hexec, by rw [hcur]; rfl, hdone, by rw [hcur, if_neg hcmd], by rw [hcur, if_neg hcmd], hjournal⟩
  · rw [if_neg hgood] at hexec
    simp only [if_neg hgood]
    refine ⟨_, hexec, ?_, State.on_flag_okay (by decide) _, ?_, ?_, ?_⟩
    · rw [State.flag_cur]
      rfl
    · rw [State.flag_cur]
      rfl
    · rw [State.flag_cur]
      rfl
    · rw [State.flag_journal]
      rfl

end Sys2Proof.Machine

/-- Settles O24: a zeroing and a calibration save by a journaled write, which stands in the journal with what was saved before. -/
theorem currentAndVoltage : Obligations.CurrentAndVoltage := by
  unfold Obligations.CurrentAndVoltage
  exact ⟨Sys2Proof.Machine.execCurrentSuspect_claim, Sys2Proof.Machine.execCurrentAgreed_claim, Sys2Proof.Machine.execCurZero_claim,
    Sys2Proof.Machine.execCurZero_refused_claim, Sys2Proof.Machine.execZeroAutoStart_claim, Sys2Proof.Machine.execZeroingDone_claim,
    Sys2Proof.Machine.execStvCalStr_claim, Sys2Proof.Machine.execStvCalStr_refused_claim, Sys2Proof.Machine.execStvCalLnk_claim,
    Sys2Proof.Machine.execStvCalLnk_refused_claim, Sys2Proof.Machine.execStvCalClear_claim, Sys2Proof.Machine.execStvCalDone_claim⟩

end

section
/-! SUPPORT. The words of the leases under grants, requests and releases (R295). -/
set_option Elab.async false
namespace Sys2Proof.Machine
open Host

/-- The fields of the lease words. -/
def leaseFields : List Fld := [F.FLT_LEASE_HOLDER, F.FLT_LEASE_STATE, F.FLT_LEASE_LEFT]

theorem leaseField_okay : ∀ f ∈ leaseFields, ∀ i < 8, (f.at i).okay = true := by decide

theorem leaseField_leaves : ∀ f ∈ leaseFields, ∀ g ∈ leaseFields, ∀ i < 8, ∀ j < 8, i = j ∧ f = g ∨ (f.at i).leaves (g.at j) = true := by
  decide +kernel

/-- A slot as its word and what is kept beside it say. -/
structure SlotSame (i : Nat) (s t : State) : Prop where
  state : t.leaseState i = s.leaseState i
  holder : t.leaseHolder i = s.leaseHolder i
  lease : t.lease i = s.lease i

theorem SlotSame.refl (i : Nat) (s : State) : SlotSame i s s := ⟨rfl, rfl, rfl⟩

theorem SlotSame.trans {i : Nat} {s t u : State} (h : SlotSame i s t) (h' : SlotSame i t u) : SlotSame i s u :=
  ⟨h'.state.trans h.state, h'.holder.trans h.holder, h'.lease.trans h.lease⟩

theorem slotSame_of_alters {m i : Nat} {s t : State} (h : Alters m s t) (hw : m.testBit (wordBit (F.FLT_LEASE_STATE.at i).addr) = false)
    (hl : t.flt.leases = s.flt.leases) : SlotSame i s t := by
  refine ⟨h.get _ hw, h.get _ hw, ?_⟩
  unfold State.lease
  rw [hl]

theorem lease_onLease (s : State) (i j : Nat) (f : LeaseSt → LeaseSt) :
    (s.onLease i f).lease j = if i = j ∧ j < s.flt.leases.length then f (s.lease j) else s.lease j := by
  unfold State.lease State.onLease
  simp only [List.getElem?_modify]
  by_cases h : i = j
  · subst h
    cases hx : s.flt.leases[i]? with
    | none => simp [List.getElem?_eq_none_iff.mp hx]
    | some x => simp [(List.getElem?_eq_some_iff.mp hx).1]
  · simp [h]

theorem lease_set (s : State) (f : Fld) (v i : Nat) : (s.set f v).lease i = s.lease i := by
  unfold State.lease
  rw [State.set_flt]

/-- The words of slot `i` written with a holder, a state and the time left. -/
def State.writeSlot (s : State) (i holder state left : Nat) : State :=
  ((s.set (F.FLT_LEASE_HOLDER.at i) holder).set (F.FLT_LEASE_STATE.at i) state).set (F.FLT_LEASE_LEFT.at i) left

theorem writeSlot_lease (s : State) (i holder state left j : Nat) : (s.writeSlot i holder state left).lease j = s.lease j := by
  unfold State.writeSlot
  rw [lease_set, lease_set, lease_set]

theorem writeSlot_self {i holder state : Nat} (hi : i < 8) (hh : holder < 16) (hs : state < 4) (s : State) (left : Nat) :
    (s.writeSlot i holder state left).leaseState i = state ∧ (s.writeSlot i holder state left).leaseHolder i = holder := by
  have hl := fun f hf g hg => leaseField_leaves f hf g hg i hi i hi
  unfold State.leaseState State.leaseHolder State.writeSlot
  rw [State.get_set_leaves ((hl F.FLT_LEASE_LEFT (by decide) F.FLT_LEASE_STATE (by decide)).resolve_left (fun hc => absurd hc.2 (by decide))),
    State.get_set_leaves ((hl F.FLT_LEASE_LEFT (by decide) F.FLT_LEASE_HOLDER (by decide)).resolve_left (fun hc => absurd hc.2 (by decide))),
    State.get_set_leaves ((hl F.FLT_LEASE_STATE (by decide) F.FLT_LEASE_HOLDER (by decide)).resolve_left (fun hc => absurd hc.2 (by decide))),
    State.get_set_lt (leaseField_okay F.FLT_LEASE_STATE (by decide) i hi) hs,
    State.get_set_lt (leaseField_okay F.FLT_LEASE_HOLDER (by decide) i hi) hh]
  exact ⟨rfl, rfl⟩

theorem writeSlot_other {i j : Nat} (hi : i < 8) (hj : j < 8) (h : i ≠ j) (s : State) (holder state left : Nat) :
    SlotSame j s (s.writeSlot i holder state left) := by
  have hl := fun f hf g hg => (leaseField_leaves f hf g hg i hi j hj).resolve_left (fun hc => h hc.1)
  refine ⟨?_, ?_, writeSlot_lease ..⟩
  · unfold State.leaseState State.writeSlot
    rw [State.get_set_leaves (hl F.FLT_LEASE_LEFT (by decide) F.FLT_LEASE_STATE (by decide)),
      State.get_set_leaves (hl F.FLT_LEASE_STATE (by decide) F.FLT_LEASE_STATE (by decide)),
      State.get_set_leaves (hl F.FLT_LEASE_HOLDER (by decide) F.FLT_LEASE_STATE (by decide))]
  · unfold State.leaseHolder State.writeSlot
    rw [State.get_set_leaves (hl F.FLT_LEASE_LEFT (by decide) F.FLT_LEASE_HOLDER (by decide)),
      State.get_set_leaves (hl F.FLT_LEASE_STATE (by decide) F.FLT_LEASE_HOLDER (by decide)),
      State.get_set_leaves (hl F.FLT_LEASE_HOLDER (by decide) F.FLT_LEASE_HOLDER (by decide))]

theorem leaseState_onLease (s : State) (i j : Nat) (f : LeaseSt → LeaseSt) : (s.onLease i f).leaseState j = s.leaseState j := rfl
theorem leaseHolder_onLease (s : State) (i j : Nat) (f : LeaseSt → LeaseSt) : (s.onLease i f).leaseHolder j = s.leaseHolder j := rfl

theorem onLease_other {i j : Nat} (h : i ≠ j) (s : State) (f : LeaseSt → LeaseSt) : SlotSame j s (s.onLease i f) :=
  ⟨rfl, rfl, by rw [lease_onLease, if_neg (fun hc => h hc.1)]⟩

/-! ### A grant -/

theorem grantLease_eq (s : State) (i party : Nat) : s.grantLease i party =
    (s.writeSlot i party (s.grantState party) 500).onLease i fun l => { l with renewed := s.now } := rfl

theorem grantLease_self {i party : Nat} (hi : i < 8) (hp : party < 16) (s : State) :
    (s.grantLease i party).leaseState i = s.grantState party ∧ (s.grantLease i party).leaseHolder i = party := by
  have hlt : s.grantState party < 4 := by
    unfold State.grantState
    split <;> decide
  rw [grantLease_eq, leaseState_onLease, leaseHolder_onLease]
  exact writeSlot_self hi hp hlt s 500

theorem grantLease_other {i j : Nat} (hi : i < 8) (hj : j < 8) (h : i ≠ j) (s : State) (party : Nat) : SlotSame j s (s.grantLease i party) := by
  rw [grantLease_eq]
  exact (writeSlot_other hi hj h s party _ 500).trans (onLease_other h _ _)

/-! ### A request -/

theorem acquireLease_free {i party : Nat} (hi : i < 8) {s : State} (h : s.leaseState i = 0) : s.acquireLease i party = s.grantLease i party := by
  unfold State.acquireLease
  rw [if_neg (by omega), if_pos h]

theorem acquireLease_own {i party : Nat} (hi : i < 8) {s : State} (h : s.leaseState i = 1) (hp : s.leaseHolder i = party) :
    s.acquireLease i party = s.onLease i fun l => { l with renewed := s.now } := by
  unfold State.acquireLease
  rw [if_neg (by omega), if_neg (by omega), if_pos ⟨hp, h⟩]

theorem acquireLease_other {i j : Nat} (hj : j < 8) (h : i ≠ j) (s : State) (party : Nat) : SlotSame j s (s.acquireLease i party) := by
  unfold State.acquireLease
  split
  · exact .refl j s
  · split
    · exact grantLease_other (by omega) hj h s party
    · split
      · exact onLease_other h s _
      · split
        · exact .refl j s
        · exact onLease_other h s _

/-- A party that asks for a free slot, or for its own, holds it. -/
theorem acquireLease_held {i party : Nat} (hi : i < 8) (hp : party < 16) {s : State} (hg : s.grantState party = 1)
    (h : s.leaseState i = 0 ∨ (s.leaseState i = 1 ∧ s.leaseHolder i = party)) :
    (s.acquireLease i party).leaseState i = 1 ∧ (s.acquireLease i party).leaseHolder i = party := by
  rcases h with h | ⟨h, hh⟩
  · rw [acquireLease_free hi h]
    obtain ⟨h1, h2⟩ := grantLease_self hi hp s
    exact ⟨h1.trans hg, h2⟩
  · rw [acquireLease_own hi h hh]
    exact ⟨h, hh⟩

/-! ### A release -/

/-- The word of a slot is cleared. -/
theorem releaseLease_eq (s : State) (i : Nat) : s.releaseLease i = match (s.lease i).queue with
    | [] => s.writeSlot i 0 0 0
    | p :: rest => ((s.writeSlot i 0 0 0).onLease i fun l => { l with queue := rest }).grantLease i p := by
  have hlease := writeSlot_lease s i 0 0 0 i
  show (match ((s.writeSlot i 0 0 0).lease i).queue with
    | [] => s.writeSlot i 0 0 0
    | p :: rest => ((s.writeSlot i 0 0 0).onLease i fun l => { l with queue := rest }).grantLease i p) = _
  rw [hlease]

theorem releaseLease_free {i : Nat} (hi : i < 8) {s : State} (h : (s.lease i).queue = []) : (s.releaseLease i).leaseState i = 0 := by
  rw [releaseLease_eq, h]
  exact (writeSlot_self hi (by decide) (by decide) s 0).1

theorem releaseLease_other {i j : Nat} (hi : i < 8) (hj : j < 8) (h : i ≠ j) (s : State) : SlotSame j s (s.releaseLease i) := by
  have hword := writeSlot_other hi hj h s 0 0 0
  rw [releaseLease_eq]
  split
  · exact hword
  · exact (hword.trans (onLease_other h _ _)).trans (grantLease_other hi hj h _ _)

theorem withSlot_other {i j : Nat} (hi : i < 8) (hj : j < 8) (h : i ≠ j) (s : State) (party : Nat) {f : State → State}
    (hf : SlotSame j s (f s)) : SlotSame j s (s.withSlot i party f) := by
  unfold State.withSlot
  split
  · exact hf.trans (releaseLease_other hi hj h _)
  · split
    · exact hf
    · exact acquireLease_other hj h s party

/-- A new image leaves the slots but that of the ring token. -/
theorem newImage_slot {j : Nat} (hj : j < 8) (h : j ≠ 6) (s : State) : SlotSame j s s.newImage := by
  have hring : ∀ (u : State) (f : RingSt → RingSt), SlotSame j u (u.onRing f) := fun _ _ => ⟨rfl, rfl, rfl⟩
  have hshown : ∀ u : State, SlotSame j u (u.setOn F.KRG_STAT_MIRROK false) := fun u => by
    refine slotSame_of_alters (alters_setOn (m := setMask F.KRG_STAT_MIRROK) (sub_refl _) (alters_refl _ u)) ?_ ?_
    · interval_cases j <;> decide +kernel
    · rw [State.setOn_flt]
  have hsend : ∀ u : State, SlotSame j u u.sendImage := fun u => by
    unfold State.sendImage
    split
    · dsimp only
      split
      · exact hring u _
      · exact (hring u _).trans (withSlot_other (by decide) hj h.symm _ _ (hring _ _))
    · exact .refl j u
  unfold State.newImage
  exact ((hring s _).trans (hshown _)).trans (hsend _)

end Sys2Proof.Machine
end
